-- ==== Sys2Proof/Word.lean ====
section
/-! DEFINITION. The word types of the block: a byte of a buffer, of memory or of a frame. Fields that the spec adds,
counts or compares are natural numbers or integers; what it treats as a byte string is a list of bytes. -/
namespace Sys2Proof

/-- One byte of station memory, of a host structure, of a BLOB or of a frame (R9, R10). -/
abbrev Byte := BitVec 8

/-- A byte string in transmission or address order. -/
abbrev Bytes := List Byte

end Sys2Proof
end

