-- ==== Sys2Proof/Machine/ObjectTypes.lean ====
section
/-! DEFINITION. The shape of the object dictionary: types, accesses, levels and rows (R4 to R7, R451 to R460). -/
namespace Sys2Proof.Machine

/-- Object types of R454. -/
inductive OType where
  | bool | u8 | u16 | u32 | u64 | i8 | i16 | i32 | i64 | f32 | str | blob | domain
deriving DecidableEq, Repr

/-- Accesses of an object (R465). -/
inductive Acc where
  | ro | rw | wo | rwc
deriving DecidableEq, Repr

/-- Levels of R456, from lowest to highest; `none` is a path without a grant. -/
inductive Level where
  | none | basic | expert | secure
deriving DecidableEq, Repr

/-- The place of one value: area, object number, subindex, and the tenant instance (512 for an object without
tenant instances) (R4, R7). -/
structure OKey where
  area : Nat
  idx : Nat
  sub : Nat
  ten : Nat
deriving DecidableEq, Repr

/-- One row of an object table. `cnt` consecutive indices and `nsub` consecutive subindices share it; `dflts` holds
one default, or one for each instance; `rng` lists the ranges with their multiples. -/
structure ObjRow where
  name : String
  station : Bool
  area : Nat
  idx : Nat
  cnt : Nat
  sub : Nat
  nsub : Nat
  ty : OType
  acc : Acc
  lev : Level
  dflts : List Int
  rng : List (Int × Int × Nat)
  ten : Bool
  saved : Bool
  result : Bool
deriving DecidableEq, Repr

/-- The key of an instance: station `n` (ignored outside the station areas), index offset `i`, tenant `t` (ignored
without @T), subindex offset `j`. -/
def ObjRow.key (r : ObjRow) (n i t j : Nat) : OKey :=
  ⟨if r.station then 8 + n else r.area, r.idx + i, r.sub + j, if r.ten then t else 512⟩

/-- The default of an instance. -/
def ObjRow.dflt (r : ObjRow) (i j : Nat) : Int :=
  match r.dflts with
  | [d] => d
  | l => l.getD (if r.nsub > 1 then j else i) 0

/-- The number of a level, for comparison (R456). -/
def Level.rank : Level → Nat
  | .none => 0
  | .basic => 1
  | .expert => 2
  | .secure => 3

/-- The size in bytes of a value of a numeric type (R454); none for strings and streams. -/
def OType.size : OType → Option Nat
  | .bool | .u8 | .i8 => some 1
  | .u16 | .i16 => some 2
  | .u32 | .i32 | .f32 => some 4
  | .u64 | .i64 => some 8
  | .str | .blob | .domain => none

/-- Whether the type is two's complement (R454). -/
def OType.isSigned : OType → Bool
  | .i8 | .i16 | .i32 | .i64 => true
  | .bool | .u8 | .u16 | .u32 | .u64 | .f32 | .str | .blob | .domain => false

/-- The block of the area an object stands in: the first hex digit of its number (R4). -/
def OKey.block (k : OKey) : Nat := k.idx / 4096

/-- Whether the object stands in the expert range of its block (R4). -/
def OKey.expertRange (k : OKey) : Bool := 0x800 ≤ k.idx % 4096

/-- Whether a value lies in a row's range (R454). -/
def ObjRow.inRange (r : ObjRow) (v : Int) : Bool :=
  r.rng.any fun (lo, hi, m) => lo ≤ v && v ≤ hi && (m ≤ 1 || v % (m : Int) == 0)

end Sys2Proof.Machine
end

