-- ==== Sys2Proof/Machine/Types.lean ====
section
/-! DEFINITION. Data types that commands, states and answers share: keyed maps, requesters and holders, the blocks of a
lock cycle, queue items and their records, alarms, and what leaves the block. -/
namespace Sys2Proof.Machine

/-- A keyed store as plain data: at most one entry for each key is read, the first one. -/
abbrev FMap (κ α : Type) := List (κ × α)

/-- The value a store holds for a key, if any. -/
def FMap.find {κ α : Type} [DecidableEq κ] : FMap κ α → κ → Option α
  | [], _ => none
  | (k, v) :: rest, q => if k = q then some v else FMap.find rest q

/-- The value a store holds for a key, or the default. -/
def FMap.getD {κ α : Type} [DecidableEq κ] (m : FMap κ α) (k : κ) (d : α) : α := (m.find k).getD d

/-- The store with the value of one key replaced. -/
def FMap.put {κ α : Type} [DecidableEq κ] : FMap κ α → κ → α → FMap κ α
  | [], q, v => [(q, v)]
  | (k, w) :: rest, q, v => if k = q then (k, v) :: rest else (k, w) :: FMap.put rest q v

/-- The store without the entries of one key. -/
def FMap.del {κ α : Type} [DecidableEq κ] (m : FMap κ α) (q : κ) : FMap κ α := m.filter fun e => e.1 ≠ q

/-- Who sends a request (R456): a tenant through its mailbox or page, host software at a port's host mailbox, a BDA
peer by its record number, an enclave by call, and the secure firmware. -/
inductive Requester where
  | tenant (t : Fin 512)
  | host (port : Fin 2)
  | peer (number : Nat)
  | enclave (e : Fin 64)
  | secure
deriving DecidableEq, Repr

/-- How a commit or a trigger arrives: by a dictionary request, or by a field of a doorbell page of a port (R122, R163, R275). -/
inductive Via where
  | dict (who : Requester)
  | page (port : Fin 2) (t : Fin 512)
deriving DecidableEq, Repr

/-- Who holds a block or a set: a slice, an enclave, or the manager where neither does (R358, R402, R656); a zone can
be held by nobody. -/
inductive Holder where
  | tenant (t : Nat)
  | enclave (e : Nat)
  | manager
  | nobody
deriving DecidableEq, Repr

/-- The four kinds of block of a lock cycle, with the codes of R615. -/
inductive BlockKind where
  | layer | region | zone | source
deriving DecidableEq, Repr

/-- The code of a kind in BLOCK_LOCKED, BLOCK_RETURNED and BLOCK_RESET (R615). -/
def BlockKind.code : BlockKind → Nat
  | .layer => 0
  | .region => 1
  | .zone => 2
  | .source => 3

/-- A block of a station. -/
structure Block where
  station : Nat
  kind : BlockKind
  n : Nat
deriving DecidableEq, Repr

/-- Lock states of R402. -/
inductive LockState where
  | normal | locking | locked | secure | returning
deriving DecidableEq, Repr

/-- The lock record of a block: its state, the enclave of the cycle, and the direction of its next ready step. -/
structure Lock where
  st : LockState := .normal
  enclave : Nat := 0
  towardsEnclave : Bool := true
deriving DecidableEq, Repr

/-- A notification or log record of R614; `fields` are (value, width) from bit 159 downward. -/
structure Rec where
  time : Nat
  code : Nat
  prio : Nat
  station : Nat
  tenant : Nat
  fields : List (Nat × Nat)
deriving DecidableEq, Repr

/-- A touch record of R247. -/
structure TouchRec where
  time : Nat
  seq : Nat
  amplitude : Nat
  x : Nat
  y : Nat
  id : Nat
  areaNodes : Nat
  kind : Nat
  cls : Nat
  prio : Nat
  zone : Nat
  station : Nat
  detail : Nat
  frame : Nat
deriving DecidableEq, Repr

/-- A trigger in a station's haptic queue (R275, R276, R278, R279). -/
structure Trigger where
  owner : Holder
  time : Nat
  prio : Nat
  gain : Nat
  repeats : Nat
  stream : Bool
  effect : Nat
deriving DecidableEq, Repr

/-- An alarm record of R516. -/
structure Alarm where
  path : Nat
  code : Nat
  severity : Nat
  station : Nat
  st : Nat
  count : Nat
  time : Nat
  detail : Nat
  seq : Nat
deriving DecidableEq, Repr

/-- A merge window of R517: equal records that arrive within it are merged into one further record. -/
structure MergeWindow where
  path : Nat
  code : Nat
  station : Nat
  st : Nat
  /-- Device time at which the window opened. -/
  since : Nat
  merged : Option Alarm := none
deriving DecidableEq, Repr

/-- Delays that the spec gives and a command ends: what each is counted from is kept in `State.timers`. -/
inductive Timer where
  /-- `LINK_RETRY_INTERVAL` after a failed AUX read, and in LINK_FAIL (R211). -/
  | auxRetry (station : Nat)
  | linkRetry (station : Nat)
  /-- The delays of an eDP panel (R217). -/
  | panel (station : Nat)
  | backlight (station : Nat)
  /-- 1 s in HALTED (R254). -/
  | touchHalt (station : Nat)
  /-- 1 ms since the haptic driver entered IDLE (R288). -/
  | bootstrap (station : Nat)
  /-- The last ANNOUNCE and the last heartbeats sent (R511, R519). -/
  | announce
  | heartbeat
  /-- The end of the last step of a release (R562). -/
  | release
deriving DecidableEq, Repr

/-- An event queue of R606 to R613: the draining and the filling bank with the ages of their items, and the age the
next arriving item takes. The lost-item counter is an object of R616. -/
structure EvQueue (α : Type) where
  drain : List (Nat × α) := []
  fill : List (Nat × α) := []
  nextAge : Nat := 0
deriving DecidableEq, Repr

/-- What the DPCD and EDID of a sink report (R193, R211). -/
structure SinkInfo where
  edid : Bytes
  /-- As `SINK_CAPS` (R218). -/
  caps : Nat
  vrrMin : Nat
  /-- Rate codes and lanes of the configurations reported (R193 to R195). -/
  configs : List (Nat × Nat)
deriving DecidableEq, Repr

/-- Instructions of the JTAG port (R412, R414): IDCODE, BYPASS, those of boundary scan, debug of the cores that level 2 opens, debug of the
secure cores, and any other. -/
inductive JtagInstr where
  | idcode | bypass | boundary | systemDebug | secureDebug | other
deriving DecidableEq, Repr

/-- The source address of a BDA peer (R506): the MAC address, the IPv4 address and UDP port, the bus and node of a short-form frame
(R502), or none where the frame was relayed. -/
inductive PeerSource where
  | mac (a : Nat)
  | udp (ip port : Nat)
  | can (bus node : Nat)
  | relayed
deriving DecidableEq, Repr

/-- A peer: its source address together with SRC_PATH (R506). -/
structure PeerId where
  source : PeerSource
  path : Nat
deriving DecidableEq, Repr

/-- What a fuse image holds besides the trims (R497, R562, R570, R576, R550). -/
structure FuseImage where
  ordering : Bytes
  serial : Nat
  identity : Bytes
  domainGap : Nat
  stationGap : Nat
  /-- The digest of the fuse configuration (R385). -/
  digest : Bytes
deriving DecidableEq, Repr

/-- The latest complete record of a group in the settings region: its schema version, its values, and whether its check value
is good (R488, R489, R491). -/
structure GroupRec where
  schema : Nat
  seq : Nat
  good : Bool := true
  vals : List (OKey × Int)
  blobs : List (OKey × Bytes)
deriving DecidableEq, Repr

/-- What a gPTP frame brings (R515): a valid Sync with the offset and rate it gives, the choice of this device as the best master, or a
message that changes neither. -/
inductive PtpMessage where
  | sync (offset ppb : Int)
  | master
  | other
deriving DecidableEq, Repr

/-- A BDA frame as it arrives: header, body and tag (R503), or a short-form frame with its identifier and data field (R502). -/
inductive BdaFrame where
  | wide (data : Bytes)
  | short (id : Nat) (data : Bytes)
deriving DecidableEq, Repr

/-- Where a frame that a manager relays comes from (R512). -/
inductive RelayFrom where
  | member (a : Nat)
  | manager
  | external (p : PeerSource)
deriving DecidableEq, Repr

/-- A write of a binding object of a slice: the five of R356, the rights and masks of R359 by station (0 RIGHTS, then the masks of
layers, regions, zones and sources), and a window (R361). -/
inductive BindWrite where
  | enable (v : Bool)
  | port (v : Nat)
  | pasid (v : Nat)
  | cls (v : Nat)
  | stations (v : Nat)
  | rights (n which v : Nat)
  | window (n w v : Nat)
deriving DecidableEq, Repr

/-- What a write brings with it from outside, beside its data, for the objects whose writes need it (assumption 3): the grant key that a
`GRANT_REQUEST` is checked with, the serial number of the manager that adopts, and the components whose fuse program fails at a COMMIT. -/
structure WriteEnv where
  pub : Bytes := []
  serial : Nat := 0
  fails : List Nat := []
deriving DecidableEq, Repr

/-- A mailbox as a page reaches it: that of a tenant on a port, or the host's own (R372). -/
inductive MbPath where
  | tenant (port : Fin 2) (t : Fin 512)
  | host (port : Fin 2)
deriving DecidableEq, Repr

/-- What an enclave's call is answered (R401): done with its data, a refusal, or the status of a dictionary access or of a commit. -/
inductive CallResult where
  | done (data : Bytes)
  | noGrant | busy | held | noRight | empty
  | status (code detail : Nat) (data : Bytes)
deriving DecidableEq, Repr

/-- An item on its way to an event queue (R606): a notification or a touch record for a tenant or an enclave, a record for a station's log
queue or the headworks', an alarm, or a trigger. -/
inductive QueueItem where
  | tenantNote (t : Fin 512) (r : Rec)
  | tenantTouch (t : Fin 512) (r : TouchRec)
  | enclaveNote (e : Fin 64) (r : Rec)
  | enclaveTouch (e : Fin 64) (r : TouchRec)
  | stationLog (n : Fin 8) (r : Rec)
  | hwLog (r : Rec)
  | alarm (a : Alarm)
  | haptic (n : Fin 8) (t : Trigger)
deriving DecidableEq, Repr

/-- The raw counts of one pair of a reference capture: nodes TX-major, self channels TX then RX, and the listening step by RX channel
(R222, R243). -/
structure CapturePair where
  nodes : List Nat
  self : List Nat
  noise : List Int
deriving DecidableEq, Repr

/-- A memory of what leaves the block, in order. -/
inductive Emission where
  /-- A write to host memory under a slice's PASID (R10, R365, R370). -/
  | hostWrite (port pasid addr : Nat) (data : Bytes)
  /-- A read request to host memory (R366, R368). -/
  | hostRead (port pasid addr len : Nat)
  /-- An MSI-X message of a port (R371). -/
  | msix (port vector : Nat)
  /-- A pin of the device or of a station driven to a level. -/
  | pin (name : String) (station : Nat) (level : Bool)
  /-- One line of pixels on a station's link: line number and 30-bit pixels (R187, R146). -/
  | line (station frame n : Nat) (pixels : List Nat)
  /-- What one line adds to the compressed stream of a station's link (R196). -/
  | dscLine (station frame n : Nat) (data : Bytes)
  /-- A secondary-data packet on a station's link: the last-frame mark in the VSC SDP, or the PPS (R196, R206). -/
  | sdp (station : Nat) (name : String) (data : Bytes)
  /-- One audio frame on a station's TDM port: the FSYNC delay and BCLK edge in force, and the four slots as 32-bit words, sent most
  significant bit first (R296). -/
  | tdm (station fsyncDelay bclkEdge : Nat) (slots : List Nat)
  /-- The drive of a coil after a sense sample: the duties of half-bridges A and B in 1/1,024, and the dead time in ns (R268, R269). -/
  | coil (station dutyA dutyB deadNs : Nat)
  /-- A frame sent on an Ethernet port (R500). -/
  | ethFrame (port : Nat) (data : Bytes)
  /-- A BDA frame handed to its transport for a peer (R503, R507). -/
  | bdaFrame (peer : PeerId) (data : Bytes)
  /-- A frame relayed to a member's link, to the manager's own manager (64), or to an external peer by its number plus 128 (R512). -/
  | relayed (target : Nat) (data : Bytes)
  /-- A message of the hierarchy: HEARTBEAT to a member, its answer, ANNOUNCE with serial and identity (R511, R519). -/
  | hierarchy (name : String) (target : Nat) (data : Bytes)
  /-- An answer of the dictionary to a request: status, detail, auxiliary word and data (R461, R504). -/
  | answer (status detail aux : Nat) (data : Bytes)
  /-- A memory command of a station's channel: an all-bank refresh, a retraining, a save or a restore. -/
  | memCmd (station : Nat) (name : String)
  /-- An alarm sent to the manager and to the subscribers of 4.5000 (R517). -/
  | alarm (a : Alarm) (peers : List PeerId)
  /-- A symbolic link operation of a station's output: training, main link idle, AUX access (R195, R206). -/
  | link (station : Nat) (name : String)
  /-- A flash operation of the xSPI controller. -/
  | flash (name : String) (addr : Nat)
  /-- The answer to a call of an enclave (R401). -/
  | call (e : Nat) (r : CallResult)
  /-- What a JTAG instruction selects (R412). -/
  | jtag (selected : String)
deriving DecidableEq, Repr

/-- What holds a pin of the pin map (R573 to R575): nothing, a weak pull, a level driven, or the waveform of the pin's function. -/
inductive PinState where
  | hiZ | pullUp | pullDown | low | high | wave
deriving DecidableEq, Repr

/-- The states of a 3-bit entry (R575). -/
def PinState.ofCode : Nat → PinState
  | 0 => .hiZ
  | 1 => .pullUp
  | 2 => .pullDown
  | 3 => .low
  | 4 => .high
  | _ => .pullDown

/-- The pins of an entry of the pin map (R575). -/
def pinName : Nat → String
  | 0 => "HAP_GH"
  | 1 => "HAP_GL"
  | 2 => "HAP_EN"
  | 3 => "BL_EN"
  | 4 => "BL_PWM"
  | 5 => "PANEL_EN"
  | 6 => "TCH_RST_N"
  | 7 => "AMP_MUTE_N"
  | 8 => "GP"
  | 9 => "AUD"
  | 10 => "TX"
  | 11 => "RX"
  | 12 => "DP_AUX"
  | 13 => "CAN_TX"
  | 14 => "ETH_MD"
  | 15 => "ALARM_N"
  | 16 => "WAKE_N"
  | _ => "XSPI_CS_N"

/-- A fragment a core has shaded (R59, R60): the primitive of its unit by its place in the unit's list, pixel and sample in the tile, the
depth in the form of the depth attachment, which face it belongs to, and the colours by attachment; a discarded or demoted fragment takes
its place in the order and changes nothing. -/
structure Frag where
  prim : Nat
  x : Nat
  y : Nat
  sample : Nat
  depth : Nat := 0
  back : Bool := false
  colours : List (Nat × Bytes) := []
  discarded : Bool := false
deriving DecidableEq, Repr

/-- A primitive as the binner leaves it: the tiles it touches, and the bytes its list entries take in the bin buffer. -/
structure BinPrim where
  tiles : List (Nat × Nat) := []
  bytes : Nat := 0
deriving DecidableEq, Repr

/-- What a unit reports when it ends: the primitives of a batch in order, and the fragments of a tile or range in any order. -/
structure UnitResult where
  prims : List BinPrim := []
  frags : List Frag := []
deriving DecidableEq, Repr

/-- A face of the stencil state, in Vulkan 1.3 numbering. -/
structure StencilFace where
  failOp : Nat := 0
  passOp : Nat := 0
  depthFailOp : Nat := 0
  compareOp : Nat := 7
  compareMask : Nat := 255
  writeMask : Nat := 255
  reference : Nat := 0
deriving DecidableEq, Repr

/-- What the fixed-function block of a pipeline says, in Vulkan 1.3 numbering: topology, depth and stencil state, and the blend state of
each colour attachment, 0 where blending is off. -/
structure FixedFunction where
  topology : Nat := 3
  depthTest : Bool := false
  depthWrite : Bool := false
  depthOp : Nat := 7
  stencilTest : Bool := false
  front : StencilFace := {}
  back : StencilFace := {}
  blend : List Nat := []
deriving DecidableEq, Repr

/-- A stage entry of a pipeline record: its module, entry-point name and specialization data. -/
structure StageEntry where
  addr : Nat
  size : Nat
  name : Bytes := []
  specAddr : Nat := 0
  specSize : Nat := 0
deriving DecidableEq, Repr

/-- The pipeline record of a PIPELINE_LOAD. -/
structure PipelineRecord where
  handle : Nat
  stages : List StageEntry
  fixed : FixedFunction := {}
deriving DecidableEq, Repr

/-- A BIND_SET operand: set, binding table address, entry count (R48). -/
structure SetOperand where
  set : Nat
  addr : Nat
  count : Nat
deriving DecidableEq, Repr

/-- The dispatch record of a COMPUTE job (R48). -/
structure DispatchRecord where
  handle : Nat
  sets : List SetOperand := []
  push : Option (Nat × Nat) := none
  x : Nat
  y : Nat
  z : Nat
deriving DecidableEq, Repr

/-- What a pipeline uses of the limits of R52: descriptor sets; the most bindings of a set; sampled images and samplers, storage buffers and
storage images of a stage; push data; vertex input bindings and attributes; colour attachments; shared memory; the workgroup size. -/
structure PipelineUse where
  sets : Nat := 0
  bindings : Nat := 0
  sampled : Nat := 0
  buffers : Nat := 0
  images : Nat := 0
  push : Nat := 0
  vertexBindings : Nat := 0
  attributes : Nat := 0
  colours : Nat := 0
  shared : Nat := 0
  groupX : Nat := 1
  groupY : Nat := 1
  groupZ : Nat := 1
deriving DecidableEq, Repr

/-- What the translator finds in a pipeline's modules beyond what their words say directly: whether they are valid for the Vulkan 1.3 client
environment, whether 64-bit atomics act on anything but storage buffers, what they use of the limits, and what the translation needs. -/
structure TransResult where
  valid : Bool := true
  atomicsElsewhere : Bool := false
  uses : PipelineUse := {}
  sizeKib : Nat
  stateBytes : Nat
  sideEffects : Bool := false
deriving DecidableEq, Repr

/-- Who pays for a share of a sample: a job of a station, a tenant, an enclave, or the account of the domain (R423). -/
inductive Payer where
  | job (key : Nat)
  | tenant (t : Nat)
  | enclave (e : Nat)
  | base
deriving DecidableEq, Repr

/-- A 10 µs sample: voltage in mV and current in mA of domains 0 to 34 in the order of R450, and the weights by which the memory domains
are split: station, payer, bytes (R421, R423). -/
structure EnergySample where
  domains : List (Nat × Nat)
  memory : List (Nat × Payer × Nat)
deriving DecidableEq, Repr

/-- What the weir sees: the input in mW, the sum of the domains in mW, and the shader draw of each station in mW (R441). -/
structure WeirReading where
  input : Nat
  domains : Nat
  draws : List Nat
deriving DecidableEq, Repr

/-- Who reads station memory (R324, R341): the compositor for a layer, a reference load, a stream of a source, the haptic stream, a raster
job by its key, a context of one, a transfer by tenant and queue, and any other requester of a class. -/
inductive MemReader where
  | compositor (layer : Nat)
  | reference
  | audio (source : Nat)
  | haptic
  | job (key : Nat)
  | context (key : Nat)
  | transfer (tenant queue : Nat)
  | other (cls : Nat)
deriving DecidableEq, Repr

end Sys2Proof.Machine
end

