-- ==== Sys2Proof/Syntax.lean ====
section
/-! DEFINITION. The commands of the block: one constructor for each row of the spec's table of steps, in its order. An
operand carries what reaches the block from outside with the command: who sends it, what it names, and, for an event,
what was measured or returned (assumption 3). -/
namespace Sys2Proof
open Machine

/-- The commands. -/
inductive Instr where
  /-- R27: Loss of the always-on supply puts the device in OFF from any state. -/
  | vaonLost
  /-- R556: A filtered change of the PORST_N pin asserts or releases the COLD reset source. -/
  | porstNLevel (high : Bool)
  /-- R556: A filtered change of the RESET_N pin asserts or releases its reset source, WARM in SERVICE. -/
  | resetNLevel (high : Bool)
  /-- R556: A supply monitor trip or recovery asserts or releases the brown-out COLD source. -/
  | brownOut (vbulk vio18 vio33 : Nat)
  /-- R556: A junction sensor reaching 115 °C, or all sensors falling to 100 °C, asserts or releases the WARM thermal-trip source. -/
  | thermalTrip (sensors : List Int)
  /-- R583: No reference edge for 1 µs asserts the brown-out source until the reference runs 1 ms without a gap. -/
  | referenceLost (lost : Bool)
  /-- R557: The management watchdog expires and applies its source at the mapped reach. -/
  | mgmtWatchdogExpiry
  /-- R557: A station watchdog expires and applies a STATION reset of that station. -/
  | stationWatchdogExpiry (n : Fin 8)
  /-- R409: The secure watchdog expires and applies a SEC reset, or a WARM reset at the third expiry within 600 s. -/
  | secureWatchdogExpiry
  /-- R561: In the first cycle with no source asserted or held, release of the domains in reset begins in step order. -/
  | releaseBegin (strap : Bool)
  /-- R562: A counted domain or station gap ends and the next domain in reset is released. -/
  | releaseGapElapsed
  /-- R563: A release step reaches its ending event and the next gap starts. -/
  | releaseStepEnd
  /-- R572: A fuse image load attempt ends; the trims are used, the load is retried, or the safe trim set is taken after three failures. -/
  | trimLoadDone (image : Option FuseImage)
  /-- R386: The secure complex or boot ROM accepts or rejects the management images, leading to SERVICE, TEST or RECOVERY. -/
  | bootRomMgmtAcceptance (image : Option Bytes) (trial : Bool)
  /-- R567: A reset source held for an eFuse pulse or xSPI page program is applied with HELD set once the program ends. -/
  | heldResetApply
  /-- R569: The flash reports an erase suspended and the waiting reset source is applied. -/
  | eraseSuspendDone
  /-- R569: Once DICTIONARY is set the management firmware resumes a suspended flash erase. -/
  | eraseResume
  /-- R587: A headworks PLL loses lock; its domains' clocks are gated and the PLL is relocked. -/
  | hwPllLockLost (k : Fin 3)
  /-- R587: A headworks PLL regains lock and its clocks are released, or after three failures a WARM reset is applied. -/
  | hwPllRelocked (k : Fin 3) (ok : Bool)
  /-- R35: A write of 0 to DEVICE_REQUEST has no effect. -/
  | deviceRequestNone (who : Requester)
  /-- R28: A write of 4 sets the recovery flag and applies a MGMT reset into the recovery loader. -/
  | deviceRequestRecovery (who : Requester)
  /-- R28: A write of 5 in RECOVERY applies a MGMT reset with the recovery flag clear; in any other state it is refused. -/
  | deviceRequestLeaveRecovery (who : Requester)
  /-- R559: A RESET_REQUEST with REACH COLD is accepted for application 1 ms after the response. -/
  | resetRequestCold (who : Requester)
  /-- R559: A RESET_REQUEST with REACH WARM is accepted for application 1 ms after the response. -/
  | resetRequestWarm (who : Requester)
  /-- R559: A RESET_REQUEST with REACH MGMT is accepted for application 1 ms after the response. -/
  | resetRequestMgmt (who : Requester)
  /-- R559: A RESET_REQUEST with REACH SEC is accepted for application 1 ms after the response. -/
  | resetRequestSec (who : Requester)
  /-- R559: A RESET_REQUEST with REACH PORT and a port target is accepted for application 1 ms after the response. -/
  | resetRequestPort (who : Requester) (p : Fin 2)
  /-- R559: A RESET_REQUEST with REACH STATION and a station target is accepted for application 1 ms after the response. -/
  | resetRequestStation (who : Requester) (n : Fin 8)
  /-- R559: 1 ms after the response, the requested reset is applied as source 12. -/
  | resetRequestApply
  /-- R559: A write of 1 to STATION_RESET by the manager or a POWER holder applies a STATION reset. -/
  | stationReset (who : Requester) (n : Fin 8) (v : Bool)
  /-- R577: Setting or clearing FUNCTION_GATE bit 0 stops the touch engine to OFF or releases it, or is held while a zone is not NORMAL. -/
  | functionGateTouch (who : Requester) (n : Fin 8) (on : Bool)
  /-- R577: Setting or clearing FUNCTION_GATE bit 1 stops the haptic driver to OFF or releases it. -/
  | functionGateHaptic (who : Requester) (n : Fin 8) (on : Bool)
  /-- R577: Setting or clearing FUNCTION_GATE bit 2 stops the audio engine through STOPPING or releases it, or is held while a source is not NORMAL. -/
  | functionGateAudio (who : Requester) (n : Fin 8) (on : Bool)
  /-- R576: A write in TEST state programs unprogrammed source-map and pin-map entries, refusing fixed or already programmed ones. -/
  | fuseMapProgram (who : Requester) (data : Bytes)
  /-- R578: The settings loader finishes reading a released station's saved groups and safe store and applies R491. -/
  | settingsLoadStation
  /-- R579: Once DICTIONARY is set the management firmware loads the running STN image into waiting stations and extends M3. -/
  | stnImageLoad (digest : Bytes)
  /-- R29: A write of 0 to STATION_TARGET powers the station down to OFF, or is held as PENDING_OFF while a block is not NORMAL. -/
  | stationTargetOff (who : Requester) (n : Fin 8)
  /-- R29: A write of 2 to STATION_TARGET starts an OFF station or wakes a SLEEP station. -/
  | stationTargetRunning (who : Requester) (n : Fin 8)
  /-- R29: A write of 3 to STATION_TARGET starts a station towards SLEEP, or is held while a block is not NORMAL. -/
  | stationTargetSleep (who : Requester) (n : Fin 8)
  /-- R29: Memory is trained and station firmware runs, so the station enters RUNNING or SLEEP as targeted. -/
  | stationStartupDone (n : Fin 8) (imageOk : Bool)
  /-- R33: The SLEEP entry actions complete and a pending wake request is then acted on. -/
  | sleepEntryDone (n : Fin 8)
  /-- R33: The wake actions complete, RUNNING is reported, and a pending sleep request is then acted on. -/
  | wakeDone (n : Fin 8)
  /-- R19: A culvert lane group loses link and its station enters FAULT with cause EDGE_LINK. -/
  | edgeLinkLost (n : Fin 8)
  /-- R586: A station PLL reports loss of lock; memory enters self-refresh if it is the memory PLL, and the station enters FAULT with PLL_LOCK. -/
  | pllLockLost (n : Fin 8) (k : Fin 8)
  /-- R367: A RING_TAIL write on a doorbell page is checked by the headgate and makes the ring pending for fetch. -/
  | ringTailWrite (p : Fin 2) (t : Fin 512) (n : Fin 8) (q : Fin 4) (v : Nat)
  /-- R366: A COMP_HEAD write frees completion places so further descriptors may be fetched. -/
  | compHeadWrite (p : Fin 2) (t : Fin 512) (n : Fin 8) (q : Fin 4) (v : Nat)
  /-- R367: Descriptor data arrives from the host, is checked and enters the station's ingress sluice. -/
  | descriptorFetched (t : Fin 512) (n : Fin 8) (q : Fin 4) (data : Bytes)
  /-- R380: A ring read ends in an error or timeout and the ring enters FAULT with RING_FAULT to the slice. -/
  | ringReadFailed (t : Fin 512) (n : Fin 8) (q : Fin 4) (cause : Nat)
  /-- R380: A write of RING_ENABLE enables or restarts a ring from its present head, or disables it. -/
  | ringEnable (who : Requester) (t : Fin 512) (n : Fin 8) (q : Fin 4) (v : Bool)
  /-- R655: The station takes the next job descriptor from its ingress sluice when its job table has a free entry. -/
  | jobTake (n : Fin 8)
  /-- R40: A NOP job descriptor is handled by the control core and completes. -/
  | jobNop (n : Fin 8) (key : Nat)
  /-- R46: A RENDER job is queued with its render pass record for binning and fragment phases. -/
  | jobRender (n : Fin 8) (key : Nat)
  /-- R75: A COMPUTE job is queued with its dispatch record for workgroup dispatch. -/
  | jobCompute (n : Fin 8) (key : Nat) (d : DispatchRecord)
  /-- R50: A PIPELINE_LOAD job hands a SPIR-V pipeline to the translator queue. -/
  | jobPipelineLoad (n : Fin 8) (key : Nat) (r : PipelineRecord)
  /-- R55: A PIPELINE_DROP job marks a handle to be freed once no job names it. -/
  | jobPipelineDrop (n : Fin 8) (key handle : Nat)
  /-- R97: A job's wait fence reaches its value and the job is presented to the planner for admission. -/
  | fenceWaitSatisfied (n : Fin 8) (key : Nat)
  /-- R48: The END draw-list command ends binding of the draw list. -/
  | drawListEnd (n : Fin 8) (key : Nat)
  /-- R48: The draw-list command binds a pipeline handle for later draws. -/
  | bindPipeline (n : Fin 8) (key : Nat)
  /-- R48: The draw-list command binds a descriptor set's binding table. -/
  | bindSet (n : Fin 8) (key : Nat)
  /-- R48: The draw-list command supplies push data for later draws. -/
  | pushData (n : Fin 8) (key : Nat)
  /-- R48: The draw-list command binds a vertex buffer to a slot. -/
  | bindVertex (n : Fin 8) (key : Nat)
  /-- R48: The draw-list command binds an index buffer. -/
  | bindIndex (n : Fin 8) (key : Nat)
  /-- R48: The draw-list command draws non-indexed primitives into the bins. -/
  | draw (n : Fin 8) (key : Nat)
  /-- R48: The draw-list command draws indexed primitives into the bins. -/
  | drawIndexed (n : Fin 8) (key : Nat)
  /-- R48: The draw-list command draws with arguments read from memory. -/
  | drawIndirect (n : Fin 8) (key : Nat)
  /-- R48: The draw-list command sets the viewport. -/
  | setViewport (n : Fin 8) (key : Nat)
  /-- R48: The draw-list command sets the scissor rectangle. -/
  | setScissor (n : Fin 8) (key : Nat)
  /-- R74: A core finishes a unit and the dispatcher gives it the next unit of the highest-ranked ready job. -/
  | unitComplete (n : Fin 8) (core : Fin 4) (k : Nat) (r : UnitResult)
  /-- R87: A job's deadline point passes and the job becomes urgent. -/
  | deadlinePoint (n : Fin 8) (key : Nat)
  /-- R87: A preempted core's context is written to a save slot and the core is free. -/
  | contextSaveDone (n : Fin 8) (core : Fin 4) (context : Bytes)
  /-- R88: A lower-ranked side-effect-free fragment unit exceeds the yield limit after a deadline point and is abandoned. -/
  | tileYieldLimit (n : Fin 8) (core : Fin 4)
  /-- R91: A saved compute context is restored after its CRC check and its workgroups resume. -/
  | contextRestoreDone (n : Fin 8) (core : Fin 4)
  /-- R69: An access outside the tenant's windows is suppressed and the job ends with ACCESS_FAULT. -/
  | jobAccessFault (n : Fin 8) (key addr len : Nat) (write : Bool)
  /-- R70: A job exceeds JOB_TIME_LIMIT on the cores and ends with TIME_LIMIT. -/
  | jobTimeLimit (n : Fin 8) (key : Nat)
  /-- R44: A job ends and the PX8 writes its completion record, shadow, fence and interrupt in order. -/
  | jobComplete (n : Fin 8) (key : Nat)
  /-- R56: The translator takes the next queued PIPELINE_LOAD request in arrival order. -/
  | translationStart
  /-- R56: A translation ends, placing the result in the cache or failing with TRANSLATION_FAILED. -/
  | translationComplete (r : TransResult)
  /-- R55: A dropped handle is freed once no queued or running job names it. -/
  | pipelineDropFree (n : Fin 8) (t : Fin 512) (handle : Nat)
  /-- R58: A background retranslation completes and is swapped in between jobs. -/
  | retranslationSwap (n : Fin 8) (t : Fin 512) (handle : Nat)
  /-- R122: A write of LAYER_COMMIT, by dictionary or doorbell, is checked and arms the named layer and station sets. -/
  | layerCommit (via : Via) (n : Fin 8) (mask : Nat)
  /-- R163: A write of GUARD_COMMIT is checked and arms the named guard sets. -/
  | guardCommit (via : Via) (n : Fin 8) (mask : Nat)
  /-- R190: The timing generator starts vertical blanking, increments the frame counter and signals the compositor. -/
  | frameBoundary (n : Fin 8)
  /-- R126: In cycle B the compositor copies every armed set to active and decides the static picture. -/
  | boundaryLatch (n : Fin 8)
  /-- R132: At the fix point of a stretchable blanking the compositor latches armed sets and starts composing line 0. -/
  | fixPoint (n : Fin 8)
  /-- R143: The compositor composes the next line into a free transom line while below TRANSOM_TARGET. -/
  | composeLine (n : Fin 8) (parity : List (Nat × Nat))
  /-- R139: Layer data requested from station memory arrives for composition. -/
  | layerFetchComplete (n : Fin 8) (l : Fin 16) (addr len : Nat) (forArmed : Bool)
  /-- R187: The timing generator starts a line, emitting the next transom line if active. -/
  | lineStart (n : Fin 8) (room : Bool)
  /-- R209: A nominal frame period elapses and NOMINAL-basis monitors re-evaluate their unchanged count. -/
  | freezeNominalTick (n : Fin 8)
  /-- R159: A write of 1 to REF_LOAD_START checks and starts a reference page load. -/
  | refLoadStart (who : Requester) (n : Fin 8) (v : Nat)
  /-- R160: A reference load ends with its outcome published in REF_LOAD_RESULT. -/
  | refLoadDone (n : Fin 8)
  /-- R177: A segmented write of SAFE_STORE is staged and, at LAST, the state becomes LOADING. -/
  | safeStore (who : Requester) (n : Fin 8) (offset : Nat) (last : Bool) (data : Bytes)
  /-- R177: The new safe-store content is checked and becomes VALID or INVALID. -/
  | safeStoreCheckDone (n : Fin 8)
  /-- R215: A write of 1 to MODE_COMMIT checks the timing set and starts a mode change or refuses it. -/
  | modeCommit (who : Requester) (n : Fin 8) (v : Nat)
  /-- R215: The pixel PLL locks at the new clock and the timing generator starts the new timing. -/
  | pixelPllLock (n : Fin 8)
  /-- R211: HPD high for 2 ms in DETECT starts the DPCD and EDID read. -/
  | hpdPlug (n : Fin 8)
  /-- R211: The DPCD and EDID read ends and the output goes to TRAINING, LINK_FAIL, or retries. -/
  | sinkReadDone (n : Fin 8) (info : Option SinkInfo)
  /-- R211: LINK_RETRY_INTERVAL elapses after a failed AUX read and the read is retried. -/
  | auxRetryTimer (n : Fin 8)
  /-- R195: Link training ends with a configuration in ACTIVE, or all failing to LINK_FAIL. -/
  | linkTrainingDone (n : Fin 8) (trains : List (Nat × Nat))
  /-- R211: The LINK_FAIL retry timer expires and training is retried within the limit. -/
  | linkRetryTimer (n : Fin 8)
  /-- R212: An HPD low of 0.25 to 2 ms is IRQ_HPD and the sink's status is read, retraining if lane status is lost. -/
  | hpdIrq (n : Fin 8) (lanesLost : Bool)
  /-- R212: HPD low for more than 2 ms sends the output to DETECT with SINK_LOST. -/
  | hpdUnplug (n : Fin 8)
  /-- R207: PSR_WAKE_US passes after an end event in SELF_REFRESH and the fix point falls. -/
  | psrWakeElapsed (n : Fin 8)
  /-- R217: PANEL_ON_DELAY_MS elapses after PANEL_EN and the link is trained. -/
  | panelOnDelay (n : Fin 8)
  /-- R217: BL_ON_DELAY_MS elapses after the first frame and BL_EN is driven high. -/
  | blOnDelay (n : Fin 8)
  /-- R224: A touch scan pair starts in the first slot after the previous pair and the rate interval. -/
  | scanPairStart (n : Fin 8)
  /-- R232: A pair's last step ends; candidates are formed and matched and contacts change state. -/
  | scanPairEnd (n : Fin 8) (nodes self : List Nat) (noiseUse noiseOther : List Int)
  /-- R238: A confirmed contact stays within HOLD_RADIUS for HOLD_LIMIT_S and is absorbed. -/
  | contactHoldLimit (n : Fin 8) (id : Nat)
  /-- R240: HOLD_LIMIT_S passes after calibration and a suspect area is re-baselined. -/
  | occlusionHoldExpired (n : Fin 8)
  /-- R259: A write of 1 to TOUCH_COMMIT applies touch RWC objects at the next pair and replans the scan. -/
  | touchCommit (who : Requester) (n : Fin 8) (v : Nat)
  /-- R220: The charge pump stays out of regulation for 1 ms and the engine enters HALTED. -/
  | pumpOutOfRegulation (n : Fin 8)
  /-- R254: 1 s in HALTED elapses and the engine recalibrates if the pump is in regulation. -/
  | touchHaltRetry (n : Fin 8)
  /-- R258: A pair not complete within four rate periods is abandoned and logged. -/
  | pairAbandon (n : Fin 8) (steps : Nat)
  /-- R243: A write of 1 to REFERENCE_CAPTURE starts a factory reference capture. -/
  | referenceCapture (who : Requester) (n : Fin 8) (v : Nat)
  /-- R243: The capture ends, saving the reference or refusing it, with the outcome in REFERENCE_RESULT. -/
  | referenceCaptureDone (n : Fin 8) (pairs : List (List CapturePair))
  /-- R251: The touch-domain oscillator times a wake scan in SLEEP. -/
  | wakeScan (n : Fin 8) (coarse : Nat) (self : List (Nat × Nat))
  /-- R660: In SLEEP a calibration pair runs, timed by the touch-domain oscillator. -/
  | sleepCalibrationPair (n : Fin 8) (nodes self : List Nat) (noiseUse noiseOther : List Int)
  /-- R253: A write of 0 to WAKE_PENDING clears it and may release WAKE_N. -/
  | wakePendingClear (who : Requester) (n : Fin 8) (v : Nat)
  /-- R257: The touch microcode of a station is swapped between pairs, skipping one pair. -/
  | tchMicrocodeSwap (n : Fin 8) (digest : Bytes) (ok : Bool)
  /-- R276: A trigger write is accepted into the haptic queue or refused with QUEUE_LIMIT. -/
  | hapticTrigger (via : Via) (n : Fin 8) (tq : Fin 512) (v : Nat)
  /-- R277: At each 8 kHz tick the driver examines the queue and takes, checks or preempts. -/
  | hapticTick (n : Fin 8)
  /-- R284: At each 48 kHz sample the driver updates duty, back-EMF, thermal estimate and the limiter. -/
  | senseSample (n : Fin 8) (shunt vca vcb : Int) (vsense : Nat)
  /-- R271: The shunt comparator trips, gates go off within 1 µs and the driver enters FAULT. -/
  | overcurrent (n : Fin 8) (shunt : Int)
  /-- R272: V_BR out of range for 48 samples sends the driver to FAULT. -/
  | bridgeRangeFault (n : Fin 8)
  /-- R272: Drive without current for 240 samples sends the driver to FAULT OPEN_LOAD. -/
  | openLoad (n : Fin 8)
  /-- R288: V_BR back in range for 10 ms returns the driver from FAULT to IDLE. -/
  | bridgeRecovered (n : Fin 8)
  /-- R283: Back-EMF below BRAKE_END_MV for 24 samples or BRAKE_MAX_MS ends braking. -/
  | brakeEnd (n : Fin 8)
  /-- R284: The drive run reaches DRIVE_TIME_LIMIT and the effect ends with TIME_LIMIT and brakes. -/
  | driveTimeLimit (n : Fin 8)
  /-- R288: 1 ms after entering IDLE the bootstraps are charged and effects may play. -/
  | bootstrapChargeDone (n : Fin 8)
  /-- R274: A write of an effect slot stores, empties or refuses the effect. -/
  | effectData (who : Requester) (n : Fin 8) (e : Fin 64) (data : Bytes)
  /-- R288: A write of 1 clears an OVERCURRENT or OPEN_LOAD fault to IDLE. -/
  | faultClear (who : Requester) (n : Fin 8) (v : Nat)
  /-- R292: A write of 1 applies haptic RWC objects when next IDLE or OFF. -/
  | hapticCommit (who : Requester) (n : Fin 8) (v : Nat)
  /-- R281: Stream data arrives for playback, or the stream ends with DONE, UNDERRUN or WINDOW. -/
  | hapticStreamFetch (n : Fin 8) (len : Nat)
  /-- R307: Each sample frame the engine mixes, steps gains and sends TDM slots. -/
  | audioFrame (n : Fin 8) (mic0 mic1 : Nat)
  /-- R307: T frames after a change began, a gain stage steps in every frame. -/
  | gainForcedRegime (n : Fin 8) (stage : Fin 23)
  /-- R309: A write of 1 applies audio RWC objects from the first frame 2 µs later. -/
  | audioCommit (who : Requester) (n : Fin 8) (v : Nat)
  /-- R300: A write of 1 starts an audio source stream from STREAM_READ. -/
  | streamStart (who : Requester) (n : Fin 8) (k : Fin 12) (v : Nat)
  /-- R300: A write of 1 ends an audio stream, discards its FIFO and mutes its gain. -/
  | streamStop (who : Requester) (n : Fin 8) (k : Fin 12) (v : Nat)
  /-- R300: An audio block fetch completes, fills the FIFO or gives zeros, AUDIO_FAULT or AUDIO_DONE. -/
  | audioStreamFetch (n : Fin 8) (k : Fin 12)
  /-- R301: A write of 1 begins a tone on-period at phase 0 in the next frame. -/
  | tgStart (who : Requester) (n : Fin 8) (g : Fin 2) (v : Nat)
  /-- R301: A write of 1 ends the tone at its next phase-0 frame. -/
  | tgStop (who : Requester) (n : Fin 8) (g : Fin 2) (v : Nat)
  /-- R301: TG_ON_MS elapses and the on-period ends at the next phase-0 frame. -/
  | toneOnElapsed (n : Fin 8) (g : Fin 2)
  /-- R301: TG_OFF_MS of zeros elapses and the next on-period begins or the tone ends. -/
  | toneOffElapsed (n : Fin 8) (g : Fin 2)
  /-- R304: DUCK_HOLD_MS passes without threshold and a bus stops being active. -/
  | busActivityExpired (n : Fin 8) (b : Fin 4)
  /-- R306: A LOOP block write completes and LOOP_WRITE advances, or the block is dropped. -/
  | loopBlockWrite (n : Fin 8)
  /-- R314: 64 frames of zeros are sent and the engine enters ACTIVE. -/
  | audioStartDone (n : Fin 8)
  /-- R314: Sinks reach mute and 64 zero frames pass; the engine goes OFF or to STARTING. -/
  | audioStopDone (n : Fin 8)
  /-- R314: After a 1 ms clock stop the new rate or format is applied. -/
  | audioClockRestart (n : Fin 8)
  /-- R328: tREFI elapses and an all-bank refresh is issued. -/
  | refreshDue (n : Fin 8)
  /-- R328: Every 16 ms the memory temperature is read and tREFI and retraining updated. -/
  | memTempRead (n : Fin 8) (temp : Int)
  /-- R333: RETRAIN_INTERVAL_MS elapses and a retraining falls due. -/
  | retrainDue (n : Fin 8)
  /-- R334: A due retraining starts at vertical blanking, at the place limit, or after a save. -/
  | retrainStart (n : Fin 8)
  /-- R335: A retraining attempt ends, succeeding, widening or failing. -/
  | retrainAttemptDone (n : Fin 8) (ok : Bool)
  /-- R330: An initial training attempt ends, with a retry or MEMORY_FAULT after three failures. -/
  | memTrainingAttemptDone (n : Fin 8) (ok : Bool) (capacity rate : Nat) (temp : Int)
  /-- R331: The inline-ECC zero fill completes and memory is reported ready. -/
  | memFillDone (n : Fin 8)
  /-- R338: A read returns and is checked by inline ECC, corrected, or uncorrectable. -/
  | memRead (n : Fin 8) (addr : Nat) (r : MemReader) (err : Fin 3)
  /-- R325: A class 4 or 5 request waits 20 µs and is served as class 3. -/
  | requestPromotion (n : Fin 8) (cls since : Nat)
  /-- R350: A write of 1 applies a STATION reset with memory re-initialisation. -/
  | memReinit (who : Requester) (n : Fin 8) (v : Bool)
  /-- R355: A host link finishes training, UP or DEGRADED. -/
  | pcieLinkTrained (p : Fin 2) (speed : Fin 6) (width : Fin 9)
  /-- R355: 1 s after a degraded link the port retrains once. -/
  | portRetrainTimer (p : Fin 2)
  /-- R378: A change of PERST_N asserts or releases the port reset. -/
  | perstNLevel (p : Fin 2) (high : Bool)
  /-- R378: 20 ms after PERST_N release the port is ready for link training. -/
  | hostPortReady (p : Fin 2)
  /-- R378: A hot reset or data-link loss resets the port and every slice bound to it. -/
  | hotReset (p : Fin 2)
  /-- R377: An FLR of a port's function applies a SLICE reset to every slice of the port. -/
  | functionFlr (p : Fin 2)
  /-- R377: A write of 1 to SLICE_FLR in a doorbell page starts a SLICE reset. -/
  | sliceFlr (p : Fin 2) (t : Fin 512) (v : Nat)
  /-- R377: A write of 1 to the SLICE_RESET object starts a SLICE reset. -/
  | sliceReset (who : Requester) (t : Fin 512) (v : Bool)
  /-- R356: A write of SLICE_ENABLE binds the slice, or with 0 resets it and leaves it UNBOUND. -/
  | sliceEnable (who : Requester) (t : Fin 512) (v : Bool)
  /-- R377: Outstanding reads drain, settings reset, and the slice leaves RESETTING. -/
  | sliceResetDone (t : Fin 512)
  /-- R360: A rights or mask write is checked, takes force and revokes taken items. -/
  | rightsWrite (who : Requester) (t : Fin 512) (n : Fin 8) (which : Fin 5) (v : Nat)
  /-- R361: A window write is checked and applied, or proceeds as a revocation. -/
  | windowWrite (who : Requester) (t : Fin 512) (n : Fin 8) (w : Fin 16) (v : Nat)
  /-- R370: A write of TOUCH_LAND_HEAD frees touch landing places. -/
  | touchLandHead (p : Fin 2) (t : Fin 512) (v : Nat)
  /-- R370: A write of NOTIFY_LAND_HEAD frees notification landing places. -/
  | notifyLandHead (p : Fin 2) (t : Fin 512) (v : Nat)
  /-- R370: With room, an item moves from a queue to its landing ring with tail and interrupt. -/
  | landingDelivery (t : Fin 512) (isTouch : Bool)
  /-- R372: A write of MB_CONTROL with SEND submits a mailbox request. -/
  | mbSend (path : MbPath) (typ : Fin 16) (tq : Option (Fin 512)) (body : Bytes) (env : WriteEnv)
  /-- R362: A write of MB_CONTROL with ACK clears MB_DONE. -/
  | mbAck (path : MbPath)
  /-- R372: The mailbox response is written, MB_DONE set and the vector raised. -/
  | mbResponseReady (path : MbPath)
  /-- R376: A write of 1 ends QUARANTINED and restarts the failure count. -/
  | quarantineRelease (who : Requester) (t : Fin 512) (v : Nat)
  /-- R368: A transfer descriptor copies host data into station memory. -/
  | xferHostToStation (t : Fin 512) (n : Fin 8) (q : Fin 4) (data : Option Bytes)
  /-- R368: A transfer descriptor copies station memory to the host. -/
  | xferStationToHost (t : Fin 512) (n : Fin 8) (q : Fin 4)
  /-- R368: A transfer descriptor fills station memory with the fill word. -/
  | xferFill (t : Fin 512) (n : Fin 8) (q : Fin 4)
  /-- R369: A transfer ends, OK or ACCESS_FAULT, and its completion is written in ring order. -/
  | transferComplete (t : Fin 512) (n : Fin 8) (q : Fin 4)
  /-- R390: ENCLAVE_COMMAND CREATE checks and starts loading an enclave image. -/
  | enclaveCreate (who : Requester) (e : Fin 64)
  /-- R391: Verification ends; the enclave becomes STOPPED with a key, or EMPTY. -/
  | enclaveLoadDone (e : Fin 64) (key : Bytes)
  /-- R391: ENCLAVE_COMMAND START runs a STOPPED enclave. -/
  | enclaveStart (who : Requester) (e : Fin 64)
  /-- R391: ENCLAVE_COMMAND STOP stops scheduling a RUNNING enclave. -/
  | enclaveStop (who : Requester) (e : Fin 64)
  /-- R391: ENCLAVE_COMMAND DESTROY from the manager starts destroying an enclave. -/
  | enclaveCommandDestroy (who : Requester) (e : Fin 64)
  /-- R391: A write of 1 to ENCLAVE_DESTROY by the sponsor destroys the enclave. -/
  | enclaveDestroy (who : Requester) (e : Fin 64) (v : Bool)
  /-- R391: Returns and scrubbing finish; the enclave becomes EMPTY with ENCLAVE_LOST. -/
  | enclaveDestroyDone (e : Fin 64)
  /-- R399: A 1 ms scheduling slice ends and the secure firmware switches tags. -/
  | enclaveSliceExpired (core : Fin 2) (next : Option (Fin 64))
  /-- R398: A sponsor write of INBOX queues a message item for the enclave, or BUSY. -/
  | inbox (who : Requester) (e : Fin 64) (data : Bytes)
  /-- R402: The enclave call ACQUIRE starts a lock cycle of a block towards the enclave. -/
  | acquire (e : Fin 64) (n : Fin 8) (kind : BlockKind) (k : Nat)
  /-- R402: The enclave call RELEASE starts a lock cycle back to the normal world. -/
  | release (e : Fin 64) (n : Fin 8) (kind : BlockKind) (k : Nat)
  /-- R401: The enclave call WRITE accesses an object of a held block. -/
  | enclaveWrite (e : Fin 64) (area : Fin 16) (idx sub : Nat) (data : Bytes)
  /-- R401: The enclave call READ returns an object of a held block. -/
  | enclaveRead (e : Fin 64) (area : Fin 16) (idx sub : Nat)
  /-- R401: The enclave call COMMIT commits layer and guard masks as writer. -/
  | enclaveCommit (e : Fin 64) (n : Fin 8) (layerMask guardMask : Nat)
  /-- R401: The enclave call QUEUE_READ returns the next item of its queue. -/
  | queueRead (e : Fin 64) (touch : Bool)
  /-- R398: The enclave call SEND completes OUTBOX as a result object. -/
  | send (e : Fin 64) (data : Bytes)
  /-- R395: The enclave call SEAL encrypts data under its identity key. -/
  | seal (e : Fin 64) (data : Bytes)
  /-- R395: The enclave call UNSEAL decrypts data under its identity key. -/
  | unseal (e : Fin 64) (data : Bytes)
  /-- R398: The enclave call REBIND authorises a binding write for its sealed sponsor. -/
  | rebind (e : Fin 64) (w : BindWrite)
  /-- R403: A block's drain and BLOCK reset complete and it becomes LOCKED. -/
  | lockDrainDone (n : Fin 8) (kind : BlockKind) (k : Nat)
  /-- R402: The ready step hands a LOCKED block to the enclave or the normal world. -/
  | lockReady (n : Fin 8) (kind : BlockKind) (k : Nat)
  /-- R410: After a SEC reset the boot ROM re-verifies the SEC image and scrubbing starts. -/
  | secRestartBootDone (image : Option Bytes)
  /-- R410: Secure SRAM and enclave ranges are zeroed and held blocks returned. -/
  | secScrubDone
  /-- R387: A nonce write starts an attestation report. -/
  | attestChallenge (who : Requester) (nonce : Bytes)
  /-- R387: The signed attestation report completes in ATTEST_REPORT. -/
  | attestReportDone
  /-- R413: A read of DEBUG_CHALLENGE returns a fresh nonce and invalidates the previous one. -/
  | debugChallenge (who : Requester)
  /-- R413: A signed response is verified and opens or arms a debug level, or fails. -/
  | debugResponse (who : Requester) (data : Bytes)
  /-- R413: 60 s after three failures the debug lockout ends. -/
  | debugLockoutEnd
  /-- R421: Each 10 µs sample adds domain energy to counters and charges owners. -/
  | energySample (x : EnergySample)
  /-- R430: Every 10 ms the thermal cap and effective budget are updated. -/
  | budgetPeriod (sensors : List Int)
  /-- R432: Every 10 ms the management cores divide the spare into station and tenant allotments and credit. -/
  | energySplit
  /-- R439: Every 10 ms the station decides SLOW, raise or hold and re-presents deferred jobs. -/
  | stationTick (n : Fin 8)
  /-- R420: The VDD_SHD ramp settles and the shader clock changes. -/
  | shaderPointSettled (n : Fin 8)
  /-- R441: Every 1 µs the weir compares input power with the limit. -/
  | weirCompare (input : Nat)
  /-- R441: Within 10 µs the weir ranks stations by excess and keeps or releases divisors. -/
  | weirClampRank (x : WeirReading)
  /-- R442: Each 1 ms below the limit the weir may halve one divisor. -/
  | weirReleaseCheck (x : WeirReading)
  /-- R443: All divisors at 8 for 100 µs above the limit raises WEIR_SATURATED. -/
  | weirSaturated
  /-- R446: A write of the device budget changes the weir limit and next split. -/
  | deviceBudgetMw (who : Requester) (v : Nat)
  /-- R478: A READ transfer returns object values, views or result states. -/
  | bdaRead (src : PeerSource) (frame : BdaFrame)
  /-- R464: A WRITE transfer applies its entries in order, each answered alone. -/
  | bdaWrite (src : PeerSource) (frame : BdaFrame) (env : WriteEnv)
  /-- R467: A COMMIT transfer applies commit entries, arming layer and guard sets together. -/
  | bdaCommit (src : PeerSource) (frame : BdaFrame)
  /-- R485: A NOTIFY transfer creates or cancels a subscription. -/
  | bdaNotify (src : PeerSource) (frame : BdaFrame)
  /-- R504: A BLOCK transfer feeds a DOMAIN object segment. -/
  | bdaBlock (src : PeerSource) (frame : BdaFrame)
  /-- R465: A write of an object without its own row is checked and applied or shadowed. -/
  | dictionaryWrite (who : Requester) (area : Fin 16) (idx sub : Nat) (tq : Option (Fin 512)) (data : Bytes) (env : WriteEnv)
  /-- R466: A write of 1 copies blocks 0, 1 and 7 RWC shadows to active. -/
  | stationCommit (who : Requester) (n : Fin 8) (v : Nat)
  /-- R479: A generation write consumes the result or is answered STALE_ACK. -/
  | resultAck (who : Requester) (area : Fin 16) (idx : Nat) (tq : Option (Fin 512)) (gen : Nat)
  /-- R482: A segment read at offset 0 snapshots a result BLOB. -/
  | resultBlobRead (who : Requester) (area : Fin 16) (idx offset len : Nat)
  /-- R482: A result snapshot held 1 s is discarded. -/
  | snapshotExpired
  /-- R623: A segment read at offset 0 snapshots an error log ring. -/
  | logRingRead (who : Requester) (station : Option (Fin 8)) (offset len : Nat)
  /-- R619: A read of an object cleared by reading returns and resets it. -/
  | clearingRead (who : Requester) (n : Fin 8) (stall : Bool)
  /-- R473: A segmented write idle for 2 s is discarded. -/
  | blobWriteAbandoned
  /-- R486: At its interval a subscription sends NOTIFY with value and count. -/
  | subscriptionNotify (k : Fin 512)
  /-- R490: 2 s after the last change or 10 s after the first a save starts. -/
  | settingsSaveTimer
  /-- R490: A write of 1 to SETTINGS_SAVE starts a save at once. -/
  | settingsSave (who : Requester) (v : Bool)
  /-- R489: A save's last record is written, or it fails. -/
  | settingsSaveDone (ok : Bool)
  /-- R493: A write of 1 sets every saved object to its default and saves. -/
  | settingsDefaults (who : Requester) (v : Bool)
  /-- R500: A received Ethernet frame is forwarded by the switch. -/
  | switchFrame (port : Fin 2) (frame : Bytes) (bad : Bool) (leased : Nat)
  /-- R498: A MAC table entry unused for 300 s is aged out. -/
  | macEntryAged (mac : Nat)
  /-- R498: A gate control list entry interval ends and the gates change. -/
  | qbvGateEvent (port : Fin 3) (gates : Nat)
  /-- R515: A gPTP frame updates network time and rate. -/
  | ptpMessage (m : PtpMessage)
  /-- R515: Three sync intervals without Sync enter HOLDOVER with SYNC_LOST. -/
  | ptpSyncTimeout
  /-- R499: An ARP frame to the device is answered. -/
  | arpRequest (port : Fin 2) (sender target leased : Nat)
  /-- R499: An ICMP echo request is answered. -/
  | icmpEcho (port : Fin 2) (sender target leased : Nat) (data : Bytes)
  /-- R508: A read of GRANT_CHALLENGE returns a nonce held for 10 s. -/
  | grantChallenge (who : Requester)
  /-- R508: A signed request is verified and a session opened or refused. -/
  | grantRequest (who : Requester) (data pub : Bytes)
  /-- R509: A write of a session number ends that session. -/
  | grantEnd (who : Requester) (v : Nat)
  /-- R509: No valid frame for GRANT_IDLE_S ends the session. -/
  | sessionIdle (k : Fin 32)
  /-- R506: A sessionless peer silent for 60 s has its record freed. -/
  | peerRecordIdle (k : Fin 32)
  /-- R512: A manager relays a non-local frame up or down, or answers a relay failure. -/
  | relayFrame (origin : RelayFrom) (frame : BdaFrame)
  /-- R511: A write of DEVICE_PATH adopts the device or refuses per ADOPT_POLICY. -/
  | devicePath (who : Requester) (v serial : Nat)
  /-- R511: A write binds a member serial number to an address. -/
  | memberSerial (who : Requester) (a : Fin 64) (v : Nat)
  /-- R511: Once per second an unadopted worker sends ANNOUNCE. -/
  | announce
  /-- R519: Every HEARTBEAT_MS the manager sends HEARTBEAT to each member. -/
  | heartbeatTimer
  /-- R519: A member receives HEARTBEAT and answers it. -/
  | heartbeat (serial : Nat)
  /-- R519: The manager receives a member's answer and keeps or restores it ACTIVE. -/
  | heartbeatAnswer (a : Fin 64) (serial link : Nat)
  /-- R519: Three unanswered heartbeats mark the member LOST and raise MEMBER_LOST. -/
  | memberLost (a : Fin 64)
  /-- R519: Three periods without heartbeat raise MANAGER_LOST. -/
  | managerLost
  /-- R517: A merge window ends and a merged record, if any, is queued and sent. -/
  | alarmMergeEnd (path code station st : Nat)
  /-- R518: A write of a SEQ removes that alarm entry. -/
  | alarmAck (who : Requester) (seq : Nat)
  /-- R654: Once QUEUES is set pending alarm records enter the alarm queue. -/
  | alarmPendingDrain
  /-- R528: A manifest write is checked and fixes the plan, or is refused. -/
  | manifest (who : Requester) (data : Bytes)
  /-- R531: A piece record arrives through the DOMAIN stream. -/
  | pieceStream (data : Bytes)
  /-- R531: A piece record arrives through the PIECE_IN BLOB. -/
  | pieceIn (who : Requester) (data : Bytes)
  /-- R532: A piece page program completes and its bitmap bit is set. -/
  | pieceProgrammed
  /-- R536: Image digests are checked; good images are copied, bad pieces cleared. -/
  | imageVerifyDone
  /-- R536: UPDATE_COMMAND APPLY starts applying the plan. -/
  | updateApply (who : Requester)
  /-- R536: Network time reaches APPLY_AT and applying starts. -/
  | applyAtReached
  /-- R546: UPDATE_COMMAND COMMIT makes TRIAL slots CURRENT. -/
  | updateCommit (who : Requester) (fails : List Nat)
  /-- R545: UPDATE_COMMAND REVERT reverses completed steps. -/
  | updateRevert (who : Requester)
  /-- R536: UPDATE_COMMAND CANCEL erases staging and returns IDLE. -/
  | updateCancel (who : Requester)
  /-- R540: UPDATE_COMMAND FORCE_SEC ends the SEC wait. -/
  | forceSec (who : Requester)
  /-- R540: Every enclave is EMPTY and the SEC step applies its SEC reset. -/
  | secWaitEnd
  /-- R540: SEC_STATE reads READY on the trial image. -/
  | secStepDone (trial : Bool)
  /-- R537: The new management firmware runs after handover and conversion. -/
  | mgmtStepDone (schema : Bytes) (converted : List (Nat × GroupRec)) (translator : Nat)
  /-- R542: At boundary B the control core stops, writes its record and is reset. -/
  | stnSwapStart
  /-- R542: The new station firmware takes its record and releases held work. -/
  | stnSwapDone
  /-- R544: A swap not complete in 10 ms restarts on the old image. -/
  | stnSwapTimeout
  /-- R536: STATION_GAP_MS passes and the next step or swap starts. -/
  | updateGapElapsed
  /-- R536: TRIAL_S expires and the update is committed. -/
  | trialExpired (fails : List Nat)
  /-- R545: A reverse step completes; the last returns IDLE. -/
  | revertStepDone
  /-- R533: A write starts cache distribution to member addresses. -/
  | cacheTargets (who : Requester) (v : Nat)
  /-- R533: The manager pushes a member's missing pieces from its cache. -/
  | cachePush (a : Fin 64) (bitmap : Bytes)
  /-- R603: CV_COMMAND ARM starts the unit's result operation. -/
  | cvArm (who : Requester) (u : Fin 24)
  /-- R603: CV_COMMAND END completes a BDA run, else aborts. -/
  | cvEnd (who : Requester) (u : Fin 24)
  /-- R603: CV_COMMAND ABORT ends the run with ABORTED. -/
  | cvAbort (who : Requester) (u : Fin 24)
  /-- R604: A run ends and the unit writes its result. -/
  | cvRunComplete (u : Fin 24) (overflow : Bool)
  /-- R609: An item reaches an event queue, evicting per rule, and banks may swap. -/
  | queueItemArrival (item : QueueItem)
  /-- R621: The management firmware drains log queue entries into a log ring. -/
  | logDrain (station : Option (Fin 8)) (count : Nat)
  /-- R580: The management firmware finishes booting, sets MGMT, DICTIONARY and SETTINGS, loads headworks settings, answers held mailbox requests and retries pending fuse programs. -/
  | mgmtReady (lost : Bool) (skipped fails : List Nat)
  /-- R573: The always-on supply becomes good, pins take their fixed pre-trim states and XSPI_RESET_N is pulsed. -/
  | vaonGood
  /-- R412: An instruction shifted through the JTAG TAP selects IDCODE, BYPASS or, at an open debug level, boundary-scan and debug behaviour. -/
  | jtagInstruction (ins : JtagInstr)
  /-- R371: The host unmasks an MSI-X vector and a pending message for it is sent. -/
  | msixVectorUnmask (p : Fin 2) (v : Fin 2048)
  /-- R489: An xSPI sector or bank erase completes: the old settings bank, the staging bank after CANCEL, or a staging sector before a piece is written. -/
  | flashEraseDone
  /-- R549: The copy of the verified images to the spare slots, and the loading of the STN image into each station, completes and the update engine enters READY. -/
  | imageCopyDone
  /-- R217: During eDP power-down the reverse-order delays elapse and BL_EN and then PANEL_EN are driven low. -/
  | panelPowerDownDelay (n : Fin 8)
  /-- R254: The charge pump comes into regulation and a released touch engine in OFF enters CALIBRATING. -/
  | pumpInRegulation (n : Fin 8)
  /-- R521: An Ethernet port's PHY link goes down or comes up at a speed, changing ETH_LINK and the port's forwarding and time sync. -/
  | ethLinkChange (port : Fin 2) (speed : Fin 4)
  /-- R584: The Ethernet PLL loses lock, the link goes down on both ports and the PLL relocks. -/
  | ethernetPllLockLost
  /-- R517: A manager receives an alarm NOTIFY from a member and enters it, with its PATH unchanged, into its own alarm queue for merging and passing upward. -/
  | memberAlarmReceived (member : Fin 64) (a : Alarm)
deriving DecidableEq, Repr

end Sys2Proof
end

