-- ==== Sys2Proof/Decode.lean ====
section
/-! DEFINITION. The table of steps gives no row any bits, so no word spells a command (assumption 6). -/
namespace Sys2Proof

/-- The command a table word spells: none, since no row of the table has bits. -/
def decodeTableWord (_nbits _w : Nat) : Option Instr := none

end Sys2Proof
end

