-- ==== Sys2Proof/Config.lean ====
section
/-! DEFINITION. What an implementation of the block fixes and the spec does not state: the free values (opaque, no
body) and the cryptographic functions, which the spec names by their standards and whose values no statement of this
model rests on. -/
namespace Sys2Proof.Config

/-- A value the spec leaves open: the k-th free number (a number of any size; the reader takes it modulo its width).
DESIGN CHOICE, safe: assumption 1. -/
opaque freeNat : Nat → Nat

/-- A free byte for the k-th draw. DESIGN CHOICE, safe: assumption 1. -/
opaque freeByte : Nat → Byte

/-- What a read of a byte of memory whose contents are lost returns: cell, and the model's counter (R348). Free: assumption 1. -/
opaque lostByte : Nat → Nat → Byte

/-- A sample after a gain stage, before the model limits it to the accuracy the spec gives (R307): gain code, sample.
Free within ±0.01 dB: assumption 1. -/
opaque audioScale : Int → Int → Int

/-- A sample of a tone before the model limits it to the whole counts beside its sine (R301): phase, rate, level. Free between
these: assumption 1. -/
opaque toneSample : Nat → Nat → Int → Int

/-- Whether a ducked target below −200, for which R304 and R307 name no code, is mute or −200. Free: assumption 1. -/
opaque duckMutes : Int → Bool

/-- A sample of a colour attachment after blending (R59): format code, blend state of the pipeline, the fragment's colour, the sample before.
The operators are those of Vulkan 1.3, which the spec names and does not give. Uninterpreted: assumption 141. -/
opaque blend : Nat → Nat → Bytes → Bytes → Bytes

/-- The bytes that the last of the lines of a slice row adds to a DSC 1.2a stream (R196): bits per component, sixteenths of a bit per
pixel, slices per line, slice height, the lines. Uninterpreted: assumption 155. -/
opaque dscLine : Nat → Nat → Nat → Nat → List (List Nat) → Bytes

/-- The picture parameter set of a DSC 1.2a stream (R196): bits per component, sixteenths of a bit per pixel, slices per line, slice height,
width and height of the picture. Uninterpreted: assumption 155. -/
opaque dscPps : Nat → Nat → Nat → Nat → Nat → Nat → Bytes

/-- SHA-384 of a byte string (R384, R385, R387, R389, R526). Uninterpreted: assumption 2. -/
opaque sha384 : Bytes → Bytes

/-- HMAC-SHA-384 of a message under a key (R508, R512). Uninterpreted: assumption 2. -/
opaque hmac : Bytes → Bytes → Bytes

/-- The device root key, used inside the crypto engine alone (R388). Uninterpreted: assumption 2. -/
opaque rootKey : Bytes

/-- The private attestation key, from its seed (R388). Uninterpreted: assumption 2. -/
opaque attestKey : Bytes

/-- The image key of a slot of `KEY_SLOTS`; none where the slot is revoked (R388, R526). Uninterpreted: assumption 2. -/
opaque imageKey : Nat → Option Bytes

/-- The debug key (R388, R413). Uninterpreted: assumption 2. -/
opaque debugKey : Bytes

/-- The digest of the boot ROM (R385). Uninterpreted: assumption 2. -/
opaque bootRomDigest : Bytes

/-- Key derivation from a secret and an information string. Uninterpreted: assumption 2. -/
opaque hkdf : Bytes → Bytes → Bytes

/-- ECDSA P-384 verification of a signature over a message under a public key. Uninterpreted: assumption 2. -/
opaque ecdsaVerify : Bytes → Bytes → Bytes → Bool

/-- ECDSA P-384 signature of a message under a private key. Uninterpreted: assumption 2. -/
opaque ecdsaSign : Bytes → Bytes → Bytes

/-- ECDH agreement of a private and a public key. Uninterpreted: assumption 2. -/
opaque ecdh : Bytes → Bytes → Bytes

/-- The public key of a private key. Uninterpreted: assumption 2. -/
opaque publicKey : Bytes → Bytes

/-- AES-256 authenticated encryption: key, nonce, plaintext give ciphertext and tag. Uninterpreted: assumption 2. -/
opaque aesSeal : Bytes → Bytes → Bytes → Bytes

/-- AES-256 authenticated decryption: the plaintext, or none where the tag does not verify. Uninterpreted:
assumption 2. -/
opaque aesUnseal : Bytes → Bytes → Option Bytes

/-- AES-256-XTS of a memory unit: key, address, plaintext (R394). Uninterpreted: assumption 2. -/
opaque aesXts : Bytes → Nat → Bytes → Bytes

/-- The inverse of `aesXts` (R394). Uninterpreted: assumption 2. -/
opaque aesXtsInv : Bytes → Nat → Bytes → Bytes

end Sys2Proof.Config
end

