-- ==== Sys2Proof/Machine/Bits.lean ====
section
/-! DEFINITION. Bit fields, byte orders, saturating and wrapping arithmetic, and the check-value arithmetic that more
than one chapter uses. -/
namespace Sys2Proof.Machine

/-- Bits hi:lo of a register or descriptor; bit 0 is the least significant bit (R9). -/
def bits (hi lo v : Nat) : Nat := (v / 2 ^ lo) % 2 ^ (hi - lo + 1)

/-- Bit `k` of `v` (R9). -/
def bit (k v : Nat) : Bool := v.testBit k

/-- `v` with bit `k` set. -/
def setBit (k v : Nat) : Nat := if v.testBit k then v else v + 2 ^ k

/-- `v` with bit `k` clear. -/
def clearBit (k v : Nat) : Nat := if v.testBit k then v - 2 ^ k else v

/-- `v` with bit `k` equal to `b`. -/
def putBit (k : Nat) (b : Bool) (v : Nat) : Nat := if b then setBit k v else clearBit k v

/-- The bit numbers below `w` that are 1 in the mask, increasing. -/
def maskBits (w mask : Nat) : List Nat := (List.range w).filter fun k => mask.testBit k

/-- A two's-complement reading of the low `w` bits of `v` (R454). -/
def signed (w v : Nat) : Int :=
  let m := v % 2 ^ w
  if 2 * m < 2 ^ w then (m : Int) else (m : Int) - (2 ^ w : Nat)

/-- The two's-complement bits of `v` in `w` bits (R454). -/
def unsigned (w : Nat) (v : Int) : Nat := (v % ((2 ^ w : Nat) : Int)).toNat

/-- A counter of width `w` that keeps its largest value (R619). -/
def satInc (w v : Nat) (by_ : Nat := 1) : Nat := min (v + by_) (2 ^ w - 1)

/-- A sequence of width `w` that wraps to 0 (R617, R618). -/
def wrapInc (w v : Nat) : Nat := (v + 1) % 2 ^ w

/-- A result generation: wraps from 65,535 to 1 (R477). -/
def genInc (v : Nat) : Nat := if v ≥ 65535 then 1 else v + 1

/-- The modular distance from `old` to `new` of a wrapping value of width `w` (R618). -/
def modDiff (w new old : Nat) : Nat := (new + 2 ^ w - old % 2 ^ w) % 2 ^ w

/-- Bytes of a number, least significant first, as structures in memory are laid out (R10). -/
def toLE : Nat → Nat → Bytes
  | 0, _ => []
  | k + 1, v => BitVec.ofNat 8 (v % 256) :: toLE k (v / 256)

/-- The number a little-endian byte string spells (R10). -/
def ofLE : Bytes → Nat
  | [] => 0
  | b :: r => b.toNat + 256 * ofLE r

/-- Bytes of a number, most significant first, as BDA frames carry them (R11). -/
def toBE (k v : Nat) : Bytes := (toLE k v).reverse

/-- The number a most-significant-first byte string spells (R11). -/
def ofBE (b : Bytes) : Nat := ofLE b.reverse

/-- `k` bytes of a byte string from offset `o` on; short where the string ends. -/
def slice (b : Bytes) (o k : Nat) : Bytes := (b.drop o).take k

/-- The little-endian field of `k` bytes at offset `o` of a structure. -/
def fieldLE (b : Bytes) (o k : Nat) : Nat := ofLE (slice b o k)

/-- The big-endian field of `k` bytes at offset `o` of a frame. -/
def fieldBE (b : Bytes) (o k : Nat) : Nat := ofBE (slice b o k)

/-- The byte at offset `o`, 0 beyond the end. -/
def byteAt (b : Bytes) (o : Nat) : Nat := (b.getD o 0).toNat

/-- `v` padded with zero bytes or cut to exactly `k` bytes. -/
def padTo (k : Nat) (b : Bytes) : Bytes := b.take k ++ List.replicate (k - b.length) 0

/-- Floor division on integers, as the spec's ⌊x / y⌋ for a positive divisor. -/
def fdiv (a : Int) (b : Nat) : Int := Int.fdiv a b

/-- The value limited to lo to hi. -/
def clampI (lo hi v : Int) : Int := if v < lo then lo else if hi < v then hi else v

/-- Natural-number limit. -/
def clampN (lo hi v : Nat) : Nat := if v < lo then lo else if hi < v then hi else v

/-- The magnitude of a fraction. -/
def absR (v : Rat) : Rat := if v < 0 then -v else v

/-- A fraction limited to lo to hi. -/
def clampR (lo hi v : Rat) : Rat := if v < lo then lo else if hi < v then hi else v

/-- The floor of a fraction as a natural number, 0 below 0. -/
def floorN (v : Rat) : Nat := (Rat.floor v).toNat

/-- Ceiling division. -/
def cdiv (a b : Nat) : Nat := if b = 0 then 0 else (a + b - 1) / b

/-- The low `w` bits of `v` in reversed order (R599). -/
def reflectBits (w v : Nat) : Nat :=
  (List.range w).foldl (fun acc i => acc * 2 + (if v.testBit i then 1 else 0)) 0

/-- One shift of the register of R599. -/
def crcShift (width poly crc : Nat) : Nat :=
  if crc.testBit (width - 1) then (((crc * 2) ^^^ poly) % 2 ^ width) else ((crc * 2) % 2 ^ width)

/-- `update` of R599: one byte into a CRC register of `width` bits. -/
def crcUpdate (width poly : Nat) (refin : Bool) (crc : Nat) (b : Byte) : Nat :=
  let v := if refin then reflectBits 8 b.toNat else b.toNat
  let c0 := (crc ^^^ (v * 2 ^ (width - 8))) % 2 ^ width
  (List.range 8).foldl (fun c _ => crcShift width poly c) c0

/-- The register after a byte string. -/
def crcFeed (width poly : Nat) (refin : Bool) (crc : Nat) (bs : Bytes) : Nat :=
  bs.foldl (crcUpdate width poly refin) crc

/-- CRC-32C of a byte string: the signature of R156, and preset 2 of R600 without fold words. -/
def crc32c (bs : Bytes) : Nat :=
  (reflectBits 32 (crcFeed 32 0x1EDC6F41 true 0xFFFFFFFF bs)) ^^^ 0xFFFFFFFF

/-- CRC-64/ECMA-182 of a byte string, preset 3 of R600. -/
def crc64 (bs : Bytes) : Nat := crcFeed 64 0x42F0E1EBA9EA3693 false 0 bs

end Sys2Proof.Machine
end

