-- ==== Sys2Proof/Machine/StateRaster.lean ====
section
/-! DEFINITION. State of a station's raster engine and scheduler (R36 to R102), and of the translator on the management
cores (R56 to R58). -/
namespace Sys2Proof.Machine

/-- Where a job stands between its taking from the sluice and its completion record (R42, R83, R97). -/
inductive JobPhase where
  /-- Taken from the sluice; its payload is not yet read (R655). -/
  | taken
  /-- Its payload is read and it waits for its fence value (R40, R97). -/
  | fenceWait
  /-- Its fence is satisfied and it is no job for the planner: NOP, PIPELINE_LOAD or PIPELINE_DROP (R42). -/
  | queued
  /-- Presented and held by the planner (R97, R98). -/
  | deferred
  /-- Admitted: it may hold cores (R77). -/
  | admitted
  /-- A PIPELINE_LOAD at the translator (R56). -/
  | translating
  /-- Ended with a status and a detail; its completion record is not yet written (R44, R45). -/
  | ended (status detail : Nat)
deriving DecidableEq, Repr

/-- A unit of work the dispatcher hands to a core: a batch of primitives, a tile or a range of a split tile, a workgroup. -/
inductive WorkUnit where
  /-- A batch: the sequence of its first primitive, and how many it holds. -/
  | binBatch (first prims : Nat)
  /-- A tile, or range `part` of `parts`: its first place in the tile's list, and how many primitives it holds (R38). -/
  | tile (tx ty part parts first prims : Nat)
  | workgroup (index : Nat)
deriving DecidableEq, Repr

/-- An attachment record of R47. -/
structure Attachment where
  clear : Nat
  sigTable : Nat
  format : Nat
  samplesLog2 : Nat
  loadOp : Nat
  storeOp : Nat
  reserved : Nat
  pitch : Nat
  addr : Nat
deriving DecidableEq, Repr

/-- An entry of a binding table (R48). -/
structure BindingEntry where
  addr : Nat
  size : Nat
  dtype : Nat
  format : Nat
  mips : Nat
  layers : Nat
  sampler : Nat
deriving DecidableEq, Repr

/-- The primitives of one draw: the sequence of the first, how many, and the pipeline that draws them (R59). -/
structure DrawRun where
  first : Nat
  count : Nat
  pipeline : Nat
deriving DecidableEq, Repr

/-- The binding state a draw list builds (R48). -/
structure DrawState where
  pipeline : Option Nat := none
  sets : FMap Nat (List BindingEntry) := []
  push : Option (Nat × Nat) := none
  vertex : FMap Nat (Nat × Nat × Nat) := []
  index : Option (Nat × Nat × Nat) := none
  viewport : List Nat := []
  scissor : List Nat := []
  /-- Submission sequence of the next primitive (R59). -/
  nextSeq : Nat := 0
  /-- The draws so far, in list order. -/
  runs : List DrawRun := []
  /-- Offset of the next command. -/
  offset : Nat := 0
  /-- Binding has ended (R48). -/
  ended : Bool := false
deriving DecidableEq, Repr

/-- A saved context of a preempted core (R87, R327). -/
structure SavedCtx where
  slot : Nat
  len : Nat
  crc : Nat
  units : List WorkUnit
deriving DecidableEq, Repr

/-- A fragment that waits for earlier ranges or has been merged into tile memory: its sequence, and the pipeline that made it (R59). -/
structure SeqFrag where
  seq : Nat
  pipeline : Nat
  frag : Frag
deriving DecidableEq, Repr

/-- A range of a split tile that ended before an earlier range: the core whose scoreboard holds its fragments (R61). -/
structure HeldPart where
  part : Nat
  core : Nat
  frags : List SeqFrag
deriving DecidableEq, Repr

/-- A job of the station's job table (R40, R655). Times are in ns of device time. Work, the normalised estimates and run times, is in cycles
of the shader clock in units of ns × MHz: 1,500 of them are 1 ns normalised (R81). -/
structure Job where
  key : Nat
  tenant : Nat
  queue : Nat
  jobId : Nat
  jtype : Nat
  cls : Nat
  targetLayer : Nat
  timeEst : Nat
  energyEst : Nat
  payloadAddr : Nat
  payloadSize : Nat
  fenceWait : Option (Nat × Nat) := none
  fenceSignal : Option (Nat × Nat) := none
  irq : Bool := false
  writeSkip : Bool := false
  sigReset : Bool := false
  phase : JobPhase := .taken
  /-- Time of first presentation to the planner (R438). -/
  presentedAt : Nat := 0
  /-- The class of the slice when the job was presented last (R381). -/
  sliceClass : Nat := 1
  /-- Position in admission order (R78). -/
  admission : Nat := 0
  /-- Estimates fixed at admission (R80, R436). -/
  estWork : Nat := 0
  energyEstUj : Nat := 0
  /-- Handles the job names. -/
  handles : List Nat := []
  /-- Ready in the sense of R83, from this time. -/
  readyAt : Option Nat := none
  /-- The target boundary as last predicted, and the deadline point (R83, R86). -/
  boundary : Nat := 0
  deadline : Option Int := none
  urgent : Bool := false
  /-- It became urgent and its preemptions are still to be made (R87). -/
  preempts : Bool := false
  /-- It has missed a boundary: its deadline point is not recomputed (R86). -/
  missed : Bool := false
  /-- The time from which it has waited for a translation (R96). -/
  translFrom : Option Nat := none
  /-- Time after the deadline point with a ready unit and no core (R96). -/
  coresHeld : Nat := 0
  /-- A unit of it has been handed to a core. -/
  started : Bool := false
  coreNs : Nat := 0
  runWork : Nat := 0
  /-- Time holding cores at each operating point (R436). -/
  pointNs : FMap Nat Nat := []
  /-- Charge so far, in units of 10⁻⁵ µJ (R425). -/
  charged : Nat := 0
  draw : DrawState := {}
  atts : List Attachment := []
  width : Nat := 0
  height : Nat := 0
  binAddr : Nat := 0
  binSize : Nat := 0
  drawAddr : Nat := 0
  drawSize : Nat := 0
  /-- Primitives bound and not yet in a batch. -/
  toBin : Nat := 0
  binUsed : Nat := 0
  /-- The sequence of the next primitive to enter the bins. -/
  binNext : Nat := 0
  /-- The list of each tile: the sequences of its primitives, in order. -/
  tilePrims : FMap (Nat × Nat) (List Nat) := []
  /-- Primitives of ended batches that wait for an earlier batch or for an intermediate flush: the sequence of the first (R39). -/
  heldBins : List (Nat × List BinPrim) := []
  /-- The fragment phase is running: of the whole pass, or of an intermediate flush. -/
  fragPhase : Bool := false
  flushing : Bool := false
  flushed : Bool := false
  /-- Units not yet handed out, in order (R38). -/
  units : List WorkUnit := []
  /-- Tiles wholly stored in the last fragment phase. -/
  stored : List (Nat × Nat) := []
  /-- Ranges of tiles still to retire; the fragments merged in order; and the ranges that wait for an earlier one (R59, R61). -/
  partsLeft : FMap (Nat × Nat) Nat := []
  frags : FMap (Nat × Nat) (List SeqFrag) := []
  heldParts : FMap (Nat × Nat) (List HeldPart) := []
  /-- Cores that have taken a range of a split tile (R38). -/
  partCores : FMap (Nat × Nat) (List Nat) := []
  /-- Attachments whose signature table is treated as invalid in this pass (R64). -/
  sigInvalid : List Nat := []
  /-- Tiles written by this job to each attachment. -/
  attWritten : FMap Nat Nat := []
  tilesWritten : Nat := 0
  tilesSkipped : Nat := 0
  binFlushes : Nat := 0
  saved : List SavedCtx := []
  /-- The handle a PIPELINE_LOAD or PIPELINE_DROP names, and the record of a load (R50, R55). -/
  pipeHandle : Nat := 0
  record : Option PipelineRecord := none
  /-- The binding sets and the push data of a compute job (R48). -/
  sets : FMap Nat (List BindingEntry) := []
  push : Option (Nat × Nat) := none
deriving DecidableEq, Repr

/-- A shader core (R74, R87): its job, its units with their start times, a save in progress with its slot and the time of the urgent
transition that began it, or a restore in progress. -/
structure ShaderCore where
  job : Option Nat := none
  units : List (WorkUnit × Nat) := []
  saving : Option (Nat × Nat) := none
  restoring : Option SavedCtx := none
deriving DecidableEq, Repr

/-- An entry of a station's translation cache, keyed by tenant and handle (R53 to R58). -/
structure CacheEntry where
  tenant : Nat
  handle : Nat
  sizeKib : Nat
  version : Nat
  lastUse : Nat
  /-- Register and shared-memory state of one workgroup, in bytes (R75). -/
  stateBytes : Nat := 0
  /-- The pipeline writes storage buffers or images, or performs atomics (R88). -/
  sideEffects : Bool := false
  fixed : FixedFunction := {}
  /-- The copy of the SPIR-V modules (R58). -/
  modules : List Bytes := []
  dropPending : Bool := false
  withdrawn : Bool := false
  /-- The result of a background retranslation that waits to be swapped in: KiB, state bytes, side effects, version (R58). -/
  renewed : Option (Nat × Nat × Bool × Nat) := none
  /-- Replaced; kept for the jobs listed, admitted before the replacement (R55). -/
  replacedFor : Option (List Nat) := none
deriving DecidableEq, Repr

/-- A request at the translator: the station and the job, or a background retranslation of an entry; the modules and the fixed-function
block it works on (R56, R58). -/
structure TransReq where
  station : Nat
  tenant : Nat
  handle : Nat
  job : Option Nat
  modules : List Bytes
  fixed : FixedFunction := {}
deriving DecidableEq, Repr

/-- The translator: requests in arrival order, background retranslations, and the one in progress (R56, R58). -/
structure Translator where
  queue : List TransReq := []
  background : List TransReq := []
  current : Option TransReq := none
deriving DecidableEq, Repr

/-- The raster engine and scheduler of a station. -/
structure Raster where
  jobs : List Job := []
  cores : List ShaderCore := [{}, {}, {}, {}]
  nextKey : Nat := 0
  nextAdmission : Nat := 0
  cache : List CacheEntry := []
  /-- Work of the last 16 jobs, by tenant and class (R80, R81), newest first. -/
  history : FMap (Nat × Nat) (List Nat) := []
  /-- Normalised charges of the last 16 jobs, by tenant and class (R436), newest first. -/
  energyHistory : FMap (Nat × Nat) (List Nat) := []
  /-- When each tenant last had a job presented or admitted (R434). -/
  activeAt : FMap Nat Nat := []
  /-- Slots of the save area in use (R76). -/
  slotsUsed : List Nat := []
  /-- The size of the translation cache reserved at the last STARTING, in MiB (R58, R73). -/
  cacheMib : Nat := 0
  /-- Core time since the last energy sample, in ns, by job with its tenant; a core that saves or restores counts for the job it
  preempts (R91, R423). -/
  shares : FMap (Nat × Nat) Nat := []
  /-- Core time since the last energy sample in which a core was idle, in ns. -/
  idle : Nat := 0
deriving DecidableEq, Repr

end Sys2Proof.Machine
end

