-- ==== Sys2Proof/Machine/Fragments.lean ====
section
/-! DEFINITION. Fragments retiring into tile memory: order, depth and stencil tests, blending (R38, R59 to R61, R657). -/
namespace Sys2Proof.Machine

/-! ### Attachments -/

/-- Attachment formats: bytes per sample, and whether the format is a depth format (R49). -/
def attFormat : Nat → Option (Nat × Bool)
  | 0x01 | 0x02 | 0x08 | 0x09 | 0x0A => some (4, false)
  | 0x03 | 0x06 | 0x07 => some (2, false)
  | 0x04 => some (8, false)
  | 0x05 => some (1, false)
  | 0x0B => some (16, false)
  | 0x10 => some (2, true)
  | 0x11 | 0x12 => some (4, true)
  | 0x13 => some (8, true)
  | _ => none

def Attachment.bps (a : Attachment) : Nat := ((attFormat a.format).map (·.1)).getD 0
def Attachment.isDepth (a : Attachment) : Bool := ((attFormat a.format).map (·.2)).getD false
def Attachment.samples (a : Attachment) : Nat := 2 ^ a.samplesLog2

/-! ### Depth and stencil -/

/-- A comparison in Vulkan 1.3 numbering: 0 NEVER to 7 ALWAYS. -/
def compareBy (op : Nat) (a b : Int) : Bool :=
  match op with
  | 1 => decide (a < b)
  | 2 => decide (a = b)
  | 3 => decide (a ≤ b)
  | 4 => decide (b < a)
  | 5 => decide (a ≠ b)
  | 6 => decide (b ≤ a)
  | 7 => true
  | _ => false

/-- A binary32 value that is no NaN, in its order. -/
def f32Order (w : Nat) : Int := if w < 2 ^ 31 then (w : Int) else -((w - 2 ^ 31 : Nat) : Int)

/-- A binary32 value is a NaN. -/
def f32IsNan (w : Nat) : Bool := 0x7F800000 < w % 2 ^ 31

/-- Depth values of a format compared (R657): unsigned normalised as numbers, binary32 in its order; a NaN equals nothing. -/
def depthPasses (format op a b : Nat) : Bool :=
  if (format = 0x12 || format = 0x13) then
    (if f32IsNan a || f32IsNan b then op = 5 || op = 7 else compareBy op (f32Order a) (f32Order b))
  else compareBy op a b

/-- The depth and the stencil of a sample in the layout of its format (R657). -/
def sampleDepth (format : Nat) (b : Bytes) : Nat := if format = 0x11 then fieldLE b 0 3 else if format = 0x13 then fieldLE b 0 4 else ofLE b
def sampleStencil (format : Nat) (b : Bytes) : Option Nat :=
  if format = 0x11 then some (byteAt b 3) else if format = 0x13 then some (byteAt b 4) else none

/-- A sample of a depth format from its depth and stencil (R657). -/
def depthSample (format depth stencil : Nat) : Bytes :=
  if format = 0x10 then toLE 2 depth
  else if format = 0x11 then toLE 3 depth ++ toLE 1 stencil
  else if format = 0x12 then toLE 4 depth
  else toLE 4 depth ++ toLE 1 stencil ++ toLE 3 0

/-- A sample as it is stored, and as it is taken from memory: bytes 5 to 7 of D32FS8 are 0 (R657). -/
def cleanSample (format : Nat) (b : Bytes) : Bytes := if format = 0x13 then padTo 8 (b.take 5) else b

/-- A stencil operation in Vulkan 1.3 numbering. -/
def stencilOp (op v reference : Nat) : Nat :=
  match op with
  | 0 => v
  | 1 => 0
  | 2 => reference % 256
  | 3 => min 255 (v + 1)
  | 4 => v - 1
  | 5 => 255 - v
  | 6 => (v + 1) % 256
  | 7 => (v + 255) % 256
  | _ => v

/-- The bits of a mask taken from `new`, the others kept. -/
def maskInto (mask old new : Nat) : Nat := Nat.xor (Nat.land new mask) (Nat.land old (255 - mask % 256))

/-- The stencil test and then the depth test of a fragment on a sample: whether it passes, and the sample after it (R60). -/
def depthStencil (format : Nat) (ff : FixedFunction) (f : Frag) (sample : Bytes) : Bool × Bytes :=
  let face := if f.back then ff.back else ff.front
  let d := sampleDepth format sample
  let st := (sampleStencil format sample).getD 0
  let sPass := !ff.stencilTest || (sampleStencil format sample).isNone
    || compareBy face.compareOp (Nat.land face.reference face.compareMask : Nat) (Nat.land st face.compareMask : Nat)
  let dPass := !ff.depthTest || depthPasses format ff.depthOp f.depth d
  let op := if !sPass then face.failOp else if dPass then face.passOp else face.depthFailOp
  let st' := if ff.stencilTest then maskInto face.writeMask st (stencilOp op st face.reference) else st
  let pass := sPass && dPass
  let d' := if pass && ff.depthTest && ff.depthWrite then f.depth else d
  (pass, depthSample format d' st')

/-! ### Retirement -/

/-- Tile memory: the samples of each attachment, by its number. -/
abbrev TileMem := FMap Nat (List Bytes)

/-- A sample of an attachment in tile memory, `none` where the tile or the attachment has no such sample. -/
def tileIndex (w h samples : Nat) (f : Frag) : Option Nat :=
  if f.x < w && f.y < h && f.sample < samples then some ((f.y * w + f.x) * samples + f.sample) else none

/-- A list with one place replaced. -/
def setNth {α : Type} (l : List α) (i : Nat) (v : α) : List α := l.take i ++ (if i < l.length then [v] else []) ++ l.drop (i + 1)

/-- The colours of a fragment enter tile memory, blended where the pipeline blends (R59). -/
def writeColours (w h : Nat) (atts : List (Nat × Attachment)) (ff : FixedFunction) (f : Frag) (t : TileMem) : TileMem :=
  f.colours.foldl (fun (t : TileMem) (c : Nat × Bytes) =>
    match atts.find? (fun a => a.1 = c.1 && !a.2.isDepth) with
    | none => t
    | some (ix, a) =>
      match tileIndex w h a.samples f with
      | none => t
      | some p =>
        let old := (t.getD ix []).getD p []
        let state := ff.blend.getD ix 0
        let new := if state = 0 then padTo a.bps c.2 else padTo a.bps (Config.blend a.format state c.2 old)
        t.put ix (setNth (t.getD ix []) p new)) t

/-- A fragment retires: a discarded one changes nothing; of any other the tests are made, the depth and stencil written, and, where they pass,
the colours (R59, R60). -/
def retireOne (w h : Nat) (atts : List (Nat × Attachment)) (ff : FixedFunction) (t : TileMem) (f : Frag) : TileMem :=
  if f.discarded then t
  else match atts.find? (fun a => a.2.isDepth) with
    | none => writeColours w h atts ff f t
    | some (ix, a) =>
      match tileIndex w h a.samples f with
      | none => writeColours w h atts ff f t
      | some p =>
        let (pass, sample) := depthStencil a.format ff f ((t.getD ix []).getD p [])
        let t := t.put ix (setNth (t.getD ix []) p sample)
        if pass then writeColours w h atts ff f t else t

/-- Fragments in increasing sequence; those of equal sequence keep their order (R59). -/
def seqSort (l : List SeqFrag) : List SeqFrag :=
  let rec ins (f : SeqFrag) : List SeqFrag → List SeqFrag
    | [] => [f]
    | g :: rest => if f.seq < g.seq then f :: g :: rest else g :: ins f rest
  l.foldl (fun acc f => ins f acc) []

/-- Fragments retire into tile memory in increasing sequence (R59, R60): in a split tile as the ranges are merged, in any other in the order in
which its one core tests them. -/
def retire (w h : Nat) (atts : List (Nat × Attachment)) (ff : Nat → FixedFunction) (base : TileMem) (frags : List SeqFrag) : TileMem :=
  (seqSort frags).foldl (fun t f => retireOne w h atts (ff f.pipeline) t f.frag) base

/-! ### The scoreboard -/

/-- Fragment quads among fragments: blocks of 2 × 2 pixels of one primitive (R61). -/
def quadCount (l : List SeqFrag) : Nat := ((l.map fun f => (f.seq, f.frag.x / 2, f.frag.y / 2)).eraseDups).length

/-- Fragment quads a core's scoreboard holds that wait for an earlier sequence (R61). -/
def waitingQuads (jobs : List Job) (core : Nat) : Nat :=
  (jobs.flatMap fun j => j.heldParts.flatMap fun e => (e.2.filter (·.core = core)).map fun p => quadCount p.frags).sum

/-- The ranges from `next` on that have all come in, in order, and the ranges still held (R59, R61). -/
def readyParts : Nat → Nat → List HeldPart → List SeqFrag × Nat × List HeldPart
  | 0, next, held => ([], next, held)
  | fuel + 1, next, held =>
    match held.find? (·.part = next) with
    | none => ([], next, held)
    | some p =>
      let (fs, k, rest) := readyParts fuel (next + 1) (held.filter (·.part ≠ next))
      (p.frags ++ fs, k, rest)

end Sys2Proof.Machine
end

