-- ==== Sys2Proof/Machine/ObjectsDevice.lean ====
section
/-! DEFINITION. The rows of the object dictionary, areas 0 to 7: one definition per object table row of the spec, with the
rule whose table gives it. -/
namespace Sys2Proof.Machine.Obj

/-- R35. -/
def DEVICE_STATE : ObjRow := ⟨"DEVICE_STATE", false, 0, 0x0010, 1, 0x00, 1, .u8, .ro, .basic, [1], [(1, 4, 1)], false, false, false⟩
/-- R35. -/
def DEVICE_REQUEST : ObjRow := ⟨"DEVICE_REQUEST", false, 0, 0x0012, 1, 0x00, 1, .u8, .wo, .expert, [0], [(0, 0, 1), (4, 4, 1), (5, 5, 1)], false, false, false⟩
/-- R382. -/
def PORT_STATE : ObjRow := ⟨"PORT_STATE", false, 3, 0x0010, 2, 0x01, 1, .u8, .ro, .basic, [0], [(0, 4, 1)], false, false, false⟩
/-- R382. -/
def LINK_SPEED : ObjRow := ⟨"LINK_SPEED", false, 3, 0x0010, 2, 0x02, 1, .u8, .ro, .basic, [0], [(0, 5, 1)], false, false, false⟩
/-- R382. -/
def LINK_WIDTH : ObjRow := ⟨"LINK_WIDTH", false, 3, 0x0010, 2, 0x03, 1, .u8, .ro, .basic, [0], [(0, 8, 1)], false, false, false⟩
/-- R382. -/
def MAX_SPEED : ObjRow := ⟨"MAX_SPEED", false, 3, 0x0010, 2, 0x04, 1, .u8, .rw, .expert, [5], [(3, 5, 1)], false, true, false⟩
/-- R382. -/
def MAX_WIDTH : ObjRow := ⟨"MAX_WIDTH", false, 3, 0x0010, 2, 0x05, 1, .u8, .rw, .expert, [8], [(1, 1, 1), (2, 2, 1), (4, 4, 1), (8, 8, 1)], false, true, false⟩
/-- R382. -/
def CLOCK_MODE : ObjRow := ⟨"CLOCK_MODE", false, 3, 0x0010, 2, 0x06, 1, .u8, .rw, .expert, [0], [(0, 0, 1), (1, 1, 1)], false, true, false⟩
/-- R382. -/
def HOST_LEVEL : ObjRow := ⟨"HOST_LEVEL", false, 3, 0x0010, 2, 0x07, 1, .u8, .rw, .expert, [1], [(0, 2, 1)], false, true, false⟩
/-- R382. -/
def SLICES_BOUND : ObjRow := ⟨"SLICES_BOUND", false, 3, 0x0010, 2, 0x08, 1, .u16, .ro, .basic, [0], [(0, 512, 1)], false, false, false⟩
/-- R382. -/
def LINK_DOWNS : ObjRow := ⟨"LINK_DOWNS", false, 3, 0x0010, 2, 0x09, 1, .u32, .ro, .basic, [0], [(0, 4294967295, 1)], false, false, false⟩
/-- R382. -/
def FLRS : ObjRow := ⟨"FLRS", false, 3, 0x0010, 2, 0x0A, 1, .u32, .ro, .basic, [0], [(0, 4294967295, 1)], false, false, false⟩
/-- R382. -/
def INERT_WRITES : ObjRow := ⟨"INERT_WRITES", false, 3, 0x0010, 2, 0x0B, 1, .u32, .ro, .basic, [0], [(0, 4294967295, 1)], false, false, false⟩
/-- R382. -/
def QUARANTINE_THRESHOLD : ObjRow := ⟨"QUARANTINE_THRESHOLD", false, 3, 0x0020, 1, 0x01, 1, .u16, .rw, .expert, [16], [(0, 65535, 1)], false, true, false⟩
/-- R382. -/
def QUARANTINE_WINDOW_MS : ObjRow := ⟨"QUARANTINE_WINDOW_MS", false, 3, 0x0020, 1, 0x02, 1, .u16, .rw, .expert, [1000], [(10, 60000, 1)], false, true, false⟩
/-- R382. -/
def SLICE_ENABLE : ObjRow := ⟨"SLICE_ENABLE", false, 3, 0x1000, 1, 0x01, 1, .bool, .rw, .expert, [0], [(0, 0, 1), (1, 1, 1)], true, true, false⟩
/-- R382. -/
def SLICE_PORT : ObjRow := ⟨"SLICE_PORT", false, 3, 0x1000, 1, 0x02, 1, .u8, .rw, .expert, [0], [(0, 0, 1), (1, 1, 1)], true, true, false⟩
/-- R382. -/
def SLICE_PASID : ObjRow := ⟨"SLICE_PASID", false, 3, 0x1000, 1, 0x03, 1, .u32, .rw, .expert, [0], [(0, 1048575, 1)], true, true, false⟩
/-- R382. -/
def SLICE_CLASS : ObjRow := ⟨"SLICE_CLASS", false, 3, 0x1000, 1, 0x04, 1, .u8, .rw, .expert, [1], [(0, 2, 1)], true, true, false⟩
/-- R382. -/
def SLICE_STATIONS : ObjRow := ⟨"SLICE_STATIONS", false, 3, 0x1000, 1, 0x05, 1, .u8, .rw, .expert, [0], [(0, 255, 1)], true, true, false⟩
/-- R382. -/
def SLICE_STATE : ObjRow := ⟨"SLICE_STATE", false, 3, 0x1000, 1, 0x06, 1, .u8, .ro, .basic, [0], [(0, 4, 1)], true, false, false⟩
/-- R382. -/
def SPOOF_COUNT : ObjRow := ⟨"SPOOF_COUNT", false, 3, 0x1000, 1, 0x07, 1, .u32, .ro, .basic, [0], [(0, 4294967295, 1)], true, false, false⟩
/-- R382. -/
def SPOOF_LAST : ObjRow := ⟨"SPOOF_LAST", false, 3, 0x1000, 1, 0x08, 1, .u16, .ro, .basic, [0], [(0, 65535, 1)], true, false, false⟩
/-- R382. -/
def QUARANTINE_RELEASE : ObjRow := ⟨"QUARANTINE_RELEASE", false, 3, 0x1000, 1, 0x09, 1, .bool, .wo, .expert, [0], [(0, 0, 1), (1, 1, 1)], true, false, false⟩
/-- R382. -/
def SLICE_RESET : ObjRow := ⟨"SLICE_RESET", false, 3, 0x1000, 1, 0x0A, 1, .bool, .wo, .expert, [0], [(0, 0, 1), (1, 1, 1)], true, false, false⟩
/-- R382. -/
def SEALED : ObjRow := ⟨"SEALED", false, 3, 0x1000, 1, 0x0B, 1, .bool, .ro, .basic, [0], [(0, 0, 1), (1, 1, 1)], true, false, false⟩
/-- R382. -/
def TOUCH_LAND_ADDR : ObjRow := ⟨"TOUCH_LAND_ADDR", false, 3, 0x1000, 1, 0x0C, 1, .u64, .rw, .basic, [0], [(0, 18446744073709551615, 1)], true, false, false⟩
/-- R382. -/
def TOUCH_LAND_ENTRIES : ObjRow := ⟨"TOUCH_LAND_ENTRIES", false, 3, 0x1000, 1, 0x0D, 1, .u16, .rw, .basic, [64], [(64, 64, 1), (128, 128, 1), (256, 256, 1), (512, 512, 1), (1024, 1024, 1), (2048, 2048, 1), (4096, 4096, 1)], true, false, false⟩
/-- R382. -/
def NOTIFY_LAND_ADDR : ObjRow := ⟨"NOTIFY_LAND_ADDR", false, 3, 0x1000, 1, 0x0E, 1, .u64, .rw, .basic, [0], [(0, 18446744073709551615, 1)], true, false, false⟩
/-- R382. -/
def NOTIFY_LAND_ENTRIES : ObjRow := ⟨"NOTIFY_LAND_ENTRIES", false, 3, 0x1000, 1, 0x0F, 1, .u16, .rw, .basic, [64], [(64, 64, 1), (128, 128, 1), (256, 256, 1), (512, 512, 1), (1024, 1024, 1), (2048, 2048, 1), (4096, 4096, 1)], true, false, false⟩
/-- R382. -/
def LAND_SHADOW_ADDR : ObjRow := ⟨"LAND_SHADOW_ADDR", false, 3, 0x1000, 1, 0x10, 1, .u64, .rw, .basic, [0], [(0, 18446744073709551615, 8)], true, false, false⟩
/-- R382. -/
def VECTOR_MAP : ObjRow := ⟨"VECTOR_MAP", false, 3, 0x1000, 1, 0x11, 1, .u8, .rw, .basic, [57], [(0, 63, 1)], true, false, false⟩
/-- R382. -/
def RIGHTS : ObjRow := ⟨"RIGHTS", false, 3, 0x1100, 8, 0x01, 1, .u32, .rw, .expert, [0], [(0, 511, 1)], true, true, false⟩
/-- R382. -/
def LAYER_MASK : ObjRow := ⟨"LAYER_MASK", false, 3, 0x1100, 8, 0x02, 1, .u16, .rw, .expert, [0], [(0, 65535, 1)], true, true, false⟩
/-- R382. -/
def GUARD_MASK : ObjRow := ⟨"GUARD_MASK", false, 3, 0x1100, 8, 0x03, 1, .u32, .rw, .expert, [0], [(0, 4294967295, 1)], true, true, false⟩
/-- R382. -/
def ZONE_MASK : ObjRow := ⟨"ZONE_MASK", false, 3, 0x1100, 8, 0x04, 1, .u16, .rw, .expert, [0], [(0, 65535, 1)], true, true, false⟩
/-- R382. -/
def SOURCE_MASK : ObjRow := ⟨"SOURCE_MASK", false, 3, 0x1100, 8, 0x05, 1, .u16, .rw, .expert, [0], [(0, 65535, 1)], true, true, false⟩
/-- R382. -/
def WINDOW : ObjRow := ⟨"WINDOW", false, 3, 0x1200, 8, 0x01, 16, .u64, .rw, .expert, [0], [(0, 18446744073709551615, 1)], true, true, false⟩
/-- R382. -/
def RING_ENABLE : ObjRow := ⟨"RING_ENABLE", false, 3, 0x1300, 32, 0x01, 1, .bool, .rw, .basic, [0], [(0, 0, 1), (1, 1, 1)], true, false, false⟩
/-- R382. -/
def RING_KIND : ObjRow := ⟨"RING_KIND", false, 3, 0x1300, 32, 0x02, 1, .u8, .rw, .basic, [0], [(0, 0, 1), (1, 1, 1)], true, false, false⟩
/-- R382. -/
def RING_ADDR : ObjRow := ⟨"RING_ADDR", false, 3, 0x1300, 32, 0x03, 1, .u64, .rw, .basic, [0], [(0, 18446744073709551615, 64)], true, false, false⟩
/-- R382. -/
def RING_ENTRIES : ObjRow := ⟨"RING_ENTRIES", false, 3, 0x1300, 32, 0x04, 1, .u16, .rw, .basic, [256], [(16, 16, 1), (32, 32, 1), (64, 64, 1), (128, 128, 1), (256, 256, 1), (512, 512, 1), (1024, 1024, 1), (2048, 2048, 1), (4096, 4096, 1)], true, false, false⟩
/-- R382. -/
def COMP_ADDR : ObjRow := ⟨"COMP_ADDR", false, 3, 0x1300, 32, 0x05, 1, .u64, .rw, .basic, [0], [(0, 18446744073709551615, 32)], true, false, false⟩
/-- R382. -/
def SHADOW_ADDR : ObjRow := ⟨"SHADOW_ADDR", false, 3, 0x1300, 32, 0x06, 1, .u64, .rw, .basic, [0], [(0, 18446744073709551615, 8)], true, false, false⟩
/-- R382. -/
def RING_VECTOR : ObjRow := ⟨"RING_VECTOR", false, 3, 0x1300, 32, 0x07, 1, .u8, .rw, .basic, [0], [(0, 3, 1)], true, false, false⟩
/-- R382. -/
def RING_STATE : ObjRow := ⟨"RING_STATE", false, 3, 0x1300, 32, 0x08, 1, .u8, .ro, .basic, [0], [(0, 2, 1)], true, false, false⟩
/-- R416. -/
def SEC_STATE : ObjRow := ⟨"SEC_STATE", false, 6, 0x0000, 1, 0x00, 1, .u8, .ro, .basic, [0], [(0, 3, 1)], false, false, false⟩
/-- R416. -/
def SEC_RESTARTS : ObjRow := ⟨"SEC_RESTARTS", false, 6, 0x0001, 1, 0x00, 1, .u32, .ro, .basic, [0], [(0, 4294967295, 1)], false, false, false⟩
/-- R416. -/
def SEC_WATCHDOG_EXPIRIES : ObjRow := ⟨"SEC_WATCHDOG_EXPIRIES", false, 6, 0x0002, 1, 0x00, 1, .u8, .ro, .basic, [0], [(0, 2, 1)], false, false, false⟩
/-- R416. -/
def ENCLAVE_AUTHORITY_HASH : ObjRow := ⟨"ENCLAVE_AUTHORITY_HASH", false, 6, 0x0010, 1, 0x00, 1, .blob, .rw, .secure, [], [], false, true, false⟩
/-- R416. -/
def WATCHDOG_TIMEOUT_MS : ObjRow := ⟨"WATCHDOG_TIMEOUT_MS", false, 6, 0x0020, 1, 0x00, 1, .u16, .rw, .expert, [2000], [(500, 10000, 1)], false, true, false⟩
/-- R416. -/
def ENCLAVE_STATE : ObjRow := ⟨"ENCLAVE_STATE", false, 6, 0x1000, 64, 0x01, 1, .u8, .ro, .basic, [0], [(0, 4, 1)], false, false, false⟩
/-- R416. -/
def ENCLAVE_IDENTITY : ObjRow := ⟨"ENCLAVE_IDENTITY", false, 6, 0x1000, 64, 0x02, 1, .blob, .ro, .basic, [], [], false, false, false⟩
/-- R416. -/
def SPONSOR : ObjRow := ⟨"SPONSOR", false, 6, 0x1000, 64, 0x03, 1, .u16, .rw, .expert, [65535], [(0, 511, 1), (65535, 65535, 1)], false, false, false⟩
/-- R416. -/
def GRANT_STATIONS : ObjRow := ⟨"GRANT_STATIONS", false, 6, 0x1000, 64, 0x04, 1, .u8, .rw, .expert, [0], [(0, 255, 1)], false, false, false⟩
/-- R416. -/
def GRANT_LAYERS : ObjRow := ⟨"GRANT_LAYERS", false, 6, 0x1000, 64, 0x05, 1, .u16, .rw, .expert, [0], [(0, 65535, 1)], false, false, false⟩
/-- R416. -/
def GRANT_GUARDS : ObjRow := ⟨"GRANT_GUARDS", false, 6, 0x1000, 64, 0x06, 1, .u32, .rw, .expert, [0], [(0, 4294967295, 1)], false, false, false⟩
/-- R416. -/
def GRANT_ZONES : ObjRow := ⟨"GRANT_ZONES", false, 6, 0x1000, 64, 0x07, 1, .u16, .rw, .expert, [0], [(0, 65535, 1)], false, false, false⟩
/-- R416. -/
def GRANT_SOURCES : ObjRow := ⟨"GRANT_SOURCES", false, 6, 0x1000, 64, 0x08, 1, .u16, .rw, .expert, [0], [(0, 65535, 1)], false, false, false⟩
/-- R416. -/
def IMAGE_LOCATION : ObjRow := ⟨"IMAGE_LOCATION", false, 6, 0x1000, 64, 0x09, 1, .u64, .rw, .expert, [0], [(0, 18446744073709551615, 1)], false, false, false⟩
/-- R416. -/
def ENCLAVE_COMMAND : ObjRow := ⟨"ENCLAVE_COMMAND", false, 6, 0x1000, 64, 0x0A, 1, .u8, .wo, .expert, [0], [(1, 4, 1)], false, false, false⟩
/-- R416. -/
def ENCLAVE_RESULT : ObjRow := ⟨"ENCLAVE_RESULT", false, 6, 0x1000, 64, 0x0B, 1, .u8, .ro, .basic, [0], [(0, 7, 1)], false, false, true⟩
/-- R416. -/
def RANGE_FAULTS : ObjRow := ⟨"RANGE_FAULTS", false, 6, 0x1000, 64, 0x0C, 1, .u32, .ro, .basic, [0], [(0, 4294967295, 1)], false, false, false⟩
/-- R416. -/
def RANGE : ObjRow := ⟨"RANGE", false, 6, 0x1000, 64, 0x10, 8, .u64, .rw, .expert, [0], [(0, 18446744073709551615, 1)], false, false, false⟩
/-- R416. -/
def INBOX : ObjRow := ⟨"INBOX", false, 6, 0x1100, 64, 0x01, 1, .blob, .wo, .basic, [], [], false, false, false⟩
/-- R416. -/
def OUTBOX : ObjRow := ⟨"OUTBOX", false, 6, 0x1100, 64, 0x02, 1, .blob, .ro, .basic, [], [], false, false, true⟩
/-- R416. -/
def ENCLAVE_DESTROY : ObjRow := ⟨"ENCLAVE_DESTROY", false, 6, 0x1100, 64, 0x03, 1, .bool, .wo, .basic, [0], [(0, 0, 1), (1, 1, 1)], false, false, false⟩
/-- R416. -/
def MEASUREMENT : ObjRow := ⟨"MEASUREMENT", false, 6, 0x2000, 1, 0x01, 6, .blob, .ro, .basic, [], [], false, false, false⟩
/-- R416. -/
def ATTEST_CHALLENGE : ObjRow := ⟨"ATTEST_CHALLENGE", false, 6, 0x2010, 1, 0x00, 1, .blob, .wo, .basic, [], [], false, false, false⟩
/-- R416. -/
def ATTEST_REPORT : ObjRow := ⟨"ATTEST_REPORT", false, 6, 0x2011, 1, 0x00, 1, .blob, .ro, .basic, [], [], false, false, true⟩
/-- R416. -/
def DEBUG_LEVEL : ObjRow := ⟨"DEBUG_LEVEL", false, 6, 0x3000, 1, 0x00, 1, .u8, .ro, .basic, [0], [(0, 3, 1)], false, false, false⟩
/-- R416. -/
def DEBUG_CHALLENGE : ObjRow := ⟨"DEBUG_CHALLENGE", false, 6, 0x3001, 1, 0x00, 1, .blob, .ro, .expert, [], [], false, false, false⟩
/-- R416. -/
def DEBUG_RESPONSE : ObjRow := ⟨"DEBUG_RESPONSE", false, 6, 0x3002, 1, 0x00, 1, .blob, .wo, .expert, [], [], false, false, false⟩
/-- R416. -/
def DEBUG_RESULT : ObjRow := ⟨"DEBUG_RESULT", false, 6, 0x3003, 1, 0x00, 1, .u8, .ro, .expert, [0], [(0, 4, 1)], false, false, true⟩
/-- R450. -/
def DEVICE_BUDGET_MW : ObjRow := ⟨"DEVICE_BUDGET_MW", false, 1, 0x0001, 1, 0x00, 1, .u32, .rw, .basic, [60000], [(20000, 110000, 1)], false, true, false⟩
/-- R450. -/
def EFFECTIVE_BUDGET_MW : ObjRow := ⟨"EFFECTIVE_BUDGET_MW", false, 1, 0x0002, 1, 0x00, 1, .u32, .ro, .basic, [0], [(0, 4294967295, 1)], false, false, false⟩
/-- R450. -/
def INPUT_POWER_MW : ObjRow := ⟨"INPUT_POWER_MW", false, 1, 0x0003, 1, 0x00, 1, .u32, .ro, .basic, [0], [(0, 4294967295, 1)], false, false, false⟩
/-- R450. -/
def LOSS_MW : ObjRow := ⟨"LOSS_MW", false, 1, 0x0004, 1, 0x00, 1, .u32, .ro, .basic, [0], [(0, 4294967295, 1)], false, false, false⟩
/-- R450. -/
def HEADWORKS_RESERVE_MW : ObjRow := ⟨"HEADWORKS_RESERVE_MW", false, 1, 0x0005, 1, 0x00, 1, .u32, .ro, .basic, [0], [(0, 4294967295, 1)], false, false, false⟩
/-- R450. -/
def BUDGET_SHORT : ObjRow := ⟨"BUDGET_SHORT", false, 1, 0x0006, 1, 0x00, 1, .bool, .ro, .basic, [0], [(0, 0, 1), (1, 1, 1)], false, false, false⟩
/-- R450. -/
def INPUT_ENERGY_UJ : ObjRow := ⟨"INPUT_ENERGY_UJ", false, 1, 0x0007, 1, 0x00, 1, .u64, .ro, .basic, [0], [(0, 18446744073709551615, 1)], false, false, false⟩
/-- R450. -/
def HEADWORKS_ENERGY_UJ : ObjRow := ⟨"HEADWORKS_ENERGY_UJ", false, 1, 0x0008, 1, 0x00, 1, .u64, .ro, .basic, [0], [(0, 18446744073709551615, 1)], false, false, false⟩
/-- R450. -/
def TJ_C : ObjRow := ⟨"TJ_C", false, 1, 0x0010, 1, 0x01, 1, .i16, .ro, .basic, [0], [(-40, 125, 1)], false, false, false⟩
/-- R450. -/
def TJ_SOFT_C : ObjRow := ⟨"TJ_SOFT_C", false, 1, 0x0010, 1, 0x02, 1, .u8, .rw, .basic, [95], [(60, 105, 1)], false, true, false⟩
/-- R450. -/
def THERMAL_DERATING : ObjRow := ⟨"THERMAL_DERATING", false, 1, 0x0010, 1, 0x03, 1, .bool, .ro, .basic, [0], [(0, 0, 1), (1, 1, 1)], false, false, false⟩
/-- R450. -/
def WEIR_STATE : ObjRow := ⟨"WEIR_STATE", false, 1, 0x0020, 1, 0x01, 1, .u8, .ro, .basic, [0], [(0, 3, 1)], false, false, false⟩
/-- R450. -/
def WEIR_EVENTS : ObjRow := ⟨"WEIR_EVENTS", false, 1, 0x0020, 1, 0x02, 1, .u32, .ro, .basic, [0], [(0, 4294967295, 1)], false, false, false⟩
/-- R450. -/
def WEIR_SATURATIONS : ObjRow := ⟨"WEIR_SATURATIONS", false, 1, 0x0020, 1, 0x03, 1, .u32, .ro, .basic, [0], [(0, 4294967295, 1)], false, false, false⟩
/-- R450. -/
def BASE_MARGIN_PCT : ObjRow := ⟨"BASE_MARGIN_PCT", false, 1, 0x0800, 1, 0x01, 1, .u8, .rw, .expert, [10], [(0, 50, 1)], false, true, false⟩
/-- R450. -/
def ALLOT_STEP_PCT : ObjRow := ⟨"ALLOT_STEP_PCT", false, 1, 0x0800, 1, 0x02, 1, .u8, .rw, .expert, [10], [(1, 100, 1)], false, true, false⟩
/-- R450. -/
def ALLOT_STEP_MIN_MW : ObjRow := ⟨"ALLOT_STEP_MIN_MW", false, 1, 0x0800, 1, 0x03, 1, .u16, .rw, .expert, [250], [(0, 10000, 1)], false, true, false⟩
/-- R450. -/
def STATION_ALLOTMENT_MW : ObjRow := ⟨"STATION_ALLOTMENT_MW", false, 1, 0x1000, 8, 0x01, 1, .u32, .ro, .basic, [0], [(0, 4294967295, 1)], false, false, false⟩
/-- R450. -/
def STATION_BASE_MW : ObjRow := ⟨"STATION_BASE_MW", false, 1, 0x1000, 8, 0x02, 1, .u32, .ro, .basic, [0], [(0, 4294967295, 1)], false, false, false⟩
/-- R450. -/
def SHADER_DRAW_MW : ObjRow := ⟨"SHADER_DRAW_MW", false, 1, 0x1000, 8, 0x03, 1, .u32, .ro, .basic, [0], [(0, 4294967295, 1)], false, false, false⟩
/-- R450. -/
def STATION_DEMAND_MW : ObjRow := ⟨"STATION_DEMAND_MW", false, 1, 0x1000, 8, 0x04, 1, .u32, .ro, .basic, [0], [(0, 4294967295, 1)], false, false, false⟩
/-- R450. -/
def SHADER_POINT : ObjRow := ⟨"SHADER_POINT", false, 1, 0x1000, 8, 0x05, 1, .u8, .ro, .basic, [0], [(0, 7, 1)], false, false, false⟩
/-- R450. -/
def WEIR_DIVISOR : ObjRow := ⟨"WEIR_DIVISOR", false, 1, 0x1000, 8, 0x06, 1, .u8, .ro, .basic, [1], [(1, 1, 1), (2, 2, 1), (4, 4, 1), (8, 8, 1)], false, false, false⟩
/-- R450. -/
def SHEDDING : ObjRow := ⟨"SHEDDING", false, 1, 0x1000, 8, 0x07, 1, .bool, .ro, .basic, [0], [(0, 0, 1), (1, 1, 1)], false, false, false⟩
/-- R450. -/
def STATION_WEIGHT : ObjRow := ⟨"STATION_WEIGHT", false, 1, 0x1000, 8, 0x08, 1, .u16, .rw, .basic, [100], [(1, 1000, 1)], false, true, false⟩
/-- R450. -/
def POINT_CEILING : ObjRow := ⟨"POINT_CEILING", false, 1, 0x1000, 8, 0x09, 1, .u8, .rw, .basic, [0], [(0, 7, 1)], false, true, false⟩
/-- R450. -/
def SLOW_FLOOR : ObjRow := ⟨"SLOW_FLOOR", false, 1, 0x1000, 8, 0x0A, 1, .u8, .rw, .basic, [7], [(0, 7, 1)], false, true, false⟩
/-- R450. -/
def CLASS_WEIGHT_GUARDED : ObjRow := ⟨"CLASS_WEIGHT_GUARDED", false, 1, 0x1000, 8, 0x0B, 1, .u8, .rw, .basic, [8], [(1, 255, 1)], false, true, false⟩
/-- R450. -/
def CLASS_WEIGHT_STANDARD : ObjRow := ⟨"CLASS_WEIGHT_STANDARD", false, 1, 0x1000, 8, 0x0C, 1, .u8, .rw, .basic, [4], [(1, 255, 1)], false, true, false⟩
/-- R450. -/
def CLASS_WEIGHT_BACKGROUND : ObjRow := ⟨"CLASS_WEIGHT_BACKGROUND", false, 1, 0x1000, 8, 0x0D, 1, .u8, .rw, .basic, [1], [(1, 255, 1)], false, true, false⟩
/-- R450. -/
def BASE_ENERGY_UJ : ObjRow := ⟨"BASE_ENERGY_UJ", false, 1, 0x1000, 8, 0x0E, 1, .u64, .ro, .basic, [0], [(0, 18446744073709551615, 1)], false, false, false⟩
/-- R450. -/
def IDLE_ENERGY_UJ : ObjRow := ⟨"IDLE_ENERGY_UJ", false, 1, 0x1000, 8, 0x0F, 1, .u64, .ro, .basic, [0], [(0, 18446744073709551615, 1)], false, false, false⟩
/-- R450. -/
def ADMITS : ObjRow := ⟨"ADMITS", false, 1, 0x1000, 8, 0x10, 1, .u32, .ro, .basic, [0], [(0, 4294967295, 1)], false, false, false⟩
/-- R450. -/
def DEFERS : ObjRow := ⟨"DEFERS", false, 1, 0x1000, 8, 0x11, 1, .u32, .ro, .basic, [0], [(0, 4294967295, 1)], false, false, false⟩
/-- R450. -/
def SLOWS : ObjRow := ⟨"SLOWS", false, 1, 0x1000, 8, 0x12, 1, .u32, .ro, .basic, [0], [(0, 4294967295, 1)], false, false, false⟩
/-- R450. -/
def SHEDS : ObjRow := ⟨"SHEDS", false, 1, 0x1000, 8, 0x13, 1, .u32, .ro, .basic, [0], [(0, 4294967295, 1)], false, false, false⟩
/-- R450. -/
def FORCED_ADMITS : ObjRow := ⟨"FORCED_ADMITS", false, 1, 0x1000, 8, 0x14, 1, .u32, .ro, .basic, [0], [(0, 4294967295, 1)], false, false, false⟩
/-- R450. -/
def DEFER_LIMIT_MS : ObjRow := ⟨"DEFER_LIMIT_MS", false, 1, 0x1800, 8, 0x01, 1, .u16, .rw, .expert, [200], [(20, 5000, 1)], false, true, false⟩
/-- R450. -/
def AGE_STEP_MS : ObjRow := ⟨"AGE_STEP_MS", false, 1, 0x1800, 8, 0x02, 1, .u16, .rw, .expert, [50], [(10, 1000, 1)], false, true, false⟩
/-- R450. -/
def BUCKET_PERIODS : ObjRow := ⟨"BUCKET_PERIODS", false, 1, 0x1800, 8, 0x03, 1, .u8, .rw, .expert, [20], [(1, 100, 1)], false, true, false⟩
/-- R450. -/
def DEFAULT_ENERGY_ESTIMATE : ObjRow := ⟨"DEFAULT_ENERGY_ESTIMATE", false, 1, 0x1800, 8, 0x04, 1, .u32, .rw, .expert, [20000], [(100, 16777215, 1)], false, true, false⟩
/-- R450. -/
def TENANT_ALLOTMENT_MW : ObjRow := ⟨"TENANT_ALLOTMENT_MW", false, 1, 0x2000, 8, 0x01, 1, .u32, .ro, .basic, [0], [(0, 4294967295, 1)], true, false, false⟩
/-- R450. -/
def CREDIT_UJ : ObjRow := ⟨"CREDIT_UJ", false, 1, 0x2000, 8, 0x02, 1, .i64, .ro, .basic, [0], [(-9223372036854775808, 9223372036854775807, 1)], true, false, false⟩
/-- R450. -/
def RESERVED_UJ : ObjRow := ⟨"RESERVED_UJ", false, 1, 0x2000, 8, 0x03, 1, .u64, .ro, .basic, [0], [(0, 18446744073709551615, 1)], true, false, false⟩
/-- R450. -/
def TENANT_ENERGY_UJ : ObjRow := ⟨"TENANT_ENERGY_UJ", false, 1, 0x2000, 8, 0x04, 1, .u64, .ro, .basic, [0], [(0, 18446744073709551615, 1)], true, false, false⟩
/-- R450. -/
def SPONSORED_UJ : ObjRow := ⟨"SPONSORED_UJ", false, 1, 0x2000, 8, 0x05, 1, .u64, .ro, .basic, [0], [(0, 18446744073709551615, 1)], true, false, false⟩
/-- R450. -/
def OFF_PACKAGE_UJ : ObjRow := ⟨"OFF_PACKAGE_UJ", false, 1, 0x2000, 8, 0x06, 1, .u64, .ro, .basic, [0], [(0, 18446744073709551615, 1)], true, false, false⟩
/-- R450. -/
def TOTAL_ENERGY_UJ : ObjRow := ⟨"TOTAL_ENERGY_UJ", false, 1, 0x2010, 1, 0x01, 1, .u64, .ro, .basic, [0], [(0, 18446744073709551615, 1)], true, false, false⟩
/-- R450. -/
def TOTAL_OFF_PACKAGE_UJ : ObjRow := ⟨"TOTAL_OFF_PACKAGE_UJ", false, 1, 0x2010, 1, 0x02, 1, .u64, .ro, .basic, [0], [(0, 18446744073709551615, 1)], true, false, false⟩
/-- R450. -/
def VOLTAGE_MV : ObjRow := ⟨"VOLTAGE_MV", false, 1, 0x3000, 35, 0x01, 1, .u16, .ro, .basic, [0], [(0, 65535, 1)], false, false, false⟩
/-- R450. -/
def CURRENT_MA : ObjRow := ⟨"CURRENT_MA", false, 1, 0x3000, 35, 0x02, 1, .u32, .ro, .basic, [0], [(0, 4294967295, 1)], false, false, false⟩
/-- R450. -/
def POWER_MW : ObjRow := ⟨"POWER_MW", false, 1, 0x3000, 35, 0x03, 1, .u32, .ro, .basic, [0], [(0, 4294967295, 1)], false, false, false⟩
/-- R450. -/
def ENERGY_UJ : ObjRow := ⟨"ENERGY_UJ", false, 1, 0x3000, 35, 0x04, 1, .u64, .ro, .basic, [0], [(0, 18446744073709551615, 1)], false, false, false⟩
/-- R450. -/
def ENCLAVE_ENERGY_UJ : ObjRow := ⟨"ENCLAVE_ENERGY_UJ", false, 1, 0x4000, 64, 0x01, 1, .u64, .ro, .basic, [0], [(0, 18446744073709551615, 1)], false, false, false⟩
/-- R497. -/
def VENDOR : ObjRow := ⟨"VENDOR", false, 0, 0x0000, 1, 0x01, 1, .str, .ro, .basic, [], [], false, false, false⟩
/-- R497. -/
def PART : ObjRow := ⟨"PART", false, 0, 0x0000, 1, 0x02, 1, .str, .ro, .basic, [], [], false, false, false⟩
/-- R497. -/
def ORDERING_CODE : ObjRow := ⟨"ORDERING_CODE", false, 0, 0x0000, 1, 0x03, 1, .str, .ro, .basic, [], [], false, false, false⟩
/-- R497. -/
def SILICON_REVISION : ObjRow := ⟨"SILICON_REVISION", false, 0, 0x0000, 1, 0x04, 1, .str, .ro, .basic, [], [], false, false, false⟩
/-- R497. -/
def SERIAL_NUMBER : ObjRow := ⟨"SERIAL_NUMBER", false, 0, 0x0000, 1, 0x05, 1, .u64, .ro, .basic, [0], [(0, 18446744073709551615, 1)], false, false, false⟩
/-- R497. -/
def DEVICE_IDENTITY : ObjRow := ⟨"DEVICE_IDENTITY", false, 0, 0x0000, 1, 0x06, 1, .blob, .ro, .basic, [], [], false, false, false⟩
/-- R497. -/
def DICTIONARY_VERSION : ObjRow := ⟨"DICTIONARY_VERSION", false, 0, 0x0000, 1, 0x07, 1, .u32, .ro, .basic, [0], [(0, 4294967295, 1)], false, false, false⟩
/-- R497. -/
def MGMT_BOOTS : ObjRow := ⟨"MGMT_BOOTS", false, 0, 0x0011, 1, 0x00, 1, .u32, .ro, .basic, [0], [(0, 4294967295, 1)], false, false, false⟩
/-- R497. -/
def SETTINGS_STATE : ObjRow := ⟨"SETTINGS_STATE", false, 0, 0x0020, 1, 0x01, 1, .u8, .ro, .basic, [0], [(0, 4, 1)], false, false, false⟩
/-- R497. -/
def SETTINGS_SAVE : ObjRow := ⟨"SETTINGS_SAVE", false, 0, 0x0020, 1, 0x02, 1, .bool, .wo, .expert, [0], [(0, 0, 1), (1, 1, 1)], false, false, false⟩
/-- R497. -/
def SETTINGS_RESETS : ObjRow := ⟨"SETTINGS_RESETS", false, 0, 0x0020, 1, 0x03, 1, .u32, .ro, .basic, [0], [(0, 4294967295, 1)], false, false, false⟩
/-- R497. -/
def LAST_RESET_GROUP : ObjRow := ⟨"LAST_RESET_GROUP", false, 0, 0x0020, 1, 0x04, 1, .u16, .ro, .basic, [0], [(0, 65535, 1)], false, false, false⟩
/-- R497. -/
def SAVES : ObjRow := ⟨"SAVES", false, 0, 0x0020, 1, 0x05, 1, .u32, .ro, .basic, [0], [(0, 4294967295, 1)], false, false, false⟩
/-- R497. -/
def SETTINGS_DEFAULTS : ObjRow := ⟨"SETTINGS_DEFAULTS", false, 0, 0x0020, 1, 0x06, 1, .bool, .wo, .expert, [0], [(0, 0, 1), (1, 1, 1)], false, false, false⟩
/-- R497. -/
def SCHEMA_VERSIONS : ObjRow := ⟨"SCHEMA_VERSIONS", false, 0, 0x0021, 1, 0x00, 1, .blob, .ro, .basic, [], [], false, false, false⟩
/-- R497. -/
def SUBSCRIPTIONS : ObjRow := ⟨"SUBSCRIPTIONS", false, 0, 0x0030, 1, 0x00, 1, .u16, .ro, .expert, [0], [(0, 512, 1)], false, false, false⟩
/-- R521. -/
def ETH_MODE : ObjRow := ⟨"ETH_MODE", false, 4, 0x0000, 2, 0x01, 1, .u8, .rw, .expert, [0], [(0, 2, 1)], false, true, false⟩
/-- R521. -/
def ETH_LINK : ObjRow := ⟨"ETH_LINK", false, 4, 0x0000, 2, 0x02, 1, .u8, .ro, .basic, [0], [(0, 3, 1)], false, false, false⟩
/-- R521. -/
def RX_FRAMES : ObjRow := ⟨"RX_FRAMES", false, 4, 0x0000, 2, 0x03, 1, .u64, .ro, .basic, [0], [(0, 18446744073709551615, 1)], false, false, false⟩
/-- R521. -/
def TX_FRAMES : ObjRow := ⟨"TX_FRAMES", false, 4, 0x0000, 2, 0x04, 1, .u64, .ro, .basic, [0], [(0, 18446744073709551615, 1)], false, false, false⟩
/-- R521. -/
def RX_ERRORS : ObjRow := ⟨"RX_ERRORS", false, 4, 0x0000, 2, 0x05, 1, .u32, .ro, .basic, [0], [(0, 4294967295, 1)], false, false, false⟩
/-- R521. -/
def INTERNAL_DROPS : ObjRow := ⟨"INTERNAL_DROPS", false, 4, 0x0000, 2, 0x06, 1, .u32, .ro, .basic, [0], [(0, 4294967295, 1)], false, false, false⟩
/-- R521. -/
def QBV_LIST : ObjRow := ⟨"QBV_LIST", false, 4, 0x0010, 1, 0x00, 1, .blob, .rw, .expert, [], [], false, true, false⟩
/-- R521. -/
def QAV_SLOPES : ObjRow := ⟨"QAV_SLOPES", false, 4, 0x0011, 1, 0x00, 1, .blob, .rw, .expert, [], [], false, true, false⟩
/-- R521. -/
def CAN_NOMINAL_KBPS : ObjRow := ⟨"CAN_NOMINAL_KBPS", false, 4, 0x1000, 2, 0x01, 1, .u16, .rw, .expert, [500], [(125, 1000, 1)], false, true, false⟩
/-- R521. -/
def CAN_DATA_KBPS : ObjRow := ⟨"CAN_DATA_KBPS", false, 4, 0x1000, 2, 0x02, 1, .u16, .rw, .expert, [2000], [(1000, 5000, 1)], false, true, false⟩
/-- R521. -/
def CAN_NODE : ObjRow := ⟨"CAN_NODE", false, 4, 0x1000, 2, 0x03, 1, .u8, .rw, .expert, [0], [(0, 63, 1)], false, true, false⟩
/-- R521. -/
def CAN_PEER_LEVEL : ObjRow := ⟨"CAN_PEER_LEVEL", false, 4, 0x1000, 2, 0x04, 1, .u8, .rw, .expert, [0], [(0, 1, 1)], false, true, false⟩
/-- R521. -/
def IP_ADDRESS : ObjRow := ⟨"IP_ADDRESS", false, 4, 0x2000, 1, 0x01, 1, .u32, .rw, .expert, [0], [(0, 4294967295, 1)], false, true, false⟩
/-- R521. -/
def IP_NETMASK : ObjRow := ⟨"IP_NETMASK", false, 4, 0x2000, 1, 0x02, 1, .u32, .rw, .expert, [0], [(0, 4294967295, 1)], false, true, false⟩
/-- R521. -/
def IP_GATEWAY : ObjRow := ⟨"IP_GATEWAY", false, 4, 0x2000, 1, 0x03, 1, .u32, .rw, .expert, [0], [(0, 4294967295, 1)], false, true, false⟩
/-- R521. -/
def BDA_UDP_PORT : ObjRow := ⟨"BDA_UDP_PORT", false, 4, 0x2000, 1, 0x04, 1, .u16, .rw, .expert, [45274], [(0, 0, 1), (1024, 65535, 1)], false, true, false⟩
/-- R521. -/
def BDA_ETHERTYPE : ObjRow := ⟨"BDA_ETHERTYPE", false, 4, 0x2000, 1, 0x05, 1, .u16, .rw, .expert, [34997], [(1536, 65535, 1)], false, true, false⟩
/-- R521. -/
def SEQ_REJECTS : ObjRow := ⟨"SEQ_REJECTS", false, 4, 0x2010, 1, 0x01, 1, .u32, .ro, .basic, [0], [(0, 4294967295, 1)], false, false, false⟩
/-- R521. -/
def TAG_FAILS : ObjRow := ⟨"TAG_FAILS", false, 4, 0x2010, 1, 0x02, 1, .u32, .ro, .basic, [0], [(0, 4294967295, 1)], false, false, false⟩
/-- R521. -/
def GRANT_CHALLENGE : ObjRow := ⟨"GRANT_CHALLENGE", false, 4, 0x2400, 1, 0x00, 1, .blob, .ro, .basic, [], [], false, false, false⟩
/-- R521. -/
def GRANT_REQUEST : ObjRow := ⟨"GRANT_REQUEST", false, 4, 0x2401, 1, 0x00, 1, .blob, .wo, .basic, [], [], false, false, false⟩
/-- R521. -/
def GRANT_RESULT : ObjRow := ⟨"GRANT_RESULT", false, 4, 0x2402, 1, 0x00, 1, .blob, .ro, .basic, [], [], false, false, true⟩
/-- R521. -/
def GRANT_END : ObjRow := ⟨"GRANT_END", false, 4, 0x2403, 1, 0x00, 1, .u32, .wo, .basic, [0], [(0, 4294967295, 1)], false, false, false⟩
/-- R521. -/
def GRANT_IDLE_S : ObjRow := ⟨"GRANT_IDLE_S", false, 4, 0x2404, 1, 0x00, 1, .u16, .rw, .expert, [300], [(10, 86400, 1)], false, true, false⟩
/-- R521. -/
def GRANT_KEY_BASIC : ObjRow := ⟨"GRANT_KEY_BASIC", false, 4, 0x2410, 1, 0x00, 1, .blob, .rw, .expert, [], [], false, true, false⟩
/-- R521. -/
def GRANT_KEY_EXPERT : ObjRow := ⟨"GRANT_KEY_EXPERT", false, 4, 0x2411, 1, 0x00, 1, .blob, .rw, .expert, [], [], false, true, false⟩
/-- R521. -/
def PTP_STATE : ObjRow := ⟨"PTP_STATE", false, 4, 0x3000, 1, 0x01, 1, .u8, .ro, .basic, [0], [(0, 3, 1)], false, false, false⟩
/-- R521. -/
def PTP_PRIORITY1 : ObjRow := ⟨"PTP_PRIORITY1", false, 4, 0x3000, 1, 0x02, 1, .u8, .rw, .expert, [246], [(0, 255, 1)], false, true, false⟩
/-- R521. -/
def NETWORK_OFFSET_NS : ObjRow := ⟨"NETWORK_OFFSET_NS", false, 4, 0x3000, 1, 0x03, 1, .i64, .ro, .basic, [0], [(-9223372036854775808, 9223372036854775807, 1)], false, false, false⟩
/-- R521. -/
def RATE_CORRECTION_PPB : ObjRow := ⟨"RATE_CORRECTION_PPB", false, 4, 0x3000, 1, 0x04, 1, .i32, .ro, .basic, [0], [(-200000, 200000, 1)], false, false, false⟩
/-- R521. -/
def ROLE_SELECT : ObjRow := ⟨"ROLE_SELECT", false, 4, 0x4000, 1, 0x01, 1, .u8, .rw, .expert, [0], [(0, 2, 1)], false, true, false⟩
/-- R521. -/
def ROLE : ObjRow := ⟨"ROLE", false, 4, 0x4000, 1, 0x02, 1, .u8, .ro, .basic, [2], [(1, 1, 1), (2, 2, 1)], false, false, false⟩
/-- R521. -/
def DEVICE_PATH : ObjRow := ⟨"DEVICE_PATH", false, 4, 0x4000, 1, 0x03, 1, .u32, .rw, .expert, [4294967295], [(0, 4294967295, 1)], false, true, false⟩
/-- R521. -/
def ADOPT_POLICY : ObjRow := ⟨"ADOPT_POLICY", false, 4, 0x4000, 1, 0x04, 1, .u8, .rw, .expert, [0], [(0, 0, 1), (1, 1, 1)], false, true, false⟩
/-- R521. -/
def MANAGER_SERIAL : ObjRow := ⟨"MANAGER_SERIAL", false, 4, 0x4000, 1, 0x05, 1, .u64, .ro, .basic, [0], [(0, 18446744073709551615, 1)], false, true, false⟩
/-- R521. -/
def HEARTBEAT_MS : ObjRow := ⟨"HEARTBEAT_MS", false, 4, 0x4000, 1, 0x06, 1, .u16, .rw, .expert, [1000], [(100, 10000, 1)], false, true, false⟩
/-- R521. -/
def DELEGATION : ObjRow := ⟨"DELEGATION", false, 4, 0x4020, 1, 0x00, 1, .blob, .rw, .expert, [], [], false, true, false⟩
/-- R521. -/
def MEMBER_SERIAL : ObjRow := ⟨"MEMBER_SERIAL", false, 4, 0x4100, 64, 0x01, 1, .u64, .rw, .expert, [0], [(0, 18446744073709551615, 1)], false, true, false⟩
/-- R521. -/
def MEMBER_LINK : ObjRow := ⟨"MEMBER_LINK", false, 4, 0x4100, 64, 0x02, 1, .u64, .ro, .basic, [0], [(0, 18446744073709551615, 1)], false, false, false⟩
/-- R521. -/
def MEMBER_STATE : ObjRow := ⟨"MEMBER_STATE", false, 4, 0x4100, 64, 0x03, 1, .u8, .ro, .basic, [0], [(0, 4, 1)], false, false, false⟩
/-- R521. -/
def ALARM_STREAM : ObjRow := ⟨"ALARM_STREAM", false, 4, 0x5000, 1, 0x00, 1, .domain, .ro, .basic, [], [], false, false, false⟩
/-- R521. -/
def ALARM_SUMMARY : ObjRow := ⟨"ALARM_SUMMARY", false, 4, 0x5010, 1, 0x01, 4, .u16, .ro, .basic, [0], [(0, 65535, 1)], false, false, false⟩
/-- R521. -/
def ALARM_ACK : ObjRow := ⟨"ALARM_ACK", false, 4, 0x5011, 1, 0x00, 1, .u16, .wo, .basic, [0], [(0, 65535, 1)], false, false, false⟩
/-- R521. -/
def ALARM_PIN_SEVERITY : ObjRow := ⟨"ALARM_PIN_SEVERITY", false, 4, 0x5012, 1, 0x00, 1, .u8, .rw, .basic, [3], [(0, 3, 1)], false, true, false⟩
/-- R521. -/
def ALARM_MERGE_MS : ObjRow := ⟨"ALARM_MERGE_MS", false, 4, 0x5013, 1, 0x00, 1, .u16, .rw, .expert, [1000], [(0, 60000, 1)], false, true, false⟩
/-- R550. -/
def UPDATE_STATE : ObjRow := ⟨"UPDATE_STATE", false, 5, 0x0000, 1, 0x00, 1, .u8, .ro, .basic, [0], [(0, 7, 1)], false, false, false⟩
/-- R550. -/
def UPDATE_STEP : ObjRow := ⟨"UPDATE_STEP", false, 5, 0x0001, 1, 0x00, 1, .u8, .ro, .basic, [255], [(0, 255, 1)], false, false, false⟩
/-- R550. -/
def UPDATE_RESULT : ObjRow := ⟨"UPDATE_RESULT", false, 5, 0x0002, 1, 0x00, 1, .u8, .ro, .basic, [0], [(0, 9, 1)], false, false, true⟩
/-- R550. -/
def INSTALLED_VERSION : ObjRow := ⟨"INSTALLED_VERSION", false, 5, 0x0010, 1, 0x01, 5, .u32, .ro, .basic, [0], [(0, 4294967295, 1)], false, false, false⟩
/-- R550. -/
def ROLLBACK_FUSES : ObjRow := ⟨"ROLLBACK_FUSES", false, 5, 0x0011, 1, 0x01, 5, .u8, .ro, .basic, [0], [(0, 64, 1)], false, false, false⟩
/-- R550. -/
def INSTALLED_RANGES : ObjRow := ⟨"INSTALLED_RANGES", false, 5, 0x0012, 1, 0x00, 1, .blob, .ro, .basic, [], [], false, false, false⟩
/-- R550. -/
def UPDATE_COMMAND : ObjRow := ⟨"UPDATE_COMMAND", false, 5, 0x0020, 1, 0x00, 1, .u8, .wo, .expert, [0], [(1, 5, 1)], false, false, false⟩
/-- R550. -/
def APPLY_AT : ObjRow := ⟨"APPLY_AT", false, 5, 0x0021, 1, 0x00, 1, .u64, .rw, .expert, [0], [(0, 18446744073709551615, 1)], false, false, false⟩
/-- R550. -/
def TRIAL_S : ObjRow := ⟨"TRIAL_S", false, 5, 0x0022, 1, 0x00, 1, .u32, .rw, .expert, [300], [(30, 86400, 1)], false, true, false⟩
/-- R550. -/
def STATION_GAP_MS : ObjRow := ⟨"STATION_GAP_MS", false, 5, 0x0023, 1, 0x00, 1, .u16, .rw, .expert, [1000], [(100, 60000, 1)], false, true, false⟩
/-- R550. -/
def MANIFEST : ObjRow := ⟨"MANIFEST", false, 5, 0x1000, 1, 0x00, 1, .blob, .rw, .expert, [], [], false, false, false⟩
/-- R550. -/
def MANIFEST_RESULT : ObjRow := ⟨"MANIFEST_RESULT", false, 5, 0x1001, 1, 0x00, 1, .u8, .ro, .basic, [0], [(0, 8, 1)], false, false, true⟩
/-- R550. -/
def PLAN : ObjRow := ⟨"PLAN", false, 5, 0x1002, 1, 0x00, 1, .u16, .ro, .basic, [65535], [(0, 65535, 1)], false, false, false⟩
/-- R550. -/
def PIECE_STREAM : ObjRow := ⟨"PIECE_STREAM", false, 5, 0x1100, 1, 0x00, 1, .domain, .wo, .expert, [], [], false, false, false⟩
/-- R550. -/
def PIECE_IN : ObjRow := ⟨"PIECE_IN", false, 5, 0x1101, 1, 0x00, 1, .blob, .wo, .expert, [], [], false, false, false⟩
/-- R550. -/
def PIECE_BITMAP : ObjRow := ⟨"PIECE_BITMAP", false, 5, 0x1110, 1, 0x00, 1, .blob, .ro, .basic, [], [], false, true, false⟩
/-- R550. -/
def PIECES_STORED : ObjRow := ⟨"PIECES_STORED", false, 5, 0x1111, 1, 0x01, 1, .u16, .ro, .basic, [0], [(0, 8192, 1)], false, false, false⟩
/-- R550. -/
def PIECES_TOTAL : ObjRow := ⟨"PIECES_TOTAL", false, 5, 0x1111, 1, 0x02, 1, .u16, .ro, .basic, [0], [(0, 8192, 1)], false, false, false⟩
/-- R550. -/
def REJECT_PACKAGE : ObjRow := ⟨"REJECT_PACKAGE", false, 5, 0x1112, 1, 0x01, 1, .u32, .ro, .basic, [0], [(0, 4294967295, 1)], false, false, false⟩
/-- R550. -/
def REJECT_RANGE : ObjRow := ⟨"REJECT_RANGE", false, 5, 0x1112, 1, 0x02, 1, .u32, .ro, .basic, [0], [(0, 4294967295, 1)], false, false, false⟩
/-- R550. -/
def REJECT_CRC : ObjRow := ⟨"REJECT_CRC", false, 5, 0x1112, 1, 0x03, 1, .u32, .ro, .basic, [0], [(0, 4294967295, 1)], false, false, false⟩
/-- R550. -/
def DIGEST_FAILS : ObjRow := ⟨"DIGEST_FAILS", false, 5, 0x1112, 1, 0x04, 1, .u32, .ro, .basic, [0], [(0, 4294967295, 1)], false, false, false⟩
/-- R550. -/
def CACHE_MANIFEST : ObjRow := ⟨"CACHE_MANIFEST", false, 5, 0x1200, 1, 0x01, 1, .blob, .rw, .expert, [], [], false, false, false⟩
/-- R550. -/
def CACHE_STREAM : ObjRow := ⟨"CACHE_STREAM", false, 5, 0x1200, 1, 0x02, 1, .domain, .wo, .expert, [], [], false, false, false⟩
/-- R550. -/
def CACHE_TARGETS : ObjRow := ⟨"CACHE_TARGETS", false, 5, 0x1200, 1, 0x03, 1, .u64, .rw, .expert, [0], [(0, 18446744073709551615, 1)], false, false, false⟩
/-- R550. -/
def CACHE_PROGRESS : ObjRow := ⟨"CACHE_PROGRESS", false, 5, 0x1210, 64, 0x01, 1, .u16, .ro, .basic, [0], [(0, 8192, 1)], false, false, false⟩
/-- R550. -/
def CACHE_MEMBER_STATE : ObjRow := ⟨"CACHE_MEMBER_STATE", false, 5, 0x1210, 64, 0x02, 1, .u8, .ro, .basic, [0], [(0, 3, 1)], false, false, false⟩
/-- R581. -/
def RESET_CAUSE : ObjRow := ⟨"RESET_CAUSE", false, 2, 0x0000, 1, 0x01, 1, .u32, .ro, .basic, [270528767], [(0, 4294967295, 1)], false, false, false⟩
/-- R581. -/
def RESET_CAUSE_TIME : ObjRow := ⟨"RESET_CAUSE_TIME", false, 2, 0x0000, 1, 0x02, 1, .u64, .ro, .basic, [0], [(0, 18446744073709551615, 1)], false, false, false⟩
/-- R581. -/
def RESETS_WARM : ObjRow := ⟨"RESETS_WARM", false, 2, 0x0001, 1, 0x01, 1, .u32, .ro, .basic, [0], [(0, 4294967295, 1)], false, false, false⟩
/-- R581. -/
def RESETS_MGMT : ObjRow := ⟨"RESETS_MGMT", false, 2, 0x0001, 1, 0x02, 1, .u32, .ro, .basic, [0], [(0, 4294967295, 1)], false, false, false⟩
/-- R581. -/
def RESETS_SEC : ObjRow := ⟨"RESETS_SEC", false, 2, 0x0001, 1, 0x03, 1, .u32, .ro, .basic, [0], [(0, 4294967295, 1)], false, false, false⟩
/-- R581. -/
def RESETS_PORT : ObjRow := ⟨"RESETS_PORT", false, 2, 0x0001, 1, 0x04, 1, .u32, .ro, .basic, [0], [(0, 4294967295, 1)], false, false, false⟩
/-- R581. -/
def RESETS_STATION : ObjRow := ⟨"RESETS_STATION", false, 2, 0x0001, 1, 0x05, 1, .u32, .ro, .basic, [0], [(0, 4294967295, 1)], false, false, false⟩
/-- R581. -/
def RESETS_SLICE : ObjRow := ⟨"RESETS_SLICE", false, 2, 0x0001, 1, 0x06, 1, .u32, .ro, .basic, [0], [(0, 4294967295, 1)], false, false, false⟩
/-- R581. -/
def HELD_RESETS : ObjRow := ⟨"HELD_RESETS", false, 2, 0x0002, 1, 0x00, 1, .u32, .ro, .basic, [0], [(0, 4294967295, 1)], false, false, false⟩
/-- R581. -/
def RESET_REQUEST : ObjRow := ⟨"RESET_REQUEST", false, 2, 0x0010, 1, 0x00, 1, .u32, .wo, .expert, [0], [(0, 4294967295, 1)], false, false, false⟩
/-- R581. -/
def MGMT_WATCHDOG_MS : ObjRow := ⟨"MGMT_WATCHDOG_MS", false, 2, 0x0020, 1, 0x00, 1, .u16, .rw, .expert, [1000], [(100, 10000, 1)], false, true, false⟩
/-- R581. -/
def DOMAIN_GAP_CYCLES : ObjRow := ⟨"DOMAIN_GAP_CYCLES", false, 2, 0x0030, 1, 0x01, 1, .u16, .ro, .basic, [256], [(64, 4096, 1)], false, false, false⟩
/-- R581. -/
def STATION_GAP_CYCLES : ObjRow := ⟨"STATION_GAP_CYCLES", false, 2, 0x0030, 1, 0x02, 1, .u16, .ro, .basic, [1024], [(256, 16384, 1)], false, false, false⟩
/-- R581. -/
def TRIM_STATE : ObjRow := ⟨"TRIM_STATE", false, 2, 0x0040, 1, 0x01, 1, .u8, .ro, .basic, [0], [(0, 2, 1)], false, false, false⟩
/-- R581. -/
def TRIM_ATTEMPTS : ObjRow := ⟨"TRIM_ATTEMPTS", false, 2, 0x0040, 1, 0x02, 1, .u8, .ro, .basic, [0], [(0, 3, 1)], false, false, false⟩
/-- R581. -/
def ERASE_SUSPENDED : ObjRow := ⟨"ERASE_SUSPENDED", false, 2, 0x0041, 1, 0x00, 1, .u32, .ro, .expert, [4294967295], [(0, 4294967295, 1)], false, false, false⟩
/-- R581. -/
def SOURCE_MAP : ObjRow := ⟨"SOURCE_MAP", false, 2, 0x0050, 1, 0x00, 1, .blob, .ro, .basic, [], [], false, false, false⟩
/-- R581. -/
def PIN_MAP : ObjRow := ⟨"PIN_MAP", false, 2, 0x0051, 1, 0x00, 1, .blob, .ro, .basic, [], [], false, false, false⟩
/-- R581. -/
def FUSE_MAP_PROGRAM : ObjRow := ⟨"FUSE_MAP_PROGRAM", false, 2, 0x0052, 1, 0x00, 1, .blob, .wo, .expert, [], [], false, false, false⟩
/-- R595. -/
def REF_LOST : ObjRow := ⟨"REF_LOST", false, 2, 0x0100, 1, 0x01, 1, .bool, .rw, .expert, [0], [(0, 0, 1), (1, 1, 1)], false, false, false⟩
/-- R595. -/
def HW_PLL_FAILED : ObjRow := ⟨"HW_PLL_FAILED", false, 2, 0x0100, 1, 0x02, 1, .u8, .ro, .basic, [0], [(0, 63, 1)], false, false, false⟩
/-- R595. -/
def HW_PLL_LOCKED : ObjRow := ⟨"HW_PLL_LOCKED", false, 2, 0x0101, 1, 0x00, 1, .u8, .ro, .basic, [0], [(0, 63, 1)], false, false, false⟩
/-- R595. -/
def HW_PLL_LOCK_LOSSES : ObjRow := ⟨"HW_PLL_LOCK_LOSSES", false, 2, 0x0102, 1, 0x00, 1, .u32, .ro, .basic, [0], [(0, 4294967295, 1)], false, false, false⟩
/-- R595. -/
def HW_EVENT_MERGES : ObjRow := ⟨"HW_EVENT_MERGES", false, 2, 0x0103, 1, 0x00, 1, .u32, .ro, .basic, [0], [(0, 4294967295, 1)], false, false, false⟩
/-- R616. -/
def CV_VALUE : ObjRow := ⟨"CV_VALUE", false, 7, 0x0100, 24, 0x01, 1, .u64, .ro, .basic, [0], [(0, 18446744073709551615, 1)], false, false, true⟩
/-- R616. -/
def CV_RUN_BYTES : ObjRow := ⟨"CV_RUN_BYTES", false, 7, 0x0100, 24, 0x02, 1, .u64, .ro, .basic, [0], [(0, 18446744073709551615, 1)], false, false, false⟩
/-- R616. -/
def CV_RUN_TAG : ObjRow := ⟨"CV_RUN_TAG", false, 7, 0x0100, 24, 0x03, 1, .u32, .ro, .basic, [0], [(0, 4294967295, 1)], false, false, false⟩
/-- R616. -/
def CV_RUNS : ObjRow := ⟨"CV_RUNS", false, 7, 0x0100, 24, 0x04, 1, .u32, .ro, .basic, [0], [(0, 4294967295, 1)], false, false, false⟩
/-- R616. -/
def CV_SOURCE : ObjRow := ⟨"CV_SOURCE", false, 7, 0x0800, 24, 0x01, 1, .u8, .rw, .expert, [0], [(0, 5, 1)], false, false, false⟩
/-- R616. -/
def CV_PRESET : ObjRow := ⟨"CV_PRESET", false, 7, 0x0800, 24, 0x02, 1, .u8, .rw, .expert, [2], [(0, 3, 1)], false, false, false⟩
/-- R616. -/
def CV_WIDTH : ObjRow := ⟨"CV_WIDTH", false, 7, 0x0800, 24, 0x03, 1, .u8, .rw, .expert, [32], [(8, 64, 1)], false, false, false⟩
/-- R616. -/
def CV_POLY : ObjRow := ⟨"CV_POLY", false, 7, 0x0800, 24, 0x04, 1, .u64, .rw, .expert, [517762881], [(0, 18446744073709551615, 1)], false, false, false⟩
/-- R616. -/
def CV_INIT : ObjRow := ⟨"CV_INIT", false, 7, 0x0800, 24, 0x05, 1, .u64, .rw, .expert, [4294967295], [(0, 18446744073709551615, 1)], false, false, false⟩
/-- R616. -/
def CV_XOROUT : ObjRow := ⟨"CV_XOROUT", false, 7, 0x0800, 24, 0x06, 1, .u64, .rw, .expert, [4294967295], [(0, 18446744073709551615, 1)], false, false, false⟩
/-- R616. -/
def CV_REFIN : ObjRow := ⟨"CV_REFIN", false, 7, 0x0800, 24, 0x07, 1, .bool, .rw, .expert, [1], [(0, 0, 1), (1, 1, 1)], false, false, false⟩
/-- R616. -/
def CV_REFOUT : ObjRow := ⟨"CV_REFOUT", false, 7, 0x0800, 24, 0x08, 1, .bool, .rw, .expert, [1], [(0, 0, 1), (1, 1, 1)], false, false, false⟩
/-- R616. -/
def CV_BLOCK_BYTES : ObjRow := ⟨"CV_BLOCK_BYTES", false, 7, 0x0800, 24, 0x09, 1, .u32, .rw, .expert, [4096], [(64, 65536, 1)], false, false, false⟩
/-- R616. -/
def CV_FOLD : ObjRow := ⟨"CV_FOLD", false, 7, 0x0800, 24, 0x0A, 1, .bool, .rw, .expert, [1], [(0, 0, 1), (1, 1, 1)], false, false, false⟩
/-- R616. -/
def CV_WINDOW_BASE : ObjRow := ⟨"CV_WINDOW_BASE", false, 7, 0x0800, 24, 0x0B, 1, .u64, .rw, .expert, [0], [(0, 18446744073709551615, 1)], false, false, false⟩
/-- R616. -/
def CV_WINDOW_SIZE : ObjRow := ⟨"CV_WINDOW_SIZE", false, 7, 0x0800, 24, 0x0C, 1, .u64, .rw, .expert, [0], [(0, 18446744073709551615, 1)], false, false, false⟩
/-- R616. -/
def CV_STATION : ObjRow := ⟨"CV_STATION", false, 7, 0x0800, 24, 0x0D, 1, .u8, .rw, .expert, [0], [(0, 7, 1)], false, false, false⟩
/-- R616. -/
def CV_TENANT : ObjRow := ⟨"CV_TENANT", false, 7, 0x0800, 24, 0x0E, 1, .u16, .rw, .expert, [0], [(0, 511, 1)], false, false, false⟩
/-- R616. -/
def CV_QUEUE : ObjRow := ⟨"CV_QUEUE", false, 7, 0x0800, 24, 0x0F, 1, .u8, .rw, .expert, [0], [(0, 3, 1)], false, false, false⟩
/-- R616. -/
def CV_DOMAIN_INDEX : ObjRow := ⟨"CV_DOMAIN_INDEX", false, 7, 0x0800, 24, 0x10, 1, .u32, .rw, .expert, [0], [(0, 4294967295, 1)], false, false, false⟩
/-- R616. -/
def CV_CROP_X : ObjRow := ⟨"CV_CROP_X", false, 7, 0x0800, 24, 0x11, 1, .u16, .rw, .expert, [0], [(0, 65535, 1)], false, false, false⟩
/-- R616. -/
def CV_CROP_Y : ObjRow := ⟨"CV_CROP_Y", false, 7, 0x0800, 24, 0x12, 1, .u16, .rw, .expert, [0], [(0, 65535, 1)], false, false, false⟩
/-- R616. -/
def CV_CROP_W : ObjRow := ⟨"CV_CROP_W", false, 7, 0x0800, 24, 0x13, 1, .u16, .rw, .expert, [7680], [(0, 65535, 1)], false, false, false⟩
/-- R616. -/
def CV_CROP_H : ObjRow := ⟨"CV_CROP_H", false, 7, 0x0800, 24, 0x14, 1, .u16, .rw, .expert, [4320], [(0, 65535, 1)], false, false, false⟩
/-- R616. -/
def CV_PACK : ObjRow := ⟨"CV_PACK", false, 7, 0x0800, 24, 0x15, 1, .u8, .rw, .expert, [0], [(0, 0, 1), (1, 1, 1)], false, false, false⟩
/-- R616. -/
def CV_CONTINUOUS : ObjRow := ⟨"CV_CONTINUOUS", false, 7, 0x0800, 24, 0x16, 1, .bool, .rw, .expert, [0], [(0, 0, 1), (1, 1, 1)], false, false, false⟩
/-- R616. -/
def CV_COMMAND : ObjRow := ⟨"CV_COMMAND", false, 7, 0x0800, 24, 0x17, 1, .u8, .wo, .expert, [0], [(1, 3, 1)], false, false, false⟩
/-- R616. -/
def TOUCH_LOST : ObjRow := ⟨"TOUCH_LOST", false, 7, 0x1000, 1, 0x01, 1, .u16, .rw, .basic, [0], [(0, 0, 1)], true, false, false⟩
/-- R616. -/
def NOTIFY_LOST : ObjRow := ⟨"NOTIFY_LOST", false, 7, 0x1000, 1, 0x02, 1, .u16, .rw, .basic, [0], [(0, 0, 1)], true, false, false⟩
/-- R616. -/
def TOUCH_ITEMS : ObjRow := ⟨"TOUCH_ITEMS", false, 7, 0x1000, 1, 0x03, 1, .u8, .ro, .basic, [0], [(0, 64, 1)], true, false, false⟩
/-- R616. -/
def NOTIFY_ITEMS : ObjRow := ⟨"NOTIFY_ITEMS", false, 7, 0x1000, 1, 0x04, 1, .u8, .ro, .basic, [0], [(0, 64, 1)], true, false, false⟩
/-- R616. -/
def HAPTIC_LOST : ObjRow := ⟨"HAPTIC_LOST", false, 7, 0x1100, 8, 0x01, 1, .u16, .rw, .basic, [0], [(0, 0, 1)], false, false, false⟩
/-- R616. -/
def STATION_LOG_LOST : ObjRow := ⟨"STATION_LOG_LOST", false, 7, 0x1100, 8, 0x02, 1, .u16, .rw, .basic, [0], [(0, 0, 1)], false, false, false⟩
/-- R616. -/
def STATION_LOG_ITEMS : ObjRow := ⟨"STATION_LOG_ITEMS", false, 7, 0x1100, 8, 0x03, 1, .u16, .ro, .basic, [0], [(0, 4096, 1)], false, false, false⟩
/-- R616. -/
def HW_LOG_LOST : ObjRow := ⟨"HW_LOG_LOST", false, 7, 0x1200, 1, 0x01, 1, .u16, .rw, .basic, [0], [(0, 0, 1)], false, false, false⟩
/-- R616. -/
def ALARM_LOST : ObjRow := ⟨"ALARM_LOST", false, 7, 0x1200, 1, 0x02, 1, .u16, .rw, .basic, [0], [(0, 0, 1)], false, false, false⟩
/-- R616. -/
def HW_LOG_ITEMS : ObjRow := ⟨"HW_LOG_ITEMS", false, 7, 0x1200, 1, 0x03, 1, .u16, .ro, .basic, [0], [(0, 4096, 1)], false, false, false⟩
/-- R616. -/
def ALARM_ITEMS : ObjRow := ⟨"ALARM_ITEMS", false, 7, 0x1200, 1, 0x04, 1, .u16, .ro, .basic, [0], [(0, 4096, 1)], false, false, false⟩
/-- R616. -/
def ENCLAVE_TOUCH_LOST : ObjRow := ⟨"ENCLAVE_TOUCH_LOST", false, 7, 0x1300, 64, 0x01, 1, .u16, .ro, .basic, [0], [(0, 65535, 1)], false, false, false⟩
/-- R616. -/
def ENCLAVE_NOTIFY_LOST : ObjRow := ⟨"ENCLAVE_NOTIFY_LOST", false, 7, 0x1300, 64, 0x02, 1, .u16, .ro, .basic, [0], [(0, 65535, 1)], false, false, false⟩
/-- R624. -/
def HW_LOG_RING : ObjRow := ⟨"HW_LOG_RING", false, 0, 0x0040, 1, 0x01, 1, .blob, .ro, .expert, [], [], false, false, false⟩
/-- R624. -/
def HW_LOG_SEQ : ObjRow := ⟨"HW_LOG_SEQ", false, 0, 0x0040, 1, 0x02, 1, .u32, .ro, .basic, [0], [(0, 4294967295, 1)], false, false, false⟩
/-- R624. -/
def HW_LOG_OVERFLOWS : ObjRow := ⟨"HW_LOG_OVERFLOWS", false, 0, 0x0040, 1, 0x03, 1, .u32, .ro, .basic, [0], [(0, 4294967295, 1)], false, false, false⟩
/-- R494. -/
def READY_HEADWORKS : ObjRow := ⟨"READY_HEADWORKS", false, 0, 0x00F0, 1, 0x01, 1, .u32, .ro, .basic, [0], [(0, 4294967295, 1)], false, false, false⟩
/-- R495. -/
def READY_STATION : ObjRow := ⟨"READY_STATION", false, 0, 0x00F0, 1, 0x02, 8, .u16, .ro, .basic, [0], [(0, 65535, 1)], false, false, false⟩

end Sys2Proof.Machine.Obj
end

