-- ==== Sys2Proof/Machine/ObjectsStationA.lean ====
section
/-! DEFINITION. The rows of the object dictionary, station blocks 0 to 3: one definition per object table row of the spec, with the
rule whose table gives it. -/
namespace Sys2Proof.Machine.Obj

/-- R35. -/
def STATION_STATE : ObjRow := ⟨"STATION_STATE", true, 0, 0x0010, 1, 0x00, 1, .u8, .ro, .basic, [0], [(0, 5, 1)], false, false, false⟩
/-- R35. -/
def STATION_FAULT_CAUSE : ObjRow := ⟨"STATION_FAULT_CAUSE", true, 0, 0x0011, 1, 0x00, 1, .u8, .ro, .basic, [0], [(0, 5, 1)], false, false, false⟩
/-- R35. -/
def STATION_STATE_TIME : ObjRow := ⟨"STATION_STATE_TIME", true, 0, 0x0012, 1, 0x00, 1, .u64, .ro, .basic, [0], [(0, 18446744073709551615, 1)], false, false, false⟩
/-- R35. -/
def STATION_TARGET : ObjRow := ⟨"STATION_TARGET", true, 0, 0x0018, 1, 0x00, 1, .u8, .rw, .basic, [2], [(0, 0, 1), (2, 2, 1), (3, 3, 1)], false, true, false⟩
/-- R73. -/
def RASTER_STATE : ObjRow := ⟨"RASTER_STATE", true, 0, 0x1000, 1, 0x00, 1, .u8, .ro, .basic, [0], [(0, 3, 1)], false, false, false⟩
/-- R73. -/
def SHADER_CLOCK_MHZ : ObjRow := ⟨"SHADER_CLOCK_MHZ", true, 0, 0x1001, 1, 0x00, 1, .u16, .ro, .basic, [0], [(0, 1500, 1)], false, false, false⟩
/-- R73. -/
def TRANSLATION_CACHE_SIZE : ObjRow := ⟨"TRANSLATION_CACHE_SIZE", true, 0, 0x1010, 1, 0x00, 1, .u16, .rw, .basic, [64], [(16, 512, 1)], false, true, false⟩
/-- R73. -/
def CACHE_QUOTA : ObjRow := ⟨"CACHE_QUOTA", true, 0, 0x1011, 1, 0x00, 1, .u16, .rw, .basic, [0], [(0, 512, 1)], true, false, false⟩
/-- R73. -/
def CACHE_USED : ObjRow := ⟨"CACHE_USED", true, 0, 0x1012, 1, 0x00, 1, .u32, .ro, .basic, [0], [(0, 4294967295, 1)], true, false, false⟩
/-- R73. -/
def TRANSLATOR_VERSION : ObjRow := ⟨"TRANSLATOR_VERSION", true, 0, 0x1013, 1, 0x00, 1, .u32, .ro, .basic, [0], [(0, 4294967295, 1)], false, false, false⟩
/-- R73. -/
def TRANSLATIONS_PENDING : ObjRow := ⟨"TRANSLATIONS_PENDING", true, 0, 0x1014, 1, 0x00, 1, .u8, .ro, .basic, [0], [(0, 32, 1)], false, false, false⟩
/-- R73. -/
def JOB_TIME_LIMIT : ObjRow := ⟨"JOB_TIME_LIMIT", true, 0, 0x1020, 1, 0x00, 1, .u16, .rw, .basic, [2000], [(10, 60000, 1)], false, false, false⟩
/-- R73. -/
def JOBS_COMPLETED : ObjRow := ⟨"JOBS_COMPLETED", true, 0, 0x1030, 1, 0x00, 1, .u64, .ro, .basic, [0], [(0, 18446744073709551615, 1)], false, false, false⟩
/-- R73. -/
def TILES_WRITTEN_TOTAL : ObjRow := ⟨"TILES_WRITTEN_TOTAL", true, 0, 0x1031, 1, 0x00, 1, .u64, .ro, .basic, [0], [(0, 18446744073709551615, 1)], false, false, false⟩
/-- R73. -/
def TILES_SKIPPED_TOTAL : ObjRow := ⟨"TILES_SKIPPED_TOTAL", true, 0, 0x1032, 1, 0x00, 1, .u64, .ro, .basic, [0], [(0, 18446744073709551615, 1)], false, false, false⟩
/-- R73. -/
def BIN_FLUSHES : ObjRow := ⟨"BIN_FLUSHES", true, 0, 0x1033, 1, 0x00, 1, .u32, .ro, .basic, [0], [(0, 4294967295, 1)], false, false, false⟩
/-- R73. -/
def ACCESS_FAULTS : ObjRow := ⟨"ACCESS_FAULTS", true, 0, 0x1034, 1, 0x00, 1, .u32, .ro, .basic, [0], [(0, 4294967295, 1)], false, false, false⟩
/-- R73. -/
def TILE_SPLIT_THRESHOLD : ObjRow := ⟨"TILE_SPLIT_THRESHOLD", true, 0, 0x1820, 1, 0x00, 1, .u16, .rwc, .expert, [4096], [(0, 0, 1), (256, 65535, 1)], false, false, false⟩
/-- R73. -/
def WRITE_SKIP_ENABLE : ObjRow := ⟨"WRITE_SKIP_ENABLE", true, 0, 0x1821, 1, 0x00, 1, .bool, .rwc, .expert, [1], [(0, 0, 1), (1, 1, 1)], false, false, false⟩
/-- R102. -/
def DEADLINE_MARGIN : ObjRow := ⟨"DEADLINE_MARGIN", true, 0, 0x1040, 1, 0x00, 1, .u16, .rw, .basic, [500], [(50, 10000, 1)], false, true, false⟩
/-- R102. -/
def DEFAULT_TIME_ESTIMATE : ObjRow := ⟨"DEFAULT_TIME_ESTIMATE", true, 0, 0x1041, 1, 0x00, 1, .u16, .rw, .basic, [4000], [(100, 60000, 1)], false, true, false⟩
/-- R102. -/
def ESTIMATE_SCALE : ObjRow := ⟨"ESTIMATE_SCALE", true, 0, 0x1042, 1, 0x00, 1, .u16, .rw, .basic, [125], [(100, 400, 1)], false, true, false⟩
/-- R102. -/
def NEXT_BOUNDARY : ObjRow := ⟨"NEXT_BOUNDARY", true, 0, 0x1043, 1, 0x00, 1, .u64, .ro, .basic, [0], [(0, 18446744073709551615, 1)], false, false, false⟩
/-- R102. -/
def LATE_LAYERS : ObjRow := ⟨"LATE_LAYERS", true, 0, 0x1044, 1, 0x00, 1, .u32, .ro, .basic, [0], [(0, 4294967295, 1)], false, false, false⟩
/-- R102. -/
def PREEMPTIONS : ObjRow := ⟨"PREEMPTIONS", true, 0, 0x1045, 1, 0x00, 1, .u32, .ro, .basic, [0], [(0, 4294967295, 1)], false, false, false⟩
/-- R102. -/
def SAVE_TIME_MAX : ObjRow := ⟨"SAVE_TIME_MAX", true, 0, 0x1046, 1, 0x00, 1, .u32, .ro, .basic, [0], [(0, 4294967295, 1)], false, false, false⟩
/-- R102. -/
def TILES_ABANDONED : ObjRow := ⟨"TILES_ABANDONED", true, 0, 0x1047, 1, 0x00, 1, .u32, .ro, .basic, [0], [(0, 4294967295, 1)], false, false, false⟩
/-- R102. -/
def JOBS_DEFERRED : ObjRow := ⟨"JOBS_DEFERRED", true, 0, 0x1048, 1, 0x00, 1, .u16, .ro, .basic, [0], [(0, 65535, 1)], false, false, false⟩
/-- R102. -/
def SAVE_SLOTS_FREE : ObjRow := ⟨"SAVE_SLOTS_FREE", true, 0, 0x1049, 1, 0x00, 1, .u8, .ro, .basic, [8], [(0, 8, 1)], false, false, false⟩
/-- R102. -/
def TILE_YIELD_LIMIT : ObjRow := ⟨"TILE_YIELD_LIMIT", true, 0, 0x1830, 1, 0x00, 1, .u16, .rwc, .expert, [200], [(0, 0, 1), (20, 5000, 1)], false, false, false⟩
/-- R152. -/
def COMPOSE_SOURCE : ObjRow := ⟨"COMPOSE_SOURCE", true, 0, 0x2000, 1, 0x00, 1, .u8, .ro, .basic, [0], [(0, 2, 1)], false, false, false⟩
/-- R152. -/
def BACKGROUND_COLOUR : ObjRow := ⟨"BACKGROUND_COLOUR", true, 0, 0x2001, 1, 0x00, 1, .u32, .rwc, .basic, [0], [(0, 1073741823, 1)], false, false, false⟩
/-- R152. -/
def UNDERFLOW_COLOUR : ObjRow := ⟨"UNDERFLOW_COLOUR", true, 0, 0x2002, 1, 0x00, 1, .u32, .rwc, .basic, [0], [(0, 1073741823, 1)], false, false, false⟩
/-- R152. -/
def LAYER_COMMIT : ObjRow := ⟨"LAYER_COMMIT", true, 0, 0x2003, 1, 0x00, 1, .u32, .wo, .basic, [0], [(0, 131071, 1)], false, false, false⟩
/-- R152. -/
def COMMIT_SEQ : ObjRow := ⟨"COMMIT_SEQ", true, 0, 0x2004, 1, 0x00, 1, .u16, .ro, .basic, [0], [(0, 65535, 1)], true, false, false⟩
/-- R152. -/
def LEAD_MIN : ObjRow := ⟨"LEAD_MIN", true, 0, 0x2005, 1, 0x00, 1, .u8, .ro, .basic, [16], [(0, 16, 1)], false, false, false⟩
/-- R152. -/
def PICTURE_STATIC : ObjRow := ⟨"PICTURE_STATIC", true, 0, 0x2006, 1, 0x00, 1, .bool, .ro, .basic, [0], [(0, 0, 1), (1, 1, 1)], false, false, false⟩
/-- R152. -/
def STATIC_FRAMES : ObjRow := ⟨"STATIC_FRAMES", true, 0, 0x2007, 1, 0x00, 1, .u32, .ro, .basic, [0], [(0, 4294967295, 1)], false, false, false⟩
/-- R152. -/
def OUTPUT_LUT : ObjRow := ⟨"OUTPUT_LUT", true, 0, 0x2008, 1, 0x00, 1, .blob, .rwc, .basic, [], [], false, false, false⟩
/-- R152. -/
def LAYER_ENABLE : ObjRow := ⟨"LAYER_ENABLE", true, 0, 0x2010, 16, 0x01, 1, .bool, .rwc, .basic, [0], [(0, 0, 1), (1, 1, 1)], false, false, false⟩
/-- R152. -/
def LAYER_FORMAT : ObjRow := ⟨"LAYER_FORMAT", true, 0, 0x2010, 16, 0x02, 1, .u8, .rwc, .basic, [1], [(0, 255, 1)], false, false, false⟩
/-- R152. -/
def LAYER_ALPHA : ObjRow := ⟨"LAYER_ALPHA", true, 0, 0x2010, 16, 0x03, 1, .u8, .rwc, .basic, [255], [(0, 255, 1)], false, false, false⟩
/-- R152. -/
def BLEND_MODE : ObjRow := ⟨"BLEND_MODE", true, 0, 0x2010, 16, 0x04, 1, .u8, .rwc, .basic, [1], [(0, 2, 1)], false, false, false⟩
/-- R152. -/
def BUF_ADDR : ObjRow := ⟨"BUF_ADDR", true, 0, 0x2010, 16, 0x05, 1, .u64, .rwc, .basic, [0], [(0, 18446744073709551615, 1)], false, false, false⟩
/-- R152. -/
def BUF_PITCH : ObjRow := ⟨"BUF_PITCH", true, 0, 0x2010, 16, 0x06, 1, .u32, .rwc, .basic, [0], [(0, 4294967295, 1)], false, false, false⟩
/-- R152. -/
def BUF_WIDTH : ObjRow := ⟨"BUF_WIDTH", true, 0, 0x2010, 16, 0x07, 1, .u16, .rwc, .basic, [0], [(1, 16384, 1)], false, false, false⟩
/-- R152. -/
def BUF_HEIGHT : ObjRow := ⟨"BUF_HEIGHT", true, 0, 0x2010, 16, 0x08, 1, .u16, .rwc, .basic, [0], [(1, 16384, 1)], false, false, false⟩
/-- R152. -/
def SRC_X : ObjRow := ⟨"SRC_X", true, 0, 0x2010, 16, 0x09, 1, .u16, .rwc, .basic, [0], [(0, 65535, 1)], false, false, false⟩
/-- R152. -/
def SRC_Y : ObjRow := ⟨"SRC_Y", true, 0, 0x2010, 16, 0x0A, 1, .u16, .rwc, .basic, [0], [(0, 65535, 1)], false, false, false⟩
/-- R152. -/
def SRC_W : ObjRow := ⟨"SRC_W", true, 0, 0x2010, 16, 0x0B, 1, .u16, .rwc, .basic, [0], [(0, 65535, 1)], false, false, false⟩
/-- R152. -/
def SRC_H : ObjRow := ⟨"SRC_H", true, 0, 0x2010, 16, 0x0C, 1, .u16, .rwc, .basic, [0], [(0, 65535, 1)], false, false, false⟩
/-- R152. -/
def DST_X : ObjRow := ⟨"DST_X", true, 0, 0x2010, 16, 0x0D, 1, .i16, .rwc, .basic, [0], [(-8192, 8191, 1)], false, false, false⟩
/-- R152. -/
def DST_Y : ObjRow := ⟨"DST_Y", true, 0, 0x2010, 16, 0x0E, 1, .i16, .rwc, .basic, [0], [(-8192, 8191, 1)], false, false, false⟩
/-- R152. -/
def DST_W : ObjRow := ⟨"DST_W", true, 0, 0x2010, 16, 0x0F, 1, .u16, .rwc, .basic, [0], [(0, 65535, 1)], false, false, false⟩
/-- R152. -/
def DST_H : ObjRow := ⟨"DST_H", true, 0, 0x2010, 16, 0x10, 1, .u16, .rwc, .basic, [0], [(0, 65535, 1)], false, false, false⟩
/-- R152. -/
def CHROMA_ADDR : ObjRow := ⟨"CHROMA_ADDR", true, 0, 0x2010, 16, 0x11, 1, .u64, .rwc, .basic, [0], [(0, 18446744073709551615, 1)], false, false, false⟩
/-- R152. -/
def CHROMA_PITCH : ObjRow := ⟨"CHROMA_PITCH", true, 0, 0x2010, 16, 0x12, 1, .u32, .rwc, .basic, [0], [(0, 4294967295, 1)], false, false, false⟩
/-- R152. -/
def SIG_TABLE_ADDR : ObjRow := ⟨"SIG_TABLE_ADDR", true, 0, 0x2010, 16, 0x13, 1, .u64, .rwc, .basic, [0], [(0, 18446744073709551615, 1)], false, false, false⟩
/-- R152. -/
def SCALE_FILTER : ObjRow := ⟨"SCALE_FILTER", true, 0, 0x2010, 16, 0x14, 1, .u8, .rwc, .basic, [1], [(0, 0, 1), (1, 1, 1)], false, false, false⟩
/-- R152. -/
def PRE_LUT : ObjRow := ⟨"PRE_LUT", true, 0, 0x2020, 16, 0x01, 1, .blob, .rwc, .basic, [], [], false, false, false⟩
/-- R152. -/
def MATRIX : ObjRow := ⟨"MATRIX", true, 0, 0x2020, 16, 0x02, 1, .blob, .rwc, .basic, [], [], false, false, false⟩
/-- R152. -/
def POST_LUT : ObjRow := ⟨"POST_LUT", true, 0, 0x2020, 16, 0x03, 1, .blob, .rwc, .basic, [], [], false, false, false⟩
/-- R152. -/
def ECHO_HOTSPOT_X : ObjRow := ⟨"ECHO_HOTSPOT_X", true, 0, 0x2030, 1, 0x01, 1, .u8, .rwc, .basic, [0], [(0, 255, 1)], false, false, false⟩
/-- R152. -/
def ECHO_HOTSPOT_Y : ObjRow := ⟨"ECHO_HOTSPOT_Y", true, 0, 0x2030, 1, 0x02, 1, .u8, .rwc, .basic, [0], [(0, 255, 1)], false, false, false⟩
/-- R152. -/
def ECHO_MAX_COPIES : ObjRow := ⟨"ECHO_MAX_COPIES", true, 0, 0x2030, 1, 0x03, 1, .u8, .rwc, .basic, [10], [(1, 10, 1)], false, false, false⟩
/-- R152. -/
def WB_ENABLE : ObjRow := ⟨"WB_ENABLE", true, 0, 0x2040, 1, 0x01, 1, .bool, .rwc, .basic, [0], [(0, 0, 1), (1, 1, 1)], false, false, false⟩
/-- R152. -/
def WB_FORMAT : ObjRow := ⟨"WB_FORMAT", true, 0, 0x2040, 1, 0x02, 1, .u8, .rwc, .basic, [2], [(1, 1, 1), (2, 2, 1)], false, false, false⟩
/-- R152. -/
def WB_ADDR : ObjRow := ⟨"WB_ADDR", true, 0, 0x2040, 1, 0x03, 1, .u64, .rwc, .basic, [0], [(0, 18446744073709551615, 1)], false, false, false⟩
/-- R152. -/
def WB_PITCH : ObjRow := ⟨"WB_PITCH", true, 0, 0x2040, 1, 0x04, 1, .u32, .rwc, .basic, [0], [(0, 4294967295, 1)], false, false, false⟩
/-- R152. -/
def CROP_X : ObjRow := ⟨"CROP_X", true, 0, 0x2040, 1, 0x05, 1, .u16, .rwc, .basic, [0], [(0, 65535, 1)], false, false, false⟩
/-- R152. -/
def CROP_Y : ObjRow := ⟨"CROP_Y", true, 0, 0x2040, 1, 0x06, 1, .u16, .rwc, .basic, [0], [(0, 65535, 1)], false, false, false⟩
/-- R152. -/
def CROP_W : ObjRow := ⟨"CROP_W", true, 0, 0x2040, 1, 0x07, 1, .u16, .rwc, .basic, [7680], [(0, 65535, 1)], false, false, false⟩
/-- R152. -/
def CROP_H : ObjRow := ⟨"CROP_H", true, 0, 0x2040, 1, 0x08, 1, .u16, .rwc, .basic, [4320], [(0, 65535, 1)], false, false, false⟩
/-- R152. -/
def WB_FRAME_DECIMATION : ObjRow := ⟨"WB_FRAME_DECIMATION", true, 0, 0x2040, 1, 0x09, 1, .u8, .rwc, .basic, [1], [(1, 255, 1)], false, false, false⟩
/-- R152. -/
def WB_SPATIAL_DECIMATION : ObjRow := ⟨"WB_SPATIAL_DECIMATION", true, 0, 0x2040, 1, 0x0A, 1, .u8, .rwc, .basic, [1], [(1, 1, 1), (2, 2, 1), (4, 4, 1)], false, false, false⟩
/-- R152. -/
def UNDERFLOW_LINES : ObjRow := ⟨"UNDERFLOW_LINES", true, 0, 0x2050, 1, 0x01, 1, .u32, .ro, .basic, [0], [(0, 4294967295, 1)], false, false, false⟩
/-- R152. -/
def COMMITS_LATCHED : ObjRow := ⟨"COMMITS_LATCHED", true, 0, 0x2050, 1, 0x02, 1, .u32, .ro, .basic, [0], [(0, 4294967295, 1)], false, false, false⟩
/-- R152. -/
def COMMITS_REFUSED : ObjRow := ⟨"COMMITS_REFUSED", true, 0, 0x2050, 1, 0x03, 1, .u32, .ro, .basic, [0], [(0, 4294967295, 1)], false, false, false⟩
/-- R152. -/
def COMMITS_SUPERSEDED : ObjRow := ⟨"COMMITS_SUPERSEDED", true, 0, 0x2050, 1, 0x04, 1, .u32, .ro, .basic, [0], [(0, 4294967295, 1)], false, false, false⟩
/-- R152. -/
def WB_FRAMES_DROPPED : ObjRow := ⟨"WB_FRAMES_DROPPED", true, 0, 0x2050, 1, 0x05, 1, .u32, .ro, .basic, [0], [(0, 4294967295, 1)], false, false, false⟩
/-- R152. -/
def WB_FRAMES_WRITTEN : ObjRow := ⟨"WB_FRAMES_WRITTEN", true, 0, 0x2050, 1, 0x06, 1, .u32, .ro, .basic, [0], [(0, 4294967295, 1)], false, false, false⟩
/-- R152. -/
def LAYER_FAULTS : ObjRow := ⟨"LAYER_FAULTS", true, 0, 0x2050, 1, 0x07, 1, .u32, .ro, .basic, [0], [(0, 4294967295, 1)], false, false, false⟩
/-- R152. -/
def LEAD_LOW_LINES : ObjRow := ⟨"LEAD_LOW_LINES", true, 0, 0x2050, 1, 0x08, 1, .u32, .ro, .basic, [0], [(0, 4294967295, 1)], false, false, false⟩
/-- R152. -/
def TRANSOM_TARGET : ObjRow := ⟨"TRANSOM_TARGET", true, 0, 0x2800, 1, 0x00, 1, .u8, .rwc, .expert, [16], [(4, 16, 1)], false, false, false⟩
/-- R186. -/
def GUARD_COMMIT : ObjRow := ⟨"GUARD_COMMIT", true, 0, 0x2100, 1, 0x00, 1, .u32, .wo, .basic, [0], [(0, 4294967295, 1)], false, false, false⟩
/-- R186. -/
def ESCALATION_FRAMES : ObjRow := ⟨"ESCALATION_FRAMES", true, 0, 0x2101, 1, 0x00, 1, .u16, .rw, .basic, [300], [(0, 65535, 1)], false, true, false⟩
/-- R186. -/
def REF_PARITY_ERRORS : ObjRow := ⟨"REF_PARITY_ERRORS", true, 0, 0x2102, 1, 0x00, 1, .u32, .ro, .basic, [0], [(0, 4294967295, 1)], false, false, false⟩
/-- R186. -/
def REGION_ENABLE : ObjRow := ⟨"REGION_ENABLE", true, 0, 0x2110, 32, 0x01, 1, .bool, .rwc, .basic, [0], [(0, 0, 1), (1, 1, 1)], false, false, false⟩
/-- R186. -/
def REGION_X : ObjRow := ⟨"REGION_X", true, 0, 0x2110, 32, 0x02, 1, .u16, .rwc, .basic, [0], [(0, 7679, 1)], false, false, false⟩
/-- R186. -/
def REGION_Y : ObjRow := ⟨"REGION_Y", true, 0, 0x2110, 32, 0x03, 1, .u16, .rwc, .basic, [0], [(0, 4319, 1)], false, false, false⟩
/-- R186. -/
def REGION_W : ObjRow := ⟨"REGION_W", true, 0, 0x2110, 32, 0x04, 1, .u16, .rwc, .basic, [0], [(1, 7680, 1)], false, false, false⟩
/-- R186. -/
def REGION_H : ObjRow := ⟨"REGION_H", true, 0, 0x2110, 32, 0x05, 1, .u16, .rwc, .basic, [0], [(1, 4320, 1)], false, false, false⟩
/-- R186. -/
def REF_BASE : ObjRow := ⟨"REF_BASE", true, 0, 0x2110, 32, 0x06, 1, .u32, .rwc, .basic, [0], [(0, 131071, 1)], false, false, false⟩
/-- R186. -/
def REF_PAGES : ObjRow := ⟨"REF_PAGES", true, 0, 0x2110, 32, 0x07, 1, .u8, .rwc, .basic, [1], [(1, 16, 1)], false, false, false⟩
/-- R186. -/
def REF_PAGE : ObjRow := ⟨"REF_PAGE", true, 0, 0x2110, 32, 0x08, 1, .u8, .rwc, .basic, [0], [(0, 15, 1)], false, false, false⟩
/-- R186. -/
def UNCHECKED_POLICY : ObjRow := ⟨"UNCHECKED_POLICY", true, 0, 0x2110, 32, 0x09, 1, .u8, .rwc, .basic, [0], [(0, 0, 1), (1, 1, 1)], false, false, false⟩
/-- R186. -/
def SHUTTER_MODE : ObjRow := ⟨"SHUTTER_MODE", true, 0, 0x2110, 32, 0x0A, 1, .u8, .rwc, .basic, [0], [(0, 2, 1)], false, false, false⟩
/-- R186. -/
def SHUTTER_SCOPE : ObjRow := ⟨"SHUTTER_SCOPE", true, 0, 0x2110, 32, 0x0B, 1, .u8, .rwc, .basic, [1], [(0, 0, 1), (1, 1, 1)], false, false, false⟩
/-- R186. -/
def SHUTTER_HOLD : ObjRow := ⟨"SHUTTER_HOLD", true, 0, 0x2110, 32, 0x0C, 1, .u8, .rwc, .basic, [1], [(0, 255, 1)], false, false, false⟩
/-- R186. -/
def SHUTTER_FILL : ObjRow := ⟨"SHUTTER_FILL", true, 0, 0x2110, 32, 0x0D, 1, .u32, .rwc, .basic, [0], [(0, 1073741823, 1)], false, false, false⟩
/-- R186. -/
def SHUTTER_GLYPH : ObjRow := ⟨"SHUTTER_GLYPH", true, 0, 0x2110, 32, 0x0E, 1, .u8, .rwc, .basic, [0], [(0, 63, 1)], false, false, false⟩
/-- R186. -/
def TIE_LAYER : ObjRow := ⟨"TIE_LAYER", true, 0, 0x2110, 32, 0x0F, 1, .u8, .rwc, .basic, [255], [(0, 15, 1), (255, 255, 1)], false, false, false⟩
/-- R186. -/
def REGION_STATUS : ObjRow := ⟨"REGION_STATUS", true, 0, 0x2130, 32, 0x01, 1, .u8, .ro, .basic, [0], [(0, 3, 1)], false, false, false⟩
/-- R186. -/
def MISMATCH_SEGMENTS : ObjRow := ⟨"MISMATCH_SEGMENTS", true, 0, 0x2130, 32, 0x02, 1, .u32, .ro, .basic, [0], [(0, 4294967295, 1)], false, false, false⟩
/-- R186. -/
def UNCHECKED_SEGMENTS : ObjRow := ⟨"UNCHECKED_SEGMENTS", true, 0, 0x2130, 32, 0x03, 1, .u32, .ro, .basic, [0], [(0, 4294967295, 1)], false, false, false⟩
/-- R186. -/
def MISMATCH_FRAMES : ObjRow := ⟨"MISMATCH_FRAMES", true, 0, 0x2130, 32, 0x04, 1, .u32, .ro, .basic, [0], [(0, 4294967295, 1)], false, false, false⟩
/-- R186. -/
def MISMATCH_RUN : ObjRow := ⟨"MISMATCH_RUN", true, 0, 0x2130, 32, 0x05, 1, .u16, .ro, .basic, [0], [(0, 65535, 1)], false, false, false⟩
/-- R186. -/
def PAGES_LOADED : ObjRow := ⟨"PAGES_LOADED", true, 0, 0x2130, 32, 0x06, 1, .u16, .ro, .basic, [0], [(0, 65535, 1)], false, false, false⟩
/-- R186. -/
def PAGES_DAMAGED : ObjRow := ⟨"PAGES_DAMAGED", true, 0, 0x2130, 32, 0x07, 1, .u16, .ro, .basic, [0], [(0, 65535, 1)], false, false, false⟩
/-- R186. -/
def REF_LOAD_REGION : ObjRow := ⟨"REF_LOAD_REGION", true, 0, 0x2150, 1, 0x01, 1, .u8, .rw, .basic, [0], [(0, 31, 1)], false, false, false⟩
/-- R186. -/
def REF_LOAD_PAGE : ObjRow := ⟨"REF_LOAD_PAGE", true, 0, 0x2150, 1, 0x02, 1, .u8, .rw, .basic, [0], [(0, 15, 1)], false, false, false⟩
/-- R186. -/
def REF_LOAD_ADDR : ObjRow := ⟨"REF_LOAD_ADDR", true, 0, 0x2150, 1, 0x03, 1, .u64, .rw, .basic, [0], [(0, 18446744073709551615, 8)], false, false, false⟩
/-- R186. -/
def REF_LOAD_START : ObjRow := ⟨"REF_LOAD_START", true, 0, 0x2150, 1, 0x04, 1, .bool, .wo, .basic, [0], [(0, 0, 1), (1, 1, 1)], false, false, false⟩
/-- R186. -/
def REF_LOAD_RESULT : ObjRow := ⟨"REF_LOAD_RESULT", true, 0, 0x2151, 1, 0x00, 1, .u8, .ro, .basic, [0], [(0, 7, 1)], false, false, true⟩
/-- R186. -/
def SAFE_STORE : ObjRow := ⟨"SAFE_STORE", true, 0, 0x2160, 1, 0x00, 1, .blob, .rw, .expert, [], [], false, true, false⟩
/-- R186. -/
def SAFE_STORE_STATE : ObjRow := ⟨"SAFE_STORE_STATE", true, 0, 0x2161, 1, 0x00, 1, .u8, .ro, .basic, [0], [(0, 3, 1)], false, false, false⟩
/-- R218. -/
def OUTPUT_STATE : ObjRow := ⟨"OUTPUT_STATE", true, 0, 0x3000, 1, 0x00, 1, .u8, .ro, .basic, [0], [(0, 6, 1)], false, false, false⟩
/-- R218. -/
def MODE_COMMIT : ObjRow := ⟨"MODE_COMMIT", true, 0, 0x3001, 1, 0x00, 1, .bool, .wo, .basic, [0], [(0, 0, 1), (1, 1, 1)], false, false, false⟩
/-- R218. -/
def MODE_RESULT : ObjRow := ⟨"MODE_RESULT", true, 0, 0x3002, 1, 0x00, 1, .u8, .ro, .basic, [0], [(0, 13, 1)], false, false, true⟩
/-- R218. -/
def LINK_CONFIG : ObjRow := ⟨"LINK_CONFIG", true, 0, 0x3003, 1, 0x00, 1, .u16, .ro, .basic, [0], [(0, 65535, 1)], false, false, false⟩
/-- R218. -/
def FRAME_COUNTER : ObjRow := ⟨"FRAME_COUNTER", true, 0, 0x3004, 1, 0x00, 1, .u32, .ro, .basic, [0], [(0, 4294967295, 1)], false, false, false⟩
/-- R218. -/
def FRAME_TIME_LAST : ObjRow := ⟨"FRAME_TIME_LAST", true, 0, 0x3005, 1, 0x00, 1, .u32, .ro, .basic, [0], [(0, 4294967295, 1)], false, false, false⟩
/-- R218. -/
def REFRESH_STATE : ObjRow := ⟨"REFRESH_STATE", true, 0, 0x3006, 1, 0x00, 1, .u8, .ro, .basic, [0], [(0, 3, 1)], false, false, false⟩
/-- R218. -/
def PIXEL_CLOCK_KHZ : ObjRow := ⟨"PIXEL_CLOCK_KHZ", true, 0, 0x3010, 1, 0x01, 1, .u32, .rwc, .basic, [148500], [(25000, 1350000, 1)], false, false, false⟩
/-- R218. -/
def H_ACTIVE : ObjRow := ⟨"H_ACTIVE", true, 0, 0x3010, 1, 0x02, 1, .u16, .rwc, .basic, [1920], [(0, 65535, 1)], false, false, false⟩
/-- R218. -/
def H_FP : ObjRow := ⟨"H_FP", true, 0, 0x3010, 1, 0x03, 1, .u16, .rwc, .basic, [88], [(0, 65535, 1)], false, false, false⟩
/-- R218. -/
def H_SYNC : ObjRow := ⟨"H_SYNC", true, 0, 0x3010, 1, 0x04, 1, .u16, .rwc, .basic, [44], [(0, 65535, 1)], false, false, false⟩
/-- R218. -/
def H_BP : ObjRow := ⟨"H_BP", true, 0, 0x3010, 1, 0x05, 1, .u16, .rwc, .basic, [148], [(0, 65535, 1)], false, false, false⟩
/-- R218. -/
def V_ACTIVE : ObjRow := ⟨"V_ACTIVE", true, 0, 0x3010, 1, 0x06, 1, .u16, .rwc, .basic, [1080], [(0, 65535, 1)], false, false, false⟩
/-- R218. -/
def V_FP : ObjRow := ⟨"V_FP", true, 0, 0x3010, 1, 0x07, 1, .u16, .rwc, .basic, [4], [(0, 65535, 1)], false, false, false⟩
/-- R218. -/
def V_SYNC : ObjRow := ⟨"V_SYNC", true, 0, 0x3010, 1, 0x08, 1, .u16, .rwc, .basic, [5], [(0, 65535, 1)], false, false, false⟩
/-- R218. -/
def V_BP : ObjRow := ⟨"V_BP", true, 0, 0x3010, 1, 0x09, 1, .u16, .rwc, .basic, [36], [(0, 65535, 1)], false, false, false⟩
/-- R218. -/
def SYNC_POLARITY : ObjRow := ⟨"SYNC_POLARITY", true, 0, 0x3010, 1, 0x0A, 1, .u8, .rwc, .basic, [3], [(0, 3, 1)], false, false, false⟩
/-- R218. -/
def LINK_BPC : ObjRow := ⟨"LINK_BPC", true, 0, 0x3010, 1, 0x0B, 1, .u8, .rwc, .basic, [10], [(8, 8, 1), (10, 10, 1)], false, false, false⟩
/-- R218. -/
def OUTPUT_KIND : ObjRow := ⟨"OUTPUT_KIND", true, 0, 0x3020, 1, 0x01, 1, .u8, .rwc, .basic, [0], [(0, 0, 1), (1, 1, 1)], false, true, false⟩
/-- R218. -/
def MAX_LINK_RATE : ObjRow := ⟨"MAX_LINK_RATE", true, 0, 0x3020, 1, 0x02, 1, .u8, .rwc, .basic, [1], [(1, 7, 1)], false, false, false⟩
/-- R218. -/
def MAX_LANES : ObjRow := ⟨"MAX_LANES", true, 0, 0x3020, 1, 0x03, 1, .u8, .rwc, .basic, [4], [(1, 1, 1), (2, 2, 1), (4, 4, 1)], false, false, false⟩
/-- R218. -/
def SSC_ENABLE : ObjRow := ⟨"SSC_ENABLE", true, 0, 0x3020, 1, 0x04, 1, .bool, .rwc, .basic, [1], [(0, 0, 1), (1, 1, 1)], false, false, false⟩
/-- R218. -/
def LTTPR_MODE : ObjRow := ⟨"LTTPR_MODE", true, 0, 0x3020, 1, 0x05, 1, .u8, .rwc, .basic, [1], [(0, 0, 1), (1, 1, 1)], false, false, false⟩
/-- R218. -/
def LINK_RETRY_INTERVAL : ObjRow := ⟨"LINK_RETRY_INTERVAL", true, 0, 0x3020, 1, 0x06, 1, .u16, .rw, .basic, [1000], [(100, 60000, 1)], false, false, false⟩
/-- R218. -/
def LINK_RETRY_LIMIT : ObjRow := ⟨"LINK_RETRY_LIMIT", true, 0, 0x3020, 1, 0x07, 1, .u16, .rw, .basic, [0], [(0, 65535, 1)], false, false, false⟩
/-- R218. -/
def DSC_MODE : ObjRow := ⟨"DSC_MODE", true, 0, 0x3020, 1, 0x08, 1, .u8, .rwc, .basic, [1], [(0, 2, 1)], false, false, false⟩
/-- R218. -/
def DSC_BPP_X16 : ObjRow := ⟨"DSC_BPP_X16", true, 0, 0x3020, 1, 0x09, 1, .u16, .rwc, .basic, [192], [(128, 240, 1)], false, false, false⟩
/-- R218. -/
def DSC_SLICES : ObjRow := ⟨"DSC_SLICES", true, 0, 0x3020, 1, 0x0A, 1, .u8, .rwc, .basic, [4], [(1, 1, 1), (2, 2, 1), (4, 4, 1), (8, 8, 1)], false, false, false⟩
/-- R218. -/
def PANEL_ON_DELAY_MS : ObjRow := ⟨"PANEL_ON_DELAY_MS", true, 0, 0x3020, 1, 0x0B, 1, .u16, .rw, .basic, [200], [(0, 2000, 1)], false, false, false⟩
/-- R218. -/
def BL_ON_DELAY_MS : ObjRow := ⟨"BL_ON_DELAY_MS", true, 0, 0x3020, 1, 0x0C, 1, .u16, .rw, .basic, [50], [(0, 2000, 1)], false, false, false⟩
/-- R218. -/
def SYNC_MODE : ObjRow := ⟨"SYNC_MODE", true, 0, 0x3030, 1, 0x01, 1, .u8, .rwc, .basic, [0], [(0, 0, 1), (1, 1, 1)], false, false, false⟩
/-- R218. -/
def STATIC_LOWERING : ObjRow := ⟨"STATIC_LOWERING", true, 0, 0x3030, 1, 0x02, 1, .bool, .rwc, .basic, [1], [(0, 0, 1), (1, 1, 1)], false, false, false⟩
/-- R218. -/
def REFRESH_FLOOR_HZ : ObjRow := ⟨"REFRESH_FLOOR_HZ", true, 0, 0x3030, 1, 0x03, 1, .u8, .rwc, .basic, [30], [(20, 144, 1)], false, false, false⟩
/-- R218. -/
def REFRESH_RAMP_US : ObjRow := ⟨"REFRESH_RAMP_US", true, 0, 0x3030, 1, 0x04, 1, .u16, .rwc, .basic, [2000], [(0, 50000, 1)], false, false, false⟩
/-- R218. -/
def STATIC_ENTRY_FRAMES : ObjRow := ⟨"STATIC_ENTRY_FRAMES", true, 0, 0x3030, 1, 0x05, 1, .u8, .rwc, .basic, [2], [(1, 255, 1)], false, false, false⟩
/-- R218. -/
def PSR_ENABLE : ObjRow := ⟨"PSR_ENABLE", true, 0, 0x3030, 1, 0x06, 1, .bool, .rwc, .basic, [1], [(0, 0, 1), (1, 1, 1)], false, false, false⟩
/-- R218. -/
def PSR_ENTRY_FRAMES : ObjRow := ⟨"PSR_ENTRY_FRAMES", true, 0, 0x3030, 1, 0x07, 1, .u8, .rwc, .basic, [4], [(2, 255, 1)], false, false, false⟩
/-- R218. -/
def SINK_EDID : ObjRow := ⟨"SINK_EDID", true, 0, 0x3050, 1, 0x00, 1, .blob, .ro, .basic, [], [], false, false, false⟩
/-- R218. -/
def SINK_CAPS : ObjRow := ⟨"SINK_CAPS", true, 0, 0x3051, 1, 0x00, 1, .u32, .ro, .basic, [0], [(0, 4294967295, 1)], false, false, false⟩
/-- R218. -/
def SINK_VRR_MIN_HZ : ObjRow := ⟨"SINK_VRR_MIN_HZ", true, 0, 0x3052, 1, 0x00, 1, .u8, .ro, .basic, [0], [(0, 144, 1)], false, false, false⟩
/-- R218. -/
def HOTPLUG_EVENTS : ObjRow := ⟨"HOTPLUG_EVENTS", true, 0, 0x3060, 1, 0x01, 1, .u32, .ro, .basic, [0], [(0, 4294967295, 1)], false, false, false⟩
/-- R218. -/
def SINK_LOSSES : ObjRow := ⟨"SINK_LOSSES", true, 0, 0x3060, 1, 0x02, 1, .u32, .ro, .basic, [0], [(0, 4294967295, 1)], false, false, false⟩
/-- R218. -/
def TRAINING_FAILS : ObjRow := ⟨"TRAINING_FAILS", true, 0, 0x3060, 1, 0x03, 1, .u32, .ro, .basic, [0], [(0, 4294967295, 1)], false, false, false⟩
/-- R218. -/
def OUT_RETRAINS : ObjRow := ⟨"OUT_RETRAINS", true, 0, 0x3060, 1, 0x04, 1, .u32, .ro, .basic, [0], [(0, 4294967295, 1)], false, false, false⟩
/-- R218. -/
def PSR_ENTRIES : ObjRow := ⟨"PSR_ENTRIES", true, 0, 0x3060, 1, 0x05, 1, .u32, .ro, .basic, [0], [(0, 4294967295, 1)], false, false, false⟩
/-- R218. -/
def FREEZE_EVENTS : ObjRow := ⟨"FREEZE_EVENTS", true, 0, 0x3060, 1, 0x06, 1, .u32, .ro, .basic, [0], [(0, 4294967295, 1)], false, false, false⟩
/-- R218. -/
def FREEZE_ENABLE : ObjRow := ⟨"FREEZE_ENABLE", true, 0, 0x3100, 4, 0x01, 1, .bool, .rw, .basic, [0], [(0, 0, 1), (1, 1, 1)], false, true, false⟩
/-- R218. -/
def FREEZE_X : ObjRow := ⟨"FREEZE_X", true, 0, 0x3100, 4, 0x02, 1, .u16, .rw, .basic, [0], [(0, 65535, 1)], false, true, false⟩
/-- R218. -/
def FREEZE_Y : ObjRow := ⟨"FREEZE_Y", true, 0, 0x3100, 4, 0x03, 1, .u16, .rw, .basic, [0], [(0, 65535, 1)], false, true, false⟩
/-- R218. -/
def FREEZE_W : ObjRow := ⟨"FREEZE_W", true, 0, 0x3100, 4, 0x04, 1, .u16, .rw, .basic, [32], [(0, 65535, 1)], false, true, false⟩
/-- R218. -/
def FREEZE_H : ObjRow := ⟨"FREEZE_H", true, 0, 0x3100, 4, 0x05, 1, .u16, .rw, .basic, [32], [(0, 65535, 1)], false, true, false⟩
/-- R218. -/
def FREEZE_FRAMES : ObjRow := ⟨"FREEZE_FRAMES", true, 0, 0x3100, 4, 0x06, 1, .u8, .rw, .basic, [60], [(1, 255, 1)], false, true, false⟩
/-- R218. -/
def FREEZE_BASIS : ObjRow := ⟨"FREEZE_BASIS", true, 0, 0x3100, 4, 0x07, 1, .u8, .rw, .basic, [0], [(0, 0, 1), (1, 1, 1)], false, false, false⟩
/-- R218. -/
def FREEZE_STATE : ObjRow := ⟨"FREEZE_STATE", true, 0, 0x3100, 4, 0x08, 1, .u8, .ro, .basic, [0], [(0, 3, 1)], false, false, false⟩
/-- R218. -/
def UNCHANGED_COUNT : ObjRow := ⟨"UNCHANGED_COUNT", true, 0, 0x3100, 4, 0x09, 1, .u16, .ro, .basic, [0], [(0, 65535, 1)], false, false, false⟩
/-- R218. -/
def LAST_SIGNATURE : ObjRow := ⟨"LAST_SIGNATURE", true, 0, 0x3100, 4, 0x0A, 1, .u32, .ro, .basic, [0], [(0, 4294967295, 1)], false, false, false⟩
/-- R218. -/
def FIX_LINES : ObjRow := ⟨"FIX_LINES", true, 0, 0x3830, 1, 0x00, 1, .u8, .rwc, .expert, [16], [(4, 255, 1)], false, false, false⟩
/-- R218. -/
def PSR_WAKE_US : ObjRow := ⟨"PSR_WAKE_US", true, 0, 0x3831, 1, 0x00, 1, .u16, .rwc, .expert, [100], [(10, 5000, 1)], false, false, false⟩
/-- R267. -/
def ECHO_TENTATIVE : ObjRow := ⟨"ECHO_TENTATIVE", true, 0, 0x2030, 1, 0x04, 1, .bool, .rwc, .basic, [1], [(0, 0, 1), (1, 1, 1)], false, false, false⟩
/-- R267. -/
def ECHO_ZONES : ObjRow := ⟨"ECHO_ZONES", true, 0, 0x2030, 1, 0x05, 1, .u32, .rwc, .expert, [131071], [(0, 131071, 1)], false, false, false⟩
/-- R267. -/
def ECHO_WITHDRAWN : ObjRow := ⟨"ECHO_WITHDRAWN", true, 0, 0x2050, 1, 0x09, 1, .u32, .ro, .basic, [0], [(0, 4294967295, 1)], false, false, false⟩
/-- R267. -/
def ECHO_LINES_RECOMPOSED : ObjRow := ⟨"ECHO_LINES_RECOMPOSED", true, 0, 0x2050, 1, 0x0A, 1, .u32, .ro, .basic, [0], [(0, 4294967295, 1)], false, false, false⟩
/-- R416. -/
def PENDING_OFF : ObjRow := ⟨"PENDING_OFF", true, 0, 0x0019, 1, 0x00, 1, .u8, .ro, .basic, [255], [(0, 0, 1), (3, 3, 1), (255, 255, 1)], false, false, false⟩
/-- R416. -/
def SECURE_LAYERS : ObjRow := ⟨"SECURE_LAYERS", true, 0, 0x0020, 1, 0x01, 1, .u16, .ro, .basic, [0], [(0, 65535, 1)], false, false, false⟩
/-- R416. -/
def SECURE_GUARDS : ObjRow := ⟨"SECURE_GUARDS", true, 0, 0x0020, 1, 0x02, 1, .u32, .ro, .basic, [0], [(0, 4294967295, 1)], false, false, false⟩
/-- R416. -/
def SECURE_ZONES : ObjRow := ⟨"SECURE_ZONES", true, 0, 0x0020, 1, 0x03, 1, .u16, .ro, .basic, [0], [(0, 65535, 1)], false, false, false⟩
/-- R416. -/
def SECURE_SOURCES : ObjRow := ⟨"SECURE_SOURCES", true, 0, 0x0020, 1, 0x04, 1, .u16, .ro, .basic, [0], [(0, 65535, 1)], false, false, false⟩
/-- R497. -/
def STATION_COMMIT : ObjRow := ⟨"STATION_COMMIT", true, 0, 0x0030, 1, 0x00, 1, .bool, .wo, .basic, [0], [(0, 0, 1), (1, 1, 1)], false, false, false⟩
/-- R581. -/
def STATION_RESET : ObjRow := ⟨"STATION_RESET", true, 0, 0x0031, 1, 0x00, 1, .bool, .wo, .basic, [0], [(0, 0, 1), (1, 1, 1)], false, false, false⟩
/-- R581. -/
def FUNCTION_GATE : ObjRow := ⟨"FUNCTION_GATE", true, 0, 0x0040, 1, 0x01, 1, .u8, .rw, .basic, [0], [(0, 7, 1)], false, true, false⟩
/-- R581. -/
def GATE_PENDING : ObjRow := ⟨"GATE_PENDING", true, 0, 0x0040, 1, 0x02, 1, .u8, .ro, .basic, [255], [(0, 7, 1), (255, 255, 1)], false, false, false⟩
/-- R581. -/
def STATION_WATCHDOG_MS : ObjRow := ⟨"STATION_WATCHDOG_MS", true, 0, 0x0041, 1, 0x00, 1, .u16, .rw, .expert, [250], [(20, 5000, 1)], false, true, false⟩
/-- R595. -/
def PLL_LOCKED : ObjRow := ⟨"PLL_LOCKED", true, 0, 0x0050, 1, 0x01, 1, .u8, .ro, .basic, [0], [(0, 255, 1)], false, false, false⟩
/-- R595. -/
def PLL_LOCK_LOSSES : ObjRow := ⟨"PLL_LOCK_LOSSES", true, 0, 0x0050, 1, 0x02, 1, .u32, .ro, .basic, [0], [(0, 4294967295, 1)], false, false, false⟩
/-- R595. -/
def PLL_FAULT_SOURCE : ObjRow := ⟨"PLL_FAULT_SOURCE", true, 0, 0x0050, 1, 0x03, 1, .u8, .ro, .basic, [255], [(0, 7, 1), (255, 255, 1)], false, false, false⟩
/-- R595. -/
def DOORBELL_VALUE_MERGES : ObjRow := ⟨"DOORBELL_VALUE_MERGES", true, 0, 0x0051, 1, 0x01, 1, .u32, .ro, .basic, [0], [(0, 4294967295, 1)], false, false, false⟩
/-- R595. -/
def EVENT_MERGES : ObjRow := ⟨"EVENT_MERGES", true, 0, 0x0051, 1, 0x02, 1, .u32, .ro, .basic, [0], [(0, 4294967295, 1)], false, false, false⟩
/-- R624. -/
def STATION_LOG_RING : ObjRow := ⟨"STATION_LOG_RING", true, 0, 0x0060, 1, 0x01, 1, .blob, .ro, .expert, [], [], false, false, false⟩
/-- R624. -/
def STATION_LOG_SEQ : ObjRow := ⟨"STATION_LOG_SEQ", true, 0, 0x0060, 1, 0x02, 1, .u32, .ro, .basic, [0], [(0, 4294967295, 1)], false, false, false⟩
/-- R624. -/
def STATION_LOG_OVERFLOWS : ObjRow := ⟨"STATION_LOG_OVERFLOWS", true, 0, 0x0060, 1, 0x03, 1, .u32, .ro, .basic, [0], [(0, 4294967295, 1)], false, false, false⟩

end Sys2Proof.Machine.Obj
end

