-- ==== Sys2Proof/Machine/ObjectsStationB.lean ====
section
/-! DEFINITION. The rows of the object dictionary, station blocks 4 to 7: one definition per object table row of the spec, with the
rule whose table gives it. -/
namespace Sys2Proof.Machine.Obj

/-- R259. -/
def TOUCH_STATE : ObjRow := ⟨"TOUCH_STATE", true, 0, 0x4000, 1, 0x00, 1, .u8, .ro, .basic, [0], [(0, 4, 1)], false, false, false⟩
/-- R259. -/
def REPORT_RATE_HZ : ObjRow := ⟨"REPORT_RATE_HZ", true, 0, 0x4001, 1, 0x00, 1, .u16, .ro, .basic, [0], [(0, 240, 1)], false, false, false⟩
/-- R259. -/
def SCAN_SEQ : ObjRow := ⟨"SCAN_SEQ", true, 0, 0x4002, 1, 0x00, 1, .u16, .ro, .basic, [0], [(0, 65535, 1)], false, false, false⟩
/-- R259. -/
def TX_FREQ_INDEX : ObjRow := ⟨"TX_FREQ_INDEX", true, 0, 0x4003, 1, 0x00, 1, .u8, .ro, .basic, [0], [(0, 7, 1)], false, false, false⟩
/-- R259. -/
def HOP_SET : ObjRow := ⟨"HOP_SET", true, 0, 0x4004, 1, 0x00, 1, .u8, .ro, .basic, [0], [(0, 255, 1)], false, false, false⟩
/-- R259. -/
def TOUCH_COMMIT : ObjRow := ⟨"TOUCH_COMMIT", true, 0, 0x4005, 1, 0x00, 1, .bool, .wo, .basic, [0], [(0, 0, 1), (1, 1, 1)], false, false, false⟩
/-- R259. -/
def CONTACTS_LIVE : ObjRow := ⟨"CONTACTS_LIVE", true, 0, 0x4006, 1, 0x00, 1, .u8, .ro, .basic, [0], [(0, 20, 1)], false, false, false⟩
/-- R259. -/
def TX_COUNT : ObjRow := ⟨"TX_COUNT", true, 0, 0x4010, 1, 0x01, 1, .u8, .rwc, .basic, [72], [(4, 72, 1)], false, true, false⟩
/-- R259. -/
def RX_COUNT : ObjRow := ⟨"RX_COUNT", true, 0, 0x4010, 1, 0x02, 1, .u8, .rwc, .basic, [48], [(4, 48, 1)], false, true, false⟩
/-- R259. -/
def AXIS_MAP : ObjRow := ⟨"AXIS_MAP", true, 0, 0x4010, 1, 0x03, 1, .u8, .rwc, .basic, [0], [(0, 7, 1)], false, true, false⟩
/-- R259. -/
def TX_VOLTAGE_DV : ObjRow := ⟨"TX_VOLTAGE_DV", true, 0, 0x4010, 1, 0x04, 1, .u8, .rwc, .basic, [60], [(30, 120, 5)], false, true, false⟩
/-- R259. -/
def TARGET_RATE_HZ : ObjRow := ⟨"TARGET_RATE_HZ", true, 0, 0x4010, 1, 0x05, 1, .u8, .rwc, .basic, [240], [(30, 240, 1)], false, true, false⟩
/-- R259. -/
def STEP_HALF_CYCLES : ObjRow := ⟨"STEP_HALF_CYCLES", true, 0, 0x4010, 1, 0x06, 1, .u8, .rwc, .basic, [2], [(1, 16, 1)], false, true, false⟩
/-- R259. -/
def QUIET_GUARD_NS : ObjRow := ⟨"QUIET_GUARD_NS", true, 0, 0x4010, 1, 0x07, 1, .u16, .rwc, .basic, [100], [(20, 1000, 1)], false, false, false⟩
/-- R259. -/
def VB_WINDOW_START : ObjRow := ⟨"VB_WINDOW_START", true, 0, 0x4010, 1, 0x08, 1, .u8, .rwc, .basic, [0], [(0, 254, 1)], false, false, false⟩
/-- R259. -/
def VB_WINDOW_LINES : ObjRow := ⟨"VB_WINDOW_LINES", true, 0, 0x4010, 1, 0x09, 1, .u8, .rwc, .basic, [255], [(1, 255, 1)], false, false, false⟩
/-- R259. -/
def TX_FREQ_KHZ : ObjRow := ⟨"TX_FREQ_KHZ", true, 0, 0x4011, 1, 0x01, 8, .u16, .rwc, .basic, [100, 125, 160, 200, 250, 315, 400, 500], [(100, 500, 1)], false, true, false⟩
/-- R259. -/
def HOP_ENABLE : ObjRow := ⟨"HOP_ENABLE", true, 0, 0x4011, 1, 0x09, 1, .u8, .rwc, .basic, [255], [(1, 255, 1)], false, false, false⟩
/-- R259. -/
def NOISE_HOP_LEVEL : ObjRow := ⟨"NOISE_HOP_LEVEL", true, 0, 0x4011, 1, 0x0A, 1, .u16, .rw, .basic, [80], [(1, 32767, 1)], false, false, false⟩
/-- R259. -/
def FINGER_THRESHOLD : ObjRow := ⟨"FINGER_THRESHOLD", true, 0, 0x4020, 1, 0x01, 1, .u16, .rw, .basic, [300], [(16, 32767, 1)], false, true, false⟩
/-- R259. -/
def GLOVE_THRESHOLD : ObjRow := ⟨"GLOVE_THRESHOLD", true, 0, 0x4020, 1, 0x02, 1, .u16, .rw, .basic, [100], [(16, 32767, 1)], false, true, false⟩
/-- R259. -/
def SELF_FINGER_THRESHOLD : ObjRow := ⟨"SELF_FINGER_THRESHOLD", true, 0, 0x4020, 1, 0x03, 1, .u16, .rw, .basic, [240], [(16, 32767, 1)], false, true, false⟩
/-- R259. -/
def SELF_GLOVE_THRESHOLD : ObjRow := ⟨"SELF_GLOVE_THRESHOLD", true, 0, 0x4020, 1, 0x04, 1, .u16, .rw, .basic, [80], [(16, 32767, 1)], false, true, false⟩
/-- R259. -/
def GLOVE_ENABLE : ObjRow := ⟨"GLOVE_ENABLE", true, 0, 0x4020, 1, 0x05, 1, .bool, .rw, .basic, [1], [(0, 0, 1), (1, 1, 1)], false, true, false⟩
/-- R259. -/
def WATER_REJECT : ObjRow := ⟨"WATER_REJECT", true, 0, 0x4020, 1, 0x06, 1, .bool, .rw, .basic, [1], [(0, 0, 1), (1, 1, 1)], false, true, false⟩
/-- R259. -/
def MATCH_RADIUS : ObjRow := ⟨"MATCH_RADIUS", true, 0, 0x4020, 1, 0x07, 1, .u16, .rw, .basic, [256], [(16, 2048, 1)], false, false, false⟩
/-- R259. -/
def MOVE_THRESHOLD : ObjRow := ⟨"MOVE_THRESHOLD", true, 0, 0x4020, 1, 0x08, 1, .u16, .rw, .basic, [8], [(0, 4095, 1)], false, false, false⟩
/-- R259. -/
def HOLD_LIMIT_S : ObjRow := ⟨"HOLD_LIMIT_S", true, 0, 0x4030, 1, 0x01, 1, .u16, .rw, .basic, [45], [(5, 3600, 1)], false, true, false⟩
/-- R259. -/
def HOLD_RADIUS : ObjRow := ⟨"HOLD_RADIUS", true, 0, 0x4030, 1, 0x02, 1, .u16, .rw, .basic, [128], [(16, 1024, 1)], false, false, false⟩
/-- R259. -/
def ANTI_THRESHOLD : ObjRow := ⟨"ANTI_THRESHOLD", true, 0, 0x4030, 1, 0x03, 1, .u16, .rw, .basic, [150], [(16, 32767, 1)], false, false, false⟩
/-- R259. -/
def SUSPECT_THRESHOLD : ObjRow := ⟨"SUSPECT_THRESHOLD", true, 0, 0x4030, 1, 0x04, 1, .u16, .rw, .basic, [200], [(16, 32767, 1)], false, false, false⟩
/-- R259. -/
def TRACK_STEP : ObjRow := ⟨"TRACK_STEP", true, 0, 0x4030, 1, 0x05, 1, .u8, .rw, .basic, [1], [(1, 16, 1)], false, false, false⟩
/-- R259. -/
def TRACK_DIV : ObjRow := ⟨"TRACK_DIV", true, 0, 0x4030, 1, 0x06, 1, .u8, .rw, .basic, [8], [(1, 255, 1)], false, false, false⟩
/-- R259. -/
def MAP_X0 : ObjRow := ⟨"MAP_X0", true, 0, 0x4040, 1, 0x01, 1, .u16, .rw, .basic, [0], [(0, 4095, 1)], false, true, false⟩
/-- R259. -/
def MAP_X1 : ObjRow := ⟨"MAP_X1", true, 0, 0x4040, 1, 0x02, 1, .u16, .rw, .basic, [4095], [(0, 4095, 1)], false, true, false⟩
/-- R259. -/
def MAP_Y0 : ObjRow := ⟨"MAP_Y0", true, 0, 0x4040, 1, 0x03, 1, .u16, .rw, .basic, [0], [(0, 4095, 1)], false, true, false⟩
/-- R259. -/
def MAP_Y1 : ObjRow := ⟨"MAP_Y1", true, 0, 0x4040, 1, 0x04, 1, .u16, .rw, .basic, [4095], [(0, 4095, 1)], false, true, false⟩
/-- R259. -/
def ZONE_ENABLE : ObjRow := ⟨"ZONE_ENABLE", true, 0, 0x4050, 16, 0x01, 1, .bool, .rw, .basic, [0], [(0, 0, 1), (1, 1, 1)], false, false, false⟩
/-- R259. -/
def ZONE_X : ObjRow := ⟨"ZONE_X", true, 0, 0x4050, 16, 0x02, 1, .u16, .rw, .basic, [0], [(0, 65535, 1)], false, false, false⟩
/-- R259. -/
def ZONE_Y : ObjRow := ⟨"ZONE_Y", true, 0, 0x4050, 16, 0x03, 1, .u16, .rw, .basic, [0], [(0, 65535, 1)], false, false, false⟩
/-- R259. -/
def ZONE_W : ObjRow := ⟨"ZONE_W", true, 0, 0x4050, 16, 0x04, 1, .u16, .rw, .basic, [0], [(0, 65535, 1)], false, false, false⟩
/-- R259. -/
def ZONE_H : ObjRow := ⟨"ZONE_H", true, 0, 0x4050, 16, 0x05, 1, .u16, .rw, .basic, [0], [(0, 65535, 1)], false, false, false⟩
/-- R259. -/
def ZONE_HOLDER : ObjRow := ⟨"ZONE_HOLDER", true, 0, 0x4050, 16, 0x06, 1, .u16, .rw, .expert, [65535], [(0, 511, 1), (32768, 32831, 1), (65535, 65535, 1)], false, false, false⟩
/-- R259. -/
def WAKE_GESTURES : ObjRow := ⟨"WAKE_GESTURES", true, 0, 0x4060, 1, 0x01, 1, .u8, .rw, .basic, [7], [(0, 7, 1)], false, true, false⟩
/-- R259. -/
def WAKE_SCAN_HZ : ObjRow := ⟨"WAKE_SCAN_HZ", true, 0, 0x4060, 1, 0x02, 1, .u8, .rw, .basic, [30], [(10, 30, 1)], false, true, false⟩
/-- R259. -/
def WAKE_N_ENABLE : ObjRow := ⟨"WAKE_N_ENABLE", true, 0, 0x4060, 1, 0x03, 1, .bool, .rw, .basic, [1], [(0, 0, 1), (1, 1, 1)], false, true, false⟩
/-- R259. -/
def WAKE_PENDING : ObjRow := ⟨"WAKE_PENDING", true, 0, 0x4060, 1, 0x04, 1, .bool, .rw, .basic, [0], [(0, 0, 1), (1, 1, 1)], false, false, false⟩
/-- R259. -/
def LAST_WAKE_GESTURE : ObjRow := ⟨"LAST_WAKE_GESTURE", true, 0, 0x4060, 1, 0x05, 1, .u8, .ro, .basic, [0], [(0, 3, 1)], false, false, false⟩
/-- R259. -/
def PAIRS_SKIPPED : ObjRow := ⟨"PAIRS_SKIPPED", true, 0, 0x4070, 1, 0x01, 1, .u32, .ro, .basic, [0], [(0, 4294967295, 1)], false, false, false⟩
/-- R259. -/
def HOPS : ObjRow := ⟨"HOPS", true, 0, 0x4070, 1, 0x02, 1, .u32, .ro, .basic, [0], [(0, 4294967295, 1)], false, false, false⟩
/-- R259. -/
def WATER_CONTACTS : ObjRow := ⟨"WATER_CONTACTS", true, 0, 0x4070, 1, 0x03, 1, .u32, .ro, .basic, [0], [(0, 4294967295, 1)], false, false, false⟩
/-- R259. -/
def ABSORPTIONS : ObjRow := ⟨"ABSORPTIONS", true, 0, 0x4070, 1, 0x04, 1, .u32, .ro, .basic, [0], [(0, 4294967295, 1)], false, false, false⟩
/-- R259. -/
def OCCLUSIONS : ObjRow := ⟨"OCCLUSIONS", true, 0, 0x4070, 1, 0x05, 1, .u32, .ro, .basic, [0], [(0, 4294967295, 1)], false, false, false⟩
/-- R259. -/
def CONTACTS_REFUSED : ObjRow := ⟨"CONTACTS_REFUSED", true, 0, 0x4070, 1, 0x06, 1, .u32, .ro, .basic, [0], [(0, 4294967295, 1)], false, false, false⟩
/-- R259. -/
def UNZONED_CONTACTS : ObjRow := ⟨"UNZONED_CONTACTS", true, 0, 0x4070, 1, 0x07, 1, .u32, .ro, .basic, [0], [(0, 4294967295, 1)], false, false, false⟩
/-- R259. -/
def PUMP_FAULTS : ObjRow := ⟨"PUMP_FAULTS", true, 0, 0x4070, 1, 0x08, 1, .u32, .ro, .basic, [0], [(0, 4294967295, 1)], false, false, false⟩
/-- R259. -/
def WAKES : ObjRow := ⟨"WAKES", true, 0, 0x4070, 1, 0x09, 1, .u32, .ro, .basic, [0], [(0, 4294967295, 1)], false, false, false⟩
/-- R259. -/
def MAX_CONTACTS : ObjRow := ⟨"MAX_CONTACTS", true, 0, 0x4800, 1, 0x00, 1, .u8, .rwc, .expert, [10], [(1, 20, 1)], false, false, false⟩
/-- R259. -/
def FACTORY_REFERENCE : ObjRow := ⟨"FACTORY_REFERENCE", true, 0, 0x4810, 1, 0x00, 1, .blob, .rw, .expert, [], [], false, true, false⟩
/-- R259. -/
def REFERENCE_CAPTURE : ObjRow := ⟨"REFERENCE_CAPTURE", true, 0, 0x4811, 1, 0x00, 1, .bool, .wo, .expert, [0], [(0, 0, 1), (1, 1, 1)], false, false, false⟩
/-- R259. -/
def REFERENCE_RESULT : ObjRow := ⟨"REFERENCE_RESULT", true, 0, 0x4812, 1, 0x00, 1, .u8, .ro, .basic, [0], [(0, 4, 1)], false, false, true⟩
/-- R259. -/
def REFERENCE_STATE : ObjRow := ⟨"REFERENCE_STATE", true, 0, 0x4813, 1, 0x00, 1, .u8, .ro, .basic, [0], [(0, 3, 1)], false, false, false⟩
/-- R292. -/
def HAPTIC_STATE : ObjRow := ⟨"HAPTIC_STATE", true, 0, 0x5000, 1, 0x00, 1, .u8, .ro, .basic, [0], [(0, 4, 1)], false, false, false⟩
/-- R292. -/
def HAPTIC_FAULT_CAUSE : ObjRow := ⟨"HAPTIC_FAULT_CAUSE", true, 0, 0x5001, 1, 0x00, 1, .u8, .ro, .basic, [0], [(0, 4, 1)], false, false, false⟩
/-- R292. -/
def BRIDGE_MV : ObjRow := ⟨"BRIDGE_MV", true, 0, 0x5002, 1, 0x00, 1, .u16, .ro, .basic, [0], [(0, 30400, 1)], false, false, false⟩
/-- R292. -/
def COIL_RISE_DK : ObjRow := ⟨"COIL_RISE_DK", true, 0, 0x5003, 1, 0x00, 1, .u16, .ro, .basic, [0], [(0, 65535, 1)], false, false, false⟩
/-- R292. -/
def HAPTIC_COMMIT : ObjRow := ⟨"HAPTIC_COMMIT", true, 0, 0x5004, 1, 0x00, 1, .bool, .wo, .basic, [0], [(0, 0, 1), (1, 1, 1)], false, false, false⟩
/-- R292. -/
def FAULT_CLEAR : ObjRow := ⟨"FAULT_CLEAR", true, 0, 0x5005, 1, 0x00, 1, .bool, .wo, .basic, [0], [(0, 0, 1), (1, 1, 1)], false, false, false⟩
/-- R292. -/
def V_NOMINAL_MV : ObjRow := ⟨"V_NOMINAL_MV", true, 0, 0x5010, 1, 0x01, 1, .u16, .rwc, .basic, [6000], [(500, 28500, 1)], false, true, false⟩
/-- R292. -/
def V_LIMIT_MV : ObjRow := ⟨"V_LIMIT_MV", true, 0, 0x5010, 1, 0x02, 1, .u16, .rwc, .basic, [12000], [(500, 28500, 1)], false, true, false⟩
/-- R292. -/
def COIL_R_MOHM : ObjRow := ⟨"COIL_R_MOHM", true, 0, 0x5010, 1, 0x03, 1, .u16, .rwc, .basic, [8000], [(1000, 64000, 1)], false, true, false⟩
/-- R292. -/
def COIL_L_UH : ObjRow := ⟨"COIL_L_UH", true, 0, 0x5010, 1, 0x04, 1, .u16, .rwc, .basic, [200], [(0, 10000, 1)], false, true, false⟩
/-- R292. -/
def SHUNT_MOHM : ObjRow := ⟨"SHUNT_MOHM", true, 0, 0x5010, 1, 0x05, 1, .u16, .rwc, .basic, [50], [(5, 500, 1)], false, true, false⟩
/-- R292. -/
def DEAD_TIME_NS : ObjRow := ⟨"DEAD_TIME_NS", true, 0, 0x5010, 1, 0x06, 1, .u16, .rwc, .basic, [100], [(20, 500, 1)], false, true, false⟩
/-- R292. -/
def BRIDGE_UV_MV : ObjRow := ⟨"BRIDGE_UV_MV", true, 0, 0x5010, 1, 0x07, 1, .u16, .rwc, .basic, [8000], [(3000, 30000, 1)], false, true, false⟩
/-- R292. -/
def BRIDGE_OV_MV : ObjRow := ⟨"BRIDGE_OV_MV", true, 0, 0x5010, 1, 0x08, 1, .u16, .rwc, .basic, [28000], [(3000, 30000, 1)], false, true, false⟩
/-- R292. -/
def OC_LIMIT_MA : ObjRow := ⟨"OC_LIMIT_MA", true, 0, 0x5010, 1, 0x09, 1, .u16, .rwc, .basic, [3000], [(100, 15000, 1)], false, true, false⟩
/-- R292. -/
def DRIVE_TIME_LIMIT_MS : ObjRow := ⟨"DRIVE_TIME_LIMIT_MS", true, 0, 0x5020, 1, 0x01, 1, .u16, .rwc, .basic, [500], [(50, 5000, 1)], false, true, false⟩
/-- R292. -/
def COIL_RTH_DKW : ObjRow := ⟨"COIL_RTH_DKW", true, 0, 0x5020, 1, 0x02, 1, .u16, .rwc, .basic, [400], [(10, 2000, 1)], false, true, false⟩
/-- R292. -/
def COIL_TAU_MS : ObjRow := ⟨"COIL_TAU_MS", true, 0, 0x5020, 1, 0x03, 1, .u16, .rwc, .basic, [2000], [(100, 60000, 1)], false, true, false⟩
/-- R292. -/
def COIL_RISE_LIMIT_K : ObjRow := ⟨"COIL_RISE_LIMIT_K", true, 0, 0x5020, 1, 0x04, 1, .u8, .rwc, .basic, [40], [(5, 120, 1)], false, true, false⟩
/-- R292. -/
def BRAKE_GAIN_X100 : ObjRow := ⟨"BRAKE_GAIN_X100", true, 0, 0x5030, 1, 0x01, 1, .u16, .rwc, .basic, [150], [(10, 1000, 1)], false, false, false⟩
/-- R292. -/
def BRAKE_END_MV : ObjRow := ⟨"BRAKE_END_MV", true, 0, 0x5030, 1, 0x02, 1, .u16, .rwc, .basic, [100], [(10, 5000, 1)], false, false, false⟩
/-- R292. -/
def BRAKE_MAX_MS : ObjRow := ⟨"BRAKE_MAX_MS", true, 0, 0x5030, 1, 0x03, 1, .u8, .rwc, .basic, [15], [(1, 15, 1)], false, false, false⟩
/-- R292. -/
def BEMF_REF_MV : ObjRow := ⟨"BEMF_REF_MV", true, 0, 0x5030, 1, 0x04, 1, .u16, .rwc, .basic, [1000], [(100, 20000, 1)], false, false, false⟩
/-- R292. -/
def STALE_LIMIT_MS : ObjRow := ⟨"STALE_LIMIT_MS", true, 0, 0x5040, 1, 0x01, 1, .u8, .rw, .basic, [30], [(1, 255, 1)], false, false, false⟩
/-- R292. -/
def TENANT_QUEUE_MAX : ObjRow := ⟨"TENANT_QUEUE_MAX", true, 0, 0x5040, 1, 0x02, 1, .u8, .rw, .basic, [4], [(1, 16, 1)], false, false, false⟩
/-- R292. -/
def DOWN_EFFECT : ObjRow := ⟨"DOWN_EFFECT", true, 0, 0x5060, 16, 0x01, 1, .u8, .rw, .basic, [255], [(0, 63, 1), (255, 255, 1)], false, false, false⟩
/-- R292. -/
def UP_EFFECT : ObjRow := ⟨"UP_EFFECT", true, 0, 0x5060, 16, 0x02, 1, .u8, .rw, .basic, [255], [(0, 63, 1), (255, 255, 1)], false, false, false⟩
/-- R292. -/
def TOUCH_PRIORITY : ObjRow := ⟨"TOUCH_PRIORITY", true, 0, 0x5060, 16, 0x03, 1, .u8, .rw, .basic, [3], [(0, 3, 1)], false, false, false⟩
/-- R292. -/
def EFFECTS_DONE : ObjRow := ⟨"EFFECTS_DONE", true, 0, 0x5070, 1, 0x01, 1, .u32, .ro, .basic, [0], [(0, 4294967295, 1)], false, false, false⟩
/-- R292. -/
def PREEMPTED : ObjRow := ⟨"PREEMPTED", true, 0, 0x5070, 1, 0x02, 1, .u32, .ro, .basic, [0], [(0, 4294967295, 1)], false, false, false⟩
/-- R292. -/
def STALE_DROPPED : ObjRow := ⟨"STALE_DROPPED", true, 0, 0x5070, 1, 0x03, 1, .u32, .ro, .basic, [0], [(0, 4294967295, 1)], false, false, false⟩
/-- R292. -/
def THERMAL_ENDS : ObjRow := ⟨"THERMAL_ENDS", true, 0, 0x5070, 1, 0x04, 1, .u32, .ro, .basic, [0], [(0, 4294967295, 1)], false, false, false⟩
/-- R292. -/
def TIME_LIMIT_ENDS : ObjRow := ⟨"TIME_LIMIT_ENDS", true, 0, 0x5070, 1, 0x05, 1, .u32, .ro, .basic, [0], [(0, 4294967295, 1)], false, false, false⟩
/-- R292. -/
def UNDERRUNS : ObjRow := ⟨"UNDERRUNS", true, 0, 0x5070, 1, 0x06, 1, .u32, .ro, .basic, [0], [(0, 4294967295, 1)], false, false, false⟩
/-- R292. -/
def FAULTS : ObjRow := ⟨"FAULTS", true, 0, 0x5070, 1, 0x07, 1, .u32, .ro, .basic, [0], [(0, 4294967295, 1)], false, false, false⟩
/-- R292. -/
def COIL_ENERGY_UJ : ObjRow := ⟨"COIL_ENERGY_UJ", true, 0, 0x5070, 1, 0x08, 1, .u64, .ro, .basic, [0], [(0, 18446744073709551615, 1)], false, false, false⟩
/-- R292. -/
def HAPTIC_TRIGGER : ObjRow := ⟨"HAPTIC_TRIGGER", true, 0, 0x5100, 1, 0x00, 1, .u32, .wo, .basic, [0], [(0, 4294967295, 1)], true, false, false⟩
/-- R292. -/
def HAP_STREAM_ADDR : ObjRow := ⟨"HAP_STREAM_ADDR", true, 0, 0x5110, 1, 0x01, 1, .u64, .rw, .basic, [0], [(0, 18446744073709551615, 256)], true, false, false⟩
/-- R292. -/
def HAP_STREAM_SIZE : ObjRow := ⟨"HAP_STREAM_SIZE", true, 0, 0x5110, 1, 0x02, 1, .u32, .rw, .basic, [0], [(0, 4294967295, 256)], true, false, false⟩
/-- R292. -/
def HAP_STREAM_WRITE : ObjRow := ⟨"HAP_STREAM_WRITE", true, 0, 0x5110, 1, 0x03, 1, .u32, .rw, .basic, [0], [(0, 4294967295, 1)], true, false, false⟩
/-- R292. -/
def HAP_STREAM_READ : ObjRow := ⟨"HAP_STREAM_READ", true, 0, 0x5110, 1, 0x04, 1, .u32, .ro, .basic, [0], [(0, 4294967295, 1)], true, false, false⟩
/-- R292. -/
def HAP_STREAM_END : ObjRow := ⟨"HAP_STREAM_END", true, 0, 0x5110, 1, 0x05, 1, .bool, .rw, .basic, [0], [(0, 0, 1), (1, 1, 1)], true, false, false⟩
/-- R292. -/
def EFFECT_DATA : ObjRow := ⟨"EFFECT_DATA", true, 0, 0x5200, 64, 0x01, 1, .blob, .rw, .basic, [], [], false, false, false⟩
/-- R292. -/
def EFFECT_OWNER : ObjRow := ⟨"EFFECT_OWNER", true, 0, 0x5200, 64, 0x02, 1, .u16, .ro, .basic, [65535], [(0, 511, 1), (65535, 65535, 1)], false, false, false⟩
/-- R292. -/
def BLEND_ENABLE : ObjRow := ⟨"BLEND_ENABLE", true, 0, 0x5800, 1, 0x00, 1, .bool, .rwc, .expert, [0], [(0, 0, 1), (1, 1, 1)], false, false, false⟩
/-- R320. -/
def AUDIO_STATE : ObjRow := ⟨"AUDIO_STATE", true, 0, 0x6000, 1, 0x00, 1, .u8, .ro, .basic, [0], [(0, 3, 1)], false, false, false⟩
/-- R320. -/
def AUDIO_RATE_HZ : ObjRow := ⟨"AUDIO_RATE_HZ", true, 0, 0x6001, 1, 0x00, 1, .u32, .ro, .basic, [48000], [(48000, 48000, 1), (96000, 96000, 1)], false, false, false⟩
/-- R320. -/
def SAMPLE_COUNTER : ObjRow := ⟨"SAMPLE_COUNTER", true, 0, 0x6002, 1, 0x00, 1, .u32, .ro, .basic, [0], [(0, 4294967295, 1)], false, false, false⟩
/-- R320. -/
def AUDIO_COMMIT : ObjRow := ⟨"AUDIO_COMMIT", true, 0, 0x6003, 1, 0x00, 1, .bool, .wo, .basic, [0], [(0, 0, 1), (1, 1, 1)], false, false, false⟩
/-- R320. -/
def BUS_GAIN_HDB : ObjRow := ⟨"BUS_GAIN_HDB", true, 0, 0x6010, 4, 0x01, 1, .i16, .rwc, .basic, [0], [(-32768, -32768, 1), (-200, 24, 1)], false, true, false⟩
/-- R320. -/
def DUCK_DEPTH_HDB : ObjRow := ⟨"DUCK_DEPTH_HDB", true, 0, 0x6010, 4, 0x02, 1, .u8, .rwc, .basic, [0, 12, 36, 24], [(0, 200, 1)], false, true, false⟩
/-- R320. -/
def BUS_ACTIVE : ObjRow := ⟨"BUS_ACTIVE", true, 0, 0x6010, 4, 0x03, 1, .bool, .ro, .basic, [0], [(0, 0, 1), (1, 1, 1)], false, false, false⟩
/-- R320. -/
def DUCK_THRESHOLD_DBFS : ObjRow := ⟨"DUCK_THRESHOLD_DBFS", true, 0, 0x6020, 1, 0x01, 1, .i8, .rwc, .basic, [-48], [(-90, 0, 1)], false, true, false⟩
/-- R320. -/
def DUCK_HOLD_MS : ObjRow := ⟨"DUCK_HOLD_MS", true, 0, 0x6020, 1, 0x02, 1, .u16, .rwc, .basic, [300], [(10, 5000, 1)], false, true, false⟩
/-- R320. -/
def SINK_BUS_MASK : ObjRow := ⟨"SINK_BUS_MASK", true, 0, 0x6030, 3, 0x01, 1, .u8, .rwc, .basic, [15, 1, 15], [(0, 15, 1)], false, true, false⟩
/-- R320. -/
def SINK_GAIN_HDB : ObjRow := ⟨"SINK_GAIN_HDB", true, 0, 0x6030, 3, 0x02, 1, .i16, .rwc, .basic, [0], [(-32768, -32768, 1), (-200, 24, 1)], false, true, false⟩
/-- R320. -/
def SINK_CLIPPED : ObjRow := ⟨"SINK_CLIPPED", true, 0, 0x6030, 3, 0x03, 1, .u32, .ro, .basic, [0], [(0, 4294967295, 1)], false, false, false⟩
/-- R320. -/
def LOOP_ADDR : ObjRow := ⟨"LOOP_ADDR", true, 0, 0x6040, 1, 0x01, 1, .u64, .rw, .basic, [0], [(0, 18446744073709551615, 256)], false, false, false⟩
/-- R320. -/
def LOOP_SIZE : ObjRow := ⟨"LOOP_SIZE", true, 0, 0x6040, 1, 0x02, 1, .u32, .rw, .basic, [0], [(0, 4294967295, 256)], false, false, false⟩
/-- R320. -/
def LOOP_WRITE : ObjRow := ⟨"LOOP_WRITE", true, 0, 0x6040, 1, 0x03, 1, .u32, .ro, .basic, [0], [(0, 4294967295, 1)], false, false, false⟩
/-- R320. -/
def LOOP_READ : ObjRow := ⟨"LOOP_READ", true, 0, 0x6040, 1, 0x04, 1, .u32, .rw, .basic, [0], [(0, 4294967295, 1)], false, false, false⟩
/-- R320. -/
def LOOP_ENABLE : ObjRow := ⟨"LOOP_ENABLE", true, 0, 0x6040, 1, 0x05, 1, .bool, .rwc, .basic, [0], [(0, 0, 1), (1, 1, 1)], false, false, false⟩
/-- R320. -/
def LOOP_OVERRUNS : ObjRow := ⟨"LOOP_OVERRUNS", true, 0, 0x6040, 1, 0x06, 1, .u32, .ro, .basic, [0], [(0, 4294967295, 1)], false, false, false⟩
/-- R320. -/
def TDM_FSYNC_DELAY : ObjRow := ⟨"TDM_FSYNC_DELAY", true, 0, 0x6050, 1, 0x01, 1, .u8, .rwc, .basic, [1], [(0, 0, 1), (1, 1, 1)], false, true, false⟩
/-- R320. -/
def TDM_BCLK_EDGE : ObjRow := ⟨"TDM_BCLK_EDGE", true, 0, 0x6050, 1, 0x02, 1, .u8, .rwc, .basic, [0], [(0, 0, 1), (1, 1, 1)], false, true, false⟩
/-- R320. -/
def SRC_BUS : ObjRow := ⟨"SRC_BUS", true, 0, 0x6100, 16, 0x01, 1, .u8, .rwc, .basic, [0], [(0, 4, 1)], false, true, false⟩
/-- R320. -/
def SRC_GAIN_HDB : ObjRow := ⟨"SRC_GAIN_HDB", true, 0, 0x6100, 16, 0x02, 1, .i16, .rwc, .basic, [0], [(-32768, -32768, 1), (-200, 24, 1)], false, false, false⟩
/-- R320. -/
def SRC_STATE : ObjRow := ⟨"SRC_STATE", true, 0, 0x6100, 16, 0x03, 1, .u8, .ro, .basic, [0], [(0, 3, 1)], false, false, false⟩
/-- R320. -/
def SRC_GAIN_NOW : ObjRow := ⟨"SRC_GAIN_NOW", true, 0, 0x6100, 16, 0x04, 1, .i16, .ro, .basic, [-32768], [(-32768, -32768, 1), (-200, 24, 1)], false, false, false⟩
/-- R320. -/
def SRC_STREAM_ADDR : ObjRow := ⟨"SRC_STREAM_ADDR", true, 0, 0x6120, 12, 0x01, 1, .u64, .rw, .basic, [0], [(0, 18446744073709551615, 256)], false, false, false⟩
/-- R320. -/
def SRC_STREAM_SIZE : ObjRow := ⟨"SRC_STREAM_SIZE", true, 0, 0x6120, 12, 0x02, 1, .u32, .rw, .basic, [0], [(0, 4294967295, 256)], false, false, false⟩
/-- R320. -/
def STREAM_FORMAT : ObjRow := ⟨"STREAM_FORMAT", true, 0, 0x6120, 12, 0x03, 1, .u8, .rw, .basic, [1], [(0, 2, 1)], false, false, false⟩
/-- R320. -/
def SRC_STREAM_WRITE : ObjRow := ⟨"SRC_STREAM_WRITE", true, 0, 0x6120, 12, 0x04, 1, .u32, .rw, .basic, [0], [(0, 4294967295, 1)], false, false, false⟩
/-- R320. -/
def SRC_STREAM_READ : ObjRow := ⟨"SRC_STREAM_READ", true, 0, 0x6120, 12, 0x05, 1, .u32, .ro, .basic, [0], [(0, 4294967295, 1)], false, false, false⟩
/-- R320. -/
def SRC_STREAM_END : ObjRow := ⟨"SRC_STREAM_END", true, 0, 0x6120, 12, 0x06, 1, .bool, .rw, .basic, [0], [(0, 0, 1), (1, 1, 1)], false, false, false⟩
/-- R320. -/
def STREAM_START : ObjRow := ⟨"STREAM_START", true, 0, 0x6120, 12, 0x07, 1, .bool, .wo, .basic, [0], [(0, 0, 1), (1, 1, 1)], false, false, false⟩
/-- R320. -/
def STREAM_STOP : ObjRow := ⟨"STREAM_STOP", true, 0, 0x6120, 12, 0x08, 1, .bool, .wo, .basic, [0], [(0, 0, 1), (1, 1, 1)], false, false, false⟩
/-- R320. -/
def STREAM_UNDERRUNS : ObjRow := ⟨"STREAM_UNDERRUNS", true, 0, 0x6120, 12, 0x09, 1, .u32, .ro, .basic, [0], [(0, 4294967295, 1)], false, false, false⟩
/-- R320. -/
def TG_FREQ_HZ : ObjRow := ⟨"TG_FREQ_HZ", true, 0, 0x6140, 2, 0x01, 1, .u16, .rw, .basic, [1000], [(20, 20000, 1)], false, false, false⟩
/-- R320. -/
def TG_LEVEL_HDB : ObjRow := ⟨"TG_LEVEL_HDB", true, 0, 0x6140, 2, 0x02, 1, .i16, .rw, .basic, [-12], [(-200, 0, 1)], false, false, false⟩
/-- R320. -/
def TG_ON_MS : ObjRow := ⟨"TG_ON_MS", true, 0, 0x6140, 2, 0x03, 1, .u16, .rw, .basic, [200], [(1, 60000, 1)], false, false, false⟩
/-- R320. -/
def TG_OFF_MS : ObjRow := ⟨"TG_OFF_MS", true, 0, 0x6140, 2, 0x04, 1, .u16, .rw, .basic, [200], [(0, 60000, 1)], false, false, false⟩
/-- R320. -/
def TG_REPEAT : ObjRow := ⟨"TG_REPEAT", true, 0, 0x6140, 2, 0x05, 1, .u8, .rw, .basic, [0], [(0, 255, 1)], false, false, false⟩
/-- R320. -/
def TG_START : ObjRow := ⟨"TG_START", true, 0, 0x6140, 2, 0x06, 1, .bool, .wo, .basic, [0], [(0, 0, 1), (1, 1, 1)], false, false, false⟩
/-- R320. -/
def TG_STOP : ObjRow := ⟨"TG_STOP", true, 0, 0x6140, 2, 0x07, 1, .bool, .wo, .basic, [0], [(0, 0, 1), (1, 1, 1)], false, false, false⟩
/-- R320. -/
def SAMPLE_RATE : ObjRow := ⟨"SAMPLE_RATE", true, 0, 0x6800, 1, 0x00, 1, .u8, .rwc, .expert, [0], [(0, 0, 1), (1, 1, 1)], false, true, false⟩
/-- R352. -/
def MEM_STATE : ObjRow := ⟨"MEM_STATE", true, 0, 0x7000, 1, 0x00, 1, .u8, .ro, .basic, [0], [(0, 5, 1)], false, false, false⟩
/-- R352. -/
def MEM_CAPACITY_MIB : ObjRow := ⟨"MEM_CAPACITY_MIB", true, 0, 0x7001, 1, 0x00, 1, .u32, .ro, .basic, [0], [(0, 0, 1), (4096, 16384, 1)], false, false, false⟩
/-- R352. -/
def MEM_USABLE_MIB : ObjRow := ⟨"MEM_USABLE_MIB", true, 0, 0x7002, 1, 0x00, 1, .u32, .ro, .basic, [0], [(0, 4294967295, 1)], false, false, false⟩
/-- R352. -/
def MEM_RATE_MTS : ObjRow := ⟨"MEM_RATE_MTS", true, 0, 0x7003, 1, 0x00, 1, .u16, .ro, .basic, [0], [(0, 0, 1), (5500, 8533, 1)], false, false, false⟩
/-- R352. -/
def MEM_TEMP_C : ObjRow := ⟨"MEM_TEMP_C", true, 0, 0x7004, 1, 0x00, 1, .i8, .ro, .basic, [0], [(-40, 127, 1)], false, false, false⟩
/-- R352. -/
def MEM_REINIT : ObjRow := ⟨"MEM_REINIT", true, 0, 0x7005, 1, 0x00, 1, .bool, .wo, .expert, [0], [(0, 0, 1), (1, 1, 1)], false, false, false⟩
/-- R352. -/
def ECC_ENABLE : ObjRow := ⟨"ECC_ENABLE", true, 0, 0x7010, 1, 0x00, 1, .bool, .rw, .basic, [1], [(0, 0, 1), (1, 1, 1)], false, true, false⟩
/-- R352. -/
def UE_MODE : ObjRow := ⟨"UE_MODE", true, 0, 0x7011, 1, 0x00, 1, .u8, .rw, .basic, [0], [(0, 0, 1), (1, 1, 1)], false, true, false⟩
/-- R352. -/
def MAX_RATE_MTS : ObjRow := ⟨"MAX_RATE_MTS", true, 0, 0x7012, 1, 0x00, 1, .u16, .rw, .basic, [8533], [(5500, 5500, 1), (6400, 6400, 1), (7500, 7500, 1), (8533, 8533, 1)], false, true, false⟩
/-- R352. -/
def PASR_KEEP_EIGHTHS : ObjRow := ⟨"PASR_KEEP_EIGHTHS", true, 0, 0x7013, 1, 0x00, 1, .u8, .rw, .basic, [8], [(1, 8, 1)], false, true, false⟩
/-- R352. -/
def CE_ALARM_PER_HOUR : ObjRow := ⟨"CE_ALARM_PER_HOUR", true, 0, 0x7014, 1, 0x00, 1, .u32, .rw, .basic, [100], [(1, 1000000, 1)], false, true, false⟩
/-- R352. -/
def CE_COUNT : ObjRow := ⟨"CE_COUNT", true, 0, 0x7020, 1, 0x00, 1, .u32, .ro, .basic, [0], [(0, 4294967295, 1)], false, false, false⟩
/-- R352. -/
def UE_COUNT : ObjRow := ⟨"UE_COUNT", true, 0, 0x7021, 1, 0x00, 1, .u32, .ro, .basic, [0], [(0, 4294967295, 1)], false, false, false⟩
/-- R352. -/
def MEM_RETRAINS : ObjRow := ⟨"MEM_RETRAINS", true, 0, 0x7023, 1, 0x00, 1, .u32, .ro, .basic, [0], [(0, 4294967295, 1)], false, false, false⟩
/-- R352. -/
def RETRAINS_WIDENED : ObjRow := ⟨"RETRAINS_WIDENED", true, 0, 0x7024, 1, 0x00, 1, .u32, .ro, .basic, [0], [(0, 4294967295, 1)], false, false, false⟩
/-- R352. -/
def SAVE_CRC_FAILS : ObjRow := ⟨"SAVE_CRC_FAILS", true, 0, 0x7025, 1, 0x00, 1, .u32, .ro, .basic, [0], [(0, 4294967295, 1)], false, false, false⟩
/-- R352. -/
def UE_ADDR : ObjRow := ⟨"UE_ADDR", true, 0, 0x7030, 1, 0x01, 1, .u64, .ro, .basic, [0], [(0, 18446744073709551615, 1)], false, false, false⟩
/-- R352. -/
def UE_KIND : ObjRow := ⟨"UE_KIND", true, 0, 0x7030, 1, 0x02, 1, .u8, .ro, .basic, [0], [(0, 2, 1)], false, false, false⟩
/-- R352. -/
def UE_REQUESTER : ObjRow := ⟨"UE_REQUESTER", true, 0, 0x7030, 1, 0x03, 1, .u16, .ro, .basic, [0], [(0, 65535, 1)], false, false, false⟩
/-- R352. -/
def UE_TIME : ObjRow := ⟨"UE_TIME", true, 0, 0x7030, 1, 0x04, 1, .u64, .ro, .basic, [0], [(0, 18446744073709551615, 1)], false, false, false⟩
/-- R352. -/
def RETRAIN_LAST_TIME : ObjRow := ⟨"RETRAIN_LAST_TIME", true, 0, 0x7040, 1, 0x00, 1, .u64, .ro, .basic, [0], [(0, 18446744073709551615, 1)], false, false, false⟩
/-- R352. -/
def RETRAIN_STALL_MAX : ObjRow := ⟨"RETRAIN_STALL_MAX", true, 0, 0x7041, 1, 0x00, 1, .u32, .ro, .basic, [0], [(0, 4294967295, 1)], false, false, false⟩
/-- R352. -/
def RETRAIN_INTERVAL_MS : ObjRow := ⟨"RETRAIN_INTERVAL_MS", true, 0, 0x7800, 1, 0x00, 1, .u16, .rwc, .expert, [2000], [(500, 2000, 1)], false, false, false⟩
/-- R352. -/
def RETRAIN_DELTA_C : ObjRow := ⟨"RETRAIN_DELTA_C", true, 0, 0x7801, 1, 0x00, 1, .u8, .rwc, .expert, [8], [(2, 8, 1)], false, false, false⟩
/-- R352. -/
def RETRAIN_PLACE_MAX_MS : ObjRow := ⟨"RETRAIN_PLACE_MAX_MS", true, 0, 0x7802, 1, 0x00, 1, .u8, .rwc, .expert, [20], [(0, 50, 1)], false, false, false⟩

end Sys2Proof.Machine.Obj
end

