-- ==== Sys2Proof/Machine/Objects.lean ====
section
/-! DEFINITION. The object dictionary as one list of rows, and the lookup of an index and subindex in it (R451, R452). -/
namespace Sys2Proof.Machine

/-- Rows of the dictionary, part 0. -/
def objPart0 : List ObjRow :=
  [Obj.DEVICE_STATE, Obj.DEVICE_REQUEST, Obj.STATION_STATE, Obj.STATION_FAULT_CAUSE, Obj.STATION_STATE_TIME,
   Obj.STATION_TARGET, Obj.RASTER_STATE, Obj.SHADER_CLOCK_MHZ, Obj.TRANSLATION_CACHE_SIZE, Obj.CACHE_QUOTA,
   Obj.CACHE_USED, Obj.TRANSLATOR_VERSION, Obj.TRANSLATIONS_PENDING, Obj.JOB_TIME_LIMIT, Obj.JOBS_COMPLETED,
   Obj.TILES_WRITTEN_TOTAL, Obj.TILES_SKIPPED_TOTAL, Obj.BIN_FLUSHES, Obj.ACCESS_FAULTS, Obj.TILE_SPLIT_THRESHOLD,
   Obj.WRITE_SKIP_ENABLE, Obj.DEADLINE_MARGIN, Obj.DEFAULT_TIME_ESTIMATE, Obj.ESTIMATE_SCALE, Obj.NEXT_BOUNDARY,
   Obj.LATE_LAYERS, Obj.PREEMPTIONS, Obj.SAVE_TIME_MAX, Obj.TILES_ABANDONED, Obj.JOBS_DEFERRED,
   Obj.SAVE_SLOTS_FREE, Obj.TILE_YIELD_LIMIT, Obj.COMPOSE_SOURCE, Obj.BACKGROUND_COLOUR, Obj.UNDERFLOW_COLOUR,
   Obj.LAYER_COMMIT, Obj.COMMIT_SEQ, Obj.LEAD_MIN, Obj.PICTURE_STATIC, Obj.STATIC_FRAMES,
   Obj.OUTPUT_LUT, Obj.LAYER_ENABLE, Obj.LAYER_FORMAT, Obj.LAYER_ALPHA, Obj.BLEND_MODE,
   Obj.BUF_ADDR, Obj.BUF_PITCH, Obj.BUF_WIDTH, Obj.BUF_HEIGHT, Obj.SRC_X,
   Obj.SRC_Y, Obj.SRC_W, Obj.SRC_H, Obj.DST_X, Obj.DST_Y,
   Obj.DST_W, Obj.DST_H, Obj.CHROMA_ADDR, Obj.CHROMA_PITCH, Obj.SIG_TABLE_ADDR]

/-- Rows of the dictionary, part 1. -/
def objPart1 : List ObjRow :=
  [Obj.SCALE_FILTER, Obj.PRE_LUT, Obj.MATRIX, Obj.POST_LUT, Obj.ECHO_HOTSPOT_X,
   Obj.ECHO_HOTSPOT_Y, Obj.ECHO_MAX_COPIES, Obj.WB_ENABLE, Obj.WB_FORMAT, Obj.WB_ADDR,
   Obj.WB_PITCH, Obj.CROP_X, Obj.CROP_Y, Obj.CROP_W, Obj.CROP_H,
   Obj.WB_FRAME_DECIMATION, Obj.WB_SPATIAL_DECIMATION, Obj.UNDERFLOW_LINES, Obj.COMMITS_LATCHED, Obj.COMMITS_REFUSED,
   Obj.COMMITS_SUPERSEDED, Obj.WB_FRAMES_DROPPED, Obj.WB_FRAMES_WRITTEN, Obj.LAYER_FAULTS, Obj.LEAD_LOW_LINES,
   Obj.TRANSOM_TARGET, Obj.GUARD_COMMIT, Obj.ESCALATION_FRAMES, Obj.REF_PARITY_ERRORS, Obj.REGION_ENABLE,
   Obj.REGION_X, Obj.REGION_Y, Obj.REGION_W, Obj.REGION_H, Obj.REF_BASE,
   Obj.REF_PAGES, Obj.REF_PAGE, Obj.UNCHECKED_POLICY, Obj.SHUTTER_MODE, Obj.SHUTTER_SCOPE,
   Obj.SHUTTER_HOLD, Obj.SHUTTER_FILL, Obj.SHUTTER_GLYPH, Obj.TIE_LAYER, Obj.REGION_STATUS,
   Obj.MISMATCH_SEGMENTS, Obj.UNCHECKED_SEGMENTS, Obj.MISMATCH_FRAMES, Obj.MISMATCH_RUN, Obj.PAGES_LOADED,
   Obj.PAGES_DAMAGED, Obj.REF_LOAD_REGION, Obj.REF_LOAD_PAGE, Obj.REF_LOAD_ADDR, Obj.REF_LOAD_START,
   Obj.REF_LOAD_RESULT, Obj.SAFE_STORE, Obj.SAFE_STORE_STATE, Obj.OUTPUT_STATE, Obj.MODE_COMMIT]

/-- Rows of the dictionary, part 2. -/
def objPart2 : List ObjRow :=
  [Obj.MODE_RESULT, Obj.LINK_CONFIG, Obj.FRAME_COUNTER, Obj.FRAME_TIME_LAST, Obj.REFRESH_STATE,
   Obj.PIXEL_CLOCK_KHZ, Obj.H_ACTIVE, Obj.H_FP, Obj.H_SYNC, Obj.H_BP,
   Obj.V_ACTIVE, Obj.V_FP, Obj.V_SYNC, Obj.V_BP, Obj.SYNC_POLARITY,
   Obj.LINK_BPC, Obj.OUTPUT_KIND, Obj.MAX_LINK_RATE, Obj.MAX_LANES, Obj.SSC_ENABLE,
   Obj.LTTPR_MODE, Obj.LINK_RETRY_INTERVAL, Obj.LINK_RETRY_LIMIT, Obj.DSC_MODE, Obj.DSC_BPP_X16,
   Obj.DSC_SLICES, Obj.PANEL_ON_DELAY_MS, Obj.BL_ON_DELAY_MS, Obj.SYNC_MODE, Obj.STATIC_LOWERING,
   Obj.REFRESH_FLOOR_HZ, Obj.REFRESH_RAMP_US, Obj.STATIC_ENTRY_FRAMES, Obj.PSR_ENABLE, Obj.PSR_ENTRY_FRAMES,
   Obj.SINK_EDID, Obj.SINK_CAPS, Obj.SINK_VRR_MIN_HZ, Obj.HOTPLUG_EVENTS, Obj.SINK_LOSSES,
   Obj.TRAINING_FAILS, Obj.OUT_RETRAINS, Obj.PSR_ENTRIES, Obj.FREEZE_EVENTS, Obj.FREEZE_ENABLE,
   Obj.FREEZE_X, Obj.FREEZE_Y, Obj.FREEZE_W, Obj.FREEZE_H, Obj.FREEZE_FRAMES,
   Obj.FREEZE_BASIS, Obj.FREEZE_STATE, Obj.UNCHANGED_COUNT, Obj.LAST_SIGNATURE, Obj.FIX_LINES,
   Obj.PSR_WAKE_US, Obj.TOUCH_STATE, Obj.REPORT_RATE_HZ, Obj.SCAN_SEQ, Obj.TX_FREQ_INDEX]

/-- Rows of the dictionary, part 3. -/
def objPart3 : List ObjRow :=
  [Obj.HOP_SET, Obj.TOUCH_COMMIT, Obj.CONTACTS_LIVE, Obj.TX_COUNT, Obj.RX_COUNT,
   Obj.AXIS_MAP, Obj.TX_VOLTAGE_DV, Obj.TARGET_RATE_HZ, Obj.STEP_HALF_CYCLES, Obj.QUIET_GUARD_NS,
   Obj.VB_WINDOW_START, Obj.VB_WINDOW_LINES, Obj.TX_FREQ_KHZ, Obj.HOP_ENABLE, Obj.NOISE_HOP_LEVEL,
   Obj.FINGER_THRESHOLD, Obj.GLOVE_THRESHOLD, Obj.SELF_FINGER_THRESHOLD, Obj.SELF_GLOVE_THRESHOLD, Obj.GLOVE_ENABLE,
   Obj.WATER_REJECT, Obj.MATCH_RADIUS, Obj.MOVE_THRESHOLD, Obj.HOLD_LIMIT_S, Obj.HOLD_RADIUS,
   Obj.ANTI_THRESHOLD, Obj.SUSPECT_THRESHOLD, Obj.TRACK_STEP, Obj.TRACK_DIV, Obj.MAP_X0,
   Obj.MAP_X1, Obj.MAP_Y0, Obj.MAP_Y1, Obj.ZONE_ENABLE, Obj.ZONE_X,
   Obj.ZONE_Y, Obj.ZONE_W, Obj.ZONE_H, Obj.ZONE_HOLDER, Obj.WAKE_GESTURES,
   Obj.WAKE_SCAN_HZ, Obj.WAKE_N_ENABLE, Obj.WAKE_PENDING, Obj.LAST_WAKE_GESTURE, Obj.PAIRS_SKIPPED,
   Obj.HOPS, Obj.WATER_CONTACTS, Obj.ABSORPTIONS, Obj.OCCLUSIONS, Obj.CONTACTS_REFUSED,
   Obj.UNZONED_CONTACTS, Obj.PUMP_FAULTS, Obj.WAKES, Obj.MAX_CONTACTS, Obj.FACTORY_REFERENCE,
   Obj.REFERENCE_CAPTURE, Obj.REFERENCE_RESULT, Obj.REFERENCE_STATE, Obj.ECHO_TENTATIVE, Obj.ECHO_ZONES]

/-- Rows of the dictionary, part 4. -/
def objPart4 : List ObjRow :=
  [Obj.ECHO_WITHDRAWN, Obj.ECHO_LINES_RECOMPOSED, Obj.HAPTIC_STATE, Obj.HAPTIC_FAULT_CAUSE, Obj.BRIDGE_MV,
   Obj.COIL_RISE_DK, Obj.HAPTIC_COMMIT, Obj.FAULT_CLEAR, Obj.V_NOMINAL_MV, Obj.V_LIMIT_MV,
   Obj.COIL_R_MOHM, Obj.COIL_L_UH, Obj.SHUNT_MOHM, Obj.DEAD_TIME_NS, Obj.BRIDGE_UV_MV,
   Obj.BRIDGE_OV_MV, Obj.OC_LIMIT_MA, Obj.DRIVE_TIME_LIMIT_MS, Obj.COIL_RTH_DKW, Obj.COIL_TAU_MS,
   Obj.COIL_RISE_LIMIT_K, Obj.BRAKE_GAIN_X100, Obj.BRAKE_END_MV, Obj.BRAKE_MAX_MS, Obj.BEMF_REF_MV,
   Obj.STALE_LIMIT_MS, Obj.TENANT_QUEUE_MAX, Obj.DOWN_EFFECT, Obj.UP_EFFECT, Obj.TOUCH_PRIORITY,
   Obj.EFFECTS_DONE, Obj.PREEMPTED, Obj.STALE_DROPPED, Obj.THERMAL_ENDS, Obj.TIME_LIMIT_ENDS,
   Obj.UNDERRUNS, Obj.FAULTS, Obj.COIL_ENERGY_UJ, Obj.HAPTIC_TRIGGER, Obj.HAP_STREAM_ADDR,
   Obj.HAP_STREAM_SIZE, Obj.HAP_STREAM_WRITE, Obj.HAP_STREAM_READ, Obj.HAP_STREAM_END, Obj.EFFECT_DATA,
   Obj.EFFECT_OWNER, Obj.BLEND_ENABLE, Obj.AUDIO_STATE, Obj.AUDIO_RATE_HZ, Obj.SAMPLE_COUNTER,
   Obj.AUDIO_COMMIT, Obj.BUS_GAIN_HDB, Obj.DUCK_DEPTH_HDB, Obj.BUS_ACTIVE, Obj.DUCK_THRESHOLD_DBFS,
   Obj.DUCK_HOLD_MS, Obj.SINK_BUS_MASK, Obj.SINK_GAIN_HDB, Obj.SINK_CLIPPED, Obj.LOOP_ADDR]

/-- Rows of the dictionary, part 5. -/
def objPart5 : List ObjRow :=
  [Obj.LOOP_SIZE, Obj.LOOP_WRITE, Obj.LOOP_READ, Obj.LOOP_ENABLE, Obj.LOOP_OVERRUNS,
   Obj.TDM_FSYNC_DELAY, Obj.TDM_BCLK_EDGE, Obj.SRC_BUS, Obj.SRC_GAIN_HDB, Obj.SRC_STATE,
   Obj.SRC_GAIN_NOW, Obj.SRC_STREAM_ADDR, Obj.SRC_STREAM_SIZE, Obj.STREAM_FORMAT, Obj.SRC_STREAM_WRITE,
   Obj.SRC_STREAM_READ, Obj.SRC_STREAM_END, Obj.STREAM_START, Obj.STREAM_STOP, Obj.STREAM_UNDERRUNS,
   Obj.TG_FREQ_HZ, Obj.TG_LEVEL_HDB, Obj.TG_ON_MS, Obj.TG_OFF_MS, Obj.TG_REPEAT,
   Obj.TG_START, Obj.TG_STOP, Obj.SAMPLE_RATE, Obj.MEM_STATE, Obj.MEM_CAPACITY_MIB,
   Obj.MEM_USABLE_MIB, Obj.MEM_RATE_MTS, Obj.MEM_TEMP_C, Obj.MEM_REINIT, Obj.ECC_ENABLE,
   Obj.UE_MODE, Obj.MAX_RATE_MTS, Obj.PASR_KEEP_EIGHTHS, Obj.CE_ALARM_PER_HOUR, Obj.CE_COUNT,
   Obj.UE_COUNT, Obj.MEM_RETRAINS, Obj.RETRAINS_WIDENED, Obj.SAVE_CRC_FAILS, Obj.UE_ADDR,
   Obj.UE_KIND, Obj.UE_REQUESTER, Obj.UE_TIME, Obj.RETRAIN_LAST_TIME, Obj.RETRAIN_STALL_MAX,
   Obj.RETRAIN_INTERVAL_MS, Obj.RETRAIN_DELTA_C, Obj.RETRAIN_PLACE_MAX_MS, Obj.PORT_STATE, Obj.LINK_SPEED,
   Obj.LINK_WIDTH, Obj.MAX_SPEED, Obj.MAX_WIDTH, Obj.CLOCK_MODE, Obj.HOST_LEVEL]

/-- Rows of the dictionary, part 6. -/
def objPart6 : List ObjRow :=
  [Obj.SLICES_BOUND, Obj.LINK_DOWNS, Obj.FLRS, Obj.INERT_WRITES, Obj.QUARANTINE_THRESHOLD,
   Obj.QUARANTINE_WINDOW_MS, Obj.SLICE_ENABLE, Obj.SLICE_PORT, Obj.SLICE_PASID, Obj.SLICE_CLASS,
   Obj.SLICE_STATIONS, Obj.SLICE_STATE, Obj.SPOOF_COUNT, Obj.SPOOF_LAST, Obj.QUARANTINE_RELEASE,
   Obj.SLICE_RESET, Obj.SEALED, Obj.TOUCH_LAND_ADDR, Obj.TOUCH_LAND_ENTRIES, Obj.NOTIFY_LAND_ADDR,
   Obj.NOTIFY_LAND_ENTRIES, Obj.LAND_SHADOW_ADDR, Obj.VECTOR_MAP, Obj.RIGHTS, Obj.LAYER_MASK,
   Obj.GUARD_MASK, Obj.ZONE_MASK, Obj.SOURCE_MASK, Obj.WINDOW, Obj.RING_ENABLE,
   Obj.RING_KIND, Obj.RING_ADDR, Obj.RING_ENTRIES, Obj.COMP_ADDR, Obj.SHADOW_ADDR,
   Obj.RING_VECTOR, Obj.RING_STATE, Obj.SEC_STATE, Obj.SEC_RESTARTS, Obj.SEC_WATCHDOG_EXPIRIES,
   Obj.ENCLAVE_AUTHORITY_HASH, Obj.WATCHDOG_TIMEOUT_MS, Obj.ENCLAVE_STATE, Obj.ENCLAVE_IDENTITY, Obj.SPONSOR,
   Obj.GRANT_STATIONS, Obj.GRANT_LAYERS, Obj.GRANT_GUARDS, Obj.GRANT_ZONES, Obj.GRANT_SOURCES,
   Obj.IMAGE_LOCATION, Obj.ENCLAVE_COMMAND, Obj.ENCLAVE_RESULT, Obj.RANGE_FAULTS, Obj.RANGE,
   Obj.INBOX, Obj.OUTBOX, Obj.ENCLAVE_DESTROY, Obj.MEASUREMENT, Obj.ATTEST_CHALLENGE]

/-- Rows of the dictionary, part 7. -/
def objPart7 : List ObjRow :=
  [Obj.ATTEST_REPORT, Obj.DEBUG_LEVEL, Obj.DEBUG_CHALLENGE, Obj.DEBUG_RESPONSE, Obj.DEBUG_RESULT,
   Obj.PENDING_OFF, Obj.SECURE_LAYERS, Obj.SECURE_GUARDS, Obj.SECURE_ZONES, Obj.SECURE_SOURCES,
   Obj.DEVICE_BUDGET_MW, Obj.EFFECTIVE_BUDGET_MW, Obj.INPUT_POWER_MW, Obj.LOSS_MW, Obj.HEADWORKS_RESERVE_MW,
   Obj.BUDGET_SHORT, Obj.INPUT_ENERGY_UJ, Obj.HEADWORKS_ENERGY_UJ, Obj.TJ_C, Obj.TJ_SOFT_C,
   Obj.THERMAL_DERATING, Obj.WEIR_STATE, Obj.WEIR_EVENTS, Obj.WEIR_SATURATIONS, Obj.BASE_MARGIN_PCT,
   Obj.ALLOT_STEP_PCT, Obj.ALLOT_STEP_MIN_MW, Obj.STATION_ALLOTMENT_MW, Obj.STATION_BASE_MW, Obj.SHADER_DRAW_MW,
   Obj.STATION_DEMAND_MW, Obj.SHADER_POINT, Obj.WEIR_DIVISOR, Obj.SHEDDING, Obj.STATION_WEIGHT,
   Obj.POINT_CEILING, Obj.SLOW_FLOOR, Obj.CLASS_WEIGHT_GUARDED, Obj.CLASS_WEIGHT_STANDARD, Obj.CLASS_WEIGHT_BACKGROUND,
   Obj.BASE_ENERGY_UJ, Obj.IDLE_ENERGY_UJ, Obj.ADMITS, Obj.DEFERS, Obj.SLOWS,
   Obj.SHEDS, Obj.FORCED_ADMITS, Obj.DEFER_LIMIT_MS, Obj.AGE_STEP_MS, Obj.BUCKET_PERIODS,
   Obj.DEFAULT_ENERGY_ESTIMATE, Obj.TENANT_ALLOTMENT_MW, Obj.CREDIT_UJ, Obj.RESERVED_UJ, Obj.TENANT_ENERGY_UJ,
   Obj.SPONSORED_UJ, Obj.OFF_PACKAGE_UJ, Obj.TOTAL_ENERGY_UJ, Obj.TOTAL_OFF_PACKAGE_UJ, Obj.VOLTAGE_MV]

/-- Rows of the dictionary, part 8. -/
def objPart8 : List ObjRow :=
  [Obj.CURRENT_MA, Obj.POWER_MW, Obj.ENERGY_UJ, Obj.ENCLAVE_ENERGY_UJ, Obj.VENDOR,
   Obj.PART, Obj.ORDERING_CODE, Obj.SILICON_REVISION, Obj.SERIAL_NUMBER, Obj.DEVICE_IDENTITY,
   Obj.DICTIONARY_VERSION, Obj.MGMT_BOOTS, Obj.SETTINGS_STATE, Obj.SETTINGS_SAVE, Obj.SETTINGS_RESETS,
   Obj.LAST_RESET_GROUP, Obj.SAVES, Obj.SETTINGS_DEFAULTS, Obj.SCHEMA_VERSIONS, Obj.SUBSCRIPTIONS,
   Obj.STATION_COMMIT, Obj.ETH_MODE, Obj.ETH_LINK, Obj.RX_FRAMES, Obj.TX_FRAMES,
   Obj.RX_ERRORS, Obj.INTERNAL_DROPS, Obj.QBV_LIST, Obj.QAV_SLOPES, Obj.CAN_NOMINAL_KBPS,
   Obj.CAN_DATA_KBPS, Obj.CAN_NODE, Obj.CAN_PEER_LEVEL, Obj.IP_ADDRESS, Obj.IP_NETMASK,
   Obj.IP_GATEWAY, Obj.BDA_UDP_PORT, Obj.BDA_ETHERTYPE, Obj.SEQ_REJECTS, Obj.TAG_FAILS,
   Obj.GRANT_CHALLENGE, Obj.GRANT_REQUEST, Obj.GRANT_RESULT, Obj.GRANT_END, Obj.GRANT_IDLE_S,
   Obj.GRANT_KEY_BASIC, Obj.GRANT_KEY_EXPERT, Obj.PTP_STATE, Obj.PTP_PRIORITY1, Obj.NETWORK_OFFSET_NS,
   Obj.RATE_CORRECTION_PPB, Obj.ROLE_SELECT, Obj.ROLE, Obj.DEVICE_PATH, Obj.ADOPT_POLICY,
   Obj.MANAGER_SERIAL, Obj.HEARTBEAT_MS, Obj.DELEGATION, Obj.MEMBER_SERIAL, Obj.MEMBER_LINK]

/-- Rows of the dictionary, part 9. -/
def objPart9 : List ObjRow :=
  [Obj.MEMBER_STATE, Obj.ALARM_STREAM, Obj.ALARM_SUMMARY, Obj.ALARM_ACK, Obj.ALARM_PIN_SEVERITY,
   Obj.ALARM_MERGE_MS, Obj.UPDATE_STATE, Obj.UPDATE_STEP, Obj.UPDATE_RESULT, Obj.INSTALLED_VERSION,
   Obj.ROLLBACK_FUSES, Obj.INSTALLED_RANGES, Obj.UPDATE_COMMAND, Obj.APPLY_AT, Obj.TRIAL_S,
   Obj.STATION_GAP_MS, Obj.MANIFEST, Obj.MANIFEST_RESULT, Obj.PLAN, Obj.PIECE_STREAM,
   Obj.PIECE_IN, Obj.PIECE_BITMAP, Obj.PIECES_STORED, Obj.PIECES_TOTAL, Obj.REJECT_PACKAGE,
   Obj.REJECT_RANGE, Obj.REJECT_CRC, Obj.DIGEST_FAILS, Obj.CACHE_MANIFEST, Obj.CACHE_STREAM,
   Obj.CACHE_TARGETS, Obj.CACHE_PROGRESS, Obj.CACHE_MEMBER_STATE, Obj.RESET_CAUSE, Obj.RESET_CAUSE_TIME,
   Obj.RESETS_WARM, Obj.RESETS_MGMT, Obj.RESETS_SEC, Obj.RESETS_PORT, Obj.RESETS_STATION,
   Obj.RESETS_SLICE, Obj.HELD_RESETS, Obj.RESET_REQUEST, Obj.MGMT_WATCHDOG_MS, Obj.DOMAIN_GAP_CYCLES,
   Obj.STATION_GAP_CYCLES, Obj.TRIM_STATE, Obj.TRIM_ATTEMPTS, Obj.ERASE_SUSPENDED, Obj.SOURCE_MAP,
   Obj.PIN_MAP, Obj.FUSE_MAP_PROGRAM, Obj.STATION_RESET, Obj.FUNCTION_GATE, Obj.GATE_PENDING,
   Obj.STATION_WATCHDOG_MS, Obj.REF_LOST, Obj.HW_PLL_FAILED, Obj.HW_PLL_LOCKED, Obj.HW_PLL_LOCK_LOSSES]

/-- Rows of the dictionary, part 10. -/
def objPart10 : List ObjRow :=
  [Obj.HW_EVENT_MERGES, Obj.PLL_LOCKED, Obj.PLL_LOCK_LOSSES, Obj.PLL_FAULT_SOURCE, Obj.DOORBELL_VALUE_MERGES,
   Obj.EVENT_MERGES, Obj.CV_VALUE, Obj.CV_RUN_BYTES, Obj.CV_RUN_TAG, Obj.CV_RUNS,
   Obj.CV_SOURCE, Obj.CV_PRESET, Obj.CV_WIDTH, Obj.CV_POLY, Obj.CV_INIT,
   Obj.CV_XOROUT, Obj.CV_REFIN, Obj.CV_REFOUT, Obj.CV_BLOCK_BYTES, Obj.CV_FOLD,
   Obj.CV_WINDOW_BASE, Obj.CV_WINDOW_SIZE, Obj.CV_STATION, Obj.CV_TENANT, Obj.CV_QUEUE,
   Obj.CV_DOMAIN_INDEX, Obj.CV_CROP_X, Obj.CV_CROP_Y, Obj.CV_CROP_W, Obj.CV_CROP_H,
   Obj.CV_PACK, Obj.CV_CONTINUOUS, Obj.CV_COMMAND, Obj.TOUCH_LOST, Obj.NOTIFY_LOST,
   Obj.TOUCH_ITEMS, Obj.NOTIFY_ITEMS, Obj.HAPTIC_LOST, Obj.STATION_LOG_LOST, Obj.STATION_LOG_ITEMS,
   Obj.HW_LOG_LOST, Obj.ALARM_LOST, Obj.HW_LOG_ITEMS, Obj.ALARM_ITEMS, Obj.ENCLAVE_TOUCH_LOST,
   Obj.ENCLAVE_NOTIFY_LOST, Obj.HW_LOG_RING, Obj.HW_LOG_SEQ, Obj.HW_LOG_OVERFLOWS, Obj.STATION_LOG_RING,
   Obj.STATION_LOG_SEQ, Obj.STATION_LOG_OVERFLOWS, Obj.READY_HEADWORKS, Obj.READY_STATION]

/-- Every object the spec tabulates (R35 to R624, R494, R495). -/
def objTable : List ObjRow :=
  objPart0 ++ objPart1 ++ objPart2 ++ objPart3 ++ objPart4 ++ objPart5 ++ objPart6 ++ objPart7 ++ objPart8 ++ objPart9 ++ objPart10

/-- The row and the instance that an area, an index and a subindex name, if the dictionary has it. -/
def lookupIn : List ObjRow → Nat → Nat → Nat → Option (ObjRow × Nat × Nat × Nat)
  | [], _, _, _ => none
  | r :: rest, area, idx, sub =>
    if (if r.station then 8 ≤ area && area < 16 else area == r.area) && r.idx ≤ idx && idx < r.idx + r.cnt
        && r.sub ≤ sub && sub < r.sub + r.nsub then
      some (r, area - 8, idx - r.idx, sub - r.sub)
    else lookupIn rest area idx sub

/-- The row of an area, index and subindex. -/
def lookupRow (area idx sub : Nat) : Option (ObjRow × Nat × Nat × Nat) := lookupIn objTable area idx sub

/-- Whether any object stands at the index (R452 tells NO_OBJECT from NO_SUBINDEX). -/
def indexExists (area idx : Nat) : Bool :=
  objTable.any fun r => (if r.station then 8 ≤ area && area < 16 else area == r.area) && r.idx ≤ idx && idx < r.idx + r.cnt

/-- The result row of an object, if the object holds one (R476). -/
def resultRow (area idx : Nat) : Option (ObjRow × Nat × Nat) :=
  (objTable.find? fun r => r.result && (if r.station then 8 ≤ area && area < 16 else area == r.area)
    && r.idx ≤ idx && idx < r.idx + r.cnt).map fun r => (r, area - 8, idx - r.idx)

end Sys2Proof.Machine
end

