-- ==== Sys2Proof/Machine/StateAudio.lean ====
section
/-! DEFINITION. State of a station's audio engine (R293 to R319): gain stages, routes, streams, tones, LOOP and the engine's progress. -/
namespace Sys2Proof.Machine

/-- The gain code of mute (R307). -/
def gainMute : Int := -32768

/-- A gain stage (R307). Stages are numbered 0 to 15 sources, 16 to 19 buses, 20 to 22 sinks. -/
structure Stage where
  present : Int := gainMute
  target : Int := gainMute
  /-- Frame in which the change began. -/
  start : Nat := 0
  /-- The forced regime applies from the change's start: a stopped stream (R300). -/
  forced : Bool := false
  /-- Each channel has crossed zero since the last step. -/
  crossL : Bool := false
  crossR : Bool := false
  prevL : Int := 0
  prevR : Int := 0
deriving DecidableEq, Repr

/-- A stream of A0 to A11 between the ring and its source stage (R300). -/
structure Stream where
  running : Bool := false
  fifo : List (Int × Int) := []
  /-- A fetch issued and not yet answered: address, bytes. -/
  fetching : Option (Nat × Nat) := none
  underrun : Bool := false
deriving DecidableEq, Repr

/-- What a tone generator does (R301). -/
inductive ToneState where
  | idle | starting | on | off
deriving DecidableEq, Repr

/-- A tone generator (R301). -/
structure Tone where
  st : ToneState := .idle
  /-- Phase in units of 1 / rate of a period. -/
  phase : Nat := 0
  left : Nat := 0
  forever : Bool := false
  onElapsed : Bool := false
  stopping : Bool := false
  /-- Device time at which the present on-period or off-period began. -/
  since : Nat := 0
deriving DecidableEq, Repr

/-- An AUDIO_COMMIT whose changes have not begun: its time, the values it took, and the stages whose gain it wrote (R309). -/
structure AudioCommit where
  at_ : Nat
  values : List (Nat × Nat × Nat × Int)
  touched : List Nat
deriving DecidableEq, Repr

/-- The audio engine of a station. -/
structure Audio where
  stages : FMap Nat Stage := []
  /-- The mux of each source and the bus mask of each sink in force, by stage number (R293). -/
  route : FMap Nat Nat := []
  /-- Route changes in phase 1 with the value to come (R310, R312). -/
  newRoute : FMap Nat Nat := []
  streams : FMap Nat Stream := []
  tones : FMap Nat Tone := []
  /-- Sources muted by a BLOCK reset until a commit of their gain (R317). -/
  blockMuted : List Nat := []
  /-- Frames since the engine's clocks started; the time base of the stepper (R307). -/
  frame : Nat := 0
  /-- Commits whose changes have not begun, oldest first (R309). -/
  commits : List AudioCommit := []
  /-- `TDM_FSYNC_DELAY` and `TDM_BCLK_EDGE` in force: the clocks started with them (R296, R314). -/
  fsyncDelay : Nat := 1
  bclkEdge : Nat := 0
  /-- Output frames not yet sent and input frames not yet taken: the latencies of R313. -/
  outDelay : List (List Int) := []
  micDelay : List (Int × Int) := []
  lastHit : FMap Nat Nat := []
  loopBuf : List (Int × Int) := []
  loopBlocks : List (List (Int × Int)) := []
  loopEpisode : Bool := false
  /-- Zero frames sent in STARTING, and in STOPPING since the sinks reached mute (R314). -/
  zeroFrames : Nat := 0
  /-- The stop under way is for a new rate or format (R314). -/
  restart : Bool := false
  /-- A stop was asked for while STARTING. -/
  stopWanted : Bool := false
  /-- The clocks are stopped for 1 ms before a restart (R314). -/
  clockStopped : Bool := false
  stoppedAt : Nat := 0
deriving DecidableEq, Repr

end Sys2Proof.Machine
end

