-- ==== Sys2Proof/Machine/StateMisc.lean ====
section
/-! DEFINITION. State of the check-value units (R596 to R605) and of the clock-domain crossings that count (R590 to R594). -/
namespace Sys2Proof.Machine

/-- A check-value unit between ARM and its result (R603, R604). -/
structure CvUnit where
  armed : Bool := false
  /-- A run is in progress. -/
  running : Bool := false
  /-- The CRC register of R599. -/
  crc : Nat := 0
  /-- Bytes of the run folded so far, fold words excluded. -/
  bytes : Nat := 0
  tag : Nat := 0
  /-- The run has ended with this outcome and its result is not yet written (R604). -/
  ended : Option Nat := none
deriving DecidableEq, Repr

/-- Crossings between clock domains that keep a count: values from the doorbell pages to a station's control core, and events (R593). -/
inductive CrossKey where
  /-- RING_TAIL and COMP_HEAD of a ring: station, tenant, queue. -/
  | ringTail (n t q : Nat)
  | compHead (n t q : Nat)
  /-- The landing heads of a slice, on their way to a station. -/
  | touchHead (n t : Nat)
  | noteHead (n t : Nat)
  /-- Events of a station: a sink's interrupt, and an end event of R201. -/
  | hpdIrq (n : Nat)
  | endEvent (n : Nat)
  /-- Events of the headworks, on their way to reset control: of a port, of a slice, of a watchdog (4 management, 5 secure). -/
  | hotReset (p : Nat)
  | portFlr (p : Nat)
  | sliceFlr (t : Nat)
  | watchdog (source : Nat)
deriving DecidableEq, Repr

/-- A crossing whose last item is not acknowledged yet: when that was sent, what it carries, and what waits behind it (R591). -/
structure Crossing where
  sentAt : Nat
  value : Nat
  held : Option Nat := none
deriving DecidableEq, Repr

/-- Nanoseconds after the sending before which the acknowledge is not back, and from which it is. At a destination of 25 MHz two to three
clocks each way take 82 to 123 ns; every other crossing takes less than the 40 ns in which device time advances (R590, R593). -/
def CrossKey.window : CrossKey → Nat × Nat
  | .ringTail .. | .compHead .. | .touchHead .. | .noteHead .. | .hpdIrq _ | .endEvent _ => (0, 40)
  | .hotReset _ | .portFlr _ | .sliceFlr _ | .watchdog _ => (82, 123)

/-- The station at whose end a crossing lies, if any. -/
def CrossKey.station : CrossKey → Option Nat
  | .ringTail n _ _ | .compHead n _ _ | .touchHead n _ | .noteHead n _ | .hpdIrq n | .endEvent n => some n
  | .hotReset _ | .portFlr _ | .sliceFlr _ | .watchdog _ => none

end Sys2Proof.Machine
end

