-- ==== Sys2Proof/Machine/StateDict.lean ====
section
/-! DEFINITION. State of the dictionary server: saved settings, snapshots and subscriptions (R482, R485 to R493). -/
namespace Sys2Proof.Machine

/-- A save in progress: the groups it writes and the values they had at its start, and whether it changes the bank (R489,
R490). -/
structure SaveJob where
  groups : FMap Nat GroupRec
  bankChange : Bool
deriving DecidableEq, Repr

/-- Saved settings (R488 to R493). -/
structure Settings where
  /-- Times of the first unsaved change and of the last change (R490). -/
  firstChange : Option Nat := none
  lastChange : Nat := 0
  /-- What the settings region holds of each group (R489). -/
  flash : FMap Nat GroupRec := []
  seq : Nat := 0
  bank : Nat := 0
  saving : Option SaveJob := none
  /-- Attempts of the present save that have failed (R497). -/
  failed : Nat := 0
  /-- The bank whose erase is due after a change of banks (R489). -/
  eraseDue : Option Nat := none
  /-- Groups reset at the last load with their causes, not yet reported (R491, R578). -/
  resetsDue : List (Nat × Nat) := []
deriving DecidableEq, Repr

/-- A snapshot held for one segmented read (R482, R623). -/
structure Snapshot where
  who : Requester
  key : OKey
  generation : Nat
  data : Bytes
  takenAt : Nat
deriving DecidableEq, Repr

/-- A subscription of a BDA peer (R485, R486): condition 1 CHANGE, 2 RESULT, 3 PERIODIC. -/
structure Subscription where
  peer : PeerId
  key : OKey
  condition : Nat
  intervalMs : Nat
  /-- The value, generation or revision at the last NOTIFY, and the changes of the value since. -/
  seen : Int := 0
  changes : Nat := 0
  lastSent : Nat := 0
deriving DecidableEq, Repr

/-- A change of a value as a subscription of it counts it (R486). -/
def Subscription.note (x : Subscription) (k : OKey) : Subscription :=
  if x.key = k && x.condition = 1 then { x with changes := min (x.changes + 1) 65535 } else x

end Sys2Proof.Machine
end

