-- ==== Sys2Proof/Machine/StateEnergy.lean ====
section
/-! DEFINITION. State of the energy system: the ledger, the loops of R429, and the weir. -/
namespace Sys2Proof.Machine

/-- What the energy loops keep of a station. -/
structure StationEnergy where
  /-- VDD_SHD draws of the last 1 ms in µW, newest first: 100 samples (R439). -/
  recent : List Nat := []
  /-- Means of VDD_STN, VDD_MC and edge slice together, in mW, of the last 100 periods, newest first (R431). -/
  baseMeans : List Nat := []
  /-- Samples of the period in which a core was busy, of all four cores together (R432). -/
  busy : Nat := 0
  /-- The busy share of the last period, in percent. -/
  busyPct : Nat := 0
  /-- A raise waits for its voltage: the point it leads to, and the time since which the voltage rises (R420). -/
  raising : Option (Nat × Nat) := none
  /-- Ticks since the last SLOW, and ticks in a row at which a raise would have fitted (R439). -/
  sinceSlow : Nat := 5
  fits : Nat := 0
  /-- Ticks in a row above the allotment at the floor, and at most 0.8 of it (R440). -/
  overLimit : Nat := 0
  under : Nat := 0
deriving DecidableEq, Repr

/-- The energy system. Energies below 1 µJ are kept in units of 10⁻⁵ µJ, what one sample of 1 mV × 1 mA × 10 µs carries
(R421). -/
structure Energy where
  /-- Remainders of the accounts: kind, and its two numbers. -/
  frac : FMap (Nat × Nat × Nat) Nat := []
  /-- Sums of the samples of the present period by domain, in µW, and their number (R421, R430). -/
  sums : FMap Nat Nat := []
  samples : Nat := 0
  /-- Charges of tenants in the present and in the last period, in units of 10⁻⁵ µJ, by station and tenant (R434). -/
  tenantNow : FMap (Nat × Nat) Nat := []
  tenantLast : FMap (Nat × Nat) Nat := []
  /-- Means of VDD_HW and VDD_SEC of the last 100 periods, in mW (R431). -/
  headMeans : List Nat := []
  /-- The thermal cap in mW (R430). -/
  cap : Nat := 110000
  /-- B_eff at the last split (R433). -/
  splitBudget : Nat := 0
  stations : FMap Nat StationEnergy := []
  /-- The last comparison found the input above the limit (R441). -/
  overLimit : Bool := false
  /-- Time since which the input is at most the limit (R442). -/
  underSince : Option Nat := none
  /-- Time of the last release check (R442). -/
  checkedAt : Nat := 0
  /-- Stations in the order in which their divisors were doubled, newest first (R442). -/
  clamps : List Nat := []
  /-- Time of the secure cores since the last sample, in ns, by tag: 0 the firmware, e + 1 enclave e (R399, R423). -/
  secTime : FMap Nat Nat := []
  /-- Time since which every divisor is 8 and the input above the limit (R443). -/
  allEight : Option Nat := none
deriving DecidableEq, Repr

end Sys2Proof.Machine
end

