-- ==== Sys2Proof/Machine/StateHaptic.lean ====
section
/-! DEFINITION. State of a station's haptic driver (R268 to R291). Quantities that the spec computes with real numbers are
held as exact fractions (assumption 9). -/
namespace Sys2Proof.Machine

/-- The effect or stream that the driver plays, or whose brake runs (R277, R281, R282). -/
structure Play where
  trig : Trigger
  /-- Time of the waveform tick at which it was taken; 0 until it starts. -/
  start : Nat := 0
  /-- It has been taken and starts at the next waveform tick (R286). -/
  begun : Bool := false
  /-- Samples played of the present play. -/
  idx : Nat := 0
  playsLeft : Nat := 0
  gapLeft : Nat := 0
  /-- The overdrive factor of the present play (R282). -/
  k : Rat := 1
  /-- The commanded voltages of the present and of the next sample, in mV (R282). -/
  cur : Rat := 0
  next : Rat := 0
  /-- Samples of a stream fetched and not yet played (R281). -/
  buf : List Int := []
  /-- The status with which it ended; its brake may still run (R288). -/
  ended : Option Nat := none
  /-- Coil energy of the effect and its brake in µJ (R291). -/
  energy : Rat := 0
deriving DecidableEq, Repr

/-- The haptic driver of a station. -/
structure Haptic where
  play : Option Play := none
  /-- An effect taken during a brake that runs to its end (R286). -/
  waiting : Option Trigger := none
  /-- Waveform ticks left for the brake command that a blend adds (R286). -/
  blendLeft : Nat := 0
  /-- The closing brake before OFF (R288). -/
  stopping : Bool := false
  /-- The bootstraps are charged (R288). -/
  charged : Bool := false
  /-- Sense samples since the latest waveform tick. -/
  phase : Nat := 0
  /-- The thermal estimate in K (R284). -/
  rise : Rat := 0
  thermalRefused : Bool := false
  driveRun : Nat := 0
  quietRun : Nat := 0
  /-- The latest back-EMF estimates in mV, newest first, at most 6 (R282, R283). -/
  emf : List Rat := []
  lastI : Rat := 0
  /-- The limited voltage in force, in mV (R269). -/
  volts : Rat := 0
  /-- Consecutive sense samples: V_BR below or above its range, in range, drive without current, and |e| below
  `BRAKE_END_MV` (R272, R283, R288). -/
  below : Nat := 0
  above : Nat := 0
  inRange : Nat := 0
  openRun : Nat := 0
  brakeQuiet : Nat := 0
  /-- Sense samples and device time since the brake began (R283). -/
  brakeRun : Nat := 0
  brakeStart : Nat := 0
  /-- The values that a HAPTIC_COMMIT took from the shadows, waiting for IDLE or OFF: row of the commit, instance, subindex, value (R292). -/
  committed : Option (List (Nat × Nat × Nat × Int)) := none
  /-- Coil energy since the reset, in µJ (R291). -/
  energy : Rat := 0
  /-- Slots of revoked tenants, emptied once they are no longer in use (R290). -/
  emptying : List Nat := []
deriving DecidableEq, Repr

end Sys2Proof.Machine
end

