-- ==== Sys2Proof/Machine/StateHost.lean ====
section
/-! DEFINITION. State of the host ports, the slices, their rings and the ingress sluices of the stations (R353 to R382,
R655). -/
namespace Sys2Proof.Machine

/-- A transfer taken from a transfer ring (R368). -/
structure Xfer where
  station : Nat
  tenant : Nat
  queue : Nat
  jobId : Nat
  kind : Nat
  hostAddr : Nat
  stationAddr : Nat
  len : Nat
  fenceWait : Option (Nat × Nat) := none
  fenceSignal : Option (Nat × Nat) := none
  irq : Bool := false
  /-- The data has moved, or the transfer ends without moving any. -/
  moved : Bool := false
  /-- The completion status (R45, R369). -/
  status : Nat := 0
  /-- The station-side bytes it moved (R597). -/
  data : Bytes := []
  /-- Its first bytes, waiting in the ingress sluice for a memory that does not serve (R18, R367, R655). -/
  sluiced : Bytes := []
deriving DecidableEq, Repr

/-- A ring of a slice: its doorbell tail, its head, and its completions (R365, R366). -/
structure Ring where
  tail : Nat := 0
  head : Nat := 0
  compHead : Nat := 0
  compTail : Nat := 0
  /-- Fetched jobs not yet completed (R366). -/
  outstanding : Nat := 0
  /-- Descriptor reads issued and not yet answered. -/
  reading : Nat := 0
  /-- Reads issued before the ring's fetches stopped; their data is discarded when it arrives (R377, R380). -/
  stale : Nat := 0
  /-- Transfers of a transfer ring, in ring order (R369). -/
  xfers : List Xfer := []
deriving DecidableEq, Repr

/-- Where a landing ring stands (R370). -/
structure Landing where
  tail : Nat := 0
  head : Nat := 0
deriving DecidableEq, Repr

/-- A request in a mailbox: its type, the tenant qualifier of the host's, its body, and what its writes bring from outside (R372). -/
structure MbRequest where
  typ : Nat
  tq : Nat
  body : Bytes
  env : WriteEnv
deriving DecidableEq, Repr

/-- A mailbox: a request that is still to be carried out, the result of one that is not yet written, and the response (R372). -/
structure Mailbox where
  request : Option MbRequest := none
  reply : Option (Nat × Bytes) := none
  done : Bool := false
  result : Nat := 0
  response : Bytes := []
deriving DecidableEq, Repr

/-- What a slice holds besides its objects (R362 to R380). -/
structure Slice where
  rings : FMap (Nat × Nat) Ring := []
  touchLand : Landing := {}
  noteLand : Landing := {}
  mailbox : Mailbox := {}
  /-- Device times of the failures of R374 within the window of R375. -/
  failures : List Nat := []
  quarantined : Bool := false
  /-- A SLICE reset is in progress (R377). -/
  resetting : Bool := false
  /-- SLICE_ENABLE was written 0: the slice becomes UNBOUND at the reset's end (R377). -/
  unbind : Bool := false
  /-- Stations held in a wider reset, where the actions of the SLICE reset are still due (R565). -/
  due : List Nat := []
  /-- Binding writes kept until the reset ends (R379). -/
  heldWrites : List BindWrite := []
  /-- Revocations of windows in progress: station, window, new value (R136, R361). -/
  revoking : List (Nat × Nat × Nat) := []
deriving DecidableEq, Repr

/-- A host port (R353 to R355, R371, R378). -/
structure HostPort where
  /-- PERST_N is low. -/
  perst : Bool := true
  /-- Ready for link training (R378). -/
  ready : Bool := false
  /-- The link has not been up since the last reset of the port (R378). -/
  linkDown : Bool := true
  /-- The one retraining of R355 is due, or has been made. -/
  retrainDue : Bool := false
  retrained : Bool := false
  /-- Device time at which the link trained below what R355 asks for. -/
  degradedAt : Nat := 0
  /-- MSI-X vectors the host has unmasked, and pending messages (R371). -/
  unmasked : List Nat := []
  msixPending : List Nat := []
  mailbox : Mailbox := {}
deriving DecidableEq, Repr

/-- A descriptor in an ingress sluice (R367, R655). -/
structure Descriptor where
  tenant : Nat
  queue : Nat
  data : Bytes
deriving DecidableEq, Repr

end Sys2Proof.Machine
end

