-- ==== Sys2Proof/Machine/StateMemory.lean ====
section
/-! DEFINITION. State of a station's memory controller (R321 to R352). -/
namespace Sys2Proof.Machine

/-- A retraining in progress (R335): the attempt, its start, and the start of the stall. -/
structure Retraining where
  attempt : Nat
  startedAt : Nat
deriving DecidableEq, Repr

/-- A request that waited 20 µs and is served as class 3: its class and its arrival (R325). -/
structure Promoted where
  cls : Nat
  since : Nat
deriving DecidableEq, Repr

/-- The memory controller of a station. -/
structure MemCtl where
  /-- Inline ECC is in use: `ECC_ENABLE` as it stood at the last initial training (R332). -/
  eccOn : Bool := false
  /-- tREFI is 1.95 µs: the indication read last was above 85 °C (R328). -/
  fastRefresh : Bool := false
  /-- Device time of the last all-bank refresh (R328). -/
  refreshedAt : Nat := 0
  /-- Attempts of the initial training in progress that have failed; none while no initial training runs (R330). -/
  training : Option Nat := none
  /-- The zero fill of R331 is in progress. -/
  filling : Bool := false
  /-- Device time of the last training and the temperature indication at it (R333). -/
  trainedAt : Nat := 0
  trainedTemp : Int := 0
  /-- Device time at which a retraining fell due (R333, R334). -/
  dueAt : Option Nat := none
  retraining : Option Retraining := none
  /-- MEM_HOT is raised (R329). -/
  hot : Bool := false
  /-- Device times of the corrected errors of the last 60 minutes, and of the last MEM_CE_RATE alarm (R339). -/
  corrected : List Nat := []
  ceAlarmAt : Option Nat := none
  promoted : List Promoted := []
  /-- Word that froze the controller, to be marked poisoned at the release (R343, R344). -/
  frozenWord : Option Nat := none
  /-- Eighths of the device kept in the present self-refresh (R346). -/
  kept : Nat := 8
  /-- Exit from self-refresh: the retraining before any other traffic is still to be made (R337). -/
  wakeRetrain : Bool := false
  /-- Windows that met an unkept eighth: tenant, window, first lost page and pages (R348). -/
  lost : List (Nat × Nat × Nat × Nat) := []
deriving DecidableEq, Repr

end Sys2Proof.Machine
end

