-- ==== Sys2Proof/Machine/StateNet.lean ====
section
/-! DEFINITION. State of the field network and of the manager hierarchy (R498 to R521, R533). -/
namespace Sys2Proof.Machine

/-- A session of R508. -/
structure Session where
  number : Nat
  level : Level
  key : Bytes
  /-- Arrival of the last valid frame (R509). -/
  lastAt : Nat
deriving DecidableEq, Repr

/-- A peer record (R505, R506, R508). -/
structure Peer where
  id : PeerId
  /-- LAST: the highest accepted request SEQ. -/
  last : Nat
  /-- The sequence numbers recorded among the 1,024 up to LAST. -/
  recorded : List Nat := []
  /-- The last 16 responses with their SEQ, newest first. -/
  cached : List (Nat × Bytes) := []
  /-- Arrival of the last request. -/
  lastAt : Nat
  /-- The nonce of `GRANT_CHALLENGE` and the time it was read. -/
  challenge : Option (Bytes × Nat) := none
  session : Option Session := none
deriving DecidableEq, Repr

/-- An entry of the switch's address table (R498). -/
structure MacEntry where
  mac : Nat
  port : Nat
  seenAt : Nat
deriving DecidableEq, Repr

/-- A frame that waits at an egress port for its gate (R498). -/
structure EgressFrame where
  port : Nat
  cls : Nat
  data : Bytes
deriving DecidableEq, Repr

/-- A relayed request without its response (R512): where it came from, the member it went to, its header, and whether it went over CAN. -/
structure Relayed where
  origin : RelayFrom
  member : Nat
  header : Bytes
  overCan : Bool
deriving DecidableEq, Repr

/-- A package in a manager's piece cache: its manifest, and its pieces (R533). -/
structure CachePkg where
  manifest : Bytes
  pieces : FMap Nat Bytes := []
deriving DecidableEq, Repr

/-- The field network. -/
structure Net where
  peers : FMap Nat Peer := []
  /-- The device's own SEQ for each peer it sends NOTIFY to (R505). -/
  notifySeq : FMap PeerId Nat := []
  /-- The numbers of R510 this device gave to external peers whose frames it relays. -/
  externals : FMap Nat PeerSource := []
  relayed : List Relayed := []
  /-- Heartbeats sent to a member since its last answer (R519). -/
  unanswered : FMap Nat Nat := []
  /-- Time of the last heartbeat from the manager, or of adoption (R519). -/
  beatAt : Option Nat := none
  /-- The role strap MGR_SEL as sampled (R511, R635). -/
  strap : Bool := false
  macs : List MacEntry := []
  /-- Gates of an egress port, bit by traffic class; all open where none is listed (R498). -/
  gates : FMap Nat Nat := []
  egress : List EgressFrame := []
  /-- Device time of the last valid Sync (R515). -/
  lastSync : Nat := 0
  /-- The piece cache, least recently written first (R533). -/
  cache : List CachePkg := []
  /-- The next BLOCK_SEQ of each DOMAIN object of a peer, and the bytes of a record still incomplete (R504, R531). -/
  streams : FMap (Nat × Nat) (Nat × Bytes) := []
deriving DecidableEq, Repr

end Sys2Proof.Machine
end

