-- ==== Sys2Proof/Machine/StateTouch.lean ====
section
/-! DEFINITION. State of a station's touch engine (R219 to R259, R660): contacts, baselines, suspect areas, the scan in
progress and the wake scan. -/
namespace Sys2Proof.Machine

/-- A zone's rectangle and holder as the engine uses them since the start of the latest pair (R245). -/
structure ZoneCfg where
  enable : Bool := false
  holder : Holder := .nobody
  x : Nat := 0
  y : Nat := 0
  w : Nat := 0
  h : Nat := 0
deriving DecidableEq, Repr

/-- States of a live contact (R232). -/
inductive ContactState where
  | tentative | confirmed | water | absorbed
deriving DecidableEq, Repr

/-- Classes of R229, with the codes of R247. -/
inductive TouchClass where
  | finger | glove | water
deriving DecidableEq, Repr

def TouchClass.code : TouchClass → Nat
  | .finger => 0
  | .glove => 1
  | .water => 2

/-- A candidate of a pair with its panel coordinates (R229, R230). -/
structure Candidate where
  cls : TouchClass
  x : Nat
  y : Nat
  peak : Nat
  area : Nat
  /-- Node index of the peak, TX-major. -/
  node : Nat
deriving DecidableEq, Repr

/-- A live contact (R232, R233, R238, R246). -/
structure Contact where
  id : Nat
  st : ContactState
  cls : TouchClass
  x : Nat
  y : Nat
  px : Nat
  py : Nat
  peak : Nat
  area : Nat
  node : Nat
  /-- The holder fixed at confirmation; `nobody` where the contact is reported to no one. -/
  holder : Holder := .nobody
  /-- The zone in which it was confirmed. -/
  zone : Nat := 0
  /-- Reported to nobody until it lifts (R246, R250, R253, R255, R256). -/
  mute : Bool := false
  /-- End of the pair that made it TENTATIVE. -/
  since : Nat := 0
  /-- Last reported position. -/
  repX : Nat := 0
  repY : Nat := 0
  anchorX : Nat := 0
  anchorY : Nat := 0
  anchorAt : Nat := 0
  /-- Matched as water in the previous pair. -/
  wet : Bool := false
  /-- Nodes of the absorbed footprint, and those of them that have been re-baselined (R232, R237, R238). -/
  footprint : List Nat := []
  rebased : List Nat := []
  /-- The hold limit has passed; the next pair end absorbs the contact (R238). -/
  holdDue : Bool := false
deriving DecidableEq, Repr

/-- A suspect area (R239, R240): node indices TX-major, then self channels from TX_COUNT × RX_COUNT up. -/
structure SuspectArea where
  nodes : List Nat
  clearPairs : Nat := 0
  /-- The hold limit has passed; the next pair end releases the area (R240). -/
  holdDue : Bool := false
deriving DecidableEq, Repr

/-- A wake contact in progress (R251, R252). -/
structure WakeContact where
  start : Nat
  x0 : Nat
  y0 : Nat
  x : Nat
  y : Nat
  /-- It has strayed from its start by more than 128 units at some scan. -/
  strayed : Bool := false
deriving DecidableEq, Repr

/-- A first tap that awaits its second (R252). -/
structure WakeTap where
  start : Nat
  x : Nat
  y : Nat
deriving DecidableEq, Repr

/-- A capture of the factory reference in progress (R243). -/
structure Capture where
  expert : Bool
deriving DecidableEq, Repr

/-- The touch engine of a station. -/
structure Touch where
  zones : FMap Nat ZoneCfg := []
  contacts : List Contact := []
  nextId : Nat := 1
  base : List Int := []
  selfBase : List Int := []
  savedBase : List Int := []
  savedSelf : List Int := []
  /-- Offsets o of R239 for the mutual nodes and for the self channels. -/
  offsetMutual : Int := 0
  offsetSelf : Int := 0
  areas : List SuspectArea := []
  /-- Normalised counts of the calibration pairs so far: mutual and self. -/
  calPairs : List (List Int × List Int) := []
  /-- Start of the pair in progress. -/
  pairStart : Option Nat := none
  lastStart : Option Nat := none
  lastEnd : Nat := 0
  /-- Noise of the last listening step at each frequency, as the sum of the squares of its counts and their number: its RMS is the root of
  their quotient (R226). -/
  noise : FMap Nat (Nat × Nat) := []
  overNoise : Nat := 0
  sinceHop : Nat := 16
  nextFreq : Option Nat := none
  /-- Which other frequency of the hop set is listened at next (R222). -/
  listenTurn : Nat := 0
  /-- The values that a TOUCH_COMMIT took from the shadows, for the start of the next pair: row of the commit, instance, subindex, value
  (R225, R259). -/
  committed : Option (List (Nat × Nat × Nat × Int)) := none
  /-- A swap of the microcode skips the next pair (R257). -/
  skipNext : Bool := false
  /-- Ends of the pairs of the last second (R225). -/
  ends : List Nat := []
  pumpOk : Bool := false
  /-- The station's touch function is released and not gated (R254, R577). -/
  released : Bool := false
  /-- Contacts that form in the next pair are consumed: something may lie on the glass since before (R253). -/
  consume : Bool := false
  /-- Zones drained and not yet ready, each with the number of pairs started before (R250). -/
  drained : FMap Nat Nat := []
  /-- Pairs started: a drained zone is ready once it has grown (R250). -/
  starts : Nat := 0
  /-- Device time of the end of the latest calibration (R240). -/
  calibratedAt : Nat := 0
  capture : Option Capture := none
  /-- Candidates of the previous wake scan (R251). -/
  wakePrev : List (Nat × Nat) := []
  wakeNow : Option WakeContact := none
  wakeTap : Option WakeTap := none
  /-- The contact in progress began as the second tap. -/
  wakeSecond : Bool := false
  /-- Two or more wake contacts were present and not all have lifted (R252). -/
  wakeBlocked : Bool := false
  /-- The calibration in progress runs under R660. -/
  sleepCal : Bool := false
deriving DecidableEq, Repr

end Sys2Proof.Machine
end

