-- ==== Sys2Proof/Machine/StatePicture.lean ====
section
/-! DEFINITION. State of a station's compositor, guard engine, timing generator and output (R103 to R218, R260 to R266). -/
namespace Sys2Proof.Machine

/-- A set with shadow, armed and active copies: a layer set, the station set, or a guard set (R122, R163). -/
inductive SetId where
  | layer (n : Nat)
  | station
  | guard (n : Nat)
deriving DecidableEq, Repr

/-- An armed copy of a set: the values of its objects and of its BLOBs, in the order of the set's rows, and the commit that armed it (R123,
R131). -/
structure ArmedSet where
  vals : List Int
  blobs : List Bytes
  commit : Nat
deriving DecidableEq, Repr

/-- An accepted commit until each of its sets is latched or replaced (R127, R131). -/
structure CommitRec where
  holder : Holder
  seq : Nat
  armTime : Nat
  layerMask : Nat
  guardMask : Nat
deriving DecidableEq, Repr

/-- A buffer row held ahead of composition (R138, R139): `none` where the data was poisoned (R140). `commit` names the
armed set the row was fetched for, until that set is latched. -/
structure FetchedRow where
  addr : Nat
  len : Nat
  data : Option Bytes
  commit : Option Nat
deriving DecidableEq, Repr

/-- A verdict of R167. -/
inductive Verdict where
  | isMatch | mismatch | unchecked
deriving DecidableEq, Repr

/-- The result of one guarded segment of a composed line of the active area (R167 to R170); no verdict under the safe image (R30,
R177). -/
structure SegResult where
  region : Nat
  line : Nat
  seg : Nat
  verdict : Option Verdict
  shuttered : Bool
  /-- Shuttered under UNCHECKED_POLICY 0 on its own account (R170, R181). -/
  byPolicy : Bool
deriving DecidableEq, Repr

/-- A copy of the echo image in a composed line: contact, corner, and size (R119, R120). -/
structure EchoCopy where
  contact : Nat
  x : Int
  y : Int
  w : Nat
  h : Nat
deriving DecidableEq, Repr

/-- A line of the transom (R143 to R145). `composed` are the pixels of R118, `out` those after the shutter. -/
structure TransomLine where
  y : Nat
  ready : Bool
  composed : List Nat
  out : List Nat
  segs : List SegResult
  copies : List EchoCopy
deriving DecidableEq, Repr

/-- An entry of the contact table the compositor reads (R235): contact, state, class, the SECURE flag, the pixel position and the peak
delta. -/
structure TableEntry where
  id : Nat
  st : ContactState
  cls : TouchClass
  secure : Bool
  px : Int
  py : Int
  peak : Nat
deriving DecidableEq, Repr

/-- The contact is CONFIRMED. -/
def TableEntry.confirmed (e : TableEntry) : Bool := e.st = .confirmed

/-- The compositor of a station. -/
structure Compositor where
  armed : FMap SetId ArmedSet := []
  commits : FMap Nat CommitRec := []
  nextCommit : Nat := 0
  transom : List TransomLine := []
  /-- Composition of the coming frame may run (R126, R132). -/
  composing : Bool := false
  /-- The next line to compose. -/
  nextLine : Nat := 0
  /-- Lines discarded under R264 and still to be composed again, in order. -/
  recompose : List Nat := []
  fetched : List FetchedRow := []
  /-- The contact table in use, in order of entry (R235). -/
  contacts : List TableEntry := []
  /-- The table of the latest pair and the time from which it is used (R235). -/
  contactsNext : Option (Nat × List TableEntry) := none
  /-- The first line of the frame whose composition starts with the contact table in use (R266). -/
  tableFrom : Nat := 0
  /-- Echo copy corners fixed for the frame in composition (R120). -/
  echoPos : FMap Nat (Int × Int) := []
  /-- Copies of the lines emitted in the present frame, and of the frame before it (R141). -/
  echoFrame : List (Nat × EchoCopy) := []
  echoPrev : List (Nat × EchoCopy) := []
  /-- A set was latched at a fix point since the previous boundary latch (R141). -/
  fixLatched : Bool := false
  /-- `COMPOSE_SOURCE` has changed since the previous boundary latch (R141). -/
  sourceChanged : Bool := false
  newSafeContent : Bool := false
  /-- The layer stack may be composed: a boundary latch has fallen since RUNNING was entered (R137). -/
  stackReady : Bool := false
  underflowFirst : Option Nat := none
  underflowCount : Nat := 0
  /-- Write-back: enabled in the last frame, frames to skip, on for the frame in emission, and dropped (R149, R151). -/
  wbWas : Bool := false
  wbSkip : Nat := 0
  wbOn : Bool := false
  wbDropped : Bool := false
  /-- Who committed the active copy of each set (R136). -/
  shown : FMap SetId Holder := []
  /-- Sets that a window revocation disables at the next latch, with the tenant concerned (R136). -/
  revoking : List (SetId × Nat) := []
deriving DecidableEq, Repr

/-- An entry of the reference SRAM (R157). -/
structure RefEntry where
  ref : Nat := 0
  present : Bool := false
  parityBad : Bool := false
deriving DecidableEq, Repr

/-- A reference load in progress (R158 to R160). -/
structure RefLoad where
  region : Nat
  page : Nat
  first : Nat
  count : Nat
  addr : Nat
  holder : Holder
deriving DecidableEq, Repr

/-- What a region has met in the frame being emitted (R180, R181). -/
structure RegionFrame where
  mismatch : Nat := 0
  unchecked : Nat := 0
  byPolicy : Nat := 0
  first : Option (Nat × Nat) := none
  anyShuttered : Bool := false
deriving DecidableEq, Repr

/-- The guard engine of a station. -/
structure Guard where
  refs : FMap Nat RefEntry := []
  load : Option RefLoad := none
  /-- Regions in CLOSED (R183, R184). -/
  closed : List Nat := []
  /-- Frames of hold left for each region (R169). -/
  hold : FMap Nat Nat := []
  frame : FMap Nat RegionFrame := []
  /-- New safe-store content between its LAST segment and its check (R177). -/
  safePending : Option Bytes := none
deriving DecidableEq, Repr

/-- A freeze monitor (R208 to R210), with the settings latched at the last boundary latch. -/
structure Monitor where
  enable : Bool := false
  x : Nat := 0
  y : Nat := 0
  w : Nat := 32
  h : Nat := 32
  frames : Nat := 60
  basis : Nat := 0
  /-- Signature of the last complete emitted frame. -/
  last : Option Nat := none
  /-- Device time of T of R209. -/
  changedAt : Nat := 0
  /-- The first emitted frame after enabling has given the starting value (R209). -/
  started : Bool := false
  /-- CRC register over the lines of the frame being emitted. -/
  crc : Nat := 0xFFFFFFFF
  /-- A pixel held by an enclave met the rectangle in this frame (R397). -/
  meetsSecure : Bool := false
deriving DecidableEq, Repr

/-- What the timing generator publishes to the touch engine for the line in progress: its number from the boundary line, the device
times of its start, of its horizontal blanking and of the active video that follows, and whether it lies in vertical blanking (R191). -/
structure Published where
  line : Nat := 0
  start : Nat := 0
  blank : Nat := 0
  active : Nat := 0
  vertical : Bool := true
deriving DecidableEq, Repr

/-- The timing generator and the output of a station. -/
structure Display where
  /-- The generator counts lines (R192). -/
  counting : Bool := false
  /-- The line in progress, counted from the boundary line as 0. -/
  line : Nat := 0
  boundaryAt : Nat := 0
  /-- The last active line has started, or no frame has begun: the next event is a frame boundary. -/
  frameOver : Bool := true
  /-- A boundary indication awaits the compositor's cycle B (R126). -/
  boundaryPending : Bool := false
  stretchable : Bool := false
  /-- The line of the fix point once it is decided; 0 stands for no stretch in a fixed blanking (R199 to R201). -/
  fixLine : Option Nat := none
  /-- A set was latched at the boundary latch of this blanking (R201). -/
  latchedAtB : Bool := false
  published : Published := {}
  /-- Device time of the first end event of the blanking or of SELF_REFRESH (R201, R207). -/
  endEvent : Option Nat := none
  /-- Lines of the last frame, in line times of the present timing (R200). -/
  prevLines : Nat := 0
  /-- A mode was accepted and waits for the boundary (R215). -/
  modePending : Bool := false
  /-- The timing, link and sync values of the accepted mode, in the order of the mode's rows (R215). -/
  modeArmed : List Int := []
  /-- The first boundary of a new timing is to come: the touch scan is planned at it (R258). -/
  newTiming : Bool := false
  /-- Held between the old timing's last boundary and the pixel PLL's lock (R215). -/
  modeHeld : Bool := false
  /-- The output was ACTIVE when the mode was accepted, and the link configuration stays (R211, R215). -/
  modeStaysActive : Bool := false
  /-- The DPCD and EDID of the sink have been read (R215). -/
  sinkKnown : Bool := false
  hpd : Bool := false
  /-- Retries of LINK_FAIL made (R211). -/
  retries : Nat := 0
  /-- Video leaves the pins: set at the first boundary in ACTIVE (R211). -/
  video : Bool := false
  /-- The frame in progress is the last before the main link stops (R206). -/
  psrLast : Bool := false
  /-- The main link is stopped under R206. -/
  psrStopped : Bool := false
  /-- `REFRESH_STATE` before the main link stopped under R206 (R205). -/
  refreshWas : Nat := 0
  /-- The PPS of the present mode has been sent (R196). -/
  ppsSent : Bool := false
  /-- Lines of the slice row in progress, as the DSC encoder took them (R196). -/
  dscRows : List (List Nat) := []
  /-- The sink's service-IRQ and link-status registers, or its DPCD and EDID, are being read. -/
  reading : Bool := false
  /-- eDP panel power: 0 off, 1 PANEL_EN high and waiting, 2 the link may be trained, 3 backlight on, 4 BL_EN low and the
  link still to stop, 5 the link stopped and PANEL_EN still high (R217). -/
  panel : Nat := 0
  firstFrameSent : Bool := false
  /-- Configuration codes of `LINK_CONFIG` that the sink reports: rate code and lanes, in the order of R194 (R193, R195). -/
  sinkConfigs : List (Nat × Nat) := []
  monitors : FMap Nat Monitor := []
  /-- Since when the monitors hold their counts, in SLEEP (R192). -/
  heldSince : Option Nat := none
deriving DecidableEq, Repr

end Sys2Proof.Machine
end

