-- ==== Sys2Proof/Machine/StateReset.lean ====
section
/-! DEFINITION. State of reset and clock control (R551 to R588), of the flash controller as resets meet it (R567 to R569), and of
each station's control (R29 to R34, R579). -/
namespace Sys2Proof.Machine

/-- The reset domains of R551, in release order. -/
inductive Domain where
  | supplies | trim | aon | sec | mgmt
  | port (p : Nat)
  | net
  | memc (n : Nat)
  | core (n : Nat)
  | func (n : Nat)
deriving DecidableEq, Repr

/-- A reset source as it is applied (R554): source number, reach by its code of R555, target station or port, tenant. -/
structure ResetReq where
  source : Nat
  reach : Nat
  target : Option Nat := none
  tenant : Option Nat := none
  /-- An STN swap resets the control core alone (R558). -/
  coreOnly : Bool := false
  /-- STATION reach with memory re-initialisation (R350). -/
  reinit : Bool := false
  /-- A SLICE reset by `SLICE_ENABLE` 0 (R377). -/
  unbind : Bool := false
deriving DecidableEq, Repr

/-- Where the release of the domains stands (R561 to R563). -/
inductive Release where
  /-- No release is in progress. -/
  | idle
  /-- A domain has been released, and the end of its step is to come. -/
  | step (d : Domain)
  /-- The counted gap after a domain, before the next one, runs. -/
  | gap (after : Domain)
deriving DecidableEq, Repr

/-- Reset and clock control. -/
structure ResetCtl where
  /-- VAON is good. -/
  vaon : Bool := false
  inReset : List Domain := []
  /-- Level sources asserted (R556). The reset pins are taken as low until they are first seen high. -/
  levels : List Nat := [0, 2, 7, 8]
  /-- Brown-out is asserted by a supply monitor, by the lost reference (R583). -/
  brownOut : Bool := false
  refLost : Bool := false
  /-- The last assertion of a pulse source, which lasts 640 ns (R556). -/
  pulsedAt : Option Nat := none
  /-- The brown-out monitor tripped while VAON stayed good (R566). -/
  tripped : Bool := false
  /-- Sources held under R567, oldest first. -/
  held : List ResetReq := []
  /-- Sources that wait for an erase suspend (R569). -/
  suspended : List ResetReq := []
  release : Release := .idle
  /-- Domains that a COLD or WARM reset put into reset, until each is released (R578). -/
  wide : List Domain := []
  /-- Trim loads of the present release that have failed (R572). -/
  trimFails : Nat := 0
  /-- Step 4 has ended; a SEC image was accepted (R563). -/
  secEnded : Bool := false
  secImage : Bool := false
  /-- Step 5 has ended (R563). -/
  mgmtEnded : Bool := false
  /-- The recovery flag (R28). -/
  recovery : Bool := false
  /-- The debug level armed for the next release, and the secure complex has granted a test unlock (R414). -/
  armed : Nat := 0
  /-- Level 3 runs this boot: the secure cores are halted (R415). -/
  halted : Bool := false
  /-- RESET_REQUESTs answered and not yet applied (R559). -/
  requested : List (Nat × ResetReq) := []
  /-- Programmed entries of the source map and of the pin map (R576): fuses. -/
  sourceFuses : FMap Nat Nat := []
  pinFuses : FMap Nat Nat := []
  /-- The pin map in force, once a fuse image has been loaded since VAON good (R572 to R574). -/
  pinMap : Option Nat := none
  /-- Stations whose functions are released and whose settings are still to be loaded (R578). -/
  loading : List Nat := []
  /-- Start of an eFuse program pulse in progress (R567), and the rollback fuses it programs: component, count before, count after. -/
  pulseAt : Option Nat := none
  pulseFuses : List (Nat × Nat × Nat) := []
  /-- Settings are to be loaded under R491 when the management firmware is ready. -/
  settingsDue : Bool := false
  /-- Flash address of a sector or block erase in progress (R569). -/
  erase : Option Nat := none
  /-- Headworks PLLs that have lost lock, whose domains are gated, with the times of their failed relocks (R587). -/
  relocks : FMap Nat (List Nat) := []
deriving DecidableEq, Repr

/-- The control of a station. -/
structure StationCtl where
  /-- SLEEP entry actions (true) or wake actions (false) are in progress (R33). -/
  moving : Option Bool := none
  /-- A write of 2 during the entry, or of 3 during the wake, is acted on at its end (R33). -/
  thenOther : Bool := false
  /-- The control core is out of reset. -/
  coreOn : Bool := false
  /-- A checked STN image lies in the firmware data region (R579). -/
  image : Bool := false
  /-- The functions are out of reset and configured. -/
  functionsOn : Bool := false
  /-- The next RUNNING is entered from FAULT or MEMORY_FAULT (R255). -/
  fromFault : Bool := false
  /-- The state before the last change, and the device time of that change (R34). -/
  since : Option (Nat × Nat) := none
  /-- Gated functions in OFF, whose clocks are stopped and whose edge-slice supply is off: 0 touch, 1 haptic, 2 audio (R577). -/
  unpowered : List Nat := []
deriving DecidableEq, Repr

end Sys2Proof.Machine
end

