-- ==== Sys2Proof/Machine/StateSecure.lean ====
section
/-! DEFINITION. State of the secure complex besides its objects, its memory and its keys (R383 to R415). -/
namespace Sys2Proof.Machine

/-- An enclave that is not EMPTY. -/
structure EnclaveCtl where
  /-- It has been entered at ENTRY_OFFSET; a later START resumes it (R391). -/
  entered : Bool := false
  /-- The message in `INBOX` that it has not taken (R398). -/
  inbox : Option Bytes := none
deriving DecidableEq, Repr

/-- An enclave lost in a restart, until its ranges are scrubbed: its number, its sponsor and its ranges (R410). -/
structure LostEnclave where
  e : Nat
  sponsor : Nat
  ranges : List Nat
deriving DecidableEq, Repr

/-- The secure complex. -/
structure Secure where
  enclaves : FMap Nat EnclaveCtl := []
  /-- The enclave each secure core runs; none for the secure firmware (R399). -/
  cores : List (Option Nat) := [none, none]
  lost : List LostEnclave := []
  /-- A restart is in progress: from a reset of SEC reach to the end of the scrub (R410). -/
  restarting : Bool := false
  /-- Device times of the watchdog expiries of the last 600 s, in the always-on domain (R411). -/
  expiries : List Nat := []
  /-- The nonce of the last `DEBUG_CHALLENGE` read, until it is replaced (R413). -/
  nonce : Option Bytes := none
  /-- Failures of `DEBUG_RESPONSE` in a row, and the time at which the lockout began (R413). -/
  fails : Nat := 0
  lockedAt : Option Nat := none
  /-- The nonce of the attestation report in progress (R387). -/
  attest : Option Bytes := none
  /-- Level 2 opens once every enclave is EMPTY (R414). -/
  unlocking : Bool := false
  /-- The debug levels that are open; `DEBUG_LEVEL` shows the highest (R414, R416). -/
  opened : List Nat := []
deriving DecidableEq, Repr

end Sys2Proof.Machine
end

