-- ==== Sys2Proof/Machine/StateUpdate.lean ====
section
/-! DEFINITION. State of the update engine: boot record, staging bank and progress (R522 to R550). -/
namespace Sys2Proof.Machine

/-- Where a step of the plan stands (R536, R537, R540 to R543). -/
inductive StepWait where
  /-- No step is in progress. -/
  | none
  /-- `STATION_GAP_MS` runs before the next step or swap. -/
  | gap
  /-- The SEC step waits until every enclave is EMPTY (R540). -/
  | sec
  /-- The step, or the swap of its station, runs. -/
  | run
deriving DecidableEq, Repr

/-- An accepted piece on its way to the staging bank (R532): its position must first be erased where `erase` is set. -/
structure PieceWrite where
  seq : Nat
  data : Bytes
  erase : Bool
deriving DecidableEq, Repr

/-- The handover record of R538, by its sections of types 2, 4 and 5: peers with their sequence records and cached responses, alarms with open
merge windows, and member states with heartbeat counts. What the others carry stands in the state through a reset of MGMT reach: the
update's progress in the boot record (R524), the energy split and the estimates (R444), the requests in the mailboxes (R24), and the
translations that start again (R57). -/
structure Handover where
  peers : FMap Nat Peer
  members : List (Nat × Nat × Nat)
  queue : EvQueue Alarm
  windows : List MergeWindow
  nextSeq : Nat
deriving DecidableEq, Repr

/-- The update engine. -/
structure Update where
  /-- Boot record: the CURRENT slot of a component, 0 for A and 1 for B, and its TRIAL slot during an update (R524). -/
  current : FMap Nat Nat := []
  trial : FMap Nat Nat := []
  /-- Ranks of the steps in plan order (R535). -/
  plan : List Nat := []
  /-- Index in the plan of the step in progress, or of the next one. -/
  index : Nat := 0
  /-- Stations whose swap of the present step is complete, counted from S0. -/
  swapped : Nat := 0
  /-- Of these, the stations swapped back while REVERTING (R545). -/
  reversed : Nat := 0
  wait : StepWait := .none
  /-- When the gap, or the swap in progress, began. -/
  since : Nat := 0
  /-- When TRIAL began. -/
  trialAt : Nat := 0
  /-- Management watchdog expiries since the reset of the MGMT step (R544). -/
  trialBoots : Nat := 0
  /-- Watchdog expiries of stations on new STN firmware during TRIAL (R544). -/
  stationBarks : Nat := 0
  /-- The first failure (R544), as the outcome of `UPDATE_RESULT`. -/
  failure : Option Nat := none
  /-- The settings bank in use before the update, and what it held (R546 to R548). -/
  oldBank : Option (Nat × List (Nat × GroupRec)) := none
  /-- `SCHEMA_VERSIONS` before the update (R547, R548). -/
  oldSchema : Option Bytes := none
  /-- The digest of the schema that the MGMT step in progress puts in force (R385). -/
  schemaDigest : Option Bytes := none
  /-- Pieces that wait for a page program (R532). -/
  writing : List PieceWrite := []
  /-- Contents of the staging bank by piece (flash, R523); a listed piece's position is not erased. -/
  staged : FMap Nat Bytes := []
  /-- VERIFYING has checked every digest, and copies the images (R536, R549). -/
  copying : Bool := false
  /-- Staging is erased in the background after CANCEL (R536). -/
  erasing : Bool := false
  /-- Images in the slots by component and slot: version (R525). -/
  slots : FMap (Nat × Nat) Nat := []
  /-- Components whose fuse program failed and is retried at each MGMT boot, with their target index (R546). -/
  fusesDue : FMap Nat Nat := []
  /-- The handover record in headworks SRAM (R538). -/
  handover : Option Handover := none
  /-- The MGMT reset in progress is that of an update step (R537). -/
  mgmtStep : Bool := false
deriving DecidableEq, Repr

end Sys2Proof.Machine
end

