-- ==== Sys2Proof/Machine/State.lean ====
section
/-! DEFINITION. The state of the block as plain data, its reset value, and the reasons a step can stop. -/
namespace Sys2Proof.Machine

/-- What a result object shows besides its value (R476). `status` is 1 READY, 2 PENDING or 3 FAILED. -/
structure ResultSt where
  generation : Nat := 0
  cause : Nat := 0
  overrun : Bool := false
  consumed : Bool := true
  status : Nat := 1
  /-- Who started the operation, for RESULT_READY (R484). -/
  starter : Option Requester := none
deriving DecidableEq, Repr

/-- A segmented write in progress (R472, R473). -/
structure BlobStage where
  who : Requester
  total : Nat
  data : Bytes
  lastAt : Nat
deriving DecidableEq, Repr

/-- Alarms in force, merge windows, the sequence, and the pending stores of R654. -/
structure AlarmState where
  /-- RAISED and not yet CLEARED: path, code and station with the severity (R518). -/
  raised : List (Nat × Nat × Nat × Nat) := []
  windows : List MergeWindow := []
  nextSeq : Nat := 0
  /-- Pending stores: key 0 to 7 the stations, 8 the rest of the device (R654). -/
  held : FMap Nat (List Alarm) := []
  lostHeld : Nat := 0
deriving DecidableEq, Repr

/-- The state of the block. -/
structure State where
  /-- Commands waiting, first in first out. -/
  pending : List Instr := []
  /-- The always-on supply is good (R27: without it the device is OFF). -/
  powered : Bool := false
  /-- Device time in ns (R514). -/
  time : Nat := 0
  /-- Active copies of every numeric object of the dictionary; an absent key reads its default. -/
  regs : FMap OKey Int := []
  /-- Shadows of RWC objects; an absent key reads the active copy (R459, R465). -/
  shadow : FMap OKey Int := []
  /-- Active copies of every STR and BLOB object; an absent key reads its default. -/
  blobs : FMap OKey Bytes := []
  /-- Shadows of RWC BLOBs. -/
  shadowBlobs : FMap OKey Bytes := []
  /-- BLOB revisions (R474). -/
  blobRev : FMap OKey Nat := []
  /-- Segmented writes in progress (R473). -/
  staging : FMap OKey BlobStage := []
  /-- Result objects by the key of their result subindex (R476 to R484). -/
  results : FMap OKey ResultSt := []
  settings : Settings := {}
  rst : ResetCtl := {}
  stn : FMap Nat StationCtl := []
  /-- Snapshots of result BLOBs and of error log rings in segmented reads (R482, R623). -/
  snapshots : List Snapshot := []
  /-- Subscriptions of BDA peers (R485 to R487). -/
  subscriptions : List Subscription := []
  /-- Lock states of the blocks; an absent block is NORMAL (R402). -/
  locks : FMap Block Lock := []
  /-- Station memory: byte `a` of station `n` is cell `n * 2 ^ 40 + a`; an unlisted byte reads 0 (assumption 5). -/
  mem : List Host.Cell := []
  /-- Ranges of cells, first and one past the last, whose contents are lost and undefined until written (R348). -/
  lostCells : List (Nat × Nat) := []
  /-- Words of 64 bits of memory marked poisoned, by cell number divided by 8 (R338, R340, R341). -/
  poison : List Nat := []
  /-- AES-XTS keys of the enclaves, in the crypto engine alone (R393). -/
  encKey : FMap Nat Bytes := []
  sec : Secure := {}
  net : Net := {}
  upd : Update := {}
  raster : FMap Nat Raster := []
  translator : Translator := {}
  energy : Energy := {}
  memc : FMap Nat MemCtl := []
  comp : FMap Nat Compositor := []
  guard : FMap Nat Guard := []
  disp : FMap Nat Display := []
  touch : FMap Nat Touch := []
  haptic : FMap Nat Haptic := []
  audio : FMap Nat Audio := []
  slices : FMap Nat Slice := []
  ports : FMap Nat HostPort := []
  cv : FMap Nat CvUnit := []
  /-- Ingress sluices of the stations: 32 descriptors each (R367). -/
  ingress : FMap Nat (List Descriptor) := []
  /-- Touch and notification queues of the tenants and of the enclaves (R606). -/
  touchQ : FMap Nat (EvQueue TouchRec) := []
  noteQ : FMap Nat (EvQueue Rec) := []
  encTouchQ : FMap Nat (EvQueue TouchRec) := []
  encNoteQ : FMap Nat (EvQueue Rec) := []
  /-- Haptic queues and log queues of the stations, the headworks log queue and the alarm queue (R606). -/
  hapticQ : FMap Nat (EvQueue Trigger) := []
  stationLogQ : FMap Nat (EvQueue Rec) := []
  hwLogQ : EvQueue Rec := {}
  alarmQ : EvQueue Alarm := {}
  alarms : AlarmState := {}
  /-- Error log rings: key 8 is the headworks ring, 0 to 7 the stations' (R621), oldest first. -/
  logRings : FMap Nat (List Rec) := []
  /-- The level each BDA peer holds, by its record number (R456, R502, R508). -/
  peerLevel : FMap Nat Level := []
  /-- What holds each mapped pin: by entry of the pin map (R575) and station, 8 for pins of the device; none without VAON. -/
  pins : FMap (Nat × Nat) PinState := []
  /-- Crossings with an item not yet acknowledged (R591). -/
  crossings : FMap CrossKey Crossing := []
  /-- Device time at which each delay began. -/
  timers : FMap Timer Nat := []
  /-- What has left the block, newest first. -/
  out : List Emission := []
  /-- How many free values have been drawn (the model's own counter, assumption 1). -/
  free : Nat := 0
deriving DecidableEq, Repr

/-- No command of this model ends in a fault: what goes wrong in the hardware is a state of it. The one name is kept
for an access that the spec says cannot be formed; safe. -/
inductive Fault where
  /-- An access outside the 40-bit address space of a station's memory. Raised by nothing a well-formed command asks
  for; safe. -/
  | noSuchAddress
deriving DecidableEq, Repr

/-- The reasons a command is refused. -/
inductive Refusal where
  /-- The command has no meaning in the model yet; raised by the dispatcher; safe. -/
  | notModelled (mnemonic : String)
deriving DecidableEq, Repr

/-- The block before VAON is good: OFF, every object at its default, nothing listed in memory, no command waiting. -/
def State.reset : State := {}

end Sys2Proof.Machine
end

