-- ==== Sys2Proof/Machine/Ops.lean ====
section
/-! DEFINITION. The named operations over objects, station memory, free values and what leaves the block. Every read and
write of an object or of memory goes through this file. -/
namespace Sys2Proof.Machine

/-! ### Objects -/

/-- The active copy of an object: station `n`, index offset `i`, tenant `t`, subindex offset `j` (R459). -/
def State.rd (s : State) (r : ObjRow) (n : Nat := 0) (i : Nat := 0) (t : Nat := 512) (j : Nat := 0) : Int :=
  (s.regs.find (r.key n i t j)).getD (r.dflt i j)

/-- The active copy as a natural number. -/
def State.rdN (s : State) (r : ObjRow) (n : Nat := 0) (i : Nat := 0) (t : Nat := 512) (j : Nat := 0) : Nat :=
  (s.rd r n i t j).toNat

/-- The active copy as a flag. -/
def State.rdB (s : State) (r : ObjRow) (n : Nat := 0) (i : Nat := 0) (t : Nat := 512) (j : Nat := 0) : Bool :=
  s.rd r n i t j != 0

/-- The shadow of an RWC object; the active copy where none was written (R459, R465). -/
def State.rdShadow (s : State) (r : ObjRow) (n : Nat := 0) (i : Nat := 0) (t : Nat := 512) (j : Nat := 0) : Int :=
  (s.shadow.find (r.key n i t j)).getD (s.rd r n i t j)

/-- The shadow as a natural number. -/
def State.rdShadowN (s : State) (r : ObjRow) (n : Nat := 0) (i : Nat := 0) (t : Nat := 512) (j : Nat := 0) : Nat :=
  (s.rdShadow r n i t j).toNat

/-- A saved value has changed: the times that decide the next save, and `SETTINGS_STATE` DIRTY unless a save or the load is in
progress (R490). -/
def State.noteSaved (s : State) : State :=
  let st := s.rdN Obj.SETTINGS_STATE
  { s with settings := { s.settings with firstChange := some (s.settings.firstChange.getD s.time), lastChange := s.time }
           regs := if st = 0 ∨ st = 3 then s.regs else s.regs.put (Obj.SETTINGS_STATE.key 0 0 512 0) 2 }

/-- A write of an object that is saved is noted (R490). -/
def State.noteChange (s : State) (r : ObjRow) : State := if r.saved then s.noteSaved else s

/-- Subscriptions count a change of the value that a read of an object returns (R486). -/
def State.noteSubs (s : State) (k : OKey) (changed : Bool) : State :=
  if changed then { s with subscriptions := s.subscriptions.map fun x => x.note k } else s

/-- The state with the active copy of an object replaced; a change of a saved object is noted, and counted by subscriptions (R486,
R490). -/
def State.wr (s : State) (r : ObjRow) (v : Int) (n : Nat := 0) (i : Nat := 0) (t : Nat := 512) (j : Nat := 0) : State :=
  (({ s with regs := s.regs.put (r.key n i t j) v } : State).noteChange r).noteSubs (r.key n i t j)
    (decide (r.acc ≠ .rwc) && decide (s.rd r n i t j ≠ v))

/-- `wr` of a flag. -/
def State.wrB (s : State) (r : ObjRow) (v : Bool) (n : Nat := 0) (i : Nat := 0) (t : Nat := 512) (j : Nat := 0) : State :=
  s.wr r (if v then 1 else 0) n i t j

/-- The state with the shadow of an RWC object written. -/
def State.wrShadow (s : State) (r : ObjRow) (v : Int) (n : Nat := 0) (i : Nat := 0) (t : Nat := 512) (j : Nat := 0) : State :=
  ({ s with shadow := s.shadow.put (r.key n i t j) v } : State).noteSubs (r.key n i t j) (decide (s.rdShadow r n i t j ≠ v))

/-- The width in bits of an unsigned object. -/
def ObjRow.width (r : ObjRow) : Nat :=
  match r.ty with
  | .bool => 1
  | .u8 | .i8 => 8
  | .u16 | .i16 => 16
  | .u32 | .i32 | .f32 => 32
  | .u64 | .i64 | .str | .blob | .domain => 64

/-- A saturating counter raised by `by_` (R619). -/
def State.count (s : State) (r : ObjRow) (n : Nat := 0) (i : Nat := 0) (t : Nat := 512) (j : Nat := 0) (by_ : Nat := 1) : State :=
  s.wr r (satInc r.width (s.rdN r n i t j) by_) n i t j

/-- A wrapping sequence raised by 1 (R617). -/
def State.advance (s : State) (r : ObjRow) (n : Nat := 0) (i : Nat := 0) (t : Nat := 512) (j : Nat := 0) : State :=
  s.wr r (wrapInc r.width (s.rdN r n i t j)) n i t j

/-- An object of 64-bit total raised by an amount (R617: never reached; the value is kept in 64 bits). -/
def State.total (s : State) (r : ObjRow) (amount : Nat) (n : Nat := 0) (i : Nat := 0) (t : Nat := 512) (j : Nat := 0) : State :=
  s.wr r (((s.rdN r n i t j + amount) % 2 ^ 64 : Nat)) n i t j

/-- The default content of a BLOB or STR object: the identity LUTs of R114 and R117, the identity matrix of R115, zeros for
the measurements of R416, the strings of R497, and empty otherwise. Before the trim load brings what is fused, `ORDERING_CODE` reads
PX8-440-C: DESIGN CHOICE (assumption 14). -/
def blobDefault (r : ObjRow) : Bytes :=
  let str (t : String) : Bytes := t.toList.map fun c => BitVec.ofNat 8 c.toNat
  if r = Obj.OUTPUT_LUT then
    ((List.range 3).map fun _ => ((List.range 1024).map fun i => toLE 2 i).flatten).flatten
  else if r = Obj.PRE_LUT ∨ r = Obj.POST_LUT then
    ((List.range 3).map fun _ => ((List.range 257).map fun i => toLE 2 (min (i * 256) 65535)).flatten).flatten
  else if r = Obj.MATRIX then
    ([4096, 0, 0, 0, 4096, 0, 0, 0, 4096, 0, 0, 0, 0, 0, 0].map (toLE 2)).flatten
  else if r = Obj.MEASUREMENT then List.replicate 48 0
  else if r = Obj.VENDOR then str "Mehroon Integrated"
  else if r = Obj.PART then str "PX8"
  else if r = Obj.SILICON_REVISION then str "B1"
  else if r = Obj.ORDERING_CODE then str "PX8-440-C"
  else if r = Obj.DEVICE_IDENTITY then List.replicate 48 0
  else if r = Obj.SCHEMA_VERSIONS then List.replicate 512 0
  else if r = Obj.INSTALLED_RANGES then List.replicate 200 0
  else if r = Obj.SOURCE_MAP then toLE 8 0x0320075556220200
  else if r = Obj.PIN_MAP then toLE 9 0x4924A00600986DB6DB
  else []

/-- The active content of a BLOB or STR object. -/
def State.blob (s : State) (r : ObjRow) (n : Nat := 0) (i : Nat := 0) (t : Nat := 512) (j : Nat := 0) : Bytes :=
  (s.blobs.find (r.key n i t j)).getD (blobDefault r)

/-- The part is an extended-temperature one: its ordering code ends in E (R1, R450). -/
def State.isExtended (s : State) : Bool := (s.blob Obj.ORDERING_CODE).getLast? = some 0x45

/-- The active copy of an object, where its default depends on the device too: `TJ_SOFT_C` by the ordering code (R450),
`PTP_PRIORITY1` by root, sub-manager or worker (R515). -/
def State.rdAs (s : State) (r : ObjRow) (n : Nat := 0) (i : Nat := 0) (t : Nat := 512) (j : Nat := 0) : Int :=
  match s.regs.find (r.key n i t j) with
  | some v => v
  | none =>
    if r = Obj.TJ_SOFT_C then (if s.isExtended then 100 else 95)
    else if r = Obj.PTP_PRIORITY1 then
      (if s.rd Obj.ROLE = 2 then 255 else if s.rd Obj.DEVICE_PATH = 0xFFFFFFFF then 246 else 248)
    else r.dflt i j

/-- The shadow of an RWC BLOB. -/
def State.blobShadow (s : State) (r : ObjRow) (n : Nat := 0) (i : Nat := 0) (t : Nat := 512) (j : Nat := 0) : Bytes :=
  (s.shadowBlobs.find (r.key n i t j)).getD (s.blob r n i t j)

/-- The state with the content of a BLOB replaced and its revision raised (R474). -/
def State.wrBlob (s : State) (r : ObjRow) (b : Bytes) (n : Nat := 0) (i : Nat := 0) (t : Nat := 512) (j : Nat := 0) : State :=
  let k := r.key n i t j
  ({ s with blobs := s.blobs.put k b, blobRev := s.blobRev.put k (wrapInc 16 (s.blobRev.getD k 0)) } : State).noteChange r

/-- RWC objects of one instance of a station take effect: every shadow becomes active (R465). -/
def State.commitRow (s : State) (r : ObjRow) (n : Nat) : State :=
  (List.range r.cnt).foldl (fun (s : State) i => (List.range r.nsub).foldl (fun (s : State) j =>
    match s.shadow.find (r.key n i 512 j) with
    | some v => s.wr r v n i 512 j
    | none => s) s) s

/-- The values that a commit of some rows takes from the shadows: row, instance, subindex and value (R465). -/
def State.commitValues (s : State) (rows : List ObjRow) (n : Nat) : List (Nat × Nat × Nat × Int) :=
  rows.zipIdx.flatMap fun r => (List.range r.1.cnt).flatMap fun i => (List.range r.1.nsub).filterMap fun j =>
    (s.shadow.find (r.1.key n i 512 j)).map fun v => (r.2, i, j, v)

/-- Values taken by a commit become active. -/
def State.applyValues (s : State) (rows : List ObjRow) (n : Nat) (l : List (Nat × Nat × Nat × Int)) : State :=
  l.foldl (fun (s : State) v => match rows[v.1]? with
    | some r => s.wr r v.2.2.2 n v.2.1 512 v.2.2.1
    | none => s) s

/-- The explicit shadows of a row are dropped: they equal the active copies (R465). -/
def State.dropShadow (s : State) (r : ObjRow) (n : Nat) (i : Nat := 0) (j : Nat := 0) : State :=
  { s with shadow := s.shadow.del (r.key n i 512 j) }

/-- A row's instance returns to its default, its shadow with it. -/
def State.toDefault (s : State) (r : ObjRow) (n : Nat := 0) (i : Nat := 0) (t : Nat := 512) (j : Nat := 0) : State :=
  { s with regs := s.regs.put (r.key n i t j) (r.dflt i j), shadow := s.shadow.del (r.key n i t j) }

/-! ### Free values, time and emissions -/

/-- A free value below `m` (assumption 1): the value is the opaque `Config.freeNat` at the counter, and the counter
advances. -/
def State.drawNat (s : State) (m : Nat) : Nat × State :=
  (Config.freeNat s.free % m, { s with free := s.free + 1 })

/-- `k` free bytes. -/
def State.drawBytes (s : State) (k : Nat) : Bytes × State :=
  ((List.range k).map fun i => Config.freeByte (s.free + i), { s with free := s.free + k })

/-- The state after something has left the block. -/
def State.emit (s : State) (e : Emission) : State := { s with out := e :: s.out }

/-- A delay begins. -/
def State.startTimer (s : State) (k : Timer) : State := { s with timers := s.timers.put k s.time }

/-- So many nanoseconds have passed since the delay began; one that never began has passed. -/
def State.passed (s : State) (k : Timer) (ns : Nat) : Bool :=
  match s.timers.find k with
  | some t => t + ns ≤ s.time
  | none => true

/-! ### Crossings -/

/-- The acknowledge of the item in flight is back: by its time, and within the window of the crossing at will, for where in a cycle of device
time the two clocks stand is free (R590, assumption 1). -/
def State.acknowledged (s : State) (k : CrossKey) (c : Crossing) : Bool × State :=
  let (lo, hi) := k.window
  if s.time < c.sentAt + lo then (false, s)
  else if c.sentAt + hi ≤ s.time then (true, s)
  else
    let (b, s) := s.drawNat 2
    (b = 1, s)

/-- An item enters a crossing: it is sent, or held while the one before it is not acknowledged; it then takes the place of one held
already. Answers whether it merged with or replaced one (R591). -/
def State.cross (s : State) (k : CrossKey) (v : Nat) : Bool × State :=
  let put (s : State) (c : Crossing) : State := { s with crossings := s.crossings.put k c }
  let fresh : Crossing := { sentAt := s.time, value := v }
  match s.crossings.find k with
  | none => (false, put s fresh)
  | some c =>
    match s.acknowledged k c with
    | (false, s) => (c.held.isSome, put s { c with held := some v })
    | (true, s) =>
      match c.held with
      | none => (false, put s fresh)
      | some h =>
        let c : Crossing := { sentAt := s.time, value := h }
        match s.acknowledged k c with
        | (true, s) => (false, put s fresh)
        | (false, s) => (false, put s { c with held := some v })

/-- Acknowledges return as device time passes, and what was held is sent (R591). -/
def State.settleCrossings (s : State) : State :=
  { s with crossings := s.crossings.filterMap fun (k, c) =>
      if s.time < c.sentAt + k.window.2 then some (k, c) else c.held.map fun h => (k, { sentAt := s.time, value := h }) }

/-- What is in flight to or from a domain that stops is discarded (R594). -/
def State.dropCrossings (s : State) (mine : CrossKey → Bool) : State :=
  { s with crossings := s.crossings.filter fun e => !mine e.1 }

/-- The clocks of a headworks PLL's domains are gated until it has relocked: 0 management, 1 secure, 2 fabric (R587). -/
def State.hwGated (s : State) (k : Nat) : Bool := (s.rst.relocks.find k).isSome

/-- What the management firmware does stands still while its clock is gated (R587). -/
def State.firmware (s : State) (f : State → State) : State := if s.hwGated 0 then s else f s

/-- A level driven on a pin that the pin map does not cover. -/
def State.pin (s : State) (name : String) (level : Bool) (n : Nat := 0) : State := s.emit (.pin name n level)

/-- What holds the pins of an entry of the pin map from now on (R573, R574). -/
def State.hold (s : State) (e : Nat) (v : PinState) (n : Nat := 8) : State := { s with pins := s.pins.put (e, n) v }

/-- A function drives the pins of an entry to a level (R574). -/
def State.drive (s : State) (e : Nat) (level : Bool) (n : Nat := 8) : State :=
  (s.hold e (if level then .high else .low) n).emit (.pin (pinName e) n level)

/-- The state of a mapped pin while its owner is in reset: that of the pin map in force; fixed before the first fuse image is loaded
(R573 to R575). -/
def State.mapped (s : State) (e : Nat) : PinState :=
  match s.rst.pinMap with
  | some m => .ofCode (bits (3 * e + 2) (3 * e) m)
  | none => if e = 13 || e = 17 then .pullUp else if e = 15 || e = 16 then .hiZ else .pullDown

/-- The entries of the pin map that a domain owns, and the station of their pins (R575). -/
def Domain.pins : Domain → List Nat × Nat
  | .func n => (List.range 13, n)
  | .net => ([13, 14], 8)
  | .aon => ([15, 16, 17], 8)
  | .supplies | .trim | .sec | .mgmt | .port _ | .memc _ | .core _ => ([], 8)

/-- The pins of a domain take their pin-map state (R574). -/
def State.pinsReset (s : State) (d : Domain) : State := d.pins.1.foldl (fun (s : State) e => s.hold e (s.mapped e) d.pins.2) s

/-- The pins that a function drives with its own waveform while it runs; they return to their pin-map state when it stops. DESIGN CHOICE:
assumption 148. -/
def State.wave (s : State) (e : Nat) (on : Bool) (n : Nat := 8) : State := s.hold e (if on then .wave else s.mapped e) n

/-! ### Station memory -/

/-- The bytes of one station's address space: 40-bit addresses (R361). -/
def stationSpan : Nat := 2 ^ 40

/-- The cell of an address of a station. -/
def cellOf (n addr : Nat) : Nat := n * stationSpan + addr

/-- What an unlisted byte reads as (R331 fills with zeros; assumption 5). -/
def memDefault : Byte := 0

/-- Read of one cell. -/
def memGet : List Host.Cell → Nat → Byte
  | [], _ => memDefault
  | (k, v) :: rest, a => if a = k then v else if a < k then memDefault else memGet rest a

/-- Write of one cell, keeping the canonical form: rising addresses, no entry equal to the default. -/
def memSet : List Host.Cell → Nat → Byte → List Host.Cell
  | [], a, b => if b = memDefault then [] else [(a, b)]
  | (k, v) :: rest, a, b =>
    if a = k then (if b = memDefault then rest else (a, b) :: rest)
    else if a < k then (if b = memDefault then (k, v) :: rest else (a, b) :: (k, v) :: rest)
    else (k, v) :: memSet rest a b

/-- Write of consecutive cells. -/
def memSetBytes (m : List Host.Cell) (a : Nat) : Bytes → List Host.Cell
  | [] => m
  | b :: bs => memSetBytes (memSet m a b) (a + 1) bs

/-- The contents of a cell are lost and undefined until it is written (R348). -/
def State.isLost (s : State) (c : Nat) : Bool := s.lostCells.any fun r => decide (r.1 ≤ c) && decide (c < r.2)

/-- The byte at an address of a station: where its contents are lost a free value, which may differ from read to read
(assumption 1). -/
def State.byte (s : State) (n addr : Nat) : Byte :=
  let c := cellOf n addr
  if s.isLost c then Config.lostByte c s.free else memGet s.mem c

/-- `k` bytes of a station from an address. -/
def State.load (s : State) (n addr k : Nat) : Bytes := (List.range k).map fun i => s.byte n (addr + i)

/-- A little-endian number of `k` bytes in a station's memory (R10). -/
def State.loadLE (s : State) (n addr k : Nat) : Nat := ofLE (s.load n addr k)

/-- Ranges without the cells from `a` to below `e`. -/
def cutRanges (a e : Nat) (l : List (Nat × Nat)) : List (Nat × Nat) :=
  l.flatMap fun r => (if r.1 < min r.2 a then [(r.1, min r.2 a)] else []) ++ (if max r.1 e < r.2 then [(max r.1 e, r.2)] else [])

/-- Bytes written to a station's memory, unchecked: the checks of windows and owner tags stand before it. -/
def State.store (s : State) (n addr : Nat) (b : Bytes) : State :=
  let a := cellOf n addr
  { s with mem := memSetBytes s.mem a b, lostCells := cutRanges a (a + b.length) s.lostCells }

/-- The canonical form of memory from a least address on: rising addresses, no entry equal to the default. -/
def memWfFrom : Nat → List Host.Cell → Bool
  | _, [] => true
  | lo, (k, v) :: rest => decide (lo ≤ k) && decide (v ≠ memDefault) && memWfFrom (k + 1) rest

/-- The canonical form of memory. -/
def Memory.wf (m : List Host.Cell) : Bool := memWfFrom 0 m

/-- Every byte of a station's memory returned to the default (R29, R351: contents lost; assumption 5). -/
def State.eraseMem (s : State) (n : Nat) : State :=
  { s with mem := s.mem.filter fun c => ¬ (n * stationSpan ≤ c.1 ∧ c.1 < (n + 1) * stationSpan),
           lostCells := cutRanges (n * stationSpan) ((n + 1) * stationSpan) s.lostCells }

/-! ### Engines -/

def State.ras (s : State) (n : Nat) : Raster := s.raster.getD n {}
def State.setRas (s : State) (n : Nat) (v : Raster) : State := { s with raster := s.raster.put n v }
def State.cmp (s : State) (n : Nat) : Compositor := s.comp.getD n {}
def State.setCmp (s : State) (n : Nat) (v : Compositor) : State := { s with comp := s.comp.put n v }
def State.grd (s : State) (n : Nat) : Guard := s.guard.getD n {}
def State.setGrd (s : State) (n : Nat) (v : Guard) : State := { s with guard := s.guard.put n v }
def State.dsp (s : State) (n : Nat) : Display := s.disp.getD n {}
def State.setDsp (s : State) (n : Nat) (v : Display) : State := { s with disp := s.disp.put n v }

def State.tch (s : State) (n : Nat) : Touch := s.touch.getD n {}
def State.setTch (s : State) (n : Nat) (v : Touch) : State := { s with touch := s.touch.put n v }

def State.hap (s : State) (n : Nat) : Haptic := s.haptic.getD n {}
def State.setHap (s : State) (n : Nat) (v : Haptic) : State := { s with haptic := s.haptic.put n v }

def State.ctl (s : State) (n : Nat) : StationCtl := s.stn.getD n {}
def State.setCtl (s : State) (n : Nat) (v : StationCtl) : State := { s with stn := s.stn.put n v }

def State.mmc (s : State) (n : Nat) : MemCtl := s.memc.getD n {}
def State.setMmc (s : State) (n : Nat) (v : MemCtl) : State := { s with memc := s.memc.put n v }

def State.aud (s : State) (n : Nat) : Audio := s.audio.getD n {}
def State.setAud (s : State) (n : Nat) (v : Audio) : State := { s with audio := s.audio.put n v }

def State.slc (s : State) (t : Nat) : Slice := s.slices.getD t {}
def State.setSlc (s : State) (t : Nat) (v : Slice) : State := { s with slices := s.slices.put t v }
def State.prt (s : State) (p : Nat) : HostPort := s.ports.getD p {}
def State.setPrt (s : State) (p : Nat) (v : HostPort) : State := { s with ports := s.ports.put p v }

def State.cvu (s : State) (u : Nat) : CvUnit := s.cv.getD u {}
def State.setCvu (s : State) (u : Nat) (v : CvUnit) : State := { s with cv := s.cv.put u v }

/-- The lock record of a block; NORMAL where none is listed (R402). -/
def State.lock (s : State) (b : Block) : Lock := s.locks.getD b {}

/-- Whether a block is NORMAL. -/
def State.isNormal (s : State) (b : Block) : Bool := (s.lock b).st = .normal

/-- Fold over a list of items, threading the state. -/
def State.each {α : Type} (s : State) (l : List α) (f : State → α → State) : State := l.foldl f s

end Sys2Proof.Machine
end

