-- ==== Sys2Proof/Machine/Queues.lean ====
section
/-! DEFINITION. Event queues (R606 to R613), records (R614, R615), notifications, logs and alarms (R516 to R518, R654). -/
namespace Sys2Proof.Machine

/-! ### Banks -/

/-- The items of a queue with their ages. -/
def EvQueue.items {α : Type} (q : EvQueue α) : List (Nat × α) := q.drain ++ q.fill

/-- How many items a queue stores. -/
def EvQueue.size {α : Type} (q : EvQueue α) : Nat := q.drain.length + q.fill.length

/-- The better of two aged items: the higher priority, then the older (R607). -/
def better {α : Type} (prio : α → Nat) (a b : Nat × α) : Nat × α :=
  if prio a.2 > prio b.2 then a else if prio a.2 < prio b.2 then b else if a.1 ≤ b.1 then a else b

/-- The item a small queue would return next from a bank (R607). -/
def bestOf {α : Type} (prio : α → Nat) : List (Nat × α) → Option (Nat × α)
  | [] => none
  | x :: rest => some (rest.foldl (better prio) x)

/-- The item lost first: the lowest priority, then the oldest (R609). -/
def worse {α : Type} (prio : α → Nat) (a b : Nat × α) : Nat × α :=
  if prio a.2 < prio b.2 then a else if prio a.2 > prio b.2 then b else if a.1 ≤ b.1 then a else b

/-- The oldest item of the lowest priority of a list (R609). -/
def worstOf {α : Type} (prio : α → Nat) : List (Nat × α) → Option (Nat × α)
  | [] => none
  | x :: rest => some (rest.foldl (worse prio) x)

/-- The highest priority in a bank, plus 1; 0 for an empty bank. -/
def topPrio {α : Type} (prio : α → Nat) (l : List (Nat × α)) : Nat := l.foldl (fun m x => max m (prio x.2 + 1)) 0

/-- The bank without the item of an age. -/
def dropAge {α : Type} (a : Nat) (l : List (Nat × α)) : List (Nat × α) := l.filter fun x => x.1 ≠ a

/-- The swap test of a small queue (R608). -/
def EvQueue.swapSmall {α : Type} (prio : α → Nat) (q : EvQueue α) : EvQueue α :=
  if q.fill.isEmpty then q
  else if q.drain.isEmpty || topPrio prio q.fill > topPrio prio q.drain then
    { q with drain := q.fill, fill := q.drain }
  else q

/-- Arrival of an item at a small queue of `cap` places: loss, storage, swap test (R609, R611). Answers the queue and
whether an item was lost. -/
def EvQueue.putSmall {α : Type} (prio : α → Nat) (cap : Nat) (q : EvQueue α) (x : α) : EvQueue α × Bool :=
  let e := (q.nextAge, x)
  if q.size < cap then
    (({ q with fill := q.fill ++ [e], nextAge := q.nextAge + 1 } : EvQueue α).swapSmall prio, false)
  else
    match worstOf prio (q.items ++ [e]) with
    | none => (q, true)
    | some w =>
      if w.1 = e.1 then (({ q with nextAge := q.nextAge + 1 } : EvQueue α).swapSmall prio, true)
      else
        (({ drain := dropAge w.1 q.drain, fill := dropAge w.1 q.fill ++ [e], nextAge := q.nextAge + 1 } :
          EvQueue α).swapSmall prio, true)

/-- The item a small queue returns next, unread (R607). -/
def EvQueue.peekSmall {α : Type} (prio : α → Nat) (q : EvQueue α) : Option α :=
  (bestOf prio q.drain).map (·.2)

/-- A read of a small queue removes its next item; the swap conditions are then tested (R607, R611). -/
def EvQueue.takeSmall {α : Type} (prio : α → Nat) (q : EvQueue α) : Option α × EvQueue α :=
  match bestOf prio q.drain with
  | none => (none, q)
  | some w => (some w.2, ({ q with drain := dropAge w.1 q.drain } : EvQueue α).swapSmall prio)

/-- The swap test of a large queue (R610). -/
def EvQueue.swapLarge {α : Type} (q : EvQueue α) : EvQueue α :=
  if q.drain.isEmpty then { q with drain := q.fill, fill := [] } else q

/-- Arrival at a large queue: the oldest stored item is lost where the queue is full (R610, R611). -/
def EvQueue.putLarge {α : Type} (cap : Nat) (q : EvQueue α) (x : α) : EvQueue α × Bool :=
  let e := (q.nextAge, x)
  if q.size < cap then
    (({ q with fill := q.fill ++ [e], nextAge := q.nextAge + 1 } : EvQueue α).swapLarge, false)
  else
    let q' : EvQueue α :=
      match q.drain, q.fill with
      | _ :: d, f => { q with drain := d, fill := f ++ [e], nextAge := q.nextAge + 1 }
      | [], _ :: f => { q with fill := f ++ [e], nextAge := q.nextAge + 1 }
      | [], [] => { q with nextAge := q.nextAge + 1 }
    (q'.swapLarge, true)

/-- A read of a large queue in arrival order (R610). -/
def EvQueue.takeLarge {α : Type} (q : EvQueue α) : Option α × EvQueue α :=
  match q.drain with
  | [] => (none, q)
  | x :: d => (some x.2, ({ q with drain := d } : EvQueue α).swapLarge)

/-! ### Records -/

/-- The 160 payload bits of a record: fields packed from bit 159 downward (R614). -/
def packFields (fs : List (Nat × Nat)) : Nat :=
  (fs.foldl (fun (acc : Nat × Nat) f => (acc.1 + (f.1 % 2 ^ f.2) * 2 ^ (acc.2 - f.2), acc.2 - f.2)) (0, 160)).1

/-- A record as its 256-bit number (R614). -/
def Rec.number (r : Rec) : Nat :=
  (r.time % 2 ^ 64) * 2 ^ 192 + (r.code % 2 ^ 16) * 2 ^ 176 + (r.prio % 4) * 2 ^ 174 + (r.station % 16) * 2 ^ 170
    + (r.tenant % 512) * 2 ^ 161 + packFields r.fields

/-- A record as the 32 bytes written to memory (R614, R10). -/
def Rec.encode (r : Rec) : Bytes := toLE 32 r.number

/-- A touch record as its 256-bit number (R247). -/
def TouchRec.number (r : TouchRec) : Nat :=
  (r.time % 2 ^ 64) * 2 ^ 192 + (r.seq % 2 ^ 16) * 2 ^ 176 + (r.amplitude % 2 ^ 16) * 2 ^ 160 + (r.x % 2 ^ 16) * 2 ^ 144
    + (r.y % 2 ^ 16) * 2 ^ 128 + (r.id % 256) * 2 ^ 120 + (r.areaNodes % 256) * 2 ^ 112 + (r.kind % 16) * 2 ^ 108
    + (r.cls % 4) * 2 ^ 106 + (r.prio % 4) * 2 ^ 104 + (r.zone % 16) * 2 ^ 100 + (r.station % 8) * 2 ^ 97
    + (r.detail % 2 ^ 32) * 2 ^ 64 + (r.frame % 2 ^ 32) * 2 ^ 32

/-- A touch record as the 32 bytes written to memory (R247, R10). -/
def TouchRec.encode (r : TouchRec) : Bytes := toLE 32 r.number

/-- A record of the present device time. -/
def State.mkRec (s : State) (code prio station tenant : Nat) (fields : List (Nat × Nat)) : Rec :=
  { time := s.time, code := code, prio := prio, station := station, tenant := tenant, fields := fields }

/-- No tenant in a record (R614). -/
def noTenant : Nat := 0x1FF

/-- No station in a record (R614). -/
def noStation : Nat := 0xF

/-! ### Arrival at the queues of R606 -/

/-- The item count of a tenant's queues kept in `7.1000` (R616). -/
def State.countTenantItems (s : State) (t : Nat) : State :=
  (s.wr Obj.TOUCH_ITEMS (((s.touchQ.getD t {}).size : Nat)) 0 0 t).wr Obj.NOTIFY_ITEMS (((s.noteQ.getD t {}).size : Nat)) 0 0 t

/-- Arrival of a notification at a tenant's queue of 32 places (R606, R612). -/
def State.toTenant (s : State) (t : Nat) (r : Rec) : State :=
  let (q, lost) := (s.noteQ.getD t {}).putSmall Rec.prio 32 r
  let s := { s with noteQ := s.noteQ.put t q }
  (if lost then s.count Obj.NOTIFY_LOST 0 0 t else s).countTenantItems t

/-- Arrival of a touch record at a tenant's queue of 64 places (R606, R612). -/
def State.touchToTenant (s : State) (t : Nat) (r : TouchRec) : State :=
  let (q, lost) := (s.touchQ.getD t {}).putSmall TouchRec.prio 64 r
  let s := { s with touchQ := s.touchQ.put t q }
  (if lost then s.count Obj.TOUCH_LOST 0 0 t else s).countTenantItems t

/-- Whether an enclave has its queues: it is not EMPTY (R396). -/
def State.enclaveAlive (s : State) (e : Nat) : Bool := s.rdN Obj.ENCLAVE_STATE 0 e ≠ 0

/-- Arrival of a notification at an enclave's queue (R396). -/
def State.toEnclave (s : State) (e : Nat) (r : Rec) : State :=
  if s.enclaveAlive e then
    let (q, lost) := (s.encNoteQ.getD e {}).putSmall Rec.prio 32 r
    let s := { s with encNoteQ := s.encNoteQ.put e q }
    if lost then s.count Obj.ENCLAVE_NOTIFY_LOST 0 e else s
  else s

/-- Arrival of a touch record at an enclave's queue (R396). -/
def State.touchToEnclave (s : State) (e : Nat) (r : TouchRec) : State :=
  if s.enclaveAlive e then
    let (q, lost) := (s.encTouchQ.getD e {}).putSmall TouchRec.prio 64 r
    let s := { s with encTouchQ := s.encTouchQ.put e q }
    if lost then s.count Obj.ENCLAVE_TOUCH_LOST 0 e else s
  else s

/-- Arrival at a station's log queue of 4,096 places (R606, R610). -/
def State.toStationLog (s : State) (n : Nat) (r : Rec) : State :=
  let (q, lost) := (s.stationLogQ.getD n {}).putLarge 4096 r
  let s := ({ s with stationLogQ := s.stationLogQ.put n q } : State).wr Obj.STATION_LOG_ITEMS ((q.size : Nat)) 0 n
  if lost then s.count Obj.STATION_LOG_LOST 0 n else s

/-- Arrival at the headworks log queue of 4,096 places (R606, R610). -/
def State.toHwLog (s : State) (r : Rec) : State :=
  let (q, lost) := s.hwLogQ.putLarge 4096 r
  let s := ({ s with hwLogQ := q } : State).wr Obj.HW_LOG_ITEMS ((q.size : Nat))
  if lost then s.count Obj.HW_LOG_LOST else s

/-- A record to the holder of a block or set: a slice's queue, an enclave's, the station's log queue where the manager
holds it (R656), nobody's otherwise. -/
def State.toHolder (s : State) (n : Nat) (h : Holder) (r : Rec) : State :=
  match h with
  | .tenant t => s.toTenant t { r with tenant := t }
  | .enclave e => s.toEnclave e r
  | .manager => s.toStationLog n r
  | .nobody => s

/-! ### Alarms -/

/-- Severity of an alarm code (R516). -/
def alarmSeverity : Nat → Nat
  | 1 | 2 | 3 | 4 => 3
  | 5 | 6 | 7 | 8 | 9 | 12 | 14 | 17 | 18 | 19 | 20 | 21 | 24 => 2
  | _ => 1

/-- Whether an alarm is a plain event, without a RAISED and a CLEARED state (R516). -/
def alarmIsEvent (code : Nat) : Bool := [1, 2, 10, 11, 15, 16, 18, 19, 23].contains code

/-- Alarms in force of a severity: RAISED and not CLEARED, and EVENTs not acknowledged (R518). -/
def State.alarmsInForce (s : State) (sev : Nat) : Nat :=
  (s.alarms.raised.filter fun a => a.2.2.2 = sev).length
    + (s.alarmQ.items.filter fun e => e.2.severity = sev && e.2.st = 0).length

/-- `ALARM_SUMMARY` and the level of ALARM_N brought up to date (R518). -/
def State.alarmSummary (s : State) : State :=
  let s := s.each (List.range 4) fun s k => s.wr Obj.ALARM_SUMMARY ((s.alarmsInForce k : Nat)) 0 0 512 k
  let low := (List.range 4).any fun k => s.rdN Obj.ALARM_PIN_SEVERITY ≤ k && s.alarmsInForce k > 0
  s.drive 15 (!low)

/-- Whether the headworks queues take records: QUEUES of READY_HEADWORKS (R654). -/
def State.hwQueuesReady (s : State) : Bool := bit 15 (s.rdN Obj.READY_HEADWORKS)

/-- The peers subscribed to `4.5000` (R517). -/
def State.alarmPeers (s : State) : List PeerId :=
  (s.subscriptions.filter fun x => x.key.area = 4 && x.key.idx = 0x5000).map (·.peer)

/-- A record enters the alarm queue with the queue's next SEQ and is sent to the manager and to each peer subscribed to `4.5000` (R517,
R518). -/
def State.enterAlarm (s : State) (a : Alarm) : State :=
  let a := { a with seq := s.alarms.nextSeq % 65536 }
  let (q, lost) := s.alarmQ.putLarge 1024 a
  let s := ({ s with alarmQ := q, alarms := { s.alarms with nextSeq := wrapInc 16 s.alarms.nextSeq } } : State).wr
    Obj.ALARM_ITEMS ((q.size : Nat))
  let s := if lost then s.count Obj.ALARM_LOST else s
  (s.emit (.alarm a s.alarmPeers)).alarmSummary

/-- Whether two records are of one kind (R517). -/
def MergeWindow.is (w : MergeWindow) (a : Alarm) : Bool :=
  w.path = a.path && w.code = a.code && w.station = a.station && w.st = a.st

/-- A record under R517: the first of a kind enters at once and opens a window, an equal one within the window is merged. -/
def State.mergeAlarm (s : State) (a : Alarm) : State :=
  match s.alarms.windows.find? (fun w => w.is a) with
  | some w =>
    let m : Alarm := match w.merged with
      | none => a
      | some p => { a with count := min (p.count + a.count) 65535 }
    let ws := s.alarms.windows.map fun v => if v.is a then { v with merged := some m } else v
    { s with alarms := { s.alarms with windows := ws } }
  | none =>
    let s := s.enterAlarm a
    if s.rdN Obj.ALARM_MERGE_MS = 0 then s
    else { s with alarms := { s.alarms with windows := s.alarms.windows ++ [⟨a.path, a.code, a.station, a.st, s.time, none⟩] } }

/-- The alarms in force follow a RAISED or a CLEARED record (R518). -/
def State.noteInForce (s : State) (a : Alarm) : State :=
  let k := (a.path, a.code, a.station, a.severity)
  let rest := s.alarms.raised.filter (· ≠ k)
  if a.st = 1 then { s with alarms := { s.alarms with raised := rest ++ [k] } }
  else if a.st = 2 then { s with alarms := { s.alarms with raised := rest } }
  else s

/-- A record raised while the queue cannot take it waits in its domain's pending store of 16 (R654). -/
def State.holdAlarm (s : State) (a : Alarm) : State :=
  let key := if a.station < 8 then a.station else 8
  let l := s.alarms.held.getD key []
  let full := l.length ≥ 16
  let l := (if full then l.drop 1 else l) ++ [a]
  { s with alarms := { s.alarms with held := s.alarms.held.put key l,
                                     lostHeld := s.alarms.lostHeld + (if full then 1 else 0) } }

/-- Network time of a record: device time plus the offset of R514. -/
def State.networkTime (s : State) : Nat := ((s.time : Int) + s.rd Obj.NETWORK_OFFSET_NS).toNat

/-- The PATH of this device's records: that of `DEVICE_PATH`, and the root's of a manager without one (R510, R516). -/
def State.alarmPath (s : State) : Nat :=
  if s.rdN Obj.DEVICE_PATH = 0xFFFFFFFF && s.rdN Obj.ROLE = 1 then 0 else s.rdN Obj.DEVICE_PATH

/-- The key of this device's own alarms in force, which hold whatever path the device has or takes. -/
def ownAlarms : Nat := 0xFFFFFFFF

/-- An alarm of this device: state 0 EVENT, 1 RAISED or 2 CLEARED (R516, R517). -/
def State.alarm (s : State) (code st station detail : Nat) : State :=
  let a : Alarm := { path := s.alarmPath, code := code, severity := alarmSeverity code, station := station,
                     st := st, count := 1, time := s.networkTime, detail := detail, seq := 0 }
  let s := s.noteInForce { a with path := ownAlarms }
  if s.hwQueuesReady then (s.mergeAlarm a).alarmSummary else s.holdAlarm a

/-- Whether an alarm of this device is in force. -/
def State.alarmRaised (s : State) (code station : Nat) : Bool :=
  s.alarms.raised.any fun a => a.1 = ownAlarms && a.2.1 = code && a.2.2.1 = station

/-- A CLEARED record where the alarm is in force (R516). -/
def State.clearAlarm (s : State) (code station detail : Nat) : State :=
  if s.alarmRaised code station then s.alarm code 2 station detail else s

end Sys2Proof.Machine
end

