-- ==== Sys2Proof/Machine/Flags.lean ====
section
/-! DEFINITION. The flags of the block: the state of result objects with OVERRUN and CONSUMED (R476 to R484), and the ready bits (R494 to
R496). -/
namespace Sys2Proof.Machine

/-! ### Result objects -/

/-- The state of a result object. -/
def State.result (s : State) (r : ObjRow) (n : Nat := 0) (i : Nat := 0) (t : Nat := 512) : ResultSt :=
  s.results.getD (r.key n i t 0) {}

/-- An operation starts: STATUS becomes PENDING, everything else is kept (R477). -/
def State.startResult (s : State) (r : ObjRow) (who : Requester) (n : Nat := 0) (i : Nat := 0) (t : Nat := 512) : State :=
  let k := r.key n i t 0
  let v := s.results.getD k {}
  { s with results := s.results.put k { v with status := 2, starter := some who } }

/-- Whether an operation is pending (R481). -/
def State.isPending (s : State) (r : ObjRow) (n : Nat := 0) (i : Nat := 0) (t : Nat := 512) : Bool :=
  (s.result r n i t).status = 2

/-- RESULT_READY to the tenant or enclave that started an operation (R484). -/
def State.resultReady (s : State) (k : OKey) (v : ResultSt) : State :=
  let r := s.mkRec 0x0014 1 (if 8 ≤ k.area then k.area - 8 else noStation) noTenant
    [(k.area * 65536 + k.idx, 20), (k.sub, 8), (v.generation, 16), (v.status, 2)]
  match v.starter with
  | some (.tenant t) => s.toTenant t { r with tenant := t }
  | some (.enclave e) => s.toEnclave e r
  | some (.host _) | some (.peer _) | some .secure | none => s

/-- An operation completes (R477): GENERATION, STATUS, OVERRUN, CONSUMED and CAUSE in one step; the caller has put the
value. -/
def State.completeResult (s : State) (r : ObjRow) (outcome : Nat) (n : Nat := 0) (i : Nat := 0) (t : Nat := 512) : State :=
  let k := r.key n i t 0
  let v := s.results.getD k {}
  let v' : ResultSt := { v with generation := genInc v.generation, status := if outcome = 0 then 1 else 3,
                                cause := outcome, overrun := !v.consumed, consumed := false }
  ({ s with results := s.results.put k v' } : State).resultReady k v'

/-- An operation whose value is its outcome code completes (R477). -/
def State.finish (s : State) (r : ObjRow) (outcome : Nat) (n : Nat := 0) (i : Nat := 0) (t : Nat := 512) : State :=
  (s.wr r (outcome : Nat) n i t).completeResult r outcome n i t

/-- `RESULT_STATE` as its U32 (R476). -/
def ResultSt.number (v : ResultSt) : Nat :=
  v.generation * 65536 + (if v.status = 3 then v.cause % 256 else 0) * 256 + (if v.overrun then 8 else 0)
    + (if v.consumed then 4 else 0) + v.status

/-! ### Ready map -/

/-- A bit of `READY_HEADWORKS` set or cleared (R494, R496). -/
def State.hwReady (s : State) (k : Nat) (b : Bool) : State :=
  s.wr Obj.READY_HEADWORKS ((putBit k b (s.rdN Obj.READY_HEADWORKS) : Nat))

/-- A bit of a station's ready word set or cleared (R495, R496). -/
def State.stReady (s : State) (n k : Nat) (b : Bool) : State :=
  s.wr Obj.READY_STATION ((putBit k b (s.rdN Obj.READY_STATION 0 0 512 n) : Nat)) 0 0 512 n

/-- Whether a bit of `READY_HEADWORKS` is set. -/
def State.isHwReady (s : State) (k : Nat) : Bool := bit k (s.rdN Obj.READY_HEADWORKS)

/-- Whether a bit of a station's ready word is set. -/
def State.isStReady (s : State) (n k : Nat) : Bool := bit k (s.rdN Obj.READY_STATION 0 0 512 n)

end Sys2Proof.Machine
end

