-- ==== Sys2Proof/Machine/Access.lean ====
section
/-! DEFINITION. Rights, holders and windows (R358 to R361, R656), levels (R456, R457) and statuses
(R461, R462). -/
namespace Sys2Proof.Machine

/-- Statuses of R461 with their DETAIL. -/
structure Status where
  code : Nat
  detail : Nat := 0
deriving DecidableEq, Repr

namespace Status
def ok : Status := ⟨0, 0⟩
def noObject : Status := ⟨1, 0⟩
def noSubindex : Status := ⟨2, 0⟩
def readOnly : Status := ⟨3, 0⟩
def writeOnly : Status := ⟨4, 0⟩
def badType : Status := ⟨5, 0⟩
def badRange : Status := ⟨6, 0⟩
def noRight : Status := ⟨7, 0⟩
def heldSecure : Status := ⟨8, 0⟩
def busy (d : Nat) : Status := ⟨9, d⟩
def notReady (b : Nat) : Status := ⟨10, b⟩
def staleAck (g : Nat) : Status := ⟨11, g⟩
def segment (next : Nat) : Status := ⟨12, min (next / 64) 65535⟩
def quarantined : Status := ⟨13, 0⟩
def refused (d : Nat) : Status := ⟨14, d⟩
def revision (r : Nat) : Status := ⟨15, r⟩
end Status

/-- An answer given to a requester (R461). -/
def State.answer (s : State) (st : Status) (data : Bytes := []) (aux : Nat := 0) : State :=
  s.emit (.answer st.code st.detail aux data)

/-! ### Slices, rights and holders -/

/-- The slice is enabled (R356). -/
def State.sliceEnabled (s : State) (t : Nat) : Bool := s.rdB Obj.SLICE_ENABLE 0 0 t

/-- The slice is bound to the station (R359). -/
def State.sliceOn (s : State) (t n : Nat) : Bool := bit n (s.rdN Obj.SLICE_STATIONS 0 0 t)

/-- Right bit `k` of the slice on the station is in force (R359). -/
def State.hasRight (s : State) (t n k : Nat) : Bool :=
  s.sliceEnabled t && s.sliceOn t n && bit k (s.rdN Obj.RIGHTS 0 n t)

/-- The mask object of a kind of block (R359). -/
def BlockKind.mask : BlockKind → ObjRow
  | .layer => Obj.LAYER_MASK
  | .region => Obj.GUARD_MASK
  | .zone => Obj.ZONE_MASK
  | .source => Obj.SOURCE_MASK

/-- How many blocks of a kind a station has. -/
def BlockKind.number : BlockKind → Nat
  | .layer => 16
  | .region => 32
  | .zone => 16
  | .source => 16

/-- An enclave's grant mask of a kind (R401). -/
def BlockKind.grant : BlockKind → ObjRow
  | .layer => Obj.GRANT_LAYERS
  | .region => Obj.GRANT_GUARDS
  | .zone => Obj.GRANT_ZONES
  | .source => Obj.GRANT_SOURCES

/-- The object that shows the blocks of a kind that are not NORMAL (R416). -/
def BlockKind.secureMask : BlockKind → ObjRow
  | .layer => Obj.SECURE_LAYERS
  | .region => Obj.SECURE_GUARDS
  | .zone => Obj.SECURE_ZONES
  | .source => Obj.SECURE_SOURCES

/-- The slice's masks name the block and the slice is enabled and bound (R358). -/
def State.sliceHolds (s : State) (t : Nat) (b : Block) : Bool :=
  s.sliceEnabled t && s.sliceOn t b.station && bit b.n (s.rdN b.kind.mask 0 b.station t)

/-- The tenants in increasing number. -/
def tenants : List Nat := List.range 512

/-- The normal world's holder of a block, whatever its lock state (R358, R405, R656). -/
def State.normalHolder (s : State) (b : Block) : Holder :=
  match tenants.find? (fun t => s.sliceHolds t b) with
  | some t => .tenant t
  | none => if b.kind = .zone then .nobody else .manager

/-- The holder of a block: the enclave while it is SECURE or on its way back, else the normal world's holder (R402, R656). -/
def State.holder (s : State) (b : Block) : Holder :=
  let l := s.lock b
  match l.st with
  | .secure | .returning => .enclave l.enclave
  | .normal | .locking | .locked => s.normalHolder b

/-- The holder of a station's station set (R359, R656). -/
def State.stationSetHolder (s : State) (n : Nat) : Holder :=
  match tenants.find? (fun t => s.hasRight t n 2) with
  | some t => .tenant t
  | none => .manager

/-- Tenants bound to a station (R213). -/
def State.boundTenants (s : State) (n : Nat) : List Nat := tenants.filter fun t => s.sliceEnabled t && s.sliceOn t n

/-- `ZONE_HOLDER` follows the zone's record (R359, R405). -/
def State.syncZone (s : State) (n z : Nat) : State :=
  let v : Int := match s.holder ⟨n, .zone, z⟩ with
    | .tenant t => (t : Int)
    | .enclave e => (0x8000 + e : Nat)
    | .manager | .nobody => 0xFFFF
  s.wr Obj.ZONE_HOLDER v n z

/-- Every `ZONE_HOLDER` of a station. -/
def State.syncZones (s : State) (n : Nat) : State := s.each (List.range 16) fun s z => s.syncZone n z

/-- The blocks of a station that are not NORMAL, as `Sx.0020` shows them (R402, R416). -/
def State.syncSecure (s : State) (n : Nat) : State :=
  s.each [BlockKind.layer, .region, .zone, .source] fun s k =>
    let m := (List.range k.number).foldl (fun a i => if s.isNormal ⟨n, k, i⟩ then a else a + 2 ^ i) 0
    s.wr k.secureMask (m : Nat) n

/-! ### Windows -/

/-- The bytes of a station's memory its requesters can address (R322). -/
def State.usableBytes (s : State) (n : Nat) : Nat := s.rdN Obj.MEM_USABLE_MIB n * 2 ^ 20

/-- MiB of the translation cache: what was reserved at STARTING, and of a station in OFF what its next STARTING will reserve (R58, R73). -/
def State.cacheMib (s : State) (n : Nat) : Nat :=
  if s.rdN Obj.STATION_STATE n = 0 then s.rdN Obj.TRANSLATION_CACHE_SIZE n else (s.ras n).cacheMib

/-- The first byte above the reserved regions of R323: firmware data, save area, translation cache. -/
def State.reservedTop (s : State) (n : Nat) : Nat :=
  16 * 2 ^ 20 + 8 * 160 * 1024 + s.cacheMib n * 2 ^ 20

/-- A window or range as base, size and access (R361, R392): access bit 0 read, bit 1 write. -/
structure Span where
  base : Nat
  size : Nat
  access : Nat
deriving DecidableEq, Repr

/-- A window value read as a span (R361). -/
def windowSpan (v : Nat) : Span := ⟨bits 39 12 v * 4096, bits 63 40 v * 4096, bits 1 0 v⟩

/-- The 16 windows of a slice on a station (R361). -/
def State.windows (s : State) (t n : Nat) : List Span := (List.range 16).map fun j => windowSpan (s.rdN Obj.WINDOW 0 n t j)

/-- Ranges of R392 that lie at a location, as spans. -/
def rangeSpans (ranges : List Nat) (loc : Nat) : List Span :=
  ranges.filterMap fun v =>
    if bits 11 8 v = loc ∧ bits 63 40 v ≠ 0 then some ⟨bits 39 12 v * 4096, bits 63 40 v * 4096, 3⟩ else none

/-- The eight range objects of an enclave. -/
def State.enclaveRanges (s : State) (e : Nat) : List Nat := (List.range 8).map fun j => s.rdN Obj.RANGE 0 e 512 j

/-- The ranges of an enclave at a location: a station, or 8 for secure SRAM (R392). -/
def State.enclaveSpans (s : State) (e n : Nat) : List Span := rangeSpans (s.enclaveRanges e) n

/-- What a holder may reach of a station's memory (R361, R656, R159). -/
def State.spansOf (s : State) (h : Holder) (n : Nat) : List Span :=
  match h with
  | .tenant t => s.windows t n
  | .enclave e => s.enclaveSpans e n
  | .manager => [⟨s.reservedTop n, s.usableBytes n - s.reservedTop n, 3⟩]
  | .nobody => []

/-- Whether spans granting an access cover `len` bytes from `a`, a byte at a time lying inside at least one of them (R361);
`fuel` bounds the number of spans used. -/
def covered (spans : List Span) (access : Nat) : Nat → Nat → Nat → Bool
  | _, _, 0 => true
  | 0, _, _ + 1 => false
  | fuel + 1, a, len + 1 =>
    match spans.find? (fun w => w.access &&& access = access && w.base ≤ a && a < w.base + w.size) with
    | none => false
    | some w => covered spans access fuel (w.base + w.size) (len + 1 - (w.base + w.size - a))

/-- A range lies inside a holder's windows with an access: 1 read, 2 write (R361). -/
def State.inside (s : State) (h : Holder) (n access a len : Nat) : Bool :=
  covered (s.spansOf h n) access 32 a len

/-- The owner tag of a requester acting for a holder (R394). -/
def Holder.tag : Holder → Nat
  | .enclave e => e + 1
  | .tenant _ | .manager | .nobody => 0

/-- The enclaves that are not EMPTY (R391). -/
def State.liveEnclaves (s : State) : List Nat := (List.range 64).filter fun e => s.enclaveAlive e

/-- Ranges in a station's memory with the enclave that owns each: those of live enclaves, and of enclaves lost in a restart until they
are scrubbed (R392, R410). -/
def State.ownedSpans (s : State) (n : Nat) : List (Nat × Span) :=
  (s.liveEnclaves.flatMap fun e => (s.enclaveSpans e n).map fun w => (e, w))
    ++ s.sec.lost.flatMap fun l => (rangeSpans l.ranges n).map fun w => (l.e, w)

/-- The enclave whose range a request of an owner tag wrongly reaches, if any (R394). -/
def State.tagFault (s : State) (n a len tag : Nat) : Option Nat :=
  ((s.ownedSpans n).find? fun p => p.1 + 1 ≠ tag && p.2.base < a + len && a < p.2.base + p.2.size).map (·.1)

/-- A request with a wrong tag is counted in the owning enclave's `RANGE_FAULTS` (R394). -/
def State.countTagFault (s : State) (e : Nat) : State := s.count Obj.RANGE_FAULTS 0 e

/-! ### Requesters and levels -/

/-- The level of a requester's path (R456): a peer's is kept in its record. -/
def State.levelOf (s : State) (r : Requester) : Level :=
  match r with
  | .tenant _ => .basic
  | .host p => match s.rdN Obj.HOST_LEVEL 0 p with
    | 0 => .none
    | 1 => .basic
    | _ => .expert
  | .peer k => s.peerLevel.getD k .none
  | .enclave _ => .basic
  | .secure => .secure

/-- The requester acts as the manager: a peer with an EXPERT grant or host software at EXPERT level (R356, R656). -/
def State.isManager (s : State) (r : Requester) : Bool :=
  match r with
  | .peer _ | .host _ => Level.rank (s.levelOf r) ≥ 2
  | .secure => true
  | .tenant _ | .enclave _ => false

/-- The holder a requester writes as (R123, R401, R656). -/
def State.writerOf (s : State) (r : Requester) : Holder :=
  match r with
  | .tenant t => .tenant t
  | .enclave e => .enclave e
  | .host _ | .peer _ | .secure => if s.isManager r then .manager else .nobody

/-- The tenant number a requester carries in records. -/
def Requester.tenantNo : Requester → Nat
  | .tenant t => t
  | .host _ | .peer _ | .enclave _ | .secure => noTenant

/-! ### Station and device states -/

/-- Station states of R35. -/
def stOff : Nat := 0
def stStarting : Nat := 1
def stRunning : Nat := 2
def stSleep : Nat := 3
def stMemoryFault : Nat := 4
def stFault : Nat := 5

/-- `STATION_STATE`. -/
def State.stationState (s : State) (n : Nat) : Nat := s.rdN Obj.STATION_STATE n

/-- The station's state changes at the present time (R35). -/
def State.setStation (s : State) (n v : Nat) : State :=
  let c := s.ctl n
  ((s.setCtl n { c with since := some (s.stationState n, s.time) }).wr Obj.STATION_STATE v n).wr Obj.STATION_STATE_TIME s.time n

/-- The station changed its state at the present time, out of another state: an event of the same cycle is judged against that change
(R34). -/
def State.changedNow (s : State) (n : Nat) : Bool :=
  match (s.ctl n).since with
  | some (p, t) => decide (t = s.time) && decide (p ≠ s.stationState n)
  | none => false

/-- The tenant instance a request names: a tenant's own, whatever qualifier it carries (R8). -/
def Requester.instanceOf (who : Requester) (tq : Nat) : Nat :=
  match who with
  | .tenant t => t
  | .host _ | .peer _ | .enclave _ | .secure => tq

/-- `DEVICE_STATE` with OFF told apart (R27): 0 OFF, 1 START-UP, 2 SERVICE, 3 TEST, 4 RECOVERY. -/
def State.deviceState (s : State) : Nat := if s.powered then s.rdN Obj.DEVICE_STATE else 0

/-- A notification to the tenants bound to a station and a record in its log queue (R213). -/
def State.noteStation (s : State) (n code prio : Nat) (fields : List (Nat × Nat)) : State :=
  let r := s.mkRec code prio n noTenant fields
  (s.each (s.boundTenants n) fun s t => s.toTenant t { r with tenant := t }).toStationLog n r

end Sys2Proof.Machine
end

