-- ==== Sys2Proof/Machine/Checks.lean ====
section
/-! DEFINITION. The checks of R461 up to the rules of an object's function: quarantine, existence and view, level, right
and holding, access, and the value. -/
namespace Sys2Proof.Machine

/-- What besides its level an object asks of a writer or of a tenant that reads it (R155, R274, R318, R359, R458, R656). -/
inductive Need where
  /-- Nothing: any requester of the level, but no tenant. -/
  | openLevel
  /-- The holding of a block. -/
  | block (k : BlockKind) (i : Nat)
  /-- The holding of a block, or the manager. -/
  | blockOrManager (k : BlockKind) (i : Nat)
  /-- A right of `RIGHTS`, or the manager. -/
  | right (bit : Nat)
  /-- The station set (R656). -/
  | stationSet
  /-- A commit, whose own checks decide (R125). -/
  | commit
  /-- A region of the station, or the manager. -/
  | anyRegion
  /-- The tenant's own instance. -/
  | own
  /-- The manager, or a host mailbox at EXPERT level (R450). -/
  | manager
  /-- A source of the station or the mix right, or the manager (R309, R318). -/
  | audioCommit
  /-- The sponsor of an enclave, and nobody else (R391, R398). -/
  | sponsor (e : Nat)
  /-- Any requester of the level, tenants among them (R387). -/
  | anyone
deriving DecidableEq, Repr

/-- The need of a station object by its number and index offset. -/
def stationNeed (idx sub : Nat) : Need :=
  if idx = 0x0018 || idx = 0x0031 || idx = 0x0040 then .right 7
  else if 0x2010 ≤ idx && idx ≤ 0x201F then .block .layer (idx - 0x2010)
  else if 0x2020 ≤ idx && idx ≤ 0x202F then .block .layer (idx - 0x2020)
  else if idx = 0x2030 then .block .layer 15
  else if idx = 0x2001 || idx = 0x2002 || idx = 0x2008 || idx = 0x2040 || idx = 0x2800 then .stationSet
  else if idx = 0x2003 || idx = 0x2100 then .commit
  else if 0x2110 ≤ idx && idx ≤ 0x212F then .block .region (idx - 0x2110)
  else if 0x2130 ≤ idx && idx ≤ 0x214F then .block .region (idx - 0x2130)
  else if idx = 0x2150 || idx = 0x2151 then .anyRegion
  else if idx = 0x3001 || idx = 0x3002 || idx = 0x3010 || idx = 0x3020 || idx = 0x3030 || (0x3100 ≤ idx && idx ≤ 0x3103)
      || idx = 0x3830 || idx = 0x3831 then .right 5
  else if 0x4050 ≤ idx && idx ≤ 0x405F then .blockOrManager .zone (idx - 0x4050)
  else if 0x5060 ≤ idx && idx ≤ 0x506F then .blockOrManager .zone (idx - 0x5060)
  else if idx = 0x5004 || idx = 0x5100 || idx = 0x5110 then .right 3
  else if 0x5200 ≤ idx && idx ≤ 0x523F then .right 3
  else if idx = 0x6003 then .audioCommit
  else if 0x6010 ≤ idx && idx ≤ 0x6050 then .right 4
  else if 0x6100 ≤ idx && idx ≤ 0x610F then (if sub = 1 then .right 4 else .block .source (idx - 0x6100))
  else if 0x6120 ≤ idx && idx ≤ 0x612B then .block .source (idx - 0x6120)
  else if 0x6140 ≤ idx && idx ≤ 0x6141 then .block .source (12 + (idx - 0x6140))
  else .openLevel

/-- The need of an object. -/
def ObjRow.need (r : ObjRow) (i j : Nat) : Need :=
  if r.ten && !(r.station && (r.idx = 0x5100 || r.idx = 0x5110)) then .own
  else if r.station then stationNeed (r.idx + i) (r.sub + j)
  else if r.area = 1 then .manager
  else if r.area = 6 && 0x1100 ≤ r.idx && r.idx < 0x1140 && (r.sub = 1 || r.sub = 3) then .sponsor i
  else if r.area = 6 && r.idx = 0x2010 then .anyone
  else .openLevel

/-- What a tenant sees of the dictionary (R416, R458). -/
def inTenantView (s : State) (t : Nat) (r : ObjRow) (n i tq : Nat) : Bool :=
  if r.station then s.sliceOn t n && (!r.ten || tq = t)
  else if r.area = 0 then r.acc = .ro && r.lev = .basic
  else if r.area = 1 || r.area = 3 || r.area = 7 then r.ten && tq = t
  else if r.area = 6 then
    if (0x1000 ≤ r.idx && r.idx < 0x1040) || (0x1100 ≤ r.idx && r.idx < 0x1140) then s.rdN Obj.SPONSOR 0 i = t
    else [0x0000, 0x2000, 0x2010, 0x2011].contains r.idx
  else false

/-- The tenant meets the need of an object it reads or writes. -/
def State.tenantMeets (s : State) (t n tq : Nat) (r : ObjRow) (nd : Need) (write : Bool) : Bool :=
  let station : Bool := s.hasRight t n 8
  match nd with
  | .block k i => s.sliceHolds t ⟨n, k, i⟩
  | .blockOrManager k i => s.sliceHolds t ⟨n, k, i⟩
  | .right b => s.hasRight t n b || (!write && r.acc = .ro && station)
  | .stationSet => s.hasRight t n 2
  | .commit => s.sliceEnabled t && s.sliceOn t n
  | .anyRegion => (s.sliceEnabled t && s.sliceOn t n && s.rdN Obj.GUARD_MASK 0 n t ≠ 0) || (!write && r.acc = .ro && station)
  | .own => tq = t
  | .manager => !write
  | .audioCommit => s.hasRight t n 4 || (s.sliceEnabled t && s.sliceOn t n && s.rdN Obj.SOURCE_MASK 0 n t ≠ 0)
  | .sponsor e => s.rdN Obj.SPONSOR 0 e = t
  | .anyone => true
  | .openLevel => !write && (if r.station then r.acc = .ro && r.lev = .basic && station else true)

/-- A requester other than a tenant meets the need of an object it writes (R155, R656). -/
def State.otherMeets (s : State) (who : Requester) (n : Nat) (nd : Need) : Bool :=
  let m := s.isManager who
  match nd with
  | .block k i => m && s.normalHolder ⟨n, k, i⟩ = .manager
  | .blockOrManager _ _ | .right _ | .anyRegion | .commit | .manager | .audioCommit => m
  | .stationSet => m && s.stationSetHolder n = .manager
  | .sponsor _ => false
  | .own | .openLevel | .anyone => true

/-- A block of the station is SECURE and held by the enclave (R402). -/
def State.enclaveHolds (s : State) (e : Nat) (b : Block) : Bool := (s.lock b).st = .secure && (s.lock b).enclave = e

/-- An enclave reaches the objects of the blocks it holds, the reference loads where it holds a region, and the audio commit where it
holds a source (R155, R317, R401). -/
def State.enclaveMeets (s : State) (e n : Nat) (nd : Need) : Bool :=
  match nd with
  | .block k i | .blockOrManager k i => s.enclaveHolds e ⟨n, k, i⟩
  | .anyRegion => (List.range 32).any fun i => s.enclaveHolds e ⟨n, .region, i⟩
  | .audioCommit => (List.range 16).any fun i => s.enclaveHolds e ⟨n, .source, i⟩
  | .right _ | .stationSet | .commit | .own | .manager | .sponsor _ | .anyone | .openLevel => false

/-- HELD_SECURE: a write of the normal world to an object of a block that is not NORMAL (R402, R463). -/
def State.heldCheck (s : State) (who : Requester) (n : Nat) (nd : Need) : Option Status :=
  match nd, who with
  | .block _ _, .enclave _ | .blockOrManager _ _, .enclave _ => none
  | .block k i, _ | .blockOrManager k i, _ => if s.isNormal ⟨n, k, i⟩ then none else some .heldSecure
  | _, _ => none

/-- The slice may not write (R375). -/
def State.isQuarantined (s : State) (who : Requester) : Bool :=
  match who with
  | .tenant t => s.rdN Obj.SLICE_STATE 0 0 t = 3
  | .host _ | .peer _ | .enclave _ | .secure => false

/-- What a BDA peer reaches without a session (R508). -/
def openAtNone (r : ObjRow) (write : Bool) : Bool :=
  if write then r = Obj.GRANT_REQUEST else (r.area = 0 && !r.station && r.acc = .ro && r.lev = .basic) || r = Obj.GRANT_CHALLENGE

/-- Checks 1 to 4 of R461 for a request of an object: none where it passes. A tenant qualifier `tq` outside @T is ignored. -/
def State.checkAccess (s : State) (who : Requester) (r : ObjRow) (write : Bool) (n : Nat := 0) (i : Nat := 0)
    (tq : Nat := 512) (j : Nat := 0) : Option Status :=
  let nd := r.need i j
  if write && s.isQuarantined who then some .quarantined
  else
    let bare : Bool := match who with
      | .peer _ => openAtNone r write
      | .tenant _ | .host _ | .enclave _ | .secure => false
    let levelOk := bare || (decide (r.lev.rank ≤ (s.levelOf who).rank) && (s.levelOf who ≠ .none))
    let denied : Bool := match who with
      | .tenant t => !(levelOk && s.tenantMeets t n tq r nd write)
      | .host _ | .peer _ | .secure => !levelOk || (write && !s.otherMeets who n nd)
      | .enclave e => !(levelOk && s.enclaveMeets e n nd)
    let hidden : Bool := match who with
      | .tenant t => !inTenantView s t r n i tq
      | .host _ | .peer _ | .enclave _ | .secure => false
    if hidden then some .noObject
    else if denied then some .noRight
    else if write && r.acc = .ro then some .readOnly
    else if !write && r.acc = .wo then some .writeOnly
    else none

/-- Check 6 of R461: the object's range (R454). -/
def ObjRow.checkValue (r : ObjRow) (v : Int) : Option Status := if r.inRange v then none else some .badRange

/-- Checks 1 to 6 of R461 for a write of a numeric value, and of the rules of every function the one of R463. -/
def State.checkWrite (s : State) (who : Requester) (r : ObjRow) (v : Int) (n : Nat := 0) (i : Nat := 0) (tq : Nat := 512)
    (j : Nat := 0) : Option Status :=
  match s.checkAccess who r true n i tq j with
  | some e => some e
  | none => match r.checkValue v with
    | some e => some e
    | none => s.heldCheck who n (r.need i j)

/-- NOT_READY where the station's ready bit is clear (R496). -/
def State.needStReady (s : State) (n b : Nat) : Option Status := if s.isStReady n b then none else some (.notReady b)

/-- NOT_READY where the headworks' ready bit is clear (R496). -/
def State.needHwReady (s : State) (b : Nat) : Option Status := if s.isHwReady b then none else some (.notReady b)

/-- The first failing check of a list. -/
def firstStatus (l : List (Option Status)) : Option Status := l.findSome? id

/-- Requests of the normal world go through the dictionary server; while it is not ready, or its clock is gated, they are not answered, and
those of a mailbox wait in it (R24, R496, R587, R594). Calls of enclaves and the secure firmware do not pass it. -/
def State.served (s : State) (who : Requester) : Bool :=
  match who with
  | .tenant _ | .host _ | .peer _ => s.isHwReady 4 && !s.hwGated 0
  | .enclave _ | .secure => true

/-- A request of the dictionary: it runs where it is served, and else changes nothing (R24). -/
def State.onRequest (s : State) (who : Requester) (f : State → State) : State := if s.served who then f s else s

/-- A guarded effect: the failing check is answered and nothing changes, else the effect runs. -/
def State.guarded (s : State) (c : Option Status) (f : State → State) : State :=
  match c with
  | some e => s.answer e
  | none => f s

end Sys2Proof.Machine
end

