-- ==== Sys2Proof/Machine/CheckUnits.lean ====
section
/-! DEFINITION. Check-value units: their arithmetic, their sources and their commands (R596 to R605). -/
namespace Sys2Proof.Machine

/-! ### Arithmetic -/

/-- The six parameters of a CRC (R600). -/
structure CrcParams where
  width : Nat
  poly : Nat
  init : Nat
  refin : Bool
  refout : Bool
  xorout : Nat
deriving DecidableEq, Repr

/-- The parameters in force for a unit (R600). -/
def State.cvParams (s : State) (u : Nat) : CrcParams :=
  match s.rdN Obj.CV_PRESET 0 u with
  | 1 => ⟨32, 0x04C11DB7, 0xFFFFFFFF, true, true, 0xFFFFFFFF⟩
  | 2 => ⟨32, 0x1EDC6F41, 0xFFFFFFFF, true, true, 0xFFFFFFFF⟩
  | 3 => ⟨64, 0x42F0E1EBA9EA3693, 0, false, false, 0⟩
  | _ => ⟨s.rdN Obj.CV_WIDTH 0 u, s.rdN Obj.CV_POLY 0 u, s.rdN Obj.CV_INIT 0 u, s.rdB Obj.CV_REFIN 0 u,
          s.rdB Obj.CV_REFOUT 0 u, s.rdN Obj.CV_XOROUT 0 u⟩

/-- Sources of R597. -/
def cvOff : Nat := 0
def cvBus : Nat := 1
def cvComposed : Nat := 2
def cvDma : Nat := 3
def cvBda : Nat := 4
def cvPieces : Nat := 5

/-- The bytes of a block (R599). -/
def State.cvBlock (s : State) (u : Nat) : Nat :=
  if s.rdN Obj.CV_SOURCE 0 u = cvPieces then 4096 else max 1 (s.rdN Obj.CV_BLOCK_BYTES 0 u)

/-- The fold word of a block (R597). -/
def State.cvFoldWord (s : State) (u k : Nat) (tag : Nat) : Nat :=
  if s.rdN Obj.CV_SOURCE 0 u = cvBus then (s.rdN Obj.CV_WINDOW_BASE 0 u + k * s.cvBlock u) / 64
  else if s.rdN Obj.CV_SOURCE 0 u = cvPieces then tag
  else k

/-- The register after further bytes of a run, with the fold words due (R599). -/
def State.cvFold (s : State) (u : Nat) (c : CvUnit) (bs : Bytes) : CvUnit :=
  let p := s.cvParams u
  bs.foldl (fun c b =>
    let start := s.rdB Obj.CV_FOLD 0 u && c.bytes % s.cvBlock u = 0
    let crc := if start then crcFeed p.width p.poly p.refin c.crc (toLE 4 (s.cvFoldWord u (c.bytes / s.cvBlock u) c.tag))
               else c.crc
    { c with crc := crcUpdate p.width p.poly p.refin crc b, bytes := c.bytes + 1 }) c

/-- The value of a run (R599). -/
def CrcParams.value (p : CrcParams) (crc : Nat) : Nat :=
  ((if p.refout then reflectBits p.width crc else crc) ^^^ p.xorout) % 2 ^ p.width

/-! ### Runs -/

/-- The run that has ended writes its result; a continuous unit is armed again (R603, R604). -/
def State.cvComplete (s : State) (u : Nat) : State :=
  let c := s.cvu u
  match c.ended with
  | none => s
  | some outcome =>
    let s := if outcome = 0 then
        ((s.wr Obj.CV_VALUE (((s.cvParams u).value c.crc : Nat)) 0 u).wr Obj.CV_RUN_BYTES (c.bytes : Nat) 0 u).wr
          Obj.CV_RUN_TAG ((c.tag % 2 ^ 32 : Nat)) 0 u
      else s
    let who := (s.result Obj.CV_VALUE 0 u).starter
    let s := (s.completeResult Obj.CV_VALUE outcome 0 u).count Obj.CV_RUNS 0 u
    if s.rdB Obj.CV_CONTINUOUS 0 u then
      match who with
      | some w => (s.setCvu u { armed := true }).startResult Obj.CV_VALUE w 0 u
      | none => s.setCvu u { armed := true }
    else s.setCvu u {}

/-- A run starts where the unit is armed and idle (R603). A run that has ended gives its result first. -/
def State.cvStart (s : State) (u tag : Nat) : State :=
  let s := s.cvComplete u
  let c := s.cvu u
  if c.armed && !c.running then
    s.setCvu u { armed := true, running := true, crc := (s.cvParams u).init, bytes := 0, tag := tag, ended := none }
  else s

/-- Bytes reach a unit with a run in progress. -/
def State.cvFeed (s : State) (u : Nat) (bs : Bytes) : State :=
  let c := s.cvu u
  if c.running && c.ended.isNone then s.setCvu u (s.cvFold u c bs) else s

/-- The run in progress ends with an outcome (R604). -/
def State.cvEnd (s : State) (u outcome : Nat) : State :=
  let c := s.cvu u
  if c.armed && c.ended.isNone then s.setCvu u { c with running := false, ended := some outcome } else s

/-- The bytes of a whole run reach a unit (PIECES, DMA). -/
def State.cvRun (s : State) (u tag : Nat) (bs : Bytes) (outcome : Nat := 0) : State :=
  ((s.cvStart u tag).cvFeed u bs).cvEnd u outcome

/-- A write of station memory as a unit on BUS sees it (R597, R601). -/
def State.cvBusUnit (s : State) (u addr : Nat) (bs : Bytes) : State :=
  let base := s.rdN Obj.CV_WINDOW_BASE 0 u
  let size := s.rdN Obj.CV_WINDOW_SIZE 0 u
  if bs.isEmpty || addr + bs.length ≤ base || base + size ≤ addr then s
  else
    let c := s.cvu u
    let s := if addr = base && !c.running then s.cvStart u (base / 64) else s
    let c := s.cvu u
    if !c.running then s
    else if addr ≠ base + c.bytes then s.cvEnd u 2
    else
      let s := s.cvFeed u (bs.take (base + size - addr))
      if (s.cvu u).bytes ≥ size then s.cvEnd u 0 else s

/-- A write of a station's memory passes the units on BUS: C0 to C15 where it came through the headgate ingress path, and the
station's own unit (R597). -/
def State.cvBusWrite (s : State) (n addr : Nat) (bs : Bytes) (ingress : Bool) : State :=
  let s := if ingress then
      s.each (List.range 16) fun s u =>
        if s.rdN Obj.CV_SOURCE 0 u = cvBus && s.rdN Obj.CV_STATION 0 u = n && (s.cvu u).armed then s.cvBusUnit u addr bs else s
    else s
  let u := 16 + n
  if s.rdN Obj.CV_SOURCE 0 u = cvBus && (s.cvu u).armed then s.cvBusUnit u addr bs else s

/-- Pixels of one emitted line inside a unit's crop, encoded by `CV_PACK` (R598). -/
def State.cvLineBytes (s : State) (u : Nat) (pixels : List Nat) : Bytes :=
  let crop := (pixels.drop (s.rdN Obj.CV_CROP_X 0 u)).take (s.rdN Obj.CV_CROP_W 0 u)
  if s.rdN Obj.CV_PACK 0 u = 1 then
    toLE (cdiv (30 * crop.length) 8) (crop.reverse.foldl (fun acc p => acc * 2 ^ 30 + p % 2 ^ 30) 0)
  else (crop.map fun p => toLE 4 (p % 2 ^ 30 + 3 * 2 ^ 30)).flatten

/-- An emitted line passes the station's unit on COMPOSED: line `y` of `h`, with the substitutes of R397 in place (R597,
R598). -/
def State.cvLine (s : State) (n y h : Nat) (pixels : List Nat) : State :=
  let u := 16 + n
  if s.rdN Obj.CV_SOURCE 0 u = cvComposed && (s.cvu u).armed then
    let y0 := s.rdN Obj.CV_CROP_Y 0 u
    let y1 := min h (y0 + s.rdN Obj.CV_CROP_H 0 u)
    let empty := y1 ≤ y0 || (pixels.drop (s.rdN Obj.CV_CROP_X 0 u)).isEmpty || s.rdN Obj.CV_CROP_W 0 u = 0
    if empty then (if y + 1 = h then (s.cvComplete u).cvEnd u 5 else s)
    else if y0 ≤ y && y < y1 then
      let s := if y = y0 then s.cvStart u (s.rdN Obj.FRAME_COUNTER n) else s
      let s := s.cvFeed u (s.cvLineBytes u pixels)
      if y + 1 = y1 && (s.cvu u).running then s.cvEnd u 0 else s
    else s
  else s

/-- A run in progress whose source stops, or enters reset, ends with SOURCE (R604). -/
def State.cvSourceLost (s : State) (u : Nat) : State := if (s.cvu u).running then s.cvEnd u 4 else s

/-- The units that take their bytes from the transfers of a ring (R597). -/
def State.dmaUnits (s : State) (n t q : Nat) : List Nat :=
  (List.range 16).filter fun u => s.rdN Obj.CV_SOURCE 0 u = cvDma && s.rdN Obj.CV_STATION 0 u = n && s.rdN Obj.CV_TENANT 0 u = t
    && s.rdN Obj.CV_QUEUE 0 u = q && (s.cvu u).armed

/-- A transfer of a ring begins to move, which is where a run of it starts (R597, R603). -/
def State.cvTransferStart (s : State) (n t q jobId : Nat) : State := s.each (s.dmaUnits n t q) fun s u => s.cvStart u jobId

/-- The station-side bytes of a transfer that completes end the runs that started with it (R597 DMA, R604). -/
def State.cvTransfer (s : State) (n t q : Nat) (bs : Bytes) (ok : Bool) : State :=
  s.each (s.dmaUnits n t q) fun s u =>
    if (s.cvu u).running then (s.cvFeed u bs).cvEnd u (if ok then 0 else 4) else s

/-- The transfers of a slice end without a completion, and the runs in progress on them with SOURCE. DEDUCED: assumption 162. -/
def State.cvTransfersLost (s : State) (t : Nat) : State :=
  s.each ((List.range 16).filter fun u => s.rdN Obj.CV_SOURCE 0 u = cvDma && s.rdN Obj.CV_TENANT 0 u = t) fun s u => s.cvSourceLost u

/-- The data of an accepted BLOCK frame of a DOMAIN object (R597 BDA): the index carries area and number in bits 27:8. -/
def State.cvBlockFrame (s : State) (index seq : Nat) (bs : Bytes) : State :=
  s.each (List.range 16) fun s u =>
    if s.rdN Obj.CV_SOURCE 0 u = cvBda && bits 27 8 (s.rdN Obj.CV_DOMAIN_INDEX 0 u) = index && (s.cvu u).armed then
      (if (s.cvu u).running && (s.cvu u).ended.isNone then s else s.cvStart u seq).cvFeed u bs
    else s

/-- The data of an accepted piece record (R597 PIECES). -/
def State.cvPiece (s : State) (seq : Nat) (bs : Bytes) : State :=
  s.each (List.range 16) fun s u =>
    if s.rdN Obj.CV_SOURCE 0 u = cvPieces && (s.cvu u).armed then s.cvRun u seq bs else s

/-! ### Commands -/

/-- The ready bit of a unit: CHECK of the headworks, or of its station (R494 to R496). -/
def State.cvReady (s : State) (u : Nat) : Option Status :=
  if u < 16 then s.needHwReady 14 else s.needStReady (u - 16) 11

/-- At ARM, a parameter out of bounds is answered COMBINATION (R603). -/
def State.cvArmCheck (s : State) (u : Nat) : Option Status :=
  let p := s.cvParams u
  if p.width < 8 || 64 < p.width || 2 ^ p.width ≤ p.poly || 2 ^ p.width ≤ p.init || 2 ^ p.width ≤ p.xorout then
    some (.refused 7)
  else none

/-- ARM: an operation of `CV_VALUE` starts; refused BUSY while one is pending (R481, R603). -/
def State.cvArm (s : State) (who : Requester) (u : Nat) : State :=
  s.onRequest who fun s => s.guarded (firstStatus [s.checkWrite who Obj.CV_COMMAND 1 0 u, s.cvReady u,
      if (s.cvu u).armed then some (.busy 0) else none, s.cvArmCheck u]) fun s =>
    ((s.setCvu u { armed := true }).startResult Obj.CV_VALUE who 0 u).answer .ok

/-- ABORT: the run in progress ends with ABORTED (R603); a unit that is not armed has no run. -/
def State.cvAbortRun (s : State) (u : Nat) : State := s.cvEnd u 3

/-- CV_ARM (R603). -/
def execCvArm (who : Requester) (u : Fin 24) (s : State) : Host.Outcome State Fault Refusal := .next (s.cvArm who u)

/-- CV_END: a BDA run completes with the bytes folded so far; for any other source it aborts (R603). Without a run the operation ends
with EMPTY, or ABORTED. DEDUCED: assumption 162. -/
def execCvEnd (who : Requester) (u : Fin 24) (s : State) : Host.Outcome State Fault Refusal :=
  .next (s.onRequest who fun s => s.guarded (s.checkWrite who Obj.CV_COMMAND 2 0 u) fun s =>
    (if s.rdN Obj.CV_SOURCE 0 u = cvBda then (if (s.cvu u).running then s.cvEnd u 0 else s.cvEnd u 5)
     else s.cvAbortRun u).answer .ok)

/-- CV_ABORT (R603). -/
def execCvAbort (who : Requester) (u : Fin 24) (s : State) : Host.Outcome State Fault Refusal :=
  .next (s.onRequest who fun s => s.guarded (s.checkWrite who Obj.CV_COMMAND 3 0 u) fun s => (s.cvAbortRun u).answer .ok)

/-- CV_RUN_COMPLETE: a run that ended writes its result; with `overflow` the unit's buffer overflowed and its run ends so, but never a run
of COMPOSED (R602, R604). -/
def execCvRunComplete (u : Fin 24) (overflow : Bool) (s : State) : Host.Outcome State Fault Refusal :=
  .next ((if overflow && (s.cvu u).running && s.rdN Obj.CV_SOURCE 0 u ≠ cvComposed then s.cvEnd u 1 else s).cvComplete u)

end Sys2Proof.Machine
end

