-- ==== Sys2Proof/Machine/MemAccess.lean ====
section
/-! DEFINITION. Accesses to station memory with their owner tag (R394), under an enclave's key (R393), and the poison marks
a read meets (R338 to R341). -/
namespace Sys2Proof.Machine

/-- The save area of R323: addresses without inline ECC (R327). -/
def saveArea : Nat := 16 * 2 ^ 20

/-- Bytes of a save slot (R76, R323). -/
def slotBytes : Nat := 160 * 1024

/-- Reads of the address are checked: inline ECC is in use and the address is outside the save area (R338). -/
def State.eccChecks (s : State) (n a : Nat) : Bool :=
  (s.mmc n).eccOn && !(decide (saveArea ≤ a) && decide (a < saveArea + 8 * slotBytes))

/-- The controller serves the engines' requests: it is READY and no retraining stalls them; in every other state a request waits, or its
engine has stopped (R335, R337, R343, R346, R349). -/
def State.memServes (s : State) (n : Nat) : Bool := s.rdN Obj.MEM_STATE n = 2 && (s.mmc n).retraining.isNone

/-- Whether a range of a station's memory holds a poisoned word that a read finds (R338, R341). -/
def State.isPoisoned (s : State) (n a len : Nat) : Bool :=
  s.eccChecks n a && s.poison.any fun u => decide (cellOf n a < (u + 1) * 8) && decide (u * 8 < cellOf n a + len)

/-- The bytes of an enclave's range, decrypted in data units of 64 bytes (R393). -/
def State.loadPlain (s : State) (n a len e : Nat) : Bytes :=
  let first := a / 64
  let units := (a + len + 63) / 64 - first
  let all := ((List.range units).map fun k =>
    padTo 64 (Config.aesXtsInv (s.encKey.getD e []) (cellOf n ((first + k) * 64)) (s.load n ((first + k) * 64) 64))).flatten
  slice all (a - first * 64) len

/-- A read of a station's memory under an owner tag: zeros where the tag differs from that of the range (R394). -/
def State.readTagged (s : State) (n a len tag : Nat) : Bytes :=
  match s.tagFault n a len tag with
  | some _ => List.replicate len 0
  | none => if tag = 0 then s.load n a len else s.loadPlain n a len (tag - 1)

/-- The count that a wrongly tagged request leaves (R394). -/
def State.noteTag (s : State) (n a len tag : Nat) : State :=
  match s.tagFault n a len tag with
  | some e => s.countTagFault e
  | none => s

/-- A write clears the poison marks of the words it covers whole; a partial write leaves a word poisoned (R340). -/
def State.unpoison (s : State) (n a len : Nat) : State :=
  { s with poison := s.poison.filter fun u => ¬ (cellOf n a ≤ u * 8 ∧ (u + 1) * 8 ≤ cellOf n a + len) }

/-- A write to a station's memory under an owner tag: dropped and counted where the tag differs (R394), encrypted in
units of 64 bytes under an enclave's tag (R393). The check-value units see the bytes as stored (R601). -/
def State.writeTagged (s : State) (n a : Nat) (b : Bytes) (tag : Nat) (ingress : Bool := false) : State :=
  match s.tagFault n a b.length tag with
  | some e => s.countTagFault e
  | none =>
    let s := s.unpoison n a b.length
    if tag = 0 then (s.store n a b).cvBusWrite n a b ingress
    else
      let first := a / 64
      let units := (a + b.length + 63) / 64 - first
      let old := s.loadPlain n (first * 64) (units * 64) (tag - 1)
      let new := old.take (a - first * 64) ++ b ++ old.drop (a - first * 64 + b.length)
      s.each (List.range units) fun s k =>
        let cipher := padTo 64 (Config.aesXts (s.encKey.getD (tag - 1) []) (cellOf n ((first + k) * 64)) (slice new (k * 64) 64))
        (s.store n ((first + k) * 64) cipher).cvBusWrite n ((first + k) * 64) cipher ingress

end Sys2Proof.Machine
end

