-- ==== Sys2Proof/Machine/ScaleTable.lean ====
section
/-! DEFINITION. The coefficient set c_p[t] of R112, worked out from its Lanczos formula with 60 decimal digits. DEDUCED
(assumption 8). -/
namespace Sys2Proof.Machine

/-- Horizontal taps -2 to 3 (a = 3), phases 0 to 15. -/
def hCoef0 : List (List Int) :=
  [[0, 0, 4096, 0, 0, 0], [13, -52, 4095, 54, -14, 0], [25, -101, 4090, 110, -28, 0], [37, -148, 4080, 169, -43, 1],
   [47, -193, 4068, 230, -58, 2], [58, -235, 4051, 293, -74, 3], [67, -275, 4033, 358, -91, 4], [76, -313, 4010, 425, -108, 6],
   [84, -348, 3983, 494, -125, 8], [91, -381, 3954, 565, -143, 10], [98, -411, 3921, 638, -162, 12], [104, -440, 3886, 713, -181, 14],
   [109, -465, 3846, 789, -200, 17], [113, -489, 3804, 867, -219, 20], [117, -510, 3758, 947, -239, 23], [121, -529, 3708, 1028, -259, 27]]

/-- Horizontal taps -2 to 3 (a = 3), phases 16 to 31. -/
def hCoef1 : List (List Int) :=
  [[123, -546, 3658, 1110, -279, 30], [125, -561, 3602, 1194, -298, 34], [127, -573, 3544, 1278, -318, 38], [128, -583, 3483, 1364, -338, 42],
   [128, -592, 3422, 1450, -358, 46], [128, -598, 3356, 1537, -378, 51], [127, -603, 3289, 1625, -397, 55], [126, -605, 3218, 1713, -416, 60],
   [125, -606, 3145, 1802, -434, 64], [123, -605, 3071, 1890, -452, 69], [120, -603, 2996, 1979, -469, 73], [118, -599, 2917, 2068, -486, 78],
   [115, -593, 2837, 2156, -502, 83], [112, -586, 2756, 2244, -517, 87], [108, -577, 2672, 2332, -531, 92], [104, -568, 2590, 2418, -544, 96]]

/-- Horizontal taps -2 to 3 (a = 3), phases 32 to 47. -/
def hCoef2 : List (List Int) :=
  [[100, -557, 2504, 2506, -557, 100], [96, -544, 2418, 2590, -568, 104], [92, -531, 2332, 2672, -577, 108], [87, -517, 2244, 2756, -586, 112],
   [83, -502, 2156, 2837, -593, 115], [78, -486, 2068, 2917, -599, 118], [73, -469, 1979, 2996, -603, 120], [69, -452, 1890, 3071, -605, 123],
   [64, -434, 1802, 3145, -606, 125], [60, -416, 1713, 3218, -605, 126], [55, -397, 1625, 3289, -603, 127], [51, -378, 1537, 3356, -598, 128],
   [46, -358, 1450, 3422, -592, 128], [42, -338, 1364, 3483, -583, 128], [38, -318, 1278, 3544, -573, 127], [34, -298, 1194, 3602, -561, 125]]

/-- Horizontal taps -2 to 3 (a = 3), phases 48 to 63. -/
def hCoef3 : List (List Int) :=
  [[30, -279, 1110, 3658, -546, 123], [27, -259, 1028, 3708, -529, 121], [23, -239, 947, 3758, -510, 117], [20, -219, 867, 3804, -489, 113],
   [17, -200, 789, 3846, -465, 109], [14, -181, 713, 3886, -440, 104], [12, -162, 638, 3921, -411, 98], [10, -143, 565, 3954, -381, 91],
   [8, -125, 494, 3983, -348, 84], [6, -108, 425, 4010, -313, 76], [4, -91, 358, 4033, -275, 67], [3, -74, 293, 4051, -235, 58],
   [2, -58, 230, 4068, -193, 47], [1, -43, 169, 4080, -148, 37], [0, -28, 110, 4090, -101, 25], [0, -14, 54, 4095, -52, 13]]

/-- Horizontal taps -2 to 3 (a = 3) by phase. -/
def hCoef : List (List Int) := hCoef0 ++ hCoef1 ++ hCoef2 ++ hCoef3

/-- Vertical taps -1 to 2 (a = 2), phases 0 to 15. -/
def vCoef0 : List (List Int) :=
  [[0, 4096, 0, 0], [-39, 4093, 42, 0], [-76, 4086, 87, -1], [-111, 4075, 134, -2],
   [-143, 4060, 183, -4], [-172, 4040, 235, -7], [-199, 4015, 290, -10], [-223, 3986, 346, -13],
   [-245, 3953, 406, -18], [-265, 3916, 467, -22], [-283, 3876, 531, -28], [-298, 3832, 596, -34],
   [-311, 3783, 664, -40], [-322, 3732, 734, -48], [-331, 3676, 806, -55], [-338, 3619, 879, -64]]

/-- Vertical taps -1 to 2 (a = 2), phases 16 to 31. -/
def vCoef1 : List (List Int) :=
  [[-344, 3559, 954, -73], [-347, 3494, 1031, -82], [-349, 3427, 1110, -92], [-350, 3359, 1189, -102],
   [-349, 3288, 1270, -113], [-346, 3213, 1353, -124], [-343, 3138, 1436, -135], [-338, 3060, 1521, -147],
   [-332, 2981, 1606, -159], [-325, 2900, 1692, -171], [-317, 2817, 1779, -183], [-308, 2733, 1866, -195],
   [-299, 2650, 1953, -208], [-289, 2564, 2041, -220], [-278, 2477, 2129, -232], [-267, 2391, 2216, -244]]

/-- Vertical taps -1 to 2 (a = 2), phases 32 to 47. -/
def vCoef2 : List (List Int) :=
  [[-256, 2304, 2304, -256], [-244, 2216, 2391, -267], [-232, 2129, 2477, -278], [-220, 2041, 2564, -289],
   [-208, 1953, 2650, -299], [-195, 1866, 2733, -308], [-183, 1779, 2817, -317], [-171, 1692, 2900, -325],
   [-159, 1606, 2981, -332], [-147, 1521, 3060, -338], [-135, 1436, 3138, -343], [-124, 1353, 3213, -346],
   [-113, 1270, 3288, -349], [-102, 1189, 3359, -350], [-92, 1110, 3427, -349], [-82, 1031, 3494, -347]]

/-- Vertical taps -1 to 2 (a = 2), phases 48 to 63. -/
def vCoef3 : List (List Int) :=
  [[-73, 954, 3559, -344], [-64, 879, 3619, -338], [-55, 806, 3676, -331], [-48, 734, 3732, -322],
   [-40, 664, 3783, -311], [-34, 596, 3832, -298], [-28, 531, 3876, -283], [-22, 467, 3916, -265],
   [-18, 406, 3953, -245], [-13, 346, 3986, -223], [-10, 290, 4015, -199], [-7, 235, 4040, -172],
   [-4, 183, 4060, -143], [-2, 134, 4075, -111], [-1, 87, 4086, -76], [0, 42, 4093, -39]]

/-- Vertical taps -1 to 2 (a = 2) by phase. -/
def vCoef : List (List Int) := vCoef0 ++ vCoef1 ++ vCoef2 ++ vCoef3

end Sys2Proof.Machine
end

