-- ==== Sys2Proof/Machine/Pixels.lean ====
section
/-! DEFINITION. The colour pipeline of the compositor: unpacking, chroma upsampling, scaling, LUTs, matrix, blending and
the output LUT (R105 to R118), on exact arithmetic with the rounding of R108. -/
namespace Sys2Proof.Machine

/-- round() of R108 of the quotient a / b: nearest integer, halves up. -/
def roundDiv (a : Int) (b : Nat) : Int := fdiv (2 * a + (b : Int)) (2 * b)

/-- A value limited to a 16-bit fraction. -/
def clamp16 (v : Int) : Nat := (clampI 0 65535 v).toNat

/-- An n-bit value as a 16-bit fraction (R108). -/
def unpackBits (n v : Nat) : Nat := (roundDiv ((v * 65535 : Nat)) (2 ^ n - 1)).toNat

/-- A binary16 value clamped to 0 to 1 as a 16-bit fraction; NaN gives 0 (R108). -/
def unpackHalf (v : Nat) : Nat :=
  let e := bits 14 10 v
  let m := bits 9 0 v
  if bit 15 v then 0
  else if e = 31 then (if m = 0 then 65535 else 0)
  else
    let num := if e = 0 then m else (1024 + m) * 2 ^ (e - 1)
    min 65535 (roundDiv ((num * 65535 : Nat)) (2 ^ 24)).toNat

/-- Four 16-bit channels: R, G, B or Y, Cb, Cr, and alpha. -/
structure Px where
  c0 : Nat
  c1 : Nat
  c2 : Nat
  a : Nat
deriving DecidableEq, Repr

/-- The settings of a layer (R152). -/
structure LayerCfg where
  enable : Bool
  format : Nat
  alpha : Nat
  blend : Nat
  addr : Nat
  pitch : Nat
  bufW : Nat
  bufH : Nat
  srcX : Nat
  srcY : Nat
  srcW : Nat
  srcH : Nat
  dstX : Int
  dstY : Int
  dstW : Nat
  dstH : Nat
  chromaAddr : Nat
  chromaPitch : Nat
  sigAddr : Nat
  filter : Nat
deriving DecidableEq, Repr

/-- A layer's settings read through a copy of its objects. -/
def layerCfgOf (get : ObjRow → Int) : LayerCfg :=
  let g (r : ObjRow) : Nat := (get r).toNat
  { enable := get Obj.LAYER_ENABLE != 0, format := g Obj.LAYER_FORMAT, alpha := g Obj.LAYER_ALPHA,
    blend := g Obj.BLEND_MODE, addr := g Obj.BUF_ADDR, pitch := g Obj.BUF_PITCH, bufW := g Obj.BUF_WIDTH,
    bufH := g Obj.BUF_HEIGHT, srcX := g Obj.SRC_X, srcY := g Obj.SRC_Y, srcW := g Obj.SRC_W, srcH := g Obj.SRC_H,
    dstX := get Obj.DST_X, dstY := get Obj.DST_Y, dstW := g Obj.DST_W, dstH := g Obj.DST_H,
    chromaAddr := g Obj.CHROMA_ADDR, chromaPitch := g Obj.CHROMA_PITCH, sigAddr := g Obj.SIG_TABLE_ADDR,
    filter := g Obj.SCALE_FILTER }

/-- The active settings of layer `l`. -/
def State.layerActive (s : State) (n l : Nat) : LayerCfg := layerCfgOf fun r => s.rd r n l

/-- The shadow settings of layer `l`. -/
def State.layerShadow (s : State) (n l : Nat) : LayerCfg := layerCfgOf fun r => s.rdShadow r n l

/-- Formats with a 4:2:0 chroma plane (R105). -/
def is420 (f : Nat) : Bool := f = 0x20 || f = 0x21

/-- Video formats, for L0 to L3 (R105). -/
def isVideo (f : Nat) : Bool := is420 f || f = 0x22

/-- Listed format codes (R105). -/
def isLayerFormat (f : Nat) : Bool := [0x01, 0x02, 0x03, 0x04, 0x20, 0x21, 0x22].contains f

/-- Bytes of one pixel in the first plane (R105). -/
def planeBytes (f : Nat) : Nat :=
  if f = 0x03 then 2 else if f = 0x04 then 8 else if f = 0x20 then 1 else if f = 0x21 then 2 else 4

/-- A packed RGB pixel of formats 1 to 4 unpacked (R105, R108, R657). -/
def unpackRgb (f : Nat) (b : Bytes) : Px :=
  let v := ofLE b
  if f = 0x01 then ⟨unpackBits 8 (bits 23 16 v), unpackBits 8 (bits 15 8 v), unpackBits 8 (bits 7 0 v), unpackBits 8 (bits 31 24 v)⟩
  else if f = 0x02 then ⟨unpackBits 10 (bits 29 20 v), unpackBits 10 (bits 19 10 v), unpackBits 10 (bits 9 0 v), unpackBits 2 (bits 31 30 v)⟩
  else if f = 0x03 then ⟨unpackBits 5 (bits 15 11 v), unpackBits 6 (bits 10 5 v), unpackBits 5 (bits 4 0 v), 65535⟩
  else ⟨unpackHalf (bits 15 0 v), unpackHalf (bits 31 16 v), unpackHalf (bits 47 32 v), unpackHalf (bits 63 48 v)⟩

/-- A natural number limited to lo to hi, for source coordinates. -/
def clampCoord (lo hi : Nat) (v : Int) : Nat := (clampI lo hi v).toNat

/-- Bytes of a buffer, by address and length: `none` where a poisoned word stands in them (R140). -/
abbrev RowReader := Nat → Nat → Option Bytes

/-- A chroma sample pair of a 4:2:0 plane (R105). -/
def chroma420 (c : LayerCfg) (rows : RowReader) (col row : Nat) : Option (Nat × Nat) :=
  let sz := if c.format = 0x20 then 1 else 2
  (rows (c.chromaAddr + row * c.chromaPitch + 2 * col * sz) (2 * sz)).map fun b =>
    let get (k : Nat) : Nat := let v := fieldLE b (k * sz) sz
      if sz = 1 then unpackBits 8 v else unpackBits 10 (bits 15 6 v)
    (get 0, get 1)

/-- A chroma sample pair of the 4:2:2 plane (R105). -/
def chroma422 (c : LayerCfg) (rows : RowReader) (pair row : Nat) : Option (Nat × Nat) :=
  (rows (c.addr + row * c.pitch + pair * 8) 8).map fun b =>
    let get (o : Nat) : Nat := unpackBits 10 (bits 15 6 (fieldLE b o 2))
    (get 2, get 6)

/-- Weighted chroma samples, all present. -/
def chromaSum : List (Nat × Option (Nat × Nat)) → Option (Nat × Nat)
  | [] => some (0, 0)
  | (w, some (u, v)) :: rest => (chromaSum rest).map fun (p, q) => (p + w * u, q + w * v)
  | (_, none) :: _ => none

/-- Chroma at luma position (u, v), upsampled by linear interpolation within the source rectangle (R107). -/
def chromaAt (c : LayerCfg) (rows : RowReader) (u v : Nat) : Option (Nat × Nat) :=
  let c0 := c.srcX / 2
  let c1 := (c.srcX + c.srcW) / 2 - 1
  let ca := clampCoord c0 c1 (u / 2 : Nat)
  let cb := clampCoord c0 c1 ((u / 2 + u % 2 : Nat))
  if c.format = 0x22 then
    (chromaSum [(1, chroma422 c rows ca v), (1, chroma422 c rows cb v)]).map fun (p, q) => ((p + 1) / 2, (q + 1) / 2)
  else
    let r0 := c.srcY / 2
    let r1 := (c.srcY + c.srcH) / 2 - 1
    let k : Int := (v / 2 : Nat)
    let near := clampCoord r0 r1 k
    let far := clampCoord r0 r1 (if v % 2 = 0 then k - 1 else k + 1)
    (chromaSum [(3, chroma420 c rows ca near), (3, chroma420 c rows cb near), (1, chroma420 c rows ca far),
      (1, chroma420 c rows cb far)]).map fun (p, q) => ((p + 4) / 8, (q + 4) / 8)

/-- The unpacked pixel at buffer position (u, v) (R105, R107, R108). -/
def sourcePx (c : LayerCfg) (rows : RowReader) (u v : Nat) : Option Px :=
  let bpp := planeBytes c.format
  (rows (c.addr + v * c.pitch + u * bpp) (if c.format = 0x22 then 2 else bpp)).bind fun b =>
    if c.format = 0x20 then (chromaAt c rows u v).map fun (p, q) => ⟨unpackBits 8 (byteAt b 0), p, q, 65535⟩
    else if c.format = 0x21 || c.format = 0x22 then
      (chromaAt c rows u v).map fun (p, q) => ⟨unpackBits 10 (bits 15 6 (fieldLE b 0 2)), p, q, 65535⟩
    else some (unpackRgb c.format b)

/-- Integer part and phase of a source position (R112): `d` is the distance of the output pixel from DST, `src` and `len`
the source origin and size, `dlen` the destination size. -/
def scalePos (src len dlen : Nat) (d : Int) : Int × Nat :=
  let den : Nat := 2 * dlen
  let num : Int := 2 * (src : Int) * dlen + (2 * d + 1) * len - dlen
  let i := fdiv num den
  let frac := num - i * den
  let p := (roundDiv (frac * 64) den).toNat
  if p ≥ 64 then (i + 1, 0) else (i, p)

/-- A weighted sum of pixels over 2 ^ shift, rounded and clamped (R112). -/
def tapSum (w : List Int) (ps : List Px) (den : Nat) : Px :=
  let f (g : Px → Nat) : Nat := clamp16 (roundDiv ((List.zipWith (fun (k : Int) p => k * (g p : Int)) w ps).foldl (· + ·) 0) den)
  ⟨f Px.c0, f Px.c1, f Px.c2, f Px.a⟩

/-- Every item present. -/
def allSome {α : Type} : List (Option α) → Option (List α)
  | [] => some []
  | some x :: rest => (allSome rest).map (x :: ·)
  | none :: _ => none

/-- The pixel a layer of L0 to L3 gives at distance (dx, dy) from its destination corner, scaled (R112). -/
def scaledPx (c : LayerCfg) (rows : RowReader) (dx dy : Int) : Option Px :=
  let (i, p) := scalePos c.srcX c.srcW c.dstW dx
  let (j, q) := scalePos c.srcY c.srcH c.dstH dy
  let hw : List Int := if c.filter = 0 then [64 - p, p] else hCoef.getD p []
  let vw : List Int := if c.filter = 0 then [64 - q, q] else vCoef.getD q []
  let den := if c.filter = 0 then 64 else 4096
  let h0 : Int := if c.filter = 0 then 0 else -2
  let v0 : Int := if c.filter = 0 then 0 else -1
  let cols := (List.range hw.length).map fun (t : Nat) => clampCoord c.srcX (c.srcX + c.srcW - 1) (i + h0 + (t : Int))
  let lines := (List.range vw.length).map fun (t : Nat) => clampCoord c.srcY (c.srcY + c.srcH - 1) (j + v0 + (t : Int))
  (allSome (cols.map fun u => (allSome (lines.map fun v => sourcePx c rows u v)).map fun ps => tapSum vw ps den)).map
    fun ps => tapSum hw ps den

/-- A 257-entry LUT of one channel applied to a value (R114). -/
def lut257 (b : Bytes) (ch v : Nat) : Nat :=
  let i := v / 256
  let f := v % 256
  let e0 := fieldLE b (2 * (257 * ch + i)) 2
  let e1 := fieldLE b (2 * (257 * ch + i + 1)) 2
  clamp16 ((e0 : Int) + roundDiv (((e1 : Int) - e0) * f) 256)

/-- The colour matrix of R115 from its 30 bytes. -/
def matrixPx (b : Bytes) (p : Px) : Px :=
  let m (k : Nat) : Int := signed 16 (fieldLE b (2 * k) 2)
  let x (k : Nat) : Int := ([p.c0, p.c1, p.c2].getD k 0 : Nat)
  let row (r : Nat) : Nat :=
    let sum := ((List.range 3).map fun k => m (3 * r + k) * (x k * 32768 + m (9 + k) * 65535)).foldl (· + ·) 0
    clamp16 (roundDiv (sum + m (12 + r) * 65535 * 4096) (4096 * 32768))
  ⟨row 0, row 1, row 2, p.a⟩

/-- Stages 4 to 6 of R113: pre-LUT, matrix, post-LUT. -/
def colourStages (pre mat post : Bytes) (p : Px) : Px :=
  let p : Px := ⟨lut257 pre 0 p.c0, lut257 pre 1 p.c1, lut257 pre 2 p.c2, p.a⟩
  let p := matrixPx mat p
  ⟨lut257 post 0 p.c0, lut257 post 1 p.c1, lut257 post 2 p.c2, p.a⟩

/-- Blending of a layer's pixel over the accumulator (R116). -/
def blendPx (mode alpha : Nat) (p acc : Px) : Px :=
  let a := if mode = 0 then 65535 else p.a
  let ae : Int := roundDiv ((a * alpha : Nat)) 255
  let f (x k : Nat) : Nat :=
    if mode = 1 then clamp16 (roundDiv ((x * alpha * 65535 : Nat) + (k : Int) * (65535 - ae) * 255) (255 * 65535))
    else clamp16 (roundDiv ((x : Int) * ae + (k : Int) * (65535 - ae)) 65535)
  ⟨f p.c0 acc.c0, f p.c1 acc.c1, f p.c2 acc.c2, 65535⟩

/-- A 30-bit colour expanded to 16 bits per channel (R116). -/
def expandColour (v : Nat) : Px :=
  ⟨unpackBits 10 (bits 29 20 v), unpackBits 10 (bits 19 10 v), unpackBits 10 (bits 9 0 v), 65535⟩

/-- The output gamma LUT and the 30-bit composed pixel (R117, R118). -/
def outputPx (lut : Bytes) (p : Px) : Nat :=
  let f (ch v : Nat) : Nat := bits 9 0 (fieldLE lut (2 * (1024 * ch + v / 64)) 2)
  f 0 p.c0 * 2 ^ 20 + f 1 p.c1 * 2 ^ 10 + f 2 p.c2

/-- The byte string of 30-bit pixels of R156: pixel i in bits 30i to 30i + 29, the last byte padded with zeros. -/
def packPixels (ps : List Nat) : Bytes :=
  toLE (cdiv (30 * ps.length) 8) ((ps.reverse).foldl (fun acc p => acc * 2 ^ 30 + p % 2 ^ 30) 0)

/-- The signature of a segment (R156). -/
def signature (ps : List Nat) : Nat := crc32c (packPixels ps)

end Sys2Proof.Machine
end

