-- ==== Sys2Proof/Machine/Sets.lean ====
section
/-! DEFINITION. Layer sets, the station set and guard sets: their objects, the checks of a commit, arming, latching and
discarding (R105 to R110, R122 to R136, R150, R153, R163 to R166). -/
namespace Sys2Proof.Machine

/-- The objects of a layer set other than its BLOBs (R152). -/
def layerRows : List ObjRow :=
  [Obj.LAYER_ENABLE, Obj.LAYER_FORMAT, Obj.LAYER_ALPHA, Obj.BLEND_MODE, Obj.BUF_ADDR, Obj.BUF_PITCH, Obj.BUF_WIDTH,
   Obj.BUF_HEIGHT, Obj.SRC_X, Obj.SRC_Y, Obj.SRC_W, Obj.SRC_H, Obj.DST_X, Obj.DST_Y, Obj.DST_W, Obj.DST_H,
   Obj.CHROMA_ADDR, Obj.CHROMA_PITCH, Obj.SIG_TABLE_ADDR, Obj.SCALE_FILTER]

/-- The echo objects, which belong to the set of L15 (R122, R267). -/
def echoRows : List ObjRow :=
  [Obj.ECHO_HOTSPOT_X, Obj.ECHO_HOTSPOT_Y, Obj.ECHO_MAX_COPIES, Obj.ECHO_TENTATIVE, Obj.ECHO_ZONES]

/-- The BLOBs of a layer set. -/
def layerBlobs : List ObjRow := [Obj.PRE_LUT, Obj.MATRIX, Obj.POST_LUT]

/-- The objects of the station set (R152). -/
def stationRows : List ObjRow :=
  [Obj.BACKGROUND_COLOUR, Obj.UNDERFLOW_COLOUR, Obj.WB_ENABLE, Obj.WB_FORMAT, Obj.WB_ADDR, Obj.WB_PITCH, Obj.CROP_X,
   Obj.CROP_Y, Obj.CROP_W, Obj.CROP_H, Obj.WB_FRAME_DECIMATION, Obj.WB_SPATIAL_DECIMATION, Obj.TRANSOM_TARGET]

/-- The objects of a guard set (R186). -/
def guardRows : List ObjRow :=
  [Obj.REGION_ENABLE, Obj.REGION_X, Obj.REGION_Y, Obj.REGION_W, Obj.REGION_H, Obj.REF_BASE, Obj.REF_PAGES, Obj.REF_PAGE,
   Obj.UNCHECKED_POLICY, Obj.SHUTTER_MODE, Obj.SHUTTER_SCOPE, Obj.SHUTTER_HOLD, Obj.SHUTTER_FILL, Obj.SHUTTER_GLYPH,
   Obj.TIE_LAYER]

/-- The rows of a set with the index offset of each. -/
def SetId.rows : SetId → List (ObjRow × Nat)
  | .layer l => layerRows.map (·, l % 16) ++ (if l = 15 then echoRows.map (·, 0) else [])
  | .station => stationRows.map (·, 0)
  | .guard g => guardRows.map (·, g % 32)

/-- The BLOB rows of a set with the index offset of each. -/
def SetId.blobRows : SetId → List (ObjRow × Nat)
  | .layer l => layerBlobs.map (·, l % 16)
  | .station => [(Obj.OUTPUT_LUT, 0)]
  | .guard _ => []

/-- The number of a set in COMMIT_REFUSED: 0 to 15 layers, 16 the station set, 32 + n Gn (R615). -/
def SetId.code : SetId → Nat
  | .layer l => l
  | .station => 16
  | .guard g => 32 + g

/-- The sets of a station. -/
def allSets : List SetId := (List.range 16).map .layer ++ [.station] ++ (List.range 32).map .guard

/-- The block a set belongs to; the station set is no block of a lock cycle. -/
def SetId.block (n : Nat) : SetId → Option Block
  | .layer l => some ⟨n, .layer, l⟩
  | .station => none
  | .guard g => some ⟨n, .region, g⟩

/-- The armed copy that an arming takes from the shadow (R123). -/
def State.armedCopy (s : State) (n : Nat) (k : SetId) (commit : Nat) : ArmedSet :=
  { vals := k.rows.map fun (r, i) => s.rdShadow r n i
    blobs := k.blobRows.map fun (r, i) => s.blobShadow r n i
    commit := commit }

/-- The values of an armed copy by the objects of its set. -/
def ArmedSet.named (a : ArmedSet) (n : Nat) (k : SetId) : List (OKey × Int) := (k.rows.map fun (r, i) => r.key n i 512 0).zip a.vals

/-- The BLOBs of an armed copy by the objects of its set. -/
def ArmedSet.namedBlobs (a : ArmedSet) (n : Nat) (k : SetId) : List (OKey × Bytes) :=
  (k.blobRows.map fun (r, i) => r.key n i 512 0).zip a.blobs

/-- The state with the active copy of a set taken from an armed copy (R126). -/
def State.activate (s : State) (n : Nat) (k : SetId) (a : ArmedSet) : State :=
  { s with regs := (a.named n k).foldl (fun m v => m.put v.1 v.2) s.regs,
           blobs := (a.namedBlobs n k).foldl (fun m v => m.put v.1 v.2) s.blobs }

/-- The shadow of a set takes a copy of the active set (R134). -/
def State.shadowFromActive (s : State) (n : Nat) (k : SetId) : State :=
  { s with shadow := k.rows.foldl (fun m (r, i) => m.put (r.key n i 512 0) (s.rd r n i)) s.shadow,
           shadowBlobs := k.blobRows.foldl (fun m (r, i) => m.put (r.key n i 512 0) (s.blob r n i)) s.shadowBlobs }

/-- The armed copy of a set is dropped; a commit left without sets is forgotten (R134, R403). -/
def State.dropArmed (s : State) (n : Nat) (k : SetId) : State :=
  let c := s.cmp n
  let armed := c.armed.del k
  let alive (id : Nat) : Bool := armed.any fun e => e.2.commit = id
  s.setCmp n { c with armed := armed, commits := c.commits.filter fun e => alive e.1 }

/-- The shadow and armed copies of a set are discarded as R134 lays down. -/
def State.discardSet (s : State) (n : Nat) (k : SetId) : State := (s.dropArmed n k).shadowFromActive n k

/-- Every copy of a set returns to its defaults (R135, R183 for shadow and armed, R185, R658). -/
def State.defaultSet (s : State) (n : Nat) (k : SetId) (activeToo : Bool) : State :=
  let s := s.dropArmed n k
  let s := { s with
    shadow := k.rows.foldl (fun m (r, i) => m.put (r.key n i 512 0) (r.dflt i 0)) s.shadow
    shadowBlobs := k.blobRows.foldl (fun m (r, i) => m.put (r.key n i 512 0) (blobDefault r)) s.shadowBlobs }
  if activeToo then
    { s with regs := k.rows.foldl (fun m (r, i) => m.put (r.key n i 512 0) (r.dflt i 0)) s.regs,
             blobs := k.blobRows.foldl (fun m (r, i) => m.put (r.key n i 512 0) (blobDefault r)) s.blobs }
  else s

/-! ### Extents and geometry -/

/-- Bytes of a signature table (R63). -/
def sigTableBytes (w h : Nat) : Nat := 64 + 8 * cdiv w 32 * cdiv h 32

/-- The extents a layer set names: address, length and access (R659). -/
def LayerCfg.extents (c : LayerCfg) : List (Nat × Nat) :=
  [(c.addr, c.pitch * c.bufH)]
    ++ (if is420 c.format then [(c.chromaAddr, c.chromaPitch * cdiv c.bufH 2)] else [])
    ++ (if c.sigAddr ≠ 0 then [(c.sigAddr, sigTableBytes c.bufW c.bufH)] else [])

/-- Width and height of the active area. -/
def State.activeW (s : State) (n : Nat) : Nat := s.rdN Obj.H_ACTIVE n
def State.activeH (s : State) (n : Nat) : Nat := s.rdN Obj.V_ACTIVE n

/-- FORMAT of R125: the code is listed for the layer (R105). -/
def formatOk (l : Nat) (c : LayerCfg) : Bool :=
  isLayerFormat c.format && (if isVideo c.format then l < 4 else true) && (if l = 15 then c.format = 0x01 else true)

/-- GEOMETRY of R125: R107, R109, R110, and the echo image of R119, whose limit of 256 the spec gives no reason code (DESIGN CHOICE:
assumption 149). -/
def geometryOk (l : Nat) (c : LayerCfg) : Bool :=
  let even (k : Nat) : Bool := k % 2 = 0
  (if is420 c.format then even c.srcX && even c.srcY && even c.srcW && even c.srcH
   else if c.format = 0x22 then even c.srcX && even c.srcW else true)
  && 1 ≤ c.srcW && 1 ≤ c.srcH && c.srcX + c.srcW ≤ c.bufW && c.srcY + c.srcH ≤ c.bufH
  && 1 ≤ c.dstW && c.dstW ≤ 7680 && 1 ≤ c.dstH && c.dstH ≤ 4320
  && (if l < 4 then c.srcW ≤ 2 * c.dstW && c.dstW ≤ 8 * c.srcW && c.srcH ≤ 2 * c.dstH && c.dstH ≤ 8 * c.srcH
      else c.srcW = c.dstW && c.srcH = c.dstH)
  && (if l = 15 then c.srcW ≤ 256 && c.srcH ≤ 256 else true)

/-- ALIGNMENT of R125 for a layer set (R106). -/
def alignmentOk (c : LayerCfg) : Bool :=
  c.addr % 256 = 0 && c.pitch % 256 = 0
  && (if is420 c.format then c.chromaAddr % 256 = 0 && c.chromaPitch % 256 = 0 else true)
  && (c.sigAddr = 0 || c.sigAddr % 64 = 0)

/-- The write-back area of a station set's copy: address, bytes, and whether R150 is met. -/
def wbArea (get : ObjRow → Int) : Nat × Nat × Bool :=
  let g (r : ObjRow) : Nat := (get r).toNat
  let d := max 1 (g Obj.WB_SPATIAL_DECIMATION)
  (g Obj.WB_ADDR, g Obj.WB_PITCH * cdiv (g Obj.CROP_H) d,
    g Obj.WB_ADDR % 256 = 0 && g Obj.WB_PITCH % 256 = 0 && cdiv (g Obj.CROP_W) d * 4 ≤ g Obj.WB_PITCH)

/-- A region's rectangle and pages through a copy of its objects. -/
structure RegionCfg where
  enable : Bool
  x : Nat
  y : Nat
  w : Nat
  h : Nat
  base : Nat
  pages : Nat
  page : Nat
  policy : Nat
  mode : Nat
  scope : Nat
  hold : Nat
  fill : Nat
  glyph : Nat
  tie : Nat
deriving DecidableEq, Repr

/-- A region's settings read through a copy. -/
def regionCfgOf (get : ObjRow → Int) : RegionCfg :=
  let g (r : ObjRow) : Nat := (get r).toNat
  { enable := get Obj.REGION_ENABLE != 0, x := g Obj.REGION_X, y := g Obj.REGION_Y, w := g Obj.REGION_W,
    h := g Obj.REGION_H, base := g Obj.REF_BASE, pages := g Obj.REF_PAGES, page := g Obj.REF_PAGE,
    policy := g Obj.UNCHECKED_POLICY, mode := g Obj.SHUTTER_MODE, scope := g Obj.SHUTTER_SCOPE,
    hold := g Obj.SHUTTER_HOLD, fill := g Obj.SHUTTER_FILL, glyph := g Obj.SHUTTER_GLYPH, tie := g Obj.TIE_LAYER }

/-- The active copy of a region. -/
def State.regionActive (s : State) (n g : Nat) : RegionCfg := regionCfgOf fun r => s.rd r n g

/-- The shadow of a region. -/
def State.regionShadow (s : State) (n g : Nat) : RegionCfg := regionCfgOf fun r => s.rdShadow r n g

/-- The armed copy of a region, if it is armed. -/
def State.regionArmed (s : State) (n g : Nat) : Option RegionCfg :=
  ((s.cmp n).armed.find (.guard g)).map fun a =>
    regionCfgOf fun r => (((a.named n (.guard g)).find? fun v => v.1 = r.key n g 512 0).map (·.2)).getD 0

/-- Segments of a line of the region (R154). -/
def RegionCfg.segs (c : RegionCfg) : Nat := cdiv c.w 32

/-- Entries of a page of the region (R157). -/
def RegionCfg.pageSize (c : RegionCfg) : Nat := c.h * c.segs

/-- Two rectangles share a pixel. -/
def rectsMeet (x y w h x' y' w' h' : Int) : Bool :=
  x < x' + w' && x' < x + w && y < y' + h' && y' < y + h

/-- Two regions share a pixel (R153). -/
def RegionCfg.meets (a b : RegionCfg) : Bool := rectsMeet a.x a.y a.w a.h b.x b.y b.w b.h

/-- Two regions' pages share an entry (R165). -/
def RegionCfg.sharesPages (a b : RegionCfg) : Bool :=
  a.base < b.base + b.pages * b.pageSize && b.base < a.base + a.pages * a.pageSize

/-- The copies of another region that reasons 8 and 9 compare with: the shadow about to be armed where the same arm cycle
names it, else its armed and active copies (R165). -/
def State.compareRegions (s : State) (n g : Nat) (named : Nat) : List RegionCfg :=
  (if bit g named then [s.regionShadow n g] else (s.regionArmed n g).toList ++ [s.regionActive n g]).filter RegionCfg.enable

/-- Reason of R125 or R165 for which a layer, station or guard set of a commit is refused; 0 where it passes. `named` is the
mask of the guard sets of the arm cycle. -/
def State.refusal (s : State) (n : Nat) (who : Requester) (named : Nat) (k : SetId) : Nat :=
  let w := s.writerOf who
  let held : Bool := match k.block n with
    | none => (match w with
        | .tenant t => s.hasRight t n 2
        | .manager => s.stationSetHolder n = .manager
        | .enclave _ | .nobody => false)
    | some b => (match w with
        | .tenant t => s.sliceHolds t b
        | .manager => s.normalHolder b = .manager
        | .enclave e => (s.lock b).st = .secure && (s.lock b).enclave = e
        | .nobody => false)
  let secured : Bool := match k.block n, w with
    | some b, .tenant _ | some b, .manager => !s.isNormal b
    | some _, .enclave _ | some _, .nobody | none, _ => false
  if !held then 1
  else if secured then 2
  else match k with
    | .layer l =>
      let c := s.layerShadow n l
      if !c.enable then 0
      else if !formatOk l c then 3
      else if !geometryOk l c then 4
      else if !alignmentOk c then 5
      else if c.extents.any (fun e => !s.inside w n 1 e.1 e.2) then 6
      else 0
    | .station =>
      let (a, len, ok) := wbArea fun r => s.rdShadow r n
      let on := s.rdShadow Obj.WB_ENABLE n != 0
      if on && !ok then 5
      else if !s.inside w n 2 a len then 6
      else 0
    | .guard g =>
      let c := s.regionShadow n g
      if !c.enable then 0
      else if c.w = 0 || c.h = 0 || s.activeW n < c.x + c.w || s.activeH n < c.y + c.h then 4
      else if c.pages ≤ c.page || !bit c.page (s.rdN Obj.PAGES_LOADED n g) then 7
      else
        let others := ((List.range 32).filter (· ≠ g)).flatMap fun o => s.compareRegions n o named
        if others.any c.meets then 8
        else if 131072 < c.base + c.pages * c.pageSize || others.any c.sharesPages then 9
        else 0

/-! ### Arming -/

/-- The sets a layer mask of 17 bits and a guard mask of 32 bits name, in the order of R615. -/
def setsOf (layerMask guardMask : Nat) : List SetId :=
  (maskBits 16 layerMask).map .layer ++ (if bit 16 layerMask then [.station] else []) ++ (maskBits 32 guardMask).map .guard

/-- The regions a commit of layers names through TIE_LAYER (R164). -/
def State.tiedRegions (s : State) (n : Nat) (who : Requester) (layerMask : Nat) : Nat :=
  (List.range 32).foldl (fun m g =>
    let tie := s.rdShadowN Obj.TIE_LAYER n g
    if tie < 16 && bit tie layerMask && s.holder ⟨n, .region, g⟩ = s.writerOf who then m + 2 ^ g else m) 0

/-- The first set of a commit that fails, with its reason (R123, R125, R165). -/
def State.firstRefusal (s : State) (n : Nat) (who : Requester) (named : Nat) : List SetId → Option (SetId × Nat)
  | [] => none
  | k :: rest => match s.refusal n who named k with
    | 0 => s.firstRefusal n who named rest
    | r => some (k, r)

/-- The masks of a list of sets: layers and the station set, and guard sets. -/
def masksOf (l : List SetId) : Nat × Nat :=
  l.foldl (fun m k => match k with
    | .layer x => (m.1 + 2 ^ x, m.2)
    | .station => (m.1 + 2 ^ 16, m.2)
    | .guard g => (m.1, m.2 + 2 ^ g)) (0, 0)

/-- The sequence a commit carries: the tenant's `COMMIT_SEQ` (R127); 0 for a manager or an enclave, who have none (DESIGN CHOICE:
assumption 150). -/
def State.seqOf (s : State) (n : Nat) (h : Holder) : Nat :=
  match h with
  | .tenant t => s.rdN Obj.COMMIT_SEQ n 0 t
  | .enclave _ | .manager | .nobody => 0

/-- A commit all of whose sets have been replaced sends COMMIT_SUPERSEDED and is forgotten (R131). -/
def State.dropSuperseded (s : State) (n : Nat) : State :=
  let c := s.cmp n
  let alive (id : Nat) : Bool := c.armed.any fun e => e.2.commit = id
  let gone := c.commits.filter fun e => !alive e.1
  let s := s.setCmp n { c with commits := c.commits.filter fun e => alive e.1 }
  s.each gone fun s e =>
    s.toHolder n e.2.holder (s.mkRec 0x0002 2 n noTenant [(e.2.seq, 16), (e.2.layerMask, 17), (e.2.guardMask, 32)])

/-- The accepted sets arm in one cycle: each replaced copy is counted, and commits wholly replaced are told (R123, R131). -/
def State.armSets (s : State) (n : Nat) (who : Requester) (sets : List SetId) : State :=
  let h := s.writerOf who
  let s := match h with
    | .tenant t => s.advance Obj.COMMIT_SEQ n 0 t
    | .enclave _ | .manager | .nobody => s
  let c := s.cmp n
  let id := c.nextCommit
  let replaced := (sets.filter fun k => (c.armed.find k).isSome).length
  let armed := sets.foldl (fun m k => m.put k (s.armedCopy n k id)) c.armed
  let (lm, gm) := masksOf sets
  let rec_ : CommitRec := { holder := h, seq := s.seqOf n h, armTime := s.time, layerMask := lm, guardMask := gm }
  let s := s.setCmp n { c with armed := armed, nextCommit := id + 1, commits := c.commits.put id rec_ }
  let s := s.count Obj.COMMITS_SUPERSEDED n 0 512 0 replaced
  s.dropSuperseded n

/-- An event of a station crosses to another of its clock domains, and is counted where it merges with one that is held (R591, R593). -/
def State.stationEvent (s : State) (k : CrossKey) (n : Nat) : State :=
  match s.cross k 0 with
  | (true, s) => s.count Obj.EVENT_MERGES n
  | (false, s) => s

/-- An end event of R201 while the generator counts: the first one of a blanking or of SELF_REFRESH is kept; while the main link is
stopped it starts the link wake at once (R207). -/
def State.endEvent (s : State) (n : Nat) : State :=
  let s := if (s.dsp n).counting then s.stationEvent (.endEvent n) n else s
  let d := s.dsp n
  if d.counting && d.endEvent.isNone then
    let s := s.setDsp n { d with endEvent := some s.time }
    if d.psrStopped && s.stationState n = stRunning then s.emit (.link n "wake from self-refresh, training pattern") else s
  else s

/-- A commit of layer, station and guard sets by a writer: refused with its reason and first failing set, or armed (R123,
R125, R164, R165, R201). Answers whether it was accepted. `named` adds guard sets of the same arm cycle (R467). -/
def State.commitSets (s : State) (n : Nat) (who : Requester) (sets : List SetId) (named : Nat := 0) : State × Bool :=
  match sets with
  | [] => (s, true)
  | _ =>
    let gm := (masksOf sets).2
    match s.firstRefusal n who (gm ||| named) sets with
    | some (k, r) =>
      let s := s.count Obj.COMMITS_REFUSED n
      (s.toHolder n (s.writerOf who) (s.mkRec 0x0003 2 n noTenant [(r, 8), (k.code, 6)]), false)
    | none => ((s.armSets n who sets).endEvent n, true)

/-- A write of `LAYER_COMMIT` that passed its path's checks: the named sets and the regions tied to them (R122, R164). -/
def State.layerCommit (s : State) (n : Nat) (who : Requester) (mask : Nat) (named : Nat := 0) : State × Bool :=
  s.commitSets n who (setsOf mask (s.tiedRegions n who mask)) named

/-- A write of `GUARD_COMMIT` that passed its path's checks (R163). -/
def State.guardCommit (s : State) (n : Nat) (who : Requester) (mask : Nat) (named : Nat := 0) : State × Bool :=
  s.commitSets n who (setsOf 0 mask) named

/-! ### Latching -/

/-- A latch: every armed set becomes active, data fetched for it may be used, and its commits are told (R126, R127, R138).
`frame` is the counter of the first frame that shows them. Answers the sets latched. -/
def State.latchSets (s : State) (n frame : Nat) : State × List SetId :=
  let c := s.cmp n
  let armed := c.armed
  let s := s.each armed fun s e => s.activate n e.1 e.2
  let ids := armed.map fun e => e.2.commit
  let s := s.setCmp n { c with
    armed := []
    commits := []
    shown := armed.foldl (fun m e => match c.commits.find e.2.commit with
      | some r => m.put e.1 r.holder
      | none => m) c.shown
    fetched := c.fetched.map fun f => match f.commit with
      | some id => if ids.contains id then { f with commit := none } else f
      | none => f }
  let s := s.each c.commits fun s e =>
    let sets := (armed.filter fun a => a.2.commit = e.1).map (·.1)
    match sets with
    | [] => s
    | _ =>
      let (lm, gm) := masksOf sets
      let lead := min (s.time - e.2.armTime) (2 ^ 32 - 1)
      (s.toHolder n e.2.holder (s.mkRec 0x0001 2 n noTenant
        [(e.2.seq, 16), (lm, 17), (gm, 32), (frame, 32), (lead, 32)])).count Obj.COMMITS_LATCHED n
  let latched := armed.map (·.1)
  let g := s.grd n
  let named (k : Nat) : Bool := latched.contains (.guard k)
  (s.setGrd n { g with closed := g.closed.filter (fun k => !named k), hold := g.hold.filter fun e => !named e.1 }, latched)

/-- Layers whose buffer a revoked window covered are disabled at a latch and LAYER_FAULT is raised, and a write-back whose area it covered
is switched off (assumption 151); the revocations of the station complete (R136). -/
def State.latchRevocations (s : State) (n : Nat) : State :=
  let c := s.cmp n
  let s := s.setCmp n { c with revoking := [] }
  let s := s.each c.revoking fun s (k, t) =>
    match k with
    | .layer l =>
      let s := (s.wr Obj.LAYER_ENABLE 0 n l).count Obj.LAYER_FAULTS n
      s.toHolder n (.tenant t) (s.mkRec 0x0006 2 n noTenant [(l, 4), (2, 4), (0, 13)])
    | .station => s.wr Obj.WB_ENABLE 0 n
    | .guard _ => s
  s.each (c.revoking.map (·.2)).eraseDups fun s t =>
    let v := s.slc t
    let s := s.setSlc t { v with revoking := v.revoking.filter fun r => r.1 ≠ n }
    s.each (v.revoking.filter fun r => r.1 = n) fun s r => s.wr Obj.WINDOW (r.2.2 : Nat) 0 n t r.2.1

end Sys2Proof.Machine
end

