-- ==== Sys2Proof/Machine/Zones.lean ====
section
/-! DEFINITION. Touch zones as the engine and the compositor use them (R245, R260, R261). -/
namespace Sys2Proof.Machine

/-- The settings of a zone in use since the start of the latest pair (R245). -/
def State.zoneCfg (s : State) (n z : Nat) : ZoneCfg := (s.tch n).zones.getD z {}

/-- A pixel lies in a zone's rectangle. -/
def ZoneCfg.has (c : ZoneCfg) (px py : Int) : Bool :=
  c.enable && (c.x : Int) ≤ px && px < c.x + c.w && (c.y : Int) ≤ py && py < c.y + c.h

/-- The zone is held by an enclave (R245, R402). -/
def State.zoneSecure (s : State) (n z : Nat) : Bool :=
  match s.holder ⟨n, .zone, z⟩ with
  | .enclave _ => true
  | .tenant _ | .manager | .nobody => false

/-- The holder that reports of a zone go to: an enclave, else the holder since the start of the latest pair (R245). -/
def State.zoneHolder (s : State) (n z : Nat) : Holder :=
  match s.holder ⟨n, .zone, z⟩ with
  | .enclave e => .enclave e
  | .tenant _ | .manager | .nobody => (s.zoneCfg n z).holder

/-- A lock cycle of the zone has been requested and is not yet ready (R261). -/
def State.zoneInCycle (s : State) (n z : Nat) : Bool :=
  match (s.lock ⟨n, .zone, z⟩).st with
  | .locking | .locked | .returning => true
  | .normal | .secure => false

/-- The zones a copy may not meet (R261). -/
def State.shyZones (s : State) (n : Nat) : List Nat :=
  (List.range 16).filter fun z => (s.zoneCfg n z).enable && (s.zoneSecure n z || s.zoneInCycle n z)

/-- The zone a pixel belongs to: one held by an enclave whatever its number, else the highest-numbered enabled one (R245). -/
def State.zoneAt (s : State) (n : Nat) (px py : Int) : Option Nat :=
  let inside := ((List.range 16).filter fun z => (s.zoneCfg n z).has px py).reverse
  match inside.find? fun z => s.zoneSecure n z with
  | some z => some z
  | none => inside.head?

/-- A rectangle meets a zone. -/
def ZoneCfg.meets (c : ZoneCfg) (x y : Int) (w h : Nat) : Bool := c.enable && rectsMeet x y w h c.x c.y c.w c.h

end Sys2Proof.Machine
end

