-- ==== Sys2Proof/Machine/SafeStore.lean ====
section
/-! DEFINITION. The safe store: its format, its checks, the safe image and the glyphs (R172 to R177). -/
namespace Sys2Proof.Machine

/-- `SAFE_STORE_STATE` values of R186. -/
def ssEmpty : Nat := 0
def ssValid : Nat := 1
def ssInvalid : Nat := 2
def ssLoading : Nat := 3

/-- Header fields of R173. -/
structure SafeHeader where
  glyphs : Nat
  imageW : Nat
  imageH : Nat
  scale : Nat
  palette : Nat
  background : Nat
  lineTable : Nat
  crc : Nat
  size : Nat
deriving DecidableEq, Repr

/-- The header of a content (R173). PALETTE_COUNT is stored as count - 1. -/
def safeHeader (b : Bytes) : SafeHeader :=
  { glyphs := fieldLE b 2 2, imageW := fieldLE b 4 2, imageH := fieldLE b 6 2, scale := byteAt b 8,
    palette := byteAt b 9 + 1, background := bits 29 0 (fieldLE b 0xC 4), lineTable := fieldLE b 0x10 4,
    crc := fieldLE b 0x14 4, size := fieldLE b 0x18 4 }

/-- Runs of an image line from an offset: palette index and length (R174); none where they pass the end of the content, name
an index outside the palette, or do not cover the width exactly (R177). Each run covers at least one pixel, so `fuel`
equal to the width suffices. -/
def safeRuns (b : Bytes) (size palette : Nat) : Nat → Nat → Nat → Option (List (Nat × Nat))
  | _, _, 0 => some []
  | 0, _, _ + 1 => none
  | fuel + 1, off, left + 1 =>
    if size < off + 2 then none
    else
      let len := byteAt b off + 1
      let ix := byteAt b (off + 1)
      if palette ≤ ix || left + 1 < len then none
      else (safeRuns b size palette fuel (off + 2) (left + 1 - len)).map ((ix, len) :: ·)

/-- Offset of an image line (R174). -/
def safeLineOffset (b : Bytes) (h : SafeHeader) (line : Nat) : Nat := fieldLE b (h.lineTable + 4 * line) 4

/-- A glyph entry: offset, width, height and colour index (R173). -/
def glyphEntry (b : Bytes) (g : Nat) : Nat × Nat × Nat × Nat :=
  let o := 0x420 + 8 * g
  (fieldLE b o 4, byteAt b (o + 4) + 1, byteAt b (o + 5) + 1, byteAt b (o + 6))

/-- The content is well formed (R177). Only the first GLYPH_COUNT entries are glyph entries, and "points beyond CONTENT_SIZE" looks at the
whole mask and the whole line table (DESIGN CHOICE: assumption 154). -/
def safeWellFormed (b : Bytes) : Bool :=
  let h := safeHeader b
  fieldLE b 0 2 = 1 && h.glyphs ≤ 64 && h.imageW ≤ 7680 && h.imageH ≤ 4320
  && (h.scale = 1 || h.scale = 2 || h.scale = 4) && h.palette ≤ 255
  && fieldLE b 0xA 2 = 0 && fieldLE b 0x1C 4 = 0
  && 0x620 ≤ h.size && h.size ≤ 524288 && h.size ≤ b.length
  && ((List.range h.glyphs).all fun g =>
        let (off, w, hh, ix) := glyphEntry b g
        off + cdiv w 8 * hh ≤ h.size && ix < h.palette && byteAt b (0x420 + 8 * g + 7) = 0)
  && h.lineTable + 4 * h.imageH ≤ h.size
  && ((List.range h.imageH).all fun y =>
        safeLineOffset b h y ≤ h.size
        && (safeRuns b h.size h.palette h.imageW (safeLineOffset b h y) h.imageW).isSome)

/-- CONTENT_CRC checks (R173). -/
def safeCrcOk (b : Bytes) : Bool :=
  let h := safeHeader b
  crc32c (slice b 0x20 (h.size - 0x20)) = h.crc

/-- The outcome of the check of a content (R177). -/
def safeCheck (b : Bytes) : Nat :=
  if b.isEmpty then ssEmpty else if safeWellFormed b && safeCrcOk b then ssValid else ssInvalid

/-- A palette colour: bits 31:30 are ignored (R173). -/
def safeColour (b : Bytes) (ix : Nat) : Nat := bits 29 0 (fieldLE b (0x20 + 4 * ix) 4)

/-- The palette index of pixel `x` of a line of runs. -/
def runAt : List (Nat × Nat) → Nat → Nat
  | [], _ => 0
  | (ix, len) :: rest, x => if x < len then ix else runAt rest (x - len)

/-- A pixel of the safe image at an active-area position (R175); black while the state is not VALID (R177). -/
def safePixel (valid : Bool) (b : Bytes) (activeW activeH x y : Nat) : Nat :=
  if !valid then 0
  else
    let h := safeHeader b
    let left := fdiv ((activeW : Int) - (h.imageW * h.scale : Nat)) 2
    let top := fdiv ((activeH : Int) - (h.imageH * h.scale : Nat)) 2
    let ix := fdiv ((x : Int) - left) h.scale
    let iy := fdiv ((y : Int) - top) h.scale
    if 0 ≤ ix && ix < h.imageW && 0 ≤ iy && iy < h.imageH then
      match safeRuns b h.size h.palette h.imageW (safeLineOffset b h iy.toNat) h.imageW with
      | some runs => safeColour b (runAt runs ix.toNat)
      | none => h.background
    else h.background

/-- Whether the safe store is in force (R177). -/
def State.safeValid (s : State) (n : Nat) : Bool := s.rdN Obj.SAFE_STORE_STATE n = ssValid

/-- A safe-image pixel of a station (R175, R177). -/
def State.safePx (s : State) (n x y : Nat) : Nat :=
  safePixel (s.safeValid n) (s.blob Obj.SAFE_STORE n) (s.activeW n) (s.activeH n) x y

/-- A pixel of a region's shutter under GLYPH (R172): none for a glyph number at or above GLYPH_COUNT, whose picture the
spec does not give. -/
def State.glyphPx (s : State) (n : Nat) (c : RegionCfg) (x y : Nat) : Option Nat :=
  if !s.safeValid n then some c.fill
  else
    let b := s.blob Obj.SAFE_STORE n
    let h := safeHeader b
    if h.glyphs ≤ c.glyph then none
    else
      let (off, w, hh, ix) := glyphEntry b c.glyph
      let gx := (x : Int) - c.x - fdiv ((c.w : Int) - w) 2
      let gy := (y : Int) - c.y - fdiv ((c.h : Int) - hh) 2
      if 0 ≤ gx && gx < w && 0 ≤ gy && gy < hh && bit (gx.toNat % 8) (byteAt b (off + gy.toNat * cdiv w 8 + gx.toNat / 8)) then
        some (safeColour b ix)
      else some c.fill

/-- Whether a region is CLOSED (R183, R184). -/
def State.regionClosed (s : State) (n g : Nat) : Bool := (s.grd n).closed.contains g

/-- A region's shutter content at a pixel (R172, R183); free for a glyph that the content does not hold (assumption 1). -/
def State.shutterPx (s : State) (n g : Nat) (c : RegionCfg) (x y : Nat) : Nat :=
  if s.regionClosed n g || c.mode = 0 then c.fill
  else if c.mode = 1 then s.safePx n x y
  else (s.glyphPx n c x y).getD (Config.freeNat (s.free + x) % 2 ^ 30)

/-! ### Loading and writing -/

/-- A content is put in force with the outcome of its check (R176, R177). New content that takes effect while the safe image
is composed is noted for R141. -/
def State.putSafe (s : State) (n : Nat) (b : Bytes) : State :=
  let s := s.wrBlob Obj.SAFE_STORE b n
  let s := (s.wr Obj.SAFE_STORE_STATE (safeCheck b) n).stReady n 5 (safeCheck b = ssValid)
  let c := s.cmp n
  s.setCmp n { c with newSafeContent := c.newSafeContent || s.rdN Obj.COMPOSE_SOURCE n = 1 }

/-- The LAST segment of a segmented write, or a whole write, has arrived: the state is LOADING until the check (R177). -/
def State.safeLoading (s : State) (n : Nat) (b : Bytes) : State :=
  let g := s.grd n
  ((s.setGrd n { g with safePending := some b }).wr Obj.SAFE_STORE_STATE ssLoading n).stReady n 5 false

/-- The check of new content ends (R177): an event without new content changes nothing. -/
def State.safeChecked (s : State) (n : Nat) : State :=
  let g := s.grd n
  match g.safePending with
  | none => s
  | some b => (s.setGrd n { g with safePending := none }).putSafe n b

end Sys2Proof.Machine
end

