-- ==== Sys2Proof/Machine/Compose.lean ====
section
/-! DEFINITION. Composition of a line: the echo set, the layer stack, the safe image, the verdicts and the shutter (R116 to
R121, R137, R143, R167 to R175, R260 to R264). -/
namespace Sys2Proof.Machine

/-! ### Echo -/

/-- The contacts of the echo set that a table gives (R260). -/
def State.echoSetOf (s : State) (n : Nat) (table : List TableEntry) : List TableEntry :=
  if s.rdN Obj.COMPOSE_SOURCE n ≠ 2 || !s.rdB Obj.LAYER_ENABLE n 15 then []
  else
    let zoneOk (e : TableEntry) : Bool :=
      bit ((s.zoneAt n e.px e.py).getD 16) (s.rdN Obj.ECHO_ZONES n)
    let ok := table.filter fun e => (e.confirmed || (e.st = .tentative && s.rdB Obj.ECHO_TENTATIVE n)) && !e.secure && zoneOk e
    (ok.filter TableEntry.confirmed ++ ok.filter fun e => !e.confirmed).take (s.rdN Obj.ECHO_MAX_COPIES n)

/-- The contacts of the echo set for a line whose composition starts now (R260). -/
def State.echoSet (s : State) (n : Nat) : List TableEntry := s.echoSetOf n (s.cmp n).contacts

/-- A pixel lies in a region's rectangle. -/
def RegionCfg.has (c : RegionCfg) (x y : Nat) : Bool := c.x ≤ x && x < c.x + c.w && c.y ≤ y && y < c.y + c.h

/-- The enabled regions of the active set (R153). -/
def State.openRegions (s : State) (n : Nat) : List (Nat × RegionCfg) :=
  (List.range 32).filterMap fun g => let c := s.regionActive n g; if c.enable then some (g, c) else none

/-- The copies of a line in increasing contact ID, each with a pixel on it, and the positions fixed for the frame. A copy begins at its top
row or not at all in a frame: one whose top row had its turn before the table came into use first appears in the next (R119 to R121, R261,
R266). -/
def State.echoLine (s : State) (n y : Nat) : List EchoCopy × FMap Nat (Int × Int) :=
  let c := s.layerActive n 15
  let regions := s.openRegions n
  let pos0 := (s.cmp n).echoPos
  let step (acc : List EchoCopy × FMap Nat (Int × Int)) (e : TableEntry) : List EchoCopy × FMap Nat (Int × Int) :=
    let here : Int × Int := (e.px - (s.rdN Obj.ECHO_HOTSPOT_X n : Nat), e.py - (s.rdN Obj.ECHO_HOTSPOT_Y n : Nat))
    let p := acc.2.getD e.id here
    let begun : Bool := (acc.2.find e.id).isSome || ((s.cmp n).tableFrom : Int) ≤ max 0 p.2
    if begun && p.2 ≤ (y : Int) && (y : Int) < p.2 + c.srcH then
      let copy : EchoCopy := ⟨e.id, p.1, p.2, c.srcW, c.srcH⟩
      let shy := (s.shyZones n).any fun z => (s.zoneCfg n z).meets p.1 p.2 c.srcW c.srcH
      let seen := (List.range c.srcW).any fun i =>
        let x := p.1 + (i : Nat)
        0 ≤ x && x < (s.activeW n : Int) && !regions.any fun r => r.2.has x.toNat y
      (if shy || !seen then acc.1 else acc.1 ++ [copy], acc.2.put e.id p)
    else acc
  let sorted := (List.range 256).flatMap fun k => (s.echoSet n).filter fun e => e.id = k
  sorted.foldl step ([], pos0)

/-! ### The stack -/

/-- The owner tag under which a layer's buffer is read: its holder's (R394). -/
def State.layerTag (s : State) (n l : Nat) : Nat := (s.holder ⟨n, .layer, l⟩).tag

/-- Bytes of a layer's buffer: a fetched row that may be used, else memory; none where poisoned, or while the controller does not serve
(R138 to R140, R335). -/
def State.layerBytes (s : State) (n l : Nat) : RowReader := fun a len =>
  match (s.cmp n).fetched.find? (fun f => f.commit.isNone && f.addr ≤ a && a + len ≤ f.addr + f.len) with
  | some f => f.data.map fun d => padTo len (d.drop (a - f.addr))
  | none => if !s.memServes n || s.isPoisoned n a len then none else some (s.readTagged n a len (s.layerTag n l))

/-- What a layer other than L15 gives at a pixel: not there, poisoned, or a pixel before the colour stages (R110 to R113). -/
def layerSample (c : LayerCfg) (rows : RowReader) (l : Nat) (x y : Int) : Option (Option Px) :=
  if c.enable && c.dstX ≤ x && x < c.dstX + c.dstW && c.dstY ≤ y && y < c.dstY + c.dstH then
    some (if l < 4 then scaledPx c rows (x - c.dstX) (y - c.dstY)
          else sourcePx c rows (c.srcX + (x - c.dstX).toNat) (c.srcY + (y - c.dstY).toNat))
  else none

/-- The accumulator of a pixel and the layers whose data was poisoned (R116, R140). -/
structure PixelAcc where
  acc : Px
  faults : List Nat

/-- One layer's sample blended over the accumulator. -/
def State.blendLayer (s : State) (n l : Nat) (c : LayerCfg) (p : PixelAcc) (v : Option (Option Px)) : PixelAcc :=
  match v with
  | none => p
  | some none => ⟨p.acc, l :: p.faults⟩
  | some (some px) =>
    let q := colourStages (s.blob Obj.PRE_LUT n l) (s.blob Obj.MATRIX n l) (s.blob Obj.POST_LUT n l) px
    ⟨blendPx c.blend c.alpha q p.acc, p.faults⟩

/-- The composed pixel of the layer stack at (x, y) with the layers that faulted (R116, R118, R121). -/
def State.stackPx (s : State) (n x y : Nat) (copies : List EchoCopy) (guarded : Bool) : Nat × List Nat :=
  let start : PixelAcc := ⟨expandColour (s.rdN Obj.BACKGROUND_COLOUR n), []⟩
  let below := (List.range 15).foldl (fun p l =>
    let c := s.layerActive n l
    s.blendLayer n l c p (layerSample c (s.layerBytes n l) l x y)) start
  let c15 := s.layerActive n 15
  let all := if guarded then below else copies.foldl (fun p k =>
    if k.x ≤ (x : Int) && (x : Int) < k.x + k.w then
      s.blendLayer n 15 c15 p (some (sourcePx c15 (s.layerBytes n 15) (c15.srcX + ((x : Int) - k.x).toNat)
        (c15.srcY + ((y : Int) - k.y).toNat)))
    else p) below
  (outputPx (s.blob Obj.OUTPUT_LUT n) all.acc, all.faults)

/-! ### Verdicts -/

/-- The entry of a segment (R157). -/
def RegionCfg.entry (c : RegionCfg) (line seg : Nat) : Nat := c.base + c.page * c.pageSize + line * c.segs + seg

/-- A reload of the region's page in use is in progress (R162). -/
def State.pageReloading (s : State) (n g : Nat) (c : RegionCfg) : Bool :=
  match (s.grd n).load with
  | some l => l.region = g && l.page = c.page
  | none => false

/-- The verdict of a segment (R167, R162). -/
def State.verdict (s : State) (n g : Nat) (c : RegionCfg) (line seg : Nat) (pixels : List Nat) : Verdict :=
  let e := (s.grd n).refs.getD (c.entry line seg) {}
  if e.parityBad || s.pageReloading n g c then .mismatch
  else if !e.present then .unchecked
  else if e.ref = signature pixels then .isMatch
  else .mismatch

/-- A segment of the region on a line above `y` has met a mismatch in the frame: among the lines emitted, or in the transom on a line that
is ready (R169, R179). -/
def State.mismatchBefore (s : State) (n g y : Nat) : Bool :=
  ((s.grd n).frame.getD g {}).mismatch > 0
    || (s.cmp n).transom.any fun t => t.ready && t.y < y && t.segs.any fun r => r.region = g && r.verdict = some .mismatch

/-- The results of a region's segments of one line, from left to right (R167 to R171). In a CLOSED region every segment is shuttered, and by
no policy of its own (R183, R184; assumption 56). -/
def State.regionSegs (s : State) (n g : Nat) (c : RegionCfg) (y : Nat) (pixels : List Nat) : List SegResult :=
  let line := y - c.y
  let closed := s.regionClosed n g
  let safe := s.rdN Obj.COMPOSE_SOURCE n ≠ 2
  let hold := (s.grd n).hold.getD g 0 > 0
  let step (acc : List SegResult × Bool) (k : Nat) : List SegResult × Bool :=
    if safe then (acc.1 ++ [⟨g, y, k, none, true, false⟩], acc.2)
    else
      let px := (pixels.drop (c.x + 32 * k)).take (min 32 (c.w - 32 * k))
      let v := s.verdict n g c line k px
      let wide := acc.2 || (v = .mismatch && c.scope = 1)
      let policy := v = .unchecked && c.policy = 0 && !closed
      (acc.1 ++ [⟨g, y, k, some v, closed || hold || wide || v = .mismatch || policy, policy⟩], wide)
  ((List.range c.segs).foldl step ([], c.scope = 1 && s.mismatchBefore n g y)).1

/-- The pixels of a line after the shutter (R168, R172). -/
def State.shutterLine (s : State) (n y : Nat) (segs : List SegResult) (regions : List (Nat × RegionCfg)) (pixels : List Nat) :
    List Nat :=
  pixels.zipIdx.map fun (p, x) =>
    match regions.find? fun r => r.2.has x y with
    | none => p
    | some (g, c) =>
      if segs.any fun r => r.region = g && r.seg = (x - c.x) / 32 && r.shuttered then s.shutterPx n g c x y else p

/-! ### A line -/

/-- The segments of a line whose reference entries fail their parity on this read: those listed, and those that failed before (R162). -/
def State.parityFails (s : State) (n y : Nat) (errors : List (Nat × Nat)) : List (Nat × Nat) :=
  if s.rdN Obj.COMPOSE_SOURCE n ≠ 2 then []
  else
    ((s.openRegions n).filter fun r => r.2.y ≤ y && y < r.2.y + r.2.h).flatMap fun (g, c) =>
      ((List.range c.segs).filter fun k =>
        errors.contains (g, k) || ((s.grd n).refs.getD (c.entry (y - c.y) k) {}).parityBad).map fun k => (g, k)

/-- Each failing read marks the page damaged and is counted (R162). -/
def State.markParity (s : State) (n y : Nat) (errors : List (Nat × Nat)) : State :=
  s.each (s.parityFails n y errors) fun s (g, k) =>
    let c := s.regionActive n g
    let d := s.grd n
    let ix := c.entry (y - c.y) k
    let s := s.setGrd n { d with refs := d.refs.put ix { d.refs.getD ix {} with parityBad := true } }
    (s.wr Obj.PAGES_DAMAGED ((setBit c.page (s.rdN Obj.PAGES_DAMAGED n g) : Nat)) n g).count Obj.REF_PARITY_ERRORS n

/-- A contact of the echo set, as far as an end event of R201 goes. -/
def echoPlace (e : TableEntry) : Nat × Int × Int := (e.id, e.px, e.py)

/-- The contact table of the latest pair comes into use 15 µs after the pair (R235); a change of the echo set is an end event then (R201).
Lines whose composition starts from now on take it (R266). -/
def State.takeTable (s : State) (n : Nat) : State :=
  let c := s.cmp n
  match c.contactsNext with
  | some (at_, t) =>
    if at_ ≤ s.time then
      let changed : Bool := (s.echoSetOf n t).map echoPlace ≠ (s.echoSet n).map echoPlace
      let s := s.setCmp n { c with contacts := t, contactsNext := none, tableFrom := if c.composing then c.nextLine else 0 }
      if changed then s.endEvent n else s
    else s
  | none => s

/-- A pair, or a drain, writes a new contact table, used 15 µs later (R235). A table whose time has come is taken first. A contact of the
echo set that is TENTATIVE in the table before and no longer CONFIRMED or TENTATIVE in the new one is counted (R265). -/
def State.newTable (s : State) (n : Nat) (t : List TableEntry) : State :=
  let s := s.takeTable n
  let before := match (s.cmp n).contactsNext with
    | some (_, b) => b
    | none => (s.cmp n).contacts
  let stays (e : TableEntry) : Bool := t.any fun f => f.id = e.id && (f.st = .tentative || f.st = .confirmed)
  let gone := (s.echoSetOf n before).filter fun e => e.st = .tentative && !stays e
  let s := s.count Obj.ECHO_WITHDRAWN n 0 512 0 gone.length
  s.setCmp n { s.cmp n with contactsNext := some (s.time + 15000, t) }

/-- The line composed now, with the layers that faulted (R116, R137, R145, R168). -/
def State.composedLine (s : State) (n y : Nat) : TransomLine × List Nat × FMap Nat (Int × Int) :=
  let w := s.activeW n
  let regions := s.openRegions n
  let (copies, pos) := s.echoLine n y
  let px : List (Nat × List Nat) := (List.range w).map fun x =>
    if s.rdN Obj.COMPOSE_SOURCE n = 2 then s.stackPx n x y copies (regions.any fun r => r.2.has x y)
    else (s.safePx n x y, [])
  let pixels := px.map (·.1)
  let faults := (List.range 16).filter fun l => px.any fun p => p.2.contains l
  let segs := (regions.filter fun r => r.2.y ≤ y && y < r.2.y + r.2.h).flatMap fun r => s.regionSegs n r.1 r.2 y pixels
  ({ y := y, ready := faults.isEmpty, composed := pixels, out := s.shutterLine n y segs regions pixels, segs := segs,
     copies := copies }, faults, pos)

/-- Lines in order (R143). -/
def insertLine (l : TransomLine) : List TransomLine → List TransomLine
  | [] => [l]
  | t :: rest => if l.y < t.y then l :: t :: rest else t :: insertLine l rest

/-- LAYER_FAULT of a layer to its holder (R136, R140). -/
def State.layerFault (s : State) (n l cause line : Nat) : State :=
  (s.count Obj.LAYER_FAULTS n).toHolder n (s.holder ⟨n, .layer, l⟩)
    (s.mkRec 0x0006 2 n noTenant [(l, 4), (cause, 4), (line, 13)])

/-- The line that composition takes next, if it may run (R143, R264). -/
def State.nextToCompose (s : State) (n : Nat) : Option Nat :=
  let c := s.cmp n
  if !c.composing || c.transom.length ≥ s.rdN Obj.TRANSOM_TARGET n then none
  else match c.recompose with
    | y :: _ => some y
    | [] => if c.nextLine < s.activeH n then some c.nextLine else none

/-- A line is composed into a free transom line (R143, R145). One that needs data from a memory that does not serve waits (R335). -/
def State.composeLine (s : State) (n : Nat) (parity : List (Nat × Nat)) : State :=
  match s.nextToCompose n with
  | none => s
  | some y =>
    let s := (s.takeTable n).markParity n y parity
    let (line, faults, pos) := s.composedLine n y
    if faults ≠ [] && !s.memServes n then s else
    let s := s.each faults fun s l => s.layerFault n l 1 y
    let c := s.cmp n
    let s := if c.recompose.isEmpty then s else s.count Obj.ECHO_LINES_RECOMPOSED n
    let c := match c.recompose with
      | _ :: rest => { c with recompose := rest }
      | [] => { c with nextLine := y + 1 }
    ({ s with free := s.free + s.activeW n } : State).setCmp n { c with transom := insertLine line c.transom, echoPos := pos }

/-- A zone joins those a copy may not meet: transom lines that hold a pixel of a copy meeting it are discarded and composed
again in line order (R264). -/
def State.recomposeFor (s : State) (n z : Nat) : State :=
  let c := s.cmp n
  let zc := s.zoneCfg n z
  let marked (t : TransomLine) : Bool := t.copies.any fun k => zc.meets k.x k.y k.w k.h
  let lines := (c.transom.filter marked).map TransomLine.y
  s.setCmp n { c with transom := c.transom.filter fun t => !marked t,
                      recompose := (List.range (s.activeH n)).filter fun y => c.recompose.contains y || lines.contains y }

/-- Data of a layer arrives for composition, or ahead of a latch for an armed set (R138 to R140). -/
def State.layerFetched (s : State) (n l addr len : Nat) (forArmed : Bool) : State :=
  let c := s.cmp n
  let commit := if forArmed then (c.armed.find (.layer l)).map (·.commit) else none
  if (forArmed && commit.isNone) || !s.memServes n then s
  else
    let data := if s.isPoisoned n addr len then none else some (s.readTagged n addr len (s.layerTag n l))
    s.setCmp n { c with fetched := c.fetched ++ [⟨addr, len, data, commit⟩] }

end Sys2Proof.Machine
end

