-- ==== Sys2Proof/Machine/Headgate.lean ====
section
/-! DEFINITION. The headgate's checks of doorbell pages, the failure count and quarantine (R362 to R364, R373 to R376). -/
namespace Sys2Proof.Machine

/-- Slice states of R382. -/
def slUnbound : Nat := 0
def slActive : Nat := 1
def slResetting : Nat := 2
def slQuarantined : Nat := 3
def slPortReset : Nat := 4

/-- `SLICE_STATE`. -/
def State.sliceState (s : State) (t : Nat) : Nat := s.rdN Obj.SLICE_STATE 0 0 t

/-- What a failure of R374 leaves: the count, the last code, a record in the headworks log; and quarantine where the failures of
the window reach the threshold (R375). A failure while RESETTING is not counted (R379). -/
def State.spoof (s : State) (t code station : Nat) : State :=
  if s.sliceState t = slResetting then s
  else
    let s := (s.count Obj.SPOOF_COUNT 0 0 t).wr Obj.SPOOF_LAST ((code + 256 * (if station < 8 then station else 0) : Nat)) 0 0 t
    let s := s.toHwLog (s.mkRec 0x8002 0 (if station < 8 then station else noStation) t [(code, 8)])
    let window := s.rdN Obj.QUARANTINE_WINDOW_MS * 1000000
    let c := s.slc t
    let fs := (c.failures ++ [s.time]).filter fun x => s.time < x + window
    let s := s.setSlc t { c with failures := fs }
    let thr := s.rdN Obj.QUARANTINE_THRESHOLD
    if thr ≠ 0 && thr ≤ fs.length && s.sliceState t = slActive then
      let s := (s.setSlc t { s.slc t with quarantined := true }).wr Obj.SLICE_STATE slQuarantined 0 0 t
      (s.toTenant t (s.mkRec 0x0012 3 noStation t [(code, 8)])).alarm 14 1 noStation t
    else s

/-- What happens to a write of a doorbell page before its field is looked at: it is inert on the wrong port or for an unbound
slice and is counted there (R364); it is discarded without counting while the slice is not ACTIVE (R375, R377, R378). -/
inductive PageWrite where
  | inert | discarded | taken
deriving DecidableEq, Repr

def State.pageWrite (s : State) (p t : Nat) : PageWrite :=
  if s.rdN Obj.SLICE_PORT 0 0 t ≠ p || s.sliceState t = slUnbound then .inert
  else if s.sliceState t = slActive then .taken
  else .discarded

/-- A value of a doorbell page crosses to a station's control core; one that replaces another is counted (R591, R593). The headgate acts on its
own registers (R367, R370), so nothing else waits for the crossing. DEDUCED: assumption 80. -/
def State.crossDoorbell (s : State) (k : CrossKey) (n v : Nat) : State :=
  match s.cross k v with
  | (true, s) => s.count Obj.DOORBELL_VALUE_MERGES n
  | (false, s) => s

/-- A page write runs its effect where it is taken, is counted where it is inert, and is else discarded; what reaches the headgate while its
clock is gated is discarded too (R587, R594). -/
def State.onPage (s : State) (p t : Nat) (f : State → State) : State :=
  if s.hwGated 2 then s else
  match s.pageWrite p t with
  | .inert => s.count Obj.INERT_WRITES 0 p
  | .discarded => s
  | .taken => f s

/-- A page write to a field of a station: code 2 STATION where the slice is not bound to it (R373). -/
def State.onStationPage (s : State) (p t n : Nat) (f : State → State) : State :=
  s.onPage p t fun s => if s.sliceOn t n then f s else s.spoof t 2 n

/-- A mailbox write of a tenant answered NO_RIGHT counts as a failure: code 7 for a source's objects, 8 for others (R373,
R374). -/
def State.mailboxSpoof (s : State) (who : Requester) (r : ObjRow) (n i j : Nat) (st : Option Status) : State :=
  match who, st with
  | .tenant t, some e =>
    if e.code = 7 then
      let source : Bool := match r.need i j with
        | .block .source _ => true
        | _ => false
      s.spoof t (if source then 7 else 8) (if r.station then n else noStation)
    else s
  | _, _ => s

/-- A dictionary write of a numeric value that is served: the checks of R461, then the object's own effect. -/
def State.onWrite (s : State) (who : Requester) (r : ObjRow) (v : Int) (n : Nat := 0) (i : Nat := 0) (tq : Nat := 512)
    (j : Nat := 0) (f : State → State) : State :=
  s.onRequest who fun s =>
    match s.checkWrite who r v n i tq j with
    | some e => (s.mailboxSpoof who r n i j (some e)).answer e
    | none => f s

end Sys2Proof.Machine
end

