-- ==== Sys2Proof/Machine/Station.lean ====
section
/-! DEFINITION. Station states and what entering a fault state does (R29 to R34, R137). -/
namespace Sys2Proof.Machine

/-- Causes of R35. -/
def causeEdge : Nat := 1
def causePll : Nat := 2
def causeGuard : Nat := 3
def causeFreeze : Nat := 4
def causeLost : Nat := 5

/-- A function is not gated: 0 touch, 1 haptic, 2 audio (R577). -/
def State.ungated (s : State) (n k : Nat) : Bool := !bit k (s.rdN Obj.FUNCTION_GATE n)

/-- Clocks and edge-slice supply of the functions that are gated and OFF are off; those of the others are on (R577). -/
def State.syncEdge (s : State) (n : Nat) : State :=
  let off (k : Nat) : Bool := s.rdN (if k = 0 then Obj.TOUCH_STATE else if k = 1 then Obj.HAPTIC_STATE else Obj.AUDIO_STATE) n = 0
  s.setCtl n { s.ctl n with unpowered := (List.range 3).filter fun k => !s.ungated n k && off k }

/-- `COMPOSE_SOURCE` takes a value; a change is an end event (R141, R201). -/
def State.setCompose (s : State) (n v : Nat) : State :=
  if s.rdN Obj.COMPOSE_SOURCE n = v then s
  else
    let s := s.setCmp n { s.cmp n with sourceChanged := true }
    (s.wr Obj.COMPOSE_SOURCE v n).endEvent n

/-- Whether the station shows its safe image in place of the stack (R137). -/
def State.showsSafe (s : State) (n : Nat) : Bool :=
  let st := s.stationState n
  st = stStarting || st = stFault || st = stMemoryFault

end Sys2Proof.Machine
end

