-- ==== Sys2Proof/Machine/Rings.lean ====
section
/-! DEFINITION. MSI-X messages (R371), the fetching of descriptors (R366, R367) and completions on a ring (R44, R365). -/
namespace Sys2Proof.Machine

/-- A message of a vector: sent where the host has unmasked the vector, else kept pending, one at most (R371). -/
def State.msix (s : State) (p v : Nat) : State :=
  let c := s.prt p
  if c.unmasked.contains v then s.emit (.msix p v)
  else if c.msixPending.contains v then s
  else s.setPrt p { c with msixPending := c.msixPending ++ [v] }

/-- An interrupt of a slice on its vector `k` (R371). -/
def State.irq (s : State) (t k : Nat) : State := s.msix (s.rdN Obj.SLICE_PORT 0 0 t) (4 * t + k)

/-- An interrupt on the vector that `VECTOR_MAP` gives: 0 touch, 1 notification, 2 mailbox (R371). -/
def State.irqMapped (s : State) (t which : Nat) : State :=
  s.irq t (bits (2 * which + 1) (2 * which) (s.rdN Obj.VECTOR_MAP 0 0 t))

/-- A write to host memory under a slice's PASID on its port (R10, R361). -/
def State.hostWrite (s : State) (t addr : Nat) (b : Bytes) : State :=
  s.emit (.hostWrite (s.rdN Obj.SLICE_PORT 0 0 t) (s.rdN Obj.SLICE_PASID 0 0 t) addr b)

/-- A ring of a slice. -/
def State.ring (s : State) (t n q : Nat) : Ring := (s.slc t).rings.getD (n, q) {}

/-- The state with a ring replaced. -/
def State.setRing (s : State) (t n q : Nat) (r : Ring) : State :=
  let c := s.slc t
  s.setSlc t { c with rings := c.rings.put (n, q) r }

/-- The index of a ring's objects (R382). -/
def ringIx (n q : Nat) : Nat := 4 * n + q

/-- Entries of a ring. -/
def State.ringSize (s : State) (t n q : Nat) : Nat := s.rdN Obj.RING_ENTRIES 0 (ringIx n q) t

/-! ### Fetching -/

/-- The right a ring needs: SUBMIT for jobs, TRANSFER for transfers (R359). -/
def State.ringRight (s : State) (t n q : Nat) : Bool :=
  s.hasRight t n (if s.rdN Obj.RING_KIND 0 (ringIx n q) t = 0 then 0 else 1)

/-- A ring has a descriptor pending and places for one more completion, and may be fetched (R360, R365, R366, R375, R380). -/
def State.fetchable (s : State) (t n q : Nat) : Bool :=
  let r := s.ring t n q
  let size := s.ringSize t n q
  !s.hwGated 2 && s.sliceState t = slActive && s.rdN Obj.RING_STATE 0 (ringIx n q) t = 1 && s.ringRight t n q
    && (r.head + r.reading) % size ≠ r.tail
    && r.outstanding + r.reading + (r.compTail + size - r.compHead % size) % size < size - 1

/-- One ring is served before another: by class, tenant and queue (R367). -/
def ringBefore (a b : Nat × Nat × Nat) : Bool :=
  a.1 < b.1 || (a.1 = b.1 && (a.2.1 < b.2.1 || (a.2.1 = b.2.1 && a.2.2 < b.2.2)))

/-- Insertion by `ringBefore`. -/
def ringInsert (x : Nat × Nat × Nat) : List (Nat × Nat × Nat) → List (Nat × Nat × Nat)
  | [] => [x]
  | y :: l => if ringBefore x y then x :: y :: l else y :: ringInsert x l

/-- The rings of a station in the order of a turn: tenant and queue (R367). -/
def State.ringOrder (s : State) (n : Nat) : List (Nat × Nat) :=
  let all := s.slices.flatMap fun e => e.2.rings.filterMap fun r =>
    if r.1.1 = n then some (s.rdN Obj.SLICE_CLASS 0 0 e.1, e.1, r.1.2) else none
  (all.foldl (fun l x => ringInsert x l) []).map (·.2)

/-- Bytes of transfer writes that a station's sluice holds (R367). -/
def sluiceBytes : Nat := 16384

/-- Bytes of transfer writes in a station's sluice (R367). -/
def State.sluiceUsed (s : State) (n : Nat) : Nat :=
  ((s.ringOrder n).map fun r => ((s.ring r.1 n r.2).xfers.map fun x => x.sluiced.length).sum).sum

/-- The sluice of a station has a place for what is read now, and is not full of transfer writes (R18, R367, R655). -/
def State.sluiceRoom (s : State) (n : Nat) : Bool :=
  (s.ingress.getD n []).length + ((s.ringOrder n).map fun r => (s.ring r.1 n r.2).reading).sum < 32 && s.sluiceUsed n < sluiceBytes

/-- The fetches of a ring stop: what its outstanding reads bring is discarded (R377, R380). -/
def Ring.stop (r : Ring) : Ring := { r with reading := 0, stale := r.stale + r.reading }

/-- A read of one descriptor is issued (R365, R367). -/
def State.issueRead (s : State) (t n q : Nat) : State :=
  let r := s.ring t n q
  let addr := s.rdN Obj.RING_ADDR 0 (ringIx n q) t + 64 * ((r.head + r.reading) % s.ringSize t n q)
  (s.setRing t n q { r with reading := r.reading + 1 }).emit
    (.hostRead (s.rdN Obj.SLICE_PORT 0 0 t) (s.rdN Obj.SLICE_PASID 0 0 t) addr 64)

/-- A turn: one descriptor from each ring that has one pending (R367). -/
def State.fetchTurn (s : State) (n : Nat) : State :=
  s.each (s.ringOrder n) fun s r => if s.fetchable r.1 n r.2 && s.sluiceRoom n then s.issueRead r.1 n r.2 else s

/-- Turns until no ring can be fetched; the sluice's 32 places bound them. -/
def State.fetchTurns (s : State) (n : Nat) : Nat → State
  | 0 => s
  | k + 1 => if (s.ringOrder n).any (fun r => s.fetchable r.1 n r.2) && s.sluiceRoom n then (s.fetchTurn n).fetchTurns n k else s

/-- The headgate fetches for a station as far as it can (R367). -/
def State.fetch (s : State) (n : Nat) : State := s.fetchTurns n 32

/-! ### Completions -/

/-- A completion: the record, then the shadow, then the fence, then the interrupt (R44, R365). A fence outside the slice's
windows is not written (R361). -/
def State.completion (s : State) (t n q : Nat) (record : Bytes) (fence : Option (Nat × Nat)) (irq : Bool) : State :=
  let i := ringIx n q
  let r := s.ring t n q
  let s := s.hostWrite t (s.rdN Obj.COMP_ADDR 0 i t + 32 * r.compTail) record
  let r := { r with compTail := (r.compTail + 1) % s.ringSize t n q, outstanding := r.outstanding - 1 }
  let s := (s.setRing t n q r).hostWrite t (s.rdN Obj.SHADOW_ADDR 0 i t) (toLE 4 r.head ++ toLE 4 r.compTail)
  let s := match fence with
    | some (a, v) => if s.inside (.tenant t) n 2 a 8 then s.writeTagged n a (toLE 8 v) 0 else s
    | none => s
  if irq then s.irq t (s.rdN Obj.RING_VECTOR 0 i t) else s

/-- The 32 bytes of a completion record (R44). -/
def completionRecord (jobId flushes status written skipped energy runUs time : Nat) : Bytes :=
  toLE 4 jobId ++ toLE 2 (min flushes 0xFFFF) ++ toLE 2 status ++ toLE 4 (min written 0xFFFFFFFF)
    ++ toLE 4 (min skipped 0xFFFFFFFF) ++ toLE 4 (min energy 0xFFFFFFFF) ++ toLE 4 (min runUs 0xFFFFFFFF) ++ toLE 8 time

end Sys2Proof.Machine
end

