-- ==== Sys2Proof/Machine/Spirv.lean ====
section
/-! DEFINITION. What the translator reads in the words of a SPIR-V module, and what it refuses (R50 to R52). The words, opcodes and
enumerants are those of the SPIR-V 1.6 standard that R50 names. -/
namespace Sys2Proof.Machine

/-! ### Words and instructions -/

/-- The little-endian words of a module (R10). -/
def spirvWords (b : Bytes) : List Nat := (List.range (b.length / 4)).map fun k => fieldLE b (4 * k) 4

/-- An instruction: its opcode and its operand words. -/
structure SpirvInsn where
  op : Nat
  args : List Nat
deriving DecidableEq, Repr

/-- The instructions after the header; none where a word count is 0 or runs past the end. -/
def spirvInsns : Nat → List Nat → Option (List SpirvInsn)
  | _, [] => some []
  | 0, _ :: _ => none
  | fuel + 1, w :: rest =>
    let count := w / 65536
    if count = 0 || rest.length < count - 1 then none
    else (spirvInsns fuel (rest.drop (count - 1))).map (⟨w % 65536, rest.take (count - 1)⟩ :: ·)

/-- A module as its instructions: magic number, version 1.6, bound and schema in a header of five words (R50). -/
def spirvModule (b : Bytes) : Option (List SpirvInsn) :=
  let ws := spirvWords b
  if b.length % 4 = 0 && 5 ≤ ws.length && ws.getD 0 0 = 0x07230203 && ws.getD 1 0 = 0x00010600 then spirvInsns ws.length (ws.drop 5)
  else none

/-! ### What is accepted -/

/-- Addressing model Logical or PhysicalStorageBuffer64, memory model GLSL450 or Vulkan (R50). -/
def memoryModelOk (i : SpirvInsn) : Bool :=
  i.op ≠ 14 || ((i.args.getD 0 9 = 0 || i.args.getD 0 9 = 5348) && (i.args.getD 1 9 = 1 || i.args.getD 1 9 = 3))

/-- Execution model Vertex, Fragment or GLCompute (R50). -/
def executionModelOk (i : SpirvInsn) : Bool :=
  i.op ≠ 15 || i.args.getD 0 9 = 0 || i.args.getD 0 9 = 4 || i.args.getD 0 9 = 5

/-- The capabilities of R51 by their enumerants, in the order of its groups. -/
def capabilitiesOk : List Nat :=
  [1, 0, 50, 51, 42, 25, 49, 35, 40, 4427] ++ [9, 39, 22, 11, 12] ++ [4448, 4449, 4433, 4434, 4435, 55, 56] ++ [29, 30, 5301, 5302]
    ++ [61, 62, 63, 64, 65, 66, 67, 68] ++ [5345, 5346, 5347] ++ [5379, 5378] ++ [6019, 6018]

/-- The bytes of a string. -/
def textBytes (t : String) : Bytes := t.toList.map fun c => BitVec.ofNat 8 c.toNat

/-- A literal string of operand words, up to its zero byte. -/
def literalString (ws : List Nat) : Bytes := (ws.flatMap (toLE 4)).takeWhile (· ≠ 0)

/-- The extensions of R51. -/
def extensionsOk : List Bytes := [textBytes "SPV_EXT_fragment_shader_interlock", textBytes "SPV_KHR_non_semantic_info"]

/-- What an instruction declares that the translator refuses with reason 2, with the capability it names: a capability outside the table, the
unordered form of the pixel interlock, and, with no capability to name, an extension (R51). -/
def refusedBy (i : SpirvInsn) : Option Nat :=
  if i.op = 17 then (if capabilitiesOk.contains (i.args.getD 0 0) then none else some (i.args.getD 0 0))
  else if i.op = 16 && i.args.getD 1 0 = 5367 then some 5378
  else if i.op = 10 && !extensionsOk.contains (literalString i.args) then some 0
  else none

/-- A pipeline exceeds a limit of R52, other than the size of a module. -/
def PipelineUse.exceeds (u : PipelineUse) : Bool :=
  8 < u.sets || 64 < u.bindings || 128 < u.sampled || 32 < u.buffers || 16 < u.images || 256 < u.push || 16 < u.vertexBindings
    || 32 < u.attributes || 8 < u.colours || 64 * 1024 < u.shared || 1024 < u.groupX || 1024 < u.groupY || 64 < u.groupZ
    || 1024 < u.groupX * u.groupY * u.groupZ

/-- The reason for which the translator refuses a pipeline, and the capability it names: 1 for a module that is not valid, 2 for a capability,
3 for a limit (R50 to R52). -/
def translationRefusal (modules : List Bytes) (topology : Nat) (r : TransResult) : Option (Nat × Nat) :=
  match modules.mapM spirvModule with
  | none => some (1, 0)
  | some ms =>
    let is := ms.flatten
    if !r.valid || 5 < topology || !(is.all fun i => memoryModelOk i && executionModelOk i) || ms.any (fun m => !m.any (·.op = 14)) then
      some (1, 0)
    else match is.findSome? refusedBy with
      | some c => some (2, c)
      | none =>
        if r.atomicsElsewhere then some (2, 12)
        else if r.uses.exceeds then some (3, 0)
        else none

end Sys2Proof.Machine
end

