-- ==== Sys2Proof/Machine/Jobs.lean ====
section
/-! DEFINITION. The job table, readiness, rank and dispatch, the planner's admission, and how jobs end (R32, R37 to R45, R54 to
R58, R69 to R72, R74 to R102, R435 to R438, R448). -/
namespace Sys2Proof.Machine

/-! ### The table -/

def jtNop : Nat := 0
def jtRender : Nat := 1
def jtCompute : Nat := 2
def jtLoad : Nat := 3
def jtDrop : Nat := 4

/-- Completion statuses of R45. -/
def csOk : Nat := 0
def csNotRunning : Nat := 1
def csBadDescriptor : Nat := 2
def csBadDrawList : Nat := 3
def csPipelineUnknown : Nat := 4
def csTranslationFailed : Nat := 5
def csAccessFault : Nat := 6
def csTileBudget : Nat := 7
def csTimeLimit : Nat := 8
def csShed : Nat := 9

/-- A job of the table by its key. -/
def State.job? (s : State) (n key : Nat) : Option Job := (s.ras n).jobs.find? fun j => j.key = key

/-- The table with a job replaced. -/
def State.setJob (s : State) (n : Nat) (j : Job) : State :=
  let r := s.ras n
  s.setRas n { r with jobs := r.jobs.map fun k => if k.key = j.key then j else k }

/-- A job changed in place, where the table holds it. -/
def State.updJob (s : State) (n key : Nat) (f : Job → Job) : State :=
  match s.job? n key with
  | some j => s.setJob n (f j)
  | none => s

def JobPhase.isEnded : JobPhase → Bool
  | .ended _ _ => true
  | .taken | .fenceWait | .queued | .deferred | .admitted | .translating => false

/-- The job is queued, waiting or running: it has not ended. -/
def Job.live (j : Job) : Bool := !j.phase.isEnded

/-- The job has a target layer (R77). -/
def Job.targeted (j : Job) : Bool := j.targetLayer < 16

/-- Bytes per pixel of a render pass (R37). -/
def Job.footprint (j : Job) : Nat := (j.atts.map fun a => a.bps * a.samples).sum

/-- Tiles of the pass a core holds at a time (R37). -/
def Job.resident (j : Job) : Nat := if j.footprint ≤ 128 then 2 else 1

/-- Bytes of the depth scratch of a pass whose depth attachment is not stored (R39). -/
def Job.depthScratch (j : Job) : Nat :=
  match j.atts.find? (fun a => a.isDepth && a.storeOp = 1) with
  | some a => cdiv j.width 32 * cdiv j.height 32 * 1024 * a.bps * a.samples
  | none => 0

/-- The pipeline that draws a primitive (R59). -/
def Job.pipelineOf (j : Job) (seq : Nat) : Nat :=
  match j.draw.runs.find? (fun r => r.first ≤ seq && seq < r.first + r.count) with
  | some r => r.pipeline
  | none => 0

/-! ### The translation cache -/

/-- The entry a tenant's handle names for new jobs (R53, R55). -/
def State.pipe (s : State) (n t h : Nat) : Option CacheEntry :=
  (s.ras n).cache.find? fun e => e.tenant = t && e.handle = h && e.replacedFor.isNone && !e.dropPending

/-- The entry a job uses: the one it was admitted with, where that was replaced since (R55), or dropped and still named. -/
def State.pipeOf (s : State) (n : Nat) (j : Job) (h : Nat) : Option CacheEntry :=
  let mine := (s.ras n).cache.filter fun e => e.tenant = j.tenant && e.handle = h
  match mine.find? (fun e => match e.replacedFor with
      | some l => l.contains j.key
      | none => false) with
  | some e => some e
  | none => mine.find? fun e => e.replacedFor.isNone

/-- A queued or running job of the tenant names the handle (R54, R55). A job whose payload has not been read may name any handle of its
tenant (DESIGN CHOICE, safe: assumption 142). -/
def State.handleInUse (s : State) (n t h : Nat) : Bool :=
  (s.ras n).jobs.any fun j => j.live && j.tenant = t && (j.jtype = jtRender || j.jtype = jtCompute)
    && (j.phase = .taken || j.handles.contains h)

/-- The fixed-function block of a pipeline of a job. -/
def State.fixedOf (s : State) (n : Nat) (j : Job) (h : Nat) : FixedFunction := ((s.pipeOf n j h).map (·.fixed)).getD {}

/-- `CACHE_USED` of the tenants follows the cache (R73). -/
def State.syncCache (s : State) (n t : Nat) : State :=
  s.wr Obj.CACHE_USED ((((s.ras n).cache.filter fun e => e.tenant = t).map (·.sizeKib)).sum : Nat) n 0 t

/-- Entries whose last user is gone are freed (R55). -/
def State.sweepCache (s : State) (n : Nat) : State :=
  let r := s.ras n
  let liveKeys := (r.jobs.filter Job.live).map Job.key
  let keep (e : CacheEntry) : Bool :=
    match e.replacedFor with
    | some l => l.any liveKeys.contains
    | none => true
  let gone := r.cache.filter fun e => !keep e
  s.setRas n { r with cache := r.cache.filter keep } |>.each gone fun s e => s.syncCache n e.tenant

/-! ### Run times -/

/-- The core holds the job in the sense of R81: it runs units of it, and neither saves nor restores. -/
def ShaderCore.runs (c : ShaderCore) (key : Nat) : Bool :=
  c.job = some key && !c.units.isEmpty && c.saving.isNone && c.restoring.isNone

/-- Any core holds the job. -/
def State.onCores (s : State) (n key : Nat) : Bool := (s.ras n).cores.any fun c => c.runs key

/-- A tile of an earlier job that stores to one of the same addresses must be stored first (R43). -/
def State.tileBlocked (s : State) (n : Nat) (j : Job) (tx ty : Nat) : Bool :=
  let mine := (j.atts.filter (·.storeOp ≠ 1)).map Attachment.addr
  (s.ras n).jobs.any fun o => o.jtype = jtRender && o.phase = .admitted && o.admission < j.admission
    && (o.atts.any fun a => a.storeOp ≠ 1 && mine.contains a.addr)
    && tx < cdiv o.width 32 && ty < cdiv o.height 32 && !(o.fragPhase && !o.flushing && o.stored.contains (tx, ty))

/-- Earlier jobs of the ring let the job start (R42): a render job has ended binning, a compute job has been dispatched, any
other job has ended. -/
def State.ringClear (s : State) (n : Nat) (j : Job) : Bool :=
  (s.ras n).jobs.all fun o => !(o.tenant = j.tenant && o.queue = j.queue && o.key < j.key && o.live)
    || (o.jtype = jtRender && o.phase = .admitted && o.fragPhase && !o.flushing)
    || (o.jtype = jtCompute && o.phase = .admitted && o.started)

/-- Every pipeline the job names is translated: one that is loaded does not await its retranslation, and of one that is not loaded no
PIPELINE_LOAD stands before the job on its ring (R42, R55, R58, R83). -/
def State.pipesReady (s : State) (n : Nat) (j : Job) : Bool :=
  j.handles.all fun h => match s.pipeOf n j h with
    | some e => !e.withdrawn
    | none => (s.ras n).jobs.all fun o => !(o.tenant = j.tenant && o.queue = j.queue && o.key < j.key && o.live && o.jtype = jtLoad
        && (o.phase = .taken || o.pipeHandle = h))

/-- The job may start, or has started (R42, R58). -/
def State.mayStart (s : State) (n : Nat) (j : Job) : Bool := s.ringClear n j && (j.started || s.pipesReady n j)

/-- The next unit of a job that a core may take: the first whose tile is not held back, and that is no second range of a tile
for that core (R38, R43); of a binning pass a batch of at most 1,024 primitives. -/
def State.nextUnit (s : State) (n core : Nat) (j : Job) : Option WorkUnit :=
  if j.jtype = jtRender then
    (if j.fragPhase then
      j.units.find? fun u => match u with
        | .tile tx ty _ parts _ _ => !s.tileBlocked n j tx ty && (parts ≤ 1 || !(j.partCores.getD (tx, ty) []).contains core)
        | .binBatch _ _ | .workgroup _ => false
     else if j.toBin = 0 then none
     else some (.binBatch (j.draw.nextSeq - j.toBin) (min 1024 j.toBin)))
  else j.units.head?

/-- The job has a ready unit for some core (R74, R91). -/
def State.hasReadyUnit (s : State) (n : Nat) (j : Job) : Bool :=
  j.phase = .admitted && j.readyAt.isSome
    && (!j.saved.isEmpty || (s.mayStart n j && (List.range 4).any fun c => (s.nextUnit n c j).isSome))

/-- Device time passes on a station: run times, times per point and times without cores of its jobs, and the shares of its cores, advance
(R81, R91, R96, R423, R436). -/
def State.accrue (s : State) (n dt : Nat) : State :=
  let r := s.ras n
  let clock := s.rdN Obj.SHADER_CLOCK_MHZ n
  let point := s.rdN Obj.SHADER_POINT 0 n
  let upd (j : Job) : Job :=
    if s.onCores n j.key then
      { j with coreNs := j.coreNs + dt, runWork := j.runWork + dt * clock, pointNs := j.pointNs.put point (j.pointNs.getD point 0 + dt) }
    else if s.hasReadyUnit n j then
      match j.deadline with
      | some d => { j with coresHeld := j.coresHeld + ((s.time : Int) + dt - max (s.time : Int) d).toNat }
      | none => j
    else j
  let held := r.cores.filterMap fun c => (c.job.bind (s.job? n)).map fun j => (j.key, j.tenant)
  let shares := held.foldl (fun (m : FMap (Nat × Nat) Nat) k => m.put k (m.getD k 0 + dt)) r.shares
  s.setRas n { r with jobs := r.jobs.map upd, shares := shares, idle := r.idle + (4 - held.length) * dt }

/-! ### Rank and urgency -/

/-- The tier of R77. -/
def Job.tier (j : Job) : Nat := if !j.targeted then 2 else if j.urgent then 0 else 1

/-- The keys of R78; a boundary that is not yet published lies behind every other. -/
def Job.rank (j : Job) : List Nat :=
  [j.tier, if !j.targeted then 0 else if j.deadline.isSome then j.boundary else 2 ^ 64, j.sliceClass, j.admission]

/-- The smaller key in turn ranks higher (R78). -/
def lexLt : List Nat → List Nat → Bool
  | a :: as, b :: bs => a < b || (a = b && lexLt as bs)
  | [], _ :: _ => true
  | _, [] => false

def Job.above (a b : Job) : Bool := lexLt a.rank b.rank

/-- Jobs in rank order. -/
def rankInsert (j : Job) : List Job → List Job
  | [] => [j]
  | k :: rest => if j.above k then j :: k :: rest else k :: rankInsert j rest

def rankSort (l : List Job) : List Job := l.foldl (fun acc j => rankInsert j acc) []

/-- The effective estimate of an amount of work, in ns, rounded down (R82; DESIGN CHOICE: assumption 143). -/
def State.effective (s : State) (n : Nat) (work : Nat) : Nat := work / s.rdN Obj.SHADER_CLOCK_MHZ n

/-- The deadline point for a boundary (R83). -/
def State.deadlineFor (s : State) (n : Nat) (j : Job) (boundary : Nat) : Int :=
  (boundary : Int) - s.effective n j.estWork - s.rdN Obj.DEADLINE_MARGIN n * 1000

/-- Slots of the save area that are free (R76). -/
def State.freeSlots (s : State) (n : Nat) : List Nat := (List.range 8).filter fun k => !(s.ras n).slotsUsed.contains k

/-- `SAVE_SLOTS_FREE` (R102). -/
def State.syncSlots (s : State) (n : Nat) : State := s.wr Obj.SAVE_SLOTS_FREE ((s.freeSlots n).length : Nat) n

/-- The core `i`. -/
def State.core (s : State) (n i : Nat) : ShaderCore := (s.ras n).cores.getD i {}

/-- The state with a core replaced. -/
def State.setCore (s : State) (n i : Nat) (c : ShaderCore) : State :=
  let r := s.ras n
  s.setRas n { r with cores := setNth r.cores i c }

/-- Every core that runs a compute unit of a job ranked below an urgent one starts its context save; a restore in progress is
given up and its context stays saved (R87). -/
def State.preemptFor (s : State) (n : Nat) (u : Job) : State :=
  (List.range 4).foldl (fun (s : State) i =>
    let c := s.core n i
    match c.job.bind (s.job? n) with
    | none => s
    | some j =>
      if j.jtype = jtCompute && c.saving.isNone && u.above j then
        match c.restoring with
        | some x => (s.updJob n j.key fun j => { j with saved := x :: j.saved }).setCore n i {}
        | none =>
          match s.freeSlots n with
          | k :: _ =>
            let s := s.setRas n { s.ras n with slotsUsed := k :: (s.ras n).slotsUsed }
            (s.setCore n i { c with saving := some (k, s.time) }).count Obj.PREEMPTIONS n |>.syncSlots n
          | [] => s
      else s) s

/-- A job with a target whose deadline point has passed is urgent; its preemptions are still to be made (R77, R85, R87). -/
def Job.judged (j : Job) (now : Nat) : Job :=
  match j.deadline with
  | some d => if j.targeted && !j.urgent && d ≤ (now : Int) then { j with urgent := true, preempts := true } else j
  | none => j

/-- The jobs that have become urgent preempt, the highest in rank first: no two of them preempt each other in turn (R87, R92). -/
def State.preemptAll (s : State) (n : Nat) : State :=
  s.each (rankSort ((s.ras n).jobs.filter (·.preempts))) fun s u =>
    (s.preemptFor n { u with preempts := false }).updJob n u.key fun j => { j with preempts := false }

/-- The target boundary and the deadline point of a job: the next boundary where it is published, none until then (R83, R84). -/
def State.targetJob (s : State) (n : Nat) (j : Job) : Job :=
  let b := s.rdN Obj.NEXT_BOUNDARY n
  if !j.targeted || j.missed || b ≤ s.time then j
  else ({ j with boundary := b, deadline := some (s.deadlineFor n j b) } : Job).judged s.time

/-- An admitted job whose pipelines are translated becomes ready: its target boundary and its deadline point (R83, R85, R98). One that waits
for a translation is marked with the time from which it does (R96). -/
def State.markReady (s : State) (n key : Nat) : State :=
  match s.job? n key with
  | none => s
  | some j =>
    if j.phase ≠ .admitted || j.readyAt.isSome then s
    else if s.pipesReady n j then s.setJob n (s.targetJob n { j with readyAt := some s.time })
    else if j.translFrom.isNone then s.setJob n { j with translFrom := some s.time }
    else s

/-- Deadline points are recomputed for the present clock (R82, R85, R99); those of jobs that missed a boundary are not (R86). -/
def State.redeadline (s : State) (n : Nat) : State :=
  let r := s.ras n
  s.setRas n { r with jobs := r.jobs.map fun j =>
    if j.phase = .admitted && j.deadline.isSome && !j.missed then
      ({ j with deadline := some (s.deadlineFor n j j.boundary) } : Job).judged s.time
    else j }

/-- The next boundary is published: jobs that became ready since the last one take it as their target, and jobs that missed theirs take it as
their next (R83, R86). -/
def State.retarget (s : State) (n : Nat) : State :=
  let r := s.ras n
  let b := s.rdN Obj.NEXT_BOUNDARY n
  s.setRas n { r with jobs := r.jobs.map fun j =>
    if j.phase ≠ .admitted || j.readyAt.isNone then j
    else if j.missed then (if j.boundary ≤ s.time then { j with boundary := b } else j)
    else if j.deadline.isNone then s.targetJob n j
    else j }

/-! ### Objects -/

/-- `RESERVED_UJ` of a tenant (R435): what its admitted and incomplete jobs have still to be charged. -/
def State.syncReserved (s : State) (n t : Nat) : State :=
  let l := (s.ras n).jobs.filter fun j => j.tenant = t && j.phase = .admitted
  s.wr Obj.RESERVED_UJ ((l.map fun j => j.energyEstUj - j.charged / 100000).sum : Nat) 0 n t

/-- `JOBS_DEFERRED` and `RASTER_STATE` (R73, R102): 1 READY, 2 BUSY while the station runs. -/
def State.syncRaster (s : State) (n : Nat) : State :=
  let r := s.ras n
  let s := s.wr Obj.JOBS_DEFERRED ((r.jobs.filter fun j => j.phase = .deferred).length : Nat) n
  let st := s.rdN Obj.RASTER_STATE n
  if st = 1 || st = 2 then s.wr Obj.RASTER_STATE (if r.cores.any fun c => c.job.isSome then 2 else 1) n else s

/-! ### Ending -/

/-- A read of a job, checked against its tenant's windows and for poison; zeros under a foreign tag (R69, R341, R394). -/
def State.jobRead (s : State) (n t a len : Nat) : Option Bytes :=
  if s.inside (.tenant t) n 1 a len && !s.isPoisoned n a len then some (s.readTagged n a len 0) else none

/-- VALID is cleared in every signature table of the job inside the tenant's windows (R69). -/
def State.invalidateTables (s : State) (n : Nat) (j : Job) : State :=
  s.each j.atts fun s a =>
    if a.sigTable ≠ 0 && s.inside (.tenant j.tenant) n 2 a.sigTable (sigTableBytes j.width j.height) then
      s.writeTagged n a.sigTable [BitVec.ofNat 8 (clearBit 0 (s.byte n a.sigTable).toNat)] 0
    else s

/-- The cores and save slots a job holds are freed (R93). -/
def State.freeCores (s : State) (n key : Nat) : State :=
  let r := s.ras n
  let saving := (r.cores.filter fun c => c.job = some key).filterMap fun c =>
    match c.saving, c.restoring with
    | some (k, _), _ => some k
    | none, some x => some x.slot
    | none, none => none
  let held := match s.job? n key with
    | some j => j.saved.map SavedCtx.slot
    | none => []
  (s.setRas n { r with cores := r.cores.map fun c => if c.job = some key then {} else c,
                       slotsUsed := r.slotsUsed.filter fun k => !saving.contains k && !held.contains k }).syncSlots n

/-- A job ends with a status and a detail; its completion record follows (R44, R45, R69, R70, R72, R93, R100). -/
def State.endJob (s : State) (n key status : Nat) (detail : Nat := 0) : State :=
  match s.job? n key with
  | none => s
  | some j =>
    if !j.live then s
    else
      let s := s.freeCores n key
      let s := if status = csAccessFault || status = csTimeLimit || (j.started && status = csNotRunning) then
          s.invalidateTables n j
        else s
      let s := if status = csAccessFault then s.count Obj.ACCESS_FAULTS n else s
      let s := s.updJob n key fun j => { j with phase := .ended status detail, saved := [], units := [], heldParts := [], preempts := false }
      (s.syncReserved n j.tenant).sweepCache n

/-! ### Fragment phases -/

/-- Samples of an attachment as they are stored: one after RESOLVE (R62). -/
def Attachment.stored (a : Attachment) : Nat := if a.storeOp = 2 then 1 else a.samples

/-- The attachments of a job with their numbers. -/
def Job.numbered (j : Job) : List (Nat × Attachment) := (List.range j.atts.length).zip j.atts

/-- The attachment's signature table is treated as invalid for this pass (R64). -/
def State.tableInvalid (s : State) (n : Nat) (j : Job) (a : Attachment) : Bool :=
  let h := s.readTagged n a.sigTable 64 0
  !bit 0 (byteAt h 0) || (j.sigReset && !j.flushed) || !j.writeSkip || !s.rdB Obj.WRITE_SKIP_ENABLE n
    || byteAt h 1 ≠ a.format || byteAt h 2 ≠ a.stored || fieldLE h 4 2 ≠ j.width || fieldLE h 6 2 ≠ j.height

/-- Ranges a tile of P primitives is split into (R38). -/
def State.splitParts (s : State) (n p : Nat) : Nat :=
  let t := s.rdN Obj.TILE_SPLIT_THRESHOLD n
  if t ≠ 0 && t < p then min 4 (cdiv p t) else 1

/-- The units of a tile whose list holds `p` primitives: the tile, or its consecutive ranges (R38). -/
def State.tileUnits (s : State) (n p tx ty : Nat) : List WorkUnit :=
  let m := s.splitParts n p
  (List.range m).map fun k => .tile tx ty k m (k * (p / m) + min k (p % m)) (p / m + if k < p % m then 1 else 0)

/-- A fragment phase starts: tiles in row order from the top left, split where their lists are long (R38, R39). -/
def State.startFrag (s : State) (n key : Nat) (flushing : Bool) : State :=
  match s.job? n key with
  | none => s
  | some j =>
    let tiles := (List.range (cdiv j.height 32)).flatMap fun ty => (List.range (cdiv j.width 32)).map fun tx => (tx, ty)
    let prims (t : Nat × Nat) : Nat := (j.tilePrims.getD t []).length
    let bad := (j.numbered.filter fun a => a.2.sigTable ≠ 0 && a.2.storeOp ≠ 1 && s.tableInvalid n j a.2).map (·.1)
    s.setJob n { j with fragPhase := true, flushing := flushing, units := tiles.flatMap fun t => s.tileUnits n (prims t) t.1 t.2,
                        stored := [], frags := [], heldParts := [], partCores := [],
                        partsLeft := tiles.map fun t => (t, s.splitParts n (prims t)), sigInvalid := bad }

/-- Binning has ended and its last batch has: the fragment phase of the whole pass starts. -/
def State.tryFrag (s : State) (n key : Nat) : State :=
  match s.job? n key with
  | none => s
  | some j =>
    let binning := (s.ras n).cores.any fun c => c.job = some key
    if j.phase = .admitted && j.readyAt.isSome && j.jtype = jtRender && j.draw.ended && j.toBin = 0 && !j.fragPhase
        && j.heldBins.isEmpty && !binning && s.mayStart n j then s.startFrag n key false else s

/-- A compute job whose turn has come and whose pipeline is not loaded ends with PIPELINE_UNKNOWN; one of no workgroups ends with OK once
it may start (R42, R45). -/
def State.checkPipe (s : State) (n key : Nat) : State :=
  match s.job? n key with
  | none => s
  | some j =>
    if j.live && j.jtype = jtCompute && !j.started && j.phase ≠ .taken && s.pipesReady n j
        && j.handles.any (fun h => (s.pipeOf n j h).isNone) then s.endJob n key csPipelineUnknown
    else if j.phase = .admitted && j.readyAt.isSome && j.jtype = jtCompute && !j.started && j.units.isEmpty && s.mayStart n j then
      s.endJob n key csOk
    else s

/-- A render job starts: clear values of RGBA32F attachments are read once from the tenant's windows (R47). -/
def State.startRender (s : State) (n key : Nat) : State :=
  match s.job? n key with
  | none => s
  | some j =>
    if j.started || j.jtype ≠ jtRender then s
    else
      let wants (a : Attachment) : Bool := a.format = 0x0B && a.loadOp = 1
      if j.atts.any (fun a => wants a && (s.jobRead n j.tenant a.clear 16).isNone) then s.endJob n key csAccessFault
      else
        let load (a : Attachment) : Attachment :=
          if wants a then { a with clear := ofLE ((s.jobRead n j.tenant a.clear 16).getD []) } else a
        s.setJob n { j with atts := j.atts.map load }

/-! ### Dispatch -/

/-- A core runs compute units, or restores them; a core that is saving runs none. -/
def State.computesOn (s : State) (n : Nat) (c : ShaderCore) : Bool :=
  match c.job.bind (s.job? n) with
  | some j => j.jtype = jtCompute && c.saving.isNone && (!c.units.isEmpty || c.restoring.isSome)
  | none => false

/-- Cores that run compute units once core `i` does too (R76). -/
def State.computeCores (s : State) (n i : Nat) : Nat :=
  (((s.ras n).cores.filter (s.computesOn n)).length) + (if s.computesOn n (s.core n i) then 0 else 1)

/-- One workgroup more of a compute job fits a context that holds `k` of them (R75). -/
def State.groupFits (s : State) (n : Nat) (j : Job) (k : Nat) : Bool :=
  match j.handles.head?.bind (s.pipeOf n j) with
  | some e => (k + 1) * e.stateBytes ≤ slotBytes
  | none => false

/-- A compute unit placed on core `i` keeps enough free save slots (R76); a restored context frees its own slot. -/
def State.slotsAllow (s : State) (n i : Nat) (j : Job) : Bool :=
  s.computeCores n i ≤ (s.freeSlots n).length + (if j.saved.isEmpty then 0 else 1)

/-- A unit leaves the job's list for a core. -/
def Job.take (j : Job) (core : Nat) (u : WorkUnit) : Job :=
  match u with
  | .binBatch _ p => { j with toBin := j.toBin - p, started := true }
  | .tile tx ty _ _ _ _ => { j with units := j.units.erase u, started := true,
                                    partCores := j.partCores.put (tx, ty) (core :: j.partCores.getD (tx, ty) []) }
  | .workgroup _ => { j with units := j.units.erase u, started := true }

/-- As many workgroups as fit beside those the core runs (R75). -/
def State.fillGroups (s : State) (n i : Nat) (key : Nat) : Nat → State
  | 0 => s
  | fuel + 1 =>
    match s.job? n key with
    | none => s
    | some j =>
      let c := s.core n i
      match j.units with
      | u :: _ =>
        if s.groupFits n j c.units.length then
          ((s.setJob n (j.take i u)).setCore n i { c with job := some key, units := c.units ++ [(u, s.time)] }).fillGroups n i key fuel
        else s
      | [] => s

/-- A core takes tiles of a job while it has room for them (R37, R38). -/
def State.fillTiles (s : State) (n i : Nat) (key : Nat) : Nat → State
  | 0 => s
  | fuel + 1 =>
    match s.job? n key with
    | none => s
    | some j =>
      let c := s.core n i
      let room := if j.fragPhase then j.resident else 1
      match s.nextUnit n i j with
      | some u =>
        if j.live && c.units.length < room then
          ((s.setJob n (j.take i u)).setCore n i { c with job := some key, units := c.units ++ [(u, s.time)] }).fillTiles n i key fuel
        else s
      | none => s

/-- The job a free core serves next (R74, R76). -/
def State.pick (s : State) (n i : Nat) : Option Job :=
  (rankSort (s.ras n).jobs).find? fun j =>
    j.phase = .admitted && j.readyAt.isSome
      && (!j.saved.isEmpty || (s.mayStart n j && (s.nextUnit n i j).isSome))
      && (j.jtype ≠ jtCompute || (s.slotsAllow n i j && (!j.saved.isEmpty || s.groupFits n j 0)))

/-- The dispatcher gives a core its next work: the highest-ranked job with a ready unit, and on a core that still holds units only more of
its own job (R74 to R76, R91). -/
def State.fillCore (s : State) (n i : Nat) : State :=
  let c := s.core n i
  if c.saving.isSome || c.restoring.isSome then s
  else if c.units.isEmpty then
    match s.pick n i with
    | none => s.setCore n i {}
    | some j =>
      match j.saved with
      | x :: rest => (s.updJob n j.key fun j => { j with saved := rest }).setCore n i { job := some j.key, restoring := some x }
      | [] =>
        if j.jtype = jtCompute then (s.setCore n i {}).fillGroups n i j.key j.units.length
        else ((s.setCore n i {}).startRender n j.key).fillTiles n i j.key 2
  else
    match s.pick n i, c.job.bind (s.job? n) with
    | some j, some own =>
      if own.key ≠ j.key then s
      else if own.jtype = jtCompute then s.fillGroups n i j.key j.units.length
      else s.fillTiles n i j.key 1
    | _, _ => s

def State.dispatch (s : State) (n : Nat) : State := s.each (List.range 4) fun s i => s.fillCore n i

/-! ### Admission -/

/-- Handles a queued or running job of the table names are used now (R54). -/
def State.touchHandles (s : State) (n : Nat) (j : Job) : State :=
  let r := s.ras n
  let use (e : CacheEntry) : CacheEntry :=
    if e.tenant = j.tenant && j.handles.contains e.handle && e.replacedFor.isNone then { e with lastUse := s.time } else e
  s.setRas n { r with cache := r.cache.map use }

/-- The voltage of an operating point in mV (R419). -/
def pointMv (p : Nat) : Nat := [950, 880, 820, 760, 700, 650, 600, 550].getD p 550

/-- The estimates of a job, fixed at admission: work, and µJ (R80, R436). -/
def State.estimates (s : State) (n : Nat) (j : Job) : Nat × Nat :=
  let r := s.ras n
  let scale := s.rdN Obj.ESTIMATE_SCALE n
  let v := pointMv (s.rdN Obj.SHADER_POINT 0 n)
  let time := if j.timeEst ≠ 0 then j.timeEst * 1500000
    else match r.history.find (j.tenant, j.cls) with
      | some (h :: t) => (t.foldl max h) * scale / 100
      | some [] | none => s.rdN Obj.DEFAULT_TIME_ESTIMATE n * 1500000
  let energy := if j.energyEst ≠ 0 then j.energyEst
    else match r.energyHistory.find (j.tenant, j.cls) with
      | some (h :: t) => (t.foldl max h) * scale * v * v / (100 * 950 * 950)
      | some [] | none => s.rdN Obj.DEFAULT_ENERGY_ESTIMATE 0 n
  (time, energy)

/-- The planner admits a job (R80, R97, R437). -/
def State.admitJob (s : State) (n key : Nat) (forced : Bool) : State :=
  match s.job? n key with
  | none => s
  | some j =>
    let (time, energy) := s.estimates n j
    let r := s.ras n
    let s := s.setRas n { r with nextAdmission := r.nextAdmission + 1 }
    let s := s.setJob n { j with phase := .admitted, admission := r.nextAdmission, estWork := time, energyEstUj := energy }
    let s := (s.count Obj.ADMITS 0 n).touchHandles n j
    let s := if forced then s.count Obj.FORCED_ADMITS 0 n else s
    (s.syncReserved n j.tenant).markReady n key

/-- The credit cap of R435 in µJ: the allotment over 10 ms, times `BUCKET_PERIODS`. -/
def State.creditCap (s : State) (n t : Nat) : Nat :=
  s.rdN Obj.TENANT_ALLOTMENT_MW 0 n t * 10 * s.rdN Obj.BUCKET_PERIODS 0 n

/-- A job is presented to the planner (R97, R437). -/
def State.presentJob (s : State) (n key : Nat) : State :=
  match s.job? n key with
  | none => s
  | some j =>
    let first : Bool := j.phase ≠ .deferred
    let cls := s.rdN Obj.SLICE_CLASS 0 0 j.tenant
    let j := { j with sliceClass := cls, presentedAt := if first then s.time else j.presentedAt }
    let r := s.ras n
    let s := (s.setRas n { r with activeAt := r.activeAt.put j.tenant s.time }).setJob n j
    let avail := s.rd Obj.CREDIT_UJ 0 n j.tenant - s.rd Obj.RESERVED_UJ 0 n j.tenant
    let need := min (s.estimates n j).2 (s.creditCap n j.tenant)
    if s.rdB Obj.SHEDDING 0 n && cls = 2 then (s.count Obj.SHEDS 0 n).endJob n key csShed
    else if cls = 0 && decide (0 ≤ avail) then s.admitJob n key false
    else if (need : Int) ≤ avail then s.admitJob n key false
    else if s.rdN Obj.DEFER_LIMIT_MS 0 n * 1000000 ≤ s.time - j.presentedAt then s.admitJob n key true
    else
      let s := if first then s.count Obj.DEFERS 0 n else s
      s.updJob n key fun j => { j with phase := .deferred }

/-- The aged rank of a deferred job (R438). -/
def State.agedRank (s : State) (n : Nat) (j : Job) : Nat :=
  (2 - j.sliceClass) + (s.time - j.presentedAt) / (s.rdN Obj.AGE_STEP_MS 0 n * 1000000)

/-- Deferred jobs by decreasing aged rank, oldest first within a rank (R438). -/
def State.deferredOrder (s : State) (n : Nat) : List Nat :=
  let before (a b : Job) : Bool := s.agedRank n a > s.agedRank n b || (s.agedRank n a = s.agedRank n b && a.presentedAt < b.presentedAt)
  let rec ins (j : Job) : List Job → List Job
    | [] => [j]
    | k :: rest => if before j k then j :: k :: rest else k :: ins j rest
  (((s.ras n).jobs.filter fun j => j.phase = .deferred).foldl (fun acc j => ins j acc) []).map Job.key

/-- Deferred jobs are presented again: at each allotment update and at each completion (R97, R438). -/
def State.presentDeferred (s : State) (n : Nat) : State := s.each (s.deferredOrder n) fun s k => s.presentJob n k

/-! ### Jobs of the control core -/

/-- Outstanding PIPELINE_LOAD requests of a station (R56). -/
def State.pendingLoads (s : State) (n : Nat) : Nat := ((s.ras n).jobs.filter fun j => j.phase = .translating).length

/-- The modules of a pipeline record, read through the tenant's windows; its specialization data must lie there too (R50, R69). -/
def State.readModules (s : State) (n t : Nat) (r : PipelineRecord) : Option (List Bytes) :=
  if r.stages.all (fun e => e.specSize = 0 || (s.jobRead n t e.specAddr e.specSize).isSome) then
    r.stages.mapM fun e => s.jobRead n t e.addr e.size
  else none

/-- A NOP, PIPELINE_LOAD or PIPELINE_DROP whose turn has come on its ring is handled (R42, R55, R56). A handle that is not loaded
gives PIPELINE_UNKNOWN (R45); a module above 4 MiB gives reason 5 (R52). -/
def State.runControl (s : State) (n key : Nat) : State :=
  match s.job? n key with
  | none => s
  | some j =>
    if j.phase ≠ .queued || !s.ringClear n j then s
    else if j.jtype = jtNop then s.endJob n key csOk
    else if j.jtype = jtDrop then
      match s.pipe n j.tenant j.pipeHandle with
      | none => s.endJob n key csPipelineUnknown
      | some e =>
        let r := s.ras n
        let s := s.setRas n { r with cache := r.cache.map fun k => if k = e then { k with dropPending := true } else k }
        s.endJob n key csOk
    else match j.record with
      | none => s
      | some rec_ =>
        if rec_.stages.any (fun e => 4 * 2 ^ 20 < e.size) then s.endJob n key csTranslationFailed (5 * 2 ^ 16)
        else if 32 ≤ s.pendingLoads n then s
        else match s.readModules n j.tenant rec_ with
          | none => s.endJob n key csAccessFault
          | some modules =>
            let s := s.setJob n { j with phase := .translating }
            let s := s.wr Obj.TRANSLATIONS_PENDING ((s.pendingLoads n : Nat)) n
            let q : TransReq := { station := n, tenant := j.tenant, handle := j.pipeHandle, job := some key, modules := modules, fixed := rec_.fixed }
            { s with translator := { s.translator with queue := s.translator.queue ++ [q] } }

/-- Everything that follows at once from a change of the table: jobs of the control core in key order, jobs that become ready,
preemptions, dispatch, and the objects. -/
def State.settle (s : State) (n : Nat) : State :=
  let s := s.each ((s.ras n).jobs.map Job.key) fun s k => s.runControl n k
  let s := s.each ((s.ras n).jobs.map Job.key) fun s k => ((s.markReady n k).checkPipe n k).tryFrag n k
  ((s.preemptAll n).dispatch n).syncRaster n

/-! ### Completion -/

/-- The 16 newest of a history. -/
def pushHistory (h : FMap (Nat × Nat) (List Nat)) (k : Nat × Nat) (v : Nat) : FMap (Nat × Nat) (List Nat) :=
  h.put k ((v :: h.getD k []).take 16)

/-- The operating point at which a job held the cores longest (R436). -/
def Job.longestPoint (j : Job) : Nat :=
  (j.pointNs.foldl (fun (b : Nat × Nat) e => if e.2 > b.2 then e else b) (0, 0)).1

/-- A job that ended is completed: its record, shadow, fence and interrupt; its histories; and deferred jobs are presented again
(R44, R80, R97, R436). -/
def State.completeJob (s : State) (n key : Nat) : State :=
  match s.job? n key with
  | none => s
  | some j =>
    match j.phase with
    | .ended status detail =>
      let energy := if j.started then j.charged / 100000 else 0
      let render : Bool := j.jtype = jtRender
      let rec_ := completionRecord j.jobId j.binFlushes status (if render then j.tilesWritten else detail)
        (if render then j.tilesSkipped else 0) energy (j.coreNs / 1000) s.time
      let r := s.ras n
      let s := s.setRas n { r with jobs := r.jobs.filter fun k => k.key ≠ key }
      let s := s.completion j.tenant n j.queue rec_ j.fenceSignal j.irq
      let s := s.total Obj.JOBS_COMPLETED 1 n
      let s := if status = csOk && j.started then
          let r := s.ras n
          let v := pointMv j.longestPoint
          s.setRas n { r with history := pushHistory r.history (j.tenant, j.cls) j.runWork,
                              energyHistory := pushHistory r.energyHistory (j.tenant, j.cls) (energy * 950 * 950 / (v * v)) }
        else s
      ((s.sweepCache n).presentDeferred n).settle n
    | .taken | .fenceWait | .queued | .deferred | .admitted | .translating => s

/-! ### The frame boundary -/

/-- The cause of a LATE_LAYER record (R96). -/
def State.lateCause (s : State) (n : Nat) (j : Job) : Nat :=
  let waited : Bool := match j.translFrom, j.readyAt, j.deadline with
    | some w, some r, some d => (w : Int) ≤ d && d < (r : Int)
    | some _, none, _ => true
    | _, _, _ => false
  let late : Bool := match j.readyAt, j.deadline with
    | some r, some d => d < (r : Int)
    | _, _ => false
  if j.phase = .deferred then 1
  else if waited then 2
  else if late then 3
  else if s.rdN Obj.DEADLINE_MARGIN n * 1000 < j.coresHeld then 4
  else 5

/-- REMAINING in µs (R95); of a deferred job, whose estimate is not fixed yet, by the estimate it would get now (DESIGN CHOICE:
assumption 143). -/
def State.remaining (s : State) (n : Nat) (j : Job) : Nat :=
  if j.started then s.effective n (j.estWork - j.runWork) / 1000
  else s.effective n (if j.phase = .admitted then j.estWork else (s.estimates n j).1) / 1000

/-- At a frame boundary one LATE_LAYER record is logged for each incomplete job with a target layer whose fence is satisfied; a job that was
ready has missed the boundary and stays in tier 0 (R86, R94 to R96). -/
def State.lateLayers (s : State) (n : Nat) : State :=
  let s := s.each ((s.ras n).jobs.filter fun j => j.targeted && (j.phase = .deferred || j.phase = .admitted)) fun s j =>
    let rec_ := s.mkRec 0x0004 2 n j.tenant [(s.rdN Obj.FRAME_COUNTER n, 32), (j.jobId, 32), (min (s.remaining n j) 0xFFFFFFFF, 32),
      (j.targetLayer, 4), (s.lateCause n j, 3)]
    let s := ((s.toStationLog n rec_).toTenant j.tenant rec_).count Obj.LATE_LAYERS n
    if j.readyAt.isSome then
      s.updJob n j.key fun j => { j with missed := true, urgent := true, preempts := j.preempts || !j.urgent }
    else s
  s.settle n

/-! ### Resets and station states -/

/-- The credits and reservations of a tenant on a station return to 0 (R448). -/
def State.dropCredit (s : State) (n t : Nat) : State := (s.wr Obj.CREDIT_UJ 0 0 n t).wr Obj.RESERVED_UJ 0 0 n t

/-- The station leaves RUNNING: its jobs end with STATION_NOT_RUNNING, and credits return to 0 (R32, R72, R448). -/
def State.rasterLeave (s : State) (n : Nat) : State :=
  let s := s.each ((s.ras n).jobs.filter Job.live) fun s j => s.endJob n j.key csNotRunning
  let stays (q : TransReq) : Bool := q.station ≠ n || q.job.isNone
  let s := { s with translator := { s.translator with queue := s.translator.queue.filter stays,
                                                      current := s.translator.current.filter stays } }
  ((s.each tenants fun s t => s.dropCredit n t).wr Obj.TRANSLATIONS_PENDING 0 n).syncRaster n

/-- A SLICE reset on a station: the tenant's jobs end without completion, its cache entries, histories and credit go (R71, R81,
R448). -/
def State.rasterSlice (s : State) (n t : Nat) : State :=
  let mine := (s.ras n).jobs.filter fun j => j.tenant = t
  let s := s.each mine fun s j => if j.live then s.freeCores n j.key else s
  let r := s.ras n
  let s := s.setRas n { r with jobs := r.jobs.filter fun j => j.tenant ≠ t, cache := r.cache.filter fun e => e.tenant ≠ t,
                               history := r.history.filter fun e => e.1.1 ≠ t,
                               energyHistory := r.energyHistory.filter fun e => e.1.1 ≠ t }
  let mineReq (q : TransReq) : Bool := q.station = n && q.tenant = t
  let s := { s with translator := { s.translator with queue := s.translator.queue.filter (!mineReq ·),
                                                      background := s.translator.background.filter (!mineReq ·),
                                                      current := s.translator.current.filter (!mineReq ·) } }
  (((s.dropCredit n t).syncCache n t).wr Obj.TRANSLATIONS_PENDING (s.pendingLoads n : Nat) n).settle n

/-- A STATION reset: the histories are cleared, the cores and slots are free; the cache lies in memory and stays (R76, R81). -/
def State.rasterReset (s : State) (n : Nat) : State :=
  let r := s.ras n
  (s.setRas n { r with history := [], energyHistory := [], cores := [{}, {}, {}, {}], slotsUsed := [] }).syncSlots n

/-- The translation cache is lost with the memory (R58, R349), and with it what the translator was to make of its copies. -/
def State.loseCache (s : State) (n : Nat) : State :=
  let gone := ((s.ras n).cache.map CacheEntry.tenant).eraseDups
  let s := s.setRas n { s.ras n with cache := [] }
  let stays (q : TransReq) : Bool := q.station ≠ n || q.job.isSome
  let s := { s with translator := { s.translator with background := s.translator.background.filter stays,
                                                      current := s.translator.current.filter stays } }
  s.each gone fun s t => s.syncCache n t

/-- A reset of MGMT reach: the translation in progress is abandoned and starts again from the beginning (R57). -/
def State.translatorReset (s : State) : State :=
  let x := s.translator
  let (bg, fg) := x.current.toList.partition fun (q : TransReq) => q.job.isNone
  { s with translator := { queue := fg ++ x.queue, background := bg ++ x.background } }

/-- The cache region is reserved with the size that `TRANSLATION_CACHE_SIZE` holds when the station enters STARTING; the oldest entries that no
longer fit go (R58, R73; DESIGN CHOICE: assumption 142). -/
def State.reserveCache (s : State) (n : Nat) : State :=
  let mib := s.rdN Obj.TRANSLATION_CACHE_SIZE n
  let s := s.setRas n { s.ras n with cacheMib := mib }
  let kept := ((s.ras n).cache.reverse.foldl (fun (l : List CacheEntry) e =>
    if (l.map CacheEntry.sizeKib).sum + e.sizeKib ≤ mib * 1024 then e :: l else l) [])
  let gone := ((s.ras n).cache.filter fun e => !kept.contains e).map CacheEntry.tenant
  (s.setRas n { s.ras n with cache := kept }).each gone.eraseDups fun s t => s.syncCache n t

end Sys2Proof.Machine
end

