-- ==== Sys2Proof/Machine/Raster.lean ====
section
/-! DEFINITION. Commands of the raster engine, the scheduler and the translator (R37 to R102, R655). -/
namespace Sys2Proof.Machine

/-! ### Taking jobs -/

/-- The descriptor's own checks (R41, R40), and TARGET_LAYER (R79): a code from 16 to 254 names no layer. -/
def State.descriptorOk (s : State) (n : Nat) (w : Nat) : Bool :=
  let t := bits 20 12 w
  let layer := bits 79 72 w
  bits 31 28 w = 1 && bits 27 24 w ≤ 4 && bits 255 224 w = 0 && bits 71 64 w = 0 && bits 4 0 w = 0
    && bits 191 128 w % 64 = 0 && (!bit 7 w || bits 319 256 w % 8 = 0) && (!bit 6 w || bits 447 384 w % 8 = 0)
    && (layer = 0xFF || (layer < 16 && s.sliceHolds t ⟨n, .layer, layer⟩) || (bits 27 24 w ≠ 1 && bits 27 24 w ≠ 2))

/-- The job a descriptor names (R40). -/
def jobOf (key w : Nat) : Job :=
  { key := key, tenant := bits 20 12 w, queue := bits 11 10 w, jobId := bits 127 96 w, jtype := bits 27 24 w, cls := bits 63 56 w,
    targetLayer := bits 79 72 w, timeEst := bits 95 80 w, energyEst := bits 55 32 w, payloadAddr := bits 191 128 w,
    payloadSize := bits 223 192 w, fenceWait := if bit 7 w then some (bits 319 256 w, bits 383 320 w) else none,
    fenceSignal := if bit 6 w then some (bits 447 384 w, bits 511 448 w) else none, irq := bit 5 w, writeSkip := bit 9 w,
    sigReset := bit 8 w }

/-- JOB_TAKE: the station takes the next descriptor from its sluice while its table has a free entry and no swap holds its control core; a
bad descriptor and a station that does not run end the job unexecuted. The headgate then fetches into the freed place (R32, R41, R542,
R655). -/
def execJobTake (n : Fin 8) (s : State) : Host.Outcome State Fault Refusal :=
  .next ((match s.ingress.getD n [] with
    | d :: rest =>
      let r := s.ras n
      if 1024 ≤ r.jobs.length || (s.stationState n = stRunning && !(s.ctl n).coreOn) then s
      else
        let w := ofLE d.data
        let j := jobOf r.nextKey w
        let fence : Bool := match j.fenceWait with
          | some (a, _) => s.inside (.tenant j.tenant) n 1 a 8
          | none => true
        let s := { s with ingress := s.ingress.put n rest }
        let s := s.setRas n { r with jobs := r.jobs ++ [j], nextKey := r.nextKey + 1 }
        if s.stationState n ≠ stRunning then s.endJob n j.key csNotRunning
        else if !s.descriptorOk n w then s.endJob n j.key csBadDescriptor
        else if !fence then s.endJob n j.key csAccessFault
        else s
    | [] => s).fetch n)

/-- A job whose payload has been read goes on: to its fence, to the planner, or to its turn on the ring (R40, R97). -/
def State.queueJob (s : State) (n key : Nat) : State :=
  match s.job? n key with
  | none => s
  | some j =>
    if j.fenceWait.isSome then s.setJob n { j with phase := .fenceWait }
    else if j.jtype = jtRender || j.jtype = jtCompute then (s.presentJob n key).settle n
    else (s.setJob n { j with phase := .queued }).settle n

/-- An effect on a job just taken, of one type. -/
def State.onTaken (s : State) (n key jtype : Nat) (f : Job → State → State) : State :=
  match s.job? n key with
  | some j => if j.phase = .taken && j.jtype = jtype then f j s else s
  | none => s

/-- A job just taken of one type is handled where PAYLOAD_SIZE matches its payload type, and else ends with BAD_DESCRIPTOR (R41). -/
def State.onSized (s : State) (n key jtype : Nat) (ok : Nat → Bool) (f : Job → State → State) : State :=
  s.onTaken n key jtype fun j s => if ok j.payloadSize then f j s else (s.endJob n key csBadDescriptor).settle n

/-- JOB_NOP: it has no payload (R40, R41). -/
def execJobNop (n : Fin 8) (key : Nat) (s : State) : Host.Outcome State Fault Refusal :=
  .next (s.onSized n key jtNop (· = 0) fun j s => s.queueJob n j.key)

/-- An attachment record as its 256-bit number gives it (R47). -/
def attachmentOf (v : Nat) : Attachment :=
  { clear := bits 255 192 v, sigTable := bits 191 128 v, format := bits 127 120 v, samplesLog2 := bits 119 116 v,
    loadOp := bits 115 114 v, storeOp := bits 113 112 v, reserved := bits 111 96 v, pitch := bits 95 64 v, addr := bits 63 0 v }

/-- An attachment record breaks no rule (R47, R49): `depth` tells whether it is the depth-stencil record. -/
def Attachment.ok (a : Attachment) (depth : Bool) : Bool :=
  (attFormat a.format).isSome && a.isDepth = depth && a.samplesLog2 ≤ 2 && a.loadOp ≤ 2 && a.storeOp ≤ 2 && a.reserved = 0
    && a.pitch % 256 = 0 && a.addr % 256 = 0 && a.sigTable % 64 = 0 && (a.format ≠ 0x0B || a.loadOp ≠ 1 || a.clear % 16 = 0)

/-- Two byte ranges share a byte. -/
def rangesMeet (a la b lb : Nat) : Bool := a < b + lb && b < a + la

/-- A signature table meets an attachment of the job (R68, R659). -/
def tablesOverlap (atts : List Attachment) (w h : Nat) : Bool :=
  atts.any fun t => t.sigTable ≠ 0 && atts.any fun a => rangesMeet t.sigTable (sigTableBytes w h) a.addr (a.pitch * h)

/-- The handles a draw list names, up to its END (R48). -/
def drawHandles (b : Bytes) : Nat → List Nat
  | 0 => []
  | fuel + 1 =>
    match b with
    | [] => []
    | _ :: _ =>
      if byteAt b 0 = 0 || 0x0A < byteAt b 0 then []
      else if byteAt b 0 = 1 then fieldLE b 4 4 :: drawHandles (b.drop 32) fuel
      else drawHandles (b.drop 32) fuel

/-- Attachment records of a render pass record (R46). -/
def renderCount (h : Bytes) : Nat := byteAt h 4 + byteAt h 5

/-- A render pass record breaks no rule of its own (R46); `size` is the payload's. -/
def renderHeadOk (h : Bytes) (size : Nat) : Bool :=
  1 ≤ fieldLE h 0 2 && fieldLE h 0 2 ≤ 16384 && 1 ≤ fieldLE h 2 2 && fieldLE h 2 2 ≤ 16384
    && byteAt h 4 ≤ 8 && byteAt h 5 ≤ 1 && 1 ≤ renderCount h && fieldLE h 6 2 = 0 && fieldLE h 8 8 % 4096 = 0
    && fieldLE h 0x10 4 % 4096 = 0 && 2 ^ 20 ≤ fieldLE h 0x10 4 && fieldLE h 0x14 4 % 32 = 0 && fieldLE h 0x18 8 % 32 = 0
    && ofLE (slice h 0x20 32) = 0 && size = 64 + 32 * renderCount h

/-- The attachments that follow a render pass record (R47). -/
def renderAtts (count : Nat) (b : Bytes) : List Attachment := (List.range count).map fun k => attachmentOf (fieldLE b (32 * k) 32)

/-- Every attachment breaks no rule; the depth-stencil record stands last (R46, R47). -/
def renderAttsOk (h : Bytes) (atts : List Attachment) : Bool :=
  (List.range (renderCount h)).all fun k => ((atts[k]?).map fun a => a.ok (k = byteAt h 4)).getD false

/-- JOB_RENDER: the render pass record and its attachments are read and checked, and the job is queued (R37, R41, R46, R47, R49, R68). The draw
list is read, and checked against the windows, when the record is (DESIGN CHOICE: assumption 144); a bin buffer that the depth scratch leaves
no room in gives BAD_DESCRIPTOR (R39; DESIGN CHOICE: assumption 47). -/
def execJobRender (n : Fin 8) (key : Nat) (s : State) : Host.Outcome State Fault Refusal :=
  .next (s.onTaken n key jtRender fun j s =>
    match s.jobRead n j.tenant j.payloadAddr 64 with
    | none => (s.endJob n key csAccessFault).settle n
    | some h =>
      let count := renderCount h
      if !renderHeadOk h j.payloadSize then (s.endJob n key csBadDescriptor).settle n
      else match s.jobRead n j.tenant (j.payloadAddr + 64) (32 * count) with
        | none => (s.endJob n key csAccessFault).settle n
        | some b =>
          let atts := renderAtts count b
          let j := { j with atts := atts, width := fieldLE h 0 2, height := fieldLE h 2 2, binAddr := fieldLE h 8 8,
                            binSize := fieldLE h 0x10 4, drawAddr := fieldLE h 0x18 8, drawSize := fieldLE h 0x14 4,
                            draw := { j.draw with ended := fieldLE h 0x14 4 = 0 } }
          if !renderAttsOk h atts || tablesOverlap atts j.width j.height || j.binSize ≤ j.depthScratch then
            (s.endJob n key csBadDescriptor).settle n
          else if 256 < j.footprint then (s.endJob n key csTileBudget).settle n
          else match s.jobRead n j.tenant j.drawAddr j.drawSize with
            | none => ((s.setJob n j).endJob n key csAccessFault).settle n
            | some list => (s.setJob n { j with handles := (drawHandles list (list.length / 32)).eraseDups }).queueJob n key)

/-! ### Binding tables -/

/-- A binding table entry (R48). -/
def bindingOf (e : Bytes) : BindingEntry :=
  { addr := fieldLE e 0 8, size := fieldLE e 8 4, dtype := byteAt e 12, format := byteAt e 13, mips := byteAt e 14, layers := byteAt e 15,
    sampler := fieldLE e 16 16 }

/-- A binding table entry breaks no limit (R48, R49, R52). Of the Vulkan descriptor types 7 and 9 are storage buffers, 1 to 3 and 10 images, 3 a
storage image; the layer count is one byte, below the limit of 2,048. -/
def BindingEntry.ok (e : BindingEntry) : Bool :=
  ((e.dtype ≠ 7 && e.dtype ≠ 9) || e.size ≤ 2 ^ 31)
    && (!((1 ≤ e.dtype && e.dtype ≤ 3) || e.dtype = 10) || (e.size % 65536 ≤ 16384 && e.size / 65536 ≤ 16384))
    && e.layers ≤ 2048
    && (e.dtype ≠ 3 || (e.format ≠ 3 && ((attFormat e.format).map fun f => !f.2).getD false))

/-- What a job gives in place of a value: the status it ends with. -/
inductive JobRead (α : Type) where
  | got (v : α)
  | ends (status : Nat)
deriving DecidableEq, Repr

/-- A binding table is read: more than 64 bindings, and an entry that exceeds a limit, give BAD_DESCRIPTOR, a table outside the windows
ACCESS_FAULT (R52, R69). -/
def State.readSet (s : State) (n t : Nat) (o : SetOperand) : JobRead (List BindingEntry) :=
  if 64 < o.count then .ends csBadDescriptor
  else if o.count = 0 then .got []
  else match s.jobRead n t o.addr (32 * o.count) with
    | none => .ends csAccessFault
    | some b =>
      let es := (List.range o.count).map fun k => bindingOf (slice b (32 * k) 32)
      if es.all BindingEntry.ok then .got es else .ends csBadDescriptor

/-- Push data are read: more than 256 bytes give BAD_DESCRIPTOR (R48, R52, R69). -/
def State.readPush (s : State) (n t : Nat) (p : Nat × Nat) : JobRead (Nat × Nat) :=
  if 256 < p.2 then .ends csBadDescriptor
  else if (s.jobRead n t p.1 p.2).isNone then .ends csAccessFault
  else .got p

/-- The binding tables of a compute job, by set (R48). -/
def State.readSets (s : State) (n t : Nat) : List SetOperand → JobRead (FMap Nat (List BindingEntry))
  | [] => .got []
  | o :: rest =>
    match s.readSet n t o, s.readSets n t rest with
    | .got es, .got m => .got (m.put o.set es)
    | .ends x, _ => .ends x
    | _, .ends x => .ends x

/-- A dispatch record breaks no limit of its own: up to eight sets, numbered 0 to 7, push data of 4 to 256 bytes, and workgroup counts
(R48, R52). -/
def DispatchRecord.ok (d : DispatchRecord) : Bool :=
  d.sets.length ≤ 8 && d.sets.all (fun o => o.set ≤ 7) && d.x ≤ 65535 && d.y ≤ 65535 && d.z ≤ 65535
    && (match d.push with
      | some p => 4 ≤ p.2 && p.2 ≤ 256
      | none => true)

/-- JOB_COMPUTE: the dispatch record of 64 bytes gives a pipeline handle, binding sets, push data and workgroup counts; the job is queued
(R41, R48, R49, R52, R75). What the record says comes as an operand: the spec gives its fields and no layout that fits in 64 bytes (assumption 42). -/
def execJobCompute (n : Fin 8) (key : Nat) (d : DispatchRecord) (s : State) : Host.Outcome State Fault Refusal :=
  .next (s.onSized n key jtCompute (· = 64) fun j s =>
    match s.jobRead n j.tenant j.payloadAddr 64 with
    | none => (s.endJob n key csAccessFault).settle n
    | some _ =>
      if !d.ok then (s.endJob n key csBadDescriptor).settle n
      else match s.readSets n j.tenant d.sets, (match d.push with
          | some p => s.readPush n j.tenant p
          | none => .got (0, 0)) with
        | .got sets, .got _ =>
          let j := { j with handles := [d.handle], sets := sets, push := d.push, units := (List.range (d.x * d.y * d.z)).map .workgroup }
          (s.setJob n j).queueJob n key
        | .ends x, _ => (s.endJob n key x).settle n
        | _, .ends x => (s.endJob n key x).settle n)

/-! ### Jobs of the control core -/

/-- The size of a pipeline record: a handle of 4 bytes, stage entries of an address, a size, a name of 32 bytes, an address and a size, and
the fixed-function block of 64 bytes (R41; PRESUMED: assumption 145). -/
def pipelineRecordSize (stages : Nat) : Nat := 4 + 56 * stages + 64

/-- A job of the control core that names a handle: its payload lies in the tenant's windows. -/
def State.takePipe (s : State) (n key jtype : Nat) (ok : Nat → Bool) (handle : Nat) (r : Option PipelineRecord) : State :=
  s.onSized n key jtype ok fun j s =>
    match s.jobRead n j.tenant j.payloadAddr j.payloadSize with
    | none => (s.endJob n key csAccessFault).settle n
    | some _ => (s.setJob n { j with pipeHandle := handle, record := r }).queueJob n key

/-- JOB_PIPELINE_LOAD: a pipeline record names a handle, one or two modules and the fixed-function state; the request goes to the translator on
its turn (R41, R50, R52, R56). -/
def execJobPipelineLoad (n : Fin 8) (key : Nat) (r : PipelineRecord) (s : State) : Host.Outcome State Fault Refusal :=
  .next (s.takePipe n key jtLoad
    (fun size => (r.stages.length = 1 || r.stages.length = 2) && size = pipelineRecordSize r.stages.length) r.handle (some r))

/-- JOB_PIPELINE_DROP: the handle is marked to be freed once no job names it; its payload is the handle (R41, R55; assumption 145). -/
def execJobPipelineDrop (n : Fin 8) (key handle : Nat) (s : State) : Host.Outcome State Fault Refusal :=
  .next (s.takePipe n key jtDrop (· = 4) handle none)

/-- FENCE_WAIT_SATISFIED: the fence has reached the job's value; a render or compute job is presented to the planner (R40,
R97). -/
def execFenceWaitSatisfied (n : Fin 8) (key : Nat) (s : State) : Host.Outcome State Fault Refusal :=
  .next (match s.job? n key with
    | some j =>
      match j.phase, j.fenceWait with
      | .fenceWait, some (a, v) =>
        (match s.jobRead n j.tenant a 8 with
          | none => (s.endJob n key csAccessFault).settle n
          | some b => if v ≤ ofLE b then (s.setJob n { j with fenceWait := none }).queueJob n key else s)
      | _, _ => s
    | none => s)

/-! ### Draw lists -/

/-- The job is being bound: admitted, ready, its turn on the ring, and its list not at its end (R42, R48). -/
def State.binding (s : State) (n key : Nat) : Option Job :=
  match s.job? n key with
  | some j =>
    if j.phase = .admitted && j.readyAt.isSome && j.jtype = jtRender && !j.draw.ended && !j.fragPhase && s.mayStart n j then some j
    else none
  | none => none

/-- The next command of a job's draw list is read; an opcode that is none of R48 ends the job with BAD_DRAW_LIST; the command of
the opcode given has its effect, which answers none where its operands are malformed (R45, R48). -/
def State.drawCommand (s : State) (n key op : Nat) (f : Bytes → Job → State → Option State) : State :=
  match s.binding n key with
  | none => s
  | some j =>
    match s.jobRead n j.tenant (j.drawAddr + j.draw.offset) 32 with
    | none => (s.endJob n key csAccessFault).settle n
    | some b =>
      if 0x0A < byteAt b 0 then (s.endJob n key csBadDrawList).settle n
      else if byteAt b 0 ≠ op then s
      else
        let next := j.draw.offset + 32
        let j := { j with draw := { j.draw with offset := next, ended := j.drawSize ≤ next } }
        match f b j (s.setJob n j) with
        | none => (s.endJob n key csBadDrawList).settle n
        | some s => s.settle n

/-- The binding state of a job changed by a draw-list command. -/
def State.setDraw (s : State) (n : Nat) (j : Job) (d : DrawState) : State := s.setJob n { j with draw := d }

/-- DRAW_LIST_END (R48). -/
def execDrawListEnd (n : Fin 8) (key : Nat) (s : State) : Host.Outcome State Fault Refusal :=
  .next (s.drawCommand n key 0x00 fun _ j s => some (s.setDraw n j { j.draw with ended := true }))

/-- BIND_PIPELINE (R45, R48): a handle that is not loaded ends the job. -/
def execBindPipeline (n : Fin 8) (key : Nat) (s : State) : Host.Outcome State Fault Refusal :=
  .next (s.drawCommand n key 0x01 fun b j s =>
    let h := fieldLE b 4 4
    match s.pipeOf n j h with
    | some _ => some (s.setDraw n j { j.draw with pipeline := some h })
    | none => some (s.endJob n key csPipelineUnknown))

/-- BIND_SET (R48, R52). -/
def execBindSet (n : Fin 8) (key : Nat) (s : State) : Host.Outcome State Fault Refusal :=
  .next (s.drawCommand n key 0x02 fun b j s =>
    if 7 < byteAt b 4 then none
    else match s.readSet n j.tenant ⟨byteAt b 4, fieldLE b 5 8, fieldLE b 13 2⟩ with
      | .got es => some (s.setDraw n j { j.draw with sets := j.draw.sets.put (byteAt b 4) es })
      | .ends x => some (s.endJob n key x))

/-- PUSH_DATA: 4 to 256 bytes (R48); more exceed a limit (R52), and fewer make the command malformed (R45; DEDUCED: assumption 144). -/
def execPushData (n : Fin 8) (key : Nat) (s : State) : Host.Outcome State Fault Refusal :=
  .next (s.drawCommand n key 0x03 fun b j s =>
    if fieldLE b 12 2 < 4 then none
    else match s.readPush n j.tenant (fieldLE b 4 8, fieldLE b 12 2) with
      | .got p => some (s.setDraw n j { j.draw with push := some p })
      | .ends x => some (s.endJob n key x))

/-- BIND_VERTEX (R48). -/
def execBindVertex (n : Fin 8) (key : Nat) (s : State) : Host.Outcome State Fault Refusal :=
  .next (s.drawCommand n key 0x04 fun b j s =>
    if 15 < byteAt b 4 then none
    else some (s.setDraw n j { j.draw with
      vertex := j.draw.vertex.put (byteAt b 4) (fieldLE b 5 8, fieldLE b 13 4, fieldLE b 17 2) }))

/-- BIND_INDEX (R48). -/
def execBindIndex (n : Fin 8) (key : Nat) (s : State) : Host.Outcome State Fault Refusal :=
  .next (s.drawCommand n key 0x05 fun b j s =>
    let w := byteAt b 16
    if w ≠ 16 && w ≠ 32 then none
    else some (s.setDraw n j { j.draw with index := some (fieldLE b 4 8, fieldLE b 12 4, w) }))

/-- Primitives of `count` vertices of a topology, in Vulkan 1.3 numbering: points, lines, line strip, triangles, triangle strip, triangle
fan. -/
def primsOf (topology count : Nat) : Nat :=
  match topology with
  | 0 => count
  | 1 => count / 2
  | 2 => count - 1
  | 3 => count / 3
  | 4 => count - 2
  | 5 => count - 2
  | _ => 0

/-- The arguments of a draw: vertices or indices, instances, the first vertex or index. -/
structure DrawArgs where
  count : Nat
  instances : Nat
  first : Nat
deriving DecidableEq, Repr

/-- Primitives of a draw take their submission sequence, in list order, then by instance, then by index, and wait for the binner (R59). -/
def Job.draws (j : Job) (prims : Nat) : Job :=
  { j with toBin := j.toBin + prims,
           draw := { j.draw with nextSeq := j.draw.nextSeq + prims,
                                 runs := j.draw.runs ++ (if prims = 0 then [] else [⟨j.draw.nextSeq, prims, j.draw.pipeline.getD 0⟩]) } }

/-- The indices of an indexed draw can be read: none where no index buffer is bound. -/
def State.indicesRead (s : State) (n : Nat) (j : Job) (a : DrawArgs) : Option Bool :=
  j.draw.index.map fun (addr, _, w) =>
    a.count = 0 || a.instances = 0 || (s.jobRead n j.tenant (addr + a.first * (w / 8)) (a.count * (w / 8))).isSome

/-- Draws of the bound pipeline: none where no pipeline, or for indexed draws no index buffer, is bound; indices outside the windows end the job
with ACCESS_FAULT (R48, R59, R69; DEDUCED: assumption 144). -/
def State.issue (s : State) (n : Nat) (j : Job) (indexed : Bool) (l : List DrawArgs) : Option State :=
  match j.draw.pipeline.bind (s.pipeOf n j) with
  | none => none
  | some e =>
    if indexed && j.draw.index.isNone then none
    else if indexed && l.any (fun a => s.indicesRead n j a = some false) then some (s.endJob n j.key csAccessFault)
    else some (s.setJob n (j.draws ((l.map fun a => primsOf e.fixed.topology a.count * a.instances).sum)))

/-- The arguments at an offset of a byte string: count, instances, first (R48). -/
def drawArgs (b : Bytes) (o : Nat) : DrawArgs := ⟨fieldLE b o 4, fieldLE b (o + 4) 4, fieldLE b (o + 8) 4⟩

/-- DRAW (R48). -/
def execDraw (n : Fin 8) (key : Nat) (s : State) : Host.Outcome State Fault Refusal :=
  .next (s.drawCommand n key 0x06 fun b j s => s.issue n j false [drawArgs b 4])

/-- DRAW_INDEXED (R48). -/
def execDrawIndexed (n : Fin 8) (key : Nat) (s : State) : Host.Outcome State Fault Refusal :=
  .next (s.drawCommand n key 0x07 fun b j s => s.issue n j true [drawArgs b 4])

/-- DRAW_INDIRECT: as many draws as its count says, with arguments of 16 bytes, or 20 where indexed, in the order of DRAW and DRAW_INDEXED, read
through the tenant's windows (R48, R69). -/
def execDrawIndirect (n : Fin 8) (key : Nat) (s : State) : Host.Outcome State Fault Refusal :=
  .next (s.drawCommand n key 0x08 fun b j s =>
    let flag := byteAt b 16
    let size := if flag = 1 then 20 else 16
    if 1 < flag then none
    else match s.jobRead n j.tenant (fieldLE b 4 8) (fieldLE b 12 4 * size) with
      | none => some (s.endJob n key csAccessFault)
      | some args => s.issue n j (flag = 1) ((List.range (fieldLE b 12 4)).map fun k => drawArgs args (size * k)))

/-- SET_VIEWPORT: six F32 values (R48). -/
def execSetViewport (n : Fin 8) (key : Nat) (s : State) : Host.Outcome State Fault Refusal :=
  .next (s.drawCommand n key 0x09 fun b j s =>
    some (s.setDraw n j { j.draw with viewport := (List.range 6).map fun k => fieldLE b (4 + 4 * k) 4 }))

/-- SET_SCISSOR: four U32 values (R48). -/
def execSetScissor (n : Fin 8) (key : Nat) (s : State) : Host.Outcome State Fault Refusal :=
  .next (s.drawCommand n key 0x0A fun b j s =>
    some (s.setDraw n j { j.draw with scissor := (List.range 4).map fun k => fieldLE b (4 + 4 * k) 4 }))

/-! ### Tiles -/

/-- Pixels of a tile inside the render area: columns and rows. -/
def Job.tileSize (j : Job) (tx ty : Nat) : Nat × Nat := (min 32 (j.width - 32 * tx), min 32 (j.height - 32 * ty))

/-- Bytes of `k` samples cut from a byte string. -/
def samplesOf (bps : Nat) (b : Bytes) : List Bytes := (List.range (b.length / bps)).map fun i => slice b (i * bps) bps

/-- `k` free samples. -/
def State.freeSamples (s : State) (k bps : Nat) : List Bytes × State :=
  let (b, s) := s.drawBytes (k * bps)
  (samplesOf bps b, s)

/-- The address of a tile of the depth scratch at the end of the bin buffer, tile after tile (R39; DESIGN CHOICE: assumption 47). -/
def Job.scratchAddr (j : Job) (a : Attachment) (tx ty : Nat) : Nat :=
  j.binAddr + j.binSize - j.depthScratch + (ty * cdiv j.width 32 + tx) * (1024 * a.bps * a.samples)

/-- What a tile of an attachment holds before its fragments retire: what memory or the depth scratch holds, the clear value, or free bytes
(R39, R47, R657). -/
def State.tileBase (s : State) (n : Nat) (j : Job) (a : Attachment) (tx ty : Nat) : List Bytes × State :=
  let (w, h) := j.tileSize tx ty
  let k := w * h * a.samples
  let (l, s) :=
    if j.flushed && a.isDepth && a.storeOp = 1 then (samplesOf a.bps (s.readTagged n (j.scratchAddr a tx ty) (k * a.bps) 0), s)
    else if j.flushed && a.storeOp = 2 && a.samples ≠ 1 then s.freeSamples k a.bps
    else if j.flushed || a.loadOp = 0 then
      (((List.range h).map fun y => samplesOf a.bps
        (s.readTagged n (a.addr + (32 * ty + y) * a.pitch + 32 * tx * a.bps * a.samples) (w * a.bps * a.samples) 0)).flatten, s)
    else if a.loadOp = 1 then (List.replicate k (toLE a.bps a.clear), s)
    else s.freeSamples k a.bps
  (l.map (cleanSample a.format), s)

/-- The tile memory before fragments retire: every attachment of the pass. -/
def State.tileBases (s : State) (n : Nat) (j : Job) (tx ty : Nat) : TileMem × State :=
  j.numbered.foldl (fun (acc : TileMem × State) a =>
    let (l, s) := acc.2.tileBase n j a.2 tx ty
    (acc.1.put a.1 l, s)) ([], s)

/-- The bytes of the rows of a tile in the attachment's layout. -/
def tileRows (w stored : Nat) (t : List Bytes) : List Bytes :=
  (List.range (t.length / (w * stored))).map fun y => ((t.drop (y * w * stored)).take (w * stored)).flatten

/-- Accesses of a tile store lie inside the tenant's windows (R69). -/
def State.tileInside (s : State) (n : Nat) (j : Job) (tx ty : Nat) : Bool :=
  let (w, h) := j.tileSize tx ty
  j.atts.all fun a =>
    let row (y : Nat) : Nat := a.addr + (32 * ty + y) * a.pitch + 32 * tx * a.bps * a.stored
    let len := w * a.bps * a.stored
    let load := (j.flushed && !(a.isDepth && a.storeOp = 1)) || a.loadOp = 0
    (a.storeOp = 1 || (List.range h).all fun y => s.inside (.tenant j.tenant) n 2 (row y) len)
      && (!load || (List.range h).all fun y => s.inside (.tenant j.tenant) n 1 (row y) (w * a.bps * a.samples))
      && (a.storeOp = 1 || a.sigTable = 0 || s.inside (.tenant j.tenant) n 3 a.sigTable (sigTableBytes j.width j.height))

/-- One attachment of a finished tile is stored, or omitted by write-skip; at an intermediate flush depth that is not stored goes to the scratch
(R39, R62, R64 to R67). -/
def State.storeAtt (s : State) (n key : Nat) (ix : Nat) (a : Attachment) (tx ty : Nat) (tile : List Bytes) : State :=
  match s.job? n key with
  | none => s
  | some j =>
    let (w, h) := j.tileSize tx ty
    if a.storeOp = 1 then
      (if j.flushing && a.isDepth then s.writeTagged n (j.scratchAddr a tx ty) tile.flatten 0 else s)
    else
      let (out, s) := if a.storeOp = 2 && a.samples ≠ 1 then s.freeSamples (w * h) a.bps else (tile, s)
      let out := out.map (cleanSample a.format)
      let rows := tileRows w a.stored out
      let sig := crc64 (BitVec.ofNat 8 a.format :: BitVec.ofNat 8 a.stored :: out.flatten)
      let entry := a.sigTable + 64 + 8 * (ty * cdiv j.width 32 + tx)
      let skip := a.sigTable ≠ 0 && !j.sigInvalid.contains ix && ofLE (s.readTagged n entry 8 0) = sig
      if skip then
        (s.setJob n { j with tilesSkipped := j.tilesSkipped + 1 }).total Obj.TILES_SKIPPED_TOTAL 1 n
      else
        let s := (List.range rows.length).foldl (fun (s : State) y =>
          s.writeTagged n (a.addr + (32 * ty + y) * a.pitch + 32 * tx * a.bps * a.stored) (rows.getD y []) 0) s
        let s := if a.sigTable = 0 then s else
          (s.writeTagged n entry (toLE 8 sig) 0).writeTagged n a.sigTable
            [BitVec.ofNat 8 (setBit 1 (byteAt (s.readTagged n a.sigTable 1 0) 0))] 0
        (s.setJob n { j with tilesWritten := j.tilesWritten + 1,
                             attWritten := j.attWritten.put ix (j.attWritten.getD ix 0 + 1) }).total Obj.TILES_WRITTEN_TOTAL 1 n

/-- A finished tile: its fragments retire into tile memory, and every attachment is stored. -/
def State.storeTile (s : State) (n key tx ty : Nat) : State :=
  match s.job? n key with
  | none => s
  | some j =>
    let (w, h) := j.tileSize tx ty
    let (base, s) := s.tileBases n j tx ty
    let tile := retire w h j.numbered (s.fixedOf n j) base (j.frags.getD (tx, ty) [])
    s.each j.numbered fun s a => s.storeAtt n key a.1 a.2 tx ty (tile.getD a.1 [])

/-- At the end of a pass the header of a table treated as invalid is written to match the attachment, its other bits and its reserved bytes 0,
and is VALID; LAST_WRITTEN counts the job's tiles (R63, R64). -/
def State.writeHeader (s : State) (n : Nat) (j : Job) (ix : Nat) (a : Attachment) : State :=
  if a.sigTable = 0 || a.storeOp = 1 then s
  else
    let last := toLE 4 (j.attWritten.getD ix 0)
    if !j.sigInvalid.contains ix then s.writeTagged n (a.sigTable + 8) last 0
    else
      let dirty := bit 1 (byteAt (s.readTagged n a.sigTable 1 0) 0)
      s.writeTagged n a.sigTable ([BitVec.ofNat 8 (if dirty then 3 else 1), BitVec.ofNat 8 a.format, BitVec.ofNat 8 a.stored, 0]
        ++ toLE 2 j.width ++ toLE 2 j.height ++ last ++ List.replicate 52 0) 0

/-! ### Bins -/

/-- Primitives enter the bins in order while the bin buffer has room, each by its list entries, whose layout is the engine's own: the state, the
job, what is left, and whether an access fell outside the windows (R39, R69). -/
def State.binPrims (s : State) (n : Nat) (j : Job) : List BinPrim → State × Job × List BinPrim × Bool
  | [] => (s, j, [], false)
  | p :: rest =>
    let space := j.binSize - j.depthScratch
    let len := min p.bytes space
    if space < j.binUsed + len then (s, j, p :: rest, false)
    else if !s.inside (.tenant j.tenant) n 3 (j.binAddr + j.binUsed) len then (s, j, p :: rest, true)
    else
      let (b, s) := s.drawBytes len
      let lists := p.tiles.eraseDups.foldl (fun (m : FMap (Nat × Nat) (List Nat)) t => m.put t (m.getD t [] ++ [j.binNext])) j.tilePrims
      (s.writeTagged n (j.binAddr + j.binUsed) b 0).binPrims n
        { j with tilePrims := lists, binUsed := j.binUsed + len, binNext := j.binNext + 1 } rest

/-- Ended batches enter the bins in submission order; where the buffer fills, an intermediate flush starts (R39, R59). -/
def State.binHeld (s : State) (n key : Nat) : Nat → State
  | 0 => s
  | fuel + 1 =>
    match s.job? n key with
    | none => s
    | some j =>
      if j.fragPhase then s
      else match j.heldBins.find? (fun e => e.1 = j.binNext) with
        | none => s
        | some (first, prims) =>
          let (s, j', rest, fault) := s.binPrims n j prims
          let others := j.heldBins.filter fun e => e.1 ≠ first
          if fault then (s.setJob n j').endJob n key csAccessFault
          else if rest.isEmpty then (s.setJob n { j' with heldBins := others }).binHeld n key fuel
          else (s.setJob n { j' with heldBins := (j'.binNext, rest) :: others }).startFrag n key true

/-- A batch of primitives ends: what the binner made of them joins the bins (R39). -/
def State.batchDone (s : State) (n key first prims : Nat) (r : UnitResult) : State :=
  match s.job? n key with
  | none => s
  | some j =>
    let l := r.prims.take prims ++ List.replicate (prims - r.prims.length) {}
    let s := s.setJob n { j with heldBins := j.heldBins ++ [(first, l)] }
    s.binHeld n key (j.heldBins.length + 1)

/-- A fragment phase has stored its last tile: the flush is counted and binning resumes, or the job ends (R39, R44). -/
def State.passDone (s : State) (n key : Nat) : State :=
  match s.job? n key with
  | none => s
  | some j =>
    let s := s.each j.numbered fun s a => s.writeHeader n j a.1 a.2
    if j.flushing then
      let s := (s.setJob n { j with flushing := false, flushed := true, fragPhase := false, tilePrims := [], binUsed := 0,
                                    frags := [], binFlushes := j.binFlushes + 1 }).count Obj.BIN_FLUSHES n
      s.binHeld n key (j.heldBins.length + 1)
    else s.endJob n key csOk

/-! ### Fragments -/

/-- The fragments of a unit with the sequences of their primitives, 32 bits wide, and the pipelines that drew them (R59). -/
def Job.seqFrags (j : Job) (tx ty first prims : Nat) (frags : List Frag) : List SeqFrag :=
  let list := j.tilePrims.getD (tx, ty) []
  frags.filterMap fun f =>
    if f.prim < prims then (list[first + f.prim]?).map fun q => { seq := q % 2 ^ 32, pipeline := j.pipelineOf q, frag := f } else none

/-- A tile, or a range of a split tile, ends; none where the core's scoreboard has no room for the quads that would wait for an earlier range:
the core then issues no more of it (R61). Ranges are merged in order, and with the last one the tile is stored (R38, R59, R69). -/
def State.tileDone (s : State) (n key core : Nat) (tx ty part parts first prims : Nat) (r : UnitResult) : Option State :=
  match s.job? n key with
  | none => some s
  | some j =>
    let fs := j.seqFrags tx ty first prims r.frags
    let next := parts - j.partsLeft.getD (tx, ty) 0
    if part ≠ next && 256 < waitingQuads (s.ras n).jobs core + quadCount fs then none
    else
      let held := j.heldParts.getD (tx, ty) [] ++ [{ part := part, core := core, frags := fs }]
      let (merged, next, rest) := readyParts held.length next held
      let j := { j with frags := j.frags.put (tx, ty) (j.frags.getD (tx, ty) [] ++ merged), partsLeft := j.partsLeft.put (tx, ty) (parts - next),
                        heldParts := if rest.isEmpty then j.heldParts.del (tx, ty) else j.heldParts.put (tx, ty) rest }
      let s := s.setJob n j
      some (
        if next ≠ parts then s
        else if !s.tileInside n j tx ty then s.endJob n key csAccessFault
        else
          let s := (s.storeTile n key tx ty).updJob n key fun j => { j with stored := j.stored ++ [(tx, ty)], frags := j.frags.del (tx, ty) }
          match s.job? n key with
          | some j => if j.partsLeft.all fun e => e.2 = 0 then s.passDone n key else s
          | none => s)

/-- The units a core holds once unit `k` has ended: a tile that was resident beside it begins to shade (R37). -/
def unitsAfter (now k : Nat) (units : List (WorkUnit × Nat)) : List (WorkUnit × Nat) :=
  let l := units.eraseIdx k
  if k ≠ 0 then l
  else match l with
    | (.tile tx ty p q f c, _) :: rest => (.tile tx ty p q f c, now) :: rest
    | (.binBatch _ _, _) :: _ | (.workgroup _, _) :: _ | [] => l

/-- UNIT_COMPLETE: unit `k` of a core ends with its result, and the dispatcher gives the core its next unit (R74). -/
def execUnitComplete (n : Fin 8) (core : Fin 4) (k : Nat) (r : UnitResult) (s : State) : Host.Outcome State Fault Refusal :=
  let c := s.core n core
  .next (match c.job, c.units[k]? with
    | some key, some (u, _) =>
      if c.saving.isSome || c.restoring.isSome then s
      else
        let t := s.setCore n core { c with units := unitsAfter s.time k c.units }
        match u with
        | .binBatch first prims => (t.batchDone n key first prims r).settle n
        | .tile tx ty part parts first prims =>
          (match t.tileDone n key core tx ty part parts first prims r with
            | some t => t.settle n
            | none => s)
        | .workgroup _ =>
          (match t.job? n key with
            | some j =>
              if j.units.isEmpty && j.saved.isEmpty
                  && (t.ras n).cores.all fun d => d.job ≠ some key || (d.units.isEmpty && d.restoring.isNone) then
                (t.endJob n key csOk).settle n
              else t.settle n
            | none => t)
    | _, _ => s)

/-! ### Deadlines, preemption and limits -/

/-- DEADLINE_POINT: a job whose deadline point has passed becomes urgent (R77, R87). -/
def execDeadlinePoint (n : Fin 8) (key : Nat) (s : State) : Host.Outcome State Fault Refusal :=
  .next (match s.job? n key with
    | some j => if j.phase = .admitted then (s.setJob n (j.judged s.time)).settle n else s
    | none => s)

/-- The address of a save slot (R323). -/
def slotAddr (k : Nat) : Nat := saveArea + k * slotBytes

/-- CONTEXT_SAVE_DONE: a preempted core's context is in its slot with its check value, and the core is free (R76, R87, R327). -/
def execContextSaveDone (n : Fin 8) (core : Fin 4) (context : Bytes) (s : State) : Host.Outcome State Fault Refusal :=
  let c := s.core n core
  .next (match c.job, c.saving with
    | some key, some (k, since) =>
      let b := context.take slotBytes
      let s := s.store n (slotAddr k) b
      let x : SavedCtx := { slot := k, len := b.length, crc := crc32c b, units := c.units.map (·.1) }
      let s := (s.updJob n key fun j => { j with saved := j.saved ++ [x] }).setCore n core {}
      let spent := s.time - since
      let s := s.wr Obj.SAVE_TIME_MAX (max (s.rdN Obj.SAVE_TIME_MAX n) (min spent (2 ^ 32 - 1)) : Nat) n
      s.settle n
    | _, _ => s)

/-- CONTEXT_RESTORE_DONE: the restored context is checked; its workgroups resume, or the job ends with ACCESS_FAULT and a MEM_ECC
record of kind SAVE_CRC (R91, R327). -/
def execContextRestoreDone (n : Fin 8) (core : Fin 4) (s : State) : Host.Outcome State Fault Refusal :=
  let c := s.core n core
  .next (match c.job.bind (s.job? n), c.restoring with
    | some j, some x =>
      let r := s.ras n
      let freed (s : State) : State := (s.setRas n { s.ras n with slotsUsed := r.slotsUsed.filter (· ≠ x.slot) }).syncSlots n
      if crc32c (s.load n (slotAddr x.slot) x.len) = x.crc then
        (freed (s.setCore n core { job := some j.key, units := x.units.map fun u => (u, s.time) })).settle n
      else
        let s := (s.count Obj.SAVE_CRC_FAILS n).toStationLog n
          (s.mkRec 0x8003 0 n j.tenant [(slotAddr x.slot / 64, 32), (3, 4), (3, 3), (j.jobId, 32)])
        ((freed (s.setCore n core {})).endJob n j.key csAccessFault).settle n
    | _, _ => s)

/-- The pipelines of a tile's or a range's primitives write no storage and perform no atomics (R88). -/
def State.sideEffectFree (s : State) (n : Nat) (j : Job) (tx ty first prims : Nat) : Bool :=
  ((((j.tilePrims.getD (tx, ty) []).drop first).take prims).map j.pipelineOf).eraseDups.all fun h => match s.pipeOf n j h with
    | some e => !e.sideEffects
    | none => false

/-- The units of a core return to the head of their job's unassigned tiles, and the core may take a range of a split tile again (R88). -/
def Job.giveBack (j : Job) (core : Nat) (units : List WorkUnit) : Job :=
  units.reverse.foldl (fun (j : Job) u => match u with
    | .tile tx ty _ _ _ _ => { j with units := u :: j.units, partCores := j.partCores.put (tx, ty) ((j.partCores.getD (tx, ty) []).filter (· ≠ core)) }
    | .binBatch _ _ | .workgroup _ => j) j

/-- TILE_YIELD_LIMIT: a fragment unit of a job outside tier 0, free of side effects, that has run past the limit after an urgent
job's deadline point is abandoned and returns to the head of its job's tiles, with a tile that was resident beside it (R37, R88; DESIGN CHOICE:
assumption 146). -/
def execTileYieldLimit (n : Fin 8) (core : Fin 4) (s : State) : Host.Outcome State Fault Refusal :=
  let c := s.core n core
  let limit := s.rdN Obj.TILE_YIELD_LIMIT n * 1000
  .next (match c.job.bind (s.job? n), c.units with
    | some j, (.tile tx ty _ _ first prims, since) :: _ =>
      let passed : Bool := (s.ras n).jobs.any fun u => u.urgent && u.targeted && u.live && u.above j && match u.deadline with
        | some d => (limit : Int) < (s.time : Int) - max d since
        | none => false
      if limit ≠ 0 && j.tier ≠ 0 && passed && s.sideEffectFree n j tx ty first prims then
        (((s.setJob n (j.giveBack core (c.units.map (·.1)))).setCore n core {}).count Obj.TILES_ABANDONED n).settle n
      else s
    | _, _ => s)

/-- JOB_ACCESS_FAULT: an access of a running job outside its tenant's windows is suppressed and ends the job (R69). -/
def execJobAccessFault (n : Fin 8) (key addr len : Nat) (write : Bool) (s : State) : Host.Outcome State Fault Refusal :=
  .next (match s.job? n key with
    | some j =>
      if j.phase = .admitted && !s.inside (.tenant j.tenant) n (if write then 2 else 1) addr len then
        (s.endJob n key csAccessFault).settle n
      else s
    | none => s)

/-- JOB_TIME_LIMIT: a job that has run on the cores for longer than the limit ends (R70). -/
def execJobTimeLimit (n : Fin 8) (key : Nat) (s : State) : Host.Outcome State Fault Refusal :=
  .next (match s.job? n key with
    | some j =>
      if j.phase = .admitted && s.rdN Obj.JOB_TIME_LIMIT n * 1000000 < j.coreNs then (s.endJob n key csTimeLimit).settle n else s
    | none => s)

/-- JOB_COMPLETE (R44). -/
def execJobComplete (n : Fin 8) (key : Nat) (s : State) : Host.Outcome State Fault Refusal := .next ((s.completeJob n key).fetch n)

/-! ### The translator -/

/-- TRANSLATION_START: the translator, while the management firmware runs, takes the next request in arrival order, and with none the next
background retranslation (R56 to R58). -/
def execTranslationStart (s : State) : Host.Outcome State Fault Refusal :=
  let x := s.translator
  .next (if x.current.isSome || !s.isHwReady 5 || s.hwGated 0 then s
    else match x.queue, x.background with
      | q :: rest, _ => { s with translator := { x with queue := rest, current := some q } }
      | [], q :: rest => { s with translator := { x with background := rest, current := some q } }
      | [], [] => s)

/-- KiB of the cache a tenant may use, and the tenants that share it: its quota, or with quota 0 what no quota reserves (R54). -/
def State.cacheShare (s : State) (n t : Nat) : Nat × (Nat → Bool) :=
  let quota (t : Nat) : Nat := s.rdN Obj.CACHE_QUOTA n 0 t
  if quota t ≠ 0 then (quota t * 1024, fun u => u = t)
  else (((s.ras n).cacheMib - (tenants.map quota).sum) * 1024, fun u => quota u = 0)

/-- Least recently used entries that no queued or running job names are evicted until `need` KiB fit (R54). -/
def State.evict (s : State) (n need cap : Nat) (shares : Nat → Bool) : Nat → State
  | 0 => s
  | fuel + 1 =>
    let r := s.ras n
    let mine := r.cache.filter fun e => shares e.tenant
    if (mine.map CacheEntry.sizeKib).sum + need ≤ cap then s
    else
      let free := mine.filter fun e => e.replacedFor.isNone && !s.handleInUse n e.tenant e.handle
      match free with
      | [] => s
      | e :: rest =>
        let v := rest.foldl (fun (a b : CacheEntry) => if b.lastUse < a.lastUse then b else a) e
        let s := (s.setRas n { r with cache := r.cache.erase v }).syncCache n v.tenant
        s.evict n need cap shares fuel

/-- KiB of copies of modules, rounded up. -/
def modulesKib (l : List Bytes) : Nat := cdiv ((l.map List.length).sum) 1024

/-- A translation that succeeds enters the cache with a copy of its modules, replacing an entry of its handle; jobs admitted before keep the old
one (R53 to R55, R58). Answers whether it found room. -/
def State.cachePut (s : State) (n : Nat) (q : TransReq) (res : TransResult) : State × Bool :=
  let t := q.tenant
  let h := q.handle
  let size := res.sizeKib + modulesKib q.modules
  let (cap, shares) := s.cacheShare n t
  let users := ((s.ras n).jobs.filter fun j => j.phase = .admitted && j.tenant = t && j.handles.contains h).map Job.key
  let isOld (e : CacheEntry) : Bool := e.tenant = t && e.handle = h && e.replacedFor.isNone
  let before := s.ras n
  let kept := if users.isEmpty then before.cache.filter fun e => !isOld e
    else before.cache.map fun e => if isOld e then { e with replacedFor := some users } else e
  let s := s.setRas n { before with cache := kept }
  let s := s.evict n size cap shares kept.length
  let r := s.ras n
  if ((r.cache.filter fun e => shares e.tenant).map CacheEntry.sizeKib).sum + size ≤ cap then
    let e : CacheEntry := { tenant := t, handle := h, sizeKib := size, version := s.rdN Obj.TRANSLATOR_VERSION n, lastUse := s.time,
                            stateBytes := res.stateBytes, sideEffects := res.sideEffects, fixed := q.fixed, modules := q.modules }
    ((s.setRas n { r with cache := r.cache ++ [e] }).syncCache n t, true)
  else
    let back := before.cache.filter isOld
    let others := r.cache.filter fun e => !(e.tenant = t && e.handle = h && e.replacedFor = some users)
    ((s.setRas n { r with cache := others ++ back }).syncCache n t, false)

/-- The entry a background retranslation belongs to, with its result, which waits to be swapped in (R58). -/
def State.keepRenewed (s : State) (n : Nat) (q : TransReq) (res : TransResult) : State :=
  let r := s.ras n
  let renewed := some (res.sizeKib + modulesKib q.modules, res.stateBytes, res.sideEffects, s.rdN Obj.TRANSLATOR_VERSION n)
  s.setRas n { r with cache := r.cache.map fun e =>
    if e.tenant = q.tenant && e.handle = q.handle && e.replacedFor.isNone && e.modules = q.modules then { e with renewed := renewed } else e }

/-- TRANSLATION_COMPLETE: the translation in progress ends: its job completes with OK or TRANSLATION_FAILED with the reason, or its result waits
to be swapped in (R50 to R56, R58). -/
def execTranslationComplete (res : TransResult) (s : State) : Host.Outcome State Fault Refusal :=
  .next (s.firmware fun s => match s.translator.current with
    | none => s
    | some q =>
      let s := { s with translator := { s.translator with current := none } }
      let n := q.station
      let refusal := translationRefusal q.modules q.fixed.topology res
      match q.job with
      | none => if refusal.isSome then s else s.keepRenewed n q res
      | some key =>
        let (s, status, detail) : State × Nat × Nat := match refusal with
          | some (reason, cap) => (s, csTranslationFailed, reason * 2 ^ 16 + cap)
          | none =>
            let (s, room) := s.cachePut n q res
            if room then (s, csOk, 0) else (s, csTranslationFailed, 4 * 2 ^ 16)
        let s := s.endJob n key status detail
        (s.wr Obj.TRANSLATIONS_PENDING ((s.pendingLoads n : Nat)) n).settle n)

/-- PIPELINE_DROP_FREE: a dropped handle that no queued or running job names is freed (R55). -/
def execPipelineDropFree (n : Fin 8) (t : Fin 512) (handle : Nat) (s : State) : Host.Outcome State Fault Refusal :=
  let r := s.ras n
  .next (if s.handleInUse n t handle then s
    else (s.setRas n { r with cache := r.cache.filter fun e => !(e.tenant = t.val && e.handle = handle && e.dropPending) }).syncCache n t)

/-- RETRANSLATION_SWAP: a background retranslation is swapped in between jobs; jobs that waited for a withdrawn translation go on
(R58). -/
def execRetranslationSwap (n : Fin 8) (t : Fin 512) (handle : Nat) (s : State) : Host.Outcome State Fault Refusal :=
  let r := s.ras n
  let running : Bool := r.jobs.any fun j => j.tenant = t.val && j.handles.contains handle && j.started && j.live
  .next (if running then s
    else
      let swap (e : CacheEntry) : CacheEntry :=
        match e.renewed with
        | some (size, bytes, effects, version) =>
          if e.tenant = t.val && e.handle = handle && e.replacedFor.isNone then
            { e with sizeKib := size, stateBytes := bytes, sideEffects := effects, version := version, withdrawn := false, renewed := none }
          else e
        | none => e
      ((s.setRas n { r with cache := r.cache.map swap }).syncCache n t).settle n)

/-- A new translator version: entries made by an older one are retranslated in the background from their copies (R58). -/
def State.retranslateOld (s : State) (n version : Nat) : State :=
  let old := (s.ras n).cache.filter fun e => decide (e.version < version) && e.replacedFor.isNone
  let x := s.translator
  { s with translator := { x with background := x.background ++ old.map fun e =>
    { station := n, tenant := e.tenant, handle := e.handle, job := none, modules := e.modules, fixed := e.fixed } } }

/-- The manifest marks older translations as withdrawn: jobs that name them and have not started wait until their retranslation completes
(R58, R83). -/
def State.withdrawOld (s : State) (n version : Nat) : State :=
  let r := s.ras n
  let r := { r with cache := r.cache.map fun e => if e.version < version then { e with withdrawn := true } else e }
  let s := s.setRas n r
  s.setRas n { r with jobs := r.jobs.map fun j =>
    if j.readyAt.isSome && !j.started && !s.pipesReady n j then { j with readyAt := none, deadline := none, translFrom := some s.time } else j }

end Sys2Proof.Machine
end

