-- ==== Sys2Proof/Machine/Energy.lean ====
section
/-! DEFINITION. The energy system: telemetry and ledger, the effective budget, the split, the station loop and the weir (R417 to
R450). -/
namespace Sys2Proof.Machine

/-- Stations in RUNNING. -/
def State.runningStations (s : State) : List Nat := (List.range 8).filter fun n => s.stationState n = stRunning

/-! ### Ledger -/

def State.sten (s : State) (n : Nat) : StationEnergy := s.energy.stations.getD n {}
def State.setSten (s : State) (n : Nat) (v : StationEnergy) : State :=
  { s with energy := { s.energy with stations := s.energy.stations.put n v } }

/-- Energy in units of 10⁻⁵ µJ enters an account: whole microjoules are handed on, the remainder is kept. -/
def State.addFine (s : State) (k : Nat × Nat × Nat) (fine : Nat) (f : Nat → State → State) : State :=
  let v := s.energy.frac.getD k 0 + fine
  let s := { s with energy := { s.energy with frac := s.energy.frac.put k (v % 100000) } }
  if 100000 ≤ v then f (v / 100000) s else s

/-- A charge to a tenant on a station: its energy, its total, and its credit (R423, R425, R435). -/
def State.chargeTenant (s : State) (n t fine : Nat) : State :=
  let e := s.energy
  let s := { s with energy := { e with tenantNow := e.tenantNow.put (n, t) (e.tenantNow.getD (n, t) 0 + fine) } }
  s.addFine (0, n, t) fine fun uj s =>
    ((s.total Obj.TENANT_ENERGY_UJ uj 0 n t).total Obj.TOTAL_ENERGY_UJ uj 0 0 t).wr Obj.CREDIT_UJ (s.rd Obj.CREDIT_UJ 0 n t - uj) 0 n t

/-- A charge to an enclave, and to its sponsor's sponsored energy and total; a charge of the secure domain has no station
(R427). -/
def State.chargeEnclave (s : State) (e : Nat) (station : Option Nat) (fine : Nat) : State :=
  let t := s.rdN Obj.SPONSOR 0 e
  let s := s.addFine (1, e, 0) fine fun uj s => s.total Obj.ENCLAVE_ENERGY_UJ uj 0 e
  if t < 512 then
    let s := match station with
      | some n => s.addFine (2, n, t) fine fun uj s => s.total Obj.SPONSORED_UJ uj 0 n t
      | none => s
    s.addFine (3, t, 0) fine fun uj s => s.total Obj.TOTAL_ENERGY_UJ uj 0 0 t
  else s

/-- The account that takes what no payer of a domain takes: 4 BASE, 5 IDLE, 6 HEADWORKS (R423). -/
def State.chargeAccount (s : State) (kind n fine : Nat) : State :=
  s.addFine (kind, n, 0) fine fun uj s =>
    if kind = 4 then s.total Obj.BASE_ENERGY_UJ uj 0 n
    else if kind = 5 then s.total Obj.IDLE_ENERGY_UJ uj 0 n
    else s.total Obj.HEADWORKS_ENERGY_UJ uj

/-- A charge to a payer on a station. -/
def State.chargePayer (s : State) (n kind : Nat) (p : Payer) (fine : Nat) : State :=
  match p with
  | .job key =>
    (match s.job? n key with
      | some j => ((s.setJob n { j with charged := j.charged + fine }).chargeTenant n j.tenant fine).syncReserved n j.tenant
      | none => s.chargeAccount kind n fine)
  | .tenant t => s.chargeTenant n t fine
  | .enclave e => s.chargeEnclave e (if kind = 6 then none else some n) fine
  | .base => s.chargeAccount kind n fine

/-- An amount split by weights; what rounding leaves goes to the domain's account (R423). -/
def State.splitCharge (s : State) (n kind fine : Nat) (shares : List (Payer × Nat)) : State :=
  let w := (shares.map (·.2)).sum
  if w = 0 then s.chargeAccount kind n fine
  else
    let given := (shares.map fun p => fine * p.2 / w).sum
    (s.each shares fun s p => s.chargePayer n kind p.1 (fine * p.2 / w)).chargeAccount kind n (fine - given)

/-- Enclaves that hold a block of the station. -/
def State.enclavesOn (s : State) (n : Nat) : List Nat :=
  (s.locks.filterMap fun e => if e.1.station = n && (e.2.st = .secure || e.2.st = .locked || e.2.st = .returning) then some e.2.enclave
    else none).eraseDups

/-- A power or gating request waits for a held block of the station (R407, R424, R577). R408 speaks of the gated function's energy, R424 of
all energy of the station; the domains of R417 know no function, and R424 is followed for both requests (assumption 161). -/
def State.offPending (s : State) (n : Nat) : Bool := s.rdN Obj.PENDING_OFF n ≠ 0xFF || s.rdN Obj.GATE_PENDING n ≠ 0xFF

/-- Domains of R450. -/
def domShd (n : Nat) : Nat := 3 * n
def domStn (n : Nat) : Nat := 3 * n + 1
def domMc (n : Nat) : Nat := 3 * n + 2
def domHw : Nat := 24
def domSec : Nat := 25
def domEdge (n : Nat) : Nat := 26 + n
def domInput : Nat := 34

/-- Who pays for the shader domain of a station since the last sample: the jobs by their core time, a core that saves or restores counting for
the job it preempts, and its idle time the IDLE account. Where no time has passed, the cores count as they stand (R91, R423). -/
def State.shaderPayers (s : State) (n : Nat) : List (Payer × Nat) :=
  let r := s.ras n
  let payer (k : Nat × Nat) : Payer := if (s.job? n k.1).isSome then .job k.1 else .tenant k.2
  if r.shares.isEmpty && r.idle = 0 then
    (r.cores.filterMap fun c => (c.job.bind (s.job? n)).map fun j => (Payer.job j.key, 1))
      ++ [(Payer.base, (r.cores.filter fun c => c.job.isNone).length)]
  else (r.shares.map fun e => (payer e.1, e.2)) ++ [(Payer.base, r.idle)]

/-- Who pays for the secure domain: enclaves by their time on the secure cores, and for the firmware's the HEADWORKS account (R423). -/
def State.securePayers (s : State) : List (Payer × Nat) :=
  s.energy.secTime.map fun e => (if e.1 = 0 then .base else .enclave (e.1 - 1), e.2)

/-- The energy of a station's domains goes to their payers, or while a request is PENDING_OFF to the enclaves that hold its blocks, in
equal shares (R423, R424). -/
def State.chargeStation (s : State) (n : Nat) (e : Nat → Nat) (x : EnergySample) : State :=
  let holders := s.enclavesOn n
  if s.offPending n && !holders.isEmpty then
    s.splitCharge n 4 (e (domShd n) + e (domStn n) + e (domMc n) + e (domEdge n)) (holders.map fun h => (Payer.enclave h, 1))
  else
    let of (l : List (Nat × Payer × Nat)) : List (Payer × Nat) := (l.filter fun p => p.1 = n).map (·.2)
    ((s.splitCharge n 5 (e (domShd n)) (s.shaderPayers n)).splitCharge n 4 (e (domMc n)) (of x.memory)).chargeAccount 4 n
      (e (domStn n) + e (domEdge n))

/-- A window of recent values, newest first. -/
def pushWindow (k : Nat) (v : Nat) (l : List Nat) : List Nat := (v :: l).take k

/-- A 10 µs sample of every domain adds to the counters and is charged to its owners (R421 to R427). -/
def State.energySample (s : State) (x : EnergySample) : State :=
  let fine (d : Nat) : Nat := match x.domains[d]? with
    | some v => v.1 * v.2
    | none => 0
  let s := (List.range 35).foldl (fun (s : State) d =>
    let v := x.domains.getD d (0, 0)
    let s := (s.wr Obj.VOLTAGE_MV (v.1 : Nat) 0 d).wr Obj.CURRENT_MA (v.2 : Nat) 0 d
    let s := { s with energy := { s.energy with sums := s.energy.sums.put d (s.energy.sums.getD d 0 + fine d) } }
    s.addFine (7, d, 0) (fine d) fun uj s => s.total Obj.ENERGY_UJ uj 0 d) s
  let edges := ((List.range 8).map fun n => fine (domEdge n)).sum
  let s := s.addFine (8, 0, 0) (fine domInput + edges) fun uj s => s.total Obj.INPUT_ENERGY_UJ uj
  let s := s.each (List.range 8) fun s n =>
    let c := s.sten n
    let busy := ((s.ras n).cores.filter fun c => c.job.isSome).length
    let s := s.setSten n { c with recent := pushWindow 100 (fine (domShd n)) c.recent, busy := c.busy + busy }
    let s := s.chargeStation n fine x
    s.setRas n { s.ras n with shares := [], idle := 0 }
  let s := s.chargeAccount 6 0 (fine domHw)
  let s := s.splitCharge 0 6 (fine domSec) s.securePayers
  { s with energy := { s.energy with samples := s.energy.samples + 1, secTime := [] } }

/-- ENERGY_SAMPLE: taken while the energy system is out of reset (R421, R494). -/
def execEnergySample (x : EnergySample) (s : State) : Host.Outcome State Fault Refusal :=
  .next (if s.isHwReady 12 then s.energySample x else s)

/-! ### The effective budget -/

/-- The limit of the present period: B_eff with the budget as it stands (R430, R446). -/
def State.weirLimit (s : State) : Nat := min (s.rdN Obj.DEVICE_BUDGET_MW) s.energy.cap

/-- The junction limit of the ordering code (R1, R430). -/
def State.junctionLimit (s : State) : Nat :=
  if (s.blob Obj.ORDERING_CODE).getLast? = some (BitVec.ofNat 8 69) then 105 else 100

/-- At each 10 ms the means of the period are formed and the thermal cap and B_eff follow the highest of the 16 sensors
(R430, R431). -/
def State.budgetPeriod (s : State) (sensors : List Int) : State :=
  let k := max 1 s.energy.samples
  let mean (d : Nat) : Nat := s.energy.sums.getD d 0 / (1000 * k)
  let tj := match sensors with
    | t :: rest => rest.foldl max t
    | [] => s.rd Obj.TJ_C
  let edges := ((List.range 8).map fun n => mean (domEdge n)).sum
  let input := mean domInput + edges
  let loss := mean domInput - ((List.range 26).map mean).sum
  let s := s.each (List.range 35) fun s d => s.wr Obj.POWER_MW (mean d : Nat) 0 d
  let s := ((s.wr Obj.INPUT_POWER_MW (input : Nat)).wr Obj.LOSS_MW (loss : Nat)).wr Obj.TJ_C tj
  let s := s.each (List.range 8) fun s n =>
    let c := s.sten n
    let s := s.setSten n { c with baseMeans := pushWindow 100 (mean (domStn n) + mean (domMc n) + mean (domEdge n)) c.baseMeans,
                                  busyPct := c.busy * 100 / (4 * k), busy := 0 }
    s.wr Obj.SHADER_DRAW_MW (mean (domShd n) : Nat) 0 n
  let soft : Int := s.rdAs Obj.TJ_SOFT_C
  let budget := s.rdN Obj.DEVICE_BUDGET_MW
  let cap := if soft ≤ tj then 95 * min s.energy.cap input / 100
    else if tj ≤ soft - 3 then min 110000 (s.energy.cap + budget / 100)
    else s.energy.cap
  let e := s.energy
  let s := { s with energy := { e with cap := cap, sums := [], samples := 0, tenantLast := e.tenantNow, tenantNow := []
                                       headMeans := pushWindow 100 (mean domHw + mean domSec) e.headMeans } }
  let s := (s.wr Obj.EFFECTIVE_BUDGET_MW (min budget cap : Nat)).wrB Obj.THERMAL_DERATING (decide (cap < 110000))
  let limit : Int := s.junctionLimit
  let s := if limit ≤ tj && !s.alarmRaised 3 noStation then s.alarm 3 1 noStation tj.toNat
    else if tj < limit - 5 then s.clearAlarm 3 noStation tj.toNat
    else s
  s

/-- BUDGET_PERIOD: a 10 ms period ends, while the energy system is out of reset (R430, R494). -/
def execBudgetPeriod (sensors : List Int) (s : State) : Host.Outcome State Fault Refusal :=
  .next (if s.isHwReady 12 then s.budgetPeriod sensors else s)

/-! ### The split -/

/-- Relative draws of R419, in thousandths. -/
def pointDraw (p : Nat) : Nat := [1000, 772, 596, 448, 326, 234, 160, 100].getD p 100

/-- Voltages of VDD_SHD of R419 in mV. -/
def pointVoltage (p : Nat) : Nat := [950, 880, 820, 760, 700, 650, 600, 550].getD p 550

/-- Shader clocks of R419 in MHz. -/
def pointClock (p : Nat) : Nat := [1500, 1350, 1200, 1050, 900, 750, 600, 450].getD p 450

/-- λ of R432: demands below λ × weight are met in full. -/
def waterLevel (spare : Rat) (ds : List (Rat × Rat)) : Nat → Rat → Rat
  | 0, l => l
  | fuel + 1, l =>
    let small := ds.filter fun d => d.1 ≤ l * d.2
    let rest := ds.filter fun d => l * d.2 < d.1
    let w := (rest.map (·.2)).sum
    if w = 0 then l
    else
      let l' := (spare - (small.map (·.1)).sum) / w
      if l' = l then l else waterLevel spare ds fuel l'

/-- Weighted water-filling of demands (demand, weight) over a spare (R432). -/
def waterFill (spare : Rat) (ds : List (Rat × Rat)) : List Rat :=
  let total := (ds.map (·.1)).sum
  let w := (ds.map (·.2)).sum
  if w = 0 then ds.map fun _ => 0
  else if total ≤ spare then ds.map fun d => d.1 + (spare - total) * d.2 / w
  else
    let l := waterLevel spare ds (ds.length + 1) (spare / w)
    ds.map fun d => min d.1 (l * d.2)

/-- A base with the margin of R431. -/
def State.withMargin (s : State) (means : List Nat) : Nat :=
  cdiv ((means.foldl max 0) * (100 + s.rdN Obj.BASE_MARGIN_PCT)) 100

/-- B_s: 0 in OFF, the sleep draw in SLEEP, else the largest mean of the last 1 s (R431). -/
def State.stationBase (s : State) (n : Nat) : Nat :=
  let means := (s.sten n).baseMeans
  if s.stationState n = stOff then 0 else if s.stationState n = stSleep then means.headD 0 else s.withMargin means

/-- The factor of a station's demand at its ceiling (R432). -/
def State.ceilingFactor (s : State) (n : Nat) : Rat :=
  if 95 ≤ (s.sten n).busyPct then
    (pointDraw (s.rdN Obj.POINT_CEILING 0 n) : Rat) / pointDraw (s.rdN Obj.SHADER_POINT 0 n) * s.rdN Obj.WEIR_DIVISOR 0 n
  else 1

/-- Energy estimates of deferred jobs ÷ 100 ms, in mW (R432, R434). -/
def State.deferredDemand (s : State) (n : Nat) (t : Option Nat) : Rat :=
  let l := (s.ras n).jobs.filter fun j => j.phase = .deferred && (match t with
    | some t => j.tenant = t
    | none => true)
  (((l.map fun j => (s.estimates n j).2).sum : Nat) : Rat) / 100

/-- Tenants with a job presented or admitted within the last 100 ms (R434). -/
def State.activeTenants (s : State) (n : Nat) : List Nat :=
  ((s.ras n).activeAt.filter fun e => s.time ≤ e.2 + 100000000).map (·.1)

/-- The class weight of a tenant on a station (R434). -/
def State.classWeight (s : State) (n t : Nat) : Nat :=
  match s.rdN Obj.SLICE_CLASS 0 0 t with
  | 0 => s.rdN Obj.CLASS_WEIGHT_GUARDED 0 n
  | 1 => s.rdN Obj.CLASS_WEIGHT_STANDARD 0 n
  | _ => s.rdN Obj.CLASS_WEIGHT_BACKGROUND 0 n

/-- A tenant's credit on a station grows by its allotment over 10 ms, up to the cap (R435). -/
def State.growCredit (s : State) (n t : Nat) : State :=
  let c := s.rd Obj.CREDIT_UJ 0 n t
  s.wr Obj.CREDIT_UJ (min (c + (s.rdN Obj.TENANT_ALLOTMENT_MW 0 n t * 10 : Nat)) (max (s.creditCap n t : Int) c)) 0 n t

/-- Allotments and credit of a station's tenants (R434, R435). -/
def State.splitTenants (s : State) (n : Nat) : State :=
  let active := s.activeTenants n
  let shader := s.rdN Obj.STATION_ALLOTMENT_MW 0 n - s.rdN Obj.STATION_BASE_MW 0 n
  let ds := active.map fun t =>
    ((((s.energy.tenantLast.getD (n, t) 0 : Nat) : Rat) / 1000000 * s.ceilingFactor n + s.deferredDemand n (some t)),
      ((s.classWeight n t : Nat) : Rat))
  let shares := waterFill (shader : Nat) ds
  let s := s.each (((s.ras n).activeAt.map (·.1)).filter fun t => !active.contains t) fun s t => s.wr Obj.TENANT_ALLOTMENT_MW 0 0 n t
  s.each (active.zip shares) fun s e =>
    (s.wr Obj.TENANT_ALLOTMENT_MW (floorN e.2 : Nat) 0 n e.1).growCredit n e.1

/-- Every 10 ms the credits of the RUNNING stations' tenants grow and their deferred jobs are presented again, while the allotments keep their
last values (R97, R444). -/
def State.keepSplit (s : State) : State :=
  s.each s.runningStations fun s n =>
    ((s.each (((s.ras n).activeAt.map (·.1))) fun s t => s.growCredit n t).presentDeferred n).settle n

/-- ENERGY_SPLIT: every 10 ms, while the management firmware runs, the spare is divided among the stations and their tenants, and
deferred jobs are presented again; while it does not run, the allotments stand and credits grow from them (R431 to R435, R444, R445). -/
def execEnergySplit (s : State) : Host.Outcome State Fault Refusal :=
  .next (if !s.isHwReady 3 || s.hwGated 0 then s.keepSplit
    else
      let beff := s.rdN Obj.EFFECTIVE_BUDGET_MW
      let loss := s.rdN Obj.LOSS_MW
      let head := s.withMargin s.energy.headMeans
      let bases := (List.range 8).map fun n => s.stationBase n
      let spare : Int := (beff : Int) - loss - head - (bases.sum : Nat)
      let short := decide (spare < 0)
      let running := (List.range 8).filter fun n => s.stationState n = stRunning
      let ds := running.map fun n =>
        (((s.rdN Obj.SHADER_DRAW_MW 0 n : Nat) : Rat) * s.ceilingFactor n + s.deferredDemand n none,
          ((s.rdN Obj.STATION_WEIGHT 0 n : Nat) : Rat))
      let shares := running.zip (waterFill (if short then 0 else spare) ds)
      let target (n : Nat) : Nat := bases.getD n 0 + (match shares.find? (fun e => e.1 = n) with
        | some e => if short then 0 else floorN e.2
        | none => 0)
      let now (n : Nat) : Nat := s.rdN Obj.STATION_ALLOTMENT_MW 0 n
      let step (n : Nat) : Nat := max (now n * s.rdN Obj.ALLOT_STEP_PCT / 100) (s.rdN Obj.ALLOT_STEP_MIN_MW)
      let atOnce := short || decide (beff < s.energy.splitBudget)
      let moved (n : Nat) : Nat :=
        if atOnce || s.stationState n ≠ stRunning then target n
        else if now n ≤ target n then min (target n) (now n + step n) else max (target n) (now n - step n)
      let ups := (List.range 8).map fun n => moved n - now n
      let fixed := ((List.range 8).map fun n => min (moved n) (now n)).sum + loss + head
      let room := beff - fixed
      let up (n : Nat) : Nat := if atOnce || ups.sum ≤ room then ups.getD n 0 else ups.getD n 0 * room / max 1 ups.sum
      let s := s.each (List.range 8) fun s n =>
        ((s.wr Obj.STATION_BASE_MW (bases.getD n 0 : Nat) 0 n).wr Obj.STATION_ALLOTMENT_MW (min (moved n) (now n) + up n : Nat) 0 n).wr
          Obj.STATION_DEMAND_MW (match (running.zip ds).find? (fun e => e.1 = n) with
            | some e => (floorN e.2.1 : Nat)
            | none => 0) 0 n
      let s := (s.wr Obj.HEADWORKS_RESERVE_MW (head : Nat)).wrB Obj.BUDGET_SHORT short
      let s := if short then (if s.alarmRaised 5 noStation then s else s.alarm 5 1 noStation 0) else s.clearAlarm 5 noStation 0
      let s := { s with energy := { s.energy with splitBudget := beff } }
      s.each running fun s n => ((s.splitTenants n).presentDeferred n).settle n)

/-! ### The station loop -/

/-- The shader clock takes the value of the point and the divisor; estimates are recomputed (R82, R420, R447). -/
def State.setClock (s : State) (n : Nat) : State :=
  let s := s.wr Obj.SHADER_CLOCK_MHZ (pointClock (s.rdN Obj.SHADER_POINT 0 n) / max 1 (s.rdN Obj.WEIR_DIVISOR 0 n) : Nat) n
  (s.redeadline n).settle n

/-- A station moves to another operating point: downward the clock changes at once, upward when the voltage has settled (R420). -/
def State.movePoint (s : State) (n p : Nat) : State :=
  let now := s.rdN Obj.SHADER_POINT 0 n
  let c := s.sten n
  if p < now then s.setSten n { c with raising := some (p, s.time) }
  else ((s.setSten n { c with raising := none }).wr Obj.SHADER_POINT (p : Nat) 0 n).setClock n

/-- SHADER_POINT_SETTLED: the voltage of a raise has settled, having risen at 10 mV/µs from that of the present point, and the clock changes
(R420). -/
def execShaderPointSettled (n : Fin 8) (s : State) : Host.Outcome State Fault Refusal :=
  let c := s.sten n
  .next (match c.raising with
    | some (p, since) =>
      if s.time < since + 100 * (pointVoltage p - pointVoltage (s.rdN Obj.SHADER_POINT 0 n)) then s
      else ((s.setSten n { c with raising := none }).wr Obj.SHADER_POINT (p : Nat) 0 n).setClock n
    | none => s)

/-- The station enters SHEDDING: its BACKGROUND jobs end with SHED (R100, R440). -/
def State.shed (s : State) (n : Nat) : State :=
  let s := s.wr Obj.SHEDDING 1 0 n
  let l := (s.ras n).jobs.filter fun j => j.sliceClass = 2 && (j.phase = .admitted || j.phase = .deferred)
  (s.each l fun s j => (s.count Obj.SHEDS 0 n).endJob n j.key csShed).settle n

/-- STATION_TICK: every 10 ms the station compares its draw with its allotment, and presents its deferred jobs (R97, R439, R440). -/
def execStationTick (n : Fin 8) (s : State) : Host.Outcome State Fault Refusal :=
  .next (if s.stationState n ≠ stRunning then s
    else
      let c := s.sten n
      let p : Rat := ((c.recent.sum : Nat) : Rat) / (1000 * max 1 c.recent.length : Nat) * s.rdN Obj.WEIR_DIVISOR 0 n
      let a : Rat := (s.rdN Obj.STATION_ALLOTMENT_MW 0 n - s.rdN Obj.STATION_BASE_MW 0 n : Nat)
      let point := s.rdN Obj.SHADER_POINT 0 n
      let floor_ := s.rdN Obj.SLOW_FLOOR 0 n
      let ceiling := s.rdN Obj.POINT_CEILING 0 n
      let r (q : Nat) : Rat := (pointDraw q : Rat) / pointDraw point
      let fit := decide (ceiling < point) && decide (p * r (point - 1) ≤ 9 * a / 10)
      let overLimit := decide (a < p)
      let s :=
        if overLimit && decide (point < floor_) then
          let q := match [point + 1, point + 2].find? (fun q => decide (q ≤ floor_) && decide (p * r q ≤ a)) with
            | some q => q
            | none => min (point + 2) floor_
          ((s.setSten n { c with sinceSlow := 0, fits := 0, overLimit := 0, under := 0 }).count Obj.SLOWS 0 n).movePoint n q
        else
          let c := { c with sinceSlow := c.sinceSlow + 1, fits := if fit then c.fits + 1 else 0,
                            overLimit := if overLimit && point = floor_ then c.overLimit + 1 else 0,
                            under := if p ≤ 8 * a / 10 then c.under + 1 else 0 }
          let s := s.setSten n c
          if fit && 5 ≤ c.fits && 5 ≤ c.sinceSlow && c.raising.isNone then (s.setSten n { c with fits := 0 }).movePoint n (point - 1)
          else s
      let c := s.sten n
      let s := if 2 ≤ c.overLimit && !s.rdB Obj.SHEDDING 0 n then s.shed n
        else if 5 ≤ c.under && s.rdB Obj.SHEDDING 0 n then s.wr Obj.SHEDDING 0 0 n
        else s
      (s.presentDeferred n).settle n)

/-- The point and the clock of a station that enters RUNNING: its ceiling. -/
def State.energyOn (s : State) (n : Nat) : State :=
  (((s.setSten n { s.sten n with raising := none, sinceSlow := 5, fits := 0, overLimit := 0, under := 0 }).wr Obj.SHADER_POINT
    (s.rdN Obj.POINT_CEILING 0 n : Nat) 0 n).wr Obj.SHEDDING 0 0 n).setClock n

/-- The shader domain of a station is off: no clock, no divisor, no shedding. -/
def State.energyOff (s : State) (n : Nat) : State :=
  let e := s.energy
  let s := { s with energy := { e with clamps := e.clamps.filter (· ≠ n) } }
  ((s.wr Obj.SHADER_CLOCK_MHZ 0 n).wr Obj.WEIR_DIVISOR 1 0 n).wr Obj.SHEDDING 0 0 n

/-! ### The weir -/

/-- The divisor of a station. -/
def State.divisor (s : State) (n : Nat) : Nat := s.rdN Obj.WEIR_DIVISOR 0 n

/-- A divisor takes a value; a doubling is remembered in the order of the clamps (R441, R442). -/
def State.setDivisor (s : State) (n d : Nat) : State :=
  let old := s.divisor n
  if d = old then s
  else
    let e := s.energy
    let clamps := if old < d then n :: e.clamps
      else if d = 1 then e.clamps.filter (· ≠ n)
      else e.clamps.erase n
    (({ s with energy := { e with clamps := clamps } } : State).wr Obj.WEIR_DIVISOR (d : Nat) 0 n).setClock n

/-- WEIR_COMPARE: every 1 µs the input is compared with the limit; when it first exceeds the limit, every shader clock takes a divisor
of 2 or has its divisor doubled (R441, R443). -/
def execWeirCompare (input : Nat) (s : State) : Host.Outcome State Fault Refusal :=
  let e := s.energy
  let overLimit := decide (s.weirLimit < input)
  .next (if !s.isHwReady 13 then s
    else
      let s := { s with energy := { e with overLimit := overLimit, underSince := if overLimit then none else some (e.underSince.getD s.time) } }
      let s := if overLimit && !e.overLimit then
          let s := (s.count Obj.WEIR_EVENTS).each s.runningStations fun s n => s.setDivisor n (min 8 (2 * s.divisor n))
          if s.rdN Obj.WEIR_STATE = 3 then s else s.wr Obj.WEIR_STATE 1
        else s
      let run := s.runningStations
      let full := overLimit && !run.isEmpty && run.all fun n => s.divisor n = 8
      { s with energy := { s.energy with allEight := if full then some (s.energy.allEight.getD s.time) else none } })

/-- The input that a change of divisors leads to: the change of the shader draws, as the input sees it through the regulators. -/
def WeirReading.predict (x : WeirReading) (change : Rat) : Rat :=
  (x.input : Rat) + change * (if x.domains = 0 then 1 else (x.input : Rat) / x.domains)

/-- The shader draw of a station in mW at a divisor, from its draw at the present one. -/
def drawAt (draw now d : Nat) : Rat := (draw : Rat) * now / max 1 d

/-- Divisors are deepened along an order until the input fits (R441). -/
def deepen (x : WeirReading) (limit : Nat) (now : Nat → Nat) : Nat → List Nat → FMap Nat Nat → FMap Nat Nat
  | 0, _, d => d
  | _, [], d => d
  | fuel + 1, n :: rest, d =>
    let change := ((List.range 8).map fun k => drawAt (x.draws.getD k 0) (now k) (d.getD k (now k)) - x.draws.getD k 0).sum
    if x.predict change ≤ limit then d
    else if 8 ≤ d.getD n 1 then deepen x limit now fuel rest d
    else deepen x limit now fuel (n :: rest) (d.put n (2 * d.getD n 1))

/-- WEIR_CLAMP_RANK: the stations are ranked by their shader draw above their shader allotment; divisors are kept or deepened along
that order and the others released, until the input is at most the limit (R441). -/
def execWeirClampRank (x : WeirReading) (s : State) : Host.Outcome State Fault Refusal :=
  .next (if s.rdN Obj.WEIR_STATE ≠ 1 then s
    else
      let run := s.runningStations
      let excess (n : Nat) : Int :=
        (x.draws.getD n 0 : Int) - (s.rdN Obj.STATION_ALLOTMENT_MW 0 n - s.rdN Obj.STATION_BASE_MW 0 n : Nat)
      let rec ins (n : Nat) : List Nat → List Nat
        | [] => [n]
        | k :: rest => if excess k < excess n then n :: k :: rest else k :: ins n rest
      let order := run.foldl (fun acc n => ins n acc) []
      let start : FMap Nat Nat := run.map fun n => (n, if 0 < excess n then s.divisor n else 1)
      let final := deepen x s.weirLimit s.divisor 40 order start
      let s := s.each order.reverse fun s n => s.setDivisor n (final.getD n 1)
      s.wr Obj.WEIR_STATE (if s.energy.clamps.isEmpty then 0 else 2))

/-- The weir is back at IDLE (R516). -/
def State.weirIdle (s : State) : State := (s.wr Obj.WEIR_STATE 0).clearAlarm 4 noStation 0

/-- WEIR_RELEASE_CHECK: once the input has been at most the limit for 1 ms, one divisor may be halved in each 1 ms, in reverse order of
the clamps, where the prediction stays within the limit (R442). -/
def execWeirReleaseCheck (x : WeirReading) (s : State) : Host.Outcome State Fault Refusal :=
  let e := s.energy
  .next (match e.underSince, e.clamps with
    | some since, n :: _ =>
      if s.time < since + 1000000 || s.time < e.checkedAt + 1000000 || s.weirLimit < x.input then s
      else
        let s := { s with energy := { e with checkedAt := s.time } }
        if x.predict (x.draws.getD n 0) ≤ s.weirLimit then
          let s := s.setDivisor n (s.divisor n / 2)
          if s.energy.clamps.isEmpty then s.weirIdle else s.wr Obj.WEIR_STATE 2
        else s
    | _, _ => s)

/-- WEIR_SATURATED: every running station's divisor has been 8 and the input above the limit for 100 µs (R443). -/
def execWeirSaturated (s : State) : Host.Outcome State Fault Refusal :=
  .next (match s.energy.allEight with
    | some since =>
      if s.time < since + 100000 || s.rdN Obj.WEIR_STATE = 3 then s
      else ((s.wr Obj.WEIR_STATE 3).count Obj.WEIR_SATURATIONS).alarm 4 1 noStation 0
    | none => s)

/-- DEVICE_BUDGET_MW: the limit changes from the next comparison, B_eff and the targets at the next period (R446, R450). -/
def execDeviceBudgetMw (who : Requester) (v : Nat) (s : State) : Host.Outcome State Fault Refusal :=
  .next (s.onWrite who Obj.DEVICE_BUDGET_MW v 0 0 512 0 fun s => (s.wr Obj.DEVICE_BUDGET_MW (v : Nat)).answer .ok)

/-- The counters and accounts of the always-on domain cleared by a COLD reset (R422, R428). -/
def State.energyCold (s : State) : State :=
  let rows := [Obj.ENERGY_UJ, Obj.BASE_ENERGY_UJ, Obj.IDLE_ENERGY_UJ, Obj.HEADWORKS_ENERGY_UJ, Obj.INPUT_ENERGY_UJ,
    Obj.TENANT_ENERGY_UJ, Obj.SPONSORED_UJ, Obj.OFF_PACKAGE_UJ, Obj.TOTAL_ENERGY_UJ, Obj.TOTAL_OFF_PACKAGE_UJ, Obj.ENCLAVE_ENERGY_UJ]
  let mine (k : OKey) : Bool := rows.any fun r => r.area = k.area && r.idx ≤ k.idx && k.idx < r.idx + r.cnt && r.sub = k.sub
  { s with regs := s.regs.filter fun e => !(mine e.1), energy := {} }

/-- A tenant's ledger is cleared when its slice is enabled, fractions of a microjoule with it (R428). -/
def State.clearLedger (s : State) (t : Nat) : State :=
  let mine (k : Nat × Nat × Nat) : Bool := ((k.1 = 0 || k.1 = 2) && k.2.2 = t) || (k.1 = 3 && k.2.1 = t)
  let s := { s with energy := { s.energy with frac := s.energy.frac.filter fun e => !(mine e.1) } }
  let s := s.each (List.range 8) fun s n =>
    ((s.wr Obj.TENANT_ENERGY_UJ 0 0 n t).wr Obj.SPONSORED_UJ 0 0 n t).wr Obj.OFF_PACKAGE_UJ 0 0 n t
  (s.wr Obj.TOTAL_ENERGY_UJ 0 0 0 t).wr Obj.TOTAL_OFF_PACKAGE_UJ 0 0 0 t

end Sys2Proof.Machine
end

