-- ==== Sys2Proof/Machine/Guard.lean ====
section
/-! DEFINITION. Reference loads, the safe store's commands, and the counting of a frame's verdicts (R158 to R162, R172, R176,
R177, R179 to R185). -/
namespace Sys2Proof.Machine

/-! ### Reference loads -/

/-- Outcomes of R159. -/
def refOk : Nat := 0
def refInUse : Nat := 1
def refRange : Nat := 2
def refWindow : Nat := 3
def refNoRight : Nat := 4
def refBadEntry : Nat := 5
def refPoison : Nat := 6
def refBusy : Nat := 7

/-- The page is in use by an enabled active or armed set and is not marked damaged (R159). -/
def State.pageInUse (s : State) (n g page : Nat) : Bool :=
  let uses (c : RegionCfg) : Bool := c.enable && c.page = page
  (uses (s.regionActive n g) || ((s.regionArmed n g).map uses).getD false) && !bit page (s.rdN Obj.PAGES_DAMAGED n g)

/-- The writer holds the region: as its normal holder, or as the enclave of a SECURE region (R155, R159). -/
def State.holdsRegion (s : State) (n g : Nat) (who : Requester) : Bool :=
  s.holder ⟨n, .region, g⟩ = s.writerOf who && s.writerOf who ≠ .nobody

/-- The outcome that refuses a load before any entry is changed, among outcomes 1 to 4; WINDOW looks at the holder of the region, who need
not be the writer (R159). -/
def State.refRefusal (s : State) (n : Nat) (who : Requester) (g page addr : Nat) : Option Nat :=
  let c := s.regionShadow n g
  if s.pageInUse n g page then some refInUse
  else if 131072 < c.base + (page + 1) * c.pageSize || c.pages ≤ page || c.pageSize = 0 then some refRange
  else if !s.inside (s.holder ⟨n, .region, g⟩) n 1 addr (8 * c.pageSize) then some refWindow
  else if !s.holdsRegion n g who then some refNoRight
  else none

/-- A bit of a mask object of a region. -/
def State.putPageBit (s : State) (r : ObjRow) (n g page : Nat) (b : Bool) : State :=
  s.wr r ((putBit page b (s.rdN r n g) : Nat)) n g

/-- A write of 1 to `REF_LOAD_START` that passed the checks of R461 (R159, R160, R481). -/
def State.refStart (s : State) (n : Nat) (who : Requester) : State :=
  let g := s.rdN Obj.REF_LOAD_REGION n
  let page := s.rdN Obj.REF_LOAD_PAGE n
  let addr := s.rdN Obj.REF_LOAD_ADDR n
  let refusal := s.refRefusal n who g page addr
  if (s.grd n).load.isSome then s.answer (.busy (refusal.getD refBusy))
  else
    let s := s.startResult Obj.REF_LOAD_RESULT who n
    match refusal with
    | some r => (s.finish Obj.REF_LOAD_RESULT r n).answer .ok
    | none =>
      let c := s.regionShadow n g
      let s := s.setGrd n { s.grd n with
        load := some { region := g, page := page, first := c.base + page * c.pageSize, count := c.pageSize, addr := addr,
                       holder := s.writerOf who } }
      (s.putPageBit Obj.PAGES_LOADED n g page false).answer .ok

/-- How a load's read of entry `k` ends: its value, or the outcome that stops the load (R158, R160). -/
def State.refRead (s : State) (n : Nat) (l : RefLoad) (k : Nat) : Except Nat Nat :=
  let a := l.addr + 8 * k
  if (s.tagFault n a 8 l.holder.tag).isSome then .error refWindow
  else if s.isPoisoned n a 8 then .error refPoison
  else
    let v := ofLE (s.readTagged n a 8 l.holder.tag)
    if 2 ^ 33 ≤ v then .error refBadEntry else .ok v

/-- The entries a load writes, one by one in order, until one stops it (R160). Answers the outcome. -/
def State.refEntries (s : State) (n : Nat) (l : RefLoad) : Nat → Nat → State × Nat
  | 0, _ => (s, refOk)
  | left + 1, k =>
    match s.refRead n l k with
    | .error o => (s.noteTag n (l.addr + 8 * k) 8 l.holder.tag, o)
    | .ok v =>
      let d := s.grd n
      (s.setGrd n { d with refs := d.refs.put (l.first + k) ⟨bits 31 0 v, bit 32 v, false⟩ }).refEntries n l left (k + 1)

/-- A reference load ends (R160, R162). -/
def State.refDone (s : State) (n : Nat) : State :=
  match (s.grd n).load with
  | none => s
  | some l =>
    let (s, o) := s.refEntries n l l.count 0
    let s := s.setGrd n { s.grd n with load := none }
    let s := if o = refOk then (s.putPageBit Obj.PAGES_LOADED n l.region l.page true).putPageBit Obj.PAGES_DAMAGED n l.region l.page false
             else s
    s.finish Obj.REF_LOAD_RESULT o n

/-- A load of a region stopped by the drain of a lock cycle: the entries read so far are a free number of them (R160, R403;
assumption 1). -/
def State.refStop (s : State) (n g : Nat) : State :=
  match (s.grd n).load with
  | none => s
  | some l =>
    if l.region ≠ g then s
    else
      let (k, s) := s.drawNat (l.count + 1)
      let (s, _) := s.refEntries n l k 0
      (s.setGrd n { s.grd n with load := none }).finish Obj.REF_LOAD_RESULT refNoRight n

/-- REF_LOAD_START (R159). -/
def execRefLoadStart (who : Requester) (n : Fin 8) (v : Nat) (s : State) : Host.Outcome State Fault Refusal :=
  .next (s.onWrite who Obj.REF_LOAD_START v n 0 512 0 fun s =>
    if v = 1 then s.guarded (s.needStReady n 4) fun s => s.refStart n who else s.answer .ok)

/-- REF_LOAD_DONE: the load's last read has returned (R160). A load whose reads the controller stalls goes on (R335). -/
def execRefLoadDone (n : Fin 8) (s : State) : Host.Outcome State Fault Refusal :=
  .next (if s.memServes n then s.refDone n else s)

/-! ### The safe store -/

/-- SAFE_STORE_CHECK_DONE (R177). -/
def execSafeStoreCheckDone (n : Fin 8) (s : State) : Host.Outcome State Fault Refusal := .next (s.safeChecked n)

/-! ### Regions in lock cycles and resets -/

/-- PRESENT cleared in the entries of a region's pages (R183). -/
def State.clearPages (s : State) (n : Nat) (c : RegionCfg) : State :=
  let d := s.grd n
  let last := c.base + c.pages * c.pageSize
  s.setGrd n { d with refs := d.refs.map fun e => if c.base ≤ e.1 && e.1 < last then (e.1, { e.2 with present := false }) else e }

/-- A BLOCK reset of a region (R183). -/
def State.resetRegion (s : State) (n g : Nat) : State :=
  let c := s.regionActive n g
  let sh := s.regionShadow n g
  let s := ((s.clearPages n c).clearPages n sh).wr Obj.PAGES_LOADED 0 n g
  let s := s.defaultSet n (.guard g) false
  let d := s.grd n
  if c.enable then s.setGrd n { d with closed := if d.closed.contains g then d.closed else d.closed ++ [g] }
  else s.wr Obj.REGION_STATUS 0 n g

/-- Regions of the active set that the active area no longer contains become CLOSED, and their holders are told (R184). -/
def State.closeOutside (s : State) (n : Nat) : State :=
  s.each (s.openRegions n) fun s (g, c) =>
    if s.regionClosed n g || (c.x + c.w ≤ s.activeW n && c.y + c.h ≤ s.activeH n) then s
    else
      let d := s.grd n
      (s.setGrd n { d with closed := d.closed ++ [g] }).toHolder n (s.holder ⟨n, .region, g⟩)
        (s.mkRec 0x0008 3 n noTenant [(g, 5), (4, 4)])

/-! ### Counting -/

/-- An emitted line's verdicts enter the counts of its frame (R179, R180). -/
def State.countSegs (s : State) (n : Nat) (segs : List SegResult) : State :=
  s.each segs fun s r =>
    let d := s.grd n
    let f := d.frame.getD r.region {}
    let f := { f with anyShuttered := f.anyShuttered || r.shuttered }
    let f := match r.verdict with
      | some .mismatch => { f with mismatch := f.mismatch + 1,
                                   first := match f.first with
                                     | some x => some x
                                     | none => some (r.line, r.seg) }
      | some .unchecked => { f with unchecked := f.unchecked + 1, byPolicy := f.byPolicy + (if r.byPolicy then 1 else 0) }
      | some .isMatch | none => f
    let s := s.setGrd n { d with frame := d.frame.put r.region f }
    match r.verdict with
    | some .mismatch => s.count Obj.MISMATCH_SEGMENTS n r.region
    | some .unchecked => s.count Obj.UNCHECKED_SEGMENTS n r.region
    | some .isMatch | none => s

/-- `REGION_STATUS` of the frame just emitted (R186). -/
def State.regionStatus (s : State) (n g : Nat) : Nat :=
  if s.regionClosed n g then 3
  else if !(s.regionActive n g).enable then 0
  else if ((s.grd n).frame.getD g {}).anyShuttered then 2 else 1

/-- Frames of hold left for a region (R169). -/
def State.hold? (s : State) (n g : Nat) : Nat := (s.grd n).hold.getD g 0

/-- What the end of the last active line does for a region: the run, the frame count, the hold, the record (R169, R180, R181).
Answers whether the run has reached `ESCALATION_FRAMES` (R182). -/
def State.endRegionFrame (s : State) (n g : Nat) : State × Bool :=
  let c := s.regionActive n g
  let f := (s.grd n).frame.getD g {}
  let s := s.wr Obj.REGION_STATUS (s.regionStatus n g : Nat) n g
  if s.rdN Obj.MISMATCH_RUN n g = 0 && f.mismatch = 0 && f.byPolicy = 0 && s.hold? n g = 0 then (s, false)
  else
    let bad := f.mismatch > 0
    let run := if bad then satInc 16 (s.rdN Obj.MISMATCH_RUN n g) else 0
    let s := s.wr Obj.MISMATCH_RUN (run : Nat) n g
    let s := if bad then s.count Obj.MISMATCH_FRAMES n g else s
    let d := s.grd n
    let left := d.hold.getD g 0
    let hold := if bad && c.scope = 1 then c.hold else left - 1
    let s := s.setGrd n { d with hold := if hold = 0 then d.hold.del g else d.hold.put g hold }
    let s := if bad || f.byPolicy > 0 then
        let (line, seg) := f.first.getD (0, 0)
        let r := s.mkRec 0x0007 3 n noTenant
          [(s.rdN Obj.FRAME_COUNTER n, 32), (g, 5), (line, 13), (seg, 8), (min f.mismatch 65535, 16),
           (min f.unchecked 65535, 16), (run, 16)]
        let r := match s.holder ⟨n, .region, g⟩ with
          | .tenant t => { r with tenant := t }
          | .enclave _ | .manager | .nobody => r
        let s := match s.holder ⟨n, .region, g⟩ with
          | .tenant t => s.toTenant t r
          | .enclave e => s.toEnclave e r
          | .manager | .nobody => s
        s.toStationLog n r
      else s
    let esc := s.rdN Obj.ESCALATION_FRAMES n
    (s, bad && esc ≠ 0 && esc ≤ run)

/-- The end of the last active line for all regions; of several that escalate in one frame the lowest-numbered is answered (R182; DESIGN
CHOICE: assumption 153). -/
def State.endGuardFrame (s : State) (n : Nat) : State × Option Nat :=
  let (s, e) := (List.range 32).foldl (fun (acc : State × Option Nat) g =>
    let (s, hit) := acc.1.endRegionFrame n g
    (s, match acc.2 with
        | some x => some x
        | none => if hit then some g else none)) (s, none)
  (s.setGrd n { s.grd n with frame := [] }, e)

end Sys2Proof.Machine
end

