-- ==== Sys2Proof/Machine/Display.lean ====
section
/-! DEFINITION. Timing, stretched blanking, latches, emission, write-back, freeze monitors and the output (R126, R132, R141 to
R151, R187 to R217). -/
namespace Sys2Proof.Machine

/-! ### Timing -/

/-- Values of the timing set, read through a copy. -/
structure Timing where
  pclk : Nat
  hAct : Nat
  hTot : Nat
  vAct : Nat
  vSync : Nat
  vBp : Nat
  vb : Nat
deriving DecidableEq, Repr

def timingOf (get : ObjRow → Nat) : Timing :=
  { pclk := get Obj.PIXEL_CLOCK_KHZ, hAct := get Obj.H_ACTIVE,
    hTot := get Obj.H_ACTIVE + get Obj.H_FP + get Obj.H_SYNC + get Obj.H_BP, vAct := get Obj.V_ACTIVE,
    vSync := get Obj.V_SYNC, vBp := get Obj.V_BP, vb := get Obj.V_FP + get Obj.V_SYNC + get Obj.V_BP }

/-- The timing in force. -/
def State.timing (s : State) (n : Nat) : Timing := timingOf fun r => s.rdN r n

/-- Lines of a frame of nominal length. -/
def Timing.vTot (t : Timing) : Nat := t.vb + t.vAct

/-- The length of `k` lines in ns, rounded down. -/
def Timing.ns (t : Timing) (k : Nat) : Nat := k * t.hTot * 1000000 / t.pclk

/-- Fix distance D (R199). -/
def fixDistance (get : ObjRow → Nat) : Nat := max (get Obj.FIX_LINES) (get Obj.V_SYNC + get Obj.V_BP)

/-- The fix distance in force. -/
def State.fixD (s : State) (n : Nat) : Nat := fixDistance fun r => s.rdN r n

/-- The earliest fix point, as a blanking line (R199). -/
def State.earliestFix (s : State) (n : Nat) : Nat := (s.timing n).vb - s.fixD n

/-- Lines of the longest frame under the floor, and under the ramp if there is one (R200). -/
def State.floorLines (s : State) (n : Nat) : Nat :=
  let t := s.timing n
  t.pclk * 1000 / (max 1 (max (s.rdN Obj.REFRESH_FLOOR_HZ n) (s.rdN Obj.SINK_VRR_MIN_HZ n)) * max 1 t.hTot)

def State.rampLines (s : State) (n : Nat) : Option Nat :=
  let t := s.timing n
  let r := s.rdN Obj.REFRESH_RAMP_US n
  if r = 0 then none else some ((s.dsp n).prevLines + r * t.pclk / (1000 * max 1 t.hTot))

/-- The latest fix point, as a blanking line, never before the earliest (R200). -/
def State.latestFix (s : State) (n : Nat) : Nat :=
  let m := match s.rampLines n with
    | some r => min r (s.floorLines n)
    | none => s.floorLines n
  max (s.earliestFix n) (m - s.fixD n - (s.timing n).vAct)

/-- Whether the maximum frame time is the floor's (R205). -/
def State.atFloor (s : State) (n : Nat) : Bool :=
  match s.rampLines n with
  | some r => s.floorLines n ≤ r
  | none => true

/-- Lines of the present blanking once they are known (R198, R199). -/
def State.blankLines (s : State) (n : Nat) : Option Nat :=
  let d := s.dsp n
  if d.stretchable then d.fixLine.map fun k => k + s.fixD n else some (s.timing n).vb

/-- `NEXT_BOUNDARY` (R202). -/
def State.setNextBoundary (s : State) (n : Nat) : State :=
  let d := s.dsp n
  let t := s.timing n
  let lines := match s.blankLines n with
    | some b => b + t.vAct
    | none => max (s.earliestFix n) (d.line + 1) + s.fixD n + t.vAct
  s.wr Obj.NEXT_BOUNDARY ((d.boundaryAt + t.ns lines : Nat)) n

/-! ### Latches -/

/-- Line 0 of the coming frame may be composed; whether the frame is written back is decided (R132, R149). -/
def State.startFrame (s : State) (n : Nat) : State :=
  let c := s.cmp n
  let on := s.rdB Obj.WB_ENABLE n
  let skip := if on && c.wbWas then c.wbSkip else 0
  s.setCmp n { c with
    composing := true, nextLine := 0, tableFrom := 0, transom := [], recompose := [], echoPos := [], underflowFirst := none, underflowCount := 0
    wbWas := on, wbOn := on && skip = 0, wbDropped := false,
    wbSkip := if skip = 0 then s.rdN Obj.WB_FRAME_DECIMATION n - 1 else skip - 1 }

/-- A layer is visible (R141). -/
def State.layerVisible (s : State) (n l : Nat) : Bool :=
  let c := s.layerActive n l
  s.rdN Obj.COMPOSE_SOURCE n = 2 && c.enable
    && (if l = 15 then !(s.cmp n).echoFrame.isEmpty
        else rectsMeet c.dstX c.dstY c.dstW c.dstH 0 0 (s.activeW n) (s.activeH n))

/-- The signature table of a visible layer is VALID and matches, and DIRTY was 0 (R63, R141). -/
def State.tableClean (s : State) (n l : Nat) : Bool :=
  let c := s.layerActive n l
  let h := s.readTagged n c.sigAddr 64 (s.layerTag n l)
  c.sigAddr ≠ 0 && bit 0 (byteAt h 0) && !bit 1 (byteAt h 0) && byteAt h 1 = c.format && fieldLE h 4 2 = c.bufW
    && fieldLE h 6 2 = c.bufH

/-- DIRTY of the layer's table is cleared (R66, R141). -/
def State.clearDirty (s : State) (n l : Nat) : State :=
  let c := s.layerActive n l
  if c.sigAddr = 0 then s
  else
    let f := byteAt (s.readTagged n c.sigAddr 1 (s.layerTag n l)) 0
    if bit 1 f then s.writeTagged n c.sigAddr [BitVec.ofNat 8 (clearBit 1 f)] (s.layerTag n l) else s

/-- `PICTURE_STATIC` and `STATIC_FRAMES` at a boundary latch that latched `latched` (R141). -/
def State.decideStatic (s : State) (n : Nat) (latched : Bool) : State :=
  let c := s.cmp n
  let vis := (List.range 16).filter fun l => s.layerVisible n l
  let source := s.rdN Obj.COMPOSE_SOURCE n
  let still := !latched && !c.fixLatched && (vis.all fun l => s.tableClean n l) && c.echoFrame = c.echoPrev
    && !c.sourceChanged && !(c.newSafeContent && source = 1)
  let s := s.each vis fun s l => s.clearDirty n l
  let c := s.cmp n
  let s := s.setCmp n { c with sourceChanged := false, newSafeContent := false, fixLatched := false,
                               echoPrev := c.echoFrame, echoFrame := [] }
  let s := s.wrB Obj.PICTURE_STATIC still n
  if still then s.count Obj.STATIC_FRAMES n else s.wr Obj.STATIC_FRAMES 0 n

/-- A monitor's rectangle lies in the active area (R208). -/
def State.monitorFits (s : State) (n : Nat) (m : Monitor) : Bool := m.x + m.w ≤ s.activeW n && m.y + m.h ≤ s.activeH n

/-- The monitors take their settings at a boundary latch (R209, R218). -/
def State.latchMonitors (s : State) (n : Nat) : State :=
  s.each (List.range 4) fun s k =>
    let d := s.dsp n
    let old := d.monitors.getD k {}
    let was := s.rdN Obj.FREEZE_STATE n k
    let m : Monitor := { old with
      enable := s.rdB Obj.FREEZE_ENABLE n k, x := s.rdN Obj.FREEZE_X n k, y := s.rdN Obj.FREEZE_Y n k,
      w := s.rdN Obj.FREEZE_W n k, h := s.rdN Obj.FREEZE_H n k, frames := s.rdN Obj.FREEZE_FRAMES n k,
      basis := s.rdN Obj.FREEZE_BASIS n k }
    let fits := s.monitorFits n m
    let fresh := !old.enable || was = 3 || was = 0
    let m := if fresh then { m with started := false, last := none, changedAt := d.boundaryAt } else m
    let m := { m with crc := 0xFFFFFFFF, meetsSecure := false }
    let st := if !m.enable then 0 else if !fits then 3 else if was = 2 then 2 else 1
    let s := (s.setDsp n { s.dsp n with monitors := d.monitors.put k m }).wr Obj.FREEZE_STATE (st : Nat) n k
    if fresh then s.wr Obj.UNCHANGED_COUNT 0 n k else s

/-- The sink can follow a stretched blanking (R198). -/
def State.sinkStretches (s : State) (n : Nat) : Bool :=
  bit 0 (s.rdN Obj.SINK_CAPS n) || s.rdN Obj.SINK_VRR_MIN_HZ n ≠ 0

/-- The coming blanking is stretchable (R198); a blanking in self-refresh has no length (R206). -/
def State.blankStretches (s : State) (n : Nat) : Bool :=
  (s.dsp n).psrStopped
    || (s.sinkStretches n
        && (s.rdN Obj.SYNC_MODE n = 1
            || (s.rdB Obj.STATIC_LOWERING n && s.rdB Obj.PICTURE_STATIC n
                && s.rdN Obj.STATIC_ENTRY_FRAMES n ≤ s.rdN Obj.STATIC_FRAMES n)))

/-! ### Output states -/

def outOff : Nat := 0
def outDetect : Nat := 1
def outTraining : Nat := 2
def outActive : Nat := 3
def outSelfRefresh : Nat := 4
def outLinkFail : Nat := 5
def outModeChange : Nat := 6

/-- `OUTPUT_STATE`. -/
def State.output (s : State) (n : Nat) : Nat := s.rdN Obj.OUTPUT_STATE n

/-- The output changes state: the log, the tenants bound, the ready bit, and the alarms that an ACTIVE output clears (R213,
R495, R516). -/
def State.setOutput (s : State) (n st : Nat) (cause : Nat := 0) : State :=
  if s.output n = st then s
  else
    let s := (s.wr Obj.OUTPUT_STATE st n).noteStation n 0x000B 1 [(st, 4), (cause, 4)]
    let s := s.stReady n 6 (st ≠ outOff)
    let s := if st = outLinkFail then s.startTimer (.linkRetry n) else s
    if st = outActive then (s.clearAlarm 7 n 0).clearAlarm 8 n 0 else s

/-- PSR entry at a boundary latch (R206): the frame that follows is the last. -/
def State.psrEntry (s : State) (n : Nat) : State :=
  if s.output n = outActive && s.rdN Obj.OUTPUT_KIND n = 1 && bit 2 (s.rdN Obj.SINK_CAPS n) && s.rdB Obj.PSR_ENABLE n
      && s.rdN Obj.PSR_ENTRY_FRAMES n ≤ s.rdN Obj.STATIC_FRAMES n then
    let s := s.setDsp n { s.dsp n with psrLast := true }
    ((s.setOutput n outSelfRefresh).count Obj.PSR_ENTRIES n).emit (.sdp n "VSC: last frame" [])
  else s

/-- The boundary latch of cycle B (R126 to R129, R137, R141, R184, R198, R205, R206). -/
def State.boundaryLatch (s : State) (n : Nat) : State :=
  let d := s.dsp n
  if !d.boundaryPending then s
  else
    let s := s.setDsp n { d with boundaryPending := false }
    let c := s.cmp n
    let s := s.setCmp n { c with fetched := c.fetched.filter fun f => f.commit.isSome, composing := false, transom := [] }
    let (s, latched) := s.latchSets n (s.rdN Obj.FRAME_COUNTER n)
    let s := (s.latchRevocations n).closeOutside n
    let s := if s.stationState n = stRunning then
        (s.setCmp n { s.cmp n with stackReady := true }).setCompose n 2
      else s
    let s := (s.decideStatic n !latched.isEmpty).latchMonitors n
    let stretch := s.blankStretches n
    let s := s.setDsp n { s.dsp n with stretchable := stretch, latchedAtB := !latched.isEmpty }
    let s := if stretch then s else (s.startFrame n).wr Obj.REFRESH_STATE 0 n
    (s.psrEntry n).setNextBoundary n

/-- A fix point at the line in progress (R132, R133, R202, R205). -/
def State.fixPointHere (s : State) (n : Nat) : State :=
  let d := s.dsp n
  let s := s.setDsp n { d with fixLine := some d.line }
  let (s, latched) := s.latchSets n (s.rdN Obj.FRAME_COUNTER n)
  let s := (s.latchRevocations n).closeOutside n
  let s := s.setCmp n { s.cmp n with fixLatched := !latched.isEmpty }
  let state := if d.line ≤ s.earliestFix n then 0 else if d.line ≥ s.latestFix n && s.atFloor n then 2 else 1
  ((s.startFrame n).wr Obj.REFRESH_STATE (state : Nat) n).setNextBoundary n

/-- The fix point may fall at the line in progress (R201). An end event at the present time has occurred before it (assumption 33). -/
def State.fixPointDue (s : State) (n : Nat) : Bool :=
  let d := s.dsp n
  d.counting && d.stretchable && !d.boundaryPending && d.fixLine.isNone && !d.psrStopped && s.earliestFix n ≤ d.line
    && ((d.line = s.earliestFix n && (d.endEvent.isSome || (s.rdN Obj.SYNC_MODE n = 1 && d.latchedAtB)))
        || s.latestFix n ≤ d.line
        || (match d.endEvent with
            | some t => t + 20 ≤ s.time
            | none => false))

/-! ### Emission -/

/-- A pixel for which R397 substitutes: inside the destination of a layer, or inside a region, held by an enclave. -/
def State.secureBoxes (s : State) (n : Nat) : List (Int × Int × Int × Int) :=
  let enc (b : Block) : Bool := match s.holder b with
    | .enclave _ => true
    | .tenant _ | .manager | .nobody => false
  ((List.range 16).filterMap fun l =>
    let c := s.layerActive n l
    if c.enable && enc ⟨n, .layer, l⟩ then some (c.dstX, c.dstY, (c.dstW : Int), (c.dstH : Int)) else none)
  ++ ((s.openRegions n).filterMap fun (g, c) =>
    if enc ⟨n, .region, g⟩ then some ((c.x : Int), (c.y : Int), (c.w : Int), (c.h : Int)) else none)

/-- A point lies in one of the boxes. -/
def inBoxes (bs : List (Int × Int × Int × Int)) (x y : Int) : Bool :=
  bs.any fun (bx, by_, w, h) => bx ≤ x && x < bx + w && by_ ≤ y && y < by_ + h

/-- The stored form of a pixel for write-back (R150): format 1 ARGB8888, else ARGB2101010. -/
def wbPixel (format p : Nat) : Bytes :=
  if format = 1 then
    let r (v : Nat) : Nat := (roundDiv ((v * 255 : Nat)) 1023).toNat
    toLE 4 (0xFF000000 + r (bits 29 20 p) * 65536 + r (bits 19 10 p) * 256 + r (bits 9 0 p))
  else toLE 4 (0xC0000000 + p % 2 ^ 30)

/-- Write-back of an emitted line, whose pixels carry the substitutes of R397 (R148 to R151). -/
def State.writeBack (s : State) (n y : Nat) (pixels : List Nat) (room : Bool) : State :=
  let c := s.cmp n
  if !c.wbOn || c.wbDropped then s
  else
    let x0 := s.rdN Obj.CROP_X n
    let y0 := s.rdN Obj.CROP_Y n
    let d := max 1 (s.rdN Obj.WB_SPATIAL_DECIMATION n)
    if y < y0 || y0 + s.rdN Obj.CROP_H n ≤ y || (y - y0) % d ≠ 0 then s
    else if !room then (s.setCmp n { c with wbDropped := true }).count Obj.WB_FRAMES_DROPPED n
    else
      let crop := (pixels.drop x0).take (s.rdN Obj.CROP_W n)
      let kept := (crop.zipIdx.filter fun e => e.2 % d = 0).map (·.1)
      let bytes := (kept.map (wbPixel (s.rdN Obj.WB_FORMAT n))).flatten
      if bytes.isEmpty then s
      else s.writeTagged n (s.rdN Obj.WB_ADDR n + (y - y0) / d * s.rdN Obj.WB_PITCH n) bytes 0

/-- The end of a write-back frame (R151). -/
def State.endWriteBack (s : State) (n : Nat) : State :=
  let c := s.cmp n
  if !c.wbOn then s
  else
    let s := if c.wbDropped then s else s.count Obj.WB_FRAMES_WRITTEN n
    let s := s.setCmp n { s.cmp n with wbOn := false }
    s.toHolder n (s.stationSetHolder n)
      (s.mkRec 0x0005 1 n noTenant [(s.rdN Obj.FRAME_COUNTER n, 32), (if c.wbDropped then 0 else 1, 1)])

/-- An emitted line passes the freeze monitors (R208, R397). -/
def State.monitorLine (s : State) (n y : Nat) (pixels : List Nat) (boxes : List (Int × Int × Int × Int)) : State :=
  s.each (List.range 4) fun s k =>
    let d := s.dsp n
    let m := d.monitors.getD k {}
    if m.enable && s.monitorFits n m && m.y ≤ y && y < m.y + m.h then
      let px := (pixels.drop m.x).take m.w
      let crc := crcFeed 32 0x1EDC6F41 true m.crc (packPixels px)
      let secure := (List.range m.w).any fun i => inBoxes boxes (m.x + i : Nat) y
      s.setDsp n { d with monitors := d.monitors.put k { m with crc := crc, meetsSecure := m.meetsSecure || secure } }
    else s

/-- FREEZE and FREEZE_CLEARED go to the tenants with the FREEZE right (R210). -/
def State.freezeNote (s : State) (n : Nat) (r : Rec) : State :=
  s.each ((s.boundTenants n).filter fun t => s.hasRight t n 6) fun s t => s.toTenant t { r with tenant := t }

/-- A monitor's count reaches its threshold: FROZEN (R210). -/
def State.freezeCheck (s : State) (n k count : Nat) : State :=
  let s := s.wr Obj.UNCHANGED_COUNT ((min count 65535 : Nat)) n k
  let m := (s.dsp n).monitors.getD k {}
  if s.rdN Obj.FREEZE_STATE n k = 1 && m.frames ≤ count then
    let r := s.mkRec 0x0009 3 n noTenant [(k, 2), (min count 65535, 16)]
    ((((s.wr Obj.FREEZE_STATE 2 n k).freezeNote n r).toStationLog n r).count Obj.FREEZE_EVENTS n).alarm 6 1 n k
  else s

/-- A changed signature returns a frozen monitor to WATCHING (R210). -/
def State.freezeClear (s : State) (n k : Nat) : State :=
  let s := s.wr Obj.UNCHANGED_COUNT 0 n k
  if s.rdN Obj.FREEZE_STATE n k = 2 then
    let s := (s.wr Obj.FREEZE_STATE 1 n k).freezeNote n (s.mkRec 0x000A 2 n noTenant [(k, 2)])
    if (List.range 4).any fun j => s.rdN Obj.FREEZE_STATE n j = 2 then s else s.clearAlarm 6 n k
  else s

/-- The end of an emitted frame for a monitor (R208 to R210). -/
def State.endMonitor (s : State) (n k : Nat) : State :=
  let d := s.dsp n
  let m := d.monitors.getD k {}
  if !m.enable || !s.monitorFits n m then s
  else
    let sig := (reflectBits 32 m.crc) ^^^ 0xFFFFFFFF
    let changed := m.last ≠ some sig
    let m' := { m with last := some sig, started := true, changedAt := if !m.started || changed then d.boundaryAt else m.changedAt,
                       crc := 0xFFFFFFFF, meetsSecure := false }
    let s := (s.setDsp n { d with monitors := d.monitors.put k m' }).wr Obj.LAST_SIGNATURE
      (if m.meetsSecure then 0 else (sig : Int)) n k
    if !m.started then s.wr Obj.UNCHANGED_COUNT 0 n k
    else if changed then s.freezeClear n k
    else if m.basis = 1 then s.freezeCheck n k (s.rdN Obj.UNCHANGED_COUNT n k + 1)
    else s

/-- A nominal frame period has passed: monitors of basis NOMINAL evaluate their count (R209). In SLEEP they hold (R192). -/
def State.freezeTick (s : State) (n : Nat) : State :=
  if s.stationState n = stSleep then s
  else s.each (List.range 4) fun s k =>
    let m := (s.dsp n).monitors.getD k {}
    let t := s.timing n
    if m.enable && s.monitorFits n m && m.started && m.basis = 0 then
      s.freezeCheck n k ((s.time - m.changedAt) * t.pclk / max 1 (t.vTot * t.hTot * 1000000))
    else s

/-- The line of an active line that is not ready (R146, R179). -/
def State.underflowLine (s : State) (n y : Nat) : List Nat :=
  let regions := s.openRegions n
  (List.range (s.activeW n)).map fun x =>
    match regions.find? fun r => r.2.has x y with
    | some (g, c) => s.shutterPx n g c x y
    | none => s.rdN Obj.UNDERFLOW_COLOUR n

/-- Lead at the start of emission: ready lines of the transom, counting the line (R144). Where they are all that is left of the frame, the
lead is as long as the target, which R178 gives for every line (DEDUCED: assumption 54). -/
def State.recordLead (s : State) (n y : Nat) : State :=
  let ready := ((s.cmp n).transom.filter fun t => t.ready && y ≤ t.y).length
  let lead := if ready = s.activeH n - y then max ready (s.rdN Obj.TRANSOM_TARGET n) else ready
  let s := if lead < 2 then s.count Obj.LEAD_LOW_LINES n else s
  s.wr Obj.LEAD_MIN ((min lead (s.rdN Obj.LEAD_MIN n) : Nat)) n

/-- Active line `y` is emitted: the transom's line where it is ready, else an underflow line (R146, R147, R180). Answers the
pixels. -/
def State.takeLine (s : State) (n y : Nat) : State × List Nat :=
  let c := s.cmp n
  match c.transom.find? fun t => t.y = y && t.ready with
  | some t =>
    let s := s.setCmp n { c with transom := c.transom.filter fun t => y < t.y,
                                 echoFrame := c.echoFrame ++ t.copies.map fun k => (y, k) }
    (s.countSegs n t.segs, t.out)
  | none =>
    let px := s.underflowLine n y
    let s := s.setCmp n { c with transom := c.transom.filter fun t => y < t.y
                                 recompose := c.recompose.filter fun k => y < k
                                 nextLine := max c.nextLine (y + 1)
                                 underflowFirst := match c.underflowFirst with
                                   | some f => some f
                                   | none => some y
                                 underflowCount := c.underflowCount + 1 }
    (({ s with free := s.free + s.activeW n } : State).count Obj.UNDERFLOW_LINES n, px)

/-- What the generator publishes at the start of the line in progress (R191): a line is active video, then blanking, and a line of a
stretched blanking or of self-refresh lies in vertical blanking. -/
def State.publish (s : State) (n : Nat) : State :=
  let d := s.dsp n
  let t := s.timing n
  let vertical : Bool := match s.blankLines n with
    | some b => d.line < b
    | none => true
  s.setDsp n { d with published := { line := d.line, start := s.time, blank := s.time + t.hAct * 1000000 / max 1 t.pclk,
                                     active := s.time + t.ns 1, vertical := vertical } }

/-- The link in use carries DSC (R195). -/
def State.linkDsc (s : State) (n : Nat) : Bool := bit 7 (s.rdN Obj.LINK_CONFIG n)

/-- Slice height: the largest divisor of V_ACTIVE from 8 to 128 (R196). -/
def sliceHeight (vAct : Nat) : Nat := ((List.range 129).filter fun k => 8 ≤ k && vAct % k = 0).foldl max 0

/-- A line leaves the pins: as it is, or through the DSC encoder, which takes the lines of a slice row one after another (R187, R193,
R196; assumption 155). -/
def State.sendLine (s : State) (n y : Nat) (px : List Nat) : State :=
  if s.linkDsc n then
    let h := sliceHeight (s.activeH n)
    let d := s.dsp n
    let rows := d.dscRows ++ [px]
    let s := s.setDsp n { d with dscRows := if (y + 1) % h = 0 then [] else rows }
    s.emit (.dscLine n (s.rdN Obj.FRAME_COUNTER n) y
      (Config.dscLine (s.rdN Obj.LINK_BPC n) (s.rdN Obj.DSC_BPP_X16 n) (s.rdN Obj.DSC_SLICES n) h rows))
  else s.emit (.line n (s.rdN Obj.FRAME_COUNTER n) y px)

/-- The PPS goes out before the first compressed frame of a mode (R196). -/
def State.sendPps (s : State) (n : Nat) : State :=
  let d := s.dsp n
  if d.video && s.linkDsc n && !d.ppsSent then
    (s.setDsp n { d with ppsSent := true }).emit (.sdp n "PPS"
      (Config.dscPps (s.rdN Obj.LINK_BPC n) (s.rdN Obj.DSC_BPP_X16 n) (s.rdN Obj.DSC_SLICES n) (sliceHeight (s.activeH n)) (s.activeW n)
        (s.activeH n)))
  else s

/-- Emission of active line `y` with what stands on it: lead, write-back, check-value unit, monitors, and the pins (R144 to R148,
R187, R208, R397, R598). -/
def State.emitLine (s : State) (n y : Nat) (room : Bool) : State :=
  let s := s.recordLead n y
  let (s, px) := s.takeLine n y
  let boxes := s.secureBoxes n
  let hidden := px.zipIdx.map fun (p, x) => if inBoxes boxes (x : Nat) y then 0 else p
  let s := ((s.writeBack n y hidden room).cvLine n y (s.activeH n) hidden).monitorLine n y px boxes
  if (s.dsp n).video then s.sendLine n y px else s

/-- The UNDERFLOW record of a frame (R147). -/
def State.endUnderflow (s : State) (n : Nat) : State :=
  let c := s.cmp n
  match c.underflowFirst with
  | none => s
  | some f =>
    (s.setCmp n { c with underflowFirst := none, underflowCount := 0 }).toStationLog n
      (s.mkRec 0x8001 0 n noTenant [(s.rdN Obj.FRAME_COUNTER n, 32), (f, 13), (c.underflowCount, 13)])

/-- The main link stops under R206 (R205). -/
def State.linkSleeps (s : State) (n : Nat) : State :=
  let d := s.dsp n
  ((s.setDsp n { d with psrLast := false, psrStopped := true, video := false, refreshWas := s.rdN Obj.REFRESH_STATE n }).wr
    Obj.REFRESH_STATE 3 n).emit (.link n "main link down for self-refresh")

/-- The output leaves SELF_REFRESH other than by its wake: `REFRESH_STATE` is what it was before the link stopped (R205). -/
def State.leaveRefresh (s : State) (n : Nat) : State :=
  let d := s.dsp n
  let s := if d.psrStopped then s.wr Obj.REFRESH_STATE (d.refreshWas : Nat) n else s
  s.setDsp n { d with psrLast := false, psrStopped := false }

/-- The main link after the last frame before self-refresh: stopped, or kept where an end event came first (R206, R207). -/
def State.endPsrFrame (s : State) (n : Nat) : State :=
  let d := s.dsp n
  if !d.psrLast then s
  else if d.endEvent.isSome then (s.setDsp n { d with psrLast := false }).setOutput n outActive
  else s.linkSleeps n

/-- What follows the last active line of a frame, apart from the guard engine's counting (R147, R151, R206, R208). -/
def State.endFrame (s : State) (n : Nat) : State :=
  let s := (s.endUnderflow n).endWriteBack n
  let s := s.each (List.range 4) fun s k => s.endMonitor n k
  let d := s.dsp n
  let s := if !d.firstFrameSent && d.video then s.startTimer (.backlight n) else s
  let s := s.setDsp n { d with frameOver := true, firstFrameSent := d.firstFrameSent || d.video }
  let s := s.setCmp n { s.cmp n with composing := false }
  s.endPsrFrame n

/-- A line starts (R187, R191, R202). Answers whether it is the last active line. -/
def State.lineStart (s : State) (n : Nat) (room : Bool) : State × Bool :=
  let d := s.dsp n
  if !d.counting || d.modeHeld || d.frameOver || d.boundaryPending then (s, false)
  else
    let l := d.line + 1
    let s := (s.setDsp n { d with line := l }).publish n
    match s.blankLines n with
    | none => (s.setNextBoundary n, false)
    | some b =>
      if l < b then (s, false)
      else
        let y := l - b
        let s := s.emitLine n y room
        if y + 1 = s.activeH n then (s.endFrame n, true) else (s, false)

/-- The generator counts, and the frame in progress is over. -/
def State.boundaryFalls (s : State) (n : Nat) : Bool :=
  let d := s.dsp n
  d.counting && !d.modeHeld && d.frameOver

/-- A frame boundary (R190, R191, R215): the held interval of a mode change begins, or a frame begins. In self-refresh the counter stands
still, and an end event since the link stopped stays (R190, R207). -/
def State.frameBoundary (s : State) (n : Nat) : State :=
  let d := s.dsp n
  if !s.boundaryFalls n then s
  else
    let t := s.timing n
    let lines := if d.line = 0 then 0 else d.line + 1
    let s := if lines = 0 then s else s.wr Obj.FRAME_TIME_LAST ((t.ns lines % 2 ^ 32 : Nat)) n
    let prev := if lines = 0 then t.vTot else lines
    if d.modePending then
      ((s.setDsp n { d with modePending := false, modeHeld := true, video := false, prevLines := prev, boundaryAt := s.time
                            published := { start := s.time } }).wr
        Obj.NEXT_BOUNDARY ((s.time + 150000 : Nat)) n).emit (.link n "idle pattern")
    else
      let s := s.setDsp n { d with
        line := 0, boundaryAt := s.time, boundaryPending := true, stretchable := false, fixLine := none
        endEvent := if d.psrStopped then d.endEvent else none
        frameOver := false, prevLines := prev, latchedAtB := false, dscRows := []
        video := (d.video || s.output n = outActive) && !d.psrStopped }
      let s := (s.publish n).sendPps n
      if d.psrStopped then s else s.advance Obj.FRAME_COUNTER n

/-! ### Link -/

/-- Lane rates of the codes of `LINK_CONFIG`, in 10 Mb/s (R195). -/
def laneRate : Nat → Nat
  | 1 => 1350
  | 2 => 1000
  | 3 => 810
  | 4 => 540
  | 5 => 540
  | 6 => 675
  | 7 => 810
  | _ => 0

/-- Payload of a configuration in kb/s (R194). -/
def payload (c : Nat × Nat) : Nat :=
  match c.1 with
  | 1 => 52360000
  | 2 => 38790000
  | 3 => 6480000 * c.2
  | 4 => 4320000 * c.2
  | 5 => 4320000 * c.2
  | 6 => 5400000 * c.2
  | 7 => 6480000 * c.2
  | _ => 0

/-- The configurations of an output kind in the order of R194. -/
def kindConfigs (kind : Nat) : List (Nat × Nat) :=
  if kind = 0 then [(1, 4), (2, 4), (3, 4), (3, 2), (3, 1), (4, 4), (4, 2), (4, 1)]
  else [(7, 4), (7, 2), (7, 1), (6, 4), (6, 2), (6, 1), (5, 4), (5, 2), (5, 1)]

/-- 8b/10b links, on which DSC brings FEC (R193). -/
def is8b10b (c : Nat × Nat) : Bool := c.1 ≥ 3

/-- A stream of `bppX16` / 16 bits per pixel fits a configuration (R194). -/
def fits (pclk bppX16 : Nat) (c : Nat × Nat) (fec : Bool) : Bool :=
  pclk * bppX16 * 100 * 1000 ≤ 98 * 16 * payload c * (if fec then 976 else 1000)

/-- The configuration carries the stream uncompressed under a copy of the link objects (R194, R195). -/
def carriesPlain (get : ObjRow → Nat) (c : Nat × Nat) : Bool :=
  get Obj.DSC_MODE ≠ 2 && get Obj.H_ACTIVE ≤ 3840 && fits (get Obj.PIXEL_CLOCK_KHZ) (3 * get Obj.LINK_BPC * 16) c false

/-- DSC settings meet R196. -/
def dscValid (get : ObjRow → Nat) : Bool :=
  let bpp := get Obj.DSC_BPP_X16
  128 ≤ bpp && bpp ≤ (if get Obj.LINK_BPC = 8 then 192 else 240) && cdiv (get Obj.H_ACTIVE) (get Obj.DSC_SLICES) ≤ 2560
    && (List.range 129).any fun k => 8 ≤ k && get Obj.V_ACTIVE % k = 0

/-- The configuration carries the stream compressed (R194 to R196). -/
def carriesDsc (get : ObjRow → Nat) (sinkDsc : Bool) (c : Nat × Nat) : Bool :=
  get Obj.DSC_MODE ≠ 0 && sinkDsc && dscValid get && fits (get Obj.PIXEL_CLOCK_KHZ) (get Obj.DSC_BPP_X16) c (is8b10b c)

/-- Configurations to try, in order: of the output's kind, reported, within the limits, and carrying the stream (R195). -/
def linkOrder (get : ObjRow → Nat) (reported : (Nat × Nat) → Bool) (sinkDsc : Bool) : List (Nat × Nat) :=
  (kindConfigs (get Obj.OUTPUT_KIND)).filter fun c =>
    reported c && laneRate c.1 ≤ laneRate (get Obj.MAX_LINK_RATE) && c.2 ≤ get Obj.MAX_LANES
      && (carriesPlain get c || carriesDsc get sinkDsc c)

/-- `LINK_CONFIG` of a configuration in use (R195, R218). -/
def linkWord (get : ObjRow → Nat) (c : Nat × Nat) : Nat :=
  let dsc := !carriesPlain get c
  c.1 + 16 * c.2 + (if dsc then 128 else 0) + (if dsc && is8b10b c then 256 else 0)

/-- The link objects in force. -/
def State.linkGet (s : State) (n : Nat) : ObjRow → Nat := fun r => s.rdN r n

/-- The configurations the output may train on (R195). -/
def State.candidates (s : State) (n : Nat) : List (Nat × Nat) :=
  let d := s.dsp n
  linkOrder (s.linkGet n) (fun c => d.sinkConfigs.contains c) (bit 1 (s.rdN Obj.SINK_CAPS n))

/-- The order in which a link is trained: the order of R195, and the present configuration first where a link is retrained (R211). -/
def State.trainingOrder (s : State) (n : Nat) : List (Nat × Nat) :=
  let w := s.rdN Obj.LINK_CONFIG n
  let c : Nat × Nat := (bits 3 0 w, bits 6 4 w)
  let l := s.candidates n
  if l.contains c then c :: l.filter (· ≠ c) else l

/-- The output enters DETECT: the read starts where a sink is there already (R211). -/
def State.enterDetect (s : State) (n : Nat) (cause : Nat := 0) : State :=
  let s := (s.setOutput n outDetect cause).wr Obj.LINK_CONFIG 0 n
  if (s.dsp n).hpd then (s.setDsp n { s.dsp n with reading := true }).emit (.link n "read DPCD and EDID") else s

/-- The judgement of a known sink: TRAINING where some configuration carries the mode, else LINK_FAIL (R211). -/
def State.judgeSink (s : State) (n : Nat) : State :=
  if (s.candidates n).isEmpty then
    if s.output n = outLinkFail then s else (s.setOutput n outLinkFail 1).alarm 8 1 n 1
  else s.setOutput n outTraining

/-! ### Mode -/

/-- The objects that a mode commit applies (R218, R465). -/
def modeRows : List ObjRow :=
  [Obj.PIXEL_CLOCK_KHZ, Obj.H_ACTIVE, Obj.H_FP, Obj.H_SYNC, Obj.H_BP, Obj.V_ACTIVE, Obj.V_FP, Obj.V_SYNC, Obj.V_BP,
   Obj.SYNC_POLARITY, Obj.LINK_BPC, Obj.OUTPUT_KIND, Obj.MAX_LINK_RATE, Obj.MAX_LANES, Obj.SSC_ENABLE, Obj.LTTPR_MODE,
   Obj.DSC_MODE, Obj.DSC_BPP_X16, Obj.DSC_SLICES, Obj.SYNC_MODE, Obj.STATIC_LOWERING, Obj.REFRESH_FLOOR_HZ,
   Obj.REFRESH_RAMP_US, Obj.STATIC_ENTRY_FRAMES, Obj.PSR_ENABLE, Obj.PSR_ENTRY_FRAMES, Obj.FIX_LINES, Obj.PSR_WAKE_US]

/-- The outcome of R216 for a copy of the objects, apart from NO_RIGHT. -/
def modeOutcome (get : ObjRow → Nat) (target : Nat) (reported : (Nat × Nat) → Bool) (sinkDsc : Bool) : Nat :=
  let t := timingOf get
  let hb := t.hTot - t.hAct
  let d := fixDistance get
  let geometry := 320 ≤ t.hAct && t.hAct ≤ 7680 && t.hAct % 2 = 0 && 32 ≤ hb && hb ≤ 1280 && 240 ≤ t.vAct && t.vAct ≤ 4320
    && 5 ≤ t.vb && t.vb ≤ 255 && 1 ≤ t.vSync
    && 24 * t.hTot * t.vTot ≤ t.pclk * 1000 && t.pclk * 1000 ≤ 144 * t.hTot * t.vTot
  let plain := (linkOrder get reported false)
  let needDsc := get Obj.DSC_MODE = 2 || 3840 < t.hAct || (get Obj.DSC_MODE = 1 && plain.isEmpty)
  let lead := fdiv (((d * t.hTot * 1000000 : Nat) - (12380 * t.pclk : Nat) : Int) * 3) (2 * t.hAct * t.pclk)
  let stretch := get Obj.SYNC_MODE = 1 || get Obj.STATIC_LOWERING = 1
  if !geometry then 4
  else if t.pclk < 25000 || 1350000 < t.pclk then 10
  else if (3840 < t.hAct && get Obj.DSC_MODE = 0) || (needDsc && (!dscValid get || !sinkDsc)) then 13
  else if (linkOrder get reported sinkDsc).isEmpty then 11
  else if stretch && (t.vb ≤ d || min (target : Int) lead < 4) then 12
  else 0

/-- The accepted mode's sets become active (R215). -/
def State.applyMode (s : State) (n : Nat) : State :=
  let d := s.dsp n
  let old := s.timing n
  let new := (modeRows.map fun r => r.key n 0 512 0).zip d.modeArmed
  let s := { s with regs := new.foldl (fun (m : FMap OKey Int) (v : OKey × Int) => m.put v.1 v.2) s.regs }
  let s := s.noteChange Obj.OUTPUT_KIND
  let new := s.timing n
  s.setDsp n { d with modeArmed := [], modePending := false, modeHeld := false, newTiming := true, ppsSent := false
                      prevLines := d.prevLines * old.hTot * new.pclk / max 1 (old.pclk * new.hTot) }

/-- An eDP panel that is on is powered down in the reverse order of R217: BL_EN and BL_PWM first. -/
def State.panelDown (s : State) (n : Nat) : State :=
  let d := s.dsp n
  if s.rdN Obj.OUTPUT_KIND n = 1 && (d.panel = 1 || d.panel = 2 || d.panel = 3) then
    ((s.setDsp n { d with panel := 4 }).drive 3 false n |>.drive 4 false n).startTimer (.panel n)
  else s

/-- The output goes to OFF: DP sink to D3, eDP panel powered down (R211). -/
def State.outputOff (s : State) (n : Nat) : State :=
  let s := if s.rdN Obj.OUTPUT_KIND n = 0 && s.output n ≠ outOff then s.emit (.link n "sink to D3, main link off") else s
  let s := ((s.leaveRefresh n).panelDown n).setOutput n outOff
  let d := s.dsp n
  (s.setDsp n { d with video := false, sinkKnown := false, reading := false, hpd := false,
                       firstFrameSent := false, retries := 0 }).wr Obj.LINK_CONFIG 0 n

/-- The generator stops; a mode change in progress completes with its sets active (R192, R215). -/
def State.stopTiming (s : State) (n : Nat) : State :=
  let d := s.dsp n
  let s := if d.modePending || d.modeHeld then s.applyMode n else s
  let s := if s.rdN Obj.CV_SOURCE 0 (16 + n) = cvComposed then s.cvSourceLost (16 + n) else s
  let c := s.cmp n
  (s.setDsp n { s.dsp n with counting := false, frameOver := true, boundaryPending := false, line := 0, endEvent := none }).setCmp n
    { c with composing := false, transom := [], recompose := [], underflowFirst := none, underflowCount := 0 } |>.setGrd n
    { s.grd n with frame := [] }

/-- The monitors count on from where SLEEP held them: T moves on by the time held (R192, R209). DEDUCED: assumption 13. -/
def State.releaseMonitors (s : State) (n : Nat) : State :=
  let d := s.dsp n
  let moved (t : Nat) : FMap Nat Monitor := d.monitors.map fun e => (e.1, { e.2 with changedAt := e.2.changedAt + (s.time - t) })
  match d.heldSince with
  | some t => s.setDsp n { d with monitors := moved t, heldSince := none }
  | none => s

/-- The generator starts counting; an output in OFF goes to DETECT, an eDP panel being powered up first (R211, R217). -/
def State.startTiming (s : State) (n : Nat) : State :=
  let s := s.releaseMonitors n
  let s := s.setDsp n { s.dsp n with counting := true, frameOver := true, line := 0 }
  if s.output n = outOff then
    let s := s.enterDetect n
    if s.rdN Obj.OUTPUT_KIND n = 1 then
      ((s.setDsp n { s.dsp n with panel := 1 }).drive 5 true n).startTimer (.panel n)
    else s
  else s

/-- The output when its station enters SLEEP (R192, R211). -/
def State.outputSleep (s : State) (n : Nat) : State :=
  let s := s.stopTiming n
  let s := s.setDsp n { s.dsp n with heldSince := some s.time }
  if s.output n = outOff then s
  else if s.rdN Obj.OUTPUT_KIND n = 1 && bit 2 (s.rdN Obj.SINK_CAPS n) then
    let s := s.setOutput n outSelfRefresh
    if (s.dsp n).psrStopped then s else s.linkSleeps n
  else s.outputOff n

/-- A mode commit that passed the checks of R461 (R215, R216). -/
def State.modeCommit (s : State) (n : Nat) (who : Requester) : State :=
  let d := s.dsp n
  let get : ObjRow → Nat := fun r => s.rdShadowN r n
  let o := modeOutcome get (s.rdN Obj.TRANSOM_TARGET n)
    (fun c => !d.sinkKnown || d.sinkConfigs.contains c) (!d.sinkKnown || bit 1 (s.rdN Obj.SINK_CAPS n))
  let s := s.startResult Obj.MODE_RESULT who n
  let s := s.finish Obj.MODE_RESULT o n
  if o ≠ 0 then s.answer (.refused 8)
  else
    let stays := s.output n = outActive && (match linkOrder get (fun c => d.sinkConfigs.contains c) (bit 1 (s.rdN Obj.SINK_CAPS n)) with
      | c :: _ => linkWord get c = s.rdN Obj.LINK_CONFIG n
      | [] => false)
    let s := s.setDsp n { d with modeArmed := modeRows.map fun r => s.rdShadow r n }
    if !d.counting then
      let s := if s.output n = outSelfRefresh then s.outputOff n else s
      (s.applyMode n).answer .ok
    else
      let s := s.leaveRefresh n
      let s := s.setDsp n { s.dsp n with modePending := true, modeStaysActive := stays }
      (s.setOutput n outModeChange).answer .ok

end Sys2Proof.Machine
end

