-- ==== Sys2Proof/Machine/Haptic.lean ====
section
/-! DEFINITION. The haptic driver: triggers and their queue, effects, the sense-sample calculation, braking, and the driver states
(R268 to R291). -/
namespace Sys2Proof.Machine

/-- Driver states of R292. -/
def haOff : Nat := 0
def haIdle : Nat := 1
def haPlaying : Nat := 2
def haBraking : Nat := 3
def haFault : Nat := 4

/-- `HAPTIC_STATE`. -/
def State.hapState (s : State) (n : Nat) : Nat := s.rdN Obj.HAPTIC_STATE n

/-- The haptic RWC objects (R292). -/
def hapticRows : List ObjRow :=
  [Obj.V_NOMINAL_MV, Obj.V_LIMIT_MV, Obj.COIL_R_MOHM, Obj.COIL_L_UH, Obj.SHUNT_MOHM, Obj.DEAD_TIME_NS, Obj.BRIDGE_UV_MV,
   Obj.BRIDGE_OV_MV, Obj.OC_LIMIT_MA, Obj.DRIVE_TIME_LIMIT_MS, Obj.COIL_RTH_DKW, Obj.COIL_TAU_MS, Obj.COIL_RISE_LIMIT_K,
   Obj.BRAKE_GAIN_X100, Obj.BRAKE_END_MV, Obj.BRAKE_MAX_MS, Obj.BEMF_REF_MV, Obj.BLEND_ENABLE]

/-- A pending HAPTIC_COMMIT is applied while the driver is IDLE or OFF (R292). -/
def State.hapApply (s : State) (n : Nat) : State :=
  match (s.hap n).committed with
  | some l =>
    if s.hapState n = haIdle || s.hapState n = haOff then
      (s.applyValues hapticRows n l).setHap n { s.hap n with committed := none }
    else s
  | none => s

/-- The four gates in a state: both low sides on in IDLE, the bridge switching while it drives the coil, all off in OFF and FAULT (R268,
R288). -/
def State.gates (s : State) (n v : Nat) : State :=
  let low : PinState := if v = haIdle then .high else if v = haPlaying || v = haBraking then .wave else .low
  (s.hold 0 (if v = haPlaying || v = haBraking then .wave else .low) n).hold 1 low n

/-- The driver enters a state: HAP_EN, the gates, the supply and the ready bit follow (R288, R495, R577), and a pending commit is applied in
IDLE and OFF (R292). -/
def State.setHapState (s : State) (n v : Nat) : State :=
  let on : Bool := v = haIdle || v = haPlaying || v = haBraking
  let s := ((((s.wr Obj.HAPTIC_STATE v n).drive 2 on n).gates n v).syncEdge n).stReady n 8 on
  let s := if v = haIdle then s.startTimer (.bootstrap n) else s
  s.hapApply n

/-! ### Effects -/

/-- The bytes of a slot (R273). -/
def State.effect (s : State) (n e : Nat) : Bytes := s.blob Obj.EFFECT_DATA n e

/-- Fields of an effect (R273). -/
def effFlag (b : Bytes) (k : Nat) : Bool := bit k (byteAt b 1)
def effCount (b : Bytes) : Nat := fieldLE b 4 2
def effSample (b : Bytes) (i : Nat) : Int := signed 16 (fieldLE b (16 + 2 * i) 2)

/-- The layout of R273 is kept. -/
def effectOk (b : Bytes) : Bool :=
  byteAt b 0 = 1 && byteAt b 1 < 8 && 100 ≤ byteAt b 2 && byteAt b 2 ≤ 200 && byteAt b 3 ≤ 80
    && 1 ≤ effCount b && effCount b ≤ 32760 && b.length = 16 + 2 * effCount b && fieldLE b 8 8 = 0

/-- Bytes of the effect store in use, one slot left out (R273). -/
def State.effectBytes (s : State) (n except : Nat) : Nat :=
  ((List.range 64).map fun e => if e = except then 0 else (s.effect n e).length).sum

/-- The slot is playing, or is named by a queued trigger (R274). -/
def State.effectBusy (s : State) (n e : Nat) : Bool :=
  let named (t : Trigger) : Bool := !t.stream && t.effect = e
  (match (s.hap n).play with
    | some p => p.ended.isNone && named p.trig
    | none => false)
  || (s.hapticQ.getD n {}).items.any fun x => named x.2

/-- A slot takes a content and an owner; slots of the manager are saved (R274, R490). -/
def State.putEffect (s : State) (n e : Nat) (b : Bytes) (owner : Nat) : State :=
  let managers : Bool := (s.effect n e ≠ [] && s.rdN Obj.EFFECT_OWNER n e = 0xFFFF) || (b ≠ [] && owner = 0xFFFF)
  let s := (s.wrBlob Obj.EFFECT_DATA b n e).wr Obj.EFFECT_OWNER (owner : Nat) n e
  let s := s.setHap n { s.hap n with emptying := (s.hap n).emptying.filter (· ≠ e) }
  if managers then s.noteSaved else s

/-- The slots whose emptying waits are emptied once no longer in use (R290). -/
def State.emptySlots (s : State) (n : Nat) : State :=
  s.each ((s.hap n).emptying.filter fun e => !s.effectBusy n e) fun s e => s.putEffect n e [] 0xFFFF

/-! ### Completion and energy -/

/-- Coil energy charged off package: to a tenant, or to the sponsor of an enclave (R279, R291, R426). -/
def State.chargeOffPackage (s : State) (n : Nat) (h : Holder) (uj : Nat) : State :=
  let t : Option Nat := match h with
    | .tenant t => some t
    | .enclave e => if s.rdN Obj.SPONSOR 0 e < 512 then some (s.rdN Obj.SPONSOR 0 e) else none
    | .manager | .nobody => none
  match t with
  | some t => (s.total Obj.OFF_PACKAGE_UJ uj 0 n t).total Obj.TOTAL_OFF_PACKAGE_UJ uj 0 0 t
  | none => s

/-- The counter of a completion status, where it has one (R292). -/
def hapCounter : Nat → Option ObjRow
  | 0 => some Obj.EFFECTS_DONE
  | 1 => some Obj.PREEMPTED
  | 2 => some Obj.STALE_DROPPED
  | 4 => some Obj.THERMAL_ENDS
  | 5 => some Obj.TIME_LIMIT_ENDS
  | 6 => some Obj.UNDERRUNS
  | _ => none

/-- The HAPTIC_DONE record of a trigger and the counter of its status (R289, R292, R615). -/
def State.hapDone (s : State) (n : Nat) (t : Trigger) (status start uj : Nat) : State :=
  let s := match hapCounter status with
    | some r => s.count r n
    | none => s
  s.toHolder n t.owner (s.mkRec 0x000C 1 n noTenant [(t.effect, 6), (status, 4), (start, 64), (uj, 32)])

/-- The record of a trigger that never started: its start time is a free value (assumption 1). -/
def State.hapRefuse (s : State) (n : Nat) (t : Trigger) (status : Nat) : State :=
  let (v, s) := s.drawNat (2 ^ 64)
  s.hapDone n t status v 0

/-- An effect and its brake are over: its record and its charge (R289, R291). -/
def State.hapClose (s : State) (n : Nat) (p : Play) : State :=
  let uj := floorN p.energy
  ((s.hapDone n p.trig (p.ended.getD 0) p.start uj).chargeOffPackage n p.trig.owner uj).setHap n
    { s.hap n with play := none, blendLeft := 0 }

/-! ### Triggers -/

/-- A trigger from the fields of R275. -/
def triggerOf (owner : Holder) (time v : Nat) : Trigger :=
  { owner := owner, time := time, prio := bits 31 30 v, gain := bits 23 16 v, repeats := bits 15 8 v, stream := bit 7 v,
    effect := bits 5 0 v }

/-- A trigger enters the haptic queue, or is refused with QUEUE_LIMIT (R276, R279, R612). -/
def State.hapQueue (s : State) (n : Nat) (t : Trigger) : State :=
  let q := s.hapticQ.getD n {}
  if s.rdN Obj.TENANT_QUEUE_MAX n ≤ (q.items.filter fun x => x.2.owner = t.owner).length then s.hapRefuse n t 10
  else
    let (q, lost) := q.putSmall Trigger.prio 16 t
    let s := { s with hapticQ := s.hapticQ.put n q }
    if lost then s.count Obj.HAPTIC_LOST 0 n else s

/-- A DOWN or UP record of a contact confirmed in a zone triggers the slot bound to it (R278, R279). -/
def State.hapTouch (s : State) (n zone : Nat) (h : Holder) (down : Bool) : State :=
  let e := s.rdN (if down then Obj.DOWN_EFFECT else Obj.UP_EFFECT) n zone
  if e = 0xFF then s
  else s.hapQueue n { owner := h, time := s.time, prio := s.rdN Obj.TOUCH_PRIORITY n zone, gain := 255, repeats := 0,
                      stream := false, effect := e }

/-! ### Plays -/

/-- The overdrive factor of a play (R282): r is the mean |back-EMF| over the latest 6 sense samples. -/
def State.overdrive (s : State) (n : Nat) (t : Trigger) : Rat :=
  if t.stream then 1
  else
    let h := s.hap n
    let r : Rat := if h.emf.isEmpty then 0 else (h.emf.map absR).sum / (h.emf.length : Rat)
    let od : Rat := ((byteAt (s.effect n t.effect) 2 : Nat) : Rat) / 100 - 1
    let q := r / (s.rdN Obj.BEMF_REF_MV n : Rat)
    1 + od * (1 - (if q < 1 then q else 1))

/-- The commanded voltage of a sample in mV (R282). -/
def State.sampleMv (s : State) (n : Nat) (t : Trigger) (sample : Int) (k : Rat) : Rat :=
  (sample : Rat) / 32767 * (s.rdN Obj.V_NOMINAL_MV n : Rat) * (t.gain : Rat) / 255 * k

/-- The commanded voltage of sample `i` of a slot's effect with its overdrive (R282). -/
def State.effectMv (s : State) (n : Nat) (p : Play) (i : Nat) : Rat :=
  let b := s.effect n p.trig.effect
  s.sampleMv n p.trig (effSample b i) (if i < byteAt b 3 then p.k else 1)

/-- What follows the sample in play: the next one, zero before a gap, the first one before a repeat without gap, with the overdrive of this moment,
and the sample itself after the last (R282, assumption 10). -/
def State.nextMv (s : State) (n : Nat) (p : Play) (i : Nat) : Rat :=
  let b := s.effect n p.trig.effect
  if i + 1 < effCount b then s.effectMv n p (i + 1)
  else if p.playsLeft > 0 then (if fieldLE b 6 2 = 0 then s.effectMv n { p with k := s.overdrive n p.trig } 0 else 0)
  else s.effectMv n p i

/-- The driver turns from a play to its brake (R283, R288). -/
def State.hapBrake (s : State) (n : Nat) (p : Play) (status : Nat) : State :=
  let h := s.hap n
  (s.setHap n { h with play := some { p with ended := some status }, brakeRun := 0, brakeQuiet := 0, brakeStart := s.time,
                       blendLeft := 0, openRun := 0 }).setHapState n haBraking

/-- The playing effect ends with a status and brakes (R288). -/
def State.hapEnd (s : State) (n status : Nat) : State :=
  match (s.hap n).play with
  | some p => if s.hapState n = haPlaying then s.hapBrake n p status else s
  | none => s

/-- The last sample has been played (R288): the brake where the flag asks for it, else DONE. -/
def State.hapLast (s : State) (n : Nat) (p : Play) : State :=
  if p.trig.stream || effFlag (s.effect n p.trig.effect) 0 then s.hapBrake n p 0
  else (((s.hapClose n { p with ended := some 0 })).setHapState n haIdle).emptySlots n

/-- A stream's next sample, or its end (R281). -/
def State.streamStep (s : State) (n : Nat) (p : Play) : State :=
  let t := match p.trig.owner with
    | .tenant t => t
    | .enclave _ | .manager | .nobody => 512
  let size := s.rdN Obj.HAP_STREAM_SIZE n 0 t
  match p.buf with
  | x :: rest =>
    let rd := (s.rdN Obj.HAP_STREAM_READ n 0 t + 2) % (if size = 0 then 1 else size)
    let cur := s.sampleMv n p.trig x 1
    let next := match rest with
      | y :: _ => s.sampleMv n p.trig y 1
      | [] => cur
    (s.wr Obj.HAP_STREAM_READ (rd : Nat) n 0 t).setHap n
      { s.hap n with play := some { p with buf := rest, cur := cur, next := next, idx := p.idx + 1 } }
  | [] =>
    if s.rdN Obj.HAP_STREAM_READ n 0 t = s.rdN Obj.HAP_STREAM_WRITE n 0 t then
      s.hapBrake n p (if s.rdB Obj.HAP_STREAM_END n 0 t then 0 else 6)
    else s.setHap n { s.hap n with play := some { p with cur := 0, next := 0 } }

/-- A play begins at this tick with its first sample (R277, R282). -/
def State.playBegin (s : State) (n : Nat) (p : Play) : State :=
  if p.trig.stream then s.streamStep n p
  else s.setHap n { s.hap n with play := some { p with idx := 1, gapLeft := 0, cur := s.effectMv n p 0, next := s.nextMv n p 0 } }

/-- An effect starts at this tick with a given overdrive factor (R277, R286). -/
def State.hapStart (s : State) (n : Nat) (t : Trigger) (k : Rat) : State :=
  let p : Play := { trig := t, start := s.time, begun := true, playsLeft := t.repeats, k := k }
  (s.setHapState n haPlaying).playBegin n p

/-- A zero sample of a gap with `left` of them to come, itself included: the last one leads to the first sample of the next play (R282,
assumption 10). -/
def State.gapTick (s : State) (n : Nat) (p : Play) (left : Nat) : State :=
  let next := if left = 1 then s.effectMv n { p with k := s.overdrive n p.trig } 0 else 0
  s.setHap n { s.hap n with play := some { p with gapLeft := left, cur := 0, next := next } }

/-- One waveform tick of the play in progress (R277, R282). -/
def State.playTick (s : State) (n : Nat) (p : Play) : State :=
  if !p.begun then s.playBegin n { p with begun := true, start := s.time }
  else if p.trig.stream then s.streamStep n p
  else
    let b := s.effect n p.trig.effect
    if p.gapLeft > 1 then s.gapTick n p (p.gapLeft - 1)
    else if p.gapLeft = 1 then s.playBegin n { p with playsLeft := p.playsLeft - 1, k := s.overdrive n p.trig }
    else if p.idx < effCount b then
      s.setHap n { s.hap n with play := some { p with idx := p.idx + 1, cur := s.effectMv n p p.idx, next := s.nextMv n p p.idx } }
    else if p.playsLeft = 0 then s.hapLast n p
    else if fieldLE b 6 2 = 0 then s.playBegin n { p with playsLeft := p.playsLeft - 1, k := s.overdrive n p.trig }
    else s.gapTick n p (fieldLE b 6 2)

/-- The first half-cycle of an effect in samples (R286). -/
def State.halfCycle (s : State) (n : Nat) (t : Trigger) : Nat :=
  let b := s.effect n t.effect
  let xs := (List.range (min 64 (effCount b))).map (effSample b)
  match xs.find? (· ≠ 0) with
  | none => 64
  | some f => (xs.findIdx? fun x => if 0 < f then x < 0 else 0 < x).getD 64

/-! ### The tick -/

/-- The checks of a taken entry, in order (R277). -/
def State.takenStatus (s : State) (n : Nat) (t : Trigger) : Option Nat :=
  let owner := s.rdN Obj.EFFECT_OWNER n t.effect
  let mine : Bool := owner = 0xFFFF || (match t.owner with
    | .tenant k => owner = k
    | .enclave _ | .manager | .nobody => false)
  if t.time + s.rdN Obj.STALE_LIMIT_MS n * 1000000 < s.time then some 2
  else if !t.stream && ((s.effect n t.effect).length = 0 || !mine) then some 3
  else if (s.hap n).thermalRefused then some 4
  else none

/-- An effect is taken while a brake runs (R286). -/
def State.takeInBrake (s : State) (n : Nat) (t : Trigger) : State :=
  let h := s.hap n
  let b := s.effect n t.effect
  let interrupt := !t.stream && effFlag b 1
  let blend := !t.stream && effFlag b 2 && s.rdB Obj.BLEND_ENABLE n
  let close (s : State) : State := match h.play with
    | some p => s.hapClose n p
    | none => s
  if interrupt then (close s).hapStart n t (s.overdrive n t)
  else if blend then
    let s := (close s).hapStart n t (s.overdrive n t)
    s.setHap n { s.hap n with blendLeft := s.halfCycle n t }
  else s.setHap n { h with waiting := some t }

/-- The driver examines the entry its queue would return next (R277). -/
def State.examine (s : State) (n : Nat) : State :=
  let h := s.hap n
  let q := s.hapticQ.getD n {}
  let st := s.hapState n
  match q.peekSmall Trigger.prio with
  | none => s
  | some t =>
    let wanted : Bool :=
      if st = haIdle then h.charged
      else if st = haPlaying then (match h.play with
        | some p => p.trig.prio < t.prio
        | none => false)
      else if st = haBraking then !h.stopping && h.waiting.isNone
      else false
    if !wanted then s
    else
      let s := { s with hapticQ := s.hapticQ.put n (q.takeSmall Trigger.prio).2 }
      match s.takenStatus n t with
      | some status => s.hapRefuse n t status
      | none =>
        if st = haIdle then s.hapStart n t (s.overdrive n t)
        else if st = haPlaying then (s.hapEnd n 1).takeInBrake n t
        else s.takeInBrake n t

/-- HAPTIC_TICK: one 8 kHz waveform tick (R277, R280). The play in progress goes on by one sample unless an entry was taken at
this tick. -/
def execHapticTick (n : Fin 8) (s : State) : Host.Outcome State Fault Refusal :=
  .next (
    let s := s.setHap n { s.hap n with phase := 0, blendLeft := (s.hap n).blendLeft - 1 }
    let before := (s.hap n).play.map fun p => (p.trig, p.ended)
    let s := s.examine n
    let s := match (s.hap n).play with
      | some p => if s.hapState n = haPlaying && before = some (p.trig, p.ended) then s.playTick n p else s
      | none => s
    s.emptySlots n)

/-! ### The sense sample -/

/-- The coil resistance at the present estimate, in mΩ (R284). -/
def State.rHot (s : State) (n : Nat) : Rat :=
  (s.rdN Obj.COIL_R_MOHM n : Rat) * (1 + 393 / 100000 * (s.hap n).rise)

/-- The command before the limiter, in mV (R282, R283, R286). -/
def State.commandMv (s : State) (n : Nat) (e : Rat) : Rat :=
  let h := s.hap n
  let st := s.hapState n
  let brake : Rat := -((s.rdN Obj.BRAKE_GAIN_X100 n : Rat) / 100) * e
  if st = haBraking then brake
  else if st = haPlaying then
    match h.play with
    | some p => p.cur + (p.next - p.cur) * (h.phase : Rat) / 6 + (if 0 < h.blendLeft then brake else 0)
    | none => 0
  else 0

/-- The limiter of R284 on a command. -/
def State.limitMv (s : State) (n : Nat) (cmd vbr : Rat) : Rat :=
  let rise := (s.hap n).rise
  let lim : Rat := (s.rdN Obj.COIL_RISE_LIMIT_K n : Rat)
  let vl : Rat := (s.rdN Obj.V_LIMIT_MV n : Rat)
  let f : Rat :=
    if s.hapState n ≠ haBraking && 9 / 10 * lim < rise then (let q := (lim - rise) / (lim / 10); if q < 0 then 0 else q)
    else 1
  clampR (-(95 / 100 * vbr)) (95 / 100 * vbr) (clampR (-vl) vl (cmd * f))

/-- A duty in 1/1,024, rounded half up within 0.025 to 0.975 (R268, R269; assumption 9). -/
def dutyTicks (d : Rat) : Nat := floorN (clampR (25 / 1000) (975 / 1000) d * 1024 + 1 / 2)

/-- The duties of the half-bridges (R269); equal at 0.5 where the supply measures 0. -/
def duties (v vbr : Rat) : Nat × Nat :=
  if vbr ≤ 0 then (512, 512) else (dutyTicks (1 / 2 + v / (2 * vbr)), dutyTicks (1 / 2 - v / (2 * vbr)))

/-- Coil current in mA from the shunt voltage in µV, within its full scale of ±150 mV (R268, R270). -/
def State.coilMa (s : State) (n : Nat) (shunt : Int) : Rat :=
  (clampI (-150000) 150000 shunt : Rat) / (max 1 (s.rdN Obj.SHUNT_MOHM n) : Nat)

/-- SENSE_SAMPLE: the shunt voltage, the two coil inputs and the bridge input in µV, of which current, coil voltage and V_BR follow (R270,
R272, R283 to R285, R291). -/
def execSenseSample (n : Fin 8) (shunt vca vcb : Int) (vsense : Nat) (s : State) : Host.Outcome State Fault Refusal :=
  .next (
    let cur := s.coilMa n shunt
    let volt : Rat := ((vca - vcb) * 16 : Int) / 1000
    let vbr : Rat := (min (vsense * 16) 30400000 : Nat) / 1000
    let s := s.wr Obj.BRIDGE_MV (floorN vbr : Nat) n
    let h := s.hap n
    let st := s.hapState n
    let low : Bool := vbr < (s.rdN Obj.BRIDGE_UV_MV n : Rat)
    let high : Bool := (s.rdN Obj.BRIDGE_OV_MV n : Rat) < vbr
    let h := { h with
      below := if low then h.below + 1 else 0
      above := if high then h.above + 1 else 0
      inRange := if low || high then 0 else h.inRange + 1 }
    if st = haOff then s.setHap n { h with lastI := cur }
    else
      let rHot := s.rHot n
      let e : Rat := volt - cur * rHot / 1000 - (s.rdN Obj.COIL_L_UH n : Rat) * (cur - h.lastI) * 48 / 1000
      let heat : Rat := cur * cur * rHot / 1000000000 * (s.rdN Obj.COIL_RTH_DKW n : Rat) / 10
      let rise : Rat := h.rise + (heat - h.rise) / (48 * (s.rdN Obj.COIL_TAU_MS n : Rat))
      let lim : Rat := (s.rdN Obj.COIL_RISE_LIMIT_K n : Rat)
      let de : Rat := volt * cur / 48000
      let openNow : Bool := st = haPlaying && 2000 ≤ absR h.volts
        && absR cur * (s.rdN Obj.COIL_R_MOHM n : Rat) < 20 * absR h.volts
      let h := { h with
        rise := rise
        thermalRefused := h.thermalRefused && 8 / 10 * lim ≤ rise
        emf := (e :: h.emf).take 6
        lastI := cur
        energy := h.energy + de
        openRun := if openNow then h.openRun + 1 else 0
        brakeRun := if st = haBraking then h.brakeRun + 1 else 0
        brakeQuiet := if (st = haBraking || 0 < h.blendLeft) && absR e < (s.rdN Obj.BRAKE_END_MV n : Rat) then h.brakeQuiet + 1 else 0
        play := h.play.map fun p => { p with energy := p.energy + de } }
      let s := (s.setHap n h).wr Obj.COIL_RISE_DK (min (floorN (rise * 10)) 65535 : Nat) n
      let s := s.wr Obj.COIL_ENERGY_UJ (floorN h.energy : Nat) n
      let cmd := s.commandMv n e
      let quiet : Bool := absR cmd * 100 < (s.rdN Obj.V_LIMIT_MV n : Rat)
      let quietRun := if quiet then h.quietRun + 1 else 0
      let driveRun := if st ≠ haBraking && !quiet then h.driveRun + 1 else if 960 ≤ quietRun then 0 else h.driveRun
      let out := s.limitMv n cmd vbr
      let s := s.setHap n { s.hap n with volts := out, quietRun := quietRun, driveRun := driveRun, phase := h.phase + 1 }
      let s := if st = haFault then s else (let d := duties out vbr; s.emit (.coil n d.1 d.2 (s.rdN Obj.DEAD_TIME_NS n)))
      if st = haPlaying && lim ≤ rise then
        let s := s.hapEnd n 4
        s.setHap n { s.hap n with thermalRefused := true }
      else s)

/-! ### Ends and states -/

/-- The brake has come to its end (R283). -/
def State.brakeDue (s : State) (n : Nat) : Bool :=
  let h := s.hap n
  let most := s.rdN Obj.BRAKE_MAX_MS n
  24 ≤ h.brakeQuiet || 48 * most ≤ h.brakeRun || h.brakeStart + most * 1000000 ≤ s.time

/-- DRIVE_TIME_LIMIT (R284). -/
def execDriveTimeLimit (n : Fin 8) (s : State) : Host.Outcome State Fault Refusal :=
  .next (if s.hapState n = haPlaying && 48 * s.rdN Obj.DRIVE_TIME_LIMIT_MS n ≤ (s.hap n).driveRun then s.hapEnd n 5 else s)

/-- A driver in FAULT goes to OFF without a brake: its station is not RUNNING, or its function is gated (R288). -/
def State.faultOff (s : State) (n : Nat) : State :=
  (((s.setHap n { s.hap n with charged := false, volts := 0 }).setHapState n haOff).wr Obj.HAPTIC_FAULT_CAUSE 0 n).clearAlarm 13 n 0

/-- The driver enters FAULT: gates off, the effect ends with FAULT, the queue is kept, alarm to the manager; from a closing brake it goes on
to OFF (R271, R272, R288). -/
def State.hapFault (s : State) (n cause : Nat) : State :=
  let s := match (s.hap n).play with
    | some p => s.hapClose n { p with ended := some (p.ended.getD 8) }
    | none => s
  let s := match (s.hap n).waiting with
    | some t => s.hapRefuse n t 8
    | none => s
  let stopping := (s.hap n).stopping
  let s := s.setHap n { s.hap n with waiting := none, blendLeft := 0, volts := 0, openRun := 0, inRange := 0, stopping := false }
  let s := (((s.setHapState n haFault).wr Obj.HAPTIC_FAULT_CAUSE cause n).count Obj.FAULTS n).alarm 13 1 n cause
  (if stopping then s.faultOff n else s).emptySlots n

/-- FAULT ends in IDLE (R288). -/
def State.hapRecover (s : State) (n : Nat) : State :=
  ((s.setHapState n haIdle).wr Obj.HAPTIC_FAULT_CAUSE 0 n).clearAlarm 13 n 0

/-- OVERCURRENT: the comparator watches the shunt, whose voltage is given in µV; a current above `OC_LIMIT_MA` in either direction is a fault
in every state but OFF (R271, R288). -/
def execOvercurrent (n : Fin 8) (shunt : Int) (s : State) : Host.Outcome State Fault Refusal :=
  .next (if s.hapState n ≠ haOff && (s.rdN Obj.OC_LIMIT_MA n : Rat) < absR (s.coilMa n shunt) then s.hapFault n 1 else s)

/-- BRIDGE_RANGE_FAULT: V_BR out of range for 48 consecutive sense samples (R272). -/
def execBridgeRangeFault (n : Fin 8) (s : State) : Host.Outcome State Fault Refusal :=
  .next (
    if s.hapState n = haOff then s
    else if 48 ≤ (s.hap n).below then s.hapFault n 2
    else if 48 ≤ (s.hap n).above then s.hapFault n 3
    else s)

/-- OPEN_LOAD: drive without current for 240 consecutive sense samples (R272). -/
def execOpenLoad (n : Fin 8) (s : State) : Host.Outcome State Fault Refusal :=
  .next (if s.hapState n = haPlaying && 240 ≤ (s.hap n).openRun then s.hapFault n 4 else s)

/-- BRIDGE_RECOVERED: V_BR in range again for 10 ms, 480 sense samples (R288). -/
def execBridgeRecovered (n : Fin 8) (s : State) : Host.Outcome State Fault Refusal :=
  .next (
    let c := s.rdN Obj.HAPTIC_FAULT_CAUSE n
    if s.hapState n = haFault && (c = 2 || c = 3) && 480 ≤ (s.hap n).inRange then s.hapRecover n else s)

/-- BOOTSTRAP_CHARGE_DONE: 1 ms after the driver left OFF (R288). -/
def execBootstrapChargeDone (n : Fin 8) (s : State) : Host.Outcome State Fault Refusal :=
  .next (if s.hapState n = haOff || !s.passed (.bootstrap n) 1000000 then s else s.setHap n { s.hap n with charged := true })

/-- The driver leaves OFF (R288). -/
def State.hapticOn (s : State) (n : Nat) : State :=
  if s.hapState n ≠ haOff then s
  else
    let v := s.rdN Obj.BRIDGE_MV n
    let s := s.setHap n { s.hap n with charged := false, below := 0, above := 0, inRange := 0, driveRun := 0, quietRun := 0, emf := [] }
    if v < s.rdN Obj.BRIDGE_UV_MV n then s.hapFault n 2
    else if s.rdN Obj.BRIDGE_OV_MV n < v then s.hapFault n 3
    else s.setHapState n haIdle

/-- A brake is over (R283, R286, R288): OFF after a closing brake, else the waiting effect, else IDLE. -/
def State.brakeOver (s : State) (n : Nat) : State :=
  let s := match (s.hap n).play with
    | some p => s.hapClose n p
    | none => s
  let h := s.hap n
  let s := if h.stopping then
      (s.setHap n { h with stopping := false, charged := false, volts := 0 }).setHapState n haOff
    else
      match h.waiting with
      | some t =>
        let p : Play := { trig := t, playsLeft := t.repeats, k := s.overdrive n t }
        (s.setHap n { h with waiting := none, play := some p }).setHapState n haPlaying
      | none => s.setHapState n haIdle
  s.emptySlots n

/-- BRAKE_END: acts where the brake has come to its end; so does the added brake of a blend (R283, R286). -/
def execBrakeEnd (n : Fin 8) (s : State) : Host.Outcome State Fault Refusal :=
  .next (
    let h := s.hap n
    if s.hapState n = haBraking && s.brakeDue n then s.brakeOver n
    else if s.hapState n = haPlaying && 0 < h.blendLeft
        && (24 ≤ h.brakeQuiet || h.brakeStart + s.rdN Obj.BRAKE_MAX_MS n * 1000000 ≤ s.time) then s.setHap n { h with blendLeft := 0 }
    else s)

/-- The queue is discarded with STOPPED (R288). -/
def State.hapDiscard (s : State) (n : Nat) : State :=
  let items := (s.hapticQ.getD n {}).items
  let s := { s with hapticQ := s.hapticQ.put n { (s.hapticQ.getD n {}) with drain := [], fill := [] } }
  s.each items fun s x => s.hapRefuse n x.2 9

/-- The ordered stop: the station leaves RUNNING, or the function is gated (R288, R577). -/
def State.hapticOff (s : State) (n : Nat) : State :=
  let st := s.hapState n
  if st = haOff then s
  else
    let s := s.hapDiscard n
    let s := match (s.hap n).waiting with
      | some t => (s.hapRefuse n t 9).setHap n { s.hap n with waiting := none }
      | none => s
    let s := s.hapEnd n 9
    if s.hapState n = haBraking then s.setHap n { s.hap n with stopping := true }
    else if st = haFault then s.faultOff n
    else (s.setHap n { s.hap n with charged := false, volts := 0 }).setHapState n haOff

/-- A reset of STATION reach: OFF at once, gates off, the thermal estimate 0; the energy of an effect that it cuts is charged (R285, R288,
R291). -/
def State.hapticReset (s : State) (n : Nat) : State :=
  let s := match (s.hap n).play with
    | some p => s.chargeOffPackage n p.trig.owner (floorN p.energy)
    | none => s
  let s := (s.setHap n { emptying := (s.hap n).emptying }).clearAlarm 13 n 0
  let s := ((((s.wr Obj.HAPTIC_STATE haOff n).wr Obj.COIL_RISE_DK 0 n).wr Obj.HAPTIC_FAULT_CAUSE 0 n).stReady n 8 false).drive 2 false n
  ({ s with hapticQ := s.hapticQ.put n {} } : State).emptySlots n

/-- A SLICE reset of a tenant, or a reset of its port, at a station (R290). -/
def State.hapticRevoke (s : State) (n t : Nat) : State :=
  let mine (x : Trigger) : Bool := x.owner = .tenant t
  let q := s.hapticQ.getD n {}
  let kept : EvQueue Trigger := { q with drain := q.drain.filter (fun x => !mine x.2), fill := q.fill.filter (fun x => !mine x.2) }
  let s := { s with hapticQ := s.hapticQ.put n (kept.swapSmall Trigger.prio) }
  let s := match (s.hap n).waiting with
    | some x => if mine x then (s.hapRefuse n x 9).setHap n { s.hap n with waiting := none } else s
    | none => s
  let slots := (List.range 64).filter fun e => (s.effect n e).length ≠ 0 && s.rdN Obj.EFFECT_OWNER n e = t
  let s := s.setHap n { s.hap n with emptying := ((s.hap n).emptying ++ slots).eraseDups }
  let s := match (s.hap n).play with
    | some p => if mine p.trig then s.hapEnd n 9 else s
    | none => s
  s.emptySlots n

/-! ### Writes -/

/-- HAPTIC_TRIGGER: through the dictionary, or by the haptic field of the doorbell page (R275, R276, R373). -/
def execHapticTrigger (via : Via) (n : Fin 8) (tq : Fin 512) (v : Nat) (s : State) : Host.Outcome State Fault Refusal :=
  .next (
    let reserved : Bool := bits 29 24 v = 0 && !bit 6 v
    match via with
    | .dict who =>
      let t : Nat := match who with
        | .tenant t => t
        | .host _ | .peer _ | .enclave _ | .secure => tq
      s.onWrite who Obj.HAPTIC_TRIGGER v n 0 t 0 fun s =>
        if reserved then (s.hapQueue n (triggerOf (.tenant t) s.time v)).answer .ok else s.answer .badRange
    | .page p t => s.onStationPage p t n fun s =>
        if !s.hasRight t n 3 then s.spoof t 6 n
        else if reserved then s.hapQueue n (triggerOf (.tenant t) s.time (v % 2 ^ 32))
        else s)

/-- A whole content written to slot `e` (R274). -/
def State.writeEffect (s : State) (who : Requester) (n e : Nat) (data : Bytes) : State :=
  let owner := s.rdN Obj.EFFECT_OWNER n e
  let empty : Bool := (s.effect n e).length = 0
  let me : Nat := match who with
    | .tenant t => t
    | .host _ | .peer _ | .enclave _ | .secure => 0xFFFF
  let mayWrite : Bool := match who with
    | .tenant t => empty || owner = t
    | .host _ | .peer _ | .enclave _ | .secure => true
  let size := data.length
  let status : Option Status :=
    match s.checkAccess who Obj.EFFECT_DATA true n e with
    | some x => some x
    | none =>
      if !mayWrite then some .noRight
      else if !(size = 0 || (18 ≤ size && size ≤ 65536)) then some .badRange
      else if size ≠ 0 && !effectOk data then some (.refused 9)
      else if 65536 < s.effectBytes n e + size then some (.refused 10)
      else if s.effectBusy n e then some (.busy 0)
      else none
  match status with
  | some x => (s.mailboxSpoof who Obj.EFFECT_DATA n e 0 status).answer x
  | none => (s.putEffect n e data (if size = 0 then 0xFFFF else me)).answer .ok

/-- EFFECT_DATA (R274). -/
def execEffectData (who : Requester) (n : Fin 8) (e : Fin 64) (data : Bytes) (s : State) : Host.Outcome State Fault Refusal :=
  .next (s.onRequest who fun s => s.writeEffect who n e data)

/-- FAULT_CLEAR: a write of 1 ends a FAULT of OVERCURRENT or OPEN_LOAD (R288). -/
def execFaultClear (who : Requester) (n : Fin 8) (v : Nat) (s : State) : Host.Outcome State Fault Refusal :=
  .next (s.onWrite who Obj.FAULT_CLEAR v n 0 512 0 fun s =>
    let c := s.rdN Obj.HAPTIC_FAULT_CAUSE n
    let s := if v = 1 && s.hapState n = haFault && (c = 1 || c = 4) then s.hapRecover n else s
    s.answer .ok)

/-- HAPTIC_COMMIT: the RWC objects take effect the next time the driver is IDLE or OFF (R292, R496). -/
def execHapticCommit (who : Requester) (n : Fin 8) (v : Nat) (s : State) : Host.Outcome State Fault Refusal :=
  .next (s.onWrite who Obj.HAPTIC_COMMIT v n 0 512 0 fun s =>
    if v = 1 then
      s.guarded (s.needStReady n 8) fun s => ((s.setHap n { s.hap n with committed := some (s.commitValues hapticRows n) }).hapApply n).answer .ok
    else s.answer .ok)

/-- HAPTIC_STREAM_FETCH: the driver fetches at most `len` bytes of the stream it plays, up to the end of the ring or
STREAM_WRITE (R281). -/
def execHapticStreamFetch (n : Fin 8) (len : Nat) (s : State) : Host.Outcome State Fault Refusal :=
  .next (
    match (s.hap n).play with
    | none => s
    | some p =>
      match p.trig.owner with
      | .enclave _ | .manager | .nobody => s
      | .tenant t =>
        if !(p.trig.stream && s.hapState n = haPlaying) then s
        else
          let size := s.rdN Obj.HAP_STREAM_SIZE n 0 t
          let rd := s.rdN Obj.HAP_STREAM_READ n 0 t
          let wr := s.rdN Obj.HAP_STREAM_WRITE n 0 t
          let at_ := if size = 0 then 0 else (rd + 2 * p.buf.length) % size
          let avail := if size = 0 then 0 else (wr + size - at_) % size
          if avail = 0 then
            if p.buf.isEmpty then s.hapEnd n (if s.rdB Obj.HAP_STREAM_END n 0 t then 0 else 6) else s
          else
            let k := min (min len avail) (size - at_) / 2 * 2
            let a := s.rdN Obj.HAP_STREAM_ADDR n 0 t + at_
            if k = 0 || !s.memServes n then s
            else if !s.inside (.tenant t) n 1 a k then s.hapEnd n 7
            else if s.isPoisoned n a k then s.hapEnd n 6
            else
              let b := s.readTagged n a k 0
              let xs := (List.range (k / 2)).map fun i => signed 16 (fieldLE b (2 * i) 2)
              (s.noteTag n a k 0).setHap n { s.hap n with play := some { p with buf := p.buf ++ xs } })

end Sys2Proof.Machine
end

