-- ==== Sys2Proof/Machine/TouchScan.lean ====
section
/-! DEFINITION. The touch engine from raw counts to candidates: the plan, the factory reference, normalised counts, candidates and
baselines (R222 to R231, R236 to R244). -/
namespace Sys2Proof.Machine

/-! ### Plan -/

/-- Electrode counts in force (R219). -/
def State.txN (s : State) (n : Nat) : Nat := s.rdN Obj.TX_COUNT n
def State.rxN (s : State) (n : Nat) : Nat := s.rdN Obj.RX_COUNT n

/-- Half-cycles of a pair (R222, R225). -/
def State.pairSlots (s : State) (n : Nat) : Nat := (4 * cdiv (s.txN n) 4 + 4 + 2) * s.rdN Obj.STEP_HALF_CYCLES n

/-- Start times of the slots of one nominal frame and the lengths of a slot, a frame and the span, all in one unit in which
they are whole numbers: 1 / (2 f × pixel clock × rate × 10⁶) ms (R223, R225). Each line is active video, then blanking. -/
structure SlotPlan where
  starts : List Nat
  h : Nat
  frame : Nat
  span : Nat
deriving DecidableEq, Repr

/-- Slots of length `h` placed one after another from the start of a quiet interval (R223). -/
def slotsIn (a len guard h : Nat) : List Nat :=
  if len ≤ 2 * guard then [] else (List.range ((len - 2 * guard) / h)).map fun k => a + guard + k * h

/-- The slots of a frequency in kHz over one nominal frame (R223, R225). -/
def State.slotPlan (s : State) (n f : Nat) : SlotPlan :=
  let t := s.timing n
  let rate := s.rdN Obj.TARGET_RATE_HZ n
  let px := 2 * f * 1000000 * rate
  let h := t.pclk * 1000000 * rate
  let guard := s.rdN Obj.QUIET_GUARD_NS n * t.pclk * 2 * f * rate
  let line := t.hTot * px
  let first := s.rdN Obj.VB_WINDOW_START n
  let want := s.rdN Obj.VB_WINDOW_LINES n
  let count := if t.vb ≤ first then 0 else if want = 255 then t.vb - first else min want (t.vb - first)
  let lines := (List.range t.vTot).filter fun l => !(first ≤ l && l < first + count)
  let hs := lines.flatMap fun l => slotsIn (l * line + t.hAct * px) (line - t.hAct * px) guard h
  let vs := if count = 0 then [] else slotsIn (first * line) (count * line) guard h
  { starts := hs ++ vs, h := h, frame := t.vTot * line, span := 1000 * t.pclk * 2 * f * 1000000 }

/-- Slots that end by `e`, among those of the frames from the present one on, starting after `a` (R225). -/
def SlotPlan.between (p : SlotPlan) (a e : Nat) : Nat :=
  let frames := if p.frame = 0 then 0 else p.span / p.frame + 2
  ((List.range frames).map fun k =>
    (p.starts.filter fun x => a < x + k * p.frame && x + k * p.frame + p.h ≤ e).length).sum

/-- Q(f): the least number of slots wholly inside any span (R225). The least is met just after the start of a slot. -/
def SlotPlan.least (p : SlotPlan) : Nat :=
  match p.starts.map (fun a => p.between a (a + p.span)) with
  | [] => 0
  | x :: rest => rest.foldl min x

/-- The hop set, and whether it is limited (R225). -/
def State.hopPlan (s : State) (n : Nat) : List Nat × Bool :=
  let enabled := maskBits 8 (s.rdN Obj.HOP_ENABLE n)
  let q := enabled.map fun i => (i, (s.slotPlan n (s.rdN Obj.TX_FREQ_KHZ n 0 512 i)).least)
  let full := (q.filter fun x => s.pairSlots n ≤ x.2).map (·.1)
  if full.isEmpty then
    let best := q.foldl (fun m x => max m x.2) 0
    (((q.find? fun x => x.2 = best).map fun x => [x.1]).getD [], true)
  else (full, false)

/-- The quiet interval at the line in progress (R223): the vertical-blanking window, from the start of its first line to the end of its last
or, while the blanking's length is open, to the earliest end it can have, or else the line's horizontal blanking. -/
def State.quietNow (s : State) (n : Nat) : Nat × Nat :=
  let p := (s.dsp n).published
  let t := s.timing n
  let first := s.rdN Obj.VB_WINDOW_START n
  let want := s.rdN Obj.VB_WINDOW_LINES n
  let blank := (s.blankLines n).getD (max (s.earliestFix n) (p.line + 1) + s.fixD n)
  let last := if want = 255 then blank else min blank (first + want)
  if first ≤ p.line && p.line < last then (p.start - t.ns (p.line - first), p.start + t.ns (last - p.line)) else (p.blank, p.active)

/-- A slot of the frequency in use can begin at the present time (R223); quiet intervals are published while the generator counts, and not
during the relock of a mode change (R192, R258). -/
def State.slotNow (s : State) (n : Nat) : Bool :=
  let d := s.dsp n
  let (a, e) := s.quietNow n
  let guard := s.rdN Obj.QUIET_GUARD_NS n
  let f := s.rdN Obj.TX_FREQ_KHZ n 0 512 (s.rdN Obj.TX_FREQ_INDEX n)
  d.counting && !d.modeHeld && a + guard ≤ s.time && (s.time + guard) * (2 * f) + 1000000 ≤ e * (2 * f)

/-! ### Reports without a contact -/

/-- The holders of enabled zones that satisfy a test, each once, with the lowest such zone (R249). -/
def State.zoneHolders (s : State) (n : Nat) (p : Nat → Bool) : List (Holder × Nat) :=
  (List.range 16).foldl (fun acc z =>
    let h := s.zoneHolder n z
    if (s.zoneCfg n z).enable && p z && h ≠ .nobody && acc.all (fun x => x.1 ≠ h) then acc ++ [(h, z)] else acc) []

/-- Touch reporting runs: not in FAULT or MEMORY_FAULT (R30, R255). -/
def State.touchReports (s : State) (n : Nat) : Bool :=
  s.stationState n ≠ stFault && s.stationState n ≠ stMemoryFault

/-- A touch record reaches a holder's queue; an enclave's only while the secure complex is ready (R25, R247, R396). -/
def State.touchTo (s : State) (h : Holder) (r : TouchRec) : State :=
  match h with
  | .tenant t => s.touchToTenant t r
  | .enclave e => if s.isHwReady 2 then s.touchToEnclave e r else s
  | .manager | .nobody => s

/-- A STATUS record: the fields that R247 gives no value for are free (assumption 1). -/
def State.touchStatus (s : State) (n : Nat) (h : Holder) (zone code : Nat) : State :=
  if !s.touchReports n then s
  else
    let (v, s) := s.drawNat (2 ^ 32)
    s.touchTo h { time := s.time, seq := s.rdN Obj.SCAN_SEQ n, amplitude := 0, x := v % 4096, y := v / 4096 % 4096, id := 0,
                  areaNodes := v / 16777216 % 64, kind := 5, cls := v / 1073741824, prio := 1, zone := zone, station := n,
                  detail := code, frame := s.rdN Obj.FRAME_COUNTER n }

/-- A station-wide STATUS, once to each holder of an enabled zone (R249). -/
def State.touchStatusAll (s : State) (n code : Nat) (p : Nat → Bool := fun _ => true) : State :=
  s.each (s.zoneHolders n p) fun s x => s.touchStatus n x.1 x.2 code

/-- The scan is planned: the hop set, RATE_LIMITED, and the frequency in use where it is no longer in the set (R225,
assumption 11). -/
def State.touchPlan (s : State) (n : Nat) : State :=
  let (set, limited) := s.hopPlan n
  let s := s.wr Obj.HOP_SET ((set.map fun i => 2 ^ i).sum : Nat) n
  let cur := s.rdN Obj.TX_FREQ_INDEX n
  let s := if set.contains cur then s else s.wr Obj.TX_FREQ_INDEX ((set.headD 0 : Nat)) n
  let t := s.tch n
  let s := s.setTch n { t with nextFreq := t.nextFreq.filter fun i => set.contains i }
  if limited then s.touchStatusAll n 7 else s

/-! ### Factory reference -/

/-- Fields of the reference (R242). -/
def State.refBlob (s : State) (n : Nat) : Bytes := s.blob Obj.FACTORY_REFERENCE n

/-- `REFERENCE_STATE` as R244 gives it. -/
def State.referenceState (s : State) (n : Nat) : Nat :=
  let b := s.refBlob n
  let tx := byteAt b 2
  let rx := byteAt b 3
  let size := fieldLE b 12 4
  if b.isEmpty then 0
  else if !(size = b.length && size = 32 + 2 * tx * rx + 2 * (tx + rx) + 16 * rx
      && fieldLE b 8 4 = crc32c (slice b 16 (size - 16))) then 3
  else if tx = s.txN n && rx = s.rxN n && byteAt b 4 = s.rdN Obj.TX_VOLTAGE_DV n
      && byteAt b 5 = s.rdN Obj.STEP_HALF_CYCLES n
      && (List.range 8).all (fun i => fieldLE b (16 + 2 * i) 2 = s.rdN Obj.TX_FREQ_KHZ n 0 512 i) then 1
  else 2

/-- `REFERENCE_STATE` follows the reference and the settings. -/
def State.syncReference (s : State) (n : Nat) : State := s.wr Obj.REFERENCE_STATE (s.referenceState n : Nat) n

/-- The reference value of node or channel `k`: mutual nodes TX-major, then self channels (R242). -/
def State.refValue (s : State) (n k : Nat) : Int := (fieldLE (s.refBlob n) (32 + 2 * k) 2 : Nat)

/-- The gain of an RX channel at a frequency (R228, R242). -/
def State.rxGain (s : State) (n f j : Nat) : Nat :=
  if s.rdN Obj.REFERENCE_STATE n = 1 then
    let tx := s.txN n
    let rx := s.rxN n
    fieldLE (s.refBlob n) (32 + 2 * tx * rx + 2 * (tx + rx) + 2 * (f * rx + j)) 2
  else 4096

/-! ### Counts -/

/-- The mean square of a listening step in normalised counts, as a sum of squares and the number of RX channels (R226, R228). -/
def State.noiseOf (s : State) (n f : Nat) (raw : List Int) : Nat × Nat :=
  let rx := s.rxN n
  (((List.range rx).map fun j => let v := Int.fdiv (raw.getD j 0 * (s.rxGain n f j : Nat)) 4096; (v * v).toNat).sum, rx)

/-- The noise is above a level: its mean square is above the square of the level (R226). -/
def noiseAbove (q : Nat × Nat) (level : Nat) : Bool := level * level * q.2 < q.1

/-- The noise is at most half a level (R226). -/
def noiseHalf (q : Nat × Nat) (level : Nat) : Bool := 4 * q.1 ≤ level * level * q.2

/-- The lower of two noises (R226). -/
def noiseLess (a b : Nat × Nat) : Bool := a.1 * b.2 < b.1 * a.2

/-- Normalised counts of the mutual nodes, rounded down (R228). -/
def State.normMutual (s : State) (n : Nat) (raw : List Nat) : List Int :=
  let f := s.rdN Obj.TX_FREQ_INDEX n
  let rx := s.rxN n
  (List.range (s.txN n * rx)).map fun k => ((raw.getD k 0 * s.rxGain n f (k % rx) / 4096 : Nat) : Int)

/-- Normalised counts of the self channels: TX channels at unity, RX channels by their gain (R228, assumption 12). -/
def State.normSelf (s : State) (n : Nat) (raw : List Nat) : List Int :=
  let f := s.rdN Obj.TX_FREQ_INDEX n
  let tx := s.txN n
  (List.range (tx + s.rxN n)).map fun k =>
    ((raw.getD k 0 * (if k < tx then 4096 else s.rxGain n f (k - tx)) / 4096 : Nat) : Int)

/-- What a pair measured, with the baselines it is held against (R228). -/
structure PairData where
  tx : Nat
  rx : Nat
  raw : List Int
  selfRaw : List Int
  base : List Int
  selfBase : List Int
deriving DecidableEq, Repr

/-- Mutual delta of a node and self delta of a channel (R228). -/
def PairData.delta (p : PairData) (k : Nat) : Int := p.base.getD k 0 - p.raw.getD k 0
def PairData.selfDelta (p : PairData) (k : Nat) : Int := p.selfRaw.getD k 0 - p.selfBase.getD k 0

/-- The nodes within `d` rows and columns of a node, itself included. -/
def around (tx rx d k : Nat) : List Nat :=
  let i := k / rx
  let j := k % rx
  ((List.range (2 * d + 1)).map fun a => i + a).flatMap fun a =>
    ((List.range (2 * d + 1)).map fun b => j + b).filterMap fun b =>
      if d ≤ a && a < tx + d && d ≤ b && b < rx + d then some ((a - d) * rx + (b - d)) else none

/-- A local maximum: ties are won by the lower TX index and then the lower RX index (R229). -/
def PairData.isPeak (p : PairData) (k : Nat) : Bool :=
  (around p.tx p.rx 1 k).all fun q => if q < k then p.delta q < p.delta k else p.delta q ≤ p.delta k

/-- The largest of a list of integers. -/
def maxI : List Int → Int
  | [] => 0
  | x :: rest => rest.foldl max x

/-- The self delta under a peak (R229). -/
def PairData.under (p : PairData) (k : Nat) : Int :=
  let near (c m : Nat) : List Nat := (List.range m).filter fun x => x ≤ c + 1 && c ≤ x + 1
  let i := k / p.rx
  let j := k % p.rx
  min (maxI ((near i p.tx).map p.selfDelta)) (maxI ((near j p.rx).map fun x => p.selfDelta (p.tx + x)))

/-- The class of a peak, or none where no candidate is formed (R229). -/
def State.peakClass (s : State) (n : Nat) (p : PairData) (k : Nat) : Option TouchClass :=
  let m := p.delta k
  let u := p.under k
  let finger : Bool := (s.rd Obj.FINGER_THRESHOLD n) ≤ m
  if finger && s.rd Obj.SELF_FINGER_THRESHOLD n ≤ u then some .finger
  else if s.rdB Obj.GLOVE_ENABLE n && s.rd Obj.SELF_GLOVE_THRESHOLD n ≤ u then some .glove
  else if s.rdB Obj.WATER_REJECT n then some .water
  else if finger then some .finger
  else none

/-- A panel coordinate from a centroid a / b in electrode units, rounded half up (R230). -/
def panelCoord (a b : Int) (count : Nat) : Int := clampI 0 4095 (Int.fdiv ((2 * a + b) * 2048) (b * count))

/-- `AXIS_MAP` (R230). -/
def State.axisMap (s : State) (n : Nat) (q : Int × Int) : Int × Int :=
  let m := s.rdN Obj.AXIS_MAP n
  let q := if bit 0 m then (q.2, q.1) else q
  (if bit 1 m then 4095 - q.1 else q.1, if bit 2 m then 4095 - q.2 else q.2)

/-- The panel coordinates of a centroid over the 3 × 3 nodes around a peak; none where the sum of the deltas is not
positive and R229 gives no centroid. -/
def State.centroid (s : State) (n : Nat) (p : PairData) (k : Nat) : Option (Int × Int) :=
  let ns := around p.tx p.rx 1 k
  let sum : Int := (ns.map p.delta).sum
  let a : Int := (ns.map fun q => p.delta q * (q / p.rx : Nat)).sum
  let b : Int := (ns.map fun q => p.delta q * (q % p.rx : Nat)).sum
  if sum ≤ 0 then none else some (s.axisMap n (panelCoord a sum p.tx, panelCoord b sum p.rx))

/-- The active-area pixel of a panel position, rounded half up (R231). -/
def State.panelPixel (s : State) (n : Nat) (x y : Int) : Int × Int :=
  let axis (v lo hi : Int) (size : Nat) : Int :=
    let d := hi - lo
    if d ≤ 0 then 0 else clampI 0 ((size : Int) - 1) (Int.fdiv (2 * (v - lo) * ((size : Int) - 1) + d) (2 * d))
  (axis x (s.rd Obj.MAP_X0 n) (s.rd Obj.MAP_X1 n) (s.activeW n), axis y (s.rd Obj.MAP_Y0 n) (s.rd Obj.MAP_Y1 n) (s.activeH n))

/-- The candidates of a pair in node order; a centroid that R229 does not give is a free position (assumption 1). -/
def State.touchCandidates (s : State) (n : Nat) (p : PairData) : List Candidate × State :=
  let glove := s.rd Obj.GLOVE_THRESHOLD n
  let areas := (s.tch n).areas
  (List.range (p.tx * p.rx)).foldl (fun (acc : List Candidate × State) k =>
    if p.delta k < glove || !p.isPeak k || areas.any (fun a => a.nodes.contains k) then acc
    else
      match s.peakClass n p k with
      | none => acc
      | some cls =>
        let area := ((around p.tx p.rx 1 k).filter fun q => glove ≤ p.delta q).length
        let made (x y : Nat) : Candidate := { cls := cls, x := x, y := y, peak := (p.delta k).toNat, area := area, node := k }
        match s.centroid n p k with
        | some (x, y) => (acc.1 ++ [made x.toNat y.toNat], acc.2)
        | none =>
          let (v, s') := acc.2.drawNat (4096 * 4096)
          (acc.1 ++ [made (v % 4096) (v / 4096)], s')) ([], s)

/-! ### Clusters and baselines -/

/-- The nodes of `rest` connected to `cur`, and the others. -/
def grow (adj : Nat → Nat → Bool) : Nat → List Nat → List Nat → List Nat × List Nat
  | 0, cur, rest => (cur, rest)
  | fuel + 1, cur, rest =>
    let near := rest.filter fun x => cur.any (adj x)
    if near.isEmpty then (cur, rest) else grow adj fuel (cur ++ near) (rest.filter fun x => !near.contains x)

/-- The connected clusters of a set of nodes. -/
def clusters (adj : Nat → Nat → Bool) : Nat → List Nat → List (List Nat)
  | 0, _ => []
  | _ + 1, [] => []
  | fuel + 1, x :: rest =>
    let (c, others) := grow adj rest.length [x] rest
    c :: clusters adj fuel others

/-- Two numbers differ by at most 1. -/
def nextTo (a b : Nat) : Bool := a ≤ b + 1 && b ≤ a + 1

/-- 8-connected and 4-connected nodes. -/
def adj8 (rx a b : Nat) : Bool := nextTo (a / rx) (b / rx) && nextTo (a % rx) (b % rx)
def adj4 (rx a b : Nat) : Bool := (a / rx = b / rx && nextTo (a % rx) (b % rx)) || (a % rx = b % rx && nextTo (a / rx) (b / rx))

/-- Neighbouring self channels of one kind of electrode. -/
def adjSelf (tx a b : Nat) : Bool := nextTo a b && (decide (a < tx) == decide (b < tx))

/-- A set of self channels with a 1-channel border round it (R236, R239). -/
def selfBorder (tx rx : Nat) (l : List Nat) : List Nat :=
  (List.range (tx + rx)).filter fun q => l.any fun k => adjSelf tx k q

/-- A set of nodes with a 1-node border round it (R236 to R239). -/
def withBorder (tx rx : Nat) (l : List Nat) : List Nat := (l.flatMap (around tx rx 1)).eraseDups

/-- A baseline holds 16 bits: a value beyond them saturates (R228; assumption 156). -/
def sat16 (v : Int) : Int := clampI 0 65535 v

/-- Baselines with the values at some places taken from another list. -/
def takeAt (dst src : List Int) (places : List Nat) : List Int :=
  (List.range dst.length).map fun k => if places.contains k then sat16 (src.getD k 0) else dst.getD k 0

/-- The median of a list; of an even number of values the mean of the two middle ones, rounded down (R239, assumption 12). -/
def median (l : List Int) : Int :=
  let sorted := l.foldl (fun (acc : List Int) x => acc.filter (· ≤ x) ++ [x] ++ acc.filter (x < ·)) []
  let m := sorted.length
  if m = 0 then 0
  else if m % 2 = 1 then sorted.getD (m / 2) 0
  else Int.fdiv (sorted.getD (m / 2 - 1) 0 + sorted.getD (m / 2) 0) 2

/-- The mean of the pairs of a calibration, rounded down (R239, assumption 12). -/
def meanOf (pairs : List (List Int)) (len : Nat) : List Int :=
  (List.range len).map fun k => Int.fdiv ((pairs.map fun p => p.getD k 0).sum) (max 1 pairs.length)

/-- Tracking and anti-touch of R236 for one list of baselines; `adj` connects its places, `border` adds the border. -/
def trackBase (anti step : Int) (due : Bool) (excluded : Nat → Bool) (adj : Nat → Nat → Bool) (border : List Nat → List Nat)
    (delta : Nat → Int) (base raw : List Int) : List Int :=
  let free := (List.range base.length).filter fun k => !excluded k
  let marked := free.filter fun k => delta k ≤ -anti
  let tracked := (List.range base.length).map fun k =>
    let b := base.getD k 0
    if due && !excluded k && -anti < delta k then sat16 (b + clampI (-step) step (raw.getD k 0 - b)) else b
  let found := (clusters adj marked.length marked).filter fun c => 2 ≤ c.length
  takeAt tracked raw (found.flatMap border)

end Sys2Proof.Machine
end

