-- ==== Sys2Proof/Machine/Touch.lean ====
section
/-! DEFINITION. Contacts, their records, calibration, the wake scan and the engine states of the touch engine (R224, R232 to R259,
R660). -/
namespace Sys2Proof.Machine

/-- Engine states of R259. -/
def toOff : Nat := 0
def toCalibrating : Nat := 1
def toScanning : Nat := 2
def toWakeScan : Nat := 3
def toHalted : Nat := 4

/-- `TOUCH_STATE`. -/
def State.touchState (s : State) (n : Nat) : Nat := s.rdN Obj.TOUCH_STATE n

/-- The engine enters a state: TCH_RST_N, the scan lines, the supply and the ready bit follow, and a reference capture ends with the end of
SCANNING (R221, R243, R495, R577). -/
def State.setTouchState (s : State) (n v : Nat) : State :=
  let runs : Bool := v ≠ toOff && v ≠ toHalted
  let s := (((s.wr Obj.TOUCH_STATE v n).drive 6 runs n).wave 10 runs n).wave 11 runs n
  let s := if v ≠ toScanning && (s.tch n).capture.isSome then
      (s.setTch n { s.tch n with capture := none }).finish Obj.REFERENCE_RESULT 4 n
    else s
  let s := if v = toHalted then s.startTimer (.touchHalt n) else s
  (s.syncEdge n).stReady n 7 (v = toScanning || v = toWakeScan)

/-- The touch RWC objects (R259). -/
def touchRows : List ObjRow :=
  [Obj.TX_COUNT, Obj.RX_COUNT, Obj.AXIS_MAP, Obj.TX_VOLTAGE_DV, Obj.TARGET_RATE_HZ, Obj.STEP_HALF_CYCLES, Obj.QUIET_GUARD_NS,
   Obj.VB_WINDOW_START, Obj.VB_WINDOW_LINES, Obj.TX_FREQ_KHZ, Obj.HOP_ENABLE, Obj.MAX_CONTACTS]

/-- The contact table of the live contacts (R235). -/
def State.contactTable (s : State) (n : Nat) (cs : List Contact) : List TableEntry :=
  cs.map fun c =>
    { id := c.id, st := c.st, cls := c.cls,
      secure := (match s.zoneAt n c.px c.py with
        | some z => s.zoneSecure n z
        | none => false), px := c.px, py := c.py, peak := c.peak }

/-- The live contacts are replaced: `CONTACTS_LIVE` and the contact table follow (R235). -/
def State.setContacts (s : State) (n : Nat) (cs : List Contact) : State :=
  let s := (s.setTch n { s.tch n with contacts := cs }).wr Obj.CONTACTS_LIVE (cs.length : Nat) n
  s.newTable n (s.contactTable n cs)

/-- A record of a contact (R247). -/
def State.contactRec (s : State) (n : Nat) (c : Contact) (kind prio detail : Nat) : TouchRec :=
  { time := s.time, seq := s.rdN Obj.SCAN_SEQ n, amplitude := min c.peak 65535, x := c.x, y := c.y, id := c.id,
    areaNodes := c.area, kind := kind, cls := c.cls.code, prio := prio, zone := c.zone, station := n, detail := detail,
    frame := s.rdN Obj.FRAME_COUNTER n }

/-- A contact's record goes to its holder, unless it is reported to nobody; DOWN and UP trigger the bound effects (R246, R249,
R278). -/
def State.reportContact (s : State) (n : Nat) (c : Contact) (r : TouchRec) : State :=
  if c.mute || c.holder = .nobody || !s.touchReports n then s
  else
    let s := s.touchTo c.holder r
    if r.kind = 0 then s.hapTouch n c.zone c.holder true
    else if r.kind = 2 then s.hapTouch n c.zone c.holder false
    else s

/-- CANCEL with a cause for every CONFIRMED contact, in increasing ID (R249, R254, R255). -/
def State.cancelAll (s : State) (n cause : Nat) : State :=
  let cs := (s.tch n).contacts.filter fun c => c.st = .confirmed
  s.each ((List.range 256).flatMap fun k => cs.filter fun c => c.id = k) fun s c => s.reportContact n c (s.contactRec n c 4 3 cause)

/-! ### Matching -/

/-- Squared distance of two positions. -/
def dist2 (x0 y0 x1 y1 : Nat) : Nat :=
  let dx := if x0 ≤ x1 then x1 - x0 else x0 - x1
  let dy := if y0 ≤ y1 then y1 - y0 else y0 - y1
  dx * dx + dy * dy

/-- A possible match: squared distance, contact ID, candidate number. -/
abbrev Match := Nat × Nat × Nat

/-- Insertion of a possible match in increasing distance, equal ones by contact ID and candidate number (R229, assumption 12). -/
def insertMatch (m : Match) : List Match → List Match
  | [] => [m]
  | x :: rest =>
    if m.1 < x.1 || (m.1 = x.1 && (m.2.1 < x.2.1 || (m.2.1 = x.2.1 && m.2.2 ≤ x.2.2))) then m :: x :: rest
    else x :: insertMatch m rest

/-- The matches of candidates and live contacts (R229): contact ID and candidate number. -/
def State.matches (s : State) (n : Nat) (cands : List Candidate) : List (Nat × Nat) :=
  let r := s.rdN Obj.MATCH_RADIUS n
  let pairs : List Match := (s.tch n).contacts.flatMap fun c =>
    (List.range cands.length).filterMap fun i =>
      match cands[i]? with
      | some k => let d := dist2 k.x k.y c.x c.y; if d ≤ r * r then some (d, c.id, i) else none
      | none => none
  (pairs.foldl (fun acc m => insertMatch m acc) []).foldl (fun acc m =>
    if acc.any (fun q => q.1 = m.2.1 || q.2 = m.2.2) then acc else acc ++ [(m.2.1, m.2.2)]) []

/-- A contact at the position of a candidate. -/
def State.contactAt (s : State) (n : Nat) (c : Contact) (k : Candidate) : Contact :=
  let q := s.panelPixel n k.x k.y
  { c with cls := k.cls, x := k.x, y := k.y, px := q.1.toNat, py := q.2.toNat, peak := k.peak, area := k.area, node := k.node }

/-! ### One contact in one pair -/

/-- What a pair makes of a contact: the contact if it stays live, its record (kind, priority, DETAIL), and the state with the
counts of the transition. -/
structure Stepped where
  s : State
  keep : Option Contact
  /-- The contact as its record shows it, and the record's kind, priority and DETAIL. -/
  said : Option (Contact × Nat × Nat × Nat) := none

/-- The zone is LOCKING or RETURNING: its drain is due at the end of this pair (R250, R402). -/
def State.zoneDraining (s : State) (n z : Nat) : Bool :=
  (s.lock ⟨n, .zone, z⟩).st = .locking || (s.lock ⟨n, .zone, z⟩).st = .returning

/-- The zone whose holder a contact confirmed here would have, and that holder; nobody while the zone is on its way (R246, R250). -/
def State.confirmHolder (s : State) (n : Nat) (c : Contact) : Option Nat × Holder :=
  match s.zoneAt n c.px c.py with
  | none => (none, .nobody)
  | some z => (some z, if s.zoneInCycle n z then .nobody else s.zoneHolder n z)

/-- A TENTATIVE contact is confirmed (R232, R246, R247). -/
def State.confirmContact (s : State) (n : Nat) (c : Contact) : Stepped :=
  let (z, h) := s.confirmHolder n c
  let c' : Contact := { c with st := .confirmed, holder := h, zone := z.getD 0, repX := c.x, repY := c.y, anchorX := c.x,
                               anchorY := c.y, anchorAt := s.time, wet := false, holdDue := false }
  { s := if z.isNone then s.count Obj.UNZONED_CONTACTS n else s, keep := some c',
    said := some (c', 0, 3, (s.time - c.since) / 1000) }

/-- A CONFIRMED contact matched as finger or glove (R232, R238, R246). The CANCEL of a contact that enters an enclave's zone carries what was
last seen of it outside. -/
def State.moveContact (s : State) (n : Nat) (c0 : Contact) (k : Candidate) (p : PairData) : Stepped :=
  let c : Contact := { s.contactAt n c0 k with wet := false }
  let secureNow : Bool := match c.holder, s.zoneAt n c.px c.py with
    | .tenant _, some z => s.zoneSecure n z
    | _, _ => false
  let r := s.rdN Obj.HOLD_RADIUS n
  let m := s.rdN Obj.MOVE_THRESHOLD n
  if secureNow && !c.mute then { s := s, keep := some { c with mute := true }, said := some (c0, 4, 3, 3) }
  else
    let c : Contact :=
      if r * r < dist2 c.x c.y c.anchorX c.anchorY then
        { c with anchorX := c.x, anchorY := c.y, anchorAt := s.time, holdDue := false }
      else c
    if c.holdDue then
      let glove := s.rd Obj.GLOVE_THRESHOLD n
      let strong := (List.range (p.tx * p.rx)).filter fun q => glove ≤ p.delta q && q ≠ c.node
      let foot := withBorder p.tx p.rx (grow (adj8 p.rx) strong.length [c.node] strong).1
      { s := s.count Obj.ABSORPTIONS n, keep := some { c with st := .absorbed, footprint := foot, rebased := [], holdDue := false },
        said := some (c, 3, 3, 0) }
    else if m * m ≤ dist2 c.x c.y c.repX c.repY then
      { s := s, keep := some { c with repX := c.x, repY := c.y }, said := some (c, 1, 2, 0) }
    else { s := s, keep := some c }

/-- The row of R232 for a live contact. -/
def State.stepContact (s : State) (n : Nat) (p : PairData) (c : Contact) (m : Option Candidate) : Stepped :=
  match c.st, m with
  | .absorbed, _ => { s := s, keep := some c }
  | .tentative, none => { s := s, keep := none }
  | .water, none => { s := s, keep := none }
  | .confirmed, none => { s := s, keep := none, said := some (c, 2, 3, 0) }
  | .tentative, some k =>
    let c' := s.contactAt n c k
    if k.cls = .water then { s := s.count Obj.WATER_CONTACTS n, keep := some { c' with st := .water } }
    else if k.cls ≠ c.cls then { s := s, keep := some c' }
    else if (List.range 16).any (fun z => s.zoneDraining n z && s.zoneAt n c'.px c'.py = some z) then { s := s, keep := some c' }
    else s.confirmContact n c'
  | .water, some k =>
    let c' := s.contactAt n c k
    if k.cls = .water then { s := s, keep := some c' }
    else { s := s, keep := some { c' with st := .tentative, since := s.time } }
  | .confirmed, some k =>
    if k.cls = .water then
      if c.wet then { s := s.count Obj.WATER_CONTACTS n, keep := some { c with st := .water, wet := false, cls := .water },
                      said := some (c, 4, 3, 1) }
      else { s := s, keep := some { c with wet := true } }
    else s.moveContact n c k p

/-- The records of a pair with their contacts. -/
abbrev Said := List (Contact × Nat × Nat × Nat)

/-- Every live contact takes its row (R232). A contact held through a zone that drains now gets CANCEL, cause LOCK, in place
of its own record (R249, R250). -/
def State.stepAll (s : State) (n : Nat) (p : PairData) (cands : List Candidate) (ms : List (Nat × Nat)) :
    State × List Contact × Said :=
  (s.tch n).contacts.foldl (fun (acc : State × List Contact × Said) c =>
    let m : Option Candidate := (ms.find? fun q => q.1 = c.id).bind fun q => cands[q.2]?
    let r := acc.1.stepContact n p c m
    let locked : Bool := c.st = .confirmed && c.holder ≠ .nobody && s.zoneDraining n c.zone
    let said := if locked then [((r.keep.getD c), 4, 3, 2)] else r.said.toList
    let keep := if locked then r.keep.map fun k => { k with mute := true } else r.keep
    (r.s, acc.2.1 ++ keep.toList, acc.2.2 ++ (said.map fun q => (if locked then { q.1 with mute := c.mute } else q.1, q.2))))
    (s, [], [])

/-- The next contact ID that no live contact has (R233). -/
def nextContactId (live : List Nat) : Nat → Nat → Nat
  | 0, k => k
  | fuel + 1, k => if live.contains k then nextContactId live fuel (if k ≥ 255 then 1 else k + 1) else k

/-- Unmatched candidates in decreasing peak, equal ones in node order (R234). -/
def insertPeak (c : Candidate) : List Candidate → List Candidate
  | [] => [c]
  | x :: rest => if x.peak < c.peak then c :: x :: rest else x :: insertPeak c rest

/-- Contacts for the unmatched candidates (R232 to R234), and the DIAGNOSTIC records of water. -/
def State.newContacts (s : State) (n : Nat) (live : List Contact) (free : List Candidate) :
    State × List Contact × List (Holder × TouchRec) :=
  let most := s.rdN Obj.MAX_CONTACTS n
  (free.foldl (fun acc c => insertPeak c acc) []).foldl (fun (acc : State × List Contact × List (Holder × TouchRec)) k =>
    let (s, cs, diag) := acc
    if most ≤ cs.length then (s.count Obj.CONTACTS_REFUSED n, cs, diag)
    else
      let t := s.tch n
      let id := nextContactId (cs.map Contact.id) 255 t.nextId
      let s := s.setTch n { t with nextId := if id ≥ 255 then 1 else id + 1 }
      let blank : Contact := { id := id, st := if k.cls = .water then .water else .tentative, cls := k.cls, x := 0, y := 0, px := 0,
                               py := 0, peak := 0, area := 0, node := 0, since := s.time, mute := t.consume }
      let c := s.contactAt n blank k
      if k.cls = .water then
        let s := s.count Obj.WATER_CONTACTS n
        match s.zoneAt n c.px c.py with
        | some z =>
          let told : List (Holder × TouchRec) :=
            if c.mute || s.zoneInCycle n z then []
            else [(s.zoneHolder n z, s.contactRec n ({ c with zone := z } : Contact) 6 0 1)]
          (s, cs ++ [c], diag ++ told)
        | none => (s, cs ++ [c], diag)
      else (s, cs ++ [c], diag)) (s, live, [])

/-- A drain drops the TENTATIVE and WATER contacts whose position lies in the zone (R250). -/
def State.dropInZone (s : State) (n z : Nat) (cs : List Contact) : List Contact :=
  cs.filter fun c => !((c.st = .tentative || c.st = .water) && s.zoneAt n c.px c.py = some z)

/-! ### Baselines after a pair -/

/-- The nodes an area covers: its nodes, or the whole electrodes of its self channels (R239; assumption 67). -/
def State.areaNodes (s : State) (n : Nat) (nodes : List Nat) : List Nat :=
  let tx := s.txN n
  let rx := s.rxN n
  nodes.flatMap fun k =>
    if k < tx * rx then [k]
    else if k < tx * rx + tx then (List.range rx).map fun j => (k - tx * rx) * rx + j
    else (List.range tx).map fun i => i * rx + (k - tx * rx - tx)

/-- The pixel rectangle of an area, from the centres of its nodes, or the same in panel units: x, y, right and lower end. -/
def State.areaRect (s : State) (n : Nat) (nodes : List Nat) (pixels : Bool) : Int × Int × Int × Int :=
  let rx := s.rxN n
  let ps := (s.areaNodes n nodes).map fun k =>
    let q := s.axisMap n (panelCoord (k / rx : Nat) 1 (s.txN n), panelCoord (k % rx : Nat) 1 rx)
    if pixels then s.panelPixel n q.1 q.2 else q
  match ps with
  | [] => (0, 0, 0, 0)
  | f :: rest => rest.foldl (fun (a : Int × Int × Int × Int) q =>
      (min a.1 q.1, min a.2.1 q.2, max a.2.2.1 q.1, max a.2.2.2 q.2)) (f.1, f.2, f.1, f.2)

/-- The zone meets the area. -/
def State.zoneMeetsArea (s : State) (n : Nat) (nodes : List Nat) (z : Nat) : Bool :=
  let r := s.areaRect n nodes true
  (s.zoneCfg n z).meets r.1 r.2.1 (r.2.2.1 - r.1 + 1).toNat (r.2.2.2 - r.2.1 + 1).toNat

/-- Tracking, anti-touch and footprints after a pair; re-baselined nodes of a footprint, those of the border among them, track again (R236,
R237). -/
def State.trackAll (s : State) (n : Nat) (p : PairData) (cands : List Candidate) : State :=
  let t := s.tch n
  let anti := s.rd Obj.ANTI_THRESHOLD n
  let step := s.rd Obj.TRACK_STEP n
  let due : Bool := s.rdN Obj.SCAN_SEQ n % max 1 (s.rdN Obj.TRACK_DIV n) = 0
  let absorbed := t.contacts.filter fun c => c.st = .absorbed
  let feet := absorbed.flatMap Contact.footprint
  let taken := absorbed.flatMap Contact.rebased
  let away := (feet ++ (absorbed.map Contact.node).flatMap (around p.tx p.rx 2)).filter fun k => !taken.contains k
  let held := t.areas.flatMap SuspectArea.nodes ++ away
  let peaks := t.contacts.map Contact.node ++ cands.map Candidate.node
  let near := ((t.contacts.filter fun c => c.st ≠ .absorbed).map Contact.node ++ cands.map Candidate.node).flatMap (around p.tx p.rx 2)
  let m := p.tx * p.rx
  let selfOut (k : Nat) : Bool := held.contains (m + k) || peaks.any fun q =>
    let e := if k < p.tx then q / p.rx else p.tx + q % p.rx
    (decide (k < p.tx) == decide (e < p.tx)) && k ≤ e + 2 && e ≤ k + 2
  let base := trackBase anti step due (fun k => held.contains k || near.contains k) (adj4 p.rx) (withBorder p.tx p.rx) p.delta
    t.base p.raw
  let selfBase := trackBase anti step due selfOut (adjSelf p.tx)
    (selfBorder p.tx p.rx) p.selfDelta t.selfBase p.selfRaw
  let lifted := feet.filter fun k => p.delta k ≤ -anti
  let base := takeAt base p.raw (withBorder p.tx p.rx lifted)
  let cs := t.contacts.map fun c =>
    if c.st = .absorbed then
      let border := withBorder p.tx p.rx (c.footprint.filter fun k => lifted.contains k)
      { c with rebased := (c.rebased ++ c.footprint.filter fun k => border.contains k).eraseDups }
    else c
  s.setTch n { t with base := base, selfBase := selfBase, contacts := cs }

/-- An ABSORBED contact at least half of whose footprint has been re-baselined lifts (R232, R237). -/
def State.liftAbsorbed (s : State) (n : Nat) : State :=
  let gone (c : Contact) : Bool := c.st = .absorbed && c.footprint.length ≤ 2 * c.rebased.length
  let t := s.tch n
  let s := s.each (t.contacts.filter gone) fun s c => if c.mute || c.holder = .nobody then s else s.touchStatus n c.holder c.zone 6
  s.setTch n { s.tch n with contacts := t.contacts.filter fun c => !gone c }

/-- Suspect areas are released (R240). -/
def State.releaseAreas (s : State) (n : Nat) (p : PairData) : State :=
  let m := p.tx * p.rx
  let thr := s.rd Obj.SUSPECT_THRESHOLD n
  let t := s.tch n
  let near (k : Nat) : Bool :=
    let raw := if k < m then p.raw.getD k 0 else p.selfRaw.getD (k - m) 0
    let o := if k < m then t.offsetMutual else t.offsetSelf
    let d := raw - s.refValue n k - o
    2 * d < thr && -thr < 2 * d
  t.areas.foldl (fun (s : State) a =>
    let t := s.tch n
    let clear := if a.nodes.all near then a.clearPairs + 1 else 0
    let told (s : State) (code : Nat) : State := s.touchStatusAll n code (s.zoneMeetsArea n a.nodes)
    if 2 ≤ clear then told s 2
    else if a.holdDue then
      told (s.setTch n { t with base := takeAt t.base p.raw (a.nodes.filter (· < m)),
                                selfBase := takeAt t.selfBase p.selfRaw ((a.nodes.filter (m ≤ ·)).map (· - m)) }) 3
    else s.setTch n { t with areas := t.areas ++ [{ a with clearPairs := clear }] }) (s.setTch n { t with areas := [] })

/-! ### Calibration -/

/-- The calibration of 4 pairs ends (R239 to R241, R254). -/
def State.finishCalibration (s : State) (n : Nat) (pairs : List (List Int × List Int)) : State :=
  let tx := s.txN n
  let rx := s.rxN n
  let m := tx * rx
  let a := meanOf (pairs.map (·.1)) m
  let b := meanOf (pairs.map (·.2)) (tx + rx)
  let asleep : Bool := s.stationState n = stSleep
  let s :=
    if s.rdN Obj.REFERENCE_STATE n ≠ 1 then
      (s.setTch n { s.tch n with base := a.map sat16, selfBase := b.map sat16, areas := [], offsetMutual := 0, offsetSelf := 0 }).touchStatusAll n 4
    else
      let thr := s.rd Obj.SUSPECT_THRESHOLD n
      let om := median ((List.range m).map fun k => a.getD k 0 - s.refValue n k)
      let os := median ((List.range (tx + rx)).map fun k => b.getD k 0 - s.refValue n (m + k))
      let far (d : Int) : Bool := thr ≤ d || d ≤ -thr
      let suspect := (List.range m).filter fun k => far (a.getD k 0 - s.refValue n k - om)
      let found := ((clusters (adj8 rx) suspect.length suspect).filter fun c => 2 ≤ c.length).map (withBorder tx rx)
      let doubtful := (List.range (tx + rx)).filter fun k => far (b.getD k 0 - s.refValue n (m + k) - os)
      let rows := ((clusters (adjSelf tx) doubtful.length doubtful).filter fun c => 2 ≤ c.length).map (selfBorder tx rx)
      let areas : List SuspectArea := (found ++ rows.map fun c => c.map (m + ·)).map fun c => { nodes := c }
      let inArea (k : Nat) : Bool := areas.any fun r => r.nodes.contains k
      let base := (List.range m).map fun k => sat16 (if inArea k then s.refValue n k + om else a.getD k 0)
      let selfBase := (List.range (tx + rx)).map fun k => sat16 (if inArea (m + k) then s.refValue n (m + k) + os else b.getD k 0)
      let s := s.setTch n { s.tch n with base := base, selfBase := selfBase, areas := areas, offsetMutual := om, offsetSelf := os }
      if areas.isEmpty then s
      else
        let r := s.areaRect n (areas.flatMap SuspectArea.nodes) false
        let s := (s.count Obj.OCCLUSIONS n).toStationLog n (s.mkRec 0x800B 0 n noTenant
          [(r.1.toNat, 12), (r.2.1.toNat, 12), (r.2.2.1.toNat, 12), (r.2.2.2.toNat, 12), (areas.length, 8)])
        (s.alarm 11 0 n areas.length).touchStatusAll n 1 fun z => areas.any fun a => s.zoneMeetsArea n a.nodes z
  let t := s.tch n
  let s := s.setTch n { t with calPairs := [], sleepCal := false, calibratedAt := s.time, savedBase := if asleep then t.base else t.savedBase,
                               savedSelf := if asleep then t.selfBase else t.savedSelf }
  s.setTouchState n (if asleep then toWakeScan else toScanning)

/-- One pair of a calibration (R239). -/
def State.calibrationPair (s : State) (n : Nat) (nodes self : List Nat) : State :=
  let t := s.tch n
  let pairs := t.calPairs ++ [(s.normMutual n nodes, s.normSelf n self)]
  if pairs.length < 4 then s.setTch n { t with calPairs := pairs } else s.finishCalibration n pairs

/-- The engine enters CALIBRATING; the scan is planned where it comes from OFF (R254, R660). -/
def State.calibrate (s : State) (n : Nat) : State :=
  let t := s.tch n
  let s := (s.setTch n { t with calPairs := [], areas := [], pairStart := none, lastStart := none
                                sleepCal := s.stationState n = stSleep }).syncReference n
  (if s.touchState n = toOff then s.touchPlan n else s).setTouchState n toCalibrating

/-! ### Pairs -/

/-- The zone settings in force take the objects' values (R245). -/
def State.latchZones (s : State) (n : Nat) : State :=
  let zs : FMap Nat ZoneCfg := (List.range 16).map fun z =>
    (z, { enable := s.rdB Obj.ZONE_ENABLE n z, x := s.rdN Obj.ZONE_X n z, y := s.rdN Obj.ZONE_Y n z, w := s.rdN Obj.ZONE_W n z,
          h := s.rdN Obj.ZONE_H n z, holder := s.holder ⟨n, .zone, z⟩ })
  s.setTch n { s.tch n with zones := zs }

/-- The touch RWC objects take effect and the scan is planned again; a change of the electrode counts leaves baselines that the
spec does not give (R225, R259, assumption 1). -/
def State.applyTouch (s : State) (n : Nat) : State :=
  let old := (s.txN n, s.rxN n)
  let s := s.applyValues touchRows n ((s.tch n).committed.getD [])
  let s := s.setTch n { s.tch n with committed := none }
  let tx := s.txN n
  let rx := s.rxN n
  let s :=
    if old = (tx, rx) then s
    else
      let k := tx * rx + tx + rx
      let v : List Int := (List.range k).map fun i => ((Config.freeNat (s.free + i) % 65536 : Nat) : Int)
      ({ s with free := s.free + k } : State).setTch n { s.tch n with base := v.take (tx * rx), selfBase := v.drop (tx * rx) }
  (s.syncReference n).touchPlan n

/-- The report period has passed since the start of the previous pair (R224), or of the latest skip (R257). -/
def State.periodPassed (s : State) (n hz : Nat) : Bool :=
  match (s.tch n).lastStart with
  | some a => 1000000000 ≤ (s.time - a) * hz
  | none => true

/-- A pair may start (R223, R224, R254, R258): no pair is in progress, the report period has passed, and a slot can begin now. -/
def State.pairMayStart (s : State) (n : Nat) : Bool :=
  let t := s.tch n
  let st := s.touchState n
  (st = toScanning || (st = toCalibrating && !t.sleepCal)) && t.pairStart.isNone && s.periodPassed n (s.rdN Obj.TARGET_RATE_HZ n)
    && s.slotNow n

/-- The pair that would start is skipped after a swap of the microcode (R257). -/
def State.skipPair (s : State) (n : Nat) : State :=
  ((s.setTch n { s.tch n with skipNext := false, lastStart := some s.time }).count Obj.PAIRS_SKIPPED n).touchStatusAll n 5

/-- `REPORT_RATE_HZ`: pairs completed in the last second (R225). -/
def State.reportRate (s : State) (n : Nat) : State :=
  let t := s.tch n
  let ends := t.ends.filter fun x => s.time < x + 1000000000
  if ends = t.ends then s else (s.setTch n { t with ends := ends }).wr Obj.REPORT_RATE_HZ (ends.length : Nat) n

/-- A pair is complete: `SCAN_SEQ` and `REPORT_RATE_HZ` follow (R224, R225). -/
def State.pairComplete (s : State) (n : Nat) : State :=
  let t := s.tch n
  let ends := (t.ends ++ [s.time]).filter fun x => s.time < x + 1000000000
  ((s.setTch n { t with pairStart := none, lastEnd := s.time, ends := ends }).advance Obj.SCAN_SEQ n).wr Obj.REPORT_RATE_HZ
    (ends.length : Nat) n

/-- SCAN_PAIR_START (R223 to R226, R245, R257, R258). -/
def execScanPairStart (n : Fin 8) (s : State) : Host.Outcome State Fault Refusal :=
  .next (
    let t := s.tch n
    if !s.pairMayStart n then s
    else if t.skipNext then s.skipPair n
    else
      let s := if t.committed.isSome then s.applyTouch n else s
      let s := s.latchZones n
      let t := s.tch n
      let s := s.setTch n { t with pairStart := some s.time, lastStart := some s.time, starts := t.starts + 1 }
      match t.nextFreq with
      | some f =>
        let from_ := s.rdN Obj.TX_FREQ_INDEX n
        let s := (s.setTch n { s.tch n with nextFreq := none, sinceHop := 0, overNoise := 0 }).wr Obj.TX_FREQ_INDEX (f : Nat) n
        (s.count Obj.HOPS n).toStationLog n (s.mkRec 0x8004 0 n noTenant [(from_, 3), (f, 3)])
      | none => s)

/-- The other frequency of the hop set heard in this pair's second listening step, taken in turn (R222). -/
def State.heardFreq (s : State) (n : Nat) : Nat :=
  let cur := s.rdN Obj.TX_FREQ_INDEX n
  let others := (maskBits 8 (s.rdN Obj.HOP_SET n)).filter (· ≠ cur)
  if others.isEmpty then cur else others.getD ((s.tch n).listenTurn % others.length) cur

/-- Noise of the two listening steps, by RX channel, and the decision to hop (R226). -/
def State.listen (s : State) (n : Nat) (rawUse rawOther : List Int) : State :=
  let cur := s.rdN Obj.TX_FREQ_INDEX n
  let noiseUse := s.noiseOf n cur rawUse
  let noiseOther := s.noiseOf n (s.heardFreq n) rawOther
  let other := s.heardFreq n
  let t := s.tch n
  let level := s.rdN Obj.NOISE_HOP_LEVEL n
  let noise := (t.noise.put other noiseOther).put cur noiseUse
  let noisy := if noiseAbove noiseUse level then t.overNoise + 1 else 0
  let since := t.sinceHop + 1
  let quiet := (maskBits 8 (s.rdN Obj.HOP_SET n)).filter fun i => i ≠ cur && (match noise.find i with
    | some v => noiseHalf v level
    | none => false)
  let best := quiet.foldl (fun (b : Option Nat) i => match b with
    | some j => if noiseLess (noise.getD i (0, 1)) (noise.getD j (0, 1)) then some i else b
    | none => some i) none
  s.setTch n { t with noise := noise, overNoise := noisy, sinceHop := since, listenTurn := t.listenTurn + 1,
                      nextFreq := if 3 ≤ noisy && 16 ≤ since then best else none }

/-- The records of the contacts of a pair in increasing ID, then its DIAGNOSTIC records (R249). -/
def State.writeSaid (s : State) (n : Nat) (said : Said) (diag : List (Holder × TouchRec)) : State :=
  let sorted := (List.range 256).flatMap fun k => said.filter fun q => q.1.id = k
  let s := s.each sorted fun s q => s.reportContact n q.1 (s.contactRec n q.1 q.2.1 q.2.2.1 q.2.2.2)
  s.each diag fun s d => if s.touchReports n then s.touchTo d.1 d.2 else s

/-- A completed pair in SCANNING (R229 to R241, R249, R250). -/
def State.scanPair (s : State) (n : Nat) (nodes self : List Nat) : State :=
  let t := s.tch n
  let p : PairData := { tx := s.txN n, rx := s.rxN n, raw := s.normMutual n nodes, selfRaw := s.normSelf n self, base := t.base,
                        selfBase := t.selfBase }
  let (cands, s) := s.touchCandidates n p
  let ms := s.matches n cands
  let (s, live, said) := s.stepAll n p cands ms
  let unmatched := (List.range cands.length).filterMap fun i => if ms.any (fun q => q.2 = i) then none else cands[i]?
  let (s, cs, diag) := s.newContacts n live unmatched
  let draining := (List.range 16).filter fun z => s.zoneDraining n z
  let cs := draining.foldl (fun cs z => s.dropInZone n z cs) cs
  let foot := (cs.filter fun c => c.st = .absorbed && c.rebased.isEmpty && t.contacts.any fun o => o.id = c.id && o.st ≠ .absorbed).flatMap
    Contact.footprint
  let t := s.tch n
  let s := s.setTch n { t with contacts := cs, base := takeAt t.base p.raw foot, consume := false,
                               drained := draining.foldl (fun (m : FMap Nat Nat) z => if (m.find z).isSome then m else m.put z t.starts) t.drained }
  let s := s.writeSaid n said diag
  let p' : PairData := { p with base := (s.tch n).base }
  let s := s.trackAll n p' cands
  let s := (s.liftAbsorbed n).releaseAreas n p
  s.setContacts n (s.tch n).contacts

/-- SCAN_PAIR_END: the last step of the pair ends, with the raw counts of the nodes (TX-major), of the self channels (TX, then RX) and, by RX
channel, of the listening steps at the frequency in use and at the other one (R222, R224, R226, R228, R232). In the relock of a mode change
the pair pauses (R258). -/
def execScanPairEnd (n : Fin 8) (nodes self : List Nat) (noiseUse noiseOther : List Int) (s : State) :
    Host.Outcome State Fault Refusal :=
  .next (
    if (s.tch n).pairStart.isNone || (s.dsp n).modeHeld then s
    else
      let s := (s.pairComplete n).listen n noiseUse noiseOther
      let st := s.touchState n
      if st = toCalibrating then s.calibrationPair n nodes self
      else if st = toScanning then s.scanPair n nodes self
      else s)

/-- SLEEP_CALIBRATION_PAIR: a calibration pair in SLEEP, a full pair of R222 started by the touch-domain oscillator (R257, R660). -/
def execSleepCalibrationPair (n : Fin 8) (nodes self : List Nat) (noiseUse noiseOther : List Int) (s : State) :
    Host.Outcome State Fault Refusal :=
  .next (
    let t := s.tch n
    if !(s.touchState n = toCalibrating && t.sleepCal && s.periodPassed n (s.rdN Obj.WAKE_SCAN_HZ n)) then s
    else if t.skipNext then s.skipPair n
    else
      let s := s.latchZones n
      let s := s.setTch n { s.tch n with lastStart := some s.time, starts := t.starts + 1 }
      ((s.pairComplete n).listen n noiseUse noiseOther).calibrationPair n nodes self)

/-- PAIR_ABANDON: the pair is not complete within 4 report periods of its start; `steps` were completed (R258). -/
def execPairAbandon (n : Fin 8) (steps : Nat) (s : State) : Host.Outcome State Fault Refusal :=
  .next (
    let t := s.tch n
    if !(match t.pairStart with
        | some a => 4000000000 ≤ (s.time - a) * s.rdN Obj.TARGET_RATE_HZ n
        | none => false) then s
    else
      let s := (s.setTch n { t with pairStart := none, lastEnd := s.time }).count Obj.PAIRS_SKIPPED n
      s.toStationLog n (s.mkRec 0x800A 0 n noTenant [(s.rdN Obj.SCAN_SEQ n, 16), (steps, 8)]))

/-- CONTACT_HOLD_LIMIT: the contact has stayed within HOLD_RADIUS of its anchor for HOLD_LIMIT_S; the next pair end absorbs it if it
is still there (R232, R238). -/
def execContactHoldLimit (n : Fin 8) (id : Nat) (s : State) : Host.Outcome State Fault Refusal :=
  .next (
    let t := s.tch n
    s.setTch n { t with contacts := t.contacts.map fun c =>
      if c.id = id && c.st = .confirmed && c.anchorAt + s.rdN Obj.HOLD_LIMIT_S n * 1000000000 ≤ s.time then { c with holdDue := true }
      else c })

/-- OCCLUSION_HOLD_EXPIRED: HOLD_LIMIT_S has passed since the calibration; the next pair end releases the areas (R240). -/
def execOcclusionHoldExpired (n : Fin 8) (s : State) : Host.Outcome State Fault Refusal :=
  .next (
    let t := s.tch n
    if t.calibratedAt + s.rdN Obj.HOLD_LIMIT_S n * 1000000000 ≤ s.time then
      s.setTch n { t with areas := t.areas.map fun a => { a with holdDue := true } }
    else s)

/-- TOUCH_COMMIT: the RWC objects take effect at the start of the next pair (R259, R496). -/
def execTouchCommit (who : Requester) (n : Fin 8) (v : Nat) (s : State) : Host.Outcome State Fault Refusal :=
  .next (s.onWrite who Obj.TOUCH_COMMIT v n 0 512 0 fun s =>
    if v = 1 then s.guarded (s.needStReady n 7) fun s => (s.setTch n { s.tch n with committed := some (s.commitValues touchRows n) }).answer .ok
    else s.answer .ok)

/-! ### Factory reference -/

/-- REFERENCE_CAPTURE: a write of 1 starts a capture; refused as STATE outside SCANNING (R243, R481). -/
def execReferenceCapture (who : Requester) (n : Fin 8) (v : Nat) (s : State) : Host.Outcome State Fault Refusal :=
  .next (s.onWrite who Obj.REFERENCE_CAPTURE v n 0 512 0 fun s =>
    if v = 0 then s.answer .ok
    else s.guarded (s.needStReady n 7) fun s =>
      if s.isPending Obj.REFERENCE_RESULT n then s.answer (.busy 4)
      else if s.touchState n = toScanning then
        ((s.startResult Obj.REFERENCE_RESULT who n).setTch n { s.tch n with capture := some ⟨true⟩ }).answer .ok
      else ((s.startResult Obj.REFERENCE_RESULT who n).finish Obj.REFERENCE_RESULT 4 n).answer .ok)

/-- The mean over the nodes of an RX channel (R243). -/
def channelSum (l : List Nat) (tx rx j : Nat) : Nat := ((List.range tx).map fun i => l.getD (i * rx + j) 0).sum

/-- The content of a reference from the mean raw counts at the 8 frequencies (R242, R243). -/
def State.makeReference (s : State) (n : Nat) (nodes self : List (List Nat)) : Bytes :=
  let tx := s.txN n
  let rx := s.rxN n
  let m0 := nodes.getD 0 []
  let gain (f j : Nat) : Nat :=
    let d := channelSum (nodes.getD f []) tx rx j
    if d = 0 then 4096 else 4096 * channelSum m0 tx rx j / d
  let body := ((List.range 8).flatMap fun i => toLE 2 (s.rdN Obj.TX_FREQ_KHZ n 0 512 i))
    ++ ((List.range (tx * rx)).flatMap fun k => toLE 2 (m0.getD k 0))
    ++ ((List.range (tx + rx)).flatMap fun k => toLE 2 ((self.getD 0 []).getD k 0))
    ++ ((List.range 8).flatMap fun f => (List.range rx).flatMap fun j => toLE 2 (gain f j))
  toLE 2 1 ++ toLE 1 tx ++ toLE 1 rx ++ toLE 1 (s.rdN Obj.TX_VOLTAGE_DV n) ++ toLE 1 (s.rdN Obj.STEP_HALF_CYCLES n) ++ toLE 2 0
    ++ toLE 4 (crc32c body) ++ toLE 4 (16 + body.length) ++ body

/-- Mean raw counts of the pairs of a frequency, rounded down (R243). -/
def meanCounts (l : List (List Nat)) (len : Nat) : List Nat := (List.range len).map fun k => (l.map fun p => p.getD k 0).sum / max 1 l.length

/-- How far the raw count of a node varies within the pairs of a frequency (R243). -/
def variation (l : List (List Nat)) (k : Nat) : Nat :=
  let v := l.map fun p => p.getD k 0
  v.foldl max 0 - v.foldl min (v.headD 0)

/-- REFERENCE_CAPTURE_DONE: the 64 pairs at each of the 8 frequencies (R243). -/
def execReferenceCaptureDone (n : Fin 8) (pairs : List (List CapturePair)) (s : State) : Host.Outcome State Fault Refusal :=
  .next (
    let t := s.tch n
    if t.capture.isNone then s
    else
      let s := s.setTch n { t with capture := none }
      let m := s.txN n * s.rxN n
      let nodes := pairs.map fun l => meanCounts (l.map CapturePair.nodes) m
      let self := pairs.map fun l => meanCounts (l.map CapturePair.self) (s.txN n + s.rxN n)
      let moved := pairs.any fun l => (List.range m).any fun k => s.rdN Obj.SUSPECT_THRESHOLD n < 2 * variation (l.map CapturePair.nodes) k
      let noisy := pairs.zipIdx.any fun l => l.1.any fun p => noiseAbove (s.noiseOf n l.2 p.noise) (s.rdN Obj.NOISE_HOP_LEVEL n)
      if moved then s.finish Obj.REFERENCE_RESULT 2 n
      else if noisy then s.finish Obj.REFERENCE_RESULT 3 n
      else
        ((s.wrBlob Obj.FACTORY_REFERENCE (s.makeReference n nodes self) n).syncReference n).finish Obj.REFERENCE_RESULT 0 n)

/-! ### Engine states -/

/-- PUMP_OUT_OF_REGULATION: the pump has been out of regulation for more than 1 ms (R220, R254). -/
def execPumpOutOfRegulation (n : Fin 8) (s : State) : Host.Outcome State Fault Refusal :=
  .next (
    let st := s.touchState n
    let s := s.setTch n { s.tch n with pumpOk := false }
    if st = toCalibrating || st = toScanning || st = toWakeScan then
      let s := (s.cancelAll n 6).setContacts n []
      let s := s.setTch n { s.tch n with pairStart := none, calPairs := [], wakeNow := none, wakePrev := [], wakeTap := none }
      ((s.setTouchState n toHalted).count Obj.PUMP_FAULTS n).alarm 12 1 n 0
    else s)

/-- PUMP_IN_REGULATION: a released engine in OFF enters CALIBRATING (R254). -/
def execPumpInRegulation (n : Fin 8) (s : State) : Host.Outcome State Fault Refusal :=
  .next (
    let s := s.setTch n { s.tch n with pumpOk := true }
    if s.touchState n = toOff && (s.tch n).released then s.calibrate n else s)

/-- TOUCH_HALT_RETRY: 1 s has elapsed in HALTED (R254). -/
def execTouchHaltRetry (n : Fin 8) (s : State) : Host.Outcome State Fault Refusal :=
  .next (
    if s.touchState n = toHalted && (s.tch n).pumpOk && s.passed (.touchHalt n) 1000000000 then (s.calibrate n).clearAlarm 12 n 0 else s)

/-- The touch function is released or ungated (R254, R577). -/
def State.touchRelease (s : State) (n : Nat) : State :=
  let s := s.setTch n { s.tch n with released := true }
  if s.touchState n ≠ toOff then s else if (s.tch n).pumpOk then s.calibrate n else s.setTouchState n toOff

/-- The engine leaves for OFF: a reset of STATION reach, or the station's OFF: contacts cleared without records (R254). -/
def State.touchOff (s : State) (n : Nat) : State :=
  let s := s.setContacts n []
  let t := s.tch n
  ((s.setTch n { pumpOk := t.pumpOk, nextId := t.nextId, savedBase := t.savedBase, savedSelf := t.savedSelf, zones := t.zones, ends := t.ends
                 capture := t.capture }).clearAlarm 12 n 0).setTouchState n toOff

/-- The ordered stop of a gate: CANCEL, cause SLEEP, then OFF (R577). -/
def State.touchGate (s : State) (n : Nat) : State := if s.touchState n = toOff then s.touchOff n else (s.cancelAll n 4).touchOff n

/-- The station enters SLEEP (R254, R660). -/
def State.touchSleep (s : State) (n : Nat) : State :=
  let st := s.touchState n
  if st = toScanning then
    let s := (s.cancelAll n 4).setContacts n []
    let t := s.tch n
    let s := s.setTch n { t with savedBase := t.base, savedSelf := t.selfBase, pairStart := none, wakePrev := [], wakeNow := none,
                                 wakeTap := none, wakeBlocked := false }
    s.setTouchState n toWakeScan
  else if st = toCalibrating then s.setTch n { s.tch n with calPairs := [], pairStart := none, lastStart := none, sleepCal := true }
  else s

/-- The station leaves SLEEP: the saved baseline is restored, and what lies on the glass now is consumed (R253, R254, R660). -/
def State.touchWake (s : State) (n : Nat) : State :=
  let st := s.touchState n
  let t := s.tch n
  if st = toWakeScan then
    (s.setTch n { t with base := t.savedBase, selfBase := t.savedSelf, consume := true, wakePrev := [], wakeNow := none,
                         wakeTap := none, wakeBlocked := false }).setTouchState n toScanning
  else if st = toCalibrating then s.setTch n { t with sleepCal := false }
  else s

/-- No live contact is reported any more until it lifts (R253, R255). -/
def State.muteContacts (s : State) (n : Nat) (p : Contact → Bool) : State :=
  let t := s.tch n
  s.setTch n { t with contacts := t.contacts.map fun c => if p c then { c with mute := true } else c }

/-- The station enters FAULT or MEMORY_FAULT: called before its state changes, so that the CANCEL records are written (R255). -/
def State.touchFault (s : State) (n : Nat) : State := (s.cancelAll n 5).muteContacts n fun _ => true

/-- The station returns to RUNNING from FAULT or MEMORY_FAULT (R255). -/
def State.touchReturn (s : State) (n : Nat) : State := s.muteContacts n fun _ => true

/-- A SLICE reset of a tenant, or of its port: its contacts are reported to nobody (R256), but for those of a zone on its way to an
enclave (R406). -/
def State.touchRevoke (s : State) (n t : Nat) : State :=
  s.muteContacts n fun c => c.holder = .tenant t && s.isNormal ⟨n, .zone, c.zone⟩

/-- A zone taken from a tenant: the contacts confirmed through it are reported to nobody (R360). -/
def State.zoneRevoke (s : State) (n t z : Nat) : State := s.muteContacts n fun c => c.holder = .tenant t && c.zone = z

/-- A drain of a zone while no pair runs: the contacts held through it and those in it (R250). -/
def State.touchDrainNow (s : State) (n z : Nat) : State :=
  let cs := (s.tch n).contacts
  let held (c : Contact) : Bool := c.st = .confirmed && c.holder ≠ .nobody && c.zone = z
  let s := s.each ((List.range 256).flatMap fun k => cs.filter fun c => c.id = k && held c) fun s c =>
    s.reportContact n c (s.contactRec n c 4 3 2)
  s.setContacts n ((s.dropInZone n z cs).map fun c => if held c then { c with mute := true } else c)

/-- The drain of a zone is over: its bindings are at their BLOCK reset, and the next pair makes it ready (R250, R278). -/
def State.touchZoneLocked (s : State) (n z : Nat) : State :=
  let s := if ((s.tch n).drained.find z).isSome then s
    else
      let s := s.touchDrainNow n z
      s.setTch n { s.tch n with drained := (s.tch n).drained.put z (s.tch n).starts }
  (s.wr Obj.DOWN_EFFECT 0xFF n z).wr Obj.UP_EFFECT 0xFF n z

/-- A drained zone may pass to its new holder: a pair has started since its drain, or the engine runs none (R250; assumption 157). -/
def State.touchZoneDue (s : State) (n z : Nat) : Bool :=
  let st := s.touchState n
  !(st = toScanning || st = toCalibrating) || (match (s.tch n).drained.find z with
    | some k => k < (s.tch n).starts
    | none => true)

/-- The zone is ready for its new holder: what is live in it is never reported (R250). -/
def State.touchZoneReady (s : State) (n z : Nat) : State :=
  let s := s.muteContacts n fun c => s.zoneAt n c.px c.py = some z
  let t := s.tch n
  s.setTch n { t with drained := t.drained.del z, zones := t.zones.put z { s.zoneCfg n z with holder := s.holder ⟨n, .zone, z⟩ } }

/-! ### Wake scan -/

/-- What a wake scan found (R251, R252): `coarse` are the quarters of the TX electrodes whose coarse mutual step shows a contact, by bit, and
`self` the positions of the self profiles in panel units before `AXIS_MAP`. A contact must show in both. Answers the gesture recognised, as
its bit number + 1. -/
def State.wakeScan (s : State) (n coarse : Nat) (self : List (Nat × Nat)) : Nat × State :=
  let found := (self.filter fun q => bit (q.1 / 1024) coarse).map fun q =>
    let v := s.axisMap n ((q.1 : Int), (q.2 : Int))
    (v.1.toNat, v.2.toNat)
  let t := s.tch n
  let r := s.rdN Obj.MATCH_RADIUS n
  let near (a b : Nat × Nat) : Bool := dist2 a.1 a.2 b.1 b.2 ≤ r * r
  let seen := found.filter fun a => t.wakePrev.any (near a)
  let on (k : Nat) : Bool := bit k (s.rdN Obj.WAKE_GESTURES n)
  let blocked := (t.wakeBlocked || 2 ≤ seen.length) && !found.isEmpty
  let base : Touch := { t with wakePrev := found, wakeBlocked := blocked }
  if blocked then (0, s.setTch n { base with wakeNow := none, wakeTap := none, wakeSecond := false })
  else
    match t.wakeNow, seen with
    | none, [] => (0, s.setTch n base)
    | none, q :: _ =>
      let second : Bool := match t.wakeTap with
        | some w => s.time ≤ w.start + 400000000 && dist2 w.x w.y q.1 q.2 ≤ 256 * 256
        | none => false
      (0, s.setTch n { base with wakeNow := some ⟨s.time, q.1, q.2, q.1, q.2, false⟩, wakeSecond := second, wakeTap := none })
    | some w, [] =>
      let short : Bool := s.time ≤ w.start + 300000000
      if short && t.wakeSecond && on 0 then (1, s.setTch n { base with wakeNow := none, wakeSecond := false })
      else
        (0, s.setTch n { base with wakeNow := none, wakeSecond := false,
                                   wakeTap := if short && !t.wakeSecond then some ⟨w.start, w.x0, w.y0⟩ else none })
    | some w, q :: _ =>
      let strayed := w.strayed || 128 * 128 < dist2 w.x0 w.y0 q.1 q.2
      let w' : WakeContact := { w with x := q.1, y := q.2, strayed := strayed }
      let up := w.y0 - q.2
      let side := if w.x0 ≤ q.1 then q.1 - w.x0 else w.x0 - q.1
      let s := s.setTch n { base with wakeNow := some w' }
      if on 1 && !strayed && w.start + 800000000 ≤ s.time then (2, s)
      else if on 2 && 1024 ≤ up && 2 * side ≤ up && s.time ≤ w.start + 600000000 then (3, s)
      else (0, s)

/-- WAKE_N follows the `WAKE_PENDING` of every station (R253). -/
def State.wakePin (s : State) : State := s.drive 16 (!((List.range 8).any fun n => s.rdB Obj.WAKE_PENDING n))

/-- What a recognised gesture leaves in the objects (R253). -/
def State.wakeGesture (s : State) (n g : Nat) : State :=
  let s := (s.wr Obj.LAST_WAKE_GESTURE (g : Nat) n).count Obj.WAKES n
  if s.rdB Obj.WAKE_N_ENABLE n then (s.wr Obj.WAKE_PENDING 1 n).wakePin else s

/-- WAKE_PENDING_CLEAR: a write of `WAKE_PENDING`; 0 clears it, 1 is ignored (R253, R259). -/
def execWakePendingClear (who : Requester) (n : Fin 8) (v : Nat) (s : State) : Host.Outcome State Fault Refusal :=
  .next (s.onWrite who Obj.WAKE_PENDING v n 0 512 0 fun s =>
    (if v = 0 then (s.wr Obj.WAKE_PENDING 0 n).wakePin else s).answer .ok)

end Sys2Proof.Machine
end

