-- ==== Sys2Proof/Machine/Clock.lean ====
section
/-! DEFINITION. Device time passing: what an empty queue does, and the times that are kept of jobs, cores and secure cores (R81, R399, R423,
R514, R589). -/
namespace Sys2Proof.Machine

/-- The secure cores' time by tag advances while the secure complex runs (R399, R423, R587). -/
def State.secureTime (s : State) (dt : Nat) : State :=
  if s.hwGated 1 then s
  else
  let tags := s.sec.cores.map fun c => match c with
    | some e => e + 1
    | none => 0
  let m := tags.foldl (fun (m : FMap Nat Nat) g => m.put g (m.getD g 0 + dt)) s.energy.secTime
  { s with energy := { s.energy with secTime := m } }

/-- What an empty queue does: one 25 MHz reference cycle of device time, 40 ns adjusted by the 802.1AS rate, passes while the always-on supply is
good (R514, R589; assumption 4). -/
def idleCycle (s : State) : State :=
  if s.powered && !s.rst.inReset.contains .aon then
    let s := (s.each (List.range 8) fun s n => s.accrue n 40).secureTime 40
    let s := ({ s with time := s.time + 40 } : State).settleCrossings
    s.each (List.range 8) fun s n => (s.takeTable n).reportRate n
  else s

end Sys2Proof.Machine
end

