-- ==== Sys2Proof/Machine/Audio.lean ====
section
/-! DEFINITION. The audio engine: gains and their stepping, routes, streams, tones, ducking, LOOP, frames and the engine states
(R293 to R320). -/
namespace Sys2Proof.Machine

/-- 10 ^ (k / 40) for k from 0 to 39, times 10 ^ 12, rounded: what a gain code multiplies by (R307). -/
def gainTable : List Nat :=
  [
    1000000000000, 1059253725177, 1122018454302, 1188502227437, 1258925411794, 1333521432163,
   1412537544623, 1496235656094, 1584893192461, 1678804018123, 1778279410039, 1883649089490,
   1995262314969, 2113489039837, 2238721138568, 2371373705662, 2511886431510, 2660725059799,
   2818382931264, 2985382618918, 3162277660168, 3349654391578, 3548133892336, 3758374042884,
   3981071705535, 4216965034286, 4466835921510, 4731512589615, 5011872336273, 5308844442310,
   5623413251903, 5956621435290, 6309573444802, 6683439175686, 7079457843841, 7498942093325,
   7943282347243, 8413951416452, 8912509381337, 9440608762859
  ]

/-- 10 ^ (code / 40) as a fraction, within 10 ^ -12 of its value (R307). -/
def gainFactor (code : Int) : Rat :=
  let k := (code % 40).toNat
  let m : Rat := (gainTable.getD k 0 : Rat) / 1000000000000
  let d := code / 40
  if 0 ≤ d then m * (10 ^ d.toNat : Nat) else m / (10 ^ (-d).toNat : Nat)

/-- A sample after a gain stage: within ±0.01 dB of in × 10 ^ (code / 40), rounded outward to whole counts; 0 at mute (R307). -/
def applyGain (code x : Int) : Int :=
  if code = gainMute || x = 0 then 0
  else
    let ideal : Rat := (x : Rat) * gainFactor code
    let d : Rat := absR ideal * 1150 / 1000000
    clampI (Rat.floor (ideal - d)) (Rat.ceil (ideal + d)) (Config.audioScale code x)

/-- One step of a gain towards its target (R307). -/
def stepTowards (p t : Int) : Int :=
  if p = gainMute then -200
  else if t = gainMute && p = -200 then gainMute
  else if t = gainMute || t < p then p - 1
  else p + 1

/-- T of R307 in frames. -/
def State.stepFrames (s : State) (n : Nat) : Nat := if s.rdN Obj.AUDIO_RATE_HZ n = 96000 then 960 else 480

/-- A channel crosses zero at a sample (R307). -/
def crosses (prev x : Int) : Bool := x = 0 || (0 < x && prev < 0) || (x < 0 && 0 < prev)

/-- A stage takes a new target at a frame: a change begins (R308). A stage whose target stays is not touched. -/
def Stage.aim (g : Stage) (target : Int) (frame : Nat) (forced : Bool := false) : Stage :=
  if g.target = target && !forced then g
  else { g with target := target, start := frame, forced := forced, crossL := false, crossR := false }

/-- One frame of a stage with its input: the stepping event and the output (R307). -/
def Stage.run (g : Stage) (t frame : Nat) (l r : Int) : Stage × Int × Int :=
  let cl := g.crossL || crosses g.prevL l
  let cr := g.crossR || crosses g.prevR r
  let g := { g with crossL := cl, crossR := cr, prevL := l, prevR := r }
  let g : Stage :=
    if g.target ≠ g.present && (g.forced || (cl && cr) || g.start + t ≤ frame) then
      { g with present := stepTowards g.present g.target, crossL := false, crossR := false }
    else g
  (g, applyGain g.present l, applyGain g.present r)

def Audio.stage (a : Audio) (k : Nat) : Stage := a.stages.getD k {}
def Audio.setStage (a : Audio) (k : Nat) (g : Stage) : Audio := { a with stages := a.stages.put k g }
def Audio.stream (a : Audio) (k : Nat) : Stream := a.streams.getD k {}
def Audio.setStream (a : Audio) (k : Nat) (v : Stream) : Audio := { a with streams := a.streams.put k v }
def Audio.tone (a : Audio) (k : Nat) : Tone := a.tones.getD k {}
def Audio.setTone (a : Audio) (k : Nat) (v : Tone) : Audio := { a with tones := a.tones.put k v }

/-- Engine states of R320. -/
def auOff : Nat := 0
def auStarting : Nat := 1
def auActive : Nat := 2
def auStopping : Nat := 3

def State.audioState (s : State) (n : Nat) : Nat := s.rdN Obj.AUDIO_STATE n

/-- The engine enters a state: its pins, its supply and the ready bit follow; BCLK and FSYNC run but in OFF and while the clocks stand
still (R296, R297, R314, R495, R577). -/
def State.setAudioState (s : State) (n v : Nat) : State :=
  let s := ((s.wr Obj.AUDIO_STATE v n).drive 7 (v = auActive || v = auStopping) n).wave 9 (v ≠ auOff && !(s.aud n).clockStopped) n
  (s.syncEdge n).stReady n 9 (v = auActive)

/-- A record to the holder concerned, with a copy to the station's log queue (R319). -/
def State.audioNote (s : State) (n : Nat) (h : Holder) (code prio : Nat) (fields : List (Nat × Nat)) : State :=
  let r := s.mkRec code prio n noTenant fields
  match h with
  | .tenant t => (s.toTenant t { r with tenant := t }).toStationLog n { r with tenant := t }
  | .enclave e => (s.toEnclave e r).toStationLog n r
  | .manager | .nobody => s.toStationLog n r

/-- The holder of a source (R298). -/
def State.sourceHolder (s : State) (n k : Nat) : Holder := s.holder ⟨n, .source, k⟩

/-- `SRC_STATE` (R320): LOCKED stays while the source is LOCKED. -/
def State.setSrc (s : State) (n k v : Nat) : State :=
  if s.isNormal ⟨n, .source, k⟩ || (s.lock ⟨n, .source, k⟩).st = .secure then s.wr Obj.SRC_STATE v n k else s

/-! ### Targets and routes -/

/-- A source or sink aims at a gain (R308). -/
def State.aim (s : State) (n k : Nat) (target : Int) (forced : Bool := false) : State :=
  let a := s.aud n
  s.setAud n (a.setStage k ((a.stage k).aim target a.frame forced))

/-- The gain object of a source or sink stage. -/
def State.wantedGain (s : State) (n k : Nat) : Int :=
  if k < 16 then s.rd Obj.SRC_GAIN_HDB n k else s.rd Obj.SINK_GAIN_HDB n (k - 20)

/-- The route object of a source or sink stage. -/
def State.wantedRoute (s : State) (n k : Nat) : Nat :=
  if k < 16 then s.rdN Obj.SRC_BUS n k else s.rdN Obj.SINK_BUS_MASK n (k - 20)

/-- The stages that have a route: sources and sinks. -/
def routedStages : List Nat := List.range 16 ++ [20, 21, 22]

/-- The audio RWC objects (R320). -/
def audioRows : List ObjRow :=
  [Obj.BUS_GAIN_HDB, Obj.DUCK_DEPTH_HDB, Obj.DUCK_THRESHOLD_DBFS, Obj.DUCK_HOLD_MS, Obj.SINK_BUS_MASK, Obj.SINK_GAIN_HDB,
   Obj.LOOP_ENABLE, Obj.TDM_FSYNC_DELAY, Obj.TDM_BCLK_EDGE, Obj.SRC_BUS, Obj.SRC_GAIN_HDB, Obj.SAMPLE_RATE]

/-- The rate that `SAMPLE_RATE` asks for (R295). -/
def State.wantedRate (s : State) (n : Nat) : Nat := if s.rdN Obj.SAMPLE_RATE n = 1 then 96000 else 48000

/-- The rate or the TDM format in force is no longer what its objects say (R314). -/
def State.formatChanged (s : State) (n : Nat) : Bool :=
  s.wantedRate n ≠ s.rdN Obj.AUDIO_RATE_HZ n || s.rdN Obj.TDM_FSYNC_DELAY n ≠ (s.aud n).fsyncDelay
    || s.rdN Obj.TDM_BCLK_EDGE n ≠ (s.aud n).bclkEdge

/-- A stop is asked for: from ACTIVE the sinks step to mute, one step a frame; while STARTING it waits for ACTIVE; a stop for a new format
that is under way goes to OFF instead where the station asks (R314). -/
def State.audioStop (s : State) (n : Nat) (restart : Bool) : State :=
  let st := s.audioState n
  let a := s.aud n
  if st = auActive then
    let s := s.setAud n { a with restart := restart, zeroFrames := 0, newRoute := [] }
    (s.each [20, 21, 22] fun s k => s.aim n k gainMute true).setAudioState n auStopping
  else if st = auStarting then s.setAud n { a with stopWanted := a.stopWanted || !restart, restart := a.restart || restart }
  else if st = auStopping && !restart then s.setAud n { a with restart := false }
  else s

/-- One stage takes what a commit changed: a change of its mux begins phase 1, or goes on towards the latest value; a change of its gain
alone is a new target, and one during a route change waits for phase 3 (R308, R310, R312). -/
def State.stageChange (s : State) (n : Nat) (touched : List Nat) (k : Nat) : State :=
  let a := s.aud n
  let a := { a with blockMuted := a.blockMuted.filter fun q => q ≠ k || !touched.contains k }
  let want := s.wantedRoute n k
  if (a.newRoute.find k).isSome then s.setAud n { a with newRoute := a.newRoute.put k want }
  else if want ≠ a.route.getD k 0 then (s.setAud n { a with newRoute := a.newRoute.put k want }).aim n k gainMute
  else if touched.contains k then (s.setAud n a).aim n k (s.wantedGain n k)
  else s

/-- The changes of a commit begin at this frame: its values become active, the stages it touches change, and a new rate or format stops
the engine (R309, R310, R314). -/
def State.beginChanges (s : State) (n : Nat) (c : AudioCommit) : State :=
  let s := s.applyValues audioRows n c.values
  let s := if s.audioState n = auActive then s.each routedStages fun s k => s.stageChange n c.touched k else s
  if s.formatChanged n then s.audioStop n true else s

/-- The commits made at least 2 µs ago begin their changes, in order (R309). -/
def State.beginDue (s : State) (n : Nat) : State :=
  let a := s.aud n
  let due (c : AudioCommit) : Bool := c.at_ + 2000 ≤ s.time
  (s.setAud n { a with commits := a.commits.filter fun c => !due c }).each (a.commits.filter due) fun s c => s.beginChanges n c

/-- No frame runs from here: what was committed is simply active (R309). -/
def State.flushCommits (s : State) (n : Nat) : State :=
  let a := s.aud n
  (s.setAud n { a with commits := [] }).each a.commits fun s c => s.applyValues audioRows n c.values

/-- Muxes whose gain reached mute in an earlier frame switch, and phase 3 begins (R310). -/
def State.switchRoutes (s : State) (n : Nat) : State :=
  s.each routedStages fun s k =>
    let a := s.aud n
    match a.newRoute.find k with
    | some r =>
      if (a.stage k).present = gainMute then
        let s := s.setAud n { a with route := a.route.put k r, newRoute := a.newRoute.del k }
        if a.blockMuted.contains k then s else s.aim n k (s.wantedGain n k)
      else s
    | none => s

/-- Ducking ranks by mask bit: Alert, Voice, Media, Chime (R303). -/
def duckRank : Nat → Nat
  | 0 => 3
  | 1 => 2
  | 2 => 0
  | _ => 1

/-- The gain target of a bus (R304). -/
def State.busTarget (s : State) (n b : Nat) : Int :=
  let g := s.rd Obj.BUS_GAIN_HDB n b
  let depth := s.rdN Obj.DUCK_DEPTH_HDB n b
  let ducked := (List.range 4).any fun c => duckRank b < duckRank c && s.rdB Obj.BUS_ACTIVE n c
  if g = gainMute || !ducked then g
  else
    let d := g - (depth : Int)
    if -200 ≤ d then d else if Config.duckMutes d then gainMute else -200

/-! ### Sources -/

/-- Bytes of a frame of a stream (R299). -/
def frameBytes : Nat → Nat
  | 0 => 2
  | 1 => 4
  | _ => 8

/-- The frames of a block (R299). -/
def framesOf (format : Nat) (b : Bytes) : List (Int × Int) :=
  let w := frameBytes format
  (List.range (b.length / w)).map fun i =>
    let s16 (o : Nat) : Int := signed 16 (fieldLE b (w * i + o) 2) * 256
    let s32 (o : Nat) : Int := Int.fdiv (signed 32 (fieldLE b (w * i + o) 4)) 256
    match format with
    | 0 => (s16 0, s16 0)
    | 1 => (s16 0, s16 2)
    | _ => (s32 0, s32 4)

/-- A fetch of at most 16 frames is issued where 16 or fewer remain; STREAM_READ passes them (R300). Into an empty FIFO 16 frames of zeros
go first, so that a frame leaves 19 to 35 frames after STREAM_READ passed it (R313). DEDUCED: assumption 158. -/
def State.issueFetch (s : State) (n k : Nat) : State :=
  let a := s.aud n
  let v := a.stream k
  let size := s.rdN Obj.SRC_STREAM_SIZE n k
  let rd := s.rdN Obj.SRC_STREAM_READ n k
  let wr := s.rdN Obj.SRC_STREAM_WRITE n k
  let w := frameBytes (s.rdN Obj.STREAM_FORMAT n k)
  let avail := if size = 0 then 0 else (wr + size - rd) % size
  let len := min (min (16 * w) avail) (size - rd) / w * w
  if v.running && v.fetching.isNone && v.fifo.length ≤ 16 && 0 < len && s.stationState n ≠ stOff then
    let fifo := if v.fifo.isEmpty then List.replicate 16 ((0, 0) : Int × Int) else v.fifo
    let v := { v with fifo := fifo, fetching := some (s.rdN Obj.SRC_STREAM_ADDR n k + rd, len) }
    (s.setAud n (a.setStream k v)).wr Obj.SRC_STREAM_READ (((rd + len) % size : Nat)) n k
  else s

/-- A stream ends: IDLE and AUDIO_DONE (R300). -/
def State.streamDone (s : State) (n k : Nat) : State :=
  let a := s.aud n
  let s := (s.setAud n (a.setStream k {})).setSrc n k 0
  s.audioNote n (s.sourceHolder n k) 0x000D 1 [(k, 4), (s.rdN Obj.SAMPLE_COUNTER n, 32)]

/-- The frame a stream gives; with its last frame a stream that has ended is done (R300, R319). -/
def State.streamFrame (s : State) (n k : Nat) : (Int × Int) × State :=
  let a := s.aud n
  let v := a.stream k
  if !v.running then ((0, 0), s)
  else
    match v.fifo with
    | x :: rest =>
      let s := s.setAud n (a.setStream k { v with fifo := rest, underrun := false })
      let s := if v.underrun then s.setSrc n k 1 else s
      let over_ : Bool := rest.isEmpty && v.fetching.isNone && s.rdB Obj.SRC_STREAM_END n k
        && s.rdN Obj.SRC_STREAM_READ n k = s.rdN Obj.SRC_STREAM_WRITE n k
      (x, if over_ then s.streamDone n k else s)
    | [] =>
      if v.fetching.isSome || s.rdN Obj.SRC_STREAM_READ n k ≠ s.rdN Obj.SRC_STREAM_WRITE n k || s.stationState n = stOff then ((0, 0), s)
      else if s.rdB Obj.SRC_STREAM_END n k then ((0, 0), s.streamDone n k)
      else if v.underrun then ((0, 0), s)
      else
        let s := (s.setAud n (a.setStream k { v with underrun := true })).setSrc n k 2
        let s := s.count Obj.STREAM_UNDERRUNS n k
        ((0, 0), s.audioNote n (s.sourceHolder n k) 0x000E 2 [(k, 4), (s.rdN Obj.SAMPLE_COUNTER n, 32)])

/-- What the fixed-point sine counts in. -/
def sineUnit : Int := 10 ^ 18

/-- π / 2 in sine units. -/
def halfPi : Int := 1570796326794896619

/-- The sine of an angle from 0 to π / 2 in sine units, by its series up to the 23rd power. -/
def sineSeries (x : Int) : Int :=
  let step (acc : Int × Int) (k : Nat) : Int × Int :=
    let t := -(acc.2 * x / sineUnit * x / sineUnit) / ((2 * k + 2) * (2 * k + 3) : Nat)
    (acc.1 + t, t)
  ((List.range 11).foldl step (x, x)).1

/-- The sine of `num / den` of a turn, in sine units. -/
def sineOf (num den : Nat) : Int :=
  let q := 4 * num / den
  let r := 4 * num % den
  let v := sineSeries (halfPi * (if q % 2 = 0 then r else den - r : Nat) / (den : Int))
  if q % 4 < 2 then v else -v

/-- The sample of a tone: its sine at the phase, rounded to a whole count to either side (R301, R307). -/
def State.toneValue (s : State) (n g phase : Nat) : Int :=
  let rate := s.rdN Obj.AUDIO_RATE_HZ n
  let level := s.rd Obj.TG_LEVEL_HDB n g
  let ideal : Rat := 8388608 * gainFactor level * (sineOf phase rate : Rat) / (sineUnit : Rat)
  clampI (Rat.floor ideal) (Rat.ceil ideal) (Config.toneSample phase rate level)

/-- The frame a tone generator gives (R301). -/
def State.toneFrame (s : State) (n g : Nat) : (Int × Int) × State :=
  let a := s.aud n
  let t := a.tone g
  let put (t : Tone) : State := s.setAud n (a.setTone g t)
  let rate := s.rdN Obj.AUDIO_RATE_HZ n
  match t.st with
  | .idle | .off => ((0, 0), s)
  | .starting => ((0, 0), put { t with st := .on, phase := 0, onElapsed := false, since := s.time })
  | .on =>
    let next := t.phase + s.rdN Obj.TG_FREQ_HZ n g
    if next < rate then
      let v := s.toneValue n g next
      ((v, v), put { t with phase := next })
    else if t.stopping then ((0, 0), (put {}).setSrc n (12 + g) 0)
    else if t.onElapsed then
      if !t.forever && t.left = 0 then ((0, 0), (put {}).setSrc n (12 + g) 0)
      else if s.rdN Obj.TG_OFF_MS n g = 0 then
        ((0, 0), put { t with phase := 0, onElapsed := false, left := t.left - 1, since := s.time })
      else ((0, 0), put { t with st := .off, phase := 0, onElapsed := false, since := s.time })
    else
      let v := s.toneValue n g (next - rate)
      ((v, v), put { t with phase := next - rate })

/-- The frame a source gives to its stage; silence for an enclave's source while the secure complex is in reset (R25, R298). -/
def State.sourceFrame (s : State) (n k : Nat) (mic : Int × Int) : (Int × Int) × State :=
  let (x, s) :=
    if k < 12 then s.streamFrame n k
    else if k < 14 then s.toneFrame n (k - 12)
    else ((if k = 14 then (mic.1, mic.1) else (mic.2, mic.2)), s)
  match s.sourceHolder n k with
  | .enclave _ => (if s.isHwReady 2 then x else (0, 0), s)
  | .tenant _ | .manager | .nobody => (x, s)

/-! ### A frame -/

/-- Full scale of a sink (R294). -/
def fullScale : Int := 8388607

/-- The level a bus must reach to be active (R304). -/
def State.duckLevel (s : State) (n : Nat) : Int := Rat.ceil (8388608 * gainFactor (2 * s.rd Obj.DUCK_THRESHOLD_DBFS n))

/-- One stage of the graph runs on its input. -/
def State.runStage (s : State) (n k : Nat) (x : Int × Int) : (Int × Int) × State :=
  let a := s.aud n
  let (g, l, r) := (a.stage k).run (s.stepFrames n) a.frame x.1 x.2
  let s := s.setAud n (a.setStage k g)
  ((l, r), if k < 16 then s.wr Obj.SRC_GAIN_NOW g.present n k else s)

/-- Sum of two frames. -/
def addFrame (a b : Int × Int) : Int × Int := (a.1 + b.1, a.2 + b.2)

/-- A sink's sample saturates, and is counted (R294). -/
def State.saturate (s : State) (n k : Nat) (x : Int) : Int × State :=
  let v := clampI (-fullScale) fullScale x
  (v, if v ≠ x then s.count Obj.SINK_CLIPPED n k else s)

/-- The graph of one frame: sources, buses, sinks (R293, R304, R305). Answers the three sinks' frames. -/
def State.graph (s : State) (n : Nat) (mic : Int × Int) : List (Int × Int) × State :=
  let s := s.each (List.range 4) fun s b => s.aim n (16 + b) (s.busTarget n b)
  let (src, s) := (List.range 16).foldl (fun (acc : List (Nat × (Int × Int)) × State) k =>
    let (x, s) := acc.2.sourceFrame n k mic
    let (y, s) := s.runStage n k x
    (acc.1 ++ [((s.aud n).route.getD k 0, y)], s)) ([], s)
  let (bus, s) := (List.range 4).foldl (fun (acc : List (Int × Int) × State) b =>
    let sum := (src.filter fun q => q.1 = b + 1).foldl (fun t q => addFrame t q.2) (0, 0)
    let s := acc.2
    let hit : Bool := s.duckLevel n ≤ sum.1.natAbs || s.duckLevel n ≤ sum.2.natAbs
    let s := if hit then (s.setAud n { s.aud n with lastHit := (s.aud n).lastHit.put b s.time }).wr Obj.BUS_ACTIVE 1 n b else s
    let (y, s) := s.runStage n (16 + b) sum
    (acc.1 ++ [y], s)) ([], s)
  (List.range 3).foldl (fun (acc : List (Int × Int) × State) k =>
    let mask := (acc.2.aud n).route.getD (20 + k) 0
    let sum := (maskBits 4 mask).foldl (fun t b => addFrame t (bus.getD b (0, 0))) (0, 0)
    let (y, s) := acc.2.runStage n (20 + k) sum
    let (l, s) := s.saturate n k y.1
    let (r, s) := s.saturate n k y.2
    (acc.1 ++ [(l, r)], s)) ([], s)

/-- The holder of the mix right (R306, R318). -/
def State.mixHolder (s : State) (n : Nat) : Holder :=
  match tenants.find? (fun t => s.hasRight t n 4) with
  | some t => .tenant t
  | none => .manager

/-- The oldest block of LOOP is written, or dropped where `LOOP_WRITE` would reach `LOOP_READ` or the ring lies outside the windows
(R306). -/
def State.loopWrite (s : State) (n : Nat) : State :=
  let a := s.aud n
  match a.loopBlocks with
  | [] => s
  | b :: rest =>
    if !s.memServes n then s else
    let s := s.setAud n { a with loopBlocks := rest }
    let h := s.mixHolder n
    let size := s.rdN Obj.LOOP_SIZE n
    let wr := s.rdN Obj.LOOP_WRITE n
    let rd := s.rdN Obj.LOOP_READ n
    let addr := s.rdN Obj.LOOP_ADDR n + wr
    let d := if size = 0 then 0 else (rd + size - wr) % size
    let room := if d = 0 then size else d
    if room ≤ 128 then
      let s := s.count Obj.LOOP_OVERRUNS n
      if a.loopEpisode then s
      else (s.setAud n { s.aud n with loopEpisode := true }).audioNote n h 0x0010 2 [(s.rdN Obj.SAMPLE_COUNTER n, 32)]
    else if !s.inside h n 2 addr 128 then s
    else
      let bytes := b.flatMap fun x => toLE 4 (unsigned 32 (x.1 * 256)) ++ toLE 4 (unsigned 32 (x.2 * 256))
      ((s.setAud n { s.aud n with loopEpisode := false }).writeTagged n addr bytes h.tag).wr Obj.LOOP_WRITE
        (((wr + 128) % size : Nat)) n

/-- LOOP gathers frames into blocks of 16 while it is enabled and the station shows its stack; a block is written by the fourth frame after
its last, so that `LOOP_WRITE` passes a sample within 20 frames (R306, R313, R315). -/
def State.loopFrame (s : State) (n : Nat) (x : Int × Int) : State :=
  let a := s.aud n
  if !s.rdB Obj.LOOP_ENABLE n || !s.touchReports n then s.setAud n { a with loopBuf := [] }
  else
    let buf := a.loopBuf ++ [x]
    if buf.length < 16 then
      let s := s.setAud n { a with loopBuf := buf }
      if 4 ≤ buf.length then s.loopWrite n else s
    else s.setAud n { a with loopBuf := [], loopBlocks := a.loopBlocks ++ [buf] }

/-- A slot of the TDM frame: the 24-bit sample in bits 31:8, zeros below (R296). -/
def tdmWord (x : Int) : Nat := unsigned 32 (x * 256)

/-- A frame of four samples goes out on the TDM port in the format in force (R296). -/
def State.sendTdm (s : State) (n : Nat) (x : List Int) : State := s.emit (.tdm n (s.aud n).fsyncDelay (s.aud n).bclkEdge (x.map tdmWord))

/-- The output frame of three frames ago leaves, or zeros (R313). -/
def State.sendFrame (s : State) (n : Nat) (x : List Int) : State :=
  let a := s.aud n
  let q := a.outDelay ++ [x]
  if q.length ≤ 3 then (s.setAud n { a with outDelay := q }).sendTdm n [0, 0, 0, 0]
  else (s.setAud n { a with outDelay := q.drop 1 }).sendTdm n (q.headD [])

/-- AUDIO_FRAME: one sample period, with the input slots 0 and 1 as 32-bit words (R293 to R315). -/
def execAudioFrame (n : Fin 8) (mic0 mic1 : Nat) (s : State) : Host.Outcome State Fault Refusal :=
  .next (
    if s.audioState n = auOff || (s.aud n).clockStopped then s
    else
      let s := (s.advance Obj.SAMPLE_COUNTER n).beginDue n
      let st := s.audioState n
      let a := s.aud n
      if st = auStarting then (s.setAud n { a with frame := a.frame + 1, zeroFrames := a.zeroFrames + 1 }).sendTdm n [0, 0, 0, 0]
      else
        let mics := (s.aud n).micDelay ++ [(Int.fdiv (signed 32 mic0) 256, Int.fdiv (signed 32 mic1) 256)]
        let mic := if mics.length ≤ 2 then (0, 0) else mics.headD (0, 0)
        let s := s.setAud n { s.aud n with micDelay := if mics.length ≤ 2 then mics else mics.drop 1 }
        let (out, s) := s.graph n mic
        let spk := out.getD 0 (0, 0)
        let aux := out.getD 1 (0, 0)
        let s := s.sendFrame n [spk.1, spk.2, aux.1, aux.2]
        let s := s.loopFrame n (out.getD 2 (0, 0))
        let s := s.each (List.range 12) fun s k => s.issueFetch n k
        let silent := [20, 21, 22].all fun k => ((s.aud n).stage k).present = gainMute
        let a := s.aud n
        let s := s.setAud n { a with frame := a.frame + 1,
                                     zeroFrames := if st = auStopping && silent then a.zeroFrames + 1 else a.zeroFrames }
        s.switchRoutes n)

/-- GAIN_FORCED_REGIME: T frames after its change began a stage steps in every frame (R307). -/
def execGainForcedRegime (n : Fin 8) (stage : Fin 23) (s : State) : Host.Outcome State Fault Refusal :=
  .next (
    let a := s.aud n
    let g := a.stage stage
    if g.target ≠ g.present && g.start + s.stepFrames n ≤ a.frame then s.setAud n (a.setStage stage { g with forced := true }) else s)

/-! ### Commit -/

/-- AUDIO_COMMIT: the shadows are taken, and become active with the first frame at least 2 µs later, or at once where no frame runs
(R309). -/
def execAudioCommit (who : Requester) (n : Fin 8) (v : Nat) (s : State) : Host.Outcome State Fault Refusal :=
  .next (s.onWrite who Obj.AUDIO_COMMIT v n 0 512 0 fun s =>
    if v = 0 then s.answer .ok
    else s.guarded (s.needStReady n 9) fun s =>
      let touched := (List.range 16).filter (fun k => (s.shadow.find (Obj.SRC_GAIN_HDB.key n k 512 0)).isSome)
        ++ ((List.range 3).filter (fun k => (s.shadow.find (Obj.SINK_GAIN_HDB.key n k 512 0)).isSome)).map (20 + ·)
      let c : AudioCommit := { at_ := s.time, values := s.commitValues audioRows n, touched := touched }
      let s := audioRows.foldl (fun (s : State) r => (List.range r.cnt).foldl (fun (s : State) i => s.dropShadow r n i) s) s
      let a := s.aud n
      let s := s.setAud n { a with commits := a.commits ++ [c] }
      (if s.audioState n = auOff || a.clockStopped then s.flushCommits n else s).answer .ok)

/-! ### Streams -/

/-- A stream stops, as STREAM_STOP does (R300). -/
def State.stopStream (s : State) (n k : Nat) : State :=
  if ((s.aud n).stream k).running then (s.streamDone n k).aim n k gainMute true else s

/-- STREAM_START (R300); tenant sources stay stopped in FAULT and MEMORY_FAULT (R30, R315). -/
def execStreamStart (who : Requester) (n : Fin 8) (k : Fin 12) (v : Nat) (s : State) : Host.Outcome State Fault Refusal :=
  .next (s.onWrite who Obj.STREAM_START v n k 512 0 fun s =>
    if v = 0 then s.answer .ok
    else s.guarded (s.needStReady n 9) fun s =>
      let a := s.aud n
      if !s.touchReports n then s.answer (.refused 8)
      else if (a.stream k).running then s.answer .ok
      else
        let s := (s.setAud n (a.setStream k { running := true })).setSrc n k 1
        let s := if (a.newRoute.find k).isSome || a.blockMuted.contains k then s else s.aim n k (s.wantedGain n k)
        (s.issueFetch n k).answer .ok)

/-- STREAM_STOP (R300). -/
def execStreamStop (who : Requester) (n : Fin 8) (k : Fin 12) (v : Nat) (s : State) : Host.Outcome State Fault Refusal :=
  .next (s.onWrite who Obj.STREAM_STOP v n k 512 0 fun s => (if v = 1 then s.stopStream n k else s).answer .ok)

/-- AUDIO_STREAM_FETCH: the fetch that the source issued is answered (R300). -/
def execAudioStreamFetch (n : Fin 8) (k : Fin 12) (s : State) : Host.Outcome State Fault Refusal :=
  .next (
    let a := s.aud n
    let v := a.stream k
    match v.fetching with
    | none => s
    | some (addr, len) =>
      if !s.memServes n then s else
      let h := s.sourceHolder n k
      let format := s.rdN Obj.STREAM_FORMAT n k
      if !s.inside h n 1 addr len then
        let s := (s.setAud n (a.setStream k {})).setSrc n k 0
        s.audioNote n h 0x000F 2 [(k, 4), (2, 4)]
      else if s.isPoisoned n addr len then
        let zeros := List.replicate 16 ((0, 0) : Int × Int)
        let s := s.setAud n (a.setStream k { v with fetching := none, fifo := v.fifo ++ zeros })
        s.audioNote n h 0x000F 2 [(k, 4), (1, 4)]
      else
        let b := s.readTagged n addr len h.tag
        (s.noteTag n addr len h.tag).setAud n (a.setStream k { v with fetching := none, fifo := v.fifo ++ framesOf format b }))

/-! ### Tones -/

/-- TG_START (R301). -/
def execTgStart (who : Requester) (n : Fin 8) (g : Fin 2) (v : Nat) (s : State) : Host.Outcome State Fault Refusal :=
  .next (s.onWrite who Obj.TG_START v n g 512 0 fun s =>
    if v = 0 then s.answer .ok
    else s.guarded (s.needStReady n 9) fun s =>
      let a := s.aud n
      let r := s.rdN Obj.TG_REPEAT n g
      let k := 12 + (g : Nat)
      let s := (s.setAud n (a.setTone g { st := .starting, left := r, forever := r = 0 })).setSrc n k 1
      (if (a.newRoute.find k).isSome || a.blockMuted.contains k then s else s.aim n k (s.wantedGain n k)).answer .ok)

/-- A tone ends at its next phase-0 frame (R301). -/
def State.stopTone (s : State) (n g : Nat) : State :=
  let a := s.aud n
  let t := a.tone g
  match t.st with
  | .idle => s
  | .on => s.setAud n (a.setTone g { t with stopping := true })
  | .starting | .off => (s.setAud n (a.setTone g {})).setSrc n (12 + g) 0

/-- TG_STOP (R301). -/
def execTgStop (who : Requester) (n : Fin 8) (g : Fin 2) (v : Nat) (s : State) : Host.Outcome State Fault Refusal :=
  .next (s.onWrite who Obj.TG_STOP v n g 512 0 fun s => (if v = 1 then s.stopTone n g else s).answer .ok)

/-- TONE_ON_ELAPSED: TG_ON_MS has passed in an on-period (R301). -/
def execToneOnElapsed (n : Fin 8) (g : Fin 2) (s : State) : Host.Outcome State Fault Refusal :=
  .next (
    let a := s.aud n
    let t := a.tone g
    if t.st = .on && t.since + s.rdN Obj.TG_ON_MS n g * 1000000 ≤ s.time then s.setAud n (a.setTone g { t with onElapsed := true }) else s)

/-- TONE_OFF_ELAPSED: TG_OFF_MS has passed in an off-period (R301). -/
def execToneOffElapsed (n : Fin 8) (g : Fin 2) (s : State) : Host.Outcome State Fault Refusal :=
  .next (
    let a := s.aud n
    let t := a.tone g
    if t.st = .off && t.since + s.rdN Obj.TG_OFF_MS n g * 1000000 ≤ s.time then s.setAud n (a.setTone g { t with st := .starting, left := t.left - 1 }) else s)

/-- BUS_ACTIVITY_EXPIRED: DUCK_HOLD_MS has passed since the bus last reached the threshold (R304). -/
def execBusActivityExpired (n : Fin 8) (b : Fin 4) (s : State) : Host.Outcome State Fault Refusal :=
  .next (
    if s.rdB Obj.BUS_ACTIVE n b && (s.aud n).lastHit.getD b 0 + s.rdN Obj.DUCK_HOLD_MS n * 1000000 ≤ s.time then
      s.wr Obj.BUS_ACTIVE 0 n b
    else s)

/-! ### LOOP -/

/-- LOOP_BLOCK_WRITE: the oldest block that LOOP has gathered is written (R306). -/
def execLoopBlockWrite (n : Fin 8) (s : State) : Host.Outcome State Fault Refusal := .next (s.loopWrite n)

/-! ### Engine states -/

/-- The clocks start: the rate in force follows the object, and zeros are sent (R314). -/
def State.audioClocks (s : State) (n : Nat) : State :=
  let s := s.wr Obj.AUDIO_RATE_HZ (s.wantedRate n : Nat) n
  (s.setAud n { s.aud n with zeroFrames := 0, clockStopped := false, restart := false, outDelay := [], micDelay := [], loopBuf := [],
                             frame := 0, fsyncDelay := s.rdN Obj.TDM_FSYNC_DELAY n,
                             bclkEdge := s.rdN Obj.TDM_BCLK_EDGE n }).setAudioState n auStarting

/-- The audio function is released or ungated, or the station leaves SLEEP (R314). -/
def State.audioOn (s : State) (n : Nat) : State :=
  let st := s.stationState n
  if s.audioState n = auOff && (st = stStarting || st = stRunning) then s.audioClocks n else s

/-- AUDIO_START_DONE: 64 frames of zeros have been sent (R314). -/
def execAudioStartDone (n : Fin 8) (s : State) : Host.Outcome State Fault Refusal :=
  .next (
    let a := s.aud n
    if s.audioState n = auStarting && 64 ≤ a.zeroFrames then
      let mute : FMap Nat Stage := (List.range 23).map fun k => (k, {})
      let routes : FMap Nat Nat := routedStages.map fun k => (k, s.wantedRoute n k)
      let s := s.setAud n { a with stages := mute, route := routes, newRoute := [], zeroFrames := 0, stopWanted := false, restart := false }
      let s := s.each routedStages fun s k => if a.blockMuted.contains k then s else s.aim n k (s.wantedGain n k)
      let s := s.setAudioState n auActive
      if a.stopWanted then s.audioStop n false else if a.restart then s.audioStop n true else s
    else s)

/-- A reset of STATION reach: clocks stopped at once (R314). -/
def State.audioReset (s : State) (n : Nat) : State :=
  let s := s.setAud n {}
  let s := s.each (List.range 16) fun s k => (s.wr Obj.SRC_STATE 0 n k).wr Obj.SRC_GAIN_NOW gainMute n k
  let s := s.each (List.range 4) fun s b => s.wr Obj.BUS_ACTIVE 0 n b
  ((s.wr Obj.AUDIO_STATE auOff n).wr Obj.SAMPLE_COUNTER 0 n).stReady n 9 false

/-- The objects that an engine in STOPPING still works by when its station has entered OFF (R314). -/
def closingRows : List ObjRow := [Obj.AUDIO_RATE_HZ, Obj.SAMPLE_COUNTER, Obj.TG_FREQ_HZ, Obj.TG_LEVEL_HDB]

/-- The values of the closing rows. -/
def State.closingValues (s : State) (n : Nat) : List (ObjRow × Nat × Int) :=
  closingRows.flatMap fun r => (List.range r.cnt).map fun i => (r, i, s.rd r n i)

/-- An engine that was stopping as its station entered OFF goes on to its end: its sinks still step to mute, what it holds of the streams
plays on, and nothing more is fetched (R314). DESIGN CHOICE: assumption 159. -/
def State.closingAudio (s : State) (n st : Nat) (a : Audio) (l : List (ObjRow × Nat × Int)) : State :=
  let s := s.each l fun s v => s.wr v.1 v.2.2 n v.2.1
  let streams := a.streams.map fun v => (v.1, { v.2 with fetching := none, underrun := false })
  (s.setAud n { a with streams := streams }).setAudioState n st

/-- The engine of an OFF station has stopped: its reset values, its pins low. -/
def State.closedAudio (s : State) (n : Nat) : State :=
  let s := (s.setAudioState n auOff).audioReset n
  s.each closingRows fun s r => s.each (List.range r.cnt) fun s i => s.toDefault r n i

/-- AUDIO_STOP_DONE: the sinks are at mute and 64 frames of zeros have passed (R314). -/
def execAudioStopDone (n : Fin 8) (s : State) : Host.Outcome State Fault Refusal :=
  .next (
    let a := s.aud n
    if s.audioState n = auStopping && 64 ≤ a.zeroFrames then
      if a.restart then
        ((s.setAud n { a with clockStopped := true, stoppedAt := s.time, zeroFrames := 0 }).flushCommits n).setAudioState n auStarting
      else if s.stationState n = stOff then s.closedAudio n
      else ((s.setAud n { a with zeroFrames := 0 }).flushCommits n).setAudioState n auOff
    else s)

/-- AUDIO_CLOCK_RESTART: after the stop of 1 ms the new rate or format applies (R314). -/
def execAudioClockRestart (n : Fin 8) (s : State) : Host.Outcome State Fault Refusal :=
  .next (
    let a := s.aud n
    if s.audioState n = auStarting && a.clockStopped && a.stoppedAt + 1000000 ≤ s.time then s.audioClocks n else s)

/-- A stage's present and target gain go to mute without stepping (R315, R317). -/
def State.hardMute (s : State) (n k : Nat) : State :=
  let a := s.aud n
  (s.setAud n (a.setStage k { a.stage k with present := gainMute, target := gainMute })).wr Obj.SRC_GAIN_NOW gainMute n k

/-- The station enters FAULT or MEMORY_FAULT (R315). -/
def State.audioFault (s : State) (n : Nat) : State :=
  let s := s.each (List.range 12) fun s k =>
    let a := s.aud n
    ((s.setAud n (a.setStream k {})).setSrc n k 0).hardMute n k
  s.setAud n { s.aud n with loopBuf := [], loopBlocks := [] }

/-- The stream and tone objects of a source return to their defaults (R316, R317). -/
def State.sourceDefaults (s : State) (n k : Nat) : State :=
  if k < 12 then
    [Obj.SRC_STREAM_ADDR, Obj.SRC_STREAM_SIZE, Obj.STREAM_FORMAT, Obj.SRC_STREAM_WRITE, Obj.SRC_STREAM_READ, Obj.SRC_STREAM_END,
     Obj.STREAM_UNDERRUNS].foldl (fun (s : State) r => s.toDefault r n k) s
  else if k < 14 then
    [Obj.TG_FREQ_HZ, Obj.TG_LEVEL_HDB, Obj.TG_ON_MS, Obj.TG_OFF_MS, Obj.TG_REPEAT].foldl (fun (s : State) r => s.toDefault r n (k - 12)) s
  else s

/-- A SLICE reset of a tenant, or of its port, at a station (R316). -/
def State.audioRevoke (s : State) (n t : Nat) : State :=
  s.each ((List.range 14).filter fun k => s.normalHolder ⟨n, .source, k⟩ = .tenant t && s.isNormal ⟨n, .source, k⟩) fun s k =>
    (if k < 12 then s.stopStream n k else s.stopTone n (k - 12)).sourceDefaults n k

/-- The BLOCK reset of a source (R317). -/
def State.sourceReset (s : State) (n k : Nat) : State :=
  let a := s.aud n
  let a : Audio := if k < 12 then a.setStream k {} else if k < 14 then a.setTone (k - 12) {} else a
  let kept (v : Nat × Nat × Nat × Int) : Bool := audioRows[v.1]? ≠ some Obj.SRC_GAIN_HDB || v.2.1 ≠ k
  let commits := a.commits.map fun c => { c with values := c.values.filter kept, touched := c.touched.filter (· ≠ k) }
  let s := s.setAud n { a with commits := commits, blockMuted := (a.blockMuted ++ [k]).eraseDups }
  ((s.hardMute n k).sourceDefaults n k).dropShadow Obj.SRC_GAIN_HDB n k

end Sys2Proof.Machine
end

