-- ==== Sys2Proof/Machine/DisplayCommands.lean ====
section
/-! DEFINITION. The commands of composition, the guard engine's latches, timing and the output, apart from those that can take
the station to FAULT or reach the raster engine (R122 to R217). -/
namespace Sys2Proof.Machine

/-- A commit's answer: OK where it was accepted, REFUSED with DETAIL 8 where its function refused it (R469). -/
def commitAnswer (r : State × Bool) : State := r.1.answer (if r.2 then .ok else .refused 8)

/-- A write of `LAYER_COMMIT` (R122, R469). A write of 0 is ignored. `named` are the guard sets of another entry that arms in the same
cycle (R467). -/
def State.writeLayerCommit (s : State) (who : Requester) (n mask : Nat) (named : Nat := 0) : State :=
  s.onWrite who Obj.LAYER_COMMIT mask n 0 512 0 fun s =>
    s.guarded (s.needStReady n 3) fun s => if mask = 0 then s.answer .ok else commitAnswer (s.layerCommit n who mask named)

/-- A write of `GUARD_COMMIT` (R163, R469). -/
def State.writeGuardCommit (s : State) (who : Requester) (n mask : Nat) (named : Nat := 0) : State :=
  s.onWrite who Obj.GUARD_COMMIT mask n 0 512 0 fun s =>
    s.guarded (s.needStReady n 4) fun s => if mask = 0 then s.answer .ok else commitAnswer (s.guardCommit n who mask named)

/-- LAYER_COMMIT, by dictionary or by the doorbell page (R122, R373). -/
def execLayerCommit (via : Via) (n : Fin 8) (mask : Nat) (s : State) : Host.Outcome State Fault Refusal :=
  .next (match via with
    | .dict who => s.writeLayerCommit who n mask
    | .page p t => s.onStationPage p t n fun s =>
        let m := bits 16 0 mask
        if (maskBits 16 m).all (fun l => bit l (s.rdN Obj.LAYER_MASK 0 n t)) && (!bit 16 m || s.hasRight t n 2) then
          if m = 0 || !s.isStReady n 3 then s else (s.layerCommit n (.tenant t) m).1
        else s.spoof t 4 n)

/-- GUARD_COMMIT, by dictionary or by the doorbell page (R163, R373). -/
def execGuardCommit (via : Via) (n : Fin 8) (mask : Nat) (s : State) : Host.Outcome State Fault Refusal :=
  .next (match via with
    | .dict who => s.writeGuardCommit who n mask
    | .page p t => s.onStationPage p t n fun s =>
        let m := bits 31 0 mask
        if (maskBits 32 m).all (fun g => bit g (s.rdN Obj.GUARD_MASK 0 n t)) then
          if m = 0 || !s.isStReady n 4 then s else (s.guardCommit n (.tenant t) m).1
        else s.spoof t 5 n)

/-- BOUNDARY_LATCH: the latch, after which the next boundary is published and jobs take it as their target (R83, R86, R126, R202). -/
def execBoundaryLatch (n : Fin 8) (s : State) : Host.Outcome State Fault Refusal := .next (((s.boundaryLatch n).retarget n).settle n)

/-- FIX_POINT (R132, R201). -/
def execFixPoint (n : Fin 8) (s : State) : Host.Outcome State Fault Refusal :=
  .next (if s.fixPointDue n then s.fixPointHere n else s)

/-- COMPOSE_LINE: `parity` lists the region and segment of the reference entries whose parity failed on this read (R143,
R162). -/
def execComposeLine (n : Fin 8) (parity : List (Nat × Nat)) (s : State) : Host.Outcome State Fault Refusal :=
  .next (s.composeLine n parity)

/-- LAYER_FETCH_COMPLETE: `len` bytes from an address of layer `l`'s buffer, for the active set or ahead of a latch for the armed
set (R138 to R140). -/
def execLayerFetchComplete (n : Fin 8) (l : Fin 16) (addr len : Nat) (forArmed : Bool) (s : State) :
    Host.Outcome State Fault Refusal := .next (s.layerFetched n l addr len forArmed)

/-- FREEZE_NOMINAL_TICK (R209). -/
def execFreezeNominalTick (n : Fin 8) (s : State) : Host.Outcome State Fault Refusal := .next (s.freezeTick n)

/-- MODE_COMMIT (R215). -/
def execModeCommit (who : Requester) (n : Fin 8) (v : Nat) (s : State) : Host.Outcome State Fault Refusal :=
  .next (s.onWrite who Obj.MODE_COMMIT v n 0 512 0 fun s =>
    if v = 1 then s.guarded (s.needStReady n 2) fun s => s.modeCommit n who else s.answer .ok)

/-- PIXEL_PLL_LOCK: the generator starts on the new sets; the output goes on in ACTIVE or through DETECT (R211, R215). -/
def execPixelPllLock (n : Fin 8) (s : State) : Host.Outcome State Fault Refusal :=
  .next (
    let d := s.dsp n
    if !d.modeHeld then s
    else
      let s := s.applyMode n
      let s := s.setDsp n { s.dsp n with frameOver := true, line := 0 }
      if s.output n = outModeChange then
        if d.modeStaysActive then (s.setOutput n outActive).emit (.link n "new MSA")
        else s.enterDetect n
      else s)

/-- HPD_PLUG: HPD high for 2 ms starts the DPCD and EDID read (R211). -/
def execHpdPlug (n : Fin 8) (s : State) : Host.Outcome State Fault Refusal :=
  .next (
    let d := s.dsp n
    if s.output n = outDetect then
      ((s.setDsp n { d with hpd := true, reading := true }).count Obj.HOTPLUG_EVENTS n).emit (.link n "read DPCD and EDID")
    else s.setDsp n { d with hpd := true })

/-- SINK_READ_DONE: what the sink reports, or none where the AUX read failed (R211). -/
def execSinkReadDone (n : Fin 8) (info : Option SinkInfo) (s : State) : Host.Outcome State Fault Refusal :=
  .next (
    let d := s.dsp n
    if s.output n ≠ outDetect || !d.reading then s
    else
      let s := s.setDsp n { d with reading := false }
      match info with
      | none => s.startTimer (.auxRetry n)
      | some i =>
        let s := s.setDsp n { s.dsp n with sinkKnown := true, sinkConfigs := i.configs, retries := 0 }
        ((((s.wrBlob Obj.SINK_EDID i.edid n).wr Obj.SINK_CAPS ((i.caps % 2 ^ 32 : Nat)) n).wr Obj.SINK_VRR_MIN_HZ
          ((min i.vrrMin 144 : Nat)) n).judgeSink n))

/-- A delay of an object in milliseconds has passed. -/
def State.passedMs (s : State) (k : Timer) (r : ObjRow) (n : Nat) : Bool := s.passed k (s.rdN r n * 1000000)

/-- AUX_RETRY_TIMER: `LINK_RETRY_INTERVAL` after a failed read it is retried (R211). -/
def execAuxRetryTimer (n : Fin 8) (s : State) : Host.Outcome State Fault Refusal :=
  .next (
    let d := s.dsp n
    if s.output n = outDetect && d.hpd && !d.reading && s.passedMs (.auxRetry n) Obj.LINK_RETRY_INTERVAL n then
      (s.setDsp n { d with reading := true }).emit (.link n "read DPCD and EDID")
    else s)

/-- LINK_TRAINING_DONE: `trains` are the configurations on which training succeeds. The first of them in the order of R195, the present one
first in a retraining, is used; where none is, every one tried has failed (R211). An eDP link is trained only with its panel on (R217). -/
def execLinkTrainingDone (n : Fin 8) (trains : List (Nat × Nat)) (s : State) : Host.Outcome State Fault Refusal :=
  .next (
    let d := s.dsp n
    if s.output n ≠ outTraining || (s.rdN Obj.OUTPUT_KIND n = 1 && d.panel < 2) then s
    else match (s.trainingOrder n).find? fun c => trains.contains c with
      | some c => ((s.setDsp n { d with retries := 0 }).wr Obj.LINK_CONFIG ((linkWord (s.linkGet n) c : Nat)) n).setOutput n outActive
      | none =>
        (((s.wr Obj.LINK_CONFIG 0 n).count Obj.TRAINING_FAILS n).setOutput n outLinkFail 2).alarm 8 1 n 2)

/-- LINK_RETRY_TIMER: `LINK_RETRY_INTERVAL` after a failure the DETECT judgement is repeated within the limit (R211). -/
def execLinkRetryTimer (n : Fin 8) (s : State) : Host.Outcome State Fault Refusal :=
  .next (
    let d := s.dsp n
    let limit := s.rdN Obj.LINK_RETRY_LIMIT n
    if s.output n = outLinkFail && (limit = 0 || d.retries < limit) && s.passedMs (.linkRetry n) Obj.LINK_RETRY_INTERVAL n then
      ((s.setDsp n { d with retries := d.retries + 1 }).startTimer (.linkRetry n)).judgeSink n
    else s)

/-- HPD_IRQ: the sink's status is read; lost lane status retrains the link (R211, R212). -/
def execHpdIrq (n : Fin 8) (lanesLost : Bool) (s : State) : Host.Outcome State Fault Refusal :=
  .next (
    let s := (s.stationEvent (.hpdIrq n) n).emit (.link n "read service-IRQ and link status")
    if lanesLost && s.output n = outActive then
      let s := s.setDsp n { s.dsp n with video := false }
      (s.count Obj.OUT_RETRAINS n).setOutput n outTraining
    else s)

/-- HPD_UNPLUG: HPD low for more than 2 ms (R211 to R213). -/
def execHpdUnplug (n : Fin 8) (s : State) : Host.Outcome State Fault Refusal :=
  .next (
    let d := s.dsp n
    let was := s.output n
    let s := s.setDsp n { d with hpd := false, reading := false, sinkKnown := false }
    if was = outActive || was = outTraining || was = outSelfRefresh || was = outLinkFail then
      let s := s.leaveRefresh n
      let s := s.setDsp n { s.dsp n with video := false }
      (((s.wr Obj.LINK_CONFIG 0 n).setOutput n outDetect 3).count Obj.SINK_LOSSES n |>.alarm 7 1 n 3).emit
        (.link n "main link to electrical idle")
    else s)

/-- PSR_WAKE_ELAPSED: the fix point falls at the first line start at which `PSR_WAKE_US` has passed since the end event (R207). -/
def execPsrWakeElapsed (n : Fin 8) (s : State) : Host.Outcome State Fault Refusal :=
  .next (
    let d := s.dsp n
    match d.endEvent with
    | none => s
    | some t =>
      if d.psrStopped && d.counting && !d.frameOver && !d.boundaryPending && s.stationState n = stRunning && s.earliestFix n ≤ d.line
          && t + s.rdN Obj.PSR_WAKE_US n * 1000 ≤ s.time then
        let s := s.setDsp n { d with psrStopped := false, video := true, stretchable := true }
        ((s.setOutput n outActive).fixPointHere n)
      else s)

/-- PANEL_ON_DELAY: the link of an eDP panel may be trained (R217). -/
def execPanelOnDelay (n : Fin 8) (s : State) : Host.Outcome State Fault Refusal :=
  .next (
    let d := s.dsp n
    if d.panel = 1 && s.passedMs (.panel n) Obj.PANEL_ON_DELAY_MS n then s.setDsp n { d with panel := 2 } else s)

/-- BL_ON_DELAY: after the first frame BL_EN is driven high (R217). -/
def execBlOnDelay (n : Fin 8) (s : State) : Host.Outcome State Fault Refusal :=
  .next (
    let d := s.dsp n
    if d.panel = 2 && d.firstFrameSent && s.passedMs (.backlight n) Obj.BL_ON_DELAY_MS n then
      (s.setDsp n { d with panel := 3 }).drive 3 true n |>.wave 4 true n
    else s)

/-- PANEL_POWER_DOWN_DELAY: each delay of the power-down in turn; the link stops after the first and PANEL_EN goes low after the
second (R217). -/
def execPanelPowerDownDelay (n : Fin 8) (s : State) : Host.Outcome State Fault Refusal :=
  .next (
    let d := s.dsp n
    if d.panel = 4 && s.passedMs (.panel n) Obj.BL_ON_DELAY_MS n then
      ((s.setDsp n { d with panel := 5 }).startTimer (.panel n)).emit (.link n "main link off")
    else if d.panel = 5 && s.passedMs (.panel n) Obj.PANEL_ON_DELAY_MS n then (s.setDsp n { d with panel := 0 }).drive 5 false n
    else s)

end Sys2Proof.Machine
end

