-- ==== Sys2Proof/Machine/StationMachine.lean ====
section
/-! DEFINITION. The states of a station and what moving between them does to its functions (R29 to R34, R137, R349, R577, R580,
R586). -/
namespace Sys2Proof.Machine

/-! ### Groups of saved objects -/

/-- The group of an object (R488). -/
def OKey.group (k : OKey) : Nat := k.area * 16 + k.block

/-- The schema version the running firmware expects for a group (R488). -/
def State.schemaOf (s : State) (g : Nat) : Nat := fieldLE (s.blob Obj.SCHEMA_VERSIONS) (2 * g) 2

/-- The latest complete record of a group, where R491 loads its values. -/
def State.groupRecord (s : State) (g : Nat) : Option GroupRec :=
  (s.settings.flash.find g).filter fun r => r.good && r.schema = s.schemaOf g

/-- The value a COLD or WARM release gives a saved object: that of its group's record, else its default (R491). -/
def State.savedValue (s : State) (r : ObjRow) (n : Nat := 0) (i : Nat := 0) (t : Nat := 512) (j : Nat := 0) : Int :=
  let k := r.key n i t j
  match s.groupRecord k.group with
  | some g => ((g.vals.find? fun v => v.1 = k).map (·.2)).getD (r.dflt i j)
  | none => r.dflt i j

/-- The safe store's content in settings flash (R176). -/
def State.savedSafe (s : State) (n : Nat) : Bytes :=
  let k := Obj.SAFE_STORE.key n 0 512 0
  match s.groupRecord k.group with
  | some g => ((g.blobs.find? fun v => v.1 = k).map (·.2)).getD []
  | none => []

/-- The safe store takes a content as it stands in flash; this is no change of settings (R176, R177). -/
def State.loadSafe (s : State) (n : Nat) (b : Bytes) : State :=
  let st := if b = [] then ssEmpty else safeCheck b
  let s : State := { s with blobs := if b = [] then s.blobs.del (Obj.SAFE_STORE.key n 0 512 0) else s.blobs.put (Obj.SAFE_STORE.key n 0 512 0) b }
  (s.wr Obj.SAFE_STORE_STATE (st : Nat) n).stReady n 5 (st = ssValid)

/-! ### Blocks and gates -/

/-- The blocks of a station of one kind. -/
def blocksOf (n : Nat) (k : BlockKind) : List Block := (List.range k.number).map fun i => ⟨n, k, i⟩

/-- Some block of a kind is not NORMAL (R407). -/
def State.kindHeld (s : State) (n : Nat) (k : BlockKind) : Bool := (blocksOf n k).any fun b => !s.isNormal b

/-- Some block of the station is not NORMAL (R407). -/
def State.anyHeld (s : State) (n : Nat) : Bool := s.kindHeld n .layer || s.kindHeld n .region || s.kindHeld n .zone || s.kindHeld n .source

/-- The audio engine starts, or starts again once a stop in progress has ended (R314). -/
def State.audioResume (s : State) (n : Nat) : State :=
  if !s.ungated n 2 then s
  else if s.audioState n = auStopping then s.setAud n { s.aud n with restart := true }
  else if s.audioState n = auStarting then s.setAud n { s.aud n with stopWanted := false }
  else s.audioOn n

/-- The haptic driver leaves OFF in a running station; a closing brake in progress ends in IDLE instead (R288). -/
def State.hapticResume (s : State) (n : Nat) : State :=
  if !s.ungated n 1 || s.stationState n ≠ stRunning then s
  else if s.hapState n = haBraking then s.setHap n { s.hap n with stopping := false }
  else s.hapticOn n

/-- The value of `FUNCTION_GATE` takes effect: functions newly gated stop, functions newly ungated are released (R577). -/
def State.applyGate (s : State) (n v : Nat) : State :=
  let old := s.rdN Obj.FUNCTION_GATE n
  let s := (s.wr Obj.FUNCTION_GATE v n).wr Obj.GATE_PENDING 0xFF n
  let on (k : Nat) : Bool := bit k v && !bit k old
  let off (k : Nat) : Bool := !bit k v && bit k old
  if !(s.ctl n).functionsOn then s
  else
    let s := if on 0 then s.touchGate n else if off 0 then s.touchRelease n else s
    let s := if on 1 then s.hapticOff n else if off 1 then s.hapticResume n else s
    let s := if on 2 then s.audioStop n false else if off 2 then s.audioResume n else s
    s.syncEdge n

/-! ### Memory contents -/

/-- The contents of a station's memory are lost, and with them the poison marks, the translation cache and the STN image (R29, R349). -/
def State.loseMemory (s : State) (n : Nat) : State :=
  let s := s.eraseMem n
  let lo := cellOf n 0 / 8
  let s : State := { s with poison := s.poison.filter fun u => !(lo ≤ u && u < lo + stationSpan / 8) }
  (s.loseCache n).setCtl n { s.ctl n with image := false }

/-- MEM_STATE, and the ready bit MEMORY with it (R352, R495). -/
def State.setMem (s : State) (n v : Nat) : State := (s.wr Obj.MEM_STATE v n).stReady n 0 (v = 2)

/-- The memory controller is released: initial training begins, with inline ECC as `ECC_ENABLE` now stands (R330, R332). -/
def State.releaseMemory (s : State) (n : Nat) : State :=
  (s.setMmc n { training := some 0, eccOn := s.rdB Obj.ECC_ENABLE n, hot := (s.mmc n).hot }).setMem n 1

/-- The retraining made on exit from self-refresh, before any other traffic (R337). -/
def State.exitSelfRefresh (s : State) (n : Nat) : State :=
  let c := s.mmc n
  (s.setMmc n { c with wakeRetrain := true, retraining := some ⟨1, s.time⟩, dueAt := none }).setMem n 1

/-! ### Leaving RUNNING, and faults -/

/-- What leaving RUNNING does to the shader domain and the haptic driver; `rs` is the raster state that follows (R32, R72, R288). -/
def State.leaveRunning (s : State) (n rs : Nat) : State :=
  let s := if s.stationState n = stRunning then ((s.rasterLeave n).energyOff n).hapticOff n else s
  (s.wr Obj.RASTER_STATE rs n).stReady n 10 false

/-- What leaving SLEEP does to timing, output, touch and audio (R192, R211, R254, R314). -/
def State.leaveSleep (s : State) (n : Nat) : State :=
  if s.stationState n = stSleep then
    let s := (s.startTiming n).touchWake n
    s.setDsp n { s.dsp n with newTiming := true }
  else s

/-- A move in progress is given up (R33). -/
def State.stopMove (s : State) (n : Nat) : State := s.setCtl n { s.ctl n with moving := none, thenOther := false }

/-- Entry to FAULT or MEMORY_FAULT: the safe image, no touch reports, no haptics, no tenant audio (R30, R137, R255, R315). -/
def State.enterFaulted (s : State) (n st cause : Nat) : State :=
  let s := (((s.touchFault n).leaveRunning n 3).audioFault n).leaveSleep n
  let s := ((s.setCompose n 1).stopMove n).wr Obj.STATION_FAULT_CAUSE cause n
  (s.setCtl n { s.ctl n with fromFault := true }).setStation n st

/-- An event whose row leads from RUNNING or SLEEP to FAULT (R29). -/
def State.enterFault (s : State) (n cause : Nat) : State :=
  if s.stationState n = stRunning || s.stationState n = stSleep then s.enterFaulted n stFault cause else s

/-- RANGE_LOST for each range that a live enclave has in the station's memory (R406). -/
def State.rangesLost (s : State) (n : Nat) : State :=
  s.each s.liveEnclaves fun s e => s.each (List.range 8) fun s j =>
    let v := s.rdN Obj.RANGE 0 e 512 j
    if bits 11 8 v = n ∧ bits 63 40 v ≠ 0 then s.toEnclave e (s.mkRec 0x0019 3 n noTenant [(e, 6), (j, 3)]) else s

/-- Entry to MEMORY_FAULT from any state but OFF, after initial training (1) or a retraining (2) of so many attempts (R336, R349,
R406, R615). A reset or a write of `STATION_TARGET` that led to STARTING in the same cycle wins: the training is made again (R34;
assumption 33). -/
def State.memoryFault (s : State) (n stage attempts : Nat) : State :=
  if s.stationState n = stOff then s
  else if s.stationState n = stStarting && s.changedNow n then
    (if stage = 1 then s.releaseMemory n else s.setMmc n { s.mmc n with retraining := some ⟨1, s.time⟩ })
  else
    let s := if s.stationState n = stFault || s.stationState n = stMemoryFault then
        ((s.stopMove n).wr Obj.STATION_FAULT_CAUSE causeLost n).setStation n stMemoryFault
      else s.enterFaulted n stMemoryFault causeLost
    let s := ((s.setMmc n { eccOn := (s.mmc n).eccOn, hot := (s.mmc n).hot }).setMem n 5).loseMemory n
    let s := s.rangesLost n
    (s.toStationLog n (s.mkRec 0x8007 0 n noTenant [(stage, 2), (attempts, 2)])).alarm 2 0 n stage

/-! ### Release of the functions -/

/-- The rows of a check-value unit that a reset returns to their defaults (R605). -/
def cvRows : List ObjRow :=
  [Obj.CV_VALUE, Obj.CV_RUN_BYTES, Obj.CV_RUN_TAG, Obj.CV_SOURCE, Obj.CV_PRESET, Obj.CV_WIDTH, Obj.CV_POLY, Obj.CV_INIT,
   Obj.CV_XOROUT, Obj.CV_REFIN, Obj.CV_REFOUT, Obj.CV_BLOCK_BYTES, Obj.CV_FOLD, Obj.CV_WINDOW_BASE, Obj.CV_WINDOW_SIZE, Obj.CV_STATION,
   Obj.CV_TENANT, Obj.CV_QUEUE, Obj.CV_DOMAIN_INDEX, Obj.CV_CROP_X, Obj.CV_CROP_Y, Obj.CV_CROP_W, Obj.CV_CROP_H, Obj.CV_PACK,
   Obj.CV_CONTINUOUS]

/-- A check-value unit in reset (R605). -/
def State.cvReset (s : State) (u : Nat) : State :=
  let s := cvRows.foldl (fun (s : State) r => if r.saved then s else s.toDefault r 0 u) s
  { (s.setCvu u {}) with results := s.results.del (Obj.CV_VALUE.key 0 u 512 0) }

/-- Entries of the object stores for which a predicate holds are dropped, so that they read their defaults. -/
def State.clearObjects (s : State) (p : OKey → Bool) : State :=
  { s with regs := s.regs.filter (fun e => !p e.1), shadow := s.shadow.filter (fun e => !p e.1),
           blobs := s.blobs.filter (fun e => !p e.1), shadowBlobs := s.shadowBlobs.filter (fun e => !p e.1),
           staging := s.staging.filter (fun e => !p e.1), results := s.results.filter (fun e => !p e.1) }

/-- Whether the key names a saved object (R454, R492). -/
def OKey.isSaved (k : OKey) : Bool :=
  match lookupRow k.area k.idx k.sub with
  | some (r, _) => r.saved
  | none => false

/-- A key of an effect slot: its content or its owner (R274). -/
def OKey.isEffect (k : OKey) : Bool := 8 ≤ k.area && 0x5200 ≤ k.idx && k.idx < 0x5240

/-- Whether settings save the key: a saved object, or an effect slot that the manager owns (R274, R488). -/
def State.isSavedNow (s : State) (k : OKey) : Bool :=
  k.isSaved || (k.isEffect && s.rdN Obj.EFFECT_OWNER (k.area - 8) (k.idx - 0x5200) = 0xFFFF)

/-- Objects of a station that no reset of STATION reach returns to their defaults: saved ones, the effect slots, those of the memory controller, and
those that reset and clock control, the secure complex and the management complex keep for the station (R274, R492, R551). -/
def keptByStation (k : OKey) : Bool :=
  k.isSaved || k.isEffect || (0x7000 ≤ k.idx && k.idx < 0x8000) || (0x0010 ≤ k.idx && k.idx ≤ 0x0020) || k.idx = 0x0040 || k.idx = 0x0050 || k.idx = 0x0060

/-- A shadow of a station's functions: a saved object loses what was not committed. -/
def functionShadow (n : Nat) (k : OKey) : Bool := k.area = 8 + n && !(0x7000 ≤ k.idx && k.idx < 0x8000)

/-- A descriptor in a sluice that is emptied frees its count (R366, R594). -/
def State.emptyIngress (s : State) (n : Nat) : State :=
  let l := s.ingress.getD n []
  let s : State := { s with ingress := s.ingress.put n [] }
  s.each l fun s d => let r := s.ring d.tenant n d.queue
                      s.setRing d.tenant n d.queue { r with outstanding := r.outstanding - 1 }

/-- The queues of a station are emptied with its function domain (R551). -/
def State.emptyStationQueues (s : State) (n : Nat) : State :=
  let s : State := { s with hapticQ := s.hapticQ.del n, stationLogQ := s.stationLogQ.del n }
  ((s.toDefault Obj.STATION_LOG_ITEMS 0 n).toDefault Obj.STATION_LOG_LOST 0 n).toDefault Obj.HAPTIC_LOST 0 n

/-- The objects of a station's functions return to their defaults, saved objects and the safe store kept, and the shadows with them (R176,
R185, R492, R551, R658). -/
def State.functionDefaults (s : State) (n : Nat) : State :=
  let safe := s.blobs.find (Obj.SAFE_STORE.key n 0 512 0)
  let s := s.clearObjects fun k => k.area = 8 + n && !keptByStation k
  let s : State := { s with shadow := s.shadow.filter (fun e => !functionShadow n e.1),
                            shadowBlobs := s.shadowBlobs.filter (fun e => !functionShadow n e.1) }
  match safe with
  | some b => { s with blobs := s.blobs.put (Obj.SAFE_STORE.key n 0 512 0) b }
  | none => s

/-- The function domain of a station enters reset, or its supply goes: every engine at its reset values, the objects of the functions
at their defaults (R551, R658). Pins take their pin-map state (R574). -/
def State.functionsReset (s : State) (n : Nat) : State :=
  let s := if s.stationState n = stRunning then ((s.rasterLeave n).energyOff n) else s
  let s := ((((s.outputOff n).touchOff n).hapticReset n).audioReset n).rasterReset n
  let s := (s.setGrd n {}).setCmp n {}
  let s := (s.setDsp n {}).setTch n { pumpOk := (s.tch n).pumpOk, nextId := (s.tch n).nextId }
  let s := (((s.functionDefaults n).emptyIngress n).emptyStationQueues n).cvReset (16 + n)
  let s := s.pinsReset (.func n)
  ((s.wr Obj.READY_STATION ((s.rdN Obj.READY_STATION 0 0 512 n % 4 : Nat)) 0 0 512 n).setCtl n
    { s.ctl n with moving := none, thenOther := false, functionsOn := false }).syncSecure n

/-- Released and configured functions of a station begin: timing, compositor, guard engine, output, touch and audio, each unless gated
(R211, R254, R314, R577, R580). -/
def State.functionsStart (s : State) (n : Nat) : State :=
  let s := s.setCtl n { s.ctl n with functionsOn := true }
  let s := ((s.stReady n 2 true).stReady n 3 true).stReady n 4 true
  let s := ((s.setCompose n 1).startTiming n)
  let s := s.setDsp n { s.dsp n with newTiming := true }
  let s := (((s.syncReference n).syncZones n).syncSecure n).syncSlots n
  let s := s.each ((s.ras n).cache.map CacheEntry.tenant).eraseDups fun s t => s.syncCache n t
  let s := if s.ungated n 0 then s.touchRelease n else s
  (s.audioResume n).syncEdge n

/-- The function domain of a station is released: its PLLs lock, its queues and its check-value unit are ready (R580, R586). -/
def State.functionsRelease (s : State) (n : Nat) : State :=
  ((s.wr Obj.PLL_LOCKED 0xFF n).stReady n 11 true).stReady n 12 true

/-! ### OFF and STARTING -/

/-- The station enters STARTING, its memory regions are reserved, and it shows its safe image once its functions run (R29, R58, R137). -/
def State.enterStarting (s : State) (n : Nat) : State := ((s.stopMove n).setStation n stStarting).reserveCache n

/-- A closing brake goes on through the ordered power-down (R288). -/
def State.closingBrake (s : State) (n : Nat) (h : Haptic) : State := (s.setHap n h).setHapState n haBraking

/-- The ordered power-down (R29, R176, R317): a mode change in progress completes with its sets, which the next start uses (R215), and an eDP
panel goes down with its delays (R217); the audio engine goes on to the end of its stop (R314). -/
def State.stationOff (s : State) (n : Nat) : State :=
  if s.stationState n = stOff then s
  else
    let s := (s.leaveRunning n 0).audioStop n false
    let waking := s.rdB Obj.WAKE_PENDING n
    let audio := (s.audioState n, s.aud n, s.closingValues n)
    let d := s.dsp n
    let s := if d.modePending || d.modeHeld then s.applyMode n else s
    let mode := modeRows.map fun r => (r, s.rd r n)
    let panel := (s.panelDown n).dsp n |>.panel
    let h := s.hap n
    let braking := s.hapState n = haBraking
    let s := (if braking then s.setHap n { h with play := none } else s).functionsReset n
    let s := if braking then s.closingBrake n h else s
    let s := if audio.1 = auOff then s else s.closingAudio n audio.1 audio.2.1 audio.2.2
    let s := if d.modePending || d.modeHeld then
        s.each mode fun s m => s.wr m.1 m.2 n
      else s
    let s := if panel = 4 || panel = 5 then (s.setDsp n { panel := panel }).drive 5 true n else s
    let s := ((s.setMmc n { hot := (s.mmc n).hot }).setMem n 0).loseMemory n
    let s := (s.loadSafe n []).wr Obj.COMPOSE_SOURCE 0 n
    let s := (s.wr Obj.RASTER_STATE 0 n).wr Obj.READY_STATION 0 0 0 512 n
    let s := if waking then s.wakePin else s
    s.setCtl n {} |>.setStation n stOff

/-- An OFF station starts by `STATION_TARGET`: memory controller, control core and functions are released, and the safe store is loaded
from flash (R29, R176). -/
def State.startFromOff (s : State) (n : Nat) : State :=
  let s := ((s.enterStarting n).releaseMemory n).setCtl n { s.ctl n with coreOn := true }
  let s := s.setAud n { s.aud n with streams := [], tones := [] }
  ((s.functionsRelease n).loadSafe n (s.savedSafe n)).functionsStart n

/-! ### RUNNING and SLEEP -/

/-- Windows whose contents were lost in self-refresh are told to their tenants (R348). -/
def State.tellLost (s : State) (n : Nat) : State :=
  let c := s.mmc n
  let s := s.each c.lost fun s (t, w, first, pages) =>
    s.toTenant t (s.mkRec 0x0011 3 n t [(w, 4), (first, 28), (pages, 24)])
  s.setMmc n { s.mmc n with lost := [] }

/-- The station enters RUNNING (R29, R137, R253, R255, R288, R348). -/
def State.enterRunning (s : State) (n : Nat) : State :=
  let s := if (s.ctl n).fromFault then s.touchReturn n else s
  let s := (s.leaveSleep n).setCmp n { (s.leaveSleep n).cmp n with stackReady := false }
  let s := (s.setCtl n { s.ctl n with moving := none, thenOther := false, fromFault := false }).setStation n stRunning
  let s := ((s.wr Obj.RASTER_STATE 1 n).stReady n 10 true).energyOn n
  ((s.hapticResume n).audioResume n).tellLost n

/-- The entry actions of SLEEP are complete (R29, R346): memory enters self-refresh in `selfRefresh` below it. -/
def State.enterSleepWith (s : State) (n : Nat) (selfRefresh : State → State) : State :=
  let s := s.leaveRunning n 0
  let s := if s.audioState n = auOff then s else s.audioStop n false
  let s := (((s.touchSleep n).outputSleep n).setCompose n 0)
  ((selfRefresh s).stopMove n).setStation n stSleep

/-! ### Power requests -/

/-- A write of `STATION_TARGET` takes effect (R29, R33). Where another event has led to STARTING in the same cycle, a write that leads to
OFF loses against it (R34). -/
def State.applyTarget (s : State) (n v : Nat) : State :=
  let s := (s.wr Obj.STATION_TARGET v n).wr Obj.PENDING_OFF 0xFF n
  let st := s.stationState n
  let c := s.ctl n
  if v = 0 then (if st = stStarting && s.changedNow n then s else s.stationOff n)
  else if st = stOff then s.startFromOff n
  else if v = 2 then
    if st = stSleep && c.moving = none then (s.setCtl n { c with moving := some false, thenOther := false }).exitSelfRefresh n
    else if c.moving = some true then s.setCtl n { c with thenOther := true }
    else s.setCtl n { c with thenOther := false }
  else
    if st = stRunning && c.moving = none then s.setCtl n { c with moving := some true, thenOther := false }
    else if c.moving = some false then s.setCtl n { c with thenOther := true }
    else s.setCtl n { c with thenOther := false }

/-- The state a target names. -/
def targetState : Nat → Nat
  | 0 => stOff
  | 3 => stSleep
  | _ => stRunning

/-- A write of `STATION_TARGET` that passed the checks of R461: held while a block is not NORMAL, else applied (R407). -/
def State.writeTarget (s : State) (n v : Nat) : State :=
  if (v = 0 || v = 3) && s.anyHeld n && s.stationState n ≠ targetState v then (s.wr Obj.PENDING_OFF v n).answer .heldSecure
  else (s.applyTarget n v).answer .ok

/-- The mask gates touch with a zone, or audio with a source, that is not NORMAL (R577). -/
def State.gateHeld (s : State) (n v : Nat) : Bool :=
  let old := s.rdN Obj.FUNCTION_GATE n
  (bit 0 v && !bit 0 old && s.kindHeld n .zone) || (bit 2 v && !bit 2 old && s.kindHeld n .source)

/-- A write of `FUNCTION_GATE` that passed the checks of R461 (R577). -/
def State.writeGate (s : State) (n v : Nat) : State :=
  let old := s.rdN Obj.FUNCTION_GATE n
  if v = old then (s.wr Obj.GATE_PENDING 0xFF n).answer .ok
  else if s.gateHeld n v then
    (s.wr Obj.GATE_PENDING v n).answer .heldSecure
  else (s.applyGate n v).answer .ok

/-- Requests held by R407 are applied in the cycle in which the last block concerned returns to NORMAL. -/
def State.applyHeld (s : State) (n : Nat) : State :=
  let g := s.rdN Obj.GATE_PENDING n
  let s := if g ≠ 0xFF && !s.gateHeld n g then s.applyGate n g else s
  let p := s.rdN Obj.PENDING_OFF n
  if p ≠ 0xFF && !s.anyHeld n then s.applyTarget n p else s

/-- STATION_TARGET_OFF (R29, R407). -/
def execStationTargetOff (who : Requester) (n : Fin 8) (s : State) : Host.Outcome State Fault Refusal :=
  .next (s.onWrite who Obj.STATION_TARGET 0 n 0 512 0 fun s => s.writeTarget n 0)

/-- STATION_TARGET_RUNNING (R29, R33). -/
def execStationTargetRunning (who : Requester) (n : Fin 8) (s : State) : Host.Outcome State Fault Refusal :=
  .next (s.onWrite who Obj.STATION_TARGET 2 n 0 512 0 fun s => s.writeTarget n 2)

/-- STATION_TARGET_SLEEP (R29, R33, R407). -/
def execStationTargetSleep (who : Requester) (n : Fin 8) (s : State) : Host.Outcome State Fault Refusal :=
  .next (s.onWrite who Obj.STATION_TARGET 3 n 0 512 0 fun s => s.writeTarget n 3)

/-- A write of one bit of `FUNCTION_GATE`. -/
def State.gateBit (s : State) (who : Requester) (n k : Nat) (on : Bool) : State :=
  let v := putBit k on (s.rdN Obj.FUNCTION_GATE n)
  s.onWrite who Obj.FUNCTION_GATE v n 0 512 0 fun s => s.writeGate n v

/-- FUNCTION_GATE_TOUCH (R577). -/
def execFunctionGateTouch (who : Requester) (n : Fin 8) (on : Bool) (s : State) : Host.Outcome State Fault Refusal :=
  .next (s.gateBit who n 0 on)

/-- FUNCTION_GATE_HAPTIC (R577). -/
def execFunctionGateHaptic (who : Requester) (n : Fin 8) (on : Bool) (s : State) : Host.Outcome State Fault Refusal :=
  .next (s.gateBit who n 1 on)

/-- FUNCTION_GATE_AUDIO (R577). -/
def execFunctionGateAudio (who : Requester) (n : Fin 8) (on : Bool) (s : State) : Host.Outcome State Fault Refusal :=
  .next (s.gateBit who n 2 on)

/-! ### Faults from clocks, lanes and regions -/

/-- EDGE_LINK_LOST (R19, R29). -/
def execEdgeLinkLost (n : Fin 8) (s : State) : Host.Outcome State Fault Refusal := .next (s.enterFault n causeEdge)

/-- A station PLL that is stopped never loses lock (R586): 0 pixel, 1 link, 2 system, 3 shader, 4 memory, 5 touch, 6 haptic, 7 audio. -/
def State.pllStopped (s : State) (n k : Nat) : Bool :=
  match k with
  | 0 => !(s.dsp n).counting || (s.dsp n).modeHeld
  | 1 => s.output n = outOff
  | 3 => s.stationState n ≠ stRunning
  | 4 => s.rdN Obj.MEM_STATE n = 0 || s.rdN Obj.MEM_STATE n = 3
  | 5 => s.touchState n = toOff || s.touchState n = toWakeScan
  | 6 => s.hapState n = haOff
  | 7 => s.audioState n = auOff
  | _ => false

/-- The memory goes to self-refresh with the whole array kept (R586). -/
def State.memoryPllLost (s : State) (n : Nat) : State :=
  let st := s.rdN Obj.MEM_STATE n
  if st = 2 || st = 1 then (s.setMmc n { s.mmc n with kept := 8, retraining := none, dueAt := none }).setMem n 3 else s

/-- PLL_LOCK_LOST of PLL `k` (R189, R586, R595). -/
def execPllLockLost (n : Fin 8) (k : Fin 8) (s : State) : Host.Outcome State Fault Refusal :=
  .next (
    if s.stationState n = stOff || s.pllStopped n k || !bit k (s.rdN Obj.PLL_LOCKED n) then s
    else
      let s := (s.wr Obj.PLL_LOCKED ((clearBit k (s.rdN Obj.PLL_LOCKED n) : Nat)) n).count Obj.PLL_LOCK_LOSSES n
      let s := if k = 4 then s.memoryPllLost n else s
      if s.stationState n = stRunning || s.stationState n = stSleep then
        let s := (s.wr Obj.PLL_FAULT_SOURCE (k : Nat) n).enterFault n causePll
        if k = 0 then s.stopTiming n
        else if k = 1 then (s.setDsp n { s.dsp n with video := false }).emit (.link n "main link lost")
        else s
      else s)

/-- A guard escalation: FAULT, and the alarm that names the region (R29, R182). -/
def State.escalate (s : State) (n g : Nat) : State :=
  if s.stationState n = stRunning || s.stationState n = stSleep then (s.enterFault n causeGuard).alarm 1 0 n g else s

/-- WAKE_SCAN (R251 to R253): with a gesture recognised the station leaves SLEEP. -/
def execWakeScan (n : Fin 8) (coarse : Nat) (self : List (Nat × Nat)) (s : State) : Host.Outcome State Fault Refusal :=
  .next (
    if s.touchState n = toWakeScan && s.stationState n = stSleep then
      let (g, s) := s.wakeScan n coarse self
      let c := s.ctl n
      if g ≠ 0 && c.moving = none then
        ((s.wakeGesture n g).setCtl n { c with moving := some false, thenOther := false }).exitSelfRefresh n
      else s
    else s)

end Sys2Proof.Machine
end

