-- ==== Sys2Proof/Machine/MemCtl.lean ====
section
/-! DEFINITION. The memory controller of a station: refresh, training, inline ECC, freeze, self-refresh (R324 to R352), and the ends of
start-up, of SLEEP entry and of a wake (R29, R33). -/
namespace Sys2Proof.Machine

/-! ### Refresh and temperature -/

/-- The controller refreshes: READY, FROZEN, or retraining after self-refresh (R328, R343). -/
def State.refreshing (s : State) (n : Nat) : Bool :=
  let st := s.rdN Obj.MEM_STATE n
  st = 2 || st = 4 || (st = 1 && (s.mmc n).training = none)

/-- tREFI in ns (R328). -/
def MemCtl.tRefi (c : MemCtl) : Nat := if c.fastRefresh then 1950 else 3900

/-- REFRESH_DUE: tREFI has elapsed since the last all-bank refresh (R328). -/
def execRefreshDue (n : Fin 8) (s : State) : Host.Outcome State Fault Refusal :=
  .next (
    let c := s.mmc n
    if s.refreshing n && c.refreshedAt + c.tRefi ≤ s.time then
      (s.setMmc n { c with refreshedAt := s.time }).emit (.memCmd n "all-bank refresh")
    else s)

/-- A retraining falls due, once (R333). -/
def State.fallDue (s : State) (n : Nat) : State :=
  let c := s.mmc n
  if s.rdN Obj.MEM_STATE n = 2 && c.retraining = none && c.dueAt = none then s.setMmc n { c with dueAt := some s.time } else s

/-- MEM_TEMP_READ: the temperature indication in °C sets tREFI, MEM_HOT and a due retraining (R328, R329, R333). -/
def execMemTempRead (n : Fin 8) (temp : Int) (s : State) : Host.Outcome State Fault Refusal :=
  .next (
    if !(s.rdN Obj.MEM_STATE n = 2 || s.rdN Obj.MEM_STATE n = 4) then s
    else
      let s := s.wr Obj.MEM_TEMP_C temp n
      let c := s.mmc n
      let hot := if 95 < temp then true else if temp ≤ 90 then false else c.hot
      let s := s.setMmc n { c with fastRefresh := decide (85 < temp), hot := hot }
      let tell (s : State) (st : Nat) : State :=
        (s.alarm 9 st n (unsigned 8 temp)).toStationLog n (s.mkRec 0x8008 0 n noTenant [(st, 2), (unsigned 8 temp, 8)])
      let s := if hot && !c.hot then tell s 1 else if !hot && c.hot then tell s 2 else s
      if (s.rdN Obj.RETRAIN_DELTA_C n : Int) < (temp - c.trainedTemp).natAbs then s.fallDue n else s)

/-! ### Retraining -/

/-- RETRAIN_DUE: RETRAIN_INTERVAL_MS has elapsed since the last training (R333). -/
def execRetrainDue (n : Fin 8) (s : State) : Host.Outcome State Fault Refusal :=
  .next (if (s.mmc n).trainedAt + s.rdN Obj.RETRAIN_INTERVAL_MS n * 1000000 ≤ s.time then s.fallDue n else s)

/-- A context save is in progress on some core (R90). -/
def State.savingNow (s : State) (n : Nat) : Bool := (s.ras n).cores.any fun c => c.saving.isSome

/-- The place of a due retraining has come: a vertical blanking has begun since, the limit has passed, or the timing generator is
stopped; and no context save is in progress (R334). -/
def State.retrainPlace (s : State) (n : Nat) : Bool :=
  match (s.mmc n).dueAt with
  | none => false
  | some t =>
    (!(s.dsp n).counting || t ≤ (s.dsp n).boundaryAt || t + s.rdN Obj.RETRAIN_PLACE_MAX_MS n * 1000000 ≤ s.time) && !s.savingNow n

/-- RETRAIN_START (R334, R335, R337). -/
def execRetrainStart (n : Fin 8) (s : State) : Host.Outcome State Fault Refusal :=
  .next (
    if s.rdN Obj.MEM_STATE n = 2 && s.retrainPlace n then
      (s.setMmc n { s.mmc n with retraining := some ⟨1, s.time⟩, dueAt := none }).emit (.memCmd n "retrain")
    else s)

/-- The counts and the record of a retraining that ends after so many attempts (R335, R352). -/
def State.countRetrain (s : State) (n attempts stall : Nat) : State :=
  let s := s.count Obj.MEM_RETRAINS n
  let s := ((s.wr Obj.RETRAIN_LAST_TIME s.time n).wr Obj.RETRAIN_STALL_MAX ((max stall (s.rdN Obj.RETRAIN_STALL_MAX n) : Nat)) n)
  if 2 ≤ attempts then
    (s.count Obj.RETRAINS_WIDENED n).toStationLog n (s.mkRec 0x8005 0 n noTenant [(attempts, 2), (min stall (2 ^ 32 - 1), 32)])
  else s

/-- First and one past the last byte of the addressable range that self-refresh does not keep (R346). -/
def State.unkept (s : State) (n : Nat) : Nat × Nat :=
  let cap := s.rdN Obj.MEM_CAPACITY_MIB n * 2 ^ 20
  (min (cap / 8 * (s.mmc n).kept) (s.usableBytes n), s.usableBytes n)

/-- The memory is ready after self-refresh: the unkept eighths are lost, zeroed under inline ECC and undefined without it (R348). -/
def State.afterSelfRefresh (s : State) (n : Nat) : State :=
  let (a, e) := s.unkept n
  let s := if a < e then
      let lost := (s.boundTenants n).flatMap fun t => ((s.windows t n).zipIdx).filterMap fun (w, j) =>
        let x := max a w.base
        let y := min e (w.base + w.size)
        if w.size ≠ 0 ∧ x < y then some (t, j, x / 4096, cdiv (y - x) 4096) else none
      let s := s.setMmc n { s.mmc n with lost := (s.mmc n).lost ++ lost }
      let inside (k : Nat) : Bool := cellOf n a ≤ k && k < cellOf n e
      let s : State := { s with mem := s.mem.filter (fun c => !inside c.1), poison := s.poison.filter (fun u => !inside (u * 8)),
                                lostCells := cutRanges (cellOf n a) (cellOf n e) s.lostCells }
      if (s.mmc n).eccOn then s.setMmc n { s.mmc n with filling := true }
      else { s with lostCells := s.lostCells ++ [(cellOf n a, cellOf n e)] }
    else s
  let s := s.setMmc n { s.mmc n with wakeRetrain := false, kept := 8 }
  if (s.mmc n).filling then s else s.setMem n 2

/-- RETRAIN_ATTEMPT_DONE: success, a wider attempt, or MEMORY_FAULT after the third (R335 to R337). -/
def execRetrainAttemptDone (n : Fin 8) (ok : Bool) (s : State) : Host.Outcome State Fault Refusal :=
  .next (
    let c := s.mmc n
    match c.retraining with
    | none => s
    | some r =>
      let stall := s.time - r.startedAt
      if ok then
        let s := s.countRetrain n r.attempt stall
        let s := s.setMmc n { s.mmc n with retraining := none, dueAt := none, trainedAt := s.time, trainedTemp := s.rd Obj.MEM_TEMP_C n }
        if c.wakeRetrain then s.afterSelfRefresh n else s
      else if r.attempt < 3 then s.setMmc n { c with retraining := some { r with attempt := r.attempt + 1 } }
      else ((s.countRetrain n 3 stall).setMmc n { c with retraining := none }).memoryFault n 2 3)

/-! ### Initial training -/

/-- The addressable range of a capacity in MiB (R322). -/
def usableMib (ecc : Bool) (cap : Nat) : Nat := if ecc then cap / 8 * 7 else cap

/-- MEM_TRAINING_ATTEMPT_DONE: with success, what the controller found: capacity in MiB, data rate, temperature indication (R330 to
R332). Without inline ECC the contents are undefined until written. -/
def execMemTrainingAttemptDone (n : Fin 8) (ok : Bool) (capacity rate : Nat) (temp : Int) (s : State) : Host.Outcome State Fault Refusal :=
  .next (
    let c := s.mmc n
    match c.training with
    | none => s
    | some k =>
      if ok then
        let s := ((s.wr Obj.MEM_CAPACITY_MIB capacity n).wr Obj.MEM_USABLE_MIB ((usableMib c.eccOn capacity : Nat)) n).wr Obj.MEM_RATE_MTS
          ((min rate (s.rdN Obj.MAX_RATE_MTS n) : Nat)) n
        let s := s.wr Obj.MEM_TEMP_C temp n
        let s := s.setMmc n { s.mmc n with training := none, trainedAt := s.time, trainedTemp := temp, fastRefresh := decide (85 < temp),
                                           filling := c.eccOn }
        if c.eccOn then s
        else ({ s with lostCells := s.lostCells ++ [(cellOf n 0, cellOf n (capacity * 2 ^ 20))] } : State).setMem n 2
      else if k + 1 < 3 then s.setMmc n { c with training := some (k + 1) }
      else (s.setMmc n { c with training := none }).memoryFault n 1 3)

/-- MEM_FILL_DONE (R331, R348). -/
def execMemFillDone (n : Fin 8) (s : State) : Host.Outcome State Fault Refusal :=
  .next (
    let c := s.mmc n
    if c.filling then (s.setMmc n { c with filling := false }).setMem n 2 else s)

/-! ### Checked reads -/

/-- Class, tenant and JOB_ID of a requester (R324, R341). -/
def State.readerOf (s : State) (n : Nat) (r : MemReader) : Nat × Nat × Nat :=
  let tenantOf (h : Holder) : Nat := match h with
    | .tenant t => t
    | .enclave _ | .manager | .nobody => noTenant
  match r with
  | .compositor l => (2, tenantOf (s.holder ⟨n, .layer, l⟩), 0)
  | .reference => (4, tenantOf (((s.grd n).load.map fun l => s.holder ⟨n, .region, l.region⟩).getD .manager), 0)
  | .audio k => (4, tenantOf (s.holder ⟨n, .source, k⟩), 0)
  | .haptic => (4, tenantOf (((s.hap n).play.map fun p => p.trig.owner).getD .manager), 0)
  | .job key => match s.job? n key with
    | some j => (5, j.tenant, j.jobId)
    | none => (5, noTenant, 0)
  | .context key => match s.job? n key with
    | some j => (3, j.tenant, j.jobId)
    | none => (3, noTenant, 0)
  | .transfer t q => match (s.ring t n q).xfers with
    | x :: _ => (5, t, x.jobId)
    | [] => (5, t, 0)
  | .other cls => (cls, noTenant, 0)

/-- A corrected error: the count, the record, and the rate alarm (R338, R339). -/
def State.correctedError (s : State) (n addr cls : Nat) : State :=
  let s := (s.count Obj.CE_COUNT n).toStationLog n (s.mkRec 0x8009 0 n noTenant [(addr / 64, 32), (cls, 3)])
  let c := s.mmc n
  let hour := 3600000000000
  let l := (c.corrected ++ [s.time]).filter fun t => s.time < t + hour
  let s := s.setMmc n { c with corrected := l }
  let quiet : Bool := match c.ceAlarmAt with
    | some t => t + hour ≤ s.time
    | none => true
  if s.rdN Obj.CE_ALARM_PER_HOUR n < l.length && quiet then
    (s.setMmc n { s.mmc n with ceAlarmAt := some s.time }).alarm 10 0 n l.length
  else s

/-- The count and the record of an uncorrectable error (R341, R345). -/
def State.countUncorrectable (s : State) (n addr kind : Nat) (who : Nat × Nat × Nat) : State :=
  (s.count Obj.UE_COUNT n).toStationLog n (s.mkRec 0x8003 0 n who.2.1 [(addr / 64, 32), (kind, 4), (who.1, 3), (who.2.2, 32)])

/-- The capture of an uncorrectable error (R341, R352). -/
def State.captureError (s : State) (n addr kind : Nat) (who : Nat × Nat × Nat) : State :=
  (((s.wr Obj.UE_ADDR addr n).wr Obj.UE_KIND kind n).wr Obj.UE_REQUESTER ((who.1 * 8192 + who.2.1 : Nat)) n).wr Obj.UE_TIME s.time n

/-- A word of a station is marked poisoned (R340, R341). -/
def State.markPoison (s : State) (word : Nat) : State :=
  if s.poison.contains word then s else { s with poison := s.poison ++ [word] }

/-- What an uncorrectable read in REPORT mode does to a raster job that made it (R69, R341): other requesters meet the poison mark in
their own commands. -/
def State.poisonedReader (s : State) (n : Nat) (r : MemReader) : State :=
  match r with
  | .job key => match s.job? n key with
    | some j => if j.live then (s.endJob n key csAccessFault).settle n else s
    | none => s
  | _ => s

/-- An uncorrectable read (R341 to R345). -/
def State.uncorrectable (s : State) (n addr kind : Nat) (r : MemReader) : State :=
  let who := s.readerOf n r
  let word := cellOf n addr / 8
  let s := s.countUncorrectable n addr kind who
  if s.rdN Obj.UE_MODE n = 1 && s.stationState n = stRunning then
    let s := (s.captureError n addr kind who).setMmc n { s.mmc n with frozenWord := some word, retraining := none, dueAt := none }
    (s.setMem n 4).enterFault n causeFreeze
  else ((s.captureError n addr kind who).markPoison word).poisonedReader n r

/-- MEM_READ: a read returns and is checked; `err` is the number of wrong bits of its word, 2 for two (R338). -/
def execMemRead (n : Fin 8) (addr : Nat) (r : MemReader) (err : Fin 3) (s : State) : Host.Outcome State Fault Refusal :=
  .next (
    let who := s.readerOf n r
    let cls := who.1
    let c := s.mmc n
    let s := s.setMmc n { c with promoted := match c.promoted.find? (·.cls = cls) with
      | some p => c.promoted.erase p
      | none => c.promoted }
    let a := addr / 8 * 8
    let poisoned := s.poison.contains (cellOf n a / 8)
    let kind := if poisoned then 2 else 1
    if !s.eccChecks n a || s.usableBytes n ≤ a then s
    else if s.rdN Obj.MEM_STATE n = 2 then
      if poisoned || err = 2 then s.uncorrectable n a kind r
      else if err = 1 then s.correctedError n a cls
      else s
    else if s.rdN Obj.MEM_STATE n = 4 && s.rdN Obj.UE_TIME n = s.time && (poisoned || err = 2) then s.countUncorrectable n a kind who
    else s)

/-- REQUEST_PROMOTION: a request of class 4 or 5 that has waited 20 µs since `since` is served as class 3 from then on (R325). -/
def execRequestPromotion (n : Fin 8) (cls since : Nat) (s : State) : Host.Outcome State Fault Refusal :=
  .next (
    let c := s.mmc n
    if (cls = 4 || cls = 5) && since + 20000 ≤ s.time && s.rdN Obj.MEM_STATE n = 2 then
      s.setMmc n { c with promoted := c.promoted ++ [⟨cls, since⟩] }
    else s)

/-! ### Resets of the controller's surroundings -/

/-- What a reset of STATION or WARM reach means for a controller that lies outside it: a frozen controller is released with the failed
word poisoned, and one in self-refresh leaves it (R344, R552, R586). -/
def State.memoryStationReset (s : State) (n : Nat) : State :=
  let c := s.mmc n
  match s.rdN Obj.MEM_STATE n with
  | 4 =>
    let s := (s.setMmc n { c with frozenWord := none }).setMem n 2
    match c.frozenWord with
    | some w => s.markPoison w
    | none => s
  | 3 => s.exitSelfRefresh n
  | _ => s

/-! ### Self-refresh -/

/-- The memory enters self-refresh; too small a PASR_KEEP_EIGHTHS is raised to cover the reserved regions (R346, R347). -/
def State.enterSelfRefresh (s : State) (n : Nat) : State :=
  let eighth := s.rdN Obj.MEM_CAPACITY_MIB n * 2 ^ 20 / 8
  let need := cdiv (s.reservedTop n) eighth
  let k := s.rdN Obj.PASR_KEEP_EIGHTHS n
  let s := if k < need then
      (s.wr Obj.PASR_KEEP_EIGHTHS ((min need 8 : Nat)) n).toStationLog n (s.mkRec 0x8006 0 n noTenant [(4, 4), ((8 + n) * 16 + 7, 8)])
    else s
  let k := max k (min need 8)
  (s.setMmc n { s.mmc n with kept := k, dueAt := none }).setMem n 3

/-- SLEEP entry, whole (R29, R346). -/
def State.enterSleep (s : State) (n : Nat) : State := s.enterSleepWith n fun s => s.enterSelfRefresh n

/-- The memory is READY and no retraining runs. -/
def State.memoryQuiet (s : State) (n : Nat) : Bool := s.rdN Obj.MEM_STATE n = 2 && (s.mmc n).retraining = none

/-- SLEEP_ENTRY_DONE: SLEEP is reported; a wake asked for meanwhile begins at once (R29, R33). -/
def execSleepEntryDone (n : Fin 8) (s : State) : Host.Outcome State Fault Refusal :=
  .next (
    let c := s.ctl n
    if c.moving = some true && s.stationState n = stRunning && s.memoryQuiet n then
      let s := s.enterSleep n
      if c.thenOther then (s.setCtl n { s.ctl n with moving := some false }).exitSelfRefresh n else s
    else s)

/-- WAKE_DONE: RUNNING is reported; a SLEEP asked for meanwhile begins at once (R29, R33, R348). -/
def execWakeDone (n : Fin 8) (s : State) : Host.Outcome State Fault Refusal :=
  .next (
    let c := s.ctl n
    if c.moving = some false && s.stationState n = stSleep && s.memoryQuiet n then
      let s := s.enterRunning n
      if c.thenOther then s.setCtl n { s.ctl n with moving := some true } else s
    else s)

/-- STATION_STARTUP_DONE: memory is trained and the station firmware runs from its image; a failed check of the image leaves the core
waiting (R29, R579, R580). With `STATION_TARGET` 0, as loaded settings may leave it, no row leads on. -/
def execStationStartupDone (n : Fin 8) (imageOk : Bool) (s : State) : Host.Outcome State Fault Refusal :=
  .next (
    let c := s.ctl n
    if s.stationState n = stStarting && s.rdN Obj.MEM_STATE n = 2 && c.coreOn && c.image && c.functionsOn then
      if !imageOk then s.setCtl n { c with image := false }
      else
        let s := s.stReady n 1 true
        if s.rdN Obj.STATION_TARGET n = 3 then
          (if (s.mmc n).retraining = none then s.enterSleep n else s)
        else if s.rdN Obj.STATION_TARGET n = 2 then s.enterRunning n
        else s
    else s)

end Sys2Proof.Machine
end

