-- ==== Sys2Proof/Machine/Secure.lean ====
section
/-! DEFINITION. The secure complex: measurements, enclaves and their ranges, the lock cycle, and the restart (R383 to R410). -/
namespace Sys2Proof.Machine

/-! ### Its state -/

/-- `SEC_STATE` values of R416. -/
def secOff : Nat := 0
def secBooting : Nat := 1
def secReady : Nat := 2
def secScrubbing : Nat := 3

/-- `SEC_STATE` changes, and with it the ready bit SEC (R416, R494). -/
def State.setSecState (s : State) (v : Nat) : State := (s.wr Obj.SEC_STATE v).hwReady 2 (v = secReady)

/-- The secure firmware runs. -/
def State.secUp (s : State) : Bool := s.rdN Obj.SEC_STATE = secReady

/-- The secure firmware runs: its complex is READY, and its clock is not gated (R587). -/
def State.secRuns (s : State) : Bool := s.secUp && !s.hwGated 1

/-- Enclave states of R391. -/
def enEmpty : Nat := 0
def enLoading : Nat := 1
def enStopped : Nat := 2
def enRunning : Nat := 3
def enDestroying : Nat := 4

/-- `ENCLAVE_STATE`. -/
def State.enclaveState (s : State) (e : Nat) : Nat := s.rdN Obj.ENCLAVE_STATE 0 e

/-- The state with the enclave's state replaced. -/
def State.setEnclave (s : State) (e v : Nat) : State := s.wr Obj.ENCLAVE_STATE v 0 e

/-- What the secure firmware keeps of an enclave. -/
def State.ecl (s : State) (e : Nat) : EnclaveCtl := s.sec.enclaves.getD e {}

/-- The state with that record replaced. -/
def State.setEcl (s : State) (e : Nat) (v : EnclaveCtl) : State :=
  { s with sec := { s.sec with enclaves := s.sec.enclaves.put e v } }

/-- A measurement register is extended with a digest (R385). -/
def State.extend (s : State) (k : Nat) (digest : Bytes) : State :=
  s.wrBlob Obj.MEASUREMENT (Config.sha384 (s.blob Obj.MEASUREMENT 0 0 512 k ++ digest)) 0 0 512 k

/-- A measurement register is set to 48 zero bytes (R385). -/
def State.zeroMeasurement (s : State) (k : Nat) : State := s.wrBlob Obj.MEASUREMENT (List.replicate 48 0) 0 0 512 k

/-! ### Ranges -/

/-- The place of secure SRAM among the locations of R392. -/
def sramLoc : Nat := 8

/-- Bytes of secure SRAM (R383), and those an enclave's queues take in it (R396). -/
def sramBytes : Nat := 2 ^ 20
def queueBytes : Nat := 3072

/-- A range of memory is written with zeros. -/
def State.zeroMem (s : State) (n a len : Nat) : State :=
  let lo := cellOf n a
  let hi := lo + len
  { s with mem := s.mem.filter (fun c => !(lo ≤ c.1 && c.1 < hi)), lostCells := cutRanges lo hi s.lostCells,
           poison := s.poison.filter fun u => !(lo ≤ u * 8 && (u + 1) * 8 ≤ hi) }

/-- The ranges of an enclave are scrubbed; those in a station in MEMORY_FAULT are skipped (R391, R410). -/
def State.scrubRanges (s : State) (ranges : List Nat) : State :=
  s.each (List.range 9) fun s loc =>
    if loc < 8 && s.stationState loc = stMemoryFault then s
    else s.each (rangeSpans ranges loc) fun s w => s.zeroMem loc w.base w.size

/-- A present range meets R392: its reserved field, its location, one read-and-write window of the sponsor around it, and no page of
another enclave's range. -/
def State.rangeOk (s : State) (e v : Nat) : Bool :=
  let loc := bits 11 8 v
  let a := bits 39 12 v * 4096
  let len := bits 63 40 v * 4096
  let t := s.rdN Obj.SPONSOR 0 e
  bits 7 0 v = 0 && loc ≤ 8
    && (loc = 8 || (t < 512 && (s.windows t loc).any fun w => w.access = 3 && w.base ≤ a && a + len ≤ w.base + w.size))
    && (s.ownedSpans loc).all fun p => p.1 = e || !(p.2.base < a + len && a < p.2.base + p.2.size)

/-- The ranges of a station's memory total at most 1 GiB (R392). -/
def State.rangeTotalOk (s : State) (e : Nat) : Bool :=
  (List.range 8).all fun n =>
    (((s.ownedSpans n).filter fun p => p.1 ≠ e).map fun p => p.2.size).sum + ((s.enclaveSpans e n).map Span.size).sum ≤ 2 ^ 30

/-- The image of an enclave as it stands at `IMAGE_LOCATION`, read with tag 0 (R390, R394). -/
def State.imageAt (s : State) (e k : Nat) : Bytes :=
  let v := s.rdN Obj.IMAGE_LOCATION 0 e
  let loc := bits 11 8 v
  let a := bits 39 12 v * 4096
  let len := min k (bits 63 40 v * 4096)
  if loc = sramLoc then s.load sramLoc a len else if loc < 8 then s.readTagged loc a len 0 else []

/-- CODE_SIZE of an image (R389). -/
def imageCodeSize (b : Bytes) : Nat := fieldLE b 4 4

/-- Range 0 lies in secure SRAM and holds the code (R390). -/
def State.range0Ok (s : State) (e code : Nat) : Bool :=
  let v := s.rdN Obj.RANGE 0 e 512 0
  bits 63 40 v ≠ 0 && bits 11 8 v = sramLoc && code ≤ bits 63 40 v * 4096

/-- Secure SRAM holds the ranges and the queues of the enclave beside those of the others (R390). -/
def State.sramOk (s : State) (e : Nat) : Bool :=
  let others := s.liveEnclaves.filter (· ≠ e)
  let used := (((s.ownedSpans sramLoc).filter fun p => p.1 ≠ e).map fun p => p.2.size).sum + queueBytes * others.length
  used + ((s.enclaveSpans e sramLoc).map Span.size).sum + queueBytes ≤ sramBytes
    && (s.enclaveSpans e sramLoc).all fun w => w.base + w.size ≤ sramBytes

/-- The first applicable outcome of CREATE among 2 to 6; 0 where loading may begin (R390). -/
def State.createOutcome (s : State) (e : Nat) : Nat :=
  if s.enclaveState e ≠ enEmpty then 2
  else if 1 < s.rdN Obj.DEBUG_LEVEL || s.sec.unlocking then 3
  else if s.blob Obj.ENCLAVE_AUTHORITY_HASH = [] then 4
  else if !((s.enclaveRanges e).all fun v => bits 63 40 v = 0 || s.rangeOk e v) || !s.rangeTotalOk e
      || !s.range0Ok e (imageCodeSize (s.imageAt e 64)) then 5
  else if !s.sramOk e then 6
  else 0

/-! ### Commands of enclaves -/

/-- A write of `ENCLAVE_COMMAND` that is served and passes R461. -/
def State.onEnclave (s : State) (who : Requester) (e v : Nat) (f : State → State) : State :=
  s.onWrite who Obj.ENCLAVE_COMMAND v 0 e 512 0 fun s => s.guarded (s.needHwReady 2) f

/-- ENCLAVE_CREATE (R390, R391). -/
def execEnclaveCreate (who : Requester) (e : Fin 64) (s : State) : Host.Outcome State Fault Refusal :=
  .next (s.onEnclave who e 1 fun s =>
    let o := s.createOutcome e
    if s.isPending Obj.ENCLAVE_RESULT 0 e then s.answer (.busy o)
    else
      let s := s.startResult Obj.ENCLAVE_RESULT who 0 e
      if o = 0 then (s.setEnclave e enLoading).answer .ok
      else (s.finish Obj.ENCLAVE_RESULT o 0 e).answer .ok)

/-- The image is laid out as R389 gives: format, reserved fields, sizes and entry point. -/
def imageFormatOk (b : Bytes) : Bool :=
  let code := imageCodeSize b
  fieldLE b 0 2 = 1 && fieldLE b 2 2 = 0 && 4 ≤ code && code ≤ 262144 && code % 4 = 0 && fieldLE b 8 4 < code
    && (slice b 0x10 48).all (· = 0) && b.length = 0x40 + code + 96

/-- A core that runs the secure firmware takes a RUNNING enclave that no core runs (R399). -/
def State.schedule (s : State) (e : Nat) : State :=
  if s.sec.cores.contains (some e) then s
  else
    let cores := match s.sec.cores with
      | [none, b] => [some e, b]
      | [a, none] => [a, some e]
      | l => l
    { s with sec := { s.sec with cores := cores } }

/-- An enclave leaves the cores. -/
def State.unschedule (s : State) (e : Nat) : State :=
  { s with sec := { s.sec with cores := s.sec.cores.map fun c => if c = some e then none else c } }

/-- ENCLAVE_START: entered at ENTRY_OFFSET, or resumed (R391). -/
def execEnclaveStart (who : Requester) (e : Fin 64) (s : State) : Host.Outcome State Fault Refusal :=
  .next (s.onEnclave who e 2 fun s =>
    if s.enclaveState e = enStopped then
      (((s.setEcl e { s.ecl e with entered := true }).setEnclave e enRunning).schedule e).answer .ok
    else s.answer (.refused 8))

/-- ENCLAVE_STOP (R391). -/
def execEnclaveStop (who : Requester) (e : Fin 64) (s : State) : Host.Outcome State Fault Refusal :=
  .next (s.onEnclave who e 3 fun s =>
    if s.enclaveState e = enRunning then ((s.unschedule e).setEnclave e enStopped).answer .ok else s.answer (.refused 8))

/-- ENCLAVE_SLICE_EXPIRED: the slice of a core ends, and the firmware runs `next` on it, or itself (R399). -/
def execEnclaveSliceExpired (core : Fin 2) (next : Option (Fin 64)) (s : State) : Host.Outcome State Fault Refusal :=
  .next (
    if !s.secRuns then s
    else
      let put (v : Option Nat) : State := { s with sec := { s.sec with cores := s.sec.cores.set core v } }
      match next with
      | none => put none
      | some e =>
        if s.enclaveState e = enRunning && s.sec.cores[1 - core.val]? ≠ some (some e.val) then put (some e.val) else put none)

/-! ### Blocks -/

/-- The state with the lock record of a block replaced, and what shows it (R402, R416). -/
def State.setLock (s : State) (b : Block) (l : Lock) : State :=
  let s : State := { s with locks := if l.st = .normal then s.locks.del b else s.locks.put b l }
  let s := s.syncSecure b.station
  if b.kind = .zone then s.syncZone b.station b.n else s

/-- Some block is not NORMAL on account of an enclave. -/
def State.heldBlocks (s : State) (e : Nat) : List Block := (s.locks.filter fun l => l.2.enclave = e && l.2.st ≠ .normal).map (·.1)

/-- A block is on its way back to the normal world: from SECURE, or out of a cycle towards the enclave (R391, R402). -/
def State.returnBlock (s : State) (b : Block) : State :=
  let l := s.lock b
  match l.st with
  | .normal | .returning => s
  | .secure => s.setLock b { l with st := .returning, towardsEnclave := false }
  | .locking | .locked => s.setLock b { l with towardsEnclave := false }

/-- The enclave goes to DESTROYING: every held block is returned, and its key is erased (R391). -/
def State.destroyEnclave (s : State) (e : Nat) : State :=
  let s := s.each (s.heldBlocks e) fun s b => s.returnBlock b
  (({ s with encKey := s.encKey.del e } : State).unschedule e).setEnclave e enDestroying

/-- DESTROY in the states that take it (R391). -/
def State.askDestroy (s : State) (e : Nat) : State :=
  let st := s.enclaveState e
  if st = enStopped || st = enRunning then (s.destroyEnclave e).answer .ok else s.answer (.refused 8)

/-- ENCLAVE_COMMAND_DESTROY (R391). -/
def execEnclaveCommandDestroy (who : Requester) (e : Fin 64) (s : State) : Host.Outcome State Fault Refusal :=
  .next (s.onEnclave who e 4 fun s => s.askDestroy e)

/-- ENCLAVE_DESTROY: 1 destroys the enclave, 0 does nothing (R391, R416). -/
def execEnclaveDestroy (who : Requester) (e : Fin 64) (v : Bool) (s : State) : Host.Outcome State Fault Refusal :=
  .next (s.onWrite who Obj.ENCLAVE_DESTROY (if v then 1 else 0) 0 e 512 0 fun s =>
    if v then s.guarded (s.needHwReady 2) fun s => s.askDestroy e else s.answer .ok)

/-- The sponsor is unsealed and told that its enclave is lost (R391, R410). -/
def State.tellEnclaveLost (s : State) (e t : Nat) : State :=
  if t < 512 then (s.wr Obj.SEALED 0 0 0 t).toTenant t (s.mkRec 0x0018 3 noStation t [(e, 6)]) else s

/-- An enclave that is EMPTY has neither queues nor an identity (R391, R396). -/
def State.forgetEnclave (s : State) (e : Nat) : State :=
  let s : State := { s with encTouchQ := s.encTouchQ.del e, encNoteQ := s.encNoteQ.del e, encKey := s.encKey.del e,
                            blobs := s.blobs.del (Obj.ENCLAVE_IDENTITY.key 0 e 512 0),
                            sec := { s.sec with enclaves := s.sec.enclaves.del e } }
  (s.unschedule e).setEnclave e enEmpty

/-- Level 2 opens where it waits and no enclave is left (R414). -/
def State.openSystem (s : State) : State :=
  if s.sec.unlocking && s.liveEnclaves.isEmpty then
    ({ s with sec := { s.sec with unlocking := false, opened := s.sec.opened ++ [2] } } : State).wr Obj.DEBUG_LEVEL
      ((max 2 (s.rdN Obj.DEBUG_LEVEL) : Nat))
  else s

/-- ENCLAVE_LOAD_DONE: the image is read into range 0 and verified under the authority key `key`; an
enclave that a debug unlock found LOADING is destroyed once it is STOPPED (R389 to R391, R393). -/
def execEnclaveLoadDone (e : Fin 64) (key : Bytes) (s : State) : Host.Outcome State Fault Refusal :=
  .next (
    if s.enclaveState e ≠ enLoading || !s.secRuns then s
    else
      let code := imageCodeSize (s.imageAt e 64)
      let b := s.imageAt e (0x40 + code + 96)
      let signed := b.take (0x40 + code)
      let identity := Config.sha384 signed
      let base := bits 39 12 (s.rdN Obj.RANGE 0 e 512 0) * 4096
      let good := imageFormatOk b && s.range0Ok e code && Config.sha384 key = s.blob Obj.ENCLAVE_AUTHORITY_HASH
        && Config.ecdsaVerify key identity (b.drop (0x40 + code))
      if good then
        let s := s.store sramLoc base (signed.drop 0x40)
        let (k, s) := s.drawBytes 64
        let s : State := { s with encKey := s.encKey.put e k }
        let s := ((s.setEcl e {}).setEnclave e enStopped).wrBlob Obj.ENCLAVE_IDENTITY identity 0 e
        let t := s.rdN Obj.SPONSOR 0 e
        let s := if t < 512 then s.wr Obj.SEALED 1 0 0 t else s
        let s := s.finish Obj.ENCLAVE_RESULT 0 0 e
        if s.sec.unlocking then s.destroyEnclave e else s
      else
        let s := (s.zeroMem sramLoc base (bits 63 40 (s.rdN Obj.RANGE 0 e 512 0) * 4096)).setEnclave e enEmpty
        (s.finish Obj.ENCLAVE_RESULT 7 0 e).openSystem)

/-- ENCLAVE_DESTROY_DONE: the returns are complete and the ranges scrubbed (R391). -/
def execEnclaveDestroyDone (e : Fin 64) (s : State) : Host.Outcome State Fault Refusal :=
  .next (
    if s.enclaveState e = enDestroying && s.secRuns && (s.heldBlocks e).isEmpty then
      ((((s.scrubRanges (s.enclaveRanges e)).forgetEnclave e).tellEnclaveLost e (s.rdN Obj.SPONSOR 0 e))).openSystem
    else s)

/-- INBOX: the sponsor's message (R398). -/
def execInbox (who : Requester) (e : Fin 64) (data : Bytes) (s : State) : Host.Outcome State Fault Refusal :=
  .next (s.onRequest who fun s =>
    match s.checkAccess who Obj.INBOX true 0 e with
    | some x => (s.mailboxSpoof who Obj.INBOX 0 e 0 (some x)).answer x
    | none =>
      if data.length < 1 || 1024 < data.length then s.answer .badRange
      else s.guarded (s.needHwReady 2) fun s =>
        let c := s.ecl e
        if s.enclaveState e ≠ enStopped && s.enclaveState e ≠ enRunning then s.answer (.refused 8)
        else if c.inbox.isSome then s.answer (.busy 0)
        else
          let s := (s.setEcl e { c with inbox := some data }).toEnclave e (s.mkRec 0x001B 1 noStation noTenant [(data.length, 11)])
          (s.startResult Obj.OUTBOX who 0 e).answer .ok)

/-! ### The lock cycle -/

/-- A secure core runs the enclave (R399). -/
def State.onCore (s : State) (e : Nat) : Bool := s.secRuns && s.enclaveState e = enRunning && s.sec.cores.contains (some e)

/-- A call reaches the device from an enclave that a secure core runs (R399, R401). -/
def State.onCall (s : State) (e : Nat) (f : State → State) : State := if s.onCore e then f s else s

/-- The answer to a call. -/
def State.reply (s : State) (e : Nat) (r : CallResult) : State := s.emit (.call e r)

/-- The block is in the enclave's grant (R401). -/
def State.granted (s : State) (e : Nat) (b : Block) : Bool :=
  bit b.station (s.rdN Obj.GRANT_STATIONS 0 e) && b.n < b.kind.number && bit b.n (s.rdN b.kind.grant 0 e)

/-- BLOCK_LOCKED, BLOCK_RETURNED or BLOCK_RESET of a block. -/
def State.blockRec (s : State) (code prio : Nat) (b : Block) : Rec := s.mkRec code prio b.station noTenant [(b.kind.code, 2), (b.n, 5)]

/-- A lower enclave's ACQUIRE of the block is made in the same cycle: it waits in the queue behind this one, and time moves only when the
queue is empty (R404; assumption 33). -/
def State.lowerAcquire (s : State) (e : Nat) (b : Block) : Bool :=
  s.pending.any fun c => match c with
    | .acquire d n kind k => d.val < e && decide ((⟨n, kind, k⟩ : Block) = b) && s.granted d b && s.onCore d
    | _ => false

/-- ACQUIRE (R264, R401, R402, R404). -/
def execAcquire (e : Fin 64) (n : Fin 8) (kind : BlockKind) (k : Nat) (s : State) : Host.Outcome State Fault Refusal :=
  .next (s.onCall e fun s =>
    let b : Block := ⟨n, kind, k⟩
    if !s.granted e b then s.reply e .noGrant
    else match (s.lock b).st with
      | .locking | .locked | .returning => s.reply e .busy
      | .secure => s.reply e .held
      | .normal =>
        if s.lowerAcquire e b then s.reply e .busy else
        let s := (s.setLock b { st := .locking, enclave := e, towardsEnclave := true }).toHolder n (s.normalHolder b)
          (s.blockRec 0x0015 3 b)
        let s := if kind = .zone then s.recomposeFor n k else s
        s.reply e (.done []))

/-- RELEASE (R401, R402, R404). -/
def execRelease (e : Fin 64) (n : Fin 8) (kind : BlockKind) (k : Nat) (s : State) : Host.Outcome State Fault Refusal :=
  .next (s.onCall e fun s =>
    let b : Block := ⟨n, kind, k⟩
    if !s.granted e b then s.reply e .noGrant
    else match (s.lock b).st with
      | .locking | .locked | .returning => s.reply e .busy
      | .normal => s.reply e .noRight
      | .secure => if (s.lock b).enclave = e then (s.returnBlock b).reply e (.done []) else s.reply e .noRight)

/-- The drain and the BLOCK reset of a block (R135, R183, R250, R317, R403). -/
def State.drainBlock (s : State) (b : Block) : State :=
  let n := b.station
  match b.kind with
  | .layer => (s.dropArmed n (.layer b.n)).defaultSet n (.layer b.n) true
  | .region => ((s.refStop n b.n).dropArmed n (.guard b.n)).resetRegion n b.n
  | .source => s.sourceReset n b.n
  | .zone => s.touchZoneLocked n b.n

/-- The drain of a block can end now: its function is out of reset, and a zone waits for the end of the pair in progress (R250, R406). -/
def State.drainable (s : State) (b : Block) : Bool :=
  (s.ctl b.station).functionsOn
    && (b.kind ≠ .zone || ((s.tch b.station).drained.find b.n).isSome || (s.tch b.station).pairStart.isNone)

/-- LOCK_DRAIN_DONE (R402, R403). -/
def execLockDrainDone (n : Fin 8) (kind : BlockKind) (k : Nat) (s : State) : Host.Outcome State Fault Refusal :=
  .next (
    let b : Block := ⟨n, kind, k⟩
    let l := s.lock b
    if (l.st = .locking || l.st = .returning) && s.drainable b then (s.drainBlock b).setLock b { l with st := .locked } else s)

/-- LOCK_READY: the ready step towards the enclave, or back with the holder of R405, of a zone at the start of the next pair; a request held
by R407 is applied with the last return (R250, R402, R406, R407). -/
def execLockReady (n : Fin 8) (kind : BlockKind) (k : Nat) (s : State) : Host.Outcome State Fault Refusal :=
  .next (
    let b : Block := ⟨n, kind, k⟩
    let l := s.lock b
    if l.st ≠ .locked || !s.secRuns || (kind = .zone && !s.touchZoneDue n k) then s
    else
      let ready (s : State) : State := if kind = .zone then s.touchZoneReady n k else s
      if l.towardsEnclave then ready (s.setLock b { l with st := .secure })
      else
        let s := ready (s.setLock b {})
        (s.toHolder n (s.holder b) (s.blockRec 0x0016 2 b)).applyHeld n)

/-! ### Restart -/

/-- What a reset that reaches the secure complex does to it at once: keys erased, every enclave EMPTY, its commands abandoned (R385, R391,
R410, R476). -/
def State.secureDown (s : State) : State :=
  let s := s.each s.liveEnclaves fun s e => s.forgetEnclave e
  let s : State := { s with encKey := [], sec := { s.sec with enclaves := [], cores := [none, none], nonce := none, attest := none,
                                                              unlocking := false } }
  let dead : List OKey := [Obj.ATTEST_REPORT.key 0 0 512 0, Obj.DEBUG_RESULT.key 0 0 512 0]
    ++ (List.range 64).flatMap fun e => [Obj.ENCLAVE_RESULT.key 0 e 512 0, Obj.OUTBOX.key 0 e 512 0]
  let s : State := { s with results := s.results.filter fun r => !dead.contains r.1,
                            blobs := s.blobs.filter fun r => !dead.contains r.1 }
  (s.zeroMeasurement 1).setSecState secBooting

/-- A reset of SEC reach: the restart begins; guarded regions of held blocks are shuttered, held sources silent (R25, R406, R410). -/
def State.secRestart (s : State) : State :=
  let lost := s.liveEnclaves.map fun e => LostEnclave.mk e (s.rdN Obj.SPONSOR 0 e) (s.enclaveRanges e)
  let s : State := { s with sec := { s.sec with lost := s.sec.lost ++ lost, restarting := true } }
  let s := s.secureDown.count Obj.SEC_RESTARTS
  let s := s.each (s.locks.filter fun l => l.2.st = .secure || l.2.st = .returning) fun s l =>
    match l.1.kind with
    | .region => s.resetRegion l.1.station l.1.n
    | .source => s.sourceReset l.1.station l.1.n
    | .layer | .zone => s
  s.alarm 19 0 noStation 0

/-- SEC_SCRUB_DONE: secure SRAM and the ranges are zero, the blocks go back, the sponsors are told (R410). -/
def execSecScrubDone (s : State) : Host.Outcome State Fault Refusal :=
  .next (
    if s.rdN Obj.SEC_STATE ≠ secScrubbing then s
    else
      let lost := s.sec.lost
      let s := (s.each lost fun s l => s.scrubRanges l.ranges).zeroMem sramLoc 0 sramBytes
      let s : State := { s with sec := { s.sec with lost := [], restarting := false } }
      let s := s.setSecState secReady
      let s : State := { s with rst := { s.rst with secEnded := true } }
      let s := s.each (s.locks.map (·.1)) fun s b => s.returnBlock b
      s.each lost fun s l => s.tellEnclaveLost l.e l.sponsor)

/-! ### Attestation -/

/-- ATTEST_CHALLENGE: a nonce of 32 bytes starts a report (R387). -/
def execAttestChallenge (who : Requester) (nonce : Bytes) (s : State) : Host.Outcome State Fault Refusal :=
  .next (s.onRequest who fun s =>
    match s.checkAccess who Obj.ATTEST_CHALLENGE true with
    | some x => (s.mailboxSpoof who Obj.ATTEST_CHALLENGE 0 0 0 (some x)).answer x
    | none =>
      if nonce.length ≠ 32 then s.answer .badRange
      else s.guarded (s.needHwReady 2) fun s =>
        if s.isPending Obj.ATTEST_REPORT then s.answer (.busy 0)
        else
          let s : State := { s with sec := { s.sec with attest := some nonce } }
          (s.startResult Obj.ATTEST_REPORT who).answer .ok)

/-- What a report holds: the nonce, the identity of the device, M0 to M5, and number, identity and state of every enclave that is not
EMPTY (R387). -/
def State.reportBody (s : State) (nonce : Bytes) : Bytes :=
  nonce ++ s.blob Obj.DEVICE_IDENTITY ++ ((List.range 6).map fun k => s.blob Obj.MEASUREMENT 0 0 512 k).flatten
    ++ (s.liveEnclaves.map fun e => toLE 1 e ++ padTo 48 (s.blob Obj.ENCLAVE_IDENTITY 0 e) ++ toLE 1 (s.enclaveState e)).flatten

/-- ATTEST_REPORT_DONE (R387). -/
def execAttestReportDone (s : State) : Host.Outcome State Fault Refusal :=
  .next (
    match s.sec.attest with
    | none => s
    | some nonce =>
      let body := s.reportBody nonce
      let s : State := { s with sec := { s.sec with attest := none } }
      (s.wrBlob Obj.ATTEST_REPORT (body ++ Config.ecdsaSign Config.attestKey (Config.sha384 body))).completeResult Obj.ATTEST_REPORT 0)

end Sys2Proof.Machine
end

