-- ==== Sys2Proof/Machine/Slices.lean ====
section
/-! DEFINITION. Slices: their state, their bindings, rights and windows, SLICE resets and resets of a port (R26, R356 to R361, R375 to
R379, R656). -/
namespace Sys2Proof.Machine

/-! ### State -/

/-- The stations a slice is bound to. -/
def State.sliceStations (s : State) (t : Nat) : List Nat := (List.range 8).filter fun n => s.sliceOn t n

/-- `SLICE_STATE` follows what the slice is in (R377 to R379, R382). -/
def State.syncSlice (s : State) (t : Nat) : State :=
  let c := s.slc t
  let v := if !s.sliceEnabled t && !c.resetting then slUnbound
    else if (s.prt (s.rdN Obj.SLICE_PORT 0 0 t)).linkDown then slPortReset
    else if c.resetting then slResetting
    else if c.quarantined then slQuarantined
    else slActive
  s.wr Obj.SLICE_STATE (v : Nat) 0 0 t

/-- The enabled slices of a port, in increasing tenant number. -/
def State.slicesOf (s : State) (p : Nat) : List Nat := tenants.filter fun t => s.sliceEnabled t && s.rdN Obj.SLICE_PORT 0 0 t = p

/-- `SLICES_BOUND` of both ports (R382). -/
def State.syncPorts (s : State) : State := s.each [0, 1] fun s p => s.wr Obj.SLICES_BOUND ((s.slicesOf p).length : Nat) 0 p

/-- The headgate fetches for every station of a slice. -/
def State.fetchFor (s : State) (t : Nat) : State := s.each (s.sliceStations t) fun s n => s.fetch n

/-! ### Holdings -/

/-- The items of a kind that a slice's masks hold in force on a station (R358). -/
def State.effMask (s : State) (t n : Nat) (k : BlockKind) : Nat :=
  if s.sliceEnabled t && s.sliceOn t n then s.rdN k.mask 0 n t else 0

/-- The kinds of block. -/
def blockKinds : List BlockKind := [.layer, .region, .zone, .source]

/-- Another enabled slice holds an item of a mask (R358). -/
def State.heldByOther (s : State) (t n : Nat) (k : BlockKind) (mask : Nat) : Bool :=
  mask ≠ 0 && tenants.any fun u => u ≠ t && (s.effMask u n k &&& mask) ≠ 0

/-- A hold ends: what the block's holder had of it is revoked, unless a lock cycle has the block (R360, R406, R656). -/
def State.revokeBlock (s : State) (b : Block) (was : Holder) : State :=
  if !s.isNormal b then s
  else
    match b.kind with
    | .layer => s.discardSet b.station (.layer b.n)
    | .region => s.discardSet b.station (.guard b.n)
    | .zone => match was with
      | .tenant t => s.zoneRevoke b.station t b.n
      | .enclave _ | .manager | .nobody => s
    | .source => if b.n < 12 then s.stopStream b.station b.n else if b.n < 14 then s.stopTone b.station (b.n - 12) else s

/-- What a change of a slice's masks, rights or binding does on a station: items it loses are revoked from it, items it gains from the
manager (R360, R656). `old` is the state before the change. -/
def State.rehold (s : State) (old : State) (t n : Nat) : State :=
  let s := s.each blockKinds fun s k =>
    let before := old.effMask t n k
    let after := s.effMask t n k
    s.each ((List.range k.number).filter fun i => bit i before ≠ bit i after) fun s i =>
      s.revokeBlock ⟨n, k, i⟩ (if bit i before then .tenant t else .manager)
  let s := if old.hasRight t n 2 ≠ s.hasRight t n 2 then s.discardSet n .station else s
  s.syncZones n

/-- `rehold` on every station. -/
def State.reholdAll (s : State) (old : State) (t : Nat) : State := s.each (List.range 8) fun s n => s.rehold old t n

/-! ### Bindings -/

/-- Two enabled slices on one port would have one PASID (R357). -/
def State.pasidInUse (s : State) (t : Nat) : Bool :=
  (s.slicesOf (s.rdN Obj.SLICE_PORT 0 0 t)).any fun u => u ≠ t && s.rd Obj.SLICE_PASID 0 0 u = s.rd Obj.SLICE_PASID 0 0 t

/-- A station would have more than 128 enabled slices (R357). -/
def State.stationFull (s : State) (t stations : Nat) : Bool :=
  (maskBits 8 stations).any fun n => 128 ≤ ((s.boundTenants n).filter (· ≠ t)).length

/-- An enabled slice on these stations would hold what another one holds (R358). -/
def State.bindingHeld (s : State) (t stations : Nat) : Bool :=
  (maskBits 8 stations).any fun n => blockKinds.any fun k => s.heldByOther t n k (s.rdN k.mask 0 n t)

/-- A guard right on some station (R358). -/
def State.anyGuardMask (s : State) (t : Nat) : Bool := (List.range 8).any fun n => s.rdN Obj.GUARD_MASK 0 n t ≠ 0

/-- The row a write of rights names: 0 RIGHTS, then the masks. -/
def rightsRow : Nat → ObjRow
  | 0 => Obj.RIGHTS
  | 1 => Obj.LAYER_MASK
  | 2 => Obj.GUARD_MASK
  | 3 => Obj.ZONE_MASK
  | _ => Obj.SOURCE_MASK

/-- The kind of block of a mask of rights. -/
def rightsKind : Nat → Option BlockKind
  | 1 => some .layer
  | 2 => some .region
  | 3 => some .zone
  | 4 => some .source
  | _ => none

/-- A window value meets R361. -/
def State.windowOk (s : State) (n v : Nat) : Bool :=
  let w := windowSpan v
  w.size = 0 || (bits 11 2 v = 0 && w.access ≠ 0 && s.reservedTop n ≤ w.base && w.base + w.size ≤ s.usableBytes n)

/-- Why a binding write is refused; `authorised` where the secure complex issues it for a sealed slice (R357, R358, R361, R398). -/
def State.bindRefusal (s : State) (t : Nat) (w : BindWrite) (authorised : Bool) : Option Status :=
  let on := s.sliceEnabled t
  let sealed_ := s.rdB Obj.SEALED 0 0 t && !authorised
  let sealRefusal : Option Status := if sealed_ then some (.refused 4) else none
  match w with
  | .enable true =>
    if on then sealRefusal
    else if s.pasidInUse t then some (.refused 1)
    else if s.stationFull t (s.rdN Obj.SLICE_STATIONS 0 0 t) then some (.refused 2)
    else if sealed_ then sealRefusal
    else if s.bindingHeld t (s.rdN Obj.SLICE_STATIONS 0 0 t) then some (.refused 5)
    else if s.anyGuardMask t && s.rdN Obj.SLICE_CLASS 0 0 t ≠ 0 then some (.refused 6)
    else none
  | .enable false => sealRefusal
  | .port v => if on && v ≠ s.rdN Obj.SLICE_PORT 0 0 t then some (.refused 3) else sealRefusal
  | .pasid v => if on && v ≠ s.rdN Obj.SLICE_PASID 0 0 t then some (.refused 3) else sealRefusal
  | .cls v => if sealed_ then sealRefusal else if v ≠ 0 && s.anyGuardMask t then some (.refused 6) else none
  | .stations v =>
    if on && s.stationFull t v then some (.refused 2)
    else if sealed_ then sealRefusal
    else if on && s.bindingHeld t v then some (.refused 5)
    else none
  | .rights n which v =>
    if sealed_ then sealRefusal
    else match rightsKind which with
      | none => none
      | some k =>
        if on && s.sliceOn t n && s.heldByOther t n k v then some (.refused 5)
        else if k = .region && v ≠ 0 && s.rdN Obj.SLICE_CLASS 0 0 t ≠ 0 then some (.refused 6)
        else none
  | .window n _ v => if !s.windowOk n v then some .badRange else sealRefusal

/-- A slice is enabled: its ledger is cleared, and it takes what its masks name from the manager (R356, R428, R656). -/
def State.enableSlice (s : State) (t : Nat) : State :=
  let new := (s.clearLedger t).wr Obj.SLICE_ENABLE 1 0 0 t
  (((new.reholdAll s t).syncSlice t).syncPorts).fetchFor t

/-- The armed copy of a layer, if it is armed. -/
def State.layerArmed (s : State) (n l : Nat) : Option LayerCfg :=
  ((s.cmp n).armed.find (.layer l)).map fun a =>
    layerCfgOf fun r => (((a.named n (.layer l)).find? fun v => v.1 = r.key n l 512 0).map (·.2)).getD 0

/-- The armed copy of the station set, if it is armed. -/
def State.stationArmed (s : State) (n : Nat) : Option (ObjRow → Int) :=
  ((s.cmp n).armed.find .station).map fun a =>
    fun r => (((a.named n .station).find? fun v => v.1 = r.key n 0 512 0).map (·.2)).getD 0

/-- Who committed the armed copy of a set. -/
def State.armedBy (s : State) (n : Nat) (k : SetId) : Option Holder :=
  ((s.cmp n).armed.find k).bind fun a => ((s.cmp n).commits.find a.commit).map CommitRec.holder

/-- The sets whose active or armed copy, committed by the tenant, names a buffer, or a write-back area, that a change of a window of the
tenant takes away (R136, R659). -/
def State.setsUncovered (s : State) (new : State) (t n : Nat) : List SetId :=
  let gone (access : Nat) (e : Nat × Nat) : Bool := s.inside (.tenant t) n access e.1 e.2 && !new.inside (.tenant t) n access e.1 e.2
  let mine (k : SetId) : Bool := (s.cmp n).shown.find k = some (.tenant t)
  let armedMine (k : SetId) : Bool := s.armedBy n k = some (.tenant t)
  let layer (c : LayerCfg) : Bool := c.enable && c.extents.any (gone 1)
  let wb (get : ObjRow → Int) : Bool := get Obj.WB_ENABLE ≠ 0 && (let a := wbArea get; gone 2 (a.1, a.2.1))
  ((List.range 16).map SetId.layer ++ [SetId.station]).filter fun k =>
    match k with
    | .layer l => (mine k && layer (s.layerActive n l)) || (armedMine k && ((s.layerArmed n l).map layer).getD false)
    | .station => (mine k && wb fun r => s.rd r n) || (armedMine k && ((s.stationArmed n).map wb).getD false)
    | .guard _ => false

/-- A window takes its new value, at once or, where a buffer must first be released, at the next latch (R136, R361). -/
def State.writeWindow (s : State) (t n w v : Nat) : State :=
  let new := s.wr Obj.WINDOW (v : Nat) 0 n t w
  let sets := if (windowSpan (s.rdN Obj.WINDOW 0 n t w)).size = 0 then [] else s.setsUncovered new t n
  if sets.isEmpty then new.fetch n
  else
    let s := s.each sets fun s k => s.dropArmed n k
    let c := s.cmp n
    let s := s.setCmp n { c with revoking := c.revoking ++ sets.map fun k => (k, t) }
    let x := s.slc t
    s.setSlc t { x with revoking := x.revoking ++ [(n, w, v)] }

/-! ### SLICE resets -/

/-- The SLICE actions on a station (R71, R81, R134, R166, R256, R290, R316), leaving out blocks that a lock cycle has (R406). -/
def State.sliceActions (s : State) (t n : Nat) : State :=
  let mine (d : Descriptor) : Bool := d.tenant = t
  let s : State := { s with ingress := s.ingress.put n ((s.ingress.getD n []).filter fun d => !mine d) }
  let s := s.rasterSlice n t
  let held (k : BlockKind) : List Nat := (List.range k.number).filter fun i => bit i (s.effMask t n k) && s.isNormal ⟨n, k, i⟩
  let s := s.each (held .layer) fun s l => s.discardSet n (.layer l)
  let s := s.each (held .region) fun s g => s.discardSet n (.guard g)
  let s := if s.hasRight t n 2 then s.discardSet n .station else s
  ((s.touchRevoke n t).hapticRevoke n t).audioRevoke n t

/-- No reset holds the control core or the functions of a station. -/
def State.stationUp (s : State) (n : Nat) : Bool := !s.rst.inReset.contains (.core n) && !s.rst.inReset.contains (.func n)

/-- The actions that a SLICE reset owes a station are applied once the station's domains are released (R565). -/
def State.sliceDue (s : State) (n : Nat) : State :=
  if !s.stationUp n then s
  else s.each ((s.slices.filter fun e => e.2.due.contains n).map (·.1)) fun s t =>
    let s := s.sliceActions t n
    let c := s.slc t
    s.setSlc t { c with due := c.due.filter (· ≠ n) }

/-- A ring at its reset: what its outstanding reads bring is discarded (R377). -/
def Ring.drained (r : Ring) : Ring := { stale := r.stale + r.reading }

/-- A SLICE reset begins, or joins the one in progress (R377, R379). Stations held in a wider reset apply its actions as they are released
(R565); a station that the slice is no longer bound to may still hold jobs and translations of it (R71). -/
def State.sliceReset (s : State) (t : Nat) (unbind : Bool) : State :=
  let c := s.slc t
  if c.resetting then s.setSlc t { c with unbind := c.unbind || unbind }
  else if !s.sliceEnabled t then s
  else
    let up := (List.range 8).filter s.stationUp
    let due := (s.sliceStations t).filter fun n => !s.stationUp n
    let s := s.each up fun s n => s.sliceActions t n
    let c := s.slc t
    let s := s.setSlc t { c with resetting := true, unbind := unbind, rings := c.rings.map (fun e => (e.1, e.2.drained)), due := due }
    let s : State := { s.cvTransfersLost t with touchQ := s.touchQ.del t }
    (s.countTenantItems t).syncSlice t

/-- The settings that a SLICE reset returns to their defaults, besides those of the rings (R377). -/
def landingRows : List ObjRow :=
  [Obj.TOUCH_LAND_ADDR, Obj.TOUCH_LAND_ENTRIES, Obj.NOTIFY_LAND_ADDR, Obj.NOTIFY_LAND_ENTRIES, Obj.LAND_SHADOW_ADDR, Obj.VECTOR_MAP]

/-- The rows of a ring (R382). -/
def ringRows : List ObjRow :=
  [Obj.RING_ENABLE, Obj.RING_KIND, Obj.RING_ADDR, Obj.RING_ENTRIES, Obj.COMP_ADDR, Obj.SHADOW_ADDR, Obj.RING_VECTOR, Obj.RING_STATE]

/-- Ring, landing, vector and mailbox settings and queues at their defaults, pending messages cleared (R377, R612). -/
def State.sliceDefaults (s : State) (t : Nat) : State :=
  let keys := landingRows.map (fun r => r.key 0 0 t 0) ++ ringRows.flatMap fun r => (List.range 32).map fun i => r.key 0 i t 0
  let s : State := { s with regs := s.regs.filter (fun e => !keys.contains e.1), touchQ := s.touchQ.del t, noteQ := s.noteQ.del t }
  let s := ((s.wr Obj.TOUCH_LOST 0 0 0 t).wr Obj.NOTIFY_LOST 0 0 0 t).countTenantItems t
  let p := s.rdN Obj.SLICE_PORT 0 0 t
  let c := s.prt p
  let s := s.setPrt p { c with msixPending := c.msixPending.filter fun v => v / 4 ≠ t }
  let x := s.slc t
  s.setSlc t { x with rings := [], touchLand := {}, noteLand := {}, mailbox := {} }

/-- A binding write takes effect; the caller has checked it (R356 to R361). -/
def State.applyBind (s : State) (t : Nat) (w : BindWrite) : State :=
  match w with
  | .enable true => if s.sliceEnabled t then s else s.enableSlice t
  | .enable false => s
  | .port v => (s.wr Obj.SLICE_PORT (v : Nat) 0 0 t).syncSlice t
  | .pasid v => s.wr Obj.SLICE_PASID (v : Nat) 0 0 t
  | .cls v => s.wr Obj.SLICE_CLASS (v : Nat) 0 0 t
  | .stations v => ((s.wr Obj.SLICE_STATIONS (v : Nat) 0 0 t).reholdAll s t).fetchFor t
  | .rights n which v => ((s.wr (rightsRow which) (v : Nat) 0 n t).rehold s t n).fetch n
  | .window n j v => s.writeWindow t n j v

/-- A write of the binding of R356 while the slice is RESETTING waits for the end of the reset (R379). -/
def BindWrite.waits : BindWrite → Bool
  | .enable _ | .port _ | .pasid _ | .cls _ | .stations _ => true
  | .rights _ _ _ | .window _ _ _ => false

/-- A binding write that has passed R461: refused, kept, or applied. -/
def State.bind (s : State) (t : Nat) (w : BindWrite) (authorised : Bool) : State × Option Status :=
  match s.bindRefusal t w authorised with
  | some e => (s, some e)
  | none =>
    let c := s.slc t
    if c.resetting && w.waits then (s.setSlc t { c with heldWrites := c.heldWrites ++ [w] }, none) else (s.applyBind t w, none)

/-- The end of a SLICE reset: UNBOUND after SLICE_ENABLE 0; writes kept meanwhile take effect where they are still allowed (R377, R379).
-/
def State.sliceResetEnd (s : State) (t : Nat) : State :=
  let c := s.slc t
  if !c.resetting then s
  else
    let s := s.sliceDefaults t
    let c := s.slc t
    let held := c.heldWrites
    let s := s.setSlc t { c with resetting := false, heldWrites := [] }
    let s := if c.unbind then
        let new := (s.setSlc t { s.slc t with unbind := false }).wr Obj.SLICE_ENABLE 0 0 0 t
        (new.reholdAll s t).syncPorts
      else s
    let s := s.syncSlice t
    s.each held fun s w => if (s.bindRefusal t w true).isSome then s else s.applyBind t w

/-! ### Ports -/

/-- A port's ready bit: HP_A or HP_B. -/
def hpBit (p : Nat) : Nat := 6 + p

/-- What a reset of a port does to the slices bound to it; its reads bring nothing any more (R26, R378). -/
def State.portSlices (s : State) (p : Nat) : State :=
  let s := s.setPrt p { s.prt p with linkDown := true, msixPending := [], unmasked := [] }
  s.each (s.slicesOf p) fun s t =>
    let s := s.sliceReset t false
    (s.setSlc t { s.slc t with rings := [] }).syncSlice t

/-- The link is up: the slices of the port leave PORT_RESET (R378). -/
def State.portLinkUp (s : State) (p : Nat) : State :=
  let s := s.setPrt p { s.prt p with linkDown := false }
  s.each (s.slicesOf p) fun s t => s.syncSlice t

/-! ### Commands -/

/-- QUARANTINE_RELEASE: a write of 1 by the manager or a host mailbox at EXPERT level ends QUARANTINED and restarts the failure
count (R376). -/
def execQuarantineRelease (who : Requester) (t : Fin 512) (v : Nat) (s : State) : Host.Outcome State Fault Refusal :=
  .next (
    let t := who.instanceOf t
    s.onWrite who Obj.QUARANTINE_RELEASE v 0 0 t 0 fun s =>
      if v = 1 && (s.slc t).quarantined then
        let s := (s.setSlc t { s.slc t with quarantined := false, failures := [] }).syncSlice t
        ((s.clearAlarm 14 noStation t).fetchFor t).answer .ok
      else s.answer .ok)

/-- RIGHTS_WRITE: `which` is 0 for RIGHTS and 1 to 4 for the masks (R358 to R360). -/
def execRightsWrite (who : Requester) (t : Fin 512) (n : Fin 8) (which : Fin 5) (v : Nat) (s : State) : Host.Outcome State Fault Refusal :=
  .next (
    let t := who.instanceOf t
    s.onWrite who (rightsRow which) v 0 n t 0 fun s =>
      let (s, e) := s.bind t (.rights n which v) false
      s.answer (e.getD .ok))

/-- WINDOW_WRITE (R136, R361). -/
def execWindowWrite (who : Requester) (t : Fin 512) (n : Fin 8) (w : Fin 16) (v : Nat) (s : State) : Host.Outcome State Fault Refusal :=
  .next (
    let t := who.instanceOf t
    s.onWrite who Obj.WINDOW v 0 n t w fun s =>
      let (s, e) := s.bind t (.window n w v) false
      s.answer (e.getD .ok))

/-- A wider reset still holds a domain in which the slice's actions are due (R565). -/
def State.sliceDomainsUp (s : State) (t : Nat) : Bool :=
  !s.rst.inReset.contains (.port (s.rdN Obj.SLICE_PORT 0 0 t)) && (s.slc t).due.isEmpty && (s.sliceStations t).all s.stationUp

/-- The reads that a slice had outstanding at its reset have returned, or failed (R377). -/
def State.sliceReadsOver (s : State) (t : Nat) : Bool := (s.slc t).rings.all fun e => e.2.reading = 0 && e.2.stale = 0

/-- SLICE_RESET_DONE: the outstanding reads have drained and the settings are reset (R377, R565). -/
def execSliceResetDone (t : Fin 512) (s : State) : Host.Outcome State Fault Refusal :=
  .next (if s.sliceDomainsUp t && s.sliceReadsOver t then s.sliceResetEnd t else s)

end Sys2Proof.Machine
end

