-- ==== Sys2Proof/Machine/UpdateCore.lean ====
section
/-! DEFINITION. States of the update engine, and what failures and wide resets do to an update in progress (R536, R544, R549). -/
namespace Sys2Proof.Machine

/-- `UPDATE_STATE` values of R550. -/
def upIdle : Nat := 0
def upReceiving : Nat := 1
def upVerifying : Nat := 2
def upReady : Nat := 3
def upApplying : Nat := 4
def upTrial : Nat := 5
def upReverting : Nat := 6

/-- Ranks of R534. -/
def rkSec : Nat := 0
def rkMgmt : Nat := 1
def rkStn : Nat := 2
def rkTch : Nat := 3

/-- `UPDATE_STATE`. -/
def State.updState (s : State) : Nat := s.rdN Obj.UPDATE_STATE

/-- The state with the engine replaced. -/
def State.setUpd (s : State) (v : Update) : State := { s with upd := v }

/-- The rank of the step in progress: of the next step forward, or of the step being reversed. -/
def State.stepRank (s : State) : Option Nat :=
  if s.updState = upReverting then (if s.upd.index = 0 then none else s.upd.plan[s.upd.index - 1]?)
  else s.upd.plan[s.upd.index]?

/-- `UPDATE_STEP` shows the step in progress (R550). -/
def State.syncStep (s : State) : State :=
  let ix := if s.updState = upReverting then s.upd.index - 1 else s.upd.index
  let v := match s.upd.wait, s.stepRank with
    | .sec, _ => 0x0F
    | .run, some r => ix * 16 + r
    | _, _ => 0xFF
  s.wr Obj.UPDATE_STEP (v : Nat)

/-- An update fails: the engine reverts the completed steps, and of a partly completed STN or TCH step the stations already swapped
(R544, R545). -/
def State.failUpdate (s : State) (code : Nat) : State :=
  if s.updState ≠ upApplying && s.updState ≠ upTrial then s
  else
    let u := s.upd
    let partly := (s.updState = upApplying) && 0 < u.swapped
    let s := s.setUpd { u with failure := some (u.failure.getD code), index := u.index + (if partly then 1 else 0),
                               swapped := if partly then u.swapped else 8, reversed := 0, wait := .gap, since := s.time, mgmtStep := false }
    (s.wr Obj.UPDATE_STATE (upReverting : Nat)).syncStep

/-- Pieces not yet programmed are lost; the position of one whose program had begun is no longer erased (R532, R568). -/
def Update.dropWrites (u : Update) : Update :=
  let u := match u.writing with
    | p :: _ => if p.erase then u else { u with staged := u.staged.put p.seq [] }
    | [] => u
  { u with writing := [], erasing := false }

/-- Verification and copying start again, pieces not yet programmed are lost (R532, R549). -/
def State.updateMgmtReset (s : State) : State := s.setUpd s.upd.dropWrites

/-- What a COLD or WARM reset does to an update: a SEC or MGMT step in progress is redone from its start, an STN or TCH step in progress
counts as complete; the handover record is cleared (R538, R549). -/
def State.updateWide (s : State) : State :=
  let u := { s.upd.dropWrites with handover := none, mgmtStep := false }
  let s := s.setUpd u
  let begun : Bool := 0 < u.swapped || u.wait = .run
  match s.stepRank with
  | some r =>
    if s.updState = upApplying && (r = rkStn || r = rkTch) && begun then
      (s.setUpd { u with index := u.index + 1, swapped := 0, wait := .gap, since := 0 }).syncStep
    else if s.updState = upReverting && (r = rkStn || r = rkTch) && (0 < u.reversed || u.wait = .run) then
      (s.setUpd { u with index := u.index - 1, swapped := 8, reversed := 0, wait := .gap, since := 0 }).syncStep
    else if u.wait = .none then s
    else (s.setUpd { u with wait := .gap, since := 0 }).syncStep
  | none => s

end Sys2Proof.Machine
end

