-- ==== Sys2Proof/Machine/Reset.lean ====
section
/-! DEFINITION. Reset and clock control: sources, holds, what each reach resets, and the cause register (R551 to R569). -/
namespace Sys2Proof.Machine

/-! ### Domains and reaches -/

/-- The station domains of step 8 in release order (R562). -/
def stationDomains : List Domain := (List.range 8).flatMap fun n => [.memc n, .core n, .func n]

/-- Every domain in release order (R551, R562). -/
def allDomains : List Domain := [.supplies, .trim, .aon, .sec, .mgmt, .port 0, .port 1, .net] ++ stationDomains

/-- Reach codes of R555. -/
def rCold : Nat := 1
def rWarm : Nat := 2
def rMgmt : Nat := 3
def rSec : Nat := 4
def rPort : Nat := 5
def rStation : Nat := 6
def rSlice : Nat := 7

/-- The domains of a reach (R551, R558). -/
def ResetReq.domains (r : ResetReq) : List Domain :=
  let x := r.target.getD 0
  if r.reach = rCold then allDomains
  else if r.reach = rWarm then allDomains.filter fun d => match d with
    | .aon | .memc _ => false
    | .supplies | .trim | .sec | .mgmt | .port _ | .net | .core _ | .func _ => true
  else if r.reach = rMgmt then [.mgmt, .net]
  else if r.reach = rSec then [.sec]
  else if r.reach = rPort then [.port x]
  else if r.reach = rStation then
    (if r.coreOnly then [.core x] else if r.reinit then [.memc x, .core x, .func x] else [.core x, .func x])
  else []

/-- The reach of a source in SERVICE (R554). -/
def serviceReach : Nat → Nat
  | 0 | 1 => rCold
  | 2 | 3 | 13 => rWarm
  | 4 | 11 | 14 => rMgmt
  | 5 => rSec
  | 6 | 15 => rStation
  | 7 | 8 | 9 => rPort
  | _ => rSlice

/-- Sources that ignore the source map (R554). -/
def fixedSource (k : Nat) : Bool := [0, 1, 3, 11, 12, 15].contains k

/-- An entry of the source map (R581). -/
def State.mapEntry (s : State) (k : Nat) : Nat := bits (4 * k + 3) (4 * k) (ofLE (s.blob Obj.SOURCE_MAP))

/-- A source carries what an entry's reach needs: a station, a port, a tenant or a port (R555). -/
def carries (source reach : Nat) : Bool :=
  if reach = rStation then source = 6 || source = 15
  else if reach = rPort then [7, 8, 9, 10].contains source
  else if reach = rSlice then [7, 8, 9, 10].contains source
  else true

/-- The reach of a source in the present state (R554, R555). Code 8, which no source gives, acts as WARM too. -/
def State.reachOf (s : State) (source : Nat) (hasTarget : Bool) : Nat :=
  if s.deviceState = 2 || fixedSource source then serviceReach source
  else
    let c := s.mapEntry source
    if 8 ≤ c then rWarm
    else if (c = rPort || c = rStation || c = rSlice) && !(carries source c && hasTarget) then rWarm
    else c

/-- A source as it is asserted: its port or station, its tenant. An FLR of a port names the port alone (R554). -/
def State.request (s : State) (source : Nat) (target tenant : Option Nat) : ResetReq :=
  let c := s.reachOf source (target.isSome || tenant.isSome)
  { source := source, reach := if c = rPort && target.isNone then rWarm else c, target := target, tenant := tenant }

/-! ### What a reset does to a domain as it enters reset -/

/-- Keys of an area from an object number on, to below another. -/
def inBlock (k : OKey) (area lo hi : Nat) : Bool := k.area = area && lo ≤ k.idx && k.idx < hi

/-- Objects of the management complex and the field network that are not saved (R551). -/
def mgmtOwned (k : OKey) : Bool :=
  inBlock k 0 0x0020 0x0021 || inBlock k 0 0x0030 0x0041 || inBlock k 4 0x2010 0x2404 || inBlock k 4 0x4100 0x4140
    || inBlock k 4 0x5010 0x5011 || inBlock k 5 0x0002 0x0003 || inBlock k 5 0x0021 0x0022 || inBlock k 5 0x1001 0x1002
    || inBlock k 5 0x1100 0x1102 || inBlock k 5 0x1112 0x1250 || inBlock k 7 0x1200 0x1201
    || (8 ≤ k.area && k.idx = 0x0060)

/-- Bits of `READY_HEADWORKS` that a reset of MGMT reach clears: MGMT, DICTIONARY, TRANSLATOR, BDA, CAN, UPDATE, CHECK, QUEUES and
SETTINGS (R494, R496). -/
def mgmtBits : List Nat := [3, 4, 5, 9, 10, 11, 14, 15, 16]

/-- Ready bits cleared. -/
def State.hwClear (s : State) (bs : List Nat) : State := s.each bs fun s b => s.hwReady b false

/-- The role in force: the strap, unless `ROLE_SELECT` overrides it; a device at depth 3 stays a worker (R511). -/
def State.syncRole (s : State) : State :=
  let sel := s.rdN Obj.ROLE_SELECT
  let wanted := if sel = 0 then (if s.net.strap then 1 else 2) else sel
  let path := s.rdN Obj.DEVICE_PATH
  let deep := path ≠ 0xFFFFFFFF && bits 5 0 path ≠ 0
  if wanted = 1 && deep then (s.wr Obj.ROLE 2).alarm 23 0 noStation path else s.wr Obj.ROLE (wanted : Nat)

/-- A reset that reaches the management complex and the field network (R23, R24, R57, R385, R487, R509, R622, R654). Saved objects keep
their values (R492). -/
def State.mgmtDown (s : State) : State :=
  let s := s.clearObjects fun k => mgmtOwned k && !k.isSaved
  let n := s.net
  let s : State := { s with
    staging := [], snapshots := [], subscriptions := [], peerLevel := [], hwLogQ := {}, alarmQ := {}, logRings := [],
    alarms := { s.alarms with windows := [], nextSeq := 0 },
    net := { n with peers := [], notifySeq := [], relayed := [], unanswered := [], beatAt := none, streams := [] },
    settings := { s.settings with saving := none, failed := 0 } }
  let s := (s.each (List.range 16) fun s u => s.cvReset u).each (List.range 16) fun s u => s.toDefault Obj.CV_RUNS 0 u
  (((s.translatorReset.updateMgmtReset).zeroMeasurement 2).hwClear mgmtBits).wr Obj.DEVICE_STATE
    (if s.deviceState = 3 || s.deviceState = 4 then (1 : Int) else s.rd Obj.DEVICE_STATE)

/-- A port enters reset (R26, R378). -/
def State.portDown (s : State) (p : Nat) : State :=
  let s := ((s.wr Obj.PORT_STATE 4 p p).wr Obj.LINK_SPEED 0 p p).wr Obj.LINK_WIDTH 0 p p
  let s := s.dropCrossings fun k => k = .hotReset p || k = .portFlr p
  let s := s.setPrt p { s.prt p with ready := false, mailbox := {}, retrainDue := false, retrained := false }
  (s.hwReady (hpBit p) false).portSlices p

/-- A station's control core enters reset: alone, or with the functions (R558, R594). -/
def State.coreDown (s : State) (n : Nat) : State :=
  ((s.dropCrossings fun k => k.station = some n).setCtl n { s.ctl n with coreOn := false }).stReady n 1 false

/-- A station enters a reset of STATION reach (R29, R31, R344, R350, R551). Against an event of the same cycle that led to OFF or to
MEMORY_FAULT the reset wins (R34): from there STARTING begins with initial training. -/
def State.stationDown (s : State) (n : Nat) (reinit : Bool) : State :=
  let tied := s.changedNow n
  if s.stationState n = stOff then
    let s := ((s.hapticReset n).audioReset n).functionDefaults n
    if tied then (s.releaseMemory n).enterStarting n else s
  else
    let fault := s.stationState n = stMemoryFault
    let s := (s.functionsReset n).coreDown n
    if reinit then ((((s.setMmc n { hot := (s.mmc n).hot }).setMem n 0).loseMemory n).enterStarting n)
    else if fault then (if tied then (s.releaseMemory n).enterStarting n else s)
    else ((s.memoryStationReset n).enterStarting n)

/-- BLOCK_RESET to the enclaves of SECURE blocks of a station that is reset (R406). -/
def State.tellBlocksReset (s : State) (n : Nat) : State :=
  s.each (s.locks.filter fun l => l.1.station = n && l.2.st = .secure) fun s l =>
    s.toEnclave l.2.enclave (s.blockRec 0x0017 3 l.1)

/-- A station under a WARM reset: one in MEMORY_FAULT or with its controller FAILED loses its memory and is trained again (R31, R552). -/
def State.stationWarm (s : State) (n : Nat) : State :=
  if s.stationState n = stOff then s.stationDown n false
  else if s.stationState n = stMemoryFault || s.rdN Obj.MEM_STATE n = 5 then
    let s := ((s.functionsReset n).coreDown n).loseMemory n
    (s.releaseMemory n).enterStarting n
  else s.stationDown n false

/-- Unsaved objects of areas 0 to 7 that a WARM reset leaves: the always-on domain's, the fuse values, the boot record's, the switch's and
802.1AS time's, the ready map (R422, R551, R581). -/
def keptByWarm (k : OKey) : Bool :=
  8 ≤ k.area || k.area = 1 || k.area = 2 || inBlock k 0 0 0x0020 || inBlock k 0 0x0021 0x0022 || inBlock k 0 0x00F0 0x00F1
    || inBlock k 4 0 0x1000 || inBlock k 4 0x3000 0x3001 || (inBlock k 4 0x4000 0x4001 && k.sub = 2)
    || (k.area = 5 && !mgmtOwned k) || inBlock k 6 0x0002 0x0003

/-- The values of area-1 and area-2 settings stay until they are loaded; those of the other headworks areas fall to their reset values
with their domains. -/
def warmClears (k : OKey) : Bool := !keptByWarm k && !(k.area = 5 && k.isSaved)

/-- A WARM reset; slots of tenants do not survive it (R31, R274, R385, R393, R551 to R553). -/
def State.warmDown (s : State) : State :=
  let s := (s.secureDown.mgmtDown).updateWide
  let s : State := { s with locks := [], encKey := [], encTouchQ := [], encNoteQ := [],
                            sec := { expiries := s.sec.expiries, enclaves := [] } }
  let s := s.each [0, 1] fun s p => s.portDown p
  let s := s.each (List.range 8) fun s n => s.stationWarm n
  let s := s.clearObjects fun k => warmClears k || (k.isEffect && !s.isSavedNow k)
  let perst (p : Nat) : HostPort := { perst := (s.prt p).perst }
  let s : State := { s with slices := [], touchQ := [], noteQ := [], ports := [(0, perst 0), (1, perst 1)], translator := {},
                            settings := { s.settings with firstChange := none } }
  let s := s.each (List.range 8) fun s n => (s.syncZones n).syncSecure n
  let s := ((s.hwClear ([1, 2, 6, 7] ++ mgmtBits)).wr Obj.TRIM_STATE 0).wr Obj.SEC_STATE (secBooting : Nat)
  let s : State := { s with rst := { s.rst with settingsDue := true, loading := [], trimFails := 0, secEnded := false,
                                                mgmtEnded := false, secImage := false, halted := false } }
  ((s.wr Obj.PORT_STATE 4 0 0).wr Obj.PORT_STATE 4 0 1).wr Obj.DEVICE_STATE 1

/-- What a COLD reset leaves of an update: what lies in flash and fuses (R523, R524, R549). -/
def Update.cold (u : Update) : Update := { u with since := 0, trialAt := 0 }

/-- Objects whose values lie in fuses or in the boot record, and the progress of an update with its manifest. -/
def keptByCold (k : OKey) : Bool := k.area = 5 && !mgmtOwned k && !k.isSaved

/-- A COLD reset: everything at its reset values but what lies in flash and in fuses (R27, R551, R566). Device time starts again (R514). -/
def State.coldDown (s : State) : State :=
  let s := s.updateWide
  let tripped := s.rst.tripped
  let set := s.settings
  let z : State := { State.reset with
    pending := s.pending, out := s.out, free := s.free, powered := s.powered,
    regs := s.regs.filter (fun e => keptByCold e.1),
    blobs := s.blobs.filter (fun e => keptByCold e.1),
    settings := { flash := set.flash, seq := set.seq, bank := set.bank, eraseDue := set.eraseDue },
    ports := [(0, { perst := (s.prt 0).perst }), (1, { perst := (s.prt 1).perst })],
    net := { cache := s.net.cache, strap := s.net.strap },
    upd := s.upd.cold,
    rst := { vaon := s.rst.vaon, inReset := allDomains, levels := s.rst.levels, brownOut := s.rst.brownOut, refLost := s.rst.refLost,
             settingsDue := true, sourceFuses := s.rst.sourceFuses, pinFuses := s.rst.pinFuses, pinMap := s.rst.pinMap } }
  let z := z.wrB Obj.REF_LOST s.rst.refLost
  let z := (z.wr Obj.RESET_CAUSE ((0x101FF0FF ||| (if tripped then 0x01000000 else 0) : Nat))).wr Obj.RESET_CAUSE_TIME 0
  (z.wr Obj.PORT_STATE 4 0 0).wr Obj.PORT_STATE 4 0 1

/-- What a source does as it is applied, and the count of its reach (R560, R581). -/
def State.applyReset (s : State) (r : ResetReq) : State :=
  let x := r.target.getD 0
  let s :=
    if r.reach = rCold then s.coldDown
    else if r.reach = rWarm then (s.count Obj.RESETS_WARM).warmDown
    else if r.reach = rMgmt then
      let s := (s.count Obj.RESETS_MGMT).mgmtDown
      { s with rst := { s.rst with mgmtEnded := false } }
    else if r.reach = rSec then
      let s := (s.count Obj.RESETS_SEC).secRestart
      { s with rst := { s.rst with secEnded := false } }
    else if r.reach = rPort then (s.count Obj.RESETS_PORT).portDown x
    else if r.reach = rStation then
      let s := s.count Obj.RESETS_STATION
      if r.coreOnly then s.coreDown x
      else
        let t := (s.tellBlocksReset x).stationDown x r.reinit
        if s.rdB Obj.WAKE_PENDING x then t.wakePin else t
    else
      let s := s.count Obj.RESETS_SLICE
      match r.tenant with
      | some t => s.sliceReset t r.unbind
      | none => s.each (s.slicesOf x) fun s t => s.sliceReset t false
  let s := s.each r.domains fun s d => s.pinsReset d
  { s with rst := { s.rst with inReset := s.rst.inReset ++ r.domains.filter (fun d => !s.rst.inReset.contains d),
                               wide := if r.reach ≤ rWarm then
                                   s.rst.wide ++ r.domains.filter (fun d => !s.rst.wide.contains d) else s.rst.wide,
                               loading := s.rst.loading.filter fun n => !r.domains.contains (.func n) } }

/-! ### The cause register -/

/-- The wider of two causes, and within one reach the lower source (R566). -/
def ResetReq.before (a b : ResetReq) : Bool := a.reach < b.reach || (a.reach = b.reach && a.source ≤ b.source)

/-- The register's value for a cause (R566). -/
def ResetReq.cause (r : ResetReq) (held : Bool) : Nat :=
  let flag (b : Bool) (k : Nat) : Nat := if b then 2 ^ k else 0
  let tenant := if r.reach = rSlice then r.tenant.getD noTenant else noTenant
  let target := if r.reach = rPort || r.reach = rStation then r.target.getD 0xFF else 0xFF
  r.reach * 2 ^ 28 + r.source % 16 * 2 ^ 24 + flag r.coreOnly 23 + flag r.reinit 22 + flag held 21 + tenant * 2 ^ 12 + target

/-- The cause of sources applied in one cycle is recorded; a COLD reset records its own (R566). -/
def State.recordCause (s : State) (l : List ResetReq) (held : Bool) : State :=
  match l with
  | [] => s
  | r :: rest =>
    let w := rest.foldl (fun a b => if a.before b then a else b) r
    if w.reach = rCold then s else (s.wr Obj.RESET_CAUSE (w.cause held : Nat)).wr Obj.RESET_CAUSE_TIME s.time

/-- Steps whose end is still awaited are released again at the next release (R564, R571). -/
def Domain.waits : Domain → Bool
  | .supplies | .trim | .sec | .mgmt => true
  | .aon | .port _ | .net | .memc _ | .core _ | .func _ => false

/-- A release in progress stops where a source with a domain is applied (R560, R564). -/
def State.breakRelease (s : State) : State :=
  let back : List Domain := match s.rst.release with
    | .step d => if d.waits && !s.rst.inReset.contains d then [d] else []
    | .idle | .gap _ => []
  { s with rst := { s.rst with release := .idle, inReset := s.rst.inReset ++ back } }

/-- Sources that are levels; the others are pulses (R554). -/
def levelSource (k : Nat) : Bool := [0, 1, 2, 3, 7, 8].contains k

/-- Sources are applied in one cycle, widest reach first (R560, R566). Entries that name NONE are ignored (R555). -/
def State.applyAll (s : State) (l : List ResetReq) (held : Bool) : State :=
  let l := l.filter fun r => r.reach ≠ 0
  let s := if l.any fun r => r.domains ≠ [] then s.breakRelease else s
  let s := s.each (List.range 8) fun s c => s.each (l.filter fun r => r.reach = c) fun s r => s.applyReset r
  let s : State := if (l.any fun r => !levelSource r.source) && l.all fun r => r.reach ≠ rCold then
      { s with rst := { s.rst with pulsedAt := some s.time } } else s
  s.recordCause l held

/-! ### Holds -/

/-- The reach includes the secure complex, or the management complex (R567). -/
def ResetReq.hitsMgmt (r : ResetReq) : Bool := r.domains.contains .mgmt
def ResetReq.hitsSec (r : ResetReq) : Bool := r.domains.contains .sec

/-- An eFuse program pulse is in progress: it lasts at most 12 µs (R567). -/
def State.pulsing (s : State) : Bool :=
  match s.rst.pulseAt with
  | some t => s.time < t + 12000
  | none => false

/-- An xSPI page program is in progress: of a save, or of a piece whose position is erased (R489, R532, R567). -/
def State.programming (s : State) : Bool :=
  s.settings.saving.isSome || (match s.upd.writing with
    | p :: _ => !p.erase
    | [] => false)

/-- Brown-out cuts a program pulse: each rollback fuse of it reads programmed or not, and what is left is tried again (R546, R568). Which
is free (assumption 1). -/
def State.cutPulse (s : State) : State :=
  if !s.pulsing then s
  else
    let s := s.each s.rst.pulseFuses fun s (c, old, new) =>
      let (k, s) := s.drawNat (new - old + 1)
      let s := s.wr Obj.ROLLBACK_FUSES (old + k : Nat) 0 0 512 c
      if old + k = new then s else s.setUpd { s.upd with fusesDue := s.upd.fusesDue.put c new }
    { s with rst := { s.rst with pulseAt := none, pulseFuses := [] } }

/-- A source is asserted: held, or waiting for an erase suspend, or applied (R567 to R569). Brown-out is never held. -/
def State.assertReset (s : State) (r : ResetReq) : State :=
  if r.reach = 0 || !s.rst.vaon then s
  else if r.source ≠ 1 && (s.rst.held ≠ [] || ((r.hitsMgmt || r.hitsSec) && s.pulsing) || (r.hitsMgmt && s.programming)) then
    ({ s with rst := { s.rst with held := s.rst.held ++ [r] } } : State).count Obj.HELD_RESETS
  else if r.source ≠ 1 && r.hitsMgmt && s.rst.erase.isSome then
    ({ s with rst := { s.rst with suspended := s.rst.suspended ++ [r] } } : State).emit (.flash "erase suspend" (s.rst.erase.getD 0))
  else
    let s : State := if r.source = 1 then
        (let s := s.cutPulse
         { s with rst := { s.rst with held := [], suspended := [], erase := none } }) else s
    s.applyAll [r] false

/-- A pulse source that another clock domain raises reaches reset control over an event crossing; one that merges with a held one asserts
nothing of its own (R591, R593). -/
def State.assertEvent (s : State) (k : CrossKey) (r : ResetReq) : State :=
  match s.cross k 0 with
  | (true, s) => s.count Obj.HW_EVENT_MERGES
  | (false, s) => s.assertReset r

/-- HELD_RESET_APPLY: the pulse or the program has ended; the held sources are applied with HELD set, and a save that a reset of the
management complex cuts is not complete (R489, R567). -/
def execHeldResetApply (s : State) : Host.Outcome State Fault Refusal :=
  .next (
    let l := s.rst.held
    if l.isEmpty then s
    else
      let s : State := { s with rst := { s.rst with held := [], pulseAt := none } }
      s.applyAll l true)

/-- ERASE_SUSPEND_DONE: the address is kept, and the waiting sources are applied (R569). -/
def execEraseSuspendDone (s : State) : Host.Outcome State Fault Refusal :=
  .next (
    match s.rst.suspended, s.rst.erase with
    | [], _ | _, none => s
    | l, some a =>
      let s : State := { s with rst := { s.rst with suspended := [], erase := none } }
      (s.wr Obj.ERASE_SUSPENDED (a : Nat)).applyAll l false)

/-- ERASE_RESUME: the erase goes on once DICTIONARY is set (R569). -/
def execEraseResume (s : State) : Host.Outcome State Fault Refusal :=
  .next (s.firmware fun s =>
    let a := s.rdN Obj.ERASE_SUSPENDED
    if a = 0xFFFFFFFF || !s.isHwReady 4 || s.rst.erase.isSome then s
    else (({ s with rst := { s.rst with erase := some a } } : State).wr Obj.ERASE_SUSPENDED 0xFFFFFFFF).emit (.flash "erase resume" a))

/-! ### Level sources -/

/-- A level source is asserted: applied when it becomes so (R556, R560). -/
def State.assertLevel (s : State) (k : Nat) (target : Option Nat) : State :=
  if s.rst.levels.contains k then s
  else
    let s : State := { s with rst := { s.rst with levels := s.rst.levels ++ [k] } }
    s.assertReset (s.request k target none)

/-- A level source is released. -/
def State.releaseLevel (s : State) (k : Nat) : State := { s with rst := { s.rst with levels := s.rst.levels.filter (· ≠ k) } }

/-- Source 1 is asserted by a supply monitor or by the lost reference (R556, R583). -/
def State.syncBrownOut (s : State) : State := if s.rst.brownOut || s.rst.refLost then s.assertLevel 1 none else s.releaseLevel 1

/-- The reset pins, which count as low until they are first seen high. -/
def resetPins : List Nat := [0, 2, 7, 8]

/-- VAON_LOST: OFF from any state (R27). Nothing but flash and fuses keeps its contents. -/
def execVaonLost (s : State) : Host.Outcome State Fault Refusal :=
  .next (
    let z := s.cutPulse.coldDown
    ({ z with powered := false, pins := [], rst := { z.rst with vaon := false, pinMap := none, wide := allDomains, levels := resetPins, brownOut := false, refLost := false } } : State))

/-- VAON_GOOD: pins take their fixed states, XSPI_RESET_N goes low for its 10 µs, every domain is in reset (R569, R573). -/
def execVaonGood (s : State) : Host.Outcome State Fault Refusal :=
  .next (
    if s.rst.vaon then s
    else
      let z := s.coldDown
      let z : State := { z with powered := !z.rst.levels.contains 0, rst := { z.rst with vaon := true, wide := allDomains } }
      (z.each allDomains fun s d => s.pinsReset d).pin "XSPI_RESET_N" false)

/-- PORST_N_LEVEL: low asserts source 0; its release takes the device out of OFF (R27, R556). -/
def execPorstNLevel (high : Bool) (s : State) : Host.Outcome State Fault Refusal :=
  .next (
    if high then
      let s := s.releaseLevel 0
      if s.rst.vaon then { s with powered := true } else s
    else s.assertLevel 0 none)

/-- RESET_N_LEVEL (R556). -/
def execResetNLevel (high : Bool) (s : State) : Host.Outcome State Fault Refusal :=
  .next (if high then s.releaseLevel 2 else s.assertLevel 2 none)

/-- BROWN_OUT: what VBULK, VIO18 and VIO33 have read, in mV, for the 2 µs of an assertion or the 1 ms of a release: one below its threshold
trips, all 30 mV above theirs recover (R556, R566). -/
def execBrownOut (vbulk vio18 vio33 : Nat) (s : State) : Host.Outcome State Fault Refusal :=
  .next (
    let tripped : Bool := vbulk < 1700 || vio18 < 1660 || vio33 < 3050
    let good : Bool := 1730 ≤ vbulk && 1690 ≤ vio18 && 3080 ≤ vio33
    if !tripped && !good then s
    else
    let s : State := { s with rst := { s.rst with brownOut := tripped, tripped := tripped && s.rst.vaon } }
    s.syncBrownOut)

/-- THERMAL_TRIP: the readings of the 16 junction sensors in °C (R3, R556). -/
def execThermalTrip (sensors : List Int) (s : State) : Host.Outcome State Fault Refusal :=
  .next (
    if sensors.any fun t => 115 ≤ t then s.assertLevel 3 none
    else if sensors.all fun t => t ≤ 100 then s.releaseLevel 3
    else s)

/-- REFERENCE_LOST: no reference edge for 1 µs, or 1 ms without a gap since (R583). -/
def execReferenceLost (lost : Bool) (s : State) : Host.Outcome State Fault Refusal :=
  .next (
    let s : State := { s with rst := { s.rst with refLost := lost } }
    s.syncBrownOut)

/-! ### Watchdogs -/

/-- MGMT_WATCHDOG_EXPIRY: source 4; the second one before a trial MGMT boot is complete makes the update fail (R544, R557). The watchdog
does not run while its domain is in reset. -/
def execMgmtWatchdogExpiry (s : State) : Host.Outcome State Fault Refusal :=
  .next (
    if s.rst.inReset.contains .mgmt || !s.powered then s
    else
      let u := s.upd
      let s := if u.mgmtStep then
          (if u.trialBoots = 0 then s.setUpd { u with trialBoots := 1 } else s.failUpdate 2)
        else s
      s.assertEvent (.watchdog 4) (s.request 4 none none))

/-- The watchdog of a station runs: not while its control core is in reset, but through an STN swap, which resets the core alone (R557,
R558). -/
def State.stationWatched (s : State) (n : Nat) : Bool :=
  if s.rst.inReset.contains (.core n) then !s.rst.inReset.contains (.func n) && (s.ctl n).functionsOn
  else (s.ctl n).coreOn

/-- STATION_WATCHDOG_EXPIRY: source 6; the second one on new STN firmware during TRIAL makes the update fail (R544, R557). -/
def execStationWatchdogExpiry (n : Fin 8) (s : State) : Host.Outcome State Fault Refusal :=
  .next (
    if !s.stationWatched n then s
    else
      let u := s.upd
      let s := if s.updState = upTrial && u.plan.contains rkStn then
          (if u.stationBarks = 0 then s.setUpd { u with stationBarks := 1 } else s.failUpdate 5)
        else s
      s.assertReset (s.request 6 (some n) none))

/-- SECURE_WATCHDOG_EXPIRY: SEC, or WARM at the third expiry within 600 s in SERVICE (R409, R411, R555). -/
def execSecureWatchdogExpiry (s : State) : Host.Outcome State Fault Refusal :=
  .next (
    if s.rst.inReset.contains .sec || !s.secUp then s
    else
      let window := 600000000000
      let l := (s.sec.expiries ++ [s.time]).filter fun t => s.time < t + window
      if 3 ≤ l.length && s.deviceState = 2 then
        let s := ({ s with sec := { s.sec with expiries := [] } } : State).wr Obj.SEC_WATCHDOG_EXPIRIES 0
        s.assertEvent (.watchdog 5) { source := 5, reach := rWarm }
      else
        let s := ({ s with sec := { s.sec with expiries := l } } : State).wr Obj.SEC_WATCHDOG_EXPIRIES ((min l.length 2 : Nat))
        s.assertEvent (.watchdog 5) (s.request 5 none none))

/-! ### Requests -/

/-- A `RESET_REQUEST` of a reach and target: answered OK, applied 1 ms later (R559). -/
def State.askReset (s : State) (who : Requester) (reach : Nat) (target : Nat) : State :=
  let v := target * 256 + reach
  s.onWrite who Obj.RESET_REQUEST v 0 0 512 0 fun s =>
    let r : ResetReq := { source := 12, reach := reach, target := if reach = rPort || reach = rStation then some target else none }
    ({ s with rst := { s.rst with requested := s.rst.requested ++ [(s.time, r)] } } : State).answer .ok

/-- RESET_REQUEST_COLD (R559). -/
def execResetRequestCold (who : Requester) (s : State) : Host.Outcome State Fault Refusal := .next (s.askReset who rCold 0)

/-- RESET_REQUEST_WARM (R559). -/
def execResetRequestWarm (who : Requester) (s : State) : Host.Outcome State Fault Refusal := .next (s.askReset who rWarm 0)

/-- RESET_REQUEST_MGMT (R559). -/
def execResetRequestMgmt (who : Requester) (s : State) : Host.Outcome State Fault Refusal := .next (s.askReset who rMgmt 0)

/-- RESET_REQUEST_SEC (R559). -/
def execResetRequestSec (who : Requester) (s : State) : Host.Outcome State Fault Refusal := .next (s.askReset who rSec 0)

/-- RESET_REQUEST_PORT (R559). -/
def execResetRequestPort (who : Requester) (p : Fin 2) (s : State) : Host.Outcome State Fault Refusal := .next (s.askReset who rPort p)

/-- RESET_REQUEST_STATION (R559). -/
def execResetRequestStation (who : Requester) (n : Fin 8) (s : State) : Host.Outcome State Fault Refusal :=
  .next (s.askReset who rStation n)

/-- RESET_REQUEST_APPLY: 1 ms after the response the oldest request is applied as source 12 (R559). -/
def execResetRequestApply (s : State) : Host.Outcome State Fault Refusal :=
  .next (
    match s.rst.requested with
    | [] => s
    | (t, r) :: l => if t + 1000000 ≤ s.time then ({ s with rst := { s.rst with requested := l } } : State).assertReset r else s)

/-- STATION_RESET: a write of 1 applies STATION reach as source 12 (R559). -/
def execStationReset (who : Requester) (n : Fin 8) (v : Bool) (s : State) : Host.Outcome State Fault Refusal :=
  .next (s.onWrite who Obj.STATION_RESET (if v then 1 else 0) n 0 512 0 fun s =>
    let s := s.answer .ok
    if v then s.assertReset { source := 12, reach := rStation, target := some n } else s)

/-- MEM_REINIT: a write of 1 applies a STATION reset with memory re-initialisation; in an OFF station it is not valid (R350, R554). -/
def execMemReinit (who : Requester) (n : Fin 8) (v : Bool) (s : State) : Host.Outcome State Fault Refusal :=
  .next (s.onWrite who Obj.MEM_REINIT (if v then 1 else 0) n 0 512 0 fun s =>
    if v && s.stationState n = stOff then s.answer (.refused 8)
    else
      let s := s.answer .ok
      if v then s.assertReset { source := 15, reach := rStation, target := some n, reinit := true } else s)

/-- DEVICE_REQUEST_NONE (R35). -/
def execDeviceRequestNone (who : Requester) (s : State) : Host.Outcome State Fault Refusal :=
  .next (s.onWrite who Obj.DEVICE_REQUEST 0 0 0 512 0 fun s => s.answer .ok)

/-- DEVICE_REQUEST_RECOVERY: the flag is set and source 14 applied (R28). -/
def execDeviceRequestRecovery (who : Requester) (s : State) : Host.Outcome State Fault Refusal :=
  .next (s.onWrite who Obj.DEVICE_REQUEST 4 0 0 512 0 fun s =>
    let s : State := ({ s with rst := { s.rst with recovery := true } } : State).answer .ok
    s.assertReset (s.request 14 none none))

/-- DEVICE_REQUEST_LEAVE_RECOVERY (R28). -/
def execDeviceRequestLeaveRecovery (who : Requester) (s : State) : Host.Outcome State Fault Refusal :=
  .next (s.onWrite who Obj.DEVICE_REQUEST 5 0 0 512 0 fun s =>
    if s.deviceState = 4 then
      let s : State := ({ s with rst := { s.rst with recovery := false } } : State).answer .ok
      s.assertReset { source := 12, reach := rMgmt }
    else s.answer (.refused 8))

end Sys2Proof.Machine
end

