-- ==== Sys2Proof/Machine/Release.lean ====
section
/-! DEFINITION. The release of the domains, trim load, boot, the loading of settings and of station images, and the clocks of the
headworks (R562 to R580, R587). -/
namespace Sys2Proof.Machine

/-! ### Settings -/

/-- Groups from `lo` to below `hi` take the values of their latest complete records, each whole; a group without a usable record takes
its defaults, and where it had one the cause is kept for the report (R491). -/
def State.loadGroups (s : State) (lo hi : Nat) : State :=
  let recs := s.settings.flash.filter fun e => lo ≤ e.1 && e.1 < hi
  let good := recs.filter fun e => e.2.good && e.2.schema = s.schemaOf e.1
  let bad := (recs.filter fun e => !(e.2.good && e.2.schema = s.schemaOf e.1)).map fun e =>
    (e.1, if e.2.schema < s.schemaOf e.1 then 1 else if s.schemaOf e.1 < e.2.schema then 2 else 3)
  let loaded (k : OKey) : Bool := good.any fun e => e.2.vals.any fun v => v.1 = k
  let mine (k : OKey) : Bool :=
    lo ≤ k.group && k.group < hi && (s.isSavedNow k || (k.isEffect && loaded { k with sub := Obj.EFFECT_OWNER.sub }))
  { s with regs := s.regs.filter (fun e => !mine e.1) ++ good.flatMap fun e => e.2.vals
           blobs := s.blobs.filter (fun e => !mine e.1) ++ good.flatMap fun e => e.2.blobs
           shadow := s.shadow.filter (fun e => !mine e.1), shadowBlobs := s.shadowBlobs.filter fun e => !mine e.1
           settings := { s.settings with resetsDue := s.settings.resetsDue ++ bad } }

/-- SETTINGS_RESET of each group found at the load (R491, R615). -/
def State.reportResets (s : State) : State :=
  let l := s.settings.resetsDue
  let s : State := { s with settings := { s.settings with resetsDue := [] } }
  s.each l fun s (g, cause) =>
    let s := (s.count Obj.SETTINGS_RESETS).wr Obj.LAST_RESET_GROUP ((cause * 256 + g : Nat))
    (s.alarm 16 0 noStation (cause * 256 + g)).toHwLog (s.mkRec 0x8006 0 noStation noTenant [(1, 4), (g, 8)])

/-- On the safe trim set every `POINT_CEILING` is held at P2 (R572). -/
def State.holdCeilings (s : State) : State :=
  if s.rdN Obj.TRIM_STATE = 2 then
    s.each (List.range 8) fun s n => { s with regs := s.regs.put (Obj.POINT_CEILING.key 0 n 512 0) 2 }
  else s

/-! ### Release -/

/-- `STATION_TARGET` as a release sees it: after a COLD or WARM reset the saved one (R29, R31). -/
def State.releaseTarget (s : State) (n : Nat) : Int :=
  if s.rst.wide.contains (.func n) then s.savedValue Obj.STATION_TARGET n else s.rd Obj.STATION_TARGET n

/-- A station that its release takes out of OFF, or that is out of it already. -/
def State.comesUp (s : State) (n : Nat) : Bool := s.stationState n ≠ stOff || s.releaseTarget n ≠ 0

/-- The memory controller of a station is released: it is trained with its saved settings (R330, R578). -/
def State.memcRelease (s : State) (n : Nat) : State :=
  if s.comesUp n then
    let s := if s.rst.wide.contains (.memc n) then s.loadGroups ((8 + n) * 16 + 7) ((8 + n) * 16 + 8) else s
    let s := s.releaseMemory n
    if s.stationState n = stOff then s.enterStarting n else s
  else s

/-- The control core of a station is released (R579). -/
def State.coreRelease (s : State) (n : Nat) : State :=
  if s.comesUp n then s.setCtl n { s.ctl n with coreOn := true } else s

/-- The functions of a station are released: after a COLD or WARM reset they wait for their settings; after a narrower one the safe store
is kept where its CONTENT_CRC checks (R176, R578). A station in OFF starts where its target says so (R29, R31); one that stays OFF has its
settings loaded. -/
def State.funcRelease (s : State) (n : Nat) : State :=
  let up := s.comesUp n
  let s := if up && s.stationState n = stOff then
      ((s.enterStarting n).releaseMemory n).setCtl n { s.ctl n with coreOn := true } else s
  let s := if up then s.functionsRelease n else s
  if s.rst.wide.contains (.func n) then { s with rst := { s.rst with loading := s.rst.loading ++ [n] } }
  else if up then
    let b := s.blob Obj.SAFE_STORE n
    (s.loadSafe n (if b ≠ [] && safeCrcOk b then b else s.savedSafe n)).functionsStart n
  else s

/-- A headworks PLL locks as its domain is released (R584, R595). -/
def State.lockPll (s : State) (k : Nat) (on : Bool) : State := s.wr Obj.HW_PLL_LOCKED ((putBit k on (s.rdN Obj.HW_PLL_LOCKED) : Nat))

/-- What the release of a domain begins (R551, R580). -/
def State.releaseDomain (s : State) (d : Domain) : State :=
  match d with
  | .supplies => s
  | .trim => ({ s with rst := { s.rst with trimFails := 0 } } : State).wr Obj.TRIM_STATE 0
  | .aon => ((((((s.hwReady 0 true).hwReady 8 true).hwReady 12 true).hwReady 13 true).lockPll 2 true).lockPll 3 true).drive 17 true
  | .sec => (s.lockPll 1 true).setSecState (if s.rdN Obj.SEC_STATE = secOff then secBooting else s.rdN Obj.SEC_STATE)
  | .mgmt => (((s.lockPll 0 true).hwReady 14 true).hwReady 15 true).syncRole
  | .port p => (s.lockPll (4 + p) true).wr Obj.PORT_STATE 0 0 p
  | .net => (s.wave 13 true).wave 14 true
  | .memc n => s.memcRelease n
  | .core n => (s.coreRelease n).sliceDue n
  | .func n => (s.funcRelease n).sliceDue n

/-- The first domain of the release order that is in reset is released (R562). -/
def State.releaseNext (s : State) : State :=
  match allDomains.find? fun d => s.rst.inReset.contains d with
  | none => { s with rst := { s.rst with release := .idle } }
  | some d =>
    let s : State := { s with rst := { s.rst with inReset := s.rst.inReset.filter (· ≠ d), release := .step d } }
    let s := s.releaseDomain d
    { s with rst := { s.rst with wide := s.rst.wide.filter (· ≠ d) } }

/-- No source is asserted, and none is held; a pulse source stays asserted for 640 ns (R556, R561). -/
def State.sourcesQuiet (s : State) : Bool :=
  s.rst.levels.isEmpty && s.rst.held.isEmpty && s.rst.suspended.isEmpty
    && match s.rst.pulsedAt with
      | some t => decide (t + 640 ≤ s.time)
      | none => true

/-- RELEASE_BEGIN, with the level of the strap MGR_SEL, which is read at the release of a COLD or WARM reset (R511, R561). -/
def execReleaseBegin (strap : Bool) (s : State) : Host.Outcome State Fault Refusal :=
  .next (
    if s.rst.vaon && s.sourcesQuiet && s.rst.release = .idle && !s.rst.inReset.isEmpty then
      (if s.rst.wide ≠ [] then { s with net := { s.net with strap := strap } } else s).releaseNext
    else s)

/-- The step of a domain has reached its end (R563). -/
def State.stepEnded (s : State) (d : Domain) : Bool :=
  match d with
  | .trim => s.rdN Obj.TRIM_STATE ≠ 0
  | .sec => s.rst.secEnded
  | .mgmt => s.rst.mgmtEnded
  | .supplies | .aon | .port _ | .net | .memc _ | .core _ | .func _ => true

/-- RELEASE_STEP_END: the next gap starts, where a domain is left (R562, R563). -/
def execReleaseStepEnd (s : State) : Host.Outcome State Fault Refusal :=
  .next (
    match s.rst.release with
    | .step d =>
      if s.stepEnded d then
        (({ s with rst := { s.rst with release := if s.rst.inReset.isEmpty then .idle else .gap d } } : State).startTimer .release)
      else s
    | .idle | .gap _ => s)

/-- The station a domain of step 8 belongs to. -/
def Domain.station : Domain → Option Nat
  | .memc n | .core n | .func n => some n
  | .supplies | .trim | .aon | .sec | .mgmt | .port _ | .net => none

/-- The gap between the end of a domain's release and the start of the next, in ns: between two stations of step 8 the station gap, else
the domain gap, in cycles of 40 ns (R562). -/
def State.gapNs (s : State) (after next : Domain) : Nat :=
  let between : Bool := match after.station, next.station with
    | some a, some b => a ≠ b
    | _, _ => false
  40 * s.rdN (if between then Obj.STATION_GAP_CYCLES else Obj.DOMAIN_GAP_CYCLES)

/-- The gap in progress has run. Before the always-on domain is released device time stands, and the command itself is the count's end. -/
def State.gapOver (s : State) (after : Domain) : Bool :=
  s.rst.inReset.contains .aon || match allDomains.find? fun d => s.rst.inReset.contains d with
    | some d => s.passed .release (s.gapNs after d)
    | none => true

/-- RELEASE_GAP_ELAPSED (R562). -/
def execReleaseGapElapsed (s : State) : Host.Outcome State Fault Refusal :=
  .next (match s.rst.release with
    | .gap d => if s.gapOver d then s.releaseNext else s
    | .idle | .step _ => s)

/-! ### Trim load -/

/-- Map entries with the programmed ones in place (R576): `w` bits each. -/
def programmed (w : Nat) (shipped : Nat) (fuses : FMap Nat Nat) : Nat :=
  fuses.foldl (fun m e => m - bits (w * e.1 + w - 1) (w * e.1) m * 2 ^ (w * e.1) + e.2 % 2 ^ w * 2 ^ (w * e.1)) shipped

/-- The maps of R554 and R575 take their values, and the pins of domains in reset their states (R572 to R574). -/
def State.loadMaps (s : State) (src pins : FMap Nat Nat) : State :=
  let map := programmed 3 0x4924A00600986DB6DB pins
  let b := s.blobs.put (Obj.SOURCE_MAP.key 0 0 512 0) (toLE 8 (programmed 4 0x0320075556220200 src))
  let s : State := { s with blobs := b.put (Obj.PIN_MAP.key 0 0 512 0) (toLE 9 map), rst := { s.rst with pinMap := some map } }
  s.each s.rst.inReset fun s d => s.pinsReset d

/-- TRIM_LOAD_DONE: an attempt ends with a checked fuse image, or without one; after three failures the safe trim set is used (R385,
R497, R562, R570, R572). -/
def execTrimLoadDone (image : Option FuseImage) (s : State) : Host.Outcome State Fault Refusal :=
  .next (
    if s.rst.release ≠ .step .trim || s.rdN Obj.TRIM_STATE ≠ 0 then s
    else
      let tries := s.rst.trimFails + 1
      let s := s.wr Obj.TRIM_ATTEMPTS (tries : Nat)
      match image with
      | some f =>
        let s := ((s.wrBlob Obj.ORDERING_CODE f.ordering).wrBlob Obj.DEVICE_IDENTITY f.identity).wr Obj.SERIAL_NUMBER (f.serial : Nat)
        let s := (s.wr Obj.DOMAIN_GAP_CYCLES (f.domainGap : Nat)).wr Obj.STATION_GAP_CYCLES (f.stationGap : Nat)
        let s := ((s.loadMaps s.rst.sourceFuses s.rst.pinFuses).extend 0 Config.bootRomDigest).extend 0 f.digest
        (s.wr Obj.TRIM_STATE 1).hwReady 1 true
      | none =>
        let s : State := { s with rst := { s.rst with trimFails := tries } }
        if tries < 3 then s
        else
          let (d, s) := ((s.loadMaps [] []).extend 0 Config.bootRomDigest).drawBytes 48
          ((((s.extend 0 d).wr Obj.TRIM_STATE 2).hwReady 1 true).alarm 18 0 noStation 0).holdCeilings)

/-! ### Boot -/

/-- SEC_RESTART_BOOT_DONE: the boot ROM has ended. An accepted image, by its digest, is measured; in a release after a COLD or WARM reset
the complex is READY, after a reset of SEC reach it scrubs (R384, R385, R410, R563). With level 3 armed the cores halt (R415). -/
def execSecRestartBootDone (image : Option Bytes) (s : State) : Host.Outcome State Fault Refusal :=
  .next (
    if s.rst.inReset.contains .sec || s.rdN Obj.SEC_STATE ≠ secBooting || s.rst.halted || s.rst.armed = 3 then s
    else match image with
      | none => { s with rst := { s.rst with secEnded := true } }
      | some d =>
        let s := (({ s with rst := { s.rst with secImage := true } } : State).zeroMeasurement 1).extend 1 d
        if s.sec.restarting then s.setSecState secScrubbing
        else ({ s with rst := { s.rst with secEnded := true } } : State).setSecState secReady)

/-- The recovery loader starts: the boot ROM clears the recovery flag in the same cycle (R27, R28). -/
def State.startRecovery (s : State) : State :=
  ({ s with rst := { s.rst with recovery := false, mgmtEnded := true } } : State).wr Obj.DEVICE_STATE 4

/-- The armed level opens with TEST; level 1 is armed for one release (R27, R414, R415). -/
def State.openTest (s : State) : State :=
  let k := s.rst.armed
  (({ s with rst := { s.rst with armed := 0 }, sec := { s.sec with opened := s.sec.opened ++ [k] } } : State).wr Obj.DEBUG_LEVEL (k : Nat)).wr Obj.DEVICE_STATE 3

/-- BOOT_ROM_MGMT_ACCEPTANCE: a management image is accepted, by its digest, or both are rejected; `trial` where the TRIAL slot of an
update was accepted (R27, R28, R386, R415, R544, R563). -/
def execBootRomMgmtAcceptance (image : Option Bytes) (trial : Bool) (s : State) : Host.Outcome State Fault Refusal :=
  .next (
    let level3 := s.rst.armed = 3
    let due := if level3 then !s.rst.inReset.contains .sec && !s.rst.secEnded else !s.rst.inReset.contains .mgmt && !s.rst.mgmtEnded
    if !due || (!level3 && !s.rst.secEnded) then s
    else
      let s : State := if level3 then { s with rst := { s.rst with secEnded := true, halted := true } } else s
      let s := if s.upd.mgmtStep && !trial then s.failUpdate 2 else s
      match image with
      | none => s.startRecovery
      | some d =>
        if !level3 && (s.rst.recovery || !s.rst.secImage) then s.startRecovery
        else
          let s := (({ s with rst := { s.rst with mgmtEnded := true } } : State).zeroMeasurement 2).extend 2 d
          let s := match s.upd.mgmtStep, s.upd.schemaDigest with
            | true, some k => s.extend 5 k
            | _, _ => s
          if s.rst.armed ≠ 0 then s.openTest
          else if s.deviceState = 1 then s.wr Obj.DEVICE_STATE 2
          else s)

/-- SETTINGS_LOAD_STATION: the loader serves the station that has waited longest; a station that stays OFF has no functions to start (R176,
R491, R578). -/
def execSettingsLoadStation (s : State) : Host.Outcome State Fault Refusal :=
  .next (
    match s.rst.loading with
    | [] => s
    | n :: l =>
      let s : State := { s with rst := { s.rst with loading := l } }
      let s := s.loadGroups ((8 + n) * 16) ((8 + n) * 16 + 16)
      if s.stationState n = stOff then s else (s.loadSafe n (s.savedSafe n)).functionsStart n)

/-- STN_IMAGE_LOAD: with DICTIONARY set, the management firmware loads every waiting station and extends M3 once for each (R385, R579).
-/
def execStnImageLoad (digest : Bytes) (s : State) : Host.Outcome State Fault Refusal :=
  .next (s.firmware fun s =>
    if !s.isHwReady 4 then s
    else
      let waiting := (List.range 8).filter fun n =>
        s.stationState n = stStarting && (s.ctl n).coreOn && !(s.ctl n).image && s.rdN Obj.MEM_STATE n = 2
      s.each waiting fun s n => (s.setCtl n { s.ctl n with image := true }).extend 3 digest)

/-! ### The fuse maps -/

/-- The entries of a write that are not 0: number and value, `w` bits each. -/
def mapEntries (w count v : Nat) : List (Nat × Nat) :=
  (List.range count).filterMap fun k =>
    let e := bits (w * k + w - 1) (w * k) v
    if e = 0 then none else some (k, e)

/-- FUSE_MAP_PROGRAM: source map in 8 bytes, then pin map in 9; a zero entry stays unprogrammed (R555, R576). -/
def execFuseMapProgram (who : Requester) (data : Bytes) (s : State) : Host.Outcome State Fault Refusal :=
  .next (s.onRequest who fun s =>
    match s.checkAccess who Obj.FUSE_MAP_PROGRAM true with
    | some x => (s.mailboxSpoof who Obj.FUSE_MAP_PROGRAM 0 0 0 (some x)).answer x
    | none =>
      if data.length ≠ 17 then s.answer .badRange
      else
        let src := mapEntries 4 16 (ofLE (data.take 8))
        let pins := mapEntries 3 24 (ofLE (data.drop 8))
        if src.any fun e => fixedSource e.1 then s.answer (.refused 7)
        else if s.deviceState ≠ 3 || (src.any fun e => (s.rst.sourceFuses.find e.1).isSome)
            || pins.any fun e => (s.rst.pinFuses.find e.1).isSome then s.answer (.refused 8)
        else
          ({ s with rst := { s.rst with sourceFuses := s.rst.sourceFuses ++ src, pinFuses := s.rst.pinFuses ++ pins,
                                        pulseAt := some s.time, pulseFuses := [] } } : State).answer .ok)

end Sys2Proof.Machine
end

