-- ==== Sys2Proof/Machine/Debug.lean ====
section
/-! DEFINITION. Debug unlock and the JTAG port (R412 to R415). -/
namespace Sys2Proof.Machine

/-- A read of an object that gives bytes: the checks of R461, then the effect. -/
def State.onRead (s : State) (who : Requester) (r : ObjRow) (n : Nat := 0) (i : Nat := 0) (tq : Nat := 512) (j : Nat := 0)
    (f : State → State) : State :=
  s.onRequest who fun s => s.guarded (s.checkAccess who r false n i tq j) f

/-- DEBUG_CHALLENGE: a fresh nonce of 32 bytes, free of any rule but its freshness, replaces the previous one (R413). -/
def execDebugChallenge (who : Requester) (s : State) : Host.Outcome State Fault Refusal :=
  .next (s.onRead who Obj.DEBUG_CHALLENGE 0 0 512 0 fun s =>
    let (b, s) := s.drawBytes 32
    ({ s with sec := { s.sec with nonce := some b } } : State).answer .ok b)

/-- The lockout of R413 is in force. -/
def State.debugLocked (s : State) : Bool :=
  match s.sec.lockedAt with
  | some t => s.time < t + 60000000000
  | none => false

/-- A level is accepted in the device's state (R414). -/
def State.levelAccepted (s : State) (level : Nat) : Bool :=
  let st := s.deviceState
  if level = 2 then st = 2 || st = 3 || st = 4 else (level = 1 || level = 3) && (st = 2 || st = 4)

/-- The outcome of a response (R413): LOCKOUT, NO_CHALLENGE, SIGNATURE, LEVEL, in this order; 0 OK. -/
def State.debugOutcome (s : State) (data : Bytes) : Nat :=
  if s.debugLocked then 4
  else match s.sec.nonce with
    | none => 2
    | some nonce =>
      let digest := Config.sha384 (nonce ++ data.take 1 ++ s.blob Obj.DEVICE_IDENTITY)
      if !Config.ecdsaVerify Config.debugKey digest (data.drop 1) then 1
      else if !s.levelAccepted (byteAt data 0) then 3
      else 0

/-- A level opens: 2 once every enclave is destroyed, 1 and 3 by a WARM reset of source 13 (R414). -/
def State.openLevel (s : State) (level : Nat) : State :=
  if level = 2 then
    let s := s.each s.liveEnclaves fun s e =>
      if s.enclaveState e = enStopped || s.enclaveState e = enRunning then s.destroyEnclave e else s
    ({ s with sec := { s.sec with unlocking := true } } : State).openSystem
  else
    let s : State := { s with rst := { s.rst with armed := level } }
    s.assertReset (s.request 13 none none)

/-- DEBUG_RESPONSE (R413, R414). -/
def execDebugResponse (who : Requester) (data : Bytes) (s : State) : Host.Outcome State Fault Refusal :=
  .next (s.onRequest who fun s =>
    match s.checkAccess who Obj.DEBUG_RESPONSE true with
    | some x => (s.mailboxSpoof who Obj.DEBUG_RESPONSE 0 0 0 (some x)).answer x
    | none =>
      if data.length ≠ 97 then s.answer .badRange
      else s.guarded (s.needHwReady 2) fun s =>
        let o := s.debugOutcome data
        let c := s.sec
        let fails := if o = 0 then 0 else if o = 4 then c.fails else c.fails + 1
        let c := { c with fails := if 3 ≤ fails then 0 else fails,
                          lockedAt := if o = 4 then c.lockedAt else if 3 ≤ fails then some s.time else none }
        let s := (({ s with sec := c } : State).startResult Obj.DEBUG_RESULT who).finish Obj.DEBUG_RESULT o 0 0 512
        let s := s.answer .ok
        if o = 0 then s.openLevel (byteAt data 0) else s)

/-- DEBUG_LOCKOUT_END: 60 s have passed (R413). -/
def execDebugLockoutEnd (s : State) : Host.Outcome State Fault Refusal :=
  .next (if s.sec.lockedAt.isSome && !s.debugLocked then { s with sec := { s.sec with lockedAt := none } } else s)

/-- JTAG_INSTRUCTION: what an instruction selects with the levels open; while debug is locked everything but IDCODE selects the bypass
register (R412, R414). -/
def execJtagInstruction (ins : JtagInstr) (s : State) : Host.Outcome State Fault Refusal :=
  .next (
    let l := s.sec.opened
    let any : Bool := l.contains 1 || l.contains 3
    let selected := match ins with
      | .idcode => "IDCODE"
      | .boundary => if any then "BOUNDARY" else "BYPASS"
      | .systemDebug => if l.contains 2 || l.contains 3 then "SYSTEM DEBUG" else "BYPASS"
      | .secureDebug => if l.contains 3 then "SECURE DEBUG" else "BYPASS"
      | .bypass | .other => "BYPASS"
    if s.rst.vaon then s.emit (.jtag selected) else s)

end Sys2Proof.Machine
end

