-- ==== Sys2Proof/Machine/Host.lean ====
section
/-! DEFINITION. Commands of the host ports: links, slices, doorbell rings, transfers, landing rings and MSI-X (R353 to R382). -/
namespace Sys2Proof.Machine

/-! ### Links -/

/-- PERST_N_LEVEL of a port (R26, R378, R556). -/
def execPerstNLevel (p : Fin 2) (high : Bool) (s : State) : Host.Outcome State Fault Refusal :=
  .next (
    let s := s.setPrt p { s.prt p with perst := !high }
    if high then s.releaseLevel (7 + p) else s.assertLevel (7 + p) (some p.val))

/-- HOST_PORT_READY: the port is ready for link training (R378, R580). -/
def execHostPortReady (p : Fin 2) (s : State) : Host.Outcome State Fault Refusal :=
  .next (
    if s.powered && !(s.prt p).perst && !s.rst.inReset.contains (.port p) && !(s.prt p).ready then
      ((s.setPrt p { s.prt p with ready := true }).hwReady (hpBit p) true).wr Obj.PORT_STATE 1 0 p
    else s)

/-- PCIE_LINK_TRAINED: speed by its code, 1 to 5, and width in lanes, each at most what the port's objects allow (R355, R378, R382). -/
def execPcieLinkTrained (p : Fin 2) (speed : Fin 6) (width : Fin 9) (s : State) : Host.Outcome State Fault Refusal :=
  .next (
    if !(s.prt p).ready || s.rdN Obj.PORT_STATE 0 p = 4 || speed = 0 || width = 0 then s
    else
      let speed := min speed.val (s.rdN Obj.MAX_SPEED 0 p)
      let width := min width.val (s.rdN Obj.MAX_WIDTH 0 p)
      let s := (s.wr Obj.LINK_SPEED (speed : Nat) 0 p).wr Obj.LINK_WIDTH (width : Nat) 0 p
      let degraded := speed ≤ 2 || width < s.rdN Obj.MAX_WIDTH 0 p
      let s := s.wr Obj.PORT_STATE (if degraded then 3 else 2) 0 p
      let c := s.prt p
      let s := s.setPrt p { c with retrainDue := degraded && !c.retrained, degradedAt := s.time }
      let s := if degraded then s.alarm 15 0 noStation p else s
      let s := s.portLinkUp p
      s.each (s.slicesOf p) fun s t => s.fetchFor t)

/-- PORT_RETRAIN_TIMER: 1 s after a degraded link the port retrains, once (R355). -/
def execPortRetrainTimer (p : Fin 2) (s : State) : Host.Outcome State Fault Refusal :=
  .next (
    let c := s.prt p
    if c.retrainDue && c.degradedAt + 1000000000 ≤ s.time && s.rdN Obj.PORT_STATE 0 p = 3 then
      (s.setPrt p { c with retrainDue := false, retrained := true }).wr Obj.PORT_STATE 1 0 p
    else s)

/-- HOT_RESET: a hot reset or the loss of the data link (R378, R554). -/
def execHotReset (p : Fin 2) (s : State) : Host.Outcome State Fault Refusal :=
  .next (
    if !(s.prt p).ready then s
    else
      let s := s.count Obj.LINK_DOWNS 0 p
      s.assertEvent (.hotReset p) (s.request 9 (some p.val) none))

/-- FUNCTION_FLR: every slice of the port (R377). -/
def execFunctionFlr (p : Fin 2) (s : State) : Host.Outcome State Fault Refusal :=
  .next (
    if !(s.prt p).ready then s
    else
      let s := s.count Obj.FLRS 0 p
      s.assertEvent (.portFlr p) (s.request 10 (some p.val) none))

/-! ### Slices -/

/-- SLICE_FLR: a write of 1 to the page field (R362, R377). -/
def execSliceFlr (p : Fin 2) (t : Fin 512) (v : Nat) (s : State) : Host.Outcome State Fault Refusal :=
  .next (s.onPage p t fun s => if v = 1 then s.assertEvent (.sliceFlr t) (s.request 10 none (some t.val)) else s)

/-- SLICE_RESET (R377). -/
def execSliceReset (who : Requester) (t : Fin 512) (v : Bool) (s : State) : Host.Outcome State Fault Refusal :=
  .next (
    let t := who.instanceOf t
    s.onWrite who Obj.SLICE_RESET (if v then 1 else 0) 0 0 t 0 fun s =>
      let s := s.answer .ok
      if v then s.assertReset (s.request 10 none (some t)) else s)

/-- A write of `SLICE_ENABLE`: 0 applies a SLICE reset that leaves the slice UNBOUND (R356, R377). -/
def State.writeEnable (s : State) (t : Nat) (v authorised : Bool) : State × Option Status :=
  if v then s.bind t (.enable true) authorised
  else match s.bindRefusal t (.enable false) authorised with
    | some e => (s, some e)
    | none =>
      if s.sliceEnabled t then (s.assertReset { s.request 10 none (some t) with unbind := true }, none) else (s, none)

/-- SLICE_ENABLE (R356 to R358). -/
def execSliceEnable (who : Requester) (t : Fin 512) (v : Bool) (s : State) : Host.Outcome State Fault Refusal :=
  .next (
    let t := who.instanceOf t
    s.onWrite who Obj.SLICE_ENABLE (if v then 1 else 0) 0 0 t 0 fun s =>
      let (s, e) := s.writeEnable t v false
      s.answer (e.getD .ok))

/-- REBIND: the enclave authorises a binding write for its sponsor (R357, R398). -/
def execRebind (e : Fin 64) (w : BindWrite) (s : State) : Host.Outcome State Fault Refusal :=
  .next (s.onCall e fun s =>
    let t := s.rdN Obj.SPONSOR 0 e
    if 512 ≤ t then s.reply e .noRight
    else
      let (s, r) := match w with
        | .enable v => s.writeEnable t v true
        | .port _ | .pasid _ | .cls _ | .stations _ | .rights _ _ _ | .window _ _ _ => s.bind t w true
      match r with
      | some x => s.reply e (.status x.code x.detail [])
      | none => s.reply e (.done []))

/-! ### Rings -/

/-- A ring write is checked: the right of its kind, and the ring enabled (R373). -/
def State.ringOpen (s : State) (t n q : Nat) : Bool := s.ringRight t n q && s.rdB Obj.RING_ENABLE 0 (ringIx n q) t

/-- RING_TAIL_WRITE: an index modulo the ring's size (R362, R365, R373). -/
def execRingTailWrite (p : Fin 2) (t : Fin 512) (n : Fin 8) (q : Fin 4) (v : Nat) (s : State) : Host.Outcome State Fault Refusal :=
  .next (s.onStationPage p t n fun s =>
    if !s.ringOpen t n q then s.spoof t 3 n
    else
      let s := s.crossDoorbell (.ringTail n t q) n v
      (s.setRing t n q { s.ring t n q with tail := bits 11 0 v % s.ringSize t n q }).fetch n)

/-- COMP_HEAD_WRITE (R362, R366, R373). -/
def execCompHeadWrite (p : Fin 2) (t : Fin 512) (n : Fin 8) (q : Fin 4) (v : Nat) (s : State) : Host.Outcome State Fault Refusal :=
  .next (s.onStationPage p t n fun s =>
    if !s.ringOpen t n q then s.spoof t 3 n
    else
      let s := s.crossDoorbell (.compHead n t q) n v
      (s.setRing t n q { s.ring t n q with compHead := bits 11 0 v % s.ringSize t n q }).fetch n)

/-- A transfer as its descriptor names it; the status is BAD_DESCRIPTOR where the descriptor breaks R368. -/
def xferOf (n w : Nat) : Xfer :=
  let kind := bits 27 24 w
  let len := bits 95 64 w
  let host := bits 255 192 w
  let ok := bits 31 28 w = 1 && 8 ≤ kind && kind ≤ 10 && bits 63 32 w = 0 && bits 9 8 w = 0 && bits 4 0 w = 0
    && bits 191 128 w % 64 = 0 && (kind = 10 || host % 64 = 0) && len % 64 = 0 && len ≠ 0
    && (!bit 7 w || bits 319 256 w % 8 = 0) && (!bit 6 w || bits 447 384 w % 8 = 0)
  { station := n, tenant := bits 20 12 w, queue := bits 11 10 w, jobId := bits 127 96 w, kind := kind, hostAddr := host,
    stationAddr := bits 191 128 w, len := len, fenceWait := if bit 7 w then some (bits 319 256 w, bits 383 320 w) else none,
    fenceSignal := if bit 6 w then some (bits 447 384 w, bits 511 448 w) else none, irq := bit 5 w,
    moved := !ok, status := if ok then csOk else csBadDescriptor }

/-- The code of the first check that a descriptor fails: TENANT, STATION, QUEUE (R373). -/
def descriptorSpoof (t n q w : Nat) : Option Nat :=
  if bits 20 12 w ≠ t then some 1 else if bits 23 21 w ≠ n then some 2 else if bits 11 10 w ≠ q then some 3 else none

/-- DESCRIPTOR_FETCHED: the data of the oldest read of a ring arrives; that of a read issued before its fetches stopped is discarded (R366,
R367, R373, R374, R380). -/
def execDescriptorFetched (t : Fin 512) (n : Fin 8) (q : Fin 4) (data : Bytes) (s : State) : Host.Outcome State Fault Refusal :=
  .next (
    let r := s.ring t n q
    let w := ofLE (data.take 64)
    if r.stale ≠ 0 then s.setRing t n q { r with stale := r.stale - 1 }
    else if r.reading = 0 then s
    else if s.sliceState t ≠ slActive || s.rdN Obj.RING_STATE 0 (ringIx n q) t ≠ 1 then
      s.setRing t n q ({ r with reading := r.reading - 1 } : Ring).stop
    else
      let r := { r with reading := r.reading - 1, head := (r.head + 1) % s.ringSize t n q }
      match descriptorSpoof t n q w with
      | some code => ((s.setRing t n q r).spoof t code n).fetch n
      | none =>
        let r := { r with outstanding := r.outstanding + 1 }
        if s.rdN Obj.RING_KIND 0 (ringIx n q) t = 0 then
          let s := s.setRing t n q r
          ({ s with ingress := s.ingress.put n (s.ingress.getD n [] ++ [⟨t, q, data⟩]) } : State).fetch n
        else (s.setRing t n q { r with xfers := r.xfers ++ [xferOf n w] }).fetch n)

/-- RING_READ_FAILED: FAULT of the ring, and RING_FAULT with the station, the queue and the cause (R380). -/
def execRingReadFailed (t : Fin 512) (n : Fin 8) (q : Fin 4) (cause : Nat) (s : State) : Host.Outcome State Fault Refusal :=
  .next (
    let r := s.ring t n q
    if r.stale ≠ 0 then s.setRing t n q { r with stale := r.stale - 1 }
    else if r.reading = 0 then s
    else
      let s := s.setRing t n q ({ r with reading := r.reading - 1 } : Ring).stop
      if s.sliceState t ≠ slActive || s.rdN Obj.RING_STATE 0 (ringIx n q) t ≠ 1 then s
      else
        (s.wr Obj.RING_STATE 2 0 (ringIx n q) t).toTenant t (s.mkRec 0x0013 3 n t [(q, 2), (cause, 4)]))

/-- RING_ENABLE: 1 enables or restarts the ring from its present head, 0 disables it (R359, R380, R382). -/
def execRingEnable (who : Requester) (t : Fin 512) (n : Fin 8) (q : Fin 4) (v : Bool) (s : State) : Host.Outcome State Fault Refusal :=
  .next (
    let t := who.instanceOf t
    let i := ringIx n q
    s.onWrite who Obj.RING_ENABLE (if v then 1 else 0) 0 i t 0 fun s =>
      if !v then
        let r := (s.ring t n q).stop
        let s := (s.wr Obj.RING_ENABLE 0 0 i t).wr Obj.RING_STATE 0 0 i t
        (if r = s.ring t n q then s else s.setRing t n q r).answer .ok
      else if !s.ringRight t n q then (s.mailboxSpoof who Obj.RING_ENABLE n i 0 (some .noRight)).answer .noRight
      else
        let s := (s.wr Obj.RING_ENABLE 1 0 i t).wr Obj.RING_STATE 1 0 i t
        ((s.setRing t n q (s.ring t n q)).answer .ok).fetch n)

/-! ### Transfers -/

/-- The front transfer of a ring, of a kind, that has not moved, and whose fence, read from a memory that serves, lets it go (R368, R369). -/
def State.xferFront (s : State) (t n q kind : Nat) : Option (Xfer × Ring) :=
  let r := s.ring t n q
  match r.xfers with
  | [] => none
  | x :: _ =>
    let ready : Bool := match x.fenceWait with
      | none => true
      | some (a, v) => !x.sluiced.isEmpty || !s.inside (.tenant t) n 1 a 8 || (s.memServes n && v ≤ ofLE (s.readTagged n a 8 0))
    if x.kind = kind && !x.moved && ready then some (x, r) else none

/-- The front transfer has moved its data, or ends without. -/
def State.setFront (s : State) (t n q : Nat) (x : Xfer) : State :=
  let r := s.ring t n q
  s.setRing t n q { r with xfers := x :: r.xfers.drop 1 }

/-- A transfer's fence and station range lie in the slice's windows with the access, and outside the ranges of enclaves (R361, R369, R394). -/
def State.xferAllowed (s : State) (x : Xfer) (access : Nat) : Bool :=
  (match x.fenceWait with
    | some (a, _) => s.inside (.tenant x.tenant) x.station 1 a 8
    | none => true)
    && s.inside (.tenant x.tenant) x.station access x.stationAddr x.len
    && (s.tagFault x.station x.stationAddr x.len 0).isNone

/-- A transfer into the station writes its bytes through the ingress sluice. A memory that does not serve leaves them there, as far as the
sluice has room; the rest is held back at the headgate (R18, R367, R368, R597, R601, R655). -/
def State.xferWrite (s : State) (t n q : Nat) (x : Xfer) (b : Bytes) : State :=
  if s.xferAllowed x 2 then
    let b := x.sluiced ++ b.drop x.sluiced.length
    if s.memServes n then
      ((s.writeTagged n x.stationAddr b 0 true).setFront t n q { x with moved := true, data := b, sluiced := [] }).fetch n
    else s.setFront t n q { x with sluiced := b.take (x.sluiced.length + (sluiceBytes - s.sluiceUsed n)) }
  else (s.noteTag n x.stationAddr x.len 0).setFront t n q { x with moved := true, status := csAccessFault, sluiced := [] }

/-- The front transfer begins to move, as a check-value unit on DMA sees it (R597, R603). -/
def State.cvXfer (s : State) (t n q : Nat) (x : Xfer) : State := if x.sluiced.isEmpty then s.cvTransferStart n t q x.jobId else s

/-- XFER_HOST_TO_STATION: the data that the host's memory returns, or none where the read failed (R368, R369, R380). -/
def execXferHostToStation (t : Fin 512) (n : Fin 8) (q : Fin 4) (data : Option Bytes) (s : State) : Host.Outcome State Fault Refusal :=
  .next (
    match s.xferFront t n q 8 with
    | none => s
    | some (x, _) =>
      let s := s.cvXfer t n q x
      let s := if s.xferAllowed x 2 && x.sluiced.isEmpty then
          s.emit (.hostRead (s.rdN Obj.SLICE_PORT 0 0 t) (s.rdN Obj.SLICE_PASID 0 0 t) x.hostAddr x.len)
        else s
      match data with
      | none => s.setFront t n q { x with moved := true, status := csAccessFault, sluiced := [] }
      | some b => s.xferWrite t n q x (padTo x.len (b.take x.len)))

/-- XFER_STATION_TO_HOST (R368, R369). -/
def execXferStationToHost (t : Fin 512) (n : Fin 8) (q : Fin 4) (s : State) : Host.Outcome State Fault Refusal :=
  .next (
    match s.xferFront t n q 9 with
    | none => s
    | some (x, _) =>
      let s := s.cvXfer t n q x
      if s.xferAllowed x 1 && !s.memServes n then s
      else if s.xferAllowed x 1 then
        let b := s.readTagged n x.stationAddr x.len 0
        (s.hostWrite t x.hostAddr b).setFront t n q { x with moved := true, data := b }
      else (s.noteTag n x.stationAddr x.len 0).setFront t n q { x with moved := true, status := csAccessFault })

/-- XFER_FILL: the fill word repeated (R368, R369). -/
def execXferFill (t : Fin 512) (n : Fin 8) (q : Fin 4) (s : State) : Host.Outcome State Fault Refusal :=
  .next (
    match s.xferFront t n q 10 with
    | none => s
    | some (x, _) => (s.cvXfer t n q x).xferWrite t n q x ((List.replicate (x.len / 4) (toLE 4 (bits 31 0 x.hostAddr))).flatten))

/-- TRANSFER_COMPLETE: the front transfer ends; its completion carries a free ENERGY (R365, R368, R369, R604). -/
def execTransferComplete (t : Fin 512) (n : Fin 8) (q : Fin 4) (s : State) : Host.Outcome State Fault Refusal :=
  .next (
    let r := s.ring t n q
    match r.xfers with
    | [] => s
    | x :: rest =>
      if !x.moved then s
      else
        let (energy, s) := s.drawNat (2 ^ 32)
        let s := s.setRing t n q { r with xfers := rest }
        let s := s.cvTransfer n t q x.data (x.status = csOk)
        (s.completion t n q (completionRecord x.jobId 0 x.status 0 0 energy 0 s.time) x.fenceSignal x.irq).fetch n)

/-! ### Landing rings -/

/-- The stations of a slice, to whose control cores its landing heads cross (R593). DEDUCED: assumption 80. -/
def State.stationsOf (s : State) (t : Nat) : List Nat := (List.range 8).filter fun n => s.sliceOn t n

/-- TOUCH_LAND_HEAD (R362, R370). -/
def execTouchLandHead (p : Fin 2) (t : Fin 512) (v : Nat) (s : State) : Host.Outcome State Fault Refusal :=
  .next (s.onPage p t fun s =>
    let s := s.each (s.stationsOf t) fun s n => s.crossDoorbell (.touchHead n t) n v
    let c := s.slc t
    s.setSlc t { c with touchLand := { c.touchLand with head := bits 11 0 v % s.rdN Obj.TOUCH_LAND_ENTRIES 0 0 t } })

/-- NOTIFY_LAND_HEAD (R362, R370). -/
def execNotifyLandHead (p : Fin 2) (t : Fin 512) (v : Nat) (s : State) : Host.Outcome State Fault Refusal :=
  .next (s.onPage p t fun s =>
    let s := s.each (s.stationsOf t) fun s n => s.crossDoorbell (.noteHead n t) n v
    let c := s.slc t
    s.setSlc t { c with noteLand := { c.noteLand with head := bits 11 0 v % s.rdN Obj.NOTIFY_LAND_ENTRIES 0 0 t } })

/-- The landing rings of a slice work: it is ACTIVE or QUARANTINED (R370, R375). -/
def State.landing (s : State) (t : Nat) : Bool := s.sliceState t = slActive || s.sliceState t = slQuarantined

/-- LANDING_DELIVERY: the next item of a queue to its ring, then the tail, then the interrupt (R370). -/
def execLandingDelivery (t : Fin 512) (isTouch : Bool) (s : State) : Host.Outcome State Fault Refusal :=
  .next (
    let c := s.slc t
    let shadow := s.rdN Obj.LAND_SHADOW_ADDR 0 0 t
    if !s.landing t then s
    else if isTouch then
      let size := s.rdN Obj.TOUCH_LAND_ENTRIES 0 0 t
      let addr := s.rdN Obj.TOUCH_LAND_ADDR 0 0 t
      let l := c.touchLand
      let next := (l.tail + 1) % size
      if addr = 0 || next = l.head then s
      else match (s.touchQ.getD t {}).takeSmall TouchRec.prio with
        | (none, _) => s
        | (some r, q) =>
          let s := ({ s with touchQ := s.touchQ.put t q } : State).countTenantItems t
          let s := (s.hostWrite t (addr + 32 * l.tail) r.encode).setSlc t { c with touchLand := { l with tail := next } }
          (s.hostWrite t shadow (toLE 4 next)).irqMapped t 0
    else
      let size := s.rdN Obj.NOTIFY_LAND_ENTRIES 0 0 t
      let addr := s.rdN Obj.NOTIFY_LAND_ADDR 0 0 t
      let l := c.noteLand
      let next := (l.tail + 1) % size
      if addr = 0 || next = l.head then s
      else match (s.noteQ.getD t {}).takeSmall Rec.prio with
        | (none, _) => s
        | (some r, q) =>
          let s := ({ s with noteQ := s.noteQ.put t q } : State).countTenantItems t
          let s := (s.hostWrite t (addr + 32 * l.tail) r.encode).setSlc t { c with noteLand := { l with tail := next } }
          (s.hostWrite t (shadow + 4) (toLE 4 next)).irqMapped t 1)

/-- MSIX_VECTOR_UNMASK: a pending message of the vector is sent (R371). -/
def execMsixVectorUnmask (p : Fin 2) (v : Fin 2048) (s : State) : Host.Outcome State Fault Refusal :=
  .next (
    let c := s.prt p
    let unmasked := if c.unmasked.contains v then c.unmasked else c.unmasked ++ [v.val]
    let s := s.setPrt p { c with unmasked := unmasked, msixPending := c.msixPending.filter (· ≠ v) }
    if c.msixPending.contains v then s.emit (.msix p v) else s)

end Sys2Proof.Machine
end

