-- ==== Sys2Proof/Machine/Settings.lean ====
section
/-! DEFINITION. Saving settings, and the erases of the flash (R488 to R493, R523, R532). -/
namespace Sys2Proof.Machine

/-! ### Flash -/

/-- Flash offsets of R523. -/
def stagingBase : Nat := 0x03100000
def settingsBase : Nat := 0x09100000
def settingsBank (b : Nat) : Nat := settingsBase + b * 0x00800000

/-- The next erase that is due starts where none is in progress and none is suspended: the bank after a change of banks, the staging bank
after CANCEL, the position of a piece (R489, R532, R536). -/
def State.nextErase (s : State) : State :=
  if s.rst.erase.isSome || s.rdN Obj.ERASE_SUSPENDED ≠ 0xFFFFFFFF then s
  else
    let start (a : Nat) : State := ({ s with rst := { s.rst with erase := some a } } : State).emit (.flash "erase" a)
    match s.settings.eraseDue with
    | some b => start (settingsBank b)
    | none =>
      if s.upd.erasing then start stagingBase
      else match s.upd.writing with
        | p :: _ => if p.erase then start (stagingBase + 4096 * p.seq) else s
        | [] => s

/-- FLASH_ERASE_DONE (R489, R532, R536). -/
def execFlashEraseDone (s : State) : Host.Outcome State Fault Refusal :=
  .next (
    match s.rst.erase with
    | none => s
    | some a =>
      let s : State := { s with rst := { s.rst with erase := none } }
      let s : State :=
        if settingsBase ≤ a then { s with settings := { s.settings with eraseDue := none } }
        else if s.upd.erasing then { s with upd := { s.upd with erasing := false, staged := [] } }
        else match s.upd.writing with
          | p :: l =>
            if a = stagingBase + 4096 * p.seq then
              { s with upd := { s.upd with writing := { p with erase := false } :: l, staged := s.upd.staged.del p.seq } }
            else s
          | [] => s
      s.nextErase)

/-! ### Saves -/

/-- The safe store of a station in OFF lies in flash alone, and stays there (R176). -/
def State.keptSafe (s : State) (g : Nat) : FMap OKey Bytes :=
  let n := g / 16 - 8
  let k := Obj.SAFE_STORE.key n 0 512 0
  if k.group = g && s.stationState n = stOff && (s.blobs.find k).isNone && s.savedSafe n ≠ [] then [(k, s.savedSafe n)] else []

/-- The record of a group as it would be saved now (R488, R489). -/
def State.groupNow (s : State) (g : Nat) : GroupRec :=
  { schema := s.schemaOf g, seq := s.settings.seq + 1,
    vals := s.regs.filter fun e => e.1.group = g && s.isSavedNow e.1
    blobs := (s.blobs.filter fun e => e.1.group = g && s.isSavedNow e.1) ++ s.keptSafe g }

/-- A group has changed since its last record. -/
def State.groupChanged (s : State) (g : Nat) : Bool :=
  let now := s.groupNow g
  match s.settings.flash.find g with
  | some r => r.vals ≠ now.vals || r.blobs ≠ now.blobs || r.schema ≠ now.schema || !r.good
  | none => now.vals ≠ [] || now.blobs ≠ []

/-- An update keeps the bank of before it: no change of banks (R548). -/
def State.bankHeld (s : State) : Bool := s.updState = upApplying || s.updState = upTrial || s.updState = upReverting

/-- A save starts (R489, R490, R548). Whether the bank in use lacks room for it depends on the sizes of records, which the spec does not
give: free (assumption 1). -/
def State.startSave (s : State) : State :=
  if s.settings.saving.isSome then s
  else
    let (lacks, s) := s.drawNat 2
    let change : Bool := lacks = 1
    if change && s.bankHeld then s
    else
      let groups := (List.range 256).filter fun g => s.groupChanged g || (change && (s.settings.flash.find g).isSome)
      let job : SaveJob := { groups := groups.map fun g => (g, s.groupNow g), bankChange := change }
      (({ s with settings := { s.settings with saving := some job, firstChange := none, failed := 0 } } : State).wr
        Obj.SETTINGS_STATE 3)

/-- SETTINGS_SAVE_TIMER: 2 s after the last change, or 10 s after the first unsaved one (R490). -/
def execSettingsSaveTimer (s : State) : Host.Outcome State Fault Refusal :=
  .next (s.firmware fun s =>
    match s.settings.firstChange with
    | none => s
    | some t =>
      if s.isHwReady 16 && (s.settings.lastChange + 2000000000 ≤ s.time || t + 10000000000 ≤ s.time) then s.startSave else s)

/-- SETTINGS_SAVE: a write of 1 starts a save at once (R490). -/
def execSettingsSave (who : Requester) (v : Bool) (s : State) : Host.Outcome State Fault Refusal :=
  .next (s.onWrite who Obj.SETTINGS_SAVE (if v then 1 else 0) 0 0 512 0 fun s => if v then s.guarded (s.needHwReady 16) fun s => s.startSave.answer .ok else s.answer .ok)

/-- SETTINGS_SAVE_DONE: the last record's check value is written, or an attempt fails; the third failure reports FAILED (R489, R490, R497).
-/
def execSettingsSaveDone (ok : Bool) (s : State) : Host.Outcome State Fault Refusal :=
  .next (
    let c := s.settings
    match c.saving with
    | none => s
    | some job =>
      if ok then
        let flash := job.groups.foldl (fun m e => m.put e.1 e.2) c.flash
        let c := { c with saving := none, failed := 0, flash := flash, seq := c.seq + 1,
                          bank := if job.bankChange then 1 - c.bank else c.bank,
                          eraseDue := if job.bankChange then some c.bank else c.eraseDue }
        let s := (({ s with settings := c } : State).count Obj.SAVES).wr Obj.SETTINGS_STATE (if c.firstChange.isSome then 2 else 1)
        (s.clearAlarm 17 noStation 0).nextErase
      else if c.failed + 1 < 3 then { s with settings := { c with failed := c.failed + 1 } }
      else
        let s := ({ s with settings := { c with saving := none, failed := 0 } } : State).wr Obj.SETTINGS_STATE 4
        s.alarm 17 1 noStation 0)

/-- Objects that `SETTINGS_DEFAULTS` leaves: the factory reference, the safe store, and the binding of a sealed slice (R357, R493). -/
def State.defaultsSpare (s : State) (k : OKey) : Bool :=
  (8 ≤ k.area && (k.idx = 0x4810 || k.idx = 0x2160)) || (k.area = 3 && k.ten < 512 && s.rdB Obj.SEALED 0 0 k.ten)

/-- Whether the key names an RWC object. -/
def OKey.isRwc (k : OKey) : Bool :=
  match lookupRow k.area k.idx k.sub with
  | some (r, _) => r.acc = .rwc
  | none => false

/-- The default of a key. -/
def OKey.default (k : OKey) : Int :=
  match lookupRow k.area k.idx k.sub with
  | some (r, _, i, j) => r.dflt i j
  | none => 0

/-- The default content of a key. -/
def OKey.defaultBlob (k : OKey) : Bytes :=
  match lookupRow k.area k.idx k.sub with
  | some (r, _) => blobDefault r
  | none => []

/-- Every saved object at its default, as if written: slices go UNBOUND, gates open, stations are asked to run; RWC objects take their
defaults as shadows (R493). -/
def State.settingsDefaults (s : State) : State :=
  let s := s.each tenants fun s t => if s.sliceEnabled t then (s.writeEnable t false false).1 else s
  let s := s.each (List.range 8) fun s n =>
    let held := bit 0 (s.rdN Obj.FUNCTION_GATE n) && s.kindHeld n .zone || bit 2 (s.rdN Obj.FUNCTION_GATE n) && s.kindHeld n .source
    let s := if held then s.wr Obj.GATE_PENDING 0 n else s.applyGate n 0
    if s.rdN Obj.STATION_TARGET n = 2 then s else s.applyTarget n 2
  let mine (k : OKey) : Bool := s.isSavedNow k && !s.defaultsSpare k && !(8 ≤ k.area && (k.idx = 0x0018 || k.idx = 0x0040))
  let rwc := (s.regs.filter fun e => mine e.1 && e.1.isRwc).map fun e => (e.1, e.1.default)
  let rwcBlobs := (s.blobs.filter fun e => mine e.1 && e.1.isRwc).map fun e => (e.1, e.1.defaultBlob)
  let s : State := { s with
    shadowBlobs := s.shadowBlobs.filter (fun e => !mine e.1) ++ rwcBlobs
    regs := s.regs.filter fun e => !(mine e.1 && !e.1.isRwc)
    shadow := s.shadow.filter (fun e => !mine e.1) ++ rwc
    blobs := s.blobs.filter fun e => !(mine e.1 && !e.1.isRwc)
    settings := { s.settings with firstChange := some (s.settings.firstChange.getD s.time), lastChange := s.time } }
  (s.each (List.range 8) fun s n => (s.syncZones n).syncSecure n).holdCeilings

/-- SETTINGS_DEFAULTS (R493). -/
def execSettingsDefaults (who : Requester) (v : Bool) (s : State) : Host.Outcome State Fault Refusal :=
  .next (s.onWrite who Obj.SETTINGS_DEFAULTS (if v then 1 else 0) 0 0 512 0 fun s =>
    if v then s.guarded (s.needHwReady 16) fun s => s.settingsDefaults.startSave.answer .ok else s.answer .ok)

end Sys2Proof.Machine
end

