-- ==== Sys2Proof/Machine/Manifest.lean ====
section
/-! DEFINITION. Manifests: their layout, their checks and the plan (R525 to R528, R534, R535). -/
namespace Sys2Proof.Machine

/-- An entry of a manifest with its range record: five pairs of least and greatest versions (R527). -/
structure ManifestEntry where
  component : Nat
  rollback : Nat
  version : Nat
  offset : Nat
  size : Nat
  digest : Bytes
  ranges : List (Nat × Nat)
deriving DecidableEq, Repr

/-- A manifest (R526). -/
structure Manifest where
  withdraw : Bool
  packageId : Nat
  packageSize : Nat
  silicon : Nat
  keySlot : Nat
  entries : List ManifestEntry
  body : Bytes
  signature : Bytes
  /-- Every reserved field is 0, and the sizes fit. -/
  clean : Bool
deriving DecidableEq, Repr

/-- Five pairs of U32 from an offset (R527). -/
def rangePairs (b : Bytes) (o : Nat) : List (Nat × Nat) :=
  (List.range 5).map fun k => (fieldLE b (o + 8 * k) 4, fieldLE b (o + 8 * k + 4) 4)

/-- A manifest as its bytes give it (R526, R527). -/
def parseManifest (b : Bytes) : Manifest :=
  let n := byteAt b 2
  let entry (k : Nat) : ManifestEntry :=
    let o := 0x20 + 64 * k
    { component := byteAt b o, rollback := byteAt b (o + 1), version := fieldLE b (o + 4) 4, offset := fieldLE b (o + 8) 4,
      size := fieldLE b (o + 12) 4, digest := slice b (o + 16) 48, ranges := rangePairs b (0x20 + 64 * n + 40 * k) }
  let signed := 0x20 + 104 * n
  { withdraw := bit 0 (byteAt b 3), packageId := fieldLE b 4 4, packageSize := fieldLE b 8 4, silicon := byteAt b 12,
    keySlot := byteAt b 13, entries := (List.range (min n 5)).map entry, body := b.take signed, signature := slice b signed 96,
    clean := fieldLE b 0 2 = 1 && 1 ≤ n && n ≤ 5 && b.length = 128 + 104 * n && byteAt b 3 / 2 = 0 && fieldLE b 14 18 = 0
      && (List.range (min n 5)).all fun k => fieldLE b (0x20 + 64 * k + 2) 2 = 0 }

/-- The size of a component's slot (R523). -/
def slotSize : Nat → Nat
  | 0 => 0x200000
  | 1 => 0x1000000
  | 2 => 0x400000
  | _ => 0x100000

/-- Fields in range, no image beyond the package or larger than its slot, none overlapping (R526 to R528). -/
def Manifest.formatOk (m : Manifest) : Bool :=
  m.clean && m.packageId ≠ 0 && m.packageSize % 4096 = 0 && 4096 ≤ m.packageSize && m.packageSize ≤ 33554432 && m.keySlot ≤ 3
    && (m.entries.map ManifestEntry.component).Nodup
    && m.entries.all (fun e => e.component ≤ 4 && e.rollback ≤ 64 && e.offset % 4096 = 0 && e.size ≤ slotSize e.component
        && e.offset + e.size ≤ m.packageSize)
    && m.entries.all fun e => m.entries.all fun f =>
        e.component = f.component || e.offset + e.size ≤ f.offset || f.offset + f.size ≤ e.offset

/-- The signature verifies with the unrevoked image key of the slot (R526). -/
def Manifest.signatureOk (m : Manifest) : Bool :=
  match Config.imageKey m.keySlot with
  | some k => Config.ecdsaVerify k (Config.sha384 m.body) m.signature
  | none => false

/-- `INSTALLED_VERSION` of a component. -/
def State.installed (s : State) (c : Nat) : Nat := s.rdN Obj.INSTALLED_VERSION 0 0 512 c

/-- The rank of a component's step (R534). -/
def rankOf : Nat → Nat
  | 0 => rkSec
  | 2 => rkStn
  | 3 => rkTch
  | _ => rkMgmt

/-- The entries whose version differs from the installed one (R528). -/
def State.changed (s : State) (m : Manifest) : List ManifestEntry := m.entries.filter fun e => e.version ≠ s.installed e.component

/-- A component with its version and its ranges, for the ordering check. -/
structure Versioned where
  component : Nat
  version : Nat
  ranges : List (Nat × Nat)
deriving DecidableEq, Repr

/-- `fitsAll` of R535. -/
def fitsAll (l : List Versioned) : Bool :=
  l.all fun x => l.all fun y => x.component = y.component
    || (let (lo, hi) := x.ranges.getD y.component (0, 0xFFFFFFFF); lo ≤ y.version && y.version ≤ hi)

/-- The installed components with the ranges that the boot record keeps. -/
def State.have (s : State) : List Versioned :=
  (List.range 5).map fun c => ⟨c, s.installed c, rangePairs (s.blob Obj.INSTALLED_RANGES) (40 * c)⟩

/-- One step of the check of an order: old and new side by side for STN and TCH, then the new alone (R535). -/
def orderStep (new : List ManifestEntry) (rank : Nat) (have_ : List Versioned) : Option (List Versioned) :=
  let mine := (new.filter fun e => rankOf e.component = rank).map fun e => Versioned.mk e.component e.version e.ranges
  let after := (have_.filter fun v => mine.all fun m => m.component ≠ v.component) ++ mine
  let side := if rank = rkStn || rank = rkTch then fitsAll (have_ ++ mine) else true
  if side && fitsAll after then some after else none

/-- An order passes (R535). -/
def orderOk (new : List ManifestEntry) : List Nat → List Versioned → Bool
  | [], _ => true
  | r :: rest, h => match orderStep new r h with
    | some h' => orderOk new rest h'
    | none => false

/-- The orders of a list of ranks in increasing order, lexicographic; `fuel` is the length (R535). -/
def orders : Nat → List Nat → List (List Nat)
  | _, [] => [[]]
  | 0, _ :: _ => []
  | fuel + 1, l => l.flatMap fun r => (orders fuel (l.filter (· ≠ r))).map (r :: ·)

/-- The plan of a manifest, if some order passes (R534, R535). -/
def State.planOf (s : State) (m : Manifest) : Option (List Nat) :=
  let new := s.changed m
  let ranks := [rkSec, rkMgmt, rkStn, rkTch].filter fun r => new.any fun e => rankOf e.component = r
  (orders 4 ranks).find? fun o => orderOk new o s.have

/-- `PLAN`: ranks of 4 bits from bit 15, 0xF unused (R550). -/
def planNumber (l : List Nat) : Nat := (List.range 4).foldl (fun v k => v * 16 + l.getD k 0xF) 0

/-- The first applicable outcome of a manifest (R528). -/
def State.manifestOutcome (s : State) (m : Manifest) : Nat :=
  if s.bankHeld then 1
  else if !m.formatOk then 2
  else if !m.signatureOk then 3
  else if m.silicon ≠ 0xB1 then 4
  else if m.entries.any fun e => e.version < s.installed e.component then 5
  else if m.entries.any fun e => e.rollback < s.rdN Obj.ROLLBACK_FUSES 0 0 512 e.component then 6
  else if (s.changed m).isEmpty then 7
  else if (s.planOf m).isNone then 8
  else 0

end Sys2Proof.Machine
end

