-- ==== Sys2Proof/Machine/Update.lean ====
section
/-! DEFINITION. The update engine (R528 to R549). -/
namespace Sys2Proof.Machine

/-! ### The manifest and the pieces -/

/-- The accepted manifest. -/
def State.manifest (s : State) : Manifest := parseManifest (s.blob Obj.MANIFEST)

/-- Pieces of the accepted package. -/
def State.piecesTotal (s : State) : Nat := s.rdN Obj.PIECES_TOTAL

/-- A piece's bit is set (R532). -/
def State.pieceSet (s : State) (k : Nat) : Bool := bit (k % 8) (byteAt (s.blob Obj.PIECE_BITMAP) (k / 8))

/-- The bitmap takes a content, and the count of set bits follows (R532, R550). -/
def State.setBitmap (s : State) (b : Bytes) : State :=
  let s := s.wrBlob Obj.PIECE_BITMAP b
  s.wr Obj.PIECES_STORED (((List.range s.piecesTotal).filter fun k => s.pieceSet k).length : Nat)

/-- The bits of some pieces take a value. -/
def State.putPieces (s : State) (l : List Nat) (on : Bool) : State :=
  let b := s.blob Obj.PIECE_BITMAP
  s.setBitmap (l.foldl (fun b k => b.set (k / 8) (BitVec.ofNat 8 (putBit (k % 8) on (byteAt b (k / 8))))) b)

/-- With every bit set the engine verifies (R536). -/
def State.checkPieces (s : State) : State :=
  if s.updState = upReceiving && s.piecesTotal ≤ s.rdN Obj.PIECES_STORED then
    (s.setUpd { s.upd with copying := false }).wr Obj.UPDATE_STATE (upVerifying : Nat)
  else s

/-- The engine takes a package (R528, R529, R536). -/
def State.takeManifest (s : State) (b : Bytes) : State :=
  let m := parseManifest b
  let old := s.manifest
  let under := s.updState = upReceiving || s.updState = upVerifying || s.updState = upReady
  let same := under && old.packageId = m.packageId
    && (old.entries.map ManifestEntry.digest) = (m.entries.map ManifestEntry.digest)
  let plan := (s.planOf m).getD []
  let total := m.packageSize / 4096
  let s := ((s.wrBlob Obj.MANIFEST b).wr Obj.PLAN (planNumber plan : Nat)).wr Obj.PIECES_TOTAL (total : Nat)
  let s := s.setUpd { s.upd with plan := plan, index := 0, swapped := 0, reversed := 0, wait := .none, failure := none, copying := false,
                                 erasing := false, writing := if same then s.upd.writing else [], trialBoots := 0, stationBarks := 0 }
  let s := s.wr Obj.UPDATE_STATE (upReceiving : Nat)
  if same then s.checkPieces else s.setBitmap (List.replicate (cdiv total 8) 0)

/-- MANIFEST (R528). -/
def execManifest (who : Requester) (data : Bytes) (s : State) : Host.Outcome State Fault Refusal :=
  .next (s.onRequest who fun s =>
    match s.checkAccess who Obj.MANIFEST true with
    | some x => (s.mailboxSpoof who Obj.MANIFEST 0 0 0 (some x)).answer x
    | none =>
      if data.length < 232 || 648 < data.length || (data.length - 128) % 104 ≠ 0 then s.answer .badRange
      else s.guarded (s.needHwReady 11) fun s =>
        let o := s.manifestOutcome (parseManifest data)
        let s := s.startResult Obj.MANIFEST_RESULT who
        let s := if o = 0 then s.takeManifest data else s
        (s.finish Obj.MANIFEST_RESULT o).answer .ok)

/-- The CRC of a piece record (R530). -/
def pieceCrc (b : Bytes) : Nat := crc32c (b.take 8 ++ slice b 16 4096)

/-- Why a piece record is discarded: 1 package, 2 range, 3 check value (R531). -/
def State.pieceReject (s : State) (b : Bytes) : Option Nat :=
  if s.updState ≠ upReceiving || fieldLE b 0 4 ≠ s.manifest.packageId then some 1
  else if s.piecesTotal ≤ fieldLE b 4 4 then some 2
  else if fieldLE b 8 4 ≠ pieceCrc b then some 3
  else none

/-- A piece record arrives: counted by cause, ignored where its bit is set, else on its way to its staging position (R531, R532, R597). -/
def State.pieceArrives (s : State) (b : Bytes) : State :=
  match s.pieceReject b with
  | some 1 => s.count Obj.REJECT_PACKAGE
  | some 2 => s.count Obj.REJECT_RANGE
  | some _ => s.count Obj.REJECT_CRC
  | none =>
    let k := fieldLE b 4 4
    let data := slice b 16 4096
    let s := s.cvPiece k data
    if s.pieceSet k || s.upd.writing.any fun p => p.seq = k then s
    else
      let p : PieceWrite := { seq := k, data := data, erase := (s.upd.staged.find k).isSome }
      (s.setUpd { s.upd with writing := s.upd.writing ++ [p] }).nextErase

/-- PIECE_STREAM: a record that the DOMAIN stream has completed (R531). -/
def execPieceStream (data : Bytes) (s : State) : Host.Outcome State Fault Refusal :=
  .next (if s.isHwReady 11 && data.length = 4112 then s.pieceArrives data else s)

/-- PIECE_IN: a discarded record is answered RANGE (R531). -/
def execPieceIn (who : Requester) (data : Bytes) (s : State) : Host.Outcome State Fault Refusal :=
  .next (s.onRequest who fun s =>
    match s.checkAccess who Obj.PIECE_IN true with
    | some x => (s.mailboxSpoof who Obj.PIECE_IN 0 0 0 (some x)).answer x
    | none =>
      if data.length ≠ 4112 then s.answer .badRange
      else if (s.pieceReject data).isSome then (s.pieceArrives data).answer .badRange
      else (s.pieceArrives data).answer .ok)

/-- PIECE_PROGRAMMED: the page program of the oldest waiting piece is complete (R532). -/
def execPieceProgrammed (s : State) : Host.Outcome State Fault Refusal :=
  .next (
    match s.upd.writing with
    | [] => s
    | p :: l =>
      if p.erase then s
      else
        let s := s.setUpd { s.upd with writing := l, staged := s.upd.staged.put p.seq p.data }
        (((s.emit (.flash "program" (stagingBase + 4096 * p.seq))).putPieces [p.seq] true).nextErase).checkPieces)

/-- An image as it lies in staging. -/
def State.stagedImage (s : State) (e : ManifestEntry) : Bytes :=
  let first := e.offset / 4096
  (((List.range (cdiv e.size 4096)).map fun k => padTo 4096 (s.upd.staged.getD (first + k) [])).flatten).take e.size

/-- IMAGE_VERIFY_DONE: the digests are compared; the bits of a bad image's pieces are cleared (R536). -/
def execImageVerifyDone (s : State) : Host.Outcome State Fault Refusal :=
  .next (s.firmware fun s =>
    if s.updState ≠ upVerifying || s.upd.copying then s
    else
      let bad := s.manifest.entries.filter fun e => Config.sha384 (s.stagedImage e) ≠ e.digest
      if bad.isEmpty then s.setUpd { s.upd with copying := true }
      else
        let s := s.each bad fun s e =>
          (s.count Obj.DIGEST_FAILS).putPieces ((List.range (cdiv e.size 4096)).map fun k => e.offset / 4096 + k) false
        s.wr Obj.UPDATE_STATE (upReceiving : Nat))

/-- The spare slot of a component (R524). -/
def State.spare (s : State) (c : Nat) : Nat := 1 - s.upd.current.getD c 0

/-- IMAGE_COPY_DONE: images are in the spare slots, the STN image in every station's firmware data region, measured for each (R385,
R536). -/
def execImageCopyDone (s : State) : Host.Outcome State Fault Refusal :=
  .next (s.firmware fun s =>
    if s.updState ≠ upVerifying || !s.upd.copying then s
    else
      let new := s.changed s.manifest
      let slots := new.foldl (fun m e => m.put (e.component, s.spare e.component) e.version) s.upd.slots
      let s := s.setUpd { s.upd with copying := false, slots := slots }
      let s := s.each (new.filter fun e => e.component = 2) fun s e =>
        s.each ((List.range 8).filter fun n => s.stationState n ≠ stOff) fun s _ => s.extend 3 e.digest
      s.wr Obj.UPDATE_STATE (upReady : Nat))

/-! ### Steps -/

/-- The next step or swap waits for `STATION_GAP_MS` (R536). -/
def State.waitGap (s : State) : State := (s.setUpd { s.upd with wait := .gap, since := s.time }).syncStep

/-- The update ends: the engine is IDLE, and the result names the outcome (R536). -/
def State.endUpdate (s : State) (outcome : Nat) : State :=
  let s := s.setUpd { s.upd with plan := [], index := 0, swapped := 0, reversed := 0, wait := .none, trial := [], failure := none,
                                 trialBoots := 0, stationBarks := 0, handover := none, mgmtStep := false }
  ((s.wr Obj.UPDATE_STATE (upIdle : Nat)).finish Obj.UPDATE_RESULT outcome).syncStep

/-- The step in progress is complete, forward or back (R536, R545). -/
def State.completeStep (s : State) : State :=
  let u := s.upd
  let u := { u with mgmtStep := false, schemaDigest := none }
  if s.updState = upApplying then
    let s := s.setUpd { u with index := u.index + 1, swapped := 0 }
    if u.index + 1 < u.plan.length then s.waitGap
    else ((s.setUpd { s.upd with wait := .none, trialAt := s.time }).wr Obj.UPDATE_STATE (upTrial : Nat)).syncStep
  else if s.updState = upReverting then
    let s := s.setUpd { u with index := u.index - 1, swapped := 8, reversed := 0 }
    if u.index ≤ 1 then s.endUpdate (u.failure.getD 7) else s.waitGap
  else s

/-- A station whose swap is due: one in OFF, or for TCH one whose touch engine is OFF, counts as swapped (R543). -/
def State.needsSwap (s : State) (rank n : Nat) : Bool :=
  s.stationState n ≠ stOff && (rank ≠ rkTch || s.touchState n ≠ toOff)

/-- Stations done in the present direction, and how many there are to do (R545). -/
def State.swapsDone (s : State) : Nat := if s.updState = upReverting then s.upd.reversed else s.upd.swapped
def State.swapsDue (s : State) : Nat := if s.updState = upReverting then s.upd.swapped else 8

/-- The next station to swap. -/
def State.nextSwap (s : State) (rank : Nat) : Option Nat :=
  (List.range s.swapsDue).find? fun n => s.swapsDone ≤ n && s.needsSwap rank n

/-- The stations done become `k`. -/
def State.setDone (s : State) (k : Nat) : State :=
  s.setUpd (if s.updState = upReverting then { s.upd with reversed := k } else { s.upd with swapped := k })

/-- The swap of a station is complete: the gap before the next one, or the end of the step (R536, R543). -/
def State.swapDone (s : State) (rank n : Nat) : State :=
  let s := s.setDone (n + 1)
  match s.nextSwap rank with
  | some _ => s.waitGap
  | none => s.completeStep

/-- The handover record (R538). -/
def State.writeHandover (s : State) : Handover :=
  { peers := s.net.peers, queue := s.alarmQ, windows := s.alarms.windows, nextSeq := s.alarms.nextSeq,
    members := (List.range 64).map fun a => (a, s.rdN Obj.MEMBER_STATE 0 a, s.net.unanswered.getD a 0) }

/-- The TRIAL slots of a step's components are named, or no longer (R524, R537, R545). -/
def State.nameTrial (s : State) (rank : Nat) : State :=
  let cs := ((s.changed s.manifest).map ManifestEntry.component).filter fun c => rankOf c = rank
  s.setUpd { s.upd with trial := if s.updState = upReverting then s.upd.trial.filter (fun e => !cs.contains e.1)
                                 else cs.foldl (fun m c => m.put c (s.spare c)) s.upd.trial }

/-- The MGMT step: the handover record is written, the slots are named, and the update-handover source applies a reset of MGMT reach
(R537, R538). -/
def State.startMgmt (s : State) : State :=
  let digest := ((s.changed s.manifest).find? fun e => e.component = 4).map ManifestEntry.digest
  let (d, s) := s.drawBytes 48
  let digest := if s.updState = upReverting then digest.map fun _ => d else digest
  let s := s.nameTrial rkMgmt
  let s := s.setUpd { s.upd with wait := .run, since := s.time, mgmtStep := true, trialBoots := 0, handover := some s.writeHandover,
                                 schemaDigest := digest }
  s.syncStep.assertReset { source := 11, reach := rMgmt }

/-- The SEC step: a reset of SEC reach (R540). -/
def State.startSec (s : State) : State :=
  let s := (s.nameTrial rkSec).setUpd { (s.nameTrial rkSec).upd with wait := .run, since := s.time }
  s.syncStep.assertReset { source := 11, reach := rSec }

/-- The SEC step waits for the enclaves; each sponsor is told once (R540). -/
def State.waitSec (s : State) : State :=
  let sponsors := ((s.liveEnclaves.map fun e => s.rdN Obj.SPONSOR 0 e).filter (· < 512)).eraseDups
  let s := s.each sponsors fun s t => s.toTenant t (s.mkRec 0x001A 1 noStation t [(s.manifest.packageId, 32)])
  (s.setUpd { s.upd with wait := .sec, since := s.time }).syncStep

/-- The next step, or the next swap of the step in progress, starts (R536, R541 to R543). -/
def State.startNext (s : State) : State :=
  match s.stepRank with
  | none => if s.updState = upReverting then s.endUpdate (s.upd.failure.getD 7) else s
  | some r =>
    if r = rkSec then s.waitSec
    else if r = rkMgmt then s.startMgmt
    else match s.nextSwap r with
      | some n =>
        let s := s.setDone n
        let s := if s.swapsDone = 0 then s.nameTrial r else s
        (s.setUpd { s.upd with wait := .run, since := s.time }).syncStep
      | none => (s.nameTrial r).completeStep

/-- Applying begins (R536). -/
def State.apply (s : State) (who : Requester) : State :=
  let s := s.startResult Obj.UPDATE_RESULT who
  let s := s.setUpd { s.upd with index := 0, swapped := 0, reversed := 0, failure := none, stationBarks := 0,
                                 oldSchema := some (s.blob Obj.SCHEMA_VERSIONS) }
  (s.wr Obj.UPDATE_STATE (upApplying : Nat)).startNext

/-- A write of `UPDATE_COMMAND` that passes R461: what its state does not allow is refused (R536). -/
def State.onUpdate (s : State) (who : Requester) (v : Nat) (allowed : State → Bool) (f : State → State) : State :=
  s.onWrite who Obj.UPDATE_COMMAND v 0 0 512 0 fun s => s.guarded (s.needHwReady 11) fun s =>
    if allowed s then (f s).answer .ok else s.answer (.refused 8)

/-- UPDATE_APPLY (R536). -/
def execUpdateApply (who : Requester) (s : State) : Host.Outcome State Fault Refusal :=
  .next (s.onUpdate who 1 (fun s => s.updState = upReady) fun s => s.apply who)

/-- APPLY_AT_REACHED: with network time known (R536). -/
def execApplyAtReached (s : State) : Host.Outcome State Fault Refusal :=
  .next (s.firmware fun s =>
    let t := s.rdN Obj.APPLY_AT
    if s.updState = upReady && s.isHwReady 11 && t ≠ 0 && s.rdN Obj.PTP_STATE ≠ 0 && t ≤ s.networkTime then s.apply .secure else s)

/-- UPDATE_REVERT (R536, R545). -/
def execUpdateRevert (who : Requester) (s : State) : Host.Outcome State Fault Refusal :=
  .next (s.onUpdate who 3 (fun s => s.updState = upTrial) fun s =>
    ((s.setUpd { s.upd with swapped := 8, reversed := 0 }).wr Obj.UPDATE_STATE (upReverting : Nat)).startNext)

/-- UPDATE_CANCEL: staging is erased in the background (R536). -/
def execUpdateCancel (who : Requester) (s : State) : Host.Outcome State Fault Refusal :=
  .next (s.onUpdate who 4 (fun s => s.updState = upReceiving || s.updState = upVerifying || s.updState = upReady) fun s =>
    let s := s.setUpd { s.upd with writing := [], erasing := true, copying := false }
    let s := (s.setBitmap []).wr Obj.PIECES_TOTAL 0
    ((s.endUpdate 8).wr Obj.PLAN 0xFFFF).nextErase)

/-- FORCE_SEC ends the wait of a SEC step (R540). -/
def execForceSec (who : Requester) (s : State) : Host.Outcome State Fault Refusal :=
  .next (s.onUpdate who 5 (fun s => s.upd.wait = .sec) fun s => s.startSec)

/-- SEC_WAIT_END: every enclave is EMPTY (R540). -/
def execSecWaitEnd (s : State) : Host.Outcome State Fault Refusal :=
  .next (s.firmware fun s => if s.upd.wait = .sec && s.liveEnclaves.isEmpty then s.startSec else s)

/-- SEC_STEP_DONE: READY on the trial image; where the boot ROM refused it the update fails (R540, R544). -/
def execSecStepDone (trial : Bool) (s : State) : Host.Outcome State Fault Refusal :=
  .next (
    if s.upd.wait ≠ .run || s.stepRank ≠ some rkSec || !s.secUp || s.sec.restarting then s
    else if trial || s.updState = upReverting then s.completeStep
    else s.failUpdate 3)

/-- Settings are converted to a schema: groups whose version changes take their converted records, or keep their old ones, which R491 then
resets; they are written to the other bank, and the previous one is kept (R547). -/
def State.convertSettings (s : State) (schema : Bytes) (converted : List (Nat × GroupRec)) : State :=
  let before (g : Nat) : Nat := s.schemaOf g
  let after (g : Nat) : Nat := fieldLE schema (2 * g) 2
  let moved := (List.range 256).filter fun g => before g ≠ after g
  let c := s.settings
  let flash := (converted.filter fun e => moved.contains e.1).foldl (fun m e => m.put e.1 { e.2 with schema := after e.1 }) c.flash
  let s := s.setUpd { s.upd with oldBank := some (s.upd.oldBank.getD (c.bank, c.flash)) }
  let s := ({ s with settings := { c with flash := flash, bank := 1 - c.bank } } : State).wrBlob Obj.SCHEMA_VERSIONS schema
  (s.each moved fun s g => s.loadGroups g (g + 1)).reportResets

/-- A revert of the MGMT step restores the bank of before the update; what was changed since is lost (R548). -/
def State.restoreSettings (s : State) : State :=
  match s.upd.oldBank with
  | none => s
  | some (b, flash) =>
    let s : State := { s with settings := { s.settings with flash := flash, bank := b, saving := none, firstChange := none } }
    let s := match s.upd.oldSchema with
      | some v => s.wrBlob Obj.SCHEMA_VERSIONS v
      | none => s
    let s := (s.setUpd { s.upd with oldBank := none }).loadGroups 0 256
    s.toHwLog (s.mkRec 0x8006 0 noStation noTenant [(2, 4), (0, 8)])

/-- MGMT_STEP_DONE: DICTIONARY is set, and the step is complete. The new SCHEMA image gives the versions and the converted records, the new
firmware its translator version (R58, R537, R547). -/
def execMgmtStepDone (schema : Bytes) (converted : List (Nat × GroupRec)) (translator : Nat) (s : State) :
    Host.Outcome State Fault Refusal :=
  .next (s.firmware fun s =>
    if !s.upd.mgmtStep || !s.isHwReady 4 || s.stepRank ≠ some rkMgmt then s
    else
      let back : Bool := s.updState = upReverting
      let schemaStep := (s.changed s.manifest).any fun e => e.component = 4
      let s := if back then s.restoreSettings else if schemaStep then s.convertSettings schema converted else s
      let s := s.each (List.range 8) fun s n => s.wr Obj.TRANSLATOR_VERSION (translator : Nat) n
      let s := s.each (List.range 8) fun s n => s.retranslateOld n translator
      let s := if !back && s.manifest.withdraw then s.each (List.range 8) fun s n => s.withdrawOld n translator else s
      s.completeStep)

/-- The station whose swap runs. -/
def State.swapping (s : State) (rank : Nat) : Option Nat :=
  if s.upd.wait = .run && s.stepRank = some rank then s.nextSwap rank else none

/-- The station stands at a frame boundary, or has none to wait for (R542, R543). -/
def State.swapInstant (s : State) (n : Nat) : Bool :=
  s.stationState n ≠ stRunning || !(s.dsp n).counting || (s.dsp n).boundaryAt = s.time

/-- STN_SWAP_START: at the boundary, or at once in SLEEP, FAULT and MEMORY_FAULT, the control core is reset alone (R542, R543, R558). -/
def execStnSwapStart (s : State) : Host.Outcome State Fault Refusal :=
  .next (
    match s.swapping rkStn with
    | some n =>
      if (s.ctl n).coreOn && s.swapInstant n then
        let s := s.setUpd { s.upd with since := s.time }
        s.assertReset { source := 11, reach := rStation, target := some n, coreOnly := true }
      else s
    | none => s)

/-- STN_SWAP_DONE: the new firmware has taken the record; held work is released (R542). -/
def execStnSwapDone (s : State) : Host.Outcome State Fault Refusal :=
  .next (
    match s.swapping rkStn with
    | some n => if (s.ctl n).coreOn then (s.stReady n 1 true).swapDone rkStn n else s
    | none => s)

/-- STN_SWAP_TIMEOUT: 10 ms have passed; the core restarts on the old image, which goes on where it stopped, and the update fails (R544).
-/
def execStnSwapTimeout (s : State) : Host.Outcome State Fault Refusal :=
  .next (
    match s.swapping rkStn with
    | some n =>
      if s.time < s.upd.since + 10000000 || s.isStReady n 1 then s
      else
        let s := s.setCtl n { s.ctl n with coreOn := true }
        let s : State := { s with rst := { s.rst with inReset := s.rst.inReset.filter (· ≠ .core n) } }
        (s.stReady n 1 true).failUpdate 4
    | none => s)

/-- TCH_MICROCODE_SWAP: between two pairs a station's sequencer takes the microcode in force, whose digest is measured; the next pair is
skipped. Where it fails to start, the old microcode is reloaded and the update fails (R257, R385, R541, R544). -/
def execTchMicrocodeSwap (n : Fin 8) (digest : Bytes) (ok : Bool) (s : State) : Host.Outcome State Fault Refusal :=
  .next (
    if s.touchState n = toOff || (s.tch n).pairStart.isSome then s
    else
      let s := (s.setTch n { s.tch n with skipNext := true }).extend 4 digest
      if s.swapping rkTch = some n.val then (if ok then s.swapDone rkTch n else s.failUpdate 6) else s)

/-- UPDATE_GAP_ELAPSED: `STATION_GAP_MS` has passed (R536). -/
def execUpdateGapElapsed (s : State) : Host.Outcome State Fault Refusal :=
  .next (s.firmware fun s =>
    if s.upd.wait = .gap && s.isHwReady 11 && s.upd.since + s.rdN Obj.STATION_GAP_MS * 1000000 ≤ s.time then s.startNext else s)

/-- REVERT_STEP_DONE: a reverse step that needs nothing of the device but its own end completes (R545): a SEC step READY on the current
image, or a step whose stations are all swapped back. -/
def execRevertStepDone (s : State) : Host.Outcome State Fault Refusal :=
  .next (
    if s.updState ≠ upReverting then s
    else match s.stepRank with
      | none => s.endUpdate (s.upd.failure.getD 7)
      | some r =>
        if s.upd.wait ≠ .run then s
        else if r = rkSec then (if s.secUp && !s.sec.restarting then s.completeStep else s)
        else if r = rkMgmt then (if s.upd.mgmtStep && s.isHwReady 4 then s.restoreSettings.completeStep else s)
        else if (s.nextSwap r).isNone then s.completeStep
        else s)

/-! ### Commit -/

/-- Fuses are programmed up to their targets; those that fail stay due (R546). -/
def State.programFuses (s : State) (due : List (Nat × Nat)) (fails : List Nat) : State :=
  if due.isEmpty then s
  else
    let good := due.filter fun e => !fails.contains e.1
    let pulses := good.map fun e => (e.1, s.rdN Obj.ROLLBACK_FUSES 0 0 512 e.1, e.2)
    let s := s.each good fun s e => s.wr Obj.ROLLBACK_FUSES (e.2 : Nat) 0 0 512 e.1
    { s with upd := { s.upd with fusesDue := due.filter fun e => fails.contains e.1 }
             rst := { s.rst with pulseAt := some s.time, pulseFuses := pulses } }

/-- The update is committed: TRIAL slots become CURRENT, fuses are programmed, the old bank is erased. `fails` names the components whose
fuse program fails (R546). -/
def State.commitUpdate (s : State) (fails : List Nat) : State :=
  let new := s.changed s.manifest
  let m := s.manifest
  let due := (m.entries.filter fun e => s.rdN Obj.ROLLBACK_FUSES 0 0 512 e.component < e.rollback).map fun e => (e.component, e.rollback)
  let s := s.setUpd { s.upd with current := new.foldl (fun c e => c.put e.component (s.spare e.component)) s.upd.current }
  let ranges := (List.range 5).flatMap fun c =>
    match m.entries.find? fun e => e.component = c with
    | some e => (e.ranges.flatMap fun p => toLE 4 p.1 ++ toLE 4 p.2)
    | none => slice (s.blob Obj.INSTALLED_RANGES) (40 * c) 40
  let s := s.each new fun s e => s.wr Obj.INSTALLED_VERSION (e.version : Nat) 0 0 512 e.component
  let s := (s.wrBlob Obj.INSTALLED_RANGES ranges).programFuses due fails
  let s : State := match s.upd.oldBank with
    | some (b, _) => { s with settings := { s.settings with eraseDue := some b }, upd := { s.upd with oldBank := none } }
    | none => s
  (s.endUpdate (if s.upd.fusesDue.isEmpty then 0 else 9)).nextErase

/-- UPDATE_COMMIT (R546). -/
def execUpdateCommit (who : Requester) (fails : List Nat) (s : State) : Host.Outcome State Fault Refusal :=
  .next (s.onUpdate who 2 (fun s => s.updState = upTrial) fun s => s.commitUpdate fails)

/-- TRIAL_EXPIRED: `TRIAL_S` has passed (R536, R546). -/
def execTrialExpired (fails : List Nat) (s : State) : Host.Outcome State Fault Refusal :=
  .next (s.firmware fun s =>
    if s.updState = upTrial && s.upd.trialAt + s.rdN Obj.TRIAL_S * 1000000000 ≤ s.time then s.commitUpdate fails else s)

end Sys2Proof.Machine
end

