-- ==== Sys2Proof/Machine/Frames.lean ====
section
/-! DEFINITION. BDA frames: the header and body of R503 and R504, the tag of R508, the short form of R502, and device paths (R510). -/
namespace Sys2Proof.Machine

/-- The header of a BDA frame (R503). -/
structure Header where
  version : Nat := 1
  typ : Nat
  response : Bool
  qual : Bool
  relayed : Bool
  tagged : Bool
  seq : Nat
  dest : Nat
  src : Nat
  tenant : Nat
  length : Nat
  session : Nat
  hops : Nat
  status : Nat := 0
deriving DecidableEq, Repr

/-- Types of R503. -/
def tyRead : Nat := 1
def tyWrite : Nat := 2
def tyCommit : Nat := 3
def tyNotify : Nat := 4
def tyBlock : Nat := 5

/-- The 24 bytes of a header (R503). -/
def Header.encode (h : Header) : Bytes :=
  let flag (k : Nat) (b : Bool) : Nat := if b then 2 ^ k else 0
  toBE 1 (h.version * 16 + h.typ) ++ toBE 1 (flag 7 h.response + flag 6 h.qual + flag 5 h.relayed + flag 4 h.tagged)
    ++ toBE 2 h.seq ++ toBE 4 h.dest ++ toBE 4 h.src ++ toBE 2 h.tenant ++ toBE 2 h.length ++ toBE 4 h.session
    ++ toBE 1 h.hops ++ toBE 1 h.status ++ [0, 0]

/-- The header at the front of a frame (R503). -/
def parseHeader (b : Bytes) : Header :=
  let f := byteAt b 1
  { version := byteAt b 0 / 16, typ := byteAt b 0 % 16, response := bit 7 f, qual := bit 6 f, relayed := bit 5 f, tagged := bit 4 f,
    seq := fieldBE b 2 2, dest := fieldBE b 4 4, src := fieldBE b 8 4, tenant := fieldBE b 12 2 % 512, length := fieldBE b 14 2,
    session := fieldBE b 16 4, hops := byteAt b 20, status := byteAt b 21 }

/-- The body of a frame. -/
def frameBody (b : Bytes) : Bytes := slice b 24 (parseHeader b).length

/-- A frame of version 1 whose length is its header's, of at most 1,440 bytes (R503). -/
def frameOk (b : Bytes) : Bool :=
  let h := parseHeader b
  24 ≤ b.length && b.length ≤ 1440 && h.version = 1 && b.length = 24 + h.length + (if h.tagged then 16 else 0)

/-- The tag of a frame under a session key: fields that relays rewrite are taken as 0 (R508). -/
def frameTag (key : Bytes) (h : Header) (body : Bytes) : Bytes :=
  (Config.hmac key (({ h with src := 0, hops := 0, status := 0, relayed := false } : Header).encode ++ body)).take 16

/-- A frame of a header and a body, tagged where a key is given. -/
def makeFrame (h : Header) (body : Bytes) (key : Option Bytes) : Bytes :=
  let h := { h with length := body.length, tagged := key.isSome }
  h.encode ++ body ++ match key with
    | some k => frameTag k h body
    | none => []

/-- The tag of a frame verifies under a key. -/
def tagOk (key b : Bytes) : Bool :=
  let h := parseHeader b
  h.tagged && b.drop (24 + h.length) = frameTag key h (frameBody b)

/-! ### Entries of R504 -/

/-- An entry of a READ, WRITE or COMMIT request. A READ carries no data: its length is the length it asks for. -/
structure Entry where
  area : Nat
  idx : Nat
  sub : Nat
  view : Nat := 0
  segmented : Bool := false
  last : Bool := false
  revCheck : Bool := false
  revision : Nat := 0
  offset : Nat := 0
  len : Nat := 0
  data : Bytes := []
deriving DecidableEq, Repr

/-- The 28-bit address of an object: index in bits 27:8, subindex in bits 7:0 (R4, R504). -/
def addressOf (area idx sub : Nat) : Nat := (area * 65536 + idx) * 256 + sub

/-- The entries of a body, if it is whole: at most `fuel` of them. -/
def parseEntries (read : Bool) : Nat → Bytes → Option (List Entry)
  | _, [] => some []
  | 0, _ :: _ => none
  | fuel + 1, b =>
    let a := fieldBE b 0 4
    let c := fieldBE b 4 2
    let len := fieldBE b 12 2
    let data := if read then [] else slice b 14 len
    if b.length < 14 || (!read && data.length < len) then none
    else
      let e : Entry := { area := bits 27 24 a, idx := bits 23 8 a, sub := bits 7 0 a, view := bits 15 14 c, segmented := bit 13 c,
                         last := bit 12 c, revCheck := bit 11 c, revision := fieldBE b 6 2, offset := fieldBE b 8 4, len := len,
                         data := data }
      (parseEntries read fuel (b.drop (14 + data.length))).map (e :: ·)

/-- An entry as a request carries it. -/
def Entry.encode (e : Entry) : Bytes :=
  let flag (k : Nat) (b : Bool) : Nat := if b then 2 ^ k else 0
  toBE 4 (addressOf e.area e.idx e.sub) ++ toBE 2 (e.view * 16384 + flag 13 e.segmented + flag 12 e.last + flag 11 e.revCheck)
    ++ toBE 2 e.revision ++ toBE 4 e.offset ++ toBE 2 e.len ++ e.data

/-- What one entry of a response says (R504). -/
structure Reply where
  status : Nat
  detail : Nat := 0
  aux : Nat := 0
  data : Bytes := []
deriving DecidableEq, Repr

/-- A response entry (R504). -/
def Reply.encode (r : Reply) (addr : Nat) : Bytes :=
  toBE 4 addr ++ toBE 2 r.status ++ toBE 2 r.detail ++ toBE 4 r.aux ++ toBE 2 r.data.length ++ r.data

/-! ### The short form -/

/-- A short-form frame, its identifier and data field taken apart (R502). -/
structure ShortFrame where
  priority : Nat
  typ : Nat
  dest : Nat
  src : Nat
  seq : Nat
  response : Bool
  qual : Bool
  tenant : Nat
  addr : Nat
  payload : Bytes
deriving DecidableEq, Repr

/-- A short-form frame as its identifier and data field give it (R502). -/
def parseShort (id : Nat) (b : Bytes) : ShortFrame :=
  let q := fieldBE b 2 2
  { priority := bits 28 26 id, typ := bits 25 23 id, dest := bits 22 17 id, src := bits 16 11 id, seq := fieldBE b 0 2,
    response := bit 15 q, qual := bit 14 q, tenant := bits 8 0 q, addr := fieldBE b 4 4 % 2 ^ 28, payload := slice b 8 56 }

/-- The identifier of a short-form frame (R502). -/
def ShortFrame.id (f : ShortFrame) : Nat :=
  (f.priority % 8) * 2 ^ 26 + (f.typ % 8) * 2 ^ 23 + (f.dest % 64) * 2 ^ 17 + (f.src % 64) * 2 ^ 11

/-- The 64 bytes of its data field (R502). -/
def ShortFrame.bytes (f : ShortFrame) : Bytes :=
  toBE 2 f.seq ++ toBE 2 ((if f.response then 0x8000 else 0) + (if f.qual then 0x4000 else 0) + f.tenant % 512)
    ++ toBE 4 (f.addr % 2 ^ 28) ++ padTo 56 f.payload

/-- A short-form frame as its transport takes it: identifier, then data field. -/
def ShortFrame.wire (f : ShortFrame) : Bytes := toBE 4 f.id ++ f.bytes

/-! ### Device paths -/

/-- The hops of a path (R510). -/
def hopsOf (p : Nat) : List Nat := [bits 17 12 p, bits 11 6 p, bits 5 0 p]

/-- A path of hops: bits 31:18 are 0 and no hop follows a zero hop (R510). -/
def pathOk (p : Nat) : Bool :=
  p < 2 ^ 18 && (bits 17 12 p ≠ 0 || bits 11 0 p = 0) && (bits 11 6 p ≠ 0 || bits 5 0 p = 0)

/-- The unadopted value of `DEVICE_PATH` (R521). -/
def unadopted : Nat := 0xFFFFFFFF

/-- The device's own path; an unadopted manager is a root, at path 0 (R510, R511). -/
def State.ownPath (s : State) : Nat :=
  let p := s.rdN Obj.DEVICE_PATH
  if p = unadopted then 0 else p

/-- How many hops a path has. -/
def depthOf (p : Nat) : Nat := ((hopsOf p).filter (· ≠ 0)).length

/-- The path of the member at an address below a path, where the tree has room for it (R510). -/
def childPath (p a : Nat) : Nat := p + a * (match depthOf p with | 0 => 0x1000 | 1 => 0x40 | _ => 1)

/-- The address of the member on the way to a path below the own one (R512). -/
def nextHop (own p : Nat) : Option Nat :=
  let d := depthOf own
  let h := hopsOf p
  if d < 3 && h.take d = (hopsOf own).take d && h.getD d 0 ≠ 0 then some (h.getD d 0) else none

end Sys2Proof.Machine
end

