-- ==== Sys2Proof/Machine/Network.lean ====
section
/-! DEFINITION. The Ethernet ports and the switch (R498 to R500), 802.1AS time (R514, R515), ARP and ICMP echo (R499). -/
namespace Sys2Proof.Machine

/-- The network's state replaced. -/
def State.setNet (s : State) (v : Net) : State := { s with net := v }

/-- Ports of the switch: 0 and 1 external, 2 internal (R498). -/
def internalPort : Nat := 2

/-- Shared buffer of the switch (R498). -/
def switchBuffer : Nat := 524288

/-- An Ethernet frame taken apart: destination, source, PCP where it is tagged, EtherType, payload. -/
structure EthFrame where
  dst : Nat
  src : Nat
  pcp : Nat
  etype : Nat
  payload : Bytes
deriving DecidableEq, Repr

/-- The fields of a frame with at most one 802.1Q tag. -/
def parseEth (b : Bytes) : EthFrame :=
  let tagged := fieldBE b 12 2 = 0x8100
  { dst := fieldBE b 0 6, src := fieldBE b 6 6, pcp := if tagged then fieldBE b 14 2 / 8192 else 0,
    etype := if tagged then fieldBE b 16 2 else fieldBE b 12 2, payload := b.drop (if tagged then 18 else 14) }

/-- A group address. -/
def isGroup (mac : Nat) : Bool := bit 40 mac

/-- The device's IPv4 address: set, or leased by DHCPv4; 0 for none (R498, R521). -/
def State.deviceIp (s : State) (leased : Nat) : Nat :=
  let a := s.rdN Obj.IP_ADDRESS
  if a = 0 then leased else a

/-- Frames that the internal port receives (R499). -/
def State.admitted (s : State) (leased : Nat) (f : EthFrame) : Bool :=
  let p := f.payload
  let hl := 4 * (byteAt p 0 % 16)
  let whole : Bool := fieldBE p 6 2 % 0x4000 = 0
  f.etype = s.rdN Obj.BDA_ETHERTYPE || f.etype = 0x88F7 || f.etype = 0x0806
    || (f.etype = 0x0800 && s.deviceIp leased ≠ 0 && fieldBE p 16 4 = s.deviceIp leased && whole
        && ((byteAt p 9 = 1 && byteAt p hl = 8)
            || (byteAt p 9 = 17 && s.rdN Obj.BDA_UDP_PORT ≠ 0 && fieldBE p (hl + 2) 2 = s.rdN Obj.BDA_UDP_PORT)))

/-- The management complex takes frames of the internal port. -/
def State.internalUp (s : State) : Bool := s.isHwReady 3

/-- A frame leaves the switch: on an external port it is counted; at the internal port it is delivered, or dropped and counted at the
port it came in by, while the management complex is in reset (R500). -/
def State.egress (s : State) (from_ : Nat) (e : EgressFrame) : State :=
  if e.port = internalPort then
    if s.internalUp then s.emit (.ethFrame internalPort e.data) else s.count Obj.INTERNAL_DROPS 0 from_
  else (s.emit (.ethFrame e.port e.data)).count Obj.TX_FRAMES 0 e.port

/-- Gates of an egress port (R498). -/
def State.gatesOf (s : State) (port : Nat) : Nat := s.net.gates.getD port 0xFF

/-- A frame for an egress port: it leaves where its class's gate is open, else it waits while the shared buffer has room (R498). -/
def State.toEgress (s : State) (from_ port cls : Nat) (data : Bytes) : State :=
  if port < 2 && s.rdN Obj.ETH_LINK 0 port = 0 then s
  else if bit cls (s.gatesOf port) then s.egress from_ ⟨port, cls, data⟩
  else if switchBuffer < (s.net.egress.map fun e => e.data.length).sum + data.length then s
  else s.setNet { s.net with egress := s.net.egress ++ [⟨port, cls, data⟩] }

/-- The source address is learnt: 1,024 entries (R498). -/
def State.learn (s : State) (mac port : Nat) : State :=
  let n := s.net
  let rest := n.macs.filter fun m => m.mac ≠ mac
  if isGroup mac then s
  else if 1024 ≤ rest.length then s
  else s.setNet { n with macs := rest ++ [⟨mac, port, s.time⟩] }

/-- SWITCH_FRAME: a frame with its check sequence arrives at an external port; `bad` tells a damaged one, `leased` the address that
DHCPv4 leased (R498 to R500). -/
def execSwitchFrame (port : Fin 2) (frame : Bytes) (bad : Bool) (leased : Nat) (s : State) : Host.Outcome State Fault Refusal :=
  .next (
    if !s.isHwReady 8 || s.hwGated 2 || s.rdN Obj.ETH_LINK 0 port = 0 then s
    else if bad || 1522 < frame.length || frame.length < 18 then s.count Obj.RX_ERRORS 0 port
    else
      let f := parseEth frame
      let s := (s.count Obj.RX_FRAMES 0 port).learn f.src port
      let other : Nat := 1 - port.val
      let inside := s.admitted leased f
      let internal (s : State) : State := if inside then s.toEgress port internalPort f.pcp frame else s
      if f.etype = 0x88F7 then internal s
      else
        match if isGroup f.dst then none else (s.net.macs.find? fun m => m.mac = f.dst) with
        | some m => if m.port = port.val then s else if m.port = internalPort then internal s else s.toEgress port m.port f.pcp frame
        | none => internal (s.toEgress port other f.pcp frame))

/-- MAC_ENTRY_AGED: an entry unused for 300 s (R498). -/
def execMacEntryAged (mac : Nat) (s : State) : Host.Outcome State Fault Refusal :=
  .next (s.setNet { s.net with macs := s.net.macs.filter fun m => m.mac ≠ mac || s.time < m.seenAt + 300000000000 })

/-- QBV_GATE_EVENT: an entry of a port's list takes effect; waiting frames whose gates are now open leave, the highest class first
(R498). -/
def execQbvGateEvent (port : Fin 3) (gates : Nat) (s : State) : Host.Outcome State Fault Refusal :=
  .next (
    if !s.isHwReady 8 || (s.blob Obj.QBV_LIST).isEmpty then s
    else
      let n := s.net
      let opens (e : EgressFrame) : Bool := e.port = port.val && bit e.cls gates
      let s := s.setNet { n with gates := n.gates.put port (gates % 256), egress := n.egress.filter fun e => !opens e }
      let go := [7, 6, 5, 4, 3, 2, 1, 0].flatMap fun c => n.egress.filter fun e => opens e && e.cls = c
      s.each go fun s e => s.egress port e)

/-- A port's link goes down: its frames and addresses are dropped. -/
def State.linkDown (s : State) (port : Nat) : State :=
  let n := s.net
  (s.setNet { n with macs := n.macs.filter (fun m => m.port ≠ port), egress := n.egress.filter fun e => e.port ≠ port }).wr Obj.ETH_LINK 0 0 port

/-- ETH_LINK_CHANGE: the PHY reports the link down, or up at a speed that the port's mode carries (R498, R521). -/
def execEthLinkChange (port : Fin 2) (speed : Fin 4) (s : State) : Host.Outcome State Fault Refusal :=
  .next (
    let mode := s.rdN Obj.ETH_MODE 0 port
    if speed.val = 0 then s.linkDown port
    else if s.isHwReady 8 && (mode = 1 || (mode = 2 && speed.val = 2)) then s.wr Obj.ETH_LINK (speed.val : Nat) 0 port
    else s)

/-- ETHERNET_PLL_LOCK_LOST: the links of both ports go down and the PLL relocks (R584). -/
def execEthernetPllLockLost (s : State) : Host.Outcome State Fault Refusal :=
  .next (
    if bit 3 (s.rdN Obj.HW_PLL_LOCKED) then ((s.count Obj.HW_PLL_LOCK_LOSSES).linkDown 0).linkDown 1 else s)

/-! ### Network time -/

/-- `PTP_STATE` values (R521). -/
def ptpMaster : Nat := 1
def ptpSlave : Nat := 2
def ptpHoldover : Nat := 3

/-- The rate correction moves towards a value within ±200 ppm, by at most what 0.1 ppm a second allows since the last Sync, and never by more
at once than in a second (R514). -/
def slewRate (old new : Int) (elapsed : Nat) : Int :=
  let room : Int := (min elapsed 1000000000 / 10000000 : Nat)
  clampI (-200000) 200000 (clampI (old - room) (old + room) new)

/-- PTP_MESSAGE: a Sync, or the choice of this device as the grandmaster, which 802.1AS never makes at priority 255 (R514, R515). -/
def execPtpMessage (m : PtpMessage) (s : State) : Host.Outcome State Fault Refusal :=
  .next (
    if !s.isHwReady 8 then s
    else match m with
      | .sync offset ppb =>
        let rate := slewRate (s.rd Obj.RATE_CORRECTION_PPB) ppb (s.time - s.net.lastSync)
        let s := ((s.wr Obj.NETWORK_OFFSET_NS offset).wr Obj.RATE_CORRECTION_PPB rate).wr Obj.PTP_STATE (ptpSlave : Nat)
        (s.setNet { s.net with lastSync := s.time }).clearAlarm 22 noStation 0
      | .master =>
        if s.rdAs Obj.PTP_PRIORITY1 = 255 then s else (s.wr Obj.PTP_STATE (ptpMaster : Nat)).clearAlarm 22 noStation 0
      | .other => s)

/-- PTP_SYNC_TIMEOUT: three sync intervals have passed without a valid Sync (R515). -/
def execPtpSyncTimeout (s : State) : Host.Outcome State Fault Refusal :=
  .next (if s.rdN Obj.PTP_STATE = ptpSlave then (s.wr Obj.PTP_STATE (ptpHoldover : Nat)).alarm 22 1 noStation 0 else s)

/-! ### ARP and echo -/

/-- ARP_REQUEST for the device's address: the reply goes to the sender (R499). -/
def execArpRequest (port : Fin 2) (sender target leased : Nat) (s : State) : Host.Outcome State Fault Refusal :=
  .next (
    if s.internalUp && target ≠ 0 && target = s.deviceIp leased then s.emit (.hierarchy "ARP_REPLY" port (toBE 6 sender ++ toBE 4 target))
    else s)

/-- ICMP_ECHO to the device's address: the reply carries the request's data (R499). -/
def execIcmpEcho (port : Fin 2) (sender target leased : Nat) (data : Bytes) (s : State) : Host.Outcome State Fault Refusal :=
  .next (
    if s.internalUp && target ≠ 0 && target = s.deviceIp leased then s.emit (.hierarchy "ECHO_REPLY" port (toBE 4 sender ++ data))
    else s)

end Sys2Proof.Machine
end

