-- ==== Sys2Proof/Machine/Grants.lean ====
section
/-! DEFINITION. Peer records, grants and sessions (R505, R506, R508, R509). -/
namespace Sys2Proof.Machine

/-- The record of a peer. -/
def State.peerRec (s : State) (k : Nat) : Option Peer := s.net.peers.find k

/-- A peer's record replaced. -/
def State.setPeer (s : State) (k : Nat) (p : Peer) : State := s.setNet { s.net with peers := s.net.peers.put k p }

/-- Records with sessions. -/
def State.sessions (s : State) : List (Nat × Session) := s.net.peers.filterMap fun e => e.2.session.map fun x => (e.1, x)

/-- The subscriptions that a grant carried end with it: what the peer could read without one stays (R487). -/
def State.dropGranted (s : State) (id : PeerId) : State :=
  let keep (x : Subscription) : Bool :=
    x.peer ≠ id || match lookupRow x.key.area x.key.idx x.key.sub with
      | some (r, _) => openAtNone r false
      | none => false
  let l := s.subscriptions.filter keep
  ({ s with subscriptions := l } : State).wr Obj.SUBSCRIPTIONS (l.length : Nat)

/-- A session ends (R487, R509). -/
def State.endSession (s : State) (k : Nat) : State :=
  match s.peerRec k with
  | none => s
  | some p =>
    let s := s.setPeer k { p with session := none }
    ({ s with peerLevel := s.peerLevel.del k } : State).dropGranted p.id

/-- The first number from one on that a list does not hold; `fuel` exceeds the length of the list. -/
def firstUnused (used : List Nat) (m : Nat) : Nat → Nat → Nat
  | 0, n => n % m
  | fuel + 1, n => if used.contains (n % m) then firstUnused used m fuel (n + 1) else n % m

/-- A session number not in use and not 0; the spec does not say which (assumption 1). -/
def State.newSession (s : State) : Nat × State :=
  let (n, s) := s.drawNat (2 ^ 32)
  (firstUnused (0 :: s.sessions.map fun x => x.2.number) (2 ^ 32) 64 n, s)

/-- GRANT_CHALLENGE: a fresh nonce of 32 bytes, held for the peer that reads it for 10 s (R508). -/
def execGrantChallenge (who : Requester) (s : State) : Host.Outcome State Fault Refusal :=
  .next (s.onRead who Obj.GRANT_CHALLENGE 0 0 512 0 fun s =>
    let (b, s) := s.drawBytes 32
    let s := match who with
      | .peer k => (match s.peerRec k with
          | some p => s.setPeer k { p with challenge := some (b, s.time) }
          | none => s)
      | .tenant _ | .host _ | .enclave _ | .secure => s
    s.answer .ok b)

/-- A request for a session taken apart: level, ephemeral key, delegation if any, signature (R508, R509). -/
structure GrantReq where
  level : Nat
  key : Bytes
  delegation : Bytes
  signature : Bytes
deriving DecidableEq, Repr

/-- The fields of `GRANT_REQUEST`: the signature stands last (R508, R509). -/
def parseGrant (b : Bytes) : GrantReq :=
  { level := byteAt b 0, key := slice b 1 97, delegation := slice b 98 (b.length - 194), signature := b.drop (b.length - 96) }

/-- A delegation verifies: attestation key and identity, signed with the EXPERT grant key (R509). -/
def State.delegationOk (s : State) (pub d : Bytes) : Bool :=
  Config.sha384 pub = s.blob Obj.GRANT_KEY_EXPERT && Config.ecdsaVerify pub (Config.sha384 (d.take 145)) (d.drop 145)

/-- The signature of a request verifies (R508, R509). `pub` is the grant key that stands for the hash, which no object holds
(assumption 3). -/
def State.grantSigned (s : State) (nonce pub : Bytes) (q : GrantReq) : Bool :=
  let digest := Config.sha384 (nonce ++ toBE 1 q.level ++ q.key ++ s.blob Obj.DEVICE_IDENTITY)
  if q.delegation.isEmpty then
    Config.sha384 pub = s.blob (if q.level = 1 then Obj.GRANT_KEY_BASIC else Obj.GRANT_KEY_EXPERT) && Config.ecdsaVerify pub digest q.signature
  else q.level = 2 && s.delegationOk pub q.delegation && Config.ecdsaVerify (q.delegation.take 97) digest q.signature

/-- The outcome of a request: NO_CHALLENGE 2, LEVEL 3, SIGNATURE 1, FULL 4, in this order; 0 OK (R508, R509). -/
def State.grantOutcome (s : State) (p : Peer) (pub : Bytes) (q : GrantReq) : Nat :=
  match p.challenge with
  | none => 2
  | some (nonce, at_) =>
    if at_ + 10000000000 < s.time then 2
    else if q.level ≠ 1 && q.level ≠ 2 then 3
    else if !s.grantSigned nonce pub q then 1
    else if 32 ≤ (s.sessions.filter fun x => (s.peerRec x.1).map (·.id) ≠ some p.id).length then 4
    else 0

/-- A session opens: the key comes from the agreement of the ephemeral keys, with the nonce as salt (R508). The number in the
result is little-endian (R11). -/
def State.openSession (s : State) (k : Nat) (p : Peer) (q : GrantReq) : State :=
  let nonce := match p.challenge with
    | some (b, _) => b
    | none => []
  let (secret, s) := s.drawBytes 48
  let (number, s) := s.newSession
  let x : Session := { number := number, level := if q.level = 2 then .expert else .basic,
                       key := Config.hkdf (Config.ecdh secret q.key) nonce, lastAt := s.time }
  let s := s.setPeer k { p with session := some x }
  let s : State := { s with peerLevel := s.peerLevel.put k x.level }
  let s := s.wrBlob Obj.GRANT_RESULT ([0] ++ toLE 4 number ++ Config.publicKey secret)
  s.completeResult Obj.GRANT_RESULT 0

/-- GRANT_REQUEST (R508, R509). -/
def execGrantRequest (who : Requester) (data pub : Bytes) (s : State) : Host.Outcome State Fault Refusal :=
  .next (s.onRequest who fun s =>
    match s.checkAccess who Obj.GRANT_REQUEST true with
    | some x => (s.mailboxSpoof who Obj.GRANT_REQUEST 0 0 0 (some x)).answer x
    | none =>
      if data.length ≠ 194 && data.length ≠ 435 then s.answer .badRange
      else s.guarded (s.needHwReady 9) fun s =>
        let s := s.startResult Obj.GRANT_RESULT who
        let q := parseGrant data
        let s := match who with
          | .peer k => (match s.peerRec k with
              | some p =>
                let o := s.grantOutcome p pub q
                if o = 0 then s.openSession k p q else s.completeResult Obj.GRANT_RESULT o
              | none => s.completeResult Obj.GRANT_RESULT 2)
          | .tenant _ | .host _ | .enclave _ | .secure => s.completeResult Obj.GRANT_RESULT 2
        s.answer .ok)

/-- GRANT_END: the peer writes its own session's number (R509). -/
def execGrantEnd (who : Requester) (v : Nat) (s : State) : Host.Outcome State Fault Refusal :=
  .next (s.onWrite who Obj.GRANT_END v 0 0 512 0 fun s =>
    let mine (k : Nat) : Bool := match (s.peerRec k).bind Peer.session with
      | some x => x.number = v
      | none => false
    let s := match who with
      | .peer k => if mine k then s.endSession k else s
      | .tenant _ | .host _ | .enclave _ | .secure => s
    s.answer .ok)

/-- SESSION_IDLE: no valid frame for `GRANT_IDLE_S` (R509). -/
def execSessionIdle (k : Fin 32) (s : State) : Host.Outcome State Fault Refusal :=
  .next (s.firmware fun s => match (s.peerRec k).bind Peer.session with
    | some x => if x.lastAt + s.rdN Obj.GRANT_IDLE_S * 1000000000 ≤ s.time then s.endSession k else s
    | none => s)

/-- The record of a peer is freed (R506). -/
def State.freePeer (s : State) (k : Nat) : State :=
  ({ s with peerLevel := s.peerLevel.del k } : State).setNet { s.net with peers := s.net.peers.del k }

/-- PEER_RECORD_IDLE: a peer without a session has sent no request for 60 s (R506). -/
def execPeerRecordIdle (k : Fin 32) (s : State) : Host.Outcome State Fault Refusal :=
  .next (s.firmware fun s => match s.peerRec k with
    | some p => if p.session.isNone && p.lastAt + 60000000000 ≤ s.time then s.freePeer k else s
    | none => s)

/-- A change of a grant key hash ends the sessions opened under it (R509). -/
def State.endKeySessions (s : State) (level : Level) : State :=
  s.each (s.sessions.filter fun x => x.2.level = level) fun s x => s.endSession x.1

/-! ### Records and sequence numbers -/

/-- What becomes of a request by its SEQ (R505). -/
inductive SeqAction where
  | act | duplicate | reject
deriving DecidableEq, Repr

/-- The three cases of R505, with the record after a request that is acted on. -/
def Peer.take (p : Peer) (seq : Nat) : SeqAction × Peer :=
  let d := modDiff 16 seq p.last
  if 1 ≤ d && d ≤ 1024 then
    (.act, { p with last := seq, recorded := seq :: p.recorded.filter fun x => modDiff 16 seq x < 1024 })
  else if d = 0 || 64513 ≤ d then
    if p.recorded.contains seq then (.duplicate, p) else (.act, { p with recorded := seq :: p.recorded })
  else (.reject, p)

/-- The record of a peer by its identity. -/
def State.peerOf (s : State) (id : PeerId) : Option (Nat × Peer) := s.net.peers.find? fun e => e.2.id = id

/-- The least recently active of a list of records. -/
def oldestPeer (l : List (Nat × Peer)) : Option (Nat × Peer) :=
  l.foldl (fun b e => match b with
    | none => some e
    | some w => if e.2.lastAt < w.2.lastAt then some e else some w) none

/-- A place for a new peer: a free number, which the spec does not choose (assumption 1), else that of the least recently active peer
without a session; none where all hold sessions (R506). -/
def State.placePeer (s : State) : Option Nat × State :=
  if s.net.peers.length < 32 then
    let (n, s) := s.drawNat 32
    (some (firstUnused (s.net.peers.map fun e => e.1) 32 32 n), s)
  else match oldestPeer (s.net.peers.filter fun e => e.2.session.isNone) with
    | some e => (some e.1, s.freePeer e.1)
    | none => (none, s)

/-- A request of a peer meets its record: it is acted on, or is a duplicate, or is discarded and counted (R505, R506). Answers the
record's number where the request goes on. -/
def State.takeSeq (s : State) (id : PeerId) (seq : Nat) : (SeqAction × Nat) × State :=
  match s.peerOf id with
  | some (k, p) =>
    (match p.take seq with
    | (.reject, _) => ((.reject, k), s.count Obj.SEQ_REJECTS)
    | (a, p') => ((a, k), s.setPeer k { p' with lastAt := s.time }))
  | none =>
    match s.placePeer with
    | (some k, s) => ((.act, k), s.setPeer k { id := id, last := seq, recorded := [seq], lastAt := s.time })
    | (none, s) => ((.reject, 0), s.count Obj.SEQ_REJECTS)

/-- A response is kept among the peer's last 16 (R505). -/
def State.cacheResponse (s : State) (k seq : Nat) (b : Bytes) : State :=
  match s.peerRec k with
  | some p => s.setPeer k { p with cached := ((seq, b) :: p.cached).take 16 }
  | none => s

end Sys2Proof.Machine
end

