-- ==== Sys2Proof/Machine/Hierarchy.lean ====
section
/-! DEFINITION. The manager hierarchy: adoption, relaying, heartbeats, alarms of the tree, and the piece cache (R510 to R513, R516 to
R520, R533, R654). -/
namespace Sys2Proof.Machine

/-- Member states of R521. -/
def mbFree : Nat := 0
def mbAdopting : Nat := 1
def mbActive : Nat := 2
def mbLost : Nat := 3
def mbConflict : Nat := 4

/-- `MEMBER_STATE`. -/
def State.memberState (s : State) (a : Nat) : Nat := s.rdN Obj.MEMBER_STATE 0 a

/-- Member addresses (R511). -/
def memberAddrs : List Nat := (List.range 64).drop 1

/-- The device is a manager whose management complex runs (R511, R520). -/
def State.manages (s : State) : Bool := s.rdN Obj.ROLE = 1 && s.isHwReady 9

/-- The device has been adopted by a manager: its path is that of a member. -/
def State.isMember (s : State) : Bool := s.rdN Obj.DEVICE_PATH ≠ unadopted && s.rdN Obj.DEVICE_PATH ≠ 0

/-- The port of a member's link: 0 and 1 Ethernet, 2 and 3 CAN (R521). -/
def State.memberPort (s : State) (a : Nat) : Nat := s.rdN Obj.MEMBER_LINK 0 a / 2 ^ 56

/-! ### Adoption -/

/-- The members' paths follow the device's own (R511). -/
def State.rewritePaths (s : State) : State :=
  s.each (memberAddrs.filter fun a => s.memberState a ≠ mbFree) fun s a =>
    s.emit (.hierarchy "DEVICE_PATH" a (toBE 4 (childPath s.ownPath a)))

/-- DEVICE_PATH: adoption by the manager of a serial number, which its session tells; of two that meet, the first applied stands (R510,
R511). -/
def execDevicePath (who : Requester) (v serial : Nat) (s : State) : Host.Outcome State Fault Refusal :=
  .next (s.onWrite who Obj.DEVICE_PATH v 0 0 512 0 fun s =>
    let known := s.rdN Obj.MANAGER_SERIAL
    if v ≠ unadopted && !pathOk v then s.answer .badRange
    else if v ≠ unadopted && v ≠ 0 && known ≠ serial
        && ((s.rdN Obj.ADOPT_POLICY = 0 && known ≠ 0) || (s.isMember && s.net.beatAt = some s.time)) then s.answer (.refused 8)
    else
      let changed := s.rdN Obj.DEVICE_PATH ≠ v
      let s := s.wr Obj.DEVICE_PATH v
      let s := if s.isMember then (s.wr Obj.MANAGER_SERIAL serial).setNet { s.net with beatAt := some s.time }
               else (s.setNet { s.net with beatAt := none }).clearAlarm 21 noStation 0
      let deep : Bool := v ≠ unadopted && depthOf v = 3
      let s := if deep && s.rdN Obj.ROLE = 1 then (s.wr Obj.ROLE 2).alarm 23 0 noStation v else s
      (if changed && s.rdN Obj.ROLE = 1 then s.rewritePaths else s).answer .ok)

/-- The alarm of a member that is lost (20) or in conflict (24) clears; it stays in force while another member is in that state (R516,
R518). -/
def State.clearMember (s : State) (code state a : Nat) : State :=
  if s.memberState a = state then
    let s := s.alarm code 2 noStation a
    if memberAddrs.any fun b => b ≠ a && s.memberState b = state then
      (s.noteInForce { path := ownAlarms, code := code, severity := alarmSeverity code, station := noStation, st := 1,
                       count := 1, time := s.networkTime, detail := a, seq := 0 }).alarmSummary
    else s
  else s

/-- MEMBER_SERIAL: a member is bound to an address, or the address is freed (R511, R520). -/
def execMemberSerial (who : Requester) (a : Fin 64) (v : Nat) (s : State) : Host.Outcome State Fault Refusal :=
  .next (s.onWrite who Obj.MEMBER_SERIAL v 0 a 512 0 fun s =>
    let s := (s.clearMember 24 mbConflict a).clearMember 20 mbLost a
    let s := (s.wr Obj.MEMBER_SERIAL v 0 a).wr Obj.MEMBER_STATE ((if v = 0 then mbFree else mbAdopting : Nat)) 0 a
    let s := s.setNet { s.net with unanswered := s.net.unanswered.del a.val }
    let s := if v = 0 then s.wr Obj.MEMBER_LINK 0 0 a
             else s.emit (.hierarchy "ADOPT" a (toBE 8 v ++ toBE 4 (childPath s.ownPath a)))
    s.answer .ok)

/-- ANNOUNCE on the Ethernet ports and the CAN ports (2 and 3) (R511). -/
def execAnnounce (s : State) : Host.Outcome State Fault Refusal :=
  .next (s.firmware fun s =>
    if s.rdN Obj.ROLE = 2 && s.rdN Obj.DEVICE_PATH = unadopted && s.isHwReady 9 && s.passed .announce 1000000000 then
      let s := s.startTimer .announce
      let body := toBE 8 (s.rdN Obj.SERIAL_NUMBER) ++ s.blob Obj.DEVICE_IDENTITY
      s.each (List.range 4) fun s p => s.emit (.hierarchy "ANNOUNCE" p body)
    else s)

/-! ### Heartbeats -/

/-- HEARTBEAT_TIMER: a heartbeat to each member that is bound and not in conflict (R519). -/
def execHeartbeatTimer (s : State) : Host.Outcome State Fault Refusal :=
  .next (s.firmware fun s =>
    if !s.manages || !s.passed .heartbeat (s.rdN Obj.HEARTBEAT_MS * 1000000) then s
    else
      let s := s.startTimer .heartbeat
      let members := memberAddrs.filter fun a => s.memberState a ≠ mbFree && s.memberState a ≠ mbConflict
      s.each members fun s a =>
        let s := s.emit (.hierarchy "HEARTBEAT" a (toBE 8 (s.rdN Obj.SERIAL_NUMBER)))
        s.setNet { s.net with unanswered := s.net.unanswered.put a (min 3 (s.net.unanswered.getD a 0 + 1)) })

/-- HEARTBEAT from the manager of a serial number: it is answered; after a loss the alarm clears and unacknowledged alarms are sent
again in order (R517, R519). -/
def execHeartbeat (serial : Nat) (s : State) : Host.Outcome State Fault Refusal :=
  .next (s.firmware fun s =>
    if s.isMember && s.isHwReady 9 && serial = s.rdN Obj.MANAGER_SERIAL then
      let lost := s.alarmRaised 21 noStation
      let s := (s.setNet { s.net with beatAt := some s.time }).emit (.hierarchy "HEARTBEAT_ANSWER" 0 (toBE 8 (s.rdN Obj.SERIAL_NUMBER)))
      if lost then
        let old := s.alarmQ.items
        let s := s.each old fun s e => s.emit (.alarm e.2 [])
        s.clearAlarm 21 noStation 0
      else s
    else s)

/-! ### The piece cache -/

/-- The package that was written last (R533). -/
def State.cached (s : State) : Option CachePkg := s.net.cache.getLast?

/-- The number of pieces of a cached package. -/
def CachePkg.total (p : CachePkg) : Nat := (parseManifest p.manifest).packageSize / 4096

/-- A target is served: a bound, active member that is not yet done (R533). -/
def State.mayServe (s : State) (a : Nat) : Bool :=
  bit a (s.rdN Obj.CACHE_TARGETS) && s.memberState a = mbActive && s.rdN Obj.CACHE_MEMBER_STATE 0 a = 0

/-- Up to four members are served at a time; each gets the manifest first (R533). -/
def State.serveTargets (s : State) : State :=
  match s.cached with
  | none => s
  | some p =>
    let sending := (memberAddrs.filter fun a => s.rdN Obj.CACHE_MEMBER_STATE 0 a = 1).length
    let next := (memberAddrs.filter fun a => s.mayServe a).take (4 - sending)
    s.each next fun s a => (s.wr Obj.CACHE_MEMBER_STATE 1 0 a).emit (.hierarchy "MANIFEST" a p.manifest)

/-- CACHE_TARGETS: members over CAN are skipped (R533). -/
def execCacheTargets (who : Requester) (v : Nat) (s : State) : Host.Outcome State Fault Refusal :=
  .next (s.onWrite who Obj.CACHE_TARGETS v 0 0 512 0 fun s =>
    let s := s.wr Obj.CACHE_TARGETS v
    let s := s.each memberAddrs fun s a =>
      let st := if !bit a v then 0 else if 2 ≤ s.memberPort a && s.memberState a ≠ mbFree then 2 else 0
      (s.wr Obj.CACHE_MEMBER_STATE (st : Nat) 0 a).wr Obj.CACHE_PROGRESS 0 0 a
    s.serveTargets.answer .ok)

/-- CACHE_PUSH: with the bitmap a member reports, the first missing pieces that the cache holds are pushed, at most the eight BLOCK frames
of R504 at once; a member that misses none is done (R533). -/
def execCachePush (a : Fin 64) (bitmap : Bytes) (s : State) : Host.Outcome State Fault Refusal :=
  .next (
    match s.cached with
    | none => s
    | some p =>
      if s.rdN Obj.CACHE_MEMBER_STATE 0 a ≠ 1 || s.memberState a ≠ mbActive || !s.manages then s
      else
        let have_ (k : Nat) : Bool := bit (k % 8) (byteAt bitmap (k / 8))
        let missing := (List.range p.total).filter fun k => !have_ k
        let s := s.wr Obj.CACHE_PROGRESS ((p.total - missing.length : Nat)) 0 a
        if missing.isEmpty then (s.wr Obj.CACHE_MEMBER_STATE 3 0 a).serveTargets
        else s.each ((missing.filterMap fun k => p.pieces.find k).take 8) fun s b => s.emit (.hierarchy "PIECE" a b))

/-! ### Loss and return of a member -/

/-- HEARTBEAT_ANSWER of the member at an address, with its serial number and its link: a second member at one address is a conflict
(R519, R520). -/
def execHeartbeatAnswer (a : Fin 64) (serial link : Nat) (s : State) : Host.Outcome State Fault Refusal :=
  .next (s.firmware fun s =>
    let st := s.memberState a
    if !s.manages || st = mbFree || st = mbConflict then s
    else if serial ≠ s.rdN Obj.MEMBER_SERIAL 0 a then
      (s.wr Obj.MEMBER_STATE (mbConflict : Nat) 0 a).alarm 24 1 noStation a
    else
      let s := s.clearMember 20 mbLost a
      let s := s.setNet { s.net with unanswered := s.net.unanswered.put a.val 0 }
      let s := (s.wr Obj.MEMBER_LINK (link % 2 ^ 64 : Nat) 0 a).wr Obj.MEMBER_STATE (mbActive : Nat) 0 a
      if st = mbActive then s else s.serveTargets)

/-- MEMBER_LOST: three heartbeats without an answer (R519). -/
def execMemberLost (a : Fin 64) (s : State) : Host.Outcome State Fault Refusal :=
  .next (s.firmware fun s =>
    let st := s.memberState a
    if s.manages && (st = mbActive || st = mbAdopting) && 3 ≤ s.net.unanswered.getD a.val 0 then
      let s := (s.wr Obj.MEMBER_STATE (mbLost : Nat) 0 a).alarm 20 1 noStation a
      if s.rdN Obj.CACHE_MEMBER_STATE 0 a = 1 then (s.wr Obj.CACHE_MEMBER_STATE 0 0 a).serveTargets else s
    else s)

/-- MANAGER_LOST: three heartbeat periods without a heartbeat (R519). -/
def execManagerLost (s : State) : Host.Outcome State Fault Refusal :=
  .next (s.firmware fun s => match s.net.beatAt with
    | some t =>
      if s.isMember && s.isHwReady 9 && t + 3 * s.rdN Obj.HEARTBEAT_MS * 1000000 ≤ s.time && !s.alarmRaised 21 noStation then
        s.alarm 21 1 noStation 0
      else s
    | none => s)

/-! ### Alarms -/

/-- MEMBER_ALARM_RECEIVED: the record enters the manager's own queue with its path, and is acknowledged to the member (R517, R518). -/
def execMemberAlarmReceived (member : Fin 64) (a : Alarm) (s : State) : Host.Outcome State Fault Refusal :=
  .next (s.firmware fun s =>
    if s.manages && s.hwQueuesReady then
      (((s.noteInForce a).mergeAlarm a).alarmSummary).emit (.hierarchy "ALARM_ACK" member (toBE 2 a.seq))
    else s)

/-- ALARM_MERGE_END: `ALARM_MERGE_MS` after its first record the window of a kind ends; a merged record enters the queue and is sent
(R517). -/
def execAlarmMergeEnd (path code station st : Nat) (s : State) : Host.Outcome State Fault Refusal :=
  .next (s.firmware fun s =>
    let is (w : MergeWindow) : Bool := w.path = path && w.code = code && w.station = station && w.st = st
      && w.since + s.rdN Obj.ALARM_MERGE_MS * 1000000 ≤ s.time
    let merged := (s.alarms.windows.find? is).bind MergeWindow.merged
    let s : State := { s with alarms := { s.alarms with windows := s.alarms.windows.filter fun w => !is w } }
    match merged with
    | some m => s.enterAlarm m
    | none => s)

/-- The alarm queue without the entry of a sequence number (R518). -/
def ackQueue (q : EvQueue Alarm) (seq : Nat) : EvQueue Alarm :=
  let keep (e : Nat × Alarm) : Bool := e.2.seq ≠ seq
  ({ q with drain := q.drain.filter keep, fill := q.fill.filter keep } : EvQueue Alarm).swapLarge

/-- ALARM_ACK: an entry is acknowledged and removed; a number that names none is answered OK and changes nothing (R518). -/
def execAlarmAck (who : Requester) (seq : Nat) (s : State) : Host.Outcome State Fault Refusal :=
  .next (s.onWrite who Obj.ALARM_ACK seq 0 0 512 0 fun s =>
    if s.alarmQ.items.any fun e => e.2.seq = seq then
      let q := ackQueue s.alarmQ seq
      let s := ({ s with alarmQ := q } : State).wr Obj.ALARM_ITEMS (q.size : Nat)
      s.alarmSummary.answer .ok
    else s.answer .ok)

/-- Insertion by time, after records of the same time. -/
def insertAlarm (a : Alarm) : List Alarm → List Alarm
  | [] => [a]
  | b :: l => if a.time < b.time then a :: b :: l else b :: insertAlarm a l

/-- The pending records in the order in which they were raised (R654). -/
def State.pendingAlarms (s : State) : List Alarm :=
  (s.alarms.held.flatMap fun e => e.2).foldl (fun l a => insertAlarm a l) []

/-- ALARM_PENDING_DRAIN: the pending records enter the queue, and those lost are counted (R654). -/
def execAlarmPendingDrain (s : State) : Host.Outcome State Fault Refusal :=
  .next (s.firmware fun s =>
    if !s.hwQueuesReady then s
    else
      let path := s.alarmPath
      let l := s.pendingAlarms
      let lost := s.alarms.lostHeld
      let s : State := { s with alarms := { s.alarms with held := [], lostHeld := 0 } }
      let s := if lost = 0 then s else s.count Obj.ALARM_LOST 0 0 512 0 lost
      (s.each l fun s a => s.mergeAlarm (if a.path = unadopted then { a with path := path } else a)).alarmSummary)

/-! ### Relaying -/

/-- Whether a relayed request goes in the short form: one entry of the basic range that is neither segmented nor a BLOCK, and whose
value fits the payload (R502, R512). -/
def shortEntry (h : Header) (body : Bytes) : Option Entry :=
  if h.typ = tyBlock || h.typ = tyNotify then none
  else match parseEntries (h.typ = tyRead) 64 body with
    | some [e] =>
      if e.segmented || e.view ≠ 0 || e.revCheck || 0x800 ≤ e.idx % 4096 || 56 < e.data.length then none else some e
    | _ => none

/-- The size of a value of an object that the short form can carry (R454, R502). -/
def shortSize (area idx sub : Nat) : Nat :=
  match lookupRow area idx sub with
  | some (r, _) => r.ty.size.getD 52
  | none => 0

/-- A frame sent to where a frame came from. -/
def State.sendBack (s : State) (o : RelayFrom) (b : Bytes) : State :=
  match o with
  | .member a => s.emit (.relayed a b)
  | .manager => s.emit (.relayed 64 b)
  | .external p => s.emit (.bdaFrame ⟨p, 0⟩ b)

/-- The relay's own answer: the request's SEQ, no entries and no tag (R512). -/
def State.relayAnswer (s : State) (o : RelayFrom) (h : Header) (code : Nat) : State :=
  s.sendBack o (makeFrame { h with response := true, session := 0, hops := 3, status := code } [] none)

/-- The number this device gives an external peer (R510); which number the spec leaves open (assumption 1). -/
def State.externalNo (s : State) (p : PeerSource) : Nat × State :=
  match s.net.externals.find? fun e => e.2 = p with
  | some e => (e.1, s)
  | none =>
    let l := if s.net.externals.length < 256 then s.net.externals else s.net.externals.drop 1
    let (n, s) := s.drawNat 256
    let k := firstUnused (l.map fun e => e.1) 256 256 n
    (k, s.setNet { s.net with externals := l ++ [(k, p)] })

/-- SRC_PATH as the frame goes on: an external peer's is given by the entry device (R510). -/
def State.relaySrc (s : State) (o : RelayFrom) (src : Nat) : Nat × State :=
  match o with
  | .external p =>
    let (k, s) := s.externalNo p
    (0x80000000 + k * 2 ^ 18 + s.ownPath, s)
  | .member _ | .manager => (src, s)

/-- A frame as a relay sends it on: RELAYED set and HOPS_LEFT lowered; the tag stays (R512). -/
def relayedFrame (h : Header) (src : Nat) (b : Bytes) : Bytes :=
  ({ h with relayed := true, hops := h.hops - 1, src := src } : Header).encode ++ b.drop 24

/-- The session of a peer with this device by its number. -/
def State.sessionNo (s : State) (number : Nat) : Option Session := (s.sessions.find? fun x => x.2.number = number).map (·.2)

/-- A request relayed onto CAN: the session is checked here, and the frame goes at BASIC as node 0 (R513). -/
def State.relayCan (s : State) (o : RelayFrom) (a : Nat) (h : Header) (b : Bytes) (e : Entry) : State :=
  match s.sessionNo h.session with
  | some x =>
    if tagOk x.key b then
      let f : ShortFrame := { priority := 3, typ := h.typ, dest := s.rdN Obj.MEMBER_LINK 0 a % 64, src := 0, seq := h.seq, response := false,
                              qual := h.qual, tenant := h.tenant, addr := addressOf e.area e.idx e.sub, payload := e.data }
      let r : Relayed := ⟨o, a, h.encode, true⟩
      (s.setNet { s.net with relayed := s.net.relayed ++ [r] }).emit (.relayed a f.wire)
    else s.count Obj.TAG_FAILS
  | none => s.count Obj.TAG_FAILS

/-- A request for a device below: the checks of R512, then the member's link. -/
def State.relayDown (s : State) (o : RelayFrom) (a : Nat) (b : Bytes) : State :=
  let h := parseHeader b
  let st := s.memberState a
  let can : Bool := 2 ≤ s.memberPort a
  let short := shortEntry h (frameBody b)
  if h.hops = 0 then s.relayAnswer o h 4
  else if st = mbFree || st = mbConflict then s.relayAnswer o h 1
  else if st = mbLost then s.relayAnswer o h 2
  else if can && short.isNone then s.relayAnswer o h 3
  else if 256 ≤ s.net.relayed.length then s.relayAnswer o h 5
  else match can, short with
    | true, some e => s.relayCan o a h b e
    | _, _ =>
      let (src, s) := s.relaySrc o h.src
      let r : Relayed := ⟨o, a, ({ h with src := src } : Header).encode, false⟩
      (s.setNet { s.net with relayed := s.net.relayed ++ [r] }).emit (.relayed a (relayedFrame h src b))

/-- A request from below for a device that does not lie below goes to the manager's own manager; a root has none (R512). -/
def State.relayUp (s : State) (o : RelayFrom) (b : Bytes) : State :=
  let h := parseHeader b
  match o with
  | .member _ =>
    if !s.isMember then s.relayAnswer o h 1
    else if h.hops = 0 then s.relayAnswer o h 4
    else if 256 ≤ s.net.relayed.length then s.relayAnswer o h 5
    else
      let r : Relayed := ⟨o, 64, h.encode, false⟩
      (s.setNet { s.net with relayed := s.net.relayed ++ [r] }).emit (.relayed 64 (relayedFrame h h.src b))
  | .manager | .external _ => s.relayAnswer o h 1

/-- The request a response belongs to is no longer outstanding. -/
def State.settleRelayed (s : State) (h : Header) : State :=
  let is (r : Relayed) : Bool :=
    let q := parseHeader r.header
    q.src = h.src && q.dest = h.dest && q.seq = h.seq
  s.setNet { s.net with relayed := s.net.relayed.filter fun r => !is r }

/-- A response on its way to the requester, whose path its SRC_PATH names: to an external peer of this device by its number, to a member
below, or upward (R510, R512). -/
def State.relayResponse (s : State) (b : Bytes) : State :=
  let h := parseHeader b
  let s := s.settleRelayed h
  let target := bits 17 0 h.src
  if h.hops = 0 then s
  else
    let out := relayedFrame h h.src b
    if target = s.ownPath then
      (if bit 31 h.src then (match s.net.externals.find (bits 25 18 h.src) with
        | some p => s.emit (.bdaFrame ⟨p, 0⟩ out)
        | none => s) else s)
    else match nextHop s.ownPath target with
      | some a => s.emit (.relayed a out)
      | none => if s.isMember then s.emit (.relayed 64 out) else s

/-- A response that comes back over CAN is turned into the full form and tagged in the requester's session (R513). -/
def State.canResponse (s : State) (a : Nat) (f : ShortFrame) : State :=
  match s.net.relayed.find? fun r => r.overCan && r.member = a && (parseHeader r.header).seq = f.seq with
  | none => s
  | some r =>
    let h := parseHeader r.header
    let n := s.net
    let s := s.setNet { n with relayed := n.relayed.filter (fun q => q ≠ r) }
    match s.sessionNo h.session with
    | none => s
    | some x =>
      let status := fieldBE f.payload 0 2
      let size := if status = 0 && h.typ = tyRead then shortSize (bits 27 24 f.addr) (bits 23 8 f.addr) (bits 7 0 f.addr) else 0
      let reply : Reply := { status := status, detail := fieldBE f.payload 2 2, data := slice f.payload 4 size }
      s.sendBack r.origin (makeFrame { h with response := true, hops := 3 } (reply.encode f.addr) (some x.key))

/-- RELAY_FRAME (R510, R512, R513). -/
def execRelayFrame (origin : RelayFrom) (frame : BdaFrame) (s : State) : Host.Outcome State Fault Refusal :=
  .next (
    if !s.manages then s
    else match frame with
      | .short id data =>
        (match origin with
        | .member a => if (parseShort id data).response then s.canResponse a (parseShort id data) else s
        | .manager | .external _ => s)
      | .wide b =>
        if !frameOk b then s
        else
          let h := parseHeader b
          if h.response then s.relayResponse b
          else if bit 31 h.dest || h.dest = s.ownPath then s
          else if !pathOk h.dest then s.relayAnswer origin h 1
          else match nextHop s.ownPath h.dest with
            | some a => s.relayDown origin a b
            | none => s.relayUp origin b)

end Sys2Proof.Machine
end

