-- ==== Sys2Proof/Machine/DictWrite.lean ====
section
/-! DEFINITION. Writes of the object dictionary: where a request points, the values of R454, the rules of the objects without a command
of their own, and the table of the objects that have one (R451 to R474). -/
namespace Sys2Proof.Machine

/-! ### Places and values -/

/-- Where a request points: a row with its station, index offset, subindex offset and tenant instance. -/
structure Place where
  r : ObjRow
  n : Nat
  i : Nat
  j : Nat
  t : Nat
deriving DecidableEq, Repr

/-- The key of a place. -/
def Place.key (p : Place) : OKey := p.r.key p.n p.i p.t p.j

/-- Whether the requester can see that an index holds an object (R452, R458). -/
def State.indexVisible (s : State) (who : Requester) (area idx : Nat) : Bool :=
  match who with
  | .tenant t => objTable.any fun r =>
      (if r.station then 8 ≤ area && area < 16 else area == r.area) && r.idx ≤ idx && idx < r.idx + r.cnt
        && inTenantView s t r (area - 8) (idx - r.idx) t
  | .host _ | .peer _ | .enclave _ | .secure => indexExists area idx

/-- The place a request names, or why there is none (R452). An object with tenant instances named without a qualifier has no instance. -/
def State.place (s : State) (who : Requester) (area idx sub tq : Nat) : Except Status Place :=
  let t := who.instanceOf tq
  match lookupRow area idx sub with
  | some (r, n, i, j) => if r.ten && 512 ≤ t then .error .noObject else .ok ⟨r, n, i, j, t⟩
  | none => .error (if s.indexVisible who area idx then .noSubindex else .noObject)

/-- The number that bytes in frame order spell (R11, R454). -/
def OType.decode (ty : OType) (b : Bytes) : Int :=
  if ty.isSigned then signed (8 * b.length) (ofBE b) else (ofBE b : Nat)

/-- A number as bytes in frame order (R11, R454). -/
def OType.encode (ty : OType) (v : Int) : Bytes :=
  let k := ty.size.getD 8
  toBE k (unsigned (8 * k) v)

/-- A number as an index below `m`; the callers' values lie below it. -/
def ix (m : Nat) [NeZero m] (k : Nat) : Fin m := Fin.ofNat m k

/-- The state an outcome leaves; commands of this model answer next states. -/
def settled (s : State) (o : Host.Outcome State Fault Refusal) : State :=
  match o with
  | .next t => t
  | .fault _ | .refused _ => s

/-- Checks 1 to 4 for a place, with the writers that two tables name beside their level: the hash of the enclave authority is
written by the manager while it is empty, the grant key hashes by any host or peer while they are empty and else in an EXPERT session
alone (R416, R457, R521). -/
def State.placeAccess (s : State) (who : Requester) (p : Place) (write : Bool) : Option Status :=
  let empty : Bool := s.blob p.r p.n p.i p.t p.j = []
  let key : Bool := p.r = Obj.GRANT_KEY_BASIC || p.r = Obj.GRANT_KEY_EXPERT
  let usual := s.checkAccess who p.r write p.n p.i p.t p.j
  if !write then usual
  else if p.r = Obj.ENCLAVE_AUTHORITY_HASH && empty && s.isManager who then none
  else if key then
    match who with
    | .peer _ => if empty then none else usual
    | .host _ => if empty then none else some .noRight
    | .tenant _ | .enclave _ | .secure => usual
  else usual

/-! ### Rules of single objects -/

/-- Rows that must keep their values while `RING_ENABLE` is 1 (R382). -/
def ringSettings : List ObjRow :=
  [Obj.RING_KIND, Obj.RING_ADDR, Obj.RING_ENTRIES, Obj.COMP_ADDR, Obj.SHADOW_ADDR, Obj.RING_VECTOR]

/-- The quotas of a station's tenants, one of them replaced (R54, R73). -/
def State.quotaSum (s : State) (n t v : Nat) : Nat :=
  (tenants.map fun u => if u = t then v else s.rdN Obj.CACHE_QUOTA n 0 u).sum

/-- The corners of the touch map with one replaced (R231). -/
def State.mapOk (s : State) (p : Place) (v : Int) : Bool :=
  let g (r : ObjRow) : Int := if r = p.r then v else s.rd r p.n
  g Obj.MAP_X0 < g Obj.MAP_X1 && g Obj.MAP_Y0 < g Obj.MAP_Y1

/-- The frequency table stays increasing (R230's table). -/
def State.freqOk (s : State) (p : Place) (v : Int) : Bool :=
  (p.j = 0 || s.rdShadow Obj.TX_FREQ_KHZ p.n 0 512 (p.j - 1) < v) && (p.j = 7 || v < s.rdShadow Obj.TX_FREQ_KHZ p.n 0 512 (p.j + 1))

/-- A byte offset of a ring: below its size, or 0 of a ring without a size (R281, R299, R306). -/
def State.offsetOk (s : State) (p : Place) (size : ObjRow) (v : Int) : Bool := v = 0 || v < s.rd size p.n p.i p.t

/-- An index that names a DOMAIN object in bits 27:8 (R597). -/
def namesDomain (v : Nat) : Bool :=
  match lookupRow (bits 27 24 v) (bits 23 8 v) (bits 7 0 v) with
  | some (r, _) => r.ty = .domain
  | none => objTable.any fun r => r.ty = .domain && r.area * 65536 + r.idx = bits 27 8 v

/-- What a value must meet besides its row's range, where that is a list (R105), the active area (R218, R259) or depends on other objects;
else it is answered RANGE. Crop rectangles are clipped to the active area, and take what the largest one holds (assumption 152). -/
def State.valueOk (s : State) (p : Place) (v : Int) : Bool :=
  let u := p.i
  let below (w : Nat) : Bool := v < (2 ^ w : Nat)
  if p.r = Obj.TJ_SOFT_C then s.isExtended || v ≤ 100
  else if p.r = Obj.LAYER_FORMAT then isLayerFormat v.toNat
  else if p.r = Obj.FREEZE_X || p.r = Obj.ZONE_X then v < (s.activeW p.n : Int)
  else if p.r = Obj.FREEZE_Y || p.r = Obj.ZONE_Y then v < (s.activeH p.n : Int)
  else if p.r = Obj.FREEZE_W || p.r = Obj.ZONE_W then v ≤ (s.activeW p.n : Int)
  else if p.r = Obj.FREEZE_H || p.r = Obj.ZONE_H then v ≤ (s.activeH p.n : Int)
  else if p.r = Obj.CROP_X || p.r = Obj.CROP_W || p.r = Obj.CV_CROP_X || p.r = Obj.CV_CROP_W then v ≤ 7680
  else if p.r = Obj.CROP_Y || p.r = Obj.CROP_H || p.r = Obj.CV_CROP_Y || p.r = Obj.CV_CROP_H then v ≤ 4320
  else if p.r = Obj.TX_FREQ_KHZ then s.freqOk p v
  else if p.r = Obj.HAP_STREAM_WRITE then s.offsetOk p Obj.HAP_STREAM_SIZE v
  else if p.r = Obj.SRC_STREAM_WRITE then s.offsetOk p Obj.SRC_STREAM_SIZE v
  else if p.r = Obj.LOOP_READ then s.offsetOk p Obj.LOOP_SIZE v
  else if p.r = Obj.CV_SOURCE then u < 16 || v ≤ 2
  else if p.r = Obj.CV_POLY || p.r = Obj.CV_INIT || p.r = Obj.CV_XOROUT then below (s.rdN Obj.CV_WIDTH 0 u)
  else if p.r = Obj.CV_WINDOW_BASE then v % s.rd Obj.CV_BLOCK_BYTES 0 u = 0
  else if p.r = Obj.CV_WINDOW_SIZE then v % 64 = 0
  else if p.r = Obj.CV_DOMAIN_INDEX then namesDomain v.toNat
  else true

/-- The rule of an object's chapter that refuses a write, for objects without a command of their own (R73, R231, R382, R391, R450, R572,
R603). -/
def State.writeRule (s : State) (p : Place) (v : Int) : Option Status :=
  let state : Status := .refused 8
  let limit : Status := .refused 7
  let when (b : Bool) (e : Status) : Option Status := if b then some e else none
  if ringSettings.contains p.r then when (s.rdB Obj.RING_ENABLE 0 p.i p.t) state
  else if p.r = Obj.CACHE_QUOTA then when (s.rdN Obj.TRANSLATION_CACHE_SIZE p.n < s.quotaSum p.n p.t v.toNat) limit
  else if p.r = Obj.POINT_CEILING then
    firstStatus [when (s.rdN Obj.TRIM_STATE = 2) state, when (s.rd Obj.SLOW_FLOOR 0 p.i < v) limit]
  else if p.r = Obj.SLOW_FLOOR then when (v < s.rd Obj.POINT_CEILING 0 p.i) limit
  else if p.r = Obj.SPONSOR || p.r = Obj.RANGE then when (s.rdN Obj.ENCLAVE_STATE 0 p.i ≠ 0) state
  else if p.r.area = 7 && !p.r.station && p.r.idx = 0x0800 then when (s.cvu p.i).armed state
  else if [Obj.MAP_X0, Obj.MAP_X1, Obj.MAP_Y0, Obj.MAP_Y1].contains p.r then when (!s.mapOk p v) limit
  else none

/-- What a write that passed every check does, for objects without a command of their own: the shadow of an RWC object, else the
object itself (R465). -/
def State.applyWrite (s : State) (p : Place) (v : Int) : State :=
  if p.r.acc = .rwc then s.wrShadow p.r v p.n p.i p.t p.j
  else if p.r = Obj.REF_LOST && v ≠ 0 then s
  else
    let s := s.wr p.r v p.n p.i p.t p.j
    if p.r = Obj.ALARM_PIN_SEVERITY then s.alarmSummary else s

/-- A write of a numeric object without a command of its own. -/
def State.plainWrite (s : State) (who : Requester) (p : Place) (v : Int) : State :=
  s.onWrite who p.r v p.n p.i p.t p.j fun s =>
    if !s.valueOk p v then s.answer .badRange
    else s.guarded (s.writeRule p v) fun s => (s.applyWrite p v).answer .ok

/-! ### Objects with commands of their own -/

/-- The RWC objects that `STATION_COMMIT` makes active: those of blocks 0, 1 and 7 of a station (R466). -/
def stationCommitRows : List ObjRow :=
  objTable.filter fun r => r.station && r.acc = .rwc && (r.idx / 4096 = 0 || r.idx / 4096 = 1 || r.idx / 4096 = 7)

/-- STATION_COMMIT (R466, R496). -/
def execStationCommit (who : Requester) (n : Fin 8) (v : Nat) (s : State) : Host.Outcome State Fault Refusal :=
  .next (s.onWrite who Obj.STATION_COMMIT v n 0 512 0 fun s =>
    if v = 1 then s.guarded (s.needStReady n 1) fun s => (stationCommitRows.foldl (fun s r => s.commitRow r n) s).answer .ok
    else s.answer .ok)

/-- What a write of an object with a command of its own runs. -/
abbrev Handler := Requester → Place → Int → WriteEnv → State → Host.Outcome State Fault Refusal

/-- A binding write of a slice by dictionary (R356 to R358). -/
def State.writeBinding (s : State) (who : Requester) (p : Place) (v : Int) (w : BindWrite) : State :=
  s.onWrite who p.r v p.n p.i p.t p.j fun s =>
    let (s, e) := s.bind p.t w false
    s.answer (e.getD .ok)

/-- `RESET_REQUEST` by its fields (R559). -/
def State.writeResetRequest (s : State) (who : Requester) (v : Nat) : State :=
  let reach := bits 3 0 v
  let target := bits 15 8 v
  let ok : Bool := 1 ≤ reach && reach ≤ 6 && bits 7 4 v = 0 && bits 31 16 v = 0
    && (reach ≠ rStation || target < 8) && (reach ≠ rPort || target < 2)
  s.onWrite who Obj.RESET_REQUEST v 0 0 512 0 fun s =>
    if ok then s.askReset who reach (if reach = rStation || reach = rPort then target else 0) else s.answer .badRange

/-- `ZONE_HOLDER` and the zone masks are one record: a tenant's number gives it the zone, 0xFFFF takes it from whoever has it; an
enclave has a zone through the lock cycle alone (R245, R358, R359). -/
def State.writeZoneHolder (s : State) (who : Requester) (p : Place) (v : Nat) : State :=
  s.onWrite who Obj.ZONE_HOLDER v p.n p.i 512 0 fun s =>
    if !s.isNormal ⟨p.n, .zone, p.i⟩ || (512 ≤ v && v ≠ 0xFFFF) then s.answer (.refused 8)
    else
      let old := tenants.find? fun t => s.sliceHolds t ⟨p.n, .zone, p.i⟩
      let clear (s : State) (t : Nat) : State × Option Status :=
        s.bind t (.rights p.n 3 (putBit p.i false (s.rdN Obj.ZONE_MASK 0 p.n t))) false
      let set (s : State) (t : Nat) : State × Option Status :=
        s.bind t (.rights p.n 3 (putBit p.i true (s.rdN Obj.ZONE_MASK 0 p.n t))) false
      if old = (if v < 512 then some v else none) then s.answer .ok
      else
        let (s1, e1) := match old with
          | some t => clear s t
          | none => (s, none)
        match e1 with
        | some e => s.answer e
        | none =>
          if v < 512 then
            match set s1 v with
            | (_, some e) => s.answer e
            | (s2, none) => s2.answer .ok
          else s1.answer .ok

/-- Objects of a station's composition, guard engine, timing and touch. -/
def handlersA : List (ObjRow × Handler) :=
  [(Obj.STATION_COMMIT, fun who p v _ s => execStationCommit who (ix 8 p.n) v.toNat s),
   (Obj.LAYER_COMMIT, fun who p v _ s => execLayerCommit (.dict who) (ix 8 p.n) v.toNat s),
   (Obj.GUARD_COMMIT, fun who p v _ s => execGuardCommit (.dict who) (ix 8 p.n) v.toNat s),
   (Obj.REF_LOAD_START, fun who p v _ s => execRefLoadStart who (ix 8 p.n) v.toNat s),
   (Obj.MODE_COMMIT, fun who p v _ s => execModeCommit who (ix 8 p.n) v.toNat s),
   (Obj.TOUCH_COMMIT, fun who p v _ s => execTouchCommit who (ix 8 p.n) v.toNat s),
   (Obj.REFERENCE_CAPTURE, fun who p v _ s => execReferenceCapture who (ix 8 p.n) v.toNat s),
   (Obj.WAKE_PENDING, fun who p v _ s => execWakePendingClear who (ix 8 p.n) v.toNat s),
   (Obj.ZONE_HOLDER, fun who p v _ s => .next (s.writeZoneHolder who p v.toNat))]

/-- Objects of a station's haptics, audio, memory and control. -/
def handlersB : List (ObjRow × Handler) :=
  [(Obj.HAPTIC_COMMIT, fun who p v _ s => execHapticCommit who (ix 8 p.n) v.toNat s),
   (Obj.FAULT_CLEAR, fun who p v _ s => execFaultClear who (ix 8 p.n) v.toNat s),
   (Obj.HAPTIC_TRIGGER, fun who p v _ s => execHapticTrigger (.dict who) (ix 8 p.n) (ix 512 p.t) v.toNat s),
   (Obj.AUDIO_COMMIT, fun who p v _ s => execAudioCommit who (ix 8 p.n) v.toNat s),
   (Obj.STREAM_START, fun who p v _ s => execStreamStart who (ix 8 p.n) (ix 12 p.i) v.toNat s),
   (Obj.STREAM_STOP, fun who p v _ s => execStreamStop who (ix 8 p.n) (ix 12 p.i) v.toNat s),
   (Obj.TG_START, fun who p v _ s => execTgStart who (ix 8 p.n) (ix 2 p.i) v.toNat s),
   (Obj.TG_STOP, fun who p v _ s => execTgStop who (ix 8 p.n) (ix 2 p.i) v.toNat s),
   (Obj.MEM_REINIT, fun who p v _ s => execMemReinit who (ix 8 p.n) (v != 0) s),
   (Obj.STATION_RESET, fun who p v _ s => execStationReset who (ix 8 p.n) (v != 0) s),
   (Obj.STATION_TARGET, fun who p v _ s =>
      if v = 0 then execStationTargetOff who (ix 8 p.n) s
      else if v = 2 then execStationTargetRunning who (ix 8 p.n) s
      else if v = 3 then execStationTargetSleep who (ix 8 p.n) s
      else .next (s.plainWrite who p v)),
   (Obj.FUNCTION_GATE, fun who p v _ s =>
      .next (s.onWrite who Obj.FUNCTION_GATE v p.n 0 512 0 fun s => s.writeGate p.n v.toNat))]

/-- Objects of the host ports and slices. -/
def handlersC : List (ObjRow × Handler) :=
  [(Obj.SLICE_ENABLE, fun who p v _ s => if v = 0 || v = 1 then execSliceEnable who (ix 512 p.t) (v != 0) s else .next (s.plainWrite who p v)),
   (Obj.SLICE_PORT, fun who p v _ s => .next (s.writeBinding who p v (.port v.toNat))),
   (Obj.SLICE_PASID, fun who p v _ s => .next (s.writeBinding who p v (.pasid v.toNat))),
   (Obj.SLICE_CLASS, fun who p v _ s => .next (s.writeBinding who p v (.cls v.toNat))),
   (Obj.SLICE_STATIONS, fun who p v _ s => .next (s.writeBinding who p v (.stations v.toNat))),
   (Obj.SLICE_RESET, fun who p v _ s => if v = 0 || v = 1 then execSliceReset who (ix 512 p.t) (v != 0) s else .next (s.plainWrite who p v)),
   (Obj.QUARANTINE_RELEASE, fun who p v _ s => execQuarantineRelease who (ix 512 p.t) v.toNat s),
   (Obj.RIGHTS, fun who p v _ s => execRightsWrite who (ix 512 p.t) (ix 8 p.i) 0 v.toNat s),
   (Obj.LAYER_MASK, fun who p v _ s => execRightsWrite who (ix 512 p.t) (ix 8 p.i) 1 v.toNat s),
   (Obj.GUARD_MASK, fun who p v _ s => execRightsWrite who (ix 512 p.t) (ix 8 p.i) 2 v.toNat s),
   (Obj.ZONE_MASK, fun who p v _ s => execRightsWrite who (ix 512 p.t) (ix 8 p.i) 3 v.toNat s),
   (Obj.SOURCE_MASK, fun who p v _ s => execRightsWrite who (ix 512 p.t) (ix 8 p.i) 4 v.toNat s),
   (Obj.WINDOW, fun who p v _ s => execWindowWrite who (ix 512 p.t) (ix 8 p.i) (ix 16 p.j) v.toNat s),
   (Obj.RING_ENABLE, fun who p v _ s =>
      if v = 0 || v = 1 then execRingEnable who (ix 512 p.t) (ix 8 (p.i / 4)) (ix 4 (p.i % 4)) (v != 0) s else .next (s.plainWrite who p v))]

/-- Objects of the device: state, enclaves, energy, settings, resets and check-value units. -/
def handlersD : List (ObjRow × Handler) :=
  [(Obj.DEVICE_REQUEST, fun who p v _ s =>
      if v = 0 then execDeviceRequestNone who s
      else if v = 4 then execDeviceRequestRecovery who s
      else if v = 5 then execDeviceRequestLeaveRecovery who s
      else .next (s.plainWrite who p v)),
   (Obj.ENCLAVE_COMMAND, fun who p v _ s =>
      if v = 1 then execEnclaveCreate who (ix 64 p.i) s
      else if v = 2 then execEnclaveStart who (ix 64 p.i) s
      else if v = 3 then execEnclaveStop who (ix 64 p.i) s
      else if v = 4 then execEnclaveCommandDestroy who (ix 64 p.i) s
      else .next (s.plainWrite who p v)),
   (Obj.ENCLAVE_DESTROY, fun who p v _ s => if v = 0 || v = 1 then execEnclaveDestroy who (ix 64 p.i) (v != 0) s else .next (s.plainWrite who p v)),
   (Obj.DEVICE_BUDGET_MW, fun who _ v _ s => execDeviceBudgetMw who v.toNat s),
   (Obj.SETTINGS_SAVE, fun who p v _ s => if v = 0 || v = 1 then execSettingsSave who (v != 0) s else .next (s.plainWrite who p v)),
   (Obj.SETTINGS_DEFAULTS, fun who p v _ s => if v = 0 || v = 1 then execSettingsDefaults who (v != 0) s else .next (s.plainWrite who p v)),
   (Obj.RESET_REQUEST, fun who _ v _ s => .next (s.writeResetRequest who v.toNat)),
   (Obj.CV_COMMAND, fun who p v _ s =>
      if v = 1 then execCvArm who (ix 24 p.i) s
      else if v = 2 then execCvEnd who (ix 24 p.i) s
      else if v = 3 then execCvAbort who (ix 24 p.i) s
      else .next (s.plainWrite who p v))]

/-- Objects of the field network, the hierarchy and the update. -/
def handlersE : List (ObjRow × Handler) :=
  [(Obj.GRANT_END, fun who _ v _ s => execGrantEnd who v.toNat s),
   (Obj.DEVICE_PATH, fun who _ v env s => execDevicePath who v.toNat env.serial s),
   (Obj.MEMBER_SERIAL, fun who p v _ s => execMemberSerial who (ix 64 p.i) v.toNat s),
   (Obj.ALARM_ACK, fun who _ v _ s => execAlarmAck who v.toNat s),
   (Obj.CACHE_TARGETS, fun who _ v _ s => execCacheTargets who v.toNat s),
   (Obj.UPDATE_COMMAND, fun who p v env s =>
      if v = 1 then execUpdateApply who s
      else if v = 2 then execUpdateCommit who env.fails s
      else if v = 3 then execUpdateRevert who s
      else if v = 4 then execUpdateCancel who s
      else if v = 5 then execForceSec who s
      else .next (s.plainWrite who p v))]

/-! ### BLOBs -/

/-- The sizes a BLOB accepts (the ranges of the tables that R454 names). -/
def blobSizeOk (r : ObjRow) (k : Nat) : Bool :=
  let manifest : Bool := 232 ≤ k && k ≤ 648 && (k - 128) % 104 = 0
  if r = Obj.OUTPUT_LUT then k = 6144
  else if r = Obj.PRE_LUT || r = Obj.POST_LUT then k = 1542
  else if r = Obj.MATRIX then k = 30
  else if r = Obj.SAFE_STORE then k ≤ 524288
  else if r = Obj.FACTORY_REFERENCE then k ≤ 7952
  else if r = Obj.EFFECT_DATA then k = 0 || (18 ≤ k && k ≤ 65536)
  else if r = Obj.ENCLAVE_AUTHORITY_HASH || r = Obj.GRANT_KEY_BASIC || r = Obj.GRANT_KEY_EXPERT then k = 48
  else if r = Obj.INBOX then 1 ≤ k && k ≤ 1024
  else if r = Obj.ATTEST_CHALLENGE then k = 32
  else if r = Obj.DEBUG_RESPONSE then k = 97
  else if r = Obj.QBV_LIST then k ≤ 1032
  else if r = Obj.QAV_SLOPES then k ≤ 48
  else if r = Obj.GRANT_REQUEST then k = 194 || k = 435
  else if r = Obj.DELEGATION then k = 241
  else if r = Obj.MANIFEST || r = Obj.CACHE_MANIFEST then manifest
  else if r = Obj.PIECE_IN then k = 4112
  else if r = Obj.FUSE_MAP_PROGRAM then k = 17
  else k ≤ 16777216

/-- The largest size of a BLOB: a total above it is refused at the first segment (R472). -/
def blobMax (r : ObjRow) : Nat :=
  if r = Obj.OUTPUT_LUT then 6144
  else if r = Obj.PRE_LUT || r = Obj.POST_LUT then 1542
  else if r = Obj.MATRIX then 30
  else if r = Obj.SAFE_STORE then 524288
  else if r = Obj.FACTORY_REFERENCE then 7952
  else if r = Obj.EFFECT_DATA then 65536
  else if r = Obj.ENCLAVE_AUTHORITY_HASH || r = Obj.GRANT_KEY_BASIC || r = Obj.GRANT_KEY_EXPERT || r = Obj.QAV_SLOPES then 48
  else if r = Obj.INBOX then 1024
  else if r = Obj.ATTEST_CHALLENGE then 32
  else if r = Obj.DEBUG_RESPONSE then 97
  else if r = Obj.QBV_LIST then 1032
  else if r = Obj.GRANT_REQUEST then 435
  else if r = Obj.DELEGATION then 241
  else if r = Obj.MANIFEST || r = Obj.CACHE_MANIFEST then 648
  else if r = Obj.PIECE_IN then 4112
  else if r = Obj.FUSE_MAP_PROGRAM then 17
  else 16777216

/-- The shadow of an RWC BLOB is written and the object's revision raised (R465, R474). -/
def State.wrBlobShadow (s : State) (p : Place) (b : Bytes) : State :=
  { s with shadowBlobs := s.shadowBlobs.put p.key b, blobRev := s.blobRev.put p.key (wrapInc 16 (s.blobRev.getD p.key 0)) }

/-- A package's manifest enters the piece cache: of two packages the one written least recently gives way (R533). -/
def State.cacheManifest (s : State) (b : Bytes) : State :=
  let keep := s.net.cache.filter fun c => c.manifest ≠ b
  let keep := if 2 ≤ keep.length then keep.drop 1 else keep
  s.setNet { s.net with cache := keep ++ [{ manifest := b }] }

/-- What the chapter of a BLOB refuses: the layout of a cache manifest (R533), and HELD_SECURE (R463). -/
def State.blobRule (s : State) (who : Requester) (p : Place) (b : Bytes) : Option Status :=
  if p.r = Obj.CACHE_MANIFEST then
    let m := parseManifest b
    if m.formatOk && m.signatureOk && m.silicon = 0xB1 then none else some (.refused 9)
  else s.heldCheck who p.n (p.r.need p.i p.j)

/-- What a whole BLOB that passed every check does, for objects without a command of their own. -/
def State.applyBlob (s : State) (p : Place) (b : Bytes) : State :=
  if p.r.acc = .rwc then s.wrBlobShadow p b
  else if p.r = Obj.SAFE_STORE then s.safeLoading p.n b
  else
    let s := s.wrBlob p.r b p.n p.i p.t p.j
    if p.r = Obj.FACTORY_REFERENCE then s.syncReference p.n
    else if p.r = Obj.GRANT_KEY_BASIC then s.endKeySessions .basic
    else if p.r = Obj.GRANT_KEY_EXPERT then s.endKeySessions .expert
    else if p.r = Obj.CACHE_MANIFEST then s.cacheManifest b
    else s

/-- A whole value of a BLOB without a command of its own. -/
def State.plainBlob (s : State) (who : Requester) (p : Place) (b : Bytes) : State :=
  s.onRequest who fun s =>
    match s.placeAccess who p true with
    | some e => (s.mailboxSpoof who p.r p.n p.i p.j (some e)).answer e
    | none =>
      if !blobSizeOk p.r b.length then s.answer .badRange
      else s.guarded (s.blobRule who p b) fun s => (s.applyBlob p b).answer .ok

/-- What a whole value of a BLOB with a command of its own runs. -/
abbrev BlobHandler := Requester → Place → Bytes → WriteEnv → State → Host.Outcome State Fault Refusal

/-- BLOBs with commands of their own. -/
def blobHandlers : List (ObjRow × BlobHandler) :=
  [(Obj.EFFECT_DATA, fun who p b _ s => execEffectData who (ix 8 p.n) (ix 64 p.i) b s),
   (Obj.INBOX, fun who p b _ s => execInbox who (ix 64 p.i) b s),
   (Obj.ATTEST_CHALLENGE, fun who _ b _ s => execAttestChallenge who b s),
   (Obj.DEBUG_RESPONSE, fun who _ b _ s => execDebugResponse who b s),
   (Obj.GRANT_REQUEST, fun who _ b env s => execGrantRequest who b env.pub s),
   (Obj.MANIFEST, fun who _ b _ s => execManifest who b s),
   (Obj.PIECE_IN, fun who _ b _ s => execPieceIn who b s),
   (Obj.FUSE_MAP_PROGRAM, fun who _ b _ s => execFuseMapProgram who b s)]

/-- A whole value of a BLOB is checked and applied in one step (R472). -/
def State.writeBlob (s : State) (who : Requester) (p : Place) (b : Bytes) (env : WriteEnv) : State :=
  match blobHandlers.find? fun h => h.1 = p.r with
  | some h => settled s (h.2 who p b env s)
  | none => s.plainBlob who p b

/-! ### Segmented writes -/

/-- A stage that has had no segment for 2 s is abandoned (R473). -/
def State.liveStage (s : State) (k : OKey) : Option BlobStage :=
  (s.staging.find k).filter fun x => s.time < x.lastAt + 2000000000

/-- Bytes that the server has promised to stage (R473). -/
def State.stagedTotal (s : State) : Nat :=
  ((s.staging.filter fun e => s.time < e.2.lastAt + 2000000000).map fun e => e.2.total).sum

/-- A segment of a BLOB write (R472, R473): offset, LAST, the total size where the segment is the first, and the data. -/
def State.writeSegment (s : State) (who : Requester) (p : Place) (offset : Nat) (last : Bool) (total : Nat) (data : Bytes) (env : WriteEnv) :
    State :=
  let k := p.key
  let drop (s : State) : State := { s with staging := s.staging.del k }
  let go (s : State) (x : BlobStage) : State :=
    let got := x.data ++ data
    if x.total < got.length then (drop s).answer .badRange
    else if last then
      (if got.length = x.total then (drop s).writeBlob who p got env else (drop s).answer (.segment got.length))
    else ({ s with staging := s.staging.put k { x with data := got, lastAt := s.time } } : State).answer .ok
  match s.liveStage k with
  | none =>
    let s := drop s
    if offset ≠ 0 then s.answer (.segment 0)
    else if blobMax p.r < total then s.answer .badRange
    else if 33554432 < s.stagedTotal + total then s.answer (.busy 0)
    else go s ⟨who, total, [], s.time⟩
  | some x =>
    if offset = 0 && blobMax p.r < total then s.answer .badRange
    else if x.who ≠ who || offset = 0 then s.answer (.busy 0)
    else if offset ≠ x.data.length then s.answer (.segment x.data.length)
    else go s x

/-! ### The write of an entry -/

/-- A write of a numeric value whose length is that of its type. -/
def State.writeValue (s : State) (who : Requester) (p : Place) (v : Int) (env : WriteEnv) : State :=
  match (handlersA ++ handlersB ++ handlersC ++ handlersD ++ handlersE).find? fun h => h.1 = p.r with
  | some h => settled s (h.2 who p v env s)
  | none => s.plainWrite who p v

/-- The row and instance of the result a subindex 0xFE or 0xFF belongs to, where the requester may read it (R476, R483). -/
def State.resultPlace (s : State) (who : Requester) (area idx tq : Nat) : Except Status Place :=
  let t := who.instanceOf tq
  match resultRow area idx with
  | none => .error (if s.indexVisible who area idx then .noSubindex else .noObject)
  | some (r, n, i) =>
    if r.ten && 512 ≤ t then .error .noObject
    else match s.checkAccess who r false n i t 0 with
      | some e => .error e
      | none => .ok ⟨r, n, i, 0, t⟩

/-- A write of `RESULT_ACK` (R479, R480). -/
def State.ackResult (s : State) (who : Requester) (area idx tq gen : Nat) : State :=
  s.onRequest who fun s =>
    if s.isQuarantined who then s.answer .quarantined
    else match s.resultPlace who area idx tq with
      | .error e => s.answer e
      | .ok p =>
        let k := p.key
        let v := s.results.getD k {}
        if gen ≠ v.generation then s.answer (.staleAck v.generation)
        else ({ s with results := s.results.put k { v with consumed := true, overrun := false } } : State).answer .ok

/-- The segment a WRITE entry carries: offset, LAST, and on the first one the total size in front of the data; an entry that is not
segmented carries the whole value (R472, R504). -/
structure Segment where
  segmented : Bool := false
  last : Bool := true
  offset : Nat := 0
deriving DecidableEq, Repr

/-- A write of an object by area, index and subindex, answered once (R461, R464). -/
def State.dictWrite (s : State) (who : Requester) (area idx sub tq : Nat) (g : Segment) (data : Bytes) (env : WriteEnv) : State :=
  s.onRequest who fun s =>
    if s.isQuarantined who then s.answer .quarantined
    else if sub = 0xFF then
      (match s.resultPlace who area idx tq with
      | .error e => s.answer e
      | .ok _ => if g.segmented || data.length ≠ 2 then s.answer .badType else s.ackResult who area idx tq (ofBE data))
    else if sub = 0xFE then
      (match s.resultPlace who area idx tq with
      | .error e => s.answer e
      | .ok _ => s.answer .readOnly)
    else match s.place who area idx sub tq with
      | .error e => s.answer e
      | .ok p =>
        match s.placeAccess who p true with
        | some e => (s.mailboxSpoof who p.r p.n p.i p.j (some e)).answer e
        | none =>
          match p.r.ty with
          | .blob =>
            if !g.segmented then s.writeSegment who p 0 true data.length data env
            else if g.offset = 0 then
              (if data.length < 4 then s.answer .badType else s.writeSegment who p 0 g.last (ofBE (data.take 4)) (data.drop 4) env)
            else s.writeSegment who p g.offset g.last 0 data env
          | .str | .domain => s.answer .badType
          | .bool | .u8 | .u16 | .u32 | .u64 | .i8 | .i16 | .i32 | .i64 | .f32 =>
            if g.segmented || some data.length ≠ p.r.ty.size then s.answer .badType
            else s.writeValue who p (p.r.ty.decode data) env

end Sys2Proof.Machine
end

