-- ==== Sys2Proof/Machine/DictRead.lean ====
section
/-! DEFINITION. Reads of the object dictionary: views, results, BLOB segments with their revisions, snapshots, and the objects that a read
changes (R455, R459, R471, R474, R478, R482, R619, R623). -/
namespace Sys2Proof.Machine

/-! ### Views -/

/-- The set an object of the composition or of the guard engine belongs to (R122, R163). -/
def setOf (r : ObjRow) (i : Nat) : Option SetId :=
  if layerRows.contains r || layerBlobs.contains r then some (.layer i)
  else if echoRows.contains r then some (.layer 15)
  else if stationRows.contains r || r = Obj.OUTPUT_LUT then some .station
  else if guardRows.contains r then some (.guard i)
  else none

/-- The set a place belongs to, with its armed copy (R459). -/
def State.armedOf (s : State) (p : Place) : Option (SetId × ArmedSet) :=
  (setOf p.r p.i).bind fun k => ((s.cmp p.n).armed.find k).map fun a => (k, a)

/-- Whether an object has a view: 0 the shadow, or the object itself; 1 ACTIVE, of RWC objects; 2 ARMED, of sets that arm (R459). -/
def hasView (p : Place) (view : Nat) : Bool :=
  view = 0 || (view = 1 && p.r.acc = .rwc) || (view = 2 && p.r.station && (setOf p.r p.i).isSome)

/-- A numeric value in a view (R459). -/
def State.viewValue (s : State) (p : Place) (view : Nat) : Int :=
  let active := s.rdAs p.r p.n p.i p.t p.j
  let shadow := (s.shadow.find p.key).getD active
  if p.r.acc ≠ .rwc || view = 1 then active
  else if view = 2 then
    match s.armedOf p with
    | some (k, a) => (((a.named p.n k).find? fun v => v.1 = p.key).map (·.2)).getD shadow
    | none => shadow
  else shadow

/-- A content in a view (R459). -/
def State.viewBlob (s : State) (p : Place) (view : Nat) : Bytes :=
  let shadow := s.blobShadow p.r p.n p.i p.t p.j
  if p.r.acc ≠ .rwc || view = 1 then s.blob p.r p.n p.i p.t p.j
  else if view = 2 then
    match s.armedOf p with
    | some (k, a) => (((a.namedBlobs p.n k).find? fun v => v.1 = p.key).map (·.2)).getD shadow
    | none => shadow
  else shadow

/-! ### Snapshots -/

/-- What a READ entry asks for (R471, R474, R504); `limit` is the largest segment of its transport. -/
structure ReadReq where
  view : Nat := 0
  segmented : Bool := false
  revCheck : Bool := false
  revision : Nat := 0
  offset : Nat := 0
  len : Nat := 0
  limit : Nat := 1386
deriving DecidableEq, Repr

/-- Offset and length of the segment asked for: an entry that is not segmented asks for the value from its front. -/
def ReadReq.span (q : ReadReq) : Nat × Nat := if q.segmented then (q.offset, min q.len q.limit) else (0, q.limit)

/-- A log ring's content: its records, oldest first (R621, R623). -/
def State.ringBytes (s : State) (key : Nat) : Bytes := ((s.logRings.getD key []).map Rec.encode).flatten

/-- The key of the log ring a row shows, if it shows one (R624). -/
def ringOf (p : Place) : Option Nat :=
  if p.r = Obj.HW_LOG_RING then some 8 else if p.r = Obj.STATION_LOG_RING then some p.n else none

/-- A segment of a value that is read from a snapshot, taken at the segment at offset 0 and held until the read reaches its end or for
1 s (R482, R623). -/
def State.readSnapshot (s : State) (who : Requester) (p : Place) (q : ReadReq) : State :=
  let k := p.key
  let (off, len) := q.span
  let mine (x : Snapshot) : Bool := x.who = who && x.key = k
  let now : Bytes := match ringOf p with
    | some r => s.ringBytes r
    | none => s.blob p.r p.n p.i p.t p.j
  let found : Option Snapshot :=
    if off = 0 then some ⟨who, k, (s.result p.r p.n p.i p.t).generation, now, s.time⟩
    else (s.snapshots.find? mine).filter fun x => s.time < x.takenAt + 1000000000
  let rest := s.snapshots.filter fun x => !mine x
  match found with
  | none => ({ s with snapshots := rest } : State).answer (.segment 0)
  | some x =>
    let ended : Bool := x.data.length ≤ off + len
    let s : State := { s with snapshots := if ended then rest else rest ++ [x] }
    let status := if (ringOf p).isSome then 0 else (s.result p.r p.n p.i p.t).status
    s.answer .ok (slice x.data off len) (x.generation * 65536 + status)

/-- A segment of a BLOB with its revision (R471, R474). -/
def State.readBlob (s : State) (p : Place) (q : ReadReq) : State :=
  let rev := s.blobRev.getD p.key 0
  let (off, len) := q.span
  if q.revCheck && q.revision ≠ rev then s.answer (.revision rev)
  else s.answer .ok (slice (s.viewBlob p q.view) off len) (rev * 65536)

/-! ### Objects that a read changes -/

/-- What an object takes by being read (R73, R152, R352, R619). -/
def clearedByReading (r : ObjRow) : Option Int :=
  if r = Obj.SAVE_TIME_MAX || r = Obj.RETRAIN_STALL_MAX then some 0
  else if r = Obj.LEAD_MIN then some 16
  else none

/-- The value of a numeric object, with generation and status where it is a result (R478); objects cleared by reading are cleared
(R152, R619). -/
def State.readValue (s : State) (p : Place) (view : Nat) : State :=
  let v := s.viewValue p view
  let aux := if p.r.result then
      (let x := s.result p.r p.n p.i p.t
       x.generation * 65536 + x.status)
    else 0
  let s := match clearedByReading p.r with
    | some x => s.wr p.r x p.n p.i p.t p.j
    | none => s
  s.answer .ok (p.r.ty.encode v) aux

/-! ### The read of an entry -/

/-- A read of an object by area, index and subindex, answered once (R461, R478). -/
def State.dictRead (s : State) (who : Requester) (area idx sub tq : Nat) (q : ReadReq) : State :=
  s.onRequest who fun s =>
    if sub = 0xFE || sub = 0xFF then
      (match s.resultPlace who area idx tq with
      | .error e => s.answer e
      | .ok p =>
        if sub = 0xFF then s.answer .writeOnly
        else if q.segmented || q.view ≠ 0 then s.answer .badType
        else s.answer .ok (toBE 4 (s.result p.r p.n p.i p.t).number))
    else match s.place who area idx sub tq with
      | .error e => s.answer e
      | .ok p =>
        match s.placeAccess who p false with
        | some e => s.answer e
        | none =>
          if !hasView p q.view then s.answer .badType
          else match p.r.ty with
            | .blob =>
              if p.r = Obj.GRANT_CHALLENGE then settled s (execGrantChallenge who s)
              else if p.r = Obj.DEBUG_CHALLENGE then settled s (execDebugChallenge who s)
              else if p.r.result || (ringOf p).isSome then s.readSnapshot who p q
              else s.readBlob p q
            | .domain => s.answer .badType
            | .str => if q.segmented then s.answer .badType else s.answer .ok (s.blob p.r p.n p.i p.t p.j)
            | .bool | .u8 | .u16 | .u32 | .u64 | .i8 | .i16 | .i32 | .i64 | .f32 =>
              if q.segmented then s.answer .badType else s.readValue p q.view

end Sys2Proof.Machine
end

