-- ==== Sys2Proof/Machine/Transfers.lean ====
section
/-! DEFINITION. Transfers of the dictionary: READ, WRITE and COMMIT bodies with their entries, and the dictionary's own commands (R464 to
R467, R472, R473, R479 to R482, R504, R619, R623). -/
namespace Sys2Proof.Machine

/-! ### One answer of a request -/

/-- The answer among things that have left the block, if there is one. -/
def answerIn : List Emission → Option Reply
  | [] => none
  | .answer st detail aux data :: _ => some { status := st, detail := detail, aux := aux, data := data }
  | _ :: rest => answerIn rest

/-- Whether something that has left the block is an answer. -/
def Emission.isAnswer : Emission → Bool
  | .answer _ _ _ _ => true
  | .hostWrite .. | .hostRead .. | .msix .. | .pin .. | .line .. | .dscLine .. | .sdp .. | .tdm .. | .coil .. | .ethFrame .. | .bdaFrame .. | .relayed ..
  | .hierarchy .. | .memCmd .. | .alarm .. | .link .. | .flash .. | .call .. | .jtag .. => false

/-- A request of the dictionary is carried out and its answer taken instead of sent. -/
def State.capture (s : State) (f : State → State) : Option Reply × State :=
  let t := f { s with out := [] }
  (answerIn t.out, { t with out := t.out.filter (fun e => !e.isAnswer) ++ s.out })

/-! ### Transfers -/

/-- The commit objects (R465, R467). -/
def commitRows : List ObjRow :=
  [Obj.STATION_COMMIT, Obj.LAYER_COMMIT, Obj.GUARD_COMMIT, Obj.MODE_COMMIT, Obj.TOUCH_COMMIT, Obj.HAPTIC_COMMIT, Obj.AUDIO_COMMIT]

/-- A commit of sets of a station that an entry asks for: the station, whether it is of layers, and the mask (R467). -/
structure SetCommit where
  n : Nat
  layers : Bool
  mask : Nat
deriving DecidableEq, Repr

/-- The commit of sets that an entry asks for, if it asks for one. -/
def setCommitOf (e : Entry) : Option SetCommit :=
  match lookupRow e.area e.idx e.sub with
  | some (r, n, _, _) =>
    if e.segmented || e.data.length ≠ 4 then none
    else if r = Obj.LAYER_COMMIT then some ⟨n, true, ofBE e.data⟩
    else if r = Obj.GUARD_COMMIT then some ⟨n, false, ofBE e.data⟩
    else none
  | none => none

/-- The guard sets a commit names (R163, R164). -/
def State.guardsOf (s : State) (who : Requester) (c : SetCommit) : Nat := if c.layers then s.tiedRegions c.n who c.mask else c.mask

/-- A commit would be accepted now, with further guard sets arming in the same cycle (R165, R467). -/
def State.wouldArm (s : State) (who : Requester) (c : SetCommit) (named : Nat) : Bool :=
  let r := if c.layers then Obj.LAYER_COMMIT else Obj.GUARD_COMMIT
  let gm := s.guardsOf who c
  (s.checkWrite who r c.mask c.n).isNone && s.isStReady c.n (if c.layers then 3 else 4)
    && (s.firstRefusal c.n who (gm ||| named) (setsOf (if c.layers then c.mask else 0) gm)).isNone

/-- The set commits of a transfer around one of its entries: those it has accepted, and those behind the entry. -/
structure Around where
  armed : List SetCommit := []
  behind : List SetCommit := []
deriving DecidableEq, Repr

/-- The guard sets that the other entry of the pair of R467 brings into the arm cycle of a commit: those of an accepted one, and those of
one that would be accepted. -/
def State.partnerGuards (s : State) (who : Requester) (c : SetCommit) (l : Around) : Nat :=
  let pair (o : SetCommit) : Bool := o.n = c.n && o.layers ≠ c.layers
  match l.armed.find? pair with
  | some o => s.guardsOf who o
  | none => match l.behind.find? pair with
    | some o => if s.wouldArm who o (s.guardsOf who c) then s.guardsOf who o else 0
    | none => 0

/-- The segment an entry of a WRITE carries (R472, R504). -/
def Entry.segment (e : Entry) : Segment := if e.segmented then ⟨true, e.last, e.offset⟩ else {}

/-- A request that its kind of entry or its transport does not carry: TYPE, unless a check before TYPE fails (R461, R467, R502). -/
def State.wrongType (s : State) (who : Requester) (area idx sub tq : Nat) (write : Bool) : State :=
  s.onRequest who fun s =>
    if write && s.isQuarantined who then s.answer .quarantined
    else if sub = 0xFE || sub = 0xFF then
      (match s.resultPlace who area idx tq with
      | .error x => s.answer x
      | .ok _ => s.answer (if sub = 0xFE && write then .readOnly else if sub = 0xFF && !write then .writeOnly else .badType))
    else match s.place who area idx sub tq with
      | .error x => s.answer x
      | .ok p => match s.placeAccess who p write with
        | some x => (if write then s.mailboxSpoof who p.r p.n p.i p.j (some x) else s).answer x
        | none => s.answer .badType

/-- An entry of a COMMIT: a write of a commit object, and TYPE for any other object where the checks before TYPE pass (R467). -/
def State.commitEntry (s : State) (who : Requester) (tq : Nat) (others : Around) (env : WriteEnv) (e : Entry) : State :=
  match setCommitOf e with
  | some c =>
    let named := s.partnerGuards who c others
    if c.layers then s.writeLayerCommit who c.n c.mask named else s.writeGuardCommit who c.n c.mask named
  | none =>
    let commits : Bool := match lookupRow e.area e.idx e.sub with
      | some (r, _) => commitRows.contains r
      | none => false
    if commits then s.dictWrite who e.area e.idx e.sub tq e.segment e.data env
    else s.wrongType who e.area e.idx e.sub tq true

/-- What an entry of a READ asks for. -/
def Entry.readReq (e : Entry) (limit : Nat) : ReadReq :=
  { view := e.view, segmented := e.segmented, revCheck := e.revCheck, revision := e.revision, offset := e.offset, len := e.len,
    limit := limit }

/-- An entry of a transfer of a type is carried out (R464, R467). -/
def State.entry (s : State) (who : Requester) (typ tq limit : Nat) (env : WriteEnv) (others : Around) (e : Entry) :
    Option Reply × State :=
  s.capture fun s =>
    if typ = tyRead then s.dictRead who e.area e.idx e.sub tq (e.readReq limit)
    else if typ = tyWrite then s.dictWrite who e.area e.idx e.sub tq e.segment e.data env
    else s.commitEntry who tq others env e

/-- The entries of a transfer in order, each answered on its own (R464, R467); `armed` are the set commits accepted so far. -/
def State.entries (s : State) (who : Requester) (typ tq limit : Nat) (env : WriteEnv) (armed : List SetCommit) : List Entry → Bytes × State
  | [] => ([], s)
  | e :: rest =>
    let (r, s) := s.entry who typ tq limit env ⟨armed, rest.filterMap setCommitOf⟩ e
    let accepted : Bool := match r with
      | some x => x.status = 0
      | none => false
    let armed := if accepted then armed ++ (setCommitOf e).toList else armed
    let (b, s) := s.entries who typ tq limit env armed rest
    ((match r with
      | some r => r.encode (addressOf e.area e.idx e.sub)
      | none => []) ++ b, s)

/-- The most entries a transfer of a type carries (R467, R504). -/
def maxEntries (typ : Nat) : Nat := if typ = tyCommit then 16 else 64

/-- A READ, WRITE or COMMIT body is carried out; none where it breaks the layout of R504. -/
def State.transfer (s : State) (who : Requester) (typ tq limit : Nat) (env : WriteEnv) (body : Bytes) : Option (Bytes × State) :=
  if typ ≠ tyRead && typ ≠ tyWrite && typ ≠ tyCommit then none
  else match parseEntries (typ = tyRead) (maxEntries typ) body with
    | none | some [] => none
    | some es => some (s.entries who typ tq limit env [] es)

/-! ### Commands -/

/-- DICTIONARY_WRITE: a write of the whole value of an object by its index and subindex, from any path (R461 to R465). -/
def execDictionaryWrite (who : Requester) (area : Fin 16) (idx sub : Nat) (tq : Option (Fin 512)) (data : Bytes) (env : WriteEnv) (s : State) :
    Host.Outcome State Fault Refusal :=
  .next (s.dictWrite who area idx sub (match tq with | some t => t | none => 512) {} data env)

/-- SAFE_STORE: a segment of a segmented write of the safe store; at LAST its check starts (R177, R472, R473). -/
def execSafeStore (who : Requester) (n : Fin 8) (offset : Nat) (last : Bool) (data : Bytes) (s : State) : Host.Outcome State Fault Refusal :=
  .next (s.dictWrite who (8 + n) 0x2160 0 512 ⟨true, last, offset⟩ data {})

/-- RESULT_ACK (R479, R480). -/
def execResultAck (who : Requester) (area : Fin 16) (idx : Nat) (tq : Option (Fin 512)) (gen : Nat) (s : State) :
    Host.Outcome State Fault Refusal :=
  .next (s.ackResult who area idx (match tq with | some t => t | none => 512) gen)

/-- RESULT_BLOB_READ: a segment of a result BLOB (R478, R482). -/
def execResultBlobRead (who : Requester) (area : Fin 16) (idx offset len : Nat) (s : State) : Host.Outcome State Fault Refusal :=
  .next (match resultRow area idx with
    | some (r, _, _) => s.dictRead who area idx r.sub 512 { segmented := true, offset := offset, len := len }
    | none => s.dictRead who area idx 0 512 { segmented := true, offset := offset, len := len })

/-- SNAPSHOT_EXPIRED: snapshots held for 1 s are discarded (R482). -/
def execSnapshotExpired (s : State) : Host.Outcome State Fault Refusal :=
  .next { s with snapshots := s.snapshots.filter fun x => s.time < x.takenAt + 1000000000 }

/-- LOG_RING_READ: a segment of the headworks ring, or of a station's (R623). -/
def execLogRingRead (who : Requester) (station : Option (Fin 8)) (offset len : Nat) (s : State) : Host.Outcome State Fault Refusal :=
  .next (match station with
    | none => s.dictRead who 0 0x0040 1 512 { segmented := true, offset := offset, len := len }
    | some n => s.dictRead who (8 + n) 0x0060 1 512 { segmented := true, offset := offset, len := len })

/-- CLEARING_READ: `SAVE_TIME_MAX`, or `RETRAIN_STALL_MAX`, of a station (R73, R352, R619, R620). -/
def execClearingRead (who : Requester) (n : Fin 8) (stall : Bool) (s : State) : Host.Outcome State Fault Refusal :=
  .next (s.dictRead who (8 + n) (if stall then Obj.RETRAIN_STALL_MAX.idx else Obj.SAVE_TIME_MAX.idx) 0 512 {})

/-- BLOB_WRITE_ABANDONED: segmented writes without a segment for 2 s are discarded (R473). -/
def execBlobWriteAbandoned (s : State) : Host.Outcome State Fault Refusal :=
  .next { s with staging := s.staging.filter fun e => s.time < e.2.lastAt + 2000000000 }

end Sys2Proof.Machine
end

