-- ==== Sys2Proof/Machine/Bda.lean ====
section
/-! DEFINITION. BDA requests as they arrive: sessions and tags, sequence numbers, READ, WRITE, COMMIT, NOTIFY and BLOCK transfers, the short
form, and subscriptions (R464, R467, R478, R485, R486, R502 to R509, R531, R533). -/
namespace Sys2Proof.Machine

/-! ### Subscriptions -/

/-- The value a subscription watches, as a number: the generation for RESULT, the revision of a BLOB, else the value (R485). -/
def State.watched (s : State) (p : Place) (condition : Nat) : Int :=
  if condition = 2 then (s.result p.r p.n p.i p.t).generation
  else if p.r.ty = .blob || p.r.ty = .str || p.r.ty = .domain then s.blobRev.getD p.key 0
  else s.viewValue p 0

/-- The place of a key. -/
def placeOf (k : OKey) : Option Place := (lookupRow k.area k.idx k.sub).map fun (r, n, i, j) => ⟨r, n, i, j, k.ten⟩

/-- The places a subscription names: the one value of its subindex, or each value of the object as a whole; for RESULT the object's result
(R6, R485). -/
def State.watchPlaces (s : State) (who : Requester) (area idx sub tq condition : Nat) : Except Status (List Place) :=
  if condition = 2 then
    match s.resultPlace who area idx tq with
    | .error e => .error (if e = .noSubindex && s.indexVisible who area idx then .badType else e)
    | .ok p => .ok [p]
  else match s.place who area idx sub tq with
    | .ok p => .ok [p]
    | .error e =>
      let l := (List.range 254).filterMap fun k => (s.place who area idx k tq).toOption
      if sub = 0 && !l.isEmpty then .ok l else .error e

/-- The subscriptions without a peer's of some keys. -/
def dropSubs (l : List Subscription) (id : PeerId) (keys : List OKey) : List Subscription :=
  l.filter fun x => !(x.peer = id && keys.contains x.key)

/-- A NOTIFY entry of a peer: it subscribes or cancels (R485). -/
def State.subscribe (s : State) (who : Requester) (id : PeerId) (area idx sub tq condition interval : Nat) : State :=
  s.onRequest who fun s =>
    match s.watchPlaces who area idx sub tq condition with
    | .error e => s.answer e
    | .ok l =>
      match firstStatus (l.map fun p => s.placeAccess who p false) with
      | some e => s.answer e
      | none =>
        let keys := l.map Place.key
        let rest := dropSubs s.subscriptions id keys
        let put (l : List Subscription) : State :=
          (({ s with subscriptions := l } : State).wr Obj.SUBSCRIPTIONS (l.length : Nat)).answer .ok
        if condition = 0 then put rest
        else if 3 < condition || interval < 10 || 60000 < interval then s.answer .badRange
        else if 512 < rest.length + l.length || 64 < (rest.filter fun x => x.peer = id).length + l.length then s.answer (.busy 0)
        else
          put (rest ++ l.map fun p =>
            ({ peer := id, key := p.key, condition := condition, intervalMs := interval, seen := s.watched p condition,
               lastSent := s.time } : Subscription))

/-- The changes of a subscription since its last NOTIFY (R486): those counted, and at least one where the value differs. -/
def State.changesOf (s : State) (p : Place) (x : Subscription) : Nat :=
  let now := s.watched p x.condition
  if x.condition = 2 then
    let d := modDiff 16 now.toNat x.seen.toNat
    if now.toNat < x.seen.toNat then d - 1 else d
  else if p.r.ty = .blob then modDiff 16 now.toNat x.seen.toNat
  else if now ≠ x.seen then max x.changes 1 else x.changes

/-- The value a NOTIFY carries, with its auxiliary word (R486, R504). -/
def State.notifyValue (s : State) (p : Place) : Bytes × Nat :=
  let v := s.result p.r p.n p.i p.t
  let aux := if p.r.result then v.generation * 65536 + v.status else if p.r.ty = .blob then s.blobRev.getD p.key 0 * 65536 else 0
  (if p.r.ty = .blob || p.r.ty = .str || p.r.ty = .domain then (s.viewBlob p 0).take 1380 else p.r.ty.encode (s.viewValue p 0), aux)

/-- A NOTIFY of the device to a peer, with the device's own SEQ for that peer (R504, R505, R508). -/
def State.sendNotify (s : State) (id : PeerId) (k : OKey) (count aux : Nat) (data : Bytes) : State :=
  let seq := s.net.notifySeq.getD id 0
  let s := s.setNet { s.net with notifySeq := s.net.notifySeq.put id (wrapInc 16 seq) }
  let addr := addressOf k.area k.idx k.sub
  match id.source with
  | .can bus node =>
    let f : ShortFrame := { priority := 3, typ := tyNotify, dest := node, src := s.rdN Obj.CAN_NODE 0 bus, seq := seq, response := false,
                            qual := decide (k.ten < 512), tenant := k.ten % 512, addr := addr, payload := data }
    s.emit (.bdaFrame id f.wire)
  | .mac _ | .udp _ _ | .relayed =>
    let session := (s.peerOf id).bind fun e => e.2.session
    let h : Header := { typ := tyNotify, response := false, qual := decide (k.ten < 512), relayed := false, tagged := false, seq := seq,
                        dest := id.path, src := s.ownPath, tenant := k.ten % 512, length := 0,
                        session := match session with | some x => x.number | none => 0, hops := 3 }
    let body := toBE 4 addr ++ toBE 2 count ++ toBE 4 aux ++ toBE 2 data.length ++ data
    s.emit (.bdaFrame id (makeFrame h body (session.map Session.key)))

/-- SUBSCRIPTION_NOTIFY: the interval of the `k`-th subscription has passed; CHANGE and RESULT send only after a change (R485, R486). -/
def execSubscriptionNotify (k : Fin 512) (s : State) : Host.Outcome State Fault Refusal :=
  .next (s.firmware fun s => match s.subscriptions[k.val]? with
    | none => s
    | some x => match placeOf x.key with
      | none => s
      | some p =>
        let count := if x.condition = 3 then 0 else s.changesOf p x
        if !s.isHwReady 9 || s.time < x.lastSent + x.intervalMs * 1000000 || (x.condition ≠ 3 && count = 0) then s
        else
          let y : Subscription := { x with seen := s.watched p x.condition, changes := 0, lastSent := s.time }
          let (data, aux) := s.notifyValue p
          ({ s with subscriptions := s.subscriptions.set k.val y } : State).sendNotify x.peer x.key (min count 65535) aux data)

/-! ### BLOCK -/

/-- A piece record for the piece cache: of the package written last, in range, and with a good check value (R530, R533). -/
def State.cachePiece (s : State) (b : Bytes) : State :=
  match s.cached with
  | none => s
  | some c =>
    let m := parseManifest c.manifest
    let k := fieldLE b 4 4
    if fieldLE b 0 4 ≠ m.packageId || c.total ≤ k || fieldLE b 8 4 ≠ pieceCrc b then s
    else
      let rest := s.net.cache.take (s.net.cache.length - 1)
      (s.setNet { s.net with cache := rest ++ [{ c with pieces := c.pieces.put k b }] }).serveTargets

/-- A piece record that a DOMAIN stream has completed reaches the object's function (R531, R533). -/
def State.streamRecord (s : State) (r : ObjRow) (b : Bytes) : State :=
  if r = Obj.PIECE_STREAM then s.pieceArrives b else if r = Obj.CACHE_STREAM then s.cachePiece b else s

/-- Whole records at the front of a stream's bytes are acted on, and the rest is kept; `fuel` exceeds the number of records (R475, R531). -/
def State.streamRecords (s : State) (r : ObjRow) : Nat → Bytes → Bytes × State
  | 0, b => (b, s)
  | fuel + 1, b => if b.length < 4112 then (b, s) else (s.streamRecord r (b.take 4112)).streamRecords r fuel (b.drop 4112)

/-- A BLOCK entry of a peer: data of the next BLOCK_SEQ is accepted, any other is not; the answer gives the highest contiguous one (R504,
R531). -/
def State.block (s : State) (who : Requester) (k area idx sub tq seq : Nat) (data : Bytes) : State :=
  s.onRequest who fun s =>
    match s.place who area idx sub tq with
    | .error e => s.answer e
    | .ok p =>
      match s.placeAccess who p true with
      | some e => s.answer e
      | none =>
        if p.r.ty ≠ .domain then s.answer .badType
        else s.guarded (if p.r = Obj.PIECE_STREAM then s.needHwReady 11 else none) fun s =>
          let key := (k, addressOf area idx sub)
          let (next, part) := (s.net.streams.find key).getD (seq, [])
          if seq ≠ next then s.answer .ok [] (wrapInc 32 (next + 2 ^ 32 - 2))
          else
            let s := s.cvBlockFrame (area * 65536 + idx) seq data
            let (rest, s) := s.streamRecords p.r 2 (part ++ data)
            (s.setNet { s.net with streams := s.net.streams.put key (wrapInc 32 seq, rest) }).answer .ok [] seq

/-! ### Arrival -/

/-- The frame is for this device: LOCAL, or its own path (R510). -/
def State.forUs (s : State) (h : Header) : Bool :=
  bit 31 h.dest || (h.dest = s.ownPath && (s.rdN Obj.DEVICE_PATH ≠ unadopted || s.rdN Obj.ROLE = 1))

/-- The level a frame acts at, with its session's key: without a session NONE; none where its tag fails (R508). -/
def State.frameLevel (s : State) (id : PeerId) (h : Header) (b : Bytes) : Option (Level × Option Bytes) :=
  if h.session = 0 then (if h.tagged then none else some (.none, none))
  else match (s.peerOf id).bind fun e => e.2.session with
    | some x => if x.number = h.session && tagOk x.key b then some (x.level, some x.key) else none
    | none => none

/-- The level a peer's record shows between requests: that of its session. -/
def State.settleLevel (s : State) (k : Nat) : State :=
  match (s.peerRec k).bind Peer.session with
  | some x => { s with peerLevel := s.peerLevel.put k x.level }
  | none => { s with peerLevel := s.peerLevel.del k }

/-- A valid frame of a session has arrived (R509). -/
def State.touchSession (s : State) (k : Nat) (h : Header) : State :=
  match s.peerRec k with
  | some p => match p.session with
    | some x => if x.number = h.session then s.setPeer k { p with session := some { x with lastAt := s.time } } else s
    | none => s
  | none => s

/-- A peer asks again: the cached response is sent again if it is still held (R505). -/
def State.resend (s : State) (id : PeerId) (k seq : Nat) : State :=
  match (s.peerRec k).bind fun p => p.cached.find? fun c => c.1 = seq with
  | some c => s.emit (.bdaFrame id c.2)
  | none => s

/-- What a request of a record number does: the body of its response, or nothing where the request is discarded. -/
abbrev Serve := Nat → Nat → Bytes → State → Option (Bytes × State)

/-- A frame of a type arrives: its tag, its sequence number, its effect and its response (R503 to R508). -/
def State.onFrame (s : State) (typ : Nat) (src : PeerSource) (b : Bytes) (f : Serve) : State :=
  let h := parseHeader b
  if !frameOk b || h.response || h.typ ≠ typ || !s.forUs h || !s.isHwReady 9 || !s.isHwReady 4 || s.hwGated 0 then s
  else
    let id : PeerId := ⟨if h.relayed then .relayed else src, h.src⟩
    match s.frameLevel id h b with
    | none => s.count Obj.TAG_FAILS
    | some (level, key) =>
      match s.takeSeq id h.seq with
      | ((.reject, _), s) => s
      | ((.duplicate, k), s) => (s.touchSession k h).resend id k h.seq
      | ((.act, k), s) =>
        let s := s.touchSession k h
        let s : State := { s with peerLevel := s.peerLevel.put k level }
        match f k (if h.qual then h.tenant else 512) (frameBody b) s with
        | none => s.settleLevel k
        | some (body, s) =>
          let out := makeFrame { h with response := true, relayed := false, hops := 3, status := 0 } body key
          ((s.settleLevel k).emit (.bdaFrame id out)).cacheResponse k h.seq out

/-! ### The short form -/

/-- A value of an object fits a short-form frame: a response's 52 bytes for a READ, a request's 56 of a fixed length for a write (R502). -/
def State.shortFits (s : State) (who : Requester) (f : ShortFrame) (tq : Nat) : Option Nat :=
  let idx := bits 23 8 f.addr
  let sub := bits 7 0 f.addr
  if 0x800 ≤ idx % 4096 then none
  else if sub = 0xFF then some 2
  else if sub = 0xFE then some 4
  else match s.place who (bits 27 24 f.addr) idx sub tq with
    | .error _ => some 0
    | .ok p =>
      match p.r.ty.size with
      | some k => some k
      | none =>
        let size := blobMax p.r
        let fixed : Bool := size ≤ 56 && blobSizeOk p.r size && !blobSizeOk p.r (size - 1)
        if p.r.ty = .domain then none
        else if f.typ = tyRead then (if (s.viewBlob p 0).length ≤ 52 then some 52 else none)
        else if p.r.ty = .blob && fixed then some size
        else none

/-- The one request of a short-form frame (R502). -/
def State.shortRequest (s : State) (who : Requester) (id : PeerId) (f : ShortFrame) (env : WriteEnv) : Option Reply × State :=
  let area := bits 27 24 f.addr
  let idx := bits 23 8 f.addr
  let sub := bits 7 0 f.addr
  let tq := if f.qual then f.tenant else 512
  s.capture fun s =>
    match s.shortFits who f tq with
    | none => s.wrongType who area idx sub tq (f.typ = tyWrite || f.typ = tyCommit)
    | some size =>
      let e : Entry := { area := area, idx := idx, sub := sub, data := slice f.payload 0 size }
      if f.typ = tyRead then s.dictRead who area idx sub tq { limit := 52 }
      else if f.typ = tyWrite then s.dictWrite who area idx sub tq {} e.data env
      else if f.typ = tyCommit then s.commitEntry who tq {} env e
      else s.subscribe who id area idx sub tq (byteAt f.payload 0) (fieldBE f.payload 2 4)

/-- The level of a node of a CAN bus: node 0 BASIC, any other `CAN_PEER_LEVEL` (R502). -/
def State.canLevel (s : State) (bus node : Nat) : Level :=
  if node = 0 || s.rdN Obj.CAN_PEER_LEVEL 0 bus = 1 then .basic else .none

/-- A short-form frame of a type arrives on a CAN bus (R502, R505). -/
def State.onShort (s : State) (typ bus id_ : Nat) (data : Bytes) (env : WriteEnv) : State :=
  let f := parseShort id_ data
  if data.length ≠ 64 || f.response || f.typ ≠ typ || f.dest ≠ s.rdN Obj.CAN_NODE 0 bus || !s.isHwReady 10 || !s.isHwReady 4 || s.hwGated 0 || s.hwGated 2
  then s
  else
    let id : PeerId := ⟨.can bus f.src, 0⟩
    match s.takeSeq id f.seq with
    | ((.reject, _), s) => s
    | ((.duplicate, k), s) => s.resend id k f.seq
    | ((.act, k), s) =>
      let s : State := { s with peerLevel := s.peerLevel.put k (s.canLevel bus f.src) }
      match s.shortRequest (.peer k) id f env with
      | (none, s) => s
      | (some r, s) =>
        let out := ({ f with priority := 2, dest := f.src, src := f.dest, response := true,
                             payload := toBE 2 r.status ++ toBE 2 r.detail ++ r.data } : ShortFrame).wire
        (s.emit (.bdaFrame id out)).cacheResponse k f.seq out

/-! ### Commands -/

/-- A frame of a type, in either form; the short form comes from a CAN node. -/
def State.onBda (s : State) (typ : Nat) (src : PeerSource) (frame : BdaFrame) (env : WriteEnv) (f : Serve) : State :=
  match frame, src with
  | .wide b, .mac _ | .wide b, .udp _ _ | .wide b, .relayed => s.onFrame typ src b f
  | .short id data, .can bus _ => if typ = tyBlock then s else s.onShort typ bus id data env
  | .wide _, .can _ _ | .short _ _, .mac _ | .short _ _, .udp _ _ | .short _ _, .relayed => s

/-- BDA_READ (R478, R504). -/
def execBdaRead (src : PeerSource) (frame : BdaFrame) (s : State) : Host.Outcome State Fault Refusal :=
  .next (s.onBda tyRead src frame {} fun k tq body s => s.transfer (.peer k) tyRead tq 1386 {} body)

/-- BDA_WRITE (R464, R504). -/
def execBdaWrite (src : PeerSource) (frame : BdaFrame) (env : WriteEnv) (s : State) : Host.Outcome State Fault Refusal :=
  .next (s.onBda tyWrite src frame env fun k tq body s => s.transfer (.peer k) tyWrite tq 1386 env body)

/-- BDA_COMMIT (R467). -/
def execBdaCommit (src : PeerSource) (frame : BdaFrame) (s : State) : Host.Outcome State Fault Refusal :=
  .next (s.onBda tyCommit src frame {} fun k tq body s => s.transfer (.peer k) tyCommit tq 1386 {} body)

/-- The entries of a NOTIFY transfer in order; none where the body breaks the layout of R504. -/
def State.notifyEntries (s : State) (k : Nat) (id : PeerId) (tq : Nat) : Nat → Bytes → Option (Bytes × State)
  | _, [] => some ([], s)
  | 0, _ :: _ => none
  | fuel + 1, b =>
    if b.length < 10 then none
    else
      let a := fieldBE b 0 4
      let (r, s) := s.capture fun s => s.subscribe (.peer k) id (bits 27 24 a) (bits 23 8 a) (bits 7 0 a) tq (byteAt b 4) (fieldBE b 6 4)
      (s.notifyEntries k id tq fuel (b.drop 10)).map fun (out, s) =>
        ((match r with | some r => r.encode (a % 2 ^ 28) | none => []) ++ out, s)

/-- BDA_NOTIFY (R485, R504). -/
def execBdaNotify (src : PeerSource) (frame : BdaFrame) (s : State) : Host.Outcome State Fault Refusal :=
  .next (s.onBda tyNotify src frame {} fun k tq body s =>
    match s.peerRec k with
    | some p => if body.isEmpty then none else s.notifyEntries k p.id tq 64 body
    | none => none)

/-- The entries of a BLOCK transfer in order; none where the body breaks the layout of R504. -/
def State.blockEntries (s : State) (k tq : Nat) : Nat → Bytes → Option (Bytes × State)
  | _, [] => some ([], s)
  | 0, _ :: _ => none
  | fuel + 1, b =>
    let a := fieldBE b 0 4
    let len := fieldBE b 8 2
    if b.length < 10 + len then none
    else
      let (r, s) := s.capture fun s =>
        s.block (.peer k) k (bits 27 24 a) (bits 23 8 a) (bits 7 0 a) tq (fieldBE b 4 4) (slice b 10 len)
      (s.blockEntries k tq fuel (b.drop (10 + len))).map fun (out, s) =>
        ((match r with | some r => r.encode (a % 2 ^ 28) | none => []) ++ out, s)

/-- BDA_BLOCK (R504, R531). -/
def execBdaBlock (src : PeerSource) (frame : BdaFrame) (s : State) : Host.Outcome State Fault Refusal :=
  .next (s.onBda tyBlock src frame {} fun k tq body s => if body.isEmpty then none else s.blockEntries k tq 64 body)

end Sys2Proof.Machine
end

