-- ==== Sys2Proof/Machine/Mailbox.lean ====
section
/-! DEFINITION. The mailboxes of the tenants and of the host (R24, R362, R363, R372, R375). -/
namespace Sys2Proof.Machine

/-- The mailbox of a path. -/
def State.mbox (s : State) : MbPath → Mailbox
  | .tenant _ t => (s.slc t).mailbox
  | .host p => (s.prt p).mailbox

/-- The mailbox of a path replaced. -/
def State.setMbox (s : State) (p : MbPath) (m : Mailbox) : State :=
  match p with
  | .tenant _ t => s.setSlc t { s.slc t with mailbox := m }
  | .host p => s.setPrt p { s.prt p with mailbox := m }

/-- A request waits or is being answered: MB_BUSY (R363). -/
def Mailbox.busy (m : Mailbox) : Bool := m.request.isSome || m.reply.isSome

/-- `SLICE_STATUS` of a slice's page (R363). -/
def State.sliceStatus (s : State) (t : Nat) : Nat :=
  let m := (s.slc t).mailbox
  s.rdN Obj.SLICE_STATIONS 0 0 t * 2 ^ 24 + s.rdN Obj.SLICE_CLASS 0 0 t * 2 ^ 8 + (if m.busy then 2 ^ 7 else 0)
    + (if m.done then 2 ^ 6 else 0) + s.sliceState t

/-- What a 32-bit read of a tenant's doorbell page at an offset returns: 0 for reserved and write-only locations, and from a page that is
inert (R362 to R364). -/
def State.pageRead (s : State) (p t off : Nat) : Nat :=
  let m := (s.slc t).mailbox
  if s.pageWrite p t = .inert then 0
  else if 0x080 ≤ off && off < 0x100 then (s.ring t ((off - 0x080) / 16) (off % 16 / 4)).compHead
  else if off = 0x184 then (s.slc t).noteLand.head
  else if off = 0x180 then (s.slc t).touchLand.head
  else if off = 0x188 then s.sliceStatus t
  else if off = 0x194 then m.result * 2 ^ 16 + m.response.length
  else if 0x800 ≤ off && off < 0xC00 then ofLE (slice m.response (off - 0x800) 4)
  else 0

/-- Who sends through a mailbox. -/
def MbPath.who : MbPath → Requester
  | .tenant _ t => .tenant t
  | .host p => .host p

/-- A write of the page's mailbox fields: a tenant's page takes it while the slice is ACTIVE or QUARANTINED, and it is inert on the wrong port
or while the slice is UNBOUND; what meets the headgate's clock gated is discarded (R364, R375, R587, R594). -/
def State.onMbox (s : State) (p : MbPath) (f : State → State) : State :=
  if s.hwGated 2 then s else
  match p with
  | .host _ => f s
  | .tenant port t =>
    match s.pageWrite port t with
    | .inert => s.count Obj.INERT_WRITES 0 port
    | .taken => f s
    | .discarded => if s.sliceState t = slQuarantined then f s else s

/-- The first status other than OK among the entries of a response; `fuel` bounds the entries (R461). -/
def firstError : Nat → Bytes → Nat
  | 0, _ => 0
  | fuel + 1, b =>
    if b.length < 14 then 0
    else if fieldBE b 4 2 ≠ 0 then fieldBE b 4 2
    else firstError fuel (b.drop (14 + fieldBE b 12 2))

/-- The request of a mailbox is carried out; its response is still to be written (R372). A NOTIFY is refused with NO_RIGHT. -/
def State.serveMbox (s : State) (p : MbPath) : State :=
  match (s.mbox p).request with
  | none => s
  | some q =>
    let (out, s) := if q.typ = tyNotify then ((7, ([] : Bytes)), s)
      else match s.transfer p.who q.typ q.tq 1010 q.env q.body with
        | none => ((5, []), s)
        | some (b, s) => ((firstError 64 b, b.take 1024), s)
    s.setMbox p { s.mbox p with request := none, reply := some out }

/-- MB_SEND: a request of 1 to 1,024 bytes with its type; the qualifier counts for the host alone (R8, R372, R456). It is carried out where
the dictionary is served, and waits in the mailbox otherwise (R24). -/
def execMbSend (path : MbPath) (typ : Fin 16) (tq : Option (Fin 512)) (body : Bytes) (env : WriteEnv) (s : State) :
    Host.Outcome State Fault Refusal :=
  .next (s.onMbox path fun s =>
    let m := s.mbox path
    if m.busy || body.isEmpty || 1024 < body.length then s
    else
      let q : MbRequest := ⟨typ, match tq with | some t => t | none => 512, body, env⟩
      let s := s.setMbox path { m with request := some q }
      if s.served path.who then s.serveMbox path else s)

/-- MB_ACK clears MB_DONE (R362, R363). -/
def execMbAck (path : MbPath) (s : State) : Host.Outcome State Fault Refusal :=
  .next (s.onMbox path fun s => s.setMbox path { s.mbox path with done := false })

/-- MB_RESPONSE_READY: the response is written, MB_DONE set, and a tenant's mailbox vector raised (R371, R372). -/
def execMbResponseReady (path : MbPath) (s : State) : Host.Outcome State Fault Refusal :=
  .next (
    let m := s.mbox path
    match m.reply with
    | none => s
    | some (r, b) =>
      let s := s.setMbox path { m with reply := none, done := true, result := r, response := b }
      match path with
      | .tenant _ t => s.irqMapped t 2
      | .host _ => s)

/-- Requests that waited in mailboxes are carried out once the dictionary is served (R24). -/
def State.serveHeld (s : State) : State :=
  let s := s.each (s.ports.map fun e => e.1) fun s p => s.serveMbox (.host (ix 2 p))
  s.each (s.slices.map fun e => e.1) fun s t => s.serveMbox (.tenant 0 (ix 512 t))

end Sys2Proof.Machine
end

