-- ==== Sys2Proof/Machine/Bringup.lean ====
section
/-! DEFINITION. The start of the management firmware, and the event queues as they fill and are drained into the log rings (R24, R57, R487,
R491, R492, R538, R539, R546, R580, R606 to R613, R621, R622), and the clocks of the headworks (R587). -/
namespace Sys2Proof.Machine

/-! ### Settings at the start -/

/-- A saved object differs from what the settings region gives it (R492). -/
def State.unsaved (s : State) : Bool :=
  let kept (k : OKey) : Int :=
    match s.settings.flash.find k.group with
    | some g => ((g.vals.find? fun v => v.1 = k).map (·.2)).getD k.default
    | none => k.default
  let keptBlob (k : OKey) : Bytes :=
    match s.settings.flash.find k.group with
    | some g => ((g.blobs.find? fun v => v.1 = k).map (·.2)).getD k.defaultBlob
    | none => k.defaultBlob
  (s.regs.any fun e => s.isSavedNow e.1 && e.2 ≠ kept e.1) || (s.blobs.any fun e => s.isSavedNow e.1 && e.2 ≠ keptBlob e.1)
    || s.settings.flash.any fun g =>
      (g.2.vals.any fun v => !s.isSavedNow v.1 || ((s.regs.find v.1).isNone && v.2 ≠ v.1.default))
        || g.2.blobs.any fun v => (s.blobs.find v.1).isNone && v.2 ≠ v.1.defaultBlob

/-- The groups of areas 0 to 7 take their saved values, and what follows from them is brought up to date (R491, R572). -/
def State.loadHeadworks (s : State) : State :=
  let s := s.loadGroups 0 128
  let s : State := { s with rst := { s.rst with settingsDue := false } }
  let s := s.each tenants fun s t => if s.sliceEnabled t then s.syncSlice t else s
  let s := (s.each (List.range 8) fun s n => (s.syncZones n).syncSecure n).syncPorts
  (s.syncRole).holdCeilings

/-- The settings as the management firmware finds them: after a COLD or WARM reset they are loaded, else an object that differs from the
flash is to be saved (R490 to R492). -/
def State.settleSettings (s : State) : State :=
  if s.rst.settingsDue then s.loadHeadworks.wr Obj.SETTINGS_STATE 1
  else if s.unsaved then
    let c := s.settings
    ({ s with settings := { c with firstChange := some (c.firstChange.getD s.time), lastChange := s.time } } : State).wr Obj.SETTINGS_STATE 2
  else ({ s with settings := { s.settings with firstChange := none } } : State).wr Obj.SETTINGS_STATE 1

/-! ### Handover -/

/-- A section of the handover record is taken over, by its type: 2 the peers without their sessions, 4 the alarms, 5 the members (R538,
R539). Alarms that have entered the queue since the release stay behind those of the record. -/
def State.takeSection (s : State) (h : Handover) (typ : Nat) : State :=
  if typ = 2 then
    s.setNet { s.net with peers := h.peers.map fun e => (e.1, { e.2 with session := none, challenge := none }) }
  else if typ = 4 then
    let q := s.alarmQ.items.foldl (fun (q : EvQueue Alarm) e => (q.putLarge 1024 e.2).1) h.queue
    let a := { s.alarms with windows := h.windows ++ s.alarms.windows, nextSeq := max h.nextSeq s.alarms.nextSeq }
    (({ s with alarmQ := q, alarms := a } : State).wr Obj.ALARM_ITEMS (q.size : Nat)).alarmSummary
  else if typ = 5 then
    s.each h.members fun s m =>
      (s.wr Obj.MEMBER_STATE (m.2.1 : Nat) 0 m.1).setNet { s.net with unanswered := s.net.unanswered.put m.1 m.2.2 }
  else s

/-- The handover record is read once: `lost` where its check value fails or its format is unknown, `skipped` the section types that the
firmware does not know (R539). -/
def State.readHandover (s : State) (lost : Bool) (skipped : List Nat) : State :=
  match s.upd.handover with
  | none => s
  | some h =>
    let s := s.setUpd { s.upd with handover := none }
    if lost then s.toHwLog (s.mkRec 0x8006 0 noStation noTenant [(3, 4), (0, 8)])
    else
      let s := s.each [2, 4, 5] fun s k => if skipped.contains k then s else s.takeSection h k
      s.each skipped fun s k => s.toHwLog (s.mkRec 0x8006 0 noStation noTenant [(5, 4), (k, 8)])

/-! ### The firmware's start -/

/-- The headworks bits that the start sets: MGMT, DICTIONARY, SETTINGS, and TRANSLATOR, BDA, CAN and UPDATE, which the spec lets follow at
once (R494, R580). -/
def mgmtReadyBits : List Nat := [3, 4, 16, 5, 9, 10, 11]

/-- What the management firmware does at its start, before it answers requests (R487, R491, R492, R511, R519, R539, R546, R578). -/
def State.mgmtStart (s : State) (lost : Bool) (skipped fails : List Nat) : State :=
  let s := s.settleSettings.reportResets
  let s := (s.count Obj.MGMT_BOOTS).each mgmtReadyBits fun s b => s.hwReady b true
  let bound := memberAddrs.filter fun a => s.rdN Obj.MEMBER_SERIAL 0 a ≠ 0
  let s := s.each bound fun s a => s.wr Obj.MEMBER_STATE (mbAdopting : Nat) 0 a
  let s := if s.isMember then s.setNet { s.net with beatAt := some s.time } else s
  ((s.readHandover lost skipped).programFuses s.upd.fusesDue fails).nextErase

/-- MGMT_READY, in SERVICE and TEST, and for the recovery loader in RECOVERY: the firmware has booted, and held mailbox requests are
answered. `lost` and `skipped` say how it reads a handover record, `fails` which fuse programs fail again (R24, R28, R580). -/
def execMgmtReady (lost : Bool) (skipped fails : List Nat) (s : State) : Host.Outcome State Fault Refusal :=
  .next (s.firmware fun s =>
    if s.rst.mgmtEnded && !s.rst.inReset.contains .mgmt && !s.isHwReady 4 then (s.mgmtStart lost skipped fails).serveHeld else s)

/-! ### Clocks of the headworks -/

/-- HW_PLL_LOCK_LOST: management 0, secure 1 and fabric 2 are gated and relocked. What lies in the crossings of the gated domains is
discarded: with the fabric's, the descriptors on their way to the stations; runs of C0 to C15 end with SOURCE (R587, R594, R595, R604). -/
def execHwPllLockLost (k : Fin 3) (s : State) : Host.Outcome State Fault Refusal :=
  .next (
    if !bit k (s.rdN Obj.HW_PLL_LOCKED) then s
    else
      let s := (s.lockPll k false).count Obj.HW_PLL_LOCK_LOSSES
      let s : State := { s with rst := { s.rst with relocks := s.rst.relocks.put k [] } }
      if k = 2 then
        let s := s.each (List.range 16) fun s u => s.cvSourceLost u
        ({ s with ingress := [] } : State).dropCrossings fun x => match x with
          | .ringTail .. | .compHead .. | .touchHead .. | .noteHead .. | .sliceFlr _ => true
          | .hpdIrq _ | .endEvent _ | .hotReset _ | .portFlr _ | .watchdog _ => false
      else if k = 0 then s.dropCrossings fun x => x = .watchdog 4
      else s.dropCrossings fun x => x = .watchdog 5)

/-- The clocks of a relocked PLL's domains run again: requests that waited in mailboxes are carried out, and fetching goes on (R24, R587). -/
def State.ungateHw (s : State) (k : Nat) : State :=
  let s := s.lockPll k true
  let s : State := { s with rst := { s.rst with relocks := s.rst.relocks.del k } }
  if k = 0 && s.isHwReady 4 then s.serveHeld
  else if k = 2 then s.each (List.range 8) fun s n => s.fetch n
  else s

/-- HW_PLL_RELOCKED: a relock succeeds, or fails; the third failure within 1 ms applies source 2 (R587). -/
def execHwPllRelocked (k : Fin 3) (ok : Bool) (s : State) : Host.Outcome State Fault Refusal :=
  .next (
    if bit k (s.rdN Obj.HW_PLL_LOCKED) then s
    else if ok then s.ungateHw k
    else
      let l := (s.rst.relocks.getD k.val [] ++ [s.time]).filter fun t => s.time < t + 1000000
      if l.length < 3 then { s with rst := { s.rst with relocks := s.rst.relocks.put k l } }
      else
        let s : State := { s with rst := { s.rst with relocks := s.rst.relocks.del k } }
        let s := s.wr Obj.HW_PLL_FAILED ((setBit k (s.rdN Obj.HW_PLL_FAILED) : Nat))
        s.assertReset (s.request 2 none none))

/-! ### Queues and log rings -/

/-- QUEUE_ITEM_ARRIVAL: an item reaches its queue; where the queue is full an item is lost and counted, and its banks may swap (R606 to
R612). -/
def execQueueItemArrival (item : QueueItem) (s : State) : Host.Outcome State Fault Refusal :=
  .next (match item with
    | .tenantNote t r => s.toTenant t r
    | .tenantTouch t r => s.touchToTenant t r
    | .enclaveNote e r => s.toEnclave e r
    | .enclaveTouch e r => s.touchToEnclave e r
    | .stationLog n r => s.toStationLog n r
    | .hwLog r => s.toHwLog r
    | .alarm a => if s.hwQueuesReady then s.enterAlarm a else s
    | .haptic n t => s.hapQueue n t)

/-- Entries of a log ring (R621). -/
def ringEntries : Nat := 1024

/-- A record is appended to a log ring, over the oldest one where the ring is full (R621). -/
def State.appendLog (s : State) (key : Nat) (r : Rec) : State :=
  let l := s.logRings.getD key []
  let full : Bool := ringEntries ≤ l.length
  let s : State := { s with logRings := s.logRings.put key ((if full then l.drop 1 else l) ++ [r]) }
  if key = 8 then
    let s := s.advance Obj.HW_LOG_SEQ
    if full then s.count Obj.HW_LOG_OVERFLOWS else s
  else
    let s := s.advance Obj.STATION_LOG_SEQ key
    if full then s.count Obj.STATION_LOG_OVERFLOWS key else s

/-- The next record of a log queue goes to its ring: of the headworks, or of a station (R610, R621). -/
def State.drainOne (s : State) (station : Option Nat) : State :=
  match station with
  | none =>
    (match s.hwLogQ.takeLarge with
    | (none, _) => s
    | (some r, q) => (({ s with hwLogQ := q } : State).wr Obj.HW_LOG_ITEMS (q.size : Nat)).appendLog 8 r)
  | some n =>
    (match (s.stationLogQ.getD n {}).takeLarge with
    | (none, _) => s
    | (some r, q) =>
      (({ s with stationLogQ := s.stationLogQ.put n q } : State).wr Obj.STATION_LOG_ITEMS (q.size : Nat) 0 n).appendLog n r)

/-- LOG_DRAIN: up to `count` records, once DICTIONARY is set (R621, R622). -/
def execLogDrain (station : Option (Fin 8)) (count : Nat) (s : State) : Host.Outcome State Fault Refusal :=
  .next (s.firmware fun s =>
    if s.isHwReady 4 then s.each (List.range (min count 4096)) fun s _ => s.drainOne (station.map (·.val)) else s)

end Sys2Proof.Machine
end

