-- ==== Sys2Proof/Machine/EnclaveCalls.lean ====
section
/-! DEFINITION. The calls of an enclave besides those of the lock cycle and REBIND: dictionary access, commits, its queues, messages and
sealed data (R395, R396, R398, R401). -/
namespace Sys2Proof.Machine

/-- The block a place belongs to, where it belongs to one. -/
def Place.block (p : Place) : Option Block :=
  match p.r.need p.i p.j with
  | .block k i | .blockOrManager k i => some ⟨p.n, k, i⟩
  | .right _ | .stationSet | .commit | .anyRegion | .own | .manager | .audioCommit | .sponsor _ | .anyone | .openLevel => none

/-- The answer of the dictionary as the answer of a call: NO_RIGHT under its own name (R401). -/
def callResultOf (r : Option Reply) : CallResult :=
  match r with
  | none => .empty
  | some x => if x.status = 0 then .done x.data else if x.status = 7 then .noRight else .status x.status x.detail x.data

/-- A dictionary access of an enclave: NO_GRANT where the object's block is not granted, else what the dictionary answers its holder
(R401). -/
def State.callAccess (s : State) (e area idx sub : Nat) (f : State → State) : State :=
  let denied : Bool := match s.place (.enclave (ix 64 e)) area idx sub 512 with
    | .ok p => (match p.block with
        | some b => !s.granted e b
        | none => false)
    | .error _ => false
  if denied then s.reply e .noGrant
  else
    let (r, s) := s.capture f
    s.reply e (callResultOf r)

/-- The lost-item counter of the enclave's own queues that an index names (R612, R616). -/
def ownLost (e area idx sub : Nat) : Option ObjRow :=
  if area ≠ 7 || idx ≠ 0x1300 + e then none
  else if sub = 1 then some Obj.ENCLAVE_TOUCH_LOST
  else if sub = 2 then some Obj.ENCLAVE_NOTIFY_LOST
  else none

/-- ENCLAVE_WRITE: the objects of the blocks it holds, and the lost-item counters of its queues, which a write of 0 clears (R401, R612,
R616). -/
def execEnclaveWrite (e : Fin 64) (area : Fin 16) (idx sub : Nat) (data : Bytes) (s : State) : Host.Outcome State Fault Refusal :=
  .next (s.onCall e fun s =>
    match ownLost e area idx sub with
    | some r =>
      if data.length ≠ 2 then s.reply e (.status 5 0 [])
      else if ofBE data ≠ 0 then s.reply e (.status 6 0 [])
      else (s.wr r 0 0 e).reply e (.done [])
    | none => s.callAccess e area idx sub fun s => s.dictWrite (.enclave e) area idx sub 512 {} data {})

/-- ENCLAVE_READ (R401). -/
def execEnclaveRead (e : Fin 64) (area : Fin 16) (idx sub : Nat) (s : State) : Host.Outcome State Fault Refusal :=
  .next (s.onCall e fun s =>
    match ownLost e area idx sub with
    | some r => s.reply e (.done (r.ty.encode (s.rd r 0 e)))
    | none => s.callAccess e area idx sub fun s => s.dictRead (.enclave e) area idx sub 512 {})

/-- The blocks that the masks of a commit name. -/
def masksBlocks (n lm gm : Nat) : List Block := (maskBits 16 lm).map (⟨n, .layer, ·⟩) ++ (maskBits 32 gm).map (⟨n, .region, ·⟩)

/-- ENCLAVE_COMMIT: layer and guard sets, with the enclave as writer, armed as one pair (R401, R467). -/
def execEnclaveCommit (e : Fin 64) (n : Fin 8) (layerMask guardMask : Nat) (s : State) : Host.Outcome State Fault Refusal :=
  .next (s.onCall e fun s =>
    let who : Requester := .enclave e
    if !bit n (s.rdN Obj.GRANT_STATIONS 0 e) || !((masksBlocks n layerMask guardMask).all fun b => s.granted e b) then s.reply e .noGrant
    else if 2 ^ 17 ≤ layerMask || 2 ^ 32 ≤ guardMask then s.reply e (.status 6 0 [])
    else if layerMask ≠ 0 && !s.isStReady n 3 then s.reply e (.status 10 3 [])
    else if guardMask ≠ 0 && !s.isStReady n 4 then s.reply e (.status 10 4 [])
    else
      let tied := s.tiedRegions n who layerMask
      let (s, a) := s.layerCommit n who layerMask guardMask
      let (s, b) := s.guardCommit n who guardMask (if a then tied else 0)
      s.reply e (if a && b then .done [] else .status 14 8 []))

/-- QUEUE_READ: the next item of the enclave's touch or notification queue, as its record. The item of a message brings the message with
it, which is then taken (R396, R398, R401, R607). -/
def execQueueRead (e : Fin 64) (touch : Bool) (s : State) : Host.Outcome State Fault Refusal :=
  .next (s.onCall e fun s =>
    if touch then
      match (s.encTouchQ.getD e {}).takeSmall TouchRec.prio with
      | (none, _) => s.reply e .empty
      | (some r, q) => ({ s with encTouchQ := s.encTouchQ.put e q } : State).reply e (.done r.encode)
    else
      match (s.encNoteQ.getD e {}).takeSmall Rec.prio with
      | (none, _) => s.reply e .empty
      | (some r, q) =>
        let s : State := { s with encNoteQ := s.encNoteQ.put e q }
        if r.code = 0x001B then
          let m := ((s.ecl e).inbox).getD []
          (s.setEcl e { s.ecl e with inbox := none }).reply e (.done (r.encode ++ m))
        else s.reply e (.done r.encode))

/-- SEND: a message of 1 to 1,024 bytes completes `OUTBOX`; it also shows that the enclave has taken the sponsor's message (R398, R478). -/
def execSend (e : Fin 64) (data : Bytes) (s : State) : Host.Outcome State Fault Refusal :=
  .next (s.onCall e fun s =>
    if data.length < 1 || 1024 < data.length then s.reply e (.status 6 0 [])
    else
      let s := s.setEcl e { s.ecl e with inbox := none }
      ((s.wrBlob Obj.OUTBOX data 0 e).completeResult Obj.OUTBOX 0 0 e).reply e (.done []))

/-- The sealing key of an enclave (R395). -/
def State.sealKey (s : State) (e : Nat) : Bytes := Config.hkdf Config.rootKey (s.blob Obj.ENCLAVE_IDENTITY 0 e)

/-- SEAL: data encrypted under the identity's key, with its nonce of 12 bytes in front (R395). -/
def execSeal (e : Fin 64) (data : Bytes) (s : State) : Host.Outcome State Fault Refusal :=
  .next (s.onCall e fun s =>
    let (nonce, s) := s.drawBytes 12
    s.reply e (.done (nonce ++ Config.aesSeal (s.sealKey e) nonce data)))

/-- UNSEAL: the data, or an empty answer where they were not sealed for this identity on this device (R395). -/
def execUnseal (e : Fin 64) (data : Bytes) (s : State) : Host.Outcome State Fault Refusal :=
  .next (s.onCall e fun s =>
    match Config.aesUnseal (s.sealKey e) data with
    | some b => s.reply e (.done b)
    | none => s.reply e .empty)

end Sys2Proof.Machine
end

