-- ==== Sys2Proof/Machine/Frame.lean ====
section
/-! DEFINITION. The line and frame events of the timing generator with what hangs on them in other functions (R86, R182, R187, R190,
R258). -/
namespace Sys2Proof.Machine

/-- FRAME_BOUNDARY: the generator's own effect, the late layers, and, at the first boundary of a new timing, the touch plan. At the boundary
at which a mode change stops video no frame begins, and jobs that missed it take the one it publishes (R86, R94 to R96, R190, R215, R258). -/
def execFrameBoundary (n : Fin 8) (s : State) : Host.Outcome State Fault Refusal :=
  .next (
    if !s.boundaryFalls n then s
    else
      let s := (s.frameBoundary n).lateLayers n
      if (s.dsp n).modeHeld then s.retarget n
      else if (s.dsp n).newTiming then (s.setDsp n { s.dsp n with newTiming := false }).touchPlan n else s)

/-- LINE_START: `room` tells that the write-back path has room for the line. After the last active line the guard engine counts the
frame, and a region whose run has reached the limit escalates (R180 to R182, R187). -/
def execLineStart (n : Fin 8) (room : Bool) (s : State) : Host.Outcome State Fault Refusal :=
  .next (
    let (s, last) := s.lineStart n room
    if last then
      let (s, e) := s.endGuardFrame n
      match e with
      | some g => s.escalate n g
      | none => s
    else s)

end Sys2Proof.Machine
end

