-- ==== Sys2Proof/Machine/Dispatch.lean ====
section
/-! DEFINITION. One arm for each command: its meaning, or its rejection by name. -/
namespace Sys2Proof.Machine

def exec (i : Instr) (s : State) : Host.Outcome State Fault Refusal :=
  match i with
  | .vaonLost => Sys2Proof.Machine.execVaonLost s
  | .porstNLevel high => Sys2Proof.Machine.execPorstNLevel high s
  | .resetNLevel high => Sys2Proof.Machine.execResetNLevel high s
  | .brownOut vbulk vio18 vio33 => Sys2Proof.Machine.execBrownOut vbulk vio18 vio33 s
  | .thermalTrip sensors => Sys2Proof.Machine.execThermalTrip sensors s
  | .referenceLost lost => Sys2Proof.Machine.execReferenceLost lost s
  | .mgmtWatchdogExpiry => Sys2Proof.Machine.execMgmtWatchdogExpiry s
  | .stationWatchdogExpiry n => Sys2Proof.Machine.execStationWatchdogExpiry n s
  | .secureWatchdogExpiry => Sys2Proof.Machine.execSecureWatchdogExpiry s
  | .releaseBegin strap => Sys2Proof.Machine.execReleaseBegin strap s
  | .releaseGapElapsed => Sys2Proof.Machine.execReleaseGapElapsed s
  | .releaseStepEnd => Sys2Proof.Machine.execReleaseStepEnd s
  | .trimLoadDone image => Sys2Proof.Machine.execTrimLoadDone image s
  | .bootRomMgmtAcceptance image trial => Sys2Proof.Machine.execBootRomMgmtAcceptance image trial s
  | .heldResetApply => Sys2Proof.Machine.execHeldResetApply s
  | .eraseSuspendDone => Sys2Proof.Machine.execEraseSuspendDone s
  | .eraseResume => Sys2Proof.Machine.execEraseResume s
  | .hwPllLockLost k => Sys2Proof.Machine.execHwPllLockLost k s
  | .hwPllRelocked k ok => Sys2Proof.Machine.execHwPllRelocked k ok s
  | .deviceRequestNone who => Sys2Proof.Machine.execDeviceRequestNone who s
  | .deviceRequestRecovery who => Sys2Proof.Machine.execDeviceRequestRecovery who s
  | .deviceRequestLeaveRecovery who => Sys2Proof.Machine.execDeviceRequestLeaveRecovery who s
  | .resetRequestCold who => Sys2Proof.Machine.execResetRequestCold who s
  | .resetRequestWarm who => Sys2Proof.Machine.execResetRequestWarm who s
  | .resetRequestMgmt who => Sys2Proof.Machine.execResetRequestMgmt who s
  | .resetRequestSec who => Sys2Proof.Machine.execResetRequestSec who s
  | .resetRequestPort who p => Sys2Proof.Machine.execResetRequestPort who p s
  | .resetRequestStation who n => Sys2Proof.Machine.execResetRequestStation who n s
  | .resetRequestApply => Sys2Proof.Machine.execResetRequestApply s
  | .stationReset who n v => Sys2Proof.Machine.execStationReset who n v s
  | .functionGateTouch who n on => Sys2Proof.Machine.execFunctionGateTouch who n on s
  | .functionGateHaptic who n on => Sys2Proof.Machine.execFunctionGateHaptic who n on s
  | .functionGateAudio who n on => Sys2Proof.Machine.execFunctionGateAudio who n on s
  | .fuseMapProgram who data => Sys2Proof.Machine.execFuseMapProgram who data s
  | .settingsLoadStation => Sys2Proof.Machine.execSettingsLoadStation s
  | .stnImageLoad digest => Sys2Proof.Machine.execStnImageLoad digest s
  | .stationTargetOff who n => Sys2Proof.Machine.execStationTargetOff who n s
  | .stationTargetRunning who n => Sys2Proof.Machine.execStationTargetRunning who n s
  | .stationTargetSleep who n => Sys2Proof.Machine.execStationTargetSleep who n s
  | .stationStartupDone n imageOk => Sys2Proof.Machine.execStationStartupDone n imageOk s
  | .sleepEntryDone n => Sys2Proof.Machine.execSleepEntryDone n s
  | .wakeDone n => Sys2Proof.Machine.execWakeDone n s
  | .edgeLinkLost n => Sys2Proof.Machine.execEdgeLinkLost n s
  | .pllLockLost n k => Sys2Proof.Machine.execPllLockLost n k s
  | .ringTailWrite p t n q v => Sys2Proof.Machine.execRingTailWrite p t n q v s
  | .compHeadWrite p t n q v => Sys2Proof.Machine.execCompHeadWrite p t n q v s
  | .descriptorFetched t n q data => Sys2Proof.Machine.execDescriptorFetched t n q data s
  | .ringReadFailed t n q cause => Sys2Proof.Machine.execRingReadFailed t n q cause s
  | .ringEnable who t n q v => Sys2Proof.Machine.execRingEnable who t n q v s
  | .jobTake n => Sys2Proof.Machine.execJobTake n s
  | .jobNop n key => Sys2Proof.Machine.execJobNop n key s
  | .jobRender n key => Sys2Proof.Machine.execJobRender n key s
  | .jobCompute n key d => Sys2Proof.Machine.execJobCompute n key d s
  | .jobPipelineLoad n key r => Sys2Proof.Machine.execJobPipelineLoad n key r s
  | .jobPipelineDrop n key handle => Sys2Proof.Machine.execJobPipelineDrop n key handle s
  | .fenceWaitSatisfied n key => Sys2Proof.Machine.execFenceWaitSatisfied n key s
  | .drawListEnd n key => Sys2Proof.Machine.execDrawListEnd n key s
  | .bindPipeline n key => Sys2Proof.Machine.execBindPipeline n key s
  | .bindSet n key => Sys2Proof.Machine.execBindSet n key s
  | .pushData n key => Sys2Proof.Machine.execPushData n key s
  | .bindVertex n key => Sys2Proof.Machine.execBindVertex n key s
  | .bindIndex n key => Sys2Proof.Machine.execBindIndex n key s
  | .draw n key => Sys2Proof.Machine.execDraw n key s
  | .drawIndexed n key => Sys2Proof.Machine.execDrawIndexed n key s
  | .drawIndirect n key => Sys2Proof.Machine.execDrawIndirect n key s
  | .setViewport n key => Sys2Proof.Machine.execSetViewport n key s
  | .setScissor n key => Sys2Proof.Machine.execSetScissor n key s
  | .unitComplete n core k r => Sys2Proof.Machine.execUnitComplete n core k r s
  | .deadlinePoint n key => Sys2Proof.Machine.execDeadlinePoint n key s
  | .contextSaveDone n core context => Sys2Proof.Machine.execContextSaveDone n core context s
  | .tileYieldLimit n core => Sys2Proof.Machine.execTileYieldLimit n core s
  | .contextRestoreDone n core => Sys2Proof.Machine.execContextRestoreDone n core s
  | .jobAccessFault n key addr len write => Sys2Proof.Machine.execJobAccessFault n key addr len write s
  | .jobTimeLimit n key => Sys2Proof.Machine.execJobTimeLimit n key s
  | .jobComplete n key => Sys2Proof.Machine.execJobComplete n key s
  | .translationStart => Sys2Proof.Machine.execTranslationStart s
  | .translationComplete r => Sys2Proof.Machine.execTranslationComplete r s
  | .pipelineDropFree n t handle => Sys2Proof.Machine.execPipelineDropFree n t handle s
  | .retranslationSwap n t handle => Sys2Proof.Machine.execRetranslationSwap n t handle s
  | .layerCommit via n mask => Sys2Proof.Machine.execLayerCommit via n mask s
  | .guardCommit via n mask => Sys2Proof.Machine.execGuardCommit via n mask s
  | .frameBoundary n => Sys2Proof.Machine.execFrameBoundary n s
  | .boundaryLatch n => Sys2Proof.Machine.execBoundaryLatch n s
  | .fixPoint n => Sys2Proof.Machine.execFixPoint n s
  | .composeLine n parity => Sys2Proof.Machine.execComposeLine n parity s
  | .layerFetchComplete n l addr len forArmed => Sys2Proof.Machine.execLayerFetchComplete n l addr len forArmed s
  | .lineStart n room => Sys2Proof.Machine.execLineStart n room s
  | .freezeNominalTick n => Sys2Proof.Machine.execFreezeNominalTick n s
  | .refLoadStart who n v => Sys2Proof.Machine.execRefLoadStart who n v s
  | .refLoadDone n => Sys2Proof.Machine.execRefLoadDone n s
  | .safeStore who n offset last data => Sys2Proof.Machine.execSafeStore who n offset last data s
  | .safeStoreCheckDone n => Sys2Proof.Machine.execSafeStoreCheckDone n s
  | .modeCommit who n v => Sys2Proof.Machine.execModeCommit who n v s
  | .pixelPllLock n => Sys2Proof.Machine.execPixelPllLock n s
  | .hpdPlug n => Sys2Proof.Machine.execHpdPlug n s
  | .sinkReadDone n info => Sys2Proof.Machine.execSinkReadDone n info s
  | .auxRetryTimer n => Sys2Proof.Machine.execAuxRetryTimer n s
  | .linkTrainingDone n trains => Sys2Proof.Machine.execLinkTrainingDone n trains s
  | .linkRetryTimer n => Sys2Proof.Machine.execLinkRetryTimer n s
  | .hpdIrq n lanesLost => Sys2Proof.Machine.execHpdIrq n lanesLost s
  | .hpdUnplug n => Sys2Proof.Machine.execHpdUnplug n s
  | .psrWakeElapsed n => Sys2Proof.Machine.execPsrWakeElapsed n s
  | .panelOnDelay n => Sys2Proof.Machine.execPanelOnDelay n s
  | .blOnDelay n => Sys2Proof.Machine.execBlOnDelay n s
  | .scanPairStart n => Sys2Proof.Machine.execScanPairStart n s
  | .scanPairEnd n nodes self noiseUse noiseOther => Sys2Proof.Machine.execScanPairEnd n nodes self noiseUse noiseOther s
  | .contactHoldLimit n id => Sys2Proof.Machine.execContactHoldLimit n id s
  | .occlusionHoldExpired n => Sys2Proof.Machine.execOcclusionHoldExpired n s
  | .touchCommit who n v => Sys2Proof.Machine.execTouchCommit who n v s
  | .pumpOutOfRegulation n => Sys2Proof.Machine.execPumpOutOfRegulation n s
  | .touchHaltRetry n => Sys2Proof.Machine.execTouchHaltRetry n s
  | .pairAbandon n steps => Sys2Proof.Machine.execPairAbandon n steps s
  | .referenceCapture who n v => Sys2Proof.Machine.execReferenceCapture who n v s
  | .referenceCaptureDone n pairs => Sys2Proof.Machine.execReferenceCaptureDone n pairs s
  | .wakeScan n coarse self => Sys2Proof.Machine.execWakeScan n coarse self s
  | .sleepCalibrationPair n nodes self noiseUse noiseOther => Sys2Proof.Machine.execSleepCalibrationPair n nodes self noiseUse noiseOther s
  | .wakePendingClear who n v => Sys2Proof.Machine.execWakePendingClear who n v s
  | .tchMicrocodeSwap n digest ok => Sys2Proof.Machine.execTchMicrocodeSwap n digest ok s
  | .hapticTrigger via n tq v => Sys2Proof.Machine.execHapticTrigger via n tq v s
  | .hapticTick n => Sys2Proof.Machine.execHapticTick n s
  | .senseSample n shunt vca vcb vsense => Sys2Proof.Machine.execSenseSample n shunt vca vcb vsense s
  | .overcurrent n shunt => Sys2Proof.Machine.execOvercurrent n shunt s
  | .bridgeRangeFault n => Sys2Proof.Machine.execBridgeRangeFault n s
  | .openLoad n => Sys2Proof.Machine.execOpenLoad n s
  | .bridgeRecovered n => Sys2Proof.Machine.execBridgeRecovered n s
  | .brakeEnd n => Sys2Proof.Machine.execBrakeEnd n s
  | .driveTimeLimit n => Sys2Proof.Machine.execDriveTimeLimit n s
  | .bootstrapChargeDone n => Sys2Proof.Machine.execBootstrapChargeDone n s
  | .effectData who n e data => Sys2Proof.Machine.execEffectData who n e data s
  | .faultClear who n v => Sys2Proof.Machine.execFaultClear who n v s
  | .hapticCommit who n v => Sys2Proof.Machine.execHapticCommit who n v s
  | .hapticStreamFetch n len => Sys2Proof.Machine.execHapticStreamFetch n len s
  | .audioFrame n mic0 mic1 => Sys2Proof.Machine.execAudioFrame n mic0 mic1 s
  | .gainForcedRegime n stage => Sys2Proof.Machine.execGainForcedRegime n stage s
  | .audioCommit who n v => Sys2Proof.Machine.execAudioCommit who n v s
  | .streamStart who n k v => Sys2Proof.Machine.execStreamStart who n k v s
  | .streamStop who n k v => Sys2Proof.Machine.execStreamStop who n k v s
  | .audioStreamFetch n k => Sys2Proof.Machine.execAudioStreamFetch n k s
  | .tgStart who n g v => Sys2Proof.Machine.execTgStart who n g v s
  | .tgStop who n g v => Sys2Proof.Machine.execTgStop who n g v s
  | .toneOnElapsed n g => Sys2Proof.Machine.execToneOnElapsed n g s
  | .toneOffElapsed n g => Sys2Proof.Machine.execToneOffElapsed n g s
  | .busActivityExpired n b => Sys2Proof.Machine.execBusActivityExpired n b s
  | .loopBlockWrite n => Sys2Proof.Machine.execLoopBlockWrite n s
  | .audioStartDone n => Sys2Proof.Machine.execAudioStartDone n s
  | .audioStopDone n => Sys2Proof.Machine.execAudioStopDone n s
  | .audioClockRestart n => Sys2Proof.Machine.execAudioClockRestart n s
  | .refreshDue n => Sys2Proof.Machine.execRefreshDue n s
  | .memTempRead n temp => Sys2Proof.Machine.execMemTempRead n temp s
  | .retrainDue n => Sys2Proof.Machine.execRetrainDue n s
  | .retrainStart n => Sys2Proof.Machine.execRetrainStart n s
  | .retrainAttemptDone n ok => Sys2Proof.Machine.execRetrainAttemptDone n ok s
  | .memTrainingAttemptDone n ok capacity rate temp => Sys2Proof.Machine.execMemTrainingAttemptDone n ok capacity rate temp s
  | .memFillDone n => Sys2Proof.Machine.execMemFillDone n s
  | .memRead n addr r err => Sys2Proof.Machine.execMemRead n addr r err s
  | .requestPromotion n cls since => Sys2Proof.Machine.execRequestPromotion n cls since s
  | .memReinit who n v => Sys2Proof.Machine.execMemReinit who n v s
  | .pcieLinkTrained p speed width => Sys2Proof.Machine.execPcieLinkTrained p speed width s
  | .portRetrainTimer p => Sys2Proof.Machine.execPortRetrainTimer p s
  | .perstNLevel p high => Sys2Proof.Machine.execPerstNLevel p high s
  | .hostPortReady p => Sys2Proof.Machine.execHostPortReady p s
  | .hotReset p => Sys2Proof.Machine.execHotReset p s
  | .functionFlr p => Sys2Proof.Machine.execFunctionFlr p s
  | .sliceFlr p t v => Sys2Proof.Machine.execSliceFlr p t v s
  | .sliceReset who t v => Sys2Proof.Machine.execSliceReset who t v s
  | .sliceEnable who t v => Sys2Proof.Machine.execSliceEnable who t v s
  | .sliceResetDone t => Sys2Proof.Machine.execSliceResetDone t s
  | .rightsWrite who t n which v => Sys2Proof.Machine.execRightsWrite who t n which v s
  | .windowWrite who t n w v => Sys2Proof.Machine.execWindowWrite who t n w v s
  | .touchLandHead p t v => Sys2Proof.Machine.execTouchLandHead p t v s
  | .notifyLandHead p t v => Sys2Proof.Machine.execNotifyLandHead p t v s
  | .landingDelivery t isTouch => Sys2Proof.Machine.execLandingDelivery t isTouch s
  | .mbSend path typ tq body env => Sys2Proof.Machine.execMbSend path typ tq body env s
  | .mbAck path => Sys2Proof.Machine.execMbAck path s
  | .mbResponseReady path => Sys2Proof.Machine.execMbResponseReady path s
  | .quarantineRelease who t v => Sys2Proof.Machine.execQuarantineRelease who t v s
  | .xferHostToStation t n q data => Sys2Proof.Machine.execXferHostToStation t n q data s
  | .xferStationToHost t n q => Sys2Proof.Machine.execXferStationToHost t n q s
  | .xferFill t n q => Sys2Proof.Machine.execXferFill t n q s
  | .transferComplete t n q => Sys2Proof.Machine.execTransferComplete t n q s
  | .enclaveCreate who e => Sys2Proof.Machine.execEnclaveCreate who e s
  | .enclaveLoadDone e key => Sys2Proof.Machine.execEnclaveLoadDone e key s
  | .enclaveStart who e => Sys2Proof.Machine.execEnclaveStart who e s
  | .enclaveStop who e => Sys2Proof.Machine.execEnclaveStop who e s
  | .enclaveCommandDestroy who e => Sys2Proof.Machine.execEnclaveCommandDestroy who e s
  | .enclaveDestroy who e v => Sys2Proof.Machine.execEnclaveDestroy who e v s
  | .enclaveDestroyDone e => Sys2Proof.Machine.execEnclaveDestroyDone e s
  | .enclaveSliceExpired core next => Sys2Proof.Machine.execEnclaveSliceExpired core next s
  | .inbox who e data => Sys2Proof.Machine.execInbox who e data s
  | .acquire e n kind k => Sys2Proof.Machine.execAcquire e n kind k s
  | .release e n kind k => Sys2Proof.Machine.execRelease e n kind k s
  | .enclaveWrite e area idx sub data => Sys2Proof.Machine.execEnclaveWrite e area idx sub data s
  | .enclaveRead e area idx sub => Sys2Proof.Machine.execEnclaveRead e area idx sub s
  | .enclaveCommit e n layerMask guardMask => Sys2Proof.Machine.execEnclaveCommit e n layerMask guardMask s
  | .queueRead e touch => Sys2Proof.Machine.execQueueRead e touch s
  | .send e data => Sys2Proof.Machine.execSend e data s
  | .seal e data => Sys2Proof.Machine.execSeal e data s
  | .unseal e data => Sys2Proof.Machine.execUnseal e data s
  | .rebind e w => Sys2Proof.Machine.execRebind e w s
  | .lockDrainDone n kind k => Sys2Proof.Machine.execLockDrainDone n kind k s
  | .lockReady n kind k => Sys2Proof.Machine.execLockReady n kind k s
  | .secRestartBootDone image => Sys2Proof.Machine.execSecRestartBootDone image s
  | .secScrubDone => Sys2Proof.Machine.execSecScrubDone s
  | .attestChallenge who nonce => Sys2Proof.Machine.execAttestChallenge who nonce s
  | .attestReportDone => Sys2Proof.Machine.execAttestReportDone s
  | .debugChallenge who => Sys2Proof.Machine.execDebugChallenge who s
  | .debugResponse who data => Sys2Proof.Machine.execDebugResponse who data s
  | .debugLockoutEnd => Sys2Proof.Machine.execDebugLockoutEnd s
  | .energySample x => Sys2Proof.Machine.execEnergySample x s
  | .budgetPeriod sensors => Sys2Proof.Machine.execBudgetPeriod sensors s
  | .energySplit => Sys2Proof.Machine.execEnergySplit s
  | .stationTick n => Sys2Proof.Machine.execStationTick n s
  | .shaderPointSettled n => Sys2Proof.Machine.execShaderPointSettled n s
  | .weirCompare input => Sys2Proof.Machine.execWeirCompare input s
  | .weirClampRank x => Sys2Proof.Machine.execWeirClampRank x s
  | .weirReleaseCheck x => Sys2Proof.Machine.execWeirReleaseCheck x s
  | .weirSaturated => Sys2Proof.Machine.execWeirSaturated s
  | .deviceBudgetMw who v => Sys2Proof.Machine.execDeviceBudgetMw who v s
  | .bdaRead src frame => Sys2Proof.Machine.execBdaRead src frame s
  | .bdaWrite src frame env => Sys2Proof.Machine.execBdaWrite src frame env s
  | .bdaCommit src frame => Sys2Proof.Machine.execBdaCommit src frame s
  | .bdaNotify src frame => Sys2Proof.Machine.execBdaNotify src frame s
  | .bdaBlock src frame => Sys2Proof.Machine.execBdaBlock src frame s
  | .dictionaryWrite who area idx sub tq data env => Sys2Proof.Machine.execDictionaryWrite who area idx sub tq data env s
  | .stationCommit who n v => Sys2Proof.Machine.execStationCommit who n v s
  | .resultAck who area idx tq gen => Sys2Proof.Machine.execResultAck who area idx tq gen s
  | .resultBlobRead who area idx offset len => Sys2Proof.Machine.execResultBlobRead who area idx offset len s
  | .snapshotExpired => Sys2Proof.Machine.execSnapshotExpired s
  | .logRingRead who station offset len => Sys2Proof.Machine.execLogRingRead who station offset len s
  | .clearingRead who n stall => Sys2Proof.Machine.execClearingRead who n stall s
  | .blobWriteAbandoned => Sys2Proof.Machine.execBlobWriteAbandoned s
  | .subscriptionNotify k => Sys2Proof.Machine.execSubscriptionNotify k s
  | .settingsSaveTimer => Sys2Proof.Machine.execSettingsSaveTimer s
  | .settingsSave who v => Sys2Proof.Machine.execSettingsSave who v s
  | .settingsSaveDone ok => Sys2Proof.Machine.execSettingsSaveDone ok s
  | .settingsDefaults who v => Sys2Proof.Machine.execSettingsDefaults who v s
  | .switchFrame port frame bad leased => Sys2Proof.Machine.execSwitchFrame port frame bad leased s
  | .macEntryAged mac => Sys2Proof.Machine.execMacEntryAged mac s
  | .qbvGateEvent port gates => Sys2Proof.Machine.execQbvGateEvent port gates s
  | .ptpMessage m => Sys2Proof.Machine.execPtpMessage m s
  | .ptpSyncTimeout => Sys2Proof.Machine.execPtpSyncTimeout s
  | .arpRequest port sender target leased => Sys2Proof.Machine.execArpRequest port sender target leased s
  | .icmpEcho port sender target leased data => Sys2Proof.Machine.execIcmpEcho port sender target leased data s
  | .grantChallenge who => Sys2Proof.Machine.execGrantChallenge who s
  | .grantRequest who data pub => Sys2Proof.Machine.execGrantRequest who data pub s
  | .grantEnd who v => Sys2Proof.Machine.execGrantEnd who v s
  | .sessionIdle k => Sys2Proof.Machine.execSessionIdle k s
  | .peerRecordIdle k => Sys2Proof.Machine.execPeerRecordIdle k s
  | .relayFrame origin frame => Sys2Proof.Machine.execRelayFrame origin frame s
  | .devicePath who v serial => Sys2Proof.Machine.execDevicePath who v serial s
  | .memberSerial who a v => Sys2Proof.Machine.execMemberSerial who a v s
  | .announce => Sys2Proof.Machine.execAnnounce s
  | .heartbeatTimer => Sys2Proof.Machine.execHeartbeatTimer s
  | .heartbeat serial => Sys2Proof.Machine.execHeartbeat serial s
  | .heartbeatAnswer a serial link => Sys2Proof.Machine.execHeartbeatAnswer a serial link s
  | .memberLost a => Sys2Proof.Machine.execMemberLost a s
  | .managerLost => Sys2Proof.Machine.execManagerLost s
  | .alarmMergeEnd path code station st => Sys2Proof.Machine.execAlarmMergeEnd path code station st s
  | .alarmAck who seq => Sys2Proof.Machine.execAlarmAck who seq s
  | .alarmPendingDrain => Sys2Proof.Machine.execAlarmPendingDrain s
  | .manifest who data => Sys2Proof.Machine.execManifest who data s
  | .pieceStream data => Sys2Proof.Machine.execPieceStream data s
  | .pieceIn who data => Sys2Proof.Machine.execPieceIn who data s
  | .pieceProgrammed => Sys2Proof.Machine.execPieceProgrammed s
  | .imageVerifyDone => Sys2Proof.Machine.execImageVerifyDone s
  | .updateApply who => Sys2Proof.Machine.execUpdateApply who s
  | .applyAtReached => Sys2Proof.Machine.execApplyAtReached s
  | .updateCommit who fails => Sys2Proof.Machine.execUpdateCommit who fails s
  | .updateRevert who => Sys2Proof.Machine.execUpdateRevert who s
  | .updateCancel who => Sys2Proof.Machine.execUpdateCancel who s
  | .forceSec who => Sys2Proof.Machine.execForceSec who s
  | .secWaitEnd => Sys2Proof.Machine.execSecWaitEnd s
  | .secStepDone trial => Sys2Proof.Machine.execSecStepDone trial s
  | .mgmtStepDone schema converted translator => Sys2Proof.Machine.execMgmtStepDone schema converted translator s
  | .stnSwapStart => Sys2Proof.Machine.execStnSwapStart s
  | .stnSwapDone => Sys2Proof.Machine.execStnSwapDone s
  | .stnSwapTimeout => Sys2Proof.Machine.execStnSwapTimeout s
  | .updateGapElapsed => Sys2Proof.Machine.execUpdateGapElapsed s
  | .trialExpired fails => Sys2Proof.Machine.execTrialExpired fails s
  | .revertStepDone => Sys2Proof.Machine.execRevertStepDone s
  | .cacheTargets who v => Sys2Proof.Machine.execCacheTargets who v s
  | .cachePush a bitmap => Sys2Proof.Machine.execCachePush a bitmap s
  | .cvArm who u => Sys2Proof.Machine.execCvArm who u s
  | .cvEnd who u => Sys2Proof.Machine.execCvEnd who u s
  | .cvAbort who u => Sys2Proof.Machine.execCvAbort who u s
  | .cvRunComplete u overflow => Sys2Proof.Machine.execCvRunComplete u overflow s
  | .queueItemArrival item => Sys2Proof.Machine.execQueueItemArrival item s
  | .logDrain station count => Sys2Proof.Machine.execLogDrain station count s
  | .mgmtReady lost skipped fails => Sys2Proof.Machine.execMgmtReady lost skipped fails s
  | .vaonGood => Sys2Proof.Machine.execVaonGood s
  | .jtagInstruction ins => Sys2Proof.Machine.execJtagInstruction ins s
  | .msixVectorUnmask p v => Sys2Proof.Machine.execMsixVectorUnmask p v s
  | .flashEraseDone => Sys2Proof.Machine.execFlashEraseDone s
  | .imageCopyDone => Sys2Proof.Machine.execImageCopyDone s
  | .panelPowerDownDelay n => Sys2Proof.Machine.execPanelPowerDownDelay n s
  | .pumpInRegulation n => Sys2Proof.Machine.execPumpInRegulation n s
  | .ethLinkChange port speed => Sys2Proof.Machine.execEthLinkChange port speed s
  | .ethernetPllLockLost => Sys2Proof.Machine.execEthernetPllLockLost s
  | .memberAlarmReceived member a => Sys2Proof.Machine.execMemberAlarmReceived member a s

end Sys2Proof.Machine
end

