-- ==== Sys2Proof/Safety.lean ====
section
/-! DEFINITION. What the statements about the block are written in: the memory's canonical form as an invariant, the parts of the state and
what a command leaves alone. -/
namespace Sys2Proof.Machine

/-- The invariant of the memory list: its canonical form (R322, R348; assumption 5). -/
def Inv (s : State) : Prop := Memory.wf s.mem = true

/-- A command answers a next state, and what holds of it. -/
def Completes (c : Instr) (s : State) (P : State → Prop) : Prop := ∃ t, exec c s = .next t ∧ P t

/-- The parts of the state that a frame speaks of. -/
inductive Part where
  /-- Commands waiting. -/
  | queue
  /-- Whether VAON is good (R27). -/
  | power
  /-- Device time (R514). -/
  | clock
  /-- Active copies of numeric objects, the state of their saving, and what counts their changes (R459, R486, R490). -/
  | objects
  /-- Shadows of RWC objects (R459, R465). -/
  | shadows
  /-- STR and BLOB objects with their revisions (R474). -/
  | texts
  /-- Segmented writes and snapshots (R473, R482). -/
  | transfers
  /-- The states of result objects (R476). -/
  | results
  /-- Reset and clock control (R551 to R589). -/
  | resets
  /-- The stations' own sequencing (R29 to R46). -/
  | stations
  /-- Lock states of the blocks (R402). -/
  | locks
  /-- Station memory: bytes, contents lost, poisoned words (R338, R348). -/
  | memory
  /-- Enclave keys in the crypto engine (R393). -/
  | keys
  /-- The secure complex (R384 to R416). -/
  | secure
  /-- Field network, sessions, hierarchy (R498 to R521). -/
  | network
  /-- The update engine (R522 to R550). -/
  | update
  /-- Raster engines (R47 to R104). -/
  | raster
  /-- The translator (R57, R78 to R86). -/
  | translator
  /-- The energy controller and the weir (R421 to R450). -/
  | energy
  /-- Memory controllers (R321 to R354). -/
  | memctl
  /-- Compositors (R105 to R152). -/
  | compositor
  /-- Guard engines (R153 to R185). -/
  | guard
  /-- Display timing and outputs (R186 to R221). -/
  | display
  /-- Touch engines (R222 to R264). -/
  | touch
  /-- Haptic engines (R265 to R295). -/
  | haptic
  /-- Audio engines (R296 to R320). -/
  | audio
  /-- Slices with rings and landing rings (R355 to R383). -/
  | slices
  /-- Host ports (R362 to R374). -/
  | ports
  /-- Check-value units (R596 to R605). -/
  | checks
  /-- Ingress sluices (R367). -/
  | ingress
  /-- Touch queues (R606). -/
  | touchQueues
  /-- Haptic queues (R606). -/
  | hapticQueues
  /-- Notification, log and alarm queues, log rings and alarms (R516, R606, R621). -/
  | records
  /-- What holds the pins of the pin map (R573 to R575). -/
  | pins
  /-- When the periods of the firmware and of the engines last began (assumption 163). -/
  | timers
  /-- Values and events on their way between clock domains (R590 to R594). -/
  | crossings
  /-- What has left the block. -/
  | out
  /-- How many free values have been drawn (assumption 1). -/
  | free
deriving DecidableEq, Repr

/-- Two states agree in a part. -/
def Part.same (q : Part) (s t : State) : Prop :=
  match q with
  | .queue => t.pending = s.pending
  | .power => t.powered = s.powered
  | .clock => t.time = s.time
  | .objects => t.regs = s.regs ∧ t.settings = s.settings ∧ t.subscriptions = s.subscriptions
  | .shadows => t.shadow = s.shadow ∧ t.shadowBlobs = s.shadowBlobs
  | .texts => t.blobs = s.blobs ∧ t.blobRev = s.blobRev
  | .transfers => t.staging = s.staging ∧ t.snapshots = s.snapshots
  | .results => t.results = s.results
  | .resets => t.rst = s.rst
  | .stations => t.stn = s.stn
  | .locks => t.locks = s.locks
  | .memory => t.mem = s.mem ∧ t.lostCells = s.lostCells ∧ t.poison = s.poison
  | .keys => t.encKey = s.encKey
  | .secure => t.sec = s.sec
  | .network => t.net = s.net ∧ t.peerLevel = s.peerLevel
  | .update => t.upd = s.upd
  | .raster => t.raster = s.raster
  | .translator => t.translator = s.translator
  | .energy => t.energy = s.energy
  | .memctl => t.memc = s.memc
  | .compositor => t.comp = s.comp
  | .guard => t.guard = s.guard
  | .display => t.disp = s.disp
  | .touch => t.touch = s.touch
  | .haptic => t.haptic = s.haptic
  | .audio => t.audio = s.audio
  | .slices => t.slices = s.slices
  | .ports => t.ports = s.ports
  | .checks => t.cv = s.cv
  | .ingress => t.ingress = s.ingress
  | .touchQueues => t.touchQ = s.touchQ ∧ t.encTouchQ = s.encTouchQ
  | .hapticQueues => t.hapticQ = s.hapticQ
  | .records => t.noteQ = s.noteQ ∧ t.encNoteQ = s.encNoteQ ∧ t.stationLogQ = s.stationLogQ ∧ t.hwLogQ = s.hwLogQ ∧ t.logRings = s.logRings ∧ t.alarms = s.alarms ∧ t.alarmQ = s.alarmQ
  | .pins => t.pins = s.pins
  | .timers => t.timers = s.timers
  | .crossings => t.crossings = s.crossings
  | .out => t.out = s.out
  | .free => t.free = s.free

/-- From one state to another, nothing changes but the parts listed. -/
def Frame (ps : List Part) (s t : State) : Prop := ∀ q, q ∉ ps → q.same s t

/-- Bytes outside a range of a station's memory read as before: the cells listed, and whether contents are lost. -/
def SameMemoryBut (s t : State) (n addr len : Nat) : Prop :=
  ∀ c, c < cellOf n addr ∨ cellOf n addr + len ≤ c → memGet t.mem c = memGet s.mem c ∧ t.isLost c = s.isLost c

/-- Objects that a list of keys does not name keep their active copies (R459). -/
def SameObjectsBut (s t : State) (ks : List OKey) : Prop := ∀ k, k ∉ ks → t.regs.find k = s.regs.find k

/-- A dictionary write of a value is served and passes the checks of R461. -/
abbrev State.accepts (s : State) (who : Requester) (r : ObjRow) (v : Int) (n : Nat := 0) (i : Nat := 0) (tq : Nat := 512)
    (j : Nat := 0) : Prop := s.served who = true ∧ s.checkWrite who r v n i tq j = none

/-- Nothing holds or delays a reset: no pulse, no page program, no erase, no source held (R567 to R569). -/
abbrev State.noHold (s : State) : Prop :=
  s.rst.vaon = true ∧ s.rst.held = [] ∧ s.pulsing = false ∧ s.programming = false ∧ s.rst.erase = none

/-- The one thing that has left the block is an answer OK. -/
abbrev answeredOk (s t : State) : Prop := t.out = .answer 0 0 0 [] :: s.out

/-- What a job names and has been given: the job without what planning, readiness, rank and dispatch move in it. A clear value read from memory as the
job starts counts as not yet read (R47). -/
def Job.given (j : Job) : Job :=
  let clear (a : Attachment) : Attachment := if a.format = 0x0B && a.loadOp = 1 then { a with clear := 0 } else a
  { j with phase := .taken, sliceClass := 0, presentedAt := 0, admission := 0, estWork := 0, energyEstUj := 0, readyAt := none, boundary := 0,
           deadline := none, urgent := false, preempts := false, translFrom := none, started := false, toBin := 0, fragPhase := false,
           flushing := false, units := [], stored := [], partsLeft := [], frags := [], heldParts := [], partCores := [], sigInvalid := [],
           saved := [], atts := j.atts.map clear }

/-- The job a key names still stands in a station's table, and is in what it names and has been given the job `j`. -/
abbrev State.keepsJob (t : State) (n key : Nat) (j : Job) : Prop := (t.job? n key).map Job.given = some j.given

/-- A ring but for the reads of it that are under way (R367). -/
abbrev Ring.still (r : Ring) : Ring := { r with reading := 0 }


/-- A page write reaches a mailbox: the headgate's clock runs, and a tenant's slice is ACTIVE or QUARANTINED (R364, R375, R587). -/
def State.mboxOpen (s : State) : MbPath → Bool
  | .host _ => !s.hwGated 2
  | .tenant p t =>
    !s.hwGated 2 && (s.pageWrite p t = .taken || (s.pageWrite p t = .discarded && s.sliceState t = slQuarantined))

/-- A source whose frames have the long form (R502, R503). -/
def wideSource : PeerSource → Bool
  | .can _ _ => false
  | .mac _ | .udp _ _ | .relayed => true

/-- A long frame of a type is well formed, for this device, and BDA and DICTIONARY are ready (R503, R510). -/
def State.frameTaken (s : State) (typ : Nat) (b : Bytes) : Bool :=
  frameOk b && !(parseHeader b).response && (parseHeader b).typ = typ && s.forUs (parseHeader b) && s.isHwReady 9 && s.isHwReady 4 && !s.hwGated 0

/-- The peer a long frame comes from (R506). -/
def framePeer (src : PeerSource) (b : Bytes) : PeerId :=
  ⟨if (parseHeader b).relayed then .relayed else src, (parseHeader b).src⟩

/-- The state in which a taken frame's request is carried out: its SEQ recorded, its session touched, its level in force. -/
def State.framed (s : State) (src : PeerSource) (b : Bytes) (k : Nat) (level : Level) : State :=
  let u := (s.takeSeq (framePeer src b) (parseHeader b).seq).2.touchSession k (parseHeader b)
  { u with peerLevel := u.peerLevel.put k level }

/-- The state after a request of a taken frame: without a response the level settles, else the response is sent and cached. -/
def State.responded (u : State) (src : PeerSource) (b : Bytes) (k : Nat) (key : Option Bytes) : Option (Bytes × State) → State
  | none => u.settleLevel k
  | some r =>
    let out := makeFrame { parseHeader b with response := true, relayed := false, hops := 3, status := 0 } r.1 key
    ((r.2.settleLevel k).emit (.bdaFrame (framePeer src b) out)).cacheResponse k (parseHeader b).seq out

/-- A short frame of a type is well formed, for this device's node, and CAN and DICTIONARY are ready (R502). -/
def State.shortTaken (s : State) (typ bus id : Nat) (data : Bytes) : Bool :=
  data.length = 64 && !(parseShort id data).response && (parseShort id data).typ = typ
    && (parseShort id data).dest = s.rdN Obj.CAN_NODE 0 bus && s.isHwReady 10 && s.isHwReady 4
    && !s.hwGated 0 && !s.hwGated 2

/-- The state in which a taken short frame's request is carried out. -/
def State.shortFramed (s : State) (bus id : Nat) (data : Bytes) (k : Nat) : State :=
  let u := (s.takeSeq ⟨.can bus (parseShort id data).src, 0⟩ (parseShort id data).seq).2
  { u with peerLevel := u.peerLevel.put k (s.canLevel bus (parseShort id data).src) }

/-- The state after a request of a short frame: its response is sent and cached. -/
def shortResponded (bus id : Nat) (data : Bytes) (k : Nat) : Option Reply × State → State
  | (none, u) => u
  | (some r, u) =>
    let f := parseShort id data
    let out := ({ f with priority := 2, dest := f.src, src := f.dest, response := true,
                         payload := toBE 2 r.status ++ toBE 2 r.detail ++ r.data } : ShortFrame).wire
    (u.emit (.bdaFrame ⟨.can bus f.src, 0⟩ out)).cacheResponse k f.seq out


/-- The objects that count an alarm: its queue's items and losses, and the alarms in force by severity (R516 to R518). -/
def alarmKeys : List OKey :=
  [Obj.ALARM_ITEMS.key 0 0 512 0, Obj.ALARM_LOST.key 0 0 512 0] ++ (List.range 4).map fun k => Obj.ALARM_SUMMARY.key 0 0 512 k

/-- The objects that count a record for a station's log: the queue's items and losses (R616). -/
def logKeys (n : Nat) : List OKey := [Obj.STATION_LOG_ITEMS.key 0 n 512 0, Obj.STATION_LOG_LOST.key 0 n 512 0]

/-- The objects that count the RESULT_READY of a result object for the one who started its operation (R484, R606, R616). -/
def State.readyKeys (s : State) (k : OKey) : List OKey :=
  match (s.results.getD k {}).starter with
  | some (.tenant t) => [Obj.TOUCH_ITEMS.key 0 0 t 0, Obj.NOTIFY_ITEMS.key 0 0 t 0, Obj.NOTIFY_LOST.key 0 0 t 0]
  | some (.enclave e) => [Obj.ENCLAVE_NOTIFY_LOST.key 0 e 512 0]
  | some (.host _) | some (.peer _) | some .secure | none => []

/-- Every part but the queue of waiting commands. -/
abbrev Part.allButQueue : List Part :=
  [.power, .clock, .objects, .shadows, .texts, .transfers, .results, .resets, .stations, .locks, .memory, .keys, .secure, .network, .update, .raster, .translator, .energy, .memctl, .compositor, .guard, .display, .touch, .haptic, .audio, .slices, .ports, .checks, .ingress, .touchQueues, .hapticQueues, .records, .pins, .timers, .crossings, .out, .free]

/-- The parts of the state that each command may change; no command changes the queue. -/
def partsOf : Instr → List Part
  | .vaonLost | .porstNLevel .. | .resetNLevel .. | .brownOut .. | .thermalTrip .. | .referenceLost .. | .mgmtWatchdogExpiry
  | .stationWatchdogExpiry .. | .secureWatchdogExpiry | .heldResetApply | .eraseSuspendDone | .hwPllRelocked ..
  | .deviceRequestRecovery .. | .deviceRequestLeaveRecovery .. | .resetRequestApply | .stationReset .. | .safeStore .. | .memReinit ..
  | .perstNLevel .. | .hotReset .. | .functionFlr .. | .sliceFlr .. | .sliceReset .. | .sliceEnable .. | .mbSend .. | .enclaveWrite ..
  | .rebind .. | .debugResponse .. | .bdaRead .. | .bdaWrite .. | .bdaCommit .. | .bdaNotify .. | .bdaBlock .. | .dictionaryWrite ..
  | .settingsDefaults .. | .updateApply .. | .applyAtReached | .updateRevert .. | .forceSec .. | .secWaitEnd | .stnSwapStart
  | .updateGapElapsed | .mgmtReady .. | .vaonGood =>
    Part.allButQueue
  | .releaseBegin .. =>
    [.objects, .shadows, .texts, .results, .resets, .stations, .memory, .network, .raster, .translator, .memctl, .compositor, .display, .touch, .haptic, .audio, .slices, .checks, .ingress, .touchQueues, .hapticQueues, .records, .pins, .timers, .crossings, .out, .free]
  | .releaseGapElapsed =>
    [.objects, .shadows, .texts, .results, .resets, .stations, .memory, .raster, .translator, .memctl, .compositor, .display, .touch, .haptic, .audio, .slices, .checks, .ingress, .touchQueues, .hapticQueues, .records, .pins, .timers, .crossings, .out, .free]
  | .releaseStepEnd =>
    [.resets, .timers]
  | .trimLoadDone .. =>
    [.objects, .texts, .resets, .records, .pins, .out, .free]
  | .bootRomMgmtAcceptance .. =>
    [.objects, .texts, .resets, .secure, .update]
  | .eraseResume =>
    [.objects, .resets, .out]
  | .hwPllLockLost .. =>
    [.objects, .resets, .checks, .ingress, .crossings]
  | .deviceRequestNone .. | .ringEnable .. | .wakePendingClear .. | .quarantineRelease .. | .deviceBudgetMw .. | .stationCommit ..
  | .alarmAck .. | .cacheTargets .. =>
    [.objects, .slices, .records, .pins, .out]
  | .resetRequestCold .. | .resetRequestWarm .. | .resetRequestMgmt .. | .resetRequestSec .. | .resetRequestPort ..
  | .resetRequestStation .. | .fuseMapProgram .. =>
    [.objects, .resets, .slices, .records, .pins, .out]
  | .functionGateTouch .. | .functionGateHaptic .. | .functionGateAudio .. =>
    [.objects, .texts, .results, .stations, .compositor, .display, .touch, .haptic, .audio, .slices, .touchQueues, .hapticQueues, .records, .pins, .timers, .crossings, .out, .free]
  | .settingsLoadStation =>
    [.objects, .shadows, .texts, .results, .resets, .stations, .compositor, .display, .touch, .audio, .touchQueues, .records, .pins, .timers, .crossings, .out, .free]
  | .stnImageLoad .. =>
    [.objects, .texts, .stations]
  | .stationTargetOff .. | .stationTargetRunning .. | .stationTargetSleep .. =>
    [.objects, .shadows, .texts, .transfers, .results, .stations, .memory, .raster, .translator, .energy, .memctl, .compositor, .guard, .display, .touch, .haptic, .audio, .slices, .checks, .ingress, .touchQueues, .hapticQueues, .records, .pins, .timers, .crossings, .out, .free]
  | .stationStartupDone .. =>
    [.objects, .texts, .results, .stations, .memory, .raster, .translator, .energy, .memctl, .compositor, .guard, .display, .touch, .haptic, .audio, .checks, .touchQueues, .hapticQueues, .records, .pins, .timers, .crossings, .out, .free]
  | .sleepEntryDone .. | .pllLockLost .. =>
    [.objects, .results, .stations, .memory, .raster, .translator, .energy, .memctl, .compositor, .guard, .display, .touch, .haptic, .audio, .checks, .touchQueues, .hapticQueues, .records, .pins, .timers, .crossings, .out, .free]
  | .wakeDone .. =>
    [.objects, .texts, .results, .stations, .memory, .raster, .translator, .energy, .memctl, .compositor, .display, .touch, .haptic, .audio, .checks, .records, .pins, .timers, .out, .free]
  | .edgeLinkLost .. =>
    [.objects, .results, .stations, .memory, .raster, .translator, .energy, .compositor, .display, .touch, .haptic, .audio, .checks, .touchQueues, .hapticQueues, .records, .pins, .timers, .crossings, .out, .free]
  | .ringTailWrite .. | .compHeadWrite .. =>
    [.objects, .slices, .records, .pins, .crossings, .out, .free]
  | .descriptorFetched .. =>
    [.objects, .slices, .ingress, .records, .pins, .out]
  | .ringReadFailed .. =>
    [.objects, .slices, .records]
  | .jobTake .. =>
    [.objects, .results, .memory, .raster, .slices, .checks, .ingress, .records, .out]
  | .jobNop .. | .jobRender .. | .jobCompute .. | .jobPipelineLoad .. | .jobPipelineDrop .. | .fenceWaitSatisfied .. | .drawListEnd ..
  | .bindPipeline .. | .bindSet .. | .pushData .. | .bindVertex .. | .bindIndex .. | .draw .. | .drawIndexed .. | .drawIndirect ..
  | .setViewport .. | .setScissor .. | .deadlinePoint .. | .contextSaveDone .. | .tileYieldLimit .. | .contextRestoreDone ..
  | .jobAccessFault .. | .jobTimeLimit .. | .translationComplete .. | .retranslationSwap .. =>
    [.objects, .results, .memory, .raster, .translator, .checks, .records]
  | .unitComplete .. =>
    [.objects, .results, .memory, .raster, .translator, .checks, .records, .free]
  | .jobComplete .. =>
    [.objects, .results, .memory, .raster, .translator, .slices, .ports, .checks, .records, .out]
  | .translationStart =>
    [.translator]
  | .pipelineDropFree .. =>
    [.objects, .raster]
  | .layerCommit .. | .guardCommit .. =>
    [.objects, .compositor, .display, .slices, .records, .pins, .crossings, .out, .free]
  | .frameBoundary .. =>
    [.objects, .results, .memory, .raster, .translator, .display, .touch, .checks, .touchQueues, .records, .out, .free]
  | .boundaryLatch .. =>
    [.objects, .texts, .results, .memory, .raster, .translator, .compositor, .guard, .display, .slices, .checks, .records, .pins, .timers, .crossings, .out, .free]
  | .fixPoint .. =>
    [.objects, .texts, .compositor, .guard, .display, .slices, .records]
  | .composeLine .. =>
    [.objects, .compositor, .guard, .display, .records, .crossings, .out, .free]
  | .layerFetchComplete .. =>
    [.compositor]
  | .lineStart .. =>
    [.objects, .results, .stations, .memory, .raster, .translator, .energy, .compositor, .guard, .display, .touch, .haptic, .audio, .checks, .touchQueues, .hapticQueues, .records, .pins, .timers, .crossings, .out, .free]
  | .freezeNominalTick .. | .weirSaturated | .ptpSyncTimeout | .memberLost .. | .managerLost | .alarmMergeEnd .. | .alarmPendingDrain
  | .memberAlarmReceived .. =>
    [.objects, .records, .pins, .out]
  | .refLoadStart .. =>
    [.objects, .results, .guard, .slices, .records, .pins, .out]
  | .refLoadDone .. =>
    [.objects, .results, .guard, .records]
  | .safeStoreCheckDone .. =>
    [.objects, .texts, .compositor, .guard]
  | .modeCommit .. =>
    [.objects, .results, .display, .slices, .records, .pins, .timers, .out]
  | .pixelPllLock .. | .linkTrainingDone .. | .linkRetryTimer .. | .hpdUnplug .. =>
    [.objects, .display, .records, .pins, .timers, .out]
  | .hpdPlug .. =>
    [.objects, .display, .out]
  | .sinkReadDone .. =>
    [.objects, .texts, .display, .records, .pins, .timers, .out]
  | .auxRetryTimer .. =>
    [.display, .out]
  | .hpdIrq .. =>
    [.objects, .display, .records, .pins, .timers, .crossings, .out, .free]
  | .psrWakeElapsed .. =>
    [.objects, .texts, .compositor, .guard, .display, .slices, .records, .pins, .timers, .out]
  | .panelOnDelay .. =>
    [.display]
  | .blOnDelay .. =>
    [.display, .pins, .out]
  | .scanPairStart .. =>
    [.objects, .touch, .touchQueues, .records, .free]
  | .scanPairEnd .. | .pumpOutOfRegulation .. =>
    [.objects, .results, .stations, .compositor, .display, .touch, .touchQueues, .hapticQueues, .records, .pins, .timers, .crossings, .out, .free]
  | .contactHoldLimit .. | .occlusionHoldExpired .. =>
    [.touch]
  | .touchCommit .. =>
    [.objects, .touch, .slices, .records, .pins, .out]
  | .touchHaltRetry .. | .sleepCalibrationPair .. | .pumpInRegulation .. =>
    [.objects, .results, .stations, .touch, .touchQueues, .records, .pins, .timers, .out, .free]
  | .pairAbandon .. =>
    [.objects, .touch, .records]
  | .referenceCapture .. =>
    [.objects, .results, .touch, .slices, .records, .pins, .out]
  | .referenceCaptureDone .. =>
    [.objects, .texts, .results, .touch, .records]
  | .wakeScan .. =>
    [.objects, .stations, .memctl, .touch, .pins, .out]
  | .tchMicrocodeSwap .. =>
    [.objects, .texts, .results, .update, .touch, .records]
  | .hapticTrigger .. =>
    [.objects, .slices, .hapticQueues, .records, .pins, .out, .free]
  | .hapticTick .. =>
    [.objects, .texts, .stations, .haptic, .hapticQueues, .records, .pins, .timers, .out, .free]
  | .senseSample .. | .driveTimeLimit .. | .hapticStreamFetch .. =>
    [.objects, .stations, .haptic, .pins, .timers, .out]
  | .overcurrent .. | .bridgeRangeFault .. | .openLoad .. =>
    [.objects, .texts, .stations, .haptic, .records, .pins, .timers, .out, .free]
  | .bridgeRecovered .. =>
    [.objects, .stations, .haptic, .records, .pins, .timers, .out]
  | .brakeEnd .. =>
    [.objects, .texts, .stations, .haptic, .records, .pins, .timers, .out]
  | .bootstrapChargeDone .. =>
    [.haptic]
  | .effectData .. =>
    [.objects, .texts, .haptic, .slices, .records, .pins, .out]
  | .faultClear .. =>
    [.objects, .stations, .haptic, .slices, .records, .pins, .timers, .out]
  | .hapticCommit .. =>
    [.objects, .haptic, .slices, .records, .pins, .out]
  | .audioFrame .. =>
    [.objects, .results, .stations, .memory, .audio, .checks, .records, .pins, .out]
  | .gainForcedRegime .. | .toneOnElapsed .. | .toneOffElapsed .. =>
    [.audio]
  | .audioCommit .. =>
    [.objects, .shadows, .audio, .slices, .records, .pins, .out]
  | .streamStart .. | .streamStop .. | .tgStart .. | .tgStop .. =>
    [.objects, .audio, .slices, .records, .pins, .out]
  | .audioStreamFetch .. =>
    [.objects, .audio, .records]
  | .busActivityExpired .. =>
    [.objects]
  | .loopBlockWrite .. =>
    [.objects, .results, .memory, .audio, .checks, .records]
  | .audioStartDone .. | .audioClockRestart .. =>
    [.objects, .stations, .audio, .pins, .out]
  | .audioStopDone .. =>
    [.objects, .shadows, .stations, .audio, .pins, .out]
  | .refreshDue .. | .retrainStart .. =>
    [.memctl, .out]
  | .memTempRead .. =>
    [.objects, .memctl, .records, .pins, .out]
  | .retrainDue .. | .requestPromotion .. =>
    [.memctl]
  | .retrainAttemptDone .. | .memTrainingAttemptDone .. | .memRead .. =>
    [.objects, .results, .stations, .memory, .raster, .translator, .energy, .memctl, .compositor, .display, .touch, .haptic, .audio, .checks, .touchQueues, .hapticQueues, .records, .pins, .timers, .crossings, .out, .free]
  | .memFillDone .. =>
    [.objects, .memctl]
  | .pcieLinkTrained .. =>
    [.objects, .slices, .ports, .records, .pins, .out]
  | .portRetrainTimer .. | .hostPortReady .. =>
    [.objects, .ports]
  | .sliceResetDone .. =>
    [.objects, .shadows, .energy, .compositor, .touch, .audio, .slices, .ports, .touchQueues, .records, .out]
  | .rightsWrite .. | .windowWrite .. =>
    [.objects, .shadows, .energy, .compositor, .touch, .audio, .slices, .records, .pins, .out]
  | .touchLandHead .. | .notifyLandHead .. =>
    [.objects, .slices, .crossings, .free]
  | .landingDelivery .. =>
    [.objects, .slices, .ports, .touchQueues, .records, .out]
  | .mbAck .. =>
    [.objects, .slices, .ports]
  | .mbResponseReady .. =>
    [.slices, .ports, .out]
  | .xferHostToStation .. | .xferFill .. =>
    [.objects, .results, .memory, .slices, .checks, .records, .out]
  | .xferStationToHost .. =>
    [.objects, .results, .slices, .checks, .records, .out]
  | .transferComplete .. =>
    [.objects, .results, .memory, .slices, .ports, .checks, .records, .out, .free]
  | .enclaveCreate .. =>
    [.objects, .results, .slices, .records, .pins, .out]
  | .enclaveLoadDone .. =>
    [.objects, .texts, .results, .locks, .memory, .keys, .secure, .records, .free]
  | .enclaveStart .. | .enclaveStop .. =>
    [.objects, .secure, .slices, .records, .pins, .out]
  | .enclaveCommandDestroy .. | .enclaveDestroy .. =>
    [.objects, .locks, .keys, .secure, .slices, .records, .pins, .out]
  | .enclaveDestroyDone .. =>
    [.objects, .texts, .memory, .keys, .secure, .touchQueues, .records]
  | .enclaveSliceExpired .. | .debugLockoutEnd =>
    [.secure]
  | .inbox .. | .attestChallenge .. =>
    [.objects, .results, .secure, .slices, .records, .pins, .out]
  | .acquire .. =>
    [.objects, .locks, .compositor, .records, .out]
  | .release .. =>
    [.objects, .locks, .out]
  | .enclaveRead .. | .resultBlobRead .. | .logRingRead .. | .clearingRead .. =>
    [.objects, .transfers, .secure, .network, .out, .free]
  | .enclaveCommit .. =>
    [.objects, .compositor, .display, .records, .crossings, .out, .free]
  | .queueRead .. =>
    [.secure, .touchQueues, .records, .out]
  | .send .. =>
    [.objects, .texts, .results, .secure, .records, .out]
  | .seal .. =>
    [.out, .free]
  | .unseal .. | .arpRequest .. | .icmpEcho .. | .jtagInstruction .. =>
    [.out]
  | .lockDrainDone .. =>
    [.objects, .shadows, .texts, .results, .locks, .compositor, .guard, .display, .touch, .audio, .touchQueues, .hapticQueues, .records, .crossings, .out, .free]
  | .lockReady .. =>
    [.objects, .shadows, .texts, .transfers, .results, .stations, .locks, .memory, .raster, .translator, .energy, .memctl, .compositor, .guard, .display, .touch, .haptic, .audio, .slices, .checks, .ingress, .touchQueues, .hapticQueues, .records, .pins, .timers, .crossings, .out, .free]
  | .secRestartBootDone .. =>
    [.objects, .texts, .resets]
  | .secScrubDone =>
    [.objects, .resets, .locks, .memory, .secure, .records]
  | .attestReportDone =>
    [.objects, .texts, .results, .secure, .records]
  | .debugChallenge .. =>
    [.secure, .out, .free]
  | .energySample .. =>
    [.objects, .raster, .energy]
  | .budgetPeriod .. =>
    [.objects, .energy, .records, .pins, .out]
  | .energySplit | .weirReleaseCheck .. =>
    [.objects, .results, .memory, .raster, .translator, .energy, .checks, .records, .pins, .out]
  | .stationTick .. | .shaderPointSettled .. | .weirCompare .. | .weirClampRank .. =>
    [.objects, .results, .memory, .raster, .translator, .energy, .checks, .records]
  | .resultAck .. =>
    [.results, .out]
  | .snapshotExpired | .blobWriteAbandoned =>
    [.transfers]
  | .subscriptionNotify .. | .switchFrame .. | .qbvGateEvent .. =>
    [.objects, .network, .out]
  | .settingsSaveTimer =>
    [.objects, .free]
  | .settingsSave .. =>
    [.objects, .slices, .records, .pins, .out, .free]
  | .settingsSaveDone .. =>
    [.objects, .resets, .records, .pins, .out]
  | .macEntryAged .. | .peerRecordIdle .. =>
    [.network]
  | .ptpMessage .. | .heartbeat .. | .heartbeatAnswer .. =>
    [.objects, .network, .records, .pins, .out]
  | .grantChallenge .. =>
    [.network, .out, .free]
  | .grantRequest .. =>
    [.objects, .texts, .results, .network, .slices, .records, .pins, .out, .free]
  | .grantEnd .. | .devicePath .. | .memberSerial .. =>
    [.objects, .network, .slices, .records, .pins, .out]
  | .sessionIdle .. | .ethLinkChange .. | .ethernetPllLockLost =>
    [.objects, .network]
  | .relayFrame .. =>
    [.objects, .network, .out, .free]
  | .announce =>
    [.timers, .out]
  | .heartbeatTimer =>
    [.network, .timers, .out]
  | .manifest .. =>
    [.objects, .texts, .results, .update, .slices, .records, .pins, .out]
  | .pieceStream .. =>
    [.objects, .results, .resets, .update, .checks, .records, .out]
  | .pieceIn .. =>
    [.objects, .results, .resets, .update, .slices, .checks, .records, .pins, .out]
  | .pieceProgrammed =>
    [.objects, .texts, .resets, .update, .out]
  | .imageVerifyDone | .imageCopyDone =>
    [.objects, .texts, .update]
  | .updateCommit .. | .updateCancel .. =>
    [.objects, .texts, .results, .resets, .update, .slices, .records, .pins, .out]
  | .secStepDone .. | .stnSwapDone =>
    [.objects, .results, .update, .records]
  | .mgmtStepDone .. =>
    [.objects, .shadows, .texts, .results, .update, .raster, .translator, .records, .pins, .out]
  | .stnSwapTimeout =>
    [.objects, .resets, .stations, .update]
  | .trialExpired .. =>
    [.objects, .texts, .results, .resets, .update, .records, .out]
  | .revertStepDone =>
    [.objects, .shadows, .texts, .results, .update, .records]
  | .cachePush .. =>
    [.objects, .out]
  | .cvArm .. =>
    [.results, .checks, .out]
  | .cvEnd .. | .cvAbort .. =>
    [.checks, .out]
  | .cvRunComplete .. =>
    [.objects, .results, .checks, .records]
  | .queueItemArrival .. =>
    [.objects, .touchQueues, .hapticQueues, .records, .pins, .out, .free]
  | .logDrain .. =>
    [.objects, .records]
  | .msixVectorUnmask .. =>
    [.ports, .out]
  | .flashEraseDone =>
    [.objects, .resets, .update, .out]
  | .panelPowerDownDelay .. =>
    [.display, .pins, .timers, .out]

end Sys2Proof.Machine
end

