-- ==== Sys2Proof/Certificates/Slice0/Obligations.lean ====
section
/-! DEFINITION. The statements about the block, for the provers. -/
open Sys2Proof Sys2Proof.Machine

/-- Loss of VAON turns the device OFF with every domain in reset and memory lost; VAON good puts every domain in reset with XSPI_RESET_N low; a level source that becomes asserted, with no hold, is listed and its reset is applied: PORST_N, brown-out (a supply below its threshold) and the lost reference COLD, RESET_N in SERVICE and a thermal trip WARM; released, it is no longer listed. Supplies between threshold and release level change nothing. -/
def Obligations.ResetSourcesAct : Prop :=
  (∀ (s : State), 
    Completes (.vaonLost) s fun t => t.powered = false ∧ t.rst.vaon = false ∧ t.rst.inReset = allDomains ∧ t.mem = [] ∧ t.deviceState = 0) ∧
  (∀ (s : State), s.rst.vaon = false → 
    Completes (.vaonGood) s fun t => t.rst.vaon = true ∧ t.rst.inReset = allDomains ∧ t.powered = !s.rst.levels.contains 0 ∧ t.rst.wide = allDomains ∧
      t.out.head? = some (Emission.pin "XSPI_RESET_N" 0 false)) ∧
  (∀ (s : State), s.noHold → s.rst.levels.contains 0 = false → 
    Completes (.porstNLevel false) s fun t => t.rst.levels.contains 0 = true ∧ t.mem = [] ∧
      ∀ d ∈ allDomains, d ∈ t.rst.inReset) ∧
  (∀ (s : State), s.rst.vaon = true → 
    Completes (.porstNLevel true) s fun t => t.powered = true ∧ t.rst.levels.contains 0 = false ∧ t.regs = s.regs) ∧
  (∀ (s : State), s.noHold → s.rst.levels.contains 2 = false → s.deviceState = 2 → 
    Completes (.resetNLevel false) s fun t => t.rst.levels.contains 2 = true ∧ t.rd Obj.DEVICE_STATE = 1 ∧
      Domain.sec ∈ t.rst.inReset ∧ Domain.mgmt ∈ t.rst.inReset) ∧
  (∀ (s : State), 
    Completes (.resetNLevel true) s fun t => t.rst.levels.contains 2 = false ∧ t.regs = s.regs) ∧
  (∀ (s : State) (v a b : Nat), s.rst.vaon = true → s.rst.levels.contains 1 = false → v < 1700 ∨ a < 1660 ∨ b < 3050 → 
    Completes (.brownOut v a b) s fun t => t.rst.brownOut = true ∧ t.rst.levels.contains 1 = true ∧ t.mem = [] ∧
      ∀ d ∈ allDomains, d ∈ t.rst.inReset) ∧
  (∀ (s : State) (v a b : Nat), s.rst.refLost = false → 1730 ≤ v → 1690 ≤ a → 3080 ≤ b → 
    Completes (.brownOut v a b) s fun t => t.rst.brownOut = false ∧ t.rst.levels.contains 1 = false ∧ t.regs = s.regs) ∧
  (∀ (s : State) (v a b : Nat), 1700 ≤ v → 1660 ≤ a → 3050 ≤ b → v < 1730 ∨ a < 1690 ∨ b < 3080 → 
    Completes (.brownOut v a b) s fun t => t = s) ∧
  (∀ (s : State) (l : List Int), s.noHold → s.rst.levels.contains 3 = false → (l.any fun x => 115 ≤ x) = true → 
    Completes (.thermalTrip l) s fun t => t.rst.levels.contains 3 = true ∧ t.rd Obj.DEVICE_STATE = 1 ∧
      Domain.sec ∈ t.rst.inReset ∧ Domain.mgmt ∈ t.rst.inReset) ∧
  (∀ (s : State) (l : List Int), (l.all fun x => x ≤ 100) = true → 
    Completes (.thermalTrip l) s fun t => t.rst.levels.contains 3 = false ∧ t.regs = s.regs) ∧
  (∀ (s : State), s.rst.vaon = true → s.rst.levels.contains 1 = false → 
    Completes (.referenceLost true) s fun t => t.rst.levels.contains 1 = true ∧ t.rd Obj.REF_LOST = 1 ∧ t.mem = [] ∧
      ∀ d ∈ allDomains, d ∈ t.rst.inReset) ∧
  (∀ (s : State), s.rst.brownOut = false → 
    Completes (.referenceLost false) s fun t => t.rst.refLost = false ∧ t.rst.levels.contains 1 = false ∧ t.regs = s.regs)

/-- In SERVICE, with no hold, the management watchdog resets the management complex, the station watchdog of a station its control core and functions, the secure watchdog the secure complex, and WARM at its third expiry in 600 s. A held source is applied with the HELD bit, a suspended one with the address of its erase kept, and an erase resumes from that address when the dictionary serves. A request is applied in order, 1 ms after its answer. A watchdog event that meets one still held on its crossing merges with it and is counted. -/
def Obligations.WatchdogsAndHeldResetsAct : Prop :=
  (∀ (s : State), s.noHold → s.deviceState = 2 → s.rst.inReset.contains .mgmt = false → s.powered = true → s.upd.mgmtStep = false → s.crossings.find (.watchdog 4) = none → 
    Completes (.mgmtWatchdogExpiry) s fun t => Domain.mgmt ∈ t.rst.inReset ∧ Domain.net ∈ t.rst.inReset ∧ t.rst.mgmtEnded = false) ∧
  (∀ (s : State) (n : Fin 8), s.noHold → s.deviceState = 2 → s.rst.inReset.contains (.core n) = false → (s.ctl n).coreOn = true → s.updState ≠ upTrial → 
    Completes (.stationWatchdogExpiry n) s fun t => Domain.core n ∈ t.rst.inReset ∧ Domain.func n ∈ t.rst.inReset) ∧
  (∀ (s : State), s.noHold → s.deviceState = 2 → s.rst.inReset.contains .sec = false → s.secUp = true → s.crossings.find (.watchdog 5) = none → (s.sec.expiries.filter fun x => decide (s.time < x + 600000000000)).length < 2 → 
    Completes (.secureWatchdogExpiry) s fun t => Domain.sec ∈ t.rst.inReset ∧ t.rst.secEnded = false) ∧
  (∀ (s : State), s.noHold → s.deviceState = 2 → s.rst.inReset.contains .sec = false → s.secUp = true → s.crossings.find (.watchdog 5) = none → 2 ≤ (s.sec.expiries.filter fun x => decide (s.time < x + 600000000000)).length → 
    Completes (.secureWatchdogExpiry) s fun t => Domain.sec ∈ t.rst.inReset ∧ Domain.mgmt ∈ t.rst.inReset ∧ t.rd Obj.DEVICE_STATE = 1) ∧
  (∀ (s : State) (r : ResetReq), s.rst.held = [r] → r.reach = rMgmt → 
    Completes (.heldResetApply) s fun t => t.rst.held = [] ∧ Domain.mgmt ∈ t.rst.inReset ∧ t.rd Obj.RESET_CAUSE = (r.cause true : Nat)) ∧
  (∀ (s : State) (r : ResetReq) (a : Nat), s.rst.suspended = [r] → s.rst.erase = some a → r.reach = rMgmt → 
    Completes (.eraseSuspendDone) s fun t => t.rst.suspended = [] ∧ t.rst.erase = none ∧ Domain.mgmt ∈ t.rst.inReset ∧
      t.rd Obj.ERASE_SUSPENDED = a) ∧
  (∀ (s : State), s.rdN Obj.ERASE_SUSPENDED ≠ 0xFFFFFFFF → s.isHwReady 4 = true → s.hwGated 0 = false → s.rst.erase = none → 
    Completes (.eraseResume) s fun t => t.rst.erase = some (s.rdN Obj.ERASE_SUSPENDED) ∧ t.rd Obj.ERASE_SUSPENDED = 0xFFFFFFFF ∧
      t.out = Emission.flash "erase resume" (s.rdN Obj.ERASE_SUSPENDED) :: s.out) ∧
  (∀ (s : State) (r : ResetReq) (a : Nat) (l : List (Nat × ResetReq)), s.noHold → s.rst.requested = (a, r) :: l → a + 1000000 ≤ s.time → r.reach = rMgmt → 
    Completes (.resetRequestApply) s fun t => t.rst.requested = l ∧ Domain.mgmt ∈ t.rst.inReset) ∧
  (∀ (s : State) (x : Crossing) (h : Nat), s.powered = true → s.rst.inReset.contains .mgmt = false → s.upd.mgmtStep = false → s.crossings.find (.watchdog 4) = some x → x.held = some h → s.time < x.sentAt + 82 → 
    Completes (.mgmtWatchdogExpiry) s fun t => t.rst.inReset = s.rst.inReset ∧
      t.rd Obj.HW_EVENT_MERGES = (satInc Obj.HW_EVENT_MERGES.width (s.rdN Obj.HW_EVENT_MERGES) 1 : Nat))

/-- A write of RESET_REQUEST that passes the checks of R461 is answered OK and its reset waits as source 12. A write of 1 to STATION_RESET or MEM_REINIT puts the station's functions, and with MEM_REINIT its memory controller, in reset. DEVICE_REQUEST 4 in SERVICE sets the recovery flag and resets the management complex; 5 in RECOVERY clears the flag and resets it; 0 is answered OK and changes nothing else. -/
def Obligations.ResetAndDeviceRequestsAct : Prop :=
  (∀ (s : State) (who : Requester), s.accepts who Obj.RESET_REQUEST (0 * 256 + rCold : Nat) → 
    Completes (.resetRequestCold who) s fun t => t.rst.requested = s.rst.requested ++
        [(s.time, ({ source := 12, reach := rCold } : ResetReq))] ∧ answeredOk s t) ∧
  (∀ (s : State) (who : Requester), s.accepts who Obj.RESET_REQUEST (0 * 256 + rWarm : Nat) → 
    Completes (.resetRequestWarm who) s fun t => t.rst.requested = s.rst.requested ++
        [(s.time, ({ source := 12, reach := rWarm } : ResetReq))] ∧ answeredOk s t) ∧
  (∀ (s : State) (who : Requester), s.accepts who Obj.RESET_REQUEST (0 * 256 + rMgmt : Nat) → 
    Completes (.resetRequestMgmt who) s fun t => t.rst.requested = s.rst.requested ++
        [(s.time, ({ source := 12, reach := rMgmt } : ResetReq))] ∧ answeredOk s t) ∧
  (∀ (s : State) (who : Requester), s.accepts who Obj.RESET_REQUEST (0 * 256 + rSec : Nat) → 
    Completes (.resetRequestSec who) s fun t => t.rst.requested = s.rst.requested ++
        [(s.time, ({ source := 12, reach := rSec } : ResetReq))] ∧ answeredOk s t) ∧
  (∀ (s : State) (who : Requester) (p : Fin 2), s.accepts who Obj.RESET_REQUEST (p.val * 256 + rPort : Nat) → 
    Completes (.resetRequestPort who p) s fun t => t.rst.requested = s.rst.requested ++
        [(s.time, ({ source := 12, reach := rPort, target := some p.val } : ResetReq))] ∧ answeredOk s t) ∧
  (∀ (s : State) (who : Requester) (n : Fin 8), s.accepts who Obj.RESET_REQUEST (n.val * 256 + rStation : Nat) → 
    Completes (.resetRequestStation who n) s fun t => t.rst.requested = s.rst.requested ++
        [(s.time, ({ source := 12, reach := rStation, target := some n.val } : ResetReq))] ∧ answeredOk s t) ∧
  (∀ (s : State) (who : Requester) (n : Fin 8), s.noHold → s.accepts who Obj.STATION_RESET 1 n → 
    Completes (.stationReset who n true) s fun t => Domain.core n ∈ t.rst.inReset ∧ Domain.func n ∈ t.rst.inReset) ∧
  (∀ (s : State) (who : Requester) (n : Fin 8), s.noHold → s.accepts who Obj.MEM_REINIT 1 n → s.stationState n ≠ stOff → 
    Completes (.memReinit who n true) s fun t => Domain.memc n ∈ t.rst.inReset ∧ Domain.func n ∈ t.rst.inReset) ∧
  (∀ (s : State) (who : Requester), s.accepts who Obj.DEVICE_REQUEST 0 → 
    Completes (.deviceRequestNone who) s fun t => t = s.answer .ok) ∧
  (∀ (s : State) (who : Requester), s.noHold → s.accepts who Obj.DEVICE_REQUEST 4 → s.deviceState = 2 → 
    Completes (.deviceRequestRecovery who) s fun t => t.rst.recovery = true ∧ Domain.mgmt ∈ t.rst.inReset) ∧
  (∀ (s : State) (who : Requester), s.noHold → s.accepts who Obj.DEVICE_REQUEST 5 → s.deviceState = 4 → 
    Completes (.deviceRequestLeaveRecovery who) s fun t => t.rst.recovery = false ∧ Domain.mgmt ∈ t.rst.inReset)

/-- With VAON good and no source asserted or held, the release takes the first domain in reset, in the order of R562, out of reset; so does the end of a gap that has run its cycles, and the end of a step begins a gap while a domain is left. A checked fuse image ends the trim load with the device's number and gaps, the third failure ends it with the safe trim set; the boot ROM's acceptances bring SEC to READY and the device to SERVICE, a rejection to RECOVERY; settings and images of waiting stations are loaded. -/
def Obligations.DomainsAreReleasedInOrder : Prop :=
  (∀ (s : State) (strap : Bool) (d : Domain), s.rst.vaon = true → s.sourcesQuiet = true → s.rst.release = .idle → allDomains.find? (fun d => s.rst.inReset.contains d) = some d → 
    Completes (.releaseBegin strap) s fun t => t.rst.inReset = s.rst.inReset.filter (· ≠ d) ∧ t.rst.release = .step d ∧ (s.rst.wide ≠ [] → t.net.strap = strap)) ∧
  (∀ (s : State) (a d : Domain), s.rst.release = .gap a → s.gapOver a = true → allDomains.find? (fun d => s.rst.inReset.contains d) = some d → 
    Completes (.releaseGapElapsed) s fun t => t.rst.inReset = s.rst.inReset.filter (· ≠ d) ∧ t.rst.release = .step d) ∧
  (∀ (s : State) (d : Domain), s.rst.release = .step d → s.stepEnded d = true → 
    Completes (.releaseStepEnd) s fun t => t.rst = { s.rst with release := if s.rst.inReset.isEmpty then .idle else .gap d } ∧ t.timers.find .release = some s.time) ∧
  (∀ (s : State) (f : FuseImage), s.rst.release = .step .trim → s.rdN Obj.TRIM_STATE = 0 → 
    Completes (.trimLoadDone (some f)) s fun t => t.rd Obj.TRIM_STATE = 1 ∧ t.rd Obj.SERIAL_NUMBER = f.serial ∧ t.rd Obj.DOMAIN_GAP_CYCLES = f.domainGap ∧
      t.rd Obj.STATION_GAP_CYCLES = f.stationGap ∧ t.blob Obj.ORDERING_CODE = f.ordering ∧ t.isHwReady 1 = true) ∧
  (∀ (s : State), s.rst.release = .step .trim → s.rdN Obj.TRIM_STATE = 0 → s.rst.trimFails = 2 → 
    Completes (.trimLoadDone none) s fun t => t.rd Obj.TRIM_STATE = 2 ∧ t.isHwReady 1 = true ∧ t.rd Obj.TRIM_ATTEMPTS = 3) ∧
  (∀ (s : State) (d : Bytes), s.rst.inReset.contains .sec = false → s.rdN Obj.SEC_STATE = secBooting → s.rst.halted = false → s.rst.armed ≠ 3 → s.sec.restarting = false → 
    Completes (.secRestartBootDone (some d)) s fun t => t.rd Obj.SEC_STATE = (secReady : Nat) ∧ t.rst.secEnded = true ∧ t.rst.secImage = true) ∧
  (∀ (s : State) (d : Bytes), s.rst.inReset.contains .sec = false → s.rdN Obj.SEC_STATE = secBooting → s.rst.halted = false → s.rst.armed ≠ 3 → s.sec.restarting = true → 
    Completes (.secRestartBootDone (some d)) s fun t => t.rd Obj.SEC_STATE = (secScrubbing : Nat) ∧ t.rst.secImage = true) ∧
  (∀ (s : State) (d : Bytes), s.rst.inReset.contains .mgmt = false → s.rst.mgmtEnded = false → s.rst.secEnded = true → s.rst.armed = 0 → s.upd.mgmtStep = false → s.rst.recovery = false → s.rst.secImage = true → s.deviceState = 1 → 
    Completes (.bootRomMgmtAcceptance (some d) false) s fun t => t.rst.mgmtEnded = true ∧ t.rd Obj.DEVICE_STATE = 2) ∧
  (∀ (s : State) (trial : Bool), s.rst.inReset.contains .mgmt = false → s.rst.mgmtEnded = false → s.rst.secEnded = true → s.rst.armed = 0 → s.upd.mgmtStep = false → 
    Completes (.bootRomMgmtAcceptance none trial) s fun t => t.rst.mgmtEnded = true ∧ t.rst.recovery = false ∧ t.rd Obj.DEVICE_STATE = 4) ∧
  (∀ (s : State) (n : Nat) (l : List Nat), s.rst.loading = n :: l → s.stationState n ≠ stOff → 
    Completes (.settingsLoadStation) s fun t => t.rst.loading = l ∧ (t.ctl n).functionsOn = true ∧ t.isStReady n 2 = true) ∧
  (∀ (s : State) (digest : Bytes), s.isHwReady 4 = true → s.hwGated 0 = false → 
    Completes (.stnImageLoad digest) s fun t => ∀ n ∈ List.range 8, s.stationState n = stStarting → (s.ctl n).coreOn = true → s.rdN Obj.MEM_STATE n = 2 →
      (t.ctl n).image = true) ∧
  (∀ (s : State) (k : Fin 3), bit k (s.rdN Obj.HW_PLL_LOCKED) = true → 
    Completes (.hwPllLockLost k) s fun t => t.rd Obj.HW_PLL_LOCKED = (putBit k false (s.rdN Obj.HW_PLL_LOCKED) : Nat) ∧
      t.rd Obj.HW_PLL_LOCK_LOSSES = (satInc Obj.HW_PLL_LOCK_LOSSES.width (s.rdN Obj.HW_PLL_LOCK_LOSSES) 1 : Nat) ∧ t.hwGated k = true) ∧
  (∀ (s : State) (k : Fin 3), bit k (s.rdN Obj.HW_PLL_LOCKED) = false → (k = 0 → s.ports = [] ∧ s.slices = []) → 
    Completes (.hwPllRelocked k true) s fun t => t.rd Obj.HW_PLL_LOCKED = (putBit k true (s.rdN Obj.HW_PLL_LOCKED) : Nat) ∧ (s.rst.relocks.del k).find k = none) ∧
  (∀ (s : State) (who : Requester) (data : Bytes), s.served who = true → s.checkAccess who Obj.FUSE_MAP_PROGRAM true = none → data.length = 17 → s.deviceState = 3 → s.rst.sourceFuses = [] → s.rst.pinFuses = [] → (∀ e ∈ mapEntries 4 16 (ofLE (data.take 8)), fixedSource e.1 = false) → 
    Completes (.fuseMapProgram who data) s fun t => t.rst.sourceFuses = mapEntries 4 16 (ofLE (data.take 8)) ∧ t.rst.pinFuses = mapEntries 3 24 (ofLE (data.drop 8)) ∧ answeredOk s t) ∧
  (∀ (s : State), s.rst.mgmtEnded = true → s.rst.inReset.contains .mgmt = false → s.isHwReady 4 = false → s.hwGated 0 = false → s.ports = [] → s.slices = [] → 
    Completes (.mgmtReady false [] []) s fun t => (∀ b ∈ mgmtReadyBits, t.isHwReady b = true) ∧ t.rd Obj.MGMT_BOOTS = (satInc Obj.MGMT_BOOTS.width (s.rdN Obj.MGMT_BOOTS) 1 : Nat)) ∧
  (∀ (s : State) (who : Requester) (n : Fin 8) (on : Bool), s.accepts who Obj.FUNCTION_GATE (putBit 0 on (s.rdN Obj.FUNCTION_GATE n) : Nat) n → s.kindHeld n .zone = false → 
    Completes (.functionGateTouch who n on) s fun t => t.rd Obj.FUNCTION_GATE n = (putBit 0 on (s.rdN Obj.FUNCTION_GATE n) : Nat) ∧ t.rd Obj.GATE_PENDING n = 0xFF) ∧
  (∀ (s : State) (who : Requester) (n : Fin 8) (on : Bool), s.accepts who Obj.FUNCTION_GATE (putBit 1 on (s.rdN Obj.FUNCTION_GATE n) : Nat) n → 
    Completes (.functionGateHaptic who n on) s fun t => t.rd Obj.FUNCTION_GATE n = (putBit 1 on (s.rdN Obj.FUNCTION_GATE n) : Nat) ∧ t.rd Obj.GATE_PENDING n = 0xFF) ∧
  (∀ (s : State) (who : Requester) (n : Fin 8) (on : Bool), s.accepts who Obj.FUNCTION_GATE (putBit 2 on (s.rdN Obj.FUNCTION_GATE n) : Nat) n → s.kindHeld n .source = false → 
    Completes (.functionGateAudio who n on) s fun t => t.rd Obj.FUNCTION_GATE n = (putBit 2 on (s.rdN Obj.FUNCTION_GATE n) : Nat) ∧ t.rd Obj.GATE_PENDING n = 0xFF)

/-- An accepted STATION_TARGET 0, with no block held, takes a station that is not OFF to OFF; 2 takes an OFF station to STARTING and begins the wake of a sleeping one; 3 begins the entry of SLEEP. Start-up done with the image good leads to RUNNING, the ends of entry and wake to SLEEP with memory in self-refresh and to RUNNING. A lost edge link leads from RUNNING or SLEEP to FAULT with cause 1 and the safe image, a lost PLL is counted and leads to FAULT with its number. -/
def Obligations.StationsChangeState : Prop :=
  (∀ (s : State) (who : Requester) (n : Fin 8), s.accepts who Obj.STATION_TARGET 0 n → s.anyHeld n = false → s.stationState n ≠ stOff → ¬ (s.stationState n = stStarting ∧ s.changedNow n = true) → 
    Completes (.stationTargetOff who n) s fun t => t.stationState n = stOff ∧ t.rd Obj.STATION_TARGET n = 0 ∧ t.rd Obj.MEM_STATE n = 0 ∧
      t.ctl n = { since := some (s.stationState n, s.time) } ∧ t.out.head? = some (Emission.answer 0 0 0 [])) ∧
  (∀ (s : State) (who : Requester) (n : Fin 8), s.accepts who Obj.STATION_TARGET 2 n → s.stationState n = stOff → 
    Completes (.stationTargetRunning who n) s fun t => t.stationState n = stStarting ∧ t.rd Obj.STATION_TARGET n = 2 ∧ t.rd Obj.MEM_STATE n = 1 ∧
      (t.ctl n).coreOn = true ∧ (t.ctl n).functionsOn = true) ∧
  (∀ (s : State) (who : Requester) (n : Fin 8), s.accepts who Obj.STATION_TARGET 2 n → s.stationState n = stSleep → (s.ctl n).moving = none → 
    Completes (.stationTargetRunning who n) s fun t => (t.ctl n).moving = some false ∧ t.rd Obj.STATION_TARGET n = 2 ∧ (t.mmc n).wakeRetrain = true ∧ t.rd Obj.MEM_STATE n = 1 ∧ t.stationState n = stSleep) ∧
  (∀ (s : State) (who : Requester) (n : Fin 8), s.accepts who Obj.STATION_TARGET 3 n → s.anyHeld n = false → s.stationState n = stRunning → (s.ctl n).moving = none → 
    Completes (.stationTargetSleep who n) s fun t => (t.ctl n).moving = some true ∧ t.rd Obj.STATION_TARGET n = 3 ∧ t.stationState n = stRunning ∧ answeredOk s t) ∧
  (∀ (s : State) (n : Fin 8), s.stationState n = stStarting → s.rdN Obj.MEM_STATE n = 2 → (s.ctl n).coreOn = true → (s.ctl n).image = true → (s.ctl n).functionsOn = true → s.rdN Obj.STATION_TARGET n = 2 → 
    Completes (.stationStartupDone n true) s fun t => t.stationState n = stRunning ∧ (t.rd Obj.RASTER_STATE n = 1 ∨ t.rd Obj.RASTER_STATE n = 2) ∧ t.isStReady n 1 = true ∧ t.isStReady n 10 = true) ∧
  (∀ (s : State) (n : Fin 8), (s.ctl n).moving = some true → (s.ctl n).thenOther = false → s.stationState n = stRunning → s.memoryQuiet n = true → 
    Completes (.sleepEntryDone n) s fun t => t.stationState n = stSleep ∧ t.rd Obj.MEM_STATE n = 3 ∧ t.rd Obj.COMPOSE_SOURCE n = 0 ∧ t.rd Obj.RASTER_STATE n = 0 ∧
      (t.ctl n).moving = none) ∧
  (∀ (s : State) (n : Fin 8), (s.ctl n).moving = some false → (s.ctl n).thenOther = false → s.stationState n = stSleep → s.memoryQuiet n = true → 
    Completes (.wakeDone n) s fun t => t.stationState n = stRunning ∧ (t.rd Obj.RASTER_STATE n = 1 ∨ t.rd Obj.RASTER_STATE n = 2) ∧ (t.ctl n).moving = none) ∧
  (∀ (s : State) (n : Fin 8), s.stationState n = stRunning ∨ s.stationState n = stSleep → 
    Completes (.edgeLinkLost n) s fun t => t.stationState n = stFault ∧ t.rd Obj.STATION_FAULT_CAUSE n = 1 ∧ t.rd Obj.COMPOSE_SOURCE n = 1 ∧
      t.rd Obj.STATION_STATE_TIME n = s.time ∧ t.rd Obj.RASTER_STATE n = 3) ∧
  (∀ (s : State) (n k : Fin 8), s.stationState n = stRunning → s.pllStopped n k = false → bit k (s.rdN Obj.PLL_LOCKED n) = true → 
    Completes (.pllLockLost n k) s fun t => t.stationState n = stFault ∧ t.rd Obj.STATION_FAULT_CAUSE n = 2 ∧ t.rd Obj.PLL_FAULT_SOURCE n = k.val ∧
      t.rd Obj.PLL_LOCKED n = (clearBit k (s.rdN Obj.PLL_LOCKED n) : Nat) ∧
      t.rd Obj.PLL_LOCK_LOSSES n = (satInc Obj.PLL_LOCK_LOSSES.width (s.rdN Obj.PLL_LOCK_LOSSES n) 1 : Nat))

/-- When tREFI has passed a refreshing controller refreshes all banks. A temperature reading sets tREFI above 85 °C and MEM_HOT above 95 °C, cleared at 90 °C. A retraining falls due after its interval and starts in its place; its success ends it and is counted; success of the initial training reports capacity and rate, and leaves the memory READY, or to be filled where inline ECC is in use; the end of the fill makes it READY. One wrong bit counts a corrected error, two an uncorrectable one. A request that has waited 20 µs is promoted. -/
def Obligations.MemoryControllersAct : Prop :=
  (∀ (s : State) (n : Fin 8), s.refreshing n = true → (s.mmc n).refreshedAt + (s.mmc n).tRefi ≤ s.time → 
    Completes (.refreshDue n) s fun t => t.mmc n = { s.mmc n with refreshedAt := s.time } ∧ t.out = Emission.memCmd n "all-bank refresh" :: s.out ∧ t.mem = s.mem) ∧
  (∀ (s : State) (n : Fin 8) (temp : Int), s.rdN Obj.MEM_STATE n = 2 ∨ s.rdN Obj.MEM_STATE n = 4 → 
    Completes (.memTempRead n temp) s fun t => t.rd Obj.MEM_TEMP_C n = temp ∧ (t.mmc n).fastRefresh = decide (85 < temp) ∧
      (t.mmc n).hot = (if 95 < temp then true else if temp ≤ 90 then false else (s.mmc n).hot)) ∧
  (∀ (s : State) (n : Fin 8), (s.mmc n).trainedAt + s.rdN Obj.RETRAIN_INTERVAL_MS n * 1000000 ≤ s.time → s.rdN Obj.MEM_STATE n = 2 → (s.mmc n).retraining = none → (s.mmc n).dueAt = none → 
    Completes (.retrainDue n) s fun t => t.mmc n = { s.mmc n with dueAt := some s.time } ∧ t.mem = s.mem) ∧
  (∀ (s : State) (n : Fin 8), s.rdN Obj.MEM_STATE n = 2 → s.retrainPlace n = true → 
    Completes (.retrainStart n) s fun t => t.mmc n = { s.mmc n with retraining := some ⟨1, s.time⟩, dueAt := none } ∧ t.mem = s.mem) ∧
  (∀ (s : State) (n : Fin 8) (r : Retraining), (s.mmc n).retraining = some r → (s.mmc n).wakeRetrain = false → 
    Completes (.retrainAttemptDone n true) s fun t => (t.mmc n).retraining = none ∧ (t.mmc n).trainedAt = s.time ∧ (t.mmc n).trainedTemp = s.rd Obj.MEM_TEMP_C n ∧
      t.rd Obj.MEM_RETRAINS n = (satInc Obj.MEM_RETRAINS.width (s.rdN Obj.MEM_RETRAINS n) 1 : Nat) ∧ t.rd Obj.RETRAIN_LAST_TIME n = s.time ∧ t.mem = s.mem) ∧
  (∀ (s : State) (n : Fin 8) (k cap rate : Nat) (temp : Int), (s.mmc n).training = some k → (s.mmc n).eccOn = false → 
    Completes (.memTrainingAttemptDone n true cap rate temp) s fun t => t.rd Obj.MEM_CAPACITY_MIB n = cap ∧ t.rd Obj.MEM_USABLE_MIB n = cap ∧ t.rd Obj.MEM_STATE n = 2 ∧
      t.rd Obj.MEM_RATE_MTS n = (min rate (s.rdN Obj.MAX_RATE_MTS n) : Nat) ∧ (t.mmc n).training = none ∧ t.isStReady n 0 = true) ∧
  (∀ (s : State) (n : Fin 8) (k cap rate : Nat) (temp : Int), (s.mmc n).training = some k → (s.mmc n).eccOn = true → 
    Completes (.memTrainingAttemptDone n true cap rate temp) s fun t => t.rd Obj.MEM_CAPACITY_MIB n = cap ∧ t.rd Obj.MEM_USABLE_MIB n = (cap / 8 * 7 : Nat) ∧ (t.mmc n).filling = true ∧ (t.mmc n).training = none) ∧
  (∀ (s : State) (n : Fin 8), (s.mmc n).filling = true → 
    Completes (.memFillDone n) s fun t => (t.mmc n).filling = false ∧ t.rd Obj.MEM_STATE n = 2 ∧ t.isStReady n 0 = true ∧ t.mem = s.mem) ∧
  (∀ (s : State) (n : Fin 8) (addr : Nat) (r : MemReader), s.eccChecks n (addr / 8 * 8) = true → addr / 8 * 8 < s.usableBytes n → s.rdN Obj.MEM_STATE n = 2 → s.poison.contains (cellOf n (addr / 8 * 8) / 8) = false → 
    Completes (.memRead n addr r 1) s fun t => t.rd Obj.CE_COUNT n = (satInc Obj.CE_COUNT.width (s.rdN Obj.CE_COUNT n) 1 : Nat) ∧ t.mem = s.mem ∧ t.poison = s.poison) ∧
  (∀ (s : State) (n : Fin 8) (addr : Nat) (r : MemReader), s.eccChecks n (addr / 8 * 8) = true → addr / 8 * 8 < s.usableBytes n → s.rdN Obj.MEM_STATE n = 2 → 
    Completes (.memRead n addr r 2) s fun t => t.rd Obj.UE_COUNT n = (satInc Obj.UE_COUNT.width (s.rdN Obj.UE_COUNT n) 1 : Nat) ∧ t.rd Obj.UE_ADDR n = (addr / 8 * 8 : Nat) ∧
      t.rd Obj.UE_TIME n = s.time ∧
      t.rd Obj.UE_KIND n = (if s.poison.contains (cellOf n (addr / 8 * 8) / 8) then 2 else 1)) ∧
  (∀ (s : State) (n : Fin 8) (cls since : Nat), cls = 4 ∨ cls = 5 → since + 20000 ≤ s.time → s.rdN Obj.MEM_STATE n = 2 → 
    Completes (.requestPromotion n cls since) s fun t => t.mmc n = { s.mmc n with promoted := (s.mmc n).promoted ++ [⟨cls, since⟩] } ∧ t.mem = s.mem)

/-- A RUNNING station with room takes the oldest descriptor of its sluice: a well-formed one with its fence in the windows becomes a job of the table. A job whose payload can be read and breaks no rule takes what the payload names: a render job its area, attachments, bin buffer, draw list and handles, a compute job its handle, sets, push data and workgroups, a PIPELINE_LOAD its record, a PIPELINE_DROP its handle. With a fence it then waits for the fence; without one it goes on and keeps all that. One whose fence value is reached loses the wait. A NOP, or a PIPELINE_DROP of a loaded handle, alone in its table ends OK, and a PIPELINE_LOAD alone there whose modules can be read stands at the translator. -/
def Obligations.JobsAreTakenAndQueued : Prop :=
  (∀ (s : State) (n : Fin 8) (d : Descriptor) (rest : List Descriptor), s.ingress.getD n [] = d :: rest → (s.ras n).jobs.length < 1024 → s.stationState n = stRunning → (s.ctl n).coreOn = true → s.descriptorOk n (ofLE d.data) = true → (∀ f ∈ (jobOf 0 (ofLE d.data)).fenceWait.toList, s.inside (.tenant (jobOf 0 (ofLE d.data)).tenant) n 1 f.1 8 = true) → 
    Completes (.jobTake n) s fun t => (t.ras n).jobs = (s.ras n).jobs ++ [jobOf (s.ras n).nextKey (ofLE d.data)] ∧ (t.ras n).nextKey = (s.ras n).nextKey + 1 ∧
      t.ingress.getD n [] = rest ∧ t.mem = s.mem) ∧
  (∀ (s : State) (n : Fin 8) (key : Nat) (j : Job), s.job? n key = some j → j.phase = .taken → j.jtype = jtNop → j.payloadSize = 0 → j.fenceWait ≠ none → 
    Completes (.jobNop n key) s fun t => t.job? n key = some { j with phase := .fenceWait }) ∧
  (∀ (s : State) (n : Fin 8) (key : Nat) (j : Job), s.job? n key = some j → j.phase = .taken → j.jtype = jtNop → j.payloadSize = 0 → j.fenceWait = none → 
    Completes (.jobNop n key) s fun t => t.keepsJob n key j) ∧
  (∀ (s : State) (n : Fin 8) (key : Nat) (j : Job), (s.ras n).jobs = [j] → j.key = key → j.phase = .taken → j.jtype = jtNop → j.payloadSize = 0 → j.fenceWait = none → 
    Completes (.jobNop n key) s fun t => t.job? n key = some { j with phase := .ended csOk 0, saved := [], units := [], heldParts := [], preempts := false }) ∧
  (∀ (s : State) (n : Fin 8) (key : Nat) (j : Job) (h b list : Bytes), s.job? n key = some j → j.phase = .taken → j.jtype = jtRender → s.jobRead n j.tenant j.payloadAddr 64 = some h → renderHeadOk h j.payloadSize = true → s.jobRead n j.tenant (j.payloadAddr + 64) (32 * renderCount h) = some b → s.jobRead n j.tenant (fieldLE h 0x18 8) (fieldLE h 0x14 4) = some list → renderAttsOk h (renderAtts (renderCount h) b) = true → tablesOverlap (renderAtts (renderCount h) b) (fieldLE h 0 2) (fieldLE h 2 2) = false → ({ j with atts := renderAtts (renderCount h) b, width := fieldLE h 0 2, height := fieldLE h 2 2 } : Job).depthScratch < fieldLE h 0x10 4 → ((renderAtts (renderCount h) b).map fun a => a.bps * a.samples).sum ≤ 256 → j.fenceWait ≠ none → 
    Completes (.jobRender n key) s fun t => t.job? n key = some { j with atts := renderAtts (renderCount h) b, width := fieldLE h 0 2, height := fieldLE h 2 2, binAddr := fieldLE h 8 8, binSize := fieldLE h 0x10 4, drawAddr := fieldLE h 0x18 8, drawSize := fieldLE h 0x14 4, handles := (drawHandles list (list.length / 32)).eraseDups, draw := { j.draw with ended := fieldLE h 0x14 4 = 0 }, phase := .fenceWait }) ∧
  (∀ (s : State) (n : Fin 8) (key : Nat) (j : Job) (h b list : Bytes), s.job? n key = some j → j.phase = .taken → j.jtype = jtRender → s.jobRead n j.tenant j.payloadAddr 64 = some h → renderHeadOk h j.payloadSize = true → s.jobRead n j.tenant (j.payloadAddr + 64) (32 * renderCount h) = some b → s.jobRead n j.tenant (fieldLE h 0x18 8) (fieldLE h 0x14 4) = some list → renderAttsOk h (renderAtts (renderCount h) b) = true → tablesOverlap (renderAtts (renderCount h) b) (fieldLE h 0 2) (fieldLE h 2 2) = false → ({ j with atts := renderAtts (renderCount h) b, width := fieldLE h 0 2, height := fieldLE h 2 2 } : Job).depthScratch < fieldLE h 0x10 4 → ((renderAtts (renderCount h) b).map fun a => a.bps * a.samples).sum ≤ 256 → j.fenceWait = none → 
    Completes (.jobRender n key) s fun t => t.keepsJob n key { j with atts := renderAtts (renderCount h) b, width := fieldLE h 0 2, height := fieldLE h 2 2, binAddr := fieldLE h 8 8, binSize := fieldLE h 0x10 4, drawAddr := fieldLE h 0x18 8, drawSize := fieldLE h 0x14 4, handles := (drawHandles list (list.length / 32)).eraseDups, draw := { j.draw with ended := fieldLE h 0x14 4 = 0 } }) ∧
  (∀ (s : State) (n : Fin 8) (key : Nat) (j : Job) (d : DispatchRecord) (h : Bytes) (sets : FMap Nat (List BindingEntry)), s.job? n key = some j → j.phase = .taken → j.jtype = jtCompute → j.payloadSize = 64 → s.jobRead n j.tenant j.payloadAddr 64 = some h → d.ok = true → s.readSets n j.tenant d.sets = .got sets → (∀ p ∈ d.push.toList, s.readPush n j.tenant p = .got p) → j.fenceWait ≠ none → 
    Completes (.jobCompute n key d) s fun t => t.job? n key = some { j with handles := [d.handle], sets := sets, push := d.push, units := (List.range (d.x * d.y * d.z)).map .workgroup, phase := .fenceWait }) ∧
  (∀ (s : State) (n : Fin 8) (key : Nat) (j : Job) (d : DispatchRecord) (h : Bytes) (sets : FMap Nat (List BindingEntry)), s.job? n key = some j → j.phase = .taken → j.jtype = jtCompute → j.payloadSize = 64 → s.jobRead n j.tenant j.payloadAddr 64 = some h → d.ok = true → s.readSets n j.tenant d.sets = .got sets → (∀ p ∈ d.push.toList, s.readPush n j.tenant p = .got p) → j.fenceWait = none → 
    Completes (.jobCompute n key d) s fun t => t.keepsJob n key { j with handles := [d.handle], sets := sets, push := d.push, units := (List.range (d.x * d.y * d.z)).map .workgroup }) ∧
  (∀ (s : State) (n : Fin 8) (key : Nat) (j : Job) (r : PipelineRecord) (b : Bytes), s.job? n key = some j → j.phase = .taken → j.jtype = jtLoad → r.stages.length = 1 ∨ r.stages.length = 2 → j.payloadSize = pipelineRecordSize r.stages.length → s.jobRead n j.tenant j.payloadAddr j.payloadSize = some b → j.fenceWait ≠ none → 
    Completes (.jobPipelineLoad n key r) s fun t => t.job? n key = some { j with pipeHandle := r.handle, record := some r, phase := .fenceWait }) ∧
  (∀ (s : State) (n : Fin 8) (key : Nat) (j : Job) (r : PipelineRecord) (b : Bytes), s.job? n key = some j → j.phase = .taken → j.jtype = jtLoad → r.stages.length = 1 ∨ r.stages.length = 2 → j.payloadSize = pipelineRecordSize r.stages.length → s.jobRead n j.tenant j.payloadAddr j.payloadSize = some b → j.fenceWait = none → 
    Completes (.jobPipelineLoad n key r) s fun t => t.keepsJob n key { j with pipeHandle := r.handle, record := some r }) ∧
  (∀ (s : State) (n : Fin 8) (key : Nat) (j : Job) (r : PipelineRecord) (b : Bytes) (modules : List Bytes), (s.ras n).jobs = [j] → j.key = key → j.phase = .taken → j.jtype = jtLoad → r.stages.length = 1 ∨ r.stages.length = 2 → j.payloadSize = pipelineRecordSize r.stages.length → s.jobRead n j.tenant j.payloadAddr j.payloadSize = some b → j.fenceWait = none → (∀ e ∈ r.stages, e.size ≤ 4 * 2 ^ 20) → s.readModules n j.tenant r = some modules → 
    Completes (.jobPipelineLoad n key r) s fun t => t.job? n key = some { j with pipeHandle := r.handle, record := some r, phase := .translating } ∧
      t.translator.queue = s.translator.queue ++ [{ station := n, tenant := j.tenant, handle := r.handle, job := some key, modules := modules, fixed := r.fixed }]) ∧
  (∀ (s : State) (n : Fin 8) (key : Nat) (j : Job) (handle : Nat) (b : Bytes), s.job? n key = some j → j.phase = .taken → j.jtype = jtDrop → j.payloadSize = 4 → s.jobRead n j.tenant j.payloadAddr 4 = some b → j.fenceWait ≠ none → 
    Completes (.jobPipelineDrop n key handle) s fun t => t.job? n key = some { j with pipeHandle := handle, record := none, phase := .fenceWait }) ∧
  (∀ (s : State) (n : Fin 8) (key : Nat) (j : Job) (handle : Nat) (b : Bytes), s.job? n key = some j → j.phase = .taken → j.jtype = jtDrop → j.payloadSize = 4 → s.jobRead n j.tenant j.payloadAddr 4 = some b → j.fenceWait = none → 
    Completes (.jobPipelineDrop n key handle) s fun t => t.keepsJob n key { j with pipeHandle := handle, record := none }) ∧
  (∀ (s : State) (n : Fin 8) (key : Nat) (j : Job) (handle : Nat) (b : Bytes) (e : CacheEntry), (s.ras n).jobs = [j] → j.key = key → j.phase = .taken → j.jtype = jtDrop → j.payloadSize = 4 → s.jobRead n j.tenant j.payloadAddr 4 = some b → j.fenceWait = none → s.pipe n j.tenant handle = some e → 
    Completes (.jobPipelineDrop n key handle) s fun t => t.job? n key = some { j with pipeHandle := handle, record := none, phase := .ended csOk 0, saved := [], units := [], heldParts := [], preempts := false } ∧
      { e with dropPending := true } ∈ (t.ras n).cache ∧ t.pipe n j.tenant handle ≠ some e) ∧
  (∀ (s : State) (n : Fin 8) (key : Nat) (j : Job) (a v : Nat) (b : Bytes), s.job? n key = some j → j.phase = .fenceWait → j.fenceWait = some (a, v) → s.jobRead n j.tenant a 8 = some b → v ≤ ofLE b → 
    Completes (.fenceWaitSatisfied n key) s fun t => t.keepsJob n key { j with fenceWait := none })

/-- While a render job is bound, its command list is read a command of 32 bytes at a time. END ends the list; BIND_PIPELINE, BIND_SET, PUSH_DATA, BIND_VERTEX, BIND_INDEX, SET_VIEWPORT and SET_SCISSOR set the part of the binding state they name; the draws give the primitives of their instances submission sequences in order, drawn by the bound pipeline. Each then stands at the next command, the last one at the end of the list, and the job keeps all else it names and has been given. -/
def Obligations.DrawListsBindState : Prop :=
  (∀ (s : State) (n : Fin 8) (key : Nat) (j : Job) (b : Bytes), s.binding n key = some j → s.jobRead n j.tenant (j.drawAddr + j.draw.offset) 32 = some b → byteAt b 0 = 0 → 
    Completes (.drawListEnd n key) s fun t => t.keepsJob n key { j with draw := { j.draw with offset := j.draw.offset + 32, ended := true } }) ∧
  (∀ (s : State) (n : Fin 8) (key : Nat) (j : Job) (b : Bytes), s.binding n key = some j → s.jobRead n j.tenant (j.drawAddr + j.draw.offset) 32 = some b → byteAt b 0 = 1 → (s.pipeOf n j (fieldLE b 4 4)).isSome = true → 
    Completes (.bindPipeline n key) s fun t => t.keepsJob n key { j with draw := { j.draw with offset := j.draw.offset + 32, ended := decide (j.drawSize ≤ j.draw.offset + 32), pipeline := some (fieldLE b 4 4) } }) ∧
  (∀ (s : State) (n : Fin 8) (key : Nat) (j : Job) (b : Bytes) (es : List BindingEntry), s.binding n key = some j → s.jobRead n j.tenant (j.drawAddr + j.draw.offset) 32 = some b → byteAt b 0 = 2 → byteAt b 4 ≤ 7 → s.readSet n j.tenant ⟨byteAt b 4, fieldLE b 5 8, fieldLE b 13 2⟩ = .got es → 
    Completes (.bindSet n key) s fun t => t.keepsJob n key { j with draw := { j.draw with offset := j.draw.offset + 32, ended := decide (j.drawSize ≤ j.draw.offset + 32), sets := j.draw.sets.put (byteAt b 4) es } }) ∧
  (∀ (s : State) (n : Fin 8) (key : Nat) (j : Job) (b : Bytes), s.binding n key = some j → s.jobRead n j.tenant (j.drawAddr + j.draw.offset) 32 = some b → byteAt b 0 = 3 → 4 ≤ fieldLE b 12 2 → fieldLE b 12 2 ≤ 256 → (s.jobRead n j.tenant (fieldLE b 4 8) (fieldLE b 12 2)).isSome = true → 
    Completes (.pushData n key) s fun t => t.keepsJob n key { j with draw := { j.draw with offset := j.draw.offset + 32, ended := decide (j.drawSize ≤ j.draw.offset + 32), push := some (fieldLE b 4 8, fieldLE b 12 2) } }) ∧
  (∀ (s : State) (n : Fin 8) (key : Nat) (j : Job) (b : Bytes), s.binding n key = some j → s.jobRead n j.tenant (j.drawAddr + j.draw.offset) 32 = some b → byteAt b 0 = 4 → byteAt b 4 ≤ 15 → 
    Completes (.bindVertex n key) s fun t => t.keepsJob n key { j with draw := { j.draw with offset := j.draw.offset + 32, ended := decide (j.drawSize ≤ j.draw.offset + 32), vertex := j.draw.vertex.put (byteAt b 4) (fieldLE b 5 8, fieldLE b 13 4, fieldLE b 17 2) } }) ∧
  (∀ (s : State) (n : Fin 8) (key : Nat) (j : Job) (b : Bytes), s.binding n key = some j → s.jobRead n j.tenant (j.drawAddr + j.draw.offset) 32 = some b → byteAt b 0 = 5 → byteAt b 16 = 16 ∨ byteAt b 16 = 32 → 
    Completes (.bindIndex n key) s fun t => t.keepsJob n key { j with draw := { j.draw with offset := j.draw.offset + 32, ended := decide (j.drawSize ≤ j.draw.offset + 32), index := some (fieldLE b 4 8, fieldLE b 12 4, byteAt b 16) } }) ∧
  (∀ (s : State) (n : Fin 8) (key : Nat) (j : Job) (b : Bytes) (h p : Nat) (e : CacheEntry), s.binding n key = some j → s.jobRead n j.tenant (j.drawAddr + j.draw.offset) 32 = some b → byteAt b 0 = 6 → j.draw.pipeline = some h → s.pipeOf n j h = some e → p = primsOf e.fixed.topology (fieldLE b 4 4) * fieldLE b 8 4 → 
    Completes (.draw n key) s fun t => t.keepsJob n key { j with draw := { j.draw with offset := j.draw.offset + 32, ended := decide (j.drawSize ≤ j.draw.offset + 32), nextSeq := j.draw.nextSeq + p, runs := j.draw.runs ++ (if p = 0 then [] else [⟨j.draw.nextSeq, p, h⟩]) } }) ∧
  (∀ (s : State) (n : Fin 8) (key : Nat) (j : Job) (b : Bytes) (h p : Nat) (e : CacheEntry) (a c w : Nat), s.binding n key = some j → s.jobRead n j.tenant (j.drawAddr + j.draw.offset) 32 = some b → byteAt b 0 = 7 → j.draw.pipeline = some h → s.pipeOf n j h = some e → j.draw.index = some (a, c, w) → (s.jobRead n j.tenant (a + fieldLE b 12 4 * (w / 8)) (fieldLE b 4 4 * (w / 8))).isSome = true → p = primsOf e.fixed.topology (fieldLE b 4 4) * fieldLE b 8 4 → 
    Completes (.drawIndexed n key) s fun t => t.keepsJob n key { j with draw := { j.draw with offset := j.draw.offset + 32, ended := decide (j.drawSize ≤ j.draw.offset + 32), nextSeq := j.draw.nextSeq + p, runs := j.draw.runs ++ (if p = 0 then [] else [⟨j.draw.nextSeq, p, h⟩]) } }) ∧
  (∀ (s : State) (n : Fin 8) (key : Nat) (j : Job) (b : Bytes) (h p : Nat) (e : CacheEntry) (args : Bytes), s.binding n key = some j → s.jobRead n j.tenant (j.drawAddr + j.draw.offset) 32 = some b → byteAt b 0 = 8 → byteAt b 16 = 0 → s.jobRead n j.tenant (fieldLE b 4 8) (fieldLE b 12 4 * 16) = some args → j.draw.pipeline = some h → s.pipeOf n j h = some e → p = ((List.range (fieldLE b 12 4)).map fun k => primsOf e.fixed.topology (fieldLE args (16 * k) 4) * fieldLE args (16 * k + 4) 4).sum → 
    Completes (.drawIndirect n key) s fun t => t.keepsJob n key { j with draw := { j.draw with offset := j.draw.offset + 32, ended := decide (j.drawSize ≤ j.draw.offset + 32), nextSeq := j.draw.nextSeq + p, runs := j.draw.runs ++ (if p = 0 then [] else [⟨j.draw.nextSeq, p, h⟩]) } }) ∧
  (∀ (s : State) (n : Fin 8) (key : Nat) (j : Job) (b : Bytes) (h p : Nat) (e : CacheEntry) (a c w : Nat) (args : Bytes), s.binding n key = some j → s.jobRead n j.tenant (j.drawAddr + j.draw.offset) 32 = some b → byteAt b 0 = 8 → byteAt b 16 = 1 → s.jobRead n j.tenant (fieldLE b 4 8) (fieldLE b 12 4 * 20) = some args → j.draw.pipeline = some h → s.pipeOf n j h = some e → j.draw.index = some (a, c, w) → (∀ k ∈ List.range (fieldLE b 12 4), (s.jobRead n j.tenant (a + fieldLE args (20 * k + 8) 4 * (w / 8)) (fieldLE args (20 * k) 4 * (w / 8))).isSome = true) → p = ((List.range (fieldLE b 12 4)).map fun k => primsOf e.fixed.topology (fieldLE args (20 * k) 4) * fieldLE args (20 * k + 4) 4).sum → 
    Completes (.drawIndirect n key) s fun t => t.keepsJob n key { j with draw := { j.draw with offset := j.draw.offset + 32, ended := decide (j.drawSize ≤ j.draw.offset + 32), nextSeq := j.draw.nextSeq + p, runs := j.draw.runs ++ (if p = 0 then [] else [⟨j.draw.nextSeq, p, h⟩]) } }) ∧
  (∀ (s : State) (n : Fin 8) (key : Nat) (j : Job) (b : Bytes), s.binding n key = some j → s.jobRead n j.tenant (j.drawAddr + j.draw.offset) 32 = some b → byteAt b 0 = 9 → 
    Completes (.setViewport n key) s fun t => t.keepsJob n key { j with draw := { j.draw with offset := j.draw.offset + 32, ended := decide (j.drawSize ≤ j.draw.offset + 32), viewport := (List.range 6).map fun k => fieldLE b (4 + 4 * k) 4 } }) ∧
  (∀ (s : State) (n : Fin 8) (key : Nat) (j : Job) (b : Bytes), s.binding n key = some j → s.jobRead n j.tenant (j.drawAddr + j.draw.offset) 32 = some b → byteAt b 0 = 10 → 
    Completes (.setScissor n key) s fun t => t.keepsJob n key { j with draw := { j.draw with offset := j.draw.offset + 32, ended := decide (j.drawSize ≤ j.draw.offset + 32), scissor := (List.range 4).map fun k => fieldLE b (4 + 4 * k) 4 } })

/-- A unit that ends leaves its core, and a batch that fits joins the bins; a saved context stands in its slot with its check value and its core is free; a restored one whose check value holds resumes and frees its slot. A job past its deadline point becomes urgent, a fragment unit past the yield limit returns to its job, an access outside the windows or more core time than the limit ends the job. Completion takes an ended job from the table and counts it. What follows from the table follows at once. -/
def Obligations.UnitsRunAndJobsEnd : Prop :=
  (∀ (s : State) (n : Fin 8) (core : Fin 4) (k key w t0 : Nat) (r : UnitResult) (j : Job), (s.core n core).job = some key → (s.core n core).units[k]? = some (.workgroup w, t0) → (s.core n core).saving = none → (s.core n core).restoring = none → s.job? n key = some j → j.units ≠ [] → 
    Completes (.unitComplete n core k r) s fun t => t = (s.setCore n core { s.core n core with units := unitsAfter s.time k (s.core n core).units }).settle n) ∧
  (∀ (s : State) (n : Fin 8) (core : Fin 4) (k key first p t0 : Nat) (r : UnitResult), (s.core n core).job = some key → (s.core n core).saving = none → (s.core n core).restoring = none → (s.core n core).units[k]? = some (.binBatch first p, t0) → 
    Completes (.unitComplete n core k r) s fun t => t = ((s.setCore n core { s.core n core with units := unitsAfter s.time k (s.core n core).units }).batchDone n key first p r).settle n) ∧
  (∀ (s : State) (n : Fin 8) (core : Fin 4) (k key first p t0 : Nat) (r : UnitResult) (j : Job), (s.core n core).job = some key → (s.core n core).saving = none → (s.core n core).restoring = none → (s.core n core).units[k]? = some (.binBatch first p, t0) → s.job? n key = some j → j.fragPhase = true → 
    Completes (.unitComplete n core k r) s fun t => t.keepsJob n key { j with heldBins := j.heldBins ++ [(first, r.prims.take p ++ List.replicate (p - r.prims.length) {})] }) ∧
  (∀ (s : State) (n : Fin 8) (core : Fin 4) (k key tx ty part parts first p t0 : Nat) (r : UnitResult) (u : State), (s.core n core).job = some key → (s.core n core).saving = none → (s.core n core).restoring = none → (s.core n core).units[k]? = some (.tile tx ty part parts first p, t0) → (s.setCore n core { s.core n core with units := unitsAfter s.time k (s.core n core).units }).tileDone n key core tx ty part parts first p r = some u → 
    Completes (.unitComplete n core k r) s fun t => t = u.settle n) ∧
  (∀ (s : State) (n : Fin 8) (key : Nat) (j : Job) (d : Int), s.job? n key = some j → j.phase = .admitted → j.deadline = some d → d ≤ (s.time : Int) → j.urgent = false → j.targeted = true → 
    Completes (.deadlinePoint n key) s fun t => t = (s.setJob n { j with urgent := true, preempts := true }).settle n) ∧
  (∀ (s : State) (n : Fin 8) (core : Fin 4) (context : Bytes) (key slot since : Nat), (s.core n core).job = some key → (s.core n core).saving = some (slot, since) → context.length ≤ slotBytes → 
    Completes (.contextSaveDone n core context) s fun t => t = ((((s.store n (slotAddr slot) context).updJob n key fun j => { j with saved := j.saved ++ [{ slot := slot, len := context.length, crc := crc32c context, units := (s.core n core).units.map (·.1) }] }).setCore n core {}).wr Obj.SAVE_TIME_MAX
        ((max (s.rdN Obj.SAVE_TIME_MAX n) (min (s.time - since) (2 ^ 32 - 1)) : Nat)) n).settle n) ∧
  (∀ (s : State) (n : Fin 8) (core : Fin 4) (key : Nat) (j : Job) (x : SavedCtx), (s.core n core).job = some key → (s.core n core).restoring = some x → s.job? n key = some j → crc32c (s.load n (slotAddr x.slot) x.len) = x.crc → 
    Completes (.contextRestoreDone n core) s fun t => t = ((((s.setCore n core { job := some j.key, units := x.units.map fun u => (u, s.time) }).setRas n { (s.setCore n core { job := some j.key, units := x.units.map fun u => (u, s.time) }).ras n with slotsUsed := (s.ras n).slotsUsed.filter (· ≠ x.slot) }).syncSlots n)).settle n) ∧
  (∀ (s : State) (n : Fin 8) (core : Fin 4) (j u : Job) (tx ty part parts first p since : Nat) (d : Int) (l : List (WorkUnit × Nat)), (s.core n core).job.bind (s.job? n) = some j → (s.core n core).units = (.tile tx ty part parts first p, since) :: l → s.rdN Obj.TILE_YIELD_LIMIT n ≠ 0 → j.tier ≠ 0 → s.sideEffectFree n j tx ty first p = true → u ∈ (s.ras n).jobs → u.urgent = true → u.targeted = true → u.live = true → u.above j = true → u.deadline = some d → ((s.rdN Obj.TILE_YIELD_LIMIT n * 1000 : Nat) : Int) < (s.time : Int) - max d since → 
    Completes (.tileYieldLimit n core) s fun t => t = (((s.setJob n (j.giveBack core ((s.core n core).units.map (·.1)))).setCore n core {}).count Obj.TILES_ABANDONED n).settle n) ∧
  (∀ (s : State) (n : Fin 8) (key addr len : Nat) (write : Bool) (j : Job), s.job? n key = some j → j.phase = .admitted → s.inside (.tenant j.tenant) n (if write then 2 else 1) addr len = false → 
    Completes (.jobAccessFault n key addr len write) s fun t => t = (s.endJob n key csAccessFault).settle n) ∧
  (∀ (s : State) (n : Fin 8) (key : Nat) (j : Job), s.job? n key = some j → j.phase = .admitted → s.rdN Obj.JOB_TIME_LIMIT n * 1000000 < j.coreNs → 
    Completes (.jobTimeLimit n key) s fun t => t = (s.endJob n key csTimeLimit).settle n) ∧
  (∀ (s : State) (n : Fin 8) (key st detail : Nat) (j : Job), s.job? n key = some j → j.phase = .ended st detail → 
    Completes (.jobComplete n key) s fun t => t.job? n key = none ∧ t.rd Obj.JOBS_COMPLETED n = ((s.rdN Obj.JOBS_COMPLETED n + 1) % 2 ^ 64 : Nat))

/-- While the translator is ready and free it takes the oldest request. A translation that fails ends its job with TRANSLATION_FAILED, its reason and its capacity word; one that succeeds and finds room is entered for its tenant and handle and ends its job OK. A dropped handle that no queued or running job names is freed, and a background retranslation replaces the entry when no running job uses it. -/
def Obligations.TranslationsEnterTheCache : Prop :=
  (∀ (s : State) (q : TransReq) (l : List TransReq), s.translator.current = none → s.translator.queue = q :: l → s.isHwReady 5 = true → s.hwGated 0 = false → 
    Completes (.translationStart) s fun t => t = { s with translator := { s.translator with queue := l, current := some q } }) ∧
  (∀ (s : State) (q : TransReq) (l : List TransReq), s.translator.current = none → s.translator.queue = [] → s.translator.background = q :: l → s.isHwReady 5 = true → s.hwGated 0 = false → 
    Completes (.translationStart) s fun t => t = { s with translator := { s.translator with background := l, current := some q } }) ∧
  (∀ (s : State) (res : TransResult) (q : TransReq) (key reason cap : Nat), s.translator.current = some q → q.job = some key → s.hwGated 0 = false → translationRefusal q.modules q.fixed.topology res = some (reason, cap) → 
    Completes (.translationComplete res) s fun t => t = (((({ s with translator := { s.translator with current := none } } : State)).endJob q.station key csTranslationFailed (reason * 2 ^ 16 + cap)).wr Obj.TRANSLATIONS_PENDING ((((({ s with translator := { s.translator with current := none } } : State)).endJob q.station key csTranslationFailed (reason * 2 ^ 16 + cap)).pendingLoads q.station : Nat)) q.station).settle q.station) ∧
  (∀ (s : State) (res : TransResult) (q : TransReq) (key : Nat) (u : State), s.translator.current = some q → q.job = some key → s.hwGated 0 = false → translationRefusal q.modules q.fixed.topology res = none → ({ s with translator := { s.translator with current := none } } : State).cachePut q.station q res = (u, true) → 
    Completes (.translationComplete res) s fun t => t = (((u).endJob q.station key csOk).wr Obj.TRANSLATIONS_PENDING ((((u).endJob q.station key csOk).pendingLoads q.station : Nat)) q.station).settle q.station) ∧
  (∀ (s : State) (res : TransResult) (q : TransReq) (key : Nat) (u : State), s.translator.current = some q → q.job = some key → s.hwGated 0 = false → translationRefusal q.modules q.fixed.topology res = none → ({ s with translator := { s.translator with current := none } } : State).cachePut q.station q res = (u, false) → 
    Completes (.translationComplete res) s fun t => t = (((u).endJob q.station key csTranslationFailed (4 * 2 ^ 16)).wr Obj.TRANSLATIONS_PENDING ((((u).endJob q.station key csTranslationFailed (4 * 2 ^ 16)).pendingLoads q.station : Nat)) q.station).settle q.station) ∧
  (∀ (s : State) (n : Fin 8) (tt : Fin 512) (handle : Nat), s.handleInUse n tt handle = false → 
    Completes (.pipelineDropFree n tt handle) s fun t => (t.ras n).cache = ((s.ras n).cache.filter fun e => !(e.tenant = tt.val && e.handle = handle && e.dropPending)) ∧
      t.rd Obj.CACHE_USED n 0 tt = (((((s.ras n).cache.filter fun e => !(e.tenant = tt.val && e.handle = handle && e.dropPending)).filter fun e => e.tenant = tt.val).map CacheEntry.sizeKib).sum : Nat)) ∧
  (∀ (s : State) (n : Fin 8) (tt : Fin 512) (handle : Nat) (e : CacheEntry) (size bytes version : Nat) (effects : Bool), ((s.ras n).jobs.any fun j => j.tenant = tt.val && j.handles.contains handle && j.started && j.live) = false → (s.ras n).jobs = [] → (s.ras n).cache = [e] → e.tenant = tt.val → e.handle = handle → e.replacedFor = none → e.renewed = some (size, bytes, effects, version) → 
    Completes (.retranslationSwap n tt handle) s fun t => (t.ras n).cache = [{ e with sizeKib := size, stateBytes := bytes, sideEffects := effects, version := version, withdrawn := false, renewed := none }] ∧
      t.rd Obj.CACHE_USED n 0 tt = (size : Nat)) ∧
  (∀ (s : State) (n : Fin 8) (tt : Fin 512) (handle : Nat), ((s.ras n).jobs.any fun j => j.tenant = tt.val && j.handles.contains handle && j.started && j.live) = false → 
    Completes (.retranslationSwap n tt handle) s fun t => t = ((s.setRas n { s.ras n with cache := (s.ras n).cache.map fun e => match e.renewed with | some (size, bytes, effects, version) => if e.tenant = tt.val && e.handle = handle && e.replacedFor.isNone then { e with sizeKib := size, stateBytes := bytes, sideEffects := effects, version := version, withdrawn := false, renewed := none } else e | none => e }).syncCache n tt).settle n)

/-- An accepted commit, by dictionary or page, arms a copy of the shadow of each set it names and each region tied to them. A frame boundary advances FRAME_COUNTER and asks for the latch; the latch leaves no set armed and, in RUNNING, composes the stack; a fix point is the first line of the coming frame. A line is composed into the transom in order, fetched data is kept, a blank line only counts, an active line is emitted with the frame's number, and frozen monitors count nominal periods. -/
def Obligations.CompositionAdvances : Prop :=
  (∀ (s : State) (who : Requester) (n : Fin 8) (mask : Nat), s.accepts who Obj.LAYER_COMMIT mask n → s.isStReady n 3 = true → mask ≠ 0 → (setsOf mask (s.tiedRegions n who mask)) ≠ [] → s.firstRefusal n who ((masksOf (setsOf mask (s.tiedRegions n who mask))).2 ||| 0) (setsOf mask (s.tiedRegions n who mask)) = none → 
    Completes (.layerCommit (.dict who) n mask) s fun t => ∀ k ∈ (setsOf mask (s.tiedRegions n who mask)),
      (t.cmp n).armed.find k = some (s.armedCopy n k (s.cmp n).nextCommit) ∧
      t.out.head? = some (Emission.answer 0 0 0 [])) ∧
  (∀ (s : State) (p : Fin 2) (tt : Fin 512) (n : Fin 8) (mask : Nat), s.pageWrite p tt = .taken → s.sliceOn tt n = true → (maskBits 16 (bits 16 0 mask)).all (fun l => bit l (s.rdN Obj.LAYER_MASK 0 n tt)) = true → bit 16 (bits 16 0 mask) = false → bits 16 0 mask ≠ 0 → s.isStReady n 3 = true → (setsOf (bits 16 0 mask) (s.tiedRegions n (.tenant tt) (bits 16 0 mask))) ≠ [] → s.firstRefusal n (.tenant tt) ((masksOf (setsOf (bits 16 0 mask) (s.tiedRegions n (.tenant tt) (bits 16 0 mask)))).2 ||| 0) (setsOf (bits 16 0 mask) (s.tiedRegions n (.tenant tt) (bits 16 0 mask))) = none → 
    Completes (.layerCommit (.page p tt) n mask) s fun t => ∀ k ∈ (setsOf (bits 16 0 mask) (s.tiedRegions n (.tenant tt) (bits 16 0 mask))),
      (t.cmp n).armed.find k = some (s.armedCopy n k (s.cmp n).nextCommit)) ∧
  (∀ (s : State) (who : Requester) (n : Fin 8) (mask : Nat), s.accepts who Obj.GUARD_COMMIT mask n → s.isStReady n 4 = true → mask ≠ 0 → (setsOf 0 mask) ≠ [] → s.firstRefusal n who ((masksOf (setsOf 0 mask)).2 ||| 0) (setsOf 0 mask) = none → 
    Completes (.guardCommit (.dict who) n mask) s fun t => ∀ k ∈ (setsOf 0 mask),
      (t.cmp n).armed.find k = some (s.armedCopy n k (s.cmp n).nextCommit) ∧
      t.out.head? = some (Emission.answer 0 0 0 [])) ∧
  (∀ (s : State) (p : Fin 2) (tt : Fin 512) (n : Fin 8) (mask : Nat), s.pageWrite p tt = .taken → s.sliceOn tt n = true → (maskBits 32 (bits 31 0 mask)).all (fun g => bit g (s.rdN Obj.GUARD_MASK 0 n tt)) = true → bits 31 0 mask ≠ 0 → s.isStReady n 4 = true → (setsOf 0 (bits 31 0 mask)) ≠ [] → s.firstRefusal n (.tenant tt) ((masksOf (setsOf 0 (bits 31 0 mask))).2 ||| 0) (setsOf 0 (bits 31 0 mask)) = none → 
    Completes (.guardCommit (.page p tt) n mask) s fun t => ∀ k ∈ (setsOf 0 (bits 31 0 mask)),
      (t.cmp n).armed.find k = some (s.armedCopy n k (s.cmp n).nextCommit)) ∧
  (∀ (s : State) (n : Fin 8), (s.dsp n).counting = true → (s.dsp n).modeHeld = false → (s.dsp n).frameOver = true → (s.dsp n).modePending = false → 
    Completes (.frameBoundary n) s fun t => t.rd Obj.FRAME_COUNTER n = (wrapInc Obj.FRAME_COUNTER.width (s.rdN Obj.FRAME_COUNTER n) : Nat) ∧ (t.dsp n).boundaryPending = true ∧
      (t.dsp n).boundaryAt = s.time ∧ (t.dsp n).frameOver = false ∧ (t.dsp n).line = 0) ∧
  (∀ (s : State) (n : Fin 8), (s.dsp n).boundaryPending = true → 
    Completes (.boundaryLatch n) s fun t => (t.dsp n).boundaryPending = false ∧ (t.cmp n).armed = [] ∧ (t.cmp n).commits = [] ∧
      (s.stationState n = stRunning → t.rd Obj.COMPOSE_SOURCE n = 2) ∧ t.rd Obj.FRAME_COUNTER n = s.rd Obj.FRAME_COUNTER n) ∧
  (∀ (s : State) (n : Fin 8), s.fixPointDue n = true → 
    Completes (.fixPoint n) s fun t => (t.dsp n).fixLine = some (s.dsp n).line ∧ (t.cmp n).armed = [] ∧ (t.cmp n).composing = true ∧
      (t.cmp n).nextLine = 0 ∧ (t.cmp n).transom = []) ∧
  (∀ (s : State) (n : Fin 8) (parity : List (Nat × Nat)) (y : Nat), s.nextToCompose n = some y → 
    Completes (.composeLine n parity) s fun t => ((t.cmp n).transom.any fun l => l.y = y && l.composed.length = s.activeW n) = true ∧ t.mem = s.mem) ∧
  (∀ (s : State) (n : Fin 8) (l : Fin 16) (addr len : Nat), 
    Completes (.layerFetchComplete n l addr len false) s fun t => t = s.setCmp n { s.cmp n with fetched := (s.cmp n).fetched ++ [⟨addr, len, if s.isPoisoned n addr len then none else some (s.readTagged n addr len (s.layerTag n l)), none⟩] }) ∧
  (∀ (s : State) (n : Fin 8) (room : Bool) (b : Nat) (u : State), (s.dsp n).counting = true → (s.dsp n).modeHeld = false → (s.dsp n).frameOver = false → (s.dsp n).boundaryPending = false → u = (s.setDsp n { s.dsp n with line := (s.dsp n).line + 1 }).publish n → u.blankLines n = some b → (s.dsp n).line + 1 < b → 
    Completes (.lineStart n room) s fun t => t = u) ∧
  (∀ (s : State) (n : Fin 8) (room : Bool) (b : Nat) (u : State), (s.dsp n).counting = true → (s.dsp n).modeHeld = false → (s.dsp n).frameOver = false → (s.dsp n).boundaryPending = false → u = (s.setDsp n { s.dsp n with line := (s.dsp n).line + 1 }).publish n → u.blankLines n = some b → b ≤ (s.dsp n).line + 1 → (s.dsp n).line + 1 - b + 1 < s.activeH n → (s.dsp n).video = true → 
    Completes (.lineStart n room) s fun t => (t.dsp n).line = (s.dsp n).line + 1 ∧
      (match t.out.head? with
        | some (.line m f y _) => decide (m = n.val ∧ f = s.rdN Obj.FRAME_COUNTER n ∧ y = (s.dsp n).line + 1 - b)
        | _ => false) = true) ∧
  (∀ (s : State) (n : Fin 8) (k : Fin 4) (m : Monitor), s.stationState n ≠ stSleep → (s.dsp n).monitors.getD k {} = m → m.enable = true → s.monitorFits n m = true → m.started = true → m.basis = 0 → 
    Completes (.freezeNominalTick n) s fun t => t.rd Obj.UNCHANGED_COUNT n k = (min ((s.time - m.changedAt) * (s.timing n).pclk / max 1 ((s.timing n).vTot * (s.timing n).hTot * 1000000)) 65535 : Nat) ∧ t.mem = s.mem)

/-- An accepted write of 1 to REF_LOAD_START, with no load in progress and no rule against it, starts a load of the page and clears its PAGES_LOADED bit; one against a rule ends at once with its outcome. A load whose entries are readable puts each entry in its place, sets the page's bit and ends with outcome 0. The last segment of the safe store puts it in LOADING, and the check's end puts the content in force with the outcome of the check. -/
def Obligations.GuardReferencesAndSafeStoreLoad : Prop :=
  (∀ (s : State) (who : Requester) (n : Fin 8), s.accepts who Obj.REF_LOAD_START 1 n → s.isStReady n 4 = true → (s.grd n).load = none → s.refRefusal n who (s.rdN Obj.REF_LOAD_REGION n) (s.rdN Obj.REF_LOAD_PAGE n) (s.rdN Obj.REF_LOAD_ADDR n) = none → 
    Completes (.refLoadStart who n 1) s fun t => ((t.grd n).load.map fun l => (l.region, l.page, l.count, l.addr, l.holder)) = some (s.rdN Obj.REF_LOAD_REGION n, s.rdN Obj.REF_LOAD_PAGE n,
        (s.regionShadow n (s.rdN Obj.REF_LOAD_REGION n)).pageSize, s.rdN Obj.REF_LOAD_ADDR n, s.writerOf who) ∧
      t.isPending Obj.REF_LOAD_RESULT n = true ∧ bit (s.rdN Obj.REF_LOAD_PAGE n) (t.rdN Obj.PAGES_LOADED n (s.rdN Obj.REF_LOAD_REGION n)) = false ∧ answeredOk s t) ∧
  (∀ (s : State) (who : Requester) (n : Fin 8) (r : Nat), s.accepts who Obj.REF_LOAD_START 1 n → s.isStReady n 4 = true → (s.grd n).load = none → s.refRefusal n who (s.rdN Obj.REF_LOAD_REGION n) (s.rdN Obj.REF_LOAD_PAGE n) (s.rdN Obj.REF_LOAD_ADDR n) = some r → 
    Completes (.refLoadStart who n 1) s fun t => t.rd Obj.REF_LOAD_RESULT n = r ∧ t.isPending Obj.REF_LOAD_RESULT n = false ∧ (t.grd n).load = none ∧ t.mem = s.mem) ∧
  (∀ (s : State) (n : Fin 8) (l : RefLoad), (s.grd n).load = some l → s.memServes n = true → (∀ k ∈ List.range l.count, (s.refRead n l k).toOption.isSome = true) → 
    Completes (.refLoadDone n) s fun t => (t.grd n).load = none ∧ t.rd Obj.REF_LOAD_RESULT n = 0 ∧ bit l.page (t.rdN Obj.PAGES_LOADED n l.region) = true ∧
      (∀ k ∈ List.range l.count, some ((t.grd n).refs.getD (l.first + k) {}) = (s.refRead n l k).toOption.map fun v => ⟨bits 31 0 v, bit 32 v, false⟩) ∧ t.mem = s.mem) ∧
  (∀ (s : State) (who : Requester) (n : Fin 8) (data : Bytes), s.served who = true → s.isQuarantined who = false → s.placeAccess who ⟨Obj.SAFE_STORE, n, 0, 0, who.instanceOf 512⟩ true = none → s.staging = [] → 4 ≤ data.length → ofBE (data.take 4) = data.length - 4 → data.length ≤ 524292 → 
    Completes (.safeStore who n 0 true data) s fun t => t.rd Obj.SAFE_STORE_STATE n = (ssLoading : Nat) ∧ (t.grd n).safePending = some (data.drop 4) ∧ t.isStReady n 5 = false ∧ answeredOk s t) ∧
  (∀ (s : State) (n : Fin 8) (b : Bytes), (s.grd n).safePending = some b → 
    Completes (.safeStoreCheckDone n) s fun t => (t.grd n).safePending = none ∧ t.blob Obj.SAFE_STORE n = b ∧ t.rd Obj.SAFE_STORE_STATE n = (safeCheck b : Nat) ∧
      t.isStReady n 5 = decide (safeCheck b = ssValid))

/-- An accepted mode commit whose outcome is 0 completes MODE_RESULT with 0 and, while the generator counts, waits in MODE_CHANGE; at the lock of the pixel PLL its values are in force and the output goes on in ACTIVE or DETECT. A plug starts the read of the sink, the read ends in TRAINING or LINK_FAIL, training in ACTIVE with LINK_CONFIG or LINK_FAIL; the retry judges again, lost lanes retrain, an unplug returns to DETECT; PSR wake and the panel's delays take their steps. -/
def Obligations.OutputAndModeAct : Prop :=
  (∀ (s : State) (who : Requester) (n : Fin 8), s.accepts who Obj.MODE_COMMIT 1 n → s.isStReady n 2 = true → modeOutcome (fun r => s.rdShadowN r n) (s.rdN Obj.TRANSOM_TARGET n) (fun c => !(s.dsp n).sinkKnown || (s.dsp n).sinkConfigs.contains c) (!(s.dsp n).sinkKnown || bit 1 (s.rdN Obj.SINK_CAPS n)) = 0 → (s.dsp n).counting = true → 
    Completes (.modeCommit who n 1) s fun t => t.rd Obj.MODE_RESULT n = 0 ∧ t.isPending Obj.MODE_RESULT n = false ∧ t.output n = outModeChange ∧ (t.dsp n).modePending = true ∧
      (t.dsp n).modeArmed = modeRows.map (fun r => s.rdShadow r n) ∧ t.out.head? = some (Emission.answer 0 0 0 [])) ∧
  (∀ (s : State) (n : Fin 8) (f : ObjRow → Int), (s.dsp n).modeHeld = true → (s.dsp n).modeArmed = modeRows.map (fun r => f r) → s.output n = outModeChange → 
    Completes (.pixelPllLock n) s fun t => (∀ r ∈ modeRows, t.rd r n = f r) ∧ (t.dsp n).modeHeld = false ∧ (t.dsp n).modeArmed = [] ∧ (t.dsp n).frameOver = true ∧
      t.output n = (if (s.dsp n).modeStaysActive then outActive else outDetect)) ∧
  (∀ (s : State) (n : Fin 8), s.output n = outDetect → 
    Completes (.hpdPlug n) s fun t => (t.dsp n).hpd = true ∧ (t.dsp n).reading = true ∧ t.rd Obj.HOTPLUG_EVENTS n = (satInc Obj.HOTPLUG_EVENTS.width (s.rdN Obj.HOTPLUG_EVENTS n) 1 : Nat) ∧
      t.out.head? = some (Emission.link n "read DPCD and EDID")) ∧
  (∀ (s : State) (n : Fin 8) (i : SinkInfo), s.output n = outDetect → (s.dsp n).reading = true → 
    Completes (.sinkReadDone n (some i)) s fun t => (t.dsp n).sinkKnown = true ∧ (t.dsp n).reading = false ∧ t.blob Obj.SINK_EDID n = i.edid ∧ t.rd Obj.SINK_CAPS n = (i.caps % 2 ^ 32 : Nat) ∧
      t.output n = (if (t.candidates n).isEmpty then outLinkFail else outTraining)) ∧
  (∀ (s : State) (n : Fin 8), s.output n = outDetect → (s.dsp n).reading = true → 
    Completes (.sinkReadDone n none) s fun t => t = (s.setDsp n { s.dsp n with reading := false }).startTimer (.auxRetry n)) ∧
  (∀ (s : State) (n : Fin 8), s.output n = outDetect → (s.dsp n).hpd = true → (s.dsp n).reading = false → s.passedMs (.auxRetry n) Obj.LINK_RETRY_INTERVAL n = true → 
    Completes (.auxRetryTimer n) s fun t => t = (s.setDsp n { s.dsp n with reading := true }).emit (.link n "read DPCD and EDID")) ∧
  (∀ (s : State) (n : Fin 8) (trains : List (Nat × Nat)) (c : Nat × Nat), s.output n = outTraining → s.rdN Obj.OUTPUT_KIND n = 1 → 2 ≤ (s.dsp n).panel → (s.trainingOrder n).find? (fun k => trains.contains k) = some c → 
    Completes (.linkTrainingDone n trains) s fun t => t.output n = outActive ∧ t.rd Obj.LINK_CONFIG n = (linkWord (s.linkGet n) c : Nat) ∧ (t.dsp n).retries = 0) ∧
  (∀ (s : State) (n : Fin 8) (trains : List (Nat × Nat)), (∀ c ∈ s.trainingOrder n, c ∉ trains) → s.output n = outTraining → s.rdN Obj.OUTPUT_KIND n = 1 → 2 ≤ (s.dsp n).panel → 
    Completes (.linkTrainingDone n trains) s fun t => t.output n = outLinkFail ∧ t.rd Obj.LINK_CONFIG n = 0 ∧ t.rd Obj.TRAINING_FAILS n = (satInc Obj.TRAINING_FAILS.width (s.rdN Obj.TRAINING_FAILS n) 1 : Nat)) ∧
  (∀ (s : State) (n : Fin 8), s.output n = outLinkFail → s.rdN Obj.LINK_RETRY_LIMIT n = 0 ∨ (s.dsp n).retries < s.rdN Obj.LINK_RETRY_LIMIT n → s.passedMs (.linkRetry n) Obj.LINK_RETRY_INTERVAL n = true → 
    Completes (.linkRetryTimer n) s fun t => (t.dsp n).retries = (s.dsp n).retries + 1 ∧ t.output n = (if (s.candidates n).isEmpty then outLinkFail else outTraining)) ∧
  (∀ (s : State) (n : Fin 8), s.output n = outActive → 
    Completes (.hpdIrq n true) s fun t => t.output n = outTraining ∧ (t.dsp n).video = false ∧ t.rd Obj.OUT_RETRAINS n = (satInc Obj.OUT_RETRAINS.width (s.rdN Obj.OUT_RETRAINS n) 1 : Nat)) ∧
  (∀ (s : State) (n : Fin 8), 
    Completes (.hpdIrq n false) s fun t => t = (s.stationEvent (.hpdIrq n) n).emit (.link n "read service-IRQ and link status")) ∧
  (∀ (s : State) (n : Fin 8), s.output n = outActive ∨ s.output n = outTraining ∨ s.output n = outSelfRefresh ∨ s.output n = outLinkFail → 
    Completes (.hpdUnplug n) s fun t => t.output n = outDetect ∧ (t.dsp n).hpd = false ∧ (t.dsp n).sinkKnown = false ∧ (t.dsp n).video = false ∧ t.rd Obj.LINK_CONFIG n = 0 ∧
      t.rd Obj.SINK_LOSSES n = (satInc Obj.SINK_LOSSES.width (s.rdN Obj.SINK_LOSSES n) 1 : Nat) ∧ t.out.head? = some (Emission.link n "main link to electrical idle")) ∧
  (∀ (s : State) (n : Fin 8) (e : Nat), (s.dsp n).endEvent = some e → (s.dsp n).psrStopped = true → (s.dsp n).counting = true → (s.dsp n).frameOver = false → (s.dsp n).boundaryPending = false → s.earliestFix n ≤ (s.dsp n).line → s.stationState n = stRunning → e + s.rdN Obj.PSR_WAKE_US n * 1000 ≤ s.time → 
    Completes (.psrWakeElapsed n) s fun t => t.output n = outActive ∧ (t.dsp n).psrStopped = false ∧ (t.dsp n).video = true ∧ (t.dsp n).fixLine = some (s.dsp n).line ∧ (t.cmp n).composing = true) ∧
  (∀ (s : State) (n : Fin 8), (s.dsp n).panel = 1 → s.passedMs (.panel n) Obj.PANEL_ON_DELAY_MS n = true → 
    Completes (.panelOnDelay n) s fun t => t = s.setDsp n { s.dsp n with panel := 2 }) ∧
  (∀ (s : State) (n : Fin 8), (s.dsp n).panel = 2 → (s.dsp n).firstFrameSent = true → s.passedMs (.backlight n) Obj.BL_ON_DELAY_MS n = true → 
    Completes (.blOnDelay n) s fun t => t = (((s.setDsp n { s.dsp n with panel := 3 }).drive 3 true n).wave 4 true n)) ∧
  (∀ (s : State) (n : Fin 8), (s.dsp n).panel = 4 → s.passedMs (.panel n) Obj.BL_ON_DELAY_MS n = true → 
    Completes (.panelPowerDownDelay n) s fun t => t = ((s.setDsp n { s.dsp n with panel := 5 }).startTimer (.panel n)).emit (.link n "main link off")) ∧
  (∀ (s : State) (n : Fin 8), (s.dsp n).panel = 5 → s.passedMs (.panel n) Obj.PANEL_ON_DELAY_MS n = true → 
    Completes (.panelPowerDownDelay n) s fun t => t = (s.setDsp n { s.dsp n with panel := 0 }).drive 5 false n)

/-- PERST_N high releases its source and low asserts it. A ready port trains its link and shows speed, width and UP, or DEGRADED with one retraining due; the link up takes the port out of the down state. A degraded port retrains once. A hot reset or the loss of the link counts and resets the port; a function's FLR counts and resets its slices. Unmasking a vector sends what is pending. -/
def Obligations.PortsTrainAndReset : Prop :=
  (∀ (s : State) (p : Fin 2) (high : Bool), high = true → 
    Completes (.perstNLevel p high) s fun t => t = (s.setPrt p { s.prt p with perst := false }).releaseLevel (7 + p.val)) ∧
  (∀ (s : State) (p : Fin 2) (high : Bool), high = false → 
    Completes (.perstNLevel p high) s fun t => t = (s.setPrt p { s.prt p with perst := true }).assertLevel (7 + p.val) (some p.val)) ∧
  (∀ (s : State) (p : Fin 2), s.powered = true → (s.prt p).perst = false → s.rst.inReset.contains (.port p) = false → (s.prt p).ready = false → 
    Completes (.hostPortReady p) s fun t => (t.prt p).ready = true ∧ t.isHwReady (hpBit p) = true ∧ t.rd Obj.PORT_STATE 0 p = 1) ∧
  (∀ (s : State) (p : Fin 2) (speed : Fin 6) (width : Fin 9), (s.prt p).ready = true → s.rdN Obj.PORT_STATE 0 p ≠ 4 → 2 < min speed.val (s.rdN Obj.MAX_SPEED 0 p) → width.val ≠ 0 → s.rdN Obj.MAX_WIDTH 0 p ≤ width.val → 
    Completes (.pcieLinkTrained p speed width) s fun t => t.rd Obj.LINK_SPEED 0 p = (min speed.val (s.rdN Obj.MAX_SPEED 0 p) : Nat) ∧ t.rd Obj.LINK_WIDTH 0 p = (s.rdN Obj.MAX_WIDTH 0 p : Nat) ∧ t.rd Obj.PORT_STATE 0 p = 2 ∧ (t.prt p).linkDown = false ∧ (t.prt p).retrainDue = false) ∧
  (∀ (s : State) (p : Fin 2) (speed : Fin 6) (width : Fin 9), (s.prt p).ready = true → s.rdN Obj.PORT_STATE 0 p ≠ 4 → speed.val ≠ 0 → width.val ≠ 0 → min speed.val (s.rdN Obj.MAX_SPEED 0 p) ≤ 2 ∨ width.val < s.rdN Obj.MAX_WIDTH 0 p → 
    Completes (.pcieLinkTrained p speed width) s fun t => t.rd Obj.PORT_STATE 0 p = 3 ∧ (t.prt p).linkDown = false ∧ (t.prt p).retrainDue = !(s.prt p).retrained ∧ (t.prt p).degradedAt = s.time) ∧
  (∀ (s : State) (p : Fin 2), (s.prt p).retrainDue = true → (s.prt p).degradedAt + 1000000000 ≤ s.time → s.rdN Obj.PORT_STATE 0 p = 3 → 
    Completes (.portRetrainTimer p) s fun t => t = (s.setPrt p { s.prt p with retrainDue := false, retrained := true }).wr Obj.PORT_STATE 1 0 p) ∧
  (∀ (s : State) (p : Fin 2), (s.prt p).ready = true → 
    Completes (.hotReset p) s fun t => t = (s.count Obj.LINK_DOWNS 0 p).assertEvent (.hotReset p) ((s.count Obj.LINK_DOWNS 0 p).request 9 (some p.val) none)) ∧
  (∀ (s : State) (p : Fin 2), (s.prt p).ready = true → 
    Completes (.functionFlr p) s fun t => t = (s.count Obj.FLRS 0 p).assertEvent (.portFlr p) ((s.count Obj.FLRS 0 p).request 10 (some p.val) none)) ∧
  (∀ (s : State) (p : Fin 2) (v : Fin 2048), (s.prt p).msixPending.contains v.val = true → 
    Completes (.msixVectorUnmask p v) s fun t => t = (s.setPrt p { s.prt p with unmasked := (if (s.prt p).unmasked.contains v.val then (s.prt p).unmasked else (s.prt p).unmasked ++ [v.val]), msixPending := (s.prt p).msixPending.filter (· ≠ v.val) }).emit (.msix p v))

/-- An accepted SLICE_ENABLE of 1 that no rule refuses enables the slice; of 0 it applies a SLICE reset that leaves it UNBOUND. SLICE_FLR and SLICE_RESET apply a SLICE reset; at its end the ring, landing, vector and mailbox settings are at their defaults. Rights and masks take their value and revoke or give what the change moves; a window that names no buffer in use takes its value at once. A write of 1 to QUARANTINE_RELEASE ends QUARANTINED and restarts the failure count. -/
def Obligations.SlicesAreBoundAndReset : Prop :=
  (∀ (s : State) (who : Requester) (tt : Fin 512) (v : Bool) (u : Nat), u = who.instanceOf tt → s.accepts who Obj.SLICE_ENABLE 1 0 0 u → v = true → s.bindRefusal u (.enable true) false = none → s.sliceEnabled u = false → (s.slc u).resetting = false → 
    Completes (.sliceEnable who tt v) s fun t => t = (s.enableSlice u).answer .ok) ∧
  (∀ (s : State) (who : Requester) (tt : Fin 512) (v : Bool) (u : Nat), u = who.instanceOf tt → s.accepts who Obj.SLICE_ENABLE 0 0 0 u → v = false → s.bindRefusal u (.enable false) false = none → s.sliceEnabled u = true → 
    Completes (.sliceEnable who tt v) s fun t => t = (s.assertReset { s.request 10 none (some u) with unbind := true }).answer .ok) ∧
  (∀ (s : State) (p : Fin 2) (tt : Fin 512) (v : Nat), s.hwGated 2 = false → s.pageWrite p tt = .taken → v = 1 → 
    Completes (.sliceFlr p tt v) s fun t => t = s.assertEvent (.sliceFlr tt) (s.request 10 none (some tt.val))) ∧
  (∀ (s : State) (who : Requester) (tt : Fin 512) (v : Bool) (u : Nat), u = who.instanceOf tt → s.accepts who Obj.SLICE_RESET 1 0 0 u → v = true → 
    Completes (.sliceReset who tt v) s fun t => t = (s.answer .ok).assertReset ((s.answer .ok).request 10 none (some u))) ∧
  (∀ (s : State) (tt : Fin 512), s.sliceDomainsUp tt = true → s.sliceReadsOver tt = true → (s.slc tt).resetting = true → (s.slc tt).unbind = false → (s.slc tt).heldWrites = [] → 
    Completes (.sliceResetDone tt) s fun t => t.slc tt = { s.slc tt with rings := [], touchLand := {}, noteLand := {}, mailbox := {}, resetting := false, heldWrites := [] } ∧
      (∀ i : Fin 32, t.rd Obj.RING_ENABLE 0 i tt = 0 ∧ t.rd Obj.RING_STATE 0 i tt = 0) ∧ t.rd Obj.TOUCH_LOST 0 0 tt = 0 ∧ t.rd Obj.NOTIFY_LOST 0 0 tt = 0) ∧
  (∀ (s : State) (who : Requester) (tt : Fin 512) (n : Fin 8) (which : Fin 5) (v : Nat) (u : Nat), u = who.instanceOf tt → s.accepts who (rightsRow which) v 0 n u → s.bindRefusal u (.rights n which v) false = none → 
    Completes (.rightsWrite who tt n which v) s fun t => t = (((s.wr (rightsRow which) v 0 n u).rehold s u n).fetch n).answer .ok) ∧
  (∀ (s : State) (who : Requester) (tt : Fin 512) (n : Fin 8) (w : Fin 16) (v : Nat) (u : Nat), u = who.instanceOf tt → s.accepts who Obj.WINDOW v 0 n u w → s.bindRefusal u (.window n w v) false = none → (windowSpan (s.rdN Obj.WINDOW 0 n u w)).size = 0 → 
    Completes (.windowWrite who tt n w v) s fun t => t = ((s.wr Obj.WINDOW v 0 n u w).fetch n).answer .ok) ∧
  (∀ (s : State) (who : Requester) (tt : Fin 512) (v : Nat) (u : Nat), u = who.instanceOf tt → s.accepts who Obj.QUARANTINE_RELEASE v 0 0 u → v = 1 → (s.slc u).quarantined = true → 
    Completes (.quarantineRelease who tt v) s fun t => (t.slc u).quarantined = false ∧ (t.slc u).failures = [] ∧ t.out.head? = some (Emission.answer 0 0 0 []))

/-- A taken page write of a ring's tail or completion head by a slice with the ring's right on an enabled ring sets it modulo the ring's size, and the headgate fetches. A descriptor that names its own slice, station and queue moves the head, counts as outstanding and stands in the station's sluice (jobs) or in the ring (transfers); one that does not counts as a spoof with the code of the first failing check. A failed read puts the ring into FAULT and reports it. Enabling starts a ring from its present head; disabling stops it. -/
def Obligations.RingsFetchAndReport : Prop :=
  (∀ (s : State) (p : Fin 2) (tt : Fin 512) (n : Fin 8) (q : Fin 4) (v : Nat), s.hwGated 2 = false → s.pageWrite p tt = .taken → s.sliceOn tt n = true → s.ringOpen tt n q = true → 
    Completes (.ringTailWrite p tt n q v) s fun t => (t.ring tt n q).still = ({ s.ring tt n q with tail := v % 2 ^ 12 % s.ringSize tt n q } : Ring).still ∧ t.mem = s.mem ∧ t.ingress = s.ingress) ∧
  (∀ (s : State) (p : Fin 2) (tt : Fin 512) (n : Fin 8) (q : Fin 4) (v : Nat), s.hwGated 2 = false → s.pageWrite p tt = .taken → s.sliceOn tt n = true → s.ringOpen tt n q = false → 
    Completes (.ringTailWrite p tt n q v) s fun t => t.rd Obj.SPOOF_LAST 0 0 tt = (3 + 256 * n.val : Nat) ∧ t.ring tt n q = s.ring tt n q ∧
      (t.slc tt).failures = ((s.slc tt).failures ++ [s.time]).filter fun x => s.time < x + s.rdN Obj.QUARANTINE_WINDOW_MS * 1000000) ∧
  (∀ (s : State) (p : Fin 2) (tt : Fin 512) (n : Fin 8) (q : Fin 4) (v : Nat), s.hwGated 2 = false → s.pageWrite p tt = .taken → s.sliceOn tt n = true → s.ringOpen tt n q = true → 
    Completes (.compHeadWrite p tt n q v) s fun t => (t.ring tt n q).still = ({ s.ring tt n q with compHead := v % 2 ^ 12 % s.ringSize tt n q } : Ring).still ∧ t.mem = s.mem ∧ t.ingress = s.ingress) ∧
  (∀ (s : State) (p : Fin 2) (tt : Fin 512) (n : Fin 8) (q : Fin 4) (v : Nat), s.hwGated 2 = false → s.pageWrite p tt = .taken → s.sliceOn tt n = true → s.ringOpen tt n q = false → 
    Completes (.compHeadWrite p tt n q v) s fun t => t.rd Obj.SPOOF_LAST 0 0 tt = (3 + 256 * n.val : Nat) ∧ t.ring tt n q = s.ring tt n q ∧
      (t.slc tt).failures = ((s.slc tt).failures ++ [s.time]).filter fun x => s.time < x + s.rdN Obj.QUARANTINE_WINDOW_MS * 1000000) ∧
  (∀ (s : State) (tt : Fin 512) (n : Fin 8) (q : Fin 4) (data : Bytes), (s.ring tt n q).stale = 0 → 0 < (s.ring tt n q).reading → s.sliceState tt = slActive → s.rdN Obj.RING_STATE 0 (ringIx n q) tt = 1 → descriptorSpoof tt n q (ofLE (data.take 64)) = none → s.rdN Obj.RING_KIND 0 (ringIx n q) tt = 0 → 
    Completes (.descriptorFetched tt n q data) s fun t => (t.ring tt n q).still = ({ s.ring tt n q with head := ((s.ring tt n q).head + 1) % s.ringSize tt n q, outstanding := (s.ring tt n q).outstanding + 1 } : Ring).still ∧
      t.ingress.getD n [] = s.ingress.getD n [] ++ [⟨tt, q, data⟩] ∧ t.mem = s.mem) ∧
  (∀ (s : State) (tt : Fin 512) (n : Fin 8) (q : Fin 4) (data : Bytes), (s.ring tt n q).stale = 0 → 0 < (s.ring tt n q).reading → s.sliceState tt = slActive → s.rdN Obj.RING_STATE 0 (ringIx n q) tt = 1 → descriptorSpoof tt n q (ofLE (data.take 64)) = none → s.rdN Obj.RING_KIND 0 (ringIx n q) tt ≠ 0 → 
    Completes (.descriptorFetched tt n q data) s fun t => (t.ring tt n q).still = ({ s.ring tt n q with head := ((s.ring tt n q).head + 1) % s.ringSize tt n q, outstanding := (s.ring tt n q).outstanding + 1, xfers := (s.ring tt n q).xfers ++ [xferOf n (ofLE (data.take 64))] } : Ring).still ∧ t.ingress = s.ingress ∧ t.mem = s.mem) ∧
  (∀ (s : State) (tt : Fin 512) (n : Fin 8) (q : Fin 4) (data : Bytes) (code : Nat), (s.ring tt n q).stale = 0 → 0 < (s.ring tt n q).reading → s.sliceState tt = slActive → s.rdN Obj.RING_STATE 0 (ringIx n q) tt = 1 → descriptorSpoof tt n q (ofLE (data.take 64)) = some code → 
    Completes (.descriptorFetched tt n q data) s fun t => (t.ring tt n q).still = ({ s.ring tt n q with head := ((s.ring tt n q).head + 1) % s.ringSize tt n q } : Ring).still ∧ t.ingress = s.ingress ∧ t.rd Obj.SPOOF_LAST 0 0 tt = (code + 256 * n.val : Nat)) ∧
  (∀ (s : State) (tt : Fin 512) (n : Fin 8) (q : Fin 4) (data : Bytes), (s.ring tt n q).stale ≠ 0 → 
    Completes (.descriptorFetched tt n q data) s fun t => t.ring tt n q = { s.ring tt n q with stale := (s.ring tt n q).stale - 1 } ∧ t.ingress = s.ingress ∧ t.out = s.out) ∧
  (∀ (s : State) (tt : Fin 512) (n : Fin 8) (q : Fin 4) (cause : Nat), (s.ring tt n q).stale = 0 → 0 < (s.ring tt n q).reading → s.sliceState tt = slActive → s.rdN Obj.RING_STATE 0 (ringIx n q) tt = 1 → 
    Completes (.ringReadFailed tt n q cause) s fun t => t.ring tt n q = { s.ring tt n q with reading := 0, stale := (s.ring tt n q).reading - 1 } ∧ t.rd Obj.RING_STATE 0 (ringIx n q) tt = 2 ∧
      t.noteQ.getD tt {} = ((s.noteQ.getD tt {}).putSmall Rec.prio 32 (s.mkRec 0x0013 3 n tt [(q, 2), (cause, 4)])).1) ∧
  (∀ (s : State) (who : Requester) (tt : Fin 512) (n : Fin 8) (q : Fin 4) (v : Bool) (u : Nat), u = who.instanceOf tt → s.accepts who Obj.RING_ENABLE 1 0 (ringIx n q) u → v = true → s.ringRight u n q = true → 
    Completes (.ringEnable who tt n q v) s fun t => t.rd Obj.RING_ENABLE 0 (ringIx n q) u = 1 ∧ t.rd Obj.RING_STATE 0 (ringIx n q) u = 1 ∧ (t.ring u n q).still = (s.ring u n q).still ∧ t.out.count (Emission.answer 0 0 0 []) = s.out.count (Emission.answer 0 0 0 []) + 1) ∧
  (∀ (s : State) (who : Requester) (tt : Fin 512) (n : Fin 8) (q : Fin 4) (v : Bool) (u : Nat), u = who.instanceOf tt → s.accepts who Obj.RING_ENABLE 0 0 (ringIx n q) u → v = false → 
    Completes (.ringEnable who tt n q v) s fun t => t.rd Obj.RING_ENABLE 0 (ringIx n q) u = 0 ∧ t.rd Obj.RING_STATE 0 (ringIx n q) u = 0 ∧ t.ring u n q = (s.ring u n q).stop ∧ t.out.head? = some (Emission.answer 0 0 0 []))

/-- The front transfer of a ring moves its data once its fence lets it go and memory is ready: into the station, to the host, or the fill word repeated; outside the windows it moves nothing and ends ACCESS_FAULT. A moved transfer leaves the ring and its completion takes the next place. Landing heads are set modulo the ring's size; a delivery writes the item of highest priority at the tail, then the tail to the shadow, then raises the mapped vector. -/
def Obligations.TransfersMoveAndLand : Prop :=
  (∀ (s : State) (tt : Fin 512) (n : Fin 8) (q : Fin 4) (data : Option Bytes) (b : Bytes) (x : Xfer) (r : Ring) (u : State), data = some b → s.xferFront tt n q 8 = some (x, r) → u = s.cvXfer tt n q x → u.xferAllowed x 2 = true → u.memServes n = true → x.sluiced = [] → 
    Completes (.xferHostToStation tt n q data) s fun t => t = (((u.emit (.hostRead (u.rdN Obj.SLICE_PORT 0 0 tt) (u.rdN Obj.SLICE_PASID 0 0 tt) x.hostAddr x.len)).writeTagged n x.stationAddr (padTo x.len (b.take x.len)) 0 true).setFront tt n q { x with moved := true, data := (padTo x.len (b.take x.len)), sluiced := [] }).fetch n) ∧
  (∀ (s : State) (tt : Fin 512) (n : Fin 8) (q : Fin 4) (data : Option Bytes) (b : Bytes) (x : Xfer) (r : Ring) (u : State), data = some b → s.xferFront tt n q 8 = some (x, r) → u = s.cvXfer tt n q x → u.xferAllowed x 2 = true → u.memServes n = false → x.sluiced = [] → 
    Completes (.xferHostToStation tt n q data) s fun t => t = (u.emit (.hostRead (u.rdN Obj.SLICE_PORT 0 0 tt) (u.rdN Obj.SLICE_PASID 0 0 tt) x.hostAddr x.len)).setFront tt n q { x with sluiced := (padTo x.len (b.take x.len)).take (sluiceBytes - u.sluiceUsed n) }) ∧
  (∀ (s : State) (tt : Fin 512) (n : Fin 8) (q : Fin 4) (data : Option Bytes) (b : Bytes) (x : Xfer) (r : Ring) (u : State), data = some b → s.xferFront tt n q 8 = some (x, r) → u = s.cvXfer tt n q x → u.xferAllowed x 2 = false → 
    Completes (.xferHostToStation tt n q data) s fun t => t = (u.noteTag n x.stationAddr x.len 0).setFront tt n q { x with moved := true, status := csAccessFault, sluiced := [] }) ∧
  (∀ (s : State) (tt : Fin 512) (n : Fin 8) (q : Fin 4) (data : Option Bytes) (x : Xfer) (r : Ring) (u : State), data = none → s.xferFront tt n q 8 = some (x, r) → u = s.cvXfer tt n q x → u.xferAllowed x 2 = true → x.sluiced = [] → 
    Completes (.xferHostToStation tt n q data) s fun t => t = (u.emit (.hostRead (u.rdN Obj.SLICE_PORT 0 0 tt) (u.rdN Obj.SLICE_PASID 0 0 tt) x.hostAddr x.len)).setFront tt n q { x with moved := true, status := csAccessFault, sluiced := [] }) ∧
  (∀ (s : State) (tt : Fin 512) (n : Fin 8) (q : Fin 4) (x : Xfer) (r : Ring) (u : State), s.xferFront tt n q 9 = some (x, r) → u = s.cvXfer tt n q x → u.xferAllowed x 1 = true → u.memServes n = true → 
    Completes (.xferStationToHost tt n q) s fun t => t = (u.hostWrite tt x.hostAddr (u.readTagged n x.stationAddr x.len 0)).setFront tt n q { x with moved := true, data := u.readTagged n x.stationAddr x.len 0 }) ∧
  (∀ (s : State) (tt : Fin 512) (n : Fin 8) (q : Fin 4) (x : Xfer) (r : Ring) (u : State), s.xferFront tt n q 10 = some (x, r) → u = s.cvXfer tt n q x → u.xferAllowed x 2 = true → u.memServes n = true → x.sluiced = [] → 
    Completes (.xferFill tt n q) s fun t => t = ((u.writeTagged n x.stationAddr ((List.replicate (x.len / 4) (toLE 4 (bits 31 0 x.hostAddr))).flatten) 0 true).setFront tt n q
        { x with moved := true, data := (List.replicate (x.len / 4) (toLE 4 (bits 31 0 x.hostAddr))).flatten, sluiced := [] }).fetch n) ∧
  (∀ (s : State) (tt : Fin 512) (n : Fin 8) (q : Fin 4) (x : Xfer) (l : List Xfer), (s.ring tt n q).xfers = x :: l → x.moved = true → 
    Completes (.transferComplete tt n q) s fun t => (t.ring tt n q).xfers = l ∧ (t.ring tt n q).compTail = ((s.ring tt n q).compTail + 1) % s.ringSize tt n q ∧ (t.ring tt n q).outstanding = (s.ring tt n q).outstanding - 1) ∧
  (∀ (s : State) (p : Fin 2) (tt : Fin 512) (v : Nat), s.hwGated 2 = false → s.pageWrite p tt = .taken → 
    Completes (.touchLandHead p tt v) s fun t => t.slc tt = { s.slc tt with touchLand := { (s.slc tt).touchLand with head := v % 2 ^ 12 % s.rdN Obj.TOUCH_LAND_ENTRIES 0 0 tt } }) ∧
  (∀ (s : State) (p : Fin 2) (tt : Fin 512) (v : Nat), s.hwGated 2 = false → s.pageWrite p tt = .taken → 
    Completes (.notifyLandHead p tt v) s fun t => t.slc tt = { s.slc tt with noteLand := { (s.slc tt).noteLand with head := v % 2 ^ 12 % s.rdN Obj.NOTIFY_LAND_ENTRIES 0 0 tt } }) ∧
  (∀ (s : State) (tt : Fin 512) (isTouch : Bool) (r : TouchRec), s.landing tt = true → isTouch = true → s.rdN Obj.TOUCH_LAND_ADDR 0 0 tt ≠ 0 → ((s.slc tt).touchLand.tail + 1) % s.rdN Obj.TOUCH_LAND_ENTRIES 0 0 tt ≠ (s.slc tt).touchLand.head → ((s.touchQ.getD tt {}).takeSmall TouchRec.prio).1 = some r → 
    Completes (.landingDelivery tt isTouch) s fun t => t = ((((({ s with touchQ := s.touchQ.put tt ((s.touchQ.getD tt {}).takeSmall TouchRec.prio).2 } : State).countTenantItems tt).hostWrite tt (s.rdN Obj.TOUCH_LAND_ADDR 0 0 tt + 32 * (s.slc tt).touchLand.tail) r.encode).setSlc tt { s.slc tt with touchLand := { (s.slc tt).touchLand with tail := (((s.slc tt).touchLand.tail + 1) % s.rdN Obj.TOUCH_LAND_ENTRIES 0 0 tt) } }).hostWrite tt (s.rdN Obj.LAND_SHADOW_ADDR 0 0 tt) (toLE 4 (((s.slc tt).touchLand.tail + 1) % s.rdN Obj.TOUCH_LAND_ENTRIES 0 0 tt))).irqMapped tt 0) ∧
  (∀ (s : State) (tt : Fin 512) (isTouch : Bool) (r : Rec), s.landing tt = true → isTouch = false → s.rdN Obj.NOTIFY_LAND_ADDR 0 0 tt ≠ 0 → ((s.slc tt).noteLand.tail + 1) % s.rdN Obj.NOTIFY_LAND_ENTRIES 0 0 tt ≠ (s.slc tt).noteLand.head → ((s.noteQ.getD tt {}).takeSmall Rec.prio).1 = some r → 
    Completes (.landingDelivery tt isTouch) s fun t => t = ((((({ s with noteQ := s.noteQ.put tt ((s.noteQ.getD tt {}).takeSmall Rec.prio).2 } : State).countTenantItems tt).hostWrite tt (s.rdN Obj.NOTIFY_LAND_ADDR 0 0 tt + 32 * (s.slc tt).noteLand.tail) r.encode).setSlc tt { s.slc tt with noteLand := { (s.slc tt).noteLand with tail := (((s.slc tt).noteLand.tail + 1) % s.rdN Obj.NOTIFY_LAND_ENTRIES 0 0 tt) } }).hostWrite tt (s.rdN Obj.LAND_SHADOW_ADDR 0 0 tt + 4) (toLE 4 (((s.slc tt).noteLand.tail + 1) % s.rdN Obj.NOTIFY_LAND_ENTRIES 0 0 tt))).irqMapped tt 1)

/-- A request of 1 to 1,024 bytes that reaches a free mailbox is kept, and carried out at once where the dictionary is served; else it waits. The response is written with the result, MB_DONE is set and a tenant's mailbox vector raised. MB_ACK clears MB_DONE. -/
def Obligations.MailboxesServeRequests : Prop :=
  (∀ (s : State) (path : MbPath) (typ : Fin 16) (tq : Option (Fin 512)) (body : Bytes) (env : WriteEnv), s.mboxOpen path = true → (s.mbox path).busy = false → body ≠ [] → body.length ≤ 1024 → s.served path.who = true → 
    Completes (.mbSend path typ tq body env) s fun t => t = (s.setMbox path { s.mbox path with request := some { typ := typ.val, tq := (match tq with | some u => u.val | none => 512), body := body, env := env } }).serveMbox path) ∧
  (∀ (s : State) (path : MbPath) (typ : Fin 16) (tq : Option (Fin 512)) (body : Bytes) (env : WriteEnv), s.mboxOpen path = true → (s.mbox path).busy = false → body ≠ [] → body.length ≤ 1024 → s.served path.who = false → 
    Completes (.mbSend path typ tq body env) s fun t => t = s.setMbox path { s.mbox path with request := some { typ := typ.val, tq := (match tq with | some u => u.val | none => 512), body := body, env := env } }) ∧
  (∀ (s : State) (path : MbPath), s.mboxOpen path = true → 
    Completes (.mbAck path) s fun t => t = s.setMbox path { s.mbox path with done := false }) ∧
  (∀ (s : State) (path : MbPath) (r : Nat) (b : Bytes), (s.mbox path).reply = some (r, b) → 
    Completes (.mbResponseReady path) s fun t => t = (match path with | .tenant _ u => ((s.setMbox path { s.mbox path with reply := none, done := true, result := r, response := b }).irqMapped u 2) | .host _ => s.setMbox path { s.mbox path with reply := none, done := true, result := r, response := b }))

/-- A long frame of a type that is well formed, for this device, of a valid session or of none, and whose SEQ is new, has its SEQ recorded, acts at the level of its session, and is answered by one frame that is cached under its SEQ; a body that breaks the layout gets no response. A short frame to this device's node does the same at the level of its node, for READ, WRITE, COMMIT and NOTIFY. -/
def Obligations.TransfersOfPeersAreAnswered : Prop :=
  (∀ (s : State) (src : PeerSource) (b : Bytes) (level : Level) (key : Option Bytes) (k : Nat), wideSource src = true → s.frameTaken tyRead b = true → s.frameLevel (framePeer src b) (parseHeader b) b = some (level, key) → (s.takeSeq (framePeer src b) (parseHeader b).seq).1 = (.act, k) → 
    Completes (.bdaRead src (.wide b)) s fun t => t = (s.framed src b k level).responded src b k key ((s.framed src b k level).transfer (.peer k) tyRead (if (parseHeader b).qual then (parseHeader b).tenant else 512) 1386 {} (frameBody b))) ∧
  (∀ (s : State) (src : PeerSource) (b : Bytes) (level : Level) (key : Option Bytes) (k : Nat) (env : WriteEnv), wideSource src = true → s.frameTaken tyWrite b = true → s.frameLevel (framePeer src b) (parseHeader b) b = some (level, key) → (s.takeSeq (framePeer src b) (parseHeader b).seq).1 = (.act, k) → 
    Completes (.bdaWrite src (.wide b) env) s fun t => t = (s.framed src b k level).responded src b k key ((s.framed src b k level).transfer (.peer k) tyWrite (if (parseHeader b).qual then (parseHeader b).tenant else 512) 1386 env (frameBody b))) ∧
  (∀ (s : State) (src : PeerSource) (b : Bytes) (level : Level) (key : Option Bytes) (k : Nat), wideSource src = true → s.frameTaken tyCommit b = true → s.frameLevel (framePeer src b) (parseHeader b) b = some (level, key) → (s.takeSeq (framePeer src b) (parseHeader b).seq).1 = (.act, k) → 
    Completes (.bdaCommit src (.wide b)) s fun t => t = (s.framed src b k level).responded src b k key ((s.framed src b k level).transfer (.peer k) tyCommit (if (parseHeader b).qual then (parseHeader b).tenant else 512) 1386 {} (frameBody b))) ∧
  (∀ (s : State) (src : PeerSource) (b : Bytes) (level : Level) (key : Option Bytes) (k : Nat) (p : Peer), wideSource src = true → s.frameTaken tyNotify b = true → s.frameLevel (framePeer src b) (parseHeader b) b = some (level, key) → (s.takeSeq (framePeer src b) (parseHeader b).seq).1 = (.act, k) → (s.framed src b k level).peerRec k = some p → frameBody b ≠ [] → 
    Completes (.bdaNotify src (.wide b)) s fun t => t = (s.framed src b k level).responded src b k key ((s.framed src b k level).notifyEntries k p.id (if (parseHeader b).qual then (parseHeader b).tenant else 512) 64 (frameBody b))) ∧
  (∀ (s : State) (src : PeerSource) (b : Bytes) (level : Level) (key : Option Bytes) (k : Nat), wideSource src = true → s.frameTaken tyBlock b = true → s.frameLevel (framePeer src b) (parseHeader b) b = some (level, key) → (s.takeSeq (framePeer src b) (parseHeader b).seq).1 = (.act, k) → frameBody b ≠ [] → 
    Completes (.bdaBlock src (.wide b)) s fun t => t = (s.framed src b k level).responded src b k key ((s.framed src b k level).blockEntries k (if (parseHeader b).qual then (parseHeader b).tenant else 512) 64 (frameBody b))) ∧
  (∀ (s : State) (src bus fid : Nat) (data : Bytes) (k : Nat), s.shortTaken tyRead bus fid data = true → (s.takeSeq ⟨.can bus (parseShort fid data).src, 0⟩ (parseShort fid data).seq).1 = (.act, k) → 
    Completes (.bdaRead (.can bus src) (.short fid data)) s fun t => t = shortResponded bus fid data k ((s.shortFramed bus fid data k).shortRequest (.peer k) ⟨.can bus (parseShort fid data).src, 0⟩ (parseShort fid data) {})) ∧
  (∀ (s : State) (src bus fid : Nat) (data : Bytes) (k : Nat) (env : WriteEnv), s.shortTaken tyWrite bus fid data = true → (s.takeSeq ⟨.can bus (parseShort fid data).src, 0⟩ (parseShort fid data).seq).1 = (.act, k) → 
    Completes (.bdaWrite (.can bus src) (.short fid data) env) s fun t => t = shortResponded bus fid data k ((s.shortFramed bus fid data k).shortRequest (.peer k) ⟨.can bus (parseShort fid data).src, 0⟩ (parseShort fid data) env)) ∧
  (∀ (s : State) (src bus fid : Nat) (data : Bytes) (k : Nat), s.shortTaken tyCommit bus fid data = true → (s.takeSeq ⟨.can bus (parseShort fid data).src, 0⟩ (parseShort fid data).seq).1 = (.act, k) → 
    Completes (.bdaCommit (.can bus src) (.short fid data)) s fun t => t = shortResponded bus fid data k ((s.shortFramed bus fid data k).shortRequest (.peer k) ⟨.can bus (parseShort fid data).src, 0⟩ (parseShort fid data) {})) ∧
  (∀ (s : State) (src bus fid : Nat) (data : Bytes) (k : Nat), s.shortTaken tyNotify bus fid data = true → (s.takeSeq ⟨.can bus (parseShort fid data).src, 0⟩ (parseShort fid data).seq).1 = (.act, k) → 
    Completes (.bdaNotify (.can bus src) (.short fid data)) s fun t => t = shortResponded bus fid data k ((s.shortFramed bus fid data k).shortRequest (.peer k) ⟨.can bus (parseShort fid data).src, 0⟩ (parseShort fid data) {})) ∧
  (∀ (s : State) (i : Fin 512) (x : Subscription) (p : Place), s.hwGated 0 = false → s.subscriptions[i.val]? = some x → placeOf x.key = some p → s.isHwReady 9 = true → x.lastSent + x.intervalMs * 1000000 ≤ s.time → x.condition = 3 ∨ s.changesOf p x ≠ 0 → 
    Completes (.subscriptionNotify i) s fun t => t = ({ s with subscriptions := s.subscriptions.set i.val { x with seen := s.watched p x.condition, changes := 0, lastSent := s.time } } : State).sendNotify x.peer x.key
      (min (if x.condition = 3 then 0 else s.changesOf p x) 65535) (s.notifyValue p).2 (s.notifyValue p).1)

/-- A whole value that passes the checks of R461 takes effect as the object's access says and is answered OK. STATION_COMMIT makes the shadows of blocks 0, 1 and 7 active. RESULT_ACK of the present generation consumes the result. Result BLOBs and log rings are read from a snapshot that is held 1 s. SAVE_TIME_MAX and RETRAIN_STALL_MAX are cleared by reading. Segmented writes are abandoned after 2 s. Settings are saved after their intervals or on request, and a save that fails three times reports FAILED. -/
def Obligations.DictionaryRequestsAct : Prop :=
  (∀ (s : State) (who : Requester) (area : Fin 16) (idx sub : Nat) (tq : Option (Fin 512)) (data : Bytes) (env : WriteEnv) (p : Place), s.accepts who p.r (p.r.ty.decode data) p.n p.i p.t p.j → s.isQuarantined who = false → sub ≠ 0xFE → sub ≠ 0xFF → s.place who area idx sub (match tq with | some u => u.val | none => 512) = .ok p → s.placeAccess who p true = none → p.r.ty.size = some data.length → (handlersA ++ handlersB ++ handlersC ++ handlersD ++ handlersE).find? (fun h => h.1 = p.r) = none → s.valueOk p (p.r.ty.decode data) = true → s.writeRule p (p.r.ty.decode data) = none → 
    Completes (.dictionaryWrite who area idx sub tq data env) s fun t => t = (s.applyWrite p (p.r.ty.decode data)).answer .ok) ∧
  (∀ (s : State) (who : Requester) (n : Fin 8) (v : Nat), s.accepts who Obj.STATION_COMMIT v n → v = 1 → s.isStReady n 1 = true → 
    Completes (.stationCommit who n v) s fun t => t = (stationCommitRows.foldl (fun u r => u.commitRow r n) s).answer .ok) ∧
  (∀ (s : State) (who : Requester) (area : Fin 16) (idx : Nat) (tq : Option (Fin 512)) (gen : Nat) (p : Place), s.served who = true → s.isQuarantined who = false → s.resultPlace who area idx (match tq with | some u => u.val | none => 512) = .ok p → (s.results.getD p.key {}).generation = gen → 
    Completes (.resultAck who area idx tq gen) s fun t => t = ({ s with results := s.results.put p.key { s.results.getD p.key {} with consumed := true, overrun := false } } : State).answer .ok) ∧
  (∀ (s : State) (who : Requester) (area : Fin 16) (idx offset len n i : Nat) (r : ObjRow) (p : Place), s.served who = true → resultRow area idx = some (r, n, i) → r.sub ≠ 0xFE → r.sub ≠ 0xFF → s.place who area idx r.sub 512 = .ok p → s.placeAccess who p false = none → p.r.ty = .blob → p.r.result = true → 
    Completes (.resultBlobRead who area idx offset len) s fun t => t = s.readSnapshot who p { segmented := true, offset := offset, len := len }) ∧
  (∀ (s : State) (who : Requester) (station : Option (Fin 8)) (offset len : Nat) (p : Place), s.served who = true → s.place who (match station with | some n => 8 + n.val | none => 0) (match station with | some _ => 0x0060 | none => 0x0040) 1 512 = .ok p → s.placeAccess who p false = none → p.r = Obj.HW_LOG_RING ∨ p.r = Obj.STATION_LOG_RING → 
    Completes (.logRingRead who station offset len) s fun t => t = s.readSnapshot who p { segmented := true, offset := offset, len := len }) ∧
  (∀ (s : State) (who : Requester) (n : Fin 8) (stall : Bool) (p : Place), s.served who = true → stall = true → s.place who (8 + n.val) Obj.RETRAIN_STALL_MAX.idx 0 512 = .ok p → p.r = Obj.RETRAIN_STALL_MAX → p.n = n.val → p.i = 0 → p.j = 0 → p.t = 512 → s.placeAccess who p false = none → 
    Completes (.clearingRead who n stall) s fun t => t.rd Obj.RETRAIN_STALL_MAX n = 0 ∧ t.out.head? = some (Emission.answer 0 0 0 (Obj.RETRAIN_STALL_MAX.ty.encode (s.rd Obj.RETRAIN_STALL_MAX n)))) ∧
  (∀ (s : State) (who : Requester) (n : Fin 8) (stall : Bool) (p : Place), s.served who = true → stall = false → s.place who (8 + n.val) Obj.SAVE_TIME_MAX.idx 0 512 = .ok p → p.r = Obj.SAVE_TIME_MAX → p.n = n.val → p.i = 0 → p.j = 0 → p.t = 512 → s.placeAccess who p false = none → 
    Completes (.clearingRead who n stall) s fun t => t.rd Obj.SAVE_TIME_MAX n = 0 ∧ t.out.head? = some (Emission.answer 0 0 0 (Obj.SAVE_TIME_MAX.ty.encode (s.rd Obj.SAVE_TIME_MAX n)))) ∧
  (∀ (s : State), 
    Completes (.snapshotExpired) s fun t => t = { s with snapshots := s.snapshots.filter fun x => s.time < x.takenAt + 1000000000 }) ∧
  (∀ (s : State), 
    Completes (.blobWriteAbandoned) s fun t => t = { s with staging := s.staging.filter fun e => s.time < e.2.lastAt + 2000000000 }) ∧
  (∀ (s : State) (f : Nat), s.hwGated 0 = false → s.settings.firstChange = some f → s.isHwReady 16 = true → s.settings.lastChange + 2000000000 ≤ s.time ∨ f + 10000000000 ≤ s.time → 
    Completes (.settingsSaveTimer) s fun t => t = s.startSave) ∧
  (∀ (s : State) (who : Requester) (v : Bool), s.accepts who Obj.SETTINGS_SAVE 1 → v = true → s.isHwReady 16 = true → 
    Completes (.settingsSave who v) s fun t => t = s.startSave.answer .ok) ∧
  (∀ (s : State) (ok : Bool) (job : SaveJob), ok = true → s.settings.saving = some job → 
    Completes (.settingsSaveDone ok) s fun t => t = ((((({ s with settings := { s.settings with saving := none, failed := 0, flash := job.groups.foldl (fun m e => m.put e.1 e.2) s.settings.flash, seq := s.settings.seq + 1, bank := (if job.bankChange then 1 - s.settings.bank else s.settings.bank), eraseDue := (if job.bankChange then some s.settings.bank else s.settings.eraseDue) } } : State).count Obj.SAVES).wr Obj.SETTINGS_STATE (if s.settings.firstChange.isSome then 2 else 1)).clearAlarm 17 noStation 0).nextErase)) ∧
  (∀ (s : State) (ok : Bool) (job : SaveJob), ok = false → s.settings.saving = some job → s.settings.failed + 1 < 3 → 
    Completes (.settingsSaveDone ok) s fun t => t = { s with settings := { s.settings with failed := s.settings.failed + 1 } }) ∧
  (∀ (s : State) (ok : Bool) (job : SaveJob), ok = false → s.settings.saving = some job → 3 ≤ s.settings.failed + 1 → 
    Completes (.settingsSaveDone ok) s fun t => t = (({ s with settings := { s.settings with saving := none, failed := 0 } } : State).wr Obj.SETTINGS_STATE 4).alarm 17 1 noStation 0) ∧
  (∀ (s : State) (who : Requester) (v : Bool), s.accepts who Obj.SETTINGS_DEFAULTS 1 → v = true → s.isHwReady 16 = true → 
    Completes (.settingsDefaults who v) s fun t => t = s.settingsDefaults.startSave.answer .ok)

/-- A pair starts in SCANNING or CALIBRATING when none runs: zone settings are latched, a hop decided before takes effect, a skipped pair is only counted. At its end SCAN_SEQ advances, noise is judged and the counts calibrate or track. A pair not complete in time is counted and logged. A pump out of regulation halts the engine with an alarm; back in regulation, or after the retry, it calibrates. A gesture of a wake scan starts the wake. A capture is stored where spread and noise allow. -/
def Obligations.TouchPairsAndStates : Prop :=
  (∀ (s : State) (n : Fin 8), s.touchState n = toScanning → (s.tch n).pairStart = none → s.periodPassed n (s.rdN Obj.TARGET_RATE_HZ n) = true → s.slotNow n = true → (s.tch n).skipNext = false → (s.tch n).committed = none → (s.tch n).nextFreq = none → 
    Completes (.scanPairStart n) s fun t => t = (s.latchZones n).setTch n { (s.latchZones n).tch n with pairStart := some s.time, lastStart := some s.time, starts := ((s.latchZones n).tch n).starts + 1 }) ∧
  (∀ (s : State) (n : Fin 8), s.touchState n = toScanning → (s.tch n).pairStart = none → s.periodPassed n (s.rdN Obj.TARGET_RATE_HZ n) = true → s.slotNow n = true → (s.tch n).skipNext = true → 
    Completes (.scanPairStart n) s fun t => t = ((s.setTch n { s.tch n with skipNext := false, lastStart := some s.time }).count Obj.PAIRS_SKIPPED n).touchStatusAll n 5) ∧
  (∀ (s : State) (n : Fin 8) (f : Nat), s.touchState n = toScanning → (s.tch n).pairStart = none → s.periodPassed n (s.rdN Obj.TARGET_RATE_HZ n) = true → s.slotNow n = true → (s.tch n).skipNext = false → (s.tch n).committed = none → (s.tch n).nextFreq = some f → 
    Completes (.scanPairStart n) s fun t => (t.tch n).pairStart = some s.time ∧ (t.tch n).nextFreq = none ∧ (t.tch n).sinceHop = 0 ∧ t.rd Obj.TX_FREQ_INDEX n = (f : Nat) ∧ t.rd Obj.HOPS n = (satInc Obj.HOPS.width (s.rdN Obj.HOPS n) 1 : Nat)) ∧
  (∀ (s : State) (n : Fin 8) (nodes self : List Nat) (use oth : List Int) (b : Nat), (s.tch n).pairStart = some b → (s.dsp n).modeHeld = false → s.touchState n = toScanning → 
    Completes (.scanPairEnd n nodes self use oth) s fun t => t = ((((s.setTch n { s.tch n with pairStart := none, lastEnd := s.time, ends := ((((s.tch n).ends ++ [s.time]).filter fun x => s.time < x + 1000000000)) }).advance Obj.SCAN_SEQ n).wr Obj.REPORT_RATE_HZ
        (((((s.tch n).ends ++ [s.time]).filter fun x => s.time < x + 1000000000)).length : Nat) n).listen n use oth).scanPair n nodes self) ∧
  (∀ (s : State) (n : Fin 8) (nodes self : List Nat) (use oth : List Int) (b : Nat), (s.tch n).pairStart = some b → (s.dsp n).modeHeld = false → s.touchState n = toCalibrating → 
    Completes (.scanPairEnd n nodes self use oth) s fun t => t = ((((s.setTch n { s.tch n with pairStart := none, lastEnd := s.time, ends := ((((s.tch n).ends ++ [s.time]).filter fun x => s.time < x + 1000000000)) }).advance Obj.SCAN_SEQ n).wr Obj.REPORT_RATE_HZ
        (((((s.tch n).ends ++ [s.time]).filter fun x => s.time < x + 1000000000)).length : Nat) n).listen n use oth).calibrationPair n nodes self) ∧
  (∀ (s : State) (n : Fin 8) (nodes self : List Nat) (use oth : List Int), s.touchState n = toCalibrating → (s.tch n).sleepCal = true → s.periodPassed n (s.rdN Obj.WAKE_SCAN_HZ n) = true → (s.tch n).skipNext = false → 
    Completes (.sleepCalibrationPair n nodes self use oth) s fun t => t = ((((s.latchZones n).setTch n { (s.latchZones n).tch n with lastStart := some s.time, starts := (s.tch n).starts + 1 }).pairComplete n).listen n use oth).calibrationPair n nodes self) ∧
  (∀ (s : State) (n : Fin 8) (nodes self : List Nat) (use oth : List Int), s.touchState n = toCalibrating → (s.tch n).sleepCal = true → s.periodPassed n (s.rdN Obj.WAKE_SCAN_HZ n) = true → (s.tch n).skipNext = true → 
    Completes (.sleepCalibrationPair n nodes self use oth) s fun t => (t.tch n).skipNext = false ∧ (t.tch n).lastStart = some s.time ∧ t.rd Obj.PAIRS_SKIPPED n = (satInc Obj.PAIRS_SKIPPED.width (s.rdN Obj.PAIRS_SKIPPED n) 1 : Nat) ∧ t.rd Obj.SCAN_SEQ n = s.rd Obj.SCAN_SEQ n) ∧
  (∀ (s : State) (n : Fin 8) (steps b : Nat), (s.tch n).pairStart = some b → 4000000000 ≤ (s.time - b) * s.rdN Obj.TARGET_RATE_HZ n → 
    Completes (.pairAbandon n steps) s fun t => (t.tch n).pairStart = none ∧ (t.tch n).lastEnd = s.time ∧ t.rd Obj.PAIRS_SKIPPED n = (satInc Obj.PAIRS_SKIPPED.width (s.rdN Obj.PAIRS_SKIPPED n) 1 : Nat) ∧ t.rd Obj.SCAN_SEQ n = s.rd Obj.SCAN_SEQ n) ∧
  (∀ (s : State) (n : Fin 8) (i : Nat), 
    Completes (.contactHoldLimit n i) s fun t => t = s.setTch n { s.tch n with contacts := (s.tch n).contacts.map fun c => if c.id = i && c.st = .confirmed && c.anchorAt + s.rdN Obj.HOLD_LIMIT_S n * 1000000000 ≤ s.time then { c with holdDue := true } else c }) ∧
  (∀ (s : State) (n : Fin 8), (s.tch n).calibratedAt + s.rdN Obj.HOLD_LIMIT_S n * 1000000000 ≤ s.time → 
    Completes (.occlusionHoldExpired n) s fun t => t = s.setTch n { s.tch n with areas := (s.tch n).areas.map fun a => { a with holdDue := true } }) ∧
  (∀ (s : State) (who : Requester) (n : Fin 8) (v : Nat), s.accepts who Obj.TOUCH_COMMIT v n → v = 1 → s.isStReady n 7 = true → 
    Completes (.touchCommit who n v) s fun t => t = (s.setTch n { s.tch n with committed := some (s.commitValues touchRows n) }).answer .ok) ∧
  (∀ (s : State) (n : Fin 8), s.touchState n = toCalibrating ∨ s.touchState n = toScanning ∨ s.touchState n = toWakeScan → 
    Completes (.pumpOutOfRegulation n) s fun t => t.touchState n = toHalted ∧ (t.tch n).pumpOk = false ∧ (t.tch n).contacts = [] ∧ (t.tch n).pairStart = none ∧ t.isStReady n 7 = false ∧
      t.rd Obj.PUMP_FAULTS n = (satInc Obj.PUMP_FAULTS.width (s.rdN Obj.PUMP_FAULTS n) 1 : Nat)) ∧
  (∀ (s : State) (n : Fin 8), s.touchState n = toOff → (s.tch n).released = true → 
    Completes (.pumpInRegulation n) s fun t => t = (s.setTch n { s.tch n with pumpOk := true }).calibrate n) ∧
  (∀ (s : State) (n : Fin 8), s.touchState n = toHalted → (s.tch n).pumpOk = true → s.passed (.touchHalt n) 1000000000 = true → 
    Completes (.touchHaltRetry n) s fun t => t = (s.calibrate n).clearAlarm 12 n 0) ∧
  (∀ (s : State) (who : Requester) (n : Fin 8) (v : Nat), s.accepts who Obj.REFERENCE_CAPTURE v n → v ≠ 0 → s.isStReady n 7 = true → s.isPending Obj.REFERENCE_RESULT n = false → s.touchState n = toScanning → 
    Completes (.referenceCapture who n v) s fun t => t = ((s.startResult Obj.REFERENCE_RESULT who n).setTch n { s.tch n with capture := some ⟨true⟩ }).answer .ok) ∧
  (∀ (s : State) (n : Fin 8) (pairs : List (List CapturePair)) (c : Capture), (s.tch n).capture = some c → (∀ l ∈ pairs, ∀ k ∈ List.range (s.txN n * s.rxN n), 2 * variation (l.map CapturePair.nodes) k ≤ s.rdN Obj.SUSPECT_THRESHOLD n) → (∀ l ∈ pairs.zipIdx, ∀ p ∈ l.1, noiseAbove (s.noiseOf n l.2 p.noise) (s.rdN Obj.NOISE_HOP_LEVEL n) = false) → 
    Completes (.referenceCaptureDone n pairs) s fun t => t = (((s.setTch n { s.tch n with capture := none }).wrBlob Obj.FACTORY_REFERENCE ((s.setTch n { s.tch n with capture := none }).makeReference n (pairs.map fun l => meanCounts (l.map CapturePair.nodes) (s.txN n * s.rxN n)) (pairs.map fun l => meanCounts (l.map CapturePair.self) (s.txN n + s.rxN n))) n).syncReference n).finish Obj.REFERENCE_RESULT 0 n) ∧
  (∀ (s : State) (n : Fin 8) (pairs : List (List CapturePair)) (c : Capture), (s.tch n).capture = some c → (∃ l ∈ pairs, ∃ k ∈ List.range (s.txN n * s.rxN n), s.rdN Obj.SUSPECT_THRESHOLD n < 2 * variation (l.map CapturePair.nodes) k) → 
    Completes (.referenceCaptureDone n pairs) s fun t => t = (s.setTch n { s.tch n with capture := none }).finish Obj.REFERENCE_RESULT 2 n) ∧
  (∀ (s : State) (n : Fin 8) (pairs : List (List CapturePair)) (c : Capture), (s.tch n).capture = some c → (∀ l ∈ pairs, ∀ k ∈ List.range (s.txN n * s.rxN n), 2 * variation (l.map CapturePair.nodes) k ≤ s.rdN Obj.SUSPECT_THRESHOLD n) → (∃ l ∈ pairs.zipIdx, ∃ p ∈ l.1, noiseAbove (s.noiseOf n l.2 p.noise) (s.rdN Obj.NOISE_HOP_LEVEL n) = true) → 
    Completes (.referenceCaptureDone n pairs) s fun t => t = (s.setTch n { s.tch n with capture := none }).finish Obj.REFERENCE_RESULT 3 n) ∧
  (∀ (s : State) (n : Fin 8) (coarse : Nat) (found : List (Nat × Nat)) (g : Nat), s.touchState n = toWakeScan → s.stationState n = stSleep → (s.wakeScan n coarse found).1 = g → g = 0 → 
    Completes (.wakeScan n coarse found) s fun t => t = (s.wakeScan n coarse found).2) ∧
  (∀ (s : State) (n : Fin 8) (coarse : Nat) (found : List (Nat × Nat)) (g : Nat), s.touchState n = toWakeScan → s.stationState n = stSleep → (s.wakeScan n coarse found).1 = g → g ≠ 0 → ((s.wakeScan n coarse found).2.ctl n).moving = none → 
    Completes (.wakeScan n coarse found) s fun t => t = ((((s.wakeScan n coarse found).2.wakeGesture n g).setCtl n { (s.wakeScan n coarse found).2.ctl n with moving := some false, thenOther := false }).exitSelfRefresh n)) ∧
  (∀ (s : State) (who : Requester) (n : Fin 8) (v : Nat), s.accepts who Obj.WAKE_PENDING v n → v = 0 → 
    Completes (.wakePendingClear who n v) s fun t => t = ((s.wr Obj.WAKE_PENDING 0 n).drive 16 (!((List.range 8).any fun m => m ≠ n.val && s.rdB Obj.WAKE_PENDING m))).answer .ok) ∧
  (∀ (s : State) (n : Fin 8) (digest : Bytes) (ok : Bool), s.touchState n ≠ toOff → (s.tch n).pairStart = none → ((s.setTch n { s.tch n with skipNext := true }).extend 4 digest).swapping rkTch ≠ some n.val → 
    Completes (.tchMicrocodeSwap n digest ok) s fun t => t = (s.setTch n { s.tch n with skipNext := true }).extend 4 digest)

/-- A tick in IDLE takes the next entry and starts it; in PLAYING it goes on by one sample. A sense sample records the bridge supply and updates the coil estimates. A brake over ends the effect; the drive time limit ends it with its status. Overcurrent, supply out of range and an open load fault the driver with their causes; recovery returns it to IDLE. Triggers enter the queue, whole effects enter their slots, streams fetch in their ring. -/
def Obligations.HapticDriverActs : Prop :=
  (∀ (s : State) (n : Fin 8) (tr : Trigger), s.hapState n = haIdle → (s.hap n).charged = true → (s.hapticQ.getD n {}).peekSmall Trigger.prio = some tr → (s.setHap n { s.hap n with phase := 0, blendLeft := (s.hap n).blendLeft - 1 }).takenStatus n tr = none → tr.stream = false → 
    Completes (.hapticTick n) s fun t => t.hapState n = haPlaying ∧ ((t.hap n).play.map fun p => (p.trig, p.start, p.begun, p.playsLeft, p.ended)) = some (tr, s.time, true, tr.repeats, none) ∧
      (t.hapticQ.getD n {}).items = ((s.hapticQ.getD n {}).takeSmall Trigger.prio).2.items) ∧
  (∀ (s : State) (n : Fin 8) (p : Play), s.hapState n = haPlaying → (s.hap n).play = some p → (s.hapticQ.getD n {}).peekSmall Trigger.prio = none → p.begun = true → p.trig.stream = false → p.gapLeft = 0 → p.idx < effCount (s.effect n p.trig.effect) → 
    Completes (.hapticTick n) s fun t => t = ((s.setHap n { s.hap n with phase := 0, blendLeft := (s.hap n).blendLeft - 1 }).setHap n { (s.setHap n { s.hap n with phase := 0, blendLeft := (s.hap n).blendLeft - 1 }).hap n with play := some { p with idx := p.idx + 1, cur := s.effectMv n p p.idx, next := (s.setHap n { s.hap n with phase := 0, blendLeft := (s.hap n).blendLeft - 1 }).nextMv n p p.idx } }).emptySlots n) ∧
  (∀ (s : State) (n : Fin 8) (shunt vca vcb : Int) (vsense : Nat) (cur volt : Rat), cur = s.coilMa n shunt → volt = (((vca - vcb) * 16 : Int) : Rat) / 1000 → s.hapState n ≠ haOff → 
    Completes (.senseSample n shunt vca vcb vsense) s fun t => t.rd Obj.BRIDGE_MV n = (min (vsense * 16 / 1000) 30400 : Nat) ∧ (t.hap n).lastI = cur ∧
      (t.hap n).rise = (s.hap n).rise + (cur * cur * s.rHot n / 1000000000 * (s.rdN Obj.COIL_RTH_DKW n : Rat) / 10 - (s.hap n).rise) / (48 * (s.rdN Obj.COIL_TAU_MS n : Rat)) ∧
      (t.hap n).energy = (s.hap n).energy + volt * cur / 48000) ∧
  (∀ (s : State) (n : Fin 8) (shunt vca vcb : Int) (vsense : Nat) (cur : Rat), cur = s.coilMa n shunt → s.hapState n = haOff → 
    Completes (.senseSample n shunt vca vcb vsense) s fun t => t.rd Obj.BRIDGE_MV n = (min (vsense * 16 / 1000) 30400 : Nat) ∧ (t.hap n).lastI = cur ∧ (t.hap n).play = (s.hap n).play ∧ (t.hap n).rise = (s.hap n).rise ∧ t.out = s.out) ∧
  (∀ (s : State) (n : Fin 8), s.hapState n = haBraking → s.brakeDue n = true → 
    Completes (.brakeEnd n) s fun t => t = s.brakeOver n) ∧
  (∀ (s : State) (n : Fin 8), s.hapState n = haPlaying → 0 < (s.hap n).blendLeft → 24 ≤ (s.hap n).brakeQuiet → 
    Completes (.brakeEnd n) s fun t => t = s.setHap n { s.hap n with blendLeft := 0 }) ∧
  (∀ (s : State) (n : Fin 8) (p : Play), s.hapState n = haPlaying → (s.hap n).play = some p → 48 * s.rdN Obj.DRIVE_TIME_LIMIT_MS n ≤ (s.hap n).driveRun → 
    Completes (.driveTimeLimit n) s fun t => t = s.hapBrake n p 5) ∧
  (∀ (s : State) (n : Fin 8) (shunt : Int), s.hapState n ≠ haOff → (s.rdN Obj.OC_LIMIT_MA n : Rat) < absR (s.coilMa n shunt) → (s.hap n).stopping = false → 
    Completes (.overcurrent n shunt) s fun t => t.hapState n = haFault ∧ t.rd Obj.HAPTIC_FAULT_CAUSE n = 1 ∧ (t.hap n).play = none ∧ (t.hap n).waiting = none ∧ (t.hap n).volts = 0 ∧ t.isStReady n 8 = false) ∧
  (∀ (s : State) (n : Fin 8) (shunt : Int), s.hapState n ≠ haOff → (s.rdN Obj.OC_LIMIT_MA n : Rat) < absR (s.coilMa n shunt) → (s.hap n).stopping = true → 
    Completes (.overcurrent n shunt) s fun t => t.hapState n = haOff ∧ t.rd Obj.HAPTIC_FAULT_CAUSE n = 0 ∧ (t.hap n).play = none ∧ (t.hap n).volts = 0) ∧
  (∀ (s : State) (n : Fin 8), s.hapState n ≠ haOff → 48 ≤ (s.hap n).below → (s.hap n).stopping = false → 
    Completes (.bridgeRangeFault n) s fun t => t.hapState n = haFault ∧ t.rd Obj.HAPTIC_FAULT_CAUSE n = 2 ∧ (t.hap n).play = none ∧ (t.hap n).waiting = none ∧ (t.hap n).volts = 0 ∧ t.isStReady n 8 = false) ∧
  (∀ (s : State) (n : Fin 8), s.hapState n ≠ haOff → (s.hap n).below < 48 → 48 ≤ (s.hap n).above → (s.hap n).stopping = false → 
    Completes (.bridgeRangeFault n) s fun t => t.hapState n = haFault ∧ t.rd Obj.HAPTIC_FAULT_CAUSE n = 3 ∧ (t.hap n).play = none ∧ (t.hap n).waiting = none ∧ (t.hap n).volts = 0 ∧ t.isStReady n 8 = false) ∧
  (∀ (s : State) (n : Fin 8), s.hapState n = haPlaying → 240 ≤ (s.hap n).openRun → (s.hap n).stopping = false → 
    Completes (.openLoad n) s fun t => t.hapState n = haFault ∧ t.rd Obj.HAPTIC_FAULT_CAUSE n = 4 ∧ (t.hap n).play = none ∧ (t.hap n).waiting = none ∧ (t.hap n).volts = 0 ∧ t.isStReady n 8 = false) ∧
  (∀ (s : State) (n : Fin 8), s.hapState n = haFault → s.rdN Obj.HAPTIC_FAULT_CAUSE n = 2 ∨ s.rdN Obj.HAPTIC_FAULT_CAUSE n = 3 → 480 ≤ (s.hap n).inRange → 
    Completes (.bridgeRecovered n) s fun t => t.hapState n = haIdle ∧ t.rd Obj.HAPTIC_FAULT_CAUSE n = 0) ∧
  (∀ (s : State) (who : Requester) (n : Fin 8) (v : Nat), s.accepts who Obj.FAULT_CLEAR v n → v = 1 → s.hapState n = haFault → s.rdN Obj.HAPTIC_FAULT_CAUSE n = 1 ∨ s.rdN Obj.HAPTIC_FAULT_CAUSE n = 4 → 
    Completes (.faultClear who n v) s fun t => t.hapState n = haIdle ∧ t.rd Obj.HAPTIC_FAULT_CAUSE n = 0 ∧ t.out.head? = some (Emission.answer 0 0 0 [])) ∧
  (∀ (s : State) (n : Fin 8), s.hapState n ≠ haOff → s.passed (.bootstrap n) 1000000 = true → 
    Completes (.bootstrapChargeDone n) s fun t => t = s.setHap n { s.hap n with charged := true }) ∧
  (∀ (s : State) (u : Fin 512) (n : Fin 8) (tt : Fin 512) (v : Nat), s.accepts (.tenant u) Obj.HAPTIC_TRIGGER v n 0 u → bits 29 24 v = 0 → bit 6 v = false → 
    Completes (.hapticTrigger (.dict (.tenant u)) n tt v) s fun t => t = (s.hapQueue n (triggerOf (.tenant u.val) s.time v)).answer .ok) ∧
  (∀ (s : State) (p : Fin 2) (n : Fin 8) (tt : Fin 512) (v : Nat), s.accepts (.host p) Obj.HAPTIC_TRIGGER v n 0 tt → bits 29 24 v = 0 → bit 6 v = false → 
    Completes (.hapticTrigger (.dict (.host p)) n tt v) s fun t => t = (s.hapQueue n (triggerOf (.tenant tt.val) s.time v)).answer .ok) ∧
  (∀ (s : State) (p : Fin 2) (u : Fin 512) (n : Fin 8) (tt : Fin 512) (v : Nat), s.hwGated 2 = false → s.pageWrite p u = .taken → s.sliceOn u n = true → s.hasRight u n 3 = true → bits 29 24 v = 0 → bit 6 v = false → 
    Completes (.hapticTrigger (.page p u) n tt v) s fun t => t = s.hapQueue n (triggerOf (.tenant u.val) s.time (v % 2 ^ 32))) ∧
  (∀ (s : State) (who : Requester) (n : Fin 8) (e : Fin 64) (data : Bytes), s.served who = true → s.checkAccess who Obj.EFFECT_DATA true n e = none → (match who with | .tenant u => decide ((s.effect n e).length = 0) || decide (s.rdN Obj.EFFECT_OWNER n e = u.val) | _ => true) = true → 18 ≤ data.length → data.length ≤ 65536 → effectOk data = true → s.effectBytes n e + data.length ≤ 65536 → s.effectBusy n e = false → 
    Completes (.effectData who n e data) s fun t => t = (s.putEffect n e data (match who with | .tenant u => u.val | _ => 0xFFFF)).answer .ok) ∧
  (∀ (s : State) (who : Requester) (n : Fin 8) (v : Nat), s.accepts who Obj.HAPTIC_COMMIT v n → v = 1 → s.isStReady n 8 = true → 
    Completes (.hapticCommit who n v) s fun t => t = ((s.setHap n { s.hap n with committed := some (s.commitValues hapticRows n) }).hapApply n).answer .ok) ∧
  (∀ (s : State) (n : Fin 8) (len at_ avail k : Nat) (tt : Fin 512) (p : Play), s.hapState n = haPlaying → (s.hap n).play = some p → p.trig.owner = .tenant tt.val → p.trig.stream = true → s.rdN Obj.HAP_STREAM_SIZE n 0 tt ≠ 0 → at_ = ((s.rdN Obj.HAP_STREAM_READ n 0 tt + 2 * p.buf.length) % s.rdN Obj.HAP_STREAM_SIZE n 0 tt) → avail = (s.rdN Obj.HAP_STREAM_WRITE n 0 tt + s.rdN Obj.HAP_STREAM_SIZE n 0 tt - at_) % s.rdN Obj.HAP_STREAM_SIZE n 0 tt → k = min (min len avail) (s.rdN Obj.HAP_STREAM_SIZE n 0 tt - at_) / 2 * 2 → k ≠ 0 → s.memServes n = true → s.inside (.tenant tt) n 1 (s.rdN Obj.HAP_STREAM_ADDR n 0 tt + at_) k = true → s.isPoisoned n (s.rdN Obj.HAP_STREAM_ADDR n 0 tt + at_) k = false → 
    Completes (.hapticStreamFetch n len) s fun t => t = (s.noteTag n (s.rdN Obj.HAP_STREAM_ADDR n 0 tt + at_) k 0).setHap n { s.hap n with play := some { p with buf := p.buf ++ (List.range (k / 2)).map fun i => signed 16 (fieldLE (s.readTagged n (s.rdN Obj.HAP_STREAM_ADDR n 0 tt + at_) k 0) (2 * i) 2) } })

/-- A frame advances SAMPLE_COUNTER and sends the frame of three frames ago, zeros while STARTING. A commit makes the shadows active and its changes begin later. A stream runs, stops, and takes the frames it fetched; outside the windows it ends. Tones start, stop and turn between their periods. A bus leaves activity after its hold. A loop block is written or dropped and counted. The engine starts after 64 zero frames, stops after 64, and restarts its clocks. -/
def Obligations.AudioEngineActs : Prop :=
  (∀ (s : State) (n : Fin 8) (mic0 mic1 : Nat) (u : State), u = (s.advance Obj.SAMPLE_COUNTER n).beginDue n → s.audioState n = auStarting → (s.aud n).clockStopped = false → 
    Completes (.audioFrame n mic0 mic1) s fun t => t = (u.setAud n { u.aud n with frame := (u.aud n).frame + 1, zeroFrames := (u.aud n).zeroFrames + 1 }).sendTdm n [0, 0, 0, 0]) ∧
  (∀ (s : State) (n : Fin 8) (mic0 mic1 : Nat), s.audioState n = auActive ∨ s.audioState n = auStopping → (s.aud n).clockStopped = false → 
    Completes (.audioFrame n mic0 mic1) s fun t => t.rd Obj.SAMPLE_COUNTER n = (wrapInc Obj.SAMPLE_COUNTER.width (s.rdN Obj.SAMPLE_COUNTER n) : Nat) ∧ (t.aud n).frame = (s.aud n).frame + 1 ∧
      Emission.tdm n (s.aud n).fsyncDelay (s.aud n).bclkEdge (if (s.aud n).outDelay.length ≤ 2 then [0, 0, 0, 0] else ((s.aud n).outDelay.headD []).map fun x => unsigned 32 (x * 256)) ∈ t.out) ∧
  (∀ (s : State) (n : Fin 8) (stage : Fin 23), ((s.aud n).stage stage).target ≠ ((s.aud n).stage stage).present → ((s.aud n).stage stage).start + s.stepFrames n ≤ (s.aud n).frame → 
    Completes (.gainForcedRegime n stage) s fun t => t = s.setAud n ((s.aud n).setStage stage { (s.aud n).stage stage with forced := true })) ∧
  (∀ (s : State) (who : Requester) (n : Fin 8) (v : Nat) (u : State) (touched : List Nat), s.accepts who Obj.AUDIO_COMMIT v n → v ≠ 0 → s.isStReady n 9 = true → s.audioState n ≠ auOff ∧ (s.aud n).clockStopped = false → u = (audioRows.foldl (fun (u : State) (r : ObjRow) => (List.range r.cnt).foldl (fun (u : State) i => u.dropShadow r n i) u) s) → touched = ((List.range 16).filter (fun k => (s.shadow.find (Obj.SRC_GAIN_HDB.key n k 512 0)).isSome) ++ ((List.range 3).filter (fun k => (s.shadow.find (Obj.SINK_GAIN_HDB.key n k 512 0)).isSome)).map (20 + ·)) → 
    Completes (.audioCommit who n v) s fun t => t = (u.setAud n { u.aud n with commits := (u.aud n).commits ++ [{ at_ := s.time, values := s.commitValues audioRows n, touched := touched }] }).answer .ok) ∧
  (∀ (s : State) (who : Requester) (n : Fin 8) (v : Nat) (u : State) (touched : List Nat), s.accepts who Obj.AUDIO_COMMIT v n → v ≠ 0 → s.isStReady n 9 = true → s.audioState n = auOff ∨ (s.aud n).clockStopped = true → u = (audioRows.foldl (fun (u : State) (r : ObjRow) => (List.range r.cnt).foldl (fun (u : State) i => u.dropShadow r n i) u) s) → touched = ((List.range 16).filter (fun k => (s.shadow.find (Obj.SRC_GAIN_HDB.key n k 512 0)).isSome) ++ ((List.range 3).filter (fun k => (s.shadow.find (Obj.SINK_GAIN_HDB.key n k 512 0)).isSome)).map (20 + ·)) → 
    Completes (.audioCommit who n v) s fun t => t = ((u.setAud n { u.aud n with commits := (u.aud n).commits ++ [{ at_ := s.time, values := s.commitValues audioRows n, touched := touched }] }).flushCommits n).answer .ok) ∧
  (∀ (s : State) (who : Requester) (n : Fin 8) (k : Fin 12) (v : Nat), s.accepts who Obj.STREAM_START v n k → v ≠ 0 → s.isStReady n 9 = true → s.touchReports n = true → ((s.aud n).stream k).running = false → (s.aud n).newRoute.find k = none → (s.aud n).blockMuted.contains k.val = false → 
    Completes (.streamStart who n k v) s fun t => t = ((((s.setAud n ((s.aud n).setStream k { running := true })).setSrc n k 1).aim n k (((s.setAud n ((s.aud n).setStream k { running := true })).setSrc n k 1).wantedGain n k)).issueFetch n k).answer .ok) ∧
  (∀ (s : State) (who : Requester) (n : Fin 8) (k : Fin 12) (v : Nat), s.accepts who Obj.STREAM_STOP v n k → v = 1 → ((s.aud n).stream k).running = true → 
    Completes (.streamStop who n k v) s fun t => t = ((s.streamDone n k).aim n k gainMute true).answer .ok) ∧
  (∀ (s : State) (n : Fin 8) (k : Fin 12) (addr len : Nat), ((s.aud n).stream k).fetching = some (addr, len) → s.memServes n = true → s.inside (s.sourceHolder n k) n 1 addr len = true → s.isPoisoned n addr len = false → 
    Completes (.audioStreamFetch n k) s fun t => t = (s.noteTag n addr len (s.sourceHolder n k).tag).setAud n ((s.aud n).setStream k { (s.aud n).stream k with fetching := none, fifo := ((s.aud n).stream k).fifo ++ framesOf (s.rdN Obj.STREAM_FORMAT n k) (s.readTagged n addr len (s.sourceHolder n k).tag) })) ∧
  (∀ (s : State) (n : Fin 8) (k : Fin 12) (addr len : Nat), ((s.aud n).stream k).fetching = some (addr, len) → s.memServes n = true → s.inside (s.sourceHolder n k) n 1 addr len = false → 
    Completes (.audioStreamFetch n k) s fun t => t = ((s.setAud n ((s.aud n).setStream k {})).setSrc n k 0).audioNote n (s.sourceHolder n k) 0x000F 2 [(k, 4), (2, 4)]) ∧
  (∀ (s : State) (who : Requester) (n : Fin 8) (g : Fin 2) (v : Nat), s.accepts who Obj.TG_START v n g → v ≠ 0 → s.isStReady n 9 = true → (s.aud n).newRoute.find (12 + g.val) = none → (s.aud n).blockMuted.contains (12 + g.val) = false → 
    Completes (.tgStart who n g v) s fun t => t = (((s.setAud n ((s.aud n).setTone g { st := .starting, left := s.rdN Obj.TG_REPEAT n g, forever := decide (s.rdN Obj.TG_REPEAT n g = 0) })).setSrc n (12 + g.val) 1).aim n (12 + g.val) (((s.setAud n ((s.aud n).setTone g { st := .starting, left := s.rdN Obj.TG_REPEAT n g, forever := decide (s.rdN Obj.TG_REPEAT n g = 0) })).setSrc n (12 + g.val) 1).wantedGain n (12 + g.val))).answer .ok) ∧
  (∀ (s : State) (who : Requester) (n : Fin 8) (g : Fin 2) (v : Nat), s.accepts who Obj.TG_STOP v n g → v = 1 → ((s.aud n).tone g).st = .on → 
    Completes (.tgStop who n g v) s fun t => t = (s.setAud n ((s.aud n).setTone g { (s.aud n).tone g with stopping := true })).answer .ok) ∧
  (∀ (s : State) (who : Requester) (n : Fin 8) (g : Fin 2) (v : Nat), s.accepts who Obj.TG_STOP v n g → v = 1 → ((s.aud n).tone g).st = .off ∨ ((s.aud n).tone g).st = .starting → 
    Completes (.tgStop who n g v) s fun t => t = ((s.setAud n ((s.aud n).setTone g {})).setSrc n (12 + g.val) 0).answer .ok) ∧
  (∀ (s : State) (n : Fin 8) (g : Fin 2), ((s.aud n).tone g).st = .on → ((s.aud n).tone g).since + s.rdN Obj.TG_ON_MS n g * 1000000 ≤ s.time → 
    Completes (.toneOnElapsed n g) s fun t => t = s.setAud n ((s.aud n).setTone g { (s.aud n).tone g with onElapsed := true })) ∧
  (∀ (s : State) (n : Fin 8) (g : Fin 2), ((s.aud n).tone g).st = .off → ((s.aud n).tone g).since + s.rdN Obj.TG_OFF_MS n g * 1000000 ≤ s.time → 
    Completes (.toneOffElapsed n g) s fun t => t = s.setAud n ((s.aud n).setTone g { (s.aud n).tone g with st := .starting, left := ((s.aud n).tone g).left - 1 })) ∧
  (∀ (s : State) (n : Fin 8) (b : Fin 4), s.rdB Obj.BUS_ACTIVE n b = true → (s.aud n).lastHit.getD b 0 + s.rdN Obj.DUCK_HOLD_MS n * 1000000 ≤ s.time → 
    Completes (.busActivityExpired n b) s fun t => t = s.wr Obj.BUS_ACTIVE 0 n b) ∧
  (∀ (s : State) (n : Fin 8) (b : List (Int × Int)) (rest : List (List (Int × Int))) (room : Nat), (s.aud n).loopBlocks = b :: rest → room = (if (if s.rdN Obj.LOOP_SIZE n = 0 then 0 else (s.rdN Obj.LOOP_READ n + s.rdN Obj.LOOP_SIZE n - s.rdN Obj.LOOP_WRITE n) % s.rdN Obj.LOOP_SIZE n) = 0 then s.rdN Obj.LOOP_SIZE n else (if s.rdN Obj.LOOP_SIZE n = 0 then 0 else (s.rdN Obj.LOOP_READ n + s.rdN Obj.LOOP_SIZE n - s.rdN Obj.LOOP_WRITE n) % s.rdN Obj.LOOP_SIZE n)) → 128 < room → s.memServes n = true → s.inside (s.mixHolder n) n 2 (s.rdN Obj.LOOP_ADDR n + s.rdN Obj.LOOP_WRITE n) 128 = true → 
    Completes (.loopBlockWrite n) s fun t => t = (((s.setAud n { s.aud n with loopBlocks := rest }).setAud n { (s.setAud n { s.aud n with loopBlocks := rest }).aud n with loopEpisode := false }).writeTagged n (s.rdN Obj.LOOP_ADDR n + s.rdN Obj.LOOP_WRITE n) (b.flatMap fun x => toLE 4 (unsigned 32 (x.1 * 256)) ++ toLE 4 (unsigned 32 (x.2 * 256))) (s.mixHolder n).tag).wr Obj.LOOP_WRITE (((s.rdN Obj.LOOP_WRITE n + 128) % s.rdN Obj.LOOP_SIZE n : Nat)) n) ∧
  (∀ (s : State) (n : Fin 8) (b : List (Int × Int)) (rest : List (List (Int × Int))) (room : Nat), (s.aud n).loopBlocks = b :: rest → room = (if (if s.rdN Obj.LOOP_SIZE n = 0 then 0 else (s.rdN Obj.LOOP_READ n + s.rdN Obj.LOOP_SIZE n - s.rdN Obj.LOOP_WRITE n) % s.rdN Obj.LOOP_SIZE n) = 0 then s.rdN Obj.LOOP_SIZE n else (if s.rdN Obj.LOOP_SIZE n = 0 then 0 else (s.rdN Obj.LOOP_READ n + s.rdN Obj.LOOP_SIZE n - s.rdN Obj.LOOP_WRITE n) % s.rdN Obj.LOOP_SIZE n)) → room ≤ 128 → s.memServes n = true → (s.aud n).loopEpisode = true → 
    Completes (.loopBlockWrite n) s fun t => t = (s.setAud n { s.aud n with loopBlocks := rest }).count Obj.LOOP_OVERRUNS n) ∧
  (∀ (s : State) (n : Fin 8), s.audioState n = auStarting → 64 ≤ (s.aud n).zeroFrames → (s.aud n).stopWanted = false → (s.aud n).restart = false → 
    Completes (.audioStartDone n) s fun t => t.audioState n = auActive ∧ t.isStReady n 9 = true ∧ (t.aud n).zeroFrames = 0 ∧ (t.aud n).newRoute = [] ∧ (t.aud n).route = routedStages.map (fun k => (k, s.wantedRoute n k)) ∧
      (∀ k : Fin 23, ((t.aud n).stage k).present = gainMute)) ∧
  (∀ (s : State) (n : Fin 8), s.audioState n = auStopping → 64 ≤ (s.aud n).zeroFrames → (s.aud n).restart = false → s.stationState n ≠ stOff → 
    Completes (.audioStopDone n) s fun t => t = ((s.setAud n { s.aud n with zeroFrames := 0 }).flushCommits n).setAudioState n auOff) ∧
  (∀ (s : State) (n : Fin 8), s.audioState n = auStopping → 64 ≤ (s.aud n).zeroFrames → (s.aud n).restart = false → s.stationState n = stOff → 
    Completes (.audioStopDone n) s fun t => t.audioState n = auOff ∧ t.aud n = {} ∧ t.isStReady n 9 = false ∧ t.rd Obj.SAMPLE_COUNTER n = 0) ∧
  (∀ (s : State) (n : Fin 8), s.audioState n = auStopping → 64 ≤ (s.aud n).zeroFrames → (s.aud n).restart = true → 
    Completes (.audioStopDone n) s fun t => t = ((s.setAud n { s.aud n with clockStopped := true, stoppedAt := s.time, zeroFrames := 0 }).flushCommits n).setAudioState n auStarting) ∧
  (∀ (s : State) (n : Fin 8), s.audioState n = auStarting → (s.aud n).clockStopped = true → (s.aud n).stoppedAt + 1000000 ≤ s.time → 
    Completes (.audioClockRestart n) s fun t => t = s.audioClocks n)

/-- CREATE begins loading or answers with its outcome; a loaded image that verifies under the authority whose hash is set gives a STOPPED enclave with its identity and a sealed sponsor, else the enclave is EMPTY with LOAD failed. START and STOP move it between STOPPED and RUNNING; at the end of a core's slice the firmware places another. DESTROY returns what it holds and erases its key; done, it is forgotten and its sponsor told. After a restart everything lost is scrubbed and the blocks go back. -/
def Obligations.EnclavesAreCreatedAndDestroyed : Prop :=
  (∀ (s : State) (who : Requester) (e : Fin 64), s.accepts who Obj.ENCLAVE_COMMAND 1 0 e → s.isHwReady 2 = true → s.isPending Obj.ENCLAVE_RESULT 0 e = false → s.createOutcome e = 0 → 
    Completes (.enclaveCreate who e) s fun t => t = ((s.startResult Obj.ENCLAVE_RESULT who 0 e).setEnclave e enLoading).answer .ok) ∧
  (∀ (s : State) (who : Requester) (e : Fin 64) (k : Nat), s.accepts who Obj.ENCLAVE_COMMAND 1 0 e → s.isHwReady 2 = true → s.isPending Obj.ENCLAVE_RESULT 0 e = false → s.createOutcome e = k → k ≠ 0 → 
    Completes (.enclaveCreate who e) s fun t => t = ((s.startResult Obj.ENCLAVE_RESULT who 0 e).finish Obj.ENCLAVE_RESULT k 0 e).answer .ok) ∧
  (∀ (s : State) (e : Fin 64) (key b : Bytes) (code : Nat), s.enclaveState e = enLoading → s.secRuns = true → code = imageCodeSize (s.imageAt e 64) → b = s.imageAt e (0x40 + code + 96) → (imageFormatOk b && s.range0Ok e code) = false → 
    Completes (.enclaveLoadDone e key) s fun t => t = (((((s.zeroMem sramLoc (bits 39 12 (s.rdN Obj.RANGE 0 e 512 0) * 4096) (bits 63 40 (s.rdN Obj.RANGE 0 e 512 0) * 4096)).setEnclave e enEmpty).finish Obj.ENCLAVE_RESULT 7 0 e)).openSystem)) ∧
  (∀ (s : State) (e : Fin 64) (key b : Bytes) (code : Nat), s.enclaveState e = enLoading → s.secRuns = true → code = imageCodeSize (s.imageAt e 64) → b = s.imageAt e (0x40 + code + 96) → (imageFormatOk b && s.range0Ok e code) = true → s.sec.unlocking = false → 
    Completes (.enclaveLoadDone e key) s fun t => t = (if Config.sha384 key = s.blob Obj.ENCLAVE_AUTHORITY_HASH && Config.ecdsaVerify key (Config.sha384 (b.take (0x40 + code))) (b.drop (0x40 + code)) then ((if (((({ ((s.store sramLoc (bits 39 12 (s.rdN Obj.RANGE 0 e 512 0) * 4096) ((b.take (0x40 + code)).drop 0x40)).drawBytes 64).2 with encKey := ((s.store sramLoc (bits 39 12 (s.rdN Obj.RANGE 0 e 512 0) * 4096) ((b.take (0x40 + code)).drop 0x40)).drawBytes 64).2.encKey.put e ((s.store sramLoc (bits 39 12 (s.rdN Obj.RANGE 0 e 512 0) * 4096) ((b.take (0x40 + code)).drop 0x40)).drawBytes 64).1 } : State).setEcl e {}).setEnclave e enStopped).wrBlob Obj.ENCLAVE_IDENTITY (Config.sha384 (b.take (0x40 + code))) 0 e).rdN Obj.SPONSOR 0 e < 512 then (((({ ((s.store sramLoc (bits 39 12 (s.rdN Obj.RANGE 0 e 512 0) * 4096) ((b.take (0x40 + code)).drop 0x40)).drawBytes 64).2 with encKey := ((s.store sramLoc (bits 39 12 (s.rdN Obj.RANGE 0 e 512 0) * 4096) ((b.take (0x40 + code)).drop 0x40)).drawBytes 64).2.encKey.put e ((s.store sramLoc (bits 39 12 (s.rdN Obj.RANGE 0 e 512 0) * 4096) ((b.take (0x40 + code)).drop 0x40)).drawBytes 64).1 } : State).setEcl e {}).setEnclave e enStopped).wrBlob Obj.ENCLAVE_IDENTITY (Config.sha384 (b.take (0x40 + code))) 0 e).wr Obj.SEALED 1 0 0 ((((({ ((s.store sramLoc (bits 39 12 (s.rdN Obj.RANGE 0 e 512 0) * 4096) ((b.take (0x40 + code)).drop 0x40)).drawBytes 64).2 with encKey := ((s.store sramLoc (bits 39 12 (s.rdN Obj.RANGE 0 e 512 0) * 4096) ((b.take (0x40 + code)).drop 0x40)).drawBytes 64).2.encKey.put e ((s.store sramLoc (bits 39 12 (s.rdN Obj.RANGE 0 e 512 0) * 4096) ((b.take (0x40 + code)).drop 0x40)).drawBytes 64).1 } : State).setEcl e {}).setEnclave e enStopped).wrBlob Obj.ENCLAVE_IDENTITY (Config.sha384 (b.take (0x40 + code))) 0 e).rdN Obj.SPONSOR 0 e) else (((({ ((s.store sramLoc (bits 39 12 (s.rdN Obj.RANGE 0 e 512 0) * 4096) ((b.take (0x40 + code)).drop 0x40)).drawBytes 64).2 with encKey := ((s.store sramLoc (bits 39 12 (s.rdN Obj.RANGE 0 e 512 0) * 4096) ((b.take (0x40 + code)).drop 0x40)).drawBytes 64).2.encKey.put e ((s.store sramLoc (bits 39 12 (s.rdN Obj.RANGE 0 e 512 0) * 4096) ((b.take (0x40 + code)).drop 0x40)).drawBytes 64).1 } : State).setEcl e {}).setEnclave e enStopped).wrBlob Obj.ENCLAVE_IDENTITY (Config.sha384 (b.take (0x40 + code))) 0 e)).finish Obj.ENCLAVE_RESULT 0 0 e) else (((((s.zeroMem sramLoc (bits 39 12 (s.rdN Obj.RANGE 0 e 512 0) * 4096) (bits 63 40 (s.rdN Obj.RANGE 0 e 512 0) * 4096)).setEnclave e enEmpty).finish Obj.ENCLAVE_RESULT 7 0 e)).openSystem))) ∧
  (∀ (s : State) (who : Requester) (e : Fin 64), s.accepts who Obj.ENCLAVE_COMMAND 2 0 e → s.isHwReady 2 = true → s.enclaveState e = enStopped → 
    Completes (.enclaveStart who e) s fun t => t = ((((s.setEcl e { s.ecl e with entered := true }).setEnclave e enRunning).schedule e).answer .ok)) ∧
  (∀ (s : State) (who : Requester) (e : Fin 64), s.accepts who Obj.ENCLAVE_COMMAND 3 0 e → s.isHwReady 2 = true → s.enclaveState e = enRunning → 
    Completes (.enclaveStop who e) s fun t => t = ((s.unschedule e).setEnclave e enStopped).answer .ok) ∧
  (∀ (s : State) (who : Requester) (e : Fin 64), s.accepts who Obj.ENCLAVE_COMMAND 4 0 e → s.isHwReady 2 = true → s.enclaveState e = enStopped ∨ s.enclaveState e = enRunning → 
    Completes (.enclaveCommandDestroy who e) s fun t => t = (s.destroyEnclave e).answer .ok) ∧
  (∀ (s : State) (who : Requester) (e : Fin 64) (v : Bool), s.accepts who Obj.ENCLAVE_DESTROY 1 0 e → v = true → s.isHwReady 2 = true → s.enclaveState e = enStopped ∨ s.enclaveState e = enRunning → 
    Completes (.enclaveDestroy who e v) s fun t => t = (s.destroyEnclave e).answer .ok) ∧
  (∀ (s : State) (e : Fin 64), s.enclaveState e = enDestroying → s.secRuns = true → s.heldBlocks e = [] → 
    Completes (.enclaveDestroyDone e) s fun t => t = ((((s.scrubRanges (s.enclaveRanges e)).forgetEnclave e).tellEnclaveLost e (s.rdN Obj.SPONSOR 0 e))).openSystem) ∧
  (∀ (s : State) (core : Fin 2) (next : Option (Fin 64)) (e : Fin 64), s.secRuns = true → next = some e → s.enclaveState e = enRunning → s.sec.cores[1 - core.val]? ≠ some (some e.val) → 
    Completes (.enclaveSliceExpired core next) s fun t => t = { s with sec := { s.sec with cores := s.sec.cores.set core (some e.val) } }) ∧
  (∀ (s : State) (core : Fin 2) (next : Option (Fin 64)), s.secRuns = true → next = none → 
    Completes (.enclaveSliceExpired core next) s fun t => t = { s with sec := { s.sec with cores := s.sec.cores.set core none } }) ∧
  (∀ (s : State) (who : Requester) (e : Fin 64) (data : Bytes), s.served who = true → s.checkAccess who Obj.INBOX true 0 e = none → 1 ≤ data.length → data.length ≤ 1024 → s.isHwReady 2 = true → s.enclaveState e = enStopped ∨ s.enclaveState e = enRunning → (s.ecl e).inbox = none → 
    Completes (.inbox who e data) s fun t => t = (((s.setEcl e { s.ecl e with inbox := some data }).toEnclave e (s.mkRec 0x001B 1 noStation noTenant [(data.length, 11)])).startResult Obj.OUTBOX who 0 e).answer .ok) ∧
  (∀ (s : State), s.rdN Obj.SEC_STATE = secScrubbing → 
    Completes (.secScrubDone) s fun t => t.rd Obj.SEC_STATE = secReady ∧ t.sec.lost = [] ∧ t.sec.restarting = false ∧ t.rst.secEnded = true ∧ (∀ l ∈ s.locks, (t.lock l.1).st ≠ .secure))

/-- ACQUIRE of a granted NORMAL block starts its lock cycle and tells its holder; RELEASE of a SECURE block of the caller starts its return. The drain ends with the block LOCKED, the ready step ends SECURE or with the holder of the normal world. Blocks outside the grant are NO_GRANT. Accesses are answered as the dictionary answers the holder; a commit arms both sets; the queues, the outbox and sealed data are the caller's own; REBIND applies an authorised binding write. -/
def Obligations.EnclaveCallsAct : Prop :=
  (∀ (s : State) (e : Fin 64) (n : Fin 8) (kind : BlockKind) (k : Nat), s.secRuns = true → s.enclaveState e = enRunning → s.sec.cores.contains (some e.val) = true → s.granted e (⟨n, kind, k⟩ : Block) = true → (s.lock (⟨n, kind, k⟩ : Block)).st = .normal → s.lowerAcquire e (⟨n, kind, k⟩ : Block) = false → 
    Completes (.acquire e n kind k) s fun t => t = ((if kind = .zone then ((s.setLock (⟨n, kind, k⟩ : Block) { st := .locking, enclave := e.val, towardsEnclave := true }).toHolder n (s.normalHolder (⟨n, kind, k⟩ : Block)) (s.blockRec 0x0015 3 (⟨n, kind, k⟩ : Block))).recomposeFor n k else (s.setLock (⟨n, kind, k⟩ : Block) { st := .locking, enclave := e.val, towardsEnclave := true }).toHolder n (s.normalHolder (⟨n, kind, k⟩ : Block)) (s.blockRec 0x0015 3 (⟨n, kind, k⟩ : Block))).reply e (.done []))) ∧
  (∀ (s : State) (e : Fin 64) (n : Fin 8) (kind : BlockKind) (k : Nat), s.secRuns = true → s.enclaveState e = enRunning → s.sec.cores.contains (some e.val) = true → s.granted e (⟨n, kind, k⟩ : Block) = true → (s.lock (⟨n, kind, k⟩ : Block)).st = .secure → (s.lock (⟨n, kind, k⟩ : Block)).enclave = e.val → 
    Completes (.release e n kind k) s fun t => t = (s.returnBlock (⟨n, kind, k⟩ : Block)).reply e (.done [])) ∧
  (∀ (s : State) (e : Fin 64) (n : Fin 8) (kind : BlockKind) (k : Nat), s.secRuns = true → s.enclaveState e = enRunning → s.sec.cores.contains (some e.val) = true → s.granted e (⟨n, kind, k⟩ : Block) = false → 
    Completes (.acquire e n kind k) s fun t => t = s.reply e .noGrant) ∧
  (∀ (s : State) (n : Fin 8) (kind : BlockKind) (k : Nat), (s.lock (⟨n, kind, k⟩ : Block)).st = .locking ∨ (s.lock (⟨n, kind, k⟩ : Block)).st = .returning → s.drainable (⟨n, kind, k⟩ : Block) = true → 
    Completes (.lockDrainDone n kind k) s fun t => t = (s.drainBlock (⟨n, kind, k⟩ : Block)).setLock (⟨n, kind, k⟩ : Block) { s.lock (⟨n, kind, k⟩ : Block) with st := .locked }) ∧
  (∀ (s : State) (n : Fin 8) (kind : BlockKind) (k : Nat), (s.lock (⟨n, kind, k⟩ : Block)).st = .locked → s.secRuns = true → kind = .zone → s.touchZoneDue n k = true → (s.lock (⟨n, kind, k⟩ : Block)).towardsEnclave = true → 
    Completes (.lockReady n kind k) s fun t => t = (if kind = .zone then (s.setLock (⟨n, kind, k⟩ : Block) { s.lock (⟨n, kind, k⟩ : Block) with st := .secure }).touchZoneReady n k else s.setLock (⟨n, kind, k⟩ : Block) { s.lock (⟨n, kind, k⟩ : Block) with st := .secure })) ∧
  (∀ (s : State) (n : Fin 8) (kind : BlockKind) (k : Nat), (s.lock (⟨n, kind, k⟩ : Block)).st = .locked → s.secRuns = true → kind = .zone → s.touchZoneDue n k = true → (s.lock (⟨n, kind, k⟩ : Block)).towardsEnclave = false → 
    Completes (.lockReady n kind k) s fun t => t = (((if kind = .zone then (s.setLock (⟨n, kind, k⟩ : Block) {}).touchZoneReady n k else s.setLock (⟨n, kind, k⟩ : Block) {})).toHolder n (((if kind = .zone then (s.setLock (⟨n, kind, k⟩ : Block) {}).touchZoneReady n k else s.setLock (⟨n, kind, k⟩ : Block) {})).holder (⟨n, kind, k⟩ : Block)) (((if kind = .zone then (s.setLock (⟨n, kind, k⟩ : Block) {}).touchZoneReady n k else s.setLock (⟨n, kind, k⟩ : Block) {})).blockRec 0x0016 2 (⟨n, kind, k⟩ : Block))).applyHeld n) ∧
  (∀ (s : State) (e : Fin 64) (area : Fin 16) (idx sub : Nat) (data : Bytes), s.secRuns = true → s.enclaveState e = enRunning → s.sec.cores.contains (some e.val) = true → ownLost e area idx sub = none → 
    Completes (.enclaveWrite e area idx sub data) s fun t => t = s.callAccess e area idx sub fun u => u.dictWrite (.enclave e) area idx sub 512 {} data {}) ∧
  (∀ (s : State) (e : Fin 64) (area : Fin 16) (idx sub : Nat) (data : Bytes) (r : ObjRow), s.secRuns = true → s.enclaveState e = enRunning → s.sec.cores.contains (some e.val) = true → ownLost e area idx sub = some r → data.length = 2 → ofBE data = 0 → 
    Completes (.enclaveWrite e area idx sub data) s fun t => t = (s.wr r 0 0 e).reply e (.done [])) ∧
  (∀ (s : State) (e : Fin 64) (area : Fin 16) (idx sub : Nat), s.secRuns = true → s.enclaveState e = enRunning → s.sec.cores.contains (some e.val) = true → ownLost e area idx sub = none → 
    Completes (.enclaveRead e area idx sub) s fun t => t = s.callAccess e area idx sub fun u => u.dictRead (.enclave e) area idx sub 512 {}) ∧
  (∀ (s : State) (e : Fin 64) (n : Fin 8) (layerMask guardMask : Nat), s.secRuns = true → s.enclaveState e = enRunning → s.sec.cores.contains (some e.val) = true → bit n (s.rdN Obj.GRANT_STATIONS 0 e) = true → ((masksBlocks n layerMask guardMask).all fun b => s.granted e b) = true → layerMask < 2 ^ 17 → guardMask < 2 ^ 32 → s.isStReady n 3 = true → s.isStReady n 4 = true → 
    Completes (.enclaveCommit e n layerMask guardMask) s fun t => t = ((s.layerCommit n (.enclave e) layerMask guardMask).1.guardCommit n (.enclave e) guardMask (if (s.layerCommit n (.enclave e) layerMask guardMask).2 then s.tiedRegions n (.enclave e) layerMask else 0)).1.reply e (if (s.layerCommit n (.enclave e) layerMask guardMask).2 && ((s.layerCommit n (.enclave e) layerMask guardMask).1.guardCommit n (.enclave e) guardMask (if (s.layerCommit n (.enclave e) layerMask guardMask).2 then s.tiedRegions n (.enclave e) layerMask else 0)).2 then .done [] else .status 14 8 [])) ∧
  (∀ (s : State) (e : Fin 64) (touch : Bool) (r : Rec), s.secRuns = true → s.enclaveState e = enRunning → s.sec.cores.contains (some e.val) = true → touch = false → ((s.encNoteQ.getD e {}).takeSmall Rec.prio).1 = some r → r.code ≠ 0x001B → 
    Completes (.queueRead e touch) s fun t => t = ({ s with encNoteQ := s.encNoteQ.put e ((s.encNoteQ.getD e {}).takeSmall Rec.prio).2 } : State).reply e (.done r.encode)) ∧
  (∀ (s : State) (e : Fin 64) (touch : Bool) (r : TouchRec), s.secRuns = true → s.enclaveState e = enRunning → s.sec.cores.contains (some e.val) = true → touch = true → ((s.encTouchQ.getD e {}).takeSmall TouchRec.prio).1 = some r → 
    Completes (.queueRead e touch) s fun t => t = ({ s with encTouchQ := s.encTouchQ.put e ((s.encTouchQ.getD e {}).takeSmall TouchRec.prio).2 } : State).reply e (.done r.encode)) ∧
  (∀ (s : State) (e : Fin 64) (data : Bytes), s.secRuns = true → s.enclaveState e = enRunning → s.sec.cores.contains (some e.val) = true → 1 ≤ data.length → data.length ≤ 1024 → 
    Completes (.send e data) s fun t => t = (((s.setEcl e { s.ecl e with inbox := none }).wrBlob Obj.OUTBOX data 0 e).completeResult Obj.OUTBOX 0 0 e).reply e (.done [])) ∧
  (∀ (s : State) (e : Fin 64) (data : Bytes), s.secRuns = true → s.enclaveState e = enRunning → s.sec.cores.contains (some e.val) = true → 
    Completes (.seal e data) s fun t => t = (s.drawBytes 12).2.reply e (.done ((s.drawBytes 12).1 ++ Config.aesSeal (s.sealKey e) (s.drawBytes 12).1 data))) ∧
  (∀ (s : State) (e : Fin 64) (data : Bytes), s.secRuns = true → s.enclaveState e = enRunning → s.sec.cores.contains (some e.val) = true → 
    Completes (.unseal e data) s fun t => t = s.reply e (match Config.aesUnseal (s.sealKey e) data with | some b => .done b | none => .empty)) ∧
  (∀ (s : State) (e : Fin 64) (w : BindWrite), s.secRuns = true → s.enclaveState e = enRunning → s.sec.cores.contains (some e.val) = true → s.rdN Obj.SPONSOR 0 e < 512 → ∀ v : Bool, w ≠ .enable v → s.bindRefusal (s.rdN Obj.SPONSOR 0 e) w true = none → 
    Completes (.rebind e w) s fun t => t = (s.bind (s.rdN Obj.SPONSOR 0 e) w true).1.reply e (.done []))

/-- A nonce of 32 bytes starts a report, which holds the nonce, the identity, M0 to M5 and the enclaves, signed. A read of DEBUG_CHALLENGE gives a fresh nonce. A response of 97 bytes ends with its outcome; a third failure in a row locks debug for 60 s; success opens the level. A JTAG instruction selects what the open levels allow, BYPASS otherwise. -/
def Obligations.AttestationAndDebugAct : Prop :=
  (∀ (s : State) (who : Requester) (nonce : Bytes), s.served who = true → s.checkAccess who Obj.ATTEST_CHALLENGE true = none → nonce.length = 32 → s.isHwReady 2 = true → s.isPending Obj.ATTEST_REPORT = false → 
    Completes (.attestChallenge who nonce) s fun t => t = (({ s with sec := { s.sec with attest := some nonce } } : State).startResult Obj.ATTEST_REPORT who).answer .ok) ∧
  (∀ (s : State) (nonce : Bytes), s.sec.attest = some nonce → 
    Completes (.attestReportDone) s fun t => t = (({ s with sec := { s.sec with attest := none } } : State).wrBlob Obj.ATTEST_REPORT (s.reportBody nonce ++ Config.ecdsaSign Config.attestKey (Config.sha384 (s.reportBody nonce)))).completeResult Obj.ATTEST_REPORT 0) ∧
  (∀ (s : State) (who : Requester), s.served who = true → s.checkAccess who Obj.DEBUG_CHALLENGE false = none → 
    Completes (.debugChallenge who) s fun t => t = ({ (s.drawBytes 32).2 with sec := { (s.drawBytes 32).2.sec with nonce := some (s.drawBytes 32).1 } } : State).answer .ok (s.drawBytes 32).1) ∧
  (∀ (s : State) (who : Requester) (data : Bytes), s.served who = true → s.checkAccess who Obj.DEBUG_RESPONSE true = none → data.length = 97 → s.isHwReady 2 = true → 
    Completes (.debugResponse who data) s fun t => t = (if s.debugOutcome data = 0 then ((((({ s with sec := { s.sec with fails := (if 3 ≤ (if s.debugOutcome data = 0 then 0 else if s.debugOutcome data = 4 then s.sec.fails else s.sec.fails + 1) then 0 else (if s.debugOutcome data = 0 then 0 else if s.debugOutcome data = 4 then s.sec.fails else s.sec.fails + 1)), lockedAt := (if s.debugOutcome data = 4 then s.sec.lockedAt else if 3 ≤ (if s.debugOutcome data = 0 then 0 else if s.debugOutcome data = 4 then s.sec.fails else s.sec.fails + 1) then some s.time else none) } } : State).startResult Obj.DEBUG_RESULT who).finish Obj.DEBUG_RESULT (s.debugOutcome data) 0 0 512)).answer .ok).openLevel (byteAt data 0) else (((({ s with sec := { s.sec with fails := (if 3 ≤ (if s.debugOutcome data = 0 then 0 else if s.debugOutcome data = 4 then s.sec.fails else s.sec.fails + 1) then 0 else (if s.debugOutcome data = 0 then 0 else if s.debugOutcome data = 4 then s.sec.fails else s.sec.fails + 1)), lockedAt := (if s.debugOutcome data = 4 then s.sec.lockedAt else if 3 ≤ (if s.debugOutcome data = 0 then 0 else if s.debugOutcome data = 4 then s.sec.fails else s.sec.fails + 1) then some s.time else none) } } : State).startResult Obj.DEBUG_RESULT who).finish Obj.DEBUG_RESULT (s.debugOutcome data) 0 0 512)).answer .ok)) ∧
  (∀ (s : State) (a : Nat), s.sec.lockedAt = some a → a + 60000000000 ≤ s.time → 
    Completes (.debugLockoutEnd) s fun t => t = { s with sec := { s.sec with lockedAt := none } }) ∧
  (∀ (s : State) (ins : JtagInstr), s.rst.vaon = true → ins = .idcode → 
    Completes (.jtagInstruction ins) s fun t => t = s.emit (.jtag "IDCODE")) ∧
  (∀ (s : State) (ins : JtagInstr), s.rst.vaon = true → ins = .bypass → 
    Completes (.jtagInstruction ins) s fun t => t = s.emit (.jtag "BYPASS")) ∧
  (∀ (s : State) (ins : JtagInstr), s.rst.vaon = true → ins = .other → 
    Completes (.jtagInstruction ins) s fun t => t = s.emit (.jtag "BYPASS")) ∧
  (∀ (s : State) (ins : JtagInstr), s.rst.vaon = true → ins = .boundary → 
    Completes (.jtagInstruction ins) s fun t => t = s.emit (.jtag (if s.sec.opened.contains 1 || s.sec.opened.contains 3 then "BOUNDARY" else "BYPASS"))) ∧
  (∀ (s : State) (ins : JtagInstr), s.rst.vaon = true → ins = .systemDebug → 
    Completes (.jtagInstruction ins) s fun t => t = s.emit (.jtag (if s.sec.opened.contains 2 || s.sec.opened.contains 3 then "SYSTEM DEBUG" else "BYPASS"))) ∧
  (∀ (s : State) (ins : JtagInstr), s.rst.vaon = true → ins = .secureDebug → 
    Completes (.jtagInstruction ins) s fun t => t = s.emit (.jtag (if s.sec.opened.contains 3 then "SECURE DEBUG" else "BYPASS")))

/-- A sample records voltage and current of the 35 domains. A period sets the thermal cap by the highest sensor and B_eff as the lower of budget and cap. The split sets bases and the reserve, and where the spare is negative every station falls to its base at once. A station above its allotment slows, and sheds at its floor. The first comparison above the limit doubles the divisor of every running station; one divisor is halved each 1 ms below it, and saturation is reported. -/
def Obligations.EnergyIsSampledAndSplit : Prop :=
  (∀ (s : State) (x : EnergySample), s.isHwReady 12 = true → 
    Completes (.energySample x) s fun t => t.energy.samples = s.energy.samples + 1 ∧ (∀ d : Fin 35, t.rd Obj.VOLTAGE_MV 0 d = ((x.domains.getD d (0, 0)).1 : Nat) ∧ t.rd Obj.CURRENT_MA 0 d = ((x.domains.getD d (0, 0)).2 : Nat))) ∧
  (∀ (s : State) (sensors : List Int) (t0 : Int) (l : List Int), s.isHwReady 12 = true → sensors = t0 :: l → s.rdAs Obj.TJ_SOFT_C ≤ (l.foldl max t0) → 
    Completes (.budgetPeriod sensors) s fun t => t.energy.cap = 95 * min s.energy.cap (t.rdN Obj.INPUT_POWER_MW) / 100 ∧ t.rd Obj.EFFECTIVE_BUDGET_MW = (min (s.rdN Obj.DEVICE_BUDGET_MW) t.energy.cap : Nat) ∧ t.rd Obj.TJ_C = (l.foldl max t0) ∧ t.energy.sums = [] ∧ t.energy.samples = 0) ∧
  (∀ (s : State) (sensors : List Int) (t0 : Int) (l : List Int), s.isHwReady 12 = true → sensors = t0 :: l → (l.foldl max t0) ≤ s.rdAs Obj.TJ_SOFT_C - 3 → 
    Completes (.budgetPeriod sensors) s fun t => t.energy.cap = min 110000 (s.energy.cap + s.rdN Obj.DEVICE_BUDGET_MW / 100) ∧ t.rd Obj.EFFECTIVE_BUDGET_MW = (min (s.rdN Obj.DEVICE_BUDGET_MW) t.energy.cap : Nat) ∧ t.rd Obj.TJ_C = (l.foldl max t0) ∧ t.energy.sums = [] ∧ t.energy.samples = 0) ∧
  (∀ (s : State) (sensors : List Int) (t0 : Int) (l : List Int), s.isHwReady 12 = true → sensors = t0 :: l → (l.foldl max t0) < s.rdAs Obj.TJ_SOFT_C ∧ s.rdAs Obj.TJ_SOFT_C - 3 < (l.foldl max t0) → 
    Completes (.budgetPeriod sensors) s fun t => t.energy.cap = s.energy.cap ∧ t.rd Obj.EFFECTIVE_BUDGET_MW = (min (s.rdN Obj.DEVICE_BUDGET_MW) t.energy.cap : Nat) ∧ t.rd Obj.TJ_C = (l.foldl max t0) ∧ t.energy.sums = [] ∧ t.energy.samples = 0) ∧
  (∀ (s : State), s.isHwReady 3 = true → s.hwGated 0 = false → 
    Completes (.energySplit) s fun t => (∀ n : Fin 8, t.rd Obj.STATION_BASE_MW 0 n = (s.stationBase n : Nat)) ∧ t.rd Obj.HEADWORKS_RESERVE_MW = ((s.withMargin s.energy.headMeans) : Nat) ∧ t.rdB Obj.BUDGET_SHORT = decide (((s.rdN Obj.EFFECTIVE_BUDGET_MW : Int) - s.rdN Obj.LOSS_MW - (s.withMargin s.energy.headMeans) - (((List.range 8).map fun n => s.stationBase n).sum : Nat)) < 0)) ∧
  (∀ (s : State), s.isHwReady 3 = true → s.hwGated 0 = false → ((s.rdN Obj.EFFECTIVE_BUDGET_MW : Int) - s.rdN Obj.LOSS_MW - (s.withMargin s.energy.headMeans) - (((List.range 8).map fun n => s.stationBase n).sum : Nat)) < 0 → 
    Completes (.energySplit) s fun t => ∀ n : Fin 8, t.rd Obj.STATION_ALLOTMENT_MW 0 n = (s.stationBase n : Nat)) ∧
  (∀ (s : State) (n : Fin 8) (c : StationEnergy) (p al : Rat), s.stationState n = stRunning → s.sten n = c → p = ((c.recent.sum : Nat) : Rat) / (1000 * max 1 c.recent.length : Nat) * s.rdN Obj.WEIR_DIVISOR 0 n → al = ((s.rdN Obj.STATION_ALLOTMENT_MW 0 n - s.rdN Obj.STATION_BASE_MW 0 n : Nat) : Rat) → p ≤ al → (s.rdN Obj.SHADER_POINT 0 n) ≤ s.rdN Obj.POINT_CEILING 0 n → s.rdB Obj.SHEDDING 0 n = false → 
    Completes (.stationTick n) s fun t => t = ((s.setSten n { c with sinceSlow := c.sinceSlow + 1, fits := 0, overLimit := 0, under := (if p ≤ 8 * al / 10 then c.under + 1 else 0) }).presentDeferred n).settle n) ∧
  (∀ (s : State) (n : Fin 8) (c : StationEnergy) (p al : Rat), s.stationState n = stRunning → s.sten n = c → p = ((c.recent.sum : Nat) : Rat) / (1000 * max 1 c.recent.length : Nat) * s.rdN Obj.WEIR_DIVISOR 0 n → al = ((s.rdN Obj.STATION_ALLOTMENT_MW 0 n - s.rdN Obj.STATION_BASE_MW 0 n : Nat) : Rat) → al < p → (s.rdN Obj.SHADER_POINT 0 n) < (s.rdN Obj.SLOW_FLOOR 0 n) → 
    Completes (.stationTick n) s fun t => t = ((((s.setSten n { c with sinceSlow := 0, fits := 0, overLimit := 0, under := 0 }).count Obj.SLOWS 0 n).movePoint n (match [(s.rdN Obj.SHADER_POINT 0 n) + 1, (s.rdN Obj.SHADER_POINT 0 n) + 2].find? (fun q => decide (q ≤ (s.rdN Obj.SLOW_FLOOR 0 n)) && decide (p * ((pointDraw q : Rat) / pointDraw (s.rdN Obj.SHADER_POINT 0 n)) ≤ al)) with | some q => q | none => min ((s.rdN Obj.SHADER_POINT 0 n) + 2) (s.rdN Obj.SLOW_FLOOR 0 n))).presentDeferred n).settle n) ∧
  (∀ (s : State) (n : Fin 8) (c : StationEnergy) (p al : Rat), s.stationState n = stRunning → s.sten n = c → p = ((c.recent.sum : Nat) : Rat) / (1000 * max 1 c.recent.length : Nat) * s.rdN Obj.WEIR_DIVISOR 0 n → al = ((s.rdN Obj.STATION_ALLOTMENT_MW 0 n - s.rdN Obj.STATION_BASE_MW 0 n : Nat) : Rat) → al < p → (s.rdN Obj.SHADER_POINT 0 n) = (s.rdN Obj.SLOW_FLOOR 0 n) → (s.rdN Obj.SHADER_POINT 0 n) ≤ s.rdN Obj.POINT_CEILING 0 n → 1 ≤ c.overLimit → s.rdB Obj.SHEDDING 0 n = false → 
    Completes (.stationTick n) s fun t => t = (((s.setSten n { c with sinceSlow := c.sinceSlow + 1, fits := 0, overLimit := c.overLimit + 1, under := (if p ≤ 8 * al / 10 then c.under + 1 else 0) }).shed n).presentDeferred n).settle n) ∧
  (∀ (s : State) (n : Fin 8) (p since : Nat), (s.sten n).raising = some (p, since) → since + 100 * (pointVoltage p - pointVoltage (s.rdN Obj.SHADER_POINT 0 n)) ≤ s.time → 
    Completes (.shaderPointSettled n) s fun t => t = ((s.setSten n { s.sten n with raising := none }).wr Obj.SHADER_POINT (p : Nat) 0 n).setClock n) ∧
  (∀ (s : State) (input : Nat), s.isHwReady 13 = true → s.weirLimit < input → s.energy.overLimit = false → 
    Completes (.weirCompare input) s fun t => t.energy.overLimit = true ∧ (∀ n ∈ s.runningStations, t.divisor n = min 8 (2 * s.divisor n)) ∧ t.rd Obj.WEIR_STATE = (if s.rdN Obj.WEIR_STATE = 3 then s.rd Obj.WEIR_STATE else 1)) ∧
  (∀ (s : State) (input : Nat), s.isHwReady 13 = true → input ≤ s.weirLimit → 
    Completes (.weirCompare input) s fun t => t = { s with energy := { s.energy with overLimit := false, underSince := some (s.energy.underSince.getD s.time), allEight := none } }) ∧
  (∀ (s : State) (x : WeirReading), s.rdN Obj.WEIR_STATE = 1 → 
    Completes (.weirClampRank x) s fun t => t.rd Obj.WEIR_STATE = (if t.energy.clamps.isEmpty then 0 else 2)) ∧
  (∀ (s : State) (x : WeirReading) (since n : Nat) (l : List Nat), s.energy.underSince = some since → s.energy.clamps = n :: l → since + 1000000 ≤ s.time → s.energy.checkedAt + 1000000 ≤ s.time → x.input ≤ s.weirLimit → x.predict (x.draws.getD n 0) ≤ s.weirLimit → 
    Completes (.weirReleaseCheck x) s fun t => t = (if (({ s with energy := { s.energy with checkedAt := s.time } } : State).setDivisor n (s.divisor n / 2)).energy.clamps.isEmpty then (({ s with energy := { s.energy with checkedAt := s.time } } : State).setDivisor n (s.divisor n / 2)).weirIdle else (({ s with energy := { s.energy with checkedAt := s.time } } : State).setDivisor n (s.divisor n / 2)).wr Obj.WEIR_STATE 2)) ∧
  (∀ (s : State) (x : WeirReading) (since n : Nat) (l : List Nat), s.energy.underSince = some since → s.energy.clamps = n :: l → since + 1000000 ≤ s.time → s.energy.checkedAt + 1000000 ≤ s.time → x.input ≤ s.weirLimit → (s.weirLimit : Rat) < x.predict (x.draws.getD n 0) → 
    Completes (.weirReleaseCheck x) s fun t => t = ({ s with energy := { s.energy with checkedAt := s.time } } : State)) ∧
  (∀ (s : State) (since : Nat), s.energy.allEight = some since → since + 100000 ≤ s.time → s.rdN Obj.WEIR_STATE ≠ 3 → 
    Completes (.weirSaturated) s fun t => t = ((s.wr Obj.WEIR_STATE 3).count Obj.WEIR_SATURATIONS).alarm 4 1 noStation 0) ∧
  (∀ (s : State) (who : Requester) (v : Nat), s.accepts who Obj.DEVICE_BUDGET_MW v → 
    Completes (.deviceBudgetMw who v) s fun t => t = (s.wr Obj.DEVICE_BUDGET_MW v).answer .ok)

/-- A damaged frame at a port that is up is counted in RX_ERRORS and goes nowhere. A sound frame is counted in RX_FRAMES and its source learnt; one for a learnt address on the other port leaves there while its gate is open, one for its own port is dropped, and one that is flooded goes to the other port and, where R499 admits it, to the internal port. An 802.1AS frame goes to the internal port alone. An entry unused for 300 s is removed; frames whose gates open leave, the highest class first; a link that goes down takes its addresses and frames along; a lost PLL takes both links down. -/
def Obligations.SwitchAndLinksAct : Prop :=
  (∀ (s : State) (port : Fin 2) (frame : Bytes) (bad : Bool) (leased : Nat), s.isHwReady 8 = true → s.hwGated 2 = false → s.rdN Obj.ETH_LINK 0 port ≠ 0 → bad = true ∨ 1522 < frame.length ∨ frame.length < 18 → 
    Completes (.switchFrame port frame bad leased) s fun t => t.rd Obj.RX_ERRORS 0 port = (satInc Obj.RX_ERRORS.width (s.rdN Obj.RX_ERRORS 0 port) 1 : Nat) ∧ t.out = s.out ∧ t.net = s.net) ∧
  (∀ (s : State) (port : Fin 2) (frame : Bytes) (bad : Bool) (leased : Nat) (m : MacEntry), s.isHwReady 8 = true → s.hwGated 2 = false → s.rdN Obj.ETH_LINK 0 port ≠ 0 → bad = false → 18 ≤ frame.length → frame.length ≤ 1522 → (parseEth frame).etype ≠ 0x88F7 → isGroup (parseEth frame).dst = false → ((s.count Obj.RX_FRAMES 0 port).learn (parseEth frame).src port).net.macs.find? (fun x => x.mac = (parseEth frame).dst) = some m → m.port = 1 - port.val → s.rdN Obj.ETH_LINK 0 m.port ≠ 0 → bit (parseEth frame).pcp (s.gatesOf m.port) = true → 
    Completes (.switchFrame port frame bad leased) s fun t => t = ((((s.count Obj.RX_FRAMES 0 port).learn (parseEth frame).src port)).emit (.ethFrame m.port frame)).count Obj.TX_FRAMES 0 m.port) ∧
  (∀ (s : State) (port : Fin 2) (frame : Bytes) (bad : Bool) (leased : Nat) (m : MacEntry), s.isHwReady 8 = true → s.hwGated 2 = false → s.rdN Obj.ETH_LINK 0 port ≠ 0 → bad = false → 18 ≤ frame.length → frame.length ≤ 1522 → (parseEth frame).etype ≠ 0x88F7 → isGroup (parseEth frame).dst = false → ((s.count Obj.RX_FRAMES 0 port).learn (parseEth frame).src port).net.macs.find? (fun x => x.mac = (parseEth frame).dst) = some m → m.port = port.val → 
    Completes (.switchFrame port frame bad leased) s fun t => t = ((s.count Obj.RX_FRAMES 0 port).learn (parseEth frame).src port)) ∧
  (∀ (s : State) (port : Fin 2) (frame : Bytes) (bad : Bool) (leased : Nat), s.isHwReady 8 = true → s.hwGated 2 = false → s.rdN Obj.ETH_LINK 0 port ≠ 0 → bad = false → 18 ≤ frame.length → frame.length ≤ 1522 → (parseEth frame).etype ≠ 0x88F7 → isGroup (parseEth frame).dst = true ∨ ((s.count Obj.RX_FRAMES 0 port).learn (parseEth frame).src port).net.macs.find? (fun x => x.mac = (parseEth frame).dst) = none → 
    Completes (.switchFrame port frame bad leased) s fun t => t = (if s.admitted leased (parseEth frame) then (((s.count Obj.RX_FRAMES 0 port).learn (parseEth frame).src port).toEgress port (1 - port.val) (parseEth frame).pcp frame).toEgress port internalPort (parseEth frame).pcp frame else ((s.count Obj.RX_FRAMES 0 port).learn (parseEth frame).src port).toEgress port (1 - port.val) (parseEth frame).pcp frame)) ∧
  (∀ (s : State) (port : Fin 2) (frame : Bytes) (bad : Bool) (leased : Nat), s.isHwReady 8 = true → s.hwGated 2 = false → s.rdN Obj.ETH_LINK 0 port ≠ 0 → bad = false → 18 ≤ frame.length → frame.length ≤ 1522 → (parseEth frame).etype = 0x88F7 → 
    Completes (.switchFrame port frame bad leased) s fun t => t = ((s.count Obj.RX_FRAMES 0 port).learn (parseEth frame).src port).toEgress port internalPort (parseEth frame).pcp frame) ∧
  (∀ (s : State) (mac : Nat), 
    Completes (.macEntryAged mac) s fun t => t = s.setNet { s.net with macs := s.net.macs.filter fun m => m.mac ≠ mac || s.time < m.seenAt + 300000000000 }) ∧
  (∀ (s : State) (port : Fin 3) (gates : Nat), s.isHwReady 8 = true → (s.blob Obj.QBV_LIST).isEmpty = false → 
    Completes (.qbvGateEvent port gates) s fun t => t = (s.setNet { s.net with gates := s.net.gates.put port (gates % 256), egress := s.net.egress.filter fun e => !(fun e : EgressFrame => decide (e.port = port.val) && bit e.cls gates) e }).each ([7, 6, 5, 4, 3, 2, 1, 0].flatMap fun c => s.net.egress.filter fun e => (fun e : EgressFrame => decide (e.port = port.val) && bit e.cls gates) e && e.cls = c) fun u e => u.egress port e) ∧
  (∀ (s : State) (port : Fin 2) (speed : Fin 4), speed.val = 0 → 
    Completes (.ethLinkChange port speed) s fun t => t.rd Obj.ETH_LINK 0 port = 0 ∧ (∀ m ∈ t.net.macs, m.port ≠ port.val) ∧ (∀ e ∈ t.net.egress, e.port ≠ port.val)) ∧
  (∀ (s : State) (port : Fin 2) (speed : Fin 4), s.isHwReady 8 = true → 1 ≤ speed.val → s.rdN Obj.ETH_MODE 0 port = 1 ∨ (s.rdN Obj.ETH_MODE 0 port = 2 ∧ speed.val = 2) → 
    Completes (.ethLinkChange port speed) s fun t => t = s.wr Obj.ETH_LINK (speed.val : Nat) 0 port) ∧
  (∀ (s : State), bit 3 (s.rdN Obj.HW_PLL_LOCKED) = true → 
    Completes (.ethernetPllLockLost) s fun t => t.rd Obj.ETH_LINK 0 0 = 0 ∧ t.rd Obj.ETH_LINK 0 1 = 0 ∧ t.rd Obj.HW_PLL_LOCK_LOSSES = (satInc Obj.HW_PLL_LOCK_LOSSES.width (s.rdN Obj.HW_PLL_LOCK_LOSSES) 1 : Nat))

/-- A Sync sets the offset and moves the rate correction by at most 0.1 ppm a second of device time since the last one, makes the device a slave and ends alarm 22; a device that may be master becomes master. Without a Sync a slave enters holdover with alarm 22. ARP and echo requests for the device's address are answered to their sender. -/
def Obligations.NetworkTimeAndEchoAct : Prop :=
  (∀ (s : State) (offset ppb : Int), s.isHwReady 8 = true → 
    Completes (.ptpMessage (.sync offset ppb)) s fun t => t = ((((s.wr Obj.NETWORK_OFFSET_NS offset).wr Obj.RATE_CORRECTION_PPB (slewRate (s.rd Obj.RATE_CORRECTION_PPB) ppb (s.time - s.net.lastSync))).wr Obj.PTP_STATE 2).setNet { s.net with lastSync := s.time }).clearAlarm 22 noStation 0) ∧
  (∀ (s : State), s.isHwReady 8 = true → s.rdAs Obj.PTP_PRIORITY1 ≠ 255 → 
    Completes (.ptpMessage .master) s fun t => t = (s.wr Obj.PTP_STATE 1).clearAlarm 22 noStation 0) ∧
  (∀ (s : State), s.rdN Obj.PTP_STATE = 2 → 
    Completes (.ptpSyncTimeout) s fun t => t = (s.wr Obj.PTP_STATE 3).alarm 22 1 noStation 0) ∧
  (∀ (s : State) (port : Fin 2) (sender target leased : Nat), s.isHwReady 3 = true → target ≠ 0 → target = s.deviceIp leased → 
    Completes (.arpRequest port sender target leased) s fun t => t.out = Emission.hierarchy "ARP_REPLY" port (toBE 6 sender ++ toBE 4 target) :: s.out ∧ t.regs = s.regs) ∧
  (∀ (s : State) (port : Fin 2) (sender target leased : Nat) (data : Bytes), s.isHwReady 3 = true → target ≠ 0 → target = s.deviceIp leased → 
    Completes (.icmpEcho port sender target leased data) s fun t => t.out = Emission.hierarchy "ECHO_REPLY" port (toBE 4 sender ++ data) :: s.out ∧ t.regs = s.regs)

/-- A read of GRANT_CHALLENGE answers 32 fresh bytes and holds them for the peer. A request of a peer is answered OK and its outcome stands in GRANT_RESULT: a session with number, level and the agreed key where the outcome is 0. The number of its own session written by the peer ends it, as does the time of GRANT_IDLE_S without a frame; a record without a session is freed after 60 s. -/
def Obligations.SessionsOpenAndEnd : Prop :=
  (∀ (s : State) (who : Requester) (k : Nat) (p : Peer), who = .peer k → s.served who = true → s.checkAccess who Obj.GRANT_CHALLENGE false = none → s.peerRec k = some p → 
    Completes (.grantChallenge who) s fun t => t = ((s.drawBytes 32).2.setPeer k { p with challenge := some ((s.drawBytes 32).1, s.time) }).answer .ok (s.drawBytes 32).1) ∧
  (∀ (s : State) (who : Requester) (data pub : Bytes) (k : Nat) (p : Peer), who = .peer k → s.served who = true → s.checkAccess who Obj.GRANT_REQUEST true = none → data.length = 194 ∨ data.length = 435 → s.isHwReady 9 = true → (s.startResult Obj.GRANT_RESULT who).peerRec k = some p → 
    Completes (.grantRequest who data pub) s fun t => t = (if (s.startResult Obj.GRANT_RESULT who).grantOutcome p pub (parseGrant data) = 0 then (s.startResult Obj.GRANT_RESULT who).openSession k p (parseGrant data) else (s.startResult Obj.GRANT_RESULT who).completeResult Obj.GRANT_RESULT ((s.startResult Obj.GRANT_RESULT who).grantOutcome p pub (parseGrant data))).answer .ok) ∧
  (∀ (s : State) (who : Requester) (v k : Nat) (x : Session), who = .peer k → s.accepts who Obj.GRANT_END v → (s.peerRec k).bind Peer.session = some x → x.number = v → 
    Completes (.grantEnd who v) s fun t => t = (s.endSession k).answer .ok) ∧
  (∀ (s : State) (k : Fin 32) (x : Session), s.hwGated 0 = false → (s.peerRec k).bind Peer.session = some x → x.lastAt + s.rdN Obj.GRANT_IDLE_S * 1000000000 ≤ s.time → 
    Completes (.sessionIdle k) s fun t => (t.peerRec k).bind Peer.session = none ∧ t.peerLevel.find k.val = none) ∧
  (∀ (s : State) (k : Fin 32) (p : Peer), s.hwGated 0 = false → s.peerRec k = some p → p.session = none → p.lastAt + 60000000000 ≤ s.time → 
    Completes (.peerRecordIdle k) s fun t => t.peerRec k = none ∧ t.peerLevel.find k.val = none)

/-- An accepted DEVICE_PATH makes the device a member of the manager whose serial number came with it, or frees it; another known manager is REFUSED 8. An accepted MEMBER_SERIAL starts an adoption or frees the address. An unadopted worker announces itself on its four ports. Heartbeats go to every bound member that is not in conflict; an answer makes the member ACTIVE, one of another serial CONFLICT with alarm 24; three unanswered LOST with alarm 20; a member whose manager is silent raises alarm 21. -/
def Obligations.HierarchyAdoptsAndWatches : Prop :=
  (∀ (s : State) (who : Requester) (v serial : Nat), s.accepts who Obj.DEVICE_PATH v → v ≠ unadopted → v ≠ 0 → pathOk v = true → depthOf v ≠ 3 → s.rdN Obj.MANAGER_SERIAL = serial ∨ ((s.rdN Obj.ADOPT_POLICY ≠ 0 ∨ s.rdN Obj.MANAGER_SERIAL = 0) ∧ ¬ (s.isMember = true ∧ s.net.beatAt = some s.time)) → s.rdN Obj.ROLE ≠ 1 → v < 2 ^ 32 → 
    Completes (.devicePath who v serial) s fun t => t = (((s.wr Obj.DEVICE_PATH v).wr Obj.MANAGER_SERIAL serial).setNet { s.net with beatAt := some s.time }).answer .ok) ∧
  (∀ (s : State) (who : Requester) (v serial : Nat), s.accepts who Obj.DEVICE_PATH v → v = unadopted → s.rdN Obj.ROLE ≠ 1 → 
    Completes (.devicePath who v serial) s fun t => t = (((s.wr Obj.DEVICE_PATH v).setNet { s.net with beatAt := none }).clearAlarm 21 noStation 0).answer .ok) ∧
  (∀ (s : State) (who : Requester) (v serial : Nat), s.accepts who Obj.DEVICE_PATH v → v ≠ unadopted → v ≠ 0 → pathOk v = true → s.rdN Obj.ADOPT_POLICY = 0 → s.rdN Obj.MANAGER_SERIAL ≠ 0 → s.rdN Obj.MANAGER_SERIAL ≠ serial → 
    Completes (.devicePath who v serial) s fun t => t = s.answer (.refused 8)) ∧
  (∀ (s : State) (who : Requester) (a1 : Fin 64) (v : Nat), s.accepts who Obj.MEMBER_SERIAL v 0 a1 → v ≠ 0 → 
    Completes (.memberSerial who a1 v) s fun t => t = (let u := (((s.clearMember 24 mbConflict a1).clearMember 20 mbLost a1).wr Obj.MEMBER_SERIAL v 0 a1).wr Obj.MEMBER_STATE 1 0 a1; ((u.setNet { u.net with unanswered := u.net.unanswered.del a1.val }).emit (.hierarchy "ADOPT" a1 (toBE 8 v ++ toBE 4 (childPath u.ownPath a1)))).answer .ok)) ∧
  (∀ (s : State) (who : Requester) (a1 : Fin 64) (v : Nat), s.accepts who Obj.MEMBER_SERIAL v 0 a1 → v = 0 → 
    Completes (.memberSerial who a1 v) s fun t => t = (let u := (((s.clearMember 24 mbConflict a1).clearMember 20 mbLost a1).wr Obj.MEMBER_SERIAL v 0 a1).wr Obj.MEMBER_STATE 0 0 a1; ((u.setNet { u.net with unanswered := u.net.unanswered.del a1.val }).wr Obj.MEMBER_LINK 0 0 a1).answer .ok)) ∧
  (∀ (s : State), s.hwGated 0 = false → s.passed .announce 1000000000 = true → s.rdN Obj.ROLE = 2 → s.rdN Obj.DEVICE_PATH = unadopted → s.isHwReady 9 = true → 
    Completes (.announce) s fun t => t.out = ([3, 2, 1, 0].map fun p => Emission.hierarchy "ANNOUNCE" p (toBE 8 (s.rdN Obj.SERIAL_NUMBER) ++ s.blob Obj.DEVICE_IDENTITY)) ++ s.out ∧ t.regs = s.regs) ∧
  (∀ (s : State), s.rdN Obj.ROLE = 1 → s.isHwReady 9 = true → s.hwGated 0 = false → s.passed .heartbeat (s.rdN Obj.HEARTBEAT_MS * 1000000) = true → 
    Completes (.heartbeatTimer) s fun t => t.timers.find .heartbeat = some s.time ∧ t.regs = s.regs ∧ (∀ m ∈ memberAddrs, t.net.unanswered.getD m 0 = if s.memberState m = mbFree ∨ s.memberState m = mbConflict then s.net.unanswered.getD m 0 else min 3 (s.net.unanswered.getD m 0 + 1)) ∧ t.out = ((memberAddrs.filter fun m => s.memberState m ≠ mbFree && s.memberState m ≠ mbConflict).map fun m => Emission.hierarchy "HEARTBEAT" m (toBE 8 (s.rdN Obj.SERIAL_NUMBER))).reverse ++ s.out) ∧
  (∀ (s : State) (serial : Nat), s.hwGated 0 = false → s.isMember = true → s.isHwReady 9 = true → serial = s.rdN Obj.MANAGER_SERIAL → s.alarmRaised 21 noStation = false → 
    Completes (.heartbeat serial) s fun t => t = (s.setNet { s.net with beatAt := some s.time }).emit (.hierarchy "HEARTBEAT_ANSWER" 0 (toBE 8 (s.rdN Obj.SERIAL_NUMBER)))) ∧
  (∀ (s : State) (serial : Nat), s.hwGated 0 = false → s.isMember = true → s.isHwReady 9 = true → serial = s.rdN Obj.MANAGER_SERIAL → s.alarmRaised 21 noStation = true → 
    Completes (.heartbeat serial) s fun t => t = (((s.setNet { s.net with beatAt := some s.time }).emit (.hierarchy "HEARTBEAT_ANSWER" 0 (toBE 8 (s.rdN Obj.SERIAL_NUMBER)))).each s.alarmQ.items fun u e => u.emit (.alarm e.2 [])).clearAlarm 21 noStation 0) ∧
  (∀ (s : State) (a1 : Fin 64) (serial link : Nat), s.rdN Obj.ROLE = 1 → s.isHwReady 9 = true → s.hwGated 0 = false → s.memberState a1 ≠ mbFree → s.memberState a1 ≠ mbConflict → serial ≠ s.rdN Obj.MEMBER_SERIAL 0 a1 → 
    Completes (.heartbeatAnswer a1 serial link) s fun t => t = (s.wr Obj.MEMBER_STATE 4 0 a1).alarm 24 1 noStation a1) ∧
  (∀ (s : State) (a1 : Fin 64) (serial link : Nat), s.rdN Obj.ROLE = 1 → s.isHwReady 9 = true → s.hwGated 0 = false → s.memberState a1 ≠ mbFree → s.memberState a1 ≠ mbConflict → serial = s.rdN Obj.MEMBER_SERIAL 0 a1 → s.memberState a1 = mbActive ∨ s.cached = none → 
    Completes (.heartbeatAnswer a1 serial link) s fun t => t = (let u := s.clearMember 20 mbLost a1; ((u.setNet { u.net with unanswered := u.net.unanswered.put a1.val 0 }).wr Obj.MEMBER_LINK (link % 2 ^ 64 : Nat) 0 a1).wr Obj.MEMBER_STATE 2 0 a1)) ∧
  (∀ (s : State) (a1 : Fin 64), s.rdN Obj.ROLE = 1 → s.isHwReady 9 = true → s.hwGated 0 = false → s.memberState a1 = mbActive ∨ s.memberState a1 = mbAdopting → 3 ≤ s.net.unanswered.getD a1.val 0 → ((s.wr Obj.MEMBER_STATE 3 0 a1).alarm 20 1 noStation a1).rdN Obj.CACHE_MEMBER_STATE 0 a1 ≠ 1 → 
    Completes (.memberLost a1) s fun t => t = (s.wr Obj.MEMBER_STATE 3 0 a1).alarm 20 1 noStation a1) ∧
  (∀ (s : State) (k : Nat), s.hwGated 0 = false → s.net.beatAt = some k → s.isMember = true → s.isHwReady 9 = true → k + 3 * s.rdN Obj.HEARTBEAT_MS * 1000000 ≤ s.time → s.alarmRaised 21 noStation = false → 
    Completes (.managerLost) s fun t => t = s.alarm 21 1 noStation 0)

/-- A member's alarm enters the manager's own queue with its path and is acknowledged with its SEQ. At the end of a merge window a merged record enters the queue. ALARM_ACK removes the entry of that SEQ and is answered OK; a SEQ that names none changes nothing. The pending records enter the queue in the order they were raised, with the device's path, and those lost are counted. -/
def Obligations.AlarmsAreMergedAndAcknowledged : Prop :=
  (∀ (s : State) (member : Fin 64) (x : Alarm), s.rdN Obj.ROLE = 1 → s.isHwReady 9 = true → s.hwGated 0 = false → s.hwQueuesReady = true → 
    Completes (.memberAlarmReceived member x) s fun t => t = (((s.noteInForce x).mergeAlarm x).alarmSummary).emit (.hierarchy "ALARM_ACK" member (toBE 2 x.seq))) ∧
  (∀ (s : State) (path code station st : Nat) (w : MergeWindow) (m : Alarm), s.hwGated 0 = false → s.alarms.windows.find? (fun w => w.path = path && w.code = code && w.station = station && w.st = st && w.since + s.rdN Obj.ALARM_MERGE_MS * 1000000 ≤ s.time) = some w → w.merged = some m → 
    Completes (.alarmMergeEnd path code station st) s fun t => t = ({ s with alarms := { s.alarms with windows := s.alarms.windows.filter fun w => !(w.path = path && w.code = code && w.station = station && w.st = st && w.since + s.rdN Obj.ALARM_MERGE_MS * 1000000 ≤ s.time) } } : State).enterAlarm m) ∧
  (∀ (s : State) (who : Requester) (seq : Nat), s.accepts who Obj.ALARM_ACK seq → s.alarmQ.items.any (fun e => e.2.seq = seq) = true → 
    Completes (.alarmAck who seq) s fun t => (∀ e ∈ t.alarmQ.items, e.2.seq ≠ seq) ∧ t.rd Obj.ALARM_ITEMS = (t.alarmQ.size : Nat) ∧ t.out.head? = some (Emission.answer 0 0 0 [])) ∧
  (∀ (s : State) (who : Requester) (seq : Nat), s.accepts who Obj.ALARM_ACK seq → s.alarmQ.items.all (fun e => e.2.seq ≠ seq) = true → 
    Completes (.alarmAck who seq) s fun t => t = s.answer .ok) ∧
  (∀ (s : State), s.hwGated 0 = false → s.hwQueuesReady = true → s.alarms.lostHeld = 0 → 
    Completes (.alarmPendingDrain) s fun t => t = (({ s with alarms := { s.alarms with held := [], lostHeld := 0 } } : State).each s.pendingAlarms fun u x => u.mergeAlarm (if x.path = unadopted then { x with path := s.alarmPath } else x)).alarmSummary)

/-- A request for a device below goes to the member on its way with RELAYED set and HOPS_LEFT lowered, and is remembered; without hops it is answered 4, for a free or conflicting member 1, for a lost one 2, and 5 where 256 are outstanding. A response for a device below is settled and sent on. A frame for this device, or a damaged one, is not the relay's. -/
def Obligations.FramesAreRelayed : Prop :=
  (∀ (s : State) (origin : RelayFrom) (b1 : Bytes) (h : Header) (a1 : Nat), s.rdN Obj.ROLE = 1 → s.isHwReady 9 = true → frameOk b1 = true → h = parseHeader b1 → h.response = false → bit 31 h.dest = false → h.dest ≠ s.ownPath → pathOk h.dest = true → nextHop s.ownPath h.dest = some a1 → h.hops = 0 → 
    Completes (.relayFrame origin (.wide b1)) s fun t => t = s.relayAnswer origin h 4) ∧
  (∀ (s : State) (origin : RelayFrom) (b1 : Bytes) (h : Header) (a1 : Nat), s.rdN Obj.ROLE = 1 → s.isHwReady 9 = true → frameOk b1 = true → h = parseHeader b1 → h.response = false → bit 31 h.dest = false → h.dest ≠ s.ownPath → pathOk h.dest = true → nextHop s.ownPath h.dest = some a1 → h.hops ≠ 0 → s.memberState a1 = mbLost ∨ s.memberState a1 = mbFree ∨ s.memberState a1 = mbConflict → 
    Completes (.relayFrame origin (.wide b1)) s fun t => t = s.relayAnswer origin h (if s.memberState a1 = mbLost then 2 else 1)) ∧
  (∀ (s : State) (origin : RelayFrom) (b1 : Bytes) (h : Header) (a1 : Nat), s.rdN Obj.ROLE = 1 → s.isHwReady 9 = true → frameOk b1 = true → h = parseHeader b1 → h.response = false → bit 31 h.dest = false → h.dest ≠ s.ownPath → pathOk h.dest = true → nextHop s.ownPath h.dest = some a1 → h.hops ≠ 0 → s.memberState a1 = mbActive ∨ s.memberState a1 = mbAdopting → s.memberPort a1 < 2 → s.net.relayed.length < 256 → origin = .manager → 
    Completes (.relayFrame origin (.wide b1)) s fun t => t.out = Emission.relayed a1 (relayedFrame h h.src b1) :: s.out ∧ t.net.relayed = s.net.relayed ++ [⟨.manager, a1, h.encode, false⟩] ∧ t.regs = s.regs) ∧
  (∀ (s : State) (origin : RelayFrom) (b1 : Bytes) (h : Header), s.rdN Obj.ROLE = 1 → s.isHwReady 9 = true → frameOk b1 = true → h = parseHeader b1 → h.response = true → h.hops ≠ 0 → bits 17 0 h.src ≠ s.ownPath → 
    Completes (.relayFrame origin (.wide b1)) s fun t => t = (match nextHop s.ownPath (bits 17 0 h.src) with | some k => (s.settleRelayed h).emit (.relayed k (relayedFrame h h.src b1)) | none => if s.isMember then (s.settleRelayed h).emit (.relayed 64 (relayedFrame h h.src b1)) else s.settleRelayed h)) ∧
  (∀ (s : State) (origin : RelayFrom) (b1 : Bytes) (h : Header), frameOk b1 = true → h = parseHeader b1 → h.response = false → h.dest = s.ownPath → 
    Completes (.relayFrame origin (.wide b1)) s fun t => t = s)

/-- An accepted CACHE_TARGETS makes every member of the mask idle with no progress, skips those bound over CAN, and serves as many as it may, each with the manifest. A member that reports a bitmap is sent at most eight of its missing pieces that the cache holds, and its progress is written; one that misses none is done. -/
def Obligations.CacheServesMembers : Prop :=
  (∀ (s : State) (who : Requester) (v : Nat), s.accepts who Obj.CACHE_TARGETS v → 
    Completes (.cacheTargets who v) s fun t => t = (((s.wr Obj.CACHE_TARGETS v).each memberAddrs fun u k => (u.wr Obj.CACHE_MEMBER_STATE ((if !bit k v then 0 else if 2 ≤ u.memberPort k && u.memberState k ≠ mbFree then 2 else 0 : Nat)) 0 k).wr Obj.CACHE_PROGRESS 0 0 k).serveTargets).answer .ok) ∧
  (∀ (s : State) (a1 : Fin 64) (bitmap : Bytes) (p : CachePkg), s.cached = some p → s.rdN Obj.CACHE_MEMBER_STATE 0 a1 = 1 → s.memberState a1 = mbActive → s.rdN Obj.ROLE = 1 → s.isHwReady 9 = true → ((List.range p.total).filter fun k => !bit (k % 8) (byteAt bitmap (k / 8))) ≠ [] → 
    Completes (.cachePush a1 bitmap) s fun t => t.out = ((((List.range p.total).filter fun k => !bit (k % 8) (byteAt bitmap (k / 8))).filterMap fun k => p.pieces.find k).take 8).reverse.map (fun b => Emission.hierarchy "PIECE" a1 b) ++ s.out ∧ t.rd Obj.CACHE_PROGRESS 0 a1 = (p.total - ((List.range p.total).filter fun k => !bit (k % 8) (byteAt bitmap (k / 8))).length : Nat)) ∧
  (∀ (s : State) (a1 : Fin 64) (bitmap : Bytes) (p : CachePkg), s.cached = some p → s.rdN Obj.CACHE_MEMBER_STATE 0 a1 = 1 → s.memberState a1 = mbActive → s.rdN Obj.ROLE = 1 → s.isHwReady 9 = true → ((List.range p.total).filter fun k => !bit (k % 8) (byteAt bitmap (k / 8))) = [] → 
    Completes (.cachePush a1 bitmap) s fun t => t = ((s.wr Obj.CACHE_PROGRESS (p.total : Nat) 0 a1).wr Obj.CACHE_MEMBER_STATE 3 0 a1).serveTargets)

/-- A manifest of proper size is answered OK, its outcome stands in MANIFEST_RESULT, and with outcome 0 the engine takes the package. A record is counted by the cause it is discarded for, or is on its way to its position; programmed, its bit is set and with every bit set the engine verifies. A bad image has its bits cleared and the engine receives again; without one the images are copied and the engine is READY. -/
def Obligations.PackagesAreReceived : Prop :=
  (∀ (s : State) (who : Requester) (data : Bytes), s.served who = true → s.checkAccess who Obj.MANIFEST true = none → 232 ≤ data.length → data.length ≤ 648 → (data.length - 128) % 104 = 0 → s.isHwReady 11 = true → 
    Completes (.manifest who data) s fun t => t = ((if s.manifestOutcome (parseManifest data) = 0 then ((s.startResult Obj.MANIFEST_RESULT who)).takeManifest data else ((s.startResult Obj.MANIFEST_RESULT who))).finish Obj.MANIFEST_RESULT (s.manifestOutcome (parseManifest data))).answer .ok) ∧
  (∀ (s : State) (data : Bytes), s.isHwReady 11 = true → data.length = 4112 → s.pieceReject data = some 1 → 
    Completes (.pieceStream data) s fun t => t = s.count Obj.REJECT_PACKAGE) ∧
  (∀ (s : State) (data : Bytes), s.isHwReady 11 = true → data.length = 4112 → s.pieceReject data = some 2 → 
    Completes (.pieceStream data) s fun t => t = s.count Obj.REJECT_RANGE) ∧
  (∀ (s : State) (data : Bytes), s.isHwReady 11 = true → data.length = 4112 → s.pieceReject data = some 3 → 
    Completes (.pieceStream data) s fun t => t = s.count Obj.REJECT_CRC) ∧
  (∀ (s : State) (data : Bytes), s.isHwReady 11 = true → data.length = 4112 → s.pieceReject data = none → 
    Completes (.pieceStream data) s fun t => t = s.pieceArrives data) ∧
  (∀ (s : State) (who : Requester) (data : Bytes), s.served who = true → s.checkAccess who Obj.PIECE_IN true = none → data.length = 4112 → s.pieceReject data = none → 
    Completes (.pieceIn who data) s fun t => t = (s.pieceArrives data).answer .ok) ∧
  (∀ (s : State) (who : Requester) (data : Bytes), s.served who = true → s.checkAccess who Obj.PIECE_IN true = none → data.length = 4112 → s.pieceReject data ≠ none → 
    Completes (.pieceIn who data) s fun t => t = (s.pieceArrives data).answer .badRange) ∧
  (∀ (s : State) (p : PieceWrite) (l : List PieceWrite), s.upd.writing = p :: l → p.erase = false → 
    Completes (.pieceProgrammed) s fun t => t = ((((s.setUpd { s.upd with writing := l, staged := s.upd.staged.put p.seq p.data }).emit (.flash "program" (stagingBase + 4096 * p.seq))).putPieces [p.seq] true).nextErase).checkPieces) ∧
  (∀ (s : State), s.hwGated 0 = false → s.updState = upVerifying → s.upd.copying = false → 
    Completes (.imageVerifyDone) s fun t => t = if (s.manifest.entries.filter fun e => Config.sha384 (s.stagedImage e) ≠ e.digest) = [] then s.setUpd { s.upd with copying := true } else ((s.manifest.entries.filter fun e => Config.sha384 (s.stagedImage e) ≠ e.digest).foldl (fun (u : State) e => (u.count Obj.DIGEST_FAILS).putPieces ((List.range (cdiv e.size 4096)).map fun k => e.offset / 4096 + k) false) s).wr Obj.UPDATE_STATE 1) ∧
  (∀ (s : State), s.hwGated 0 = false → s.updState = upVerifying → s.upd.copying = true → 
    Completes (.imageCopyDone) s fun t => t.rd Obj.UPDATE_STATE = 3 ∧ t.upd.copying = false ∧ t.upd.slots = (s.changed s.manifest).foldl (fun m e => m.put (e.component, s.spare e.component) e.version) s.upd.slots) ∧
  (∀ (s : State) (x : Nat), s.rst.erase = some x → settingsBase ≤ x → 
    Completes (.flashEraseDone) s fun t => t = ({ s with rst := { s.rst with erase := none }, settings := { s.settings with eraseDue := none } } : State).nextErase) ∧
  (∀ (s : State) (x : Nat), s.rst.erase = some x → x < settingsBase → s.upd.erasing = true → 
    Completes (.flashEraseDone) s fun t => t = ({ s with rst := { s.rst with erase := none }, upd := { s.upd with erasing := false, staged := [] } } : State).nextErase) ∧
  (∀ (s : State) (x : Nat) (p : PieceWrite) (l : List PieceWrite), s.rst.erase = some x → x < settingsBase → s.upd.erasing = false → s.upd.writing = p :: l → x = stagingBase + 4096 * p.seq → 
    Completes (.flashEraseDone) s fun t => t = ({ s with rst := { s.rst with erase := none }, upd := { s.upd with writing := { p with erase := false } :: l, staged := s.upd.staged.del p.seq } } : State).nextErase)

/-- APPLY in READY, by command or at APPLY_AT of known network time, starts the plan; COMMIT in TRIAL, or TRIAL_S after it began, commits; REVERT in TRIAL reverts; CANCEL before APPLYING ends the update with outcome 8, drops what was staged and erases it in the background; FORCE_SEC ends the wait of a SEC step. A command its state does not allow is REFUSED 8. -/
def Obligations.UpdateCommandsAct : Prop :=
  (∀ (s : State) (who : Requester), s.accepts who Obj.UPDATE_COMMAND 1 → s.isHwReady 11 = true → s.updState = upReady → 
    Completes (.updateApply who) s fun t => t = (let u := s.startResult Obj.UPDATE_RESULT who; ((u.setUpd { u.upd with index := 0, swapped := 0, reversed := 0, failure := none, stationBarks := 0, oldSchema := some (u.blob Obj.SCHEMA_VERSIONS) }).wr Obj.UPDATE_STATE 4).startNext).answer .ok) ∧
  (∀ (s : State), s.hwGated 0 = false → s.updState = upReady → s.isHwReady 11 = true → s.rdN Obj.APPLY_AT ≠ 0 → s.rdN Obj.PTP_STATE ≠ 0 → s.rdN Obj.APPLY_AT ≤ s.networkTime → 
    Completes (.applyAtReached) s fun t => t = (let u := s.startResult Obj.UPDATE_RESULT .secure; ((u.setUpd { u.upd with index := 0, swapped := 0, reversed := 0, failure := none, stationBarks := 0, oldSchema := some (u.blob Obj.SCHEMA_VERSIONS) }).wr Obj.UPDATE_STATE 4).startNext)) ∧
  (∀ (s : State) (who : Requester) (fails : List Nat), s.accepts who Obj.UPDATE_COMMAND 2 → s.isHwReady 11 = true → s.updState = upTrial → 
    Completes (.updateCommit who fails) s fun t => t = (s.commitUpdate fails).answer .ok) ∧
  (∀ (s : State) (fails : List Nat), s.hwGated 0 = false → s.updState = upTrial → s.upd.trialAt + s.rdN Obj.TRIAL_S * 1000000000 ≤ s.time → 
    Completes (.trialExpired fails) s fun t => t = s.commitUpdate fails) ∧
  (∀ (s : State) (who : Requester), s.accepts who Obj.UPDATE_COMMAND 3 → s.isHwReady 11 = true → s.updState = upTrial → 
    Completes (.updateRevert who) s fun t => t = (((s.setUpd { s.upd with swapped := 8, reversed := 0 }).wr Obj.UPDATE_STATE 6).startNext).answer .ok) ∧
  (∀ (s : State) (who : Requester), s.accepts who Obj.UPDATE_COMMAND 4 → s.isHwReady 11 = true → s.updState = upReceiving ∨ s.updState = upVerifying ∨ s.updState = upReady → 
    Completes (.updateCancel who) s fun t => t.rd Obj.UPDATE_STATE = 0 ∧ t.rd Obj.PIECES_TOTAL = 0 ∧ t.rd Obj.PLAN = 65535 ∧ t.blob Obj.PIECE_BITMAP = [] ∧ t.upd.writing = [] ∧ t.upd.erasing = true ∧ t.upd.plan = []) ∧
  (∀ (s : State) (who : Requester), s.accepts who Obj.UPDATE_COMMAND 5 → s.isHwReady 11 = true → s.upd.wait = .sec → 
    Completes (.forceSec who) s fun t => t = (((s.nameTrial rkSec).setUpd { (s.nameTrial rkSec).upd with wait := .run, since := s.time }).syncStep.assertReset { source := 11, reach := rSec }).answer .ok) ∧
  (∀ (s : State) (who : Requester), s.accepts who Obj.UPDATE_COMMAND 1 → s.isHwReady 11 = true → s.updState ≠ upReady → 
    Completes (.updateApply who) s fun t => t = s.answer (.refused 8)) ∧
  (∀ (s : State) (who : Requester), s.accepts who Obj.UPDATE_COMMAND 3 → s.isHwReady 11 = true → s.updState ≠ upTrial → 
    Completes (.updateRevert who) s fun t => t = s.answer (.refused 8)) ∧
  (∀ (s : State) (who : Requester), s.accepts who Obj.UPDATE_COMMAND 5 → s.isHwReady 11 = true → s.upd.wait ≠ .sec → 
    Completes (.forceSec who) s fun t => t = s.answer (.refused 8)) ∧
  (∀ (s : State) (who : Requester), s.accepts who Obj.UPDATE_COMMAND 2 → s.isHwReady 11 = true → s.updState ≠ upTrial → 
    Completes (.updateCommit who []) s fun t => t = s.answer (.refused 8))

/-- After the gap the next step starts: a SEC step waits for the enclaves, a MGMT step writes the handover record and resets the management complex, an STN step swaps the next station. The end of a wait resets the secure complex; a step done goes on to the gap, to TRIAL at the end of the plan, or back; a refused image and a swap that takes 10 ms fail the update, which reverts. -/
def Obligations.UpdateStepsRun : Prop :=
  (∀ (s : State), s.hwGated 0 = false → s.upd.wait = .gap → s.isHwReady 11 = true → s.upd.since + s.rdN Obj.STATION_GAP_MS * 1000000 ≤ s.time → s.stepRank = some rkSec → 
    Completes (.updateGapElapsed) s fun t => t.upd.wait = .sec ∧ t.upd.since = s.time ∧ t.rd Obj.UPDATE_STEP = 15) ∧
  (∀ (s : State), s.hwGated 0 = false → s.upd.wait = .gap → s.isHwReady 11 = true → s.upd.since + s.rdN Obj.STATION_GAP_MS * 1000000 ≤ s.time → s.stepRank = some rkMgmt → s.noHold → 
    Completes (.updateGapElapsed) s fun t => t.upd.wait = .run ∧ t.upd.mgmtStep = true ∧ t.upd.handover = some s.writeHandover ∧ Domain.mgmt ∈ t.rst.inReset) ∧
  (∀ (s : State) (k : Nat), s.hwGated 0 = false → s.upd.wait = .gap → s.isHwReady 11 = true → s.upd.since + s.rdN Obj.STATION_GAP_MS * 1000000 ≤ s.time → s.stepRank = some rkStn → s.nextSwap rkStn = some k → 
    Completes (.updateGapElapsed) s fun t => t.upd.wait = .run ∧ t.upd.since = s.time ∧ t.swapsDone = k ∧ t.upd.index = s.upd.index) ∧
  (∀ (s : State), s.hwGated 0 = false → s.upd.wait = .sec → s.liveEnclaves = [] → 
    Completes (.secWaitEnd) s fun t => t = (((s.nameTrial rkSec).setUpd { (s.nameTrial rkSec).upd with wait := .run, since := s.time }).syncStep.assertReset { source := 11, reach := rSec })) ∧
  (∀ (s : State) (trial : Bool), s.upd.wait = .run → s.stepRank = some rkSec → s.secUp = true → s.sec.restarting = false → trial = true → s.updState = upApplying → s.upd.index + 1 < s.upd.plan.length → 
    Completes (.secStepDone trial) s fun t => t.upd.index = s.upd.index + 1 ∧ t.upd.wait = .gap ∧ t.upd.since = s.time ∧ t.rd Obj.UPDATE_STATE = s.rd Obj.UPDATE_STATE) ∧
  (∀ (s : State) (trial : Bool), s.upd.wait = .run → s.stepRank = some rkSec → s.secUp = true → s.sec.restarting = false → trial = true → s.updState = upApplying → s.upd.plan.length ≤ s.upd.index + 1 → 
    Completes (.secStepDone trial) s fun t => t.upd.wait = .none ∧ t.upd.trialAt = s.time ∧ t.rd Obj.UPDATE_STATE = 5) ∧
  (∀ (s : State) (trial : Bool), s.upd.wait = .run → s.stepRank = some rkSec → s.secUp = true → s.sec.restarting = false → trial = false → s.updState = upApplying → 
    Completes (.secStepDone trial) s fun t => t.rd Obj.UPDATE_STATE = 6 ∧ t.upd.failure = some (s.upd.failure.getD 3) ∧ t.upd.wait = .gap ∧ t.upd.since = s.time) ∧
  (∀ (s : State) (schema : Bytes) (converted : List (Nat × GroupRec)) (translator : Nat), s.hwGated 0 = false → s.upd.mgmtStep = true → s.isHwReady 4 = true → s.stepRank = some rkMgmt → s.updState ≠ upReverting → s.manifest.withdraw = false → ((s.changed s.manifest).any fun e => e.component = 4) = false → 
    Completes (.mgmtStepDone schema converted translator) s fun t => t = ((s.each (List.range 8) fun u n => u.wr Obj.TRANSLATOR_VERSION (translator : Nat) n).each (List.range 8) fun u n => u.retranslateOld n translator).completeStep) ∧
  (∀ (s : State) (n : Nat), s.upd.wait = .run → s.stepRank = some rkStn → s.nextSwap rkStn = some n → (s.ctl n).coreOn = true → s.swapInstant n = true → s.noHold → n < 8 → 
    Completes (.stnSwapStart) s fun t => t.upd.since = s.time ∧ Domain.core n ∈ t.rst.inReset ∧ (Domain.func n ∈ t.rst.inReset ↔ Domain.func n ∈ s.rst.inReset)) ∧
  (∀ (s : State) (n : Nat), s.upd.wait = .run → s.stepRank = some rkStn → s.nextSwap rkStn = some n → (s.ctl n).coreOn = true → 
    Completes (.stnSwapDone) s fun t => t = (s.stReady n 1 true).swapDone rkStn n) ∧
  (∀ (s : State) (n : Nat), s.upd.wait = .run → s.stepRank = some rkStn → s.nextSwap rkStn = some n → s.upd.since + 10000000 ≤ s.time → s.isStReady n 1 = false → s.updState = upApplying → 
    Completes (.stnSwapTimeout) s fun t => (t.ctl n).coreOn = true ∧ Domain.core n ∉ t.rst.inReset ∧ t.rd Obj.UPDATE_STATE = 6 ∧ t.upd.failure = some (s.upd.failure.getD 4)) ∧
  (∀ (s : State), s.updState = upReverting → s.upd.wait = .run → s.stepRank = some rkSec → s.secUp = true → s.sec.restarting = false → 2 ≤ s.upd.index → 
    Completes (.revertStepDone) s fun t => t.upd.index = s.upd.index - 1 ∧ t.upd.wait = .gap ∧ t.upd.since = s.time ∧ t.rd Obj.UPDATE_STATE = s.rd Obj.UPDATE_STATE) ∧
  (∀ (s : State), s.updState = upReverting → s.stepRank = none → 
    Completes (.revertStepDone) s fun t => t.rd Obj.UPDATE_STATE = 0 ∧ t.upd.plan = [] ∧ t.upd.wait = .none ∧ t.rd Obj.UPDATE_STEP = 255)

/-- An accepted ARM of an idle unit with parameters in bounds arms it, with its operation pending, and is answered OK; while armed it is BUSY. END of a BDA run ends it with its bytes, of any other source aborts it, as ABORT does. A run that ended OK writes the value of its register, the byte count and the tag, and the outcome; the unit is idle, or armed again where it is continuous. -/
def Obligations.CheckValueUnitsAct : Prop :=
  (∀ (s : State) (who : Requester) (u1 : Fin 24), s.accepts who Obj.CV_COMMAND 1 0 u1 → s.cvReady u1 = none → (s.cvu u1).armed = false → s.cvArmCheck u1 = none → 
    Completes (.cvArm who u1) s fun t => t = ((s.setCvu u1 { armed := true }).startResult Obj.CV_VALUE who 0 u1).answer .ok) ∧
  (∀ (s : State) (who : Requester) (u1 : Fin 24), s.accepts who Obj.CV_COMMAND 1 0 u1 → s.cvReady u1 = none → (s.cvu u1).armed = true → 
    Completes (.cvArm who u1) s fun t => t = s.answer (.busy 0)) ∧
  (∀ (s : State) (who : Requester) (u1 : Fin 24), s.accepts who Obj.CV_COMMAND 2 0 u1 → s.rdN Obj.CV_SOURCE 0 u1 = cvBda → (s.cvu u1).running = true → (s.cvu u1).armed = true → (s.cvu u1).ended = none → 
    Completes (.cvEnd who u1) s fun t => t = (s.setCvu u1 { s.cvu u1 with running := false, ended := some 0 }).answer .ok) ∧
  (∀ (s : State) (who : Requester) (u1 : Fin 24), s.accepts who Obj.CV_COMMAND 3 0 u1 → (s.cvu u1).armed = true → (s.cvu u1).ended = none → 
    Completes (.cvAbort who u1) s fun t => t = (s.setCvu u1 { s.cvu u1 with running := false, ended := some 3 }).answer .ok) ∧
  (∀ (s : State) (u1 : Fin 24) (overflow : Bool), (s.cvu u1).ended = some 0 → (s.cvu u1).running = false → 
    Completes (.cvRunComplete u1 overflow) s fun t => t.rd Obj.CV_VALUE 0 u1 = ((s.cvParams u1).value (s.cvu u1).crc : Nat) ∧ t.rd Obj.CV_RUN_BYTES 0 u1 = ((s.cvu u1).bytes : Nat) ∧ t.rd Obj.CV_RUN_TAG 0 u1 = ((s.cvu u1).tag % 2 ^ 32 : Nat) ∧ t.rd Obj.CV_RUNS 0 u1 = (satInc Obj.CV_RUNS.width (s.rdN Obj.CV_RUNS 0 u1) 1 : Nat) ∧ (t.cvu u1).running = false ∧ (t.cvu u1).ended = none ∧ (t.cvu u1).armed = s.rdB Obj.CV_CONTINUOUS 0 u1) ∧
  (∀ (s : State) (u1 : Fin 24) (overflow : Bool), overflow = true → s.rdN Obj.CV_SOURCE 0 u1 ≠ cvComposed → (s.cvu u1).running = true → (s.cvu u1).armed = true → (s.cvu u1).ended = none → 
    Completes (.cvRunComplete u1 overflow) s fun t => t = (s.setCvu u1 { s.cvu u1 with running := false, ended := some 1 }).cvComplete u1)

/-- A notification reaches its tenant's queue: while it has room the item is stored and the count of items is one more; where it is full one item is lost and counted. A log record reaches its queue, and a drained one the ring of its station or of the headworks, in order, with the ring's sequence advanced. -/
def Obligations.QueuesFillAndDrain : Prop :=
  (∀ (s : State) (k : Fin 512) (r : Rec), (s.noteQ.getD k.val {}).size < 32 → 
    Completes (.queueItemArrival (.tenantNote k r)) s fun t => (t.noteQ.getD k.val {}).size = (s.noteQ.getD k.val {}).size + 1 ∧ (t.noteQ.getD k.val {}).items.any (fun e => e.2 = r) = true ∧ t.rd Obj.NOTIFY_ITEMS 0 0 k = ((s.noteQ.getD k.val {}).size + 1 : Nat) ∧ t.rd Obj.NOTIFY_LOST 0 0 k = s.rd Obj.NOTIFY_LOST 0 0 k) ∧
  (∀ (s : State) (k : Fin 512) (r : Rec), 32 ≤ (s.noteQ.getD k.val {}).size → 
    Completes (.queueItemArrival (.tenantNote k r)) s fun t => t.rd Obj.NOTIFY_LOST 0 0 k = (satInc Obj.NOTIFY_LOST.width (s.rdN Obj.NOTIFY_LOST 0 0 k) 1 : Nat) ∧ t.touchQ = s.touchQ ∧ ∀ j : Fin 512, j ≠ k → t.noteQ.find j.val = s.noteQ.find j.val) ∧
  (∀ (s : State) (r : Rec), s.hwLogQ.size < 4096 → 
    Completes (.queueItemArrival (.hwLog r)) s fun t => t.hwLogQ.items.map (·.2) = s.hwLogQ.items.map (·.2) ++ [r] ∧ t.rd Obj.HW_LOG_ITEMS = (s.hwLogQ.size + 1 : Nat) ∧ t.rd Obj.HW_LOG_LOST = s.rd Obj.HW_LOG_LOST) ∧
  (∀ (s : State) (n : Fin 8) (k : Trigger), 
    Completes (.queueItemArrival (.haptic n k)) s fun t => t = s.hapQueue n k) ∧
  (∀ (s : State) (station : Option (Fin 8)) (count : Nat) (x : Nat × Rec) (l : List (Nat × Rec)), s.hwGated 0 = false → s.isHwReady 4 = true → station = none → count = 1 → s.hwLogQ.drain = x :: l → (s.logRings.getD 8 []).length < 1024 → 
    Completes (.logDrain station count) s fun t => t.hwLogQ = ({ s.hwLogQ with drain := l } : EvQueue Rec).swapLarge ∧ t.logRings.getD 8 [] = s.logRings.getD 8 [] ++ [x.2] ∧ t.rd Obj.HW_LOG_SEQ = (wrapInc Obj.HW_LOG_SEQ.width (s.rdN Obj.HW_LOG_SEQ) : Nat)) ∧
  (∀ (s : State) (station : Option (Fin 8)) (count : Nat) (n : Fin 8) (x : Nat × Rec) (l : List (Nat × Rec)), s.hwGated 0 = false → s.isHwReady 4 = true → station = some n → count = 1 → (s.stationLogQ.getD n.val {}).drain = x :: l → 1024 ≤ (s.logRings.getD n.val []).length → 
    Completes (.logDrain station count) s fun t => t.logRings.getD n.val [] = (s.logRings.getD n.val []).drop 1 ++ [x.2] ∧ t.rd Obj.STATION_LOG_OVERFLOWS n = (satInc Obj.STATION_LOG_OVERFLOWS.width (s.rdN Obj.STATION_LOG_OVERFLOWS n) 1 : Nat))

/-- For every command c, every rest q and every state whose queue is c in front of q: step is exec of c on the state whose queue is q. The queue is the model's own (assumption 4). -/
def Obligations.StepRunsTheFrontCommand : Prop :=
  ∀ (c : Instr) (q : List Instr) (s : State), s.pending = c :: q → step s = exec c { s with pending := q }

/-- With no command waiting a step answers a next state. While the block is powered and its always-on domain is out of reset, device time is 40 ns later, what the block keeps of the time of cores, jobs, contact tables and crossings follows, and no object changes but REPORT_RATE_HZ and EVENT_MERGES; else the state is the same. That a step on an empty queue is one reference cycle is the model's choice (assumption 4). -/
def Obligations.EmptyQueuePassesOneReferenceCycle : Prop :=
  ∀ s : State, s.pending = [] → ∃ t, step s = .next t ∧
    (s.powered = true ∧ Domain.aon ∉ s.rst.inReset → t.time = s.time + 40) ∧
    (s.powered = false ∨ Domain.aon ∈ s.rst.inReset → t = s) ∧
    Frame [.clock, .objects, .raster, .energy, .compositor, .display, .touch, .crossings, .out, .free] s t ∧
    SameObjectsBut s t ((List.range 8).flatMap fun n => [Obj.REPORT_RATE_HZ.key n 0 512 0, Obj.EVENT_MERGES.key n 0 512 0])

/-- State.reset: device and stations OFF, VAON absent, device time 0, every object of the dictionary at its default, no result pending, every block NORMAL, no command waiting. That memory lists nothing is the model's choice (assumption 5). -/
def Obligations.ResetIsOffWithDefaults : Prop :=
  State.reset.deviceState = 0 ∧ State.reset.rst.vaon = false ∧ State.reset.powered = false ∧ State.reset.time = 0 ∧
  State.reset.mem = [] ∧ State.reset.pending = [] ∧ State.reset.out = [] ∧
  (∀ n : Fin 8, State.reset.stationState n = stOff) ∧
  (∀ (r : ObjRow) (n i tq j : Nat), State.reset.rd r n i tq j = r.dflt i j ∧ State.reset.rdShadow r n i tq j = r.dflt i j ∧
    State.reset.isPending r n i tq = false) ∧
  (∀ b : Block, State.reset.isNormal b = true)

/-- The invariant of EveryStepKeepsTheMemoryForm holds of State.reset. -/
def Obligations.MemoryFormHoldsAtReset : Prop :=
  Inv State.reset

/-- For every state in which station memory is in canonical form (addresses strictly rising, no byte listed that equals what an unlisted address reads as), whatever the command in front: the next state's memory is in canonical form. The form is the model's (assumption 5). -/
def Obligations.EveryStepKeepsTheMemoryForm : Prop :=
  ∀ s t : State, Inv s → step s = .next t → Inv t

/-- For each of the 299 commands partsOf lists the parts of the state that it may change: objects, shadows, memory, each engine, each queue, and so on. From every state, every other part is the same afterwards: for a command without .memory every byte of station memory, for one without .resets every reset and clock control, and for all of them the queue of waiting commands. -/
def Obligations.EveryCommandKeepsToItsParts : Prop :=
  ∀ (c : Instr) (s t : State), exec c s = .next t → Frame (partsOf c) s t

/-- For each command named: every object whose key is not listed keeps its active copy. The lists name the objects the command's rule writes, and alarmKeys or logKeys where it raises an alarm or a log record. -/
def Obligations.EventsChangeOnlyTheirObjects : Prop :=
  (∀ (s t : State) (n : Fin 8), exec (.refreshDue n) s = .next t → SameObjectsBut s t ([])) ∧
  (∀ (s t : State) (n : Fin 8), exec (.retrainDue n) s = .next t → SameObjectsBut s t ([])) ∧
  (∀ (s t : State) (n : Fin 8), exec (.retrainStart n) s = .next t → SameObjectsBut s t ([])) ∧
  (∀ (s t : State) (n : Fin 8) (cls since : Nat), exec (.requestPromotion n cls since) s = .next t → SameObjectsBut s t ([])) ∧
  (∀ (s t : State) (port : Fin 2) (sender target leased : Nat), exec (.arpRequest port sender target leased) s = .next t → SameObjectsBut s t ([])) ∧
  (∀ (s t : State) (port : Fin 2) (sender target leased : Nat) (data : Bytes), exec (.icmpEcho port sender target leased data) s = .next t → SameObjectsBut s t ([])) ∧
  (∀ (s t : State) (k : Fin 32), exec (.peerRecordIdle k) s = .next t → SameObjectsBut s t ([])) ∧
  (∀ (s t : State), exec (.announce) s = .next t → SameObjectsBut s t ([])) ∧
  (∀ (s t : State), exec (.heartbeatTimer) s = .next t → SameObjectsBut s t ([])) ∧
  (∀ (s t : State) (digest : Bytes), exec (.stnImageLoad digest) s = .next t → SameObjectsBut s t ([])) ∧
  (∀ (s t : State), exec (.eraseResume) s = .next t → SameObjectsBut s t ([Obj.ERASE_SUSPENDED.key 0 0 512 0])) ∧
  (∀ (s t : State) (image : Option Bytes), exec (.secRestartBootDone image) s = .next t → SameObjectsBut s t ([Obj.SEC_STATE.key 0 0 512 0, Obj.READY_HEADWORKS.key 0 0 512 0])) ∧
  (∀ (s t : State) (k : Fin 3), exec (.hwPllLockLost k) s = .next t → SameObjectsBut s t ([Obj.HW_PLL_LOCK_LOSSES.key 0 0 512 0, Obj.HW_PLL_LOCKED.key 0 0 512 0])) ∧
  (∀ (s t : State) (n : Fin 8) (temp : Int), exec (.memTempRead n temp) s = .next t → SameObjectsBut s t ((Obj.MEM_TEMP_C.key n 0 512 0 :: alarmKeys) ++ logKeys n)) ∧
  (∀ (s t : State) (n : Fin 8), exec (.memFillDone n) s = .next t → SameObjectsBut s t ([Obj.MEM_STATE.key n 0 512 0, Obj.READY_STATION.key 0 0 512 n])) ∧
  (∀ (s t : State) (n : Fin 8) (k : Fin 512) (handle : Nat), exec (.pipelineDropFree n k handle) s = .next t → SameObjectsBut s t ([Obj.CACHE_USED.key n 0 k 0])) ∧
  (∀ (s t : State) (n : Fin 8), exec (.safeStoreCheckDone n) s = .next t → SameObjectsBut s t ([Obj.READY_STATION.key 0 0 512 n, Obj.SAFE_STORE_STATE.key n 0 512 0, Obj.SETTINGS_STATE.key 0 0 512 0])) ∧
  (∀ (s t : State) (n : Fin 8), exec (.hpdPlug n) s = .next t → SameObjectsBut s t ([Obj.HOTPLUG_EVENTS.key n 0 512 0])) ∧
  (∀ (s t : State) (p : Fin 2), exec (.hostPortReady p) s = .next t → SameObjectsBut s t ([Obj.PORT_STATE.key 0 p 512 0, Obj.READY_HEADWORKS.key 0 0 512 0])) ∧
  (∀ (s t : State) (n : Fin 8) (steps : Nat), exec (.pairAbandon n steps) s = .next t → SameObjectsBut s t (Obj.PAIRS_SKIPPED.key n 0 512 0 :: logKeys n)) ∧
  (∀ (s t : State) (n : Fin 8), exec (.audioStartDone n) s = .next t → SameObjectsBut s t ([Obj.AUDIO_STATE.key n 0 512 0, Obj.READY_STATION.key 0 0 512 n])) ∧
  (∀ (s t : State) (port : Fin 2) (speed : Fin 4), exec (.ethLinkChange port speed) s = .next t → SameObjectsBut s t ([Obj.ETH_LINK.key 0 port 512 0])) ∧
  (∀ (s t : State), exec (.ethernetPllLockLost) s = .next t → SameObjectsBut s t ([Obj.HW_PLL_LOCK_LOSSES.key 0 0 512 0, Obj.ETH_LINK.key 0 0 512 0, Obj.ETH_LINK.key 0 1 512 0])) ∧
  (∀ (s t : State) (k : Fin 32), exec (.sessionIdle k) s = .next t → SameObjectsBut s t ([Obj.SUBSCRIPTIONS.key 0 0 512 0])) ∧
  (∀ (s t : State) (x : Fin 64) (bitmap : Bytes), exec (.cachePush x bitmap) s = .next t → SameObjectsBut s t (Obj.CACHE_PROGRESS.key 0 x 512 0 :: memberAddrs.map fun m => Obj.CACHE_MEMBER_STATE.key 0 m 512 0)) ∧
  (∀ (s t : State), exec (.imageCopyDone) s = .next t → SameObjectsBut s t ([Obj.UPDATE_STATE.key 0 0 512 0])) ∧
  (∀ (s t : State) (trial : Bool), exec (.secStepDone trial) s = .next t → SameObjectsBut s t ([Obj.UPDATE_STATE.key 0 0 512 0, Obj.UPDATE_STEP.key 0 0 512 0, Obj.UPDATE_RESULT.key 0 0 512 0] ++ s.readyKeys (Obj.UPDATE_RESULT.key 0 0 512 0))) ∧
  (∀ (s t : State), exec (.stnSwapTimeout) s = .next t → SameObjectsBut s t ([Obj.UPDATE_STATE.key 0 0 512 0, Obj.UPDATE_STEP.key 0 0 512 0] ++ (List.range 8).map fun n => Obj.READY_STATION.key 0 0 512 n)) ∧
  (∀ (s t : State) (origin : RelayFrom) (frame : BdaFrame), exec (.relayFrame origin frame) s = .next t → SameObjectsBut s t ([Obj.TAG_FAILS.key 0 0 512 0])) ∧
  (∀ (s t : State) (u1 : Fin 24) (overflow : Bool), exec (.cvRunComplete u1 overflow) s = .next t → SameObjectsBut s t ([Obj.CV_VALUE.key 0 u1 512 0, Obj.CV_RUN_BYTES.key 0 u1 512 0, Obj.CV_RUN_TAG.key 0 u1 512 0, Obj.CV_RUNS.key 0 u1 512 0] ++ s.readyKeys (Obj.CV_VALUE.key 0 u1 512 0))) ∧
  (∀ (s t : State) (count : Nat), exec (.logDrain none count) s = .next t → SameObjectsBut s t ([Obj.HW_LOG_ITEMS.key 0 0 512 0, Obj.HW_LOG_SEQ.key 0 0 512 0, Obj.HW_LOG_OVERFLOWS.key 0 0 512 0])) ∧
  (∀ (s t : State) (n : Fin 8) (count : Nat), exec (.logDrain (some n) count) s = .next t → SameObjectsBut s t ([Obj.STATION_LOG_ITEMS.key 0 n 512 0, Obj.STATION_LOG_SEQ.key n 0 512 0, Obj.STATION_LOG_OVERFLOWS.key n 0 512 0])) ∧
  (∀ (s t : State), exec (.weirSaturated) s = .next t → SameObjectsBut s t ([Obj.WEIR_STATE.key 0 0 512 0, Obj.WEIR_SATURATIONS.key 0 0 512 0] ++ alarmKeys)) ∧
  (∀ (s t : State) (m : PtpMessage), exec (.ptpMessage m) s = .next t → SameObjectsBut s t ([Obj.NETWORK_OFFSET_NS.key 0 0 512 0, Obj.RATE_CORRECTION_PPB.key 0 0 512 0, Obj.PTP_STATE.key 0 0 512 0] ++ alarmKeys)) ∧
  (∀ (s t : State), exec (.ptpSyncTimeout) s = .next t → SameObjectsBut s t (Obj.PTP_STATE.key 0 0 512 0 :: alarmKeys)) ∧
  (∀ (s t : State), exec (.managerLost) s = .next t → SameObjectsBut s t (alarmKeys)) ∧
  (∀ (s t : State) (serial : Nat), exec (.heartbeat serial) s = .next t → SameObjectsBut s t (alarmKeys)) ∧
  (∀ (s t : State) (path code station st : Nat), exec (.alarmMergeEnd path code station st) s = .next t → SameObjectsBut s t (alarmKeys)) ∧
  (∀ (s t : State), exec (.alarmPendingDrain) s = .next t → SameObjectsBut s t (alarmKeys)) ∧
  (∀ (s t : State) (member : Fin 64) (x : Alarm), exec (.memberAlarmReceived member x) s = .next t → SameObjectsBut s t (alarmKeys))

/-- From a state with memory in canonical form: after bytes are stored at an address of a station, a read of their place gives them, none of them is lost, and every byte outside their place reads as before. -/
def Obligations.MemoryReadsWhatWasStored : Prop :=
  ∀ (s : State) (n addr : Nat) (b : Bytes), Inv s →
    (s.store n addr b).load n addr b.length = b ∧ SameMemoryBut s (s.store n addr b) n addr b.length ∧
    (∀ i, i < b.length → (s.store n addr b).isLost (cellOf n addr + i) = false)

/-- A write whose tag differs from that of its range stores nothing. Under tag 0 the bytes are read back, every byte outside them reads as before, and of the poisoned words exactly those covered whole lose their mark. Under an enclave's tag every byte outside the data units of 64 bytes that the write touches reads as before. -/
def Obligations.TaggedWritesKeepToTheirBytes : Prop :=
  ∀ (s : State) (n x tag : Nat) (b : Bytes) (ingress : Bool), Inv s →
    ((s.tagFault n x b.length tag).isSome = true → Part.memory.same s (s.writeTagged n x b tag ingress)) ∧
    (s.tagFault n x b.length tag = none → tag = 0 →
      (s.writeTagged n x b tag ingress).load n x b.length = b ∧ SameMemoryBut s (s.writeTagged n x b tag ingress) n x b.length ∧
      ∀ u, u ∈ (s.writeTagged n x b tag ingress).poison ↔
        u ∈ s.poison ∧ ¬(cellOf n x ≤ u * 8 ∧ (u + 1) * 8 ≤ cellOf n x + b.length)) ∧
    (s.tagFault n x b.length tag = none → tag ≠ 0 →
      SameMemoryBut s (s.writeTagged n x b tag ingress) n (x / 64 * 64) (((x + b.length + 63) / 64 - x / 64) * 64))

/-- The store of an attachment of a finished tile leaves every byte as it was but those of the tile's rows (row y at the attachment's address plus (32 ty + y) pitches plus 32 tx samples, of the tile's width), the 8 bytes of its signature and the first byte of the signature table; where the store operation is DONT_CARE nothing is written, or at an intermediate flush of depth the bytes of the tile at its place in the scratch. -/
def Obligations.TileStoresKeepToTheirTile : Prop :=
  ∀ (s : State) (n key ix tx ty : Nat) (a : Attachment) (j : Job) (tile : List Bytes), Inv s → s.job? n key = some j →
    tile.length = (j.tileSize tx ty).1 * (j.tileSize tx ty).2 * a.samples → (∀ x ∈ tile, x.length = a.bps) →
    (a.storeOp = 1 → (j.flushing && a.isDepth) = false → s.storeAtt n key ix a tx ty tile = s) ∧
    (a.storeOp = 1 → (j.flushing && a.isDepth) = true →
      SameMemoryBut s (s.storeAtt n key ix a tx ty tile) n (j.scratchAddr a tx ty) tile.flatten.length) ∧
    (a.storeOp ≠ 1 → ∀ c, (∀ y, y < (j.tileSize tx ty).2 →
        c < cellOf n (a.addr + (32 * ty + y) * a.pitch + 32 * tx * a.bps * a.stored) ∨
        cellOf n (a.addr + (32 * ty + y) * a.pitch + 32 * tx * a.bps * a.stored) + (j.tileSize tx ty).1 * a.bps * a.stored ≤ c) →
      (c < cellOf n (a.sigTable + 64 + 8 * (ty * cdiv j.width 32 + tx)) ∨
        cellOf n (a.sigTable + 64 + 8 * (ty * cdiv j.width 32 + tx)) + 8 ≤ c) →
      c ≠ cellOf n a.sigTable → memGet (s.storeAtt n key ix a tx ty tile).mem c = memGet s.mem c)

/-- A read of a small queue whose draining bank is not empty returns the value of an item of that bank whose priority no other exceeds, and none of the same priority is older. Looking at it first answers the same item and removes nothing. A read of an empty queue returns no item. -/
def Obligations.SmallQueuesReadTheBestItem : Prop :=
  ∀ (α : Type) (prio : α → Nat) (q : EvQueue α),
    (q.items = [] → (q.takeSmall prio).1 = none) ∧
    (q.drain ≠ [] → ∃ e ∈ q.drain, (q.takeSmall prio).1 = some e.2 ∧ q.peekSmall prio = some e.2 ∧
      ∀ x ∈ q.drain, prio x.2 < prio e.2 ∨ (prio x.2 = prio e.2 ∧ e.1 ≤ x.1))

/-- Of a queue whose items have ages of their own, all below the next age (QueueAgesStayApart): while it has room an arriving item is stored with the next age and nothing is lost. At a full queue one item is lost: among the stored items and the new one an oldest of the lowest priority; all the others are kept. -/
def Obligations.FullSmallQueuesLoseTheWorstItem : Prop :=
  ∀ (α : Type) (prio : α → Nat) (cap : Nat) (q : EvQueue α) (v : α), (q.items.map (·.1)).Nodup → (∀ x ∈ q.items, x.1 < q.nextAge) →
    (q.size < cap → (q.putSmall prio cap v).2 = false ∧
      ∀ x, x ∈ (q.putSmall prio cap v).1.items ↔ x ∈ q.items ∨ x = (q.nextAge, v)) ∧
    (cap ≤ q.size → (q.putSmall prio cap v).2 = true ∧
      ∃ w, (w ∈ q.items ∨ w = (q.nextAge, v)) ∧
        (∀ x, x ∈ q.items ∨ x = (q.nextAge, v) → prio w.2 < prio x.2 ∨ (prio w.2 = prio x.2 ∧ w.1 ≤ x.1)) ∧
        ∀ x, x ∈ (q.putSmall prio cap v).1.items ↔ (x ∈ q.items ∨ x = (q.nextAge, v)) ∧ x ≠ w)

/-- An empty queue has it, and arrivals at and reads of small and large queues keep it: no two items have one age, and every age lies below the next. It is the premise of FullSmallQueuesLoseTheWorstItem. -/
def Obligations.QueueAgesStayApart : Prop :=
  ∀ (α : Type) (prio : α → Nat) (cap : Nat) (q : EvQueue α) (v : α),
    (({} : EvQueue α).items = []) ∧
    ((q.items.map (·.1)).Nodup → (∀ x ∈ q.items, x.1 < q.nextAge) →
      ∀ r ∈ [(q.putSmall prio cap v).1, (q.takeSmall prio).2, (q.putLarge cap v).1, q.takeLarge.2],
        (r.items.map (·.1)).Nodup ∧ ∀ x ∈ r.items, x.1 < r.nextAge)

/-- Of a result object the requester may read: a write of its GENERATION sets CONSUMED and clears OVERRUN, is answered OK and changes nothing else; a write of another generation changes nothing and is answered STALE_ACK with the present generation. -/
def Obligations.AcknowledgementsConsumeResults : Prop :=
  ∀ (s : State) (who : Requester) (area : Fin 16) (idx gen : Nat) (tq : Option (Fin 512)) (p : Place) (v : ResultSt),
    s.served who = true → s.isQuarantined who = false →
    s.resultPlace who area idx (match tq with | some k => k.val | none => 512) = .ok p → v = s.results.getD p.key {} →
    (gen = v.generation → Completes (.resultAck who area idx tq gen) s fun t =>
      t = ({ s with results := s.results.put p.key { v with consumed := true, overrun := false } } : State).answer .ok) ∧
    (gen ≠ v.generation → Completes (.resultAck who area idx tq gen) s fun t => t = s.answer (.staleAck v.generation))

/-- A write of a shadow leaves every active copy, every armed copy and every latch to come as they were; the armed copy that the next commit of its set takes holds the new value. -/
def Obligations.ShadowWritesWaitForTheirCommit : Prop :=
  ∀ (s : State) (r : ObjRow) (v : Int) (n i j : Nat) (p : Place) (b : Bytes),
    (s.wrShadow r v n i 512 j).regs = s.regs ∧ (s.wrShadow r v n i 512 j).blobs = s.blobs ∧
    (s.wrShadow r v n i 512 j).comp = s.comp ∧ (s.wrShadow r v n i 512 j).disp = s.disp ∧
    (s.wrBlobShadow p b).regs = s.regs ∧ (s.wrBlobShadow p b).blobs = s.blobs ∧
    (s.wrBlobShadow p b).comp = s.comp ∧ (s.wrBlobShadow p b).disp = s.disp ∧
    ∀ (m c : Nat) (k : SetId) (q : ObjRow × Nat), q ∈ k.rows → q.1.key m q.2 512 0 = r.key n i 512 j →
      (((s.wrShadow r v n i 512 j).armedCopy m k c).named m k).find? (fun e => e.1 = r.key n i 512 j) = some (r.key n i 512 j, v)

/-- For station n every station object lies in area 8 + n, and the row an index and subindex name there (its type, access, level, default and range) is the same in every station area. -/
def Obligations.StationObjectsRepeatInEveryStation : Prop :=
  (∀ (r : ObjRow) (n i tq j : Nat), r.station = true → (r.key n i tq j).area = 8 + n) ∧
  (∀ (n : Fin 8) (idx sub : Nat), (lookupRow (8 + n) idx sub).map Prod.fst = (lookupRow 8 idx sub).map Prod.fst) ∧
  (∀ (n : Fin 8) (idx sub : Nat) (x : ObjRow × Nat × Nat × Nat), lookupRow (8 + n) idx sub = some x →
    x.1.station = true ∧ x.2.1 = n ∧ x.1.idx + x.2.2.1 = idx ∧ x.1.sub + x.2.2.2 = sub)

/-- While CV_PRESET is 0 the six objects give the parameters; presets 1, 2 and 3 give CRC-32, CRC-32C and CRC-64/ECMA-182. Under each the nine bytes "123456789" give the check value of the table. -/
def Obligations.CheckValuePresetsAreAsTabled : Prop :=
  (∀ (s : State) (u : Nat), (s.rdN Obj.CV_PRESET 0 u = 0 → s.cvParams u = ⟨s.rdN Obj.CV_WIDTH 0 u, s.rdN Obj.CV_POLY 0 u, s.rdN Obj.CV_INIT 0 u,
      s.rdB Obj.CV_REFIN 0 u, s.rdB Obj.CV_REFOUT 0 u, s.rdN Obj.CV_XOROUT 0 u⟩) ∧
    (s.rdN Obj.CV_PRESET 0 u = 1 → s.cvParams u = ⟨32, 0x04C11DB7, 0xFFFFFFFF, true, true, 0xFFFFFFFF⟩) ∧
    (s.rdN Obj.CV_PRESET 0 u = 2 → s.cvParams u = ⟨32, 0x1EDC6F41, 0xFFFFFFFF, true, true, 0xFFFFFFFF⟩) ∧
    (s.rdN Obj.CV_PRESET 0 u = 3 → s.cvParams u = ⟨64, 0x42F0E1EBA9EA3693, 0, false, false, 0⟩)) ∧
  ∀ p ∈ ([(⟨32, 0x04C11DB7, 0xFFFFFFFF, true, true, 0xFFFFFFFF⟩, 0xCBF43926), (⟨32, 0x1EDC6F41, 0xFFFFFFFF, true, true, 0xFFFFFFFF⟩, 0xE3069283), (⟨64, 0x42F0E1EBA9EA3693, 0, false, false, 0⟩, 0x6C40DF5F0B497347)] : List (CrcParams × Nat)),
    p.1.value (crcFeed p.1.width p.1.poly p.1.refin p.1.init [0x31, 0x32, 0x33, 0x34, 0x35, 0x36, 0x37, 0x38, 0x39]) = p.2

/-- Of every record: the fields stand at the bits of the map, bit 160 is 0, and the payload is packed from bit 159 downward, each field at its width, in order; the bits that no field uses are 0. It is 32 bytes, least significant first. -/
def Obligations.RecordsAreLaidOutAsTabled : Prop :=
  ∀ r : Rec, (r.fields.map (·.2)).sum ≤ 160 →
    bits 255 192 r.number = r.time % 2 ^ 64 ∧ bits 191 176 r.number = r.code % 2 ^ 16 ∧ bits 175 174 r.number = r.prio % 4 ∧
    bits 173 170 r.number = r.station % 16 ∧ bits 169 161 r.number = r.tenant % 512 ∧ bits 160 160 r.number = 0 ∧
    bits 159 0 r.number = packFields r.fields ∧ packFields [] = 0 ∧
    (∀ (f : Nat × Nat) (l : List (Nat × Nat)), r.fields = f :: l →
      packFields (f :: l) = f.1 % 2 ^ f.2 * 2 ^ (160 - f.2) + packFields l / 2 ^ f.2 ∧ packFields l % 2 ^ f.2 = 0) ∧
    r.encode.length = 32 ∧ ofLE r.encode = r.number

/-- A short-form frame read from its identifier and its 64 bytes is the frame that was written; a header read from the front of a frame is the header that was written, whatever follows; a WRITE entry read from its bytes is the entry; a frame made from a header of version 1 and a body of at most 1,416 bytes is accepted and gives both back. -/
def Obligations.FramesSurviveTheirWire : Prop :=
  (∀ f : ShortFrame, f.priority < 8 → f.typ < 8 → f.dest < 64 → f.src < 64 → f.seq < 2 ^ 16 → f.tenant < 512 → f.addr < 2 ^ 28 →
      f.payload.length = 56 → parseShort f.id f.bytes = f ∧ f.bytes.length = 64) ∧
  (∀ (h : Header) (rest : Bytes), h.version < 16 → h.typ < 16 → h.seq < 2 ^ 16 → h.dest < 2 ^ 32 → h.src < 2 ^ 32 → h.tenant < 512 →
      h.length < 2 ^ 16 → h.session < 2 ^ 32 → h.hops < 256 → h.status < 256 →
      parseHeader (h.encode ++ rest) = h ∧ h.encode.length = 24 ∧
      (h.version = 1 → h.tagged = false → rest.length = h.length → h.length ≤ 1416 →
        frameOk (h.encode ++ rest) = true ∧ frameBody (h.encode ++ rest) = rest)) ∧
  (∀ e : Entry, e.area < 16 → e.idx < 2 ^ 16 → e.sub < 256 → e.view < 4 → e.revision < 2 ^ 16 → e.offset < 2 ^ 32 → e.len < 2 ^ 16 →
      e.data.length = e.len → parseEntries false 1 e.encode = some [e])

/-- STATION_RESET and MEM_REINIT of station n, from every state with memory in canonical form: of every other station the engines, the sequencing, the objects with their shadows and contents, and every byte of memory are as before. -/
def Obligations.StationResetsLeaveTheOthersAlone : Prop :=
  ∀ (s t : State) (who : Requester) (n m : Fin 8) (v : Bool), Inv s → m ≠ n →
    (exec (.stationReset who n v) s = .next t ∨ exec (.memReinit who n v) s = .next t) →
    (t.ras m.val = s.ras m.val ∧ t.cmp m.val = s.cmp m.val ∧ t.grd m.val = s.grd m.val ∧ t.dsp m.val = s.dsp m.val ∧ t.tch m.val = s.tch m.val ∧
      t.hap m.val = s.hap m.val ∧ t.aud m.val = s.aud m.val ∧ t.mmc m.val = s.mmc m.val ∧ t.ctl m.val = s.ctl m.val ∧
      (∀ k : OKey, k.area = 8 + m.val → t.regs.find k = s.regs.find k ∧ t.shadow.find k = s.shadow.find k ∧ t.blobs.find k = s.blobs.find k) ∧
      ∀ x, x < 2 ^ 40 → memGet t.mem (cellOf m.val x) = memGet s.mem (cellOf m.val x) ∧ t.isLost (cellOf m.val x) = s.isLost (cellOf m.val x))

/-- Of a peer's record: a SEQ acted on is a duplicate when it comes again at once; one that is 1 to 1,024 ahead is acted on and becomes LAST; one at or up to 1,023 behind is acted on where it is not recorded and leaves LAST; any other is rejected and changes nothing. -/
def Obligations.SequenceNumbersAreActedOnOnce : Prop :=
  ∀ (p : Peer) (seq : Nat),
    ((p.take seq).1 = .act → ((p.take seq).2.take seq).1 = .duplicate) ∧
    (1 ≤ modDiff 16 seq p.last → modDiff 16 seq p.last ≤ 1024 → (p.take seq).1 = .act ∧ (p.take seq).2.last = seq) ∧
    (modDiff 16 seq p.last = 0 ∨ 64513 ≤ modDiff 16 seq p.last →
      (p.take seq).1 = (if seq ∈ p.recorded then .duplicate else .act) ∧ (p.take seq).2.last = p.last) ∧
    (1024 < modDiff 16 seq p.last → modDiff 16 seq p.last < 64513 → p.take seq = (.reject, p))
end

