-- ==== Sys2Proof/Laws/Bits.lean ====
section
/-! SUPPORT. Byte strings and numbers: lengths, round trips and bounds. -/
namespace Sys2Proof.Machine

@[simp] theorem toLE_length (k v : Nat) : (toLE k v).length = k := by
  induction k generalizing v with
  | zero => rfl
  | succ k ih => simp [toLE, ih]

@[simp] theorem toBE_length (k v : Nat) : (toBE k v).length = k := by simp [toBE]

/-- The bytes of a number spell it, modulo their width (R10). -/
theorem ofLE_toLE (k v : Nat) : ofLE (toLE k v) = v % 256 ^ k := by
  induction k generalizing v with
  | zero => simp [toLE, ofLE, Nat.mod_one]
  | succ k ih =>
    have h : v % 256 ^ (k + 1) = v % 256 + 256 * (v / 256 % 256 ^ k) := by
      rw [show (256 : Nat) ^ (k + 1) = 256 * 256 ^ k from by rw [Nat.pow_succ, Nat.mul_comm]]
      exact Nat.mod_mul
    simp only [toLE, ofLE, BitVec.toNat_ofNat, ih, h]
    omega

theorem ofLE_lt (b : Bytes) : ofLE b < 256 ^ b.length := by
  induction b with
  | nil => simp [ofLE]
  | cons x b ih =>
    have := x.isLt
    simp only [ofLE, List.length_cons, Nat.pow_succ]
    omega

/-- A byte string is the bytes of the number that it spells (R10). -/
theorem toLE_ofLE (b : Bytes) : toLE b.length (ofLE b) = b := by
  induction b with
  | nil => rfl
  | cons x b ih =>
    have h := x.isLt
    have e : (x.toNat + 256 * ofLE b) / 256 = ofLE b := by omega
    have f : (x.toNat + 256 * ofLE b) % 256 = x.toNat := by omega
    simp only [List.length_cons, toLE, ofLE, e, f, ih]
    simp

theorem ofBE_toBE (k v : Nat) : ofBE (toBE k v) = v % 256 ^ k := by simp [ofBE, toBE, ofLE_toLE]

@[simp] theorem padTo_length (k : Nat) (b : Bytes) : (padTo k b).length = k := by simp [padTo]; omega

theorem padTo_of_length {k : Nat} {b : Bytes} (h : b.length = k) : padTo k b = b := by subst h; simp [padTo]

theorem slice_length (b : Bytes) (o k : Nat) : (slice b o k).length = min k (b.length - o) := by simp [slice]

/-- The front of a byte string. -/
theorem slice_zero_append (a b : Bytes) {k : Nat} (h : a.length = k) : slice (a ++ b) 0 k = a := by subst h; simp [slice]

/-- Fields behind the front of a byte string. -/
theorem slice_append_right (a b : Bytes) {o k : Nat} (h : a.length ≤ o) : slice (a ++ b) o k = slice b (o - a.length) k := by
  simp [slice, List.drop_append, List.drop_of_length_le h]

theorem reflectBits_lt (w v : Nat) : reflectBits w v < 2 ^ w := by
  unfold reflectBits
  induction w with
  | zero => simp
  | succ w ih =>
    rw [List.range_succ, List.foldl_append]
    simp only [List.foldl_cons, List.foldl_nil]
    rw [Nat.pow_succ]
    split <;> omega

theorem crc32c_lt (b : Bytes) : crc32c b < 2 ^ 32 := by
  unfold crc32c
  exact Nat.xor_lt_two_pow (reflectBits_lt 32 _) (by decide)

end Sys2Proof.Machine
end

