-- ==== Sys2Proof/Laws/Frame.lean ====
section
/-! SUPPORT. Frames: how they compose, and what one update of the state record leaves alone. -/
namespace Sys2Proof.Machine

theorem Frame.refl (ps : List Part) (s : State) : Frame ps s s := by
  intro q _; cases q <;> simp [Part.same]

theorem Frame.trans {ps : List Part} {a b c : State} (h : Frame ps a b) (k : Frame ps b c) : Frame ps a c := by
  intro q hq; have x := h q hq; have y := k q hq
  cases q <;> simp_all [Part.same]

theorem Frame.mono {ps qs : List Part} {a b : State} (hs : ps ⊆ qs) (h : Frame ps a b) : Frame qs a b :=
  fun q hq => h q fun hp => hq (hs hp)

theorem Part.lift {q : Part} {ps qs : List Part} (hs : ps ⊆ qs) (h : q ∈ ps) : q ∈ qs := hs h

theorem Part.tr {a b c : List Part} (h : a ⊆ b) (k : b ⊆ c) : a ⊆ c := List.Subset.trans h k

theorem Frame.ite {ps : List Part} {a b c : State} {p : Prop} [Decidable p] (h : Frame ps a b) (k : Frame ps a c) :
    Frame ps a (if p then b else c) := by split <;> assumption

theorem Frame.iteFst {β : Type} {ps : List Part} {a : State} {b c : State × β} {p : Prop} [Decidable p] (h : Frame ps a b.1)
    (k : Frame ps a c.1) : Frame ps a (if p then b else c).1 := by split <;> assumption

theorem Frame.iteSnd {β : Type} {ps : List Part} {a : State} {b c : β × State} {p : Prop} [Decidable p] (h : Frame ps a b.2)
    (k : Frame ps a c.2) : Frame ps a (if p then b else c).2 := by split <;> assumption

/-- The state an optional effect answers, if it answers one. -/
def FrameOpt (ps : List Part) (a : State) (o : Option State) : Prop := ∀ z, o = some z → Frame ps a z

theorem FrameOpt.ofNone {ps : List Part} {a : State} : FrameOpt ps a none := fun _ h => nomatch h

theorem FrameOpt.ofSome {ps : List Part} {a b : State} (h : Frame ps a b) : FrameOpt ps a (some b) := by
  intro z e; cases e; exact h

theorem FrameOpt.get {ps : List Part} {a z : State} {o : Option State} (h : FrameOpt ps a o) (e : o = some z) : Frame ps a z := h z e

theorem FrameOpt.ite {ps : List Part} {a : State} {b c : Option State} {p : Prop} [Decidable p] (h : FrameOpt ps a b)
    (k : FrameOpt ps a c) : FrameOpt ps a (if p then b else c) := by split <;> assumption

/-- The state beside an optional answer, if there is one. -/
def FrameOut {β : Type} (ps : List Part) (a : State) (o : Option (β × State)) : Prop := ∀ y z, o = some (y, z) → Frame ps a z

theorem FrameOut.ofNone {β : Type} {ps : List Part} {a : State} : FrameOut (β := β) ps a none := fun _ _ h => nomatch h

theorem FrameOut.ofSome {β : Type} {ps : List Part} {a : State} {p : β × State} (h : Frame ps a p.2) : FrameOut ps a (some p) := by
  intro y z e; cases e; exact h

theorem FrameOut.get {β : Type} {ps : List Part} {a z : State} {o : Option (β × State)} {y : β} (h : FrameOut ps a o)
    (e : o = some (y, z)) : Frame ps a z := h y z e

theorem FrameOut.ite {β : Type} {ps : List Part} {a : State} {b c : Option (β × State)} {p : Prop} [Decidable p]
    (h : FrameOut ps a b) (k : FrameOut ps a c) : FrameOut ps a (if p then b else c) := by split <;> assumption

theorem FrameOut.map {β γ : Type} {ps : List Part} {a : State} {o : Option (β × State)} {f : β × State → γ × State}
    (hf : ∀ p, (f p).2 = p.2) (h : FrameOut ps a o) : FrameOut ps a (o.map f) := by
  intro y z e
  cases o with
  | none => simp at e
  | some p => simp only [Option.map_some, Option.some.injEq] at e; have w := hf p; rw [e] at w; rw [show z = p.2 from w]; exact h p.1 p.2 rfl

/-- The state an outcome answers, if it is a next state. -/
def FrameStep (ps : List Part) (a : State) (o : Host.Outcome State Fault Refusal) : Prop := ∀ t, o = .next t → Frame ps a t

theorem FrameStep.of {ps : List Part} {a : State} {o : Host.Outcome State Fault Refusal} (h : ∀ t, o = .next t → Frame ps a t) :
    FrameStep ps a o := h

theorem FrameStep.ofNext {ps : List Part} {a b : State} (h : Frame ps a b) : FrameStep ps a (.next b) := by
  intro t e; cases e; exact h

theorem FrameStep.ite {ps : List Part} {a : State} {b c : Host.Outcome State Fault Refusal} {p : Prop} [Decidable p]
    (h : FrameStep ps a b) (k : FrameStep ps a c) : FrameStep ps a (if p then b else c) := by split <;> assumption

theorem Frame.each {α : Type} {ps : List Part} {a b : State} {l : List α} {f : State → α → State}
    (hf : ∀ s x, Frame ps a s → Frame ps a (f s x)) (h : Frame ps a b) : Frame ps a (b.each l f) := by
  unfold State.each
  induction l generalizing b with
  | nil => exact h
  | cons x xs ih => exact ih (hf b x h)

theorem Frame.foldlSnd {α β : Type} {ps : List Part} {a : State} {b : β × State} {l : List α} {f : β × State → α → β × State}
    (hf : ∀ s x, Frame ps a s.2 → Frame ps a (f s x).2) (h : Frame ps a b.2) : Frame ps a (l.foldl f b).2 := by
  induction l generalizing b with
  | nil => exact h
  | cons x xs ih => exact ih (hf b x h)

theorem Frame.foldlFst {α β : Type} {ps : List Part} {a : State} {b : State × β} {l : List α} {f : State × β → α → State × β}
    (hf : ∀ s x, Frame ps a s.1 → Frame ps a (f s x).1) (h : Frame ps a b.1) : Frame ps a (l.foldl f b).1 := by
  induction l generalizing b with
  | nil => exact h
  | cons x xs ih => exact ih (hf b x h)

theorem Frame.ofSnd {β : Type} {ps : List Part} {a z : State} {p : β × State} {y : β} (e : p = (y, z)) (h : Frame ps a p.2) :
    Frame ps a z := by rw [e] at h; exact h

theorem Frame.ofFst {β : Type} {ps : List Part} {a z : State} {p : State × β} {y : β} (e : p = (z, y)) (h : Frame ps a p.1) :
    Frame ps a z := by rw [e] at h; exact h

theorem Frame.foldl {α : Type} {ps : List Part} {a b : State} {l : List α} {f : State → α → State}
    (hf : ∀ s x, Frame ps a s → Frame ps a (f s x)) (h : Frame ps a b) : Frame ps a (l.foldl f b) := Frame.each hf h

theorem Frame.set_alarmQ {ps : List Part} {a b : State} {v0} (h0 : .records ∈ ps)
    (h : Frame ps a b) : Frame ps a { b with alarmQ := v0 } := by
  intro q hq; have x := h q hq
  cases q <;> first | exact x | exact absurd h0 hq

theorem Frame.set_alarmQ_alarms {ps : List Part} {a b : State} {v0 v1} (h0 : .records ∈ ps)
    (h : Frame ps a b) : Frame ps a { b with alarmQ := v0, alarms := v1 } := by
  intro q hq; have x := h q hq
  cases q <;> first | exact x | exact absurd h0 hq

theorem Frame.set_alarms {ps : List Part} {a b : State} {v0} (h0 : .records ∈ ps)
    (h : Frame ps a b) : Frame ps a { b with alarms := v0 } := by
  intro q hq; have x := h q hq
  cases q <;> first | exact x | exact absurd h0 hq

theorem Frame.set_audio {ps : List Part} {a b : State} {v0} (h0 : .audio ∈ ps)
    (h : Frame ps a b) : Frame ps a { b with audio := v0 } := by
  intro q hq; have x := h q hq
  cases q <;> first | exact x | exact absurd h0 hq

theorem Frame.set_blobs {ps : List Part} {a b : State} {v0} (h0 : .texts ∈ ps)
    (h : Frame ps a b) : Frame ps a { b with blobs := v0 } := by
  intro q hq; have x := h q hq
  cases q <;> first | exact x | exact absurd h0 hq

theorem Frame.set_blobs_blobRev {ps : List Part} {a b : State} {v0 v1} (h0 : .texts ∈ ps)
    (h : Frame ps a b) : Frame ps a { b with blobs := v0, blobRev := v1 } := by
  intro q hq; have x := h q hq
  cases q <;> first | exact x | exact absurd h0 hq

theorem Frame.set_blobs_encKey_sec_encTouchQ_encNoteQ {ps : List Part} {a b : State} {v0 v1 v2 v3 v4} (h0 : .texts ∈ ps) (h1 : .keys ∈ ps) (h2 : .secure ∈ ps) (h3 : .touchQueues ∈ ps) (h4 : .records ∈ ps)
    (h : Frame ps a b) : Frame ps a { b with blobs := v0, encKey := v1, sec := v2, encTouchQ := v3, encNoteQ := v4 } := by
  intro q hq; have x := h q hq
  cases q <;> first | exact x | exact absurd h0 hq | exact absurd h1 hq | exact absurd h2 hq | exact absurd h3 hq | exact absurd h4 hq

theorem Frame.set_blobs_results {ps : List Part} {a b : State} {v0 v1} (h0 : .texts ∈ ps) (h1 : .results ∈ ps)
    (h : Frame ps a b) : Frame ps a { b with blobs := v0, results := v1 } := by
  intro q hq; have x := h q hq
  cases q <;> first | exact x | exact absurd h0 hq | exact absurd h1 hq

theorem Frame.set_blobs_rst {ps : List Part} {a b : State} {v0 v1} (h0 : .texts ∈ ps) (h1 : .resets ∈ ps)
    (h : Frame ps a b) : Frame ps a { b with blobs := v0, rst := v1 } := by
  intro q hq; have x := h q hq
  cases q <;> first | exact x | exact absurd h0 hq | exact absurd h1 hq

theorem Frame.set_comp {ps : List Part} {a b : State} {v0} (h0 : .compositor ∈ ps)
    (h : Frame ps a b) : Frame ps a { b with comp := v0 } := by
  intro q hq; have x := h q hq
  cases q <;> first | exact x | exact absurd h0 hq

theorem Frame.set_crossings {ps : List Part} {a b : State} {v0} (h0 : .crossings ∈ ps)
    (h : Frame ps a b) : Frame ps a { b with crossings := v0 } := by
  intro q hq; have x := h q hq
  cases q <;> first | exact x | exact absurd h0 hq

theorem Frame.set_cv {ps : List Part} {a b : State} {v0} (h0 : .checks ∈ ps)
    (h : Frame ps a b) : Frame ps a { b with cv := v0 } := by
  intro q hq; have x := h q hq
  cases q <;> first | exact x | exact absurd h0 hq

theorem Frame.set_disp {ps : List Part} {a b : State} {v0} (h0 : .display ∈ ps)
    (h : Frame ps a b) : Frame ps a { b with disp := v0 } := by
  intro q hq; have x := h q hq
  cases q <;> first | exact x | exact absurd h0 hq

theorem Frame.set_encKey {ps : List Part} {a b : State} {v0} (h0 : .keys ∈ ps)
    (h : Frame ps a b) : Frame ps a { b with encKey := v0 } := by
  intro q hq; have x := h q hq
  cases q <;> first | exact x | exact absurd h0 hq

theorem Frame.set_encKey_sec {ps : List Part} {a b : State} {v0 v1} (h0 : .keys ∈ ps) (h1 : .secure ∈ ps)
    (h : Frame ps a b) : Frame ps a { b with encKey := v0, sec := v1 } := by
  intro q hq; have x := h q hq
  cases q <;> first | exact x | exact absurd h0 hq | exact absurd h1 hq

theorem Frame.set_encNoteQ {ps : List Part} {a b : State} {v0} (h0 : .records ∈ ps)
    (h : Frame ps a b) : Frame ps a { b with encNoteQ := v0 } := by
  intro q hq; have x := h q hq
  cases q <;> first | exact x | exact absurd h0 hq

theorem Frame.set_encTouchQ {ps : List Part} {a b : State} {v0} (h0 : .touchQueues ∈ ps)
    (h : Frame ps a b) : Frame ps a { b with encTouchQ := v0 } := by
  intro q hq; have x := h q hq
  cases q <;> first | exact x | exact absurd h0 hq

theorem Frame.set_energy {ps : List Part} {a b : State} {v0} (h0 : .energy ∈ ps)
    (h : Frame ps a b) : Frame ps a { b with energy := v0 } := by
  intro q hq; have x := h q hq
  cases q <;> first | exact x | exact absurd h0 hq

theorem Frame.set_free {ps : List Part} {a b : State} {v0} (h0 : .free ∈ ps)
    (h : Frame ps a b) : Frame ps a { b with free := v0 } := by
  intro q hq; have x := h q hq
  cases q <;> first | exact x | exact absurd h0 hq

theorem Frame.set_guard {ps : List Part} {a b : State} {v0} (h0 : .guard ∈ ps)
    (h : Frame ps a b) : Frame ps a { b with guard := v0 } := by
  intro q hq; have x := h q hq
  cases q <;> first | exact x | exact absurd h0 hq

theorem Frame.set_haptic {ps : List Part} {a b : State} {v0} (h0 : .haptic ∈ ps)
    (h : Frame ps a b) : Frame ps a { b with haptic := v0 } := by
  intro q hq; have x := h q hq
  cases q <;> first | exact x | exact absurd h0 hq

theorem Frame.set_hapticQ {ps : List Part} {a b : State} {v0} (h0 : .hapticQueues ∈ ps)
    (h : Frame ps a b) : Frame ps a { b with hapticQ := v0 } := by
  intro q hq; have x := h q hq
  cases q <;> first | exact x | exact absurd h0 hq

theorem Frame.set_hapticQ_stationLogQ {ps : List Part} {a b : State} {v0 v1} (h0 : .hapticQueues ∈ ps) (h1 : .records ∈ ps)
    (h : Frame ps a b) : Frame ps a { b with hapticQ := v0, stationLogQ := v1 } := by
  intro q hq; have x := h q hq
  cases q <;> first | exact x | exact absurd h0 hq | exact absurd h1 hq

theorem Frame.set_hwLogQ {ps : List Part} {a b : State} {v0} (h0 : .records ∈ ps)
    (h : Frame ps a b) : Frame ps a { b with hwLogQ := v0 } := by
  intro q hq; have x := h q hq
  cases q <;> first | exact x | exact absurd h0 hq

theorem Frame.set_ingress {ps : List Part} {a b : State} {v0} (h0 : .ingress ∈ ps)
    (h : Frame ps a b) : Frame ps a { b with ingress := v0 } := by
  intro q hq; have x := h q hq
  cases q <;> first | exact x | exact absurd h0 hq

theorem Frame.set_locks {ps : List Part} {a b : State} {v0} (h0 : .locks ∈ ps)
    (h : Frame ps a b) : Frame ps a { b with locks := v0 } := by
  intro q hq; have x := h q hq
  cases q <;> first | exact x | exact absurd h0 hq

theorem Frame.set_locks_encKey_sec_encTouchQ_encNoteQ {ps : List Part} {a b : State} {v0 v1 v2 v3 v4} (h0 : .locks ∈ ps) (h1 : .keys ∈ ps) (h2 : .secure ∈ ps) (h3 : .touchQueues ∈ ps) (h4 : .records ∈ ps)
    (h : Frame ps a b) : Frame ps a { b with locks := v0, encKey := v1, sec := v2, encTouchQ := v3, encNoteQ := v4 } := by
  intro q hq; have x := h q hq
  cases q <;> first | exact x | exact absurd h0 hq | exact absurd h1 hq | exact absurd h2 hq | exact absurd h3 hq | exact absurd h4 hq

theorem Frame.set_logRings {ps : List Part} {a b : State} {v0} (h0 : .records ∈ ps)
    (h : Frame ps a b) : Frame ps a { b with logRings := v0 } := by
  intro q hq; have x := h q hq
  cases q <;> first | exact x | exact absurd h0 hq

theorem Frame.set_lostCells {ps : List Part} {a b : State} {v0} (h0 : .memory ∈ ps)
    (h : Frame ps a b) : Frame ps a { b with lostCells := v0 } := by
  intro q hq; have x := h q hq
  cases q <;> first | exact x | exact absurd h0 hq

theorem Frame.set_mem_lostCells {ps : List Part} {a b : State} {v0 v1} (h0 : .memory ∈ ps)
    (h : Frame ps a b) : Frame ps a { b with mem := v0, lostCells := v1 } := by
  intro q hq; have x := h q hq
  cases q <;> first | exact x | exact absurd h0 hq

theorem Frame.set_mem_lostCells_poison {ps : List Part} {a b : State} {v0 v1 v2} (h0 : .memory ∈ ps)
    (h : Frame ps a b) : Frame ps a { b with mem := v0, lostCells := v1, poison := v2 } := by
  intro q hq; have x := h q hq
  cases q <;> first | exact x | exact absurd h0 hq

theorem Frame.set_memc {ps : List Part} {a b : State} {v0} (h0 : .memctl ∈ ps)
    (h : Frame ps a b) : Frame ps a { b with memc := v0 } := by
  intro q hq; have x := h q hq
  cases q <;> first | exact x | exact absurd h0 hq

theorem Frame.set_net {ps : List Part} {a b : State} {v0} (h0 : .network ∈ ps)
    (h : Frame ps a b) : Frame ps a { b with net := v0 } := by
  intro q hq; have x := h q hq
  cases q <;> first | exact x | exact absurd h0 hq

theorem Frame.set_noteQ {ps : List Part} {a b : State} {v0} (h0 : .records ∈ ps)
    (h : Frame ps a b) : Frame ps a { b with noteQ := v0 } := by
  intro q hq; have x := h q hq
  cases q <;> first | exact x | exact absurd h0 hq

theorem Frame.set_out {ps : List Part} {a b : State} {v0} (h0 : .out ∈ ps)
    (h : Frame ps a b) : Frame ps a { b with out := v0 } := by
  intro q hq; have x := h q hq
  cases q <;> first | exact x | exact absurd h0 hq

theorem Frame.set_peerLevel {ps : List Part} {a b : State} {v0} (h0 : .network ∈ ps)
    (h : Frame ps a b) : Frame ps a { b with peerLevel := v0 } := by
  intro q hq; have x := h q hq
  cases q <;> first | exact x | exact absurd h0 hq

theorem Frame.set_pending {ps : List Part} {a b : State} {v0} (h0 : .queue ∈ ps)
    (h : Frame ps a b) : Frame ps a { b with pending := v0 } := by
  intro q hq; have x := h q hq
  cases q <;> first | exact x | exact absurd h0 hq

theorem Frame.set_pins {ps : List Part} {a b : State} {v0} (h0 : .pins ∈ ps)
    (h : Frame ps a b) : Frame ps a { b with pins := v0 } := by
  intro q hq; have x := h q hq
  cases q <;> first | exact x | exact absurd h0 hq

theorem Frame.set_poison {ps : List Part} {a b : State} {v0} (h0 : .memory ∈ ps)
    (h : Frame ps a b) : Frame ps a { b with poison := v0 } := by
  intro q hq; have x := h q hq
  cases q <;> first | exact x | exact absurd h0 hq

theorem Frame.set_ports {ps : List Part} {a b : State} {v0} (h0 : .ports ∈ ps)
    (h : Frame ps a b) : Frame ps a { b with ports := v0 } := by
  intro q hq; have x := h q hq
  cases q <;> first | exact x | exact absurd h0 hq

theorem Frame.set_powered {ps : List Part} {a b : State} {v0} (h0 : .power ∈ ps)
    (h : Frame ps a b) : Frame ps a { b with powered := v0 } := by
  intro q hq; have x := h q hq
  cases q <;> first | exact x | exact absurd h0 hq

theorem Frame.set_powered_rst {ps : List Part} {a b : State} {v0 v1} (h0 : .power ∈ ps) (h1 : .resets ∈ ps)
    (h : Frame ps a b) : Frame ps a { b with powered := v0, rst := v1 } := by
  intro q hq; have x := h q hq
  cases q <;> first | exact x | exact absurd h0 hq | exact absurd h1 hq

theorem Frame.set_powered_rst_pins {ps : List Part} {a b : State} {v0 v1 v2} (h0 : .power ∈ ps) (h1 : .resets ∈ ps) (h2 : .pins ∈ ps)
    (h : Frame ps a b) : Frame ps a { b with powered := v0, rst := v1, pins := v2 } := by
  intro q hq; have x := h q hq
  cases q <;> first | exact x | exact absurd h0 hq | exact absurd h1 hq | exact absurd h2 hq

theorem Frame.set_raster {ps : List Part} {a b : State} {v0} (h0 : .raster ∈ ps)
    (h : Frame ps a b) : Frame ps a { b with raster := v0 } := by
  intro q hq; have x := h q hq
  cases q <;> first | exact x | exact absurd h0 hq

theorem Frame.set_regs {ps : List Part} {a b : State} {v0} (h0 : .objects ∈ ps)
    (h : Frame ps a b) : Frame ps a { b with regs := v0 } := by
  intro q hq; have x := h q hq
  cases q <;> first | exact x | exact absurd h0 hq

theorem Frame.set_regs_blobs {ps : List Part} {a b : State} {v0 v1} (h0 : .objects ∈ ps) (h1 : .texts ∈ ps)
    (h : Frame ps a b) : Frame ps a { b with regs := v0, blobs := v1 } := by
  intro q hq; have x := h q hq
  cases q <;> first | exact x | exact absurd h0 hq | exact absurd h1 hq

theorem Frame.set_regs_blobs_settings_rst_net_upd_ports {ps : List Part} {a b : State} {v0 v1 v2 v3 v4 v5 v6} (h0 : .objects ∈ ps) (h1 : .texts ∈ ps) (h2 : .resets ∈ ps) (h3 : .network ∈ ps) (h4 : .update ∈ ps) (h5 : .ports ∈ ps)
    (h : Frame ps a b) : Frame ps a { b with regs := v0, blobs := v1, settings := v2, rst := v3, net := v4, upd := v5, ports := v6 } := by
  intro q hq; have x := h q hq
  cases q <;> first | exact x | exact absurd h0 hq | exact absurd h1 hq | exact absurd h2 hq | exact absurd h3 hq | exact absurd h4 hq | exact absurd h5 hq

theorem Frame.set_regs_energy {ps : List Part} {a b : State} {v0 v1} (h0 : .objects ∈ ps) (h1 : .energy ∈ ps)
    (h : Frame ps a b) : Frame ps a { b with regs := v0, energy := v1 } := by
  intro q hq; have x := h q hq
  cases q <;> first | exact x | exact absurd h0 hq | exact absurd h1 hq

theorem Frame.set_regs_settings {ps : List Part} {a b : State} {v0 v1} (h0 : .objects ∈ ps)
    (h : Frame ps a b) : Frame ps a { b with regs := v0, settings := v1 } := by
  intro q hq; have x := h q hq
  cases q <;> first | exact x | exact absurd h0 hq

theorem Frame.set_regs_shadow {ps : List Part} {a b : State} {v0 v1} (h0 : .objects ∈ ps) (h1 : .shadows ∈ ps)
    (h : Frame ps a b) : Frame ps a { b with regs := v0, shadow := v1 } := by
  intro q hq; have x := h q hq
  cases q <;> first | exact x | exact absurd h0 hq | exact absurd h1 hq

theorem Frame.set_regs_shadow_blobs_shadowBlobs_settings {ps : List Part} {a b : State} {v0 v1 v2 v3 v4} (h0 : .objects ∈ ps) (h1 : .shadows ∈ ps) (h2 : .texts ∈ ps)
    (h : Frame ps a b) : Frame ps a { b with regs := v0, shadow := v1, blobs := v2, shadowBlobs := v3, settings := v4 } := by
  intro q hq; have x := h q hq
  cases q <;> first | exact x | exact absurd h0 hq | exact absurd h1 hq | exact absurd h2 hq

theorem Frame.set_regs_shadow_blobs_shadowBlobs_staging_results {ps : List Part} {a b : State} {v0 v1 v2 v3 v4 v5} (h0 : .objects ∈ ps) (h1 : .shadows ∈ ps) (h2 : .texts ∈ ps) (h3 : .transfers ∈ ps) (h4 : .results ∈ ps)
    (h : Frame ps a b) : Frame ps a { b with regs := v0, shadow := v1, blobs := v2, shadowBlobs := v3, staging := v4, results := v5 } := by
  intro q hq; have x := h q hq
  cases q <;> first | exact x | exact absurd h0 hq | exact absurd h1 hq | exact absurd h2 hq | exact absurd h3 hq | exact absurd h4 hq

theorem Frame.set_regs_touchQ_noteQ {ps : List Part} {a b : State} {v0 v1 v2} (h0 : .objects ∈ ps) (h1 : .touchQueues ∈ ps) (h2 : .records ∈ ps)
    (h : Frame ps a b) : Frame ps a { b with regs := v0, touchQ := v1, noteQ := v2 } := by
  intro q hq; have x := h q hq
  cases q <;> first | exact x | exact absurd h0 hq | exact absurd h1 hq | exact absurd h2 hq

theorem Frame.set_results {ps : List Part} {a b : State} {v0} (h0 : .results ∈ ps)
    (h : Frame ps a b) : Frame ps a { b with results := v0 } := by
  intro q hq; have x := h q hq
  cases q <;> first | exact x | exact absurd h0 hq

theorem Frame.set_rst {ps : List Part} {a b : State} {v0} (h0 : .resets ∈ ps)
    (h : Frame ps a b) : Frame ps a { b with rst := v0 } := by
  intro q hq; have x := h q hq
  cases q <;> first | exact x | exact absurd h0 hq

theorem Frame.set_rst_sec {ps : List Part} {a b : State} {v0 v1} (h0 : .resets ∈ ps) (h1 : .secure ∈ ps)
    (h : Frame ps a b) : Frame ps a { b with rst := v0, sec := v1 } := by
  intro q hq; have x := h q hq
  cases q <;> first | exact x | exact absurd h0 hq | exact absurd h1 hq

theorem Frame.set_rst_upd {ps : List Part} {a b : State} {v0 v1} (h0 : .resets ∈ ps) (h1 : .update ∈ ps)
    (h : Frame ps a b) : Frame ps a { b with rst := v0, upd := v1 } := by
  intro q hq; have x := h q hq
  cases q <;> first | exact x | exact absurd h0 hq | exact absurd h1 hq

theorem Frame.set_sec {ps : List Part} {a b : State} {v0} (h0 : .secure ∈ ps)
    (h : Frame ps a b) : Frame ps a { b with sec := v0 } := by
  intro q hq; have x := h q hq
  cases q <;> first | exact x | exact absurd h0 hq

theorem Frame.set_settings {ps : List Part} {a b : State} {v0} (h0 : .objects ∈ ps)
    (h : Frame ps a b) : Frame ps a { b with settings := v0 } := by
  intro q hq; have x := h q hq
  cases q <;> first | exact x | exact absurd h0 hq

theorem Frame.set_settings_rst {ps : List Part} {a b : State} {v0 v1} (h0 : .objects ∈ ps) (h1 : .resets ∈ ps)
    (h : Frame ps a b) : Frame ps a { b with settings := v0, rst := v1 } := by
  intro q hq; have x := h q hq
  cases q <;> first | exact x | exact absurd h0 hq | exact absurd h1 hq

theorem Frame.set_settings_translator_slices_ports_touchQ_noteQ {ps : List Part} {a b : State} {v0 v1 v2 v3 v4 v5} (h0 : .objects ∈ ps) (h1 : .translator ∈ ps) (h2 : .slices ∈ ps) (h3 : .ports ∈ ps) (h4 : .touchQueues ∈ ps) (h5 : .records ∈ ps)
    (h : Frame ps a b) : Frame ps a { b with settings := v0, translator := v1, slices := v2, ports := v3, touchQ := v4, noteQ := v5 } := by
  intro q hq; have x := h q hq
  cases q <;> first | exact x | exact absurd h0 hq | exact absurd h1 hq | exact absurd h2 hq | exact absurd h3 hq | exact absurd h4 hq | exact absurd h5 hq

theorem Frame.set_settings_upd {ps : List Part} {a b : State} {v0 v1} (h0 : .objects ∈ ps) (h1 : .update ∈ ps)
    (h : Frame ps a b) : Frame ps a { b with settings := v0, upd := v1 } := by
  intro q hq; have x := h q hq
  cases q <;> first | exact x | exact absurd h0 hq | exact absurd h1 hq

theorem Frame.set_shadow {ps : List Part} {a b : State} {v0} (h0 : .shadows ∈ ps)
    (h : Frame ps a b) : Frame ps a { b with shadow := v0 } := by
  intro q hq; have x := h q hq
  cases q <;> first | exact x | exact absurd h0 hq

theorem Frame.set_shadow_blobs_shadowBlobs {ps : List Part} {a b : State} {v0 v1 v2} (h0 : .shadows ∈ ps) (h1 : .texts ∈ ps)
    (h : Frame ps a b) : Frame ps a { b with shadow := v0, blobs := v1, shadowBlobs := v2 } := by
  intro q hq; have x := h q hq
  cases q <;> first | exact x | exact absurd h0 hq | exact absurd h1 hq

theorem Frame.set_shadow_shadowBlobs {ps : List Part} {a b : State} {v0 v1} (h0 : .shadows ∈ ps)
    (h : Frame ps a b) : Frame ps a { b with shadow := v0, shadowBlobs := v1 } := by
  intro q hq; have x := h q hq
  cases q <;> first | exact x | exact absurd h0 hq

theorem Frame.set_shadowBlobs_blobRev {ps : List Part} {a b : State} {v0 v1} (h0 : .shadows ∈ ps) (h1 : .texts ∈ ps)
    (h : Frame ps a b) : Frame ps a { b with shadowBlobs := v0, blobRev := v1 } := by
  intro q hq; have x := h q hq
  cases q <;> first | exact x | exact absurd h0 hq | exact absurd h1 hq

theorem Frame.set_slices {ps : List Part} {a b : State} {v0} (h0 : .slices ∈ ps)
    (h : Frame ps a b) : Frame ps a { b with slices := v0 } := by
  intro q hq; have x := h q hq
  cases q <;> first | exact x | exact absurd h0 hq

theorem Frame.set_snapshots {ps : List Part} {a b : State} {v0} (h0 : .transfers ∈ ps)
    (h : Frame ps a b) : Frame ps a { b with snapshots := v0 } := by
  intro q hq; have x := h q hq
  cases q <;> first | exact x | exact absurd h0 hq

theorem Frame.set_staging {ps : List Part} {a b : State} {v0} (h0 : .transfers ∈ ps)
    (h : Frame ps a b) : Frame ps a { b with staging := v0 } := by
  intro q hq; have x := h q hq
  cases q <;> first | exact x | exact absurd h0 hq

theorem Frame.set_staging_settings_snapshots_subscriptions_net_hwLogQ_alarmQ_alarms_logRings_peerLevel {ps : List Part} {a b : State} {v0 v1 v2 v3 v4 v5 v6 v7 v8 v9} (h0 : .transfers ∈ ps) (h1 : .objects ∈ ps) (h2 : .network ∈ ps) (h3 : .records ∈ ps)
    (h : Frame ps a b) : Frame ps a { b with staging := v0, settings := v1, snapshots := v2, subscriptions := v3, net := v4, hwLogQ := v5, alarmQ := v6, alarms := v7, logRings := v8, peerLevel := v9 } := by
  intro q hq; have x := h q hq
  cases q <;> first | exact x | exact absurd h0 hq | exact absurd h1 hq | exact absurd h2 hq | exact absurd h3 hq

theorem Frame.set_stationLogQ {ps : List Part} {a b : State} {v0} (h0 : .records ∈ ps)
    (h : Frame ps a b) : Frame ps a { b with stationLogQ := v0 } := by
  intro q hq; have x := h q hq
  cases q <;> first | exact x | exact absurd h0 hq

theorem Frame.set_stn {ps : List Part} {a b : State} {v0} (h0 : .stations ∈ ps)
    (h : Frame ps a b) : Frame ps a { b with stn := v0 } := by
  intro q hq; have x := h q hq
  cases q <;> first | exact x | exact absurd h0 hq

theorem Frame.set_subscriptions {ps : List Part} {a b : State} {v0} (h0 : .objects ∈ ps)
    (h : Frame ps a b) : Frame ps a { b with subscriptions := v0 } := by
  intro q hq; have x := h q hq
  cases q <;> first | exact x | exact absurd h0 hq

theorem Frame.set_time {ps : List Part} {a b : State} {v0} (h0 : .clock ∈ ps)
    (h : Frame ps a b) : Frame ps a { b with time := v0 } := by
  intro q hq; have x := h q hq
  cases q <;> first | exact x | exact absurd h0 hq

theorem Frame.set_timers {ps : List Part} {a b : State} {v0} (h0 : .timers ∈ ps)
    (h : Frame ps a b) : Frame ps a { b with timers := v0 } := by
  intro q hq; have x := h q hq
  cases q <;> first | exact x | exact absurd h0 hq

theorem Frame.set_touch {ps : List Part} {a b : State} {v0} (h0 : .touch ∈ ps)
    (h : Frame ps a b) : Frame ps a { b with touch := v0 } := by
  intro q hq; have x := h q hq
  cases q <;> first | exact x | exact absurd h0 hq

theorem Frame.set_touchQ {ps : List Part} {a b : State} {v0} (h0 : .touchQueues ∈ ps)
    (h : Frame ps a b) : Frame ps a { b with touchQ := v0 } := by
  intro q hq; have x := h q hq
  cases q <;> first | exact x | exact absurd h0 hq

theorem Frame.set_translator {ps : List Part} {a b : State} {v0} (h0 : .translator ∈ ps)
    (h : Frame ps a b) : Frame ps a { b with translator := v0 } := by
  intro q hq; have x := h q hq
  cases q <;> first | exact x | exact absurd h0 hq

theorem Frame.set_upd {ps : List Part} {a b : State} {v0} (h0 : .update ∈ ps)
    (h : Frame ps a b) : Frame ps a { b with upd := v0 } := by
  intro q hq; have x := h q hq
  cases q <;> first | exact x | exact absurd h0 hq

end Sys2Proof.Machine
end

