-- ==== Sys2Proof/Laws/FrameShared.lean ====
section
/-! SUPPORT. Which parts of the state the functions of the shared operations leave alone. -/
namespace Sys2Proof.Machine

/-! ### Machine/Ops.lean -/

theorem State.noteSaved_frame {ps₀ : List Part} {s₀ : State} (s : State)
    (hs₀ : [.objects] ⊆ ps₀) (h₀ : Frame ps₀ s₀ s) :
    Frame ps₀ s₀ (State.noteSaved s) := by
  unfold State.noteSaved
  repeat' first
    | with_reducible assumption
    | (conv => arg 3; arg 50); with_reducible refine Frame.set_regs_settings (Part.lift hs₀ (by decide)) ?_
    | dsimp only

theorem State.noteChange_frame {ps₀ : List Part} {s₀ : State} (s : State) (r : ObjRow)
    (hs₀ : [.objects] ⊆ ps₀) (h₀ : Frame ps₀ s₀ s) :
    Frame ps₀ s₀ (State.noteChange s r) := by
  unfold State.noteChange
  repeat' first
    | with_reducible assumption
    | with_reducible apply State.noteSaved_frame (hs₀ := Part.tr (by decide) hs₀)
    | with_reducible refine Frame.ite ?_ ?_

theorem State.noteSubs_frame {ps₀ : List Part} {s₀ : State} (s : State) (k : OKey) (changed : Bool)
    (hs₀ : [.objects] ⊆ ps₀) (h₀ : Frame ps₀ s₀ s) :
    Frame ps₀ s₀ (State.noteSubs s k changed) := by
  unfold State.noteSubs
  repeat' first
    | with_reducible assumption
    | (conv => arg 3; arg 50); with_reducible refine Frame.set_subscriptions (Part.lift hs₀ (by decide)) ?_
    | with_reducible refine Frame.ite ?_ ?_

theorem State.wr_frame {ps₀ : List Part} {s₀ : State} (s : State) (r : ObjRow) (v : ℤ) (n : ℕ) (i : ℕ) (t : ℕ) (j : ℕ)
    (hs₀ : [.objects] ⊆ ps₀) (h₀ : Frame ps₀ s₀ s) :
    Frame ps₀ s₀ (State.wr s r v n i t j) := by
  unfold State.wr
  repeat' first
    | with_reducible assumption
    | with_reducible apply State.noteSubs_frame (hs₀ := Part.tr (by decide) hs₀)
    | with_reducible apply State.noteChange_frame (hs₀ := Part.tr (by decide) hs₀)
    | (conv => arg 3; arg 50); with_reducible refine Frame.set_regs (Part.lift hs₀ (by decide)) ?_

theorem State.wrB_frame {ps₀ : List Part} {s₀ : State} (s : State) (r : ObjRow) (v : Bool) (n : ℕ) (i : ℕ) (t : ℕ) (j : ℕ)
    (hs₀ : [.objects] ⊆ ps₀) (h₀ : Frame ps₀ s₀ s) :
    Frame ps₀ s₀ (State.wrB s r v n i t j) := by
  unfold State.wrB
  repeat' first
    | with_reducible assumption
    | with_reducible apply State.wr_frame (hs₀ := Part.tr (by decide) hs₀)

theorem State.wrShadow_frame {ps₀ : List Part} {s₀ : State} (s : State) (r : ObjRow) (v : ℤ) (n : ℕ) (i : ℕ) (t : ℕ) (j : ℕ)
    (hs₀ : [.objects, .shadows] ⊆ ps₀) (h₀ : Frame ps₀ s₀ s) :
    Frame ps₀ s₀ (State.wrShadow s r v n i t j) := by
  unfold State.wrShadow
  repeat' first
    | with_reducible assumption
    | with_reducible apply State.noteSubs_frame (hs₀ := Part.tr (by decide) hs₀)
    | (conv => arg 3; arg 50); with_reducible refine Frame.set_shadow (Part.lift hs₀ (by decide)) ?_

theorem State.count_frame {ps₀ : List Part} {s₀ : State} (s : State) (r : ObjRow) (n : ℕ) (i : ℕ) (t : ℕ) (j : ℕ) (by_ : ℕ)
    (hs₀ : [.objects] ⊆ ps₀) (h₀ : Frame ps₀ s₀ s) :
    Frame ps₀ s₀ (State.count s r n i t j by_) := by
  unfold State.count
  repeat' first
    | with_reducible assumption
    | with_reducible apply State.wr_frame (hs₀ := Part.tr (by decide) hs₀)

theorem State.advance_frame {ps₀ : List Part} {s₀ : State} (s : State) (r : ObjRow) (n : ℕ) (i : ℕ) (t : ℕ) (j : ℕ)
    (hs₀ : [.objects] ⊆ ps₀) (h₀ : Frame ps₀ s₀ s) :
    Frame ps₀ s₀ (State.advance s r n i t j) := by
  unfold State.advance
  repeat' first
    | with_reducible assumption
    | with_reducible apply State.wr_frame (hs₀ := Part.tr (by decide) hs₀)

theorem State.total_frame {ps₀ : List Part} {s₀ : State} (s : State) (r : ObjRow) (amount : ℕ) (n : ℕ) (i : ℕ) (t : ℕ) (j : ℕ)
    (hs₀ : [.objects] ⊆ ps₀) (h₀ : Frame ps₀ s₀ s) :
    Frame ps₀ s₀ (State.total s r amount n i t j) := by
  unfold State.total
  repeat' first
    | with_reducible assumption
    | with_reducible apply State.wr_frame (hs₀ := Part.tr (by decide) hs₀)

theorem State.wrBlob_frame {ps₀ : List Part} {s₀ : State} (s : State) (r : ObjRow) (b : Bytes) (n : ℕ) (i : ℕ) (t : ℕ) (j : ℕ)
    (hs₀ : [.objects, .texts] ⊆ ps₀) (h₀ : Frame ps₀ s₀ s) :
    Frame ps₀ s₀ (State.wrBlob s r b n i t j) := by
  unfold State.wrBlob
  repeat' first
    | with_reducible assumption
    | with_reducible apply State.noteChange_frame (hs₀ := Part.tr (by decide) hs₀)
    | (conv => arg 3; arg 50); with_reducible refine Frame.set_blobs_blobRev (Part.lift hs₀ (by decide)) ?_

theorem State.commitRow_frame {ps₀ : List Part} {s₀ : State} (s : State) (r : ObjRow) (n : ℕ)
    (hs₀ : [.objects] ⊆ ps₀) (h₀ : Frame ps₀ s₀ s) :
    Frame ps₀ s₀ (State.commitRow s r n) := by
  unfold State.commitRow
  repeat' first
    | with_reducible assumption
    | with_reducible apply State.wr_frame (hs₀ := Part.tr (by decide) hs₀)
    | with_reducible refine Frame.foldl (fun _ _ _ => ?_) ?_
    | split

theorem State.applyValues_frame {ps₀ : List Part} {s₀ : State} (s : State) (rows : List ObjRow) (n : ℕ) (l : List (ℕ × ℕ × ℕ × ℤ))
    (hs₀ : [.objects] ⊆ ps₀) (h₀ : Frame ps₀ s₀ s) :
    Frame ps₀ s₀ (State.applyValues s rows n l) := by
  unfold State.applyValues
  repeat' first
    | with_reducible assumption
    | with_reducible apply State.wr_frame (hs₀ := Part.tr (by decide) hs₀)
    | with_reducible refine Frame.foldl (fun _ _ _ => ?_) ?_
    | split

theorem State.dropShadow_frame {ps₀ : List Part} {s₀ : State} (s : State) (r : ObjRow) (n : ℕ) (i : ℕ) (j : ℕ)
    (hs₀ : [.shadows] ⊆ ps₀) (h₀ : Frame ps₀ s₀ s) :
    Frame ps₀ s₀ (State.dropShadow s r n i j) := by
  unfold State.dropShadow
  repeat' first
    | with_reducible assumption
    | (conv => arg 3; arg 50); with_reducible refine Frame.set_shadow (Part.lift hs₀ (by decide)) ?_

theorem State.toDefault_frame {ps₀ : List Part} {s₀ : State} (s : State) (r : ObjRow) (n : ℕ) (i : ℕ) (t : ℕ) (j : ℕ)
    (hs₀ : [.objects, .shadows] ⊆ ps₀) (h₀ : Frame ps₀ s₀ s) :
    Frame ps₀ s₀ (State.toDefault s r n i t j) := by
  unfold State.toDefault
  repeat' first
    | with_reducible assumption
    | (conv => arg 3; arg 50); with_reducible refine Frame.set_regs_shadow (Part.lift hs₀ (by decide)) (Part.lift hs₀ (by decide)) ?_

theorem State.drawNat_frame {ps₀ : List Part} {s₀ : State} (s : State) (m : ℕ)
    (hs₀ : [.free] ⊆ ps₀) (h₀ : Frame ps₀ s₀ s) :
    Frame ps₀ s₀ (State.drawNat s m).2 := by
  unfold State.drawNat
  repeat' first
    | with_reducible assumption
    | (conv => arg 3; arg 50); with_reducible refine Frame.set_free (Part.lift hs₀ (by decide)) ?_
    | dsimp only

theorem State.drawNat_out {ps₀ : List Part} {s₀ : State} (s : State) (m : ℕ) {y₀ z₀}
    (hs₀ : [.free] ⊆ ps₀) (e₀ : State.drawNat s m = (y₀, z₀)) (h₀ : Frame ps₀ s₀ s) : Frame ps₀ s₀ z₀ := by
  have x₀ := State.drawNat_frame s m hs₀ h₀; rw [e₀] at x₀; exact x₀

theorem State.drawBytes_frame {ps₀ : List Part} {s₀ : State} (s : State) (k : ℕ)
    (hs₀ : [.free] ⊆ ps₀) (h₀ : Frame ps₀ s₀ s) :
    Frame ps₀ s₀ (State.drawBytes s k).2 := by
  unfold State.drawBytes
  repeat' first
    | with_reducible assumption
    | (conv => arg 3; arg 50); with_reducible refine Frame.set_free (Part.lift hs₀ (by decide)) ?_
    | dsimp only

theorem State.drawBytes_out {ps₀ : List Part} {s₀ : State} (s : State) (k : ℕ) {y₀ z₀}
    (hs₀ : [.free] ⊆ ps₀) (e₀ : State.drawBytes s k = (y₀, z₀)) (h₀ : Frame ps₀ s₀ s) : Frame ps₀ s₀ z₀ := by
  have x₀ := State.drawBytes_frame s k hs₀ h₀; rw [e₀] at x₀; exact x₀

theorem State.emit_frame {ps₀ : List Part} {s₀ : State} (s : State) (e : Emission)
    (hs₀ : [.out] ⊆ ps₀) (h₀ : Frame ps₀ s₀ s) :
    Frame ps₀ s₀ (State.emit s e) := by
  unfold State.emit
  repeat' first
    | with_reducible assumption
    | (conv => arg 3; arg 50); with_reducible refine Frame.set_out (Part.lift hs₀ (by decide)) ?_

theorem State.startTimer_frame {ps₀ : List Part} {s₀ : State} (s : State) (k : Timer)
    (hs₀ : [.timers] ⊆ ps₀) (h₀ : Frame ps₀ s₀ s) :
    Frame ps₀ s₀ (State.startTimer s k) := by
  unfold State.startTimer
  repeat' first
    | with_reducible assumption
    | (conv => arg 3; arg 50); with_reducible refine Frame.set_timers (Part.lift hs₀ (by decide)) ?_

theorem State.acknowledged_frame {ps₀ : List Part} {s₀ : State} (s : State) (k : CrossKey) (c : Crossing)
    (hs₀ : [.free] ⊆ ps₀) (h₀ : Frame ps₀ s₀ s) :
    Frame ps₀ s₀ (State.acknowledged s k c).2 := by
  unfold State.acknowledged
  repeat' first
    | with_reducible assumption
    | with_reducible apply State.drawNat_frame (hs₀ := Part.tr (by decide) hs₀)
    | with_reducible refine Frame.iteSnd ?_ ?_

theorem State.acknowledged_out {ps₀ : List Part} {s₀ : State} (s : State) (k : CrossKey) (c : Crossing) {y₀ z₀}
    (hs₀ : [.free] ⊆ ps₀) (e₀ : State.acknowledged s k c = (y₀, z₀)) (h₀ : Frame ps₀ s₀ s) : Frame ps₀ s₀ z₀ := by
  have x₀ := State.acknowledged_frame s k c hs₀ h₀; rw [e₀] at x₀; exact x₀

theorem State.cross_frame {ps₀ : List Part} {s₀ : State} (s : State) (k : CrossKey) (v : ℕ)
    (hs₀ : [.crossings, .free] ⊆ ps₀) (h₀ : Frame ps₀ s₀ s) :
    Frame ps₀ s₀ (State.cross s k v).2 := by
  unfold State.cross
  repeat' first
    | with_reducible assumption
    | refine State.acknowledged_out (hs₀ := Part.tr (by decide) hs₀) (e₀ := by with_reducible assumption) (h₀ := ?_)
    | (conv => arg 3; arg 50); with_reducible refine Frame.set_crossings (Part.lift hs₀ (by decide)) ?_
    | dsimp only
    | split

theorem State.cross_out {ps₀ : List Part} {s₀ : State} (s : State) (k : CrossKey) (v : ℕ) {y₀ z₀}
    (hs₀ : [.crossings, .free] ⊆ ps₀) (e₀ : State.cross s k v = (y₀, z₀)) (h₀ : Frame ps₀ s₀ s) : Frame ps₀ s₀ z₀ := by
  have x₀ := State.cross_frame s k v hs₀ h₀; rw [e₀] at x₀; exact x₀

theorem State.settleCrossings_frame {ps₀ : List Part} {s₀ : State} (s : State)
    (hs₀ : [.crossings] ⊆ ps₀) (h₀ : Frame ps₀ s₀ s) :
    Frame ps₀ s₀ (State.settleCrossings s) := by
  unfold State.settleCrossings
  repeat' first
    | with_reducible assumption
    | (conv => arg 3; arg 50); with_reducible refine Frame.set_crossings (Part.lift hs₀ (by decide)) ?_

theorem State.dropCrossings_frame {ps₀ : List Part} {s₀ : State} (s : State) (mine : CrossKey → Bool)
    (hs₀ : [.crossings] ⊆ ps₀) (h₀ : Frame ps₀ s₀ s) :
    Frame ps₀ s₀ (State.dropCrossings s mine) := by
  unfold State.dropCrossings
  repeat' first
    | with_reducible assumption
    | (conv => arg 3; arg 50); with_reducible refine Frame.set_crossings (Part.lift hs₀ (by decide)) ?_

theorem State.firmware_frame {ps₀ : List Part} {s₀ : State} (s : State) (f : State → State)
    (hs₀ : [] ⊆ ps₀) (hf : ∀ x0, Frame ps₀ s₀ x0 → Frame ps₀ s₀ (f x0)) (h₀ : Frame ps₀ s₀ s) :
    Frame ps₀ s₀ (State.firmware s f) := by
  unfold State.firmware
  repeat' first
    | with_reducible assumption
    | with_reducible apply hf
    | with_reducible refine Frame.ite ?_ ?_

theorem State.pin_frame {ps₀ : List Part} {s₀ : State} (s : State) (name : String) (level : Bool) (n : ℕ)
    (hs₀ : [.out] ⊆ ps₀) (h₀ : Frame ps₀ s₀ s) :
    Frame ps₀ s₀ (State.pin s name level n) := by
  unfold State.pin
  repeat' first
    | with_reducible assumption
    | with_reducible apply State.emit_frame (hs₀ := Part.tr (by decide) hs₀)

theorem State.hold_frame {ps₀ : List Part} {s₀ : State} (s : State) (e : ℕ) (v : PinState) (n : ℕ)
    (hs₀ : [.pins] ⊆ ps₀) (h₀ : Frame ps₀ s₀ s) :
    Frame ps₀ s₀ (State.hold s e v n) := by
  unfold State.hold
  repeat' first
    | with_reducible assumption
    | (conv => arg 3; arg 50); with_reducible refine Frame.set_pins (Part.lift hs₀ (by decide)) ?_

theorem State.drive_frame {ps₀ : List Part} {s₀ : State} (s : State) (e : ℕ) (level : Bool) (n : ℕ)
    (hs₀ : [.pins, .out] ⊆ ps₀) (h₀ : Frame ps₀ s₀ s) :
    Frame ps₀ s₀ (State.drive s e level n) := by
  unfold State.drive
  repeat' first
    | with_reducible assumption
    | with_reducible apply State.hold_frame (hs₀ := Part.tr (by decide) hs₀)
    | with_reducible apply State.emit_frame (hs₀ := Part.tr (by decide) hs₀)

theorem State.pinsReset_frame {ps₀ : List Part} {s₀ : State} (s : State) (d : Domain)
    (hs₀ : [.pins] ⊆ ps₀) (h₀ : Frame ps₀ s₀ s) :
    Frame ps₀ s₀ (State.pinsReset s d) := by
  unfold State.pinsReset
  repeat' first
    | with_reducible assumption
    | with_reducible apply State.hold_frame (hs₀ := Part.tr (by decide) hs₀)
    | with_reducible refine Frame.foldl (fun _ _ _ => ?_) ?_

theorem State.wave_frame {ps₀ : List Part} {s₀ : State} (s : State) (e : ℕ) (on : Bool) (n : ℕ)
    (hs₀ : [.pins] ⊆ ps₀) (h₀ : Frame ps₀ s₀ s) :
    Frame ps₀ s₀ (State.wave s e on n) := by
  unfold State.wave
  repeat' first
    | with_reducible assumption
    | with_reducible apply State.hold_frame (hs₀ := Part.tr (by decide) hs₀)

theorem State.store_frame {ps₀ : List Part} {s₀ : State} (s : State) (n : ℕ) (addr : ℕ) (b : Bytes)
    (hs₀ : [.memory] ⊆ ps₀) (h₀ : Frame ps₀ s₀ s) :
    Frame ps₀ s₀ (State.store s n addr b) := by
  unfold State.store
  repeat' first
    | with_reducible assumption
    | (conv => arg 3; arg 50); with_reducible refine Frame.set_mem_lostCells (Part.lift hs₀ (by decide)) ?_
    | dsimp only

theorem State.eraseMem_frame {ps₀ : List Part} {s₀ : State} (s : State) (n : ℕ)
    (hs₀ : [.memory] ⊆ ps₀) (h₀ : Frame ps₀ s₀ s) :
    Frame ps₀ s₀ (State.eraseMem s n) := by
  unfold State.eraseMem
  repeat' first
    | with_reducible assumption
    | (conv => arg 3; arg 50); with_reducible refine Frame.set_mem_lostCells (Part.lift hs₀ (by decide)) ?_

theorem State.setRas_frame {ps₀ : List Part} {s₀ : State} (s : State) (n : ℕ) (v : Raster)
    (hs₀ : [.raster] ⊆ ps₀) (h₀ : Frame ps₀ s₀ s) :
    Frame ps₀ s₀ (State.setRas s n v) := by
  unfold State.setRas
  repeat' first
    | with_reducible assumption
    | (conv => arg 3; arg 50); with_reducible refine Frame.set_raster (Part.lift hs₀ (by decide)) ?_

theorem State.setCmp_frame {ps₀ : List Part} {s₀ : State} (s : State) (n : ℕ) (v : Compositor)
    (hs₀ : [.compositor] ⊆ ps₀) (h₀ : Frame ps₀ s₀ s) :
    Frame ps₀ s₀ (State.setCmp s n v) := by
  unfold State.setCmp
  repeat' first
    | with_reducible assumption
    | (conv => arg 3; arg 50); with_reducible refine Frame.set_comp (Part.lift hs₀ (by decide)) ?_

theorem State.setGrd_frame {ps₀ : List Part} {s₀ : State} (s : State) (n : ℕ) (v : Guard)
    (hs₀ : [.guard] ⊆ ps₀) (h₀ : Frame ps₀ s₀ s) :
    Frame ps₀ s₀ (State.setGrd s n v) := by
  unfold State.setGrd
  repeat' first
    | with_reducible assumption
    | (conv => arg 3; arg 50); with_reducible refine Frame.set_guard (Part.lift hs₀ (by decide)) ?_

theorem State.setDsp_frame {ps₀ : List Part} {s₀ : State} (s : State) (n : ℕ) (v : Display)
    (hs₀ : [.display] ⊆ ps₀) (h₀ : Frame ps₀ s₀ s) :
    Frame ps₀ s₀ (State.setDsp s n v) := by
  unfold State.setDsp
  repeat' first
    | with_reducible assumption
    | (conv => arg 3; arg 50); with_reducible refine Frame.set_disp (Part.lift hs₀ (by decide)) ?_

theorem State.setTch_frame {ps₀ : List Part} {s₀ : State} (s : State) (n : ℕ) (v : Touch)
    (hs₀ : [.touch] ⊆ ps₀) (h₀ : Frame ps₀ s₀ s) :
    Frame ps₀ s₀ (State.setTch s n v) := by
  unfold State.setTch
  repeat' first
    | with_reducible assumption
    | (conv => arg 3; arg 50); with_reducible refine Frame.set_touch (Part.lift hs₀ (by decide)) ?_

theorem State.setHap_frame {ps₀ : List Part} {s₀ : State} (s : State) (n : ℕ) (v : Haptic)
    (hs₀ : [.haptic] ⊆ ps₀) (h₀ : Frame ps₀ s₀ s) :
    Frame ps₀ s₀ (State.setHap s n v) := by
  unfold State.setHap
  repeat' first
    | with_reducible assumption
    | (conv => arg 3; arg 50); with_reducible refine Frame.set_haptic (Part.lift hs₀ (by decide)) ?_

theorem State.setCtl_frame {ps₀ : List Part} {s₀ : State} (s : State) (n : ℕ) (v : StationCtl)
    (hs₀ : [.stations] ⊆ ps₀) (h₀ : Frame ps₀ s₀ s) :
    Frame ps₀ s₀ (State.setCtl s n v) := by
  unfold State.setCtl
  repeat' first
    | with_reducible assumption
    | (conv => arg 3; arg 50); with_reducible refine Frame.set_stn (Part.lift hs₀ (by decide)) ?_

theorem State.setMmc_frame {ps₀ : List Part} {s₀ : State} (s : State) (n : ℕ) (v : MemCtl)
    (hs₀ : [.memctl] ⊆ ps₀) (h₀ : Frame ps₀ s₀ s) :
    Frame ps₀ s₀ (State.setMmc s n v) := by
  unfold State.setMmc
  repeat' first
    | with_reducible assumption
    | (conv => arg 3; arg 50); with_reducible refine Frame.set_memc (Part.lift hs₀ (by decide)) ?_

theorem State.setAud_frame {ps₀ : List Part} {s₀ : State} (s : State) (n : ℕ) (v : Audio)
    (hs₀ : [.audio] ⊆ ps₀) (h₀ : Frame ps₀ s₀ s) :
    Frame ps₀ s₀ (State.setAud s n v) := by
  unfold State.setAud
  repeat' first
    | with_reducible assumption
    | (conv => arg 3; arg 50); with_reducible refine Frame.set_audio (Part.lift hs₀ (by decide)) ?_

theorem State.setSlc_frame {ps₀ : List Part} {s₀ : State} (s : State) (t : ℕ) (v : Slice)
    (hs₀ : [.slices] ⊆ ps₀) (h₀ : Frame ps₀ s₀ s) :
    Frame ps₀ s₀ (State.setSlc s t v) := by
  unfold State.setSlc
  repeat' first
    | with_reducible assumption
    | (conv => arg 3; arg 50); with_reducible refine Frame.set_slices (Part.lift hs₀ (by decide)) ?_

theorem State.setPrt_frame {ps₀ : List Part} {s₀ : State} (s : State) (p : ℕ) (v : HostPort)
    (hs₀ : [.ports] ⊆ ps₀) (h₀ : Frame ps₀ s₀ s) :
    Frame ps₀ s₀ (State.setPrt s p v) := by
  unfold State.setPrt
  repeat' first
    | with_reducible assumption
    | (conv => arg 3; arg 50); with_reducible refine Frame.set_ports (Part.lift hs₀ (by decide)) ?_

theorem State.setCvu_frame {ps₀ : List Part} {s₀ : State} (s : State) (u : ℕ) (v : CvUnit)
    (hs₀ : [.checks] ⊆ ps₀) (h₀ : Frame ps₀ s₀ s) :
    Frame ps₀ s₀ (State.setCvu s u v) := by
  unfold State.setCvu
  repeat' first
    | with_reducible assumption
    | (conv => arg 3; arg 50); with_reducible refine Frame.set_cv (Part.lift hs₀ (by decide)) ?_

/-! ### Machine/Queues.lean -/

theorem State.countTenantItems_frame {ps₀ : List Part} {s₀ : State} (s : State) (t : ℕ)
    (hs₀ : [.objects] ⊆ ps₀) (h₀ : Frame ps₀ s₀ s) :
    Frame ps₀ s₀ (State.countTenantItems s t) := by
  unfold State.countTenantItems
  repeat' first
    | with_reducible assumption
    | with_reducible apply State.wr_frame (hs₀ := Part.tr (by decide) hs₀)

theorem State.toTenant_frame {ps₀ : List Part} {s₀ : State} (s : State) (t : ℕ) (r : Rec)
    (hs₀ : [.objects, .records] ⊆ ps₀) (h₀ : Frame ps₀ s₀ s) :
    Frame ps₀ s₀ (State.toTenant s t r) := by
  unfold State.toTenant
  repeat' first
    | with_reducible assumption
    | with_reducible apply State.countTenantItems_frame (hs₀ := Part.tr (by decide) hs₀)
    | with_reducible apply State.count_frame (hs₀ := Part.tr (by decide) hs₀)
    | (conv => arg 3; arg 50); with_reducible refine Frame.set_noteQ (Part.lift hs₀ (by decide)) ?_
    | with_reducible refine Frame.ite ?_ ?_

theorem State.touchToTenant_frame {ps₀ : List Part} {s₀ : State} (s : State) (t : ℕ) (r : TouchRec)
    (hs₀ : [.objects, .touchQueues] ⊆ ps₀) (h₀ : Frame ps₀ s₀ s) :
    Frame ps₀ s₀ (State.touchToTenant s t r) := by
  unfold State.touchToTenant
  repeat' first
    | with_reducible assumption
    | with_reducible apply State.countTenantItems_frame (hs₀ := Part.tr (by decide) hs₀)
    | with_reducible apply State.count_frame (hs₀ := Part.tr (by decide) hs₀)
    | (conv => arg 3; arg 50); with_reducible refine Frame.set_touchQ (Part.lift hs₀ (by decide)) ?_
    | with_reducible refine Frame.ite ?_ ?_

theorem State.toEnclave_frame {ps₀ : List Part} {s₀ : State} (s : State) (e : ℕ) (r : Rec)
    (hs₀ : [.objects, .records] ⊆ ps₀) (h₀ : Frame ps₀ s₀ s) :
    Frame ps₀ s₀ (State.toEnclave s e r) := by
  unfold State.toEnclave
  repeat' first
    | with_reducible assumption
    | with_reducible apply State.count_frame (hs₀ := Part.tr (by decide) hs₀)
    | (conv => arg 3; arg 50); with_reducible refine Frame.set_encNoteQ (Part.lift hs₀ (by decide)) ?_
    | with_reducible refine Frame.ite ?_ ?_

theorem State.touchToEnclave_frame {ps₀ : List Part} {s₀ : State} (s : State) (e : ℕ) (r : TouchRec)
    (hs₀ : [.objects, .touchQueues] ⊆ ps₀) (h₀ : Frame ps₀ s₀ s) :
    Frame ps₀ s₀ (State.touchToEnclave s e r) := by
  unfold State.touchToEnclave
  repeat' first
    | with_reducible assumption
    | with_reducible apply State.count_frame (hs₀ := Part.tr (by decide) hs₀)
    | (conv => arg 3; arg 50); with_reducible refine Frame.set_encTouchQ (Part.lift hs₀ (by decide)) ?_
    | with_reducible refine Frame.ite ?_ ?_

theorem State.toStationLog_frame {ps₀ : List Part} {s₀ : State} (s : State) (n : ℕ) (r : Rec)
    (hs₀ : [.objects, .records] ⊆ ps₀) (h₀ : Frame ps₀ s₀ s) :
    Frame ps₀ s₀ (State.toStationLog s n r) := by
  unfold State.toStationLog
  repeat' first
    | with_reducible assumption
    | with_reducible apply State.wr_frame (hs₀ := Part.tr (by decide) hs₀)
    | with_reducible apply State.count_frame (hs₀ := Part.tr (by decide) hs₀)
    | (conv => arg 3; arg 50); with_reducible refine Frame.set_stationLogQ (Part.lift hs₀ (by decide)) ?_
    | with_reducible refine Frame.ite ?_ ?_

theorem State.toHwLog_frame {ps₀ : List Part} {s₀ : State} (s : State) (r : Rec)
    (hs₀ : [.objects, .records] ⊆ ps₀) (h₀ : Frame ps₀ s₀ s) :
    Frame ps₀ s₀ (State.toHwLog s r) := by
  unfold State.toHwLog
  repeat' first
    | with_reducible assumption
    | with_reducible apply State.wr_frame (hs₀ := Part.tr (by decide) hs₀)
    | with_reducible apply State.count_frame (hs₀ := Part.tr (by decide) hs₀)
    | (conv => arg 3; arg 50); with_reducible refine Frame.set_hwLogQ (Part.lift hs₀ (by decide)) ?_
    | with_reducible refine Frame.ite ?_ ?_

theorem State.toHolder_frame {ps₀ : List Part} {s₀ : State} (s : State) (n : ℕ) (h : Holder) (r : Rec)
    (hs₀ : [.objects, .records] ⊆ ps₀) (h₀ : Frame ps₀ s₀ s) :
    Frame ps₀ s₀ (State.toHolder s n h r) := by
  unfold State.toHolder
  repeat' first
    | with_reducible assumption
    | with_reducible apply State.toTenant_frame (hs₀ := Part.tr (by decide) hs₀)
    | with_reducible apply State.toEnclave_frame (hs₀ := Part.tr (by decide) hs₀)
    | with_reducible apply State.toStationLog_frame (hs₀ := Part.tr (by decide) hs₀)
    | split

theorem State.alarmSummary_frame {ps₀ : List Part} {s₀ : State} (s : State)
    (hs₀ : [.objects, .pins, .out] ⊆ ps₀) (h₀ : Frame ps₀ s₀ s) :
    Frame ps₀ s₀ (State.alarmSummary s) := by
  unfold State.alarmSummary
  repeat' first
    | with_reducible assumption
    | with_reducible apply State.drive_frame (hs₀ := Part.tr (by decide) hs₀)
    | with_reducible apply State.wr_frame (hs₀ := Part.tr (by decide) hs₀)
    | with_reducible refine Frame.each (fun _ _ _ => ?_) ?_

theorem State.enterAlarm_frame {ps₀ : List Part} {s₀ : State} (s : State) (a : Alarm)
    (hs₀ : [.objects, .records, .pins, .out] ⊆ ps₀) (h₀ : Frame ps₀ s₀ s) :
    Frame ps₀ s₀ (State.enterAlarm s a) := by
  unfold State.enterAlarm
  repeat' first
    | with_reducible assumption
    | with_reducible apply State.wr_frame (hs₀ := Part.tr (by decide) hs₀)
    | with_reducible apply State.alarmSummary_frame (hs₀ := Part.tr (by decide) hs₀)
    | with_reducible apply State.count_frame (hs₀ := Part.tr (by decide) hs₀)
    | with_reducible apply State.emit_frame (hs₀ := Part.tr (by decide) hs₀)
    | (conv => arg 3; arg 50); with_reducible refine Frame.set_alarmQ_alarms (Part.lift hs₀ (by decide)) ?_
    | with_reducible refine Frame.ite ?_ ?_

theorem State.mergeAlarm_frame {ps₀ : List Part} {s₀ : State} (s : State) (a : Alarm)
    (hs₀ : [.objects, .records, .pins, .out] ⊆ ps₀) (h₀ : Frame ps₀ s₀ s) :
    Frame ps₀ s₀ (State.mergeAlarm s a) := by
  unfold State.mergeAlarm
  repeat' first
    | with_reducible assumption
    | with_reducible apply State.enterAlarm_frame (hs₀ := Part.tr (by decide) hs₀)
    | (conv => arg 3; arg 50); with_reducible refine Frame.set_alarms (Part.lift hs₀ (by decide)) ?_
    | with_reducible refine Frame.ite ?_ ?_
    | dsimp only
    | split

theorem State.noteInForce_frame {ps₀ : List Part} {s₀ : State} (s : State) (a : Alarm)
    (hs₀ : [.records] ⊆ ps₀) (h₀ : Frame ps₀ s₀ s) :
    Frame ps₀ s₀ (State.noteInForce s a) := by
  unfold State.noteInForce
  repeat' first
    | with_reducible assumption
    | (conv => arg 3; arg 50); with_reducible refine Frame.set_alarms (Part.lift hs₀ (by decide)) ?_
    | with_reducible refine Frame.ite ?_ ?_

theorem State.holdAlarm_frame {ps₀ : List Part} {s₀ : State} (s : State) (a : Alarm)
    (hs₀ : [.records] ⊆ ps₀) (h₀ : Frame ps₀ s₀ s) :
    Frame ps₀ s₀ (State.holdAlarm s a) := by
  unfold State.holdAlarm
  repeat' first
    | with_reducible assumption
    | (conv => arg 3; arg 50); with_reducible refine Frame.set_alarms (Part.lift hs₀ (by decide)) ?_
    | dsimp only

theorem State.alarm_frame {ps₀ : List Part} {s₀ : State} (s : State) (code : ℕ) (st : ℕ) (station : ℕ) (detail : ℕ)
    (hs₀ : [.objects, .records, .pins, .out] ⊆ ps₀) (h₀ : Frame ps₀ s₀ s) :
    Frame ps₀ s₀ (State.alarm s code st station detail) := by
  unfold State.alarm
  repeat' first
    | with_reducible assumption
    | with_reducible apply State.holdAlarm_frame (hs₀ := Part.tr (by decide) hs₀)
    | with_reducible apply State.mergeAlarm_frame (hs₀ := Part.tr (by decide) hs₀)
    | with_reducible apply State.alarmSummary_frame (hs₀ := Part.tr (by decide) hs₀)
    | with_reducible apply State.noteInForce_frame (hs₀ := Part.tr (by decide) hs₀)
    | with_reducible refine Frame.ite ?_ ?_

theorem State.clearAlarm_frame {ps₀ : List Part} {s₀ : State} (s : State) (code : ℕ) (station : ℕ) (detail : ℕ)
    (hs₀ : [.objects, .records, .pins, .out] ⊆ ps₀) (h₀ : Frame ps₀ s₀ s) :
    Frame ps₀ s₀ (State.clearAlarm s code station detail) := by
  unfold State.clearAlarm
  repeat' first
    | with_reducible assumption
    | with_reducible apply State.alarm_frame (hs₀ := Part.tr (by decide) hs₀)
    | with_reducible refine Frame.ite ?_ ?_

/-! ### Machine/Flags.lean -/

theorem State.startResult_frame {ps₀ : List Part} {s₀ : State} (s : State) (r : ObjRow) (who : Requester) (n : ℕ) (i : ℕ) (t : ℕ)
    (hs₀ : [.results] ⊆ ps₀) (h₀ : Frame ps₀ s₀ s) :
    Frame ps₀ s₀ (State.startResult s r who n i t) := by
  unfold State.startResult
  repeat' first
    | with_reducible assumption
    | (conv => arg 3; arg 50); with_reducible refine Frame.set_results (Part.lift hs₀ (by decide)) ?_
    | dsimp only

theorem State.resultReady_frame {ps₀ : List Part} {s₀ : State} (s : State) (k : OKey) (v : ResultSt)
    (hs₀ : [.objects, .records] ⊆ ps₀) (h₀ : Frame ps₀ s₀ s) :
    Frame ps₀ s₀ (State.resultReady s k v) := by
  unfold State.resultReady
  repeat' first
    | with_reducible assumption
    | with_reducible apply State.toTenant_frame (hs₀ := Part.tr (by decide) hs₀)
    | with_reducible apply State.toEnclave_frame (hs₀ := Part.tr (by decide) hs₀)
    | dsimp only
    | split

theorem State.completeResult_frame {ps₀ : List Part} {s₀ : State} (s : State) (r : ObjRow) (outcome : ℕ) (n : ℕ) (i : ℕ) (t : ℕ)
    (hs₀ : [.objects, .results, .records] ⊆ ps₀) (h₀ : Frame ps₀ s₀ s) :
    Frame ps₀ s₀ (State.completeResult s r outcome n i t) := by
  unfold State.completeResult
  repeat' first
    | with_reducible assumption
    | with_reducible apply State.resultReady_frame (hs₀ := Part.tr (by decide) hs₀)
    | (conv => arg 3; arg 50); with_reducible refine Frame.set_results (Part.lift hs₀ (by decide)) ?_

theorem State.finish_frame {ps₀ : List Part} {s₀ : State} (s : State) (r : ObjRow) (outcome : ℕ) (n : ℕ) (i : ℕ) (t : ℕ)
    (hs₀ : [.objects, .results, .records] ⊆ ps₀) (h₀ : Frame ps₀ s₀ s) :
    Frame ps₀ s₀ (State.finish s r outcome n i t) := by
  unfold State.finish
  repeat' first
    | with_reducible assumption
    | with_reducible apply State.completeResult_frame (hs₀ := Part.tr (by decide) hs₀)
    | with_reducible apply State.wr_frame (hs₀ := Part.tr (by decide) hs₀)

theorem State.hwReady_frame {ps₀ : List Part} {s₀ : State} (s : State) (k : ℕ) (b : Bool)
    (hs₀ : [.objects] ⊆ ps₀) (h₀ : Frame ps₀ s₀ s) :
    Frame ps₀ s₀ (State.hwReady s k b) := by
  unfold State.hwReady
  repeat' first
    | with_reducible assumption
    | with_reducible apply State.wr_frame (hs₀ := Part.tr (by decide) hs₀)

theorem State.stReady_frame {ps₀ : List Part} {s₀ : State} (s : State) (n : ℕ) (k : ℕ) (b : Bool)
    (hs₀ : [.objects] ⊆ ps₀) (h₀ : Frame ps₀ s₀ s) :
    Frame ps₀ s₀ (State.stReady s n k b) := by
  unfold State.stReady
  repeat' first
    | with_reducible assumption
    | with_reducible apply State.wr_frame (hs₀ := Part.tr (by decide) hs₀)

/-! ### Machine/Access.lean -/

theorem State.answer_frame {ps₀ : List Part} {s₀ : State} (s : State) (st : Status) (data : Bytes) (aux : ℕ)
    (hs₀ : [.out] ⊆ ps₀) (h₀ : Frame ps₀ s₀ s) :
    Frame ps₀ s₀ (State.answer s st data aux) := by
  unfold State.answer
  repeat' first
    | with_reducible assumption
    | with_reducible apply State.emit_frame (hs₀ := Part.tr (by decide) hs₀)

theorem State.syncZone_frame {ps₀ : List Part} {s₀ : State} (s : State) (n : ℕ) (z : ℕ)
    (hs₀ : [.objects] ⊆ ps₀) (h₀ : Frame ps₀ s₀ s) :
    Frame ps₀ s₀ (State.syncZone s n z) := by
  unfold State.syncZone
  repeat' first
    | with_reducible assumption
    | with_reducible apply State.wr_frame (hs₀ := Part.tr (by decide) hs₀)

theorem State.syncZones_frame {ps₀ : List Part} {s₀ : State} (s : State) (n : ℕ)
    (hs₀ : [.objects] ⊆ ps₀) (h₀ : Frame ps₀ s₀ s) :
    Frame ps₀ s₀ (State.syncZones s n) := by
  unfold State.syncZones
  repeat' first
    | with_reducible assumption
    | with_reducible apply State.syncZone_frame (hs₀ := Part.tr (by decide) hs₀)
    | with_reducible refine Frame.each (fun _ _ _ => ?_) ?_

theorem State.syncSecure_frame {ps₀ : List Part} {s₀ : State} (s : State) (n : ℕ)
    (hs₀ : [.objects] ⊆ ps₀) (h₀ : Frame ps₀ s₀ s) :
    Frame ps₀ s₀ (State.syncSecure s n) := by
  unfold State.syncSecure
  repeat' first
    | with_reducible assumption
    | with_reducible apply State.wr_frame (hs₀ := Part.tr (by decide) hs₀)
    | with_reducible refine Frame.each (fun _ _ _ => ?_) ?_

theorem State.countTagFault_frame {ps₀ : List Part} {s₀ : State} (s : State) (e : ℕ)
    (hs₀ : [.objects] ⊆ ps₀) (h₀ : Frame ps₀ s₀ s) :
    Frame ps₀ s₀ (State.countTagFault s e) := by
  unfold State.countTagFault
  repeat' first
    | with_reducible assumption
    | with_reducible apply State.count_frame (hs₀ := Part.tr (by decide) hs₀)

theorem State.setStation_frame {ps₀ : List Part} {s₀ : State} (s : State) (n : ℕ) (v : ℕ)
    (hs₀ : [.objects, .stations] ⊆ ps₀) (h₀ : Frame ps₀ s₀ s) :
    Frame ps₀ s₀ (State.setStation s n v) := by
  unfold State.setStation
  repeat' first
    | with_reducible assumption
    | with_reducible apply State.wr_frame (hs₀ := Part.tr (by decide) hs₀)
    | with_reducible apply State.setCtl_frame (hs₀ := Part.tr (by decide) hs₀)

theorem State.noteStation_frame {ps₀ : List Part} {s₀ : State} (s : State) (n : ℕ) (code : ℕ) (prio : ℕ) (fields : List (ℕ × ℕ))
    (hs₀ : [.objects, .records] ⊆ ps₀) (h₀ : Frame ps₀ s₀ s) :
    Frame ps₀ s₀ (State.noteStation s n code prio fields) := by
  unfold State.noteStation
  repeat' first
    | with_reducible assumption
    | with_reducible apply State.toTenant_frame (hs₀ := Part.tr (by decide) hs₀)
    | with_reducible apply State.toStationLog_frame (hs₀ := Part.tr (by decide) hs₀)
    | with_reducible refine Frame.each (fun _ _ _ => ?_) ?_

/-! ### Machine/Checks.lean -/

theorem State.onRequest_frame {ps₀ : List Part} {s₀ : State} (s : State) (who : Requester) (f : State → State)
    (hs₀ : [] ⊆ ps₀) (hf : ∀ x0, Frame ps₀ s₀ x0 → Frame ps₀ s₀ (f x0)) (h₀ : Frame ps₀ s₀ s) :
    Frame ps₀ s₀ (State.onRequest s who f) := by
  unfold State.onRequest
  repeat' first
    | with_reducible assumption
    | with_reducible apply hf
    | with_reducible refine Frame.ite ?_ ?_

theorem State.guarded_frame {ps₀ : List Part} {s₀ : State} (s : State) (c : Option Status) (f : State → State)
    (hs₀ : [.out] ⊆ ps₀) (hf : ∀ x0, Frame ps₀ s₀ x0 → Frame ps₀ s₀ (f x0)) (h₀ : Frame ps₀ s₀ s) :
    Frame ps₀ s₀ (State.guarded s c f) := by
  unfold State.guarded
  repeat' first
    | with_reducible assumption
    | with_reducible apply State.answer_frame (hs₀ := Part.tr (by decide) hs₀)
    | with_reducible apply hf
    | split

/-! ### Machine/CheckUnits.lean -/

theorem State.cvComplete_frame {ps₀ : List Part} {s₀ : State} (s : State) (u : ℕ)
    (hs₀ : [.objects, .results, .checks, .records] ⊆ ps₀) (h₀ : Frame ps₀ s₀ s) :
    Frame ps₀ s₀ (State.cvComplete s u) := by
  unfold State.cvComplete
  repeat' first
    | with_reducible assumption
    | with_reducible apply State.completeResult_frame (hs₀ := Part.tr (by decide) hs₀)
    | with_reducible apply State.wr_frame (hs₀ := Part.tr (by decide) hs₀)
    | with_reducible apply State.setCvu_frame (hs₀ := Part.tr (by decide) hs₀)
    | with_reducible apply State.startResult_frame (hs₀ := Part.tr (by decide) hs₀)
    | with_reducible apply State.count_frame (hs₀ := Part.tr (by decide) hs₀)
    | with_reducible refine Frame.ite ?_ ?_
    | dsimp only
    | split

theorem State.cvStart_frame {ps₀ : List Part} {s₀ : State} (s : State) (u : ℕ) (tag : ℕ)
    (hs₀ : [.objects, .results, .checks, .records] ⊆ ps₀) (h₀ : Frame ps₀ s₀ s) :
    Frame ps₀ s₀ (State.cvStart s u tag) := by
  unfold State.cvStart
  repeat' first
    | with_reducible assumption
    | with_reducible apply State.setCvu_frame (hs₀ := Part.tr (by decide) hs₀)
    | with_reducible apply State.cvComplete_frame (hs₀ := Part.tr (by decide) hs₀)
    | with_reducible refine Frame.ite ?_ ?_

theorem State.cvFeed_frame {ps₀ : List Part} {s₀ : State} (s : State) (u : ℕ) (bs : Bytes)
    (hs₀ : [.checks] ⊆ ps₀) (h₀ : Frame ps₀ s₀ s) :
    Frame ps₀ s₀ (State.cvFeed s u bs) := by
  unfold State.cvFeed
  repeat' first
    | with_reducible assumption
    | with_reducible apply State.setCvu_frame (hs₀ := Part.tr (by decide) hs₀)
    | with_reducible refine Frame.ite ?_ ?_

theorem State.cvEnd_frame {ps₀ : List Part} {s₀ : State} (s : State) (u : ℕ) (outcome : ℕ)
    (hs₀ : [.checks] ⊆ ps₀) (h₀ : Frame ps₀ s₀ s) :
    Frame ps₀ s₀ (State.cvEnd s u outcome) := by
  unfold State.cvEnd
  repeat' first
    | with_reducible assumption
    | with_reducible apply State.setCvu_frame (hs₀ := Part.tr (by decide) hs₀)
    | with_reducible refine Frame.ite ?_ ?_

theorem State.cvRun_frame {ps₀ : List Part} {s₀ : State} (s : State) (u : ℕ) (tag : ℕ) (bs : Bytes) (outcome : ℕ)
    (hs₀ : [.objects, .results, .checks, .records] ⊆ ps₀) (h₀ : Frame ps₀ s₀ s) :
    Frame ps₀ s₀ (State.cvRun s u tag bs outcome) := by
  unfold State.cvRun
  repeat' first
    | with_reducible assumption
    | with_reducible apply State.cvEnd_frame (hs₀ := Part.tr (by decide) hs₀)
    | with_reducible apply State.cvStart_frame (hs₀ := Part.tr (by decide) hs₀)
    | with_reducible apply State.cvFeed_frame (hs₀ := Part.tr (by decide) hs₀)

theorem State.cvBusUnit_frame {ps₀ : List Part} {s₀ : State} (s : State) (u : ℕ) (addr : ℕ) (bs : Bytes)
    (hs₀ : [.objects, .results, .checks, .records] ⊆ ps₀) (h₀ : Frame ps₀ s₀ s) :
    Frame ps₀ s₀ (State.cvBusUnit s u addr bs) := by
  unfold State.cvBusUnit
  repeat' first
    | with_reducible assumption
    | with_reducible apply State.cvEnd_frame (hs₀ := Part.tr (by decide) hs₀)
    | with_reducible apply State.cvStart_frame (hs₀ := Part.tr (by decide) hs₀)
    | with_reducible apply State.cvFeed_frame (hs₀ := Part.tr (by decide) hs₀)
    | with_reducible refine Frame.ite ?_ ?_

theorem State.cvBusWrite_frame {ps₀ : List Part} {s₀ : State} (s : State) (n : ℕ) (addr : ℕ) (bs : Bytes) (ingress : Bool)
    (hs₀ : [.objects, .results, .checks, .records] ⊆ ps₀) (h₀ : Frame ps₀ s₀ s) :
    Frame ps₀ s₀ (State.cvBusWrite s n addr bs ingress) := by
  unfold State.cvBusWrite
  repeat' first
    | with_reducible assumption
    | with_reducible apply State.cvBusUnit_frame (hs₀ := Part.tr (by decide) hs₀)
    | with_reducible refine Frame.ite ?_ ?_
    | with_reducible refine Frame.each (fun _ _ _ => ?_) ?_

theorem State.cvLine_frame {ps₀ : List Part} {s₀ : State} (s : State) (n : ℕ) (y : ℕ) (h : ℕ) (pixels : List ℕ)
    (hs₀ : [.objects, .results, .checks, .records] ⊆ ps₀) (h₀ : Frame ps₀ s₀ s) :
    Frame ps₀ s₀ (State.cvLine s n y h pixels) := by
  unfold State.cvLine
  repeat' first
    | with_reducible assumption
    | with_reducible apply State.cvEnd_frame (hs₀ := Part.tr (by decide) hs₀)
    | with_reducible apply State.cvStart_frame (hs₀ := Part.tr (by decide) hs₀)
    | with_reducible apply State.cvComplete_frame (hs₀ := Part.tr (by decide) hs₀)
    | with_reducible apply State.cvFeed_frame (hs₀ := Part.tr (by decide) hs₀)
    | with_reducible refine Frame.ite ?_ ?_

theorem State.cvSourceLost_frame {ps₀ : List Part} {s₀ : State} (s : State) (u : ℕ)
    (hs₀ : [.checks] ⊆ ps₀) (h₀ : Frame ps₀ s₀ s) :
    Frame ps₀ s₀ (State.cvSourceLost s u) := by
  unfold State.cvSourceLost
  repeat' first
    | with_reducible assumption
    | with_reducible apply State.cvEnd_frame (hs₀ := Part.tr (by decide) hs₀)
    | with_reducible refine Frame.ite ?_ ?_

theorem State.cvTransferStart_frame {ps₀ : List Part} {s₀ : State} (s : State) (n : ℕ) (t : ℕ) (q : ℕ) (jobId : ℕ)
    (hs₀ : [.objects, .results, .checks, .records] ⊆ ps₀) (h₀ : Frame ps₀ s₀ s) :
    Frame ps₀ s₀ (State.cvTransferStart s n t q jobId) := by
  unfold State.cvTransferStart
  repeat' first
    | with_reducible assumption
    | with_reducible apply State.cvStart_frame (hs₀ := Part.tr (by decide) hs₀)
    | with_reducible refine Frame.each (fun _ _ _ => ?_) ?_

theorem State.cvTransfer_frame {ps₀ : List Part} {s₀ : State} (s : State) (n : ℕ) (t : ℕ) (q : ℕ) (bs : Bytes) (ok : Bool)
    (hs₀ : [.checks] ⊆ ps₀) (h₀ : Frame ps₀ s₀ s) :
    Frame ps₀ s₀ (State.cvTransfer s n t q bs ok) := by
  unfold State.cvTransfer
  repeat' first
    | with_reducible assumption
    | with_reducible apply State.cvEnd_frame (hs₀ := Part.tr (by decide) hs₀)
    | with_reducible apply State.cvFeed_frame (hs₀ := Part.tr (by decide) hs₀)
    | with_reducible refine Frame.ite ?_ ?_
    | with_reducible refine Frame.each (fun _ _ _ => ?_) ?_

theorem State.cvTransfersLost_frame {ps₀ : List Part} {s₀ : State} (s : State) (t : ℕ)
    (hs₀ : [.checks] ⊆ ps₀) (h₀ : Frame ps₀ s₀ s) :
    Frame ps₀ s₀ (State.cvTransfersLost s t) := by
  unfold State.cvTransfersLost
  repeat' first
    | with_reducible assumption
    | with_reducible apply State.cvSourceLost_frame (hs₀ := Part.tr (by decide) hs₀)
    | with_reducible refine Frame.each (fun _ _ _ => ?_) ?_

theorem State.cvBlockFrame_frame {ps₀ : List Part} {s₀ : State} (s : State) (index : ℕ) (seq : ℕ) (bs : Bytes)
    (hs₀ : [.objects, .results, .checks, .records] ⊆ ps₀) (h₀ : Frame ps₀ s₀ s) :
    Frame ps₀ s₀ (State.cvBlockFrame s index seq bs) := by
  unfold State.cvBlockFrame
  repeat' first
    | with_reducible assumption
    | with_reducible apply State.cvStart_frame (hs₀ := Part.tr (by decide) hs₀)
    | with_reducible apply State.cvFeed_frame (hs₀ := Part.tr (by decide) hs₀)
    | with_reducible refine Frame.ite ?_ ?_
    | with_reducible refine Frame.each (fun _ _ _ => ?_) ?_

theorem State.cvPiece_frame {ps₀ : List Part} {s₀ : State} (s : State) (seq : ℕ) (bs : Bytes)
    (hs₀ : [.objects, .results, .checks, .records] ⊆ ps₀) (h₀ : Frame ps₀ s₀ s) :
    Frame ps₀ s₀ (State.cvPiece s seq bs) := by
  unfold State.cvPiece
  repeat' first
    | with_reducible assumption
    | with_reducible apply State.cvRun_frame (hs₀ := Part.tr (by decide) hs₀)
    | with_reducible refine Frame.ite ?_ ?_
    | with_reducible refine Frame.each (fun _ _ _ => ?_) ?_

theorem State.cvArm_frame {ps₀ : List Part} {s₀ : State} (s : State) (who : Requester) (u : ℕ)
    (hs₀ : [.results, .checks, .out] ⊆ ps₀) (h₀ : Frame ps₀ s₀ s) :
    Frame ps₀ s₀ (State.cvArm s who u) := by
  unfold State.cvArm
  repeat' first
    | with_reducible assumption
    | with_reducible apply State.onRequest_frame (hs₀ := Part.tr (by decide) hs₀)
    | with_reducible apply State.answer_frame (hs₀ := Part.tr (by decide) hs₀)
    | with_reducible apply State.setCvu_frame (hs₀ := Part.tr (by decide) hs₀)
    | with_reducible apply State.startResult_frame (hs₀ := Part.tr (by decide) hs₀)
    | with_reducible apply State.guarded_frame (hs₀ := Part.tr (by decide) hs₀)
    | with_reducible intro _

theorem State.cvAbortRun_frame {ps₀ : List Part} {s₀ : State} (s : State) (u : ℕ)
    (hs₀ : [.checks] ⊆ ps₀) (h₀ : Frame ps₀ s₀ s) :
    Frame ps₀ s₀ (State.cvAbortRun s u) := by
  unfold State.cvAbortRun
  repeat' first
    | with_reducible assumption
    | with_reducible apply State.cvEnd_frame (hs₀ := Part.tr (by decide) hs₀)

theorem execCvArm_frame {ps₀ : List Part} {s₀ t₀ : State} (who : Requester) (u : Fin 24) (s : State)
    (hs₀ : [.results, .checks, .out] ⊆ ps₀) (e₀ : execCvArm who u s = .next t₀) (h₀ : Frame ps₀ s₀ s) :
    Frame ps₀ s₀ t₀ := by
  unfold execCvArm at e₀
  cases e₀
  repeat' first
    | with_reducible assumption
    | with_reducible apply State.cvArm_frame (hs₀ := Part.tr (by decide) hs₀)

theorem execCvEnd_frame {ps₀ : List Part} {s₀ t₀ : State} (who : Requester) (u : Fin 24) (s : State)
    (hs₀ : [.checks, .out] ⊆ ps₀) (e₀ : execCvEnd who u s = .next t₀) (h₀ : Frame ps₀ s₀ s) :
    Frame ps₀ s₀ t₀ := by
  unfold execCvEnd at e₀
  cases e₀
  repeat' first
    | with_reducible assumption
    | with_reducible apply State.onRequest_frame (hs₀ := Part.tr (by decide) hs₀)
    | with_reducible apply State.answer_frame (hs₀ := Part.tr (by decide) hs₀)
    | with_reducible apply State.cvAbortRun_frame (hs₀ := Part.tr (by decide) hs₀)
    | with_reducible apply State.cvEnd_frame (hs₀ := Part.tr (by decide) hs₀)
    | with_reducible apply State.guarded_frame (hs₀ := Part.tr (by decide) hs₀)
    | with_reducible refine Frame.ite ?_ ?_
    | with_reducible intro _

theorem execCvAbort_frame {ps₀ : List Part} {s₀ t₀ : State} (who : Requester) (u : Fin 24) (s : State)
    (hs₀ : [.checks, .out] ⊆ ps₀) (e₀ : execCvAbort who u s = .next t₀) (h₀ : Frame ps₀ s₀ s) :
    Frame ps₀ s₀ t₀ := by
  unfold execCvAbort at e₀
  cases e₀
  repeat' first
    | with_reducible assumption
    | with_reducible apply State.onRequest_frame (hs₀ := Part.tr (by decide) hs₀)
    | with_reducible apply State.answer_frame (hs₀ := Part.tr (by decide) hs₀)
    | with_reducible apply State.cvAbortRun_frame (hs₀ := Part.tr (by decide) hs₀)
    | with_reducible apply State.guarded_frame (hs₀ := Part.tr (by decide) hs₀)
    | with_reducible intro _

theorem execCvRunComplete_frame {ps₀ : List Part} {s₀ t₀ : State} (u : Fin 24) (overflow : Bool) (s : State)
    (hs₀ : [.objects, .results, .checks, .records] ⊆ ps₀) (e₀ : execCvRunComplete u overflow s = .next t₀) (h₀ : Frame ps₀ s₀ s) :
    Frame ps₀ s₀ t₀ := by
  unfold execCvRunComplete at e₀
  cases e₀
  repeat' first
    | with_reducible assumption
    | with_reducible apply State.cvEnd_frame (hs₀ := Part.tr (by decide) hs₀)
    | with_reducible apply State.cvComplete_frame (hs₀ := Part.tr (by decide) hs₀)
    | with_reducible refine Frame.ite ?_ ?_

/-! ### Machine/MemAccess.lean -/

theorem State.noteTag_frame {ps₀ : List Part} {s₀ : State} (s : State) (n : ℕ) (a : ℕ) (len : ℕ) (tag : ℕ)
    (hs₀ : [.objects] ⊆ ps₀) (h₀ : Frame ps₀ s₀ s) :
    Frame ps₀ s₀ (State.noteTag s n a len tag) := by
  unfold State.noteTag
  repeat' first
    | with_reducible assumption
    | with_reducible apply State.countTagFault_frame (hs₀ := Part.tr (by decide) hs₀)
    | split

theorem State.unpoison_frame {ps₀ : List Part} {s₀ : State} (s : State) (n : ℕ) (a : ℕ) (len : ℕ)
    (hs₀ : [.memory] ⊆ ps₀) (h₀ : Frame ps₀ s₀ s) :
    Frame ps₀ s₀ (State.unpoison s n a len) := by
  unfold State.unpoison
  repeat' first
    | with_reducible assumption
    | (conv => arg 3; arg 50); with_reducible refine Frame.set_poison (Part.lift hs₀ (by decide)) ?_

theorem State.writeTagged_frame {ps₀ : List Part} {s₀ : State} (s : State) (n : ℕ) (a : ℕ) (b : Bytes) (tag : ℕ) (ingress : Bool)
    (hs₀ : [.objects, .results, .memory, .checks, .records] ⊆ ps₀) (h₀ : Frame ps₀ s₀ s) :
    Frame ps₀ s₀ (State.writeTagged s n a b tag ingress) := by
  unfold State.writeTagged
  repeat' first
    | with_reducible assumption
    | with_reducible apply State.cvBusWrite_frame (hs₀ := Part.tr (by decide) hs₀)
    | with_reducible apply State.store_frame (hs₀ := Part.tr (by decide) hs₀)
    | with_reducible apply State.unpoison_frame (hs₀ := Part.tr (by decide) hs₀)
    | with_reducible apply State.countTagFault_frame (hs₀ := Part.tr (by decide) hs₀)
    | with_reducible refine Frame.ite ?_ ?_
    | with_reducible refine Frame.each (fun _ _ _ => ?_) ?_
    | dsimp only
    | split

/-! ### Machine/Sets.lean -/

theorem State.activate_frame {ps₀ : List Part} {s₀ : State} (s : State) (n : ℕ) (k : SetId) (a : ArmedSet)
    (hs₀ : [.objects, .texts] ⊆ ps₀) (h₀ : Frame ps₀ s₀ s) :
    Frame ps₀ s₀ (State.activate s n k a) := by
  unfold State.activate
  repeat' first
    | with_reducible assumption
    | (conv => arg 3; arg 50); with_reducible refine Frame.set_regs_blobs (Part.lift hs₀ (by decide)) (Part.lift hs₀ (by decide)) ?_

theorem State.shadowFromActive_frame {ps₀ : List Part} {s₀ : State} (s : State) (n : ℕ) (k : SetId)
    (hs₀ : [.shadows] ⊆ ps₀) (h₀ : Frame ps₀ s₀ s) :
    Frame ps₀ s₀ (State.shadowFromActive s n k) := by
  unfold State.shadowFromActive
  repeat' first
    | with_reducible assumption
    | (conv => arg 3; arg 50); with_reducible refine Frame.set_shadow_shadowBlobs (Part.lift hs₀ (by decide)) ?_

theorem State.dropArmed_frame {ps₀ : List Part} {s₀ : State} (s : State) (n : ℕ) (k : SetId)
    (hs₀ : [.compositor] ⊆ ps₀) (h₀ : Frame ps₀ s₀ s) :
    Frame ps₀ s₀ (State.dropArmed s n k) := by
  unfold State.dropArmed
  repeat' first
    | with_reducible assumption
    | with_reducible apply State.setCmp_frame (hs₀ := Part.tr (by decide) hs₀)

theorem State.discardSet_frame {ps₀ : List Part} {s₀ : State} (s : State) (n : ℕ) (k : SetId)
    (hs₀ : [.shadows, .compositor] ⊆ ps₀) (h₀ : Frame ps₀ s₀ s) :
    Frame ps₀ s₀ (State.discardSet s n k) := by
  unfold State.discardSet
  repeat' first
    | with_reducible assumption
    | with_reducible apply State.shadowFromActive_frame (hs₀ := Part.tr (by decide) hs₀)
    | with_reducible apply State.dropArmed_frame (hs₀ := Part.tr (by decide) hs₀)

theorem State.defaultSet_frame {ps₀ : List Part} {s₀ : State} (s : State) (n : ℕ) (k : SetId) (activeToo : Bool)
    (hs₀ : [.objects, .shadows, .texts, .compositor] ⊆ ps₀) (h₀ : Frame ps₀ s₀ s) :
    Frame ps₀ s₀ (State.defaultSet s n k activeToo) := by
  unfold State.defaultSet
  repeat' first
    | with_reducible assumption
    | with_reducible apply State.dropArmed_frame (hs₀ := Part.tr (by decide) hs₀)
    | (conv => arg 3; arg 50); with_reducible refine Frame.set_regs_blobs (Part.lift hs₀ (by decide)) (Part.lift hs₀ (by decide)) ?_
    | (conv => arg 3; arg 50); with_reducible refine Frame.set_shadow_shadowBlobs (Part.lift hs₀ (by decide)) ?_
    | with_reducible refine Frame.ite ?_ ?_

theorem State.dropSuperseded_frame {ps₀ : List Part} {s₀ : State} (s : State) (n : ℕ)
    (hs₀ : [.objects, .compositor, .records] ⊆ ps₀) (h₀ : Frame ps₀ s₀ s) :
    Frame ps₀ s₀ (State.dropSuperseded s n) := by
  unfold State.dropSuperseded
  repeat' first
    | with_reducible assumption
    | with_reducible apply State.setCmp_frame (hs₀ := Part.tr (by decide) hs₀)
    | with_reducible apply State.toHolder_frame (hs₀ := Part.tr (by decide) hs₀)
    | with_reducible refine Frame.each (fun _ _ _ => ?_) ?_

theorem State.armSets_frame {ps₀ : List Part} {s₀ : State} (s : State) (n : ℕ) (who : Requester) (sets : List SetId)
    (hs₀ : [.objects, .compositor, .records] ⊆ ps₀) (h₀ : Frame ps₀ s₀ s) :
    Frame ps₀ s₀ (State.armSets s n who sets) := by
  unfold State.armSets
  repeat' first
    | with_reducible assumption
    | with_reducible apply State.setCmp_frame (hs₀ := Part.tr (by decide) hs₀)
    | with_reducible apply State.dropSuperseded_frame (hs₀ := Part.tr (by decide) hs₀)
    | with_reducible apply State.count_frame (hs₀ := Part.tr (by decide) hs₀)
    | with_reducible apply State.advance_frame (hs₀ := Part.tr (by decide) hs₀)
    | split

theorem State.stationEvent_frame {ps₀ : List Part} {s₀ : State} (s : State) (k : CrossKey) (n : ℕ)
    (hs₀ : [.objects, .crossings, .free] ⊆ ps₀) (h₀ : Frame ps₀ s₀ s) :
    Frame ps₀ s₀ (State.stationEvent s k n) := by
  unfold State.stationEvent
  repeat' first
    | with_reducible assumption
    | refine State.cross_out (hs₀ := Part.tr (by decide) hs₀) (e₀ := by with_reducible assumption) (h₀ := ?_)
    | with_reducible apply State.count_frame (hs₀ := Part.tr (by decide) hs₀)
    | split

theorem State.endEvent_frame {ps₀ : List Part} {s₀ : State} (s : State) (n : ℕ)
    (hs₀ : [.objects, .display, .crossings, .out, .free] ⊆ ps₀) (h₀ : Frame ps₀ s₀ s) :
    Frame ps₀ s₀ (State.endEvent s n) := by
  unfold State.endEvent
  repeat' first
    | with_reducible assumption
    | with_reducible apply State.stationEvent_frame (hs₀ := Part.tr (by decide) hs₀)
    | with_reducible apply State.setDsp_frame (hs₀ := Part.tr (by decide) hs₀)
    | with_reducible apply State.emit_frame (hs₀ := Part.tr (by decide) hs₀)
    | with_reducible refine Frame.ite ?_ ?_

theorem State.commitSets_frame {ps₀ : List Part} {s₀ : State} (s : State) (n : ℕ) (who : Requester) (sets : List SetId) (named : ℕ)
    (hs₀ : [.objects, .compositor, .display, .records, .crossings, .out, .free] ⊆ ps₀) (h₀ : Frame ps₀ s₀ s) :
    Frame ps₀ s₀ (State.commitSets s n who sets named).1 := by
  unfold State.commitSets
  repeat' first
    | with_reducible assumption
    | with_reducible apply State.toHolder_frame (hs₀ := Part.tr (by decide) hs₀)
    | with_reducible apply State.endEvent_frame (hs₀ := Part.tr (by decide) hs₀)
    | with_reducible apply State.count_frame (hs₀ := Part.tr (by decide) hs₀)
    | with_reducible apply State.armSets_frame (hs₀ := Part.tr (by decide) hs₀)
    | dsimp only
    | split

theorem State.commitSets_out {ps₀ : List Part} {s₀ : State} (s : State) (n : ℕ) (who : Requester) (sets : List SetId) (named : ℕ) {y₀ z₀}
    (hs₀ : [.objects, .compositor, .display, .records, .crossings, .out, .free] ⊆ ps₀) (e₀ : State.commitSets s n who sets named = (z₀, y₀)) (h₀ : Frame ps₀ s₀ s) : Frame ps₀ s₀ z₀ := by
  have x₀ := State.commitSets_frame s n who sets named hs₀ h₀; rw [e₀] at x₀; exact x₀

theorem State.layerCommit_frame {ps₀ : List Part} {s₀ : State} (s : State) (n : ℕ) (who : Requester) (mask : ℕ) (named : ℕ)
    (hs₀ : [.objects, .compositor, .display, .records, .crossings, .out, .free] ⊆ ps₀) (h₀ : Frame ps₀ s₀ s) :
    Frame ps₀ s₀ (State.layerCommit s n who mask named).1 := by
  unfold State.layerCommit
  repeat' first
    | with_reducible assumption
    | with_reducible apply State.commitSets_frame (hs₀ := Part.tr (by decide) hs₀)

theorem State.layerCommit_out {ps₀ : List Part} {s₀ : State} (s : State) (n : ℕ) (who : Requester) (mask : ℕ) (named : ℕ) {y₀ z₀}
    (hs₀ : [.objects, .compositor, .display, .records, .crossings, .out, .free] ⊆ ps₀) (e₀ : State.layerCommit s n who mask named = (z₀, y₀)) (h₀ : Frame ps₀ s₀ s) : Frame ps₀ s₀ z₀ := by
  have x₀ := State.layerCommit_frame s n who mask named hs₀ h₀; rw [e₀] at x₀; exact x₀

theorem State.guardCommit_frame {ps₀ : List Part} {s₀ : State} (s : State) (n : ℕ) (who : Requester) (mask : ℕ) (named : ℕ)
    (hs₀ : [.objects, .compositor, .display, .records, .crossings, .out, .free] ⊆ ps₀) (h₀ : Frame ps₀ s₀ s) :
    Frame ps₀ s₀ (State.guardCommit s n who mask named).1 := by
  unfold State.guardCommit
  repeat' first
    | with_reducible assumption
    | with_reducible apply State.commitSets_frame (hs₀ := Part.tr (by decide) hs₀)

theorem State.guardCommit_out {ps₀ : List Part} {s₀ : State} (s : State) (n : ℕ) (who : Requester) (mask : ℕ) (named : ℕ) {y₀ z₀}
    (hs₀ : [.objects, .compositor, .display, .records, .crossings, .out, .free] ⊆ ps₀) (e₀ : State.guardCommit s n who mask named = (z₀, y₀)) (h₀ : Frame ps₀ s₀ s) : Frame ps₀ s₀ z₀ := by
  have x₀ := State.guardCommit_frame s n who mask named hs₀ h₀; rw [e₀] at x₀; exact x₀

theorem State.latchSets_frame {ps₀ : List Part} {s₀ : State} (s : State) (n : ℕ) (frame : ℕ)
    (hs₀ : [.objects, .texts, .compositor, .guard, .records] ⊆ ps₀) (h₀ : Frame ps₀ s₀ s) :
    Frame ps₀ s₀ (State.latchSets s n frame).1 := by
  unfold State.latchSets
  repeat' first
    | with_reducible assumption
    | with_reducible apply State.setGrd_frame (hs₀ := Part.tr (by decide) hs₀)
    | with_reducible apply State.setCmp_frame (hs₀ := Part.tr (by decide) hs₀)
    | with_reducible apply State.toHolder_frame (hs₀ := Part.tr (by decide) hs₀)
    | with_reducible apply State.activate_frame (hs₀ := Part.tr (by decide) hs₀)
    | with_reducible apply State.count_frame (hs₀ := Part.tr (by decide) hs₀)
    | with_reducible refine Frame.each (fun _ _ _ => ?_) ?_
    | dsimp only
    | split

theorem State.latchSets_out {ps₀ : List Part} {s₀ : State} (s : State) (n : ℕ) (frame : ℕ) {y₀ z₀}
    (hs₀ : [.objects, .texts, .compositor, .guard, .records] ⊆ ps₀) (e₀ : State.latchSets s n frame = (z₀, y₀)) (h₀ : Frame ps₀ s₀ s) : Frame ps₀ s₀ z₀ := by
  have x₀ := State.latchSets_frame s n frame hs₀ h₀; rw [e₀] at x₀; exact x₀

theorem State.latchRevocations_frame {ps₀ : List Part} {s₀ : State} (s : State) (n : ℕ)
    (hs₀ : [.objects, .compositor, .slices, .records] ⊆ ps₀) (h₀ : Frame ps₀ s₀ s) :
    Frame ps₀ s₀ (State.latchRevocations s n) := by
  unfold State.latchRevocations
  repeat' first
    | with_reducible assumption
    | with_reducible apply State.wr_frame (hs₀ := Part.tr (by decide) hs₀)
    | with_reducible apply State.setCmp_frame (hs₀ := Part.tr (by decide) hs₀)
    | with_reducible apply State.toHolder_frame (hs₀ := Part.tr (by decide) hs₀)
    | with_reducible apply State.setSlc_frame (hs₀ := Part.tr (by decide) hs₀)
    | with_reducible apply State.count_frame (hs₀ := Part.tr (by decide) hs₀)
    | with_reducible refine Frame.each (fun _ _ _ => ?_) ?_
    | dsimp only
    | split

/-! ### Machine/SafeStore.lean -/

theorem State.putSafe_frame {ps₀ : List Part} {s₀ : State} (s : State) (n : ℕ) (b : Bytes)
    (hs₀ : [.objects, .texts, .compositor] ⊆ ps₀) (h₀ : Frame ps₀ s₀ s) :
    Frame ps₀ s₀ (State.putSafe s n b) := by
  unfold State.putSafe
  repeat' first
    | with_reducible assumption
    | with_reducible apply State.stReady_frame (hs₀ := Part.tr (by decide) hs₀)
    | with_reducible apply State.wr_frame (hs₀ := Part.tr (by decide) hs₀)
    | with_reducible apply State.setCmp_frame (hs₀ := Part.tr (by decide) hs₀)
    | with_reducible apply State.wrBlob_frame (hs₀ := Part.tr (by decide) hs₀)

theorem State.safeLoading_frame {ps₀ : List Part} {s₀ : State} (s : State) (n : ℕ) (b : Bytes)
    (hs₀ : [.objects, .guard] ⊆ ps₀) (h₀ : Frame ps₀ s₀ s) :
    Frame ps₀ s₀ (State.safeLoading s n b) := by
  unfold State.safeLoading
  repeat' first
    | with_reducible assumption
    | with_reducible apply State.stReady_frame (hs₀ := Part.tr (by decide) hs₀)
    | with_reducible apply State.setGrd_frame (hs₀ := Part.tr (by decide) hs₀)
    | with_reducible apply State.wr_frame (hs₀ := Part.tr (by decide) hs₀)

theorem State.safeChecked_frame {ps₀ : List Part} {s₀ : State} (s : State) (n : ℕ)
    (hs₀ : [.objects, .texts, .compositor, .guard] ⊆ ps₀) (h₀ : Frame ps₀ s₀ s) :
    Frame ps₀ s₀ (State.safeChecked s n) := by
  unfold State.safeChecked
  repeat' first
    | with_reducible assumption
    | with_reducible apply State.putSafe_frame (hs₀ := Part.tr (by decide) hs₀)
    | with_reducible apply State.setGrd_frame (hs₀ := Part.tr (by decide) hs₀)
    | dsimp only
    | split

/-! ### Machine/Compose.lean -/

theorem State.markParity_frame {ps₀ : List Part} {s₀ : State} (s : State) (n : ℕ) (y : ℕ) (errors : List (ℕ × ℕ))
    (hs₀ : [.objects, .guard] ⊆ ps₀) (h₀ : Frame ps₀ s₀ s) :
    Frame ps₀ s₀ (State.markParity s n y errors) := by
  unfold State.markParity
  repeat' first
    | with_reducible assumption
    | with_reducible apply State.setGrd_frame (hs₀ := Part.tr (by decide) hs₀)
    | with_reducible apply State.wr_frame (hs₀ := Part.tr (by decide) hs₀)
    | with_reducible apply State.count_frame (hs₀ := Part.tr (by decide) hs₀)
    | with_reducible refine Frame.each (fun _ _ _ => ?_) ?_

theorem State.takeTable_frame {ps₀ : List Part} {s₀ : State} (s : State) (n : ℕ)
    (hs₀ : [.objects, .compositor, .display, .crossings, .out, .free] ⊆ ps₀) (h₀ : Frame ps₀ s₀ s) :
    Frame ps₀ s₀ (State.takeTable s n) := by
  unfold State.takeTable
  repeat' first
    | with_reducible assumption
    | with_reducible apply State.setCmp_frame (hs₀ := Part.tr (by decide) hs₀)
    | with_reducible apply State.endEvent_frame (hs₀ := Part.tr (by decide) hs₀)
    | with_reducible refine Frame.ite ?_ ?_
    | dsimp only
    | split

theorem State.newTable_frame {ps₀ : List Part} {s₀ : State} (s : State) (n : ℕ) (t : List TableEntry)
    (hs₀ : [.objects, .compositor, .display, .crossings, .out, .free] ⊆ ps₀) (h₀ : Frame ps₀ s₀ s) :
    Frame ps₀ s₀ (State.newTable s n t) := by
  unfold State.newTable
  repeat' first
    | with_reducible assumption
    | with_reducible apply State.setCmp_frame (hs₀ := Part.tr (by decide) hs₀)
    | with_reducible apply State.takeTable_frame (hs₀ := Part.tr (by decide) hs₀)
    | with_reducible apply State.count_frame (hs₀ := Part.tr (by decide) hs₀)

theorem State.layerFault_frame {ps₀ : List Part} {s₀ : State} (s : State) (n : ℕ) (l : ℕ) (cause : ℕ) (line : ℕ)
    (hs₀ : [.objects, .records] ⊆ ps₀) (h₀ : Frame ps₀ s₀ s) :
    Frame ps₀ s₀ (State.layerFault s n l cause line) := by
  unfold State.layerFault
  repeat' first
    | with_reducible assumption
    | with_reducible apply State.toHolder_frame (hs₀ := Part.tr (by decide) hs₀)
    | with_reducible apply State.count_frame (hs₀ := Part.tr (by decide) hs₀)

theorem State.composeLine_frame {ps₀ : List Part} {s₀ : State} (s : State) (n : ℕ) (parity : List (ℕ × ℕ))
    (hs₀ : [.objects, .compositor, .guard, .display, .records, .crossings, .out, .free] ⊆ ps₀) (h₀ : Frame ps₀ s₀ s) :
    Frame ps₀ s₀ (State.composeLine s n parity) := by
  unfold State.composeLine
  repeat' first
    | with_reducible assumption
    | with_reducible apply State.markParity_frame (hs₀ := Part.tr (by decide) hs₀)
    | with_reducible apply State.setCmp_frame (hs₀ := Part.tr (by decide) hs₀)
    | with_reducible apply State.takeTable_frame (hs₀ := Part.tr (by decide) hs₀)
    | with_reducible apply State.layerFault_frame (hs₀ := Part.tr (by decide) hs₀)
    | with_reducible apply State.count_frame (hs₀ := Part.tr (by decide) hs₀)
    | (conv => arg 3; arg 50); with_reducible refine Frame.set_free (Part.lift hs₀ (by decide)) ?_
    | with_reducible refine Frame.ite ?_ ?_
    | with_reducible refine Frame.each (fun _ _ _ => ?_) ?_
    | dsimp only
    | split

theorem State.recomposeFor_frame {ps₀ : List Part} {s₀ : State} (s : State) (n : ℕ) (z : ℕ)
    (hs₀ : [.compositor] ⊆ ps₀) (h₀ : Frame ps₀ s₀ s) :
    Frame ps₀ s₀ (State.recomposeFor s n z) := by
  unfold State.recomposeFor
  repeat' first
    | with_reducible assumption
    | with_reducible apply State.setCmp_frame (hs₀ := Part.tr (by decide) hs₀)

theorem State.layerFetched_frame {ps₀ : List Part} {s₀ : State} (s : State) (n : ℕ) (l : ℕ) (addr : ℕ) (len : ℕ) (forArmed : Bool)
    (hs₀ : [.compositor] ⊆ ps₀) (h₀ : Frame ps₀ s₀ s) :
    Frame ps₀ s₀ (State.layerFetched s n l addr len forArmed) := by
  unfold State.layerFetched
  repeat' first
    | with_reducible assumption
    | with_reducible apply State.setCmp_frame (hs₀ := Part.tr (by decide) hs₀)
    | with_reducible refine Frame.ite ?_ ?_

/-! ### Machine/Headgate.lean -/

theorem State.spoof_frame {ps₀ : List Part} {s₀ : State} (s : State) (t : ℕ) (code : ℕ) (station : ℕ)
    (hs₀ : [.objects, .slices, .records, .pins, .out] ⊆ ps₀) (h₀ : Frame ps₀ s₀ s) :
    Frame ps₀ s₀ (State.spoof s t code station) := by
  unfold State.spoof
  repeat' first
    | with_reducible assumption
    | with_reducible apply State.toTenant_frame (hs₀ := Part.tr (by decide) hs₀)
    | with_reducible apply State.toHwLog_frame (hs₀ := Part.tr (by decide) hs₀)
    | with_reducible apply State.wr_frame (hs₀ := Part.tr (by decide) hs₀)
    | with_reducible apply State.setSlc_frame (hs₀ := Part.tr (by decide) hs₀)
    | with_reducible apply State.alarm_frame (hs₀ := Part.tr (by decide) hs₀)
    | with_reducible apply State.count_frame (hs₀ := Part.tr (by decide) hs₀)
    | with_reducible refine Frame.ite ?_ ?_

theorem State.crossDoorbell_frame {ps₀ : List Part} {s₀ : State} (s : State) (k : CrossKey) (n : ℕ) (v : ℕ)
    (hs₀ : [.objects, .crossings, .free] ⊆ ps₀) (h₀ : Frame ps₀ s₀ s) :
    Frame ps₀ s₀ (State.crossDoorbell s k n v) := by
  unfold State.crossDoorbell
  repeat' first
    | with_reducible assumption
    | refine State.cross_out (hs₀ := Part.tr (by decide) hs₀) (e₀ := by with_reducible assumption) (h₀ := ?_)
    | with_reducible apply State.count_frame (hs₀ := Part.tr (by decide) hs₀)
    | split

theorem State.onPage_frame {ps₀ : List Part} {s₀ : State} (s : State) (p : ℕ) (t : ℕ) (f : State → State)
    (hs₀ : [.objects] ⊆ ps₀) (hf : ∀ x0, Frame ps₀ s₀ x0 → Frame ps₀ s₀ (f x0)) (h₀ : Frame ps₀ s₀ s) :
    Frame ps₀ s₀ (State.onPage s p t f) := by
  unfold State.onPage
  repeat' first
    | with_reducible assumption
    | with_reducible apply State.count_frame (hs₀ := Part.tr (by decide) hs₀)
    | with_reducible apply hf
    | with_reducible refine Frame.ite ?_ ?_
    | split

theorem State.onStationPage_frame {ps₀ : List Part} {s₀ : State} (s : State) (p : ℕ) (t : ℕ) (n : ℕ) (f : State → State)
    (hs₀ : [.objects, .slices, .records, .pins, .out] ⊆ ps₀) (hf : ∀ x0, Frame ps₀ s₀ x0 → Frame ps₀ s₀ (f x0)) (h₀ : Frame ps₀ s₀ s) :
    Frame ps₀ s₀ (State.onStationPage s p t n f) := by
  unfold State.onStationPage
  repeat' first
    | with_reducible assumption
    | with_reducible apply State.onPage_frame (hs₀ := Part.tr (by decide) hs₀)
    | with_reducible apply State.spoof_frame (hs₀ := Part.tr (by decide) hs₀)
    | with_reducible apply hf
    | with_reducible refine Frame.ite ?_ ?_
    | with_reducible intro _

theorem State.mailboxSpoof_frame {ps₀ : List Part} {s₀ : State} (s : State) (who : Requester) (r : ObjRow) (n : ℕ) (i : ℕ) (j : ℕ) (st : Option Status)
    (hs₀ : [.objects, .slices, .records, .pins, .out] ⊆ ps₀) (h₀ : Frame ps₀ s₀ s) :
    Frame ps₀ s₀ (State.mailboxSpoof s who r n i j st) := by
  unfold State.mailboxSpoof
  repeat' first
    | with_reducible assumption
    | with_reducible apply State.spoof_frame (hs₀ := Part.tr (by decide) hs₀)
    | with_reducible refine Frame.ite ?_ ?_
    | dsimp only
    | split

theorem State.onWrite_frame {ps₀ : List Part} {s₀ : State} (s : State) (who : Requester) (r : ObjRow) (v : ℤ) (n : ℕ) (i : ℕ) (tq : ℕ) (j : ℕ) (f : State → State)
    (hs₀ : [.objects, .slices, .records, .pins, .out] ⊆ ps₀) (hf : ∀ x0, Frame ps₀ s₀ x0 → Frame ps₀ s₀ (f x0)) (h₀ : Frame ps₀ s₀ s) :
    Frame ps₀ s₀ (State.onWrite s who r v n i tq j f) := by
  unfold State.onWrite
  repeat' first
    | with_reducible assumption
    | with_reducible apply State.onRequest_frame (hs₀ := Part.tr (by decide) hs₀)
    | with_reducible apply State.answer_frame (hs₀ := Part.tr (by decide) hs₀)
    | with_reducible apply State.mailboxSpoof_frame (hs₀ := Part.tr (by decide) hs₀)
    | with_reducible apply hf
    | with_reducible intro _
    | split

/-! ### Machine/Station.lean -/

theorem State.syncEdge_frame {ps₀ : List Part} {s₀ : State} (s : State) (n : ℕ)
    (hs₀ : [.stations] ⊆ ps₀) (h₀ : Frame ps₀ s₀ s) :
    Frame ps₀ s₀ (State.syncEdge s n) := by
  unfold State.syncEdge
  repeat' first
    | with_reducible assumption
    | with_reducible apply State.setCtl_frame (hs₀ := Part.tr (by decide) hs₀)

theorem State.setCompose_frame {ps₀ : List Part} {s₀ : State} (s : State) (n : ℕ) (v : ℕ)
    (hs₀ : [.objects, .compositor, .display, .crossings, .out, .free] ⊆ ps₀) (h₀ : Frame ps₀ s₀ s) :
    Frame ps₀ s₀ (State.setCompose s n v) := by
  unfold State.setCompose
  repeat' first
    | with_reducible assumption
    | with_reducible apply State.wr_frame (hs₀ := Part.tr (by decide) hs₀)
    | with_reducible apply State.setCmp_frame (hs₀ := Part.tr (by decide) hs₀)
    | with_reducible apply State.endEvent_frame (hs₀ := Part.tr (by decide) hs₀)
    | with_reducible refine Frame.ite ?_ ?_

end Sys2Proof.Machine
end

