-- ==== Sys2Proof/Laws/FrameRaster.lean ====
section
/-! SUPPORT. Which parts of the state the functions of rings, jobs, the raster engine and the energy controller leave alone. -/
namespace Sys2Proof.Machine

/-! ### Machine/Rings.lean -/

theorem State.msix_frame {ps₀ : List Part} {s₀ : State} (s : State) (p : ℕ) (v : ℕ)
    (hs₀ : [.ports, .out] ⊆ ps₀) (h₀ : Frame ps₀ s₀ s) :
    Frame ps₀ s₀ (State.msix s p v) := by
  unfold State.msix
  repeat' first
    | with_reducible assumption
    | with_reducible apply State.setPrt_frame (hs₀ := Part.tr (by decide) hs₀)
    | with_reducible apply State.emit_frame (hs₀ := Part.tr (by decide) hs₀)
    | with_reducible refine Frame.ite ?_ ?_

theorem State.irq_frame {ps₀ : List Part} {s₀ : State} (s : State) (t : ℕ) (k : ℕ)
    (hs₀ : [.ports, .out] ⊆ ps₀) (h₀ : Frame ps₀ s₀ s) :
    Frame ps₀ s₀ (State.irq s t k) := by
  unfold State.irq
  repeat' first
    | with_reducible assumption
    | with_reducible apply State.msix_frame (hs₀ := Part.tr (by decide) hs₀)

theorem State.irqMapped_frame {ps₀ : List Part} {s₀ : State} (s : State) (t : ℕ) (which : ℕ)
    (hs₀ : [.ports, .out] ⊆ ps₀) (h₀ : Frame ps₀ s₀ s) :
    Frame ps₀ s₀ (State.irqMapped s t which) := by
  unfold State.irqMapped
  repeat' first
    | with_reducible assumption
    | with_reducible apply State.irq_frame (hs₀ := Part.tr (by decide) hs₀)

theorem State.hostWrite_frame {ps₀ : List Part} {s₀ : State} (s : State) (t : ℕ) (addr : ℕ) (b : Bytes)
    (hs₀ : [.out] ⊆ ps₀) (h₀ : Frame ps₀ s₀ s) :
    Frame ps₀ s₀ (State.hostWrite s t addr b) := by
  unfold State.hostWrite
  repeat' first
    | with_reducible assumption
    | with_reducible apply State.emit_frame (hs₀ := Part.tr (by decide) hs₀)

theorem State.setRing_frame {ps₀ : List Part} {s₀ : State} (s : State) (t : ℕ) (n : ℕ) (q : ℕ) (r : Ring)
    (hs₀ : [.slices] ⊆ ps₀) (h₀ : Frame ps₀ s₀ s) :
    Frame ps₀ s₀ (State.setRing s t n q r) := by
  unfold State.setRing
  repeat' first
    | with_reducible assumption
    | with_reducible apply State.setSlc_frame (hs₀ := Part.tr (by decide) hs₀)

theorem State.issueRead_frame {ps₀ : List Part} {s₀ : State} (s : State) (t : ℕ) (n : ℕ) (q : ℕ)
    (hs₀ : [.slices, .out] ⊆ ps₀) (h₀ : Frame ps₀ s₀ s) :
    Frame ps₀ s₀ (State.issueRead s t n q) := by
  unfold State.issueRead
  repeat' first
    | with_reducible assumption
    | with_reducible apply State.setRing_frame (hs₀ := Part.tr (by decide) hs₀)
    | with_reducible apply State.emit_frame (hs₀ := Part.tr (by decide) hs₀)

theorem State.fetchTurn_frame {ps₀ : List Part} {s₀ : State} (s : State) (n : ℕ)
    (hs₀ : [.slices, .out] ⊆ ps₀) (h₀ : Frame ps₀ s₀ s) :
    Frame ps₀ s₀ (State.fetchTurn s n) := by
  unfold State.fetchTurn
  repeat' first
    | with_reducible assumption
    | with_reducible apply State.issueRead_frame (hs₀ := Part.tr (by decide) hs₀)
    | with_reducible refine Frame.ite ?_ ?_
    | with_reducible refine Frame.each (fun _ _ _ => ?_) ?_

theorem State.fetchTurns_frame {ps₀ : List Part} {s₀ : State} (s : State) (n : ℕ) (q2 : ℕ)
    (hs₀ : [.slices, .out] ⊆ ps₀) (h₀ : Frame ps₀ s₀ s) :
    Frame ps₀ s₀ (State.fetchTurns s n q2) := by
  induction q2 generalizing s with
  | zero => exact h₀
  | succ k₀ ih₀ =>
    unfold State.fetchTurns
    repeat' first
      | with_reducible assumption
      | with_reducible apply ih₀
      | with_reducible apply State.fetchTurn_frame (hs₀ := Part.tr (by decide) hs₀)
      | with_reducible refine Frame.ite ?_ ?_

theorem State.fetch_frame {ps₀ : List Part} {s₀ : State} (s : State) (n : ℕ)
    (hs₀ : [.slices, .out] ⊆ ps₀) (h₀ : Frame ps₀ s₀ s) :
    Frame ps₀ s₀ (State.fetch s n) := by
  unfold State.fetch
  repeat' first
    | with_reducible assumption
    | with_reducible apply State.fetchTurns_frame (hs₀ := Part.tr (by decide) hs₀)

theorem State.completion_frame {ps₀ : List Part} {s₀ : State} (s : State) (t : ℕ) (n : ℕ) (q : ℕ) (record : Bytes) (fence : Option (ℕ × ℕ)) (irq : Bool)
    (hs₀ : [.objects, .results, .memory, .slices, .ports, .checks, .records, .out] ⊆ ps₀) (h₀ : Frame ps₀ s₀ s) :
    Frame ps₀ s₀ (State.completion s t n q record fence irq) := by
  unfold State.completion
  repeat' first
    | with_reducible assumption
    | with_reducible apply State.irq_frame (hs₀ := Part.tr (by decide) hs₀)
    | with_reducible apply State.hostWrite_frame (hs₀ := Part.tr (by decide) hs₀)
    | with_reducible apply State.setRing_frame (hs₀ := Part.tr (by decide) hs₀)
    | with_reducible apply State.writeTagged_frame (hs₀ := Part.tr (by decide) hs₀)
    | with_reducible refine Frame.ite ?_ ?_
    | dsimp only
    | split

/-! ### Machine/Jobs.lean -/

theorem State.setJob_frame {ps₀ : List Part} {s₀ : State} (s : State) (n : ℕ) (j : Job)
    (hs₀ : [.raster] ⊆ ps₀) (h₀ : Frame ps₀ s₀ s) :
    Frame ps₀ s₀ (State.setJob s n j) := by
  unfold State.setJob
  repeat' first
    | with_reducible assumption
    | with_reducible apply State.setRas_frame (hs₀ := Part.tr (by decide) hs₀)

theorem State.updJob_frame {ps₀ : List Part} {s₀ : State} (s : State) (n : ℕ) (key : ℕ) (f : Job → Job)
    (hs₀ : [.raster] ⊆ ps₀) (h₀ : Frame ps₀ s₀ s) :
    Frame ps₀ s₀ (State.updJob s n key f) := by
  unfold State.updJob
  repeat' first
    | with_reducible assumption
    | with_reducible apply State.setJob_frame (hs₀ := Part.tr (by decide) hs₀)
    | split

theorem State.syncCache_frame {ps₀ : List Part} {s₀ : State} (s : State) (n : ℕ) (t : ℕ)
    (hs₀ : [.objects] ⊆ ps₀) (h₀ : Frame ps₀ s₀ s) :
    Frame ps₀ s₀ (State.syncCache s n t) := by
  unfold State.syncCache
  repeat' first
    | with_reducible assumption
    | with_reducible apply State.wr_frame (hs₀ := Part.tr (by decide) hs₀)

theorem State.sweepCache_frame {ps₀ : List Part} {s₀ : State} (s : State) (n : ℕ)
    (hs₀ : [.objects, .raster] ⊆ ps₀) (h₀ : Frame ps₀ s₀ s) :
    Frame ps₀ s₀ (State.sweepCache s n) := by
  unfold State.sweepCache
  repeat' first
    | with_reducible assumption
    | with_reducible apply State.setRas_frame (hs₀ := Part.tr (by decide) hs₀)
    | with_reducible apply State.syncCache_frame (hs₀ := Part.tr (by decide) hs₀)
    | with_reducible refine Frame.each (fun _ _ _ => ?_) ?_

theorem State.accrue_frame {ps₀ : List Part} {s₀ : State} (s : State) (n : ℕ) (dt : ℕ)
    (hs₀ : [.raster] ⊆ ps₀) (h₀ : Frame ps₀ s₀ s) :
    Frame ps₀ s₀ (State.accrue s n dt) := by
  unfold State.accrue
  repeat' first
    | with_reducible assumption
    | with_reducible apply State.setRas_frame (hs₀ := Part.tr (by decide) hs₀)

theorem State.syncSlots_frame {ps₀ : List Part} {s₀ : State} (s : State) (n : ℕ)
    (hs₀ : [.objects] ⊆ ps₀) (h₀ : Frame ps₀ s₀ s) :
    Frame ps₀ s₀ (State.syncSlots s n) := by
  unfold State.syncSlots
  repeat' first
    | with_reducible assumption
    | with_reducible apply State.wr_frame (hs₀ := Part.tr (by decide) hs₀)

theorem State.setCore_frame {ps₀ : List Part} {s₀ : State} (s : State) (n : ℕ) (i : ℕ) (c : ShaderCore)
    (hs₀ : [.raster] ⊆ ps₀) (h₀ : Frame ps₀ s₀ s) :
    Frame ps₀ s₀ (State.setCore s n i c) := by
  unfold State.setCore
  repeat' first
    | with_reducible assumption
    | with_reducible apply State.setRas_frame (hs₀ := Part.tr (by decide) hs₀)

theorem State.preemptFor_frame {ps₀ : List Part} {s₀ : State} (s : State) (n : ℕ) (u : Job)
    (hs₀ : [.objects, .raster] ⊆ ps₀) (h₀ : Frame ps₀ s₀ s) :
    Frame ps₀ s₀ (State.preemptFor s n u) := by
  unfold State.preemptFor
  repeat' first
    | with_reducible assumption
    | with_reducible apply State.setRas_frame (hs₀ := Part.tr (by decide) hs₀)
    | with_reducible apply State.updJob_frame (hs₀ := Part.tr (by decide) hs₀)
    | with_reducible apply State.syncSlots_frame (hs₀ := Part.tr (by decide) hs₀)
    | with_reducible apply State.setCore_frame (hs₀ := Part.tr (by decide) hs₀)
    | with_reducible apply State.count_frame (hs₀ := Part.tr (by decide) hs₀)
    | with_reducible refine Frame.ite ?_ ?_
    | with_reducible refine Frame.foldl (fun _ _ _ => ?_) ?_
    | dsimp only
    | split

theorem State.preemptAll_frame {ps₀ : List Part} {s₀ : State} (s : State) (n : ℕ)
    (hs₀ : [.objects, .raster] ⊆ ps₀) (h₀ : Frame ps₀ s₀ s) :
    Frame ps₀ s₀ (State.preemptAll s n) := by
  unfold State.preemptAll
  repeat' first
    | with_reducible assumption
    | with_reducible apply State.updJob_frame (hs₀ := Part.tr (by decide) hs₀)
    | with_reducible apply State.preemptFor_frame (hs₀ := Part.tr (by decide) hs₀)
    | with_reducible refine Frame.each (fun _ _ _ => ?_) ?_

theorem State.markReady_frame {ps₀ : List Part} {s₀ : State} (s : State) (n : ℕ) (key : ℕ)
    (hs₀ : [.raster] ⊆ ps₀) (h₀ : Frame ps₀ s₀ s) :
    Frame ps₀ s₀ (State.markReady s n key) := by
  unfold State.markReady
  repeat' first
    | with_reducible assumption
    | with_reducible apply State.setJob_frame (hs₀ := Part.tr (by decide) hs₀)
    | with_reducible refine Frame.ite ?_ ?_
    | split

theorem State.redeadline_frame {ps₀ : List Part} {s₀ : State} (s : State) (n : ℕ)
    (hs₀ : [.raster] ⊆ ps₀) (h₀ : Frame ps₀ s₀ s) :
    Frame ps₀ s₀ (State.redeadline s n) := by
  unfold State.redeadline
  repeat' first
    | with_reducible assumption
    | with_reducible apply State.setRas_frame (hs₀ := Part.tr (by decide) hs₀)

theorem State.retarget_frame {ps₀ : List Part} {s₀ : State} (s : State) (n : ℕ)
    (hs₀ : [.raster] ⊆ ps₀) (h₀ : Frame ps₀ s₀ s) :
    Frame ps₀ s₀ (State.retarget s n) := by
  unfold State.retarget
  repeat' first
    | with_reducible assumption
    | with_reducible apply State.setRas_frame (hs₀ := Part.tr (by decide) hs₀)

theorem State.syncReserved_frame {ps₀ : List Part} {s₀ : State} (s : State) (n : ℕ) (t : ℕ)
    (hs₀ : [.objects] ⊆ ps₀) (h₀ : Frame ps₀ s₀ s) :
    Frame ps₀ s₀ (State.syncReserved s n t) := by
  unfold State.syncReserved
  repeat' first
    | with_reducible assumption
    | with_reducible apply State.wr_frame (hs₀ := Part.tr (by decide) hs₀)

theorem State.syncRaster_frame {ps₀ : List Part} {s₀ : State} (s : State) (n : ℕ)
    (hs₀ : [.objects] ⊆ ps₀) (h₀ : Frame ps₀ s₀ s) :
    Frame ps₀ s₀ (State.syncRaster s n) := by
  unfold State.syncRaster
  repeat' first
    | with_reducible assumption
    | with_reducible apply State.wr_frame (hs₀ := Part.tr (by decide) hs₀)
    | with_reducible refine Frame.ite ?_ ?_

theorem State.invalidateTables_frame {ps₀ : List Part} {s₀ : State} (s : State) (n : ℕ) (j : Job)
    (hs₀ : [.objects, .results, .memory, .checks, .records] ⊆ ps₀) (h₀ : Frame ps₀ s₀ s) :
    Frame ps₀ s₀ (State.invalidateTables s n j) := by
  unfold State.invalidateTables
  repeat' first
    | with_reducible assumption
    | with_reducible apply State.writeTagged_frame (hs₀ := Part.tr (by decide) hs₀)
    | with_reducible refine Frame.ite ?_ ?_
    | with_reducible refine Frame.each (fun _ _ _ => ?_) ?_

theorem State.freeCores_frame {ps₀ : List Part} {s₀ : State} (s : State) (n : ℕ) (key : ℕ)
    (hs₀ : [.objects, .raster] ⊆ ps₀) (h₀ : Frame ps₀ s₀ s) :
    Frame ps₀ s₀ (State.freeCores s n key) := by
  unfold State.freeCores
  repeat' first
    | with_reducible assumption
    | with_reducible apply State.setRas_frame (hs₀ := Part.tr (by decide) hs₀)
    | with_reducible apply State.syncSlots_frame (hs₀ := Part.tr (by decide) hs₀)

theorem State.endJob_frame {ps₀ : List Part} {s₀ : State} (s : State) (n : ℕ) (key : ℕ) (status : ℕ) (detail : ℕ)
    (hs₀ : [.objects, .results, .memory, .raster, .checks, .records] ⊆ ps₀) (h₀ : Frame ps₀ s₀ s) :
    Frame ps₀ s₀ (State.endJob s n key status detail) := by
  unfold State.endJob
  repeat' first
    | with_reducible assumption
    | with_reducible apply State.sweepCache_frame (hs₀ := Part.tr (by decide) hs₀)
    | with_reducible apply State.syncReserved_frame (hs₀ := Part.tr (by decide) hs₀)
    | with_reducible apply State.freeCores_frame (hs₀ := Part.tr (by decide) hs₀)
    | with_reducible apply State.updJob_frame (hs₀ := Part.tr (by decide) hs₀)
    | with_reducible apply State.invalidateTables_frame (hs₀ := Part.tr (by decide) hs₀)
    | with_reducible apply State.count_frame (hs₀ := Part.tr (by decide) hs₀)
    | with_reducible refine Frame.ite ?_ ?_
    | dsimp only
    | split

theorem State.startFrag_frame {ps₀ : List Part} {s₀ : State} (s : State) (n : ℕ) (key : ℕ) (flushing : Bool)
    (hs₀ : [.raster] ⊆ ps₀) (h₀ : Frame ps₀ s₀ s) :
    Frame ps₀ s₀ (State.startFrag s n key flushing) := by
  unfold State.startFrag
  repeat' first
    | with_reducible assumption
    | with_reducible apply State.setJob_frame (hs₀ := Part.tr (by decide) hs₀)
    | dsimp only
    | split

theorem State.tryFrag_frame {ps₀ : List Part} {s₀ : State} (s : State) (n : ℕ) (key : ℕ)
    (hs₀ : [.raster] ⊆ ps₀) (h₀ : Frame ps₀ s₀ s) :
    Frame ps₀ s₀ (State.tryFrag s n key) := by
  unfold State.tryFrag
  repeat' first
    | with_reducible assumption
    | with_reducible apply State.startFrag_frame (hs₀ := Part.tr (by decide) hs₀)
    | with_reducible refine Frame.ite ?_ ?_
    | dsimp only
    | split

theorem State.checkPipe_frame {ps₀ : List Part} {s₀ : State} (s : State) (n : ℕ) (key : ℕ)
    (hs₀ : [.objects, .results, .memory, .raster, .checks, .records] ⊆ ps₀) (h₀ : Frame ps₀ s₀ s) :
    Frame ps₀ s₀ (State.checkPipe s n key) := by
  unfold State.checkPipe
  repeat' first
    | with_reducible assumption
    | with_reducible apply State.endJob_frame (hs₀ := Part.tr (by decide) hs₀)
    | with_reducible refine Frame.ite ?_ ?_
    | split

theorem State.startRender_frame {ps₀ : List Part} {s₀ : State} (s : State) (n : ℕ) (key : ℕ)
    (hs₀ : [.objects, .results, .memory, .raster, .checks, .records] ⊆ ps₀) (h₀ : Frame ps₀ s₀ s) :
    Frame ps₀ s₀ (State.startRender s n key) := by
  unfold State.startRender
  repeat' first
    | with_reducible assumption
    | with_reducible apply State.setJob_frame (hs₀ := Part.tr (by decide) hs₀)
    | with_reducible apply State.endJob_frame (hs₀ := Part.tr (by decide) hs₀)
    | with_reducible refine Frame.ite ?_ ?_
    | dsimp only
    | split

theorem State.fillGroups_frame {ps₀ : List Part} {s₀ : State} (s : State) (n : ℕ) (i : ℕ) (key : ℕ) (q4 : ℕ)
    (hs₀ : [.raster] ⊆ ps₀) (h₀ : Frame ps₀ s₀ s) :
    Frame ps₀ s₀ (State.fillGroups s n i key q4) := by
  induction q4 generalizing s with
  | zero => exact h₀
  | succ k₀ ih₀ =>
    unfold State.fillGroups
    repeat' first
      | with_reducible assumption
      | with_reducible apply ih₀
      | with_reducible apply State.setJob_frame (hs₀ := Part.tr (by decide) hs₀)
      | with_reducible apply State.setCore_frame (hs₀ := Part.tr (by decide) hs₀)
      | with_reducible refine Frame.ite ?_ ?_
      | dsimp only
      | split

theorem State.fillTiles_frame {ps₀ : List Part} {s₀ : State} (s : State) (n : ℕ) (i : ℕ) (key : ℕ) (q4 : ℕ)
    (hs₀ : [.raster] ⊆ ps₀) (h₀ : Frame ps₀ s₀ s) :
    Frame ps₀ s₀ (State.fillTiles s n i key q4) := by
  induction q4 generalizing s with
  | zero => exact h₀
  | succ k₀ ih₀ =>
    unfold State.fillTiles
    repeat' first
      | with_reducible assumption
      | with_reducible apply ih₀
      | with_reducible apply State.setJob_frame (hs₀ := Part.tr (by decide) hs₀)
      | with_reducible apply State.setCore_frame (hs₀ := Part.tr (by decide) hs₀)
      | with_reducible refine Frame.ite ?_ ?_
      | dsimp only
      | split

theorem State.fillCore_frame {ps₀ : List Part} {s₀ : State} (s : State) (n : ℕ) (i : ℕ)
    (hs₀ : [.objects, .results, .memory, .raster, .checks, .records] ⊆ ps₀) (h₀ : Frame ps₀ s₀ s) :
    Frame ps₀ s₀ (State.fillCore s n i) := by
  unfold State.fillCore
  repeat' first
    | with_reducible assumption
    | with_reducible apply State.fillGroups_frame (hs₀ := Part.tr (by decide) hs₀)
    | with_reducible apply State.updJob_frame (hs₀ := Part.tr (by decide) hs₀)
    | with_reducible apply State.fillTiles_frame (hs₀ := Part.tr (by decide) hs₀)
    | with_reducible apply State.setCore_frame (hs₀ := Part.tr (by decide) hs₀)
    | with_reducible apply State.startRender_frame (hs₀ := Part.tr (by decide) hs₀)
    | with_reducible refine Frame.ite ?_ ?_
    | with_reducible intro _
    | dsimp only
    | split

theorem State.dispatch_frame {ps₀ : List Part} {s₀ : State} (s : State) (n : ℕ)
    (hs₀ : [.objects, .results, .memory, .raster, .checks, .records] ⊆ ps₀) (h₀ : Frame ps₀ s₀ s) :
    Frame ps₀ s₀ (State.dispatch s n) := by
  unfold State.dispatch
  repeat' first
    | with_reducible assumption
    | with_reducible apply State.fillCore_frame (hs₀ := Part.tr (by decide) hs₀)
    | with_reducible refine Frame.each (fun _ _ _ => ?_) ?_

theorem State.touchHandles_frame {ps₀ : List Part} {s₀ : State} (s : State) (n : ℕ) (j : Job)
    (hs₀ : [.raster] ⊆ ps₀) (h₀ : Frame ps₀ s₀ s) :
    Frame ps₀ s₀ (State.touchHandles s n j) := by
  unfold State.touchHandles
  repeat' first
    | with_reducible assumption
    | with_reducible apply State.setRas_frame (hs₀ := Part.tr (by decide) hs₀)

theorem State.admitJob_frame {ps₀ : List Part} {s₀ : State} (s : State) (n : ℕ) (key : ℕ) (forced : Bool)
    (hs₀ : [.objects, .raster] ⊆ ps₀) (h₀ : Frame ps₀ s₀ s) :
    Frame ps₀ s₀ (State.admitJob s n key forced) := by
  unfold State.admitJob
  repeat' first
    | with_reducible assumption
    | with_reducible apply State.setRas_frame (hs₀ := Part.tr (by decide) hs₀)
    | with_reducible apply State.syncReserved_frame (hs₀ := Part.tr (by decide) hs₀)
    | with_reducible apply State.setJob_frame (hs₀ := Part.tr (by decide) hs₀)
    | with_reducible apply State.markReady_frame (hs₀ := Part.tr (by decide) hs₀)
    | with_reducible apply State.count_frame (hs₀ := Part.tr (by decide) hs₀)
    | with_reducible apply State.touchHandles_frame (hs₀ := Part.tr (by decide) hs₀)
    | with_reducible refine Frame.ite ?_ ?_
    | dsimp only
    | split

theorem State.presentJob_frame {ps₀ : List Part} {s₀ : State} (s : State) (n : ℕ) (key : ℕ)
    (hs₀ : [.objects, .results, .memory, .raster, .checks, .records] ⊆ ps₀) (h₀ : Frame ps₀ s₀ s) :
    Frame ps₀ s₀ (State.presentJob s n key) := by
  unfold State.presentJob
  repeat' first
    | with_reducible assumption
    | with_reducible apply State.setRas_frame (hs₀ := Part.tr (by decide) hs₀)
    | with_reducible apply State.updJob_frame (hs₀ := Part.tr (by decide) hs₀)
    | with_reducible apply State.setJob_frame (hs₀ := Part.tr (by decide) hs₀)
    | with_reducible apply State.count_frame (hs₀ := Part.tr (by decide) hs₀)
    | with_reducible apply State.admitJob_frame (hs₀ := Part.tr (by decide) hs₀)
    | with_reducible apply State.endJob_frame (hs₀ := Part.tr (by decide) hs₀)
    | with_reducible refine Frame.ite ?_ ?_
    | with_reducible intro _
    | dsimp only
    | split

theorem State.presentDeferred_frame {ps₀ : List Part} {s₀ : State} (s : State) (n : ℕ)
    (hs₀ : [.objects, .results, .memory, .raster, .checks, .records] ⊆ ps₀) (h₀ : Frame ps₀ s₀ s) :
    Frame ps₀ s₀ (State.presentDeferred s n) := by
  unfold State.presentDeferred
  repeat' first
    | with_reducible assumption
    | with_reducible apply State.presentJob_frame (hs₀ := Part.tr (by decide) hs₀)
    | with_reducible refine Frame.each (fun _ _ _ => ?_) ?_

theorem State.runControl_frame {ps₀ : List Part} {s₀ : State} (s : State) (n : ℕ) (key : ℕ)
    (hs₀ : [.objects, .results, .memory, .raster, .translator, .checks, .records] ⊆ ps₀) (h₀ : Frame ps₀ s₀ s) :
    Frame ps₀ s₀ (State.runControl s n key) := by
  unfold State.runControl
  repeat' first
    | with_reducible assumption
    | with_reducible apply State.setRas_frame (hs₀ := Part.tr (by decide) hs₀)
    | with_reducible apply State.wr_frame (hs₀ := Part.tr (by decide) hs₀)
    | with_reducible apply State.setJob_frame (hs₀ := Part.tr (by decide) hs₀)
    | with_reducible apply State.endJob_frame (hs₀ := Part.tr (by decide) hs₀)
    | (conv => arg 3; arg 50); with_reducible refine Frame.set_translator (Part.lift hs₀ (by decide)) ?_
    | with_reducible refine Frame.ite ?_ ?_
    | dsimp only
    | split

theorem State.settle_frame {ps₀ : List Part} {s₀ : State} (s : State) (n : ℕ)
    (hs₀ : [.objects, .results, .memory, .raster, .translator, .checks, .records] ⊆ ps₀) (h₀ : Frame ps₀ s₀ s) :
    Frame ps₀ s₀ (State.settle s n) := by
  unfold State.settle
  repeat' first
    | with_reducible assumption
    | with_reducible apply State.syncRaster_frame (hs₀ := Part.tr (by decide) hs₀)
    | with_reducible apply State.checkPipe_frame (hs₀ := Part.tr (by decide) hs₀)
    | with_reducible apply State.tryFrag_frame (hs₀ := Part.tr (by decide) hs₀)
    | with_reducible apply State.preemptAll_frame (hs₀ := Part.tr (by decide) hs₀)
    | with_reducible apply State.dispatch_frame (hs₀ := Part.tr (by decide) hs₀)
    | with_reducible apply State.markReady_frame (hs₀ := Part.tr (by decide) hs₀)
    | with_reducible apply State.runControl_frame (hs₀ := Part.tr (by decide) hs₀)
    | with_reducible refine Frame.each (fun _ _ _ => ?_) ?_

theorem State.completeJob_frame {ps₀ : List Part} {s₀ : State} (s : State) (n : ℕ) (key : ℕ)
    (hs₀ : [.objects, .results, .memory, .raster, .translator, .slices, .ports, .checks, .records, .out] ⊆ ps₀) (h₀ : Frame ps₀ s₀ s) :
    Frame ps₀ s₀ (State.completeJob s n key) := by
  unfold State.completeJob
  repeat' first
    | with_reducible assumption
    | with_reducible apply State.setRas_frame (hs₀ := Part.tr (by decide) hs₀)
    | with_reducible apply State.sweepCache_frame (hs₀ := Part.tr (by decide) hs₀)
    | with_reducible apply State.completion_frame (hs₀ := Part.tr (by decide) hs₀)
    | with_reducible apply State.total_frame (hs₀ := Part.tr (by decide) hs₀)
    | with_reducible apply State.settle_frame (hs₀ := Part.tr (by decide) hs₀)
    | with_reducible apply State.presentDeferred_frame (hs₀ := Part.tr (by decide) hs₀)
    | with_reducible refine Frame.ite ?_ ?_
    | dsimp only
    | split

theorem State.lateLayers_frame {ps₀ : List Part} {s₀ : State} (s : State) (n : ℕ)
    (hs₀ : [.objects, .results, .memory, .raster, .translator, .checks, .records] ⊆ ps₀) (h₀ : Frame ps₀ s₀ s) :
    Frame ps₀ s₀ (State.lateLayers s n) := by
  unfold State.lateLayers
  repeat' first
    | with_reducible assumption
    | with_reducible apply State.toTenant_frame (hs₀ := Part.tr (by decide) hs₀)
    | with_reducible apply State.updJob_frame (hs₀ := Part.tr (by decide) hs₀)
    | with_reducible apply State.settle_frame (hs₀ := Part.tr (by decide) hs₀)
    | with_reducible apply State.toStationLog_frame (hs₀ := Part.tr (by decide) hs₀)
    | with_reducible apply State.count_frame (hs₀ := Part.tr (by decide) hs₀)
    | with_reducible refine Frame.ite ?_ ?_
    | with_reducible refine Frame.each (fun _ _ _ => ?_) ?_

theorem State.dropCredit_frame {ps₀ : List Part} {s₀ : State} (s : State) (n : ℕ) (t : ℕ)
    (hs₀ : [.objects] ⊆ ps₀) (h₀ : Frame ps₀ s₀ s) :
    Frame ps₀ s₀ (State.dropCredit s n t) := by
  unfold State.dropCredit
  repeat' first
    | with_reducible assumption
    | with_reducible apply State.wr_frame (hs₀ := Part.tr (by decide) hs₀)

theorem State.rasterLeave_frame {ps₀ : List Part} {s₀ : State} (s : State) (n : ℕ)
    (hs₀ : [.objects, .results, .memory, .raster, .translator, .checks, .records] ⊆ ps₀) (h₀ : Frame ps₀ s₀ s) :
    Frame ps₀ s₀ (State.rasterLeave s n) := by
  unfold State.rasterLeave
  repeat' first
    | with_reducible assumption
    | with_reducible apply State.syncRaster_frame (hs₀ := Part.tr (by decide) hs₀)
    | with_reducible apply State.wr_frame (hs₀ := Part.tr (by decide) hs₀)
    | with_reducible apply State.dropCredit_frame (hs₀ := Part.tr (by decide) hs₀)
    | with_reducible apply State.endJob_frame (hs₀ := Part.tr (by decide) hs₀)
    | (conv => arg 3; arg 50); with_reducible refine Frame.set_translator (Part.lift hs₀ (by decide)) ?_
    | with_reducible refine Frame.each (fun _ _ _ => ?_) ?_

theorem State.rasterSlice_frame {ps₀ : List Part} {s₀ : State} (s : State) (n : ℕ) (t : ℕ)
    (hs₀ : [.objects, .results, .memory, .raster, .translator, .checks, .records] ⊆ ps₀) (h₀ : Frame ps₀ s₀ s) :
    Frame ps₀ s₀ (State.rasterSlice s n t) := by
  unfold State.rasterSlice
  repeat' first
    | with_reducible assumption
    | with_reducible apply State.setRas_frame (hs₀ := Part.tr (by decide) hs₀)
    | with_reducible apply State.syncCache_frame (hs₀ := Part.tr (by decide) hs₀)
    | with_reducible apply State.freeCores_frame (hs₀ := Part.tr (by decide) hs₀)
    | with_reducible apply State.wr_frame (hs₀ := Part.tr (by decide) hs₀)
    | with_reducible apply State.settle_frame (hs₀ := Part.tr (by decide) hs₀)
    | with_reducible apply State.dropCredit_frame (hs₀ := Part.tr (by decide) hs₀)
    | (conv => arg 3; arg 50); with_reducible refine Frame.set_translator (Part.lift hs₀ (by decide)) ?_
    | with_reducible refine Frame.ite ?_ ?_
    | with_reducible refine Frame.each (fun _ _ _ => ?_) ?_

theorem State.rasterReset_frame {ps₀ : List Part} {s₀ : State} (s : State) (n : ℕ)
    (hs₀ : [.objects, .raster] ⊆ ps₀) (h₀ : Frame ps₀ s₀ s) :
    Frame ps₀ s₀ (State.rasterReset s n) := by
  unfold State.rasterReset
  repeat' first
    | with_reducible assumption
    | with_reducible apply State.setRas_frame (hs₀ := Part.tr (by decide) hs₀)
    | with_reducible apply State.syncSlots_frame (hs₀ := Part.tr (by decide) hs₀)

theorem State.loseCache_frame {ps₀ : List Part} {s₀ : State} (s : State) (n : ℕ)
    (hs₀ : [.objects, .raster, .translator] ⊆ ps₀) (h₀ : Frame ps₀ s₀ s) :
    Frame ps₀ s₀ (State.loseCache s n) := by
  unfold State.loseCache
  repeat' first
    | with_reducible assumption
    | with_reducible apply State.setRas_frame (hs₀ := Part.tr (by decide) hs₀)
    | with_reducible apply State.syncCache_frame (hs₀ := Part.tr (by decide) hs₀)
    | (conv => arg 3; arg 50); with_reducible refine Frame.set_translator (Part.lift hs₀ (by decide)) ?_
    | with_reducible refine Frame.each (fun _ _ _ => ?_) ?_

theorem State.translatorReset_frame {ps₀ : List Part} {s₀ : State} (s : State)
    (hs₀ : [.translator] ⊆ ps₀) (h₀ : Frame ps₀ s₀ s) :
    Frame ps₀ s₀ (State.translatorReset s) := by
  unfold State.translatorReset
  repeat' first
    | with_reducible assumption
    | (conv => arg 3; arg 50); with_reducible refine Frame.set_translator (Part.lift hs₀ (by decide)) ?_
    | dsimp only

theorem State.reserveCache_frame {ps₀ : List Part} {s₀ : State} (s : State) (n : ℕ)
    (hs₀ : [.objects, .raster] ⊆ ps₀) (h₀ : Frame ps₀ s₀ s) :
    Frame ps₀ s₀ (State.reserveCache s n) := by
  unfold State.reserveCache
  repeat' first
    | with_reducible assumption
    | with_reducible apply State.setRas_frame (hs₀ := Part.tr (by decide) hs₀)
    | with_reducible apply State.syncCache_frame (hs₀ := Part.tr (by decide) hs₀)
    | with_reducible refine Frame.each (fun _ _ _ => ?_) ?_

/-! ### Machine/Raster.lean -/

theorem execJobTake_frame {ps₀ : List Part} {s₀ t₀ : State} (n : Fin 8) (s : State)
    (hs₀ : [.objects, .results, .memory, .raster, .slices, .checks, .ingress, .records, .out] ⊆ ps₀) (e₀ : execJobTake n s = .next t₀) (h₀ : Frame ps₀ s₀ s) :
    Frame ps₀ s₀ t₀ := by
  unfold execJobTake at e₀
  cases e₀
  repeat' first
    | with_reducible assumption
    | with_reducible apply State.setRas_frame (hs₀ := Part.tr (by decide) hs₀)
    | with_reducible apply State.fetch_frame (hs₀ := Part.tr (by decide) hs₀)
    | with_reducible apply State.endJob_frame (hs₀ := Part.tr (by decide) hs₀)
    | (conv => arg 3; arg 50); with_reducible refine Frame.set_ingress (Part.lift hs₀ (by decide)) ?_
    | with_reducible refine Frame.ite ?_ ?_
    | dsimp only
    | split

theorem State.queueJob_frame {ps₀ : List Part} {s₀ : State} (s : State) (n : ℕ) (key : ℕ)
    (hs₀ : [.objects, .results, .memory, .raster, .translator, .checks, .records] ⊆ ps₀) (h₀ : Frame ps₀ s₀ s) :
    Frame ps₀ s₀ (State.queueJob s n key) := by
  unfold State.queueJob
  repeat' first
    | with_reducible assumption
    | with_reducible apply State.presentJob_frame (hs₀ := Part.tr (by decide) hs₀)
    | with_reducible apply State.settle_frame (hs₀ := Part.tr (by decide) hs₀)
    | with_reducible apply State.setJob_frame (hs₀ := Part.tr (by decide) hs₀)
    | with_reducible refine Frame.ite ?_ ?_
    | split

theorem State.onTaken_frame {ps₀ : List Part} {s₀ : State} (s : State) (n : ℕ) (key : ℕ) (jtype : ℕ) (f : Job → State → State)
    (hs₀ : [] ⊆ ps₀) (hf : ∀ x0 x1, Frame ps₀ s₀ x1 → Frame ps₀ s₀ (f x0 x1)) (h₀ : Frame ps₀ s₀ s) :
    Frame ps₀ s₀ (State.onTaken s n key jtype f) := by
  unfold State.onTaken
  repeat' first
    | with_reducible assumption
    | with_reducible apply hf
    | with_reducible refine Frame.ite ?_ ?_
    | split

theorem State.onSized_frame {ps₀ : List Part} {s₀ : State} (s : State) (n : ℕ) (key : ℕ) (jtype : ℕ) (ok : ℕ → Bool) (f : Job → State → State)
    (hs₀ : [.objects, .results, .memory, .raster, .translator, .checks, .records] ⊆ ps₀) (hf : ∀ x0 x1, Frame ps₀ s₀ x1 → Frame ps₀ s₀ (f x0 x1)) (h₀ : Frame ps₀ s₀ s) :
    Frame ps₀ s₀ (State.onSized s n key jtype ok f) := by
  unfold State.onSized
  repeat' first
    | with_reducible assumption
    | with_reducible apply State.onTaken_frame (hs₀ := Part.tr (by decide) hs₀)
    | with_reducible apply State.settle_frame (hs₀ := Part.tr (by decide) hs₀)
    | with_reducible apply State.endJob_frame (hs₀ := Part.tr (by decide) hs₀)
    | with_reducible apply hf
    | with_reducible refine Frame.ite ?_ ?_
    | with_reducible intro _

theorem execJobNop_frame {ps₀ : List Part} {s₀ t₀ : State} (n : Fin 8) (key : ℕ) (s : State)
    (hs₀ : [.objects, .results, .memory, .raster, .translator, .checks, .records] ⊆ ps₀) (e₀ : execJobNop n key s = .next t₀) (h₀ : Frame ps₀ s₀ s) :
    Frame ps₀ s₀ t₀ := by
  unfold execJobNop at e₀
  cases e₀
  repeat' first
    | with_reducible assumption
    | with_reducible apply State.onSized_frame (hs₀ := Part.tr (by decide) hs₀)
    | with_reducible apply State.queueJob_frame (hs₀ := Part.tr (by decide) hs₀)
    | with_reducible intro _

theorem execJobRender_frame {ps₀ : List Part} {s₀ t₀ : State} (n : Fin 8) (key : ℕ) (s : State)
    (hs₀ : [.objects, .results, .memory, .raster, .translator, .checks, .records] ⊆ ps₀) (e₀ : execJobRender n key s = .next t₀) (h₀ : Frame ps₀ s₀ s) :
    Frame ps₀ s₀ t₀ := by
  unfold execJobRender at e₀
  cases e₀
  repeat' first
    | with_reducible assumption
    | with_reducible apply State.queueJob_frame (hs₀ := Part.tr (by decide) hs₀)
    | with_reducible apply State.onTaken_frame (hs₀ := Part.tr (by decide) hs₀)
    | with_reducible apply State.settle_frame (hs₀ := Part.tr (by decide) hs₀)
    | with_reducible apply State.setJob_frame (hs₀ := Part.tr (by decide) hs₀)
    | with_reducible apply State.endJob_frame (hs₀ := Part.tr (by decide) hs₀)
    | with_reducible refine Frame.ite ?_ ?_
    | with_reducible intro _
    | dsimp only
    | split

theorem execJobCompute_frame {ps₀ : List Part} {s₀ t₀ : State} (n : Fin 8) (key : ℕ) (d : DispatchRecord) (s : State)
    (hs₀ : [.objects, .results, .memory, .raster, .translator, .checks, .records] ⊆ ps₀) (e₀ : execJobCompute n key d s = .next t₀) (h₀ : Frame ps₀ s₀ s) :
    Frame ps₀ s₀ t₀ := by
  unfold execJobCompute at e₀
  cases e₀
  repeat' first
    | with_reducible assumption
    | with_reducible apply State.onSized_frame (hs₀ := Part.tr (by decide) hs₀)
    | with_reducible apply State.queueJob_frame (hs₀ := Part.tr (by decide) hs₀)
    | with_reducible apply State.settle_frame (hs₀ := Part.tr (by decide) hs₀)
    | with_reducible apply State.setJob_frame (hs₀ := Part.tr (by decide) hs₀)
    | with_reducible apply State.endJob_frame (hs₀ := Part.tr (by decide) hs₀)
    | with_reducible refine Frame.ite ?_ ?_
    | with_reducible intro _
    | dsimp only
    | split

theorem State.takePipe_frame {ps₀ : List Part} {s₀ : State} (s : State) (n : ℕ) (key : ℕ) (jtype : ℕ) (ok : ℕ → Bool) (handle : ℕ) (r : Option PipelineRecord)
    (hs₀ : [.objects, .results, .memory, .raster, .translator, .checks, .records] ⊆ ps₀) (h₀ : Frame ps₀ s₀ s) :
    Frame ps₀ s₀ (State.takePipe s n key jtype ok handle r) := by
  unfold State.takePipe
  repeat' first
    | with_reducible assumption
    | with_reducible apply State.onSized_frame (hs₀ := Part.tr (by decide) hs₀)
    | with_reducible apply State.queueJob_frame (hs₀ := Part.tr (by decide) hs₀)
    | with_reducible apply State.settle_frame (hs₀ := Part.tr (by decide) hs₀)
    | with_reducible apply State.setJob_frame (hs₀ := Part.tr (by decide) hs₀)
    | with_reducible apply State.endJob_frame (hs₀ := Part.tr (by decide) hs₀)
    | with_reducible intro _
    | split

theorem execJobPipelineLoad_frame {ps₀ : List Part} {s₀ t₀ : State} (n : Fin 8) (key : ℕ) (r : PipelineRecord) (s : State)
    (hs₀ : [.objects, .results, .memory, .raster, .translator, .checks, .records] ⊆ ps₀) (e₀ : execJobPipelineLoad n key r s = .next t₀) (h₀ : Frame ps₀ s₀ s) :
    Frame ps₀ s₀ t₀ := by
  unfold execJobPipelineLoad at e₀
  cases e₀
  repeat' first
    | with_reducible assumption
    | with_reducible apply State.takePipe_frame (hs₀ := Part.tr (by decide) hs₀)

theorem execJobPipelineDrop_frame {ps₀ : List Part} {s₀ t₀ : State} (n : Fin 8) (key : ℕ) (handle : ℕ) (s : State)
    (hs₀ : [.objects, .results, .memory, .raster, .translator, .checks, .records] ⊆ ps₀) (e₀ : execJobPipelineDrop n key handle s = .next t₀) (h₀ : Frame ps₀ s₀ s) :
    Frame ps₀ s₀ t₀ := by
  unfold execJobPipelineDrop at e₀
  cases e₀
  repeat' first
    | with_reducible assumption
    | with_reducible apply State.takePipe_frame (hs₀ := Part.tr (by decide) hs₀)

theorem execFenceWaitSatisfied_frame {ps₀ : List Part} {s₀ t₀ : State} (n : Fin 8) (key : ℕ) (s : State)
    (hs₀ : [.objects, .results, .memory, .raster, .translator, .checks, .records] ⊆ ps₀) (e₀ : execFenceWaitSatisfied n key s = .next t₀) (h₀ : Frame ps₀ s₀ s) :
    Frame ps₀ s₀ t₀ := by
  unfold execFenceWaitSatisfied at e₀
  cases e₀
  repeat' first
    | with_reducible assumption
    | with_reducible apply State.queueJob_frame (hs₀ := Part.tr (by decide) hs₀)
    | with_reducible apply State.settle_frame (hs₀ := Part.tr (by decide) hs₀)
    | with_reducible apply State.setJob_frame (hs₀ := Part.tr (by decide) hs₀)
    | with_reducible apply State.endJob_frame (hs₀ := Part.tr (by decide) hs₀)
    | with_reducible refine Frame.ite ?_ ?_
    | split

theorem State.drawCommand_frame {ps₀ : List Part} {s₀ : State} (s : State) (n : ℕ) (key : ℕ) (op : ℕ) (f : Bytes → Job → State → Option State)
    (hs₀ : [.objects, .results, .memory, .raster, .translator, .checks, .records] ⊆ ps₀) (hf : ∀ x0 x1 x2, Frame ps₀ s₀ x2 → FrameOpt ps₀ s₀ (f x0 x1 x2)) (h₀ : Frame ps₀ s₀ s) :
    Frame ps₀ s₀ (State.drawCommand s n key op f) := by
  unfold State.drawCommand
  repeat' first
    | with_reducible assumption
    | with_reducible apply State.settle_frame (hs₀ := Part.tr (by decide) hs₀)
    | with_reducible apply State.setJob_frame (hs₀ := Part.tr (by decide) hs₀)
    | with_reducible apply State.endJob_frame (hs₀ := Part.tr (by decide) hs₀)
    | with_reducible refine FrameOpt.get (h := hf _ _ _ ?_) (e := by with_reducible assumption)
    | with_reducible refine Frame.ite ?_ ?_
    | dsimp only
    | split

theorem State.setDraw_frame {ps₀ : List Part} {s₀ : State} (s : State) (n : ℕ) (j : Job) (d : DrawState)
    (hs₀ : [.raster] ⊆ ps₀) (h₀ : Frame ps₀ s₀ s) :
    Frame ps₀ s₀ (State.setDraw s n j d) := by
  unfold State.setDraw
  repeat' first
    | with_reducible assumption
    | with_reducible apply State.setJob_frame (hs₀ := Part.tr (by decide) hs₀)

theorem execDrawListEnd_frame {ps₀ : List Part} {s₀ t₀ : State} (n : Fin 8) (key : ℕ) (s : State)
    (hs₀ : [.objects, .results, .memory, .raster, .translator, .checks, .records] ⊆ ps₀) (e₀ : execDrawListEnd n key s = .next t₀) (h₀ : Frame ps₀ s₀ s) :
    Frame ps₀ s₀ t₀ := by
  unfold execDrawListEnd at e₀
  cases e₀
  repeat' first
    | with_reducible assumption
    | with_reducible apply State.drawCommand_frame (hs₀ := Part.tr (by decide) hs₀)
    | with_reducible apply State.setDraw_frame (hs₀ := Part.tr (by decide) hs₀)
    | with_reducible refine FrameOpt.ofSome ?_
    | with_reducible intro _

theorem execBindPipeline_frame {ps₀ : List Part} {s₀ t₀ : State} (n : Fin 8) (key : ℕ) (s : State)
    (hs₀ : [.objects, .results, .memory, .raster, .translator, .checks, .records] ⊆ ps₀) (e₀ : execBindPipeline n key s = .next t₀) (h₀ : Frame ps₀ s₀ s) :
    Frame ps₀ s₀ t₀ := by
  unfold execBindPipeline at e₀
  cases e₀
  repeat' first
    | with_reducible assumption
    | with_reducible apply State.drawCommand_frame (hs₀ := Part.tr (by decide) hs₀)
    | with_reducible apply State.setDraw_frame (hs₀ := Part.tr (by decide) hs₀)
    | with_reducible apply State.endJob_frame (hs₀ := Part.tr (by decide) hs₀)
    | with_reducible refine FrameOpt.ofSome ?_
    | with_reducible intro _
    | dsimp only
    | split

theorem execBindSet_frame {ps₀ : List Part} {s₀ t₀ : State} (n : Fin 8) (key : ℕ) (s : State)
    (hs₀ : [.objects, .results, .memory, .raster, .translator, .checks, .records] ⊆ ps₀) (e₀ : execBindSet n key s = .next t₀) (h₀ : Frame ps₀ s₀ s) :
    Frame ps₀ s₀ t₀ := by
  unfold execBindSet at e₀
  cases e₀
  repeat' first
    | with_reducible assumption
    | with_reducible apply State.drawCommand_frame (hs₀ := Part.tr (by decide) hs₀)
    | with_reducible apply State.setDraw_frame (hs₀ := Part.tr (by decide) hs₀)
    | with_reducible apply State.endJob_frame (hs₀ := Part.tr (by decide) hs₀)
    | with_reducible exact FrameOpt.ofNone
    | with_reducible refine FrameOpt.ofSome ?_
    | with_reducible refine FrameOpt.ite ?_ ?_
    | with_reducible intro _
    | dsimp only
    | split

theorem execPushData_frame {ps₀ : List Part} {s₀ t₀ : State} (n : Fin 8) (key : ℕ) (s : State)
    (hs₀ : [.objects, .results, .memory, .raster, .translator, .checks, .records] ⊆ ps₀) (e₀ : execPushData n key s = .next t₀) (h₀ : Frame ps₀ s₀ s) :
    Frame ps₀ s₀ t₀ := by
  unfold execPushData at e₀
  cases e₀
  repeat' first
    | with_reducible assumption
    | with_reducible apply State.drawCommand_frame (hs₀ := Part.tr (by decide) hs₀)
    | with_reducible apply State.setDraw_frame (hs₀ := Part.tr (by decide) hs₀)
    | with_reducible apply State.endJob_frame (hs₀ := Part.tr (by decide) hs₀)
    | with_reducible exact FrameOpt.ofNone
    | with_reducible refine FrameOpt.ofSome ?_
    | with_reducible refine FrameOpt.ite ?_ ?_
    | with_reducible intro _
    | dsimp only
    | split

theorem execBindVertex_frame {ps₀ : List Part} {s₀ t₀ : State} (n : Fin 8) (key : ℕ) (s : State)
    (hs₀ : [.objects, .results, .memory, .raster, .translator, .checks, .records] ⊆ ps₀) (e₀ : execBindVertex n key s = .next t₀) (h₀ : Frame ps₀ s₀ s) :
    Frame ps₀ s₀ t₀ := by
  unfold execBindVertex at e₀
  cases e₀
  repeat' first
    | with_reducible assumption
    | with_reducible apply State.drawCommand_frame (hs₀ := Part.tr (by decide) hs₀)
    | with_reducible apply State.setDraw_frame (hs₀ := Part.tr (by decide) hs₀)
    | with_reducible exact FrameOpt.ofNone
    | with_reducible refine FrameOpt.ofSome ?_
    | with_reducible refine FrameOpt.ite ?_ ?_
    | with_reducible intro _

theorem execBindIndex_frame {ps₀ : List Part} {s₀ t₀ : State} (n : Fin 8) (key : ℕ) (s : State)
    (hs₀ : [.objects, .results, .memory, .raster, .translator, .checks, .records] ⊆ ps₀) (e₀ : execBindIndex n key s = .next t₀) (h₀ : Frame ps₀ s₀ s) :
    Frame ps₀ s₀ t₀ := by
  unfold execBindIndex at e₀
  cases e₀
  repeat' first
    | with_reducible assumption
    | with_reducible apply State.drawCommand_frame (hs₀ := Part.tr (by decide) hs₀)
    | with_reducible apply State.setDraw_frame (hs₀ := Part.tr (by decide) hs₀)
    | with_reducible exact FrameOpt.ofNone
    | with_reducible refine FrameOpt.ofSome ?_
    | with_reducible refine FrameOpt.ite ?_ ?_
    | with_reducible intro _

theorem State.issue_frame {ps₀ : List Part} {s₀ : State} (s : State) (n : ℕ) (j : Job) (indexed : Bool) (l : List DrawArgs)
    (hs₀ : [.objects, .results, .memory, .raster, .checks, .records] ⊆ ps₀) (h₀ : Frame ps₀ s₀ s) :
    FrameOpt ps₀ s₀ (State.issue s n j indexed l) := by
  unfold State.issue
  repeat' first
    | with_reducible assumption
    | with_reducible apply State.setJob_frame (hs₀ := Part.tr (by decide) hs₀)
    | with_reducible apply State.endJob_frame (hs₀ := Part.tr (by decide) hs₀)
    | with_reducible exact FrameOpt.ofNone
    | with_reducible refine FrameOpt.ofSome ?_
    | with_reducible refine FrameOpt.ite ?_ ?_
    | split

theorem execDraw_frame {ps₀ : List Part} {s₀ t₀ : State} (n : Fin 8) (key : ℕ) (s : State)
    (hs₀ : [.objects, .results, .memory, .raster, .translator, .checks, .records] ⊆ ps₀) (e₀ : execDraw n key s = .next t₀) (h₀ : Frame ps₀ s₀ s) :
    Frame ps₀ s₀ t₀ := by
  unfold execDraw at e₀
  cases e₀
  repeat' first
    | with_reducible assumption
    | with_reducible apply State.issue_frame (hs₀ := Part.tr (by decide) hs₀)
    | with_reducible apply State.drawCommand_frame (hs₀ := Part.tr (by decide) hs₀)
    | with_reducible intro _

theorem execDrawIndexed_frame {ps₀ : List Part} {s₀ t₀ : State} (n : Fin 8) (key : ℕ) (s : State)
    (hs₀ : [.objects, .results, .memory, .raster, .translator, .checks, .records] ⊆ ps₀) (e₀ : execDrawIndexed n key s = .next t₀) (h₀ : Frame ps₀ s₀ s) :
    Frame ps₀ s₀ t₀ := by
  unfold execDrawIndexed at e₀
  cases e₀
  repeat' first
    | with_reducible assumption
    | with_reducible apply State.issue_frame (hs₀ := Part.tr (by decide) hs₀)
    | with_reducible apply State.drawCommand_frame (hs₀ := Part.tr (by decide) hs₀)
    | with_reducible intro _

theorem execDrawIndirect_frame {ps₀ : List Part} {s₀ t₀ : State} (n : Fin 8) (key : ℕ) (s : State)
    (hs₀ : [.objects, .results, .memory, .raster, .translator, .checks, .records] ⊆ ps₀) (e₀ : execDrawIndirect n key s = .next t₀) (h₀ : Frame ps₀ s₀ s) :
    Frame ps₀ s₀ t₀ := by
  unfold execDrawIndirect at e₀
  cases e₀
  repeat' first
    | with_reducible assumption
    | with_reducible apply State.issue_frame (hs₀ := Part.tr (by decide) hs₀)
    | with_reducible apply State.drawCommand_frame (hs₀ := Part.tr (by decide) hs₀)
    | with_reducible apply State.endJob_frame (hs₀ := Part.tr (by decide) hs₀)
    | with_reducible exact FrameOpt.ofNone
    | with_reducible refine FrameOpt.ofSome ?_
    | with_reducible refine FrameOpt.ite ?_ ?_
    | with_reducible intro _
    | split

theorem execSetViewport_frame {ps₀ : List Part} {s₀ t₀ : State} (n : Fin 8) (key : ℕ) (s : State)
    (hs₀ : [.objects, .results, .memory, .raster, .translator, .checks, .records] ⊆ ps₀) (e₀ : execSetViewport n key s = .next t₀) (h₀ : Frame ps₀ s₀ s) :
    Frame ps₀ s₀ t₀ := by
  unfold execSetViewport at e₀
  cases e₀
  repeat' first
    | with_reducible assumption
    | with_reducible apply State.drawCommand_frame (hs₀ := Part.tr (by decide) hs₀)
    | with_reducible apply State.setDraw_frame (hs₀ := Part.tr (by decide) hs₀)
    | with_reducible refine FrameOpt.ofSome ?_
    | with_reducible intro _

theorem execSetScissor_frame {ps₀ : List Part} {s₀ t₀ : State} (n : Fin 8) (key : ℕ) (s : State)
    (hs₀ : [.objects, .results, .memory, .raster, .translator, .checks, .records] ⊆ ps₀) (e₀ : execSetScissor n key s = .next t₀) (h₀ : Frame ps₀ s₀ s) :
    Frame ps₀ s₀ t₀ := by
  unfold execSetScissor at e₀
  cases e₀
  repeat' first
    | with_reducible assumption
    | with_reducible apply State.drawCommand_frame (hs₀ := Part.tr (by decide) hs₀)
    | with_reducible apply State.setDraw_frame (hs₀ := Part.tr (by decide) hs₀)
    | with_reducible refine FrameOpt.ofSome ?_
    | with_reducible intro _

theorem State.freeSamples_frame {ps₀ : List Part} {s₀ : State} (s : State) (k : ℕ) (bps : ℕ)
    (hs₀ : [.free] ⊆ ps₀) (h₀ : Frame ps₀ s₀ s) :
    Frame ps₀ s₀ (State.freeSamples s k bps).2 := by
  unfold State.freeSamples
  repeat' first
    | with_reducible assumption
    | with_reducible apply State.drawBytes_frame (hs₀ := Part.tr (by decide) hs₀)

theorem State.freeSamples_out {ps₀ : List Part} {s₀ : State} (s : State) (k : ℕ) (bps : ℕ) {y₀ z₀}
    (hs₀ : [.free] ⊆ ps₀) (e₀ : State.freeSamples s k bps = (y₀, z₀)) (h₀ : Frame ps₀ s₀ s) : Frame ps₀ s₀ z₀ := by
  have x₀ := State.freeSamples_frame s k bps hs₀ h₀; rw [e₀] at x₀; exact x₀

theorem State.tileBase_frame {ps₀ : List Part} {s₀ : State} (s : State) (n : ℕ) (j : Job) (a : Attachment) (tx : ℕ) (ty : ℕ)
    (hs₀ : [.free] ⊆ ps₀) (h₀ : Frame ps₀ s₀ s) :
    Frame ps₀ s₀ (State.tileBase s n j a tx ty).2 := by
  unfold State.tileBase
  repeat' first
    | with_reducible assumption
    | with_reducible apply State.freeSamples_frame (hs₀ := Part.tr (by decide) hs₀)
    | with_reducible refine Frame.iteSnd ?_ ?_

theorem State.tileBase_out {ps₀ : List Part} {s₀ : State} (s : State) (n : ℕ) (j : Job) (a : Attachment) (tx : ℕ) (ty : ℕ) {y₀ z₀}
    (hs₀ : [.free] ⊆ ps₀) (e₀ : State.tileBase s n j a tx ty = (y₀, z₀)) (h₀ : Frame ps₀ s₀ s) : Frame ps₀ s₀ z₀ := by
  have x₀ := State.tileBase_frame s n j a tx ty hs₀ h₀; rw [e₀] at x₀; exact x₀

theorem State.tileBases_frame {ps₀ : List Part} {s₀ : State} (s : State) (n : ℕ) (j : Job) (tx : ℕ) (ty : ℕ)
    (hs₀ : [.free] ⊆ ps₀) (h₀ : Frame ps₀ s₀ s) :
    Frame ps₀ s₀ (State.tileBases s n j tx ty).2 := by
  unfold State.tileBases
  repeat' first
    | with_reducible assumption
    | with_reducible apply State.tileBase_frame (hs₀ := Part.tr (by decide) hs₀)
    | with_reducible refine Frame.foldlSnd (fun _ _ _ => ?_) ?_

theorem State.tileBases_out {ps₀ : List Part} {s₀ : State} (s : State) (n : ℕ) (j : Job) (tx : ℕ) (ty : ℕ) {y₀ z₀}
    (hs₀ : [.free] ⊆ ps₀) (e₀ : State.tileBases s n j tx ty = (y₀, z₀)) (h₀ : Frame ps₀ s₀ s) : Frame ps₀ s₀ z₀ := by
  have x₀ := State.tileBases_frame s n j tx ty hs₀ h₀; rw [e₀] at x₀; exact x₀

theorem State.storeAtt_frame {ps₀ : List Part} {s₀ : State} (s : State) (n : ℕ) (key : ℕ) (ix : ℕ) (a : Attachment) (tx : ℕ) (ty : ℕ) (tile : List Bytes)
    (hs₀ : [.objects, .results, .memory, .raster, .checks, .records, .free] ⊆ ps₀) (h₀ : Frame ps₀ s₀ s) :
    Frame ps₀ s₀ (State.storeAtt s n key ix a tx ty tile) := by
  unfold State.storeAtt
  repeat' first
    | with_reducible assumption
    | with_reducible apply State.freeSamples_frame (hs₀ := Part.tr (by decide) hs₀)
    | with_reducible apply State.total_frame (hs₀ := Part.tr (by decide) hs₀)
    | with_reducible apply State.setJob_frame (hs₀ := Part.tr (by decide) hs₀)
    | with_reducible apply State.writeTagged_frame (hs₀ := Part.tr (by decide) hs₀)
    | with_reducible refine Frame.ite ?_ ?_
    | with_reducible refine Frame.iteSnd ?_ ?_
    | with_reducible refine Frame.foldl (fun _ _ _ => ?_) ?_
    | dsimp only
    | split

theorem State.storeTile_frame {ps₀ : List Part} {s₀ : State} (s : State) (n : ℕ) (key : ℕ) (tx : ℕ) (ty : ℕ)
    (hs₀ : [.objects, .results, .memory, .raster, .checks, .records, .free] ⊆ ps₀) (h₀ : Frame ps₀ s₀ s) :
    Frame ps₀ s₀ (State.storeTile s n key tx ty) := by
  unfold State.storeTile
  repeat' first
    | with_reducible assumption
    | with_reducible apply State.tileBases_frame (hs₀ := Part.tr (by decide) hs₀)
    | with_reducible apply State.storeAtt_frame (hs₀ := Part.tr (by decide) hs₀)
    | with_reducible refine Frame.each (fun _ _ _ => ?_) ?_
    | dsimp only
    | split

theorem State.writeHeader_frame {ps₀ : List Part} {s₀ : State} (s : State) (n : ℕ) (j : Job) (ix : ℕ) (a : Attachment)
    (hs₀ : [.objects, .results, .memory, .checks, .records] ⊆ ps₀) (h₀ : Frame ps₀ s₀ s) :
    Frame ps₀ s₀ (State.writeHeader s n j ix a) := by
  unfold State.writeHeader
  repeat' first
    | with_reducible assumption
    | with_reducible apply State.writeTagged_frame (hs₀ := Part.tr (by decide) hs₀)
    | with_reducible refine Frame.ite ?_ ?_

theorem State.binPrims_frame {ps₀ : List Part} {s₀ : State} (s : State) (n : ℕ) (j : Job) (q3 : List BinPrim)
    (hs₀ : [.objects, .results, .memory, .checks, .records, .free] ⊆ ps₀) (h₀ : Frame ps₀ s₀ s) : Frame ps₀ s₀ (State.binPrims s n j q3).1 := by
  induction q3 generalizing s j with
  | nil => exact h₀
  | cons p l ih =>
    unfold State.binPrims
    dsimp only
    split
    · exact h₀
    · split
      · exact h₀
      · exact ih _ _ (State.writeTagged_frame _ _ _ _ _ _ (Part.tr (by decide) hs₀)
          (State.drawBytes_frame _ _ (Part.tr (by decide) hs₀) h₀))

theorem State.binPrims_out {ps₀ : List Part} {s₀ : State} (s : State) (n : ℕ) (j : Job) (q3 : List BinPrim) {y₀ z₀}
    (hs₀ : [.objects, .results, .memory, .checks, .records, .free] ⊆ ps₀) (e₀ : State.binPrims s n j q3 = (z₀, y₀)) (h₀ : Frame ps₀ s₀ s) : Frame ps₀ s₀ z₀ := by
  have x₀ := State.binPrims_frame s n j q3 hs₀ h₀; rw [e₀] at x₀; exact x₀

theorem State.binHeld_frame {ps₀ : List Part} {s₀ : State} (s : State) (n : ℕ) (key : ℕ) (q3 : ℕ)
    (hs₀ : [.objects, .results, .memory, .raster, .checks, .records, .free] ⊆ ps₀) (h₀ : Frame ps₀ s₀ s) :
    Frame ps₀ s₀ (State.binHeld s n key q3) := by
  induction q3 generalizing s with
  | zero => exact h₀
  | succ k₀ ih₀ =>
    unfold State.binHeld
    repeat' first
      | with_reducible assumption
      | with_reducible apply ih₀
      | with_reducible apply State.binPrims_frame (hs₀ := Part.tr (by decide) hs₀)
      | with_reducible apply State.setJob_frame (hs₀ := Part.tr (by decide) hs₀)
      | with_reducible apply State.startFrag_frame (hs₀ := Part.tr (by decide) hs₀)
      | with_reducible apply State.endJob_frame (hs₀ := Part.tr (by decide) hs₀)
      | with_reducible refine Frame.ite ?_ ?_
      | dsimp only
      | split

theorem State.batchDone_frame {ps₀ : List Part} {s₀ : State} (s : State) (n : ℕ) (key : ℕ) (first : ℕ) (prims : ℕ) (r : UnitResult)
    (hs₀ : [.objects, .results, .memory, .raster, .checks, .records, .free] ⊆ ps₀) (h₀ : Frame ps₀ s₀ s) :
    Frame ps₀ s₀ (State.batchDone s n key first prims r) := by
  unfold State.batchDone
  repeat' first
    | with_reducible assumption
    | with_reducible apply State.binHeld_frame (hs₀ := Part.tr (by decide) hs₀)
    | with_reducible apply State.setJob_frame (hs₀ := Part.tr (by decide) hs₀)
    | dsimp only
    | split

theorem State.passDone_frame {ps₀ : List Part} {s₀ : State} (s : State) (n : ℕ) (key : ℕ)
    (hs₀ : [.objects, .results, .memory, .raster, .checks, .records, .free] ⊆ ps₀) (h₀ : Frame ps₀ s₀ s) :
    Frame ps₀ s₀ (State.passDone s n key) := by
  unfold State.passDone
  repeat' first
    | with_reducible assumption
    | with_reducible apply State.writeHeader_frame (hs₀ := Part.tr (by decide) hs₀)
    | with_reducible apply State.binHeld_frame (hs₀ := Part.tr (by decide) hs₀)
    | with_reducible apply State.setJob_frame (hs₀ := Part.tr (by decide) hs₀)
    | with_reducible apply State.count_frame (hs₀ := Part.tr (by decide) hs₀)
    | with_reducible apply State.endJob_frame (hs₀ := Part.tr (by decide) hs₀)
    | with_reducible refine Frame.ite ?_ ?_
    | with_reducible refine Frame.each (fun _ _ _ => ?_) ?_
    | dsimp only
    | split

theorem State.tileDone_frame {ps₀ : List Part} {s₀ : State} (s : State) (n : ℕ) (key : ℕ) (core : ℕ) (tx : ℕ) (ty : ℕ) (part : ℕ) (parts : ℕ) (first : ℕ) (prims : ℕ) (r : UnitResult)
    (hs₀ : [.objects, .results, .memory, .raster, .checks, .records, .free] ⊆ ps₀) (h₀ : Frame ps₀ s₀ s) :
    FrameOpt ps₀ s₀ (State.tileDone s n key core tx ty part parts first prims r) := by
  unfold State.tileDone
  repeat' first
    | with_reducible assumption
    | with_reducible apply State.passDone_frame (hs₀ := Part.tr (by decide) hs₀)
    | with_reducible apply State.updJob_frame (hs₀ := Part.tr (by decide) hs₀)
    | with_reducible apply State.setJob_frame (hs₀ := Part.tr (by decide) hs₀)
    | with_reducible apply State.storeTile_frame (hs₀ := Part.tr (by decide) hs₀)
    | with_reducible apply State.endJob_frame (hs₀ := Part.tr (by decide) hs₀)
    | with_reducible refine Frame.ite ?_ ?_
    | with_reducible exact FrameOpt.ofNone
    | with_reducible refine FrameOpt.ofSome ?_
    | with_reducible refine FrameOpt.ite ?_ ?_
    | dsimp only
    | split

theorem execUnitComplete_frame {ps₀ : List Part} {s₀ t₀ : State} (n : Fin 8) (core : Fin 4) (k : ℕ) (r : UnitResult) (s : State)
    (hs₀ : [.objects, .results, .memory, .raster, .translator, .checks, .records, .free] ⊆ ps₀) (e₀ : execUnitComplete n core k r s = .next t₀) (h₀ : Frame ps₀ s₀ s) :
    Frame ps₀ s₀ t₀ := by
  unfold execUnitComplete at e₀
  cases e₀
  repeat' first
    | with_reducible assumption
    | with_reducible refine FrameOpt.get (h := State.tileDone_frame _ _ _ _ _ _ _ _ _ _ _ (hs₀ := Part.tr (by decide) hs₀) (h₀ := ?_)) (e := by with_reducible assumption)
    | with_reducible apply State.settle_frame (hs₀ := Part.tr (by decide) hs₀)
    | with_reducible apply State.setCore_frame (hs₀ := Part.tr (by decide) hs₀)
    | with_reducible apply State.batchDone_frame (hs₀ := Part.tr (by decide) hs₀)
    | with_reducible apply State.endJob_frame (hs₀ := Part.tr (by decide) hs₀)
    | with_reducible refine Frame.ite ?_ ?_
    | dsimp only
    | split

theorem execDeadlinePoint_frame {ps₀ : List Part} {s₀ t₀ : State} (n : Fin 8) (key : ℕ) (s : State)
    (hs₀ : [.objects, .results, .memory, .raster, .translator, .checks, .records] ⊆ ps₀) (e₀ : execDeadlinePoint n key s = .next t₀) (h₀ : Frame ps₀ s₀ s) :
    Frame ps₀ s₀ t₀ := by
  unfold execDeadlinePoint at e₀
  cases e₀
  repeat' first
    | with_reducible assumption
    | with_reducible apply State.settle_frame (hs₀ := Part.tr (by decide) hs₀)
    | with_reducible apply State.setJob_frame (hs₀ := Part.tr (by decide) hs₀)
    | with_reducible refine Frame.ite ?_ ?_
    | split

theorem execContextSaveDone_frame {ps₀ : List Part} {s₀ t₀ : State} (n : Fin 8) (core : Fin 4) (context : Bytes) (s : State)
    (hs₀ : [.objects, .results, .memory, .raster, .translator, .checks, .records] ⊆ ps₀) (e₀ : execContextSaveDone n core context s = .next t₀) (h₀ : Frame ps₀ s₀ s) :
    Frame ps₀ s₀ t₀ := by
  unfold execContextSaveDone at e₀
  cases e₀
  repeat' first
    | with_reducible assumption
    | with_reducible apply State.updJob_frame (hs₀ := Part.tr (by decide) hs₀)
    | with_reducible apply State.store_frame (hs₀ := Part.tr (by decide) hs₀)
    | with_reducible apply State.wr_frame (hs₀ := Part.tr (by decide) hs₀)
    | with_reducible apply State.settle_frame (hs₀ := Part.tr (by decide) hs₀)
    | with_reducible apply State.setCore_frame (hs₀ := Part.tr (by decide) hs₀)
    | dsimp only
    | split

theorem execContextRestoreDone_frame {ps₀ : List Part} {s₀ t₀ : State} (n : Fin 8) (core : Fin 4) (s : State)
    (hs₀ : [.objects, .results, .memory, .raster, .translator, .checks, .records] ⊆ ps₀) (e₀ : execContextRestoreDone n core s = .next t₀) (h₀ : Frame ps₀ s₀ s) :
    Frame ps₀ s₀ t₀ := by
  unfold execContextRestoreDone at e₀
  cases e₀
  repeat' first
    | with_reducible assumption
    | with_reducible apply State.setRas_frame (hs₀ := Part.tr (by decide) hs₀)
    | with_reducible apply State.settle_frame (hs₀ := Part.tr (by decide) hs₀)
    | with_reducible apply State.syncSlots_frame (hs₀ := Part.tr (by decide) hs₀)
    | with_reducible apply State.setCore_frame (hs₀ := Part.tr (by decide) hs₀)
    | with_reducible apply State.toStationLog_frame (hs₀ := Part.tr (by decide) hs₀)
    | with_reducible apply State.count_frame (hs₀ := Part.tr (by decide) hs₀)
    | with_reducible apply State.endJob_frame (hs₀ := Part.tr (by decide) hs₀)
    | with_reducible refine Frame.ite ?_ ?_
    | dsimp only
    | split

theorem execTileYieldLimit_frame {ps₀ : List Part} {s₀ t₀ : State} (n : Fin 8) (core : Fin 4) (s : State)
    (hs₀ : [.objects, .results, .memory, .raster, .translator, .checks, .records] ⊆ ps₀) (e₀ : execTileYieldLimit n core s = .next t₀) (h₀ : Frame ps₀ s₀ s) :
    Frame ps₀ s₀ t₀ := by
  unfold execTileYieldLimit at e₀
  cases e₀
  repeat' first
    | with_reducible assumption
    | with_reducible apply State.settle_frame (hs₀ := Part.tr (by decide) hs₀)
    | with_reducible apply State.setJob_frame (hs₀ := Part.tr (by decide) hs₀)
    | with_reducible apply State.setCore_frame (hs₀ := Part.tr (by decide) hs₀)
    | with_reducible apply State.count_frame (hs₀ := Part.tr (by decide) hs₀)
    | with_reducible refine Frame.ite ?_ ?_
    | dsimp only
    | split

theorem execJobAccessFault_frame {ps₀ : List Part} {s₀ t₀ : State} (n : Fin 8) (key : ℕ) (addr : ℕ) (len : ℕ) (write : Bool) (s : State)
    (hs₀ : [.objects, .results, .memory, .raster, .translator, .checks, .records] ⊆ ps₀) (e₀ : execJobAccessFault n key addr len write s = .next t₀) (h₀ : Frame ps₀ s₀ s) :
    Frame ps₀ s₀ t₀ := by
  unfold execJobAccessFault at e₀
  cases e₀
  repeat' first
    | with_reducible assumption
    | with_reducible apply State.settle_frame (hs₀ := Part.tr (by decide) hs₀)
    | with_reducible apply State.endJob_frame (hs₀ := Part.tr (by decide) hs₀)
    | with_reducible refine Frame.ite ?_ ?_
    | split

theorem execJobTimeLimit_frame {ps₀ : List Part} {s₀ t₀ : State} (n : Fin 8) (key : ℕ) (s : State)
    (hs₀ : [.objects, .results, .memory, .raster, .translator, .checks, .records] ⊆ ps₀) (e₀ : execJobTimeLimit n key s = .next t₀) (h₀ : Frame ps₀ s₀ s) :
    Frame ps₀ s₀ t₀ := by
  unfold execJobTimeLimit at e₀
  cases e₀
  repeat' first
    | with_reducible assumption
    | with_reducible apply State.settle_frame (hs₀ := Part.tr (by decide) hs₀)
    | with_reducible apply State.endJob_frame (hs₀ := Part.tr (by decide) hs₀)
    | with_reducible refine Frame.ite ?_ ?_
    | split

theorem execJobComplete_frame {ps₀ : List Part} {s₀ t₀ : State} (n : Fin 8) (key : ℕ) (s : State)
    (hs₀ : [.objects, .results, .memory, .raster, .translator, .slices, .ports, .checks, .records, .out] ⊆ ps₀) (e₀ : execJobComplete n key s = .next t₀) (h₀ : Frame ps₀ s₀ s) :
    Frame ps₀ s₀ t₀ := by
  unfold execJobComplete at e₀
  cases e₀
  repeat' first
    | with_reducible assumption
    | with_reducible apply State.completeJob_frame (hs₀ := Part.tr (by decide) hs₀)
    | with_reducible apply State.fetch_frame (hs₀ := Part.tr (by decide) hs₀)

theorem execTranslationStart_frame {ps₀ : List Part} {s₀ t₀ : State} (s : State)
    (hs₀ : [.translator] ⊆ ps₀) (e₀ : execTranslationStart s = .next t₀) (h₀ : Frame ps₀ s₀ s) :
    Frame ps₀ s₀ t₀ := by
  unfold execTranslationStart at e₀
  cases e₀
  repeat' first
    | with_reducible assumption
    | (conv => arg 3; arg 50); with_reducible refine Frame.set_translator (Part.lift hs₀ (by decide)) ?_
    | with_reducible refine Frame.ite ?_ ?_
    | split

theorem State.evict_frame {ps₀ : List Part} {s₀ : State} (s : State) (n : ℕ) (need : ℕ) (cap : ℕ) (shares : ℕ → Bool) (q5 : ℕ)
    (hs₀ : [.objects, .raster] ⊆ ps₀) (h₀ : Frame ps₀ s₀ s) :
    Frame ps₀ s₀ (State.evict s n need cap shares q5) := by
  induction q5 generalizing s with
  | zero => exact h₀
  | succ k₀ ih₀ =>
    unfold State.evict
    repeat' first
      | with_reducible assumption
      | with_reducible apply ih₀
      | with_reducible apply State.setRas_frame (hs₀ := Part.tr (by decide) hs₀)
      | with_reducible apply State.syncCache_frame (hs₀ := Part.tr (by decide) hs₀)
      | with_reducible refine Frame.ite ?_ ?_
      | dsimp only
      | split

theorem State.cachePut_frame {ps₀ : List Part} {s₀ : State} (s : State) (n : ℕ) (q : TransReq) (res : TransResult)
    (hs₀ : [.objects, .raster] ⊆ ps₀) (h₀ : Frame ps₀ s₀ s) :
    Frame ps₀ s₀ (State.cachePut s n q res).1 := by
  unfold State.cachePut
  repeat' first
    | with_reducible assumption
    | with_reducible apply State.setRas_frame (hs₀ := Part.tr (by decide) hs₀)
    | with_reducible apply State.syncCache_frame (hs₀ := Part.tr (by decide) hs₀)
    | with_reducible apply State.evict_frame (hs₀ := Part.tr (by decide) hs₀)
    | with_reducible refine Frame.iteFst ?_ ?_

theorem State.cachePut_out {ps₀ : List Part} {s₀ : State} (s : State) (n : ℕ) (q : TransReq) (res : TransResult) {y₀ z₀}
    (hs₀ : [.objects, .raster] ⊆ ps₀) (e₀ : State.cachePut s n q res = (z₀, y₀)) (h₀ : Frame ps₀ s₀ s) : Frame ps₀ s₀ z₀ := by
  have x₀ := State.cachePut_frame s n q res hs₀ h₀; rw [e₀] at x₀; exact x₀

theorem State.keepRenewed_frame {ps₀ : List Part} {s₀ : State} (s : State) (n : ℕ) (q : TransReq) (res : TransResult)
    (hs₀ : [.raster] ⊆ ps₀) (h₀ : Frame ps₀ s₀ s) :
    Frame ps₀ s₀ (State.keepRenewed s n q res) := by
  unfold State.keepRenewed
  repeat' first
    | with_reducible assumption
    | with_reducible apply State.setRas_frame (hs₀ := Part.tr (by decide) hs₀)

theorem execTranslationComplete_frame {ps₀ : List Part} {s₀ t₀ : State} (res : TransResult) (s : State)
    (hs₀ : [.objects, .results, .memory, .raster, .translator, .checks, .records] ⊆ ps₀) (e₀ : execTranslationComplete res s = .next t₀) (h₀ : Frame ps₀ s₀ s) :
    Frame ps₀ s₀ t₀ := by
  unfold execTranslationComplete at e₀
  cases e₀
  repeat' first
    | with_reducible assumption
    | with_reducible apply State.cachePut_frame (hs₀ := Part.tr (by decide) hs₀)
    | with_reducible apply State.keepRenewed_frame (hs₀ := Part.tr (by decide) hs₀)
    | with_reducible apply State.wr_frame (hs₀ := Part.tr (by decide) hs₀)
    | with_reducible apply State.settle_frame (hs₀ := Part.tr (by decide) hs₀)
    | with_reducible apply State.firmware_frame (hs₀ := Part.tr (by decide) hs₀)
    | with_reducible apply State.endJob_frame (hs₀ := Part.tr (by decide) hs₀)
    | (conv => arg 3; arg 50); with_reducible refine Frame.set_translator (Part.lift hs₀ (by decide)) ?_
    | with_reducible refine Frame.ite ?_ ?_
    | with_reducible refine Frame.iteFst ?_ ?_
    | with_reducible intro _
    | dsimp only
    | split

theorem execPipelineDropFree_frame {ps₀ : List Part} {s₀ t₀ : State} (n : Fin 8) (t : Fin 512) (handle : ℕ) (s : State)
    (hs₀ : [.objects, .raster] ⊆ ps₀) (e₀ : execPipelineDropFree n t handle s = .next t₀) (h₀ : Frame ps₀ s₀ s) :
    Frame ps₀ s₀ t₀ := by
  unfold execPipelineDropFree at e₀
  cases e₀
  repeat' first
    | with_reducible assumption
    | with_reducible apply State.setRas_frame (hs₀ := Part.tr (by decide) hs₀)
    | with_reducible apply State.syncCache_frame (hs₀ := Part.tr (by decide) hs₀)
    | with_reducible refine Frame.ite ?_ ?_

theorem execRetranslationSwap_frame {ps₀ : List Part} {s₀ t₀ : State} (n : Fin 8) (t : Fin 512) (handle : ℕ) (s : State)
    (hs₀ : [.objects, .results, .memory, .raster, .translator, .checks, .records] ⊆ ps₀) (e₀ : execRetranslationSwap n t handle s = .next t₀) (h₀ : Frame ps₀ s₀ s) :
    Frame ps₀ s₀ t₀ := by
  unfold execRetranslationSwap at e₀
  cases e₀
  repeat' first
    | with_reducible assumption
    | with_reducible apply State.setRas_frame (hs₀ := Part.tr (by decide) hs₀)
    | with_reducible apply State.syncCache_frame (hs₀ := Part.tr (by decide) hs₀)
    | with_reducible apply State.settle_frame (hs₀ := Part.tr (by decide) hs₀)
    | with_reducible refine Frame.ite ?_ ?_

theorem State.retranslateOld_frame {ps₀ : List Part} {s₀ : State} (s : State) (n : ℕ) (version : ℕ)
    (hs₀ : [.translator] ⊆ ps₀) (h₀ : Frame ps₀ s₀ s) :
    Frame ps₀ s₀ (State.retranslateOld s n version) := by
  unfold State.retranslateOld
  repeat' first
    | with_reducible assumption
    | (conv => arg 3; arg 50); with_reducible refine Frame.set_translator (Part.lift hs₀ (by decide)) ?_
    | dsimp only

theorem State.withdrawOld_frame {ps₀ : List Part} {s₀ : State} (s : State) (n : ℕ) (version : ℕ)
    (hs₀ : [.raster] ⊆ ps₀) (h₀ : Frame ps₀ s₀ s) :
    Frame ps₀ s₀ (State.withdrawOld s n version) := by
  unfold State.withdrawOld
  repeat' first
    | with_reducible assumption
    | with_reducible apply State.setRas_frame (hs₀ := Part.tr (by decide) hs₀)

/-! ### Machine/Energy.lean -/

theorem State.setSten_frame {ps₀ : List Part} {s₀ : State} (s : State) (n : ℕ) (v : StationEnergy)
    (hs₀ : [.energy] ⊆ ps₀) (h₀ : Frame ps₀ s₀ s) :
    Frame ps₀ s₀ (State.setSten s n v) := by
  unfold State.setSten
  repeat' first
    | with_reducible assumption
    | (conv => arg 3; arg 50); with_reducible refine Frame.set_energy (Part.lift hs₀ (by decide)) ?_

theorem State.addFine_frame {ps₀ : List Part} {s₀ : State} (s : State) (k : ℕ × ℕ × ℕ) (fine : ℕ) (f : ℕ → State → State)
    (hs₀ : [.energy] ⊆ ps₀) (hf : ∀ x0 x1, Frame ps₀ s₀ x1 → Frame ps₀ s₀ (f x0 x1)) (h₀ : Frame ps₀ s₀ s) :
    Frame ps₀ s₀ (State.addFine s k fine f) := by
  unfold State.addFine
  repeat' first
    | with_reducible assumption
    | (conv => arg 3; arg 50); with_reducible refine Frame.set_energy (Part.lift hs₀ (by decide)) ?_
    | with_reducible apply hf
    | with_reducible refine Frame.ite ?_ ?_

theorem State.chargeTenant_frame {ps₀ : List Part} {s₀ : State} (s : State) (n : ℕ) (t : ℕ) (fine : ℕ)
    (hs₀ : [.objects, .energy] ⊆ ps₀) (h₀ : Frame ps₀ s₀ s) :
    Frame ps₀ s₀ (State.chargeTenant s n t fine) := by
  unfold State.chargeTenant
  repeat' first
    | with_reducible assumption
    | with_reducible apply State.addFine_frame (hs₀ := Part.tr (by decide) hs₀)
    | with_reducible apply State.total_frame (hs₀ := Part.tr (by decide) hs₀)
    | with_reducible apply State.wr_frame (hs₀ := Part.tr (by decide) hs₀)
    | (conv => arg 3; arg 50); with_reducible refine Frame.set_energy (Part.lift hs₀ (by decide)) ?_
    | with_reducible intro _

theorem State.chargeEnclave_frame {ps₀ : List Part} {s₀ : State} (s : State) (e : ℕ) (station : Option ℕ) (fine : ℕ)
    (hs₀ : [.objects, .energy] ⊆ ps₀) (h₀ : Frame ps₀ s₀ s) :
    Frame ps₀ s₀ (State.chargeEnclave s e station fine) := by
  unfold State.chargeEnclave
  repeat' first
    | with_reducible assumption
    | with_reducible apply State.addFine_frame (hs₀ := Part.tr (by decide) hs₀)
    | with_reducible apply State.total_frame (hs₀ := Part.tr (by decide) hs₀)
    | with_reducible refine Frame.ite ?_ ?_
    | with_reducible intro _
    | split

theorem State.chargeAccount_frame {ps₀ : List Part} {s₀ : State} (s : State) (kind : ℕ) (n : ℕ) (fine : ℕ)
    (hs₀ : [.objects, .energy] ⊆ ps₀) (h₀ : Frame ps₀ s₀ s) :
    Frame ps₀ s₀ (State.chargeAccount s kind n fine) := by
  unfold State.chargeAccount
  repeat' first
    | with_reducible assumption
    | with_reducible apply State.addFine_frame (hs₀ := Part.tr (by decide) hs₀)
    | with_reducible apply State.total_frame (hs₀ := Part.tr (by decide) hs₀)
    | with_reducible refine Frame.ite ?_ ?_
    | with_reducible intro _

theorem State.chargePayer_frame {ps₀ : List Part} {s₀ : State} (s : State) (n : ℕ) (kind : ℕ) (p : Payer) (fine : ℕ)
    (hs₀ : [.objects, .raster, .energy] ⊆ ps₀) (h₀ : Frame ps₀ s₀ s) :
    Frame ps₀ s₀ (State.chargePayer s n kind p fine) := by
  unfold State.chargePayer
  repeat' first
    | with_reducible assumption
    | with_reducible apply State.chargeTenant_frame (hs₀ := Part.tr (by decide) hs₀)
    | with_reducible apply State.syncReserved_frame (hs₀ := Part.tr (by decide) hs₀)
    | with_reducible apply State.chargeEnclave_frame (hs₀ := Part.tr (by decide) hs₀)
    | with_reducible apply State.setJob_frame (hs₀ := Part.tr (by decide) hs₀)
    | with_reducible apply State.chargeAccount_frame (hs₀ := Part.tr (by decide) hs₀)
    | split

theorem State.splitCharge_frame {ps₀ : List Part} {s₀ : State} (s : State) (n : ℕ) (kind : ℕ) (fine : ℕ) (shares : List (Payer × ℕ))
    (hs₀ : [.objects, .raster, .energy] ⊆ ps₀) (h₀ : Frame ps₀ s₀ s) :
    Frame ps₀ s₀ (State.splitCharge s n kind fine shares) := by
  unfold State.splitCharge
  repeat' first
    | with_reducible assumption
    | with_reducible apply State.chargePayer_frame (hs₀ := Part.tr (by decide) hs₀)
    | with_reducible apply State.chargeAccount_frame (hs₀ := Part.tr (by decide) hs₀)
    | with_reducible refine Frame.ite ?_ ?_
    | with_reducible refine Frame.each (fun _ _ _ => ?_) ?_

theorem State.chargeStation_frame {ps₀ : List Part} {s₀ : State} (s : State) (n : ℕ) (e : ℕ → ℕ) (x : EnergySample)
    (hs₀ : [.objects, .raster, .energy] ⊆ ps₀) (h₀ : Frame ps₀ s₀ s) :
    Frame ps₀ s₀ (State.chargeStation s n e x) := by
  unfold State.chargeStation
  repeat' first
    | with_reducible assumption
    | with_reducible apply State.splitCharge_frame (hs₀ := Part.tr (by decide) hs₀)
    | with_reducible apply State.chargeAccount_frame (hs₀ := Part.tr (by decide) hs₀)
    | with_reducible refine Frame.ite ?_ ?_

theorem State.energySample_frame {ps₀ : List Part} {s₀ : State} (s : State) (x : EnergySample)
    (hs₀ : [.objects, .raster, .energy] ⊆ ps₀) (h₀ : Frame ps₀ s₀ s) :
    Frame ps₀ s₀ (State.energySample s x) := by
  unfold State.energySample
  repeat' first
    | with_reducible assumption
    | with_reducible apply State.setRas_frame (hs₀ := Part.tr (by decide) hs₀)
    | with_reducible apply State.addFine_frame (hs₀ := Part.tr (by decide) hs₀)
    | with_reducible apply State.total_frame (hs₀ := Part.tr (by decide) hs₀)
    | with_reducible apply State.wr_frame (hs₀ := Part.tr (by decide) hs₀)
    | with_reducible apply State.setSten_frame (hs₀ := Part.tr (by decide) hs₀)
    | with_reducible apply State.splitCharge_frame (hs₀ := Part.tr (by decide) hs₀)
    | with_reducible apply State.chargeStation_frame (hs₀ := Part.tr (by decide) hs₀)
    | with_reducible apply State.chargeAccount_frame (hs₀ := Part.tr (by decide) hs₀)
    | (conv => arg 3; arg 50); with_reducible refine Frame.set_energy (Part.lift hs₀ (by decide)) ?_
    | with_reducible refine Frame.each (fun _ _ _ => ?_) ?_
    | with_reducible refine Frame.foldl (fun _ _ _ => ?_) ?_
    | with_reducible intro _
    | dsimp only

theorem execEnergySample_frame {ps₀ : List Part} {s₀ t₀ : State} (x : EnergySample) (s : State)
    (hs₀ : [.objects, .raster, .energy] ⊆ ps₀) (e₀ : execEnergySample x s = .next t₀) (h₀ : Frame ps₀ s₀ s) :
    Frame ps₀ s₀ t₀ := by
  unfold execEnergySample at e₀
  cases e₀
  repeat' first
    | with_reducible assumption
    | with_reducible apply State.energySample_frame (hs₀ := Part.tr (by decide) hs₀)
    | with_reducible refine Frame.ite ?_ ?_

theorem State.budgetPeriod_frame {ps₀ : List Part} {s₀ : State} (s : State) (sensors : List ℤ)
    (hs₀ : [.objects, .energy, .records, .pins, .out] ⊆ ps₀) (h₀ : Frame ps₀ s₀ s) :
    Frame ps₀ s₀ (State.budgetPeriod s sensors) := by
  unfold State.budgetPeriod
  repeat' first
    | with_reducible assumption
    | with_reducible apply State.wrB_frame (hs₀ := Part.tr (by decide) hs₀)
    | with_reducible apply State.wr_frame (hs₀ := Part.tr (by decide) hs₀)
    | with_reducible apply State.setSten_frame (hs₀ := Part.tr (by decide) hs₀)
    | with_reducible apply State.clearAlarm_frame (hs₀ := Part.tr (by decide) hs₀)
    | with_reducible apply State.alarm_frame (hs₀ := Part.tr (by decide) hs₀)
    | (conv => arg 3; arg 50); with_reducible refine Frame.set_energy (Part.lift hs₀ (by decide)) ?_
    | with_reducible refine Frame.ite ?_ ?_
    | with_reducible refine Frame.each (fun _ _ _ => ?_) ?_

theorem execBudgetPeriod_frame {ps₀ : List Part} {s₀ t₀ : State} (sensors : List ℤ) (s : State)
    (hs₀ : [.objects, .energy, .records, .pins, .out] ⊆ ps₀) (e₀ : execBudgetPeriod sensors s = .next t₀) (h₀ : Frame ps₀ s₀ s) :
    Frame ps₀ s₀ t₀ := by
  unfold execBudgetPeriod at e₀
  cases e₀
  repeat' first
    | with_reducible assumption
    | with_reducible apply State.budgetPeriod_frame (hs₀ := Part.tr (by decide) hs₀)
    | with_reducible refine Frame.ite ?_ ?_

theorem State.growCredit_frame {ps₀ : List Part} {s₀ : State} (s : State) (n : ℕ) (t : ℕ)
    (hs₀ : [.objects] ⊆ ps₀) (h₀ : Frame ps₀ s₀ s) :
    Frame ps₀ s₀ (State.growCredit s n t) := by
  unfold State.growCredit
  repeat' first
    | with_reducible assumption
    | with_reducible apply State.wr_frame (hs₀ := Part.tr (by decide) hs₀)

theorem State.splitTenants_frame {ps₀ : List Part} {s₀ : State} (s : State) (n : ℕ)
    (hs₀ : [.objects] ⊆ ps₀) (h₀ : Frame ps₀ s₀ s) :
    Frame ps₀ s₀ (State.splitTenants s n) := by
  unfold State.splitTenants
  repeat' first
    | with_reducible assumption
    | with_reducible apply State.growCredit_frame (hs₀ := Part.tr (by decide) hs₀)
    | with_reducible apply State.wr_frame (hs₀ := Part.tr (by decide) hs₀)
    | with_reducible refine Frame.each (fun _ _ _ => ?_) ?_

theorem State.keepSplit_frame {ps₀ : List Part} {s₀ : State} (s : State)
    (hs₀ : [.objects, .results, .memory, .raster, .translator, .checks, .records] ⊆ ps₀) (h₀ : Frame ps₀ s₀ s) :
    Frame ps₀ s₀ (State.keepSplit s) := by
  unfold State.keepSplit
  repeat' first
    | with_reducible assumption
    | with_reducible apply State.growCredit_frame (hs₀ := Part.tr (by decide) hs₀)
    | with_reducible apply State.settle_frame (hs₀ := Part.tr (by decide) hs₀)
    | with_reducible apply State.presentDeferred_frame (hs₀ := Part.tr (by decide) hs₀)
    | with_reducible refine Frame.each (fun _ _ _ => ?_) ?_

theorem execEnergySplit_frame {ps₀ : List Part} {s₀ t₀ : State} (s : State)
    (hs₀ : [.objects, .results, .memory, .raster, .translator, .energy, .checks, .records, .pins, .out] ⊆ ps₀) (e₀ : execEnergySplit s = .next t₀) (h₀ : Frame ps₀ s₀ s) :
    Frame ps₀ s₀ t₀ := by
  unfold execEnergySplit at e₀
  cases e₀
  repeat' first
    | with_reducible assumption
    | with_reducible apply State.wrB_frame (hs₀ := Part.tr (by decide) hs₀)
    | with_reducible apply State.splitTenants_frame (hs₀ := Part.tr (by decide) hs₀)
    | with_reducible apply State.wr_frame (hs₀ := Part.tr (by decide) hs₀)
    | with_reducible apply State.settle_frame (hs₀ := Part.tr (by decide) hs₀)
    | with_reducible apply State.clearAlarm_frame (hs₀ := Part.tr (by decide) hs₀)
    | with_reducible apply State.presentDeferred_frame (hs₀ := Part.tr (by decide) hs₀)
    | with_reducible apply State.alarm_frame (hs₀ := Part.tr (by decide) hs₀)
    | with_reducible apply State.keepSplit_frame (hs₀ := Part.tr (by decide) hs₀)
    | (conv => arg 3; arg 50); with_reducible refine Frame.set_energy (Part.lift hs₀ (by decide)) ?_
    | with_reducible refine Frame.ite ?_ ?_
    | with_reducible refine Frame.each (fun _ _ _ => ?_) ?_

theorem State.setClock_frame {ps₀ : List Part} {s₀ : State} (s : State) (n : ℕ)
    (hs₀ : [.objects, .results, .memory, .raster, .translator, .checks, .records] ⊆ ps₀) (h₀ : Frame ps₀ s₀ s) :
    Frame ps₀ s₀ (State.setClock s n) := by
  unfold State.setClock
  repeat' first
    | with_reducible assumption
    | with_reducible apply State.redeadline_frame (hs₀ := Part.tr (by decide) hs₀)
    | with_reducible apply State.wr_frame (hs₀ := Part.tr (by decide) hs₀)
    | with_reducible apply State.settle_frame (hs₀ := Part.tr (by decide) hs₀)

theorem State.movePoint_frame {ps₀ : List Part} {s₀ : State} (s : State) (n : ℕ) (p : ℕ)
    (hs₀ : [.objects, .results, .memory, .raster, .translator, .energy, .checks, .records] ⊆ ps₀) (h₀ : Frame ps₀ s₀ s) :
    Frame ps₀ s₀ (State.movePoint s n p) := by
  unfold State.movePoint
  repeat' first
    | with_reducible assumption
    | with_reducible apply State.wr_frame (hs₀ := Part.tr (by decide) hs₀)
    | with_reducible apply State.setClock_frame (hs₀ := Part.tr (by decide) hs₀)
    | with_reducible apply State.setSten_frame (hs₀ := Part.tr (by decide) hs₀)
    | with_reducible refine Frame.ite ?_ ?_

theorem execShaderPointSettled_frame {ps₀ : List Part} {s₀ t₀ : State} (n : Fin 8) (s : State)
    (hs₀ : [.objects, .results, .memory, .raster, .translator, .energy, .checks, .records] ⊆ ps₀) (e₀ : execShaderPointSettled n s = .next t₀) (h₀ : Frame ps₀ s₀ s) :
    Frame ps₀ s₀ t₀ := by
  unfold execShaderPointSettled at e₀
  cases e₀
  repeat' first
    | with_reducible assumption
    | with_reducible apply State.wr_frame (hs₀ := Part.tr (by decide) hs₀)
    | with_reducible apply State.setClock_frame (hs₀ := Part.tr (by decide) hs₀)
    | with_reducible apply State.setSten_frame (hs₀ := Part.tr (by decide) hs₀)
    | with_reducible refine Frame.ite ?_ ?_
    | split

theorem State.shed_frame {ps₀ : List Part} {s₀ : State} (s : State) (n : ℕ)
    (hs₀ : [.objects, .results, .memory, .raster, .translator, .checks, .records] ⊆ ps₀) (h₀ : Frame ps₀ s₀ s) :
    Frame ps₀ s₀ (State.shed s n) := by
  unfold State.shed
  repeat' first
    | with_reducible assumption
    | with_reducible apply State.wr_frame (hs₀ := Part.tr (by decide) hs₀)
    | with_reducible apply State.settle_frame (hs₀ := Part.tr (by decide) hs₀)
    | with_reducible apply State.count_frame (hs₀ := Part.tr (by decide) hs₀)
    | with_reducible apply State.endJob_frame (hs₀ := Part.tr (by decide) hs₀)
    | with_reducible refine Frame.each (fun _ _ _ => ?_) ?_

theorem execStationTick_frame {ps₀ : List Part} {s₀ t₀ : State} (n : Fin 8) (s : State)
    (hs₀ : [.objects, .results, .memory, .raster, .translator, .energy, .checks, .records] ⊆ ps₀) (e₀ : execStationTick n s = .next t₀) (h₀ : Frame ps₀ s₀ s) :
    Frame ps₀ s₀ t₀ := by
  unfold execStationTick at e₀
  cases e₀
  repeat' first
    | with_reducible assumption
    | with_reducible apply State.wr_frame (hs₀ := Part.tr (by decide) hs₀)
    | with_reducible apply State.setSten_frame (hs₀ := Part.tr (by decide) hs₀)
    | with_reducible apply State.settle_frame (hs₀ := Part.tr (by decide) hs₀)
    | with_reducible apply State.shed_frame (hs₀ := Part.tr (by decide) hs₀)
    | with_reducible apply State.presentDeferred_frame (hs₀ := Part.tr (by decide) hs₀)
    | with_reducible apply State.count_frame (hs₀ := Part.tr (by decide) hs₀)
    | with_reducible apply State.movePoint_frame (hs₀ := Part.tr (by decide) hs₀)
    | with_reducible refine Frame.ite ?_ ?_

theorem State.energyOn_frame {ps₀ : List Part} {s₀ : State} (s : State) (n : ℕ)
    (hs₀ : [.objects, .results, .memory, .raster, .translator, .energy, .checks, .records] ⊆ ps₀) (h₀ : Frame ps₀ s₀ s) :
    Frame ps₀ s₀ (State.energyOn s n) := by
  unfold State.energyOn
  repeat' first
    | with_reducible assumption
    | with_reducible apply State.wr_frame (hs₀ := Part.tr (by decide) hs₀)
    | with_reducible apply State.setClock_frame (hs₀ := Part.tr (by decide) hs₀)
    | with_reducible apply State.setSten_frame (hs₀ := Part.tr (by decide) hs₀)

theorem State.energyOff_frame {ps₀ : List Part} {s₀ : State} (s : State) (n : ℕ)
    (hs₀ : [.objects, .energy] ⊆ ps₀) (h₀ : Frame ps₀ s₀ s) :
    Frame ps₀ s₀ (State.energyOff s n) := by
  unfold State.energyOff
  repeat' first
    | with_reducible assumption
    | with_reducible apply State.wr_frame (hs₀ := Part.tr (by decide) hs₀)
    | (conv => arg 3; arg 50); with_reducible refine Frame.set_energy (Part.lift hs₀ (by decide)) ?_

theorem State.setDivisor_frame {ps₀ : List Part} {s₀ : State} (s : State) (n : ℕ) (d : ℕ)
    (hs₀ : [.objects, .results, .memory, .raster, .translator, .energy, .checks, .records] ⊆ ps₀) (h₀ : Frame ps₀ s₀ s) :
    Frame ps₀ s₀ (State.setDivisor s n d) := by
  unfold State.setDivisor
  repeat' first
    | with_reducible assumption
    | with_reducible apply State.wr_frame (hs₀ := Part.tr (by decide) hs₀)
    | with_reducible apply State.setClock_frame (hs₀ := Part.tr (by decide) hs₀)
    | (conv => arg 3; arg 50); with_reducible refine Frame.set_energy (Part.lift hs₀ (by decide)) ?_
    | with_reducible refine Frame.ite ?_ ?_

theorem execWeirCompare_frame {ps₀ : List Part} {s₀ t₀ : State} (input : ℕ) (s : State)
    (hs₀ : [.objects, .results, .memory, .raster, .translator, .energy, .checks, .records] ⊆ ps₀) (e₀ : execWeirCompare input s = .next t₀) (h₀ : Frame ps₀ s₀ s) :
    Frame ps₀ s₀ t₀ := by
  unfold execWeirCompare at e₀
  cases e₀
  repeat' first
    | with_reducible assumption
    | with_reducible apply State.setDivisor_frame (hs₀ := Part.tr (by decide) hs₀)
    | with_reducible apply State.wr_frame (hs₀ := Part.tr (by decide) hs₀)
    | with_reducible apply State.count_frame (hs₀ := Part.tr (by decide) hs₀)
    | (conv => arg 3; arg 50); with_reducible refine Frame.set_energy (Part.lift hs₀ (by decide)) ?_
    | with_reducible refine Frame.ite ?_ ?_
    | with_reducible refine Frame.each (fun _ _ _ => ?_) ?_
    | dsimp only

theorem execWeirClampRank_frame {ps₀ : List Part} {s₀ t₀ : State} (x : WeirReading) (s : State)
    (hs₀ : [.objects, .results, .memory, .raster, .translator, .energy, .checks, .records] ⊆ ps₀) (e₀ : execWeirClampRank x s = .next t₀) (h₀ : Frame ps₀ s₀ s) :
    Frame ps₀ s₀ t₀ := by
  unfold execWeirClampRank at e₀
  cases e₀
  repeat' first
    | with_reducible assumption
    | with_reducible apply State.setDivisor_frame (hs₀ := Part.tr (by decide) hs₀)
    | with_reducible apply State.wr_frame (hs₀ := Part.tr (by decide) hs₀)
    | with_reducible refine Frame.ite ?_ ?_
    | with_reducible refine Frame.each (fun _ _ _ => ?_) ?_

theorem State.weirIdle_frame {ps₀ : List Part} {s₀ : State} (s : State)
    (hs₀ : [.objects, .records, .pins, .out] ⊆ ps₀) (h₀ : Frame ps₀ s₀ s) :
    Frame ps₀ s₀ (State.weirIdle s) := by
  unfold State.weirIdle
  repeat' first
    | with_reducible assumption
    | with_reducible apply State.wr_frame (hs₀ := Part.tr (by decide) hs₀)
    | with_reducible apply State.clearAlarm_frame (hs₀ := Part.tr (by decide) hs₀)

theorem execWeirReleaseCheck_frame {ps₀ : List Part} {s₀ t₀ : State} (x : WeirReading) (s : State)
    (hs₀ : [.objects, .results, .memory, .raster, .translator, .energy, .checks, .records, .pins, .out] ⊆ ps₀) (e₀ : execWeirReleaseCheck x s = .next t₀) (h₀ : Frame ps₀ s₀ s) :
    Frame ps₀ s₀ t₀ := by
  unfold execWeirReleaseCheck at e₀
  cases e₀
  repeat' first
    | with_reducible assumption
    | with_reducible apply State.setDivisor_frame (hs₀ := Part.tr (by decide) hs₀)
    | with_reducible apply State.wr_frame (hs₀ := Part.tr (by decide) hs₀)
    | with_reducible apply State.weirIdle_frame (hs₀ := Part.tr (by decide) hs₀)
    | (conv => arg 3; arg 50); with_reducible refine Frame.set_energy (Part.lift hs₀ (by decide)) ?_
    | with_reducible refine Frame.ite ?_ ?_
    | dsimp only
    | split

theorem execWeirSaturated_frame {ps₀ : List Part} {s₀ t₀ : State} (s : State)
    (hs₀ : [.objects, .records, .pins, .out] ⊆ ps₀) (e₀ : execWeirSaturated s = .next t₀) (h₀ : Frame ps₀ s₀ s) :
    Frame ps₀ s₀ t₀ := by
  unfold execWeirSaturated at e₀
  cases e₀
  repeat' first
    | with_reducible assumption
    | with_reducible apply State.wr_frame (hs₀ := Part.tr (by decide) hs₀)
    | with_reducible apply State.alarm_frame (hs₀ := Part.tr (by decide) hs₀)
    | with_reducible apply State.count_frame (hs₀ := Part.tr (by decide) hs₀)
    | with_reducible refine Frame.ite ?_ ?_
    | split

theorem execDeviceBudgetMw_frame {ps₀ : List Part} {s₀ t₀ : State} (who : Requester) (v : ℕ) (s : State)
    (hs₀ : [.objects, .slices, .records, .pins, .out] ⊆ ps₀) (e₀ : execDeviceBudgetMw who v s = .next t₀) (h₀ : Frame ps₀ s₀ s) :
    Frame ps₀ s₀ t₀ := by
  unfold execDeviceBudgetMw at e₀
  cases e₀
  repeat' first
    | with_reducible assumption
    | with_reducible apply State.answer_frame (hs₀ := Part.tr (by decide) hs₀)
    | with_reducible apply State.onWrite_frame (hs₀ := Part.tr (by decide) hs₀)
    | with_reducible apply State.wr_frame (hs₀ := Part.tr (by decide) hs₀)
    | with_reducible intro _

theorem State.energyCold_frame {ps₀ : List Part} {s₀ : State} (s : State)
    (hs₀ : [.objects, .energy] ⊆ ps₀) (h₀ : Frame ps₀ s₀ s) :
    Frame ps₀ s₀ (State.energyCold s) := by
  unfold State.energyCold
  repeat' first
    | with_reducible assumption
    | (conv => arg 3; arg 50); with_reducible refine Frame.set_regs_energy (Part.lift hs₀ (by decide)) (Part.lift hs₀ (by decide)) ?_
    | dsimp only

theorem State.clearLedger_frame {ps₀ : List Part} {s₀ : State} (s : State) (t : ℕ)
    (hs₀ : [.objects, .energy] ⊆ ps₀) (h₀ : Frame ps₀ s₀ s) :
    Frame ps₀ s₀ (State.clearLedger s t) := by
  unfold State.clearLedger
  repeat' first
    | with_reducible assumption
    | with_reducible apply State.wr_frame (hs₀ := Part.tr (by decide) hs₀)
    | (conv => arg 3; arg 50); with_reducible refine Frame.set_energy (Part.lift hs₀ (by decide)) ?_
    | with_reducible refine Frame.each (fun _ _ _ => ?_) ?_

end Sys2Proof.Machine
end

