-- ==== Sys2Proof/Laws/FrameEngines.lean ====
section
/-! SUPPORT. Which parts of the state the functions of the engines of a station, and device time leave alone. -/
namespace Sys2Proof.Machine

/-! ### Machine/Haptic.lean -/

theorem State.hapApply_frame {ps₀ : List Part} {s₀ : State} (s : State) (n : ℕ)
    (hs₀ : [.objects, .haptic] ⊆ ps₀) (h₀ : Frame ps₀ s₀ s) :
    Frame ps₀ s₀ (State.hapApply s n) := by
  unfold State.hapApply
  repeat' first
    | with_reducible assumption
    | with_reducible apply State.setHap_frame (hs₀ := Part.tr (by decide) hs₀)
    | with_reducible apply State.applyValues_frame (hs₀ := Part.tr (by decide) hs₀)
    | with_reducible refine Frame.ite ?_ ?_
    | dsimp only
    | split

theorem State.gates_frame {ps₀ : List Part} {s₀ : State} (s : State) (n : ℕ) (v : ℕ)
    (hs₀ : [.pins] ⊆ ps₀) (h₀ : Frame ps₀ s₀ s) :
    Frame ps₀ s₀ (State.gates s n v) := by
  unfold State.gates
  repeat' first
    | with_reducible assumption
    | with_reducible apply State.hold_frame (hs₀ := Part.tr (by decide) hs₀)

theorem State.setHapState_frame {ps₀ : List Part} {s₀ : State} (s : State) (n : ℕ) (v : ℕ)
    (hs₀ : [.objects, .stations, .haptic, .pins, .timers, .out] ⊆ ps₀) (h₀ : Frame ps₀ s₀ s) :
    Frame ps₀ s₀ (State.setHapState s n v) := by
  unfold State.setHapState
  repeat' first
    | with_reducible assumption
    | with_reducible apply State.syncEdge_frame (hs₀ := Part.tr (by decide) hs₀)
    | with_reducible apply State.stReady_frame (hs₀ := Part.tr (by decide) hs₀)
    | with_reducible apply State.hapApply_frame (hs₀ := Part.tr (by decide) hs₀)
    | with_reducible apply State.drive_frame (hs₀ := Part.tr (by decide) hs₀)
    | with_reducible apply State.wr_frame (hs₀ := Part.tr (by decide) hs₀)
    | with_reducible apply State.startTimer_frame (hs₀ := Part.tr (by decide) hs₀)
    | with_reducible apply State.gates_frame (hs₀ := Part.tr (by decide) hs₀)
    | with_reducible refine Frame.ite ?_ ?_

theorem State.putEffect_frame {ps₀ : List Part} {s₀ : State} (s : State) (n : ℕ) (e : ℕ) (b : Bytes) (owner : ℕ)
    (hs₀ : [.objects, .texts, .haptic] ⊆ ps₀) (h₀ : Frame ps₀ s₀ s) :
    Frame ps₀ s₀ (State.putEffect s n e b owner) := by
  unfold State.putEffect
  repeat' first
    | with_reducible assumption
    | with_reducible apply State.setHap_frame (hs₀ := Part.tr (by decide) hs₀)
    | with_reducible apply State.wr_frame (hs₀ := Part.tr (by decide) hs₀)
    | with_reducible apply State.wrBlob_frame (hs₀ := Part.tr (by decide) hs₀)
    | with_reducible apply State.noteSaved_frame (hs₀ := Part.tr (by decide) hs₀)
    | with_reducible refine Frame.ite ?_ ?_

theorem State.emptySlots_frame {ps₀ : List Part} {s₀ : State} (s : State) (n : ℕ)
    (hs₀ : [.objects, .texts, .haptic] ⊆ ps₀) (h₀ : Frame ps₀ s₀ s) :
    Frame ps₀ s₀ (State.emptySlots s n) := by
  unfold State.emptySlots
  repeat' first
    | with_reducible assumption
    | with_reducible apply State.putEffect_frame (hs₀ := Part.tr (by decide) hs₀)
    | with_reducible refine Frame.each (fun _ _ _ => ?_) ?_

theorem State.chargeOffPackage_frame {ps₀ : List Part} {s₀ : State} (s : State) (n : ℕ) (h : Holder) (uj : ℕ)
    (hs₀ : [.objects] ⊆ ps₀) (h₀ : Frame ps₀ s₀ s) :
    Frame ps₀ s₀ (State.chargeOffPackage s n h uj) := by
  unfold State.chargeOffPackage
  repeat' first
    | with_reducible assumption
    | with_reducible apply State.total_frame (hs₀ := Part.tr (by decide) hs₀)
    | dsimp only
    | split

theorem State.hapDone_frame {ps₀ : List Part} {s₀ : State} (s : State) (n : ℕ) (t : Trigger) (status : ℕ) (start : ℕ) (uj : ℕ)
    (hs₀ : [.objects, .records] ⊆ ps₀) (h₀ : Frame ps₀ s₀ s) :
    Frame ps₀ s₀ (State.hapDone s n t status start uj) := by
  unfold State.hapDone
  repeat' first
    | with_reducible assumption
    | with_reducible apply State.toHolder_frame (hs₀ := Part.tr (by decide) hs₀)
    | with_reducible apply State.count_frame (hs₀ := Part.tr (by decide) hs₀)
    | split

theorem State.hapRefuse_frame {ps₀ : List Part} {s₀ : State} (s : State) (n : ℕ) (t : Trigger) (status : ℕ)
    (hs₀ : [.objects, .records, .free] ⊆ ps₀) (h₀ : Frame ps₀ s₀ s) :
    Frame ps₀ s₀ (State.hapRefuse s n t status) := by
  unfold State.hapRefuse
  repeat' first
    | with_reducible assumption
    | with_reducible apply State.drawNat_frame (hs₀ := Part.tr (by decide) hs₀)
    | with_reducible apply State.hapDone_frame (hs₀ := Part.tr (by decide) hs₀)

theorem State.hapClose_frame {ps₀ : List Part} {s₀ : State} (s : State) (n : ℕ) (p : Play)
    (hs₀ : [.objects, .haptic, .records] ⊆ ps₀) (h₀ : Frame ps₀ s₀ s) :
    Frame ps₀ s₀ (State.hapClose s n p) := by
  unfold State.hapClose
  repeat' first
    | with_reducible assumption
    | with_reducible apply State.setHap_frame (hs₀ := Part.tr (by decide) hs₀)
    | with_reducible apply State.chargeOffPackage_frame (hs₀ := Part.tr (by decide) hs₀)
    | with_reducible apply State.hapDone_frame (hs₀ := Part.tr (by decide) hs₀)

theorem State.hapQueue_frame {ps₀ : List Part} {s₀ : State} (s : State) (n : ℕ) (t : Trigger)
    (hs₀ : [.objects, .hapticQueues, .records, .free] ⊆ ps₀) (h₀ : Frame ps₀ s₀ s) :
    Frame ps₀ s₀ (State.hapQueue s n t) := by
  unfold State.hapQueue
  repeat' first
    | with_reducible assumption
    | with_reducible apply State.hapRefuse_frame (hs₀ := Part.tr (by decide) hs₀)
    | with_reducible apply State.count_frame (hs₀ := Part.tr (by decide) hs₀)
    | (conv => arg 3; arg 50); with_reducible refine Frame.set_hapticQ (Part.lift hs₀ (by decide)) ?_
    | with_reducible refine Frame.ite ?_ ?_

theorem State.hapTouch_frame {ps₀ : List Part} {s₀ : State} (s : State) (n : ℕ) (zone : ℕ) (h : Holder) (down : Bool)
    (hs₀ : [.objects, .hapticQueues, .records, .free] ⊆ ps₀) (h₀ : Frame ps₀ s₀ s) :
    Frame ps₀ s₀ (State.hapTouch s n zone h down) := by
  unfold State.hapTouch
  repeat' first
    | with_reducible assumption
    | with_reducible apply State.hapQueue_frame (hs₀ := Part.tr (by decide) hs₀)
    | with_reducible refine Frame.ite ?_ ?_

theorem State.hapBrake_frame {ps₀ : List Part} {s₀ : State} (s : State) (n : ℕ) (p : Play) (status : ℕ)
    (hs₀ : [.objects, .stations, .haptic, .pins, .timers, .out] ⊆ ps₀) (h₀ : Frame ps₀ s₀ s) :
    Frame ps₀ s₀ (State.hapBrake s n p status) := by
  unfold State.hapBrake
  repeat' first
    | with_reducible assumption
    | with_reducible apply State.setHap_frame (hs₀ := Part.tr (by decide) hs₀)
    | with_reducible apply State.setHapState_frame (hs₀ := Part.tr (by decide) hs₀)

theorem State.hapEnd_frame {ps₀ : List Part} {s₀ : State} (s : State) (n : ℕ) (status : ℕ)
    (hs₀ : [.objects, .stations, .haptic, .pins, .timers, .out] ⊆ ps₀) (h₀ : Frame ps₀ s₀ s) :
    Frame ps₀ s₀ (State.hapEnd s n status) := by
  unfold State.hapEnd
  repeat' first
    | with_reducible assumption
    | with_reducible apply State.hapBrake_frame (hs₀ := Part.tr (by decide) hs₀)
    | with_reducible refine Frame.ite ?_ ?_
    | split

theorem State.hapLast_frame {ps₀ : List Part} {s₀ : State} (s : State) (n : ℕ) (p : Play)
    (hs₀ : [.objects, .texts, .stations, .haptic, .records, .pins, .timers, .out] ⊆ ps₀) (h₀ : Frame ps₀ s₀ s) :
    Frame ps₀ s₀ (State.hapLast s n p) := by
  unfold State.hapLast
  repeat' first
    | with_reducible assumption
    | with_reducible apply State.setHapState_frame (hs₀ := Part.tr (by decide) hs₀)
    | with_reducible apply State.hapClose_frame (hs₀ := Part.tr (by decide) hs₀)
    | with_reducible apply State.emptySlots_frame (hs₀ := Part.tr (by decide) hs₀)
    | with_reducible apply State.hapBrake_frame (hs₀ := Part.tr (by decide) hs₀)
    | with_reducible refine Frame.ite ?_ ?_

theorem State.streamStep_frame {ps₀ : List Part} {s₀ : State} (s : State) (n : ℕ) (p : Play)
    (hs₀ : [.objects, .stations, .haptic, .pins, .timers, .out] ⊆ ps₀) (h₀ : Frame ps₀ s₀ s) :
    Frame ps₀ s₀ (State.streamStep s n p) := by
  unfold State.streamStep
  repeat' first
    | with_reducible assumption
    | with_reducible apply State.setHap_frame (hs₀ := Part.tr (by decide) hs₀)
    | with_reducible apply State.wr_frame (hs₀ := Part.tr (by decide) hs₀)
    | with_reducible apply State.hapBrake_frame (hs₀ := Part.tr (by decide) hs₀)
    | with_reducible refine Frame.ite ?_ ?_
    | dsimp only
    | split

theorem State.playBegin_frame {ps₀ : List Part} {s₀ : State} (s : State) (n : ℕ) (p : Play)
    (hs₀ : [.objects, .stations, .haptic, .pins, .timers, .out] ⊆ ps₀) (h₀ : Frame ps₀ s₀ s) :
    Frame ps₀ s₀ (State.playBegin s n p) := by
  unfold State.playBegin
  repeat' first
    | with_reducible assumption
    | with_reducible apply State.setHap_frame (hs₀ := Part.tr (by decide) hs₀)
    | with_reducible apply State.streamStep_frame (hs₀ := Part.tr (by decide) hs₀)
    | with_reducible refine Frame.ite ?_ ?_

theorem State.hapStart_frame {ps₀ : List Part} {s₀ : State} (s : State) (n : ℕ) (t : Trigger) (k : ℚ)
    (hs₀ : [.objects, .stations, .haptic, .pins, .timers, .out] ⊆ ps₀) (h₀ : Frame ps₀ s₀ s) :
    Frame ps₀ s₀ (State.hapStart s n t k) := by
  unfold State.hapStart
  repeat' first
    | with_reducible assumption
    | with_reducible apply State.setHapState_frame (hs₀ := Part.tr (by decide) hs₀)
    | with_reducible apply State.playBegin_frame (hs₀ := Part.tr (by decide) hs₀)

theorem State.gapTick_frame {ps₀ : List Part} {s₀ : State} (s : State) (n : ℕ) (p : Play) (left : ℕ)
    (hs₀ : [.haptic] ⊆ ps₀) (h₀ : Frame ps₀ s₀ s) :
    Frame ps₀ s₀ (State.gapTick s n p left) := by
  unfold State.gapTick
  repeat' first
    | with_reducible assumption
    | with_reducible apply State.setHap_frame (hs₀ := Part.tr (by decide) hs₀)

theorem State.playTick_frame {ps₀ : List Part} {s₀ : State} (s : State) (n : ℕ) (p : Play)
    (hs₀ : [.objects, .texts, .stations, .haptic, .records, .pins, .timers, .out] ⊆ ps₀) (h₀ : Frame ps₀ s₀ s) :
    Frame ps₀ s₀ (State.playTick s n p) := by
  unfold State.playTick
  repeat' first
    | with_reducible assumption
    | with_reducible apply State.setHap_frame (hs₀ := Part.tr (by decide) hs₀)
    | with_reducible apply State.streamStep_frame (hs₀ := Part.tr (by decide) hs₀)
    | with_reducible apply State.hapLast_frame (hs₀ := Part.tr (by decide) hs₀)
    | with_reducible apply State.playBegin_frame (hs₀ := Part.tr (by decide) hs₀)
    | with_reducible apply State.gapTick_frame (hs₀ := Part.tr (by decide) hs₀)
    | with_reducible refine Frame.ite ?_ ?_

theorem State.takeInBrake_frame {ps₀ : List Part} {s₀ : State} (s : State) (n : ℕ) (t : Trigger)
    (hs₀ : [.objects, .stations, .haptic, .records, .pins, .timers, .out] ⊆ ps₀) (h₀ : Frame ps₀ s₀ s) :
    Frame ps₀ s₀ (State.takeInBrake s n t) := by
  unfold State.takeInBrake
  repeat' first
    | with_reducible assumption
    | with_reducible apply State.setHap_frame (hs₀ := Part.tr (by decide) hs₀)
    | with_reducible apply State.hapClose_frame (hs₀ := Part.tr (by decide) hs₀)
    | with_reducible apply State.hapStart_frame (hs₀ := Part.tr (by decide) hs₀)
    | with_reducible refine Frame.ite ?_ ?_
    | dsimp only
    | split

theorem State.examine_frame {ps₀ : List Part} {s₀ : State} (s : State) (n : ℕ)
    (hs₀ : [.objects, .stations, .haptic, .hapticQueues, .records, .pins, .timers, .out, .free] ⊆ ps₀) (h₀ : Frame ps₀ s₀ s) :
    Frame ps₀ s₀ (State.examine s n) := by
  unfold State.examine
  repeat' first
    | with_reducible assumption
    | with_reducible apply State.hapEnd_frame (hs₀ := Part.tr (by decide) hs₀)
    | with_reducible apply State.takeInBrake_frame (hs₀ := Part.tr (by decide) hs₀)
    | with_reducible apply State.hapStart_frame (hs₀ := Part.tr (by decide) hs₀)
    | with_reducible apply State.hapRefuse_frame (hs₀ := Part.tr (by decide) hs₀)
    | (conv => arg 3; arg 50); with_reducible refine Frame.set_hapticQ (Part.lift hs₀ (by decide)) ?_
    | with_reducible refine Frame.ite ?_ ?_
    | dsimp only
    | split

theorem execHapticTick_frame {ps₀ : List Part} {s₀ t₀ : State} (n : Fin 8) (s : State)
    (hs₀ : [.objects, .texts, .stations, .haptic, .hapticQueues, .records, .pins, .timers, .out, .free] ⊆ ps₀) (e₀ : execHapticTick n s = .next t₀) (h₀ : Frame ps₀ s₀ s) :
    Frame ps₀ s₀ t₀ := by
  unfold execHapticTick at e₀
  cases e₀
  repeat' first
    | with_reducible assumption
    | with_reducible apply State.setHap_frame (hs₀ := Part.tr (by decide) hs₀)
    | with_reducible apply State.playTick_frame (hs₀ := Part.tr (by decide) hs₀)
    | with_reducible apply State.emptySlots_frame (hs₀ := Part.tr (by decide) hs₀)
    | with_reducible apply State.examine_frame (hs₀ := Part.tr (by decide) hs₀)
    | with_reducible refine Frame.ite ?_ ?_
    | dsimp only
    | split

theorem execSenseSample_frame {ps₀ : List Part} {s₀ t₀ : State} (n : Fin 8) (shunt : ℤ) (vca : ℤ) (vcb : ℤ) (vsense : ℕ) (s : State)
    (hs₀ : [.objects, .stations, .haptic, .pins, .timers, .out] ⊆ ps₀) (e₀ : execSenseSample n shunt vca vcb vsense s = .next t₀) (h₀ : Frame ps₀ s₀ s) :
    Frame ps₀ s₀ t₀ := by
  unfold execSenseSample at e₀
  cases e₀
  repeat' first
    | with_reducible assumption
    | with_reducible apply State.setHap_frame (hs₀ := Part.tr (by decide) hs₀)
    | with_reducible apply State.hapEnd_frame (hs₀ := Part.tr (by decide) hs₀)
    | with_reducible apply State.wr_frame (hs₀ := Part.tr (by decide) hs₀)
    | with_reducible apply State.emit_frame (hs₀ := Part.tr (by decide) hs₀)
    | with_reducible refine Frame.ite ?_ ?_

theorem execDriveTimeLimit_frame {ps₀ : List Part} {s₀ t₀ : State} (n : Fin 8) (s : State)
    (hs₀ : [.objects, .stations, .haptic, .pins, .timers, .out] ⊆ ps₀) (e₀ : execDriveTimeLimit n s = .next t₀) (h₀ : Frame ps₀ s₀ s) :
    Frame ps₀ s₀ t₀ := by
  unfold execDriveTimeLimit at e₀
  cases e₀
  repeat' first
    | with_reducible assumption
    | with_reducible apply State.hapEnd_frame (hs₀ := Part.tr (by decide) hs₀)
    | with_reducible refine Frame.ite ?_ ?_

theorem State.faultOff_frame {ps₀ : List Part} {s₀ : State} (s : State) (n : ℕ)
    (hs₀ : [.objects, .stations, .haptic, .records, .pins, .timers, .out] ⊆ ps₀) (h₀ : Frame ps₀ s₀ s) :
    Frame ps₀ s₀ (State.faultOff s n) := by
  unfold State.faultOff
  repeat' first
    | with_reducible assumption
    | with_reducible apply State.setHap_frame (hs₀ := Part.tr (by decide) hs₀)
    | with_reducible apply State.setHapState_frame (hs₀ := Part.tr (by decide) hs₀)
    | with_reducible apply State.wr_frame (hs₀ := Part.tr (by decide) hs₀)
    | with_reducible apply State.clearAlarm_frame (hs₀ := Part.tr (by decide) hs₀)

theorem State.hapFault_frame {ps₀ : List Part} {s₀ : State} (s : State) (n : ℕ) (cause : ℕ)
    (hs₀ : [.objects, .texts, .stations, .haptic, .records, .pins, .timers, .out, .free] ⊆ ps₀) (h₀ : Frame ps₀ s₀ s) :
    Frame ps₀ s₀ (State.hapFault s n cause) := by
  unfold State.hapFault
  repeat' first
    | with_reducible assumption
    | with_reducible apply State.setHap_frame (hs₀ := Part.tr (by decide) hs₀)
    | with_reducible apply State.setHapState_frame (hs₀ := Part.tr (by decide) hs₀)
    | with_reducible apply State.faultOff_frame (hs₀ := Part.tr (by decide) hs₀)
    | with_reducible apply State.hapClose_frame (hs₀ := Part.tr (by decide) hs₀)
    | with_reducible apply State.wr_frame (hs₀ := Part.tr (by decide) hs₀)
    | with_reducible apply State.emptySlots_frame (hs₀ := Part.tr (by decide) hs₀)
    | with_reducible apply State.hapRefuse_frame (hs₀ := Part.tr (by decide) hs₀)
    | with_reducible apply State.alarm_frame (hs₀ := Part.tr (by decide) hs₀)
    | with_reducible apply State.count_frame (hs₀ := Part.tr (by decide) hs₀)
    | with_reducible refine Frame.ite ?_ ?_
    | split

theorem State.hapRecover_frame {ps₀ : List Part} {s₀ : State} (s : State) (n : ℕ)
    (hs₀ : [.objects, .stations, .haptic, .records, .pins, .timers, .out] ⊆ ps₀) (h₀ : Frame ps₀ s₀ s) :
    Frame ps₀ s₀ (State.hapRecover s n) := by
  unfold State.hapRecover
  repeat' first
    | with_reducible assumption
    | with_reducible apply State.setHapState_frame (hs₀ := Part.tr (by decide) hs₀)
    | with_reducible apply State.wr_frame (hs₀ := Part.tr (by decide) hs₀)
    | with_reducible apply State.clearAlarm_frame (hs₀ := Part.tr (by decide) hs₀)

theorem execOvercurrent_frame {ps₀ : List Part} {s₀ t₀ : State} (n : Fin 8) (shunt : ℤ) (s : State)
    (hs₀ : [.objects, .texts, .stations, .haptic, .records, .pins, .timers, .out, .free] ⊆ ps₀) (e₀ : execOvercurrent n shunt s = .next t₀) (h₀ : Frame ps₀ s₀ s) :
    Frame ps₀ s₀ t₀ := by
  unfold execOvercurrent at e₀
  cases e₀
  repeat' first
    | with_reducible assumption
    | with_reducible apply State.hapFault_frame (hs₀ := Part.tr (by decide) hs₀)
    | with_reducible refine Frame.ite ?_ ?_

theorem execBridgeRangeFault_frame {ps₀ : List Part} {s₀ t₀ : State} (n : Fin 8) (s : State)
    (hs₀ : [.objects, .texts, .stations, .haptic, .records, .pins, .timers, .out, .free] ⊆ ps₀) (e₀ : execBridgeRangeFault n s = .next t₀) (h₀ : Frame ps₀ s₀ s) :
    Frame ps₀ s₀ t₀ := by
  unfold execBridgeRangeFault at e₀
  cases e₀
  repeat' first
    | with_reducible assumption
    | with_reducible apply State.hapFault_frame (hs₀ := Part.tr (by decide) hs₀)
    | with_reducible refine Frame.ite ?_ ?_

theorem execOpenLoad_frame {ps₀ : List Part} {s₀ t₀ : State} (n : Fin 8) (s : State)
    (hs₀ : [.objects, .texts, .stations, .haptic, .records, .pins, .timers, .out, .free] ⊆ ps₀) (e₀ : execOpenLoad n s = .next t₀) (h₀ : Frame ps₀ s₀ s) :
    Frame ps₀ s₀ t₀ := by
  unfold execOpenLoad at e₀
  cases e₀
  repeat' first
    | with_reducible assumption
    | with_reducible apply State.hapFault_frame (hs₀ := Part.tr (by decide) hs₀)
    | with_reducible refine Frame.ite ?_ ?_

theorem execBridgeRecovered_frame {ps₀ : List Part} {s₀ t₀ : State} (n : Fin 8) (s : State)
    (hs₀ : [.objects, .stations, .haptic, .records, .pins, .timers, .out] ⊆ ps₀) (e₀ : execBridgeRecovered n s = .next t₀) (h₀ : Frame ps₀ s₀ s) :
    Frame ps₀ s₀ t₀ := by
  unfold execBridgeRecovered at e₀
  cases e₀
  repeat' first
    | with_reducible assumption
    | with_reducible apply State.hapRecover_frame (hs₀ := Part.tr (by decide) hs₀)
    | with_reducible refine Frame.ite ?_ ?_

theorem execBootstrapChargeDone_frame {ps₀ : List Part} {s₀ t₀ : State} (n : Fin 8) (s : State)
    (hs₀ : [.haptic] ⊆ ps₀) (e₀ : execBootstrapChargeDone n s = .next t₀) (h₀ : Frame ps₀ s₀ s) :
    Frame ps₀ s₀ t₀ := by
  unfold execBootstrapChargeDone at e₀
  cases e₀
  repeat' first
    | with_reducible assumption
    | with_reducible apply State.setHap_frame (hs₀ := Part.tr (by decide) hs₀)
    | with_reducible refine Frame.ite ?_ ?_

theorem State.hapticOn_frame {ps₀ : List Part} {s₀ : State} (s : State) (n : ℕ)
    (hs₀ : [.objects, .texts, .stations, .haptic, .records, .pins, .timers, .out, .free] ⊆ ps₀) (h₀ : Frame ps₀ s₀ s) :
    Frame ps₀ s₀ (State.hapticOn s n) := by
  unfold State.hapticOn
  repeat' first
    | with_reducible assumption
    | with_reducible apply State.setHap_frame (hs₀ := Part.tr (by decide) hs₀)
    | with_reducible apply State.setHapState_frame (hs₀ := Part.tr (by decide) hs₀)
    | with_reducible apply State.hapFault_frame (hs₀ := Part.tr (by decide) hs₀)
    | with_reducible refine Frame.ite ?_ ?_

theorem State.brakeOver_frame {ps₀ : List Part} {s₀ : State} (s : State) (n : ℕ)
    (hs₀ : [.objects, .texts, .stations, .haptic, .records, .pins, .timers, .out] ⊆ ps₀) (h₀ : Frame ps₀ s₀ s) :
    Frame ps₀ s₀ (State.brakeOver s n) := by
  unfold State.brakeOver
  repeat' first
    | with_reducible assumption
    | with_reducible apply State.setHap_frame (hs₀ := Part.tr (by decide) hs₀)
    | with_reducible apply State.setHapState_frame (hs₀ := Part.tr (by decide) hs₀)
    | with_reducible apply State.hapClose_frame (hs₀ := Part.tr (by decide) hs₀)
    | with_reducible apply State.emptySlots_frame (hs₀ := Part.tr (by decide) hs₀)
    | with_reducible refine Frame.ite ?_ ?_
    | dsimp only
    | split

theorem execBrakeEnd_frame {ps₀ : List Part} {s₀ t₀ : State} (n : Fin 8) (s : State)
    (hs₀ : [.objects, .texts, .stations, .haptic, .records, .pins, .timers, .out] ⊆ ps₀) (e₀ : execBrakeEnd n s = .next t₀) (h₀ : Frame ps₀ s₀ s) :
    Frame ps₀ s₀ t₀ := by
  unfold execBrakeEnd at e₀
  cases e₀
  repeat' first
    | with_reducible assumption
    | with_reducible apply State.setHap_frame (hs₀ := Part.tr (by decide) hs₀)
    | with_reducible apply State.brakeOver_frame (hs₀ := Part.tr (by decide) hs₀)
    | with_reducible refine Frame.ite ?_ ?_

theorem State.hapDiscard_frame {ps₀ : List Part} {s₀ : State} (s : State) (n : ℕ)
    (hs₀ : [.objects, .hapticQueues, .records, .free] ⊆ ps₀) (h₀ : Frame ps₀ s₀ s) :
    Frame ps₀ s₀ (State.hapDiscard s n) := by
  unfold State.hapDiscard
  repeat' first
    | with_reducible assumption
    | with_reducible apply State.hapRefuse_frame (hs₀ := Part.tr (by decide) hs₀)
    | (conv => arg 3; arg 50); with_reducible refine Frame.set_hapticQ (Part.lift hs₀ (by decide)) ?_
    | with_reducible refine Frame.each (fun _ _ _ => ?_) ?_

theorem State.hapticOff_frame {ps₀ : List Part} {s₀ : State} (s : State) (n : ℕ)
    (hs₀ : [.objects, .stations, .haptic, .hapticQueues, .records, .pins, .timers, .out, .free] ⊆ ps₀) (h₀ : Frame ps₀ s₀ s) :
    Frame ps₀ s₀ (State.hapticOff s n) := by
  unfold State.hapticOff
  repeat' first
    | with_reducible assumption
    | with_reducible apply State.setHap_frame (hs₀ := Part.tr (by decide) hs₀)
    | with_reducible apply State.setHapState_frame (hs₀ := Part.tr (by decide) hs₀)
    | with_reducible apply State.hapEnd_frame (hs₀ := Part.tr (by decide) hs₀)
    | with_reducible apply State.hapDiscard_frame (hs₀ := Part.tr (by decide) hs₀)
    | with_reducible apply State.faultOff_frame (hs₀ := Part.tr (by decide) hs₀)
    | with_reducible apply State.hapRefuse_frame (hs₀ := Part.tr (by decide) hs₀)
    | with_reducible refine Frame.ite ?_ ?_
    | dsimp only
    | split

theorem State.hapticReset_frame {ps₀ : List Part} {s₀ : State} (s : State) (n : ℕ)
    (hs₀ : [.objects, .texts, .haptic, .hapticQueues, .records, .pins, .out] ⊆ ps₀) (h₀ : Frame ps₀ s₀ s) :
    Frame ps₀ s₀ (State.hapticReset s n) := by
  unfold State.hapticReset
  repeat' first
    | with_reducible assumption
    | with_reducible apply State.setHap_frame (hs₀ := Part.tr (by decide) hs₀)
    | with_reducible apply State.stReady_frame (hs₀ := Part.tr (by decide) hs₀)
    | with_reducible apply State.chargeOffPackage_frame (hs₀ := Part.tr (by decide) hs₀)
    | with_reducible apply State.drive_frame (hs₀ := Part.tr (by decide) hs₀)
    | with_reducible apply State.wr_frame (hs₀ := Part.tr (by decide) hs₀)
    | with_reducible apply State.clearAlarm_frame (hs₀ := Part.tr (by decide) hs₀)
    | with_reducible apply State.emptySlots_frame (hs₀ := Part.tr (by decide) hs₀)
    | (conv => arg 3; arg 50); with_reducible refine Frame.set_hapticQ (Part.lift hs₀ (by decide)) ?_
    | split

theorem State.hapticRevoke_frame {ps₀ : List Part} {s₀ : State} (s : State) (n : ℕ) (t : ℕ)
    (hs₀ : [.objects, .texts, .stations, .haptic, .hapticQueues, .records, .pins, .timers, .out, .free] ⊆ ps₀) (h₀ : Frame ps₀ s₀ s) :
    Frame ps₀ s₀ (State.hapticRevoke s n t) := by
  unfold State.hapticRevoke
  repeat' first
    | with_reducible assumption
    | with_reducible apply State.setHap_frame (hs₀ := Part.tr (by decide) hs₀)
    | with_reducible apply State.hapEnd_frame (hs₀ := Part.tr (by decide) hs₀)
    | with_reducible apply State.emptySlots_frame (hs₀ := Part.tr (by decide) hs₀)
    | with_reducible apply State.hapRefuse_frame (hs₀ := Part.tr (by decide) hs₀)
    | (conv => arg 3; arg 50); with_reducible refine Frame.set_hapticQ (Part.lift hs₀ (by decide)) ?_
    | with_reducible refine Frame.ite ?_ ?_
    | dsimp only
    | split

theorem execHapticTrigger_frame {ps₀ : List Part} {s₀ t₀ : State} (via : Via) (n : Fin 8) (tq : Fin 512) (v : ℕ) (s : State)
    (hs₀ : [.objects, .slices, .hapticQueues, .records, .pins, .out, .free] ⊆ ps₀) (e₀ : execHapticTrigger via n tq v s = .next t₀) (h₀ : Frame ps₀ s₀ s) :
    Frame ps₀ s₀ t₀ := by
  unfold execHapticTrigger at e₀
  cases e₀
  repeat' first
    | with_reducible assumption
    | with_reducible apply State.answer_frame (hs₀ := Part.tr (by decide) hs₀)
    | with_reducible apply State.onWrite_frame (hs₀ := Part.tr (by decide) hs₀)
    | with_reducible apply State.hapQueue_frame (hs₀ := Part.tr (by decide) hs₀)
    | with_reducible apply State.spoof_frame (hs₀ := Part.tr (by decide) hs₀)
    | with_reducible apply State.onStationPage_frame (hs₀ := Part.tr (by decide) hs₀)
    | with_reducible refine Frame.ite ?_ ?_
    | with_reducible intro _
    | dsimp only
    | split

theorem State.writeEffect_frame {ps₀ : List Part} {s₀ : State} (s : State) (who : Requester) (n : ℕ) (e : ℕ) (data : Bytes)
    (hs₀ : [.objects, .texts, .haptic, .slices, .records, .pins, .out] ⊆ ps₀) (h₀ : Frame ps₀ s₀ s) :
    Frame ps₀ s₀ (State.writeEffect s who n e data) := by
  unfold State.writeEffect
  repeat' first
    | with_reducible assumption
    | with_reducible apply State.answer_frame (hs₀ := Part.tr (by decide) hs₀)
    | with_reducible apply State.mailboxSpoof_frame (hs₀ := Part.tr (by decide) hs₀)
    | with_reducible apply State.putEffect_frame (hs₀ := Part.tr (by decide) hs₀)
    | dsimp only
    | split

theorem execEffectData_frame {ps₀ : List Part} {s₀ t₀ : State} (who : Requester) (n : Fin 8) (e : Fin 64) (data : Bytes) (s : State)
    (hs₀ : [.objects, .texts, .haptic, .slices, .records, .pins, .out] ⊆ ps₀) (e₀ : execEffectData who n e data s = .next t₀) (h₀ : Frame ps₀ s₀ s) :
    Frame ps₀ s₀ t₀ := by
  unfold execEffectData at e₀
  cases e₀
  repeat' first
    | with_reducible assumption
    | with_reducible apply State.onRequest_frame (hs₀ := Part.tr (by decide) hs₀)
    | with_reducible apply State.writeEffect_frame (hs₀ := Part.tr (by decide) hs₀)
    | with_reducible intro _

theorem execFaultClear_frame {ps₀ : List Part} {s₀ t₀ : State} (who : Requester) (n : Fin 8) (v : ℕ) (s : State)
    (hs₀ : [.objects, .stations, .haptic, .slices, .records, .pins, .timers, .out] ⊆ ps₀) (e₀ : execFaultClear who n v s = .next t₀) (h₀ : Frame ps₀ s₀ s) :
    Frame ps₀ s₀ t₀ := by
  unfold execFaultClear at e₀
  cases e₀
  repeat' first
    | with_reducible assumption
    | with_reducible apply State.answer_frame (hs₀ := Part.tr (by decide) hs₀)
    | with_reducible apply State.onWrite_frame (hs₀ := Part.tr (by decide) hs₀)
    | with_reducible apply State.hapRecover_frame (hs₀ := Part.tr (by decide) hs₀)
    | with_reducible refine Frame.ite ?_ ?_
    | with_reducible intro _

theorem execHapticCommit_frame {ps₀ : List Part} {s₀ t₀ : State} (who : Requester) (n : Fin 8) (v : ℕ) (s : State)
    (hs₀ : [.objects, .haptic, .slices, .records, .pins, .out] ⊆ ps₀) (e₀ : execHapticCommit who n v s = .next t₀) (h₀ : Frame ps₀ s₀ s) :
    Frame ps₀ s₀ t₀ := by
  unfold execHapticCommit at e₀
  cases e₀
  repeat' first
    | with_reducible assumption
    | with_reducible apply State.setHap_frame (hs₀ := Part.tr (by decide) hs₀)
    | with_reducible apply State.answer_frame (hs₀ := Part.tr (by decide) hs₀)
    | with_reducible apply State.hapApply_frame (hs₀ := Part.tr (by decide) hs₀)
    | with_reducible apply State.onWrite_frame (hs₀ := Part.tr (by decide) hs₀)
    | with_reducible apply State.guarded_frame (hs₀ := Part.tr (by decide) hs₀)
    | with_reducible refine Frame.ite ?_ ?_
    | with_reducible intro _

theorem execHapticStreamFetch_frame {ps₀ : List Part} {s₀ t₀ : State} (n : Fin 8) (len : ℕ) (s : State)
    (hs₀ : [.objects, .stations, .haptic, .pins, .timers, .out] ⊆ ps₀) (e₀ : execHapticStreamFetch n len s = .next t₀) (h₀ : Frame ps₀ s₀ s) :
    Frame ps₀ s₀ t₀ := by
  unfold execHapticStreamFetch at e₀
  cases e₀
  repeat' first
    | with_reducible assumption
    | with_reducible apply State.setHap_frame (hs₀ := Part.tr (by decide) hs₀)
    | with_reducible apply State.hapEnd_frame (hs₀ := Part.tr (by decide) hs₀)
    | with_reducible apply State.noteTag_frame (hs₀ := Part.tr (by decide) hs₀)
    | with_reducible refine Frame.ite ?_ ?_
    | dsimp only
    | split

/-! ### Machine/Guard.lean -/

theorem State.putPageBit_frame {ps₀ : List Part} {s₀ : State} (s : State) (r : ObjRow) (n : ℕ) (g : ℕ) (page : ℕ) (b : Bool)
    (hs₀ : [.objects] ⊆ ps₀) (h₀ : Frame ps₀ s₀ s) :
    Frame ps₀ s₀ (State.putPageBit s r n g page b) := by
  unfold State.putPageBit
  repeat' first
    | with_reducible assumption
    | with_reducible apply State.wr_frame (hs₀ := Part.tr (by decide) hs₀)

theorem State.refStart_frame {ps₀ : List Part} {s₀ : State} (s : State) (n : ℕ) (who : Requester)
    (hs₀ : [.objects, .results, .guard, .records, .out] ⊆ ps₀) (h₀ : Frame ps₀ s₀ s) :
    Frame ps₀ s₀ (State.refStart s n who) := by
  unfold State.refStart
  repeat' first
    | with_reducible assumption
    | with_reducible apply State.answer_frame (hs₀ := Part.tr (by decide) hs₀)
    | with_reducible apply State.putPageBit_frame (hs₀ := Part.tr (by decide) hs₀)
    | with_reducible apply State.setGrd_frame (hs₀ := Part.tr (by decide) hs₀)
    | with_reducible apply State.finish_frame (hs₀ := Part.tr (by decide) hs₀)
    | with_reducible apply State.startResult_frame (hs₀ := Part.tr (by decide) hs₀)
    | with_reducible refine Frame.ite ?_ ?_
    | dsimp only
    | split

theorem State.refEntries_frame {ps₀ : List Part} {s₀ : State} (s : State) (n : ℕ) (l : RefLoad) (q3 : ℕ) (q4 : ℕ)
    (hs₀ : [.objects, .guard] ⊆ ps₀) (h₀ : Frame ps₀ s₀ s) :
    Frame ps₀ s₀ (State.refEntries s n l q3 q4).1 := by
  induction q3 generalizing s q4 with
  | zero => exact h₀
  | succ left ih =>
    unfold State.refEntries
    split
    · exact State.noteTag_frame _ _ _ _ _ (Part.tr (by decide) hs₀) h₀
    · exact ih _ _ (State.setGrd_frame _ _ _ (Part.tr (by decide) hs₀) h₀)

theorem State.refEntries_out {ps₀ : List Part} {s₀ : State} (s : State) (n : ℕ) (l : RefLoad) (q3 : ℕ) (q4 : ℕ) {y₀ z₀}
    (hs₀ : [.objects, .guard] ⊆ ps₀) (e₀ : State.refEntries s n l q3 q4 = (z₀, y₀)) (h₀ : Frame ps₀ s₀ s) : Frame ps₀ s₀ z₀ := by
  have x₀ := State.refEntries_frame s n l q3 q4 hs₀ h₀; rw [e₀] at x₀; exact x₀

theorem State.refDone_frame {ps₀ : List Part} {s₀ : State} (s : State) (n : ℕ)
    (hs₀ : [.objects, .results, .guard, .records] ⊆ ps₀) (h₀ : Frame ps₀ s₀ s) :
    Frame ps₀ s₀ (State.refDone s n) := by
  unfold State.refDone
  repeat' first
    | with_reducible assumption
    | with_reducible apply State.refEntries_frame (hs₀ := Part.tr (by decide) hs₀)
    | with_reducible apply State.putPageBit_frame (hs₀ := Part.tr (by decide) hs₀)
    | with_reducible apply State.setGrd_frame (hs₀ := Part.tr (by decide) hs₀)
    | with_reducible apply State.finish_frame (hs₀ := Part.tr (by decide) hs₀)
    | with_reducible refine Frame.ite ?_ ?_
    | dsimp only
    | split

theorem State.refStop_frame {ps₀ : List Part} {s₀ : State} (s : State) (n : ℕ) (g : ℕ)
    (hs₀ : [.objects, .results, .guard, .records, .free] ⊆ ps₀) (h₀ : Frame ps₀ s₀ s) :
    Frame ps₀ s₀ (State.refStop s n g) := by
  unfold State.refStop
  repeat' first
    | with_reducible assumption
    | with_reducible apply State.refEntries_frame (hs₀ := Part.tr (by decide) hs₀)
    | with_reducible apply State.drawNat_frame (hs₀ := Part.tr (by decide) hs₀)
    | with_reducible apply State.setGrd_frame (hs₀ := Part.tr (by decide) hs₀)
    | with_reducible apply State.finish_frame (hs₀ := Part.tr (by decide) hs₀)
    | with_reducible refine Frame.ite ?_ ?_
    | dsimp only
    | split

theorem execRefLoadStart_frame {ps₀ : List Part} {s₀ t₀ : State} (who : Requester) (n : Fin 8) (v : ℕ) (s : State)
    (hs₀ : [.objects, .results, .guard, .slices, .records, .pins, .out] ⊆ ps₀) (e₀ : execRefLoadStart who n v s = .next t₀) (h₀ : Frame ps₀ s₀ s) :
    Frame ps₀ s₀ t₀ := by
  unfold execRefLoadStart at e₀
  cases e₀
  repeat' first
    | with_reducible assumption
    | with_reducible apply State.refStart_frame (hs₀ := Part.tr (by decide) hs₀)
    | with_reducible apply State.answer_frame (hs₀ := Part.tr (by decide) hs₀)
    | with_reducible apply State.onWrite_frame (hs₀ := Part.tr (by decide) hs₀)
    | with_reducible apply State.guarded_frame (hs₀ := Part.tr (by decide) hs₀)
    | with_reducible refine Frame.ite ?_ ?_
    | with_reducible intro _

theorem execRefLoadDone_frame {ps₀ : List Part} {s₀ t₀ : State} (n : Fin 8) (s : State)
    (hs₀ : [.objects, .results, .guard, .records] ⊆ ps₀) (e₀ : execRefLoadDone n s = .next t₀) (h₀ : Frame ps₀ s₀ s) :
    Frame ps₀ s₀ t₀ := by
  unfold execRefLoadDone at e₀
  cases e₀
  repeat' first
    | with_reducible assumption
    | with_reducible apply State.refDone_frame (hs₀ := Part.tr (by decide) hs₀)
    | with_reducible refine Frame.ite ?_ ?_

theorem execSafeStoreCheckDone_frame {ps₀ : List Part} {s₀ t₀ : State} (n : Fin 8) (s : State)
    (hs₀ : [.objects, .texts, .compositor, .guard] ⊆ ps₀) (e₀ : execSafeStoreCheckDone n s = .next t₀) (h₀ : Frame ps₀ s₀ s) :
    Frame ps₀ s₀ t₀ := by
  unfold execSafeStoreCheckDone at e₀
  cases e₀
  repeat' first
    | with_reducible assumption
    | with_reducible apply State.safeChecked_frame (hs₀ := Part.tr (by decide) hs₀)

theorem State.clearPages_frame {ps₀ : List Part} {s₀ : State} (s : State) (n : ℕ) (c : RegionCfg)
    (hs₀ : [.guard] ⊆ ps₀) (h₀ : Frame ps₀ s₀ s) :
    Frame ps₀ s₀ (State.clearPages s n c) := by
  unfold State.clearPages
  repeat' first
    | with_reducible assumption
    | with_reducible apply State.setGrd_frame (hs₀ := Part.tr (by decide) hs₀)

theorem State.resetRegion_frame {ps₀ : List Part} {s₀ : State} (s : State) (n : ℕ) (g : ℕ)
    (hs₀ : [.objects, .shadows, .texts, .compositor, .guard] ⊆ ps₀) (h₀ : Frame ps₀ s₀ s) :
    Frame ps₀ s₀ (State.resetRegion s n g) := by
  unfold State.resetRegion
  repeat' first
    | with_reducible assumption
    | with_reducible apply State.defaultSet_frame (hs₀ := Part.tr (by decide) hs₀)
    | with_reducible apply State.setGrd_frame (hs₀ := Part.tr (by decide) hs₀)
    | with_reducible apply State.clearPages_frame (hs₀ := Part.tr (by decide) hs₀)
    | with_reducible apply State.wr_frame (hs₀ := Part.tr (by decide) hs₀)
    | with_reducible refine Frame.ite ?_ ?_

theorem State.closeOutside_frame {ps₀ : List Part} {s₀ : State} (s : State) (n : ℕ)
    (hs₀ : [.objects, .guard, .records] ⊆ ps₀) (h₀ : Frame ps₀ s₀ s) :
    Frame ps₀ s₀ (State.closeOutside s n) := by
  unfold State.closeOutside
  repeat' first
    | with_reducible assumption
    | with_reducible apply State.setGrd_frame (hs₀ := Part.tr (by decide) hs₀)
    | with_reducible apply State.toHolder_frame (hs₀ := Part.tr (by decide) hs₀)
    | with_reducible refine Frame.ite ?_ ?_
    | with_reducible refine Frame.each (fun _ _ _ => ?_) ?_

theorem State.countSegs_frame {ps₀ : List Part} {s₀ : State} (s : State) (n : ℕ) (segs : List SegResult)
    (hs₀ : [.objects, .guard] ⊆ ps₀) (h₀ : Frame ps₀ s₀ s) :
    Frame ps₀ s₀ (State.countSegs s n segs) := by
  unfold State.countSegs
  repeat' first
    | with_reducible assumption
    | with_reducible apply State.setGrd_frame (hs₀ := Part.tr (by decide) hs₀)
    | with_reducible apply State.count_frame (hs₀ := Part.tr (by decide) hs₀)
    | with_reducible refine Frame.each (fun _ _ _ => ?_) ?_
    | dsimp only
    | split

theorem State.endRegionFrame_frame {ps₀ : List Part} {s₀ : State} (s : State) (n : ℕ) (g : ℕ)
    (hs₀ : [.objects, .guard, .records] ⊆ ps₀) (h₀ : Frame ps₀ s₀ s) :
    Frame ps₀ s₀ (State.endRegionFrame s n g).1 := by
  unfold State.endRegionFrame
  repeat' first
    | with_reducible assumption
    | with_reducible apply State.toTenant_frame (hs₀ := Part.tr (by decide) hs₀)
    | with_reducible apply State.setGrd_frame (hs₀ := Part.tr (by decide) hs₀)
    | with_reducible apply State.toEnclave_frame (hs₀ := Part.tr (by decide) hs₀)
    | with_reducible apply State.wr_frame (hs₀ := Part.tr (by decide) hs₀)
    | with_reducible apply State.toStationLog_frame (hs₀ := Part.tr (by decide) hs₀)
    | with_reducible apply State.count_frame (hs₀ := Part.tr (by decide) hs₀)
    | with_reducible refine Frame.ite ?_ ?_
    | with_reducible refine Frame.iteFst ?_ ?_
    | split

theorem State.endRegionFrame_out {ps₀ : List Part} {s₀ : State} (s : State) (n : ℕ) (g : ℕ) {y₀ z₀}
    (hs₀ : [.objects, .guard, .records] ⊆ ps₀) (e₀ : State.endRegionFrame s n g = (z₀, y₀)) (h₀ : Frame ps₀ s₀ s) : Frame ps₀ s₀ z₀ := by
  have x₀ := State.endRegionFrame_frame s n g hs₀ h₀; rw [e₀] at x₀; exact x₀

theorem State.endGuardFrame_frame {ps₀ : List Part} {s₀ : State} (s : State) (n : ℕ)
    (hs₀ : [.objects, .guard, .records] ⊆ ps₀) (h₀ : Frame ps₀ s₀ s) :
    Frame ps₀ s₀ (State.endGuardFrame s n).1 := by
  unfold State.endGuardFrame
  repeat' first
    | with_reducible assumption
    | with_reducible apply State.endRegionFrame_frame (hs₀ := Part.tr (by decide) hs₀)
    | with_reducible apply State.setGrd_frame (hs₀ := Part.tr (by decide) hs₀)
    | with_reducible refine Frame.foldlFst (fun _ _ _ => ?_) ?_

theorem State.endGuardFrame_out {ps₀ : List Part} {s₀ : State} (s : State) (n : ℕ) {y₀ z₀}
    (hs₀ : [.objects, .guard, .records] ⊆ ps₀) (e₀ : State.endGuardFrame s n = (z₀, y₀)) (h₀ : Frame ps₀ s₀ s) : Frame ps₀ s₀ z₀ := by
  have x₀ := State.endGuardFrame_frame s n hs₀ h₀; rw [e₀] at x₀; exact x₀

/-! ### Machine/Display.lean -/

theorem State.setNextBoundary_frame {ps₀ : List Part} {s₀ : State} (s : State) (n : ℕ)
    (hs₀ : [.objects] ⊆ ps₀) (h₀ : Frame ps₀ s₀ s) :
    Frame ps₀ s₀ (State.setNextBoundary s n) := by
  unfold State.setNextBoundary
  repeat' first
    | with_reducible assumption
    | with_reducible apply State.wr_frame (hs₀ := Part.tr (by decide) hs₀)

theorem State.startFrame_frame {ps₀ : List Part} {s₀ : State} (s : State) (n : ℕ)
    (hs₀ : [.compositor] ⊆ ps₀) (h₀ : Frame ps₀ s₀ s) :
    Frame ps₀ s₀ (State.startFrame s n) := by
  unfold State.startFrame
  repeat' first
    | with_reducible assumption
    | with_reducible apply State.setCmp_frame (hs₀ := Part.tr (by decide) hs₀)

theorem State.clearDirty_frame {ps₀ : List Part} {s₀ : State} (s : State) (n : ℕ) (l : ℕ)
    (hs₀ : [.objects, .results, .memory, .checks, .records] ⊆ ps₀) (h₀ : Frame ps₀ s₀ s) :
    Frame ps₀ s₀ (State.clearDirty s n l) := by
  unfold State.clearDirty
  repeat' first
    | with_reducible assumption
    | with_reducible apply State.writeTagged_frame (hs₀ := Part.tr (by decide) hs₀)
    | with_reducible refine Frame.ite ?_ ?_

theorem State.decideStatic_frame {ps₀ : List Part} {s₀ : State} (s : State) (n : ℕ) (latched : Bool)
    (hs₀ : [.objects, .results, .memory, .compositor, .checks, .records] ⊆ ps₀) (h₀ : Frame ps₀ s₀ s) :
    Frame ps₀ s₀ (State.decideStatic s n latched) := by
  unfold State.decideStatic
  repeat' first
    | with_reducible assumption
    | with_reducible apply State.wrB_frame (hs₀ := Part.tr (by decide) hs₀)
    | with_reducible apply State.wr_frame (hs₀ := Part.tr (by decide) hs₀)
    | with_reducible apply State.setCmp_frame (hs₀ := Part.tr (by decide) hs₀)
    | with_reducible apply State.clearDirty_frame (hs₀ := Part.tr (by decide) hs₀)
    | with_reducible apply State.count_frame (hs₀ := Part.tr (by decide) hs₀)
    | with_reducible refine Frame.ite ?_ ?_
    | with_reducible refine Frame.each (fun _ _ _ => ?_) ?_

theorem State.latchMonitors_frame {ps₀ : List Part} {s₀ : State} (s : State) (n : ℕ)
    (hs₀ : [.objects, .display] ⊆ ps₀) (h₀ : Frame ps₀ s₀ s) :
    Frame ps₀ s₀ (State.latchMonitors s n) := by
  unfold State.latchMonitors
  repeat' first
    | with_reducible assumption
    | with_reducible apply State.wr_frame (hs₀ := Part.tr (by decide) hs₀)
    | with_reducible apply State.setDsp_frame (hs₀ := Part.tr (by decide) hs₀)
    | with_reducible refine Frame.ite ?_ ?_
    | with_reducible refine Frame.each (fun _ _ _ => ?_) ?_

theorem State.setOutput_frame {ps₀ : List Part} {s₀ : State} (s : State) (n : ℕ) (st : ℕ) (cause : ℕ)
    (hs₀ : [.objects, .records, .pins, .timers, .out] ⊆ ps₀) (h₀ : Frame ps₀ s₀ s) :
    Frame ps₀ s₀ (State.setOutput s n st cause) := by
  unfold State.setOutput
  repeat' first
    | with_reducible assumption
    | with_reducible apply State.stReady_frame (hs₀ := Part.tr (by decide) hs₀)
    | with_reducible apply State.noteStation_frame (hs₀ := Part.tr (by decide) hs₀)
    | with_reducible apply State.wr_frame (hs₀ := Part.tr (by decide) hs₀)
    | with_reducible apply State.startTimer_frame (hs₀ := Part.tr (by decide) hs₀)
    | with_reducible apply State.clearAlarm_frame (hs₀ := Part.tr (by decide) hs₀)
    | with_reducible refine Frame.ite ?_ ?_

theorem State.psrEntry_frame {ps₀ : List Part} {s₀ : State} (s : State) (n : ℕ)
    (hs₀ : [.objects, .display, .records, .pins, .timers, .out] ⊆ ps₀) (h₀ : Frame ps₀ s₀ s) :
    Frame ps₀ s₀ (State.psrEntry s n) := by
  unfold State.psrEntry
  repeat' first
    | with_reducible assumption
    | with_reducible apply State.setOutput_frame (hs₀ := Part.tr (by decide) hs₀)
    | with_reducible apply State.setDsp_frame (hs₀ := Part.tr (by decide) hs₀)
    | with_reducible apply State.count_frame (hs₀ := Part.tr (by decide) hs₀)
    | with_reducible apply State.emit_frame (hs₀ := Part.tr (by decide) hs₀)
    | with_reducible refine Frame.ite ?_ ?_

theorem State.boundaryLatch_frame {ps₀ : List Part} {s₀ : State} (s : State) (n : ℕ)
    (hs₀ : [.objects, .texts, .results, .memory, .compositor, .guard, .display, .slices, .checks, .records, .pins, .timers, .crossings, .out, .free] ⊆ ps₀) (h₀ : Frame ps₀ s₀ s) :
    Frame ps₀ s₀ (State.boundaryLatch s n) := by
  unfold State.boundaryLatch
  repeat' first
    | with_reducible assumption
    | with_reducible apply State.latchSets_frame (hs₀ := Part.tr (by decide) hs₀)
    | with_reducible apply State.setCompose_frame (hs₀ := Part.tr (by decide) hs₀)
    | with_reducible apply State.latchRevocations_frame (hs₀ := Part.tr (by decide) hs₀)
    | with_reducible apply State.closeOutside_frame (hs₀ := Part.tr (by decide) hs₀)
    | with_reducible apply State.wr_frame (hs₀ := Part.tr (by decide) hs₀)
    | with_reducible apply State.setCmp_frame (hs₀ := Part.tr (by decide) hs₀)
    | with_reducible apply State.startFrame_frame (hs₀ := Part.tr (by decide) hs₀)
    | with_reducible apply State.setNextBoundary_frame (hs₀ := Part.tr (by decide) hs₀)
    | with_reducible apply State.latchMonitors_frame (hs₀ := Part.tr (by decide) hs₀)
    | with_reducible apply State.psrEntry_frame (hs₀ := Part.tr (by decide) hs₀)
    | with_reducible apply State.decideStatic_frame (hs₀ := Part.tr (by decide) hs₀)
    | with_reducible apply State.setDsp_frame (hs₀ := Part.tr (by decide) hs₀)
    | with_reducible refine Frame.ite ?_ ?_

theorem State.fixPointHere_frame {ps₀ : List Part} {s₀ : State} (s : State) (n : ℕ)
    (hs₀ : [.objects, .texts, .compositor, .guard, .display, .slices, .records] ⊆ ps₀) (h₀ : Frame ps₀ s₀ s) :
    Frame ps₀ s₀ (State.fixPointHere s n) := by
  unfold State.fixPointHere
  repeat' first
    | with_reducible assumption
    | with_reducible apply State.latchSets_frame (hs₀ := Part.tr (by decide) hs₀)
    | with_reducible apply State.latchRevocations_frame (hs₀ := Part.tr (by decide) hs₀)
    | with_reducible apply State.closeOutside_frame (hs₀ := Part.tr (by decide) hs₀)
    | with_reducible apply State.wr_frame (hs₀ := Part.tr (by decide) hs₀)
    | with_reducible apply State.setCmp_frame (hs₀ := Part.tr (by decide) hs₀)
    | with_reducible apply State.startFrame_frame (hs₀ := Part.tr (by decide) hs₀)
    | with_reducible apply State.setNextBoundary_frame (hs₀ := Part.tr (by decide) hs₀)
    | with_reducible apply State.setDsp_frame (hs₀ := Part.tr (by decide) hs₀)

theorem State.writeBack_frame {ps₀ : List Part} {s₀ : State} (s : State) (n : ℕ) (y : ℕ) (pixels : List ℕ) (room : Bool)
    (hs₀ : [.objects, .results, .memory, .compositor, .checks, .records] ⊆ ps₀) (h₀ : Frame ps₀ s₀ s) :
    Frame ps₀ s₀ (State.writeBack s n y pixels room) := by
  unfold State.writeBack
  repeat' first
    | with_reducible assumption
    | with_reducible apply State.setCmp_frame (hs₀ := Part.tr (by decide) hs₀)
    | with_reducible apply State.count_frame (hs₀ := Part.tr (by decide) hs₀)
    | with_reducible apply State.writeTagged_frame (hs₀ := Part.tr (by decide) hs₀)
    | with_reducible refine Frame.ite ?_ ?_

theorem State.endWriteBack_frame {ps₀ : List Part} {s₀ : State} (s : State) (n : ℕ)
    (hs₀ : [.objects, .compositor, .records] ⊆ ps₀) (h₀ : Frame ps₀ s₀ s) :
    Frame ps₀ s₀ (State.endWriteBack s n) := by
  unfold State.endWriteBack
  repeat' first
    | with_reducible assumption
    | with_reducible apply State.setCmp_frame (hs₀ := Part.tr (by decide) hs₀)
    | with_reducible apply State.toHolder_frame (hs₀ := Part.tr (by decide) hs₀)
    | with_reducible apply State.count_frame (hs₀ := Part.tr (by decide) hs₀)
    | with_reducible refine Frame.ite ?_ ?_

theorem State.monitorLine_frame {ps₀ : List Part} {s₀ : State} (s : State) (n : ℕ) (y : ℕ) (pixels : List ℕ) (boxes : List (ℤ × ℤ × ℤ × ℤ))
    (hs₀ : [.display] ⊆ ps₀) (h₀ : Frame ps₀ s₀ s) :
    Frame ps₀ s₀ (State.monitorLine s n y pixels boxes) := by
  unfold State.monitorLine
  repeat' first
    | with_reducible assumption
    | with_reducible apply State.setDsp_frame (hs₀ := Part.tr (by decide) hs₀)
    | with_reducible refine Frame.ite ?_ ?_
    | with_reducible refine Frame.each (fun _ _ _ => ?_) ?_

theorem State.freezeNote_frame {ps₀ : List Part} {s₀ : State} (s : State) (n : ℕ) (r : Rec)
    (hs₀ : [.objects, .records] ⊆ ps₀) (h₀ : Frame ps₀ s₀ s) :
    Frame ps₀ s₀ (State.freezeNote s n r) := by
  unfold State.freezeNote
  repeat' first
    | with_reducible assumption
    | with_reducible apply State.toTenant_frame (hs₀ := Part.tr (by decide) hs₀)
    | with_reducible refine Frame.each (fun _ _ _ => ?_) ?_

theorem State.freezeCheck_frame {ps₀ : List Part} {s₀ : State} (s : State) (n : ℕ) (k : ℕ) (count : ℕ)
    (hs₀ : [.objects, .records, .pins, .out] ⊆ ps₀) (h₀ : Frame ps₀ s₀ s) :
    Frame ps₀ s₀ (State.freezeCheck s n k count) := by
  unfold State.freezeCheck
  repeat' first
    | with_reducible assumption
    | with_reducible apply State.freezeNote_frame (hs₀ := Part.tr (by decide) hs₀)
    | with_reducible apply State.wr_frame (hs₀ := Part.tr (by decide) hs₀)
    | with_reducible apply State.toStationLog_frame (hs₀ := Part.tr (by decide) hs₀)
    | with_reducible apply State.alarm_frame (hs₀ := Part.tr (by decide) hs₀)
    | with_reducible apply State.count_frame (hs₀ := Part.tr (by decide) hs₀)
    | with_reducible refine Frame.ite ?_ ?_

theorem State.freezeClear_frame {ps₀ : List Part} {s₀ : State} (s : State) (n : ℕ) (k : ℕ)
    (hs₀ : [.objects, .records, .pins, .out] ⊆ ps₀) (h₀ : Frame ps₀ s₀ s) :
    Frame ps₀ s₀ (State.freezeClear s n k) := by
  unfold State.freezeClear
  repeat' first
    | with_reducible assumption
    | with_reducible apply State.freezeNote_frame (hs₀ := Part.tr (by decide) hs₀)
    | with_reducible apply State.wr_frame (hs₀ := Part.tr (by decide) hs₀)
    | with_reducible apply State.clearAlarm_frame (hs₀ := Part.tr (by decide) hs₀)
    | with_reducible refine Frame.ite ?_ ?_

theorem State.endMonitor_frame {ps₀ : List Part} {s₀ : State} (s : State) (n : ℕ) (k : ℕ)
    (hs₀ : [.objects, .display, .records, .pins, .out] ⊆ ps₀) (h₀ : Frame ps₀ s₀ s) :
    Frame ps₀ s₀ (State.endMonitor s n k) := by
  unfold State.endMonitor
  repeat' first
    | with_reducible assumption
    | with_reducible apply State.wr_frame (hs₀ := Part.tr (by decide) hs₀)
    | with_reducible apply State.freezeClear_frame (hs₀ := Part.tr (by decide) hs₀)
    | with_reducible apply State.freezeCheck_frame (hs₀ := Part.tr (by decide) hs₀)
    | with_reducible apply State.setDsp_frame (hs₀ := Part.tr (by decide) hs₀)
    | with_reducible refine Frame.ite ?_ ?_

theorem State.freezeTick_frame {ps₀ : List Part} {s₀ : State} (s : State) (n : ℕ)
    (hs₀ : [.objects, .records, .pins, .out] ⊆ ps₀) (h₀ : Frame ps₀ s₀ s) :
    Frame ps₀ s₀ (State.freezeTick s n) := by
  unfold State.freezeTick
  repeat' first
    | with_reducible assumption
    | with_reducible apply State.freezeCheck_frame (hs₀ := Part.tr (by decide) hs₀)
    | with_reducible refine Frame.ite ?_ ?_
    | with_reducible refine Frame.each (fun _ _ _ => ?_) ?_

theorem State.recordLead_frame {ps₀ : List Part} {s₀ : State} (s : State) (n : ℕ) (y : ℕ)
    (hs₀ : [.objects] ⊆ ps₀) (h₀ : Frame ps₀ s₀ s) :
    Frame ps₀ s₀ (State.recordLead s n y) := by
  unfold State.recordLead
  repeat' first
    | with_reducible assumption
    | with_reducible apply State.wr_frame (hs₀ := Part.tr (by decide) hs₀)
    | with_reducible apply State.count_frame (hs₀ := Part.tr (by decide) hs₀)
    | with_reducible refine Frame.ite ?_ ?_

theorem State.takeLine_frame {ps₀ : List Part} {s₀ : State} (s : State) (n : ℕ) (y : ℕ)
    (hs₀ : [.objects, .compositor, .guard, .free] ⊆ ps₀) (h₀ : Frame ps₀ s₀ s) :
    Frame ps₀ s₀ (State.takeLine s n y).1 := by
  unfold State.takeLine
  repeat' first
    | with_reducible assumption
    | with_reducible apply State.countSegs_frame (hs₀ := Part.tr (by decide) hs₀)
    | with_reducible apply State.setCmp_frame (hs₀ := Part.tr (by decide) hs₀)
    | with_reducible apply State.count_frame (hs₀ := Part.tr (by decide) hs₀)
    | (conv => arg 3; arg 50); with_reducible refine Frame.set_free (Part.lift hs₀ (by decide)) ?_
    | dsimp only
    | split

theorem State.takeLine_out {ps₀ : List Part} {s₀ : State} (s : State) (n : ℕ) (y : ℕ) {y₀ z₀}
    (hs₀ : [.objects, .compositor, .guard, .free] ⊆ ps₀) (e₀ : State.takeLine s n y = (z₀, y₀)) (h₀ : Frame ps₀ s₀ s) : Frame ps₀ s₀ z₀ := by
  have x₀ := State.takeLine_frame s n y hs₀ h₀; rw [e₀] at x₀; exact x₀

theorem State.publish_frame {ps₀ : List Part} {s₀ : State} (s : State) (n : ℕ)
    (hs₀ : [.display] ⊆ ps₀) (h₀ : Frame ps₀ s₀ s) :
    Frame ps₀ s₀ (State.publish s n) := by
  unfold State.publish
  repeat' first
    | with_reducible assumption
    | with_reducible apply State.setDsp_frame (hs₀ := Part.tr (by decide) hs₀)

theorem State.sendLine_frame {ps₀ : List Part} {s₀ : State} (s : State) (n : ℕ) (y : ℕ) (px : List ℕ)
    (hs₀ : [.display, .out] ⊆ ps₀) (h₀ : Frame ps₀ s₀ s) :
    Frame ps₀ s₀ (State.sendLine s n y px) := by
  unfold State.sendLine
  repeat' first
    | with_reducible assumption
    | with_reducible apply State.setDsp_frame (hs₀ := Part.tr (by decide) hs₀)
    | with_reducible apply State.emit_frame (hs₀ := Part.tr (by decide) hs₀)
    | with_reducible refine Frame.ite ?_ ?_

theorem State.sendPps_frame {ps₀ : List Part} {s₀ : State} (s : State) (n : ℕ)
    (hs₀ : [.display, .out] ⊆ ps₀) (h₀ : Frame ps₀ s₀ s) :
    Frame ps₀ s₀ (State.sendPps s n) := by
  unfold State.sendPps
  repeat' first
    | with_reducible assumption
    | with_reducible apply State.setDsp_frame (hs₀ := Part.tr (by decide) hs₀)
    | with_reducible apply State.emit_frame (hs₀ := Part.tr (by decide) hs₀)
    | with_reducible refine Frame.ite ?_ ?_

theorem State.emitLine_frame {ps₀ : List Part} {s₀ : State} (s : State) (n : ℕ) (y : ℕ) (room : Bool)
    (hs₀ : [.objects, .results, .memory, .compositor, .guard, .display, .checks, .records, .out, .free] ⊆ ps₀) (h₀ : Frame ps₀ s₀ s) :
    Frame ps₀ s₀ (State.emitLine s n y room) := by
  unfold State.emitLine
  repeat' first
    | with_reducible assumption
    | with_reducible apply State.takeLine_frame (hs₀ := Part.tr (by decide) hs₀)
    | with_reducible apply State.recordLead_frame (hs₀ := Part.tr (by decide) hs₀)
    | with_reducible apply State.monitorLine_frame (hs₀ := Part.tr (by decide) hs₀)
    | with_reducible apply State.sendLine_frame (hs₀ := Part.tr (by decide) hs₀)
    | with_reducible apply State.writeBack_frame (hs₀ := Part.tr (by decide) hs₀)
    | with_reducible apply State.cvLine_frame (hs₀ := Part.tr (by decide) hs₀)
    | with_reducible refine Frame.ite ?_ ?_

theorem State.endUnderflow_frame {ps₀ : List Part} {s₀ : State} (s : State) (n : ℕ)
    (hs₀ : [.objects, .compositor, .records] ⊆ ps₀) (h₀ : Frame ps₀ s₀ s) :
    Frame ps₀ s₀ (State.endUnderflow s n) := by
  unfold State.endUnderflow
  repeat' first
    | with_reducible assumption
    | with_reducible apply State.setCmp_frame (hs₀ := Part.tr (by decide) hs₀)
    | with_reducible apply State.toStationLog_frame (hs₀ := Part.tr (by decide) hs₀)
    | dsimp only
    | split

theorem State.linkSleeps_frame {ps₀ : List Part} {s₀ : State} (s : State) (n : ℕ)
    (hs₀ : [.objects, .display, .out] ⊆ ps₀) (h₀ : Frame ps₀ s₀ s) :
    Frame ps₀ s₀ (State.linkSleeps s n) := by
  unfold State.linkSleeps
  repeat' first
    | with_reducible assumption
    | with_reducible apply State.wr_frame (hs₀ := Part.tr (by decide) hs₀)
    | with_reducible apply State.setDsp_frame (hs₀ := Part.tr (by decide) hs₀)
    | with_reducible apply State.emit_frame (hs₀ := Part.tr (by decide) hs₀)

theorem State.leaveRefresh_frame {ps₀ : List Part} {s₀ : State} (s : State) (n : ℕ)
    (hs₀ : [.objects, .display] ⊆ ps₀) (h₀ : Frame ps₀ s₀ s) :
    Frame ps₀ s₀ (State.leaveRefresh s n) := by
  unfold State.leaveRefresh
  repeat' first
    | with_reducible assumption
    | with_reducible apply State.wr_frame (hs₀ := Part.tr (by decide) hs₀)
    | with_reducible apply State.setDsp_frame (hs₀ := Part.tr (by decide) hs₀)
    | with_reducible refine Frame.ite ?_ ?_

theorem State.endPsrFrame_frame {ps₀ : List Part} {s₀ : State} (s : State) (n : ℕ)
    (hs₀ : [.objects, .display, .records, .pins, .timers, .out] ⊆ ps₀) (h₀ : Frame ps₀ s₀ s) :
    Frame ps₀ s₀ (State.endPsrFrame s n) := by
  unfold State.endPsrFrame
  repeat' first
    | with_reducible assumption
    | with_reducible apply State.setOutput_frame (hs₀ := Part.tr (by decide) hs₀)
    | with_reducible apply State.linkSleeps_frame (hs₀ := Part.tr (by decide) hs₀)
    | with_reducible apply State.setDsp_frame (hs₀ := Part.tr (by decide) hs₀)
    | with_reducible refine Frame.ite ?_ ?_

theorem State.endFrame_frame {ps₀ : List Part} {s₀ : State} (s : State) (n : ℕ)
    (hs₀ : [.objects, .compositor, .display, .records, .pins, .timers, .out] ⊆ ps₀) (h₀ : Frame ps₀ s₀ s) :
    Frame ps₀ s₀ (State.endFrame s n) := by
  unfold State.endFrame
  repeat' first
    | with_reducible assumption
    | with_reducible apply State.endWriteBack_frame (hs₀ := Part.tr (by decide) hs₀)
    | with_reducible apply State.setCmp_frame (hs₀ := Part.tr (by decide) hs₀)
    | with_reducible apply State.endPsrFrame_frame (hs₀ := Part.tr (by decide) hs₀)
    | with_reducible apply State.startTimer_frame (hs₀ := Part.tr (by decide) hs₀)
    | with_reducible apply State.endUnderflow_frame (hs₀ := Part.tr (by decide) hs₀)
    | with_reducible apply State.setDsp_frame (hs₀ := Part.tr (by decide) hs₀)
    | with_reducible apply State.endMonitor_frame (hs₀ := Part.tr (by decide) hs₀)
    | with_reducible refine Frame.ite ?_ ?_
    | with_reducible refine Frame.each (fun _ _ _ => ?_) ?_

theorem State.lineStart_frame {ps₀ : List Part} {s₀ : State} (s : State) (n : ℕ) (room : Bool)
    (hs₀ : [.objects, .results, .memory, .compositor, .guard, .display, .checks, .records, .pins, .timers, .out, .free] ⊆ ps₀) (h₀ : Frame ps₀ s₀ s) :
    Frame ps₀ s₀ (State.lineStart s n room).1 := by
  unfold State.lineStart
  repeat' first
    | with_reducible assumption
    | with_reducible apply State.emitLine_frame (hs₀ := Part.tr (by decide) hs₀)
    | with_reducible apply State.publish_frame (hs₀ := Part.tr (by decide) hs₀)
    | with_reducible apply State.setNextBoundary_frame (hs₀ := Part.tr (by decide) hs₀)
    | with_reducible apply State.endFrame_frame (hs₀ := Part.tr (by decide) hs₀)
    | with_reducible apply State.setDsp_frame (hs₀ := Part.tr (by decide) hs₀)
    | with_reducible refine Frame.iteFst ?_ ?_
    | dsimp only
    | split

theorem State.lineStart_out {ps₀ : List Part} {s₀ : State} (s : State) (n : ℕ) (room : Bool) {y₀ z₀}
    (hs₀ : [.objects, .results, .memory, .compositor, .guard, .display, .checks, .records, .pins, .timers, .out, .free] ⊆ ps₀) (e₀ : State.lineStart s n room = (z₀, y₀)) (h₀ : Frame ps₀ s₀ s) : Frame ps₀ s₀ z₀ := by
  have x₀ := State.lineStart_frame s n room hs₀ h₀; rw [e₀] at x₀; exact x₀

theorem State.frameBoundary_frame {ps₀ : List Part} {s₀ : State} (s : State) (n : ℕ)
    (hs₀ : [.objects, .display, .out] ⊆ ps₀) (h₀ : Frame ps₀ s₀ s) :
    Frame ps₀ s₀ (State.frameBoundary s n) := by
  unfold State.frameBoundary
  repeat' first
    | with_reducible assumption
    | with_reducible apply State.wr_frame (hs₀ := Part.tr (by decide) hs₀)
    | with_reducible apply State.sendPps_frame (hs₀ := Part.tr (by decide) hs₀)
    | with_reducible apply State.publish_frame (hs₀ := Part.tr (by decide) hs₀)
    | with_reducible apply State.setDsp_frame (hs₀ := Part.tr (by decide) hs₀)
    | with_reducible apply State.advance_frame (hs₀ := Part.tr (by decide) hs₀)
    | with_reducible apply State.emit_frame (hs₀ := Part.tr (by decide) hs₀)
    | with_reducible refine Frame.ite ?_ ?_

theorem State.enterDetect_frame {ps₀ : List Part} {s₀ : State} (s : State) (n : ℕ) (cause : ℕ)
    (hs₀ : [.objects, .display, .records, .pins, .timers, .out] ⊆ ps₀) (h₀ : Frame ps₀ s₀ s) :
    Frame ps₀ s₀ (State.enterDetect s n cause) := by
  unfold State.enterDetect
  repeat' first
    | with_reducible assumption
    | with_reducible apply State.wr_frame (hs₀ := Part.tr (by decide) hs₀)
    | with_reducible apply State.setOutput_frame (hs₀ := Part.tr (by decide) hs₀)
    | with_reducible apply State.setDsp_frame (hs₀ := Part.tr (by decide) hs₀)
    | with_reducible apply State.emit_frame (hs₀ := Part.tr (by decide) hs₀)
    | with_reducible refine Frame.ite ?_ ?_

theorem State.judgeSink_frame {ps₀ : List Part} {s₀ : State} (s : State) (n : ℕ)
    (hs₀ : [.objects, .records, .pins, .timers, .out] ⊆ ps₀) (h₀ : Frame ps₀ s₀ s) :
    Frame ps₀ s₀ (State.judgeSink s n) := by
  unfold State.judgeSink
  repeat' first
    | with_reducible assumption
    | with_reducible apply State.setOutput_frame (hs₀ := Part.tr (by decide) hs₀)
    | with_reducible apply State.alarm_frame (hs₀ := Part.tr (by decide) hs₀)
    | with_reducible refine Frame.ite ?_ ?_

theorem State.applyMode_frame {ps₀ : List Part} {s₀ : State} (s : State) (n : ℕ)
    (hs₀ : [.objects, .display] ⊆ ps₀) (h₀ : Frame ps₀ s₀ s) :
    Frame ps₀ s₀ (State.applyMode s n) := by
  unfold State.applyMode
  repeat' first
    | with_reducible assumption
    | with_reducible apply State.setDsp_frame (hs₀ := Part.tr (by decide) hs₀)
    | with_reducible apply State.noteChange_frame (hs₀ := Part.tr (by decide) hs₀)
    | (conv => arg 3; arg 50); with_reducible refine Frame.set_regs (Part.lift hs₀ (by decide)) ?_

theorem State.panelDown_frame {ps₀ : List Part} {s₀ : State} (s : State) (n : ℕ)
    (hs₀ : [.display, .pins, .timers, .out] ⊆ ps₀) (h₀ : Frame ps₀ s₀ s) :
    Frame ps₀ s₀ (State.panelDown s n) := by
  unfold State.panelDown
  repeat' first
    | with_reducible assumption
    | with_reducible apply State.drive_frame (hs₀ := Part.tr (by decide) hs₀)
    | with_reducible apply State.startTimer_frame (hs₀ := Part.tr (by decide) hs₀)
    | with_reducible apply State.setDsp_frame (hs₀ := Part.tr (by decide) hs₀)
    | with_reducible refine Frame.ite ?_ ?_

theorem State.outputOff_frame {ps₀ : List Part} {s₀ : State} (s : State) (n : ℕ)
    (hs₀ : [.objects, .display, .records, .pins, .timers, .out] ⊆ ps₀) (h₀ : Frame ps₀ s₀ s) :
    Frame ps₀ s₀ (State.outputOff s n) := by
  unfold State.outputOff
  repeat' first
    | with_reducible assumption
    | with_reducible apply State.wr_frame (hs₀ := Part.tr (by decide) hs₀)
    | with_reducible apply State.leaveRefresh_frame (hs₀ := Part.tr (by decide) hs₀)
    | with_reducible apply State.panelDown_frame (hs₀ := Part.tr (by decide) hs₀)
    | with_reducible apply State.setOutput_frame (hs₀ := Part.tr (by decide) hs₀)
    | with_reducible apply State.setDsp_frame (hs₀ := Part.tr (by decide) hs₀)
    | with_reducible apply State.emit_frame (hs₀ := Part.tr (by decide) hs₀)
    | with_reducible refine Frame.ite ?_ ?_

theorem State.stopTiming_frame {ps₀ : List Part} {s₀ : State} (s : State) (n : ℕ)
    (hs₀ : [.objects, .compositor, .guard, .display, .checks] ⊆ ps₀) (h₀ : Frame ps₀ s₀ s) :
    Frame ps₀ s₀ (State.stopTiming s n) := by
  unfold State.stopTiming
  repeat' first
    | with_reducible assumption
    | with_reducible apply State.applyMode_frame (hs₀ := Part.tr (by decide) hs₀)
    | with_reducible apply State.setGrd_frame (hs₀ := Part.tr (by decide) hs₀)
    | with_reducible apply State.cvSourceLost_frame (hs₀ := Part.tr (by decide) hs₀)
    | with_reducible apply State.setCmp_frame (hs₀ := Part.tr (by decide) hs₀)
    | with_reducible apply State.setDsp_frame (hs₀ := Part.tr (by decide) hs₀)
    | with_reducible refine Frame.ite ?_ ?_

theorem State.releaseMonitors_frame {ps₀ : List Part} {s₀ : State} (s : State) (n : ℕ)
    (hs₀ : [.display] ⊆ ps₀) (h₀ : Frame ps₀ s₀ s) :
    Frame ps₀ s₀ (State.releaseMonitors s n) := by
  unfold State.releaseMonitors
  repeat' first
    | with_reducible assumption
    | with_reducible apply State.setDsp_frame (hs₀ := Part.tr (by decide) hs₀)
    | dsimp only
    | split

theorem State.startTiming_frame {ps₀ : List Part} {s₀ : State} (s : State) (n : ℕ)
    (hs₀ : [.objects, .display, .records, .pins, .timers, .out] ⊆ ps₀) (h₀ : Frame ps₀ s₀ s) :
    Frame ps₀ s₀ (State.startTiming s n) := by
  unfold State.startTiming
  repeat' first
    | with_reducible assumption
    | with_reducible apply State.releaseMonitors_frame (hs₀ := Part.tr (by decide) hs₀)
    | with_reducible apply State.enterDetect_frame (hs₀ := Part.tr (by decide) hs₀)
    | with_reducible apply State.drive_frame (hs₀ := Part.tr (by decide) hs₀)
    | with_reducible apply State.startTimer_frame (hs₀ := Part.tr (by decide) hs₀)
    | with_reducible apply State.setDsp_frame (hs₀ := Part.tr (by decide) hs₀)
    | with_reducible refine Frame.ite ?_ ?_

theorem State.outputSleep_frame {ps₀ : List Part} {s₀ : State} (s : State) (n : ℕ)
    (hs₀ : [.objects, .compositor, .guard, .display, .checks, .records, .pins, .timers, .out] ⊆ ps₀) (h₀ : Frame ps₀ s₀ s) :
    Frame ps₀ s₀ (State.outputSleep s n) := by
  unfold State.outputSleep
  repeat' first
    | with_reducible assumption
    | with_reducible apply State.outputOff_frame (hs₀ := Part.tr (by decide) hs₀)
    | with_reducible apply State.stopTiming_frame (hs₀ := Part.tr (by decide) hs₀)
    | with_reducible apply State.setOutput_frame (hs₀ := Part.tr (by decide) hs₀)
    | with_reducible apply State.linkSleeps_frame (hs₀ := Part.tr (by decide) hs₀)
    | with_reducible apply State.setDsp_frame (hs₀ := Part.tr (by decide) hs₀)
    | with_reducible refine Frame.ite ?_ ?_

theorem State.modeCommit_frame {ps₀ : List Part} {s₀ : State} (s : State) (n : ℕ) (who : Requester)
    (hs₀ : [.objects, .results, .display, .records, .pins, .timers, .out] ⊆ ps₀) (h₀ : Frame ps₀ s₀ s) :
    Frame ps₀ s₀ (State.modeCommit s n who) := by
  unfold State.modeCommit
  repeat' first
    | with_reducible assumption
    | with_reducible apply State.answer_frame (hs₀ := Part.tr (by decide) hs₀)
    | with_reducible apply State.applyMode_frame (hs₀ := Part.tr (by decide) hs₀)
    | with_reducible apply State.leaveRefresh_frame (hs₀ := Part.tr (by decide) hs₀)
    | with_reducible apply State.outputOff_frame (hs₀ := Part.tr (by decide) hs₀)
    | with_reducible apply State.finish_frame (hs₀ := Part.tr (by decide) hs₀)
    | with_reducible apply State.startResult_frame (hs₀ := Part.tr (by decide) hs₀)
    | with_reducible apply State.setOutput_frame (hs₀ := Part.tr (by decide) hs₀)
    | with_reducible apply State.setDsp_frame (hs₀ := Part.tr (by decide) hs₀)
    | with_reducible refine Frame.ite ?_ ?_

/-! ### Machine/TouchScan.lean -/

theorem State.touchTo_frame {ps₀ : List Part} {s₀ : State} (s : State) (h : Holder) (r : TouchRec)
    (hs₀ : [.objects, .touchQueues] ⊆ ps₀) (h₀ : Frame ps₀ s₀ s) :
    Frame ps₀ s₀ (State.touchTo s h r) := by
  unfold State.touchTo
  repeat' first
    | with_reducible assumption
    | with_reducible apply State.touchToEnclave_frame (hs₀ := Part.tr (by decide) hs₀)
    | with_reducible apply State.touchToTenant_frame (hs₀ := Part.tr (by decide) hs₀)
    | with_reducible refine Frame.ite ?_ ?_
    | split

theorem State.touchStatus_frame {ps₀ : List Part} {s₀ : State} (s : State) (n : ℕ) (h : Holder) (zone : ℕ) (code : ℕ)
    (hs₀ : [.objects, .touchQueues, .free] ⊆ ps₀) (h₀ : Frame ps₀ s₀ s) :
    Frame ps₀ s₀ (State.touchStatus s n h zone code) := by
  unfold State.touchStatus
  repeat' first
    | with_reducible assumption
    | with_reducible apply State.drawNat_frame (hs₀ := Part.tr (by decide) hs₀)
    | with_reducible apply State.touchTo_frame (hs₀ := Part.tr (by decide) hs₀)
    | with_reducible refine Frame.ite ?_ ?_

theorem State.touchStatusAll_frame {ps₀ : List Part} {s₀ : State} (s : State) (n : ℕ) (code : ℕ) (p : (ℕ → Bool))
    (hs₀ : [.objects, .touchQueues, .free] ⊆ ps₀) (h₀ : Frame ps₀ s₀ s) :
    Frame ps₀ s₀ (State.touchStatusAll s n code p) := by
  unfold State.touchStatusAll
  repeat' first
    | with_reducible assumption
    | with_reducible apply State.touchStatus_frame (hs₀ := Part.tr (by decide) hs₀)
    | with_reducible refine Frame.each (fun _ _ _ => ?_) ?_

theorem State.touchPlan_frame {ps₀ : List Part} {s₀ : State} (s : State) (n : ℕ)
    (hs₀ : [.objects, .touch, .touchQueues, .free] ⊆ ps₀) (h₀ : Frame ps₀ s₀ s) :
    Frame ps₀ s₀ (State.touchPlan s n) := by
  unfold State.touchPlan
  repeat' first
    | with_reducible assumption
    | with_reducible apply State.setTch_frame (hs₀ := Part.tr (by decide) hs₀)
    | with_reducible apply State.wr_frame (hs₀ := Part.tr (by decide) hs₀)
    | with_reducible apply State.touchStatusAll_frame (hs₀ := Part.tr (by decide) hs₀)
    | with_reducible refine Frame.ite ?_ ?_

theorem State.syncReference_frame {ps₀ : List Part} {s₀ : State} (s : State) (n : ℕ)
    (hs₀ : [.objects] ⊆ ps₀) (h₀ : Frame ps₀ s₀ s) :
    Frame ps₀ s₀ (State.syncReference s n) := by
  unfold State.syncReference
  repeat' first
    | with_reducible assumption
    | with_reducible apply State.wr_frame (hs₀ := Part.tr (by decide) hs₀)

theorem State.touchCandidates_frame {ps₀ : List Part} {s₀ : State} (s : State) (n : ℕ) (p : PairData)
    (hs₀ : [.free] ⊆ ps₀) (h₀ : Frame ps₀ s₀ s) :
    Frame ps₀ s₀ (State.touchCandidates s n p).2 := by
  unfold State.touchCandidates
  repeat' first
    | with_reducible assumption
    | with_reducible apply State.drawNat_frame (hs₀ := Part.tr (by decide) hs₀)
    | with_reducible refine Frame.iteSnd ?_ ?_
    | with_reducible refine Frame.foldlSnd (fun _ _ _ => ?_) ?_
    | dsimp only
    | split

theorem State.touchCandidates_out {ps₀ : List Part} {s₀ : State} (s : State) (n : ℕ) (p : PairData) {y₀ z₀}
    (hs₀ : [.free] ⊆ ps₀) (e₀ : State.touchCandidates s n p = (y₀, z₀)) (h₀ : Frame ps₀ s₀ s) : Frame ps₀ s₀ z₀ := by
  have x₀ := State.touchCandidates_frame s n p hs₀ h₀; rw [e₀] at x₀; exact x₀

/-! ### Machine/Touch.lean -/

theorem State.setTouchState_frame {ps₀ : List Part} {s₀ : State} (s : State) (n : ℕ) (v : ℕ)
    (hs₀ : [.objects, .results, .stations, .touch, .records, .pins, .timers, .out] ⊆ ps₀) (h₀ : Frame ps₀ s₀ s) :
    Frame ps₀ s₀ (State.setTouchState s n v) := by
  unfold State.setTouchState
  repeat' first
    | with_reducible assumption
    | with_reducible apply State.syncEdge_frame (hs₀ := Part.tr (by decide) hs₀)
    | with_reducible apply State.stReady_frame (hs₀ := Part.tr (by decide) hs₀)
    | with_reducible apply State.setTch_frame (hs₀ := Part.tr (by decide) hs₀)
    | with_reducible apply State.wave_frame (hs₀ := Part.tr (by decide) hs₀)
    | with_reducible apply State.drive_frame (hs₀ := Part.tr (by decide) hs₀)
    | with_reducible apply State.wr_frame (hs₀ := Part.tr (by decide) hs₀)
    | with_reducible apply State.startTimer_frame (hs₀ := Part.tr (by decide) hs₀)
    | with_reducible apply State.finish_frame (hs₀ := Part.tr (by decide) hs₀)
    | with_reducible refine Frame.ite ?_ ?_

theorem State.setContacts_frame {ps₀ : List Part} {s₀ : State} (s : State) (n : ℕ) (cs : List Contact)
    (hs₀ : [.objects, .compositor, .display, .touch, .crossings, .out, .free] ⊆ ps₀) (h₀ : Frame ps₀ s₀ s) :
    Frame ps₀ s₀ (State.setContacts s n cs) := by
  unfold State.setContacts
  repeat' first
    | with_reducible assumption
    | with_reducible apply State.setTch_frame (hs₀ := Part.tr (by decide) hs₀)
    | with_reducible apply State.wr_frame (hs₀ := Part.tr (by decide) hs₀)
    | with_reducible apply State.newTable_frame (hs₀ := Part.tr (by decide) hs₀)

theorem State.reportContact_frame {ps₀ : List Part} {s₀ : State} (s : State) (n : ℕ) (c : Contact) (r : TouchRec)
    (hs₀ : [.objects, .touchQueues, .hapticQueues, .records, .free] ⊆ ps₀) (h₀ : Frame ps₀ s₀ s) :
    Frame ps₀ s₀ (State.reportContact s n c r) := by
  unfold State.reportContact
  repeat' first
    | with_reducible assumption
    | with_reducible apply State.hapTouch_frame (hs₀ := Part.tr (by decide) hs₀)
    | with_reducible apply State.touchTo_frame (hs₀ := Part.tr (by decide) hs₀)
    | with_reducible refine Frame.ite ?_ ?_

theorem State.cancelAll_frame {ps₀ : List Part} {s₀ : State} (s : State) (n : ℕ) (cause : ℕ)
    (hs₀ : [.objects, .touchQueues, .hapticQueues, .records, .free] ⊆ ps₀) (h₀ : Frame ps₀ s₀ s) :
    Frame ps₀ s₀ (State.cancelAll s n cause) := by
  unfold State.cancelAll
  repeat' first
    | with_reducible assumption
    | with_reducible apply State.reportContact_frame (hs₀ := Part.tr (by decide) hs₀)
    | with_reducible refine Frame.each (fun _ _ _ => ?_) ?_

theorem State.confirmContact_frame {ps₀ : List Part} {s₀ : State} (s : State) (n : ℕ) (c : Contact)
    (hs₀ : [.objects] ⊆ ps₀) (h₀ : Frame ps₀ s₀ s) :
    Frame ps₀ s₀ (State.confirmContact s n c).s := by
  unfold State.confirmContact
  repeat' first
    | with_reducible assumption
    | with_reducible apply State.count_frame (hs₀ := Part.tr (by decide) hs₀)
    | with_reducible refine Frame.ite ?_ ?_

theorem State.moveContact_frame {ps₀ : List Part} {s₀ : State} (s : State) (n : ℕ) (c0 : Contact) (k : Candidate) (p : PairData)
    (hs₀ : [.objects] ⊆ ps₀) (h₀ : Frame ps₀ s₀ s) :
    Frame ps₀ s₀ (State.moveContact s n c0 k p).s := by
  unfold State.moveContact
  repeat' first
    | with_reducible assumption
    | with_reducible apply State.count_frame (hs₀ := Part.tr (by decide) hs₀)
    | dsimp only
    | split

theorem State.stepContact_frame {ps₀ : List Part} {s₀ : State} (s : State) (n : ℕ) (p : PairData) (c : Contact) (m : Option Candidate)
    (hs₀ : [.objects] ⊆ ps₀) (h₀ : Frame ps₀ s₀ s) :
    Frame ps₀ s₀ (State.stepContact s n p c m).s := by
  unfold State.stepContact
  repeat' first
    | with_reducible assumption
    | with_reducible apply State.confirmContact_frame (hs₀ := Part.tr (by decide) hs₀)
    | with_reducible apply State.moveContact_frame (hs₀ := Part.tr (by decide) hs₀)
    | with_reducible apply State.count_frame (hs₀ := Part.tr (by decide) hs₀)
    | dsimp only
    | split

theorem State.stepAll_frame {ps₀ : List Part} {s₀ : State} (s : State) (n : ℕ) (p : PairData) (cands : List Candidate) (ms : List (ℕ × ℕ))
    (hs₀ : [.objects] ⊆ ps₀) (h₀ : Frame ps₀ s₀ s) :
    Frame ps₀ s₀ (State.stepAll s n p cands ms).1 := by
  unfold State.stepAll
  repeat' first
    | with_reducible assumption
    | with_reducible apply State.stepContact_frame (hs₀ := Part.tr (by decide) hs₀)
    | with_reducible refine Frame.foldlFst (fun _ _ _ => ?_) ?_

theorem State.stepAll_out {ps₀ : List Part} {s₀ : State} (s : State) (n : ℕ) (p : PairData) (cands : List Candidate) (ms : List (ℕ × ℕ)) {y₀ z₀}
    (hs₀ : [.objects] ⊆ ps₀) (e₀ : State.stepAll s n p cands ms = (z₀, y₀)) (h₀ : Frame ps₀ s₀ s) : Frame ps₀ s₀ z₀ := by
  have x₀ := State.stepAll_frame s n p cands ms hs₀ h₀; rw [e₀] at x₀; exact x₀

theorem State.newContacts_frame {ps₀ : List Part} {s₀ : State} (s : State) (n : ℕ) (live : List Contact) (free : List Candidate)
    (hs₀ : [.objects, .touch] ⊆ ps₀) (h₀ : Frame ps₀ s₀ s) :
    Frame ps₀ s₀ (State.newContacts s n live free).1 := by
  unfold State.newContacts
  repeat' first
    | with_reducible assumption
    | with_reducible apply State.setTch_frame (hs₀ := Part.tr (by decide) hs₀)
    | with_reducible apply State.count_frame (hs₀ := Part.tr (by decide) hs₀)
    | with_reducible refine Frame.iteFst ?_ ?_
    | with_reducible refine Frame.foldlFst (fun _ _ _ => ?_) ?_
    | dsimp only
    | split

theorem State.newContacts_out {ps₀ : List Part} {s₀ : State} (s : State) (n : ℕ) (live : List Contact) (free : List Candidate) {y₀ z₀}
    (hs₀ : [.objects, .touch] ⊆ ps₀) (e₀ : State.newContacts s n live free = (z₀, y₀)) (h₀ : Frame ps₀ s₀ s) : Frame ps₀ s₀ z₀ := by
  have x₀ := State.newContacts_frame s n live free hs₀ h₀; rw [e₀] at x₀; exact x₀

theorem State.trackAll_frame {ps₀ : List Part} {s₀ : State} (s : State) (n : ℕ) (p : PairData) (cands : List Candidate)
    (hs₀ : [.touch] ⊆ ps₀) (h₀ : Frame ps₀ s₀ s) :
    Frame ps₀ s₀ (State.trackAll s n p cands) := by
  unfold State.trackAll
  repeat' first
    | with_reducible assumption
    | with_reducible apply State.setTch_frame (hs₀ := Part.tr (by decide) hs₀)

theorem State.liftAbsorbed_frame {ps₀ : List Part} {s₀ : State} (s : State) (n : ℕ)
    (hs₀ : [.objects, .touch, .touchQueues, .free] ⊆ ps₀) (h₀ : Frame ps₀ s₀ s) :
    Frame ps₀ s₀ (State.liftAbsorbed s n) := by
  unfold State.liftAbsorbed
  repeat' first
    | with_reducible assumption
    | with_reducible apply State.setTch_frame (hs₀ := Part.tr (by decide) hs₀)
    | with_reducible apply State.touchStatus_frame (hs₀ := Part.tr (by decide) hs₀)
    | with_reducible refine Frame.ite ?_ ?_
    | with_reducible refine Frame.each (fun _ _ _ => ?_) ?_

theorem State.releaseAreas_frame {ps₀ : List Part} {s₀ : State} (s : State) (n : ℕ) (p : PairData)
    (hs₀ : [.objects, .touch, .touchQueues, .free] ⊆ ps₀) (h₀ : Frame ps₀ s₀ s) :
    Frame ps₀ s₀ (State.releaseAreas s n p) := by
  unfold State.releaseAreas
  repeat' first
    | with_reducible assumption
    | with_reducible apply State.setTch_frame (hs₀ := Part.tr (by decide) hs₀)
    | with_reducible apply State.touchStatusAll_frame (hs₀ := Part.tr (by decide) hs₀)
    | with_reducible refine Frame.ite ?_ ?_
    | with_reducible refine Frame.foldl (fun _ _ _ => ?_) ?_

theorem State.finishCalibration_frame {ps₀ : List Part} {s₀ : State} (s : State) (n : ℕ) (pairs : List (List ℤ × List ℤ))
    (hs₀ : [.objects, .results, .stations, .touch, .touchQueues, .records, .pins, .timers, .out, .free] ⊆ ps₀) (h₀ : Frame ps₀ s₀ s) :
    Frame ps₀ s₀ (State.finishCalibration s n pairs) := by
  unfold State.finishCalibration
  repeat' first
    | with_reducible assumption
    | with_reducible apply State.setTch_frame (hs₀ := Part.tr (by decide) hs₀)
    | with_reducible apply State.setTouchState_frame (hs₀ := Part.tr (by decide) hs₀)
    | with_reducible apply State.toStationLog_frame (hs₀ := Part.tr (by decide) hs₀)
    | with_reducible apply State.alarm_frame (hs₀ := Part.tr (by decide) hs₀)
    | with_reducible apply State.count_frame (hs₀ := Part.tr (by decide) hs₀)
    | with_reducible apply State.touchStatusAll_frame (hs₀ := Part.tr (by decide) hs₀)
    | with_reducible refine Frame.ite ?_ ?_

theorem State.calibrationPair_frame {ps₀ : List Part} {s₀ : State} (s : State) (n : ℕ) (nodes : List ℕ) (self : List ℕ)
    (hs₀ : [.objects, .results, .stations, .touch, .touchQueues, .records, .pins, .timers, .out, .free] ⊆ ps₀) (h₀ : Frame ps₀ s₀ s) :
    Frame ps₀ s₀ (State.calibrationPair s n nodes self) := by
  unfold State.calibrationPair
  repeat' first
    | with_reducible assumption
    | with_reducible apply State.setTch_frame (hs₀ := Part.tr (by decide) hs₀)
    | with_reducible apply State.finishCalibration_frame (hs₀ := Part.tr (by decide) hs₀)
    | with_reducible refine Frame.ite ?_ ?_

theorem State.calibrate_frame {ps₀ : List Part} {s₀ : State} (s : State) (n : ℕ)
    (hs₀ : [.objects, .results, .stations, .touch, .touchQueues, .records, .pins, .timers, .out, .free] ⊆ ps₀) (h₀ : Frame ps₀ s₀ s) :
    Frame ps₀ s₀ (State.calibrate s n) := by
  unfold State.calibrate
  repeat' first
    | with_reducible assumption
    | with_reducible apply State.setTch_frame (hs₀ := Part.tr (by decide) hs₀)
    | with_reducible apply State.syncReference_frame (hs₀ := Part.tr (by decide) hs₀)
    | with_reducible apply State.setTouchState_frame (hs₀ := Part.tr (by decide) hs₀)
    | with_reducible apply State.touchPlan_frame (hs₀ := Part.tr (by decide) hs₀)
    | with_reducible refine Frame.ite ?_ ?_

theorem State.latchZones_frame {ps₀ : List Part} {s₀ : State} (s : State) (n : ℕ)
    (hs₀ : [.touch] ⊆ ps₀) (h₀ : Frame ps₀ s₀ s) :
    Frame ps₀ s₀ (State.latchZones s n) := by
  unfold State.latchZones
  repeat' first
    | with_reducible assumption
    | with_reducible apply State.setTch_frame (hs₀ := Part.tr (by decide) hs₀)

theorem State.applyTouch_frame {ps₀ : List Part} {s₀ : State} (s : State) (n : ℕ)
    (hs₀ : [.objects, .touch, .touchQueues, .free] ⊆ ps₀) (h₀ : Frame ps₀ s₀ s) :
    Frame ps₀ s₀ (State.applyTouch s n) := by
  unfold State.applyTouch
  repeat' first
    | with_reducible assumption
    | with_reducible apply State.setTch_frame (hs₀ := Part.tr (by decide) hs₀)
    | with_reducible apply State.syncReference_frame (hs₀ := Part.tr (by decide) hs₀)
    | with_reducible apply State.touchPlan_frame (hs₀ := Part.tr (by decide) hs₀)
    | with_reducible apply State.applyValues_frame (hs₀ := Part.tr (by decide) hs₀)
    | (conv => arg 3; arg 50); with_reducible refine Frame.set_free (Part.lift hs₀ (by decide)) ?_
    | with_reducible refine Frame.ite ?_ ?_

theorem State.skipPair_frame {ps₀ : List Part} {s₀ : State} (s : State) (n : ℕ)
    (hs₀ : [.objects, .touch, .touchQueues, .free] ⊆ ps₀) (h₀ : Frame ps₀ s₀ s) :
    Frame ps₀ s₀ (State.skipPair s n) := by
  unfold State.skipPair
  repeat' first
    | with_reducible assumption
    | with_reducible apply State.setTch_frame (hs₀ := Part.tr (by decide) hs₀)
    | with_reducible apply State.count_frame (hs₀ := Part.tr (by decide) hs₀)
    | with_reducible apply State.touchStatusAll_frame (hs₀ := Part.tr (by decide) hs₀)

theorem State.reportRate_frame {ps₀ : List Part} {s₀ : State} (s : State) (n : ℕ)
    (hs₀ : [.objects, .touch] ⊆ ps₀) (h₀ : Frame ps₀ s₀ s) :
    Frame ps₀ s₀ (State.reportRate s n) := by
  unfold State.reportRate
  repeat' first
    | with_reducible assumption
    | with_reducible apply State.setTch_frame (hs₀ := Part.tr (by decide) hs₀)
    | with_reducible apply State.wr_frame (hs₀ := Part.tr (by decide) hs₀)
    | with_reducible refine Frame.ite ?_ ?_

theorem State.pairComplete_frame {ps₀ : List Part} {s₀ : State} (s : State) (n : ℕ)
    (hs₀ : [.objects, .touch] ⊆ ps₀) (h₀ : Frame ps₀ s₀ s) :
    Frame ps₀ s₀ (State.pairComplete s n) := by
  unfold State.pairComplete
  repeat' first
    | with_reducible assumption
    | with_reducible apply State.setTch_frame (hs₀ := Part.tr (by decide) hs₀)
    | with_reducible apply State.wr_frame (hs₀ := Part.tr (by decide) hs₀)
    | with_reducible apply State.advance_frame (hs₀ := Part.tr (by decide) hs₀)

theorem execScanPairStart_frame {ps₀ : List Part} {s₀ t₀ : State} (n : Fin 8) (s : State)
    (hs₀ : [.objects, .touch, .touchQueues, .records, .free] ⊆ ps₀) (e₀ : execScanPairStart n s = .next t₀) (h₀ : Frame ps₀ s₀ s) :
    Frame ps₀ s₀ t₀ := by
  unfold execScanPairStart at e₀
  cases e₀
  repeat' first
    | with_reducible assumption
    | with_reducible apply State.setTch_frame (hs₀ := Part.tr (by decide) hs₀)
    | with_reducible apply State.applyTouch_frame (hs₀ := Part.tr (by decide) hs₀)
    | with_reducible apply State.wr_frame (hs₀ := Part.tr (by decide) hs₀)
    | with_reducible apply State.skipPair_frame (hs₀ := Part.tr (by decide) hs₀)
    | with_reducible apply State.toStationLog_frame (hs₀ := Part.tr (by decide) hs₀)
    | with_reducible apply State.count_frame (hs₀ := Part.tr (by decide) hs₀)
    | with_reducible apply State.latchZones_frame (hs₀ := Part.tr (by decide) hs₀)
    | with_reducible refine Frame.ite ?_ ?_
    | dsimp only
    | split

theorem State.listen_frame {ps₀ : List Part} {s₀ : State} (s : State) (n : ℕ) (rawUse : List ℤ) (rawOther : List ℤ)
    (hs₀ : [.touch] ⊆ ps₀) (h₀ : Frame ps₀ s₀ s) :
    Frame ps₀ s₀ (State.listen s n rawUse rawOther) := by
  unfold State.listen
  repeat' first
    | with_reducible assumption
    | with_reducible apply State.setTch_frame (hs₀ := Part.tr (by decide) hs₀)

theorem State.writeSaid_frame {ps₀ : List Part} {s₀ : State} (s : State) (n : ℕ) (said : Said) (diag : List (Holder × TouchRec))
    (hs₀ : [.objects, .touchQueues, .hapticQueues, .records, .free] ⊆ ps₀) (h₀ : Frame ps₀ s₀ s) :
    Frame ps₀ s₀ (State.writeSaid s n said diag) := by
  unfold State.writeSaid
  repeat' first
    | with_reducible assumption
    | with_reducible apply State.reportContact_frame (hs₀ := Part.tr (by decide) hs₀)
    | with_reducible apply State.touchTo_frame (hs₀ := Part.tr (by decide) hs₀)
    | with_reducible refine Frame.ite ?_ ?_
    | with_reducible refine Frame.each (fun _ _ _ => ?_) ?_

theorem State.scanPair_frame {ps₀ : List Part} {s₀ : State} (s : State) (n : ℕ) (nodes : List ℕ) (self : List ℕ)
    (hs₀ : [.objects, .compositor, .display, .touch, .touchQueues, .hapticQueues, .records, .crossings, .out, .free] ⊆ ps₀) (h₀ : Frame ps₀ s₀ s) :
    Frame ps₀ s₀ (State.scanPair s n nodes self) := by
  unfold State.scanPair
  repeat' first
    | with_reducible assumption
    | with_reducible apply State.newContacts_frame (hs₀ := Part.tr (by decide) hs₀)
    | with_reducible apply State.touchCandidates_frame (hs₀ := Part.tr (by decide) hs₀)
    | with_reducible apply State.stepAll_frame (hs₀ := Part.tr (by decide) hs₀)
    | with_reducible apply State.liftAbsorbed_frame (hs₀ := Part.tr (by decide) hs₀)
    | with_reducible apply State.setTch_frame (hs₀ := Part.tr (by decide) hs₀)
    | with_reducible apply State.writeSaid_frame (hs₀ := Part.tr (by decide) hs₀)
    | with_reducible apply State.releaseAreas_frame (hs₀ := Part.tr (by decide) hs₀)
    | with_reducible apply State.trackAll_frame (hs₀ := Part.tr (by decide) hs₀)
    | with_reducible apply State.setContacts_frame (hs₀ := Part.tr (by decide) hs₀)

theorem execScanPairEnd_frame {ps₀ : List Part} {s₀ t₀ : State} (n : Fin 8) (nodes : List ℕ) (self : List ℕ) (noiseUse : List ℤ) (noiseOther : List ℤ) (s : State)
    (hs₀ : [.objects, .results, .stations, .compositor, .display, .touch, .touchQueues, .hapticQueues, .records, .pins, .timers, .crossings, .out, .free] ⊆ ps₀) (e₀ : execScanPairEnd n nodes self noiseUse noiseOther s = .next t₀) (h₀ : Frame ps₀ s₀ s) :
    Frame ps₀ s₀ t₀ := by
  unfold execScanPairEnd at e₀
  cases e₀
  repeat' first
    | with_reducible assumption
    | with_reducible apply State.scanPair_frame (hs₀ := Part.tr (by decide) hs₀)
    | with_reducible apply State.calibrationPair_frame (hs₀ := Part.tr (by decide) hs₀)
    | with_reducible apply State.pairComplete_frame (hs₀ := Part.tr (by decide) hs₀)
    | with_reducible apply State.listen_frame (hs₀ := Part.tr (by decide) hs₀)
    | with_reducible refine Frame.ite ?_ ?_

theorem execSleepCalibrationPair_frame {ps₀ : List Part} {s₀ t₀ : State} (n : Fin 8) (nodes : List ℕ) (self : List ℕ) (noiseUse : List ℤ) (noiseOther : List ℤ) (s : State)
    (hs₀ : [.objects, .results, .stations, .touch, .touchQueues, .records, .pins, .timers, .out, .free] ⊆ ps₀) (e₀ : execSleepCalibrationPair n nodes self noiseUse noiseOther s = .next t₀) (h₀ : Frame ps₀ s₀ s) :
    Frame ps₀ s₀ t₀ := by
  unfold execSleepCalibrationPair at e₀
  cases e₀
  repeat' first
    | with_reducible assumption
    | with_reducible apply State.setTch_frame (hs₀ := Part.tr (by decide) hs₀)
    | with_reducible apply State.skipPair_frame (hs₀ := Part.tr (by decide) hs₀)
    | with_reducible apply State.calibrationPair_frame (hs₀ := Part.tr (by decide) hs₀)
    | with_reducible apply State.pairComplete_frame (hs₀ := Part.tr (by decide) hs₀)
    | with_reducible apply State.latchZones_frame (hs₀ := Part.tr (by decide) hs₀)
    | with_reducible apply State.listen_frame (hs₀ := Part.tr (by decide) hs₀)
    | with_reducible refine Frame.ite ?_ ?_

theorem execPairAbandon_frame {ps₀ : List Part} {s₀ t₀ : State} (n : Fin 8) (steps : ℕ) (s : State)
    (hs₀ : [.objects, .touch, .records] ⊆ ps₀) (e₀ : execPairAbandon n steps s = .next t₀) (h₀ : Frame ps₀ s₀ s) :
    Frame ps₀ s₀ t₀ := by
  unfold execPairAbandon at e₀
  cases e₀
  repeat' first
    | with_reducible assumption
    | with_reducible apply State.setTch_frame (hs₀ := Part.tr (by decide) hs₀)
    | with_reducible apply State.toStationLog_frame (hs₀ := Part.tr (by decide) hs₀)
    | with_reducible apply State.count_frame (hs₀ := Part.tr (by decide) hs₀)
    | with_reducible refine Frame.ite ?_ ?_

theorem execContactHoldLimit_frame {ps₀ : List Part} {s₀ t₀ : State} (n : Fin 8) (id : ℕ) (s : State)
    (hs₀ : [.touch] ⊆ ps₀) (e₀ : execContactHoldLimit n id s = .next t₀) (h₀ : Frame ps₀ s₀ s) :
    Frame ps₀ s₀ t₀ := by
  unfold execContactHoldLimit at e₀
  cases e₀
  repeat' first
    | with_reducible assumption
    | with_reducible apply State.setTch_frame (hs₀ := Part.tr (by decide) hs₀)

theorem execOcclusionHoldExpired_frame {ps₀ : List Part} {s₀ t₀ : State} (n : Fin 8) (s : State)
    (hs₀ : [.touch] ⊆ ps₀) (e₀ : execOcclusionHoldExpired n s = .next t₀) (h₀ : Frame ps₀ s₀ s) :
    Frame ps₀ s₀ t₀ := by
  unfold execOcclusionHoldExpired at e₀
  cases e₀
  repeat' first
    | with_reducible assumption
    | with_reducible apply State.setTch_frame (hs₀ := Part.tr (by decide) hs₀)
    | with_reducible refine Frame.ite ?_ ?_

theorem execTouchCommit_frame {ps₀ : List Part} {s₀ t₀ : State} (who : Requester) (n : Fin 8) (v : ℕ) (s : State)
    (hs₀ : [.objects, .touch, .slices, .records, .pins, .out] ⊆ ps₀) (e₀ : execTouchCommit who n v s = .next t₀) (h₀ : Frame ps₀ s₀ s) :
    Frame ps₀ s₀ t₀ := by
  unfold execTouchCommit at e₀
  cases e₀
  repeat' first
    | with_reducible assumption
    | with_reducible apply State.answer_frame (hs₀ := Part.tr (by decide) hs₀)
    | with_reducible apply State.setTch_frame (hs₀ := Part.tr (by decide) hs₀)
    | with_reducible apply State.onWrite_frame (hs₀ := Part.tr (by decide) hs₀)
    | with_reducible apply State.guarded_frame (hs₀ := Part.tr (by decide) hs₀)
    | with_reducible refine Frame.ite ?_ ?_
    | with_reducible intro _

theorem execReferenceCapture_frame {ps₀ : List Part} {s₀ t₀ : State} (who : Requester) (n : Fin 8) (v : ℕ) (s : State)
    (hs₀ : [.objects, .results, .touch, .slices, .records, .pins, .out] ⊆ ps₀) (e₀ : execReferenceCapture who n v s = .next t₀) (h₀ : Frame ps₀ s₀ s) :
    Frame ps₀ s₀ t₀ := by
  unfold execReferenceCapture at e₀
  cases e₀
  repeat' first
    | with_reducible assumption
    | with_reducible apply State.answer_frame (hs₀ := Part.tr (by decide) hs₀)
    | with_reducible apply State.setTch_frame (hs₀ := Part.tr (by decide) hs₀)
    | with_reducible apply State.onWrite_frame (hs₀ := Part.tr (by decide) hs₀)
    | with_reducible apply State.finish_frame (hs₀ := Part.tr (by decide) hs₀)
    | with_reducible apply State.startResult_frame (hs₀ := Part.tr (by decide) hs₀)
    | with_reducible apply State.guarded_frame (hs₀ := Part.tr (by decide) hs₀)
    | with_reducible refine Frame.ite ?_ ?_
    | with_reducible intro _

theorem execReferenceCaptureDone_frame {ps₀ : List Part} {s₀ t₀ : State} (n : Fin 8) (pairs : List (List CapturePair)) (s : State)
    (hs₀ : [.objects, .texts, .results, .touch, .records] ⊆ ps₀) (e₀ : execReferenceCaptureDone n pairs s = .next t₀) (h₀ : Frame ps₀ s₀ s) :
    Frame ps₀ s₀ t₀ := by
  unfold execReferenceCaptureDone at e₀
  cases e₀
  repeat' first
    | with_reducible assumption
    | with_reducible apply State.setTch_frame (hs₀ := Part.tr (by decide) hs₀)
    | with_reducible apply State.syncReference_frame (hs₀ := Part.tr (by decide) hs₀)
    | with_reducible apply State.finish_frame (hs₀ := Part.tr (by decide) hs₀)
    | with_reducible apply State.wrBlob_frame (hs₀ := Part.tr (by decide) hs₀)
    | with_reducible refine Frame.ite ?_ ?_

theorem execPumpOutOfRegulation_frame {ps₀ : List Part} {s₀ t₀ : State} (n : Fin 8) (s : State)
    (hs₀ : [.objects, .results, .stations, .compositor, .display, .touch, .touchQueues, .hapticQueues, .records, .pins, .timers, .crossings, .out, .free] ⊆ ps₀) (e₀ : execPumpOutOfRegulation n s = .next t₀) (h₀ : Frame ps₀ s₀ s) :
    Frame ps₀ s₀ t₀ := by
  unfold execPumpOutOfRegulation at e₀
  cases e₀
  repeat' first
    | with_reducible assumption
    | with_reducible apply State.setTch_frame (hs₀ := Part.tr (by decide) hs₀)
    | with_reducible apply State.setTouchState_frame (hs₀ := Part.tr (by decide) hs₀)
    | with_reducible apply State.alarm_frame (hs₀ := Part.tr (by decide) hs₀)
    | with_reducible apply State.count_frame (hs₀ := Part.tr (by decide) hs₀)
    | with_reducible apply State.cancelAll_frame (hs₀ := Part.tr (by decide) hs₀)
    | with_reducible apply State.setContacts_frame (hs₀ := Part.tr (by decide) hs₀)
    | with_reducible refine Frame.ite ?_ ?_

theorem execPumpInRegulation_frame {ps₀ : List Part} {s₀ t₀ : State} (n : Fin 8) (s : State)
    (hs₀ : [.objects, .results, .stations, .touch, .touchQueues, .records, .pins, .timers, .out, .free] ⊆ ps₀) (e₀ : execPumpInRegulation n s = .next t₀) (h₀ : Frame ps₀ s₀ s) :
    Frame ps₀ s₀ t₀ := by
  unfold execPumpInRegulation at e₀
  cases e₀
  repeat' first
    | with_reducible assumption
    | with_reducible apply State.setTch_frame (hs₀ := Part.tr (by decide) hs₀)
    | with_reducible apply State.calibrate_frame (hs₀ := Part.tr (by decide) hs₀)
    | with_reducible refine Frame.ite ?_ ?_

theorem execTouchHaltRetry_frame {ps₀ : List Part} {s₀ t₀ : State} (n : Fin 8) (s : State)
    (hs₀ : [.objects, .results, .stations, .touch, .touchQueues, .records, .pins, .timers, .out, .free] ⊆ ps₀) (e₀ : execTouchHaltRetry n s = .next t₀) (h₀ : Frame ps₀ s₀ s) :
    Frame ps₀ s₀ t₀ := by
  unfold execTouchHaltRetry at e₀
  cases e₀
  repeat' first
    | with_reducible assumption
    | with_reducible apply State.clearAlarm_frame (hs₀ := Part.tr (by decide) hs₀)
    | with_reducible apply State.calibrate_frame (hs₀ := Part.tr (by decide) hs₀)
    | with_reducible refine Frame.ite ?_ ?_

theorem State.touchRelease_frame {ps₀ : List Part} {s₀ : State} (s : State) (n : ℕ)
    (hs₀ : [.objects, .results, .stations, .touch, .touchQueues, .records, .pins, .timers, .out, .free] ⊆ ps₀) (h₀ : Frame ps₀ s₀ s) :
    Frame ps₀ s₀ (State.touchRelease s n) := by
  unfold State.touchRelease
  repeat' first
    | with_reducible assumption
    | with_reducible apply State.setTch_frame (hs₀ := Part.tr (by decide) hs₀)
    | with_reducible apply State.setTouchState_frame (hs₀ := Part.tr (by decide) hs₀)
    | with_reducible apply State.calibrate_frame (hs₀ := Part.tr (by decide) hs₀)
    | with_reducible refine Frame.ite ?_ ?_

theorem State.touchOff_frame {ps₀ : List Part} {s₀ : State} (s : State) (n : ℕ)
    (hs₀ : [.objects, .results, .stations, .compositor, .display, .touch, .records, .pins, .timers, .crossings, .out, .free] ⊆ ps₀) (h₀ : Frame ps₀ s₀ s) :
    Frame ps₀ s₀ (State.touchOff s n) := by
  unfold State.touchOff
  repeat' first
    | with_reducible assumption
    | with_reducible apply State.setTch_frame (hs₀ := Part.tr (by decide) hs₀)
    | with_reducible apply State.setTouchState_frame (hs₀ := Part.tr (by decide) hs₀)
    | with_reducible apply State.clearAlarm_frame (hs₀ := Part.tr (by decide) hs₀)
    | with_reducible apply State.setContacts_frame (hs₀ := Part.tr (by decide) hs₀)

theorem State.touchGate_frame {ps₀ : List Part} {s₀ : State} (s : State) (n : ℕ)
    (hs₀ : [.objects, .results, .stations, .compositor, .display, .touch, .touchQueues, .hapticQueues, .records, .pins, .timers, .crossings, .out, .free] ⊆ ps₀) (h₀ : Frame ps₀ s₀ s) :
    Frame ps₀ s₀ (State.touchGate s n) := by
  unfold State.touchGate
  repeat' first
    | with_reducible assumption
    | with_reducible apply State.cancelAll_frame (hs₀ := Part.tr (by decide) hs₀)
    | with_reducible apply State.touchOff_frame (hs₀ := Part.tr (by decide) hs₀)
    | with_reducible refine Frame.ite ?_ ?_

theorem State.touchSleep_frame {ps₀ : List Part} {s₀ : State} (s : State) (n : ℕ)
    (hs₀ : [.objects, .results, .stations, .compositor, .display, .touch, .touchQueues, .hapticQueues, .records, .pins, .timers, .crossings, .out, .free] ⊆ ps₀) (h₀ : Frame ps₀ s₀ s) :
    Frame ps₀ s₀ (State.touchSleep s n) := by
  unfold State.touchSleep
  repeat' first
    | with_reducible assumption
    | with_reducible apply State.setTch_frame (hs₀ := Part.tr (by decide) hs₀)
    | with_reducible apply State.setTouchState_frame (hs₀ := Part.tr (by decide) hs₀)
    | with_reducible apply State.cancelAll_frame (hs₀ := Part.tr (by decide) hs₀)
    | with_reducible apply State.setContacts_frame (hs₀ := Part.tr (by decide) hs₀)
    | with_reducible refine Frame.ite ?_ ?_

theorem State.touchWake_frame {ps₀ : List Part} {s₀ : State} (s : State) (n : ℕ)
    (hs₀ : [.objects, .results, .stations, .touch, .records, .pins, .timers, .out] ⊆ ps₀) (h₀ : Frame ps₀ s₀ s) :
    Frame ps₀ s₀ (State.touchWake s n) := by
  unfold State.touchWake
  repeat' first
    | with_reducible assumption
    | with_reducible apply State.setTch_frame (hs₀ := Part.tr (by decide) hs₀)
    | with_reducible apply State.setTouchState_frame (hs₀ := Part.tr (by decide) hs₀)
    | with_reducible refine Frame.ite ?_ ?_

theorem State.muteContacts_frame {ps₀ : List Part} {s₀ : State} (s : State) (n : ℕ) (p : Contact → Bool)
    (hs₀ : [.touch] ⊆ ps₀) (h₀ : Frame ps₀ s₀ s) :
    Frame ps₀ s₀ (State.muteContacts s n p) := by
  unfold State.muteContacts
  repeat' first
    | with_reducible assumption
    | with_reducible apply State.setTch_frame (hs₀ := Part.tr (by decide) hs₀)

theorem State.touchFault_frame {ps₀ : List Part} {s₀ : State} (s : State) (n : ℕ)
    (hs₀ : [.objects, .touch, .touchQueues, .hapticQueues, .records, .free] ⊆ ps₀) (h₀ : Frame ps₀ s₀ s) :
    Frame ps₀ s₀ (State.touchFault s n) := by
  unfold State.touchFault
  repeat' first
    | with_reducible assumption
    | with_reducible apply State.muteContacts_frame (hs₀ := Part.tr (by decide) hs₀)
    | with_reducible apply State.cancelAll_frame (hs₀ := Part.tr (by decide) hs₀)

theorem State.touchReturn_frame {ps₀ : List Part} {s₀ : State} (s : State) (n : ℕ)
    (hs₀ : [.touch] ⊆ ps₀) (h₀ : Frame ps₀ s₀ s) :
    Frame ps₀ s₀ (State.touchReturn s n) := by
  unfold State.touchReturn
  repeat' first
    | with_reducible assumption
    | with_reducible apply State.muteContacts_frame (hs₀ := Part.tr (by decide) hs₀)

theorem State.touchRevoke_frame {ps₀ : List Part} {s₀ : State} (s : State) (n : ℕ) (t : ℕ)
    (hs₀ : [.touch] ⊆ ps₀) (h₀ : Frame ps₀ s₀ s) :
    Frame ps₀ s₀ (State.touchRevoke s n t) := by
  unfold State.touchRevoke
  repeat' first
    | with_reducible assumption
    | with_reducible apply State.muteContacts_frame (hs₀ := Part.tr (by decide) hs₀)

theorem State.zoneRevoke_frame {ps₀ : List Part} {s₀ : State} (s : State) (n : ℕ) (t : ℕ) (z : ℕ)
    (hs₀ : [.touch] ⊆ ps₀) (h₀ : Frame ps₀ s₀ s) :
    Frame ps₀ s₀ (State.zoneRevoke s n t z) := by
  unfold State.zoneRevoke
  repeat' first
    | with_reducible assumption
    | with_reducible apply State.muteContacts_frame (hs₀ := Part.tr (by decide) hs₀)

theorem State.touchDrainNow_frame {ps₀ : List Part} {s₀ : State} (s : State) (n : ℕ) (z : ℕ)
    (hs₀ : [.objects, .compositor, .display, .touch, .touchQueues, .hapticQueues, .records, .crossings, .out, .free] ⊆ ps₀) (h₀ : Frame ps₀ s₀ s) :
    Frame ps₀ s₀ (State.touchDrainNow s n z) := by
  unfold State.touchDrainNow
  repeat' first
    | with_reducible assumption
    | with_reducible apply State.reportContact_frame (hs₀ := Part.tr (by decide) hs₀)
    | with_reducible apply State.setContacts_frame (hs₀ := Part.tr (by decide) hs₀)
    | with_reducible refine Frame.each (fun _ _ _ => ?_) ?_

theorem State.touchZoneLocked_frame {ps₀ : List Part} {s₀ : State} (s : State) (n : ℕ) (z : ℕ)
    (hs₀ : [.objects, .compositor, .display, .touch, .touchQueues, .hapticQueues, .records, .crossings, .out, .free] ⊆ ps₀) (h₀ : Frame ps₀ s₀ s) :
    Frame ps₀ s₀ (State.touchZoneLocked s n z) := by
  unfold State.touchZoneLocked
  repeat' first
    | with_reducible assumption
    | with_reducible apply State.setTch_frame (hs₀ := Part.tr (by decide) hs₀)
    | with_reducible apply State.wr_frame (hs₀ := Part.tr (by decide) hs₀)
    | with_reducible apply State.touchDrainNow_frame (hs₀ := Part.tr (by decide) hs₀)
    | with_reducible refine Frame.ite ?_ ?_

theorem State.touchZoneReady_frame {ps₀ : List Part} {s₀ : State} (s : State) (n : ℕ) (z : ℕ)
    (hs₀ : [.touch] ⊆ ps₀) (h₀ : Frame ps₀ s₀ s) :
    Frame ps₀ s₀ (State.touchZoneReady s n z) := by
  unfold State.touchZoneReady
  repeat' first
    | with_reducible assumption
    | with_reducible apply State.setTch_frame (hs₀ := Part.tr (by decide) hs₀)
    | with_reducible apply State.muteContacts_frame (hs₀ := Part.tr (by decide) hs₀)

theorem State.wakeScan_frame {ps₀ : List Part} {s₀ : State} (s : State) (n : ℕ) (coarse : ℕ) (self : List (ℕ × ℕ))
    (hs₀ : [.touch] ⊆ ps₀) (h₀ : Frame ps₀ s₀ s) :
    Frame ps₀ s₀ (State.wakeScan s n coarse self).2 := by
  unfold State.wakeScan
  repeat' first
    | with_reducible assumption
    | with_reducible apply State.setTch_frame (hs₀ := Part.tr (by decide) hs₀)
    | with_reducible refine Frame.iteSnd ?_ ?_
    | dsimp only
    | split

theorem State.wakeScan_out {ps₀ : List Part} {s₀ : State} (s : State) (n : ℕ) (coarse : ℕ) (self : List (ℕ × ℕ)) {y₀ z₀}
    (hs₀ : [.touch] ⊆ ps₀) (e₀ : State.wakeScan s n coarse self = (y₀, z₀)) (h₀ : Frame ps₀ s₀ s) : Frame ps₀ s₀ z₀ := by
  have x₀ := State.wakeScan_frame s n coarse self hs₀ h₀; rw [e₀] at x₀; exact x₀

theorem State.wakePin_frame {ps₀ : List Part} {s₀ : State} (s : State)
    (hs₀ : [.pins, .out] ⊆ ps₀) (h₀ : Frame ps₀ s₀ s) :
    Frame ps₀ s₀ (State.wakePin s) := by
  unfold State.wakePin
  repeat' first
    | with_reducible assumption
    | with_reducible apply State.drive_frame (hs₀ := Part.tr (by decide) hs₀)

theorem State.wakeGesture_frame {ps₀ : List Part} {s₀ : State} (s : State) (n : ℕ) (g : ℕ)
    (hs₀ : [.objects, .pins, .out] ⊆ ps₀) (h₀ : Frame ps₀ s₀ s) :
    Frame ps₀ s₀ (State.wakeGesture s n g) := by
  unfold State.wakeGesture
  repeat' first
    | with_reducible assumption
    | with_reducible apply State.wr_frame (hs₀ := Part.tr (by decide) hs₀)
    | with_reducible apply State.wakePin_frame (hs₀ := Part.tr (by decide) hs₀)
    | with_reducible apply State.count_frame (hs₀ := Part.tr (by decide) hs₀)
    | with_reducible refine Frame.ite ?_ ?_

theorem execWakePendingClear_frame {ps₀ : List Part} {s₀ t₀ : State} (who : Requester) (n : Fin 8) (v : ℕ) (s : State)
    (hs₀ : [.objects, .slices, .records, .pins, .out] ⊆ ps₀) (e₀ : execWakePendingClear who n v s = .next t₀) (h₀ : Frame ps₀ s₀ s) :
    Frame ps₀ s₀ t₀ := by
  unfold execWakePendingClear at e₀
  cases e₀
  repeat' first
    | with_reducible assumption
    | with_reducible apply State.answer_frame (hs₀ := Part.tr (by decide) hs₀)
    | with_reducible apply State.onWrite_frame (hs₀ := Part.tr (by decide) hs₀)
    | with_reducible apply State.wr_frame (hs₀ := Part.tr (by decide) hs₀)
    | with_reducible apply State.wakePin_frame (hs₀ := Part.tr (by decide) hs₀)
    | with_reducible refine Frame.ite ?_ ?_
    | with_reducible intro _

/-! ### Machine/Clock.lean -/

theorem State.secureTime_frame {ps₀ : List Part} {s₀ : State} (s : State) (dt : ℕ)
    (hs₀ : [.energy] ⊆ ps₀) (h₀ : Frame ps₀ s₀ s) :
    Frame ps₀ s₀ (State.secureTime s dt) := by
  unfold State.secureTime
  repeat' first
    | with_reducible assumption
    | (conv => arg 3; arg 50); with_reducible refine Frame.set_energy (Part.lift hs₀ (by decide)) ?_
    | with_reducible refine Frame.ite ?_ ?_
    | dsimp only

theorem idleCycle_frame {ps₀ : List Part} {s₀ : State} (s : State)
    (hs₀ : [.clock, .objects, .raster, .energy, .compositor, .display, .touch, .crossings, .out, .free] ⊆ ps₀) (h₀ : Frame ps₀ s₀ s) :
    Frame ps₀ s₀ (idleCycle s) := by
  unfold idleCycle
  repeat' first
    | with_reducible assumption
    | with_reducible apply State.accrue_frame (hs₀ := Part.tr (by decide) hs₀)
    | with_reducible apply State.settleCrossings_frame (hs₀ := Part.tr (by decide) hs₀)
    | with_reducible apply State.takeTable_frame (hs₀ := Part.tr (by decide) hs₀)
    | with_reducible apply State.reportRate_frame (hs₀ := Part.tr (by decide) hs₀)
    | with_reducible apply State.secureTime_frame (hs₀ := Part.tr (by decide) hs₀)
    | (conv => arg 3; arg 50); with_reducible refine Frame.set_time (Part.lift hs₀ (by decide)) ?_
    | with_reducible refine Frame.ite ?_ ?_
    | with_reducible refine Frame.each (fun _ _ _ => ?_) ?_

/-! ### Machine/Audio.lean -/

theorem State.setAudioState_frame {ps₀ : List Part} {s₀ : State} (s : State) (n : ℕ) (v : ℕ)
    (hs₀ : [.objects, .stations, .pins, .out] ⊆ ps₀) (h₀ : Frame ps₀ s₀ s) :
    Frame ps₀ s₀ (State.setAudioState s n v) := by
  unfold State.setAudioState
  repeat' first
    | with_reducible assumption
    | with_reducible apply State.syncEdge_frame (hs₀ := Part.tr (by decide) hs₀)
    | with_reducible apply State.stReady_frame (hs₀ := Part.tr (by decide) hs₀)
    | with_reducible apply State.wave_frame (hs₀ := Part.tr (by decide) hs₀)
    | with_reducible apply State.drive_frame (hs₀ := Part.tr (by decide) hs₀)
    | with_reducible apply State.wr_frame (hs₀ := Part.tr (by decide) hs₀)

theorem State.audioNote_frame {ps₀ : List Part} {s₀ : State} (s : State) (n : ℕ) (h : Holder) (code : ℕ) (prio : ℕ) (fields : List (ℕ × ℕ))
    (hs₀ : [.objects, .records] ⊆ ps₀) (h₀ : Frame ps₀ s₀ s) :
    Frame ps₀ s₀ (State.audioNote s n h code prio fields) := by
  unfold State.audioNote
  repeat' first
    | with_reducible assumption
    | with_reducible apply State.toTenant_frame (hs₀ := Part.tr (by decide) hs₀)
    | with_reducible apply State.toEnclave_frame (hs₀ := Part.tr (by decide) hs₀)
    | with_reducible apply State.toStationLog_frame (hs₀ := Part.tr (by decide) hs₀)
    | dsimp only
    | split

theorem State.setSrc_frame {ps₀ : List Part} {s₀ : State} (s : State) (n : ℕ) (k : ℕ) (v : ℕ)
    (hs₀ : [.objects] ⊆ ps₀) (h₀ : Frame ps₀ s₀ s) :
    Frame ps₀ s₀ (State.setSrc s n k v) := by
  unfold State.setSrc
  repeat' first
    | with_reducible assumption
    | with_reducible apply State.wr_frame (hs₀ := Part.tr (by decide) hs₀)
    | with_reducible refine Frame.ite ?_ ?_

theorem State.aim_frame {ps₀ : List Part} {s₀ : State} (s : State) (n : ℕ) (k : ℕ) (target : ℤ) (forced : Bool)
    (hs₀ : [.audio] ⊆ ps₀) (h₀ : Frame ps₀ s₀ s) :
    Frame ps₀ s₀ (State.aim s n k target forced) := by
  unfold State.aim
  repeat' first
    | with_reducible assumption
    | with_reducible apply State.setAud_frame (hs₀ := Part.tr (by decide) hs₀)

theorem State.audioStop_frame {ps₀ : List Part} {s₀ : State} (s : State) (n : ℕ) (restart : Bool)
    (hs₀ : [.objects, .stations, .audio, .pins, .out] ⊆ ps₀) (h₀ : Frame ps₀ s₀ s) :
    Frame ps₀ s₀ (State.audioStop s n restart) := by
  unfold State.audioStop
  repeat' first
    | with_reducible assumption
    | with_reducible apply State.setAud_frame (hs₀ := Part.tr (by decide) hs₀)
    | with_reducible apply State.aim_frame (hs₀ := Part.tr (by decide) hs₀)
    | with_reducible apply State.setAudioState_frame (hs₀ := Part.tr (by decide) hs₀)
    | with_reducible refine Frame.ite ?_ ?_
    | with_reducible refine Frame.each (fun _ _ _ => ?_) ?_

theorem State.stageChange_frame {ps₀ : List Part} {s₀ : State} (s : State) (n : ℕ) (touched : List ℕ) (k : ℕ)
    (hs₀ : [.audio] ⊆ ps₀) (h₀ : Frame ps₀ s₀ s) :
    Frame ps₀ s₀ (State.stageChange s n touched k) := by
  unfold State.stageChange
  repeat' first
    | with_reducible assumption
    | with_reducible apply State.setAud_frame (hs₀ := Part.tr (by decide) hs₀)
    | with_reducible apply State.aim_frame (hs₀ := Part.tr (by decide) hs₀)
    | with_reducible refine Frame.ite ?_ ?_

theorem State.beginChanges_frame {ps₀ : List Part} {s₀ : State} (s : State) (n : ℕ) (c : AudioCommit)
    (hs₀ : [.objects, .stations, .audio, .pins, .out] ⊆ ps₀) (h₀ : Frame ps₀ s₀ s) :
    Frame ps₀ s₀ (State.beginChanges s n c) := by
  unfold State.beginChanges
  repeat' first
    | with_reducible assumption
    | with_reducible apply State.stageChange_frame (hs₀ := Part.tr (by decide) hs₀)
    | with_reducible apply State.audioStop_frame (hs₀ := Part.tr (by decide) hs₀)
    | with_reducible apply State.applyValues_frame (hs₀ := Part.tr (by decide) hs₀)
    | with_reducible refine Frame.ite ?_ ?_
    | with_reducible refine Frame.each (fun _ _ _ => ?_) ?_

theorem State.beginDue_frame {ps₀ : List Part} {s₀ : State} (s : State) (n : ℕ)
    (hs₀ : [.objects, .stations, .audio, .pins, .out] ⊆ ps₀) (h₀ : Frame ps₀ s₀ s) :
    Frame ps₀ s₀ (State.beginDue s n) := by
  unfold State.beginDue
  repeat' first
    | with_reducible assumption
    | with_reducible apply State.setAud_frame (hs₀ := Part.tr (by decide) hs₀)
    | with_reducible apply State.beginChanges_frame (hs₀ := Part.tr (by decide) hs₀)
    | with_reducible refine Frame.each (fun _ _ _ => ?_) ?_

theorem State.flushCommits_frame {ps₀ : List Part} {s₀ : State} (s : State) (n : ℕ)
    (hs₀ : [.objects, .audio] ⊆ ps₀) (h₀ : Frame ps₀ s₀ s) :
    Frame ps₀ s₀ (State.flushCommits s n) := by
  unfold State.flushCommits
  repeat' first
    | with_reducible assumption
    | with_reducible apply State.setAud_frame (hs₀ := Part.tr (by decide) hs₀)
    | with_reducible apply State.applyValues_frame (hs₀ := Part.tr (by decide) hs₀)
    | with_reducible refine Frame.each (fun _ _ _ => ?_) ?_

theorem State.switchRoutes_frame {ps₀ : List Part} {s₀ : State} (s : State) (n : ℕ)
    (hs₀ : [.audio] ⊆ ps₀) (h₀ : Frame ps₀ s₀ s) :
    Frame ps₀ s₀ (State.switchRoutes s n) := by
  unfold State.switchRoutes
  repeat' first
    | with_reducible assumption
    | with_reducible apply State.setAud_frame (hs₀ := Part.tr (by decide) hs₀)
    | with_reducible apply State.aim_frame (hs₀ := Part.tr (by decide) hs₀)
    | with_reducible refine Frame.ite ?_ ?_
    | with_reducible refine Frame.each (fun _ _ _ => ?_) ?_
    | dsimp only
    | split

theorem State.issueFetch_frame {ps₀ : List Part} {s₀ : State} (s : State) (n : ℕ) (k : ℕ)
    (hs₀ : [.objects, .audio] ⊆ ps₀) (h₀ : Frame ps₀ s₀ s) :
    Frame ps₀ s₀ (State.issueFetch s n k) := by
  unfold State.issueFetch
  repeat' first
    | with_reducible assumption
    | with_reducible apply State.setAud_frame (hs₀ := Part.tr (by decide) hs₀)
    | with_reducible apply State.wr_frame (hs₀ := Part.tr (by decide) hs₀)
    | with_reducible refine Frame.ite ?_ ?_

theorem State.streamDone_frame {ps₀ : List Part} {s₀ : State} (s : State) (n : ℕ) (k : ℕ)
    (hs₀ : [.objects, .audio, .records] ⊆ ps₀) (h₀ : Frame ps₀ s₀ s) :
    Frame ps₀ s₀ (State.streamDone s n k) := by
  unfold State.streamDone
  repeat' first
    | with_reducible assumption
    | with_reducible apply State.setAud_frame (hs₀ := Part.tr (by decide) hs₀)
    | with_reducible apply State.setSrc_frame (hs₀ := Part.tr (by decide) hs₀)
    | with_reducible apply State.audioNote_frame (hs₀ := Part.tr (by decide) hs₀)

theorem State.streamFrame_frame {ps₀ : List Part} {s₀ : State} (s : State) (n : ℕ) (k : ℕ)
    (hs₀ : [.objects, .audio, .records] ⊆ ps₀) (h₀ : Frame ps₀ s₀ s) :
    Frame ps₀ s₀ (State.streamFrame s n k).2 := by
  unfold State.streamFrame
  repeat' first
    | with_reducible assumption
    | with_reducible apply State.setAud_frame (hs₀ := Part.tr (by decide) hs₀)
    | with_reducible apply State.setSrc_frame (hs₀ := Part.tr (by decide) hs₀)
    | with_reducible apply State.streamDone_frame (hs₀ := Part.tr (by decide) hs₀)
    | with_reducible apply State.count_frame (hs₀ := Part.tr (by decide) hs₀)
    | with_reducible apply State.audioNote_frame (hs₀ := Part.tr (by decide) hs₀)
    | with_reducible refine Frame.ite ?_ ?_
    | with_reducible refine Frame.iteSnd ?_ ?_
    | dsimp only
    | split

theorem State.streamFrame_out {ps₀ : List Part} {s₀ : State} (s : State) (n : ℕ) (k : ℕ) {y₀ z₀}
    (hs₀ : [.objects, .audio, .records] ⊆ ps₀) (e₀ : State.streamFrame s n k = (y₀, z₀)) (h₀ : Frame ps₀ s₀ s) : Frame ps₀ s₀ z₀ := by
  have x₀ := State.streamFrame_frame s n k hs₀ h₀; rw [e₀] at x₀; exact x₀

theorem State.toneFrame_frame {ps₀ : List Part} {s₀ : State} (s : State) (n : ℕ) (g : ℕ)
    (hs₀ : [.objects, .audio] ⊆ ps₀) (h₀ : Frame ps₀ s₀ s) :
    Frame ps₀ s₀ (State.toneFrame s n g).2 := by
  unfold State.toneFrame
  repeat' first
    | with_reducible assumption
    | with_reducible apply State.setAud_frame (hs₀ := Part.tr (by decide) hs₀)
    | with_reducible apply State.setSrc_frame (hs₀ := Part.tr (by decide) hs₀)
    | with_reducible refine Frame.iteSnd ?_ ?_
    | dsimp only
    | split

theorem State.toneFrame_out {ps₀ : List Part} {s₀ : State} (s : State) (n : ℕ) (g : ℕ) {y₀ z₀}
    (hs₀ : [.objects, .audio] ⊆ ps₀) (e₀ : State.toneFrame s n g = (y₀, z₀)) (h₀ : Frame ps₀ s₀ s) : Frame ps₀ s₀ z₀ := by
  have x₀ := State.toneFrame_frame s n g hs₀ h₀; rw [e₀] at x₀; exact x₀

theorem State.sourceFrame_frame {ps₀ : List Part} {s₀ : State} (s : State) (n : ℕ) (k : ℕ) (mic : ℤ × ℤ)
    (hs₀ : [.objects, .audio, .records] ⊆ ps₀) (h₀ : Frame ps₀ s₀ s) :
    Frame ps₀ s₀ (State.sourceFrame s n k mic).2 := by
  unfold State.sourceFrame
  repeat' first
    | with_reducible assumption
    | with_reducible apply State.toneFrame_frame (hs₀ := Part.tr (by decide) hs₀)
    | with_reducible apply State.streamFrame_frame (hs₀ := Part.tr (by decide) hs₀)
    | with_reducible refine Frame.iteSnd ?_ ?_
    | dsimp only
    | split

theorem State.sourceFrame_out {ps₀ : List Part} {s₀ : State} (s : State) (n : ℕ) (k : ℕ) (mic : ℤ × ℤ) {y₀ z₀}
    (hs₀ : [.objects, .audio, .records] ⊆ ps₀) (e₀ : State.sourceFrame s n k mic = (y₀, z₀)) (h₀ : Frame ps₀ s₀ s) : Frame ps₀ s₀ z₀ := by
  have x₀ := State.sourceFrame_frame s n k mic hs₀ h₀; rw [e₀] at x₀; exact x₀

theorem State.runStage_frame {ps₀ : List Part} {s₀ : State} (s : State) (n : ℕ) (k : ℕ) (x : ℤ × ℤ)
    (hs₀ : [.objects, .audio] ⊆ ps₀) (h₀ : Frame ps₀ s₀ s) :
    Frame ps₀ s₀ (State.runStage s n k x).2 := by
  unfold State.runStage
  repeat' first
    | with_reducible assumption
    | with_reducible apply State.setAud_frame (hs₀ := Part.tr (by decide) hs₀)
    | with_reducible apply State.wr_frame (hs₀ := Part.tr (by decide) hs₀)
    | with_reducible refine Frame.ite ?_ ?_

theorem State.runStage_out {ps₀ : List Part} {s₀ : State} (s : State) (n : ℕ) (k : ℕ) (x : ℤ × ℤ) {y₀ z₀}
    (hs₀ : [.objects, .audio] ⊆ ps₀) (e₀ : State.runStage s n k x = (y₀, z₀)) (h₀ : Frame ps₀ s₀ s) : Frame ps₀ s₀ z₀ := by
  have x₀ := State.runStage_frame s n k x hs₀ h₀; rw [e₀] at x₀; exact x₀

theorem State.saturate_frame {ps₀ : List Part} {s₀ : State} (s : State) (n : ℕ) (k : ℕ) (x : ℤ)
    (hs₀ : [.objects] ⊆ ps₀) (h₀ : Frame ps₀ s₀ s) :
    Frame ps₀ s₀ (State.saturate s n k x).2 := by
  unfold State.saturate
  repeat' first
    | with_reducible assumption
    | with_reducible apply State.count_frame (hs₀ := Part.tr (by decide) hs₀)
    | with_reducible refine Frame.ite ?_ ?_

theorem State.saturate_out {ps₀ : List Part} {s₀ : State} (s : State) (n : ℕ) (k : ℕ) (x : ℤ) {y₀ z₀}
    (hs₀ : [.objects] ⊆ ps₀) (e₀ : State.saturate s n k x = (y₀, z₀)) (h₀ : Frame ps₀ s₀ s) : Frame ps₀ s₀ z₀ := by
  have x₀ := State.saturate_frame s n k x hs₀ h₀; rw [e₀] at x₀; exact x₀

theorem State.graph_frame {ps₀ : List Part} {s₀ : State} (s : State) (n : ℕ) (mic : ℤ × ℤ)
    (hs₀ : [.objects, .audio, .records] ⊆ ps₀) (h₀ : Frame ps₀ s₀ s) :
    Frame ps₀ s₀ (State.graph s n mic).2 := by
  unfold State.graph
  repeat' first
    | with_reducible assumption
    | with_reducible apply State.saturate_frame (hs₀ := Part.tr (by decide) hs₀)
    | with_reducible apply State.runStage_frame (hs₀ := Part.tr (by decide) hs₀)
    | with_reducible apply State.sourceFrame_frame (hs₀ := Part.tr (by decide) hs₀)
    | with_reducible apply State.setAud_frame (hs₀ := Part.tr (by decide) hs₀)
    | with_reducible apply State.wr_frame (hs₀ := Part.tr (by decide) hs₀)
    | with_reducible apply State.aim_frame (hs₀ := Part.tr (by decide) hs₀)
    | with_reducible refine Frame.ite ?_ ?_
    | with_reducible refine Frame.each (fun _ _ _ => ?_) ?_
    | with_reducible refine Frame.foldlSnd (fun _ _ _ => ?_) ?_

theorem State.graph_out {ps₀ : List Part} {s₀ : State} (s : State) (n : ℕ) (mic : ℤ × ℤ) {y₀ z₀}
    (hs₀ : [.objects, .audio, .records] ⊆ ps₀) (e₀ : State.graph s n mic = (y₀, z₀)) (h₀ : Frame ps₀ s₀ s) : Frame ps₀ s₀ z₀ := by
  have x₀ := State.graph_frame s n mic hs₀ h₀; rw [e₀] at x₀; exact x₀

theorem State.loopWrite_frame {ps₀ : List Part} {s₀ : State} (s : State) (n : ℕ)
    (hs₀ : [.objects, .results, .memory, .audio, .checks, .records] ⊆ ps₀) (h₀ : Frame ps₀ s₀ s) :
    Frame ps₀ s₀ (State.loopWrite s n) := by
  unfold State.loopWrite
  repeat' first
    | with_reducible assumption
    | with_reducible apply State.setAud_frame (hs₀ := Part.tr (by decide) hs₀)
    | with_reducible apply State.wr_frame (hs₀ := Part.tr (by decide) hs₀)
    | with_reducible apply State.count_frame (hs₀ := Part.tr (by decide) hs₀)
    | with_reducible apply State.writeTagged_frame (hs₀ := Part.tr (by decide) hs₀)
    | with_reducible apply State.audioNote_frame (hs₀ := Part.tr (by decide) hs₀)
    | with_reducible refine Frame.ite ?_ ?_
    | dsimp only
    | split

theorem State.loopFrame_frame {ps₀ : List Part} {s₀ : State} (s : State) (n : ℕ) (x : ℤ × ℤ)
    (hs₀ : [.objects, .results, .memory, .audio, .checks, .records] ⊆ ps₀) (h₀ : Frame ps₀ s₀ s) :
    Frame ps₀ s₀ (State.loopFrame s n x) := by
  unfold State.loopFrame
  repeat' first
    | with_reducible assumption
    | with_reducible apply State.setAud_frame (hs₀ := Part.tr (by decide) hs₀)
    | with_reducible apply State.loopWrite_frame (hs₀ := Part.tr (by decide) hs₀)
    | with_reducible refine Frame.ite ?_ ?_

theorem State.sendTdm_frame {ps₀ : List Part} {s₀ : State} (s : State) (n : ℕ) (x : List ℤ)
    (hs₀ : [.out] ⊆ ps₀) (h₀ : Frame ps₀ s₀ s) :
    Frame ps₀ s₀ (State.sendTdm s n x) := by
  unfold State.sendTdm
  repeat' first
    | with_reducible assumption
    | with_reducible apply State.emit_frame (hs₀ := Part.tr (by decide) hs₀)

theorem State.sendFrame_frame {ps₀ : List Part} {s₀ : State} (s : State) (n : ℕ) (x : List ℤ)
    (hs₀ : [.audio, .out] ⊆ ps₀) (h₀ : Frame ps₀ s₀ s) :
    Frame ps₀ s₀ (State.sendFrame s n x) := by
  unfold State.sendFrame
  repeat' first
    | with_reducible assumption
    | with_reducible apply State.setAud_frame (hs₀ := Part.tr (by decide) hs₀)
    | with_reducible apply State.sendTdm_frame (hs₀ := Part.tr (by decide) hs₀)
    | with_reducible refine Frame.ite ?_ ?_

theorem execAudioFrame_frame {ps₀ : List Part} {s₀ t₀ : State} (n : Fin 8) (mic0 : ℕ) (mic1 : ℕ) (s : State)
    (hs₀ : [.objects, .results, .stations, .memory, .audio, .checks, .records, .pins, .out] ⊆ ps₀) (e₀ : execAudioFrame n mic0 mic1 s = .next t₀) (h₀ : Frame ps₀ s₀ s) :
    Frame ps₀ s₀ t₀ := by
  unfold execAudioFrame at e₀
  cases e₀
  repeat' first
    | with_reducible assumption
    | with_reducible apply State.graph_frame (hs₀ := Part.tr (by decide) hs₀)
    | with_reducible apply State.setAud_frame (hs₀ := Part.tr (by decide) hs₀)
    | with_reducible apply State.sendFrame_frame (hs₀ := Part.tr (by decide) hs₀)
    | with_reducible apply State.issueFetch_frame (hs₀ := Part.tr (by decide) hs₀)
    | with_reducible apply State.loopFrame_frame (hs₀ := Part.tr (by decide) hs₀)
    | with_reducible apply State.sendTdm_frame (hs₀ := Part.tr (by decide) hs₀)
    | with_reducible apply State.beginDue_frame (hs₀ := Part.tr (by decide) hs₀)
    | with_reducible apply State.switchRoutes_frame (hs₀ := Part.tr (by decide) hs₀)
    | with_reducible apply State.advance_frame (hs₀ := Part.tr (by decide) hs₀)
    | with_reducible refine Frame.ite ?_ ?_
    | with_reducible refine Frame.each (fun _ _ _ => ?_) ?_

theorem execGainForcedRegime_frame {ps₀ : List Part} {s₀ t₀ : State} (n : Fin 8) (stage : Fin 23) (s : State)
    (hs₀ : [.audio] ⊆ ps₀) (e₀ : execGainForcedRegime n stage s = .next t₀) (h₀ : Frame ps₀ s₀ s) :
    Frame ps₀ s₀ t₀ := by
  unfold execGainForcedRegime at e₀
  cases e₀
  repeat' first
    | with_reducible assumption
    | with_reducible apply State.setAud_frame (hs₀ := Part.tr (by decide) hs₀)
    | with_reducible refine Frame.ite ?_ ?_

theorem execAudioCommit_frame {ps₀ : List Part} {s₀ t₀ : State} (who : Requester) (n : Fin 8) (v : ℕ) (s : State)
    (hs₀ : [.objects, .shadows, .audio, .slices, .records, .pins, .out] ⊆ ps₀) (e₀ : execAudioCommit who n v s = .next t₀) (h₀ : Frame ps₀ s₀ s) :
    Frame ps₀ s₀ t₀ := by
  unfold execAudioCommit at e₀
  cases e₀
  repeat' first
    | with_reducible assumption
    | with_reducible apply State.dropShadow_frame (hs₀ := Part.tr (by decide) hs₀)
    | with_reducible apply State.answer_frame (hs₀ := Part.tr (by decide) hs₀)
    | with_reducible apply State.setAud_frame (hs₀ := Part.tr (by decide) hs₀)
    | with_reducible apply State.onWrite_frame (hs₀ := Part.tr (by decide) hs₀)
    | with_reducible apply State.guarded_frame (hs₀ := Part.tr (by decide) hs₀)
    | with_reducible apply State.flushCommits_frame (hs₀ := Part.tr (by decide) hs₀)
    | with_reducible refine Frame.ite ?_ ?_
    | with_reducible refine Frame.foldl (fun _ _ _ => ?_) ?_
    | with_reducible intro _

theorem State.stopStream_frame {ps₀ : List Part} {s₀ : State} (s : State) (n : ℕ) (k : ℕ)
    (hs₀ : [.objects, .audio, .records] ⊆ ps₀) (h₀ : Frame ps₀ s₀ s) :
    Frame ps₀ s₀ (State.stopStream s n k) := by
  unfold State.stopStream
  repeat' first
    | with_reducible assumption
    | with_reducible apply State.aim_frame (hs₀ := Part.tr (by decide) hs₀)
    | with_reducible apply State.streamDone_frame (hs₀ := Part.tr (by decide) hs₀)
    | with_reducible refine Frame.ite ?_ ?_

theorem execStreamStart_frame {ps₀ : List Part} {s₀ t₀ : State} (who : Requester) (n : Fin 8) (k : Fin 12) (v : ℕ) (s : State)
    (hs₀ : [.objects, .audio, .slices, .records, .pins, .out] ⊆ ps₀) (e₀ : execStreamStart who n k v s = .next t₀) (h₀ : Frame ps₀ s₀ s) :
    Frame ps₀ s₀ t₀ := by
  unfold execStreamStart at e₀
  cases e₀
  repeat' first
    | with_reducible assumption
    | with_reducible apply State.answer_frame (hs₀ := Part.tr (by decide) hs₀)
    | with_reducible apply State.setAud_frame (hs₀ := Part.tr (by decide) hs₀)
    | with_reducible apply State.setSrc_frame (hs₀ := Part.tr (by decide) hs₀)
    | with_reducible apply State.onWrite_frame (hs₀ := Part.tr (by decide) hs₀)
    | with_reducible apply State.issueFetch_frame (hs₀ := Part.tr (by decide) hs₀)
    | with_reducible apply State.guarded_frame (hs₀ := Part.tr (by decide) hs₀)
    | with_reducible apply State.aim_frame (hs₀ := Part.tr (by decide) hs₀)
    | with_reducible refine Frame.ite ?_ ?_
    | with_reducible intro _

theorem execStreamStop_frame {ps₀ : List Part} {s₀ t₀ : State} (who : Requester) (n : Fin 8) (k : Fin 12) (v : ℕ) (s : State)
    (hs₀ : [.objects, .audio, .slices, .records, .pins, .out] ⊆ ps₀) (e₀ : execStreamStop who n k v s = .next t₀) (h₀ : Frame ps₀ s₀ s) :
    Frame ps₀ s₀ t₀ := by
  unfold execStreamStop at e₀
  cases e₀
  repeat' first
    | with_reducible assumption
    | with_reducible apply State.answer_frame (hs₀ := Part.tr (by decide) hs₀)
    | with_reducible apply State.onWrite_frame (hs₀ := Part.tr (by decide) hs₀)
    | with_reducible apply State.stopStream_frame (hs₀ := Part.tr (by decide) hs₀)
    | with_reducible refine Frame.ite ?_ ?_
    | with_reducible intro _

theorem execAudioStreamFetch_frame {ps₀ : List Part} {s₀ t₀ : State} (n : Fin 8) (k : Fin 12) (s : State)
    (hs₀ : [.objects, .audio, .records] ⊆ ps₀) (e₀ : execAudioStreamFetch n k s = .next t₀) (h₀ : Frame ps₀ s₀ s) :
    Frame ps₀ s₀ t₀ := by
  unfold execAudioStreamFetch at e₀
  cases e₀
  repeat' first
    | with_reducible assumption
    | with_reducible apply State.setAud_frame (hs₀ := Part.tr (by decide) hs₀)
    | with_reducible apply State.setSrc_frame (hs₀ := Part.tr (by decide) hs₀)
    | with_reducible apply State.noteTag_frame (hs₀ := Part.tr (by decide) hs₀)
    | with_reducible apply State.audioNote_frame (hs₀ := Part.tr (by decide) hs₀)
    | with_reducible refine Frame.ite ?_ ?_
    | dsimp only
    | split

theorem execTgStart_frame {ps₀ : List Part} {s₀ t₀ : State} (who : Requester) (n : Fin 8) (g : Fin 2) (v : ℕ) (s : State)
    (hs₀ : [.objects, .audio, .slices, .records, .pins, .out] ⊆ ps₀) (e₀ : execTgStart who n g v s = .next t₀) (h₀ : Frame ps₀ s₀ s) :
    Frame ps₀ s₀ t₀ := by
  unfold execTgStart at e₀
  cases e₀
  repeat' first
    | with_reducible assumption
    | with_reducible apply State.answer_frame (hs₀ := Part.tr (by decide) hs₀)
    | with_reducible apply State.setAud_frame (hs₀ := Part.tr (by decide) hs₀)
    | with_reducible apply State.setSrc_frame (hs₀ := Part.tr (by decide) hs₀)
    | with_reducible apply State.onWrite_frame (hs₀ := Part.tr (by decide) hs₀)
    | with_reducible apply State.guarded_frame (hs₀ := Part.tr (by decide) hs₀)
    | with_reducible apply State.aim_frame (hs₀ := Part.tr (by decide) hs₀)
    | with_reducible refine Frame.ite ?_ ?_
    | with_reducible intro _

theorem State.stopTone_frame {ps₀ : List Part} {s₀ : State} (s : State) (n : ℕ) (g : ℕ)
    (hs₀ : [.objects, .audio] ⊆ ps₀) (h₀ : Frame ps₀ s₀ s) :
    Frame ps₀ s₀ (State.stopTone s n g) := by
  unfold State.stopTone
  repeat' first
    | with_reducible assumption
    | with_reducible apply State.setAud_frame (hs₀ := Part.tr (by decide) hs₀)
    | with_reducible apply State.setSrc_frame (hs₀ := Part.tr (by decide) hs₀)
    | dsimp only
    | split

theorem execTgStop_frame {ps₀ : List Part} {s₀ t₀ : State} (who : Requester) (n : Fin 8) (g : Fin 2) (v : ℕ) (s : State)
    (hs₀ : [.objects, .audio, .slices, .records, .pins, .out] ⊆ ps₀) (e₀ : execTgStop who n g v s = .next t₀) (h₀ : Frame ps₀ s₀ s) :
    Frame ps₀ s₀ t₀ := by
  unfold execTgStop at e₀
  cases e₀
  repeat' first
    | with_reducible assumption
    | with_reducible apply State.answer_frame (hs₀ := Part.tr (by decide) hs₀)
    | with_reducible apply State.stopTone_frame (hs₀ := Part.tr (by decide) hs₀)
    | with_reducible apply State.onWrite_frame (hs₀ := Part.tr (by decide) hs₀)
    | with_reducible refine Frame.ite ?_ ?_
    | with_reducible intro _

theorem execToneOnElapsed_frame {ps₀ : List Part} {s₀ t₀ : State} (n : Fin 8) (g : Fin 2) (s : State)
    (hs₀ : [.audio] ⊆ ps₀) (e₀ : execToneOnElapsed n g s = .next t₀) (h₀ : Frame ps₀ s₀ s) :
    Frame ps₀ s₀ t₀ := by
  unfold execToneOnElapsed at e₀
  cases e₀
  repeat' first
    | with_reducible assumption
    | with_reducible apply State.setAud_frame (hs₀ := Part.tr (by decide) hs₀)
    | with_reducible refine Frame.ite ?_ ?_

theorem execToneOffElapsed_frame {ps₀ : List Part} {s₀ t₀ : State} (n : Fin 8) (g : Fin 2) (s : State)
    (hs₀ : [.audio] ⊆ ps₀) (e₀ : execToneOffElapsed n g s = .next t₀) (h₀ : Frame ps₀ s₀ s) :
    Frame ps₀ s₀ t₀ := by
  unfold execToneOffElapsed at e₀
  cases e₀
  repeat' first
    | with_reducible assumption
    | with_reducible apply State.setAud_frame (hs₀ := Part.tr (by decide) hs₀)
    | with_reducible refine Frame.ite ?_ ?_

theorem execBusActivityExpired_frame {ps₀ : List Part} {s₀ t₀ : State} (n : Fin 8) (b : Fin 4) (s : State)
    (hs₀ : [.objects] ⊆ ps₀) (e₀ : execBusActivityExpired n b s = .next t₀) (h₀ : Frame ps₀ s₀ s) :
    Frame ps₀ s₀ t₀ := by
  unfold execBusActivityExpired at e₀
  cases e₀
  repeat' first
    | with_reducible assumption
    | with_reducible apply State.wr_frame (hs₀ := Part.tr (by decide) hs₀)
    | with_reducible refine Frame.ite ?_ ?_

theorem execLoopBlockWrite_frame {ps₀ : List Part} {s₀ t₀ : State} (n : Fin 8) (s : State)
    (hs₀ : [.objects, .results, .memory, .audio, .checks, .records] ⊆ ps₀) (e₀ : execLoopBlockWrite n s = .next t₀) (h₀ : Frame ps₀ s₀ s) :
    Frame ps₀ s₀ t₀ := by
  unfold execLoopBlockWrite at e₀
  cases e₀
  repeat' first
    | with_reducible assumption
    | with_reducible apply State.loopWrite_frame (hs₀ := Part.tr (by decide) hs₀)

theorem State.audioClocks_frame {ps₀ : List Part} {s₀ : State} (s : State) (n : ℕ)
    (hs₀ : [.objects, .stations, .audio, .pins, .out] ⊆ ps₀) (h₀ : Frame ps₀ s₀ s) :
    Frame ps₀ s₀ (State.audioClocks s n) := by
  unfold State.audioClocks
  repeat' first
    | with_reducible assumption
    | with_reducible apply State.setAud_frame (hs₀ := Part.tr (by decide) hs₀)
    | with_reducible apply State.wr_frame (hs₀ := Part.tr (by decide) hs₀)
    | with_reducible apply State.setAudioState_frame (hs₀ := Part.tr (by decide) hs₀)

theorem State.audioOn_frame {ps₀ : List Part} {s₀ : State} (s : State) (n : ℕ)
    (hs₀ : [.objects, .stations, .audio, .pins, .out] ⊆ ps₀) (h₀ : Frame ps₀ s₀ s) :
    Frame ps₀ s₀ (State.audioOn s n) := by
  unfold State.audioOn
  repeat' first
    | with_reducible assumption
    | with_reducible apply State.audioClocks_frame (hs₀ := Part.tr (by decide) hs₀)
    | with_reducible refine Frame.ite ?_ ?_

theorem execAudioStartDone_frame {ps₀ : List Part} {s₀ t₀ : State} (n : Fin 8) (s : State)
    (hs₀ : [.objects, .stations, .audio, .pins, .out] ⊆ ps₀) (e₀ : execAudioStartDone n s = .next t₀) (h₀ : Frame ps₀ s₀ s) :
    Frame ps₀ s₀ t₀ := by
  unfold execAudioStartDone at e₀
  cases e₀
  repeat' first
    | with_reducible assumption
    | with_reducible apply State.setAud_frame (hs₀ := Part.tr (by decide) hs₀)
    | with_reducible apply State.aim_frame (hs₀ := Part.tr (by decide) hs₀)
    | with_reducible apply State.setAudioState_frame (hs₀ := Part.tr (by decide) hs₀)
    | with_reducible apply State.audioStop_frame (hs₀ := Part.tr (by decide) hs₀)
    | with_reducible refine Frame.ite ?_ ?_
    | with_reducible refine Frame.each (fun _ _ _ => ?_) ?_

theorem State.audioReset_frame {ps₀ : List Part} {s₀ : State} (s : State) (n : ℕ)
    (hs₀ : [.objects, .audio] ⊆ ps₀) (h₀ : Frame ps₀ s₀ s) :
    Frame ps₀ s₀ (State.audioReset s n) := by
  unfold State.audioReset
  repeat' first
    | with_reducible assumption
    | with_reducible apply State.stReady_frame (hs₀ := Part.tr (by decide) hs₀)
    | with_reducible apply State.setAud_frame (hs₀ := Part.tr (by decide) hs₀)
    | with_reducible apply State.wr_frame (hs₀ := Part.tr (by decide) hs₀)
    | with_reducible refine Frame.each (fun _ _ _ => ?_) ?_

theorem State.closingAudio_frame {ps₀ : List Part} {s₀ : State} (s : State) (n : ℕ) (st : ℕ) (a : Audio) (l : List (ObjRow × ℕ × ℤ))
    (hs₀ : [.objects, .stations, .audio, .pins, .out] ⊆ ps₀) (h₀ : Frame ps₀ s₀ s) :
    Frame ps₀ s₀ (State.closingAudio s n st a l) := by
  unfold State.closingAudio
  repeat' first
    | with_reducible assumption
    | with_reducible apply State.setAud_frame (hs₀ := Part.tr (by decide) hs₀)
    | with_reducible apply State.wr_frame (hs₀ := Part.tr (by decide) hs₀)
    | with_reducible apply State.setAudioState_frame (hs₀ := Part.tr (by decide) hs₀)
    | with_reducible refine Frame.each (fun _ _ _ => ?_) ?_

theorem State.closedAudio_frame {ps₀ : List Part} {s₀ : State} (s : State) (n : ℕ)
    (hs₀ : [.objects, .shadows, .stations, .audio, .pins, .out] ⊆ ps₀) (h₀ : Frame ps₀ s₀ s) :
    Frame ps₀ s₀ (State.closedAudio s n) := by
  unfold State.closedAudio
  repeat' first
    | with_reducible assumption
    | with_reducible apply State.audioReset_frame (hs₀ := Part.tr (by decide) hs₀)
    | with_reducible apply State.toDefault_frame (hs₀ := Part.tr (by decide) hs₀)
    | with_reducible apply State.setAudioState_frame (hs₀ := Part.tr (by decide) hs₀)
    | with_reducible refine Frame.each (fun _ _ _ => ?_) ?_

theorem execAudioStopDone_frame {ps₀ : List Part} {s₀ t₀ : State} (n : Fin 8) (s : State)
    (hs₀ : [.objects, .shadows, .stations, .audio, .pins, .out] ⊆ ps₀) (e₀ : execAudioStopDone n s = .next t₀) (h₀ : Frame ps₀ s₀ s) :
    Frame ps₀ s₀ t₀ := by
  unfold execAudioStopDone at e₀
  cases e₀
  repeat' first
    | with_reducible assumption
    | with_reducible apply State.closedAudio_frame (hs₀ := Part.tr (by decide) hs₀)
    | with_reducible apply State.setAud_frame (hs₀ := Part.tr (by decide) hs₀)
    | with_reducible apply State.flushCommits_frame (hs₀ := Part.tr (by decide) hs₀)
    | with_reducible apply State.setAudioState_frame (hs₀ := Part.tr (by decide) hs₀)
    | with_reducible refine Frame.ite ?_ ?_

theorem execAudioClockRestart_frame {ps₀ : List Part} {s₀ t₀ : State} (n : Fin 8) (s : State)
    (hs₀ : [.objects, .stations, .audio, .pins, .out] ⊆ ps₀) (e₀ : execAudioClockRestart n s = .next t₀) (h₀ : Frame ps₀ s₀ s) :
    Frame ps₀ s₀ t₀ := by
  unfold execAudioClockRestart at e₀
  cases e₀
  repeat' first
    | with_reducible assumption
    | with_reducible apply State.audioClocks_frame (hs₀ := Part.tr (by decide) hs₀)
    | with_reducible refine Frame.ite ?_ ?_

theorem State.hardMute_frame {ps₀ : List Part} {s₀ : State} (s : State) (n : ℕ) (k : ℕ)
    (hs₀ : [.objects, .audio] ⊆ ps₀) (h₀ : Frame ps₀ s₀ s) :
    Frame ps₀ s₀ (State.hardMute s n k) := by
  unfold State.hardMute
  repeat' first
    | with_reducible assumption
    | with_reducible apply State.setAud_frame (hs₀ := Part.tr (by decide) hs₀)
    | with_reducible apply State.wr_frame (hs₀ := Part.tr (by decide) hs₀)

theorem State.audioFault_frame {ps₀ : List Part} {s₀ : State} (s : State) (n : ℕ)
    (hs₀ : [.objects, .audio] ⊆ ps₀) (h₀ : Frame ps₀ s₀ s) :
    Frame ps₀ s₀ (State.audioFault s n) := by
  unfold State.audioFault
  repeat' first
    | with_reducible assumption
    | with_reducible apply State.setAud_frame (hs₀ := Part.tr (by decide) hs₀)
    | with_reducible apply State.setSrc_frame (hs₀ := Part.tr (by decide) hs₀)
    | with_reducible apply State.hardMute_frame (hs₀ := Part.tr (by decide) hs₀)
    | with_reducible refine Frame.each (fun _ _ _ => ?_) ?_

theorem State.sourceDefaults_frame {ps₀ : List Part} {s₀ : State} (s : State) (n : ℕ) (k : ℕ)
    (hs₀ : [.objects, .shadows] ⊆ ps₀) (h₀ : Frame ps₀ s₀ s) :
    Frame ps₀ s₀ (State.sourceDefaults s n k) := by
  unfold State.sourceDefaults
  repeat' first
    | with_reducible assumption
    | with_reducible apply State.toDefault_frame (hs₀ := Part.tr (by decide) hs₀)
    | with_reducible refine Frame.ite ?_ ?_
    | with_reducible refine Frame.foldl (fun _ _ _ => ?_) ?_

theorem State.audioRevoke_frame {ps₀ : List Part} {s₀ : State} (s : State) (n : ℕ) (t : ℕ)
    (hs₀ : [.objects, .shadows, .audio, .records] ⊆ ps₀) (h₀ : Frame ps₀ s₀ s) :
    Frame ps₀ s₀ (State.audioRevoke s n t) := by
  unfold State.audioRevoke
  repeat' first
    | with_reducible assumption
    | with_reducible apply State.stopTone_frame (hs₀ := Part.tr (by decide) hs₀)
    | with_reducible apply State.stopStream_frame (hs₀ := Part.tr (by decide) hs₀)
    | with_reducible apply State.sourceDefaults_frame (hs₀ := Part.tr (by decide) hs₀)
    | with_reducible refine Frame.ite ?_ ?_
    | with_reducible refine Frame.each (fun _ _ _ => ?_) ?_

theorem State.sourceReset_frame {ps₀ : List Part} {s₀ : State} (s : State) (n : ℕ) (k : ℕ)
    (hs₀ : [.objects, .shadows, .audio] ⊆ ps₀) (h₀ : Frame ps₀ s₀ s) :
    Frame ps₀ s₀ (State.sourceReset s n k) := by
  unfold State.sourceReset
  repeat' first
    | with_reducible assumption
    | with_reducible apply State.dropShadow_frame (hs₀ := Part.tr (by decide) hs₀)
    | with_reducible apply State.setAud_frame (hs₀ := Part.tr (by decide) hs₀)
    | with_reducible apply State.sourceDefaults_frame (hs₀ := Part.tr (by decide) hs₀)
    | with_reducible apply State.hardMute_frame (hs₀ := Part.tr (by decide) hs₀)

end Sys2Proof.Machine
end

