-- ==== Sys2Proof/Laws/FrameStations.lean ====
section
/-! SUPPORT. Which parts of the state the functions of stations, memory, the secure complex and slices leave alone. -/
namespace Sys2Proof.Machine

/-! ### Machine/DisplayCommands.lean -/

theorem commitAnswer_frame {ps₀ : List Part} {s₀ : State} (r : State × Bool)
    (hs₀ : [.out] ⊆ ps₀) (h₀ : Frame ps₀ s₀ r.1) : Frame ps₀ s₀ (commitAnswer r) := by
  unfold commitAnswer
  exact State.answer_frame _ _ _ _ hs₀ h₀

theorem State.writeLayerCommit_frame {ps₀ : List Part} {s₀ : State} (s : State) (who : Requester) (n : ℕ) (mask : ℕ) (named : ℕ)
    (hs₀ : [.objects, .compositor, .display, .slices, .records, .pins, .crossings, .out, .free] ⊆ ps₀) (h₀ : Frame ps₀ s₀ s) :
    Frame ps₀ s₀ (State.writeLayerCommit s who n mask named) := by
  unfold State.writeLayerCommit
  repeat' first
    | with_reducible assumption
    | with_reducible apply State.layerCommit_frame (hs₀ := Part.tr (by decide) hs₀)
    | with_reducible apply State.answer_frame (hs₀ := Part.tr (by decide) hs₀)
    | with_reducible apply State.onWrite_frame (hs₀ := Part.tr (by decide) hs₀)
    | with_reducible apply State.guarded_frame (hs₀ := Part.tr (by decide) hs₀)
    | with_reducible apply commitAnswer_frame (hs₀ := Part.tr (by decide) hs₀)
    | with_reducible refine Frame.ite ?_ ?_
    | with_reducible intro _

theorem State.writeGuardCommit_frame {ps₀ : List Part} {s₀ : State} (s : State) (who : Requester) (n : ℕ) (mask : ℕ) (named : ℕ)
    (hs₀ : [.objects, .compositor, .display, .slices, .records, .pins, .crossings, .out, .free] ⊆ ps₀) (h₀ : Frame ps₀ s₀ s) :
    Frame ps₀ s₀ (State.writeGuardCommit s who n mask named) := by
  unfold State.writeGuardCommit
  repeat' first
    | with_reducible assumption
    | with_reducible apply State.guardCommit_frame (hs₀ := Part.tr (by decide) hs₀)
    | with_reducible apply State.answer_frame (hs₀ := Part.tr (by decide) hs₀)
    | with_reducible apply State.onWrite_frame (hs₀ := Part.tr (by decide) hs₀)
    | with_reducible apply State.guarded_frame (hs₀ := Part.tr (by decide) hs₀)
    | with_reducible apply commitAnswer_frame (hs₀ := Part.tr (by decide) hs₀)
    | with_reducible refine Frame.ite ?_ ?_
    | with_reducible intro _

theorem execLayerCommit_frame {ps₀ : List Part} {s₀ t₀ : State} (via : Via) (n : Fin 8) (mask : ℕ) (s : State)
    (hs₀ : [.objects, .compositor, .display, .slices, .records, .pins, .crossings, .out, .free] ⊆ ps₀) (e₀ : execLayerCommit via n mask s = .next t₀) (h₀ : Frame ps₀ s₀ s) :
    Frame ps₀ s₀ t₀ := by
  unfold execLayerCommit at e₀
  cases e₀
  repeat' first
    | with_reducible assumption
    | with_reducible apply State.layerCommit_frame (hs₀ := Part.tr (by decide) hs₀)
    | with_reducible apply State.writeLayerCommit_frame (hs₀ := Part.tr (by decide) hs₀)
    | with_reducible apply State.spoof_frame (hs₀ := Part.tr (by decide) hs₀)
    | with_reducible apply State.onStationPage_frame (hs₀ := Part.tr (by decide) hs₀)
    | with_reducible refine Frame.ite ?_ ?_
    | with_reducible intro _
    | dsimp only
    | split

theorem execGuardCommit_frame {ps₀ : List Part} {s₀ t₀ : State} (via : Via) (n : Fin 8) (mask : ℕ) (s : State)
    (hs₀ : [.objects, .compositor, .display, .slices, .records, .pins, .crossings, .out, .free] ⊆ ps₀) (e₀ : execGuardCommit via n mask s = .next t₀) (h₀ : Frame ps₀ s₀ s) :
    Frame ps₀ s₀ t₀ := by
  unfold execGuardCommit at e₀
  cases e₀
  repeat' first
    | with_reducible assumption
    | with_reducible apply State.guardCommit_frame (hs₀ := Part.tr (by decide) hs₀)
    | with_reducible apply State.writeGuardCommit_frame (hs₀ := Part.tr (by decide) hs₀)
    | with_reducible apply State.spoof_frame (hs₀ := Part.tr (by decide) hs₀)
    | with_reducible apply State.onStationPage_frame (hs₀ := Part.tr (by decide) hs₀)
    | with_reducible refine Frame.ite ?_ ?_
    | with_reducible intro _
    | dsimp only
    | split

theorem execBoundaryLatch_frame {ps₀ : List Part} {s₀ t₀ : State} (n : Fin 8) (s : State)
    (hs₀ : [.objects, .texts, .results, .memory, .raster, .translator, .compositor, .guard, .display, .slices, .checks, .records, .pins, .timers, .crossings, .out, .free] ⊆ ps₀) (e₀ : execBoundaryLatch n s = .next t₀) (h₀ : Frame ps₀ s₀ s) :
    Frame ps₀ s₀ t₀ := by
  unfold execBoundaryLatch at e₀
  obtain rfl := Host.Outcome.next.inj e₀
  repeat' first
    | with_reducible assumption
    | with_reducible apply State.retarget_frame (hs₀ := Part.tr (by decide) hs₀)
    | with_reducible apply State.settle_frame (hs₀ := Part.tr (by decide) hs₀)
    | with_reducible apply State.boundaryLatch_frame (hs₀ := Part.tr (by decide) hs₀)

theorem execFixPoint_frame {ps₀ : List Part} {s₀ t₀ : State} (n : Fin 8) (s : State)
    (hs₀ : [.objects, .texts, .compositor, .guard, .display, .slices, .records] ⊆ ps₀) (e₀ : execFixPoint n s = .next t₀) (h₀ : Frame ps₀ s₀ s) :
    Frame ps₀ s₀ t₀ := by
  unfold execFixPoint at e₀
  cases e₀
  repeat' first
    | with_reducible assumption
    | with_reducible apply State.fixPointHere_frame (hs₀ := Part.tr (by decide) hs₀)
    | with_reducible refine Frame.ite ?_ ?_

theorem execComposeLine_frame {ps₀ : List Part} {s₀ t₀ : State} (n : Fin 8) (parity : List (ℕ × ℕ)) (s : State)
    (hs₀ : [.objects, .compositor, .guard, .display, .records, .crossings, .out, .free] ⊆ ps₀) (e₀ : execComposeLine n parity s = .next t₀) (h₀ : Frame ps₀ s₀ s) :
    Frame ps₀ s₀ t₀ := by
  unfold execComposeLine at e₀
  cases e₀
  repeat' first
    | with_reducible assumption
    | with_reducible apply State.composeLine_frame (hs₀ := Part.tr (by decide) hs₀)

theorem execLayerFetchComplete_frame {ps₀ : List Part} {s₀ t₀ : State} (n : Fin 8) (l : Fin 16) (addr : ℕ) (len : ℕ) (forArmed : Bool) (s : State)
    (hs₀ : [.compositor] ⊆ ps₀) (e₀ : execLayerFetchComplete n l addr len forArmed s = .next t₀) (h₀ : Frame ps₀ s₀ s) :
    Frame ps₀ s₀ t₀ := by
  unfold execLayerFetchComplete at e₀
  cases e₀
  repeat' first
    | with_reducible assumption
    | with_reducible apply State.layerFetched_frame (hs₀ := Part.tr (by decide) hs₀)

theorem execFreezeNominalTick_frame {ps₀ : List Part} {s₀ t₀ : State} (n : Fin 8) (s : State)
    (hs₀ : [.objects, .records, .pins, .out] ⊆ ps₀) (e₀ : execFreezeNominalTick n s = .next t₀) (h₀ : Frame ps₀ s₀ s) :
    Frame ps₀ s₀ t₀ := by
  unfold execFreezeNominalTick at e₀
  cases e₀
  repeat' first
    | with_reducible assumption
    | with_reducible apply State.freezeTick_frame (hs₀ := Part.tr (by decide) hs₀)

theorem execModeCommit_frame {ps₀ : List Part} {s₀ t₀ : State} (who : Requester) (n : Fin 8) (v : ℕ) (s : State)
    (hs₀ : [.objects, .results, .display, .slices, .records, .pins, .timers, .out] ⊆ ps₀) (e₀ : execModeCommit who n v s = .next t₀) (h₀ : Frame ps₀ s₀ s) :
    Frame ps₀ s₀ t₀ := by
  unfold execModeCommit at e₀
  cases e₀
  repeat' first
    | with_reducible assumption
    | with_reducible apply State.answer_frame (hs₀ := Part.tr (by decide) hs₀)
    | with_reducible apply State.onWrite_frame (hs₀ := Part.tr (by decide) hs₀)
    | with_reducible apply State.guarded_frame (hs₀ := Part.tr (by decide) hs₀)
    | with_reducible apply State.modeCommit_frame (hs₀ := Part.tr (by decide) hs₀)
    | with_reducible refine Frame.ite ?_ ?_
    | with_reducible intro _

theorem execPixelPllLock_frame {ps₀ : List Part} {s₀ t₀ : State} (n : Fin 8) (s : State)
    (hs₀ : [.objects, .display, .records, .pins, .timers, .out] ⊆ ps₀) (e₀ : execPixelPllLock n s = .next t₀) (h₀ : Frame ps₀ s₀ s) :
    Frame ps₀ s₀ t₀ := by
  unfold execPixelPllLock at e₀
  cases e₀
  repeat' first
    | with_reducible assumption
    | with_reducible apply State.applyMode_frame (hs₀ := Part.tr (by decide) hs₀)
    | with_reducible apply State.enterDetect_frame (hs₀ := Part.tr (by decide) hs₀)
    | with_reducible apply State.setOutput_frame (hs₀ := Part.tr (by decide) hs₀)
    | with_reducible apply State.setDsp_frame (hs₀ := Part.tr (by decide) hs₀)
    | with_reducible apply State.emit_frame (hs₀ := Part.tr (by decide) hs₀)
    | with_reducible refine Frame.ite ?_ ?_

theorem execHpdPlug_frame {ps₀ : List Part} {s₀ t₀ : State} (n : Fin 8) (s : State)
    (hs₀ : [.objects, .display, .out] ⊆ ps₀) (e₀ : execHpdPlug n s = .next t₀) (h₀ : Frame ps₀ s₀ s) :
    Frame ps₀ s₀ t₀ := by
  unfold execHpdPlug at e₀
  cases e₀
  repeat' first
    | with_reducible assumption
    | with_reducible apply State.setDsp_frame (hs₀ := Part.tr (by decide) hs₀)
    | with_reducible apply State.count_frame (hs₀ := Part.tr (by decide) hs₀)
    | with_reducible apply State.emit_frame (hs₀ := Part.tr (by decide) hs₀)
    | with_reducible refine Frame.ite ?_ ?_

theorem execSinkReadDone_frame {ps₀ : List Part} {s₀ t₀ : State} (n : Fin 8) (info : Option SinkInfo) (s : State)
    (hs₀ : [.objects, .texts, .display, .records, .pins, .timers, .out] ⊆ ps₀) (e₀ : execSinkReadDone n info s = .next t₀) (h₀ : Frame ps₀ s₀ s) :
    Frame ps₀ s₀ t₀ := by
  unfold execSinkReadDone at e₀
  cases e₀
  repeat' first
    | with_reducible assumption
    | with_reducible apply State.wr_frame (hs₀ := Part.tr (by decide) hs₀)
    | with_reducible apply State.judgeSink_frame (hs₀ := Part.tr (by decide) hs₀)
    | with_reducible apply State.startTimer_frame (hs₀ := Part.tr (by decide) hs₀)
    | with_reducible apply State.wrBlob_frame (hs₀ := Part.tr (by decide) hs₀)
    | with_reducible apply State.setDsp_frame (hs₀ := Part.tr (by decide) hs₀)
    | with_reducible refine Frame.ite ?_ ?_
    | dsimp only
    | split

theorem execAuxRetryTimer_frame {ps₀ : List Part} {s₀ t₀ : State} (n : Fin 8) (s : State)
    (hs₀ : [.display, .out] ⊆ ps₀) (e₀ : execAuxRetryTimer n s = .next t₀) (h₀ : Frame ps₀ s₀ s) :
    Frame ps₀ s₀ t₀ := by
  unfold execAuxRetryTimer at e₀
  cases e₀
  repeat' first
    | with_reducible assumption
    | with_reducible apply State.setDsp_frame (hs₀ := Part.tr (by decide) hs₀)
    | with_reducible apply State.emit_frame (hs₀ := Part.tr (by decide) hs₀)
    | with_reducible refine Frame.ite ?_ ?_

theorem execLinkTrainingDone_frame {ps₀ : List Part} {s₀ t₀ : State} (n : Fin 8) (trains : List (ℕ × ℕ)) (s : State)
    (hs₀ : [.objects, .display, .records, .pins, .timers, .out] ⊆ ps₀) (e₀ : execLinkTrainingDone n trains s = .next t₀) (h₀ : Frame ps₀ s₀ s) :
    Frame ps₀ s₀ t₀ := by
  unfold execLinkTrainingDone at e₀
  cases e₀
  repeat' first
    | with_reducible assumption
    | with_reducible apply State.wr_frame (hs₀ := Part.tr (by decide) hs₀)
    | with_reducible apply State.setOutput_frame (hs₀ := Part.tr (by decide) hs₀)
    | with_reducible apply State.setDsp_frame (hs₀ := Part.tr (by decide) hs₀)
    | with_reducible apply State.alarm_frame (hs₀ := Part.tr (by decide) hs₀)
    | with_reducible apply State.count_frame (hs₀ := Part.tr (by decide) hs₀)
    | with_reducible refine Frame.ite ?_ ?_
    | split

theorem execLinkRetryTimer_frame {ps₀ : List Part} {s₀ t₀ : State} (n : Fin 8) (s : State)
    (hs₀ : [.objects, .display, .records, .pins, .timers, .out] ⊆ ps₀) (e₀ : execLinkRetryTimer n s = .next t₀) (h₀ : Frame ps₀ s₀ s) :
    Frame ps₀ s₀ t₀ := by
  unfold execLinkRetryTimer at e₀
  cases e₀
  repeat' first
    | with_reducible assumption
    | with_reducible apply State.judgeSink_frame (hs₀ := Part.tr (by decide) hs₀)
    | with_reducible apply State.startTimer_frame (hs₀ := Part.tr (by decide) hs₀)
    | with_reducible apply State.setDsp_frame (hs₀ := Part.tr (by decide) hs₀)
    | with_reducible refine Frame.ite ?_ ?_

theorem execHpdIrq_frame {ps₀ : List Part} {s₀ t₀ : State} (n : Fin 8) (lanesLost : Bool) (s : State)
    (hs₀ : [.objects, .display, .records, .pins, .timers, .crossings, .out, .free] ⊆ ps₀) (e₀ : execHpdIrq n lanesLost s = .next t₀) (h₀ : Frame ps₀ s₀ s) :
    Frame ps₀ s₀ t₀ := by
  unfold execHpdIrq at e₀
  cases e₀
  repeat' first
    | with_reducible assumption
    | with_reducible apply State.stationEvent_frame (hs₀ := Part.tr (by decide) hs₀)
    | with_reducible apply State.setOutput_frame (hs₀ := Part.tr (by decide) hs₀)
    | with_reducible apply State.setDsp_frame (hs₀ := Part.tr (by decide) hs₀)
    | with_reducible apply State.count_frame (hs₀ := Part.tr (by decide) hs₀)
    | with_reducible apply State.emit_frame (hs₀ := Part.tr (by decide) hs₀)
    | with_reducible refine Frame.ite ?_ ?_

theorem execHpdUnplug_frame {ps₀ : List Part} {s₀ t₀ : State} (n : Fin 8) (s : State)
    (hs₀ : [.objects, .display, .records, .pins, .timers, .out] ⊆ ps₀) (e₀ : execHpdUnplug n s = .next t₀) (h₀ : Frame ps₀ s₀ s) :
    Frame ps₀ s₀ t₀ := by
  unfold execHpdUnplug at e₀
  cases e₀
  repeat' first
    | with_reducible assumption
    | with_reducible apply State.wr_frame (hs₀ := Part.tr (by decide) hs₀)
    | with_reducible apply State.leaveRefresh_frame (hs₀ := Part.tr (by decide) hs₀)
    | with_reducible apply State.setOutput_frame (hs₀ := Part.tr (by decide) hs₀)
    | with_reducible apply State.setDsp_frame (hs₀ := Part.tr (by decide) hs₀)
    | with_reducible apply State.alarm_frame (hs₀ := Part.tr (by decide) hs₀)
    | with_reducible apply State.count_frame (hs₀ := Part.tr (by decide) hs₀)
    | with_reducible apply State.emit_frame (hs₀ := Part.tr (by decide) hs₀)
    | with_reducible refine Frame.ite ?_ ?_

theorem execPsrWakeElapsed_frame {ps₀ : List Part} {s₀ t₀ : State} (n : Fin 8) (s : State)
    (hs₀ : [.objects, .texts, .compositor, .guard, .display, .slices, .records, .pins, .timers, .out] ⊆ ps₀) (e₀ : execPsrWakeElapsed n s = .next t₀) (h₀ : Frame ps₀ s₀ s) :
    Frame ps₀ s₀ t₀ := by
  unfold execPsrWakeElapsed at e₀
  cases e₀
  repeat' first
    | with_reducible assumption
    | with_reducible apply State.setOutput_frame (hs₀ := Part.tr (by decide) hs₀)
    | with_reducible apply State.setDsp_frame (hs₀ := Part.tr (by decide) hs₀)
    | with_reducible apply State.fixPointHere_frame (hs₀ := Part.tr (by decide) hs₀)
    | with_reducible refine Frame.ite ?_ ?_
    | dsimp only
    | split

theorem execPanelOnDelay_frame {ps₀ : List Part} {s₀ t₀ : State} (n : Fin 8) (s : State)
    (hs₀ : [.display] ⊆ ps₀) (e₀ : execPanelOnDelay n s = .next t₀) (h₀ : Frame ps₀ s₀ s) :
    Frame ps₀ s₀ t₀ := by
  unfold execPanelOnDelay at e₀
  cases e₀
  repeat' first
    | with_reducible assumption
    | with_reducible apply State.setDsp_frame (hs₀ := Part.tr (by decide) hs₀)
    | with_reducible refine Frame.ite ?_ ?_

theorem execBlOnDelay_frame {ps₀ : List Part} {s₀ t₀ : State} (n : Fin 8) (s : State)
    (hs₀ : [.display, .pins, .out] ⊆ ps₀) (e₀ : execBlOnDelay n s = .next t₀) (h₀ : Frame ps₀ s₀ s) :
    Frame ps₀ s₀ t₀ := by
  unfold execBlOnDelay at e₀
  cases e₀
  repeat' first
    | with_reducible assumption
    | with_reducible apply State.wave_frame (hs₀ := Part.tr (by decide) hs₀)
    | with_reducible apply State.drive_frame (hs₀ := Part.tr (by decide) hs₀)
    | with_reducible apply State.setDsp_frame (hs₀ := Part.tr (by decide) hs₀)
    | with_reducible refine Frame.ite ?_ ?_

theorem execPanelPowerDownDelay_frame {ps₀ : List Part} {s₀ t₀ : State} (n : Fin 8) (s : State)
    (hs₀ : [.display, .pins, .timers, .out] ⊆ ps₀) (e₀ : execPanelPowerDownDelay n s = .next t₀) (h₀ : Frame ps₀ s₀ s) :
    Frame ps₀ s₀ t₀ := by
  unfold execPanelPowerDownDelay at e₀
  cases e₀
  repeat' first
    | with_reducible assumption
    | with_reducible apply State.drive_frame (hs₀ := Part.tr (by decide) hs₀)
    | with_reducible apply State.startTimer_frame (hs₀ := Part.tr (by decide) hs₀)
    | with_reducible apply State.setDsp_frame (hs₀ := Part.tr (by decide) hs₀)
    | with_reducible apply State.emit_frame (hs₀ := Part.tr (by decide) hs₀)
    | with_reducible refine Frame.ite ?_ ?_

/-! ### Machine/StationMachine.lean -/

theorem State.loadSafe_frame {ps₀ : List Part} {s₀ : State} (s : State) (n : ℕ) (b : Bytes)
    (hs₀ : [.objects, .texts] ⊆ ps₀) (h₀ : Frame ps₀ s₀ s) :
    Frame ps₀ s₀ (State.loadSafe s n b) := by
  unfold State.loadSafe
  repeat' first
    | with_reducible assumption
    | with_reducible apply State.stReady_frame (hs₀ := Part.tr (by decide) hs₀)
    | with_reducible apply State.wr_frame (hs₀ := Part.tr (by decide) hs₀)
    | (conv => arg 3; arg 50); with_reducible refine Frame.set_blobs (Part.lift hs₀ (by decide)) ?_

theorem State.audioResume_frame {ps₀ : List Part} {s₀ : State} (s : State) (n : ℕ)
    (hs₀ : [.objects, .stations, .audio, .pins, .out] ⊆ ps₀) (h₀ : Frame ps₀ s₀ s) :
    Frame ps₀ s₀ (State.audioResume s n) := by
  unfold State.audioResume
  repeat' first
    | with_reducible assumption
    | with_reducible apply State.setAud_frame (hs₀ := Part.tr (by decide) hs₀)
    | with_reducible apply State.audioOn_frame (hs₀ := Part.tr (by decide) hs₀)
    | with_reducible refine Frame.ite ?_ ?_

theorem State.hapticResume_frame {ps₀ : List Part} {s₀ : State} (s : State) (n : ℕ)
    (hs₀ : [.objects, .texts, .stations, .haptic, .records, .pins, .timers, .out, .free] ⊆ ps₀) (h₀ : Frame ps₀ s₀ s) :
    Frame ps₀ s₀ (State.hapticResume s n) := by
  unfold State.hapticResume
  repeat' first
    | with_reducible assumption
    | with_reducible apply State.setHap_frame (hs₀ := Part.tr (by decide) hs₀)
    | with_reducible apply State.hapticOn_frame (hs₀ := Part.tr (by decide) hs₀)
    | with_reducible refine Frame.ite ?_ ?_

theorem State.applyGate_frame {ps₀ : List Part} {s₀ : State} (s : State) (n : ℕ) (v : ℕ)
    (hs₀ : [.objects, .texts, .results, .stations, .compositor, .display, .touch, .haptic, .audio, .touchQueues, .hapticQueues, .records, .pins, .timers, .crossings, .out, .free] ⊆ ps₀) (h₀ : Frame ps₀ s₀ s) :
    Frame ps₀ s₀ (State.applyGate s n v) := by
  unfold State.applyGate
  repeat' first
    | with_reducible assumption
    | with_reducible apply State.syncEdge_frame (hs₀ := Part.tr (by decide) hs₀)
    | with_reducible apply State.touchRelease_frame (hs₀ := Part.tr (by decide) hs₀)
    | with_reducible apply State.audioResume_frame (hs₀ := Part.tr (by decide) hs₀)
    | with_reducible apply State.wr_frame (hs₀ := Part.tr (by decide) hs₀)
    | with_reducible apply State.hapticOff_frame (hs₀ := Part.tr (by decide) hs₀)
    | with_reducible apply State.hapticResume_frame (hs₀ := Part.tr (by decide) hs₀)
    | with_reducible apply State.audioStop_frame (hs₀ := Part.tr (by decide) hs₀)
    | with_reducible apply State.touchGate_frame (hs₀ := Part.tr (by decide) hs₀)
    | with_reducible refine Frame.ite ?_ ?_

theorem State.loseMemory_frame {ps₀ : List Part} {s₀ : State} (s : State) (n : ℕ)
    (hs₀ : [.objects, .stations, .memory, .raster, .translator] ⊆ ps₀) (h₀ : Frame ps₀ s₀ s) :
    Frame ps₀ s₀ (State.loseMemory s n) := by
  unfold State.loseMemory
  repeat' first
    | with_reducible assumption
    | with_reducible apply State.loseCache_frame (hs₀ := Part.tr (by decide) hs₀)
    | with_reducible apply State.setCtl_frame (hs₀ := Part.tr (by decide) hs₀)
    | with_reducible apply State.eraseMem_frame (hs₀ := Part.tr (by decide) hs₀)
    | (conv => arg 3; arg 50); with_reducible refine Frame.set_poison (Part.lift hs₀ (by decide)) ?_

theorem State.setMem_frame {ps₀ : List Part} {s₀ : State} (s : State) (n : ℕ) (v : ℕ)
    (hs₀ : [.objects] ⊆ ps₀) (h₀ : Frame ps₀ s₀ s) :
    Frame ps₀ s₀ (State.setMem s n v) := by
  unfold State.setMem
  repeat' first
    | with_reducible assumption
    | with_reducible apply State.stReady_frame (hs₀ := Part.tr (by decide) hs₀)
    | with_reducible apply State.wr_frame (hs₀ := Part.tr (by decide) hs₀)

theorem State.releaseMemory_frame {ps₀ : List Part} {s₀ : State} (s : State) (n : ℕ)
    (hs₀ : [.objects, .memctl] ⊆ ps₀) (h₀ : Frame ps₀ s₀ s) :
    Frame ps₀ s₀ (State.releaseMemory s n) := by
  unfold State.releaseMemory
  repeat' first
    | with_reducible assumption
    | with_reducible apply State.setMem_frame (hs₀ := Part.tr (by decide) hs₀)
    | with_reducible apply State.setMmc_frame (hs₀ := Part.tr (by decide) hs₀)

theorem State.exitSelfRefresh_frame {ps₀ : List Part} {s₀ : State} (s : State) (n : ℕ)
    (hs₀ : [.objects, .memctl] ⊆ ps₀) (h₀ : Frame ps₀ s₀ s) :
    Frame ps₀ s₀ (State.exitSelfRefresh s n) := by
  unfold State.exitSelfRefresh
  repeat' first
    | with_reducible assumption
    | with_reducible apply State.setMem_frame (hs₀ := Part.tr (by decide) hs₀)
    | with_reducible apply State.setMmc_frame (hs₀ := Part.tr (by decide) hs₀)

theorem State.leaveRunning_frame {ps₀ : List Part} {s₀ : State} (s : State) (n : ℕ) (rs : ℕ)
    (hs₀ : [.objects, .results, .stations, .memory, .raster, .translator, .energy, .haptic, .checks, .hapticQueues, .records, .pins, .timers, .out, .free] ⊆ ps₀) (h₀ : Frame ps₀ s₀ s) :
    Frame ps₀ s₀ (State.leaveRunning s n rs) := by
  unfold State.leaveRunning
  repeat' first
    | with_reducible assumption
    | with_reducible apply State.stReady_frame (hs₀ := Part.tr (by decide) hs₀)
    | with_reducible apply State.energyOff_frame (hs₀ := Part.tr (by decide) hs₀)
    | with_reducible apply State.wr_frame (hs₀ := Part.tr (by decide) hs₀)
    | with_reducible apply State.hapticOff_frame (hs₀ := Part.tr (by decide) hs₀)
    | with_reducible apply State.rasterLeave_frame (hs₀ := Part.tr (by decide) hs₀)
    | with_reducible refine Frame.ite ?_ ?_

theorem State.leaveSleep_frame {ps₀ : List Part} {s₀ : State} (s : State) (n : ℕ)
    (hs₀ : [.objects, .results, .stations, .display, .touch, .records, .pins, .timers, .out] ⊆ ps₀) (h₀ : Frame ps₀ s₀ s) :
    Frame ps₀ s₀ (State.leaveSleep s n) := by
  unfold State.leaveSleep
  repeat' first
    | with_reducible assumption
    | with_reducible apply State.startTiming_frame (hs₀ := Part.tr (by decide) hs₀)
    | with_reducible apply State.touchWake_frame (hs₀ := Part.tr (by decide) hs₀)
    | with_reducible apply State.setDsp_frame (hs₀ := Part.tr (by decide) hs₀)
    | with_reducible refine Frame.ite ?_ ?_

theorem State.stopMove_frame {ps₀ : List Part} {s₀ : State} (s : State) (n : ℕ)
    (hs₀ : [.stations] ⊆ ps₀) (h₀ : Frame ps₀ s₀ s) :
    Frame ps₀ s₀ (State.stopMove s n) := by
  unfold State.stopMove
  repeat' first
    | with_reducible assumption
    | with_reducible apply State.setCtl_frame (hs₀ := Part.tr (by decide) hs₀)

theorem State.enterFaulted_frame {ps₀ : List Part} {s₀ : State} (s : State) (n : ℕ) (st : ℕ) (cause : ℕ)
    (hs₀ : [.objects, .results, .stations, .memory, .raster, .translator, .energy, .compositor, .display, .touch, .haptic, .audio, .checks, .touchQueues, .hapticQueues, .records, .pins, .timers, .crossings, .out, .free] ⊆ ps₀) (h₀ : Frame ps₀ s₀ s) :
    Frame ps₀ s₀ (State.enterFaulted s n st cause) := by
  unfold State.enterFaulted
  repeat' first
    | with_reducible assumption
    | with_reducible apply State.setCompose_frame (hs₀ := Part.tr (by decide) hs₀)
    | with_reducible apply State.leaveRunning_frame (hs₀ := Part.tr (by decide) hs₀)
    | with_reducible apply State.wr_frame (hs₀ := Part.tr (by decide) hs₀)
    | with_reducible apply State.touchFault_frame (hs₀ := Part.tr (by decide) hs₀)
    | with_reducible apply State.setCtl_frame (hs₀ := Part.tr (by decide) hs₀)
    | with_reducible apply State.audioFault_frame (hs₀ := Part.tr (by decide) hs₀)
    | with_reducible apply State.setStation_frame (hs₀ := Part.tr (by decide) hs₀)
    | with_reducible apply State.leaveSleep_frame (hs₀ := Part.tr (by decide) hs₀)
    | with_reducible apply State.stopMove_frame (hs₀ := Part.tr (by decide) hs₀)

theorem State.enterFault_frame {ps₀ : List Part} {s₀ : State} (s : State) (n : ℕ) (cause : ℕ)
    (hs₀ : [.objects, .results, .stations, .memory, .raster, .translator, .energy, .compositor, .display, .touch, .haptic, .audio, .checks, .touchQueues, .hapticQueues, .records, .pins, .timers, .crossings, .out, .free] ⊆ ps₀) (h₀ : Frame ps₀ s₀ s) :
    Frame ps₀ s₀ (State.enterFault s n cause) := by
  unfold State.enterFault
  repeat' first
    | with_reducible assumption
    | with_reducible apply State.enterFaulted_frame (hs₀ := Part.tr (by decide) hs₀)
    | with_reducible refine Frame.ite ?_ ?_

theorem State.rangesLost_frame {ps₀ : List Part} {s₀ : State} (s : State) (n : ℕ)
    (hs₀ : [.objects, .records] ⊆ ps₀) (h₀ : Frame ps₀ s₀ s) :
    Frame ps₀ s₀ (State.rangesLost s n) := by
  unfold State.rangesLost
  repeat' first
    | with_reducible assumption
    | with_reducible apply State.toEnclave_frame (hs₀ := Part.tr (by decide) hs₀)
    | with_reducible refine Frame.ite ?_ ?_
    | with_reducible refine Frame.each (fun _ _ _ => ?_) ?_

theorem State.memoryFault_frame {ps₀ : List Part} {s₀ : State} (s : State) (n : ℕ) (stage : ℕ) (attempts : ℕ)
    (hs₀ : [.objects, .results, .stations, .memory, .raster, .translator, .energy, .memctl, .compositor, .display, .touch, .haptic, .audio, .checks, .touchQueues, .hapticQueues, .records, .pins, .timers, .crossings, .out, .free] ⊆ ps₀) (h₀ : Frame ps₀ s₀ s) :
    Frame ps₀ s₀ (State.memoryFault s n stage attempts) := by
  unfold State.memoryFault
  repeat' first
    | with_reducible assumption
    | with_reducible apply State.enterFaulted_frame (hs₀ := Part.tr (by decide) hs₀)
    | with_reducible apply State.loseMemory_frame (hs₀ := Part.tr (by decide) hs₀)
    | with_reducible apply State.wr_frame (hs₀ := Part.tr (by decide) hs₀)
    | with_reducible apply State.setStation_frame (hs₀ := Part.tr (by decide) hs₀)
    | with_reducible apply State.rangesLost_frame (hs₀ := Part.tr (by decide) hs₀)
    | with_reducible apply State.setMem_frame (hs₀ := Part.tr (by decide) hs₀)
    | with_reducible apply State.toStationLog_frame (hs₀ := Part.tr (by decide) hs₀)
    | with_reducible apply State.alarm_frame (hs₀ := Part.tr (by decide) hs₀)
    | with_reducible apply State.stopMove_frame (hs₀ := Part.tr (by decide) hs₀)
    | with_reducible apply State.setMmc_frame (hs₀ := Part.tr (by decide) hs₀)
    | with_reducible apply State.releaseMemory_frame (hs₀ := Part.tr (by decide) hs₀)
    | with_reducible refine Frame.ite ?_ ?_

theorem State.cvReset_frame {ps₀ : List Part} {s₀ : State} (s : State) (u : ℕ)
    (hs₀ : [.objects, .shadows, .results, .checks] ⊆ ps₀) (h₀ : Frame ps₀ s₀ s) :
    Frame ps₀ s₀ (State.cvReset s u) := by
  unfold State.cvReset
  repeat' first
    | with_reducible assumption
    | with_reducible apply State.toDefault_frame (hs₀ := Part.tr (by decide) hs₀)
    | with_reducible apply State.setCvu_frame (hs₀ := Part.tr (by decide) hs₀)
    | (conv => arg 3; arg 50); with_reducible refine Frame.set_results (Part.lift hs₀ (by decide)) ?_
    | with_reducible refine Frame.ite ?_ ?_
    | with_reducible refine Frame.foldl (fun _ _ _ => ?_) ?_
    | dsimp only

theorem State.clearObjects_frame {ps₀ : List Part} {s₀ : State} (s : State) (p : OKey → Bool)
    (hs₀ : [.objects, .shadows, .texts, .transfers, .results] ⊆ ps₀) (h₀ : Frame ps₀ s₀ s) :
    Frame ps₀ s₀ (State.clearObjects s p) := by
  unfold State.clearObjects
  repeat' first
    | with_reducible assumption
    | (conv => arg 3; arg 50); with_reducible refine Frame.set_regs_shadow_blobs_shadowBlobs_staging_results (Part.lift hs₀ (by decide)) (Part.lift hs₀ (by decide)) (Part.lift hs₀ (by decide)) (Part.lift hs₀ (by decide)) (Part.lift hs₀ (by decide)) ?_

theorem State.emptyIngress_frame {ps₀ : List Part} {s₀ : State} (s : State) (n : ℕ)
    (hs₀ : [.slices, .ingress] ⊆ ps₀) (h₀ : Frame ps₀ s₀ s) :
    Frame ps₀ s₀ (State.emptyIngress s n) := by
  unfold State.emptyIngress
  repeat' first
    | with_reducible assumption
    | with_reducible apply State.setRing_frame (hs₀ := Part.tr (by decide) hs₀)
    | (conv => arg 3; arg 50); with_reducible refine Frame.set_ingress (Part.lift hs₀ (by decide)) ?_
    | with_reducible refine Frame.each (fun _ _ _ => ?_) ?_

theorem State.emptyStationQueues_frame {ps₀ : List Part} {s₀ : State} (s : State) (n : ℕ)
    (hs₀ : [.objects, .shadows, .hapticQueues, .records] ⊆ ps₀) (h₀ : Frame ps₀ s₀ s) :
    Frame ps₀ s₀ (State.emptyStationQueues s n) := by
  unfold State.emptyStationQueues
  repeat' first
    | with_reducible assumption
    | with_reducible apply State.toDefault_frame (hs₀ := Part.tr (by decide) hs₀)
    | (conv => arg 3; arg 50); with_reducible refine Frame.set_hapticQ_stationLogQ (Part.lift hs₀ (by decide)) (Part.lift hs₀ (by decide)) ?_

theorem State.functionDefaults_frame {ps₀ : List Part} {s₀ : State} (s : State) (n : ℕ)
    (hs₀ : [.objects, .shadows, .texts, .transfers, .results] ⊆ ps₀) (h₀ : Frame ps₀ s₀ s) :
    Frame ps₀ s₀ (State.functionDefaults s n) := by
  unfold State.functionDefaults
  repeat' first
    | with_reducible assumption
    | with_reducible apply State.clearObjects_frame (hs₀ := Part.tr (by decide) hs₀)
    | (conv => arg 3; arg 50); with_reducible refine Frame.set_shadow_shadowBlobs (Part.lift hs₀ (by decide)) ?_
    | (conv => arg 3; arg 50); with_reducible refine Frame.set_shadow_blobs_shadowBlobs (Part.lift hs₀ (by decide)) (Part.lift hs₀ (by decide)) ?_
    | dsimp only
    | split

theorem State.functionsReset_frame {ps₀ : List Part} {s₀ : State} (s : State) (n : ℕ)
    (hs₀ : [.objects, .shadows, .texts, .transfers, .results, .stations, .memory, .raster, .translator, .energy, .compositor, .guard, .display, .touch, .haptic, .audio, .slices, .checks, .ingress, .hapticQueues, .records, .pins, .timers, .crossings, .out, .free] ⊆ ps₀) (h₀ : Frame ps₀ s₀ s) :
    Frame ps₀ s₀ (State.functionsReset s n) := by
  unfold State.functionsReset
  repeat' first
    | with_reducible assumption
    | with_reducible apply State.functionDefaults_frame (hs₀ := Part.tr (by decide) hs₀)
    | with_reducible apply State.energyOff_frame (hs₀ := Part.tr (by decide) hs₀)
    | with_reducible apply State.hapticReset_frame (hs₀ := Part.tr (by decide) hs₀)
    | with_reducible apply State.syncSecure_frame (hs₀ := Part.tr (by decide) hs₀)
    | with_reducible apply State.setTch_frame (hs₀ := Part.tr (by decide) hs₀)
    | with_reducible apply State.emptyIngress_frame (hs₀ := Part.tr (by decide) hs₀)
    | with_reducible apply State.setGrd_frame (hs₀ := Part.tr (by decide) hs₀)
    | with_reducible apply State.rasterReset_frame (hs₀ := Part.tr (by decide) hs₀)
    | with_reducible apply State.wr_frame (hs₀ := Part.tr (by decide) hs₀)
    | with_reducible apply State.audioReset_frame (hs₀ := Part.tr (by decide) hs₀)
    | with_reducible apply State.setCtl_frame (hs₀ := Part.tr (by decide) hs₀)
    | with_reducible apply State.setCmp_frame (hs₀ := Part.tr (by decide) hs₀)
    | with_reducible apply State.outputOff_frame (hs₀ := Part.tr (by decide) hs₀)
    | with_reducible apply State.emptyStationQueues_frame (hs₀ := Part.tr (by decide) hs₀)
    | with_reducible apply State.cvReset_frame (hs₀ := Part.tr (by decide) hs₀)
    | with_reducible apply State.setDsp_frame (hs₀ := Part.tr (by decide) hs₀)
    | with_reducible apply State.rasterLeave_frame (hs₀ := Part.tr (by decide) hs₀)
    | with_reducible apply State.touchOff_frame (hs₀ := Part.tr (by decide) hs₀)
    | with_reducible apply State.pinsReset_frame (hs₀ := Part.tr (by decide) hs₀)
    | with_reducible refine Frame.ite ?_ ?_

theorem State.functionsStart_frame {ps₀ : List Part} {s₀ : State} (s : State) (n : ℕ)
    (hs₀ : [.objects, .results, .stations, .compositor, .display, .touch, .audio, .touchQueues, .records, .pins, .timers, .crossings, .out, .free] ⊆ ps₀) (h₀ : Frame ps₀ s₀ s) :
    Frame ps₀ s₀ (State.functionsStart s n) := by
  unfold State.functionsStart
  repeat' first
    | with_reducible assumption
    | with_reducible apply State.syncEdge_frame (hs₀ := Part.tr (by decide) hs₀)
    | with_reducible apply State.stReady_frame (hs₀ := Part.tr (by decide) hs₀)
    | with_reducible apply State.syncSecure_frame (hs₀ := Part.tr (by decide) hs₀)
    | with_reducible apply State.syncCache_frame (hs₀ := Part.tr (by decide) hs₀)
    | with_reducible apply State.setCompose_frame (hs₀ := Part.tr (by decide) hs₀)
    | with_reducible apply State.touchRelease_frame (hs₀ := Part.tr (by decide) hs₀)
    | with_reducible apply State.startTiming_frame (hs₀ := Part.tr (by decide) hs₀)
    | with_reducible apply State.audioResume_frame (hs₀ := Part.tr (by decide) hs₀)
    | with_reducible apply State.syncReference_frame (hs₀ := Part.tr (by decide) hs₀)
    | with_reducible apply State.setCtl_frame (hs₀ := Part.tr (by decide) hs₀)
    | with_reducible apply State.syncSlots_frame (hs₀ := Part.tr (by decide) hs₀)
    | with_reducible apply State.syncZones_frame (hs₀ := Part.tr (by decide) hs₀)
    | with_reducible apply State.setDsp_frame (hs₀ := Part.tr (by decide) hs₀)
    | with_reducible refine Frame.ite ?_ ?_
    | with_reducible refine Frame.each (fun _ _ _ => ?_) ?_

theorem State.functionsRelease_frame {ps₀ : List Part} {s₀ : State} (s : State) (n : ℕ)
    (hs₀ : [.objects] ⊆ ps₀) (h₀ : Frame ps₀ s₀ s) :
    Frame ps₀ s₀ (State.functionsRelease s n) := by
  unfold State.functionsRelease
  repeat' first
    | with_reducible assumption
    | with_reducible apply State.stReady_frame (hs₀ := Part.tr (by decide) hs₀)
    | with_reducible apply State.wr_frame (hs₀ := Part.tr (by decide) hs₀)

theorem State.enterStarting_frame {ps₀ : List Part} {s₀ : State} (s : State) (n : ℕ)
    (hs₀ : [.objects, .stations, .raster] ⊆ ps₀) (h₀ : Frame ps₀ s₀ s) :
    Frame ps₀ s₀ (State.enterStarting s n) := by
  unfold State.enterStarting
  repeat' first
    | with_reducible assumption
    | with_reducible apply State.reserveCache_frame (hs₀ := Part.tr (by decide) hs₀)
    | with_reducible apply State.setStation_frame (hs₀ := Part.tr (by decide) hs₀)
    | with_reducible apply State.stopMove_frame (hs₀ := Part.tr (by decide) hs₀)

theorem State.closingBrake_frame {ps₀ : List Part} {s₀ : State} (s : State) (n : ℕ) (h : Haptic)
    (hs₀ : [.objects, .stations, .haptic, .pins, .timers, .out] ⊆ ps₀) (h₀ : Frame ps₀ s₀ s) :
    Frame ps₀ s₀ (State.closingBrake s n h) := by
  unfold State.closingBrake
  repeat' first
    | with_reducible assumption
    | with_reducible apply State.setHap_frame (hs₀ := Part.tr (by decide) hs₀)
    | with_reducible apply State.setHapState_frame (hs₀ := Part.tr (by decide) hs₀)

theorem State.stationOff_frame {ps₀ : List Part} {s₀ : State} (s : State) (n : ℕ)
    (hs₀ : [.objects, .shadows, .texts, .transfers, .results, .stations, .memory, .raster, .translator, .energy, .memctl, .compositor, .guard, .display, .touch, .haptic, .audio, .slices, .checks, .ingress, .hapticQueues, .records, .pins, .timers, .crossings, .out, .free] ⊆ ps₀) (h₀ : Frame ps₀ s₀ s) :
    Frame ps₀ s₀ (State.stationOff s n) := by
  unfold State.stationOff
  repeat' first
    | with_reducible assumption
    | with_reducible apply State.setHap_frame (hs₀ := Part.tr (by decide) hs₀)
    | with_reducible apply State.closingBrake_frame (hs₀ := Part.tr (by decide) hs₀)
    | with_reducible apply State.applyMode_frame (hs₀ := Part.tr (by decide) hs₀)
    | with_reducible apply State.loadSafe_frame (hs₀ := Part.tr (by decide) hs₀)
    | with_reducible apply State.leaveRunning_frame (hs₀ := Part.tr (by decide) hs₀)
    | with_reducible apply State.loseMemory_frame (hs₀ := Part.tr (by decide) hs₀)
    | with_reducible apply State.drive_frame (hs₀ := Part.tr (by decide) hs₀)
    | with_reducible apply State.wr_frame (hs₀ := Part.tr (by decide) hs₀)
    | with_reducible apply State.setCtl_frame (hs₀ := Part.tr (by decide) hs₀)
    | with_reducible apply State.setStation_frame (hs₀ := Part.tr (by decide) hs₀)
    | with_reducible apply State.setMem_frame (hs₀ := Part.tr (by decide) hs₀)
    | with_reducible apply State.functionsReset_frame (hs₀ := Part.tr (by decide) hs₀)
    | with_reducible apply State.setDsp_frame (hs₀ := Part.tr (by decide) hs₀)
    | with_reducible apply State.wakePin_frame (hs₀ := Part.tr (by decide) hs₀)
    | with_reducible apply State.closingAudio_frame (hs₀ := Part.tr (by decide) hs₀)
    | with_reducible apply State.audioStop_frame (hs₀ := Part.tr (by decide) hs₀)
    | with_reducible apply State.setMmc_frame (hs₀ := Part.tr (by decide) hs₀)
    | with_reducible refine Frame.ite ?_ ?_
    | with_reducible refine Frame.each (fun _ _ _ => ?_) ?_

theorem State.startFromOff_frame {ps₀ : List Part} {s₀ : State} (s : State) (n : ℕ)
    (hs₀ : [.objects, .texts, .results, .stations, .raster, .memctl, .compositor, .display, .touch, .audio, .touchQueues, .records, .pins, .timers, .crossings, .out, .free] ⊆ ps₀) (h₀ : Frame ps₀ s₀ s) :
    Frame ps₀ s₀ (State.startFromOff s n) := by
  unfold State.startFromOff
  repeat' first
    | with_reducible assumption
    | with_reducible apply State.functionsStart_frame (hs₀ := Part.tr (by decide) hs₀)
    | with_reducible apply State.setAud_frame (hs₀ := Part.tr (by decide) hs₀)
    | with_reducible apply State.loadSafe_frame (hs₀ := Part.tr (by decide) hs₀)
    | with_reducible apply State.functionsRelease_frame (hs₀ := Part.tr (by decide) hs₀)
    | with_reducible apply State.setCtl_frame (hs₀ := Part.tr (by decide) hs₀)
    | with_reducible apply State.enterStarting_frame (hs₀ := Part.tr (by decide) hs₀)
    | with_reducible apply State.releaseMemory_frame (hs₀ := Part.tr (by decide) hs₀)

theorem State.tellLost_frame {ps₀ : List Part} {s₀ : State} (s : State) (n : ℕ)
    (hs₀ : [.objects, .memctl, .records] ⊆ ps₀) (h₀ : Frame ps₀ s₀ s) :
    Frame ps₀ s₀ (State.tellLost s n) := by
  unfold State.tellLost
  repeat' first
    | with_reducible assumption
    | with_reducible apply State.toTenant_frame (hs₀ := Part.tr (by decide) hs₀)
    | with_reducible apply State.setMmc_frame (hs₀ := Part.tr (by decide) hs₀)
    | with_reducible refine Frame.each (fun _ _ _ => ?_) ?_

theorem State.enterRunning_frame {ps₀ : List Part} {s₀ : State} (s : State) (n : ℕ)
    (hs₀ : [.objects, .texts, .results, .stations, .memory, .raster, .translator, .energy, .memctl, .compositor, .display, .touch, .haptic, .audio, .checks, .records, .pins, .timers, .out, .free] ⊆ ps₀) (h₀ : Frame ps₀ s₀ s) :
    Frame ps₀ s₀ (State.enterRunning s n) := by
  unfold State.enterRunning
  repeat' first
    | with_reducible assumption
    | with_reducible apply State.stReady_frame (hs₀ := Part.tr (by decide) hs₀)
    | with_reducible apply State.tellLost_frame (hs₀ := Part.tr (by decide) hs₀)
    | with_reducible apply State.audioResume_frame (hs₀ := Part.tr (by decide) hs₀)
    | with_reducible apply State.wr_frame (hs₀ := Part.tr (by decide) hs₀)
    | with_reducible apply State.setCtl_frame (hs₀ := Part.tr (by decide) hs₀)
    | with_reducible apply State.setCmp_frame (hs₀ := Part.tr (by decide) hs₀)
    | with_reducible apply State.energyOn_frame (hs₀ := Part.tr (by decide) hs₀)
    | with_reducible apply State.setStation_frame (hs₀ := Part.tr (by decide) hs₀)
    | with_reducible apply State.hapticResume_frame (hs₀ := Part.tr (by decide) hs₀)
    | with_reducible apply State.leaveSleep_frame (hs₀ := Part.tr (by decide) hs₀)
    | with_reducible apply State.touchReturn_frame (hs₀ := Part.tr (by decide) hs₀)
    | with_reducible refine Frame.ite ?_ ?_

theorem State.enterSleepWith_frame {ps₀ : List Part} {s₀ : State} (s : State) (n : ℕ) (selfRefresh : State → State)
    (hs₀ : [.objects, .results, .stations, .memory, .raster, .translator, .energy, .compositor, .guard, .display, .touch, .haptic, .audio, .checks, .touchQueues, .hapticQueues, .records, .pins, .timers, .crossings, .out, .free] ⊆ ps₀) (hselfRefresh : ∀ x0, Frame ps₀ s₀ x0 → Frame ps₀ s₀ (selfRefresh x0)) (h₀ : Frame ps₀ s₀ s) :
    Frame ps₀ s₀ (State.enterSleepWith s n selfRefresh) := by
  unfold State.enterSleepWith
  repeat' first
    | with_reducible assumption
    | with_reducible apply State.touchSleep_frame (hs₀ := Part.tr (by decide) hs₀)
    | with_reducible apply State.setCompose_frame (hs₀ := Part.tr (by decide) hs₀)
    | with_reducible apply State.leaveRunning_frame (hs₀ := Part.tr (by decide) hs₀)
    | with_reducible apply State.setStation_frame (hs₀ := Part.tr (by decide) hs₀)
    | with_reducible apply State.outputSleep_frame (hs₀ := Part.tr (by decide) hs₀)
    | with_reducible apply State.audioStop_frame (hs₀ := Part.tr (by decide) hs₀)
    | with_reducible apply State.stopMove_frame (hs₀ := Part.tr (by decide) hs₀)
    | with_reducible apply hselfRefresh
    | with_reducible refine Frame.ite ?_ ?_

theorem State.applyTarget_frame {ps₀ : List Part} {s₀ : State} (s : State) (n : ℕ) (v : ℕ)
    (hs₀ : [.objects, .shadows, .texts, .transfers, .results, .stations, .memory, .raster, .translator, .energy, .memctl, .compositor, .guard, .display, .touch, .haptic, .audio, .slices, .checks, .ingress, .touchQueues, .hapticQueues, .records, .pins, .timers, .crossings, .out, .free] ⊆ ps₀) (h₀ : Frame ps₀ s₀ s) :
    Frame ps₀ s₀ (State.applyTarget s n v) := by
  unfold State.applyTarget
  repeat' first
    | with_reducible assumption
    | with_reducible apply State.startFromOff_frame (hs₀ := Part.tr (by decide) hs₀)
    | with_reducible apply State.stationOff_frame (hs₀ := Part.tr (by decide) hs₀)
    | with_reducible apply State.wr_frame (hs₀ := Part.tr (by decide) hs₀)
    | with_reducible apply State.setCtl_frame (hs₀ := Part.tr (by decide) hs₀)
    | with_reducible apply State.exitSelfRefresh_frame (hs₀ := Part.tr (by decide) hs₀)
    | with_reducible refine Frame.ite ?_ ?_

theorem State.writeTarget_frame {ps₀ : List Part} {s₀ : State} (s : State) (n : ℕ) (v : ℕ)
    (hs₀ : [.objects, .shadows, .texts, .transfers, .results, .stations, .memory, .raster, .translator, .energy, .memctl, .compositor, .guard, .display, .touch, .haptic, .audio, .slices, .checks, .ingress, .touchQueues, .hapticQueues, .records, .pins, .timers, .crossings, .out, .free] ⊆ ps₀) (h₀ : Frame ps₀ s₀ s) :
    Frame ps₀ s₀ (State.writeTarget s n v) := by
  unfold State.writeTarget
  repeat' first
    | with_reducible assumption
    | with_reducible apply State.answer_frame (hs₀ := Part.tr (by decide) hs₀)
    | with_reducible apply State.wr_frame (hs₀ := Part.tr (by decide) hs₀)
    | with_reducible apply State.applyTarget_frame (hs₀ := Part.tr (by decide) hs₀)
    | with_reducible refine Frame.ite ?_ ?_

theorem State.writeGate_frame {ps₀ : List Part} {s₀ : State} (s : State) (n : ℕ) (v : ℕ)
    (hs₀ : [.objects, .texts, .results, .stations, .compositor, .display, .touch, .haptic, .audio, .touchQueues, .hapticQueues, .records, .pins, .timers, .crossings, .out, .free] ⊆ ps₀) (h₀ : Frame ps₀ s₀ s) :
    Frame ps₀ s₀ (State.writeGate s n v) := by
  unfold State.writeGate
  repeat' first
    | with_reducible assumption
    | with_reducible apply State.answer_frame (hs₀ := Part.tr (by decide) hs₀)
    | with_reducible apply State.wr_frame (hs₀ := Part.tr (by decide) hs₀)
    | with_reducible apply State.applyGate_frame (hs₀ := Part.tr (by decide) hs₀)
    | with_reducible refine Frame.ite ?_ ?_

theorem State.applyHeld_frame {ps₀ : List Part} {s₀ : State} (s : State) (n : ℕ)
    (hs₀ : [.objects, .shadows, .texts, .transfers, .results, .stations, .memory, .raster, .translator, .energy, .memctl, .compositor, .guard, .display, .touch, .haptic, .audio, .slices, .checks, .ingress, .touchQueues, .hapticQueues, .records, .pins, .timers, .crossings, .out, .free] ⊆ ps₀) (h₀ : Frame ps₀ s₀ s) :
    Frame ps₀ s₀ (State.applyHeld s n) := by
  unfold State.applyHeld
  repeat' first
    | with_reducible assumption
    | with_reducible apply State.applyTarget_frame (hs₀ := Part.tr (by decide) hs₀)
    | with_reducible apply State.applyGate_frame (hs₀ := Part.tr (by decide) hs₀)
    | with_reducible refine Frame.ite ?_ ?_

theorem execStationTargetOff_frame {ps₀ : List Part} {s₀ t₀ : State} (who : Requester) (n : Fin 8) (s : State)
    (hs₀ : [.objects, .shadows, .texts, .transfers, .results, .stations, .memory, .raster, .translator, .energy, .memctl, .compositor, .guard, .display, .touch, .haptic, .audio, .slices, .checks, .ingress, .touchQueues, .hapticQueues, .records, .pins, .timers, .crossings, .out, .free] ⊆ ps₀) (e₀ : execStationTargetOff who n s = .next t₀) (h₀ : Frame ps₀ s₀ s) :
    Frame ps₀ s₀ t₀ := by
  unfold execStationTargetOff at e₀
  cases e₀
  repeat' first
    | with_reducible assumption
    | with_reducible apply State.onWrite_frame (hs₀ := Part.tr (by decide) hs₀)
    | with_reducible apply State.writeTarget_frame (hs₀ := Part.tr (by decide) hs₀)
    | with_reducible intro _

theorem execStationTargetRunning_frame {ps₀ : List Part} {s₀ t₀ : State} (who : Requester) (n : Fin 8) (s : State)
    (hs₀ : [.objects, .shadows, .texts, .transfers, .results, .stations, .memory, .raster, .translator, .energy, .memctl, .compositor, .guard, .display, .touch, .haptic, .audio, .slices, .checks, .ingress, .touchQueues, .hapticQueues, .records, .pins, .timers, .crossings, .out, .free] ⊆ ps₀) (e₀ : execStationTargetRunning who n s = .next t₀) (h₀ : Frame ps₀ s₀ s) :
    Frame ps₀ s₀ t₀ := by
  unfold execStationTargetRunning at e₀
  cases e₀
  repeat' first
    | with_reducible assumption
    | with_reducible apply State.onWrite_frame (hs₀ := Part.tr (by decide) hs₀)
    | with_reducible apply State.writeTarget_frame (hs₀ := Part.tr (by decide) hs₀)
    | with_reducible intro _

theorem execStationTargetSleep_frame {ps₀ : List Part} {s₀ t₀ : State} (who : Requester) (n : Fin 8) (s : State)
    (hs₀ : [.objects, .shadows, .texts, .transfers, .results, .stations, .memory, .raster, .translator, .energy, .memctl, .compositor, .guard, .display, .touch, .haptic, .audio, .slices, .checks, .ingress, .touchQueues, .hapticQueues, .records, .pins, .timers, .crossings, .out, .free] ⊆ ps₀) (e₀ : execStationTargetSleep who n s = .next t₀) (h₀ : Frame ps₀ s₀ s) :
    Frame ps₀ s₀ t₀ := by
  unfold execStationTargetSleep at e₀
  cases e₀
  repeat' first
    | with_reducible assumption
    | with_reducible apply State.onWrite_frame (hs₀ := Part.tr (by decide) hs₀)
    | with_reducible apply State.writeTarget_frame (hs₀ := Part.tr (by decide) hs₀)
    | with_reducible intro _

theorem State.gateBit_frame {ps₀ : List Part} {s₀ : State} (s : State) (who : Requester) (n : ℕ) (k : ℕ) (on : Bool)
    (hs₀ : [.objects, .texts, .results, .stations, .compositor, .display, .touch, .haptic, .audio, .slices, .touchQueues, .hapticQueues, .records, .pins, .timers, .crossings, .out, .free] ⊆ ps₀) (h₀ : Frame ps₀ s₀ s) :
    Frame ps₀ s₀ (State.gateBit s who n k on) := by
  unfold State.gateBit
  repeat' first
    | with_reducible assumption
    | with_reducible apply State.onWrite_frame (hs₀ := Part.tr (by decide) hs₀)
    | with_reducible apply State.writeGate_frame (hs₀ := Part.tr (by decide) hs₀)
    | with_reducible intro _

theorem execFunctionGateTouch_frame {ps₀ : List Part} {s₀ t₀ : State} (who : Requester) (n : Fin 8) (on : Bool) (s : State)
    (hs₀ : [.objects, .texts, .results, .stations, .compositor, .display, .touch, .haptic, .audio, .slices, .touchQueues, .hapticQueues, .records, .pins, .timers, .crossings, .out, .free] ⊆ ps₀) (e₀ : execFunctionGateTouch who n on s = .next t₀) (h₀ : Frame ps₀ s₀ s) :
    Frame ps₀ s₀ t₀ := by
  unfold execFunctionGateTouch at e₀
  cases e₀
  repeat' first
    | with_reducible assumption
    | with_reducible apply State.gateBit_frame (hs₀ := Part.tr (by decide) hs₀)

theorem execFunctionGateHaptic_frame {ps₀ : List Part} {s₀ t₀ : State} (who : Requester) (n : Fin 8) (on : Bool) (s : State)
    (hs₀ : [.objects, .texts, .results, .stations, .compositor, .display, .touch, .haptic, .audio, .slices, .touchQueues, .hapticQueues, .records, .pins, .timers, .crossings, .out, .free] ⊆ ps₀) (e₀ : execFunctionGateHaptic who n on s = .next t₀) (h₀ : Frame ps₀ s₀ s) :
    Frame ps₀ s₀ t₀ := by
  unfold execFunctionGateHaptic at e₀
  cases e₀
  repeat' first
    | with_reducible assumption
    | with_reducible apply State.gateBit_frame (hs₀ := Part.tr (by decide) hs₀)

theorem execFunctionGateAudio_frame {ps₀ : List Part} {s₀ t₀ : State} (who : Requester) (n : Fin 8) (on : Bool) (s : State)
    (hs₀ : [.objects, .texts, .results, .stations, .compositor, .display, .touch, .haptic, .audio, .slices, .touchQueues, .hapticQueues, .records, .pins, .timers, .crossings, .out, .free] ⊆ ps₀) (e₀ : execFunctionGateAudio who n on s = .next t₀) (h₀ : Frame ps₀ s₀ s) :
    Frame ps₀ s₀ t₀ := by
  unfold execFunctionGateAudio at e₀
  cases e₀
  repeat' first
    | with_reducible assumption
    | with_reducible apply State.gateBit_frame (hs₀ := Part.tr (by decide) hs₀)

theorem execEdgeLinkLost_frame {ps₀ : List Part} {s₀ t₀ : State} (n : Fin 8) (s : State)
    (hs₀ : [.objects, .results, .stations, .memory, .raster, .translator, .energy, .compositor, .display, .touch, .haptic, .audio, .checks, .touchQueues, .hapticQueues, .records, .pins, .timers, .crossings, .out, .free] ⊆ ps₀) (e₀ : execEdgeLinkLost n s = .next t₀) (h₀ : Frame ps₀ s₀ s) :
    Frame ps₀ s₀ t₀ := by
  unfold execEdgeLinkLost at e₀
  cases e₀
  repeat' first
    | with_reducible assumption
    | with_reducible apply State.enterFault_frame (hs₀ := Part.tr (by decide) hs₀)

theorem State.memoryPllLost_frame {ps₀ : List Part} {s₀ : State} (s : State) (n : ℕ)
    (hs₀ : [.objects, .memctl] ⊆ ps₀) (h₀ : Frame ps₀ s₀ s) :
    Frame ps₀ s₀ (State.memoryPllLost s n) := by
  unfold State.memoryPllLost
  repeat' first
    | with_reducible assumption
    | with_reducible apply State.setMem_frame (hs₀ := Part.tr (by decide) hs₀)
    | with_reducible apply State.setMmc_frame (hs₀ := Part.tr (by decide) hs₀)
    | with_reducible refine Frame.ite ?_ ?_

theorem execPllLockLost_frame {ps₀ : List Part} {s₀ t₀ : State} (n : Fin 8) (k : Fin 8) (s : State)
    (hs₀ : [.objects, .results, .stations, .memory, .raster, .translator, .energy, .memctl, .compositor, .guard, .display, .touch, .haptic, .audio, .checks, .touchQueues, .hapticQueues, .records, .pins, .timers, .crossings, .out, .free] ⊆ ps₀) (e₀ : execPllLockLost n k s = .next t₀) (h₀ : Frame ps₀ s₀ s) :
    Frame ps₀ s₀ t₀ := by
  unfold execPllLockLost at e₀
  cases e₀
  repeat' first
    | with_reducible assumption
    | with_reducible apply State.enterFault_frame (hs₀ := Part.tr (by decide) hs₀)
    | with_reducible apply State.wr_frame (hs₀ := Part.tr (by decide) hs₀)
    | with_reducible apply State.stopTiming_frame (hs₀ := Part.tr (by decide) hs₀)
    | with_reducible apply State.memoryPllLost_frame (hs₀ := Part.tr (by decide) hs₀)
    | with_reducible apply State.setDsp_frame (hs₀ := Part.tr (by decide) hs₀)
    | with_reducible apply State.count_frame (hs₀ := Part.tr (by decide) hs₀)
    | with_reducible apply State.emit_frame (hs₀ := Part.tr (by decide) hs₀)
    | with_reducible refine Frame.ite ?_ ?_

theorem State.escalate_frame {ps₀ : List Part} {s₀ : State} (s : State) (n : ℕ) (g : ℕ)
    (hs₀ : [.objects, .results, .stations, .memory, .raster, .translator, .energy, .compositor, .display, .touch, .haptic, .audio, .checks, .touchQueues, .hapticQueues, .records, .pins, .timers, .crossings, .out, .free] ⊆ ps₀) (h₀ : Frame ps₀ s₀ s) :
    Frame ps₀ s₀ (State.escalate s n g) := by
  unfold State.escalate
  repeat' first
    | with_reducible assumption
    | with_reducible apply State.enterFault_frame (hs₀ := Part.tr (by decide) hs₀)
    | with_reducible apply State.alarm_frame (hs₀ := Part.tr (by decide) hs₀)
    | with_reducible refine Frame.ite ?_ ?_

theorem execWakeScan_frame {ps₀ : List Part} {s₀ t₀ : State} (n : Fin 8) (coarse : ℕ) (self : List (ℕ × ℕ)) (s : State)
    (hs₀ : [.objects, .stations, .memctl, .touch, .pins, .out] ⊆ ps₀) (e₀ : execWakeScan n coarse self s = .next t₀) (h₀ : Frame ps₀ s₀ s) :
    Frame ps₀ s₀ t₀ := by
  unfold execWakeScan at e₀
  cases e₀
  repeat' first
    | with_reducible assumption
    | with_reducible apply State.wakeScan_frame (hs₀ := Part.tr (by decide) hs₀)
    | with_reducible apply State.wakeGesture_frame (hs₀ := Part.tr (by decide) hs₀)
    | with_reducible apply State.setCtl_frame (hs₀ := Part.tr (by decide) hs₀)
    | with_reducible apply State.exitSelfRefresh_frame (hs₀ := Part.tr (by decide) hs₀)
    | with_reducible refine Frame.ite ?_ ?_

/-! ### Machine/MemCtl.lean -/

theorem execRefreshDue_frame {ps₀ : List Part} {s₀ t₀ : State} (n : Fin 8) (s : State)
    (hs₀ : [.memctl, .out] ⊆ ps₀) (e₀ : execRefreshDue n s = .next t₀) (h₀ : Frame ps₀ s₀ s) :
    Frame ps₀ s₀ t₀ := by
  unfold execRefreshDue at e₀
  cases e₀
  repeat' first
    | with_reducible assumption
    | with_reducible apply State.setMmc_frame (hs₀ := Part.tr (by decide) hs₀)
    | with_reducible apply State.emit_frame (hs₀ := Part.tr (by decide) hs₀)
    | with_reducible refine Frame.ite ?_ ?_

theorem State.fallDue_frame {ps₀ : List Part} {s₀ : State} (s : State) (n : ℕ)
    (hs₀ : [.memctl] ⊆ ps₀) (h₀ : Frame ps₀ s₀ s) :
    Frame ps₀ s₀ (State.fallDue s n) := by
  unfold State.fallDue
  repeat' first
    | with_reducible assumption
    | with_reducible apply State.setMmc_frame (hs₀ := Part.tr (by decide) hs₀)
    | with_reducible refine Frame.ite ?_ ?_

theorem execMemTempRead_frame {ps₀ : List Part} {s₀ t₀ : State} (n : Fin 8) (temp : ℤ) (s : State)
    (hs₀ : [.objects, .memctl, .records, .pins, .out] ⊆ ps₀) (e₀ : execMemTempRead n temp s = .next t₀) (h₀ : Frame ps₀ s₀ s) :
    Frame ps₀ s₀ t₀ := by
  unfold execMemTempRead at e₀
  cases e₀
  repeat' first
    | with_reducible assumption
    | with_reducible apply State.fallDue_frame (hs₀ := Part.tr (by decide) hs₀)
    | with_reducible apply State.wr_frame (hs₀ := Part.tr (by decide) hs₀)
    | with_reducible apply State.toStationLog_frame (hs₀ := Part.tr (by decide) hs₀)
    | with_reducible apply State.alarm_frame (hs₀ := Part.tr (by decide) hs₀)
    | with_reducible apply State.setMmc_frame (hs₀ := Part.tr (by decide) hs₀)
    | with_reducible refine Frame.ite ?_ ?_

theorem execRetrainDue_frame {ps₀ : List Part} {s₀ t₀ : State} (n : Fin 8) (s : State)
    (hs₀ : [.memctl] ⊆ ps₀) (e₀ : execRetrainDue n s = .next t₀) (h₀ : Frame ps₀ s₀ s) :
    Frame ps₀ s₀ t₀ := by
  unfold execRetrainDue at e₀
  cases e₀
  repeat' first
    | with_reducible assumption
    | with_reducible apply State.fallDue_frame (hs₀ := Part.tr (by decide) hs₀)
    | with_reducible refine Frame.ite ?_ ?_

theorem execRetrainStart_frame {ps₀ : List Part} {s₀ t₀ : State} (n : Fin 8) (s : State)
    (hs₀ : [.memctl, .out] ⊆ ps₀) (e₀ : execRetrainStart n s = .next t₀) (h₀ : Frame ps₀ s₀ s) :
    Frame ps₀ s₀ t₀ := by
  unfold execRetrainStart at e₀
  cases e₀
  repeat' first
    | with_reducible assumption
    | with_reducible apply State.setMmc_frame (hs₀ := Part.tr (by decide) hs₀)
    | with_reducible apply State.emit_frame (hs₀ := Part.tr (by decide) hs₀)
    | with_reducible refine Frame.ite ?_ ?_

theorem State.countRetrain_frame {ps₀ : List Part} {s₀ : State} (s : State) (n : ℕ) (attempts : ℕ) (stall : ℕ)
    (hs₀ : [.objects, .records] ⊆ ps₀) (h₀ : Frame ps₀ s₀ s) :
    Frame ps₀ s₀ (State.countRetrain s n attempts stall) := by
  unfold State.countRetrain
  repeat' first
    | with_reducible assumption
    | with_reducible apply State.wr_frame (hs₀ := Part.tr (by decide) hs₀)
    | with_reducible apply State.toStationLog_frame (hs₀ := Part.tr (by decide) hs₀)
    | with_reducible apply State.count_frame (hs₀ := Part.tr (by decide) hs₀)
    | with_reducible refine Frame.ite ?_ ?_

theorem State.afterSelfRefresh_frame {ps₀ : List Part} {s₀ : State} (s : State) (n : ℕ)
    (hs₀ : [.objects, .memory, .memctl] ⊆ ps₀) (h₀ : Frame ps₀ s₀ s) :
    Frame ps₀ s₀ (State.afterSelfRefresh s n) := by
  unfold State.afterSelfRefresh
  repeat' first
    | with_reducible assumption
    | with_reducible apply State.setMem_frame (hs₀ := Part.tr (by decide) hs₀)
    | with_reducible apply State.setMmc_frame (hs₀ := Part.tr (by decide) hs₀)
    | (conv => arg 3; arg 50); with_reducible refine Frame.set_lostCells (Part.lift hs₀ (by decide)) ?_
    | (conv => arg 3; arg 50); with_reducible refine Frame.set_mem_lostCells_poison (Part.lift hs₀ (by decide)) ?_
    | with_reducible refine Frame.ite ?_ ?_

theorem execRetrainAttemptDone_frame {ps₀ : List Part} {s₀ t₀ : State} (n : Fin 8) (ok : Bool) (s : State)
    (hs₀ : [.objects, .results, .stations, .memory, .raster, .translator, .energy, .memctl, .compositor, .display, .touch, .haptic, .audio, .checks, .touchQueues, .hapticQueues, .records, .pins, .timers, .crossings, .out, .free] ⊆ ps₀) (e₀ : execRetrainAttemptDone n ok s = .next t₀) (h₀ : Frame ps₀ s₀ s) :
    Frame ps₀ s₀ t₀ := by
  unfold execRetrainAttemptDone at e₀
  cases e₀
  repeat' first
    | with_reducible assumption
    | with_reducible apply State.afterSelfRefresh_frame (hs₀ := Part.tr (by decide) hs₀)
    | with_reducible apply State.countRetrain_frame (hs₀ := Part.tr (by decide) hs₀)
    | with_reducible apply State.memoryFault_frame (hs₀ := Part.tr (by decide) hs₀)
    | with_reducible apply State.setMmc_frame (hs₀ := Part.tr (by decide) hs₀)
    | with_reducible refine Frame.ite ?_ ?_
    | dsimp only
    | split

theorem execMemTrainingAttemptDone_frame {ps₀ : List Part} {s₀ t₀ : State} (n : Fin 8) (ok : Bool) (capacity : ℕ) (rate : ℕ) (temp : ℤ) (s : State)
    (hs₀ : [.objects, .results, .stations, .memory, .raster, .translator, .energy, .memctl, .compositor, .display, .touch, .haptic, .audio, .checks, .touchQueues, .hapticQueues, .records, .pins, .timers, .crossings, .out, .free] ⊆ ps₀) (e₀ : execMemTrainingAttemptDone n ok capacity rate temp s = .next t₀) (h₀ : Frame ps₀ s₀ s) :
    Frame ps₀ s₀ t₀ := by
  unfold execMemTrainingAttemptDone at e₀
  cases e₀
  repeat' first
    | with_reducible assumption
    | with_reducible apply State.memoryFault_frame (hs₀ := Part.tr (by decide) hs₀)
    | with_reducible apply State.wr_frame (hs₀ := Part.tr (by decide) hs₀)
    | with_reducible apply State.setMem_frame (hs₀ := Part.tr (by decide) hs₀)
    | with_reducible apply State.setMmc_frame (hs₀ := Part.tr (by decide) hs₀)
    | (conv => arg 3; arg 50); with_reducible refine Frame.set_lostCells (Part.lift hs₀ (by decide)) ?_
    | with_reducible refine Frame.ite ?_ ?_
    | dsimp only
    | split

theorem execMemFillDone_frame {ps₀ : List Part} {s₀ t₀ : State} (n : Fin 8) (s : State)
    (hs₀ : [.objects, .memctl] ⊆ ps₀) (e₀ : execMemFillDone n s = .next t₀) (h₀ : Frame ps₀ s₀ s) :
    Frame ps₀ s₀ t₀ := by
  unfold execMemFillDone at e₀
  cases e₀
  repeat' first
    | with_reducible assumption
    | with_reducible apply State.setMem_frame (hs₀ := Part.tr (by decide) hs₀)
    | with_reducible apply State.setMmc_frame (hs₀ := Part.tr (by decide) hs₀)
    | with_reducible refine Frame.ite ?_ ?_

theorem State.correctedError_frame {ps₀ : List Part} {s₀ : State} (s : State) (n : ℕ) (addr : ℕ) (cls : ℕ)
    (hs₀ : [.objects, .memctl, .records, .pins, .out] ⊆ ps₀) (h₀ : Frame ps₀ s₀ s) :
    Frame ps₀ s₀ (State.correctedError s n addr cls) := by
  unfold State.correctedError
  repeat' first
    | with_reducible assumption
    | with_reducible apply State.toStationLog_frame (hs₀ := Part.tr (by decide) hs₀)
    | with_reducible apply State.alarm_frame (hs₀ := Part.tr (by decide) hs₀)
    | with_reducible apply State.count_frame (hs₀ := Part.tr (by decide) hs₀)
    | with_reducible apply State.setMmc_frame (hs₀ := Part.tr (by decide) hs₀)
    | with_reducible refine Frame.ite ?_ ?_

theorem State.countUncorrectable_frame {ps₀ : List Part} {s₀ : State} (s : State) (n : ℕ) (addr : ℕ) (kind : ℕ) (who : ℕ × ℕ × ℕ)
    (hs₀ : [.objects, .records] ⊆ ps₀) (h₀ : Frame ps₀ s₀ s) :
    Frame ps₀ s₀ (State.countUncorrectable s n addr kind who) := by
  unfold State.countUncorrectable
  repeat' first
    | with_reducible assumption
    | with_reducible apply State.toStationLog_frame (hs₀ := Part.tr (by decide) hs₀)
    | with_reducible apply State.count_frame (hs₀ := Part.tr (by decide) hs₀)

theorem State.captureError_frame {ps₀ : List Part} {s₀ : State} (s : State) (n : ℕ) (addr : ℕ) (kind : ℕ) (who : ℕ × ℕ × ℕ)
    (hs₀ : [.objects] ⊆ ps₀) (h₀ : Frame ps₀ s₀ s) :
    Frame ps₀ s₀ (State.captureError s n addr kind who) := by
  unfold State.captureError
  repeat' first
    | with_reducible assumption
    | with_reducible apply State.wr_frame (hs₀ := Part.tr (by decide) hs₀)

theorem State.markPoison_frame {ps₀ : List Part} {s₀ : State} (s : State) (word : ℕ)
    (hs₀ : [.memory] ⊆ ps₀) (h₀ : Frame ps₀ s₀ s) :
    Frame ps₀ s₀ (State.markPoison s word) := by
  unfold State.markPoison
  repeat' first
    | with_reducible assumption
    | (conv => arg 3; arg 50); with_reducible refine Frame.set_poison (Part.lift hs₀ (by decide)) ?_
    | with_reducible refine Frame.ite ?_ ?_

theorem State.poisonedReader_frame {ps₀ : List Part} {s₀ : State} (s : State) (n : ℕ) (r : MemReader)
    (hs₀ : [.objects, .results, .memory, .raster, .translator, .checks, .records] ⊆ ps₀) (h₀ : Frame ps₀ s₀ s) :
    Frame ps₀ s₀ (State.poisonedReader s n r) := by
  unfold State.poisonedReader
  repeat' first
    | with_reducible assumption
    | with_reducible apply State.settle_frame (hs₀ := Part.tr (by decide) hs₀)
    | with_reducible apply State.endJob_frame (hs₀ := Part.tr (by decide) hs₀)
    | with_reducible refine Frame.ite ?_ ?_
    | split

theorem State.uncorrectable_frame {ps₀ : List Part} {s₀ : State} (s : State) (n : ℕ) (addr : ℕ) (kind : ℕ) (r : MemReader)
    (hs₀ : [.objects, .results, .stations, .memory, .raster, .translator, .energy, .memctl, .compositor, .display, .touch, .haptic, .audio, .checks, .touchQueues, .hapticQueues, .records, .pins, .timers, .crossings, .out, .free] ⊆ ps₀) (h₀ : Frame ps₀ s₀ s) :
    Frame ps₀ s₀ (State.uncorrectable s n addr kind r) := by
  unfold State.uncorrectable
  repeat' first
    | with_reducible assumption
    | with_reducible apply State.enterFault_frame (hs₀ := Part.tr (by decide) hs₀)
    | with_reducible apply State.countUncorrectable_frame (hs₀ := Part.tr (by decide) hs₀)
    | with_reducible apply State.markPoison_frame (hs₀ := Part.tr (by decide) hs₀)
    | with_reducible apply State.poisonedReader_frame (hs₀ := Part.tr (by decide) hs₀)
    | with_reducible apply State.setMem_frame (hs₀ := Part.tr (by decide) hs₀)
    | with_reducible apply State.captureError_frame (hs₀ := Part.tr (by decide) hs₀)
    | with_reducible apply State.setMmc_frame (hs₀ := Part.tr (by decide) hs₀)
    | with_reducible refine Frame.ite ?_ ?_

theorem execMemRead_frame {ps₀ : List Part} {s₀ t₀ : State} (n : Fin 8) (addr : ℕ) (r : MemReader) (err : Fin 3) (s : State)
    (hs₀ : [.objects, .results, .stations, .memory, .raster, .translator, .energy, .memctl, .compositor, .display, .touch, .haptic, .audio, .checks, .touchQueues, .hapticQueues, .records, .pins, .timers, .crossings, .out, .free] ⊆ ps₀) (e₀ : execMemRead n addr r err s = .next t₀) (h₀ : Frame ps₀ s₀ s) :
    Frame ps₀ s₀ t₀ := by
  unfold execMemRead at e₀
  cases e₀
  repeat' first
    | with_reducible assumption
    | with_reducible apply State.countUncorrectable_frame (hs₀ := Part.tr (by decide) hs₀)
    | with_reducible apply State.correctedError_frame (hs₀ := Part.tr (by decide) hs₀)
    | with_reducible apply State.uncorrectable_frame (hs₀ := Part.tr (by decide) hs₀)
    | with_reducible apply State.setMmc_frame (hs₀ := Part.tr (by decide) hs₀)
    | with_reducible refine Frame.ite ?_ ?_

theorem execRequestPromotion_frame {ps₀ : List Part} {s₀ t₀ : State} (n : Fin 8) (cls : ℕ) (since : ℕ) (s : State)
    (hs₀ : [.memctl] ⊆ ps₀) (e₀ : execRequestPromotion n cls since s = .next t₀) (h₀ : Frame ps₀ s₀ s) :
    Frame ps₀ s₀ t₀ := by
  unfold execRequestPromotion at e₀
  cases e₀
  repeat' first
    | with_reducible assumption
    | with_reducible apply State.setMmc_frame (hs₀ := Part.tr (by decide) hs₀)
    | with_reducible refine Frame.ite ?_ ?_

theorem State.memoryStationReset_frame {ps₀ : List Part} {s₀ : State} (s : State) (n : ℕ)
    (hs₀ : [.objects, .memory, .memctl] ⊆ ps₀) (h₀ : Frame ps₀ s₀ s) :
    Frame ps₀ s₀ (State.memoryStationReset s n) := by
  unfold State.memoryStationReset
  repeat' first
    | with_reducible assumption
    | with_reducible apply State.markPoison_frame (hs₀ := Part.tr (by decide) hs₀)
    | with_reducible apply State.setMem_frame (hs₀ := Part.tr (by decide) hs₀)
    | with_reducible apply State.exitSelfRefresh_frame (hs₀ := Part.tr (by decide) hs₀)
    | with_reducible apply State.setMmc_frame (hs₀ := Part.tr (by decide) hs₀)
    | dsimp only
    | split

theorem State.enterSelfRefresh_frame {ps₀ : List Part} {s₀ : State} (s : State) (n : ℕ)
    (hs₀ : [.objects, .memctl, .records] ⊆ ps₀) (h₀ : Frame ps₀ s₀ s) :
    Frame ps₀ s₀ (State.enterSelfRefresh s n) := by
  unfold State.enterSelfRefresh
  repeat' first
    | with_reducible assumption
    | with_reducible apply State.wr_frame (hs₀ := Part.tr (by decide) hs₀)
    | with_reducible apply State.setMem_frame (hs₀ := Part.tr (by decide) hs₀)
    | with_reducible apply State.toStationLog_frame (hs₀ := Part.tr (by decide) hs₀)
    | with_reducible apply State.setMmc_frame (hs₀ := Part.tr (by decide) hs₀)
    | with_reducible refine Frame.ite ?_ ?_

theorem State.enterSleep_frame {ps₀ : List Part} {s₀ : State} (s : State) (n : ℕ)
    (hs₀ : [.objects, .results, .stations, .memory, .raster, .translator, .energy, .memctl, .compositor, .guard, .display, .touch, .haptic, .audio, .checks, .touchQueues, .hapticQueues, .records, .pins, .timers, .crossings, .out, .free] ⊆ ps₀) (h₀ : Frame ps₀ s₀ s) :
    Frame ps₀ s₀ (State.enterSleep s n) := by
  unfold State.enterSleep
  repeat' first
    | with_reducible assumption
    | with_reducible apply State.enterSelfRefresh_frame (hs₀ := Part.tr (by decide) hs₀)
    | with_reducible apply State.enterSleepWith_frame (hs₀ := Part.tr (by decide) hs₀)
    | with_reducible intro _

theorem execSleepEntryDone_frame {ps₀ : List Part} {s₀ t₀ : State} (n : Fin 8) (s : State)
    (hs₀ : [.objects, .results, .stations, .memory, .raster, .translator, .energy, .memctl, .compositor, .guard, .display, .touch, .haptic, .audio, .checks, .touchQueues, .hapticQueues, .records, .pins, .timers, .crossings, .out, .free] ⊆ ps₀) (e₀ : execSleepEntryDone n s = .next t₀) (h₀ : Frame ps₀ s₀ s) :
    Frame ps₀ s₀ t₀ := by
  unfold execSleepEntryDone at e₀
  cases e₀
  repeat' first
    | with_reducible assumption
    | with_reducible apply State.setCtl_frame (hs₀ := Part.tr (by decide) hs₀)
    | with_reducible apply State.exitSelfRefresh_frame (hs₀ := Part.tr (by decide) hs₀)
    | with_reducible apply State.enterSleep_frame (hs₀ := Part.tr (by decide) hs₀)
    | with_reducible refine Frame.ite ?_ ?_

theorem execWakeDone_frame {ps₀ : List Part} {s₀ t₀ : State} (n : Fin 8) (s : State)
    (hs₀ : [.objects, .texts, .results, .stations, .memory, .raster, .translator, .energy, .memctl, .compositor, .display, .touch, .haptic, .audio, .checks, .records, .pins, .timers, .out, .free] ⊆ ps₀) (e₀ : execWakeDone n s = .next t₀) (h₀ : Frame ps₀ s₀ s) :
    Frame ps₀ s₀ t₀ := by
  unfold execWakeDone at e₀
  cases e₀
  repeat' first
    | with_reducible assumption
    | with_reducible apply State.setCtl_frame (hs₀ := Part.tr (by decide) hs₀)
    | with_reducible apply State.enterRunning_frame (hs₀ := Part.tr (by decide) hs₀)
    | with_reducible refine Frame.ite ?_ ?_

theorem execStationStartupDone_frame {ps₀ : List Part} {s₀ t₀ : State} (n : Fin 8) (imageOk : Bool) (s : State)
    (hs₀ : [.objects, .texts, .results, .stations, .memory, .raster, .translator, .energy, .memctl, .compositor, .guard, .display, .touch, .haptic, .audio, .checks, .touchQueues, .hapticQueues, .records, .pins, .timers, .crossings, .out, .free] ⊆ ps₀) (e₀ : execStationStartupDone n imageOk s = .next t₀) (h₀ : Frame ps₀ s₀ s) :
    Frame ps₀ s₀ t₀ := by
  unfold execStationStartupDone at e₀
  cases e₀
  repeat' first
    | with_reducible assumption
    | with_reducible apply State.stReady_frame (hs₀ := Part.tr (by decide) hs₀)
    | with_reducible apply State.setCtl_frame (hs₀ := Part.tr (by decide) hs₀)
    | with_reducible apply State.enterRunning_frame (hs₀ := Part.tr (by decide) hs₀)
    | with_reducible apply State.enterSleep_frame (hs₀ := Part.tr (by decide) hs₀)
    | with_reducible refine Frame.ite ?_ ?_

/-! ### Machine/Secure.lean -/

theorem State.setSecState_frame {ps₀ : List Part} {s₀ : State} (s : State) (v : ℕ)
    (hs₀ : [.objects] ⊆ ps₀) (h₀ : Frame ps₀ s₀ s) :
    Frame ps₀ s₀ (State.setSecState s v) := by
  unfold State.setSecState
  repeat' first
    | with_reducible assumption
    | with_reducible apply State.wr_frame (hs₀ := Part.tr (by decide) hs₀)
    | with_reducible apply State.hwReady_frame (hs₀ := Part.tr (by decide) hs₀)

theorem State.setEnclave_frame {ps₀ : List Part} {s₀ : State} (s : State) (e : ℕ) (v : ℕ)
    (hs₀ : [.objects] ⊆ ps₀) (h₀ : Frame ps₀ s₀ s) :
    Frame ps₀ s₀ (State.setEnclave s e v) := by
  unfold State.setEnclave
  repeat' first
    | with_reducible assumption
    | with_reducible apply State.wr_frame (hs₀ := Part.tr (by decide) hs₀)

theorem State.setEcl_frame {ps₀ : List Part} {s₀ : State} (s : State) (e : ℕ) (v : EnclaveCtl)
    (hs₀ : [.secure] ⊆ ps₀) (h₀ : Frame ps₀ s₀ s) :
    Frame ps₀ s₀ (State.setEcl s e v) := by
  unfold State.setEcl
  repeat' first
    | with_reducible assumption
    | (conv => arg 3; arg 50); with_reducible refine Frame.set_sec (Part.lift hs₀ (by decide)) ?_

theorem State.extend_frame {ps₀ : List Part} {s₀ : State} (s : State) (k : ℕ) (digest : Bytes)
    (hs₀ : [.objects, .texts] ⊆ ps₀) (h₀ : Frame ps₀ s₀ s) :
    Frame ps₀ s₀ (State.extend s k digest) := by
  unfold State.extend
  repeat' first
    | with_reducible assumption
    | with_reducible apply State.wrBlob_frame (hs₀ := Part.tr (by decide) hs₀)

theorem State.zeroMeasurement_frame {ps₀ : List Part} {s₀ : State} (s : State) (k : ℕ)
    (hs₀ : [.objects, .texts] ⊆ ps₀) (h₀ : Frame ps₀ s₀ s) :
    Frame ps₀ s₀ (State.zeroMeasurement s k) := by
  unfold State.zeroMeasurement
  repeat' first
    | with_reducible assumption
    | with_reducible apply State.wrBlob_frame (hs₀ := Part.tr (by decide) hs₀)

theorem State.zeroMem_frame {ps₀ : List Part} {s₀ : State} (s : State) (n : ℕ) (a : ℕ) (len : ℕ)
    (hs₀ : [.memory] ⊆ ps₀) (h₀ : Frame ps₀ s₀ s) :
    Frame ps₀ s₀ (State.zeroMem s n a len) := by
  unfold State.zeroMem
  repeat' first
    | with_reducible assumption
    | (conv => arg 3; arg 50); with_reducible refine Frame.set_mem_lostCells_poison (Part.lift hs₀ (by decide)) ?_
    | dsimp only

theorem State.scrubRanges_frame {ps₀ : List Part} {s₀ : State} (s : State) (ranges : List ℕ)
    (hs₀ : [.memory] ⊆ ps₀) (h₀ : Frame ps₀ s₀ s) :
    Frame ps₀ s₀ (State.scrubRanges s ranges) := by
  unfold State.scrubRanges
  repeat' first
    | with_reducible assumption
    | with_reducible apply State.zeroMem_frame (hs₀ := Part.tr (by decide) hs₀)
    | with_reducible refine Frame.ite ?_ ?_
    | with_reducible refine Frame.each (fun _ _ _ => ?_) ?_

theorem State.onEnclave_frame {ps₀ : List Part} {s₀ : State} (s : State) (who : Requester) (e : ℕ) (v : ℕ) (f : State → State)
    (hs₀ : [.objects, .slices, .records, .pins, .out] ⊆ ps₀) (hf : ∀ x0, Frame ps₀ s₀ x0 → Frame ps₀ s₀ (f x0)) (h₀ : Frame ps₀ s₀ s) :
    Frame ps₀ s₀ (State.onEnclave s who e v f) := by
  unfold State.onEnclave
  repeat' first
    | with_reducible assumption
    | with_reducible apply State.onWrite_frame (hs₀ := Part.tr (by decide) hs₀)
    | with_reducible apply State.guarded_frame (hs₀ := Part.tr (by decide) hs₀)
    | with_reducible intro _

theorem execEnclaveCreate_frame {ps₀ : List Part} {s₀ t₀ : State} (who : Requester) (e : Fin 64) (s : State)
    (hs₀ : [.objects, .results, .slices, .records, .pins, .out] ⊆ ps₀) (e₀ : execEnclaveCreate who e s = .next t₀) (h₀ : Frame ps₀ s₀ s) :
    Frame ps₀ s₀ t₀ := by
  unfold execEnclaveCreate at e₀
  cases e₀
  repeat' first
    | with_reducible assumption
    | with_reducible apply State.answer_frame (hs₀ := Part.tr (by decide) hs₀)
    | with_reducible apply State.setEnclave_frame (hs₀ := Part.tr (by decide) hs₀)
    | with_reducible apply State.finish_frame (hs₀ := Part.tr (by decide) hs₀)
    | with_reducible apply State.onEnclave_frame (hs₀ := Part.tr (by decide) hs₀)
    | with_reducible apply State.startResult_frame (hs₀ := Part.tr (by decide) hs₀)
    | with_reducible refine Frame.ite ?_ ?_
    | with_reducible intro _

theorem State.schedule_frame {ps₀ : List Part} {s₀ : State} (s : State) (e : ℕ)
    (hs₀ : [.secure] ⊆ ps₀) (h₀ : Frame ps₀ s₀ s) :
    Frame ps₀ s₀ (State.schedule s e) := by
  unfold State.schedule
  repeat' first
    | with_reducible assumption
    | (conv => arg 3; arg 50); with_reducible refine Frame.set_sec (Part.lift hs₀ (by decide)) ?_
    | with_reducible refine Frame.ite ?_ ?_
    | dsimp only

theorem State.unschedule_frame {ps₀ : List Part} {s₀ : State} (s : State) (e : ℕ)
    (hs₀ : [.secure] ⊆ ps₀) (h₀ : Frame ps₀ s₀ s) :
    Frame ps₀ s₀ (State.unschedule s e) := by
  unfold State.unschedule
  repeat' first
    | with_reducible assumption
    | (conv => arg 3; arg 50); with_reducible refine Frame.set_sec (Part.lift hs₀ (by decide)) ?_

theorem execEnclaveStart_frame {ps₀ : List Part} {s₀ t₀ : State} (who : Requester) (e : Fin 64) (s : State)
    (hs₀ : [.objects, .secure, .slices, .records, .pins, .out] ⊆ ps₀) (e₀ : execEnclaveStart who e s = .next t₀) (h₀ : Frame ps₀ s₀ s) :
    Frame ps₀ s₀ t₀ := by
  unfold execEnclaveStart at e₀
  cases e₀
  repeat' first
    | with_reducible assumption
    | with_reducible apply State.answer_frame (hs₀ := Part.tr (by decide) hs₀)
    | with_reducible apply State.setEnclave_frame (hs₀ := Part.tr (by decide) hs₀)
    | with_reducible apply State.onEnclave_frame (hs₀ := Part.tr (by decide) hs₀)
    | with_reducible apply State.setEcl_frame (hs₀ := Part.tr (by decide) hs₀)
    | with_reducible apply State.schedule_frame (hs₀ := Part.tr (by decide) hs₀)
    | with_reducible refine Frame.ite ?_ ?_
    | with_reducible intro _

theorem execEnclaveStop_frame {ps₀ : List Part} {s₀ t₀ : State} (who : Requester) (e : Fin 64) (s : State)
    (hs₀ : [.objects, .secure, .slices, .records, .pins, .out] ⊆ ps₀) (e₀ : execEnclaveStop who e s = .next t₀) (h₀ : Frame ps₀ s₀ s) :
    Frame ps₀ s₀ t₀ := by
  unfold execEnclaveStop at e₀
  cases e₀
  repeat' first
    | with_reducible assumption
    | with_reducible apply State.unschedule_frame (hs₀ := Part.tr (by decide) hs₀)
    | with_reducible apply State.answer_frame (hs₀ := Part.tr (by decide) hs₀)
    | with_reducible apply State.setEnclave_frame (hs₀ := Part.tr (by decide) hs₀)
    | with_reducible apply State.onEnclave_frame (hs₀ := Part.tr (by decide) hs₀)
    | with_reducible refine Frame.ite ?_ ?_
    | with_reducible intro _

theorem execEnclaveSliceExpired_frame {ps₀ : List Part} {s₀ t₀ : State} (core : Fin 2) (next : Option (Fin 64)) (s : State)
    (hs₀ : [.secure] ⊆ ps₀) (e₀ : execEnclaveSliceExpired core next s = .next t₀) (h₀ : Frame ps₀ s₀ s) :
    Frame ps₀ s₀ t₀ := by
  unfold execEnclaveSliceExpired at e₀
  cases e₀
  repeat' first
    | with_reducible assumption
    | (conv => arg 3; arg 50); with_reducible refine Frame.set_sec (Part.lift hs₀ (by decide)) ?_
    | with_reducible refine Frame.ite ?_ ?_
    | dsimp only
    | split

theorem State.setLock_frame {ps₀ : List Part} {s₀ : State} (s : State) (b : Block) (l : Lock)
    (hs₀ : [.objects, .locks] ⊆ ps₀) (h₀ : Frame ps₀ s₀ s) :
    Frame ps₀ s₀ (State.setLock s b l) := by
  unfold State.setLock
  repeat' first
    | with_reducible assumption
    | with_reducible apply State.syncSecure_frame (hs₀ := Part.tr (by decide) hs₀)
    | with_reducible apply State.syncZone_frame (hs₀ := Part.tr (by decide) hs₀)
    | (conv => arg 3; arg 50); with_reducible refine Frame.set_locks (Part.lift hs₀ (by decide)) ?_
    | with_reducible refine Frame.ite ?_ ?_

theorem State.returnBlock_frame {ps₀ : List Part} {s₀ : State} (s : State) (b : Block)
    (hs₀ : [.objects, .locks] ⊆ ps₀) (h₀ : Frame ps₀ s₀ s) :
    Frame ps₀ s₀ (State.returnBlock s b) := by
  unfold State.returnBlock
  repeat' first
    | with_reducible assumption
    | with_reducible apply State.setLock_frame (hs₀ := Part.tr (by decide) hs₀)
    | dsimp only
    | split

theorem State.destroyEnclave_frame {ps₀ : List Part} {s₀ : State} (s : State) (e : ℕ)
    (hs₀ : [.objects, .locks, .keys, .secure] ⊆ ps₀) (h₀ : Frame ps₀ s₀ s) :
    Frame ps₀ s₀ (State.destroyEnclave s e) := by
  unfold State.destroyEnclave
  repeat' first
    | with_reducible assumption
    | with_reducible apply State.unschedule_frame (hs₀ := Part.tr (by decide) hs₀)
    | with_reducible apply State.setEnclave_frame (hs₀ := Part.tr (by decide) hs₀)
    | with_reducible apply State.returnBlock_frame (hs₀ := Part.tr (by decide) hs₀)
    | (conv => arg 3; arg 50); with_reducible refine Frame.set_encKey (Part.lift hs₀ (by decide)) ?_
    | with_reducible refine Frame.each (fun _ _ _ => ?_) ?_

theorem State.askDestroy_frame {ps₀ : List Part} {s₀ : State} (s : State) (e : ℕ)
    (hs₀ : [.objects, .locks, .keys, .secure, .out] ⊆ ps₀) (h₀ : Frame ps₀ s₀ s) :
    Frame ps₀ s₀ (State.askDestroy s e) := by
  unfold State.askDestroy
  repeat' first
    | with_reducible assumption
    | with_reducible apply State.answer_frame (hs₀ := Part.tr (by decide) hs₀)
    | with_reducible apply State.destroyEnclave_frame (hs₀ := Part.tr (by decide) hs₀)
    | with_reducible refine Frame.ite ?_ ?_

theorem execEnclaveCommandDestroy_frame {ps₀ : List Part} {s₀ t₀ : State} (who : Requester) (e : Fin 64) (s : State)
    (hs₀ : [.objects, .locks, .keys, .secure, .slices, .records, .pins, .out] ⊆ ps₀) (e₀ : execEnclaveCommandDestroy who e s = .next t₀) (h₀ : Frame ps₀ s₀ s) :
    Frame ps₀ s₀ t₀ := by
  unfold execEnclaveCommandDestroy at e₀
  cases e₀
  repeat' first
    | with_reducible assumption
    | with_reducible apply State.askDestroy_frame (hs₀ := Part.tr (by decide) hs₀)
    | with_reducible apply State.onEnclave_frame (hs₀ := Part.tr (by decide) hs₀)
    | with_reducible intro _

theorem execEnclaveDestroy_frame {ps₀ : List Part} {s₀ t₀ : State} (who : Requester) (e : Fin 64) (v : Bool) (s : State)
    (hs₀ : [.objects, .locks, .keys, .secure, .slices, .records, .pins, .out] ⊆ ps₀) (e₀ : execEnclaveDestroy who e v s = .next t₀) (h₀ : Frame ps₀ s₀ s) :
    Frame ps₀ s₀ t₀ := by
  unfold execEnclaveDestroy at e₀
  cases e₀
  repeat' first
    | with_reducible assumption
    | with_reducible apply State.answer_frame (hs₀ := Part.tr (by decide) hs₀)
    | with_reducible apply State.onWrite_frame (hs₀ := Part.tr (by decide) hs₀)
    | with_reducible apply State.askDestroy_frame (hs₀ := Part.tr (by decide) hs₀)
    | with_reducible apply State.guarded_frame (hs₀ := Part.tr (by decide) hs₀)
    | with_reducible refine Frame.ite ?_ ?_
    | with_reducible intro _

theorem State.tellEnclaveLost_frame {ps₀ : List Part} {s₀ : State} (s : State) (e : ℕ) (t : ℕ)
    (hs₀ : [.objects, .records] ⊆ ps₀) (h₀ : Frame ps₀ s₀ s) :
    Frame ps₀ s₀ (State.tellEnclaveLost s e t) := by
  unfold State.tellEnclaveLost
  repeat' first
    | with_reducible assumption
    | with_reducible apply State.toTenant_frame (hs₀ := Part.tr (by decide) hs₀)
    | with_reducible apply State.wr_frame (hs₀ := Part.tr (by decide) hs₀)
    | with_reducible refine Frame.ite ?_ ?_

theorem State.forgetEnclave_frame {ps₀ : List Part} {s₀ : State} (s : State) (e : ℕ)
    (hs₀ : [.objects, .texts, .keys, .secure, .touchQueues, .records] ⊆ ps₀) (h₀ : Frame ps₀ s₀ s) :
    Frame ps₀ s₀ (State.forgetEnclave s e) := by
  unfold State.forgetEnclave
  repeat' first
    | with_reducible assumption
    | with_reducible apply State.unschedule_frame (hs₀ := Part.tr (by decide) hs₀)
    | with_reducible apply State.setEnclave_frame (hs₀ := Part.tr (by decide) hs₀)
    | (conv => arg 3; arg 50); with_reducible refine Frame.set_blobs_encKey_sec_encTouchQ_encNoteQ (Part.lift hs₀ (by decide)) (Part.lift hs₀ (by decide)) (Part.lift hs₀ (by decide)) (Part.lift hs₀ (by decide)) (Part.lift hs₀ (by decide)) ?_

theorem State.openSystem_frame {ps₀ : List Part} {s₀ : State} (s : State)
    (hs₀ : [.objects, .secure] ⊆ ps₀) (h₀ : Frame ps₀ s₀ s) :
    Frame ps₀ s₀ (State.openSystem s) := by
  unfold State.openSystem
  repeat' first
    | with_reducible assumption
    | with_reducible apply State.wr_frame (hs₀ := Part.tr (by decide) hs₀)
    | (conv => arg 3; arg 50); with_reducible refine Frame.set_sec (Part.lift hs₀ (by decide)) ?_
    | with_reducible refine Frame.ite ?_ ?_

theorem execEnclaveLoadDone_frame {ps₀ : List Part} {s₀ t₀ : State} (e : Fin 64) (key : Bytes) (s : State)
    (hs₀ : [.objects, .texts, .results, .locks, .memory, .keys, .secure, .records, .free] ⊆ ps₀) (e₀ : execEnclaveLoadDone e key s = .next t₀) (h₀ : Frame ps₀ s₀ s) :
    Frame ps₀ s₀ t₀ := by
  unfold execEnclaveLoadDone at e₀
  cases e₀
  repeat' first
    | with_reducible assumption
    | with_reducible apply State.drawBytes_frame (hs₀ := Part.tr (by decide) hs₀)
    | with_reducible apply State.zeroMem_frame (hs₀ := Part.tr (by decide) hs₀)
    | with_reducible apply State.setEnclave_frame (hs₀ := Part.tr (by decide) hs₀)
    | with_reducible apply State.store_frame (hs₀ := Part.tr (by decide) hs₀)
    | with_reducible apply State.wr_frame (hs₀ := Part.tr (by decide) hs₀)
    | with_reducible apply State.finish_frame (hs₀ := Part.tr (by decide) hs₀)
    | with_reducible apply State.wrBlob_frame (hs₀ := Part.tr (by decide) hs₀)
    | with_reducible apply State.setEcl_frame (hs₀ := Part.tr (by decide) hs₀)
    | with_reducible apply State.destroyEnclave_frame (hs₀ := Part.tr (by decide) hs₀)
    | with_reducible apply State.openSystem_frame (hs₀ := Part.tr (by decide) hs₀)
    | (conv => arg 3; arg 50); with_reducible refine Frame.set_encKey (Part.lift hs₀ (by decide)) ?_
    | with_reducible refine Frame.ite ?_ ?_

theorem execEnclaveDestroyDone_frame {ps₀ : List Part} {s₀ t₀ : State} (e : Fin 64) (s : State)
    (hs₀ : [.objects, .texts, .memory, .keys, .secure, .touchQueues, .records] ⊆ ps₀) (e₀ : execEnclaveDestroyDone e s = .next t₀) (h₀ : Frame ps₀ s₀ s) :
    Frame ps₀ s₀ t₀ := by
  unfold execEnclaveDestroyDone at e₀
  cases e₀
  repeat' first
    | with_reducible assumption
    | with_reducible apply State.scrubRanges_frame (hs₀ := Part.tr (by decide) hs₀)
    | with_reducible apply State.forgetEnclave_frame (hs₀ := Part.tr (by decide) hs₀)
    | with_reducible apply State.openSystem_frame (hs₀ := Part.tr (by decide) hs₀)
    | with_reducible apply State.tellEnclaveLost_frame (hs₀ := Part.tr (by decide) hs₀)
    | with_reducible refine Frame.ite ?_ ?_

theorem execInbox_frame {ps₀ : List Part} {s₀ t₀ : State} (who : Requester) (e : Fin 64) (data : Bytes) (s : State)
    (hs₀ : [.objects, .results, .secure, .slices, .records, .pins, .out] ⊆ ps₀) (e₀ : execInbox who e data s = .next t₀) (h₀ : Frame ps₀ s₀ s) :
    Frame ps₀ s₀ t₀ := by
  unfold execInbox at e₀
  cases e₀
  repeat' first
    | with_reducible assumption
    | with_reducible apply State.onRequest_frame (hs₀ := Part.tr (by decide) hs₀)
    | with_reducible apply State.answer_frame (hs₀ := Part.tr (by decide) hs₀)
    | with_reducible apply State.toEnclave_frame (hs₀ := Part.tr (by decide) hs₀)
    | with_reducible apply State.startResult_frame (hs₀ := Part.tr (by decide) hs₀)
    | with_reducible apply State.guarded_frame (hs₀ := Part.tr (by decide) hs₀)
    | with_reducible apply State.setEcl_frame (hs₀ := Part.tr (by decide) hs₀)
    | with_reducible apply State.mailboxSpoof_frame (hs₀ := Part.tr (by decide) hs₀)
    | with_reducible refine Frame.ite ?_ ?_
    | with_reducible intro _
    | dsimp only
    | split

theorem State.onCall_frame {ps₀ : List Part} {s₀ : State} (s : State) (e : ℕ) (f : State → State)
    (hs₀ : [] ⊆ ps₀) (hf : ∀ x0, Frame ps₀ s₀ x0 → Frame ps₀ s₀ (f x0)) (h₀ : Frame ps₀ s₀ s) :
    Frame ps₀ s₀ (State.onCall s e f) := by
  unfold State.onCall
  repeat' first
    | with_reducible assumption
    | with_reducible apply hf
    | with_reducible refine Frame.ite ?_ ?_

theorem State.reply_frame {ps₀ : List Part} {s₀ : State} (s : State) (e : ℕ) (r : CallResult)
    (hs₀ : [.out] ⊆ ps₀) (h₀ : Frame ps₀ s₀ s) :
    Frame ps₀ s₀ (State.reply s e r) := by
  unfold State.reply
  repeat' first
    | with_reducible assumption
    | with_reducible apply State.emit_frame (hs₀ := Part.tr (by decide) hs₀)

theorem execAcquire_frame {ps₀ : List Part} {s₀ t₀ : State} (e : Fin 64) (n : Fin 8) (kind : BlockKind) (k : ℕ) (s : State)
    (hs₀ : [.objects, .locks, .compositor, .records, .out] ⊆ ps₀) (e₀ : execAcquire e n kind k s = .next t₀) (h₀ : Frame ps₀ s₀ s) :
    Frame ps₀ s₀ t₀ := by
  unfold execAcquire at e₀
  cases e₀
  repeat' first
    | with_reducible assumption
    | with_reducible apply State.reply_frame (hs₀ := Part.tr (by decide) hs₀)
    | with_reducible apply State.onCall_frame (hs₀ := Part.tr (by decide) hs₀)
    | with_reducible apply State.toHolder_frame (hs₀ := Part.tr (by decide) hs₀)
    | with_reducible apply State.recomposeFor_frame (hs₀ := Part.tr (by decide) hs₀)
    | with_reducible apply State.setLock_frame (hs₀ := Part.tr (by decide) hs₀)
    | with_reducible refine Frame.ite ?_ ?_
    | with_reducible intro _
    | dsimp only
    | split

theorem execRelease_frame {ps₀ : List Part} {s₀ t₀ : State} (e : Fin 64) (n : Fin 8) (kind : BlockKind) (k : ℕ) (s : State)
    (hs₀ : [.objects, .locks, .out] ⊆ ps₀) (e₀ : execRelease e n kind k s = .next t₀) (h₀ : Frame ps₀ s₀ s) :
    Frame ps₀ s₀ t₀ := by
  unfold execRelease at e₀
  cases e₀
  repeat' first
    | with_reducible assumption
    | with_reducible apply State.reply_frame (hs₀ := Part.tr (by decide) hs₀)
    | with_reducible apply State.onCall_frame (hs₀ := Part.tr (by decide) hs₀)
    | with_reducible apply State.returnBlock_frame (hs₀ := Part.tr (by decide) hs₀)
    | with_reducible refine Frame.ite ?_ ?_
    | with_reducible intro _
    | split

theorem State.drainBlock_frame {ps₀ : List Part} {s₀ : State} (s : State) (b : Block)
    (hs₀ : [.objects, .shadows, .texts, .results, .compositor, .guard, .display, .touch, .audio, .touchQueues, .hapticQueues, .records, .crossings, .out, .free] ⊆ ps₀) (h₀ : Frame ps₀ s₀ s) :
    Frame ps₀ s₀ (State.drainBlock s b) := by
  unfold State.drainBlock
  repeat' first
    | with_reducible assumption
    | with_reducible apply State.defaultSet_frame (hs₀ := Part.tr (by decide) hs₀)
    | with_reducible apply State.touchZoneLocked_frame (hs₀ := Part.tr (by decide) hs₀)
    | with_reducible apply State.refStop_frame (hs₀ := Part.tr (by decide) hs₀)
    | with_reducible apply State.sourceReset_frame (hs₀ := Part.tr (by decide) hs₀)
    | with_reducible apply State.resetRegion_frame (hs₀ := Part.tr (by decide) hs₀)
    | with_reducible apply State.dropArmed_frame (hs₀ := Part.tr (by decide) hs₀)
    | dsimp only
    | split

theorem execLockDrainDone_frame {ps₀ : List Part} {s₀ t₀ : State} (n : Fin 8) (kind : BlockKind) (k : ℕ) (s : State)
    (hs₀ : [.objects, .shadows, .texts, .results, .locks, .compositor, .guard, .display, .touch, .audio, .touchQueues, .hapticQueues, .records, .crossings, .out, .free] ⊆ ps₀) (e₀ : execLockDrainDone n kind k s = .next t₀) (h₀ : Frame ps₀ s₀ s) :
    Frame ps₀ s₀ t₀ := by
  unfold execLockDrainDone at e₀
  cases e₀
  repeat' first
    | with_reducible assumption
    | with_reducible apply State.drainBlock_frame (hs₀ := Part.tr (by decide) hs₀)
    | with_reducible apply State.setLock_frame (hs₀ := Part.tr (by decide) hs₀)
    | with_reducible refine Frame.ite ?_ ?_

theorem execLockReady_frame {ps₀ : List Part} {s₀ t₀ : State} (n : Fin 8) (kind : BlockKind) (k : ℕ) (s : State)
    (hs₀ : [.objects, .shadows, .texts, .transfers, .results, .stations, .locks, .memory, .raster, .translator, .energy, .memctl, .compositor, .guard, .display, .touch, .haptic, .audio, .slices, .checks, .ingress, .touchQueues, .hapticQueues, .records, .pins, .timers, .crossings, .out, .free] ⊆ ps₀) (e₀ : execLockReady n kind k s = .next t₀) (h₀ : Frame ps₀ s₀ s) :
    Frame ps₀ s₀ t₀ := by
  unfold execLockReady at e₀
  cases e₀
  repeat' first
    | with_reducible assumption
    | with_reducible apply State.applyHeld_frame (hs₀ := Part.tr (by decide) hs₀)
    | with_reducible apply State.toHolder_frame (hs₀ := Part.tr (by decide) hs₀)
    | with_reducible apply State.touchZoneReady_frame (hs₀ := Part.tr (by decide) hs₀)
    | with_reducible apply State.setLock_frame (hs₀ := Part.tr (by decide) hs₀)
    | with_reducible refine Frame.ite ?_ ?_

theorem State.secureDown_frame {ps₀ : List Part} {s₀ : State} (s : State)
    (hs₀ : [.objects, .texts, .results, .keys, .secure, .touchQueues, .records] ⊆ ps₀) (h₀ : Frame ps₀ s₀ s) :
    Frame ps₀ s₀ (State.secureDown s) := by
  unfold State.secureDown
  repeat' first
    | with_reducible assumption
    | with_reducible apply State.zeroMeasurement_frame (hs₀ := Part.tr (by decide) hs₀)
    | with_reducible apply State.setSecState_frame (hs₀ := Part.tr (by decide) hs₀)
    | with_reducible apply State.forgetEnclave_frame (hs₀ := Part.tr (by decide) hs₀)
    | (conv => arg 3; arg 50); with_reducible refine Frame.set_blobs_results (Part.lift hs₀ (by decide)) (Part.lift hs₀ (by decide)) ?_
    | (conv => arg 3; arg 50); with_reducible refine Frame.set_encKey_sec (Part.lift hs₀ (by decide)) (Part.lift hs₀ (by decide)) ?_
    | with_reducible refine Frame.each (fun _ _ _ => ?_) ?_

theorem State.secRestart_frame {ps₀ : List Part} {s₀ : State} (s : State)
    (hs₀ : [.objects, .shadows, .texts, .results, .keys, .secure, .compositor, .guard, .audio, .touchQueues, .records, .pins, .out] ⊆ ps₀) (h₀ : Frame ps₀ s₀ s) :
    Frame ps₀ s₀ (State.secRestart s) := by
  unfold State.secRestart
  repeat' first
    | with_reducible assumption
    | with_reducible apply State.secureDown_frame (hs₀ := Part.tr (by decide) hs₀)
    | with_reducible apply State.sourceReset_frame (hs₀ := Part.tr (by decide) hs₀)
    | with_reducible apply State.alarm_frame (hs₀ := Part.tr (by decide) hs₀)
    | with_reducible apply State.count_frame (hs₀ := Part.tr (by decide) hs₀)
    | with_reducible apply State.resetRegion_frame (hs₀ := Part.tr (by decide) hs₀)
    | (conv => arg 3; arg 50); with_reducible refine Frame.set_sec (Part.lift hs₀ (by decide)) ?_
    | with_reducible refine Frame.each (fun _ _ _ => ?_) ?_
    | split

theorem execSecScrubDone_frame {ps₀ : List Part} {s₀ t₀ : State} (s : State)
    (hs₀ : [.objects, .resets, .locks, .memory, .secure, .records] ⊆ ps₀) (e₀ : execSecScrubDone s = .next t₀) (h₀ : Frame ps₀ s₀ s) :
    Frame ps₀ s₀ t₀ := by
  unfold execSecScrubDone at e₀
  cases e₀
  repeat' first
    | with_reducible assumption
    | with_reducible apply State.zeroMem_frame (hs₀ := Part.tr (by decide) hs₀)
    | with_reducible apply State.scrubRanges_frame (hs₀ := Part.tr (by decide) hs₀)
    | with_reducible apply State.setSecState_frame (hs₀ := Part.tr (by decide) hs₀)
    | with_reducible apply State.tellEnclaveLost_frame (hs₀ := Part.tr (by decide) hs₀)
    | with_reducible apply State.returnBlock_frame (hs₀ := Part.tr (by decide) hs₀)
    | (conv => arg 3; arg 50); with_reducible refine Frame.set_rst (Part.lift hs₀ (by decide)) ?_
    | (conv => arg 3; arg 50); with_reducible refine Frame.set_sec (Part.lift hs₀ (by decide)) ?_
    | with_reducible refine Frame.ite ?_ ?_
    | with_reducible refine Frame.each (fun _ _ _ => ?_) ?_

theorem execAttestChallenge_frame {ps₀ : List Part} {s₀ t₀ : State} (who : Requester) (nonce : Bytes) (s : State)
    (hs₀ : [.objects, .results, .secure, .slices, .records, .pins, .out] ⊆ ps₀) (e₀ : execAttestChallenge who nonce s = .next t₀) (h₀ : Frame ps₀ s₀ s) :
    Frame ps₀ s₀ t₀ := by
  unfold execAttestChallenge at e₀
  cases e₀
  repeat' first
    | with_reducible assumption
    | with_reducible apply State.onRequest_frame (hs₀ := Part.tr (by decide) hs₀)
    | with_reducible apply State.answer_frame (hs₀ := Part.tr (by decide) hs₀)
    | with_reducible apply State.startResult_frame (hs₀ := Part.tr (by decide) hs₀)
    | with_reducible apply State.guarded_frame (hs₀ := Part.tr (by decide) hs₀)
    | with_reducible apply State.mailboxSpoof_frame (hs₀ := Part.tr (by decide) hs₀)
    | (conv => arg 3; arg 50); with_reducible refine Frame.set_sec (Part.lift hs₀ (by decide)) ?_
    | with_reducible refine Frame.ite ?_ ?_
    | with_reducible intro _
    | dsimp only
    | split

theorem execAttestReportDone_frame {ps₀ : List Part} {s₀ t₀ : State} (s : State)
    (hs₀ : [.objects, .texts, .results, .secure, .records] ⊆ ps₀) (e₀ : execAttestReportDone s = .next t₀) (h₀ : Frame ps₀ s₀ s) :
    Frame ps₀ s₀ t₀ := by
  unfold execAttestReportDone at e₀
  cases e₀
  repeat' first
    | with_reducible assumption
    | with_reducible apply State.completeResult_frame (hs₀ := Part.tr (by decide) hs₀)
    | with_reducible apply State.wrBlob_frame (hs₀ := Part.tr (by decide) hs₀)
    | (conv => arg 3; arg 50); with_reducible refine Frame.set_sec (Part.lift hs₀ (by decide)) ?_
    | dsimp only
    | split

/-! ### Machine/Slices.lean -/

theorem State.syncSlice_frame {ps₀ : List Part} {s₀ : State} (s : State) (t : ℕ)
    (hs₀ : [.objects] ⊆ ps₀) (h₀ : Frame ps₀ s₀ s) :
    Frame ps₀ s₀ (State.syncSlice s t) := by
  unfold State.syncSlice
  repeat' first
    | with_reducible assumption
    | with_reducible apply State.wr_frame (hs₀ := Part.tr (by decide) hs₀)

theorem State.syncPorts_frame {ps₀ : List Part} {s₀ : State} (s : State)
    (hs₀ : [.objects] ⊆ ps₀) (h₀ : Frame ps₀ s₀ s) :
    Frame ps₀ s₀ (State.syncPorts s) := by
  unfold State.syncPorts
  repeat' first
    | with_reducible assumption
    | with_reducible apply State.wr_frame (hs₀ := Part.tr (by decide) hs₀)
    | with_reducible refine Frame.each (fun _ _ _ => ?_) ?_

theorem State.fetchFor_frame {ps₀ : List Part} {s₀ : State} (s : State) (t : ℕ)
    (hs₀ : [.slices, .out] ⊆ ps₀) (h₀ : Frame ps₀ s₀ s) :
    Frame ps₀ s₀ (State.fetchFor s t) := by
  unfold State.fetchFor
  repeat' first
    | with_reducible assumption
    | with_reducible apply State.fetch_frame (hs₀ := Part.tr (by decide) hs₀)
    | with_reducible refine Frame.each (fun _ _ _ => ?_) ?_

theorem State.revokeBlock_frame {ps₀ : List Part} {s₀ : State} (s : State) (b : Block) (was : Holder)
    (hs₀ : [.objects, .shadows, .compositor, .touch, .audio, .records] ⊆ ps₀) (h₀ : Frame ps₀ s₀ s) :
    Frame ps₀ s₀ (State.revokeBlock s b was) := by
  unfold State.revokeBlock
  repeat' first
    | with_reducible assumption
    | with_reducible apply State.stopTone_frame (hs₀ := Part.tr (by decide) hs₀)
    | with_reducible apply State.zoneRevoke_frame (hs₀ := Part.tr (by decide) hs₀)
    | with_reducible apply State.stopStream_frame (hs₀ := Part.tr (by decide) hs₀)
    | with_reducible apply State.discardSet_frame (hs₀ := Part.tr (by decide) hs₀)
    | with_reducible refine Frame.ite ?_ ?_
    | split

theorem State.rehold_frame {ps₀ : List Part} {s₀ : State} (s : State) (old : State) (t : ℕ) (n : ℕ)
    (hs₀ : [.objects, .shadows, .compositor, .touch, .audio, .records] ⊆ ps₀) (h₀ : Frame ps₀ s₀ s) :
    Frame ps₀ s₀ (State.rehold s old t n) := by
  unfold State.rehold
  repeat' first
    | with_reducible assumption
    | with_reducible apply State.revokeBlock_frame (hs₀ := Part.tr (by decide) hs₀)
    | with_reducible apply State.syncZones_frame (hs₀ := Part.tr (by decide) hs₀)
    | with_reducible apply State.discardSet_frame (hs₀ := Part.tr (by decide) hs₀)
    | with_reducible refine Frame.ite ?_ ?_
    | with_reducible refine Frame.each (fun _ _ _ => ?_) ?_

theorem State.reholdAll_frame {ps₀ : List Part} {s₀ : State} (s : State) (old : State) (t : ℕ)
    (hs₀ : [.objects, .shadows, .compositor, .touch, .audio, .records] ⊆ ps₀) (h₀ : Frame ps₀ s₀ s) :
    Frame ps₀ s₀ (State.reholdAll s old t) := by
  unfold State.reholdAll
  repeat' first
    | with_reducible assumption
    | with_reducible apply State.rehold_frame (hs₀ := Part.tr (by decide) hs₀)
    | with_reducible refine Frame.each (fun _ _ _ => ?_) ?_

theorem State.enableSlice_frame {ps₀ : List Part} {s₀ : State} (s : State) (t : ℕ)
    (hs₀ : [.objects, .shadows, .energy, .compositor, .touch, .audio, .slices, .records, .out] ⊆ ps₀) (h₀ : Frame ps₀ s₀ s) :
    Frame ps₀ s₀ (State.enableSlice s t) := by
  unfold State.enableSlice
  repeat' first
    | with_reducible assumption
    | with_reducible apply State.clearLedger_frame (hs₀ := Part.tr (by decide) hs₀)
    | with_reducible apply State.wr_frame (hs₀ := Part.tr (by decide) hs₀)
    | with_reducible apply State.reholdAll_frame (hs₀ := Part.tr (by decide) hs₀)
    | with_reducible apply State.syncPorts_frame (hs₀ := Part.tr (by decide) hs₀)
    | with_reducible apply State.fetchFor_frame (hs₀ := Part.tr (by decide) hs₀)
    | with_reducible apply State.syncSlice_frame (hs₀ := Part.tr (by decide) hs₀)

theorem State.writeWindow_frame {ps₀ : List Part} {s₀ : State} (s : State) (t : ℕ) (n : ℕ) (w : ℕ) (v : ℕ)
    (hs₀ : [.objects, .compositor, .slices, .out] ⊆ ps₀) (h₀ : Frame ps₀ s₀ s) :
    Frame ps₀ s₀ (State.writeWindow s t n w v) := by
  unfold State.writeWindow
  repeat' first
    | with_reducible assumption
    | with_reducible apply State.wr_frame (hs₀ := Part.tr (by decide) hs₀)
    | with_reducible apply State.setCmp_frame (hs₀ := Part.tr (by decide) hs₀)
    | with_reducible apply State.setSlc_frame (hs₀ := Part.tr (by decide) hs₀)
    | with_reducible apply State.fetch_frame (hs₀ := Part.tr (by decide) hs₀)
    | with_reducible apply State.dropArmed_frame (hs₀ := Part.tr (by decide) hs₀)
    | with_reducible refine Frame.ite ?_ ?_
    | with_reducible refine Frame.each (fun _ _ _ => ?_) ?_

theorem State.sliceActions_frame {ps₀ : List Part} {s₀ : State} (s : State) (t : ℕ) (n : ℕ)
    (hs₀ : [.objects, .shadows, .texts, .results, .stations, .memory, .raster, .translator, .compositor, .touch, .haptic, .audio, .checks, .ingress, .hapticQueues, .records, .pins, .timers, .out, .free] ⊆ ps₀) (h₀ : Frame ps₀ s₀ s) :
    Frame ps₀ s₀ (State.sliceActions s t n) := by
  unfold State.sliceActions
  repeat' first
    | with_reducible assumption
    | with_reducible apply State.rasterSlice_frame (hs₀ := Part.tr (by decide) hs₀)
    | with_reducible apply State.hapticRevoke_frame (hs₀ := Part.tr (by decide) hs₀)
    | with_reducible apply State.discardSet_frame (hs₀ := Part.tr (by decide) hs₀)
    | with_reducible apply State.audioRevoke_frame (hs₀ := Part.tr (by decide) hs₀)
    | with_reducible apply State.touchRevoke_frame (hs₀ := Part.tr (by decide) hs₀)
    | (conv => arg 3; arg 50); with_reducible refine Frame.set_ingress (Part.lift hs₀ (by decide)) ?_
    | with_reducible refine Frame.ite ?_ ?_
    | with_reducible refine Frame.each (fun _ _ _ => ?_) ?_

theorem State.sliceDue_frame {ps₀ : List Part} {s₀ : State} (s : State) (n : ℕ)
    (hs₀ : [.objects, .shadows, .texts, .results, .stations, .memory, .raster, .translator, .compositor, .touch, .haptic, .audio, .slices, .checks, .ingress, .hapticQueues, .records, .pins, .timers, .out, .free] ⊆ ps₀) (h₀ : Frame ps₀ s₀ s) :
    Frame ps₀ s₀ (State.sliceDue s n) := by
  unfold State.sliceDue
  repeat' first
    | with_reducible assumption
    | with_reducible apply State.sliceActions_frame (hs₀ := Part.tr (by decide) hs₀)
    | with_reducible apply State.setSlc_frame (hs₀ := Part.tr (by decide) hs₀)
    | with_reducible refine Frame.ite ?_ ?_
    | with_reducible refine Frame.each (fun _ _ _ => ?_) ?_

theorem State.sliceReset_frame {ps₀ : List Part} {s₀ : State} (s : State) (t : ℕ) (unbind : Bool)
    (hs₀ : [.objects, .shadows, .texts, .results, .stations, .memory, .raster, .translator, .compositor, .touch, .haptic, .audio, .slices, .checks, .ingress, .touchQueues, .hapticQueues, .records, .pins, .timers, .out, .free] ⊆ ps₀) (h₀ : Frame ps₀ s₀ s) :
    Frame ps₀ s₀ (State.sliceReset s t unbind) := by
  unfold State.sliceReset
  repeat' first
    | with_reducible assumption
    | with_reducible apply State.sliceActions_frame (hs₀ := Part.tr (by decide) hs₀)
    | with_reducible apply State.countTenantItems_frame (hs₀ := Part.tr (by decide) hs₀)
    | with_reducible apply State.setSlc_frame (hs₀ := Part.tr (by decide) hs₀)
    | with_reducible apply State.cvTransfersLost_frame (hs₀ := Part.tr (by decide) hs₀)
    | with_reducible apply State.syncSlice_frame (hs₀ := Part.tr (by decide) hs₀)
    | (conv => arg 3; arg 50); with_reducible refine Frame.set_touchQ (Part.lift hs₀ (by decide)) ?_
    | with_reducible refine Frame.ite ?_ ?_
    | with_reducible refine Frame.each (fun _ _ _ => ?_) ?_
    | dsimp only

theorem State.sliceDefaults_frame {ps₀ : List Part} {s₀ : State} (s : State) (t : ℕ)
    (hs₀ : [.objects, .slices, .ports, .touchQueues, .records] ⊆ ps₀) (h₀ : Frame ps₀ s₀ s) :
    Frame ps₀ s₀ (State.sliceDefaults s t) := by
  unfold State.sliceDefaults
  repeat' first
    | with_reducible assumption
    | with_reducible apply State.countTenantItems_frame (hs₀ := Part.tr (by decide) hs₀)
    | with_reducible apply State.wr_frame (hs₀ := Part.tr (by decide) hs₀)
    | with_reducible apply State.setPrt_frame (hs₀ := Part.tr (by decide) hs₀)
    | with_reducible apply State.setSlc_frame (hs₀ := Part.tr (by decide) hs₀)
    | (conv => arg 3; arg 50); with_reducible refine Frame.set_regs_touchQ_noteQ (Part.lift hs₀ (by decide)) (Part.lift hs₀ (by decide)) (Part.lift hs₀ (by decide)) ?_

theorem State.applyBind_frame {ps₀ : List Part} {s₀ : State} (s : State) (t : ℕ) (w : BindWrite)
    (hs₀ : [.objects, .shadows, .energy, .compositor, .touch, .audio, .slices, .records, .out] ⊆ ps₀) (h₀ : Frame ps₀ s₀ s) :
    Frame ps₀ s₀ (State.applyBind s t w) := by
  unfold State.applyBind
  repeat' first
    | with_reducible assumption
    | with_reducible apply State.rehold_frame (hs₀ := Part.tr (by decide) hs₀)
    | with_reducible apply State.wr_frame (hs₀ := Part.tr (by decide) hs₀)
    | with_reducible apply State.reholdAll_frame (hs₀ := Part.tr (by decide) hs₀)
    | with_reducible apply State.writeWindow_frame (hs₀ := Part.tr (by decide) hs₀)
    | with_reducible apply State.fetch_frame (hs₀ := Part.tr (by decide) hs₀)
    | with_reducible apply State.fetchFor_frame (hs₀ := Part.tr (by decide) hs₀)
    | with_reducible apply State.syncSlice_frame (hs₀ := Part.tr (by decide) hs₀)
    | with_reducible apply State.enableSlice_frame (hs₀ := Part.tr (by decide) hs₀)
    | with_reducible refine Frame.ite ?_ ?_
    | split

theorem State.bind_frame {ps₀ : List Part} {s₀ : State} (s : State) (t : ℕ) (w : BindWrite) (authorised : Bool)
    (hs₀ : [.objects, .shadows, .energy, .compositor, .touch, .audio, .slices, .records, .out] ⊆ ps₀) (h₀ : Frame ps₀ s₀ s) :
    Frame ps₀ s₀ (State.bind s t w authorised).1 := by
  unfold State.bind
  repeat' first
    | with_reducible assumption
    | with_reducible apply State.applyBind_frame (hs₀ := Part.tr (by decide) hs₀)
    | with_reducible apply State.setSlc_frame (hs₀ := Part.tr (by decide) hs₀)
    | with_reducible refine Frame.iteFst ?_ ?_
    | dsimp only
    | split

theorem State.bind_out {ps₀ : List Part} {s₀ : State} (s : State) (t : ℕ) (w : BindWrite) (authorised : Bool) {y₀ z₀}
    (hs₀ : [.objects, .shadows, .energy, .compositor, .touch, .audio, .slices, .records, .out] ⊆ ps₀) (e₀ : State.bind s t w authorised = (z₀, y₀)) (h₀ : Frame ps₀ s₀ s) : Frame ps₀ s₀ z₀ := by
  have x₀ := State.bind_frame s t w authorised hs₀ h₀; rw [e₀] at x₀; exact x₀

theorem State.sliceResetEnd_frame {ps₀ : List Part} {s₀ : State} (s : State) (t : ℕ)
    (hs₀ : [.objects, .shadows, .energy, .compositor, .touch, .audio, .slices, .ports, .touchQueues, .records, .out] ⊆ ps₀) (h₀ : Frame ps₀ s₀ s) :
    Frame ps₀ s₀ (State.sliceResetEnd s t) := by
  unfold State.sliceResetEnd
  repeat' first
    | with_reducible assumption
    | with_reducible apply State.applyBind_frame (hs₀ := Part.tr (by decide) hs₀)
    | with_reducible apply State.wr_frame (hs₀ := Part.tr (by decide) hs₀)
    | with_reducible apply State.reholdAll_frame (hs₀ := Part.tr (by decide) hs₀)
    | with_reducible apply State.syncPorts_frame (hs₀ := Part.tr (by decide) hs₀)
    | with_reducible apply State.setSlc_frame (hs₀ := Part.tr (by decide) hs₀)
    | with_reducible apply State.sliceDefaults_frame (hs₀ := Part.tr (by decide) hs₀)
    | with_reducible apply State.syncSlice_frame (hs₀ := Part.tr (by decide) hs₀)
    | with_reducible refine Frame.ite ?_ ?_
    | with_reducible refine Frame.each (fun _ _ _ => ?_) ?_

theorem State.portSlices_frame {ps₀ : List Part} {s₀ : State} (s : State) (p : ℕ)
    (hs₀ : [.objects, .shadows, .texts, .results, .stations, .memory, .raster, .translator, .compositor, .touch, .haptic, .audio, .slices, .ports, .checks, .ingress, .touchQueues, .hapticQueues, .records, .pins, .timers, .out, .free] ⊆ ps₀) (h₀ : Frame ps₀ s₀ s) :
    Frame ps₀ s₀ (State.portSlices s p) := by
  unfold State.portSlices
  repeat' first
    | with_reducible assumption
    | with_reducible apply State.sliceReset_frame (hs₀ := Part.tr (by decide) hs₀)
    | with_reducible apply State.setPrt_frame (hs₀ := Part.tr (by decide) hs₀)
    | with_reducible apply State.setSlc_frame (hs₀ := Part.tr (by decide) hs₀)
    | with_reducible apply State.syncSlice_frame (hs₀ := Part.tr (by decide) hs₀)
    | with_reducible refine Frame.each (fun _ _ _ => ?_) ?_

theorem State.portLinkUp_frame {ps₀ : List Part} {s₀ : State} (s : State) (p : ℕ)
    (hs₀ : [.objects, .ports] ⊆ ps₀) (h₀ : Frame ps₀ s₀ s) :
    Frame ps₀ s₀ (State.portLinkUp s p) := by
  unfold State.portLinkUp
  repeat' first
    | with_reducible assumption
    | with_reducible apply State.setPrt_frame (hs₀ := Part.tr (by decide) hs₀)
    | with_reducible apply State.syncSlice_frame (hs₀ := Part.tr (by decide) hs₀)
    | with_reducible refine Frame.each (fun _ _ _ => ?_) ?_

theorem execQuarantineRelease_frame {ps₀ : List Part} {s₀ t₀ : State} (who : Requester) (t : Fin 512) (v : ℕ) (s : State)
    (hs₀ : [.objects, .slices, .records, .pins, .out] ⊆ ps₀) (e₀ : execQuarantineRelease who t v s = .next t₀) (h₀ : Frame ps₀ s₀ s) :
    Frame ps₀ s₀ t₀ := by
  unfold execQuarantineRelease at e₀
  cases e₀
  repeat' first
    | with_reducible assumption
    | with_reducible apply State.answer_frame (hs₀ := Part.tr (by decide) hs₀)
    | with_reducible apply State.onWrite_frame (hs₀ := Part.tr (by decide) hs₀)
    | with_reducible apply State.clearAlarm_frame (hs₀ := Part.tr (by decide) hs₀)
    | with_reducible apply State.setSlc_frame (hs₀ := Part.tr (by decide) hs₀)
    | with_reducible apply State.fetchFor_frame (hs₀ := Part.tr (by decide) hs₀)
    | with_reducible apply State.syncSlice_frame (hs₀ := Part.tr (by decide) hs₀)
    | with_reducible refine Frame.ite ?_ ?_
    | with_reducible intro _

theorem execRightsWrite_frame {ps₀ : List Part} {s₀ t₀ : State} (who : Requester) (t : Fin 512) (n : Fin 8) (which : Fin 5) (v : ℕ) (s : State)
    (hs₀ : [.objects, .shadows, .energy, .compositor, .touch, .audio, .slices, .records, .pins, .out] ⊆ ps₀) (e₀ : execRightsWrite who t n which v s = .next t₀) (h₀ : Frame ps₀ s₀ s) :
    Frame ps₀ s₀ t₀ := by
  unfold execRightsWrite at e₀
  cases e₀
  repeat' first
    | with_reducible assumption
    | with_reducible apply State.bind_frame (hs₀ := Part.tr (by decide) hs₀)
    | with_reducible apply State.answer_frame (hs₀ := Part.tr (by decide) hs₀)
    | with_reducible apply State.onWrite_frame (hs₀ := Part.tr (by decide) hs₀)
    | with_reducible intro _

theorem execWindowWrite_frame {ps₀ : List Part} {s₀ t₀ : State} (who : Requester) (t : Fin 512) (n : Fin 8) (w : Fin 16) (v : ℕ) (s : State)
    (hs₀ : [.objects, .shadows, .energy, .compositor, .touch, .audio, .slices, .records, .pins, .out] ⊆ ps₀) (e₀ : execWindowWrite who t n w v s = .next t₀) (h₀ : Frame ps₀ s₀ s) :
    Frame ps₀ s₀ t₀ := by
  unfold execWindowWrite at e₀
  cases e₀
  repeat' first
    | with_reducible assumption
    | with_reducible apply State.bind_frame (hs₀ := Part.tr (by decide) hs₀)
    | with_reducible apply State.answer_frame (hs₀ := Part.tr (by decide) hs₀)
    | with_reducible apply State.onWrite_frame (hs₀ := Part.tr (by decide) hs₀)
    | with_reducible intro _

theorem execSliceResetDone_frame {ps₀ : List Part} {s₀ t₀ : State} (t : Fin 512) (s : State)
    (hs₀ : [.objects, .shadows, .energy, .compositor, .touch, .audio, .slices, .ports, .touchQueues, .records, .out] ⊆ ps₀) (e₀ : execSliceResetDone t s = .next t₀) (h₀ : Frame ps₀ s₀ s) :
    Frame ps₀ s₀ t₀ := by
  unfold execSliceResetDone at e₀
  cases e₀
  repeat' first
    | with_reducible assumption
    | with_reducible apply State.sliceResetEnd_frame (hs₀ := Part.tr (by decide) hs₀)
    | with_reducible refine Frame.ite ?_ ?_

/-! ### Machine/UpdateCore.lean -/

theorem State.setUpd_frame {ps₀ : List Part} {s₀ : State} (s : State) (v : Update)
    (hs₀ : [.update] ⊆ ps₀) (h₀ : Frame ps₀ s₀ s) :
    Frame ps₀ s₀ (State.setUpd s v) := by
  unfold State.setUpd
  repeat' first
    | with_reducible assumption
    | (conv => arg 3; arg 50); with_reducible refine Frame.set_upd (Part.lift hs₀ (by decide)) ?_

theorem State.syncStep_frame {ps₀ : List Part} {s₀ : State} (s : State)
    (hs₀ : [.objects] ⊆ ps₀) (h₀ : Frame ps₀ s₀ s) :
    Frame ps₀ s₀ (State.syncStep s) := by
  unfold State.syncStep
  repeat' first
    | with_reducible assumption
    | with_reducible apply State.wr_frame (hs₀ := Part.tr (by decide) hs₀)

theorem State.failUpdate_frame {ps₀ : List Part} {s₀ : State} (s : State) (code : ℕ)
    (hs₀ : [.objects, .update] ⊆ ps₀) (h₀ : Frame ps₀ s₀ s) :
    Frame ps₀ s₀ (State.failUpdate s code) := by
  unfold State.failUpdate
  repeat' first
    | with_reducible assumption
    | with_reducible apply State.syncStep_frame (hs₀ := Part.tr (by decide) hs₀)
    | with_reducible apply State.wr_frame (hs₀ := Part.tr (by decide) hs₀)
    | with_reducible apply State.setUpd_frame (hs₀ := Part.tr (by decide) hs₀)
    | with_reducible refine Frame.ite ?_ ?_

theorem State.updateMgmtReset_frame {ps₀ : List Part} {s₀ : State} (s : State)
    (hs₀ : [.update] ⊆ ps₀) (h₀ : Frame ps₀ s₀ s) :
    Frame ps₀ s₀ (State.updateMgmtReset s) := by
  unfold State.updateMgmtReset
  repeat' first
    | with_reducible assumption
    | with_reducible apply State.setUpd_frame (hs₀ := Part.tr (by decide) hs₀)

theorem State.updateWide_frame {ps₀ : List Part} {s₀ : State} (s : State)
    (hs₀ : [.objects, .update] ⊆ ps₀) (h₀ : Frame ps₀ s₀ s) :
    Frame ps₀ s₀ (State.updateWide s) := by
  unfold State.updateWide
  repeat' first
    | with_reducible assumption
    | with_reducible apply State.syncStep_frame (hs₀ := Part.tr (by decide) hs₀)
    | with_reducible apply State.setUpd_frame (hs₀ := Part.tr (by decide) hs₀)
    | with_reducible refine Frame.ite ?_ ?_
    | dsimp only
    | split

end Sys2Proof.Machine
end

