-- ==== Sys2Proof/Laws/FrameDevice.lean ====
section
/-! SUPPORT. Which parts of the state the functions of resets, bring-up, host ports, settings and updates leave alone. -/
namespace Sys2Proof.Machine

/-! ### Machine/Reset.lean -/

theorem State.hwClear_frame {ps₀ : List Part} {s₀ : State} (s : State) (bs : List ℕ)
    (hs₀ : [.objects] ⊆ ps₀) (h₀ : Frame ps₀ s₀ s) :
    Frame ps₀ s₀ (State.hwClear s bs) := by
  unfold State.hwClear
  repeat' first
    | with_reducible assumption
    | with_reducible apply State.hwReady_frame (hs₀ := Part.tr (by decide) hs₀)
    | with_reducible refine Frame.each (fun _ _ _ => ?_) ?_

theorem State.syncRole_frame {ps₀ : List Part} {s₀ : State} (s : State)
    (hs₀ : [.objects, .records, .pins, .out] ⊆ ps₀) (h₀ : Frame ps₀ s₀ s) :
    Frame ps₀ s₀ (State.syncRole s) := by
  unfold State.syncRole
  repeat' first
    | with_reducible assumption
    | with_reducible apply State.wr_frame (hs₀ := Part.tr (by decide) hs₀)
    | with_reducible apply State.alarm_frame (hs₀ := Part.tr (by decide) hs₀)
    | with_reducible refine Frame.ite ?_ ?_

theorem State.mgmtDown_frame {ps₀ : List Part} {s₀ : State} (s : State)
    (hs₀ : [.objects, .shadows, .texts, .transfers, .results, .network, .update, .translator, .checks, .records] ⊆ ps₀) (h₀ : Frame ps₀ s₀ s) :
    Frame ps₀ s₀ (State.mgmtDown s) := by
  unfold State.mgmtDown
  repeat' first
    | with_reducible assumption
    | with_reducible apply State.zeroMeasurement_frame (hs₀ := Part.tr (by decide) hs₀)
    | with_reducible apply State.wr_frame (hs₀ := Part.tr (by decide) hs₀)
    | with_reducible apply State.toDefault_frame (hs₀ := Part.tr (by decide) hs₀)
    | with_reducible apply State.clearObjects_frame (hs₀ := Part.tr (by decide) hs₀)
    | with_reducible apply State.updateMgmtReset_frame (hs₀ := Part.tr (by decide) hs₀)
    | with_reducible apply State.cvReset_frame (hs₀ := Part.tr (by decide) hs₀)
    | with_reducible apply State.translatorReset_frame (hs₀ := Part.tr (by decide) hs₀)
    | with_reducible apply State.hwClear_frame (hs₀ := Part.tr (by decide) hs₀)
    | (conv => arg 3; arg 50); with_reducible refine Frame.set_staging_settings_snapshots_subscriptions_net_hwLogQ_alarmQ_alarms_logRings_peerLevel (Part.lift hs₀ (by decide)) (Part.lift hs₀ (by decide)) (Part.lift hs₀ (by decide)) (Part.lift hs₀ (by decide)) ?_
    | with_reducible refine Frame.each (fun _ _ _ => ?_) ?_

theorem State.portDown_frame {ps₀ : List Part} {s₀ : State} (s : State) (p : ℕ)
    (hs₀ : [.objects, .shadows, .texts, .results, .stations, .memory, .raster, .translator, .compositor, .touch, .haptic, .audio, .slices, .ports, .checks, .ingress, .touchQueues, .hapticQueues, .records, .pins, .timers, .crossings, .out, .free] ⊆ ps₀) (h₀ : Frame ps₀ s₀ s) :
    Frame ps₀ s₀ (State.portDown s p) := by
  unfold State.portDown
  repeat' first
    | with_reducible assumption
    | with_reducible apply State.dropCrossings_frame (hs₀ := Part.tr (by decide) hs₀)
    | with_reducible apply State.wr_frame (hs₀ := Part.tr (by decide) hs₀)
    | with_reducible apply State.setPrt_frame (hs₀ := Part.tr (by decide) hs₀)
    | with_reducible apply State.hwReady_frame (hs₀ := Part.tr (by decide) hs₀)
    | with_reducible apply State.portSlices_frame (hs₀ := Part.tr (by decide) hs₀)

theorem State.coreDown_frame {ps₀ : List Part} {s₀ : State} (s : State) (n : ℕ)
    (hs₀ : [.objects, .stations, .crossings] ⊆ ps₀) (h₀ : Frame ps₀ s₀ s) :
    Frame ps₀ s₀ (State.coreDown s n) := by
  unfold State.coreDown
  repeat' first
    | with_reducible assumption
    | with_reducible apply State.stReady_frame (hs₀ := Part.tr (by decide) hs₀)
    | with_reducible apply State.dropCrossings_frame (hs₀ := Part.tr (by decide) hs₀)
    | with_reducible apply State.setCtl_frame (hs₀ := Part.tr (by decide) hs₀)

theorem State.stationDown_frame {ps₀ : List Part} {s₀ : State} (s : State) (n : ℕ) (reinit : Bool)
    (hs₀ : [.objects, .shadows, .texts, .transfers, .results, .stations, .memory, .raster, .translator, .energy, .memctl, .compositor, .guard, .display, .touch, .haptic, .audio, .slices, .checks, .ingress, .hapticQueues, .records, .pins, .timers, .crossings, .out, .free] ⊆ ps₀) (h₀ : Frame ps₀ s₀ s) :
    Frame ps₀ s₀ (State.stationDown s n reinit) := by
  unfold State.stationDown
  repeat' first
    | with_reducible assumption
    | with_reducible apply State.functionDefaults_frame (hs₀ := Part.tr (by decide) hs₀)
    | with_reducible apply State.hapticReset_frame (hs₀ := Part.tr (by decide) hs₀)
    | with_reducible apply State.loseMemory_frame (hs₀ := Part.tr (by decide) hs₀)
    | with_reducible apply State.coreDown_frame (hs₀ := Part.tr (by decide) hs₀)
    | with_reducible apply State.audioReset_frame (hs₀ := Part.tr (by decide) hs₀)
    | with_reducible apply State.enterStarting_frame (hs₀ := Part.tr (by decide) hs₀)
    | with_reducible apply State.setMem_frame (hs₀ := Part.tr (by decide) hs₀)
    | with_reducible apply State.functionsReset_frame (hs₀ := Part.tr (by decide) hs₀)
    | with_reducible apply State.memoryStationReset_frame (hs₀ := Part.tr (by decide) hs₀)
    | with_reducible apply State.setMmc_frame (hs₀ := Part.tr (by decide) hs₀)
    | with_reducible apply State.releaseMemory_frame (hs₀ := Part.tr (by decide) hs₀)
    | with_reducible refine Frame.ite ?_ ?_

theorem State.tellBlocksReset_frame {ps₀ : List Part} {s₀ : State} (s : State) (n : ℕ)
    (hs₀ : [.objects, .records] ⊆ ps₀) (h₀ : Frame ps₀ s₀ s) :
    Frame ps₀ s₀ (State.tellBlocksReset s n) := by
  unfold State.tellBlocksReset
  repeat' first
    | with_reducible assumption
    | with_reducible apply State.toEnclave_frame (hs₀ := Part.tr (by decide) hs₀)
    | with_reducible refine Frame.each (fun _ _ _ => ?_) ?_

theorem State.stationWarm_frame {ps₀ : List Part} {s₀ : State} (s : State) (n : ℕ)
    (hs₀ : [.objects, .shadows, .texts, .transfers, .results, .stations, .memory, .raster, .translator, .energy, .memctl, .compositor, .guard, .display, .touch, .haptic, .audio, .slices, .checks, .ingress, .hapticQueues, .records, .pins, .timers, .crossings, .out, .free] ⊆ ps₀) (h₀ : Frame ps₀ s₀ s) :
    Frame ps₀ s₀ (State.stationWarm s n) := by
  unfold State.stationWarm
  repeat' first
    | with_reducible assumption
    | with_reducible apply State.loseMemory_frame (hs₀ := Part.tr (by decide) hs₀)
    | with_reducible apply State.coreDown_frame (hs₀ := Part.tr (by decide) hs₀)
    | with_reducible apply State.enterStarting_frame (hs₀ := Part.tr (by decide) hs₀)
    | with_reducible apply State.stationDown_frame (hs₀ := Part.tr (by decide) hs₀)
    | with_reducible apply State.functionsReset_frame (hs₀ := Part.tr (by decide) hs₀)
    | with_reducible apply State.releaseMemory_frame (hs₀ := Part.tr (by decide) hs₀)
    | with_reducible refine Frame.ite ?_ ?_

theorem State.warmDown_frame {ps₀ : List Part} {s₀ : State} (s : State)
    (hs₀ : [.objects, .shadows, .texts, .transfers, .results, .resets, .stations, .locks, .memory, .keys, .secure, .network, .update, .raster, .translator, .energy, .memctl, .compositor, .guard, .display, .touch, .haptic, .audio, .slices, .ports, .checks, .ingress, .touchQueues, .hapticQueues, .records, .pins, .timers, .crossings, .out, .free] ⊆ ps₀) (h₀ : Frame ps₀ s₀ s) :
    Frame ps₀ s₀ (State.warmDown s) := by
  unfold State.warmDown
  repeat' first
    | with_reducible assumption
    | with_reducible apply State.syncSecure_frame (hs₀ := Part.tr (by decide) hs₀)
    | with_reducible apply State.updateWide_frame (hs₀ := Part.tr (by decide) hs₀)
    | with_reducible apply State.stationWarm_frame (hs₀ := Part.tr (by decide) hs₀)
    | with_reducible apply State.portDown_frame (hs₀ := Part.tr (by decide) hs₀)
    | with_reducible apply State.secureDown_frame (hs₀ := Part.tr (by decide) hs₀)
    | with_reducible apply State.mgmtDown_frame (hs₀ := Part.tr (by decide) hs₀)
    | with_reducible apply State.wr_frame (hs₀ := Part.tr (by decide) hs₀)
    | with_reducible apply State.clearObjects_frame (hs₀ := Part.tr (by decide) hs₀)
    | with_reducible apply State.syncZones_frame (hs₀ := Part.tr (by decide) hs₀)
    | with_reducible apply State.hwClear_frame (hs₀ := Part.tr (by decide) hs₀)
    | (conv => arg 3; arg 50); with_reducible refine Frame.set_rst (Part.lift hs₀ (by decide)) ?_
    | (conv => arg 3; arg 50); with_reducible refine Frame.set_settings_translator_slices_ports_touchQ_noteQ (Part.lift hs₀ (by decide)) (Part.lift hs₀ (by decide)) (Part.lift hs₀ (by decide)) (Part.lift hs₀ (by decide)) (Part.lift hs₀ (by decide)) (Part.lift hs₀ (by decide)) ?_
    | (conv => arg 3; arg 50); with_reducible refine Frame.set_locks_encKey_sec_encTouchQ_encNoteQ (Part.lift hs₀ (by decide)) (Part.lift hs₀ (by decide)) (Part.lift hs₀ (by decide)) (Part.lift hs₀ (by decide)) (Part.lift hs₀ (by decide)) ?_
    | with_reducible refine Frame.each (fun _ _ _ => ?_) ?_

theorem State.coldDown_frame {ps₀ : List Part} {s₀ : State} (s : State)
    (hs₀ : Part.allButQueue ⊆ ps₀) (h₀ : Frame ps₀ s₀ s) : Frame ps₀ s₀ (State.coldDown s) := by
  unfold State.coldDown
  have x := State.updateWide_frame s (Part.tr (by decide) hs₀) h₀
  apply State.wr_frame (hs₀ := Part.tr (by decide) hs₀)
  apply State.wr_frame (hs₀ := Part.tr (by decide) hs₀)
  apply State.wr_frame (hs₀ := Part.tr (by decide) hs₀)
  apply State.wr_frame (hs₀ := Part.tr (by decide) hs₀)
  apply State.wrB_frame (hs₀ := Part.tr (by decide) hs₀)
  intro q hq
  cases q <;> first | exact absurd (Part.lift hs₀ (by decide)) hq | exact x _ hq

theorem State.applyReset_frame {ps₀ : List Part} {s₀ : State} (s : State) (r : ResetReq)
    (hs₀ : Part.allButQueue ⊆ ps₀) (h₀ : Frame ps₀ s₀ s) :
    Frame ps₀ s₀ (State.applyReset s r) := by
  unfold State.applyReset
  repeat' first
    | with_reducible assumption
    | with_reducible apply State.sliceReset_frame (hs₀ := Part.tr (by decide) hs₀)
    | with_reducible apply State.portDown_frame (hs₀ := Part.tr (by decide) hs₀)
    | with_reducible apply State.coreDown_frame (hs₀ := Part.tr (by decide) hs₀)
    | with_reducible apply State.mgmtDown_frame (hs₀ := Part.tr (by decide) hs₀)
    | with_reducible apply State.warmDown_frame (hs₀ := Part.tr (by decide) hs₀)
    | with_reducible apply State.tellBlocksReset_frame (hs₀ := Part.tr (by decide) hs₀)
    | with_reducible apply State.stationDown_frame (hs₀ := Part.tr (by decide) hs₀)
    | with_reducible apply State.secRestart_frame (hs₀ := Part.tr (by decide) hs₀)
    | with_reducible apply State.wakePin_frame (hs₀ := Part.tr (by decide) hs₀)
    | with_reducible apply State.count_frame (hs₀ := Part.tr (by decide) hs₀)
    | with_reducible apply State.pinsReset_frame (hs₀ := Part.tr (by decide) hs₀)
    | with_reducible apply State.coldDown_frame (hs₀ := Part.tr (by decide) hs₀)
    | (conv => arg 3; arg 50); with_reducible refine Frame.set_rst (Part.lift hs₀ (by decide)) ?_
    | with_reducible refine Frame.ite ?_ ?_
    | with_reducible refine Frame.each (fun _ _ _ => ?_) ?_
    | dsimp only
    | split

theorem State.recordCause_frame {ps₀ : List Part} {s₀ : State} (s : State) (l : List ResetReq) (held : Bool)
    (hs₀ : [.objects] ⊆ ps₀) (h₀ : Frame ps₀ s₀ s) :
    Frame ps₀ s₀ (State.recordCause s l held) := by
  unfold State.recordCause
  repeat' first
    | with_reducible assumption
    | with_reducible apply State.wr_frame (hs₀ := Part.tr (by decide) hs₀)
    | with_reducible refine Frame.ite ?_ ?_
    | dsimp only
    | split

theorem State.breakRelease_frame {ps₀ : List Part} {s₀ : State} (s : State)
    (hs₀ : [.resets] ⊆ ps₀) (h₀ : Frame ps₀ s₀ s) :
    Frame ps₀ s₀ (State.breakRelease s) := by
  unfold State.breakRelease
  repeat' first
    | with_reducible assumption
    | (conv => arg 3; arg 50); with_reducible refine Frame.set_rst (Part.lift hs₀ (by decide)) ?_
    | dsimp only

theorem State.applyAll_frame {ps₀ : List Part} {s₀ : State} (s : State) (l : List ResetReq) (held : Bool)
    (hs₀ : Part.allButQueue ⊆ ps₀) (h₀ : Frame ps₀ s₀ s) :
    Frame ps₀ s₀ (State.applyAll s l held) := by
  unfold State.applyAll
  repeat' first
    | with_reducible assumption
    | with_reducible apply State.breakRelease_frame (hs₀ := Part.tr (by decide) hs₀)
    | with_reducible apply State.applyReset_frame (hs₀ := Part.tr (by decide) hs₀)
    | with_reducible apply State.recordCause_frame (hs₀ := Part.tr (by decide) hs₀)
    | (conv => arg 3; arg 50); with_reducible refine Frame.set_rst (Part.lift hs₀ (by decide)) ?_
    | with_reducible refine Frame.ite ?_ ?_
    | with_reducible refine Frame.each (fun _ _ _ => ?_) ?_

theorem State.cutPulse_frame {ps₀ : List Part} {s₀ : State} (s : State)
    (hs₀ : [.objects, .resets, .update, .free] ⊆ ps₀) (h₀ : Frame ps₀ s₀ s) :
    Frame ps₀ s₀ (State.cutPulse s) := by
  unfold State.cutPulse
  repeat' first
    | with_reducible assumption
    | with_reducible apply State.drawNat_frame (hs₀ := Part.tr (by decide) hs₀)
    | with_reducible apply State.wr_frame (hs₀ := Part.tr (by decide) hs₀)
    | with_reducible apply State.setUpd_frame (hs₀ := Part.tr (by decide) hs₀)
    | (conv => arg 3; arg 50); with_reducible refine Frame.set_rst (Part.lift hs₀ (by decide)) ?_
    | with_reducible refine Frame.ite ?_ ?_
    | with_reducible refine Frame.each (fun _ _ _ => ?_) ?_
    | dsimp only

theorem State.assertReset_frame {ps₀ : List Part} {s₀ : State} (s : State) (r : ResetReq)
    (hs₀ : Part.allButQueue ⊆ ps₀) (h₀ : Frame ps₀ s₀ s) :
    Frame ps₀ s₀ (State.assertReset s r) := by
  unfold State.assertReset
  repeat' first
    | with_reducible assumption
    | with_reducible apply State.cutPulse_frame (hs₀ := Part.tr (by decide) hs₀)
    | with_reducible apply State.applyAll_frame (hs₀ := Part.tr (by decide) hs₀)
    | with_reducible apply State.count_frame (hs₀ := Part.tr (by decide) hs₀)
    | with_reducible apply State.emit_frame (hs₀ := Part.tr (by decide) hs₀)
    | (conv => arg 3; arg 50); with_reducible refine Frame.set_rst (Part.lift hs₀ (by decide)) ?_
    | with_reducible refine Frame.ite ?_ ?_
    | dsimp only

theorem State.assertEvent_frame {ps₀ : List Part} {s₀ : State} (s : State) (k : CrossKey) (r : ResetReq)
    (hs₀ : Part.allButQueue ⊆ ps₀) (h₀ : Frame ps₀ s₀ s) :
    Frame ps₀ s₀ (State.assertEvent s k r) := by
  unfold State.assertEvent
  repeat' first
    | with_reducible assumption
    | refine State.cross_out (hs₀ := Part.tr (by decide) hs₀) (e₀ := by with_reducible assumption) (h₀ := ?_)
    | with_reducible apply State.assertReset_frame (hs₀ := Part.tr (by decide) hs₀)
    | with_reducible apply State.count_frame (hs₀ := Part.tr (by decide) hs₀)
    | split

theorem execHeldResetApply_frame {ps₀ : List Part} {s₀ t₀ : State} (s : State)
    (hs₀ : Part.allButQueue ⊆ ps₀) (e₀ : execHeldResetApply s = .next t₀) (h₀ : Frame ps₀ s₀ s) :
    Frame ps₀ s₀ t₀ := by
  unfold execHeldResetApply at e₀
  cases e₀
  repeat' first
    | with_reducible assumption
    | with_reducible apply State.applyAll_frame (hs₀ := Part.tr (by decide) hs₀)
    | (conv => arg 3; arg 50); with_reducible refine Frame.set_rst (Part.lift hs₀ (by decide)) ?_
    | with_reducible refine Frame.ite ?_ ?_

theorem execEraseSuspendDone_frame {ps₀ : List Part} {s₀ t₀ : State} (s : State)
    (hs₀ : Part.allButQueue ⊆ ps₀) (e₀ : execEraseSuspendDone s = .next t₀) (h₀ : Frame ps₀ s₀ s) :
    Frame ps₀ s₀ t₀ := by
  unfold execEraseSuspendDone at e₀
  cases e₀
  repeat' first
    | with_reducible assumption
    | with_reducible apply State.wr_frame (hs₀ := Part.tr (by decide) hs₀)
    | with_reducible apply State.applyAll_frame (hs₀ := Part.tr (by decide) hs₀)
    | (conv => arg 3; arg 50); with_reducible refine Frame.set_rst (Part.lift hs₀ (by decide)) ?_
    | dsimp only
    | split

theorem execEraseResume_frame {ps₀ : List Part} {s₀ t₀ : State} (s : State)
    (hs₀ : [.objects, .resets, .out] ⊆ ps₀) (e₀ : execEraseResume s = .next t₀) (h₀ : Frame ps₀ s₀ s) :
    Frame ps₀ s₀ t₀ := by
  unfold execEraseResume at e₀
  cases e₀
  repeat' first
    | with_reducible assumption
    | with_reducible apply State.wr_frame (hs₀ := Part.tr (by decide) hs₀)
    | with_reducible apply State.firmware_frame (hs₀ := Part.tr (by decide) hs₀)
    | with_reducible apply State.emit_frame (hs₀ := Part.tr (by decide) hs₀)
    | (conv => arg 3; arg 50); with_reducible refine Frame.set_rst (Part.lift hs₀ (by decide)) ?_
    | with_reducible refine Frame.ite ?_ ?_
    | with_reducible intro _

theorem State.assertLevel_frame {ps₀ : List Part} {s₀ : State} (s : State) (k : ℕ) (target : Option ℕ)
    (hs₀ : Part.allButQueue ⊆ ps₀) (h₀ : Frame ps₀ s₀ s) :
    Frame ps₀ s₀ (State.assertLevel s k target) := by
  unfold State.assertLevel
  repeat' first
    | with_reducible assumption
    | with_reducible apply State.assertReset_frame (hs₀ := Part.tr (by decide) hs₀)
    | (conv => arg 3; arg 50); with_reducible refine Frame.set_rst (Part.lift hs₀ (by decide)) ?_
    | with_reducible refine Frame.ite ?_ ?_

theorem State.releaseLevel_frame {ps₀ : List Part} {s₀ : State} (s : State) (k : ℕ)
    (hs₀ : [.resets] ⊆ ps₀) (h₀ : Frame ps₀ s₀ s) :
    Frame ps₀ s₀ (State.releaseLevel s k) := by
  unfold State.releaseLevel
  repeat' first
    | with_reducible assumption
    | (conv => arg 3; arg 50); with_reducible refine Frame.set_rst (Part.lift hs₀ (by decide)) ?_

theorem State.syncBrownOut_frame {ps₀ : List Part} {s₀ : State} (s : State)
    (hs₀ : Part.allButQueue ⊆ ps₀) (h₀ : Frame ps₀ s₀ s) :
    Frame ps₀ s₀ (State.syncBrownOut s) := by
  unfold State.syncBrownOut
  repeat' first
    | with_reducible assumption
    | with_reducible apply State.assertLevel_frame (hs₀ := Part.tr (by decide) hs₀)
    | with_reducible apply State.releaseLevel_frame (hs₀ := Part.tr (by decide) hs₀)
    | with_reducible refine Frame.ite ?_ ?_

theorem execVaonLost_frame {ps₀ : List Part} {s₀ t₀ : State} (s : State)
    (hs₀ : Part.allButQueue ⊆ ps₀) (e₀ : execVaonLost s = .next t₀) (h₀ : Frame ps₀ s₀ s) :
    Frame ps₀ s₀ t₀ := by
  unfold execVaonLost at e₀
  cases e₀
  repeat' first
    | with_reducible assumption
    | with_reducible apply State.cutPulse_frame (hs₀ := Part.tr (by decide) hs₀)
    | with_reducible apply State.coldDown_frame (hs₀ := Part.tr (by decide) hs₀)
    | (conv => arg 3; arg 50); with_reducible refine Frame.set_powered_rst_pins (Part.lift hs₀ (by decide)) (Part.lift hs₀ (by decide)) (Part.lift hs₀ (by decide)) ?_
    | dsimp only

theorem execVaonGood_frame {ps₀ : List Part} {s₀ t₀ : State} (s : State)
    (hs₀ : Part.allButQueue ⊆ ps₀) (e₀ : execVaonGood s = .next t₀) (h₀ : Frame ps₀ s₀ s) :
    Frame ps₀ s₀ t₀ := by
  unfold execVaonGood at e₀
  cases e₀
  repeat' first
    | with_reducible assumption
    | with_reducible apply State.pin_frame (hs₀ := Part.tr (by decide) hs₀)
    | with_reducible apply State.pinsReset_frame (hs₀ := Part.tr (by decide) hs₀)
    | with_reducible apply State.coldDown_frame (hs₀ := Part.tr (by decide) hs₀)
    | (conv => arg 3; arg 50); with_reducible refine Frame.set_powered_rst (Part.lift hs₀ (by decide)) (Part.lift hs₀ (by decide)) ?_
    | with_reducible refine Frame.ite ?_ ?_
    | with_reducible refine Frame.each (fun _ _ _ => ?_) ?_

theorem execPorstNLevel_frame {ps₀ : List Part} {s₀ t₀ : State} (high : Bool) (s : State)
    (hs₀ : Part.allButQueue ⊆ ps₀) (e₀ : execPorstNLevel high s = .next t₀) (h₀ : Frame ps₀ s₀ s) :
    Frame ps₀ s₀ t₀ := by
  unfold execPorstNLevel at e₀
  cases e₀
  repeat' first
    | with_reducible assumption
    | with_reducible apply State.assertLevel_frame (hs₀ := Part.tr (by decide) hs₀)
    | with_reducible apply State.releaseLevel_frame (hs₀ := Part.tr (by decide) hs₀)
    | (conv => arg 3; arg 50); with_reducible refine Frame.set_powered (Part.lift hs₀ (by decide)) ?_
    | with_reducible refine Frame.ite ?_ ?_

theorem execResetNLevel_frame {ps₀ : List Part} {s₀ t₀ : State} (high : Bool) (s : State)
    (hs₀ : Part.allButQueue ⊆ ps₀) (e₀ : execResetNLevel high s = .next t₀) (h₀ : Frame ps₀ s₀ s) :
    Frame ps₀ s₀ t₀ := by
  unfold execResetNLevel at e₀
  cases e₀
  repeat' first
    | with_reducible assumption
    | with_reducible apply State.assertLevel_frame (hs₀ := Part.tr (by decide) hs₀)
    | with_reducible apply State.releaseLevel_frame (hs₀ := Part.tr (by decide) hs₀)
    | with_reducible refine Frame.ite ?_ ?_

theorem execBrownOut_frame {ps₀ : List Part} {s₀ t₀ : State} (vbulk : ℕ) (vio18 : ℕ) (vio33 : ℕ) (s : State)
    (hs₀ : Part.allButQueue ⊆ ps₀) (e₀ : execBrownOut vbulk vio18 vio33 s = .next t₀) (h₀ : Frame ps₀ s₀ s) :
    Frame ps₀ s₀ t₀ := by
  unfold execBrownOut at e₀
  cases e₀
  repeat' first
    | with_reducible assumption
    | with_reducible apply State.syncBrownOut_frame (hs₀ := Part.tr (by decide) hs₀)
    | (conv => arg 3; arg 50); with_reducible refine Frame.set_rst (Part.lift hs₀ (by decide)) ?_
    | with_reducible refine Frame.ite ?_ ?_

theorem execThermalTrip_frame {ps₀ : List Part} {s₀ t₀ : State} (sensors : List ℤ) (s : State)
    (hs₀ : Part.allButQueue ⊆ ps₀) (e₀ : execThermalTrip sensors s = .next t₀) (h₀ : Frame ps₀ s₀ s) :
    Frame ps₀ s₀ t₀ := by
  unfold execThermalTrip at e₀
  cases e₀
  repeat' first
    | with_reducible assumption
    | with_reducible apply State.assertLevel_frame (hs₀ := Part.tr (by decide) hs₀)
    | with_reducible apply State.releaseLevel_frame (hs₀ := Part.tr (by decide) hs₀)
    | with_reducible refine Frame.ite ?_ ?_

theorem execReferenceLost_frame {ps₀ : List Part} {s₀ t₀ : State} (lost : Bool) (s : State)
    (hs₀ : Part.allButQueue ⊆ ps₀) (e₀ : execReferenceLost lost s = .next t₀) (h₀ : Frame ps₀ s₀ s) :
    Frame ps₀ s₀ t₀ := by
  unfold execReferenceLost at e₀
  cases e₀
  repeat' first
    | with_reducible assumption
    | with_reducible apply State.syncBrownOut_frame (hs₀ := Part.tr (by decide) hs₀)
    | (conv => arg 3; arg 50); with_reducible refine Frame.set_rst (Part.lift hs₀ (by decide)) ?_

theorem execMgmtWatchdogExpiry_frame {ps₀ : List Part} {s₀ t₀ : State} (s : State)
    (hs₀ : Part.allButQueue ⊆ ps₀) (e₀ : execMgmtWatchdogExpiry s = .next t₀) (h₀ : Frame ps₀ s₀ s) :
    Frame ps₀ s₀ t₀ := by
  unfold execMgmtWatchdogExpiry at e₀
  cases e₀
  repeat' first
    | with_reducible assumption
    | with_reducible apply State.assertEvent_frame (hs₀ := Part.tr (by decide) hs₀)
    | with_reducible apply State.failUpdate_frame (hs₀ := Part.tr (by decide) hs₀)
    | with_reducible apply State.setUpd_frame (hs₀ := Part.tr (by decide) hs₀)
    | with_reducible refine Frame.ite ?_ ?_

theorem execStationWatchdogExpiry_frame {ps₀ : List Part} {s₀ t₀ : State} (n : Fin 8) (s : State)
    (hs₀ : Part.allButQueue ⊆ ps₀) (e₀ : execStationWatchdogExpiry n s = .next t₀) (h₀ : Frame ps₀ s₀ s) :
    Frame ps₀ s₀ t₀ := by
  unfold execStationWatchdogExpiry at e₀
  cases e₀
  repeat' first
    | with_reducible assumption
    | with_reducible apply State.failUpdate_frame (hs₀ := Part.tr (by decide) hs₀)
    | with_reducible apply State.assertReset_frame (hs₀ := Part.tr (by decide) hs₀)
    | with_reducible apply State.setUpd_frame (hs₀ := Part.tr (by decide) hs₀)
    | with_reducible refine Frame.ite ?_ ?_

theorem execSecureWatchdogExpiry_frame {ps₀ : List Part} {s₀ t₀ : State} (s : State)
    (hs₀ : Part.allButQueue ⊆ ps₀) (e₀ : execSecureWatchdogExpiry s = .next t₀) (h₀ : Frame ps₀ s₀ s) :
    Frame ps₀ s₀ t₀ := by
  unfold execSecureWatchdogExpiry at e₀
  cases e₀
  repeat' first
    | with_reducible assumption
    | with_reducible apply State.assertEvent_frame (hs₀ := Part.tr (by decide) hs₀)
    | with_reducible apply State.wr_frame (hs₀ := Part.tr (by decide) hs₀)
    | (conv => arg 3; arg 50); with_reducible refine Frame.set_sec (Part.lift hs₀ (by decide)) ?_
    | with_reducible refine Frame.ite ?_ ?_

theorem State.askReset_frame {ps₀ : List Part} {s₀ : State} (s : State) (who : Requester) (reach : ℕ) (target : ℕ)
    (hs₀ : [.objects, .resets, .slices, .records, .pins, .out] ⊆ ps₀) (h₀ : Frame ps₀ s₀ s) :
    Frame ps₀ s₀ (State.askReset s who reach target) := by
  unfold State.askReset
  repeat' first
    | with_reducible assumption
    | with_reducible apply State.answer_frame (hs₀ := Part.tr (by decide) hs₀)
    | with_reducible apply State.onWrite_frame (hs₀ := Part.tr (by decide) hs₀)
    | (conv => arg 3; arg 50); with_reducible refine Frame.set_rst (Part.lift hs₀ (by decide)) ?_
    | with_reducible intro _

theorem execResetRequestCold_frame {ps₀ : List Part} {s₀ t₀ : State} (who : Requester) (s : State)
    (hs₀ : [.objects, .resets, .slices, .records, .pins, .out] ⊆ ps₀) (e₀ : execResetRequestCold who s = .next t₀) (h₀ : Frame ps₀ s₀ s) :
    Frame ps₀ s₀ t₀ := by
  unfold execResetRequestCold at e₀
  cases e₀
  repeat' first
    | with_reducible assumption
    | with_reducible apply State.askReset_frame (hs₀ := Part.tr (by decide) hs₀)

theorem execResetRequestWarm_frame {ps₀ : List Part} {s₀ t₀ : State} (who : Requester) (s : State)
    (hs₀ : [.objects, .resets, .slices, .records, .pins, .out] ⊆ ps₀) (e₀ : execResetRequestWarm who s = .next t₀) (h₀ : Frame ps₀ s₀ s) :
    Frame ps₀ s₀ t₀ := by
  unfold execResetRequestWarm at e₀
  cases e₀
  repeat' first
    | with_reducible assumption
    | with_reducible apply State.askReset_frame (hs₀ := Part.tr (by decide) hs₀)

theorem execResetRequestMgmt_frame {ps₀ : List Part} {s₀ t₀ : State} (who : Requester) (s : State)
    (hs₀ : [.objects, .resets, .slices, .records, .pins, .out] ⊆ ps₀) (e₀ : execResetRequestMgmt who s = .next t₀) (h₀ : Frame ps₀ s₀ s) :
    Frame ps₀ s₀ t₀ := by
  unfold execResetRequestMgmt at e₀
  cases e₀
  repeat' first
    | with_reducible assumption
    | with_reducible apply State.askReset_frame (hs₀ := Part.tr (by decide) hs₀)

theorem execResetRequestSec_frame {ps₀ : List Part} {s₀ t₀ : State} (who : Requester) (s : State)
    (hs₀ : [.objects, .resets, .slices, .records, .pins, .out] ⊆ ps₀) (e₀ : execResetRequestSec who s = .next t₀) (h₀ : Frame ps₀ s₀ s) :
    Frame ps₀ s₀ t₀ := by
  unfold execResetRequestSec at e₀
  cases e₀
  repeat' first
    | with_reducible assumption
    | with_reducible apply State.askReset_frame (hs₀ := Part.tr (by decide) hs₀)

theorem execResetRequestPort_frame {ps₀ : List Part} {s₀ t₀ : State} (who : Requester) (p : Fin 2) (s : State)
    (hs₀ : [.objects, .resets, .slices, .records, .pins, .out] ⊆ ps₀) (e₀ : execResetRequestPort who p s = .next t₀) (h₀ : Frame ps₀ s₀ s) :
    Frame ps₀ s₀ t₀ := by
  unfold execResetRequestPort at e₀
  cases e₀
  repeat' first
    | with_reducible assumption
    | with_reducible apply State.askReset_frame (hs₀ := Part.tr (by decide) hs₀)

theorem execResetRequestStation_frame {ps₀ : List Part} {s₀ t₀ : State} (who : Requester) (n : Fin 8) (s : State)
    (hs₀ : [.objects, .resets, .slices, .records, .pins, .out] ⊆ ps₀) (e₀ : execResetRequestStation who n s = .next t₀) (h₀ : Frame ps₀ s₀ s) :
    Frame ps₀ s₀ t₀ := by
  unfold execResetRequestStation at e₀
  cases e₀
  repeat' first
    | with_reducible assumption
    | with_reducible apply State.askReset_frame (hs₀ := Part.tr (by decide) hs₀)

theorem execResetRequestApply_frame {ps₀ : List Part} {s₀ t₀ : State} (s : State)
    (hs₀ : Part.allButQueue ⊆ ps₀) (e₀ : execResetRequestApply s = .next t₀) (h₀ : Frame ps₀ s₀ s) :
    Frame ps₀ s₀ t₀ := by
  unfold execResetRequestApply at e₀
  cases e₀
  repeat' first
    | with_reducible assumption
    | with_reducible apply State.assertReset_frame (hs₀ := Part.tr (by decide) hs₀)
    | (conv => arg 3; arg 50); with_reducible refine Frame.set_rst (Part.lift hs₀ (by decide)) ?_
    | with_reducible refine Frame.ite ?_ ?_
    | dsimp only
    | split

theorem execStationReset_frame {ps₀ : List Part} {s₀ t₀ : State} (who : Requester) (n : Fin 8) (v : Bool) (s : State)
    (hs₀ : Part.allButQueue ⊆ ps₀) (e₀ : execStationReset who n v s = .next t₀) (h₀ : Frame ps₀ s₀ s) :
    Frame ps₀ s₀ t₀ := by
  unfold execStationReset at e₀
  cases e₀
  repeat' first
    | with_reducible assumption
    | with_reducible apply State.answer_frame (hs₀ := Part.tr (by decide) hs₀)
    | with_reducible apply State.onWrite_frame (hs₀ := Part.tr (by decide) hs₀)
    | with_reducible apply State.assertReset_frame (hs₀ := Part.tr (by decide) hs₀)
    | with_reducible refine Frame.ite ?_ ?_
    | with_reducible intro _

theorem execMemReinit_frame {ps₀ : List Part} {s₀ t₀ : State} (who : Requester) (n : Fin 8) (v : Bool) (s : State)
    (hs₀ : Part.allButQueue ⊆ ps₀) (e₀ : execMemReinit who n v s = .next t₀) (h₀ : Frame ps₀ s₀ s) :
    Frame ps₀ s₀ t₀ := by
  unfold execMemReinit at e₀
  cases e₀
  repeat' first
    | with_reducible assumption
    | with_reducible apply State.answer_frame (hs₀ := Part.tr (by decide) hs₀)
    | with_reducible apply State.onWrite_frame (hs₀ := Part.tr (by decide) hs₀)
    | with_reducible apply State.assertReset_frame (hs₀ := Part.tr (by decide) hs₀)
    | with_reducible refine Frame.ite ?_ ?_
    | with_reducible intro _

theorem execDeviceRequestNone_frame {ps₀ : List Part} {s₀ t₀ : State} (who : Requester) (s : State)
    (hs₀ : [.objects, .slices, .records, .pins, .out] ⊆ ps₀) (e₀ : execDeviceRequestNone who s = .next t₀) (h₀ : Frame ps₀ s₀ s) :
    Frame ps₀ s₀ t₀ := by
  unfold execDeviceRequestNone at e₀
  cases e₀
  repeat' first
    | with_reducible assumption
    | with_reducible apply State.answer_frame (hs₀ := Part.tr (by decide) hs₀)
    | with_reducible apply State.onWrite_frame (hs₀ := Part.tr (by decide) hs₀)
    | with_reducible intro _

theorem execDeviceRequestRecovery_frame {ps₀ : List Part} {s₀ t₀ : State} (who : Requester) (s : State)
    (hs₀ : Part.allButQueue ⊆ ps₀) (e₀ : execDeviceRequestRecovery who s = .next t₀) (h₀ : Frame ps₀ s₀ s) :
    Frame ps₀ s₀ t₀ := by
  unfold execDeviceRequestRecovery at e₀
  cases e₀
  repeat' first
    | with_reducible assumption
    | with_reducible apply State.answer_frame (hs₀ := Part.tr (by decide) hs₀)
    | with_reducible apply State.onWrite_frame (hs₀ := Part.tr (by decide) hs₀)
    | with_reducible apply State.assertReset_frame (hs₀ := Part.tr (by decide) hs₀)
    | (conv => arg 3; arg 50); with_reducible refine Frame.set_rst (Part.lift hs₀ (by decide)) ?_
    | with_reducible intro _

theorem execDeviceRequestLeaveRecovery_frame {ps₀ : List Part} {s₀ t₀ : State} (who : Requester) (s : State)
    (hs₀ : Part.allButQueue ⊆ ps₀) (e₀ : execDeviceRequestLeaveRecovery who s = .next t₀) (h₀ : Frame ps₀ s₀ s) :
    Frame ps₀ s₀ t₀ := by
  unfold execDeviceRequestLeaveRecovery at e₀
  cases e₀
  repeat' first
    | with_reducible assumption
    | with_reducible apply State.answer_frame (hs₀ := Part.tr (by decide) hs₀)
    | with_reducible apply State.onWrite_frame (hs₀ := Part.tr (by decide) hs₀)
    | with_reducible apply State.assertReset_frame (hs₀ := Part.tr (by decide) hs₀)
    | (conv => arg 3; arg 50); with_reducible refine Frame.set_rst (Part.lift hs₀ (by decide)) ?_
    | with_reducible refine Frame.ite ?_ ?_
    | with_reducible intro _

/-! ### Machine/Release.lean -/

theorem State.loadGroups_frame {ps₀ : List Part} {s₀ : State} (s : State) (lo : ℕ) (hi : ℕ)
    (hs₀ : [.objects, .shadows, .texts] ⊆ ps₀) (h₀ : Frame ps₀ s₀ s) :
    Frame ps₀ s₀ (State.loadGroups s lo hi) := by
  unfold State.loadGroups
  repeat' first
    | with_reducible assumption
    | (conv => arg 3; arg 50); with_reducible refine Frame.set_regs_shadow_blobs_shadowBlobs_settings (Part.lift hs₀ (by decide)) (Part.lift hs₀ (by decide)) (Part.lift hs₀ (by decide)) ?_
    | dsimp only

theorem State.reportResets_frame {ps₀ : List Part} {s₀ : State} (s : State)
    (hs₀ : [.objects, .records, .pins, .out] ⊆ ps₀) (h₀ : Frame ps₀ s₀ s) :
    Frame ps₀ s₀ (State.reportResets s) := by
  unfold State.reportResets
  repeat' first
    | with_reducible assumption
    | with_reducible apply State.toHwLog_frame (hs₀ := Part.tr (by decide) hs₀)
    | with_reducible apply State.wr_frame (hs₀ := Part.tr (by decide) hs₀)
    | with_reducible apply State.alarm_frame (hs₀ := Part.tr (by decide) hs₀)
    | with_reducible apply State.count_frame (hs₀ := Part.tr (by decide) hs₀)
    | (conv => arg 3; arg 50); with_reducible refine Frame.set_settings (Part.lift hs₀ (by decide)) ?_
    | with_reducible refine Frame.each (fun _ _ _ => ?_) ?_

theorem State.holdCeilings_frame {ps₀ : List Part} {s₀ : State} (s : State)
    (hs₀ : [.objects] ⊆ ps₀) (h₀ : Frame ps₀ s₀ s) :
    Frame ps₀ s₀ (State.holdCeilings s) := by
  unfold State.holdCeilings
  repeat' first
    | with_reducible assumption
    | (conv => arg 3; arg 50); with_reducible refine Frame.set_regs (Part.lift hs₀ (by decide)) ?_
    | with_reducible refine Frame.ite ?_ ?_
    | with_reducible refine Frame.each (fun _ _ _ => ?_) ?_

theorem State.memcRelease_frame {ps₀ : List Part} {s₀ : State} (s : State) (n : ℕ)
    (hs₀ : [.objects, .shadows, .texts, .stations, .raster, .memctl] ⊆ ps₀) (h₀ : Frame ps₀ s₀ s) :
    Frame ps₀ s₀ (State.memcRelease s n) := by
  unfold State.memcRelease
  repeat' first
    | with_reducible assumption
    | with_reducible apply State.loadGroups_frame (hs₀ := Part.tr (by decide) hs₀)
    | with_reducible apply State.enterStarting_frame (hs₀ := Part.tr (by decide) hs₀)
    | with_reducible apply State.releaseMemory_frame (hs₀ := Part.tr (by decide) hs₀)
    | with_reducible refine Frame.ite ?_ ?_

theorem State.coreRelease_frame {ps₀ : List Part} {s₀ : State} (s : State) (n : ℕ)
    (hs₀ : [.stations] ⊆ ps₀) (h₀ : Frame ps₀ s₀ s) :
    Frame ps₀ s₀ (State.coreRelease s n) := by
  unfold State.coreRelease
  repeat' first
    | with_reducible assumption
    | with_reducible apply State.setCtl_frame (hs₀ := Part.tr (by decide) hs₀)
    | with_reducible refine Frame.ite ?_ ?_

theorem State.funcRelease_frame {ps₀ : List Part} {s₀ : State} (s : State) (n : ℕ)
    (hs₀ : [.objects, .texts, .results, .resets, .stations, .raster, .memctl, .compositor, .display, .touch, .audio, .touchQueues, .records, .pins, .timers, .crossings, .out, .free] ⊆ ps₀) (h₀ : Frame ps₀ s₀ s) :
    Frame ps₀ s₀ (State.funcRelease s n) := by
  unfold State.funcRelease
  repeat' first
    | with_reducible assumption
    | with_reducible apply State.functionsStart_frame (hs₀ := Part.tr (by decide) hs₀)
    | with_reducible apply State.loadSafe_frame (hs₀ := Part.tr (by decide) hs₀)
    | with_reducible apply State.functionsRelease_frame (hs₀ := Part.tr (by decide) hs₀)
    | with_reducible apply State.setCtl_frame (hs₀ := Part.tr (by decide) hs₀)
    | with_reducible apply State.enterStarting_frame (hs₀ := Part.tr (by decide) hs₀)
    | with_reducible apply State.releaseMemory_frame (hs₀ := Part.tr (by decide) hs₀)
    | (conv => arg 3; arg 50); with_reducible refine Frame.set_rst (Part.lift hs₀ (by decide)) ?_
    | with_reducible refine Frame.ite ?_ ?_

theorem State.lockPll_frame {ps₀ : List Part} {s₀ : State} (s : State) (k : ℕ) (on : Bool)
    (hs₀ : [.objects] ⊆ ps₀) (h₀ : Frame ps₀ s₀ s) :
    Frame ps₀ s₀ (State.lockPll s k on) := by
  unfold State.lockPll
  repeat' first
    | with_reducible assumption
    | with_reducible apply State.wr_frame (hs₀ := Part.tr (by decide) hs₀)

theorem State.releaseDomain_frame {ps₀ : List Part} {s₀ : State} (s : State) (d : Domain)
    (hs₀ : [.objects, .shadows, .texts, .results, .resets, .stations, .memory, .raster, .translator, .memctl, .compositor, .display, .touch, .haptic, .audio, .slices, .checks, .ingress, .touchQueues, .hapticQueues, .records, .pins, .timers, .crossings, .out, .free] ⊆ ps₀) (h₀ : Frame ps₀ s₀ s) :
    Frame ps₀ s₀ (State.releaseDomain s d) := by
  unfold State.releaseDomain
  repeat' first
    | with_reducible assumption
    | with_reducible apply State.memcRelease_frame (hs₀ := Part.tr (by decide) hs₀)
    | with_reducible apply State.lockPll_frame (hs₀ := Part.tr (by decide) hs₀)
    | with_reducible apply State.sliceDue_frame (hs₀ := Part.tr (by decide) hs₀)
    | with_reducible apply State.wave_frame (hs₀ := Part.tr (by decide) hs₀)
    | with_reducible apply State.coreRelease_frame (hs₀ := Part.tr (by decide) hs₀)
    | with_reducible apply State.drive_frame (hs₀ := Part.tr (by decide) hs₀)
    | with_reducible apply State.wr_frame (hs₀ := Part.tr (by decide) hs₀)
    | with_reducible apply State.syncRole_frame (hs₀ := Part.tr (by decide) hs₀)
    | with_reducible apply State.setSecState_frame (hs₀ := Part.tr (by decide) hs₀)
    | with_reducible apply State.hwReady_frame (hs₀ := Part.tr (by decide) hs₀)
    | with_reducible apply State.funcRelease_frame (hs₀ := Part.tr (by decide) hs₀)
    | (conv => arg 3; arg 50); with_reducible refine Frame.set_rst (Part.lift hs₀ (by decide)) ?_
    | dsimp only
    | split

theorem State.releaseNext_frame {ps₀ : List Part} {s₀ : State} (s : State)
    (hs₀ : [.objects, .shadows, .texts, .results, .resets, .stations, .memory, .raster, .translator, .memctl, .compositor, .display, .touch, .haptic, .audio, .slices, .checks, .ingress, .touchQueues, .hapticQueues, .records, .pins, .timers, .crossings, .out, .free] ⊆ ps₀) (h₀ : Frame ps₀ s₀ s) :
    Frame ps₀ s₀ (State.releaseNext s) := by
  unfold State.releaseNext
  repeat' first
    | with_reducible assumption
    | with_reducible apply State.releaseDomain_frame (hs₀ := Part.tr (by decide) hs₀)
    | (conv => arg 3; arg 50); with_reducible refine Frame.set_rst (Part.lift hs₀ (by decide)) ?_
    | dsimp only
    | split

theorem execReleaseBegin_frame {ps₀ : List Part} {s₀ t₀ : State} (strap : Bool) (s : State)
    (hs₀ : [.objects, .shadows, .texts, .results, .resets, .stations, .memory, .network, .raster, .translator, .memctl, .compositor, .display, .touch, .haptic, .audio, .slices, .checks, .ingress, .touchQueues, .hapticQueues, .records, .pins, .timers, .crossings, .out, .free] ⊆ ps₀) (e₀ : execReleaseBegin strap s = .next t₀) (h₀ : Frame ps₀ s₀ s) :
    Frame ps₀ s₀ t₀ := by
  unfold execReleaseBegin at e₀
  cases e₀
  repeat' first
    | with_reducible assumption
    | with_reducible apply State.releaseNext_frame (hs₀ := Part.tr (by decide) hs₀)
    | (conv => arg 3; arg 50); with_reducible refine Frame.set_net (Part.lift hs₀ (by decide)) ?_
    | with_reducible refine Frame.ite ?_ ?_

theorem execReleaseStepEnd_frame {ps₀ : List Part} {s₀ t₀ : State} (s : State)
    (hs₀ : [.resets, .timers] ⊆ ps₀) (e₀ : execReleaseStepEnd s = .next t₀) (h₀ : Frame ps₀ s₀ s) :
    Frame ps₀ s₀ t₀ := by
  unfold execReleaseStepEnd at e₀
  cases e₀
  repeat' first
    | with_reducible assumption
    | with_reducible apply State.startTimer_frame (hs₀ := Part.tr (by decide) hs₀)
    | (conv => arg 3; arg 50); with_reducible refine Frame.set_rst (Part.lift hs₀ (by decide)) ?_
    | with_reducible refine Frame.ite ?_ ?_
    | dsimp only
    | split

theorem execReleaseGapElapsed_frame {ps₀ : List Part} {s₀ t₀ : State} (s : State)
    (hs₀ : [.objects, .shadows, .texts, .results, .resets, .stations, .memory, .raster, .translator, .memctl, .compositor, .display, .touch, .haptic, .audio, .slices, .checks, .ingress, .touchQueues, .hapticQueues, .records, .pins, .timers, .crossings, .out, .free] ⊆ ps₀) (e₀ : execReleaseGapElapsed s = .next t₀) (h₀ : Frame ps₀ s₀ s) :
    Frame ps₀ s₀ t₀ := by
  unfold execReleaseGapElapsed at e₀
  cases e₀
  repeat' first
    | with_reducible assumption
    | with_reducible apply State.releaseNext_frame (hs₀ := Part.tr (by decide) hs₀)
    | with_reducible refine Frame.ite ?_ ?_
    | split

theorem State.loadMaps_frame {ps₀ : List Part} {s₀ : State} (s : State) (src : FMap ℕ ℕ) (pins : FMap ℕ ℕ)
    (hs₀ : [.texts, .resets, .pins] ⊆ ps₀) (h₀ : Frame ps₀ s₀ s) :
    Frame ps₀ s₀ (State.loadMaps s src pins) := by
  unfold State.loadMaps
  repeat' first
    | with_reducible assumption
    | with_reducible apply State.pinsReset_frame (hs₀ := Part.tr (by decide) hs₀)
    | (conv => arg 3; arg 50); with_reducible refine Frame.set_blobs_rst (Part.lift hs₀ (by decide)) (Part.lift hs₀ (by decide)) ?_
    | with_reducible refine Frame.each (fun _ _ _ => ?_) ?_

theorem execTrimLoadDone_frame {ps₀ : List Part} {s₀ t₀ : State} (image : Option FuseImage) (s : State)
    (hs₀ : [.objects, .texts, .resets, .records, .pins, .out, .free] ⊆ ps₀) (e₀ : execTrimLoadDone image s = .next t₀) (h₀ : Frame ps₀ s₀ s) :
    Frame ps₀ s₀ t₀ := by
  unfold execTrimLoadDone at e₀
  cases e₀
  repeat' first
    | with_reducible assumption
    | with_reducible apply State.drawBytes_frame (hs₀ := Part.tr (by decide) hs₀)
    | with_reducible apply State.holdCeilings_frame (hs₀ := Part.tr (by decide) hs₀)
    | with_reducible apply State.wr_frame (hs₀ := Part.tr (by decide) hs₀)
    | with_reducible apply State.wrBlob_frame (hs₀ := Part.tr (by decide) hs₀)
    | with_reducible apply State.hwReady_frame (hs₀ := Part.tr (by decide) hs₀)
    | with_reducible apply State.loadMaps_frame (hs₀ := Part.tr (by decide) hs₀)
    | with_reducible apply State.alarm_frame (hs₀ := Part.tr (by decide) hs₀)
    | with_reducible apply State.extend_frame (hs₀ := Part.tr (by decide) hs₀)
    | (conv => arg 3; arg 50); with_reducible refine Frame.set_rst (Part.lift hs₀ (by decide)) ?_
    | with_reducible refine Frame.ite ?_ ?_
    | dsimp only
    | split

theorem execSecRestartBootDone_frame {ps₀ : List Part} {s₀ t₀ : State} (image : Option Bytes) (s : State)
    (hs₀ : [.objects, .texts, .resets] ⊆ ps₀) (e₀ : execSecRestartBootDone image s = .next t₀) (h₀ : Frame ps₀ s₀ s) :
    Frame ps₀ s₀ t₀ := by
  unfold execSecRestartBootDone at e₀
  cases e₀
  repeat' first
    | with_reducible assumption
    | with_reducible apply State.zeroMeasurement_frame (hs₀ := Part.tr (by decide) hs₀)
    | with_reducible apply State.setSecState_frame (hs₀ := Part.tr (by decide) hs₀)
    | with_reducible apply State.extend_frame (hs₀ := Part.tr (by decide) hs₀)
    | (conv => arg 3; arg 50); with_reducible refine Frame.set_rst (Part.lift hs₀ (by decide)) ?_
    | with_reducible refine Frame.ite ?_ ?_
    | dsimp only
    | split

theorem State.startRecovery_frame {ps₀ : List Part} {s₀ : State} (s : State)
    (hs₀ : [.objects, .resets] ⊆ ps₀) (h₀ : Frame ps₀ s₀ s) :
    Frame ps₀ s₀ (State.startRecovery s) := by
  unfold State.startRecovery
  repeat' first
    | with_reducible assumption
    | with_reducible apply State.wr_frame (hs₀ := Part.tr (by decide) hs₀)
    | (conv => arg 3; arg 50); with_reducible refine Frame.set_rst (Part.lift hs₀ (by decide)) ?_

theorem State.openTest_frame {ps₀ : List Part} {s₀ : State} (s : State)
    (hs₀ : [.objects, .resets, .secure] ⊆ ps₀) (h₀ : Frame ps₀ s₀ s) :
    Frame ps₀ s₀ (State.openTest s) := by
  unfold State.openTest
  repeat' first
    | with_reducible assumption
    | with_reducible apply State.wr_frame (hs₀ := Part.tr (by decide) hs₀)
    | (conv => arg 3; arg 50); with_reducible refine Frame.set_rst_sec (Part.lift hs₀ (by decide)) (Part.lift hs₀ (by decide)) ?_

theorem execBootRomMgmtAcceptance_frame {ps₀ : List Part} {s₀ t₀ : State} (image : Option Bytes) (trial : Bool) (s : State)
    (hs₀ : [.objects, .texts, .resets, .secure, .update] ⊆ ps₀) (e₀ : execBootRomMgmtAcceptance image trial s = .next t₀) (h₀ : Frame ps₀ s₀ s) :
    Frame ps₀ s₀ t₀ := by
  unfold execBootRomMgmtAcceptance at e₀
  cases e₀
  repeat' first
    | with_reducible assumption
    | with_reducible apply State.zeroMeasurement_frame (hs₀ := Part.tr (by decide) hs₀)
    | with_reducible apply State.failUpdate_frame (hs₀ := Part.tr (by decide) hs₀)
    | with_reducible apply State.wr_frame (hs₀ := Part.tr (by decide) hs₀)
    | with_reducible apply State.openTest_frame (hs₀ := Part.tr (by decide) hs₀)
    | with_reducible apply State.extend_frame (hs₀ := Part.tr (by decide) hs₀)
    | with_reducible apply State.startRecovery_frame (hs₀ := Part.tr (by decide) hs₀)
    | (conv => arg 3; arg 50); with_reducible refine Frame.set_rst (Part.lift hs₀ (by decide)) ?_
    | with_reducible refine Frame.ite ?_ ?_
    | dsimp only
    | split

theorem execSettingsLoadStation_frame {ps₀ : List Part} {s₀ t₀ : State} (s : State)
    (hs₀ : [.objects, .shadows, .texts, .results, .resets, .stations, .compositor, .display, .touch, .audio, .touchQueues, .records, .pins, .timers, .crossings, .out, .free] ⊆ ps₀) (e₀ : execSettingsLoadStation s = .next t₀) (h₀ : Frame ps₀ s₀ s) :
    Frame ps₀ s₀ t₀ := by
  unfold execSettingsLoadStation at e₀
  cases e₀
  repeat' first
    | with_reducible assumption
    | with_reducible apply State.loadGroups_frame (hs₀ := Part.tr (by decide) hs₀)
    | with_reducible apply State.functionsStart_frame (hs₀ := Part.tr (by decide) hs₀)
    | with_reducible apply State.loadSafe_frame (hs₀ := Part.tr (by decide) hs₀)
    | (conv => arg 3; arg 50); with_reducible refine Frame.set_rst (Part.lift hs₀ (by decide)) ?_
    | with_reducible refine Frame.ite ?_ ?_
    | dsimp only
    | split

theorem execStnImageLoad_frame {ps₀ : List Part} {s₀ t₀ : State} (digest : Bytes) (s : State)
    (hs₀ : [.objects, .texts, .stations] ⊆ ps₀) (e₀ : execStnImageLoad digest s = .next t₀) (h₀ : Frame ps₀ s₀ s) :
    Frame ps₀ s₀ t₀ := by
  unfold execStnImageLoad at e₀
  cases e₀
  repeat' first
    | with_reducible assumption
    | with_reducible apply State.setCtl_frame (hs₀ := Part.tr (by decide) hs₀)
    | with_reducible apply State.firmware_frame (hs₀ := Part.tr (by decide) hs₀)
    | with_reducible apply State.extend_frame (hs₀ := Part.tr (by decide) hs₀)
    | with_reducible refine Frame.ite ?_ ?_
    | with_reducible refine Frame.each (fun _ _ _ => ?_) ?_
    | with_reducible intro _

theorem execFuseMapProgram_frame {ps₀ : List Part} {s₀ t₀ : State} (who : Requester) (data : Bytes) (s : State)
    (hs₀ : [.objects, .resets, .slices, .records, .pins, .out] ⊆ ps₀) (e₀ : execFuseMapProgram who data s = .next t₀) (h₀ : Frame ps₀ s₀ s) :
    Frame ps₀ s₀ t₀ := by
  unfold execFuseMapProgram at e₀
  cases e₀
  repeat' first
    | with_reducible assumption
    | with_reducible apply State.onRequest_frame (hs₀ := Part.tr (by decide) hs₀)
    | with_reducible apply State.answer_frame (hs₀ := Part.tr (by decide) hs₀)
    | with_reducible apply State.mailboxSpoof_frame (hs₀ := Part.tr (by decide) hs₀)
    | (conv => arg 3; arg 50); with_reducible refine Frame.set_rst (Part.lift hs₀ (by decide)) ?_
    | with_reducible refine Frame.ite ?_ ?_
    | with_reducible intro _
    | dsimp only
    | split

/-! ### Machine/Debug.lean -/

theorem State.onRead_frame {ps₀ : List Part} {s₀ : State} (s : State) (who : Requester) (r : ObjRow) (n : ℕ) (i : ℕ) (tq : ℕ) (j : ℕ) (f : State → State)
    (hs₀ : [.out] ⊆ ps₀) (hf : ∀ x0, Frame ps₀ s₀ x0 → Frame ps₀ s₀ (f x0)) (h₀ : Frame ps₀ s₀ s) :
    Frame ps₀ s₀ (State.onRead s who r n i tq j f) := by
  unfold State.onRead
  repeat' first
    | with_reducible assumption
    | with_reducible apply State.onRequest_frame (hs₀ := Part.tr (by decide) hs₀)
    | with_reducible apply State.guarded_frame (hs₀ := Part.tr (by decide) hs₀)
    | with_reducible intro _

theorem execDebugChallenge_frame {ps₀ : List Part} {s₀ t₀ : State} (who : Requester) (s : State)
    (hs₀ : [.secure, .out, .free] ⊆ ps₀) (e₀ : execDebugChallenge who s = .next t₀) (h₀ : Frame ps₀ s₀ s) :
    Frame ps₀ s₀ t₀ := by
  unfold execDebugChallenge at e₀
  cases e₀
  repeat' first
    | with_reducible assumption
    | with_reducible apply State.drawBytes_frame (hs₀ := Part.tr (by decide) hs₀)
    | with_reducible apply State.answer_frame (hs₀ := Part.tr (by decide) hs₀)
    | with_reducible apply State.onRead_frame (hs₀ := Part.tr (by decide) hs₀)
    | (conv => arg 3; arg 50); with_reducible refine Frame.set_sec (Part.lift hs₀ (by decide)) ?_
    | with_reducible intro _

theorem State.openLevel_frame {ps₀ : List Part} {s₀ : State} (s : State) (level : ℕ)
    (hs₀ : Part.allButQueue ⊆ ps₀) (h₀ : Frame ps₀ s₀ s) :
    Frame ps₀ s₀ (State.openLevel s level) := by
  unfold State.openLevel
  repeat' first
    | with_reducible assumption
    | with_reducible apply State.assertReset_frame (hs₀ := Part.tr (by decide) hs₀)
    | with_reducible apply State.destroyEnclave_frame (hs₀ := Part.tr (by decide) hs₀)
    | with_reducible apply State.openSystem_frame (hs₀ := Part.tr (by decide) hs₀)
    | (conv => arg 3; arg 50); with_reducible refine Frame.set_rst (Part.lift hs₀ (by decide)) ?_
    | (conv => arg 3; arg 50); with_reducible refine Frame.set_sec (Part.lift hs₀ (by decide)) ?_
    | with_reducible refine Frame.ite ?_ ?_
    | with_reducible refine Frame.each (fun _ _ _ => ?_) ?_

theorem execDebugResponse_frame {ps₀ : List Part} {s₀ t₀ : State} (who : Requester) (data : Bytes) (s : State)
    (hs₀ : Part.allButQueue ⊆ ps₀) (e₀ : execDebugResponse who data s = .next t₀) (h₀ : Frame ps₀ s₀ s) :
    Frame ps₀ s₀ t₀ := by
  unfold execDebugResponse at e₀
  cases e₀
  repeat' first
    | with_reducible assumption
    | with_reducible apply State.openLevel_frame (hs₀ := Part.tr (by decide) hs₀)
    | with_reducible apply State.onRequest_frame (hs₀ := Part.tr (by decide) hs₀)
    | with_reducible apply State.answer_frame (hs₀ := Part.tr (by decide) hs₀)
    | with_reducible apply State.finish_frame (hs₀ := Part.tr (by decide) hs₀)
    | with_reducible apply State.startResult_frame (hs₀ := Part.tr (by decide) hs₀)
    | with_reducible apply State.guarded_frame (hs₀ := Part.tr (by decide) hs₀)
    | with_reducible apply State.mailboxSpoof_frame (hs₀ := Part.tr (by decide) hs₀)
    | (conv => arg 3; arg 50); with_reducible refine Frame.set_sec (Part.lift hs₀ (by decide)) ?_
    | with_reducible refine Frame.ite ?_ ?_
    | with_reducible intro _
    | dsimp only
    | split

theorem execDebugLockoutEnd_frame {ps₀ : List Part} {s₀ t₀ : State} (s : State)
    (hs₀ : [.secure] ⊆ ps₀) (e₀ : execDebugLockoutEnd s = .next t₀) (h₀ : Frame ps₀ s₀ s) :
    Frame ps₀ s₀ t₀ := by
  unfold execDebugLockoutEnd at e₀
  cases e₀
  repeat' first
    | with_reducible assumption
    | (conv => arg 3; arg 50); with_reducible refine Frame.set_sec (Part.lift hs₀ (by decide)) ?_
    | with_reducible refine Frame.ite ?_ ?_

theorem execJtagInstruction_frame {ps₀ : List Part} {s₀ t₀ : State} (ins : JtagInstr) (s : State)
    (hs₀ : [.out] ⊆ ps₀) (e₀ : execJtagInstruction ins s = .next t₀) (h₀ : Frame ps₀ s₀ s) :
    Frame ps₀ s₀ t₀ := by
  unfold execJtagInstruction at e₀
  cases e₀
  repeat' first
    | with_reducible assumption
    | with_reducible apply State.emit_frame (hs₀ := Part.tr (by decide) hs₀)
    | with_reducible refine Frame.ite ?_ ?_

/-! ### Machine/Host.lean -/

theorem execPerstNLevel_frame {ps₀ : List Part} {s₀ t₀ : State} (p : Fin 2) (high : Bool) (s : State)
    (hs₀ : Part.allButQueue ⊆ ps₀) (e₀ : execPerstNLevel p high s = .next t₀) (h₀ : Frame ps₀ s₀ s) :
    Frame ps₀ s₀ t₀ := by
  unfold execPerstNLevel at e₀
  cases e₀
  repeat' first
    | with_reducible assumption
    | with_reducible apply State.assertLevel_frame (hs₀ := Part.tr (by decide) hs₀)
    | with_reducible apply State.setPrt_frame (hs₀ := Part.tr (by decide) hs₀)
    | with_reducible apply State.releaseLevel_frame (hs₀ := Part.tr (by decide) hs₀)
    | with_reducible refine Frame.ite ?_ ?_

theorem execHostPortReady_frame {ps₀ : List Part} {s₀ t₀ : State} (p : Fin 2) (s : State)
    (hs₀ : [.objects, .ports] ⊆ ps₀) (e₀ : execHostPortReady p s = .next t₀) (h₀ : Frame ps₀ s₀ s) :
    Frame ps₀ s₀ t₀ := by
  unfold execHostPortReady at e₀
  cases e₀
  repeat' first
    | with_reducible assumption
    | with_reducible apply State.wr_frame (hs₀ := Part.tr (by decide) hs₀)
    | with_reducible apply State.setPrt_frame (hs₀ := Part.tr (by decide) hs₀)
    | with_reducible apply State.hwReady_frame (hs₀ := Part.tr (by decide) hs₀)
    | with_reducible refine Frame.ite ?_ ?_

theorem execPcieLinkTrained_frame {ps₀ : List Part} {s₀ t₀ : State} (p : Fin 2) (speed : Fin 6) (width : Fin 9) (s : State)
    (hs₀ : [.objects, .slices, .ports, .records, .pins, .out] ⊆ ps₀) (e₀ : execPcieLinkTrained p speed width s = .next t₀) (h₀ : Frame ps₀ s₀ s) :
    Frame ps₀ s₀ t₀ := by
  unfold execPcieLinkTrained at e₀
  cases e₀
  repeat' first
    | with_reducible assumption
    | with_reducible apply State.wr_frame (hs₀ := Part.tr (by decide) hs₀)
    | with_reducible apply State.setPrt_frame (hs₀ := Part.tr (by decide) hs₀)
    | with_reducible apply State.portLinkUp_frame (hs₀ := Part.tr (by decide) hs₀)
    | with_reducible apply State.fetchFor_frame (hs₀ := Part.tr (by decide) hs₀)
    | with_reducible apply State.alarm_frame (hs₀ := Part.tr (by decide) hs₀)
    | with_reducible refine Frame.ite ?_ ?_
    | with_reducible refine Frame.each (fun _ _ _ => ?_) ?_

theorem execPortRetrainTimer_frame {ps₀ : List Part} {s₀ t₀ : State} (p : Fin 2) (s : State)
    (hs₀ : [.objects, .ports] ⊆ ps₀) (e₀ : execPortRetrainTimer p s = .next t₀) (h₀ : Frame ps₀ s₀ s) :
    Frame ps₀ s₀ t₀ := by
  unfold execPortRetrainTimer at e₀
  cases e₀
  repeat' first
    | with_reducible assumption
    | with_reducible apply State.wr_frame (hs₀ := Part.tr (by decide) hs₀)
    | with_reducible apply State.setPrt_frame (hs₀ := Part.tr (by decide) hs₀)
    | with_reducible refine Frame.ite ?_ ?_

theorem execHotReset_frame {ps₀ : List Part} {s₀ t₀ : State} (p : Fin 2) (s : State)
    (hs₀ : Part.allButQueue ⊆ ps₀) (e₀ : execHotReset p s = .next t₀) (h₀ : Frame ps₀ s₀ s) :
    Frame ps₀ s₀ t₀ := by
  unfold execHotReset at e₀
  cases e₀
  repeat' first
    | with_reducible assumption
    | with_reducible apply State.assertEvent_frame (hs₀ := Part.tr (by decide) hs₀)
    | with_reducible apply State.count_frame (hs₀ := Part.tr (by decide) hs₀)
    | with_reducible refine Frame.ite ?_ ?_

theorem execFunctionFlr_frame {ps₀ : List Part} {s₀ t₀ : State} (p : Fin 2) (s : State)
    (hs₀ : Part.allButQueue ⊆ ps₀) (e₀ : execFunctionFlr p s = .next t₀) (h₀ : Frame ps₀ s₀ s) :
    Frame ps₀ s₀ t₀ := by
  unfold execFunctionFlr at e₀
  cases e₀
  repeat' first
    | with_reducible assumption
    | with_reducible apply State.assertEvent_frame (hs₀ := Part.tr (by decide) hs₀)
    | with_reducible apply State.count_frame (hs₀ := Part.tr (by decide) hs₀)
    | with_reducible refine Frame.ite ?_ ?_

theorem execSliceFlr_frame {ps₀ : List Part} {s₀ t₀ : State} (p : Fin 2) (t : Fin 512) (v : ℕ) (s : State)
    (hs₀ : Part.allButQueue ⊆ ps₀) (e₀ : execSliceFlr p t v s = .next t₀) (h₀ : Frame ps₀ s₀ s) :
    Frame ps₀ s₀ t₀ := by
  unfold execSliceFlr at e₀
  cases e₀
  repeat' first
    | with_reducible assumption
    | with_reducible apply State.assertEvent_frame (hs₀ := Part.tr (by decide) hs₀)
    | with_reducible apply State.onPage_frame (hs₀ := Part.tr (by decide) hs₀)
    | with_reducible refine Frame.ite ?_ ?_
    | with_reducible intro _

theorem execSliceReset_frame {ps₀ : List Part} {s₀ t₀ : State} (who : Requester) (t : Fin 512) (v : Bool) (s : State)
    (hs₀ : Part.allButQueue ⊆ ps₀) (e₀ : execSliceReset who t v s = .next t₀) (h₀ : Frame ps₀ s₀ s) :
    Frame ps₀ s₀ t₀ := by
  unfold execSliceReset at e₀
  cases e₀
  repeat' first
    | with_reducible assumption
    | with_reducible apply State.answer_frame (hs₀ := Part.tr (by decide) hs₀)
    | with_reducible apply State.onWrite_frame (hs₀ := Part.tr (by decide) hs₀)
    | with_reducible apply State.assertReset_frame (hs₀ := Part.tr (by decide) hs₀)
    | with_reducible refine Frame.ite ?_ ?_
    | with_reducible intro _

theorem State.writeEnable_frame {ps₀ : List Part} {s₀ : State} (s : State) (t : ℕ) (v : Bool) (authorised : Bool)
    (hs₀ : Part.allButQueue ⊆ ps₀) (h₀ : Frame ps₀ s₀ s) :
    Frame ps₀ s₀ (State.writeEnable s t v authorised).1 := by
  unfold State.writeEnable
  repeat' first
    | with_reducible assumption
    | with_reducible apply State.bind_frame (hs₀ := Part.tr (by decide) hs₀)
    | with_reducible apply State.assertReset_frame (hs₀ := Part.tr (by decide) hs₀)
    | with_reducible refine Frame.iteFst ?_ ?_
    | dsimp only
    | split

theorem State.writeEnable_out {ps₀ : List Part} {s₀ : State} (s : State) (t : ℕ) (v : Bool) (authorised : Bool) {y₀ z₀}
    (hs₀ : Part.allButQueue ⊆ ps₀) (e₀ : State.writeEnable s t v authorised = (z₀, y₀)) (h₀ : Frame ps₀ s₀ s) : Frame ps₀ s₀ z₀ := by
  have x₀ := State.writeEnable_frame s t v authorised hs₀ h₀; rw [e₀] at x₀; exact x₀

theorem execSliceEnable_frame {ps₀ : List Part} {s₀ t₀ : State} (who : Requester) (t : Fin 512) (v : Bool) (s : State)
    (hs₀ : Part.allButQueue ⊆ ps₀) (e₀ : execSliceEnable who t v s = .next t₀) (h₀ : Frame ps₀ s₀ s) :
    Frame ps₀ s₀ t₀ := by
  unfold execSliceEnable at e₀
  cases e₀
  repeat' first
    | with_reducible assumption
    | with_reducible apply State.writeEnable_frame (hs₀ := Part.tr (by decide) hs₀)
    | with_reducible apply State.answer_frame (hs₀ := Part.tr (by decide) hs₀)
    | with_reducible apply State.onWrite_frame (hs₀ := Part.tr (by decide) hs₀)
    | with_reducible intro _

theorem execRebind_frame {ps₀ : List Part} {s₀ t₀ : State} (e : Fin 64) (w : BindWrite) (s : State)
    (hs₀ : Part.allButQueue ⊆ ps₀) (e₀ : execRebind e w s = .next t₀) (h₀ : Frame ps₀ s₀ s) :
    Frame ps₀ s₀ t₀ := by
  unfold execRebind at e₀
  cases e₀
  repeat' first
    | with_reducible assumption
    | with_reducible apply State.bind_frame (hs₀ := Part.tr (by decide) hs₀)
    | with_reducible apply State.writeEnable_frame (hs₀ := Part.tr (by decide) hs₀)
    | with_reducible apply State.reply_frame (hs₀ := Part.tr (by decide) hs₀)
    | with_reducible apply State.onCall_frame (hs₀ := Part.tr (by decide) hs₀)
    | with_reducible refine Frame.ite ?_ ?_
    | with_reducible intro _
    | dsimp only
    | split

theorem execRingTailWrite_frame {ps₀ : List Part} {s₀ t₀ : State} (p : Fin 2) (t : Fin 512) (n : Fin 8) (q : Fin 4) (v : ℕ) (s : State)
    (hs₀ : [.objects, .slices, .records, .pins, .crossings, .out, .free] ⊆ ps₀) (e₀ : execRingTailWrite p t n q v s = .next t₀) (h₀ : Frame ps₀ s₀ s) :
    Frame ps₀ s₀ t₀ := by
  unfold execRingTailWrite at e₀
  cases e₀
  repeat' first
    | with_reducible assumption
    | with_reducible apply State.crossDoorbell_frame (hs₀ := Part.tr (by decide) hs₀)
    | with_reducible apply State.setRing_frame (hs₀ := Part.tr (by decide) hs₀)
    | with_reducible apply State.fetch_frame (hs₀ := Part.tr (by decide) hs₀)
    | with_reducible apply State.spoof_frame (hs₀ := Part.tr (by decide) hs₀)
    | with_reducible apply State.onStationPage_frame (hs₀ := Part.tr (by decide) hs₀)
    | with_reducible refine Frame.ite ?_ ?_
    | with_reducible intro _

theorem execCompHeadWrite_frame {ps₀ : List Part} {s₀ t₀ : State} (p : Fin 2) (t : Fin 512) (n : Fin 8) (q : Fin 4) (v : ℕ) (s : State)
    (hs₀ : [.objects, .slices, .records, .pins, .crossings, .out, .free] ⊆ ps₀) (e₀ : execCompHeadWrite p t n q v s = .next t₀) (h₀ : Frame ps₀ s₀ s) :
    Frame ps₀ s₀ t₀ := by
  unfold execCompHeadWrite at e₀
  cases e₀
  repeat' first
    | with_reducible assumption
    | with_reducible apply State.crossDoorbell_frame (hs₀ := Part.tr (by decide) hs₀)
    | with_reducible apply State.setRing_frame (hs₀ := Part.tr (by decide) hs₀)
    | with_reducible apply State.fetch_frame (hs₀ := Part.tr (by decide) hs₀)
    | with_reducible apply State.spoof_frame (hs₀ := Part.tr (by decide) hs₀)
    | with_reducible apply State.onStationPage_frame (hs₀ := Part.tr (by decide) hs₀)
    | with_reducible refine Frame.ite ?_ ?_
    | with_reducible intro _

theorem execDescriptorFetched_frame {ps₀ : List Part} {s₀ t₀ : State} (t : Fin 512) (n : Fin 8) (q : Fin 4) (data : Bytes) (s : State)
    (hs₀ : [.objects, .slices, .ingress, .records, .pins, .out] ⊆ ps₀) (e₀ : execDescriptorFetched t n q data s = .next t₀) (h₀ : Frame ps₀ s₀ s) :
    Frame ps₀ s₀ t₀ := by
  unfold execDescriptorFetched at e₀
  cases e₀
  repeat' first
    | with_reducible assumption
    | with_reducible apply State.setRing_frame (hs₀ := Part.tr (by decide) hs₀)
    | with_reducible apply State.fetch_frame (hs₀ := Part.tr (by decide) hs₀)
    | with_reducible apply State.spoof_frame (hs₀ := Part.tr (by decide) hs₀)
    | (conv => arg 3; arg 50); with_reducible refine Frame.set_ingress (Part.lift hs₀ (by decide)) ?_
    | with_reducible refine Frame.ite ?_ ?_
    | dsimp only
    | split

theorem execRingReadFailed_frame {ps₀ : List Part} {s₀ t₀ : State} (t : Fin 512) (n : Fin 8) (q : Fin 4) (cause : ℕ) (s : State)
    (hs₀ : [.objects, .slices, .records] ⊆ ps₀) (e₀ : execRingReadFailed t n q cause s = .next t₀) (h₀ : Frame ps₀ s₀ s) :
    Frame ps₀ s₀ t₀ := by
  unfold execRingReadFailed at e₀
  cases e₀
  repeat' first
    | with_reducible assumption
    | with_reducible apply State.toTenant_frame (hs₀ := Part.tr (by decide) hs₀)
    | with_reducible apply State.wr_frame (hs₀ := Part.tr (by decide) hs₀)
    | with_reducible apply State.setRing_frame (hs₀ := Part.tr (by decide) hs₀)
    | with_reducible refine Frame.ite ?_ ?_

theorem execRingEnable_frame {ps₀ : List Part} {s₀ t₀ : State} (who : Requester) (t : Fin 512) (n : Fin 8) (q : Fin 4) (v : Bool) (s : State)
    (hs₀ : [.objects, .slices, .records, .pins, .out] ⊆ ps₀) (e₀ : execRingEnable who t n q v s = .next t₀) (h₀ : Frame ps₀ s₀ s) :
    Frame ps₀ s₀ t₀ := by
  unfold execRingEnable at e₀
  cases e₀
  repeat' first
    | with_reducible assumption
    | with_reducible apply State.answer_frame (hs₀ := Part.tr (by decide) hs₀)
    | with_reducible apply State.onWrite_frame (hs₀ := Part.tr (by decide) hs₀)
    | with_reducible apply State.wr_frame (hs₀ := Part.tr (by decide) hs₀)
    | with_reducible apply State.setRing_frame (hs₀ := Part.tr (by decide) hs₀)
    | with_reducible apply State.fetch_frame (hs₀ := Part.tr (by decide) hs₀)
    | with_reducible apply State.mailboxSpoof_frame (hs₀ := Part.tr (by decide) hs₀)
    | with_reducible refine Frame.ite ?_ ?_
    | with_reducible intro _

theorem State.setFront_frame {ps₀ : List Part} {s₀ : State} (s : State) (t : ℕ) (n : ℕ) (q : ℕ) (x : Xfer)
    (hs₀ : [.slices] ⊆ ps₀) (h₀ : Frame ps₀ s₀ s) :
    Frame ps₀ s₀ (State.setFront s t n q x) := by
  unfold State.setFront
  repeat' first
    | with_reducible assumption
    | with_reducible apply State.setRing_frame (hs₀ := Part.tr (by decide) hs₀)

theorem State.xferWrite_frame {ps₀ : List Part} {s₀ : State} (s : State) (t : ℕ) (n : ℕ) (q : ℕ) (x : Xfer) (b : Bytes)
    (hs₀ : [.objects, .results, .memory, .slices, .checks, .records, .out] ⊆ ps₀) (h₀ : Frame ps₀ s₀ s) :
    Frame ps₀ s₀ (State.xferWrite s t n q x b) := by
  unfold State.xferWrite
  repeat' first
    | with_reducible assumption
    | with_reducible apply State.noteTag_frame (hs₀ := Part.tr (by decide) hs₀)
    | with_reducible apply State.setFront_frame (hs₀ := Part.tr (by decide) hs₀)
    | with_reducible apply State.fetch_frame (hs₀ := Part.tr (by decide) hs₀)
    | with_reducible apply State.writeTagged_frame (hs₀ := Part.tr (by decide) hs₀)
    | with_reducible refine Frame.ite ?_ ?_

theorem State.cvXfer_frame {ps₀ : List Part} {s₀ : State} (s : State) (t : ℕ) (n : ℕ) (q : ℕ) (x : Xfer)
    (hs₀ : [.objects, .results, .checks, .records] ⊆ ps₀) (h₀ : Frame ps₀ s₀ s) :
    Frame ps₀ s₀ (State.cvXfer s t n q x) := by
  unfold State.cvXfer
  repeat' first
    | with_reducible assumption
    | with_reducible apply State.cvTransferStart_frame (hs₀ := Part.tr (by decide) hs₀)
    | with_reducible refine Frame.ite ?_ ?_

theorem execXferHostToStation_frame {ps₀ : List Part} {s₀ t₀ : State} (t : Fin 512) (n : Fin 8) (q : Fin 4) (data : Option Bytes) (s : State)
    (hs₀ : [.objects, .results, .memory, .slices, .checks, .records, .out] ⊆ ps₀) (e₀ : execXferHostToStation t n q data s = .next t₀) (h₀ : Frame ps₀ s₀ s) :
    Frame ps₀ s₀ t₀ := by
  unfold execXferHostToStation at e₀
  cases e₀
  repeat' first
    | with_reducible assumption
    | with_reducible apply State.setFront_frame (hs₀ := Part.tr (by decide) hs₀)
    | with_reducible apply State.xferWrite_frame (hs₀ := Part.tr (by decide) hs₀)
    | with_reducible apply State.cvXfer_frame (hs₀ := Part.tr (by decide) hs₀)
    | with_reducible apply State.emit_frame (hs₀ := Part.tr (by decide) hs₀)
    | with_reducible refine Frame.ite ?_ ?_
    | dsimp only
    | split

theorem execXferStationToHost_frame {ps₀ : List Part} {s₀ t₀ : State} (t : Fin 512) (n : Fin 8) (q : Fin 4) (s : State)
    (hs₀ : [.objects, .results, .slices, .checks, .records, .out] ⊆ ps₀) (e₀ : execXferStationToHost t n q s = .next t₀) (h₀ : Frame ps₀ s₀ s) :
    Frame ps₀ s₀ t₀ := by
  unfold execXferStationToHost at e₀
  cases e₀
  repeat' first
    | with_reducible assumption
    | with_reducible apply State.hostWrite_frame (hs₀ := Part.tr (by decide) hs₀)
    | with_reducible apply State.noteTag_frame (hs₀ := Part.tr (by decide) hs₀)
    | with_reducible apply State.setFront_frame (hs₀ := Part.tr (by decide) hs₀)
    | with_reducible apply State.cvXfer_frame (hs₀ := Part.tr (by decide) hs₀)
    | with_reducible refine Frame.ite ?_ ?_
    | dsimp only
    | split

theorem execXferFill_frame {ps₀ : List Part} {s₀ t₀ : State} (t : Fin 512) (n : Fin 8) (q : Fin 4) (s : State)
    (hs₀ : [.objects, .results, .memory, .slices, .checks, .records, .out] ⊆ ps₀) (e₀ : execXferFill t n q s = .next t₀) (h₀ : Frame ps₀ s₀ s) :
    Frame ps₀ s₀ t₀ := by
  unfold execXferFill at e₀
  cases e₀
  repeat' first
    | with_reducible assumption
    | with_reducible apply State.xferWrite_frame (hs₀ := Part.tr (by decide) hs₀)
    | with_reducible apply State.cvXfer_frame (hs₀ := Part.tr (by decide) hs₀)
    | split

theorem execTransferComplete_frame {ps₀ : List Part} {s₀ t₀ : State} (t : Fin 512) (n : Fin 8) (q : Fin 4) (s : State)
    (hs₀ : [.objects, .results, .memory, .slices, .ports, .checks, .records, .out, .free] ⊆ ps₀) (e₀ : execTransferComplete t n q s = .next t₀) (h₀ : Frame ps₀ s₀ s) :
    Frame ps₀ s₀ t₀ := by
  unfold execTransferComplete at e₀
  cases e₀
  repeat' first
    | with_reducible assumption
    | with_reducible apply State.drawNat_frame (hs₀ := Part.tr (by decide) hs₀)
    | with_reducible apply State.completion_frame (hs₀ := Part.tr (by decide) hs₀)
    | with_reducible apply State.setRing_frame (hs₀ := Part.tr (by decide) hs₀)
    | with_reducible apply State.fetch_frame (hs₀ := Part.tr (by decide) hs₀)
    | with_reducible apply State.cvTransfer_frame (hs₀ := Part.tr (by decide) hs₀)
    | with_reducible refine Frame.ite ?_ ?_
    | dsimp only
    | split

theorem execTouchLandHead_frame {ps₀ : List Part} {s₀ t₀ : State} (p : Fin 2) (t : Fin 512) (v : ℕ) (s : State)
    (hs₀ : [.objects, .slices, .crossings, .free] ⊆ ps₀) (e₀ : execTouchLandHead p t v s = .next t₀) (h₀ : Frame ps₀ s₀ s) :
    Frame ps₀ s₀ t₀ := by
  unfold execTouchLandHead at e₀
  cases e₀
  repeat' first
    | with_reducible assumption
    | with_reducible apply State.crossDoorbell_frame (hs₀ := Part.tr (by decide) hs₀)
    | with_reducible apply State.setSlc_frame (hs₀ := Part.tr (by decide) hs₀)
    | with_reducible apply State.onPage_frame (hs₀ := Part.tr (by decide) hs₀)
    | with_reducible refine Frame.each (fun _ _ _ => ?_) ?_
    | with_reducible intro _

theorem execNotifyLandHead_frame {ps₀ : List Part} {s₀ t₀ : State} (p : Fin 2) (t : Fin 512) (v : ℕ) (s : State)
    (hs₀ : [.objects, .slices, .crossings, .free] ⊆ ps₀) (e₀ : execNotifyLandHead p t v s = .next t₀) (h₀ : Frame ps₀ s₀ s) :
    Frame ps₀ s₀ t₀ := by
  unfold execNotifyLandHead at e₀
  cases e₀
  repeat' first
    | with_reducible assumption
    | with_reducible apply State.crossDoorbell_frame (hs₀ := Part.tr (by decide) hs₀)
    | with_reducible apply State.setSlc_frame (hs₀ := Part.tr (by decide) hs₀)
    | with_reducible apply State.onPage_frame (hs₀ := Part.tr (by decide) hs₀)
    | with_reducible refine Frame.each (fun _ _ _ => ?_) ?_
    | with_reducible intro _

theorem execLandingDelivery_frame {ps₀ : List Part} {s₀ t₀ : State} (t : Fin 512) (isTouch : Bool) (s : State)
    (hs₀ : [.objects, .slices, .ports, .touchQueues, .records, .out] ⊆ ps₀) (e₀ : execLandingDelivery t isTouch s = .next t₀) (h₀ : Frame ps₀ s₀ s) :
    Frame ps₀ s₀ t₀ := by
  unfold execLandingDelivery at e₀
  cases e₀
  repeat' first
    | with_reducible assumption
    | with_reducible apply State.countTenantItems_frame (hs₀ := Part.tr (by decide) hs₀)
    | with_reducible apply State.hostWrite_frame (hs₀ := Part.tr (by decide) hs₀)
    | with_reducible apply State.setSlc_frame (hs₀ := Part.tr (by decide) hs₀)
    | with_reducible apply State.irqMapped_frame (hs₀ := Part.tr (by decide) hs₀)
    | (conv => arg 3; arg 50); with_reducible refine Frame.set_noteQ (Part.lift hs₀ (by decide)) ?_
    | (conv => arg 3; arg 50); with_reducible refine Frame.set_touchQ (Part.lift hs₀ (by decide)) ?_
    | with_reducible refine Frame.ite ?_ ?_
    | dsimp only
    | split

theorem execMsixVectorUnmask_frame {ps₀ : List Part} {s₀ t₀ : State} (p : Fin 2) (v : Fin 2048) (s : State)
    (hs₀ : [.ports, .out] ⊆ ps₀) (e₀ : execMsixVectorUnmask p v s = .next t₀) (h₀ : Frame ps₀ s₀ s) :
    Frame ps₀ s₀ t₀ := by
  unfold execMsixVectorUnmask at e₀
  cases e₀
  repeat' first
    | with_reducible assumption
    | with_reducible apply State.setPrt_frame (hs₀ := Part.tr (by decide) hs₀)
    | with_reducible apply State.emit_frame (hs₀ := Part.tr (by decide) hs₀)
    | with_reducible refine Frame.ite ?_ ?_

/-! ### Machine/Settings.lean -/

theorem State.nextErase_frame {ps₀ : List Part} {s₀ : State} (s : State)
    (hs₀ : [.resets, .out] ⊆ ps₀) (h₀ : Frame ps₀ s₀ s) :
    Frame ps₀ s₀ (State.nextErase s) := by
  unfold State.nextErase
  repeat' first
    | with_reducible assumption
    | with_reducible apply State.emit_frame (hs₀ := Part.tr (by decide) hs₀)
    | (conv => arg 3; arg 50); with_reducible refine Frame.set_rst (Part.lift hs₀ (by decide)) ?_
    | with_reducible refine Frame.ite ?_ ?_
    | dsimp only
    | split

theorem execFlashEraseDone_frame {ps₀ : List Part} {s₀ t₀ : State} (s : State)
    (hs₀ : [.objects, .resets, .update, .out] ⊆ ps₀) (e₀ : execFlashEraseDone s = .next t₀) (h₀ : Frame ps₀ s₀ s) :
    Frame ps₀ s₀ t₀ := by
  unfold execFlashEraseDone at e₀
  cases e₀
  repeat' first
    | with_reducible assumption
    | with_reducible apply State.nextErase_frame (hs₀ := Part.tr (by decide) hs₀)
    | (conv => arg 3; arg 50); with_reducible refine Frame.set_rst (Part.lift hs₀ (by decide)) ?_
    | (conv => arg 3; arg 50); with_reducible refine Frame.set_settings_rst (Part.lift hs₀ (by decide)) (Part.lift hs₀ (by decide)) ?_
    | (conv => arg 3; arg 50); with_reducible refine Frame.set_rst_upd (Part.lift hs₀ (by decide)) (Part.lift hs₀ (by decide)) ?_
    | with_reducible refine Frame.ite ?_ ?_
    | dsimp only
    | split

theorem State.startSave_frame {ps₀ : List Part} {s₀ : State} (s : State)
    (hs₀ : [.objects, .free] ⊆ ps₀) (h₀ : Frame ps₀ s₀ s) :
    Frame ps₀ s₀ (State.startSave s) := by
  unfold State.startSave
  repeat' first
    | with_reducible assumption
    | with_reducible apply State.drawNat_frame (hs₀ := Part.tr (by decide) hs₀)
    | with_reducible apply State.wr_frame (hs₀ := Part.tr (by decide) hs₀)
    | (conv => arg 3; arg 50); with_reducible refine Frame.set_settings (Part.lift hs₀ (by decide)) ?_
    | with_reducible refine Frame.ite ?_ ?_

theorem execSettingsSaveTimer_frame {ps₀ : List Part} {s₀ t₀ : State} (s : State)
    (hs₀ : [.objects, .free] ⊆ ps₀) (e₀ : execSettingsSaveTimer s = .next t₀) (h₀ : Frame ps₀ s₀ s) :
    Frame ps₀ s₀ t₀ := by
  unfold execSettingsSaveTimer at e₀
  cases e₀
  repeat' first
    | with_reducible assumption
    | with_reducible apply State.startSave_frame (hs₀ := Part.tr (by decide) hs₀)
    | with_reducible apply State.firmware_frame (hs₀ := Part.tr (by decide) hs₀)
    | with_reducible refine Frame.ite ?_ ?_
    | with_reducible intro _
    | split

theorem execSettingsSave_frame {ps₀ : List Part} {s₀ t₀ : State} (who : Requester) (v : Bool) (s : State)
    (hs₀ : [.objects, .slices, .records, .pins, .out, .free] ⊆ ps₀) (e₀ : execSettingsSave who v s = .next t₀) (h₀ : Frame ps₀ s₀ s) :
    Frame ps₀ s₀ t₀ := by
  unfold execSettingsSave at e₀
  cases e₀
  repeat' first
    | with_reducible assumption
    | with_reducible apply State.answer_frame (hs₀ := Part.tr (by decide) hs₀)
    | with_reducible apply State.onWrite_frame (hs₀ := Part.tr (by decide) hs₀)
    | with_reducible apply State.startSave_frame (hs₀ := Part.tr (by decide) hs₀)
    | with_reducible apply State.guarded_frame (hs₀ := Part.tr (by decide) hs₀)
    | with_reducible refine Frame.ite ?_ ?_
    | with_reducible intro _

theorem execSettingsSaveDone_frame {ps₀ : List Part} {s₀ t₀ : State} (ok : Bool) (s : State)
    (hs₀ : [.objects, .resets, .records, .pins, .out] ⊆ ps₀) (e₀ : execSettingsSaveDone ok s = .next t₀) (h₀ : Frame ps₀ s₀ s) :
    Frame ps₀ s₀ t₀ := by
  unfold execSettingsSaveDone at e₀
  cases e₀
  repeat' first
    | with_reducible assumption
    | with_reducible apply State.nextErase_frame (hs₀ := Part.tr (by decide) hs₀)
    | with_reducible apply State.wr_frame (hs₀ := Part.tr (by decide) hs₀)
    | with_reducible apply State.clearAlarm_frame (hs₀ := Part.tr (by decide) hs₀)
    | with_reducible apply State.alarm_frame (hs₀ := Part.tr (by decide) hs₀)
    | with_reducible apply State.count_frame (hs₀ := Part.tr (by decide) hs₀)
    | (conv => arg 3; arg 50); with_reducible refine Frame.set_settings (Part.lift hs₀ (by decide)) ?_
    | with_reducible refine Frame.ite ?_ ?_
    | dsimp only
    | split

theorem State.settingsDefaults_frame {ps₀ : List Part} {s₀ : State} (s : State)
    (hs₀ : Part.allButQueue ⊆ ps₀) (h₀ : Frame ps₀ s₀ s) :
    Frame ps₀ s₀ (State.settingsDefaults s) := by
  unfold State.settingsDefaults
  repeat' first
    | with_reducible assumption
    | with_reducible apply State.writeEnable_frame (hs₀ := Part.tr (by decide) hs₀)
    | with_reducible apply State.syncSecure_frame (hs₀ := Part.tr (by decide) hs₀)
    | with_reducible apply State.holdCeilings_frame (hs₀ := Part.tr (by decide) hs₀)
    | with_reducible apply State.wr_frame (hs₀ := Part.tr (by decide) hs₀)
    | with_reducible apply State.syncZones_frame (hs₀ := Part.tr (by decide) hs₀)
    | with_reducible apply State.applyTarget_frame (hs₀ := Part.tr (by decide) hs₀)
    | with_reducible apply State.applyGate_frame (hs₀ := Part.tr (by decide) hs₀)
    | (conv => arg 3; arg 50); with_reducible refine Frame.set_regs_shadow_blobs_shadowBlobs_settings (Part.lift hs₀ (by decide)) (Part.lift hs₀ (by decide)) (Part.lift hs₀ (by decide)) ?_
    | with_reducible refine Frame.ite ?_ ?_
    | with_reducible refine Frame.each (fun _ _ _ => ?_) ?_

theorem execSettingsDefaults_frame {ps₀ : List Part} {s₀ t₀ : State} (who : Requester) (v : Bool) (s : State)
    (hs₀ : Part.allButQueue ⊆ ps₀) (e₀ : execSettingsDefaults who v s = .next t₀) (h₀ : Frame ps₀ s₀ s) :
    Frame ps₀ s₀ t₀ := by
  unfold execSettingsDefaults at e₀
  cases e₀
  repeat' first
    | with_reducible assumption
    | with_reducible apply State.answer_frame (hs₀ := Part.tr (by decide) hs₀)
    | with_reducible apply State.settingsDefaults_frame (hs₀ := Part.tr (by decide) hs₀)
    | with_reducible apply State.onWrite_frame (hs₀ := Part.tr (by decide) hs₀)
    | with_reducible apply State.startSave_frame (hs₀ := Part.tr (by decide) hs₀)
    | with_reducible apply State.guarded_frame (hs₀ := Part.tr (by decide) hs₀)
    | with_reducible refine Frame.ite ?_ ?_
    | with_reducible intro _

/-! ### Machine/Update.lean -/

theorem State.setBitmap_frame {ps₀ : List Part} {s₀ : State} (s : State) (b : Bytes)
    (hs₀ : [.objects, .texts] ⊆ ps₀) (h₀ : Frame ps₀ s₀ s) :
    Frame ps₀ s₀ (State.setBitmap s b) := by
  unfold State.setBitmap
  repeat' first
    | with_reducible assumption
    | with_reducible apply State.wr_frame (hs₀ := Part.tr (by decide) hs₀)
    | with_reducible apply State.wrBlob_frame (hs₀ := Part.tr (by decide) hs₀)

theorem State.putPieces_frame {ps₀ : List Part} {s₀ : State} (s : State) (l : List ℕ) (on : Bool)
    (hs₀ : [.objects, .texts] ⊆ ps₀) (h₀ : Frame ps₀ s₀ s) :
    Frame ps₀ s₀ (State.putPieces s l on) := by
  unfold State.putPieces
  repeat' first
    | with_reducible assumption
    | with_reducible apply State.setBitmap_frame (hs₀ := Part.tr (by decide) hs₀)

theorem State.checkPieces_frame {ps₀ : List Part} {s₀ : State} (s : State)
    (hs₀ : [.objects, .update] ⊆ ps₀) (h₀ : Frame ps₀ s₀ s) :
    Frame ps₀ s₀ (State.checkPieces s) := by
  unfold State.checkPieces
  repeat' first
    | with_reducible assumption
    | with_reducible apply State.wr_frame (hs₀ := Part.tr (by decide) hs₀)
    | with_reducible apply State.setUpd_frame (hs₀ := Part.tr (by decide) hs₀)
    | with_reducible refine Frame.ite ?_ ?_

theorem State.takeManifest_frame {ps₀ : List Part} {s₀ : State} (s : State) (b : Bytes)
    (hs₀ : [.objects, .texts, .update] ⊆ ps₀) (h₀ : Frame ps₀ s₀ s) :
    Frame ps₀ s₀ (State.takeManifest s b) := by
  unfold State.takeManifest
  repeat' first
    | with_reducible assumption
    | with_reducible apply State.checkPieces_frame (hs₀ := Part.tr (by decide) hs₀)
    | with_reducible apply State.wr_frame (hs₀ := Part.tr (by decide) hs₀)
    | with_reducible apply State.setBitmap_frame (hs₀ := Part.tr (by decide) hs₀)
    | with_reducible apply State.wrBlob_frame (hs₀ := Part.tr (by decide) hs₀)
    | with_reducible apply State.setUpd_frame (hs₀ := Part.tr (by decide) hs₀)
    | with_reducible refine Frame.ite ?_ ?_

theorem execManifest_frame {ps₀ : List Part} {s₀ t₀ : State} (who : Requester) (data : Bytes) (s : State)
    (hs₀ : [.objects, .texts, .results, .update, .slices, .records, .pins, .out] ⊆ ps₀) (e₀ : execManifest who data s = .next t₀) (h₀ : Frame ps₀ s₀ s) :
    Frame ps₀ s₀ t₀ := by
  unfold execManifest at e₀
  cases e₀
  repeat' first
    | with_reducible assumption
    | with_reducible apply State.onRequest_frame (hs₀ := Part.tr (by decide) hs₀)
    | with_reducible apply State.answer_frame (hs₀ := Part.tr (by decide) hs₀)
    | with_reducible apply State.finish_frame (hs₀ := Part.tr (by decide) hs₀)
    | with_reducible apply State.startResult_frame (hs₀ := Part.tr (by decide) hs₀)
    | with_reducible apply State.guarded_frame (hs₀ := Part.tr (by decide) hs₀)
    | with_reducible apply State.takeManifest_frame (hs₀ := Part.tr (by decide) hs₀)
    | with_reducible apply State.mailboxSpoof_frame (hs₀ := Part.tr (by decide) hs₀)
    | with_reducible refine Frame.ite ?_ ?_
    | with_reducible intro _
    | dsimp only
    | split

theorem State.pieceArrives_frame {ps₀ : List Part} {s₀ : State} (s : State) (b : Bytes)
    (hs₀ : [.objects, .results, .resets, .update, .checks, .records, .out] ⊆ ps₀) (h₀ : Frame ps₀ s₀ s) :
    Frame ps₀ s₀ (State.pieceArrives s b) := by
  unfold State.pieceArrives
  repeat' first
    | with_reducible assumption
    | with_reducible apply State.cvPiece_frame (hs₀ := Part.tr (by decide) hs₀)
    | with_reducible apply State.nextErase_frame (hs₀ := Part.tr (by decide) hs₀)
    | with_reducible apply State.setUpd_frame (hs₀ := Part.tr (by decide) hs₀)
    | with_reducible apply State.count_frame (hs₀ := Part.tr (by decide) hs₀)
    | with_reducible refine Frame.ite ?_ ?_
    | dsimp only
    | split

theorem execPieceStream_frame {ps₀ : List Part} {s₀ t₀ : State} (data : Bytes) (s : State)
    (hs₀ : [.objects, .results, .resets, .update, .checks, .records, .out] ⊆ ps₀) (e₀ : execPieceStream data s = .next t₀) (h₀ : Frame ps₀ s₀ s) :
    Frame ps₀ s₀ t₀ := by
  unfold execPieceStream at e₀
  cases e₀
  repeat' first
    | with_reducible assumption
    | with_reducible apply State.pieceArrives_frame (hs₀ := Part.tr (by decide) hs₀)
    | with_reducible refine Frame.ite ?_ ?_

theorem execPieceIn_frame {ps₀ : List Part} {s₀ t₀ : State} (who : Requester) (data : Bytes) (s : State)
    (hs₀ : [.objects, .results, .resets, .update, .slices, .checks, .records, .pins, .out] ⊆ ps₀) (e₀ : execPieceIn who data s = .next t₀) (h₀ : Frame ps₀ s₀ s) :
    Frame ps₀ s₀ t₀ := by
  unfold execPieceIn at e₀
  cases e₀
  repeat' first
    | with_reducible assumption
    | with_reducible apply State.pieceArrives_frame (hs₀ := Part.tr (by decide) hs₀)
    | with_reducible apply State.onRequest_frame (hs₀ := Part.tr (by decide) hs₀)
    | with_reducible apply State.answer_frame (hs₀ := Part.tr (by decide) hs₀)
    | with_reducible apply State.mailboxSpoof_frame (hs₀ := Part.tr (by decide) hs₀)
    | with_reducible refine Frame.ite ?_ ?_
    | with_reducible intro _
    | split

theorem execPieceProgrammed_frame {ps₀ : List Part} {s₀ t₀ : State} (s : State)
    (hs₀ : [.objects, .texts, .resets, .update, .out] ⊆ ps₀) (e₀ : execPieceProgrammed s = .next t₀) (h₀ : Frame ps₀ s₀ s) :
    Frame ps₀ s₀ t₀ := by
  unfold execPieceProgrammed at e₀
  cases e₀
  repeat' first
    | with_reducible assumption
    | with_reducible apply State.checkPieces_frame (hs₀ := Part.tr (by decide) hs₀)
    | with_reducible apply State.nextErase_frame (hs₀ := Part.tr (by decide) hs₀)
    | with_reducible apply State.putPieces_frame (hs₀ := Part.tr (by decide) hs₀)
    | with_reducible apply State.setUpd_frame (hs₀ := Part.tr (by decide) hs₀)
    | with_reducible apply State.emit_frame (hs₀ := Part.tr (by decide) hs₀)
    | with_reducible refine Frame.ite ?_ ?_
    | dsimp only
    | split

theorem execImageVerifyDone_frame {ps₀ : List Part} {s₀ t₀ : State} (s : State)
    (hs₀ : [.objects, .texts, .update] ⊆ ps₀) (e₀ : execImageVerifyDone s = .next t₀) (h₀ : Frame ps₀ s₀ s) :
    Frame ps₀ s₀ t₀ := by
  unfold execImageVerifyDone at e₀
  cases e₀
  repeat' first
    | with_reducible assumption
    | with_reducible apply State.wr_frame (hs₀ := Part.tr (by decide) hs₀)
    | with_reducible apply State.putPieces_frame (hs₀ := Part.tr (by decide) hs₀)
    | with_reducible apply State.firmware_frame (hs₀ := Part.tr (by decide) hs₀)
    | with_reducible apply State.setUpd_frame (hs₀ := Part.tr (by decide) hs₀)
    | with_reducible apply State.count_frame (hs₀ := Part.tr (by decide) hs₀)
    | with_reducible refine Frame.ite ?_ ?_
    | with_reducible refine Frame.each (fun _ _ _ => ?_) ?_
    | with_reducible intro _

theorem execImageCopyDone_frame {ps₀ : List Part} {s₀ t₀ : State} (s : State)
    (hs₀ : [.objects, .texts, .update] ⊆ ps₀) (e₀ : execImageCopyDone s = .next t₀) (h₀ : Frame ps₀ s₀ s) :
    Frame ps₀ s₀ t₀ := by
  unfold execImageCopyDone at e₀
  cases e₀
  repeat' first
    | with_reducible assumption
    | with_reducible apply State.wr_frame (hs₀ := Part.tr (by decide) hs₀)
    | with_reducible apply State.firmware_frame (hs₀ := Part.tr (by decide) hs₀)
    | with_reducible apply State.setUpd_frame (hs₀ := Part.tr (by decide) hs₀)
    | with_reducible apply State.extend_frame (hs₀ := Part.tr (by decide) hs₀)
    | with_reducible refine Frame.ite ?_ ?_
    | with_reducible refine Frame.each (fun _ _ _ => ?_) ?_
    | with_reducible intro _

theorem State.waitGap_frame {ps₀ : List Part} {s₀ : State} (s : State)
    (hs₀ : [.objects, .update] ⊆ ps₀) (h₀ : Frame ps₀ s₀ s) :
    Frame ps₀ s₀ (State.waitGap s) := by
  unfold State.waitGap
  repeat' first
    | with_reducible assumption
    | with_reducible apply State.syncStep_frame (hs₀ := Part.tr (by decide) hs₀)
    | with_reducible apply State.setUpd_frame (hs₀ := Part.tr (by decide) hs₀)

theorem State.endUpdate_frame {ps₀ : List Part} {s₀ : State} (s : State) (outcome : ℕ)
    (hs₀ : [.objects, .results, .update, .records] ⊆ ps₀) (h₀ : Frame ps₀ s₀ s) :
    Frame ps₀ s₀ (State.endUpdate s outcome) := by
  unfold State.endUpdate
  repeat' first
    | with_reducible assumption
    | with_reducible apply State.syncStep_frame (hs₀ := Part.tr (by decide) hs₀)
    | with_reducible apply State.wr_frame (hs₀ := Part.tr (by decide) hs₀)
    | with_reducible apply State.finish_frame (hs₀ := Part.tr (by decide) hs₀)
    | with_reducible apply State.setUpd_frame (hs₀ := Part.tr (by decide) hs₀)

theorem State.completeStep_frame {ps₀ : List Part} {s₀ : State} (s : State)
    (hs₀ : [.objects, .results, .update, .records] ⊆ ps₀) (h₀ : Frame ps₀ s₀ s) :
    Frame ps₀ s₀ (State.completeStep s) := by
  unfold State.completeStep
  repeat' first
    | with_reducible assumption
    | with_reducible apply State.syncStep_frame (hs₀ := Part.tr (by decide) hs₀)
    | with_reducible apply State.waitGap_frame (hs₀ := Part.tr (by decide) hs₀)
    | with_reducible apply State.wr_frame (hs₀ := Part.tr (by decide) hs₀)
    | with_reducible apply State.setUpd_frame (hs₀ := Part.tr (by decide) hs₀)
    | with_reducible apply State.endUpdate_frame (hs₀ := Part.tr (by decide) hs₀)
    | with_reducible refine Frame.ite ?_ ?_

theorem State.setDone_frame {ps₀ : List Part} {s₀ : State} (s : State) (k : ℕ)
    (hs₀ : [.update] ⊆ ps₀) (h₀ : Frame ps₀ s₀ s) :
    Frame ps₀ s₀ (State.setDone s k) := by
  unfold State.setDone
  repeat' first
    | with_reducible assumption
    | with_reducible apply State.setUpd_frame (hs₀ := Part.tr (by decide) hs₀)

theorem State.swapDone_frame {ps₀ : List Part} {s₀ : State} (s : State) (rank : ℕ) (n : ℕ)
    (hs₀ : [.objects, .results, .update, .records] ⊆ ps₀) (h₀ : Frame ps₀ s₀ s) :
    Frame ps₀ s₀ (State.swapDone s rank n) := by
  unfold State.swapDone
  repeat' first
    | with_reducible assumption
    | with_reducible apply State.waitGap_frame (hs₀ := Part.tr (by decide) hs₀)
    | with_reducible apply State.completeStep_frame (hs₀ := Part.tr (by decide) hs₀)
    | with_reducible apply State.setDone_frame (hs₀ := Part.tr (by decide) hs₀)
    | dsimp only
    | split

theorem State.nameTrial_frame {ps₀ : List Part} {s₀ : State} (s : State) (rank : ℕ)
    (hs₀ : [.update] ⊆ ps₀) (h₀ : Frame ps₀ s₀ s) :
    Frame ps₀ s₀ (State.nameTrial s rank) := by
  unfold State.nameTrial
  repeat' first
    | with_reducible assumption
    | with_reducible apply State.setUpd_frame (hs₀ := Part.tr (by decide) hs₀)

theorem State.startMgmt_frame {ps₀ : List Part} {s₀ : State} (s : State)
    (hs₀ : Part.allButQueue ⊆ ps₀) (h₀ : Frame ps₀ s₀ s) :
    Frame ps₀ s₀ (State.startMgmt s) := by
  unfold State.startMgmt
  repeat' first
    | with_reducible assumption
    | with_reducible apply State.drawBytes_frame (hs₀ := Part.tr (by decide) hs₀)
    | with_reducible apply State.syncStep_frame (hs₀ := Part.tr (by decide) hs₀)
    | with_reducible apply State.nameTrial_frame (hs₀ := Part.tr (by decide) hs₀)
    | with_reducible apply State.assertReset_frame (hs₀ := Part.tr (by decide) hs₀)
    | with_reducible apply State.setUpd_frame (hs₀ := Part.tr (by decide) hs₀)

theorem State.startSec_frame {ps₀ : List Part} {s₀ : State} (s : State)
    (hs₀ : Part.allButQueue ⊆ ps₀) (h₀ : Frame ps₀ s₀ s) :
    Frame ps₀ s₀ (State.startSec s) := by
  unfold State.startSec
  repeat' first
    | with_reducible assumption
    | with_reducible apply State.syncStep_frame (hs₀ := Part.tr (by decide) hs₀)
    | with_reducible apply State.nameTrial_frame (hs₀ := Part.tr (by decide) hs₀)
    | with_reducible apply State.assertReset_frame (hs₀ := Part.tr (by decide) hs₀)
    | with_reducible apply State.setUpd_frame (hs₀ := Part.tr (by decide) hs₀)

theorem State.waitSec_frame {ps₀ : List Part} {s₀ : State} (s : State)
    (hs₀ : [.objects, .update, .records] ⊆ ps₀) (h₀ : Frame ps₀ s₀ s) :
    Frame ps₀ s₀ (State.waitSec s) := by
  unfold State.waitSec
  repeat' first
    | with_reducible assumption
    | with_reducible apply State.toTenant_frame (hs₀ := Part.tr (by decide) hs₀)
    | with_reducible apply State.syncStep_frame (hs₀ := Part.tr (by decide) hs₀)
    | with_reducible apply State.setUpd_frame (hs₀ := Part.tr (by decide) hs₀)
    | with_reducible refine Frame.each (fun _ _ _ => ?_) ?_

theorem State.startNext_frame {ps₀ : List Part} {s₀ : State} (s : State)
    (hs₀ : Part.allButQueue ⊆ ps₀) (h₀ : Frame ps₀ s₀ s) :
    Frame ps₀ s₀ (State.startNext s) := by
  unfold State.startNext
  repeat' first
    | with_reducible assumption
    | with_reducible apply State.syncStep_frame (hs₀ := Part.tr (by decide) hs₀)
    | with_reducible apply State.nameTrial_frame (hs₀ := Part.tr (by decide) hs₀)
    | with_reducible apply State.completeStep_frame (hs₀ := Part.tr (by decide) hs₀)
    | with_reducible apply State.startMgmt_frame (hs₀ := Part.tr (by decide) hs₀)
    | with_reducible apply State.waitSec_frame (hs₀ := Part.tr (by decide) hs₀)
    | with_reducible apply State.setDone_frame (hs₀ := Part.tr (by decide) hs₀)
    | with_reducible apply State.setUpd_frame (hs₀ := Part.tr (by decide) hs₀)
    | with_reducible apply State.endUpdate_frame (hs₀ := Part.tr (by decide) hs₀)
    | with_reducible refine Frame.ite ?_ ?_
    | dsimp only
    | split

theorem State.apply_frame {ps₀ : List Part} {s₀ : State} (s : State) (who : Requester)
    (hs₀ : Part.allButQueue ⊆ ps₀) (h₀ : Frame ps₀ s₀ s) :
    Frame ps₀ s₀ (State.apply s who) := by
  unfold State.apply
  repeat' first
    | with_reducible assumption
    | with_reducible apply State.wr_frame (hs₀ := Part.tr (by decide) hs₀)
    | with_reducible apply State.startResult_frame (hs₀ := Part.tr (by decide) hs₀)
    | with_reducible apply State.startNext_frame (hs₀ := Part.tr (by decide) hs₀)
    | with_reducible apply State.setUpd_frame (hs₀ := Part.tr (by decide) hs₀)

theorem State.onUpdate_frame {ps₀ : List Part} {s₀ : State} (s : State) (who : Requester) (v : ℕ) (allowed : State → Bool) (f : State → State)
    (hs₀ : [.objects, .slices, .records, .pins, .out] ⊆ ps₀) (hf : ∀ x0, Frame ps₀ s₀ x0 → Frame ps₀ s₀ (f x0)) (h₀ : Frame ps₀ s₀ s) :
    Frame ps₀ s₀ (State.onUpdate s who v allowed f) := by
  unfold State.onUpdate
  repeat' first
    | with_reducible assumption
    | with_reducible apply State.answer_frame (hs₀ := Part.tr (by decide) hs₀)
    | with_reducible apply State.onWrite_frame (hs₀ := Part.tr (by decide) hs₀)
    | with_reducible apply State.guarded_frame (hs₀ := Part.tr (by decide) hs₀)
    | with_reducible apply hf
    | with_reducible refine Frame.ite ?_ ?_
    | with_reducible intro _

theorem execUpdateApply_frame {ps₀ : List Part} {s₀ t₀ : State} (who : Requester) (s : State)
    (hs₀ : Part.allButQueue ⊆ ps₀) (e₀ : execUpdateApply who s = .next t₀) (h₀ : Frame ps₀ s₀ s) :
    Frame ps₀ s₀ t₀ := by
  unfold execUpdateApply at e₀
  cases e₀
  repeat' first
    | with_reducible assumption
    | with_reducible apply State.apply_frame (hs₀ := Part.tr (by decide) hs₀)
    | with_reducible apply State.onUpdate_frame (hs₀ := Part.tr (by decide) hs₀)
    | with_reducible intro _

theorem execApplyAtReached_frame {ps₀ : List Part} {s₀ t₀ : State} (s : State)
    (hs₀ : Part.allButQueue ⊆ ps₀) (e₀ : execApplyAtReached s = .next t₀) (h₀ : Frame ps₀ s₀ s) :
    Frame ps₀ s₀ t₀ := by
  unfold execApplyAtReached at e₀
  cases e₀
  repeat' first
    | with_reducible assumption
    | with_reducible apply State.apply_frame (hs₀ := Part.tr (by decide) hs₀)
    | with_reducible apply State.firmware_frame (hs₀ := Part.tr (by decide) hs₀)
    | with_reducible refine Frame.ite ?_ ?_
    | with_reducible intro _

theorem execUpdateRevert_frame {ps₀ : List Part} {s₀ t₀ : State} (who : Requester) (s : State)
    (hs₀ : Part.allButQueue ⊆ ps₀) (e₀ : execUpdateRevert who s = .next t₀) (h₀ : Frame ps₀ s₀ s) :
    Frame ps₀ s₀ t₀ := by
  unfold execUpdateRevert at e₀
  cases e₀
  repeat' first
    | with_reducible assumption
    | with_reducible apply State.onUpdate_frame (hs₀ := Part.tr (by decide) hs₀)
    | with_reducible apply State.wr_frame (hs₀ := Part.tr (by decide) hs₀)
    | with_reducible apply State.startNext_frame (hs₀ := Part.tr (by decide) hs₀)
    | with_reducible apply State.setUpd_frame (hs₀ := Part.tr (by decide) hs₀)
    | with_reducible intro _

theorem execUpdateCancel_frame {ps₀ : List Part} {s₀ t₀ : State} (who : Requester) (s : State)
    (hs₀ : [.objects, .texts, .results, .resets, .update, .slices, .records, .pins, .out] ⊆ ps₀) (e₀ : execUpdateCancel who s = .next t₀) (h₀ : Frame ps₀ s₀ s) :
    Frame ps₀ s₀ t₀ := by
  unfold execUpdateCancel at e₀
  cases e₀
  repeat' first
    | with_reducible assumption
    | with_reducible apply State.onUpdate_frame (hs₀ := Part.tr (by decide) hs₀)
    | with_reducible apply State.nextErase_frame (hs₀ := Part.tr (by decide) hs₀)
    | with_reducible apply State.wr_frame (hs₀ := Part.tr (by decide) hs₀)
    | with_reducible apply State.setBitmap_frame (hs₀ := Part.tr (by decide) hs₀)
    | with_reducible apply State.setUpd_frame (hs₀ := Part.tr (by decide) hs₀)
    | with_reducible apply State.endUpdate_frame (hs₀ := Part.tr (by decide) hs₀)
    | with_reducible intro _

theorem execForceSec_frame {ps₀ : List Part} {s₀ t₀ : State} (who : Requester) (s : State)
    (hs₀ : Part.allButQueue ⊆ ps₀) (e₀ : execForceSec who s = .next t₀) (h₀ : Frame ps₀ s₀ s) :
    Frame ps₀ s₀ t₀ := by
  unfold execForceSec at e₀
  cases e₀
  repeat' first
    | with_reducible assumption
    | with_reducible apply State.startSec_frame (hs₀ := Part.tr (by decide) hs₀)
    | with_reducible apply State.onUpdate_frame (hs₀ := Part.tr (by decide) hs₀)

theorem execSecWaitEnd_frame {ps₀ : List Part} {s₀ t₀ : State} (s : State)
    (hs₀ : Part.allButQueue ⊆ ps₀) (e₀ : execSecWaitEnd s = .next t₀) (h₀ : Frame ps₀ s₀ s) :
    Frame ps₀ s₀ t₀ := by
  unfold execSecWaitEnd at e₀
  cases e₀
  repeat' first
    | with_reducible assumption
    | with_reducible apply State.startSec_frame (hs₀ := Part.tr (by decide) hs₀)
    | with_reducible apply State.firmware_frame (hs₀ := Part.tr (by decide) hs₀)
    | with_reducible refine Frame.ite ?_ ?_
    | with_reducible intro _

theorem execSecStepDone_frame {ps₀ : List Part} {s₀ t₀ : State} (trial : Bool) (s : State)
    (hs₀ : [.objects, .results, .update, .records] ⊆ ps₀) (e₀ : execSecStepDone trial s = .next t₀) (h₀ : Frame ps₀ s₀ s) :
    Frame ps₀ s₀ t₀ := by
  unfold execSecStepDone at e₀
  cases e₀
  repeat' first
    | with_reducible assumption
    | with_reducible apply State.failUpdate_frame (hs₀ := Part.tr (by decide) hs₀)
    | with_reducible apply State.completeStep_frame (hs₀ := Part.tr (by decide) hs₀)
    | with_reducible refine Frame.ite ?_ ?_

theorem State.convertSettings_frame {ps₀ : List Part} {s₀ : State} (s : State) (schema : Bytes) (converted : List (ℕ × GroupRec))
    (hs₀ : [.objects, .shadows, .texts, .update, .records, .pins, .out] ⊆ ps₀) (h₀ : Frame ps₀ s₀ s) :
    Frame ps₀ s₀ (State.convertSettings s schema converted) := by
  unfold State.convertSettings
  repeat' first
    | with_reducible assumption
    | with_reducible apply State.loadGroups_frame (hs₀ := Part.tr (by decide) hs₀)
    | with_reducible apply State.wrBlob_frame (hs₀ := Part.tr (by decide) hs₀)
    | with_reducible apply State.setUpd_frame (hs₀ := Part.tr (by decide) hs₀)
    | with_reducible apply State.reportResets_frame (hs₀ := Part.tr (by decide) hs₀)
    | (conv => arg 3; arg 50); with_reducible refine Frame.set_settings (Part.lift hs₀ (by decide)) ?_
    | with_reducible refine Frame.each (fun _ _ _ => ?_) ?_

theorem State.restoreSettings_frame {ps₀ : List Part} {s₀ : State} (s : State)
    (hs₀ : [.objects, .shadows, .texts, .update, .records] ⊆ ps₀) (h₀ : Frame ps₀ s₀ s) :
    Frame ps₀ s₀ (State.restoreSettings s) := by
  unfold State.restoreSettings
  repeat' first
    | with_reducible assumption
    | with_reducible apply State.loadGroups_frame (hs₀ := Part.tr (by decide) hs₀)
    | with_reducible apply State.toHwLog_frame (hs₀ := Part.tr (by decide) hs₀)
    | with_reducible apply State.wrBlob_frame (hs₀ := Part.tr (by decide) hs₀)
    | with_reducible apply State.setUpd_frame (hs₀ := Part.tr (by decide) hs₀)
    | (conv => arg 3; arg 50); with_reducible refine Frame.set_settings (Part.lift hs₀ (by decide)) ?_
    | dsimp only
    | split

theorem execMgmtStepDone_frame {ps₀ : List Part} {s₀ t₀ : State} (schema : Bytes) (converted : List (ℕ × GroupRec)) (translator : ℕ) (s : State)
    (hs₀ : [.objects, .shadows, .texts, .results, .update, .raster, .translator, .records, .pins, .out] ⊆ ps₀) (e₀ : execMgmtStepDone schema converted translator s = .next t₀) (h₀ : Frame ps₀ s₀ s) :
    Frame ps₀ s₀ t₀ := by
  unfold execMgmtStepDone at e₀
  cases e₀
  repeat' first
    | with_reducible assumption
    | with_reducible apply State.restoreSettings_frame (hs₀ := Part.tr (by decide) hs₀)
    | with_reducible apply State.retranslateOld_frame (hs₀ := Part.tr (by decide) hs₀)
    | with_reducible apply State.completeStep_frame (hs₀ := Part.tr (by decide) hs₀)
    | with_reducible apply State.convertSettings_frame (hs₀ := Part.tr (by decide) hs₀)
    | with_reducible apply State.withdrawOld_frame (hs₀ := Part.tr (by decide) hs₀)
    | with_reducible apply State.wr_frame (hs₀ := Part.tr (by decide) hs₀)
    | with_reducible apply State.firmware_frame (hs₀ := Part.tr (by decide) hs₀)
    | with_reducible refine Frame.ite ?_ ?_
    | with_reducible refine Frame.each (fun _ _ _ => ?_) ?_
    | with_reducible intro _

theorem execStnSwapStart_frame {ps₀ : List Part} {s₀ t₀ : State} (s : State)
    (hs₀ : Part.allButQueue ⊆ ps₀) (e₀ : execStnSwapStart s = .next t₀) (h₀ : Frame ps₀ s₀ s) :
    Frame ps₀ s₀ t₀ := by
  unfold execStnSwapStart at e₀
  cases e₀
  repeat' first
    | with_reducible assumption
    | with_reducible apply State.assertReset_frame (hs₀ := Part.tr (by decide) hs₀)
    | with_reducible apply State.setUpd_frame (hs₀ := Part.tr (by decide) hs₀)
    | with_reducible refine Frame.ite ?_ ?_
    | dsimp only
    | split

theorem execStnSwapDone_frame {ps₀ : List Part} {s₀ t₀ : State} (s : State)
    (hs₀ : [.objects, .results, .update, .records] ⊆ ps₀) (e₀ : execStnSwapDone s = .next t₀) (h₀ : Frame ps₀ s₀ s) :
    Frame ps₀ s₀ t₀ := by
  unfold execStnSwapDone at e₀
  cases e₀
  repeat' first
    | with_reducible assumption
    | with_reducible apply State.stReady_frame (hs₀ := Part.tr (by decide) hs₀)
    | with_reducible apply State.swapDone_frame (hs₀ := Part.tr (by decide) hs₀)
    | with_reducible refine Frame.ite ?_ ?_
    | split

theorem execStnSwapTimeout_frame {ps₀ : List Part} {s₀ t₀ : State} (s : State)
    (hs₀ : [.objects, .resets, .stations, .update] ⊆ ps₀) (e₀ : execStnSwapTimeout s = .next t₀) (h₀ : Frame ps₀ s₀ s) :
    Frame ps₀ s₀ t₀ := by
  unfold execStnSwapTimeout at e₀
  cases e₀
  repeat' first
    | with_reducible assumption
    | with_reducible apply State.stReady_frame (hs₀ := Part.tr (by decide) hs₀)
    | with_reducible apply State.failUpdate_frame (hs₀ := Part.tr (by decide) hs₀)
    | with_reducible apply State.setCtl_frame (hs₀ := Part.tr (by decide) hs₀)
    | (conv => arg 3; arg 50); with_reducible refine Frame.set_rst (Part.lift hs₀ (by decide)) ?_
    | with_reducible refine Frame.ite ?_ ?_
    | dsimp only
    | split

theorem execTchMicrocodeSwap_frame {ps₀ : List Part} {s₀ t₀ : State} (n : Fin 8) (digest : Bytes) (ok : Bool) (s : State)
    (hs₀ : [.objects, .texts, .results, .update, .touch, .records] ⊆ ps₀) (e₀ : execTchMicrocodeSwap n digest ok s = .next t₀) (h₀ : Frame ps₀ s₀ s) :
    Frame ps₀ s₀ t₀ := by
  unfold execTchMicrocodeSwap at e₀
  cases e₀
  repeat' first
    | with_reducible assumption
    | with_reducible apply State.setTch_frame (hs₀ := Part.tr (by decide) hs₀)
    | with_reducible apply State.failUpdate_frame (hs₀ := Part.tr (by decide) hs₀)
    | with_reducible apply State.swapDone_frame (hs₀ := Part.tr (by decide) hs₀)
    | with_reducible apply State.extend_frame (hs₀ := Part.tr (by decide) hs₀)
    | with_reducible refine Frame.ite ?_ ?_

theorem execUpdateGapElapsed_frame {ps₀ : List Part} {s₀ t₀ : State} (s : State)
    (hs₀ : Part.allButQueue ⊆ ps₀) (e₀ : execUpdateGapElapsed s = .next t₀) (h₀ : Frame ps₀ s₀ s) :
    Frame ps₀ s₀ t₀ := by
  unfold execUpdateGapElapsed at e₀
  cases e₀
  repeat' first
    | with_reducible assumption
    | with_reducible apply State.firmware_frame (hs₀ := Part.tr (by decide) hs₀)
    | with_reducible apply State.startNext_frame (hs₀ := Part.tr (by decide) hs₀)
    | with_reducible refine Frame.ite ?_ ?_
    | with_reducible intro _

theorem execRevertStepDone_frame {ps₀ : List Part} {s₀ t₀ : State} (s : State)
    (hs₀ : [.objects, .shadows, .texts, .results, .update, .records] ⊆ ps₀) (e₀ : execRevertStepDone s = .next t₀) (h₀ : Frame ps₀ s₀ s) :
    Frame ps₀ s₀ t₀ := by
  unfold execRevertStepDone at e₀
  cases e₀
  repeat' first
    | with_reducible assumption
    | with_reducible apply State.restoreSettings_frame (hs₀ := Part.tr (by decide) hs₀)
    | with_reducible apply State.completeStep_frame (hs₀ := Part.tr (by decide) hs₀)
    | with_reducible apply State.endUpdate_frame (hs₀ := Part.tr (by decide) hs₀)
    | with_reducible refine Frame.ite ?_ ?_
    | split

theorem State.programFuses_frame {ps₀ : List Part} {s₀ : State} (s : State) (due : List (ℕ × ℕ)) (fails : List ℕ)
    (hs₀ : [.objects, .resets, .update] ⊆ ps₀) (h₀ : Frame ps₀ s₀ s) :
    Frame ps₀ s₀ (State.programFuses s due fails) := by
  unfold State.programFuses
  repeat' first
    | with_reducible assumption
    | with_reducible apply State.wr_frame (hs₀ := Part.tr (by decide) hs₀)
    | (conv => arg 3; arg 50); with_reducible refine Frame.set_rst_upd (Part.lift hs₀ (by decide)) (Part.lift hs₀ (by decide)) ?_
    | with_reducible refine Frame.ite ?_ ?_
    | with_reducible refine Frame.each (fun _ _ _ => ?_) ?_
    | dsimp only

theorem State.commitUpdate_frame {ps₀ : List Part} {s₀ : State} (s : State) (fails : List ℕ)
    (hs₀ : [.objects, .texts, .results, .resets, .update, .records, .out] ⊆ ps₀) (h₀ : Frame ps₀ s₀ s) :
    Frame ps₀ s₀ (State.commitUpdate s fails) := by
  unfold State.commitUpdate
  repeat' first
    | with_reducible assumption
    | with_reducible apply State.nextErase_frame (hs₀ := Part.tr (by decide) hs₀)
    | with_reducible apply State.wr_frame (hs₀ := Part.tr (by decide) hs₀)
    | with_reducible apply State.wrBlob_frame (hs₀ := Part.tr (by decide) hs₀)
    | with_reducible apply State.programFuses_frame (hs₀ := Part.tr (by decide) hs₀)
    | with_reducible apply State.setUpd_frame (hs₀ := Part.tr (by decide) hs₀)
    | with_reducible apply State.endUpdate_frame (hs₀ := Part.tr (by decide) hs₀)
    | (conv => arg 3; arg 50); with_reducible refine Frame.set_settings_upd (Part.lift hs₀ (by decide)) (Part.lift hs₀ (by decide)) ?_
    | with_reducible refine Frame.each (fun _ _ _ => ?_) ?_
    | dsimp only
    | split

theorem execUpdateCommit_frame {ps₀ : List Part} {s₀ t₀ : State} (who : Requester) (fails : List ℕ) (s : State)
    (hs₀ : [.objects, .texts, .results, .resets, .update, .slices, .records, .pins, .out] ⊆ ps₀) (e₀ : execUpdateCommit who fails s = .next t₀) (h₀ : Frame ps₀ s₀ s) :
    Frame ps₀ s₀ t₀ := by
  unfold execUpdateCommit at e₀
  cases e₀
  repeat' first
    | with_reducible assumption
    | with_reducible apply State.onUpdate_frame (hs₀ := Part.tr (by decide) hs₀)
    | with_reducible apply State.commitUpdate_frame (hs₀ := Part.tr (by decide) hs₀)
    | with_reducible intro _

theorem execTrialExpired_frame {ps₀ : List Part} {s₀ t₀ : State} (fails : List ℕ) (s : State)
    (hs₀ : [.objects, .texts, .results, .resets, .update, .records, .out] ⊆ ps₀) (e₀ : execTrialExpired fails s = .next t₀) (h₀ : Frame ps₀ s₀ s) :
    Frame ps₀ s₀ t₀ := by
  unfold execTrialExpired at e₀
  cases e₀
  repeat' first
    | with_reducible assumption
    | with_reducible apply State.firmware_frame (hs₀ := Part.tr (by decide) hs₀)
    | with_reducible apply State.commitUpdate_frame (hs₀ := Part.tr (by decide) hs₀)
    | with_reducible refine Frame.ite ?_ ?_
    | with_reducible intro _

end Sys2Proof.Machine
end

