-- ==== Sys2Proof/Laws/FrameNetwork.lean ====
section
/-! SUPPORT. Which parts of the state the functions of the field network and the hierarchy leave alone. -/
namespace Sys2Proof.Machine

/-! ### Machine/Network.lean -/

theorem State.setNet_frame {ps₀ : List Part} {s₀ : State} (s : State) (v : Net)
    (hs₀ : [.network] ⊆ ps₀) (h₀ : Frame ps₀ s₀ s) :
    Frame ps₀ s₀ (State.setNet s v) := by
  unfold State.setNet
  repeat' first
    | with_reducible assumption
    | (conv => arg 3; arg 50); with_reducible refine Frame.set_net (Part.lift hs₀ (by decide)) ?_

theorem State.egress_frame {ps₀ : List Part} {s₀ : State} (s : State) (from_ : ℕ) (e : EgressFrame)
    (hs₀ : [.objects, .out] ⊆ ps₀) (h₀ : Frame ps₀ s₀ s) :
    Frame ps₀ s₀ (State.egress s from_ e) := by
  unfold State.egress
  repeat' first
    | with_reducible assumption
    | with_reducible apply State.count_frame (hs₀ := Part.tr (by decide) hs₀)
    | with_reducible apply State.emit_frame (hs₀ := Part.tr (by decide) hs₀)
    | with_reducible refine Frame.ite ?_ ?_

theorem State.toEgress_frame {ps₀ : List Part} {s₀ : State} (s : State) (from_ : ℕ) (port : ℕ) (cls : ℕ) (data : Bytes)
    (hs₀ : [.objects, .network, .out] ⊆ ps₀) (h₀ : Frame ps₀ s₀ s) :
    Frame ps₀ s₀ (State.toEgress s from_ port cls data) := by
  unfold State.toEgress
  repeat' first
    | with_reducible assumption
    | with_reducible apply State.egress_frame (hs₀ := Part.tr (by decide) hs₀)
    | with_reducible apply State.setNet_frame (hs₀ := Part.tr (by decide) hs₀)
    | with_reducible refine Frame.ite ?_ ?_

theorem State.learn_frame {ps₀ : List Part} {s₀ : State} (s : State) (mac : ℕ) (port : ℕ)
    (hs₀ : [.network] ⊆ ps₀) (h₀ : Frame ps₀ s₀ s) :
    Frame ps₀ s₀ (State.learn s mac port) := by
  unfold State.learn
  repeat' first
    | with_reducible assumption
    | with_reducible apply State.setNet_frame (hs₀ := Part.tr (by decide) hs₀)
    | with_reducible refine Frame.ite ?_ ?_

theorem execSwitchFrame_frame {ps₀ : List Part} {s₀ t₀ : State} (port : Fin 2) (frame : Bytes) (bad : Bool) (leased : ℕ) (s : State)
    (hs₀ : [.objects, .network, .out] ⊆ ps₀) (e₀ : execSwitchFrame port frame bad leased s = .next t₀) (h₀ : Frame ps₀ s₀ s) :
    Frame ps₀ s₀ t₀ := by
  unfold execSwitchFrame at e₀
  cases e₀
  repeat' first
    | with_reducible assumption
    | with_reducible apply State.toEgress_frame (hs₀ := Part.tr (by decide) hs₀)
    | with_reducible apply State.learn_frame (hs₀ := Part.tr (by decide) hs₀)
    | with_reducible apply State.count_frame (hs₀ := Part.tr (by decide) hs₀)
    | with_reducible refine Frame.ite ?_ ?_
    | dsimp only
    | split

theorem execMacEntryAged_frame {ps₀ : List Part} {s₀ t₀ : State} (mac : ℕ) (s : State)
    (hs₀ : [.network] ⊆ ps₀) (e₀ : execMacEntryAged mac s = .next t₀) (h₀ : Frame ps₀ s₀ s) :
    Frame ps₀ s₀ t₀ := by
  unfold execMacEntryAged at e₀
  cases e₀
  repeat' first
    | with_reducible assumption
    | with_reducible apply State.setNet_frame (hs₀ := Part.tr (by decide) hs₀)

theorem execQbvGateEvent_frame {ps₀ : List Part} {s₀ t₀ : State} (port : Fin 3) (gates : ℕ) (s : State)
    (hs₀ : [.objects, .network, .out] ⊆ ps₀) (e₀ : execQbvGateEvent port gates s = .next t₀) (h₀ : Frame ps₀ s₀ s) :
    Frame ps₀ s₀ t₀ := by
  unfold execQbvGateEvent at e₀
  cases e₀
  repeat' first
    | with_reducible assumption
    | with_reducible apply State.egress_frame (hs₀ := Part.tr (by decide) hs₀)
    | with_reducible apply State.setNet_frame (hs₀ := Part.tr (by decide) hs₀)
    | with_reducible refine Frame.ite ?_ ?_
    | with_reducible refine Frame.each (fun _ _ _ => ?_) ?_

theorem State.linkDown_frame {ps₀ : List Part} {s₀ : State} (s : State) (port : ℕ)
    (hs₀ : [.objects, .network] ⊆ ps₀) (h₀ : Frame ps₀ s₀ s) :
    Frame ps₀ s₀ (State.linkDown s port) := by
  unfold State.linkDown
  repeat' first
    | with_reducible assumption
    | with_reducible apply State.setNet_frame (hs₀ := Part.tr (by decide) hs₀)
    | with_reducible apply State.wr_frame (hs₀ := Part.tr (by decide) hs₀)

theorem execEthLinkChange_frame {ps₀ : List Part} {s₀ t₀ : State} (port : Fin 2) (speed : Fin 4) (s : State)
    (hs₀ : [.objects, .network] ⊆ ps₀) (e₀ : execEthLinkChange port speed s = .next t₀) (h₀ : Frame ps₀ s₀ s) :
    Frame ps₀ s₀ t₀ := by
  unfold execEthLinkChange at e₀
  cases e₀
  repeat' first
    | with_reducible assumption
    | with_reducible apply State.linkDown_frame (hs₀ := Part.tr (by decide) hs₀)
    | with_reducible apply State.wr_frame (hs₀ := Part.tr (by decide) hs₀)
    | with_reducible refine Frame.ite ?_ ?_

theorem execEthernetPllLockLost_frame {ps₀ : List Part} {s₀ t₀ : State} (s : State)
    (hs₀ : [.objects, .network] ⊆ ps₀) (e₀ : execEthernetPllLockLost s = .next t₀) (h₀ : Frame ps₀ s₀ s) :
    Frame ps₀ s₀ t₀ := by
  unfold execEthernetPllLockLost at e₀
  cases e₀
  repeat' first
    | with_reducible assumption
    | with_reducible apply State.linkDown_frame (hs₀ := Part.tr (by decide) hs₀)
    | with_reducible apply State.count_frame (hs₀ := Part.tr (by decide) hs₀)
    | with_reducible refine Frame.ite ?_ ?_

theorem execPtpMessage_frame {ps₀ : List Part} {s₀ t₀ : State} (m : PtpMessage) (s : State)
    (hs₀ : [.objects, .network, .records, .pins, .out] ⊆ ps₀) (e₀ : execPtpMessage m s = .next t₀) (h₀ : Frame ps₀ s₀ s) :
    Frame ps₀ s₀ t₀ := by
  unfold execPtpMessage at e₀
  cases e₀
  repeat' first
    | with_reducible assumption
    | with_reducible apply State.setNet_frame (hs₀ := Part.tr (by decide) hs₀)
    | with_reducible apply State.wr_frame (hs₀ := Part.tr (by decide) hs₀)
    | with_reducible apply State.clearAlarm_frame (hs₀ := Part.tr (by decide) hs₀)
    | with_reducible refine Frame.ite ?_ ?_
    | dsimp only
    | split

theorem execPtpSyncTimeout_frame {ps₀ : List Part} {s₀ t₀ : State} (s : State)
    (hs₀ : [.objects, .records, .pins, .out] ⊆ ps₀) (e₀ : execPtpSyncTimeout s = .next t₀) (h₀ : Frame ps₀ s₀ s) :
    Frame ps₀ s₀ t₀ := by
  unfold execPtpSyncTimeout at e₀
  cases e₀
  repeat' first
    | with_reducible assumption
    | with_reducible apply State.wr_frame (hs₀ := Part.tr (by decide) hs₀)
    | with_reducible apply State.alarm_frame (hs₀ := Part.tr (by decide) hs₀)
    | with_reducible refine Frame.ite ?_ ?_

theorem execArpRequest_frame {ps₀ : List Part} {s₀ t₀ : State} (port : Fin 2) (sender : ℕ) (target : ℕ) (leased : ℕ) (s : State)
    (hs₀ : [.out] ⊆ ps₀) (e₀ : execArpRequest port sender target leased s = .next t₀) (h₀ : Frame ps₀ s₀ s) :
    Frame ps₀ s₀ t₀ := by
  unfold execArpRequest at e₀
  cases e₀
  repeat' first
    | with_reducible assumption
    | with_reducible apply State.emit_frame (hs₀ := Part.tr (by decide) hs₀)
    | with_reducible refine Frame.ite ?_ ?_

theorem execIcmpEcho_frame {ps₀ : List Part} {s₀ t₀ : State} (port : Fin 2) (sender : ℕ) (target : ℕ) (leased : ℕ) (data : Bytes) (s : State)
    (hs₀ : [.out] ⊆ ps₀) (e₀ : execIcmpEcho port sender target leased data s = .next t₀) (h₀ : Frame ps₀ s₀ s) :
    Frame ps₀ s₀ t₀ := by
  unfold execIcmpEcho at e₀
  cases e₀
  repeat' first
    | with_reducible assumption
    | with_reducible apply State.emit_frame (hs₀ := Part.tr (by decide) hs₀)
    | with_reducible refine Frame.ite ?_ ?_

/-! ### Machine/Grants.lean -/

theorem State.setPeer_frame {ps₀ : List Part} {s₀ : State} (s : State) (k : ℕ) (p : Peer)
    (hs₀ : [.network] ⊆ ps₀) (h₀ : Frame ps₀ s₀ s) :
    Frame ps₀ s₀ (State.setPeer s k p) := by
  unfold State.setPeer
  repeat' first
    | with_reducible assumption
    | with_reducible apply State.setNet_frame (hs₀ := Part.tr (by decide) hs₀)

theorem State.dropGranted_frame {ps₀ : List Part} {s₀ : State} (s : State) (id : PeerId)
    (hs₀ : [.objects] ⊆ ps₀) (h₀ : Frame ps₀ s₀ s) :
    Frame ps₀ s₀ (State.dropGranted s id) := by
  unfold State.dropGranted
  repeat' first
    | with_reducible assumption
    | with_reducible apply State.wr_frame (hs₀ := Part.tr (by decide) hs₀)
    | (conv => arg 3; arg 50); with_reducible refine Frame.set_subscriptions (Part.lift hs₀ (by decide)) ?_

theorem State.endSession_frame {ps₀ : List Part} {s₀ : State} (s : State) (k : ℕ)
    (hs₀ : [.objects, .network] ⊆ ps₀) (h₀ : Frame ps₀ s₀ s) :
    Frame ps₀ s₀ (State.endSession s k) := by
  unfold State.endSession
  repeat' first
    | with_reducible assumption
    | with_reducible apply State.dropGranted_frame (hs₀ := Part.tr (by decide) hs₀)
    | with_reducible apply State.setPeer_frame (hs₀ := Part.tr (by decide) hs₀)
    | (conv => arg 3; arg 50); with_reducible refine Frame.set_peerLevel (Part.lift hs₀ (by decide)) ?_
    | dsimp only
    | split

theorem State.newSession_frame {ps₀ : List Part} {s₀ : State} (s : State)
    (hs₀ : [.free] ⊆ ps₀) (h₀ : Frame ps₀ s₀ s) :
    Frame ps₀ s₀ (State.newSession s).2 := by
  unfold State.newSession
  repeat' first
    | with_reducible assumption
    | with_reducible apply State.drawNat_frame (hs₀ := Part.tr (by decide) hs₀)

theorem State.newSession_out {ps₀ : List Part} {s₀ : State} (s : State) {y₀ z₀}
    (hs₀ : [.free] ⊆ ps₀) (e₀ : State.newSession s = (y₀, z₀)) (h₀ : Frame ps₀ s₀ s) : Frame ps₀ s₀ z₀ := by
  have x₀ := State.newSession_frame s hs₀ h₀; rw [e₀] at x₀; exact x₀

theorem execGrantChallenge_frame {ps₀ : List Part} {s₀ t₀ : State} (who : Requester) (s : State)
    (hs₀ : [.network, .out, .free] ⊆ ps₀) (e₀ : execGrantChallenge who s = .next t₀) (h₀ : Frame ps₀ s₀ s) :
    Frame ps₀ s₀ t₀ := by
  unfold execGrantChallenge at e₀
  cases e₀
  repeat' first
    | with_reducible assumption
    | with_reducible apply State.drawBytes_frame (hs₀ := Part.tr (by decide) hs₀)
    | with_reducible apply State.answer_frame (hs₀ := Part.tr (by decide) hs₀)
    | with_reducible apply State.onRead_frame (hs₀ := Part.tr (by decide) hs₀)
    | with_reducible apply State.setPeer_frame (hs₀ := Part.tr (by decide) hs₀)
    | with_reducible intro _
    | split

theorem State.openSession_frame {ps₀ : List Part} {s₀ : State} (s : State) (k : ℕ) (p : Peer) (q : GrantReq)
    (hs₀ : [.objects, .texts, .results, .network, .records, .free] ⊆ ps₀) (h₀ : Frame ps₀ s₀ s) :
    Frame ps₀ s₀ (State.openSession s k p q) := by
  unfold State.openSession
  repeat' first
    | with_reducible assumption
    | with_reducible apply State.newSession_frame (hs₀ := Part.tr (by decide) hs₀)
    | with_reducible apply State.drawBytes_frame (hs₀ := Part.tr (by decide) hs₀)
    | with_reducible apply State.completeResult_frame (hs₀ := Part.tr (by decide) hs₀)
    | with_reducible apply State.wrBlob_frame (hs₀ := Part.tr (by decide) hs₀)
    | with_reducible apply State.setPeer_frame (hs₀ := Part.tr (by decide) hs₀)
    | (conv => arg 3; arg 50); with_reducible refine Frame.set_peerLevel (Part.lift hs₀ (by decide)) ?_

theorem execGrantRequest_frame {ps₀ : List Part} {s₀ t₀ : State} (who : Requester) (data : Bytes) (pub : Bytes) (s : State)
    (hs₀ : [.objects, .texts, .results, .network, .slices, .records, .pins, .out, .free] ⊆ ps₀) (e₀ : execGrantRequest who data pub s = .next t₀) (h₀ : Frame ps₀ s₀ s) :
    Frame ps₀ s₀ t₀ := by
  unfold execGrantRequest at e₀
  cases e₀
  repeat' first
    | with_reducible assumption
    | with_reducible apply State.onRequest_frame (hs₀ := Part.tr (by decide) hs₀)
    | with_reducible apply State.answer_frame (hs₀ := Part.tr (by decide) hs₀)
    | with_reducible apply State.openSession_frame (hs₀ := Part.tr (by decide) hs₀)
    | with_reducible apply State.completeResult_frame (hs₀ := Part.tr (by decide) hs₀)
    | with_reducible apply State.startResult_frame (hs₀ := Part.tr (by decide) hs₀)
    | with_reducible apply State.guarded_frame (hs₀ := Part.tr (by decide) hs₀)
    | with_reducible apply State.mailboxSpoof_frame (hs₀ := Part.tr (by decide) hs₀)
    | with_reducible refine Frame.ite ?_ ?_
    | with_reducible intro _
    | dsimp only
    | split

theorem execGrantEnd_frame {ps₀ : List Part} {s₀ t₀ : State} (who : Requester) (v : ℕ) (s : State)
    (hs₀ : [.objects, .network, .slices, .records, .pins, .out] ⊆ ps₀) (e₀ : execGrantEnd who v s = .next t₀) (h₀ : Frame ps₀ s₀ s) :
    Frame ps₀ s₀ t₀ := by
  unfold execGrantEnd at e₀
  cases e₀
  repeat' first
    | with_reducible assumption
    | with_reducible apply State.answer_frame (hs₀ := Part.tr (by decide) hs₀)
    | with_reducible apply State.onWrite_frame (hs₀ := Part.tr (by decide) hs₀)
    | with_reducible apply State.endSession_frame (hs₀ := Part.tr (by decide) hs₀)
    | with_reducible refine Frame.ite ?_ ?_
    | with_reducible intro _
    | dsimp only
    | split

theorem execSessionIdle_frame {ps₀ : List Part} {s₀ t₀ : State} (k : Fin 32) (s : State)
    (hs₀ : [.objects, .network] ⊆ ps₀) (e₀ : execSessionIdle k s = .next t₀) (h₀ : Frame ps₀ s₀ s) :
    Frame ps₀ s₀ t₀ := by
  unfold execSessionIdle at e₀
  cases e₀
  repeat' first
    | with_reducible assumption
    | with_reducible apply State.firmware_frame (hs₀ := Part.tr (by decide) hs₀)
    | with_reducible apply State.endSession_frame (hs₀ := Part.tr (by decide) hs₀)
    | with_reducible refine Frame.ite ?_ ?_
    | with_reducible intro _
    | split

theorem State.freePeer_frame {ps₀ : List Part} {s₀ : State} (s : State) (k : ℕ)
    (hs₀ : [.network] ⊆ ps₀) (h₀ : Frame ps₀ s₀ s) :
    Frame ps₀ s₀ (State.freePeer s k) := by
  unfold State.freePeer
  repeat' first
    | with_reducible assumption
    | with_reducible apply State.setNet_frame (hs₀ := Part.tr (by decide) hs₀)
    | (conv => arg 3; arg 50); with_reducible refine Frame.set_peerLevel (Part.lift hs₀ (by decide)) ?_

theorem execPeerRecordIdle_frame {ps₀ : List Part} {s₀ t₀ : State} (k : Fin 32) (s : State)
    (hs₀ : [.network] ⊆ ps₀) (e₀ : execPeerRecordIdle k s = .next t₀) (h₀ : Frame ps₀ s₀ s) :
    Frame ps₀ s₀ t₀ := by
  unfold execPeerRecordIdle at e₀
  cases e₀
  repeat' first
    | with_reducible assumption
    | with_reducible apply State.freePeer_frame (hs₀ := Part.tr (by decide) hs₀)
    | with_reducible apply State.firmware_frame (hs₀ := Part.tr (by decide) hs₀)
    | with_reducible refine Frame.ite ?_ ?_
    | with_reducible intro _
    | split

theorem State.endKeySessions_frame {ps₀ : List Part} {s₀ : State} (s : State) (level : Level)
    (hs₀ : [.objects, .network] ⊆ ps₀) (h₀ : Frame ps₀ s₀ s) :
    Frame ps₀ s₀ (State.endKeySessions s level) := by
  unfold State.endKeySessions
  repeat' first
    | with_reducible assumption
    | with_reducible apply State.endSession_frame (hs₀ := Part.tr (by decide) hs₀)
    | with_reducible refine Frame.each (fun _ _ _ => ?_) ?_

theorem State.placePeer_frame {ps₀ : List Part} {s₀ : State} (s : State)
    (hs₀ : [.network, .free] ⊆ ps₀) (h₀ : Frame ps₀ s₀ s) :
    Frame ps₀ s₀ (State.placePeer s).2 := by
  unfold State.placePeer
  repeat' first
    | with_reducible assumption
    | with_reducible apply State.drawNat_frame (hs₀ := Part.tr (by decide) hs₀)
    | with_reducible apply State.freePeer_frame (hs₀ := Part.tr (by decide) hs₀)
    | with_reducible refine Frame.iteSnd ?_ ?_
    | split

theorem State.placePeer_out {ps₀ : List Part} {s₀ : State} (s : State) {y₀ z₀}
    (hs₀ : [.network, .free] ⊆ ps₀) (e₀ : State.placePeer s = (y₀, z₀)) (h₀ : Frame ps₀ s₀ s) : Frame ps₀ s₀ z₀ := by
  have x₀ := State.placePeer_frame s hs₀ h₀; rw [e₀] at x₀; exact x₀

theorem State.takeSeq_frame {ps₀ : List Part} {s₀ : State} (s : State) (id : PeerId) (seq : ℕ)
    (hs₀ : [.objects, .network, .free] ⊆ ps₀) (h₀ : Frame ps₀ s₀ s) :
    Frame ps₀ s₀ (State.takeSeq s id seq).2 := by
  unfold State.takeSeq
  repeat' first
    | with_reducible assumption
    | refine State.placePeer_out (hs₀ := Part.tr (by decide) hs₀) (e₀ := by with_reducible assumption) (h₀ := ?_)
    | with_reducible apply State.setPeer_frame (hs₀ := Part.tr (by decide) hs₀)
    | with_reducible apply State.count_frame (hs₀ := Part.tr (by decide) hs₀)
    | split

theorem State.takeSeq_out {ps₀ : List Part} {s₀ : State} (s : State) (id : PeerId) (seq : ℕ) {y₀ z₀}
    (hs₀ : [.objects, .network, .free] ⊆ ps₀) (e₀ : State.takeSeq s id seq = (y₀, z₀)) (h₀ : Frame ps₀ s₀ s) : Frame ps₀ s₀ z₀ := by
  have x₀ := State.takeSeq_frame s id seq hs₀ h₀; rw [e₀] at x₀; exact x₀

theorem State.cacheResponse_frame {ps₀ : List Part} {s₀ : State} (s : State) (k : ℕ) (seq : ℕ) (b : Bytes)
    (hs₀ : [.network] ⊆ ps₀) (h₀ : Frame ps₀ s₀ s) :
    Frame ps₀ s₀ (State.cacheResponse s k seq b) := by
  unfold State.cacheResponse
  repeat' first
    | with_reducible assumption
    | with_reducible apply State.setPeer_frame (hs₀ := Part.tr (by decide) hs₀)
    | split

/-! ### Machine/Hierarchy.lean -/

theorem State.rewritePaths_frame {ps₀ : List Part} {s₀ : State} (s : State)
    (hs₀ : [.out] ⊆ ps₀) (h₀ : Frame ps₀ s₀ s) :
    Frame ps₀ s₀ (State.rewritePaths s) := by
  unfold State.rewritePaths
  repeat' first
    | with_reducible assumption
    | with_reducible apply State.emit_frame (hs₀ := Part.tr (by decide) hs₀)
    | with_reducible refine Frame.each (fun _ _ _ => ?_) ?_

theorem execDevicePath_frame {ps₀ : List Part} {s₀ t₀ : State} (who : Requester) (v : ℕ) (serial : ℕ) (s : State)
    (hs₀ : [.objects, .network, .slices, .records, .pins, .out] ⊆ ps₀) (e₀ : execDevicePath who v serial s = .next t₀) (h₀ : Frame ps₀ s₀ s) :
    Frame ps₀ s₀ t₀ := by
  unfold execDevicePath at e₀
  cases e₀
  repeat' first
    | with_reducible assumption
    | with_reducible apply State.answer_frame (hs₀ := Part.tr (by decide) hs₀)
    | with_reducible apply State.rewritePaths_frame (hs₀ := Part.tr (by decide) hs₀)
    | with_reducible apply State.onWrite_frame (hs₀ := Part.tr (by decide) hs₀)
    | with_reducible apply State.setNet_frame (hs₀ := Part.tr (by decide) hs₀)
    | with_reducible apply State.wr_frame (hs₀ := Part.tr (by decide) hs₀)
    | with_reducible apply State.clearAlarm_frame (hs₀ := Part.tr (by decide) hs₀)
    | with_reducible apply State.alarm_frame (hs₀ := Part.tr (by decide) hs₀)
    | with_reducible refine Frame.ite ?_ ?_
    | with_reducible intro _

theorem State.clearMember_frame {ps₀ : List Part} {s₀ : State} (s : State) (code : ℕ) (state : ℕ) (a : ℕ)
    (hs₀ : [.objects, .records, .pins, .out] ⊆ ps₀) (h₀ : Frame ps₀ s₀ s) :
    Frame ps₀ s₀ (State.clearMember s code state a) := by
  unfold State.clearMember
  repeat' first
    | with_reducible assumption
    | with_reducible apply State.alarmSummary_frame (hs₀ := Part.tr (by decide) hs₀)
    | with_reducible apply State.noteInForce_frame (hs₀ := Part.tr (by decide) hs₀)
    | with_reducible apply State.alarm_frame (hs₀ := Part.tr (by decide) hs₀)
    | with_reducible refine Frame.ite ?_ ?_

theorem execMemberSerial_frame {ps₀ : List Part} {s₀ t₀ : State} (who : Requester) (a : Fin 64) (v : ℕ) (s : State)
    (hs₀ : [.objects, .network, .slices, .records, .pins, .out] ⊆ ps₀) (e₀ : execMemberSerial who a v s = .next t₀) (h₀ : Frame ps₀ s₀ s) :
    Frame ps₀ s₀ t₀ := by
  unfold execMemberSerial at e₀
  cases e₀
  repeat' first
    | with_reducible assumption
    | with_reducible apply State.answer_frame (hs₀ := Part.tr (by decide) hs₀)
    | with_reducible apply State.onWrite_frame (hs₀ := Part.tr (by decide) hs₀)
    | with_reducible apply State.setNet_frame (hs₀ := Part.tr (by decide) hs₀)
    | with_reducible apply State.wr_frame (hs₀ := Part.tr (by decide) hs₀)
    | with_reducible apply State.clearMember_frame (hs₀ := Part.tr (by decide) hs₀)
    | with_reducible apply State.emit_frame (hs₀ := Part.tr (by decide) hs₀)
    | with_reducible refine Frame.ite ?_ ?_
    | with_reducible intro _

theorem execAnnounce_frame {ps₀ : List Part} {s₀ t₀ : State} (s : State)
    (hs₀ : [.timers, .out] ⊆ ps₀) (e₀ : execAnnounce s = .next t₀) (h₀ : Frame ps₀ s₀ s) :
    Frame ps₀ s₀ t₀ := by
  unfold execAnnounce at e₀
  cases e₀
  repeat' first
    | with_reducible assumption
    | with_reducible apply State.startTimer_frame (hs₀ := Part.tr (by decide) hs₀)
    | with_reducible apply State.firmware_frame (hs₀ := Part.tr (by decide) hs₀)
    | with_reducible apply State.emit_frame (hs₀ := Part.tr (by decide) hs₀)
    | with_reducible refine Frame.ite ?_ ?_
    | with_reducible refine Frame.each (fun _ _ _ => ?_) ?_
    | with_reducible intro _

theorem execHeartbeatTimer_frame {ps₀ : List Part} {s₀ t₀ : State} (s : State)
    (hs₀ : [.network, .timers, .out] ⊆ ps₀) (e₀ : execHeartbeatTimer s = .next t₀) (h₀ : Frame ps₀ s₀ s) :
    Frame ps₀ s₀ t₀ := by
  unfold execHeartbeatTimer at e₀
  cases e₀
  repeat' first
    | with_reducible assumption
    | with_reducible apply State.setNet_frame (hs₀ := Part.tr (by decide) hs₀)
    | with_reducible apply State.startTimer_frame (hs₀ := Part.tr (by decide) hs₀)
    | with_reducible apply State.firmware_frame (hs₀ := Part.tr (by decide) hs₀)
    | with_reducible apply State.emit_frame (hs₀ := Part.tr (by decide) hs₀)
    | with_reducible refine Frame.ite ?_ ?_
    | with_reducible refine Frame.each (fun _ _ _ => ?_) ?_
    | with_reducible intro _

theorem execHeartbeat_frame {ps₀ : List Part} {s₀ t₀ : State} (serial : ℕ) (s : State)
    (hs₀ : [.objects, .network, .records, .pins, .out] ⊆ ps₀) (e₀ : execHeartbeat serial s = .next t₀) (h₀ : Frame ps₀ s₀ s) :
    Frame ps₀ s₀ t₀ := by
  unfold execHeartbeat at e₀
  cases e₀
  repeat' first
    | with_reducible assumption
    | with_reducible apply State.setNet_frame (hs₀ := Part.tr (by decide) hs₀)
    | with_reducible apply State.clearAlarm_frame (hs₀ := Part.tr (by decide) hs₀)
    | with_reducible apply State.firmware_frame (hs₀ := Part.tr (by decide) hs₀)
    | with_reducible apply State.emit_frame (hs₀ := Part.tr (by decide) hs₀)
    | with_reducible refine Frame.ite ?_ ?_
    | with_reducible refine Frame.each (fun _ _ _ => ?_) ?_
    | with_reducible intro _

theorem State.serveTargets_frame {ps₀ : List Part} {s₀ : State} (s : State)
    (hs₀ : [.objects, .out] ⊆ ps₀) (h₀ : Frame ps₀ s₀ s) :
    Frame ps₀ s₀ (State.serveTargets s) := by
  unfold State.serveTargets
  repeat' first
    | with_reducible assumption
    | with_reducible apply State.wr_frame (hs₀ := Part.tr (by decide) hs₀)
    | with_reducible apply State.emit_frame (hs₀ := Part.tr (by decide) hs₀)
    | with_reducible refine Frame.each (fun _ _ _ => ?_) ?_
    | dsimp only
    | split

theorem execCacheTargets_frame {ps₀ : List Part} {s₀ t₀ : State} (who : Requester) (v : ℕ) (s : State)
    (hs₀ : [.objects, .slices, .records, .pins, .out] ⊆ ps₀) (e₀ : execCacheTargets who v s = .next t₀) (h₀ : Frame ps₀ s₀ s) :
    Frame ps₀ s₀ t₀ := by
  unfold execCacheTargets at e₀
  cases e₀
  repeat' first
    | with_reducible assumption
    | with_reducible apply State.serveTargets_frame (hs₀ := Part.tr (by decide) hs₀)
    | with_reducible apply State.answer_frame (hs₀ := Part.tr (by decide) hs₀)
    | with_reducible apply State.onWrite_frame (hs₀ := Part.tr (by decide) hs₀)
    | with_reducible apply State.wr_frame (hs₀ := Part.tr (by decide) hs₀)
    | with_reducible refine Frame.each (fun _ _ _ => ?_) ?_
    | with_reducible intro _

theorem execCachePush_frame {ps₀ : List Part} {s₀ t₀ : State} (a : Fin 64) (bitmap : Bytes) (s : State)
    (hs₀ : [.objects, .out] ⊆ ps₀) (e₀ : execCachePush a bitmap s = .next t₀) (h₀ : Frame ps₀ s₀ s) :
    Frame ps₀ s₀ t₀ := by
  unfold execCachePush at e₀
  cases e₀
  repeat' first
    | with_reducible assumption
    | with_reducible apply State.serveTargets_frame (hs₀ := Part.tr (by decide) hs₀)
    | with_reducible apply State.wr_frame (hs₀ := Part.tr (by decide) hs₀)
    | with_reducible apply State.emit_frame (hs₀ := Part.tr (by decide) hs₀)
    | with_reducible refine Frame.ite ?_ ?_
    | with_reducible refine Frame.each (fun _ _ _ => ?_) ?_
    | dsimp only
    | split

theorem execHeartbeatAnswer_frame {ps₀ : List Part} {s₀ t₀ : State} (a : Fin 64) (serial : ℕ) (link : ℕ) (s : State)
    (hs₀ : [.objects, .network, .records, .pins, .out] ⊆ ps₀) (e₀ : execHeartbeatAnswer a serial link s = .next t₀) (h₀ : Frame ps₀ s₀ s) :
    Frame ps₀ s₀ t₀ := by
  unfold execHeartbeatAnswer at e₀
  cases e₀
  repeat' first
    | with_reducible assumption
    | with_reducible apply State.serveTargets_frame (hs₀ := Part.tr (by decide) hs₀)
    | with_reducible apply State.setNet_frame (hs₀ := Part.tr (by decide) hs₀)
    | with_reducible apply State.wr_frame (hs₀ := Part.tr (by decide) hs₀)
    | with_reducible apply State.firmware_frame (hs₀ := Part.tr (by decide) hs₀)
    | with_reducible apply State.alarm_frame (hs₀ := Part.tr (by decide) hs₀)
    | with_reducible apply State.clearMember_frame (hs₀ := Part.tr (by decide) hs₀)
    | with_reducible refine Frame.ite ?_ ?_
    | with_reducible intro _

theorem execMemberLost_frame {ps₀ : List Part} {s₀ t₀ : State} (a : Fin 64) (s : State)
    (hs₀ : [.objects, .records, .pins, .out] ⊆ ps₀) (e₀ : execMemberLost a s = .next t₀) (h₀ : Frame ps₀ s₀ s) :
    Frame ps₀ s₀ t₀ := by
  unfold execMemberLost at e₀
  cases e₀
  repeat' first
    | with_reducible assumption
    | with_reducible apply State.serveTargets_frame (hs₀ := Part.tr (by decide) hs₀)
    | with_reducible apply State.wr_frame (hs₀ := Part.tr (by decide) hs₀)
    | with_reducible apply State.firmware_frame (hs₀ := Part.tr (by decide) hs₀)
    | with_reducible apply State.alarm_frame (hs₀ := Part.tr (by decide) hs₀)
    | with_reducible refine Frame.ite ?_ ?_
    | with_reducible intro _

theorem execManagerLost_frame {ps₀ : List Part} {s₀ t₀ : State} (s : State)
    (hs₀ : [.objects, .records, .pins, .out] ⊆ ps₀) (e₀ : execManagerLost s = .next t₀) (h₀ : Frame ps₀ s₀ s) :
    Frame ps₀ s₀ t₀ := by
  unfold execManagerLost at e₀
  cases e₀
  repeat' first
    | with_reducible assumption
    | with_reducible apply State.firmware_frame (hs₀ := Part.tr (by decide) hs₀)
    | with_reducible apply State.alarm_frame (hs₀ := Part.tr (by decide) hs₀)
    | with_reducible refine Frame.ite ?_ ?_
    | with_reducible intro _
    | split

theorem execMemberAlarmReceived_frame {ps₀ : List Part} {s₀ t₀ : State} (member : Fin 64) (a : Alarm) (s : State)
    (hs₀ : [.objects, .records, .pins, .out] ⊆ ps₀) (e₀ : execMemberAlarmReceived member a s = .next t₀) (h₀ : Frame ps₀ s₀ s) :
    Frame ps₀ s₀ t₀ := by
  unfold execMemberAlarmReceived at e₀
  cases e₀
  repeat' first
    | with_reducible assumption
    | with_reducible apply State.mergeAlarm_frame (hs₀ := Part.tr (by decide) hs₀)
    | with_reducible apply State.firmware_frame (hs₀ := Part.tr (by decide) hs₀)
    | with_reducible apply State.alarmSummary_frame (hs₀ := Part.tr (by decide) hs₀)
    | with_reducible apply State.noteInForce_frame (hs₀ := Part.tr (by decide) hs₀)
    | with_reducible apply State.emit_frame (hs₀ := Part.tr (by decide) hs₀)
    | with_reducible refine Frame.ite ?_ ?_
    | with_reducible intro _

theorem execAlarmMergeEnd_frame {ps₀ : List Part} {s₀ t₀ : State} (path : ℕ) (code : ℕ) (station : ℕ) (st : ℕ) (s : State)
    (hs₀ : [.objects, .records, .pins, .out] ⊆ ps₀) (e₀ : execAlarmMergeEnd path code station st s = .next t₀) (h₀ : Frame ps₀ s₀ s) :
    Frame ps₀ s₀ t₀ := by
  unfold execAlarmMergeEnd at e₀
  cases e₀
  repeat' first
    | with_reducible assumption
    | with_reducible apply State.enterAlarm_frame (hs₀ := Part.tr (by decide) hs₀)
    | with_reducible apply State.firmware_frame (hs₀ := Part.tr (by decide) hs₀)
    | (conv => arg 3; arg 50); with_reducible refine Frame.set_alarms (Part.lift hs₀ (by decide)) ?_
    | with_reducible intro _
    | dsimp only
    | split

theorem execAlarmAck_frame {ps₀ : List Part} {s₀ t₀ : State} (who : Requester) (seq : ℕ) (s : State)
    (hs₀ : [.objects, .slices, .records, .pins, .out] ⊆ ps₀) (e₀ : execAlarmAck who seq s = .next t₀) (h₀ : Frame ps₀ s₀ s) :
    Frame ps₀ s₀ t₀ := by
  unfold execAlarmAck at e₀
  cases e₀
  repeat' first
    | with_reducible assumption
    | with_reducible apply State.answer_frame (hs₀ := Part.tr (by decide) hs₀)
    | with_reducible apply State.onWrite_frame (hs₀ := Part.tr (by decide) hs₀)
    | with_reducible apply State.wr_frame (hs₀ := Part.tr (by decide) hs₀)
    | with_reducible apply State.alarmSummary_frame (hs₀ := Part.tr (by decide) hs₀)
    | (conv => arg 3; arg 50); with_reducible refine Frame.set_alarmQ (Part.lift hs₀ (by decide)) ?_
    | with_reducible refine Frame.ite ?_ ?_
    | with_reducible intro _

theorem execAlarmPendingDrain_frame {ps₀ : List Part} {s₀ t₀ : State} (s : State)
    (hs₀ : [.objects, .records, .pins, .out] ⊆ ps₀) (e₀ : execAlarmPendingDrain s = .next t₀) (h₀ : Frame ps₀ s₀ s) :
    Frame ps₀ s₀ t₀ := by
  unfold execAlarmPendingDrain at e₀
  cases e₀
  repeat' first
    | with_reducible assumption
    | with_reducible apply State.mergeAlarm_frame (hs₀ := Part.tr (by decide) hs₀)
    | with_reducible apply State.firmware_frame (hs₀ := Part.tr (by decide) hs₀)
    | with_reducible apply State.alarmSummary_frame (hs₀ := Part.tr (by decide) hs₀)
    | with_reducible apply State.count_frame (hs₀ := Part.tr (by decide) hs₀)
    | (conv => arg 3; arg 50); with_reducible refine Frame.set_alarms (Part.lift hs₀ (by decide)) ?_
    | with_reducible refine Frame.ite ?_ ?_
    | with_reducible refine Frame.each (fun _ _ _ => ?_) ?_
    | with_reducible intro _

theorem State.sendBack_frame {ps₀ : List Part} {s₀ : State} (s : State) (o : RelayFrom) (b : Bytes)
    (hs₀ : [.out] ⊆ ps₀) (h₀ : Frame ps₀ s₀ s) :
    Frame ps₀ s₀ (State.sendBack s o b) := by
  unfold State.sendBack
  repeat' first
    | with_reducible assumption
    | with_reducible apply State.emit_frame (hs₀ := Part.tr (by decide) hs₀)
    | split

theorem State.relayAnswer_frame {ps₀ : List Part} {s₀ : State} (s : State) (o : RelayFrom) (h : Header) (code : ℕ)
    (hs₀ : [.out] ⊆ ps₀) (h₀ : Frame ps₀ s₀ s) :
    Frame ps₀ s₀ (State.relayAnswer s o h code) := by
  unfold State.relayAnswer
  repeat' first
    | with_reducible assumption
    | with_reducible apply State.sendBack_frame (hs₀ := Part.tr (by decide) hs₀)

theorem State.externalNo_frame {ps₀ : List Part} {s₀ : State} (s : State) (p : PeerSource)
    (hs₀ : [.network, .free] ⊆ ps₀) (h₀ : Frame ps₀ s₀ s) :
    Frame ps₀ s₀ (State.externalNo s p).2 := by
  unfold State.externalNo
  repeat' first
    | with_reducible assumption
    | with_reducible apply State.drawNat_frame (hs₀ := Part.tr (by decide) hs₀)
    | with_reducible apply State.setNet_frame (hs₀ := Part.tr (by decide) hs₀)
    | dsimp only
    | split

theorem State.externalNo_out {ps₀ : List Part} {s₀ : State} (s : State) (p : PeerSource) {y₀ z₀}
    (hs₀ : [.network, .free] ⊆ ps₀) (e₀ : State.externalNo s p = (y₀, z₀)) (h₀ : Frame ps₀ s₀ s) : Frame ps₀ s₀ z₀ := by
  have x₀ := State.externalNo_frame s p hs₀ h₀; rw [e₀] at x₀; exact x₀

theorem State.relaySrc_frame {ps₀ : List Part} {s₀ : State} (s : State) (o : RelayFrom) (src : ℕ)
    (hs₀ : [.network, .free] ⊆ ps₀) (h₀ : Frame ps₀ s₀ s) :
    Frame ps₀ s₀ (State.relaySrc s o src).2 := by
  unfold State.relaySrc
  repeat' first
    | with_reducible assumption
    | with_reducible apply State.externalNo_frame (hs₀ := Part.tr (by decide) hs₀)
    | dsimp only
    | split

theorem State.relaySrc_out {ps₀ : List Part} {s₀ : State} (s : State) (o : RelayFrom) (src : ℕ) {y₀ z₀}
    (hs₀ : [.network, .free] ⊆ ps₀) (e₀ : State.relaySrc s o src = (y₀, z₀)) (h₀ : Frame ps₀ s₀ s) : Frame ps₀ s₀ z₀ := by
  have x₀ := State.relaySrc_frame s o src hs₀ h₀; rw [e₀] at x₀; exact x₀

theorem State.relayCan_frame {ps₀ : List Part} {s₀ : State} (s : State) (o : RelayFrom) (a : ℕ) (h : Header) (b : Bytes) (e : Entry)
    (hs₀ : [.objects, .network, .out] ⊆ ps₀) (h₀ : Frame ps₀ s₀ s) :
    Frame ps₀ s₀ (State.relayCan s o a h b e) := by
  unfold State.relayCan
  repeat' first
    | with_reducible assumption
    | with_reducible apply State.setNet_frame (hs₀ := Part.tr (by decide) hs₀)
    | with_reducible apply State.count_frame (hs₀ := Part.tr (by decide) hs₀)
    | with_reducible apply State.emit_frame (hs₀ := Part.tr (by decide) hs₀)
    | with_reducible refine Frame.ite ?_ ?_
    | dsimp only
    | split

theorem State.relayDown_frame {ps₀ : List Part} {s₀ : State} (s : State) (o : RelayFrom) (a : ℕ) (b : Bytes)
    (hs₀ : [.objects, .network, .out, .free] ⊆ ps₀) (h₀ : Frame ps₀ s₀ s) :
    Frame ps₀ s₀ (State.relayDown s o a b) := by
  unfold State.relayDown
  repeat' first
    | with_reducible assumption
    | with_reducible apply State.relaySrc_frame (hs₀ := Part.tr (by decide) hs₀)
    | with_reducible apply State.relayCan_frame (hs₀ := Part.tr (by decide) hs₀)
    | with_reducible apply State.setNet_frame (hs₀ := Part.tr (by decide) hs₀)
    | with_reducible apply State.relayAnswer_frame (hs₀ := Part.tr (by decide) hs₀)
    | with_reducible apply State.emit_frame (hs₀ := Part.tr (by decide) hs₀)
    | with_reducible refine Frame.ite ?_ ?_
    | dsimp only
    | split

theorem State.relayUp_frame {ps₀ : List Part} {s₀ : State} (s : State) (o : RelayFrom) (b : Bytes)
    (hs₀ : [.network, .out] ⊆ ps₀) (h₀ : Frame ps₀ s₀ s) :
    Frame ps₀ s₀ (State.relayUp s o b) := by
  unfold State.relayUp
  repeat' first
    | with_reducible assumption
    | with_reducible apply State.setNet_frame (hs₀ := Part.tr (by decide) hs₀)
    | with_reducible apply State.relayAnswer_frame (hs₀ := Part.tr (by decide) hs₀)
    | with_reducible apply State.emit_frame (hs₀ := Part.tr (by decide) hs₀)
    | with_reducible refine Frame.ite ?_ ?_
    | dsimp only
    | split

theorem State.settleRelayed_frame {ps₀ : List Part} {s₀ : State} (s : State) (h : Header)
    (hs₀ : [.network] ⊆ ps₀) (h₀ : Frame ps₀ s₀ s) :
    Frame ps₀ s₀ (State.settleRelayed s h) := by
  unfold State.settleRelayed
  repeat' first
    | with_reducible assumption
    | with_reducible apply State.setNet_frame (hs₀ := Part.tr (by decide) hs₀)

theorem State.relayResponse_frame {ps₀ : List Part} {s₀ : State} (s : State) (b : Bytes)
    (hs₀ : [.network, .out] ⊆ ps₀) (h₀ : Frame ps₀ s₀ s) :
    Frame ps₀ s₀ (State.relayResponse s b) := by
  unfold State.relayResponse
  repeat' first
    | with_reducible assumption
    | with_reducible apply State.settleRelayed_frame (hs₀ := Part.tr (by decide) hs₀)
    | with_reducible apply State.emit_frame (hs₀ := Part.tr (by decide) hs₀)
    | with_reducible refine Frame.ite ?_ ?_
    | split

theorem State.canResponse_frame {ps₀ : List Part} {s₀ : State} (s : State) (a : ℕ) (f : ShortFrame)
    (hs₀ : [.network, .out] ⊆ ps₀) (h₀ : Frame ps₀ s₀ s) :
    Frame ps₀ s₀ (State.canResponse s a f) := by
  unfold State.canResponse
  repeat' first
    | with_reducible assumption
    | with_reducible apply State.setNet_frame (hs₀ := Part.tr (by decide) hs₀)
    | with_reducible apply State.sendBack_frame (hs₀ := Part.tr (by decide) hs₀)
    | dsimp only
    | split

theorem execRelayFrame_frame {ps₀ : List Part} {s₀ t₀ : State} (origin : RelayFrom) (frame : BdaFrame) (s : State)
    (hs₀ : [.objects, .network, .out, .free] ⊆ ps₀) (e₀ : execRelayFrame origin frame s = .next t₀) (h₀ : Frame ps₀ s₀ s) :
    Frame ps₀ s₀ t₀ := by
  unfold execRelayFrame at e₀
  cases e₀
  repeat' first
    | with_reducible assumption
    | with_reducible apply State.relayDown_frame (hs₀ := Part.tr (by decide) hs₀)
    | with_reducible apply State.relayAnswer_frame (hs₀ := Part.tr (by decide) hs₀)
    | with_reducible apply State.relayResponse_frame (hs₀ := Part.tr (by decide) hs₀)
    | with_reducible apply State.relayUp_frame (hs₀ := Part.tr (by decide) hs₀)
    | with_reducible apply State.canResponse_frame (hs₀ := Part.tr (by decide) hs₀)
    | with_reducible refine Frame.ite ?_ ?_
    | dsimp only
    | split

end Sys2Proof.Machine
end

