-- ==== Sys2Proof/Laws/FrameDictionary.lean ====
section
/-! SUPPORT. Which parts of the state the functions of the object dictionary and its carriers leave alone. -/
namespace Sys2Proof.Machine

/-! ### Machine/DictWrite.lean -/

theorem settled_frame {ps₀ : List Part} {s₀ : State} (s : State) (o : Host.Outcome State Fault Refusal)
    (hs₀ : [] ⊆ ps₀) (ho : ∀ t, o = .next t → Frame ps₀ s₀ t) (h₀ : Frame ps₀ s₀ s) : Frame ps₀ s₀ (settled s o) := by
  unfold settled
  split
  · exact ho _ rfl
  all_goals exact h₀

theorem State.applyWrite_frame {ps₀ : List Part} {s₀ : State} (s : State) (p : Place) (v : ℤ)
    (hs₀ : [.objects, .shadows, .pins, .out] ⊆ ps₀) (h₀ : Frame ps₀ s₀ s) :
    Frame ps₀ s₀ (State.applyWrite s p v) := by
  unfold State.applyWrite
  repeat' first
    | with_reducible assumption
    | with_reducible apply State.wrShadow_frame (hs₀ := Part.tr (by decide) hs₀)
    | with_reducible apply State.wr_frame (hs₀ := Part.tr (by decide) hs₀)
    | with_reducible apply State.alarmSummary_frame (hs₀ := Part.tr (by decide) hs₀)
    | with_reducible refine Frame.ite ?_ ?_

theorem State.plainWrite_frame {ps₀ : List Part} {s₀ : State} (s : State) (who : Requester) (p : Place) (v : ℤ)
    (hs₀ : [.objects, .shadows, .slices, .records, .pins, .out] ⊆ ps₀) (h₀ : Frame ps₀ s₀ s) :
    Frame ps₀ s₀ (State.plainWrite s who p v) := by
  unfold State.plainWrite
  repeat' first
    | with_reducible assumption
    | with_reducible apply State.answer_frame (hs₀ := Part.tr (by decide) hs₀)
    | with_reducible apply State.onWrite_frame (hs₀ := Part.tr (by decide) hs₀)
    | with_reducible apply State.guarded_frame (hs₀ := Part.tr (by decide) hs₀)
    | with_reducible apply State.applyWrite_frame (hs₀ := Part.tr (by decide) hs₀)
    | with_reducible refine Frame.ite ?_ ?_
    | with_reducible intro _

theorem execStationCommit_frame {ps₀ : List Part} {s₀ t₀ : State} (who : Requester) (n : Fin 8) (v : ℕ) (s : State)
    (hs₀ : [.objects, .slices, .records, .pins, .out] ⊆ ps₀) (e₀ : execStationCommit who n v s = .next t₀) (h₀ : Frame ps₀ s₀ s) :
    Frame ps₀ s₀ t₀ := by
  unfold execStationCommit at e₀
  cases e₀
  repeat' first
    | with_reducible assumption
    | with_reducible apply State.answer_frame (hs₀ := Part.tr (by decide) hs₀)
    | with_reducible apply State.onWrite_frame (hs₀ := Part.tr (by decide) hs₀)
    | with_reducible apply State.commitRow_frame (hs₀ := Part.tr (by decide) hs₀)
    | with_reducible apply State.guarded_frame (hs₀ := Part.tr (by decide) hs₀)
    | with_reducible refine Frame.ite ?_ ?_
    | with_reducible refine Frame.foldl (fun _ _ _ => ?_) ?_
    | with_reducible intro _

theorem State.writeBinding_frame {ps₀ : List Part} {s₀ : State} (s : State) (who : Requester) (p : Place) (v : ℤ) (w : BindWrite)
    (hs₀ : [.objects, .shadows, .energy, .compositor, .touch, .audio, .slices, .records, .pins, .out] ⊆ ps₀) (h₀ : Frame ps₀ s₀ s) :
    Frame ps₀ s₀ (State.writeBinding s who p v w) := by
  unfold State.writeBinding
  repeat' first
    | with_reducible assumption
    | with_reducible apply State.bind_frame (hs₀ := Part.tr (by decide) hs₀)
    | with_reducible apply State.answer_frame (hs₀ := Part.tr (by decide) hs₀)
    | with_reducible apply State.onWrite_frame (hs₀ := Part.tr (by decide) hs₀)
    | with_reducible intro _

theorem State.writeResetRequest_frame {ps₀ : List Part} {s₀ : State} (s : State) (who : Requester) (v : ℕ)
    (hs₀ : [.objects, .resets, .slices, .records, .pins, .out] ⊆ ps₀) (h₀ : Frame ps₀ s₀ s) :
    Frame ps₀ s₀ (State.writeResetRequest s who v) := by
  unfold State.writeResetRequest
  repeat' first
    | with_reducible assumption
    | with_reducible apply State.answer_frame (hs₀ := Part.tr (by decide) hs₀)
    | with_reducible apply State.onWrite_frame (hs₀ := Part.tr (by decide) hs₀)
    | with_reducible apply State.askReset_frame (hs₀ := Part.tr (by decide) hs₀)
    | with_reducible refine Frame.ite ?_ ?_
    | with_reducible intro _

theorem State.writeZoneHolder_frame {ps₀ : List Part} {s₀ : State} (s : State) (who : Requester) (p : Place) (v : ℕ)
    (hs₀ : [.objects, .shadows, .energy, .compositor, .touch, .audio, .slices, .records, .pins, .out] ⊆ ps₀) (h₀ : Frame ps₀ s₀ s) :
    Frame ps₀ s₀ (State.writeZoneHolder s who p v) := by
  unfold State.writeZoneHolder
  repeat' first
    | with_reducible assumption
    | refine State.bind_out (hs₀ := Part.tr (by decide) hs₀) (e₀ := by with_reducible assumption) (h₀ := ?_)
    | with_reducible apply State.bind_frame (hs₀ := Part.tr (by decide) hs₀)
    | with_reducible apply State.answer_frame (hs₀ := Part.tr (by decide) hs₀)
    | with_reducible apply State.onWrite_frame (hs₀ := Part.tr (by decide) hs₀)
    | with_reducible refine Frame.ite ?_ ?_
    | with_reducible intro _
    | dsimp only
    | split

theorem State.wrBlobShadow_frame {ps₀ : List Part} {s₀ : State} (s : State) (p : Place) (b : Bytes)
    (hs₀ : [.shadows, .texts] ⊆ ps₀) (h₀ : Frame ps₀ s₀ s) :
    Frame ps₀ s₀ (State.wrBlobShadow s p b) := by
  unfold State.wrBlobShadow
  repeat' first
    | with_reducible assumption
    | (conv => arg 3; arg 50); with_reducible refine Frame.set_shadowBlobs_blobRev (Part.lift hs₀ (by decide)) (Part.lift hs₀ (by decide)) ?_

theorem State.cacheManifest_frame {ps₀ : List Part} {s₀ : State} (s : State) (b : Bytes)
    (hs₀ : [.network] ⊆ ps₀) (h₀ : Frame ps₀ s₀ s) :
    Frame ps₀ s₀ (State.cacheManifest s b) := by
  unfold State.cacheManifest
  repeat' first
    | with_reducible assumption
    | with_reducible apply State.setNet_frame (hs₀ := Part.tr (by decide) hs₀)

theorem State.applyBlob_frame {ps₀ : List Part} {s₀ : State} (s : State) (p : Place) (b : Bytes)
    (hs₀ : [.objects, .shadows, .texts, .network, .guard] ⊆ ps₀) (h₀ : Frame ps₀ s₀ s) :
    Frame ps₀ s₀ (State.applyBlob s p b) := by
  unfold State.applyBlob
  repeat' first
    | with_reducible assumption
    | with_reducible apply State.safeLoading_frame (hs₀ := Part.tr (by decide) hs₀)
    | with_reducible apply State.wrBlobShadow_frame (hs₀ := Part.tr (by decide) hs₀)
    | with_reducible apply State.syncReference_frame (hs₀ := Part.tr (by decide) hs₀)
    | with_reducible apply State.cacheManifest_frame (hs₀ := Part.tr (by decide) hs₀)
    | with_reducible apply State.wrBlob_frame (hs₀ := Part.tr (by decide) hs₀)
    | with_reducible apply State.endKeySessions_frame (hs₀ := Part.tr (by decide) hs₀)
    | with_reducible refine Frame.ite ?_ ?_

theorem State.plainBlob_frame {ps₀ : List Part} {s₀ : State} (s : State) (who : Requester) (p : Place) (b : Bytes)
    (hs₀ : [.objects, .shadows, .texts, .network, .guard, .slices, .records, .pins, .out] ⊆ ps₀) (h₀ : Frame ps₀ s₀ s) :
    Frame ps₀ s₀ (State.plainBlob s who p b) := by
  unfold State.plainBlob
  repeat' first
    | with_reducible assumption
    | with_reducible apply State.onRequest_frame (hs₀ := Part.tr (by decide) hs₀)
    | with_reducible apply State.answer_frame (hs₀ := Part.tr (by decide) hs₀)
    | with_reducible apply State.applyBlob_frame (hs₀ := Part.tr (by decide) hs₀)
    | with_reducible apply State.guarded_frame (hs₀ := Part.tr (by decide) hs₀)
    | with_reducible apply State.mailboxSpoof_frame (hs₀ := Part.tr (by decide) hs₀)
    | with_reducible refine Frame.ite ?_ ?_
    | with_reducible intro _
    | split

theorem handlersA_frame {ps₀ : List Part} {s₀ : State} (hs₀ : Part.allButQueue ⊆ ps₀) :
    ∀ h ∈ handlersA, ∀ (who : Requester) (p : Place) (v : Int) (env : WriteEnv) (s : State), Frame ps₀ s₀ s →
      FrameStep ps₀ s₀ (h.2 who p v env s) := by
  intro h hm who p v env s h₀
  simp only [handlersA, List.mem_cons, List.not_mem_nil, or_false] at hm
  rcases hm with rfl | rfl | rfl | rfl | rfl | rfl | rfl | rfl | rfl
  all_goals
    dsimp only
    repeat' first
      | with_reducible refine FrameStep.of fun _ e₀ => execGuardCommit_frame (hs₀ := Part.tr (by decide) hs₀) (e₀ := e₀) (h₀ := h₀)
      | with_reducible refine FrameStep.of fun _ e₀ => execLayerCommit_frame (hs₀ := Part.tr (by decide) hs₀) (e₀ := e₀) (h₀ := h₀)
      | with_reducible refine FrameStep.of fun _ e₀ => execModeCommit_frame (hs₀ := Part.tr (by decide) hs₀) (e₀ := e₀) (h₀ := h₀)
      | with_reducible refine FrameStep.of fun _ e₀ => execRefLoadStart_frame (hs₀ := Part.tr (by decide) hs₀) (e₀ := e₀) (h₀ := h₀)
      | with_reducible refine FrameStep.of fun _ e₀ => execReferenceCapture_frame (hs₀ := Part.tr (by decide) hs₀) (e₀ := e₀) (h₀ := h₀)
      | with_reducible refine FrameStep.of fun _ e₀ => execStationCommit_frame (hs₀ := Part.tr (by decide) hs₀) (e₀ := e₀) (h₀ := h₀)
      | with_reducible refine FrameStep.of fun _ e₀ => execTouchCommit_frame (hs₀ := Part.tr (by decide) hs₀) (e₀ := e₀) (h₀ := h₀)
      | with_reducible refine FrameStep.of fun _ e₀ => execWakePendingClear_frame (hs₀ := Part.tr (by decide) hs₀) (e₀ := e₀) (h₀ := h₀)
      | with_reducible refine FrameStep.ofNext ?_
      | with_reducible assumption
      | with_reducible apply State.writeZoneHolder_frame (hs₀ := Part.tr (by decide) hs₀)

theorem handlersB_frame {ps₀ : List Part} {s₀ : State} (hs₀ : Part.allButQueue ⊆ ps₀) :
    ∀ h ∈ handlersB, ∀ (who : Requester) (p : Place) (v : Int) (env : WriteEnv) (s : State), Frame ps₀ s₀ s →
      FrameStep ps₀ s₀ (h.2 who p v env s) := by
  intro h hm who p v env s h₀
  simp only [handlersB, List.mem_cons, List.not_mem_nil, or_false] at hm
  rcases hm with rfl | rfl | rfl | rfl | rfl | rfl | rfl | rfl | rfl | rfl | rfl | rfl
  all_goals
    dsimp only
    repeat' first
      | with_reducible refine FrameStep.of fun _ e₀ => execAudioCommit_frame (hs₀ := Part.tr (by decide) hs₀) (e₀ := e₀) (h₀ := h₀)
      | with_reducible refine FrameStep.of fun _ e₀ => execFaultClear_frame (hs₀ := Part.tr (by decide) hs₀) (e₀ := e₀) (h₀ := h₀)
      | with_reducible refine FrameStep.of fun _ e₀ => execHapticCommit_frame (hs₀ := Part.tr (by decide) hs₀) (e₀ := e₀) (h₀ := h₀)
      | with_reducible refine FrameStep.of fun _ e₀ => execHapticTrigger_frame (hs₀ := Part.tr (by decide) hs₀) (e₀ := e₀) (h₀ := h₀)
      | with_reducible refine FrameStep.of fun _ e₀ => execMemReinit_frame (hs₀ := Part.tr (by decide) hs₀) (e₀ := e₀) (h₀ := h₀)
      | with_reducible refine FrameStep.of fun _ e₀ => execStationReset_frame (hs₀ := Part.tr (by decide) hs₀) (e₀ := e₀) (h₀ := h₀)
      | with_reducible refine FrameStep.of fun _ e₀ => execStationTargetOff_frame (hs₀ := Part.tr (by decide) hs₀) (e₀ := e₀) (h₀ := h₀)
      | with_reducible refine FrameStep.of fun _ e₀ => execStationTargetRunning_frame (hs₀ := Part.tr (by decide) hs₀) (e₀ := e₀) (h₀ := h₀)
      | with_reducible refine FrameStep.of fun _ e₀ => execStationTargetSleep_frame (hs₀ := Part.tr (by decide) hs₀) (e₀ := e₀) (h₀ := h₀)
      | with_reducible refine FrameStep.of fun _ e₀ => execStreamStart_frame (hs₀ := Part.tr (by decide) hs₀) (e₀ := e₀) (h₀ := h₀)
      | with_reducible refine FrameStep.of fun _ e₀ => execStreamStop_frame (hs₀ := Part.tr (by decide) hs₀) (e₀ := e₀) (h₀ := h₀)
      | with_reducible refine FrameStep.of fun _ e₀ => execTgStart_frame (hs₀ := Part.tr (by decide) hs₀) (e₀ := e₀) (h₀ := h₀)
      | with_reducible refine FrameStep.of fun _ e₀ => execTgStop_frame (hs₀ := Part.tr (by decide) hs₀) (e₀ := e₀) (h₀ := h₀)
      | with_reducible refine FrameStep.ofNext ?_
      | with_reducible refine FrameStep.ite ?_ ?_
      | with_reducible assumption
      | with_reducible apply State.onWrite_frame (hs₀ := Part.tr (by decide) hs₀)
      | with_reducible apply State.plainWrite_frame (hs₀ := Part.tr (by decide) hs₀)
      | with_reducible apply State.writeGate_frame (hs₀ := Part.tr (by decide) hs₀)
      | with_reducible intro _

theorem handlersC_frame {ps₀ : List Part} {s₀ : State} (hs₀ : Part.allButQueue ⊆ ps₀) :
    ∀ h ∈ handlersC, ∀ (who : Requester) (p : Place) (v : Int) (env : WriteEnv) (s : State), Frame ps₀ s₀ s →
      FrameStep ps₀ s₀ (h.2 who p v env s) := by
  intro h hm who p v env s h₀
  simp only [handlersC, List.mem_cons, List.not_mem_nil, or_false] at hm
  rcases hm with rfl | rfl | rfl | rfl | rfl | rfl | rfl | rfl | rfl | rfl | rfl | rfl | rfl | rfl
  all_goals
    dsimp only
    repeat' first
      | with_reducible refine FrameStep.of fun _ e₀ => execQuarantineRelease_frame (hs₀ := Part.tr (by decide) hs₀) (e₀ := e₀) (h₀ := h₀)
      | with_reducible refine FrameStep.of fun _ e₀ => execRightsWrite_frame (hs₀ := Part.tr (by decide) hs₀) (e₀ := e₀) (h₀ := h₀)
      | with_reducible refine FrameStep.of fun _ e₀ => execRingEnable_frame (hs₀ := Part.tr (by decide) hs₀) (e₀ := e₀) (h₀ := h₀)
      | with_reducible refine FrameStep.of fun _ e₀ => execSliceEnable_frame (hs₀ := Part.tr (by decide) hs₀) (e₀ := e₀) (h₀ := h₀)
      | with_reducible refine FrameStep.of fun _ e₀ => execSliceReset_frame (hs₀ := Part.tr (by decide) hs₀) (e₀ := e₀) (h₀ := h₀)
      | with_reducible refine FrameStep.of fun _ e₀ => execWindowWrite_frame (hs₀ := Part.tr (by decide) hs₀) (e₀ := e₀) (h₀ := h₀)
      | with_reducible refine FrameStep.ofNext ?_
      | with_reducible refine FrameStep.ite ?_ ?_
      | with_reducible assumption
      | with_reducible apply State.plainWrite_frame (hs₀ := Part.tr (by decide) hs₀)
      | with_reducible apply State.writeBinding_frame (hs₀ := Part.tr (by decide) hs₀)

theorem handlersD_frame {ps₀ : List Part} {s₀ : State} (hs₀ : Part.allButQueue ⊆ ps₀) :
    ∀ h ∈ handlersD, ∀ (who : Requester) (p : Place) (v : Int) (env : WriteEnv) (s : State), Frame ps₀ s₀ s →
      FrameStep ps₀ s₀ (h.2 who p v env s) := by
  intro h hm who p v env s h₀
  simp only [handlersD, List.mem_cons, List.not_mem_nil, or_false] at hm
  rcases hm with rfl | rfl | rfl | rfl | rfl | rfl | rfl | rfl
  all_goals
    dsimp only
    repeat' first
      | with_reducible refine FrameStep.of fun _ e₀ => execCvAbort_frame (hs₀ := Part.tr (by decide) hs₀) (e₀ := e₀) (h₀ := h₀)
      | with_reducible refine FrameStep.of fun _ e₀ => execCvArm_frame (hs₀ := Part.tr (by decide) hs₀) (e₀ := e₀) (h₀ := h₀)
      | with_reducible refine FrameStep.of fun _ e₀ => execCvEnd_frame (hs₀ := Part.tr (by decide) hs₀) (e₀ := e₀) (h₀ := h₀)
      | with_reducible refine FrameStep.of fun _ e₀ => execDeviceBudgetMw_frame (hs₀ := Part.tr (by decide) hs₀) (e₀ := e₀) (h₀ := h₀)
      | with_reducible refine FrameStep.of fun _ e₀ => execDeviceRequestLeaveRecovery_frame (hs₀ := Part.tr (by decide) hs₀) (e₀ := e₀) (h₀ := h₀)
      | with_reducible refine FrameStep.of fun _ e₀ => execDeviceRequestNone_frame (hs₀ := Part.tr (by decide) hs₀) (e₀ := e₀) (h₀ := h₀)
      | with_reducible refine FrameStep.of fun _ e₀ => execDeviceRequestRecovery_frame (hs₀ := Part.tr (by decide) hs₀) (e₀ := e₀) (h₀ := h₀)
      | with_reducible refine FrameStep.of fun _ e₀ => execEnclaveCommandDestroy_frame (hs₀ := Part.tr (by decide) hs₀) (e₀ := e₀) (h₀ := h₀)
      | with_reducible refine FrameStep.of fun _ e₀ => execEnclaveCreate_frame (hs₀ := Part.tr (by decide) hs₀) (e₀ := e₀) (h₀ := h₀)
      | with_reducible refine FrameStep.of fun _ e₀ => execEnclaveDestroy_frame (hs₀ := Part.tr (by decide) hs₀) (e₀ := e₀) (h₀ := h₀)
      | with_reducible refine FrameStep.of fun _ e₀ => execEnclaveStart_frame (hs₀ := Part.tr (by decide) hs₀) (e₀ := e₀) (h₀ := h₀)
      | with_reducible refine FrameStep.of fun _ e₀ => execEnclaveStop_frame (hs₀ := Part.tr (by decide) hs₀) (e₀ := e₀) (h₀ := h₀)
      | with_reducible refine FrameStep.of fun _ e₀ => execSettingsDefaults_frame (hs₀ := Part.tr (by decide) hs₀) (e₀ := e₀) (h₀ := h₀)
      | with_reducible refine FrameStep.of fun _ e₀ => execSettingsSave_frame (hs₀ := Part.tr (by decide) hs₀) (e₀ := e₀) (h₀ := h₀)
      | with_reducible refine FrameStep.ofNext ?_
      | with_reducible refine FrameStep.ite ?_ ?_
      | with_reducible assumption
      | with_reducible apply State.plainWrite_frame (hs₀ := Part.tr (by decide) hs₀)
      | with_reducible apply State.writeResetRequest_frame (hs₀ := Part.tr (by decide) hs₀)

theorem handlersE_frame {ps₀ : List Part} {s₀ : State} (hs₀ : Part.allButQueue ⊆ ps₀) :
    ∀ h ∈ handlersE, ∀ (who : Requester) (p : Place) (v : Int) (env : WriteEnv) (s : State), Frame ps₀ s₀ s →
      FrameStep ps₀ s₀ (h.2 who p v env s) := by
  intro h hm who p v env s h₀
  simp only [handlersE, List.mem_cons, List.not_mem_nil, or_false] at hm
  rcases hm with rfl | rfl | rfl | rfl | rfl | rfl
  all_goals
    dsimp only
    repeat' first
      | with_reducible refine FrameStep.of fun _ e₀ => execAlarmAck_frame (hs₀ := Part.tr (by decide) hs₀) (e₀ := e₀) (h₀ := h₀)
      | with_reducible refine FrameStep.of fun _ e₀ => execCacheTargets_frame (hs₀ := Part.tr (by decide) hs₀) (e₀ := e₀) (h₀ := h₀)
      | with_reducible refine FrameStep.of fun _ e₀ => execDevicePath_frame (hs₀ := Part.tr (by decide) hs₀) (e₀ := e₀) (h₀ := h₀)
      | with_reducible refine FrameStep.of fun _ e₀ => execForceSec_frame (hs₀ := Part.tr (by decide) hs₀) (e₀ := e₀) (h₀ := h₀)
      | with_reducible refine FrameStep.of fun _ e₀ => execGrantEnd_frame (hs₀ := Part.tr (by decide) hs₀) (e₀ := e₀) (h₀ := h₀)
      | with_reducible refine FrameStep.of fun _ e₀ => execMemberSerial_frame (hs₀ := Part.tr (by decide) hs₀) (e₀ := e₀) (h₀ := h₀)
      | with_reducible refine FrameStep.of fun _ e₀ => execUpdateApply_frame (hs₀ := Part.tr (by decide) hs₀) (e₀ := e₀) (h₀ := h₀)
      | with_reducible refine FrameStep.of fun _ e₀ => execUpdateCancel_frame (hs₀ := Part.tr (by decide) hs₀) (e₀ := e₀) (h₀ := h₀)
      | with_reducible refine FrameStep.of fun _ e₀ => execUpdateCommit_frame (hs₀ := Part.tr (by decide) hs₀) (e₀ := e₀) (h₀ := h₀)
      | with_reducible refine FrameStep.of fun _ e₀ => execUpdateRevert_frame (hs₀ := Part.tr (by decide) hs₀) (e₀ := e₀) (h₀ := h₀)
      | with_reducible refine FrameStep.ofNext ?_
      | with_reducible refine FrameStep.ite ?_ ?_
      | with_reducible assumption
      | with_reducible apply State.plainWrite_frame (hs₀ := Part.tr (by decide) hs₀)

theorem blobHandlers_frame {ps₀ : List Part} {s₀ : State} (hs₀ : Part.allButQueue ⊆ ps₀) :
    ∀ h ∈ blobHandlers, ∀ (who : Requester) (p : Place) (b : Bytes) (env : WriteEnv) (s : State), Frame ps₀ s₀ s →
      FrameStep ps₀ s₀ (h.2 who p b env s) := by
  intro h hm who p b env s h₀
  simp only [blobHandlers, List.mem_cons, List.not_mem_nil, or_false] at hm
  rcases hm with rfl | rfl | rfl | rfl | rfl | rfl | rfl | rfl
  all_goals
    dsimp only
    repeat' first
      | with_reducible refine FrameStep.of fun _ e₀ => execAttestChallenge_frame (hs₀ := Part.tr (by decide) hs₀) (e₀ := e₀) (h₀ := h₀)
      | with_reducible refine FrameStep.of fun _ e₀ => execDebugResponse_frame (hs₀ := Part.tr (by decide) hs₀) (e₀ := e₀) (h₀ := h₀)
      | with_reducible refine FrameStep.of fun _ e₀ => execEffectData_frame (hs₀ := Part.tr (by decide) hs₀) (e₀ := e₀) (h₀ := h₀)
      | with_reducible refine FrameStep.of fun _ e₀ => execFuseMapProgram_frame (hs₀ := Part.tr (by decide) hs₀) (e₀ := e₀) (h₀ := h₀)
      | with_reducible refine FrameStep.of fun _ e₀ => execGrantRequest_frame (hs₀ := Part.tr (by decide) hs₀) (e₀ := e₀) (h₀ := h₀)
      | with_reducible refine FrameStep.of fun _ e₀ => execInbox_frame (hs₀ := Part.tr (by decide) hs₀) (e₀ := e₀) (h₀ := h₀)
      | with_reducible refine FrameStep.of fun _ e₀ => execManifest_frame (hs₀ := Part.tr (by decide) hs₀) (e₀ := e₀) (h₀ := h₀)
      | with_reducible refine FrameStep.of fun _ e₀ => execPieceIn_frame (hs₀ := Part.tr (by decide) hs₀) (e₀ := e₀) (h₀ := h₀)

theorem State.writeBlob_frame {ps₀ : List Part} {s₀ : State} (s : State) (who : Requester) (p : Place) (b : Bytes) (env : WriteEnv)
    (hs₀ : Part.allButQueue ⊆ ps₀) (h₀ : Frame ps₀ s₀ s) : Frame ps₀ s₀ (State.writeBlob s who p b env) := by
  unfold State.writeBlob
  split
  · rename_i h e
    exact settled_frame _ _ (List.nil_subset _) (blobHandlers_frame hs₀ h (List.mem_of_find?_eq_some e) _ _ _ _ _ h₀) h₀
  · exact State.plainBlob_frame _ _ _ _ (hs₀ := Part.tr (by decide) hs₀) h₀

theorem State.writeSegment_frame {ps₀ : List Part} {s₀ : State} (s : State) (who : Requester) (p : Place) (offset : ℕ) (last : Bool) (total : ℕ) (data : Bytes) (env : WriteEnv)
    (hs₀ : Part.allButQueue ⊆ ps₀) (h₀ : Frame ps₀ s₀ s) :
    Frame ps₀ s₀ (State.writeSegment s who p offset last total data env) := by
  unfold State.writeSegment
  repeat' first
    | with_reducible assumption
    | with_reducible apply State.answer_frame (hs₀ := Part.tr (by decide) hs₀)
    | with_reducible apply State.writeBlob_frame (hs₀ := Part.tr (by decide) hs₀)
    | (conv => arg 3; arg 50); with_reducible refine Frame.set_staging (Part.lift hs₀ (by decide)) ?_
    | with_reducible refine Frame.ite ?_ ?_
    | dsimp only
    | split

theorem State.writeValue_frame {ps₀ : List Part} {s₀ : State} (s : State) (who : Requester) (p : Place) (v : Int) (env : WriteEnv)
    (hs₀ : Part.allButQueue ⊆ ps₀) (h₀ : Frame ps₀ s₀ s) : Frame ps₀ s₀ (State.writeValue s who p v env) := by
  unfold State.writeValue
  split
  · rename_i h e
    have hm := List.mem_of_find?_eq_some e
    simp only [List.mem_append] at hm
    refine settled_frame _ _ (List.nil_subset _) ?_ h₀
    rcases hm with ((((hm | hm) | hm) | hm) | hm)
    · exact handlersA_frame hs₀ h hm _ _ _ _ _ h₀
    · exact handlersB_frame hs₀ h hm _ _ _ _ _ h₀
    · exact handlersC_frame hs₀ h hm _ _ _ _ _ h₀
    · exact handlersD_frame hs₀ h hm _ _ _ _ _ h₀
    · exact handlersE_frame hs₀ h hm _ _ _ _ _ h₀
  · exact State.plainWrite_frame _ _ _ _ (hs₀ := Part.tr (by decide) hs₀) h₀

theorem State.ackResult_frame {ps₀ : List Part} {s₀ : State} (s : State) (who : Requester) (area : ℕ) (idx : ℕ) (tq : ℕ) (gen : ℕ)
    (hs₀ : [.results, .out] ⊆ ps₀) (h₀ : Frame ps₀ s₀ s) :
    Frame ps₀ s₀ (State.ackResult s who area idx tq gen) := by
  unfold State.ackResult
  repeat' first
    | with_reducible assumption
    | with_reducible apply State.onRequest_frame (hs₀ := Part.tr (by decide) hs₀)
    | with_reducible apply State.answer_frame (hs₀ := Part.tr (by decide) hs₀)
    | (conv => arg 3; arg 50); with_reducible refine Frame.set_results (Part.lift hs₀ (by decide)) ?_
    | with_reducible refine Frame.ite ?_ ?_
    | with_reducible intro _
    | dsimp only
    | split

theorem State.dictWrite_frame {ps₀ : List Part} {s₀ : State} (s : State) (who : Requester) (area : ℕ) (idx : ℕ) (sub : ℕ) (tq : ℕ) (g : Segment) (data : Bytes) (env : WriteEnv)
    (hs₀ : Part.allButQueue ⊆ ps₀) (h₀ : Frame ps₀ s₀ s) :
    Frame ps₀ s₀ (State.dictWrite s who area idx sub tq g data env) := by
  unfold State.dictWrite
  repeat' first
    | with_reducible assumption
    | with_reducible apply State.onRequest_frame (hs₀ := Part.tr (by decide) hs₀)
    | with_reducible apply State.answer_frame (hs₀ := Part.tr (by decide) hs₀)
    | with_reducible apply State.writeValue_frame (hs₀ := Part.tr (by decide) hs₀)
    | with_reducible apply State.writeSegment_frame (hs₀ := Part.tr (by decide) hs₀)
    | with_reducible apply State.mailboxSpoof_frame (hs₀ := Part.tr (by decide) hs₀)
    | with_reducible apply State.ackResult_frame (hs₀ := Part.tr (by decide) hs₀)
    | with_reducible refine Frame.ite ?_ ?_
    | with_reducible intro _
    | split

/-! ### Machine/DictRead.lean -/

theorem State.readSnapshot_frame {ps₀ : List Part} {s₀ : State} (s : State) (who : Requester) (p : Place) (q : ReadReq)
    (hs₀ : [.transfers, .out] ⊆ ps₀) (h₀ : Frame ps₀ s₀ s) :
    Frame ps₀ s₀ (State.readSnapshot s who p q) := by
  unfold State.readSnapshot
  repeat' first
    | with_reducible assumption
    | with_reducible apply State.answer_frame (hs₀ := Part.tr (by decide) hs₀)
    | (conv => arg 3; arg 50); with_reducible refine Frame.set_snapshots (Part.lift hs₀ (by decide)) ?_
    | dsimp only
    | split

theorem State.readBlob_frame {ps₀ : List Part} {s₀ : State} (s : State) (p : Place) (q : ReadReq)
    (hs₀ : [.out] ⊆ ps₀) (h₀ : Frame ps₀ s₀ s) :
    Frame ps₀ s₀ (State.readBlob s p q) := by
  unfold State.readBlob
  repeat' first
    | with_reducible assumption
    | with_reducible apply State.answer_frame (hs₀ := Part.tr (by decide) hs₀)
    | with_reducible refine Frame.ite ?_ ?_

theorem State.readValue_frame {ps₀ : List Part} {s₀ : State} (s : State) (p : Place) (view : ℕ)
    (hs₀ : [.objects, .out] ⊆ ps₀) (h₀ : Frame ps₀ s₀ s) :
    Frame ps₀ s₀ (State.readValue s p view) := by
  unfold State.readValue
  repeat' first
    | with_reducible assumption
    | with_reducible apply State.answer_frame (hs₀ := Part.tr (by decide) hs₀)
    | with_reducible apply State.wr_frame (hs₀ := Part.tr (by decide) hs₀)
    | split

theorem State.dictRead_frame {ps₀ : List Part} {s₀ : State} (s : State) (who : Requester) (area : ℕ) (idx : ℕ) (sub : ℕ) (tq : ℕ) (q : ReadReq)
    (hs₀ : [.objects, .transfers, .secure, .network, .out, .free] ⊆ ps₀) (h₀ : Frame ps₀ s₀ s) :
    Frame ps₀ s₀ (State.dictRead s who area idx sub tq q) := by
  unfold State.dictRead
  repeat' first
    | with_reducible assumption
    | with_reducible refine execDebugChallenge_frame (hs₀ := Part.tr (by decide) hs₀) (e₀ := by with_reducible assumption) (h₀ := ?_)
    | with_reducible refine execGrantChallenge_frame (hs₀ := Part.tr (by decide) hs₀) (e₀ := by with_reducible assumption) (h₀ := ?_)
    | with_reducible apply State.onRequest_frame (hs₀ := Part.tr (by decide) hs₀)
    | with_reducible apply State.answer_frame (hs₀ := Part.tr (by decide) hs₀)
    | with_reducible apply State.readSnapshot_frame (hs₀ := Part.tr (by decide) hs₀)
    | with_reducible apply State.readBlob_frame (hs₀ := Part.tr (by decide) hs₀)
    | with_reducible apply settled_frame (hs₀ := Part.tr (by decide) hs₀)
    | with_reducible apply State.readValue_frame (hs₀ := Part.tr (by decide) hs₀)
    | with_reducible refine Frame.ite ?_ ?_
    | with_reducible intro _
    | split

/-! ### Machine/Transfers.lean -/

theorem State.capture_frame {ps₀ : List Part} {s₀ : State} (s : State) (f : State → State)
    (hs₀ : [.out] ⊆ ps₀) (hf : ∀ x0, Frame ps₀ s₀ x0 → Frame ps₀ s₀ (f x0)) (h₀ : Frame ps₀ s₀ s) :
    Frame ps₀ s₀ (State.capture s f).2 := by
  unfold State.capture
  repeat' first
    | with_reducible assumption
    | (conv => arg 3; arg 50); with_reducible refine Frame.set_out (Part.lift hs₀ (by decide)) ?_
    | with_reducible apply hf
    | dsimp only

theorem State.capture_out {ps₀ : List Part} {s₀ : State} (s : State) (f : State → State) {y₀ z₀}
    (hs₀ : [.out] ⊆ ps₀) (hf : ∀ x0, Frame ps₀ s₀ x0 → Frame ps₀ s₀ (f x0)) (e₀ : State.capture s f = (y₀, z₀)) (h₀ : Frame ps₀ s₀ s) : Frame ps₀ s₀ z₀ := by
  have x₀ := State.capture_frame s f hs₀ hf h₀; rw [e₀] at x₀; exact x₀

theorem State.wrongType_frame {ps₀ : List Part} {s₀ : State} (s : State) (who : Requester) (area : ℕ) (idx : ℕ) (sub : ℕ) (tq : ℕ) (write : Bool)
    (hs₀ : [.objects, .slices, .records, .pins, .out] ⊆ ps₀) (h₀ : Frame ps₀ s₀ s) :
    Frame ps₀ s₀ (State.wrongType s who area idx sub tq write) := by
  unfold State.wrongType
  repeat' first
    | with_reducible assumption
    | with_reducible apply State.onRequest_frame (hs₀ := Part.tr (by decide) hs₀)
    | with_reducible apply State.answer_frame (hs₀ := Part.tr (by decide) hs₀)
    | with_reducible apply State.mailboxSpoof_frame (hs₀ := Part.tr (by decide) hs₀)
    | with_reducible refine Frame.ite ?_ ?_
    | with_reducible intro _
    | split

theorem State.commitEntry_frame {ps₀ : List Part} {s₀ : State} (s : State) (who : Requester) (tq : ℕ) (others : Around) (env : WriteEnv) (e : Entry)
    (hs₀ : Part.allButQueue ⊆ ps₀) (h₀ : Frame ps₀ s₀ s) :
    Frame ps₀ s₀ (State.commitEntry s who tq others env e) := by
  unfold State.commitEntry
  repeat' first
    | with_reducible assumption
    | with_reducible apply State.dictWrite_frame (hs₀ := Part.tr (by decide) hs₀)
    | with_reducible apply State.writeGuardCommit_frame (hs₀ := Part.tr (by decide) hs₀)
    | with_reducible apply State.writeLayerCommit_frame (hs₀ := Part.tr (by decide) hs₀)
    | with_reducible apply State.wrongType_frame (hs₀ := Part.tr (by decide) hs₀)
    | with_reducible refine Frame.ite ?_ ?_
    | dsimp only
    | split

theorem State.entry_frame {ps₀ : List Part} {s₀ : State} (s : State) (who : Requester) (typ : ℕ) (tq : ℕ) (limit : ℕ) (env : WriteEnv) (others : Around) (e : Entry)
    (hs₀ : Part.allButQueue ⊆ ps₀) (h₀ : Frame ps₀ s₀ s) :
    Frame ps₀ s₀ (State.entry s who typ tq limit env others e).2 := by
  unfold State.entry
  repeat' first
    | with_reducible assumption
    | with_reducible apply State.capture_frame (hs₀ := Part.tr (by decide) hs₀)
    | with_reducible apply State.dictWrite_frame (hs₀ := Part.tr (by decide) hs₀)
    | with_reducible apply State.dictRead_frame (hs₀ := Part.tr (by decide) hs₀)
    | with_reducible apply State.commitEntry_frame (hs₀ := Part.tr (by decide) hs₀)
    | with_reducible refine Frame.ite ?_ ?_
    | with_reducible intro _

theorem State.entry_out {ps₀ : List Part} {s₀ : State} (s : State) (who : Requester) (typ : ℕ) (tq : ℕ) (limit : ℕ) (env : WriteEnv) (others : Around) (e : Entry) {y₀ z₀}
    (hs₀ : Part.allButQueue ⊆ ps₀) (e₀ : State.entry s who typ tq limit env others e = (y₀, z₀)) (h₀ : Frame ps₀ s₀ s) : Frame ps₀ s₀ z₀ := by
  have x₀ := State.entry_frame s who typ tq limit env others e hs₀ h₀; rw [e₀] at x₀; exact x₀

theorem State.entries_frame {ps₀ : List Part} {s₀ : State} (s : State) (who : Requester) (typ tq limit : ℕ) (env : WriteEnv)
    (armed : List SetCommit) (q7 : List Entry) (hs₀ : Part.allButQueue ⊆ ps₀) (h₀ : Frame ps₀ s₀ s) :
    Frame ps₀ s₀ (State.entries s who typ tq limit env armed q7).2 := by
  induction q7 generalizing s armed with
  | nil => exact h₀
  | cons e l ih => exact ih _ _ (State.entry_frame _ _ _ _ _ _ _ _ hs₀ h₀)

theorem State.entries_out {ps₀ : List Part} {s₀ : State} (s : State) (who : Requester) (typ tq limit : ℕ) (env : WriteEnv)
    (armed : List SetCommit) (q7 : List Entry) {y₀ z₀} (hs₀ : Part.allButQueue ⊆ ps₀)
    (e₀ : State.entries s who typ tq limit env armed q7 = (y₀, z₀)) (h₀ : Frame ps₀ s₀ s) : Frame ps₀ s₀ z₀ := by
  have x₀ := State.entries_frame s who typ tq limit env armed q7 hs₀ h₀; rw [e₀] at x₀; exact x₀

theorem State.transfer_frame {ps₀ : List Part} {s₀ : State} (s : State) (who : Requester) (typ : ℕ) (tq : ℕ) (limit : ℕ) (env : WriteEnv) (body : Bytes)
    (hs₀ : Part.allButQueue ⊆ ps₀) (h₀ : Frame ps₀ s₀ s) :
    FrameOut ps₀ s₀ (State.transfer s who typ tq limit env body) := by
  unfold State.transfer
  repeat' first
    | with_reducible assumption
    | with_reducible apply State.entries_frame (hs₀ := Part.tr (by decide) hs₀)
    | with_reducible exact FrameOut.ofNone
    | with_reducible refine FrameOut.ofSome ?_
    | with_reducible refine FrameOut.ite ?_ ?_
    | split

theorem execDictionaryWrite_frame {ps₀ : List Part} {s₀ t₀ : State} (who : Requester) (area : Fin 16) (idx : ℕ) (sub : ℕ) (tq : Option (Fin 512)) (data : Bytes) (env : WriteEnv) (s : State)
    (hs₀ : Part.allButQueue ⊆ ps₀) (e₀ : execDictionaryWrite who area idx sub tq data env s = .next t₀) (h₀ : Frame ps₀ s₀ s) :
    Frame ps₀ s₀ t₀ := by
  unfold execDictionaryWrite at e₀
  cases e₀
  repeat' first
    | with_reducible assumption
    | with_reducible apply State.dictWrite_frame (hs₀ := Part.tr (by decide) hs₀)

theorem execSafeStore_frame {ps₀ : List Part} {s₀ t₀ : State} (who : Requester) (n : Fin 8) (offset : ℕ) (last : Bool) (data : Bytes) (s : State)
    (hs₀ : Part.allButQueue ⊆ ps₀) (e₀ : execSafeStore who n offset last data s = .next t₀) (h₀ : Frame ps₀ s₀ s) :
    Frame ps₀ s₀ t₀ := by
  unfold execSafeStore at e₀
  cases e₀
  repeat' first
    | with_reducible assumption
    | with_reducible apply State.dictWrite_frame (hs₀ := Part.tr (by decide) hs₀)

theorem execResultAck_frame {ps₀ : List Part} {s₀ t₀ : State} (who : Requester) (area : Fin 16) (idx : ℕ) (tq : Option (Fin 512)) (gen : ℕ) (s : State)
    (hs₀ : [.results, .out] ⊆ ps₀) (e₀ : execResultAck who area idx tq gen s = .next t₀) (h₀ : Frame ps₀ s₀ s) :
    Frame ps₀ s₀ t₀ := by
  unfold execResultAck at e₀
  cases e₀
  repeat' first
    | with_reducible assumption
    | with_reducible apply State.ackResult_frame (hs₀ := Part.tr (by decide) hs₀)

theorem execResultBlobRead_frame {ps₀ : List Part} {s₀ t₀ : State} (who : Requester) (area : Fin 16) (idx : ℕ) (offset : ℕ) (len : ℕ) (s : State)
    (hs₀ : [.objects, .transfers, .secure, .network, .out, .free] ⊆ ps₀) (e₀ : execResultBlobRead who area idx offset len s = .next t₀) (h₀ : Frame ps₀ s₀ s) :
    Frame ps₀ s₀ t₀ := by
  unfold execResultBlobRead at e₀
  cases e₀
  repeat' first
    | with_reducible assumption
    | with_reducible apply State.dictRead_frame (hs₀ := Part.tr (by decide) hs₀)
    | split

theorem execSnapshotExpired_frame {ps₀ : List Part} {s₀ t₀ : State} (s : State)
    (hs₀ : [.transfers] ⊆ ps₀) (e₀ : execSnapshotExpired s = .next t₀) (h₀ : Frame ps₀ s₀ s) :
    Frame ps₀ s₀ t₀ := by
  unfold execSnapshotExpired at e₀
  cases e₀
  repeat' first
    | with_reducible assumption
    | (conv => arg 3; arg 50); with_reducible refine Frame.set_snapshots (Part.lift hs₀ (by decide)) ?_

theorem execLogRingRead_frame {ps₀ : List Part} {s₀ t₀ : State} (who : Requester) (station : Option (Fin 8)) (offset : ℕ) (len : ℕ) (s : State)
    (hs₀ : [.objects, .transfers, .secure, .network, .out, .free] ⊆ ps₀) (e₀ : execLogRingRead who station offset len s = .next t₀) (h₀ : Frame ps₀ s₀ s) :
    Frame ps₀ s₀ t₀ := by
  unfold execLogRingRead at e₀
  cases e₀
  repeat' first
    | with_reducible assumption
    | with_reducible apply State.dictRead_frame (hs₀ := Part.tr (by decide) hs₀)
    | split

theorem execClearingRead_frame {ps₀ : List Part} {s₀ t₀ : State} (who : Requester) (n : Fin 8) (stall : Bool) (s : State)
    (hs₀ : [.objects, .transfers, .secure, .network, .out, .free] ⊆ ps₀) (e₀ : execClearingRead who n stall s = .next t₀) (h₀ : Frame ps₀ s₀ s) :
    Frame ps₀ s₀ t₀ := by
  unfold execClearingRead at e₀
  cases e₀
  repeat' first
    | with_reducible assumption
    | with_reducible apply State.dictRead_frame (hs₀ := Part.tr (by decide) hs₀)

theorem execBlobWriteAbandoned_frame {ps₀ : List Part} {s₀ t₀ : State} (s : State)
    (hs₀ : [.transfers] ⊆ ps₀) (e₀ : execBlobWriteAbandoned s = .next t₀) (h₀ : Frame ps₀ s₀ s) :
    Frame ps₀ s₀ t₀ := by
  unfold execBlobWriteAbandoned at e₀
  cases e₀
  repeat' first
    | with_reducible assumption
    | (conv => arg 3; arg 50); with_reducible refine Frame.set_staging (Part.lift hs₀ (by decide)) ?_

/-! ### Machine/Bda.lean -/

theorem State.subscribe_frame {ps₀ : List Part} {s₀ : State} (s : State) (who : Requester) (id : PeerId) (area : ℕ) (idx : ℕ) (sub : ℕ) (tq : ℕ) (condition : ℕ) (interval : ℕ)
    (hs₀ : [.objects, .out] ⊆ ps₀) (h₀ : Frame ps₀ s₀ s) :
    Frame ps₀ s₀ (State.subscribe s who id area idx sub tq condition interval) := by
  unfold State.subscribe
  repeat' first
    | with_reducible assumption
    | with_reducible apply State.onRequest_frame (hs₀ := Part.tr (by decide) hs₀)
    | with_reducible apply State.answer_frame (hs₀ := Part.tr (by decide) hs₀)
    | with_reducible apply State.wr_frame (hs₀ := Part.tr (by decide) hs₀)
    | (conv => arg 3; arg 50); with_reducible refine Frame.set_subscriptions (Part.lift hs₀ (by decide)) ?_
    | with_reducible refine Frame.ite ?_ ?_
    | with_reducible intro _
    | dsimp only
    | split

theorem State.sendNotify_frame {ps₀ : List Part} {s₀ : State} (s : State) (id : PeerId) (k : OKey) (count : ℕ) (aux : ℕ) (data : Bytes)
    (hs₀ : [.network, .out] ⊆ ps₀) (h₀ : Frame ps₀ s₀ s) :
    Frame ps₀ s₀ (State.sendNotify s id k count aux data) := by
  unfold State.sendNotify
  repeat' first
    | with_reducible assumption
    | with_reducible apply State.setNet_frame (hs₀ := Part.tr (by decide) hs₀)
    | with_reducible apply State.emit_frame (hs₀ := Part.tr (by decide) hs₀)
    | dsimp only
    | split

theorem execSubscriptionNotify_frame {ps₀ : List Part} {s₀ t₀ : State} (k : Fin 512) (s : State)
    (hs₀ : [.objects, .network, .out] ⊆ ps₀) (e₀ : execSubscriptionNotify k s = .next t₀) (h₀ : Frame ps₀ s₀ s) :
    Frame ps₀ s₀ t₀ := by
  unfold execSubscriptionNotify at e₀
  cases e₀
  repeat' first
    | with_reducible assumption
    | with_reducible apply State.sendNotify_frame (hs₀ := Part.tr (by decide) hs₀)
    | with_reducible apply State.firmware_frame (hs₀ := Part.tr (by decide) hs₀)
    | (conv => arg 3; arg 50); with_reducible refine Frame.set_subscriptions (Part.lift hs₀ (by decide)) ?_
    | with_reducible refine Frame.ite ?_ ?_
    | with_reducible intro _
    | dsimp only
    | split

theorem State.cachePiece_frame {ps₀ : List Part} {s₀ : State} (s : State) (b : Bytes)
    (hs₀ : [.objects, .network, .out] ⊆ ps₀) (h₀ : Frame ps₀ s₀ s) :
    Frame ps₀ s₀ (State.cachePiece s b) := by
  unfold State.cachePiece
  repeat' first
    | with_reducible assumption
    | with_reducible apply State.serveTargets_frame (hs₀ := Part.tr (by decide) hs₀)
    | with_reducible apply State.setNet_frame (hs₀ := Part.tr (by decide) hs₀)
    | with_reducible refine Frame.ite ?_ ?_
    | dsimp only
    | split

theorem State.streamRecord_frame {ps₀ : List Part} {s₀ : State} (s : State) (r : ObjRow) (b : Bytes)
    (hs₀ : [.objects, .results, .resets, .network, .update, .checks, .records, .out] ⊆ ps₀) (h₀ : Frame ps₀ s₀ s) :
    Frame ps₀ s₀ (State.streamRecord s r b) := by
  unfold State.streamRecord
  repeat' first
    | with_reducible assumption
    | with_reducible apply State.pieceArrives_frame (hs₀ := Part.tr (by decide) hs₀)
    | with_reducible apply State.cachePiece_frame (hs₀ := Part.tr (by decide) hs₀)
    | with_reducible refine Frame.ite ?_ ?_

theorem State.streamRecords_frame {ps₀ : List Part} {s₀ : State} (s : State) (r : ObjRow) (q2 : ℕ) (q3 : Bytes)
    (hs₀ : [.objects, .results, .resets, .network, .update, .checks, .records, .out] ⊆ ps₀) (h₀ : Frame ps₀ s₀ s) : Frame ps₀ s₀ (State.streamRecords s r q2 q3).2 := by
  induction q2 generalizing s q3 with
  | zero => exact h₀
  | succ k ih =>
    unfold State.streamRecords
    split
    · exact h₀
    · exact ih _ _ (State.streamRecord_frame _ _ _ (Part.tr (by decide) hs₀) h₀)

theorem State.streamRecords_out {ps₀ : List Part} {s₀ : State} (s : State) (r : ObjRow) (q2 : ℕ) (q3 : Bytes) {y₀ z₀}
    (hs₀ : [.objects, .results, .resets, .network, .update, .checks, .records, .out] ⊆ ps₀) (e₀ : State.streamRecords s r q2 q3 = (y₀, z₀)) (h₀ : Frame ps₀ s₀ s) : Frame ps₀ s₀ z₀ := by
  have x₀ := State.streamRecords_frame s r q2 q3 hs₀ h₀; rw [e₀] at x₀; exact x₀

theorem State.block_frame {ps₀ : List Part} {s₀ : State} (s : State) (who : Requester) (k : ℕ) (area : ℕ) (idx : ℕ) (sub : ℕ) (tq : ℕ) (seq : ℕ) (data : Bytes)
    (hs₀ : [.objects, .results, .resets, .network, .update, .checks, .records, .out] ⊆ ps₀) (h₀ : Frame ps₀ s₀ s) :
    Frame ps₀ s₀ (State.block s who k area idx sub tq seq data) := by
  unfold State.block
  repeat' first
    | with_reducible assumption
    | with_reducible apply State.streamRecords_frame (hs₀ := Part.tr (by decide) hs₀)
    | with_reducible apply State.onRequest_frame (hs₀ := Part.tr (by decide) hs₀)
    | with_reducible apply State.answer_frame (hs₀ := Part.tr (by decide) hs₀)
    | with_reducible apply State.setNet_frame (hs₀ := Part.tr (by decide) hs₀)
    | with_reducible apply State.guarded_frame (hs₀ := Part.tr (by decide) hs₀)
    | with_reducible apply State.cvBlockFrame_frame (hs₀ := Part.tr (by decide) hs₀)
    | with_reducible refine Frame.ite ?_ ?_
    | with_reducible intro _
    | dsimp only
    | split

theorem State.settleLevel_frame {ps₀ : List Part} {s₀ : State} (s : State) (k : ℕ)
    (hs₀ : [.network] ⊆ ps₀) (h₀ : Frame ps₀ s₀ s) :
    Frame ps₀ s₀ (State.settleLevel s k) := by
  unfold State.settleLevel
  repeat' first
    | with_reducible assumption
    | (conv => arg 3; arg 50); with_reducible refine Frame.set_peerLevel (Part.lift hs₀ (by decide)) ?_
    | split

theorem State.touchSession_frame {ps₀ : List Part} {s₀ : State} (s : State) (k : ℕ) (h : Header)
    (hs₀ : [.network] ⊆ ps₀) (h₀ : Frame ps₀ s₀ s) :
    Frame ps₀ s₀ (State.touchSession s k h) := by
  unfold State.touchSession
  repeat' first
    | with_reducible assumption
    | with_reducible apply State.setPeer_frame (hs₀ := Part.tr (by decide) hs₀)
    | with_reducible refine Frame.ite ?_ ?_
    | split

theorem State.resend_frame {ps₀ : List Part} {s₀ : State} (s : State) (id : PeerId) (k : ℕ) (seq : ℕ)
    (hs₀ : [.out] ⊆ ps₀) (h₀ : Frame ps₀ s₀ s) :
    Frame ps₀ s₀ (State.resend s id k seq) := by
  unfold State.resend
  repeat' first
    | with_reducible assumption
    | with_reducible apply State.emit_frame (hs₀ := Part.tr (by decide) hs₀)
    | split

theorem State.onFrame_frame {ps₀ : List Part} {s₀ : State} (s : State) (typ : ℕ) (src : PeerSource) (b : Bytes) (f : Serve)
    (hs₀ : [.objects, .network, .out, .free] ⊆ ps₀) (hf : ∀ x0 x1 x2 x3, Frame ps₀ s₀ x3 → FrameOut ps₀ s₀ (f x0 x1 x2 x3)) (h₀ : Frame ps₀ s₀ s) :
    Frame ps₀ s₀ (State.onFrame s typ src b f) := by
  unfold State.onFrame
  repeat' first
    | with_reducible assumption
    | refine State.takeSeq_out (hs₀ := Part.tr (by decide) hs₀) (e₀ := by with_reducible assumption) (h₀ := ?_)
    | with_reducible apply State.cacheResponse_frame (hs₀ := Part.tr (by decide) hs₀)
    | with_reducible apply State.resend_frame (hs₀ := Part.tr (by decide) hs₀)
    | with_reducible apply State.touchSession_frame (hs₀ := Part.tr (by decide) hs₀)
    | with_reducible apply State.settleLevel_frame (hs₀ := Part.tr (by decide) hs₀)
    | with_reducible apply State.count_frame (hs₀ := Part.tr (by decide) hs₀)
    | with_reducible apply State.emit_frame (hs₀ := Part.tr (by decide) hs₀)
    | (conv => arg 3; arg 50); with_reducible refine Frame.set_peerLevel (Part.lift hs₀ (by decide)) ?_
    | with_reducible refine FrameOut.get (h := hf _ _ _ _ ?_) (e := by with_reducible assumption)
    | with_reducible refine Frame.ite ?_ ?_
    | dsimp only
    | split

theorem State.shortRequest_frame {ps₀ : List Part} {s₀ : State} (s : State) (who : Requester) (id : PeerId) (f : ShortFrame) (env : WriteEnv)
    (hs₀ : Part.allButQueue ⊆ ps₀) (h₀ : Frame ps₀ s₀ s) :
    Frame ps₀ s₀ (State.shortRequest s who id f env).2 := by
  unfold State.shortRequest
  repeat' first
    | with_reducible assumption
    | with_reducible apply State.capture_frame (hs₀ := Part.tr (by decide) hs₀)
    | with_reducible apply State.dictWrite_frame (hs₀ := Part.tr (by decide) hs₀)
    | with_reducible apply State.dictRead_frame (hs₀ := Part.tr (by decide) hs₀)
    | with_reducible apply State.subscribe_frame (hs₀ := Part.tr (by decide) hs₀)
    | with_reducible apply State.wrongType_frame (hs₀ := Part.tr (by decide) hs₀)
    | with_reducible apply State.commitEntry_frame (hs₀ := Part.tr (by decide) hs₀)
    | with_reducible refine Frame.ite ?_ ?_
    | with_reducible intro _
    | dsimp only
    | split

theorem State.shortRequest_out {ps₀ : List Part} {s₀ : State} (s : State) (who : Requester) (id : PeerId) (f : ShortFrame) (env : WriteEnv) {y₀ z₀}
    (hs₀ : Part.allButQueue ⊆ ps₀) (e₀ : State.shortRequest s who id f env = (y₀, z₀)) (h₀ : Frame ps₀ s₀ s) : Frame ps₀ s₀ z₀ := by
  have x₀ := State.shortRequest_frame s who id f env hs₀ h₀; rw [e₀] at x₀; exact x₀

theorem State.onShort_frame {ps₀ : List Part} {s₀ : State} (s : State) (typ : ℕ) (bus : ℕ) (id_ : ℕ) (data : Bytes) (env : WriteEnv)
    (hs₀ : Part.allButQueue ⊆ ps₀) (h₀ : Frame ps₀ s₀ s) :
    Frame ps₀ s₀ (State.onShort s typ bus id_ data env) := by
  unfold State.onShort
  repeat' first
    | with_reducible assumption
    | refine State.takeSeq_out (hs₀ := Part.tr (by decide) hs₀) (e₀ := by with_reducible assumption) (h₀ := ?_)
    | refine State.shortRequest_out (hs₀ := Part.tr (by decide) hs₀) (e₀ := by with_reducible assumption) (h₀ := ?_)
    | with_reducible apply State.cacheResponse_frame (hs₀ := Part.tr (by decide) hs₀)
    | with_reducible apply State.resend_frame (hs₀ := Part.tr (by decide) hs₀)
    | with_reducible apply State.emit_frame (hs₀ := Part.tr (by decide) hs₀)
    | (conv => arg 3; arg 50); with_reducible refine Frame.set_peerLevel (Part.lift hs₀ (by decide)) ?_
    | with_reducible refine Frame.ite ?_ ?_
    | dsimp only
    | split

theorem State.onBda_frame {ps₀ : List Part} {s₀ : State} (s : State) (typ : ℕ) (src : PeerSource) (frame : BdaFrame) (env : WriteEnv) (f : Serve)
    (hs₀ : Part.allButQueue ⊆ ps₀) (hf : ∀ x0 x1 x2 x3, Frame ps₀ s₀ x3 → FrameOut ps₀ s₀ (f x0 x1 x2 x3)) (h₀ : Frame ps₀ s₀ s) :
    Frame ps₀ s₀ (State.onBda s typ src frame env f) := by
  unfold State.onBda
  repeat' first
    | with_reducible assumption
    | with_reducible apply State.onShort_frame (hs₀ := Part.tr (by decide) hs₀)
    | with_reducible apply State.onFrame_frame (hs₀ := Part.tr (by decide) hs₀)
    | with_reducible refine Frame.ite ?_ ?_
    | split

theorem execBdaRead_frame {ps₀ : List Part} {s₀ t₀ : State} (src : PeerSource) (frame : BdaFrame) (s : State)
    (hs₀ : Part.allButQueue ⊆ ps₀) (e₀ : execBdaRead src frame s = .next t₀) (h₀ : Frame ps₀ s₀ s) :
    Frame ps₀ s₀ t₀ := by
  unfold execBdaRead at e₀
  cases e₀
  repeat' first
    | with_reducible assumption
    | with_reducible apply State.onBda_frame (hs₀ := Part.tr (by decide) hs₀)
    | with_reducible apply State.transfer_frame (hs₀ := Part.tr (by decide) hs₀)
    | with_reducible intro _

theorem execBdaWrite_frame {ps₀ : List Part} {s₀ t₀ : State} (src : PeerSource) (frame : BdaFrame) (env : WriteEnv) (s : State)
    (hs₀ : Part.allButQueue ⊆ ps₀) (e₀ : execBdaWrite src frame env s = .next t₀) (h₀ : Frame ps₀ s₀ s) :
    Frame ps₀ s₀ t₀ := by
  unfold execBdaWrite at e₀
  cases e₀
  repeat' first
    | with_reducible assumption
    | with_reducible apply State.onBda_frame (hs₀ := Part.tr (by decide) hs₀)
    | with_reducible apply State.transfer_frame (hs₀ := Part.tr (by decide) hs₀)
    | with_reducible intro _

theorem execBdaCommit_frame {ps₀ : List Part} {s₀ t₀ : State} (src : PeerSource) (frame : BdaFrame) (s : State)
    (hs₀ : Part.allButQueue ⊆ ps₀) (e₀ : execBdaCommit src frame s = .next t₀) (h₀ : Frame ps₀ s₀ s) :
    Frame ps₀ s₀ t₀ := by
  unfold execBdaCommit at e₀
  cases e₀
  repeat' first
    | with_reducible assumption
    | with_reducible apply State.onBda_frame (hs₀ := Part.tr (by decide) hs₀)
    | with_reducible apply State.transfer_frame (hs₀ := Part.tr (by decide) hs₀)
    | with_reducible intro _

theorem State.notifyEntries_frame {ps₀ : List Part} {s₀ : State} (s : State) (k : ℕ) (id : PeerId) (tq : ℕ) (q4 : ℕ) (q5 : Bytes)
    (hs₀ : [.objects, .out] ⊆ ps₀) (h₀ : Frame ps₀ s₀ s) :
    FrameOut ps₀ s₀ (State.notifyEntries s k id tq q4 q5) := by
  induction q4 generalizing s q5 with
  | zero =>
    cases q5 with
    | nil => exact FrameOut.ofSome h₀
    | cons _ _ => exact FrameOut.ofNone
  | succ k₀ ih₀ =>
    cases q5 with
    | nil => exact FrameOut.ofSome h₀
    | cons b₀ l₀ =>
      unfold State.notifyEntries
      repeat' first
        | with_reducible assumption
        | with_reducible apply ih₀
        | with_reducible apply State.capture_frame (hs₀ := Part.tr (by decide) hs₀)
        | with_reducible apply State.subscribe_frame (hs₀ := Part.tr (by decide) hs₀)
        | with_reducible exact FrameOut.ofNone
        | with_reducible refine FrameOut.ite ?_ ?_
        | with_reducible refine FrameOut.map (fun _ => rfl) ?_
        | with_reducible intro _

theorem execBdaNotify_frame {ps₀ : List Part} {s₀ t₀ : State} (src : PeerSource) (frame : BdaFrame) (s : State)
    (hs₀ : Part.allButQueue ⊆ ps₀) (e₀ : execBdaNotify src frame s = .next t₀) (h₀ : Frame ps₀ s₀ s) :
    Frame ps₀ s₀ t₀ := by
  unfold execBdaNotify at e₀
  cases e₀
  repeat' first
    | with_reducible assumption
    | with_reducible apply State.onBda_frame (hs₀ := Part.tr (by decide) hs₀)
    | with_reducible apply State.notifyEntries_frame (hs₀ := Part.tr (by decide) hs₀)
    | with_reducible exact FrameOut.ofNone
    | with_reducible refine FrameOut.ite ?_ ?_
    | with_reducible intro _
    | split

theorem State.blockEntries_frame {ps₀ : List Part} {s₀ : State} (s : State) (k : ℕ) (tq : ℕ) (q3 : ℕ) (q4 : Bytes)
    (hs₀ : [.objects, .results, .resets, .network, .update, .checks, .records, .out] ⊆ ps₀) (h₀ : Frame ps₀ s₀ s) :
    FrameOut ps₀ s₀ (State.blockEntries s k tq q3 q4) := by
  induction q3 generalizing s q4 with
  | zero =>
    cases q4 with
    | nil => exact FrameOut.ofSome h₀
    | cons _ _ => exact FrameOut.ofNone
  | succ k₀ ih₀ =>
    cases q4 with
    | nil => exact FrameOut.ofSome h₀
    | cons b₀ l₀ =>
      unfold State.blockEntries
      repeat' first
        | with_reducible assumption
        | with_reducible apply ih₀
        | with_reducible apply State.capture_frame (hs₀ := Part.tr (by decide) hs₀)
        | with_reducible apply State.block_frame (hs₀ := Part.tr (by decide) hs₀)
        | with_reducible exact FrameOut.ofNone
        | with_reducible refine FrameOut.ite ?_ ?_
        | with_reducible refine FrameOut.map (fun _ => rfl) ?_
        | with_reducible intro _

theorem execBdaBlock_frame {ps₀ : List Part} {s₀ t₀ : State} (src : PeerSource) (frame : BdaFrame) (s : State)
    (hs₀ : Part.allButQueue ⊆ ps₀) (e₀ : execBdaBlock src frame s = .next t₀) (h₀ : Frame ps₀ s₀ s) :
    Frame ps₀ s₀ t₀ := by
  unfold execBdaBlock at e₀
  cases e₀
  repeat' first
    | with_reducible assumption
    | with_reducible apply State.onBda_frame (hs₀ := Part.tr (by decide) hs₀)
    | with_reducible apply State.blockEntries_frame (hs₀ := Part.tr (by decide) hs₀)
    | with_reducible exact FrameOut.ofNone
    | with_reducible refine FrameOut.ite ?_ ?_
    | with_reducible intro _

/-! ### Machine/Mailbox.lean -/

theorem State.setMbox_frame {ps₀ : List Part} {s₀ : State} (s : State) (p : MbPath) (m : Mailbox)
    (hs₀ : [.slices, .ports] ⊆ ps₀) (h₀ : Frame ps₀ s₀ s) :
    Frame ps₀ s₀ (State.setMbox s p m) := by
  unfold State.setMbox
  repeat' first
    | with_reducible assumption
    | with_reducible apply State.setPrt_frame (hs₀ := Part.tr (by decide) hs₀)
    | with_reducible apply State.setSlc_frame (hs₀ := Part.tr (by decide) hs₀)
    | dsimp only
    | split

theorem State.onMbox_frame {ps₀ : List Part} {s₀ : State} (s : State) (p : MbPath) (f : State → State)
    (hs₀ : [.objects] ⊆ ps₀) (hf : ∀ x0, Frame ps₀ s₀ x0 → Frame ps₀ s₀ (f x0)) (h₀ : Frame ps₀ s₀ s) :
    Frame ps₀ s₀ (State.onMbox s p f) := by
  unfold State.onMbox
  repeat' first
    | with_reducible assumption
    | with_reducible apply State.count_frame (hs₀ := Part.tr (by decide) hs₀)
    | with_reducible apply hf
    | with_reducible refine Frame.ite ?_ ?_
    | split

theorem State.serveMbox_frame {ps₀ : List Part} {s₀ : State} (s : State) (p : MbPath)
    (hs₀ : Part.allButQueue ⊆ ps₀) (h₀ : Frame ps₀ s₀ s) :
    Frame ps₀ s₀ (State.serveMbox s p) := by
  unfold State.serveMbox
  repeat' first
    | with_reducible assumption
    | with_reducible refine FrameOut.get (h := State.transfer_frame _ _ _ _ _ _ _ (hs₀ := Part.tr (by decide) hs₀) (h₀ := ?_)) (e := by with_reducible assumption)
    | with_reducible apply State.setMbox_frame (hs₀ := Part.tr (by decide) hs₀)
    | dsimp only
    | split

theorem execMbSend_frame {ps₀ : List Part} {s₀ t₀ : State} (path : MbPath) (typ : Fin 16) (tq : Option (Fin 512)) (body : Bytes) (env : WriteEnv) (s : State)
    (hs₀ : Part.allButQueue ⊆ ps₀) (e₀ : execMbSend path typ tq body env s = .next t₀) (h₀ : Frame ps₀ s₀ s) :
    Frame ps₀ s₀ t₀ := by
  unfold execMbSend at e₀
  cases e₀
  repeat' first
    | with_reducible assumption
    | with_reducible apply State.setMbox_frame (hs₀ := Part.tr (by decide) hs₀)
    | with_reducible apply State.serveMbox_frame (hs₀ := Part.tr (by decide) hs₀)
    | with_reducible apply State.onMbox_frame (hs₀ := Part.tr (by decide) hs₀)
    | with_reducible refine Frame.ite ?_ ?_
    | with_reducible intro _

theorem execMbAck_frame {ps₀ : List Part} {s₀ t₀ : State} (path : MbPath) (s : State)
    (hs₀ : [.objects, .slices, .ports] ⊆ ps₀) (e₀ : execMbAck path s = .next t₀) (h₀ : Frame ps₀ s₀ s) :
    Frame ps₀ s₀ t₀ := by
  unfold execMbAck at e₀
  cases e₀
  repeat' first
    | with_reducible assumption
    | with_reducible apply State.setMbox_frame (hs₀ := Part.tr (by decide) hs₀)
    | with_reducible apply State.onMbox_frame (hs₀ := Part.tr (by decide) hs₀)
    | with_reducible intro _

theorem execMbResponseReady_frame {ps₀ : List Part} {s₀ t₀ : State} (path : MbPath) (s : State)
    (hs₀ : [.slices, .ports, .out] ⊆ ps₀) (e₀ : execMbResponseReady path s = .next t₀) (h₀ : Frame ps₀ s₀ s) :
    Frame ps₀ s₀ t₀ := by
  unfold execMbResponseReady at e₀
  cases e₀
  repeat' first
    | with_reducible assumption
    | with_reducible apply State.setMbox_frame (hs₀ := Part.tr (by decide) hs₀)
    | with_reducible apply State.irqMapped_frame (hs₀ := Part.tr (by decide) hs₀)
    | dsimp only
    | split

theorem State.serveHeld_frame {ps₀ : List Part} {s₀ : State} (s : State)
    (hs₀ : Part.allButQueue ⊆ ps₀) (h₀ : Frame ps₀ s₀ s) :
    Frame ps₀ s₀ (State.serveHeld s) := by
  unfold State.serveHeld
  repeat' first
    | with_reducible assumption
    | with_reducible apply State.serveMbox_frame (hs₀ := Part.tr (by decide) hs₀)
    | with_reducible refine Frame.each (fun _ _ _ => ?_) ?_

/-! ### Machine/Bringup.lean -/

theorem State.loadHeadworks_frame {ps₀ : List Part} {s₀ : State} (s : State)
    (hs₀ : [.objects, .shadows, .texts, .resets, .records, .pins, .out] ⊆ ps₀) (h₀ : Frame ps₀ s₀ s) :
    Frame ps₀ s₀ (State.loadHeadworks s) := by
  unfold State.loadHeadworks
  repeat' first
    | with_reducible assumption
    | with_reducible apply State.loadGroups_frame (hs₀ := Part.tr (by decide) hs₀)
    | with_reducible apply State.syncSecure_frame (hs₀ := Part.tr (by decide) hs₀)
    | with_reducible apply State.holdCeilings_frame (hs₀ := Part.tr (by decide) hs₀)
    | with_reducible apply State.syncRole_frame (hs₀ := Part.tr (by decide) hs₀)
    | with_reducible apply State.syncPorts_frame (hs₀ := Part.tr (by decide) hs₀)
    | with_reducible apply State.syncZones_frame (hs₀ := Part.tr (by decide) hs₀)
    | with_reducible apply State.syncSlice_frame (hs₀ := Part.tr (by decide) hs₀)
    | (conv => arg 3; arg 50); with_reducible refine Frame.set_rst (Part.lift hs₀ (by decide)) ?_
    | with_reducible refine Frame.ite ?_ ?_
    | with_reducible refine Frame.each (fun _ _ _ => ?_) ?_

theorem State.settleSettings_frame {ps₀ : List Part} {s₀ : State} (s : State)
    (hs₀ : [.objects, .shadows, .texts, .resets, .records, .pins, .out] ⊆ ps₀) (h₀ : Frame ps₀ s₀ s) :
    Frame ps₀ s₀ (State.settleSettings s) := by
  unfold State.settleSettings
  repeat' first
    | with_reducible assumption
    | with_reducible apply State.wr_frame (hs₀ := Part.tr (by decide) hs₀)
    | with_reducible apply State.loadHeadworks_frame (hs₀ := Part.tr (by decide) hs₀)
    | (conv => arg 3; arg 50); with_reducible refine Frame.set_settings (Part.lift hs₀ (by decide)) ?_
    | with_reducible refine Frame.ite ?_ ?_

theorem State.takeSection_frame {ps₀ : List Part} {s₀ : State} (s : State) (h : Handover) (typ : ℕ)
    (hs₀ : [.objects, .network, .records, .pins, .out] ⊆ ps₀) (h₀ : Frame ps₀ s₀ s) :
    Frame ps₀ s₀ (State.takeSection s h typ) := by
  unfold State.takeSection
  repeat' first
    | with_reducible assumption
    | with_reducible apply State.setNet_frame (hs₀ := Part.tr (by decide) hs₀)
    | with_reducible apply State.wr_frame (hs₀ := Part.tr (by decide) hs₀)
    | with_reducible apply State.alarmSummary_frame (hs₀ := Part.tr (by decide) hs₀)
    | (conv => arg 3; arg 50); with_reducible refine Frame.set_alarmQ_alarms (Part.lift hs₀ (by decide)) ?_
    | with_reducible refine Frame.ite ?_ ?_
    | with_reducible refine Frame.each (fun _ _ _ => ?_) ?_

theorem State.readHandover_frame {ps₀ : List Part} {s₀ : State} (s : State) (lost : Bool) (skipped : List ℕ)
    (hs₀ : [.objects, .network, .update, .records, .pins, .out] ⊆ ps₀) (h₀ : Frame ps₀ s₀ s) :
    Frame ps₀ s₀ (State.readHandover s lost skipped) := by
  unfold State.readHandover
  repeat' first
    | with_reducible assumption
    | with_reducible apply State.toHwLog_frame (hs₀ := Part.tr (by decide) hs₀)
    | with_reducible apply State.takeSection_frame (hs₀ := Part.tr (by decide) hs₀)
    | with_reducible apply State.setUpd_frame (hs₀ := Part.tr (by decide) hs₀)
    | with_reducible refine Frame.ite ?_ ?_
    | with_reducible refine Frame.each (fun _ _ _ => ?_) ?_
    | dsimp only
    | split

theorem State.mgmtStart_frame {ps₀ : List Part} {s₀ : State} (s : State) (lost : Bool) (skipped : List ℕ) (fails : List ℕ)
    (hs₀ : [.objects, .shadows, .texts, .resets, .network, .update, .records, .pins, .out] ⊆ ps₀) (h₀ : Frame ps₀ s₀ s) :
    Frame ps₀ s₀ (State.mgmtStart s lost skipped fails) := by
  unfold State.mgmtStart
  repeat' first
    | with_reducible assumption
    | with_reducible apply State.settleSettings_frame (hs₀ := Part.tr (by decide) hs₀)
    | with_reducible apply State.setNet_frame (hs₀ := Part.tr (by decide) hs₀)
    | with_reducible apply State.nextErase_frame (hs₀ := Part.tr (by decide) hs₀)
    | with_reducible apply State.wr_frame (hs₀ := Part.tr (by decide) hs₀)
    | with_reducible apply State.hwReady_frame (hs₀ := Part.tr (by decide) hs₀)
    | with_reducible apply State.programFuses_frame (hs₀ := Part.tr (by decide) hs₀)
    | with_reducible apply State.count_frame (hs₀ := Part.tr (by decide) hs₀)
    | with_reducible apply State.readHandover_frame (hs₀ := Part.tr (by decide) hs₀)
    | with_reducible apply State.reportResets_frame (hs₀ := Part.tr (by decide) hs₀)
    | with_reducible refine Frame.ite ?_ ?_
    | with_reducible refine Frame.each (fun _ _ _ => ?_) ?_

theorem execMgmtReady_frame {ps₀ : List Part} {s₀ t₀ : State} (lost : Bool) (skipped : List ℕ) (fails : List ℕ) (s : State)
    (hs₀ : Part.allButQueue ⊆ ps₀) (e₀ : execMgmtReady lost skipped fails s = .next t₀) (h₀ : Frame ps₀ s₀ s) :
    Frame ps₀ s₀ t₀ := by
  unfold execMgmtReady at e₀
  cases e₀
  repeat' first
    | with_reducible assumption
    | with_reducible apply State.mgmtStart_frame (hs₀ := Part.tr (by decide) hs₀)
    | with_reducible apply State.serveHeld_frame (hs₀ := Part.tr (by decide) hs₀)
    | with_reducible apply State.firmware_frame (hs₀ := Part.tr (by decide) hs₀)
    | with_reducible refine Frame.ite ?_ ?_
    | with_reducible intro _

theorem execHwPllLockLost_frame {ps₀ : List Part} {s₀ t₀ : State} (k : Fin 3) (s : State)
    (hs₀ : [.objects, .resets, .checks, .ingress, .crossings] ⊆ ps₀) (e₀ : execHwPllLockLost k s = .next t₀) (h₀ : Frame ps₀ s₀ s) :
    Frame ps₀ s₀ t₀ := by
  unfold execHwPllLockLost at e₀
  cases e₀
  repeat' first
    | with_reducible assumption
    | with_reducible apply State.lockPll_frame (hs₀ := Part.tr (by decide) hs₀)
    | with_reducible apply State.dropCrossings_frame (hs₀ := Part.tr (by decide) hs₀)
    | with_reducible apply State.cvSourceLost_frame (hs₀ := Part.tr (by decide) hs₀)
    | with_reducible apply State.count_frame (hs₀ := Part.tr (by decide) hs₀)
    | (conv => arg 3; arg 50); with_reducible refine Frame.set_ingress (Part.lift hs₀ (by decide)) ?_
    | (conv => arg 3; arg 50); with_reducible refine Frame.set_rst (Part.lift hs₀ (by decide)) ?_
    | with_reducible refine Frame.ite ?_ ?_
    | with_reducible refine Frame.each (fun _ _ _ => ?_) ?_

theorem State.ungateHw_frame {ps₀ : List Part} {s₀ : State} (s : State) (k : ℕ)
    (hs₀ : Part.allButQueue ⊆ ps₀) (h₀ : Frame ps₀ s₀ s) :
    Frame ps₀ s₀ (State.ungateHw s k) := by
  unfold State.ungateHw
  repeat' first
    | with_reducible assumption
    | with_reducible apply State.lockPll_frame (hs₀ := Part.tr (by decide) hs₀)
    | with_reducible apply State.serveHeld_frame (hs₀ := Part.tr (by decide) hs₀)
    | with_reducible apply State.fetch_frame (hs₀ := Part.tr (by decide) hs₀)
    | (conv => arg 3; arg 50); with_reducible refine Frame.set_rst (Part.lift hs₀ (by decide)) ?_
    | with_reducible refine Frame.ite ?_ ?_
    | with_reducible refine Frame.each (fun _ _ _ => ?_) ?_

theorem execHwPllRelocked_frame {ps₀ : List Part} {s₀ t₀ : State} (k : Fin 3) (ok : Bool) (s : State)
    (hs₀ : Part.allButQueue ⊆ ps₀) (e₀ : execHwPllRelocked k ok s = .next t₀) (h₀ : Frame ps₀ s₀ s) :
    Frame ps₀ s₀ t₀ := by
  unfold execHwPllRelocked at e₀
  cases e₀
  repeat' first
    | with_reducible assumption
    | with_reducible apply State.ungateHw_frame (hs₀ := Part.tr (by decide) hs₀)
    | with_reducible apply State.wr_frame (hs₀ := Part.tr (by decide) hs₀)
    | with_reducible apply State.assertReset_frame (hs₀ := Part.tr (by decide) hs₀)
    | (conv => arg 3; arg 50); with_reducible refine Frame.set_rst (Part.lift hs₀ (by decide)) ?_
    | with_reducible refine Frame.ite ?_ ?_

theorem execQueueItemArrival_frame {ps₀ : List Part} {s₀ t₀ : State} (item : QueueItem) (s : State)
    (hs₀ : [.objects, .touchQueues, .hapticQueues, .records, .pins, .out, .free] ⊆ ps₀) (e₀ : execQueueItemArrival item s = .next t₀) (h₀ : Frame ps₀ s₀ s) :
    Frame ps₀ s₀ t₀ := by
  unfold execQueueItemArrival at e₀
  cases e₀
  repeat' first
    | with_reducible assumption
    | with_reducible apply State.toTenant_frame (hs₀ := Part.tr (by decide) hs₀)
    | with_reducible apply State.toHwLog_frame (hs₀ := Part.tr (by decide) hs₀)
    | with_reducible apply State.touchToEnclave_frame (hs₀ := Part.tr (by decide) hs₀)
    | with_reducible apply State.toEnclave_frame (hs₀ := Part.tr (by decide) hs₀)
    | with_reducible apply State.hapQueue_frame (hs₀ := Part.tr (by decide) hs₀)
    | with_reducible apply State.enterAlarm_frame (hs₀ := Part.tr (by decide) hs₀)
    | with_reducible apply State.toStationLog_frame (hs₀ := Part.tr (by decide) hs₀)
    | with_reducible apply State.touchToTenant_frame (hs₀ := Part.tr (by decide) hs₀)
    | with_reducible refine Frame.ite ?_ ?_
    | split

theorem State.appendLog_frame {ps₀ : List Part} {s₀ : State} (s : State) (key : ℕ) (r : Rec)
    (hs₀ : [.objects, .records] ⊆ ps₀) (h₀ : Frame ps₀ s₀ s) :
    Frame ps₀ s₀ (State.appendLog s key r) := by
  unfold State.appendLog
  repeat' first
    | with_reducible assumption
    | with_reducible apply State.count_frame (hs₀ := Part.tr (by decide) hs₀)
    | with_reducible apply State.advance_frame (hs₀ := Part.tr (by decide) hs₀)
    | (conv => arg 3; arg 50); with_reducible refine Frame.set_logRings (Part.lift hs₀ (by decide)) ?_
    | with_reducible refine Frame.ite ?_ ?_

theorem State.drainOne_frame {ps₀ : List Part} {s₀ : State} (s : State) (station : Option ℕ)
    (hs₀ : [.objects, .records] ⊆ ps₀) (h₀ : Frame ps₀ s₀ s) :
    Frame ps₀ s₀ (State.drainOne s station) := by
  unfold State.drainOne
  repeat' first
    | with_reducible assumption
    | with_reducible apply State.appendLog_frame (hs₀ := Part.tr (by decide) hs₀)
    | with_reducible apply State.wr_frame (hs₀ := Part.tr (by decide) hs₀)
    | (conv => arg 3; arg 50); with_reducible refine Frame.set_stationLogQ (Part.lift hs₀ (by decide)) ?_
    | (conv => arg 3; arg 50); with_reducible refine Frame.set_hwLogQ (Part.lift hs₀ (by decide)) ?_
    | split

theorem execLogDrain_frame {ps₀ : List Part} {s₀ t₀ : State} (station : Option (Fin 8)) (count : ℕ) (s : State)
    (hs₀ : [.objects, .records] ⊆ ps₀) (e₀ : execLogDrain station count s = .next t₀) (h₀ : Frame ps₀ s₀ s) :
    Frame ps₀ s₀ t₀ := by
  unfold execLogDrain at e₀
  cases e₀
  repeat' first
    | with_reducible assumption
    | with_reducible apply State.firmware_frame (hs₀ := Part.tr (by decide) hs₀)
    | with_reducible apply State.drainOne_frame (hs₀ := Part.tr (by decide) hs₀)
    | with_reducible refine Frame.ite ?_ ?_
    | with_reducible refine Frame.each (fun _ _ _ => ?_) ?_
    | with_reducible intro _

/-! ### Machine/EnclaveCalls.lean -/

theorem State.callAccess_frame {ps₀ : List Part} {s₀ : State} (s : State) (e : ℕ) (area : ℕ) (idx : ℕ) (sub : ℕ) (f : State → State)
    (hs₀ : [.out] ⊆ ps₀) (hf : ∀ x0, Frame ps₀ s₀ x0 → Frame ps₀ s₀ (f x0)) (h₀ : Frame ps₀ s₀ s) :
    Frame ps₀ s₀ (State.callAccess s e area idx sub f) := by
  unfold State.callAccess
  repeat' first
    | with_reducible assumption
    | with_reducible apply State.capture_frame (hs₀ := Part.tr (by decide) hs₀)
    | with_reducible apply State.reply_frame (hs₀ := Part.tr (by decide) hs₀)
    | with_reducible refine Frame.ite ?_ ?_

theorem execEnclaveWrite_frame {ps₀ : List Part} {s₀ t₀ : State} (e : Fin 64) (area : Fin 16) (idx : ℕ) (sub : ℕ) (data : Bytes) (s : State)
    (hs₀ : Part.allButQueue ⊆ ps₀) (e₀ : execEnclaveWrite e area idx sub data s = .next t₀) (h₀ : Frame ps₀ s₀ s) :
    Frame ps₀ s₀ t₀ := by
  unfold execEnclaveWrite at e₀
  cases e₀
  repeat' first
    | with_reducible assumption
    | with_reducible apply State.reply_frame (hs₀ := Part.tr (by decide) hs₀)
    | with_reducible apply State.dictWrite_frame (hs₀ := Part.tr (by decide) hs₀)
    | with_reducible apply State.onCall_frame (hs₀ := Part.tr (by decide) hs₀)
    | with_reducible apply State.wr_frame (hs₀ := Part.tr (by decide) hs₀)
    | with_reducible apply State.callAccess_frame (hs₀ := Part.tr (by decide) hs₀)
    | with_reducible refine Frame.ite ?_ ?_
    | with_reducible intro _
    | split

theorem execEnclaveRead_frame {ps₀ : List Part} {s₀ t₀ : State} (e : Fin 64) (area : Fin 16) (idx : ℕ) (sub : ℕ) (s : State)
    (hs₀ : [.objects, .transfers, .secure, .network, .out, .free] ⊆ ps₀) (e₀ : execEnclaveRead e area idx sub s = .next t₀) (h₀ : Frame ps₀ s₀ s) :
    Frame ps₀ s₀ t₀ := by
  unfold execEnclaveRead at e₀
  cases e₀
  repeat' first
    | with_reducible assumption
    | with_reducible apply State.reply_frame (hs₀ := Part.tr (by decide) hs₀)
    | with_reducible apply State.onCall_frame (hs₀ := Part.tr (by decide) hs₀)
    | with_reducible apply State.dictRead_frame (hs₀ := Part.tr (by decide) hs₀)
    | with_reducible apply State.callAccess_frame (hs₀ := Part.tr (by decide) hs₀)
    | with_reducible intro _
    | split

theorem execEnclaveCommit_frame {ps₀ : List Part} {s₀ t₀ : State} (e : Fin 64) (n : Fin 8) (layerMask : ℕ) (guardMask : ℕ) (s : State)
    (hs₀ : [.objects, .compositor, .display, .records, .crossings, .out, .free] ⊆ ps₀) (e₀ : execEnclaveCommit e n layerMask guardMask s = .next t₀) (h₀ : Frame ps₀ s₀ s) :
    Frame ps₀ s₀ t₀ := by
  unfold execEnclaveCommit at e₀
  cases e₀
  repeat' first
    | with_reducible assumption
    | with_reducible apply State.layerCommit_frame (hs₀ := Part.tr (by decide) hs₀)
    | with_reducible apply State.guardCommit_frame (hs₀ := Part.tr (by decide) hs₀)
    | with_reducible apply State.reply_frame (hs₀ := Part.tr (by decide) hs₀)
    | with_reducible apply State.onCall_frame (hs₀ := Part.tr (by decide) hs₀)
    | with_reducible refine Frame.ite ?_ ?_
    | with_reducible intro _

theorem execQueueRead_frame {ps₀ : List Part} {s₀ t₀ : State} (e : Fin 64) (touch : Bool) (s : State)
    (hs₀ : [.secure, .touchQueues, .records, .out] ⊆ ps₀) (e₀ : execQueueRead e touch s = .next t₀) (h₀ : Frame ps₀ s₀ s) :
    Frame ps₀ s₀ t₀ := by
  unfold execQueueRead at e₀
  cases e₀
  repeat' first
    | with_reducible assumption
    | with_reducible apply State.reply_frame (hs₀ := Part.tr (by decide) hs₀)
    | with_reducible apply State.onCall_frame (hs₀ := Part.tr (by decide) hs₀)
    | with_reducible apply State.setEcl_frame (hs₀ := Part.tr (by decide) hs₀)
    | (conv => arg 3; arg 50); with_reducible refine Frame.set_encNoteQ (Part.lift hs₀ (by decide)) ?_
    | (conv => arg 3; arg 50); with_reducible refine Frame.set_encTouchQ (Part.lift hs₀ (by decide)) ?_
    | with_reducible refine Frame.ite ?_ ?_
    | with_reducible intro _
    | dsimp only
    | split

theorem execSend_frame {ps₀ : List Part} {s₀ t₀ : State} (e : Fin 64) (data : Bytes) (s : State)
    (hs₀ : [.objects, .texts, .results, .secure, .records, .out] ⊆ ps₀) (e₀ : execSend e data s = .next t₀) (h₀ : Frame ps₀ s₀ s) :
    Frame ps₀ s₀ t₀ := by
  unfold execSend at e₀
  cases e₀
  repeat' first
    | with_reducible assumption
    | with_reducible apply State.reply_frame (hs₀ := Part.tr (by decide) hs₀)
    | with_reducible apply State.onCall_frame (hs₀ := Part.tr (by decide) hs₀)
    | with_reducible apply State.completeResult_frame (hs₀ := Part.tr (by decide) hs₀)
    | with_reducible apply State.wrBlob_frame (hs₀ := Part.tr (by decide) hs₀)
    | with_reducible apply State.setEcl_frame (hs₀ := Part.tr (by decide) hs₀)
    | with_reducible refine Frame.ite ?_ ?_
    | with_reducible intro _

theorem execSeal_frame {ps₀ : List Part} {s₀ t₀ : State} (e : Fin 64) (data : Bytes) (s : State)
    (hs₀ : [.out, .free] ⊆ ps₀) (e₀ : execSeal e data s = .next t₀) (h₀ : Frame ps₀ s₀ s) :
    Frame ps₀ s₀ t₀ := by
  unfold execSeal at e₀
  cases e₀
  repeat' first
    | with_reducible assumption
    | with_reducible apply State.drawBytes_frame (hs₀ := Part.tr (by decide) hs₀)
    | with_reducible apply State.reply_frame (hs₀ := Part.tr (by decide) hs₀)
    | with_reducible apply State.onCall_frame (hs₀ := Part.tr (by decide) hs₀)
    | with_reducible intro _

theorem execUnseal_frame {ps₀ : List Part} {s₀ t₀ : State} (e : Fin 64) (data : Bytes) (s : State)
    (hs₀ : [.out] ⊆ ps₀) (e₀ : execUnseal e data s = .next t₀) (h₀ : Frame ps₀ s₀ s) :
    Frame ps₀ s₀ t₀ := by
  unfold execUnseal at e₀
  cases e₀
  repeat' first
    | with_reducible assumption
    | with_reducible apply State.reply_frame (hs₀ := Part.tr (by decide) hs₀)
    | with_reducible apply State.onCall_frame (hs₀ := Part.tr (by decide) hs₀)
    | with_reducible intro _
    | split

/-! ### Machine/Frame.lean -/

theorem execFrameBoundary_frame {ps₀ : List Part} {s₀ t₀ : State} (n : Fin 8) (s : State)
    (hs₀ : [.objects, .results, .memory, .raster, .translator, .display, .touch, .checks, .touchQueues, .records, .out, .free] ⊆ ps₀) (e₀ : execFrameBoundary n s = .next t₀) (h₀ : Frame ps₀ s₀ s) :
    Frame ps₀ s₀ t₀ := by
  unfold execFrameBoundary at e₀
  cases e₀
  repeat' first
    | with_reducible assumption
    | with_reducible apply State.retarget_frame (hs₀ := Part.tr (by decide) hs₀)
    | with_reducible apply State.frameBoundary_frame (hs₀ := Part.tr (by decide) hs₀)
    | with_reducible apply State.touchPlan_frame (hs₀ := Part.tr (by decide) hs₀)
    | with_reducible apply State.lateLayers_frame (hs₀ := Part.tr (by decide) hs₀)
    | with_reducible apply State.setDsp_frame (hs₀ := Part.tr (by decide) hs₀)
    | with_reducible refine Frame.ite ?_ ?_

theorem execLineStart_frame {ps₀ : List Part} {s₀ t₀ : State} (n : Fin 8) (room : Bool) (s : State)
    (hs₀ : [.objects, .results, .stations, .memory, .raster, .translator, .energy, .compositor, .guard, .display, .touch, .haptic, .audio, .checks, .touchQueues, .hapticQueues, .records, .pins, .timers, .crossings, .out, .free] ⊆ ps₀) (e₀ : execLineStart n room s = .next t₀) (h₀ : Frame ps₀ s₀ s) :
    Frame ps₀ s₀ t₀ := by
  unfold execLineStart at e₀
  cases e₀
  repeat' first
    | with_reducible assumption
    | with_reducible apply State.lineStart_frame (hs₀ := Part.tr (by decide) hs₀)
    | with_reducible apply State.endGuardFrame_frame (hs₀ := Part.tr (by decide) hs₀)
    | with_reducible apply State.escalate_frame (hs₀ := Part.tr (by decide) hs₀)
    | with_reducible refine Frame.ite ?_ ?_
    | dsimp only
    | split

end Sys2Proof.Machine
end

