-- ==== Sys2Proof/Laws/Memory.lean ====
section
/-! SUPPORT. Station memory: what a read gives after a write, and that every memory operation keeps the canonical form. -/
namespace Sys2Proof.Machine

theorem memWfFrom_mono {lo hi : Nat} (h : lo ≤ hi) : ∀ {m : List Host.Cell}, memWfFrom hi m = true → memWfFrom lo m = true
  | [], _ => rfl
  | (k, v) :: rest, w => by
    simp only [memWfFrom, Bool.and_eq_true, decide_eq_true_eq] at w ⊢
    exact ⟨⟨le_trans h w.1.1, w.1.2⟩, w.2⟩

theorem memSet_wfFrom {lo a : Nat} (b : Byte) (ha : lo ≤ a) :
    ∀ {m : List Host.Cell}, memWfFrom lo m = true → memWfFrom lo (memSet m a b) = true
  | [], _ => by
    unfold memSet
    split
    · rfl
    · simp_all [memWfFrom]
  | (k, v) :: rest, w => by
    simp only [memWfFrom, Bool.and_eq_true, decide_eq_true_eq] at w
    obtain ⟨⟨hk, hv⟩, hr⟩ := w
    unfold memSet
    split
    · subst a
      split
      · exact memWfFrom_mono (by omega) hr
      · simp_all [memWfFrom]
    · split
      · split
        · simp_all [memWfFrom]
        · simp_all [memWfFrom]
      · simp only [memWfFrom, Bool.and_eq_true, decide_eq_true_eq]
        exact ⟨⟨hk, hv⟩, memSet_wfFrom b (by omega) hr⟩

theorem memSet_wf {m : List Host.Cell} (a : Nat) (b : Byte) (h : Memory.wf m = true) : Memory.wf (memSet m a b) = true :=
  memSet_wfFrom b (Nat.zero_le a) h

theorem memSetBytes_wf (bs : Bytes) : ∀ {m : List Host.Cell} (a : Nat), Memory.wf m = true → Memory.wf (memSetBytes m a bs) = true := by
  induction bs with
  | nil => intro _ _ h; exact h
  | cons b bs ih => intro m a h; exact ih (a + 1) (memSet_wf a b h)

theorem memFilter_wfFrom (p : Host.Cell → Bool) :
    ∀ {m : List Host.Cell} {lo : Nat}, memWfFrom lo m = true → memWfFrom lo (m.filter p) = true
  | [], _, _ => rfl
  | (k, v) :: rest, lo, w => by
    simp only [memWfFrom, Bool.and_eq_true, decide_eq_true_eq] at w
    have x := memFilter_wfFrom p w.2
    rw [List.filter_cons]
    split
    · simp only [memWfFrom, Bool.and_eq_true, decide_eq_true_eq]; exact ⟨w.1, x⟩
    · exact memWfFrom_mono (by omega) x

theorem memFilter_wf (p : Host.Cell → Bool) {m : List Host.Cell} (h : Memory.wf m = true) : Memory.wf (m.filter p) = true :=
  memFilter_wfFrom p h

theorem memGet_below {m : List Host.Cell} {a lo : Nat} (h : a < lo) (w : memWfFrom lo m = true) : memGet m a = memDefault := by
  cases m with
  | nil => rfl
  | cons c rest =>
    obtain ⟨k, v⟩ := c
    simp only [memWfFrom, Bool.and_eq_true, decide_eq_true_eq] at w
    unfold memGet
    rw [if_neg (by omega), if_pos (by omega)]

/-- A read after a write: the byte written at its address, what was there at any other. -/
theorem memGet_memSet {lo : Nat} (a q : Nat) (b : Byte) :
    ∀ {m : List Host.Cell}, memWfFrom lo m = true → memGet (memSet m a b) q = if q = a then b else memGet m q
  | [], _ => by
    unfold memSet
    split
    · split <;> simp_all [memGet]
    · simp only [memGet]; split <;> simp_all
  | (k, v) :: rest, w => by
    simp only [memWfFrom, Bool.and_eq_true, decide_eq_true_eq] at w
    obtain ⟨⟨hk, hv⟩, hr⟩ := w
    unfold memSet
    split
    · subst a
      split
      · split
        · subst q; rw [memGet_below (by omega) hr]; simp_all
        · simp only [memGet]
          rw [if_neg (by assumption)]
          split
          · exact memGet_below (by omega) hr
          · rfl
      · simp only [memGet]; split <;> simp_all
    · split
      · split
        · simp only [memGet]
          by_cases hq : q = a
          · subst q; rw [if_neg (by omega), if_pos (by omega), if_pos rfl]; simp_all
          · rw [if_neg hq]
        · simp only [memGet]
          split
          · simp_all
          · split
            · rw [if_neg (by omega), if_pos (by omega)]
            · rfl
      · simp only [memGet]
        rw [memGet_memSet a q b hr]
        split <;> (split <;> (simp_all; try omega))

/-- Bytes outside a written range read as before. -/
theorem memGet_memSetBytes_of_not_mem (bs : Bytes) :
    ∀ {m : List Host.Cell} (a q : Nat), Memory.wf m = true → q < a ∨ a + bs.length ≤ q →
      memGet (memSetBytes m a bs) q = memGet m q := by
  induction bs with
  | nil => intros; rfl
  | cons b bs ih =>
    intro m a q w h
    simp only [List.length_cons] at h
    show memGet (memSetBytes (memSet m a b) (a + 1) bs) q = _
    rw [ih (a + 1) q (memSet_wf a b w) (by omega), memGet_memSet a q b (lo := 0) w, if_neg (by omega)]

/-- A written range reads as what was written. -/
theorem memGet_memSetBytes (bs : Bytes) :
    ∀ {m : List Host.Cell} (a i : Nat) (hi : i < bs.length), Memory.wf m = true →
      memGet (memSetBytes m a bs) (a + i) = bs[i] := by
  induction bs with
  | nil => intro m a i hi; simp at hi
  | cons b bs ih =>
    intro m a i hi w
    show memGet (memSetBytes (memSet m a b) (a + 1) bs) (a + i) = _
    cases i with
    | zero =>
      rw [memGet_memSetBytes_of_not_mem bs (a + 1) (a + 0) (memSet_wf a b w) (by omega), memGet_memSet a (a + 0) b (lo := 0) w]
      simp
    | succ i =>
      have x := ih (a + 1) i (by simpa using hi) (memSet_wf a b w)
      rw [show a + (i + 1) = a + 1 + i by omega, x]; simp

/-- The canonical form is kept by what leaves memory alone. -/
theorem Inv.via {ps : List Part} {s t : State} (hf : Frame ps s t) (hm : Part.memory ∉ ps) (h : Inv s) : Inv t := by
  have x := hf .memory hm
  simp only [Part.same] at x
  unfold Inv
  rw [x.1]
  exact h

theorem Inv.of_mem {s t : State} (hm : t.mem = s.mem) (h : Inv s) : Inv t := by unfold Inv; rw [hm]; exact h

theorem State.store_inv (s : State) (n addr : Nat) (b : Bytes) (h : Inv s) : Inv (s.store n addr b) :=
  memSetBytes_wf b (cellOf n addr) h

theorem State.eraseMem_inv (s : State) (n : Nat) (h : Inv s) : Inv (s.eraseMem n) := memFilter_wf _ h

theorem State.zeroMem_inv (s : State) (n a len : Nat) (h : Inv s) : Inv (s.zeroMem n a len) := memFilter_wf _ h

end Sys2Proof.Machine
end

