-- ==== Sys2Proof/Laws/Invariant.lean ====
section
/-! SUPPORT. The canonical form of memory is kept by every function that may write memory. -/
namespace Sys2Proof.Machine

/-- The invariant of the state an optional effect answers. -/
def InvOpt (o : Option State) : Prop := ∀ z, o = some z → Inv z

theorem InvOpt.ofNone : InvOpt none := fun _ h => nomatch h

theorem InvOpt.ofSome {b : State} (h : Inv b) : InvOpt (some b) := by intro z e; cases e; exact h

theorem InvOpt.get {z : State} {o : Option State} (h : InvOpt o) (e : o = some z) : Inv z := h z e

theorem InvOpt.ite {b c : Option State} {p : Prop} [Decidable p] (h : InvOpt b) (k : InvOpt c) : InvOpt (if p then b else c) := by
  split <;> assumption

/-- The invariant of the state beside an optional answer. -/
def InvOut {β : Type} (o : Option (β × State)) : Prop := ∀ y z, o = some (y, z) → Inv z

theorem InvOut.ofNone {β : Type} : InvOut (β := β) none := fun _ _ h => nomatch h

theorem InvOut.ofSome {β : Type} {p : β × State} (h : Inv p.2) : InvOut (some p) := by intro y z e; cases e; exact h

theorem InvOut.get {β : Type} {z : State} {o : Option (β × State)} {y : β} (h : InvOut o) (e : o = some (y, z)) : Inv z := h y z e

theorem InvOut.ite {β : Type} {b c : Option (β × State)} {p : Prop} [Decidable p] (h : InvOut b) (k : InvOut c) :
    InvOut (if p then b else c) := by split <;> assumption

theorem InvOut.map {β γ : Type} {o : Option (β × State)} {f : β × State → γ × State} (hf : ∀ p, (f p).2 = p.2) (h : InvOut o) :
    InvOut (o.map f) := by
  intro y z e
  cases o with
  | none => simp at e
  | some p =>
    simp only [Option.map_some, Option.some.injEq] at e
    have w := hf p
    rw [e] at w
    rw [show z = p.2 from w]
    exact h p.1 p.2 rfl

/-- The invariant of a next state. -/
def InvStep (o : Host.Outcome State Fault Refusal) : Prop := ∀ t, o = .next t → Inv t

theorem InvStep.of {o : Host.Outcome State Fault Refusal} (h : ∀ t, o = .next t → Inv t) : InvStep o := h

theorem InvStep.ofNext {b : State} (h : Inv b) : InvStep (.next b) := by intro t e; cases e; exact h

theorem InvStep.ite {b c : Host.Outcome State Fault Refusal} {p : Prop} [Decidable p] (h : InvStep b) (k : InvStep c) :
    InvStep (if p then b else c) := by split <;> assumption

theorem Inv.ite {b c : State} {p : Prop} [Decidable p] (h : Inv b) (k : Inv c) : Inv (if p then b else c) := by split <;> assumption

theorem Inv.iteFst {β : Type} {b c : State × β} {p : Prop} [Decidable p] (h : Inv b.1) (k : Inv c.1) : Inv (if p then b else c).1 := by
  split <;> assumption

theorem Inv.iteSnd {β : Type} {b c : β × State} {p : Prop} [Decidable p] (h : Inv b.2) (k : Inv c.2) : Inv (if p then b else c).2 := by
  split <;> assumption

theorem Inv.each {α : Type} {b : State} {l : List α} {f : State → α → State} (hf : ∀ s x, Inv s → Inv (f s x)) (h : Inv b) :
    Inv (b.each l f) := by
  unfold State.each
  induction l generalizing b with
  | nil => exact h
  | cons x xs ih => exact ih (hf b x h)

theorem Inv.foldl {α : Type} {b : State} {l : List α} {f : State → α → State} (hf : ∀ s x, Inv s → Inv (f s x)) (h : Inv b) :
    Inv (l.foldl f b) := Inv.each hf h

theorem Inv.foldlSnd {α β : Type} {b : β × State} {l : List α} {f : β × State → α → β × State}
    (hf : ∀ s x, Inv s.2 → Inv (f s x).2) (h : Inv b.2) : Inv (l.foldl f b).2 := by
  induction l generalizing b with
  | nil => exact h
  | cons x xs ih => exact ih (hf b x h)

theorem Inv.ofSnd {β : Type} {z : State} {p : β × State} {y : β} (e : p = (y, z)) (h : Inv p.2) : Inv z := by rw [e] at h; exact h

theorem Inv.ofFst {β : Type} {z : State} {p : State × β} {y : β} (e : p = (z, y)) (h : Inv p.1) : Inv z := by rw [e] at h; exact h


theorem Inv.set_alarmQ {b : State} {v0} (h : Inv b) : Inv { b with alarmQ := v0 } := h

theorem Inv.set_alarmQ_alarms {b : State} {v0 v1} (h : Inv b) : Inv { b with alarmQ := v0, alarms := v1 } := h

theorem Inv.set_alarms {b : State} {v0} (h : Inv b) : Inv { b with alarms := v0 } := h

theorem Inv.set_audio {b : State} {v0} (h : Inv b) : Inv { b with audio := v0 } := h

theorem Inv.set_blobs {b : State} {v0} (h : Inv b) : Inv { b with blobs := v0 } := h

theorem Inv.set_blobs_blobRev {b : State} {v0 v1} (h : Inv b) : Inv { b with blobs := v0, blobRev := v1 } := h

theorem Inv.set_blobs_encKey_sec_encTouchQ_encNoteQ {b : State} {v0 v1 v2 v3 v4} (h : Inv b) : Inv { b with blobs := v0, encKey := v1, sec := v2, encTouchQ := v3, encNoteQ := v4 } := h

theorem Inv.set_blobs_results {b : State} {v0 v1} (h : Inv b) : Inv { b with blobs := v0, results := v1 } := h

theorem Inv.set_blobs_rst {b : State} {v0 v1} (h : Inv b) : Inv { b with blobs := v0, rst := v1 } := h

theorem Inv.set_comp {b : State} {v0} (h : Inv b) : Inv { b with comp := v0 } := h

theorem Inv.set_crossings {b : State} {v0} (h : Inv b) : Inv { b with crossings := v0 } := h

theorem Inv.set_cv {b : State} {v0} (h : Inv b) : Inv { b with cv := v0 } := h

theorem Inv.set_disp {b : State} {v0} (h : Inv b) : Inv { b with disp := v0 } := h

theorem Inv.set_encKey {b : State} {v0} (h : Inv b) : Inv { b with encKey := v0 } := h

theorem Inv.set_encKey_sec {b : State} {v0 v1} (h : Inv b) : Inv { b with encKey := v0, sec := v1 } := h

theorem Inv.set_encNoteQ {b : State} {v0} (h : Inv b) : Inv { b with encNoteQ := v0 } := h

theorem Inv.set_encTouchQ {b : State} {v0} (h : Inv b) : Inv { b with encTouchQ := v0 } := h

theorem Inv.set_energy {b : State} {v0} (h : Inv b) : Inv { b with energy := v0 } := h

theorem Inv.set_free {b : State} {v0} (h : Inv b) : Inv { b with free := v0 } := h

theorem Inv.set_guard {b : State} {v0} (h : Inv b) : Inv { b with guard := v0 } := h

theorem Inv.set_haptic {b : State} {v0} (h : Inv b) : Inv { b with haptic := v0 } := h

theorem Inv.set_hapticQ {b : State} {v0} (h : Inv b) : Inv { b with hapticQ := v0 } := h

theorem Inv.set_hapticQ_stationLogQ {b : State} {v0 v1} (h : Inv b) : Inv { b with hapticQ := v0, stationLogQ := v1 } := h

theorem Inv.set_hwLogQ {b : State} {v0} (h : Inv b) : Inv { b with hwLogQ := v0 } := h

theorem Inv.set_ingress {b : State} {v0} (h : Inv b) : Inv { b with ingress := v0 } := h

theorem Inv.set_locks {b : State} {v0} (h : Inv b) : Inv { b with locks := v0 } := h

theorem Inv.set_locks_encKey_sec_encTouchQ_encNoteQ {b : State} {v0 v1 v2 v3 v4} (h : Inv b) : Inv { b with locks := v0, encKey := v1, sec := v2, encTouchQ := v3, encNoteQ := v4 } := h

theorem Inv.set_logRings {b : State} {v0} (h : Inv b) : Inv { b with logRings := v0 } := h

theorem Inv.set_lostCells {b : State} {v0} (h : Inv b) : Inv { b with lostCells := v0 } := h

theorem Inv.set_memc {b : State} {v0} (h : Inv b) : Inv { b with memc := v0 } := h

theorem Inv.set_net {b : State} {v0} (h : Inv b) : Inv { b with net := v0 } := h

theorem Inv.set_noteQ {b : State} {v0} (h : Inv b) : Inv { b with noteQ := v0 } := h

theorem Inv.set_out {b : State} {v0} (h : Inv b) : Inv { b with out := v0 } := h

theorem Inv.set_peerLevel {b : State} {v0} (h : Inv b) : Inv { b with peerLevel := v0 } := h

theorem Inv.set_pending {b : State} {v0} (h : Inv b) : Inv { b with pending := v0 } := h

theorem Inv.set_pins {b : State} {v0} (h : Inv b) : Inv { b with pins := v0 } := h

theorem Inv.set_poison {b : State} {v0} (h : Inv b) : Inv { b with poison := v0 } := h

theorem Inv.set_ports {b : State} {v0} (h : Inv b) : Inv { b with ports := v0 } := h

theorem Inv.set_powered {b : State} {v0} (h : Inv b) : Inv { b with powered := v0 } := h

theorem Inv.set_powered_rst {b : State} {v0 v1} (h : Inv b) : Inv { b with powered := v0, rst := v1 } := h

theorem Inv.set_powered_rst_pins {b : State} {v0 v1 v2} (h : Inv b) : Inv { b with powered := v0, rst := v1, pins := v2 } := h

theorem Inv.set_raster {b : State} {v0} (h : Inv b) : Inv { b with raster := v0 } := h

theorem Inv.set_regs {b : State} {v0} (h : Inv b) : Inv { b with regs := v0 } := h

theorem Inv.set_regs_blobs {b : State} {v0 v1} (h : Inv b) : Inv { b with regs := v0, blobs := v1 } := h

theorem Inv.set_regs_blobs_settings_rst_net_upd_ports {b : State} {v0 v1 v2 v3 v4 v5 v6} (h : Inv b) : Inv { b with regs := v0, blobs := v1, settings := v2, rst := v3, net := v4, upd := v5, ports := v6 } := h

theorem Inv.set_regs_energy {b : State} {v0 v1} (h : Inv b) : Inv { b with regs := v0, energy := v1 } := h

theorem Inv.set_regs_settings {b : State} {v0 v1} (h : Inv b) : Inv { b with regs := v0, settings := v1 } := h

theorem Inv.set_regs_shadow {b : State} {v0 v1} (h : Inv b) : Inv { b with regs := v0, shadow := v1 } := h

theorem Inv.set_regs_shadow_blobs_shadowBlobs_settings {b : State} {v0 v1 v2 v3 v4} (h : Inv b) : Inv { b with regs := v0, shadow := v1, blobs := v2, shadowBlobs := v3, settings := v4 } := h

theorem Inv.set_regs_shadow_blobs_shadowBlobs_staging_results {b : State} {v0 v1 v2 v3 v4 v5} (h : Inv b) : Inv { b with regs := v0, shadow := v1, blobs := v2, shadowBlobs := v3, staging := v4, results := v5 } := h

theorem Inv.set_regs_touchQ_noteQ {b : State} {v0 v1 v2} (h : Inv b) : Inv { b with regs := v0, touchQ := v1, noteQ := v2 } := h

theorem Inv.set_results {b : State} {v0} (h : Inv b) : Inv { b with results := v0 } := h

theorem Inv.set_rst {b : State} {v0} (h : Inv b) : Inv { b with rst := v0 } := h

theorem Inv.set_rst_sec {b : State} {v0 v1} (h : Inv b) : Inv { b with rst := v0, sec := v1 } := h

theorem Inv.set_rst_upd {b : State} {v0 v1} (h : Inv b) : Inv { b with rst := v0, upd := v1 } := h

theorem Inv.set_sec {b : State} {v0} (h : Inv b) : Inv { b with sec := v0 } := h

theorem Inv.set_settings {b : State} {v0} (h : Inv b) : Inv { b with settings := v0 } := h

theorem Inv.set_settings_rst {b : State} {v0 v1} (h : Inv b) : Inv { b with settings := v0, rst := v1 } := h

theorem Inv.set_settings_translator_slices_ports_touchQ_noteQ {b : State} {v0 v1 v2 v3 v4 v5} (h : Inv b) : Inv { b with settings := v0, translator := v1, slices := v2, ports := v3, touchQ := v4, noteQ := v5 } := h

theorem Inv.set_settings_upd {b : State} {v0 v1} (h : Inv b) : Inv { b with settings := v0, upd := v1 } := h

theorem Inv.set_shadow {b : State} {v0} (h : Inv b) : Inv { b with shadow := v0 } := h

theorem Inv.set_shadow_blobs_shadowBlobs {b : State} {v0 v1 v2} (h : Inv b) : Inv { b with shadow := v0, blobs := v1, shadowBlobs := v2 } := h

theorem Inv.set_shadow_shadowBlobs {b : State} {v0 v1} (h : Inv b) : Inv { b with shadow := v0, shadowBlobs := v1 } := h

theorem Inv.set_shadowBlobs_blobRev {b : State} {v0 v1} (h : Inv b) : Inv { b with shadowBlobs := v0, blobRev := v1 } := h

theorem Inv.set_slices {b : State} {v0} (h : Inv b) : Inv { b with slices := v0 } := h

theorem Inv.set_snapshots {b : State} {v0} (h : Inv b) : Inv { b with snapshots := v0 } := h

theorem Inv.set_staging {b : State} {v0} (h : Inv b) : Inv { b with staging := v0 } := h

theorem Inv.set_staging_settings_snapshots_subscriptions_net_hwLogQ_alarmQ_alarms_logRings_peerLevel {b : State} {v0 v1 v2 v3 v4 v5 v6 v7 v8 v9} (h : Inv b) : Inv { b with staging := v0, settings := v1, snapshots := v2, subscriptions := v3, net := v4, hwLogQ := v5, alarmQ := v6, alarms := v7, logRings := v8, peerLevel := v9 } := h

theorem Inv.set_stationLogQ {b : State} {v0} (h : Inv b) : Inv { b with stationLogQ := v0 } := h

theorem Inv.set_stn {b : State} {v0} (h : Inv b) : Inv { b with stn := v0 } := h

theorem Inv.set_subscriptions {b : State} {v0} (h : Inv b) : Inv { b with subscriptions := v0 } := h

theorem Inv.set_time {b : State} {v0} (h : Inv b) : Inv { b with time := v0 } := h

theorem Inv.set_timers {b : State} {v0} (h : Inv b) : Inv { b with timers := v0 } := h

theorem Inv.set_touch {b : State} {v0} (h : Inv b) : Inv { b with touch := v0 } := h

theorem Inv.set_touchQ {b : State} {v0} (h : Inv b) : Inv { b with touchQ := v0 } := h

theorem Inv.set_translator {b : State} {v0} (h : Inv b) : Inv { b with translator := v0 } := h

theorem Inv.set_upd {b : State} {v0} (h : Inv b) : Inv { b with upd := v0 } := h

theorem State.wr_inv (s : State) (r : ObjRow) (v : ℤ) (n : ℕ) (i : ℕ) (t : ℕ) (j : ℕ) (h₀ : Inv s) : Inv (State.wr s r v n i t j) :=
  Inv.via (State.wr_frame s r v n i t j (hs₀ := List.Subset.refl _) (h₀ := Frame.refl _ _)) (by decide) h₀

theorem State.wrB_inv (s : State) (r : ObjRow) (v : Bool) (n : ℕ) (i : ℕ) (t : ℕ) (j : ℕ) (h₀ : Inv s) : Inv (State.wrB s r v n i t j) :=
  Inv.via (State.wrB_frame s r v n i t j (hs₀ := List.Subset.refl _) (h₀ := Frame.refl _ _)) (by decide) h₀

theorem State.count_inv (s : State) (r : ObjRow) (n : ℕ) (i : ℕ) (t : ℕ) (j : ℕ) (by_ : ℕ) (h₀ : Inv s) : Inv (State.count s r n i t j by_) :=
  Inv.via (State.count_frame s r n i t j by_ (hs₀ := List.Subset.refl _) (h₀ := Frame.refl _ _)) (by decide) h₀

theorem State.advance_inv (s : State) (r : ObjRow) (n : ℕ) (i : ℕ) (t : ℕ) (j : ℕ) (h₀ : Inv s) : Inv (State.advance s r n i t j) :=
  Inv.via (State.advance_frame s r n i t j (hs₀ := List.Subset.refl _) (h₀ := Frame.refl _ _)) (by decide) h₀

theorem State.total_inv (s : State) (r : ObjRow) (amount : ℕ) (n : ℕ) (i : ℕ) (t : ℕ) (j : ℕ) (h₀ : Inv s) : Inv (State.total s r amount n i t j) :=
  Inv.via (State.total_frame s r amount n i t j (hs₀ := List.Subset.refl _) (h₀ := Frame.refl _ _)) (by decide) h₀

theorem State.wrBlob_inv (s : State) (r : ObjRow) (b : Bytes) (n : ℕ) (i : ℕ) (t : ℕ) (j : ℕ) (h₀ : Inv s) : Inv (State.wrBlob s r b n i t j) :=
  Inv.via (State.wrBlob_frame s r b n i t j (hs₀ := List.Subset.refl _) (h₀ := Frame.refl _ _)) (by decide) h₀

theorem State.drawNat_inv (s : State) (m : ℕ) (h₀ : Inv s) : Inv (State.drawNat s m).2 :=
  Inv.via (State.drawNat_frame s m (hs₀ := List.Subset.refl _) (h₀ := Frame.refl _ _)) (by decide) h₀

theorem State.drawNat_invOut (s : State) (m : ℕ) {y₀ z₀} (e₀ : State.drawNat s m = (y₀, z₀)) (h₀ : Inv s) : Inv z₀ := by
  have x₀ := State.drawNat_inv s m h₀; rw [e₀] at x₀; exact x₀

theorem State.drawBytes_inv (s : State) (k : ℕ) (h₀ : Inv s) : Inv (State.drawBytes s k).2 :=
  Inv.via (State.drawBytes_frame s k (hs₀ := List.Subset.refl _) (h₀ := Frame.refl _ _)) (by decide) h₀

theorem State.drawBytes_invOut (s : State) (k : ℕ) {y₀ z₀} (e₀ : State.drawBytes s k = (y₀, z₀)) (h₀ : Inv s) : Inv z₀ := by
  have x₀ := State.drawBytes_inv s k h₀; rw [e₀] at x₀; exact x₀

theorem State.emit_inv (s : State) (e : Emission) (h₀ : Inv s) : Inv (State.emit s e) :=
  Inv.via (State.emit_frame s e (hs₀ := List.Subset.refl _) (h₀ := Frame.refl _ _)) (by decide) h₀

theorem State.cross_inv (s : State) (k : CrossKey) (v : ℕ) (h₀ : Inv s) : Inv (State.cross s k v).2 :=
  Inv.via (State.cross_frame s k v (hs₀ := List.Subset.refl _) (h₀ := Frame.refl _ _)) (by decide) h₀

theorem State.cross_invOut (s : State) (k : CrossKey) (v : ℕ) {y₀ z₀} (e₀ : State.cross s k v = (y₀, z₀)) (h₀ : Inv s) : Inv z₀ := by
  have x₀ := State.cross_inv s k v h₀; rw [e₀] at x₀; exact x₀

theorem State.dropCrossings_inv (s : State) (mine : CrossKey → Bool) (h₀ : Inv s) : Inv (State.dropCrossings s mine) :=
  Inv.via (State.dropCrossings_frame s mine (hs₀ := List.Subset.refl _) (h₀ := Frame.refl _ _)) (by decide) h₀

theorem State.firmware_inv (s : State) (f : State → State) (hf : ∀ x0, Inv x0 → Inv (f x0)) (h₀ : Inv s) : Inv (State.firmware s f) := by
  unfold State.firmware
  repeat' first
    | with_reducible assumption
    | with_reducible apply hf
    | with_reducible refine Inv.ite ?_ ?_

theorem State.pin_inv (s : State) (name : String) (level : Bool) (n : ℕ) (h₀ : Inv s) : Inv (State.pin s name level n) :=
  Inv.via (State.pin_frame s name level n (hs₀ := List.Subset.refl _) (h₀ := Frame.refl _ _)) (by decide) h₀

theorem State.drive_inv (s : State) (e : ℕ) (level : Bool) (n : ℕ) (h₀ : Inv s) : Inv (State.drive s e level n) :=
  Inv.via (State.drive_frame s e level n (hs₀ := List.Subset.refl _) (h₀ := Frame.refl _ _)) (by decide) h₀

theorem State.pinsReset_inv (s : State) (d : Domain) (h₀ : Inv s) : Inv (State.pinsReset s d) :=
  Inv.via (State.pinsReset_frame s d (hs₀ := List.Subset.refl _) (h₀ := Frame.refl _ _)) (by decide) h₀

theorem State.wave_inv (s : State) (e : ℕ) (on : Bool) (n : ℕ) (h₀ : Inv s) : Inv (State.wave s e on n) :=
  Inv.via (State.wave_frame s e on n (hs₀ := List.Subset.refl _) (h₀ := Frame.refl _ _)) (by decide) h₀

theorem State.setRas_inv (s : State) (n : ℕ) (v : Raster) (h₀ : Inv s) : Inv (State.setRas s n v) :=
  Inv.via (State.setRas_frame s n v (hs₀ := List.Subset.refl _) (h₀ := Frame.refl _ _)) (by decide) h₀

theorem State.setCmp_inv (s : State) (n : ℕ) (v : Compositor) (h₀ : Inv s) : Inv (State.setCmp s n v) :=
  Inv.via (State.setCmp_frame s n v (hs₀ := List.Subset.refl _) (h₀ := Frame.refl _ _)) (by decide) h₀

theorem State.setGrd_inv (s : State) (n : ℕ) (v : Guard) (h₀ : Inv s) : Inv (State.setGrd s n v) :=
  Inv.via (State.setGrd_frame s n v (hs₀ := List.Subset.refl _) (h₀ := Frame.refl _ _)) (by decide) h₀

theorem State.setDsp_inv (s : State) (n : ℕ) (v : Display) (h₀ : Inv s) : Inv (State.setDsp s n v) :=
  Inv.via (State.setDsp_frame s n v (hs₀ := List.Subset.refl _) (h₀ := Frame.refl _ _)) (by decide) h₀

theorem State.setTch_inv (s : State) (n : ℕ) (v : Touch) (h₀ : Inv s) : Inv (State.setTch s n v) :=
  Inv.via (State.setTch_frame s n v (hs₀ := List.Subset.refl _) (h₀ := Frame.refl _ _)) (by decide) h₀

theorem State.setHap_inv (s : State) (n : ℕ) (v : Haptic) (h₀ : Inv s) : Inv (State.setHap s n v) :=
  Inv.via (State.setHap_frame s n v (hs₀ := List.Subset.refl _) (h₀ := Frame.refl _ _)) (by decide) h₀

theorem State.setCtl_inv (s : State) (n : ℕ) (v : StationCtl) (h₀ : Inv s) : Inv (State.setCtl s n v) :=
  Inv.via (State.setCtl_frame s n v (hs₀ := List.Subset.refl _) (h₀ := Frame.refl _ _)) (by decide) h₀

theorem State.setMmc_inv (s : State) (n : ℕ) (v : MemCtl) (h₀ : Inv s) : Inv (State.setMmc s n v) :=
  Inv.via (State.setMmc_frame s n v (hs₀ := List.Subset.refl _) (h₀ := Frame.refl _ _)) (by decide) h₀

theorem State.setAud_inv (s : State) (n : ℕ) (v : Audio) (h₀ : Inv s) : Inv (State.setAud s n v) :=
  Inv.via (State.setAud_frame s n v (hs₀ := List.Subset.refl _) (h₀ := Frame.refl _ _)) (by decide) h₀

theorem State.setSlc_inv (s : State) (t : ℕ) (v : Slice) (h₀ : Inv s) : Inv (State.setSlc s t v) :=
  Inv.via (State.setSlc_frame s t v (hs₀ := List.Subset.refl _) (h₀ := Frame.refl _ _)) (by decide) h₀

theorem State.setPrt_inv (s : State) (p : ℕ) (v : HostPort) (h₀ : Inv s) : Inv (State.setPrt s p v) :=
  Inv.via (State.setPrt_frame s p v (hs₀ := List.Subset.refl _) (h₀ := Frame.refl _ _)) (by decide) h₀

theorem State.countTenantItems_inv (s : State) (t : ℕ) (h₀ : Inv s) : Inv (State.countTenantItems s t) :=
  Inv.via (State.countTenantItems_frame s t (hs₀ := List.Subset.refl _) (h₀ := Frame.refl _ _)) (by decide) h₀

theorem State.toTenant_inv (s : State) (t : ℕ) (r : Rec) (h₀ : Inv s) : Inv (State.toTenant s t r) :=
  Inv.via (State.toTenant_frame s t r (hs₀ := List.Subset.refl _) (h₀ := Frame.refl _ _)) (by decide) h₀

theorem State.toStationLog_inv (s : State) (n : ℕ) (r : Rec) (h₀ : Inv s) : Inv (State.toStationLog s n r) :=
  Inv.via (State.toStationLog_frame s n r (hs₀ := List.Subset.refl _) (h₀ := Frame.refl _ _)) (by decide) h₀

theorem State.toHolder_inv (s : State) (n : ℕ) (h : Holder) (r : Rec) (h₀ : Inv s) : Inv (State.toHolder s n h r) :=
  Inv.via (State.toHolder_frame s n h r (hs₀ := List.Subset.refl _) (h₀ := Frame.refl _ _)) (by decide) h₀

theorem State.alarm_inv (s : State) (code : ℕ) (st : ℕ) (station : ℕ) (detail : ℕ) (h₀ : Inv s) : Inv (State.alarm s code st station detail) :=
  Inv.via (State.alarm_frame s code st station detail (hs₀ := List.Subset.refl _) (h₀ := Frame.refl _ _)) (by decide) h₀

theorem State.clearAlarm_inv (s : State) (code : ℕ) (station : ℕ) (detail : ℕ) (h₀ : Inv s) : Inv (State.clearAlarm s code station detail) :=
  Inv.via (State.clearAlarm_frame s code station detail (hs₀ := List.Subset.refl _) (h₀ := Frame.refl _ _)) (by decide) h₀

theorem State.startResult_inv (s : State) (r : ObjRow) (who : Requester) (n : ℕ) (i : ℕ) (t : ℕ) (h₀ : Inv s) : Inv (State.startResult s r who n i t) :=
  Inv.via (State.startResult_frame s r who n i t (hs₀ := List.Subset.refl _) (h₀ := Frame.refl _ _)) (by decide) h₀

theorem State.finish_inv (s : State) (r : ObjRow) (outcome : ℕ) (n : ℕ) (i : ℕ) (t : ℕ) (h₀ : Inv s) : Inv (State.finish s r outcome n i t) :=
  Inv.via (State.finish_frame s r outcome n i t (hs₀ := List.Subset.refl _) (h₀ := Frame.refl _ _)) (by decide) h₀

theorem State.hwReady_inv (s : State) (k : ℕ) (b : Bool) (h₀ : Inv s) : Inv (State.hwReady s k b) :=
  Inv.via (State.hwReady_frame s k b (hs₀ := List.Subset.refl _) (h₀ := Frame.refl _ _)) (by decide) h₀

theorem State.stReady_inv (s : State) (n : ℕ) (k : ℕ) (b : Bool) (h₀ : Inv s) : Inv (State.stReady s n k b) :=
  Inv.via (State.stReady_frame s n k b (hs₀ := List.Subset.refl _) (h₀ := Frame.refl _ _)) (by decide) h₀

theorem State.answer_inv (s : State) (st : Status) (data : Bytes) (aux : ℕ) (h₀ : Inv s) : Inv (State.answer s st data aux) :=
  Inv.via (State.answer_frame s st data aux (hs₀ := List.Subset.refl _) (h₀ := Frame.refl _ _)) (by decide) h₀

theorem State.syncZones_inv (s : State) (n : ℕ) (h₀ : Inv s) : Inv (State.syncZones s n) :=
  Inv.via (State.syncZones_frame s n (hs₀ := List.Subset.refl _) (h₀ := Frame.refl _ _)) (by decide) h₀

theorem State.syncSecure_inv (s : State) (n : ℕ) (h₀ : Inv s) : Inv (State.syncSecure s n) :=
  Inv.via (State.syncSecure_frame s n (hs₀ := List.Subset.refl _) (h₀ := Frame.refl _ _)) (by decide) h₀

theorem State.countTagFault_inv (s : State) (e : ℕ) (h₀ : Inv s) : Inv (State.countTagFault s e) :=
  Inv.via (State.countTagFault_frame s e (hs₀ := List.Subset.refl _) (h₀ := Frame.refl _ _)) (by decide) h₀

theorem State.setStation_inv (s : State) (n : ℕ) (v : ℕ) (h₀ : Inv s) : Inv (State.setStation s n v) :=
  Inv.via (State.setStation_frame s n v (hs₀ := List.Subset.refl _) (h₀ := Frame.refl _ _)) (by decide) h₀

theorem State.onRequest_inv (s : State) (who : Requester) (f : State → State) (hf : ∀ x0, Inv x0 → Inv (f x0)) (h₀ : Inv s) : Inv (State.onRequest s who f) := by
  unfold State.onRequest
  repeat' first
    | with_reducible assumption
    | with_reducible apply hf
    | with_reducible refine Inv.ite ?_ ?_

theorem State.guarded_inv (s : State) (c : Option Status) (f : State → State) (hf : ∀ x0, Inv x0 → Inv (f x0)) (h₀ : Inv s) : Inv (State.guarded s c f) := by
  unfold State.guarded
  repeat' first
    | with_reducible assumption
    | with_reducible apply State.answer_inv
    | with_reducible apply hf
    | split

theorem State.cvBusWrite_inv (s : State) (n : ℕ) (addr : ℕ) (bs : Bytes) (ingress : Bool) (h₀ : Inv s) : Inv (State.cvBusWrite s n addr bs ingress) :=
  Inv.via (State.cvBusWrite_frame s n addr bs ingress (hs₀ := List.Subset.refl _) (h₀ := Frame.refl _ _)) (by decide) h₀

theorem State.cvLine_inv (s : State) (n : ℕ) (y : ℕ) (h : ℕ) (pixels : List ℕ) (h₀ : Inv s) : Inv (State.cvLine s n y h pixels) :=
  Inv.via (State.cvLine_frame s n y h pixels (hs₀ := List.Subset.refl _) (h₀ := Frame.refl _ _)) (by decide) h₀

theorem State.cvTransfer_inv (s : State) (n : ℕ) (t : ℕ) (q : ℕ) (bs : Bytes) (ok : Bool) (h₀ : Inv s) : Inv (State.cvTransfer s n t q bs ok) :=
  Inv.via (State.cvTransfer_frame s n t q bs ok (hs₀ := List.Subset.refl _) (h₀ := Frame.refl _ _)) (by decide) h₀

theorem State.cvTransfersLost_inv (s : State) (t : ℕ) (h₀ : Inv s) : Inv (State.cvTransfersLost s t) :=
  Inv.via (State.cvTransfersLost_frame s t (hs₀ := List.Subset.refl _) (h₀ := Frame.refl _ _)) (by decide) h₀

theorem execCvArm_inv {t₀ : State} (who : Requester) (u : Fin 24) (s : State) (e₀ : execCvArm who u s = .next t₀) (h₀ : Inv s) : Inv t₀ :=
  Inv.via (execCvArm_frame who u s (hs₀ := List.Subset.refl _) (e₀ := e₀) (h₀ := Frame.refl _ _)) (by decide) h₀

theorem execCvEnd_inv {t₀ : State} (who : Requester) (u : Fin 24) (s : State) (e₀ : execCvEnd who u s = .next t₀) (h₀ : Inv s) : Inv t₀ :=
  Inv.via (execCvEnd_frame who u s (hs₀ := List.Subset.refl _) (e₀ := e₀) (h₀ := Frame.refl _ _)) (by decide) h₀

theorem execCvAbort_inv {t₀ : State} (who : Requester) (u : Fin 24) (s : State) (e₀ : execCvAbort who u s = .next t₀) (h₀ : Inv s) : Inv t₀ :=
  Inv.via (execCvAbort_frame who u s (hs₀ := List.Subset.refl _) (e₀ := e₀) (h₀ := Frame.refl _ _)) (by decide) h₀

theorem State.noteTag_inv (s : State) (n : ℕ) (a : ℕ) (len : ℕ) (tag : ℕ) (h₀ : Inv s) : Inv (State.noteTag s n a len tag) :=
  Inv.via (State.noteTag_frame s n a len tag (hs₀ := List.Subset.refl _) (h₀ := Frame.refl _ _)) (by decide) h₀

theorem State.unpoison_inv (s : State) (n : ℕ) (a : ℕ) (len : ℕ) (h₀ : Inv s) : Inv (State.unpoison s n a len) := by
  unfold State.unpoison
  repeat' first
    | with_reducible assumption
    | (conv => arg 1; arg 50); with_reducible refine Inv.set_poison ?_

theorem State.writeTagged_inv (s : State) (n : ℕ) (a : ℕ) (b : Bytes) (tag : ℕ) (ingress : Bool) (h₀ : Inv s) : Inv (State.writeTagged s n a b tag ingress) := by
  unfold State.writeTagged
  repeat' first
    | with_reducible assumption
    | with_reducible apply State.cvBusWrite_inv
    | with_reducible apply State.store_inv
    | with_reducible apply State.unpoison_inv
    | with_reducible apply State.countTagFault_inv
    | with_reducible refine Inv.ite ?_ ?_
    | with_reducible refine Inv.each (fun _ _ _ => ?_) ?_
    | dsimp only
    | split

theorem State.discardSet_inv (s : State) (n : ℕ) (k : SetId) (h₀ : Inv s) : Inv (State.discardSet s n k) :=
  Inv.via (State.discardSet_frame s n k (hs₀ := List.Subset.refl _) (h₀ := Frame.refl _ _)) (by decide) h₀

theorem State.latchSets_inv (s : State) (n : ℕ) (frame : ℕ) (h₀ : Inv s) : Inv (State.latchSets s n frame).1 :=
  Inv.via (State.latchSets_frame s n frame (hs₀ := List.Subset.refl _) (h₀ := Frame.refl _ _)) (by decide) h₀

theorem State.latchSets_invOut (s : State) (n : ℕ) (frame : ℕ) {y₀ z₀} (e₀ : State.latchSets s n frame = (z₀, y₀)) (h₀ : Inv s) : Inv z₀ := by
  have x₀ := State.latchSets_inv s n frame h₀; rw [e₀] at x₀; exact x₀

theorem State.latchRevocations_inv (s : State) (n : ℕ) (h₀ : Inv s) : Inv (State.latchRevocations s n) :=
  Inv.via (State.latchRevocations_frame s n (hs₀ := List.Subset.refl _) (h₀ := Frame.refl _ _)) (by decide) h₀

theorem State.spoof_inv (s : State) (t : ℕ) (code : ℕ) (station : ℕ) (h₀ : Inv s) : Inv (State.spoof s t code station) :=
  Inv.via (State.spoof_frame s t code station (hs₀ := List.Subset.refl _) (h₀ := Frame.refl _ _)) (by decide) h₀

theorem State.onPage_inv (s : State) (p : ℕ) (t : ℕ) (f : State → State) (hf : ∀ x0, Inv x0 → Inv (f x0)) (h₀ : Inv s) : Inv (State.onPage s p t f) := by
  unfold State.onPage
  repeat' first
    | with_reducible assumption
    | with_reducible apply State.count_inv
    | with_reducible apply hf
    | with_reducible refine Inv.ite ?_ ?_
    | split

theorem State.onStationPage_inv (s : State) (p : ℕ) (t : ℕ) (n : ℕ) (f : State → State) (hf : ∀ x0, Inv x0 → Inv (f x0)) (h₀ : Inv s) : Inv (State.onStationPage s p t n f) := by
  unfold State.onStationPage
  repeat' first
    | with_reducible assumption
    | with_reducible apply State.onPage_inv
    | with_reducible apply State.spoof_inv
    | with_reducible apply hf
    | with_reducible refine Inv.ite ?_ ?_
    | with_reducible intro _

theorem State.mailboxSpoof_inv (s : State) (who : Requester) (r : ObjRow) (n : ℕ) (i : ℕ) (j : ℕ) (st : Option Status) (h₀ : Inv s) : Inv (State.mailboxSpoof s who r n i j st) :=
  Inv.via (State.mailboxSpoof_frame s who r n i j st (hs₀ := List.Subset.refl _) (h₀ := Frame.refl _ _)) (by decide) h₀

theorem State.onWrite_inv (s : State) (who : Requester) (r : ObjRow) (v : ℤ) (n : ℕ) (i : ℕ) (tq : ℕ) (j : ℕ) (f : State → State) (hf : ∀ x0, Inv x0 → Inv (f x0)) (h₀ : Inv s) : Inv (State.onWrite s who r v n i tq j f) := by
  unfold State.onWrite
  repeat' first
    | with_reducible assumption
    | with_reducible apply State.onRequest_inv
    | with_reducible apply State.answer_inv
    | with_reducible apply State.mailboxSpoof_inv
    | with_reducible apply hf
    | with_reducible intro _
    | split

theorem State.setCompose_inv (s : State) (n : ℕ) (v : ℕ) (h₀ : Inv s) : Inv (State.setCompose s n v) :=
  Inv.via (State.setCompose_frame s n v (hs₀ := List.Subset.refl _) (h₀ := Frame.refl _ _)) (by decide) h₀

theorem State.irq_inv (s : State) (t : ℕ) (k : ℕ) (h₀ : Inv s) : Inv (State.irq s t k) :=
  Inv.via (State.irq_frame s t k (hs₀ := List.Subset.refl _) (h₀ := Frame.refl _ _)) (by decide) h₀

theorem State.hostWrite_inv (s : State) (t : ℕ) (addr : ℕ) (b : Bytes) (h₀ : Inv s) : Inv (State.hostWrite s t addr b) :=
  Inv.via (State.hostWrite_frame s t addr b (hs₀ := List.Subset.refl _) (h₀ := Frame.refl _ _)) (by decide) h₀

theorem State.setRing_inv (s : State) (t : ℕ) (n : ℕ) (q : ℕ) (r : Ring) (h₀ : Inv s) : Inv (State.setRing s t n q r) :=
  Inv.via (State.setRing_frame s t n q r (hs₀ := List.Subset.refl _) (h₀ := Frame.refl _ _)) (by decide) h₀

theorem State.fetch_inv (s : State) (n : ℕ) (h₀ : Inv s) : Inv (State.fetch s n) :=
  Inv.via (State.fetch_frame s n (hs₀ := List.Subset.refl _) (h₀ := Frame.refl _ _)) (by decide) h₀

theorem State.completion_inv (s : State) (t : ℕ) (n : ℕ) (q : ℕ) (record : Bytes) (fence : Option (ℕ × ℕ)) (irq : Bool) (h₀ : Inv s) : Inv (State.completion s t n q record fence irq) := by
  unfold State.completion
  repeat' first
    | with_reducible assumption
    | with_reducible apply State.irq_inv
    | with_reducible apply State.hostWrite_inv
    | with_reducible apply State.setRing_inv
    | with_reducible apply State.writeTagged_inv
    | with_reducible refine Inv.ite ?_ ?_
    | dsimp only
    | split

theorem State.setJob_inv (s : State) (n : ℕ) (j : Job) (h₀ : Inv s) : Inv (State.setJob s n j) :=
  Inv.via (State.setJob_frame s n j (hs₀ := List.Subset.refl _) (h₀ := Frame.refl _ _)) (by decide) h₀

theorem State.updJob_inv (s : State) (n : ℕ) (key : ℕ) (f : Job → Job) (h₀ : Inv s) : Inv (State.updJob s n key f) :=
  Inv.via (State.updJob_frame s n key f (hs₀ := List.Subset.refl _) (h₀ := Frame.refl _ _)) (by decide) h₀

theorem State.syncCache_inv (s : State) (n : ℕ) (t : ℕ) (h₀ : Inv s) : Inv (State.syncCache s n t) :=
  Inv.via (State.syncCache_frame s n t (hs₀ := List.Subset.refl _) (h₀ := Frame.refl _ _)) (by decide) h₀

theorem State.sweepCache_inv (s : State) (n : ℕ) (h₀ : Inv s) : Inv (State.sweepCache s n) :=
  Inv.via (State.sweepCache_frame s n (hs₀ := List.Subset.refl _) (h₀ := Frame.refl _ _)) (by decide) h₀

theorem State.syncSlots_inv (s : State) (n : ℕ) (h₀ : Inv s) : Inv (State.syncSlots s n) :=
  Inv.via (State.syncSlots_frame s n (hs₀ := List.Subset.refl _) (h₀ := Frame.refl _ _)) (by decide) h₀

theorem State.setCore_inv (s : State) (n : ℕ) (i : ℕ) (c : ShaderCore) (h₀ : Inv s) : Inv (State.setCore s n i c) :=
  Inv.via (State.setCore_frame s n i c (hs₀ := List.Subset.refl _) (h₀ := Frame.refl _ _)) (by decide) h₀

theorem State.preemptAll_inv (s : State) (n : ℕ) (h₀ : Inv s) : Inv (State.preemptAll s n) :=
  Inv.via (State.preemptAll_frame s n (hs₀ := List.Subset.refl _) (h₀ := Frame.refl _ _)) (by decide) h₀

theorem State.markReady_inv (s : State) (n : ℕ) (key : ℕ) (h₀ : Inv s) : Inv (State.markReady s n key) :=
  Inv.via (State.markReady_frame s n key (hs₀ := List.Subset.refl _) (h₀ := Frame.refl _ _)) (by decide) h₀

theorem State.redeadline_inv (s : State) (n : ℕ) (h₀ : Inv s) : Inv (State.redeadline s n) :=
  Inv.via (State.redeadline_frame s n (hs₀ := List.Subset.refl _) (h₀ := Frame.refl _ _)) (by decide) h₀

theorem State.retarget_inv (s : State) (n : ℕ) (h₀ : Inv s) : Inv (State.retarget s n) :=
  Inv.via (State.retarget_frame s n (hs₀ := List.Subset.refl _) (h₀ := Frame.refl _ _)) (by decide) h₀

theorem State.syncReserved_inv (s : State) (n : ℕ) (t : ℕ) (h₀ : Inv s) : Inv (State.syncReserved s n t) :=
  Inv.via (State.syncReserved_frame s n t (hs₀ := List.Subset.refl _) (h₀ := Frame.refl _ _)) (by decide) h₀

theorem State.syncRaster_inv (s : State) (n : ℕ) (h₀ : Inv s) : Inv (State.syncRaster s n) :=
  Inv.via (State.syncRaster_frame s n (hs₀ := List.Subset.refl _) (h₀ := Frame.refl _ _)) (by decide) h₀

theorem State.invalidateTables_inv (s : State) (n : ℕ) (j : Job) (h₀ : Inv s) : Inv (State.invalidateTables s n j) := by
  unfold State.invalidateTables
  repeat' first
    | with_reducible assumption
    | with_reducible apply State.writeTagged_inv
    | with_reducible refine Inv.ite ?_ ?_
    | with_reducible refine Inv.each (fun _ _ _ => ?_) ?_

theorem State.freeCores_inv (s : State) (n : ℕ) (key : ℕ) (h₀ : Inv s) : Inv (State.freeCores s n key) :=
  Inv.via (State.freeCores_frame s n key (hs₀ := List.Subset.refl _) (h₀ := Frame.refl _ _)) (by decide) h₀

theorem State.endJob_inv (s : State) (n : ℕ) (key : ℕ) (status : ℕ) (detail : ℕ) (h₀ : Inv s) : Inv (State.endJob s n key status detail) := by
  unfold State.endJob
  repeat' first
    | with_reducible assumption
    | with_reducible apply State.sweepCache_inv
    | with_reducible apply State.syncReserved_inv
    | with_reducible apply State.freeCores_inv
    | with_reducible apply State.updJob_inv
    | with_reducible apply State.invalidateTables_inv
    | with_reducible apply State.count_inv
    | with_reducible refine Inv.ite ?_ ?_
    | dsimp only
    | split

theorem State.startFrag_inv (s : State) (n : ℕ) (key : ℕ) (flushing : Bool) (h₀ : Inv s) : Inv (State.startFrag s n key flushing) :=
  Inv.via (State.startFrag_frame s n key flushing (hs₀ := List.Subset.refl _) (h₀ := Frame.refl _ _)) (by decide) h₀

theorem State.tryFrag_inv (s : State) (n : ℕ) (key : ℕ) (h₀ : Inv s) : Inv (State.tryFrag s n key) :=
  Inv.via (State.tryFrag_frame s n key (hs₀ := List.Subset.refl _) (h₀ := Frame.refl _ _)) (by decide) h₀

theorem State.checkPipe_inv (s : State) (n : ℕ) (key : ℕ) (h₀ : Inv s) : Inv (State.checkPipe s n key) := by
  unfold State.checkPipe
  repeat' first
    | with_reducible assumption
    | with_reducible apply State.endJob_inv
    | with_reducible refine Inv.ite ?_ ?_
    | split

theorem State.startRender_inv (s : State) (n : ℕ) (key : ℕ) (h₀ : Inv s) : Inv (State.startRender s n key) := by
  unfold State.startRender
  repeat' first
    | with_reducible assumption
    | with_reducible apply State.setJob_inv
    | with_reducible apply State.endJob_inv
    | with_reducible refine Inv.ite ?_ ?_
    | dsimp only
    | split

theorem State.fillGroups_inv (s : State) (n : ℕ) (i : ℕ) (key : ℕ) (q4 : ℕ) (h₀ : Inv s) : Inv (State.fillGroups s n i key q4) :=
  Inv.via (State.fillGroups_frame s n i key q4 (hs₀ := List.Subset.refl _) (h₀ := Frame.refl _ _)) (by decide) h₀

theorem State.fillTiles_inv (s : State) (n : ℕ) (i : ℕ) (key : ℕ) (q4 : ℕ) (h₀ : Inv s) : Inv (State.fillTiles s n i key q4) :=
  Inv.via (State.fillTiles_frame s n i key q4 (hs₀ := List.Subset.refl _) (h₀ := Frame.refl _ _)) (by decide) h₀

theorem State.fillCore_inv (s : State) (n : ℕ) (i : ℕ) (h₀ : Inv s) : Inv (State.fillCore s n i) := by
  unfold State.fillCore
  repeat' first
    | with_reducible assumption
    | with_reducible apply State.fillGroups_inv
    | with_reducible apply State.updJob_inv
    | with_reducible apply State.fillTiles_inv
    | with_reducible apply State.setCore_inv
    | with_reducible apply State.startRender_inv
    | with_reducible refine Inv.ite ?_ ?_
    | with_reducible intro _
    | dsimp only
    | split

theorem State.dispatch_inv (s : State) (n : ℕ) (h₀ : Inv s) : Inv (State.dispatch s n) := by
  unfold State.dispatch
  repeat' first
    | with_reducible assumption
    | with_reducible apply State.fillCore_inv
    | with_reducible refine Inv.each (fun _ _ _ => ?_) ?_

theorem State.admitJob_inv (s : State) (n : ℕ) (key : ℕ) (forced : Bool) (h₀ : Inv s) : Inv (State.admitJob s n key forced) :=
  Inv.via (State.admitJob_frame s n key forced (hs₀ := List.Subset.refl _) (h₀ := Frame.refl _ _)) (by decide) h₀

theorem State.presentJob_inv (s : State) (n : ℕ) (key : ℕ) (h₀ : Inv s) : Inv (State.presentJob s n key) := by
  unfold State.presentJob
  repeat' first
    | with_reducible assumption
    | with_reducible apply State.setRas_inv
    | with_reducible apply State.updJob_inv
    | with_reducible apply State.setJob_inv
    | with_reducible apply State.count_inv
    | with_reducible apply State.admitJob_inv
    | with_reducible apply State.endJob_inv
    | with_reducible refine Inv.ite ?_ ?_
    | with_reducible intro _
    | dsimp only
    | split

theorem State.presentDeferred_inv (s : State) (n : ℕ) (h₀ : Inv s) : Inv (State.presentDeferred s n) := by
  unfold State.presentDeferred
  repeat' first
    | with_reducible assumption
    | with_reducible apply State.presentJob_inv
    | with_reducible refine Inv.each (fun _ _ _ => ?_) ?_

theorem State.runControl_inv (s : State) (n : ℕ) (key : ℕ) (h₀ : Inv s) : Inv (State.runControl s n key) := by
  unfold State.runControl
  repeat' first
    | with_reducible assumption
    | with_reducible apply State.setRas_inv
    | with_reducible apply State.wr_inv
    | with_reducible apply State.setJob_inv
    | with_reducible apply State.endJob_inv
    | (conv => arg 1; arg 50); with_reducible refine Inv.set_translator ?_
    | with_reducible refine Inv.ite ?_ ?_
    | dsimp only
    | split

theorem State.settle_inv (s : State) (n : ℕ) (h₀ : Inv s) : Inv (State.settle s n) := by
  unfold State.settle
  repeat' first
    | with_reducible assumption
    | with_reducible apply State.syncRaster_inv
    | with_reducible apply State.checkPipe_inv
    | with_reducible apply State.tryFrag_inv
    | with_reducible apply State.preemptAll_inv
    | with_reducible apply State.dispatch_inv
    | with_reducible apply State.markReady_inv
    | with_reducible apply State.runControl_inv
    | with_reducible refine Inv.each (fun _ _ _ => ?_) ?_

theorem State.completeJob_inv (s : State) (n : ℕ) (key : ℕ) (h₀ : Inv s) : Inv (State.completeJob s n key) := by
  unfold State.completeJob
  repeat' first
    | with_reducible assumption
    | with_reducible apply State.setRas_inv
    | with_reducible apply State.sweepCache_inv
    | with_reducible apply State.completion_inv
    | with_reducible apply State.total_inv
    | with_reducible apply State.settle_inv
    | with_reducible apply State.presentDeferred_inv
    | with_reducible refine Inv.ite ?_ ?_
    | dsimp only
    | split

theorem State.lateLayers_inv (s : State) (n : ℕ) (h₀ : Inv s) : Inv (State.lateLayers s n) := by
  unfold State.lateLayers
  repeat' first
    | with_reducible assumption
    | with_reducible apply State.toTenant_inv
    | with_reducible apply State.updJob_inv
    | with_reducible apply State.settle_inv
    | with_reducible apply State.toStationLog_inv
    | with_reducible apply State.count_inv
    | with_reducible refine Inv.ite ?_ ?_
    | with_reducible refine Inv.each (fun _ _ _ => ?_) ?_

theorem State.dropCredit_inv (s : State) (n : ℕ) (t : ℕ) (h₀ : Inv s) : Inv (State.dropCredit s n t) :=
  Inv.via (State.dropCredit_frame s n t (hs₀ := List.Subset.refl _) (h₀ := Frame.refl _ _)) (by decide) h₀

theorem State.rasterLeave_inv (s : State) (n : ℕ) (h₀ : Inv s) : Inv (State.rasterLeave s n) := by
  unfold State.rasterLeave
  repeat' first
    | with_reducible assumption
    | with_reducible apply State.syncRaster_inv
    | with_reducible apply State.wr_inv
    | with_reducible apply State.dropCredit_inv
    | with_reducible apply State.endJob_inv
    | (conv => arg 1; arg 50); with_reducible refine Inv.set_translator ?_
    | with_reducible refine Inv.each (fun _ _ _ => ?_) ?_

theorem State.rasterSlice_inv (s : State) (n : ℕ) (t : ℕ) (h₀ : Inv s) : Inv (State.rasterSlice s n t) := by
  unfold State.rasterSlice
  repeat' first
    | with_reducible assumption
    | with_reducible apply State.setRas_inv
    | with_reducible apply State.syncCache_inv
    | with_reducible apply State.freeCores_inv
    | with_reducible apply State.wr_inv
    | with_reducible apply State.settle_inv
    | with_reducible apply State.dropCredit_inv
    | (conv => arg 1; arg 50); with_reducible refine Inv.set_translator ?_
    | with_reducible refine Inv.ite ?_ ?_
    | with_reducible refine Inv.each (fun _ _ _ => ?_) ?_

theorem State.rasterReset_inv (s : State) (n : ℕ) (h₀ : Inv s) : Inv (State.rasterReset s n) :=
  Inv.via (State.rasterReset_frame s n (hs₀ := List.Subset.refl _) (h₀ := Frame.refl _ _)) (by decide) h₀

theorem State.loseCache_inv (s : State) (n : ℕ) (h₀ : Inv s) : Inv (State.loseCache s n) :=
  Inv.via (State.loseCache_frame s n (hs₀ := List.Subset.refl _) (h₀ := Frame.refl _ _)) (by decide) h₀

theorem execJobTake_inv {t₀ : State} (n : Fin 8) (s : State) (e₀ : execJobTake n s = .next t₀) (h₀ : Inv s) : Inv t₀ := by
  unfold execJobTake at e₀
  cases e₀
  repeat' first
    | with_reducible assumption
    | with_reducible apply State.setRas_inv
    | with_reducible apply State.fetch_inv
    | with_reducible apply State.endJob_inv
    | (conv => arg 1; arg 50); with_reducible refine Inv.set_ingress ?_
    | with_reducible refine Inv.ite ?_ ?_
    | dsimp only
    | split

theorem State.queueJob_inv (s : State) (n : ℕ) (key : ℕ) (h₀ : Inv s) : Inv (State.queueJob s n key) := by
  unfold State.queueJob
  repeat' first
    | with_reducible assumption
    | with_reducible apply State.presentJob_inv
    | with_reducible apply State.settle_inv
    | with_reducible apply State.setJob_inv
    | with_reducible refine Inv.ite ?_ ?_
    | split

theorem State.onTaken_inv (s : State) (n : ℕ) (key : ℕ) (jtype : ℕ) (f : Job → State → State) (hf : ∀ x0 x1, Inv x1 → Inv (f x0 x1)) (h₀ : Inv s) : Inv (State.onTaken s n key jtype f) := by
  unfold State.onTaken
  repeat' first
    | with_reducible assumption
    | with_reducible apply hf
    | with_reducible refine Inv.ite ?_ ?_
    | split

theorem State.onSized_inv (s : State) (n : ℕ) (key : ℕ) (jtype : ℕ) (ok : ℕ → Bool) (f : Job → State → State) (hf : ∀ x0 x1, Inv x1 → Inv (f x0 x1)) (h₀ : Inv s) : Inv (State.onSized s n key jtype ok f) := by
  unfold State.onSized
  repeat' first
    | with_reducible assumption
    | with_reducible apply State.onTaken_inv
    | with_reducible apply State.settle_inv
    | with_reducible apply State.endJob_inv
    | with_reducible apply hf
    | with_reducible refine Inv.ite ?_ ?_
    | with_reducible intro _

theorem execJobNop_inv {t₀ : State} (n : Fin 8) (key : ℕ) (s : State) (e₀ : execJobNop n key s = .next t₀) (h₀ : Inv s) : Inv t₀ := by
  unfold execJobNop at e₀
  cases e₀
  repeat' first
    | with_reducible assumption
    | with_reducible apply State.onSized_inv
    | with_reducible apply State.queueJob_inv
    | with_reducible intro _

theorem execJobRender_inv {t₀ : State} (n : Fin 8) (key : ℕ) (s : State) (e₀ : execJobRender n key s = .next t₀) (h₀ : Inv s) : Inv t₀ := by
  unfold execJobRender at e₀
  cases e₀
  repeat' first
    | with_reducible assumption
    | with_reducible apply State.queueJob_inv
    | with_reducible apply State.onTaken_inv
    | with_reducible apply State.settle_inv
    | with_reducible apply State.setJob_inv
    | with_reducible apply State.endJob_inv
    | with_reducible refine Inv.ite ?_ ?_
    | with_reducible intro _
    | dsimp only
    | split

theorem execJobCompute_inv {t₀ : State} (n : Fin 8) (key : ℕ) (d : DispatchRecord) (s : State) (e₀ : execJobCompute n key d s = .next t₀) (h₀ : Inv s) : Inv t₀ := by
  unfold execJobCompute at e₀
  cases e₀
  repeat' first
    | with_reducible assumption
    | with_reducible apply State.onSized_inv
    | with_reducible apply State.queueJob_inv
    | with_reducible apply State.settle_inv
    | with_reducible apply State.setJob_inv
    | with_reducible apply State.endJob_inv
    | with_reducible refine Inv.ite ?_ ?_
    | with_reducible intro _
    | dsimp only
    | split

theorem State.takePipe_inv (s : State) (n : ℕ) (key : ℕ) (jtype : ℕ) (ok : ℕ → Bool) (handle : ℕ) (r : Option PipelineRecord) (h₀ : Inv s) : Inv (State.takePipe s n key jtype ok handle r) := by
  unfold State.takePipe
  repeat' first
    | with_reducible assumption
    | with_reducible apply State.onSized_inv
    | with_reducible apply State.queueJob_inv
    | with_reducible apply State.settle_inv
    | with_reducible apply State.setJob_inv
    | with_reducible apply State.endJob_inv
    | with_reducible intro _
    | split

theorem execJobPipelineLoad_inv {t₀ : State} (n : Fin 8) (key : ℕ) (r : PipelineRecord) (s : State) (e₀ : execJobPipelineLoad n key r s = .next t₀) (h₀ : Inv s) : Inv t₀ := by
  unfold execJobPipelineLoad at e₀
  cases e₀
  repeat' first
    | with_reducible assumption
    | with_reducible apply State.takePipe_inv

theorem execJobPipelineDrop_inv {t₀ : State} (n : Fin 8) (key : ℕ) (handle : ℕ) (s : State) (e₀ : execJobPipelineDrop n key handle s = .next t₀) (h₀ : Inv s) : Inv t₀ := by
  unfold execJobPipelineDrop at e₀
  cases e₀
  repeat' first
    | with_reducible assumption
    | with_reducible apply State.takePipe_inv

theorem execFenceWaitSatisfied_inv {t₀ : State} (n : Fin 8) (key : ℕ) (s : State) (e₀ : execFenceWaitSatisfied n key s = .next t₀) (h₀ : Inv s) : Inv t₀ := by
  unfold execFenceWaitSatisfied at e₀
  cases e₀
  repeat' first
    | with_reducible assumption
    | with_reducible apply State.queueJob_inv
    | with_reducible apply State.settle_inv
    | with_reducible apply State.setJob_inv
    | with_reducible apply State.endJob_inv
    | with_reducible refine Inv.ite ?_ ?_
    | split

theorem State.drawCommand_inv (s : State) (n : ℕ) (key : ℕ) (op : ℕ) (f : Bytes → Job → State → Option State) (hf : ∀ x0 x1 x2, Inv x2 → InvOpt (f x0 x1 x2)) (h₀ : Inv s) : Inv (State.drawCommand s n key op f) := by
  unfold State.drawCommand
  repeat' first
    | with_reducible assumption
    | with_reducible apply State.settle_inv
    | with_reducible apply State.setJob_inv
    | with_reducible apply State.endJob_inv
    | with_reducible refine InvOpt.get (h := hf _ _ _ ?_) (e := by with_reducible assumption)
    | with_reducible refine Inv.ite ?_ ?_
    | dsimp only
    | split

theorem State.setDraw_inv (s : State) (n : ℕ) (j : Job) (d : DrawState) (h₀ : Inv s) : Inv (State.setDraw s n j d) :=
  Inv.via (State.setDraw_frame s n j d (hs₀ := List.Subset.refl _) (h₀ := Frame.refl _ _)) (by decide) h₀

theorem execDrawListEnd_inv {t₀ : State} (n : Fin 8) (key : ℕ) (s : State) (e₀ : execDrawListEnd n key s = .next t₀) (h₀ : Inv s) : Inv t₀ := by
  unfold execDrawListEnd at e₀
  cases e₀
  repeat' first
    | with_reducible assumption
    | with_reducible apply State.drawCommand_inv
    | with_reducible apply State.setDraw_inv
    | with_reducible refine InvOpt.ofSome ?_
    | with_reducible intro _

theorem execBindPipeline_inv {t₀ : State} (n : Fin 8) (key : ℕ) (s : State) (e₀ : execBindPipeline n key s = .next t₀) (h₀ : Inv s) : Inv t₀ := by
  unfold execBindPipeline at e₀
  cases e₀
  repeat' first
    | with_reducible assumption
    | with_reducible apply State.drawCommand_inv
    | with_reducible apply State.setDraw_inv
    | with_reducible apply State.endJob_inv
    | with_reducible refine InvOpt.ofSome ?_
    | with_reducible intro _
    | dsimp only
    | split

theorem execBindSet_inv {t₀ : State} (n : Fin 8) (key : ℕ) (s : State) (e₀ : execBindSet n key s = .next t₀) (h₀ : Inv s) : Inv t₀ := by
  unfold execBindSet at e₀
  cases e₀
  repeat' first
    | with_reducible assumption
    | with_reducible apply State.drawCommand_inv
    | with_reducible apply State.setDraw_inv
    | with_reducible apply State.endJob_inv
    | with_reducible exact InvOpt.ofNone
    | with_reducible refine InvOpt.ofSome ?_
    | with_reducible refine InvOpt.ite ?_ ?_
    | with_reducible intro _
    | dsimp only
    | split

theorem execPushData_inv {t₀ : State} (n : Fin 8) (key : ℕ) (s : State) (e₀ : execPushData n key s = .next t₀) (h₀ : Inv s) : Inv t₀ := by
  unfold execPushData at e₀
  cases e₀
  repeat' first
    | with_reducible assumption
    | with_reducible apply State.drawCommand_inv
    | with_reducible apply State.setDraw_inv
    | with_reducible apply State.endJob_inv
    | with_reducible exact InvOpt.ofNone
    | with_reducible refine InvOpt.ofSome ?_
    | with_reducible refine InvOpt.ite ?_ ?_
    | with_reducible intro _
    | dsimp only
    | split

theorem execBindVertex_inv {t₀ : State} (n : Fin 8) (key : ℕ) (s : State) (e₀ : execBindVertex n key s = .next t₀) (h₀ : Inv s) : Inv t₀ := by
  unfold execBindVertex at e₀
  cases e₀
  repeat' first
    | with_reducible assumption
    | with_reducible apply State.drawCommand_inv
    | with_reducible apply State.setDraw_inv
    | with_reducible exact InvOpt.ofNone
    | with_reducible refine InvOpt.ofSome ?_
    | with_reducible refine InvOpt.ite ?_ ?_
    | with_reducible intro _

theorem execBindIndex_inv {t₀ : State} (n : Fin 8) (key : ℕ) (s : State) (e₀ : execBindIndex n key s = .next t₀) (h₀ : Inv s) : Inv t₀ := by
  unfold execBindIndex at e₀
  cases e₀
  repeat' first
    | with_reducible assumption
    | with_reducible apply State.drawCommand_inv
    | with_reducible apply State.setDraw_inv
    | with_reducible exact InvOpt.ofNone
    | with_reducible refine InvOpt.ofSome ?_
    | with_reducible refine InvOpt.ite ?_ ?_
    | with_reducible intro _

theorem State.issue_inv (s : State) (n : ℕ) (j : Job) (indexed : Bool) (l : List DrawArgs) (h₀ : Inv s) : InvOpt (State.issue s n j indexed l) := by
  unfold State.issue
  repeat' first
    | with_reducible assumption
    | with_reducible apply State.setJob_inv
    | with_reducible apply State.endJob_inv
    | with_reducible exact InvOpt.ofNone
    | with_reducible refine InvOpt.ofSome ?_
    | with_reducible refine InvOpt.ite ?_ ?_
    | split

theorem execDraw_inv {t₀ : State} (n : Fin 8) (key : ℕ) (s : State) (e₀ : execDraw n key s = .next t₀) (h₀ : Inv s) : Inv t₀ := by
  unfold execDraw at e₀
  cases e₀
  repeat' first
    | with_reducible assumption
    | with_reducible apply State.issue_inv
    | with_reducible apply State.drawCommand_inv
    | with_reducible intro _

theorem execDrawIndexed_inv {t₀ : State} (n : Fin 8) (key : ℕ) (s : State) (e₀ : execDrawIndexed n key s = .next t₀) (h₀ : Inv s) : Inv t₀ := by
  unfold execDrawIndexed at e₀
  cases e₀
  repeat' first
    | with_reducible assumption
    | with_reducible apply State.issue_inv
    | with_reducible apply State.drawCommand_inv
    | with_reducible intro _

theorem execDrawIndirect_inv {t₀ : State} (n : Fin 8) (key : ℕ) (s : State) (e₀ : execDrawIndirect n key s = .next t₀) (h₀ : Inv s) : Inv t₀ := by
  unfold execDrawIndirect at e₀
  cases e₀
  repeat' first
    | with_reducible assumption
    | with_reducible apply State.issue_inv
    | with_reducible apply State.drawCommand_inv
    | with_reducible apply State.endJob_inv
    | with_reducible exact InvOpt.ofNone
    | with_reducible refine InvOpt.ofSome ?_
    | with_reducible refine InvOpt.ite ?_ ?_
    | with_reducible intro _
    | split

theorem execSetViewport_inv {t₀ : State} (n : Fin 8) (key : ℕ) (s : State) (e₀ : execSetViewport n key s = .next t₀) (h₀ : Inv s) : Inv t₀ := by
  unfold execSetViewport at e₀
  cases e₀
  repeat' first
    | with_reducible assumption
    | with_reducible apply State.drawCommand_inv
    | with_reducible apply State.setDraw_inv
    | with_reducible refine InvOpt.ofSome ?_
    | with_reducible intro _

theorem execSetScissor_inv {t₀ : State} (n : Fin 8) (key : ℕ) (s : State) (e₀ : execSetScissor n key s = .next t₀) (h₀ : Inv s) : Inv t₀ := by
  unfold execSetScissor at e₀
  cases e₀
  repeat' first
    | with_reducible assumption
    | with_reducible apply State.drawCommand_inv
    | with_reducible apply State.setDraw_inv
    | with_reducible refine InvOpt.ofSome ?_
    | with_reducible intro _

theorem State.freeSamples_inv (s : State) (k : ℕ) (bps : ℕ) (h₀ : Inv s) : Inv (State.freeSamples s k bps).2 :=
  Inv.via (State.freeSamples_frame s k bps (hs₀ := List.Subset.refl _) (h₀ := Frame.refl _ _)) (by decide) h₀

theorem State.freeSamples_invOut (s : State) (k : ℕ) (bps : ℕ) {y₀ z₀} (e₀ : State.freeSamples s k bps = (y₀, z₀)) (h₀ : Inv s) : Inv z₀ := by
  have x₀ := State.freeSamples_inv s k bps h₀; rw [e₀] at x₀; exact x₀

theorem State.tileBases_inv (s : State) (n : ℕ) (j : Job) (tx : ℕ) (ty : ℕ) (h₀ : Inv s) : Inv (State.tileBases s n j tx ty).2 :=
  Inv.via (State.tileBases_frame s n j tx ty (hs₀ := List.Subset.refl _) (h₀ := Frame.refl _ _)) (by decide) h₀

theorem State.tileBases_invOut (s : State) (n : ℕ) (j : Job) (tx : ℕ) (ty : ℕ) {y₀ z₀} (e₀ : State.tileBases s n j tx ty = (y₀, z₀)) (h₀ : Inv s) : Inv z₀ := by
  have x₀ := State.tileBases_inv s n j tx ty h₀; rw [e₀] at x₀; exact x₀

theorem State.storeAtt_inv (s : State) (n : ℕ) (key : ℕ) (ix : ℕ) (a : Attachment) (tx : ℕ) (ty : ℕ) (tile : List Bytes) (h₀ : Inv s) : Inv (State.storeAtt s n key ix a tx ty tile) := by
  unfold State.storeAtt
  repeat' first
    | with_reducible assumption
    | with_reducible apply State.total_inv
    | with_reducible apply State.setJob_inv
    | with_reducible apply State.writeTagged_inv
    | with_reducible apply State.freeSamples_inv
    | with_reducible refine Inv.ite ?_ ?_
    | with_reducible refine Inv.iteSnd ?_ ?_
    | with_reducible refine Inv.foldl (fun _ _ _ => ?_) ?_
    | dsimp only
    | split

theorem State.storeTile_inv (s : State) (n : ℕ) (key : ℕ) (tx : ℕ) (ty : ℕ) (h₀ : Inv s) : Inv (State.storeTile s n key tx ty) := by
  unfold State.storeTile
  repeat' first
    | with_reducible assumption
    | with_reducible apply State.tileBases_inv
    | with_reducible apply State.storeAtt_inv
    | with_reducible refine Inv.each (fun _ _ _ => ?_) ?_
    | dsimp only
    | split

theorem State.writeHeader_inv (s : State) (n : ℕ) (j : Job) (ix : ℕ) (a : Attachment) (h₀ : Inv s) : Inv (State.writeHeader s n j ix a) := by
  unfold State.writeHeader
  repeat' first
    | with_reducible assumption
    | with_reducible apply State.writeTagged_inv
    | with_reducible refine Inv.ite ?_ ?_

theorem State.binPrims_inv (s : State) (n : ℕ) (j : Job) (q3 : List BinPrim) (h₀ : Inv s) : Inv (State.binPrims s n j q3).1 := by
  induction q3 generalizing s j with
  | nil => exact h₀
  | cons p l ih =>
    unfold State.binPrims
    dsimp only
    split
    · exact h₀
    · split
      · exact h₀
      · exact ih _ _ (State.writeTagged_inv _ _ _ _ _ _ (State.drawBytes_inv _ _ h₀))

theorem State.binPrims_invOut (s : State) (n : ℕ) (j : Job) (q3 : List BinPrim) {y₀ z₀}
    (e₀ : State.binPrims s n j q3 = (z₀, y₀)) (h₀ : Inv s) : Inv z₀ := by
  have x₀ := State.binPrims_inv s n j q3 h₀; rw [e₀] at x₀; exact x₀

theorem State.binHeld_inv (s : State) (n : ℕ) (key : ℕ) (q3 : ℕ) (h₀ : Inv s) : Inv (State.binHeld s n key q3) := by
  induction q3 generalizing s with
  | zero => exact h₀
  | succ k₀ ih₀ =>
    unfold State.binHeld
    repeat' first
      | with_reducible assumption
      | with_reducible apply ih₀
      | with_reducible apply State.binPrims_inv
      | with_reducible apply State.setJob_inv
      | with_reducible apply State.startFrag_inv
      | with_reducible apply State.endJob_inv
      | with_reducible refine Inv.ite ?_ ?_
      | dsimp only
      | split

theorem State.batchDone_inv (s : State) (n : ℕ) (key : ℕ) (first : ℕ) (prims : ℕ) (r : UnitResult) (h₀ : Inv s) : Inv (State.batchDone s n key first prims r) := by
  unfold State.batchDone
  repeat' first
    | with_reducible assumption
    | with_reducible apply State.binHeld_inv
    | with_reducible apply State.setJob_inv
    | dsimp only
    | split

theorem State.passDone_inv (s : State) (n : ℕ) (key : ℕ) (h₀ : Inv s) : Inv (State.passDone s n key) := by
  unfold State.passDone
  repeat' first
    | with_reducible assumption
    | with_reducible apply State.writeHeader_inv
    | with_reducible apply State.binHeld_inv
    | with_reducible apply State.setJob_inv
    | with_reducible apply State.count_inv
    | with_reducible apply State.endJob_inv
    | with_reducible refine Inv.ite ?_ ?_
    | with_reducible refine Inv.each (fun _ _ _ => ?_) ?_
    | dsimp only
    | split

theorem State.tileDone_inv (s : State) (n : ℕ) (key : ℕ) (core : ℕ) (tx : ℕ) (ty : ℕ) (part : ℕ) (parts : ℕ) (first : ℕ) (prims : ℕ) (r : UnitResult) (h₀ : Inv s) : InvOpt (State.tileDone s n key core tx ty part parts first prims r) := by
  unfold State.tileDone
  repeat' first
    | with_reducible assumption
    | with_reducible apply State.passDone_inv
    | with_reducible apply State.updJob_inv
    | with_reducible apply State.setJob_inv
    | with_reducible apply State.storeTile_inv
    | with_reducible apply State.endJob_inv
    | with_reducible refine Inv.ite ?_ ?_
    | with_reducible exact InvOpt.ofNone
    | with_reducible refine InvOpt.ofSome ?_
    | with_reducible refine InvOpt.ite ?_ ?_
    | dsimp only
    | split

theorem execUnitComplete_inv {t₀ : State} (n : Fin 8) (core : Fin 4) (k : ℕ) (r : UnitResult) (s : State) (e₀ : execUnitComplete n core k r s = .next t₀) (h₀ : Inv s) : Inv t₀ := by
  unfold execUnitComplete at e₀
  cases e₀
  repeat' first
    | with_reducible assumption
    | with_reducible refine InvOpt.get (h := State.tileDone_inv _ _ _ _ _ _ _ _ _ _ _ (h₀ := ?_)) (e := by with_reducible assumption)
    | with_reducible apply State.settle_inv
    | with_reducible apply State.setCore_inv
    | with_reducible apply State.batchDone_inv
    | with_reducible apply State.endJob_inv
    | with_reducible refine Inv.ite ?_ ?_
    | dsimp only
    | split

theorem execDeadlinePoint_inv {t₀ : State} (n : Fin 8) (key : ℕ) (s : State) (e₀ : execDeadlinePoint n key s = .next t₀) (h₀ : Inv s) : Inv t₀ := by
  unfold execDeadlinePoint at e₀
  cases e₀
  repeat' first
    | with_reducible assumption
    | with_reducible apply State.settle_inv
    | with_reducible apply State.setJob_inv
    | with_reducible refine Inv.ite ?_ ?_
    | split

theorem execContextSaveDone_inv {t₀ : State} (n : Fin 8) (core : Fin 4) (context : Bytes) (s : State) (e₀ : execContextSaveDone n core context s = .next t₀) (h₀ : Inv s) : Inv t₀ := by
  unfold execContextSaveDone at e₀
  cases e₀
  repeat' first
    | with_reducible assumption
    | with_reducible apply State.updJob_inv
    | with_reducible apply State.store_inv
    | with_reducible apply State.wr_inv
    | with_reducible apply State.settle_inv
    | with_reducible apply State.setCore_inv
    | dsimp only
    | split

theorem execContextRestoreDone_inv {t₀ : State} (n : Fin 8) (core : Fin 4) (s : State) (e₀ : execContextRestoreDone n core s = .next t₀) (h₀ : Inv s) : Inv t₀ := by
  unfold execContextRestoreDone at e₀
  cases e₀
  repeat' first
    | with_reducible assumption
    | with_reducible apply State.setRas_inv
    | with_reducible apply State.settle_inv
    | with_reducible apply State.syncSlots_inv
    | with_reducible apply State.setCore_inv
    | with_reducible apply State.toStationLog_inv
    | with_reducible apply State.count_inv
    | with_reducible apply State.endJob_inv
    | with_reducible refine Inv.ite ?_ ?_
    | dsimp only
    | split

theorem execTileYieldLimit_inv {t₀ : State} (n : Fin 8) (core : Fin 4) (s : State) (e₀ : execTileYieldLimit n core s = .next t₀) (h₀ : Inv s) : Inv t₀ := by
  unfold execTileYieldLimit at e₀
  cases e₀
  repeat' first
    | with_reducible assumption
    | with_reducible apply State.settle_inv
    | with_reducible apply State.setJob_inv
    | with_reducible apply State.setCore_inv
    | with_reducible apply State.count_inv
    | with_reducible refine Inv.ite ?_ ?_
    | dsimp only
    | split

theorem execJobAccessFault_inv {t₀ : State} (n : Fin 8) (key : ℕ) (addr : ℕ) (len : ℕ) (write : Bool) (s : State) (e₀ : execJobAccessFault n key addr len write s = .next t₀) (h₀ : Inv s) : Inv t₀ := by
  unfold execJobAccessFault at e₀
  cases e₀
  repeat' first
    | with_reducible assumption
    | with_reducible apply State.settle_inv
    | with_reducible apply State.endJob_inv
    | with_reducible refine Inv.ite ?_ ?_
    | split

theorem execJobTimeLimit_inv {t₀ : State} (n : Fin 8) (key : ℕ) (s : State) (e₀ : execJobTimeLimit n key s = .next t₀) (h₀ : Inv s) : Inv t₀ := by
  unfold execJobTimeLimit at e₀
  cases e₀
  repeat' first
    | with_reducible assumption
    | with_reducible apply State.settle_inv
    | with_reducible apply State.endJob_inv
    | with_reducible refine Inv.ite ?_ ?_
    | split

theorem execJobComplete_inv {t₀ : State} (n : Fin 8) (key : ℕ) (s : State) (e₀ : execJobComplete n key s = .next t₀) (h₀ : Inv s) : Inv t₀ := by
  unfold execJobComplete at e₀
  cases e₀
  repeat' first
    | with_reducible assumption
    | with_reducible apply State.completeJob_inv
    | with_reducible apply State.fetch_inv

theorem State.cachePut_inv (s : State) (n : ℕ) (q : TransReq) (res : TransResult) (h₀ : Inv s) : Inv (State.cachePut s n q res).1 :=
  Inv.via (State.cachePut_frame s n q res (hs₀ := List.Subset.refl _) (h₀ := Frame.refl _ _)) (by decide) h₀

theorem State.cachePut_invOut (s : State) (n : ℕ) (q : TransReq) (res : TransResult) {y₀ z₀} (e₀ : State.cachePut s n q res = (z₀, y₀)) (h₀ : Inv s) : Inv z₀ := by
  have x₀ := State.cachePut_inv s n q res h₀; rw [e₀] at x₀; exact x₀

theorem State.keepRenewed_inv (s : State) (n : ℕ) (q : TransReq) (res : TransResult) (h₀ : Inv s) : Inv (State.keepRenewed s n q res) :=
  Inv.via (State.keepRenewed_frame s n q res (hs₀ := List.Subset.refl _) (h₀ := Frame.refl _ _)) (by decide) h₀

theorem execTranslationComplete_inv {t₀ : State} (res : TransResult) (s : State) (e₀ : execTranslationComplete res s = .next t₀) (h₀ : Inv s) : Inv t₀ := by
  unfold execTranslationComplete at e₀
  cases e₀
  repeat' first
    | with_reducible assumption
    | with_reducible apply State.keepRenewed_inv
    | with_reducible apply State.cachePut_inv
    | with_reducible apply State.wr_inv
    | with_reducible apply State.settle_inv
    | with_reducible apply State.firmware_inv
    | with_reducible apply State.endJob_inv
    | (conv => arg 1; arg 50); with_reducible refine Inv.set_translator ?_
    | with_reducible refine Inv.ite ?_ ?_
    | with_reducible refine Inv.iteFst ?_ ?_
    | with_reducible intro _
    | dsimp only
    | split

theorem execRetranslationSwap_inv {t₀ : State} (n : Fin 8) (t : Fin 512) (handle : ℕ) (s : State) (e₀ : execRetranslationSwap n t handle s = .next t₀) (h₀ : Inv s) : Inv t₀ := by
  unfold execRetranslationSwap at e₀
  cases e₀
  repeat' first
    | with_reducible assumption
    | with_reducible apply State.setRas_inv
    | with_reducible apply State.syncCache_inv
    | with_reducible apply State.settle_inv
    | with_reducible refine Inv.ite ?_ ?_

theorem State.setSten_inv (s : State) (n : ℕ) (v : StationEnergy) (h₀ : Inv s) : Inv (State.setSten s n v) :=
  Inv.via (State.setSten_frame s n v (hs₀ := List.Subset.refl _) (h₀ := Frame.refl _ _)) (by decide) h₀

theorem State.addFine_inv (s : State) (k : ℕ × ℕ × ℕ) (fine : ℕ) (f : ℕ → State → State) (hf : ∀ x0 x1, Inv x1 → Inv (f x0 x1)) (h₀ : Inv s) : Inv (State.addFine s k fine f) := by
  unfold State.addFine
  repeat' first
    | with_reducible assumption
    | (conv => arg 1; arg 50); with_reducible refine Inv.set_energy ?_
    | with_reducible apply hf
    | with_reducible refine Inv.ite ?_ ?_

theorem State.growCredit_inv (s : State) (n : ℕ) (t : ℕ) (h₀ : Inv s) : Inv (State.growCredit s n t) :=
  Inv.via (State.growCredit_frame s n t (hs₀ := List.Subset.refl _) (h₀ := Frame.refl _ _)) (by decide) h₀

theorem State.splitTenants_inv (s : State) (n : ℕ) (h₀ : Inv s) : Inv (State.splitTenants s n) :=
  Inv.via (State.splitTenants_frame s n (hs₀ := List.Subset.refl _) (h₀ := Frame.refl _ _)) (by decide) h₀

theorem State.keepSplit_inv (s : State) (h₀ : Inv s) : Inv (State.keepSplit s) := by
  unfold State.keepSplit
  repeat' first
    | with_reducible assumption
    | with_reducible apply State.growCredit_inv
    | with_reducible apply State.settle_inv
    | with_reducible apply State.presentDeferred_inv
    | with_reducible refine Inv.each (fun _ _ _ => ?_) ?_

theorem execEnergySplit_inv {t₀ : State} (s : State) (e₀ : execEnergySplit s = .next t₀) (h₀ : Inv s) : Inv t₀ := by
  unfold execEnergySplit at e₀
  cases e₀
  repeat' first
    | with_reducible assumption
    | with_reducible apply State.wrB_inv
    | with_reducible apply State.splitTenants_inv
    | with_reducible apply State.wr_inv
    | with_reducible apply State.settle_inv
    | with_reducible apply State.clearAlarm_inv
    | with_reducible apply State.presentDeferred_inv
    | with_reducible apply State.alarm_inv
    | with_reducible apply State.keepSplit_inv
    | (conv => arg 1; arg 50); with_reducible refine Inv.set_energy ?_
    | with_reducible refine Inv.ite ?_ ?_
    | with_reducible refine Inv.each (fun _ _ _ => ?_) ?_

theorem State.setClock_inv (s : State) (n : ℕ) (h₀ : Inv s) : Inv (State.setClock s n) := by
  unfold State.setClock
  repeat' first
    | with_reducible assumption
    | with_reducible apply State.redeadline_inv
    | with_reducible apply State.wr_inv
    | with_reducible apply State.settle_inv

theorem State.movePoint_inv (s : State) (n : ℕ) (p : ℕ) (h₀ : Inv s) : Inv (State.movePoint s n p) := by
  unfold State.movePoint
  repeat' first
    | with_reducible assumption
    | with_reducible apply State.wr_inv
    | with_reducible apply State.setClock_inv
    | with_reducible apply State.setSten_inv
    | with_reducible refine Inv.ite ?_ ?_

theorem execShaderPointSettled_inv {t₀ : State} (n : Fin 8) (s : State) (e₀ : execShaderPointSettled n s = .next t₀) (h₀ : Inv s) : Inv t₀ := by
  unfold execShaderPointSettled at e₀
  cases e₀
  repeat' first
    | with_reducible assumption
    | with_reducible apply State.wr_inv
    | with_reducible apply State.setClock_inv
    | with_reducible apply State.setSten_inv
    | with_reducible refine Inv.ite ?_ ?_
    | split

theorem State.shed_inv (s : State) (n : ℕ) (h₀ : Inv s) : Inv (State.shed s n) := by
  unfold State.shed
  repeat' first
    | with_reducible assumption
    | with_reducible apply State.wr_inv
    | with_reducible apply State.settle_inv
    | with_reducible apply State.count_inv
    | with_reducible apply State.endJob_inv
    | with_reducible refine Inv.each (fun _ _ _ => ?_) ?_

theorem execStationTick_inv {t₀ : State} (n : Fin 8) (s : State) (e₀ : execStationTick n s = .next t₀) (h₀ : Inv s) : Inv t₀ := by
  unfold execStationTick at e₀
  cases e₀
  repeat' first
    | with_reducible assumption
    | with_reducible apply State.wr_inv
    | with_reducible apply State.setSten_inv
    | with_reducible apply State.settle_inv
    | with_reducible apply State.shed_inv
    | with_reducible apply State.presentDeferred_inv
    | with_reducible apply State.count_inv
    | with_reducible apply State.movePoint_inv
    | with_reducible refine Inv.ite ?_ ?_

theorem State.energyOn_inv (s : State) (n : ℕ) (h₀ : Inv s) : Inv (State.energyOn s n) := by
  unfold State.energyOn
  repeat' first
    | with_reducible assumption
    | with_reducible apply State.wr_inv
    | with_reducible apply State.setClock_inv
    | with_reducible apply State.setSten_inv

theorem State.energyOff_inv (s : State) (n : ℕ) (h₀ : Inv s) : Inv (State.energyOff s n) :=
  Inv.via (State.energyOff_frame s n (hs₀ := List.Subset.refl _) (h₀ := Frame.refl _ _)) (by decide) h₀

theorem State.setDivisor_inv (s : State) (n : ℕ) (d : ℕ) (h₀ : Inv s) : Inv (State.setDivisor s n d) := by
  unfold State.setDivisor
  repeat' first
    | with_reducible assumption
    | with_reducible apply State.wr_inv
    | with_reducible apply State.setClock_inv
    | (conv => arg 1; arg 50); with_reducible refine Inv.set_energy ?_
    | with_reducible refine Inv.ite ?_ ?_

theorem execWeirCompare_inv {t₀ : State} (input : ℕ) (s : State) (e₀ : execWeirCompare input s = .next t₀) (h₀ : Inv s) : Inv t₀ := by
  unfold execWeirCompare at e₀
  cases e₀
  repeat' first
    | with_reducible assumption
    | with_reducible apply State.setDivisor_inv
    | with_reducible apply State.wr_inv
    | with_reducible apply State.count_inv
    | (conv => arg 1; arg 50); with_reducible refine Inv.set_energy ?_
    | with_reducible refine Inv.ite ?_ ?_
    | with_reducible refine Inv.each (fun _ _ _ => ?_) ?_
    | dsimp only

theorem execWeirClampRank_inv {t₀ : State} (x : WeirReading) (s : State) (e₀ : execWeirClampRank x s = .next t₀) (h₀ : Inv s) : Inv t₀ := by
  unfold execWeirClampRank at e₀
  cases e₀
  repeat' first
    | with_reducible assumption
    | with_reducible apply State.setDivisor_inv
    | with_reducible apply State.wr_inv
    | with_reducible refine Inv.ite ?_ ?_
    | with_reducible refine Inv.each (fun _ _ _ => ?_) ?_

theorem State.weirIdle_inv (s : State) (h₀ : Inv s) : Inv (State.weirIdle s) :=
  Inv.via (State.weirIdle_frame s (hs₀ := List.Subset.refl _) (h₀ := Frame.refl _ _)) (by decide) h₀

theorem execWeirReleaseCheck_inv {t₀ : State} (x : WeirReading) (s : State) (e₀ : execWeirReleaseCheck x s = .next t₀) (h₀ : Inv s) : Inv t₀ := by
  unfold execWeirReleaseCheck at e₀
  cases e₀
  repeat' first
    | with_reducible assumption
    | with_reducible apply State.setDivisor_inv
    | with_reducible apply State.wr_inv
    | with_reducible apply State.weirIdle_inv
    | (conv => arg 1; arg 50); with_reducible refine Inv.set_energy ?_
    | with_reducible refine Inv.ite ?_ ?_
    | dsimp only
    | split

theorem execDeviceBudgetMw_inv {t₀ : State} (who : Requester) (v : ℕ) (s : State) (e₀ : execDeviceBudgetMw who v s = .next t₀) (h₀ : Inv s) : Inv t₀ :=
  Inv.via (execDeviceBudgetMw_frame who v s (hs₀ := List.Subset.refl _) (e₀ := e₀) (h₀ := Frame.refl _ _)) (by decide) h₀

theorem State.hapticOff_inv (s : State) (n : ℕ) (h₀ : Inv s) : Inv (State.hapticOff s n) :=
  Inv.via (State.hapticOff_frame s n (hs₀ := List.Subset.refl _) (h₀ := Frame.refl _ _)) (by decide) h₀

theorem State.hapticReset_inv (s : State) (n : ℕ) (h₀ : Inv s) : Inv (State.hapticReset s n) :=
  Inv.via (State.hapticReset_frame s n (hs₀ := List.Subset.refl _) (h₀ := Frame.refl _ _)) (by decide) h₀

theorem State.hapticRevoke_inv (s : State) (n : ℕ) (t : ℕ) (h₀ : Inv s) : Inv (State.hapticRevoke s n t) :=
  Inv.via (State.hapticRevoke_frame s n t (hs₀ := List.Subset.refl _) (h₀ := Frame.refl _ _)) (by decide) h₀

theorem execHapticTrigger_inv {t₀ : State} (via : Via) (n : Fin 8) (tq : Fin 512) (v : ℕ) (s : State) (e₀ : execHapticTrigger via n tq v s = .next t₀) (h₀ : Inv s) : Inv t₀ :=
  Inv.via (execHapticTrigger_frame via n tq v s (hs₀ := List.Subset.refl _) (e₀ := e₀) (h₀ := Frame.refl _ _)) (by decide) h₀

theorem execEffectData_inv {t₀ : State} (who : Requester) (n : Fin 8) (e : Fin 64) (data : Bytes) (s : State) (e₀ : execEffectData who n e data s = .next t₀) (h₀ : Inv s) : Inv t₀ :=
  Inv.via (execEffectData_frame who n e data s (hs₀ := List.Subset.refl _) (e₀ := e₀) (h₀ := Frame.refl _ _)) (by decide) h₀

theorem execFaultClear_inv {t₀ : State} (who : Requester) (n : Fin 8) (v : ℕ) (s : State) (e₀ : execFaultClear who n v s = .next t₀) (h₀ : Inv s) : Inv t₀ :=
  Inv.via (execFaultClear_frame who n v s (hs₀ := List.Subset.refl _) (e₀ := e₀) (h₀ := Frame.refl _ _)) (by decide) h₀

theorem execHapticCommit_inv {t₀ : State} (who : Requester) (n : Fin 8) (v : ℕ) (s : State) (e₀ : execHapticCommit who n v s = .next t₀) (h₀ : Inv s) : Inv t₀ :=
  Inv.via (execHapticCommit_frame who n v s (hs₀ := List.Subset.refl _) (e₀ := e₀) (h₀ := Frame.refl _ _)) (by decide) h₀

theorem execRefLoadStart_inv {t₀ : State} (who : Requester) (n : Fin 8) (v : ℕ) (s : State) (e₀ : execRefLoadStart who n v s = .next t₀) (h₀ : Inv s) : Inv t₀ :=
  Inv.via (execRefLoadStart_frame who n v s (hs₀ := List.Subset.refl _) (e₀ := e₀) (h₀ := Frame.refl _ _)) (by decide) h₀

theorem State.closeOutside_inv (s : State) (n : ℕ) (h₀ : Inv s) : Inv (State.closeOutside s n) :=
  Inv.via (State.closeOutside_frame s n (hs₀ := List.Subset.refl _) (h₀ := Frame.refl _ _)) (by decide) h₀

theorem State.endGuardFrame_inv (s : State) (n : ℕ) (h₀ : Inv s) : Inv (State.endGuardFrame s n).1 :=
  Inv.via (State.endGuardFrame_frame s n (hs₀ := List.Subset.refl _) (h₀ := Frame.refl _ _)) (by decide) h₀

theorem State.endGuardFrame_invOut (s : State) (n : ℕ) {y₀ z₀} (e₀ : State.endGuardFrame s n = (z₀, y₀)) (h₀ : Inv s) : Inv z₀ := by
  have x₀ := State.endGuardFrame_inv s n h₀; rw [e₀] at x₀; exact x₀

theorem State.setNextBoundary_inv (s : State) (n : ℕ) (h₀ : Inv s) : Inv (State.setNextBoundary s n) :=
  Inv.via (State.setNextBoundary_frame s n (hs₀ := List.Subset.refl _) (h₀ := Frame.refl _ _)) (by decide) h₀

theorem State.startFrame_inv (s : State) (n : ℕ) (h₀ : Inv s) : Inv (State.startFrame s n) :=
  Inv.via (State.startFrame_frame s n (hs₀ := List.Subset.refl _) (h₀ := Frame.refl _ _)) (by decide) h₀

theorem State.clearDirty_inv (s : State) (n : ℕ) (l : ℕ) (h₀ : Inv s) : Inv (State.clearDirty s n l) := by
  unfold State.clearDirty
  repeat' first
    | with_reducible assumption
    | with_reducible apply State.writeTagged_inv
    | with_reducible refine Inv.ite ?_ ?_

theorem State.decideStatic_inv (s : State) (n : ℕ) (latched : Bool) (h₀ : Inv s) : Inv (State.decideStatic s n latched) := by
  unfold State.decideStatic
  repeat' first
    | with_reducible assumption
    | with_reducible apply State.wrB_inv
    | with_reducible apply State.wr_inv
    | with_reducible apply State.setCmp_inv
    | with_reducible apply State.clearDirty_inv
    | with_reducible apply State.count_inv
    | with_reducible refine Inv.ite ?_ ?_
    | with_reducible refine Inv.each (fun _ _ _ => ?_) ?_

theorem State.latchMonitors_inv (s : State) (n : ℕ) (h₀ : Inv s) : Inv (State.latchMonitors s n) :=
  Inv.via (State.latchMonitors_frame s n (hs₀ := List.Subset.refl _) (h₀ := Frame.refl _ _)) (by decide) h₀

theorem State.psrEntry_inv (s : State) (n : ℕ) (h₀ : Inv s) : Inv (State.psrEntry s n) :=
  Inv.via (State.psrEntry_frame s n (hs₀ := List.Subset.refl _) (h₀ := Frame.refl _ _)) (by decide) h₀

theorem State.boundaryLatch_inv (s : State) (n : ℕ) (h₀ : Inv s) : Inv (State.boundaryLatch s n) := by
  unfold State.boundaryLatch
  repeat' first
    | with_reducible assumption
    | with_reducible apply State.latchSets_inv
    | with_reducible apply State.setCompose_inv
    | with_reducible apply State.latchRevocations_inv
    | with_reducible apply State.closeOutside_inv
    | with_reducible apply State.wr_inv
    | with_reducible apply State.setCmp_inv
    | with_reducible apply State.startFrame_inv
    | with_reducible apply State.setNextBoundary_inv
    | with_reducible apply State.latchMonitors_inv
    | with_reducible apply State.psrEntry_inv
    | with_reducible apply State.decideStatic_inv
    | with_reducible apply State.setDsp_inv
    | with_reducible refine Inv.ite ?_ ?_

theorem State.writeBack_inv (s : State) (n : ℕ) (y : ℕ) (pixels : List ℕ) (room : Bool) (h₀ : Inv s) : Inv (State.writeBack s n y pixels room) := by
  unfold State.writeBack
  repeat' first
    | with_reducible assumption
    | with_reducible apply State.setCmp_inv
    | with_reducible apply State.count_inv
    | with_reducible apply State.writeTagged_inv
    | with_reducible refine Inv.ite ?_ ?_

theorem State.monitorLine_inv (s : State) (n : ℕ) (y : ℕ) (pixels : List ℕ) (boxes : List (ℤ × ℤ × ℤ × ℤ)) (h₀ : Inv s) : Inv (State.monitorLine s n y pixels boxes) :=
  Inv.via (State.monitorLine_frame s n y pixels boxes (hs₀ := List.Subset.refl _) (h₀ := Frame.refl _ _)) (by decide) h₀

theorem State.recordLead_inv (s : State) (n : ℕ) (y : ℕ) (h₀ : Inv s) : Inv (State.recordLead s n y) :=
  Inv.via (State.recordLead_frame s n y (hs₀ := List.Subset.refl _) (h₀ := Frame.refl _ _)) (by decide) h₀

theorem State.takeLine_inv (s : State) (n : ℕ) (y : ℕ) (h₀ : Inv s) : Inv (State.takeLine s n y).1 :=
  Inv.via (State.takeLine_frame s n y (hs₀ := List.Subset.refl _) (h₀ := Frame.refl _ _)) (by decide) h₀

theorem State.takeLine_invOut (s : State) (n : ℕ) (y : ℕ) {y₀ z₀} (e₀ : State.takeLine s n y = (z₀, y₀)) (h₀ : Inv s) : Inv z₀ := by
  have x₀ := State.takeLine_inv s n y h₀; rw [e₀] at x₀; exact x₀

theorem State.publish_inv (s : State) (n : ℕ) (h₀ : Inv s) : Inv (State.publish s n) :=
  Inv.via (State.publish_frame s n (hs₀ := List.Subset.refl _) (h₀ := Frame.refl _ _)) (by decide) h₀

theorem State.sendLine_inv (s : State) (n : ℕ) (y : ℕ) (px : List ℕ) (h₀ : Inv s) : Inv (State.sendLine s n y px) :=
  Inv.via (State.sendLine_frame s n y px (hs₀ := List.Subset.refl _) (h₀ := Frame.refl _ _)) (by decide) h₀

theorem State.emitLine_inv (s : State) (n : ℕ) (y : ℕ) (room : Bool) (h₀ : Inv s) : Inv (State.emitLine s n y room) := by
  unfold State.emitLine
  repeat' first
    | with_reducible assumption
    | with_reducible apply State.recordLead_inv
    | with_reducible apply State.takeLine_inv
    | with_reducible apply State.monitorLine_inv
    | with_reducible apply State.sendLine_inv
    | with_reducible apply State.writeBack_inv
    | with_reducible apply State.cvLine_inv
    | with_reducible refine Inv.ite ?_ ?_

theorem State.endFrame_inv (s : State) (n : ℕ) (h₀ : Inv s) : Inv (State.endFrame s n) :=
  Inv.via (State.endFrame_frame s n (hs₀ := List.Subset.refl _) (h₀ := Frame.refl _ _)) (by decide) h₀

theorem State.lineStart_inv (s : State) (n : ℕ) (room : Bool) (h₀ : Inv s) : Inv (State.lineStart s n room).1 := by
  unfold State.lineStart
  repeat' first
    | with_reducible assumption
    | with_reducible apply State.emitLine_inv
    | with_reducible apply State.publish_inv
    | with_reducible apply State.setNextBoundary_inv
    | with_reducible apply State.endFrame_inv
    | with_reducible apply State.setDsp_inv
    | with_reducible refine Inv.iteFst ?_ ?_
    | dsimp only
    | split

theorem State.lineStart_invOut (s : State) (n : ℕ) (room : Bool) {y₀ z₀} (e₀ : State.lineStart s n room = (z₀, y₀)) (h₀ : Inv s) : Inv z₀ := by
  have x₀ := State.lineStart_inv s n room h₀; rw [e₀] at x₀; exact x₀

theorem State.frameBoundary_inv (s : State) (n : ℕ) (h₀ : Inv s) : Inv (State.frameBoundary s n) :=
  Inv.via (State.frameBoundary_frame s n (hs₀ := List.Subset.refl _) (h₀ := Frame.refl _ _)) (by decide) h₀

theorem State.applyMode_inv (s : State) (n : ℕ) (h₀ : Inv s) : Inv (State.applyMode s n) :=
  Inv.via (State.applyMode_frame s n (hs₀ := List.Subset.refl _) (h₀ := Frame.refl _ _)) (by decide) h₀

theorem State.panelDown_inv (s : State) (n : ℕ) (h₀ : Inv s) : Inv (State.panelDown s n) :=
  Inv.via (State.panelDown_frame s n (hs₀ := List.Subset.refl _) (h₀ := Frame.refl _ _)) (by decide) h₀

theorem State.outputOff_inv (s : State) (n : ℕ) (h₀ : Inv s) : Inv (State.outputOff s n) :=
  Inv.via (State.outputOff_frame s n (hs₀ := List.Subset.refl _) (h₀ := Frame.refl _ _)) (by decide) h₀

theorem State.stopTiming_inv (s : State) (n : ℕ) (h₀ : Inv s) : Inv (State.stopTiming s n) :=
  Inv.via (State.stopTiming_frame s n (hs₀ := List.Subset.refl _) (h₀ := Frame.refl _ _)) (by decide) h₀

theorem State.outputSleep_inv (s : State) (n : ℕ) (h₀ : Inv s) : Inv (State.outputSleep s n) :=
  Inv.via (State.outputSleep_frame s n (hs₀ := List.Subset.refl _) (h₀ := Frame.refl _ _)) (by decide) h₀

theorem State.touchPlan_inv (s : State) (n : ℕ) (h₀ : Inv s) : Inv (State.touchPlan s n) :=
  Inv.via (State.touchPlan_frame s n (hs₀ := List.Subset.refl _) (h₀ := Frame.refl _ _)) (by decide) h₀

theorem execTouchCommit_inv {t₀ : State} (who : Requester) (n : Fin 8) (v : ℕ) (s : State) (e₀ : execTouchCommit who n v s = .next t₀) (h₀ : Inv s) : Inv t₀ :=
  Inv.via (execTouchCommit_frame who n v s (hs₀ := List.Subset.refl _) (e₀ := e₀) (h₀ := Frame.refl _ _)) (by decide) h₀

theorem execReferenceCapture_inv {t₀ : State} (who : Requester) (n : Fin 8) (v : ℕ) (s : State) (e₀ : execReferenceCapture who n v s = .next t₀) (h₀ : Inv s) : Inv t₀ :=
  Inv.via (execReferenceCapture_frame who n v s (hs₀ := List.Subset.refl _) (e₀ := e₀) (h₀ := Frame.refl _ _)) (by decide) h₀

theorem State.touchOff_inv (s : State) (n : ℕ) (h₀ : Inv s) : Inv (State.touchOff s n) :=
  Inv.via (State.touchOff_frame s n (hs₀ := List.Subset.refl _) (h₀ := Frame.refl _ _)) (by decide) h₀

theorem State.touchSleep_inv (s : State) (n : ℕ) (h₀ : Inv s) : Inv (State.touchSleep s n) :=
  Inv.via (State.touchSleep_frame s n (hs₀ := List.Subset.refl _) (h₀ := Frame.refl _ _)) (by decide) h₀

theorem State.touchFault_inv (s : State) (n : ℕ) (h₀ : Inv s) : Inv (State.touchFault s n) :=
  Inv.via (State.touchFault_frame s n (hs₀ := List.Subset.refl _) (h₀ := Frame.refl _ _)) (by decide) h₀

theorem State.touchReturn_inv (s : State) (n : ℕ) (h₀ : Inv s) : Inv (State.touchReturn s n) :=
  Inv.via (State.touchReturn_frame s n (hs₀ := List.Subset.refl _) (h₀ := Frame.refl _ _)) (by decide) h₀

theorem State.touchRevoke_inv (s : State) (n : ℕ) (t : ℕ) (h₀ : Inv s) : Inv (State.touchRevoke s n t) :=
  Inv.via (State.touchRevoke_frame s n t (hs₀ := List.Subset.refl _) (h₀ := Frame.refl _ _)) (by decide) h₀

theorem State.touchZoneReady_inv (s : State) (n : ℕ) (z : ℕ) (h₀ : Inv s) : Inv (State.touchZoneReady s n z) :=
  Inv.via (State.touchZoneReady_frame s n z (hs₀ := List.Subset.refl _) (h₀ := Frame.refl _ _)) (by decide) h₀

theorem State.wakePin_inv (s : State) (h₀ : Inv s) : Inv (State.wakePin s) :=
  Inv.via (State.wakePin_frame s (hs₀ := List.Subset.refl _) (h₀ := Frame.refl _ _)) (by decide) h₀

theorem execWakePendingClear_inv {t₀ : State} (who : Requester) (n : Fin 8) (v : ℕ) (s : State) (e₀ : execWakePendingClear who n v s = .next t₀) (h₀ : Inv s) : Inv t₀ :=
  Inv.via (execWakePendingClear_frame who n v s (hs₀ := List.Subset.refl _) (e₀ := e₀) (h₀ := Frame.refl _ _)) (by decide) h₀

theorem State.audioNote_inv (s : State) (n : ℕ) (h : Holder) (code : ℕ) (prio : ℕ) (fields : List (ℕ × ℕ)) (h₀ : Inv s) : Inv (State.audioNote s n h code prio fields) :=
  Inv.via (State.audioNote_frame s n h code prio fields (hs₀ := List.Subset.refl _) (h₀ := Frame.refl _ _)) (by decide) h₀

theorem State.audioStop_inv (s : State) (n : ℕ) (restart : Bool) (h₀ : Inv s) : Inv (State.audioStop s n restart) :=
  Inv.via (State.audioStop_frame s n restart (hs₀ := List.Subset.refl _) (h₀ := Frame.refl _ _)) (by decide) h₀

theorem State.beginDue_inv (s : State) (n : ℕ) (h₀ : Inv s) : Inv (State.beginDue s n) :=
  Inv.via (State.beginDue_frame s n (hs₀ := List.Subset.refl _) (h₀ := Frame.refl _ _)) (by decide) h₀

theorem State.switchRoutes_inv (s : State) (n : ℕ) (h₀ : Inv s) : Inv (State.switchRoutes s n) :=
  Inv.via (State.switchRoutes_frame s n (hs₀ := List.Subset.refl _) (h₀ := Frame.refl _ _)) (by decide) h₀

theorem State.issueFetch_inv (s : State) (n : ℕ) (k : ℕ) (h₀ : Inv s) : Inv (State.issueFetch s n k) :=
  Inv.via (State.issueFetch_frame s n k (hs₀ := List.Subset.refl _) (h₀ := Frame.refl _ _)) (by decide) h₀

theorem State.graph_inv (s : State) (n : ℕ) (mic : ℤ × ℤ) (h₀ : Inv s) : Inv (State.graph s n mic).2 :=
  Inv.via (State.graph_frame s n mic (hs₀ := List.Subset.refl _) (h₀ := Frame.refl _ _)) (by decide) h₀

theorem State.graph_invOut (s : State) (n : ℕ) (mic : ℤ × ℤ) {y₀ z₀} (e₀ : State.graph s n mic = (y₀, z₀)) (h₀ : Inv s) : Inv z₀ := by
  have x₀ := State.graph_inv s n mic h₀; rw [e₀] at x₀; exact x₀

theorem State.loopWrite_inv (s : State) (n : ℕ) (h₀ : Inv s) : Inv (State.loopWrite s n) := by
  unfold State.loopWrite
  repeat' first
    | with_reducible assumption
    | with_reducible apply State.setAud_inv
    | with_reducible apply State.wr_inv
    | with_reducible apply State.count_inv
    | with_reducible apply State.writeTagged_inv
    | with_reducible apply State.audioNote_inv
    | with_reducible refine Inv.ite ?_ ?_
    | dsimp only
    | split

theorem State.loopFrame_inv (s : State) (n : ℕ) (x : ℤ × ℤ) (h₀ : Inv s) : Inv (State.loopFrame s n x) := by
  unfold State.loopFrame
  repeat' first
    | with_reducible assumption
    | with_reducible apply State.setAud_inv
    | with_reducible apply State.loopWrite_inv
    | with_reducible refine Inv.ite ?_ ?_

theorem State.sendTdm_inv (s : State) (n : ℕ) (x : List ℤ) (h₀ : Inv s) : Inv (State.sendTdm s n x) :=
  Inv.via (State.sendTdm_frame s n x (hs₀ := List.Subset.refl _) (h₀ := Frame.refl _ _)) (by decide) h₀

theorem State.sendFrame_inv (s : State) (n : ℕ) (x : List ℤ) (h₀ : Inv s) : Inv (State.sendFrame s n x) :=
  Inv.via (State.sendFrame_frame s n x (hs₀ := List.Subset.refl _) (h₀ := Frame.refl _ _)) (by decide) h₀

theorem execAudioFrame_inv {t₀ : State} (n : Fin 8) (mic0 : ℕ) (mic1 : ℕ) (s : State) (e₀ : execAudioFrame n mic0 mic1 s = .next t₀) (h₀ : Inv s) : Inv t₀ := by
  unfold execAudioFrame at e₀
  cases e₀
  repeat' first
    | with_reducible assumption
    | with_reducible apply State.setAud_inv
    | with_reducible apply State.graph_inv
    | with_reducible apply State.sendFrame_inv
    | with_reducible apply State.issueFetch_inv
    | with_reducible apply State.loopFrame_inv
    | with_reducible apply State.sendTdm_inv
    | with_reducible apply State.beginDue_inv
    | with_reducible apply State.switchRoutes_inv
    | with_reducible apply State.advance_inv
    | with_reducible refine Inv.ite ?_ ?_
    | with_reducible refine Inv.each (fun _ _ _ => ?_) ?_

theorem execAudioCommit_inv {t₀ : State} (who : Requester) (n : Fin 8) (v : ℕ) (s : State) (e₀ : execAudioCommit who n v s = .next t₀) (h₀ : Inv s) : Inv t₀ :=
  Inv.via (execAudioCommit_frame who n v s (hs₀ := List.Subset.refl _) (e₀ := e₀) (h₀ := Frame.refl _ _)) (by decide) h₀

theorem execStreamStart_inv {t₀ : State} (who : Requester) (n : Fin 8) (k : Fin 12) (v : ℕ) (s : State) (e₀ : execStreamStart who n k v s = .next t₀) (h₀ : Inv s) : Inv t₀ :=
  Inv.via (execStreamStart_frame who n k v s (hs₀ := List.Subset.refl _) (e₀ := e₀) (h₀ := Frame.refl _ _)) (by decide) h₀

theorem execStreamStop_inv {t₀ : State} (who : Requester) (n : Fin 8) (k : Fin 12) (v : ℕ) (s : State) (e₀ : execStreamStop who n k v s = .next t₀) (h₀ : Inv s) : Inv t₀ :=
  Inv.via (execStreamStop_frame who n k v s (hs₀ := List.Subset.refl _) (e₀ := e₀) (h₀ := Frame.refl _ _)) (by decide) h₀

theorem execTgStart_inv {t₀ : State} (who : Requester) (n : Fin 8) (g : Fin 2) (v : ℕ) (s : State) (e₀ : execTgStart who n g v s = .next t₀) (h₀ : Inv s) : Inv t₀ :=
  Inv.via (execTgStart_frame who n g v s (hs₀ := List.Subset.refl _) (e₀ := e₀) (h₀ := Frame.refl _ _)) (by decide) h₀

theorem execTgStop_inv {t₀ : State} (who : Requester) (n : Fin 8) (g : Fin 2) (v : ℕ) (s : State) (e₀ : execTgStop who n g v s = .next t₀) (h₀ : Inv s) : Inv t₀ :=
  Inv.via (execTgStop_frame who n g v s (hs₀ := List.Subset.refl _) (e₀ := e₀) (h₀ := Frame.refl _ _)) (by decide) h₀

theorem execLoopBlockWrite_inv {t₀ : State} (n : Fin 8) (s : State) (e₀ : execLoopBlockWrite n s = .next t₀) (h₀ : Inv s) : Inv t₀ := by
  unfold execLoopBlockWrite at e₀
  cases e₀
  repeat' first
    | with_reducible assumption
    | with_reducible apply State.loopWrite_inv

theorem State.audioReset_inv (s : State) (n : ℕ) (h₀ : Inv s) : Inv (State.audioReset s n) :=
  Inv.via (State.audioReset_frame s n (hs₀ := List.Subset.refl _) (h₀ := Frame.refl _ _)) (by decide) h₀

theorem State.closingAudio_inv (s : State) (n : ℕ) (st : ℕ) (a : Audio) (l : List (ObjRow × ℕ × ℤ)) (h₀ : Inv s) : Inv (State.closingAudio s n st a l) :=
  Inv.via (State.closingAudio_frame s n st a l (hs₀ := List.Subset.refl _) (h₀ := Frame.refl _ _)) (by decide) h₀

theorem State.audioFault_inv (s : State) (n : ℕ) (h₀ : Inv s) : Inv (State.audioFault s n) :=
  Inv.via (State.audioFault_frame s n (hs₀ := List.Subset.refl _) (h₀ := Frame.refl _ _)) (by decide) h₀

theorem State.audioRevoke_inv (s : State) (n : ℕ) (t : ℕ) (h₀ : Inv s) : Inv (State.audioRevoke s n t) :=
  Inv.via (State.audioRevoke_frame s n t (hs₀ := List.Subset.refl _) (h₀ := Frame.refl _ _)) (by decide) h₀

theorem State.writeLayerCommit_inv (s : State) (who : Requester) (n : ℕ) (mask : ℕ) (named : ℕ) (h₀ : Inv s) : Inv (State.writeLayerCommit s who n mask named) :=
  Inv.via (State.writeLayerCommit_frame s who n mask named (hs₀ := List.Subset.refl _) (h₀ := Frame.refl _ _)) (by decide) h₀

theorem State.writeGuardCommit_inv (s : State) (who : Requester) (n : ℕ) (mask : ℕ) (named : ℕ) (h₀ : Inv s) : Inv (State.writeGuardCommit s who n mask named) :=
  Inv.via (State.writeGuardCommit_frame s who n mask named (hs₀ := List.Subset.refl _) (h₀ := Frame.refl _ _)) (by decide) h₀

theorem execLayerCommit_inv {t₀ : State} (via : Via) (n : Fin 8) (mask : ℕ) (s : State) (e₀ : execLayerCommit via n mask s = .next t₀) (h₀ : Inv s) : Inv t₀ :=
  Inv.via (execLayerCommit_frame via n mask s (hs₀ := List.Subset.refl _) (e₀ := e₀) (h₀ := Frame.refl _ _)) (by decide) h₀

theorem execGuardCommit_inv {t₀ : State} (via : Via) (n : Fin 8) (mask : ℕ) (s : State) (e₀ : execGuardCommit via n mask s = .next t₀) (h₀ : Inv s) : Inv t₀ :=
  Inv.via (execGuardCommit_frame via n mask s (hs₀ := List.Subset.refl _) (e₀ := e₀) (h₀ := Frame.refl _ _)) (by decide) h₀

theorem execBoundaryLatch_inv {t₀ : State} (n : Fin 8) (s : State) (e₀ : execBoundaryLatch n s = .next t₀) (h₀ : Inv s) : Inv t₀ := by
  unfold execBoundaryLatch at e₀
  obtain rfl := Host.Outcome.next.inj e₀
  repeat' first
    | with_reducible assumption
    | with_reducible apply State.retarget_inv
    | with_reducible apply State.settle_inv
    | with_reducible apply State.boundaryLatch_inv

theorem execModeCommit_inv {t₀ : State} (who : Requester) (n : Fin 8) (v : ℕ) (s : State) (e₀ : execModeCommit who n v s = .next t₀) (h₀ : Inv s) : Inv t₀ :=
  Inv.via (execModeCommit_frame who n v s (hs₀ := List.Subset.refl _) (e₀ := e₀) (h₀ := Frame.refl _ _)) (by decide) h₀

theorem State.loadSafe_inv (s : State) (n : ℕ) (b : Bytes) (h₀ : Inv s) : Inv (State.loadSafe s n b) :=
  Inv.via (State.loadSafe_frame s n b (hs₀ := List.Subset.refl _) (h₀ := Frame.refl _ _)) (by decide) h₀

theorem State.audioResume_inv (s : State) (n : ℕ) (h₀ : Inv s) : Inv (State.audioResume s n) :=
  Inv.via (State.audioResume_frame s n (hs₀ := List.Subset.refl _) (h₀ := Frame.refl _ _)) (by decide) h₀

theorem State.hapticResume_inv (s : State) (n : ℕ) (h₀ : Inv s) : Inv (State.hapticResume s n) :=
  Inv.via (State.hapticResume_frame s n (hs₀ := List.Subset.refl _) (h₀ := Frame.refl _ _)) (by decide) h₀

theorem State.applyGate_inv (s : State) (n : ℕ) (v : ℕ) (h₀ : Inv s) : Inv (State.applyGate s n v) :=
  Inv.via (State.applyGate_frame s n v (hs₀ := List.Subset.refl _) (h₀ := Frame.refl _ _)) (by decide) h₀

theorem State.loseMemory_inv (s : State) (n : ℕ) (h₀ : Inv s) : Inv (State.loseMemory s n) := by
  unfold State.loseMemory
  repeat' first
    | with_reducible assumption
    | with_reducible apply State.loseCache_inv
    | with_reducible apply State.setCtl_inv
    | with_reducible apply State.eraseMem_inv
    | (conv => arg 1; arg 50); with_reducible refine Inv.set_poison ?_

theorem State.setMem_inv (s : State) (n : ℕ) (v : ℕ) (h₀ : Inv s) : Inv (State.setMem s n v) :=
  Inv.via (State.setMem_frame s n v (hs₀ := List.Subset.refl _) (h₀ := Frame.refl _ _)) (by decide) h₀

theorem State.releaseMemory_inv (s : State) (n : ℕ) (h₀ : Inv s) : Inv (State.releaseMemory s n) :=
  Inv.via (State.releaseMemory_frame s n (hs₀ := List.Subset.refl _) (h₀ := Frame.refl _ _)) (by decide) h₀

theorem State.exitSelfRefresh_inv (s : State) (n : ℕ) (h₀ : Inv s) : Inv (State.exitSelfRefresh s n) :=
  Inv.via (State.exitSelfRefresh_frame s n (hs₀ := List.Subset.refl _) (h₀ := Frame.refl _ _)) (by decide) h₀

theorem State.leaveRunning_inv (s : State) (n : ℕ) (rs : ℕ) (h₀ : Inv s) : Inv (State.leaveRunning s n rs) := by
  unfold State.leaveRunning
  repeat' first
    | with_reducible assumption
    | with_reducible apply State.stReady_inv
    | with_reducible apply State.energyOff_inv
    | with_reducible apply State.wr_inv
    | with_reducible apply State.hapticOff_inv
    | with_reducible apply State.rasterLeave_inv
    | with_reducible refine Inv.ite ?_ ?_

theorem State.leaveSleep_inv (s : State) (n : ℕ) (h₀ : Inv s) : Inv (State.leaveSleep s n) :=
  Inv.via (State.leaveSleep_frame s n (hs₀ := List.Subset.refl _) (h₀ := Frame.refl _ _)) (by decide) h₀

theorem State.stopMove_inv (s : State) (n : ℕ) (h₀ : Inv s) : Inv (State.stopMove s n) :=
  Inv.via (State.stopMove_frame s n (hs₀ := List.Subset.refl _) (h₀ := Frame.refl _ _)) (by decide) h₀

theorem State.enterFaulted_inv (s : State) (n : ℕ) (st : ℕ) (cause : ℕ) (h₀ : Inv s) : Inv (State.enterFaulted s n st cause) := by
  unfold State.enterFaulted
  repeat' first
    | with_reducible assumption
    | with_reducible apply State.setCompose_inv
    | with_reducible apply State.leaveRunning_inv
    | with_reducible apply State.wr_inv
    | with_reducible apply State.touchFault_inv
    | with_reducible apply State.setCtl_inv
    | with_reducible apply State.audioFault_inv
    | with_reducible apply State.setStation_inv
    | with_reducible apply State.leaveSleep_inv
    | with_reducible apply State.stopMove_inv

theorem State.enterFault_inv (s : State) (n : ℕ) (cause : ℕ) (h₀ : Inv s) : Inv (State.enterFault s n cause) := by
  unfold State.enterFault
  repeat' first
    | with_reducible assumption
    | with_reducible apply State.enterFaulted_inv
    | with_reducible refine Inv.ite ?_ ?_

theorem State.rangesLost_inv (s : State) (n : ℕ) (h₀ : Inv s) : Inv (State.rangesLost s n) :=
  Inv.via (State.rangesLost_frame s n (hs₀ := List.Subset.refl _) (h₀ := Frame.refl _ _)) (by decide) h₀

theorem State.memoryFault_inv (s : State) (n : ℕ) (stage : ℕ) (attempts : ℕ) (h₀ : Inv s) : Inv (State.memoryFault s n stage attempts) := by
  unfold State.memoryFault
  repeat' first
    | with_reducible assumption
    | with_reducible apply State.enterFaulted_inv
    | with_reducible apply State.loseMemory_inv
    | with_reducible apply State.wr_inv
    | with_reducible apply State.setStation_inv
    | with_reducible apply State.rangesLost_inv
    | with_reducible apply State.setMem_inv
    | with_reducible apply State.toStationLog_inv
    | with_reducible apply State.alarm_inv
    | with_reducible apply State.stopMove_inv
    | with_reducible apply State.setMmc_inv
    | with_reducible apply State.releaseMemory_inv
    | with_reducible refine Inv.ite ?_ ?_

theorem State.cvReset_inv (s : State) (u : ℕ) (h₀ : Inv s) : Inv (State.cvReset s u) :=
  Inv.via (State.cvReset_frame s u (hs₀ := List.Subset.refl _) (h₀ := Frame.refl _ _)) (by decide) h₀

theorem State.clearObjects_inv (s : State) (p : OKey → Bool) (h₀ : Inv s) : Inv (State.clearObjects s p) :=
  Inv.via (State.clearObjects_frame s p (hs₀ := List.Subset.refl _) (h₀ := Frame.refl _ _)) (by decide) h₀

theorem State.emptyIngress_inv (s : State) (n : ℕ) (h₀ : Inv s) : Inv (State.emptyIngress s n) :=
  Inv.via (State.emptyIngress_frame s n (hs₀ := List.Subset.refl _) (h₀ := Frame.refl _ _)) (by decide) h₀

theorem State.emptyStationQueues_inv (s : State) (n : ℕ) (h₀ : Inv s) : Inv (State.emptyStationQueues s n) :=
  Inv.via (State.emptyStationQueues_frame s n (hs₀ := List.Subset.refl _) (h₀ := Frame.refl _ _)) (by decide) h₀

theorem State.functionDefaults_inv (s : State) (n : ℕ) (h₀ : Inv s) : Inv (State.functionDefaults s n) :=
  Inv.via (State.functionDefaults_frame s n (hs₀ := List.Subset.refl _) (h₀ := Frame.refl _ _)) (by decide) h₀

theorem State.functionsReset_inv (s : State) (n : ℕ) (h₀ : Inv s) : Inv (State.functionsReset s n) := by
  unfold State.functionsReset
  repeat' first
    | with_reducible assumption
    | with_reducible apply State.functionDefaults_inv
    | with_reducible apply State.energyOff_inv
    | with_reducible apply State.hapticReset_inv
    | with_reducible apply State.syncSecure_inv
    | with_reducible apply State.setTch_inv
    | with_reducible apply State.emptyIngress_inv
    | with_reducible apply State.setGrd_inv
    | with_reducible apply State.rasterReset_inv
    | with_reducible apply State.wr_inv
    | with_reducible apply State.audioReset_inv
    | with_reducible apply State.setCtl_inv
    | with_reducible apply State.setCmp_inv
    | with_reducible apply State.outputOff_inv
    | with_reducible apply State.emptyStationQueues_inv
    | with_reducible apply State.cvReset_inv
    | with_reducible apply State.setDsp_inv
    | with_reducible apply State.rasterLeave_inv
    | with_reducible apply State.touchOff_inv
    | with_reducible apply State.pinsReset_inv
    | with_reducible refine Inv.ite ?_ ?_

theorem State.enterStarting_inv (s : State) (n : ℕ) (h₀ : Inv s) : Inv (State.enterStarting s n) :=
  Inv.via (State.enterStarting_frame s n (hs₀ := List.Subset.refl _) (h₀ := Frame.refl _ _)) (by decide) h₀

theorem State.closingBrake_inv (s : State) (n : ℕ) (h : Haptic) (h₀ : Inv s) : Inv (State.closingBrake s n h) :=
  Inv.via (State.closingBrake_frame s n h (hs₀ := List.Subset.refl _) (h₀ := Frame.refl _ _)) (by decide) h₀

theorem State.stationOff_inv (s : State) (n : ℕ) (h₀ : Inv s) : Inv (State.stationOff s n) := by
  unfold State.stationOff
  repeat' first
    | with_reducible assumption
    | with_reducible apply State.setHap_inv
    | with_reducible apply State.closingBrake_inv
    | with_reducible apply State.applyMode_inv
    | with_reducible apply State.loadSafe_inv
    | with_reducible apply State.leaveRunning_inv
    | with_reducible apply State.loseMemory_inv
    | with_reducible apply State.drive_inv
    | with_reducible apply State.wr_inv
    | with_reducible apply State.setCtl_inv
    | with_reducible apply State.setStation_inv
    | with_reducible apply State.setMem_inv
    | with_reducible apply State.functionsReset_inv
    | with_reducible apply State.setDsp_inv
    | with_reducible apply State.wakePin_inv
    | with_reducible apply State.closingAudio_inv
    | with_reducible apply State.audioStop_inv
    | with_reducible apply State.setMmc_inv
    | with_reducible refine Inv.ite ?_ ?_
    | with_reducible refine Inv.each (fun _ _ _ => ?_) ?_

theorem State.startFromOff_inv (s : State) (n : ℕ) (h₀ : Inv s) : Inv (State.startFromOff s n) :=
  Inv.via (State.startFromOff_frame s n (hs₀ := List.Subset.refl _) (h₀ := Frame.refl _ _)) (by decide) h₀

theorem State.tellLost_inv (s : State) (n : ℕ) (h₀ : Inv s) : Inv (State.tellLost s n) :=
  Inv.via (State.tellLost_frame s n (hs₀ := List.Subset.refl _) (h₀ := Frame.refl _ _)) (by decide) h₀

theorem State.enterRunning_inv (s : State) (n : ℕ) (h₀ : Inv s) : Inv (State.enterRunning s n) := by
  unfold State.enterRunning
  repeat' first
    | with_reducible assumption
    | with_reducible apply State.stReady_inv
    | with_reducible apply State.tellLost_inv
    | with_reducible apply State.audioResume_inv
    | with_reducible apply State.wr_inv
    | with_reducible apply State.setCtl_inv
    | with_reducible apply State.setCmp_inv
    | with_reducible apply State.energyOn_inv
    | with_reducible apply State.setStation_inv
    | with_reducible apply State.hapticResume_inv
    | with_reducible apply State.leaveSleep_inv
    | with_reducible apply State.touchReturn_inv
    | with_reducible refine Inv.ite ?_ ?_

theorem State.enterSleepWith_inv (s : State) (n : ℕ) (selfRefresh : State → State) (hselfRefresh : ∀ x0, Inv x0 → Inv (selfRefresh x0)) (h₀ : Inv s) : Inv (State.enterSleepWith s n selfRefresh) := by
  unfold State.enterSleepWith
  repeat' first
    | with_reducible assumption
    | with_reducible apply State.touchSleep_inv
    | with_reducible apply State.setCompose_inv
    | with_reducible apply State.leaveRunning_inv
    | with_reducible apply State.setStation_inv
    | with_reducible apply State.outputSleep_inv
    | with_reducible apply State.audioStop_inv
    | with_reducible apply State.stopMove_inv
    | with_reducible apply hselfRefresh
    | with_reducible refine Inv.ite ?_ ?_

theorem State.applyTarget_inv (s : State) (n : ℕ) (v : ℕ) (h₀ : Inv s) : Inv (State.applyTarget s n v) := by
  unfold State.applyTarget
  repeat' first
    | with_reducible assumption
    | with_reducible apply State.startFromOff_inv
    | with_reducible apply State.stationOff_inv
    | with_reducible apply State.wr_inv
    | with_reducible apply State.setCtl_inv
    | with_reducible apply State.exitSelfRefresh_inv
    | with_reducible refine Inv.ite ?_ ?_

theorem State.writeTarget_inv (s : State) (n : ℕ) (v : ℕ) (h₀ : Inv s) : Inv (State.writeTarget s n v) := by
  unfold State.writeTarget
  repeat' first
    | with_reducible assumption
    | with_reducible apply State.answer_inv
    | with_reducible apply State.wr_inv
    | with_reducible apply State.applyTarget_inv
    | with_reducible refine Inv.ite ?_ ?_

theorem State.writeGate_inv (s : State) (n : ℕ) (v : ℕ) (h₀ : Inv s) : Inv (State.writeGate s n v) :=
  Inv.via (State.writeGate_frame s n v (hs₀ := List.Subset.refl _) (h₀ := Frame.refl _ _)) (by decide) h₀

theorem State.applyHeld_inv (s : State) (n : ℕ) (h₀ : Inv s) : Inv (State.applyHeld s n) := by
  unfold State.applyHeld
  repeat' first
    | with_reducible assumption
    | with_reducible apply State.applyTarget_inv
    | with_reducible apply State.applyGate_inv
    | with_reducible refine Inv.ite ?_ ?_

theorem execStationTargetOff_inv {t₀ : State} (who : Requester) (n : Fin 8) (s : State) (e₀ : execStationTargetOff who n s = .next t₀) (h₀ : Inv s) : Inv t₀ := by
  unfold execStationTargetOff at e₀
  cases e₀
  repeat' first
    | with_reducible assumption
    | with_reducible apply State.onWrite_inv
    | with_reducible apply State.writeTarget_inv
    | with_reducible intro _

theorem execStationTargetRunning_inv {t₀ : State} (who : Requester) (n : Fin 8) (s : State) (e₀ : execStationTargetRunning who n s = .next t₀) (h₀ : Inv s) : Inv t₀ := by
  unfold execStationTargetRunning at e₀
  cases e₀
  repeat' first
    | with_reducible assumption
    | with_reducible apply State.onWrite_inv
    | with_reducible apply State.writeTarget_inv
    | with_reducible intro _

theorem execStationTargetSleep_inv {t₀ : State} (who : Requester) (n : Fin 8) (s : State) (e₀ : execStationTargetSleep who n s = .next t₀) (h₀ : Inv s) : Inv t₀ := by
  unfold execStationTargetSleep at e₀
  cases e₀
  repeat' first
    | with_reducible assumption
    | with_reducible apply State.onWrite_inv
    | with_reducible apply State.writeTarget_inv
    | with_reducible intro _

theorem execEdgeLinkLost_inv {t₀ : State} (n : Fin 8) (s : State) (e₀ : execEdgeLinkLost n s = .next t₀) (h₀ : Inv s) : Inv t₀ := by
  unfold execEdgeLinkLost at e₀
  cases e₀
  repeat' first
    | with_reducible assumption
    | with_reducible apply State.enterFault_inv

theorem State.memoryPllLost_inv (s : State) (n : ℕ) (h₀ : Inv s) : Inv (State.memoryPllLost s n) :=
  Inv.via (State.memoryPllLost_frame s n (hs₀ := List.Subset.refl _) (h₀ := Frame.refl _ _)) (by decide) h₀

theorem execPllLockLost_inv {t₀ : State} (n : Fin 8) (k : Fin 8) (s : State) (e₀ : execPllLockLost n k s = .next t₀) (h₀ : Inv s) : Inv t₀ := by
  unfold execPllLockLost at e₀
  cases e₀
  repeat' first
    | with_reducible assumption
    | with_reducible apply State.enterFault_inv
    | with_reducible apply State.wr_inv
    | with_reducible apply State.stopTiming_inv
    | with_reducible apply State.memoryPllLost_inv
    | with_reducible apply State.setDsp_inv
    | with_reducible apply State.count_inv
    | with_reducible apply State.emit_inv
    | with_reducible refine Inv.ite ?_ ?_

theorem State.escalate_inv (s : State) (n : ℕ) (g : ℕ) (h₀ : Inv s) : Inv (State.escalate s n g) := by
  unfold State.escalate
  repeat' first
    | with_reducible assumption
    | with_reducible apply State.enterFault_inv
    | with_reducible apply State.alarm_inv
    | with_reducible refine Inv.ite ?_ ?_

theorem State.countRetrain_inv (s : State) (n : ℕ) (attempts : ℕ) (stall : ℕ) (h₀ : Inv s) : Inv (State.countRetrain s n attempts stall) :=
  Inv.via (State.countRetrain_frame s n attempts stall (hs₀ := List.Subset.refl _) (h₀ := Frame.refl _ _)) (by decide) h₀

theorem State.afterSelfRefresh_inv (s : State) (n : ℕ) (h₀ : Inv s) : Inv (State.afterSelfRefresh s n) := by
  unfold State.afterSelfRefresh
  repeat' first
    | with_reducible assumption
    | with_reducible apply State.setMem_inv
    | with_reducible apply State.setMmc_inv
    | (conv => arg 1; arg 50); with_reducible refine Inv.set_lostCells ?_
    | (conv => arg 1; arg 50); exact memFilter_wf _ (by assumption)
    | with_reducible refine Inv.ite ?_ ?_

theorem execRetrainAttemptDone_inv {t₀ : State} (n : Fin 8) (ok : Bool) (s : State) (e₀ : execRetrainAttemptDone n ok s = .next t₀) (h₀ : Inv s) : Inv t₀ := by
  unfold execRetrainAttemptDone at e₀
  cases e₀
  repeat' first
    | with_reducible assumption
    | with_reducible apply State.afterSelfRefresh_inv
    | with_reducible apply State.countRetrain_inv
    | with_reducible apply State.memoryFault_inv
    | with_reducible apply State.setMmc_inv
    | with_reducible refine Inv.ite ?_ ?_
    | dsimp only
    | split

theorem execMemTrainingAttemptDone_inv {t₀ : State} (n : Fin 8) (ok : Bool) (capacity : ℕ) (rate : ℕ) (temp : ℤ) (s : State) (e₀ : execMemTrainingAttemptDone n ok capacity rate temp s = .next t₀) (h₀ : Inv s) : Inv t₀ := by
  unfold execMemTrainingAttemptDone at e₀
  cases e₀
  repeat' first
    | with_reducible assumption
    | with_reducible apply State.memoryFault_inv
    | with_reducible apply State.wr_inv
    | with_reducible apply State.setMem_inv
    | with_reducible apply State.setMmc_inv
    | (conv => arg 1; arg 50); with_reducible refine Inv.set_lostCells ?_
    | with_reducible refine Inv.ite ?_ ?_
    | dsimp only
    | split

theorem State.correctedError_inv (s : State) (n : ℕ) (addr : ℕ) (cls : ℕ) (h₀ : Inv s) : Inv (State.correctedError s n addr cls) :=
  Inv.via (State.correctedError_frame s n addr cls (hs₀ := List.Subset.refl _) (h₀ := Frame.refl _ _)) (by decide) h₀

theorem State.countUncorrectable_inv (s : State) (n : ℕ) (addr : ℕ) (kind : ℕ) (who : ℕ × ℕ × ℕ) (h₀ : Inv s) : Inv (State.countUncorrectable s n addr kind who) :=
  Inv.via (State.countUncorrectable_frame s n addr kind who (hs₀ := List.Subset.refl _) (h₀ := Frame.refl _ _)) (by decide) h₀

theorem State.captureError_inv (s : State) (n : ℕ) (addr : ℕ) (kind : ℕ) (who : ℕ × ℕ × ℕ) (h₀ : Inv s) : Inv (State.captureError s n addr kind who) :=
  Inv.via (State.captureError_frame s n addr kind who (hs₀ := List.Subset.refl _) (h₀ := Frame.refl _ _)) (by decide) h₀

theorem State.markPoison_inv (s : State) (word : ℕ) (h₀ : Inv s) : Inv (State.markPoison s word) := by
  unfold State.markPoison
  repeat' first
    | with_reducible assumption
    | (conv => arg 1; arg 50); with_reducible refine Inv.set_poison ?_
    | with_reducible refine Inv.ite ?_ ?_

theorem State.poisonedReader_inv (s : State) (n : ℕ) (r : MemReader) (h₀ : Inv s) : Inv (State.poisonedReader s n r) := by
  unfold State.poisonedReader
  repeat' first
    | with_reducible assumption
    | with_reducible apply State.settle_inv
    | with_reducible apply State.endJob_inv
    | with_reducible refine Inv.ite ?_ ?_
    | split

theorem State.uncorrectable_inv (s : State) (n : ℕ) (addr : ℕ) (kind : ℕ) (r : MemReader) (h₀ : Inv s) : Inv (State.uncorrectable s n addr kind r) := by
  unfold State.uncorrectable
  repeat' first
    | with_reducible assumption
    | with_reducible apply State.enterFault_inv
    | with_reducible apply State.countUncorrectable_inv
    | with_reducible apply State.markPoison_inv
    | with_reducible apply State.poisonedReader_inv
    | with_reducible apply State.setMem_inv
    | with_reducible apply State.captureError_inv
    | with_reducible apply State.setMmc_inv
    | with_reducible refine Inv.ite ?_ ?_

theorem execMemRead_inv {t₀ : State} (n : Fin 8) (addr : ℕ) (r : MemReader) (err : Fin 3) (s : State) (e₀ : execMemRead n addr r err s = .next t₀) (h₀ : Inv s) : Inv t₀ := by
  unfold execMemRead at e₀
  cases e₀
  repeat' first
    | with_reducible assumption
    | with_reducible apply State.countUncorrectable_inv
    | with_reducible apply State.correctedError_inv
    | with_reducible apply State.uncorrectable_inv
    | with_reducible apply State.setMmc_inv
    | with_reducible refine Inv.ite ?_ ?_

theorem State.memoryStationReset_inv (s : State) (n : ℕ) (h₀ : Inv s) : Inv (State.memoryStationReset s n) := by
  unfold State.memoryStationReset
  repeat' first
    | with_reducible assumption
    | with_reducible apply State.markPoison_inv
    | with_reducible apply State.setMem_inv
    | with_reducible apply State.exitSelfRefresh_inv
    | with_reducible apply State.setMmc_inv
    | dsimp only
    | split

theorem State.enterSelfRefresh_inv (s : State) (n : ℕ) (h₀ : Inv s) : Inv (State.enterSelfRefresh s n) :=
  Inv.via (State.enterSelfRefresh_frame s n (hs₀ := List.Subset.refl _) (h₀ := Frame.refl _ _)) (by decide) h₀

theorem State.enterSleep_inv (s : State) (n : ℕ) (h₀ : Inv s) : Inv (State.enterSleep s n) := by
  unfold State.enterSleep
  repeat' first
    | with_reducible assumption
    | with_reducible apply State.enterSelfRefresh_inv
    | with_reducible apply State.enterSleepWith_inv
    | with_reducible intro _

theorem execSleepEntryDone_inv {t₀ : State} (n : Fin 8) (s : State) (e₀ : execSleepEntryDone n s = .next t₀) (h₀ : Inv s) : Inv t₀ := by
  unfold execSleepEntryDone at e₀
  cases e₀
  repeat' first
    | with_reducible assumption
    | with_reducible apply State.setCtl_inv
    | with_reducible apply State.exitSelfRefresh_inv
    | with_reducible apply State.enterSleep_inv
    | with_reducible refine Inv.ite ?_ ?_

theorem execWakeDone_inv {t₀ : State} (n : Fin 8) (s : State) (e₀ : execWakeDone n s = .next t₀) (h₀ : Inv s) : Inv t₀ := by
  unfold execWakeDone at e₀
  cases e₀
  repeat' first
    | with_reducible assumption
    | with_reducible apply State.setCtl_inv
    | with_reducible apply State.enterRunning_inv
    | with_reducible refine Inv.ite ?_ ?_

theorem execStationStartupDone_inv {t₀ : State} (n : Fin 8) (imageOk : Bool) (s : State) (e₀ : execStationStartupDone n imageOk s = .next t₀) (h₀ : Inv s) : Inv t₀ := by
  unfold execStationStartupDone at e₀
  cases e₀
  repeat' first
    | with_reducible assumption
    | with_reducible apply State.stReady_inv
    | with_reducible apply State.setCtl_inv
    | with_reducible apply State.enterRunning_inv
    | with_reducible apply State.enterSleep_inv
    | with_reducible refine Inv.ite ?_ ?_

theorem State.setSecState_inv (s : State) (v : ℕ) (h₀ : Inv s) : Inv (State.setSecState s v) :=
  Inv.via (State.setSecState_frame s v (hs₀ := List.Subset.refl _) (h₀ := Frame.refl _ _)) (by decide) h₀

theorem State.setEnclave_inv (s : State) (e : ℕ) (v : ℕ) (h₀ : Inv s) : Inv (State.setEnclave s e v) :=
  Inv.via (State.setEnclave_frame s e v (hs₀ := List.Subset.refl _) (h₀ := Frame.refl _ _)) (by decide) h₀

theorem State.setEcl_inv (s : State) (e : ℕ) (v : EnclaveCtl) (h₀ : Inv s) : Inv (State.setEcl s e v) :=
  Inv.via (State.setEcl_frame s e v (hs₀ := List.Subset.refl _) (h₀ := Frame.refl _ _)) (by decide) h₀

theorem State.scrubRanges_inv (s : State) (ranges : List ℕ) (h₀ : Inv s) : Inv (State.scrubRanges s ranges) := by
  unfold State.scrubRanges
  repeat' first
    | with_reducible assumption
    | with_reducible apply State.zeroMem_inv
    | with_reducible refine Inv.ite ?_ ?_
    | with_reducible refine Inv.each (fun _ _ _ => ?_) ?_

theorem State.onEnclave_inv (s : State) (who : Requester) (e : ℕ) (v : ℕ) (f : State → State) (hf : ∀ x0, Inv x0 → Inv (f x0)) (h₀ : Inv s) : Inv (State.onEnclave s who e v f) := by
  unfold State.onEnclave
  repeat' first
    | with_reducible assumption
    | with_reducible apply State.onWrite_inv
    | with_reducible apply State.guarded_inv
    | with_reducible intro _

theorem execEnclaveCreate_inv {t₀ : State} (who : Requester) (e : Fin 64) (s : State) (e₀ : execEnclaveCreate who e s = .next t₀) (h₀ : Inv s) : Inv t₀ :=
  Inv.via (execEnclaveCreate_frame who e s (hs₀ := List.Subset.refl _) (e₀ := e₀) (h₀ := Frame.refl _ _)) (by decide) h₀

theorem execEnclaveStart_inv {t₀ : State} (who : Requester) (e : Fin 64) (s : State) (e₀ : execEnclaveStart who e s = .next t₀) (h₀ : Inv s) : Inv t₀ :=
  Inv.via (execEnclaveStart_frame who e s (hs₀ := List.Subset.refl _) (e₀ := e₀) (h₀ := Frame.refl _ _)) (by decide) h₀

theorem execEnclaveStop_inv {t₀ : State} (who : Requester) (e : Fin 64) (s : State) (e₀ : execEnclaveStop who e s = .next t₀) (h₀ : Inv s) : Inv t₀ :=
  Inv.via (execEnclaveStop_frame who e s (hs₀ := List.Subset.refl _) (e₀ := e₀) (h₀ := Frame.refl _ _)) (by decide) h₀

theorem State.setLock_inv (s : State) (b : Block) (l : Lock) (h₀ : Inv s) : Inv (State.setLock s b l) :=
  Inv.via (State.setLock_frame s b l (hs₀ := List.Subset.refl _) (h₀ := Frame.refl _ _)) (by decide) h₀

theorem State.returnBlock_inv (s : State) (b : Block) (h₀ : Inv s) : Inv (State.returnBlock s b) :=
  Inv.via (State.returnBlock_frame s b (hs₀ := List.Subset.refl _) (h₀ := Frame.refl _ _)) (by decide) h₀

theorem State.destroyEnclave_inv (s : State) (e : ℕ) (h₀ : Inv s) : Inv (State.destroyEnclave s e) :=
  Inv.via (State.destroyEnclave_frame s e (hs₀ := List.Subset.refl _) (h₀ := Frame.refl _ _)) (by decide) h₀

theorem execEnclaveCommandDestroy_inv {t₀ : State} (who : Requester) (e : Fin 64) (s : State) (e₀ : execEnclaveCommandDestroy who e s = .next t₀) (h₀ : Inv s) : Inv t₀ :=
  Inv.via (execEnclaveCommandDestroy_frame who e s (hs₀ := List.Subset.refl _) (e₀ := e₀) (h₀ := Frame.refl _ _)) (by decide) h₀

theorem execEnclaveDestroy_inv {t₀ : State} (who : Requester) (e : Fin 64) (v : Bool) (s : State) (e₀ : execEnclaveDestroy who e v s = .next t₀) (h₀ : Inv s) : Inv t₀ :=
  Inv.via (execEnclaveDestroy_frame who e v s (hs₀ := List.Subset.refl _) (e₀ := e₀) (h₀ := Frame.refl _ _)) (by decide) h₀

theorem State.tellEnclaveLost_inv (s : State) (e : ℕ) (t : ℕ) (h₀ : Inv s) : Inv (State.tellEnclaveLost s e t) :=
  Inv.via (State.tellEnclaveLost_frame s e t (hs₀ := List.Subset.refl _) (h₀ := Frame.refl _ _)) (by decide) h₀

theorem State.forgetEnclave_inv (s : State) (e : ℕ) (h₀ : Inv s) : Inv (State.forgetEnclave s e) :=
  Inv.via (State.forgetEnclave_frame s e (hs₀ := List.Subset.refl _) (h₀ := Frame.refl _ _)) (by decide) h₀

theorem State.openSystem_inv (s : State) (h₀ : Inv s) : Inv (State.openSystem s) :=
  Inv.via (State.openSystem_frame s (hs₀ := List.Subset.refl _) (h₀ := Frame.refl _ _)) (by decide) h₀

theorem execEnclaveLoadDone_inv {t₀ : State} (e : Fin 64) (key : Bytes) (s : State) (e₀ : execEnclaveLoadDone e key s = .next t₀) (h₀ : Inv s) : Inv t₀ := by
  unfold execEnclaveLoadDone at e₀
  cases e₀
  repeat' first
    | with_reducible assumption
    | with_reducible apply State.zeroMem_inv
    | with_reducible apply State.setEnclave_inv
    | with_reducible apply State.store_inv
    | with_reducible apply State.wr_inv
    | with_reducible apply State.finish_inv
    | with_reducible apply State.drawBytes_inv
    | with_reducible apply State.wrBlob_inv
    | with_reducible apply State.setEcl_inv
    | with_reducible apply State.destroyEnclave_inv
    | with_reducible apply State.openSystem_inv
    | (conv => arg 1; arg 50); with_reducible refine Inv.set_encKey ?_
    | with_reducible refine Inv.ite ?_ ?_

theorem execEnclaveDestroyDone_inv {t₀ : State} (e : Fin 64) (s : State) (e₀ : execEnclaveDestroyDone e s = .next t₀) (h₀ : Inv s) : Inv t₀ := by
  unfold execEnclaveDestroyDone at e₀
  cases e₀
  repeat' first
    | with_reducible assumption
    | with_reducible apply State.scrubRanges_inv
    | with_reducible apply State.forgetEnclave_inv
    | with_reducible apply State.openSystem_inv
    | with_reducible apply State.tellEnclaveLost_inv
    | with_reducible refine Inv.ite ?_ ?_

theorem execInbox_inv {t₀ : State} (who : Requester) (e : Fin 64) (data : Bytes) (s : State) (e₀ : execInbox who e data s = .next t₀) (h₀ : Inv s) : Inv t₀ :=
  Inv.via (execInbox_frame who e data s (hs₀ := List.Subset.refl _) (e₀ := e₀) (h₀ := Frame.refl _ _)) (by decide) h₀

theorem State.onCall_inv (s : State) (e : ℕ) (f : State → State) (hf : ∀ x0, Inv x0 → Inv (f x0)) (h₀ : Inv s) : Inv (State.onCall s e f) := by
  unfold State.onCall
  repeat' first
    | with_reducible assumption
    | with_reducible apply hf
    | with_reducible refine Inv.ite ?_ ?_

theorem State.reply_inv (s : State) (e : ℕ) (r : CallResult) (h₀ : Inv s) : Inv (State.reply s e r) :=
  Inv.via (State.reply_frame s e r (hs₀ := List.Subset.refl _) (h₀ := Frame.refl _ _)) (by decide) h₀

theorem execLockReady_inv {t₀ : State} (n : Fin 8) (kind : BlockKind) (k : ℕ) (s : State) (e₀ : execLockReady n kind k s = .next t₀) (h₀ : Inv s) : Inv t₀ := by
  unfold execLockReady at e₀
  cases e₀
  repeat' first
    | with_reducible assumption
    | with_reducible apply State.applyHeld_inv
    | with_reducible apply State.toHolder_inv
    | with_reducible apply State.touchZoneReady_inv
    | with_reducible apply State.setLock_inv
    | with_reducible refine Inv.ite ?_ ?_

theorem State.secureDown_inv (s : State) (h₀ : Inv s) : Inv (State.secureDown s) :=
  Inv.via (State.secureDown_frame s (hs₀ := List.Subset.refl _) (h₀ := Frame.refl _ _)) (by decide) h₀

theorem State.secRestart_inv (s : State) (h₀ : Inv s) : Inv (State.secRestart s) :=
  Inv.via (State.secRestart_frame s (hs₀ := List.Subset.refl _) (h₀ := Frame.refl _ _)) (by decide) h₀

theorem execSecScrubDone_inv {t₀ : State} (s : State) (e₀ : execSecScrubDone s = .next t₀) (h₀ : Inv s) : Inv t₀ := by
  unfold execSecScrubDone at e₀
  cases e₀
  repeat' first
    | with_reducible assumption
    | with_reducible apply State.zeroMem_inv
    | with_reducible apply State.scrubRanges_inv
    | with_reducible apply State.setSecState_inv
    | with_reducible apply State.tellEnclaveLost_inv
    | with_reducible apply State.returnBlock_inv
    | (conv => arg 1; arg 50); with_reducible refine Inv.set_rst ?_
    | (conv => arg 1; arg 50); with_reducible refine Inv.set_sec ?_
    | with_reducible refine Inv.ite ?_ ?_
    | with_reducible refine Inv.each (fun _ _ _ => ?_) ?_

theorem execAttestChallenge_inv {t₀ : State} (who : Requester) (nonce : Bytes) (s : State) (e₀ : execAttestChallenge who nonce s = .next t₀) (h₀ : Inv s) : Inv t₀ :=
  Inv.via (execAttestChallenge_frame who nonce s (hs₀ := List.Subset.refl _) (e₀ := e₀) (h₀ := Frame.refl _ _)) (by decide) h₀

theorem State.syncSlice_inv (s : State) (t : ℕ) (h₀ : Inv s) : Inv (State.syncSlice s t) :=
  Inv.via (State.syncSlice_frame s t (hs₀ := List.Subset.refl _) (h₀ := Frame.refl _ _)) (by decide) h₀

theorem State.sliceActions_inv (s : State) (t : ℕ) (n : ℕ) (h₀ : Inv s) : Inv (State.sliceActions s t n) := by
  unfold State.sliceActions
  repeat' first
    | with_reducible assumption
    | with_reducible apply State.rasterSlice_inv
    | with_reducible apply State.hapticRevoke_inv
    | with_reducible apply State.discardSet_inv
    | with_reducible apply State.audioRevoke_inv
    | with_reducible apply State.touchRevoke_inv
    | (conv => arg 1; arg 50); with_reducible refine Inv.set_ingress ?_
    | with_reducible refine Inv.ite ?_ ?_
    | with_reducible refine Inv.each (fun _ _ _ => ?_) ?_

theorem State.sliceDue_inv (s : State) (n : ℕ) (h₀ : Inv s) : Inv (State.sliceDue s n) := by
  unfold State.sliceDue
  repeat' first
    | with_reducible assumption
    | with_reducible apply State.sliceActions_inv
    | with_reducible apply State.setSlc_inv
    | with_reducible refine Inv.ite ?_ ?_
    | with_reducible refine Inv.each (fun _ _ _ => ?_) ?_

theorem State.sliceReset_inv (s : State) (t : ℕ) (unbind : Bool) (h₀ : Inv s) : Inv (State.sliceReset s t unbind) := by
  unfold State.sliceReset
  repeat' first
    | with_reducible assumption
    | with_reducible apply State.sliceActions_inv
    | with_reducible apply State.countTenantItems_inv
    | with_reducible apply State.setSlc_inv
    | with_reducible apply State.cvTransfersLost_inv
    | with_reducible apply State.syncSlice_inv
    | (conv => arg 1; arg 50); with_reducible refine Inv.set_touchQ ?_
    | with_reducible refine Inv.ite ?_ ?_
    | with_reducible refine Inv.each (fun _ _ _ => ?_) ?_
    | dsimp only

theorem State.bind_inv (s : State) (t : ℕ) (w : BindWrite) (authorised : Bool) (h₀ : Inv s) : Inv (State.bind s t w authorised).1 :=
  Inv.via (State.bind_frame s t w authorised (hs₀ := List.Subset.refl _) (h₀ := Frame.refl _ _)) (by decide) h₀

theorem State.bind_invOut (s : State) (t : ℕ) (w : BindWrite) (authorised : Bool) {y₀ z₀} (e₀ : State.bind s t w authorised = (z₀, y₀)) (h₀ : Inv s) : Inv z₀ := by
  have x₀ := State.bind_inv s t w authorised h₀; rw [e₀] at x₀; exact x₀

theorem State.portSlices_inv (s : State) (p : ℕ) (h₀ : Inv s) : Inv (State.portSlices s p) := by
  unfold State.portSlices
  repeat' first
    | with_reducible assumption
    | with_reducible apply State.sliceReset_inv
    | with_reducible apply State.setPrt_inv
    | with_reducible apply State.setSlc_inv
    | with_reducible apply State.syncSlice_inv
    | with_reducible refine Inv.each (fun _ _ _ => ?_) ?_

theorem execQuarantineRelease_inv {t₀ : State} (who : Requester) (t : Fin 512) (v : ℕ) (s : State) (e₀ : execQuarantineRelease who t v s = .next t₀) (h₀ : Inv s) : Inv t₀ :=
  Inv.via (execQuarantineRelease_frame who t v s (hs₀ := List.Subset.refl _) (e₀ := e₀) (h₀ := Frame.refl _ _)) (by decide) h₀

theorem execRightsWrite_inv {t₀ : State} (who : Requester) (t : Fin 512) (n : Fin 8) (which : Fin 5) (v : ℕ) (s : State) (e₀ : execRightsWrite who t n which v s = .next t₀) (h₀ : Inv s) : Inv t₀ :=
  Inv.via (execRightsWrite_frame who t n which v s (hs₀ := List.Subset.refl _) (e₀ := e₀) (h₀ := Frame.refl _ _)) (by decide) h₀

theorem execWindowWrite_inv {t₀ : State} (who : Requester) (t : Fin 512) (n : Fin 8) (w : Fin 16) (v : ℕ) (s : State) (e₀ : execWindowWrite who t n w v s = .next t₀) (h₀ : Inv s) : Inv t₀ :=
  Inv.via (execWindowWrite_frame who t n w v s (hs₀ := List.Subset.refl _) (e₀ := e₀) (h₀ := Frame.refl _ _)) (by decide) h₀

theorem State.setUpd_inv (s : State) (v : Update) (h₀ : Inv s) : Inv (State.setUpd s v) :=
  Inv.via (State.setUpd_frame s v (hs₀ := List.Subset.refl _) (h₀ := Frame.refl _ _)) (by decide) h₀

theorem State.syncStep_inv (s : State) (h₀ : Inv s) : Inv (State.syncStep s) :=
  Inv.via (State.syncStep_frame s (hs₀ := List.Subset.refl _) (h₀ := Frame.refl _ _)) (by decide) h₀

theorem State.failUpdate_inv (s : State) (code : ℕ) (h₀ : Inv s) : Inv (State.failUpdate s code) :=
  Inv.via (State.failUpdate_frame s code (hs₀ := List.Subset.refl _) (h₀ := Frame.refl _ _)) (by decide) h₀

theorem State.updateWide_inv (s : State) (h₀ : Inv s) : Inv (State.updateWide s) :=
  Inv.via (State.updateWide_frame s (hs₀ := List.Subset.refl _) (h₀ := Frame.refl _ _)) (by decide) h₀

theorem State.hwClear_inv (s : State) (bs : List ℕ) (h₀ : Inv s) : Inv (State.hwClear s bs) :=
  Inv.via (State.hwClear_frame s bs (hs₀ := List.Subset.refl _) (h₀ := Frame.refl _ _)) (by decide) h₀

theorem State.syncRole_inv (s : State) (h₀ : Inv s) : Inv (State.syncRole s) :=
  Inv.via (State.syncRole_frame s (hs₀ := List.Subset.refl _) (h₀ := Frame.refl _ _)) (by decide) h₀

theorem State.mgmtDown_inv (s : State) (h₀ : Inv s) : Inv (State.mgmtDown s) :=
  Inv.via (State.mgmtDown_frame s (hs₀ := List.Subset.refl _) (h₀ := Frame.refl _ _)) (by decide) h₀

theorem State.portDown_inv (s : State) (p : ℕ) (h₀ : Inv s) : Inv (State.portDown s p) := by
  unfold State.portDown
  repeat' first
    | with_reducible assumption
    | with_reducible apply State.dropCrossings_inv
    | with_reducible apply State.wr_inv
    | with_reducible apply State.setPrt_inv
    | with_reducible apply State.hwReady_inv
    | with_reducible apply State.portSlices_inv

theorem State.coreDown_inv (s : State) (n : ℕ) (h₀ : Inv s) : Inv (State.coreDown s n) :=
  Inv.via (State.coreDown_frame s n (hs₀ := List.Subset.refl _) (h₀ := Frame.refl _ _)) (by decide) h₀

theorem State.stationDown_inv (s : State) (n : ℕ) (reinit : Bool) (h₀ : Inv s) : Inv (State.stationDown s n reinit) := by
  unfold State.stationDown
  repeat' first
    | with_reducible assumption
    | with_reducible apply State.functionDefaults_inv
    | with_reducible apply State.hapticReset_inv
    | with_reducible apply State.loseMemory_inv
    | with_reducible apply State.coreDown_inv
    | with_reducible apply State.audioReset_inv
    | with_reducible apply State.enterStarting_inv
    | with_reducible apply State.setMem_inv
    | with_reducible apply State.functionsReset_inv
    | with_reducible apply State.memoryStationReset_inv
    | with_reducible apply State.setMmc_inv
    | with_reducible apply State.releaseMemory_inv
    | with_reducible refine Inv.ite ?_ ?_

theorem State.tellBlocksReset_inv (s : State) (n : ℕ) (h₀ : Inv s) : Inv (State.tellBlocksReset s n) :=
  Inv.via (State.tellBlocksReset_frame s n (hs₀ := List.Subset.refl _) (h₀ := Frame.refl _ _)) (by decide) h₀

theorem State.stationWarm_inv (s : State) (n : ℕ) (h₀ : Inv s) : Inv (State.stationWarm s n) := by
  unfold State.stationWarm
  repeat' first
    | with_reducible assumption
    | with_reducible apply State.loseMemory_inv
    | with_reducible apply State.coreDown_inv
    | with_reducible apply State.enterStarting_inv
    | with_reducible apply State.stationDown_inv
    | with_reducible apply State.functionsReset_inv
    | with_reducible apply State.releaseMemory_inv
    | with_reducible refine Inv.ite ?_ ?_

theorem State.warmDown_inv (s : State) (h₀ : Inv s) : Inv (State.warmDown s) := by
  unfold State.warmDown
  repeat' first
    | with_reducible assumption
    | with_reducible apply State.syncSecure_inv
    | with_reducible apply State.updateWide_inv
    | with_reducible apply State.stationWarm_inv
    | with_reducible apply State.portDown_inv
    | with_reducible apply State.secureDown_inv
    | with_reducible apply State.mgmtDown_inv
    | with_reducible apply State.wr_inv
    | with_reducible apply State.clearObjects_inv
    | with_reducible apply State.syncZones_inv
    | with_reducible apply State.hwClear_inv
    | (conv => arg 1; arg 50); with_reducible refine Inv.set_rst ?_
    | (conv => arg 1; arg 50); with_reducible refine Inv.set_settings_translator_slices_ports_touchQ_noteQ ?_
    | (conv => arg 1; arg 50); with_reducible refine Inv.set_locks_encKey_sec_encTouchQ_encNoteQ ?_
    | with_reducible refine Inv.each (fun _ _ _ => ?_) ?_

theorem State.coldDown_inv (s : State) (h₀ : Inv s) : Inv (State.coldDown s) := by
  unfold State.coldDown
  apply State.wr_inv
  apply State.wr_inv
  apply State.wr_inv
  apply State.wr_inv
  apply State.wrB_inv
  rfl

theorem State.applyReset_inv (s : State) (r : ResetReq) (h₀ : Inv s) : Inv (State.applyReset s r) := by
  unfold State.applyReset
  repeat' first
    | with_reducible assumption
    | with_reducible apply State.sliceReset_inv
    | with_reducible apply State.portDown_inv
    | with_reducible apply State.coreDown_inv
    | with_reducible apply State.mgmtDown_inv
    | with_reducible apply State.warmDown_inv
    | with_reducible apply State.tellBlocksReset_inv
    | with_reducible apply State.stationDown_inv
    | with_reducible apply State.secRestart_inv
    | with_reducible apply State.wakePin_inv
    | with_reducible apply State.count_inv
    | with_reducible apply State.pinsReset_inv
    | with_reducible apply State.coldDown_inv
    | (conv => arg 1; arg 50); with_reducible refine Inv.set_rst ?_
    | with_reducible refine Inv.ite ?_ ?_
    | with_reducible refine Inv.each (fun _ _ _ => ?_) ?_
    | dsimp only
    | split

theorem State.recordCause_inv (s : State) (l : List ResetReq) (held : Bool) (h₀ : Inv s) : Inv (State.recordCause s l held) :=
  Inv.via (State.recordCause_frame s l held (hs₀ := List.Subset.refl _) (h₀ := Frame.refl _ _)) (by decide) h₀

theorem State.breakRelease_inv (s : State) (h₀ : Inv s) : Inv (State.breakRelease s) :=
  Inv.via (State.breakRelease_frame s (hs₀ := List.Subset.refl _) (h₀ := Frame.refl _ _)) (by decide) h₀

theorem State.applyAll_inv (s : State) (l : List ResetReq) (held : Bool) (h₀ : Inv s) : Inv (State.applyAll s l held) := by
  unfold State.applyAll
  repeat' first
    | with_reducible assumption
    | with_reducible apply State.breakRelease_inv
    | with_reducible apply State.applyReset_inv
    | with_reducible apply State.recordCause_inv
    | (conv => arg 1; arg 50); with_reducible refine Inv.set_rst ?_
    | with_reducible refine Inv.ite ?_ ?_
    | with_reducible refine Inv.each (fun _ _ _ => ?_) ?_

theorem State.cutPulse_inv (s : State) (h₀ : Inv s) : Inv (State.cutPulse s) :=
  Inv.via (State.cutPulse_frame s (hs₀ := List.Subset.refl _) (h₀ := Frame.refl _ _)) (by decide) h₀

theorem State.assertReset_inv (s : State) (r : ResetReq) (h₀ : Inv s) : Inv (State.assertReset s r) := by
  unfold State.assertReset
  repeat' first
    | with_reducible assumption
    | with_reducible apply State.cutPulse_inv
    | with_reducible apply State.applyAll_inv
    | with_reducible apply State.count_inv
    | with_reducible apply State.emit_inv
    | (conv => arg 1; arg 50); with_reducible refine Inv.set_rst ?_
    | with_reducible refine Inv.ite ?_ ?_
    | dsimp only

theorem State.assertEvent_inv (s : State) (k : CrossKey) (r : ResetReq) (h₀ : Inv s) : Inv (State.assertEvent s k r) := by
  unfold State.assertEvent
  repeat' first
    | with_reducible assumption
    | refine State.cross_invOut (e₀ := by with_reducible assumption) (h₀ := ?_)
    | with_reducible apply State.assertReset_inv
    | with_reducible apply State.count_inv
    | split

theorem execHeldResetApply_inv {t₀ : State} (s : State) (e₀ : execHeldResetApply s = .next t₀) (h₀ : Inv s) : Inv t₀ := by
  unfold execHeldResetApply at e₀
  cases e₀
  repeat' first
    | with_reducible assumption
    | with_reducible apply State.applyAll_inv
    | (conv => arg 1; arg 50); with_reducible refine Inv.set_rst ?_
    | with_reducible refine Inv.ite ?_ ?_

theorem execEraseSuspendDone_inv {t₀ : State} (s : State) (e₀ : execEraseSuspendDone s = .next t₀) (h₀ : Inv s) : Inv t₀ := by
  unfold execEraseSuspendDone at e₀
  cases e₀
  repeat' first
    | with_reducible assumption
    | with_reducible apply State.wr_inv
    | with_reducible apply State.applyAll_inv
    | (conv => arg 1; arg 50); with_reducible refine Inv.set_rst ?_
    | dsimp only
    | split

theorem State.assertLevel_inv (s : State) (k : ℕ) (target : Option ℕ) (h₀ : Inv s) : Inv (State.assertLevel s k target) := by
  unfold State.assertLevel
  repeat' first
    | with_reducible assumption
    | with_reducible apply State.assertReset_inv
    | (conv => arg 1; arg 50); with_reducible refine Inv.set_rst ?_
    | with_reducible refine Inv.ite ?_ ?_

theorem State.releaseLevel_inv (s : State) (k : ℕ) (h₀ : Inv s) : Inv (State.releaseLevel s k) :=
  Inv.via (State.releaseLevel_frame s k (hs₀ := List.Subset.refl _) (h₀ := Frame.refl _ _)) (by decide) h₀

theorem State.syncBrownOut_inv (s : State) (h₀ : Inv s) : Inv (State.syncBrownOut s) := by
  unfold State.syncBrownOut
  repeat' first
    | with_reducible assumption
    | with_reducible apply State.assertLevel_inv
    | with_reducible apply State.releaseLevel_inv
    | with_reducible refine Inv.ite ?_ ?_

theorem execVaonLost_inv {t₀ : State} (s : State) (e₀ : execVaonLost s = .next t₀) (h₀ : Inv s) : Inv t₀ := by
  unfold execVaonLost at e₀
  cases e₀
  repeat' first
    | with_reducible assumption
    | with_reducible apply State.cutPulse_inv
    | with_reducible apply State.coldDown_inv
    | (conv => arg 1; arg 50); with_reducible refine Inv.set_powered_rst_pins ?_
    | dsimp only

theorem execVaonGood_inv {t₀ : State} (s : State) (e₀ : execVaonGood s = .next t₀) (h₀ : Inv s) : Inv t₀ := by
  unfold execVaonGood at e₀
  cases e₀
  repeat' first
    | with_reducible assumption
    | with_reducible apply State.pin_inv
    | with_reducible apply State.pinsReset_inv
    | with_reducible apply State.coldDown_inv
    | (conv => arg 1; arg 50); with_reducible refine Inv.set_powered_rst ?_
    | with_reducible refine Inv.ite ?_ ?_
    | with_reducible refine Inv.each (fun _ _ _ => ?_) ?_

theorem execPorstNLevel_inv {t₀ : State} (high : Bool) (s : State) (e₀ : execPorstNLevel high s = .next t₀) (h₀ : Inv s) : Inv t₀ := by
  unfold execPorstNLevel at e₀
  cases e₀
  repeat' first
    | with_reducible assumption
    | with_reducible apply State.assertLevel_inv
    | with_reducible apply State.releaseLevel_inv
    | (conv => arg 1; arg 50); with_reducible refine Inv.set_powered ?_
    | with_reducible refine Inv.ite ?_ ?_

theorem execResetNLevel_inv {t₀ : State} (high : Bool) (s : State) (e₀ : execResetNLevel high s = .next t₀) (h₀ : Inv s) : Inv t₀ := by
  unfold execResetNLevel at e₀
  cases e₀
  repeat' first
    | with_reducible assumption
    | with_reducible apply State.assertLevel_inv
    | with_reducible apply State.releaseLevel_inv
    | with_reducible refine Inv.ite ?_ ?_

theorem execBrownOut_inv {t₀ : State} (vbulk : ℕ) (vio18 : ℕ) (vio33 : ℕ) (s : State) (e₀ : execBrownOut vbulk vio18 vio33 s = .next t₀) (h₀ : Inv s) : Inv t₀ := by
  unfold execBrownOut at e₀
  cases e₀
  repeat' first
    | with_reducible assumption
    | with_reducible apply State.syncBrownOut_inv
    | (conv => arg 1; arg 50); with_reducible refine Inv.set_rst ?_
    | with_reducible refine Inv.ite ?_ ?_

theorem execThermalTrip_inv {t₀ : State} (sensors : List ℤ) (s : State) (e₀ : execThermalTrip sensors s = .next t₀) (h₀ : Inv s) : Inv t₀ := by
  unfold execThermalTrip at e₀
  cases e₀
  repeat' first
    | with_reducible assumption
    | with_reducible apply State.assertLevel_inv
    | with_reducible apply State.releaseLevel_inv
    | with_reducible refine Inv.ite ?_ ?_

theorem execReferenceLost_inv {t₀ : State} (lost : Bool) (s : State) (e₀ : execReferenceLost lost s = .next t₀) (h₀ : Inv s) : Inv t₀ := by
  unfold execReferenceLost at e₀
  cases e₀
  repeat' first
    | with_reducible assumption
    | with_reducible apply State.syncBrownOut_inv
    | (conv => arg 1; arg 50); with_reducible refine Inv.set_rst ?_

theorem execMgmtWatchdogExpiry_inv {t₀ : State} (s : State) (e₀ : execMgmtWatchdogExpiry s = .next t₀) (h₀ : Inv s) : Inv t₀ := by
  unfold execMgmtWatchdogExpiry at e₀
  cases e₀
  repeat' first
    | with_reducible assumption
    | with_reducible apply State.assertEvent_inv
    | with_reducible apply State.failUpdate_inv
    | with_reducible apply State.setUpd_inv
    | with_reducible refine Inv.ite ?_ ?_

theorem execStationWatchdogExpiry_inv {t₀ : State} (n : Fin 8) (s : State) (e₀ : execStationWatchdogExpiry n s = .next t₀) (h₀ : Inv s) : Inv t₀ := by
  unfold execStationWatchdogExpiry at e₀
  cases e₀
  repeat' first
    | with_reducible assumption
    | with_reducible apply State.failUpdate_inv
    | with_reducible apply State.assertReset_inv
    | with_reducible apply State.setUpd_inv
    | with_reducible refine Inv.ite ?_ ?_

theorem execSecureWatchdogExpiry_inv {t₀ : State} (s : State) (e₀ : execSecureWatchdogExpiry s = .next t₀) (h₀ : Inv s) : Inv t₀ := by
  unfold execSecureWatchdogExpiry at e₀
  cases e₀
  repeat' first
    | with_reducible assumption
    | with_reducible apply State.assertEvent_inv
    | with_reducible apply State.wr_inv
    | (conv => arg 1; arg 50); with_reducible refine Inv.set_sec ?_
    | with_reducible refine Inv.ite ?_ ?_

theorem execResetRequestApply_inv {t₀ : State} (s : State) (e₀ : execResetRequestApply s = .next t₀) (h₀ : Inv s) : Inv t₀ := by
  unfold execResetRequestApply at e₀
  cases e₀
  repeat' first
    | with_reducible assumption
    | with_reducible apply State.assertReset_inv
    | (conv => arg 1; arg 50); with_reducible refine Inv.set_rst ?_
    | with_reducible refine Inv.ite ?_ ?_
    | dsimp only
    | split

theorem execStationReset_inv {t₀ : State} (who : Requester) (n : Fin 8) (v : Bool) (s : State) (e₀ : execStationReset who n v s = .next t₀) (h₀ : Inv s) : Inv t₀ := by
  unfold execStationReset at e₀
  cases e₀
  repeat' first
    | with_reducible assumption
    | with_reducible apply State.answer_inv
    | with_reducible apply State.onWrite_inv
    | with_reducible apply State.assertReset_inv
    | with_reducible refine Inv.ite ?_ ?_
    | with_reducible intro _

theorem execMemReinit_inv {t₀ : State} (who : Requester) (n : Fin 8) (v : Bool) (s : State) (e₀ : execMemReinit who n v s = .next t₀) (h₀ : Inv s) : Inv t₀ := by
  unfold execMemReinit at e₀
  cases e₀
  repeat' first
    | with_reducible assumption
    | with_reducible apply State.answer_inv
    | with_reducible apply State.onWrite_inv
    | with_reducible apply State.assertReset_inv
    | with_reducible refine Inv.ite ?_ ?_
    | with_reducible intro _

theorem execDeviceRequestNone_inv {t₀ : State} (who : Requester) (s : State) (e₀ : execDeviceRequestNone who s = .next t₀) (h₀ : Inv s) : Inv t₀ :=
  Inv.via (execDeviceRequestNone_frame who s (hs₀ := List.Subset.refl _) (e₀ := e₀) (h₀ := Frame.refl _ _)) (by decide) h₀

theorem execDeviceRequestRecovery_inv {t₀ : State} (who : Requester) (s : State) (e₀ : execDeviceRequestRecovery who s = .next t₀) (h₀ : Inv s) : Inv t₀ := by
  unfold execDeviceRequestRecovery at e₀
  cases e₀
  repeat' first
    | with_reducible assumption
    | with_reducible apply State.answer_inv
    | with_reducible apply State.onWrite_inv
    | with_reducible apply State.assertReset_inv
    | (conv => arg 1; arg 50); with_reducible refine Inv.set_rst ?_
    | with_reducible intro _

theorem execDeviceRequestLeaveRecovery_inv {t₀ : State} (who : Requester) (s : State) (e₀ : execDeviceRequestLeaveRecovery who s = .next t₀) (h₀ : Inv s) : Inv t₀ := by
  unfold execDeviceRequestLeaveRecovery at e₀
  cases e₀
  repeat' first
    | with_reducible assumption
    | with_reducible apply State.answer_inv
    | with_reducible apply State.onWrite_inv
    | with_reducible apply State.assertReset_inv
    | (conv => arg 1; arg 50); with_reducible refine Inv.set_rst ?_
    | with_reducible refine Inv.ite ?_ ?_
    | with_reducible intro _

theorem State.holdCeilings_inv (s : State) (h₀ : Inv s) : Inv (State.holdCeilings s) :=
  Inv.via (State.holdCeilings_frame s (hs₀ := List.Subset.refl _) (h₀ := Frame.refl _ _)) (by decide) h₀

theorem State.memcRelease_inv (s : State) (n : ℕ) (h₀ : Inv s) : Inv (State.memcRelease s n) :=
  Inv.via (State.memcRelease_frame s n (hs₀ := List.Subset.refl _) (h₀ := Frame.refl _ _)) (by decide) h₀

theorem State.coreRelease_inv (s : State) (n : ℕ) (h₀ : Inv s) : Inv (State.coreRelease s n) :=
  Inv.via (State.coreRelease_frame s n (hs₀ := List.Subset.refl _) (h₀ := Frame.refl _ _)) (by decide) h₀

theorem State.funcRelease_inv (s : State) (n : ℕ) (h₀ : Inv s) : Inv (State.funcRelease s n) :=
  Inv.via (State.funcRelease_frame s n (hs₀ := List.Subset.refl _) (h₀ := Frame.refl _ _)) (by decide) h₀

theorem State.lockPll_inv (s : State) (k : ℕ) (on : Bool) (h₀ : Inv s) : Inv (State.lockPll s k on) :=
  Inv.via (State.lockPll_frame s k on (hs₀ := List.Subset.refl _) (h₀ := Frame.refl _ _)) (by decide) h₀

theorem State.releaseDomain_inv (s : State) (d : Domain) (h₀ : Inv s) : Inv (State.releaseDomain s d) := by
  unfold State.releaseDomain
  repeat' first
    | with_reducible assumption
    | with_reducible apply State.memcRelease_inv
    | with_reducible apply State.lockPll_inv
    | with_reducible apply State.sliceDue_inv
    | with_reducible apply State.wave_inv
    | with_reducible apply State.coreRelease_inv
    | with_reducible apply State.drive_inv
    | with_reducible apply State.wr_inv
    | with_reducible apply State.syncRole_inv
    | with_reducible apply State.setSecState_inv
    | with_reducible apply State.hwReady_inv
    | with_reducible apply State.funcRelease_inv
    | (conv => arg 1; arg 50); with_reducible refine Inv.set_rst ?_
    | dsimp only
    | split

theorem State.releaseNext_inv (s : State) (h₀ : Inv s) : Inv (State.releaseNext s) := by
  unfold State.releaseNext
  repeat' first
    | with_reducible assumption
    | with_reducible apply State.releaseDomain_inv
    | (conv => arg 1; arg 50); with_reducible refine Inv.set_rst ?_
    | dsimp only
    | split

theorem execReleaseBegin_inv {t₀ : State} (strap : Bool) (s : State) (e₀ : execReleaseBegin strap s = .next t₀) (h₀ : Inv s) : Inv t₀ := by
  unfold execReleaseBegin at e₀
  cases e₀
  repeat' first
    | with_reducible assumption
    | with_reducible apply State.releaseNext_inv
    | (conv => arg 1; arg 50); with_reducible refine Inv.set_net ?_
    | with_reducible refine Inv.ite ?_ ?_

theorem execReleaseGapElapsed_inv {t₀ : State} (s : State) (e₀ : execReleaseGapElapsed s = .next t₀) (h₀ : Inv s) : Inv t₀ := by
  unfold execReleaseGapElapsed at e₀
  cases e₀
  repeat' first
    | with_reducible assumption
    | with_reducible apply State.releaseNext_inv
    | with_reducible refine Inv.ite ?_ ?_
    | split

theorem execFuseMapProgram_inv {t₀ : State} (who : Requester) (data : Bytes) (s : State) (e₀ : execFuseMapProgram who data s = .next t₀) (h₀ : Inv s) : Inv t₀ :=
  Inv.via (execFuseMapProgram_frame who data s (hs₀ := List.Subset.refl _) (e₀ := e₀) (h₀ := Frame.refl _ _)) (by decide) h₀

theorem State.onRead_inv (s : State) (who : Requester) (r : ObjRow) (n : ℕ) (i : ℕ) (tq : ℕ) (j : ℕ) (f : State → State) (hf : ∀ x0, Inv x0 → Inv (f x0)) (h₀ : Inv s) : Inv (State.onRead s who r n i tq j f) := by
  unfold State.onRead
  repeat' first
    | with_reducible assumption
    | with_reducible apply State.onRequest_inv
    | with_reducible apply State.guarded_inv
    | with_reducible intro _

theorem State.openLevel_inv (s : State) (level : ℕ) (h₀ : Inv s) : Inv (State.openLevel s level) := by
  unfold State.openLevel
  repeat' first
    | with_reducible assumption
    | with_reducible apply State.assertReset_inv
    | with_reducible apply State.destroyEnclave_inv
    | with_reducible apply State.openSystem_inv
    | (conv => arg 1; arg 50); with_reducible refine Inv.set_rst ?_
    | (conv => arg 1; arg 50); with_reducible refine Inv.set_sec ?_
    | with_reducible refine Inv.ite ?_ ?_
    | with_reducible refine Inv.each (fun _ _ _ => ?_) ?_

theorem execDebugResponse_inv {t₀ : State} (who : Requester) (data : Bytes) (s : State) (e₀ : execDebugResponse who data s = .next t₀) (h₀ : Inv s) : Inv t₀ := by
  unfold execDebugResponse at e₀
  cases e₀
  repeat' first
    | with_reducible assumption
    | with_reducible apply State.openLevel_inv
    | with_reducible apply State.onRequest_inv
    | with_reducible apply State.answer_inv
    | with_reducible apply State.finish_inv
    | with_reducible apply State.startResult_inv
    | with_reducible apply State.guarded_inv
    | with_reducible apply State.mailboxSpoof_inv
    | (conv => arg 1; arg 50); with_reducible refine Inv.set_sec ?_
    | with_reducible refine Inv.ite ?_ ?_
    | with_reducible intro _
    | dsimp only
    | split

theorem execPerstNLevel_inv {t₀ : State} (p : Fin 2) (high : Bool) (s : State) (e₀ : execPerstNLevel p high s = .next t₀) (h₀ : Inv s) : Inv t₀ := by
  unfold execPerstNLevel at e₀
  cases e₀
  repeat' first
    | with_reducible assumption
    | with_reducible apply State.assertLevel_inv
    | with_reducible apply State.setPrt_inv
    | with_reducible apply State.releaseLevel_inv
    | with_reducible refine Inv.ite ?_ ?_

theorem execHotReset_inv {t₀ : State} (p : Fin 2) (s : State) (e₀ : execHotReset p s = .next t₀) (h₀ : Inv s) : Inv t₀ := by
  unfold execHotReset at e₀
  cases e₀
  repeat' first
    | with_reducible assumption
    | with_reducible apply State.assertEvent_inv
    | with_reducible apply State.count_inv
    | with_reducible refine Inv.ite ?_ ?_

theorem execFunctionFlr_inv {t₀ : State} (p : Fin 2) (s : State) (e₀ : execFunctionFlr p s = .next t₀) (h₀ : Inv s) : Inv t₀ := by
  unfold execFunctionFlr at e₀
  cases e₀
  repeat' first
    | with_reducible assumption
    | with_reducible apply State.assertEvent_inv
    | with_reducible apply State.count_inv
    | with_reducible refine Inv.ite ?_ ?_

theorem execSliceFlr_inv {t₀ : State} (p : Fin 2) (t : Fin 512) (v : ℕ) (s : State) (e₀ : execSliceFlr p t v s = .next t₀) (h₀ : Inv s) : Inv t₀ := by
  unfold execSliceFlr at e₀
  cases e₀
  repeat' first
    | with_reducible assumption
    | with_reducible apply State.assertEvent_inv
    | with_reducible apply State.onPage_inv
    | with_reducible refine Inv.ite ?_ ?_
    | with_reducible intro _

theorem execSliceReset_inv {t₀ : State} (who : Requester) (t : Fin 512) (v : Bool) (s : State) (e₀ : execSliceReset who t v s = .next t₀) (h₀ : Inv s) : Inv t₀ := by
  unfold execSliceReset at e₀
  cases e₀
  repeat' first
    | with_reducible assumption
    | with_reducible apply State.answer_inv
    | with_reducible apply State.onWrite_inv
    | with_reducible apply State.assertReset_inv
    | with_reducible refine Inv.ite ?_ ?_
    | with_reducible intro _

theorem State.writeEnable_inv (s : State) (t : ℕ) (v : Bool) (authorised : Bool) (h₀ : Inv s) : Inv (State.writeEnable s t v authorised).1 := by
  unfold State.writeEnable
  repeat' first
    | with_reducible assumption
    | with_reducible apply State.bind_inv
    | with_reducible apply State.assertReset_inv
    | with_reducible refine Inv.iteFst ?_ ?_
    | dsimp only
    | split

theorem State.writeEnable_invOut (s : State) (t : ℕ) (v : Bool) (authorised : Bool) {y₀ z₀} (e₀ : State.writeEnable s t v authorised = (z₀, y₀)) (h₀ : Inv s) : Inv z₀ := by
  have x₀ := State.writeEnable_inv s t v authorised h₀; rw [e₀] at x₀; exact x₀

theorem execSliceEnable_inv {t₀ : State} (who : Requester) (t : Fin 512) (v : Bool) (s : State) (e₀ : execSliceEnable who t v s = .next t₀) (h₀ : Inv s) : Inv t₀ := by
  unfold execSliceEnable at e₀
  cases e₀
  repeat' first
    | with_reducible assumption
    | with_reducible apply State.answer_inv
    | with_reducible apply State.onWrite_inv
    | with_reducible apply State.writeEnable_inv
    | with_reducible intro _

theorem execRebind_inv {t₀ : State} (e : Fin 64) (w : BindWrite) (s : State) (e₀ : execRebind e w s = .next t₀) (h₀ : Inv s) : Inv t₀ := by
  unfold execRebind at e₀
  cases e₀
  repeat' first
    | with_reducible assumption
    | with_reducible apply State.reply_inv
    | with_reducible apply State.bind_inv
    | with_reducible apply State.onCall_inv
    | with_reducible apply State.writeEnable_inv
    | with_reducible refine Inv.ite ?_ ?_
    | with_reducible intro _
    | dsimp only
    | split

theorem execRingEnable_inv {t₀ : State} (who : Requester) (t : Fin 512) (n : Fin 8) (q : Fin 4) (v : Bool) (s : State) (e₀ : execRingEnable who t n q v s = .next t₀) (h₀ : Inv s) : Inv t₀ :=
  Inv.via (execRingEnable_frame who t n q v s (hs₀ := List.Subset.refl _) (e₀ := e₀) (h₀ := Frame.refl _ _)) (by decide) h₀

theorem State.setFront_inv (s : State) (t : ℕ) (n : ℕ) (q : ℕ) (x : Xfer) (h₀ : Inv s) : Inv (State.setFront s t n q x) :=
  Inv.via (State.setFront_frame s t n q x (hs₀ := List.Subset.refl _) (h₀ := Frame.refl _ _)) (by decide) h₀

theorem State.xferWrite_inv (s : State) (t : ℕ) (n : ℕ) (q : ℕ) (x : Xfer) (b : Bytes) (h₀ : Inv s) : Inv (State.xferWrite s t n q x b) := by
  unfold State.xferWrite
  repeat' first
    | with_reducible assumption
    | with_reducible apply State.noteTag_inv
    | with_reducible apply State.setFront_inv
    | with_reducible apply State.fetch_inv
    | with_reducible apply State.writeTagged_inv
    | with_reducible refine Inv.ite ?_ ?_

theorem State.cvXfer_inv (s : State) (t : ℕ) (n : ℕ) (q : ℕ) (x : Xfer) (h₀ : Inv s) : Inv (State.cvXfer s t n q x) :=
  Inv.via (State.cvXfer_frame s t n q x (hs₀ := List.Subset.refl _) (h₀ := Frame.refl _ _)) (by decide) h₀

theorem execXferHostToStation_inv {t₀ : State} (t : Fin 512) (n : Fin 8) (q : Fin 4) (data : Option Bytes) (s : State) (e₀ : execXferHostToStation t n q data s = .next t₀) (h₀ : Inv s) : Inv t₀ := by
  unfold execXferHostToStation at e₀
  cases e₀
  repeat' first
    | with_reducible assumption
    | with_reducible apply State.setFront_inv
    | with_reducible apply State.xferWrite_inv
    | with_reducible apply State.cvXfer_inv
    | with_reducible apply State.emit_inv
    | with_reducible refine Inv.ite ?_ ?_
    | dsimp only
    | split

theorem execXferFill_inv {t₀ : State} (t : Fin 512) (n : Fin 8) (q : Fin 4) (s : State) (e₀ : execXferFill t n q s = .next t₀) (h₀ : Inv s) : Inv t₀ := by
  unfold execXferFill at e₀
  cases e₀
  repeat' first
    | with_reducible assumption
    | with_reducible apply State.xferWrite_inv
    | with_reducible apply State.cvXfer_inv
    | split

theorem execTransferComplete_inv {t₀ : State} (t : Fin 512) (n : Fin 8) (q : Fin 4) (s : State) (e₀ : execTransferComplete t n q s = .next t₀) (h₀ : Inv s) : Inv t₀ := by
  unfold execTransferComplete at e₀
  cases e₀
  repeat' first
    | with_reducible assumption
    | with_reducible apply State.completion_inv
    | with_reducible apply State.setRing_inv
    | with_reducible apply State.drawNat_inv
    | with_reducible apply State.fetch_inv
    | with_reducible apply State.cvTransfer_inv
    | with_reducible refine Inv.ite ?_ ?_
    | dsimp only
    | split

theorem State.startSave_inv (s : State) (h₀ : Inv s) : Inv (State.startSave s) :=
  Inv.via (State.startSave_frame s (hs₀ := List.Subset.refl _) (h₀ := Frame.refl _ _)) (by decide) h₀

theorem execSettingsSave_inv {t₀ : State} (who : Requester) (v : Bool) (s : State) (e₀ : execSettingsSave who v s = .next t₀) (h₀ : Inv s) : Inv t₀ :=
  Inv.via (execSettingsSave_frame who v s (hs₀ := List.Subset.refl _) (e₀ := e₀) (h₀ := Frame.refl _ _)) (by decide) h₀

theorem State.settingsDefaults_inv (s : State) (h₀ : Inv s) : Inv (State.settingsDefaults s) := by
  unfold State.settingsDefaults
  repeat' first
    | with_reducible assumption
    | with_reducible apply State.syncSecure_inv
    | with_reducible apply State.holdCeilings_inv
    | with_reducible apply State.writeEnable_inv
    | with_reducible apply State.wr_inv
    | with_reducible apply State.syncZones_inv
    | with_reducible apply State.applyTarget_inv
    | with_reducible apply State.applyGate_inv
    | (conv => arg 1; arg 50); with_reducible refine Inv.set_regs_shadow_blobs_shadowBlobs_settings ?_
    | with_reducible refine Inv.ite ?_ ?_
    | with_reducible refine Inv.each (fun _ _ _ => ?_) ?_

theorem execSettingsDefaults_inv {t₀ : State} (who : Requester) (v : Bool) (s : State) (e₀ : execSettingsDefaults who v s = .next t₀) (h₀ : Inv s) : Inv t₀ := by
  unfold execSettingsDefaults at e₀
  cases e₀
  repeat' first
    | with_reducible assumption
    | with_reducible apply State.answer_inv
    | with_reducible apply State.settingsDefaults_inv
    | with_reducible apply State.onWrite_inv
    | with_reducible apply State.startSave_inv
    | with_reducible apply State.guarded_inv
    | with_reducible refine Inv.ite ?_ ?_
    | with_reducible intro _

theorem execManifest_inv {t₀ : State} (who : Requester) (data : Bytes) (s : State) (e₀ : execManifest who data s = .next t₀) (h₀ : Inv s) : Inv t₀ :=
  Inv.via (execManifest_frame who data s (hs₀ := List.Subset.refl _) (e₀ := e₀) (h₀ := Frame.refl _ _)) (by decide) h₀

theorem execPieceIn_inv {t₀ : State} (who : Requester) (data : Bytes) (s : State) (e₀ : execPieceIn who data s = .next t₀) (h₀ : Inv s) : Inv t₀ :=
  Inv.via (execPieceIn_frame who data s (hs₀ := List.Subset.refl _) (e₀ := e₀) (h₀ := Frame.refl _ _)) (by decide) h₀

theorem State.endUpdate_inv (s : State) (outcome : ℕ) (h₀ : Inv s) : Inv (State.endUpdate s outcome) :=
  Inv.via (State.endUpdate_frame s outcome (hs₀ := List.Subset.refl _) (h₀ := Frame.refl _ _)) (by decide) h₀

theorem State.completeStep_inv (s : State) (h₀ : Inv s) : Inv (State.completeStep s) :=
  Inv.via (State.completeStep_frame s (hs₀ := List.Subset.refl _) (h₀ := Frame.refl _ _)) (by decide) h₀

theorem State.setDone_inv (s : State) (k : ℕ) (h₀ : Inv s) : Inv (State.setDone s k) :=
  Inv.via (State.setDone_frame s k (hs₀ := List.Subset.refl _) (h₀ := Frame.refl _ _)) (by decide) h₀

theorem State.nameTrial_inv (s : State) (rank : ℕ) (h₀ : Inv s) : Inv (State.nameTrial s rank) :=
  Inv.via (State.nameTrial_frame s rank (hs₀ := List.Subset.refl _) (h₀ := Frame.refl _ _)) (by decide) h₀

theorem State.startMgmt_inv (s : State) (h₀ : Inv s) : Inv (State.startMgmt s) := by
  unfold State.startMgmt
  repeat' first
    | with_reducible assumption
    | with_reducible apply State.syncStep_inv
    | with_reducible apply State.nameTrial_inv
    | with_reducible apply State.drawBytes_inv
    | with_reducible apply State.assertReset_inv
    | with_reducible apply State.setUpd_inv

theorem State.startSec_inv (s : State) (h₀ : Inv s) : Inv (State.startSec s) := by
  unfold State.startSec
  repeat' first
    | with_reducible assumption
    | with_reducible apply State.syncStep_inv
    | with_reducible apply State.nameTrial_inv
    | with_reducible apply State.assertReset_inv
    | with_reducible apply State.setUpd_inv

theorem State.waitSec_inv (s : State) (h₀ : Inv s) : Inv (State.waitSec s) :=
  Inv.via (State.waitSec_frame s (hs₀ := List.Subset.refl _) (h₀ := Frame.refl _ _)) (by decide) h₀

theorem State.startNext_inv (s : State) (h₀ : Inv s) : Inv (State.startNext s) := by
  unfold State.startNext
  repeat' first
    | with_reducible assumption
    | with_reducible apply State.syncStep_inv
    | with_reducible apply State.nameTrial_inv
    | with_reducible apply State.completeStep_inv
    | with_reducible apply State.startMgmt_inv
    | with_reducible apply State.waitSec_inv
    | with_reducible apply State.setDone_inv
    | with_reducible apply State.setUpd_inv
    | with_reducible apply State.endUpdate_inv
    | with_reducible refine Inv.ite ?_ ?_
    | dsimp only
    | split

theorem State.apply_inv (s : State) (who : Requester) (h₀ : Inv s) : Inv (State.apply s who) := by
  unfold State.apply
  repeat' first
    | with_reducible assumption
    | with_reducible apply State.wr_inv
    | with_reducible apply State.startResult_inv
    | with_reducible apply State.startNext_inv
    | with_reducible apply State.setUpd_inv

theorem State.onUpdate_inv (s : State) (who : Requester) (v : ℕ) (allowed : State → Bool) (f : State → State) (hf : ∀ x0, Inv x0 → Inv (f x0)) (h₀ : Inv s) : Inv (State.onUpdate s who v allowed f) := by
  unfold State.onUpdate
  repeat' first
    | with_reducible assumption
    | with_reducible apply State.answer_inv
    | with_reducible apply State.onWrite_inv
    | with_reducible apply State.guarded_inv
    | with_reducible apply hf
    | with_reducible refine Inv.ite ?_ ?_
    | with_reducible intro _

theorem execUpdateApply_inv {t₀ : State} (who : Requester) (s : State) (e₀ : execUpdateApply who s = .next t₀) (h₀ : Inv s) : Inv t₀ := by
  unfold execUpdateApply at e₀
  cases e₀
  repeat' first
    | with_reducible assumption
    | with_reducible apply State.apply_inv
    | with_reducible apply State.onUpdate_inv
    | with_reducible intro _

theorem execApplyAtReached_inv {t₀ : State} (s : State) (e₀ : execApplyAtReached s = .next t₀) (h₀ : Inv s) : Inv t₀ := by
  unfold execApplyAtReached at e₀
  cases e₀
  repeat' first
    | with_reducible assumption
    | with_reducible apply State.apply_inv
    | with_reducible apply State.firmware_inv
    | with_reducible refine Inv.ite ?_ ?_
    | with_reducible intro _

theorem execUpdateRevert_inv {t₀ : State} (who : Requester) (s : State) (e₀ : execUpdateRevert who s = .next t₀) (h₀ : Inv s) : Inv t₀ := by
  unfold execUpdateRevert at e₀
  cases e₀
  repeat' first
    | with_reducible assumption
    | with_reducible apply State.onUpdate_inv
    | with_reducible apply State.wr_inv
    | with_reducible apply State.startNext_inv
    | with_reducible apply State.setUpd_inv
    | with_reducible intro _

theorem execUpdateCancel_inv {t₀ : State} (who : Requester) (s : State) (e₀ : execUpdateCancel who s = .next t₀) (h₀ : Inv s) : Inv t₀ :=
  Inv.via (execUpdateCancel_frame who s (hs₀ := List.Subset.refl _) (e₀ := e₀) (h₀ := Frame.refl _ _)) (by decide) h₀

theorem execForceSec_inv {t₀ : State} (who : Requester) (s : State) (e₀ : execForceSec who s = .next t₀) (h₀ : Inv s) : Inv t₀ := by
  unfold execForceSec at e₀
  cases e₀
  repeat' first
    | with_reducible assumption
    | with_reducible apply State.startSec_inv
    | with_reducible apply State.onUpdate_inv

theorem execSecWaitEnd_inv {t₀ : State} (s : State) (e₀ : execSecWaitEnd s = .next t₀) (h₀ : Inv s) : Inv t₀ := by
  unfold execSecWaitEnd at e₀
  cases e₀
  repeat' first
    | with_reducible assumption
    | with_reducible apply State.startSec_inv
    | with_reducible apply State.firmware_inv
    | with_reducible refine Inv.ite ?_ ?_
    | with_reducible intro _

theorem execStnSwapStart_inv {t₀ : State} (s : State) (e₀ : execStnSwapStart s = .next t₀) (h₀ : Inv s) : Inv t₀ := by
  unfold execStnSwapStart at e₀
  cases e₀
  repeat' first
    | with_reducible assumption
    | with_reducible apply State.assertReset_inv
    | with_reducible apply State.setUpd_inv
    | with_reducible refine Inv.ite ?_ ?_
    | dsimp only
    | split

theorem execUpdateGapElapsed_inv {t₀ : State} (s : State) (e₀ : execUpdateGapElapsed s = .next t₀) (h₀ : Inv s) : Inv t₀ := by
  unfold execUpdateGapElapsed at e₀
  cases e₀
  repeat' first
    | with_reducible assumption
    | with_reducible apply State.firmware_inv
    | with_reducible apply State.startNext_inv
    | with_reducible refine Inv.ite ?_ ?_
    | with_reducible intro _

theorem execUpdateCommit_inv {t₀ : State} (who : Requester) (fails : List ℕ) (s : State) (e₀ : execUpdateCommit who fails s = .next t₀) (h₀ : Inv s) : Inv t₀ :=
  Inv.via (execUpdateCommit_frame who fails s (hs₀ := List.Subset.refl _) (e₀ := e₀) (h₀ := Frame.refl _ _)) (by decide) h₀

theorem execGrantRequest_inv {t₀ : State} (who : Requester) (data : Bytes) (pub : Bytes) (s : State) (e₀ : execGrantRequest who data pub s = .next t₀) (h₀ : Inv s) : Inv t₀ :=
  Inv.via (execGrantRequest_frame who data pub s (hs₀ := List.Subset.refl _) (e₀ := e₀) (h₀ := Frame.refl _ _)) (by decide) h₀

theorem execGrantEnd_inv {t₀ : State} (who : Requester) (v : ℕ) (s : State) (e₀ : execGrantEnd who v s = .next t₀) (h₀ : Inv s) : Inv t₀ :=
  Inv.via (execGrantEnd_frame who v s (hs₀ := List.Subset.refl _) (e₀ := e₀) (h₀ := Frame.refl _ _)) (by decide) h₀

theorem State.takeSeq_inv (s : State) (id : PeerId) (seq : ℕ) (h₀ : Inv s) : Inv (State.takeSeq s id seq).2 :=
  Inv.via (State.takeSeq_frame s id seq (hs₀ := List.Subset.refl _) (h₀ := Frame.refl _ _)) (by decide) h₀

theorem State.takeSeq_invOut (s : State) (id : PeerId) (seq : ℕ) {y₀ z₀} (e₀ : State.takeSeq s id seq = (y₀, z₀)) (h₀ : Inv s) : Inv z₀ := by
  have x₀ := State.takeSeq_inv s id seq h₀; rw [e₀] at x₀; exact x₀

theorem State.cacheResponse_inv (s : State) (k : ℕ) (seq : ℕ) (b : Bytes) (h₀ : Inv s) : Inv (State.cacheResponse s k seq b) :=
  Inv.via (State.cacheResponse_frame s k seq b (hs₀ := List.Subset.refl _) (h₀ := Frame.refl _ _)) (by decide) h₀

theorem execDevicePath_inv {t₀ : State} (who : Requester) (v : ℕ) (serial : ℕ) (s : State) (e₀ : execDevicePath who v serial s = .next t₀) (h₀ : Inv s) : Inv t₀ :=
  Inv.via (execDevicePath_frame who v serial s (hs₀ := List.Subset.refl _) (e₀ := e₀) (h₀ := Frame.refl _ _)) (by decide) h₀

theorem execMemberSerial_inv {t₀ : State} (who : Requester) (a : Fin 64) (v : ℕ) (s : State) (e₀ : execMemberSerial who a v s = .next t₀) (h₀ : Inv s) : Inv t₀ :=
  Inv.via (execMemberSerial_frame who a v s (hs₀ := List.Subset.refl _) (e₀ := e₀) (h₀ := Frame.refl _ _)) (by decide) h₀

theorem execCacheTargets_inv {t₀ : State} (who : Requester) (v : ℕ) (s : State) (e₀ : execCacheTargets who v s = .next t₀) (h₀ : Inv s) : Inv t₀ :=
  Inv.via (execCacheTargets_frame who v s (hs₀ := List.Subset.refl _) (e₀ := e₀) (h₀ := Frame.refl _ _)) (by decide) h₀

theorem execAlarmAck_inv {t₀ : State} (who : Requester) (seq : ℕ) (s : State) (e₀ : execAlarmAck who seq s = .next t₀) (h₀ : Inv s) : Inv t₀ :=
  Inv.via (execAlarmAck_frame who seq s (hs₀ := List.Subset.refl _) (e₀ := e₀) (h₀ := Frame.refl _ _)) (by decide) h₀

theorem settled_inv (s : State) (o : Host.Outcome State Fault Refusal) (ho : ∀ t, o = .next t → Inv t) (h₀ : Inv s) :
    Inv (settled s o) := by
  unfold settled
  split
  · exact ho _ rfl
  all_goals exact h₀

theorem State.plainWrite_inv (s : State) (who : Requester) (p : Place) (v : ℤ) (h₀ : Inv s) : Inv (State.plainWrite s who p v) :=
  Inv.via (State.plainWrite_frame s who p v (hs₀ := List.Subset.refl _) (h₀ := Frame.refl _ _)) (by decide) h₀

theorem execStationCommit_inv {t₀ : State} (who : Requester) (n : Fin 8) (v : ℕ) (s : State) (e₀ : execStationCommit who n v s = .next t₀) (h₀ : Inv s) : Inv t₀ :=
  Inv.via (execStationCommit_frame who n v s (hs₀ := List.Subset.refl _) (e₀ := e₀) (h₀ := Frame.refl _ _)) (by decide) h₀

theorem State.writeBinding_inv (s : State) (who : Requester) (p : Place) (v : ℤ) (w : BindWrite) (h₀ : Inv s) : Inv (State.writeBinding s who p v w) :=
  Inv.via (State.writeBinding_frame s who p v w (hs₀ := List.Subset.refl _) (h₀ := Frame.refl _ _)) (by decide) h₀

theorem State.writeResetRequest_inv (s : State) (who : Requester) (v : ℕ) (h₀ : Inv s) : Inv (State.writeResetRequest s who v) :=
  Inv.via (State.writeResetRequest_frame s who v (hs₀ := List.Subset.refl _) (h₀ := Frame.refl _ _)) (by decide) h₀

theorem State.writeZoneHolder_inv (s : State) (who : Requester) (p : Place) (v : ℕ) (h₀ : Inv s) : Inv (State.writeZoneHolder s who p v) :=
  Inv.via (State.writeZoneHolder_frame s who p v (hs₀ := List.Subset.refl _) (h₀ := Frame.refl _ _)) (by decide) h₀

theorem handlersA_inv :
    ∀ h ∈ handlersA, ∀ (who : Requester) (p : Place) (v : Int) (env : WriteEnv) (s : State), Inv s → InvStep (h.2 who p v env s) := by
  intro h hm who p v env s h₀
  simp only [handlersA, List.mem_cons, List.not_mem_nil, or_false] at hm
  rcases hm with rfl | rfl | rfl | rfl | rfl | rfl | rfl | rfl | rfl
  all_goals
    dsimp only
    repeat' first
      | with_reducible refine InvStep.of fun _ e₀ => execGuardCommit_inv (e₀ := e₀) (h₀ := h₀)
      | with_reducible refine InvStep.of fun _ e₀ => execLayerCommit_inv (e₀ := e₀) (h₀ := h₀)
      | with_reducible refine InvStep.of fun _ e₀ => execModeCommit_inv (e₀ := e₀) (h₀ := h₀)
      | with_reducible refine InvStep.of fun _ e₀ => execRefLoadStart_inv (e₀ := e₀) (h₀ := h₀)
      | with_reducible refine InvStep.of fun _ e₀ => execReferenceCapture_inv (e₀ := e₀) (h₀ := h₀)
      | with_reducible refine InvStep.of fun _ e₀ => execStationCommit_inv (e₀ := e₀) (h₀ := h₀)
      | with_reducible refine InvStep.of fun _ e₀ => execTouchCommit_inv (e₀ := e₀) (h₀ := h₀)
      | with_reducible refine InvStep.of fun _ e₀ => execWakePendingClear_inv (e₀ := e₀) (h₀ := h₀)
      | with_reducible refine InvStep.ofNext ?_
      | with_reducible assumption
      | with_reducible apply State.writeZoneHolder_inv

theorem handlersB_inv :
    ∀ h ∈ handlersB, ∀ (who : Requester) (p : Place) (v : Int) (env : WriteEnv) (s : State), Inv s → InvStep (h.2 who p v env s) := by
  intro h hm who p v env s h₀
  simp only [handlersB, List.mem_cons, List.not_mem_nil, or_false] at hm
  rcases hm with rfl | rfl | rfl | rfl | rfl | rfl | rfl | rfl | rfl | rfl | rfl | rfl
  all_goals
    dsimp only
    repeat' first
      | with_reducible refine InvStep.of fun _ e₀ => execAudioCommit_inv (e₀ := e₀) (h₀ := h₀)
      | with_reducible refine InvStep.of fun _ e₀ => execFaultClear_inv (e₀ := e₀) (h₀ := h₀)
      | with_reducible refine InvStep.of fun _ e₀ => execHapticCommit_inv (e₀ := e₀) (h₀ := h₀)
      | with_reducible refine InvStep.of fun _ e₀ => execHapticTrigger_inv (e₀ := e₀) (h₀ := h₀)
      | with_reducible refine InvStep.of fun _ e₀ => execMemReinit_inv (e₀ := e₀) (h₀ := h₀)
      | with_reducible refine InvStep.of fun _ e₀ => execStationReset_inv (e₀ := e₀) (h₀ := h₀)
      | with_reducible refine InvStep.of fun _ e₀ => execStationTargetOff_inv (e₀ := e₀) (h₀ := h₀)
      | with_reducible refine InvStep.of fun _ e₀ => execStationTargetRunning_inv (e₀ := e₀) (h₀ := h₀)
      | with_reducible refine InvStep.of fun _ e₀ => execStationTargetSleep_inv (e₀ := e₀) (h₀ := h₀)
      | with_reducible refine InvStep.of fun _ e₀ => execStreamStart_inv (e₀ := e₀) (h₀ := h₀)
      | with_reducible refine InvStep.of fun _ e₀ => execStreamStop_inv (e₀ := e₀) (h₀ := h₀)
      | with_reducible refine InvStep.of fun _ e₀ => execTgStart_inv (e₀ := e₀) (h₀ := h₀)
      | with_reducible refine InvStep.of fun _ e₀ => execTgStop_inv (e₀ := e₀) (h₀ := h₀)
      | with_reducible refine InvStep.ofNext ?_
      | with_reducible refine InvStep.ite ?_ ?_
      | with_reducible assumption
      | with_reducible apply State.onWrite_inv
      | with_reducible apply State.plainWrite_inv
      | with_reducible apply State.writeGate_inv
      | with_reducible intro _

theorem handlersC_inv :
    ∀ h ∈ handlersC, ∀ (who : Requester) (p : Place) (v : Int) (env : WriteEnv) (s : State), Inv s → InvStep (h.2 who p v env s) := by
  intro h hm who p v env s h₀
  simp only [handlersC, List.mem_cons, List.not_mem_nil, or_false] at hm
  rcases hm with rfl | rfl | rfl | rfl | rfl | rfl | rfl | rfl | rfl | rfl | rfl | rfl | rfl | rfl
  all_goals
    dsimp only
    repeat' first
      | with_reducible refine InvStep.of fun _ e₀ => execQuarantineRelease_inv (e₀ := e₀) (h₀ := h₀)
      | with_reducible refine InvStep.of fun _ e₀ => execRightsWrite_inv (e₀ := e₀) (h₀ := h₀)
      | with_reducible refine InvStep.of fun _ e₀ => execRingEnable_inv (e₀ := e₀) (h₀ := h₀)
      | with_reducible refine InvStep.of fun _ e₀ => execSliceEnable_inv (e₀ := e₀) (h₀ := h₀)
      | with_reducible refine InvStep.of fun _ e₀ => execSliceReset_inv (e₀ := e₀) (h₀ := h₀)
      | with_reducible refine InvStep.of fun _ e₀ => execWindowWrite_inv (e₀ := e₀) (h₀ := h₀)
      | with_reducible refine InvStep.ofNext ?_
      | with_reducible refine InvStep.ite ?_ ?_
      | with_reducible assumption
      | with_reducible apply State.plainWrite_inv
      | with_reducible apply State.writeBinding_inv

theorem handlersD_inv :
    ∀ h ∈ handlersD, ∀ (who : Requester) (p : Place) (v : Int) (env : WriteEnv) (s : State), Inv s → InvStep (h.2 who p v env s) := by
  intro h hm who p v env s h₀
  simp only [handlersD, List.mem_cons, List.not_mem_nil, or_false] at hm
  rcases hm with rfl | rfl | rfl | rfl | rfl | rfl | rfl | rfl
  all_goals
    dsimp only
    repeat' first
      | with_reducible refine InvStep.of fun _ e₀ => execCvAbort_inv (e₀ := e₀) (h₀ := h₀)
      | with_reducible refine InvStep.of fun _ e₀ => execCvArm_inv (e₀ := e₀) (h₀ := h₀)
      | with_reducible refine InvStep.of fun _ e₀ => execCvEnd_inv (e₀ := e₀) (h₀ := h₀)
      | with_reducible refine InvStep.of fun _ e₀ => execDeviceBudgetMw_inv (e₀ := e₀) (h₀ := h₀)
      | with_reducible refine InvStep.of fun _ e₀ => execDeviceRequestLeaveRecovery_inv (e₀ := e₀) (h₀ := h₀)
      | with_reducible refine InvStep.of fun _ e₀ => execDeviceRequestNone_inv (e₀ := e₀) (h₀ := h₀)
      | with_reducible refine InvStep.of fun _ e₀ => execDeviceRequestRecovery_inv (e₀ := e₀) (h₀ := h₀)
      | with_reducible refine InvStep.of fun _ e₀ => execEnclaveCommandDestroy_inv (e₀ := e₀) (h₀ := h₀)
      | with_reducible refine InvStep.of fun _ e₀ => execEnclaveCreate_inv (e₀ := e₀) (h₀ := h₀)
      | with_reducible refine InvStep.of fun _ e₀ => execEnclaveDestroy_inv (e₀ := e₀) (h₀ := h₀)
      | with_reducible refine InvStep.of fun _ e₀ => execEnclaveStart_inv (e₀ := e₀) (h₀ := h₀)
      | with_reducible refine InvStep.of fun _ e₀ => execEnclaveStop_inv (e₀ := e₀) (h₀ := h₀)
      | with_reducible refine InvStep.of fun _ e₀ => execSettingsDefaults_inv (e₀ := e₀) (h₀ := h₀)
      | with_reducible refine InvStep.of fun _ e₀ => execSettingsSave_inv (e₀ := e₀) (h₀ := h₀)
      | with_reducible refine InvStep.ofNext ?_
      | with_reducible refine InvStep.ite ?_ ?_
      | with_reducible assumption
      | with_reducible apply State.plainWrite_inv
      | with_reducible apply State.writeResetRequest_inv

theorem handlersE_inv :
    ∀ h ∈ handlersE, ∀ (who : Requester) (p : Place) (v : Int) (env : WriteEnv) (s : State), Inv s → InvStep (h.2 who p v env s) := by
  intro h hm who p v env s h₀
  simp only [handlersE, List.mem_cons, List.not_mem_nil, or_false] at hm
  rcases hm with rfl | rfl | rfl | rfl | rfl | rfl
  all_goals
    dsimp only
    repeat' first
      | with_reducible refine InvStep.of fun _ e₀ => execAlarmAck_inv (e₀ := e₀) (h₀ := h₀)
      | with_reducible refine InvStep.of fun _ e₀ => execCacheTargets_inv (e₀ := e₀) (h₀ := h₀)
      | with_reducible refine InvStep.of fun _ e₀ => execDevicePath_inv (e₀ := e₀) (h₀ := h₀)
      | with_reducible refine InvStep.of fun _ e₀ => execForceSec_inv (e₀ := e₀) (h₀ := h₀)
      | with_reducible refine InvStep.of fun _ e₀ => execGrantEnd_inv (e₀ := e₀) (h₀ := h₀)
      | with_reducible refine InvStep.of fun _ e₀ => execMemberSerial_inv (e₀ := e₀) (h₀ := h₀)
      | with_reducible refine InvStep.of fun _ e₀ => execUpdateApply_inv (e₀ := e₀) (h₀ := h₀)
      | with_reducible refine InvStep.of fun _ e₀ => execUpdateCancel_inv (e₀ := e₀) (h₀ := h₀)
      | with_reducible refine InvStep.of fun _ e₀ => execUpdateCommit_inv (e₀ := e₀) (h₀ := h₀)
      | with_reducible refine InvStep.of fun _ e₀ => execUpdateRevert_inv (e₀ := e₀) (h₀ := h₀)
      | with_reducible refine InvStep.ofNext ?_
      | with_reducible refine InvStep.ite ?_ ?_
      | with_reducible assumption
      | with_reducible apply State.plainWrite_inv

theorem blobHandlers_inv :
    ∀ h ∈ blobHandlers, ∀ (who : Requester) (p : Place) (b : Bytes) (env : WriteEnv) (s : State), Inv s → InvStep (h.2 who p b env s) := by
  intro h hm who p b env s h₀
  simp only [blobHandlers, List.mem_cons, List.not_mem_nil, or_false] at hm
  rcases hm with rfl | rfl | rfl | rfl | rfl | rfl | rfl | rfl
  all_goals
    dsimp only
    repeat' first
      | with_reducible refine InvStep.of fun _ e₀ => execAttestChallenge_inv (e₀ := e₀) (h₀ := h₀)
      | with_reducible refine InvStep.of fun _ e₀ => execDebugResponse_inv (e₀ := e₀) (h₀ := h₀)
      | with_reducible refine InvStep.of fun _ e₀ => execEffectData_inv (e₀ := e₀) (h₀ := h₀)
      | with_reducible refine InvStep.of fun _ e₀ => execFuseMapProgram_inv (e₀ := e₀) (h₀ := h₀)
      | with_reducible refine InvStep.of fun _ e₀ => execGrantRequest_inv (e₀ := e₀) (h₀ := h₀)
      | with_reducible refine InvStep.of fun _ e₀ => execInbox_inv (e₀ := e₀) (h₀ := h₀)
      | with_reducible refine InvStep.of fun _ e₀ => execManifest_inv (e₀ := e₀) (h₀ := h₀)
      | with_reducible refine InvStep.of fun _ e₀ => execPieceIn_inv (e₀ := e₀) (h₀ := h₀)

theorem State.writeBlob_inv (s : State) (who : Requester) (p : Place) (b : Bytes) (env : WriteEnv) (h₀ : Inv s) :
    Inv (State.writeBlob s who p b env) := by
  unfold State.writeBlob
  split
  · rename_i h e
    exact settled_inv _ _ (blobHandlers_inv h (List.mem_of_find?_eq_some e) _ _ _ _ _ h₀) h₀
  · exact Inv.via (State.plainBlob_frame _ _ _ _ (hs₀ := List.Subset.refl _) (h₀ := Frame.refl _ _)) (by decide) h₀

theorem State.writeSegment_inv (s : State) (who : Requester) (p : Place) (offset : ℕ) (last : Bool) (total : ℕ) (data : Bytes) (env : WriteEnv) (h₀ : Inv s) : Inv (State.writeSegment s who p offset last total data env) := by
  unfold State.writeSegment
  repeat' first
    | with_reducible assumption
    | with_reducible apply State.answer_inv
    | with_reducible apply State.writeBlob_inv
    | (conv => arg 1; arg 50); with_reducible refine Inv.set_staging ?_
    | with_reducible refine Inv.ite ?_ ?_
    | dsimp only
    | split

theorem State.writeValue_inv (s : State) (who : Requester) (p : Place) (v : Int) (env : WriteEnv) (h₀ : Inv s) :
    Inv (State.writeValue s who p v env) := by
  unfold State.writeValue
  split
  · rename_i h e
    have hm := List.mem_of_find?_eq_some e
    simp only [List.mem_append] at hm
    refine settled_inv _ _ ?_ h₀
    rcases hm with ((((hm | hm) | hm) | hm) | hm)
    · exact handlersA_inv h hm _ _ _ _ _ h₀
    · exact handlersB_inv h hm _ _ _ _ _ h₀
    · exact handlersC_inv h hm _ _ _ _ _ h₀
    · exact handlersD_inv h hm _ _ _ _ _ h₀
    · exact handlersE_inv h hm _ _ _ _ _ h₀
  · exact Inv.via (State.plainWrite_frame _ _ _ _ (hs₀ := List.Subset.refl _) (h₀ := Frame.refl _ _)) (by decide) h₀

theorem State.ackResult_inv (s : State) (who : Requester) (area : ℕ) (idx : ℕ) (tq : ℕ) (gen : ℕ) (h₀ : Inv s) : Inv (State.ackResult s who area idx tq gen) :=
  Inv.via (State.ackResult_frame s who area idx tq gen (hs₀ := List.Subset.refl _) (h₀ := Frame.refl _ _)) (by decide) h₀

theorem State.dictWrite_inv (s : State) (who : Requester) (area : ℕ) (idx : ℕ) (sub : ℕ) (tq : ℕ) (g : Segment) (data : Bytes) (env : WriteEnv) (h₀ : Inv s) : Inv (State.dictWrite s who area idx sub tq g data env) := by
  unfold State.dictWrite
  repeat' first
    | with_reducible assumption
    | with_reducible apply State.onRequest_inv
    | with_reducible apply State.answer_inv
    | with_reducible apply State.writeValue_inv
    | with_reducible apply State.writeSegment_inv
    | with_reducible apply State.mailboxSpoof_inv
    | with_reducible apply State.ackResult_inv
    | with_reducible refine Inv.ite ?_ ?_
    | with_reducible intro _
    | split

theorem State.dictRead_inv (s : State) (who : Requester) (area : ℕ) (idx : ℕ) (sub : ℕ) (tq : ℕ) (q : ReadReq) (h₀ : Inv s) : Inv (State.dictRead s who area idx sub tq q) :=
  Inv.via (State.dictRead_frame s who area idx sub tq q (hs₀ := List.Subset.refl _) (h₀ := Frame.refl _ _)) (by decide) h₀

theorem State.capture_inv (s : State) (f : State → State) (hf : ∀ x0, Inv x0 → Inv (f x0)) (h₀ : Inv s) : Inv (State.capture s f).2 := by
  unfold State.capture
  repeat' first
    | with_reducible assumption
    | (conv => arg 1; arg 50); with_reducible refine Inv.set_out ?_
    | with_reducible apply hf
    | dsimp only

theorem State.capture_invOut (s : State) (f : State → State) (hf : ∀ x0, Inv x0 → Inv (f x0)) {y₀ z₀} (e₀ : State.capture s f = (y₀, z₀)) (h₀ : Inv s) : Inv z₀ := by
  have x₀ := State.capture_inv s f hf h₀; rw [e₀] at x₀; exact x₀

theorem State.wrongType_inv (s : State) (who : Requester) (area : ℕ) (idx : ℕ) (sub : ℕ) (tq : ℕ) (write : Bool) (h₀ : Inv s) : Inv (State.wrongType s who area idx sub tq write) :=
  Inv.via (State.wrongType_frame s who area idx sub tq write (hs₀ := List.Subset.refl _) (h₀ := Frame.refl _ _)) (by decide) h₀

theorem State.commitEntry_inv (s : State) (who : Requester) (tq : ℕ) (others : Around) (env : WriteEnv) (e : Entry) (h₀ : Inv s) : Inv (State.commitEntry s who tq others env e) := by
  unfold State.commitEntry
  repeat' first
    | with_reducible assumption
    | with_reducible apply State.dictWrite_inv
    | with_reducible apply State.writeGuardCommit_inv
    | with_reducible apply State.writeLayerCommit_inv
    | with_reducible apply State.wrongType_inv
    | with_reducible refine Inv.ite ?_ ?_
    | dsimp only
    | split

theorem State.entry_inv (s : State) (who : Requester) (typ : ℕ) (tq : ℕ) (limit : ℕ) (env : WriteEnv) (others : Around) (e : Entry) (h₀ : Inv s) : Inv (State.entry s who typ tq limit env others e).2 := by
  unfold State.entry
  repeat' first
    | with_reducible assumption
    | with_reducible apply State.dictWrite_inv
    | with_reducible apply State.dictRead_inv
    | with_reducible apply State.commitEntry_inv
    | with_reducible apply State.capture_inv
    | with_reducible refine Inv.ite ?_ ?_
    | with_reducible intro _

theorem State.entry_invOut (s : State) (who : Requester) (typ : ℕ) (tq : ℕ) (limit : ℕ) (env : WriteEnv) (others : Around) (e : Entry) {y₀ z₀} (e₀ : State.entry s who typ tq limit env others e = (y₀, z₀)) (h₀ : Inv s) : Inv z₀ := by
  have x₀ := State.entry_inv s who typ tq limit env others e h₀; rw [e₀] at x₀; exact x₀

theorem State.entries_inv (s : State) (who : Requester) (typ tq limit : ℕ) (env : WriteEnv) (armed : List SetCommit) (q7 : List Entry)
    (h₀ : Inv s) : Inv (State.entries s who typ tq limit env armed q7).2 := by
  induction q7 generalizing s armed with
  | nil => exact h₀
  | cons e l ih => exact ih _ _ (State.entry_inv _ _ _ _ _ _ _ _ h₀)

theorem State.entries_invOut (s : State) (who : Requester) (typ tq limit : ℕ) (env : WriteEnv) (armed : List SetCommit)
    (q7 : List Entry) {y₀ z₀} (e₀ : State.entries s who typ tq limit env armed q7 = (y₀, z₀)) (h₀ : Inv s) : Inv z₀ := by
  have x₀ := State.entries_inv s who typ tq limit env armed q7 h₀; rw [e₀] at x₀; exact x₀

theorem State.transfer_inv (s : State) (who : Requester) (typ : ℕ) (tq : ℕ) (limit : ℕ) (env : WriteEnv) (body : Bytes) (h₀ : Inv s) : InvOut (State.transfer s who typ tq limit env body) := by
  unfold State.transfer
  repeat' first
    | with_reducible assumption
    | with_reducible apply State.entries_inv
    | with_reducible exact InvOut.ofNone
    | with_reducible refine InvOut.ofSome ?_
    | with_reducible refine InvOut.ite ?_ ?_
    | split

theorem execDictionaryWrite_inv {t₀ : State} (who : Requester) (area : Fin 16) (idx : ℕ) (sub : ℕ) (tq : Option (Fin 512)) (data : Bytes) (env : WriteEnv) (s : State) (e₀ : execDictionaryWrite who area idx sub tq data env s = .next t₀) (h₀ : Inv s) : Inv t₀ := by
  unfold execDictionaryWrite at e₀
  cases e₀
  repeat' first
    | with_reducible assumption
    | with_reducible apply State.dictWrite_inv

theorem execSafeStore_inv {t₀ : State} (who : Requester) (n : Fin 8) (offset : ℕ) (last : Bool) (data : Bytes) (s : State) (e₀ : execSafeStore who n offset last data s = .next t₀) (h₀ : Inv s) : Inv t₀ := by
  unfold execSafeStore at e₀
  cases e₀
  repeat' first
    | with_reducible assumption
    | with_reducible apply State.dictWrite_inv

theorem State.subscribe_inv (s : State) (who : Requester) (id : PeerId) (area : ℕ) (idx : ℕ) (sub : ℕ) (tq : ℕ) (condition : ℕ) (interval : ℕ) (h₀ : Inv s) : Inv (State.subscribe s who id area idx sub tq condition interval) :=
  Inv.via (State.subscribe_frame s who id area idx sub tq condition interval (hs₀ := List.Subset.refl _) (h₀ := Frame.refl _ _)) (by decide) h₀

theorem State.settleLevel_inv (s : State) (k : ℕ) (h₀ : Inv s) : Inv (State.settleLevel s k) :=
  Inv.via (State.settleLevel_frame s k (hs₀ := List.Subset.refl _) (h₀ := Frame.refl _ _)) (by decide) h₀

theorem State.touchSession_inv (s : State) (k : ℕ) (h : Header) (h₀ : Inv s) : Inv (State.touchSession s k h) :=
  Inv.via (State.touchSession_frame s k h (hs₀ := List.Subset.refl _) (h₀ := Frame.refl _ _)) (by decide) h₀

theorem State.resend_inv (s : State) (id : PeerId) (k : ℕ) (seq : ℕ) (h₀ : Inv s) : Inv (State.resend s id k seq) :=
  Inv.via (State.resend_frame s id k seq (hs₀ := List.Subset.refl _) (h₀ := Frame.refl _ _)) (by decide) h₀

theorem State.onFrame_inv (s : State) (typ : ℕ) (src : PeerSource) (b : Bytes) (f : Serve) (hf : ∀ x0 x1 x2 x3, Inv x3 → InvOut (f x0 x1 x2 x3)) (h₀ : Inv s) : Inv (State.onFrame s typ src b f) := by
  unfold State.onFrame
  repeat' first
    | with_reducible assumption
    | with_reducible apply State.cacheResponse_inv
    | with_reducible apply State.resend_inv
    | refine State.takeSeq_invOut (e₀ := by with_reducible assumption) (h₀ := ?_)
    | with_reducible apply State.touchSession_inv
    | with_reducible apply State.settleLevel_inv
    | with_reducible apply State.count_inv
    | with_reducible apply State.emit_inv
    | (conv => arg 1; arg 50); with_reducible refine Inv.set_peerLevel ?_
    | with_reducible refine InvOut.get (h := hf _ _ _ _ ?_) (e := by with_reducible assumption)
    | with_reducible refine Inv.ite ?_ ?_
    | dsimp only
    | split

theorem State.shortRequest_inv (s : State) (who : Requester) (id : PeerId) (f : ShortFrame) (env : WriteEnv) (h₀ : Inv s) : Inv (State.shortRequest s who id f env).2 := by
  unfold State.shortRequest
  repeat' first
    | with_reducible assumption
    | with_reducible apply State.dictWrite_inv
    | with_reducible apply State.dictRead_inv
    | with_reducible apply State.subscribe_inv
    | with_reducible apply State.wrongType_inv
    | with_reducible apply State.commitEntry_inv
    | with_reducible apply State.capture_inv
    | with_reducible refine Inv.ite ?_ ?_
    | with_reducible intro _
    | dsimp only
    | split

theorem State.shortRequest_invOut (s : State) (who : Requester) (id : PeerId) (f : ShortFrame) (env : WriteEnv) {y₀ z₀} (e₀ : State.shortRequest s who id f env = (y₀, z₀)) (h₀ : Inv s) : Inv z₀ := by
  have x₀ := State.shortRequest_inv s who id f env h₀; rw [e₀] at x₀; exact x₀

theorem State.onShort_inv (s : State) (typ : ℕ) (bus : ℕ) (id_ : ℕ) (data : Bytes) (env : WriteEnv) (h₀ : Inv s) : Inv (State.onShort s typ bus id_ data env) := by
  unfold State.onShort
  repeat' first
    | with_reducible assumption
    | with_reducible apply State.cacheResponse_inv
    | with_reducible apply State.resend_inv
    | refine State.takeSeq_invOut (e₀ := by with_reducible assumption) (h₀ := ?_)
    | refine State.shortRequest_invOut (e₀ := by with_reducible assumption) (h₀ := ?_)
    | with_reducible apply State.emit_inv
    | (conv => arg 1; arg 50); with_reducible refine Inv.set_peerLevel ?_
    | with_reducible refine Inv.ite ?_ ?_
    | dsimp only
    | split

theorem State.onBda_inv (s : State) (typ : ℕ) (src : PeerSource) (frame : BdaFrame) (env : WriteEnv) (f : Serve) (hf : ∀ x0 x1 x2 x3, Inv x3 → InvOut (f x0 x1 x2 x3)) (h₀ : Inv s) : Inv (State.onBda s typ src frame env f) := by
  unfold State.onBda
  repeat' first
    | with_reducible assumption
    | with_reducible apply State.onShort_inv
    | with_reducible apply State.onFrame_inv
    | with_reducible refine Inv.ite ?_ ?_
    | split

theorem execBdaRead_inv {t₀ : State} (src : PeerSource) (frame : BdaFrame) (s : State) (e₀ : execBdaRead src frame s = .next t₀) (h₀ : Inv s) : Inv t₀ := by
  unfold execBdaRead at e₀
  cases e₀
  repeat' first
    | with_reducible assumption
    | with_reducible apply State.onBda_inv
    | with_reducible apply State.transfer_inv
    | with_reducible intro _

theorem execBdaWrite_inv {t₀ : State} (src : PeerSource) (frame : BdaFrame) (env : WriteEnv) (s : State) (e₀ : execBdaWrite src frame env s = .next t₀) (h₀ : Inv s) : Inv t₀ := by
  unfold execBdaWrite at e₀
  cases e₀
  repeat' first
    | with_reducible assumption
    | with_reducible apply State.onBda_inv
    | with_reducible apply State.transfer_inv
    | with_reducible intro _

theorem execBdaCommit_inv {t₀ : State} (src : PeerSource) (frame : BdaFrame) (s : State) (e₀ : execBdaCommit src frame s = .next t₀) (h₀ : Inv s) : Inv t₀ := by
  unfold execBdaCommit at e₀
  cases e₀
  repeat' first
    | with_reducible assumption
    | with_reducible apply State.onBda_inv
    | with_reducible apply State.transfer_inv
    | with_reducible intro _

theorem State.notifyEntries_inv (s : State) (k : ℕ) (id : PeerId) (tq : ℕ) (q4 : ℕ) (q5 : Bytes) (h₀ : Inv s) : InvOut (State.notifyEntries s k id tq q4 q5) := fun y z e =>
  Inv.via (State.notifyEntries_frame s k id tq q4 q5 (hs₀ := List.Subset.refl _) (h₀ := Frame.refl _ _) y z e) (by decide) h₀

theorem execBdaNotify_inv {t₀ : State} (src : PeerSource) (frame : BdaFrame) (s : State) (e₀ : execBdaNotify src frame s = .next t₀) (h₀ : Inv s) : Inv t₀ := by
  unfold execBdaNotify at e₀
  cases e₀
  repeat' first
    | with_reducible assumption
    | with_reducible apply State.onBda_inv
    | with_reducible apply State.notifyEntries_inv
    | with_reducible exact InvOut.ofNone
    | with_reducible refine InvOut.ite ?_ ?_
    | with_reducible intro _
    | split

theorem State.blockEntries_inv (s : State) (k : ℕ) (tq : ℕ) (q3 : ℕ) (q4 : Bytes) (h₀ : Inv s) : InvOut (State.blockEntries s k tq q3 q4) := fun y z e =>
  Inv.via (State.blockEntries_frame s k tq q3 q4 (hs₀ := List.Subset.refl _) (h₀ := Frame.refl _ _) y z e) (by decide) h₀

theorem execBdaBlock_inv {t₀ : State} (src : PeerSource) (frame : BdaFrame) (s : State) (e₀ : execBdaBlock src frame s = .next t₀) (h₀ : Inv s) : Inv t₀ := by
  unfold execBdaBlock at e₀
  cases e₀
  repeat' first
    | with_reducible assumption
    | with_reducible apply State.onBda_inv
    | with_reducible apply State.blockEntries_inv
    | with_reducible exact InvOut.ofNone
    | with_reducible refine InvOut.ite ?_ ?_
    | with_reducible intro _

theorem State.setMbox_inv (s : State) (p : MbPath) (m : Mailbox) (h₀ : Inv s) : Inv (State.setMbox s p m) :=
  Inv.via (State.setMbox_frame s p m (hs₀ := List.Subset.refl _) (h₀ := Frame.refl _ _)) (by decide) h₀

theorem State.onMbox_inv (s : State) (p : MbPath) (f : State → State) (hf : ∀ x0, Inv x0 → Inv (f x0)) (h₀ : Inv s) : Inv (State.onMbox s p f) := by
  unfold State.onMbox
  repeat' first
    | with_reducible assumption
    | with_reducible apply State.count_inv
    | with_reducible apply hf
    | with_reducible refine Inv.ite ?_ ?_
    | split

theorem State.serveMbox_inv (s : State) (p : MbPath) (h₀ : Inv s) : Inv (State.serveMbox s p) := by
  unfold State.serveMbox
  repeat' first
    | with_reducible assumption
    | with_reducible apply State.setMbox_inv
    | with_reducible refine InvOut.get (h := State.transfer_inv _ _ _ _ _ _ _ (h₀ := ?_)) (e := by with_reducible assumption)
    | dsimp only
    | split

theorem execMbSend_inv {t₀ : State} (path : MbPath) (typ : Fin 16) (tq : Option (Fin 512)) (body : Bytes) (env : WriteEnv) (s : State) (e₀ : execMbSend path typ tq body env s = .next t₀) (h₀ : Inv s) : Inv t₀ := by
  unfold execMbSend at e₀
  cases e₀
  repeat' first
    | with_reducible assumption
    | with_reducible apply State.setMbox_inv
    | with_reducible apply State.serveMbox_inv
    | with_reducible apply State.onMbox_inv
    | with_reducible refine Inv.ite ?_ ?_
    | with_reducible intro _

theorem State.serveHeld_inv (s : State) (h₀ : Inv s) : Inv (State.serveHeld s) := by
  unfold State.serveHeld
  repeat' first
    | with_reducible assumption
    | with_reducible apply State.serveMbox_inv
    | with_reducible refine Inv.each (fun _ _ _ => ?_) ?_

theorem State.mgmtStart_inv (s : State) (lost : Bool) (skipped : List ℕ) (fails : List ℕ) (h₀ : Inv s) : Inv (State.mgmtStart s lost skipped fails) :=
  Inv.via (State.mgmtStart_frame s lost skipped fails (hs₀ := List.Subset.refl _) (h₀ := Frame.refl _ _)) (by decide) h₀

theorem execMgmtReady_inv {t₀ : State} (lost : Bool) (skipped : List ℕ) (fails : List ℕ) (s : State) (e₀ : execMgmtReady lost skipped fails s = .next t₀) (h₀ : Inv s) : Inv t₀ := by
  unfold execMgmtReady at e₀
  cases e₀
  repeat' first
    | with_reducible assumption
    | with_reducible apply State.mgmtStart_inv
    | with_reducible apply State.serveHeld_inv
    | with_reducible apply State.firmware_inv
    | with_reducible refine Inv.ite ?_ ?_
    | with_reducible intro _

theorem State.ungateHw_inv (s : State) (k : ℕ) (h₀ : Inv s) : Inv (State.ungateHw s k) := by
  unfold State.ungateHw
  repeat' first
    | with_reducible assumption
    | with_reducible apply State.lockPll_inv
    | with_reducible apply State.serveHeld_inv
    | with_reducible apply State.fetch_inv
    | (conv => arg 1; arg 50); with_reducible refine Inv.set_rst ?_
    | with_reducible refine Inv.ite ?_ ?_
    | with_reducible refine Inv.each (fun _ _ _ => ?_) ?_

theorem execHwPllRelocked_inv {t₀ : State} (k : Fin 3) (ok : Bool) (s : State) (e₀ : execHwPllRelocked k ok s = .next t₀) (h₀ : Inv s) : Inv t₀ := by
  unfold execHwPllRelocked at e₀
  cases e₀
  repeat' first
    | with_reducible assumption
    | with_reducible apply State.ungateHw_inv
    | with_reducible apply State.wr_inv
    | with_reducible apply State.assertReset_inv
    | (conv => arg 1; arg 50); with_reducible refine Inv.set_rst ?_
    | with_reducible refine Inv.ite ?_ ?_

theorem State.callAccess_inv (s : State) (e : ℕ) (area : ℕ) (idx : ℕ) (sub : ℕ) (f : State → State) (hf : ∀ x0, Inv x0 → Inv (f x0)) (h₀ : Inv s) : Inv (State.callAccess s e area idx sub f) := by
  unfold State.callAccess
  repeat' first
    | with_reducible assumption
    | with_reducible apply State.reply_inv
    | with_reducible apply State.capture_inv
    | with_reducible refine Inv.ite ?_ ?_

theorem execEnclaveWrite_inv {t₀ : State} (e : Fin 64) (area : Fin 16) (idx : ℕ) (sub : ℕ) (data : Bytes) (s : State) (e₀ : execEnclaveWrite e area idx sub data s = .next t₀) (h₀ : Inv s) : Inv t₀ := by
  unfold execEnclaveWrite at e₀
  cases e₀
  repeat' first
    | with_reducible assumption
    | with_reducible apply State.reply_inv
    | with_reducible apply State.dictWrite_inv
    | with_reducible apply State.onCall_inv
    | with_reducible apply State.wr_inv
    | with_reducible apply State.callAccess_inv
    | with_reducible refine Inv.ite ?_ ?_
    | with_reducible intro _
    | split

theorem execFrameBoundary_inv {t₀ : State} (n : Fin 8) (s : State) (e₀ : execFrameBoundary n s = .next t₀) (h₀ : Inv s) : Inv t₀ := by
  unfold execFrameBoundary at e₀
  cases e₀
  repeat' first
    | with_reducible assumption
    | with_reducible apply State.retarget_inv
    | with_reducible apply State.frameBoundary_inv
    | with_reducible apply State.touchPlan_inv
    | with_reducible apply State.lateLayers_inv
    | with_reducible apply State.setDsp_inv
    | with_reducible refine Inv.ite ?_ ?_

theorem execLineStart_inv {t₀ : State} (n : Fin 8) (room : Bool) (s : State) (e₀ : execLineStart n room s = .next t₀) (h₀ : Inv s) : Inv t₀ := by
  unfold execLineStart at e₀
  cases e₀
  repeat' first
    | with_reducible assumption
    | with_reducible apply State.lineStart_inv
    | with_reducible apply State.escalate_inv
    | with_reducible apply State.endGuardFrame_inv
    | with_reducible refine Inv.ite ?_ ?_
    | dsimp only
    | split

end Sys2Proof.Machine
end

