-- ==== Sys2Proof/Laws/State.lean ====
section
/-! SUPPORT. What each named update of the state leaves and what it puts, field by field, and reads of objects after writes. -/
namespace Sys2Proof.Machine

/-! ### Finite maps -/

section Maps
variable {κ α : Type} [DecidableEq κ]

@[simp] theorem FMap.find_nil (k : κ) : FMap.find ([] : FMap κ α) k = none := rfl

theorem FMap.find_put (m : FMap κ α) (k q : κ) (v : α) : (m.put k v).find q = if q = k then some v else m.find q := by
  induction m with
  | nil => simp only [FMap.put, FMap.find]; split <;> split <;> simp_all
  | cons e m ih =>
    obtain ⟨a, w⟩ := e
    simp only [FMap.put]
    split
    · subst a; simp only [FMap.find]; by_cases h : k = q <;> simp [h, eq_comm]
    · rename_i ha
      simp only [FMap.find, ih]
      by_cases h : a = q
      · subst q; simp [ha]
      · simp [h]

@[simp] theorem FMap.find_put_self (m : FMap κ α) (k : κ) (v : α) : (m.put k v).find k = some v := by simp [FMap.find_put]

theorem FMap.find_put_of_ne (m : FMap κ α) {k q : κ} (v : α) (h : q ≠ k) : (m.put k v).find q = m.find q := by simp [FMap.find_put, h]

theorem FMap.getD_put (m : FMap κ α) (k q : κ) (v d : α) : (m.put k v).getD q d = if q = k then v else m.getD q d := by
  simp only [FMap.getD, FMap.find_put]; split <;> rfl

theorem FMap.find_del (m : FMap κ α) (k q : κ) : (m.del k).find q = if q = k then none else m.find q := by
  induction m with
  | nil => simp [FMap.del]
  | cons e m ih =>
    obtain ⟨a, w⟩ := e
    simp only [FMap.del, List.filter_cons, decide_not] at ih ⊢
    by_cases h : a = k
    · subst a
      simp only [decide_true, Bool.not_true, Bool.false_eq_true, if_false, ih, FMap.find]
      by_cases g : q = k
      · simp [g]
      · simp [g, Ne.symm g]
    · simp only [h, decide_false, Bool.not_false, if_true, FMap.find, ih]
      by_cases g : a = q
      · subst q; simp [h]
      · simp [g]

end Maps

/-! ### Objects that keep their active copies -/

theorem SameObjectsBut.refl (s : State) (ks : List OKey) : SameObjectsBut s s ks := fun _ _ => rfl

theorem SameObjectsBut.trans {s t u : State} {ks : List OKey} (h : SameObjectsBut s t ks) (g : SameObjectsBut t u ks) :
    SameObjectsBut s u ks := fun k hk => (g k hk).trans (h k hk)

theorem SameObjectsBut.mono {s t : State} {ks qs : List OKey} (h : SameObjectsBut s t ks) (hs : ks ⊆ qs) : SameObjectsBut s t qs :=
  fun k hk => h k fun hm => hk (hs hm)

theorem SameObjectsBut.of_regs {s t : State} (ks : List OKey) (h : t.regs = s.regs) : SameObjectsBut s t ks := fun _ _ => by rw [h]

theorem SameObjectsBut.each {α : Type} {s : State} {ks : List OKey} {f : State → α → State} (l : List α)
    (h : ∀ u x, x ∈ l → SameObjectsBut u (f u x) ks) : SameObjectsBut s (s.each l f) ks := by
  induction l generalizing s with
  | nil => exact .refl s ks
  | cons x l ih => exact (h s x (by simp)).trans (ih fun u y hy => h u y (by simp [hy]))

/-! ### Writes of objects -/

theorem State.noteSubs_regs (s : State) (k : OKey) (b : Bool) : (s.noteSubs k b).regs = s.regs := by unfold State.noteSubs; split <;> rfl

theorem State.noteChange_find (s : State) (r : ObjRow) (k : OKey) (h : r.saved = false ∨ k ≠ Obj.SETTINGS_STATE.key 0 0 512 0) :
    (s.noteChange r).regs.find k = s.regs.find k := by
  unfold State.noteChange
  split
  · unfold State.noteSaved
    dsimp only
    split
    · rfl
    · rcases h with h | h
      · simp_all
      · exact FMap.find_put_of_ne _ _ h
  · rfl

/-- What a write of an object leaves in each active copy; the state of saving apart where the object is saved (R490). -/
theorem State.wr_find (s : State) (r : ObjRow) (v : Int) (n i t j : Nat) (k : OKey)
    (h : r.saved = false ∨ k ≠ Obj.SETTINGS_STATE.key 0 0 512 0) :
    (s.wr r v n i t j).regs.find k = if k = r.key n i t j then some v else s.regs.find k := by
  unfold State.wr
  rw [State.noteSubs_regs, State.noteChange_find _ _ _ h]
  exact FMap.find_put _ _ _ _

/-- An object just written reads as it was written. -/
theorem State.rd_wr_self (s : State) (r : ObjRow) (v : Int) (n i t j : Nat)
    (h : r.saved = false ∨ r.key n i t j ≠ Obj.SETTINGS_STATE.key 0 0 512 0) : (s.wr r v n i t j).rd r n i t j = v := by
  simp [State.rd, State.wr_find s r v n i t j _ h]

/-- An object of another key reads as before. -/
theorem State.rd_wr_of_ne (s : State) (r q : ObjRow) (v : Int) (n i t j n' i' t' j' : Nat)
    (h : r.saved = false ∨ q.key n' i' t' j' ≠ Obj.SETTINGS_STATE.key 0 0 512 0) (hk : q.key n' i' t' j' ≠ r.key n i t j) :
    (s.wr r v n i t j).rd q n' i' t' j' = s.rd q n' i' t' j' := by
  simp [State.rd, State.wr_find s r v n i t j _ h, hk]

/-- A write of an object that is not saved changes no other active copy. -/
theorem SameObjectsBut.wr (s : State) (r : ObjRow) (v : Int) (n i t j : Nat) {ks : List OKey} (hs : r.saved = false)
    (hk : r.key n i t j ∈ ks) : SameObjectsBut s (s.wr r v n i t j) ks := by
  intro k h
  rw [State.wr_find s r v n i t j k (.inl hs), if_neg]
  intro e
  exact h (e ▸ hk)

/-- A write of an object changes no other active copy but the state of saving. -/
theorem SameObjectsBut.wrSaved (s : State) (r : ObjRow) (v : Int) (n i t j : Nat) {ks : List OKey} (hk : r.key n i t j ∈ ks)
    (hs : Obj.SETTINGS_STATE.key 0 0 512 0 ∈ ks) : SameObjectsBut s (s.wr r v n i t j) ks := by
  intro k h
  rw [State.wr_find s r v n i t j k (.inr fun e => h (e ▸ hs)), if_neg]
  intro e
  exact h (e ▸ hk)

/-! ### Every command answers a next state -/

/-- No command of the table stops the block. -/
theorem exec_next (c : Instr) (s : State) : ∃ t, exec c s = .next t := by cases c <;> exact ⟨_, rfl⟩


/-! ### setRas -/

theorem State.ras_setRas (s : State) (n : Nat) (v : Raster) (m : Nat) : (s.setRas n v).ras m = if m = n then v else s.ras m :=
  FMap.getD_put _ _ _ _ _
@[simp] theorem State.ras_setRas_self (s : State) (n : Nat) (v : Raster) : (s.setRas n v).ras n = v := by simp [State.ras_setRas]
@[simp] theorem State.pending_setRas (s : State) (n : Nat) (v : Raster) : (s.setRas n v).pending = s.pending := rfl
@[simp] theorem State.powered_setRas (s : State) (n : Nat) (v : Raster) : (s.setRas n v).powered = s.powered := rfl
@[simp] theorem State.time_setRas (s : State) (n : Nat) (v : Raster) : (s.setRas n v).time = s.time := rfl
@[simp] theorem State.regs_setRas (s : State) (n : Nat) (v : Raster) : (s.setRas n v).regs = s.regs := rfl
@[simp] theorem State.shadow_setRas (s : State) (n : Nat) (v : Raster) : (s.setRas n v).shadow = s.shadow := rfl
@[simp] theorem State.blobs_setRas (s : State) (n : Nat) (v : Raster) : (s.setRas n v).blobs = s.blobs := rfl
@[simp] theorem State.shadowBlobs_setRas (s : State) (n : Nat) (v : Raster) : (s.setRas n v).shadowBlobs = s.shadowBlobs := rfl
@[simp] theorem State.blobRev_setRas (s : State) (n : Nat) (v : Raster) : (s.setRas n v).blobRev = s.blobRev := rfl
@[simp] theorem State.staging_setRas (s : State) (n : Nat) (v : Raster) : (s.setRas n v).staging = s.staging := rfl
@[simp] theorem State.results_setRas (s : State) (n : Nat) (v : Raster) : (s.setRas n v).results = s.results := rfl
@[simp] theorem State.settings_setRas (s : State) (n : Nat) (v : Raster) : (s.setRas n v).settings = s.settings := rfl
@[simp] theorem State.rst_setRas (s : State) (n : Nat) (v : Raster) : (s.setRas n v).rst = s.rst := rfl
@[simp] theorem State.stn_setRas (s : State) (n : Nat) (v : Raster) : (s.setRas n v).stn = s.stn := rfl
@[simp] theorem State.snapshots_setRas (s : State) (n : Nat) (v : Raster) : (s.setRas n v).snapshots = s.snapshots := rfl
@[simp] theorem State.subscriptions_setRas (s : State) (n : Nat) (v : Raster) : (s.setRas n v).subscriptions = s.subscriptions := rfl
@[simp] theorem State.locks_setRas (s : State) (n : Nat) (v : Raster) : (s.setRas n v).locks = s.locks := rfl
@[simp] theorem State.mem_setRas (s : State) (n : Nat) (v : Raster) : (s.setRas n v).mem = s.mem := rfl
@[simp] theorem State.lostCells_setRas (s : State) (n : Nat) (v : Raster) : (s.setRas n v).lostCells = s.lostCells := rfl
@[simp] theorem State.poison_setRas (s : State) (n : Nat) (v : Raster) : (s.setRas n v).poison = s.poison := rfl
@[simp] theorem State.encKey_setRas (s : State) (n : Nat) (v : Raster) : (s.setRas n v).encKey = s.encKey := rfl
@[simp] theorem State.sec_setRas (s : State) (n : Nat) (v : Raster) : (s.setRas n v).sec = s.sec := rfl
@[simp] theorem State.net_setRas (s : State) (n : Nat) (v : Raster) : (s.setRas n v).net = s.net := rfl
@[simp] theorem State.upd_setRas (s : State) (n : Nat) (v : Raster) : (s.setRas n v).upd = s.upd := rfl
@[simp] theorem State.translator_setRas (s : State) (n : Nat) (v : Raster) : (s.setRas n v).translator = s.translator := rfl
@[simp] theorem State.energy_setRas (s : State) (n : Nat) (v : Raster) : (s.setRas n v).energy = s.energy := rfl
@[simp] theorem State.memc_setRas (s : State) (n : Nat) (v : Raster) : (s.setRas n v).memc = s.memc := rfl
@[simp] theorem State.comp_setRas (s : State) (n : Nat) (v : Raster) : (s.setRas n v).comp = s.comp := rfl
@[simp] theorem State.guard_setRas (s : State) (n : Nat) (v : Raster) : (s.setRas n v).guard = s.guard := rfl
@[simp] theorem State.disp_setRas (s : State) (n : Nat) (v : Raster) : (s.setRas n v).disp = s.disp := rfl
@[simp] theorem State.touch_setRas (s : State) (n : Nat) (v : Raster) : (s.setRas n v).touch = s.touch := rfl
@[simp] theorem State.haptic_setRas (s : State) (n : Nat) (v : Raster) : (s.setRas n v).haptic = s.haptic := rfl
@[simp] theorem State.audio_setRas (s : State) (n : Nat) (v : Raster) : (s.setRas n v).audio = s.audio := rfl
@[simp] theorem State.slices_setRas (s : State) (n : Nat) (v : Raster) : (s.setRas n v).slices = s.slices := rfl
@[simp] theorem State.ports_setRas (s : State) (n : Nat) (v : Raster) : (s.setRas n v).ports = s.ports := rfl
@[simp] theorem State.cv_setRas (s : State) (n : Nat) (v : Raster) : (s.setRas n v).cv = s.cv := rfl
@[simp] theorem State.ingress_setRas (s : State) (n : Nat) (v : Raster) : (s.setRas n v).ingress = s.ingress := rfl
@[simp] theorem State.touchQ_setRas (s : State) (n : Nat) (v : Raster) : (s.setRas n v).touchQ = s.touchQ := rfl
@[simp] theorem State.noteQ_setRas (s : State) (n : Nat) (v : Raster) : (s.setRas n v).noteQ = s.noteQ := rfl
@[simp] theorem State.encTouchQ_setRas (s : State) (n : Nat) (v : Raster) : (s.setRas n v).encTouchQ = s.encTouchQ := rfl
@[simp] theorem State.encNoteQ_setRas (s : State) (n : Nat) (v : Raster) : (s.setRas n v).encNoteQ = s.encNoteQ := rfl
@[simp] theorem State.hapticQ_setRas (s : State) (n : Nat) (v : Raster) : (s.setRas n v).hapticQ = s.hapticQ := rfl
@[simp] theorem State.stationLogQ_setRas (s : State) (n : Nat) (v : Raster) : (s.setRas n v).stationLogQ = s.stationLogQ := rfl
@[simp] theorem State.hwLogQ_setRas (s : State) (n : Nat) (v : Raster) : (s.setRas n v).hwLogQ = s.hwLogQ := rfl
@[simp] theorem State.alarmQ_setRas (s : State) (n : Nat) (v : Raster) : (s.setRas n v).alarmQ = s.alarmQ := rfl
@[simp] theorem State.alarms_setRas (s : State) (n : Nat) (v : Raster) : (s.setRas n v).alarms = s.alarms := rfl
@[simp] theorem State.logRings_setRas (s : State) (n : Nat) (v : Raster) : (s.setRas n v).logRings = s.logRings := rfl
@[simp] theorem State.peerLevel_setRas (s : State) (n : Nat) (v : Raster) : (s.setRas n v).peerLevel = s.peerLevel := rfl
@[simp] theorem State.pins_setRas (s : State) (n : Nat) (v : Raster) : (s.setRas n v).pins = s.pins := rfl
@[simp] theorem State.crossings_setRas (s : State) (n : Nat) (v : Raster) : (s.setRas n v).crossings = s.crossings := rfl
@[simp] theorem State.timers_setRas (s : State) (n : Nat) (v : Raster) : (s.setRas n v).timers = s.timers := rfl
@[simp] theorem State.out_setRas (s : State) (n : Nat) (v : Raster) : (s.setRas n v).out = s.out := rfl
@[simp] theorem State.free_setRas (s : State) (n : Nat) (v : Raster) : (s.setRas n v).free = s.free := rfl

/-! ### setCmp -/

theorem State.cmp_setCmp (s : State) (n : Nat) (v : Compositor) (m : Nat) : (s.setCmp n v).cmp m = if m = n then v else s.cmp m :=
  FMap.getD_put _ _ _ _ _
@[simp] theorem State.cmp_setCmp_self (s : State) (n : Nat) (v : Compositor) : (s.setCmp n v).cmp n = v := by simp [State.cmp_setCmp]
@[simp] theorem State.pending_setCmp (s : State) (n : Nat) (v : Compositor) : (s.setCmp n v).pending = s.pending := rfl
@[simp] theorem State.powered_setCmp (s : State) (n : Nat) (v : Compositor) : (s.setCmp n v).powered = s.powered := rfl
@[simp] theorem State.time_setCmp (s : State) (n : Nat) (v : Compositor) : (s.setCmp n v).time = s.time := rfl
@[simp] theorem State.regs_setCmp (s : State) (n : Nat) (v : Compositor) : (s.setCmp n v).regs = s.regs := rfl
@[simp] theorem State.shadow_setCmp (s : State) (n : Nat) (v : Compositor) : (s.setCmp n v).shadow = s.shadow := rfl
@[simp] theorem State.blobs_setCmp (s : State) (n : Nat) (v : Compositor) : (s.setCmp n v).blobs = s.blobs := rfl
@[simp] theorem State.shadowBlobs_setCmp (s : State) (n : Nat) (v : Compositor) : (s.setCmp n v).shadowBlobs = s.shadowBlobs := rfl
@[simp] theorem State.blobRev_setCmp (s : State) (n : Nat) (v : Compositor) : (s.setCmp n v).blobRev = s.blobRev := rfl
@[simp] theorem State.staging_setCmp (s : State) (n : Nat) (v : Compositor) : (s.setCmp n v).staging = s.staging := rfl
@[simp] theorem State.results_setCmp (s : State) (n : Nat) (v : Compositor) : (s.setCmp n v).results = s.results := rfl
@[simp] theorem State.settings_setCmp (s : State) (n : Nat) (v : Compositor) : (s.setCmp n v).settings = s.settings := rfl
@[simp] theorem State.rst_setCmp (s : State) (n : Nat) (v : Compositor) : (s.setCmp n v).rst = s.rst := rfl
@[simp] theorem State.stn_setCmp (s : State) (n : Nat) (v : Compositor) : (s.setCmp n v).stn = s.stn := rfl
@[simp] theorem State.snapshots_setCmp (s : State) (n : Nat) (v : Compositor) : (s.setCmp n v).snapshots = s.snapshots := rfl
@[simp] theorem State.subscriptions_setCmp (s : State) (n : Nat) (v : Compositor) : (s.setCmp n v).subscriptions = s.subscriptions := rfl
@[simp] theorem State.locks_setCmp (s : State) (n : Nat) (v : Compositor) : (s.setCmp n v).locks = s.locks := rfl
@[simp] theorem State.mem_setCmp (s : State) (n : Nat) (v : Compositor) : (s.setCmp n v).mem = s.mem := rfl
@[simp] theorem State.lostCells_setCmp (s : State) (n : Nat) (v : Compositor) : (s.setCmp n v).lostCells = s.lostCells := rfl
@[simp] theorem State.poison_setCmp (s : State) (n : Nat) (v : Compositor) : (s.setCmp n v).poison = s.poison := rfl
@[simp] theorem State.encKey_setCmp (s : State) (n : Nat) (v : Compositor) : (s.setCmp n v).encKey = s.encKey := rfl
@[simp] theorem State.sec_setCmp (s : State) (n : Nat) (v : Compositor) : (s.setCmp n v).sec = s.sec := rfl
@[simp] theorem State.net_setCmp (s : State) (n : Nat) (v : Compositor) : (s.setCmp n v).net = s.net := rfl
@[simp] theorem State.upd_setCmp (s : State) (n : Nat) (v : Compositor) : (s.setCmp n v).upd = s.upd := rfl
@[simp] theorem State.raster_setCmp (s : State) (n : Nat) (v : Compositor) : (s.setCmp n v).raster = s.raster := rfl
@[simp] theorem State.translator_setCmp (s : State) (n : Nat) (v : Compositor) : (s.setCmp n v).translator = s.translator := rfl
@[simp] theorem State.energy_setCmp (s : State) (n : Nat) (v : Compositor) : (s.setCmp n v).energy = s.energy := rfl
@[simp] theorem State.memc_setCmp (s : State) (n : Nat) (v : Compositor) : (s.setCmp n v).memc = s.memc := rfl
@[simp] theorem State.guard_setCmp (s : State) (n : Nat) (v : Compositor) : (s.setCmp n v).guard = s.guard := rfl
@[simp] theorem State.disp_setCmp (s : State) (n : Nat) (v : Compositor) : (s.setCmp n v).disp = s.disp := rfl
@[simp] theorem State.touch_setCmp (s : State) (n : Nat) (v : Compositor) : (s.setCmp n v).touch = s.touch := rfl
@[simp] theorem State.haptic_setCmp (s : State) (n : Nat) (v : Compositor) : (s.setCmp n v).haptic = s.haptic := rfl
@[simp] theorem State.audio_setCmp (s : State) (n : Nat) (v : Compositor) : (s.setCmp n v).audio = s.audio := rfl
@[simp] theorem State.slices_setCmp (s : State) (n : Nat) (v : Compositor) : (s.setCmp n v).slices = s.slices := rfl
@[simp] theorem State.ports_setCmp (s : State) (n : Nat) (v : Compositor) : (s.setCmp n v).ports = s.ports := rfl
@[simp] theorem State.cv_setCmp (s : State) (n : Nat) (v : Compositor) : (s.setCmp n v).cv = s.cv := rfl
@[simp] theorem State.ingress_setCmp (s : State) (n : Nat) (v : Compositor) : (s.setCmp n v).ingress = s.ingress := rfl
@[simp] theorem State.touchQ_setCmp (s : State) (n : Nat) (v : Compositor) : (s.setCmp n v).touchQ = s.touchQ := rfl
@[simp] theorem State.noteQ_setCmp (s : State) (n : Nat) (v : Compositor) : (s.setCmp n v).noteQ = s.noteQ := rfl
@[simp] theorem State.encTouchQ_setCmp (s : State) (n : Nat) (v : Compositor) : (s.setCmp n v).encTouchQ = s.encTouchQ := rfl
@[simp] theorem State.encNoteQ_setCmp (s : State) (n : Nat) (v : Compositor) : (s.setCmp n v).encNoteQ = s.encNoteQ := rfl
@[simp] theorem State.hapticQ_setCmp (s : State) (n : Nat) (v : Compositor) : (s.setCmp n v).hapticQ = s.hapticQ := rfl
@[simp] theorem State.stationLogQ_setCmp (s : State) (n : Nat) (v : Compositor) : (s.setCmp n v).stationLogQ = s.stationLogQ := rfl
@[simp] theorem State.hwLogQ_setCmp (s : State) (n : Nat) (v : Compositor) : (s.setCmp n v).hwLogQ = s.hwLogQ := rfl
@[simp] theorem State.alarmQ_setCmp (s : State) (n : Nat) (v : Compositor) : (s.setCmp n v).alarmQ = s.alarmQ := rfl
@[simp] theorem State.alarms_setCmp (s : State) (n : Nat) (v : Compositor) : (s.setCmp n v).alarms = s.alarms := rfl
@[simp] theorem State.logRings_setCmp (s : State) (n : Nat) (v : Compositor) : (s.setCmp n v).logRings = s.logRings := rfl
@[simp] theorem State.peerLevel_setCmp (s : State) (n : Nat) (v : Compositor) : (s.setCmp n v).peerLevel = s.peerLevel := rfl
@[simp] theorem State.pins_setCmp (s : State) (n : Nat) (v : Compositor) : (s.setCmp n v).pins = s.pins := rfl
@[simp] theorem State.crossings_setCmp (s : State) (n : Nat) (v : Compositor) : (s.setCmp n v).crossings = s.crossings := rfl
@[simp] theorem State.timers_setCmp (s : State) (n : Nat) (v : Compositor) : (s.setCmp n v).timers = s.timers := rfl
@[simp] theorem State.out_setCmp (s : State) (n : Nat) (v : Compositor) : (s.setCmp n v).out = s.out := rfl
@[simp] theorem State.free_setCmp (s : State) (n : Nat) (v : Compositor) : (s.setCmp n v).free = s.free := rfl

/-! ### setGrd -/

theorem State.grd_setGrd (s : State) (n : Nat) (v : Guard) (m : Nat) : (s.setGrd n v).grd m = if m = n then v else s.grd m :=
  FMap.getD_put _ _ _ _ _
@[simp] theorem State.grd_setGrd_self (s : State) (n : Nat) (v : Guard) : (s.setGrd n v).grd n = v := by simp [State.grd_setGrd]
@[simp] theorem State.pending_setGrd (s : State) (n : Nat) (v : Guard) : (s.setGrd n v).pending = s.pending := rfl
@[simp] theorem State.powered_setGrd (s : State) (n : Nat) (v : Guard) : (s.setGrd n v).powered = s.powered := rfl
@[simp] theorem State.time_setGrd (s : State) (n : Nat) (v : Guard) : (s.setGrd n v).time = s.time := rfl
@[simp] theorem State.regs_setGrd (s : State) (n : Nat) (v : Guard) : (s.setGrd n v).regs = s.regs := rfl
@[simp] theorem State.shadow_setGrd (s : State) (n : Nat) (v : Guard) : (s.setGrd n v).shadow = s.shadow := rfl
@[simp] theorem State.blobs_setGrd (s : State) (n : Nat) (v : Guard) : (s.setGrd n v).blobs = s.blobs := rfl
@[simp] theorem State.shadowBlobs_setGrd (s : State) (n : Nat) (v : Guard) : (s.setGrd n v).shadowBlobs = s.shadowBlobs := rfl
@[simp] theorem State.blobRev_setGrd (s : State) (n : Nat) (v : Guard) : (s.setGrd n v).blobRev = s.blobRev := rfl
@[simp] theorem State.staging_setGrd (s : State) (n : Nat) (v : Guard) : (s.setGrd n v).staging = s.staging := rfl
@[simp] theorem State.results_setGrd (s : State) (n : Nat) (v : Guard) : (s.setGrd n v).results = s.results := rfl
@[simp] theorem State.settings_setGrd (s : State) (n : Nat) (v : Guard) : (s.setGrd n v).settings = s.settings := rfl
@[simp] theorem State.rst_setGrd (s : State) (n : Nat) (v : Guard) : (s.setGrd n v).rst = s.rst := rfl
@[simp] theorem State.stn_setGrd (s : State) (n : Nat) (v : Guard) : (s.setGrd n v).stn = s.stn := rfl
@[simp] theorem State.snapshots_setGrd (s : State) (n : Nat) (v : Guard) : (s.setGrd n v).snapshots = s.snapshots := rfl
@[simp] theorem State.subscriptions_setGrd (s : State) (n : Nat) (v : Guard) : (s.setGrd n v).subscriptions = s.subscriptions := rfl
@[simp] theorem State.locks_setGrd (s : State) (n : Nat) (v : Guard) : (s.setGrd n v).locks = s.locks := rfl
@[simp] theorem State.mem_setGrd (s : State) (n : Nat) (v : Guard) : (s.setGrd n v).mem = s.mem := rfl
@[simp] theorem State.lostCells_setGrd (s : State) (n : Nat) (v : Guard) : (s.setGrd n v).lostCells = s.lostCells := rfl
@[simp] theorem State.poison_setGrd (s : State) (n : Nat) (v : Guard) : (s.setGrd n v).poison = s.poison := rfl
@[simp] theorem State.encKey_setGrd (s : State) (n : Nat) (v : Guard) : (s.setGrd n v).encKey = s.encKey := rfl
@[simp] theorem State.sec_setGrd (s : State) (n : Nat) (v : Guard) : (s.setGrd n v).sec = s.sec := rfl
@[simp] theorem State.net_setGrd (s : State) (n : Nat) (v : Guard) : (s.setGrd n v).net = s.net := rfl
@[simp] theorem State.upd_setGrd (s : State) (n : Nat) (v : Guard) : (s.setGrd n v).upd = s.upd := rfl
@[simp] theorem State.raster_setGrd (s : State) (n : Nat) (v : Guard) : (s.setGrd n v).raster = s.raster := rfl
@[simp] theorem State.translator_setGrd (s : State) (n : Nat) (v : Guard) : (s.setGrd n v).translator = s.translator := rfl
@[simp] theorem State.energy_setGrd (s : State) (n : Nat) (v : Guard) : (s.setGrd n v).energy = s.energy := rfl
@[simp] theorem State.memc_setGrd (s : State) (n : Nat) (v : Guard) : (s.setGrd n v).memc = s.memc := rfl
@[simp] theorem State.comp_setGrd (s : State) (n : Nat) (v : Guard) : (s.setGrd n v).comp = s.comp := rfl
@[simp] theorem State.disp_setGrd (s : State) (n : Nat) (v : Guard) : (s.setGrd n v).disp = s.disp := rfl
@[simp] theorem State.touch_setGrd (s : State) (n : Nat) (v : Guard) : (s.setGrd n v).touch = s.touch := rfl
@[simp] theorem State.haptic_setGrd (s : State) (n : Nat) (v : Guard) : (s.setGrd n v).haptic = s.haptic := rfl
@[simp] theorem State.audio_setGrd (s : State) (n : Nat) (v : Guard) : (s.setGrd n v).audio = s.audio := rfl
@[simp] theorem State.slices_setGrd (s : State) (n : Nat) (v : Guard) : (s.setGrd n v).slices = s.slices := rfl
@[simp] theorem State.ports_setGrd (s : State) (n : Nat) (v : Guard) : (s.setGrd n v).ports = s.ports := rfl
@[simp] theorem State.cv_setGrd (s : State) (n : Nat) (v : Guard) : (s.setGrd n v).cv = s.cv := rfl
@[simp] theorem State.ingress_setGrd (s : State) (n : Nat) (v : Guard) : (s.setGrd n v).ingress = s.ingress := rfl
@[simp] theorem State.touchQ_setGrd (s : State) (n : Nat) (v : Guard) : (s.setGrd n v).touchQ = s.touchQ := rfl
@[simp] theorem State.noteQ_setGrd (s : State) (n : Nat) (v : Guard) : (s.setGrd n v).noteQ = s.noteQ := rfl
@[simp] theorem State.encTouchQ_setGrd (s : State) (n : Nat) (v : Guard) : (s.setGrd n v).encTouchQ = s.encTouchQ := rfl
@[simp] theorem State.encNoteQ_setGrd (s : State) (n : Nat) (v : Guard) : (s.setGrd n v).encNoteQ = s.encNoteQ := rfl
@[simp] theorem State.hapticQ_setGrd (s : State) (n : Nat) (v : Guard) : (s.setGrd n v).hapticQ = s.hapticQ := rfl
@[simp] theorem State.stationLogQ_setGrd (s : State) (n : Nat) (v : Guard) : (s.setGrd n v).stationLogQ = s.stationLogQ := rfl
@[simp] theorem State.hwLogQ_setGrd (s : State) (n : Nat) (v : Guard) : (s.setGrd n v).hwLogQ = s.hwLogQ := rfl
@[simp] theorem State.alarmQ_setGrd (s : State) (n : Nat) (v : Guard) : (s.setGrd n v).alarmQ = s.alarmQ := rfl
@[simp] theorem State.alarms_setGrd (s : State) (n : Nat) (v : Guard) : (s.setGrd n v).alarms = s.alarms := rfl
@[simp] theorem State.logRings_setGrd (s : State) (n : Nat) (v : Guard) : (s.setGrd n v).logRings = s.logRings := rfl
@[simp] theorem State.peerLevel_setGrd (s : State) (n : Nat) (v : Guard) : (s.setGrd n v).peerLevel = s.peerLevel := rfl
@[simp] theorem State.pins_setGrd (s : State) (n : Nat) (v : Guard) : (s.setGrd n v).pins = s.pins := rfl
@[simp] theorem State.crossings_setGrd (s : State) (n : Nat) (v : Guard) : (s.setGrd n v).crossings = s.crossings := rfl
@[simp] theorem State.timers_setGrd (s : State) (n : Nat) (v : Guard) : (s.setGrd n v).timers = s.timers := rfl
@[simp] theorem State.out_setGrd (s : State) (n : Nat) (v : Guard) : (s.setGrd n v).out = s.out := rfl
@[simp] theorem State.free_setGrd (s : State) (n : Nat) (v : Guard) : (s.setGrd n v).free = s.free := rfl

/-! ### setDsp -/

theorem State.dsp_setDsp (s : State) (n : Nat) (v : Display) (m : Nat) : (s.setDsp n v).dsp m = if m = n then v else s.dsp m :=
  FMap.getD_put _ _ _ _ _
@[simp] theorem State.dsp_setDsp_self (s : State) (n : Nat) (v : Display) : (s.setDsp n v).dsp n = v := by simp [State.dsp_setDsp]
@[simp] theorem State.pending_setDsp (s : State) (n : Nat) (v : Display) : (s.setDsp n v).pending = s.pending := rfl
@[simp] theorem State.powered_setDsp (s : State) (n : Nat) (v : Display) : (s.setDsp n v).powered = s.powered := rfl
@[simp] theorem State.time_setDsp (s : State) (n : Nat) (v : Display) : (s.setDsp n v).time = s.time := rfl
@[simp] theorem State.regs_setDsp (s : State) (n : Nat) (v : Display) : (s.setDsp n v).regs = s.regs := rfl
@[simp] theorem State.shadow_setDsp (s : State) (n : Nat) (v : Display) : (s.setDsp n v).shadow = s.shadow := rfl
@[simp] theorem State.blobs_setDsp (s : State) (n : Nat) (v : Display) : (s.setDsp n v).blobs = s.blobs := rfl
@[simp] theorem State.shadowBlobs_setDsp (s : State) (n : Nat) (v : Display) : (s.setDsp n v).shadowBlobs = s.shadowBlobs := rfl
@[simp] theorem State.blobRev_setDsp (s : State) (n : Nat) (v : Display) : (s.setDsp n v).blobRev = s.blobRev := rfl
@[simp] theorem State.staging_setDsp (s : State) (n : Nat) (v : Display) : (s.setDsp n v).staging = s.staging := rfl
@[simp] theorem State.results_setDsp (s : State) (n : Nat) (v : Display) : (s.setDsp n v).results = s.results := rfl
@[simp] theorem State.settings_setDsp (s : State) (n : Nat) (v : Display) : (s.setDsp n v).settings = s.settings := rfl
@[simp] theorem State.rst_setDsp (s : State) (n : Nat) (v : Display) : (s.setDsp n v).rst = s.rst := rfl
@[simp] theorem State.stn_setDsp (s : State) (n : Nat) (v : Display) : (s.setDsp n v).stn = s.stn := rfl
@[simp] theorem State.snapshots_setDsp (s : State) (n : Nat) (v : Display) : (s.setDsp n v).snapshots = s.snapshots := rfl
@[simp] theorem State.subscriptions_setDsp (s : State) (n : Nat) (v : Display) : (s.setDsp n v).subscriptions = s.subscriptions := rfl
@[simp] theorem State.locks_setDsp (s : State) (n : Nat) (v : Display) : (s.setDsp n v).locks = s.locks := rfl
@[simp] theorem State.mem_setDsp (s : State) (n : Nat) (v : Display) : (s.setDsp n v).mem = s.mem := rfl
@[simp] theorem State.lostCells_setDsp (s : State) (n : Nat) (v : Display) : (s.setDsp n v).lostCells = s.lostCells := rfl
@[simp] theorem State.poison_setDsp (s : State) (n : Nat) (v : Display) : (s.setDsp n v).poison = s.poison := rfl
@[simp] theorem State.encKey_setDsp (s : State) (n : Nat) (v : Display) : (s.setDsp n v).encKey = s.encKey := rfl
@[simp] theorem State.sec_setDsp (s : State) (n : Nat) (v : Display) : (s.setDsp n v).sec = s.sec := rfl
@[simp] theorem State.net_setDsp (s : State) (n : Nat) (v : Display) : (s.setDsp n v).net = s.net := rfl
@[simp] theorem State.upd_setDsp (s : State) (n : Nat) (v : Display) : (s.setDsp n v).upd = s.upd := rfl
@[simp] theorem State.raster_setDsp (s : State) (n : Nat) (v : Display) : (s.setDsp n v).raster = s.raster := rfl
@[simp] theorem State.translator_setDsp (s : State) (n : Nat) (v : Display) : (s.setDsp n v).translator = s.translator := rfl
@[simp] theorem State.energy_setDsp (s : State) (n : Nat) (v : Display) : (s.setDsp n v).energy = s.energy := rfl
@[simp] theorem State.memc_setDsp (s : State) (n : Nat) (v : Display) : (s.setDsp n v).memc = s.memc := rfl
@[simp] theorem State.comp_setDsp (s : State) (n : Nat) (v : Display) : (s.setDsp n v).comp = s.comp := rfl
@[simp] theorem State.guard_setDsp (s : State) (n : Nat) (v : Display) : (s.setDsp n v).guard = s.guard := rfl
@[simp] theorem State.touch_setDsp (s : State) (n : Nat) (v : Display) : (s.setDsp n v).touch = s.touch := rfl
@[simp] theorem State.haptic_setDsp (s : State) (n : Nat) (v : Display) : (s.setDsp n v).haptic = s.haptic := rfl
@[simp] theorem State.audio_setDsp (s : State) (n : Nat) (v : Display) : (s.setDsp n v).audio = s.audio := rfl
@[simp] theorem State.slices_setDsp (s : State) (n : Nat) (v : Display) : (s.setDsp n v).slices = s.slices := rfl
@[simp] theorem State.ports_setDsp (s : State) (n : Nat) (v : Display) : (s.setDsp n v).ports = s.ports := rfl
@[simp] theorem State.cv_setDsp (s : State) (n : Nat) (v : Display) : (s.setDsp n v).cv = s.cv := rfl
@[simp] theorem State.ingress_setDsp (s : State) (n : Nat) (v : Display) : (s.setDsp n v).ingress = s.ingress := rfl
@[simp] theorem State.touchQ_setDsp (s : State) (n : Nat) (v : Display) : (s.setDsp n v).touchQ = s.touchQ := rfl
@[simp] theorem State.noteQ_setDsp (s : State) (n : Nat) (v : Display) : (s.setDsp n v).noteQ = s.noteQ := rfl
@[simp] theorem State.encTouchQ_setDsp (s : State) (n : Nat) (v : Display) : (s.setDsp n v).encTouchQ = s.encTouchQ := rfl
@[simp] theorem State.encNoteQ_setDsp (s : State) (n : Nat) (v : Display) : (s.setDsp n v).encNoteQ = s.encNoteQ := rfl
@[simp] theorem State.hapticQ_setDsp (s : State) (n : Nat) (v : Display) : (s.setDsp n v).hapticQ = s.hapticQ := rfl
@[simp] theorem State.stationLogQ_setDsp (s : State) (n : Nat) (v : Display) : (s.setDsp n v).stationLogQ = s.stationLogQ := rfl
@[simp] theorem State.hwLogQ_setDsp (s : State) (n : Nat) (v : Display) : (s.setDsp n v).hwLogQ = s.hwLogQ := rfl
@[simp] theorem State.alarmQ_setDsp (s : State) (n : Nat) (v : Display) : (s.setDsp n v).alarmQ = s.alarmQ := rfl
@[simp] theorem State.alarms_setDsp (s : State) (n : Nat) (v : Display) : (s.setDsp n v).alarms = s.alarms := rfl
@[simp] theorem State.logRings_setDsp (s : State) (n : Nat) (v : Display) : (s.setDsp n v).logRings = s.logRings := rfl
@[simp] theorem State.peerLevel_setDsp (s : State) (n : Nat) (v : Display) : (s.setDsp n v).peerLevel = s.peerLevel := rfl
@[simp] theorem State.pins_setDsp (s : State) (n : Nat) (v : Display) : (s.setDsp n v).pins = s.pins := rfl
@[simp] theorem State.crossings_setDsp (s : State) (n : Nat) (v : Display) : (s.setDsp n v).crossings = s.crossings := rfl
@[simp] theorem State.timers_setDsp (s : State) (n : Nat) (v : Display) : (s.setDsp n v).timers = s.timers := rfl
@[simp] theorem State.out_setDsp (s : State) (n : Nat) (v : Display) : (s.setDsp n v).out = s.out := rfl
@[simp] theorem State.free_setDsp (s : State) (n : Nat) (v : Display) : (s.setDsp n v).free = s.free := rfl

/-! ### setTch -/

theorem State.tch_setTch (s : State) (n : Nat) (v : Touch) (m : Nat) : (s.setTch n v).tch m = if m = n then v else s.tch m :=
  FMap.getD_put _ _ _ _ _
@[simp] theorem State.tch_setTch_self (s : State) (n : Nat) (v : Touch) : (s.setTch n v).tch n = v := by simp [State.tch_setTch]
@[simp] theorem State.pending_setTch (s : State) (n : Nat) (v : Touch) : (s.setTch n v).pending = s.pending := rfl
@[simp] theorem State.powered_setTch (s : State) (n : Nat) (v : Touch) : (s.setTch n v).powered = s.powered := rfl
@[simp] theorem State.time_setTch (s : State) (n : Nat) (v : Touch) : (s.setTch n v).time = s.time := rfl
@[simp] theorem State.regs_setTch (s : State) (n : Nat) (v : Touch) : (s.setTch n v).regs = s.regs := rfl
@[simp] theorem State.shadow_setTch (s : State) (n : Nat) (v : Touch) : (s.setTch n v).shadow = s.shadow := rfl
@[simp] theorem State.blobs_setTch (s : State) (n : Nat) (v : Touch) : (s.setTch n v).blobs = s.blobs := rfl
@[simp] theorem State.shadowBlobs_setTch (s : State) (n : Nat) (v : Touch) : (s.setTch n v).shadowBlobs = s.shadowBlobs := rfl
@[simp] theorem State.blobRev_setTch (s : State) (n : Nat) (v : Touch) : (s.setTch n v).blobRev = s.blobRev := rfl
@[simp] theorem State.staging_setTch (s : State) (n : Nat) (v : Touch) : (s.setTch n v).staging = s.staging := rfl
@[simp] theorem State.results_setTch (s : State) (n : Nat) (v : Touch) : (s.setTch n v).results = s.results := rfl
@[simp] theorem State.settings_setTch (s : State) (n : Nat) (v : Touch) : (s.setTch n v).settings = s.settings := rfl
@[simp] theorem State.rst_setTch (s : State) (n : Nat) (v : Touch) : (s.setTch n v).rst = s.rst := rfl
@[simp] theorem State.stn_setTch (s : State) (n : Nat) (v : Touch) : (s.setTch n v).stn = s.stn := rfl
@[simp] theorem State.snapshots_setTch (s : State) (n : Nat) (v : Touch) : (s.setTch n v).snapshots = s.snapshots := rfl
@[simp] theorem State.subscriptions_setTch (s : State) (n : Nat) (v : Touch) : (s.setTch n v).subscriptions = s.subscriptions := rfl
@[simp] theorem State.locks_setTch (s : State) (n : Nat) (v : Touch) : (s.setTch n v).locks = s.locks := rfl
@[simp] theorem State.mem_setTch (s : State) (n : Nat) (v : Touch) : (s.setTch n v).mem = s.mem := rfl
@[simp] theorem State.lostCells_setTch (s : State) (n : Nat) (v : Touch) : (s.setTch n v).lostCells = s.lostCells := rfl
@[simp] theorem State.poison_setTch (s : State) (n : Nat) (v : Touch) : (s.setTch n v).poison = s.poison := rfl
@[simp] theorem State.encKey_setTch (s : State) (n : Nat) (v : Touch) : (s.setTch n v).encKey = s.encKey := rfl
@[simp] theorem State.sec_setTch (s : State) (n : Nat) (v : Touch) : (s.setTch n v).sec = s.sec := rfl
@[simp] theorem State.net_setTch (s : State) (n : Nat) (v : Touch) : (s.setTch n v).net = s.net := rfl
@[simp] theorem State.upd_setTch (s : State) (n : Nat) (v : Touch) : (s.setTch n v).upd = s.upd := rfl
@[simp] theorem State.raster_setTch (s : State) (n : Nat) (v : Touch) : (s.setTch n v).raster = s.raster := rfl
@[simp] theorem State.translator_setTch (s : State) (n : Nat) (v : Touch) : (s.setTch n v).translator = s.translator := rfl
@[simp] theorem State.energy_setTch (s : State) (n : Nat) (v : Touch) : (s.setTch n v).energy = s.energy := rfl
@[simp] theorem State.memc_setTch (s : State) (n : Nat) (v : Touch) : (s.setTch n v).memc = s.memc := rfl
@[simp] theorem State.comp_setTch (s : State) (n : Nat) (v : Touch) : (s.setTch n v).comp = s.comp := rfl
@[simp] theorem State.guard_setTch (s : State) (n : Nat) (v : Touch) : (s.setTch n v).guard = s.guard := rfl
@[simp] theorem State.disp_setTch (s : State) (n : Nat) (v : Touch) : (s.setTch n v).disp = s.disp := rfl
@[simp] theorem State.haptic_setTch (s : State) (n : Nat) (v : Touch) : (s.setTch n v).haptic = s.haptic := rfl
@[simp] theorem State.audio_setTch (s : State) (n : Nat) (v : Touch) : (s.setTch n v).audio = s.audio := rfl
@[simp] theorem State.slices_setTch (s : State) (n : Nat) (v : Touch) : (s.setTch n v).slices = s.slices := rfl
@[simp] theorem State.ports_setTch (s : State) (n : Nat) (v : Touch) : (s.setTch n v).ports = s.ports := rfl
@[simp] theorem State.cv_setTch (s : State) (n : Nat) (v : Touch) : (s.setTch n v).cv = s.cv := rfl
@[simp] theorem State.ingress_setTch (s : State) (n : Nat) (v : Touch) : (s.setTch n v).ingress = s.ingress := rfl
@[simp] theorem State.touchQ_setTch (s : State) (n : Nat) (v : Touch) : (s.setTch n v).touchQ = s.touchQ := rfl
@[simp] theorem State.noteQ_setTch (s : State) (n : Nat) (v : Touch) : (s.setTch n v).noteQ = s.noteQ := rfl
@[simp] theorem State.encTouchQ_setTch (s : State) (n : Nat) (v : Touch) : (s.setTch n v).encTouchQ = s.encTouchQ := rfl
@[simp] theorem State.encNoteQ_setTch (s : State) (n : Nat) (v : Touch) : (s.setTch n v).encNoteQ = s.encNoteQ := rfl
@[simp] theorem State.hapticQ_setTch (s : State) (n : Nat) (v : Touch) : (s.setTch n v).hapticQ = s.hapticQ := rfl
@[simp] theorem State.stationLogQ_setTch (s : State) (n : Nat) (v : Touch) : (s.setTch n v).stationLogQ = s.stationLogQ := rfl
@[simp] theorem State.hwLogQ_setTch (s : State) (n : Nat) (v : Touch) : (s.setTch n v).hwLogQ = s.hwLogQ := rfl
@[simp] theorem State.alarmQ_setTch (s : State) (n : Nat) (v : Touch) : (s.setTch n v).alarmQ = s.alarmQ := rfl
@[simp] theorem State.alarms_setTch (s : State) (n : Nat) (v : Touch) : (s.setTch n v).alarms = s.alarms := rfl
@[simp] theorem State.logRings_setTch (s : State) (n : Nat) (v : Touch) : (s.setTch n v).logRings = s.logRings := rfl
@[simp] theorem State.peerLevel_setTch (s : State) (n : Nat) (v : Touch) : (s.setTch n v).peerLevel = s.peerLevel := rfl
@[simp] theorem State.pins_setTch (s : State) (n : Nat) (v : Touch) : (s.setTch n v).pins = s.pins := rfl
@[simp] theorem State.crossings_setTch (s : State) (n : Nat) (v : Touch) : (s.setTch n v).crossings = s.crossings := rfl
@[simp] theorem State.timers_setTch (s : State) (n : Nat) (v : Touch) : (s.setTch n v).timers = s.timers := rfl
@[simp] theorem State.out_setTch (s : State) (n : Nat) (v : Touch) : (s.setTch n v).out = s.out := rfl
@[simp] theorem State.free_setTch (s : State) (n : Nat) (v : Touch) : (s.setTch n v).free = s.free := rfl

/-! ### setHap -/

theorem State.hap_setHap (s : State) (n : Nat) (v : Haptic) (m : Nat) : (s.setHap n v).hap m = if m = n then v else s.hap m :=
  FMap.getD_put _ _ _ _ _
@[simp] theorem State.hap_setHap_self (s : State) (n : Nat) (v : Haptic) : (s.setHap n v).hap n = v := by simp [State.hap_setHap]
@[simp] theorem State.pending_setHap (s : State) (n : Nat) (v : Haptic) : (s.setHap n v).pending = s.pending := rfl
@[simp] theorem State.powered_setHap (s : State) (n : Nat) (v : Haptic) : (s.setHap n v).powered = s.powered := rfl
@[simp] theorem State.time_setHap (s : State) (n : Nat) (v : Haptic) : (s.setHap n v).time = s.time := rfl
@[simp] theorem State.regs_setHap (s : State) (n : Nat) (v : Haptic) : (s.setHap n v).regs = s.regs := rfl
@[simp] theorem State.shadow_setHap (s : State) (n : Nat) (v : Haptic) : (s.setHap n v).shadow = s.shadow := rfl
@[simp] theorem State.blobs_setHap (s : State) (n : Nat) (v : Haptic) : (s.setHap n v).blobs = s.blobs := rfl
@[simp] theorem State.shadowBlobs_setHap (s : State) (n : Nat) (v : Haptic) : (s.setHap n v).shadowBlobs = s.shadowBlobs := rfl
@[simp] theorem State.blobRev_setHap (s : State) (n : Nat) (v : Haptic) : (s.setHap n v).blobRev = s.blobRev := rfl
@[simp] theorem State.staging_setHap (s : State) (n : Nat) (v : Haptic) : (s.setHap n v).staging = s.staging := rfl
@[simp] theorem State.results_setHap (s : State) (n : Nat) (v : Haptic) : (s.setHap n v).results = s.results := rfl
@[simp] theorem State.settings_setHap (s : State) (n : Nat) (v : Haptic) : (s.setHap n v).settings = s.settings := rfl
@[simp] theorem State.rst_setHap (s : State) (n : Nat) (v : Haptic) : (s.setHap n v).rst = s.rst := rfl
@[simp] theorem State.stn_setHap (s : State) (n : Nat) (v : Haptic) : (s.setHap n v).stn = s.stn := rfl
@[simp] theorem State.snapshots_setHap (s : State) (n : Nat) (v : Haptic) : (s.setHap n v).snapshots = s.snapshots := rfl
@[simp] theorem State.subscriptions_setHap (s : State) (n : Nat) (v : Haptic) : (s.setHap n v).subscriptions = s.subscriptions := rfl
@[simp] theorem State.locks_setHap (s : State) (n : Nat) (v : Haptic) : (s.setHap n v).locks = s.locks := rfl
@[simp] theorem State.mem_setHap (s : State) (n : Nat) (v : Haptic) : (s.setHap n v).mem = s.mem := rfl
@[simp] theorem State.lostCells_setHap (s : State) (n : Nat) (v : Haptic) : (s.setHap n v).lostCells = s.lostCells := rfl
@[simp] theorem State.poison_setHap (s : State) (n : Nat) (v : Haptic) : (s.setHap n v).poison = s.poison := rfl
@[simp] theorem State.encKey_setHap (s : State) (n : Nat) (v : Haptic) : (s.setHap n v).encKey = s.encKey := rfl
@[simp] theorem State.sec_setHap (s : State) (n : Nat) (v : Haptic) : (s.setHap n v).sec = s.sec := rfl
@[simp] theorem State.net_setHap (s : State) (n : Nat) (v : Haptic) : (s.setHap n v).net = s.net := rfl
@[simp] theorem State.upd_setHap (s : State) (n : Nat) (v : Haptic) : (s.setHap n v).upd = s.upd := rfl
@[simp] theorem State.raster_setHap (s : State) (n : Nat) (v : Haptic) : (s.setHap n v).raster = s.raster := rfl
@[simp] theorem State.translator_setHap (s : State) (n : Nat) (v : Haptic) : (s.setHap n v).translator = s.translator := rfl
@[simp] theorem State.energy_setHap (s : State) (n : Nat) (v : Haptic) : (s.setHap n v).energy = s.energy := rfl
@[simp] theorem State.memc_setHap (s : State) (n : Nat) (v : Haptic) : (s.setHap n v).memc = s.memc := rfl
@[simp] theorem State.comp_setHap (s : State) (n : Nat) (v : Haptic) : (s.setHap n v).comp = s.comp := rfl
@[simp] theorem State.guard_setHap (s : State) (n : Nat) (v : Haptic) : (s.setHap n v).guard = s.guard := rfl
@[simp] theorem State.disp_setHap (s : State) (n : Nat) (v : Haptic) : (s.setHap n v).disp = s.disp := rfl
@[simp] theorem State.touch_setHap (s : State) (n : Nat) (v : Haptic) : (s.setHap n v).touch = s.touch := rfl
@[simp] theorem State.audio_setHap (s : State) (n : Nat) (v : Haptic) : (s.setHap n v).audio = s.audio := rfl
@[simp] theorem State.slices_setHap (s : State) (n : Nat) (v : Haptic) : (s.setHap n v).slices = s.slices := rfl
@[simp] theorem State.ports_setHap (s : State) (n : Nat) (v : Haptic) : (s.setHap n v).ports = s.ports := rfl
@[simp] theorem State.cv_setHap (s : State) (n : Nat) (v : Haptic) : (s.setHap n v).cv = s.cv := rfl
@[simp] theorem State.ingress_setHap (s : State) (n : Nat) (v : Haptic) : (s.setHap n v).ingress = s.ingress := rfl
@[simp] theorem State.touchQ_setHap (s : State) (n : Nat) (v : Haptic) : (s.setHap n v).touchQ = s.touchQ := rfl
@[simp] theorem State.noteQ_setHap (s : State) (n : Nat) (v : Haptic) : (s.setHap n v).noteQ = s.noteQ := rfl
@[simp] theorem State.encTouchQ_setHap (s : State) (n : Nat) (v : Haptic) : (s.setHap n v).encTouchQ = s.encTouchQ := rfl
@[simp] theorem State.encNoteQ_setHap (s : State) (n : Nat) (v : Haptic) : (s.setHap n v).encNoteQ = s.encNoteQ := rfl
@[simp] theorem State.hapticQ_setHap (s : State) (n : Nat) (v : Haptic) : (s.setHap n v).hapticQ = s.hapticQ := rfl
@[simp] theorem State.stationLogQ_setHap (s : State) (n : Nat) (v : Haptic) : (s.setHap n v).stationLogQ = s.stationLogQ := rfl
@[simp] theorem State.hwLogQ_setHap (s : State) (n : Nat) (v : Haptic) : (s.setHap n v).hwLogQ = s.hwLogQ := rfl
@[simp] theorem State.alarmQ_setHap (s : State) (n : Nat) (v : Haptic) : (s.setHap n v).alarmQ = s.alarmQ := rfl
@[simp] theorem State.alarms_setHap (s : State) (n : Nat) (v : Haptic) : (s.setHap n v).alarms = s.alarms := rfl
@[simp] theorem State.logRings_setHap (s : State) (n : Nat) (v : Haptic) : (s.setHap n v).logRings = s.logRings := rfl
@[simp] theorem State.peerLevel_setHap (s : State) (n : Nat) (v : Haptic) : (s.setHap n v).peerLevel = s.peerLevel := rfl
@[simp] theorem State.pins_setHap (s : State) (n : Nat) (v : Haptic) : (s.setHap n v).pins = s.pins := rfl
@[simp] theorem State.crossings_setHap (s : State) (n : Nat) (v : Haptic) : (s.setHap n v).crossings = s.crossings := rfl
@[simp] theorem State.timers_setHap (s : State) (n : Nat) (v : Haptic) : (s.setHap n v).timers = s.timers := rfl
@[simp] theorem State.out_setHap (s : State) (n : Nat) (v : Haptic) : (s.setHap n v).out = s.out := rfl
@[simp] theorem State.free_setHap (s : State) (n : Nat) (v : Haptic) : (s.setHap n v).free = s.free := rfl

/-! ### setCtl -/

theorem State.ctl_setCtl (s : State) (n : Nat) (v : StationCtl) (m : Nat) : (s.setCtl n v).ctl m = if m = n then v else s.ctl m :=
  FMap.getD_put _ _ _ _ _
@[simp] theorem State.ctl_setCtl_self (s : State) (n : Nat) (v : StationCtl) : (s.setCtl n v).ctl n = v := by simp [State.ctl_setCtl]
@[simp] theorem State.pending_setCtl (s : State) (n : Nat) (v : StationCtl) : (s.setCtl n v).pending = s.pending := rfl
@[simp] theorem State.powered_setCtl (s : State) (n : Nat) (v : StationCtl) : (s.setCtl n v).powered = s.powered := rfl
@[simp] theorem State.time_setCtl (s : State) (n : Nat) (v : StationCtl) : (s.setCtl n v).time = s.time := rfl
@[simp] theorem State.regs_setCtl (s : State) (n : Nat) (v : StationCtl) : (s.setCtl n v).regs = s.regs := rfl
@[simp] theorem State.shadow_setCtl (s : State) (n : Nat) (v : StationCtl) : (s.setCtl n v).shadow = s.shadow := rfl
@[simp] theorem State.blobs_setCtl (s : State) (n : Nat) (v : StationCtl) : (s.setCtl n v).blobs = s.blobs := rfl
@[simp] theorem State.shadowBlobs_setCtl (s : State) (n : Nat) (v : StationCtl) : (s.setCtl n v).shadowBlobs = s.shadowBlobs := rfl
@[simp] theorem State.blobRev_setCtl (s : State) (n : Nat) (v : StationCtl) : (s.setCtl n v).blobRev = s.blobRev := rfl
@[simp] theorem State.staging_setCtl (s : State) (n : Nat) (v : StationCtl) : (s.setCtl n v).staging = s.staging := rfl
@[simp] theorem State.results_setCtl (s : State) (n : Nat) (v : StationCtl) : (s.setCtl n v).results = s.results := rfl
@[simp] theorem State.settings_setCtl (s : State) (n : Nat) (v : StationCtl) : (s.setCtl n v).settings = s.settings := rfl
@[simp] theorem State.rst_setCtl (s : State) (n : Nat) (v : StationCtl) : (s.setCtl n v).rst = s.rst := rfl
@[simp] theorem State.snapshots_setCtl (s : State) (n : Nat) (v : StationCtl) : (s.setCtl n v).snapshots = s.snapshots := rfl
@[simp] theorem State.subscriptions_setCtl (s : State) (n : Nat) (v : StationCtl) : (s.setCtl n v).subscriptions = s.subscriptions := rfl
@[simp] theorem State.locks_setCtl (s : State) (n : Nat) (v : StationCtl) : (s.setCtl n v).locks = s.locks := rfl
@[simp] theorem State.mem_setCtl (s : State) (n : Nat) (v : StationCtl) : (s.setCtl n v).mem = s.mem := rfl
@[simp] theorem State.lostCells_setCtl (s : State) (n : Nat) (v : StationCtl) : (s.setCtl n v).lostCells = s.lostCells := rfl
@[simp] theorem State.poison_setCtl (s : State) (n : Nat) (v : StationCtl) : (s.setCtl n v).poison = s.poison := rfl
@[simp] theorem State.encKey_setCtl (s : State) (n : Nat) (v : StationCtl) : (s.setCtl n v).encKey = s.encKey := rfl
@[simp] theorem State.sec_setCtl (s : State) (n : Nat) (v : StationCtl) : (s.setCtl n v).sec = s.sec := rfl
@[simp] theorem State.net_setCtl (s : State) (n : Nat) (v : StationCtl) : (s.setCtl n v).net = s.net := rfl
@[simp] theorem State.upd_setCtl (s : State) (n : Nat) (v : StationCtl) : (s.setCtl n v).upd = s.upd := rfl
@[simp] theorem State.raster_setCtl (s : State) (n : Nat) (v : StationCtl) : (s.setCtl n v).raster = s.raster := rfl
@[simp] theorem State.translator_setCtl (s : State) (n : Nat) (v : StationCtl) : (s.setCtl n v).translator = s.translator := rfl
@[simp] theorem State.energy_setCtl (s : State) (n : Nat) (v : StationCtl) : (s.setCtl n v).energy = s.energy := rfl
@[simp] theorem State.memc_setCtl (s : State) (n : Nat) (v : StationCtl) : (s.setCtl n v).memc = s.memc := rfl
@[simp] theorem State.comp_setCtl (s : State) (n : Nat) (v : StationCtl) : (s.setCtl n v).comp = s.comp := rfl
@[simp] theorem State.guard_setCtl (s : State) (n : Nat) (v : StationCtl) : (s.setCtl n v).guard = s.guard := rfl
@[simp] theorem State.disp_setCtl (s : State) (n : Nat) (v : StationCtl) : (s.setCtl n v).disp = s.disp := rfl
@[simp] theorem State.touch_setCtl (s : State) (n : Nat) (v : StationCtl) : (s.setCtl n v).touch = s.touch := rfl
@[simp] theorem State.haptic_setCtl (s : State) (n : Nat) (v : StationCtl) : (s.setCtl n v).haptic = s.haptic := rfl
@[simp] theorem State.audio_setCtl (s : State) (n : Nat) (v : StationCtl) : (s.setCtl n v).audio = s.audio := rfl
@[simp] theorem State.slices_setCtl (s : State) (n : Nat) (v : StationCtl) : (s.setCtl n v).slices = s.slices := rfl
@[simp] theorem State.ports_setCtl (s : State) (n : Nat) (v : StationCtl) : (s.setCtl n v).ports = s.ports := rfl
@[simp] theorem State.cv_setCtl (s : State) (n : Nat) (v : StationCtl) : (s.setCtl n v).cv = s.cv := rfl
@[simp] theorem State.ingress_setCtl (s : State) (n : Nat) (v : StationCtl) : (s.setCtl n v).ingress = s.ingress := rfl
@[simp] theorem State.touchQ_setCtl (s : State) (n : Nat) (v : StationCtl) : (s.setCtl n v).touchQ = s.touchQ := rfl
@[simp] theorem State.noteQ_setCtl (s : State) (n : Nat) (v : StationCtl) : (s.setCtl n v).noteQ = s.noteQ := rfl
@[simp] theorem State.encTouchQ_setCtl (s : State) (n : Nat) (v : StationCtl) : (s.setCtl n v).encTouchQ = s.encTouchQ := rfl
@[simp] theorem State.encNoteQ_setCtl (s : State) (n : Nat) (v : StationCtl) : (s.setCtl n v).encNoteQ = s.encNoteQ := rfl
@[simp] theorem State.hapticQ_setCtl (s : State) (n : Nat) (v : StationCtl) : (s.setCtl n v).hapticQ = s.hapticQ := rfl
@[simp] theorem State.stationLogQ_setCtl (s : State) (n : Nat) (v : StationCtl) : (s.setCtl n v).stationLogQ = s.stationLogQ := rfl
@[simp] theorem State.hwLogQ_setCtl (s : State) (n : Nat) (v : StationCtl) : (s.setCtl n v).hwLogQ = s.hwLogQ := rfl
@[simp] theorem State.alarmQ_setCtl (s : State) (n : Nat) (v : StationCtl) : (s.setCtl n v).alarmQ = s.alarmQ := rfl
@[simp] theorem State.alarms_setCtl (s : State) (n : Nat) (v : StationCtl) : (s.setCtl n v).alarms = s.alarms := rfl
@[simp] theorem State.logRings_setCtl (s : State) (n : Nat) (v : StationCtl) : (s.setCtl n v).logRings = s.logRings := rfl
@[simp] theorem State.peerLevel_setCtl (s : State) (n : Nat) (v : StationCtl) : (s.setCtl n v).peerLevel = s.peerLevel := rfl
@[simp] theorem State.pins_setCtl (s : State) (n : Nat) (v : StationCtl) : (s.setCtl n v).pins = s.pins := rfl
@[simp] theorem State.crossings_setCtl (s : State) (n : Nat) (v : StationCtl) : (s.setCtl n v).crossings = s.crossings := rfl
@[simp] theorem State.timers_setCtl (s : State) (n : Nat) (v : StationCtl) : (s.setCtl n v).timers = s.timers := rfl
@[simp] theorem State.out_setCtl (s : State) (n : Nat) (v : StationCtl) : (s.setCtl n v).out = s.out := rfl
@[simp] theorem State.free_setCtl (s : State) (n : Nat) (v : StationCtl) : (s.setCtl n v).free = s.free := rfl

/-! ### setMmc -/

theorem State.mmc_setMmc (s : State) (n : Nat) (v : MemCtl) (m : Nat) : (s.setMmc n v).mmc m = if m = n then v else s.mmc m :=
  FMap.getD_put _ _ _ _ _
@[simp] theorem State.mmc_setMmc_self (s : State) (n : Nat) (v : MemCtl) : (s.setMmc n v).mmc n = v := by simp [State.mmc_setMmc]
@[simp] theorem State.pending_setMmc (s : State) (n : Nat) (v : MemCtl) : (s.setMmc n v).pending = s.pending := rfl
@[simp] theorem State.powered_setMmc (s : State) (n : Nat) (v : MemCtl) : (s.setMmc n v).powered = s.powered := rfl
@[simp] theorem State.time_setMmc (s : State) (n : Nat) (v : MemCtl) : (s.setMmc n v).time = s.time := rfl
@[simp] theorem State.regs_setMmc (s : State) (n : Nat) (v : MemCtl) : (s.setMmc n v).regs = s.regs := rfl
@[simp] theorem State.shadow_setMmc (s : State) (n : Nat) (v : MemCtl) : (s.setMmc n v).shadow = s.shadow := rfl
@[simp] theorem State.blobs_setMmc (s : State) (n : Nat) (v : MemCtl) : (s.setMmc n v).blobs = s.blobs := rfl
@[simp] theorem State.shadowBlobs_setMmc (s : State) (n : Nat) (v : MemCtl) : (s.setMmc n v).shadowBlobs = s.shadowBlobs := rfl
@[simp] theorem State.blobRev_setMmc (s : State) (n : Nat) (v : MemCtl) : (s.setMmc n v).blobRev = s.blobRev := rfl
@[simp] theorem State.staging_setMmc (s : State) (n : Nat) (v : MemCtl) : (s.setMmc n v).staging = s.staging := rfl
@[simp] theorem State.results_setMmc (s : State) (n : Nat) (v : MemCtl) : (s.setMmc n v).results = s.results := rfl
@[simp] theorem State.settings_setMmc (s : State) (n : Nat) (v : MemCtl) : (s.setMmc n v).settings = s.settings := rfl
@[simp] theorem State.rst_setMmc (s : State) (n : Nat) (v : MemCtl) : (s.setMmc n v).rst = s.rst := rfl
@[simp] theorem State.stn_setMmc (s : State) (n : Nat) (v : MemCtl) : (s.setMmc n v).stn = s.stn := rfl
@[simp] theorem State.snapshots_setMmc (s : State) (n : Nat) (v : MemCtl) : (s.setMmc n v).snapshots = s.snapshots := rfl
@[simp] theorem State.subscriptions_setMmc (s : State) (n : Nat) (v : MemCtl) : (s.setMmc n v).subscriptions = s.subscriptions := rfl
@[simp] theorem State.locks_setMmc (s : State) (n : Nat) (v : MemCtl) : (s.setMmc n v).locks = s.locks := rfl
@[simp] theorem State.mem_setMmc (s : State) (n : Nat) (v : MemCtl) : (s.setMmc n v).mem = s.mem := rfl
@[simp] theorem State.lostCells_setMmc (s : State) (n : Nat) (v : MemCtl) : (s.setMmc n v).lostCells = s.lostCells := rfl
@[simp] theorem State.poison_setMmc (s : State) (n : Nat) (v : MemCtl) : (s.setMmc n v).poison = s.poison := rfl
@[simp] theorem State.encKey_setMmc (s : State) (n : Nat) (v : MemCtl) : (s.setMmc n v).encKey = s.encKey := rfl
@[simp] theorem State.sec_setMmc (s : State) (n : Nat) (v : MemCtl) : (s.setMmc n v).sec = s.sec := rfl
@[simp] theorem State.net_setMmc (s : State) (n : Nat) (v : MemCtl) : (s.setMmc n v).net = s.net := rfl
@[simp] theorem State.upd_setMmc (s : State) (n : Nat) (v : MemCtl) : (s.setMmc n v).upd = s.upd := rfl
@[simp] theorem State.raster_setMmc (s : State) (n : Nat) (v : MemCtl) : (s.setMmc n v).raster = s.raster := rfl
@[simp] theorem State.translator_setMmc (s : State) (n : Nat) (v : MemCtl) : (s.setMmc n v).translator = s.translator := rfl
@[simp] theorem State.energy_setMmc (s : State) (n : Nat) (v : MemCtl) : (s.setMmc n v).energy = s.energy := rfl
@[simp] theorem State.comp_setMmc (s : State) (n : Nat) (v : MemCtl) : (s.setMmc n v).comp = s.comp := rfl
@[simp] theorem State.guard_setMmc (s : State) (n : Nat) (v : MemCtl) : (s.setMmc n v).guard = s.guard := rfl
@[simp] theorem State.disp_setMmc (s : State) (n : Nat) (v : MemCtl) : (s.setMmc n v).disp = s.disp := rfl
@[simp] theorem State.touch_setMmc (s : State) (n : Nat) (v : MemCtl) : (s.setMmc n v).touch = s.touch := rfl
@[simp] theorem State.haptic_setMmc (s : State) (n : Nat) (v : MemCtl) : (s.setMmc n v).haptic = s.haptic := rfl
@[simp] theorem State.audio_setMmc (s : State) (n : Nat) (v : MemCtl) : (s.setMmc n v).audio = s.audio := rfl
@[simp] theorem State.slices_setMmc (s : State) (n : Nat) (v : MemCtl) : (s.setMmc n v).slices = s.slices := rfl
@[simp] theorem State.ports_setMmc (s : State) (n : Nat) (v : MemCtl) : (s.setMmc n v).ports = s.ports := rfl
@[simp] theorem State.cv_setMmc (s : State) (n : Nat) (v : MemCtl) : (s.setMmc n v).cv = s.cv := rfl
@[simp] theorem State.ingress_setMmc (s : State) (n : Nat) (v : MemCtl) : (s.setMmc n v).ingress = s.ingress := rfl
@[simp] theorem State.touchQ_setMmc (s : State) (n : Nat) (v : MemCtl) : (s.setMmc n v).touchQ = s.touchQ := rfl
@[simp] theorem State.noteQ_setMmc (s : State) (n : Nat) (v : MemCtl) : (s.setMmc n v).noteQ = s.noteQ := rfl
@[simp] theorem State.encTouchQ_setMmc (s : State) (n : Nat) (v : MemCtl) : (s.setMmc n v).encTouchQ = s.encTouchQ := rfl
@[simp] theorem State.encNoteQ_setMmc (s : State) (n : Nat) (v : MemCtl) : (s.setMmc n v).encNoteQ = s.encNoteQ := rfl
@[simp] theorem State.hapticQ_setMmc (s : State) (n : Nat) (v : MemCtl) : (s.setMmc n v).hapticQ = s.hapticQ := rfl
@[simp] theorem State.stationLogQ_setMmc (s : State) (n : Nat) (v : MemCtl) : (s.setMmc n v).stationLogQ = s.stationLogQ := rfl
@[simp] theorem State.hwLogQ_setMmc (s : State) (n : Nat) (v : MemCtl) : (s.setMmc n v).hwLogQ = s.hwLogQ := rfl
@[simp] theorem State.alarmQ_setMmc (s : State) (n : Nat) (v : MemCtl) : (s.setMmc n v).alarmQ = s.alarmQ := rfl
@[simp] theorem State.alarms_setMmc (s : State) (n : Nat) (v : MemCtl) : (s.setMmc n v).alarms = s.alarms := rfl
@[simp] theorem State.logRings_setMmc (s : State) (n : Nat) (v : MemCtl) : (s.setMmc n v).logRings = s.logRings := rfl
@[simp] theorem State.peerLevel_setMmc (s : State) (n : Nat) (v : MemCtl) : (s.setMmc n v).peerLevel = s.peerLevel := rfl
@[simp] theorem State.pins_setMmc (s : State) (n : Nat) (v : MemCtl) : (s.setMmc n v).pins = s.pins := rfl
@[simp] theorem State.crossings_setMmc (s : State) (n : Nat) (v : MemCtl) : (s.setMmc n v).crossings = s.crossings := rfl
@[simp] theorem State.timers_setMmc (s : State) (n : Nat) (v : MemCtl) : (s.setMmc n v).timers = s.timers := rfl
@[simp] theorem State.out_setMmc (s : State) (n : Nat) (v : MemCtl) : (s.setMmc n v).out = s.out := rfl
@[simp] theorem State.free_setMmc (s : State) (n : Nat) (v : MemCtl) : (s.setMmc n v).free = s.free := rfl

/-! ### setAud -/

theorem State.aud_setAud (s : State) (n : Nat) (v : Audio) (m : Nat) : (s.setAud n v).aud m = if m = n then v else s.aud m :=
  FMap.getD_put _ _ _ _ _
@[simp] theorem State.aud_setAud_self (s : State) (n : Nat) (v : Audio) : (s.setAud n v).aud n = v := by simp [State.aud_setAud]
@[simp] theorem State.pending_setAud (s : State) (n : Nat) (v : Audio) : (s.setAud n v).pending = s.pending := rfl
@[simp] theorem State.powered_setAud (s : State) (n : Nat) (v : Audio) : (s.setAud n v).powered = s.powered := rfl
@[simp] theorem State.time_setAud (s : State) (n : Nat) (v : Audio) : (s.setAud n v).time = s.time := rfl
@[simp] theorem State.regs_setAud (s : State) (n : Nat) (v : Audio) : (s.setAud n v).regs = s.regs := rfl
@[simp] theorem State.shadow_setAud (s : State) (n : Nat) (v : Audio) : (s.setAud n v).shadow = s.shadow := rfl
@[simp] theorem State.blobs_setAud (s : State) (n : Nat) (v : Audio) : (s.setAud n v).blobs = s.blobs := rfl
@[simp] theorem State.shadowBlobs_setAud (s : State) (n : Nat) (v : Audio) : (s.setAud n v).shadowBlobs = s.shadowBlobs := rfl
@[simp] theorem State.blobRev_setAud (s : State) (n : Nat) (v : Audio) : (s.setAud n v).blobRev = s.blobRev := rfl
@[simp] theorem State.staging_setAud (s : State) (n : Nat) (v : Audio) : (s.setAud n v).staging = s.staging := rfl
@[simp] theorem State.results_setAud (s : State) (n : Nat) (v : Audio) : (s.setAud n v).results = s.results := rfl
@[simp] theorem State.settings_setAud (s : State) (n : Nat) (v : Audio) : (s.setAud n v).settings = s.settings := rfl
@[simp] theorem State.rst_setAud (s : State) (n : Nat) (v : Audio) : (s.setAud n v).rst = s.rst := rfl
@[simp] theorem State.stn_setAud (s : State) (n : Nat) (v : Audio) : (s.setAud n v).stn = s.stn := rfl
@[simp] theorem State.snapshots_setAud (s : State) (n : Nat) (v : Audio) : (s.setAud n v).snapshots = s.snapshots := rfl
@[simp] theorem State.subscriptions_setAud (s : State) (n : Nat) (v : Audio) : (s.setAud n v).subscriptions = s.subscriptions := rfl
@[simp] theorem State.locks_setAud (s : State) (n : Nat) (v : Audio) : (s.setAud n v).locks = s.locks := rfl
@[simp] theorem State.mem_setAud (s : State) (n : Nat) (v : Audio) : (s.setAud n v).mem = s.mem := rfl
@[simp] theorem State.lostCells_setAud (s : State) (n : Nat) (v : Audio) : (s.setAud n v).lostCells = s.lostCells := rfl
@[simp] theorem State.poison_setAud (s : State) (n : Nat) (v : Audio) : (s.setAud n v).poison = s.poison := rfl
@[simp] theorem State.encKey_setAud (s : State) (n : Nat) (v : Audio) : (s.setAud n v).encKey = s.encKey := rfl
@[simp] theorem State.sec_setAud (s : State) (n : Nat) (v : Audio) : (s.setAud n v).sec = s.sec := rfl
@[simp] theorem State.net_setAud (s : State) (n : Nat) (v : Audio) : (s.setAud n v).net = s.net := rfl
@[simp] theorem State.upd_setAud (s : State) (n : Nat) (v : Audio) : (s.setAud n v).upd = s.upd := rfl
@[simp] theorem State.raster_setAud (s : State) (n : Nat) (v : Audio) : (s.setAud n v).raster = s.raster := rfl
@[simp] theorem State.translator_setAud (s : State) (n : Nat) (v : Audio) : (s.setAud n v).translator = s.translator := rfl
@[simp] theorem State.energy_setAud (s : State) (n : Nat) (v : Audio) : (s.setAud n v).energy = s.energy := rfl
@[simp] theorem State.memc_setAud (s : State) (n : Nat) (v : Audio) : (s.setAud n v).memc = s.memc := rfl
@[simp] theorem State.comp_setAud (s : State) (n : Nat) (v : Audio) : (s.setAud n v).comp = s.comp := rfl
@[simp] theorem State.guard_setAud (s : State) (n : Nat) (v : Audio) : (s.setAud n v).guard = s.guard := rfl
@[simp] theorem State.disp_setAud (s : State) (n : Nat) (v : Audio) : (s.setAud n v).disp = s.disp := rfl
@[simp] theorem State.touch_setAud (s : State) (n : Nat) (v : Audio) : (s.setAud n v).touch = s.touch := rfl
@[simp] theorem State.haptic_setAud (s : State) (n : Nat) (v : Audio) : (s.setAud n v).haptic = s.haptic := rfl
@[simp] theorem State.slices_setAud (s : State) (n : Nat) (v : Audio) : (s.setAud n v).slices = s.slices := rfl
@[simp] theorem State.ports_setAud (s : State) (n : Nat) (v : Audio) : (s.setAud n v).ports = s.ports := rfl
@[simp] theorem State.cv_setAud (s : State) (n : Nat) (v : Audio) : (s.setAud n v).cv = s.cv := rfl
@[simp] theorem State.ingress_setAud (s : State) (n : Nat) (v : Audio) : (s.setAud n v).ingress = s.ingress := rfl
@[simp] theorem State.touchQ_setAud (s : State) (n : Nat) (v : Audio) : (s.setAud n v).touchQ = s.touchQ := rfl
@[simp] theorem State.noteQ_setAud (s : State) (n : Nat) (v : Audio) : (s.setAud n v).noteQ = s.noteQ := rfl
@[simp] theorem State.encTouchQ_setAud (s : State) (n : Nat) (v : Audio) : (s.setAud n v).encTouchQ = s.encTouchQ := rfl
@[simp] theorem State.encNoteQ_setAud (s : State) (n : Nat) (v : Audio) : (s.setAud n v).encNoteQ = s.encNoteQ := rfl
@[simp] theorem State.hapticQ_setAud (s : State) (n : Nat) (v : Audio) : (s.setAud n v).hapticQ = s.hapticQ := rfl
@[simp] theorem State.stationLogQ_setAud (s : State) (n : Nat) (v : Audio) : (s.setAud n v).stationLogQ = s.stationLogQ := rfl
@[simp] theorem State.hwLogQ_setAud (s : State) (n : Nat) (v : Audio) : (s.setAud n v).hwLogQ = s.hwLogQ := rfl
@[simp] theorem State.alarmQ_setAud (s : State) (n : Nat) (v : Audio) : (s.setAud n v).alarmQ = s.alarmQ := rfl
@[simp] theorem State.alarms_setAud (s : State) (n : Nat) (v : Audio) : (s.setAud n v).alarms = s.alarms := rfl
@[simp] theorem State.logRings_setAud (s : State) (n : Nat) (v : Audio) : (s.setAud n v).logRings = s.logRings := rfl
@[simp] theorem State.peerLevel_setAud (s : State) (n : Nat) (v : Audio) : (s.setAud n v).peerLevel = s.peerLevel := rfl
@[simp] theorem State.pins_setAud (s : State) (n : Nat) (v : Audio) : (s.setAud n v).pins = s.pins := rfl
@[simp] theorem State.crossings_setAud (s : State) (n : Nat) (v : Audio) : (s.setAud n v).crossings = s.crossings := rfl
@[simp] theorem State.timers_setAud (s : State) (n : Nat) (v : Audio) : (s.setAud n v).timers = s.timers := rfl
@[simp] theorem State.out_setAud (s : State) (n : Nat) (v : Audio) : (s.setAud n v).out = s.out := rfl
@[simp] theorem State.free_setAud (s : State) (n : Nat) (v : Audio) : (s.setAud n v).free = s.free := rfl

/-! ### setSlc -/

theorem State.slc_setSlc (s : State) (t : Nat) (v : Slice) (m : Nat) : (s.setSlc t v).slc m = if m = t then v else s.slc m :=
  FMap.getD_put _ _ _ _ _
@[simp] theorem State.slc_setSlc_self (s : State) (t : Nat) (v : Slice) : (s.setSlc t v).slc t = v := by simp [State.slc_setSlc]
@[simp] theorem State.pending_setSlc (s : State) (t : Nat) (v : Slice) : (s.setSlc t v).pending = s.pending := rfl
@[simp] theorem State.powered_setSlc (s : State) (t : Nat) (v : Slice) : (s.setSlc t v).powered = s.powered := rfl
@[simp] theorem State.time_setSlc (s : State) (t : Nat) (v : Slice) : (s.setSlc t v).time = s.time := rfl
@[simp] theorem State.regs_setSlc (s : State) (t : Nat) (v : Slice) : (s.setSlc t v).regs = s.regs := rfl
@[simp] theorem State.shadow_setSlc (s : State) (t : Nat) (v : Slice) : (s.setSlc t v).shadow = s.shadow := rfl
@[simp] theorem State.blobs_setSlc (s : State) (t : Nat) (v : Slice) : (s.setSlc t v).blobs = s.blobs := rfl
@[simp] theorem State.shadowBlobs_setSlc (s : State) (t : Nat) (v : Slice) : (s.setSlc t v).shadowBlobs = s.shadowBlobs := rfl
@[simp] theorem State.blobRev_setSlc (s : State) (t : Nat) (v : Slice) : (s.setSlc t v).blobRev = s.blobRev := rfl
@[simp] theorem State.staging_setSlc (s : State) (t : Nat) (v : Slice) : (s.setSlc t v).staging = s.staging := rfl
@[simp] theorem State.results_setSlc (s : State) (t : Nat) (v : Slice) : (s.setSlc t v).results = s.results := rfl
@[simp] theorem State.settings_setSlc (s : State) (t : Nat) (v : Slice) : (s.setSlc t v).settings = s.settings := rfl
@[simp] theorem State.rst_setSlc (s : State) (t : Nat) (v : Slice) : (s.setSlc t v).rst = s.rst := rfl
@[simp] theorem State.stn_setSlc (s : State) (t : Nat) (v : Slice) : (s.setSlc t v).stn = s.stn := rfl
@[simp] theorem State.snapshots_setSlc (s : State) (t : Nat) (v : Slice) : (s.setSlc t v).snapshots = s.snapshots := rfl
@[simp] theorem State.subscriptions_setSlc (s : State) (t : Nat) (v : Slice) : (s.setSlc t v).subscriptions = s.subscriptions := rfl
@[simp] theorem State.locks_setSlc (s : State) (t : Nat) (v : Slice) : (s.setSlc t v).locks = s.locks := rfl
@[simp] theorem State.mem_setSlc (s : State) (t : Nat) (v : Slice) : (s.setSlc t v).mem = s.mem := rfl
@[simp] theorem State.lostCells_setSlc (s : State) (t : Nat) (v : Slice) : (s.setSlc t v).lostCells = s.lostCells := rfl
@[simp] theorem State.poison_setSlc (s : State) (t : Nat) (v : Slice) : (s.setSlc t v).poison = s.poison := rfl
@[simp] theorem State.encKey_setSlc (s : State) (t : Nat) (v : Slice) : (s.setSlc t v).encKey = s.encKey := rfl
@[simp] theorem State.sec_setSlc (s : State) (t : Nat) (v : Slice) : (s.setSlc t v).sec = s.sec := rfl
@[simp] theorem State.net_setSlc (s : State) (t : Nat) (v : Slice) : (s.setSlc t v).net = s.net := rfl
@[simp] theorem State.upd_setSlc (s : State) (t : Nat) (v : Slice) : (s.setSlc t v).upd = s.upd := rfl
@[simp] theorem State.raster_setSlc (s : State) (t : Nat) (v : Slice) : (s.setSlc t v).raster = s.raster := rfl
@[simp] theorem State.translator_setSlc (s : State) (t : Nat) (v : Slice) : (s.setSlc t v).translator = s.translator := rfl
@[simp] theorem State.energy_setSlc (s : State) (t : Nat) (v : Slice) : (s.setSlc t v).energy = s.energy := rfl
@[simp] theorem State.memc_setSlc (s : State) (t : Nat) (v : Slice) : (s.setSlc t v).memc = s.memc := rfl
@[simp] theorem State.comp_setSlc (s : State) (t : Nat) (v : Slice) : (s.setSlc t v).comp = s.comp := rfl
@[simp] theorem State.guard_setSlc (s : State) (t : Nat) (v : Slice) : (s.setSlc t v).guard = s.guard := rfl
@[simp] theorem State.disp_setSlc (s : State) (t : Nat) (v : Slice) : (s.setSlc t v).disp = s.disp := rfl
@[simp] theorem State.touch_setSlc (s : State) (t : Nat) (v : Slice) : (s.setSlc t v).touch = s.touch := rfl
@[simp] theorem State.haptic_setSlc (s : State) (t : Nat) (v : Slice) : (s.setSlc t v).haptic = s.haptic := rfl
@[simp] theorem State.audio_setSlc (s : State) (t : Nat) (v : Slice) : (s.setSlc t v).audio = s.audio := rfl
@[simp] theorem State.ports_setSlc (s : State) (t : Nat) (v : Slice) : (s.setSlc t v).ports = s.ports := rfl
@[simp] theorem State.cv_setSlc (s : State) (t : Nat) (v : Slice) : (s.setSlc t v).cv = s.cv := rfl
@[simp] theorem State.ingress_setSlc (s : State) (t : Nat) (v : Slice) : (s.setSlc t v).ingress = s.ingress := rfl
@[simp] theorem State.touchQ_setSlc (s : State) (t : Nat) (v : Slice) : (s.setSlc t v).touchQ = s.touchQ := rfl
@[simp] theorem State.noteQ_setSlc (s : State) (t : Nat) (v : Slice) : (s.setSlc t v).noteQ = s.noteQ := rfl
@[simp] theorem State.encTouchQ_setSlc (s : State) (t : Nat) (v : Slice) : (s.setSlc t v).encTouchQ = s.encTouchQ := rfl
@[simp] theorem State.encNoteQ_setSlc (s : State) (t : Nat) (v : Slice) : (s.setSlc t v).encNoteQ = s.encNoteQ := rfl
@[simp] theorem State.hapticQ_setSlc (s : State) (t : Nat) (v : Slice) : (s.setSlc t v).hapticQ = s.hapticQ := rfl
@[simp] theorem State.stationLogQ_setSlc (s : State) (t : Nat) (v : Slice) : (s.setSlc t v).stationLogQ = s.stationLogQ := rfl
@[simp] theorem State.hwLogQ_setSlc (s : State) (t : Nat) (v : Slice) : (s.setSlc t v).hwLogQ = s.hwLogQ := rfl
@[simp] theorem State.alarmQ_setSlc (s : State) (t : Nat) (v : Slice) : (s.setSlc t v).alarmQ = s.alarmQ := rfl
@[simp] theorem State.alarms_setSlc (s : State) (t : Nat) (v : Slice) : (s.setSlc t v).alarms = s.alarms := rfl
@[simp] theorem State.logRings_setSlc (s : State) (t : Nat) (v : Slice) : (s.setSlc t v).logRings = s.logRings := rfl
@[simp] theorem State.peerLevel_setSlc (s : State) (t : Nat) (v : Slice) : (s.setSlc t v).peerLevel = s.peerLevel := rfl
@[simp] theorem State.pins_setSlc (s : State) (t : Nat) (v : Slice) : (s.setSlc t v).pins = s.pins := rfl
@[simp] theorem State.crossings_setSlc (s : State) (t : Nat) (v : Slice) : (s.setSlc t v).crossings = s.crossings := rfl
@[simp] theorem State.timers_setSlc (s : State) (t : Nat) (v : Slice) : (s.setSlc t v).timers = s.timers := rfl
@[simp] theorem State.out_setSlc (s : State) (t : Nat) (v : Slice) : (s.setSlc t v).out = s.out := rfl
@[simp] theorem State.free_setSlc (s : State) (t : Nat) (v : Slice) : (s.setSlc t v).free = s.free := rfl

/-! ### setPrt -/

theorem State.prt_setPrt (s : State) (p : Nat) (v : HostPort) (m : Nat) : (s.setPrt p v).prt m = if m = p then v else s.prt m :=
  FMap.getD_put _ _ _ _ _
@[simp] theorem State.prt_setPrt_self (s : State) (p : Nat) (v : HostPort) : (s.setPrt p v).prt p = v := by simp [State.prt_setPrt]
@[simp] theorem State.pending_setPrt (s : State) (p : Nat) (v : HostPort) : (s.setPrt p v).pending = s.pending := rfl
@[simp] theorem State.powered_setPrt (s : State) (p : Nat) (v : HostPort) : (s.setPrt p v).powered = s.powered := rfl
@[simp] theorem State.time_setPrt (s : State) (p : Nat) (v : HostPort) : (s.setPrt p v).time = s.time := rfl
@[simp] theorem State.regs_setPrt (s : State) (p : Nat) (v : HostPort) : (s.setPrt p v).regs = s.regs := rfl
@[simp] theorem State.shadow_setPrt (s : State) (p : Nat) (v : HostPort) : (s.setPrt p v).shadow = s.shadow := rfl
@[simp] theorem State.blobs_setPrt (s : State) (p : Nat) (v : HostPort) : (s.setPrt p v).blobs = s.blobs := rfl
@[simp] theorem State.shadowBlobs_setPrt (s : State) (p : Nat) (v : HostPort) : (s.setPrt p v).shadowBlobs = s.shadowBlobs := rfl
@[simp] theorem State.blobRev_setPrt (s : State) (p : Nat) (v : HostPort) : (s.setPrt p v).blobRev = s.blobRev := rfl
@[simp] theorem State.staging_setPrt (s : State) (p : Nat) (v : HostPort) : (s.setPrt p v).staging = s.staging := rfl
@[simp] theorem State.results_setPrt (s : State) (p : Nat) (v : HostPort) : (s.setPrt p v).results = s.results := rfl
@[simp] theorem State.settings_setPrt (s : State) (p : Nat) (v : HostPort) : (s.setPrt p v).settings = s.settings := rfl
@[simp] theorem State.rst_setPrt (s : State) (p : Nat) (v : HostPort) : (s.setPrt p v).rst = s.rst := rfl
@[simp] theorem State.stn_setPrt (s : State) (p : Nat) (v : HostPort) : (s.setPrt p v).stn = s.stn := rfl
@[simp] theorem State.snapshots_setPrt (s : State) (p : Nat) (v : HostPort) : (s.setPrt p v).snapshots = s.snapshots := rfl
@[simp] theorem State.subscriptions_setPrt (s : State) (p : Nat) (v : HostPort) : (s.setPrt p v).subscriptions = s.subscriptions := rfl
@[simp] theorem State.locks_setPrt (s : State) (p : Nat) (v : HostPort) : (s.setPrt p v).locks = s.locks := rfl
@[simp] theorem State.mem_setPrt (s : State) (p : Nat) (v : HostPort) : (s.setPrt p v).mem = s.mem := rfl
@[simp] theorem State.lostCells_setPrt (s : State) (p : Nat) (v : HostPort) : (s.setPrt p v).lostCells = s.lostCells := rfl
@[simp] theorem State.poison_setPrt (s : State) (p : Nat) (v : HostPort) : (s.setPrt p v).poison = s.poison := rfl
@[simp] theorem State.encKey_setPrt (s : State) (p : Nat) (v : HostPort) : (s.setPrt p v).encKey = s.encKey := rfl
@[simp] theorem State.sec_setPrt (s : State) (p : Nat) (v : HostPort) : (s.setPrt p v).sec = s.sec := rfl
@[simp] theorem State.net_setPrt (s : State) (p : Nat) (v : HostPort) : (s.setPrt p v).net = s.net := rfl
@[simp] theorem State.upd_setPrt (s : State) (p : Nat) (v : HostPort) : (s.setPrt p v).upd = s.upd := rfl
@[simp] theorem State.raster_setPrt (s : State) (p : Nat) (v : HostPort) : (s.setPrt p v).raster = s.raster := rfl
@[simp] theorem State.translator_setPrt (s : State) (p : Nat) (v : HostPort) : (s.setPrt p v).translator = s.translator := rfl
@[simp] theorem State.energy_setPrt (s : State) (p : Nat) (v : HostPort) : (s.setPrt p v).energy = s.energy := rfl
@[simp] theorem State.memc_setPrt (s : State) (p : Nat) (v : HostPort) : (s.setPrt p v).memc = s.memc := rfl
@[simp] theorem State.comp_setPrt (s : State) (p : Nat) (v : HostPort) : (s.setPrt p v).comp = s.comp := rfl
@[simp] theorem State.guard_setPrt (s : State) (p : Nat) (v : HostPort) : (s.setPrt p v).guard = s.guard := rfl
@[simp] theorem State.disp_setPrt (s : State) (p : Nat) (v : HostPort) : (s.setPrt p v).disp = s.disp := rfl
@[simp] theorem State.touch_setPrt (s : State) (p : Nat) (v : HostPort) : (s.setPrt p v).touch = s.touch := rfl
@[simp] theorem State.haptic_setPrt (s : State) (p : Nat) (v : HostPort) : (s.setPrt p v).haptic = s.haptic := rfl
@[simp] theorem State.audio_setPrt (s : State) (p : Nat) (v : HostPort) : (s.setPrt p v).audio = s.audio := rfl
@[simp] theorem State.slices_setPrt (s : State) (p : Nat) (v : HostPort) : (s.setPrt p v).slices = s.slices := rfl
@[simp] theorem State.cv_setPrt (s : State) (p : Nat) (v : HostPort) : (s.setPrt p v).cv = s.cv := rfl
@[simp] theorem State.ingress_setPrt (s : State) (p : Nat) (v : HostPort) : (s.setPrt p v).ingress = s.ingress := rfl
@[simp] theorem State.touchQ_setPrt (s : State) (p : Nat) (v : HostPort) : (s.setPrt p v).touchQ = s.touchQ := rfl
@[simp] theorem State.noteQ_setPrt (s : State) (p : Nat) (v : HostPort) : (s.setPrt p v).noteQ = s.noteQ := rfl
@[simp] theorem State.encTouchQ_setPrt (s : State) (p : Nat) (v : HostPort) : (s.setPrt p v).encTouchQ = s.encTouchQ := rfl
@[simp] theorem State.encNoteQ_setPrt (s : State) (p : Nat) (v : HostPort) : (s.setPrt p v).encNoteQ = s.encNoteQ := rfl
@[simp] theorem State.hapticQ_setPrt (s : State) (p : Nat) (v : HostPort) : (s.setPrt p v).hapticQ = s.hapticQ := rfl
@[simp] theorem State.stationLogQ_setPrt (s : State) (p : Nat) (v : HostPort) : (s.setPrt p v).stationLogQ = s.stationLogQ := rfl
@[simp] theorem State.hwLogQ_setPrt (s : State) (p : Nat) (v : HostPort) : (s.setPrt p v).hwLogQ = s.hwLogQ := rfl
@[simp] theorem State.alarmQ_setPrt (s : State) (p : Nat) (v : HostPort) : (s.setPrt p v).alarmQ = s.alarmQ := rfl
@[simp] theorem State.alarms_setPrt (s : State) (p : Nat) (v : HostPort) : (s.setPrt p v).alarms = s.alarms := rfl
@[simp] theorem State.logRings_setPrt (s : State) (p : Nat) (v : HostPort) : (s.setPrt p v).logRings = s.logRings := rfl
@[simp] theorem State.peerLevel_setPrt (s : State) (p : Nat) (v : HostPort) : (s.setPrt p v).peerLevel = s.peerLevel := rfl
@[simp] theorem State.pins_setPrt (s : State) (p : Nat) (v : HostPort) : (s.setPrt p v).pins = s.pins := rfl
@[simp] theorem State.crossings_setPrt (s : State) (p : Nat) (v : HostPort) : (s.setPrt p v).crossings = s.crossings := rfl
@[simp] theorem State.timers_setPrt (s : State) (p : Nat) (v : HostPort) : (s.setPrt p v).timers = s.timers := rfl
@[simp] theorem State.out_setPrt (s : State) (p : Nat) (v : HostPort) : (s.setPrt p v).out = s.out := rfl
@[simp] theorem State.free_setPrt (s : State) (p : Nat) (v : HostPort) : (s.setPrt p v).free = s.free := rfl

/-! ### setCvu -/

theorem State.cvu_setCvu (s : State) (u : Nat) (v : CvUnit) (m : Nat) : (s.setCvu u v).cvu m = if m = u then v else s.cvu m :=
  FMap.getD_put _ _ _ _ _
@[simp] theorem State.cvu_setCvu_self (s : State) (u : Nat) (v : CvUnit) : (s.setCvu u v).cvu u = v := by simp [State.cvu_setCvu]
@[simp] theorem State.pending_setCvu (s : State) (u : Nat) (v : CvUnit) : (s.setCvu u v).pending = s.pending := rfl
@[simp] theorem State.powered_setCvu (s : State) (u : Nat) (v : CvUnit) : (s.setCvu u v).powered = s.powered := rfl
@[simp] theorem State.time_setCvu (s : State) (u : Nat) (v : CvUnit) : (s.setCvu u v).time = s.time := rfl
@[simp] theorem State.regs_setCvu (s : State) (u : Nat) (v : CvUnit) : (s.setCvu u v).regs = s.regs := rfl
@[simp] theorem State.shadow_setCvu (s : State) (u : Nat) (v : CvUnit) : (s.setCvu u v).shadow = s.shadow := rfl
@[simp] theorem State.blobs_setCvu (s : State) (u : Nat) (v : CvUnit) : (s.setCvu u v).blobs = s.blobs := rfl
@[simp] theorem State.shadowBlobs_setCvu (s : State) (u : Nat) (v : CvUnit) : (s.setCvu u v).shadowBlobs = s.shadowBlobs := rfl
@[simp] theorem State.blobRev_setCvu (s : State) (u : Nat) (v : CvUnit) : (s.setCvu u v).blobRev = s.blobRev := rfl
@[simp] theorem State.staging_setCvu (s : State) (u : Nat) (v : CvUnit) : (s.setCvu u v).staging = s.staging := rfl
@[simp] theorem State.results_setCvu (s : State) (u : Nat) (v : CvUnit) : (s.setCvu u v).results = s.results := rfl
@[simp] theorem State.settings_setCvu (s : State) (u : Nat) (v : CvUnit) : (s.setCvu u v).settings = s.settings := rfl
@[simp] theorem State.rst_setCvu (s : State) (u : Nat) (v : CvUnit) : (s.setCvu u v).rst = s.rst := rfl
@[simp] theorem State.stn_setCvu (s : State) (u : Nat) (v : CvUnit) : (s.setCvu u v).stn = s.stn := rfl
@[simp] theorem State.snapshots_setCvu (s : State) (u : Nat) (v : CvUnit) : (s.setCvu u v).snapshots = s.snapshots := rfl
@[simp] theorem State.subscriptions_setCvu (s : State) (u : Nat) (v : CvUnit) : (s.setCvu u v).subscriptions = s.subscriptions := rfl
@[simp] theorem State.locks_setCvu (s : State) (u : Nat) (v : CvUnit) : (s.setCvu u v).locks = s.locks := rfl
@[simp] theorem State.mem_setCvu (s : State) (u : Nat) (v : CvUnit) : (s.setCvu u v).mem = s.mem := rfl
@[simp] theorem State.lostCells_setCvu (s : State) (u : Nat) (v : CvUnit) : (s.setCvu u v).lostCells = s.lostCells := rfl
@[simp] theorem State.poison_setCvu (s : State) (u : Nat) (v : CvUnit) : (s.setCvu u v).poison = s.poison := rfl
@[simp] theorem State.encKey_setCvu (s : State) (u : Nat) (v : CvUnit) : (s.setCvu u v).encKey = s.encKey := rfl
@[simp] theorem State.sec_setCvu (s : State) (u : Nat) (v : CvUnit) : (s.setCvu u v).sec = s.sec := rfl
@[simp] theorem State.net_setCvu (s : State) (u : Nat) (v : CvUnit) : (s.setCvu u v).net = s.net := rfl
@[simp] theorem State.upd_setCvu (s : State) (u : Nat) (v : CvUnit) : (s.setCvu u v).upd = s.upd := rfl
@[simp] theorem State.raster_setCvu (s : State) (u : Nat) (v : CvUnit) : (s.setCvu u v).raster = s.raster := rfl
@[simp] theorem State.translator_setCvu (s : State) (u : Nat) (v : CvUnit) : (s.setCvu u v).translator = s.translator := rfl
@[simp] theorem State.energy_setCvu (s : State) (u : Nat) (v : CvUnit) : (s.setCvu u v).energy = s.energy := rfl
@[simp] theorem State.memc_setCvu (s : State) (u : Nat) (v : CvUnit) : (s.setCvu u v).memc = s.memc := rfl
@[simp] theorem State.comp_setCvu (s : State) (u : Nat) (v : CvUnit) : (s.setCvu u v).comp = s.comp := rfl
@[simp] theorem State.guard_setCvu (s : State) (u : Nat) (v : CvUnit) : (s.setCvu u v).guard = s.guard := rfl
@[simp] theorem State.disp_setCvu (s : State) (u : Nat) (v : CvUnit) : (s.setCvu u v).disp = s.disp := rfl
@[simp] theorem State.touch_setCvu (s : State) (u : Nat) (v : CvUnit) : (s.setCvu u v).touch = s.touch := rfl
@[simp] theorem State.haptic_setCvu (s : State) (u : Nat) (v : CvUnit) : (s.setCvu u v).haptic = s.haptic := rfl
@[simp] theorem State.audio_setCvu (s : State) (u : Nat) (v : CvUnit) : (s.setCvu u v).audio = s.audio := rfl
@[simp] theorem State.slices_setCvu (s : State) (u : Nat) (v : CvUnit) : (s.setCvu u v).slices = s.slices := rfl
@[simp] theorem State.ports_setCvu (s : State) (u : Nat) (v : CvUnit) : (s.setCvu u v).ports = s.ports := rfl
@[simp] theorem State.ingress_setCvu (s : State) (u : Nat) (v : CvUnit) : (s.setCvu u v).ingress = s.ingress := rfl
@[simp] theorem State.touchQ_setCvu (s : State) (u : Nat) (v : CvUnit) : (s.setCvu u v).touchQ = s.touchQ := rfl
@[simp] theorem State.noteQ_setCvu (s : State) (u : Nat) (v : CvUnit) : (s.setCvu u v).noteQ = s.noteQ := rfl
@[simp] theorem State.encTouchQ_setCvu (s : State) (u : Nat) (v : CvUnit) : (s.setCvu u v).encTouchQ = s.encTouchQ := rfl
@[simp] theorem State.encNoteQ_setCvu (s : State) (u : Nat) (v : CvUnit) : (s.setCvu u v).encNoteQ = s.encNoteQ := rfl
@[simp] theorem State.hapticQ_setCvu (s : State) (u : Nat) (v : CvUnit) : (s.setCvu u v).hapticQ = s.hapticQ := rfl
@[simp] theorem State.stationLogQ_setCvu (s : State) (u : Nat) (v : CvUnit) : (s.setCvu u v).stationLogQ = s.stationLogQ := rfl
@[simp] theorem State.hwLogQ_setCvu (s : State) (u : Nat) (v : CvUnit) : (s.setCvu u v).hwLogQ = s.hwLogQ := rfl
@[simp] theorem State.alarmQ_setCvu (s : State) (u : Nat) (v : CvUnit) : (s.setCvu u v).alarmQ = s.alarmQ := rfl
@[simp] theorem State.alarms_setCvu (s : State) (u : Nat) (v : CvUnit) : (s.setCvu u v).alarms = s.alarms := rfl
@[simp] theorem State.logRings_setCvu (s : State) (u : Nat) (v : CvUnit) : (s.setCvu u v).logRings = s.logRings := rfl
@[simp] theorem State.peerLevel_setCvu (s : State) (u : Nat) (v : CvUnit) : (s.setCvu u v).peerLevel = s.peerLevel := rfl
@[simp] theorem State.pins_setCvu (s : State) (u : Nat) (v : CvUnit) : (s.setCvu u v).pins = s.pins := rfl
@[simp] theorem State.crossings_setCvu (s : State) (u : Nat) (v : CvUnit) : (s.setCvu u v).crossings = s.crossings := rfl
@[simp] theorem State.timers_setCvu (s : State) (u : Nat) (v : CvUnit) : (s.setCvu u v).timers = s.timers := rfl
@[simp] theorem State.out_setCvu (s : State) (u : Nat) (v : CvUnit) : (s.setCvu u v).out = s.out := rfl
@[simp] theorem State.free_setCvu (s : State) (u : Nat) (v : CvUnit) : (s.setCvu u v).free = s.free := rfl

/-! ### setNet -/

@[simp] theorem State.pending_setNet (s : State) (v : Net) : (s.setNet v).pending = s.pending := rfl
@[simp] theorem State.powered_setNet (s : State) (v : Net) : (s.setNet v).powered = s.powered := rfl
@[simp] theorem State.time_setNet (s : State) (v : Net) : (s.setNet v).time = s.time := rfl
@[simp] theorem State.regs_setNet (s : State) (v : Net) : (s.setNet v).regs = s.regs := rfl
@[simp] theorem State.shadow_setNet (s : State) (v : Net) : (s.setNet v).shadow = s.shadow := rfl
@[simp] theorem State.blobs_setNet (s : State) (v : Net) : (s.setNet v).blobs = s.blobs := rfl
@[simp] theorem State.shadowBlobs_setNet (s : State) (v : Net) : (s.setNet v).shadowBlobs = s.shadowBlobs := rfl
@[simp] theorem State.blobRev_setNet (s : State) (v : Net) : (s.setNet v).blobRev = s.blobRev := rfl
@[simp] theorem State.staging_setNet (s : State) (v : Net) : (s.setNet v).staging = s.staging := rfl
@[simp] theorem State.results_setNet (s : State) (v : Net) : (s.setNet v).results = s.results := rfl
@[simp] theorem State.settings_setNet (s : State) (v : Net) : (s.setNet v).settings = s.settings := rfl
@[simp] theorem State.rst_setNet (s : State) (v : Net) : (s.setNet v).rst = s.rst := rfl
@[simp] theorem State.stn_setNet (s : State) (v : Net) : (s.setNet v).stn = s.stn := rfl
@[simp] theorem State.snapshots_setNet (s : State) (v : Net) : (s.setNet v).snapshots = s.snapshots := rfl
@[simp] theorem State.subscriptions_setNet (s : State) (v : Net) : (s.setNet v).subscriptions = s.subscriptions := rfl
@[simp] theorem State.locks_setNet (s : State) (v : Net) : (s.setNet v).locks = s.locks := rfl
@[simp] theorem State.mem_setNet (s : State) (v : Net) : (s.setNet v).mem = s.mem := rfl
@[simp] theorem State.lostCells_setNet (s : State) (v : Net) : (s.setNet v).lostCells = s.lostCells := rfl
@[simp] theorem State.poison_setNet (s : State) (v : Net) : (s.setNet v).poison = s.poison := rfl
@[simp] theorem State.encKey_setNet (s : State) (v : Net) : (s.setNet v).encKey = s.encKey := rfl
@[simp] theorem State.sec_setNet (s : State) (v : Net) : (s.setNet v).sec = s.sec := rfl
@[simp] theorem State.upd_setNet (s : State) (v : Net) : (s.setNet v).upd = s.upd := rfl
@[simp] theorem State.raster_setNet (s : State) (v : Net) : (s.setNet v).raster = s.raster := rfl
@[simp] theorem State.translator_setNet (s : State) (v : Net) : (s.setNet v).translator = s.translator := rfl
@[simp] theorem State.energy_setNet (s : State) (v : Net) : (s.setNet v).energy = s.energy := rfl
@[simp] theorem State.memc_setNet (s : State) (v : Net) : (s.setNet v).memc = s.memc := rfl
@[simp] theorem State.comp_setNet (s : State) (v : Net) : (s.setNet v).comp = s.comp := rfl
@[simp] theorem State.guard_setNet (s : State) (v : Net) : (s.setNet v).guard = s.guard := rfl
@[simp] theorem State.disp_setNet (s : State) (v : Net) : (s.setNet v).disp = s.disp := rfl
@[simp] theorem State.touch_setNet (s : State) (v : Net) : (s.setNet v).touch = s.touch := rfl
@[simp] theorem State.haptic_setNet (s : State) (v : Net) : (s.setNet v).haptic = s.haptic := rfl
@[simp] theorem State.audio_setNet (s : State) (v : Net) : (s.setNet v).audio = s.audio := rfl
@[simp] theorem State.slices_setNet (s : State) (v : Net) : (s.setNet v).slices = s.slices := rfl
@[simp] theorem State.ports_setNet (s : State) (v : Net) : (s.setNet v).ports = s.ports := rfl
@[simp] theorem State.cv_setNet (s : State) (v : Net) : (s.setNet v).cv = s.cv := rfl
@[simp] theorem State.ingress_setNet (s : State) (v : Net) : (s.setNet v).ingress = s.ingress := rfl
@[simp] theorem State.touchQ_setNet (s : State) (v : Net) : (s.setNet v).touchQ = s.touchQ := rfl
@[simp] theorem State.noteQ_setNet (s : State) (v : Net) : (s.setNet v).noteQ = s.noteQ := rfl
@[simp] theorem State.encTouchQ_setNet (s : State) (v : Net) : (s.setNet v).encTouchQ = s.encTouchQ := rfl
@[simp] theorem State.encNoteQ_setNet (s : State) (v : Net) : (s.setNet v).encNoteQ = s.encNoteQ := rfl
@[simp] theorem State.hapticQ_setNet (s : State) (v : Net) : (s.setNet v).hapticQ = s.hapticQ := rfl
@[simp] theorem State.stationLogQ_setNet (s : State) (v : Net) : (s.setNet v).stationLogQ = s.stationLogQ := rfl
@[simp] theorem State.hwLogQ_setNet (s : State) (v : Net) : (s.setNet v).hwLogQ = s.hwLogQ := rfl
@[simp] theorem State.alarmQ_setNet (s : State) (v : Net) : (s.setNet v).alarmQ = s.alarmQ := rfl
@[simp] theorem State.alarms_setNet (s : State) (v : Net) : (s.setNet v).alarms = s.alarms := rfl
@[simp] theorem State.logRings_setNet (s : State) (v : Net) : (s.setNet v).logRings = s.logRings := rfl
@[simp] theorem State.peerLevel_setNet (s : State) (v : Net) : (s.setNet v).peerLevel = s.peerLevel := rfl
@[simp] theorem State.pins_setNet (s : State) (v : Net) : (s.setNet v).pins = s.pins := rfl
@[simp] theorem State.crossings_setNet (s : State) (v : Net) : (s.setNet v).crossings = s.crossings := rfl
@[simp] theorem State.timers_setNet (s : State) (v : Net) : (s.setNet v).timers = s.timers := rfl
@[simp] theorem State.out_setNet (s : State) (v : Net) : (s.setNet v).out = s.out := rfl
@[simp] theorem State.free_setNet (s : State) (v : Net) : (s.setNet v).free = s.free := rfl

/-! ### setUpd -/

@[simp] theorem State.pending_setUpd (s : State) (v : Update) : (s.setUpd v).pending = s.pending := rfl
@[simp] theorem State.powered_setUpd (s : State) (v : Update) : (s.setUpd v).powered = s.powered := rfl
@[simp] theorem State.time_setUpd (s : State) (v : Update) : (s.setUpd v).time = s.time := rfl
@[simp] theorem State.regs_setUpd (s : State) (v : Update) : (s.setUpd v).regs = s.regs := rfl
@[simp] theorem State.shadow_setUpd (s : State) (v : Update) : (s.setUpd v).shadow = s.shadow := rfl
@[simp] theorem State.blobs_setUpd (s : State) (v : Update) : (s.setUpd v).blobs = s.blobs := rfl
@[simp] theorem State.shadowBlobs_setUpd (s : State) (v : Update) : (s.setUpd v).shadowBlobs = s.shadowBlobs := rfl
@[simp] theorem State.blobRev_setUpd (s : State) (v : Update) : (s.setUpd v).blobRev = s.blobRev := rfl
@[simp] theorem State.staging_setUpd (s : State) (v : Update) : (s.setUpd v).staging = s.staging := rfl
@[simp] theorem State.results_setUpd (s : State) (v : Update) : (s.setUpd v).results = s.results := rfl
@[simp] theorem State.settings_setUpd (s : State) (v : Update) : (s.setUpd v).settings = s.settings := rfl
@[simp] theorem State.rst_setUpd (s : State) (v : Update) : (s.setUpd v).rst = s.rst := rfl
@[simp] theorem State.stn_setUpd (s : State) (v : Update) : (s.setUpd v).stn = s.stn := rfl
@[simp] theorem State.snapshots_setUpd (s : State) (v : Update) : (s.setUpd v).snapshots = s.snapshots := rfl
@[simp] theorem State.subscriptions_setUpd (s : State) (v : Update) : (s.setUpd v).subscriptions = s.subscriptions := rfl
@[simp] theorem State.locks_setUpd (s : State) (v : Update) : (s.setUpd v).locks = s.locks := rfl
@[simp] theorem State.mem_setUpd (s : State) (v : Update) : (s.setUpd v).mem = s.mem := rfl
@[simp] theorem State.lostCells_setUpd (s : State) (v : Update) : (s.setUpd v).lostCells = s.lostCells := rfl
@[simp] theorem State.poison_setUpd (s : State) (v : Update) : (s.setUpd v).poison = s.poison := rfl
@[simp] theorem State.encKey_setUpd (s : State) (v : Update) : (s.setUpd v).encKey = s.encKey := rfl
@[simp] theorem State.sec_setUpd (s : State) (v : Update) : (s.setUpd v).sec = s.sec := rfl
@[simp] theorem State.net_setUpd (s : State) (v : Update) : (s.setUpd v).net = s.net := rfl
@[simp] theorem State.raster_setUpd (s : State) (v : Update) : (s.setUpd v).raster = s.raster := rfl
@[simp] theorem State.translator_setUpd (s : State) (v : Update) : (s.setUpd v).translator = s.translator := rfl
@[simp] theorem State.energy_setUpd (s : State) (v : Update) : (s.setUpd v).energy = s.energy := rfl
@[simp] theorem State.memc_setUpd (s : State) (v : Update) : (s.setUpd v).memc = s.memc := rfl
@[simp] theorem State.comp_setUpd (s : State) (v : Update) : (s.setUpd v).comp = s.comp := rfl
@[simp] theorem State.guard_setUpd (s : State) (v : Update) : (s.setUpd v).guard = s.guard := rfl
@[simp] theorem State.disp_setUpd (s : State) (v : Update) : (s.setUpd v).disp = s.disp := rfl
@[simp] theorem State.touch_setUpd (s : State) (v : Update) : (s.setUpd v).touch = s.touch := rfl
@[simp] theorem State.haptic_setUpd (s : State) (v : Update) : (s.setUpd v).haptic = s.haptic := rfl
@[simp] theorem State.audio_setUpd (s : State) (v : Update) : (s.setUpd v).audio = s.audio := rfl
@[simp] theorem State.slices_setUpd (s : State) (v : Update) : (s.setUpd v).slices = s.slices := rfl
@[simp] theorem State.ports_setUpd (s : State) (v : Update) : (s.setUpd v).ports = s.ports := rfl
@[simp] theorem State.cv_setUpd (s : State) (v : Update) : (s.setUpd v).cv = s.cv := rfl
@[simp] theorem State.ingress_setUpd (s : State) (v : Update) : (s.setUpd v).ingress = s.ingress := rfl
@[simp] theorem State.touchQ_setUpd (s : State) (v : Update) : (s.setUpd v).touchQ = s.touchQ := rfl
@[simp] theorem State.noteQ_setUpd (s : State) (v : Update) : (s.setUpd v).noteQ = s.noteQ := rfl
@[simp] theorem State.encTouchQ_setUpd (s : State) (v : Update) : (s.setUpd v).encTouchQ = s.encTouchQ := rfl
@[simp] theorem State.encNoteQ_setUpd (s : State) (v : Update) : (s.setUpd v).encNoteQ = s.encNoteQ := rfl
@[simp] theorem State.hapticQ_setUpd (s : State) (v : Update) : (s.setUpd v).hapticQ = s.hapticQ := rfl
@[simp] theorem State.stationLogQ_setUpd (s : State) (v : Update) : (s.setUpd v).stationLogQ = s.stationLogQ := rfl
@[simp] theorem State.hwLogQ_setUpd (s : State) (v : Update) : (s.setUpd v).hwLogQ = s.hwLogQ := rfl
@[simp] theorem State.alarmQ_setUpd (s : State) (v : Update) : (s.setUpd v).alarmQ = s.alarmQ := rfl
@[simp] theorem State.alarms_setUpd (s : State) (v : Update) : (s.setUpd v).alarms = s.alarms := rfl
@[simp] theorem State.logRings_setUpd (s : State) (v : Update) : (s.setUpd v).logRings = s.logRings := rfl
@[simp] theorem State.peerLevel_setUpd (s : State) (v : Update) : (s.setUpd v).peerLevel = s.peerLevel := rfl
@[simp] theorem State.pins_setUpd (s : State) (v : Update) : (s.setUpd v).pins = s.pins := rfl
@[simp] theorem State.crossings_setUpd (s : State) (v : Update) : (s.setUpd v).crossings = s.crossings := rfl
@[simp] theorem State.timers_setUpd (s : State) (v : Update) : (s.setUpd v).timers = s.timers := rfl
@[simp] theorem State.out_setUpd (s : State) (v : Update) : (s.setUpd v).out = s.out := rfl
@[simp] theorem State.free_setUpd (s : State) (v : Update) : (s.setUpd v).free = s.free := rfl

/-! ### emit -/

@[simp] theorem State.pending_emit (s : State) (e : Emission) : (s.emit e).pending = s.pending := rfl
@[simp] theorem State.powered_emit (s : State) (e : Emission) : (s.emit e).powered = s.powered := rfl
@[simp] theorem State.time_emit (s : State) (e : Emission) : (s.emit e).time = s.time := rfl
@[simp] theorem State.regs_emit (s : State) (e : Emission) : (s.emit e).regs = s.regs := rfl
@[simp] theorem State.shadow_emit (s : State) (e : Emission) : (s.emit e).shadow = s.shadow := rfl
@[simp] theorem State.blobs_emit (s : State) (e : Emission) : (s.emit e).blobs = s.blobs := rfl
@[simp] theorem State.shadowBlobs_emit (s : State) (e : Emission) : (s.emit e).shadowBlobs = s.shadowBlobs := rfl
@[simp] theorem State.blobRev_emit (s : State) (e : Emission) : (s.emit e).blobRev = s.blobRev := rfl
@[simp] theorem State.staging_emit (s : State) (e : Emission) : (s.emit e).staging = s.staging := rfl
@[simp] theorem State.results_emit (s : State) (e : Emission) : (s.emit e).results = s.results := rfl
@[simp] theorem State.settings_emit (s : State) (e : Emission) : (s.emit e).settings = s.settings := rfl
@[simp] theorem State.rst_emit (s : State) (e : Emission) : (s.emit e).rst = s.rst := rfl
@[simp] theorem State.stn_emit (s : State) (e : Emission) : (s.emit e).stn = s.stn := rfl
@[simp] theorem State.snapshots_emit (s : State) (e : Emission) : (s.emit e).snapshots = s.snapshots := rfl
@[simp] theorem State.subscriptions_emit (s : State) (e : Emission) : (s.emit e).subscriptions = s.subscriptions := rfl
@[simp] theorem State.locks_emit (s : State) (e : Emission) : (s.emit e).locks = s.locks := rfl
@[simp] theorem State.mem_emit (s : State) (e : Emission) : (s.emit e).mem = s.mem := rfl
@[simp] theorem State.lostCells_emit (s : State) (e : Emission) : (s.emit e).lostCells = s.lostCells := rfl
@[simp] theorem State.poison_emit (s : State) (e : Emission) : (s.emit e).poison = s.poison := rfl
@[simp] theorem State.encKey_emit (s : State) (e : Emission) : (s.emit e).encKey = s.encKey := rfl
@[simp] theorem State.sec_emit (s : State) (e : Emission) : (s.emit e).sec = s.sec := rfl
@[simp] theorem State.net_emit (s : State) (e : Emission) : (s.emit e).net = s.net := rfl
@[simp] theorem State.upd_emit (s : State) (e : Emission) : (s.emit e).upd = s.upd := rfl
@[simp] theorem State.raster_emit (s : State) (e : Emission) : (s.emit e).raster = s.raster := rfl
@[simp] theorem State.translator_emit (s : State) (e : Emission) : (s.emit e).translator = s.translator := rfl
@[simp] theorem State.energy_emit (s : State) (e : Emission) : (s.emit e).energy = s.energy := rfl
@[simp] theorem State.memc_emit (s : State) (e : Emission) : (s.emit e).memc = s.memc := rfl
@[simp] theorem State.comp_emit (s : State) (e : Emission) : (s.emit e).comp = s.comp := rfl
@[simp] theorem State.guard_emit (s : State) (e : Emission) : (s.emit e).guard = s.guard := rfl
@[simp] theorem State.disp_emit (s : State) (e : Emission) : (s.emit e).disp = s.disp := rfl
@[simp] theorem State.touch_emit (s : State) (e : Emission) : (s.emit e).touch = s.touch := rfl
@[simp] theorem State.haptic_emit (s : State) (e : Emission) : (s.emit e).haptic = s.haptic := rfl
@[simp] theorem State.audio_emit (s : State) (e : Emission) : (s.emit e).audio = s.audio := rfl
@[simp] theorem State.slices_emit (s : State) (e : Emission) : (s.emit e).slices = s.slices := rfl
@[simp] theorem State.ports_emit (s : State) (e : Emission) : (s.emit e).ports = s.ports := rfl
@[simp] theorem State.cv_emit (s : State) (e : Emission) : (s.emit e).cv = s.cv := rfl
@[simp] theorem State.ingress_emit (s : State) (e : Emission) : (s.emit e).ingress = s.ingress := rfl
@[simp] theorem State.touchQ_emit (s : State) (e : Emission) : (s.emit e).touchQ = s.touchQ := rfl
@[simp] theorem State.noteQ_emit (s : State) (e : Emission) : (s.emit e).noteQ = s.noteQ := rfl
@[simp] theorem State.encTouchQ_emit (s : State) (e : Emission) : (s.emit e).encTouchQ = s.encTouchQ := rfl
@[simp] theorem State.encNoteQ_emit (s : State) (e : Emission) : (s.emit e).encNoteQ = s.encNoteQ := rfl
@[simp] theorem State.hapticQ_emit (s : State) (e : Emission) : (s.emit e).hapticQ = s.hapticQ := rfl
@[simp] theorem State.stationLogQ_emit (s : State) (e : Emission) : (s.emit e).stationLogQ = s.stationLogQ := rfl
@[simp] theorem State.hwLogQ_emit (s : State) (e : Emission) : (s.emit e).hwLogQ = s.hwLogQ := rfl
@[simp] theorem State.alarmQ_emit (s : State) (e : Emission) : (s.emit e).alarmQ = s.alarmQ := rfl
@[simp] theorem State.alarms_emit (s : State) (e : Emission) : (s.emit e).alarms = s.alarms := rfl
@[simp] theorem State.logRings_emit (s : State) (e : Emission) : (s.emit e).logRings = s.logRings := rfl
@[simp] theorem State.peerLevel_emit (s : State) (e : Emission) : (s.emit e).peerLevel = s.peerLevel := rfl
@[simp] theorem State.pins_emit (s : State) (e : Emission) : (s.emit e).pins = s.pins := rfl
@[simp] theorem State.crossings_emit (s : State) (e : Emission) : (s.emit e).crossings = s.crossings := rfl
@[simp] theorem State.timers_emit (s : State) (e : Emission) : (s.emit e).timers = s.timers := rfl
@[simp] theorem State.free_emit (s : State) (e : Emission) : (s.emit e).free = s.free := rfl

/-! ### answer -/

@[simp] theorem State.pending_answer (s : State) (st : Status) (d : Bytes) (a : Nat) : (s.answer st d a).pending = s.pending := rfl
@[simp] theorem State.powered_answer (s : State) (st : Status) (d : Bytes) (a : Nat) : (s.answer st d a).powered = s.powered := rfl
@[simp] theorem State.time_answer (s : State) (st : Status) (d : Bytes) (a : Nat) : (s.answer st d a).time = s.time := rfl
@[simp] theorem State.regs_answer (s : State) (st : Status) (d : Bytes) (a : Nat) : (s.answer st d a).regs = s.regs := rfl
@[simp] theorem State.shadow_answer (s : State) (st : Status) (d : Bytes) (a : Nat) : (s.answer st d a).shadow = s.shadow := rfl
@[simp] theorem State.blobs_answer (s : State) (st : Status) (d : Bytes) (a : Nat) : (s.answer st d a).blobs = s.blobs := rfl
@[simp] theorem State.shadowBlobs_answer (s : State) (st : Status) (d : Bytes) (a : Nat) : (s.answer st d a).shadowBlobs = s.shadowBlobs := rfl
@[simp] theorem State.blobRev_answer (s : State) (st : Status) (d : Bytes) (a : Nat) : (s.answer st d a).blobRev = s.blobRev := rfl
@[simp] theorem State.staging_answer (s : State) (st : Status) (d : Bytes) (a : Nat) : (s.answer st d a).staging = s.staging := rfl
@[simp] theorem State.results_answer (s : State) (st : Status) (d : Bytes) (a : Nat) : (s.answer st d a).results = s.results := rfl
@[simp] theorem State.settings_answer (s : State) (st : Status) (d : Bytes) (a : Nat) : (s.answer st d a).settings = s.settings := rfl
@[simp] theorem State.rst_answer (s : State) (st : Status) (d : Bytes) (a : Nat) : (s.answer st d a).rst = s.rst := rfl
@[simp] theorem State.stn_answer (s : State) (st : Status) (d : Bytes) (a : Nat) : (s.answer st d a).stn = s.stn := rfl
@[simp] theorem State.snapshots_answer (s : State) (st : Status) (d : Bytes) (a : Nat) : (s.answer st d a).snapshots = s.snapshots := rfl
@[simp] theorem State.subscriptions_answer (s : State) (st : Status) (d : Bytes) (a : Nat) : (s.answer st d a).subscriptions = s.subscriptions := rfl
@[simp] theorem State.locks_answer (s : State) (st : Status) (d : Bytes) (a : Nat) : (s.answer st d a).locks = s.locks := rfl
@[simp] theorem State.mem_answer (s : State) (st : Status) (d : Bytes) (a : Nat) : (s.answer st d a).mem = s.mem := rfl
@[simp] theorem State.lostCells_answer (s : State) (st : Status) (d : Bytes) (a : Nat) : (s.answer st d a).lostCells = s.lostCells := rfl
@[simp] theorem State.poison_answer (s : State) (st : Status) (d : Bytes) (a : Nat) : (s.answer st d a).poison = s.poison := rfl
@[simp] theorem State.encKey_answer (s : State) (st : Status) (d : Bytes) (a : Nat) : (s.answer st d a).encKey = s.encKey := rfl
@[simp] theorem State.sec_answer (s : State) (st : Status) (d : Bytes) (a : Nat) : (s.answer st d a).sec = s.sec := rfl
@[simp] theorem State.net_answer (s : State) (st : Status) (d : Bytes) (a : Nat) : (s.answer st d a).net = s.net := rfl
@[simp] theorem State.upd_answer (s : State) (st : Status) (d : Bytes) (a : Nat) : (s.answer st d a).upd = s.upd := rfl
@[simp] theorem State.raster_answer (s : State) (st : Status) (d : Bytes) (a : Nat) : (s.answer st d a).raster = s.raster := rfl
@[simp] theorem State.translator_answer (s : State) (st : Status) (d : Bytes) (a : Nat) : (s.answer st d a).translator = s.translator := rfl
@[simp] theorem State.energy_answer (s : State) (st : Status) (d : Bytes) (a : Nat) : (s.answer st d a).energy = s.energy := rfl
@[simp] theorem State.memc_answer (s : State) (st : Status) (d : Bytes) (a : Nat) : (s.answer st d a).memc = s.memc := rfl
@[simp] theorem State.comp_answer (s : State) (st : Status) (d : Bytes) (a : Nat) : (s.answer st d a).comp = s.comp := rfl
@[simp] theorem State.guard_answer (s : State) (st : Status) (d : Bytes) (a : Nat) : (s.answer st d a).guard = s.guard := rfl
@[simp] theorem State.disp_answer (s : State) (st : Status) (d : Bytes) (a : Nat) : (s.answer st d a).disp = s.disp := rfl
@[simp] theorem State.touch_answer (s : State) (st : Status) (d : Bytes) (a : Nat) : (s.answer st d a).touch = s.touch := rfl
@[simp] theorem State.haptic_answer (s : State) (st : Status) (d : Bytes) (a : Nat) : (s.answer st d a).haptic = s.haptic := rfl
@[simp] theorem State.audio_answer (s : State) (st : Status) (d : Bytes) (a : Nat) : (s.answer st d a).audio = s.audio := rfl
@[simp] theorem State.slices_answer (s : State) (st : Status) (d : Bytes) (a : Nat) : (s.answer st d a).slices = s.slices := rfl
@[simp] theorem State.ports_answer (s : State) (st : Status) (d : Bytes) (a : Nat) : (s.answer st d a).ports = s.ports := rfl
@[simp] theorem State.cv_answer (s : State) (st : Status) (d : Bytes) (a : Nat) : (s.answer st d a).cv = s.cv := rfl
@[simp] theorem State.ingress_answer (s : State) (st : Status) (d : Bytes) (a : Nat) : (s.answer st d a).ingress = s.ingress := rfl
@[simp] theorem State.touchQ_answer (s : State) (st : Status) (d : Bytes) (a : Nat) : (s.answer st d a).touchQ = s.touchQ := rfl
@[simp] theorem State.noteQ_answer (s : State) (st : Status) (d : Bytes) (a : Nat) : (s.answer st d a).noteQ = s.noteQ := rfl
@[simp] theorem State.encTouchQ_answer (s : State) (st : Status) (d : Bytes) (a : Nat) : (s.answer st d a).encTouchQ = s.encTouchQ := rfl
@[simp] theorem State.encNoteQ_answer (s : State) (st : Status) (d : Bytes) (a : Nat) : (s.answer st d a).encNoteQ = s.encNoteQ := rfl
@[simp] theorem State.hapticQ_answer (s : State) (st : Status) (d : Bytes) (a : Nat) : (s.answer st d a).hapticQ = s.hapticQ := rfl
@[simp] theorem State.stationLogQ_answer (s : State) (st : Status) (d : Bytes) (a : Nat) : (s.answer st d a).stationLogQ = s.stationLogQ := rfl
@[simp] theorem State.hwLogQ_answer (s : State) (st : Status) (d : Bytes) (a : Nat) : (s.answer st d a).hwLogQ = s.hwLogQ := rfl
@[simp] theorem State.alarmQ_answer (s : State) (st : Status) (d : Bytes) (a : Nat) : (s.answer st d a).alarmQ = s.alarmQ := rfl
@[simp] theorem State.alarms_answer (s : State) (st : Status) (d : Bytes) (a : Nat) : (s.answer st d a).alarms = s.alarms := rfl
@[simp] theorem State.logRings_answer (s : State) (st : Status) (d : Bytes) (a : Nat) : (s.answer st d a).logRings = s.logRings := rfl
@[simp] theorem State.peerLevel_answer (s : State) (st : Status) (d : Bytes) (a : Nat) : (s.answer st d a).peerLevel = s.peerLevel := rfl
@[simp] theorem State.pins_answer (s : State) (st : Status) (d : Bytes) (a : Nat) : (s.answer st d a).pins = s.pins := rfl
@[simp] theorem State.crossings_answer (s : State) (st : Status) (d : Bytes) (a : Nat) : (s.answer st d a).crossings = s.crossings := rfl
@[simp] theorem State.timers_answer (s : State) (st : Status) (d : Bytes) (a : Nat) : (s.answer st d a).timers = s.timers := rfl
@[simp] theorem State.free_answer (s : State) (st : Status) (d : Bytes) (a : Nat) : (s.answer st d a).free = s.free := rfl

/-! ### store -/

@[simp] theorem State.pending_store (s : State) (n addr : Nat) (b : Bytes) : (s.store n addr b).pending = s.pending := rfl
@[simp] theorem State.powered_store (s : State) (n addr : Nat) (b : Bytes) : (s.store n addr b).powered = s.powered := rfl
@[simp] theorem State.time_store (s : State) (n addr : Nat) (b : Bytes) : (s.store n addr b).time = s.time := rfl
@[simp] theorem State.regs_store (s : State) (n addr : Nat) (b : Bytes) : (s.store n addr b).regs = s.regs := rfl
@[simp] theorem State.shadow_store (s : State) (n addr : Nat) (b : Bytes) : (s.store n addr b).shadow = s.shadow := rfl
@[simp] theorem State.blobs_store (s : State) (n addr : Nat) (b : Bytes) : (s.store n addr b).blobs = s.blobs := rfl
@[simp] theorem State.shadowBlobs_store (s : State) (n addr : Nat) (b : Bytes) : (s.store n addr b).shadowBlobs = s.shadowBlobs := rfl
@[simp] theorem State.blobRev_store (s : State) (n addr : Nat) (b : Bytes) : (s.store n addr b).blobRev = s.blobRev := rfl
@[simp] theorem State.staging_store (s : State) (n addr : Nat) (b : Bytes) : (s.store n addr b).staging = s.staging := rfl
@[simp] theorem State.results_store (s : State) (n addr : Nat) (b : Bytes) : (s.store n addr b).results = s.results := rfl
@[simp] theorem State.settings_store (s : State) (n addr : Nat) (b : Bytes) : (s.store n addr b).settings = s.settings := rfl
@[simp] theorem State.rst_store (s : State) (n addr : Nat) (b : Bytes) : (s.store n addr b).rst = s.rst := rfl
@[simp] theorem State.stn_store (s : State) (n addr : Nat) (b : Bytes) : (s.store n addr b).stn = s.stn := rfl
@[simp] theorem State.snapshots_store (s : State) (n addr : Nat) (b : Bytes) : (s.store n addr b).snapshots = s.snapshots := rfl
@[simp] theorem State.subscriptions_store (s : State) (n addr : Nat) (b : Bytes) : (s.store n addr b).subscriptions = s.subscriptions := rfl
@[simp] theorem State.locks_store (s : State) (n addr : Nat) (b : Bytes) : (s.store n addr b).locks = s.locks := rfl
@[simp] theorem State.poison_store (s : State) (n addr : Nat) (b : Bytes) : (s.store n addr b).poison = s.poison := rfl
@[simp] theorem State.encKey_store (s : State) (n addr : Nat) (b : Bytes) : (s.store n addr b).encKey = s.encKey := rfl
@[simp] theorem State.sec_store (s : State) (n addr : Nat) (b : Bytes) : (s.store n addr b).sec = s.sec := rfl
@[simp] theorem State.net_store (s : State) (n addr : Nat) (b : Bytes) : (s.store n addr b).net = s.net := rfl
@[simp] theorem State.upd_store (s : State) (n addr : Nat) (b : Bytes) : (s.store n addr b).upd = s.upd := rfl
@[simp] theorem State.raster_store (s : State) (n addr : Nat) (b : Bytes) : (s.store n addr b).raster = s.raster := rfl
@[simp] theorem State.translator_store (s : State) (n addr : Nat) (b : Bytes) : (s.store n addr b).translator = s.translator := rfl
@[simp] theorem State.energy_store (s : State) (n addr : Nat) (b : Bytes) : (s.store n addr b).energy = s.energy := rfl
@[simp] theorem State.memc_store (s : State) (n addr : Nat) (b : Bytes) : (s.store n addr b).memc = s.memc := rfl
@[simp] theorem State.comp_store (s : State) (n addr : Nat) (b : Bytes) : (s.store n addr b).comp = s.comp := rfl
@[simp] theorem State.guard_store (s : State) (n addr : Nat) (b : Bytes) : (s.store n addr b).guard = s.guard := rfl
@[simp] theorem State.disp_store (s : State) (n addr : Nat) (b : Bytes) : (s.store n addr b).disp = s.disp := rfl
@[simp] theorem State.touch_store (s : State) (n addr : Nat) (b : Bytes) : (s.store n addr b).touch = s.touch := rfl
@[simp] theorem State.haptic_store (s : State) (n addr : Nat) (b : Bytes) : (s.store n addr b).haptic = s.haptic := rfl
@[simp] theorem State.audio_store (s : State) (n addr : Nat) (b : Bytes) : (s.store n addr b).audio = s.audio := rfl
@[simp] theorem State.slices_store (s : State) (n addr : Nat) (b : Bytes) : (s.store n addr b).slices = s.slices := rfl
@[simp] theorem State.ports_store (s : State) (n addr : Nat) (b : Bytes) : (s.store n addr b).ports = s.ports := rfl
@[simp] theorem State.cv_store (s : State) (n addr : Nat) (b : Bytes) : (s.store n addr b).cv = s.cv := rfl
@[simp] theorem State.ingress_store (s : State) (n addr : Nat) (b : Bytes) : (s.store n addr b).ingress = s.ingress := rfl
@[simp] theorem State.touchQ_store (s : State) (n addr : Nat) (b : Bytes) : (s.store n addr b).touchQ = s.touchQ := rfl
@[simp] theorem State.noteQ_store (s : State) (n addr : Nat) (b : Bytes) : (s.store n addr b).noteQ = s.noteQ := rfl
@[simp] theorem State.encTouchQ_store (s : State) (n addr : Nat) (b : Bytes) : (s.store n addr b).encTouchQ = s.encTouchQ := rfl
@[simp] theorem State.encNoteQ_store (s : State) (n addr : Nat) (b : Bytes) : (s.store n addr b).encNoteQ = s.encNoteQ := rfl
@[simp] theorem State.hapticQ_store (s : State) (n addr : Nat) (b : Bytes) : (s.store n addr b).hapticQ = s.hapticQ := rfl
@[simp] theorem State.stationLogQ_store (s : State) (n addr : Nat) (b : Bytes) : (s.store n addr b).stationLogQ = s.stationLogQ := rfl
@[simp] theorem State.hwLogQ_store (s : State) (n addr : Nat) (b : Bytes) : (s.store n addr b).hwLogQ = s.hwLogQ := rfl
@[simp] theorem State.alarmQ_store (s : State) (n addr : Nat) (b : Bytes) : (s.store n addr b).alarmQ = s.alarmQ := rfl
@[simp] theorem State.alarms_store (s : State) (n addr : Nat) (b : Bytes) : (s.store n addr b).alarms = s.alarms := rfl
@[simp] theorem State.logRings_store (s : State) (n addr : Nat) (b : Bytes) : (s.store n addr b).logRings = s.logRings := rfl
@[simp] theorem State.peerLevel_store (s : State) (n addr : Nat) (b : Bytes) : (s.store n addr b).peerLevel = s.peerLevel := rfl
@[simp] theorem State.pins_store (s : State) (n addr : Nat) (b : Bytes) : (s.store n addr b).pins = s.pins := rfl
@[simp] theorem State.crossings_store (s : State) (n addr : Nat) (b : Bytes) : (s.store n addr b).crossings = s.crossings := rfl
@[simp] theorem State.timers_store (s : State) (n addr : Nat) (b : Bytes) : (s.store n addr b).timers = s.timers := rfl
@[simp] theorem State.out_store (s : State) (n addr : Nat) (b : Bytes) : (s.store n addr b).out = s.out := rfl
@[simp] theorem State.free_store (s : State) (n addr : Nat) (b : Bytes) : (s.store n addr b).free = s.free := rfl

/-! ### unpoison -/

@[simp] theorem State.pending_unpoison (s : State) (n a len : Nat) : (s.unpoison n a len).pending = s.pending := rfl
@[simp] theorem State.powered_unpoison (s : State) (n a len : Nat) : (s.unpoison n a len).powered = s.powered := rfl
@[simp] theorem State.time_unpoison (s : State) (n a len : Nat) : (s.unpoison n a len).time = s.time := rfl
@[simp] theorem State.regs_unpoison (s : State) (n a len : Nat) : (s.unpoison n a len).regs = s.regs := rfl
@[simp] theorem State.shadow_unpoison (s : State) (n a len : Nat) : (s.unpoison n a len).shadow = s.shadow := rfl
@[simp] theorem State.blobs_unpoison (s : State) (n a len : Nat) : (s.unpoison n a len).blobs = s.blobs := rfl
@[simp] theorem State.shadowBlobs_unpoison (s : State) (n a len : Nat) : (s.unpoison n a len).shadowBlobs = s.shadowBlobs := rfl
@[simp] theorem State.blobRev_unpoison (s : State) (n a len : Nat) : (s.unpoison n a len).blobRev = s.blobRev := rfl
@[simp] theorem State.staging_unpoison (s : State) (n a len : Nat) : (s.unpoison n a len).staging = s.staging := rfl
@[simp] theorem State.results_unpoison (s : State) (n a len : Nat) : (s.unpoison n a len).results = s.results := rfl
@[simp] theorem State.settings_unpoison (s : State) (n a len : Nat) : (s.unpoison n a len).settings = s.settings := rfl
@[simp] theorem State.rst_unpoison (s : State) (n a len : Nat) : (s.unpoison n a len).rst = s.rst := rfl
@[simp] theorem State.stn_unpoison (s : State) (n a len : Nat) : (s.unpoison n a len).stn = s.stn := rfl
@[simp] theorem State.snapshots_unpoison (s : State) (n a len : Nat) : (s.unpoison n a len).snapshots = s.snapshots := rfl
@[simp] theorem State.subscriptions_unpoison (s : State) (n a len : Nat) : (s.unpoison n a len).subscriptions = s.subscriptions := rfl
@[simp] theorem State.locks_unpoison (s : State) (n a len : Nat) : (s.unpoison n a len).locks = s.locks := rfl
@[simp] theorem State.mem_unpoison (s : State) (n a len : Nat) : (s.unpoison n a len).mem = s.mem := rfl
@[simp] theorem State.lostCells_unpoison (s : State) (n a len : Nat) : (s.unpoison n a len).lostCells = s.lostCells := rfl
@[simp] theorem State.encKey_unpoison (s : State) (n a len : Nat) : (s.unpoison n a len).encKey = s.encKey := rfl
@[simp] theorem State.sec_unpoison (s : State) (n a len : Nat) : (s.unpoison n a len).sec = s.sec := rfl
@[simp] theorem State.net_unpoison (s : State) (n a len : Nat) : (s.unpoison n a len).net = s.net := rfl
@[simp] theorem State.upd_unpoison (s : State) (n a len : Nat) : (s.unpoison n a len).upd = s.upd := rfl
@[simp] theorem State.raster_unpoison (s : State) (n a len : Nat) : (s.unpoison n a len).raster = s.raster := rfl
@[simp] theorem State.translator_unpoison (s : State) (n a len : Nat) : (s.unpoison n a len).translator = s.translator := rfl
@[simp] theorem State.energy_unpoison (s : State) (n a len : Nat) : (s.unpoison n a len).energy = s.energy := rfl
@[simp] theorem State.memc_unpoison (s : State) (n a len : Nat) : (s.unpoison n a len).memc = s.memc := rfl
@[simp] theorem State.comp_unpoison (s : State) (n a len : Nat) : (s.unpoison n a len).comp = s.comp := rfl
@[simp] theorem State.guard_unpoison (s : State) (n a len : Nat) : (s.unpoison n a len).guard = s.guard := rfl
@[simp] theorem State.disp_unpoison (s : State) (n a len : Nat) : (s.unpoison n a len).disp = s.disp := rfl
@[simp] theorem State.touch_unpoison (s : State) (n a len : Nat) : (s.unpoison n a len).touch = s.touch := rfl
@[simp] theorem State.haptic_unpoison (s : State) (n a len : Nat) : (s.unpoison n a len).haptic = s.haptic := rfl
@[simp] theorem State.audio_unpoison (s : State) (n a len : Nat) : (s.unpoison n a len).audio = s.audio := rfl
@[simp] theorem State.slices_unpoison (s : State) (n a len : Nat) : (s.unpoison n a len).slices = s.slices := rfl
@[simp] theorem State.ports_unpoison (s : State) (n a len : Nat) : (s.unpoison n a len).ports = s.ports := rfl
@[simp] theorem State.cv_unpoison (s : State) (n a len : Nat) : (s.unpoison n a len).cv = s.cv := rfl
@[simp] theorem State.ingress_unpoison (s : State) (n a len : Nat) : (s.unpoison n a len).ingress = s.ingress := rfl
@[simp] theorem State.touchQ_unpoison (s : State) (n a len : Nat) : (s.unpoison n a len).touchQ = s.touchQ := rfl
@[simp] theorem State.noteQ_unpoison (s : State) (n a len : Nat) : (s.unpoison n a len).noteQ = s.noteQ := rfl
@[simp] theorem State.encTouchQ_unpoison (s : State) (n a len : Nat) : (s.unpoison n a len).encTouchQ = s.encTouchQ := rfl
@[simp] theorem State.encNoteQ_unpoison (s : State) (n a len : Nat) : (s.unpoison n a len).encNoteQ = s.encNoteQ := rfl
@[simp] theorem State.hapticQ_unpoison (s : State) (n a len : Nat) : (s.unpoison n a len).hapticQ = s.hapticQ := rfl
@[simp] theorem State.stationLogQ_unpoison (s : State) (n a len : Nat) : (s.unpoison n a len).stationLogQ = s.stationLogQ := rfl
@[simp] theorem State.hwLogQ_unpoison (s : State) (n a len : Nat) : (s.unpoison n a len).hwLogQ = s.hwLogQ := rfl
@[simp] theorem State.alarmQ_unpoison (s : State) (n a len : Nat) : (s.unpoison n a len).alarmQ = s.alarmQ := rfl
@[simp] theorem State.alarms_unpoison (s : State) (n a len : Nat) : (s.unpoison n a len).alarms = s.alarms := rfl
@[simp] theorem State.logRings_unpoison (s : State) (n a len : Nat) : (s.unpoison n a len).logRings = s.logRings := rfl
@[simp] theorem State.peerLevel_unpoison (s : State) (n a len : Nat) : (s.unpoison n a len).peerLevel = s.peerLevel := rfl
@[simp] theorem State.pins_unpoison (s : State) (n a len : Nat) : (s.unpoison n a len).pins = s.pins := rfl
@[simp] theorem State.crossings_unpoison (s : State) (n a len : Nat) : (s.unpoison n a len).crossings = s.crossings := rfl
@[simp] theorem State.timers_unpoison (s : State) (n a len : Nat) : (s.unpoison n a len).timers = s.timers := rfl
@[simp] theorem State.out_unpoison (s : State) (n a len : Nat) : (s.unpoison n a len).out = s.out := rfl
@[simp] theorem State.free_unpoison (s : State) (n a len : Nat) : (s.unpoison n a len).free = s.free := rfl

/-! ### wrBlobShadow -/

@[simp] theorem State.pending_wrBlobShadow (s : State) (p : Place) (b : Bytes) : (s.wrBlobShadow p b).pending = s.pending := rfl
@[simp] theorem State.powered_wrBlobShadow (s : State) (p : Place) (b : Bytes) : (s.wrBlobShadow p b).powered = s.powered := rfl
@[simp] theorem State.time_wrBlobShadow (s : State) (p : Place) (b : Bytes) : (s.wrBlobShadow p b).time = s.time := rfl
@[simp] theorem State.regs_wrBlobShadow (s : State) (p : Place) (b : Bytes) : (s.wrBlobShadow p b).regs = s.regs := rfl
@[simp] theorem State.shadow_wrBlobShadow (s : State) (p : Place) (b : Bytes) : (s.wrBlobShadow p b).shadow = s.shadow := rfl
@[simp] theorem State.blobs_wrBlobShadow (s : State) (p : Place) (b : Bytes) : (s.wrBlobShadow p b).blobs = s.blobs := rfl
@[simp] theorem State.staging_wrBlobShadow (s : State) (p : Place) (b : Bytes) : (s.wrBlobShadow p b).staging = s.staging := rfl
@[simp] theorem State.results_wrBlobShadow (s : State) (p : Place) (b : Bytes) : (s.wrBlobShadow p b).results = s.results := rfl
@[simp] theorem State.settings_wrBlobShadow (s : State) (p : Place) (b : Bytes) : (s.wrBlobShadow p b).settings = s.settings := rfl
@[simp] theorem State.rst_wrBlobShadow (s : State) (p : Place) (b : Bytes) : (s.wrBlobShadow p b).rst = s.rst := rfl
@[simp] theorem State.stn_wrBlobShadow (s : State) (p : Place) (b : Bytes) : (s.wrBlobShadow p b).stn = s.stn := rfl
@[simp] theorem State.snapshots_wrBlobShadow (s : State) (p : Place) (b : Bytes) : (s.wrBlobShadow p b).snapshots = s.snapshots := rfl
@[simp] theorem State.subscriptions_wrBlobShadow (s : State) (p : Place) (b : Bytes) : (s.wrBlobShadow p b).subscriptions = s.subscriptions := rfl
@[simp] theorem State.locks_wrBlobShadow (s : State) (p : Place) (b : Bytes) : (s.wrBlobShadow p b).locks = s.locks := rfl
@[simp] theorem State.mem_wrBlobShadow (s : State) (p : Place) (b : Bytes) : (s.wrBlobShadow p b).mem = s.mem := rfl
@[simp] theorem State.lostCells_wrBlobShadow (s : State) (p : Place) (b : Bytes) : (s.wrBlobShadow p b).lostCells = s.lostCells := rfl
@[simp] theorem State.poison_wrBlobShadow (s : State) (p : Place) (b : Bytes) : (s.wrBlobShadow p b).poison = s.poison := rfl
@[simp] theorem State.encKey_wrBlobShadow (s : State) (p : Place) (b : Bytes) : (s.wrBlobShadow p b).encKey = s.encKey := rfl
@[simp] theorem State.sec_wrBlobShadow (s : State) (p : Place) (b : Bytes) : (s.wrBlobShadow p b).sec = s.sec := rfl
@[simp] theorem State.net_wrBlobShadow (s : State) (p : Place) (b : Bytes) : (s.wrBlobShadow p b).net = s.net := rfl
@[simp] theorem State.upd_wrBlobShadow (s : State) (p : Place) (b : Bytes) : (s.wrBlobShadow p b).upd = s.upd := rfl
@[simp] theorem State.raster_wrBlobShadow (s : State) (p : Place) (b : Bytes) : (s.wrBlobShadow p b).raster = s.raster := rfl
@[simp] theorem State.translator_wrBlobShadow (s : State) (p : Place) (b : Bytes) : (s.wrBlobShadow p b).translator = s.translator := rfl
@[simp] theorem State.energy_wrBlobShadow (s : State) (p : Place) (b : Bytes) : (s.wrBlobShadow p b).energy = s.energy := rfl
@[simp] theorem State.memc_wrBlobShadow (s : State) (p : Place) (b : Bytes) : (s.wrBlobShadow p b).memc = s.memc := rfl
@[simp] theorem State.comp_wrBlobShadow (s : State) (p : Place) (b : Bytes) : (s.wrBlobShadow p b).comp = s.comp := rfl
@[simp] theorem State.guard_wrBlobShadow (s : State) (p : Place) (b : Bytes) : (s.wrBlobShadow p b).guard = s.guard := rfl
@[simp] theorem State.disp_wrBlobShadow (s : State) (p : Place) (b : Bytes) : (s.wrBlobShadow p b).disp = s.disp := rfl
@[simp] theorem State.touch_wrBlobShadow (s : State) (p : Place) (b : Bytes) : (s.wrBlobShadow p b).touch = s.touch := rfl
@[simp] theorem State.haptic_wrBlobShadow (s : State) (p : Place) (b : Bytes) : (s.wrBlobShadow p b).haptic = s.haptic := rfl
@[simp] theorem State.audio_wrBlobShadow (s : State) (p : Place) (b : Bytes) : (s.wrBlobShadow p b).audio = s.audio := rfl
@[simp] theorem State.slices_wrBlobShadow (s : State) (p : Place) (b : Bytes) : (s.wrBlobShadow p b).slices = s.slices := rfl
@[simp] theorem State.ports_wrBlobShadow (s : State) (p : Place) (b : Bytes) : (s.wrBlobShadow p b).ports = s.ports := rfl
@[simp] theorem State.cv_wrBlobShadow (s : State) (p : Place) (b : Bytes) : (s.wrBlobShadow p b).cv = s.cv := rfl
@[simp] theorem State.ingress_wrBlobShadow (s : State) (p : Place) (b : Bytes) : (s.wrBlobShadow p b).ingress = s.ingress := rfl
@[simp] theorem State.touchQ_wrBlobShadow (s : State) (p : Place) (b : Bytes) : (s.wrBlobShadow p b).touchQ = s.touchQ := rfl
@[simp] theorem State.noteQ_wrBlobShadow (s : State) (p : Place) (b : Bytes) : (s.wrBlobShadow p b).noteQ = s.noteQ := rfl
@[simp] theorem State.encTouchQ_wrBlobShadow (s : State) (p : Place) (b : Bytes) : (s.wrBlobShadow p b).encTouchQ = s.encTouchQ := rfl
@[simp] theorem State.encNoteQ_wrBlobShadow (s : State) (p : Place) (b : Bytes) : (s.wrBlobShadow p b).encNoteQ = s.encNoteQ := rfl
@[simp] theorem State.hapticQ_wrBlobShadow (s : State) (p : Place) (b : Bytes) : (s.wrBlobShadow p b).hapticQ = s.hapticQ := rfl
@[simp] theorem State.stationLogQ_wrBlobShadow (s : State) (p : Place) (b : Bytes) : (s.wrBlobShadow p b).stationLogQ = s.stationLogQ := rfl
@[simp] theorem State.hwLogQ_wrBlobShadow (s : State) (p : Place) (b : Bytes) : (s.wrBlobShadow p b).hwLogQ = s.hwLogQ := rfl
@[simp] theorem State.alarmQ_wrBlobShadow (s : State) (p : Place) (b : Bytes) : (s.wrBlobShadow p b).alarmQ = s.alarmQ := rfl
@[simp] theorem State.alarms_wrBlobShadow (s : State) (p : Place) (b : Bytes) : (s.wrBlobShadow p b).alarms = s.alarms := rfl
@[simp] theorem State.logRings_wrBlobShadow (s : State) (p : Place) (b : Bytes) : (s.wrBlobShadow p b).logRings = s.logRings := rfl
@[simp] theorem State.peerLevel_wrBlobShadow (s : State) (p : Place) (b : Bytes) : (s.wrBlobShadow p b).peerLevel = s.peerLevel := rfl
@[simp] theorem State.pins_wrBlobShadow (s : State) (p : Place) (b : Bytes) : (s.wrBlobShadow p b).pins = s.pins := rfl
@[simp] theorem State.crossings_wrBlobShadow (s : State) (p : Place) (b : Bytes) : (s.wrBlobShadow p b).crossings = s.crossings := rfl
@[simp] theorem State.timers_wrBlobShadow (s : State) (p : Place) (b : Bytes) : (s.wrBlobShadow p b).timers = s.timers := rfl
@[simp] theorem State.out_wrBlobShadow (s : State) (p : Place) (b : Bytes) : (s.wrBlobShadow p b).out = s.out := rfl
@[simp] theorem State.free_wrBlobShadow (s : State) (p : Place) (b : Bytes) : (s.wrBlobShadow p b).free = s.free := rfl

/-! ### wr -/

@[simp] theorem State.pending_wr (s : State) (r : ObjRow) (v : Int) (n i t j : Nat) : (s.wr r v n i t j).pending = s.pending := by
  unfold State.wr State.noteSubs State.noteChange; split <;> split <;> rfl
@[simp] theorem State.powered_wr (s : State) (r : ObjRow) (v : Int) (n i t j : Nat) : (s.wr r v n i t j).powered = s.powered := by
  unfold State.wr State.noteSubs State.noteChange; split <;> split <;> rfl
@[simp] theorem State.time_wr (s : State) (r : ObjRow) (v : Int) (n i t j : Nat) : (s.wr r v n i t j).time = s.time := by
  unfold State.wr State.noteSubs State.noteChange; split <;> split <;> rfl
@[simp] theorem State.shadow_wr (s : State) (r : ObjRow) (v : Int) (n i t j : Nat) : (s.wr r v n i t j).shadow = s.shadow := by
  unfold State.wr State.noteSubs State.noteChange; split <;> split <;> rfl
@[simp] theorem State.blobs_wr (s : State) (r : ObjRow) (v : Int) (n i t j : Nat) : (s.wr r v n i t j).blobs = s.blobs := by
  unfold State.wr State.noteSubs State.noteChange; split <;> split <;> rfl
@[simp] theorem State.shadowBlobs_wr (s : State) (r : ObjRow) (v : Int) (n i t j : Nat) : (s.wr r v n i t j).shadowBlobs = s.shadowBlobs := by
  unfold State.wr State.noteSubs State.noteChange; split <;> split <;> rfl
@[simp] theorem State.blobRev_wr (s : State) (r : ObjRow) (v : Int) (n i t j : Nat) : (s.wr r v n i t j).blobRev = s.blobRev := by
  unfold State.wr State.noteSubs State.noteChange; split <;> split <;> rfl
@[simp] theorem State.staging_wr (s : State) (r : ObjRow) (v : Int) (n i t j : Nat) : (s.wr r v n i t j).staging = s.staging := by
  unfold State.wr State.noteSubs State.noteChange; split <;> split <;> rfl
@[simp] theorem State.results_wr (s : State) (r : ObjRow) (v : Int) (n i t j : Nat) : (s.wr r v n i t j).results = s.results := by
  unfold State.wr State.noteSubs State.noteChange; split <;> split <;> rfl
@[simp] theorem State.rst_wr (s : State) (r : ObjRow) (v : Int) (n i t j : Nat) : (s.wr r v n i t j).rst = s.rst := by
  unfold State.wr State.noteSubs State.noteChange; split <;> split <;> rfl
@[simp] theorem State.stn_wr (s : State) (r : ObjRow) (v : Int) (n i t j : Nat) : (s.wr r v n i t j).stn = s.stn := by
  unfold State.wr State.noteSubs State.noteChange; split <;> split <;> rfl
@[simp] theorem State.snapshots_wr (s : State) (r : ObjRow) (v : Int) (n i t j : Nat) : (s.wr r v n i t j).snapshots = s.snapshots := by
  unfold State.wr State.noteSubs State.noteChange; split <;> split <;> rfl
@[simp] theorem State.locks_wr (s : State) (r : ObjRow) (v : Int) (n i t j : Nat) : (s.wr r v n i t j).locks = s.locks := by
  unfold State.wr State.noteSubs State.noteChange; split <;> split <;> rfl
@[simp] theorem State.mem_wr (s : State) (r : ObjRow) (v : Int) (n i t j : Nat) : (s.wr r v n i t j).mem = s.mem := by
  unfold State.wr State.noteSubs State.noteChange; split <;> split <;> rfl
@[simp] theorem State.lostCells_wr (s : State) (r : ObjRow) (v : Int) (n i t j : Nat) : (s.wr r v n i t j).lostCells = s.lostCells := by
  unfold State.wr State.noteSubs State.noteChange; split <;> split <;> rfl
@[simp] theorem State.poison_wr (s : State) (r : ObjRow) (v : Int) (n i t j : Nat) : (s.wr r v n i t j).poison = s.poison := by
  unfold State.wr State.noteSubs State.noteChange; split <;> split <;> rfl
@[simp] theorem State.encKey_wr (s : State) (r : ObjRow) (v : Int) (n i t j : Nat) : (s.wr r v n i t j).encKey = s.encKey := by
  unfold State.wr State.noteSubs State.noteChange; split <;> split <;> rfl
@[simp] theorem State.sec_wr (s : State) (r : ObjRow) (v : Int) (n i t j : Nat) : (s.wr r v n i t j).sec = s.sec := by
  unfold State.wr State.noteSubs State.noteChange; split <;> split <;> rfl
@[simp] theorem State.net_wr (s : State) (r : ObjRow) (v : Int) (n i t j : Nat) : (s.wr r v n i t j).net = s.net := by
  unfold State.wr State.noteSubs State.noteChange; split <;> split <;> rfl
@[simp] theorem State.upd_wr (s : State) (r : ObjRow) (v : Int) (n i t j : Nat) : (s.wr r v n i t j).upd = s.upd := by
  unfold State.wr State.noteSubs State.noteChange; split <;> split <;> rfl
@[simp] theorem State.raster_wr (s : State) (r : ObjRow) (v : Int) (n i t j : Nat) : (s.wr r v n i t j).raster = s.raster := by
  unfold State.wr State.noteSubs State.noteChange; split <;> split <;> rfl
@[simp] theorem State.translator_wr (s : State) (r : ObjRow) (v : Int) (n i t j : Nat) : (s.wr r v n i t j).translator = s.translator := by
  unfold State.wr State.noteSubs State.noteChange; split <;> split <;> rfl
@[simp] theorem State.energy_wr (s : State) (r : ObjRow) (v : Int) (n i t j : Nat) : (s.wr r v n i t j).energy = s.energy := by
  unfold State.wr State.noteSubs State.noteChange; split <;> split <;> rfl
@[simp] theorem State.memc_wr (s : State) (r : ObjRow) (v : Int) (n i t j : Nat) : (s.wr r v n i t j).memc = s.memc := by
  unfold State.wr State.noteSubs State.noteChange; split <;> split <;> rfl
@[simp] theorem State.comp_wr (s : State) (r : ObjRow) (v : Int) (n i t j : Nat) : (s.wr r v n i t j).comp = s.comp := by
  unfold State.wr State.noteSubs State.noteChange; split <;> split <;> rfl
@[simp] theorem State.guard_wr (s : State) (r : ObjRow) (v : Int) (n i t j : Nat) : (s.wr r v n i t j).guard = s.guard := by
  unfold State.wr State.noteSubs State.noteChange; split <;> split <;> rfl
@[simp] theorem State.disp_wr (s : State) (r : ObjRow) (v : Int) (n i t j : Nat) : (s.wr r v n i t j).disp = s.disp := by
  unfold State.wr State.noteSubs State.noteChange; split <;> split <;> rfl
@[simp] theorem State.touch_wr (s : State) (r : ObjRow) (v : Int) (n i t j : Nat) : (s.wr r v n i t j).touch = s.touch := by
  unfold State.wr State.noteSubs State.noteChange; split <;> split <;> rfl
@[simp] theorem State.haptic_wr (s : State) (r : ObjRow) (v : Int) (n i t j : Nat) : (s.wr r v n i t j).haptic = s.haptic := by
  unfold State.wr State.noteSubs State.noteChange; split <;> split <;> rfl
@[simp] theorem State.audio_wr (s : State) (r : ObjRow) (v : Int) (n i t j : Nat) : (s.wr r v n i t j).audio = s.audio := by
  unfold State.wr State.noteSubs State.noteChange; split <;> split <;> rfl
@[simp] theorem State.slices_wr (s : State) (r : ObjRow) (v : Int) (n i t j : Nat) : (s.wr r v n i t j).slices = s.slices := by
  unfold State.wr State.noteSubs State.noteChange; split <;> split <;> rfl
@[simp] theorem State.ports_wr (s : State) (r : ObjRow) (v : Int) (n i t j : Nat) : (s.wr r v n i t j).ports = s.ports := by
  unfold State.wr State.noteSubs State.noteChange; split <;> split <;> rfl
@[simp] theorem State.cv_wr (s : State) (r : ObjRow) (v : Int) (n i t j : Nat) : (s.wr r v n i t j).cv = s.cv := by
  unfold State.wr State.noteSubs State.noteChange; split <;> split <;> rfl
@[simp] theorem State.ingress_wr (s : State) (r : ObjRow) (v : Int) (n i t j : Nat) : (s.wr r v n i t j).ingress = s.ingress := by
  unfold State.wr State.noteSubs State.noteChange; split <;> split <;> rfl
@[simp] theorem State.touchQ_wr (s : State) (r : ObjRow) (v : Int) (n i t j : Nat) : (s.wr r v n i t j).touchQ = s.touchQ := by
  unfold State.wr State.noteSubs State.noteChange; split <;> split <;> rfl
@[simp] theorem State.noteQ_wr (s : State) (r : ObjRow) (v : Int) (n i t j : Nat) : (s.wr r v n i t j).noteQ = s.noteQ := by
  unfold State.wr State.noteSubs State.noteChange; split <;> split <;> rfl
@[simp] theorem State.encTouchQ_wr (s : State) (r : ObjRow) (v : Int) (n i t j : Nat) : (s.wr r v n i t j).encTouchQ = s.encTouchQ := by
  unfold State.wr State.noteSubs State.noteChange; split <;> split <;> rfl
@[simp] theorem State.encNoteQ_wr (s : State) (r : ObjRow) (v : Int) (n i t j : Nat) : (s.wr r v n i t j).encNoteQ = s.encNoteQ := by
  unfold State.wr State.noteSubs State.noteChange; split <;> split <;> rfl
@[simp] theorem State.hapticQ_wr (s : State) (r : ObjRow) (v : Int) (n i t j : Nat) : (s.wr r v n i t j).hapticQ = s.hapticQ := by
  unfold State.wr State.noteSubs State.noteChange; split <;> split <;> rfl
@[simp] theorem State.stationLogQ_wr (s : State) (r : ObjRow) (v : Int) (n i t j : Nat) : (s.wr r v n i t j).stationLogQ = s.stationLogQ := by
  unfold State.wr State.noteSubs State.noteChange; split <;> split <;> rfl
@[simp] theorem State.hwLogQ_wr (s : State) (r : ObjRow) (v : Int) (n i t j : Nat) : (s.wr r v n i t j).hwLogQ = s.hwLogQ := by
  unfold State.wr State.noteSubs State.noteChange; split <;> split <;> rfl
@[simp] theorem State.alarmQ_wr (s : State) (r : ObjRow) (v : Int) (n i t j : Nat) : (s.wr r v n i t j).alarmQ = s.alarmQ := by
  unfold State.wr State.noteSubs State.noteChange; split <;> split <;> rfl
@[simp] theorem State.alarms_wr (s : State) (r : ObjRow) (v : Int) (n i t j : Nat) : (s.wr r v n i t j).alarms = s.alarms := by
  unfold State.wr State.noteSubs State.noteChange; split <;> split <;> rfl
@[simp] theorem State.logRings_wr (s : State) (r : ObjRow) (v : Int) (n i t j : Nat) : (s.wr r v n i t j).logRings = s.logRings := by
  unfold State.wr State.noteSubs State.noteChange; split <;> split <;> rfl
@[simp] theorem State.peerLevel_wr (s : State) (r : ObjRow) (v : Int) (n i t j : Nat) : (s.wr r v n i t j).peerLevel = s.peerLevel := by
  unfold State.wr State.noteSubs State.noteChange; split <;> split <;> rfl
@[simp] theorem State.pins_wr (s : State) (r : ObjRow) (v : Int) (n i t j : Nat) : (s.wr r v n i t j).pins = s.pins := by
  unfold State.wr State.noteSubs State.noteChange; split <;> split <;> rfl
@[simp] theorem State.crossings_wr (s : State) (r : ObjRow) (v : Int) (n i t j : Nat) : (s.wr r v n i t j).crossings = s.crossings := by
  unfold State.wr State.noteSubs State.noteChange; split <;> split <;> rfl
@[simp] theorem State.timers_wr (s : State) (r : ObjRow) (v : Int) (n i t j : Nat) : (s.wr r v n i t j).timers = s.timers := by
  unfold State.wr State.noteSubs State.noteChange; split <;> split <;> rfl
@[simp] theorem State.out_wr (s : State) (r : ObjRow) (v : Int) (n i t j : Nat) : (s.wr r v n i t j).out = s.out := by
  unfold State.wr State.noteSubs State.noteChange; split <;> split <;> rfl
@[simp] theorem State.free_wr (s : State) (r : ObjRow) (v : Int) (n i t j : Nat) : (s.wr r v n i t j).free = s.free := by
  unfold State.wr State.noteSubs State.noteChange; split <;> split <;> rfl

end Sys2Proof.Machine
end

