-- ==== Sys2Proof/Laws/Jobs.lean ====
section
/-! SUPPORT. What a station's jobs name and have been given stays while what follows from the table follows (R42, R74, R83, R87). -/
namespace Sys2Proof.Machine

/-- Each job of a station's table still stands there, and is the same in what it names and has been given. -/
def SameJobs (n : Nat) (s t : State) : Prop := ∀ key, (t.job? n key).map Job.given = (s.job? n key).map Job.given

theorem SameJobs.refl (n : Nat) (s : State) : SameJobs n s s := fun _ => rfl

theorem SameJobs.trans {n : Nat} {a b c : State} (h : SameJobs n a b) (k : SameJobs n b c) : SameJobs n a c :=
  fun key => (k key).trans (h key)

theorem SameJobs.ofRaster {n : Nat} {a b : State} (h : b.raster = a.raster) : SameJobs n a b := by
  intro key; simp [State.job?, State.ras, h]

theorem SameJobs.ofFrame {n : Nat} {ps : List Part} {a b : State} (h : Frame ps a b) (hp : .raster ∉ ps) : SameJobs n a b :=
  .ofRaster (h .raster hp)

theorem SameJobs.each {α : Type} {n : Nat} {l : List α} {f : State → α → State} (hf : ∀ s x, SameJobs n s (f s x)) (s : State) :
    SameJobs n s (s.each l f) := by
  unfold State.each
  induction l generalizing s with
  | nil => exact .refl _ _
  | cons x l ih => exact (hf s x).trans (ih _)

theorem State.job?_key {s : State} {n key : Nat} {j : Job} (h : s.job? n key = some j) : j.key = key := by
  simpa using List.find?_some h

theorem Job.key_given (j : Job) : j.given.key = j.key := rfl

theorem SameJobs.setRas {s : State} {n : Nat} {r : Raster} {f : Job → Job} (hr : r.jobs = (s.ras n).jobs.map f)
    (hf : ∀ j ∈ (s.ras n).jobs, (f j).given = j.given) : SameJobs n s (s.setRas n r) := by
  intro key
  have hk : ∀ j ∈ (s.ras n).jobs, (f j).key = j.key := fun j h => by rw [← Job.key_given, hf j h, Job.key_given]
  simp only [State.job?, State.ras_setRas_self, hr]
  generalize (s.ras n).jobs = l at hf hk
  induction l with
  | nil => rfl
  | cons j l ih =>
    simp only [List.map_cons, List.find?_cons, hk j (by simp)]
    split
    · simp [hf j (by simp)]
    · exact ih (fun k h => hf k (by simp [h])) fun k h => hk k (by simp [h])

theorem SameJobs.setRasJobs {s : State} {n : Nat} {r : Raster} (hr : r.jobs = (s.ras n).jobs) : SameJobs n s (s.setRas n r) :=
  .setRas (f := id) (by simp [hr]) fun _ _ => rfl

theorem State.ras_setJob_jobs (s : State) (n : Nat) (j : Job) :
    ((s.setJob n j).ras n).jobs = (s.ras n).jobs.map fun k => if k.key = j.key then j else k := by simp [State.setJob]

/-- The table after one job is replaced. -/
theorem State.job?_setJob (s : State) (n : Nat) (j : Job) (key : Nat) :
    (s.setJob n j).job? n key = if key = j.key then (s.job? n key).map fun _ => j else s.job? n key := by
  simp only [State.job?, State.ras_setJob_jobs]
  generalize (s.ras n).jobs = l
  induction l with
  | nil => simp
  | cons k l ih =>
    simp only [List.map_cons, List.find?_cons]
    by_cases h : k.key = j.key
    · by_cases g : key = j.key
      · subst g; simp [h]
      · simp [h, Ne.symm g, ih]
    · by_cases g : key = j.key
      · subst g; simpa [h] using ih
      · by_cases e : k.key = key <;> simp [h, g, e, ih]

theorem SameJobs.setJob {s : State} {n key : Nat} {j k : Job} (hj : s.job? n key = some j) (hk : k.given = j.given) :
    SameJobs n s (s.setJob n k) := by
  intro q
  have e : k.key = key := by rw [← Job.key_given, hk, Job.key_given, State.job?_key hj]
  rw [State.job?_setJob]
  split
  · rename_i h; rw [h, e, hj]; simp [hk]
  · rfl

theorem SameJobs.setRas' {a s : State} {n : Nat} {r : Raster} (hr : r.jobs = (s.ras n).jobs) (h : SameJobs n a s) :
    SameJobs n a (s.setRas n r) := h.trans (.setRasJobs hr)

theorem SameJobs.setJob' {a s : State} {n key : Nat} {j k : Job} (hj : s.job? n key = some j) (hk : k.given = j.given)
    (h : SameJobs n a s) : SameJobs n a (s.setJob n k) := h.trans (.setJob hj hk)

theorem SameJobs.updJob {a s : State} {n key : Nat} {f : Job → Job} (hf : ∀ j, (f j).given = j.given) (h : SameJobs n a s) :
    SameJobs n a (s.updJob n key f) := by
  unfold State.updJob
  split
  · rename_i j e; exact h.trans (.setJob e (hf j))
  · exact h

theorem SameJobs.ite {n : Nat} {a b c : State} {p : Prop} [Decidable p] (hb : SameJobs n a b) (hc : SameJobs n a c) :
    SameJobs n a (if p then b else c) := by split <;> assumption

theorem SameJobs.setCore {a s : State} {n : Nat} (i : Nat) (c : ShaderCore) (h : SameJobs n a s) : SameJobs n a (s.setCore n i c) :=
  h.trans (.setRasJobs rfl)

theorem SameJobs.wr {a s : State} {m : Nat} (r : ObjRow) (v : Int) (n i t j : Nat) (h : SameJobs m a s) : SameJobs m a (s.wr r v n i t j) :=
  h.trans (.ofFrame (State.wr_frame s r v n i t j (List.Subset.refl _) (.refl _ _)) (by decide))

theorem SameJobs.count {a s : State} {m : Nat} (r : ObjRow) (n i t j by_ : Nat) (h : SameJobs m a s) : SameJobs m a (s.count r n i t j by_) :=
  h.trans (.ofFrame (State.count_frame s r n i t j by_ (List.Subset.refl _) (.refl _ _)) (by decide))

theorem SameJobs.syncCache {a s : State} {m : Nat} (n t : Nat) (h : SameJobs m a s) : SameJobs m a (s.syncCache n t) :=
  h.trans (.ofFrame (State.syncCache_frame s n t (List.Subset.refl _) (.refl _ _)) (by decide))

theorem SameJobs.syncSlots {a s : State} {m : Nat} (n : Nat) (h : SameJobs m a s) : SameJobs m a (s.syncSlots n) :=
  h.trans (.ofFrame (State.syncSlots_frame s n (List.Subset.refl _) (.refl _ _)) (by decide))

theorem SameJobs.syncReserved {a s : State} {m : Nat} (n t : Nat) (h : SameJobs m a s) : SameJobs m a (s.syncReserved n t) :=
  h.trans (.ofFrame (State.syncReserved_frame s n t (List.Subset.refl _) (.refl _ _)) (by decide))

theorem SameJobs.syncRaster {a s : State} {m : Nat} (n : Nat) (h : SameJobs m a s) : SameJobs m a (s.syncRaster n) :=
  h.trans (.ofFrame (State.syncRaster_frame s n (List.Subset.refl _) (.refl _ _)) (by decide))

theorem SameJobs.invalidateTables {a s : State} {m : Nat} (n : Nat) (j : Job) (h : SameJobs m a s) : SameJobs m a (s.invalidateTables n j) :=
  h.trans (.ofFrame (State.invalidateTables_frame s n j (List.Subset.refl _) (.refl _ _)) (by decide))

theorem SameJobs.sweepCache {a s : State} {n : Nat} (h : SameJobs n a s) : SameJobs n a (s.sweepCache n) := by
  unfold State.sweepCache
  refine SameJobs.trans ?_ (.each (fun s e => .syncCache _ _ (.refl _ _)) _)
  exact .setRas' rfl h

theorem SameJobs.freeCores {a s : State} {n : Nat} (key : Nat) (h : SameJobs n a s) : SameJobs n a (s.freeCores n key) := by
  unfold State.freeCores
  dsimp only
  exact .syncSlots _ (.setRas' rfl h)

theorem SameJobs.endJob {a s : State} {n : Nat} (key status detail : Nat) (h : SameJobs n a s) : SameJobs n a (s.endJob n key status detail) := by
  unfold State.endJob
  split
  · exact h
  · dsimp only
    refine .ite h (.sweepCache (.syncReserved _ _ (.updJob (fun _ => rfl) (.ite (.count _ _ _ _ _ _ (.ite ?_ ?_)) (.ite ?_ ?_)))))
    all_goals first | exact .invalidateTables _ _ (.freeCores _ h) | exact .freeCores _ h

theorem SameJobs.runControl {a s : State} {n : Nat} (key : Nat) (h : SameJobs n a s) : SameJobs n a (s.runControl n key) := by
  unfold State.runControl
  split
  · exact h
  · rename_i j hj
    refine .ite h (.ite (.endJob _ _ _ h) (.ite ?_ ?_))
    · split
      · exact .endJob _ _ _ h
      · exact .endJob _ _ _ (.setRas' rfl h)
    · split
      · exact h
      · refine .ite (.endJob _ _ _ h) (.ite h ?_)
        split
        · exact .endJob _ _ _ h
        · dsimp only
          refine SameJobs.trans ?_ (.ofRaster rfl)
          exact .wr _ _ _ _ _ _ (h.trans (.setJob hj rfl))

theorem Job.given_judged (j : Job) (now : Nat) : (j.judged now).given = j.given := by
  unfold Job.judged
  split
  · split <;> rfl
  · rfl

theorem State.given_targetJob (s : State) (n : Nat) (j : Job) : (s.targetJob n j).given = j.given := by
  unfold State.targetJob
  dsimp only
  split
  · rfl
  · rw [Job.given_judged]; rfl

theorem SameJobs.markReady {a s : State} {n : Nat} (key : Nat) (h : SameJobs n a s) : SameJobs n a (s.markReady n key) := by
  unfold State.markReady
  split
  · exact h
  · rename_i j hj
    refine .ite h (.ite (h.trans (.setJob hj ?_)) (.ite (h.trans (.setJob hj rfl)) h))
    rw [State.given_targetJob]; rfl

theorem SameJobs.checkPipe {a s : State} {n : Nat} (key : Nat) (h : SameJobs n a s) : SameJobs n a (s.checkPipe n key) := by
  unfold State.checkPipe
  split
  · exact h
  · exact .ite (.endJob _ _ _ h) (.ite (.endJob _ _ _ h) h)

theorem SameJobs.startFrag {a s : State} {n : Nat} (key : Nat) (flushing : Bool) (h : SameJobs n a s) : SameJobs n a (s.startFrag n key flushing) := by
  unfold State.startFrag
  split
  · exact h
  · rename_i j hj; exact h.trans (.setJob hj rfl)

theorem SameJobs.tryFrag {a s : State} {n : Nat} (key : Nat) (h : SameJobs n a s) : SameJobs n a (s.tryFrag n key) := by
  unfold State.tryFrag
  split
  · exact h
  · exact .ite (.startFrag _ _ h) h

theorem SameJobs.preemptFor {a s : State} {n : Nat} (u : Job) (h : SameJobs n a s) : SameJobs n a (s.preemptFor n u) := by
  unfold State.preemptFor
  refine h.trans (SameJobs.each (fun s i => ?_) s)
  dsimp only
  split
  · exact .refl _ _
  · refine .ite ?_ (.refl _ _)
    split
    · exact .setCore _ _ (.updJob (fun _ => rfl) (.refl _ _))
    · split
      · exact .syncSlots _ (.count _ _ _ _ _ _ (.setCore _ _ (.setRas' rfl (.refl _ _))))
      · exact .refl _ _

theorem SameJobs.preemptAll {a s : State} {n : Nat} (h : SameJobs n a s) : SameJobs n a (s.preemptAll n) := by
  unfold State.preemptAll
  refine h.trans (SameJobs.each (fun s u => ?_) s)
  exact .updJob (fun _ => rfl) (.preemptFor _ (.refl _ _))

theorem Job.given_take (j : Job) (core : Nat) (u : WorkUnit) : (j.take core u).given = j.given := by cases u <;> rfl

theorem SameJobs.fillGroups {a s : State} {n : Nat} (i key fuel : Nat) (h : SameJobs n a s) : SameJobs n a (s.fillGroups n i key fuel) := by
  induction fuel generalizing s with
  | zero => exact h
  | succ k ih =>
    unfold State.fillGroups
    split
    · exact h
    · rename_i j hj
      dsimp only
      split
      · exact .ite (ih (.setCore _ _ (h.trans (.setJob hj (Job.given_take _ _ _))))) h
      · exact h

theorem SameJobs.fillTiles {a s : State} {n : Nat} (i key fuel : Nat) (h : SameJobs n a s) : SameJobs n a (s.fillTiles n i key fuel) := by
  induction fuel generalizing s with
  | zero => exact h
  | succ k ih =>
    unfold State.fillTiles
    split
    · exact h
    · rename_i j hj
      dsimp only
      split
      · exact .ite (ih (.setCore _ _ (h.trans (.setJob hj (Job.given_take _ _ _))))) h
      · exact h

theorem SameJobs.startRender {a s : State} {n : Nat} (key : Nat) (h : SameJobs n a s) : SameJobs n a (s.startRender n key) := by
  unfold State.startRender
  split
  · exact h
  · rename_i j hj
    dsimp only
    refine .ite h (.ite (.endJob _ _ _ h) (h.trans (.setJob hj ?_)))
    simp only [Job.given, List.map_map]
    congr 1
    refine List.map_congr_left fun a _ => ?_
    by_cases h : a.format = 11 ∧ a.loadOp = 1 <;> simp [h]

theorem SameJobs.fillCore {a s : State} {n : Nat} (i : Nat) (h : SameJobs n a s) : SameJobs n a (s.fillCore n i) := by
  unfold State.fillCore
  dsimp only
  refine .ite h (.ite ?_ ?_)
  · split
    · exact .setCore _ _ h
    · split
      · exact .setCore _ _ (.updJob (fun _ => rfl) h)
      · refine .ite ?_ ?_
        · exact .fillGroups _ _ _ (.setCore _ _ h)
        · exact .fillTiles _ _ _ (.startRender _ (.setCore _ _ h))
  · split
    · refine .ite h (.ite ?_ ?_)
      · exact .fillGroups _ _ _ h
      · exact .fillTiles _ _ _ h
    · exact h

/-- What follows at once from a change of the table leaves what its jobs name and have been given (R42, R74, R83, R87). -/
theorem SameJobs.settle {a s : State} {n : Nat} (h : SameJobs n a s) : SameJobs n a (s.settle n) := by
  unfold State.settle State.dispatch
  dsimp only
  refine .syncRaster _ ((SameJobs.preemptAll ?_).trans (.each (fun s i => .fillCore _ (.refl _ _)) _))
  refine (h.trans (.each (fun s k => .runControl _ (.refl _ _)) _)).trans (.each (fun s k => ?_) _)
  exact .tryFrag _ (.checkPipe _ (.markReady _ (.refl _ _)))

/-- The table with the station's other data and one job replaced. -/
theorem SameJobs.setRasJob {a s : State} {n key : Nat} {j : Job} (hj : s.job? n key = some j) (h : SameJobs n a s) (r : Raster) (k : Job)
    (hr : r.jobs = (s.ras n).jobs) (hk : k.given = j.given) : SameJobs n a ((s.setRas n r).setJob n k) := by
  refine .setJob' (key := key) (j := j) ?_ hk (.setRas' hr h)
  simpa [State.job?, hr] using hj

theorem SameJobs.admitJob {a s : State} {n : Nat} (key : Nat) (forced : Bool) (h : SameJobs n a s) :
    SameJobs n a (s.admitJob n key forced) := by
  unfold State.admitJob State.touchHandles
  split
  · exact h
  · rename_i j hj
    dsimp only
    refine .markReady _ (.syncReserved _ _ (.ite (.count _ _ _ _ _ _ ?_) ?_))
    all_goals exact .setRas' rfl (.count _ _ _ _ _ _ (.setRasJob hj h _ _ rfl rfl))

theorem SameJobs.presentJob {a s : State} {n : Nat} (key : Nat) (h : SameJobs n a s) : SameJobs n a (s.presentJob n key) := by
  unfold State.presentJob
  split
  · exact h
  · rename_i j hj
    dsimp only
    refine .ite (.endJob _ _ _ (.count _ _ _ _ _ _ (.setRasJob hj h _ _ rfl rfl))) (.ite (.admitJob _ _ (.setRasJob hj h _ _ rfl rfl))
      (.ite (.admitJob _ _ (.setRasJob hj h _ _ rfl rfl)) (.ite (.admitJob _ _ (.setRasJob hj h _ _ rfl rfl)) ?_)))
    exact .updJob (fun _ => rfl) (.ite (.count _ _ _ _ _ _ (.setRasJob hj h _ _ rfl rfl)) (.setRasJob hj h _ _ rfl rfl))

/-- A job whose payload has been read goes on: it keeps what it names and has been given (R40, R97). -/
theorem SameJobs.queueJob {a s : State} {n : Nat} (key : Nat) (h : SameJobs n a s) : SameJobs n a (s.queueJob n key) := by
  unfold State.queueJob
  split
  · exact h
  · rename_i j hj
    refine .ite (.setJob' hj rfl h) (.ite (.settle (.presentJob _ h)) (.settle (.setJob' hj rfl h)))

end Sys2Proof.Machine
end

