-- ==== Sys2Proof/Laws/Rings.lean ====
section
/-! SUPPORT. What fetching leaves of the rings: only the reads under way change (R365 to R367). -/
namespace Sys2Proof.Machine

/-- The rings of every slice are the same but for the reads under way. -/
def SameRings (s t : State) : Prop := ∀ u n q, (t.ring u n q).still = (s.ring u n q).still

theorem SameRings.refl (s : State) : SameRings s s := fun _ _ _ => rfl

theorem SameRings.trans {a b c : State} (h : SameRings a b) (k : SameRings b c) : SameRings a c :=
  fun u n q => (k u n q).trans (h u n q)

theorem SameRings.each {α : Type} {l : List α} {f : State → α → State} (hf : ∀ s x, SameRings s (f s x)) (s : State) :
    SameRings s (s.each l f) := by
  unfold State.each
  induction l generalizing s with
  | nil => exact .refl _
  | cons x l ih => exact (hf s x).trans (ih _)

/-- The rings after one of them is replaced. -/
theorem State.ring_setRing (s : State) (t n q : Nat) (r : Ring) (u m k : Nat) :
    (s.setRing t n q r).ring u m k = if u = t ∧ m = n ∧ k = q then r else s.ring u m k := by
  simp only [State.ring, State.setRing, State.slc_setSlc]
  by_cases h : u = t
  · subst h; simp [FMap.getD_put]
  · simp [h]

@[simp] theorem State.ring_setRing_self (s : State) (t n q : Nat) (r : Ring) : (s.setRing t n q r).ring t n q = r := by
  simp [State.ring_setRing]

@[simp] theorem State.ring_emit (s : State) (o : Emission) (t n q : Nat) : (s.emit o).ring t n q = s.ring t n q := rfl

theorem SameRings.issueRead (s : State) (t n q : Nat) : SameRings s (s.issueRead t n q) := by
  intro u m k
  simp only [State.issueRead, State.ring_emit, State.ring_setRing]
  split
  · rename_i h; obtain ⟨rfl, rfl, rfl⟩ := h; rfl
  · rfl

theorem SameRings.fetchTurn (s : State) (n : Nat) : SameRings s (s.fetchTurn n) :=
  .each (fun s r => by split; exacts [.issueRead _ _ _ _, .refl _]) s

/-- Fetching for a station changes nothing of a ring but the reads under way. -/
theorem SameRings.fetch (s : State) (n : Nat) : SameRings s (s.fetch n) := by
  have h : ∀ k s, SameRings s (State.fetchTurns s n k) := by
    intro k
    induction k with
    | zero => exact fun s => .refl s
    | succ k ih =>
      intro s
      unfold State.fetchTurns
      split
      · exact (SameRings.fetchTurn s n).trans (ih _)
      · exact .refl s
  exact h 32 s

end Sys2Proof.Machine
end

