-- ==== Sys2Proof/Machine/Operands.lean ====
section
/-! DEFINITION. The forms of the commands' operands: what widths, lengths and numbers the spec gives them (R8, R10, R11, R247, R269, R361, R362,
R422, R450, R502, R503, R516, R614). -/
namespace Sys2Proof.Machine

/-- A number of `w` bits. -/
def wordOk (w v : Nat) : Bool := v < 2 ^ w

/-- A signed number of `w` bits. -/
def intOk (w : Nat) (v : Int) : Bool := -(2 ^ (w - 1) : Nat) ≤ v && v < (2 ^ (w - 1) : Nat)

/-- A shunt voltage in µV within ±150 mV (R268). -/
def shuntOk (v : Int) : Bool := -150000 ≤ v && v ≤ 150000

/-- A coil input in µV behind its divider: at most 30.4 V before it (R268, R270). -/
def inputOk (v : Int) : Bool := -1900000 ≤ v && v ≤ 1900000

/-- A byte string of `lo` to `hi` bytes. -/
def bytesOk (lo hi : Nat) (b : Bytes) : Bool := lo ≤ b.length && b.length ≤ hi

/-- An optional operand whose value, where there is one, has its form. -/
def optionOk {α : Type} (f : α → Bool) (v : Option α) : Bool :=
  match v with
  | none => true
  | some x => f x

/-- A requester: of 32 peer records one (R506). -/
def Requester.ok : Requester → Bool
  | .peer k => k < 32
  | .tenant _ | .host _ | .enclave _ | .secure => true

/-- A path of a commit or a trigger. -/
def Via.ok : Via → Bool
  | .dict who => who.ok
  | .page _ _ => true

/-- How many blocks of a kind a station has (R105, R153, R237, R297). -/
def BlockKind.count : BlockKind → Nat
  | .layer => 16
  | .region => 32
  | .zone => 16
  | .source => 16

/-- A block number of a kind. -/
def blockOk (kind : BlockKind) (k : Nat) : Bool := k < kind.count

/-- A dictionary index in its area, and a subindex (R452). -/
def indexOk (idx sub : Nat) : Bool := wordOk 16 idx && wordOk 8 sub

/-- A source address (R502, R506). -/
def PeerSource.ok : PeerSource → Bool
  | .mac a => wordOk 48 a
  | .udp ip port => wordOk 32 ip && wordOk 16 port
  | .can bus node => bus < 2 && node < 64
  | .relayed => true

/-- A frame as it arrives: at most 1,440 bytes, or an identifier of 29 bits with 64 bytes (R502, R503). -/
def BdaFrame.ok : BdaFrame → Bool
  | .wide b => b.length ≤ 1440
  | .short id b => wordOk 29 id && b.length = 64

/-- Where a relayed frame comes from. -/
def RelayFrom.ok : RelayFrom → Bool
  | .member a => a < 64
  | .manager => true
  | .external p => p.ok

/-- What a write brings from outside: a key of at most 97 bytes, a serial number of 64 bits, and components (R508, R510, R546). -/
def WriteEnv.ok (e : WriteEnv) : Bool := e.pub.length ≤ 97 && wordOk 64 e.serial && e.fails.all fun c => c < 5

/-- A binding write's value fits its object (R356, R359, R361). -/
def BindWrite.ok : BindWrite → Bool
  | .enable _ => true
  | .port v => v < 2
  | .pasid v => wordOk 20 v
  | .cls v => v < 4
  | .stations v => wordOk 8 v
  | .rights n which v => n < 8 && which < 5 && wordOk 32 v
  | .window n w v => n < 8 && w < 16 && wordOk 64 v

/-- The fields of a record fit the widths of R614. -/
def Rec.ok (r : Rec) : Bool :=
  wordOk 64 r.time && wordOk 16 r.code && r.prio < 4 && r.station < 16 && r.tenant < 512 && (r.fields.map (·.2)).sum ≤ 160

/-- The fields of a touch record fit the widths of R247. -/
def TouchRec.ok (r : TouchRec) : Bool :=
  wordOk 64 r.time && wordOk 16 r.seq && wordOk 16 r.amplitude && wordOk 16 r.x && wordOk 16 r.y && wordOk 8 r.id && wordOk 8 r.areaNodes
    && r.kind < 16 && r.cls < 4 && r.prio < 4 && r.zone < 16 && r.station < 8 && wordOk 32 r.detail && wordOk 32 r.frame

/-- The fields of an alarm fit the widths of R516. -/
def Alarm.ok (a : Alarm) : Bool :=
  wordOk 32 a.path && wordOk 16 a.code && a.severity < 4 && a.station < 16 && a.st < 3 && wordOk 16 a.count && wordOk 64 a.time
    && wordOk 32 a.detail && wordOk 16 a.seq

/-- The fields of a trigger fit the widths of R275. -/
def Trigger.ok (t : Trigger) : Bool := t.prio < 4 && t.gain < 256 && t.repeats < 256 && t.effect < 64

/-- An item of a queue. -/
def QueueItem.ok : QueueItem → Bool
  | .tenantNote _ r | .enclaveNote _ r | .stationLog _ r | .hwLog r => r.ok
  | .tenantTouch _ r | .enclaveTouch _ r => r.ok
  | .alarm a => a.ok
  | .haptic _ t => t.ok

/-- What a fuse image holds (R497, R562). -/
def FuseImage.ok (f : FuseImage) : Bool := wordOk 64 f.serial && bytesOk 48 48 f.identity && bytesOk 48 48 f.digest && bytesOk 1 32 f.ordering

/-- Readings of the 16 junction sensors in °C (R430). -/
def sensorsOk (l : List Int) : Bool := l.length = 16

/-- A sample of domains 0 to 34, of shares of stations and payers (R421 to R423). -/
def EnergySample.ok (x : EnergySample) : Bool :=
  x.domains.length = 35 && x.memory.all fun e => e.1 < 8

/-- A reading of the weir: the draws of eight stations (R441). -/
def WeirReading.ok (x : WeirReading) : Bool := x.draws.length = 8

/-- What a unit reports: at most the primitives of a batch, and fragments of a tile of 32 by 32 pixels and at most 4 samples (R47, R59). -/
def UnitResult.ok (r : UnitResult) : Bool := r.prims.length ≤ 1024 && r.frags.all fun f => f.x < 32 && f.y < 32 && f.sample < 4

/-- A stage entry: a name of at most 31 bytes (R50). -/
def StageEntry.ok (e : StageEntry) : Bool := wordOk 64 e.addr && wordOk 32 e.size && bytesOk 0 31 e.name && wordOk 64 e.specAddr && wordOk 32 e.specSize

/-- A pipeline record: one or two stage entries (R50). -/
def PipelineRecord.ok (r : PipelineRecord) : Bool :=
  wordOk 32 r.handle && 1 ≤ r.stages.length && r.stages.length ≤ 2 && r.stages.all StageEntry.ok

/-- A dispatch record: up to eight BIND_SET operands (R48). -/
def DispatchRecord.widthsOk (d : DispatchRecord) : Bool :=
  wordOk 32 d.handle && wordOk 32 d.x && wordOk 32 d.y && wordOk 32 d.z && d.sets.length ≤ 8
    && d.sets.all fun o => wordOk 8 o.set && wordOk 64 o.addr && wordOk 16 o.count

/-- What a sink reports: one to four lanes of rates (R193). -/
def SinkInfo.ok (i : SinkInfo) : Bool := wordOk 32 i.caps && i.configs.all fun c => c.2 ≤ 4

/-- A kind of a reader lies within its bounds. -/
def MemReader.ok : MemReader → Bool
  | .compositor l => l < 16
  | .audio k => k < 16
  | .transfer t q => t < 512 && q < 4
  | .other c => c < 8
  | .reference | .haptic | .job _ | .context _ => true

end Sys2Proof.Machine
end

