-- ==== Sys2Proof/WellFormed.lean ====
section
/-! DEFINITION. Well-formed commands: every operand has the form that the spec gives it. Commands are executed whether or not they are well
formed: the dictionary answers a value out of range, and every number of a command is otherwise taken as it is. -/
namespace Sys2Proof

open Sys2Proof.Machine

/-- The operands of a command have their forms (R8, R10, R11, R454). -/
def Instr.wellFormed : Instr → Bool
  | .thermalTrip sensors => sensorsOk sensors
  | .trimLoadDone image => optionOk FuseImage.ok image
  | .bootRomMgmtAcceptance image _ => optionOk (bytesOk 48 48) image
  | .deviceRequestNone who => who.ok
  | .deviceRequestRecovery who => who.ok
  | .deviceRequestLeaveRecovery who => who.ok
  | .resetRequestCold who => who.ok
  | .resetRequestWarm who => who.ok
  | .resetRequestMgmt who => who.ok
  | .resetRequestSec who => who.ok
  | .resetRequestPort who _ => who.ok
  | .resetRequestStation who _ => who.ok
  | .stationReset who _ _ => who.ok
  | .functionGateTouch who _ _ => who.ok
  | .functionGateHaptic who _ _ => who.ok
  | .functionGateAudio who _ _ => who.ok
  | .fuseMapProgram who data => who.ok && bytesOk 17 17 data
  | .stnImageLoad digest => bytesOk 48 48 digest
  | .stationTargetOff who _ => who.ok
  | .stationTargetRunning who _ => who.ok
  | .stationTargetSleep who _ => who.ok
  | .ringTailWrite _ _ _ _ v => wordOk 32 v
  | .compHeadWrite _ _ _ _ v => wordOk 32 v
  | .descriptorFetched _ _ _ data => bytesOk 64 64 data
  | .ringReadFailed _ _ _ cause => 1 ≤ cause && cause < 5
  | .ringEnable who _ _ _ _ => who.ok
  | .jobCompute _ _ d => d.widthsOk
  | .jobPipelineLoad _ _ r => r.ok
  | .jobPipelineDrop _ _ handle => wordOk 32 handle
  | .unitComplete _ _ _ r => r.ok
  | .contextSaveDone _ _ context => bytesOk 0 163840 context
  | .jobAccessFault _ _ addr len _ => wordOk 64 addr && wordOk 32 len
  | .pipelineDropFree _ _ handle => wordOk 32 handle
  | .retranslationSwap _ _ handle => wordOk 32 handle
  | .layerCommit via _ mask => via.ok && wordOk 32 mask
  | .guardCommit via _ mask => via.ok && wordOk 32 mask
  | .layerFetchComplete _ _ addr len _ => wordOk 64 addr && wordOk 32 len
  | .refLoadStart who _ v => who.ok && wordOk 32 v
  | .safeStore who _ offset _ data => who.ok && wordOk 32 offset && bytesOk 0 1386 data
  | .modeCommit who _ v => who.ok && wordOk 32 v
  | .sinkReadDone _ info => optionOk SinkInfo.ok info
  | .linkTrainingDone _ trains => trains.all fun c => c.2 ≤ 4
  | .contactHoldLimit _ id => wordOk 8 id
  | .touchCommit who _ v => who.ok && wordOk 32 v
  | .pairAbandon _ steps => wordOk 8 steps
  | .referenceCapture who _ v => who.ok && wordOk 32 v
  | .referenceCaptureDone _ pairs => pairs.length = 8 && pairs.all fun l => l.length = 64
  | .wakeScan _ coarse self => wordOk 4 coarse && (self.all fun q => q.1 < 4096 && q.2 < 4096)
  | .wakePendingClear who _ v => who.ok && wordOk 32 v
  | .tchMicrocodeSwap _ digest _ => bytesOk 48 48 digest
  | .hapticTrigger via _ _ v => via.ok && wordOk 32 v
  | .senseSample _ shunt vca vcb vsense => shuntOk shunt && inputOk vca && inputOk vcb && vsense ≤ 1900000
  | .overcurrent _ shunt => shuntOk shunt
  | .effectData who _ _ data => who.ok && bytesOk 0 65536 data
  | .faultClear who _ v => who.ok && wordOk 32 v
  | .hapticCommit who _ v => who.ok && wordOk 32 v
  | .hapticStreamFetch _ len => wordOk 32 len
  | .audioFrame _ mic0 mic1 => wordOk 32 mic0 && wordOk 32 mic1
  | .audioCommit who _ v => who.ok && wordOk 32 v
  | .streamStart who _ _ v => who.ok && wordOk 32 v
  | .streamStop who _ _ v => who.ok && wordOk 32 v
  | .tgStart who _ _ v => who.ok && wordOk 32 v
  | .tgStop who _ _ v => who.ok && wordOk 32 v
  | .memTempRead _ temp => intOk 8 temp
  | .memTrainingAttemptDone _ _ _ _ temp => intOk 8 temp
  | .memRead _ addr r _ => wordOk 64 addr && r.ok
  | .requestPromotion _ cls _ => cls < 8
  | .memReinit who _ _ => who.ok
  | .sliceFlr _ _ v => wordOk 32 v
  | .sliceReset who _ _ => who.ok
  | .sliceEnable who _ _ => who.ok
  | .rightsWrite who _ _ _ v => who.ok && wordOk 32 v
  | .windowWrite who _ _ _ v => who.ok && wordOk 64 v
  | .touchLandHead _ _ v => wordOk 32 v
  | .notifyLandHead _ _ v => wordOk 32 v
  | .mbSend _ _ _ body env => bytesOk 0 1024 body && env.ok
  | .quarantineRelease who _ v => who.ok && wordOk 32 v
  | .enclaveCreate who _ => who.ok
  | .enclaveLoadDone _ key => bytesOk 97 97 key
  | .enclaveStart who _ => who.ok
  | .enclaveStop who _ => who.ok
  | .enclaveCommandDestroy who _ => who.ok
  | .enclaveDestroy who _ _ => who.ok
  | .inbox who _ data => who.ok && bytesOk 0 1024 data
  | .acquire _ _ kind k => blockOk kind k
  | .release _ _ kind k => blockOk kind k
  | .enclaveWrite _ _ idx sub data => indexOk idx sub && bytesOk 0 1542 data
  | .enclaveRead _ _ idx sub => indexOk idx sub
  | .enclaveCommit _ _ layerMask guardMask => wordOk 32 layerMask && wordOk 32 guardMask
  | .send _ data => bytesOk 0 1024 data
  | .seal _ data => bytesOk 0 65536 data
  | .unseal _ data => bytesOk 0 65536 data
  | .rebind _ w => w.ok
  | .lockDrainDone _ kind k => blockOk kind k
  | .lockReady _ kind k => blockOk kind k
  | .secRestartBootDone image => optionOk (bytesOk 48 48) image
  | .attestChallenge who nonce => who.ok && bytesOk 0 1024 nonce
  | .debugChallenge who => who.ok
  | .debugResponse who data => who.ok && bytesOk 0 1024 data
  | .energySample x => x.ok
  | .budgetPeriod sensors => sensorsOk sensors
  | .weirClampRank x => x.ok
  | .weirReleaseCheck x => x.ok
  | .deviceBudgetMw who v => who.ok && wordOk 32 v
  | .bdaRead src frame => src.ok && frame.ok
  | .bdaWrite src frame env => src.ok && frame.ok && env.ok
  | .bdaCommit src frame => src.ok && frame.ok
  | .bdaNotify src frame => src.ok && frame.ok
  | .bdaBlock src frame => src.ok && frame.ok
  | .dictionaryWrite who _ idx sub _ data env => who.ok && indexOk idx sub && bytesOk 0 1386 data && env.ok
  | .stationCommit who _ v => who.ok && wordOk 32 v
  | .resultAck who _ idx _ gen => who.ok && indexOk idx 0 && wordOk 32 gen
  | .resultBlobRead who _ idx offset len => who.ok && indexOk idx 0 && wordOk 32 offset && wordOk 32 len
  | .logRingRead who _ offset len => who.ok && wordOk 32 offset && wordOk 32 len
  | .clearingRead who _ _ => who.ok
  | .settingsSave who _ => who.ok
  | .settingsDefaults who _ => who.ok
  | .switchFrame _ frame _ leased => bytesOk 0 65535 frame && wordOk 32 leased
  | .macEntryAged mac => wordOk 48 mac
  | .qbvGateEvent _ gates => wordOk 8 gates
  | .arpRequest _ sender target leased => wordOk 32 sender && wordOk 32 target && wordOk 32 leased
  | .icmpEcho _ sender target leased data => wordOk 32 sender && wordOk 32 target && wordOk 32 leased && bytesOk 0 1472 data
  | .grantChallenge who => who.ok
  | .grantRequest who data pub => who.ok && bytesOk 0 435 data && bytesOk 0 97 pub
  | .grantEnd who v => who.ok && wordOk 32 v
  | .relayFrame origin frame => origin.ok && frame.ok
  | .devicePath who v serial => who.ok && wordOk 32 v && wordOk 64 serial
  | .memberSerial who _ v => who.ok && wordOk 64 v
  | .heartbeat serial => wordOk 64 serial
  | .heartbeatAnswer _ serial link => wordOk 64 serial && wordOk 64 link
  | .alarmMergeEnd path code station st => wordOk 32 path && wordOk 32 code && station < 16 && st < 3
  | .alarmAck who seq => who.ok && wordOk 32 seq
  | .manifest who data => who.ok && bytesOk 0 1024 data
  | .pieceStream data => bytesOk 4112 4112 data
  | .pieceIn who data => who.ok && bytesOk 0 4112 data
  | .updateApply who => who.ok
  | .updateCommit who fails => who.ok && (fails.all fun c => c < 5)
  | .updateRevert who => who.ok
  | .updateCancel who => who.ok
  | .forceSec who => who.ok
  | .mgmtStepDone schema _ translator => bytesOk 512 512 schema && wordOk 32 translator
  | .trialExpired fails => fails.all fun c => c < 5
  | .cacheTargets who v => who.ok && wordOk 32 v
  | .cachePush _ bitmap => bytesOk 0 2048 bitmap
  | .cvArm who _ => who.ok
  | .cvEnd who _ => who.ok
  | .cvAbort who _ => who.ok
  | .queueItemArrival item => item.ok
  | .mgmtReady _ _ fails => fails.all fun c => c < 5
  | .memberAlarmReceived _ a => a.ok
  | .vaonLost | .porstNLevel _ | .resetNLevel _ | .brownOut .. | .referenceLost _ | .mgmtWatchdogExpiry | .stationWatchdogExpiry _
  | .secureWatchdogExpiry | .releaseBegin _ | .releaseGapElapsed | .releaseStepEnd | .heldResetApply | .eraseSuspendDone | .eraseResume
  | .hwPllLockLost _ | .hwPllRelocked _ _ | .resetRequestApply | .settingsLoadStation | .stationStartupDone _ _ | .sleepEntryDone _
  | .wakeDone _ | .edgeLinkLost _ | .pllLockLost _ _ | .jobTake _ | .jobNop _ _ | .jobRender _ _ | .fenceWaitSatisfied _ _
  | .drawListEnd _ _ | .bindPipeline _ _ | .bindSet _ _ | .pushData _ _ | .bindVertex _ _ | .bindIndex _ _ | .draw ..
  | .drawIndexed .. | .drawIndirect .. | .setViewport _ _ | .setScissor _ _ | .deadlinePoint _ _ | .tileYieldLimit _ _
  | .contextRestoreDone _ _ | .jobTimeLimit _ _ | .jobComplete _ _ | .translationStart | .translationComplete _ | .frameBoundary _
  | .boundaryLatch _ | .fixPoint _ | .composeLine _ _ | .lineStart _ _ | .freezeNominalTick _ | .refLoadDone _ | .safeStoreCheckDone _
  | .pixelPllLock _ | .hpdPlug _ | .auxRetryTimer _ | .linkRetryTimer _ | .hpdIrq _ _ | .hpdUnplug _ | .psrWakeElapsed _
  | .panelOnDelay _ | .blOnDelay _ | .scanPairStart _ | .scanPairEnd _ _ _ _ _ | .occlusionHoldExpired _ | .pumpOutOfRegulation _
  | .touchHaltRetry _ | .sleepCalibrationPair _ _ _ _ _ | .hapticTick _
  | .bridgeRangeFault _ | .openLoad _ | .bridgeRecovered _ | .brakeEnd _ | .driveTimeLimit _ | .bootstrapChargeDone _
  | .gainForcedRegime _ _ | .audioStreamFetch _ _ | .toneOnElapsed _ _ | .toneOffElapsed _ _ | .busActivityExpired _ _
  | .loopBlockWrite _ | .audioStartDone _ | .audioStopDone _ | .audioClockRestart _ | .refreshDue _ | .retrainDue _ | .retrainStart _
  | .retrainAttemptDone _ _ | .memFillDone _ | .pcieLinkTrained _ _ _ | .portRetrainTimer _ | .perstNLevel _ _ | .hostPortReady _
  | .hotReset _ | .functionFlr _ | .sliceResetDone _ | .landingDelivery _ _ | .mbAck _ | .mbResponseReady _ | .xferHostToStation _ _ _ _
  | .xferStationToHost _ _ _ | .xferFill _ _ _ | .transferComplete _ _ _ | .enclaveDestroyDone _ | .enclaveSliceExpired _ _
  | .queueRead _ _ | .secScrubDone | .attestReportDone | .debugLockoutEnd | .energySplit | .stationTick _ | .shaderPointSettled _
  | .weirCompare _ | .weirSaturated | .snapshotExpired | .blobWriteAbandoned | .subscriptionNotify _ | .settingsSaveTimer
  | .settingsSaveDone _ | .ptpMessage _ | .ptpSyncTimeout | .sessionIdle _ | .peerRecordIdle _ | .announce | .heartbeatTimer
  | .memberLost _ | .managerLost | .alarmPendingDrain | .pieceProgrammed | .imageVerifyDone | .applyAtReached | .secWaitEnd
  | .secStepDone _ | .stnSwapStart | .stnSwapDone | .stnSwapTimeout | .updateGapElapsed | .revertStepDone | .cvRunComplete _ _
  | .logDrain _ _ | .vaonGood | .jtagInstruction _ | .msixVectorUnmask _ _ | .flashEraseDone | .imageCopyDone | .panelPowerDownDelay _
  | .pumpInRegulation _ | .ethLinkChange _ _ | .ethernetPllLockLost => true

end Sys2Proof
end

