-- ==== Sys2Proof/Tests/Slice0.lean ====
section
/-! SUPPORT. Tests: the checks of well-formedness, and a witness for the hypotheses of each statement. -/
namespace Sys2Proof.Machine

set_option maxRecDepth 8000
set_option Elab.async false

/-- A device in SERVICE: every headworks unit ready, host port 0 at EXPERT level, station 0 RUNNING, and slice 5 enabled on it. -/
def dev : State :=
  { State.reset with
    powered := true, time := 1000000000,
    rst := { State.reset.rst with vaon := true, levels := [] },
    stn := [(0, { coreOn := true, image := true, functionsOn := true })],
    memc := [(0, { trainedAt := 1 })],
    regs := [(Obj.DEVICE_STATE.key 0 0 512 0, 2), (Obj.READY_HEADWORKS.key 0 0 512 0, 0x1FFFF),
      (Obj.READY_STATION.key 0 0 512 0, 0x1FFF), (Obj.STATION_STATE.key 0 0 512 0, 2),
      (Obj.STATION_TARGET.key 0 0 512 0, 1), (Obj.HOST_LEVEL.key 0 0 512 0, 2),
      (Obj.MEM_STATE.key 0 0 512 0, 2), (Obj.SEC_STATE.key 0 0 512 0, 2), (Obj.MEM_USABLE_MIB.key 0 0 512 0, 2048),
      (Obj.MEM_CAPACITY_MIB.key 0 0 512 0, 2048), (Obj.SLICE_ENABLE.key 0 0 5 0, 1), (Obj.SLICE_STATIONS.key 0 0 5 0, 1),
      (Obj.SLICE_STATE.key 0 0 5 0, 1), (Obj.RIGHTS.key 0 0 5 0, 0x1FF), (Obj.LAYER_MASK.key 0 0 5 0, 2),
      (Obj.GUARD_MASK.key 0 0 5 0, 2), (Obj.ZONE_MASK.key 0 0 5 0, 2), (Obj.SOURCE_MASK.key 0 0 5 0, 0x1002),
      (Obj.WINDOW.key 0 0 5 0, 0x100010000003)] }

/-- A job of slice 5 on station 0, just taken. -/
def job0 : Job :=
  { key := 0, tenant := 5, queue := 0, jobId := 9, jtype := 0, cls := 0, targetLayer := 0xFF, timeEst := 5, energyEst := 5,
    payloadAddr := 0x10000000, payloadSize := 64 }

/-- The device with jobs in the table of station 0. -/
def withJobs (l : List Job) : State := dev.setRas 0 { jobs := l, nextKey := 10 }

/-- A piece record of zeros but for its check field, with `k` data bytes (R530). -/
def recordOf (k c : Nat) : Bytes := List.replicate 8 0 ++ (toLE 4 c ++ (List.replicate 4 0 ++ List.replicate k 0))

/-- A piece record of zeros but for its check field. -/
def pieceOf (c : Nat) : Bytes := recordOf 4096 c

/-- The check value of the record of zeros. -/
def zeroCrc : Nat := crc32c (List.replicate 8 0 ++ List.replicate 4096 0)

theorem recordOf_length (k c : Nat) : (recordOf k c).length = k + 16 := by simp [recordOf, toLE]

theorem recordOf_crc (k c : Nat) : (recordOf k c).take 8 ++ slice (recordOf k c) 16 k = List.replicate 8 0 ++ List.replicate k 0 := by
  simp [recordOf, slice, toLE]

theorem recordOf_field (k c : Nat) : fieldLE (recordOf k c) 8 4 = c % 2 ^ 32 := by
  simp only [fieldLE, recordOf, slice, toLE, List.replicate, List.cons_append, List.nil_append, List.drop_succ_cons, List.drop_zero,
    List.take_succ_cons, List.take_zero, ofLE, BitVec.toNat_ofNat]
  omega

theorem recordOf_head (k c o : Nat) (h : o = 0 ∨ o = 4) : fieldLE (recordOf k c) o 4 = 0 := by
  rcases h with rfl | rfl <;> simp [fieldLE, recordOf, slice, ofLE]

/-- A device that receives the two pieces of a package. -/
def receiving : State :=
  let u := ((dev.wrBlob Obj.MANIFEST (List.replicate 232 0)).wr Obj.PIECES_TOTAL 2).wr Obj.UPDATE_STATE upReceiving
  { u with upd := { u.upd with index := 0 } }

theorem receiving_checks (c : Nat) : receiving.pieceReject (pieceOf c) = if c % 2 ^ 32 = zeroCrc then none else some 3 := by
  have a : ¬ (receiving.updState ≠ upReceiving || decide (0 ≠ receiving.manifest.packageId)) = true := by decide +kernel
  have b : ¬ receiving.piecesTotal ≤ 0 := by decide +kernel
  unfold State.pieceReject pieceCrc pieceOf
  rw [recordOf_head _ _ _ (.inl rfl), recordOf_head _ _ _ (.inr rfl), recordOf_field, recordOf_crc, if_neg a, if_neg b]
  show (if c % 2 ^ 32 ≠ zeroCrc then some 3 else none) = _
  by_cases h : c % 2 ^ 32 = zeroCrc <;> simp_all

theorem zeroCrc_lt : zeroCrc < 2 ^ 32 := crc32c_lt _

theorem receiving_takes : receiving.pieceReject (pieceOf zeroCrc) = none := by
  rw [receiving_checks, if_pos (Nat.mod_eq_of_lt zeroCrc_lt)]

theorem receiving_refuses : receiving.pieceReject (pieceOf (zeroCrc + 1)) = some 3 := by
  have h := zeroCrc_lt
  rw [receiving_checks, if_neg (by omega)]

/-! ### Well-formed commands -/

/-- A term of each command that has checks, with every operand in its form. -/
theorem test_wellFormed_taken :
    (([.thermalTrip (List.replicate 16 20), .trimLoadDone none, .bootRomMgmtAcceptance none true, .deviceRequestNone (.host 0),
       .deviceRequestRecovery (.host 0), .deviceRequestLeaveRecovery (.host 0), .resetRequestCold (.host 0), .resetRequestWarm (.host 0),
       .resetRequestMgmt (.host 0), .resetRequestSec (.host 0), .resetRequestPort (.host 0) 0, .resetRequestStation (.host 0) 0,
       .stationReset (.host 0) 0 true, .functionGateTouch (.host 0) 0 true, .functionGateHaptic (.host 0) 0 true,
       .functionGateAudio (.host 0) 0 true, .fuseMapProgram (.host 0) (List.replicate 17 0), .stnImageLoad (List.replicate 48 0),
       .stationTargetOff (.host 0) 0, .stationTargetRunning (.host 0) 0, .stationTargetSleep (.host 0) 0, .ringTailWrite 0 0 0 0 0,
       .compHeadWrite 0 0 0 0 0, .descriptorFetched 0 0 0 (List.replicate 64 0), .ringReadFailed 0 0 0 1, .ringEnable (.host 0) 0 0 0 true,
       .jobCompute 0 0 { handle := 1, x := 1, y := 1, z := 1 }, .jobPipelineLoad 0 0 { handle := 1, stages := [{ addr := 0, size := 4 }] },
       .jobPipelineDrop 0 0 0, .unitComplete 0 0 0 {}, .contextSaveDone 0 0 [], .jobAccessFault 0 0 0 0 true, .pipelineDropFree 0 0 0,
       .retranslationSwap 0 0 0, .layerCommit (.dict (.host 0)) 0 0, .guardCommit (.dict (.host 0)) 0 0, .layerFetchComplete 0 0 0 0 true,
       .refLoadStart (.host 0) 0 0, .safeStore (.host 0) 0 0 true [], .modeCommit (.host 0) 0 0] : List Instr).all Instr.wellFormed) = true ∧
    (([.sinkReadDone 0 none, .linkTrainingDone 0 [], .contactHoldLimit 0 0, .touchCommit (.host 0) 0 0, .pairAbandon 0 0,
       .referenceCapture (.host 0) 0 0, .referenceCaptureDone 0 (List.replicate 8 (List.replicate 64 ⟨[], [], []⟩)), .wakeScan 0 0 [],
       .wakePendingClear (.host 0) 0 0, .tchMicrocodeSwap 0 (List.replicate 48 0) true, .hapticTrigger (.dict (.host 0)) 0 0 0,
       .senseSample 0 0 0 0 0, .overcurrent 0 0, .effectData (.host 0) 0 0 [], .faultClear (.host 0) 0 0, .hapticCommit (.host 0) 0 0,
       .hapticStreamFetch 0 0, .audioFrame 0 0 0, .audioCommit (.host 0) 0 0, .streamStart (.host 0) 0 0 0, .streamStop (.host 0) 0 0 0,
       .tgStart (.host 0) 0 0 0, .tgStop (.host 0) 0 0 0, .memTempRead 0 0, .memTrainingAttemptDone 0 true 0 0 0, .memRead 0 0 .haptic 0,
       .requestPromotion 0 0 0, .memReinit (.host 0) 0 true, .sliceFlr 0 0 0, .sliceReset (.host 0) 0 true, .sliceEnable (.host 0) 0 true,
       .rightsWrite (.host 0) 0 0 0 0, .windowWrite (.host 0) 0 0 0 0, .touchLandHead 0 0 0, .notifyLandHead 0 0 0,
       .mbSend (.host 0) 0 none [] {}, .quarantineRelease (.host 0) 0 0, .enclaveCreate (.host 0) 0,
       .enclaveLoadDone 0 (List.replicate 97 0), .enclaveStart (.host 0) 0] : List Instr).all Instr.wellFormed) = true ∧
    (([.enclaveStop (.host 0) 0, .enclaveCommandDestroy (.host 0) 0, .enclaveDestroy (.host 0) 0 true, .inbox (.host 0) 0 [],
       .acquire 0 0 .layer 0, .release 0 0 .layer 0, .enclaveWrite 0 0 0 0 [], .enclaveRead 0 0 0 0, .enclaveCommit 0 0 0 0, .send 0 [],
       .seal 0 [], .unseal 0 [], .rebind 0 (.enable true), .lockDrainDone 0 .layer 0, .lockReady 0 .layer 0, .secRestartBootDone none,
       .attestChallenge (.host 0) [], .debugChallenge (.host 0), .debugResponse (.host 0) [], .energySample ⟨List.replicate 35 (0, 0), []⟩,
       .budgetPeriod (List.replicate 16 20), .weirClampRank ⟨0, 0, List.replicate 8 0⟩, .weirReleaseCheck ⟨0, 0, List.replicate 8 0⟩,
       .deviceBudgetMw (.host 0) 0, .bdaRead (.mac 0) (.wide []), .bdaWrite (.mac 0) (.wide []) {}, .bdaCommit (.mac 0) (.wide []),
       .bdaNotify (.mac 0) (.wide []), .bdaBlock (.mac 0) (.wide []), .dictionaryWrite (.host 0) 0 0 0 none [] {},
       .stationCommit (.host 0) 0 0, .resultAck (.host 0) 0 0 none 0, .resultBlobRead (.host 0) 0 0 0 0, .logRingRead (.host 0) none 0 0,
       .clearingRead (.host 0) 0 true, .settingsSave (.host 0) true, .settingsDefaults (.host 0) true, .switchFrame 0 [] true 0,
       .macEntryAged 0, .qbvGateEvent 0 0] : List Instr).all Instr.wellFormed) = true ∧
    (([.arpRequest 0 0 0 0, .icmpEcho 0 0 0 0 [], .grantChallenge (.host 0), .grantRequest (.host 0) [] [], .grantEnd (.host 0) 0,
       .relayFrame .manager (.wide []), .devicePath (.host 0) 0 0, .memberSerial (.host 0) 0 0, .heartbeat 0, .heartbeatAnswer 0 0 0,
       .alarmMergeEnd 0 0 0 0, .alarmAck (.host 0) 0, .manifest (.host 0) [], .pieceStream (List.replicate 4112 0), .pieceIn (.host 0) [],
       .updateApply (.host 0), .updateCommit (.host 0) [], .updateRevert (.host 0), .updateCancel (.host 0), .forceSec (.host 0),
       .mgmtStepDone (List.replicate 512 0) [] 0, .trialExpired [], .cacheTargets (.host 0) 0, .cachePush 0 [], .cvArm (.host 0) 0,
       .cvEnd (.host 0) 0, .cvAbort (.host 0) 0, .queueItemArrival (.hwLog ⟨0, 0, 0, 0, 0, []⟩), .mgmtReady true [] [],
       .memberAlarmReceived 0 ⟨0, 0, 0, 0, 0, 0, 0, 0, 0⟩] : List Instr).all Instr.wellFormed) = true :=
  ⟨by decide +kernel, by decide +kernel, by decide +kernel, by decide +kernel⟩

/-- Requesters past the 32 peer records are refused. -/
theorem test_illFormed_requesters :
    (([.deviceRequestNone (.peer 32), .deviceRequestRecovery (.peer 32), .deviceRequestLeaveRecovery (.peer 32),
       .resetRequestCold (.peer 32), .resetRequestWarm (.peer 32), .resetRequestMgmt (.peer 32), .resetRequestSec (.peer 32),
       .resetRequestPort (.peer 32) 0, .resetRequestStation (.peer 32) 0, .stationReset (.peer 32) 0 true,
       .functionGateTouch (.peer 32) 0 true, .functionGateHaptic (.peer 32) 0 true, .functionGateAudio (.peer 32) 0 true,
       .fuseMapProgram (.peer 32) (List.replicate 17 0), .stationTargetOff (.peer 32) 0, .stationTargetRunning (.peer 32) 0,
       .stationTargetSleep (.peer 32) 0, .ringEnable (.peer 32) 0 0 0 true, .layerCommit (.dict (.peer 32)) 0 0,
       .guardCommit (.dict (.peer 32)) 0 0, .refLoadStart (.peer 32) 0 0, .safeStore (.peer 32) 0 0 true [], .modeCommit (.peer 32) 0 0,
       .touchCommit (.peer 32) 0 0, .referenceCapture (.peer 32) 0 0, .wakePendingClear (.peer 32) 0 0,
       .hapticTrigger (.dict (.peer 32)) 0 0 0, .effectData (.peer 32) 0 0 [], .faultClear (.peer 32) 0 0, .hapticCommit (.peer 32) 0 0,
       .audioCommit (.peer 32) 0 0, .streamStart (.peer 32) 0 0 0, .streamStop (.peer 32) 0 0 0, .tgStart (.peer 32) 0 0 0,
       .tgStop (.peer 32) 0 0 0, .memReinit (.peer 32) 0 true, .sliceReset (.peer 32) 0 true, .sliceEnable (.peer 32) 0 true,
       .rightsWrite (.peer 32) 0 0 0 0, .windowWrite (.peer 32) 0 0 0 0] : List Instr).all (fun c => !c.wellFormed)) = true ∧
    (([.quarantineRelease (.peer 32) 0 0, .enclaveCreate (.peer 32) 0, .enclaveStart (.peer 32) 0, .enclaveStop (.peer 32) 0,
       .enclaveCommandDestroy (.peer 32) 0, .enclaveDestroy (.peer 32) 0 true, .inbox (.peer 32) 0 [], .attestChallenge (.peer 32) [],
       .debugChallenge (.peer 32), .debugResponse (.peer 32) [], .deviceBudgetMw (.peer 32) 0, .dictionaryWrite (.peer 32) 0 0 0 none [] {},
       .stationCommit (.peer 32) 0 0, .resultAck (.peer 32) 0 0 none 0, .resultBlobRead (.peer 32) 0 0 0 0,
       .logRingRead (.peer 32) none 0 0, .clearingRead (.peer 32) 0 true, .settingsSave (.peer 32) true, .settingsDefaults (.peer 32) true,
       .grantChallenge (.peer 32), .grantRequest (.peer 32) [] [], .grantEnd (.peer 32) 0, .devicePath (.peer 32) 0 0,
       .memberSerial (.peer 32) 0 0, .alarmAck (.peer 32) 0, .manifest (.peer 32) [], .pieceIn (.peer 32) [], .updateApply (.peer 32),
       .updateCommit (.peer 32) [], .updateRevert (.peer 32), .updateCancel (.peer 32), .forceSec (.peer 32), .cacheTargets (.peer 32) 0,
       .cvArm (.peer 32) 0, .cvEnd (.peer 32) 0, .cvAbort (.peer 32) 0] : List Instr).all (fun c => !c.wellFormed)) = true :=
  ⟨by decide +kernel, by decide +kernel⟩

/-- Numbers past their widths are refused. -/
theorem test_illFormed_words :
    (([.ringTailWrite 0 0 0 0 (2 ^ 32), .compHeadWrite 0 0 0 0 (2 ^ 32), .ringReadFailed 0 0 0 0, .ringReadFailed 0 0 0 5,
       .jobPipelineDrop 0 0 (2 ^ 32), .jobAccessFault 0 0 (2 ^ 64) 0 true, .jobAccessFault 0 0 0 (2 ^ 32) true,
       .pipelineDropFree 0 0 (2 ^ 32), .retranslationSwap 0 0 (2 ^ 32), .layerCommit (.dict (.host 0)) 0 (2 ^ 32),
       .guardCommit (.dict (.host 0)) 0 (2 ^ 32), .layerFetchComplete 0 0 (2 ^ 64) 0 true, .layerFetchComplete 0 0 0 (2 ^ 32) true,
       .refLoadStart (.host 0) 0 (2 ^ 32), .safeStore (.host 0) 0 (2 ^ 32) true [], .modeCommit (.host 0) 0 (2 ^ 32),
       .contactHoldLimit 0 (2 ^ 8), .touchCommit (.host 0) 0 (2 ^ 32), .pairAbandon 0 (2 ^ 8), .referenceCapture (.host 0) 0 (2 ^ 32),
       .wakeScan 0 (2 ^ 4) [], .wakeScan 0 0 [(4096, 0)], .wakePendingClear (.host 0) 0 (2 ^ 32),
       .hapticTrigger (.dict (.host 0)) 0 0 (2 ^ 32), .senseSample 0 150001 0 0 0, .senseSample 0 (-150001) 0 0 0,
       .senseSample 0 0 1900001 0 0, .senseSample 0 0 (-1900001) 0 0, .senseSample 0 0 0 1900001 0, .senseSample 0 0 0 (-1900001) 0,
       .senseSample 0 0 0 0 1900001, .overcurrent 0 150001, .overcurrent 0 (-150001), .faultClear (.host 0) 0 (2 ^ 32),
       .hapticCommit (.host 0) 0 (2 ^ 32), .hapticStreamFetch 0 (2 ^ 32), .audioFrame 0 (2 ^ 32) 0, .audioFrame 0 0 (2 ^ 32),
       .audioCommit (.host 0) 0 (2 ^ 32), .streamStart (.host 0) 0 0 (2 ^ 32)] : List Instr).all (fun c => !c.wellFormed)) = true ∧
    (([.streamStop (.host 0) 0 0 (2 ^ 32), .tgStart (.host 0) 0 0 (2 ^ 32), .tgStop (.host 0) 0 0 (2 ^ 32), .memTempRead 0 128,
       .memTempRead 0 (-129), .memTrainingAttemptDone 0 true 0 0 128, .memTrainingAttemptDone 0 true 0 0 (-129),
       .memRead 0 (2 ^ 64) .haptic 0, .requestPromotion 0 8 0, .sliceFlr 0 0 (2 ^ 32), .rightsWrite (.host 0) 0 0 0 (2 ^ 32),
       .windowWrite (.host 0) 0 0 0 (2 ^ 64), .touchLandHead 0 0 (2 ^ 32), .notifyLandHead 0 0 (2 ^ 32),
       .quarantineRelease (.host 0) 0 (2 ^ 32), .acquire 0 0 .layer 16, .release 0 0 .layer 16, .enclaveWrite 0 0 65536 0 [],
       .enclaveWrite 0 0 0 256 [], .enclaveRead 0 0 65536 0, .enclaveRead 0 0 0 256, .enclaveCommit 0 0 (2 ^ 32) 0,
       .enclaveCommit 0 0 0 (2 ^ 32), .lockDrainDone 0 .layer 16, .lockReady 0 .layer 16, .deviceBudgetMw (.host 0) (2 ^ 32),
       .dictionaryWrite (.host 0) 0 65536 0 none [] {}, .dictionaryWrite (.host 0) 0 0 256 none [] {}, .stationCommit (.host 0) 0 (2 ^ 32),
       .resultAck (.host 0) 0 65536 none 0, .resultAck (.host 0) 0 0 none (2 ^ 32), .resultBlobRead (.host 0) 0 65536 0 0,
       .resultBlobRead (.host 0) 0 0 (2 ^ 32) 0, .resultBlobRead (.host 0) 0 0 0 (2 ^ 32), .logRingRead (.host 0) none (2 ^ 32) 0,
       .logRingRead (.host 0) none 0 (2 ^ 32), .switchFrame 0 [] true (2 ^ 32), .macEntryAged (2 ^ 48), .qbvGateEvent 0 (2 ^ 8),
       .arpRequest 0 (2 ^ 32) 0 0] : List Instr).all (fun c => !c.wellFormed)) = true ∧
    (([.arpRequest 0 0 (2 ^ 32) 0, .arpRequest 0 0 0 (2 ^ 32), .icmpEcho 0 (2 ^ 32) 0 0 [], .icmpEcho 0 0 (2 ^ 32) 0 [],
       .icmpEcho 0 0 0 (2 ^ 32) [], .grantEnd (.host 0) (2 ^ 32), .devicePath (.host 0) (2 ^ 32) 0, .devicePath (.host 0) 0 (2 ^ 64),
       .memberSerial (.host 0) 0 (2 ^ 64), .heartbeat (2 ^ 64), .heartbeatAnswer 0 (2 ^ 64) 0, .heartbeatAnswer 0 0 (2 ^ 64),
       .alarmMergeEnd (2 ^ 32) 0 0 0, .alarmMergeEnd 0 (2 ^ 32) 0 0, .alarmMergeEnd 0 0 16 0, .alarmMergeEnd 0 0 0 3,
       .alarmAck (.host 0) (2 ^ 32), .mgmtStepDone (List.replicate 512 0) [] (2 ^ 32), .cacheTargets (.host 0) (2 ^ 32)] : List Instr).all (fun c => !c.wellFormed)) = true :=
  ⟨by decide +kernel, by decide +kernel, by decide +kernel⟩

/-- Byte strings past their lengths are refused. -/
theorem test_illFormed_bytes :
    (([.fuseMapProgram (.host 0) (List.replicate 16 0), .fuseMapProgram (.host 0) (List.replicate 18 0),
       .stnImageLoad (List.replicate 47 0), .stnImageLoad (List.replicate 49 0), .descriptorFetched 0 0 0 (List.replicate 63 0),
       .descriptorFetched 0 0 0 (List.replicate 65 0), .safeStore (.host 0) 0 0 true (List.replicate 1387 0),
       .tchMicrocodeSwap 0 (List.replicate 47 0) true, .tchMicrocodeSwap 0 (List.replicate 49 0) true,
       .mbSend (.host 0) 0 none (List.replicate 1025 0) {}, .enclaveLoadDone 0 (List.replicate 96 0),
       .enclaveLoadDone 0 (List.replicate 98 0), .inbox (.host 0) 0 (List.replicate 1025 0), .enclaveWrite 0 0 0 0 (List.replicate 1543 0),
       .send 0 (List.replicate 1025 0), .attestChallenge (.host 0) (List.replicate 1025 0),
       .debugResponse (.host 0) (List.replicate 1025 0), .dictionaryWrite (.host 0) 0 0 0 none (List.replicate 1387 0) {},
       .icmpEcho 0 0 0 0 (List.replicate 1473 0), .grantRequest (.host 0) (List.replicate 436 0) [],
       .grantRequest (.host 0) [] (List.replicate 98 0), .manifest (.host 0) (List.replicate 1025 0), .pieceStream (List.replicate 4111 0),
       .mgmtStepDone (List.replicate 511 0) [] 0, .mgmtStepDone (List.replicate 513 0) [] 0, .cachePush 0 (List.replicate 2049 0)] : List Instr).all (fun c => !c.wellFormed)) = true :=
  by decide +kernel

/-- Operands of several parts with a part out of its form are refused. -/
theorem test_illFormed_forms :
    (([.thermalTrip [], .trimLoadDone (some ⟨[], 0, [], 0, 0, []⟩), .bootRomMgmtAcceptance (some []) true,
       .jobCompute 0 0 { handle := 2 ^ 32, x := 1, y := 1, z := 1 },
       .jobCompute 0 0 { handle := 1, x := 1, y := 1, z := 1, sets := [⟨0, 0, 2 ^ 16⟩] },
       .jobPipelineLoad 0 0 { handle := 1, stages := [] },
       .jobPipelineLoad 0 0 { handle := 1, stages := [{ addr := 0, size := 4, name := List.replicate 32 65 }] },
       .unitComplete 0 0 0 { frags := [{ prim := 0, x := 32, y := 0, sample := 0 }] },
       .unitComplete 0 0 0 { frags := [{ prim := 0, x := 0, y := 0, sample := 4 }] }, .sinkReadDone 0 (some ⟨[], 2 ^ 32, 0, []⟩),
       .sinkReadDone 0 (some ⟨[], 0, 0, [(0, 5)]⟩), .linkTrainingDone 0 [(0, 5)], .referenceCaptureDone 0 [],
       .referenceCaptureDone 0 (List.replicate 8 []), .memRead 0 0 (.compositor 16) 0, .memRead 0 0 (.audio 16) 0,
       .memRead 0 0 (.transfer 512 0) 0, .memRead 0 0 (.other 8) 0, .mbSend (.host 0) 0 none [] { pub := List.replicate 98 0 },
       .mbSend (.host 0) 0 none [] { serial := 2 ^ 64 }, .mbSend (.host 0) 0 none [] { fails := [5] }, .rebind 0 (.port 2),
       .rebind 0 (.pasid (2 ^ 20)), .rebind 0 (.cls 4), .rebind 0 (.stations 256), .rebind 0 (.rights 8 0 0), .rebind 0 (.window 0 16 0),
       .secRestartBootDone (some []), .energySample ⟨[], []⟩, .energySample ⟨List.replicate 35 (0, 0), [(8, .base, 1)]⟩, .budgetPeriod [],
       .weirClampRank ⟨0, 0, []⟩, .weirReleaseCheck ⟨0, 0, []⟩, .bdaRead (.mac (2 ^ 48)) (.wide []), .bdaRead (.udp (2 ^ 32) 0) (.wide []),
       .bdaRead (.can 2 0) (.wide []), .bdaRead (.mac 0) (.wide (List.replicate 1441 0)),
       .bdaRead (.mac 0) (.short (2 ^ 29) (List.replicate 64 0)), .bdaRead (.mac 0) (.short 0 []), .bdaWrite (.mac (2 ^ 48)) (.wide []) {}] : List Instr).all (fun c => !c.wellFormed)) = true ∧
    (([.bdaWrite (.udp (2 ^ 32) 0) (.wide []) {}, .bdaWrite (.can 2 0) (.wide []) {}, .bdaWrite (.mac 0) (.wide (List.replicate 1441 0)) {},
       .bdaWrite (.mac 0) (.short (2 ^ 29) (List.replicate 64 0)) {}, .bdaWrite (.mac 0) (.short 0 []) {},
       .bdaWrite (.mac 0) (.wide []) { pub := List.replicate 98 0 }, .bdaWrite (.mac 0) (.wide []) { serial := 2 ^ 64 },
       .bdaWrite (.mac 0) (.wide []) { fails := [5] }, .bdaCommit (.mac (2 ^ 48)) (.wide []), .bdaCommit (.udp (2 ^ 32) 0) (.wide []),
       .bdaCommit (.can 2 0) (.wide []), .bdaCommit (.mac 0) (.wide (List.replicate 1441 0)),
       .bdaCommit (.mac 0) (.short (2 ^ 29) (List.replicate 64 0)), .bdaCommit (.mac 0) (.short 0 []),
       .bdaNotify (.mac (2 ^ 48)) (.wide []), .bdaNotify (.udp (2 ^ 32) 0) (.wide []), .bdaNotify (.can 2 0) (.wide []),
       .bdaNotify (.mac 0) (.wide (List.replicate 1441 0)), .bdaNotify (.mac 0) (.short (2 ^ 29) (List.replicate 64 0)),
       .bdaNotify (.mac 0) (.short 0 []), .bdaBlock (.mac (2 ^ 48)) (.wide []), .bdaBlock (.udp (2 ^ 32) 0) (.wide []),
       .bdaBlock (.can 2 0) (.wide []), .bdaBlock (.mac 0) (.wide (List.replicate 1441 0)),
       .bdaBlock (.mac 0) (.short (2 ^ 29) (List.replicate 64 0)), .bdaBlock (.mac 0) (.short 0 []),
       .dictionaryWrite (.host 0) 0 0 0 none [] { pub := List.replicate 98 0 },
       .dictionaryWrite (.host 0) 0 0 0 none [] { serial := 2 ^ 64 }, .dictionaryWrite (.host 0) 0 0 0 none [] { fails := [5] },
       .relayFrame (.member 64) (.wide []), .relayFrame .manager (.wide (List.replicate 1441 0)),
       .relayFrame .manager (.short (2 ^ 29) (List.replicate 64 0)), .relayFrame .manager (.short 0 []), .updateCommit (.host 0) [5],
       .trialExpired [5], .queueItemArrival (.hwLog ⟨2 ^ 64, 0, 0, 0, 0, []⟩), .queueItemArrival (.hwLog ⟨0, 0, 4, 0, 0, []⟩),
       .queueItemArrival (.hwLog ⟨0, 0, 0, 0, 0, [(0, 161)]⟩),
       .queueItemArrival (.tenantTouch 0 ⟨0, 2 ^ 16, 0, 0, 0, 0, 0, 0, 0, 0, 0, 0, 0, 0⟩),
       .queueItemArrival (.alarm ⟨2 ^ 32, 0, 0, 0, 0, 0, 0, 0, 0⟩)] : List Instr).all (fun c => !c.wellFormed)) = true ∧
    (([.queueItemArrival (.haptic 0 ⟨.nobody, 0, 0, 256, 0, false, 0⟩), .mgmtReady true [] [5],
       .memberAlarmReceived 0 ⟨0, 2 ^ 16, 0, 0, 0, 0, 0, 0, 0⟩] : List Instr).all (fun c => !c.wellFormed)) = true :=
  ⟨by decide +kernel, by decide +kernel, by decide +kernel⟩

/-- Byte strings past the longest lengths are refused. -/
theorem test_illFormed_longBytes :
    Instr.wellFormed (.contextSaveDone 0 0 (List.replicate 163841 0)) = false ∧
    Instr.wellFormed (.effectData (.host 0) 0 0 (List.replicate 65537 0)) = false ∧
    Instr.wellFormed (.seal 0 (List.replicate 65537 0)) = false ∧
    Instr.wellFormed (.unseal 0 (List.replicate 65537 0)) = false ∧
    Instr.wellFormed (.switchFrame 0 (List.replicate 65536 0) true 0) = false ∧
    Instr.wellFormed (.pieceStream (List.replicate 4113 0)) = false ∧
    Instr.wellFormed (.pieceIn (.host 0) (List.replicate 4113 0)) = false := by
  refine ⟨?_, ?_, ?_, ?_, ?_, ?_, ?_⟩ <;> simp only [Instr.wellFormed, bytesOk, List.length_replicate] <;> decide

/-! ### Small tests -/

theorem test_reset_queue_empty : State.reset.pending = [] := rfl

theorem test_no_row_has_bits : decodeTableWord 32 0xFFFFFFFF = none := rfl

theorem test_withFetchWord_spells_none : State.reset.withFetchWord 32 5 = State.reset := rfl

/-- 40 ns pass in a device whose always-on domain is out of reset (R589). -/
theorem test_idle_cycle : (match step dev with | .next t => t.time | _ => 0) = 1000000040 := by decide +kernel

/-- A device that is OFF has no time (R27). -/
theorem test_idle_off : step State.reset = .next State.reset := rfl

/-- A write of one byte reads back, its neighbour as 0, and the byte leaves the list when 0 is written (assumption 5). -/
theorem test_store_load : ((dev.store 0 0x10000000 [7]).load 0 0x10000000 2 = [7, 0]) ∧
    (((dev.store 0 0x10000000 [7]).store 0 0x10000000 [0]).mem = []) := by decide +kernel

/-- The check values of R600 for "123456789". -/
theorem test_check_values :
    crc32c [0x31, 0x32, 0x33, 0x34, 0x35, 0x36, 0x37, 0x38, 0x39] = 0xE3069283 ∧
    crc64 [0x31, 0x32, 0x33, 0x34, 0x35, 0x36, 0x37, 0x38, 0x39] = 0x6C40DF5F0B497347 := by decide +kernel

/-- Most significant byte first in a header: type READ of version 1, SEQ 0x1234 (R11, R503). -/
theorem test_header_bytes :
    (({ typ := tyRead, response := false, qual := false, relayed := false, tagged := false, seq := 0x1234, dest := 0, src := 0,
        tenant := 0, length := 0, session := 0, hops := 0 } : Header).encode).take 4 = [0x11, 0, 0x12, 0x34] := by decide +kernel

/-- STATION_LOG_LOST stands in the headworks, one index a station; LAYER_ALPHA in each station area (R5). -/
theorem test_keys : Obj.STATION_LOG_LOST.key 0 3 512 0 = ⟨7, 0x1103, Obj.STATION_LOG_LOST.sub, 512⟩ ∧
    Obj.LAYER_ALPHA.key 1 0 512 0 = ⟨9, 0x2010, 3, 512⟩ := by decide +kernel

/-! ### The hypotheses of the general statements -/

/-- A device with an item in a small queue of two priorities. -/
def smallQueue : EvQueue Nat := { drain := [(0, 1), (1, 3)], fill := [(2, 0)], nextAge := 3 }

/-- An enclave at 256 MiB of station 0. -/
def withEnclave : State := (dev.setEnclave 3 enRunning).wr Obj.RANGE (2 ^ 40 + 0x10000 * 2 ^ 12 : Nat) 0 3 512 0

/-- An attachment of 64 by 64 pixels, stored as it is. -/
def attachment0 : Attachment :=
  { clear := 0, sigTable := 0x11000000, format := 1, samplesLog2 := 0, loadOp := 1, storeOp := 0, reserved := 0, pitch := 256,
    addr := 0x10000000 }

/-- A job of 64 by 64 pixels, at an intermediate flush or not. -/
def tiled (flushing : Bool) : Job := { job0 with width := 64, height := 64, flushing := flushing }

theorem test_StepRunsTheFrontCommand_witnesses : ∃ (c : Instr) (q : List Instr) (s : State), s.pending = c :: q :=
  ⟨.vaonGood, [], { dev with pending := [.vaonGood] }, rfl⟩

theorem test_EmptyQueuePassesOneReferenceCycle_witnesses :
    (∃ s : State, s.pending = [] ∧ s.powered = true ∧ Domain.aon ∉ s.rst.inReset) ∧ (∃ s : State, s.pending = [] ∧ s.powered = false) :=
  ⟨⟨dev, by decide +kernel⟩, ⟨State.reset, by decide +kernel⟩⟩

theorem test_EveryStepKeepsTheMemoryForm_witnesses : ∃ s t : State, Inv s ∧ step s = .next t :=
  ⟨dev.store 0 0x10000000 [7], _, by unfold Inv; decide +kernel, rfl⟩

theorem test_EveryCommandKeepsToItsParts_witnesses : ∀ c : Instr, ∃ s t : State, exec c s = .next t := fun c =>
  let ⟨t, h⟩ := exec_next c dev
  ⟨dev, t, h⟩

theorem test_MemoryReadsWhatWasStored_witnesses : ∃ (s : State) (b : Bytes), Inv s ∧ ∃ i, i < b.length :=
  ⟨dev, [7], by unfold Inv; decide +kernel, 0, by decide⟩

theorem test_TaggedWritesKeepToTheirBytes_witnesses :
    (∃ (s : State) (n x tag : Nat) (b : Bytes), Inv s ∧ (s.tagFault n x b.length tag).isSome = true) ∧
    (∃ (s : State) (n x tag : Nat) (b : Bytes), Inv s ∧ s.tagFault n x b.length tag = none ∧ tag = 0) ∧
    (∃ (s : State) (n x tag : Nat) (b : Bytes), Inv s ∧ s.tagFault n x b.length tag = none ∧ tag ≠ 0) :=
  ⟨⟨withEnclave, 0, 0x10000000, 0, [7], by unfold Inv; decide +kernel⟩, ⟨dev, 0, 0x10000000, 0, [7], by unfold Inv; decide +kernel⟩,
   ⟨withEnclave, 0, 0x10000000, 4, [7], by unfold Inv; decide +kernel⟩⟩

theorem test_TileStoresKeepToTheirTile_witnesses :
    (∃ (s : State) (n key tx ty : Nat) (a : Attachment) (j : Job) (tile : List Bytes), Inv s ∧ s.job? n key = some j ∧
      tile.length = (j.tileSize tx ty).1 * (j.tileSize tx ty).2 * a.samples ∧ (∀ x ∈ tile, x.length = a.bps) ∧ a.storeOp = 1 ∧
      (j.flushing && a.isDepth) = false) ∧
    (∃ (s : State) (n key tx ty : Nat) (a : Attachment) (j : Job) (tile : List Bytes), Inv s ∧ s.job? n key = some j ∧
      tile.length = (j.tileSize tx ty).1 * (j.tileSize tx ty).2 * a.samples ∧ (∀ x ∈ tile, x.length = a.bps) ∧ a.storeOp = 1 ∧
      (j.flushing && a.isDepth) = true) ∧
    (∃ (s : State) (n key tx ty c : Nat) (a : Attachment) (j : Job) (tile : List Bytes), Inv s ∧ s.job? n key = some j ∧
      tile.length = (j.tileSize tx ty).1 * (j.tileSize tx ty).2 * a.samples ∧ (∀ x ∈ tile, x.length = a.bps) ∧ a.storeOp ≠ 1 ∧
      (∀ y, y < (j.tileSize tx ty).2 →
        c < cellOf n (a.addr + (32 * ty + y) * a.pitch + 32 * tx * a.bps * a.stored) ∨
        cellOf n (a.addr + (32 * ty + y) * a.pitch + 32 * tx * a.bps * a.stored) + (j.tileSize tx ty).1 * a.bps * a.stored ≤ c) ∧
      (c < cellOf n (a.sigTable + 64 + 8 * (ty * cdiv j.width 32 + tx)) ∨
        cellOf n (a.sigTable + 64 + 8 * (ty * cdiv j.width 32 + tx)) + 8 ≤ c) ∧
      c ≠ cellOf n a.sigTable) :=
  ⟨⟨withJobs [tiled false], 0, 0, 1, 1, { attachment0 with storeOp := 1 }, tiled false, List.replicate 1024 [1, 2, 3, 4],
    by unfold Inv; decide +kernel⟩,
   ⟨withJobs [tiled true], 0, 0, 1, 1, { attachment0 with storeOp := 1, format := 0x12 }, tiled true, List.replicate 1024 [1, 2, 3, 4],
    by unfold Inv; decide +kernel⟩,
   ⟨withJobs [tiled false], 0, 0, 1, 1, 0x10000000, attachment0, tiled false, List.replicate 1024 [1, 2, 3, 4],
    by unfold Inv; decide +kernel⟩⟩

theorem test_SmallQueuesReadTheBestItem_witnesses : (∃ q : EvQueue Nat, q.items = []) ∧ (∃ q : EvQueue Nat, q.drain ≠ []) :=
  ⟨⟨{}, rfl⟩, ⟨smallQueue, by decide⟩⟩

theorem test_FullSmallQueuesLoseTheWorstItem_witnesses :
    (∃ (cap : Nat) (q : EvQueue Nat), (q.items.map (·.1)).Nodup ∧ (∀ x ∈ q.items, x.1 < q.nextAge) ∧ q.size < cap) ∧
    (∃ (cap : Nat) (q : EvQueue Nat), (q.items.map (·.1)).Nodup ∧ (∀ x ∈ q.items, x.1 < q.nextAge) ∧ cap ≤ q.size) :=
  ⟨⟨4, smallQueue, by decide⟩, ⟨3, smallQueue, by decide⟩⟩

theorem test_QueueAgesStayApart_witnesses : ∃ q : EvQueue Nat, (q.items.map (·.1)).Nodup ∧ ∀ x ∈ q.items, x.1 < q.nextAge :=
  ⟨smallQueue, by decide⟩

theorem test_AcknowledgementsConsumeResults_witnesses :
    ∃ (s : State) (who : Requester) (area : Fin 16) (idx gen : Nat) (p : Place) (v : ResultSt),
      s.served who = true ∧ s.isQuarantined who = false ∧ s.resultPlace who area idx 512 = .ok p ∧ v = s.results.getD p.key {} ∧
      gen = v.generation ∧ gen + 1 ≠ v.generation :=
  ⟨dev, .host 0, 5, Obj.UPDATE_RESULT.idx, 0, ⟨Obj.UPDATE_RESULT, 0, 0, 0, 512⟩, {}, by decide +kernel⟩

theorem test_ShadowWritesWaitForTheirCommit_witnesses :
    ∃ (r : ObjRow) (n i j m : Nat) (k : SetId) (q : ObjRow × Nat), q ∈ k.rows ∧ q.1.key m q.2 512 0 = r.key n i 512 j :=
  ⟨Obj.LAYER_ALPHA, 1, 3, 0, 1, .layer 3, (Obj.LAYER_ALPHA, 3), by decide +kernel⟩

theorem test_StationObjectsRepeatInEveryStation_witnesses :
    (∃ r : ObjRow, r.station = true) ∧ (∃ (n : Fin 8) (idx sub : Nat), (lookupRow (8 + n) idx sub).isSome = true) :=
  ⟨⟨Obj.LAYER_ALPHA, rfl⟩, ⟨7, 0x2010, 3, by decide +kernel⟩⟩

theorem test_CheckValuePresetsAreAsTabled_witnesses :
    (∃ s : State, s.rdN Obj.CV_PRESET 0 0 = 0) ∧ (∃ s : State, s.rdN Obj.CV_PRESET 0 0 = 1) ∧
    (∃ s : State, s.rdN Obj.CV_PRESET 0 0 = 2) ∧ (∃ s : State, s.rdN Obj.CV_PRESET 0 0 = 3) :=
  ⟨⟨dev.wr Obj.CV_PRESET 0, by decide +kernel⟩, ⟨dev.wr Obj.CV_PRESET 1, by decide +kernel⟩, ⟨dev.wr Obj.CV_PRESET 2, by decide +kernel⟩,
   ⟨dev.wr Obj.CV_PRESET 3, by decide +kernel⟩⟩

theorem test_RecordsAreLaidOutAsTabled_witnesses :
    ∃ (r : Rec) (f : Nat × Nat) (l : List (Nat × Nat)), (r.fields.map (·.2)).sum ≤ 160 ∧ r.fields = f :: l :=
  ⟨⟨1, 2, 3, 4, 5, [(7, 128), (9, 32)]⟩, (7, 128), [(9, 32)], by decide⟩

theorem test_FramesSurviveTheirWire_witnesses :
    (∃ f : ShortFrame, f.priority < 8 ∧ f.typ < 8 ∧ f.dest < 64 ∧ f.src < 64 ∧ f.seq < 2 ^ 16 ∧ f.tenant < 512 ∧ f.addr < 2 ^ 28 ∧
      f.payload.length = 56) ∧
    (∃ (h : Header) (rest : Bytes), h.version < 16 ∧ h.typ < 16 ∧ h.seq < 2 ^ 16 ∧ h.dest < 2 ^ 32 ∧ h.src < 2 ^ 32 ∧ h.tenant < 512 ∧
      h.length < 2 ^ 16 ∧ h.session < 2 ^ 32 ∧ h.hops < 256 ∧ h.status < 256 ∧ h.version = 1 ∧ h.tagged = false ∧
      rest.length = h.length ∧ h.length ≤ 1416) ∧
    (∃ e : Entry, e.area < 16 ∧ e.idx < 2 ^ 16 ∧ e.sub < 256 ∧ e.view < 4 ∧ e.revision < 2 ^ 16 ∧ e.offset < 2 ^ 32 ∧ e.len < 2 ^ 16 ∧
      e.data.length = e.len) :=
  ⟨⟨⟨7, 7, 63, 63, 65535, true, true, 511, 2 ^ 28 - 1, List.replicate 56 1⟩, by decide +kernel⟩,
   ⟨{ typ := 1, response := false, qual := true, relayed := true, tagged := false, seq := 65535, dest := 2 ^ 32 - 1, src := 5,
      tenant := 511, length := 1416, session := 2 ^ 32 - 1, hops := 255, status := 255 }, List.replicate 1416 1, by decide +kernel⟩,
   ⟨{ area := 15, idx := 65535, sub := 255, view := 3, revision := 65535, offset := 2 ^ 32 - 1, len := 2, data := [1, 2] },
    by decide +kernel⟩⟩

theorem test_StationResetsLeaveTheOthersAlone_witnesses :
    (∃ (s t : State) (n m : Fin 8), Inv s ∧ m ≠ n ∧ exec (.stationReset (.host 0) n true) s = .next t) ∧
    (∃ (s t : State) (n m : Fin 8), Inv s ∧ m ≠ n ∧ exec (.memReinit (.host 0) n true) s = .next t) :=
  ⟨⟨dev, _, 0, 1, by unfold Inv; decide +kernel, by decide, rfl⟩, ⟨dev, _, 0, 1, by unfold Inv; decide +kernel, by decide, rfl⟩⟩

/-- A peer whose last request was 2000. -/
def peer2000 : Peer := { id := ⟨.mac 77, 0⟩, last := 2000, recorded := [2000, 1990], lastAt := 0 }

theorem test_SequenceNumbersAreActedOnOnce_witnesses :
    (peer2000.take 3024).1 = .act ∧ modDiff 16 3024 peer2000.last = 1024 ∧ modDiff 16 2000 peer2000.last = 0 ∧
    64513 ≤ modDiff 16 977 peer2000.last ∧ 1024 < modDiff 16 3025 peer2000.last ∧ modDiff 16 3025 peer2000.last < 64513 ∧
    modDiff 16 976 peer2000.last < 64513 := by decide +kernel

theorem test_EventsChangeOnlyTheirObjects_witnesses :
    (∃ (s t : State) (n : Fin 8), exec (.refreshDue n) s = .next t) ∧
    (∃ (s t : State) (n : Fin 8), exec (.retrainDue n) s = .next t) ∧
    (∃ (s t : State) (n : Fin 8), exec (.retrainStart n) s = .next t) ∧
    (∃ (s t : State) (n : Fin 8) (cls since : Nat), exec (.requestPromotion n cls since) s = .next t) ∧
    (∃ (s t : State) (port : Fin 2) (sender target leased : Nat), exec (.arpRequest port sender target leased) s = .next t) ∧
    (∃ (s t : State) (port : Fin 2) (sender target leased : Nat) (data : Bytes), exec (.icmpEcho port sender target leased data) s = .next t) ∧
    (∃ (s t : State) (k : Fin 32), exec (.peerRecordIdle k) s = .next t) ∧
    (∃ (s t : State), exec (.announce) s = .next t) ∧
    (∃ (s t : State), exec (.heartbeatTimer) s = .next t) ∧
    (∃ (s t : State) (digest : Bytes), exec (.stnImageLoad digest) s = .next t) ∧
    (∃ (s t : State), exec (.eraseResume) s = .next t) ∧
    (∃ (s t : State) (image : Option Bytes), exec (.secRestartBootDone image) s = .next t) ∧
    (∃ (s t : State) (k : Fin 3), exec (.hwPllLockLost k) s = .next t) ∧
    (∃ (s t : State) (n : Fin 8) (temp : Int), exec (.memTempRead n temp) s = .next t) ∧
    (∃ (s t : State) (n : Fin 8), exec (.memFillDone n) s = .next t) ∧
    (∃ (s t : State) (n : Fin 8) (k : Fin 512) (handle : Nat), exec (.pipelineDropFree n k handle) s = .next t) ∧
    (∃ (s t : State) (n : Fin 8), exec (.safeStoreCheckDone n) s = .next t) ∧
    (∃ (s t : State) (n : Fin 8), exec (.hpdPlug n) s = .next t) ∧
    (∃ (s t : State) (p : Fin 2), exec (.hostPortReady p) s = .next t) ∧
    (∃ (s t : State) (n : Fin 8) (steps : Nat), exec (.pairAbandon n steps) s = .next t) ∧
    (∃ (s t : State) (n : Fin 8), exec (.audioStartDone n) s = .next t) ∧
    (∃ (s t : State) (port : Fin 2) (speed : Fin 4), exec (.ethLinkChange port speed) s = .next t) ∧
    (∃ (s t : State), exec (.ethernetPllLockLost) s = .next t) ∧
    (∃ (s t : State) (k : Fin 32), exec (.sessionIdle k) s = .next t) ∧
    (∃ (s t : State) (x : Fin 64) (bitmap : Bytes), exec (.cachePush x bitmap) s = .next t) ∧
    (∃ (s t : State), exec (.imageCopyDone) s = .next t) ∧
    (∃ (s t : State) (trial : Bool), exec (.secStepDone trial) s = .next t) ∧
    (∃ (s t : State), exec (.stnSwapTimeout) s = .next t) ∧
    (∃ (s t : State) (origin : RelayFrom) (frame : BdaFrame), exec (.relayFrame origin frame) s = .next t) ∧
    (∃ (s t : State) (u1 : Fin 24) (overflow : Bool), exec (.cvRunComplete u1 overflow) s = .next t) ∧
    (∃ (s t : State) (count : Nat), exec (.logDrain none count) s = .next t) ∧
    (∃ (s t : State) (n : Fin 8) (count : Nat), exec (.logDrain (some n) count) s = .next t) ∧
    (∃ (s t : State), exec (.weirSaturated) s = .next t) ∧
    (∃ (s t : State) (m : PtpMessage), exec (.ptpMessage m) s = .next t) ∧
    (∃ (s t : State), exec (.ptpSyncTimeout) s = .next t) ∧
    (∃ (s t : State), exec (.managerLost) s = .next t) ∧
    (∃ (s t : State) (serial : Nat), exec (.heartbeat serial) s = .next t) ∧
    (∃ (s t : State) (path code station st : Nat), exec (.alarmMergeEnd path code station st) s = .next t) ∧
    (∃ (s t : State), exec (.alarmPendingDrain) s = .next t) ∧
    (∃ (s t : State) (member : Fin 64) (x : Alarm), exec (.memberAlarmReceived member x) s = .next t) :=
  ⟨⟨dev, _, 0, rfl⟩,
   ⟨dev, _, 0, rfl⟩,
   ⟨dev, _, 0, rfl⟩,
   ⟨dev, _, 0, 0, 0, rfl⟩,
   ⟨dev, _, 0, 0, 0, 0, rfl⟩,
   ⟨dev, _, 0, 0, 0, 0, [], rfl⟩,
   ⟨dev, _, 0, rfl⟩,
   ⟨dev, _, rfl⟩,
   ⟨dev, _, rfl⟩,
   ⟨dev, _, [], rfl⟩,
   ⟨dev, _, rfl⟩,
   ⟨dev, _, none, rfl⟩,
   ⟨dev, _, 0, rfl⟩,
   ⟨dev, _, 0, 0, rfl⟩,
   ⟨dev, _, 0, rfl⟩,
   ⟨dev, _, 0, 0, 0, rfl⟩,
   ⟨dev, _, 0, rfl⟩,
   ⟨dev, _, 0, rfl⟩,
   ⟨dev, _, 0, rfl⟩,
   ⟨dev, _, 0, 0, rfl⟩,
   ⟨dev, _, 0, rfl⟩,
   ⟨dev, _, 0, 0, rfl⟩,
   ⟨dev, _, rfl⟩,
   ⟨dev, _, 0, rfl⟩,
   ⟨dev, _, 0, [], rfl⟩,
   ⟨dev, _, rfl⟩,
   ⟨dev, _, true, rfl⟩,
   ⟨dev, _, rfl⟩,
   ⟨dev, _, .manager, .wide [], rfl⟩,
   ⟨dev, _, 0, true, rfl⟩,
   ⟨dev, _, 0, rfl⟩,
   ⟨dev, _, 0, 0, rfl⟩,
   ⟨dev, _, rfl⟩,
   ⟨dev, _, .master, rfl⟩,
   ⟨dev, _, rfl⟩,
   ⟨dev, _, rfl⟩,
   ⟨dev, _, 0, rfl⟩,
   ⟨dev, _, 0, 0, 0, 0, rfl⟩,
   ⟨dev, _, rfl⟩,
   ⟨dev, _, 0, ⟨0, 0, 0, 0, 0, 0, 0, 0, 0⟩, rfl⟩⟩

/-! ### The hypotheses of the statements about commands: a state and operands that meet each clause -/

theorem test_ResetSourcesAct_witnesses :
    (∃ (s : State), s.rst.vaon = false) ∧
    (∃ (s : State), (s.noHold) ∧ (s.rst.levels.contains 0 = false)) ∧
    (∃ (s : State), s.rst.vaon = true) ∧
    (∃ (s : State), (s.noHold) ∧ (s.rst.levels.contains 2 = false) ∧ (s.deviceState = 2)) ∧
    (∃ (s : State) (v : Nat) (a : Nat) (b : Nat), (s.rst.vaon = true) ∧ (s.rst.levels.contains 1 = false) ∧ (v < 1700 ∨ a < 1660 ∨ b < 3050)) ∧
    (∃ (s : State) (v : Nat) (a : Nat) (b : Nat), (s.rst.refLost = false) ∧ (1730 ≤ v) ∧ (1690 ≤ a) ∧ (3080 ≤ b)) ∧
    (∃ (v : Nat) (a : Nat) (b : Nat), (1700 ≤ v) ∧ (1660 ≤ a) ∧ (3050 ≤ b) ∧ (v < 1730 ∨ a < 1690 ∨ b < 3080)) ∧
    (∃ (s : State) (l : List Int), (s.noHold) ∧ (s.rst.levels.contains 3 = false) ∧ ((l.any fun x => 115 ≤ x) = true)) ∧
    (∃ (l : List Int), (l.all fun x => x ≤ 100) = true) ∧
    (∃ (s : State), (s.rst.vaon = true) ∧ (s.rst.levels.contains 1 = false)) ∧
    (∃ (s : State), s.rst.brownOut = false) :=
  ⟨⟨State.reset, by decide +kernel⟩,
   ⟨dev, by decide +kernel⟩,
   ⟨dev, by decide +kernel⟩,
   ⟨dev, by decide +kernel⟩,
   ⟨dev, 1699, 1800, 3300, by decide +kernel⟩,
   ⟨dev, 1730, 1690, 3080, by decide +kernel⟩,
   ⟨1729, 1690, 3080, by decide +kernel⟩,
   ⟨dev, [20, 115], by decide +kernel⟩,
   ⟨[20, 100], by decide +kernel⟩,
   ⟨dev, by decide +kernel⟩,
   ⟨dev, by decide +kernel⟩⟩

theorem test_WatchdogsAndHeldResetsAct_witnesses :
    (∃ (s : State), (s.noHold) ∧ (s.deviceState = 2) ∧ (s.rst.inReset.contains .mgmt = false) ∧ (s.powered = true) ∧ (s.upd.mgmtStep = false) ∧ (s.crossings.find (.watchdog 4) = none)) ∧
    (∃ (s : State) (n : Fin 8), (s.noHold) ∧ (s.deviceState = 2) ∧ (s.rst.inReset.contains (.core n) = false) ∧ ((s.ctl n).coreOn = true) ∧ (s.updState ≠ upTrial)) ∧
    (∃ (s : State), (s.noHold) ∧ (s.deviceState = 2) ∧ (s.rst.inReset.contains .sec = false) ∧ (s.secUp = true) ∧ (s.crossings.find (.watchdog 5) = none) ∧ ((s.sec.expiries.filter fun x => decide (s.time < x + 600000000000)).length < 2)) ∧
    (∃ (s : State), (s.noHold) ∧ (s.deviceState = 2) ∧ (s.rst.inReset.contains .sec = false) ∧ (s.secUp = true) ∧ (s.crossings.find (.watchdog 5) = none) ∧ (2 ≤ (s.sec.expiries.filter fun x => decide (s.time < x + 600000000000)).length)) ∧
    (∃ (s : State) (r : ResetReq), (s.rst.held = [r]) ∧ (r.reach = rMgmt)) ∧
    (∃ (s : State) (r : ResetReq) (a : Nat), (s.rst.suspended = [r]) ∧ (s.rst.erase = some a) ∧ (r.reach = rMgmt)) ∧
    (∃ (s : State), (s.rdN Obj.ERASE_SUSPENDED ≠ 0xFFFFFFFF) ∧ (s.isHwReady 4 = true) ∧ (s.hwGated 0 = false) ∧ (s.rst.erase = none)) ∧
    (∃ (s : State) (r : ResetReq) (a : Nat) (l : List (Nat × ResetReq)), (s.noHold) ∧ (s.rst.requested = (a, r) :: l) ∧ (a + 1000000 ≤ s.time) ∧ (r.reach = rMgmt)) ∧
    (∃ (s : State) (x : Crossing) (h : Nat), (s.powered = true) ∧ (s.rst.inReset.contains .mgmt = false) ∧ (s.upd.mgmtStep = false) ∧ (s.crossings.find (.watchdog 4) = some x) ∧ (x.held = some h) ∧ (s.time < x.sentAt + 82)) :=
  ⟨⟨dev, by decide +kernel⟩,
   ⟨dev, 0, by decide +kernel⟩,
   ⟨dev, by decide +kernel⟩,
   ⟨{ dev with sec := { dev.sec with expiries := [dev.time, dev.time] } }, by decide +kernel⟩,
   ⟨{ dev with rst := { dev.rst with held := [⟨4, 3, none, none, false, false, false⟩] } }, ⟨4, 3, none, none, false, false, false⟩, by decide +kernel⟩,
   ⟨{ dev with rst := { dev.rst with suspended := [⟨4, 3, none, none, false, false, false⟩], erase := some 4096 } }, ⟨4, 3, none, none, false, false, false⟩, 4096, by decide +kernel⟩,
   ⟨dev.wr Obj.ERASE_SUSPENDED 4096, by decide +kernel⟩,
   ⟨{ dev with rst := { dev.rst with requested := [(dev.time - 1000000, ⟨12, 3, none, none, false, false, false⟩)] } }, ⟨12, 3, none, none, false, false, false⟩, dev.time - 1000000, [], by decide +kernel⟩,
   ⟨{ dev with crossings := [(.watchdog 4, ⟨dev.time, 0, some 0⟩)] }, ⟨dev.time, 0, some 0⟩, 0, by decide +kernel⟩⟩

theorem test_ResetAndDeviceRequestsAct_witnesses :
    (∃ (s : State) (who : Requester), s.accepts who Obj.RESET_REQUEST (0 * 256 + rCold : Nat)) ∧
    (∃ (s : State) (who : Requester), s.accepts who Obj.RESET_REQUEST (0 * 256 + rWarm : Nat)) ∧
    (∃ (s : State) (who : Requester), s.accepts who Obj.RESET_REQUEST (0 * 256 + rMgmt : Nat)) ∧
    (∃ (s : State) (who : Requester), s.accepts who Obj.RESET_REQUEST (0 * 256 + rSec : Nat)) ∧
    (∃ (s : State) (who : Requester) (p : Fin 2), s.accepts who Obj.RESET_REQUEST (p.val * 256 + rPort : Nat)) ∧
    (∃ (s : State) (who : Requester) (n : Fin 8), s.accepts who Obj.RESET_REQUEST (n.val * 256 + rStation : Nat)) ∧
    (∃ (s : State) (who : Requester) (n : Fin 8), (s.noHold) ∧ (s.accepts who Obj.STATION_RESET 1 n)) ∧
    (∃ (s : State) (who : Requester) (n : Fin 8), (s.noHold) ∧ (s.accepts who Obj.MEM_REINIT 1 n) ∧ (s.stationState n ≠ stOff)) ∧
    (∃ (s : State) (who : Requester), s.accepts who Obj.DEVICE_REQUEST 0) ∧
    (∃ (s : State) (who : Requester), (s.noHold) ∧ (s.accepts who Obj.DEVICE_REQUEST 4) ∧ (s.deviceState = 2)) ∧
    (∃ (s : State) (who : Requester), (s.noHold) ∧ (s.accepts who Obj.DEVICE_REQUEST 5) ∧ (s.deviceState = 4)) :=
  ⟨⟨dev, .host 0, by decide +kernel⟩,
   ⟨dev, .host 0, by decide +kernel⟩,
   ⟨dev, .host 0, by decide +kernel⟩,
   ⟨dev, .host 0, by decide +kernel⟩,
   ⟨dev, .host 0, 1, by decide +kernel⟩,
   ⟨dev, .host 0, 3, by decide +kernel⟩,
   ⟨dev, .host 0, 0, by decide +kernel⟩,
   ⟨dev, .host 0, 0, by decide +kernel⟩,
   ⟨dev, .host 0, by decide +kernel⟩,
   ⟨dev, .host 0, by decide +kernel⟩,
   ⟨dev.wr Obj.DEVICE_STATE 4, .host 0, by decide +kernel⟩⟩

theorem test_DomainsAreReleasedInOrder_witnesses :
    (∃ (s : State) (d : Domain), (s.rst.vaon = true) ∧ (s.sourcesQuiet = true) ∧ (s.rst.release = .idle) ∧ (allDomains.find? (fun d => s.rst.inReset.contains d) = some d)) ∧
    (∃ (s : State) (a : Domain) (d : Domain), (s.rst.release = .gap a) ∧ (s.gapOver a = true) ∧ (allDomains.find? (fun d => s.rst.inReset.contains d) = some d)) ∧
    (∃ (s : State) (d : Domain), (s.rst.release = .step d) ∧ (s.stepEnded d = true)) ∧
    (∃ (s : State), (s.rst.release = .step .trim) ∧ (s.rdN Obj.TRIM_STATE = 0)) ∧
    (∃ (s : State), (s.rst.release = .step .trim) ∧ (s.rdN Obj.TRIM_STATE = 0) ∧ (s.rst.trimFails = 2)) ∧
    (∃ (s : State), (s.rst.inReset.contains .sec = false) ∧ (s.rdN Obj.SEC_STATE = secBooting) ∧ (s.rst.halted = false) ∧ (s.rst.armed ≠ 3) ∧ (s.sec.restarting = false)) ∧
    (∃ (s : State), (s.rst.inReset.contains .sec = false) ∧ (s.rdN Obj.SEC_STATE = secBooting) ∧ (s.rst.halted = false) ∧ (s.rst.armed ≠ 3) ∧ (s.sec.restarting = true)) ∧
    (∃ (s : State), (s.rst.inReset.contains .mgmt = false) ∧ (s.rst.mgmtEnded = false) ∧ (s.rst.secEnded = true) ∧ (s.rst.armed = 0) ∧ (s.upd.mgmtStep = false) ∧ (s.rst.recovery = false) ∧ (s.rst.secImage = true) ∧ (s.deviceState = 1)) ∧
    (∃ (s : State), (s.rst.inReset.contains .mgmt = false) ∧ (s.rst.mgmtEnded = false) ∧ (s.rst.secEnded = true) ∧ (s.rst.armed = 0) ∧ (s.upd.mgmtStep = false)) ∧
    (∃ (s : State) (n : Nat) (l : List Nat), (s.rst.loading = n :: l) ∧ (s.stationState n ≠ stOff)) ∧
    (∃ (s : State), (s.isHwReady 4 = true) ∧ (s.hwGated 0 = false)) ∧
    (∃ (s : State) (k : Fin 3), bit k (s.rdN Obj.HW_PLL_LOCKED) = true) ∧
    (∃ (s : State) (k : Fin 3), (bit k (s.rdN Obj.HW_PLL_LOCKED) = false) ∧ ((k = 0 → s.ports = [] ∧ s.slices = []))) ∧
    (∃ (s : State) (who : Requester) (data : Bytes), (s.served who = true) ∧ (s.checkAccess who Obj.FUSE_MAP_PROGRAM true = none) ∧ (data.length = 17) ∧ (s.deviceState = 3) ∧ (s.rst.sourceFuses = []) ∧ (s.rst.pinFuses = []) ∧ ((∀ e ∈ mapEntries 4 16 (ofLE (data.take 8)), fixedSource e.1 = false))) ∧
    (∃ (s : State), (s.rst.mgmtEnded = true) ∧ (s.rst.inReset.contains .mgmt = false) ∧ (s.isHwReady 4 = false) ∧ (s.hwGated 0 = false) ∧ (s.ports = []) ∧ (s.slices = [])) ∧
    (∃ (s : State) (who : Requester) (n : Fin 8) (on : Bool), (s.accepts who Obj.FUNCTION_GATE (putBit 0 on (s.rdN Obj.FUNCTION_GATE n) : Nat) n) ∧ (s.kindHeld n .zone = false)) ∧
    (∃ (s : State) (who : Requester) (n : Fin 8) (on : Bool), s.accepts who Obj.FUNCTION_GATE (putBit 1 on (s.rdN Obj.FUNCTION_GATE n) : Nat) n) ∧
    (∃ (s : State) (who : Requester) (n : Fin 8) (on : Bool), (s.accepts who Obj.FUNCTION_GATE (putBit 2 on (s.rdN Obj.FUNCTION_GATE n) : Nat) n) ∧ (s.kindHeld n .source = false)) :=
  ⟨⟨{ dev with rst := { dev.rst with wide := [.aon], inReset := [.net, .mgmt] } }, .mgmt, by decide +kernel⟩,
   ⟨({ dev with rst := { dev.rst with release := .gap (.core 0), inReset := [.func 0] }, timers := [(.release, 0)] } : State), .core 0, .func 0, by decide +kernel⟩,
   ⟨{ dev with rst := { dev.rst with release := .step .aon, inReset := [.func 0] } }, .aon, by decide +kernel⟩,
   ⟨{ dev with rst := { dev.rst with release := .step .trim } }, by decide +kernel⟩,
   ⟨{ dev with rst := { dev.rst with release := .step .trim, trimFails := 2 } }, by decide +kernel⟩,
   ⟨(dev.wr Obj.SEC_STATE secBooting), by decide +kernel⟩,
   ⟨{ (dev.wr Obj.SEC_STATE secBooting) with sec := { dev.sec with restarting := true } }, by decide +kernel⟩,
   ⟨{ dev.wr Obj.DEVICE_STATE 1 with rst := { dev.rst with mgmtEnded := false, secEnded := true, secImage := true } }, by decide +kernel⟩,
   ⟨{ dev.wr Obj.DEVICE_STATE 1 with rst := { dev.rst with mgmtEnded := false, secEnded := true } }, by decide +kernel⟩,
   ⟨{ dev with rst := { dev.rst with loading := [0, 2] } }, 0, [2], by decide +kernel⟩,
   ⟨{ dev.wr Obj.STATION_STATE 1 with stn := [(0, { coreOn := true, functionsOn := true })] }, by decide +kernel⟩,
   ⟨dev.wr Obj.HW_PLL_LOCKED 63, 1, by decide +kernel⟩,
   ⟨dev.wr Obj.HW_PLL_LOCKED 61, 1, by decide +kernel⟩,
   ⟨dev.wr Obj.DEVICE_STATE 3, .host 0, toLE 17 0x20000, by decide +kernel⟩,
   ⟨{ dev.wr Obj.READY_HEADWORKS 7 with rst := { dev.rst with mgmtEnded := true } }, by decide +kernel⟩,
   ⟨dev, .host 0, 0, true, by decide +kernel⟩,
   ⟨dev, .host 0, 0, true, by decide +kernel⟩,
   ⟨dev, .host 0, 0, true, by decide +kernel⟩⟩

theorem test_StationsChangeState_witnesses :
    (∃ (s : State) (who : Requester) (n : Fin 8), (s.accepts who Obj.STATION_TARGET 0 n) ∧ (s.anyHeld n = false) ∧ (s.stationState n ≠ stOff) ∧ (¬ (s.stationState n = stStarting ∧ s.changedNow n = true))) ∧
    (∃ (s : State) (who : Requester) (n : Fin 8), (s.accepts who Obj.STATION_TARGET 2 n) ∧ (s.stationState n = stOff)) ∧
    (∃ (s : State) (who : Requester) (n : Fin 8), (s.accepts who Obj.STATION_TARGET 2 n) ∧ (s.stationState n = stSleep) ∧ ((s.ctl n).moving = none)) ∧
    (∃ (s : State) (who : Requester) (n : Fin 8), (s.accepts who Obj.STATION_TARGET 3 n) ∧ (s.anyHeld n = false) ∧ (s.stationState n = stRunning) ∧ ((s.ctl n).moving = none)) ∧
    (∃ (s : State) (n : Fin 8), (s.stationState n = stStarting) ∧ (s.rdN Obj.MEM_STATE n = 2) ∧ ((s.ctl n).coreOn = true) ∧ ((s.ctl n).image = true) ∧ ((s.ctl n).functionsOn = true) ∧ (s.rdN Obj.STATION_TARGET n = 2)) ∧
    (∃ (s : State) (n : Fin 8), ((s.ctl n).moving = some true) ∧ ((s.ctl n).thenOther = false) ∧ (s.stationState n = stRunning) ∧ (s.memoryQuiet n = true)) ∧
    (∃ (s : State) (n : Fin 8), ((s.ctl n).moving = some false) ∧ ((s.ctl n).thenOther = false) ∧ (s.stationState n = stSleep) ∧ (s.memoryQuiet n = true)) ∧
    (∃ (s : State) (n : Fin 8), s.stationState n = stRunning ∨ s.stationState n = stSleep) ∧
    (∃ (s : State) (n : Fin 8) (k : Fin 8), (s.stationState n = stRunning) ∧ (s.pllStopped n k = false) ∧ (bit k (s.rdN Obj.PLL_LOCKED n) = true)) :=
  ⟨⟨dev, .host 0, 0, by decide +kernel⟩,
   ⟨dev, .host 0, 1, by decide +kernel⟩,
   ⟨(State.wr dev Obj.STATION_STATE 3), .host 0, 0, by decide +kernel⟩,
   ⟨dev, .host 0, 0, by decide +kernel⟩,
   ⟨(State.wr (State.wr dev Obj.STATION_STATE 1) Obj.STATION_TARGET 2), 0, by decide +kernel⟩,
   ⟨{ dev with stn := [(0, { coreOn := true, functionsOn := true, moving := some true })] }, 0, by decide +kernel⟩,
   ⟨{ (State.wr dev Obj.STATION_STATE 3) with stn := [(0, { coreOn := true, functionsOn := true, moving := some false })] }, 0, by decide +kernel⟩,
   ⟨dev, 0, by decide +kernel⟩,
   ⟨(State.wr dev Obj.PLL_LOCKED 255), 0, 2, by decide +kernel⟩⟩

theorem test_MemoryControllersAct_witnesses :
    (∃ (s : State) (n : Fin 8), (s.refreshing n = true) ∧ ((s.mmc n).refreshedAt + (s.mmc n).tRefi ≤ s.time)) ∧
    (∃ (s : State) (n : Fin 8), s.rdN Obj.MEM_STATE n = 2 ∨ s.rdN Obj.MEM_STATE n = 4) ∧
    (∃ (s : State) (n : Fin 8), ((s.mmc n).trainedAt + s.rdN Obj.RETRAIN_INTERVAL_MS n * 1000000 ≤ s.time) ∧ (s.rdN Obj.MEM_STATE n = 2) ∧ ((s.mmc n).retraining = none) ∧ ((s.mmc n).dueAt = none)) ∧
    (∃ (s : State) (n : Fin 8), (s.rdN Obj.MEM_STATE n = 2) ∧ (s.retrainPlace n = true)) ∧
    (∃ (s : State) (n : Fin 8) (r : Retraining), ((s.mmc n).retraining = some r) ∧ ((s.mmc n).wakeRetrain = false)) ∧
    (∃ (s : State) (n : Fin 8) (k : Nat), ((s.mmc n).training = some k) ∧ ((s.mmc n).eccOn = false)) ∧
    (∃ (s : State) (n : Fin 8) (k : Nat), ((s.mmc n).training = some k) ∧ ((s.mmc n).eccOn = true)) ∧
    (∃ (s : State) (n : Fin 8), (s.mmc n).filling = true) ∧
    (∃ (s : State) (n : Fin 8) (addr : Nat), (s.eccChecks n (addr / 8 * 8) = true) ∧ (addr / 8 * 8 < s.usableBytes n) ∧ (s.rdN Obj.MEM_STATE n = 2) ∧ (s.poison.contains (cellOf n (addr / 8 * 8) / 8) = false)) ∧
    (∃ (s : State) (n : Fin 8) (addr : Nat), (s.eccChecks n (addr / 8 * 8) = true) ∧ (addr / 8 * 8 < s.usableBytes n) ∧ (s.rdN Obj.MEM_STATE n = 2)) ∧
    (∃ (s : State) (n : Fin 8) (cls : Nat) (since : Nat), (cls = 4 ∨ cls = 5) ∧ (since + 20000 ≤ s.time) ∧ (s.rdN Obj.MEM_STATE n = 2)) :=
  ⟨⟨dev, 0, by decide +kernel⟩,
   ⟨dev, 0, by decide +kernel⟩,
   ⟨{ dev with time := 10 ^ 15 }, 0, by decide +kernel⟩,
   ⟨{ dev with memc := [(0, { dueAt := some 5 })] }, 0, by decide +kernel⟩,
   ⟨{ dev with memc := [(0, { retraining := some ⟨2, 7⟩ })] }, 0, ⟨2, 7⟩, by decide +kernel⟩,
   ⟨{ dev with memc := [(0, { training := some 1 })] }, 0, 1, by decide +kernel⟩,
   ⟨{ dev with memc := [(0, { training := some 1, eccOn := true })] }, 0, 1, by decide +kernel⟩,
   ⟨{ dev with memc := [(0, { filling := true, eccOn := true })] }, 0, by decide +kernel⟩,
   ⟨{ dev with memc := [(0, { eccOn := true })] }, 0, 64, by decide +kernel⟩,
   ⟨{ dev with memc := [(0, { eccOn := true })] }, 0, 64, by decide +kernel⟩,
   ⟨dev, 0, 4, 7, by decide +kernel⟩⟩

theorem test_JobsAreTakenAndQueued_witnesses :
    (∃ (s : State) (n : Fin 8) (d : Descriptor) (rest : List Descriptor), (s.ingress.getD n [] = d :: rest) ∧ ((s.ras n).jobs.length < 1024) ∧ (s.stationState n = stRunning) ∧ ((s.ctl n).coreOn = true) ∧ (s.descriptorOk n (ofLE d.data) = true) ∧ ((∀ f ∈ (jobOf 0 (ofLE d.data)).fenceWait.toList, s.inside (.tenant (jobOf 0 (ofLE d.data)).tenant) n 1 f.1 8 = true))) ∧
    (∃ (s : State) (n : Fin 8) (key : Nat) (j : Job), (s.job? n key = some j) ∧ (j.phase = .taken) ∧ (j.jtype = jtNop) ∧ (j.payloadSize = 0) ∧ (j.fenceWait ≠ none)) ∧
    (∃ (s : State) (n : Fin 8) (key : Nat) (j : Job), (s.job? n key = some j) ∧ (j.phase = .taken) ∧ (j.jtype = jtNop) ∧ (j.payloadSize = 0) ∧ (j.fenceWait = none)) ∧
    (∃ (s : State) (n : Fin 8) (key : Nat) (j : Job), ((s.ras n).jobs = [j]) ∧ (j.key = key) ∧ (j.phase = .taken) ∧ (j.jtype = jtNop) ∧ (j.payloadSize = 0) ∧ (j.fenceWait = none)) ∧
    (∃ (s : State) (n : Fin 8) (key : Nat) (j : Job) (h : Bytes) (b : Bytes) (list : Bytes), (s.job? n key = some j) ∧ (j.phase = .taken) ∧ (j.jtype = jtRender) ∧ (s.jobRead n j.tenant j.payloadAddr 64 = some h) ∧ (renderHeadOk h j.payloadSize = true) ∧ (s.jobRead n j.tenant (j.payloadAddr + 64) (32 * renderCount h) = some b) ∧ (s.jobRead n j.tenant (fieldLE h 0x18 8) (fieldLE h 0x14 4) = some list) ∧ (renderAttsOk h (renderAtts (renderCount h) b) = true) ∧ (tablesOverlap (renderAtts (renderCount h) b) (fieldLE h 0 2) (fieldLE h 2 2) = false) ∧ (({ j with atts := renderAtts (renderCount h) b, width := fieldLE h 0 2, height := fieldLE h 2 2 } : Job).depthScratch < fieldLE h 0x10 4) ∧ (((renderAtts (renderCount h) b).map fun a => a.bps * a.samples).sum ≤ 256) ∧ (j.fenceWait ≠ none)) ∧
    (∃ (s : State) (n : Fin 8) (key : Nat) (j : Job) (h : Bytes) (b : Bytes) (list : Bytes), (s.job? n key = some j) ∧ (j.phase = .taken) ∧ (j.jtype = jtRender) ∧ (s.jobRead n j.tenant j.payloadAddr 64 = some h) ∧ (renderHeadOk h j.payloadSize = true) ∧ (s.jobRead n j.tenant (j.payloadAddr + 64) (32 * renderCount h) = some b) ∧ (s.jobRead n j.tenant (fieldLE h 0x18 8) (fieldLE h 0x14 4) = some list) ∧ (renderAttsOk h (renderAtts (renderCount h) b) = true) ∧ (tablesOverlap (renderAtts (renderCount h) b) (fieldLE h 0 2) (fieldLE h 2 2) = false) ∧ (({ j with atts := renderAtts (renderCount h) b, width := fieldLE h 0 2, height := fieldLE h 2 2 } : Job).depthScratch < fieldLE h 0x10 4) ∧ (((renderAtts (renderCount h) b).map fun a => a.bps * a.samples).sum ≤ 256) ∧ (j.fenceWait = none)) ∧
    (∃ (s : State) (n : Fin 8) (key : Nat) (j : Job) (d : DispatchRecord) (h : Bytes) (sets : FMap Nat (List BindingEntry)), (s.job? n key = some j) ∧ (j.phase = .taken) ∧ (j.jtype = jtCompute) ∧ (j.payloadSize = 64) ∧ (s.jobRead n j.tenant j.payloadAddr 64 = some h) ∧ (d.ok = true) ∧ (s.readSets n j.tenant d.sets = .got sets) ∧ ((∀ p ∈ d.push.toList, s.readPush n j.tenant p = .got p)) ∧ (j.fenceWait ≠ none)) ∧
    (∃ (s : State) (n : Fin 8) (key : Nat) (j : Job) (d : DispatchRecord) (h : Bytes) (sets : FMap Nat (List BindingEntry)), (s.job? n key = some j) ∧ (j.phase = .taken) ∧ (j.jtype = jtCompute) ∧ (j.payloadSize = 64) ∧ (s.jobRead n j.tenant j.payloadAddr 64 = some h) ∧ (d.ok = true) ∧ (s.readSets n j.tenant d.sets = .got sets) ∧ ((∀ p ∈ d.push.toList, s.readPush n j.tenant p = .got p)) ∧ (j.fenceWait = none)) ∧
    (∃ (s : State) (n : Fin 8) (key : Nat) (j : Job) (r : PipelineRecord) (b : Bytes), (s.job? n key = some j) ∧ (j.phase = .taken) ∧ (j.jtype = jtLoad) ∧ (r.stages.length = 1 ∨ r.stages.length = 2) ∧ (j.payloadSize = pipelineRecordSize r.stages.length) ∧ (s.jobRead n j.tenant j.payloadAddr j.payloadSize = some b) ∧ (j.fenceWait ≠ none)) ∧
    (∃ (s : State) (n : Fin 8) (key : Nat) (j : Job) (r : PipelineRecord) (b : Bytes), (s.job? n key = some j) ∧ (j.phase = .taken) ∧ (j.jtype = jtLoad) ∧ (r.stages.length = 1 ∨ r.stages.length = 2) ∧ (j.payloadSize = pipelineRecordSize r.stages.length) ∧ (s.jobRead n j.tenant j.payloadAddr j.payloadSize = some b) ∧ (j.fenceWait = none)) ∧
    (∃ (s : State) (n : Fin 8) (key : Nat) (j : Job) (r : PipelineRecord) (b : Bytes) (modules : List Bytes), ((s.ras n).jobs = [j]) ∧ (j.key = key) ∧ (j.phase = .taken) ∧ (j.jtype = jtLoad) ∧ (r.stages.length = 1 ∨ r.stages.length = 2) ∧ (j.payloadSize = pipelineRecordSize r.stages.length) ∧ (s.jobRead n j.tenant j.payloadAddr j.payloadSize = some b) ∧ (j.fenceWait = none) ∧ ((∀ e ∈ r.stages, e.size ≤ 4 * 2 ^ 20)) ∧ (s.readModules n j.tenant r = some modules)) ∧
    (∃ (s : State) (n : Fin 8) (key : Nat) (j : Job) (b : Bytes), (s.job? n key = some j) ∧ (j.phase = .taken) ∧ (j.jtype = jtDrop) ∧ (j.payloadSize = 4) ∧ (s.jobRead n j.tenant j.payloadAddr 4 = some b) ∧ (j.fenceWait ≠ none)) ∧
    (∃ (s : State) (n : Fin 8) (key : Nat) (j : Job) (b : Bytes), (s.job? n key = some j) ∧ (j.phase = .taken) ∧ (j.jtype = jtDrop) ∧ (j.payloadSize = 4) ∧ (s.jobRead n j.tenant j.payloadAddr 4 = some b) ∧ (j.fenceWait = none)) ∧
    (∃ (s : State) (n : Fin 8) (key : Nat) (j : Job) (handle : Nat) (b : Bytes) (e : CacheEntry), ((s.ras n).jobs = [j]) ∧ (j.key = key) ∧ (j.phase = .taken) ∧ (j.jtype = jtDrop) ∧ (j.payloadSize = 4) ∧ (s.jobRead n j.tenant j.payloadAddr 4 = some b) ∧ (j.fenceWait = none) ∧ (s.pipe n j.tenant handle = some e)) ∧
    (∃ (s : State) (n : Fin 8) (key : Nat) (j : Job) (a : Nat) (v : Nat) (b : Bytes), (s.job? n key = some j) ∧ (j.phase = .fenceWait) ∧ (j.fenceWait = some (a, v)) ∧ (s.jobRead n j.tenant a 8 = some b) ∧ (v ≤ ofLE b)) :=
  ⟨⟨{ dev with ingress := [(0, [⟨5, 0, toLE 64 (2 ^ 28 + 5 * 2 ^ 12 + 255 * 2 ^ 72)⟩])] }, 0, ⟨5, 0, toLE 64 (2 ^ 28 + 5 * 2 ^ 12 + 255 * 2 ^ 72)⟩, [], by decide +kernel⟩,
   ⟨(withJobs [{ job0 with payloadSize := 0, fenceWait := some (0x10000000, 7) }]), 0, 0, { job0 with payloadSize := 0, fenceWait := some (0x10000000, 7) }, by decide +kernel⟩,
   ⟨(withJobs [{ job0 with payloadSize := 0 }]), 0, 0, { job0 with payloadSize := 0 }, by decide +kernel⟩,
   ⟨(withJobs [{ job0 with payloadSize := 0 }]), 0, 0, { job0 with payloadSize := 0 }, by decide +kernel⟩,
   ⟨((withJobs [{ job0 with jtype := 1, payloadSize := 96, fenceWait := some (0x10000000, 7) }]).store 0 0x10000000 (toLE 2 64 ++ toLE 2 64 ++ [1, 0] ++ toLE 2 0 ++ toLE 8 0x10000000 ++ toLE 4 0x100000 ++ toLE 4 32 ++ toLE 8 0x10000200 ++ List.replicate 32 0 ++ toLE 32 (2 ^ 120 + 256 * 2 ^ 64 + 0x10001000))), 0, 0, { job0 with jtype := 1, payloadSize := 96, fenceWait := some (0x10000000, 7) }, toLE 2 64 ++ toLE 2 64 ++ [1, 0] ++ toLE 2 0 ++ toLE 8 0x10000000 ++ toLE 4 0x100000 ++ toLE 4 32 ++ toLE 8 0x10000200 ++ List.replicate 32 0, toLE 32 (2 ^ 120 + 256 * 2 ^ 64 + 0x10001000), List.replicate 32 0, by decide +kernel⟩,
   ⟨((withJobs [{ job0 with jtype := 1, payloadSize := 96 }]).store 0 0x10000000 (toLE 2 64 ++ toLE 2 64 ++ [1, 0] ++ toLE 2 0 ++ toLE 8 0x10000000 ++ toLE 4 0x100000 ++ toLE 4 32 ++ toLE 8 0x10000200 ++ List.replicate 32 0 ++ toLE 32 (2 ^ 120 + 256 * 2 ^ 64 + 0x10001000))), 0, 0, { job0 with jtype := 1, payloadSize := 96 }, toLE 2 64 ++ toLE 2 64 ++ [1, 0] ++ toLE 2 0 ++ toLE 8 0x10000000 ++ toLE 4 0x100000 ++ toLE 4 32 ++ toLE 8 0x10000200 ++ List.replicate 32 0, toLE 32 (2 ^ 120 + 256 * 2 ^ 64 + 0x10001000), List.replicate 32 0, by decide +kernel⟩,
   ⟨(withJobs [{ job0 with jtype := 2, fenceWait := some (0x10000000, 7) }]), 0, 0, { job0 with jtype := 2, fenceWait := some (0x10000000, 7) }, { handle := 7, sets := [⟨1, 0x10000100, 1⟩], push := some (0x10000200, 16), x := 2, y := 1, z := 1 }, List.replicate 64 0, [(1, [bindingOf (List.replicate 32 0)])], by decide +kernel⟩,
   ⟨(withJobs [{ job0 with jtype := 2 }]), 0, 0, { job0 with jtype := 2 }, { handle := 7, sets := [⟨1, 0x10000100, 1⟩], push := some (0x10000200, 16), x := 2, y := 1, z := 1 }, List.replicate 64 0, [(1, [bindingOf (List.replicate 32 0)])], by decide +kernel⟩,
   ⟨(withJobs [{ job0 with jtype := 3, payloadSize := 124, fenceWait := some (0x10000000, 7) }]), 0, 0, { job0 with jtype := 3, payloadSize := 124, fenceWait := some (0x10000000, 7) }, { handle := 7, stages := [{ addr := 0x10000400, size := 64 }] }, List.replicate 124 0, by decide +kernel⟩,
   ⟨(withJobs [{ job0 with jtype := 3, payloadSize := 124 }]), 0, 0, { job0 with jtype := 3, payloadSize := 124 }, { handle := 7, stages := [{ addr := 0x10000400, size := 64 }] }, List.replicate 124 0, by decide +kernel⟩,
   ⟨(withJobs [{ job0 with jtype := 3, payloadSize := 124 }]), 0, 0, { job0 with jtype := 3, payloadSize := 124 }, { handle := 7, stages := [{ addr := 0x10000400, size := 64 }] }, List.replicate 124 0, [List.replicate 64 0], by decide +kernel⟩,
   ⟨(withJobs [{ job0 with jtype := 4, payloadSize := 4, fenceWait := some (0x10000000, 7) }]), 0, 0, { job0 with jtype := 4, payloadSize := 4, fenceWait := some (0x10000000, 7) }, List.replicate 4 0, by decide +kernel⟩,
   ⟨(withJobs [{ job0 with jtype := 4, payloadSize := 4 }]), 0, 0, { job0 with jtype := 4, payloadSize := 4 }, List.replicate 4 0, by decide +kernel⟩,
   ⟨(dev.setRas 0 { jobs := [{ job0 with jtype := 4, payloadSize := 4 }], nextKey := 10, cache := [{ tenant := 5, handle := 7, sizeKib := 1, version := 0, lastUse := 0 }] }), 0, 0, { job0 with jtype := 4, payloadSize := 4 }, 7, List.replicate 4 0, { tenant := 5, handle := 7, sizeKib := 1, version := 0, lastUse := 0 }, by decide +kernel⟩,
   ⟨(withJobs [{ job0 with phase := .fenceWait, fenceWait := some (0x10000000, 0) }]), 0, 0, { job0 with phase := .fenceWait, fenceWait := some (0x10000000, 0) }, 0x10000000, 0, List.replicate 8 0, by decide +kernel⟩⟩

theorem test_DrawListsBindState_witnesses :
    (∃ (s : State) (n : Fin 8) (key : Nat) (j : Job) (b : Bytes), (s.binding n key = some j) ∧ (s.jobRead n j.tenant (j.drawAddr + j.draw.offset) 32 = some b) ∧ (byteAt b 0 = 0)) ∧
    (∃ (s : State) (n : Fin 8) (key : Nat) (j : Job) (b : Bytes), (s.binding n key = some j) ∧ (s.jobRead n j.tenant (j.drawAddr + j.draw.offset) 32 = some b) ∧ (byteAt b 0 = 1) ∧ ((s.pipeOf n j (fieldLE b 4 4)).isSome = true)) ∧
    (∃ (s : State) (n : Fin 8) (key : Nat) (j : Job) (b : Bytes) (es : List BindingEntry), (s.binding n key = some j) ∧ (s.jobRead n j.tenant (j.drawAddr + j.draw.offset) 32 = some b) ∧ (byteAt b 0 = 2) ∧ (byteAt b 4 ≤ 7) ∧ (s.readSet n j.tenant ⟨byteAt b 4, fieldLE b 5 8, fieldLE b 13 2⟩ = .got es)) ∧
    (∃ (s : State) (n : Fin 8) (key : Nat) (j : Job) (b : Bytes), (s.binding n key = some j) ∧ (s.jobRead n j.tenant (j.drawAddr + j.draw.offset) 32 = some b) ∧ (byteAt b 0 = 3) ∧ (4 ≤ fieldLE b 12 2) ∧ (fieldLE b 12 2 ≤ 256) ∧ ((s.jobRead n j.tenant (fieldLE b 4 8) (fieldLE b 12 2)).isSome = true)) ∧
    (∃ (s : State) (n : Fin 8) (key : Nat) (j : Job) (b : Bytes), (s.binding n key = some j) ∧ (s.jobRead n j.tenant (j.drawAddr + j.draw.offset) 32 = some b) ∧ (byteAt b 0 = 4) ∧ (byteAt b 4 ≤ 15)) ∧
    (∃ (s : State) (n : Fin 8) (key : Nat) (j : Job) (b : Bytes), (s.binding n key = some j) ∧ (s.jobRead n j.tenant (j.drawAddr + j.draw.offset) 32 = some b) ∧ (byteAt b 0 = 5) ∧ (byteAt b 16 = 16 ∨ byteAt b 16 = 32)) ∧
    (∃ (s : State) (n : Fin 8) (key : Nat) (j : Job) (b : Bytes) (h : Nat) (p : Nat) (e : CacheEntry), (s.binding n key = some j) ∧ (s.jobRead n j.tenant (j.drawAddr + j.draw.offset) 32 = some b) ∧ (byteAt b 0 = 6) ∧ (j.draw.pipeline = some h) ∧ (s.pipeOf n j h = some e) ∧ (p = primsOf e.fixed.topology (fieldLE b 4 4) * fieldLE b 8 4)) ∧
    (∃ (s : State) (n : Fin 8) (key : Nat) (j : Job) (b : Bytes) (h : Nat) (p : Nat) (e : CacheEntry) (a : Nat) (c : Nat) (w : Nat), (s.binding n key = some j) ∧ (s.jobRead n j.tenant (j.drawAddr + j.draw.offset) 32 = some b) ∧ (byteAt b 0 = 7) ∧ (j.draw.pipeline = some h) ∧ (s.pipeOf n j h = some e) ∧ (j.draw.index = some (a, c, w)) ∧ ((s.jobRead n j.tenant (a + fieldLE b 12 4 * (w / 8)) (fieldLE b 4 4 * (w / 8))).isSome = true) ∧ (p = primsOf e.fixed.topology (fieldLE b 4 4) * fieldLE b 8 4)) ∧
    (∃ (s : State) (n : Fin 8) (key : Nat) (j : Job) (b : Bytes) (h : Nat) (p : Nat) (e : CacheEntry) (args : Bytes), (s.binding n key = some j) ∧ (s.jobRead n j.tenant (j.drawAddr + j.draw.offset) 32 = some b) ∧ (byteAt b 0 = 8) ∧ (byteAt b 16 = 0) ∧ (s.jobRead n j.tenant (fieldLE b 4 8) (fieldLE b 12 4 * 16) = some args) ∧ (j.draw.pipeline = some h) ∧ (s.pipeOf n j h = some e) ∧ (p = ((List.range (fieldLE b 12 4)).map fun k => primsOf e.fixed.topology (fieldLE args (16 * k) 4) * fieldLE args (16 * k + 4) 4).sum)) ∧
    (∃ (s : State) (n : Fin 8) (key : Nat) (j : Job) (b : Bytes) (h : Nat) (p : Nat) (e : CacheEntry) (a : Nat) (c : Nat) (w : Nat) (args : Bytes), (s.binding n key = some j) ∧ (s.jobRead n j.tenant (j.drawAddr + j.draw.offset) 32 = some b) ∧ (byteAt b 0 = 8) ∧ (byteAt b 16 = 1) ∧ (s.jobRead n j.tenant (fieldLE b 4 8) (fieldLE b 12 4 * 20) = some args) ∧ (j.draw.pipeline = some h) ∧ (s.pipeOf n j h = some e) ∧ (j.draw.index = some (a, c, w)) ∧ ((∀ k ∈ List.range (fieldLE b 12 4), (s.jobRead n j.tenant (a + fieldLE args (20 * k + 8) 4 * (w / 8)) (fieldLE args (20 * k) 4 * (w / 8))).isSome = true)) ∧ (p = ((List.range (fieldLE b 12 4)).map fun k => primsOf e.fixed.topology (fieldLE args (20 * k) 4) * fieldLE args (20 * k + 4) 4).sum)) ∧
    (∃ (s : State) (n : Fin 8) (key : Nat) (j : Job) (b : Bytes), (s.binding n key = some j) ∧ (s.jobRead n j.tenant (j.drawAddr + j.draw.offset) 32 = some b) ∧ (byteAt b 0 = 9)) ∧
    (∃ (s : State) (n : Fin 8) (key : Nat) (j : Job) (b : Bytes), (s.binding n key = some j) ∧ (s.jobRead n j.tenant (j.drawAddr + j.draw.offset) 32 = some b) ∧ (byteAt b 0 = 10)) :=
  ⟨⟨((dev.setRas 0 { jobs := [{ job0 with jtype := 1, phase := .admitted, readyAt := some 1, drawAddr := 0x10000100, drawSize := 64 }], nextKey := 10, cache := [{ tenant := 5, handle := 7, sizeKib := 1, version := 0, lastUse := 0 }] }).store 0 0x10000100 (List.replicate 32 0)), 0, 0, { job0 with jtype := 1, phase := .admitted, readyAt := some 1, drawAddr := 0x10000100, drawSize := 64 }, (List.replicate 32 0), by decide +kernel⟩,
   ⟨((dev.setRas 0 { jobs := [{ job0 with jtype := 1, phase := .admitted, readyAt := some 1, drawAddr := 0x10000100, drawSize := 64 }], nextKey := 10, cache := [{ tenant := 5, handle := 7, sizeKib := 1, version := 0, lastUse := 0 }] }).store 0 0x10000100 (toLE 4 1 ++ toLE 28 7)), 0, 0, { job0 with jtype := 1, phase := .admitted, readyAt := some 1, drawAddr := 0x10000100, drawSize := 64 }, (toLE 4 1 ++ toLE 28 7), by decide +kernel⟩,
   ⟨((dev.setRas 0 { jobs := [{ job0 with jtype := 1, phase := .admitted, readyAt := some 1, drawAddr := 0x10000100, drawSize := 64 }], nextKey := 10, cache := [{ tenant := 5, handle := 7, sizeKib := 1, version := 0, lastUse := 0 }] }).store 0 0x10000100 (toLE 4 2 ++ [3] ++ toLE 8 0x10000400 ++ toLE 19 1)), 0, 0, { job0 with jtype := 1, phase := .admitted, readyAt := some 1, drawAddr := 0x10000100, drawSize := 64 }, (toLE 4 2 ++ [3] ++ toLE 8 0x10000400 ++ toLE 19 1), [bindingOf (List.replicate 32 0)], by decide +kernel⟩,
   ⟨((dev.setRas 0 { jobs := [{ job0 with jtype := 1, phase := .admitted, readyAt := some 1, drawAddr := 0x10000100, drawSize := 64 }], nextKey := 10, cache := [{ tenant := 5, handle := 7, sizeKib := 1, version := 0, lastUse := 0 }] }).store 0 0x10000100 (toLE 4 3 ++ toLE 8 0x10000400 ++ toLE 20 16)), 0, 0, { job0 with jtype := 1, phase := .admitted, readyAt := some 1, drawAddr := 0x10000100, drawSize := 64 }, (toLE 4 3 ++ toLE 8 0x10000400 ++ toLE 20 16), by decide +kernel⟩,
   ⟨((dev.setRas 0 { jobs := [{ job0 with jtype := 1, phase := .admitted, readyAt := some 1, drawAddr := 0x10000100, drawSize := 64 }], nextKey := 10, cache := [{ tenant := 5, handle := 7, sizeKib := 1, version := 0, lastUse := 0 }] }).store 0 0x10000100 (toLE 4 4 ++ [2] ++ toLE 8 0x10000400 ++ toLE 19 64)), 0, 0, { job0 with jtype := 1, phase := .admitted, readyAt := some 1, drawAddr := 0x10000100, drawSize := 64 }, (toLE 4 4 ++ [2] ++ toLE 8 0x10000400 ++ toLE 19 64), by decide +kernel⟩,
   ⟨((dev.setRas 0 { jobs := [{ job0 with jtype := 1, phase := .admitted, readyAt := some 1, drawAddr := 0x10000100, drawSize := 64 }], nextKey := 10, cache := [{ tenant := 5, handle := 7, sizeKib := 1, version := 0, lastUse := 0 }] }).store 0 0x10000100 (toLE 4 5 ++ toLE 8 0x10000400 ++ toLE 4 64 ++ toLE 16 16)), 0, 0, { job0 with jtype := 1, phase := .admitted, readyAt := some 1, drawAddr := 0x10000100, drawSize := 64 }, (toLE 4 5 ++ toLE 8 0x10000400 ++ toLE 4 64 ++ toLE 16 16), by decide +kernel⟩,
   ⟨((dev.setRas 0 { jobs := [{ job0 with jtype := 1, phase := .admitted, readyAt := some 1, drawAddr := 0x10000100, drawSize := 64, draw := { pipeline := some 7 } }], nextKey := 10, cache := [{ tenant := 5, handle := 7, sizeKib := 1, version := 0, lastUse := 0 }] }).store 0 0x10000100 (toLE 4 6 ++ toLE 4 6 ++ toLE 24 2)), 0, 0, { job0 with jtype := 1, phase := .admitted, readyAt := some 1, drawAddr := 0x10000100, drawSize := 64, draw := { pipeline := some 7 } }, (toLE 4 6 ++ toLE 4 6 ++ toLE 24 2), 7, 4, { tenant := 5, handle := 7, sizeKib := 1, version := 0, lastUse := 0 }, by decide +kernel⟩,
   ⟨((dev.setRas 0 { jobs := [{ job0 with jtype := 1, phase := .admitted, readyAt := some 1, drawAddr := 0x10000100, drawSize := 64, draw := { pipeline := some 7, index := some (0x10000400, 64, 16) } }], nextKey := 10, cache := [{ tenant := 5, handle := 7, sizeKib := 1, version := 0, lastUse := 0 }] }).store 0 0x10000100 (toLE 4 7 ++ toLE 4 6 ++ toLE 24 2)), 0, 0, { job0 with jtype := 1, phase := .admitted, readyAt := some 1, drawAddr := 0x10000100, drawSize := 64, draw := { pipeline := some 7, index := some (0x10000400, 64, 16) } }, (toLE 4 7 ++ toLE 4 6 ++ toLE 24 2), 7, 4, { tenant := 5, handle := 7, sizeKib := 1, version := 0, lastUse := 0 }, 0x10000400, 64, 16, by decide +kernel⟩,
   ⟨(((dev.setRas 0 { jobs := [{ job0 with jtype := 1, phase := .admitted, readyAt := some 1, drawAddr := 0x10000100, drawSize := 64, draw := { pipeline := some 7 } }], nextKey := 10, cache := [{ tenant := 5, handle := 7, sizeKib := 1, version := 0, lastUse := 0 }] }).store 0 0x10000100 (toLE 4 8 ++ toLE 8 0x10000400 ++ toLE 20 1)).store 0 0x10000400 (toLE 4 6 ++ toLE 4 2 ++ toLE 8 0)), 0, 0, { job0 with jtype := 1, phase := .admitted, readyAt := some 1, drawAddr := 0x10000100, drawSize := 64, draw := { pipeline := some 7 } }, (toLE 4 8 ++ toLE 8 0x10000400 ++ toLE 20 1), 7, 4, { tenant := 5, handle := 7, sizeKib := 1, version := 0, lastUse := 0 }, toLE 4 6 ++ toLE 4 2 ++ toLE 8 0, by decide +kernel⟩,
   ⟨(((dev.setRas 0 { jobs := [{ job0 with jtype := 1, phase := .admitted, readyAt := some 1, drawAddr := 0x10000100, drawSize := 64, draw := { pipeline := some 7, index := some (0x10000400, 64, 16) } }], nextKey := 10, cache := [{ tenant := 5, handle := 7, sizeKib := 1, version := 0, lastUse := 0 }] }).store 0 0x10000100 (toLE 4 8 ++ toLE 8 0x10000400 ++ toLE 4 1 ++ toLE 16 1)).store 0 0x10000400 (toLE 4 6 ++ toLE 4 1 ++ toLE 12 0)), 0, 0, { job0 with jtype := 1, phase := .admitted, readyAt := some 1, drawAddr := 0x10000100, drawSize := 64, draw := { pipeline := some 7, index := some (0x10000400, 64, 16) } }, (toLE 4 8 ++ toLE 8 0x10000400 ++ toLE 4 1 ++ toLE 16 1), 7, 2, { tenant := 5, handle := 7, sizeKib := 1, version := 0, lastUse := 0 }, 0x10000400, 64, 16, toLE 4 6 ++ toLE 4 1 ++ toLE 12 0, by decide +kernel⟩,
   ⟨((dev.setRas 0 { jobs := [{ job0 with jtype := 1, phase := .admitted, readyAt := some 1, drawAddr := 0x10000100, drawSize := 64 }], nextKey := 10, cache := [{ tenant := 5, handle := 7, sizeKib := 1, version := 0, lastUse := 0 }] }).store 0 0x10000100 (toLE 4 9 ++ toLE 28 99)), 0, 0, { job0 with jtype := 1, phase := .admitted, readyAt := some 1, drawAddr := 0x10000100, drawSize := 64 }, (toLE 4 9 ++ toLE 28 99), by decide +kernel⟩,
   ⟨((dev.setRas 0 { jobs := [{ job0 with jtype := 1, phase := .admitted, readyAt := some 1, drawAddr := 0x10000100, drawSize := 64 }], nextKey := 10, cache := [{ tenant := 5, handle := 7, sizeKib := 1, version := 0, lastUse := 0 }] }).store 0 0x10000100 (toLE 4 10 ++ toLE 28 99)), 0, 0, { job0 with jtype := 1, phase := .admitted, readyAt := some 1, drawAddr := 0x10000100, drawSize := 64 }, (toLE 4 10 ++ toLE 28 99), by decide +kernel⟩⟩

theorem test_UnitsRunAndJobsEnd_witnesses :
    (∃ (s : State) (n : Fin 8) (core : Fin 4) (k : Nat) (key : Nat) (w : Nat) (t0 : Nat) (j : Job), ((s.core n core).job = some key) ∧ ((s.core n core).units[k]? = some (.workgroup w, t0)) ∧ ((s.core n core).saving = none) ∧ ((s.core n core).restoring = none) ∧ (s.job? n key = some j) ∧ (j.units ≠ [])) ∧
    (∃ (s : State) (n : Fin 8) (core : Fin 4) (k : Nat) (key : Nat) (first : Nat) (p : Nat) (t0 : Nat), ((s.core n core).job = some key) ∧ ((s.core n core).saving = none) ∧ ((s.core n core).restoring = none) ∧ ((s.core n core).units[k]? = some (.binBatch first p, t0))) ∧
    (∃ (s : State) (n : Fin 8) (core : Fin 4) (k : Nat) (key : Nat) (first : Nat) (p : Nat) (t0 : Nat) (j : Job), ((s.core n core).job = some key) ∧ ((s.core n core).saving = none) ∧ ((s.core n core).restoring = none) ∧ ((s.core n core).units[k]? = some (.binBatch first p, t0)) ∧ (s.job? n key = some j) ∧ (j.fragPhase = true)) ∧
    (∃ (s : State) (n : Fin 8) (core : Fin 4) (k : Nat) (key : Nat) (tx : Nat) (ty : Nat) (part : Nat) (parts : Nat) (first : Nat) (p : Nat) (t0 : Nat) (r : UnitResult) (u : State), ((s.core n core).job = some key) ∧ ((s.core n core).saving = none) ∧ ((s.core n core).restoring = none) ∧ ((s.core n core).units[k]? = some (.tile tx ty part parts first p, t0)) ∧ ((s.setCore n core { s.core n core with units := unitsAfter s.time k (s.core n core).units }).tileDone n key core tx ty part parts first p r = some u)) ∧
    (∃ (s : State) (n : Fin 8) (key : Nat) (j : Job) (d : Int), (s.job? n key = some j) ∧ (j.phase = .admitted) ∧ (j.deadline = some d) ∧ (d ≤ (s.time : Int)) ∧ (j.urgent = false) ∧ (j.targeted = true)) ∧
    (∃ (s : State) (n : Fin 8) (core : Fin 4) (context : Bytes) (key : Nat) (slot : Nat) (since : Nat), ((s.core n core).job = some key) ∧ ((s.core n core).saving = some (slot, since)) ∧ (context.length ≤ slotBytes)) ∧
    (∃ (s : State) (n : Fin 8) (core : Fin 4) (key : Nat) (j : Job) (x : SavedCtx), ((s.core n core).job = some key) ∧ ((s.core n core).restoring = some x) ∧ (s.job? n key = some j) ∧ (crc32c (s.load n (slotAddr x.slot) x.len) = x.crc)) ∧
    (∃ (s : State) (n : Fin 8) (core : Fin 4) (j : Job) (u : Job) (tx : Nat) (ty : Nat) (part : Nat) (parts : Nat) (first : Nat) (p : Nat) (since : Nat) (d : Int) (l : List (WorkUnit × Nat)), ((s.core n core).job.bind (s.job? n) = some j) ∧ ((s.core n core).units = (.tile tx ty part parts first p, since) :: l) ∧ (s.rdN Obj.TILE_YIELD_LIMIT n ≠ 0) ∧ (j.tier ≠ 0) ∧ (s.sideEffectFree n j tx ty first p = true) ∧ (u ∈ (s.ras n).jobs) ∧ (u.urgent = true) ∧ (u.targeted = true) ∧ (u.live = true) ∧ (u.above j = true) ∧ (u.deadline = some d) ∧ (((s.rdN Obj.TILE_YIELD_LIMIT n * 1000 : Nat) : Int) < (s.time : Int) - max d since)) ∧
    (∃ (s : State) (n : Fin 8) (key : Nat) (addr : Nat) (len : Nat) (write : Bool) (j : Job), (s.job? n key = some j) ∧ (j.phase = .admitted) ∧ (s.inside (.tenant j.tenant) n (if write then 2 else 1) addr len = false)) ∧
    (∃ (s : State) (n : Fin 8) (key : Nat) (j : Job), (s.job? n key = some j) ∧ (j.phase = .admitted) ∧ (s.rdN Obj.JOB_TIME_LIMIT n * 1000000 < j.coreNs)) ∧
    (∃ (s : State) (n : Fin 8) (key : Nat) (st : Nat) (detail : Nat) (j : Job), (s.job? n key = some j) ∧ (j.phase = .ended st detail)) :=
  ⟨⟨(dev.setRas 0 { jobs := [{ job0 with jtype := 2, phase := .admitted, readyAt := some 1, started := true, handles := [7], units := [.workgroup 3] }], cores := [{ job := some 0, units := [(.workgroup 1, 5)] }, {}, {}, {}], nextKey := 10 }), 0, 0, 0, 0, 1, 5, { job0 with jtype := 2, phase := .admitted, readyAt := some 1, started := true, handles := [7], units := [.workgroup 3] }, by decide +kernel⟩,
   ⟨(dev.setRas 0 { jobs := [{ job0 with jtype := 1, phase := .admitted, readyAt := some 1, started := true, binAddr := 0x10000000, binSize := 0x8000 }], cores := [{ job := some 0, units := [(.binBatch 0 1, 5)] }, {}, {}, {}], nextKey := 10 }), 0, 0, 0, 0, 0, 1, 5, by decide +kernel⟩,
   ⟨(dev.setRas 0 { jobs := [{ job0 with jtype := 1, phase := .admitted, readyAt := some 1, started := true, fragPhase := true, flushing := true }], cores := [{ job := some 0, units := [(.binBatch 0 1, 5)] }, {}, {}, {}], nextKey := 10 }), 0, 0, 0, 0, 0, 1, 5, { job0 with jtype := 1, phase := .admitted, readyAt := some 1, started := true, fragPhase := true, flushing := true }, by decide +kernel⟩,
   ⟨(dev.setRas 0 { jobs := [{ job0 with jtype := 1, phase := .admitted, readyAt := some 1, started := true, fragPhase := true, handles := [7], width := 32, height := 32, partsLeft := [((0, 0), 2)] }], cores := [{ job := some 0, units := [(.tile 0 0 0 2 0 1, 5)] }, {}, {}, {}], nextKey := 10 }), 0, 0, 0, 0, 0, 0, 0, 2, 0, 1, 5, {}, (((((dev.setRas 0 { jobs := [{ job0 with jtype := 1, phase := .admitted, readyAt := some 1, started := true, fragPhase := true, handles := [7], width := 32, height := 32, partsLeft := [((0, 0), 2)] }], cores := [{ job := some 0, units := [(.tile 0 0 0 2 0 1, 5)] }, {}, {}, {}], nextKey := 10 })).setCore 0 0 { job := some 0 }).tileDone 0 0 0 0 0 0 2 0 1 {}).getD dev), by decide +kernel⟩,
   ⟨(withJobs [{ job0 with jtype := 2, phase := .admitted, readyAt := some 1, deadline := some 5, targetLayer := 1 }]), 0, 0, { job0 with jtype := 2, phase := .admitted, readyAt := some 1, deadline := some 5, targetLayer := 1 }, 5, by decide +kernel⟩,
   ⟨(dev.setRas 0 { jobs := [{ job0 with jtype := 2, phase := .admitted, readyAt := some 1, started := true, handles := [7], units := [.workgroup 3] }], cores := [{ job := some 0, units := [(.workgroup 1, 5)], saving := some (2, 7) }, {}, {}, {}], nextKey := 10, slotsUsed := [2] }), 0, 0, [1, 2, 3], 0, 2, 7, by decide +kernel⟩,
   ⟨(dev.setRas 0 { jobs := [{ job0 with jtype := 2, phase := .admitted, readyAt := some 1, started := true, handles := [7], units := [.workgroup 3] }], cores := [{ job := some 0, restoring := some { slot := 2, len := 3, crc := crc32c [0, 0, 0], units := [.workgroup 1] } }, {}, {}, {}], nextKey := 10, slotsUsed := [2] }), 0, 0, 0, { job0 with jtype := 2, phase := .admitted, readyAt := some 1, started := true, handles := [7], units := [.workgroup 3] }, { slot := 2, len := 3, crc := crc32c [0, 0, 0], units := [.workgroup 1] }, by decide +kernel⟩,
   ⟨((dev.wr Obj.TILE_YIELD_LIMIT 100).setRas 0 { jobs := [{ job0 with jtype := 1, phase := .admitted, readyAt := some 1, started := true, fragPhase := true, handles := [7] }, { job0 with key := 1, jtype := 1, phase := .admitted, readyAt := some 1, targetLayer := 1, urgent := true, deadline := some 5 }], cores := [{ job := some 0, units := [(.tile 0 0 0 1 0 0, 5)] }, {}, {}, {}], nextKey := 10 }), 0, 0, { job0 with jtype := 1, phase := .admitted, readyAt := some 1, started := true, fragPhase := true, handles := [7] }, { job0 with key := 1, jtype := 1, phase := .admitted, readyAt := some 1, targetLayer := 1, urgent := true, deadline := some 5 }, 0, 0, 0, 1, 0, 0, 5, 5, [], by decide +kernel⟩,
   ⟨(withJobs [{ job0 with jtype := 2, phase := .admitted, readyAt := some 1 }]), 0, 0, 5, 8, true, { job0 with jtype := 2, phase := .admitted, readyAt := some 1 }, by decide +kernel⟩,
   ⟨(withJobs [{ job0 with jtype := 2, phase := .admitted, readyAt := some 1, coreNs := 10 ^ 15 }]), 0, 0, { job0 with jtype := 2, phase := .admitted, readyAt := some 1, coreNs := 10 ^ 15 }, by decide +kernel⟩,
   ⟨(withJobs [{ job0 with jtype := 2, phase := .ended 6 0 }]), 0, 0, 6, 0, { job0 with jtype := 2, phase := .ended 6 0 }, by decide +kernel⟩⟩

theorem test_TranslationsEnterTheCache_witnesses :
    (∃ (s : State) (q : TransReq) (l : List TransReq), (s.translator.current = none) ∧ (s.translator.queue = q :: l) ∧ (s.isHwReady 5 = true) ∧ (s.hwGated 0 = false)) ∧
    (∃ (s : State) (q : TransReq) (l : List TransReq), (s.translator.current = none) ∧ (s.translator.queue = []) ∧ (s.translator.background = q :: l) ∧ (s.isHwReady 5 = true) ∧ (s.hwGated 0 = false)) ∧
    (∃ (s : State) (res : TransResult) (q : TransReq) (key : Nat) (reason : Nat) (cap : Nat), (s.translator.current = some q) ∧ (q.job = some key) ∧ (s.hwGated 0 = false) ∧ (translationRefusal q.modules q.fixed.topology res = some (reason, cap))) ∧
    (∃ (s : State) (res : TransResult) (q : TransReq) (key : Nat) (u : State), (s.translator.current = some q) ∧ (q.job = some key) ∧ (s.hwGated 0 = false) ∧ (translationRefusal q.modules q.fixed.topology res = none) ∧ (({ s with translator := { s.translator with current := none } } : State).cachePut q.station q res = (u, true))) ∧
    (∃ (s : State) (res : TransResult) (q : TransReq) (key : Nat) (u : State), (s.translator.current = some q) ∧ (q.job = some key) ∧ (s.hwGated 0 = false) ∧ (translationRefusal q.modules q.fixed.topology res = none) ∧ (({ s with translator := { s.translator with current := none } } : State).cachePut q.station q res = (u, false))) ∧
    (∃ (s : State) (n : Fin 8) (tt : Fin 512) (handle : Nat), s.handleInUse n tt handle = false) ∧
    (∃ (s : State) (n : Fin 8) (tt : Fin 512) (handle : Nat) (e : CacheEntry) (size : Nat) (bytes : Nat) (version : Nat) (effects : Bool), (((s.ras n).jobs.any fun j => j.tenant = tt.val && j.handles.contains handle && j.started && j.live) = false) ∧ ((s.ras n).jobs = []) ∧ ((s.ras n).cache = [e]) ∧ (e.tenant = tt.val) ∧ (e.handle = handle) ∧ (e.replacedFor = none) ∧ (e.renewed = some (size, bytes, effects, version))) ∧
    (∃ (s : State) (n : Fin 8) (tt : Fin 512) (handle : Nat), ((s.ras n).jobs.any fun j => j.tenant = tt.val && j.handles.contains handle && j.started && j.live) = false) :=
  ⟨⟨{ dev with translator := { queue := [{ station := 0, tenant := 5, handle := 7, job := some 0, modules := [(toLE 4 0x07230203 ++ toLE 4 0x00010600 ++ toLE 12 0 ++ toLE 4 0x0003000E ++ toLE 4 0 ++ toLE 4 1)] }] } }, { station := 0, tenant := 5, handle := 7, job := some 0, modules := [(toLE 4 0x07230203 ++ toLE 4 0x00010600 ++ toLE 12 0 ++ toLE 4 0x0003000E ++ toLE 4 0 ++ toLE 4 1)] }, [], by decide +kernel⟩,
   ⟨{ dev with translator := { background := [{ station := 0, tenant := 5, handle := 7, job := some 0, modules := [(toLE 4 0x07230203 ++ toLE 4 0x00010600 ++ toLE 12 0 ++ toLE 4 0x0003000E ++ toLE 4 0 ++ toLE 4 1)] }] } }, { station := 0, tenant := 5, handle := 7, job := some 0, modules := [(toLE 4 0x07230203 ++ toLE 4 0x00010600 ++ toLE 12 0 ++ toLE 4 0x0003000E ++ toLE 4 0 ++ toLE 4 1)] }, [], by decide +kernel⟩,
   ⟨{ (withJobs [{ job0 with jtype := 3, phase := .translating, pipeHandle := 7 }]) with translator := { current := some { station := 0, tenant := 5, handle := 7, job := some 0, modules := [[1, 2, 3]] } } }, { sizeKib := 3, stateBytes := 64 }, { station := 0, tenant := 5, handle := 7, job := some 0, modules := [[1, 2, 3]] }, 0, 1, 0, by decide +kernel⟩,
   ⟨{ (dev.setRas 0 { jobs := [{ job0 with jtype := 3, phase := .translating, pipeHandle := 7 }], nextKey := 10, cacheMib := 8 }) with translator := { current := some { station := 0, tenant := 5, handle := 7, job := some 0, modules := [(toLE 4 0x07230203 ++ toLE 4 0x00010600 ++ toLE 12 0 ++ toLE 4 0x0003000E ++ toLE 4 0 ++ toLE 4 1)] } } }, { sizeKib := 3, stateBytes := 64 }, { station := 0, tenant := 5, handle := 7, job := some 0, modules := [(toLE 4 0x07230203 ++ toLE 4 0x00010600 ++ toLE 12 0 ++ toLE 4 0x0003000E ++ toLE 4 0 ++ toLE 4 1)] }, 0, ((dev.setRas 0 { jobs := [{ job0 with jtype := 3, phase := .translating, pipeHandle := 7 }], nextKey := 10, cacheMib := 8 }).cachePut 0 { station := 0, tenant := 5, handle := 7, job := some 0, modules := [(toLE 4 0x07230203 ++ toLE 4 0x00010600 ++ toLE 12 0 ++ toLE 4 0x0003000E ++ toLE 4 0 ++ toLE 4 1)] } { sizeKib := 3, stateBytes := 64 }).1, by decide +kernel⟩,
   ⟨{ (withJobs [{ job0 with jtype := 3, phase := .translating, pipeHandle := 7 }]) with translator := { current := some { station := 0, tenant := 5, handle := 7, job := some 0, modules := [(toLE 4 0x07230203 ++ toLE 4 0x00010600 ++ toLE 12 0 ++ toLE 4 0x0003000E ++ toLE 4 0 ++ toLE 4 1)] } } }, { sizeKib := 3, stateBytes := 64 }, { station := 0, tenant := 5, handle := 7, job := some 0, modules := [(toLE 4 0x07230203 ++ toLE 4 0x00010600 ++ toLE 12 0 ++ toLE 4 0x0003000E ++ toLE 4 0 ++ toLE 4 1)] }, 0, ((withJobs [{ job0 with jtype := 3, phase := .translating, pipeHandle := 7 }]).cachePut 0 { station := 0, tenant := 5, handle := 7, job := some 0, modules := [(toLE 4 0x07230203 ++ toLE 4 0x00010600 ++ toLE 12 0 ++ toLE 4 0x0003000E ++ toLE 4 0 ++ toLE 4 1)] } { sizeKib := 3, stateBytes := 64 }).1, by decide +kernel⟩,
   ⟨(dev.setRas 0 { cache := [{ tenant := 5, handle := 7, sizeKib := 3, version := 0, lastUse := 0, dropPending := true }] }), 0, 5, 7, by decide +kernel⟩,
   ⟨(dev.setRas 0 { cache := [{ tenant := 5, handle := 7, sizeKib := 3, version := 0, lastUse := 0, withdrawn := true, renewed := some (9, 128, false, 2) }] }), 0, 5, 7, { tenant := 5, handle := 7, sizeKib := 3, version := 0, lastUse := 0, withdrawn := true, renewed := some (9, 128, false, 2) }, 9, 128, 2, false, by decide +kernel⟩,
   ⟨(dev.setRas 0 { cache := [{ tenant := 5, handle := 7, sizeKib := 3, version := 0, lastUse := 0, withdrawn := true, renewed := some (9, 128, false, 2) }] }), 0, 5, 7, by decide +kernel⟩⟩

theorem test_CompositionAdvances_witnesses :
    (∃ (s : State) (who : Requester) (n : Fin 8) (mask : Nat), (s.accepts who Obj.LAYER_COMMIT mask n) ∧ (s.isStReady n 3 = true) ∧ (mask ≠ 0) ∧ ((setsOf mask (s.tiedRegions n who mask)) ≠ []) ∧ (s.firstRefusal n who ((masksOf (setsOf mask (s.tiedRegions n who mask))).2 ||| 0) (setsOf mask (s.tiedRegions n who mask)) = none)) ∧
    (∃ (s : State) (p : Fin 2) (tt : Fin 512) (n : Fin 8) (mask : Nat), (s.pageWrite p tt = .taken) ∧ (s.sliceOn tt n = true) ∧ ((maskBits 16 (bits 16 0 mask)).all (fun l => bit l (s.rdN Obj.LAYER_MASK 0 n tt)) = true) ∧ (bit 16 (bits 16 0 mask) = false) ∧ (bits 16 0 mask ≠ 0) ∧ (s.isStReady n 3 = true) ∧ ((setsOf (bits 16 0 mask) (s.tiedRegions n (.tenant tt) (bits 16 0 mask))) ≠ []) ∧ (s.firstRefusal n (.tenant tt) ((masksOf (setsOf (bits 16 0 mask) (s.tiedRegions n (.tenant tt) (bits 16 0 mask)))).2 ||| 0) (setsOf (bits 16 0 mask) (s.tiedRegions n (.tenant tt) (bits 16 0 mask))) = none)) ∧
    (∃ (s : State) (who : Requester) (n : Fin 8) (mask : Nat), (s.accepts who Obj.GUARD_COMMIT mask n) ∧ (s.isStReady n 4 = true) ∧ (mask ≠ 0) ∧ ((setsOf 0 mask) ≠ []) ∧ (s.firstRefusal n who ((masksOf (setsOf 0 mask)).2 ||| 0) (setsOf 0 mask) = none)) ∧
    (∃ (s : State) (p : Fin 2) (tt : Fin 512) (n : Fin 8) (mask : Nat), (s.pageWrite p tt = .taken) ∧ (s.sliceOn tt n = true) ∧ ((maskBits 32 (bits 31 0 mask)).all (fun g => bit g (s.rdN Obj.GUARD_MASK 0 n tt)) = true) ∧ (bits 31 0 mask ≠ 0) ∧ (s.isStReady n 4 = true) ∧ ((setsOf 0 (bits 31 0 mask)) ≠ []) ∧ (s.firstRefusal n (.tenant tt) ((masksOf (setsOf 0 (bits 31 0 mask))).2 ||| 0) (setsOf 0 (bits 31 0 mask)) = none)) ∧
    (∃ (s : State) (n : Fin 8), ((s.dsp n).counting = true) ∧ ((s.dsp n).modeHeld = false) ∧ ((s.dsp n).frameOver = true) ∧ ((s.dsp n).modePending = false)) ∧
    (∃ (s : State) (n : Fin 8), (s.dsp n).boundaryPending = true) ∧
    (∃ (s : State) (n : Fin 8), s.fixPointDue n = true) ∧
    (∃ (s : State) (n : Fin 8) (y : Nat), s.nextToCompose n = some y) ∧
    (∃ (s : State) (n : Fin 8) (b : Nat) (u : State), ((s.dsp n).counting = true) ∧ ((s.dsp n).modeHeld = false) ∧ ((s.dsp n).frameOver = false) ∧ ((s.dsp n).boundaryPending = false) ∧ (u = (s.setDsp n { s.dsp n with line := (s.dsp n).line + 1 }).publish n) ∧ (u.blankLines n = some b) ∧ ((s.dsp n).line + 1 < b)) ∧
    (∃ (s : State) (n : Fin 8) (b : Nat) (u : State), ((s.dsp n).counting = true) ∧ ((s.dsp n).modeHeld = false) ∧ ((s.dsp n).frameOver = false) ∧ ((s.dsp n).boundaryPending = false) ∧ (u = (s.setDsp n { s.dsp n with line := (s.dsp n).line + 1 }).publish n) ∧ (u.blankLines n = some b) ∧ (b ≤ (s.dsp n).line + 1) ∧ ((s.dsp n).line + 1 - b + 1 < s.activeH n) ∧ ((s.dsp n).video = true)) ∧
    (∃ (s : State) (n : Fin 8) (k : Fin 4) (m : Monitor), (s.stationState n ≠ stSleep) ∧ ((s.dsp n).monitors.getD k {} = m) ∧ (m.enable = true) ∧ (s.monitorFits n m = true) ∧ (m.started = true) ∧ (m.basis = 0)) :=
  ⟨⟨dev, .host 0, 0, 4, by decide +kernel⟩,
   ⟨dev, 0, 5, 0, 2, by decide +kernel⟩,
   ⟨dev, .host 0, 0, 8, by decide +kernel⟩,
   ⟨dev, 0, 5, 0, 2, by decide +kernel⟩,
   ⟨(dev.setDsp 0 { counting := true, frameOver := true }), 0, by decide +kernel⟩,
   ⟨(dev.setDsp 0 { counting := true, boundaryPending := true, frameOver := false }), 0, by decide +kernel⟩,
   ⟨(dev.setDsp 0 { counting := true, stretchable := true, frameOver := false, line := 100000 }), 0, by decide +kernel⟩,
   ⟨(((dev.wr Obj.H_ACTIVE 4).wr Obj.V_ACTIVE 3).setCmp 0 { composing := true }), 0, 0, by decide +kernel⟩,
   ⟨(dev.setDsp 0 { counting := true, frameOver := false, line := 2 }), 0, (((((dev.setDsp 0 { counting := true, frameOver := false, line := 2 }).setDsp 0 { (dev.setDsp 0 { counting := true, frameOver := false, line := 2 }).dsp 0 with line := ((dev.setDsp 0 { counting := true, frameOver := false, line := 2 }).dsp 0).line + 1 }).publish 0).blankLines 0).getD 0), (((dev.setDsp 0 { counting := true, frameOver := false, line := 2 }).setDsp 0 { (dev.setDsp 0 { counting := true, frameOver := false, line := 2 }).dsp 0 with line := ((dev.setDsp 0 { counting := true, frameOver := false, line := 2 }).dsp 0).line + 1 }).publish 0), by decide +kernel⟩,
   ⟨(let u := ((((dev.wr Obj.H_ACTIVE 2).wr Obj.V_ACTIVE 3).wr Obj.V_BP 1).setDsp 0 { counting := true, frameOver := false, video := true }); u.setDsp 0 { u.dsp 0 with line := (u.blankLines 0).getD 0 }), 0, (((((let u := ((((dev.wr Obj.H_ACTIVE 2).wr Obj.V_ACTIVE 3).wr Obj.V_BP 1).setDsp 0 { counting := true, frameOver := false, video := true }); u.setDsp 0 { u.dsp 0 with line := (u.blankLines 0).getD 0 }).setDsp 0 { (let u := ((((dev.wr Obj.H_ACTIVE 2).wr Obj.V_ACTIVE 3).wr Obj.V_BP 1).setDsp 0 { counting := true, frameOver := false, video := true }); u.setDsp 0 { u.dsp 0 with line := (u.blankLines 0).getD 0 }).dsp 0 with line := ((let u := ((((dev.wr Obj.H_ACTIVE 2).wr Obj.V_ACTIVE 3).wr Obj.V_BP 1).setDsp 0 { counting := true, frameOver := false, video := true }); u.setDsp 0 { u.dsp 0 with line := (u.blankLines 0).getD 0 }).dsp 0).line + 1 }).publish 0).blankLines 0).getD 0), (((let u := ((((dev.wr Obj.H_ACTIVE 2).wr Obj.V_ACTIVE 3).wr Obj.V_BP 1).setDsp 0 { counting := true, frameOver := false, video := true }); u.setDsp 0 { u.dsp 0 with line := (u.blankLines 0).getD 0 }).setDsp 0 { (let u := ((((dev.wr Obj.H_ACTIVE 2).wr Obj.V_ACTIVE 3).wr Obj.V_BP 1).setDsp 0 { counting := true, frameOver := false, video := true }); u.setDsp 0 { u.dsp 0 with line := (u.blankLines 0).getD 0 }).dsp 0 with line := ((let u := ((((dev.wr Obj.H_ACTIVE 2).wr Obj.V_ACTIVE 3).wr Obj.V_BP 1).setDsp 0 { counting := true, frameOver := false, video := true }); u.setDsp 0 { u.dsp 0 with line := (u.blankLines 0).getD 0 }).dsp 0).line + 1 }).publish 0), by decide +kernel⟩,
   ⟨(dev.setDsp 0 { monitors := [(1, { enable := true, started := true })] }), 0, 1, { enable := true, started := true }, by decide +kernel⟩⟩

theorem test_GuardReferencesAndSafeStoreLoad_witnesses :
    (∃ (s : State) (who : Requester) (n : Fin 8), (s.accepts who Obj.REF_LOAD_START 1 n) ∧ (s.isStReady n 4 = true) ∧ ((s.grd n).load = none) ∧ (s.refRefusal n who (s.rdN Obj.REF_LOAD_REGION n) (s.rdN Obj.REF_LOAD_PAGE n) (s.rdN Obj.REF_LOAD_ADDR n) = none)) ∧
    (∃ (s : State) (who : Requester) (n : Fin 8) (r : Nat), (s.accepts who Obj.REF_LOAD_START 1 n) ∧ (s.isStReady n 4 = true) ∧ ((s.grd n).load = none) ∧ (s.refRefusal n who (s.rdN Obj.REF_LOAD_REGION n) (s.rdN Obj.REF_LOAD_PAGE n) (s.rdN Obj.REF_LOAD_ADDR n) = some r)) ∧
    (∃ (s : State) (n : Fin 8) (l : RefLoad), ((s.grd n).load = some l) ∧ (s.memServes n = true) ∧ ((∀ k ∈ List.range l.count, (s.refRead n l k).toOption.isSome = true))) ∧
    (∃ (s : State) (who : Requester) (n : Fin 8) (data : Bytes), (s.served who = true) ∧ (s.isQuarantined who = false) ∧ (s.placeAccess who ⟨Obj.SAFE_STORE, n, 0, 0, who.instanceOf 512⟩ true = none) ∧ (s.staging = []) ∧ (4 ≤ data.length) ∧ (ofBE (data.take 4) = data.length - 4) ∧ (data.length ≤ 524292)) ∧
    (∃ (s : State) (n : Fin 8) (b : Bytes), (s.grd n).safePending = some b) :=
  ⟨⟨(State.wr (State.wr (State.wr (State.wr (State.wr dev Obj.REF_LOAD_ADDR 0x10000000) Obj.REGION_W 32) Obj.REGION_H 1) Obj.REF_PAGES 2) Obj.REF_LOAD_PAGE 1), .host 0, 0, by decide +kernel⟩,
   ⟨dev, .host 0, 0, 2, by decide +kernel⟩,
   ⟨((dev.setGrd 0 { load := some ⟨1, 0, 4, 2, 0x10000000, .tenant 5⟩ }).store 0 0x10000008 (toLE 8 0x100000005)), 0, ⟨1, 0, 4, 2, 0x10000000, .tenant 5⟩, by decide +kernel⟩,
   ⟨dev, .host 0, 0, toBE 4 3 ++ [1, 2, 3], by decide +kernel⟩,
   ⟨(dev.setGrd 0 { safePending := some [1] }), 0, [1], by decide +kernel⟩⟩

theorem test_OutputAndModeAct_witnesses :
    (∃ (s : State) (who : Requester) (n : Fin 8), (s.accepts who Obj.MODE_COMMIT 1 n) ∧ (s.isStReady n 2 = true) ∧ (modeOutcome (fun r => s.rdShadowN r n) (s.rdN Obj.TRANSOM_TARGET n) (fun c => !(s.dsp n).sinkKnown || (s.dsp n).sinkConfigs.contains c) (!(s.dsp n).sinkKnown || bit 1 (s.rdN Obj.SINK_CAPS n)) = 0) ∧ ((s.dsp n).counting = true)) ∧
    (∃ (s : State) (n : Fin 8) (f : ObjRow → Int), ((s.dsp n).modeHeld = true) ∧ ((s.dsp n).modeArmed = modeRows.map (fun r => f r)) ∧ (s.output n = outModeChange)) ∧
    (∃ (s : State) (n : Fin 8), s.output n = outDetect) ∧
    (∃ (s : State) (n : Fin 8), (s.output n = outDetect) ∧ ((s.dsp n).reading = true)) ∧
    (∃ (s : State) (n : Fin 8), (s.output n = outDetect) ∧ ((s.dsp n).reading = true)) ∧
    (∃ (s : State) (n : Fin 8), (s.output n = outDetect) ∧ ((s.dsp n).hpd = true) ∧ ((s.dsp n).reading = false) ∧ (s.passedMs (.auxRetry n) Obj.LINK_RETRY_INTERVAL n = true)) ∧
    (∃ (s : State) (n : Fin 8) (trains : List (Nat × Nat)) (c : Nat × Nat), (s.output n = outTraining) ∧ (s.rdN Obj.OUTPUT_KIND n = 1 → 2 ≤ (s.dsp n).panel) ∧ ((s.trainingOrder n).find? (fun k => trains.contains k) = some c)) ∧
    (∃ (s : State) (n : Fin 8) (trains : List (Nat × Nat)), ((∀ c ∈ s.trainingOrder n, c ∉ trains)) ∧ (s.output n = outTraining) ∧ (s.rdN Obj.OUTPUT_KIND n = 1 → 2 ≤ (s.dsp n).panel)) ∧
    (∃ (s : State) (n : Fin 8), (s.output n = outLinkFail) ∧ (s.rdN Obj.LINK_RETRY_LIMIT n = 0 ∨ (s.dsp n).retries < s.rdN Obj.LINK_RETRY_LIMIT n) ∧ (s.passedMs (.linkRetry n) Obj.LINK_RETRY_INTERVAL n = true)) ∧
    (∃ (s : State) (n : Fin 8), s.output n = outActive) ∧
    (∃ (s : State) (n : Fin 8), s.output n = outActive ∨ s.output n = outTraining ∨ s.output n = outSelfRefresh ∨ s.output n = outLinkFail) ∧
    (∃ (s : State) (n : Fin 8) (e : Nat), ((s.dsp n).endEvent = some e) ∧ ((s.dsp n).psrStopped = true) ∧ ((s.dsp n).counting = true) ∧ ((s.dsp n).frameOver = false) ∧ ((s.dsp n).boundaryPending = false) ∧ (s.earliestFix n ≤ (s.dsp n).line) ∧ (s.stationState n = stRunning) ∧ (e + s.rdN Obj.PSR_WAKE_US n * 1000 ≤ s.time)) ∧
    (∃ (s : State) (n : Fin 8), ((s.dsp n).panel = 1) ∧ (s.passedMs (.panel n) Obj.PANEL_ON_DELAY_MS n = true)) ∧
    (∃ (s : State) (n : Fin 8), ((s.dsp n).panel = 2) ∧ ((s.dsp n).firstFrameSent = true) ∧ (s.passedMs (.backlight n) Obj.BL_ON_DELAY_MS n = true)) ∧
    (∃ (s : State) (n : Fin 8), ((s.dsp n).panel = 4) ∧ (s.passedMs (.panel n) Obj.BL_ON_DELAY_MS n = true)) ∧
    (∃ (s : State) (n : Fin 8), ((s.dsp n).panel = 5) ∧ (s.passedMs (.panel n) Obj.PANEL_ON_DELAY_MS n = true)) :=
  ⟨⟨(dev.setDsp 0 { counting := true }), .host 0, 0, by decide +kernel⟩,
   ⟨((dev.wr Obj.OUTPUT_STATE 6).setDsp 0 { modeHeld := true, modeArmed := modeRows.map (fun _ => (7 : Int)) }), 0, fun _ => 7, by decide +kernel⟩,
   ⟨(dev.wr Obj.OUTPUT_STATE 1), 0, by decide +kernel⟩,
   ⟨((dev.wr Obj.OUTPUT_STATE 1).setDsp 0 { reading := true }), 0, by decide +kernel⟩,
   ⟨((dev.wr Obj.OUTPUT_STATE 1).setDsp 0 { reading := true }), 0, by decide +kernel⟩,
   ⟨((dev.wr Obj.OUTPUT_STATE 1).setDsp 0 { hpd := true }), 0, by decide +kernel⟩,
   ⟨((dev.wr Obj.OUTPUT_STATE 2).setDsp 0 { sinkConfigs := [(1, 4)] }), 0, [(1, 2), (1, 4)], (1, 4), by decide +kernel⟩,
   ⟨(dev.wr Obj.OUTPUT_STATE 2), 0, [], by decide +kernel⟩,
   ⟨((dev.wr Obj.OUTPUT_STATE 5).setDsp 0 { sinkConfigs := [(1, 4)] }), 0, by decide +kernel⟩,
   ⟨(dev.wr Obj.OUTPUT_STATE 3), 0, by decide +kernel⟩,
   ⟨(dev.wr Obj.OUTPUT_STATE 3), 0, by decide +kernel⟩,
   ⟨((dev.wr Obj.OUTPUT_STATE 4).setDsp 0 { psrStopped := true, counting := true, frameOver := false, endEvent := some 3, line := 77 }), 0, 3, by decide +kernel⟩,
   ⟨(dev.setDsp 0 { panel := 1 }), 0, by decide +kernel⟩,
   ⟨(dev.setDsp 0 { panel := 2, firstFrameSent := true }), 0, by decide +kernel⟩,
   ⟨(dev.setDsp 0 { panel := 4 }), 0, by decide +kernel⟩,
   ⟨(dev.setDsp 0 { panel := 5 }), 0, by decide +kernel⟩⟩

theorem test_PortsTrainAndReset_witnesses :
    (∃ (high : Bool), high = true) ∧
    (∃ (high : Bool), high = false) ∧
    (∃ (s : State) (p : Fin 2), (s.powered = true) ∧ ((s.prt p).perst = false) ∧ (s.rst.inReset.contains (.port p) = false) ∧ ((s.prt p).ready = false)) ∧
    (∃ (s : State) (p : Fin 2) (speed : Fin 6) (width : Fin 9), ((s.prt p).ready = true) ∧ (s.rdN Obj.PORT_STATE 0 p ≠ 4) ∧ (2 < min speed.val (s.rdN Obj.MAX_SPEED 0 p)) ∧ (width.val ≠ 0) ∧ (s.rdN Obj.MAX_WIDTH 0 p ≤ width.val)) ∧
    (∃ (s : State) (p : Fin 2) (speed : Fin 6) (width : Fin 9), ((s.prt p).ready = true) ∧ (s.rdN Obj.PORT_STATE 0 p ≠ 4) ∧ (speed.val ≠ 0) ∧ (width.val ≠ 0) ∧ (min speed.val (s.rdN Obj.MAX_SPEED 0 p) ≤ 2 ∨ width.val < s.rdN Obj.MAX_WIDTH 0 p)) ∧
    (∃ (s : State) (p : Fin 2), ((s.prt p).retrainDue = true) ∧ ((s.prt p).degradedAt + 1000000000 ≤ s.time) ∧ (s.rdN Obj.PORT_STATE 0 p = 3)) ∧
    (∃ (s : State) (p : Fin 2), (s.prt p).ready = true) ∧
    (∃ (s : State) (p : Fin 2), (s.prt p).ready = true) ∧
    (∃ (s : State) (p : Fin 2) (v : Fin 2048), (s.prt p).msixPending.contains v.val = true) :=
  ⟨⟨true, by decide +kernel⟩,
   ⟨false, by decide +kernel⟩,
   ⟨({ dev with rst := { dev.rst with inReset := [] } } : State).setPrt 0 { perst := false }, 0, by decide +kernel⟩,
   ⟨(dev.setPrt 0 { perst := false, ready := true }), 0, 5, 8, by decide +kernel⟩,
   ⟨(dev.setPrt 0 { perst := false, ready := true }), 0, 5, 1, by decide +kernel⟩,
   ⟨((dev.setPrt 0 { ready := true, retrainDue := true }).wr Obj.PORT_STATE 3), 0, by decide +kernel⟩,
   ⟨(dev.setPrt 0 { ready := true }), 0, by decide +kernel⟩,
   ⟨(dev.setPrt 0 { ready := true }), 0, by decide +kernel⟩,
   ⟨(dev.setPrt 0 { msixPending := [20, 21] }), 0, 20, by decide +kernel⟩⟩

theorem test_SlicesAreBoundAndReset_witnesses :
    (∃ (s : State) (who : Requester) (tt : Fin 512) (v : Bool) (u : Nat), (u = who.instanceOf tt) ∧ (s.accepts who Obj.SLICE_ENABLE 1 0 0 u) ∧ (v = true) ∧ (s.bindRefusal u (.enable true) false = none) ∧ (s.sliceEnabled u = false) ∧ ((s.slc u).resetting = false)) ∧
    (∃ (s : State) (who : Requester) (tt : Fin 512) (v : Bool) (u : Nat), (u = who.instanceOf tt) ∧ (s.accepts who Obj.SLICE_ENABLE 0 0 0 u) ∧ (v = false) ∧ (s.bindRefusal u (.enable false) false = none) ∧ (s.sliceEnabled u = true)) ∧
    (∃ (s : State) (p : Fin 2) (tt : Fin 512) (v : Nat), (s.hwGated 2 = false) ∧ (s.pageWrite p tt = .taken) ∧ (v = 1)) ∧
    (∃ (s : State) (who : Requester) (tt : Fin 512) (v : Bool) (u : Nat), (u = who.instanceOf tt) ∧ (s.accepts who Obj.SLICE_RESET 1 0 0 u) ∧ (v = true)) ∧
    (∃ (s : State) (tt : Fin 512), (s.sliceDomainsUp tt = true) ∧ (s.sliceReadsOver tt = true) ∧ ((s.slc tt).resetting = true) ∧ ((s.slc tt).unbind = false) ∧ ((s.slc tt).heldWrites = [])) ∧
    (∃ (s : State) (who : Requester) (tt : Fin 512) (n : Fin 8) (which : Fin 5) (v : Nat) (u : Nat), (u = who.instanceOf tt) ∧ (s.accepts who (rightsRow which) v 0 n u) ∧ (s.bindRefusal u (.rights n which v) false = none)) ∧
    (∃ (s : State) (who : Requester) (tt : Fin 512) (n : Fin 8) (w : Fin 16) (v : Nat) (u : Nat), (u = who.instanceOf tt) ∧ (s.accepts who Obj.WINDOW v 0 n u w) ∧ (s.bindRefusal u (.window n w v) false = none) ∧ ((windowSpan (s.rdN Obj.WINDOW 0 n u w)).size = 0)) ∧
    (∃ (s : State) (who : Requester) (tt : Fin 512) (v : Nat) (u : Nat), (u = who.instanceOf tt) ∧ (s.accepts who Obj.QUARANTINE_RELEASE v 0 0 u) ∧ (v = 1) ∧ ((s.slc u).quarantined = true)) :=
  ⟨⟨((dev.wr Obj.SLICE_STATIONS 1 0 0 6).wr Obj.SLICE_PASID 1 0 0 6), .host 0, 6, true, 6, by decide +kernel⟩,
   ⟨dev, .host 0, 5, false, 5, by decide +kernel⟩,
   ⟨dev, 0, 5, 1, by decide +kernel⟩,
   ⟨dev, .host 0, 5, true, 5, by decide +kernel⟩,
   ⟨({ dev with rst := { dev.rst with inReset := [] } } : State).setSlc 5 { resetting := true, rings := [((0, 1), { tail := 3 })] }, 5, by decide +kernel⟩,
   ⟨dev, .host 0, 5, 0, 1, 4, 5, by decide +kernel⟩,
   ⟨dev, .host 0, 5, 0, 1, 0x100020000003, 5, by decide +kernel⟩,
   ⟨((dev.setSlc 5 { quarantined := true, failures := [1, 2] }).wr Obj.SLICE_STATE 3 0 0 5), .host 0, 5, 1, 5, by decide +kernel⟩⟩

theorem test_RingsFetchAndReport_witnesses :
    (∃ (s : State) (p : Fin 2) (tt : Fin 512) (n : Fin 8) (q : Fin 4), (s.hwGated 2 = false) ∧ (s.pageWrite p tt = .taken) ∧ (s.sliceOn tt n = true) ∧ (s.ringOpen tt n q = true)) ∧
    (∃ (s : State) (p : Fin 2) (tt : Fin 512) (n : Fin 8) (q : Fin 4), (s.hwGated 2 = false) ∧ (s.pageWrite p tt = .taken) ∧ (s.sliceOn tt n = true) ∧ (s.ringOpen tt n q = false)) ∧
    (∃ (s : State) (p : Fin 2) (tt : Fin 512) (n : Fin 8) (q : Fin 4), (s.hwGated 2 = false) ∧ (s.pageWrite p tt = .taken) ∧ (s.sliceOn tt n = true) ∧ (s.ringOpen tt n q = true)) ∧
    (∃ (s : State) (p : Fin 2) (tt : Fin 512) (n : Fin 8) (q : Fin 4), (s.hwGated 2 = false) ∧ (s.pageWrite p tt = .taken) ∧ (s.sliceOn tt n = true) ∧ (s.ringOpen tt n q = false)) ∧
    (∃ (s : State) (tt : Fin 512) (n : Fin 8) (q : Fin 4) (data : Bytes), ((s.ring tt n q).stale = 0) ∧ (0 < (s.ring tt n q).reading) ∧ (s.sliceState tt = slActive) ∧ (s.rdN Obj.RING_STATE 0 (ringIx n q) tt = 1) ∧ (descriptorSpoof tt n q (ofLE (data.take 64)) = none) ∧ (s.rdN Obj.RING_KIND 0 (ringIx n q) tt = 0)) ∧
    (∃ (s : State) (tt : Fin 512) (n : Fin 8) (q : Fin 4) (data : Bytes), ((s.ring tt n q).stale = 0) ∧ (0 < (s.ring tt n q).reading) ∧ (s.sliceState tt = slActive) ∧ (s.rdN Obj.RING_STATE 0 (ringIx n q) tt = 1) ∧ (descriptorSpoof tt n q (ofLE (data.take 64)) = none) ∧ (s.rdN Obj.RING_KIND 0 (ringIx n q) tt ≠ 0)) ∧
    (∃ (s : State) (tt : Fin 512) (n : Fin 8) (q : Fin 4) (data : Bytes) (code : Nat), ((s.ring tt n q).stale = 0) ∧ (0 < (s.ring tt n q).reading) ∧ (s.sliceState tt = slActive) ∧ (s.rdN Obj.RING_STATE 0 (ringIx n q) tt = 1) ∧ (descriptorSpoof tt n q (ofLE (data.take 64)) = some code)) ∧
    (∃ (s : State) (tt : Fin 512) (n : Fin 8) (q : Fin 4), (s.ring tt n q).stale ≠ 0) ∧
    (∃ (s : State) (tt : Fin 512) (n : Fin 8) (q : Fin 4), ((s.ring tt n q).stale = 0) ∧ (0 < (s.ring tt n q).reading) ∧ (s.sliceState tt = slActive) ∧ (s.rdN Obj.RING_STATE 0 (ringIx n q) tt = 1)) ∧
    (∃ (s : State) (who : Requester) (tt : Fin 512) (n : Fin 8) (q : Fin 4) (v : Bool) (u : Nat), (u = who.instanceOf tt) ∧ (s.accepts who Obj.RING_ENABLE 1 0 (ringIx n q) u) ∧ (v = true) ∧ (s.ringRight u n q = true)) ∧
    (∃ (s : State) (who : Requester) (tt : Fin 512) (n : Fin 8) (q : Fin 4) (v : Bool) (u : Nat), (u = who.instanceOf tt) ∧ (s.accepts who Obj.RING_ENABLE 0 0 (ringIx n q) u) ∧ (v = false)) :=
  ⟨⟨((dev.wr Obj.RING_ENABLE 1 0 1 5).wr Obj.RING_STATE 1 0 1 5), 0, 5, 0, 1, by decide +kernel⟩,
   ⟨dev, 0, 5, 0, 1, by decide +kernel⟩,
   ⟨((dev.wr Obj.RING_ENABLE 1 0 1 5).wr Obj.RING_STATE 1 0 1 5), 0, 5, 0, 1, by decide +kernel⟩,
   ⟨dev, 0, 5, 0, 1, by decide +kernel⟩,
   ⟨(((dev.wr Obj.RING_ENABLE 1 0 1 5).wr Obj.RING_STATE 1 0 1 5).setSlc 5 { rings := [((0, 1), { tail := 1, reading := 1 })] }), 5, 0, 1, (toLE 64 (5 * 2 ^ 12 + 1 * 2 ^ 10)), by decide +kernel⟩,
   ⟨((((dev.wr Obj.RING_ENABLE 1 0 1 5).wr Obj.RING_STATE 1 0 1 5).wr Obj.RING_KIND 1 0 1 5).setSlc 5 { rings := [((0, 1), { tail := 1, reading := 1 })] }), 5, 0, 1, (toLE 64 (5 * 2 ^ 12 + 1 * 2 ^ 10)), by decide +kernel⟩,
   ⟨(((dev.wr Obj.RING_ENABLE 1 0 1 5).wr Obj.RING_STATE 1 0 1 5).setSlc 5 { rings := [((0, 1), { tail := 1, reading := 1 })] }), 5, 0, 1, [], 1, by decide +kernel⟩,
   ⟨(((dev.wr Obj.RING_ENABLE 1 0 1 5).wr Obj.RING_STATE 1 0 1 5).setSlc 5 { rings := [((0, 1), { stale := 2 })] }), 5, 0, 1, by decide +kernel⟩,
   ⟨(((dev.wr Obj.RING_ENABLE 1 0 1 5).wr Obj.RING_STATE 1 0 1 5).setSlc 5 { rings := [((0, 1), { tail := 1, reading := 2 })] }), 5, 0, 1, by decide +kernel⟩,
   ⟨dev, .host 0, 5, 0, 1, true, 5, by decide +kernel⟩,
   ⟨((dev.wr Obj.RING_ENABLE 1 0 1 5).wr Obj.RING_STATE 1 0 1 5), .host 0, 5, 0, 1, false, 5, by decide +kernel⟩⟩

theorem test_TransfersMoveAndLand_witnesses :
    (∃ (s : State) (tt : Fin 512) (n : Fin 8) (q : Fin 4) (data : Option Bytes) (b : Bytes) (x : Xfer) (r : Ring) (u : State), (data = some b) ∧ (s.xferFront tt n q 8 = some (x, r)) ∧ (u = s.cvXfer tt n q x) ∧ (u.xferAllowed x 2 = true) ∧ (u.memServes n = true) ∧ (x.sluiced = [])) ∧
    (∃ (s : State) (tt : Fin 512) (n : Fin 8) (q : Fin 4) (data : Option Bytes) (b : Bytes) (x : Xfer) (r : Ring) (u : State), (data = some b) ∧ (s.xferFront tt n q 8 = some (x, r)) ∧ (u = s.cvXfer tt n q x) ∧ (u.xferAllowed x 2 = true) ∧ (u.memServes n = false) ∧ (x.sluiced = [])) ∧
    (∃ (s : State) (tt : Fin 512) (n : Fin 8) (q : Fin 4) (data : Option Bytes) (b : Bytes) (x : Xfer) (r : Ring) (u : State), (data = some b) ∧ (s.xferFront tt n q 8 = some (x, r)) ∧ (u = s.cvXfer tt n q x) ∧ (u.xferAllowed x 2 = false)) ∧
    (∃ (s : State) (tt : Fin 512) (n : Fin 8) (q : Fin 4) (data : Option Bytes) (x : Xfer) (r : Ring) (u : State), (data = none) ∧ (s.xferFront tt n q 8 = some (x, r)) ∧ (u = s.cvXfer tt n q x) ∧ (u.xferAllowed x 2 = true) ∧ (x.sluiced = [])) ∧
    (∃ (s : State) (tt : Fin 512) (n : Fin 8) (q : Fin 4) (x : Xfer) (r : Ring) (u : State), (s.xferFront tt n q 9 = some (x, r)) ∧ (u = s.cvXfer tt n q x) ∧ (u.xferAllowed x 1 = true) ∧ (u.memServes n = true)) ∧
    (∃ (s : State) (tt : Fin 512) (n : Fin 8) (q : Fin 4) (x : Xfer) (r : Ring) (u : State), (s.xferFront tt n q 10 = some (x, r)) ∧ (u = s.cvXfer tt n q x) ∧ (u.xferAllowed x 2 = true) ∧ (u.memServes n = true) ∧ (x.sluiced = [])) ∧
    (∃ (s : State) (tt : Fin 512) (n : Fin 8) (q : Fin 4) (x : Xfer) (l : List Xfer), ((s.ring tt n q).xfers = x :: l) ∧ (x.moved = true)) ∧
    (∃ (s : State) (p : Fin 2) (tt : Fin 512), (s.hwGated 2 = false) ∧ (s.pageWrite p tt = .taken)) ∧
    (∃ (s : State) (p : Fin 2) (tt : Fin 512), (s.hwGated 2 = false) ∧ (s.pageWrite p tt = .taken)) ∧
    (∃ (s : State) (tt : Fin 512) (isTouch : Bool) (r : TouchRec), (s.landing tt = true) ∧ (isTouch = true) ∧ (s.rdN Obj.TOUCH_LAND_ADDR 0 0 tt ≠ 0) ∧ (((s.slc tt).touchLand.tail + 1) % s.rdN Obj.TOUCH_LAND_ENTRIES 0 0 tt ≠ (s.slc tt).touchLand.head) ∧ (((s.touchQ.getD tt {}).takeSmall TouchRec.prio).1 = some r)) ∧
    (∃ (s : State) (tt : Fin 512) (isTouch : Bool) (r : Rec), (s.landing tt = true) ∧ (isTouch = false) ∧ (s.rdN Obj.NOTIFY_LAND_ADDR 0 0 tt ≠ 0) ∧ (((s.slc tt).noteLand.tail + 1) % s.rdN Obj.NOTIFY_LAND_ENTRIES 0 0 tt ≠ (s.slc tt).noteLand.head) ∧ (((s.noteQ.getD tt {}).takeSmall Rec.prio).1 = some r)) :=
  ⟨⟨((((dev.wr Obj.RING_ENABLE 1 0 1 5).wr Obj.RING_STATE 1 0 1 5).wr Obj.RING_KIND 1 0 1 5).setSlc 5 { rings := [((0, 1), { xfers := [{ station := 0, tenant := 5, queue := 1, jobId := 9, kind := 8, hostAddr := 0x4000, stationAddr := 0x10000000, len := 64 }] })] }), 5, 0, 1, some [1, 2, 3], [1, 2, 3], { station := 0, tenant := 5, queue := 1, jobId := 9, kind := 8, hostAddr := 0x4000, stationAddr := 0x10000000, len := 64 }, { xfers := [{ station := 0, tenant := 5, queue := 1, jobId := 9, kind := 8, hostAddr := 0x4000, stationAddr := 0x10000000, len := 64 }] }, (((((dev.wr Obj.RING_ENABLE 1 0 1 5).wr Obj.RING_STATE 1 0 1 5).wr Obj.RING_KIND 1 0 1 5).setSlc 5 { rings := [((0, 1), { xfers := [{ station := 0, tenant := 5, queue := 1, jobId := 9, kind := 8, hostAddr := 0x4000, stationAddr := 0x10000000, len := 64 }] })] }).cvXfer 5 0 1 { station := 0, tenant := 5, queue := 1, jobId := 9, kind := 8, hostAddr := 0x4000, stationAddr := 0x10000000, len := 64 }), by decide +kernel⟩,
   ⟨(((((dev.wr Obj.RING_ENABLE 1 0 1 5).wr Obj.RING_STATE 1 0 1 5).wr Obj.RING_KIND 1 0 1 5).setSlc 5 { rings := [((0, 1), { xfers := [{ station := 0, tenant := 5, queue := 1, jobId := 9, kind := 8, hostAddr := 0x4000, stationAddr := 0x10000000, len := 64 }] })] }).wr Obj.MEM_STATE 1), 5, 0, 1, some [1, 2, 3], [1, 2, 3], { station := 0, tenant := 5, queue := 1, jobId := 9, kind := 8, hostAddr := 0x4000, stationAddr := 0x10000000, len := 64 }, { xfers := [{ station := 0, tenant := 5, queue := 1, jobId := 9, kind := 8, hostAddr := 0x4000, stationAddr := 0x10000000, len := 64 }] }, ((((((dev.wr Obj.RING_ENABLE 1 0 1 5).wr Obj.RING_STATE 1 0 1 5).wr Obj.RING_KIND 1 0 1 5).setSlc 5 { rings := [((0, 1), { xfers := [{ station := 0, tenant := 5, queue := 1, jobId := 9, kind := 8, hostAddr := 0x4000, stationAddr := 0x10000000, len := 64 }] })] }).wr Obj.MEM_STATE 1).cvXfer 5 0 1 { station := 0, tenant := 5, queue := 1, jobId := 9, kind := 8, hostAddr := 0x4000, stationAddr := 0x10000000, len := 64 }), by decide +kernel⟩,
   ⟨((((dev.wr Obj.RING_ENABLE 1 0 1 5).wr Obj.RING_STATE 1 0 1 5).wr Obj.RING_KIND 1 0 1 5).setSlc 5 { rings := [((0, 1), { xfers := [{ station := 0, tenant := 5, queue := 1, jobId := 9, kind := 8, hostAddr := 0x4000, stationAddr := 0x20000000, len := 64 }] })] }), 5, 0, 1, some [1, 2, 3], [1, 2, 3], { station := 0, tenant := 5, queue := 1, jobId := 9, kind := 8, hostAddr := 0x4000, stationAddr := 0x20000000, len := 64 }, { xfers := [{ station := 0, tenant := 5, queue := 1, jobId := 9, kind := 8, hostAddr := 0x4000, stationAddr := 0x20000000, len := 64 }] }, (((((dev.wr Obj.RING_ENABLE 1 0 1 5).wr Obj.RING_STATE 1 0 1 5).wr Obj.RING_KIND 1 0 1 5).setSlc 5 { rings := [((0, 1), { xfers := [{ station := 0, tenant := 5, queue := 1, jobId := 9, kind := 8, hostAddr := 0x4000, stationAddr := 0x20000000, len := 64 }] })] }).cvXfer 5 0 1 { station := 0, tenant := 5, queue := 1, jobId := 9, kind := 8, hostAddr := 0x4000, stationAddr := 0x20000000, len := 64 }), by decide +kernel⟩,
   ⟨((((dev.wr Obj.RING_ENABLE 1 0 1 5).wr Obj.RING_STATE 1 0 1 5).wr Obj.RING_KIND 1 0 1 5).setSlc 5 { rings := [((0, 1), { xfers := [{ station := 0, tenant := 5, queue := 1, jobId := 9, kind := 8, hostAddr := 0x4000, stationAddr := 0x10000000, len := 64 }] })] }), 5, 0, 1, none, { station := 0, tenant := 5, queue := 1, jobId := 9, kind := 8, hostAddr := 0x4000, stationAddr := 0x10000000, len := 64 }, { xfers := [{ station := 0, tenant := 5, queue := 1, jobId := 9, kind := 8, hostAddr := 0x4000, stationAddr := 0x10000000, len := 64 }] }, (((((dev.wr Obj.RING_ENABLE 1 0 1 5).wr Obj.RING_STATE 1 0 1 5).wr Obj.RING_KIND 1 0 1 5).setSlc 5 { rings := [((0, 1), { xfers := [{ station := 0, tenant := 5, queue := 1, jobId := 9, kind := 8, hostAddr := 0x4000, stationAddr := 0x10000000, len := 64 }] })] }).cvXfer 5 0 1 { station := 0, tenant := 5, queue := 1, jobId := 9, kind := 8, hostAddr := 0x4000, stationAddr := 0x10000000, len := 64 }), by decide +kernel⟩,
   ⟨((((dev.wr Obj.RING_ENABLE 1 0 1 5).wr Obj.RING_STATE 1 0 1 5).wr Obj.RING_KIND 1 0 1 5).setSlc 5 { rings := [((0, 1), { xfers := [{ station := 0, tenant := 5, queue := 1, jobId := 9, kind := 9, hostAddr := 0x4000, stationAddr := 0x10000000, len := 64 }] })] }), 5, 0, 1, { station := 0, tenant := 5, queue := 1, jobId := 9, kind := 9, hostAddr := 0x4000, stationAddr := 0x10000000, len := 64 }, { xfers := [{ station := 0, tenant := 5, queue := 1, jobId := 9, kind := 9, hostAddr := 0x4000, stationAddr := 0x10000000, len := 64 }] }, (((((dev.wr Obj.RING_ENABLE 1 0 1 5).wr Obj.RING_STATE 1 0 1 5).wr Obj.RING_KIND 1 0 1 5).setSlc 5 { rings := [((0, 1), { xfers := [{ station := 0, tenant := 5, queue := 1, jobId := 9, kind := 9, hostAddr := 0x4000, stationAddr := 0x10000000, len := 64 }] })] }).cvXfer 5 0 1 { station := 0, tenant := 5, queue := 1, jobId := 9, kind := 9, hostAddr := 0x4000, stationAddr := 0x10000000, len := 64 }), by decide +kernel⟩,
   ⟨((((dev.wr Obj.RING_ENABLE 1 0 1 5).wr Obj.RING_STATE 1 0 1 5).wr Obj.RING_KIND 1 0 1 5).setSlc 5 { rings := [((0, 1), { xfers := [{ station := 0, tenant := 5, queue := 1, jobId := 9, kind := 10, hostAddr := 0x4000, stationAddr := 0x10000000, len := 64 }] })] }), 5, 0, 1, { station := 0, tenant := 5, queue := 1, jobId := 9, kind := 10, hostAddr := 0x4000, stationAddr := 0x10000000, len := 64 }, { xfers := [{ station := 0, tenant := 5, queue := 1, jobId := 9, kind := 10, hostAddr := 0x4000, stationAddr := 0x10000000, len := 64 }] }, (((((dev.wr Obj.RING_ENABLE 1 0 1 5).wr Obj.RING_STATE 1 0 1 5).wr Obj.RING_KIND 1 0 1 5).setSlc 5 { rings := [((0, 1), { xfers := [{ station := 0, tenant := 5, queue := 1, jobId := 9, kind := 10, hostAddr := 0x4000, stationAddr := 0x10000000, len := 64 }] })] }).cvXfer 5 0 1 { station := 0, tenant := 5, queue := 1, jobId := 9, kind := 10, hostAddr := 0x4000, stationAddr := 0x10000000, len := 64 }), by decide +kernel⟩,
   ⟨((((dev.wr Obj.RING_ENABLE 1 0 1 5).wr Obj.RING_STATE 1 0 1 5).wr Obj.RING_KIND 1 0 1 5).setSlc 5 { rings := [((0, 1), { xfers := [{ station := 0, tenant := 5, queue := 1, jobId := 9, kind := 8, hostAddr := 0x4000, stationAddr := 0x10000000, len := 64, moved := true }], outstanding := 2 })] }), 5, 0, 1, { station := 0, tenant := 5, queue := 1, jobId := 9, kind := 8, hostAddr := 0x4000, stationAddr := 0x10000000, len := 64, moved := true }, [], by decide +kernel⟩,
   ⟨dev, 0, 5, by decide +kernel⟩,
   ⟨dev, 0, 5, by decide +kernel⟩,
   ⟨((dev.touchToTenant 5 ({ time := 1, seq := 0, amplitude := 5, x := 1, y := 2, id := 1, areaNodes := 3, kind := 1, cls := 0, prio := 1, zone := 1, station := 0, detail := 0, frame := 0 } : TouchRec)).wr Obj.TOUCH_LAND_ADDR 0x8000 0 0 5), 5, true, (((dev.touchToTenant 5 ({ time := 1, seq := 0, amplitude := 5, x := 1, y := 2, id := 1, areaNodes := 3, kind := 1, cls := 0, prio := 1, zone := 1, station := 0, detail := 0, frame := 0 } : TouchRec)).touchQ.getD 5 {}).takeSmall TouchRec.prio).1.getD (({ time := 1, seq := 0, amplitude := 5, x := 1, y := 2, id := 1, areaNodes := 3, kind := 1, cls := 0, prio := 1, zone := 1, station := 0, detail := 0, frame := 0 } : TouchRec)), by decide +kernel⟩,
   ⟨((dev.toTenant 5 (dev.mkRec 0x0012 3 0 5 [])).wr Obj.NOTIFY_LAND_ADDR 0x8000 0 0 5), 5, false, (((dev.toTenant 5 (dev.mkRec 0x0012 3 0 5 [])).noteQ.getD 5 {}).takeSmall Rec.prio).1.getD (dev.mkRec 0x0012 3 0 5 []), by decide +kernel⟩⟩

theorem test_MailboxesServeRequests_witnesses :
    (∃ (s : State) (path : MbPath) (body : Bytes), (s.mboxOpen path = true) ∧ ((s.mbox path).busy = false) ∧ (body ≠ []) ∧ (body.length ≤ 1024) ∧ (s.served path.who = true)) ∧
    (∃ (s : State) (path : MbPath) (body : Bytes), (s.mboxOpen path = true) ∧ ((s.mbox path).busy = false) ∧ (body ≠ []) ∧ (body.length ≤ 1024) ∧ (s.served path.who = false)) ∧
    (∃ (s : State) (path : MbPath), s.mboxOpen path = true) ∧
    (∃ (s : State) (path : MbPath) (r : Nat) (b : Bytes), (s.mbox path).reply = some (r, b)) :=
  ⟨⟨dev, (.tenant 0 5 : MbPath), [1, 2], by decide +kernel⟩,
   ⟨(dev.wr Obj.READY_HEADWORKS 0), (.host 0 : MbPath), [1, 2], by decide +kernel⟩,
   ⟨dev, (.tenant 0 5 : MbPath), by decide +kernel⟩,
   ⟨(dev.setMbox (.tenant 0 5) { reply := some (3, [1]) }), (.tenant 0 5 : MbPath), 3, [1], by decide +kernel⟩⟩

theorem test_TransfersOfPeersAreAnswered_witnesses :
    (∃ (s : State) (src : PeerSource) (b : Bytes) (level : Level) (key : Option Bytes) (k : Nat), (wideSource src = true) ∧ (s.frameTaken tyRead b = true) ∧ (s.frameLevel (framePeer src b) (parseHeader b) b = some (level, key)) ∧ ((s.takeSeq (framePeer src b) (parseHeader b).seq).1 = (.act, k))) ∧
    (∃ (s : State) (src : PeerSource) (b : Bytes) (level : Level) (key : Option Bytes) (k : Nat), (wideSource src = true) ∧ (s.frameTaken tyWrite b = true) ∧ (s.frameLevel (framePeer src b) (parseHeader b) b = some (level, key)) ∧ ((s.takeSeq (framePeer src b) (parseHeader b).seq).1 = (.act, k))) ∧
    (∃ (s : State) (src : PeerSource) (b : Bytes) (level : Level) (key : Option Bytes) (k : Nat), (wideSource src = true) ∧ (s.frameTaken tyCommit b = true) ∧ (s.frameLevel (framePeer src b) (parseHeader b) b = some (level, key)) ∧ ((s.takeSeq (framePeer src b) (parseHeader b).seq).1 = (.act, k))) ∧
    (∃ (s : State) (src : PeerSource) (b : Bytes) (level : Level) (key : Option Bytes) (k : Nat) (p : Peer), (wideSource src = true) ∧ (s.frameTaken tyNotify b = true) ∧ (s.frameLevel (framePeer src b) (parseHeader b) b = some (level, key)) ∧ ((s.takeSeq (framePeer src b) (parseHeader b).seq).1 = (.act, k)) ∧ ((s.framed src b k level).peerRec k = some p) ∧ (frameBody b ≠ [])) ∧
    (∃ (s : State) (src : PeerSource) (b : Bytes) (level : Level) (key : Option Bytes) (k : Nat), (wideSource src = true) ∧ (s.frameTaken tyBlock b = true) ∧ (s.frameLevel (framePeer src b) (parseHeader b) b = some (level, key)) ∧ ((s.takeSeq (framePeer src b) (parseHeader b).seq).1 = (.act, k)) ∧ (frameBody b ≠ [])) ∧
    (∃ (s : State) (bus : Nat) (fid : Nat) (data : Bytes) (k : Nat), (s.shortTaken tyRead bus fid data = true) ∧ ((s.takeSeq ⟨.can bus (parseShort fid data).src, 0⟩ (parseShort fid data).seq).1 = (.act, k))) ∧
    (∃ (s : State) (bus : Nat) (fid : Nat) (data : Bytes) (k : Nat), (s.shortTaken tyWrite bus fid data = true) ∧ ((s.takeSeq ⟨.can bus (parseShort fid data).src, 0⟩ (parseShort fid data).seq).1 = (.act, k))) ∧
    (∃ (s : State) (bus : Nat) (fid : Nat) (data : Bytes) (k : Nat), (s.shortTaken tyCommit bus fid data = true) ∧ ((s.takeSeq ⟨.can bus (parseShort fid data).src, 0⟩ (parseShort fid data).seq).1 = (.act, k))) ∧
    (∃ (s : State) (bus : Nat) (fid : Nat) (data : Bytes) (k : Nat), (s.shortTaken tyNotify bus fid data = true) ∧ ((s.takeSeq ⟨.can bus (parseShort fid data).src, 0⟩ (parseShort fid data).seq).1 = (.act, k))) ∧
    (∃ (s : State) (i : Fin 512) (x : Subscription) (p : Place), (s.hwGated 0 = false) ∧ (s.subscriptions[i.val]? = some x) ∧ (placeOf x.key = some p) ∧ (s.isHwReady 9 = true) ∧ (x.lastSent + x.intervalMs * 1000000 ≤ s.time) ∧ (x.condition = 3 ∨ s.changesOf p x ≠ 0)) :=
  ⟨⟨{ dev with net := { dev.net with peers := [(3, { id := ⟨.mac 77, 0⟩, last := 6, lastAt := 0 })] } }, (.mac 77), (makeFrame { typ := tyRead, response := false, qual := false, relayed := false, tagged := false, seq := 7, dest := 2 ^ 31, src := 0, tenant := 0, length := 0, session := 0, hops := 3 } ((toBE 4 (addressOf 0 0x10 0) ++ toBE 2 0 ++ toBE 2 0 ++ toBE 4 0 ++ toBE 2 1 ++ [])) none), .none, none, 3, by decide +kernel⟩,
   ⟨{ dev with net := { dev.net with peers := [(3, { id := ⟨.mac 77, 0⟩, last := 6, lastAt := 0 })] } }, (.mac 77), (makeFrame { typ := tyWrite, response := false, qual := false, relayed := false, tagged := false, seq := 7, dest := 2 ^ 31, src := 0, tenant := 0, length := 0, session := 0, hops := 3 } ((toBE 4 (addressOf 0 0x10 0) ++ toBE 2 0 ++ toBE 2 0 ++ toBE 4 0 ++ toBE 2 1 ++ [4])) none), .none, none, 3, by decide +kernel⟩,
   ⟨{ dev with net := { dev.net with peers := [(3, { id := ⟨.mac 77, 0⟩, last := 6, lastAt := 0 })] } }, (.mac 77), (makeFrame { typ := tyCommit, response := false, qual := false, relayed := false, tagged := false, seq := 7, dest := 2 ^ 31, src := 0, tenant := 0, length := 0, session := 0, hops := 3 } ((toBE 4 (addressOf 0 0x10 0) ++ toBE 2 0 ++ toBE 2 0 ++ toBE 4 0 ++ toBE 2 4 ++ [0, 0, 0, 1])) none), .none, none, 3, by decide +kernel⟩,
   ⟨{ dev with net := { dev.net with peers := [(3, { id := ⟨.mac 77, 0⟩, last := 6, lastAt := 0 })] } }, (.mac 77), (makeFrame { typ := tyNotify, response := false, qual := false, relayed := false, tagged := false, seq := 7, dest := 2 ^ 31, src := 0, tenant := 0, length := 0, session := 0, hops := 3 } (toBE 4 (addressOf 0 0x10 0) ++ [1, 0] ++ toBE 4 100) none), .none, none, 3, { id := ⟨.mac 77, 0⟩, last := 7, recorded := [7], lastAt := dev.time }, by decide +kernel⟩,
   ⟨{ dev with net := { dev.net with peers := [(3, { id := ⟨.mac 77, 0⟩, last := 6, lastAt := 0 })] } }, (.mac 77), (makeFrame { typ := tyBlock, response := false, qual := false, relayed := false, tagged := false, seq := 7, dest := 2 ^ 31, src := 0, tenant := 0, length := 0, session := 0, hops := 3 } (toBE 4 (addressOf 5 0x20 0) ++ toBE 4 0 ++ toBE 2 2 ++ [1, 2]) none), .none, none, 3, by decide +kernel⟩,
   ⟨({ dev with net := { dev.net with peers := [(3, { id := ⟨.can 1 0, 0⟩, last := 8, lastAt := 0 })] } } : State).wr Obj.CAN_NODE 3 0 1, 1, ({ priority := 2, typ := tyRead, dest := 3, src := 0, seq := 9, response := false, qual := false, tenant := 0, addr := addressOf 0 0x10 0, payload := [] } : ShortFrame).id, ({ priority := 2, typ := tyRead, dest := 3, src := 0, seq := 9, response := false, qual := false, tenant := 0, addr := addressOf 0 0x10 0, payload := [] } : ShortFrame).bytes, 3, by decide +kernel⟩,
   ⟨({ dev with net := { dev.net with peers := [(3, { id := ⟨.can 1 0, 0⟩, last := 8, lastAt := 0 })] } } : State).wr Obj.CAN_NODE 3 0 1, 1, ({ priority := 2, typ := tyWrite, dest := 3, src := 0, seq := 9, response := false, qual := false, tenant := 0, addr := addressOf 0 0x10 0, payload := [] } : ShortFrame).id, ({ priority := 2, typ := tyWrite, dest := 3, src := 0, seq := 9, response := false, qual := false, tenant := 0, addr := addressOf 0 0x10 0, payload := [] } : ShortFrame).bytes, 3, by decide +kernel⟩,
   ⟨({ dev with net := { dev.net with peers := [(3, { id := ⟨.can 1 0, 0⟩, last := 8, lastAt := 0 })] } } : State).wr Obj.CAN_NODE 3 0 1, 1, ({ priority := 2, typ := tyCommit, dest := 3, src := 0, seq := 9, response := false, qual := false, tenant := 0, addr := addressOf 0 0x10 0, payload := [] } : ShortFrame).id, ({ priority := 2, typ := tyCommit, dest := 3, src := 0, seq := 9, response := false, qual := false, tenant := 0, addr := addressOf 0 0x10 0, payload := [] } : ShortFrame).bytes, 3, by decide +kernel⟩,
   ⟨({ dev with net := { dev.net with peers := [(3, { id := ⟨.can 1 0, 0⟩, last := 8, lastAt := 0 })] } } : State).wr Obj.CAN_NODE 3 0 1, 1, ({ priority := 2, typ := tyNotify, dest := 3, src := 0, seq := 9, response := false, qual := false, tenant := 0, addr := addressOf 0 0x10 0, payload := [] } : ShortFrame).id, ({ priority := 2, typ := tyNotify, dest := 3, src := 0, seq := 9, response := false, qual := false, tenant := 0, addr := addressOf 0 0x10 0, payload := [] } : ShortFrame).bytes, 3, by decide +kernel⟩,
   ⟨{ dev with subscriptions := [{ peer := ⟨.mac 77, 0⟩, key := Obj.DEVICE_STATE.key 0 0 512 0, condition := 3, intervalMs := 100, seen := 0, lastSent := 5 }] }, 0, { peer := ⟨.mac 77, 0⟩, key := Obj.DEVICE_STATE.key 0 0 512 0, condition := 3, intervalMs := 100, seen := 0, lastSent := 5 }, ⟨Obj.DEVICE_STATE, 0, 0, 0, 512⟩, by decide +kernel⟩⟩

theorem test_DictionaryRequestsAct_witnesses :
    (∃ (s : State) (who : Requester) (area : Fin 16) (idx : Nat) (sub : Nat) (tq : Option (Fin 512)) (data : Bytes) (p : Place), (s.accepts who p.r (p.r.ty.decode data) p.n p.i p.t p.j) ∧ (s.isQuarantined who = false) ∧ (sub ≠ 0xFE) ∧ (sub ≠ 0xFF) ∧ (s.place who area idx sub (match tq with | some u => u.val | none => 512) = .ok p) ∧ (s.placeAccess who p true = none) ∧ (p.r.ty.size = some data.length) ∧ ((handlersA ++ handlersB ++ handlersC ++ handlersD ++ handlersE).find? (fun h => h.1 = p.r) = none) ∧ (s.valueOk p (p.r.ty.decode data) = true) ∧ (s.writeRule p (p.r.ty.decode data) = none)) ∧
    (∃ (s : State) (who : Requester) (n : Fin 8) (v : Nat), (s.accepts who Obj.STATION_COMMIT v n) ∧ (v = 1) ∧ (s.isStReady n 1 = true)) ∧
    (∃ (s : State) (who : Requester) (area : Fin 16) (idx : Nat) (tq : Option (Fin 512)) (gen : Nat) (p : Place), (s.served who = true) ∧ (s.isQuarantined who = false) ∧ (s.resultPlace who area idx (match tq with | some u => u.val | none => 512) = .ok p) ∧ ((s.results.getD p.key {}).generation = gen)) ∧
    (∃ (s : State) (who : Requester) (area : Fin 16) (idx : Nat) (n : Nat) (i : Nat) (r : ObjRow) (p : Place), (s.served who = true) ∧ (resultRow area idx = some (r, n, i)) ∧ (r.sub ≠ 0xFE) ∧ (r.sub ≠ 0xFF) ∧ (s.place who area idx r.sub 512 = .ok p) ∧ (s.placeAccess who p false = none) ∧ (p.r.ty = .blob) ∧ (p.r.result = true)) ∧
    (∃ (s : State) (who : Requester) (station : Option (Fin 8)) (p : Place), (s.served who = true) ∧ (s.place who (match station with | some n => 8 + n.val | none => 0) (match station with | some _ => 0x0060 | none => 0x0040) 1 512 = .ok p) ∧ (s.placeAccess who p false = none) ∧ (p.r = Obj.HW_LOG_RING ∨ p.r = Obj.STATION_LOG_RING)) ∧
    (∃ (s : State) (who : Requester) (n : Fin 8) (stall : Bool) (p : Place), (s.served who = true) ∧ (stall = true) ∧ (s.place who (8 + n.val) Obj.RETRAIN_STALL_MAX.idx 0 512 = .ok p) ∧ (p.r = Obj.RETRAIN_STALL_MAX) ∧ (p.n = n.val) ∧ (p.i = 0) ∧ (p.j = 0) ∧ (p.t = 512) ∧ (s.placeAccess who p false = none)) ∧
    (∃ (s : State) (who : Requester) (n : Fin 8) (stall : Bool) (p : Place), (s.served who = true) ∧ (stall = false) ∧ (s.place who (8 + n.val) Obj.SAVE_TIME_MAX.idx 0 512 = .ok p) ∧ (p.r = Obj.SAVE_TIME_MAX) ∧ (p.n = n.val) ∧ (p.i = 0) ∧ (p.j = 0) ∧ (p.t = 512) ∧ (s.placeAccess who p false = none)) ∧
    (∃ (s : State) (f : Nat), (s.hwGated 0 = false) ∧ (s.settings.firstChange = some f) ∧ (s.isHwReady 16 = true) ∧ (s.settings.lastChange + 2000000000 ≤ s.time ∨ f + 10000000000 ≤ s.time)) ∧
    (∃ (s : State) (who : Requester) (v : Bool), (s.accepts who Obj.SETTINGS_SAVE 1) ∧ (v = true) ∧ (s.isHwReady 16 = true)) ∧
    (∃ (s : State) (ok : Bool) (job : SaveJob), (ok = true) ∧ (s.settings.saving = some job)) ∧
    (∃ (s : State) (ok : Bool) (job : SaveJob), (ok = false) ∧ (s.settings.saving = some job) ∧ (s.settings.failed + 1 < 3)) ∧
    (∃ (s : State) (ok : Bool) (job : SaveJob), (ok = false) ∧ (s.settings.saving = some job) ∧ (3 ≤ s.settings.failed + 1)) ∧
    (∃ (s : State) (who : Requester) (v : Bool), (s.accepts who Obj.SETTINGS_DEFAULTS 1) ∧ (v = true) ∧ (s.isHwReady 16 = true)) :=
  ⟨⟨dev, .host 0, 8, 0x2101, 0, none, [0, 10], (match dev.place (.host 0) 8 0x2101 0 512 with | .ok p => p | .error _ => ⟨Obj.DEVICE_STATE, 0, 0, 0, 512⟩), by decide +kernel⟩,
   ⟨dev, .host 0, 0, 1, by decide +kernel⟩,
   ⟨dev, .host 0, 8, 0x3002, none, 0, (match dev.resultPlace (.host 0) 8 Obj.MODE_RESULT.idx 512 with | .ok p => p | .error _ => ⟨Obj.DEVICE_STATE, 0, 0, 0, 512⟩), by decide +kernel⟩,
   ⟨dev, .host 0, 6, Obj.ATTEST_REPORT.idx, 0, 0, Obj.ATTEST_REPORT, ⟨Obj.ATTEST_REPORT, 0, 0, 0, 512⟩, by decide +kernel⟩,
   ⟨dev, .host 0, some 0, (match dev.place (.host 0) 8 0x0060 1 512 with | .ok p => p | .error _ => ⟨Obj.DEVICE_STATE, 0, 0, 0, 512⟩), by decide +kernel⟩,
   ⟨(dev.wr Obj.RETRAIN_STALL_MAX 7), .host 0, 0, true, ⟨Obj.RETRAIN_STALL_MAX, 0, 0, 0, 512⟩, by decide +kernel⟩,
   ⟨(dev.wr Obj.SAVE_TIME_MAX 7), .host 0, 0, false, ⟨Obj.SAVE_TIME_MAX, 0, 0, 0, 512⟩, by decide +kernel⟩,
   ⟨{ dev with time := 9000000000, settings := { firstChange := some 5, lastChange := 6 } }, 5, by decide +kernel⟩,
   ⟨dev, .host 0, true, by decide +kernel⟩,
   ⟨{ dev with settings := { saving := some { groups := [], bankChange := false } } }, true, { groups := [], bankChange := false }, by decide +kernel⟩,
   ⟨{ dev with settings := { saving := some { groups := [], bankChange := false } } }, false, { groups := [], bankChange := false }, by decide +kernel⟩,
   ⟨{ dev with settings := { saving := some { groups := [], bankChange := false }, failed := 2 } }, false, { groups := [], bankChange := false }, by decide +kernel⟩,
   ⟨dev, .host 0, true, by decide +kernel⟩⟩

theorem test_TouchPairsAndStates_witnesses :
    (∃ (s : State) (n : Fin 8), (s.touchState n = toScanning) ∧ ((s.tch n).pairStart = none) ∧ (s.periodPassed n (s.rdN Obj.TARGET_RATE_HZ n) = true) ∧ (s.slotNow n = true) ∧ ((s.tch n).skipNext = false) ∧ ((s.tch n).committed = none) ∧ ((s.tch n).nextFreq = none)) ∧
    (∃ (s : State) (n : Fin 8), (s.touchState n = toScanning) ∧ ((s.tch n).pairStart = none) ∧ (s.periodPassed n (s.rdN Obj.TARGET_RATE_HZ n) = true) ∧ (s.slotNow n = true) ∧ ((s.tch n).skipNext = true)) ∧
    (∃ (s : State) (n : Fin 8) (f : Nat), (s.touchState n = toScanning) ∧ ((s.tch n).pairStart = none) ∧ (s.periodPassed n (s.rdN Obj.TARGET_RATE_HZ n) = true) ∧ (s.slotNow n = true) ∧ ((s.tch n).skipNext = false) ∧ ((s.tch n).committed = none) ∧ ((s.tch n).nextFreq = some f)) ∧
    (∃ (s : State) (n : Fin 8) (b : Nat), ((s.tch n).pairStart = some b) ∧ ((s.dsp n).modeHeld = false) ∧ (s.touchState n = toScanning)) ∧
    (∃ (s : State) (n : Fin 8) (b : Nat), ((s.tch n).pairStart = some b) ∧ ((s.dsp n).modeHeld = false) ∧ (s.touchState n = toCalibrating)) ∧
    (∃ (s : State) (n : Fin 8), (s.touchState n = toCalibrating) ∧ ((s.tch n).sleepCal = true) ∧ (s.periodPassed n (s.rdN Obj.WAKE_SCAN_HZ n) = true) ∧ ((s.tch n).skipNext = false)) ∧
    (∃ (s : State) (n : Fin 8), (s.touchState n = toCalibrating) ∧ ((s.tch n).sleepCal = true) ∧ (s.periodPassed n (s.rdN Obj.WAKE_SCAN_HZ n) = true) ∧ ((s.tch n).skipNext = true)) ∧
    (∃ (s : State) (n : Fin 8) (b : Nat), ((s.tch n).pairStart = some b) ∧ (4000000000 ≤ (s.time - b) * s.rdN Obj.TARGET_RATE_HZ n)) ∧
    (∃ (s : State) (n : Fin 8), (s.tch n).calibratedAt + s.rdN Obj.HOLD_LIMIT_S n * 1000000000 ≤ s.time) ∧
    (∃ (s : State) (who : Requester) (n : Fin 8) (v : Nat), (s.accepts who Obj.TOUCH_COMMIT v n) ∧ (v = 1) ∧ (s.isStReady n 7 = true)) ∧
    (∃ (s : State) (n : Fin 8), s.touchState n = toCalibrating ∨ s.touchState n = toScanning ∨ s.touchState n = toWakeScan) ∧
    (∃ (s : State) (n : Fin 8), (s.touchState n = toOff) ∧ ((s.tch n).released = true)) ∧
    (∃ (s : State) (n : Fin 8), (s.touchState n = toHalted) ∧ ((s.tch n).pumpOk = true) ∧ (s.passed (.touchHalt n) 1000000000 = true)) ∧
    (∃ (s : State) (who : Requester) (n : Fin 8) (v : Nat), (s.accepts who Obj.REFERENCE_CAPTURE v n) ∧ (v ≠ 0) ∧ (s.isStReady n 7 = true) ∧ (s.isPending Obj.REFERENCE_RESULT n = false) ∧ (s.touchState n = toScanning)) ∧
    (∃ (s : State) (n : Fin 8) (pairs : List (List CapturePair)) (c : Capture), ((s.tch n).capture = some c) ∧ ((∀ l ∈ pairs, ∀ k ∈ List.range (s.txN n * s.rxN n), 2 * variation (l.map CapturePair.nodes) k ≤ s.rdN Obj.SUSPECT_THRESHOLD n)) ∧ ((∀ l ∈ pairs.zipIdx, ∀ p ∈ l.1, noiseAbove (s.noiseOf n l.2 p.noise) (s.rdN Obj.NOISE_HOP_LEVEL n) = false))) ∧
    (∃ (s : State) (n : Fin 8) (pairs : List (List CapturePair)) (c : Capture), ((s.tch n).capture = some c) ∧ ((∃ l ∈ pairs, ∃ k ∈ List.range (s.txN n * s.rxN n), s.rdN Obj.SUSPECT_THRESHOLD n < 2 * variation (l.map CapturePair.nodes) k))) ∧
    (∃ (s : State) (n : Fin 8) (pairs : List (List CapturePair)) (c : Capture), ((s.tch n).capture = some c) ∧ ((∀ l ∈ pairs, ∀ k ∈ List.range (s.txN n * s.rxN n), 2 * variation (l.map CapturePair.nodes) k ≤ s.rdN Obj.SUSPECT_THRESHOLD n)) ∧ ((∃ l ∈ pairs.zipIdx, ∃ p ∈ l.1, noiseAbove (s.noiseOf n l.2 p.noise) (s.rdN Obj.NOISE_HOP_LEVEL n) = true))) ∧
    (∃ (s : State) (n : Fin 8) (coarse : Nat) (found : List (Nat × Nat)) (g : Nat), (s.touchState n = toWakeScan) ∧ (s.stationState n = stSleep) ∧ ((s.wakeScan n coarse found).1 = g) ∧ (g = 0)) ∧
    (∃ (s : State) (n : Fin 8) (coarse : Nat) (found : List (Nat × Nat)) (g : Nat), (s.touchState n = toWakeScan) ∧ (s.stationState n = stSleep) ∧ ((s.wakeScan n coarse found).1 = g) ∧ (g ≠ 0) ∧ (((s.wakeScan n coarse found).2.ctl n).moving = none)) ∧
    (∃ (s : State) (who : Requester) (n : Fin 8) (v : Nat), (s.accepts who Obj.WAKE_PENDING v n) ∧ (v = 0)) ∧
    (∃ (s : State) (n : Fin 8) (digest : Bytes), (s.touchState n ≠ toOff) ∧ ((s.tch n).pairStart = none) ∧ (((s.setTch n { s.tch n with skipNext := true }).extend 4 digest).swapping rkTch ≠ some n.val)) :=
  ⟨⟨(((dev.wr Obj.TOUCH_STATE toScanning).setDsp 0 { counting := true, published := { line := 5000, start := 999990000, blank := 999900000, active := 1003000000 } }).setTch 0 { pumpOk := true }), 0, by decide +kernel⟩,
   ⟨(((dev.wr Obj.TOUCH_STATE toScanning).setDsp 0 { counting := true, published := { line := 5000, start := 999990000, blank := 999900000, active := 1003000000 } }).setTch 0 { skipNext := true }), 0, by decide +kernel⟩,
   ⟨(((dev.wr Obj.TOUCH_STATE toScanning).setDsp 0 { counting := true, published := { line := 5000, start := 999990000, blank := 999900000, active := 1003000000 } }).setTch 0 { nextFreq := some 3 }), 0, 3, by decide +kernel⟩,
   ⟨((((dev.wr Obj.TX_COUNT 8).wr Obj.RX_COUNT 8).wr Obj.TOUCH_STATE toScanning).setTch 0 { pairStart := some 7, pumpOk := true, base := List.replicate 64 5, selfBase := List.replicate 16 5 }), 0, 7, by decide +kernel⟩,
   ⟨((((dev.wr Obj.TX_COUNT 8).wr Obj.RX_COUNT 8).wr Obj.TOUCH_STATE toCalibrating).setTch 0 { pairStart := some 7, pumpOk := true, base := List.replicate 64 5, selfBase := List.replicate 16 5 }), 0, 7, by decide +kernel⟩,
   ⟨((((dev.wr Obj.TX_COUNT 8).wr Obj.RX_COUNT 8).wr Obj.TOUCH_STATE toCalibrating).setTch 0 { sleepCal := true }), 0, by decide +kernel⟩,
   ⟨((((dev.wr Obj.TX_COUNT 8).wr Obj.RX_COUNT 8).wr Obj.TOUCH_STATE toCalibrating).setTch 0 { sleepCal := true, skipNext := true }), 0, by decide +kernel⟩,
   ⟨((dev.wr Obj.TOUCH_STATE toScanning).setTch 0 { pairStart := some 7 }), 0, 7, by decide +kernel⟩,
   ⟨(dev.wr Obj.HOLD_LIMIT_S 1), 0, by decide +kernel⟩,
   ⟨dev, .host 0, 0, 1, by decide +kernel⟩,
   ⟨((dev.wr Obj.TOUCH_STATE toScanning).setTch 0 { pumpOk := true, pairStart := some 5 }), 0, by decide +kernel⟩,
   ⟨((dev.wr Obj.TOUCH_STATE toOff).setTch 0 { released := true }), 0, by decide +kernel⟩,
   ⟨((dev.wr Obj.TOUCH_STATE toHalted).setTch 0 { pumpOk := true, released := true }), 0, by decide +kernel⟩,
   ⟨(dev.wr Obj.TOUCH_STATE toScanning), .host 0, 0, 1, by decide +kernel⟩,
   ⟨((((dev.wr Obj.TX_COUNT 8).wr Obj.RX_COUNT 8).wr Obj.TOUCH_STATE toScanning).setTch 0 { capture := some ⟨true⟩ }), 0, [[⟨List.replicate 64 10, List.replicate 16 10, [1]⟩]], ⟨true⟩, by decide +kernel⟩,
   ⟨((((dev.wr Obj.TX_COUNT 8).wr Obj.RX_COUNT 8).wr Obj.TOUCH_STATE toScanning).setTch 0 { capture := some ⟨true⟩ }), 0, [[⟨List.replicate 64 10, [], []⟩, ⟨List.replicate 64 60000, [], []⟩]], ⟨true⟩, by decide +kernel⟩,
   ⟨((((dev.wr Obj.TX_COUNT 8).wr Obj.RX_COUNT 8).wr Obj.TOUCH_STATE toScanning).setTch 0 { capture := some ⟨true⟩ }), 0, [[⟨[], [], [100000]⟩]], ⟨true⟩, by decide +kernel⟩,
   ⟨((dev.wr Obj.STATION_STATE 3).wr Obj.TOUCH_STATE toWakeScan), 0, 15, [(100, 100)], 0, by decide +kernel⟩,
   ⟨((((dev.wr Obj.STATION_STATE 3).wr Obj.TOUCH_STATE toWakeScan).wr Obj.WAKE_GESTURES 7).setTch 0 { wakePrev := [(100, 100)], wakeNow := some ⟨0, 100, 100, 100, 100, false⟩ }), 0, 15, [(100, 100)], 2, by decide +kernel⟩,
   ⟨(dev.wr Obj.WAKE_PENDING 1), .host 0, 0, 0, by decide +kernel⟩,
   ⟨(dev.wr Obj.TOUCH_STATE toScanning), 0, [1, 2], by decide +kernel⟩⟩

theorem test_HapticDriverActs_witnesses :
    (∃ (s : State) (n : Fin 8) (tr : Trigger), (s.hapState n = haIdle) ∧ ((s.hap n).charged = true) ∧ ((s.hapticQ.getD n {}).peekSmall Trigger.prio = some tr) ∧ ((s.setHap n { s.hap n with phase := 0, blendLeft := (s.hap n).blendLeft - 1 }).takenStatus n tr = none) ∧ (tr.stream = false)) ∧
    (∃ (s : State) (n : Fin 8) (p : Play), (s.hapState n = haPlaying) ∧ ((s.hap n).play = some p) ∧ ((s.hapticQ.getD n {}).peekSmall Trigger.prio = none) ∧ (p.begun = true) ∧ (p.trig.stream = false) ∧ (p.gapLeft = 0) ∧ (p.idx < effCount (s.effect n p.trig.effect))) ∧
    (∃ (s : State) (n : Fin 8) (shunt : Int) (vca : Int) (vcb : Int) (cur : Rat) (volt : Rat), (cur = s.coilMa n shunt) ∧ (volt = (((vca - vcb) * 16 : Int) : Rat) / 1000) ∧ (s.hapState n ≠ haOff)) ∧
    (∃ (s : State) (n : Fin 8) (shunt : Int) (cur : Rat), (cur = s.coilMa n shunt) ∧ (s.hapState n = haOff)) ∧
    (∃ (s : State) (n : Fin 8), (s.hapState n = haBraking) ∧ (s.brakeDue n = true)) ∧
    (∃ (s : State) (n : Fin 8), (s.hapState n = haPlaying) ∧ (0 < (s.hap n).blendLeft) ∧ (24 ≤ (s.hap n).brakeQuiet)) ∧
    (∃ (s : State) (n : Fin 8) (p : Play), (s.hapState n = haPlaying) ∧ ((s.hap n).play = some p) ∧ (48 * s.rdN Obj.DRIVE_TIME_LIMIT_MS n ≤ (s.hap n).driveRun)) ∧
    (∃ (s : State) (n : Fin 8) (shunt : Int), (s.hapState n ≠ haOff) ∧ ((s.rdN Obj.OC_LIMIT_MA n : Rat) < absR (s.coilMa n shunt)) ∧ ((s.hap n).stopping = false)) ∧
    (∃ (s : State) (n : Fin 8) (shunt : Int), (s.hapState n ≠ haOff) ∧ ((s.rdN Obj.OC_LIMIT_MA n : Rat) < absR (s.coilMa n shunt)) ∧ ((s.hap n).stopping = true)) ∧
    (∃ (s : State) (n : Fin 8), (s.hapState n ≠ haOff) ∧ (48 ≤ (s.hap n).below) ∧ ((s.hap n).stopping = false)) ∧
    (∃ (s : State) (n : Fin 8), (s.hapState n ≠ haOff) ∧ ((s.hap n).below < 48) ∧ (48 ≤ (s.hap n).above) ∧ ((s.hap n).stopping = false)) ∧
    (∃ (s : State) (n : Fin 8), (s.hapState n = haPlaying) ∧ (240 ≤ (s.hap n).openRun) ∧ ((s.hap n).stopping = false)) ∧
    (∃ (s : State) (n : Fin 8), (s.hapState n = haFault) ∧ (s.rdN Obj.HAPTIC_FAULT_CAUSE n = 2 ∨ s.rdN Obj.HAPTIC_FAULT_CAUSE n = 3) ∧ (480 ≤ (s.hap n).inRange)) ∧
    (∃ (s : State) (who : Requester) (n : Fin 8) (v : Nat), (s.accepts who Obj.FAULT_CLEAR v n) ∧ (v = 1) ∧ (s.hapState n = haFault) ∧ (s.rdN Obj.HAPTIC_FAULT_CAUSE n = 1 ∨ s.rdN Obj.HAPTIC_FAULT_CAUSE n = 4)) ∧
    (∃ (s : State) (n : Fin 8), (s.hapState n ≠ haOff) ∧ (s.passed (.bootstrap n) 1000000 = true)) ∧
    (∃ (s : State) (u : Fin 512) (n : Fin 8) (v : Nat), (s.accepts (.tenant u) Obj.HAPTIC_TRIGGER v n 0 u) ∧ (bits 29 24 v = 0) ∧ (bit 6 v = false)) ∧
    (∃ (s : State) (p : Fin 2) (n : Fin 8) (tt : Fin 512) (v : Nat), (s.accepts (.host p) Obj.HAPTIC_TRIGGER v n 0 tt) ∧ (bits 29 24 v = 0) ∧ (bit 6 v = false)) ∧
    (∃ (s : State) (p : Fin 2) (u : Fin 512) (n : Fin 8) (v : Nat), (s.hwGated 2 = false) ∧ (s.pageWrite p u = .taken) ∧ (s.sliceOn u n = true) ∧ (s.hasRight u n 3 = true) ∧ (bits 29 24 v = 0) ∧ (bit 6 v = false)) ∧
    (∃ (s : State) (who : Requester) (n : Fin 8) (e : Fin 64) (data : Bytes), (s.served who = true) ∧ (s.checkAccess who Obj.EFFECT_DATA true n e = none) ∧ ((match who with | .tenant u => decide ((s.effect n e).length = 0) || decide (s.rdN Obj.EFFECT_OWNER n e = u.val) | _ => true) = true) ∧ (18 ≤ data.length) ∧ (data.length ≤ 65536) ∧ (effectOk data = true) ∧ (s.effectBytes n e + data.length ≤ 65536) ∧ (s.effectBusy n e = false)) ∧
    (∃ (s : State) (who : Requester) (n : Fin 8) (v : Nat), (s.accepts who Obj.HAPTIC_COMMIT v n) ∧ (v = 1) ∧ (s.isStReady n 8 = true)) ∧
    (∃ (s : State) (n : Fin 8) (len : Nat) (at_ : Nat) (avail : Nat) (k : Nat) (tt : Fin 512) (p : Play), (s.hapState n = haPlaying) ∧ ((s.hap n).play = some p) ∧ (p.trig.owner = .tenant tt.val) ∧ (p.trig.stream = true) ∧ (s.rdN Obj.HAP_STREAM_SIZE n 0 tt ≠ 0) ∧ (at_ = ((s.rdN Obj.HAP_STREAM_READ n 0 tt + 2 * p.buf.length) % s.rdN Obj.HAP_STREAM_SIZE n 0 tt)) ∧ (avail = (s.rdN Obj.HAP_STREAM_WRITE n 0 tt + s.rdN Obj.HAP_STREAM_SIZE n 0 tt - at_) % s.rdN Obj.HAP_STREAM_SIZE n 0 tt) ∧ (k = min (min len avail) (s.rdN Obj.HAP_STREAM_SIZE n 0 tt - at_) / 2 * 2) ∧ (k ≠ 0) ∧ (s.memServes n = true) ∧ (s.inside (.tenant tt) n 1 (s.rdN Obj.HAP_STREAM_ADDR n 0 tt + at_) k = true) ∧ (s.isPoisoned n (s.rdN Obj.HAP_STREAM_ADDR n 0 tt + at_) k = false)) :=
  ⟨⟨(((dev.wr Obj.HAPTIC_STATE haIdle).setHap 0 { charged := true }).wrBlob Obj.EFFECT_DATA ([1, 0, 100, 0, 2, 0, 0, 0] ++ List.replicate 8 0 ++ [1, 0, 2, 0]) 0 3).hapQueue 0 { owner := .manager, time := dev.time, prio := 1, gain := 200, repeats := 0, stream := false, effect := 3 }, 0, { owner := .manager, time := dev.time, prio := 1, gain := 200, repeats := 0, stream := false, effect := 3 }, by decide +kernel⟩,
   ⟨(((dev.wr Obj.HAPTIC_STATE haPlaying).setHap 0 { play := some { trig := { owner := .manager, time := dev.time, prio := 1, gain := 200, repeats := 0, stream := false, effect := 3 }, begun := true, idx := 1, start := 5 } }).wrBlob Obj.EFFECT_DATA ([1, 0, 100, 0, 2, 0, 0, 0] ++ List.replicate 8 0 ++ [1, 0, 2, 0]) 0 3), 0, { trig := { owner := .manager, time := dev.time, prio := 1, gain := 200, repeats := 0, stream := false, effect := 3 }, begun := true, idx := 1, start := 5 }, by decide +kernel⟩,
   ⟨((dev.wr Obj.HAPTIC_STATE haIdle).setHap 0 { }), 0, 5000, 1000000, 100000, (dev.coilMa 0 5000), 14400, by decide +kernel⟩,
   ⟨dev, 0, 5000, (dev.coilMa 0 5000), by decide +kernel⟩,
   ⟨((dev.wr Obj.HAPTIC_STATE haBraking).setHap 0 { brakeQuiet := 30, play := some { trig := { owner := .manager, time := dev.time, prio := 1, gain := 200, repeats := 0, stream := false, effect := 3 }, begun := true, idx := 1, start := 5 } }), 0, by decide +kernel⟩,
   ⟨((dev.wr Obj.HAPTIC_STATE haPlaying).setHap 0 { brakeQuiet := 30, blendLeft := 9 }), 0, by decide +kernel⟩,
   ⟨((dev.wr Obj.HAPTIC_STATE haPlaying).setHap 0 { driveRun := 10 ^ 9, play := some { trig := { owner := .manager, time := dev.time, prio := 1, gain := 200, repeats := 0, stream := false, effect := 3 }, begun := true, idx := 1, start := 5 } }), 0, { trig := { owner := .manager, time := dev.time, prio := 1, gain := 200, repeats := 0, stream := false, effect := 3 }, begun := true, idx := 1, start := 5 }, by decide +kernel⟩,
   ⟨(((dev.wr Obj.OC_LIMIT_MA 2000).wr Obj.HAPTIC_STATE haPlaying).setHap 0 { play := some { trig := { owner := .manager, time := dev.time, prio := 1, gain := 200, repeats := 0, stream := false, effect := 3 }, begun := true, idx := 1, start := 5 } }), 0, (-150000), by decide +kernel⟩,
   ⟨(((dev.wr Obj.OC_LIMIT_MA 2000).wr Obj.HAPTIC_STATE haBraking).setHap 0 { stopping := true, play := some { trig := { owner := .manager, time := dev.time, prio := 1, gain := 200, repeats := 0, stream := false, effect := 3 }, begun := true, idx := 1, start := 5 } }), 0, 150000, by decide +kernel⟩,
   ⟨((dev.wr Obj.HAPTIC_STATE haIdle).setHap 0 { below := 48 }), 0, by decide +kernel⟩,
   ⟨((dev.wr Obj.HAPTIC_STATE haIdle).setHap 0 { above := 48 }), 0, by decide +kernel⟩,
   ⟨((dev.wr Obj.HAPTIC_STATE haPlaying).setHap 0 { openRun := 240, play := some { trig := { owner := .manager, time := dev.time, prio := 1, gain := 200, repeats := 0, stream := false, effect := 3 }, begun := true, idx := 1, start := 5 } }), 0, by decide +kernel⟩,
   ⟨(((dev.wr Obj.HAPTIC_FAULT_CAUSE 2).wr Obj.HAPTIC_STATE haFault).setHap 0 { inRange := 480 }), 0, by decide +kernel⟩,
   ⟨(((dev.wr Obj.HAPTIC_FAULT_CAUSE 1).wr Obj.HAPTIC_STATE haFault).setHap 0 { }), .host 0, 0, 1, by decide +kernel⟩,
   ⟨((dev.wr Obj.HAPTIC_STATE haIdle).setHap 0 { }), 0, by decide +kernel⟩,
   ⟨dev, 5, 0, 3, by decide +kernel⟩,
   ⟨dev, 0, 0, 5, 3, by decide +kernel⟩,
   ⟨dev, 0, 5, 0, 3, by decide +kernel⟩,
   ⟨dev, (.tenant 5), 0, 3, ([1, 0, 100, 0, 2, 0, 0, 0] ++ List.replicate 8 0 ++ [1, 0, 2, 0]), by decide +kernel⟩,
   ⟨dev, .host 0, 0, 1, by decide +kernel⟩,
   ⟨((((((dev.wr Obj.HAP_STREAM_ADDR 0x10000000 0 0 5).wr Obj.HAP_STREAM_SIZE 64 0 0 5).wr Obj.HAP_STREAM_WRITE 32 0 0 5)).wr Obj.HAPTIC_STATE haPlaying).setHap 0 { play := some { trig := { owner := .tenant 5, time := 1, prio := 1, gain := 200, repeats := 0, stream := true, effect := 0 }, begun := true } }), 0, 16, 0, 32, 16, 5, { trig := { owner := .tenant 5, time := 1, prio := 1, gain := 200, repeats := 0, stream := true, effect := 0 }, begun := true }, by decide +kernel⟩⟩

theorem test_AudioEngineActs_witnesses :
    (∃ (s : State) (n : Fin 8) (u : State), (u = (s.advance Obj.SAMPLE_COUNTER n).beginDue n) ∧ (s.audioState n = auStarting) ∧ ((s.aud n).clockStopped = false)) ∧
    (∃ (s : State) (n : Fin 8), (s.audioState n = auActive ∨ s.audioState n = auStopping) ∧ ((s.aud n).clockStopped = false)) ∧
    (∃ (s : State) (n : Fin 8) (stage : Fin 23), (((s.aud n).stage stage).target ≠ ((s.aud n).stage stage).present) ∧ (((s.aud n).stage stage).start + s.stepFrames n ≤ (s.aud n).frame)) ∧
    (∃ (s : State) (who : Requester) (n : Fin 8) (v : Nat) (u : State) (touched : List Nat), (s.accepts who Obj.AUDIO_COMMIT v n) ∧ (v ≠ 0) ∧ (s.isStReady n 9 = true) ∧ (s.audioState n ≠ auOff ∧ (s.aud n).clockStopped = false) ∧ (u = (audioRows.foldl (fun (u : State) (r : ObjRow) => (List.range r.cnt).foldl (fun (u : State) i => u.dropShadow r n i) u) s)) ∧ (touched = ((List.range 16).filter (fun k => (s.shadow.find (Obj.SRC_GAIN_HDB.key n k 512 0)).isSome) ++ ((List.range 3).filter (fun k => (s.shadow.find (Obj.SINK_GAIN_HDB.key n k 512 0)).isSome)).map (20 + ·)))) ∧
    (∃ (s : State) (who : Requester) (n : Fin 8) (v : Nat) (u : State) (touched : List Nat), (s.accepts who Obj.AUDIO_COMMIT v n) ∧ (v ≠ 0) ∧ (s.isStReady n 9 = true) ∧ (s.audioState n = auOff ∨ (s.aud n).clockStopped = true) ∧ (u = (audioRows.foldl (fun (u : State) (r : ObjRow) => (List.range r.cnt).foldl (fun (u : State) i => u.dropShadow r n i) u) s)) ∧ (touched = ((List.range 16).filter (fun k => (s.shadow.find (Obj.SRC_GAIN_HDB.key n k 512 0)).isSome) ++ ((List.range 3).filter (fun k => (s.shadow.find (Obj.SINK_GAIN_HDB.key n k 512 0)).isSome)).map (20 + ·)))) ∧
    (∃ (s : State) (who : Requester) (n : Fin 8) (k : Fin 12) (v : Nat), (s.accepts who Obj.STREAM_START v n k) ∧ (v ≠ 0) ∧ (s.isStReady n 9 = true) ∧ (s.touchReports n = true) ∧ (((s.aud n).stream k).running = false) ∧ ((s.aud n).newRoute.find k = none) ∧ ((s.aud n).blockMuted.contains k.val = false)) ∧
    (∃ (s : State) (who : Requester) (n : Fin 8) (k : Fin 12) (v : Nat), (s.accepts who Obj.STREAM_STOP v n k) ∧ (v = 1) ∧ (((s.aud n).stream k).running = true)) ∧
    (∃ (s : State) (n : Fin 8) (k : Fin 12) (addr : Nat) (len : Nat), (((s.aud n).stream k).fetching = some (addr, len)) ∧ (s.memServes n = true) ∧ (s.inside (s.sourceHolder n k) n 1 addr len = true) ∧ (s.isPoisoned n addr len = false)) ∧
    (∃ (s : State) (n : Fin 8) (k : Fin 12) (addr : Nat) (len : Nat), (((s.aud n).stream k).fetching = some (addr, len)) ∧ (s.memServes n = true) ∧ (s.inside (s.sourceHolder n k) n 1 addr len = false)) ∧
    (∃ (s : State) (who : Requester) (n : Fin 8) (g : Fin 2) (v : Nat), (s.accepts who Obj.TG_START v n g) ∧ (v ≠ 0) ∧ (s.isStReady n 9 = true) ∧ ((s.aud n).newRoute.find (12 + g.val) = none) ∧ ((s.aud n).blockMuted.contains (12 + g.val) = false)) ∧
    (∃ (s : State) (who : Requester) (n : Fin 8) (g : Fin 2) (v : Nat), (s.accepts who Obj.TG_STOP v n g) ∧ (v = 1) ∧ (((s.aud n).tone g).st = .on)) ∧
    (∃ (s : State) (who : Requester) (n : Fin 8) (g : Fin 2) (v : Nat), (s.accepts who Obj.TG_STOP v n g) ∧ (v = 1) ∧ (((s.aud n).tone g).st = .off ∨ ((s.aud n).tone g).st = .starting)) ∧
    (∃ (s : State) (n : Fin 8) (g : Fin 2), (((s.aud n).tone g).st = .on) ∧ (((s.aud n).tone g).since + s.rdN Obj.TG_ON_MS n g * 1000000 ≤ s.time)) ∧
    (∃ (s : State) (n : Fin 8) (g : Fin 2), (((s.aud n).tone g).st = .off) ∧ (((s.aud n).tone g).since + s.rdN Obj.TG_OFF_MS n g * 1000000 ≤ s.time)) ∧
    (∃ (s : State) (n : Fin 8) (b : Fin 4), (s.rdB Obj.BUS_ACTIVE n b = true) ∧ ((s.aud n).lastHit.getD b 0 + s.rdN Obj.DUCK_HOLD_MS n * 1000000 ≤ s.time)) ∧
    (∃ (s : State) (n : Fin 8) (b : List (Int × Int)) (rest : List (List (Int × Int))) (room : Nat), ((s.aud n).loopBlocks = b :: rest) ∧ (room = (if (if s.rdN Obj.LOOP_SIZE n = 0 then 0 else (s.rdN Obj.LOOP_READ n + s.rdN Obj.LOOP_SIZE n - s.rdN Obj.LOOP_WRITE n) % s.rdN Obj.LOOP_SIZE n) = 0 then s.rdN Obj.LOOP_SIZE n else (if s.rdN Obj.LOOP_SIZE n = 0 then 0 else (s.rdN Obj.LOOP_READ n + s.rdN Obj.LOOP_SIZE n - s.rdN Obj.LOOP_WRITE n) % s.rdN Obj.LOOP_SIZE n))) ∧ (128 < room) ∧ (s.memServes n = true) ∧ (s.inside (s.mixHolder n) n 2 (s.rdN Obj.LOOP_ADDR n + s.rdN Obj.LOOP_WRITE n) 128 = true)) ∧
    (∃ (s : State) (n : Fin 8) (b : List (Int × Int)) (rest : List (List (Int × Int))) (room : Nat), ((s.aud n).loopBlocks = b :: rest) ∧ (room = (if (if s.rdN Obj.LOOP_SIZE n = 0 then 0 else (s.rdN Obj.LOOP_READ n + s.rdN Obj.LOOP_SIZE n - s.rdN Obj.LOOP_WRITE n) % s.rdN Obj.LOOP_SIZE n) = 0 then s.rdN Obj.LOOP_SIZE n else (if s.rdN Obj.LOOP_SIZE n = 0 then 0 else (s.rdN Obj.LOOP_READ n + s.rdN Obj.LOOP_SIZE n - s.rdN Obj.LOOP_WRITE n) % s.rdN Obj.LOOP_SIZE n))) ∧ (room ≤ 128) ∧ (s.memServes n = true) ∧ ((s.aud n).loopEpisode = true)) ∧
    (∃ (s : State) (n : Fin 8), (s.audioState n = auStarting) ∧ (64 ≤ (s.aud n).zeroFrames) ∧ ((s.aud n).stopWanted = false) ∧ ((s.aud n).restart = false)) ∧
    (∃ (s : State) (n : Fin 8), (s.audioState n = auStopping) ∧ (64 ≤ (s.aud n).zeroFrames) ∧ ((s.aud n).restart = false) ∧ (s.stationState n ≠ stOff)) ∧
    (∃ (s : State) (n : Fin 8), (s.audioState n = auStopping) ∧ (64 ≤ (s.aud n).zeroFrames) ∧ ((s.aud n).restart = false) ∧ (s.stationState n = stOff)) ∧
    (∃ (s : State) (n : Fin 8), (s.audioState n = auStopping) ∧ (64 ≤ (s.aud n).zeroFrames) ∧ ((s.aud n).restart = true)) ∧
    (∃ (s : State) (n : Fin 8), (s.audioState n = auStarting) ∧ ((s.aud n).clockStopped = true) ∧ ((s.aud n).stoppedAt + 1000000 ≤ s.time)) :=
  ⟨⟨((dev.wr Obj.AUDIO_STATE auStarting).setAud 0 { }), 0, (((dev.wr Obj.AUDIO_STATE auStarting).setAud 0 { }).advance Obj.SAMPLE_COUNTER 0).beginDue 0, by decide +kernel⟩,
   ⟨((dev.wr Obj.AUDIO_STATE auActive).setAud 0 { outDelay := [[1, 2, 3, 4], [0, 0, 0, 0], [0, 0, 0, 0]] }), 0, by decide +kernel⟩,
   ⟨((dev.wr Obj.AUDIO_STATE auActive).setAud 0 { frame := 10 ^ 6, stages := [(3, { target := -20 })] }), 0, 3, by decide +kernel⟩,
   ⟨(((dev.wrShadow Obj.SAMPLE_RATE 1).wr Obj.AUDIO_STATE auActive).setAud 0 { }), .host 0, 0, 1, (audioRows.foldl (fun (u : State) (r : ObjRow) => (List.range r.cnt).foldl (fun (u : State) i => u.dropShadow r 0 i) u) (((dev.wrShadow Obj.SAMPLE_RATE 1).wr Obj.AUDIO_STATE auActive).setAud 0 { })), [], by decide +kernel⟩,
   ⟨(((dev.wrShadow Obj.SAMPLE_RATE 1).wr Obj.AUDIO_STATE auStarting).setAud 0 { clockStopped := true }), .host 0, 0, 1, (audioRows.foldl (fun (u : State) (r : ObjRow) => (List.range r.cnt).foldl (fun (u : State) i => u.dropShadow r 0 i) u) (((dev.wrShadow Obj.SAMPLE_RATE 1).wr Obj.AUDIO_STATE auStarting).setAud 0 { clockStopped := true })), [], by decide +kernel⟩,
   ⟨((dev.wr Obj.AUDIO_STATE auActive).setAud 0 { }), .host 0, 0, 2, 1, by decide +kernel⟩,
   ⟨((dev.wr Obj.AUDIO_STATE auActive).setAud 0 { streams := [(2, { running := true })] }), .host 0, 0, 2, 1, by decide +kernel⟩,
   ⟨((dev.wr Obj.AUDIO_STATE auActive).setAud 0 { streams := [(1, { running := true, fetching := some (0x10000000, 16) })] }), 0, 1, 0x10000000, 16, by decide +kernel⟩,
   ⟨((dev.wr Obj.AUDIO_STATE auActive).setAud 0 { streams := [(1, { running := true, fetching := some (0x70000000000, 16) })] }), 0, 1, 0x70000000000, 16, by decide +kernel⟩,
   ⟨((dev.wr Obj.AUDIO_STATE auActive).setAud 0 { }), .host 0, 0, 1, 1, by decide +kernel⟩,
   ⟨((dev.wr Obj.AUDIO_STATE auActive).setAud 0 { tones := [(1, { st := .on })] }), .host 0, 0, 1, 1, by decide +kernel⟩,
   ⟨((dev.wr Obj.AUDIO_STATE auActive).setAud 0 { tones := [(1, { st := .off })] }), .host 0, 0, 1, 1, by decide +kernel⟩,
   ⟨(((dev.wr Obj.TG_ON_MS 100 0 1).wr Obj.AUDIO_STATE auActive).setAud 0 { tones := [(1, { st := .on })] }), 0, 1, by decide +kernel⟩,
   ⟨(((dev.wr Obj.TG_OFF_MS 100 0 1).wr Obj.AUDIO_STATE auActive).setAud 0 { tones := [(1, { st := .off, left := 2 })] }), 0, 1, by decide +kernel⟩,
   ⟨((((dev.wr Obj.BUS_ACTIVE 1 0 2).wr Obj.DUCK_HOLD_MS 100).wr Obj.AUDIO_STATE auActive).setAud 0 { }), 0, 2, by decide +kernel⟩,
   ⟨((((dev.wr Obj.LOOP_ADDR 0x10000000).wr Obj.LOOP_SIZE 1024).wr Obj.AUDIO_STATE auActive).setAud 0 { loopBlocks := [(List.replicate 16 (1, 2))] }), 0, (List.replicate 16 (1, 2)), [], 1024, by decide +kernel⟩,
   ⟨(((dev.wr Obj.LOOP_SIZE 128).wr Obj.AUDIO_STATE auActive).setAud 0 { loopBlocks := [(List.replicate 16 (1, 2))], loopEpisode := true }), 0, (List.replicate 16 (1, 2)), [], 128, by decide +kernel⟩,
   ⟨((dev.wr Obj.AUDIO_STATE auStarting).setAud 0 { zeroFrames := 64 }), 0, by decide +kernel⟩,
   ⟨((dev.wr Obj.AUDIO_STATE auStopping).setAud 0 { zeroFrames := 64 }), 0, by decide +kernel⟩,
   ⟨(((dev.wr Obj.STATION_STATE stOff).wr Obj.AUDIO_STATE auStopping).setAud 0 { zeroFrames := 64 }), 0, by decide +kernel⟩,
   ⟨((dev.wr Obj.AUDIO_STATE auStopping).setAud 0 { zeroFrames := 64, restart := true }), 0, by decide +kernel⟩,
   ⟨((dev.wr Obj.AUDIO_STATE auStarting).setAud 0 { clockStopped := true }), 0, by decide +kernel⟩⟩

theorem test_EnclavesAreCreatedAndDestroyed_witnesses :
    (∃ (s : State) (who : Requester) (e : Fin 64), (s.accepts who Obj.ENCLAVE_COMMAND 1 0 e) ∧ (s.isHwReady 2 = true) ∧ (s.isPending Obj.ENCLAVE_RESULT 0 e = false) ∧ (s.createOutcome e = 0)) ∧
    (∃ (s : State) (who : Requester) (e : Fin 64) (k : Nat), (s.accepts who Obj.ENCLAVE_COMMAND 1 0 e) ∧ (s.isHwReady 2 = true) ∧ (s.isPending Obj.ENCLAVE_RESULT 0 e = false) ∧ (s.createOutcome e = k) ∧ (k ≠ 0)) ∧
    (∃ (s : State) (e : Fin 64) (b : Bytes) (code : Nat), (s.enclaveState e = enLoading) ∧ (s.secRuns = true) ∧ (code = imageCodeSize (s.imageAt e 64)) ∧ (b = s.imageAt e (0x40 + code + 96)) ∧ ((imageFormatOk b && s.range0Ok e code) = false)) ∧
    (∃ (s : State) (e : Fin 64) (b : Bytes) (code : Nat), (s.enclaveState e = enLoading) ∧ (s.secRuns = true) ∧ (code = imageCodeSize (s.imageAt e 64)) ∧ (b = s.imageAt e (0x40 + code + 96)) ∧ ((imageFormatOk b && s.range0Ok e code) = true) ∧ (s.sec.unlocking = false)) ∧
    (∃ (s : State) (who : Requester) (e : Fin 64), (s.accepts who Obj.ENCLAVE_COMMAND 2 0 e) ∧ (s.isHwReady 2 = true) ∧ (s.enclaveState e = enStopped)) ∧
    (∃ (s : State) (who : Requester) (e : Fin 64), (s.accepts who Obj.ENCLAVE_COMMAND 3 0 e) ∧ (s.isHwReady 2 = true) ∧ (s.enclaveState e = enRunning)) ∧
    (∃ (s : State) (who : Requester) (e : Fin 64), (s.accepts who Obj.ENCLAVE_COMMAND 4 0 e) ∧ (s.isHwReady 2 = true) ∧ (s.enclaveState e = enStopped ∨ s.enclaveState e = enRunning)) ∧
    (∃ (s : State) (who : Requester) (e : Fin 64) (v : Bool), (s.accepts who Obj.ENCLAVE_DESTROY 1 0 e) ∧ (v = true) ∧ (s.isHwReady 2 = true) ∧ (s.enclaveState e = enStopped ∨ s.enclaveState e = enRunning)) ∧
    (∃ (s : State) (e : Fin 64), (s.enclaveState e = enDestroying) ∧ (s.secRuns = true) ∧ (s.heldBlocks e = [])) ∧
    (∃ (s : State) (core : Fin 2) (next : Option (Fin 64)) (e : Fin 64), (s.secRuns = true) ∧ (next = some e) ∧ (s.enclaveState e = enRunning) ∧ (s.sec.cores[1 - core.val]? ≠ some (some e.val))) ∧
    (∃ (s : State) (next : Option (Fin 64)), (s.secRuns = true) ∧ (next = none)) ∧
    (∃ (s : State) (who : Requester) (e : Fin 64) (data : Bytes), (s.served who = true) ∧ (s.checkAccess who Obj.INBOX true 0 e = none) ∧ (1 ≤ data.length) ∧ (data.length ≤ 1024) ∧ (s.isHwReady 2 = true) ∧ (s.enclaveState e = enStopped ∨ s.enclaveState e = enRunning) ∧ ((s.ecl e).inbox = none)) ∧
    (∃ (s : State), s.rdN Obj.SEC_STATE = secScrubbing) :=
  ⟨⟨((dev.wrBlob Obj.ENCLAVE_AUTHORITY_HASH (List.replicate 48 1)).wr Obj.RANGE (1 * 2 ^ 40 + sramLoc * 256 : Nat) 0 3 512 0), .host 0, 3, by decide +kernel⟩,
   ⟨dev, .host 0, 3, 4, by decide +kernel⟩,
   ⟨(dev.setEnclave 3 enLoading), 3, (dev.imageAt 3 (0x40 + imageCodeSize (dev.imageAt 3 64) + 96)), (imageCodeSize (dev.imageAt 3 64)), by decide +kernel⟩,
   ⟨((((dev.setEnclave 3 enLoading).wr Obj.IMAGE_LOCATION (1 * 2 ^ 40 + 0x10000 * 2 ^ 12 + 0 * 256 : Nat) 0 3).wr Obj.RANGE (1 * 2 ^ 40 + sramLoc * 256 : Nat) 0 3 512 0).store 0 0x10000000 (toLE 2 1 ++ toLE 2 0 ++ toLE 4 4 ++ toLE 4 0 ++ toLE 4 0 ++ List.replicate 48 0 ++ [1, 2, 3, 4] ++ List.replicate 96 7)), 3, (toLE 2 1 ++ toLE 2 0 ++ toLE 4 4 ++ toLE 4 0 ++ toLE 4 0 ++ List.replicate 48 0 ++ [1, 2, 3, 4] ++ List.replicate 96 7), 4, by decide +kernel⟩,
   ⟨(let u := (dev.setEnclave 3 enStopped).setEcl 3 { entered := false }; ({ u with sec := { u.sec with cores := [none, none] } } : State)), .host 0, 3, by decide +kernel⟩,
   ⟨(let u := (dev.setEnclave 3 enRunning).setEcl 3 { entered := true }; ({ u with sec := { u.sec with cores := [some 3, none] } } : State)), .host 0, 3, by decide +kernel⟩,
   ⟨(let u := ((dev.wr Obj.SPONSOR 5 0 3).setEnclave 3 enRunning).setEcl 3 { entered := true }; ({ u with sec := { u.sec with cores := [some 3, none] } } : State)), .host 0, 3, by decide +kernel⟩,
   ⟨(let u := ((dev.wr Obj.SPONSOR 5 0 3).setEnclave 3 enRunning).setEcl 3 { entered := true }; ({ u with sec := { u.sec with cores := [some 3, none] } } : State)), (.tenant 5), 3, true, by decide +kernel⟩,
   ⟨(dev.setEnclave 3 enDestroying), 3, by decide +kernel⟩,
   ⟨(let u := (dev.setEnclave 3 enRunning).setEcl 3 { entered := true }; ({ u with sec := { u.sec with cores := [none, none] } } : State)), 0, (some 3), 3, by decide +kernel⟩,
   ⟨(let u := (dev.setEnclave 3 enRunning).setEcl 3 { entered := true }; ({ u with sec := { u.sec with cores := [some 3, none] } } : State)), none, by decide +kernel⟩,
   ⟨(let u := ((dev.wr Obj.SPONSOR 5 0 3).setEnclave 3 enRunning).setEcl 3 { entered := true }; ({ u with sec := { u.sec with cores := [some 3, none] } } : State)), (.tenant 5), 3, [1, 2], by decide +kernel⟩,
   ⟨(dev.wr Obj.SEC_STATE secScrubbing), by decide +kernel⟩⟩

theorem test_EnclaveCallsAct_witnesses :
    (∃ (s : State) (e : Fin 64) (n : Fin 8) (kind : BlockKind) (k : Nat), (s.secRuns = true) ∧ (s.enclaveState e = enRunning) ∧ (s.sec.cores.contains (some e.val) = true) ∧ (s.granted e (⟨n, kind, k⟩ : Block) = true) ∧ ((s.lock (⟨n, kind, k⟩ : Block)).st = .normal) ∧ (s.lowerAcquire e (⟨n, kind, k⟩ : Block) = false)) ∧
    (∃ (s : State) (e : Fin 64) (n : Fin 8) (kind : BlockKind) (k : Nat), (s.secRuns = true) ∧ (s.enclaveState e = enRunning) ∧ (s.sec.cores.contains (some e.val) = true) ∧ (s.granted e (⟨n, kind, k⟩ : Block) = true) ∧ ((s.lock (⟨n, kind, k⟩ : Block)).st = .secure) ∧ ((s.lock (⟨n, kind, k⟩ : Block)).enclave = e.val)) ∧
    (∃ (s : State) (e : Fin 64) (n : Fin 8) (kind : BlockKind) (k : Nat), (s.secRuns = true) ∧ (s.enclaveState e = enRunning) ∧ (s.sec.cores.contains (some e.val) = true) ∧ (s.granted e (⟨n, kind, k⟩ : Block) = false)) ∧
    (∃ (s : State) (n : Fin 8) (kind : BlockKind) (k : Nat), ((s.lock (⟨n, kind, k⟩ : Block)).st = .locking ∨ (s.lock (⟨n, kind, k⟩ : Block)).st = .returning) ∧ (s.drainable (⟨n, kind, k⟩ : Block) = true)) ∧
    (∃ (s : State) (n : Fin 8) (kind : BlockKind) (k : Nat), ((s.lock (⟨n, kind, k⟩ : Block)).st = .locked) ∧ (s.secRuns = true) ∧ (kind = .zone → s.touchZoneDue n k = true) ∧ ((s.lock (⟨n, kind, k⟩ : Block)).towardsEnclave = true)) ∧
    (∃ (s : State) (n : Fin 8) (kind : BlockKind) (k : Nat), ((s.lock (⟨n, kind, k⟩ : Block)).st = .locked) ∧ (s.secRuns = true) ∧ (kind = .zone → s.touchZoneDue n k = true) ∧ ((s.lock (⟨n, kind, k⟩ : Block)).towardsEnclave = false)) ∧
    (∃ (s : State) (e : Fin 64) (area : Fin 16) (idx : Nat) (sub : Nat), (s.secRuns = true) ∧ (s.enclaveState e = enRunning) ∧ (s.sec.cores.contains (some e.val) = true) ∧ (ownLost e area idx sub = none)) ∧
    (∃ (s : State) (e : Fin 64) (area : Fin 16) (idx : Nat) (sub : Nat) (data : Bytes) (r : ObjRow), (s.secRuns = true) ∧ (s.enclaveState e = enRunning) ∧ (s.sec.cores.contains (some e.val) = true) ∧ (ownLost e area idx sub = some r) ∧ (data.length = 2) ∧ (ofBE data = 0)) ∧
    (∃ (s : State) (e : Fin 64) (area : Fin 16) (idx : Nat) (sub : Nat), (s.secRuns = true) ∧ (s.enclaveState e = enRunning) ∧ (s.sec.cores.contains (some e.val) = true) ∧ (ownLost e area idx sub = none)) ∧
    (∃ (s : State) (e : Fin 64) (n : Fin 8) (layerMask : Nat) (guardMask : Nat), (s.secRuns = true) ∧ (s.enclaveState e = enRunning) ∧ (s.sec.cores.contains (some e.val) = true) ∧ (bit n (s.rdN Obj.GRANT_STATIONS 0 e) = true) ∧ (((masksBlocks n layerMask guardMask).all fun b => s.granted e b) = true) ∧ (layerMask < 2 ^ 17) ∧ (guardMask < 2 ^ 32) ∧ (s.isStReady n 3 = true) ∧ (s.isStReady n 4 = true)) ∧
    (∃ (s : State) (e : Fin 64) (touch : Bool) (r : Rec), (s.secRuns = true) ∧ (s.enclaveState e = enRunning) ∧ (s.sec.cores.contains (some e.val) = true) ∧ (touch = false) ∧ (((s.encNoteQ.getD e {}).takeSmall Rec.prio).1 = some r) ∧ (r.code ≠ 0x001B)) ∧
    (∃ (s : State) (e : Fin 64) (touch : Bool) (r : TouchRec), (s.secRuns = true) ∧ (s.enclaveState e = enRunning) ∧ (s.sec.cores.contains (some e.val) = true) ∧ (touch = true) ∧ (((s.encTouchQ.getD e {}).takeSmall TouchRec.prio).1 = some r)) ∧
    (∃ (s : State) (e : Fin 64) (data : Bytes), (s.secRuns = true) ∧ (s.enclaveState e = enRunning) ∧ (s.sec.cores.contains (some e.val) = true) ∧ (1 ≤ data.length) ∧ (data.length ≤ 1024)) ∧
    (∃ (s : State) (e : Fin 64), (s.secRuns = true) ∧ (s.enclaveState e = enRunning) ∧ (s.sec.cores.contains (some e.val) = true)) ∧
    (∃ (s : State) (e : Fin 64), (s.secRuns = true) ∧ (s.enclaveState e = enRunning) ∧ (s.sec.cores.contains (some e.val) = true)) ∧
    (∃ (s : State) (e : Fin 64) (w : BindWrite), (s.secRuns = true) ∧ (s.enclaveState e = enRunning) ∧ (s.sec.cores.contains (some e.val) = true) ∧ (s.rdN Obj.SPONSOR 0 e < 512) ∧ (∀ v : Bool, w ≠ .enable v) ∧ (s.bindRefusal (s.rdN Obj.SPONSOR 0 e) w true = none)) :=
  ⟨⟨(let u := ((((((dev.wr Obj.GRANT_STATIONS 1 0 3).wr Obj.GRANT_LAYERS 2 0 3).wr Obj.GRANT_GUARDS 2 0 3).wr Obj.GRANT_ZONES 2 0 3).wr Obj.SPONSOR 5 0 3).setEnclave 3 enRunning).setEcl 3 { entered := true }; ({ u with sec := { u.sec with cores := [some 3, none] } } : State)), 3, 0, .layer, 1, by decide +kernel⟩,
   ⟨((let u := ((((((dev.wr Obj.GRANT_STATIONS 1 0 3).wr Obj.GRANT_LAYERS 2 0 3).wr Obj.GRANT_GUARDS 2 0 3).wr Obj.GRANT_ZONES 2 0 3).wr Obj.SPONSOR 5 0 3).setEnclave 3 enRunning).setEcl 3 { entered := true }; ({ u with sec := { u.sec with cores := [some 3, none] } } : State)).setLock ⟨0, .layer, 1⟩ { st := .secure, enclave := 3, towardsEnclave := true }), 3, 0, .layer, 1, by decide +kernel⟩,
   ⟨(let u := ((((((dev.wr Obj.GRANT_STATIONS 1 0 3).wr Obj.GRANT_LAYERS 2 0 3).wr Obj.GRANT_GUARDS 2 0 3).wr Obj.GRANT_ZONES 2 0 3).wr Obj.SPONSOR 5 0 3).setEnclave 3 enRunning).setEcl 3 { entered := true }; ({ u with sec := { u.sec with cores := [some 3, none] } } : State)), 3, 0, .layer, 7, by decide +kernel⟩,
   ⟨((let u := ((((((dev.wr Obj.GRANT_STATIONS 1 0 3).wr Obj.GRANT_LAYERS 2 0 3).wr Obj.GRANT_GUARDS 2 0 3).wr Obj.GRANT_ZONES 2 0 3).wr Obj.SPONSOR 5 0 3).setEnclave 3 enRunning).setEcl 3 { entered := true }; ({ u with sec := { u.sec with cores := [some 3, none] } } : State)).setLock ⟨0, .layer, 1⟩ { st := .locking, enclave := 3, towardsEnclave := true }), 0, .layer, 1, by decide +kernel⟩,
   ⟨((let u := ((((((dev.wr Obj.GRANT_STATIONS 1 0 3).wr Obj.GRANT_LAYERS 2 0 3).wr Obj.GRANT_GUARDS 2 0 3).wr Obj.GRANT_ZONES 2 0 3).wr Obj.SPONSOR 5 0 3).setEnclave 3 enRunning).setEcl 3 { entered := true }; ({ u with sec := { u.sec with cores := [some 3, none] } } : State)).setLock ⟨0, .layer, 1⟩ { st := .locked, enclave := 3, towardsEnclave := true }), 0, .layer, 1, by decide +kernel⟩,
   ⟨((let u := ((((((dev.wr Obj.GRANT_STATIONS 1 0 3).wr Obj.GRANT_LAYERS 2 0 3).wr Obj.GRANT_GUARDS 2 0 3).wr Obj.GRANT_ZONES 2 0 3).wr Obj.SPONSOR 5 0 3).setEnclave 3 enRunning).setEcl 3 { entered := true }; ({ u with sec := { u.sec with cores := [some 3, none] } } : State)).setLock ⟨0, .layer, 1⟩ { st := .locked, enclave := 3, towardsEnclave := false }), 0, .layer, 1, by decide +kernel⟩,
   ⟨(let u := ((((((dev.wr Obj.GRANT_STATIONS 1 0 3).wr Obj.GRANT_LAYERS 2 0 3).wr Obj.GRANT_GUARDS 2 0 3).wr Obj.GRANT_ZONES 2 0 3).wr Obj.SPONSOR 5 0 3).setEnclave 3 enRunning).setEcl 3 { entered := true }; ({ u with sec := { u.sec with cores := [some 3, none] } } : State)), 3, 8, Obj.LAYER_ALPHA.idx + 1, Obj.LAYER_ALPHA.sub, by decide +kernel⟩,
   ⟨(let u := ((((((dev.wr Obj.GRANT_STATIONS 1 0 3).wr Obj.GRANT_LAYERS 2 0 3).wr Obj.GRANT_GUARDS 2 0 3).wr Obj.GRANT_ZONES 2 0 3).wr Obj.SPONSOR 5 0 3).setEnclave 3 enRunning).setEcl 3 { entered := true }; ({ u with sec := { u.sec with cores := [some 3, none] } } : State)), 3, 7, 0x1303, 1, [0, 0], Obj.ENCLAVE_TOUCH_LOST, by decide +kernel⟩,
   ⟨(let u := ((((((dev.wr Obj.GRANT_STATIONS 1 0 3).wr Obj.GRANT_LAYERS 2 0 3).wr Obj.GRANT_GUARDS 2 0 3).wr Obj.GRANT_ZONES 2 0 3).wr Obj.SPONSOR 5 0 3).setEnclave 3 enRunning).setEcl 3 { entered := true }; ({ u with sec := { u.sec with cores := [some 3, none] } } : State)), 3, 8, 0x2100, 0, by decide +kernel⟩,
   ⟨((let u := ((((((dev.wr Obj.GRANT_STATIONS 1 0 3).wr Obj.GRANT_LAYERS 2 0 3).wr Obj.GRANT_GUARDS 2 0 3).wr Obj.GRANT_ZONES 2 0 3).wr Obj.SPONSOR 5 0 3).setEnclave 3 enRunning).setEcl 3 { entered := true }; ({ u with sec := { u.sec with cores := [some 3, none] } } : State)).setLock ⟨0, .layer, 1⟩ { st := .secure, enclave := 3, towardsEnclave := true }), 3, 0, 2, 0, by decide +kernel⟩,
   ⟨((let u := ((((((dev.wr Obj.GRANT_STATIONS 1 0 3).wr Obj.GRANT_LAYERS 2 0 3).wr Obj.GRANT_GUARDS 2 0 3).wr Obj.GRANT_ZONES 2 0 3).wr Obj.SPONSOR 5 0 3).setEnclave 3 enRunning).setEcl 3 { entered := true }; ({ u with sec := { u.sec with cores := [some 3, none] } } : State)).toEnclave 3 (dev.mkRec 0x0012 3 0 5 [])), 3, false, (((((let u := ((((((dev.wr Obj.GRANT_STATIONS 1 0 3).wr Obj.GRANT_LAYERS 2 0 3).wr Obj.GRANT_GUARDS 2 0 3).wr Obj.GRANT_ZONES 2 0 3).wr Obj.SPONSOR 5 0 3).setEnclave 3 enRunning).setEcl 3 { entered := true }; ({ u with sec := { u.sec with cores := [some 3, none] } } : State)).toEnclave 3 (dev.mkRec 0x0012 3 0 5 []))).encNoteQ.getD 3 {}).takeSmall Rec.prio).1.getD (dev.mkRec 0x0012 3 0 5 []), by decide +kernel⟩,
   ⟨((let u := ((((((dev.wr Obj.GRANT_STATIONS 1 0 3).wr Obj.GRANT_LAYERS 2 0 3).wr Obj.GRANT_GUARDS 2 0 3).wr Obj.GRANT_ZONES 2 0 3).wr Obj.SPONSOR 5 0 3).setEnclave 3 enRunning).setEcl 3 { entered := true }; ({ u with sec := { u.sec with cores := [some 3, none] } } : State)).touchToEnclave 3 ({ time := 1, seq := 0, amplitude := 5, x := 1, y := 2, id := 1, areaNodes := 3, kind := 1, cls := 0, prio := 1, zone := 1, station := 0, detail := 0, frame := 0 } : TouchRec)), 3, true, (((((let u := ((((((dev.wr Obj.GRANT_STATIONS 1 0 3).wr Obj.GRANT_LAYERS 2 0 3).wr Obj.GRANT_GUARDS 2 0 3).wr Obj.GRANT_ZONES 2 0 3).wr Obj.SPONSOR 5 0 3).setEnclave 3 enRunning).setEcl 3 { entered := true }; ({ u with sec := { u.sec with cores := [some 3, none] } } : State)).touchToEnclave 3 ({ time := 1, seq := 0, amplitude := 5, x := 1, y := 2, id := 1, areaNodes := 3, kind := 1, cls := 0, prio := 1, zone := 1, station := 0, detail := 0, frame := 0 } : TouchRec))).encTouchQ.getD 3 {}).takeSmall TouchRec.prio).1.getD ({ time := 1, seq := 0, amplitude := 5, x := 1, y := 2, id := 1, areaNodes := 3, kind := 1, cls := 0, prio := 1, zone := 1, station := 0, detail := 0, frame := 0 } : TouchRec), by decide +kernel⟩,
   ⟨(let u := ((((((dev.wr Obj.GRANT_STATIONS 1 0 3).wr Obj.GRANT_LAYERS 2 0 3).wr Obj.GRANT_GUARDS 2 0 3).wr Obj.GRANT_ZONES 2 0 3).wr Obj.SPONSOR 5 0 3).setEnclave 3 enRunning).setEcl 3 { entered := true }; ({ u with sec := { u.sec with cores := [some 3, none] } } : State)), 3, [5, 6], by decide +kernel⟩,
   ⟨(let u := ((((((dev.wr Obj.GRANT_STATIONS 1 0 3).wr Obj.GRANT_LAYERS 2 0 3).wr Obj.GRANT_GUARDS 2 0 3).wr Obj.GRANT_ZONES 2 0 3).wr Obj.SPONSOR 5 0 3).setEnclave 3 enRunning).setEcl 3 { entered := true }; ({ u with sec := { u.sec with cores := [some 3, none] } } : State)), 3, by decide +kernel⟩,
   ⟨(let u := ((((((dev.wr Obj.GRANT_STATIONS 1 0 3).wr Obj.GRANT_LAYERS 2 0 3).wr Obj.GRANT_GUARDS 2 0 3).wr Obj.GRANT_ZONES 2 0 3).wr Obj.SPONSOR 5 0 3).setEnclave 3 enRunning).setEcl 3 { entered := true }; ({ u with sec := { u.sec with cores := [some 3, none] } } : State)), 3, by decide +kernel⟩,
   ⟨((let u := ((((((dev.wr Obj.GRANT_STATIONS 1 0 3).wr Obj.GRANT_LAYERS 2 0 3).wr Obj.GRANT_GUARDS 2 0 3).wr Obj.GRANT_ZONES 2 0 3).wr Obj.SPONSOR 5 0 3).setEnclave 3 enRunning).setEcl 3 { entered := true }; ({ u with sec := { u.sec with cores := [some 3, none] } } : State)).wr Obj.SEALED 1 0 0 5), 3, (.rights 0 1 4), by decide +kernel⟩⟩

theorem test_AttestationAndDebugAct_witnesses :
    (∃ (s : State) (who : Requester) (nonce : Bytes), (s.served who = true) ∧ (s.checkAccess who Obj.ATTEST_CHALLENGE true = none) ∧ (nonce.length = 32) ∧ (s.isHwReady 2 = true) ∧ (s.isPending Obj.ATTEST_REPORT = false)) ∧
    (∃ (s : State) (nonce : Bytes), s.sec.attest = some nonce) ∧
    (∃ (s : State) (who : Requester), (s.served who = true) ∧ (s.checkAccess who Obj.DEBUG_CHALLENGE false = none)) ∧
    (∃ (s : State) (who : Requester) (data : Bytes), (s.served who = true) ∧ (s.checkAccess who Obj.DEBUG_RESPONSE true = none) ∧ (data.length = 97) ∧ (s.isHwReady 2 = true)) ∧
    (∃ (s : State) (a : Nat), (s.sec.lockedAt = some a) ∧ (a + 60000000000 ≤ s.time)) ∧
    (∃ (s : State) (ins : JtagInstr), (s.rst.vaon = true) ∧ (ins = .idcode)) ∧
    (∃ (s : State) (ins : JtagInstr), (s.rst.vaon = true) ∧ (ins = .bypass)) ∧
    (∃ (s : State) (ins : JtagInstr), (s.rst.vaon = true) ∧ (ins = .other)) ∧
    (∃ (s : State) (ins : JtagInstr), (s.rst.vaon = true) ∧ (ins = .boundary)) ∧
    (∃ (s : State) (ins : JtagInstr), (s.rst.vaon = true) ∧ (ins = .systemDebug)) ∧
    (∃ (s : State) (ins : JtagInstr), (s.rst.vaon = true) ∧ (ins = .secureDebug)) :=
  ⟨⟨dev, .host 0, (List.replicate 32 9), by decide +kernel⟩,
   ⟨{ dev with sec := { attest := some [1] } }, [1], by decide +kernel⟩,
   ⟨dev, .host 0, by decide +kernel⟩,
   ⟨{ dev with sec := { nonce := some [1, 2] } }, .host 0, (List.replicate 97 1), by decide +kernel⟩,
   ⟨{ dev with time := 70000000000, sec := { lockedAt := some 5 } }, 5, by decide +kernel⟩,
   ⟨dev, .idcode, by decide +kernel⟩,
   ⟨dev, .bypass, by decide +kernel⟩,
   ⟨dev, .other, by decide +kernel⟩,
   ⟨dev, .boundary, by decide +kernel⟩,
   ⟨dev, .systemDebug, by decide +kernel⟩,
   ⟨dev, .secureDebug, by decide +kernel⟩⟩

theorem test_EnergyIsSampledAndSplit_witnesses :
    (∃ (s : State), s.isHwReady 12 = true) ∧
    (∃ (s : State) (sensors : List Int) (t0 : Int) (l : List Int), (s.isHwReady 12 = true) ∧ (sensors = t0 :: l) ∧ (s.rdAs Obj.TJ_SOFT_C ≤ (l.foldl max t0))) ∧
    (∃ (s : State) (sensors : List Int) (t0 : Int) (l : List Int), (s.isHwReady 12 = true) ∧ (sensors = t0 :: l) ∧ ((l.foldl max t0) ≤ s.rdAs Obj.TJ_SOFT_C - 3)) ∧
    (∃ (s : State) (sensors : List Int) (t0 : Int) (l : List Int), (s.isHwReady 12 = true) ∧ (sensors = t0 :: l) ∧ ((l.foldl max t0) < s.rdAs Obj.TJ_SOFT_C ∧ s.rdAs Obj.TJ_SOFT_C - 3 < (l.foldl max t0))) ∧
    (∃ (s : State), (s.isHwReady 3 = true) ∧ (s.hwGated 0 = false)) ∧
    (∃ (s : State), (s.isHwReady 3 = true) ∧ (s.hwGated 0 = false) ∧ (((s.rdN Obj.EFFECTIVE_BUDGET_MW : Int) - s.rdN Obj.LOSS_MW - (s.withMargin s.energy.headMeans) - (((List.range 8).map fun n => s.stationBase n).sum : Nat)) < 0)) ∧
    (∃ (s : State) (n : Fin 8) (c : StationEnergy) (p : Rat) (al : Rat), (s.stationState n = stRunning) ∧ (s.sten n = c) ∧ (p = ((c.recent.sum : Nat) : Rat) / (1000 * max 1 c.recent.length : Nat) * s.rdN Obj.WEIR_DIVISOR 0 n) ∧ (al = ((s.rdN Obj.STATION_ALLOTMENT_MW 0 n - s.rdN Obj.STATION_BASE_MW 0 n : Nat) : Rat)) ∧ (p ≤ al) ∧ ((s.rdN Obj.SHADER_POINT 0 n) ≤ s.rdN Obj.POINT_CEILING 0 n) ∧ (s.rdB Obj.SHEDDING 0 n = false)) ∧
    (∃ (s : State) (n : Fin 8) (c : StationEnergy) (p : Rat) (al : Rat), (s.stationState n = stRunning) ∧ (s.sten n = c) ∧ (p = ((c.recent.sum : Nat) : Rat) / (1000 * max 1 c.recent.length : Nat) * s.rdN Obj.WEIR_DIVISOR 0 n) ∧ (al = ((s.rdN Obj.STATION_ALLOTMENT_MW 0 n - s.rdN Obj.STATION_BASE_MW 0 n : Nat) : Rat)) ∧ (al < p) ∧ ((s.rdN Obj.SHADER_POINT 0 n) < (s.rdN Obj.SLOW_FLOOR 0 n))) ∧
    (∃ (s : State) (n : Fin 8) (c : StationEnergy) (p : Rat) (al : Rat), (s.stationState n = stRunning) ∧ (s.sten n = c) ∧ (p = ((c.recent.sum : Nat) : Rat) / (1000 * max 1 c.recent.length : Nat) * s.rdN Obj.WEIR_DIVISOR 0 n) ∧ (al = ((s.rdN Obj.STATION_ALLOTMENT_MW 0 n - s.rdN Obj.STATION_BASE_MW 0 n : Nat) : Rat)) ∧ (al < p) ∧ ((s.rdN Obj.SHADER_POINT 0 n) = (s.rdN Obj.SLOW_FLOOR 0 n)) ∧ ((s.rdN Obj.SHADER_POINT 0 n) ≤ s.rdN Obj.POINT_CEILING 0 n) ∧ (1 ≤ c.overLimit) ∧ (s.rdB Obj.SHEDDING 0 n = false)) ∧
    (∃ (s : State) (n : Fin 8) (p : Nat) (since : Nat), ((s.sten n).raising = some (p, since)) ∧ (since + 100 * (pointVoltage p - pointVoltage (s.rdN Obj.SHADER_POINT 0 n)) ≤ s.time)) ∧
    (∃ (s : State) (input : Nat), (s.isHwReady 13 = true) ∧ (s.weirLimit < input) ∧ (s.energy.overLimit = false)) ∧
    (∃ (s : State) (input : Nat), (s.isHwReady 13 = true) ∧ (input ≤ s.weirLimit)) ∧
    (∃ (s : State), s.rdN Obj.WEIR_STATE = 1) ∧
    (∃ (s : State) (x : WeirReading) (since : Nat) (n : Nat) (l : List Nat), (s.energy.underSince = some since) ∧ (s.energy.clamps = n :: l) ∧ (since + 1000000 ≤ s.time) ∧ (s.energy.checkedAt + 1000000 ≤ s.time) ∧ (x.input ≤ s.weirLimit) ∧ (x.predict (x.draws.getD n 0) ≤ s.weirLimit)) ∧
    (∃ (s : State) (x : WeirReading) (since : Nat) (n : Nat) (l : List Nat), (s.energy.underSince = some since) ∧ (s.energy.clamps = n :: l) ∧ (since + 1000000 ≤ s.time) ∧ (s.energy.checkedAt + 1000000 ≤ s.time) ∧ (x.input ≤ s.weirLimit) ∧ ((s.weirLimit : Rat) < x.predict (x.draws.getD n 0))) ∧
    (∃ (s : State) (since : Nat), (s.energy.allEight = some since) ∧ (since + 100000 ≤ s.time) ∧ (s.rdN Obj.WEIR_STATE ≠ 3)) ∧
    (∃ (s : State) (who : Requester) (v : Nat), s.accepts who Obj.DEVICE_BUDGET_MW v) :=
  ⟨⟨dev, by decide +kernel⟩,
   ⟨dev, ([120, 10]), (120), [10], by decide +kernel⟩,
   ⟨dev, ([20, 10]), (20), [10], by decide +kernel⟩,
   ⟨dev, ([(dev.rdAs Obj.TJ_SOFT_C - 1), 10]), ((dev.rdAs Obj.TJ_SOFT_C - 1)), [10], by decide +kernel⟩,
   ⟨dev, by decide +kernel⟩,
   ⟨(((dev.wr Obj.LOSS_MW 9000000).wr Obj.STATION_ALLOTMENT_MW 500).setSten 0 { baseMeans := [40] }), by decide +kernel⟩,
   ⟨(dev.setSten 0 { recent := [0] }), 0, ((dev.setSten 0 { recent := [0] }).sten 0), (((((dev.setSten 0 { recent := [0] }).sten 0).recent.sum : Nat) : Rat) / (1000 * max 1 ((dev.setSten 0 { recent := [0] }).sten 0).recent.length : Nat) * ((dev.setSten 0 { recent := [0] }).rdN Obj.WEIR_DIVISOR 0 0)), ((((dev.setSten 0 { recent := [0] }).rdN Obj.STATION_ALLOTMENT_MW 0 0 - (dev.setSten 0 { recent := [0] }).rdN Obj.STATION_BASE_MW 0 0 : Nat)) : Rat), by decide +kernel⟩,
   ⟨((dev.wr Obj.SLOW_FLOOR 7).setSten 0 { recent := [900000000] }), 0, (((dev.wr Obj.SLOW_FLOOR 7).setSten 0 { recent := [900000000] }).sten 0), ((((((dev.wr Obj.SLOW_FLOOR 7).setSten 0 { recent := [900000000] }).sten 0).recent.sum : Nat) : Rat) / (1000 * max 1 (((dev.wr Obj.SLOW_FLOOR 7).setSten 0 { recent := [900000000] }).sten 0).recent.length : Nat) * (((dev.wr Obj.SLOW_FLOOR 7).setSten 0 { recent := [900000000] }).rdN Obj.WEIR_DIVISOR 0 0)), (((((dev.wr Obj.SLOW_FLOOR 7).setSten 0 { recent := [900000000] }).rdN Obj.STATION_ALLOTMENT_MW 0 0 - ((dev.wr Obj.SLOW_FLOOR 7).setSten 0 { recent := [900000000] }).rdN Obj.STATION_BASE_MW 0 0 : Nat)) : Rat), by decide +kernel⟩,
   ⟨(((dev.wr Obj.SLOW_FLOOR 0).wr Obj.SHADER_POINT 0).setSten 0 { recent := [900000000], overLimit := 1 }), 0, ((((dev.wr Obj.SLOW_FLOOR 0).wr Obj.SHADER_POINT 0).setSten 0 { recent := [900000000], overLimit := 1 }).sten 0), (((((((dev.wr Obj.SLOW_FLOOR 0).wr Obj.SHADER_POINT 0).setSten 0 { recent := [900000000], overLimit := 1 }).sten 0).recent.sum : Nat) : Rat) / (1000 * max 1 ((((dev.wr Obj.SLOW_FLOOR 0).wr Obj.SHADER_POINT 0).setSten 0 { recent := [900000000], overLimit := 1 }).sten 0).recent.length : Nat) * ((((dev.wr Obj.SLOW_FLOOR 0).wr Obj.SHADER_POINT 0).setSten 0 { recent := [900000000], overLimit := 1 }).rdN Obj.WEIR_DIVISOR 0 0)), ((((((dev.wr Obj.SLOW_FLOOR 0).wr Obj.SHADER_POINT 0).setSten 0 { recent := [900000000], overLimit := 1 }).rdN Obj.STATION_ALLOTMENT_MW 0 0 - (((dev.wr Obj.SLOW_FLOOR 0).wr Obj.SHADER_POINT 0).setSten 0 { recent := [900000000], overLimit := 1 }).rdN Obj.STATION_BASE_MW 0 0 : Nat)) : Rat), by decide +kernel⟩,
   ⟨((dev.wr Obj.SHADER_POINT 4).setSten 0 { raising := some (2, 5) }), 0, 2, 5, by decide +kernel⟩,
   ⟨dev, 200000, by decide +kernel⟩,
   ⟨dev, 2, by decide +kernel⟩,
   ⟨((dev.wr Obj.WEIR_STATE 1).setDivisor 0 2), by decide +kernel⟩,
   ⟨(let u := dev.setDivisor 0 4; ({ u with energy := { u.energy with underSince := some 5 } } : State)), { input := 20000, domains := 10000, draws := [90] }, 5, 0, [], by decide +kernel⟩,
   ⟨(let u := dev.setDivisor 0 4; ({ u with energy := { u.energy with underSince := some 5 } } : State)), { input := 20000, domains := 10000, draws := [900000] }, 5, 0, [], by decide +kernel⟩,
   ⟨{ dev with energy := { allEight := some 5 } }, 5, by decide +kernel⟩,
   ⟨dev, .host 0, 70000, by decide +kernel⟩⟩

theorem test_SwitchAndLinksAct_witnesses :
    (∃ (s : State) (port : Fin 2) (frame : Bytes) (bad : Bool), (s.isHwReady 8 = true) ∧ (s.hwGated 2 = false) ∧ (s.rdN Obj.ETH_LINK 0 port ≠ 0) ∧ (bad = true ∨ 1522 < frame.length ∨ frame.length < 18)) ∧
    (∃ (s : State) (port : Fin 2) (frame : Bytes) (bad : Bool) (m : MacEntry), (s.isHwReady 8 = true) ∧ (s.hwGated 2 = false) ∧ (s.rdN Obj.ETH_LINK 0 port ≠ 0) ∧ (bad = false) ∧ (18 ≤ frame.length) ∧ (frame.length ≤ 1522) ∧ ((parseEth frame).etype ≠ 0x88F7) ∧ (isGroup (parseEth frame).dst = false) ∧ (((s.count Obj.RX_FRAMES 0 port).learn (parseEth frame).src port).net.macs.find? (fun x => x.mac = (parseEth frame).dst) = some m) ∧ (m.port = 1 - port.val) ∧ (s.rdN Obj.ETH_LINK 0 m.port ≠ 0) ∧ (bit (parseEth frame).pcp (s.gatesOf m.port) = true)) ∧
    (∃ (s : State) (port : Fin 2) (frame : Bytes) (bad : Bool) (m : MacEntry), (s.isHwReady 8 = true) ∧ (s.hwGated 2 = false) ∧ (s.rdN Obj.ETH_LINK 0 port ≠ 0) ∧ (bad = false) ∧ (18 ≤ frame.length) ∧ (frame.length ≤ 1522) ∧ ((parseEth frame).etype ≠ 0x88F7) ∧ (isGroup (parseEth frame).dst = false) ∧ (((s.count Obj.RX_FRAMES 0 port).learn (parseEth frame).src port).net.macs.find? (fun x => x.mac = (parseEth frame).dst) = some m) ∧ (m.port = port.val)) ∧
    (∃ (s : State) (port : Fin 2) (frame : Bytes) (bad : Bool), (s.isHwReady 8 = true) ∧ (s.hwGated 2 = false) ∧ (s.rdN Obj.ETH_LINK 0 port ≠ 0) ∧ (bad = false) ∧ (18 ≤ frame.length) ∧ (frame.length ≤ 1522) ∧ ((parseEth frame).etype ≠ 0x88F7) ∧ (isGroup (parseEth frame).dst = true ∨ ((s.count Obj.RX_FRAMES 0 port).learn (parseEth frame).src port).net.macs.find? (fun x => x.mac = (parseEth frame).dst) = none)) ∧
    (∃ (s : State) (port : Fin 2) (frame : Bytes) (bad : Bool), (s.isHwReady 8 = true) ∧ (s.hwGated 2 = false) ∧ (s.rdN Obj.ETH_LINK 0 port ≠ 0) ∧ (bad = false) ∧ (18 ≤ frame.length) ∧ (frame.length ≤ 1522) ∧ ((parseEth frame).etype = 0x88F7)) ∧
    (∃ (s : State), (s.isHwReady 8 = true) ∧ ((s.blob Obj.QBV_LIST).isEmpty = false)) ∧
    (∃ (speed : Fin 4), speed.val = 0) ∧
    (∃ (s : State) (port : Fin 2) (speed : Fin 4), (s.isHwReady 8 = true) ∧ (1 ≤ speed.val) ∧ (s.rdN Obj.ETH_MODE 0 port = 1 ∨ (s.rdN Obj.ETH_MODE 0 port = 2 ∧ speed.val = 2))) ∧
    (∃ (s : State), bit 3 (s.rdN Obj.HW_PLL_LOCKED) = true) :=
  ⟨⟨((dev.wr Obj.ETH_LINK 2 0 0).wr Obj.ETH_LINK 2 0 1), 0, (toBE 6 2 ++ toBE 6 4 ++ toBE 2 2048 ++ List.replicate 46 0), true, by decide +kernel⟩,
   ⟨(let u := ((dev.wr Obj.ETH_LINK 2 0 0).wr Obj.ETH_LINK 2 0 1); ({ u with net := { u.net with macs := [⟨2, 1, 5⟩] } } : State)), 0, (toBE 6 2 ++ toBE 6 4 ++ toBE 2 4660 ++ List.replicate 46 0), false, ⟨2, 1, 5⟩, by decide +kernel⟩,
   ⟨(let u := ((dev.wr Obj.ETH_LINK 2 0 0).wr Obj.ETH_LINK 2 0 1); ({ u with net := { u.net with macs := [⟨2, 0, 5⟩] } } : State)), 0, (toBE 6 2 ++ toBE 6 4 ++ toBE 2 4660 ++ List.replicate 46 0), false, ⟨2, 0, 5⟩, by decide +kernel⟩,
   ⟨((dev.wr Obj.ETH_LINK 2 0 0).wr Obj.ETH_LINK 2 0 1), 0, (toBE 6 281474976710655 ++ toBE 6 4 ++ toBE 2 2054 ++ List.replicate 46 0), false, by decide +kernel⟩,
   ⟨((dev.wr Obj.ETH_LINK 2 0 0).wr Obj.ETH_LINK 2 0 1), 0, (toBE 6 1652522221582 ++ toBE 6 4 ++ toBE 2 35063 ++ List.replicate 46 0), false, by decide +kernel⟩,
   ⟨(let u := (((dev.wr Obj.ETH_LINK 2 0 0).wr Obj.ETH_LINK 2 0 1).wrBlob Obj.QBV_LIST [1]); ({ u with net := { u.net with egress := [⟨1, 3, [1]⟩, ⟨1, 5, [2]⟩] } } : State)), by decide +kernel⟩,
   ⟨0, by decide +kernel⟩,
   ⟨(dev.wr Obj.ETH_MODE 1 0 1), 1, 2, by decide +kernel⟩,
   ⟨(((dev.wr Obj.ETH_LINK 2 0 0).wr Obj.ETH_LINK 2 0 1).wr Obj.HW_PLL_LOCKED 15), by decide +kernel⟩⟩

theorem test_NetworkTimeAndEchoAct_witnesses :
    (∃ (s : State), s.isHwReady 8 = true) ∧
    (∃ (s : State), (s.isHwReady 8 = true) ∧ (s.rdAs Obj.PTP_PRIORITY1 ≠ 255)) ∧
    (∃ (s : State), s.rdN Obj.PTP_STATE = 2) ∧
    (∃ (s : State) (target : Nat) (leased : Nat), (s.isHwReady 3 = true) ∧ (target ≠ 0) ∧ (target = s.deviceIp leased)) ∧
    (∃ (s : State) (target : Nat) (leased : Nat), (s.isHwReady 3 = true) ∧ (target ≠ 0) ∧ (target = s.deviceIp leased)) :=
  ⟨⟨dev, by decide +kernel⟩,
   ⟨(dev.wr Obj.PTP_PRIORITY1 248), by decide +kernel⟩,
   ⟨(dev.wr Obj.PTP_STATE 2), by decide +kernel⟩,
   ⟨dev, 9, 9, by decide +kernel⟩,
   ⟨dev, 9, 9, by decide +kernel⟩⟩

theorem test_SessionsOpenAndEnd_witnesses :
    (∃ (s : State) (who : Requester) (k : Nat) (p : Peer), (who = .peer k) ∧ (s.served who = true) ∧ (s.checkAccess who Obj.GRANT_CHALLENGE false = none) ∧ (s.peerRec k = some p)) ∧
    (∃ (s : State) (who : Requester) (data : Bytes) (k : Nat) (p : Peer), (who = .peer k) ∧ (s.served who = true) ∧ (s.checkAccess who Obj.GRANT_REQUEST true = none) ∧ (data.length = 194 ∨ data.length = 435) ∧ (s.isHwReady 9 = true) ∧ ((s.startResult Obj.GRANT_RESULT who).peerRec k = some p)) ∧
    (∃ (s : State) (who : Requester) (v : Nat) (k : Nat) (x : Session), (who = .peer k) ∧ (s.accepts who Obj.GRANT_END v) ∧ ((s.peerRec k).bind Peer.session = some x) ∧ (x.number = v)) ∧
    (∃ (s : State) (k : Fin 32) (x : Session), (s.hwGated 0 = false) ∧ ((s.peerRec k).bind Peer.session = some x) ∧ (x.lastAt + s.rdN Obj.GRANT_IDLE_S * 1000000000 ≤ s.time)) ∧
    (∃ (s : State) (k : Fin 32) (p : Peer), (s.hwGated 0 = false) ∧ (s.peerRec k = some p) ∧ (p.session = none) ∧ (p.lastAt + 60000000000 ≤ s.time)) :=
  ⟨⟨(dev.setPeer 6 { id := ⟨.can 0 5, 0⟩, last := 3, lastAt := 5 }), (.peer 6), 6, (((dev.setPeer 6 { id := ⟨.can 0 5, 0⟩, last := 3, lastAt := 5 }).peerRec 6).getD (⟨⟨.can 0 5, 0⟩, 3, [], [], 5, none, none⟩ : Peer)), by decide +kernel⟩,
   ⟨(dev.setPeer 6 { id := ⟨.can 0 5, 0⟩, last := 3, lastAt := 5 }), (.peer 6), (List.replicate 194 1), 6, (((dev.setPeer 6 { id := ⟨.can 0 5, 0⟩, last := 3, lastAt := 5 }).peerRec 6).getD (⟨⟨.can 0 5, 0⟩, 3, [], [], 5, none, none⟩ : Peer)), by decide +kernel⟩,
   ⟨({ (dev.setPeer 6 { id := ⟨.can 0 5, 0⟩, last := 3, lastAt := 5, session := some { number := 77, level := .expert, key := [1], lastAt := 5 } }) with peerLevel := [(6, .expert)] } : State), (.peer 6), 77, 6, ⟨77, .expert, [1], 5⟩, by decide +kernel⟩,
   ⟨({ ({ (dev.setPeer 6 { id := ⟨.can 0 5, 0⟩, last := 3, lastAt := 5, session := some { number := 77, level := .expert, key := [1], lastAt := 5 } }) with peerLevel := [(6, .expert)] } : State) with time := 10000000000000 } : State), 6, ⟨77, .expert, [1], 5⟩, by decide +kernel⟩,
   ⟨({ (dev.setPeer 6 { id := ⟨.can 0 5, 0⟩, last := 3, lastAt := 5 }) with time := 10000000000000 } : State), 6, (((dev.setPeer 6 { id := ⟨.can 0 5, 0⟩, last := 3, lastAt := 5 }).peerRec 6).getD (⟨⟨.can 0 5, 0⟩, 3, [], [], 5, none, none⟩ : Peer)), by decide +kernel⟩⟩

theorem test_HierarchyAdoptsAndWatches_witnesses :
    (∃ (s : State) (who : Requester) (v : Nat) (serial : Nat), (s.accepts who Obj.DEVICE_PATH v) ∧ (v ≠ unadopted) ∧ (v ≠ 0) ∧ (pathOk v = true) ∧ (depthOf v ≠ 3) ∧ (s.rdN Obj.MANAGER_SERIAL = serial ∨ ((s.rdN Obj.ADOPT_POLICY ≠ 0 ∨ s.rdN Obj.MANAGER_SERIAL = 0) ∧ ¬ (s.isMember = true ∧ s.net.beatAt = some s.time))) ∧ (s.rdN Obj.ROLE ≠ 1) ∧ (v < 2 ^ 32)) ∧
    (∃ (s : State) (who : Requester) (v : Nat), (s.accepts who Obj.DEVICE_PATH v) ∧ (v = unadopted) ∧ (s.rdN Obj.ROLE ≠ 1)) ∧
    (∃ (s : State) (who : Requester) (v : Nat) (serial : Nat), (s.accepts who Obj.DEVICE_PATH v) ∧ (v ≠ unadopted) ∧ (v ≠ 0) ∧ (pathOk v = true) ∧ (s.rdN Obj.ADOPT_POLICY = 0) ∧ (s.rdN Obj.MANAGER_SERIAL ≠ 0) ∧ (s.rdN Obj.MANAGER_SERIAL ≠ serial)) ∧
    (∃ (s : State) (who : Requester) (a1 : Fin 64) (v : Nat), (s.accepts who Obj.MEMBER_SERIAL v 0 a1) ∧ (v ≠ 0)) ∧
    (∃ (s : State) (who : Requester) (a1 : Fin 64) (v : Nat), (s.accepts who Obj.MEMBER_SERIAL v 0 a1) ∧ (v = 0)) ∧
    (∃ (s : State), (s.hwGated 0 = false) ∧ (s.passed .announce 1000000000 = true) ∧ (s.rdN Obj.ROLE = 2) ∧ (s.rdN Obj.DEVICE_PATH = unadopted) ∧ (s.isHwReady 9 = true)) ∧
    (∃ (s : State), (s.rdN Obj.ROLE = 1) ∧ (s.isHwReady 9 = true) ∧ (s.hwGated 0 = false) ∧ (s.passed .heartbeat (s.rdN Obj.HEARTBEAT_MS * 1000000) = true)) ∧
    (∃ (s : State) (serial : Nat), (s.hwGated 0 = false) ∧ (s.isMember = true) ∧ (s.isHwReady 9 = true) ∧ (serial = s.rdN Obj.MANAGER_SERIAL) ∧ (s.alarmRaised 21 noStation = false)) ∧
    (∃ (s : State) (serial : Nat), (s.hwGated 0 = false) ∧ (s.isMember = true) ∧ (s.isHwReady 9 = true) ∧ (serial = s.rdN Obj.MANAGER_SERIAL) ∧ (s.alarmRaised 21 noStation = true)) ∧
    (∃ (s : State) (a1 : Fin 64) (serial : Nat), (s.rdN Obj.ROLE = 1) ∧ (s.isHwReady 9 = true) ∧ (s.hwGated 0 = false) ∧ (s.memberState a1 ≠ mbFree) ∧ (s.memberState a1 ≠ mbConflict) ∧ (serial ≠ s.rdN Obj.MEMBER_SERIAL 0 a1)) ∧
    (∃ (s : State) (a1 : Fin 64) (serial : Nat), (s.rdN Obj.ROLE = 1) ∧ (s.isHwReady 9 = true) ∧ (s.hwGated 0 = false) ∧ (s.memberState a1 ≠ mbFree) ∧ (s.memberState a1 ≠ mbConflict) ∧ (serial = s.rdN Obj.MEMBER_SERIAL 0 a1) ∧ (s.memberState a1 = mbActive ∨ s.cached = none)) ∧
    (∃ (s : State) (a1 : Fin 64), (s.rdN Obj.ROLE = 1) ∧ (s.isHwReady 9 = true) ∧ (s.hwGated 0 = false) ∧ (s.memberState a1 = mbActive ∨ s.memberState a1 = mbAdopting) ∧ (3 ≤ s.net.unanswered.getD a1.val 0) ∧ (((s.wr Obj.MEMBER_STATE 3 0 a1).alarm 20 1 noStation a1).rdN Obj.CACHE_MEMBER_STATE 0 a1 ≠ 1)) ∧
    (∃ (s : State) (k : Nat), (s.hwGated 0 = false) ∧ (s.net.beatAt = some k) ∧ (s.isMember = true) ∧ (s.isHwReady 9 = true) ∧ (k + 3 * s.rdN Obj.HEARTBEAT_MS * 1000000 ≤ s.time) ∧ (s.alarmRaised 21 noStation = false)) :=
  ⟨⟨(dev.wr Obj.ROLE 2), .host 0, (childPath 0 5), 44, by decide +kernel⟩,
   ⟨(dev.wr Obj.ROLE 2), .host 0, unadopted, by decide +kernel⟩,
   ⟨((dev.wr Obj.ROLE 2).wr Obj.MANAGER_SERIAL 43), .host 0, (childPath 0 5), 44, by decide +kernel⟩,
   ⟨((dev.wr Obj.ROLE 1).wr Obj.DEVICE_PATH 0), .host 0, 5, 99, by decide +kernel⟩,
   ⟨((((dev.wr Obj.ROLE 1).wr Obj.DEVICE_PATH 0).wr Obj.MEMBER_STATE 2 0 5).wr Obj.MEMBER_SERIAL 99 0 5), .host 0, 5, 0, by decide +kernel⟩,
   ⟨(dev.wr Obj.ROLE 2), by decide +kernel⟩,
   ⟨((((dev.wr Obj.ROLE 1).wr Obj.DEVICE_PATH 0).wr Obj.MEMBER_STATE 2 0 5).wr Obj.MEMBER_SERIAL 99 0 5), by decide +kernel⟩,
   ⟨((dev.wr Obj.ROLE 2).wr Obj.DEVICE_PATH (childPath 0 5)), (((dev.wr Obj.ROLE 2).wr Obj.DEVICE_PATH (childPath 0 5)).rdN Obj.MANAGER_SERIAL), by decide +kernel⟩,
   ⟨(((dev.wr Obj.ROLE 2).wr Obj.DEVICE_PATH (childPath 0 5)).alarm 21 1 noStation 0), (((dev.wr Obj.ROLE 2).wr Obj.DEVICE_PATH (childPath 0 5)).rdN Obj.MANAGER_SERIAL), by decide +kernel⟩,
   ⟨((((dev.wr Obj.ROLE 1).wr Obj.DEVICE_PATH 0).wr Obj.MEMBER_STATE 2 0 5).wr Obj.MEMBER_SERIAL 99 0 5), 5, 98, by decide +kernel⟩,
   ⟨((((dev.wr Obj.ROLE 1).wr Obj.DEVICE_PATH 0).wr Obj.MEMBER_STATE 1 0 5).wr Obj.MEMBER_SERIAL 99 0 5), 5, 99, by decide +kernel⟩,
   ⟨(let u := ((((dev.wr Obj.ROLE 1).wr Obj.DEVICE_PATH 0).wr Obj.MEMBER_STATE 2 0 5).wr Obj.MEMBER_SERIAL 99 0 5); ({ u with net := { u.net with unanswered := [(5, 3)] } } : State)), 5, by decide +kernel⟩,
   ⟨(let u := ({ ((dev.wr Obj.ROLE 2).wr Obj.DEVICE_PATH (childPath 0 5)) with time := 10000000000000 } : State); ({ u with net := { u.net with beatAt := some 5 } } : State)), 5, by decide +kernel⟩⟩

theorem test_AlarmsAreMergedAndAcknowledged_witnesses :
    (∃ (s : State), (s.rdN Obj.ROLE = 1) ∧ (s.isHwReady 9 = true) ∧ (s.hwGated 0 = false) ∧ (s.hwQueuesReady = true)) ∧
    (∃ (s : State) (path : Nat) (code : Nat) (station : Nat) (st : Nat) (w : MergeWindow) (m : Alarm), (s.hwGated 0 = false) ∧ (s.alarms.windows.find? (fun w => w.path = path && w.code = code && w.station = station && w.st = st && w.since + s.rdN Obj.ALARM_MERGE_MS * 1000000 ≤ s.time) = some w) ∧ (w.merged = some m)) ∧
    (∃ (s : State) (who : Requester) (seq : Nat), (s.accepts who Obj.ALARM_ACK seq) ∧ (s.alarmQ.items.any (fun e => e.2.seq = seq) = true)) ∧
    (∃ (s : State) (who : Requester) (seq : Nat), (s.accepts who Obj.ALARM_ACK seq) ∧ (s.alarmQ.items.all (fun e => e.2.seq ≠ seq) = true)) ∧
    (∃ (s : State), (s.hwGated 0 = false) ∧ (s.hwQueuesReady = true) ∧ (s.alarms.lostHeld = 0)) :=
  ⟨⟨((dev.wr Obj.ROLE 1).wr Obj.DEVICE_PATH 0), by decide +kernel⟩,
   ⟨({ dev with alarms := { dev.alarms with windows := [(⟨7, 3, 255, 1, 0, some (⟨7, 3, 1, 255, 1, 1, 9, 2, 4⟩ : Alarm)⟩ : MergeWindow)] } } : State), 7, 3, 255, 1, (⟨7, 3, 255, 1, 0, some (⟨7, 3, 1, 255, 1, 1, 9, 2, 4⟩ : Alarm)⟩ : MergeWindow), (⟨7, 3, 1, 255, 1, 1, 9, 2, 4⟩ : Alarm), by decide +kernel⟩,
   ⟨(dev.enterAlarm (⟨7, 3, 1, 255, 1, 1, 9, 2, 4⟩ : Alarm)), .host 0, (((dev.enterAlarm (⟨7, 3, 1, 255, 1, 1, 9, 2, 4⟩ : Alarm)).alarmQ.items.map fun e => e.2.seq).headD 0), by decide +kernel⟩,
   ⟨dev, .host 0, 5, by decide +kernel⟩,
   ⟨dev, by decide +kernel⟩⟩

theorem test_FramesAreRelayed_witnesses :
    (∃ (s : State) (b1 : Bytes) (h : Header) (a1 : Nat), (s.rdN Obj.ROLE = 1) ∧ (s.isHwReady 9 = true) ∧ (frameOk b1 = true) ∧ (h = parseHeader b1) ∧ (h.response = false) ∧ (bit 31 h.dest = false) ∧ (h.dest ≠ s.ownPath) ∧ (pathOk h.dest = true) ∧ (nextHop s.ownPath h.dest = some a1) ∧ (h.hops = 0)) ∧
    (∃ (s : State) (b1 : Bytes) (h : Header) (a1 : Nat), (s.rdN Obj.ROLE = 1) ∧ (s.isHwReady 9 = true) ∧ (frameOk b1 = true) ∧ (h = parseHeader b1) ∧ (h.response = false) ∧ (bit 31 h.dest = false) ∧ (h.dest ≠ s.ownPath) ∧ (pathOk h.dest = true) ∧ (nextHop s.ownPath h.dest = some a1) ∧ (h.hops ≠ 0) ∧ (s.memberState a1 = mbLost ∨ s.memberState a1 = mbFree ∨ s.memberState a1 = mbConflict)) ∧
    (∃ (s : State) (origin : RelayFrom) (b1 : Bytes) (h : Header) (a1 : Nat), (s.rdN Obj.ROLE = 1) ∧ (s.isHwReady 9 = true) ∧ (frameOk b1 = true) ∧ (h = parseHeader b1) ∧ (h.response = false) ∧ (bit 31 h.dest = false) ∧ (h.dest ≠ s.ownPath) ∧ (pathOk h.dest = true) ∧ (nextHop s.ownPath h.dest = some a1) ∧ (h.hops ≠ 0) ∧ (s.memberState a1 = mbActive ∨ s.memberState a1 = mbAdopting) ∧ (s.memberPort a1 < 2) ∧ (s.net.relayed.length < 256) ∧ (origin = .manager)) ∧
    (∃ (s : State) (b1 : Bytes) (h : Header), (s.rdN Obj.ROLE = 1) ∧ (s.isHwReady 9 = true) ∧ (frameOk b1 = true) ∧ (h = parseHeader b1) ∧ (h.response = true) ∧ (h.hops ≠ 0) ∧ (bits 17 0 h.src ≠ s.ownPath)) ∧
    (∃ (s : State) (b1 : Bytes) (h : Header), (frameOk b1 = true) ∧ (h = parseHeader b1) ∧ (h.response = false) ∧ (h.dest = s.ownPath)) :=
  ⟨⟨((((dev.wr Obj.ROLE 1).wr Obj.DEVICE_PATH 0).wr Obj.MEMBER_STATE 2 0 5).wr Obj.MEMBER_SERIAL 99 0 5), (makeFrame { typ := tyRead, response := false, qual := false, tagged := false, length := 0, tenant := 0, seq := 5, session := 0, src := 7, dest := (childPath 0 5), hops := 0, status := 0, relayed := false } [] none), (parseHeader (makeFrame { typ := tyRead, response := false, qual := false, tagged := false, length := 0, tenant := 0, seq := 5, session := 0, src := 7, dest := (childPath 0 5), hops := 0, status := 0, relayed := false } [] none)), 5, by decide +kernel⟩,
   ⟨((((dev.wr Obj.ROLE 1).wr Obj.DEVICE_PATH 0).wr Obj.MEMBER_STATE 3 0 5).wr Obj.MEMBER_SERIAL 99 0 5), (makeFrame { typ := tyRead, response := false, qual := false, tagged := false, length := 0, tenant := 0, seq := 5, session := 0, src := 7, dest := (childPath 0 5), hops := 3, status := 0, relayed := false } [] none), (parseHeader (makeFrame { typ := tyRead, response := false, qual := false, tagged := false, length := 0, tenant := 0, seq := 5, session := 0, src := 7, dest := (childPath 0 5), hops := 3, status := 0, relayed := false } [] none)), 5, by decide +kernel⟩,
   ⟨((((dev.wr Obj.ROLE 1).wr Obj.DEVICE_PATH 0).wr Obj.MEMBER_STATE 2 0 5).wr Obj.MEMBER_SERIAL 99 0 5), .manager, (makeFrame { typ := tyRead, response := false, qual := false, tagged := false, length := 0, tenant := 0, seq := 5, session := 0, src := 7, dest := (childPath 0 5), hops := 3, status := 0, relayed := false } [] none), (parseHeader (makeFrame { typ := tyRead, response := false, qual := false, tagged := false, length := 0, tenant := 0, seq := 5, session := 0, src := 7, dest := (childPath 0 5), hops := 3, status := 0, relayed := false } [] none)), 5, by decide +kernel⟩,
   ⟨((((dev.wr Obj.ROLE 1).wr Obj.DEVICE_PATH 0).wr Obj.MEMBER_STATE 2 0 5).wr Obj.MEMBER_SERIAL 99 0 5), (makeFrame { typ := tyRead, response := true, qual := false, tagged := false, length := 0, tenant := 0, seq := 5, session := 0, src := (childPath 0 5), dest := 3, hops := 3, status := 0, relayed := false } [] none), (parseHeader (makeFrame { typ := tyRead, response := true, qual := false, tagged := false, length := 0, tenant := 0, seq := 5, session := 0, src := (childPath 0 5), dest := 3, hops := 3, status := 0, relayed := false } [] none)), by decide +kernel⟩,
   ⟨((((dev.wr Obj.ROLE 1).wr Obj.DEVICE_PATH 0).wr Obj.MEMBER_STATE 2 0 5).wr Obj.MEMBER_SERIAL 99 0 5), (makeFrame { typ := tyRead, response := false, qual := false, tagged := false, length := 0, tenant := 0, seq := 5, session := 0, src := 7, dest := 0, hops := 3, status := 0, relayed := false } [] none), (parseHeader (makeFrame { typ := tyRead, response := false, qual := false, tagged := false, length := 0, tenant := 0, seq := 5, session := 0, src := 7, dest := 0, hops := 3, status := 0, relayed := false } [] none)), by decide +kernel⟩⟩

theorem test_CacheServesMembers_witnesses :
    (∃ (s : State) (who : Requester) (v : Nat), s.accepts who Obj.CACHE_TARGETS v) ∧
    (∃ (s : State) (a1 : Fin 64) (bitmap : Bytes) (p : CachePkg), (s.cached = some p) ∧ (s.rdN Obj.CACHE_MEMBER_STATE 0 a1 = 1) ∧ (s.memberState a1 = mbActive) ∧ (s.rdN Obj.ROLE = 1) ∧ (s.isHwReady 9 = true) ∧ (((List.range p.total).filter fun k => !bit (k % 8) (byteAt bitmap (k / 8))) ≠ [])) ∧
    (∃ (s : State) (a1 : Fin 64) (bitmap : Bytes) (p : CachePkg), (s.cached = some p) ∧ (s.rdN Obj.CACHE_MEMBER_STATE 0 a1 = 1) ∧ (s.memberState a1 = mbActive) ∧ (s.rdN Obj.ROLE = 1) ∧ (s.isHwReady 9 = true) ∧ (((List.range p.total).filter fun k => !bit (k % 8) (byteAt bitmap (k / 8))) = [])) :=
  ⟨⟨((((dev.wr Obj.ROLE 1).wr Obj.DEVICE_PATH 0).wr Obj.MEMBER_STATE 2 0 5).wr Obj.MEMBER_SERIAL 99 0 5), .host 0, 32, by decide +kernel⟩,
   ⟨(let u := (((((dev.wr Obj.ROLE 1).wr Obj.DEVICE_PATH 0).wr Obj.MEMBER_STATE 2 0 5).wr Obj.MEMBER_SERIAL 99 0 5).wr Obj.CACHE_MEMBER_STATE 1 0 5); ({ u with net := { u.net with cache := [(⟨List.replicate 8 0 ++ toLE 4 8192 ++ List.replicate 220 0, [(0, [1, 2]), (1, [3])]⟩ : CachePkg)] } } : State)), 5, [0], (⟨List.replicate 8 0 ++ toLE 4 8192 ++ List.replicate 220 0, [(0, [1, 2]), (1, [3])]⟩ : CachePkg), by decide +kernel⟩,
   ⟨(let u := (((((dev.wr Obj.ROLE 1).wr Obj.DEVICE_PATH 0).wr Obj.MEMBER_STATE 2 0 5).wr Obj.MEMBER_SERIAL 99 0 5).wr Obj.CACHE_MEMBER_STATE 1 0 5); ({ u with net := { u.net with cache := [(⟨List.replicate 8 0 ++ toLE 4 8192 ++ List.replicate 220 0, [(0, [1, 2]), (1, [3])]⟩ : CachePkg)] } } : State)), 5, [255], (⟨List.replicate 8 0 ++ toLE 4 8192 ++ List.replicate 220 0, [(0, [1, 2]), (1, [3])]⟩ : CachePkg), by decide +kernel⟩⟩

theorem test_PackagesAreReceived_witnesses :
    (∃ (s : State) (who : Requester) (data : Bytes), (s.served who = true) ∧ (s.checkAccess who Obj.MANIFEST true = none) ∧ (232 ≤ data.length) ∧ (data.length ≤ 648) ∧ ((data.length - 128) % 104 = 0) ∧ (s.isHwReady 11 = true)) ∧
    (∃ (s : State) (data : Bytes), (s.isHwReady 11 = true) ∧ (data.length = 4112) ∧ (s.pieceReject data = some 1)) ∧
    (∃ (s : State) (data : Bytes), (s.isHwReady 11 = true) ∧ (data.length = 4112) ∧ (s.pieceReject data = some 2)) ∧
    (∃ (s : State) (data : Bytes), (s.isHwReady 11 = true) ∧ (data.length = 4112) ∧ (s.pieceReject data = some 3)) ∧
    (∃ (s : State) (data : Bytes), (s.isHwReady 11 = true) ∧ (data.length = 4112) ∧ (s.pieceReject data = none)) ∧
    (∃ (s : State) (who : Requester) (data : Bytes), (s.served who = true) ∧ (s.checkAccess who Obj.PIECE_IN true = none) ∧ (data.length = 4112) ∧ (s.pieceReject data = none)) ∧
    (∃ (s : State) (who : Requester) (data : Bytes), (s.served who = true) ∧ (s.checkAccess who Obj.PIECE_IN true = none) ∧ (data.length = 4112) ∧ (s.pieceReject data ≠ none)) ∧
    (∃ (s : State) (p : PieceWrite) (l : List PieceWrite), (s.upd.writing = p :: l) ∧ (p.erase = false)) ∧
    (∃ (s : State), (s.hwGated 0 = false) ∧ (s.updState = upVerifying) ∧ (s.upd.copying = false)) ∧
    (∃ (s : State), (s.hwGated 0 = false) ∧ (s.updState = upVerifying) ∧ (s.upd.copying = true)) ∧
    (∃ (s : State) (x : Nat), (s.rst.erase = some x) ∧ (settingsBase ≤ x)) ∧
    (∃ (s : State) (x : Nat), (s.rst.erase = some x) ∧ (x < settingsBase) ∧ (s.upd.erasing = true)) ∧
    (∃ (s : State) (x : Nat) (p : PieceWrite) (l : List PieceWrite), (s.rst.erase = some x) ∧ (x < settingsBase) ∧ (s.upd.erasing = false) ∧ (s.upd.writing = p :: l) ∧ (x = stagingBase + 4096 * p.seq)) :=
  ⟨⟨dev, .host 0, (List.replicate 232 1), by decide +kernel⟩,
   ⟨dev, (List.replicate 4112 0), by decide +kernel⟩,
   ⟨(let u := (dev.wrBlob Obj.MANIFEST (List.replicate 232 0)).wr Obj.UPDATE_STATE upReceiving; ({ u with upd := { u.upd with index := 0 } } : State)), (List.replicate 4112 0), by decide +kernel⟩,
   ⟨receiving, (pieceOf (zeroCrc + 1)), ⟨by decide +kernel, recordOf_length 4096 _, receiving_refuses⟩⟩,
   ⟨receiving, (pieceOf zeroCrc), ⟨by decide +kernel, recordOf_length 4096 _, receiving_takes⟩⟩,
   ⟨receiving, .host 0, (pieceOf zeroCrc), ⟨by decide +kernel, by decide +kernel, recordOf_length 4096 _, receiving_takes⟩⟩,
   ⟨dev, .host 0, (List.replicate 4112 0), by decide +kernel⟩,
   ⟨(let u := ((dev.wr Obj.PIECES_TOTAL 1).wrBlob Obj.PIECE_BITMAP [0]).wr Obj.UPDATE_STATE upReceiving; ({ u with upd := { u.upd with writing := [⟨0, [1], false⟩] } } : State)), ⟨0, [1], false⟩, [], by decide +kernel⟩,
   ⟨(let u := dev.wr Obj.UPDATE_STATE upVerifying; ({ u with upd := { u.upd with index := 0 } } : State)), by decide +kernel⟩,
   ⟨(let u := dev.wr Obj.UPDATE_STATE upVerifying; ({ u with upd := { u.upd with copying := true } } : State)), by decide +kernel⟩,
   ⟨({ dev with rst := { dev.rst with erase := some settingsBase } } : State), settingsBase, by decide +kernel⟩,
   ⟨(let u := ({ dev with rst := { dev.rst with erase := some stagingBase } } : State).wr Obj.UPDATE_STATE upIdle; ({ u with upd := { u.upd with erasing := true } } : State)), stagingBase, by decide +kernel⟩,
   ⟨(let u := ({ dev with rst := { dev.rst with erase := some stagingBase } } : State).wr Obj.UPDATE_STATE upReceiving; ({ u with upd := { u.upd with writing := [⟨0, [1], true⟩] } } : State)), stagingBase, ⟨0, [1], true⟩, [], by decide +kernel⟩⟩

theorem test_UpdateCommandsAct_witnesses :
    (∃ (s : State) (who : Requester), (s.accepts who Obj.UPDATE_COMMAND 1) ∧ (s.isHwReady 11 = true) ∧ (s.updState = upReady)) ∧
    (∃ (s : State), (s.hwGated 0 = false) ∧ (s.updState = upReady) ∧ (s.isHwReady 11 = true) ∧ (s.rdN Obj.APPLY_AT ≠ 0) ∧ (s.rdN Obj.PTP_STATE ≠ 0) ∧ (s.rdN Obj.APPLY_AT ≤ s.networkTime)) ∧
    (∃ (s : State) (who : Requester), (s.accepts who Obj.UPDATE_COMMAND 2) ∧ (s.isHwReady 11 = true) ∧ (s.updState = upTrial)) ∧
    (∃ (s : State), (s.hwGated 0 = false) ∧ (s.updState = upTrial) ∧ (s.upd.trialAt + s.rdN Obj.TRIAL_S * 1000000000 ≤ s.time)) ∧
    (∃ (s : State) (who : Requester), (s.accepts who Obj.UPDATE_COMMAND 3) ∧ (s.isHwReady 11 = true) ∧ (s.updState = upTrial)) ∧
    (∃ (s : State) (who : Requester), (s.accepts who Obj.UPDATE_COMMAND 4) ∧ (s.isHwReady 11 = true) ∧ (s.updState = upReceiving ∨ s.updState = upVerifying ∨ s.updState = upReady)) ∧
    (∃ (s : State) (who : Requester), (s.accepts who Obj.UPDATE_COMMAND 5) ∧ (s.isHwReady 11 = true) ∧ (s.upd.wait = .sec)) ∧
    (∃ (s : State) (who : Requester), (s.accepts who Obj.UPDATE_COMMAND 1) ∧ (s.isHwReady 11 = true) ∧ (s.updState ≠ upReady)) ∧
    (∃ (s : State) (who : Requester), (s.accepts who Obj.UPDATE_COMMAND 3) ∧ (s.isHwReady 11 = true) ∧ (s.updState ≠ upTrial)) ∧
    (∃ (s : State) (who : Requester), (s.accepts who Obj.UPDATE_COMMAND 5) ∧ (s.isHwReady 11 = true) ∧ (s.upd.wait ≠ .sec)) ∧
    (∃ (s : State) (who : Requester), (s.accepts who Obj.UPDATE_COMMAND 2) ∧ (s.isHwReady 11 = true) ∧ (s.updState ≠ upTrial)) :=
  ⟨⟨(let u := dev.wr Obj.UPDATE_STATE upReady; ({ u with upd := { u.upd with plan := [2] } } : State)), .host 0, by decide +kernel⟩,
   ⟨(let u := ((dev.wr Obj.APPLY_AT 5).wr Obj.PTP_STATE 1).wr Obj.UPDATE_STATE upReady; ({ u with upd := { u.upd with plan := [2] } } : State)), by decide +kernel⟩,
   ⟨(let u := dev.wr Obj.UPDATE_STATE upTrial; ({ u with upd := { u.upd with plan := [2] } } : State)), .host 0, by decide +kernel⟩,
   ⟨(let u := ({ dev with time := 10 ^ 18 } : State).wr Obj.UPDATE_STATE upTrial; ({ u with upd := { u.upd with plan := [2] } } : State)), by decide +kernel⟩,
   ⟨(let u := dev.wr Obj.UPDATE_STATE upTrial; ({ u with upd := { u.upd with plan := [2], index := 1 } } : State)), .host 0, by decide +kernel⟩,
   ⟨(let u := dev.wr Obj.UPDATE_STATE upReady; ({ u with upd := { u.upd with plan := [2] } } : State)), .host 0, by decide +kernel⟩,
   ⟨(let u := dev.wr Obj.UPDATE_STATE upApplying; ({ u with upd := { u.upd with plan := [0], wait := .sec } } : State)), .host 0, by decide +kernel⟩,
   ⟨dev, .host 0, by decide +kernel⟩,
   ⟨dev, .host 0, by decide +kernel⟩,
   ⟨dev, .host 0, by decide +kernel⟩,
   ⟨dev, .host 0, by decide +kernel⟩⟩

theorem test_UpdateStepsRun_witnesses :
    (∃ (s : State), (s.hwGated 0 = false) ∧ (s.upd.wait = .gap) ∧ (s.isHwReady 11 = true) ∧ (s.upd.since + s.rdN Obj.STATION_GAP_MS * 1000000 ≤ s.time) ∧ (s.stepRank = some rkSec)) ∧
    (∃ (s : State), (s.hwGated 0 = false) ∧ (s.upd.wait = .gap) ∧ (s.isHwReady 11 = true) ∧ (s.upd.since + s.rdN Obj.STATION_GAP_MS * 1000000 ≤ s.time) ∧ (s.stepRank = some rkMgmt) ∧ (s.noHold)) ∧
    (∃ (s : State) (k : Nat), (s.hwGated 0 = false) ∧ (s.upd.wait = .gap) ∧ (s.isHwReady 11 = true) ∧ (s.upd.since + s.rdN Obj.STATION_GAP_MS * 1000000 ≤ s.time) ∧ (s.stepRank = some rkStn) ∧ (s.nextSwap rkStn = some k)) ∧
    (∃ (s : State), (s.hwGated 0 = false) ∧ (s.upd.wait = .sec) ∧ (s.liveEnclaves = [])) ∧
    (∃ (s : State) (trial : Bool), (s.upd.wait = .run) ∧ (s.stepRank = some rkSec) ∧ (s.secUp = true) ∧ (s.sec.restarting = false) ∧ (trial = true) ∧ (s.updState = upApplying) ∧ (s.upd.index + 1 < s.upd.plan.length)) ∧
    (∃ (s : State) (trial : Bool), (s.upd.wait = .run) ∧ (s.stepRank = some rkSec) ∧ (s.secUp = true) ∧ (s.sec.restarting = false) ∧ (trial = true) ∧ (s.updState = upApplying) ∧ (s.upd.plan.length ≤ s.upd.index + 1)) ∧
    (∃ (s : State) (trial : Bool), (s.upd.wait = .run) ∧ (s.stepRank = some rkSec) ∧ (s.secUp = true) ∧ (s.sec.restarting = false) ∧ (trial = false) ∧ (s.updState = upApplying)) ∧
    (∃ (s : State), (s.hwGated 0 = false) ∧ (s.upd.mgmtStep = true) ∧ (s.isHwReady 4 = true) ∧ (s.stepRank = some rkMgmt) ∧ (s.updState ≠ upReverting) ∧ (s.manifest.withdraw = false) ∧ (((s.changed s.manifest).any fun e => e.component = 4) = false)) ∧
    (∃ (s : State) (n : Nat), (s.upd.wait = .run) ∧ (s.stepRank = some rkStn) ∧ (s.nextSwap rkStn = some n) ∧ ((s.ctl n).coreOn = true) ∧ (s.swapInstant n = true) ∧ (s.noHold) ∧ (n < 8)) ∧
    (∃ (s : State) (n : Nat), (s.upd.wait = .run) ∧ (s.stepRank = some rkStn) ∧ (s.nextSwap rkStn = some n) ∧ ((s.ctl n).coreOn = true)) ∧
    (∃ (s : State) (n : Nat), (s.upd.wait = .run) ∧ (s.stepRank = some rkStn) ∧ (s.nextSwap rkStn = some n) ∧ (s.upd.since + 10000000 ≤ s.time) ∧ (s.isStReady n 1 = false) ∧ (s.updState = upApplying)) ∧
    (∃ (s : State), (s.updState = upReverting) ∧ (s.upd.wait = .run) ∧ (s.stepRank = some rkSec) ∧ (s.secUp = true) ∧ (s.sec.restarting = false) ∧ (2 ≤ s.upd.index)) ∧
    (∃ (s : State), (s.updState = upReverting) ∧ (s.stepRank = none)) :=
  ⟨⟨(let u := ({ dev with time := 10 ^ 18 } : State).wr Obj.UPDATE_STATE upApplying; ({ u with upd := { u.upd with plan := [0], wait := .gap } } : State)), by decide +kernel⟩,
   ⟨(let u := ({ dev with time := 10 ^ 18 } : State).wr Obj.UPDATE_STATE upApplying; ({ u with upd := { u.upd with plan := [1], wait := .gap } } : State)), by decide +kernel⟩,
   ⟨(let u := ({ dev with time := 10 ^ 18 } : State).wr Obj.UPDATE_STATE upApplying; ({ u with upd := { u.upd with plan := [2], wait := .gap } } : State)), 0, by decide +kernel⟩,
   ⟨(let u := dev.wr Obj.UPDATE_STATE upApplying; ({ u with upd := { u.upd with plan := [0], wait := .sec } } : State)), by decide +kernel⟩,
   ⟨(let u := dev.wr Obj.UPDATE_STATE upApplying; ({ u with upd := { u.upd with plan := [0, 2], wait := .run } } : State)), true, by decide +kernel⟩,
   ⟨(let u := dev.wr Obj.UPDATE_STATE upApplying; ({ u with upd := { u.upd with plan := [0], wait := .run } } : State)), true, by decide +kernel⟩,
   ⟨(let u := dev.wr Obj.UPDATE_STATE upApplying; ({ u with upd := { u.upd with plan := [0], wait := .run } } : State)), false, by decide +kernel⟩,
   ⟨(let u := dev.wr Obj.UPDATE_STATE upApplying; ({ u with upd := { u.upd with plan := [1], wait := .run, mgmtStep := true } } : State)), by decide +kernel⟩,
   ⟨(let u := dev.wr Obj.UPDATE_STATE upApplying; ({ u with upd := { u.upd with plan := [2], wait := .run } } : State)), 0, by decide +kernel⟩,
   ⟨(let u := dev.wr Obj.UPDATE_STATE upApplying; ({ u with upd := { u.upd with plan := [2], wait := .run } } : State)), 0, by decide +kernel⟩,
   ⟨(let u := (dev.stReady 0 1 false).wr Obj.UPDATE_STATE upApplying; ({ u with upd := { u.upd with plan := [2], wait := .run } } : State)), 0, by decide +kernel⟩,
   ⟨(let u := dev.wr Obj.UPDATE_STATE upReverting; ({ u with upd := { u.upd with plan := [1, 0], index := 2, wait := .run } } : State)), by decide +kernel⟩,
   ⟨(let u := dev.wr Obj.UPDATE_STATE upReverting; ({ u with upd := { u.upd with plan := [] } } : State)), by decide +kernel⟩⟩

theorem test_CheckValueUnitsAct_witnesses :
    (∃ (s : State) (who : Requester) (u1 : Fin 24), (s.accepts who Obj.CV_COMMAND 1 0 u1) ∧ (s.cvReady u1 = none) ∧ ((s.cvu u1).armed = false) ∧ (s.cvArmCheck u1 = none)) ∧
    (∃ (s : State) (who : Requester) (u1 : Fin 24), (s.accepts who Obj.CV_COMMAND 1 0 u1) ∧ (s.cvReady u1 = none) ∧ ((s.cvu u1).armed = true)) ∧
    (∃ (s : State) (who : Requester) (u1 : Fin 24), (s.accepts who Obj.CV_COMMAND 2 0 u1) ∧ (s.rdN Obj.CV_SOURCE 0 u1 = cvBda) ∧ ((s.cvu u1).running = true) ∧ ((s.cvu u1).armed = true) ∧ ((s.cvu u1).ended = none)) ∧
    (∃ (s : State) (who : Requester) (u1 : Fin 24), (s.accepts who Obj.CV_COMMAND 3 0 u1) ∧ ((s.cvu u1).armed = true) ∧ ((s.cvu u1).ended = none)) ∧
    (∃ (s : State) (u1 : Fin 24), ((s.cvu u1).ended = some 0) ∧ ((s.cvu u1).running = false)) ∧
    (∃ (s : State) (u1 : Fin 24) (overflow : Bool), (overflow = true) ∧ (s.rdN Obj.CV_SOURCE 0 u1 ≠ cvComposed) ∧ ((s.cvu u1).running = true) ∧ ((s.cvu u1).armed = true) ∧ ((s.cvu u1).ended = none)) :=
  ⟨⟨(dev.wr Obj.CV_PRESET 1 0 0), .host 0, 0, by decide +kernel⟩,
   ⟨((dev.wr Obj.CV_PRESET 1 0 0).setCvu 0 { armed := true }), .host 0, 0, by decide +kernel⟩,
   ⟨((dev.wr Obj.CV_SOURCE 4 0 0).setCvu 0 { armed := true, running := true, bytes := 3 }), .host 0, 0, by decide +kernel⟩,
   ⟨(dev.setCvu 0 { armed := true, running := true, bytes := 3 }), .host 0, 0, by decide +kernel⟩,
   ⟨((dev.wr Obj.CV_PRESET 1 0 0).setCvu 0 { armed := true, ended := some 0, bytes := 4, crc := 99, tag := 7 }), 0, by decide +kernel⟩,
   ⟨(dev.setCvu 0 { armed := true, running := true, bytes := 3 }), 0, true, by decide +kernel⟩⟩

theorem test_QueuesFillAndDrain_witnesses :
    (∃ (s : State) (k : Fin 512), (s.noteQ.getD k.val {}).size < 32) ∧
    (∃ (s : State) (k : Fin 512), 32 ≤ (s.noteQ.getD k.val {}).size) ∧
    (∃ (s : State), s.hwLogQ.size < 4096) ∧
    (∃ (s : State) (station : Option (Fin 8)) (count : Nat) (x : Nat × Rec) (l : List (Nat × Rec)), (s.hwGated 0 = false) ∧ (s.isHwReady 4 = true) ∧ (station = none) ∧ (count = 1) ∧ (s.hwLogQ.drain = x :: l) ∧ ((s.logRings.getD 8 []).length < 1024)) ∧
    (∃ (s : State) (station : Option (Fin 8)) (count : Nat) (n : Fin 8) (x : Nat × Rec) (l : List (Nat × Rec)), (s.hwGated 0 = false) ∧ (s.isHwReady 4 = true) ∧ (station = some n) ∧ (count = 1) ∧ ((s.stationLogQ.getD n.val {}).drain = x :: l) ∧ (1024 ≤ (s.logRings.getD n.val []).length)) :=
  ⟨⟨dev, 5, by decide +kernel⟩,
   ⟨({ dev with noteQ := [(5, { drain := (List.range 32).map (fun i => (i, ⟨7, 5, 1, 15, 5, []⟩)), nextAge := 32 })] } : State), 5, by decide +kernel⟩,
   ⟨dev, by decide +kernel⟩,
   ⟨(dev.toHwLog (⟨7, 5, 1, 15, 5, []⟩ : Rec)), none, 1, (0, (⟨7, 5, 1, 15, 5, []⟩ : Rec)), [], by decide +kernel⟩,
   ⟨({ (dev.toStationLog 0 (⟨7, 5, 1, 15, 5, []⟩ : Rec)) with logRings := [(0, List.replicate 1024 (⟨7, 5, 1, 15, 5, []⟩ : Rec))] } : State), (some 0), 1, 0, (0, (⟨7, 5, 1, 15, 5, []⟩ : Rec)), [], by decide +kernel⟩⟩

end Sys2Proof.Machine
end

/-! What a station's memory reads after a store: the cells written and the ranges whose contents are lost (R10, R348, R361). -/
namespace Sys2Proof.Machine

/-- A range of cells, from its first to below its end, holds the cell. -/
def rangeCovers (c : Nat) (r : Nat × Nat) : Bool := decide (r.1 ≤ c) && decide (c < r.2)

@[simp] theorem rangeCovers_iff {c : Nat} {r : Nat × Nat} : rangeCovers c r = true ↔ r.1 ≤ c ∧ c < r.2 := by simp [rangeCovers]

/-- What a cut leaves of one range holds the cells of the range outside the cut. -/
theorem any_cutRanges_singleton {a e : Nat} (hae : a ≤ e) (c : Nat) (r : Nat × Nat) :
    (cutRanges a e [r]).any (rangeCovers c) = true ↔ (r.1 ≤ c ∧ c < r.2) ∧ (c < a ∨ e ≤ c) := by
  simp only [cutRanges, List.flatMap_singleton, List.any_append, Bool.or_eq_true]
  split <;> split <;> simp <;> omega

theorem cutRanges_cons (a e : Nat) (r : Nat × Nat) (l : List (Nat × Nat)) :
    cutRanges a e (r :: l) = cutRanges a e [r] ++ cutRanges a e l := by
  simp [cutRanges]

/-- A cell lies in one of the ranges left after a cut exactly where it lay in one before and is outside the cut. -/
theorem any_cutRanges {a e : Nat} (hae : a ≤ e) (c : Nat) (l : List (Nat × Nat)) :
    (cutRanges a e l).any (rangeCovers c) = true ↔ l.any (rangeCovers c) = true ∧ (c < a ∨ e ≤ c) := by
  induction l with
  | nil => simp [cutRanges]
  | cons r l ih =>
    rw [cutRanges_cons, List.any_append, Bool.or_eq_true, ih, any_cutRanges_singleton hae, List.any_cons, Bool.or_eq_true,
      rangeCovers_iff, or_and_right]

/-- A store takes the cells it writes, and no other, out of those whose contents are lost (R348). -/
theorem State.isLost_store (s : State) (n addr : Nat) (b : Bytes) (c : Nat) :
    (s.store n addr b).isLost c = true ↔ s.isLost c = true ∧ (c < cellOf n addr ∨ cellOf n addr + b.length ≤ c) :=
  any_cutRanges (Nat.le_add_right _ _) c s.lostCells

theorem State.isLost_store_written (s : State) (n addr : Nat) {b : Bytes} {i : Nat} (hi : i < b.length) :
    (s.store n addr b).isLost (cellOf n addr + i) = false := by
  rw [← Bool.not_eq_true, State.isLost_store]
  omega

theorem State.isLost_store_outside (s : State) (n addr : Nat) (b : Bytes) {c : Nat}
    (h : c < cellOf n addr ∨ cellOf n addr + b.length ≤ c) : (s.store n addr b).isLost c = s.isLost c := by
  rw [Bool.eq_iff_iff, State.isLost_store, and_iff_left h]

/-- A byte that was stored is read back, whether or not its contents were lost before. -/
theorem State.byte_store_written {s : State} (hs : Inv s) (n addr : Nat) {b : Bytes} {i : Nat} (hi : i < b.length) :
    (s.store n addr b).byte n (addr + i) = b[i] := by
  have hcell : cellOf n (addr + i) = cellOf n addr + i := (Nat.add_assoc _ _ _).symm
  simp only [State.byte, hcell, s.isLost_store_written n addr hi]
  exact memGet_memSetBytes b (cellOf n addr) i hi hs

/-- What was stored at an address is what a read of its place gives. -/
theorem State.load_store {s : State} (hs : Inv s) (n addr : Nat) (b : Bytes) : (s.store n addr b).load n addr b.length = b :=
  List.ext_getElem (by simp [State.load]) fun i _ hi => by
    simpa [State.load] using State.byte_store_written hs n addr hi

/-- A store leaves every cell outside its place as it was. -/
theorem State.store_sameMemoryBut {s : State} (hs : Inv s) (n addr : Nat) (b : Bytes) :
    SameMemoryBut s (s.store n addr b) n addr b.length := fun c hc =>
  ⟨memGet_memSetBytes_of_not_mem b (cellOf n addr) c hs hc, s.isLost_store_outside n addr b hc⟩

/-- Settles O47: a read back, the frame, and the cut of the lost ranges. -/
theorem memoryReadsWhatWasStored : Obligations.MemoryReadsWhatWasStored := by
  unfold Obligations.MemoryReadsWhatWasStored
  intro s n addr b hs
  exact ⟨State.load_store hs n addr b, State.store_sameMemoryBut hs n addr b, fun _ hi => s.isLost_store_written n addr hi⟩

end Sys2Proof.Machine

/-! The dictionary's station areas: area 8 + n names the same rows for every station n (R5). -/
namespace Sys2Proof.Machine

/-- What a row that a lookup finds has to do with the area, index and subindex asked for. -/
theorem lookupIn_some {l : List ObjRow} {area idx sub : Nat} {x : ObjRow × Nat × Nat × Nat}
    (h : lookupIn l area idx sub = some x) :
    x.1 ∈ l ∧ (x.1.station = false → x.1.area = area) ∧ x.2.1 = area - 8 ∧ x.1.idx + x.2.2.1 = idx ∧ x.1.sub + x.2.2.2 = sub := by
  induction l with
  | nil => simp [lookupIn] at h
  | cons r l ih =>
    rw [lookupIn] at h
    obtain ⟨hr, hx⟩ | ⟨-, hx⟩ := ite_eq_iff.mp h
    · simp only [Bool.and_eq_true, decide_eq_true_eq] at hr
      obtain ⟨⟨⟨⟨harea, hidx⟩, -⟩, hsub⟩, -⟩ := hr
      obtain rfl := Option.some.inj hx
      refine ⟨List.mem_cons_self, fun (hst : r.station = false) => ?_, rfl, Nat.add_sub_cancel' hidx, Nat.add_sub_cancel' hsub⟩
      simp only [hst, Bool.false_eq_true, if_false, beq_iff_eq] at harea
      exact harea.symm
    · obtain ⟨hmem, hrest⟩ := ih hx
      exact ⟨List.mem_cons_of_mem r hmem, hrest⟩

/-- In a list whose device rows stand below the station areas, two station areas name the same rows. -/
theorem lookupIn_station_fst {l : List ObjRow} (hl : ∀ r ∈ l, r.station = false → r.area < 8) (m n : Fin 8) (idx sub : Nat) :
    (lookupIn l (8 + m) idx sub).map Prod.fst = (lookupIn l (8 + n) idx sub).map Prod.fst := by
  induction l with
  | nil => rfl
  | cons r l ih =>
    have harea : (if r.station then decide (8 ≤ 8 + m.val) && decide (8 + m.val < 16) else 8 + m.val == r.area) =
        (if r.station then decide (8 ≤ 8 + n.val) && decide (8 + n.val < 16) else 8 + n.val == r.area) := by
      cases hst : r.station with
      | true => simp; omega
      | false =>
        have hlow := hl r List.mem_cons_self hst
        simp; omega
    have hrest := ih fun q hq => hl q (List.mem_cons_of_mem r hq)
    rw [lookupIn, lookupIn, harea, apply_ite (Option.map Prod.fst), apply_ite (Option.map Prod.fst), hrest]
    rfl

/-- Of the tabulated objects, those that are not of a station stand in areas 0 to 7 (R4, R5). -/
theorem area_lt_of_mem_objTable : ∀ r ∈ objTable, r.station = false → r.area < 8 := by decide +kernel

/-- A row found in a station area is a station object's. -/
theorem station_of_lookupRow {n : Fin 8} {idx sub : Nat} {x : ObjRow × Nat × Nat × Nat} (h : lookupRow (8 + n) idx sub = some x) :
    x.1.station = true := by
  obtain ⟨hmem, harea, -⟩ := lookupIn_some h
  cases hst : x.1.station with
  | true => rfl
  | false =>
    have hlow := area_lt_of_mem_objTable x.1 hmem hst
    have hhigh := harea hst
    omega

/-- Settles O55: the device rows stand below area 8, so a lookup in a station area finds station rows only. -/
theorem stationObjectsRepeatInEveryStation : Obligations.StationObjectsRepeatInEveryStation := by
  unfold Obligations.StationObjectsRepeatInEveryStation
  refine ⟨fun r n i tq j hst => by simp [ObjRow.key, hst], fun n => lookupIn_station_fst area_lt_of_mem_objTable n 0, ?_⟩
  intro n idx sub x h
  obtain ⟨-, -, hinst, hidx, hsub⟩ := lookupIn_some h
  exact ⟨station_of_lookupRow h, by omega, hidx, hsub⟩

end Sys2Proof.Machine

/-! What each command changes: its parts of the state, and no other (R15, R22, R551). -/
namespace Sys2Proof.Machine

/-- A command changes only the parts listed for it: the frame of its own meaning, command by command. -/
theorem exec_frame {s t : State} : ∀ {c : Instr}, exec c s = .next t → Frame (partsOf c) s t
  | .vaonLost, h => execVaonLost_frame s (.refl _) h (.refl _ s)
  | .porstNLevel high, h => execPorstNLevel_frame high s (.refl _) h (.refl _ s)
  | .resetNLevel high, h => execResetNLevel_frame high s (.refl _) h (.refl _ s)
  | .brownOut vbulk vio18 vio33, h => execBrownOut_frame vbulk vio18 vio33 s (.refl _) h (.refl _ s)
  | .thermalTrip sensors, h => execThermalTrip_frame sensors s (.refl _) h (.refl _ s)
  | .referenceLost lost, h => execReferenceLost_frame lost s (.refl _) h (.refl _ s)
  | .mgmtWatchdogExpiry, h => execMgmtWatchdogExpiry_frame s (.refl _) h (.refl _ s)
  | .stationWatchdogExpiry n, h => execStationWatchdogExpiry_frame n s (.refl _) h (.refl _ s)
  | .secureWatchdogExpiry, h => execSecureWatchdogExpiry_frame s (.refl _) h (.refl _ s)
  | .releaseBegin strap, h => execReleaseBegin_frame strap s (.refl _) h (.refl _ s)
  | .releaseGapElapsed, h => execReleaseGapElapsed_frame s (.refl _) h (.refl _ s)
  | .releaseStepEnd, h => execReleaseStepEnd_frame s (.refl _) h (.refl _ s)
  | .trimLoadDone image, h => execTrimLoadDone_frame image s (.refl _) h (.refl _ s)
  | .bootRomMgmtAcceptance image trial, h => execBootRomMgmtAcceptance_frame image trial s (.refl _) h (.refl _ s)
  | .heldResetApply, h => execHeldResetApply_frame s (.refl _) h (.refl _ s)
  | .eraseSuspendDone, h => execEraseSuspendDone_frame s (.refl _) h (.refl _ s)
  | .eraseResume, h => execEraseResume_frame s (.refl _) h (.refl _ s)
  | .hwPllLockLost k, h => execHwPllLockLost_frame k s (.refl _) h (.refl _ s)
  | .hwPllRelocked k ok, h => execHwPllRelocked_frame k ok s (.refl _) h (.refl _ s)
  | .deviceRequestNone who, h => execDeviceRequestNone_frame who s (.refl _) h (.refl _ s)
  | .deviceRequestRecovery who, h => execDeviceRequestRecovery_frame who s (.refl _) h (.refl _ s)
  | .deviceRequestLeaveRecovery who, h => execDeviceRequestLeaveRecovery_frame who s (.refl _) h (.refl _ s)
  | .resetRequestCold who, h => execResetRequestCold_frame who s (.refl _) h (.refl _ s)
  | .resetRequestWarm who, h => execResetRequestWarm_frame who s (.refl _) h (.refl _ s)
  | .resetRequestMgmt who, h => execResetRequestMgmt_frame who s (.refl _) h (.refl _ s)
  | .resetRequestSec who, h => execResetRequestSec_frame who s (.refl _) h (.refl _ s)
  | .resetRequestPort who p, h => execResetRequestPort_frame who p s (.refl _) h (.refl _ s)
  | .resetRequestStation who n, h => execResetRequestStation_frame who n s (.refl _) h (.refl _ s)
  | .resetRequestApply, h => execResetRequestApply_frame s (.refl _) h (.refl _ s)
  | .stationReset who n v, h => execStationReset_frame who n v s (.refl _) h (.refl _ s)
  | .functionGateTouch who n on, h => execFunctionGateTouch_frame who n on s (.refl _) h (.refl _ s)
  | .functionGateHaptic who n on, h => execFunctionGateHaptic_frame who n on s (.refl _) h (.refl _ s)
  | .functionGateAudio who n on, h => execFunctionGateAudio_frame who n on s (.refl _) h (.refl _ s)
  | .fuseMapProgram who data, h => execFuseMapProgram_frame who data s (.refl _) h (.refl _ s)
  | .settingsLoadStation, h => execSettingsLoadStation_frame s (.refl _) h (.refl _ s)
  | .stnImageLoad digest, h => execStnImageLoad_frame digest s (.refl _) h (.refl _ s)
  | .stationTargetOff who n, h => execStationTargetOff_frame who n s (.refl _) h (.refl _ s)
  | .stationTargetRunning who n, h => execStationTargetRunning_frame who n s (.refl _) h (.refl _ s)
  | .stationTargetSleep who n, h => execStationTargetSleep_frame who n s (.refl _) h (.refl _ s)
  | .stationStartupDone n imageOk, h => execStationStartupDone_frame n imageOk s (.refl _) h (.refl _ s)
  | .sleepEntryDone n, h => execSleepEntryDone_frame n s (.refl _) h (.refl _ s)
  | .wakeDone n, h => execWakeDone_frame n s (.refl _) h (.refl _ s)
  | .edgeLinkLost n, h => execEdgeLinkLost_frame n s (.refl _) h (.refl _ s)
  | .pllLockLost n k, h => execPllLockLost_frame n k s (.refl _) h (.refl _ s)
  | .ringTailWrite p t n q v, h => execRingTailWrite_frame p t n q v s (.refl _) h (.refl _ s)
  | .compHeadWrite p t n q v, h => execCompHeadWrite_frame p t n q v s (.refl _) h (.refl _ s)
  | .descriptorFetched t n q data, h => execDescriptorFetched_frame t n q data s (.refl _) h (.refl _ s)
  | .ringReadFailed t n q cause, h => execRingReadFailed_frame t n q cause s (.refl _) h (.refl _ s)
  | .ringEnable who t n q v, h => execRingEnable_frame who t n q v s (.refl _) h (.refl _ s)
  | .jobTake n, h => execJobTake_frame n s (.refl _) h (.refl _ s)
  | .jobNop n key, h => execJobNop_frame n key s (.refl _) h (.refl _ s)
  | .jobRender n key, h => execJobRender_frame n key s (.refl _) h (.refl _ s)
  | .jobCompute n key d, h => execJobCompute_frame n key d s (.refl _) h (.refl _ s)
  | .jobPipelineLoad n key r, h => execJobPipelineLoad_frame n key r s (.refl _) h (.refl _ s)
  | .jobPipelineDrop n key handle, h => execJobPipelineDrop_frame n key handle s (.refl _) h (.refl _ s)
  | .fenceWaitSatisfied n key, h => execFenceWaitSatisfied_frame n key s (.refl _) h (.refl _ s)
  | .drawListEnd n key, h => execDrawListEnd_frame n key s (.refl _) h (.refl _ s)
  | .bindPipeline n key, h => execBindPipeline_frame n key s (.refl _) h (.refl _ s)
  | .bindSet n key, h => execBindSet_frame n key s (.refl _) h (.refl _ s)
  | .pushData n key, h => execPushData_frame n key s (.refl _) h (.refl _ s)
  | .bindVertex n key, h => execBindVertex_frame n key s (.refl _) h (.refl _ s)
  | .bindIndex n key, h => execBindIndex_frame n key s (.refl _) h (.refl _ s)
  | .draw n key, h => execDraw_frame n key s (.refl _) h (.refl _ s)
  | .drawIndexed n key, h => execDrawIndexed_frame n key s (.refl _) h (.refl _ s)
  | .drawIndirect n key, h => execDrawIndirect_frame n key s (.refl _) h (.refl _ s)
  | .setViewport n key, h => execSetViewport_frame n key s (.refl _) h (.refl _ s)
  | .setScissor n key, h => execSetScissor_frame n key s (.refl _) h (.refl _ s)
  | .unitComplete n core k r, h => execUnitComplete_frame n core k r s (.refl _) h (.refl _ s)
  | .deadlinePoint n key, h => execDeadlinePoint_frame n key s (.refl _) h (.refl _ s)
  | .contextSaveDone n core context, h => execContextSaveDone_frame n core context s (.refl _) h (.refl _ s)
  | .tileYieldLimit n core, h => execTileYieldLimit_frame n core s (.refl _) h (.refl _ s)
  | .contextRestoreDone n core, h => execContextRestoreDone_frame n core s (.refl _) h (.refl _ s)
  | .jobAccessFault n key addr len write, h => execJobAccessFault_frame n key addr len write s (.refl _) h (.refl _ s)
  | .jobTimeLimit n key, h => execJobTimeLimit_frame n key s (.refl _) h (.refl _ s)
  | .jobComplete n key, h => execJobComplete_frame n key s (.refl _) h (.refl _ s)
  | .translationStart, h => execTranslationStart_frame s (.refl _) h (.refl _ s)
  | .translationComplete r, h => execTranslationComplete_frame r s (.refl _) h (.refl _ s)
  | .pipelineDropFree n t handle, h => execPipelineDropFree_frame n t handle s (.refl _) h (.refl _ s)
  | .retranslationSwap n t handle, h => execRetranslationSwap_frame n t handle s (.refl _) h (.refl _ s)
  | .layerCommit via n mask, h => execLayerCommit_frame via n mask s (.refl _) h (.refl _ s)
  | .guardCommit via n mask, h => execGuardCommit_frame via n mask s (.refl _) h (.refl _ s)
  | .frameBoundary n, h => execFrameBoundary_frame n s (.refl _) h (.refl _ s)
  | .boundaryLatch n, h => execBoundaryLatch_frame n s (.refl _) h (.refl _ s)
  | .fixPoint n, h => execFixPoint_frame n s (.refl _) h (.refl _ s)
  | .composeLine n parity, h => execComposeLine_frame n parity s (.refl _) h (.refl _ s)
  | .layerFetchComplete n l addr len forArmed, h => execLayerFetchComplete_frame n l addr len forArmed s (.refl _) h (.refl _ s)
  | .lineStart n room, h => execLineStart_frame n room s (.refl _) h (.refl _ s)
  | .freezeNominalTick n, h => execFreezeNominalTick_frame n s (.refl _) h (.refl _ s)
  | .refLoadStart who n v, h => execRefLoadStart_frame who n v s (.refl _) h (.refl _ s)
  | .refLoadDone n, h => execRefLoadDone_frame n s (.refl _) h (.refl _ s)
  | .safeStore who n offset last data, h => execSafeStore_frame who n offset last data s (.refl _) h (.refl _ s)
  | .safeStoreCheckDone n, h => execSafeStoreCheckDone_frame n s (.refl _) h (.refl _ s)
  | .modeCommit who n v, h => execModeCommit_frame who n v s (.refl _) h (.refl _ s)
  | .pixelPllLock n, h => execPixelPllLock_frame n s (.refl _) h (.refl _ s)
  | .hpdPlug n, h => execHpdPlug_frame n s (.refl _) h (.refl _ s)
  | .sinkReadDone n info, h => execSinkReadDone_frame n info s (.refl _) h (.refl _ s)
  | .auxRetryTimer n, h => execAuxRetryTimer_frame n s (.refl _) h (.refl _ s)
  | .linkTrainingDone n trains, h => execLinkTrainingDone_frame n trains s (.refl _) h (.refl _ s)
  | .linkRetryTimer n, h => execLinkRetryTimer_frame n s (.refl _) h (.refl _ s)
  | .hpdIrq n lanesLost, h => execHpdIrq_frame n lanesLost s (.refl _) h (.refl _ s)
  | .hpdUnplug n, h => execHpdUnplug_frame n s (.refl _) h (.refl _ s)
  | .psrWakeElapsed n, h => execPsrWakeElapsed_frame n s (.refl _) h (.refl _ s)
  | .panelOnDelay n, h => execPanelOnDelay_frame n s (.refl _) h (.refl _ s)
  | .blOnDelay n, h => execBlOnDelay_frame n s (.refl _) h (.refl _ s)
  | .scanPairStart n, h => execScanPairStart_frame n s (.refl _) h (.refl _ s)
  | .scanPairEnd n nodes self noiseUse noiseOther, h => execScanPairEnd_frame n nodes self noiseUse noiseOther s (.refl _) h (.refl _ s)
  | .contactHoldLimit n id, h => execContactHoldLimit_frame n id s (.refl _) h (.refl _ s)
  | .occlusionHoldExpired n, h => execOcclusionHoldExpired_frame n s (.refl _) h (.refl _ s)
  | .touchCommit who n v, h => execTouchCommit_frame who n v s (.refl _) h (.refl _ s)
  | .pumpOutOfRegulation n, h => execPumpOutOfRegulation_frame n s (.refl _) h (.refl _ s)
  | .touchHaltRetry n, h => execTouchHaltRetry_frame n s (.refl _) h (.refl _ s)
  | .pairAbandon n steps, h => execPairAbandon_frame n steps s (.refl _) h (.refl _ s)
  | .referenceCapture who n v, h => execReferenceCapture_frame who n v s (.refl _) h (.refl _ s)
  | .referenceCaptureDone n pairs, h => execReferenceCaptureDone_frame n pairs s (.refl _) h (.refl _ s)
  | .wakeScan n coarse self, h => execWakeScan_frame n coarse self s (.refl _) h (.refl _ s)
  | .sleepCalibrationPair n nodes self noiseUse noiseOther, h => execSleepCalibrationPair_frame n nodes self noiseUse noiseOther s (.refl _) h (.refl _ s)
  | .wakePendingClear who n v, h => execWakePendingClear_frame who n v s (.refl _) h (.refl _ s)
  | .tchMicrocodeSwap n digest ok, h => execTchMicrocodeSwap_frame n digest ok s (.refl _) h (.refl _ s)
  | .hapticTrigger via n tq v, h => execHapticTrigger_frame via n tq v s (.refl _) h (.refl _ s)
  | .hapticTick n, h => execHapticTick_frame n s (.refl _) h (.refl _ s)
  | .senseSample n shunt vca vcb vsense, h => execSenseSample_frame n shunt vca vcb vsense s (.refl _) h (.refl _ s)
  | .overcurrent n shunt, h => execOvercurrent_frame n shunt s (.refl _) h (.refl _ s)
  | .bridgeRangeFault n, h => execBridgeRangeFault_frame n s (.refl _) h (.refl _ s)
  | .openLoad n, h => execOpenLoad_frame n s (.refl _) h (.refl _ s)
  | .bridgeRecovered n, h => execBridgeRecovered_frame n s (.refl _) h (.refl _ s)
  | .brakeEnd n, h => execBrakeEnd_frame n s (.refl _) h (.refl _ s)
  | .driveTimeLimit n, h => execDriveTimeLimit_frame n s (.refl _) h (.refl _ s)
  | .bootstrapChargeDone n, h => execBootstrapChargeDone_frame n s (.refl _) h (.refl _ s)
  | .effectData who n e data, h => execEffectData_frame who n e data s (.refl _) h (.refl _ s)
  | .faultClear who n v, h => execFaultClear_frame who n v s (.refl _) h (.refl _ s)
  | .hapticCommit who n v, h => execHapticCommit_frame who n v s (.refl _) h (.refl _ s)
  | .hapticStreamFetch n len, h => execHapticStreamFetch_frame n len s (.refl _) h (.refl _ s)
  | .audioFrame n mic0 mic1, h => execAudioFrame_frame n mic0 mic1 s (.refl _) h (.refl _ s)
  | .gainForcedRegime n stage, h => execGainForcedRegime_frame n stage s (.refl _) h (.refl _ s)
  | .audioCommit who n v, h => execAudioCommit_frame who n v s (.refl _) h (.refl _ s)
  | .streamStart who n k v, h => execStreamStart_frame who n k v s (.refl _) h (.refl _ s)
  | .streamStop who n k v, h => execStreamStop_frame who n k v s (.refl _) h (.refl _ s)
  | .audioStreamFetch n k, h => execAudioStreamFetch_frame n k s (.refl _) h (.refl _ s)
  | .tgStart who n g v, h => execTgStart_frame who n g v s (.refl _) h (.refl _ s)
  | .tgStop who n g v, h => execTgStop_frame who n g v s (.refl _) h (.refl _ s)
  | .toneOnElapsed n g, h => execToneOnElapsed_frame n g s (.refl _) h (.refl _ s)
  | .toneOffElapsed n g, h => execToneOffElapsed_frame n g s (.refl _) h (.refl _ s)
  | .busActivityExpired n b, h => execBusActivityExpired_frame n b s (.refl _) h (.refl _ s)
  | .loopBlockWrite n, h => execLoopBlockWrite_frame n s (.refl _) h (.refl _ s)
  | .audioStartDone n, h => execAudioStartDone_frame n s (.refl _) h (.refl _ s)
  | .audioStopDone n, h => execAudioStopDone_frame n s (.refl _) h (.refl _ s)
  | .audioClockRestart n, h => execAudioClockRestart_frame n s (.refl _) h (.refl _ s)
  | .refreshDue n, h => execRefreshDue_frame n s (.refl _) h (.refl _ s)
  | .memTempRead n temp, h => execMemTempRead_frame n temp s (.refl _) h (.refl _ s)
  | .retrainDue n, h => execRetrainDue_frame n s (.refl _) h (.refl _ s)
  | .retrainStart n, h => execRetrainStart_frame n s (.refl _) h (.refl _ s)
  | .retrainAttemptDone n ok, h => execRetrainAttemptDone_frame n ok s (.refl _) h (.refl _ s)
  | .memTrainingAttemptDone n ok capacity rate temp, h => execMemTrainingAttemptDone_frame n ok capacity rate temp s (.refl _) h (.refl _ s)
  | .memFillDone n, h => execMemFillDone_frame n s (.refl _) h (.refl _ s)
  | .memRead n addr r err, h => execMemRead_frame n addr r err s (.refl _) h (.refl _ s)
  | .requestPromotion n cls since, h => execRequestPromotion_frame n cls since s (.refl _) h (.refl _ s)
  | .memReinit who n v, h => execMemReinit_frame who n v s (.refl _) h (.refl _ s)
  | .pcieLinkTrained p speed width, h => execPcieLinkTrained_frame p speed width s (.refl _) h (.refl _ s)
  | .portRetrainTimer p, h => execPortRetrainTimer_frame p s (.refl _) h (.refl _ s)
  | .perstNLevel p high, h => execPerstNLevel_frame p high s (.refl _) h (.refl _ s)
  | .hostPortReady p, h => execHostPortReady_frame p s (.refl _) h (.refl _ s)
  | .hotReset p, h => execHotReset_frame p s (.refl _) h (.refl _ s)
  | .functionFlr p, h => execFunctionFlr_frame p s (.refl _) h (.refl _ s)
  | .sliceFlr p t v, h => execSliceFlr_frame p t v s (.refl _) h (.refl _ s)
  | .sliceReset who t v, h => execSliceReset_frame who t v s (.refl _) h (.refl _ s)
  | .sliceEnable who t v, h => execSliceEnable_frame who t v s (.refl _) h (.refl _ s)
  | .sliceResetDone t, h => execSliceResetDone_frame t s (.refl _) h (.refl _ s)
  | .rightsWrite who t n which v, h => execRightsWrite_frame who t n which v s (.refl _) h (.refl _ s)
  | .windowWrite who t n w v, h => execWindowWrite_frame who t n w v s (.refl _) h (.refl _ s)
  | .touchLandHead p t v, h => execTouchLandHead_frame p t v s (.refl _) h (.refl _ s)
  | .notifyLandHead p t v, h => execNotifyLandHead_frame p t v s (.refl _) h (.refl _ s)
  | .landingDelivery t isTouch, h => execLandingDelivery_frame t isTouch s (.refl _) h (.refl _ s)
  | .mbSend path typ tq body env, h => execMbSend_frame path typ tq body env s (.refl _) h (.refl _ s)
  | .mbAck path, h => execMbAck_frame path s (.refl _) h (.refl _ s)
  | .mbResponseReady path, h => execMbResponseReady_frame path s (.refl _) h (.refl _ s)
  | .quarantineRelease who t v, h => execQuarantineRelease_frame who t v s (.refl _) h (.refl _ s)
  | .xferHostToStation t n q data, h => execXferHostToStation_frame t n q data s (.refl _) h (.refl _ s)
  | .xferStationToHost t n q, h => execXferStationToHost_frame t n q s (.refl _) h (.refl _ s)
  | .xferFill t n q, h => execXferFill_frame t n q s (.refl _) h (.refl _ s)
  | .transferComplete t n q, h => execTransferComplete_frame t n q s (.refl _) h (.refl _ s)
  | .enclaveCreate who e, h => execEnclaveCreate_frame who e s (.refl _) h (.refl _ s)
  | .enclaveLoadDone e key, h => execEnclaveLoadDone_frame e key s (.refl _) h (.refl _ s)
  | .enclaveStart who e, h => execEnclaveStart_frame who e s (.refl _) h (.refl _ s)
  | .enclaveStop who e, h => execEnclaveStop_frame who e s (.refl _) h (.refl _ s)
  | .enclaveCommandDestroy who e, h => execEnclaveCommandDestroy_frame who e s (.refl _) h (.refl _ s)
  | .enclaveDestroy who e v, h => execEnclaveDestroy_frame who e v s (.refl _) h (.refl _ s)
  | .enclaveDestroyDone e, h => execEnclaveDestroyDone_frame e s (.refl _) h (.refl _ s)
  | .enclaveSliceExpired core next, h => execEnclaveSliceExpired_frame core next s (.refl _) h (.refl _ s)
  | .inbox who e data, h => execInbox_frame who e data s (.refl _) h (.refl _ s)
  | .acquire e n kind k, h => execAcquire_frame e n kind k s (.refl _) h (.refl _ s)
  | .release e n kind k, h => execRelease_frame e n kind k s (.refl _) h (.refl _ s)
  | .enclaveWrite e area idx sub data, h => execEnclaveWrite_frame e area idx sub data s (.refl _) h (.refl _ s)
  | .enclaveRead e area idx sub, h => execEnclaveRead_frame e area idx sub s (.refl _) h (.refl _ s)
  | .enclaveCommit e n layerMask guardMask, h => execEnclaveCommit_frame e n layerMask guardMask s (.refl _) h (.refl _ s)
  | .queueRead e touch, h => execQueueRead_frame e touch s (.refl _) h (.refl _ s)
  | .send e data, h => execSend_frame e data s (.refl _) h (.refl _ s)
  | .seal e data, h => execSeal_frame e data s (.refl _) h (.refl _ s)
  | .unseal e data, h => execUnseal_frame e data s (.refl _) h (.refl _ s)
  | .rebind e w, h => execRebind_frame e w s (.refl _) h (.refl _ s)
  | .lockDrainDone n kind k, h => execLockDrainDone_frame n kind k s (.refl _) h (.refl _ s)
  | .lockReady n kind k, h => execLockReady_frame n kind k s (.refl _) h (.refl _ s)
  | .secRestartBootDone image, h => execSecRestartBootDone_frame image s (.refl _) h (.refl _ s)
  | .secScrubDone, h => execSecScrubDone_frame s (.refl _) h (.refl _ s)
  | .attestChallenge who nonce, h => execAttestChallenge_frame who nonce s (.refl _) h (.refl _ s)
  | .attestReportDone, h => execAttestReportDone_frame s (.refl _) h (.refl _ s)
  | .debugChallenge who, h => execDebugChallenge_frame who s (.refl _) h (.refl _ s)
  | .debugResponse who data, h => execDebugResponse_frame who data s (.refl _) h (.refl _ s)
  | .debugLockoutEnd, h => execDebugLockoutEnd_frame s (.refl _) h (.refl _ s)
  | .energySample x, h => execEnergySample_frame x s (.refl _) h (.refl _ s)
  | .budgetPeriod sensors, h => execBudgetPeriod_frame sensors s (.refl _) h (.refl _ s)
  | .energySplit, h => execEnergySplit_frame s (.refl _) h (.refl _ s)
  | .stationTick n, h => execStationTick_frame n s (.refl _) h (.refl _ s)
  | .shaderPointSettled n, h => execShaderPointSettled_frame n s (.refl _) h (.refl _ s)
  | .weirCompare input, h => execWeirCompare_frame input s (.refl _) h (.refl _ s)
  | .weirClampRank x, h => execWeirClampRank_frame x s (.refl _) h (.refl _ s)
  | .weirReleaseCheck x, h => execWeirReleaseCheck_frame x s (.refl _) h (.refl _ s)
  | .weirSaturated, h => execWeirSaturated_frame s (.refl _) h (.refl _ s)
  | .deviceBudgetMw who v, h => execDeviceBudgetMw_frame who v s (.refl _) h (.refl _ s)
  | .bdaRead src frame, h => execBdaRead_frame src frame s (.refl _) h (.refl _ s)
  | .bdaWrite src frame env, h => execBdaWrite_frame src frame env s (.refl _) h (.refl _ s)
  | .bdaCommit src frame, h => execBdaCommit_frame src frame s (.refl _) h (.refl _ s)
  | .bdaNotify src frame, h => execBdaNotify_frame src frame s (.refl _) h (.refl _ s)
  | .bdaBlock src frame, h => execBdaBlock_frame src frame s (.refl _) h (.refl _ s)
  | .dictionaryWrite who area idx sub tq data env, h => execDictionaryWrite_frame who area idx sub tq data env s (.refl _) h (.refl _ s)
  | .stationCommit who n v, h => execStationCommit_frame who n v s (.refl _) h (.refl _ s)
  | .resultAck who area idx tq gen, h => execResultAck_frame who area idx tq gen s (.refl _) h (.refl _ s)
  | .resultBlobRead who area idx offset len, h => execResultBlobRead_frame who area idx offset len s (.refl _) h (.refl _ s)
  | .snapshotExpired, h => execSnapshotExpired_frame s (.refl _) h (.refl _ s)
  | .logRingRead who station offset len, h => execLogRingRead_frame who station offset len s (.refl _) h (.refl _ s)
  | .clearingRead who n stall, h => execClearingRead_frame who n stall s (.refl _) h (.refl _ s)
  | .blobWriteAbandoned, h => execBlobWriteAbandoned_frame s (.refl _) h (.refl _ s)
  | .subscriptionNotify k, h => execSubscriptionNotify_frame k s (.refl _) h (.refl _ s)
  | .settingsSaveTimer, h => execSettingsSaveTimer_frame s (.refl _) h (.refl _ s)
  | .settingsSave who v, h => execSettingsSave_frame who v s (.refl _) h (.refl _ s)
  | .settingsSaveDone ok, h => execSettingsSaveDone_frame ok s (.refl _) h (.refl _ s)
  | .settingsDefaults who v, h => execSettingsDefaults_frame who v s (.refl _) h (.refl _ s)
  | .switchFrame port frame bad leased, h => execSwitchFrame_frame port frame bad leased s (.refl _) h (.refl _ s)
  | .macEntryAged mac, h => execMacEntryAged_frame mac s (.refl _) h (.refl _ s)
  | .qbvGateEvent port gates, h => execQbvGateEvent_frame port gates s (.refl _) h (.refl _ s)
  | .ptpMessage m, h => execPtpMessage_frame m s (.refl _) h (.refl _ s)
  | .ptpSyncTimeout, h => execPtpSyncTimeout_frame s (.refl _) h (.refl _ s)
  | .arpRequest port sender target leased, h => execArpRequest_frame port sender target leased s (.refl _) h (.refl _ s)
  | .icmpEcho port sender target leased data, h => execIcmpEcho_frame port sender target leased data s (.refl _) h (.refl _ s)
  | .grantChallenge who, h => execGrantChallenge_frame who s (.refl _) h (.refl _ s)
  | .grantRequest who data pub, h => execGrantRequest_frame who data pub s (.refl _) h (.refl _ s)
  | .grantEnd who v, h => execGrantEnd_frame who v s (.refl _) h (.refl _ s)
  | .sessionIdle k, h => execSessionIdle_frame k s (.refl _) h (.refl _ s)
  | .peerRecordIdle k, h => execPeerRecordIdle_frame k s (.refl _) h (.refl _ s)
  | .relayFrame origin frame, h => execRelayFrame_frame origin frame s (.refl _) h (.refl _ s)
  | .devicePath who v serial, h => execDevicePath_frame who v serial s (.refl _) h (.refl _ s)
  | .memberSerial who a v, h => execMemberSerial_frame who a v s (.refl _) h (.refl _ s)
  | .announce, h => execAnnounce_frame s (.refl _) h (.refl _ s)
  | .heartbeatTimer, h => execHeartbeatTimer_frame s (.refl _) h (.refl _ s)
  | .heartbeat serial, h => execHeartbeat_frame serial s (.refl _) h (.refl _ s)
  | .heartbeatAnswer a serial link, h => execHeartbeatAnswer_frame a serial link s (.refl _) h (.refl _ s)
  | .memberLost a, h => execMemberLost_frame a s (.refl _) h (.refl _ s)
  | .managerLost, h => execManagerLost_frame s (.refl _) h (.refl _ s)
  | .alarmMergeEnd path code station st, h => execAlarmMergeEnd_frame path code station st s (.refl _) h (.refl _ s)
  | .alarmAck who seq, h => execAlarmAck_frame who seq s (.refl _) h (.refl _ s)
  | .alarmPendingDrain, h => execAlarmPendingDrain_frame s (.refl _) h (.refl _ s)
  | .manifest who data, h => execManifest_frame who data s (.refl _) h (.refl _ s)
  | .pieceStream data, h => execPieceStream_frame data s (.refl _) h (.refl _ s)
  | .pieceIn who data, h => execPieceIn_frame who data s (.refl _) h (.refl _ s)
  | .pieceProgrammed, h => execPieceProgrammed_frame s (.refl _) h (.refl _ s)
  | .imageVerifyDone, h => execImageVerifyDone_frame s (.refl _) h (.refl _ s)
  | .updateApply who, h => execUpdateApply_frame who s (.refl _) h (.refl _ s)
  | .applyAtReached, h => execApplyAtReached_frame s (.refl _) h (.refl _ s)
  | .updateCommit who fails, h => execUpdateCommit_frame who fails s (.refl _) h (.refl _ s)
  | .updateRevert who, h => execUpdateRevert_frame who s (.refl _) h (.refl _ s)
  | .updateCancel who, h => execUpdateCancel_frame who s (.refl _) h (.refl _ s)
  | .forceSec who, h => execForceSec_frame who s (.refl _) h (.refl _ s)
  | .secWaitEnd, h => execSecWaitEnd_frame s (.refl _) h (.refl _ s)
  | .secStepDone trial, h => execSecStepDone_frame trial s (.refl _) h (.refl _ s)
  | .mgmtStepDone schema converted translator, h => execMgmtStepDone_frame schema converted translator s (.refl _) h (.refl _ s)
  | .stnSwapStart, h => execStnSwapStart_frame s (.refl _) h (.refl _ s)
  | .stnSwapDone, h => execStnSwapDone_frame s (.refl _) h (.refl _ s)
  | .stnSwapTimeout, h => execStnSwapTimeout_frame s (.refl _) h (.refl _ s)
  | .updateGapElapsed, h => execUpdateGapElapsed_frame s (.refl _) h (.refl _ s)
  | .trialExpired fails, h => execTrialExpired_frame fails s (.refl _) h (.refl _ s)
  | .revertStepDone, h => execRevertStepDone_frame s (.refl _) h (.refl _ s)
  | .cacheTargets who v, h => execCacheTargets_frame who v s (.refl _) h (.refl _ s)
  | .cachePush a bitmap, h => execCachePush_frame a bitmap s (.refl _) h (.refl _ s)
  | .cvArm who u, h => execCvArm_frame who u s (.refl _) h (.refl _ s)
  | .cvEnd who u, h => execCvEnd_frame who u s (.refl _) h (.refl _ s)
  | .cvAbort who u, h => execCvAbort_frame who u s (.refl _) h (.refl _ s)
  | .cvRunComplete u overflow, h => execCvRunComplete_frame u overflow s (.refl _) h (.refl _ s)
  | .queueItemArrival item, h => execQueueItemArrival_frame item s (.refl _) h (.refl _ s)
  | .logDrain station count, h => execLogDrain_frame station count s (.refl _) h (.refl _ s)
  | .mgmtReady lost skipped fails, h => execMgmtReady_frame lost skipped fails s (.refl _) h (.refl _ s)
  | .vaonGood, h => execVaonGood_frame s (.refl _) h (.refl _ s)
  | .jtagInstruction ins, h => execJtagInstruction_frame ins s (.refl _) h (.refl _ s)
  | .msixVectorUnmask p v, h => execMsixVectorUnmask_frame p v s (.refl _) h (.refl _ s)
  | .flashEraseDone, h => execFlashEraseDone_frame s (.refl _) h (.refl _ s)
  | .imageCopyDone, h => execImageCopyDone_frame s (.refl _) h (.refl _ s)
  | .panelPowerDownDelay n, h => execPanelPowerDownDelay_frame n s (.refl _) h (.refl _ s)
  | .pumpInRegulation n, h => execPumpInRegulation_frame n s (.refl _) h (.refl _ s)
  | .ethLinkChange port speed, h => execEthLinkChange_frame port speed s (.refl _) h (.refl _ s)
  | .ethernetPllLockLost, h => execEthernetPllLockLost_frame s (.refl _) h (.refl _ s)
  | .memberAlarmReceived member a, h => execMemberAlarmReceived_frame member a s (.refl _) h (.refl _ s)

/-- Settles O45, from the frame of each command's meaning. -/
theorem everyCommandKeepsToItsParts : Obligations.EveryCommandKeepsToItsParts := by
  unfold Obligations.EveryCommandKeepsToItsParts
  intro c s t h
  exact exec_frame h

end Sys2Proof.Machine

/-! The state after reset (R27, R29, R402, R459). -/
namespace Sys2Proof.Machine

/-- After reset an object reads its default (R459). -/
theorem State.rd_reset (r : ObjRow) (n i t j : Nat) : State.reset.rd r n i t j = r.dflt i j := rfl

/-- The default of a station's state is OFF (R29). -/
theorem State.stationState_reset (n : Nat) : State.reset.stationState n = stOff := rfl

/-- Settles O42: after reset no object, result, lock or byte is listed, so each reads its default. -/
theorem resetIsOffWithDefaults : Obligations.ResetIsOffWithDefaults := by
  unfold Obligations.ResetIsOffWithDefaults
  refine ⟨rfl, rfl, rfl, rfl, rfl, rfl, rfl, fun n => State.stationState_reset n, fun r n i tq j => ⟨?_, ?_, ?_⟩, fun b => ?_⟩
  · exact State.rd_reset r n i tq j
  · exact State.rd_reset r n i tq j
  · rfl
  · rfl

end Sys2Proof.Machine

/-! Mailboxes: a request taken, answered and released (R24, R362, R363, R372, R375). -/
namespace Sys2Proof.Machine

/-- A page write that reaches a mailbox runs its effect. -/
theorem State.onMbox_of_open {s : State} {p : MbPath} (h : s.mboxOpen p = true) (f : State → State) : s.onMbox p f = f s := by
  cases p with
  | host p => simp_all [State.mboxOpen, State.onMbox]
  | tenant p t =>
    simp only [State.mboxOpen, Bool.and_eq_true, Bool.not_eq_true', Bool.or_eq_true, decide_eq_true_eq] at h
    obtain ⟨hgate, htaken | ⟨hdiscarded, hquarantined⟩⟩ := h
    · simp [State.onMbox, hgate, htaken]
    · simp [State.onMbox, hgate, hdiscarded, hquarantined]

/-- Whether the dictionary is served does not depend on what the mailboxes hold. -/
theorem State.served_setMbox (s : State) (p : MbPath) (m : Mailbox) (who : Requester) : (s.setMbox p m).served who = s.served who := by
  cases p <;> rfl

/-- A free mailbox keeps a request of 1 to 1,024 bytes, and carries it out at once where the dictionary is served (R24, R372). -/
theorem exec_mbSend_of_free {s : State} {p : MbPath} {body : Bytes} (typ : Fin 16) (tq : Option (Fin 512)) (env : WriteEnv)
    (hopen : s.mboxOpen p = true) (hfree : (s.mbox p).busy = false) (hne : body ≠ []) (hlen : body.length ≤ 1024) :
    exec (.mbSend p typ tq body env) s =
      .next (let u := s.setMbox p { s.mbox p with request := some ⟨typ, tq.elim 512 Fin.val, body, env⟩ }
        if s.served p.who then u.serveMbox p else u) := by
  have hbody : (body.isEmpty || decide (1024 < body.length)) = false := by simp [hne, hlen]
  change execMbSend p typ tq body env s = _
  simp only [execMbSend, State.onMbox_of_open hopen, hfree, Bool.false_or, hbody, Bool.false_eq_true, if_false, State.served_setMbox]
  cases tq <;> rfl

/-- Settles O18: what a page write that reaches a mailbox does, request by request. -/
theorem mailboxesServeRequests : Obligations.MailboxesServeRequests := by
  unfold Obligations.MailboxesServeRequests
  refine ⟨?served, ?waits, ?ack, ?response⟩
  case served =>
    intro s p typ tq body env hopen hfree hne hlen hserved
    refine ⟨_, exec_mbSend_of_free typ tq env hopen hfree hne hlen, ?_⟩
    simp only [hserved, if_true]
    cases tq <;> rfl
  case waits =>
    intro s p typ tq body env hopen hfree hne hlen hserved
    refine ⟨_, exec_mbSend_of_free typ tq env hopen hfree hne hlen, ?_⟩
    simp only [hserved, Bool.false_eq_true, if_false]
    cases tq <;> rfl
  case ack =>
    intro s p hopen
    exact ⟨_, rfl, State.onMbox_of_open hopen _⟩
  case response =>
    intro s p r b hreply
    refine ⟨_, rfl, ?_⟩
    cases p <;> simp only [hreply]

end Sys2Proof.Machine

/-! Frames put to use: what a function leaves as it was, field by field, where its frame does not list the field's part. -/
namespace Sys2Proof.Machine

theorem Frame.rst {ps : List Part} {s t : State} (h : Frame ps s t) (hq : .resets ∉ ps) : t.rst = s.rst := h .resets hq

theorem Frame.mem {ps : List Part} {s t : State} (h : Frame ps s t) (hq : .memory ∉ ps) : t.mem = s.mem := (h .memory hq).1

theorem Frame.regs {ps : List Part} {s t : State} (h : Frame ps s t) (hq : .objects ∉ ps) : t.regs = s.regs := (h .objects hq).1

theorem State.rd_of_regs {s t : State} (h : t.regs = s.regs) (r : ObjRow) (n i q j : Nat) : t.rd r n i q j = s.rd r n i q j := by
  simp only [State.rd, h]

/-- A fold whose every step leaves a field of the state leaves the field. -/
theorem State.each_keeps {α β : Type} (f : State → β) {g : State → α → State} (h : ∀ s x, f (g s x) = f s) (s : State) (l : List α) :
    f (s.each l g) = f s := by
  induction l generalizing s with
  | nil => rfl
  | cons x l ih => exact (ih (g s x)).trans (h s x)

end Sys2Proof.Machine

/-! Reset control: what the parts of a reset leave of reset control's own state (R551, R560, R566). -/
namespace Sys2Proof.Machine

@[simp] theorem State.rst_updateWide (s : State) : s.updateWide.rst = s.rst :=
  (State.updateWide_frame s (.refl _) (.refl _ s)).rst (by decide)

@[simp] theorem State.rst_secureDown (s : State) : s.secureDown.rst = s.rst :=
  (State.secureDown_frame s (.refl _) (.refl _ s)).rst (by decide)

@[simp] theorem State.rst_mgmtDown (s : State) : s.mgmtDown.rst = s.rst :=
  (State.mgmtDown_frame s (.refl _) (.refl _ s)).rst (by decide)

@[simp] theorem State.rst_portDown (s : State) (p : Nat) : (s.portDown p).rst = s.rst :=
  (State.portDown_frame s p (.refl _) (.refl _ s)).rst (by decide)

@[simp] theorem State.rst_stationWarm (s : State) (n : Nat) : (s.stationWarm n).rst = s.rst :=
  (State.stationWarm_frame s n (.refl _) (.refl _ s)).rst (by decide)

@[simp] theorem State.rst_clearObjects (s : State) (p : OKey → Bool) : (s.clearObjects p).rst = s.rst := rfl

@[simp] theorem State.rst_syncZones (s : State) (n : Nat) : (s.syncZones n).rst = s.rst :=
  (State.syncZones_frame s n (.refl _) (.refl _ s)).rst (by decide)

@[simp] theorem State.rst_syncSecure (s : State) (n : Nat) : (s.syncSecure n).rst = s.rst :=
  (State.syncSecure_frame s n (.refl _) (.refl _ s)).rst (by decide)

@[simp] theorem State.rst_hwClear (s : State) (l : List Nat) : (s.hwClear l).rst = s.rst :=
  (State.hwClear_frame s l (.refl _) (.refl _ s)).rst (by decide)

@[simp] theorem State.rst_recordCause (s : State) (l : List ResetReq) (held : Bool) : (s.recordCause l held).rst = s.rst :=
  (State.recordCause_frame s l held (.refl _) (.refl _ s)).rst (by decide)

@[simp] theorem State.rst_count (s : State) (r : ObjRow) (n i t j by_ : Nat) : (s.count r n i t j by_).rst = s.rst := State.rst_wr ..

@[simp] theorem State.rst_each {α : Type} {g : State → α → State} (h : ∀ s x, (g s x).rst = s.rst) (s : State) (l : List α) :
    (s.each l g).rst = s.rst := State.each_keeps State.rst h s l

/-- A WARM reset is no release of a level source (R556). -/
theorem State.levels_warmDown (s : State) : s.warmDown.rst.levels = s.rst.levels := by
  simp [State.warmDown]

theorem State.rst_coldDown (s : State) : s.coldDown.rst =
    { vaon := s.rst.vaon, inReset := allDomains, levels := s.rst.levels, brownOut := s.rst.brownOut, refLost := s.rst.refLost,
      settingsDue := true, sourceFuses := s.rst.sourceFuses, pinFuses := s.rst.pinFuses, pinMap := s.rst.pinMap } := by
  simp [State.coldDown, State.wrB]

theorem State.mem_coldDown (s : State) : s.coldDown.mem = [] := by
  simp [State.coldDown, State.wrB]; rfl

theorem State.deviceState_warmDown (s : State) : s.warmDown.rd Obj.DEVICE_STATE = 1 := State.rd_wr_self _ _ _ _ _ _ _ (.inl rfl)

theorem State.refLost_coldDown (s : State) : s.coldDown.rd Obj.REF_LOST = if s.rst.refLost then 1 else 0 := by
  simp only [State.coldDown, State.wrB]
  rw [State.rd_wr_of_ne _ _ _ _ _ _ _ _ _ _ _ _ (.inl rfl) (by decide), State.rd_wr_of_ne _ _ _ _ _ _ _ _ _ _ _ _ (.inl rfl) (by decide),
    State.rd_wr_of_ne _ _ _ _ _ _ _ _ _ _ _ _ (.inl rfl) (by decide), State.rd_wr_of_ne _ _ _ _ _ _ _ _ _ _ _ _ (.inl rfl) (by decide),
    State.rd_wr_self _ _ _ _ _ _ _ (.inl rfl), State.rst_updateWide]

/-- The pins of reset domains change nothing but the pins. -/
theorem State.pinsReset_each_frame (s : State) (l : List Domain) : Frame [.pins] s (s.each l fun s d => s.pinsReset d) :=
  Frame.each (fun s d h => State.pinsReset_frame s d (.refl _) h) (.refl _ s)

end Sys2Proof.Machine

/-! One source applied alone (R560, R566). -/
namespace Sys2Proof.Machine

/-- Of the reaches in order, one source is applied at its own. -/
theorem State.each_reach_applyReset (s : State) {r : ResetReq} (hlow : 1 ≤ r.reach) (hhigh : r.reach < 8) :
    s.each (List.range 8) (fun s c => s.each ([r].filter fun q => q.reach = c) fun s q => s.applyReset q) = s.applyReset r := by
  generalize hc : r.reach = c at hlow hhigh
  interval_cases c <;> simp [State.each, List.range, List.range.loop, hc]

/-- One source with domains: a release in progress stops, the source is applied, a pulse but for COLD is noted, and the cause recorded. -/
theorem State.applyAll_single (s : State) {r : ResetReq} (hlow : 1 ≤ r.reach) (hhigh : r.reach < 8) (hdom : r.domains ≠ []) (held : Bool) :
    s.applyAll [r] held =
      (if levelSource r.source = false ∧ r.reach ≠ rCold then
        { s.breakRelease.applyReset r with
          rst := { (s.breakRelease.applyReset r).rst with pulsedAt := some (s.breakRelease.applyReset r).time } }
      else s.breakRelease.applyReset r).recordCause [r] held := by
  have hfilter : [r].filter (fun q => q.reach ≠ 0) = [r] := by simp; omega
  have hany : ([r].any fun q => q.domains ≠ []) = true := by simp [hdom]
  simp only [State.applyAll, hfilter, hany, if_true, State.each_reach_applyReset _ hlow hhigh, List.any_cons, List.any_nil, List.all_cons,
    List.all_nil, Bool.or_false, Bool.and_true, Bool.and_eq_true, Bool.not_eq_true', decide_eq_true_eq]

theorem State.applyAll_level (s : State) {r : ResetReq} (hlow : 1 ≤ r.reach) (hhigh : r.reach < 8) (hlevel : levelSource r.source = true)
    (hdom : r.domains ≠ []) : s.applyAll [r] false = (s.breakRelease.applyReset r).recordCause [r] false := by
  simp only [s.applyAll_single hlow hhigh hdom, hlevel, Bool.true_eq_false, false_and, if_false]

theorem State.levels_breakRelease (s : State) : s.breakRelease.rst.levels = s.rst.levels := rfl

theorem State.mem_inReset_applyReset (s : State) {r : ResetReq} {d : Domain} (hd : d ∈ r.domains) : d ∈ (s.applyReset r).rst.inReset := by
  simp only [State.applyReset, List.mem_append, List.mem_filter, Bool.not_eq_true', List.contains_eq_mem, decide_eq_false_iff_not]
  tauto

theorem State.applyReset_cold (s : State) {r : ResetReq} (h : r.reach = rCold) :
    (s.applyReset r).rst.levels = s.rst.levels ∧ (s.applyReset r).rst.brownOut = s.rst.brownOut ∧ (s.applyReset r).mem = [] ∧
      (s.applyReset r).rd Obj.REF_LOST = if s.rst.refLost then 1 else 0 := by
  have hpins := State.pinsReset_each_frame s.coldDown r.domains
  have hrst := hpins.rst (by decide)
  have hmem := hpins.mem (by decide)
  have hregs := hpins.regs (by decide)
  simp only [State.applyReset, h, if_true]
  refine ⟨?_, ?_, ?_, ?_⟩
  · simp only [hrst, State.rst_coldDown]
  · simp only [hrst, State.rst_coldDown]
  · exact hmem.trans s.mem_coldDown
  · exact (State.rd_of_regs hregs ..).trans s.refLost_coldDown

theorem State.applyReset_warm (s : State) {r : ResetReq} (h : r.reach = rWarm) :
    (s.applyReset r).rst.levels = s.rst.levels ∧ (s.applyReset r).rd Obj.DEVICE_STATE = 1 := by
  have hpins := State.pinsReset_each_frame (s.count Obj.RESETS_WARM).warmDown r.domains
  have hrst := hpins.rst (by decide)
  have hregs := hpins.regs (by decide)
  have hcold : rWarm ≠ rCold := by decide
  simp only [State.applyReset, h, hcold, if_true, if_false]
  refine ⟨?_, ?_⟩
  · simp only [hrst, State.levels_warmDown, State.rst_count]
  · exact (State.rd_of_regs hregs ..).trans (State.deviceState_warmDown _)

/-- A COLD reset keeps the cause that it sets itself (R566). -/
theorem State.recordCause_cold (s : State) {r : ResetReq} (h : r.reach = rCold) (held : Bool) : s.recordCause [r] held = s := by
  simp [State.recordCause, h]

/-- Recording a cause leaves the state of the device. -/
theorem State.deviceState_recordCause (s : State) (l : List ResetReq) (held : Bool) :
    (s.recordCause l held).rd Obj.DEVICE_STATE = s.rd Obj.DEVICE_STATE := by
  cases l with
  | nil => rfl
  | cons r l =>
    simp only [State.recordCause]
    split
    · rfl
    · rw [State.rd_wr_of_ne _ _ _ _ _ _ _ _ _ _ _ _ (.inl rfl) (by decide), State.rd_wr_of_ne _ _ _ _ _ _ _ _ _ _ _ _ (.inl rfl) (by decide)]

/-- What holds once a source of COLD reach is applied: everything in reset, memory lost, the level sources still listed (R551, R556). -/
def ColdApplied (s t : State) : Prop :=
  t.rst.levels = s.rst.levels ∧ t.rst.brownOut = s.rst.brownOut ∧ t.mem = [] ∧ (t.rd Obj.REF_LOST = if s.rst.refLost then 1 else 0) ∧
    ∀ d ∈ allDomains, d ∈ t.rst.inReset

/-- What holds once a source of WARM reach is applied. -/
def WarmApplied (s t : State) : Prop :=
  t.rst.levels = s.rst.levels ∧ t.rd Obj.DEVICE_STATE = 1 ∧ Domain.sec ∈ t.rst.inReset ∧ Domain.mgmt ∈ t.rst.inReset

theorem ResetReq.domains_cold {r : ResetReq} (h : r.reach = rCold) : r.domains = allDomains := by simp [ResetReq.domains, h]

theorem ResetReq.mem_domains_warm {r : ResetReq} (h : r.reach = rWarm) : Domain.sec ∈ r.domains ∧ Domain.mgmt ∈ r.domains := by
  have hcold : rWarm ≠ rCold := by decide
  simp only [ResetReq.domains, h, hcold, if_true, if_false]
  decide

theorem State.applyAll_cold (s : State) {r : ResetReq} (h : r.reach = rCold) (hlevel : levelSource r.source = true) :
    ColdApplied s (s.applyAll [r] false) := by
  have hdom := ResetReq.domains_cold h
  rw [s.applyAll_level (by rw [h]; decide) (by rw [h]; decide) hlevel (by rw [hdom]; decide), State.recordCause_cold _ h]
  obtain ⟨hlevels, hbrown, hmem, href⟩ := s.breakRelease.applyReset_cold h
  exact ⟨hlevels, hbrown, hmem, href, fun d hd => State.mem_inReset_applyReset _ (hdom ▸ hd)⟩

theorem State.applyAll_warm (s : State) {r : ResetReq} (h : r.reach = rWarm) (hlevel : levelSource r.source = true) :
    WarmApplied s (s.applyAll [r] false) := by
  obtain ⟨hsec, hmgmt⟩ := ResetReq.mem_domains_warm h
  rw [s.applyAll_level (by rw [h]; decide) (by rw [h]; decide) hlevel (List.ne_nil_of_mem hsec)]
  obtain ⟨hlevels, hstate⟩ := s.breakRelease.applyReset_warm h
  refine ⟨?_, ?_, ?_, ?_⟩
  · rw [State.rst_recordCause]; exact hlevels
  · rw [State.deviceState_recordCause]; exact hstate
  · rw [State.rst_recordCause]; exact State.mem_inReset_applyReset _ hsec
  · rw [State.rst_recordCause]; exact State.mem_inReset_applyReset _ hmgmt

/-- With no hold a source is applied as it is asserted (R567 to R569). -/
theorem State.assertReset_of_noHold {s : State} (h : s.noHold) {r : ResetReq} (hreach : r.reach ≠ 0) (hsource : r.source ≠ 1) :
    s.assertReset r = s.applyAll [r] false := by
  obtain ⟨hvaon, hheld, hpulse, hprogram, herase⟩ := h
  simp [State.assertReset, hreach, hvaon, hheld, hpulse, hprogram, herase, hsource]

/-- The lists of level sources with one more. -/
def State.listed (s : State) (k : Nat) : State := { s with rst := { s.rst with levels := s.rst.levels ++ [k] } }

theorem State.contains_levels_listed (s : State) (k : Nat) : (s.listed k).rst.levels.contains k = true := by simp [State.listed]

theorem ColdApplied.listed {s t : State} {k : Nat} (h : ColdApplied (s.listed k) t) : t.rst.levels.contains k = true :=
  h.1 ▸ s.contains_levels_listed k

theorem WarmApplied.listed {s t : State} {k : Nat} (h : WarmApplied (s.listed k) t) : t.rst.levels.contains k = true :=
  h.1 ▸ s.contains_levels_listed k

theorem State.assertLevel_of_new {s : State} {k : Nat} (h : s.rst.levels.contains k = false) (target : Option Nat) :
    s.assertLevel k target = (s.listed k).assertReset ((s.listed k).request k target none) := by
  simp only [State.assertLevel, h, Bool.false_eq_true, if_false]
  rfl

/-- A level source of COLD reach that becomes asserted with no hold is listed and applied. -/
theorem State.assertLevel_cold {s : State} {k : Nat} (hold : s.noHold) (hnew : s.rst.levels.contains k = false) (hk : k ≠ 1)
    (hlevel : levelSource k = true) (hreach : ((s.listed k).request k none none).reach = rCold) :
    ColdApplied (s.listed k) (s.assertLevel k none) := by
  have hold' : (s.listed k).noHold := hold
  rw [State.assertLevel_of_new hnew, State.assertReset_of_noHold hold' (by rw [hreach]; decide) hk]
  exact State.applyAll_cold _ hreach hlevel

/-- A level source of WARM reach that becomes asserted with no hold is listed and applied. -/
theorem State.assertLevel_warm {s : State} {k : Nat} (hold : s.noHold) (hnew : s.rst.levels.contains k = false) (hk : k ≠ 1)
    (hlevel : levelSource k = true) (hreach : ((s.listed k).request k none none).reach = rWarm) :
    WarmApplied (s.listed k) (s.assertLevel k none) := by
  have hold' : (s.listed k).noHold := hold
  rw [State.assertLevel_of_new hnew, State.assertReset_of_noHold hold' (by rw [hreach]; decide) hk]
  exact State.applyAll_warm _ hreach hlevel

/-- A brown-out that cuts a program pulse drops the pulse and nothing else of reset control (R568). -/
theorem State.rst_cutPulse (s : State) :
    s.cutPulse.rst = if s.pulsing then { s.rst with pulseAt := none, pulseFuses := [] } else s.rst := by
  unfold State.cutPulse
  cases s.pulsing with
  | false => rfl
  | true =>
    have heach : ∀ f : State → Nat × Nat × Nat → State, (∀ u x, (f u x).rst = u.rst) → (s.each s.rst.pulseFuses f).rst = s.rst :=
      fun f hf => State.rst_each hf s _
    simp only [Bool.not_true, Bool.false_eq_true, if_false, if_true]
    rw [heach]
    rintro u ⟨c, old, new⟩
    rw [apply_ite State.rst]
    simp only [State.drawNat, State.rst_setUpd, State.rst_wr, ite_self]

theorem State.levels_cutPulse (s : State) : s.cutPulse.rst.levels = s.rst.levels := by rw [State.rst_cutPulse]; split <;> rfl

theorem State.brownOut_cutPulse (s : State) : s.cutPulse.rst.brownOut = s.rst.brownOut := by rw [State.rst_cutPulse]; split <;> rfl

theorem State.refLost_cutPulse (s : State) : s.cutPulse.rst.refLost = s.rst.refLost := by rw [State.rst_cutPulse]; split <;> rfl

/-- Brown-out and the lost reference are asserted through every hold (R567). -/
theorem State.assertLevel_brownOut {s : State} (hvaon : s.rst.vaon = true) (hnew : s.rst.levels.contains 1 = false) :
    ColdApplied (s.listed 1) (s.assertLevel 1 none) := by
  have hreach : ((s.listed 1).request 1 none none).reach = rCold := by
    simp [State.request, State.reachOf, fixedSource, serviceReach, rCold, rPort]
  have hne : ((s.listed 1).request 1 none none).reach ≠ 0 := by rw [hreach]; decide
  have hon : (s.listed 1).rst.vaon = true := hvaon
  have hsource : ((s.listed 1).request 1 none none).source = 1 := rfl
  rw [State.assertLevel_of_new hnew]
  simp only [State.assertReset, hne, hon, hsource, decide_false, Bool.not_true, Bool.or_false, Bool.false_eq_true, if_false, ne_eq,
    not_true, Bool.false_and, if_true]
  obtain ⟨hlevels, hbrown, hmem, href, hreset⟩ := State.applyAll_cold
    { (s.listed 1).cutPulse with rst := { (s.listed 1).cutPulse.rst with held := [], suspended := [], erase := none } } hreach rfl
  exact ⟨hlevels.trans (State.levels_cutPulse _), hbrown.trans (State.brownOut_cutPulse _), hmem,
    href.trans (congrArg (fun b : Bool => if b then 1 else 0) (State.refLost_cutPulse _)), hreset⟩

theorem State.request_cold (s : State) : (s.request 0 none none).reach = rCold := by
  simp [State.request, State.reachOf, fixedSource, serviceReach, rCold, rPort]

/-- RESET_N is WARM in SERVICE (R554). -/
theorem State.request_resetN {s : State} (h : s.deviceState = 2) : (s.request 2 none none).reach = rWarm := by
  simp [State.request, State.reachOf, h, serviceReach, rWarm, rPort]

/-- A thermal trip is WARM whatever the source map says (R554). -/
theorem State.request_thermal (s : State) : (s.request 3 none none).reach = rWarm := by
  simp [State.request, State.reachOf, fixedSource, serviceReach, rWarm, rPort]

theorem State.contains_levels_releaseLevel (s : State) (k : Nat) : (s.releaseLevel k).rst.levels.contains k = false := by
  simp [State.releaseLevel]

theorem ColdApplied.all {s t : State} {k : Nat} (h : ColdApplied (s.listed k) t) :
    t.rst.levels.contains k = true ∧ t.mem = [] ∧ ∀ d ∈ allDomains, d ∈ t.rst.inReset := by
  obtain ⟨-, -, hmem, -, hreset⟩ := id h
  exact ⟨h.listed, hmem, hreset⟩

/-- With VAON good again every domain is in reset, and the flash is held in reset by its pin (R27, R569, R573). -/
theorem exec_vaonGood {s : State} (h : s.rst.vaon = false) : ∃ t, exec .vaonGood s = .next t ∧
    t.rst = { s.coldDown.rst with vaon := true, wide := allDomains } ∧ t.powered = !s.rst.levels.contains 0 ∧
    t.out.head? = some (Emission.pin "XSPI_RESET_N" 0 false) := by
  have hpins := State.pinsReset_each_frame { s.coldDown with
    powered := !s.coldDown.rst.levels.contains 0, rst := { s.coldDown.rst with vaon := true, wide := allDomains } } allDomains
  have hrst := hpins.rst (by decide)
  have hpowered := hpins .power (by decide)
  refine ⟨_, rfl, ?_⟩
  simp only [h, Bool.false_eq_true, if_false, State.pin, State.rst_emit, State.powered_emit]
  exact ⟨hrst, hpowered.trans (by simp only [State.rst_coldDown]), rfl⟩

/-- A supply below its threshold trips the monitor and asserts source 1 (R556). -/
theorem exec_brownOut_low {s : State} {v a b : Nat} (h : v < 1700 ∨ a < 1660 ∨ b < 3050) :
    exec (.brownOut v a b) s =
      .next (State.assertLevel { s with rst := { s.rst with brownOut := true, tripped := s.rst.vaon } } 1 none) := by
  have htripped : (decide (v < 1700) || decide (a < 1660) || decide (b < 3050)) = true := by simpa [or_assoc] using h
  change execBrownOut v a b s = _
  simp only [execBrownOut, htripped, Bool.not_true, Bool.false_and, Bool.false_eq_true, if_false, Bool.true_and, State.syncBrownOut,
    Bool.true_or, if_true]

/-- Supplies at their thresholds or above do not trip the monitor. -/
theorem not_tripped {v a b : Nat} (hv : 1700 ≤ v) (ha : 1660 ≤ a) (hb : 3050 ≤ b) :
    (decide (v < 1700) || decide (a < 1660) || decide (b < 3050)) = false := by
  simp [hv, ha, hb]

/-- Settles O1: each source through the level it asserts, COLD or WARM. -/
theorem resetSourcesAct : Obligations.ResetSourcesAct := by
  unfold Obligations.ResetSourcesAct
  refine ⟨?vaonLost, ?vaonGood, ?porstLow, ?porstHigh, ?resetLow, ?resetHigh, ?brownOut, ?suppliesGood, ?suppliesBetween, ?trip, ?cool,
    ?refLost, ?refBack⟩
  case vaonLost => exact fun s => ⟨_, rfl, rfl, rfl, by simp only [State.rst_coldDown], State.mem_coldDown s.cutPulse, rfl⟩
  case vaonGood =>
    intro s hvaon
    obtain ⟨t, ht, hrst, hpowered, hout⟩ := exec_vaonGood hvaon
    exact ⟨t, ht, by rw [hrst], by rw [hrst, State.rst_coldDown], hpowered, by rw [hrst], hout⟩
  case porstLow =>
    intro s hold hnew
    exact ⟨s.assertLevel 0 none, rfl, (State.assertLevel_cold hold hnew (by decide) rfl (State.request_cold _)).all⟩
  case porstHigh =>
    intro s hvaon
    have hvaon' : (s.releaseLevel 0).rst.vaon = true := hvaon
    refine ⟨_, rfl, ?_⟩
    simp only [if_true, hvaon']
    exact ⟨trivial, s.contains_levels_releaseLevel 0, rfl⟩
  case resetLow =>
    intro s hold hnew hservice
    have h := State.assertLevel_warm hold hnew (by decide) rfl (State.request_resetN (s := s.listed 2) hservice)
    exact ⟨s.assertLevel 2 none, rfl, h.listed, h.2⟩
  case resetHigh => exact fun s => ⟨_, rfl, s.contains_levels_releaseLevel 2, rfl⟩
  case brownOut =>
    intro s v a b hvaon hnew hlow
    have h := State.assertLevel_brownOut (s := { s with rst := { s.rst with brownOut := true, tripped := s.rst.vaon } }) hvaon hnew
    exact ⟨_, exec_brownOut_low hlow, h.2.1, h.all⟩
  case suppliesGood =>
    intro s v a b href hv ha hb
    have hgood : (decide (1730 ≤ v) && decide (1690 ≤ a) && decide (3080 ≤ b)) = true := by simp [hv, ha, hb]
    refine ⟨_, rfl, ?_⟩
    simp only [not_tripped (v := v) (a := a) (b := b) (by omega) (by omega) (by omega), hgood, Bool.not_true, Bool.and_false, Bool.false_eq_true,
      if_false, Bool.false_and, State.syncBrownOut, href, Bool.or_false]
    exact ⟨rfl, State.contains_levels_releaseLevel _ 1, rfl⟩
  case suppliesBetween =>
    intro s v a b hv ha hb hlow
    have hgood : (decide (1730 ≤ v) && decide (1690 ≤ a) && decide (3080 ≤ b)) = false := by
      simp only [Bool.and_eq_false_iff, decide_eq_false_iff_not]
      omega
    refine ⟨_, rfl, ?_⟩
    simp only [not_tripped hv ha hb, hgood, Bool.not_false, Bool.and_self, if_true]
  case trip =>
    intro s l hold hnew hhot
    have h := State.assertLevel_warm hold hnew (by decide) rfl (State.request_thermal _)
    refine ⟨_, rfl, ?_⟩
    simp only [hhot, if_true]
    exact ⟨h.listed, h.2⟩
  case cool =>
    intro s l hcool
    have hhot : (l.any fun x => 115 ≤ x) = false := by
      simp only [List.all_eq_true, decide_eq_true_eq] at hcool
      simp only [List.any_eq_false, decide_eq_true_eq]
      intro x hx
      have := hcool x hx
      omega
    refine ⟨_, rfl, ?_⟩
    simp only [hhot, hcool, Bool.false_eq_true, if_false, if_true]
    exact ⟨s.contains_levels_releaseLevel 3, rfl⟩
  case refLost =>
    intro s hvaon hnew
    have h := State.assertLevel_brownOut (s := { s with rst := { s.rst with refLost := true } }) hvaon hnew
    refine ⟨_, rfl, ?_⟩
    simp only [State.syncBrownOut, Bool.or_true, if_true]
    obtain ⟨hlisted, hmem, hreset⟩ := h.all
    exact ⟨hlisted, h.2.2.2.1, hmem, hreset⟩
  case refBack =>
    intro s hbrown
    refine ⟨_, rfl, ?_⟩
    simp only [State.syncBrownOut, hbrown, Bool.or_self, Bool.false_eq_true, if_false]
    exact ⟨rfl, State.contains_levels_releaseLevel _ 1, rfl⟩

end Sys2Proof.Machine

/-! What a reset of a station leaves of memory: only the jobs that it ends write there (R551). -/
namespace Sys2Proof.Machine

@[simp] theorem State.mem_outputOff (s : State) (n : Nat) : (s.outputOff n).mem = s.mem :=
  (State.outputOff_frame s n (.refl _) (.refl _ s)).mem (by decide)

@[simp] theorem State.mem_touchOff (s : State) (n : Nat) : (s.touchOff n).mem = s.mem :=
  (State.touchOff_frame s n (.refl _) (.refl _ s)).mem (by decide)

@[simp] theorem State.mem_hapticReset (s : State) (n : Nat) : (s.hapticReset n).mem = s.mem :=
  (State.hapticReset_frame s n (.refl _) (.refl _ s)).mem (by decide)

@[simp] theorem State.mem_audioReset (s : State) (n : Nat) : (s.audioReset n).mem = s.mem :=
  (State.audioReset_frame s n (.refl _) (.refl _ s)).mem (by decide)

@[simp] theorem State.mem_rasterReset (s : State) (n : Nat) : (s.rasterReset n).mem = s.mem :=
  (State.rasterReset_frame s n (.refl _) (.refl _ s)).mem (by decide)

@[simp] theorem State.mem_functionDefaults (s : State) (n : Nat) : (s.functionDefaults n).mem = s.mem :=
  (State.functionDefaults_frame s n (.refl _) (.refl _ s)).mem (by decide)

@[simp] theorem State.mem_emptyIngress (s : State) (n : Nat) : (s.emptyIngress n).mem = s.mem :=
  (State.emptyIngress_frame s n (.refl _) (.refl _ s)).mem (by decide)

@[simp] theorem State.mem_emptyStationQueues (s : State) (n : Nat) : (s.emptyStationQueues n).mem = s.mem :=
  (State.emptyStationQueues_frame s n (.refl _) (.refl _ s)).mem (by decide)

@[simp] theorem State.mem_cvReset (s : State) (u : Nat) : (s.cvReset u).mem = s.mem :=
  (State.cvReset_frame s u (.refl _) (.refl _ s)).mem (by decide)

@[simp] theorem State.mem_pinsReset (s : State) (d : Domain) : (s.pinsReset d).mem = s.mem :=
  (State.pinsReset_frame s d (.refl _) (.refl _ s)).mem (by decide)

@[simp] theorem State.mem_syncSecure (s : State) (n : Nat) : (s.syncSecure n).mem = s.mem :=
  (State.syncSecure_frame s n (.refl _) (.refl _ s)).mem (by decide)

@[simp] theorem State.mem_energyOff (s : State) (n : Nat) : (s.energyOff n).mem = s.mem :=
  (State.energyOff_frame s n (.refl _) (.refl _ s)).mem (by decide)

@[simp] theorem State.mem_syncRaster (s : State) (n : Nat) : (s.syncRaster n).mem = s.mem :=
  (State.syncRaster_frame s n (.refl _) (.refl _ s)).mem (by decide)

@[simp] theorem State.mem_coreDown (s : State) (n : Nat) : (s.coreDown n).mem = s.mem :=
  (State.coreDown_frame s n (.refl _) (.refl _ s)).mem (by decide)

@[simp] theorem State.mem_enterStarting (s : State) (n : Nat) : (s.enterStarting n).mem = s.mem :=
  (State.enterStarting_frame s n (.refl _) (.refl _ s)).mem (by decide)

@[simp] theorem State.mem_recordCause (s : State) (l : List ResetReq) (held : Bool) : (s.recordCause l held).mem = s.mem :=
  (State.recordCause_frame s l held (.refl _) (.refl _ s)).mem (by decide)

@[simp] theorem State.mem_wakePin (s : State) : s.wakePin.mem = s.mem :=
  (State.wakePin_frame s (.refl _) (.refl _ s)).mem (by decide)

theorem State.mem_dropCredit_each (s : State) (n : Nat) (l : List Nat) : (s.each l fun s t => s.dropCredit n t).mem = s.mem :=
  State.each_keeps State.mem (fun s t => (State.dropCredit_frame s n t (.refl _) (.refl _ s)).mem (by decide)) s l

theorem State.mem_pinsReset_each (s : State) (l : List Domain) : (s.each l fun s d => s.pinsReset d).mem = s.mem :=
  (s.pinsReset_each_frame l).mem (by decide)

/-- The jobs of a station whose raster engine stops end, and nothing else that it does touches memory (R72). -/
theorem State.mem_rasterLeave (s : State) (n : Nat) :
    (s.rasterLeave n).mem = (s.each ((s.ras n).jobs.filter Job.live) fun s j => s.endJob n j.key csNotRunning).mem := by
  simp only [State.rasterLeave, State.mem_syncRaster, State.mem_wr, State.mem_dropCredit_each]

theorem State.mem_functionsReset (s : State) (n : Nat) :
    (s.functionsReset n).mem = if s.stationState n = stRunning then (s.rasterLeave n).mem else s.mem := by
  simp only [State.functionsReset, State.mem_syncSecure, State.mem_setCtl, State.mem_wr, State.mem_pinsReset, State.mem_cvReset,
    State.mem_emptyStationQueues, State.mem_emptyIngress, State.mem_functionDefaults, State.mem_setTch, State.mem_setDsp, State.mem_setCmp,
    State.mem_setGrd, State.mem_rasterReset, State.mem_audioReset, State.mem_hapticReset, State.mem_touchOff, State.mem_outputOff,
    apply_ite State.mem, State.mem_energyOff]

theorem State.mem_memoryStationReset (s : State) (n : Nat) : (s.memoryStationReset n).mem = s.mem := by
  unfold State.memoryStationReset
  split
  · dsimp only
    split
    · unfold State.markPoison
      split <;> simp [State.setMem, State.stReady]
    · simp [State.setMem, State.stReady]
  · simp [State.exitSelfRefresh, State.setMem, State.stReady]
  · rfl

/-- A reset of a running station leaves memory as the end of its jobs does. -/
theorem State.mem_stationDown_running {s : State} {n : Nat} (h : s.stationState n = stRunning) :
    (s.stationDown n false).mem = (s.rasterLeave n).mem := by
  have hoff : stRunning ≠ stOff := by decide
  have hfault : stRunning ≠ stMemoryFault := by decide
  simp [State.stationDown, h, hoff, hfault, State.mem_memoryStationReset, State.mem_functionsReset]

theorem State.mem_applyAll_single (s : State) {r : ResetReq} (hlow : 1 ≤ r.reach) (hhigh : r.reach < 8) (hdom : r.domains ≠ [])
    (held : Bool) : (s.applyAll [r] held).mem = (s.breakRelease.applyReset r).mem := by
  rw [s.applyAll_single hlow hhigh hdom, State.mem_recordCause]
  split <;> rfl

/-- Source 12 as a write of `STATION_RESET` asserts it (R559). -/
def stationSource (n : Nat) : ResetReq := { source := 12, reach := rStation, target := some n }

theorem stationSource_domains_ne_nil (n : Nat) : (stationSource n).domains ≠ [] := by
  simp [stationSource, ResetReq.domains, rStation, rCold, rWarm, rMgmt, rSec, rPort]

/-- A reset of STATION reach waits for no pulse, page program or erase: applied where no source is held (R567 to R569). -/
theorem State.assertReset_station {s : State} (hvaon : s.rst.vaon = true) (hheld : s.rst.held = []) (n : Nat) :
    s.assertReset (stationSource n) = s.applyAll [stationSource n] false := by
  have hreach : (stationSource n).reach ≠ 0 := by simp [stationSource, rStation]
  have hsource : (stationSource n).source ≠ 1 := by simp [stationSource]
  have hmgmt : (stationSource n).hitsMgmt = false := rfl
  have hsec : (stationSource n).hitsSec = false := rfl
  simp [State.assertReset, hreach, hsource, hmgmt, hsec, hvaon, hheld]

/-- A source of STATION reach applied alone to a running station leaves memory as the end of the station's jobs does. -/
theorem State.mem_applyReset_station {s : State} {n : Nat}
    (h : ((s.count Obj.RESETS_STATION).tellBlocksReset n).stationState n = stRunning) :
    (s.applyReset (stationSource n)).mem = (((s.count Obj.RESETS_STATION).tellBlocksReset n).rasterLeave n).mem := by
  have hreach : rStation ≠ rCold ∧ rStation ≠ rWarm ∧ rStation ≠ rMgmt ∧ rStation ≠ rSec ∧ rStation ≠ rPort := by decide
  obtain ⟨hcold, hwarm, hmgmt, hsec, hport⟩ := hreach
  unfold stationSource State.applyReset
  simp only [hcold, hwarm, hmgmt, hsec, hport, if_true, if_false, Bool.false_eq_true, Option.getD_some]
  rw [State.mem_pinsReset_each, ← State.mem_stationDown_running h]
  split
  · exact State.mem_wakePin _
  · rfl

/-- A write of 1 to `STATION_RESET` that is accepted, with no source held, applies source 12 to the station at once (R559, R567). -/
theorem exec_stationReset_mem {s : State} {who : Requester} {n : Fin 8} (haccept : s.accepts who Obj.STATION_RESET 1 n)
    (hvaon : s.rst.vaon = true) (hheld : s.rst.held = []) : ∃ t, exec (.stationReset who n true) s = .next t ∧
      t.mem = ((s.answer .ok).breakRelease.applyReset (stationSource n)).mem := by
  obtain ⟨hserved, hcheck⟩ := haccept
  refine ⟨_, rfl, ?_⟩
  simp only [State.onWrite, State.onRequest, hserved, if_true, hcheck]
  exact (congrArg State.mem (State.assertReset_station (s := s.answer .ok) hvaon hheld n)).trans
    (State.mem_applyAll_single (r := stationSource n) _ (by simp [stationSource, rStation]) (by simp [stationSource, rStation])
      (stationSource_domains_ne_nil n) false)

end Sys2Proof.Machine

/-! A state in which a reset of station 0 writes a byte of station 1: a window that runs past the end of the station's address space (R361). -/
namespace Sys2Proof.Machine

/-- A render target whose signature table lies at the first address past the station's 40 bits. -/
def tableAtTop : Attachment :=
  { clear := 0, sigTable := 2 ^ 40, format := 0, samplesLog2 := 0, loadOp := 0, storeOp := 0, reserved := 0, pitch := 0, addr := 0 }

/-- A render job of tenant 5 that has started. -/
def jobAtTop : Job :=
  { key := 0, tenant := 5, queue := 0, jobId := 9, jtype := 0, cls := 0, targetLayer := 0xFF, timeEst := 5, energyEst := 5,
    payloadAddr := 0, payloadSize := 64, started := true, atts := [tableAtTop], width := 32, height := 32 }

/-- Station 0 runs the job, a window of tenant 5 on it covers the last 4 KiB of its addresses and 4 KiB past them, and the first byte of
station 1 is 1. -/
def windowPastTheEnd : State :=
  { State.reset with
    rst := { vaon := true },
    regs := [(Obj.READY_HEADWORKS.key 0 0 512 0, 0x10), (Obj.HOST_LEVEL.key 0 0 512 0, 2), (Obj.STATION_STATE.key 0 0 512 0, stRunning),
      (Obj.WINDOW.key 0 0 5 0, 0x000002FFFFFFF003)],
    raster := [(0, { jobs := [jobAtTop] })],
    mem := [(cellOf 1 0, 1)] }

/-- The state in which the reset of station 0 stops its raster engine. -/
def windowPastTheEndReset : State :=
  (((windowPastTheEnd.answer .ok).breakRelease).count Obj.RESETS_STATION).tellBlocksReset 0

/-- The job's signature table is marked invalid as the job ends, and so the byte of station 1 is cleared. -/
theorem mem_windowPastTheEnd_endJob : (windowPastTheEndReset.endJob 0 0 csNotRunning).mem = [] := by decide +kernel

/-- Refutes O59: no bound of a window keeps the bytes that the end of a job writes inside the station that is reset. -/
theorem not_stationResetsLeaveTheOthersAlone : ¬ Obligations.StationResetsLeaveTheOthersAlone := by
  unfold Obligations.StationResetsLeaveTheOthersAlone
  intro h
  obtain ⟨t, ht, hmem⟩ := exec_stationReset_mem (s := windowPastTheEnd) (who := .host 0) (n := 0) (by decide +kernel) rfl rfl
  have hrun : windowPastTheEndReset.stationState 0 = stRunning := by decide +kernel
  have hjobs : (windowPastTheEndReset.ras 0).jobs.filter Job.live = [jobAtTop] := by decide +kernel
  have hempty : t.mem = [] := by
    rw [hmem]
    refine (State.mem_applyReset_station hrun).trans ?_
    rw [State.mem_rasterLeave]
    change (windowPastTheEndReset.each ((windowPastTheEndReset.ras 0).jobs.filter Job.live) _).mem = []
    rw [hjobs]
    exact mem_windowPastTheEnd_endJob
  obtain ⟨-, -, -, -, -, -, -, -, -, -, hbytes⟩ := h windowPastTheEnd t (.host 0) 0 1 true (by unfold Inv; decide +kernel) (by decide) (.inl ht)
  obtain ⟨hbyte, -⟩ := hbytes 0 (by decide)
  rw [hempty] at hbyte
  exact absurd hbyte (by decide +kernel)

end Sys2Proof.Machine

/-! The entry of SLEEP of a station whose engines are off: the objects that it writes (R29, R346). -/
namespace Sys2Proof.Machine

theorem SameObjectsBut.rd {s t : State} {ks : List OKey} (h : SameObjectsBut s t ks) {r : ObjRow} {n i q j : Nat}
    (hk : r.key n i q j ∉ ks) : t.rd r n i q j = s.rd r n i q j := by
  rw [State.rd, State.rd, h _ hk]

theorem SameObjectsBut.rdN {s t : State} {ks : List OKey} (h : SameObjectsBut s t ks) {r : ObjRow} {n i q j : Nat}
    (hk : r.key n i q j ∉ ks) : t.rdN r n i q j = s.rdN r n i q j := by
  rw [State.rdN, State.rdN, h.rd hk]

theorem Frame.disp {ps : List Part} {s t : State} (h : Frame ps s t) (hq : .display ∉ ps) : t.disp = s.disp := h .display hq

/-- The credit that tenants have in a station's rasterizer, and what is reserved of it (R448, R450). -/
def creditKeys (n : Nat) : List OKey := tenants.flatMap fun t => [Obj.CREDIT_UJ.key 0 n t 0, Obj.RESERVED_UJ.key 0 n t 0]

/-- The other objects that the entry of SLEEP of an otherwise idle station may write. -/
def sleepRowKeys (n : Nat) : List OKey :=
  [Obj.TRANSLATIONS_PENDING.key n 0 512 0, Obj.JOBS_DEFERRED.key n 0 512 0, Obj.RASTER_STATE.key n 0 512 0,
    Obj.SHADER_CLOCK_MHZ.key n 0 512 0, Obj.WEIR_DIVISOR.key 0 n 512 0, Obj.SHEDDING.key 0 n 512 0, Obj.READY_STATION.key 0 0 512 n,
    Obj.PASR_KEEP_EIGHTHS.key n 0 512 0, Obj.SETTINGS_STATE.key 0 0 512 0, Obj.MEM_STATE.key n 0 512 0,
    Obj.STATION_STATE.key n 0 512 0, Obj.STATION_STATE_TIME.key n 0 512 0] ++ logKeys n

/-- All objects that it may write. -/
def sleepKeys (n : Nat) : List OKey := creditKeys n ++ sleepRowKeys n

theorem mem_sleepKeys {k : OKey} {n : Nat} (h : k ∈ sleepRowKeys n) : k ∈ sleepKeys n := List.mem_append_right _ h

/-- The states of the engines behind the rasterizer are none of them. -/
theorem not_mem_sleepKeys {r : ObjRow} (hst : r.station = true) (hlow : 0x2000 ≤ r.idx) (hhigh : r.idx < 0x7000) (n : Nat) :
    r.key n 0 512 0 ∉ sleepKeys n := by
  have hrows : ∀ k ∈ sleepRowKeys n, k.area < 8 ∨ k.idx < 0x2000 ∨ 0x7000 ≤ k.idx := by
    simp [sleepRowKeys, logKeys, ObjRow.key, Obj.TRANSLATIONS_PENDING, Obj.JOBS_DEFERRED, Obj.RASTER_STATE, Obj.SHADER_CLOCK_MHZ,
      Obj.WEIR_DIVISOR, Obj.SHEDDING, Obj.READY_STATION, Obj.PASR_KEEP_EIGHTHS, Obj.SETTINGS_STATE, Obj.MEM_STATE, Obj.STATION_STATE,
      Obj.STATION_STATE_TIME, Obj.STATION_LOG_ITEMS, Obj.STATION_LOG_LOST]
  have hfar : ∀ k ∈ sleepKeys n, k.area < 8 ∨ k.idx < 0x2000 ∨ 0x7000 ≤ k.idx := by
    intro k hk
    rcases List.mem_append.1 hk with hcredit | hk
    · obtain ⟨t, -, hk⟩ := List.mem_flatMap.1 hcredit
      simp only [List.mem_cons, List.not_mem_nil, or_false] at hk
      rcases hk with rfl | rfl <;> exact .inl (show (1 : Nat) < 8 by decide)
    · exact hrows k hk
  intro hmem
  have hkey := hfar _ hmem
  simp only [ObjRow.key, hst, if_true] at hkey
  omega

/-- A write of one of the rows. -/
theorem SameObjectsBut.thenWr {s t : State} {m : Nat} (h : SameObjectsBut s t (sleepKeys m)) {r : ObjRow} {v : Int} {n i q j : Nat}
    (hs : r.saved = false) (hk : r.key n i q j ∈ sleepRowKeys m) : SameObjectsBut s (t.wr r v n i q j) (sleepKeys m) :=
  h.trans (.wr t r v n i q j hs (mem_sleepKeys hk))

theorem State.dropCredit_sleepKeys (s : State) (n t : Nat) (ht : t ∈ tenants) : SameObjectsBut s (s.dropCredit n t) (sleepKeys n) := by
  have hmem : ∀ k ∈ [Obj.CREDIT_UJ.key 0 n t 0, Obj.RESERVED_UJ.key 0 n t 0], k ∈ sleepKeys n := fun k hk =>
    List.mem_append_left _ (List.mem_flatMap.2 ⟨t, ht, hk⟩)
  exact (SameObjectsBut.wr s Obj.CREDIT_UJ 0 0 n t 0 rfl (hmem _ (by simp))).trans (.wr _ Obj.RESERVED_UJ 0 0 n t 0 rfl (hmem _ (by simp)))

theorem State.syncRaster_sleepKeys (s : State) (n : Nat) : SameObjectsBut s (s.syncRaster n) (sleepKeys n) := by
  have hdeferred : SameObjectsBut s (s.wr Obj.JOBS_DEFERRED (((s.ras n).jobs.filter fun j => j.phase = .deferred).length : Nat) n)
    (sleepKeys n) := (SameObjectsBut.refl s _).thenWr rfl (by simp [sleepRowKeys])
  unfold State.syncRaster
  dsimp only
  split
  · exact hdeferred.thenWr rfl (by simp [sleepRowKeys])
  · exact hdeferred

/-- A rasterizer without jobs drops the credit of its tenants as it leaves RUNNING (R72). -/
theorem State.rasterLeave_sleepKeys {s : State} {n : Nat} (h : (s.ras n).jobs = []) : SameObjectsBut s (s.rasterLeave n) (sleepKeys n) := by
  have hnone : (s.each ((s.ras n).jobs.filter Job.live) fun s j => s.endJob n j.key csNotRunning) = s := by rw [h]; rfl
  have hdrop (u : State) : SameObjectsBut u (u.each tenants fun s t => s.dropCredit n t) (sleepKeys n) :=
    .each tenants fun v t ht => v.dropCredit_sleepKeys n t ht
  have hcredit (u : State) (hu : u.regs = s.regs) : SameObjectsBut s (u.each tenants fun s t => s.dropCredit n t) (sleepKeys n) :=
    (SameObjectsBut.of_regs _ hu).trans (hdrop u)
  unfold State.rasterLeave
  rw [hnone]
  refine (SameObjectsBut.thenWr (hcredit _ ?_) rfl (by simp [sleepRowKeys])).trans (State.syncRaster_sleepKeys _ n)
  rfl

theorem State.energyOff_sleepKeys (s : State) (n : Nat) : SameObjectsBut s (s.energyOff n) (sleepKeys n) := by
  unfold State.energyOff
  refine ((SameObjectsBut.thenWr ?_ rfl ?_).thenWr rfl ?_).thenWr rfl ?_
  · exact .of_regs _ rfl
  all_goals simp [sleepRowKeys]

/-- What a station without jobs and with its haptic driver OFF writes as it leaves RUNNING (R32). -/
theorem State.leaveRunning_sleepKeys {s : State} {n : Nat} (hjobs : (s.ras n).jobs = []) (hhaptic : s.hapState n = haOff) (rs : Nat) :
    SameObjectsBut s (s.leaveRunning n rs) (sleepKeys n) := by
  have hdown : SameObjectsBut s ((s.rasterLeave n).energyOff n) (sleepKeys n) :=
    (State.rasterLeave_sleepKeys hjobs).trans (State.energyOff_sleepKeys _ n)
  unfold State.leaveRunning
  generalize (s.rasterLeave n).energyOff n = u at *
  have hoff : u.hapticOff n = u := by
    unfold State.hapticOff
    refine if_pos ?_
    rw [State.hapState, hdown.rdN (not_mem_sleepKeys rfl (by decide) (by decide) n)]
    exact hhaptic
  have hleft : SameObjectsBut s (if s.stationState n = stRunning then u.hapticOff n else s) (sleepKeys n) := by
    rw [hoff]
    split
    · exact hdown
    · exact .refl _ _
  exact (hleft.thenWr rfl (by simp [sleepRowKeys])).thenWr rfl (by simp [sleepRowKeys])

theorem State.toStationLog_sleepKeys (s : State) (n : Nat) (r : Rec) : SameObjectsBut s (s.toStationLog n r) (sleepKeys n) := by
  have hitems (q : EvQueue Rec) (v : Int) :
      SameObjectsBut s (({ s with stationLogQ := s.stationLogQ.put n q } : State).wr Obj.STATION_LOG_ITEMS v 0 n) (sleepKeys n) :=
    SameObjectsBut.thenWr (.of_regs _ rfl) rfl (by simp [sleepRowKeys, logKeys])
  unfold State.toStationLog
  dsimp only
  split
  · exact (hitems _ _).thenWr rfl (by simp [sleepRowKeys, logKeys])
  · exact hitems _ _

theorem State.setMem_sleepKeys (s : State) (n v : Nat) : SameObjectsBut s (s.setMem n v) (sleepKeys n) := by
  unfold State.setMem State.stReady
  exact ((SameObjectsBut.refl s _).thenWr rfl (by simp [sleepRowKeys])).thenWr rfl (by simp [sleepRowKeys])

/-- The memory's entry of self-refresh (R346, R347). -/
theorem State.enterSelfRefresh_sleepKeys (s : State) (n : Nat) : SameObjectsBut s (s.enterSelfRefresh n) (sleepKeys n) := by
  have hkeep (v : Int) (r : Rec) : SameObjectsBut s ((s.wr Obj.PASR_KEEP_EIGHTHS v n).toStationLog n r) (sleepKeys n) :=
    (SameObjectsBut.wrSaved s Obj.PASR_KEEP_EIGHTHS v n 0 512 0 (mem_sleepKeys (by simp [sleepRowKeys]))
      (mem_sleepKeys (by simp [sleepRowKeys]))).trans (State.toStationLog_sleepKeys _ n r)
  unfold State.enterSelfRefresh
  refine SameObjectsBut.trans (.trans ?_ (.of_regs _ (State.regs_setMmc _ _ _))) (State.setMem_sleepKeys _ n 3)
  split
  · exact hkeep _ _
  · exact .refl _ _

theorem State.setStation_sleepKeys (s : State) (n v : Nat) : SameObjectsBut s (s.setStation n v) (sleepKeys n) := by
  unfold State.setStation
  exact (SameObjectsBut.thenWr (.of_regs _ (State.regs_setCtl _ _ _)) rfl (by simp [sleepRowKeys])).thenWr rfl (by simp [sleepRowKeys])

/-- A display engine that is OFF and changes no mode goes to sleep without a write. -/
theorem State.regs_outputSleep {s : State} {n : Nat} (hmode : ((s.dsp n).modePending || (s.dsp n).modeHeld) = false)
    (hoff : s.output n = outOff) : (s.outputSleep n).regs = s.regs := by
  have hcv := (State.cvSourceLost_frame s (16 + n) (.refl _) (.refl _ s)).regs (by decide)
  have hstop : (s.stopTiming n).regs = s.regs := by
    simp only [State.stopTiming, hmode, Bool.false_eq_true, if_false, State.regs_setGrd, State.regs_setCmp, State.regs_setDsp]
    split
    · exact hcv
    · rfl
  unfold State.outputSleep
  generalize s.stopTiming n = u at *
  have hheld (d : Display) : (u.setDsp n d).output n = outOff := by
    rw [State.output, State.rdN, State.rd_of_regs ((State.regs_setDsp u n d).trans hstop)]
    exact hoff
  dsimp only
  rw [if_pos (hheld _)]
  exact hstop

/-- The engines of a station are off, and its display engine changes no mode. -/
structure EnginesOff (s : State) (n : Nat) : Prop where
  jobs : (s.ras n).jobs = []
  haptic : s.hapState n = haOff
  audio : s.audioState n = auOff
  touch : s.touchState n = toOff
  output : s.output n = outOff
  mode : ((s.dsp n).modePending || (s.dsp n).modeHeld) = false

theorem State.touchSleep_of_off {s : State} {n : Nat} (h : s.touchState n = toOff) : s.touchSleep n = s := by
  have hoff : toOff ≠ toScanning ∧ toOff ≠ toCalibrating := by decide
  simp only [State.touchSleep, h, hoff, if_false]

theorem State.setCompose_of_source {s : State} {n v : Nat} (h : s.rdN Obj.COMPOSE_SOURCE n = v) : s.setCompose n v = s := by
  simp only [State.setCompose, h, if_true]

/-- Once RUNNING is left with every engine off, the entry of SLEEP is that of the memory and the report. -/
theorem State.enterSleep_of_off {s : State} {n : Nat} (haudio : (s.leaveRunning n 0).audioState n = auOff)
    (htouch : (s.leaveRunning n 0).touchState n = toOff)
    (hdark : ((s.leaveRunning n 0).outputSleep n).rdN Obj.COMPOSE_SOURCE n = 0) :
    s.enterSleep n = ((((s.leaveRunning n 0).outputSleep n).enterSelfRefresh n).stopMove n).setStation n stSleep := by
  simp only [State.enterSleep, State.enterSleepWith, haudio, if_true, State.touchSleep_of_off htouch, State.setCompose_of_source hdark]

theorem State.stopMove_sleepKeys (s : State) (n : Nat) : SameObjectsBut s (s.stopMove n) (sleepKeys n) :=
  .of_regs _ (State.regs_setCtl _ _ _)

/-- Where `COMPOSE_SOURCE` reads 0 as a natural number, the entry of SLEEP of such a station leaves it (R29). -/
theorem State.composeSource_enterSleep {s : State} {n : Nat} (h : EnginesOff s n) (hsource : s.rdN Obj.COMPOSE_SOURCE n = 0) :
    (s.enterSleep n).rd Obj.COMPOSE_SOURCE n = s.rd Obj.COMPOSE_SOURCE n := by
  have hleave := State.leaveRunning_sleepKeys h.jobs h.haptic 0
  have hdisp : (s.leaveRunning n 0).disp = s.disp := (State.leaveRunning_frame s n 0 (.refl _) (.refl _ s)).disp (by decide)
  have hsame {r : ObjRow} (hst : r.station = true) (hlow : 0x2000 ≤ r.idx) (hhigh : r.idx < 0x7000) :
    (s.leaveRunning n 0).rdN r n = s.rdN r n := hleave.rdN (not_mem_sleepKeys hst hlow hhigh n)
  have haudio : (s.leaveRunning n 0).audioState n = auOff := (hsame rfl (by decide) (by decide)).trans h.audio
  have htouch : (s.leaveRunning n 0).touchState n = toOff := (hsame rfl (by decide) (by decide)).trans h.touch
  have houtput : (s.leaveRunning n 0).output n = outOff := (hsame rfl (by decide) (by decide)).trans h.output
  have hmode : (((s.leaveRunning n 0).dsp n).modePending || ((s.leaveRunning n 0).dsp n).modeHeld) = false := by
    rw [State.dsp, hdisp]
    exact h.mode
  have hslept : SameObjectsBut s ((s.leaveRunning n 0).outputSleep n) (sleepKeys n) :=
    hleave.trans (.of_regs _ (State.regs_outputSleep hmode houtput))
  have hdark := (hslept.rdN (not_mem_sleepKeys rfl (by decide) (by decide) n)).trans hsource
  rw [State.enterSleep_of_off haudio htouch hdark]
  have hrefreshed := hslept.trans (State.enterSelfRefresh_sleepKeys _ n)
  have hstopped := hrefreshed.trans (State.stopMove_sleepKeys _ n)
  exact (hstopped.trans (State.setStation_sleepKeys _ n stSleep)).rd (not_mem_sleepKeys rfl (by decide) (by decide) n)

end Sys2Proof.Machine

/-! A state of a station whose `COMPOSE_SOURCE` is below its range: the dictionary keeps integers, and the compositor compares naturals. -/
namespace Sys2Proof.Machine

/-- Station 0 runs, its memory is READY, it is on its way to SLEEP, and its `COMPOSE_SOURCE` holds -1. -/
def sourceBelowRange : State :=
  { State.reset with
    regs := [(Obj.STATION_STATE.key 0 0 512 0, stRunning), (Obj.MEM_STATE.key 0 0 512 0, 2), (Obj.COMPOSE_SOURCE.key 0 0 512 0, -1)]
    stn := [(0, { moving := some true })] }

/-- The entry of SLEEP ends where its memory is quiet and no wake was asked for meanwhile (R29, R33). -/
theorem exec_sleepEntryDone {s : State} {n : Fin 8} (hmove : (s.ctl n).moving = some true) (hother : (s.ctl n).thenOther = false)
    (hrun : s.stationState n = stRunning) (hquiet : s.memoryQuiet n = true) : exec (.sleepEntryDone n) s = .next (s.enterSleep n) := by
  change execSleepEntryDone n s = _
  simp only [execSleepEntryDone, hmove, hother, hrun, hquiet, decide_true, Bool.and_self, if_true, Bool.false_eq_true, if_false]

/-- Refutes O5: the entry of SLEEP ends with `COMPOSE_SOURCE` at 0 only where it held no negative number, which no hypothesis excludes. -/
theorem not_stationsChangeState : ¬ Obligations.StationsChangeState := by
  unfold Obligations.StationsChangeState
  rintro ⟨-, -, -, -, -, hsleep, -⟩
  have hmove : (sourceBelowRange.ctl (0 : Fin 8)).moving = some true := rfl
  have hother : (sourceBelowRange.ctl (0 : Fin 8)).thenOther = false := rfl
  have hrun : sourceBelowRange.stationState (0 : Fin 8) = stRunning := rfl
  have hquiet : sourceBelowRange.memoryQuiet (0 : Fin 8) = true := by decide
  have hengines : EnginesOff sourceBelowRange (0 : Fin 8) := ⟨rfl, rfl, rfl, rfl, rfl, rfl⟩
  have hnegative : sourceBelowRange.rd Obj.COMPOSE_SOURCE (0 : Fin 8) = -1 := rfl
  have hzero : sourceBelowRange.rdN Obj.COMPOSE_SOURCE (0 : Fin 8) = 0 := rfl
  obtain ⟨t, ht, -, -, hsource, -⟩ := hsleep sourceBelowRange 0 hmove hother hrun hquiet
  rw [exec_sleepEntryDone hmove hother hrun hquiet, Host.Outcome.next.injEq] at ht
  rw [← ht, State.composeSource_enterSleep hengines hzero, hnegative] at hsource
  exact absurd hsource (by decide)

end Sys2Proof.Machine

/-! The job table: what a job replaced in place leaves of the table and of the reads of jobs (R43, R48, R69). -/
namespace Sys2Proof.Machine

/-- A job of the table that is replaced under its key is found there. -/
theorem State.job?_setJob_self {s : State} {n key : Nat} {j k : Job} (hj : s.job? n key = some j) (hk : k.key = key) :
    (s.setJob n k).job? n key = some k := by
  rw [State.job?_setJob, if_pos hk.symm, hj, Option.map_some]

theorem State.ras_setJob_cache (s : State) (n : Nat) (k : Job) : ((s.setJob n k).ras n).cache = (s.ras n).cache := by
  simp [State.setJob]

theorem State.pipeOf_setJob (s : State) (n : Nat) (k j : Job) (h : Nat) : (s.setJob n k).pipeOf n j h = s.pipeOf n j h := by
  simp only [State.pipeOf, State.ras_setJob_cache]

/-- What a job reads of memory does not depend on the table. -/
theorem State.jobRead_setJob (s : State) (m : Nat) (k : Job) (n t a len : Nat) :
    (s.setJob m k).jobRead n t a len = s.jobRead n t a len := rfl

theorem State.readSet_setJob (s : State) (m : Nat) (k : Job) (n t : Nat) (o : SetOperand) :
    (s.setJob m k).readSet n t o = s.readSet n t o := rfl

theorem State.readPush_setJob (s : State) (m : Nat) (k : Job) (n t : Nat) (p : Nat × Nat) :
    (s.setJob m k).readPush n t p = s.readPush n t p := rfl

/-- A table in which a job stands keeps it, in what it names and has been given, while what follows from the table follows. -/
theorem State.keepsJob_settle {s : State} {n key : Nat} {j : Job} (h : s.job? n key = some j) : (s.settle n).keepsJob n key j := by
  rw [State.keepsJob, (SameJobs.refl n s).settle key, h, Option.map_some]

end Sys2Proof.Machine

/-! Draw lists: a command read while a job is bound (R48, R52, R59, R69). -/
namespace Sys2Proof.Machine

/-- The job after a command of its draw list: it stands at the next one, or at the end of the list (R48). -/
def Job.nextCommand (j : Job) : Job :=
  { j with draw := { j.draw with offset := j.draw.offset + 32, ended := decide (j.drawSize ≤ j.draw.offset + 32) } }

theorem State.job?_of_binding {s : State} {n key : Nat} {j : Job} (h : s.binding n key = some j) : s.job? n key = some j := by
  unfold State.binding at h
  split at h
  · next k hk => split at h <;> simp_all
  · simp at h

/-- The command of a bound job's draw list whose opcode is the one given has its effect (R48). -/
theorem State.drawCommand_of_opcode {s u : State} {n key op : Nat} {j : Job} {b : Bytes} {f : Bytes → Job → State → Option State}
    (hbind : s.binding n key = some j) (hread : s.jobRead n j.tenant (j.drawAddr + j.draw.offset) 32 = some b) (hop : byteAt b 0 = op)
    (hknown : op ≤ 10) (heffect : f b j.nextCommand (s.setJob n j.nextCommand) = some u) : s.drawCommand n key op f = u.settle n := by
  have hlisted : ¬ 0x0A < op := by omega
  simp only [Job.nextCommand] at heffect
  simp [State.drawCommand, hbind, hread, hop, hlisted, heffect]

/-- A command of the draw list that replaces the job in place leaves it in what it names and has been given. -/
theorem drawCommand_completes {c : Instr} {s : State} {n key op : Nat} {j k : Job} {b : Bytes} {f : Bytes → Job → State → Option State}
    (hexec : exec c s = .next (s.drawCommand n key op f)) (hbind : s.binding n key = some j)
    (hread : s.jobRead n j.tenant (j.drawAddr + j.draw.offset) 32 = some b) (hop : byteAt b 0 = op) (hknown : op ≤ 10)
    (heffect : f b j.nextCommand (s.setJob n j.nextCommand) = some ((s.setJob n j.nextCommand).setJob n k)) (hkey : k.key = j.key) :
    Completes c s fun t => t.keepsJob n key k := by
  have hjob := State.job?_of_binding hbind
  have hj : j.key = key := State.job?_key hjob
  have hnext : (s.setJob n j.nextCommand).job? n key = some j.nextCommand := State.job?_setJob_self hjob hj
  refine ⟨_, hexec, ?_⟩
  rw [State.drawCommand_of_opcode hbind hread hop hknown heffect]
  exact State.keepsJob_settle (State.job?_setJob_self hnext (hkey.trans hj))

/-- The entry a job uses for a handle depends on its tenant and its key (R55). -/
theorem State.pipeOf_congr (s : State) (n : Nat) {j k : Job} (h : Nat) (htenant : k.tenant = j.tenant) (hkey : k.key = j.key) :
    s.pipeOf n k h = s.pipeOf n j h := by
  simp only [State.pipeOf, htenant, hkey]

/-- The job after draws of `p` primitives by the pipeline of a handle (R59). -/
def Job.drawn (j : Job) (h p : Nat) : Job :=
  { j with draw := { j.draw with offset := j.draw.offset + 32, ended := decide (j.drawSize ≤ j.draw.offset + 32),
                                 nextSeq := j.draw.nextSeq + p,
                                 runs := j.draw.runs ++ (if p = 0 then [] else [⟨j.draw.nextSeq, p, h⟩]) } }

theorem Job.given_draws {j : Job} {h : Nat} (hpipe : j.draw.pipeline = some h) (p : Nat) :
    (j.nextCommand.draws p).given = (j.drawn h p).given := by
  simp [Job.given, Job.draws, Job.nextCommand, Job.drawn, hpipe]

/-- Draws of a bound pipeline whose indices, where they have any, can be read give their primitives to the binner (R48, R59, R69). -/
theorem State.issue_of_pipeline {s : State} {n h : Nat} {j : Job} {e : CacheEntry} {indexed : Bool} {l : List DrawArgs}
    (hpipe : j.draw.pipeline = some h) (hentry : s.pipeOf n j h = some e)
    (hindices : indexed = true → ∃ x, j.draw.index = some x ∧ ∀ a ∈ l, s.indicesRead n j a = some true) :
    s.issue n j indexed l = some (s.setJob n (j.draws ((l.map fun a => primsOf e.fixed.topology a.count * a.instances).sum))) := by
  have hbound : j.draw.pipeline.bind (s.pipeOf n j) = some e := by rw [hpipe, Option.bind_some, hentry]
  unfold State.issue
  rw [hbound]
  cases indexed with
  | false => rfl
  | true =>
    obtain ⟨x, hx, hread⟩ := hindices rfl
    have hnone : (l.any fun a => s.indicesRead n j a = some false) = false := by
      rw [List.any_eq_false]
      intro a ha
      simp [hread a ha]
    simp [hx, hnone]

/-- The indices of a draw whose range of the bound index buffer can be read. -/
theorem State.indicesRead_of_read {s : State} {n addr size w : Nat} {j : Job} {a : DrawArgs} (hindex : j.draw.index = some (addr, size, w))
    (hread : (s.jobRead n j.tenant (addr + a.first * (w / 8)) (a.count * (w / 8))).isSome = true) : s.indicesRead n j a = some true := by
  simp [State.indicesRead, hindex, hread]

/-- A draw command keeps the job but for the submission sequences of its primitives. -/
theorem issue_completes {c : Instr} {s : State} {n key op h p : Nat} {j : Job} {b : Bytes} {e : CacheEntry} {indexed : Bool} {l : List DrawArgs}
    {f : Bytes → Job → State → Option State} (hexec : exec c s = .next (s.drawCommand n key op f)) (hbind : s.binding n key = some j)
    (hread : s.jobRead n j.tenant (j.drawAddr + j.draw.offset) 32 = some b) (hop : byteAt b 0 = op) (hknown : op ≤ 10)
    (heffect : f b j.nextCommand (s.setJob n j.nextCommand) = (s.setJob n j.nextCommand).issue n j.nextCommand indexed l)
    (hpipe : j.draw.pipeline = some h) (hentry : s.pipeOf n j h = some e)
    (hindices : indexed = true → ∃ addr size w, j.draw.index = some (addr, size, w) ∧
      ∀ a ∈ l, (s.jobRead n j.tenant (addr + a.first * (w / 8)) (a.count * (w / 8))).isSome = true)
    (hprims : p = (l.map fun a => primsOf e.fixed.topology a.count * a.instances).sum) :
    Completes c s fun t => t.keepsJob n key (j.drawn h p) := by
  subst hprims
  have hissue := State.issue_of_pipeline (s := s.setJob n j.nextCommand) (n := n) (j := j.nextCommand) (indexed := indexed) (l := l) hpipe
    ((State.pipeOf_setJob s n j.nextCommand j.nextCommand h).trans ((State.pipeOf_congr s n h rfl rfl).trans hentry)) (fun hi => by
      obtain ⟨addr, size, w, hindex, hl⟩ := hindices hi
      exact ⟨_, hindex, fun a ha => State.indicesRead_of_read hindex ((congrArg _ (State.jobRead_setJob ..)).trans (hl a ha))⟩)
  obtain ⟨t, ht, hkeeps⟩ := drawCommand_completes hexec hbind hread hop hknown (heffect.trans hissue) rfl
  exact ⟨t, ht, hkeeps.trans (congrArg some (Job.given_draws hpipe _))⟩

/-- Settles O8: each command of a draw list is its effect on the bound job, which keeps all else while the table settles. -/
theorem drawListsBindState : Obligations.DrawListsBindState := by
  unfold Obligations.DrawListsBindState
  refine ⟨?drawEnd, ?pipeline, ?set, ?push, ?vertex, ?index, ?draw, ?drawIndexed, ?indirect, ?indirectIndexed, ?viewport, ?scissor⟩
  case drawEnd =>
    intro s n key j b hbind hread hop
    exact drawCommand_completes rfl hbind hread hop (by decide) rfl rfl
  case pipeline =>
    intro s n key j b hbind hread hop hloaded
    obtain ⟨e, he⟩ := Option.isSome_iff_exists.mp hloaded
    have hpipe : (s.setJob n j.nextCommand).pipeOf n j.nextCommand (fieldLE b 4 4) = some e :=
      (State.pipeOf_setJob ..).trans ((State.pipeOf_congr s n _ rfl rfl).trans he)
    refine drawCommand_completes rfl hbind hread hop (by decide) ?_ rfl
    simp only [hpipe]
    rfl
  case set =>
    intro s n key j b es hbind hread hop hset hentries
    refine drawCommand_completes rfl hbind hread hop (by decide) ?_ rfl
    have htable : (s.setJob n j.nextCommand).readSet n j.nextCommand.tenant ⟨byteAt b 4, fieldLE b 5 8, fieldLE b 13 2⟩ = .got es :=
      (State.readSet_setJob ..).trans hentries
    simp only [htable, Nat.not_lt.mpr hset, if_false]
    rfl
  case push =>
    intro s n key j b hbind hread hop hmin hmax hdata
    refine drawCommand_completes rfl hbind hread hop (by decide) ?_ rfl
    have hpush : (s.setJob n j.nextCommand).readPush n j.nextCommand.tenant (fieldLE b 4 8, fieldLE b 12 2)
        = .got (fieldLE b 4 8, fieldLE b 12 2) := by
      refine (State.readPush_setJob ..).trans ?_
      rw [State.readPush, if_neg (Nat.not_lt.mpr hmax), if_neg (by simpa [Job.nextCommand] using Option.isSome_iff_ne_none.mp hdata)]
    simp only [hpush, Nat.not_lt.mpr hmin, if_false]
    rfl
  case vertex =>
    intro s n key j b hbind hread hop hslot
    refine drawCommand_completes rfl hbind hread hop (by decide) ?_ rfl
    simp only [Nat.not_lt.mpr hslot, if_false]
    rfl
  case index =>
    intro s n key j b hbind hread hop hwidth
    refine drawCommand_completes rfl hbind hread hop (by decide) ?_ rfl
    have hw : (byteAt b 16 ≠ 16 && byteAt b 16 ≠ 32) = false := by rcases hwidth with h | h <;> simp [h]
    simp only [hw]
    rfl
  case draw =>
    intro s n key j b h p e hbind hread hop hpipe hentry hp
    exact issue_completes (indexed := false) (l := [drawArgs b 4]) rfl hbind hread hop (by decide) rfl hpipe hentry (by simp)
      (by simpa [drawArgs] using hp)
  case drawIndexed =>
    intro s n key j b h p e a c w hbind hread hop hpipe hentry hindex hindices hp
    exact issue_completes (indexed := true) (l := [drawArgs b 4]) rfl hbind hread hop (by decide) rfl hpipe hentry
      (fun _ => ⟨a, c, w, hindex, by simpa [drawArgs] using hindices⟩) (by simpa [drawArgs] using hp)
  case indirect =>
    intro s n key j b h p e args hbind hread hop hflag hargs hpipe hentry hp
    refine issue_completes (indexed := false) (l := (List.range (fieldLE b 12 4)).map fun k => drawArgs args (16 * k)) rfl hbind hread hop
      (by decide) ?_ hpipe hentry (by simp) (by simpa [drawArgs, Function.comp_def] using hp)
    have hbuffer : (s.setJob n j.nextCommand).jobRead n j.nextCommand.tenant (fieldLE b 4 8) (fieldLE b 12 4 * 16) = some args :=
      (State.jobRead_setJob ..).trans hargs
    simp [hflag, hbuffer]
  case indirectIndexed =>
    intro s n key j b h p e a c w args hbind hread hop hflag hargs hpipe hentry hindex hindices hp
    refine issue_completes (indexed := true) (l := (List.range (fieldLE b 12 4)).map fun k => drawArgs args (20 * k)) rfl hbind hread hop
      (by decide) ?_ hpipe hentry (fun _ => ⟨a, c, w, hindex, by simpa [drawArgs] using hindices⟩)
      (by simpa [drawArgs, Function.comp_def] using hp)
    have hbuffer : (s.setJob n j.nextCommand).jobRead n j.nextCommand.tenant (fieldLE b 4 8) (fieldLE b 12 4 * 20) = some args :=
      (State.jobRead_setJob ..).trans hargs
    simp [hflag, hbuffer]
  case viewport =>
    intro s n key j b hbind hread hop
    exact drawCommand_completes rfl hbind hread hop (by decide) rfl rfl
  case scissor =>
    intro s n key j b hbind hread hop
    exact drawCommand_completes rfl hbind hread hop (by decide) rfl rfl

end Sys2Proof.Machine

/-! What leaves a station's count of completed jobs as it is (R44, R73): the scheduler, what it writes of memory and what follows of that. -/
namespace Sys2Proof.Machine

/-- The active copy of a station's `JOBS_COMPLETED` is the same. -/
def SameCompleted (n : Nat) (s t : State) : Prop :=
  t.regs.find (Obj.JOBS_COMPLETED.key n 0 512 0) = s.regs.find (Obj.JOBS_COMPLETED.key n 0 512 0)

theorem SameCompleted.refl (n : Nat) (s : State) : SameCompleted n s s := rfl

theorem SameCompleted.trans {n : Nat} {a b c : State} (h : SameCompleted n a b) (k : SameCompleted n b c) : SameCompleted n a c :=
  Eq.trans k h

theorem SameCompleted.rd {n : Nat} {s t : State} (h : SameCompleted n s t) : t.rd Obj.JOBS_COMPLETED n = s.rd Obj.JOBS_COMPLETED n := by
  simp only [State.rd, show t.regs.find _ = s.regs.find _ from h]

theorem SameCompleted.rdN {n : Nat} {s t : State} (h : SameCompleted n s t) : t.rdN Obj.JOBS_COMPLETED n = s.rdN Obj.JOBS_COMPLETED n := by
  simp only [State.rdN, h.rd]

theorem SameCompleted.ofFrame {n : Nat} {ps : List Part} {a b c : State} (hf : Frame ps b c) (hp : .objects ∉ ps) (h : SameCompleted n a b) :
    SameCompleted n a c := h.trans (by rw [SameCompleted, hf.regs hp])

theorem SameCompleted.each {α : Type} {n : Nat} {a : State} {l : List α} {f : State → α → State}
    (hf : ∀ s x, SameCompleted n a s → SameCompleted n a (f s x)) (s : State) (h : SameCompleted n a s) : SameCompleted n a (s.each l f) := by
  unfold State.each
  induction l generalizing s with
  | nil => exact h
  | cons x l ih => exact ih _ (hf s x h)

theorem SameCompleted.ite {n : Nat} {a b c : State} {p : Prop} [Decidable p] (hb : SameCompleted n a b) (hc : SameCompleted n a c) :
    SameCompleted n a (if p then b else c) := by split <;> assumption

section Writes
variable {m : Nat} {a s : State}

/-- A write of an object outside the station areas. -/
theorem SameCompleted.wrDevice {r : ObjRow} (v : Int) (n i t j : Nat) (hr : r.saved = false ∧ r.station = false ∧ r.area < 8)
    (h : SameCompleted m a s) : SameCompleted m a (s.wr r v n i t j) := by
  obtain ⟨hsaved, hstation, harea⟩ := hr
  refine h.trans ?_
  rw [SameCompleted, State.wr_find s r v n i t j _ (.inl hsaved), if_neg]
  simp only [ObjRow.key, hstation, Obj.JOBS_COMPLETED, OKey.mk.injEq, Bool.false_eq_true, if_false, if_true]
  omega

/-- A write of an object of another index. -/
theorem SameCompleted.wrStation {r : ObjRow} (v : Int) (n t j : Nat) (hr : r.saved = false ∧ r.idx ≠ Obj.JOBS_COMPLETED.idx)
    (h : SameCompleted m a s) : SameCompleted m a (s.wr r v n 0 t j) := by
  obtain ⟨hsaved, hidx⟩ := hr
  refine h.trans ?_
  rw [SameCompleted, State.wr_find s r v n 0 t j _ (.inl hsaved), if_neg]
  simp only [ObjRow.key, OKey.mk.injEq]
  omega

theorem SameCompleted.countDevice {r : ObjRow} (n i t j k : Nat) (hr : r.saved = false ∧ r.station = false ∧ r.area < 8)
    (h : SameCompleted m a s) : SameCompleted m a (s.count r n i t j k) := .wrDevice _ _ _ _ _ hr h

theorem SameCompleted.countStation {r : ObjRow} (n t j k : Nat) (hr : r.saved = false ∧ r.idx ≠ Obj.JOBS_COMPLETED.idx)
    (h : SameCompleted m a s) : SameCompleted m a (s.count r n 0 t j k) := .wrStation _ _ _ _ hr h

theorem SameCompleted.setRas (n : Nat) (v : Raster) (h : SameCompleted m a s) : SameCompleted m a (s.setRas n v) := h.trans rfl

theorem SameCompleted.setJob (n : Nat) (k : Job) (h : SameCompleted m a s) : SameCompleted m a (s.setJob n k) := h.trans rfl

theorem SameCompleted.setCore (n i : Nat) (c : ShaderCore) (h : SameCompleted m a s) : SameCompleted m a (s.setCore n i c) := h.trans rfl

theorem SameCompleted.setCvu (u : Nat) (c : CvUnit) (h : SameCompleted m a s) : SameCompleted m a (s.setCvu u c) := h.trans rfl

theorem SameCompleted.updJob (n key : Nat) (f : Job → Job) (h : SameCompleted m a s) : SameCompleted m a (s.updJob n key f) :=
  .ofFrame (State.updJob_frame s n key f (List.Subset.refl _) (.refl _ _)) (by decide) h

/-! Check-value units that see a write of station memory, and the notification of a run's end (R484, R597, R604). -/

theorem SameCompleted.toTenant (t : Nat) (r : Rec) (h : SameCompleted m a s) : SameCompleted m a (s.toTenant t r) := by
  unfold State.toTenant State.countTenantItems
  refine .wrDevice _ _ _ _ _ (by decide) (.wrDevice _ _ _ _ _ (by decide) (.ite (.countDevice _ _ _ _ _ (by decide) ?_) ?_))
  all_goals exact h

theorem SameCompleted.toEnclave (e : Nat) (r : Rec) (h : SameCompleted m a s) : SameCompleted m a (s.toEnclave e r) := by
  unfold State.toEnclave
  refine .ite (.ite (.countDevice _ _ _ _ _ (by decide) ?_) ?_) h
  all_goals exact h

theorem SameCompleted.resultReady (k : OKey) (v : ResultSt) (h : SameCompleted m a s) : SameCompleted m a (s.resultReady k v) := by
  unfold State.resultReady
  dsimp only
  split
  exacts [.toTenant _ _ h, .toEnclave _ _ h, h, h, h, h]

theorem SameCompleted.completeResult (r : ObjRow) (outcome n i t : Nat) (h : SameCompleted m a s) :
    SameCompleted m a (s.completeResult r outcome n i t) := .resultReady _ _ (h.trans rfl)

theorem SameCompleted.startResult (r : ObjRow) (who : Requester) (n i t : Nat) (h : SameCompleted m a s) :
    SameCompleted m a (s.startResult r who n i t) := h.trans rfl

theorem SameCompleted.cvComplete (u : Nat) (h : SameCompleted m a s) : SameCompleted m a (s.cvComplete u) := by
  unfold State.cvComplete
  dsimp only
  split
  · exact h
  · have hvalue (v b g : Int) :
        SameCompleted m a (((s.wr Obj.CV_VALUE v 0 u).wr Obj.CV_RUN_BYTES b 0 u).wr Obj.CV_RUN_TAG g 0 u) :=
      .wrDevice _ _ _ _ _ (by decide) (.wrDevice _ _ _ _ _ (by decide) (.wrDevice _ _ _ _ _ (by decide) h))
    have hcount (outcome : Nat) {x : State} (hx : SameCompleted m a x) :
        SameCompleted m a ((x.completeResult Obj.CV_VALUE outcome 0 u).count Obj.CV_RUNS 0 u) :=
      .countDevice _ _ _ _ _ (by decide) (.completeResult _ _ _ _ _ hx)
    refine .ite ?_ (.setCvu _ _ (hcount _ (.ite (hvalue _ _ _) h)))
    split
    · exact .startResult _ _ _ _ _ (.setCvu _ _ (hcount _ (.ite (hvalue _ _ _) h)))
    · exact .setCvu _ _ (hcount _ (.ite (hvalue _ _ _) h))

theorem SameCompleted.cvStart (u tag : Nat) (h : SameCompleted m a s) : SameCompleted m a (s.cvStart u tag) :=
  .ite (.setCvu _ _ (.cvComplete _ h)) (.cvComplete _ h)

theorem SameCompleted.cvFeed (u : Nat) (bs : Bytes) (h : SameCompleted m a s) : SameCompleted m a (s.cvFeed u bs) :=
  .ite (.setCvu _ _ h) h

theorem SameCompleted.cvEnd (u outcome : Nat) (h : SameCompleted m a s) : SameCompleted m a (s.cvEnd u outcome) :=
  .ite (.setCvu _ _ h) h

theorem SameCompleted.cvBusUnit (u addr : Nat) (bs : Bytes) (h : SameCompleted m a s) : SameCompleted m a (s.cvBusUnit u addr bs) := by
  unfold State.cvBusUnit
  dsimp only
  have hstart : SameCompleted m a (if (addr = s.rdN Obj.CV_WINDOW_BASE 0 u && !(s.cvu u).running) = true
      then s.cvStart u (s.rdN Obj.CV_WINDOW_BASE 0 u / 64) else s) := .ite (.cvStart _ _ h) h
  exact .ite h (.ite hstart (.ite (.cvEnd _ _ hstart) (.ite (.cvEnd _ _ (.cvFeed _ _ hstart)) (.cvFeed _ _ hstart))))

theorem SameCompleted.cvBusWrite (n addr : Nat) (bs : Bytes) (ingress : Bool) (h : SameCompleted m a s) :
    SameCompleted m a (s.cvBusWrite n addr bs ingress) := by
  unfold State.cvBusWrite
  dsimp only
  have hports : SameCompleted m a (if ingress = true then s.each (List.range 16) fun s u =>
      if (s.rdN Obj.CV_SOURCE 0 u = cvBus && s.rdN Obj.CV_STATION 0 u = n && (s.cvu u).armed) = true then s.cvBusUnit u addr bs else s
      else s) := .ite (.each (fun _ _ hs => .ite (.cvBusUnit _ _ _ hs) hs) s h) h
  exact .ite (.cvBusUnit _ _ _ hports) hports

theorem SameCompleted.writeTagged (n x : Nat) (b : Bytes) (tag : Nat) (ingress : Bool) (h : SameCompleted m a s) :
    SameCompleted m a (s.writeTagged n x b tag ingress) := by
  unfold State.writeTagged
  split
  · exact .countDevice _ _ _ _ _ (by decide) h
  · refine .ite (.cvBusWrite _ _ _ _ ?_) (.each (fun u k hu => .cvBusWrite _ _ _ _ ?_) _ ?_)
    exacts [h, hu, h]

/-! The table (R42, R74, R87, R93, R97). -/

theorem SameCompleted.syncSlots (n : Nat) (h : SameCompleted m a s) : SameCompleted m a (s.syncSlots n) := .wrStation _ _ _ _ (by decide) h

theorem SameCompleted.syncCache (n t : Nat) (h : SameCompleted m a s) : SameCompleted m a (s.syncCache n t) :=
  .wrStation _ _ _ _ (by decide) h

theorem SameCompleted.syncReserved (n t : Nat) (h : SameCompleted m a s) : SameCompleted m a (s.syncReserved n t) :=
  .wrDevice _ _ _ _ _ (by decide) h

theorem SameCompleted.syncRaster (n : Nat) (h : SameCompleted m a s) : SameCompleted m a (s.syncRaster n) :=
  .ite (.wrStation _ _ _ _ (by decide) (.wrStation _ _ _ _ (by decide) h)) (.wrStation _ _ _ _ (by decide) h)

theorem SameCompleted.sweepCache (n : Nat) (h : SameCompleted m a s) : SameCompleted m a (s.sweepCache n) :=
  .each (fun _ _ hs => .syncCache _ _ hs) _ (.setRas _ _ h)

theorem SameCompleted.freeCores (n key : Nat) (h : SameCompleted m a s) : SameCompleted m a (s.freeCores n key) := .syncSlots _ (.setRas _ _ h)

theorem SameCompleted.invalidateTables (n : Nat) (j : Job) (h : SameCompleted m a s) : SameCompleted m a (s.invalidateTables n j) :=
  .each (fun _ _ hs => .ite (.writeTagged _ _ _ _ _ hs) hs) _ h

theorem SameCompleted.endJob (n key status detail : Nat) (h : SameCompleted m a s) : SameCompleted m a (s.endJob n key status detail) := by
  unfold State.endJob
  split
  · exact h
  · next j _ =>
    have hfree := h.freeCores n key
    have hfault (x : State) (hx : SameCompleted m a x) : SameCompleted m a (if status = csAccessFault then x.count Obj.ACCESS_FAULTS n else x) :=
      .ite (.countStation _ _ _ _ (by decide) hx) hx
    exact .ite h (.sweepCache _ (.syncReserved _ _ (.updJob _ _ _ (hfault _ (.ite (.invalidateTables _ _ hfree) hfree)))))

theorem SameCompleted.runControl (n key : Nat) (h : SameCompleted m a s) : SameCompleted m a (s.runControl n key) := by
  unfold State.runControl
  split
  · exact h
  · refine .ite h (.ite (.endJob _ _ _ _ h) (.ite ?_ ?_))
    · split
      · exact .endJob _ _ _ _ h
      · exact .endJob _ _ _ _ (.setRas _ _ h)
    · split
      · exact h
      · refine .ite (.endJob _ _ _ _ h) (.ite h ?_)
        split
        · exact .endJob _ _ _ _ h
        · exact (SameCompleted.wrStation _ _ _ _ (by decide) (.setJob _ _ h)).trans rfl

theorem SameCompleted.markReady (n key : Nat) (h : SameCompleted m a s) : SameCompleted m a (s.markReady n key) :=
  .ofFrame (State.markReady_frame s n key (List.Subset.refl _) (.refl _ _)) (by decide) h

theorem SameCompleted.checkPipe (n key : Nat) (h : SameCompleted m a s) : SameCompleted m a (s.checkPipe n key) := by
  unfold State.checkPipe
  split
  · exact h
  · exact .ite (.endJob _ _ _ _ h) (.ite (.endJob _ _ _ _ h) h)

theorem SameCompleted.tryFrag (n key : Nat) (h : SameCompleted m a s) : SameCompleted m a (s.tryFrag n key) :=
  .ofFrame (State.tryFrag_frame s n key (List.Subset.refl _) (.refl _ _)) (by decide) h

theorem SameCompleted.preemptFor (n : Nat) (u : Job) (h : SameCompleted m a s) : SameCompleted m a (s.preemptFor n u) := by
  refine SameCompleted.each (l := List.range 4) (fun x i hx => ?_) s h
  dsimp only
  split
  · exact hx
  · refine .ite ?_ hx
    split
    · exact .setCore _ _ _ (.updJob _ _ _ hx)
    · split
      · exact .syncSlots _ (.countStation _ _ _ _ (by decide) (.setCore _ _ _ (.setRas _ _ hx)))
      · exact hx

theorem SameCompleted.preemptAll (n : Nat) (h : SameCompleted m a s) : SameCompleted m a (s.preemptAll n) :=
  .each (fun _ _ hs => .updJob _ _ _ (.preemptFor _ _ hs)) s h

theorem SameCompleted.fillGroups (n i key fuel : Nat) (h : SameCompleted m a s) : SameCompleted m a (s.fillGroups n i key fuel) :=
  .ofFrame (State.fillGroups_frame s n i key fuel (List.Subset.refl _) (.refl _ _)) (by decide) h

theorem SameCompleted.fillTiles (n i key fuel : Nat) (h : SameCompleted m a s) : SameCompleted m a (s.fillTiles n i key fuel) :=
  .ofFrame (State.fillTiles_frame s n i key fuel (List.Subset.refl _) (.refl _ _)) (by decide) h

theorem SameCompleted.startRender (n key : Nat) (h : SameCompleted m a s) : SameCompleted m a (s.startRender n key) := by
  unfold State.startRender
  split
  · exact h
  · exact .ite h (.ite (.endJob _ _ _ _ h) (.setJob _ _ h))

theorem SameCompleted.fillCore (n i : Nat) (h : SameCompleted m a s) : SameCompleted m a (s.fillCore n i) := by
  unfold State.fillCore
  dsimp only
  refine .ite h (.ite ?_ ?_)
  · split
    · exact .setCore _ _ _ h
    · split
      · exact .setCore _ _ _ (.updJob _ _ _ h)
      · exact .ite (.fillGroups _ _ _ _ (.setCore _ _ _ h)) (.fillTiles _ _ _ _ (.startRender _ _ (.setCore _ _ _ h)))
  · split
    · exact .ite h (.ite (.fillGroups _ _ _ _ h) (.fillTiles _ _ _ _ h))
    · exact h

theorem SameCompleted.settle (n : Nat) (h : SameCompleted m a s) : SameCompleted m a (s.settle n) := by
  unfold State.settle State.dispatch
  dsimp only
  refine .syncRaster _ (.each (fun _ _ hs => .fillCore _ _ hs) _ (.preemptAll _ (.each (fun x k hx => ?_) _ ?_)))
  · exact .tryFrag _ _ (.checkPipe _ _ (.markReady _ _ hx))
  · exact .each (fun _ _ hs => .runControl _ _ hs) s h

theorem SameCompleted.admitJob (n key : Nat) (forced : Bool) (h : SameCompleted m a s) : SameCompleted m a (s.admitJob n key forced) := by
  unfold State.admitJob
  split
  · exact h
  · dsimp only
    have hadmit {x : State} (j : Job) (hx : SameCompleted m a x) : SameCompleted m a ((x.count Obj.ADMITS 0 n).touchHandles n j) :=
      (SameCompleted.countDevice 0 n _ _ _ (by decide) hx).setRas _ _
    refine .markReady _ _ (.syncReserved _ _ (.ite (.countDevice _ _ _ _ _ (by decide) ?_) ?_))
    all_goals exact hadmit _ (.setJob _ _ (.setRas _ _ h))

theorem SameCompleted.presentJob (n key : Nat) (h : SameCompleted m a s) : SameCompleted m a (s.presentJob n key) := by
  unfold State.presentJob
  split
  · exact h
  · next j _ =>
    dsimp only
    have hpresent (r : Raster) (k : Job) : SameCompleted m a ((s.setRas n r).setJob n k) := (h.setRas n r).setJob n k
    refine .ite (.endJob _ _ _ _ (.countDevice _ _ _ _ _ (by decide) (hpresent _ _))) (.ite (.admitJob _ _ _ (hpresent _ _))
      (.ite (.admitJob _ _ _ (hpresent _ _)) (.ite (.admitJob _ _ _ (hpresent _ _)) (.updJob _ _ _ (.ite ?_ (hpresent _ _))))))
    exact .countDevice _ _ _ _ _ (by decide) (hpresent _ _)

theorem SameCompleted.presentDeferred (n : Nat) (h : SameCompleted m a s) : SameCompleted m a (s.presentDeferred n) :=
  .each (fun _ _ hs => .presentJob _ _ hs) s h

theorem SameCompleted.completion (t n q : Nat) (record : Bytes) (fence : Option (Nat × Nat)) (irq : Bool) (h : SameCompleted m a s) :
    SameCompleted m a (s.completion t n q record fence irq) := by
  have hirq {x : State} (k : Nat) (hx : SameCompleted m a x) : SameCompleted m a (x.irq t k) :=
    .ofFrame (State.irq_frame x t k (List.Subset.refl _) (.refl _ _)) (by decide) hx
  unfold State.completion
  dsimp only
  cases fence with
  | none => exact .ite (hirq _ (h.trans rfl)) (h.trans rfl)
  | some f =>
    refine .ite (hirq _ (.ite (.writeTagged _ _ _ _ _ (h.trans rfl)) (h.trans rfl))) (.ite (.writeTagged _ _ _ _ _ (h.trans rfl)) (h.trans rfl))

end Writes

end Sys2Proof.Machine

/-! Units, contexts and the ends of jobs (R38, R69, R70, R74, R76, R87, R88, R91). -/
namespace Sys2Proof.Machine

theorem State.job?_setCore (s : State) (n i : Nat) (c : ShaderCore) (m key : Nat) : (s.setCore n i c).job? m key = s.job? m key := by
  simp only [State.job?, State.setCore, State.ras_setRas]
  split <;> simp_all

theorem State.rdN_setCore (s : State) (n i : Nat) (c : ShaderCore) (r : ObjRow) (m k t q : Nat) :
    (s.setCore n i c).rdN r m k t q = s.rdN r m k t q := rfl

theorem State.rdN_updJob (s : State) (n key : Nat) (f : Job → Job) (r : ObjRow) (m i t q : Nat) :
    (s.updJob n key f).rdN r m i t q = s.rdN r m i t q := by
  unfold State.updJob; split <;> rfl

theorem State.rdN_store (s : State) (n addr : Nat) (b : Bytes) (r : ObjRow) (m i t q : Nat) :
    (s.store n addr b).rdN r m i t q = s.rdN r m i t q := rfl

theorem State.time_setCore (s : State) (n i : Nat) (c : ShaderCore) : (s.setCore n i c).time = s.time := rfl

theorem State.time_updJob (s : State) (n key : Nat) (f : Job → Job) : (s.updJob n key f).time = s.time := by
  unfold State.updJob; split <;> rfl

/-- While a fragment phase runs, ended batches wait (R39). -/
theorem State.binHeld_of_fragPhase {s : State} {n key : Nat} {j : Job} (hj : s.job? n key = some j) (hfrag : j.fragPhase = true) (fuel : Nat) :
    s.binHeld n key fuel = s := by
  cases fuel with
  | zero => rfl
  | succ fuel => simp [State.binHeld, hj, hfrag]

/-- A job with one more ended batch held: its first sequence, and what the binner made of its `p` primitives (R39). -/
def Job.holdBatch (j : Job) (first p : Nat) (r : UnitResult) : Job :=
  { j with heldBins := j.heldBins ++ [(first, r.prims.take p ++ List.replicate (p - r.prims.length) {})] }

/-- A batch that ends while a fragment phase runs is held (R39). -/
theorem State.batchDone_of_fragPhase {s : State} {n key : Nat} {j : Job} (hj : s.job? n key = some j) (hfrag : j.fragPhase = true)
    (first p : Nat) (r : UnitResult) : s.batchDone n key first p r = s.setJob n (j.holdBatch first p r) := by
  have hheld : (s.setJob n (j.holdBatch first p r)).job? n key = some (j.holdBatch first p r) :=
    State.job?_setJob_self hj (show j.key = key from State.job?_key hj)
  unfold State.batchDone
  rw [hj]
  exact State.binHeld_of_fragPhase hheld hfrag _

/-- UNIT_COMPLETE of a batch: the batch joins the bins, and what follows from the table follows (R39, R74). -/
theorem exec_unitComplete_batch {s : State} {n : Fin 8} {core : Fin 4} {k key first p t0 : Nat} {r : UnitResult}
    (hcore : (s.core n core).job = some key) (hsaving : (s.core n core).saving = none) (hrestoring : (s.core n core).restoring = none)
    (hunit : (s.core n core).units[k]? = some (.binBatch first p, t0)) :
    exec (.unitComplete n core k r) s = .next
      (((s.setCore n core { s.core n core with units := unitsAfter s.time k (s.core n core).units }).batchDone n key first p r).settle n) := by
  show execUnitComplete n core k r s = _
  simp [execUnitComplete, hcore, hunit, hsaving, hrestoring]

theorem SameJobs.presentDeferred {a s : State} {n : Nat} (h : SameJobs n a s) : SameJobs n a (s.presentDeferred n) :=
  h.trans (.each (fun _ _ => .presentJob _ (.refl _ _)) _)

/-- The table without the jobs of a key. -/
def State.withoutJob (s : State) (n key : Nat) : State :=
  s.setRas n { s.ras n with jobs := (s.ras n).jobs.filter fun k => k.key ≠ key }

theorem State.job?_withoutJob (s : State) (n key : Nat) : (s.withoutJob n key).job? n key = none := by
  simp [State.job?, State.withoutJob]

/-- A job that ended with a status has its completion written, and its completion is counted (R44, R45). -/
def State.recorded (s : State) (n key : Nat) (j : Job) (status detail : Nat) : State :=
  ((s.withoutJob n key).completion j.tenant n j.queue
    (completionRecord j.jobId j.binFlushes status (if decide (j.jtype = jtRender) then j.tilesWritten else detail)
      (if decide (j.jtype = jtRender) then j.tilesSkipped else 0) (if j.started then j.charged / 100000 else 0) (j.coreNs / 1000) s.time)
    j.fenceSignal j.irq).total Obj.JOBS_COMPLETED 1 n

/-- What follows a job's completion keeps the jobs that stand and the count of completed jobs (R44, R97). -/
theorem State.completeJob_after {s : State} {n key st detail : Nat} {j : Job} (hj : s.job? n key = some j)
    (hphase : j.phase = .ended st detail) :
    SameJobs n (s.recorded n key j st detail) (s.completeJob n key) ∧ SameCompleted n (s.recorded n key j st detail) (s.completeJob n key) := by
  unfold State.completeJob
  simp only [hj, hphase]
  exact ⟨.settle (.presentDeferred (.sweepCache (.ite (.setRas' rfl (.refl _ _)) (.refl _ _)))),
    .settle _ (.presentDeferred _ (.sweepCache _ (.ite (.setRas _ _ (.refl _ _)) (.refl _ _))))⟩

theorem State.job?_recorded (s : State) (n key : Nat) (j : Job) (st detail : Nat) : (s.recorded n key j st detail).job? n key = none := by
  have hremoved : SameJobs n (s.withoutJob n key) (s.recorded n key j st detail) :=
    .wr _ _ _ _ _ _ (.ofFrame (State.completion_frame _ _ _ _ _ _ _ (List.Subset.refl _) (.refl _ _)) (by decide))
  have hgone := hremoved key
  rwa [State.job?_withoutJob, Option.map_none, Option.map_eq_none_iff] at hgone

theorem State.rd_recorded (s : State) (n key : Nat) (j : Job) (st detail : Nat) :
    (s.recorded n key j st detail).rd Obj.JOBS_COMPLETED n = ((s.rdN Obj.JOBS_COMPLETED n + 1) % 2 ^ 64 : Nat) := by
  have hbefore (record : Bytes) : SameCompleted n s ((s.withoutJob n key).completion j.tenant n j.queue record j.fenceSignal j.irq) :=
    .completion _ _ _ _ _ _ (.setRas _ _ (.refl _ _))
  rw [State.recorded, State.total, State.rd_wr_self _ _ _ _ _ _ _ (.inl rfl), (hbefore _).rdN]

/-- The table once a job that has ended is completed: the job is out of it, and the count is raised (R44). -/
theorem State.completeJob_of_ended {s : State} {n key st detail : Nat} {j : Job} (hj : s.job? n key = some j)
    (hphase : j.phase = .ended st detail) :
    (s.completeJob n key).job? n key = none ∧
      (s.completeJob n key).rd Obj.JOBS_COMPLETED n = ((s.rdN Obj.JOBS_COMPLETED n + 1) % 2 ^ 64 : Nat) := by
  obtain ⟨hjobs, hcount⟩ := State.completeJob_after hj hphase
  constructor
  · have hgone := hjobs key
    rwa [State.job?_recorded, Option.map_none, Option.map_eq_none_iff] at hgone
  · rw [hcount.rd, State.rd_recorded]

/-- Settles O9: each command is its operation on the table, then the settling; a completion is counted once (`completeJob_of_ended`). -/
theorem unitsRunAndJobsEnd : Obligations.UnitsRunAndJobsEnd := by
  unfold Obligations.UnitsRunAndJobsEnd
  refine ⟨?workgroup, ?batch, ?heldBatch, ?tile, ?deadline, ?saved, ?restored, ?yield, ?fault, ?limit, ?complete⟩
  case workgroup =>
    intro s n core k key w t0 r j hcore hunit hsaving hrestoring hj hunits
    refine ⟨_, rfl, ?_⟩
    have hleft : j.units.isEmpty = false := by simpa using hunits
    simp [hcore, hunit, hsaving, hrestoring, State.job?_setCore, hj, hleft]
  case batch =>
    intro s n core k key first p t0 r hcore hsaving hrestoring hunit
    exact ⟨_, exec_unitComplete_batch hcore hsaving hrestoring hunit, rfl⟩
  case heldBatch =>
    intro s n core k key first p t0 r j hcore hsaving hrestoring hunit hj hfrag
    refine ⟨_, exec_unitComplete_batch hcore hsaving hrestoring hunit, ?_⟩
    have hstands := (State.job?_setCore s n core { s.core n core with units := unitsAfter s.time k (s.core n core).units } n key).trans hj
    rw [State.batchDone_of_fragPhase hstands hfrag]
    exact State.keepsJob_settle (State.job?_setJob_self hstands (show j.key = key from State.job?_key hj))
  case tile =>
    intro s n core k key tx ty part parts first p t0 r u hcore hsaving hrestoring hunit hdone
    refine ⟨_, rfl, ?_⟩
    simp only [hcore, hsaving, hrestoring] at hdone
    simp [hcore, hunit, hsaving, hrestoring, hdone]
  case deadline =>
    intro s n key j d hj hphase hdeadline hpast hurgent htarget
    refine ⟨_, rfl, ?_⟩
    simp [hj, hphase, Job.judged, hdeadline, hpast, hurgent, htarget]
  case saved =>
    intro s n core context key slot since hcore hsaving hlen
    refine ⟨_, rfl, ?_⟩
    simp only [hcore, hsaving, List.take_of_length_le hlen, State.rdN_setCore, State.rdN_updJob, State.rdN_store, State.time_setCore,
      State.time_updJob, State.time_store]
  case restored =>
    intro s n core key j x hcore hrestoring hj hcrc
    refine ⟨_, rfl, ?_⟩
    simp only [hcore, hrestoring, hj, hcrc, Option.bind_some, if_true]
  case yield =>
    intro s n core j u tx ty part parts first p since d l hj hunits hlimit htier hfree hu hurgent htarget hlive habove hdeadline hpast
    refine ⟨_, rfl, ?_⟩
    have hlimit' : s.rdN Obj.TILE_YIELD_LIMIT n * 1000 ≠ 0 := by omega
    simp only [hj, hunits]
    refine if_pos ?_
    simp only [Bool.and_eq_true, decide_eq_true_eq, List.any_eq_true]
    exact ⟨⟨⟨hlimit', htier⟩, u, hu, ⟨⟨⟨hurgent, htarget⟩, hlive⟩, habove⟩, by simp only [hdeadline, hpast, decide_true]⟩, hfree⟩
  case fault =>
    intro s n key addr len write j hj hphase hout
    refine ⟨_, rfl, ?_⟩
    simp [hj, hphase, hout]
  case limit =>
    intro s n key j hj hphase hlimit
    refine ⟨_, rfl, ?_⟩
    simp [hj, hphase, hlimit]
  case complete =>
    intro s n key st detail j hj hphase
    obtain ⟨hgone, hcount⟩ := State.completeJob_of_ended hj hphase
    have hfetch := State.fetch_frame (s.completeJob n key) n (List.Subset.refl _) (.refl _ _)
    refine ⟨_, rfl, ?_, ?_⟩
    · rw [State.job?, State.ras, hfetch .raster (by decide)]
      exact hgone
    · rw [State.rd_of_regs (hfetch.regs (by decide)), hcount]

end Sys2Proof.Machine

/-! The translator and the translation cache (R53 to R58). -/
namespace Sys2Proof.Machine

/-- The tenant's `CACHE_USED` once it follows the cache (R73). -/
theorem State.rd_syncCache (s : State) (n t : Nat) :
    (s.syncCache n t).rd Obj.CACHE_USED n 0 t = (((((s.ras n).cache.filter fun e => e.tenant = t).map (·.sizeKib)).sum : Nat) : Int) :=
  State.rd_wr_self _ _ _ _ _ _ _ (.inl rfl)

@[simp] theorem State.ras_wr (s : State) (r : ObjRow) (v : Int) (n i t j m : Nat) : (s.wr r v n i t j).ras m = s.ras m := by
  simp only [State.ras, State.raster_wr]

/-- Two states of a station with an empty table agree in its cache and in the objects. -/
def SameEmpty (n : Nat) (s t : State) : Prop :=
  (t.ras n).jobs = [] ∧ (t.ras n).cache = (s.ras n).cache ∧ t.regs = s.regs

/-- A station with an empty table gives a core no work (R74). -/
theorem SameEmpty.fillCore {n : Nat} {a s : State} (i : Nat) (h : SameEmpty n a s) : SameEmpty n a (s.fillCore n i) := by
  obtain ⟨hjobs, hcache, hregs⟩ := h
  have hpick : s.pick n i = none := by simp [State.pick, hjobs, rankSort]
  have hcore (c : ShaderCore) : SameEmpty n a (s.setCore n i c) := ⟨by simp [State.setCore, hjobs], by simp [State.setCore, hcache], hregs⟩
  unfold State.fillCore
  simp only [hpick]
  split_ifs
  exacts [⟨hjobs, hcache, hregs⟩, hcore _, ⟨hjobs, hcache, hregs⟩]

/-- What follows at once from an empty table: no core has work, and the objects of the table follow (R73, R74). -/
theorem State.settle_of_noJobs {s : State} {n : Nat} (h : (s.ras n).jobs = []) : ∃ u, SameEmpty n s u ∧ s.settle n = u.syncRaster n := by
  refine ⟨s.dispatch n, ?_, by simp [State.settle, State.preemptAll, State.each, h, rankSort]⟩
  have hfold (l : List Nat) (u : State) (hu : SameEmpty n s u) : SameEmpty n s (u.each l fun s i => s.fillCore n i) := by
    induction l generalizing u with
    | nil => exact hu
    | cons i l ih => exact ih _ (hu.fillCore i)
  exact hfold _ s ⟨h, rfl, rfl⟩

theorem State.ras_syncRaster (s : State) (n m : Nat) : (s.syncRaster n).ras m = s.ras m := by
  unfold State.syncRaster; dsimp only; split <;> simp

/-- `CACHE_USED` does not depend on what the table's own objects are (R73). -/
theorem State.rd_cacheUsed_syncRaster (s : State) (n m t : Nat) : (s.syncRaster n).rd Obj.CACHE_USED m 0 t = s.rd Obj.CACHE_USED m 0 t := by
  have hdeferred (v : Int) : (s.wr Obj.JOBS_DEFERRED v n).rd Obj.CACHE_USED m 0 t = s.rd Obj.CACHE_USED m 0 t :=
    State.rd_wr_of_ne _ _ _ _ _ _ _ _ _ _ _ _ (.inl rfl) (by simp [ObjRow.key, Obj.CACHE_USED, Obj.JOBS_DEFERRED])
  unfold State.syncRaster
  dsimp only
  split
  · rw [State.rd_wr_of_ne _ _ _ _ _ _ _ _ _ _ _ _ (.inl rfl) (by simp [ObjRow.key, Obj.CACHE_USED, Obj.RASTER_STATE]), hdeferred]
  · exact hdeferred _

/-- A station with an empty table whose cache has changed shows the cache and the tenant's use of it (R58, R73). -/
theorem State.settle_syncCache_of_noJobs {s : State} {n : Nat} (t : Nat) (h : (s.ras n).jobs = []) :
    (((s.syncCache n t).settle n).ras n).cache = (s.ras n).cache ∧
      ((s.syncCache n t).settle n).rd Obj.CACHE_USED n 0 t
        = (((((s.ras n).cache.filter fun e => e.tenant = t).map (·.sizeKib)).sum : Nat) : Int) := by
  have hcache : (s.syncCache n t).ras n = s.ras n := State.ras_wr ..
  obtain ⟨u, ⟨-, hsame, hregs⟩, hsettle⟩ := State.settle_of_noJobs (s := s.syncCache n t) (n := n) (by rw [hcache, h])
  rw [hsettle, State.ras_syncRaster, hsame, hcache, State.rd_cacheUsed_syncRaster, State.rd_of_regs hregs]
  exact ⟨rfl, State.rd_syncCache s n t⟩

/-- An entry of a tenant's handle once the retranslation that waits for it is swapped in (R58). -/
def CacheEntry.swapped (t handle : Nat) (e : CacheEntry) : CacheEntry :=
  match e.renewed with
  | some (size, bytes, effects, version) =>
    if e.tenant = t && e.handle = handle && e.replacedFor.isNone then
      { e with sizeKib := size, stateBytes := bytes, sideEffects := effects, version := version, withdrawn := false, renewed := none }
    else e
  | none => e

/-- A retranslation is swapped in while no running job uses its handle (R58). -/
theorem exec_retranslationSwap {s : State} {n : Fin 8} {tt : Fin 512} {handle : Nat}
    (hidle : ((s.ras n).jobs.any fun j => j.tenant = tt.val && j.handles.contains handle && j.started && j.live) = false) :
    exec (.retranslationSwap n tt handle) s = .next
      (((s.setRas n { s.ras n with cache := (s.ras n).cache.map (CacheEntry.swapped tt handle) }).syncCache n tt).settle n) := by
  show execRetranslationSwap n tt handle s = _
  simp only [execRetranslationSwap, hidle, Bool.false_eq_true, if_false]
  rfl

/-- Settles O10: each command of the translator and its cache is an equation of the model; the cache's object follows by `rd_syncCache`. -/
theorem translationsEnterTheCache : Obligations.TranslationsEnterTheCache := by
  unfold Obligations.TranslationsEnterTheCache
  refine ⟨?next, ?background, ?fails, ?enters, ?noRoom, ?dropFree, ?swapAlone, ?swap⟩
  case next =>
    intro s q l hcurrent hqueue hready hgate
    exact ⟨_, rfl, by simp [hcurrent, hqueue, hready, hgate]⟩
  case background =>
    intro s q l hcurrent hqueue hback hready hgate
    exact ⟨_, rfl, by simp [hcurrent, hqueue, hback, hready, hgate]⟩
  case fails =>
    intro s res q key reason cap hcurrent hjob hgate hrefusal
    refine ⟨_, rfl, ?_⟩
    simp only [State.firmware, hgate, hcurrent, hjob, hrefusal, Bool.false_eq_true, if_false]
  case enters =>
    intro s res q key u hcurrent hjob hgate hrefusal hput
    refine ⟨_, rfl, ?_⟩
    simp only [State.firmware, hgate, hcurrent, hjob, hrefusal, hput, Bool.false_eq_true, if_false]
    rw [if_pos trivial]
  case noRoom =>
    intro s res q key u hcurrent hjob hgate hrefusal hput
    refine ⟨_, rfl, ?_⟩
    simp only [State.firmware, hgate, hcurrent, hjob, hrefusal, hput, Bool.false_eq_true, if_false]
  case dropFree =>
    intro s n tt handle hfree
    refine ⟨_, rfl, ?_⟩
    simp only [hfree, Bool.false_eq_true, if_false]
    exact ⟨by simp [State.syncCache], by rw [State.rd_syncCache]; simp⟩
  case swapAlone =>
    intro s n tt handle e size bytes version effects hidle hjobs hcache htenant hhandle hreplaced hrenewed
    have hswapped : (s.ras n).cache.map (CacheEntry.swapped tt handle)
        = [{ e with sizeKib := size, stateBytes := bytes, sideEffects := effects, version := version, withdrawn := false, renewed := none }] := by
      simp [CacheEntry.swapped, hcache, htenant, hhandle, hreplaced, hrenewed]
    obtain ⟨hnew, hused⟩ := State.settle_syncCache_of_noJobs (s := s.setRas n { s.ras n with
      cache := (s.ras n).cache.map (CacheEntry.swapped tt handle) }) (n := n) tt (by simp [hjobs])
    refine ⟨_, exec_retranslationSwap hidle, hnew.trans ?_, hused.trans ?_⟩
    · simp [hswapped]
    · simp [hswapped, htenant]
  case swap =>
    intro s n tt handle hidle
    exact ⟨_, exec_retranslationSwap hidle, rfl⟩

end Sys2Proof.Machine

/-! Writes of station memory outside enclaves: which bytes they leave (R348, R394). -/
namespace Sys2Proof.Machine

/-- A write under tag 0 leaves every cell outside its place as it was, whether or not it was dropped. -/
theorem State.writeTagged_sameMemoryBut {s : State} (hs : Inv s) (n x : Nat) (b : Bytes) (ingress : Bool) :
    SameMemoryBut s (s.writeTagged n x b 0 ingress) n x b.length := by
  intro c hc
  unfold State.writeTagged
  split
  · next e _ =>
    obtain ⟨hmem, hlost, -⟩ := State.countTagFault_frame s e (List.Subset.refl _) (.refl _ _) .memory (by decide)
    exact ⟨by rw [hmem], by rw [State.isLost, hlost, State.isLost]⟩
  · obtain ⟨hmem, hlost, -⟩ := State.cvBusWrite_frame ((s.unpoison n x b.length).store n x b) n x b ingress (List.Subset.refl _)
      (.refl _ _) .memory (by decide)
    have hstore := State.store_sameMemoryBut (s := s.unpoison n x b.length) hs n x b c hc
    refine ⟨?_, ?_⟩
    · show memGet (((s.unpoison n x b.length).store n x b).cvBusWrite n x b ingress).mem c = _
      rw [hmem]; exact hstore.1
    · show (((s.unpoison n x b.length).store n x b).cvBusWrite n x b ingress).isLost c = _
      rw [State.isLost, hlost]; exact hstore.2

/-! Rows of a tile (R62, R64). -/

/-- Samples of at most `bps` bytes each, at most `k` of them. -/
def samplesFit (k bps : Nat) (l : List Bytes) : Prop := l.length ≤ k ∧ ∀ x ∈ l, x.length ≤ bps

theorem length_flatten_le {bps : Nat} {l : List Bytes} (h : ∀ x ∈ l, x.length ≤ bps) : l.flatten.length ≤ l.length * bps := by
  rw [List.length_flatten]
  simpa using List.sum_le_card_nsmul (l.map List.length) bps (by simpa using h)

theorem samplesFit_freeSamples (s : State) (k bps : Nat) : samplesFit k bps (s.freeSamples k bps).1 := by
  constructor
  · have hbytes : (s.drawBytes (k * bps)).1.length = k * bps := by simp [State.drawBytes]
    have hcount : (s.freeSamples k bps).1.length = k * bps / bps := by simp [State.freeSamples, samplesOf, hbytes]
    rw [hcount]
    exact Nat.div_le_of_le_mul (Nat.mul_comm k bps).le
  · simp only [State.freeSamples, samplesOf, List.mem_map]
    rintro x ⟨i, -, rfl⟩
    simp [slice]

theorem Attachment.length_cleanSample {a : Attachment} {b : Bytes} (h : b.length ≤ a.bps) : (cleanSample a.format b).length ≤ a.bps := by
  unfold cleanSample
  split
  · next hf =>
    have hbps : a.bps = 8 := by simp [Attachment.bps, hf, attFormat]
    simp [padTo, hbps]
  · exact h

theorem samplesFit.clean {k : Nat} {a : Attachment} {l : List Bytes} (h : samplesFit k a.bps l) :
    samplesFit k a.bps (l.map (cleanSample a.format)) := by
  obtain ⟨hcount, hsize⟩ := h
  refine ⟨by simpa using hcount, ?_⟩
  simp only [List.mem_map]
  rintro x ⟨y, hy, rfl⟩
  exact Attachment.length_cleanSample (hsize y hy)

/-- The rows of the samples of `w` by `h` pixels: no more than `h` of them, each no longer than `w` pixels. -/
theorem tileRows_fit {w h stored bps : Nat} {l : List Bytes} (hl : samplesFit (w * h * stored) bps l) :
    (tileRows w stored l).length ≤ h ∧ ∀ y, ((tileRows w stored l).getD y []).length ≤ w * bps * stored := by
  obtain ⟨hcount, hsize⟩ := hl
  constructor
  · simp only [tileRows, List.length_map, List.length_range]
    exact Nat.div_le_of_le_mul (hcount.trans (by rw [Nat.mul_right_comm]))
  · have hrow : ∀ r ∈ tileRows w stored l, r.length ≤ w * bps * stored := by
      simp only [tileRows, List.mem_map]
      rintro r ⟨y, -, rfl⟩
      refine (length_flatten_le fun x hx => hsize x (List.mem_of_mem_drop (List.mem_of_mem_take hx))).trans ?_
      calc _ ≤ w * stored * bps := Nat.mul_le_mul_right _ (List.length_take_le _ _)
        _ = w * bps * stored := Nat.mul_right_comm ..
    intro y
    rw [List.getD_eq_getElem?_getD]
    cases hy : (tileRows w stored l)[y]? with
    | none => simp
    | some r => exact hrow r (List.mem_of_getElem? hy)

/-! The store of an attachment (R39, R62 to R67). -/

/-- A cell that lies outside the place of a write under tag 0 keeps its byte. -/
theorem State.memGet_writeTagged {s : State} (hs : Inv s) {n x c len : Nat} {b : Bytes} (hlen : b.length ≤ len)
    (hc : c < cellOf n x ∨ cellOf n x + len ≤ c) : memGet (s.writeTagged n x b 0).mem c = memGet s.mem c :=
  (State.writeTagged_sameMemoryBut hs n x b false c (by omega)).1

/-- Rows written at places that do not hold a cell leave its byte, and memory in its canonical form. -/
theorem State.memGet_writeRows {n c len : Nat} {place : Nat → Nat} {row : Nat → Bytes} (hlen : ∀ y, (row y).length ≤ len) (l : List Nat)
    (hc : ∀ y ∈ l, c < cellOf n (place y) ∨ cellOf n (place y) + len ≤ c) {s : State} (hs : Inv s) :
    Inv (l.foldl (fun (s : State) y => s.writeTagged n (place y) (row y) 0) s) ∧
      memGet (l.foldl (fun (s : State) y => s.writeTagged n (place y) (row y) 0) s).mem c = memGet s.mem c := by
  induction l generalizing s with
  | nil => exact ⟨hs, rfl⟩
  | cons y l ih =>
    obtain ⟨hinv, hmem⟩ := ih (fun z hz => hc z (by simp [hz])) (State.writeTagged_inv s n (place y) (row y) 0 false hs)
    exact ⟨hinv, hmem.trans (State.memGet_writeTagged hs (hlen y) (hc y (by simp)))⟩

theorem State.mem_setJob (s : State) (n : Nat) (j : Job) : (s.setJob n j).mem = s.mem := rfl

theorem State.mem_total (s : State) (r : ObjRow) (amount n i t j : Nat) : (s.total r amount n i t j).mem = s.mem := State.mem_wr ..

/-- The samples of an attachment that a tile's store works on: free ones where several samples are resolved (R62). -/
def State.storedSamples (s : State) (a : Attachment) (w h : Nat) (tile : List Bytes) : List Bytes × State :=
  if a.storeOp = 2 && a.samples ≠ 1 then s.freeSamples (w * h) a.bps else (tile, s)

theorem State.mem_storedSamples (s : State) (a : Attachment) (w h : Nat) (tile : List Bytes) :
    (s.storedSamples a w h tile).2.mem = s.mem := by
  unfold State.storedSamples; split <;> rfl

theorem State.samplesFit_storedSamples (s : State) {a : Attachment} {w h : Nat} {tile : List Bytes} (hcount : tile.length = w * h * a.samples)
    (hsize : ∀ x ∈ tile, x.length = a.bps) : samplesFit (w * h * a.stored) a.bps (s.storedSamples a w h tile).1 := by
  unfold State.storedSamples
  split
  · next hfree =>
    obtain ⟨hresolve, -⟩ : a.storeOp = 2 ∧ a.samples ≠ 1 := by simpa using hfree
    simpa [Attachment.stored, hresolve] using samplesFit_freeSamples s (w * h) a.bps
  · next hkept =>
    have hstored : a.stored = a.samples := by
      unfold Attachment.stored
      split
      · next hresolve =>
        have hone : a.samples = 1 := by simpa [hresolve] using hkept
        exact hone.symm
      · rfl
    exact ⟨by rw [hstored, hcount], fun x hx => (hsize x hx).le⟩

/-- The signature of a stored tile goes to its place in the table, and marks the table (R64, R65). -/
def State.storeSig (s : State) (n table entry sig : Nat) : State :=
  if table = 0 then s else
    (s.writeTagged n entry (toLE 8 sig) 0).writeTagged n table [BitVec.ofNat 8 (setBit 1 (byteAt (s.readTagged n table 1 0) 0))] 0

/-- A cell outside a tile's signature and the first byte of its table keeps its byte. -/
theorem State.memGet_storeSig {s : State} (hs : Inv s) {n table entry sig c : Nat} (hentry : c < cellOf n entry ∨ cellOf n entry + 8 ≤ c)
    (htable : c ≠ cellOf n table) : memGet (s.storeSig n table entry sig).mem c = memGet s.mem c := by
  unfold State.storeSig
  split
  · rfl
  · rw [State.memGet_writeTagged (len := 1) (State.writeTagged_inv s n entry _ 0 false hs) (by simp) (by omega),
      State.memGet_writeTagged (len := 8) hs (by simp) hentry]

/-- The place of a row of a tile in an attachment's memory (R47, R62). -/
def Attachment.rowAddr (a : Attachment) (tx ty y : Nat) : Nat := a.addr + (32 * ty + y) * a.pitch + 32 * tx * a.bps * a.stored

/-- The memory that the store of an attachment leaves where its store operation is not DONT_CARE: that of before where the tile is skipped,
and else that after the rows and the signature of the tile (R62, R64 to R67). -/
theorem State.mem_storeAtt {s : State} {n key : Nat} {j : Job} (hj : s.job? n key = some j) (ix tx ty : Nat) {a : Attachment} (tile : List Bytes)
    (hop : a.storeOp ≠ 1) :
    let p := s.storedSamples a (j.tileSize tx ty).1 (j.tileSize tx ty).2 tile
    let rows := tileRows (j.tileSize tx ty).1 a.stored (p.1.map (cleanSample a.format))
    (s.storeAtt n key ix a tx ty tile).mem = s.mem ∨ ∃ sig, (s.storeAtt n key ix a tx ty tile).mem
      = (((List.range rows.length).foldl (fun (s : State) y => s.writeTagged n (a.rowAddr tx ty y) (rows.getD y []) 0) p.2).storeSig n a.sigTable
          (a.sigTable + 64 + 8 * (ty * cdiv j.width 32 + tx)) sig).mem := by
  intro p rows
  unfold State.storeAtt
  simp only [hj, hop, if_false]
  rw [← State.storedSamples]
  split
  · exact .inl ((State.mem_total ..).trans (State.mem_storedSamples ..))
  · exact .inr ⟨_, State.mem_total ..⟩

/-- Settles O49: a tile's store is its rows and its signature, and each write under tag 0 keeps to its place. -/
theorem tileStoresKeepToTheirTile : Obligations.TileStoresKeepToTheirTile := by
  unfold Obligations.TileStoresKeepToTheirTile
  intro s n key ix tx ty a j tile hs hj hcount hsize
  refine ⟨fun hop hflush => ?_, fun hop hflush => ?_, fun hop c hrows hentry htable => ?_⟩
  · simp [State.storeAtt, hj, hop, hflush]
  · have hstore : s.storeAtt n key ix a tx ty tile = s.writeTagged n (j.scratchAddr a tx ty) tile.flatten 0 := by
      simp [State.storeAtt, hj, hop, hflush]
    rw [hstore]
    exact State.writeTagged_sameMemoryBut hs _ _ _ _
  · obtain hskip | ⟨sig, hstore⟩ := State.mem_storeAtt hj ix tx ty tile hop
    · rw [hskip]
    · obtain ⟨hheight, hwidth⟩ := tileRows_fit (State.samplesFit_storedSamples s hcount hsize).clean
      have hmem := State.mem_storedSamples s a (j.tileSize tx ty).1 (j.tileSize tx ty).2 tile
      obtain ⟨hinv, hcells⟩ := State.memGet_writeRows (place := a.rowAddr tx ty) hwidth (List.range _)
        (fun y hy => hrows y ((List.mem_range.mp hy).trans_le hheight)) (Inv.of_mem hmem hs)
      rw [hstore, State.memGet_storeSig hinv hentry htable, hcells, hmem]

end Sys2Proof.Machine

/-! A PIPELINE_LOAD just taken that is marked to preempt: what follows from the table takes the mark off (R42, R87). -/
namespace Sys2Proof.Machine

/-- A PIPELINE_LOAD of tenant 5 with a payload of one stage, marked to preempt. -/
def markedLoad : Job :=
  { key := 0, tenant := 5, queue := 0, jobId := 9, jtype := jtLoad, cls := 0, targetLayer := 0xFF, timeEst := 5, energyEst := 5,
    payloadAddr := 0x10000000, payloadSize := 124, preempts := true }

/-- Its record: one module of 64 bytes. -/
def oneModule : PipelineRecord := { handle := 7, stages := [{ addr := 0x10000400, size := 64 }] }

/-- Station 0 has the job alone in its table, and a window of tenant 5 covers the job's payload and its module. -/
def markedLoadAlone : State :=
  { State.reset with regs := [(Obj.WINDOW.key 0 0 5 0, 0x100010000003)], raster := [(0, { jobs := [markedLoad] })] }

/-- The job stands at the translator without the mark: the station's preemptions are made, and there are none to make. -/
theorem markedLoad_loses_preempts {t : State} (h : exec (.jobPipelineLoad 0 0 oneModule) markedLoadAlone = .next t) :
    (t.job? 0 0).map Job.preempts = some false := by
  obtain rfl := Host.Outcome.next.inj h
  decide +kernel

/-- Refutes O7: a PIPELINE_LOAD that stands at the translator keeps what its payload names, but not a mark to preempt, which no hypothesis
excludes. -/
theorem not_jobsAreTakenAndQueued : ¬ Obligations.JobsAreTakenAndQueued := by
  unfold Obligations.JobsAreTakenAndQueued
  rintro ⟨-, -, -, -, -, -, -, -, -, -, hload, -⟩
  obtain ⟨t, ht, hjob, -⟩ := hload markedLoadAlone 0 0 markedLoad oneModule (List.replicate 124 0) [List.replicate 64 0] (by decide +kernel) rfl
    rfl rfl (.inl rfl) rfl (by decide +kernel) rfl (by decide) (by decide +kernel)
  have hkept : (t.job? 0 0).map Job.preempts = some true := congrArg (Option.map Job.preempts) hjob
  exact absurd (hkept.symm.trans (markedLoad_loses_preempts ht)) (by decide)

end Sys2Proof.Machine

/-! A shadow written waits for the next commit of its set (R123, R130). -/
namespace Sys2Proof.Machine

/-- A write of a shadow puts the value in the shadow and tells the subscriptions; all else stays. -/
theorem State.wrShadow_eq (s : State) (r : ObjRow) (v : Int) (n i t j : Nat) :
    ∃ l, s.wrShadow r v n i t j = { s with shadow := s.shadow.put (r.key n i t j) v, subscriptions := l } := by
  unfold State.wrShadow State.noteSubs
  split
  · exact ⟨_, rfl⟩
  · exact ⟨s.subscriptions, rfl⟩

/-- An object of the key just written has the value as its shadow. -/
theorem State.rdShadow_wrShadow_of_key (s : State) {r q : ObjRow} (v : Int) {n i t j n' i' t' j' : Nat}
    (h : q.key n' i' t' j' = r.key n i t j) : (s.wrShadow r v n i t j).rdShadow q n' i' t' j' = v := by
  obtain ⟨l, hw⟩ := s.wrShadow_eq r v n i t j
  simp [hw, State.rdShadow, h]

/-- An armed copy names the shadow of each object of its set (R123). -/
theorem State.named_armedCopy (s : State) (n : Nat) (k : SetId) (c : Nat) :
    (s.armedCopy n k c).named n k = k.rows.map fun q => (q.1.key n q.2 512 0, s.rdShadow q.1 n q.2) := by
  simp [State.armedCopy, ArmedSet.named, List.zip_map']

/-- The armed copy taken after a shadow of its set was written holds the value written. -/
theorem State.find_armedCopy_wrShadow (s : State) (r : ObjRow) (v : Int) (n i j m c : Nat) {k : SetId} {q : ObjRow × Nat} (hq : q ∈ k.rows)
    (hkey : q.1.key m q.2 512 0 = r.key n i 512 j) :
    (((s.wrShadow r v n i 512 j).armedCopy m k c).named m k).find? (fun e => e.1 = r.key n i 512 j) = some (r.key n i 512 j, v) := by
  rw [State.named_armedCopy, List.find?_map]
  obtain ⟨p, hp⟩ : ∃ p, k.rows.find? (fun p => p.1.key m p.2 512 0 = r.key n i 512 j) = some p :=
    Option.isSome_iff_exists.mp (List.find?_isSome.mpr ⟨q, hq, by simpa using hkey⟩)
  have hpkey : p.1.key m p.2 512 0 = r.key n i 512 j := by simpa using List.find?_some hp
  calc _ = (k.rows.find? fun p => p.1.key m p.2 512 0 = r.key n i 512 j).map fun p =>
        (p.1.key m p.2 512 0, (s.wrShadow r v n i 512 j).rdShadow p.1 m p.2) := rfl
    _ = some (r.key n i 512 j, v) := by rw [hp, Option.map_some, State.rdShadow_wrShadow_of_key s v hpkey, hpkey]

/-- Settles O54: a write of a shadow puts only the shadow, and an armed copy is taken from the shadow. -/
theorem shadowWritesWaitForTheirCommit : Obligations.ShadowWritesWaitForTheirCommit := by
  unfold Obligations.ShadowWritesWaitForTheirCommit
  intro s r v n i j p b
  obtain ⟨l, hw⟩ := s.wrShadow_eq r v n i 512 j
  refine ⟨by rw [hw], by rw [hw], by rw [hw], by rw [hw], rfl, rfl, rfl, rfl, ?_⟩
  intro m c k q hq hkey
  exact State.find_armedCopy_wrShadow s r v n i j m c hq hkey

end Sys2Proof.Machine

/-! A line whose layer's data the memory cannot serve waits: nothing is composed (R143, R335). -/
namespace Sys2Proof.Machine

/-- Station 0 composes a stack of one enabled layer over an active area of one pixel, while a retraining stalls its memory. -/
def composingInRetraining : State :=
  { State.reset with
    regs := [(Obj.COMPOSE_SOURCE.key 0 0 512 0, 2), (Obj.H_ACTIVE.key 0 0 512 0, 1), (Obj.V_ACTIVE.key 0 0 512 0, 1),
      (Obj.LAYER_ENABLE.key 0 4 512 0, 1), (Obj.BUF_PITCH.key 0 4 512 0, 256), (Obj.BUF_WIDTH.key 0 4 512 0, 1),
      (Obj.BUF_HEIGHT.key 0 4 512 0, 1), (Obj.SRC_W.key 0 4 512 0, 1), (Obj.SRC_H.key 0 4 512 0, 1), (Obj.DST_W.key 0 4 512 0, 1),
      (Obj.DST_H.key 0 4 512 0, 1), (Obj.MEM_STATE.key 0 0 512 0, 2)]
    comp := [(0, { composing := true, stackReady := true })]
    memc := [(0, { retraining := some { attempt := 1, startedAt := 0 } })] }

/-- The line waits: it needs the layer's data, and COMPOSE_LINE leaves the transom empty. -/
theorem transom_of_composeLine_in_retraining {t : State} (h : exec (.composeLine 0 []) composingInRetraining = .next t) :
    (t.cmp 0).transom = [] := by
  obtain rfl := Host.Outcome.next.inj h
  decide +kernel

/-- Refutes O11: a line that may run next, but whose data a retraining holds back, is not composed; no hypothesis asks that memory serves. -/
theorem not_compositionAdvances : ¬ Obligations.CompositionAdvances := by
  unfold Obligations.CompositionAdvances
  rintro ⟨-, -, -, -, -, -, -, hline, -⟩
  obtain ⟨t, ht, hcomposed, -⟩ := hline composingInRetraining 0 [] 0 (by decide +kernel)
  simp [transom_of_composeLine_in_retraining ht] at hcomposed

end Sys2Proof.Machine

/-! Mask bits, ready bits, and what the end of a result leaves (R476, R477, R484, R495). -/
namespace Sys2Proof.Machine

theorem bit_setBit (k v : Nat) : bit k (setBit k v) = true := by
  by_cases hset : v.testBit k = true
  · simp [bit, setBit, hset]
  · have hsum : v + 2 ^ k = 2 ^ k + v := Nat.add_comm _ _
    simp [bit, setBit, hset, hsum, Nat.testBit_two_pow_add_eq]

theorem bit_clearBit (k v : Nat) : bit k (clearBit k v) = false := by
  by_cases hset : v.testBit k = true
  · have hsum : 2 ^ k + (v - 2 ^ k) = v := Nat.add_sub_cancel' (Nat.ge_two_pow_of_testBit hset)
    have hflip := Nat.testBit_two_pow_add_eq (v - 2 ^ k) k
    rw [hsum, hset] at hflip
    simpa [bit, clearBit, hset] using hflip
  · simp [bit, clearBit, hset]

/-- A bit that was put reads as it was put. -/
@[simp] theorem bit_putBit (k : Nat) (b : Bool) (v : Nat) : bit k (putBit k b v) = b := by
  cases b with
  | true => exact bit_setBit k v
  | false => exact bit_clearBit k v

@[simp] theorem State.isStReady_stReady (s : State) (n k : Nat) (b : Bool) : (s.stReady n k b).isStReady n k = b := by
  rw [State.isStReady, State.rdN, State.stReady, State.rd_wr_self _ _ _ _ _ _ _ (.inl rfl), Int.toNat_natCast, bit_putBit]

/-- Ready words stand outside the station areas. -/
theorem State.rd_stReady_of_station (s : State) (m k : Nat) (b : Bool) {r : ObjRow} (hr : r.station = true) (n i t j : Nat) :
    (s.stReady m k b).rd r n i t j = s.rd r n i t j :=
  State.rd_wr_of_ne _ _ _ _ _ _ _ _ _ _ _ _ (.inl rfl) (by simp [ObjRow.key, hr, Obj.READY_STATION])

@[simp] theorem State.grd_wr (s : State) (r : ObjRow) (v : Int) (n i t j m : Nat) : (s.wr r v n i t j).grd m = s.grd m := by
  simp only [State.grd, State.guard_wr]

@[simp] theorem State.grd_stReady (s : State) (n k : Nat) (b : Bool) (m : Nat) : (s.stReady n k b).grd m = s.grd m := State.grd_wr ..

/-- Two states agree in the active copies of the objects of the stations (R5, R459). -/
def SameStationObjects (s t : State) : Prop := ∀ k : OKey, 8 ≤ k.area → t.regs.find k = s.regs.find k

theorem SameStationObjects.refl (s : State) : SameStationObjects s s := fun _ _ => rfl

theorem SameStationObjects.trans {a b c : State} (h : SameStationObjects a b) (g : SameStationObjects b c) : SameStationObjects a c :=
  fun k hk => (g k hk).trans (h k hk)

theorem SameStationObjects.ite {a b c : State} {p : Prop} [Decidable p] (hb : SameStationObjects a b) (hc : SameStationObjects a c) :
    SameStationObjects a (if p then b else c) := by split <;> assumption

theorem SameStationObjects.rd {s t : State} (h : SameStationObjects s t) {r : ObjRow} (hr : r.station = true) (n i q j : Nat) :
    t.rd r n i q j = s.rd r n i q j := by
  have harea : 8 ≤ (r.key n i q j).area := by simp [ObjRow.key, hr]
  simp only [State.rd, h _ harea]

/-- A write of an object outside the station areas. -/
theorem SameStationObjects.wr {a s : State} {r : ObjRow} (v : Int) (n i t j : Nat) (hr : r.saved = false ∧ r.station = false ∧ r.area < 8)
    (h : SameStationObjects a s) : SameStationObjects a (s.wr r v n i t j) := by
  obtain ⟨hsaved, hstation, harea⟩ := hr
  refine h.trans fun k hk => ?_
  rw [State.wr_find s r v n i t j k (.inl hsaved), if_neg]
  rintro rfl
  simp [ObjRow.key, hstation] at hk
  omega

theorem SameStationObjects.count {a s : State} {r : ObjRow} (n i t j k : Nat) (hr : r.saved = false ∧ r.station = false ∧ r.area < 8)
    (h : SameStationObjects a s) : SameStationObjects a (s.count r n i t j k) := .wr _ _ _ _ _ hr h

/-- The queues of notifications and their counts are no objects of a station (R606, R612). -/
theorem SameStationObjects.toTenant {a s : State} (t : Nat) (r : Rec) (h : SameStationObjects a s) : SameStationObjects a (s.toTenant t r) := by
  unfold State.toTenant State.countTenantItems
  refine .wr _ _ _ _ _ (by decide) (.wr _ _ _ _ _ (by decide) (.ite (.count _ _ _ _ _ (by decide) ?_) ?_))
  all_goals exact h

theorem SameStationObjects.toEnclave {a s : State} (e : Nat) (r : Rec) (h : SameStationObjects a s) :
    SameStationObjects a (s.toEnclave e r) := by
  unfold State.toEnclave
  refine .ite (.ite (.count _ _ _ _ _ (by decide) ?_) ?_) h
  all_goals exact h

theorem SameStationObjects.resultReady {a s : State} (k : OKey) (v : ResultSt) (h : SameStationObjects a s) :
    SameStationObjects a (s.resultReady k v) := by
  unfold State.resultReady
  dsimp only
  split
  exacts [.toTenant _ _ h, .toEnclave _ _ h, h, h, h, h]

theorem SameStationObjects.completeResult {a s : State} (r : ObjRow) (outcome n i t : Nat) (h : SameStationObjects a s) :
    SameStationObjects a (s.completeResult r outcome n i t) := .resultReady _ _ (h.trans fun _ _ => rfl)

/-- A station's result reads the outcome its operation ended with (R477). -/
theorem State.rd_finish (s : State) {r : ObjRow} (hstation : r.station = true) (hsaved : r.saved = false) (outcome n i t : Nat) :
    (s.finish r outcome n i t).rd r n i t = outcome :=
  (SameStationObjects.rd (.completeResult r outcome n i t (.refl _)) hstation n i t 0).trans (State.rd_wr_self _ _ _ _ _ _ _ (.inl hsaved))

/-- The end of an operation leaves every other object of the stations. -/
theorem State.rd_finish_of_ne (s : State) {r q : ObjRow} (hsaved : r.saved = false) (hq : q.station = true) (outcome : Nat)
    {n i t m i' t' j' : Nat} (hkey : q.key m i' t' j' ≠ r.key n i t 0) :
    (s.finish r outcome n i t).rd q m i' t' j' = s.rd q m i' t' j' :=
  (SameStationObjects.rd (.completeResult r outcome n i t (.refl _)) hq m i' t' j').trans
    (State.rd_wr_of_ne _ _ _ _ _ _ _ _ _ _ _ _ (.inl hsaved) hkey)

theorem State.isPending_of_results {s t : State} (h : t.results = s.results) (r : ObjRow) (n i q : Nat) :
    t.isPending r n i q = s.isPending r n i q := by
  rw [State.isPending, State.result, h]
  rfl

theorem State.isPending_startResult (s : State) (r : ObjRow) (who : Requester) (n i t : Nat) :
    (s.startResult r who n i t).isPending r n i t = true := by
  simp [State.isPending, State.result, State.startResult, FMap.getD_put]

/-- An operation that has ended is not pending (R477). -/
theorem State.isPending_finish (s : State) (r : ObjRow) (outcome n i t : Nat) : (s.finish r outcome n i t).isPending r n i t = false := by
  have hresults (u : State) (k : OKey) (v : ResultSt) : (u.resultReady k v).results = u.results :=
    State.resultReady_frame u k v (List.Subset.refl _) (.refl _ u) .results (by decide)
  simp only [State.isPending, State.result, State.finish, State.completeResult, hresults, FMap.getD_put, if_true, decide_eq_false_iff_not]
  split <;> decide

theorem State.grd_finish (s : State) (r : ObjRow) (outcome n i t m : Nat) : (s.finish r outcome n i t).grd m = s.grd m := by
  have hguard : (s.finish r outcome n i t).guard = s.guard :=
    State.finish_frame s r outcome n i t (List.Subset.refl _) (.refl _ s) .guard (by decide)
  rw [State.grd, hguard, State.grd]

theorem State.mem_finish (s : State) (r : ObjRow) (outcome n i t : Nat) : (s.finish r outcome n i t).mem = s.mem :=
  (State.finish_frame s r outcome n i t (List.Subset.refl _) (.refl _ s)).mem (by decide)

end Sys2Proof.Machine

/-! Loads of a region's reference pages (R158, R159, R160). -/
namespace Sys2Proof.Machine

/-- A write that is served and passes the checks has its object's own effect (R461). -/
theorem State.onWrite_of_accepts {s : State} {who : Requester} {r : ObjRow} {v : Int} {n i tq j : Nat} (h : s.accepts who r v n i tq j)
    (f : State → State) : s.onWrite who r v n i tq j f = f s := by
  obtain ⟨hserved, hcheck⟩ := h
  simp only [State.onWrite, State.onRequest, hserved, if_true, hcheck]

theorem exec_refLoadStart {s : State} {who : Requester} {n : Fin 8} (haccept : s.accepts who Obj.REF_LOAD_START 1 n)
    (hready : s.isStReady n 4 = true) : exec (.refLoadStart who n 1) s = .next (s.refStart n who) := by
  have hstart := State.onWrite_of_accepts haccept fun u => u.guarded (u.needStReady n 4) fun u => u.refStart n who
  exact congrArg Host.Outcome.next (hstart.trans (by simp only [State.guarded, State.needStReady, hready, if_true]))

/-- The load of a page that a write of `REF_LOAD_START` asks for (R159). -/
def State.askedLoad (s : State) (n : Nat) (who : Requester) : RefLoad :=
  let c := s.regionShadow n (s.rdN Obj.REF_LOAD_REGION n)
  { region := s.rdN Obj.REF_LOAD_REGION n, page := s.rdN Obj.REF_LOAD_PAGE n, first := c.base + s.rdN Obj.REF_LOAD_PAGE n * c.pageSize,
    count := c.pageSize, addr := s.rdN Obj.REF_LOAD_ADDR n, holder := s.writerOf who }

/-- The rule that the load asked for breaks, with its outcome (R159). -/
def State.askedRefusal (s : State) (n : Nat) (who : Requester) : Option Nat :=
  s.refRefusal n who (s.rdN Obj.REF_LOAD_REGION n) (s.rdN Obj.REF_LOAD_PAGE n) (s.rdN Obj.REF_LOAD_ADDR n)

/-- The load asked for is in progress, its result pending (R159, R477). -/
def State.loadStarted (s : State) (n : Nat) (who : Requester) : State :=
  (s.startResult Obj.REF_LOAD_RESULT who n).setGrd n { s.grd n with load := some (s.askedLoad n who) }

/-- Where no load is in progress and no rule is against the one asked for, it starts, with its page no longer loaded (R159, R160). -/
theorem State.refStart_of_allowed {s : State} {n : Nat} {who : Requester} (hidle : (s.grd n).load = none)
    (hallowed : s.askedRefusal n who = none) :
    s.refStart n who = ((s.loadStarted n who).putPageBit Obj.PAGES_LOADED n (s.rdN Obj.REF_LOAD_REGION n) (s.rdN Obj.REF_LOAD_PAGE n)
      false).answer .ok := by
  rw [State.askedRefusal] at hallowed
  simp only [State.refStart, hidle, hallowed, Option.isSome_none, Bool.false_eq_true, if_false]
  rfl

/-- Where no load is in progress, one against a rule ends at once with its outcome (R159). -/
theorem State.refStart_of_refused {s : State} {n r : Nat} {who : Requester} (hidle : (s.grd n).load = none)
    (hrefused : s.askedRefusal n who = some r) :
    s.refStart n who = ((s.startResult Obj.REF_LOAD_RESULT who n).finish Obj.REF_LOAD_RESULT r n).answer .ok := by
  rw [State.askedRefusal] at hrefused
  simp only [State.refStart, hidle, hrefused, Option.isSome_none, Bool.false_eq_true, if_false]

theorem State.rdN_putPageBit (s : State) {r : ObjRow} (hr : r.saved = false) (n g page : Nat) (b : Bool) :
    bit page ((s.putPageBit r n g page b).rdN r n g) = b := by
  rw [State.rdN, State.putPageBit, State.rd_wr_self _ _ _ _ _ _ _ (.inl hr), Int.toNat_natCast, bit_putBit]

/-- A load that starts is in progress as it was asked for, its result pending, its page no longer loaded (R159, R160). -/
theorem State.refStart_starts {s : State} {n : Nat} {who : Requester} (hidle : (s.grd n).load = none) (hallowed : s.askedRefusal n who = none) :
    ((s.refStart n who).grd n).load = some (s.askedLoad n who) ∧ (s.refStart n who).isPending Obj.REF_LOAD_RESULT n = true ∧
      bit (s.rdN Obj.REF_LOAD_PAGE n) ((s.refStart n who).rdN Obj.PAGES_LOADED n (s.rdN Obj.REF_LOAD_REGION n)) = false ∧
      answeredOk s (s.refStart n who) := by
  rw [State.refStart_of_allowed hidle hallowed]
  refine ⟨?_, ?_, State.rdN_putPageBit (s.loadStarted n who) rfl _ _ _ _, ?_⟩
  · exact congrArg Guard.load ((State.grd_wr ..).trans (State.grd_setGrd_self ..))
  · exact (State.isPending_of_results (State.results_wr ..) ..).trans (s.isPending_startResult Obj.REF_LOAD_RESULT who n 0 512)
  · exact congrArg (Emission.answer 0 0 0 [] :: ·) (State.out_wr ..)

/-- How a read of an entry ends does not depend on the guard engines. -/
theorem State.refRead_setGrd (s : State) (m : Nat) (g : Guard) (n : Nat) (l : RefLoad) (k : Nat) :
    (s.setGrd m g).refRead n l k = s.refRead n l k := rfl

@[simp] theorem State.grd_noteTag (s : State) (n a len tag m : Nat) : (s.noteTag n a len tag).grd m = s.grd m := by
  unfold State.noteTag
  split
  exacts [State.grd_wr .., rfl]

/-- The entry that a value read from memory spells (R158). -/
def refEntryOf (v : Nat) : RefEntry := ⟨bits 31 0 v, bit 32 v, false⟩

/-- A load goes on past an entry that is read, with the entry in its place. -/
theorem State.refEntries_succ_of_read {s : State} {n k v : Nat} {l : RefLoad} (hread : s.refRead n l k = .ok v) (left : Nat) :
    s.refEntries n l (left + 1) k
      = (s.setGrd n { s.grd n with refs := (s.grd n).refs.put (l.first + k) (refEntryOf v) }).refEntries n l left (k + 1) := by
  rw [State.refEntries, hread]
  rfl

/-- Entries below the one a load stands at are not touched any more. -/
theorem State.refs_refEntries_of_lt (s : State) (n : Nat) (l : RefLoad) (left k : Nat) {q : Nat} (hq : q < l.first + k) :
    ((s.refEntries n l left k).1.grd n).refs.getD q {} = (s.grd n).refs.getD q {} := by
  induction left generalizing s k with
  | zero => rfl
  | succ left ih =>
    cases hread : s.refRead n l k with
    | error o => simp [State.refEntries, hread]
    | ok v =>
      rw [State.refEntries_succ_of_read hread, ih _ _ (by omega), State.grd_setGrd_self, FMap.getD_put, if_neg (by omega)]

/-- A load whose entries are readable is not stopped. -/
theorem State.refEntries_outcome {s : State} {n : Nat} {l : RefLoad} {left k : Nat}
    (h : ∀ i, k ≤ i → i < k + left → ∃ v, s.refRead n l i = .ok v) :
    (s.refEntries n l left k).2 = refOk := by
  induction left generalizing s k with
  | zero => rfl
  | succ left ih =>
    obtain ⟨v, hread⟩ := h k (Nat.le_refl k) (by omega)
    rw [State.refEntries_succ_of_read hread]
    refine ih fun i hlow hhigh => ?_
    rw [State.refRead_setGrd]
    exact h i (by omega) (by omega)

/-- A load whose entries are readable puts each in its place (R158). -/
theorem State.refs_refEntries_of_read {s : State} {n : Nat} {l : RefLoad} {left k : Nat}
    (h : ∀ i, k ≤ i → i < k + left → ∃ v, s.refRead n l i = .ok v) {i v : Nat} (hlow : k ≤ i) (hhigh : i < k + left)
    (hv : s.refRead n l i = .ok v) : ((s.refEntries n l left k).1.grd n).refs.getD (l.first + i) {} = refEntryOf v := by
  induction left generalizing s k with
  | zero => omega
  | succ left ih =>
    obtain ⟨w, hread⟩ := h k (Nat.le_refl k) (by omega)
    rw [State.refEntries_succ_of_read hread]
    obtain rfl | hlater := Nat.eq_or_lt_of_le hlow
    · obtain rfl : v = w := Except.ok.inj (hv.symm.trans hread)
      rw [State.refs_refEntries_of_lt _ _ _ _ _ (by omega), State.grd_setGrd_self, FMap.getD_put, if_pos rfl]
    · refine ih (fun x hx hx' => ?_) hlater (by omega) (by rw [State.refRead_setGrd, hv])
      rw [State.refRead_setGrd]
      exact h x (by omega) (by omega)

/-- The state in which a load whose entries are all in place has ended: its page is loaded and not damaged (R160, R162). -/
def State.pageLoaded (s : State) (n : Nat) (l : RefLoad) : State :=
  ((s.setGrd n { s.grd n with load := none }).putPageBit Obj.PAGES_LOADED n l.region l.page true).putPageBit Obj.PAGES_DAMAGED n l.region
    l.page false

theorem State.refDone_of_read {s : State} {n : Nat} {l : RefLoad} (hload : (s.grd n).load = some l)
    (h : ∀ i < l.count, ∃ v, s.refRead n l i = .ok v) :
    s.refDone n = ((s.refEntries n l l.count 0).1.pageLoaded n l).finish Obj.REF_LOAD_RESULT refOk n := by
  have hok : (s.refEntries n l l.count 0).2 = refOk := State.refEntries_outcome fun i _ hi => h i (by omega)
  simp only [State.refDone, hload, hok, if_true]
  rfl

theorem State.grd_pageLoaded (s : State) (n : Nat) (l : RefLoad) : (s.pageLoaded n l).grd n = { s.grd n with load := none } := by
  simp only [State.pageLoaded, State.putPageBit, State.grd_wr, State.grd_setGrd_self]

theorem State.bit_pageLoaded (s : State) (n : Nat) (l : RefLoad) : bit l.page ((s.pageLoaded n l).rdN Obj.PAGES_LOADED n l.region) = true := by
  have hother (u : State) (v : Int) : (u.wr Obj.PAGES_DAMAGED v n l.region).rd Obj.PAGES_LOADED n l.region = u.rd Obj.PAGES_LOADED n l.region :=
    State.rd_wr_of_ne _ _ _ _ _ _ _ _ _ _ _ _ (.inl rfl) (by simp [ObjRow.key, Obj.PAGES_LOADED, Obj.PAGES_DAMAGED])
  rw [State.rdN, State.pageLoaded, State.putPageBit, hother]
  exact State.rdN_putPageBit _ rfl n l.region l.page true

/-- A load whose entries are readable ends with outcome 0, its page loaded and each entry in its place (R158, R160). -/
theorem State.refDone_loads {s : State} {n : Nat} {l : RefLoad} (hload : (s.grd n).load = some l)
    (h : ∀ i < l.count, ∃ v, s.refRead n l i = .ok v) :
    ((s.refDone n).grd n).load = none ∧ (s.refDone n).rd Obj.REF_LOAD_RESULT n = 0 ∧
      bit l.page ((s.refDone n).rdN Obj.PAGES_LOADED n l.region) = true ∧
      ∀ i v, i < l.count → s.refRead n l i = .ok v → ((s.refDone n).grd n).refs.getD (l.first + i) {} = refEntryOf v := by
  rw [State.refDone_of_read hload h]
  simp only [State.grd_finish, State.grd_pageLoaded]
  refine ⟨trivial, State.rd_finish _ rfl rfl _ _ _ _, ?_, fun i v hi hv => ?_⟩
  · rw [State.rdN, State.rd_finish_of_ne _ rfl rfl _ (by simp [ObjRow.key, Obj.PAGES_LOADED, Obj.REF_LOAD_RESULT])]
    exact State.bit_pageLoaded _ n l
  · exact State.refs_refEntries_of_read (fun j _ hj => h j (by omega)) (Nat.zero_le i) (by omega) hv

end Sys2Proof.Machine

/-! The safe store: a whole content in one segment, and the end of its check (R172, R173, R177, R472). -/
namespace Sys2Proof.Machine

/-- The place of a station's safe store, as a requester names it (R177). -/
def safePlace (who : Requester) (n : Nat) : Place := ⟨Obj.SAFE_STORE, n, 0, 0, who.instanceOf 512⟩

@[simp] theorem r_safePlace (who : Requester) (n : Nat) : (safePlace who n).r = Obj.SAFE_STORE := rfl

theorem lookupRow_safeStore : ∀ n : Fin 8, lookupRow (8 + n) 0x2160 0 = some (Obj.SAFE_STORE, n.val, 0, 0) := by decide +kernel

theorem State.place_safeStore (s : State) (who : Requester) (n : Fin 8) : s.place who (8 + n) 0x2160 0 512 = .ok (safePlace who n) := by
  rw [State.place, lookupRow_safeStore]
  rfl

/-- Where nothing is staged, a segment at offset 0 that is the last and holds the whole value writes it (R472, R473). -/
theorem State.writeSegment_whole {s : State} (hstaging : s.staging = []) (who : Requester) (p : Place) {total : Nat} {data : Bytes}
    (hlen : data.length = total) (hmax : total ≤ blobMax p.r) (hroom : total ≤ 33554432) (env : WriteEnv) :
    s.writeSegment who p 0 true total data env = s.writeBlob who p data env := by
  have hdrop : s.staging.del p.key = s.staging := by rw [hstaging]; rfl
  have hlive : s.liveStage p.key = none := by rw [State.liveStage, hstaging]; rfl
  have hstaged : s.stagedTotal = 0 := by rw [State.stagedTotal, hstaging]; rfl
  simp [State.writeSegment, hlive, hdrop, hstaged, hlen, Nat.not_lt.mpr hmax, Nat.not_lt.mpr hroom]

/-- No block that can be held is behind the safe store (R463). -/
theorem State.heldCheck_safeStore (s : State) (who : Requester) (n : Nat) : s.heldCheck who n (Obj.SAFE_STORE.need 0 0) = none := by
  have hneed : Obj.SAFE_STORE.need 0 0 = .openLevel := by decide
  rw [hneed]
  cases who <;> rfl

/-- A whole content of the safe store that may be written goes to its check (R177). -/
theorem State.writeBlob_safeStore {s : State} {who : Requester} {n : Nat} (hserved : s.served who = true)
    (haccess : s.placeAccess who (safePlace who n) true = none) {b : Bytes} (hlen : b.length ≤ 524288) (env : WriteEnv) :
    s.writeBlob who (safePlace who n) b env = (s.safeLoading n b).answer .ok := by
  have hplain : blobHandlers.find? (fun h => h.1 = Obj.SAFE_STORE) = none := by decide
  have hsize : blobSizeOk Obj.SAFE_STORE b.length = true := decide_eq_true hlen
  have hrule : s.blobRule who (safePlace who n) b = none := s.heldCheck_safeStore who n
  have happly : s.applyBlob (safePlace who n) b = s.safeLoading n b := rfl
  rw [State.writeBlob, r_safePlace, hplain]
  simp only [State.plainBlob, State.onRequest, hserved, haccess, r_safePlace, hsize, hrule, happly,
    State.guarded, if_true, Bool.not_true, Bool.false_eq_true, if_false]

/-- A segment at offset 0, LAST, that spells its own total is a whole content of the safe store (R177, R472). -/
theorem exec_safeStore_whole {s : State} {who : Requester} {n : Fin 8} {data : Bytes} (hserved : s.served who = true)
    (hfree : s.isQuarantined who = false) (haccess : s.placeAccess who (safePlace who n) true = none) (hstaging : s.staging = [])
    (hfront : 4 ≤ data.length) (htotal : ofBE (data.take 4) = data.length - 4) (hlen : data.length ≤ 524292) :
    exec (.safeStore who n 0 true data) s = .next ((s.safeLoading n (data.drop 4)).answer .ok) := by
  have hmax : blobMax Obj.SAFE_STORE = 524288 := by decide
  have hwhole := State.writeSegment_whole hstaging who (safePlace who n) (total := ofBE (data.take 4)) (data := data.drop 4)
    (by rw [List.length_drop, htotal]) (by rw [r_safePlace, hmax]; omega) (by omega) {}
  rw [State.writeBlob_safeStore hserved haccess (by rw [List.length_drop]; omega)] at hwhole
  change execSafeStore who n 0 true data s = _
  rw [← hwhole]
  simp [execSafeStore, State.dictWrite, State.onRequest, hserved, hfree, State.place_safeStore, haccess, Nat.not_lt.mpr hfront,
    show Obj.SAFE_STORE.ty = .blob from rfl]

theorem State.blob_wrBlob_self (s : State) (r : ObjRow) (b : Bytes) (n i t j : Nat) : (s.wrBlob r b n i t j).blob r n i t j = b := by
  simp only [State.blob, State.wrBlob, State.noteChange, State.noteSaved]
  split <;> simp

@[simp] theorem State.blob_wr (s : State) (r q : ObjRow) (v : Int) (n i t j m i' t' j' : Nat) :
    (s.wr r v n i t j).blob q m i' t' j' = s.blob q m i' t' j' := by
  simp only [State.blob, State.blobs_wr]

@[simp] theorem State.blob_stReady (s : State) (n k : Nat) (b : Bool) (r : ObjRow) (m i t j : Nat) :
    (s.stReady n k b).blob r m i t j = s.blob r m i t j := State.blob_wr ..

/-- A content that goes to its check is pending, the store in LOADING and not ready (R177, R496). -/
theorem State.safeLoading_puts (s : State) (n : Nat) (b : Bytes) :
    (s.safeLoading n b).rd Obj.SAFE_STORE_STATE n = (ssLoading : Nat) ∧ ((s.safeLoading n b).grd n).safePending = some b ∧
      (s.safeLoading n b).isStReady n 5 = false ∧ (s.safeLoading n b).out = s.out := by
  refine ⟨?_, ?_, State.isStReady_stReady .., ?_⟩
  · exact (State.rd_stReady_of_station _ _ _ _ rfl ..).trans (State.rd_wr_self _ _ _ _ _ _ _ (.inl rfl))
  · simp [State.safeLoading]
  · simp [State.safeLoading, State.stReady]

/-- A content put in force is what the store holds; its state and its ready bit are the outcome of the check (R176, R177). -/
theorem State.putSafe_puts (s : State) (n : Nat) (b : Bytes) :
    ((s.putSafe n b).grd n) = s.grd n ∧ (s.putSafe n b).blob Obj.SAFE_STORE n = b ∧
      (s.putSafe n b).rd Obj.SAFE_STORE_STATE n = (safeCheck b : Nat) ∧ (s.putSafe n b).isStReady n 5 = decide (safeCheck b = ssValid) := by
  refine ⟨?_, ?_, ?_, State.isStReady_stReady ..⟩
  · have hframe := State.putSafe_frame s n b (List.Subset.refl _) (.refl _ s)
    exact congrArg (FMap.getD · n {}) (hframe .guard (by decide))
  · have hblob := State.blob_wrBlob_self s Obj.SAFE_STORE b n 0 512 0
    exact (State.blob_stReady ..).trans ((State.blob_wr ..).trans hblob)
  · exact (State.rd_stReady_of_station _ _ _ _ rfl ..).trans (State.rd_wr_self _ _ _ _ _ _ _ (.inl rfl))

/-- The check of a pending content puts it in force (R177). -/
theorem State.safeChecked_of_pending {s : State} {n : Nat} {b : Bytes} (h : (s.grd n).safePending = some b) :
    s.safeChecked n = (s.setGrd n { s.grd n with safePending := none }).putSafe n b := by
  simp only [State.safeChecked, h]

end Sys2Proof.Machine

namespace Sys2Proof.Machine

/-- Settles O12: each request is its operation on the guard engine; the entries of a load stay where they were put
(`refs_refEntries_of_read`), and a whole safe store passes the staging at once (`writeSegment_whole`). -/
theorem guardReferencesAndSafeStoreLoad : Obligations.GuardReferencesAndSafeStoreLoad := by
  unfold Obligations.GuardReferencesAndSafeStoreLoad
  refine ⟨?started, ?refused, ?done, ?stored, ?checked⟩
  case started =>
    intro s who n haccept hready hidle hallowed
    obtain ⟨hload, hpending, hpage, hanswer⟩ := State.refStart_starts hidle hallowed
    exact ⟨_, exec_refLoadStart haccept hready, by rw [hload]; rfl, hpending, hpage, hanswer⟩
  case refused =>
    intro s who n r haccept hready hidle hrefused
    refine ⟨_, exec_refLoadStart haccept hready, ?_⟩
    rw [State.refStart_of_refused hidle hrefused]
    refine ⟨State.rd_finish _ rfl rfl _ _ _ _, State.isPending_finish _ _ _ _ _ _, ?_, State.mem_finish _ _ _ _ _ _⟩
    exact (congrArg Guard.load (State.grd_finish _ _ _ _ _ _ _)).trans hidle
  case done =>
    intro s n l hload hserves hreadable
    have hread (i : Nat) (hi : i < l.count) : ∃ v, s.refRead n l i = .ok v := by
      have hsome := hreadable i (List.mem_range.mpr hi)
      cases hcase : s.refRead n l i with
      | error o => simp [hcase, Except.toOption] at hsome
      | ok v => exact ⟨v, rfl⟩
    obtain ⟨hover, hresult, hpage, hrefs⟩ := State.refDone_loads hload hread
    refine ⟨s.refDone n, congrArg Host.Outcome.next (if_pos hserves), hover, hresult, hpage, fun i hi => ?_, ?_⟩
    · obtain ⟨v, hv⟩ := hread i (List.mem_range.mp hi)
      rw [hrefs i v (List.mem_range.mp hi) hv, hv]
      rfl
    · exact (State.refDone_frame s n (List.Subset.refl _) (.refl _ s)).mem (by decide)
  case stored =>
    intro s who n data hserved hfree haccess hstaging hfront htotal hlen
    obtain ⟨hstate, hpending, hready, hout⟩ := s.safeLoading_puts n (data.drop 4)
    exact ⟨_, exec_safeStore_whole hserved hfree haccess hstaging hfront htotal hlen, hstate, hpending, hready,
      congrArg (Emission.answer 0 0 0 [] :: ·) hout⟩
  case checked =>
    intro s n b hpending
    obtain ⟨hgrd, hblob, hstate, hready⟩ := (s.setGrd n { s.grd n with safePending := none }).putSafe_puts n b
    refine ⟨_, congrArg Host.Outcome.next (State.safeChecked_of_pending hpending), ?_, hblob, hstate, hready⟩
    rw [hgrd, State.grd_setGrd_self]

end Sys2Proof.Machine

/-! What records, alarms and ready bits leave of the objects of the stations (R459, R516, R606). -/
namespace Sys2Proof.Machine

theorem Frame.dsp {ps : List Part} {s t : State} (h : Frame ps s t) (hq : .display ∉ ps) (n : Nat) : t.dsp n = s.dsp n := by
  rw [State.dsp, h.disp hq, State.dsp]

theorem SameStationObjects.withAlarms {a s : State} (v : AlarmState) (h : SameStationObjects a s) :
    SameStationObjects a { s with alarms := v } := h

theorem SameStationObjects.startTimer {a s : State} (k : Timer) (h : SameStationObjects a s) : SameStationObjects a (s.startTimer k) := h

theorem SameStationObjects.emit {a s : State} (e : Emission) (h : SameStationObjects a s) : SameStationObjects a (s.emit e) := h

theorem SameStationObjects.drive {a s : State} (e : Nat) (level : Bool) (n : Nat) (h : SameStationObjects a s) :
    SameStationObjects a (s.drive e level n) := h

theorem SameStationObjects.each {α : Type} {a s : State} (l : List α) {f : State → α → State}
    (hf : ∀ u x, SameStationObjects a u → SameStationObjects a (f u x)) (h : SameStationObjects a s) :
    SameStationObjects a (s.each l f) := by
  unfold State.each
  induction l generalizing s with
  | nil => exact h
  | cons x l ih => exact ih (hf s x h)

theorem SameStationObjects.toStationLog {a s : State} (n : Nat) (r : Rec) (h : SameStationObjects a s) :
    SameStationObjects a (s.toStationLog n r) := by
  unfold State.toStationLog
  exact .ite (.count _ _ _ _ _ (by decide) (.wr _ _ _ _ _ (by decide) h)) (.wr _ _ _ _ _ (by decide) h)

theorem SameStationObjects.toHolder {a s : State} (n : Nat) (d : Holder) (r : Rec) (h : SameStationObjects a s) :
    SameStationObjects a (s.toHolder n d r) := by
  cases d with
  | tenant t => exact .toTenant t _ h
  | enclave e => exact .toEnclave e r h
  | manager => exact .toStationLog n r h
  | nobody => exact h

theorem SameStationObjects.noteStation {a s : State} (n code prio : Nat) (fields : List (Nat × Nat)) (h : SameStationObjects a s) :
    SameStationObjects a (s.noteStation n code prio fields) := by
  unfold State.noteStation
  exact .toStationLog _ _ (.each _ (fun _ t hu => .toTenant t _ hu) h)

theorem SameStationObjects.stReady {a s : State} (n k : Nat) (b : Bool) (h : SameStationObjects a s) : SameStationObjects a (s.stReady n k b) :=
  .wr _ _ _ _ _ (by decide) h

theorem SameStationObjects.alarmSummary {a s : State} (h : SameStationObjects a s) : SameStationObjects a s.alarmSummary := by
  unfold State.alarmSummary
  exact .drive _ _ _ (.each _ (fun _ _ hu => .wr _ _ _ _ _ (by decide) hu) h)

theorem SameStationObjects.enterAlarm {a s : State} (m : Alarm) (h : SameStationObjects a s) : SameStationObjects a (s.enterAlarm m) := by
  unfold State.enterAlarm
  refine .alarmSummary (.emit _ ?_)
  exact .ite (.count _ _ _ _ _ (by decide) (.wr _ _ _ _ _ (by decide) h)) (.wr _ _ _ _ _ (by decide) h)

theorem SameStationObjects.mergeAlarm {a s : State} (m : Alarm) (h : SameStationObjects a s) : SameStationObjects a (s.mergeAlarm m) := by
  unfold State.mergeAlarm
  split
  · exact .withAlarms _ h
  · exact .ite (.enterAlarm m h) (.withAlarms _ (.enterAlarm m h))

theorem SameStationObjects.noteInForce {a s : State} (m : Alarm) (h : SameStationObjects a s) : SameStationObjects a (s.noteInForce m) := by
  unfold State.noteInForce
  exact .ite (.withAlarms _ h) (.ite (.withAlarms _ h) h)

/-- Alarms are no objects of a station (R516, R518, R654). -/
theorem SameStationObjects.alarm {a s : State} (code st station detail : Nat) (h : SameStationObjects a s) :
    SameStationObjects a (s.alarm code st station detail) := by
  unfold State.alarm State.holdAlarm
  exact .ite (.alarmSummary (.mergeAlarm _ (.noteInForce _ h))) (.withAlarms _ (.noteInForce _ h))

theorem SameStationObjects.clearAlarm {a s : State} (code station detail : Nat) (h : SameStationObjects a s) :
    SameStationObjects a (s.clearAlarm code station detail) := .ite (.alarm _ _ _ _ h) h

end Sys2Proof.Machine

/-! Reads of a station's objects after writes, by number and subindex (R4, R459). -/
namespace Sys2Proof.Machine

/-- The number and subindex of an object (R4). -/
def ObjRow.place (r : ObjRow) : Nat × Nat := (r.idx, r.sub)

theorem ObjRow.key_ne_of_place {q r : ObjRow} (h : q.place ≠ r.place) (m n t u : Nat) : q.key m 0 t 0 ≠ r.key n 0 u 0 := by
  intro hkey
  obtain ⟨-, hidx, hsub, -⟩ := OKey.mk.inj hkey
  exact h (Prod.ext hidx hsub)

theorem State.rd_wr_of_place (s : State) {r q : ObjRow} (v : Int) (n m : Nat) (hr : r.saved = false) (h : q.place ≠ r.place) :
    (s.wr r v n).rd q m = s.rd q m :=
  State.rd_wr_of_ne _ _ _ _ _ _ _ _ _ _ _ _ (.inl hr) (ObjRow.key_ne_of_place h _ _ _ _)

theorem State.rd_count_of_place (s : State) {r q : ObjRow} (n m : Nat) (hr : r.saved = false) (h : q.place ≠ r.place) :
    (s.count r n).rd q m = s.rd q m := s.rd_wr_of_place _ n m hr h

theorem State.rd_wr_row (s : State) {r : ObjRow} (v : Int) (n : Nat) (hr : r.saved = false) : (s.wr r v n).rd r n = v :=
  State.rd_wr_self _ _ _ _ _ _ _ (.inl hr)

theorem State.rd_count_row (s : State) {r : ObjRow} (n : Nat) (hr : r.saved = false) :
    (s.count r n).rd r n = (satInc r.width (s.rdN r n) 1 : Nat) := s.rd_wr_row _ n hr

@[simp] theorem State.rd_setDsp (s : State) (n : Nat) (v : Display) (r : ObjRow) (m i t j : Nat) :
    (s.setDsp n v).rd r m i t j = s.rd r m i t j := rfl

@[simp] theorem State.rd_emit (s : State) (e : Emission) (r : ObjRow) (m i t j : Nat) : (s.emit e).rd r m i t j = s.rd r m i t j := rfl

@[simp] theorem State.rd_answer (s : State) (st : Status) (d : Bytes) (a : Nat) (r : ObjRow) (m i t j : Nat) :
    (s.answer st d a).rd r m i t j = s.rd r m i t j := rfl

theorem State.rd_alarm (s : State) (code st station detail : Nat) {r : ObjRow} (hr : r.station = true) (m : Nat) :
    (s.alarm code st station detail).rd r m = s.rd r m := SameStationObjects.rd (.alarm _ _ _ _ (.refl s)) hr m 0 512 0

/-- An event that merges in its crossing is counted; no other object of the stations changes (R593). -/
theorem State.rd_stationEvent (s : State) (k : CrossKey) (n : Nat) {r : ObjRow} (hr : r.place ≠ Obj.EVENT_MERGES.place) (m : Nat) :
    (s.stationEvent k n).rd r m = s.rd r m := by
  have hcross := (State.cross_frame s k 0 (.refl _) (.refl _ s)).regs (by decide)
  unfold State.stationEvent
  split
  next u hu =>
    rw [hu] at hcross
    exact (u.rd_count_of_place n m rfl hr).trans (State.rd_of_regs hcross ..)
  next u hu =>
    rw [hu] at hcross
    exact State.rd_of_regs hcross ..

@[simp] theorem State.dsp_wr (s : State) (r : ObjRow) (v : Int) (n i t j m : Nat) : (s.wr r v n i t j).dsp m = s.dsp m := by
  simp only [State.dsp, State.disp_wr]

@[simp] theorem State.dsp_count (s : State) (r : ObjRow) (n i t j k m : Nat) : (s.count r n i t j k).dsp m = s.dsp m := State.dsp_wr ..

@[simp] theorem State.dsp_emit (s : State) (e : Emission) (m : Nat) : (s.emit e).dsp m = s.dsp m := rfl

@[simp] theorem State.dsp_answer (s : State) (st : Status) (d : Bytes) (a m : Nat) : (s.answer st d a).dsp m = s.dsp m := rfl

@[simp] theorem State.dsp_startTimer (s : State) (k : Timer) (m : Nat) : (s.startTimer k).dsp m = s.dsp m := rfl

@[simp] theorem State.dsp_alarm (s : State) (code st station detail m : Nat) : (s.alarm code st station detail).dsp m = s.dsp m :=
  (State.alarm_frame s code st station detail (.refl _) (.refl _ s)).dsp (by decide) m

end Sys2Proof.Machine

/-! The output's state, its judgement of a sink, and the end of self-refresh (R205, R211, R213). -/
namespace Sys2Proof.Machine

theorem State.output_of_rd {s t : State} {n : Nat} (h : t.rd Obj.OUTPUT_STATE n = s.rd Obj.OUTPUT_STATE n) : t.output n = s.output n := by
  rw [State.output, State.rdN, h, State.output, State.rdN]

@[simp] theorem State.output_emit (s : State) (e : Emission) (n : Nat) : (s.emit e).output n = s.output n := rfl

@[simp] theorem State.output_answer (s : State) (st : Status) (d : Bytes) (a n : Nat) : (s.answer st d a).output n = s.output n := rfl

@[simp] theorem State.output_alarm (s : State) (code st station detail n : Nat) : (s.alarm code st station detail).output n = s.output n :=
  State.output_of_rd (s.rd_alarm code st station detail rfl n)

/-- What a change of the output's state writes besides the state is no object of a station. -/
theorem State.setOutput_sameStationObjects {s : State} {n st : Nat} (h : s.output n ≠ st) (cause : Nat) :
    SameStationObjects (s.wr Obj.OUTPUT_STATE st n) (s.setOutput n st cause) := by
  have hnoted : SameStationObjects (s.wr Obj.OUTPUT_STATE st n)
      (((s.wr Obj.OUTPUT_STATE st n).noteStation n 0x000B 1 [(st, 4), (cause, 4)]).stReady n 6 (st ≠ outOff)) :=
    .stReady _ _ _ (.noteStation _ _ _ _ (.refl _))
  rw [State.setOutput, if_neg h]
  refine .ite (.clearAlarm _ _ _ (.clearAlarm _ _ _ ?_)) ?_
  all_goals exact .ite (.startTimer _ hnoted) hnoted

@[simp] theorem State.output_setOutput (s : State) (n st cause : Nat) : (s.setOutput n st cause).output n = st := by
  by_cases h : s.output n = st
  · rw [State.setOutput, if_pos h, h]
  · rw [State.output, State.rdN, (State.setOutput_sameStationObjects h cause).rd rfl, State.rd_wr_row _ _ _ rfl, Int.toNat_natCast]

theorem State.rd_setOutput (s : State) (n st cause : Nat) {r : ObjRow} (hr : r.station = true) (hplace : r.place ≠ Obj.OUTPUT_STATE.place)
    (m : Nat) : (s.setOutput n st cause).rd r m = s.rd r m := by
  by_cases h : s.output n = st
  · rw [State.setOutput, if_pos h]
  · rw [(State.setOutput_sameStationObjects h cause).rd hr, s.rd_wr_of_place _ _ _ rfl hplace]

@[simp] theorem State.dsp_setOutput (s : State) (n st cause m : Nat) : (s.setOutput n st cause).dsp m = s.dsp m :=
  (State.setOutput_frame s n st cause (.refl _) (.refl _ s)).dsp (by decide) m

@[simp] theorem State.dsp_leaveRefresh (s : State) (n : Nat) :
    (s.leaveRefresh n).dsp n = { s.dsp n with psrLast := false, psrStopped := false } := State.dsp_setDsp_self ..

theorem State.rd_leaveRefresh (s : State) (n : Nat) {r : ObjRow} (hr : r.place ≠ Obj.REFRESH_STATE.place) (m : Nat) :
    (s.leaveRefresh n).rd r m = s.rd r m := by
  unfold State.leaveRefresh
  rw [State.rd_setDsp]
  split
  · exact s.rd_wr_of_place _ _ _ rfl hr
  · rfl

/-- The configurations to try follow from the objects of a mode, the sink's report and its DSC (R195). -/
theorem linkOrder_congr {f g : ObjRow → Nat} (h : ∀ r ∈ modeRows, f r = g r) (reported : Nat × Nat → Bool) (sinkDsc : Bool) :
    linkOrder f reported sinkDsc = linkOrder g reported sinkDsc := by
  have hkind := h Obj.OUTPUT_KIND (by decide)
  have hrate := h Obj.MAX_LINK_RATE (by decide)
  have hlanes := h Obj.MAX_LANES (by decide)
  have hmode := h Obj.DSC_MODE (by decide)
  have hwide := h Obj.H_ACTIVE (by decide)
  have hhigh := h Obj.V_ACTIVE (by decide)
  have hclock := h Obj.PIXEL_CLOCK_KHZ (by decide)
  have hbpc := h Obj.LINK_BPC (by decide)
  have hbpp := h Obj.DSC_BPP_X16 (by decide)
  have hslices := h Obj.DSC_SLICES (by decide)
  simp only [linkOrder, carriesPlain, carriesDsc, dscValid, hkind, hrate, hlanes, hmode, hwide, hhigh, hclock, hbpc, hbpp, hslices]

/-- The objects of a mode are of the stations, and none of those by which the output reports its state, its link and a commit. -/
theorem modeRows_apart : ∀ r ∈ modeRows, r.station = true ∧ r.place ≠ Obj.OUTPUT_STATE.place ∧ r.place ≠ Obj.LINK_CONFIG.place ∧
    r.place ≠ Obj.MODE_RESULT.place := by decide

/-- What a sink may be driven with stays while the objects of the mode, its capabilities and its configurations do. -/
theorem State.candidates_congr {s t : State} {n : Nat} (hrows : ∀ r ∈ modeRows, t.rd r n = s.rd r n)
    (hcaps : t.rd Obj.SINK_CAPS n = s.rd Obj.SINK_CAPS n) (hconfigs : (t.dsp n).sinkConfigs = (s.dsp n).sinkConfigs) :
    t.candidates n = s.candidates n := by
  have hlink : ∀ r ∈ modeRows, t.linkGet n r = s.linkGet n r := fun r hr => congrArg Int.toNat (hrows r hr)
  have hdsc : t.rdN Obj.SINK_CAPS n = s.rdN Obj.SINK_CAPS n := congrArg Int.toNat hcaps
  rw [State.candidates, linkOrder_congr hlink, hconfigs, hdsc, State.candidates]

@[simp] theorem State.dsp_judgeSink (s : State) (n m : Nat) : (s.judgeSink n).dsp m = s.dsp m :=
  (State.judgeSink_frame s n (.refl _) (.refl _ s)).dsp (by decide) m

theorem State.rd_judgeSink (s : State) (n : Nat) {r : ObjRow} (hr : r.station = true) (hplace : r.place ≠ Obj.OUTPUT_STATE.place) (m : Nat) :
    (s.judgeSink n).rd r m = s.rd r m := by
  unfold State.judgeSink
  split_ifs
  · rfl
  · rw [State.rd_alarm _ _ _ _ _ hr, State.rd_setOutput _ _ _ _ hr hplace]
  · exact s.rd_setOutput _ _ _ hr hplace m

theorem State.candidates_judgeSink (s : State) (n : Nat) : (s.judgeSink n).candidates n = s.candidates n := by
  refine State.candidates_congr (fun r hr => ?_) (s.rd_judgeSink n rfl (by decide) n) (by rw [State.dsp_judgeSink])
  obtain ⟨hstation, houtput, -⟩ := modeRows_apart r hr
  exact s.rd_judgeSink n hstation houtput n

/-- A judged sink trains where some configuration carries the mode, and fails where none does (R211). -/
theorem State.output_judgeSink (s : State) (n : Nat) :
    (s.judgeSink n).output n = if (s.candidates n).isEmpty then outLinkFail else outTraining := by
  unfold State.judgeSink
  split_ifs with hnone hfail
  · exact hfail
  · rw [State.output_alarm, State.output_setOutput]
  · exact State.output_setOutput ..

end Sys2Proof.Machine

/-! The values of an accepted mode come into force (R215). -/
namespace Sys2Proof.Machine

section Folds
variable {κ α : Type} [DecidableEq κ]

/-- A store keeps its value of a key that none of the entries put into it names. -/
theorem FMap.find_foldl_put_of_notMem (l : List (κ × α)) (m : FMap κ α) {k : κ} (h : k ∉ l.map Prod.fst) :
    FMap.find (l.foldl (fun m e => m.put e.1 e.2) m) k = m.find k := by
  induction l generalizing m with
  | nil => rfl
  | cons e l ih =>
    obtain ⟨hhead, htail⟩ : k ≠ e.1 ∧ k ∉ l.map Prod.fst := by simpa only [List.map_cons, List.mem_cons, not_or] using h
    exact (ih (m.put e.1 e.2) htail).trans (FMap.find_put_of_ne _ _ hhead)

/-- Of entries with different keys a store holds each value put into it. -/
theorem FMap.find_foldl_put_of_mem (l : List (κ × α)) (m : FMap κ α) (hl : (l.map Prod.fst).Nodup) {k : κ} {v : α} (h : (k, v) ∈ l) :
    FMap.find (l.foldl (fun m e => m.put e.1 e.2) m) k = some v := by
  induction l generalizing m with
  | nil => simp at h
  | cons e l ih =>
    obtain ⟨hhead, htail⟩ := List.nodup_cons.mp hl
    obtain rfl | h := List.mem_cons.mp h
    · exact (FMap.find_foldl_put_of_notMem l _ hhead).trans (FMap.find_put_self _ _ _)
    · exact ih _ htail h

end Folds

/-- The values of a mode by their objects (R215). -/
def modeValues (n : Nat) (f : ObjRow → Int) : List (OKey × Int) := modeRows.map fun r => (r.key n 0 512 0, f r)

theorem map_fst_modeValues (n : Nat) (f : ObjRow → Int) : (modeValues n f).map Prod.fst = modeRows.map fun r => r.key n 0 512 0 := by
  simp [modeValues]

/-- No two objects of a mode are the same. -/
theorem nodup_modeValues (n : Nat) (f : ObjRow → Int) : ((modeValues n f).map Prod.fst).Nodup := by
  have hplaces : (modeRows.map ObjRow.place).Nodup := by decide
  rw [map_fst_modeValues]
  exact (List.Nodup.of_map _ hplaces).map_on fun q hq r hr hkey =>
    List.inj_on_of_nodup_map hplaces hq hr (by_contra fun hne => ObjRow.key_ne_of_place hne n n 512 512 hkey)

/-- What a change to the accepted mode leaves in each active copy; the state of saving apart (R490). -/
theorem State.find_applyMode (s : State) {n : Nat} {f : ObjRow → Int} (harmed : (s.dsp n).modeArmed = modeRows.map f) {k : OKey}
    (hk : k ≠ Obj.SETTINGS_STATE.key 0 0 512 0) :
    (s.applyMode n).regs.find k = FMap.find ((modeValues n f).foldl (fun m e => m.put e.1 e.2) s.regs) k := by
  have hvalues : (modeRows.map fun r => r.key n 0 512 0).zip (s.dsp n).modeArmed = modeValues n f := by
    rw [harmed, List.zip_map', modeValues]
  rw [← hvalues]
  exact State.noteChange_find _ Obj.OUTPUT_KIND k (.inr hk)

theorem ObjRow.key_ne_settingsState {r : ObjRow} (hr : r.station = true) (n : Nat) : r.key n 0 512 0 ≠ Obj.SETTINGS_STATE.key 0 0 512 0 := by
  simp [ObjRow.key, hr, Obj.SETTINGS_STATE]

/-- The objects of the mode read as they were accepted. -/
theorem State.rd_applyMode (s : State) {n : Nat} {f : ObjRow → Int} (harmed : (s.dsp n).modeArmed = modeRows.map f) {r : ObjRow}
    (hr : r ∈ modeRows) : (s.applyMode n).rd r n = f r := by
  obtain ⟨hstation, -⟩ := modeRows_apart r hr
  have hmem : (r.key n 0 512 0, f r) ∈ modeValues n f := List.mem_map_of_mem hr
  rw [State.rd, s.find_applyMode harmed (ObjRow.key_ne_settingsState hstation n),
    FMap.find_foldl_put_of_mem _ _ (nodup_modeValues n f) hmem, Option.getD_some]

/-- The output stays in its state. -/
theorem State.output_applyMode (s : State) {n : Nat} {f : ObjRow → Int} (harmed : (s.dsp n).modeArmed = modeRows.map f) :
    (s.applyMode n).output n = s.output n := by
  have hother : Obj.OUTPUT_STATE.key n 0 512 0 ∉ (modeValues n f).map Prod.fst := by
    rw [map_fst_modeValues]
    intro hmem
    obtain ⟨r, hr, hkey⟩ := List.mem_map.mp hmem
    obtain ⟨-, houtput, -⟩ := modeRows_apart r hr
    exact ObjRow.key_ne_of_place houtput n n 512 512 hkey
  refine State.output_of_rd ?_
  rw [State.rd, s.find_applyMode harmed (ObjRow.key_ne_settingsState rfl n), FMap.find_foldl_put_of_notMem _ _ hother, State.rd]

/-- The output in DETECT has no link; a sink that is there already is read (R211). -/
theorem State.output_enterDetect (s : State) (n cause : Nat) : (s.enterDetect n cause).output n = outDetect := by
  have hdetect : ((s.setOutput n outDetect cause).wr Obj.LINK_CONFIG 0 n).output n = outDetect :=
    (State.output_of_rd (State.rd_wr_of_place _ _ _ _ rfl (by decide))).trans (State.output_setOutput ..)
  unfold State.enterDetect
  generalize (s.setOutput n outDetect cause).wr Obj.LINK_CONFIG 0 n = u at *
  dsimp only
  split
  · exact hdetect
  · exact hdetect

theorem State.rd_enterDetect (s : State) (n cause : Nat) {r : ObjRow} (hr : r.station = true) (houtput : r.place ≠ Obj.OUTPUT_STATE.place)
    (hlink : r.place ≠ Obj.LINK_CONFIG.place) (m : Nat) : (s.enterDetect n cause).rd r m = s.rd r m := by
  have hdetect : ((s.setOutput n outDetect cause).wr Obj.LINK_CONFIG 0 n).rd r m = s.rd r m :=
    (State.rd_wr_of_place _ _ _ _ rfl hlink).trans (s.rd_setOutput n _ _ hr houtput m)
  unfold State.enterDetect
  generalize (s.setOutput n outDetect cause).wr Obj.LINK_CONFIG 0 n = u at *
  dsimp only
  split
  · exact hdetect
  · exact hdetect

theorem State.dsp_enterDetect (s : State) (n cause : Nat) :
    ∃ reading, (s.enterDetect n cause).dsp n = { s.dsp n with reading := reading } := by
  unfold State.enterDetect
  simp only [State.dsp_wr, State.dsp_setOutput]
  split
  · exact ⟨true, by rw [State.dsp_emit, State.dsp_setDsp_self]⟩
  · exact ⟨_, (State.dsp_wr ..).trans (s.dsp_setOutput n outDetect cause n)⟩

/-- The state in which the generator starts on the accepted mode (R215). -/
def State.relocked (s : State) (n : Nat) : State :=
  (s.applyMode n).setDsp n { (s.applyMode n).dsp n with frameOver := true, line := 0 }

/-- The lock of the pixel PLL: the output goes on in ACTIVE, or through DETECT (R211, R215). -/
def State.goesOn (s : State) (n : Nat) (stays : Bool) : State :=
  if stays then (s.setOutput n outActive).emit (.link n "new MSA") else s.enterDetect n

theorem exec_pixelPllLock {s : State} {n : Fin 8} {f : ObjRow → Int} (hheld : (s.dsp n).modeHeld = true)
    (harmed : (s.dsp n).modeArmed = modeRows.map f) (houtput : s.output n = outModeChange) :
    exec (.pixelPllLock n) s = .next ((s.relocked n).goesOn n (s.dsp n).modeStaysActive) := by
  have hholds : ¬ (!(s.dsp n).modeHeld) = true := by simp [hheld]
  have hchange : (s.relocked n).output n = outModeChange := (s.output_applyMode harmed).trans houtput
  exact congrArg Host.Outcome.next ((if_neg hholds).trans (if_pos hchange))

theorem State.output_goesOn (s : State) (n : Nat) (stays : Bool) :
    (s.goesOn n stays).output n = if stays then outActive else outDetect := by
  cases stays with
  | true => exact State.output_setOutput s n outActive 0
  | false => exact s.output_enterDetect n 0

theorem State.rd_goesOn (s : State) (n : Nat) (stays : Bool) {r : ObjRow} (hr : r ∈ modeRows) : (s.goesOn n stays).rd r n = s.rd r n := by
  obtain ⟨hstation, houtput, hlink, -⟩ := modeRows_apart r hr
  cases stays with
  | true => exact s.rd_setOutput n outActive 0 hstation houtput n
  | false => exact s.rd_enterDetect n 0 hstation houtput hlink n

/-- The generator stays as it is; a sink may start to be read. -/
theorem State.dsp_goesOn (s : State) (n : Nat) (stays : Bool) :
    ∃ reading, (s.goesOn n stays).dsp n = { s.dsp n with reading := reading } := by
  cases stays with
  | true => exact ⟨_, s.dsp_setOutput n outActive 0 n⟩
  | false => exact s.dsp_enterDetect n 0

end Sys2Proof.Machine

/-! A mode commit (R215, R216). -/
namespace Sys2Proof.Machine

theorem exec_modeCommit {s : State} {who : Requester} {n : Fin 8} (haccept : s.accepts who Obj.MODE_COMMIT 1 n)
    (hready : s.isStReady n 2 = true) : exec (.modeCommit who n 1) s = .next (s.modeCommit n who) := by
  have hcommit := State.onWrite_of_accepts haccept fun u => u.guarded (u.needStReady n 2) fun u => u.modeCommit n who
  exact congrArg Host.Outcome.next (hcommit.trans (by simp only [State.guarded, State.needStReady, hready, if_true]))

/-- The outcome of a commit of the shadows for the sink as far as it is known (R216). -/
def State.commitOutcome (s : State) (n : Nat) : Nat :=
  modeOutcome (fun r => s.rdShadowN r n) (s.rdN Obj.TRANSOM_TARGET n) (fun c => !(s.dsp n).sinkKnown || (s.dsp n).sinkConfigs.contains c)
    (!(s.dsp n).sinkKnown || bit 1 (s.rdN Obj.SINK_CAPS n))

/-- The result of an accepted commit (R477). -/
def State.modeJudged (s : State) (n : Nat) (who : Requester) : State :=
  (s.startResult Obj.MODE_RESULT who n).finish Obj.MODE_RESULT 0 n

/-- The values of the accepted mode are armed, and self-refresh is left (R205, R215). -/
def State.modeTaken (s : State) (n : Nat) (who : Requester) : State :=
  ((s.modeJudged n who).setDsp n { s.dsp n with modeArmed := modeRows.map fun r => (s.modeJudged n who).rdShadow r n }).leaveRefresh n

/-- The accepted mode waits for the boundary. -/
def State.modeWaits (s : State) (n : Nat) (who : Requester) (stays : Bool) : State :=
  (s.modeTaken n who).setDsp n { (s.modeTaken n who).dsp n with modePending := true, modeStaysActive := stays }

theorem State.modeCommit_of_counting {s : State} {n : Nat} {who : Requester} (houtcome : s.commitOutcome n = 0)
    (hcounting : (s.dsp n).counting = true) :
    ∃ stays, s.modeCommit n who = ((s.modeWaits n who stays).setOutput n outModeChange).answer .ok := by
  have hruns : ¬ (!(s.dsp n).counting) = true := by simp [hcounting]
  rw [State.commitOutcome] at houtcome
  unfold State.modeCommit
  dsimp only
  rw [houtcome, if_neg (not_not_intro rfl), if_neg hruns]
  exact ⟨_, rfl⟩

theorem State.rdShadow_modeJudged (s : State) (n : Nat) (who : Requester) {r : ObjRow} (hr : r ∈ modeRows) :
    (s.modeJudged n who).rdShadow r n = s.rdShadow r n := by
  obtain ⟨hstation, -, -, hresult⟩ := modeRows_apart r hr
  have hshadow : (s.modeJudged n who).shadow = s.shadow :=
    (State.finish_frame (s.startResult Obj.MODE_RESULT who n) Obj.MODE_RESULT 0 n 0 512 (.refl _) (.refl _ _) .shadows (by decide)).1
  have hactive : (s.modeJudged n who).rd r n = s.rd r n :=
    State.rd_finish_of_ne (s.startResult Obj.MODE_RESULT who n) rfl hstation 0 (ObjRow.key_ne_of_place hresult n n 512 512)
  rw [State.rdShadow, hshadow, hactive, State.rdShadow]

/-- The result object is not touched after its end. -/
theorem State.results_modeWaits (s : State) (n : Nat) (who : Requester) (stays : Bool) :
    ((s.modeWaits n who stays).setOutput n outModeChange).results = (s.modeJudged n who).results :=
  calc ((s.modeWaits n who stays).setOutput n outModeChange).results
    _ = (s.modeWaits n who stays).results := State.setOutput_frame _ n outModeChange 0 (.refl _) (.refl _ _) .results (by decide)
    _ = (s.modeTaken n who).results := State.results_setDsp ..
    _ = (s.modeJudged n who).results := State.leaveRefresh_frame _ n (.refl _) (.refl _ _) .results (by decide)

theorem State.isPending_modeResult (s : State) (n : Nat) (who : Requester) (stays : Bool) :
    ((s.modeWaits n who stays).setOutput n outModeChange).isPending Obj.MODE_RESULT n = false :=
  (State.isPending_of_results (s.results_modeWaits n who stays) ..).trans (State.isPending_finish ..)

theorem State.isPending_answer (s : State) (st : Status) (d : Bytes) (a : Nat) (r : ObjRow) (n i t : Nat) :
    (s.answer st d a).isPending r n i t = s.isPending r n i t := rfl

theorem State.rd_modeResult (s : State) (n : Nat) (who : Requester) (stays : Bool) :
    ((s.modeWaits n who stays).setOutput n outModeChange).rd Obj.MODE_RESULT n = 0 :=
  calc ((s.modeWaits n who stays).setOutput n outModeChange).rd Obj.MODE_RESULT n
    _ = (s.modeTaken n who).rd Obj.MODE_RESULT n := State.rd_setOutput _ n outModeChange 0 rfl (by decide) n
    _ = (s.modeJudged n who).rd Obj.MODE_RESULT n := State.rd_leaveRefresh _ n (by decide) n
    _ = 0 := State.rd_finish _ rfl rfl 0 n 0 512

/-- What waits: the mode is pending, with the shadows' values armed (R215). -/
theorem State.dsp_modeWaits (s : State) (n : Nat) (who : Requester) (stays : Bool) :
    ((s.modeWaits n who stays).dsp n).modePending = true ∧
      ((s.modeWaits n who stays).dsp n).modeArmed = modeRows.map fun r => s.rdShadow r n := by
  simp only [State.modeWaits, State.modeTaken, State.dsp_setDsp_self, State.dsp_leaveRefresh, true_and]
  exact List.map_congr_left fun r hr => s.rdShadow_modeJudged n who hr

end Sys2Proof.Machine

/-! A fix point leaves the output's state (R132, R207): the sets that a latch takes from are other objects. -/
namespace Sys2Proof.Machine

/-- The output stays in its state, read from the active copy. -/
def SameOutput (n : Nat) (s t : State) : Prop := t.rd Obj.OUTPUT_STATE n = s.rd Obj.OUTPUT_STATE n

section SameOutput
variable {n : Nat} {a s : State}

theorem SameOutput.trans {b c : State} (h : SameOutput n a b) (g : SameOutput n b c) : SameOutput n a c := Eq.trans g h

theorem SameOutput.ofStations (h : SameOutput n a s) {t : State} (ht : SameStationObjects s t) : SameOutput n a t :=
  h.trans (ht.rd rfl n 0 512 0)

theorem SameOutput.setCmp (m : Nat) (v : Compositor) (h : SameOutput n a s) : SameOutput n a (s.setCmp m v) := h

theorem SameOutput.setGrd (m : Nat) (v : Guard) (h : SameOutput n a s) : SameOutput n a (s.setGrd m v) := h

theorem SameOutput.setDsp (m : Nat) (v : Display) (h : SameOutput n a s) : SameOutput n a (s.setDsp m v) := h

theorem SameOutput.setSlc (t : Nat) (v : Slice) (h : SameOutput n a s) : SameOutput n a (s.setSlc t v) := h

theorem SameOutput.each {α : Type} (l : List α) {f : State → α → State} (hf : ∀ u x, SameOutput n a u → SameOutput n a (f u x))
    (h : SameOutput n a s) : SameOutput n a (s.each l f) := by
  unfold State.each
  induction l generalizing s with
  | nil => exact h
  | cons x l ih => exact ih (hf s x h)

/-- A write of an object of another subindex. -/
theorem SameOutput.wrSub {r : ObjRow} (v : Int) (m i t : Nat) (hr : r.saved = false) (hsub : r.sub ≠ 0) (h : SameOutput n a s) :
    SameOutput n a (s.wr r v m i t) :=
  h.trans (State.rd_wr_of_ne _ _ _ _ _ _ _ _ _ _ _ _ (.inl hr) fun hkey => hsub (OKey.mk.inj hkey).2.2.1.symm)

/-- A write of an object outside the station areas. -/
theorem SameOutput.wrDevice {r : ObjRow} (v : Int) (m i t j : Nat) (hr : r.station = false ∧ r.area < 8) (h : SameOutput n a s) :
    SameOutput n a (s.wr r v m i t j) := by
  obtain ⟨hdevice, harea⟩ := hr
  refine h.trans (State.rd_wr_of_ne _ _ _ _ _ _ _ _ _ _ _ _ (.inr (ObjRow.key_ne_settingsState rfl n)) fun hkey => ?_)
  obtain ⟨harea', -⟩ := OKey.mk.inj hkey
  simp only [Obj.OUTPUT_STATE, hdevice, if_true, Bool.false_eq_true, if_false] at harea'
  omega

/-- The objects of every set stand before those of the display. -/
theorem SetId.idx_rows_lt (k : SetId) : ∀ q ∈ k.rows, q.1.idx + q.2 < Obj.OUTPUT_STATE.idx := by
  have hrow : ∀ r ∈ layerRows ++ echoRows ++ stationRows ++ guardRows, ∀ i < 32, r.idx + i < Obj.OUTPUT_STATE.idx := by
    have hlast : ∀ r ∈ layerRows ++ echoRows ++ stationRows ++ guardRows, r.idx + 32 < Obj.OUTPUT_STATE.idx := by decide
    exact fun r hr i hi => (Nat.add_lt_add_left hi _).trans (hlast r hr)
  intro q hq
  cases k with
  | layer l =>
    rcases List.mem_append.mp hq with hlayer | hecho
    · obtain ⟨r, hr, rfl⟩ := List.mem_map.mp hlayer
      exact hrow r (by simp [hr]) (l % 16) (by omega)
    · split at hecho
      next =>
        obtain ⟨r, hr, rfl⟩ := List.mem_map.mp hecho
        exact hrow r (by simp [hr]) 0 (by omega)
      next => exact absurd hecho List.not_mem_nil
  | station =>
    obtain ⟨r, hr, rfl⟩ := List.mem_map.mp hq
    exact hrow r (by simp [hr]) 0 (by omega)
  | guard g =>
    obtain ⟨r, hr, rfl⟩ := List.mem_map.mp hq
    exact hrow r (by simp [hr]) (g % 32) (by omega)

/-- A set's active copy is no state of the output. -/
theorem SameOutput.activate (k : SetId) (c : ArmedSet) (h : SameOutput n a s) : SameOutput n a (s.activate n k c) := by
  have hother : Obj.OUTPUT_STATE.key n 0 512 0 ∉ (c.named n k).map Prod.fst := by
    intro hmem
    obtain ⟨⟨key, v⟩, he, hkey⟩ := List.mem_map.mp hmem
    obtain ⟨q, hq, hqkey⟩ := List.mem_map.mp (List.of_mem_zip he).1
    obtain ⟨-, hidx, -⟩ := OKey.mk.inj (hqkey.trans hkey)
    have := k.idx_rows_lt q hq
    omega
  refine h.trans ?_
  rw [SameOutput, State.rd, State.activate, FMap.find_foldl_put_of_notMem _ _ hother, State.rd]

theorem SameOutput.toHolder (m : Nat) (d : Holder) (r : Rec) (h : SameOutput n a s) : SameOutput n a (s.toHolder m d r) :=
  h.ofStations (.toHolder m d r (.refl s))

theorem SameOutput.latchSets (frame : Nat) (h : SameOutput n a s) : SameOutput n a (s.latchSets n frame).1 := by
  unfold State.latchSets
  refine .setGrd _ _ (.each _ (fun u e hu => ?_) (.setCmp _ _ (.each _ (fun u e hu => .activate _ _ hu) h)))
  dsimp only
  split
  · exact hu
  · exact .wrSub _ _ _ _ rfl (by decide) (.toHolder _ _ _ hu)

theorem SameOutput.latchRevocations (h : SameOutput n a s) : SameOutput n a (s.latchRevocations n) := by
  unfold State.latchRevocations
  refine .each _ (fun u t hu => ?_) (.each _ (fun u e hu => ?_) (.setCmp _ _ h))
  · exact .each _ (fun w r hw => .wrDevice _ _ _ _ _ (by decide) hw) (.setSlc _ _ hu)
  · obtain ⟨k, t⟩ := e
    cases k with
    | layer l => exact .toHolder _ _ _ (.wrSub _ _ _ _ rfl (by decide) (.wrSub _ _ _ _ rfl (by decide) hu))
    | station => exact .wrSub _ _ _ _ rfl (by decide) hu
    | guard g => exact hu

theorem SameOutput.closeOutside (h : SameOutput n a s) : SameOutput n a (s.closeOutside n) := by
  unfold State.closeOutside
  refine .each _ (fun u e hu => ?_) h
  dsimp only
  split
  · exact hu
  · exact .toHolder _ _ _ (.setGrd _ _ hu)

/-- A write of another single object of a station. -/
theorem SameOutput.wrPlace {r : ObjRow} (v : Int) (m : Nat) (hr : r.saved = false) (hplace : Obj.OUTPUT_STATE.place ≠ r.place)
    (h : SameOutput n a s) : SameOutput n a (s.wr r v m) := h.trans (s.rd_wr_of_place v m n hr hplace)

theorem SameOutput.fixPointHere (h : SameOutput n a s) : SameOutput n a (s.fixPointHere n) := by
  unfold State.fixPointHere
  exact .wrPlace _ _ rfl (by decide) (.wrPlace _ _ rfl (by decide) (.setCmp _ _ (.setCmp _ _
    (.closeOutside (.latchRevocations (.latchSets _ (.setDsp _ _ h)))))))

end SameOutput

@[simp] theorem State.dsp_setCmp (s : State) (n : Nat) (v : Compositor) (m : Nat) : (s.setCmp n v).dsp m = s.dsp m := rfl

@[simp] theorem State.dsp_latchSets (s : State) (n frame m : Nat) : (s.latchSets n frame).1.dsp m = s.dsp m :=
  (State.latchSets_frame s n frame (.refl _) (.refl _ s)).dsp (by decide) m

@[simp] theorem State.dsp_latchRevocations (s : State) (n m : Nat) : (s.latchRevocations n).dsp m = s.dsp m :=
  (State.latchRevocations_frame s n (.refl _) (.refl _ s)).dsp (by decide) m

@[simp] theorem State.dsp_closeOutside (s : State) (n m : Nat) : (s.closeOutside n).dsp m = s.dsp m :=
  (State.closeOutside_frame s n (.refl _) (.refl _ s)).dsp (by decide) m

@[simp] theorem State.dsp_startFrame (s : State) (n m : Nat) : (s.startFrame n).dsp m = s.dsp m :=
  (State.startFrame_frame s n (.refl _) (.refl _ s)).dsp (by decide) m

@[simp] theorem State.dsp_setNextBoundary (s : State) (n m : Nat) : (s.setNextBoundary n).dsp m = s.dsp m := State.dsp_wr ..

@[simp] theorem State.cmp_wr (s : State) (r : ObjRow) (v : Int) (n i t j m : Nat) : (s.wr r v n i t j).cmp m = s.cmp m := by
  simp only [State.cmp, State.comp_wr]

@[simp] theorem State.cmp_setNextBoundary (s : State) (n m : Nat) : (s.setNextBoundary n).cmp m = s.cmp m := State.cmp_wr ..

theorem State.composing_startFrame (s : State) (n : Nat) : ((s.startFrame n).cmp n).composing = true := by
  rw [State.startFrame, State.cmp_setCmp_self]

/-- A fix point is fixed at the line in progress, and the coming frame may be composed from it (R132, R201). -/
theorem State.fixPointHere_fixes (s : State) (n : Nat) :
    (s.fixPointHere n).dsp n = { s.dsp n with fixLine := some (s.dsp n).line } ∧ ((s.fixPointHere n).cmp n).composing = true := by
  unfold State.fixPointHere
  simp only [State.dsp_setNextBoundary, State.dsp_wr, State.dsp_startFrame, State.dsp_setCmp, State.dsp_closeOutside,
    State.dsp_latchRevocations, State.dsp_latchSets, State.dsp_setDsp_self, State.cmp_setNextBoundary, State.cmp_wr,
    State.composing_startFrame, and_self]

end Sys2Proof.Machine

/-! The sink: plugged, read, trained, retrained and unplugged; the wake from self-refresh (R207, R211, R212, R213). -/
namespace Sys2Proof.Machine

/-- A sink whose read has ended with its report (R211). -/
def State.sinkReported (s : State) (n : Nat) (i : SinkInfo) : State :=
  let u := s.setDsp n { s.dsp n with reading := false }
  let u := u.setDsp n { u.dsp n with sinkKnown := true, sinkConfigs := i.configs, retries := 0 }
  ((u.wrBlob Obj.SINK_EDID i.edid n).wr Obj.SINK_CAPS ((i.caps % 2 ^ 32 : Nat)) n).wr Obj.SINK_VRR_MIN_HZ ((min i.vrrMin 144 : Nat)) n

theorem exec_sinkReadDone {s : State} {n : Fin 8} (houtput : s.output n = outDetect) (hreading : (s.dsp n).reading = true)
    (i : SinkInfo) : exec (.sinkReadDone n (some i)) s = .next ((s.sinkReported n i).judgeSink n) := by
  have hreads : ¬ ((decide (s.output n ≠ outDetect) || !(s.dsp n).reading) = true) := by simp [houtput, hreading]
  exact congrArg Host.Outcome.next (if_neg hreads)

theorem exec_sinkReadDone_failed {s : State} {n : Fin 8} (houtput : s.output n = outDetect) (hreading : (s.dsp n).reading = true) :
    exec (.sinkReadDone n none) s = .next ((s.setDsp n { s.dsp n with reading := false }).startTimer (.auxRetry n)) := by
  have hreads : ¬ ((decide (s.output n ≠ outDetect) || !(s.dsp n).reading) = true) := by simp [houtput, hreading]
  exact congrArg Host.Outcome.next (if_neg hreads)

@[simp] theorem State.dsp_wrBlob (s : State) (r : ObjRow) (b : Bytes) (n i t j m : Nat) : (s.wrBlob r b n i t j).dsp m = s.dsp m := by
  simp only [State.dsp, State.wrBlob, State.noteChange, State.noteSaved]
  split <;> rfl

theorem State.dsp_sinkReported (s : State) (n : Nat) (i : SinkInfo) :
    (s.sinkReported n i).dsp n = { s.dsp n with reading := false, sinkKnown := true, sinkConfigs := i.configs, retries := 0 } := by
  simp only [State.sinkReported, State.dsp_wr, State.dsp_wrBlob, State.dsp_setDsp_self]

theorem State.blob_sinkReported (s : State) (n : Nat) (i : SinkInfo) : (s.sinkReported n i).blob Obj.SINK_EDID n = i.edid := by
  simp only [State.sinkReported, State.blob_wr, State.blob_wrBlob_self]

theorem State.rd_sinkReported (s : State) (n : Nat) (i : SinkInfo) : (s.sinkReported n i).rd Obj.SINK_CAPS n = (i.caps % 2 ^ 32 : Nat) :=
  (State.rd_wr_of_place _ _ _ _ rfl (by decide)).trans (State.rd_wr_row _ _ _ rfl)

theorem State.blob_judgeSink (s : State) (n : Nat) (r : ObjRow) (m i t j : Nat) : (s.judgeSink n).blob r m i t j = s.blob r m i t j := by
  have hblobs : (s.judgeSink n).blobs = s.blobs := (State.judgeSink_frame s n (.refl _) (.refl _ s) .texts (by decide)).1
  rw [State.blob, hblobs, State.blob]

/-- The link is trained: its configuration is shown, and the count of retries starts again (R195, R211). -/
def State.linkTrained (s : State) (n : Nat) (c : Nat × Nat) : State :=
  (s.setDsp n { s.dsp n with retries := 0 }).wr Obj.LINK_CONFIG ((linkWord (s.linkGet n) c : Nat)) n

/-- The training has failed, and is counted (R211). -/
def State.trainingFailed (s : State) (n : Nat) : State :=
  ((s.wr Obj.LINK_CONFIG 0 n).count Obj.TRAINING_FAILS n).setOutput n outLinkFail 2

/-- An eDP link with its panel on is trained on the first configuration on which it succeeds (R211, R217). -/
theorem exec_linkTrainingDone {s : State} {n : Fin 8} {trains : List (Nat × Nat)} (houtput : s.output n = outTraining)
    (hpanel : 2 ≤ (s.dsp n).panel) : exec (.linkTrainingDone n trains) s = .next
      (((s.trainingOrder n).find? fun c => trains.contains c).elim ((s.trainingFailed n).alarm 8 1 n 2)
        fun c => (s.linkTrained n c).setOutput n outActive) := by
  have htrains : ¬ ((decide (s.output n ≠ outTraining) || (decide (s.rdN Obj.OUTPUT_KIND n = 1) && decide ((s.dsp n).panel < 2))) = true) := by
    simp [houtput, Nat.not_lt.mpr hpanel]
  refine congrArg Host.Outcome.next ((if_neg htrains).trans ?_)
  cases (s.trainingOrder n).find? fun c => trains.contains c with
  | none => rfl
  | some c => rfl

/-- Video stops while lost lanes are trained again (R212). -/
def State.retraining (s : State) (n : Nat) : State :=
  let u := (s.stationEvent (.hpdIrq n) n).emit (.link n "read service-IRQ and link status")
  u.setDsp n { u.dsp n with video := false }

theorem exec_hpdIrq_lanesLost {s : State} {n : Fin 8} (houtput : s.output n = outActive) :
    exec (.hpdIrq n true) s = .next (((s.retraining n).count Obj.OUT_RETRAINS n).setOutput n outTraining) := by
  have hactive : (s.stationEvent (.hpdIrq n) n).output n = outActive :=
    (State.output_of_rd (s.rd_stationEvent (.hpdIrq n) n (by decide) n)).trans houtput
  have hretrains : (true && decide (((s.stationEvent (.hpdIrq n) n).emit (.link n "read service-IRQ and link status")).output n = outActive))
      = true := by rw [Bool.true_and, decide_eq_true_iff]; exact hactive
  exact congrArg Host.Outcome.next (if_pos hretrains)

/-- An output without its sink: no video, no self-refresh, no link, in DETECT (R213). -/
def State.sinkGone (s : State) (n : Nat) : State :=
  let u := (s.setDsp n { s.dsp n with hpd := false, reading := false, sinkKnown := false }).leaveRefresh n
  ((u.setDsp n { u.dsp n with video := false }).wr Obj.LINK_CONFIG 0 n).setOutput n outDetect 3

theorem exec_hpdUnplug {s : State} {n : Fin 8}
    (houtput : s.output n = outActive ∨ s.output n = outTraining ∨ s.output n = outSelfRefresh ∨ s.output n = outLinkFail) :
    exec (.hpdUnplug n) s = .next ((((s.sinkGone n).count Obj.SINK_LOSSES n).alarm 7 1 n 3).emit
      (.link n "main link to electrical idle")) := by
  have hlinked : (decide (s.output n = outActive) || decide (s.output n = outTraining) || decide (s.output n = outSelfRefresh)
      || decide (s.output n = outLinkFail)) = true := by
    simpa [or_assoc] using houtput
  exact congrArg Host.Outcome.next (if_pos hlinked)

theorem State.dsp_sinkGone (s : State) (n : Nat) : (s.sinkGone n).dsp n =
    { s.dsp n with hpd := false, reading := false, sinkKnown := false, psrLast := false, psrStopped := false, video := false } := by
  simp only [State.sinkGone, State.dsp_setOutput, State.dsp_wr, State.dsp_setDsp_self, State.dsp_leaveRefresh]

theorem State.linkConfig_sinkGone (s : State) (n : Nat) : (s.sinkGone n).rd Obj.LINK_CONFIG n = 0 :=
  (State.rd_setOutput _ _ _ _ rfl (by decide) _).trans (State.rd_wr_row _ _ _ rfl)

theorem State.sinkLosses_sinkGone (s : State) (n : Nat) : (s.sinkGone n).rdN Obj.SINK_LOSSES n = s.rdN Obj.SINK_LOSSES n := by
  rw [State.rdN, State.sinkGone, State.rd_setOutput _ _ _ _ rfl (by decide), State.rd_wr_of_place _ _ _ _ rfl (by decide), State.rd_setDsp,
    State.rd_leaveRefresh _ _ (by decide), State.rd_setDsp, State.rdN]

/-- The main link is awake, and the output in ACTIVE (R207). -/
def State.linkAwake (s : State) (n : Nat) : State :=
  (s.setDsp n { s.dsp n with psrStopped := false, video := true, stretchable := true }).setOutput n outActive

theorem exec_psrWakeElapsed {s : State} {n : Fin 8} {e : Nat} (hevent : (s.dsp n).endEvent = some e) (hstopped : (s.dsp n).psrStopped = true)
    (hcounting : (s.dsp n).counting = true) (hframe : (s.dsp n).frameOver = false) (hboundary : (s.dsp n).boundaryPending = false)
    (hearliest : s.earliestFix n ≤ (s.dsp n).line) (hrunning : s.stationState n = stRunning)
    (helapsed : e + s.rdN Obj.PSR_WAKE_US n * 1000 ≤ s.time) :
    exec (.psrWakeElapsed n) s = .next ((s.linkAwake n).fixPointHere n) := by
  have hwakes : ((s.dsp n).psrStopped && (s.dsp n).counting && !(s.dsp n).frameOver && !(s.dsp n).boundaryPending
      && decide (s.stationState n = stRunning) && decide (s.earliestFix n ≤ (s.dsp n).line)
      && decide (e + s.rdN Obj.PSR_WAKE_US n * 1000 ≤ s.time)) = true := by
    simp [hstopped, hcounting, hframe, hboundary, hearliest, hrunning, helapsed]
  have hexec : execPsrWakeElapsed n s = .next ((s.linkAwake n).fixPointHere n) := by
    unfold execPsrWakeElapsed
    dsimp only
    split
    next hnone => simp [hnone] at hevent
    next t ht =>
      obtain rfl : t = e := Option.some.inj (ht.symm.trans hevent)
      exact congrArg Host.Outcome.next (if_pos hwakes)
  exact hexec

end Sys2Proof.Machine

namespace Sys2Proof.Machine

/-- Settles O13: each command takes the branch its hypotheses ask for (the lemmas `exec_…`), and what it writes stays through the
change of the output's state that follows (`rd_setOutput`, `dsp_setOutput`, `output_setOutput`). -/
theorem outputAndModeAct : Obligations.OutputAndModeAct := by
  unfold Obligations.OutputAndModeAct
  refine ⟨?commit, ?lock, ?plug, ?read, ?readFailed, ?readAgain, ?trained, ?failed, ?judgedAgain, ?lanesLost, ?lanesHeld, ?unplug,
    ?wake, ?panelOn, ?backlight, ?linkOff, ?panelOff⟩
  case commit =>
    intro s who n haccept hready houtcome hcounting
    obtain ⟨stays, hcommit⟩ := State.modeCommit_of_counting (who := who) houtcome hcounting
    obtain ⟨hpending, harmed⟩ := s.dsp_modeWaits n who stays
    refine ⟨_, exec_modeCommit haccept hready, ?_⟩
    rw [hcommit]
    refine ⟨?_, ?_, ?_, ?_, ?_, rfl⟩
    · rw [State.rd_answer, State.rd_modeResult]
    · rw [State.isPending_answer, State.isPending_modeResult]
    · rw [State.output_answer, State.output_setOutput]
    · rw [State.dsp_answer, State.dsp_setOutput, hpending]
    · rw [State.dsp_answer, State.dsp_setOutput, harmed]
  case lock =>
    intro s n f hheld harmed houtput
    obtain ⟨reading, hdsp⟩ := (s.relocked n).dsp_goesOn n (s.dsp n).modeStaysActive
    refine ⟨_, exec_pixelPllLock hheld harmed houtput, fun r hr => ?_, ?_⟩
    · exact (State.rd_goesOn _ _ _ hr).trans (s.rd_applyMode harmed hr)
    · rw [hdsp, State.relocked, State.dsp_setDsp_self, State.applyMode, State.dsp_setDsp_self]
      exact ⟨rfl, rfl, rfl, State.output_goesOn ..⟩
  case plug =>
    intro s n houtput
    refine ⟨_, congrArg Host.Outcome.next (if_pos houtput), ?_, ?_, State.rd_count_row _ _ rfl, rfl⟩
    all_goals rw [State.dsp_emit, State.dsp_count, State.dsp_setDsp_self]
  case read =>
    intro s n i houtput hreading
    refine ⟨_, exec_sinkReadDone houtput hreading i, ?_, ?_, ?_, ?_, ?_⟩
    · rw [State.dsp_judgeSink, State.dsp_sinkReported]
    · rw [State.dsp_judgeSink, State.dsp_sinkReported]
    · rw [State.blob_judgeSink, State.blob_sinkReported]
    · rw [State.rd_judgeSink _ _ rfl (by decide), State.rd_sinkReported]
    · rw [State.candidates_judgeSink, State.output_judgeSink]
  case readFailed =>
    intro s n houtput hreading
    exact ⟨_, exec_sinkReadDone_failed houtput hreading, rfl⟩
  case readAgain =>
    intro s n houtput hhpd hreading hpassed
    exact ⟨_, congrArg Host.Outcome.next (if_pos (by simp [houtput, hhpd, hreading, hpassed])), rfl⟩
  case trained =>
    intro s n trains c houtput _ hpanel hfirst
    refine ⟨_, exec_linkTrainingDone houtput hpanel, ?_⟩
    rw [hfirst, Option.elim_some]
    refine ⟨State.output_setOutput .., ?_, ?_⟩
    · exact (State.rd_setOutput _ _ _ _ rfl (by decide) _).trans (State.rd_wr_row _ _ _ rfl)
    · rw [State.dsp_setOutput, State.linkTrained, State.dsp_wr, State.dsp_setDsp_self]
  case failed =>
    intro s n trains hnone houtput _ hpanel
    have hfind : (s.trainingOrder n).find? (fun c => trains.contains c) = none := by simpa using hnone
    refine ⟨_, exec_linkTrainingDone houtput hpanel, ?_⟩
    rw [hfind, Option.elim_none]
    refine ⟨?_, ?_, ?_⟩
    · rw [State.output_alarm, State.trainingFailed, State.output_setOutput]
    · rw [State.rd_alarm _ _ _ _ _ rfl, State.trainingFailed, State.rd_setOutput _ _ _ _ rfl (by decide),
        State.rd_count_of_place _ _ _ rfl (by decide), State.rd_wr_row _ _ _ rfl]
    · rw [State.rd_alarm _ _ _ _ _ rfl, State.trainingFailed, State.rd_setOutput _ _ _ _ rfl (by decide), State.rd_count_row _ _ rfl,
        State.rdN, State.rd_wr_of_place _ _ _ _ rfl (by decide), State.rdN]
  case judgedAgain =>
    intro s n houtput hlimit hpassed
    refine ⟨_, congrArg Host.Outcome.next (if_pos (by simpa [houtput, hpassed] using hlimit)), ?_, ?_⟩
    · rw [State.dsp_judgeSink, State.dsp_startTimer, State.dsp_setDsp_self]
    · have hsame : ((s.setDsp n { s.dsp n with retries := (s.dsp n).retries + 1 }).startTimer (.linkRetry n)).candidates n = s.candidates n :=
        State.candidates_congr (fun _ _ => rfl) rfl (by rw [State.dsp_startTimer, State.dsp_setDsp_self])
      rw [State.output_judgeSink, hsame]
  case lanesLost =>
    intro s n houtput
    refine ⟨_, exec_hpdIrq_lanesLost houtput, State.output_setOutput .., ?_, ?_⟩
    · rw [State.dsp_setOutput, State.dsp_count, State.retraining, State.dsp_setDsp_self]
    · rw [State.rd_setOutput _ _ _ _ rfl (by decide), State.rd_count_row _ _ rfl, State.rdN, State.retraining, State.rd_setDsp,
        State.rd_emit, State.rd_stationEvent _ _ _ (by decide), State.rdN]
  case lanesHeld => exact fun s n => ⟨_, rfl, rfl⟩
  case unplug =>
    intro s n houtput
    refine ⟨_, exec_hpdUnplug houtput, ?_, ?_, ?_, ?_, ?_, ?_, rfl⟩
    · rw [State.output_emit, State.output_alarm, State.output_of_rd (State.rd_count_of_place _ _ _ rfl (by decide)), State.sinkGone,
        State.output_setOutput]
    · rw [State.dsp_emit, State.dsp_alarm, State.dsp_count, State.dsp_sinkGone]
    · rw [State.dsp_emit, State.dsp_alarm, State.dsp_count, State.dsp_sinkGone]
    · rw [State.dsp_emit, State.dsp_alarm, State.dsp_count, State.dsp_sinkGone]
    · rw [State.rd_emit, State.rd_alarm _ _ _ _ _ rfl, State.rd_count_of_place _ _ _ rfl (by decide), State.linkConfig_sinkGone]
    · rw [State.rd_emit, State.rd_alarm _ _ _ _ _ rfl, State.rd_count_row _ _ rfl, State.sinkLosses_sinkGone]
  case wake =>
    intro s n e hevent hstopped hcounting hframe hboundary hearliest hrunning helapsed
    obtain ⟨hdsp, hcomposing⟩ := (s.linkAwake n).fixPointHere_fixes n
    have hawake : (s.linkAwake n).dsp n = { s.dsp n with psrStopped := false, video := true, stretchable := true } := by
      rw [State.linkAwake, State.dsp_setOutput, State.dsp_setDsp_self]
    refine ⟨_, exec_psrWakeElapsed hevent hstopped hcounting hframe hboundary hearliest hrunning helapsed, ?_, ?_, ?_, ?_, hcomposing⟩
    · exact (State.output_of_rd (SameOutput.fixPointHere rfl)).trans (State.output_setOutput ..)
    all_goals rw [hdsp, hawake]
  case panelOn =>
    intro s n hpanel hpassed
    exact ⟨_, congrArg Host.Outcome.next (if_pos (by simp [hpanel, hpassed])), rfl⟩
  case backlight =>
    intro s n hpanel hframe hpassed
    exact ⟨_, congrArg Host.Outcome.next (if_pos (by simp [hpanel, hframe, hpassed])), rfl⟩
  case linkOff =>
    intro s n hpanel hpassed
    exact ⟨_, congrArg Host.Outcome.next (if_pos (by simp [hpanel, hpassed])), rfl⟩
  case panelOff =>
    intro s n hpanel hpassed
    have hlinkOff : ¬ (decide ((s.dsp n).panel = 4) && s.passedMs (.panel n) Obj.BL_ON_DELAY_MS n) = true := by simp [hpanel]
    exact ⟨_, congrArg Host.Outcome.next ((if_neg hlinkOff).trans (if_pos (by simp [hpanel, hpassed]))), rfl⟩

end Sys2Proof.Machine

/-! What touch records, log records and alarms leave of the objects, and of the touch engine (R247, R249, R516). -/
namespace Sys2Proof.Machine

theorem Frame.tch {ps : List Part} {s t : State} (h : Frame ps s t) (hq : .touch ∉ ps) (n : Nat) : t.tch n = s.tch n := by
  have htouch : t.touch = s.touch := h .touch hq
  rw [State.tch, htouch, State.tch]

@[simp] theorem State.rd_setTch (s : State) (n : Nat) (v : Touch) (r : ObjRow) (m i t j : Nat) :
    (s.setTch n v).rd r m i t j = s.rd r m i t j := rfl

@[simp] theorem State.tch_wr (s : State) (r : ObjRow) (v : Int) (n i t j m : Nat) : (s.wr r v n i t j).tch m = s.tch m := by
  simp only [State.tch, State.touch_wr]

@[simp] theorem State.tch_count (s : State) (r : ObjRow) (n i t j k m : Nat) : (s.count r n i t j k).tch m = s.tch m := State.tch_wr ..

@[simp] theorem State.tch_toStationLog (s : State) (n : Nat) (r : Rec) (m : Nat) : (s.toStationLog n r).tch m = s.tch m :=
  (State.toStationLog_frame s n r (.refl _) (.refl _ s)).tch (by decide) m

@[simp] theorem State.tch_alarm (s : State) (code st station detail m : Nat) : (s.alarm code st station detail).tch m = s.tch m :=
  (State.alarm_frame s code st station detail (.refl _) (.refl _ s)).tch (by decide) m

@[simp] theorem State.tch_finish (s : State) (r : ObjRow) (outcome n i t m : Nat) : (s.finish r outcome n i t).tch m = s.tch m :=
  (State.finish_frame s r outcome n i t (.refl _) (.refl _ s)).tch (by decide) m

@[simp] theorem State.tch_touchStatusAll (s : State) (n code : Nat) (p : Nat → Bool) (m : Nat) : (s.touchStatusAll n code p).tch m = s.tch m :=
  (State.touchStatusAll_frame s n code p (.refl _) (.refl _ s)).tch (by decide) m

@[simp] theorem State.tch_cancelAll (s : State) (n cause m : Nat) : (s.cancelAll n cause).tch m = s.tch m :=
  (State.cancelAll_frame s n cause (.refl _) (.refl _ s)).tch (by decide) m

@[simp] theorem State.regs_drive (s : State) (e : Nat) (level : Bool) (n : Nat) : (s.drive e level n).regs = s.regs := rfl

@[simp] theorem State.tch_drive (s : State) (e : Nat) (level : Bool) (n m : Nat) : (s.drive e level n).tch m = s.tch m := rfl

@[simp] theorem State.regs_wave (s : State) (e : Nat) (on : Bool) (n : Nat) : (s.wave e on n).regs = s.regs := rfl

@[simp] theorem State.tch_wave (s : State) (e : Nat) (on : Bool) (n m : Nat) : (s.wave e on n).tch m = s.tch m := rfl

theorem State.rd_toStationLog (s : State) (n : Nat) (r : Rec) {q : ObjRow} (hq : q.station = true) (m : Nat) :
    (s.toStationLog n r).rd q m = s.rd q m := SameStationObjects.rd (.toStationLog n r (.refl s)) hq m 0 512 0

/-- The touch queues and their counts are no objects of a station (R606, R612). -/
theorem SameStationObjects.touchTo {a s : State} (d : Holder) (r : TouchRec) (h : SameStationObjects a s) :
    SameStationObjects a (s.touchTo d r) := by
  cases d with
  | tenant t =>
    change SameStationObjects a (s.touchToTenant t r)
    unfold State.touchToTenant State.countTenantItems
    refine .wr _ _ _ _ _ (by decide) (.wr _ _ _ _ _ (by decide) (.ite (.count _ _ _ _ _ (by decide) ?_) ?_))
    all_goals exact h
  | enclave e =>
    refine .ite (c := s) ?_ h
    unfold State.touchToEnclave
    refine .ite (.ite (.count _ _ _ _ _ (by decide) ?_) ?_) h
    all_goals exact h
  | manager => exact h
  | nobody => exact h

theorem SameStationObjects.touchStatusAll {a s : State} (n code : Nat) (p : Nat → Bool) (h : SameStationObjects a s) :
    SameStationObjects a (s.touchStatusAll n code p) := by
  unfold State.touchStatusAll
  refine .each _ (fun u x hu => ?_) h
  unfold State.touchStatus
  exact .ite hu (.touchTo _ _ hu)

/-- A record of a contact that is neither DOWN nor UP triggers no haptic effect (R278, R279). -/
theorem SameStationObjects.reportContact {a s : State} (n : Nat) (c : Contact) {r : TouchRec} (hdown : r.kind ≠ 0) (hup : r.kind ≠ 2)
    (h : SameStationObjects a s) : SameStationObjects a (s.reportContact n c r) := by
  unfold State.reportContact
  rw [if_neg hdown, if_neg hup]
  exact .ite h (.touchTo _ _ h)

theorem SameStationObjects.cancelAll {a s : State} (n cause : Nat) (h : SameStationObjects a s) : SameStationObjects a (s.cancelAll n cause) :=
  .each _ (fun u c hu => .reportContact (s := u) n c (r := u.contactRec n c 4 3 cause) (by decide : 4 ≠ 0) (by decide : 4 ≠ 2) hu) h

theorem SameObjectsBut.ite {a b c : State} {ks : List OKey} {p : Prop} [Decidable p] (hb : SameObjectsBut a b ks) (hc : SameObjectsBut a c ks) :
    SameObjectsBut a (if p then b else c) ks := by split <;> assumption

theorem SameObjectsBut.thenWrOf {a s : State} {ks : List OKey} {r : ObjRow} {v : Int} {n i t j : Nat} (hsaved : r.saved = false)
    (hk : r.key n i t j ∈ ks) (h : SameObjectsBut a s ks) : SameObjectsBut a (s.wr r v n i t j) ks := h.trans (.wr s r v n i t j hsaved hk)

theorem State.alarmSummary_alarmKeys (s : State) : SameObjectsBut s s.alarmSummary alarmKeys := by
  have hkey (k : Nat) (hk : k ∈ List.range 4) : Obj.ALARM_SUMMARY.key 0 0 512 k ∈ alarmKeys := by
    rw [alarmKeys]
    exact List.mem_append_right _ (List.mem_map_of_mem hk)
  unfold State.alarmSummary
  exact (SameObjectsBut.each _ fun u k hk => .wr u _ _ _ _ _ _ rfl (hkey k hk)).trans (.of_regs _ (State.regs_drive ..))

theorem State.enterAlarm_alarmKeys (s : State) (m : Alarm) : SameObjectsBut s (s.enterAlarm m) alarmKeys := by
  have hitems : Obj.ALARM_ITEMS.key 0 0 512 0 ∈ alarmKeys := by simp [alarmKeys]
  have hlost : Obj.ALARM_LOST.key 0 0 512 0 ∈ alarmKeys := by simp [alarmKeys]
  unfold State.enterAlarm
  refine SameObjectsBut.trans ?_ (State.alarmSummary_alarmKeys _)
  refine SameObjectsBut.trans ?_ (.of_regs _ (State.regs_emit ..))
  refine .ite (.thenWrOf rfl hlost (.thenWrOf rfl hitems ?_)) (.thenWrOf rfl hitems ?_)
  all_goals exact .of_regs _ rfl

theorem SameObjectsBut.withAlarms {a s : State} {ks : List OKey} (v : AlarmState) (h : SameObjectsBut a s ks) :
    SameObjectsBut a { s with alarms := v } ks := h

theorem State.mergeAlarm_alarmKeys (s : State) (m : Alarm) : SameObjectsBut s (s.mergeAlarm m) alarmKeys := by
  have hentered : SameObjectsBut s (s.enterAlarm m) alarmKeys := s.enterAlarm_alarmKeys m
  unfold State.mergeAlarm
  split
  · exact .withAlarms _ (.refl s _)
  · exact .ite hentered (.withAlarms _ hentered)

theorem State.regs_noteInForce (s : State) (m : Alarm) : (s.noteInForce m).regs = s.regs := by
  unfold State.noteInForce
  dsimp only
  split_ifs <;> rfl

/-- An alarm changes the objects that count alarms, and no other (R516 to R518). -/
theorem State.alarm_alarmKeys (s : State) (code st station detail : Nat) : SameObjectsBut s (s.alarm code st station detail) alarmKeys := by
  have hnoted (m : Alarm) : SameObjectsBut s (s.noteInForce m) alarmKeys := .of_regs _ (s.regs_noteInForce m)
  have hmerged (u : State) (m : Alarm) : SameObjectsBut u ((u.mergeAlarm m).alarmSummary) alarmKeys :=
    SameObjectsBut.trans (u.mergeAlarm_alarmKeys m) (State.alarmSummary_alarmKeys _)
  unfold State.alarm
  exact .ite ((hnoted _).trans (hmerged _ _)) (.withAlarms _ (hnoted _))

theorem State.isStReady_of_rdN {s t : State} {n : Nat} (h : t.rdN Obj.READY_STATION 0 0 512 n = s.rdN Obj.READY_STATION 0 0 512 n) (k : Nat) :
    t.isStReady n k = s.isStReady n k := by
  rw [State.isStReady, h, State.isStReady]

@[simp] theorem State.isStReady_alarm (s : State) (code st station detail n k : Nat) :
    (s.alarm code st station detail).isStReady n k = s.isStReady n k :=
  State.isStReady_of_rdN ((s.alarm_alarmKeys code st station detail).rdN
    (by simp [alarmKeys, ObjRow.key, Obj.READY_STATION, Obj.ALARM_ITEMS, Obj.ALARM_LOST, Obj.ALARM_SUMMARY])) k

/-- A write of a station's object leaves the ready words. -/
theorem State.isStReady_wr (s : State) {r : ObjRow} (hr : r.station = true) (hsaved : r.saved = false) (v : Int) (m n k : Nat) :
    (s.wr r v m).isStReady n k = s.isStReady n k :=
  State.isStReady_of_rdN (congrArg Int.toNat (State.rd_wr_of_ne _ _ _ _ _ _ _ _ _ _ _ _ (.inl hsaved)
    (Ne.symm (by simp [ObjRow.key, hr, Obj.READY_STATION])))) k

end Sys2Proof.Machine

/-! The touch engine's state and its live contacts (R235, R254). -/
namespace Sys2Proof.Machine

theorem State.touchState_of_rd {s t : State} {n : Nat} (h : t.rd Obj.TOUCH_STATE n = s.rd Obj.TOUCH_STATE n) : t.touchState n = s.touchState n := by
  rw [State.touchState, State.rdN, h, State.touchState, State.rdN]

@[simp] theorem State.rd_setCmp (s : State) (n : Nat) (v : Compositor) (r : ObjRow) (m i t j : Nat) :
    (s.setCmp n v).rd r m i t j = s.rd r m i t j := rfl

/-- The end of an event window is counted where it merges in its crossing; no other object of the stations changes. -/
theorem State.rd_endEvent (s : State) (n : Nat) {r : ObjRow} (hr : r.place ≠ Obj.EVENT_MERGES.place) (m : Nat) :
    (s.endEvent n).rd r m = s.rd r m := by
  have hcrossed : (if (s.dsp n).counting then s.stationEvent (.endEvent n) n else s).rd r m = s.rd r m := by
    split
    · exact s.rd_stationEvent _ n hr m
    · rfl
  unfold State.endEvent
  generalize (if (s.dsp n).counting then s.stationEvent (.endEvent n) n else s) = u at *
  dsimp only
  split_ifs <;> exact hcrossed

theorem State.rd_ite {p : Prop} [Decidable p] {a b : State} {r : ObjRow} {m : Nat} {v : Int} (ha : a.rd r m = v) (hb : b.rd r m = v) :
    (if p then a else b).rd r m = v := by split <;> assumption

theorem State.rd_takeTable (s : State) (n : Nat) {r : ObjRow} (hr : r.place ≠ Obj.EVENT_MERGES.place) (m : Nat) :
    (s.takeTable n).rd r m = s.rd r m := by
  unfold State.takeTable
  dsimp only
  split
  · exact State.rd_ite (State.rd_ite (State.rd_endEvent _ n hr m) rfl) rfl
  · rfl

theorem State.tch_setContacts (s : State) (n : Nat) (cs : List Contact) : (s.setContacts n cs).tch n = { s.tch n with contacts := cs } := by
  rw [State.setContacts, (State.newTable_frame _ n _ (.refl _) (.refl _ _)).tch (by decide), State.tch_wr, State.tch_setTch_self]

theorem State.rd_setContacts (s : State) (n : Nat) (cs : List Contact) {r : ObjRow} (hlive : r.place ≠ Obj.CONTACTS_LIVE.place)
    (hevent : r.place ≠ Obj.EVENT_MERGES.place) (hwithdrawn : r.place ≠ Obj.ECHO_WITHDRAWN.place) (m : Nat) :
    (s.setContacts n cs).rd r m = s.rd r m := by
  unfold State.setContacts State.newTable State.count
  rw [State.rd_setCmp, State.rd_wr_of_place _ _ _ _ rfl hwithdrawn, State.rd_takeTable _ _ hevent, State.rd_wr_of_place _ _ _ _ rfl hlive,
    State.rd_setTch]

/-- The engine's state and its pins (R221, R254). -/
def State.touchEntered (s : State) (n v : Nat) : State :=
  (((s.wr Obj.TOUCH_STATE v n).drive 6 (v ≠ toOff && v ≠ toHalted) n).wave 10 (v ≠ toOff && v ≠ toHalted) n).wave 11
    (v ≠ toOff && v ≠ toHalted) n

/-- A reference capture has ended where SCANNING ends (R243). -/
def State.captureEnded (s : State) (n v : Nat) : State :=
  if v ≠ toScanning && (s.tch n).capture.isSome then (s.setTch n { s.tch n with capture := none }).finish Obj.REFERENCE_RESULT 4 n else s

theorem State.rd_touchEntered (s : State) (n v : Nat) (r : ObjRow) (m : Nat) :
    (s.touchEntered n v).rd r m = (s.wr Obj.TOUCH_STATE v n).rd r m :=
  State.rd_of_regs (by rw [State.touchEntered, State.regs_wave, State.regs_wave, State.regs_drive]) ..

theorem State.tch_touchEntered (s : State) (n v m : Nat) : (s.touchEntered n v).tch m = s.tch m := by
  rw [State.touchEntered, State.tch_wave, State.tch_wave, State.tch_drive, State.tch_wr]

theorem State.rd_captureEnded (s : State) (n v : Nat) {r : ObjRow} (hr : r.station = true) (hresult : r.place ≠ Obj.REFERENCE_RESULT.place)
    (m : Nat) : (s.captureEnded n v).rd r m = s.rd r m := by
  unfold State.captureEnded
  refine State.rd_ite ?_ rfl
  rw [State.rd_finish_of_ne _ rfl hr _ (ObjRow.key_ne_of_place hresult m n 512 512), State.rd_setTch]

/-- Besides a reference capture the engine's own data stay as they are. -/
theorem State.tch_captureEnded (s : State) (n v : Nat) : ∃ capture, (s.captureEnded n v).tch n = { s.tch n with capture := capture } := by
  unfold State.captureEnded
  split
  · exact ⟨none, by rw [State.tch_finish, State.tch_setTch_self]⟩
  · exact ⟨_, rfl⟩

/-- A change of the engine's state: the state, a capture's end, then the timer, the edge slice and the ready bit (R254, R495). -/
theorem State.setTouchState_eq (s : State) (n v : Nat) : s.setTouchState n v =
    ((if v = toHalted then ((s.touchEntered n v).captureEnded n v).startTimer (.touchHalt n)
      else (s.touchEntered n v).captureEnded n v).syncEdge n).stReady n 7 (v = toScanning || v = toWakeScan) := rfl

theorem State.setTouchState_sameStationObjects (s : State) (n v : Nat) :
    SameStationObjects ((s.touchEntered n v).captureEnded n v) (s.setTouchState n v) := by
  rw [State.setTouchState_eq]
  exact .stReady _ _ _ (SameStationObjects.ite (.startTimer _ (.refl _)) (.refl _))

@[simp] theorem State.touchState_setTouchState (s : State) (n v : Nat) : (s.setTouchState n v).touchState n = v := by
  rw [State.touchState, State.rdN, (s.setTouchState_sameStationObjects n v).rd rfl, State.rd_captureEnded _ _ _ rfl (by decide),
    State.rd_touchEntered, State.rd_wr_row _ _ _ rfl, Int.toNat_natCast]

theorem State.rd_setTouchState (s : State) (n v : Nat) {r : ObjRow} (hr : r.station = true) (hstate : r.place ≠ Obj.TOUCH_STATE.place)
    (hresult : r.place ≠ Obj.REFERENCE_RESULT.place) (m : Nat) : (s.setTouchState n v).rd r m = s.rd r m := by
  rw [(s.setTouchState_sameStationObjects n v).rd hr, State.rd_captureEnded _ _ _ hr hresult, State.rd_touchEntered,
    s.rd_wr_of_place _ _ _ rfl hstate]

theorem State.tch_setTouchState (s : State) (n v : Nat) : ∃ capture, (s.setTouchState n v).tch n = { s.tch n with capture := capture } := by
  obtain ⟨capture, hcapture⟩ := (s.touchEntered n v).tch_captureEnded n v
  rw [State.tch_touchEntered] at hcapture
  have hkeeps (u : State) (b : Bool) : ((u.syncEdge n).stReady n 7 b).tch n = u.tch n := State.tch_wr ..
  rw [State.setTouchState_eq, hkeeps]
  exact ⟨capture, by split <;> exact hcapture⟩

theorem State.isStReady_setTouchState (s : State) (n v : Nat) :
    (s.setTouchState n v).isStReady n 7 = (decide (v = toScanning) || decide (v = toWakeScan)) := State.isStReady_stReady ..

end Sys2Proof.Machine

/-! Pairs that start, are skipped, end and are abandoned (R224, R226, R257, R258). -/
namespace Sys2Proof.Machine

theorem State.pairMayStart_of_scanning {s : State} {n : Nat} (hstate : s.touchState n = toScanning) (hidle : (s.tch n).pairStart = none)
    (hperiod : s.periodPassed n (s.rdN Obj.TARGET_RATE_HZ n) = true) (hslot : s.slotNow n = true) : s.pairMayStart n = true := by
  simp [State.pairMayStart, hstate, hidle, hperiod, hslot]

/-- The state in which a pair has started, at the frequency in use (R224, R245). -/
def State.pairBegun (s : State) (n : Nat) : State :=
  (s.latchZones n).setTch n { (s.latchZones n).tch n with pairStart := some s.time, lastStart := some s.time,
                                                          starts := ((s.latchZones n).tch n).starts + 1 }

/-- The frequency decided before is in use, with a log record (R226). -/
def State.hopTaken (s : State) (n f : Nat) : State :=
  let u := (s.setTch n { s.tch n with nextFreq := none, sinceHop := 0, overNoise := 0 }).wr Obj.TX_FREQ_INDEX (f : Nat) n
  (u.count Obj.HOPS n).toStationLog n (u.mkRec 0x8004 0 n noTenant [(s.rdN Obj.TX_FREQ_INDEX n, 3), (f, 3)])

theorem State.tch_hopTaken (s : State) (n f : Nat) :
    (s.hopTaken n f).tch n = { s.tch n with nextFreq := none, sinceHop := 0, overNoise := 0 } := by
  rw [State.hopTaken, State.tch_toStationLog, State.tch_count, State.tch_wr, State.tch_setTch_self]

theorem State.freq_hopTaken (s : State) (n f : Nat) : (s.hopTaken n f).rd Obj.TX_FREQ_INDEX n = (f : Nat) :=
  (State.rd_toStationLog _ _ _ rfl _).trans ((State.rd_count_of_place _ _ _ rfl (by decide)).trans (State.rd_wr_row _ _ _ rfl))

theorem State.hops_hopTaken (s : State) (n f : Nat) :
    (s.hopTaken n f).rd Obj.HOPS n = (satInc Obj.HOPS.width (s.rdN Obj.HOPS n) 1 : Nat) := by
  rw [State.hopTaken, State.rd_toStationLog _ _ _ rfl, State.rd_count_row _ _ rfl, State.rdN,
    State.rd_wr_of_place _ _ _ _ rfl (by decide), State.rd_setTch, State.rdN]

theorem State.nextFreq_latchZones (s : State) (n : Nat) : ((s.latchZones n).tch n).nextFreq = (s.tch n).nextFreq := by
  rw [State.latchZones, State.tch_setTch_self]

theorem exec_scanPairStart_skip {s : State} {n : Fin 8} (hmay : s.pairMayStart n = true) (hskip : (s.tch n).skipNext = true) :
    exec (.scanPairStart n) s = .next (s.skipPair n) :=
  congrArg Host.Outcome.next ((if_neg (by simp [hmay])).trans (if_pos hskip))

/-- A pair that starts with no commit waiting hops first where a hop was decided (R224, R226). -/
theorem exec_scanPairStart {s : State} {n : Fin 8} (hmay : s.pairMayStart n = true) (hskip : (s.tch n).skipNext = false)
    (hcommitted : (s.tch n).committed = none) :
    exec (.scanPairStart n) s = .next ((s.tch n).nextFreq.elim (s.pairBegun n) fun f => (s.pairBegun n).hopTaken n f) := by
  have hstays : (if (s.tch n).committed.isSome then s.applyTouch n else s) = s := by simp [hcommitted]
  have hexec : exec (.scanPairStart n) s = execScanPairStart n s := rfl
  have hhops (o : Option Nat) : (match o with
      | some f => (s.pairBegun n).hopTaken n f
      | none => s.pairBegun n) = o.elim (s.pairBegun n) fun f => (s.pairBegun n).hopTaken n f := by cases o <;> rfl
  rw [hexec, execScanPairStart, if_neg (by simp [hmay]), if_neg (by simp [hskip]), hstays, ← State.nextFreq_latchZones]
  exact congrArg Host.Outcome.next (hhops _)

theorem State.touchState_pairComplete (s : State) (n : Nat) : (s.pairComplete n).touchState n = s.touchState n :=
  State.touchState_of_rd ((State.rd_wr_of_place _ _ _ _ rfl (by decide)).trans (State.rd_wr_of_place _ _ _ _ rfl (by decide)))

theorem exec_scanPairEnd_scanning {s : State} {n : Fin 8} {b : Nat} (hpair : (s.tch n).pairStart = some b)
    (hrunning : (s.dsp n).modeHeld = false) (hstate : s.touchState n = toScanning) (nodes self : List Nat) (use oth : List Int) :
    exec (.scanPairEnd n nodes self use oth) s = .next (((s.pairComplete n).listen n use oth).scanPair n nodes self) := by
  have hcomplete : ((s.pairComplete n).listen n use oth).touchState n = toScanning := (s.touchState_pairComplete n).trans hstate
  exact congrArg Host.Outcome.next ((if_neg (by simp [hpair, hrunning])).trans
    ((if_neg (by rw [hcomplete]; decide)).trans (if_pos hcomplete)))

theorem exec_scanPairEnd_calibrating {s : State} {n : Fin 8} {b : Nat} (hpair : (s.tch n).pairStart = some b)
    (hrunning : (s.dsp n).modeHeld = false) (hstate : s.touchState n = toCalibrating) (nodes self : List Nat) (use oth : List Int) :
    exec (.scanPairEnd n nodes self use oth) s = .next (((s.pairComplete n).listen n use oth).calibrationPair n nodes self) := by
  have hcomplete : ((s.pairComplete n).listen n use oth).touchState n = toCalibrating := (s.touchState_pairComplete n).trans hstate
  exact congrArg Host.Outcome.next ((if_neg (by simp [hpair, hrunning])).trans (if_pos hcomplete))

/-- A calibration pair in SLEEP is due, and is skipped after a swap of the microcode (R257, R660). -/
theorem exec_sleepCalibrationPair {s : State} {n : Fin 8} (hstate : s.touchState n = toCalibrating) (hsleep : (s.tch n).sleepCal = true)
    (hperiod : s.periodPassed n (s.rdN Obj.WAKE_SCAN_HZ n) = true) (nodes self : List Nat) (use oth : List Int) :
    exec (.sleepCalibrationPair n nodes self use oth) s = .next (if (s.tch n).skipNext then s.skipPair n else
      ((((s.latchZones n).setTch n { (s.latchZones n).tch n with lastStart := some s.time, starts := (s.tch n).starts + 1 }).pairComplete
        n).listen n use oth).calibrationPair n nodes self) :=
  congrArg Host.Outcome.next (if_neg (by simp [hstate, hsleep, hperiod]))

theorem State.tch_skipPair (s : State) (n : Nat) :
    (s.skipPair n).tch n = { s.tch n with skipNext := false, lastStart := some s.time } := by
  rw [State.skipPair, State.tch_touchStatusAll, State.tch_count, State.tch_setTch_self]

/-- A skipped pair is counted, and tells the holders of zones; no other object of the stations changes (R249, R257). -/
theorem State.rd_skipPair (s : State) (n : Nat) {r : ObjRow} (hr : r.station = true) : (s.skipPair n).rd r n =
    ((s.setTch n { s.tch n with skipNext := false, lastStart := some s.time }).count Obj.PAIRS_SKIPPED n).rd r n :=
  SameStationObjects.rd (.touchStatusAll n 5 _ (.refl _)) hr n 0 512 0

/-- A pair that is not complete within 4 report periods is given up, with a log record (R258). -/
theorem exec_pairAbandon {s : State} {n : Fin 8} {b : Nat} (hpair : (s.tch n).pairStart = some b)
    (hlate : 4000000000 ≤ (s.time - b) * s.rdN Obj.TARGET_RATE_HZ n) (steps : Nat) : ∃ r, exec (.pairAbandon n steps) s =
      .next (((s.setTch n { s.tch n with pairStart := none, lastEnd := s.time }).count Obj.PAIRS_SKIPPED n).toStationLog n r) :=
  ⟨_, congrArg Host.Outcome.next (if_neg (by simp [hpair, hlate]))⟩

end Sys2Proof.Machine

/-! The engine halts and calibrates again; reference captures; wake scans; a swap of the microcode (R243, R251, R253, R254, R257). -/
namespace Sys2Proof.Machine

theorem exec_touchCommit {s : State} {who : Requester} {n : Fin 8} (haccept : s.accepts who Obj.TOUCH_COMMIT 1 n)
    (hready : s.isStReady n 7 = true) :
    exec (.touchCommit who n 1) s = .next ((s.setTch n { s.tch n with committed := some (s.commitValues touchRows n) }).answer .ok) := by
  have hcommit := State.onWrite_of_accepts haccept fun u => u.guarded (u.needStReady n 7) fun u =>
    (u.setTch n { u.tch n with committed := some (u.commitValues touchRows n) }).answer .ok
  exact congrArg Host.Outcome.next (hcommit.trans (by simp only [State.guarded, State.needStReady, hready, if_true]))

/-- An engine whose pump is out of regulation has cancelled its contacts and runs no pair (R254). -/
def State.scanStopped (s : State) (n : Nat) : State :=
  let u := ((s.setTch n { s.tch n with pumpOk := false }).cancelAll n 6).setContacts n []
  u.setTch n { u.tch n with pairStart := none, calPairs := [], wakeNow := none, wakePrev := [], wakeTap := none }

theorem exec_pumpOutOfRegulation {s : State} {n : Fin 8}
    (hruns : s.touchState n = toCalibrating ∨ s.touchState n = toScanning ∨ s.touchState n = toWakeScan) :
    exec (.pumpOutOfRegulation n) s = .next ((((s.scanStopped n).setTouchState n toHalted).count Obj.PUMP_FAULTS n).alarm 12 1 n 0) :=
  congrArg Host.Outcome.next (if_pos (by simpa [or_assoc] using hruns))

theorem State.tch_scanStopped (s : State) (n : Nat) : (s.scanStopped n).tch n =
    { s.tch n with pumpOk := false, contacts := [], pairStart := none, calPairs := [], wakeNow := none, wakePrev := [], wakeTap := none } := by
  simp only [State.scanStopped, State.tch_setTch_self, State.tch_setContacts, State.tch_cancelAll]

theorem State.pumpFaults_scanStopped (s : State) (n : Nat) : (s.scanStopped n).rd Obj.PUMP_FAULTS n = s.rd Obj.PUMP_FAULTS n := by
  rw [State.scanStopped, State.rd_setTch, State.rd_setContacts _ _ _ (by decide) (by decide) (by decide),
    SameStationObjects.rd (.cancelAll n 6 (.refl _)) rfl, State.rd_setTch]

theorem exec_referenceCapture {s : State} {who : Requester} {n : Fin 8} {v : Nat} (haccept : s.accepts who Obj.REFERENCE_CAPTURE v n)
    (hstart : v ≠ 0) (hready : s.isStReady n 7 = true) (hidle : s.isPending Obj.REFERENCE_RESULT n = false)
    (hstate : s.touchState n = toScanning) : exec (.referenceCapture who n v) s =
      .next (((s.startResult Obj.REFERENCE_RESULT who n).setTch n { s.tch n with capture := some ⟨true⟩ }).answer .ok) := by
  refine congrArg Host.Outcome.next ((State.onWrite_of_accepts haccept _).trans ?_)
  simp [State.guarded, State.needStReady, hready, hstart, hidle, hstate]

/-- A node's raw counts vary too much within the pairs of a frequency (R243). -/
def State.captureMoved (s : State) (n : Nat) (pairs : List (List CapturePair)) : Bool :=
  pairs.any fun l => (List.range (s.txN n * s.rxN n)).any fun k => s.rdN Obj.SUSPECT_THRESHOLD n < 2 * variation (l.map CapturePair.nodes) k

/-- A pair's listening step is too noisy (R243). -/
def State.captureNoisy (s : State) (n : Nat) (pairs : List (List CapturePair)) : Bool :=
  pairs.zipIdx.any fun l => l.1.any fun p => noiseAbove (s.noiseOf n l.2 p.noise) (s.rdN Obj.NOISE_HOP_LEVEL n)

theorem State.captureMoved_iff {s : State} {n : Nat} {pairs : List (List CapturePair)} : s.captureMoved n pairs = true ↔
    ∃ l ∈ pairs, ∃ k ∈ List.range (s.txN n * s.rxN n), s.rdN Obj.SUSPECT_THRESHOLD n < 2 * variation (l.map CapturePair.nodes) k := by
  simp only [State.captureMoved, List.any_eq_true, decide_eq_true_iff]

theorem State.captureNoisy_iff {s : State} {n : Nat} {pairs : List (List CapturePair)} : s.captureNoisy n pairs = true ↔
    ∃ l ∈ pairs.zipIdx, ∃ p ∈ l.1, noiseAbove (s.noiseOf n l.2 p.noise) (s.rdN Obj.NOISE_HOP_LEVEL n) = true := by
  simp only [State.captureNoisy, List.any_eq_true]

theorem State.captureMoved_eq_false {s : State} {n : Nat} {pairs : List (List CapturePair)}
    (h : ∀ l ∈ pairs, ∀ k ∈ List.range (s.txN n * s.rxN n), 2 * variation (l.map CapturePair.nodes) k ≤ s.rdN Obj.SUSPECT_THRESHOLD n) :
    ¬ s.captureMoved n pairs = true := by
  rw [State.captureMoved_iff]
  rintro ⟨l, hl, k, hk, hmoved⟩
  exact absurd (h l hl k hk) (Nat.not_le.mpr hmoved)

/-- The reference that a capture spells, in force (R242, R243). -/
def State.referenceStored (s : State) (n : Nat) (pairs : List (List CapturePair)) : State :=
  (s.wrBlob Obj.FACTORY_REFERENCE (s.makeReference n (pairs.map fun l => meanCounts (l.map CapturePair.nodes) (s.txN n * s.rxN n))
    (pairs.map fun l => meanCounts (l.map CapturePair.self) (s.txN n + s.rxN n))) n).syncReference n

/-- A capture ends by its spread, then by its noise, else with the reference stored (R243). -/
theorem exec_referenceCaptureDone {s : State} {n : Fin 8} {c : Capture} (hcapture : (s.tch n).capture = some c)
    (pairs : List (List CapturePair)) : exec (.referenceCaptureDone n pairs) s = .next (
      if s.captureMoved n pairs then (s.setTch n { s.tch n with capture := none }).finish Obj.REFERENCE_RESULT 2 n
      else if s.captureNoisy n pairs then (s.setTch n { s.tch n with capture := none }).finish Obj.REFERENCE_RESULT 3 n
      else ((s.setTch n { s.tch n with capture := none }).referenceStored n pairs).finish Obj.REFERENCE_RESULT 0 n) :=
  congrArg Host.Outcome.next (if_neg (by simp [hcapture]))

/-- A wake scan in SLEEP; a gesture wakes a station that is not on its way already (R251, R253). -/
theorem exec_wakeScan {s : State} {n : Fin 8} (hstate : s.touchState n = toWakeScan) (hsleep : s.stationState n = stSleep) (coarse : Nat)
    (found : List (Nat × Nat)) : exec (.wakeScan n coarse found) s = .next (
      if (s.wakeScan n coarse found).1 ≠ 0 && ((s.wakeScan n coarse found).2.ctl n).moving = none then
        (((s.wakeScan n coarse found).2.wakeGesture n (s.wakeScan n coarse found).1).setCtl n
          { (s.wakeScan n coarse found).2.ctl n with moving := some false, thenOther := false }).exitSelfRefresh n
      else (s.wakeScan n coarse found).2) :=
  congrArg Host.Outcome.next (if_pos (by simp [hstate, hsleep]))

theorem State.wakePending_wr (s : State) (n m : Nat) :
    (s.wr Obj.WAKE_PENDING 0 n).rdB Obj.WAKE_PENDING m = (decide (m ≠ n) && s.rdB Obj.WAKE_PENDING m) := by
  by_cases h : m = n
  · subst h
    simp [State.rdB, s.rd_wr_row (r := Obj.WAKE_PENDING) 0 m rfl]
  · have hother : Obj.WAKE_PENDING.key m 0 512 0 ≠ Obj.WAKE_PENDING.key n 0 512 0 := by simp [ObjRow.key, Obj.WAKE_PENDING, h]
    rw [State.rdB, State.rd_wr_of_ne _ _ _ _ _ _ _ _ _ _ _ _ (.inl rfl) hother, State.rdB]
    simp [h]

/-- WAKE_N is let go where no other station has a wake pending (R253). -/
theorem State.wakePin_wr (s : State) (n : Nat) : (s.wr Obj.WAKE_PENDING 0 n).wakePin =
    (s.wr Obj.WAKE_PENDING 0 n).drive 16 (!((List.range 8).any fun m => m ≠ n && s.rdB Obj.WAKE_PENDING m)) := by
  simp only [State.wakePin, State.wakePending_wr]

end Sys2Proof.Machine

namespace Sys2Proof.Machine

/-- Settles O21: each command takes the branch its hypotheses ask for (the lemmas `exec_…`); what a pair and a halt of the engine write
stays through the records, alarms and changes of state that follow. -/
theorem touchPairsAndStates : Obligations.TouchPairsAndStates := by
  unfold Obligations.TouchPairsAndStates
  refine ⟨?started, ?skipped, ?hopped, ?scanned, ?calibrated, ?sleepPair, ?sleepSkipped, ?abandoned, ?contactHeld, ?areasHeld, ?commit,
    ?pumpLost, ?pumpBack, ?retry, ?capture, ?stored, ?moved, ?noisy, ?noGesture, ?gesture, ?pendingCleared, ?swap⟩
  case started =>
    intro s n hstate hidle hperiod hslot hskip hcommitted hfreq
    exact ⟨_, exec_scanPairStart (State.pairMayStart_of_scanning hstate hidle hperiod hslot) hskip hcommitted, by rw [hfreq]; rfl⟩
  case skipped =>
    intro s n hstate hidle hperiod hslot hskip
    exact ⟨_, exec_scanPairStart_skip (State.pairMayStart_of_scanning hstate hidle hperiod hslot) hskip, rfl⟩
  case hopped =>
    intro s n f hstate hidle hperiod hslot hskip hcommitted hfreq
    refine ⟨_, exec_scanPairStart (State.pairMayStart_of_scanning hstate hidle hperiod hslot) hskip hcommitted, ?_⟩
    beta_reduce
    rw [hfreq, Option.elim_some, State.tch_hopTaken, State.pairBegun, State.tch_setTch_self]
    exact ⟨rfl, rfl, rfl, State.freq_hopTaken _ n f, State.hops_hopTaken _ n f⟩
  case scanned => exact fun s n nodes self use oth b hpair hheld hstate => ⟨_, exec_scanPairEnd_scanning hpair hheld hstate .., rfl⟩
  case calibrated => exact fun s n nodes self use oth b hpair hheld hstate => ⟨_, exec_scanPairEnd_calibrating hpair hheld hstate .., rfl⟩
  case sleepPair =>
    intro s n nodes self use oth hstate hsleep hperiod hskip
    exact ⟨_, exec_sleepCalibrationPair hstate hsleep hperiod .., if_neg (by simp [hskip])⟩
  case sleepSkipped =>
    intro s n nodes self use oth hstate hsleep hperiod hskip
    refine ⟨_, exec_sleepCalibrationPair hstate hsleep hperiod .., ?_⟩
    beta_reduce
    rw [if_pos hskip, State.tch_skipPair, s.rd_skipPair n rfl, s.rd_skipPair n rfl]
    exact ⟨rfl, rfl, State.rd_count_row _ n rfl, State.rd_count_of_place _ n n rfl (by decide)⟩
  case abandoned =>
    intro s n steps b hpair hlate
    obtain ⟨r, hexec⟩ := exec_pairAbandon hpair hlate steps
    refine ⟨_, hexec, ?_⟩
    beta_reduce
    rw [State.tch_toStationLog, State.tch_count, State.tch_setTch_self, State.rd_toStationLog _ _ _ rfl, State.rd_toStationLog _ _ _ rfl]
    exact ⟨rfl, rfl, State.rd_count_row _ n rfl, State.rd_count_of_place _ n n rfl (by decide)⟩
  case contactHeld => exact fun s n i => ⟨_, rfl, rfl⟩
  case areasHeld => exact fun s n hheld => ⟨_, congrArg Host.Outcome.next (if_pos hheld), rfl⟩
  case commit =>
    rintro s who n v haccept rfl hready
    exact ⟨_, exec_touchCommit haccept hready, rfl⟩
  case pumpLost =>
    intro s n hruns
    obtain ⟨capture, hcapture⟩ := (s.scanStopped n).tch_setTouchState n toHalted
    have htch := (State.tch_alarm _ 12 1 n 0 n).trans ((State.tch_count _ Obj.PUMP_FAULTS n 0 512 0 1 n).trans hcapture)
    rw [State.tch_scanStopped] at htch
    refine ⟨_, exec_pumpOutOfRegulation hruns, ?_, congrArg Touch.pumpOk htch, congrArg Touch.contacts htch,
      congrArg Touch.pairStart htch, ?_, ?_⟩
    · exact (State.touchState_of_rd ((State.rd_alarm _ _ _ _ _ rfl _).trans (State.rd_count_of_place _ _ _ rfl (by decide)))).trans
        (State.touchState_setTouchState ..)
    · rw [State.isStReady_alarm, State.count, State.isStReady_wr _ rfl rfl, State.isStReady_setTouchState]
      decide
    · rw [State.rd_alarm _ _ _ _ _ rfl, State.rd_count_row _ _ rfl, State.rdN, State.rd_setTouchState _ _ _ rfl (by decide) (by decide),
        State.pumpFaults_scanStopped, State.rdN]
  case pumpBack =>
    intro s n hstate hreleased
    have hcalibrates : ((s.setTch n { s.tch n with pumpOk := true }).touchState n = toOff &&
        ((s.setTch n { s.tch n with pumpOk := true }).tch n).released) = true := by
      simp only [State.tch_setTch_self, hreleased, Bool.and_true, decide_eq_true_iff]
      exact hstate
    exact ⟨_, congrArg Host.Outcome.next (if_pos hcalibrates), rfl⟩
  case retry =>
    intro s n hstate hpump hpassed
    exact ⟨_, congrArg Host.Outcome.next (if_pos (by simp [hstate, hpump, hpassed])), rfl⟩
  case capture =>
    exact fun s who n v haccept hstart hready hidle hstate => ⟨_, exec_referenceCapture haccept hstart hready hidle hstate, rfl⟩
  case stored =>
    intro s n pairs c hcapture hstill hquiet
    have hnoisy : ¬ s.captureNoisy n pairs = true := by simpa [State.captureNoisy_iff] using hquiet
    exact ⟨_, exec_referenceCaptureDone hcapture pairs, (if_neg (State.captureMoved_eq_false hstill)).trans (if_neg hnoisy)⟩
  case moved =>
    exact fun s n pairs c hcapture hmoved => ⟨_, exec_referenceCaptureDone hcapture pairs, if_pos (State.captureMoved_iff.mpr hmoved)⟩
  case noisy =>
    intro s n pairs c hcapture hstill hnoisy
    exact ⟨_, exec_referenceCaptureDone hcapture pairs,
      (if_neg (State.captureMoved_eq_false hstill)).trans (if_pos (State.captureNoisy_iff.mpr hnoisy))⟩
  case noGesture =>
    rintro s n coarse found g hstate hsleep rfl hnone
    exact ⟨_, exec_wakeScan hstate hsleep coarse found, if_neg (by simp [hnone])⟩
  case gesture =>
    rintro s n coarse found g hstate hsleep rfl hgesture hstill
    exact ⟨_, exec_wakeScan hstate hsleep coarse found, if_pos (by simp [hgesture, hstill])⟩
  case pendingCleared =>
    rintro s who n v haccept rfl
    refine ⟨_, congrArg Host.Outcome.next (State.onWrite_of_accepts haccept _), ?_⟩
    exact congrArg (State.answer · .ok) (s.wakePin_wr n)
  case swap =>
    intro s n digest ok hstate hidle hswap
    exact ⟨_, congrArg Host.Outcome.next ((if_neg (by simp [hstate, hidle])).trans (if_neg hswap)), rfl⟩

end Sys2Proof.Machine

/-! A tick in IDLE while a play of the very trigger that it takes is still recorded: the tick takes the play that it starts for the recorded
one, and goes on with it at once (R277, R282). -/
namespace Sys2Proof.Machine

/-- A trigger of the manager that plays effect 3 once. -/
def triggerOfSlot3 : Trigger := { owner := .manager, time := 0, prio := 1, gain := 200, repeats := 0, stream := false, effect := 3 }

/-- Station 0 is IDLE with its bootstraps charged and the trigger in its queue; slot 3 holds an effect of one sample, and the driver still
records a play of the same trigger that has not ended. -/
def idleWithPlayRecorded : State :=
  { State.reset with
    regs := [(Obj.HAPTIC_STATE.key 0 0 512 0, haIdle)]
    blobs := [(Obj.EFFECT_DATA.key 0 3 512 0, [1, 0, 100, 0, 1, 0, 0, 0] ++ List.replicate 8 0 ++ [1, 0])]
    haptic := [(0, { charged := true, play := some { trig := triggerOfSlot3 } })]
    hapticQ := [(0, { drain := [(0, triggerOfSlot3)], nextAge := 1 })] }

/-- The state in which a tick examines the queue. -/
def State.tickStart (s : State) (n : Nat) : State := s.setHap n { s.hap n with phase := 0, blendLeft := (s.hap n).blendLeft - 1 }

/-- By what a tick knows a play again after the queue was examined: its trigger, and the status of its end. -/
def Play.mark (p : Play) : Trigger × Option Nat := (p.trig, p.ended)

/-- A play with the mark of the one recorded before goes on by one sample, even if it started at this tick. -/
theorem exec_hapticTick_of_mark {s : State} {n : Fin 8} {p : Play} (hplay : (((s.tickStart n).examine n).hap n).play = some p)
    (hplaying : ((s.tickStart n).examine n).hapState n = haPlaying) (hmark : (s.hap n).play.map Play.mark = some p.mark) :
    exec (.hapticTick n) s = .next ((((s.tickStart n).examine n).playTick n p).emptySlots n) := by
  have hbefore : ((s.tickStart n).hap n).play.map (fun p => (p.trig, p.ended)) = some (p.trig, p.ended) := by
    rw [State.tickStart, State.hap_setHap_self]
    exact hmark
  change execHapticTick n s = _
  rw [State.tickStart] at *
  simp only [execHapticTick, hplay, hplaying, hbefore, decide_true, Bool.and_self, if_true]

/-- The play that the tick starts has the mark of the recorded one; going on with it ends it, since its one sample has been played. -/
theorem play_examine_idleWithPlayRecorded : ∃ p, (((idleWithPlayRecorded.tickStart 0).examine 0).hap 0).play = some p ∧
    p.mark = (triggerOfSlot3, none) ∧ ((((idleWithPlayRecorded.tickStart 0).examine 0).playTick 0 p).emptySlots 0).hapState 0 = haIdle := by
  refine ⟨_, Option.some_get (by decide +kernel) |>.symm, ?_⟩
  decide +kernel

/-- Refutes O22: a tick in IDLE need not leave the driver PLAYING where a play of the same trigger is recorded, which no hypothesis excludes:
the effect that it starts ends at the same tick. -/
theorem not_hapticDriverActs : ¬ Obligations.HapticDriverActs := by
  unfold Obligations.HapticDriverActs
  rintro ⟨htick, -⟩
  obtain ⟨t, ht, hplaying, -⟩ := htick idleWithPlayRecorded 0 triggerOfSlot3 rfl rfl rfl (by decide +kernel) rfl
  obtain ⟨p, hplay, hmark, hidle⟩ := play_examine_idleWithPlayRecorded
  have hstarted : ((idleWithPlayRecorded.tickStart 0).examine 0).hapState 0 = haPlaying := by decide +kernel
  rw [exec_hapticTick_of_mark (n := 0) hplay hstarted (congrArg some hmark.symm), Host.Outcome.next.injEq] at ht
  rw [← ht] at hplaying
  exact absurd (hidle.symm.trans hplaying) (by decide)

end Sys2Proof.Machine

/-! A write of station memory is no write of a station's objects: what the check-value units leave (R459, R597, R604). -/
namespace Sys2Proof.Machine

/-- The run that ends puts its value into objects of the device (R603). -/
theorem SameStationObjects.cvComplete {a s : State} (u : Nat) (h : SameStationObjects a s) : SameStationObjects a (s.cvComplete u) := by
  have hended (outcome : Nat) {x : State} (hx : SameStationObjects a x) :
      SameStationObjects a ((x.completeResult Obj.CV_VALUE outcome 0 u).count Obj.CV_RUNS 0 u) :=
    .count _ _ _ _ _ (by decide) (.completeResult _ _ _ _ _ hx)
  have hvalue (v b g : Int) :
      SameStationObjects a (((s.wr Obj.CV_VALUE v 0 u).wr Obj.CV_RUN_BYTES b 0 u).wr Obj.CV_RUN_TAG g 0 u) :=
    .wr _ _ _ _ _ (by decide) (.wr _ _ _ _ _ (by decide) (.wr _ _ _ _ _ (by decide) h))
  unfold State.cvComplete
  dsimp only
  split
  · exact h
  · refine .ite ?_ (hended _ (.ite (hvalue _ _ _) h))
    split
    all_goals exact hended _ (.ite (hvalue _ _ _) h)

theorem SameStationObjects.cvStart {a s : State} (u tag : Nat) (h : SameStationObjects a s) : SameStationObjects a (s.cvStart u tag) :=
  .ite (h.cvComplete u) (h.cvComplete u)

theorem SameStationObjects.cvFeed {a s : State} (u : Nat) (bs : Bytes) (h : SameStationObjects a s) : SameStationObjects a (s.cvFeed u bs) :=
  .ite h h

theorem SameStationObjects.cvEnd {a s : State} (u outcome : Nat) (h : SameStationObjects a s) : SameStationObjects a (s.cvEnd u outcome) :=
  .ite h h

theorem SameStationObjects.cvBusUnit {a s : State} (u addr : Nat) (bs : Bytes) (h : SameStationObjects a s) :
    SameStationObjects a (s.cvBusUnit u addr bs) := by
  unfold State.cvBusUnit
  dsimp only
  have hstart : SameStationObjects a (if (addr = s.rdN Obj.CV_WINDOW_BASE 0 u && !(s.cvu u).running) = true
      then s.cvStart u (s.rdN Obj.CV_WINDOW_BASE 0 u / 64) else s) := .ite (h.cvStart _ _) h
  exact .ite h (.ite hstart (.ite (hstart.cvEnd _ _) (.ite ((hstart.cvFeed _ _).cvEnd _ _) (hstart.cvFeed _ _))))

theorem SameStationObjects.cvBusWrite {a s : State} (n addr : Nat) (bs : Bytes) (ingress : Bool) (h : SameStationObjects a s) :
    SameStationObjects a (s.cvBusWrite n addr bs ingress) := by
  unfold State.cvBusWrite
  dsimp only
  have hports := SameStationObjects.ite (p := ingress = true) (.each (List.range 16)
    (f := fun s u => if (s.rdN Obj.CV_SOURCE 0 u = cvBus && s.rdN Obj.CV_STATION 0 u = n && (s.cvu u).armed) = true then s.cvBusUnit u addr bs else s)
    (fun _ _ hs => .ite (hs.cvBusUnit _ _ _) hs) h) h
  exact .ite (hports.cvBusUnit _ _ _) hports

theorem SameStationObjects.writeTagged {a s : State} (n x : Nat) (b : Bytes) (tag : Nat) (ingress : Bool) (h : SameStationObjects a s) :
    SameStationObjects a (s.writeTagged n x b tag ingress) := by
  unfold State.writeTagged
  split
  · exact .count _ _ _ _ _ (by decide) h
  · refine .ite (.cvBusWrite _ _ _ _ ?stored) (.each _ (fun _ _ hu => .cvBusWrite _ _ _ _ ?unit) ?unpoisoned)
    exacts [h, hu, h]

end Sys2Proof.Machine

/-! What paces a station's audio frames through what a frame does: its counter, the format in force, the frames under way and whether the
engine is STARTING (R293 to R315). -/
namespace Sys2Proof.Machine

@[simp] theorem State.aud_wr (s : State) (r : ObjRow) (v : Int) (n i t j m : Nat) : (s.wr r v n i t j).aud m = s.aud m := by
  simp only [State.aud, State.audio_wr]

@[simp] theorem State.audioState_setAud (s : State) (n : Nat) (v : Audio) (m : Nat) : (s.setAud n v).audioState m = s.audioState m := rfl

theorem State.aud_of_audio {s t : State} (h : t.audio = s.audio) (n : Nat) : t.aud n = s.aud n := by simp only [State.aud, h]

theorem State.audioState_of_rd {s t : State} {n : Nat} (h : t.rd Obj.AUDIO_STATE n = s.rd Obj.AUDIO_STATE n) :
    t.audioState n = s.audioState n := congrArg Int.toNat h

/-- An object of the stations reads as before a write, at any place, of an object of a higher index. -/
theorem State.rd_wr_of_idx_lt (s : State) {r q : ObjRow} (v : Int) (n i t j m : Nat) (hq : q.station = true) (h : q.idx < r.idx) :
    (s.wr r v n i t j).rd q m = s.rd q m := by
  refine State.rd_wr_of_ne _ _ _ _ _ _ _ _ _ _ _ _ (.inr ?_) ?_
  · simp only [ObjRow.key, hq, Obj.SETTINGS_STATE, ne_eq, OKey.mk.injEq]
    simp
  · simp only [ObjRow.key, ne_eq, OKey.mk.injEq]
    omega

/-- The time base of the frames, the TDM format in force and the frames not yet sent (R296, R307, R313). -/
def Audio.pace (a : Audio) : Nat × Nat × Nat × List (List Int) := (a.frame, a.fsyncDelay, a.bclkEdge, a.outDelay)

theorem Audio.pace_eq_iff {a b : Audio} : a.pace = b.pace ↔
    a.frame = b.frame ∧ a.fsyncDelay = b.fsyncDelay ∧ a.bclkEdge = b.bclkEdge ∧ a.outDelay = b.outDelay := by
  simp [Audio.pace]

/-- Two states agree in what paces a station's frames. -/
structure SamePace (n : Nat) (s t : State) : Prop where
  counter : t.rd Obj.SAMPLE_COUNTER n = s.rd Obj.SAMPLE_COUNTER n
  pace : (t.aud n).pace = (s.aud n).pace
  starting : t.audioState n = auStarting ↔ s.audioState n = auStarting

theorem SamePace.refl (n : Nat) (s : State) : SamePace n s s := ⟨rfl, rfl, .rfl⟩

theorem SamePace.trans {n : Nat} {a b c : State} (h : SamePace n a b) (g : SamePace n b c) : SamePace n a c :=
  ⟨g.counter.trans h.counter, g.pace.trans h.pace, g.starting.trans h.starting⟩

theorem SamePace.ite {n : Nat} {a b c : State} {p : Prop} [Decidable p] (hb : SamePace n a b) (hc : SamePace n a c) :
    SamePace n a (if p then b else c) := by split <;> assumption

theorem SamePace.iteSnd {β : Type} {n : Nat} {a : State} {b c : β × State} {p : Prop} [Decidable p] (hb : SamePace n a b.2)
    (hc : SamePace n a c.2) : SamePace n a (if p then b else c).2 := by split <;> assumption

theorem SamePace.each {α : Type} {n : Nat} {a s : State} (l : List α) {f : State → α → State}
    (hf : ∀ u x, SamePace n a u → SamePace n a (f u x)) (h : SamePace n a s) : SamePace n a (s.each l f) := by
  unfold State.each
  induction l generalizing s with
  | nil => exact h
  | cons x l ih => exact ih (hf s x h)

theorem SamePace.foldlSnd {α β : Type} {n : Nat} {a : State} {b : β × State} {l : List α} {f : β × State → α → β × State}
    (hf : ∀ p x, SamePace n a p.2 → SamePace n a (f p x).2) (h : SamePace n a b.2) : SamePace n a (l.foldl f b).2 := by
  induction l generalizing b with
  | nil => exact h
  | cons x l ih => exact ih (hf b x h)

section Keeps
variable {n : Nat} {a s : State}

/-- What writes neither objects of the stations nor the audio engines. -/
theorem SamePace.ofObjects {t : State} (hobjects : SameStationObjects s t) (haudio : t.audio = s.audio) (h : SamePace n a s) : SamePace n a t :=
  h.trans ⟨hobjects.rd rfl .., congrArg Audio.pace (State.aud_of_audio haudio n),
    by rw [State.audioState_of_rd (hobjects.rd rfl ..)]⟩

theorem SamePace.setAud {v : Audio} (hv : v.pace = (s.aud n).pace) (h : SamePace n a s) : SamePace n a (s.setAud n v) :=
  h.trans ⟨rfl, by rw [State.aud_setAud_self, hv], .rfl⟩

/-- `SAMPLE_COUNTER` and `AUDIO_STATE` stand before the objects that a frame writes. -/
theorem SamePace.wr {r : ObjRow} (v : Int) (m i t j : Nat) (hr : Obj.SAMPLE_COUNTER.idx < r.idx) (h : SamePace n a s) :
    SamePace n a (s.wr r v m i t j) :=
  h.trans ⟨s.rd_wr_of_idx_lt _ _ _ _ _ _ rfl hr, by rw [State.aud_wr],
    by rw [State.audioState_of_rd (s.rd_wr_of_idx_lt v m i t j n rfl (Nat.lt_trans (by decide) hr))]⟩

theorem SamePace.count {r : ObjRow} (m i t j k : Nat) (hr : Obj.SAMPLE_COUNTER.idx < r.idx) (h : SamePace n a s) :
    SamePace n a (s.count r m i t j k) := .wr _ _ _ _ _ hr h

theorem SamePace.audioNote (d : Holder) (code prio : Nat) (fields : List (Nat × Nat)) (h : SamePace n a s) :
    SamePace n a (s.audioNote n d code prio fields) := by
  refine .ofObjects ?_ (State.audioNote_frame s n d code prio fields (.refl _) (.refl _ s) .audio (by decide)) h
  unfold State.audioNote
  cases d with
  | tenant t => exact .toStationLog _ _ (.toTenant _ _ (.refl s))
  | enclave e => exact .toStationLog _ _ (.toEnclave _ _ (.refl s))
  | manager => exact .toStationLog _ _ (.refl s)
  | nobody => exact .toStationLog _ _ (.refl s)

theorem SamePace.setSrc (k v : Nat) (h : SamePace n a s) : SamePace n a (s.setSrc n k v) := .ite (.wr _ _ _ _ _ (by decide) h) h

theorem SamePace.aim (k : Nat) (target : Int) (forced : Bool) (h : SamePace n a s) : SamePace n a (s.aim n k target forced) := .setAud rfl h

/-! Commits (R308 to R312). -/

theorem audioRows_behind : ∀ r ∈ audioRows, Obj.SAMPLE_COUNTER.idx < r.idx := by decide

theorem SamePace.applyValues (l : List (Nat × Nat × Nat × Int)) (h : SamePace n a s) : SamePace n a (s.applyValues audioRows n l) := by
  refine SamePace.each l (fun u v hu => ?_) h
  split
  · next r hrow => exact .wr _ _ _ _ _ (audioRows_behind r (List.mem_of_getElem? hrow)) hu
  · exact hu

theorem SamePace.stageChange (touched : List Nat) (k : Nat) (h : SamePace n a s) : SamePace n a (s.stageChange n touched k) :=
  .ite (.setAud rfl h) (.ite (.aim _ _ _ (.setAud rfl h)) (.ite (.aim _ _ _ (.setAud rfl h)) h))

end Keeps

/-! The engine's states (R314). -/

@[simp] theorem State.aud_setAudioState (s : State) (n v m : Nat) : (s.setAudioState n v).aud m = s.aud m :=
  State.aud_of_audio (State.setAudioState_frame s n v (.refl _) (.refl _ s) .audio (by decide)) m

@[simp] theorem State.regs_syncEdge (s : State) (n : Nat) : (s.syncEdge n).regs = s.regs := rfl

/-- Of a station's objects the entry of a state writes `AUDIO_STATE` alone. -/
theorem State.rd_setAudioState_eq (s : State) (n v : Nat) {r : ObjRow} (hr : r.station = true) (m : Nat) :
    (s.setAudioState n v).rd r m = (s.wr Obj.AUDIO_STATE v n).rd r m := by
  unfold State.setAudioState
  rw [State.rd_stReady_of_station _ _ _ _ hr]
  exact State.rd_of_regs (by rw [State.regs_syncEdge, State.regs_wave, State.regs_drive]) ..

@[simp] theorem State.audioState_setAudioState (s : State) (n v : Nat) : (s.setAudioState n v).audioState n = v :=
  congrArg Int.toNat ((s.rd_setAudioState_eq n v rfl n).trans (s.rd_wr_row v n rfl))

theorem State.rd_setAudioState (s : State) (n v : Nat) {r : ObjRow} (hr : r.station = true) (hplace : r.place ≠ Obj.AUDIO_STATE.place) (m : Nat) :
    (s.setAudioState n v).rd r m = s.rd r m :=
  (s.rd_setAudioState_eq n v hr m).trans (s.rd_wr_of_place v n m rfl hplace)

@[simp] theorem State.isStReady_setAudioState (s : State) (n v : Nat) : (s.setAudioState n v).isStReady n 9 = decide (v = auActive) :=
  State.isStReady_stReady ..

section Keeps
variable {n : Nat} {a s : State}

/-- A stop is asked for: an engine that is not STARTING does not become so. -/
theorem SamePace.audioStop (restart : Bool) (h : SamePace n a s) : SamePace n a (s.audioStop n restart) := by
  have hmuted {v : Audio} (hv : v.pace = (s.aud n).pace) :
      SamePace n s ((s.setAud n v).each [20, 21, 22] fun u k => u.aim n k gainMute true) :=
    .each _ (fun _ _ hu => .aim _ _ _ hu) (.setAud hv (.refl n s))
  refine h.trans ?_
  unfold State.audioStop
  dsimp only
  split
  · next hactive =>
    have hmute := hmuted (v := { s.aud n with restart := restart, zeroFrames := 0, newRoute := [] }) rfl
    refine ⟨(State.rd_setAudioState _ _ _ rfl (by decide) n).trans hmute.counter, (congrArg _ (State.aud_setAudioState ..)).trans hmute.pace, ?_⟩
    rw [State.audioState_setAudioState, hactive]
    decide
  · exact .ite (.setAud rfl (.refl n s)) (.ite (.setAud rfl (.refl n s)) (.refl n s))

theorem SamePace.beginChanges (c : AudioCommit) (h : SamePace n a s) : SamePace n a (s.beginChanges n c) := by
  have hbegun : SamePace n a (if (s.applyValues audioRows n c.values).audioState n = auActive then
      (s.applyValues audioRows n c.values).each routedStages fun s k => s.stageChange n c.touched k
    else s.applyValues audioRows n c.values) := .ite (.each _ (fun _ k hu => .stageChange _ k hu) (.applyValues _ h)) (.applyValues _ h)
  exact .ite (.audioStop _ hbegun) hbegun

theorem SamePace.beginDue (h : SamePace n a s) : SamePace n a (s.beginDue n) :=
  .each _ (fun _ c hu => .beginChanges c hu) (.setAud rfl h)

/-! The graph (R293 to R305). -/

theorem SamePace.streamDone (k : Nat) (h : SamePace n a s) : SamePace n a (s.streamDone n k) :=
  .audioNote _ _ _ _ (.setSrc _ _ (.setAud rfl h))

theorem SamePace.streamFrame (k : Nat) (h : SamePace n a s) : SamePace n a (s.streamFrame n k).2 := by
  unfold State.streamFrame
  refine .iteSnd h ?_
  dsimp only
  split
  · have hplayed (v : Stream) : SamePace n a (s.setAud n ((s.aud n).setStream k v)) := .setAud rfl h
    exact .ite (.streamDone _ (.ite (.setSrc _ _ (hplayed _)) (hplayed _))) (.ite (.setSrc _ _ (hplayed _)) (hplayed _))
  · exact .iteSnd h (.iteSnd (.streamDone _ h) (.iteSnd h (.audioNote _ _ _ _ (.count _ _ _ _ _ (by decide) (.setSrc _ _ (.setAud rfl h))))))

theorem SamePace.toneFrame (g : Nat) (h : SamePace n a s) : SamePace n a (s.toneFrame n g).2 := by
  have hput (v : Tone) : SamePace n a (s.setAud n ((s.aud n).setTone g v)) := .setAud rfl h
  unfold State.toneFrame
  dsimp only
  split
  · exact h
  · exact h
  · exact hput _
  · exact .iteSnd (hput _) (.iteSnd (.setSrc _ _ (hput _)) (.iteSnd (.iteSnd (.setSrc _ _ (hput _)) (.iteSnd (hput _) (hput _))) (hput _)))

theorem SamePace.sourceFrame (k : Nat) (mic : Int × Int) (h : SamePace n a s) : SamePace n a (s.sourceFrame n k mic).2 := by
  have hgiven := SamePace.iteSnd (p := k < 12) (.streamFrame k h) (.iteSnd (p := k < 14) (.toneFrame (k - 12) h)
    (c := ((if k = 14 then (mic.1, mic.1) else (mic.2, mic.2)), s)) h)
  unfold State.sourceFrame
  dsimp only
  split
  all_goals exact hgiven

theorem SamePace.runStage (k : Nat) (x : Int × Int) (h : SamePace n a s) : SamePace n a (s.runStage n k x).2 :=
  .ite (.wr _ _ _ _ _ (by decide) (.setAud rfl h)) (.setAud rfl h)

theorem SamePace.saturate (k : Nat) (x : Int) (h : SamePace n a s) : SamePace n a (s.saturate n k x).2 :=
  .ite (.count _ _ _ _ _ (by decide) h) h

theorem SamePace.graph (mic : Int × Int) (h : SamePace n a s) : SamePace n a (s.graph n mic).2 := by
  unfold State.graph
  with_reducible refine .foldlSnd (fun _ _ hsink => ?sink) ?buses
  case sink => exact .saturate _ _ (.saturate _ _ (.runStage _ _ hsink))
  with_reducible refine .foldlSnd (fun _ _ hbus => ?bus) ?sources
  case bus => exact .runStage _ _ (.ite (.wr _ _ _ _ _ (by decide) (.setAud rfl hbus)) hbus)
  with_reducible refine .foldlSnd (fun _ _ hsource => ?source) ?aimed
  case source => exact .runStage _ _ (.sourceFrame _ _ hsource)
  exact .each _ (fun _ _ hu => .aim _ _ _ hu) h

/-! LOOP, fetches and muxes (R300, R306, R310). -/

theorem SamePace.writeTagged (x : Nat) (b : Bytes) (tag : Nat) (h : SamePace n a s) : SamePace n a (s.writeTagged n x b tag) :=
  .ofObjects (.writeTagged _ _ _ _ _ (.refl s)) (State.writeTagged_frame s n x b tag false (.refl _) (.refl _ s) .audio (by decide)) h

theorem SamePace.loopWrite (h : SamePace n a s) : SamePace n a (s.loopWrite n) := by
  unfold State.loopWrite
  dsimp only
  split
  · exact h
  · refine .ite h (.ite (.ite ?_ ?_) (.ite ?_ ?_))
    · exact .count _ _ _ _ _ (by decide) (.setAud rfl h)
    · exact .audioNote _ _ _ _ (.setAud rfl (.count _ _ _ _ _ (by decide) (.setAud rfl h)))
    · exact .setAud rfl h
    · exact .wr _ _ _ _ _ (by decide) (.writeTagged _ _ _ (.setAud rfl (.setAud rfl h)))

theorem SamePace.loopFrame (x : Int × Int) (h : SamePace n a s) : SamePace n a (s.loopFrame n x) :=
  .ite (.setAud rfl h) (.ite (.ite (.loopWrite (.setAud rfl h)) (.setAud rfl h)) (.setAud rfl h))

theorem SamePace.issueFetch (k : Nat) (h : SamePace n a s) : SamePace n a (s.issueFetch n k) :=
  .ite (.wr _ _ _ _ _ (by decide) (.setAud rfl h)) h

theorem SamePace.switchRoutes (h : SamePace n a s) : SamePace n a (s.switchRoutes n) := by
  refine .each _ (fun u k hu => ?_) h
  dsimp only
  split
  · exact .ite (.ite (.setAud rfl hu) (.aim _ _ _ (.setAud rfl hu))) hu
  · exact hu

end Keeps

end Sys2Proof.Machine

/-! A frame of an engine whose clocks run (R293 to R315). -/
namespace Sys2Proof.Machine

theorem Frame.out {ps : List Part} {s t : State} (h : Frame ps s t) (hq : .out ∉ ps) : t.out = s.out := h .out hq

/-- A frame has begun: it is counted, and the commits that are due have begun their changes (R309). -/
def State.frameBegun (s : State) (n : Nat) : State := (s.advance Obj.SAMPLE_COUNTER n).beginDue n

/-- The input frames not yet taken, with this frame's (R313). -/
def State.micsHeld (u : State) (n mic0 mic1 : Nat) : List (Int × Int) :=
  (u.aud n).micDelay ++ [(Int.fdiv (signed 32 mic0) 256, Int.fdiv (signed 32 mic1) 256)]

/-- The graph of a frame has run on the input frame of two frames ago (R293, R313). -/
def State.frameMixed (u : State) (n mic0 mic1 : Nat) : List (Int × Int) × State :=
  let mics := u.micsHeld n mic0 mic1
  (u.setAud n { u.aud n with micDelay := if mics.length ≤ 2 then mics else mics.drop 1 }).graph n
    (if mics.length ≤ 2 then (0, 0) else mics.headD (0, 0))

/-- The frames that the sinks speaker and auxiliary give, as the four slots of the TDM port (R296). -/
def tdmSlots (out : List (Int × Int)) : List Int :=
  [(out.getD 0 (0, 0)).1, (out.getD 0 (0, 0)).2, (out.getD 1 (0, 0)).1, (out.getD 1 (0, 0)).2]

/-- What follows the output of a frame: LOOP takes its frame and the streams fetch (R300, R306). -/
def State.frameFed (v : State) (n : Nat) (out : List (Int × Int)) : State :=
  (v.loopFrame n (out.getD 2 (0, 0))).each (List.range 12) fun s k => s.issueFetch n k

/-- The zero frames passed at a frame's end; in STOPPING the frames with silent sinks are counted (R314). -/
def State.zerosPassed (v : State) (n st : Nat) : Nat :=
  if (decide (st = auStopping) && [20, 21, 22].all fun k => decide (((v.aud n).stage k).present = gainMute)) = true then (v.aud n).zeroFrames + 1
  else (v.aud n).zeroFrames

/-- A frame ends: the time base moves on and muxes at mute switch (R307, R310). -/
def State.frameEnded (v : State) (n st : Nat) : State :=
  (v.setAud n { v.aud n with frame := (v.aud n).frame + 1, zeroFrames := v.zerosPassed n st }).switchRoutes n

theorem exec_audioFrame_starting {s : State} {n : Fin 8} (mic0 mic1 : Nat) (hruns : (s.audioState n = auOff || (s.aud n).clockStopped) = false)
    (hstarting : (s.frameBegun n).audioState n = auStarting) :
    exec (.audioFrame n mic0 mic1) s = .next (((s.frameBegun n).setAud n { (s.frameBegun n).aud n with
      frame := ((s.frameBegun n).aud n).frame + 1, zeroFrames := ((s.frameBegun n).aud n).zeroFrames + 1 }).sendTdm n [0, 0, 0, 0]) := by
  show execAudioFrame n mic0 mic1 s = _
  unfold execAudioFrame
  rw [if_neg (by simp [hruns])]
  exact congrArg Host.Outcome.next (if_pos hstarting)

theorem exec_audioFrame {s : State} {n : Fin 8} (mic0 mic1 : Nat) (hruns : (s.audioState n = auOff || (s.aud n).clockStopped) = false)
    (hstarted : (s.frameBegun n).audioState n ≠ auStarting) :
    exec (.audioFrame n mic0 mic1) s = .next (((((s.frameBegun n).frameMixed n mic0 mic1).2.sendFrame n
      (tdmSlots ((s.frameBegun n).frameMixed n mic0 mic1).1)).frameFed n ((s.frameBegun n).frameMixed n mic0 mic1).1).frameEnded n
        ((s.frameBegun n).audioState n)) := by
  show execAudioFrame n mic0 mic1 s = _
  unfold execAudioFrame
  rw [if_neg (by simp [hruns])]
  refine congrArg Host.Outcome.next ((if_neg hstarted).trans ?_)
  unfold State.frameBegun State.frameMixed State.micsHeld
  dsimp only
  generalize State.graph _ _ _ = q
  rfl

theorem State.frameBegun_pace (s : State) (n : Nat) : SamePace n (s.advance Obj.SAMPLE_COUNTER n) (s.frameBegun n) := .beginDue (.refl n _)

theorem SamePace.frameMixed {n : Nat} {a s : State} (mic0 mic1 : Nat) (h : SamePace n a s) : SamePace n a (s.frameMixed n mic0 mic1).2 := by
  unfold State.frameMixed
  exact .graph _ (.setAud rfl h)

theorem SamePace.frameFed {n : Nat} {a s : State} (out : List (Int × Int)) (h : SamePace n a s) : SamePace n a (s.frameFed n out) :=
  .each _ (fun _ k hu => .issueFetch k hu) (.loopFrame _ h)

/-- What a frame does after its output sends nothing. -/
theorem State.out_frameFed (s : State) (n : Nat) (out : List (Int × Int)) : (s.frameFed n out).out = s.out :=
  (State.each_keeps State.out (fun u k => (State.issueFetch_frame u n k (.refl _) (.refl _ u)).out (by decide)) _ _).trans
    ((State.loopFrame_frame s n _ (.refl _) (.refl _ s)).out (by decide))

theorem State.out_frameEnded (s : State) (n st : Nat) : (s.frameEnded n st).out = s.out :=
  Frame.out (State.switchRoutes_frame _ n (.refl _) (State.setAud_frame s n _ (.refl _) (.refl _ s))) (by decide)

theorem State.frameEnded_pace (s : State) (n st : Nat) : (s.frameEnded n st).rd Obj.SAMPLE_COUNTER n = s.rd Obj.SAMPLE_COUNTER n ∧
    ((s.frameEnded n st).aud n).frame = (s.aud n).frame + 1 := by
  unfold State.frameEnded
  obtain ⟨hcounter, hpace, -⟩ := SamePace.switchRoutes (.refl n
    (s.setAud n { s.aud n with frame := (s.aud n).frame + 1, zeroFrames := s.zerosPassed n st }))
  obtain ⟨hframe, -⟩ := Audio.pace_eq_iff.1 hpace
  exact ⟨hcounter, hframe.trans (congrArg Audio.frame (State.aud_setAud_self ..))⟩

/-- The words of the frame that leaves: of the oldest frame not yet sent where three wait, else zeros (R313). -/
def Audio.wordsDue (a : Audio) : List Nat := if a.outDelay.length ≤ 2 then [0, 0, 0, 0] else (a.outDelay.headD []).map tdmWord

theorem State.sendFrame_sends (s : State) (n : Nat) (x : List Int) : (s.sendFrame n x).regs = s.regs ∧
    ((s.sendFrame n x).aud n).frame = (s.aud n).frame ∧
    (s.sendFrame n x).out = .tdm n (s.aud n).fsyncDelay (s.aud n).bclkEdge (s.aud n).wordsDue :: s.out := by
  have hsent (d : List (List Int)) (y : List Int) :
      ((s.setAud n { s.aud n with outDelay := d }).sendTdm n y).regs = s.regs ∧
      (((s.setAud n { s.aud n with outDelay := d }).sendTdm n y).aud n).frame = (s.aud n).frame ∧
      ((s.setAud n { s.aud n with outDelay := d }).sendTdm n y).out
        = .tdm n (s.aud n).fsyncDelay (s.aud n).bclkEdge (y.map tdmWord) :: s.out := by
    have haud : (s.setAud n { s.aud n with outDelay := d }).aud n = { s.aud n with outDelay := d } := State.aud_setAud_self ..
    refine ⟨rfl, ?_, ?_⟩
    · change ((s.setAud n { s.aud n with outDelay := d }).aud n).frame = _
      rw [haud]
    · rw [State.sendTdm, haud]
      rfl
  have hfull : ((s.aud n).outDelay ++ [x]).length ≤ 3 ↔ (s.aud n).outDelay.length ≤ 2 := by
    rw [List.length_append, List.length_singleton, Nat.add_le_add_iff_right]
  have hhead (h : ¬ (s.aud n).outDelay.length ≤ 2) : ((s.aud n).outDelay ++ [x]).headD [] = (s.aud n).outDelay.headD [] := by
    cases hdelay : (s.aud n).outDelay with
    | nil => simp [hdelay] at h
    | cons y l => rfl
  unfold State.sendFrame Audio.wordsDue
  dsimp only
  rw [if_congr hfull rfl rfl]
  split
  · exact hsent _ _
  · next h =>
    rw [hhead h]
    exact hsent _ _

@[simp] theorem State.audioState_advance (s : State) (n : Nat) : (s.advance Obj.SAMPLE_COUNTER n).audioState n = s.audioState n :=
  State.audioState_of_rd (s.rd_wr_of_place _ n n rfl (by decide))

/-- A frame of an engine that is not STARTING counts itself, moves its time base on and sends the oldest output frame that waits
(R296, R313). -/
theorem exec_audioFrame_sends {s : State} {n : Fin 8} (mic0 mic1 : Nat) (hruns : (s.audioState n = auOff || (s.aud n).clockStopped) = false)
    (hstarted : s.audioState n ≠ auStarting) :
    ∃ t, exec (.audioFrame n mic0 mic1) s = .next t ∧
      t.rd Obj.SAMPLE_COUNTER n = (wrapInc Obj.SAMPLE_COUNTER.width (s.rdN Obj.SAMPLE_COUNTER n) : Nat) ∧
      (t.aud n).frame = (s.aud n).frame + 1 ∧ .tdm n (s.aud n).fsyncDelay (s.aud n).bclkEdge (s.aud n).wordsDue ∈ t.out := by
  have hbegun := s.frameBegun_pace n
  have hmixed := hbegun.frameMixed mic0 mic1
  refine ⟨_, exec_audioFrame mic0 mic1 hruns (by rw [Ne, hbegun.starting, State.audioState_advance]; exact hstarted), ?_⟩
  generalize (s.frameBegun n).frameMixed n mic0 mic1 = q at hmixed
  obtain ⟨hcounter, hpace, -⟩ := hmixed
  rw [State.advance, State.aud_wr, Audio.pace_eq_iff] at hpace
  obtain ⟨hframe, hfsync, hedge, hdelay⟩ := hpace
  obtain ⟨hregs, htime, hout⟩ := q.2.sendFrame_sends n (tdmSlots q.1)
  obtain ⟨hfed, hfedPace, -⟩ := SamePace.frameFed q.1 (.refl n (q.2.sendFrame n (tdmSlots q.1)))
  obtain ⟨hended, hendedFrame⟩ := ((q.2.sendFrame n (tdmSlots q.1)).frameFed n q.1).frameEnded_pace n ((s.frameBegun n).audioState n)
  refine ⟨?_, ?_, ?_⟩
  · rw [hended, hfed, State.rd_of_regs hregs, hcounter]
    exact s.rd_wr_row _ n rfl
  · rw [hendedFrame, (Audio.pace_eq_iff.1 hfedPace).1, htime, hframe]
  · rw [State.out_frameEnded, State.out_frameFed, hout, hfsync, hedge, Audio.wordsDue, hdelay]
    exact List.mem_cons_self

end Sys2Proof.Machine

/-! Starts and stops of the engine (R314). -/
namespace Sys2Proof.Machine

theorem Stage.present_aim (g : Stage) (target : Int) (frame : Nat) (forced : Bool) : (g.aim target frame forced).present = g.present := by
  unfold Stage.aim
  split <;> rfl

theorem Audio.stage_setStage (a : Audio) (k : Nat) (g : Stage) (j : Nat) : (a.setStage k g).stage j = if j = k then g else a.stage j :=
  FMap.getD_put ..

/-- What a new target of a stage leaves: the zero frames counted, the routes, and the present gains. -/
def Audio.unaimed (a : Audio) : Nat × FMap Nat Nat × FMap Nat Nat × (Nat → Int) :=
  (a.zeroFrames, a.newRoute, a.route, fun k => (a.stage k).present)

theorem Audio.unaimed_setStage (a : Audio) (k : Nat) {g : Stage} (h : g.present = (a.stage k).present) :
    (a.setStage k g).unaimed = a.unaimed := by
  have hgains : (fun j => ((a.setStage k g).stage j).present) = fun j => (a.stage j).present := by
    funext j
    rw [Audio.stage_setStage]
    split
    · next hj => rw [h, hj]
    · rfl
  rw [Audio.unaimed, hgains]
  rfl

theorem State.unaimed_aim (s : State) (n k : Nat) (target : Int) (forced : Bool) :
    ((s.aim n k target forced).aud n).unaimed = (s.aud n).unaimed := by
  rw [State.aim, State.aud_setAud_self]
  exact Audio.unaimed_setStage _ _ (Stage.present_aim ..)

theorem FMap.getD_map_const {κ α : Type} [DecidableEq κ] (l : List κ) (d : α) (k : κ) :
    FMap.getD (l.map fun q => (q, d)) k d = d := by
  induction l with
  | nil => rfl
  | cons q l ih =>
    rw [FMap.getD, List.map_cons, FMap.find]
    split
    · rfl
    · exact ih

/-- An engine whose start is complete: every stage at mute, the routes as their objects say (R314). -/
def State.audioMuted (s : State) (n : Nat) : State :=
  s.setAud n { s.aud n with stages := (List.range 23).map fun k => (k, {}), route := routedStages.map fun k => (k, s.wantedRoute n k), newRoute := [],
                            zeroFrames := 0, stopWanted := false, restart := false }

/-- The sources and sinks that no BLOCK reset holds at mute aim at their gains (R314, R317). -/
def State.gainsAimed (s : State) (n : Nat) (muted : List Nat) : State :=
  s.each routedStages fun u k => if muted.contains k then u else u.aim n k (u.wantedGain n k)

theorem State.unaimed_gainsAimed (s : State) (n : Nat) (muted : List Nat) : ((s.gainsAimed n muted).aud n).unaimed = (s.aud n).unaimed :=
  State.each_keeps (fun u => (u.aud n).unaimed) (fun u k => by
    split
    · rfl
    · exact u.unaimed_aim n k _ _) s _

theorem exec_audioStartDone {s : State} {n : Fin 8} (hstarting : s.audioState n = auStarting) (hzeros : 64 ≤ (s.aud n).zeroFrames)
    (hstop : (s.aud n).stopWanted = false) (hrestart : (s.aud n).restart = false) :
    exec (.audioStartDone n) s = .next (((s.audioMuted n).gainsAimed n (s.aud n).blockMuted).setAudioState n auActive) := by
  refine congrArg Host.Outcome.next ((if_pos (by simp [hstarting, hzeros])).trans ?_)
  rw [if_neg (by simp [hstop]), if_neg (by simp [hrestart])]
  rfl

theorem State.aud_started (s : State) (n : Nat) (muted : List Nat) :
    ((((s.audioMuted n).gainsAimed n muted).setAudioState n auActive).aud n).unaimed =
      (0, [], routedStages.map fun k => (k, s.wantedRoute n k), fun _ => gainMute) := by
  rw [State.aud_setAudioState, State.unaimed_gainsAimed, State.audioMuted, State.aud_setAud_self, Audio.unaimed]
  refine congrArg (fun f => (0, [], routedStages.map fun k => (k, s.wantedRoute n k), f)) (funext fun k => ?_)
  exact congrArg Stage.present (FMap.getD_map_const (List.range 23) ({} : Stage) k)

/-! The end of a stop (R314). -/

theorem exec_audioStopDone {s : State} {n : Fin 8} (hstopping : s.audioState n = auStopping) (hzeros : 64 ≤ (s.aud n).zeroFrames) :
    exec (.audioStopDone n) s = .next (if (s.aud n).restart = true then
        ((s.setAud n { s.aud n with clockStopped := true, stoppedAt := s.time, zeroFrames := 0 }).flushCommits n).setAudioState n auStarting
      else if s.stationState n = stOff then s.closedAudio n
      else ((s.setAud n { s.aud n with zeroFrames := 0 }).flushCommits n).setAudioState n auOff) :=
  congrArg Host.Outcome.next (if_pos (by simp [hstopping, hzeros]))

@[simp] theorem State.aud_stReady (s : State) (n k : Nat) (b : Bool) (m : Nat) : (s.stReady n k b).aud m = s.aud m := State.aud_wr ..

theorem State.aud_audioReset (s : State) (n : Nat) : (s.audioReset n).aud n = {} := by
  have hrows {α : Type} (u : State) (l : List α) {f : State → α → State} (hf : ∀ v x, (f v x).aud n = v.aud n) : (u.each l f).aud n = u.aud n :=
    State.each_keeps (fun v => v.aud n) hf u l
  unfold State.audioReset
  rw [State.aud_stReady, State.aud_wr, State.aud_wr, hrows _ _ fun v b => State.aud_wr .., hrows _ _ fun v k => by rw [State.aud_wr, State.aud_wr],
    State.aud_setAud_self]

theorem State.rd_audioState_audioReset (s : State) (n : Nat) : (s.audioReset n).rd Obj.AUDIO_STATE n = auOff := by
  unfold State.audioReset
  rw [State.rd_stReady_of_station _ _ _ _ rfl, State.rd_wr_of_place _ _ _ _ rfl (by decide), State.rd_wr_row _ _ _ rfl]

theorem State.rd_toDefault_self (s : State) (r : ObjRow) (n i t j : Nat) : (s.toDefault r n i t j).rd r n i t j = r.dflt i j := by
  rw [State.rd, State.toDefault, FMap.find_put_self, Option.getD_some]

/-- An object reads as before the return of an object of a higher index to its default. -/
theorem State.rd_toDefault_of_idx_lt (s : State) {r q : ObjRow} (n i t j m u k : Nat) (h : q.idx < r.idx) :
    (s.toDefault r n i t j).rd q m 0 u k = s.rd q m 0 u k := by
  have hkey : q.key m 0 u k ≠ r.key n i t j := by
    simp only [ObjRow.key, ne_eq, OKey.mk.injEq]
    omega
  rw [State.rd, State.toDefault, FMap.find_put_of_ne _ _ hkey, State.rd]

@[simp] theorem State.aud_toDefault (s : State) (r : ObjRow) (n i t j m : Nat) : (s.toDefault r n i t j).aud m = s.aud m := rfl

/-- The objects that the end of an OFF station's engine returns to their defaults. -/
theorem State.closedAudio_eq (s : State) (n : Nat) : s.closedAudio n =
    ((((((((s.setAudioState n auOff).audioReset n).toDefault Obj.AUDIO_RATE_HZ n).toDefault Obj.SAMPLE_COUNTER n).toDefault
      Obj.TG_FREQ_HZ n 0).toDefault Obj.TG_FREQ_HZ n 1).toDefault Obj.TG_LEVEL_HDB n 0).toDefault Obj.TG_LEVEL_HDB n 1) := rfl

/-- Those objects stand behind `AUDIO_STATE` and the ready words. -/
theorem State.rd_closedAudio (s : State) {q : ObjRow} (hq : q.idx < Obj.AUDIO_RATE_HZ.idx) (m u k n : Nat) :
    (s.closedAudio n).rd q m 0 u k = ((s.setAudioState n auOff).audioReset n).rd q m 0 u k := by
  have hbehind {r : ObjRow} (hr : Obj.AUDIO_RATE_HZ.idx ≤ r.idx) (v : State) (i : Nat) : (v.toDefault r n i).rd q m 0 u k = v.rd q m 0 u k :=
    v.rd_toDefault_of_idx_lt n i 512 0 m u k (Nat.lt_of_lt_of_le hq hr)
  rw [State.closedAudio_eq, hbehind (by decide), hbehind (by decide), hbehind (by decide), hbehind (by decide), hbehind (by decide),
    hbehind (by decide)]

theorem State.closedAudio_resets (s : State) (n : Nat) : (s.closedAudio n).audioState n = auOff ∧ (s.closedAudio n).aud n = {} ∧
    (s.closedAudio n).isStReady n 9 = false ∧ (s.closedAudio n).rd Obj.SAMPLE_COUNTER n = 0 := by
  refine ⟨?state, ?engine, ?ready, ?counter⟩
  case state =>
    rw [State.audioState, State.rdN, s.rd_closedAudio (by decide), State.rd_audioState_audioReset, Int.toNat_natCast]
  case engine => rw [State.closedAudio_eq]; simp only [State.aud_toDefault, State.aud_audioReset]
  case ready =>
    have hword := congrArg Int.toNat (s.rd_closedAudio (q := Obj.READY_STATION) (by decide) 0 512 n n)
    exact (State.isStReady_of_rdN hword 9).trans (State.isStReady_stReady ..)
  case counter =>
    have htone {r : ObjRow} (hr : Obj.SAMPLE_COUNTER.idx < r.idx) (v : State) (i : Nat) :
        (v.toDefault r n i).rd Obj.SAMPLE_COUNTER n = v.rd Obj.SAMPLE_COUNTER n := v.rd_toDefault_of_idx_lt n i 512 0 n 512 0 hr
    rw [State.closedAudio_eq, htone (by decide), htone (by decide), htone (by decide), htone (by decide), State.rd_toDefault_self]
    rfl

end Sys2Proof.Machine

/-! A commit (R309). -/
namespace Sys2Proof.Machine

theorem State.guarded_of_stReady {s : State} {n b : Nat} (h : s.isStReady n b = true) (f : State → State) :
    s.guarded (s.needStReady n b) f = f s := by
  simp only [State.guarded, State.needStReady, h, if_true]

/-- The shadows that a commit has taken are gone (R309). -/
def State.audioShadowsTaken (s : State) (n : Nat) : State :=
  audioRows.foldl (fun u r => (List.range r.cnt).foldl (fun u i => u.dropShadow r n i) u) s

theorem State.audioShadowsTaken_keeps {β : Type} (f : State → β) (n : Nat) (hf : ∀ u r i, f (State.dropShadow u r n i) = f u) (s : State) :
    f (s.audioShadowsTaken n) = f s :=
  State.each_keeps f (fun u r => State.each_keeps f (fun v i => hf v r i) u _) s audioRows

/-- The stages whose gain has a shadow (R309). -/
def State.gainsTouched (s : State) (n : Nat) : List Nat :=
  (List.range 16).filter (fun k => (s.shadow.find (Obj.SRC_GAIN_HDB.key n k 512 0)).isSome)
    ++ ((List.range 3).filter (fun k => (s.shadow.find (Obj.SINK_GAIN_HDB.key n k 512 0)).isSome)).map (20 + ·)

/-- A commit is held for the first frame at least 2 µs later (R309). -/
def State.audioCommitHeld (s : State) (n : Nat) : State :=
  let u := s.audioShadowsTaken n
  u.setAud n { u.aud n with
    commits := (u.aud n).commits ++ [{ at_ := s.time, values := s.commitValues audioRows n, touched := s.gainsTouched n }] }

/-- A commit begins with a later frame, or is flushed at once where no frame runs. -/
theorem exec_audioCommit {s : State} {who : Requester} {n : Fin 8} {v : Nat} (haccept : s.accepts who Obj.AUDIO_COMMIT v n) (hv : v ≠ 0)
    (hready : s.isStReady n 9 = true) :
    exec (.audioCommit who n v) s = .next ((if (s.audioState n = auOff || (s.aud n).clockStopped) = true
      then (s.audioCommitHeld n).flushCommits n else s.audioCommitHeld n).answer .ok) := by
  have hregs : (s.audioShadowsTaken n).regs = s.regs := State.audioShadowsTaken_keeps State.regs n (fun _ _ _ => rfl) s
  have haud : (s.audioShadowsTaken n).aud n = s.aud n :=
    State.aud_of_audio (State.audioShadowsTaken_keeps State.audio n (fun _ _ _ => rfl) s) n
  have hstate : (s.audioCommitHeld n).audioState n = s.audioState n := by
    rw [State.audioCommitHeld, State.audioState_setAud]
    exact State.audioState_of_rd (State.rd_of_regs hregs ..)
  refine congrArg Host.Outcome.next ((State.onWrite_of_accepts haccept _).trans ((if_neg hv).trans ?_))
  rw [State.guarded_of_stReady hready, ← hstate, ← haud]
  rfl

end Sys2Proof.Machine

/-! The blocks of LOOP (R306). -/
namespace Sys2Proof.Machine

/-- The bytes of the ring of LOOP that are free: all of them where `LOOP_WRITE` stands at `LOOP_READ` (R306). -/
def State.loopRoom (s : State) (n : Nat) : Nat :=
  let d := if s.rdN Obj.LOOP_SIZE n = 0 then 0
    else (s.rdN Obj.LOOP_READ n + s.rdN Obj.LOOP_SIZE n - s.rdN Obj.LOOP_WRITE n) % s.rdN Obj.LOOP_SIZE n
  if d = 0 then s.rdN Obj.LOOP_SIZE n else d

/-- The oldest block of LOOP is taken from those gathered. -/
def State.loopTaken (s : State) (n : Nat) (rest : List (List (Int × Int))) : State := s.setAud n { s.aud n with loopBlocks := rest }

theorem State.rdN_setAud (s : State) (n : Nat) (v : Audio) (r : ObjRow) (m i t j : Nat) :
    (s.setAud n v).rdN r m i t j = s.rdN r m i t j := rfl

theorem State.hasRight_setAud (s : State) (n : Nat) (v : Audio) (t m k : Nat) : (s.setAud n v).hasRight t m k = s.hasRight t m k := rfl

theorem State.mixHolder_setAud (s : State) (n : Nat) (v : Audio) (m : Nat) : (s.setAud n v).mixHolder m = s.mixHolder m := by
  unfold State.mixHolder
  simp only [State.hasRight_setAud]

theorem State.inside_setAud (s : State) (n : Nat) (v : Audio) (d : Holder) (m access addr len : Nat) :
    (s.setAud n v).inside d m access addr len = s.inside d m access addr len := rfl

section Loop
variable {s : State} {n : Nat} {b : List (Int × Int)} {rest : List (List (Int × Int))}

theorem State.loopWrite_of_noRoom (hblocks : (s.aud n).loopBlocks = b :: rest) (hserves : s.memServes n = true) (hroom : s.loopRoom n ≤ 128)
    (hepisode : (s.aud n).loopEpisode = true) : s.loopWrite n = (s.loopTaken n rest).count Obj.LOOP_OVERRUNS n := by
  unfold State.loopWrite
  simp only [hblocks, hserves, State.rdN_setAud, Bool.not_true, Bool.false_eq_true, if_false]
  exact (if_pos hroom).trans (if_pos hepisode)

theorem State.loopWrite_of_room (hblocks : (s.aud n).loopBlocks = b :: rest) (hserves : s.memServes n = true) (hroom : 128 < s.loopRoom n)
    (hinside : s.inside (s.mixHolder n) n 2 (s.rdN Obj.LOOP_ADDR n + s.rdN Obj.LOOP_WRITE n) 128 = true) :
    s.loopWrite n = (((s.loopTaken n rest).setAud n { (s.loopTaken n rest).aud n with loopEpisode := false }).writeTagged n
      (s.rdN Obj.LOOP_ADDR n + s.rdN Obj.LOOP_WRITE n) (b.flatMap fun x => toLE 4 (unsigned 32 (x.1 * 256)) ++ toLE 4 (unsigned 32 (x.2 * 256)))
      (s.mixHolder n).tag).wr Obj.LOOP_WRITE ((s.rdN Obj.LOOP_WRITE n + 128) % s.rdN Obj.LOOP_SIZE n : Nat) n := by
  unfold State.loopWrite
  simp only [hblocks, hserves, State.rdN_setAud, State.mixHolder_setAud, State.inside_setAud, hinside, Bool.not_true, Bool.false_eq_true,
    if_false]
  exact if_neg (Nat.not_le.2 hroom)

end Loop

end Sys2Proof.Machine

namespace Sys2Proof.Machine

/-- Settles O23: each command takes the branch its hypotheses ask for; a frame keeps its pace through the commits and the graph
(`exec_audioFrame_sends`), and what a start or a stop writes stays through the aims and the change of state. -/
theorem audioEngineActs : Obligations.AudioEngineActs := by
  unfold Obligations.AudioEngineActs
  refine ⟨?zeroFrame, ?frame, ?forced, ?commit, ?commitAtOnce, ?streamStart, ?streamStop, ?fetched, ?outside, ?toneStart, ?toneStopping,
    ?toneStopped, ?onElapsed, ?offElapsed, ?busIdle, ?blockWritten, ?blockDropped, ?started, ?stopped, ?closed, ?restarts, ?clocks⟩
  case zeroFrame =>
    rintro s n mic0 mic1 u rfl hstate hclocks
    have hbegun : (s.frameBegun n).audioState n = auStarting := by
      rw [s.frameBegun_pace n |>.starting, State.audioState_advance, hstate]
    exact ⟨_, exec_audioFrame_starting mic0 mic1 (by simp [hstate, hclocks, auStarting, auOff]) hbegun, rfl⟩
  case frame =>
    intro s n mic0 mic1 hstate hclocks
    have hruns : s.audioState n ≠ auOff ∧ s.audioState n ≠ auStarting := by
      rcases hstate with h | h <;> simp [h, auActive, auStopping, auOff, auStarting]
    exact exec_audioFrame_sends mic0 mic1 (by simp [hruns.1, hclocks]) hruns.2
  case forced =>
    intro s n stage htarget hlate
    exact ⟨_, congrArg Host.Outcome.next (if_pos (by simp [htarget, hlate])), rfl⟩
  case commit =>
    rintro s who n v u touched haccept hv hready ⟨hstate, hclocks⟩ rfl rfl
    exact ⟨_, exec_audioCommit haccept hv hready, congrArg (State.answer · .ok) (if_neg (by simp [hstate, hclocks]))⟩
  case commitAtOnce =>
    rintro s who n v u touched haccept hv hready hrests rfl rfl
    exact ⟨_, exec_audioCommit haccept hv hready, congrArg (State.answer · .ok) (if_pos (by simpa using hrests))⟩
  case streamStart =>
    intro s who n k v haccept hv hready hshows hidle hroute hmuted
    refine ⟨_, congrArg Host.Outcome.next ((State.onWrite_of_accepts haccept _).trans ((if_neg hv).trans ?_)), rfl⟩
    rw [State.guarded_of_stReady hready]
    simp only [hshows, hidle, hroute, hmuted]
    rfl
  case streamStop =>
    rintro s who n k v haccept rfl hruns
    exact ⟨_, congrArg Host.Outcome.next (State.onWrite_of_accepts haccept _), congrArg (State.answer · .ok) (if_pos hruns)⟩
  case fetched =>
    intro s n k addr len hfetching hserves hinside hsound
    refine ⟨_, rfl, ?_⟩
    simp only [hfetching, hserves, hinside, hsound]
    rfl
  case outside =>
    intro s n k addr len hfetching hserves hinside
    refine ⟨_, rfl, ?_⟩
    simp only [hfetching, hserves, hinside]
    rfl
  case toneStart =>
    intro s who n g v haccept hv hready hroute hmuted
    refine ⟨_, congrArg Host.Outcome.next ((State.onWrite_of_accepts haccept _).trans ((if_neg hv).trans ?_)), rfl⟩
    rw [State.guarded_of_stReady hready]
    simp only [hroute, hmuted]
    rfl
  case toneStopping =>
    rintro s who n g v haccept rfl hon
    refine ⟨_, congrArg Host.Outcome.next (State.onWrite_of_accepts haccept _), congrArg (State.answer · .ok) ?_⟩
    rw [if_pos rfl, State.stopTone]
    simp only [hon]
  case toneStopped =>
    rintro s who n g v haccept rfl hoff
    refine ⟨_, congrArg Host.Outcome.next (State.onWrite_of_accepts haccept _), congrArg (State.answer · .ok) ?_⟩
    rw [if_pos rfl, State.stopTone]
    rcases hoff with h | h <;> simp only [h]
  case onElapsed =>
    intro s n g hon hpassed
    exact ⟨_, congrArg Host.Outcome.next (if_pos (by simp [hon, hpassed])), rfl⟩
  case offElapsed =>
    intro s n g hoff hpassed
    exact ⟨_, congrArg Host.Outcome.next (if_pos (by simp [hoff, hpassed])), rfl⟩
  case busIdle =>
    intro s n b hactive hpassed
    exact ⟨_, congrArg Host.Outcome.next (if_pos (by simp [hactive, hpassed])), rfl⟩
  case blockWritten =>
    rintro s n b rest room hblocks rfl hroom hserves hinside
    exact ⟨_, rfl, State.loopWrite_of_room hblocks hserves hroom hinside⟩
  case blockDropped =>
    rintro s n b rest room hblocks rfl hroom hserves hepisode
    exact ⟨_, rfl, State.loopWrite_of_noRoom hblocks hserves hroom hepisode⟩
  case started =>
    intro s n hstate hzeros hstop hrestart
    have hunaimed := s.aud_started n (s.aud n).blockMuted
    simp only [Audio.unaimed, Prod.mk.injEq] at hunaimed
    obtain ⟨hcount, hnew, hroute, hgains⟩ := hunaimed
    exact ⟨_, exec_audioStartDone hstate hzeros hstop hrestart, State.audioState_setAudioState .., State.isStReady_setAudioState ..,
      hcount, hnew, hroute, fun k => congrFun hgains k⟩
  case stopped =>
    intro s n hstate hzeros hrestart hstation
    exact ⟨_, exec_audioStopDone hstate hzeros, (if_neg (by simp [hrestart])).trans (if_neg hstation)⟩
  case closed =>
    intro s n hstate hzeros hrestart hstation
    refine ⟨_, exec_audioStopDone hstate hzeros, ?_⟩
    rw [if_neg (by simp [hrestart]), if_pos hstation]
    exact s.closedAudio_resets n
  case restarts =>
    intro s n hstate hzeros hrestart
    exact ⟨_, exec_audioStopDone hstate hzeros, if_pos hrestart⟩
  case clocks =>
    intro s n hstate hstopped hpassed
    exact ⟨_, congrArg Host.Outcome.next (if_pos (by simp [hstate, hstopped, hpassed])), rfl⟩

end Sys2Proof.Machine

/-! The canonical form of station memory along the steps (R322, R331, R348; assumption 5). -/
namespace Sys2Proof.Machine

theorem inv_reset : Inv State.reset := rfl

/-- Settles O43: after reset no byte is listed. -/
theorem memoryFormHoldsAtReset : Obligations.MemoryFormHoldsAtReset := inv_reset

/-- A command whose parts include memory keeps the form by its own meaning; every other leaves memory alone. -/
theorem exec_inv {c : Instr} {s t : State} (h : exec c s = .next t) (hi : Inv s) : Inv t := by
  cases c
  case vaonLost => exact execVaonLost_inv s h hi
  case porstNLevel high => exact execPorstNLevel_inv high s h hi
  case resetNLevel high => exact execResetNLevel_inv high s h hi
  case brownOut vbulk vio18 vio33 => exact execBrownOut_inv vbulk vio18 vio33 s h hi
  case thermalTrip sensors => exact execThermalTrip_inv sensors s h hi
  case referenceLost lost => exact execReferenceLost_inv lost s h hi
  case mgmtWatchdogExpiry => exact execMgmtWatchdogExpiry_inv s h hi
  case stationWatchdogExpiry n => exact execStationWatchdogExpiry_inv n s h hi
  case secureWatchdogExpiry => exact execSecureWatchdogExpiry_inv s h hi
  case heldResetApply => exact execHeldResetApply_inv s h hi
  case eraseSuspendDone => exact execEraseSuspendDone_inv s h hi
  case hwPllRelocked k ok => exact execHwPllRelocked_inv k ok s h hi
  case deviceRequestRecovery who => exact execDeviceRequestRecovery_inv who s h hi
  case deviceRequestLeaveRecovery who => exact execDeviceRequestLeaveRecovery_inv who s h hi
  case resetRequestApply => exact execResetRequestApply_inv s h hi
  case stationReset who n v => exact execStationReset_inv who n v s h hi
  case safeStore who n offset last data => exact execSafeStore_inv who n offset last data s h hi
  case memReinit who n v => exact execMemReinit_inv who n v s h hi
  case perstNLevel p high => exact execPerstNLevel_inv p high s h hi
  case hotReset p => exact execHotReset_inv p s h hi
  case functionFlr p => exact execFunctionFlr_inv p s h hi
  case sliceFlr p t v => exact execSliceFlr_inv p t v s h hi
  case sliceReset who t v => exact execSliceReset_inv who t v s h hi
  case sliceEnable who t v => exact execSliceEnable_inv who t v s h hi
  case mbSend path typ tq body env => exact execMbSend_inv path typ tq body env s h hi
  case enclaveWrite e area idx sub data => exact execEnclaveWrite_inv e area idx sub data s h hi
  case rebind e w => exact execRebind_inv e w s h hi
  case debugResponse who data => exact execDebugResponse_inv who data s h hi
  case bdaRead src frame => exact execBdaRead_inv src frame s h hi
  case bdaWrite src frame env => exact execBdaWrite_inv src frame env s h hi
  case bdaCommit src frame => exact execBdaCommit_inv src frame s h hi
  case bdaNotify src frame => exact execBdaNotify_inv src frame s h hi
  case bdaBlock src frame => exact execBdaBlock_inv src frame s h hi
  case dictionaryWrite who area idx sub tq data env => exact execDictionaryWrite_inv who area idx sub tq data env s h hi
  case settingsDefaults who v => exact execSettingsDefaults_inv who v s h hi
  case updateApply who => exact execUpdateApply_inv who s h hi
  case applyAtReached => exact execApplyAtReached_inv s h hi
  case updateRevert who => exact execUpdateRevert_inv who s h hi
  case forceSec who => exact execForceSec_inv who s h hi
  case secWaitEnd => exact execSecWaitEnd_inv s h hi
  case stnSwapStart => exact execStnSwapStart_inv s h hi
  case updateGapElapsed => exact execUpdateGapElapsed_inv s h hi
  case mgmtReady lost skipped fails => exact execMgmtReady_inv lost skipped fails s h hi
  case vaonGood => exact execVaonGood_inv s h hi
  case releaseBegin strap => exact execReleaseBegin_inv strap s h hi
  case releaseGapElapsed => exact execReleaseGapElapsed_inv s h hi
  case stationTargetOff who n => exact execStationTargetOff_inv who n s h hi
  case stationTargetRunning who n => exact execStationTargetRunning_inv who n s h hi
  case stationTargetSleep who n => exact execStationTargetSleep_inv who n s h hi
  case stationStartupDone n imageOk => exact execStationStartupDone_inv n imageOk s h hi
  case sleepEntryDone n => exact execSleepEntryDone_inv n s h hi
  case pllLockLost n k => exact execPllLockLost_inv n k s h hi
  case wakeDone n => exact execWakeDone_inv n s h hi
  case edgeLinkLost n => exact execEdgeLinkLost_inv n s h hi
  case jobTake n => exact execJobTake_inv n s h hi
  case jobNop n key => exact execJobNop_inv n key s h hi
  case jobRender n key => exact execJobRender_inv n key s h hi
  case jobCompute n key d => exact execJobCompute_inv n key d s h hi
  case jobPipelineLoad n key r => exact execJobPipelineLoad_inv n key r s h hi
  case jobPipelineDrop n key handle => exact execJobPipelineDrop_inv n key handle s h hi
  case fenceWaitSatisfied n key => exact execFenceWaitSatisfied_inv n key s h hi
  case drawListEnd n key => exact execDrawListEnd_inv n key s h hi
  case bindPipeline n key => exact execBindPipeline_inv n key s h hi
  case bindSet n key => exact execBindSet_inv n key s h hi
  case pushData n key => exact execPushData_inv n key s h hi
  case bindVertex n key => exact execBindVertex_inv n key s h hi
  case bindIndex n key => exact execBindIndex_inv n key s h hi
  case draw n key => exact execDraw_inv n key s h hi
  case drawIndexed n key => exact execDrawIndexed_inv n key s h hi
  case drawIndirect n key => exact execDrawIndirect_inv n key s h hi
  case setViewport n key => exact execSetViewport_inv n key s h hi
  case setScissor n key => exact execSetScissor_inv n key s h hi
  case deadlinePoint n key => exact execDeadlinePoint_inv n key s h hi
  case contextSaveDone n core context => exact execContextSaveDone_inv n core context s h hi
  case tileYieldLimit n core => exact execTileYieldLimit_inv n core s h hi
  case contextRestoreDone n core => exact execContextRestoreDone_inv n core s h hi
  case jobAccessFault n key addr len write => exact execJobAccessFault_inv n key addr len write s h hi
  case jobTimeLimit n key => exact execJobTimeLimit_inv n key s h hi
  case translationComplete r => exact execTranslationComplete_inv r s h hi
  case retranslationSwap n t handle => exact execRetranslationSwap_inv n t handle s h hi
  case unitComplete n core k r => exact execUnitComplete_inv n core k r s h hi
  case jobComplete n key => exact execJobComplete_inv n key s h hi
  case frameBoundary n => exact execFrameBoundary_inv n s h hi
  case boundaryLatch n => exact execBoundaryLatch_inv n s h hi
  case lineStart n room => exact execLineStart_inv n room s h hi
  case audioFrame n mic0 mic1 => exact execAudioFrame_inv n mic0 mic1 s h hi
  case loopBlockWrite n => exact execLoopBlockWrite_inv n s h hi
  case retrainAttemptDone n ok => exact execRetrainAttemptDone_inv n ok s h hi
  case memTrainingAttemptDone n ok capacity rate temp => exact execMemTrainingAttemptDone_inv n ok capacity rate temp s h hi
  case memRead n addr r err => exact execMemRead_inv n addr r err s h hi
  case xferHostToStation t n q data => exact execXferHostToStation_inv t n q data s h hi
  case xferFill t n q => exact execXferFill_inv t n q s h hi
  case transferComplete t n q => exact execTransferComplete_inv t n q s h hi
  case enclaveLoadDone e key => exact execEnclaveLoadDone_inv e key s h hi
  case enclaveDestroyDone e => exact execEnclaveDestroyDone_inv e s h hi
  case lockReady n kind k => exact execLockReady_inv n kind k s h hi
  case secScrubDone => exact execSecScrubDone_inv s h hi
  case energySplit => exact execEnergySplit_inv s h hi
  case weirReleaseCheck x => exact execWeirReleaseCheck_inv x s h hi
  case stationTick n => exact execStationTick_inv n s h hi
  case shaderPointSettled n => exact execShaderPointSettled_inv n s h hi
  case weirCompare input => exact execWeirCompare_inv input s h hi
  case weirClampRank x => exact execWeirClampRank_inv x s h hi
  all_goals exact .via (exec_frame h) (of_decide_eq_true rfl) hi

/-- While no command waits, device time passes and memory stays. -/
theorem idleCycle_inv {s : State} (hi : Inv s) : Inv (idleCycle s) :=
  .via (idleCycle_frame s (.refl _) (.refl _ s)) (by decide) hi

/-- Settles O44: a step is the command in front, on a queue that is no part of memory, or an idle cycle. -/
theorem everyStepKeepsTheMemoryForm : Obligations.EveryStepKeepsTheMemoryForm := by
  unfold Obligations.EveryStepKeepsTheMemoryForm step
  intro s t hi h
  split at h
  · cases h
    exact idleCycle_inv hi
  · exact exec_inv h (.set_pending hi)

end Sys2Proof.Machine

/-! Writes of station memory under owner tags: what is stored, what stays, and which words lose their mark (R340, R393, R394). -/
namespace Sys2Proof.Machine

/-- A write whose tag differs from that of its range is dropped: its count leaves memory as it is (R394). -/
theorem State.writeTagged_of_tagFault {s : State} {n x tag : Nat} {b : Bytes} (ingress : Bool)
    (h : (s.tagFault n x b.length tag).isSome = true) : Part.memory.same s (s.writeTagged n x b tag ingress) := by
  obtain ⟨e, he⟩ := Option.isSome_iff_exists.mp h
  simp only [State.writeTagged, he]
  exact State.countTagFault_frame s e (.refl _) (.refl _ s) .memory (by decide)

/-- Bytes are stored and seen by the check-value units, as they are stored (R393, R601). -/
def State.busStore (s : State) (n x : Nat) (b : Bytes) (ingress : Bool) : State := (s.store n x b).cvBusWrite n x b ingress

/-- The check-value units see a store and leave the memory that it leaves. -/
theorem State.busStore_memory (s : State) (n x : Nat) (b : Bytes) (ingress : Bool) :
    Part.memory.same (s.store n x b) (s.busStore n x b ingress) :=
  State.cvBusWrite_frame (s.store n x b) n x b ingress (.refl _) (.refl _ _) .memory (by decide)

theorem State.busStore_inv {s : State} (hs : Inv s) (n x : Nat) (b : Bytes) (ingress : Bool) : Inv (s.busStore n x b ingress) :=
  .of_mem (s.busStore_memory n x b ingress).1 (s.store_inv n x b hs)

theorem State.busStore_sameMemoryBut {s : State} (hs : Inv s) (n x : Nat) (b : Bytes) (ingress : Bool) :
    SameMemoryBut s (s.busStore n x b ingress) n x b.length := by
  intro c hc
  obtain ⟨hmem, hlost, -⟩ := s.busStore_memory n x b ingress
  rw [State.isLost, hmem, hlost]
  exact State.store_sameMemoryBut hs n x b c hc

/-- Bytes whose contents are not lost are read alike in two states of the same memory. -/
theorem State.load_of_memory {s t : State} (h : Part.memory.same s t) {n x k : Nat} (hkept : ∀ i, i < k → s.isLost (cellOf n x + i) = false) :
    t.load n x k = s.load n x k := by
  obtain ⟨hmem, hlost, -⟩ := h
  refine List.map_congr_left fun i hi => ?_
  have hcell : s.isLost (cellOf n (x + i)) = false := by
    rw [show cellOf n (x + i) = cellOf n x + i from (Nat.add_assoc ..).symm]
    exact hkept i (List.mem_range.mp hi)
  have hcell' : t.isLost (cellOf n (x + i)) = false := by rwa [State.isLost, hlost]
  simp [State.byte, hcell, hcell', hmem]

/-- A write under tag 0 stores its bytes once the words that it covers whole have lost their mark (R340). -/
theorem State.writeTagged_zero {s : State} {n x : Nat} {b : Bytes} (ingress : Bool) (h : s.tagFault n x b.length 0 = none) :
    s.writeTagged n x b 0 ingress = (s.unpoison n x b.length).busStore n x b ingress := by
  simp only [State.writeTagged, h, if_true]
  rfl

theorem State.load_writeTagged_zero {s : State} (hs : Inv s) {n x : Nat} {b : Bytes} (ingress : Bool) (h : s.tagFault n x b.length 0 = none) :
    (s.writeTagged n x b 0 ingress).load n x b.length = b := by
  rw [State.writeTagged_zero ingress h,
    State.load_of_memory (State.busStore_memory ..) fun _ hi => State.isLost_store_written _ n x hi]
  exact State.load_store (s := s.unpoison n x b.length) hs n x b

theorem State.mem_poison_writeTagged_zero {s : State} {n x : Nat} {b : Bytes} (ingress : Bool) (h : s.tagFault n x b.length 0 = none) (u : Nat) :
    u ∈ (s.writeTagged n x b 0 ingress).poison ↔ u ∈ s.poison ∧ ¬(cellOf n x ≤ u * 8 ∧ (u + 1) * 8 ≤ cellOf n x + b.length) := by
  obtain ⟨-, -, hpoison⟩ := (s.unpoison n x b.length).busStore_memory n x b ingress
  rw [State.writeTagged_zero ingress h, hpoison]
  simp only [State.unpoison, State.store, List.mem_filter, decide_eq_true_eq]

/-- A write under an enclave's tag stores whole data units of 64 bytes, from that of its first byte to that of its last (R393). -/
theorem State.writeTagged_enclave {s : State} {n x tag : Nat} {b : Bytes} (ingress : Bool) (h : s.tagFault n x b.length tag = none)
    (htag : tag ≠ 0) : ∃ unit : State → Nat → Bytes, (∀ v k, (unit v k).length = 64) ∧
      s.writeTagged n x b tag ingress = (s.unpoison n x b.length).each (List.range ((x + b.length + 63) / 64 - x / 64))
        fun v k => v.busStore n ((x / 64 + k) * 64) (unit v k) ingress := by
  simp only [State.writeTagged, h, htag, if_false]
  exact ⟨_, fun _ _ => padTo_length 64 _, rfl⟩

/-- A cell outside the data units that are stored reads as before. -/
theorem State.each_busStore_outside {n c : Nat} {place : Nat → Nat} {unit : State → Nat → Bytes} (ingress : Bool)
    (hunit : ∀ v k, (unit v k).length = 64) (l : List Nat) (hc : ∀ k ∈ l, c < cellOf n (place k) ∨ cellOf n (place k) + 64 ≤ c)
    {s : State} (hs : Inv s) :
    memGet (s.each l fun v k => v.busStore n (place k) (unit v k) ingress).mem c = memGet s.mem c ∧
      (s.each l fun v k => v.busStore n (place k) (unit v k) ingress).isLost c = s.isLost c := by
  induction l generalizing s with
  | nil => exact ⟨rfl, rfl⟩
  | cons k l ih =>
    obtain ⟨hmem, hlost⟩ := ih (fun j hj => hc j (by simp [hj])) (State.busStore_inv hs n (place k) (unit s k) ingress)
    obtain ⟨hmem', hlost'⟩ := State.busStore_sameMemoryBut hs n (place k) (unit s k) ingress c (by rw [hunit]; exact hc k (by simp))
    exact ⟨hmem.trans hmem', hlost.trans hlost'⟩

theorem State.writeTagged_enclave_sameMemoryBut {s : State} (hs : Inv s) {n x tag : Nat} {b : Bytes} (ingress : Bool)
    (h : s.tagFault n x b.length tag = none) (htag : tag ≠ 0) :
    SameMemoryBut s (s.writeTagged n x b tag ingress) n (x / 64 * 64) (((x + b.length + 63) / 64 - x / 64) * 64) := by
  intro c hc
  obtain ⟨unit, hunit, hwrite⟩ := State.writeTagged_enclave ingress h htag
  rw [hwrite]
  refine State.each_busStore_outside (place := fun k => (x / 64 + k) * 64) ingress hunit _ (fun k hk => ?_)
    (s := s.unpoison n x b.length) hs
  have hlt := List.mem_range.mp hk
  simp only [cellOf] at hc ⊢
  omega

/-- Settles O48, by what a write is under a wrong tag, under tag 0 and under an enclave's. -/
theorem taggedWritesKeepToTheirBytes : Obligations.TaggedWritesKeepToTheirBytes := by
  unfold Obligations.TaggedWritesKeepToTheirBytes
  intro s n x tag b ingress hs
  refine ⟨State.writeTagged_of_tagFault ingress, ?_, State.writeTagged_enclave_sameMemoryBut hs ingress⟩
  rintro h rfl
  exact ⟨State.load_writeTagged_zero hs ingress h, State.writeTagged_sameMemoryBut hs n x b ingress,
    State.mem_poison_writeTagged_zero ingress h⟩

end Sys2Proof.Machine

/-! What a station's entry to FAULT leaves of the objects that no engine has, and where a haptic commit that waits is taken (R292, R341). -/
namespace Sys2Proof.Machine

/-- Two states agree in the objects of the stations below and above those of the engines: outside indices 0x1000 to 0x6FFF (R5). -/
def SameOutsideEngines (s t : State) : Prop :=
  ∀ k : OKey, 8 ≤ k.area → k.idx < 0x1000 ∨ 0x7000 ≤ k.idx → t.regs.find k = s.regs.find k

theorem SameOutsideEngines.refl (s : State) : SameOutsideEngines s s := fun _ _ _ => rfl

theorem SameOutsideEngines.trans {a b c : State} (h : SameOutsideEngines a b) (g : SameOutsideEngines b c) : SameOutsideEngines a c :=
  fun k hk hi => (g k hk hi).trans (h k hk hi)

theorem SameOutsideEngines.ofStation {a b c : State} (g : SameStationObjects b c) (h : SameOutsideEngines a b) : SameOutsideEngines a c :=
  h.trans fun k hk _ => g k hk

theorem SameOutsideEngines.ite {a b c : State} {p : Prop} [Decidable p] (hb : SameOutsideEngines a b) (hc : SameOutsideEngines a c) :
    SameOutsideEngines a (if p then b else c) := by split <;> assumption

/-- A write of an engine's object. -/
theorem SameOutsideEngines.wr {a s : State} {r : ObjRow} (v : Int) (n i t j : Nat) (hlow : 0x1000 ≤ r.idx) (hhigh : r.idx + i < 0x7000)
    (h : SameOutsideEngines a s) : SameOutsideEngines a (s.wr r v n i t j) := by
  refine h.trans fun k hk hi => ?_
  have hsaving : k ≠ Obj.SETTINGS_STATE.key 0 0 512 0 := by rintro rfl; exact absurd hk (by decide)
  rw [State.wr_find s r v n i t j k (.inr hsaving), if_neg]
  rintro rfl
  simp only [ObjRow.key] at hi
  omega

theorem SameOutsideEngines.each {α : Type} {a s : State} (l : List α) {f : State → α → State}
    (hf : ∀ u, ∀ x ∈ l, SameOutsideEngines a u → SameOutsideEngines a (f u x)) (h : SameOutsideEngines a s) :
    SameOutsideEngines a (s.each l f) := by
  unfold State.each
  induction l generalizing s with
  | nil => exact h
  | cons x l ih => exact ih (fun u y hy => hf u y (by simp [hy])) (hf s x (by simp) h)

theorem SameOutsideEngines.setAud {a s : State} (n : Nat) (v : Audio) (h : SameOutsideEngines a s) : SameOutsideEngines a (s.setAud n v) := h

/-- The state of a station is none of an engine's objects. -/
theorem SameOutsideEngines.stationState {s t : State} (h : SameOutsideEngines s t) (n : Nat) : t.stationState n = s.stationState n := by
  have hfind := h (Obj.STATION_STATE.key n 0 512 0) (by simp [ObjRow.key, Obj.STATION_STATE]) (.inl (by simp [ObjRow.key, Obj.STATION_STATE]))
  simp only [State.stationState, State.rdN, State.rd, hfind]

theorem State.rasterLeave_outsideEngines {s : State} {n : Nat} (h : (s.ras n).jobs = []) : SameOutsideEngines s (s.rasterLeave n) := by
  have hnone : (s.each ((s.ras n).jobs.filter Job.live) fun s j => s.endJob n j.key csNotRunning) = s := by rw [h]; rfl
  unfold State.rasterLeave
  rw [hnone]
  have hcredit {u : State} (hu : SameOutsideEngines s u) : SameOutsideEngines s (u.each tenants fun s t => s.dropCredit n t) :=
    hu.ofStation (.each _ (fun _ _ hv => .wr _ _ _ _ _ (by decide) (.wr _ _ _ _ _ (by decide) hv)) (.refl u))
  unfold State.syncRaster
  refine .ite (.wr _ _ _ _ _ (by decide) (by decide) ?_) ?_
  all_goals exact .wr _ _ _ _ _ (by decide) (by decide) (.wr _ _ _ _ _ (by decide) (by decide) (hcredit fun _ _ _ => rfl))

theorem State.energyOff_outsideEngines (s : State) (n : Nat) : SameOutsideEngines s (s.energyOff n) := by
  unfold State.energyOff
  refine .ofStation (.wr _ _ _ _ _ (by decide) (.wr _ _ _ _ _ (by decide) (.refl _))) (.wr _ _ _ _ _ (by decide) (by decide) ?_)
  exact fun _ _ _ => rfl

theorem State.audioFault_outsideEngines (s : State) (n : Nat) : SameOutsideEngines s (s.audioFault n) := by
  have hstream (u : State) (k : Nat) (hk : k ∈ List.range 12) (hu : SameOutsideEngines s u) :
      SameOutsideEngines s (((u.setAud n ((u.aud n).setStream k {})).setSrc n k 0).hardMute n k) := by
    have hlow : Obj.SRC_STATE.idx + k < 0x7000 := by simp [Obj.SRC_STATE] at hk ⊢; omega
    have hset : SameOutsideEngines s ((u.setAud n ((u.aud n).setStream k {})).setSrc n k 0) :=
      .ite (.wr _ _ _ _ _ (by decide) hlow hu) hu
    unfold State.hardMute
    exact .wr _ _ _ _ _ (by decide) hlow hset
  unfold State.audioFault
  exact .setAud _ _ (.each _ hstream (.refl s))

theorem State.regs_gates (s : State) (n v : Nat) : (s.gates n v).regs = s.regs := rfl

theorem State.haptic_gates (s : State) (n v : Nat) : (s.gates n v).haptic = s.haptic := rfl

theorem State.haptic_drive (s : State) (e : Nat) (level : Bool) (n : Nat) : (s.drive e level n).haptic = s.haptic := rfl

theorem State.haptic_syncEdge (s : State) (n : Nat) : (s.syncEdge n).haptic = s.haptic := rfl

/-- The haptic driver has entered OFF, and not yet looked for a commit that waits (R288). -/
def State.hapOffEntered (s : State) (n : Nat) : State :=
  ((((s.wr Obj.HAPTIC_STATE haOff n).drive 2 false n).gates n haOff).syncEdge n).stReady n 8 false

theorem State.setHapState_off (s : State) (n : Nat) : s.setHapState n haOff = (s.hapOffEntered n).hapApply n := rfl

/-- Of objects the driver writes its state, and the ready bit of the station. -/
theorem State.hapOffEntered_stationObjects (s : State) (n : Nat) : SameStationObjects (s.wr Obj.HAPTIC_STATE haOff n) (s.hapOffEntered n) := by
  have hregs : ((((s.wr Obj.HAPTIC_STATE haOff n).drive 2 false n).gates n haOff).syncEdge n).regs = (s.wr Obj.HAPTIC_STATE haOff n).regs := by
    rw [State.regs_syncEdge, State.regs_gates, State.regs_drive]
  exact .stReady _ _ _ fun k _ => congrArg (FMap.find · k) hregs

theorem State.hapOffEntered_outsideEngines (s : State) (n : Nat) : SameOutsideEngines s (s.hapOffEntered n) :=
  .ofStation (s.hapOffEntered_stationObjects n) (.wr _ _ _ _ _ (by decide) (by decide) (.refl s))

theorem State.hapState_hapOffEntered (s : State) (n : Nat) : (s.hapOffEntered n).hapState n = haOff := by
  have hstate : (s.wr Obj.HAPTIC_STATE haOff n).rd Obj.HAPTIC_STATE n = haOff := State.rd_wr_self _ _ _ _ _ _ _ (.inl rfl)
  exact congrArg Int.toNat (((s.hapOffEntered_stationObjects n).rd rfl n 0 512 0).trans hstate)

theorem State.hap_hapOffEntered (s : State) (n : Nat) : (s.hapOffEntered n).hap n = s.hap n := by
  rw [State.hap, State.hapOffEntered, State.stReady, State.haptic_wr, State.haptic_syncEdge, State.haptic_gates, State.haptic_drive,
    State.haptic_wr, State.hap]

/-- In OFF the driver takes a commit that waits (R292). -/
theorem State.regs_hapApply_of_off {s : State} {n : Nat} {l : List (Nat × Nat × Nat × Int)} (hoff : s.hapState n = haOff)
    (hhap : (s.hap n).committed = some l) : (s.hapApply n).regs = (s.applyValues hapticRows n l).regs := by
  simp [State.hapApply, hhap, hoff]

/-- A haptic driver that plays nothing goes from IDLE to OFF, and a commit that waits is taken (R288, R292). -/
theorem State.regs_hapticOff_of_commit {s : State} {n : Nat} {l : List (Nat × Nat × Nat × Int)} (hidle : s.hapState n = haIdle)
    (hqueue : s.hapticQ = []) (hhap : s.hap n = { committed := some l }) : ∃ u,
      SameOutsideEngines s u ∧ (s.hapticOff n).regs = (u.applyValues hapticRows n l).regs := by
  obtain ⟨d, hdiscard, hkept, hidle', hhap'⟩ : ∃ d, s.hapDiscard n = d ∧ SameOutsideEngines s d ∧ d.hapState n = haIdle ∧
      d.hap n = { committed := some l } :=
    ⟨{ s with hapticQ := [(n, {})] }, by simp only [State.hapDiscard, hqueue]; rfl, fun _ _ _ => rfl, hidle, hhap⟩
  have hend : d.hapEnd n 9 = d := by simp only [State.hapEnd, hhap']
  have hoff : s.hapticOff n = (d.setHap n { d.hap n with charged := false, volts := 0 }).setHapState n haOff := by
    simp [State.hapticOff, hidle, hdiscard, hhap', hend, hidle', haIdle, haOff, haBraking, haFault]
  rw [hoff]
  refine ⟨_, hkept.trans (State.hapOffEntered_outsideEngines (d.setHap n { d.hap n with charged := false, volts := 0 }) n), ?_⟩
  rw [State.setHapState_off]
  exact State.regs_hapApply_of_off (State.hapState_hapOffEntered _ n) (by rw [State.hap_hapOffEntered, State.hap_setHap_self, hhap'])

/-- A station runs, its rasterizer has no jobs, and its idle haptic driver, with no trigger queued, holds a commit (R292). -/
structure CommitWaits (s : State) (n : Nat) (l : List (Nat × Nat × Nat × Int)) : Prop where
  runs : s.stationState n = stRunning
  noJobs : (s.ras n).jobs = []
  idle : s.hapState n = haIdle
  noneQueued : s.hapticQ = []
  waits : s.hap n = { committed := some l }

/-- As the station leaves RUNNING, a commit of one value of `V_NOMINAL_MV` writes it where its place says, and outside the engines nothing else is
written (R32, R292). -/
theorem State.leaveRunning_of_commit {s : State} {n i j : Nat} {v : Int} (h : CommitWaits s n [(0, i, j, v)]) (rs : Nat) :
    ∃ u, SameOutsideEngines s u ∧ SameOutsideEngines (u.wr Obj.V_NOMINAL_MV v n i 512 j) (s.leaveRunning n rs) := by
  obtain ⟨hruns, hjobs, hidle, hqueue, hhap⟩ := h
  have hframe := State.energyOff_frame (s.rasterLeave n) n (ps₀ := [.objects, .results, .memory, .raster, .translator, .checks, .records, .energy])
    (by decide) (State.rasterLeave_frame s n (by decide) (.refl _ s))
  have hkeys := (State.rasterLeave_sleepKeys hjobs).trans (State.energyOff_sleepKeys (s.rasterLeave n) n)
  have hout := (State.rasterLeave_outsideEngines hjobs).trans (State.energyOff_outsideEngines (s.rasterLeave n) n)
  unfold State.leaveRunning
  rw [if_pos hruns]
  generalize (s.rasterLeave n).energyOff n = w at *
  have hidle' : w.hapState n = haIdle := by
    rw [State.hapState, hkeys.rdN (not_mem_sleepKeys rfl (by decide) (by decide) n)]
    exact hidle
  have hhap' : w.hap n = { committed := some [(0, i, j, v)] } := by
    rw [State.hap, show w.haptic = s.haptic from hframe .haptic (by decide)]
    exact hhap
  obtain ⟨u, hu, hregs⟩ := State.regs_hapticOff_of_commit hidle' ((hframe .hapticQueues (by decide)).trans hqueue) hhap'
  have hwritten : SameOutsideEngines (u.wr Obj.V_NOMINAL_MV v n i 512 j) (w.hapticOff n) := fun k _ _ => congrArg (FMap.find · k) hregs
  exact ⟨u, hout.trans hu, .ofStation (.stReady _ _ _ (.refl _)) (.wr _ _ _ _ _ (by decide) (by decide) hwritten)⟩

/-- The objects that a station's entry to FAULT writes once its engines are down (R30, R137). -/
def faultKeys (n : Nat) : List OKey :=
  [Obj.COMPOSE_SOURCE.key n 0 512 0, Obj.EVENT_MERGES.key n 0 512 0, Obj.STATION_FAULT_CAUSE.key n 0 512 0, Obj.STATION_STATE.key n 0 512 0,
    Obj.STATION_STATE_TIME.key n 0 512 0]

theorem not_mem_faultKeys {k : OKey} (hidx : 0x7000 ≤ k.idx) (n : Nat) : k ∉ faultKeys n := by
  intro hmem
  have hlow : ∀ q ∈ faultKeys n, q.idx < 0x7000 := by
    simp [faultKeys, ObjRow.key, Obj.COMPOSE_SOURCE, Obj.EVENT_MERGES, Obj.STATION_FAULT_CAUSE, Obj.STATION_STATE, Obj.STATION_STATE_TIME]
  exact absurd (hlow k hmem) (Nat.not_lt.mpr hidx)

theorem State.stationEvent_faultKeys (s : State) (c : CrossKey) (n : Nat) : SameObjectsBut s (s.stationEvent c n) (faultKeys n) := by
  have hregs : (s.cross c 0).2.regs = s.regs := (State.cross_frame s c 0 (.refl _) (.refl _ s)).regs (by decide)
  unfold State.stationEvent
  split
  · next u hu => exact .thenWrOf rfl (by simp [faultKeys]) (.of_regs _ (by rw [hu] at hregs; exact hregs))
  · next u hu => exact .of_regs _ (by rw [hu] at hregs; exact hregs)

theorem State.setCompose_faultKeys (s : State) (n v : Nat) : SameObjectsBut s (s.setCompose n v) (faultKeys n) := by
  have hevent (u : State) : SameObjectsBut u (u.endEvent n) (faultKeys n) := by
    have hsent : SameObjectsBut u (if (u.dsp n).counting then u.stationEvent (.endEvent n) n else u) (faultKeys n) :=
      .ite (u.stationEvent_faultKeys _ n) (.refl u _)
    unfold State.endEvent
    exact .ite (.ite (hsent.trans (.of_regs _ rfl)) (hsent.trans (.of_regs _ rfl))) hsent
  unfold State.setCompose
  exact .ite (.refl s _) ((SameObjectsBut.thenWrOf rfl (by simp [faultKeys]) (.of_regs _ (State.regs_setCmp ..))).trans (hevent _))

theorem State.setStation_faultKeys (s : State) (n v : Nat) : SameObjectsBut s (s.setStation n v) (faultKeys n) :=
  .thenWrOf rfl (by simp [faultKeys]) (.thenWrOf rfl (by simp [faultKeys]) (.of_regs _ (State.regs_setCtl ..)))

/-- The value that such a commit writes above the engines' objects stands there once the station is in FAULT. -/
theorem State.find_enterFault_of_commit {s : State} {n i j cause : Nat} {v : Int} (hruns : s.stationState n = stRunning)
    (hwaits : CommitWaits (s.touchFault n) n [(0, i, j, v)]) (hidx : 0x7000 ≤ Obj.V_NOMINAL_MV.idx + i) :
    (s.enterFault n cause).regs.find (Obj.V_NOMINAL_MV.key n i 512 j) = some v := by
  have hkey : 8 ≤ (Obj.V_NOMINAL_MV.key n i 512 j).area := by simp [ObjRow.key, Obj.V_NOMINAL_MV]
  have hsaving (q : OKey) (hq : 8 ≤ q.area) : q ≠ Obj.SETTINGS_STATE.key 0 0 512 0 := by rintro rfl; exact absurd hq (by decide)
  obtain ⟨u, hu, hleft⟩ := State.leaveRunning_of_commit hwaits 3
  have hmuted := hleft.trans (State.audioFault_outsideEngines ((s.touchFault n).leaveRunning n 3) n)
  have hstate : (((s.touchFault n).leaveRunning n 3).audioFault n).stationState n = stRunning := by
    rw [hmuted.stationState, ← hwaits.runs, ← hu.stationState]
    refine congrArg Int.toNat (State.rd_wr_of_ne _ _ _ _ _ _ _ _ _ _ _ _ (.inr (hsaving _ (by simp [ObjRow.key, Obj.STATION_STATE]))) ?_)
    simp only [ObjRow.key, Obj.STATION_STATE, Obj.V_NOMINAL_MV, ne_eq, OKey.mk.injEq]
    omega
  have hwritten : (((s.touchFault n).leaveRunning n 3).audioFault n).regs.find (Obj.V_NOMINAL_MV.key n i 512 j) = some v := by
    rw [hmuted _ hkey (.inr hidx), State.wr_find _ _ _ _ _ _ _ _ (.inr (hsaving _ hkey)), if_pos rfl]
  rw [← hwritten]
  unfold State.enterFault State.enterFaulted
  rw [if_pos (by simp [hruns])]
  generalize ((s.touchFault n).leaveRunning n 3).audioFault n = z at *
  have hawake : z.leaveSleep n = z := if_neg (by rw [hstate]; decide)
  rw [hawake]
  have hcomposed := z.setCompose_faultKeys n 1
  have hcaused : SameObjectsBut z (((z.setCompose n 1).stopMove n).wr Obj.STATION_FAULT_CAUSE cause n) (faultKeys n) :=
    .thenWrOf rfl (by simp [faultKeys]) (hcomposed.trans (.of_regs _ rfl))
  refine (show SameObjectsBut z _ (faultKeys n) from ?_) _ (not_mem_faultKeys (k := Obj.V_NOMINAL_MV.key n i 512 j) hidx n)
  exact hcaused.trans (.trans (.of_regs _ (State.regs_setCtl ..)) (State.setStation_faultKeys _ n stFault))

end Sys2Proof.Machine

/-! An uncorrectable word that freezes the memory of a station whose haptic commit names a place that `V_NOMINAL_MV` does not have (R292,
R341, R343). -/
namespace Sys2Proof.Machine

/-- A request of a class is served: a promoted one of the class is no longer listed (R325; assumption 38). -/
def State.classServed (s : State) (n cls : Nat) : State :=
  let c := s.mmc n
  s.setMmc n { c with promoted := match c.promoted.find? (·.cls = cls) with
    | some p => c.promoted.erase p
    | none => c.promoted }

/-- Two wrong bits of a checked word of READY memory are an uncorrectable error (R338, R341). -/
theorem exec_memRead_of_uncorrectable {s : State} {n : Fin 8} {addr : Nat} (r : MemReader) (hchecks : s.eccChecks n (addr / 8 * 8) = true)
    (hin : addr / 8 * 8 < s.usableBytes n) (hready : s.rdN Obj.MEM_STATE n = 2) :
    exec (.memRead n addr r 2) s = .next ((s.classServed n (s.readerOf n r).1).uncorrectable n (addr / 8 * 8)
      (if s.poison.contains (cellOf n (addr / 8 * 8) / 8) then 2 else 1) r) := by
  have hchecks' : (s.classServed n (s.readerOf n r).1).eccChecks n (addr / 8 * 8) = true := by
    simpa [State.classServed, State.eccChecks] using hchecks
  refine congrArg Host.Outcome.next ((if_neg ?_).trans ((if_pos hready).trans (if_pos (by simp))))
  simpa using ⟨hchecks', hin⟩

/-- An uncorrectable error is counted and captured, and the memory FROZEN (R341, R343). -/
def State.frozenBy (s : State) (n addr kind : Nat) (who : Nat × Nat × Nat) : State :=
  let u := s.countUncorrectable n addr kind who
  ((u.captureError n addr kind who).setMmc n { u.mmc n with frozenWord := some (cellOf n addr / 8), retraining := none, dueAt := none }).setMem n 4

/-- In FREEZE mode an uncorrectable error leads a running station to FAULT (R343). -/
theorem State.uncorrectable_of_freeze {s : State} {n addr kind : Nat} {r : MemReader}
    (hmode : (s.countUncorrectable n addr kind (s.readerOf n r)).rdN Obj.UE_MODE n = 1)
    (hruns : (s.countUncorrectable n addr kind (s.readerOf n r)).stationState n = stRunning) :
    s.uncorrectable n addr kind r = (s.frozenBy n addr kind (s.readerOf n r)).enterFault n causeFreeze :=
  if_pos (by simp [hmode, hruns])

/-- Station 0 runs with its memory READY under inline ECC and in FREEZE mode; its driver is IDLE and holds a commit of one value, whose row is
`V_NOMINAL_MV` and whose place is that of `UE_TIME`. -/
def commitOutOfRange : State :=
  { State.reset with
    regs := [(Obj.MEM_STATE.key 0 0 512 0, 2), (Obj.MEM_USABLE_MIB.key 0 0 512 0, 1), (Obj.UE_MODE.key 0 0 512 0, 1),
      (Obj.STATION_STATE.key 0 0 512 0, stRunning), (Obj.HAPTIC_STATE.key 0 0 512 0, haIdle)]
    memc := [(0, { eccOn := true })]
    haptic := [(0, { committed := some [(0, 0x2020, 3, 77)] })] }

/-- The value's place is that of `UE_TIME`. -/
theorem key_commitOutOfRange : Obj.V_NOMINAL_MV.key 0 0x2020 512 3 = Obj.UE_TIME.key 0 0 512 0 := by decide

/-- The memory of the station once a word of it was found uncorrectable. -/
def frozenOutOfRange : State := (commitOutOfRange.classServed 0 5).frozenBy 0 0 1 (5, noTenant, 0)

/-- Once no contact is reported the commit still waits. -/
theorem frozenOutOfRange_commitWaits : CommitWaits (frozenOutOfRange.touchFault 0) 0 [(0, 0x2020, 3, 77)] where
  runs := by decide +kernel
  noJobs := by decide +kernel
  idle := by decide +kernel
  noneQueued := by decide +kernel
  waits := by decide +kernel

theorem exec_memRead_commitOutOfRange : exec (.memRead 0 0 (.other 5) 2) commitOutOfRange = .next (frozenOutOfRange.enterFault 0 causeFreeze) :=
  (exec_memRead_of_uncorrectable (n := 0) (.other 5) (by decide +kernel) (by decide +kernel) (by decide +kernel)).trans
    (congrArg Host.Outcome.next (State.uncorrectable_of_freeze (by decide +kernel) (by decide +kernel)))

/-- Refutes O6: the entry to FAULT takes a haptic commit that waits, and no hypothesis excludes one whose place is that of `UE_TIME`. -/
theorem not_memoryControllersAct : ¬ Obligations.MemoryControllersAct := by
  unfold Obligations.MemoryControllersAct
  rintro ⟨-, -, -, -, -, -, -, -, -, huncorrectable, -⟩
  obtain ⟨t, ht, -, -, htime, -⟩ := huncorrectable commitOutOfRange 0 0 (.other 5) (by decide +kernel) (by decide +kernel) (by decide +kernel)
  rw [exec_memRead_commitOutOfRange, Host.Outcome.next.injEq] at ht
  have hstray : (frozenOutOfRange.enterFault 0 causeFreeze).regs.find (Obj.UE_TIME.key 0 0 512 0) = some 77 :=
    key_commitOutOfRange ▸ State.find_enterFault_of_commit (by decide +kernel) frozenOutOfRange_commitWaits (by decide)
  rw [← ht, State.rd] at htime
  simp [hstray, commitOutOfRange, State.reset] at htime

end Sys2Proof.Machine

/-! A package that is served to a member at address 0, which no member of the hierarchy has (R511, R533). -/
namespace Sys2Proof.Machine

/-- The manager serves the latest package, which has no pieces, to an ACTIVE member at address 0. -/
def servingAddressZero : State :=
  { State.reset with
    regs := [(Obj.ROLE.key 0 0 512 0, 1), (Obj.READY_HEADWORKS.key 0 0 512 0, 2 ^ 9), (Obj.MEMBER_STATE.key 0 0 512 0, mbActive),
      (Obj.CACHE_MEMBER_STATE.key 0 0 512 0, 1)]
    net := { cache := [{ manifest := [] }] } }

/-- A push to it that leaves no piece missing writes its `CACHE_MEMBER_STATE`. -/
theorem exec_cachePush_servingAddressZero : ∃ t, exec (.cachePush 0 []) servingAddressZero = .next t ∧
    t.regs.find (Obj.CACHE_MEMBER_STATE.key 0 0 512 0) = some 3 := by
  refine ⟨_, rfl, ?_⟩
  decide +kernel

/-- Refutes O46: CACHE_PUSH writes the `CACHE_MEMBER_STATE` of the member that it names, and the list holds those of addresses 1 to 63 alone. -/
theorem not_eventsChangeOnlyTheirObjects : ¬ Obligations.EventsChangeOnlyTheirObjects := by
  unfold Obligations.EventsChangeOnlyTheirObjects
  rintro ⟨-, -, -, -, -, -, -, -, -, -, -, -, -, -, -, -, -, -, -, -, -, -, -, -, hpush, -⟩
  obtain ⟨t, ht, hserved⟩ := exec_cachePush_servingAddressZero
  have hkept := hpush servingAddressZero t 0 [] ht (Obj.CACHE_MEMBER_STATE.key 0 0 512 0) (by decide)
  rw [hserved] at hkept
  exact absurd hkept (by decide)

end Sys2Proof.Machine

/-! The objects of the host ports and slices (area 3): what records, alarms, crossings and other objects' writes leave of them (R4, R382, R459). -/
namespace Sys2Proof.Machine

/-- Two states agree in the active copies of the objects of the host ports and slices (R382, R459). -/
def SameHostObjects (s t : State) : Prop := ∀ k : OKey, k.area = 3 → t.regs.find k = s.regs.find k

theorem SameHostObjects.refl (s : State) : SameHostObjects s s := fun _ _ => rfl

theorem SameHostObjects.trans {a b c : State} (h : SameHostObjects a b) (g : SameHostObjects b c) : SameHostObjects a c :=
  fun k hk => (g k hk).trans (h k hk)

theorem SameHostObjects.ite {a b c : State} {p : Prop} [Decidable p] (hb : SameHostObjects a b) (hc : SameHostObjects a c) :
    SameHostObjects a (if p then b else c) := by split <;> assumption

theorem SameHostObjects.rd {s t : State} (h : SameHostObjects s t) {r : ObjRow} (hr : r.station = false ∧ r.area = 3) (n i q j : Nat) :
    t.rd r n i q j = s.rd r n i q j := by
  have harea : (r.key n i q j).area = 3 := by simp [ObjRow.key, hr]
  simp only [State.rd, h _ harea]

theorem SameHostObjects.rdN {s t : State} (h : SameHostObjects s t) {r : ObjRow} (hr : r.station = false ∧ r.area = 3) (n i q j : Nat) :
    t.rdN r n i q j = s.rdN r n i q j := congrArg Int.toNat (h.rd hr n i q j)

/-- A write of an object of another area. -/
theorem SameHostObjects.wr {a s : State} {r : ObjRow} (v : Int) (n i t j : Nat) (hr : r.saved = false ∧ (r.station = true ∨ r.area ≠ 3))
    (h : SameHostObjects a s) : SameHostObjects a (s.wr r v n i t j) := by
  obtain ⟨hsaved, harea⟩ := hr
  refine h.trans fun k hk => ?_
  rw [State.wr_find s r v n i t j k (.inl hsaved), if_neg]
  rintro rfl
  obtain hstation | hother := harea
  · simp [ObjRow.key, hstation] at hk
    omega
  · cases hstation : r.station <;> simp [ObjRow.key, hstation] at hk <;> omega

theorem SameHostObjects.count {a s : State} {r : ObjRow} (n i t j k : Nat) (hr : r.saved = false ∧ (r.station = true ∨ r.area ≠ 3))
    (h : SameHostObjects a s) : SameHostObjects a (s.count r n i t j k) := .wr _ _ _ _ _ hr h

theorem SameHostObjects.countTenantItems {a s : State} (t : Nat) (h : SameHostObjects a s) : SameHostObjects a (s.countTenantItems t) :=
  .wr _ _ _ _ _ (by decide) (.wr _ _ _ _ _ (by decide) h)

theorem SameHostObjects.toTenant {a s : State} (t : Nat) (r : Rec) (h : SameHostObjects a s) : SameHostObjects a (s.toTenant t r) := by
  unfold State.toTenant
  refine .countTenantItems _ (.ite (.count _ _ _ _ _ (by decide) ?_) ?_)
  all_goals exact h

theorem SameHostObjects.toHwLog {a s : State} (r : Rec) (h : SameHostObjects a s) : SameHostObjects a (s.toHwLog r) := by
  unfold State.toHwLog
  refine .ite (.count _ _ _ _ _ (by decide) (.wr _ _ _ _ _ (by decide) ?_)) (.wr _ _ _ _ _ (by decide) ?_)
  all_goals exact h

theorem SameHostObjects.alarm {a s : State} (code st station detail : Nat) (h : SameHostObjects a s) :
    SameHostObjects a (s.alarm code st station detail) := by
  have harea : ∀ k ∈ alarmKeys, k.area ≠ 3 := by decide
  exact h.trans fun k hk => s.alarm_alarmKeys code st station detail k fun hm => harea k hm hk

/-- A value that crosses to a station's control core is counted there, where it replaces another (R593). -/
theorem SameHostObjects.crossDoorbell {a s : State} (k : CrossKey) (n v : Nat) (h : SameHostObjects a s) :
    SameHostObjects a (s.crossDoorbell k n v) := by
  have hcross := (State.cross_frame s k v (.refl _) (.refl _ s)).regs (by decide)
  have hcrossed : SameHostObjects a (s.cross k v).2 := h.trans fun _ _ => by rw [hcross]
  unfold State.crossDoorbell
  split
  next u hu =>
    rw [hu] at hcrossed
    exact .count _ _ _ _ _ (by decide) hcrossed
  next u hu =>
    rw [hu] at hcrossed
    exact hcrossed

/-- A write of an object that is not saved leaves an object of another key. -/
theorem State.rd_wr_apart (s : State) {r q : ObjRow} (v : Int) {n i t j n' i' t' j' : Nat} (hr : r.saved = false)
    (hk : q.key n' i' t' j' ≠ r.key n i t j) : (s.wr r v n i t j).rd q n' i' t' j' = s.rd q n' i' t' j' :=
  State.rd_wr_of_ne _ _ _ _ _ _ _ _ _ _ _ _ (.inl hr) hk

@[simp] theorem State.slc_wr (s : State) (r : ObjRow) (v : Int) (n i t j m : Nat) : (s.wr r v n i t j).slc m = s.slc m := by
  simp only [State.slc, State.slices_wr]

@[simp] theorem State.prt_wr (s : State) (r : ObjRow) (v : Int) (n i t j m : Nat) : (s.wr r v n i t j).prt m = s.prt m := by
  simp only [State.prt, State.ports_wr]

theorem Frame.slc {ps : List Part} {s t : State} (h : Frame ps s t) (hq : .slices ∉ ps) (m : Nat) : t.slc m = s.slc m := by
  simp only [State.slc, show t.slices = s.slices from h .slices hq]

theorem Frame.prt {ps : List Part} {s t : State} (h : Frame ps s t) (hq : .ports ∉ ps) (m : Nat) : t.prt m = s.prt m := by
  simp only [State.prt, show t.ports = s.ports from h .ports hq]

theorem State.ring_of_slc {s t : State} {u : Nat} (h : t.slc u = s.slc u) (n q : Nat) : t.ring u n q = s.ring u n q := by
  simp only [State.ring, h]

@[simp] theorem State.rd_setSlc (s : State) (t : Nat) (v : Slice) (r : ObjRow) (n i q j : Nat) :
    (s.setSlc t v).rd r n i q j = s.rd r n i q j := rfl

@[simp] theorem State.rd_setPrt (s : State) (p : Nat) (v : HostPort) (r : ObjRow) (n i q j : Nat) :
    (s.setPrt p v).rd r n i q j = s.rd r n i q j := rfl

/-- `SLICE_STATE` alone follows what a slice is in (R382). -/
theorem State.rd_syncSlice_apart (s : State) (t : Nat) {r : ObjRow} {n i q j : Nat} (hk : r.key n i q j ≠ Obj.SLICE_STATE.key 0 0 t 0) :
    (s.syncSlice t).rd r n i q j = s.rd r n i q j := State.rd_wr_apart s _ rfl hk

/-- A page write that is taken runs its effect (R364). -/
theorem State.onPage_of_taken {s : State} {p t : Nat} (hgate : s.hwGated 2 = false) (htaken : s.pageWrite p t = .taken) (f : State → State) :
    s.onPage p t f = f s := by
  simp [State.onPage, hgate, htaken]

end Sys2Proof.Machine

/-! Transfers and landing rings: the front transfer moves and completes, and items are delivered (R365, R368 to R370). -/
namespace Sys2Proof.Machine

/-- An index of a page write is its low 12 bits (R362). -/
theorem bits_eleven (v : Nat) : bits 11 0 v = v % 2 ^ 12 := by simp [bits]

/-- The read of host memory that a transfer issues (R368). -/
def State.xferRead (s : State) (t : Nat) (x : Xfer) : State :=
  s.emit (.hostRead (s.rdN Obj.SLICE_PORT 0 0 t) (s.rdN Obj.SLICE_PASID 0 0 t) x.hostAddr x.len)

theorem exec_xferHostToStation {s : State} {t : Fin 512} {n : Fin 8} {q : Fin 4} (data : Option Bytes) {x : Xfer} {r : Ring}
    (hfront : s.xferFront t n q 8 = some (x, r)) : exec (.xferHostToStation t n q data) s = .next (
      let u := s.cvXfer t n q x
      let u := if u.xferAllowed x 2 && x.sluiced.isEmpty then u.xferRead t x else u
      match data with
      | none => u.setFront t n q { x with moved := true, status := csAccessFault, sluiced := [] }
      | some b => u.xferWrite t n q x (padTo x.len (b.take x.len))) := by
  change execXferHostToStation t n q data s = _
  simp only [execXferHostToStation, hfront]
  rfl

theorem exec_xferStationToHost {s : State} {t : Fin 512} {n : Fin 8} {q : Fin 4} {x : Xfer} {r : Ring}
    (hfront : s.xferFront t n q 9 = some (x, r)) (hallowed : (s.cvXfer t n q x).xferAllowed x 1 = true)
    (hserves : (s.cvXfer t n q x).memServes n = true) : exec (.xferStationToHost t n q) s = .next (
      let u := s.cvXfer t n q x
      (u.hostWrite t x.hostAddr (u.readTagged n x.stationAddr x.len 0)).setFront t n q
        { x with moved := true, data := u.readTagged n x.stationAddr x.len 0 }) := by
  change execXferStationToHost t n q s = _
  simp [execXferStationToHost, hfront, hallowed, hserves]

theorem exec_xferFill {s : State} {t : Fin 512} {n : Fin 8} {q : Fin 4} {x : Xfer} {r : Ring} (hfront : s.xferFront t n q 10 = some (x, r)) :
    exec (.xferFill t n q) s =
      .next ((s.cvXfer t n q x).xferWrite t n q x ((List.replicate (x.len / 4) (toLE 4 (bits 31 0 x.hostAddr))).flatten)) := by
  change execXferFill t n q s = _
  simp only [execXferFill, hfront]

/-- Bytes that the windows allow go to a memory that serves, and the headgate goes on (R361, R368). -/
theorem State.xferWrite_of_serves {s : State} {t n q : Nat} {x : Xfer} (b : Bytes) (hallowed : s.xferAllowed x 2 = true)
    (hserves : s.memServes n = true) (hfirst : x.sluiced = []) : s.xferWrite t n q x b =
      ((s.writeTagged n x.stationAddr b 0 true).setFront t n q { x with moved := true, data := b, sluiced := [] }).fetch n := by
  simp [State.xferWrite, hallowed, hserves, hfirst]

/-- Where memory does not serve, the sluice keeps as many of the bytes as it has room for (R18, R367, R655). -/
theorem State.xferWrite_of_waits {s : State} {t n q : Nat} {x : Xfer} (b : Bytes) (hallowed : s.xferAllowed x 2 = true)
    (hserves : s.memServes n = false) (hfirst : x.sluiced = []) :
    s.xferWrite t n q x b = s.setFront t n q { x with sluiced := b.take (sluiceBytes - s.sluiceUsed n) } := by
  simp [State.xferWrite, hallowed, hserves, hfirst]

/-- Bytes outside the windows move nowhere (R361, R369). -/
theorem State.xferWrite_of_outside {s : State} {t n q : Nat} {x : Xfer} (b : Bytes) (hallowed : s.xferAllowed x 2 = false) :
    s.xferWrite t n q x b =
      (s.noteTag n x.stationAddr x.len 0).setFront t n q { x with moved := true, status := csAccessFault, sluiced := [] } := by
  simp [State.xferWrite, hallowed]

/-- The ring that a completion leaves: its place taken, one descriptor less outstanding (R365). -/
theorem State.ring_completion (s : State) (t n q : Nat) (record : Bytes) (fence : Option (Nat × Nat)) (irq : Bool) :
    (s.completion t n q record fence irq).ring t n q = { s.ring t n q with
      compTail := ((s.ring t n q).compTail + 1) % s.ringSize t n q, outstanding := (s.ring t n q).outstanding - 1 } := by
  have hirq (u : State) (k : Nat) : (u.irq t k).ring t n q = u.ring t n q :=
    State.ring_of_slc ((State.irq_frame u t k (.refl _) (.refl _ u)).slc (by decide) t) n q
  have hfence (u : State) (a v : Nat) : (u.writeTagged n a (toLE 8 v) 0).ring t n q = u.ring t n q :=
    State.ring_of_slc ((State.writeTagged_frame u n a (toLE 8 v) 0 false (.refl _) (.refl _ u)).slc (by decide) t) n q
  have hhost (u : State) (a : Nat) (b : Bytes) : (u.hostWrite t a b).ring t n q = u.ring t n q := rfl
  unfold State.completion
  dsimp only
  rw [apply_ite fun u : State => u.ring t n q, hirq, ite_self]
  cases fence with
  | none => rw [hhost, State.ring_setRing_self]; rfl
  | some f =>
    dsimp only
    rw [apply_ite fun u : State => u.ring t n q, hfence, ite_self, hhost, State.ring_setRing_self]
    rfl

/-- What TRANSFER_COMPLETE completes: the ring without its front transfer, after the check-value units have seen its bytes (R365, R597). -/
def State.xferEnded (s : State) (t n q : Nat) (x : Xfer) (l : List Xfer) : State :=
  ((s.drawNat (2 ^ 32)).2.setRing t n q { s.ring t n q with xfers := l }).cvTransfer n t q x.data (x.status = csOk)

theorem exec_transferComplete {s : State} {t : Fin 512} {n : Fin 8} {q : Fin 4} {x : Xfer} {l : List Xfer}
    (hxfers : (s.ring t n q).xfers = x :: l) (hmoved : x.moved = true) : ∃ record : Bytes, exec (.transferComplete t n q) s =
      .next (((s.xferEnded t n q x l).completion t n q record x.fenceSignal x.irq).fetch n) := by
  refine ⟨completionRecord x.jobId 0 x.status 0 0 (s.drawNat (2 ^ 32)).1 0 (s.xferEnded t n q x l).time, ?_⟩
  change execTransferComplete t n q s = _
  simp only [execTransferComplete, hxfers, hmoved]
  rfl

theorem State.xferEnded_frame (s : State) (t n q : Nat) (x : Xfer) (l : List Xfer) :
    Frame [.checks] ((s.drawNat (2 ^ 32)).2.setRing t n q { s.ring t n q with xfers := l }) (s.xferEnded t n q x l) :=
  State.cvTransfer_frame _ _ _ _ _ _ (.refl _) (.refl _ _)

theorem State.ring_xferEnded (s : State) (t n q : Nat) (x : Xfer) (l : List Xfer) :
    (s.xferEnded t n q x l).ring t n q = { s.ring t n q with xfers := l } :=
  (State.ring_of_slc ((s.xferEnded_frame t n q x l).slc (by decide) t) n q).trans (State.ring_setRing_self ..)

theorem State.ringSize_xferEnded (s : State) (t n q : Nat) (x : Xfer) (l : List Xfer) :
    (s.xferEnded t n q x l).ringSize t n q = s.ringSize t n q :=
  congrArg Int.toNat (State.rd_of_regs ((s.xferEnded_frame t n q x l).regs (by decide)) ..)

/-- A landing head crosses to the control cores of the slice's stations: no slice changes, nor an object of one (R370, R593). -/
theorem State.each_crossDoorbell (s : State) (l : List Nat) (k : Nat → CrossKey) (v : Nat) :
    SameHostObjects s (s.each l fun s n => s.crossDoorbell (k n) n v) ∧
      ∀ m, (s.each l fun s n => s.crossDoorbell (k n) n v).slc m = s.slc m := by
  refine ⟨?_, fun m => State.each_keeps (State.slc · m) (fun u n => ?_) s l⟩
  · refine List.foldlRecOn l _ (.refl s) fun u hu n _ => .crossDoorbell _ _ _ hu
  · exact (State.crossDoorbell_frame u (k n) n v (.refl _) (.refl _ u)).slc (by decide) m

theorem exec_landingDelivery_touch {s : State} {t : Fin 512} {r : TouchRec} {rest : EvQueue TouchRec} (hland : s.landing t = true)
    (haddr : s.rdN Obj.TOUCH_LAND_ADDR 0 0 t ≠ 0)
    (hroom : ((s.slc t).touchLand.tail + 1) % s.rdN Obj.TOUCH_LAND_ENTRIES 0 0 t ≠ (s.slc t).touchLand.head)
    (htake : (s.touchQ.getD t {}).takeSmall TouchRec.prio = (some r, rest)) : exec (.landingDelivery t true) s = .next (
      let next := ((s.slc t).touchLand.tail + 1) % s.rdN Obj.TOUCH_LAND_ENTRIES 0 0 t
      let u := ({ s with touchQ := s.touchQ.put t rest } : State).countTenantItems t
      let u := (u.hostWrite t (s.rdN Obj.TOUCH_LAND_ADDR 0 0 t + 32 * (s.slc t).touchLand.tail) r.encode).setSlc t
        { s.slc t with touchLand := { (s.slc t).touchLand with tail := next } }
      (u.hostWrite t (s.rdN Obj.LAND_SHADOW_ADDR 0 0 t) (toLE 4 next)).irqMapped t 0) := by
  change execLandingDelivery t true s = _
  simp [execLandingDelivery, hland, haddr, hroom, htake]

theorem exec_landingDelivery_note {s : State} {t : Fin 512} {r : Rec} {rest : EvQueue Rec} (hland : s.landing t = true)
    (haddr : s.rdN Obj.NOTIFY_LAND_ADDR 0 0 t ≠ 0)
    (hroom : ((s.slc t).noteLand.tail + 1) % s.rdN Obj.NOTIFY_LAND_ENTRIES 0 0 t ≠ (s.slc t).noteLand.head)
    (htake : (s.noteQ.getD t {}).takeSmall Rec.prio = (some r, rest)) : exec (.landingDelivery t false) s = .next (
      let next := ((s.slc t).noteLand.tail + 1) % s.rdN Obj.NOTIFY_LAND_ENTRIES 0 0 t
      let u := ({ s with noteQ := s.noteQ.put t rest } : State).countTenantItems t
      let u := (u.hostWrite t (s.rdN Obj.NOTIFY_LAND_ADDR 0 0 t + 32 * (s.slc t).noteLand.tail) r.encode).setSlc t
        { s.slc t with noteLand := { (s.slc t).noteLand with tail := next } }
      (u.hostWrite t (s.rdN Obj.LAND_SHADOW_ADDR 0 0 t + 4) (toLE 4 next)).irqMapped t 1) := by
  change execLandingDelivery t false s = _
  simp [execLandingDelivery, hland, haddr, hroom, htake]

/-- Settles O17: each transfer takes the branch its hypotheses ask for, and a completion is `State.ring_completion` on the ring without its front. -/
theorem transfersMoveAndLand : Obligations.TransfersMoveAndLand := by
  unfold Obligations.TransfersMoveAndLand
  refine ⟨?moved, ?sluiced, ?outside, ?failed, ?toHost, ?filled, ?completed, ?touchHead, ?noteHead, ?touchLands, ?noteLands⟩
  case moved =>
    rintro s t n q _ b x r _ rfl hfront rfl hallowed hserves hfirst
    refine ⟨_, exec_xferHostToStation _ hfront, ?_⟩
    simp only [hallowed, hfirst, List.isEmpty_nil, Bool.and_self, if_true]
    exact State.xferWrite_of_serves _ hallowed hserves hfirst
  case sluiced =>
    rintro s t n q _ b x r _ rfl hfront rfl hallowed hserves hfirst
    refine ⟨_, exec_xferHostToStation _ hfront, ?_⟩
    simp only [hallowed, hfirst, List.isEmpty_nil, Bool.and_self, if_true]
    exact State.xferWrite_of_waits _ hallowed hserves hfirst
  case outside =>
    rintro s t n q _ b x r _ rfl hfront rfl hallowed
    refine ⟨_, exec_xferHostToStation _ hfront, ?_⟩
    simp only [hallowed, Bool.false_and, Bool.false_eq_true, if_false]
    exact State.xferWrite_of_outside _ hallowed
  case failed =>
    rintro s t n q _ x r _ rfl hfront rfl hallowed hfirst
    refine ⟨_, exec_xferHostToStation _ hfront, ?_⟩
    simp only [hallowed, hfirst, List.isEmpty_nil, Bool.and_self, if_true]
    rfl
  case toHost =>
    rintro s t n q x r _ hfront rfl hallowed hserves
    exact ⟨_, exec_xferStationToHost hfront hallowed hserves, rfl⟩
  case filled =>
    rintro s t n q x r _ hfront rfl hallowed hserves hfirst
    exact ⟨_, exec_xferFill hfront, State.xferWrite_of_serves _ hallowed hserves hfirst⟩
  case completed =>
    intro s t n q x l hxfers hmoved
    obtain ⟨record, hexec⟩ := exec_transferComplete hxfers hmoved
    have hfetch := SameRings.fetch ((s.xferEnded t n q x l).completion t n q record x.fenceSignal x.irq) n t n q
    rw [State.ring_completion, State.ring_xferEnded, State.ringSize_xferEnded] at hfetch
    exact ⟨_, hexec, congrArg Ring.xfers hfetch, congrArg Ring.compTail hfetch, congrArg Ring.outstanding hfetch⟩
  case touchHead =>
    intro s p t v hgate htaken
    obtain ⟨hobjects, hslc⟩ := s.each_crossDoorbell (s.stationsOf t) (.touchHead · t) v
    refine ⟨_, congrArg Host.Outcome.next (State.onPage_of_taken hgate htaken _), ?_⟩
    dsimp only
    rw [State.slc_setSlc_self, hslc, hobjects.rdN (by decide), bits_eleven]
  case noteHead =>
    intro s p t v hgate htaken
    obtain ⟨hobjects, hslc⟩ := s.each_crossDoorbell (s.stationsOf t) (.noteHead · t) v
    refine ⟨_, congrArg Host.Outcome.next (State.onPage_of_taken hgate htaken _), ?_⟩
    dsimp only
    rw [State.slc_setSlc_self, hslc, hobjects.rdN (by decide), bits_eleven]
  case touchLands =>
    rintro s t _ r hland rfl haddr hroom htake
    exact ⟨_, exec_landingDelivery_touch hland haddr hroom (Prod.ext htake rfl), rfl⟩
  case noteLands =>
    rintro s t _ r hland rfl haddr hroom htake
    exact ⟨_, exec_landingDelivery_note hland haddr hroom (Prod.ext htake rfl), rfl⟩

end Sys2Proof.Machine

/-! Host ports: readiness, training, retraining, resets and vectors (R26, R355, R371, R377, R378). -/
namespace Sys2Proof.Machine

@[simp] theorem State.isHwReady_hwReady (s : State) (k : Nat) (b : Bool) : (s.hwReady k b).isHwReady k = b := by
  rw [State.isHwReady, State.rdN, State.hwReady, State.rd_wr_self _ _ _ _ _ _ _ (.inl rfl), Int.toNat_natCast, bit_putBit]

/-- The object of a port's state is not the ready word (R4). -/
theorem State.isHwReady_portState (s : State) (v : Int) (p k : Nat) : (s.wr Obj.PORT_STATE v 0 p).isHwReady k = s.isHwReady k := by
  have hword : (s.wr Obj.PORT_STATE v 0 p).rd Obj.READY_HEADWORKS = s.rd Obj.READY_HEADWORKS :=
    State.rd_wr_apart s v rfl (by simp [ObjRow.key, Obj.PORT_STATE, Obj.READY_HEADWORKS])
  rw [State.isHwReady, State.rdN, hword]
  rfl

/-- The objects of a port stand below those of the slices (R382). -/
theorem State.rd_port_syncSlice (s : State) (u : Nat) (p : Fin 2) {r : ObjRow} (hr : r.idx + 1 < Obj.SLICE_STATE.idx) :
    (s.syncSlice u).rd r 0 p = s.rd r 0 p := by
  refine State.rd_syncSlice_apart s u ?_
  simp only [ObjRow.key, ne_eq, OKey.mk.injEq]
  omega

/-- The link of a port is up: its slices leave PORT_RESET, and the headgate fetches for them (R367, R378). -/
def State.linkUp (s : State) (p : Nat) : State :=
  (s.portLinkUp p).each ((s.portLinkUp p).slicesOf p) fun u t => u.fetchFor t

theorem State.linkUp_fetches_frame (s : State) (p : Nat) : Frame [.slices, .out] (s.portLinkUp p) (s.linkUp p) :=
  .each (fun u t hu => State.fetchFor_frame u t (.refl _) hu) (.refl _ _)

theorem State.prt_linkUp (s : State) (p : Nat) : (s.linkUp p).prt p = { s.prt p with linkDown := false } := by
  have hsync (u : State) (t : Nat) : (u.syncSlice t).prt p = u.prt p :=
    (State.syncSlice_frame u t (.refl _) (.refl _ u)).prt (by decide) p
  rw [(s.linkUp_fetches_frame p).prt (by decide)]
  exact (State.each_keeps (State.prt · p) hsync _ _).trans (State.prt_setPrt_self ..)

theorem State.rd_linkUp (s : State) (p : Fin 2) {r : ObjRow} (hr : r.idx + 1 < Obj.SLICE_STATE.idx) : (s.linkUp p).rd r 0 p = s.rd r 0 p := by
  rw [State.rd_of_regs ((s.linkUp_fetches_frame p).regs (by decide))]
  exact State.each_keeps (State.rd · r 0 p) (fun u t => u.rd_port_syncSlice t p hr) _ _

/-- The objects of a link that has trained (R382). -/
def State.linkShown (s : State) (p speed width : Nat) (degraded : Bool) : State :=
  ((s.wr Obj.LINK_SPEED speed 0 p).wr Obj.LINK_WIDTH width 0 p).wr Obj.PORT_STATE (if degraded then 3 else 2) 0 p

/-- A link that has trained, judged: below what R355 asks for, one retraining is due. -/
def State.linkJudged (s : State) (p speed width : Nat) (degraded : Bool) : State :=
  (s.linkShown p speed width degraded).setPrt p { s.prt p with retrainDue := degraded && !(s.prt p).retrained, degradedAt := s.time }

/-- A link trains at the speed and width that both ends allow, and is DEGRADED below 8 GT/s or the port's width (R355, R378). -/
theorem exec_pcieLinkTrained {s : State} {p : Fin 2} {speed : Fin 6} {width : Fin 9} (hready : (s.prt p).ready = true)
    (hstate : s.rdN Obj.PORT_STATE 0 p ≠ 4) (hspeed : speed.val ≠ 0) (hwidth : width.val ≠ 0) {degraded : Bool}
    (hdegraded : degraded = (decide (min speed.val (s.rdN Obj.MAX_SPEED 0 p) ≤ 2) || decide (width.val < s.rdN Obj.MAX_WIDTH 0 p))) :
    exec (.pcieLinkTrained p speed width) s = .next (
      let u := s.linkJudged p (min speed.val (s.rdN Obj.MAX_SPEED 0 p)) (min width.val (s.rdN Obj.MAX_WIDTH 0 p)) degraded
      (if degraded then u.alarm 15 0 noStation p else u).linkUp p) := by
  have hmax (a b : Int) : ((s.wr Obj.LINK_SPEED a 0 p).wr Obj.LINK_WIDTH b 0 p).rdN Obj.MAX_WIDTH 0 p = s.rdN Obj.MAX_WIDTH 0 p :=
    congrArg Int.toNat ((State.rd_wr_apart _ _ rfl (by simp [ObjRow.key, Obj.LINK_WIDTH, Obj.MAX_WIDTH])).trans
      (State.rd_wr_apart _ _ rfl (by simp [ObjRow.key, Obj.LINK_SPEED, Obj.MAX_WIDTH])))
  have hbelow : min width.val (s.rdN Obj.MAX_WIDTH 0 p) < s.rdN Obj.MAX_WIDTH 0 p ↔ width.val < s.rdN Obj.MAX_WIDTH 0 p := by omega
  have hruns : (!(s.prt p).ready || decide (s.rdN Obj.PORT_STATE 0 p = 4) || decide (speed = 0) || decide (width = 0)) = false := by
    simp [hready, hstate, Fin.ext_iff, hspeed, hwidth]
  change execPcieLinkTrained p speed width s = _
  simp only [execPcieLinkTrained, hruns, Bool.false_eq_true, if_false, hmax, hbelow, ← hdegraded, State.prt_wr, State.time_wr]
  rfl

theorem State.rd_portState_linkJudged (s : State) (p speed width : Nat) (degraded : Bool) :
    (s.linkJudged p speed width degraded).rd Obj.PORT_STATE 0 p = if degraded then 3 else 2 := by
  rw [State.linkJudged, State.rd_setPrt, State.linkShown, State.rd_wr_self _ _ _ _ _ _ _ (.inl rfl)]

theorem State.rd_linkWidth_linkJudged (s : State) (p speed width : Nat) (degraded : Bool) :
    (s.linkJudged p speed width degraded).rd Obj.LINK_WIDTH 0 p = width := by
  rw [State.linkJudged, State.rd_setPrt, State.linkShown,
    State.rd_wr_apart _ _ rfl (by simp [ObjRow.key, Obj.LINK_WIDTH, Obj.PORT_STATE]), State.rd_wr_self _ _ _ _ _ _ _ (.inl rfl)]

theorem State.rd_linkSpeed_linkJudged (s : State) (p speed width : Nat) (degraded : Bool) :
    (s.linkJudged p speed width degraded).rd Obj.LINK_SPEED 0 p = speed := by
  rw [State.linkJudged, State.rd_setPrt, State.linkShown,
    State.rd_wr_apart _ _ rfl (by simp [ObjRow.key, Obj.LINK_SPEED, Obj.PORT_STATE]),
    State.rd_wr_apart _ _ rfl (by simp [ObjRow.key, Obj.LINK_SPEED, Obj.LINK_WIDTH]), State.rd_wr_self _ _ _ _ _ _ _ (.inl rfl)]

theorem State.prt_linkJudged (s : State) (p speed width : Nat) (degraded : Bool) : (s.linkJudged p speed width degraded).prt p =
    { s.prt p with retrainDue := degraded && !(s.prt p).retrained, degradedAt := s.time } := State.prt_setPrt_self ..

/-- Settles O14: training is `exec_pcieLinkTrained`, and the link up leaves what it has shown; every other command is one branch. -/
theorem portsTrainAndReset : Obligations.PortsTrainAndReset := by
  unfold Obligations.PortsTrainAndReset
  refine ⟨?high, ?low, ?ready, ?up, ?degraded, ?retrain, ?hotReset, ?flr, ?unmask⟩
  case high =>
    rintro s p _ rfl
    exact ⟨_, rfl, rfl⟩
  case low =>
    rintro s p _ rfl
    exact ⟨_, rfl, rfl⟩
  case ready =>
    intro s p hpowered hperst hreset hready
    have hruns : (s.powered && !(s.prt p).perst && !s.rst.inReset.contains (.port p) && !(s.prt p).ready) = true := by
      simp only [hpowered, hperst, hreset, hready, Bool.not_false, Bool.and_self]
    refine ⟨_, congrArg Host.Outcome.next (if_pos hruns), ?_, ?_, State.rd_wr_self _ _ _ _ _ _ _ (.inl rfl)⟩
    · rw [State.prt_wr, State.hwReady, State.prt_wr, State.prt_setPrt_self]
    · rw [State.isHwReady_portState, State.isHwReady_hwReady]
  case up =>
    intro s p speed width hready hstate hspeed hwidth hlanes
    have hfull : false = (decide (min speed.val (s.rdN Obj.MAX_SPEED 0 p) ≤ 2) || decide (width.val < s.rdN Obj.MAX_WIDTH 0 p)) := by
      simp only [decide_eq_false (Nat.not_le.mpr hspeed), decide_eq_false (Nat.not_lt.mpr hlanes), Bool.or_self]
    refine ⟨_, exec_pcieLinkTrained hready hstate (by omega) hwidth hfull, ?_⟩
    simp only [Bool.false_eq_true, if_false]
    rw [State.prt_linkUp, State.prt_linkJudged, State.rd_linkUp _ _ (by decide), State.rd_linkUp _ _ (by decide),
      State.rd_linkUp _ _ (by decide), State.rd_linkSpeed_linkJudged, State.rd_linkWidth_linkJudged, State.rd_portState_linkJudged,
      Nat.min_eq_right hlanes]
    exact ⟨rfl, rfl, rfl, rfl, rfl⟩
  case degraded =>
    intro s p speed width hready hstate hspeed hwidth hbelow
    have hdegraded : true = (decide (min speed.val (s.rdN Obj.MAX_SPEED 0 p) ≤ 2) || decide (width.val < s.rdN Obj.MAX_WIDTH 0 p)) := by
      simpa using hbelow
    have halarm (u : State) : (u.alarm 15 0 noStation p).prt p = u.prt p :=
      (State.alarm_frame u 15 0 noStation p (.refl _) (.refl _ u)).prt (by decide) p
    refine ⟨_, exec_pcieLinkTrained hready hstate hspeed hwidth hdegraded, ?_⟩
    simp only [if_true]
    rw [State.prt_linkUp, halarm, State.prt_linkJudged, State.rd_linkUp _ _ (by decide),
      SameHostObjects.rd (.alarm _ _ _ _ (.refl _)) (by decide), State.rd_portState_linkJudged]
    exact ⟨rfl, rfl, rfl, rfl⟩
  case retrain =>
    intro s p hdue hafter hstate
    refine ⟨_, congrArg Host.Outcome.next (if_pos ?_), rfl⟩
    simp only [hdue, hafter, hstate, decide_true, Bool.and_self]
  case hotReset =>
    intro s p hready
    refine ⟨_, congrArg Host.Outcome.next (if_neg ?_), rfl⟩
    simp only [hready, Bool.not_true, Bool.false_eq_true, not_false_eq_true]
  case flr =>
    intro s p hready
    refine ⟨_, congrArg Host.Outcome.next (if_neg ?_), rfl⟩
    simp only [hready, Bool.not_true, Bool.false_eq_true, not_false_eq_true]
  case unmask =>
    intro s p v hpending
    exact ⟨_, congrArg Host.Outcome.next (if_pos hpending), rfl⟩

end Sys2Proof.Machine

/-! Failures at the headgate: what each leaves of a slice, its rings and its objects (R373 to R375). -/
namespace Sys2Proof.Machine

/-- What an issued read leaves, fetching for a station leaves (R367). -/
theorem State.fetch_keeps_of {β : Type} (f : State → β) (hread : ∀ u t n q, f (State.issueRead u t n q) = f u) (s : State) (n : Nat) :
    f (s.fetch n) = f s := by
  have hturn (u : State) : f (u.fetchTurn n) = f u := by
    refine State.each_keeps f (fun u r => ?_) u _
    split
    exacts [hread _ _ _ _, rfl]
  have hturns (k : Nat) (u : State) : f (u.fetchTurns n k) = f u := by
    induction k generalizing u with
    | zero => rfl
    | succ k ih =>
      unfold State.fetchTurns
      split
      exacts [(ih _).trans (hturn u), rfl]
  exact hturns 32 s

/-- A slice but for its rings. -/
def Slice.bare (c : Slice) : Slice := { c with rings := [] }

/-- Fetching for a station changes nothing of a slice but its rings (R367). -/
theorem State.bare_fetch (s : State) (n m : Nat) : ((s.fetch n).slc m).bare = (s.slc m).bare := by
  refine State.fetch_keeps_of (fun u => (u.slc m).bare) (fun u t k q => ?_) s n
  change ((u.setSlc t { u.slc t with rings := _ }).slc m).bare = _
  rw [State.slc_setSlc]
  split
  · rename_i h
    rw [h]
    rfl
  · rfl

/-- Fetching answers nobody: what leaves the block is reads (R367). -/
theorem State.count_answer_fetch (s : State) (n code detail aux : Nat) (data : Bytes) :
    (s.fetch n).out.count (.answer code detail aux data) = s.out.count (.answer code detail aux data) :=
  State.fetch_keeps_of (fun u => u.out.count (.answer code detail aux data))
    (fun u t k q => List.count_cons_of_ne (a := .answer code detail aux data) (l := u.out) (fun h => by cases h)) s n

/-- A failure recorded: counted, its code and station kept, and noted in the headworks log (R374). -/
def State.spoofRecorded (s : State) (t code station : Nat) : State :=
  let u := (s.count Obj.SPOOF_COUNT 0 0 t).wr Obj.SPOOF_LAST ((code + 256 * (if station < 8 then station else 0) : Nat)) 0 0 t
  u.toHwLog (u.mkRec 0x8002 0 (if station < 8 then station else noStation) t [(code, 8)])

/-- The failures of a slice within the window of R375, the present one among them. -/
def State.failuresNow (s : State) (t : Nat) : List Nat :=
  ((s.slc t).failures ++ [s.time]).filter fun x => s.time < x + s.rdN Obj.QUARANTINE_WINDOW_MS * 1000000

/-- So many failures within the window quarantine an ACTIVE slice (R375). -/
def State.quarantines (s : State) (t failures : Nat) : Bool :=
  s.rdN Obj.QUARANTINE_THRESHOLD ≠ 0 && s.rdN Obj.QUARANTINE_THRESHOLD ≤ failures && s.sliceState t = slActive

/-- The slice goes into QUARANTINED (R375). -/
def State.quarantine (s : State) (t code : Nat) : State :=
  let u := (s.setSlc t { s.slc t with quarantined := true }).wr Obj.SLICE_STATE slQuarantined 0 0 t
  (u.toTenant t (u.mkRec 0x0012 3 noStation t [(code, 8)])).alarm 14 1 noStation t

theorem State.spoofRecorded_frame (s : State) (t code station : Nat) : Frame [.objects, .records] s (s.spoofRecorded t code station) :=
  State.toHwLog_frame _ _ (.refl _) (State.wr_frame _ _ _ _ _ _ _ (by decide) (State.count_frame _ _ _ _ _ _ _ (by decide) (.refl _ s)))

theorem State.rd_spoofLast_spoofRecorded (s : State) (t code station : Nat) :
    (s.spoofRecorded t code station).rd Obj.SPOOF_LAST 0 0 t = (code + 256 * (if station < 8 then station else 0) : Nat) :=
  (SameHostObjects.rd (.toHwLog _ (.refl _)) (by decide) 0 0 t 0).trans (State.rd_wr_self _ _ _ _ _ _ _ (.inl rfl))

theorem State.rdN_window_spoofRecorded (s : State) (t code station : Nat) :
    (s.spoofRecorded t code station).rdN Obj.QUARANTINE_WINDOW_MS = s.rdN Obj.QUARANTINE_WINDOW_MS :=
  congrArg Int.toNat ((SameHostObjects.rd (.toHwLog _ (.refl _)) (by decide) 0 0 512 0).trans
    ((State.rd_wr_apart _ _ rfl (by simp [ObjRow.key, Obj.SPOOF_LAST, Obj.QUARANTINE_WINDOW_MS])).trans
      (State.rd_wr_apart _ _ rfl (by simp [ObjRow.key, Obj.SPOOF_COUNT, Obj.QUARANTINE_WINDOW_MS]))))

/-- A failure of a slice that is not RESETTING: recorded, its time kept, and QUARANTINED where the failures reach the threshold (R374, R375). -/
theorem State.spoof_of_counted {s : State} {t : Nat} (hstate : s.sliceState t ≠ slResetting) (code station : Nat) :
    s.spoof t code station =
      let u := (s.spoofRecorded t code station).setSlc t { s.slc t with failures := s.failuresNow t }
      if u.quarantines t (s.failuresNow t).length then u.quarantine t code else u := by
  have hslc : (s.spoofRecorded t code station).slc t = s.slc t := (s.spoofRecorded_frame t code station).slc (by decide) t
  have htime : (s.spoofRecorded t code station).time = s.time := (s.spoofRecorded_frame t code station) .clock (by decide)
  have hfailures : (s.spoofRecorded t code station).failuresNow t = s.failuresNow t := by
    rw [State.failuresNow, hslc, htime, s.rdN_window_spoofRecorded, State.failuresNow]
  rw [← hfailures, ← hslc]
  unfold State.spoof
  rw [if_neg hstate]
  rfl

/-- What a failure leaves of the slice, and of its last code (R374). -/
theorem State.spoof_leaves {s : State} {t : Nat} (hstate : s.sliceState t ≠ slResetting) (code station : Nat) :
    (s.spoof t code station).rd Obj.SPOOF_LAST 0 0 t = (code + 256 * (if station < 8 then station else 0) : Nat) ∧
      ((s.spoof t code station).slc t).failures = s.failuresNow t ∧ ((s.spoof t code station).slc t).rings = (s.slc t).rings := by
  have hlast := s.rd_spoofLast_spoofRecorded t code station
  rw [State.spoof_of_counted hstate]
  dsimp only
  split
  · have hslc (u : State) : (u.quarantine t code).slc t = { u.slc t with quarantined := true } := by
      rw [State.quarantine, (State.alarm_frame _ 14 1 noStation t (.refl _) (.refl _ _)).slc (by decide),
        (State.toTenant_frame _ t _ (.refl _) (.refl _ _)).slc (by decide), State.slc_wr, State.slc_setSlc_self]
    have hobjects (u : State) : (u.quarantine t code).rd Obj.SPOOF_LAST 0 0 t = u.rd Obj.SPOOF_LAST 0 0 t :=
      (SameHostObjects.rd (.alarm _ _ _ _ (.toTenant _ _ (.refl _))) (by decide) 0 0 t 0).trans
        (State.rd_wr_apart _ _ rfl (by simp [ObjRow.key, Obj.SPOOF_LAST, Obj.SLICE_STATE]))
    rw [hslc, State.slc_setSlc_self, hobjects, State.rd_setSlc]
    exact ⟨hlast, rfl, rfl⟩
  · rw [State.slc_setSlc_self, State.rd_setSlc]
    exact ⟨hlast, rfl, rfl⟩

end Sys2Proof.Machine

/-! Doorbell rings: page writes, descriptors, failed reads, enable and disable (R359, R365 to R367, R373, R380). -/
namespace Sys2Proof.Machine

/-- A page write that is taken, to a station that the slice is bound to, runs its effect (R364, R373). -/
theorem State.onStationPage_of_taken {s : State} {p t n : Nat} (hgate : s.hwGated 2 = false) (htaken : s.pageWrite p t = .taken)
    (hbound : s.sliceOn t n = true) (f : State → State) : s.onStationPage p t n f = f s := by
  rw [State.onStationPage, State.onPage_of_taken hgate htaken, if_pos hbound]

/-- A page write is taken of an ACTIVE slice only (R375, R377, R378). -/
theorem State.active_of_taken {s : State} {p t : Nat} (h : s.pageWrite p t = .taken) : s.sliceState t = slActive := by
  unfold State.pageWrite at h
  split at h
  · cases h
  · split at h
    · assumption
    · cases h

theorem slActive_ne_slResetting : slActive ≠ slResetting := by decide

/-- The headgate fetches for a station: nothing but rings and reads issued change (R367). -/
theorem State.fetch_keeps (s : State) (n : Nat) : Frame [.slices, .out] s (s.fetch n) := State.fetch_frame s n (.refl _) (.refl _ s)

/-- A doorbell value crosses: no slice, byte or sluice changes (R367, R370, R593). -/
theorem State.crossDoorbell_keeps (s : State) (k : CrossKey) (n v : Nat) : Frame [.objects, .crossings, .free] s (s.crossDoorbell k n v) :=
  State.crossDoorbell_frame s k n v (.refl _) (.refl _ s)

/-- A ring replaced after its doorbell value has crossed, and then fetched for. -/
theorem State.ring_doorbell (s : State) (k : CrossKey) (t n q v : Nat) (r : Ring) :
    ((((s.crossDoorbell k n v).setRing t n q r).fetch n).ring t n q).still = r.still ∧
      (((s.crossDoorbell k n v).setRing t n q r).fetch n).mem = s.mem ∧
      (((s.crossDoorbell k n v).setRing t n q r).fetch n).ingress = s.ingress := by
  refine ⟨?_, ((State.fetch_keeps _ n).mem (by decide)).trans ((s.crossDoorbell_keeps k n v).mem (by decide)),
    ((State.fetch_keeps _ n) .ingress (by decide)).trans ((s.crossDoorbell_keeps k n v) .ingress (by decide))⟩
  rw [SameRings.fetch, State.ring_setRing_self]

/-- A crossing leaves a slice's rings and their sizes. -/
theorem State.ring_crossDoorbell (s : State) (k : CrossKey) (n v t m q : Nat) :
    (s.crossDoorbell k n v).ring t m q = s.ring t m q ∧ (s.crossDoorbell k n v).ringSize t m q = s.ringSize t m q :=
  ⟨State.ring_of_slc ((s.crossDoorbell_keeps k n v).slc (by decide) t) m q, SameHostObjects.rdN (.crossDoorbell k n v (.refl s)) (by decide) ..⟩

/-- A page write of a ring's tail or completion head: an index that `f` puts into the ring (R362, R365, R373). -/
def State.doorbellWrite (s : State) (p t n q : Nat) (k : CrossKey) (v : Nat) (f : Ring → Nat → Ring) : State :=
  s.onStationPage p t n fun s =>
    if !s.ringOpen t n q then s.spoof t 3 n
    else
      let s := s.crossDoorbell k n v
      (s.setRing t n q (f (s.ring t n q) (bits 11 0 v % s.ringSize t n q))).fetch n

theorem exec_ringTailWrite (s : State) (p : Fin 2) (t : Fin 512) (n : Fin 8) (q : Fin 4) (v : Nat) : exec (.ringTailWrite p t n q v) s =
    .next (s.doorbellWrite p t n q (.ringTail n t q) v fun r i => { r with tail := i }) := rfl

theorem exec_compHeadWrite (s : State) (p : Fin 2) (t : Fin 512) (n : Fin 8) (q : Fin 4) (v : Nat) : exec (.compHeadWrite p t n q v) s =
    .next (s.doorbellWrite p t n q (.compHead n t q) v fun r i => { r with compHead := i }) := rfl

/-- A ring that is open takes the index modulo its size, and the headgate fetches (R365, R366). -/
theorem State.doorbellWrite_of_open {s : State} {p t n q : Nat} (k : CrossKey) (v : Nat) (f : Ring → Nat → Ring) (hgate : s.hwGated 2 = false)
    (htaken : s.pageWrite p t = .taken) (hbound : s.sliceOn t n = true) (hopen : s.ringOpen t n q = true) :
    s.doorbellWrite p t n q k v f =
      ((s.crossDoorbell k n v).setRing t n q (f (s.ring t n q) (v % 2 ^ 12 % s.ringSize t n q))).fetch n := by
  obtain ⟨hring, hsize⟩ := s.ring_crossDoorbell k n v t n q
  rw [State.doorbellWrite, State.onStationPage_of_taken hgate htaken hbound]
  simp only [hopen, Bool.not_true, Bool.false_eq_true, if_false, hring, hsize, bits_eleven]

/-- A page write to a ring that is not open is a failure of code 3 (R373). -/
theorem State.doorbellWrite_of_shut {s : State} {p t n q : Nat} (k : CrossKey) (v : Nat) (f : Ring → Nat → Ring) (hgate : s.hwGated 2 = false)
    (htaken : s.pageWrite p t = .taken) (hbound : s.sliceOn t n = true) (hshut : s.ringOpen t n q = false) :
    s.doorbellWrite p t n q k v f = s.spoof t 3 n := by
  rw [State.doorbellWrite, State.onStationPage_of_taken hgate htaken hbound, hshut]
  rfl

/-- What a page write to a ring that is not open leaves: a failure of code 3 (R373). -/
theorem State.spoof_ring {s : State} {p t : Nat} (htaken : s.pageWrite p t = .taken) (n : Fin 8) (q : Nat) :
    (s.spoof t 3 n).rd Obj.SPOOF_LAST 0 0 t = (3 + 256 * n.val : Nat) ∧ (s.spoof t 3 n).ring t n q = s.ring t n q ∧
      ((s.spoof t 3 n).slc t).failures = s.failuresNow t := by
  have hstate : s.sliceState t ≠ slResetting := State.active_of_taken htaken ▸ slActive_ne_slResetting
  obtain ⟨hlast, hfailures, hrings⟩ := State.spoof_leaves hstate 3 n
  rw [if_pos n.isLt] at hlast
  exact ⟨hlast, by rw [State.ring, hrings, State.ring], hfailures⟩

/-- The ring as the data of its oldest read arrives: one read less, and the head moved on (R366). -/
def State.ringFetched (s : State) (t n q : Nat) : Ring :=
  { s.ring t n q with reading := (s.ring t n q).reading - 1, head := ((s.ring t n q).head + 1) % s.ringSize t n q }

/-- The slice is ACTIVE and the ring enabled, with a read under way and none to discard (R366, R377, R380). -/
structure ReadArrives (s : State) (t n q : Nat) : Prop where
  fresh : (s.ring t n q).stale = 0
  reading : 0 < (s.ring t n q).reading
  active : s.sliceState t = slActive
  enabled : s.rdN Obj.RING_STATE 0 (ringIx n q) t = 1

theorem ReadArrives.noneStopped {s : State} {t n q : Nat} (h : ReadArrives s t n q) :
    ¬ (decide (s.sliceState t ≠ slActive) || decide (s.rdN Obj.RING_STATE 0 (ringIx n q) t ≠ 1)) = true := by
  simp [h.active, h.enabled]

/-- The descriptor that arrives is the failure that its first failing check names, a job or a transfer (R366, R367, R373). -/
theorem exec_descriptorFetched {s : State} {t : Fin 512} {n : Fin 8} {q : Fin 4} (data : Bytes) (h : ReadArrives s t n q) :
    exec (.descriptorFetched t n q data) s = .next (
      match descriptorSpoof t n q (ofLE (data.take 64)) with
      | some code => ((s.setRing t n q (s.ringFetched t n q)).spoof t code n).fetch n
      | none =>
        let r := { s.ringFetched t n q with outstanding := (s.ring t n q).outstanding + 1 }
        if s.rdN Obj.RING_KIND 0 (ringIx n q) t = 0 then
          State.fetch { s.setRing t n q r with ingress := s.ingress.put n (s.ingress.getD n [] ++ [⟨t, q, data⟩]) } n
        else (s.setRing t n q { r with xfers := (s.ring t n q).xfers ++ [xferOf n (ofLE (data.take 64))] }).fetch n) := by
  change execDescriptorFetched t n q data s = _
  unfold execDescriptorFetched
  dsimp only
  rw [if_neg (not_not_intro h.fresh), if_neg h.reading.ne', if_neg h.noneStopped]
  rfl

/-- A sluice or ring just filled, and then fetched for: the rings stay but for the reads under way, and so do memory and the sluices. -/
theorem State.ring_fetch_setRing (s : State) (t n q : Nat) (r : Ring) (i : FMap Nat (List Descriptor)) :
    ((State.fetch { s.setRing t n q r with ingress := i } n).ring t n q).still = r.still ∧
      (State.fetch { s.setRing t n q r with ingress := i } n).ingress = i ∧
      (State.fetch { s.setRing t n q r with ingress := i } n).mem = s.mem := by
  refine ⟨?_, (State.fetch_keeps _ n) .ingress (by decide), (State.fetch_keeps _ n).mem (by decide)⟩
  rw [SameRings.fetch]
  exact congrArg Ring.still (s.ring_setRing_self t n q r)

/-- What a descriptor that fails a check leaves: the ring with its head moved on, and the failure (R366, R373, R374). -/
theorem State.spoof_fetched {s : State} {t : Nat} (hactive : s.sliceState t = slActive) (n : Fin 8) (q : Nat) (r : Ring) (code : Nat) :
    ((((s.setRing t n q r).spoof t code n).fetch n).ring t n q).still = r.still ∧
      (((s.setRing t n q r).spoof t code n).fetch n).ingress = s.ingress ∧
      (((s.setRing t n q r).spoof t code n).fetch n).rd Obj.SPOOF_LAST 0 0 t = (code + 256 * n.val : Nat) := by
  have hstate : (s.setRing t n q r).sliceState t ≠ slResetting :=
    fun h => slActive_ne_slResetting (hactive.symm.trans h)
  obtain ⟨hlast, -, hrings⟩ := State.spoof_leaves hstate code n
  have hring : ((s.setRing t n q r).spoof t code n).ring t n q = (s.setRing t n q r).ring t n q := by rw [State.ring, hrings, State.ring]
  rw [if_pos n.isLt] at hlast
  refine ⟨?_, ((State.fetch_keeps _ n) .ingress (by decide)).trans
    (State.spoof_frame _ t code n (.refl _) (.refl _ (s.setRing t n q r)) .ingress (by decide)),
    (State.rd_of_regs ((State.fetch_keeps _ n).regs (by decide)) ..).trans hlast⟩
  rw [SameRings.fetch, hring, State.ring_setRing_self]

/-- A notification that arrives at a tenant's queue (R606). -/
theorem State.noteQ_toTenant (s : State) (t : Nat) (r : Rec) :
    (s.toTenant t r).noteQ.getD t {} = ((s.noteQ.getD t {}).putSmall Rec.prio 32 r).1 := by
  unfold State.toTenant State.countTenantItems
  simp only [State.noteQ_wr]
  split
  · rw [State.count, State.noteQ_wr, FMap.getD_put, if_pos rfl]
  · rw [FMap.getD_put, if_pos rfl]

theorem exec_ringReadFailed {s : State} {t : Fin 512} {n : Fin 8} {q : Fin 4} (cause : Nat) (h : ReadArrives s t n q) :
    exec (.ringReadFailed t n q cause) s = .next (((s.setRing t n q
      { s.ring t n q with reading := 0, stale := (s.ring t n q).reading - 1 }).wr Obj.RING_STATE 2 0 (ringIx n q) t).toTenant t
        (s.mkRec 0x0013 3 n t [(q, 2), (cause, 4)])) := by
  have hstop : ({ s.ring t n q with reading := (s.ring t n q).reading - 1 } : Ring).stop =
      { s.ring t n q with reading := 0, stale := (s.ring t n q).reading - 1 } := by
    simp [Ring.stop, h.fresh]
  rw [← hstop]
  change execRingReadFailed t n q cause s = _
  unfold execRingReadFailed
  dsimp only
  rw [if_neg (not_not_intro h.fresh), if_neg h.reading.ne']
  exact congrArg Host.Outcome.next (if_neg h.noneStopped)

/-- `RING_ENABLE` and `RING_STATE` of a ring written together (R382). -/
def State.ringSwitched (s : State) (t i : Nat) (v : Int) : State := (s.wr Obj.RING_ENABLE v 0 i t).wr Obj.RING_STATE v 0 i t

theorem State.rd_ringSwitched (s : State) (t i : Nat) (v : Int) :
    (s.ringSwitched t i v).rd Obj.RING_ENABLE 0 i t = v ∧ (s.ringSwitched t i v).rd Obj.RING_STATE 0 i t = v :=
  ⟨(State.rd_wr_apart _ v rfl (by simp [ObjRow.key, Obj.RING_ENABLE, Obj.RING_STATE])).trans (State.rd_wr_self _ _ _ _ _ _ _ (.inl rfl)),
    State.rd_wr_self _ _ _ _ _ _ _ (.inl rfl)⟩

theorem State.ring_ringSwitched (s : State) (t i : Nat) (v : Int) (m n q : Nat) : (s.ringSwitched t i v).ring m n q = s.ring m n q :=
  State.ring_of_slc (by rw [State.ringSwitched, State.slc_wr, State.slc_wr]) n q

/-- A ring is enabled, or restarts from its present head (R359, R380). -/
def State.ringStarted (s : State) (t n q : Nat) : State :=
  let u := s.ringSwitched t (ringIx n q) 1
  ((u.setRing t n q (u.ring t n q)).answer .ok).fetch n

theorem exec_ringEnable_one {s : State} {who : Requester} {t : Fin 512} {n : Fin 8} {q : Fin 4}
    (haccept : s.accepts who Obj.RING_ENABLE 1 0 (ringIx n q) (who.instanceOf t)) (hright : s.ringRight (who.instanceOf t) n q = true) :
    exec (.ringEnable who t n q true) s = .next (s.ringStarted (who.instanceOf t) n q) := by
  refine congrArg Host.Outcome.next ((State.onWrite_of_accepts haccept _).trans ?_)
  simp only [hright, Bool.not_true, Bool.false_eq_true, if_false]
  rfl

theorem State.regs_ringStarted (s : State) (t n q : Nat) : (s.ringStarted t n q).regs = (s.ringSwitched t (ringIx n q) 1).regs := by
  rw [State.ringStarted, (State.fetch_keeps _ n).regs (by decide), State.answer, State.regs_emit, State.setRing, State.regs_setSlc]

theorem State.ring_ringStarted (s : State) (t n q : Nat) : ((s.ringStarted t n q).ring t n q).still = (s.ring t n q).still := by
  rw [State.ringStarted, SameRings.fetch, State.answer, State.ring_emit, State.ring_setRing_self, State.ring_ringSwitched]

theorem State.count_ok_ringStarted (s : State) (t n q : Nat) :
    (s.ringStarted t n q).out.count (.answer 0 0 0 []) = s.out.count (.answer 0 0 0 []) + 1 := by
  have hout : (s.ringSwitched t (ringIx n q) 1).out = s.out := (State.out_wr ..).trans (State.out_wr ..)
  rw [State.ringStarted, State.count_answer_fetch, ← hout]
  exact List.count_cons_self

/-- A ring is disabled: its fetches stop (R359, R380). -/
def State.ringStopped (s : State) (t n q : Nat) : State :=
  let u := s.ringSwitched t (ringIx n q) 0
  if (s.ring t n q).stop = u.ring t n q then u else u.setRing t n q (s.ring t n q).stop

theorem exec_ringEnable_zero {s : State} {who : Requester} {t : Fin 512} {n : Fin 8} {q : Fin 4}
    (haccept : s.accepts who Obj.RING_ENABLE 0 0 (ringIx n q) (who.instanceOf t)) :
    exec (.ringEnable who t n q false) s = .next ((s.ringStopped (who.instanceOf t) n q).answer .ok) :=
  congrArg Host.Outcome.next (State.onWrite_of_accepts haccept _)

theorem State.regs_ringStopped (s : State) (t n q : Nat) : (s.ringStopped t n q).regs = (s.ringSwitched t (ringIx n q) 0).regs := by
  unfold State.ringStopped
  dsimp only
  split
  exacts [rfl, rfl]

theorem State.ring_ringStopped (s : State) (t n q : Nat) : (s.ringStopped t n q).ring t n q = (s.ring t n q).stop := by
  unfold State.ringStopped
  dsimp only
  split
  next hsame => exact hsame.symm
  next => exact State.ring_setRing_self ..

/-- Settles O16: a page write, a descriptor or a failed read takes the branch its hypotheses ask for, a failure leaves what
`State.spoof_leaves` says, and fetching leaves all of a ring but the reads under way (`SameRings.fetch`). -/
theorem ringsFetchAndReport : Obligations.RingsFetchAndReport := by
  unfold Obligations.RingsFetchAndReport
  refine ⟨?tail, ?tailShut, ?compHead, ?compShut, ?job, ?transfer, ?fails, ?discarded, ?readFailed, ?enabled, ?disabled⟩
  case tail =>
    intro s p t n q v hgate htaken hbound hopen
    refine ⟨_, exec_ringTailWrite s p t n q v, ?_⟩
    rw [State.doorbellWrite_of_open _ _ _ hgate htaken hbound hopen]
    exact State.ring_doorbell ..
  case tailShut =>
    intro s p t n q v hgate htaken hbound hshut
    refine ⟨_, exec_ringTailWrite s p t n q v, ?_⟩
    rw [State.doorbellWrite_of_shut _ _ _ hgate htaken hbound hshut]
    exact State.spoof_ring htaken n q
  case compHead =>
    intro s p t n q v hgate htaken hbound hopen
    refine ⟨_, exec_compHeadWrite s p t n q v, ?_⟩
    rw [State.doorbellWrite_of_open _ _ _ hgate htaken hbound hopen]
    exact State.ring_doorbell ..
  case compShut =>
    intro s p t n q v hgate htaken hbound hshut
    refine ⟨_, exec_compHeadWrite s p t n q v, ?_⟩
    rw [State.doorbellWrite_of_shut _ _ _ hgate htaken hbound hshut]
    exact State.spoof_ring htaken n q
  case job =>
    intro s t n q data hfresh hreading hactive henabled hnames hkind
    refine ⟨_, exec_descriptorFetched data ⟨hfresh, hreading, hactive, henabled⟩, ?_⟩
    simp only [hnames, hkind, if_true]
    obtain ⟨hring, hingress, hmem⟩ := s.ring_fetch_setRing t n q
      { s.ringFetched t n q with outstanding := (s.ring t n q).outstanding + 1 } (s.ingress.put n (s.ingress.getD n [] ++ [⟨t, q, data⟩]))
    exact ⟨hring, by rw [hingress, FMap.getD_put, if_pos rfl], hmem⟩
  case transfer =>
    intro s t n q data hfresh hreading hactive henabled hnames hkind
    refine ⟨_, exec_descriptorFetched data ⟨hfresh, hreading, hactive, henabled⟩, ?_⟩
    simp only [hnames, hkind, if_false]
    exact s.ring_fetch_setRing t n q _ s.ingress
  case fails =>
    intro s t n q data code hfresh hreading hactive henabled hfails
    refine ⟨_, exec_descriptorFetched data ⟨hfresh, hreading, hactive, henabled⟩, ?_⟩
    simp only [hfails]
    exact State.spoof_fetched hactive n q (s.ringFetched t n q) code
  case discarded =>
    intro s t n q data hstale
    exact ⟨_, congrArg Host.Outcome.next (if_pos hstale), State.ring_setRing_self .., rfl, rfl⟩
  case readFailed =>
    intro s t n q cause hfresh hreading hactive henabled
    refine ⟨_, exec_ringReadFailed cause ⟨hfresh, hreading, hactive, henabled⟩, ?_, ?_, ?_⟩
    · rw [State.ring_of_slc ((State.toTenant_frame _ _ _ (.refl _) (.refl _ _)).slc (by decide) t), State.ring_of_slc (State.slc_wr ..),
        State.ring_setRing_self]
    · exact (SameHostObjects.rd (.toTenant _ _ (.refl _)) (by decide) ..).trans (State.rd_wr_self _ _ _ _ _ _ _ (.inl rfl))
    · rw [State.noteQ_toTenant, State.noteQ_wr]
      rfl
  case enabled =>
    rintro s who t n q _ _ rfl haccept rfl hright
    obtain ⟨henable, hstate⟩ := s.rd_ringSwitched (who.instanceOf t) (ringIx n q) 1
    have hregs := State.rd_of_regs (s.regs_ringStarted (who.instanceOf t) n q)
    exact ⟨_, exec_ringEnable_one haccept hright, (hregs ..).trans henable, (hregs ..).trans hstate, s.ring_ringStarted ..,
      s.count_ok_ringStarted ..⟩
  case disabled =>
    rintro s who t n q _ _ rfl haccept rfl
    obtain ⟨henable, hstate⟩ := s.rd_ringSwitched (who.instanceOf t) (ringIx n q) 0
    have hregs := State.rd_of_regs (s.regs_ringStopped (who.instanceOf t) n q)
    refine ⟨_, exec_ringEnable_zero haccept, ?_, ?_, ?_, rfl⟩
    · rw [State.rd_answer, hregs, henable]
    · rw [State.rd_answer, hregs, hstate]
    · rw [State.answer, State.ring_emit, State.ring_ringStopped]

end Sys2Proof.Machine

/-! The end of a SLICE reset: its settings at their defaults (R377, R612). -/
namespace Sys2Proof.Machine

/-- A store without the entries of some keys finds none of them. -/
theorem FMap.find_filter_of_dropped {κ α : Type} [DecidableEq κ] (m : FMap κ α) {p : κ → Bool} {k : κ} (h : p k = false) :
    FMap.find (m.filter fun e => p e.1) k = none := by
  induction m with
  | nil => rfl
  | cons e m ih =>
    rw [List.filter_cons]
    split
    next hkept =>
      rw [FMap.find, if_neg (fun he => by rw [he, h] at hkept; exact absurd hkept Bool.false_ne_true)]
      exact ih
    next => exact ih

/-- The objects of a slice's landing rings and rings (R377, R382). -/
def resetKeys (t : Nat) : List OKey :=
  landingRows.map (fun r => r.key 0 0 t 0) ++ ringRows.flatMap fun r => (List.range 32).map fun i => r.key 0 i t 0

theorem mem_resetKeys {r : ObjRow} (hr : r ∈ ringRows) (i : Fin 32) (t : Nat) : r.key 0 i t 0 ∈ resetKeys t :=
  List.mem_append_right _ (List.mem_flatMap.mpr ⟨r, hr, List.mem_map.mpr ⟨i, List.mem_range.mpr i.isLt, rfl⟩⟩)

/-- The settings of a slice at their defaults and its queues empty, before what its queues have lost is counted anew (R377, R612). -/
def State.settingsDropped (s : State) (t : Nat) : State :=
  { s with regs := s.regs.filter (fun e => !(resetKeys t).contains e.1), touchQ := s.touchQ.del t, noteQ := s.noteQ.del t }

/-- The counts of a slice's queues as its reset leaves them (R612, R616). -/
def State.queuesCounted (s : State) (t : Nat) : State := ((s.wr Obj.TOUCH_LOST 0 0 0 t).wr Obj.NOTIFY_LOST 0 0 0 t).countTenantItems t

theorem State.slc_queuesCounted (s : State) (t m : Nat) : (s.queuesCounted t).slc m = s.slc m := by
  simp only [State.queuesCounted, State.countTenantItems, State.slc_wr]

theorem State.regs_sliceDefaults (s : State) (t : Nat) : (s.sliceDefaults t).regs = ((s.settingsDropped t).queuesCounted t).regs := by
  unfold State.sliceDefaults
  exact (State.regs_setSlc ..).trans (State.regs_setPrt ..)

theorem State.slc_sliceDefaults (s : State) (t : Nat) :
    (s.sliceDefaults t).slc t = { s.slc t with rings := [], touchLand := {}, noteLand := {}, mailbox := {} } := by
  have hport (u : State) (p : Nat) (v : HostPort) : (u.setPrt p v).slc t = u.slc t := rfl
  have hdropped : (s.settingsDropped t).slc t = s.slc t := rfl
  unfold State.sliceDefaults
  rw [State.slc_setSlc_self, hport, ← hdropped, ← (s.settingsDropped t).slc_queuesCounted t t]
  rfl

/-- The settings of a ring read their defaults after the reset (R377). -/
theorem State.rd_sliceDefaults {r : ObjRow} (hr : r ∈ ringRows) (s : State) (i : Fin 32) (t : Nat) :
    (s.sliceDefaults t).rd r 0 i t = r.dflt i 0 := by
  have hrow : ∀ r ∈ ringRows, r.station = false ∧ r.area = 3 := by decide
  have hcounted : SameHostObjects (s.settingsDropped t) ((s.settingsDropped t).queuesCounted t) :=
    .countTenantItems _ (.wr _ _ _ _ _ (by decide) (.wr _ _ _ _ _ (by decide) (.refl _)))
  have hdropped : (s.settingsDropped t).regs.find (r.key 0 i t 0) = none :=
    FMap.find_filter_of_dropped s.regs (p := fun k => !(resetKeys t).contains k) (by simp [mem_resetKeys hr i t])
  rw [State.rd_of_regs (s.regs_sliceDefaults t), hcounted.rd (hrow r hr), State.rd, hdropped]
  rfl

/-- What the queues have lost reads 0 after the reset (R612). -/
theorem State.lost_sliceDefaults (s : State) (t : Nat) :
    (s.sliceDefaults t).rd Obj.TOUCH_LOST 0 0 t = 0 ∧ (s.sliceDefaults t).rd Obj.NOTIFY_LOST 0 0 t = 0 := by
  have hregs := State.rd_of_regs (s.regs_sliceDefaults t)
  rw [hregs, hregs, State.queuesCounted, State.countTenantItems]
  refine ⟨?touch, ?note⟩
  case touch =>
    rw [State.rd_wr_apart _ _ rfl (by simp [ObjRow.key, Obj.TOUCH_LOST, Obj.NOTIFY_ITEMS]),
      State.rd_wr_apart _ _ rfl (by simp [ObjRow.key, Obj.TOUCH_LOST, Obj.TOUCH_ITEMS]),
      State.rd_wr_apart _ _ rfl (by simp [ObjRow.key, Obj.TOUCH_LOST, Obj.NOTIFY_LOST]), State.rd_wr_self _ _ _ _ _ _ _ (.inl rfl)]
  case note =>
    rw [State.rd_wr_apart _ _ rfl (by simp [ObjRow.key, Obj.NOTIFY_LOST, Obj.NOTIFY_ITEMS]),
      State.rd_wr_apart _ _ rfl (by simp [ObjRow.key, Obj.NOTIFY_LOST, Obj.TOUCH_ITEMS]), State.rd_wr_self _ _ _ _ _ _ _ (.inl rfl)]

/-- The end of a SLICE reset that keeps the slice enabled, with no write kept meanwhile (R377, R379). -/
theorem State.sliceResetEnd_of_kept {s : State} {t : Nat} (hresetting : (s.slc t).resetting = true) (hkept : (s.slc t).unbind = false)
    (hnone : (s.slc t).heldWrites = []) : s.sliceResetEnd t =
      ((s.sliceDefaults t).setSlc t { (s.sliceDefaults t).slc t with resetting := false, heldWrites := [] }).syncSlice t := by
  have hslc := s.slc_sliceDefaults t
  have hunbind : ((s.sliceDefaults t).slc t).unbind = false := by rw [hslc]; exact hkept
  have hheld : ((s.sliceDefaults t).slc t).heldWrites = [] := by rw [hslc]; exact hnone
  unfold State.sliceResetEnd
  simp only [hresetting, hunbind, hheld, Bool.not_true, Bool.false_eq_true, if_false]
  rfl

end Sys2Proof.Machine

/-! Slices: binding writes, resets, rights, windows and the release of a quarantine (R356 to R361, R375 to R379). -/
namespace Sys2Proof.Machine

/-- A binding write that no rule refuses, and that need not wait for a reset's end, is applied (R379). -/
theorem State.bind_of_allowed {s : State} {t : Nat} {w : BindWrite} {authorised : Bool} (hallowed : s.bindRefusal t w authorised = none)
    (hnow : ((s.slc t).resetting && w.waits) = false) : s.bind t w authorised = (s.applyBind t w, none) := by
  simp only [State.bind, hallowed, hnow, Bool.false_eq_true, if_false]

theorem exec_sliceEnable_one {s : State} {who : Requester} {t : Fin 512}
    (haccept : s.accepts who Obj.SLICE_ENABLE 1 0 0 (who.instanceOf t))
    (hallowed : s.bindRefusal (who.instanceOf t) (.enable true) false = none) (hoff : s.sliceEnabled (who.instanceOf t) = false)
    (hnow : (s.slc (who.instanceOf t)).resetting = false) :
    exec (.sliceEnable who t true) s = .next ((s.enableSlice (who.instanceOf t)).answer .ok) := by
  have hwrite : s.writeEnable (who.instanceOf t) true false = (s.enableSlice (who.instanceOf t), none) := by
    rw [State.writeEnable, if_pos rfl, State.bind_of_allowed hallowed (by rw [hnow, Bool.false_and]), State.applyBind]
    simp only [hoff, Bool.false_eq_true, if_false]
  refine congrArg Host.Outcome.next ((State.onWrite_of_accepts haccept _).trans ?_)
  rw [hwrite]
  rfl

theorem exec_sliceEnable_zero {s : State} {who : Requester} {t : Fin 512}
    (haccept : s.accepts who Obj.SLICE_ENABLE 0 0 0 (who.instanceOf t))
    (hallowed : s.bindRefusal (who.instanceOf t) (.enable false) false = none) (hon : s.sliceEnabled (who.instanceOf t) = true) :
    exec (.sliceEnable who t false) s =
      .next ((s.assertReset { s.request 10 none (some (who.instanceOf t)) with unbind := true }).answer .ok) := by
  have hwrite : s.writeEnable (who.instanceOf t) false false =
      (s.assertReset { s.request 10 none (some (who.instanceOf t)) with unbind := true }, none) := by
    simp only [State.writeEnable, hallowed, hon, Bool.false_eq_true, if_false, if_true]
  refine congrArg Host.Outcome.next ((State.onWrite_of_accepts haccept _).trans ?_)
  rw [hwrite]
  rfl

theorem exec_rightsWrite_of_allowed {s : State} {who : Requester} {t : Fin 512} {n : Fin 8} {which : Fin 5} {v : Nat}
    (haccept : s.accepts who (rightsRow which) v 0 n (who.instanceOf t))
    (hallowed : s.bindRefusal (who.instanceOf t) (.rights n which v) false = none) : exec (.rightsWrite who t n which v) s =
      .next ((((s.wr (rightsRow which) v 0 n (who.instanceOf t)).rehold s (who.instanceOf t) n).fetch n).answer .ok) := by
  refine congrArg Host.Outcome.next ((State.onWrite_of_accepts haccept _).trans ?_)
  rw [State.bind_of_allowed hallowed (Bool.and_false _)]
  rfl

/-- A window that names nothing takes its value at once (R361). -/
theorem State.writeWindow_of_empty {s : State} {t n w : Nat} (hempty : (windowSpan (s.rdN Obj.WINDOW 0 n t w)).size = 0) (v : Nat) :
    s.writeWindow t n w v = (s.wr Obj.WINDOW v 0 n t w).fetch n := by
  simp only [State.writeWindow, hempty, if_true, List.isEmpty_nil]

theorem exec_windowWrite_of_empty {s : State} {who : Requester} {t : Fin 512} {n : Fin 8} {w : Fin 16} {v : Nat}
    (haccept : s.accepts who Obj.WINDOW v 0 n (who.instanceOf t) w)
    (hallowed : s.bindRefusal (who.instanceOf t) (.window n w v) false = none)
    (hempty : (windowSpan (s.rdN Obj.WINDOW 0 n (who.instanceOf t) w)).size = 0) :
    exec (.windowWrite who t n w v) s = .next (((s.wr Obj.WINDOW v 0 n (who.instanceOf t) w).fetch n).answer .ok) := by
  refine congrArg Host.Outcome.next ((State.onWrite_of_accepts haccept _).trans ?_)
  rw [State.bind_of_allowed hallowed (Bool.and_false _), State.applyBind, State.writeWindow_of_empty hempty]
  rfl

/-- The slice leaves QUARANTINED, its failures forgotten, and is fetched for again (R376). -/
def State.quarantineLeft (s : State) (t : Nat) : State :=
  (((s.setSlc t { s.slc t with quarantined := false, failures := [] }).syncSlice t).clearAlarm 14 noStation t).fetchFor t

theorem exec_quarantineRelease {s : State} {who : Requester} {t : Fin 512}
    (haccept : s.accepts who Obj.QUARANTINE_RELEASE (1 : Nat) 0 0 (who.instanceOf t))
    (hquarantined : (s.slc (who.instanceOf t)).quarantined = true) :
    exec (.quarantineRelease who t 1) s = .next ((s.quarantineLeft (who.instanceOf t)).answer .ok) := by
  refine congrArg Host.Outcome.next ((State.onWrite_of_accepts haccept _).trans ?_)
  simp only [hquarantined, decide_true, Bool.and_self, if_true]
  rfl

theorem State.bare_quarantineLeft (s : State) (t : Nat) :
    ((s.quarantineLeft t).slc t).bare = ({ s.slc t with quarantined := false, failures := [] } : Slice).bare := by
  have hfetches (u : State) : ((u.fetchFor t).slc t).bare = (u.slc t).bare :=
    State.each_keeps (fun u => (u.slc t).bare) (fun u n => u.bare_fetch n t) _ _
  rw [State.quarantineLeft, hfetches, (State.clearAlarm_frame _ 14 noStation t (.refl _) (.refl _ _)).slc (by decide),
    (State.syncSlice_frame _ t (.refl _) (.refl _ _)).slc (by decide), State.slc_setSlc_self]

/-- Settles O15: each write is accepted and applied (`State.bind_of_allowed`), and the end of a reset leaves the defaults of
`State.sliceDefaults`. -/
theorem slicesAreBoundAndReset : Obligations.SlicesAreBoundAndReset := by
  unfold Obligations.SlicesAreBoundAndReset
  refine ⟨?enabled, ?disabled, ?flr, ?reset, ?resetDone, ?rights, ?window, ?released⟩
  case enabled =>
    rintro s who t _ _ rfl haccept rfl hallowed hoff hnow
    exact ⟨_, exec_sliceEnable_one haccept hallowed hoff hnow, rfl⟩
  case disabled =>
    rintro s who t _ _ rfl haccept rfl hallowed hon
    exact ⟨_, exec_sliceEnable_zero haccept hallowed hon, rfl⟩
  case flr =>
    rintro s p t _ hgate htaken rfl
    exact ⟨_, congrArg Host.Outcome.next (State.onPage_of_taken hgate htaken _), rfl⟩
  case reset =>
    rintro s who t _ _ rfl haccept rfl
    exact ⟨_, congrArg Host.Outcome.next (State.onWrite_of_accepts haccept _), rfl⟩
  case resetDone =>
    intro s t hup hover hresetting hkept hnone
    have hexec : exec (.sliceResetDone t) s = .next (s.sliceResetEnd t) :=
      congrArg Host.Outcome.next (if_pos (by rw [hup, hover, Bool.and_self]))
    obtain ⟨htouch, hnote⟩ := s.lost_sliceDefaults t
    rw [State.sliceResetEnd_of_kept hresetting hkept hnone] at hexec
    refine ⟨_, hexec, ?_, fun i => ⟨?_, ?_⟩, ?_, ?_⟩
    · rw [(State.syncSlice_frame _ t (.refl _) (.refl _ _)).slc (by decide), State.slc_setSlc_self, State.slc_sliceDefaults]
    · rw [State.rd_syncSlice_apart _ _ (by simp [ObjRow.key, Obj.RING_ENABLE, Obj.SLICE_STATE]), State.rd_setSlc,
        State.rd_sliceDefaults (by decide)]
      rfl
    · rw [State.rd_syncSlice_apart _ _ (by simp [ObjRow.key, Obj.RING_STATE, Obj.SLICE_STATE]), State.rd_setSlc,
        State.rd_sliceDefaults (by decide)]
      rfl
    · rw [State.rd_syncSlice_apart _ _ (by simp [ObjRow.key, Obj.TOUCH_LOST, Obj.SLICE_STATE]), State.rd_setSlc, htouch]
    · rw [State.rd_syncSlice_apart _ _ (by simp [ObjRow.key, Obj.NOTIFY_LOST, Obj.SLICE_STATE]), State.rd_setSlc, hnote]
  case rights =>
    rintro s who t n which v _ rfl haccept hallowed
    exact ⟨_, exec_rightsWrite_of_allowed haccept hallowed, rfl⟩
  case window =>
    rintro s who t n w v _ rfl haccept hallowed hempty
    exact ⟨_, exec_windowWrite_of_empty haccept hallowed hempty, rfl⟩
  case released =>
    rintro s who t _ _ rfl haccept rfl hquarantined
    have hbare := s.bare_quarantineLeft (who.instanceOf t)
    exact ⟨_, exec_quarantineRelease haccept hquarantined, (congrArg Slice.quarantined hbare :), (congrArg Slice.failures hbare :), rfl⟩

end Sys2Proof.Machine

/-! Steps, acknowledgements, sequence numbers and check-value presets (R479, R505, R514, R600, R618). -/
namespace Sys2Proof.Machine

/-- Settles O40: it is how a step is defined. -/
theorem stepRunsTheFrontCommand : Obligations.StepRunsTheFrontCommand := by
  unfold Obligations.StepRunsTheFrontCommand
  intro c q s hqueue
  rw [step, hqueue]

/-- A request that is served runs. -/
theorem State.onRequest_of_served {s : State} {who : Requester} (h : s.served who = true) (f : State → State) : s.onRequest who f = f s :=
  if_pos h

/-- A write of `RESULT_ACK` by a requester who may read the result (R479). -/
theorem State.ackResult_of_place {s : State} {who : Requester} {area idx tq : Nat} {p : Place} (hserved : s.served who = true)
    (hfree : s.isQuarantined who = false) (hplace : s.resultPlace who area idx tq = .ok p) (gen : Nat) :
    s.ackResult who area idx tq gen =
      if gen ≠ (s.results.getD p.key {}).generation then s.answer (.staleAck (s.results.getD p.key {}).generation)
      else ({ s with results := s.results.put p.key { s.results.getD p.key {} with consumed := true, overrun := false } } : State).answer .ok := by
  rw [State.ackResult, State.onRequest_of_served hserved]
  simp only [hfree, hplace, Bool.false_eq_true, if_false]

/-- Settles O53: `State.ackResult_of_place`, where the generation is the present one and where it is not. -/
theorem acknowledgementsConsumeResults : Obligations.AcknowledgementsConsumeResults := by
  unfold Obligations.AcknowledgementsConsumeResults
  rintro s who area idx gen tq p v hserved hfree hplace rfl
  have hack := State.ackResult_of_place hserved hfree hplace gen
  refine ⟨fun hpresent => ⟨_, rfl, ?_⟩, fun hstale => ⟨_, rfl, ?_⟩⟩
  · exact hack.trans (if_neg (by simp [hpresent]))
  · exact hack.trans (if_pos hstale)

theorem modDiff_self (w v : Nat) : modDiff w v v = 0 := by
  have hlt : v % 2 ^ w < 2 ^ w := Nat.mod_lt _ (Nat.two_pow_pos w)
  have hsum : v + 2 ^ w - v % 2 ^ w = (v / 2 ^ w + 1) * 2 ^ w := by
    have := Nat.div_add_mod v (2 ^ w)
    rw [Nat.add_mul, Nat.one_mul, Nat.mul_comm (v / 2 ^ w)]
    omega
  rw [modDiff, hsum, Nat.mul_mod_left]

/-- A SEQ that is ahead by 1 to 1,024 (R505). -/
theorem Peer.take_ahead {p : Peer} {seq : Nat} (hlow : 1 ≤ modDiff 16 seq p.last) (hhigh : modDiff 16 seq p.last ≤ 1024) :
    p.take seq = (.act, { p with last := seq, recorded := seq :: p.recorded.filter fun x => modDiff 16 seq x < 1024 }) := by
  simp [Peer.take, hlow, hhigh]

/-- A SEQ that is LAST, or behind it by up to 1,023 (R505). -/
theorem Peer.take_behind {p : Peer} {seq : Nat} (h : modDiff 16 seq p.last = 0 ∨ 64513 ≤ modDiff 16 seq p.last) :
    p.take seq = if seq ∈ p.recorded then (.duplicate, p) else (.act, { p with recorded := seq :: p.recorded }) := by
  have hahead : ¬(1 ≤ modDiff 16 seq p.last ∧ modDiff 16 seq p.last ≤ 1024) := by omega
  simp [Peer.take, hahead, h]

/-- A SEQ out of the window (R505). -/
theorem Peer.take_outside {p : Peer} {seq : Nat} (hlow : 1024 < modDiff 16 seq p.last) (hhigh : modDiff 16 seq p.last < 64513) :
    p.take seq = (.reject, p) := by
  have hahead : ¬(1 ≤ modDiff 16 seq p.last ∧ modDiff 16 seq p.last ≤ 1024) := by omega
  have hbehind : ¬(modDiff 16 seq p.last = 0 ∨ 64513 ≤ modDiff 16 seq p.last) := by omega
  simp [Peer.take, hahead, hbehind]

/-- Settles O60: the three cases of `Peer.take`. -/
theorem sequenceNumbersAreActedOnOnce : Obligations.SequenceNumbersAreActedOnOnce := by
  unfold Obligations.SequenceNumbersAreActedOnOnce
  intro p seq
  refine ⟨fun hact => ?again, fun hlow hhigh => ?ahead, fun h => ?behind, Peer.take_outside⟩
  case again =>
    by_cases hahead : 1 ≤ modDiff 16 seq p.last ∧ modDiff 16 seq p.last ≤ 1024
    · rw [Peer.take_ahead hahead.1 hahead.2, Peer.take_behind (.inl (modDiff_self 16 seq)), if_pos List.mem_cons_self]
    · by_cases hbehind : modDiff 16 seq p.last = 0 ∨ 64513 ≤ modDiff 16 seq p.last
      · rw [Peer.take_behind hbehind] at hact ⊢
        by_cases hrecorded : seq ∈ p.recorded
        · simp [hrecorded] at hact
        · rw [if_neg hrecorded, Peer.take_behind (p := { p with recorded := seq :: p.recorded }) hbehind, if_pos List.mem_cons_self]
      · rw [Peer.take_outside (by omega) (by omega)] at hact
        cases hact
  case ahead => simp [Peer.take_ahead hlow hhigh]
  case behind =>
    rw [Peer.take_behind h]
    split <;> simp

/-- Settles O56: the presets of the table, and its check values worked out. -/
theorem checkValuePresetsAreAsTabled : Obligations.CheckValuePresetsAreAsTabled := by
  unfold Obligations.CheckValuePresetsAreAsTabled
  refine ⟨fun s u => ⟨?_, ?_, ?_, ?_⟩, by decide +kernel⟩ <;>
    · intro hpreset
      rw [State.cvParams, hpreset]
      rfl

end Sys2Proof.Machine

/-! An empty queue: one reference cycle of device time (R514, R589). -/
namespace Sys2Proof.Machine

/-- The objects that change as device time passes (R225, R593). -/
def idleKeys : List OKey := (List.range 8).flatMap fun n => [Obj.REPORT_RATE_HZ.key n 0 512 0, Obj.EVENT_MERGES.key n 0 512 0]

theorem mem_idleKeys {n : Nat} (hn : n ∈ List.range 8) : Obj.REPORT_RATE_HZ.key n 0 512 0 ∈ idleKeys ∧ Obj.EVENT_MERGES.key n 0 512 0 ∈ idleKeys :=
  ⟨List.mem_flatMap.mpr ⟨n, hn, by simp⟩, List.mem_flatMap.mpr ⟨n, hn, by simp⟩⟩

theorem State.stationEvent_idleKeys (s : State) (k : CrossKey) {n : Nat} (hn : n ∈ List.range 8) :
    SameObjectsBut s (s.stationEvent k n) idleKeys := by
  have hcrossed : (s.cross k 0).2.regs = s.regs := (State.cross_frame s k 0 (.refl _) (.refl _ s)).regs (by decide)
  unfold State.stationEvent
  split
  next u hu => exact (SameObjectsBut.of_regs _ (by rw [hu] at hcrossed; exact hcrossed)).trans (.wr _ _ _ _ _ _ _ rfl (mem_idleKeys hn).2)
  next u hu => exact .of_regs _ (by rw [hu] at hcrossed; exact hcrossed)

theorem State.endEvent_idleKeys (s : State) {n : Nat} (hn : n ∈ List.range 8) : SameObjectsBut s (s.endEvent n) idleKeys := by
  have hcrossed : SameObjectsBut s (if (s.dsp n).counting then s.stationEvent (.endEvent n) n else s) idleKeys :=
    .ite (s.stationEvent_idleKeys _ hn) (.refl s _)
  unfold State.endEvent
  generalize (if (s.dsp n).counting then s.stationEvent (.endEvent n) n else s) = u at *
  dsimp only
  split_ifs <;> exact hcrossed

theorem State.takeTable_idleKeys (s : State) {n : Nat} (hn : n ∈ List.range 8) : SameObjectsBut s (s.takeTable n) idleKeys := by
  unfold State.takeTable
  dsimp only
  split
  · refine .ite (.ite ?_ (.of_regs _ rfl)) (.refl s _)
    exact (SameObjectsBut.of_regs _ rfl).trans (State.endEvent_idleKeys _ hn)
  · exact .refl s _

theorem State.reportRate_idleKeys (s : State) {n : Nat} (hn : n ∈ List.range 8) : SameObjectsBut s (s.reportRate n) idleKeys := by
  unfold State.reportRate
  dsimp only
  split
  · exact .refl s _
  · exact (SameObjectsBut.of_regs _ rfl).trans (.wr _ _ _ _ _ _ _ rfl (mem_idleKeys hn).1)

/-- What cores and secure cores keep of the time, before device time itself moves on (R81, R399, R423). -/
def State.timeKept (s : State) : State := (s.each (List.range 8) fun s n => s.accrue n 40).secureTime 40

theorem State.timeKept_frame (s : State) : Frame [.raster, .energy] s s.timeKept :=
  State.secureTime_frame _ 40 (by decide) (.each (fun u n h => State.accrue_frame u n 40 (by decide) h) (.refl _ s))

/-- Device time moves on by one cycle (R514). -/
def State.cyclePassed (s : State) : State := ({ s.timeKept with time := s.timeKept.time + 40 } : State).settleCrossings

theorem idleCycle_of_running {s : State} (hpowered : s.powered = true) (hrunning : Domain.aon ∉ s.rst.inReset) :
    idleCycle s = s.cyclePassed.each (List.range 8) fun s n => (s.takeTable n).reportRate n :=
  if_pos (by simp [hpowered, hrunning])

theorem idleCycle_of_still {s : State} (h : s.powered = false ∨ Domain.aon ∈ s.rst.inReset) : idleCycle s = s :=
  if_neg (by rcases h with h | h <;> simp [h])

theorem idleCycle_idleKeys (s : State) : SameObjectsBut s (idleCycle s) idleKeys := by
  by_cases h : s.powered = true ∧ Domain.aon ∉ s.rst.inReset
  · rw [idleCycle_of_running h.1 h.2]
    have hkept : s.cyclePassed.regs = s.regs := s.timeKept_frame.regs (by decide)
    refine (SameObjectsBut.of_regs _ hkept).trans (.each _ fun u n hn => ?_)
    exact (u.takeTable_idleKeys hn).trans (State.reportRate_idleKeys _ hn)
  · rw [idleCycle_of_still (by rw [not_and_not_right] at h; grind)]
    exact .refl s _

theorem time_idleCycle {s : State} (hpowered : s.powered = true) (hrunning : Domain.aon ∉ s.rst.inReset) :
    (idleCycle s).time = s.time + 40 := by
  have hkept : s.timeKept.time = s.time := s.timeKept_frame .clock (by decide)
  rw [idleCycle_of_running hpowered hrunning]
  refine (State.each_keeps State.time (fun u n => ?_) _ _).trans (congrArg (· + 40) hkept)
  have htable := State.takeTable_frame u n (.refl _) (.refl _ u) .clock (by decide)
  exact (State.reportRate_frame _ n (.refl _) (.refl _ _) .clock (by decide)).trans htable

/-- Settles O41: device time, the frame and the objects of an idle cycle. -/
theorem emptyQueuePassesOneReferenceCycle : Obligations.EmptyQueuePassesOneReferenceCycle := by
  unfold Obligations.EmptyQueuePassesOneReferenceCycle
  intro s hempty
  refine ⟨idleCycle s, by rw [step, hempty], fun h => time_idleCycle h.1 h.2, idleCycle_of_still, ?_, idleCycle_idleKeys s⟩
  exact idleCycle_frame s (.refl _) (.refl _ s)

end Sys2Proof.Machine

/-! Small and large queues: what is read, what is lost, and their items' ages (R607 to R610). -/
namespace Sys2Proof.Machine

/-- An item that no other of a list beats: none has a higher priority, and none of its priority is older (R607). -/
def IsBest {α : Type} (prio : α → Nat) (l : List (Nat × α)) (e : Nat × α) : Prop :=
  e ∈ l ∧ ∀ x ∈ l, prio x.2 < prio e.2 ∨ (prio x.2 = prio e.2 ∧ e.1 ≤ x.1)

/-- An item that a full queue loses before any other: none has a lower priority, and none of its priority is older (R609). -/
def IsWorst {α : Type} (prio : α → Nat) (l : List (Nat × α)) (w : Nat × α) : Prop :=
  w ∈ l ∧ ∀ x ∈ l, prio w.2 < prio x.2 ∨ (prio w.2 = prio x.2 ∧ w.1 ≤ x.1)

section Choice
variable {α : Type} (prio : α → Nat)

theorem IsBest.snoc {l : List (Nat × α)} {b : Nat × α} (h : IsBest prio l b) (x : Nat × α) : IsBest prio (l ++ [x]) (better prio b x) := by
  obtain ⟨hmem, hbest⟩ := h
  have hrest (e : Nat × α) (he : e = b ∨ e = x) (hb : prio b.2 < prio e.2 ∨ (prio b.2 = prio e.2 ∧ e.1 ≤ b.1))
      (hx : prio x.2 < prio e.2 ∨ (prio x.2 = prio e.2 ∧ e.1 ≤ x.1)) : IsBest prio (l ++ [x]) e := by
    refine ⟨by rcases he with rfl | rfl <;> simp [hmem], fun y hy => ?_⟩
    rcases List.mem_append.mp hy with hy | hy
    · have := hbest y hy
      omega
    · rwa [List.mem_singleton.mp hy]
  unfold better
  split_ifs with hhigher hlower holder
  · exact hrest b (.inl rfl) (by omega) (by omega)
  · exact hrest x (.inr rfl) (by omega) (by omega)
  · exact hrest b (.inl rfl) (by omega) (by omega)
  · exact hrest x (.inr rfl) (by omega) (by omega)

theorem isBest_foldl (l : List (Nat × α)) {m : List (Nat × α)} {b : Nat × α} (h : IsBest prio m b) :
    IsBest prio (m ++ l) (l.foldl (better prio) b) := by
  induction l generalizing m b with
  | nil => rwa [List.append_nil]
  | cons x l ih =>
    rw [List.append_cons]
    exact ih (h.snoc prio x)

/-- The item a bank gives is its best (R607). -/
theorem bestOf_isBest {l : List (Nat × α)} (h : l ≠ []) : ∃ e, bestOf prio l = some e ∧ IsBest prio l e := by
  cases l with
  | nil => exact absurd rfl h
  | cons x l => exact ⟨_, rfl, isBest_foldl prio l (m := [x]) ⟨by simp, by simp⟩⟩

theorem IsWorst.snoc {l : List (Nat × α)} {w : Nat × α} (h : IsWorst prio l w) (x : Nat × α) : IsWorst prio (l ++ [x]) (worse prio w x) := by
  obtain ⟨hmem, hworst⟩ := h
  have hrest (e : Nat × α) (he : e = w ∨ e = x) (hw : prio e.2 < prio w.2 ∨ (prio e.2 = prio w.2 ∧ e.1 ≤ w.1))
      (hx : prio e.2 < prio x.2 ∨ (prio e.2 = prio x.2 ∧ e.1 ≤ x.1)) : IsWorst prio (l ++ [x]) e := by
    refine ⟨by rcases he with rfl | rfl <;> simp [hmem], fun y hy => ?_⟩
    rcases List.mem_append.mp hy with hy | hy
    · have := hworst y hy
      omega
    · rwa [List.mem_singleton.mp hy]
  unfold worse
  split_ifs with hlower hhigher holder
  · exact hrest w (.inl rfl) (by omega) (by omega)
  · exact hrest x (.inr rfl) (by omega) (by omega)
  · exact hrest w (.inl rfl) (by omega) (by omega)
  · exact hrest x (.inr rfl) (by omega) (by omega)

theorem isWorst_foldl (l : List (Nat × α)) {m : List (Nat × α)} {w : Nat × α} (h : IsWorst prio m w) :
    IsWorst prio (m ++ l) (l.foldl (worse prio) w) := by
  induction l generalizing m w with
  | nil => rwa [List.append_nil]
  | cons x l ih =>
    rw [List.append_cons]
    exact ih (h.snoc prio x)

/-- The item a list loses first is its worst (R609). -/
theorem worstOf_isWorst {l : List (Nat × α)} (h : l ≠ []) : ∃ w, worstOf prio l = some w ∧ IsWorst prio l w := by
  cases l with
  | nil => exact absurd rfl h
  | cons x l => exact ⟨_, rfl, isWorst_foldl prio l (m := [x]) ⟨by simp, by simp⟩⟩

end Choice

/-- Settles O50: the item of `bestOf`, which a look at it and a read both answer. -/
theorem smallQueuesReadTheBestItem : Obligations.SmallQueuesReadTheBestItem := by
  unfold Obligations.SmallQueuesReadTheBestItem
  intro α prio q
  refine ⟨fun hempty => ?_, fun hdrain => ?_⟩
  · have hdrain : q.drain = [] := (List.append_eq_nil_iff.mp hempty).1
    simp [EvQueue.takeSmall, hdrain, bestOf]
  · obtain ⟨e, he, hmem, hbest⟩ := bestOf_isBest prio hdrain
    exact ⟨e, hmem, by simp [EvQueue.takeSmall, he], by simp [EvQueue.peekSmall, he], hbest⟩

/-- The items of a queue have ages of their own, all below the age that the next one takes (R609). -/
def EvQueue.Aged {α : Type} (q : EvQueue α) : Prop := (q.items.map (·.1)).Nodup ∧ ∀ x ∈ q.items, x.1 < q.nextAge

section Queue
variable {α : Type}

/-- The swap test of a small queue exchanges its banks at most (R608). -/
theorem EvQueue.perm_swapSmall (prio : α → Nat) (q : EvQueue α) : (q.swapSmall prio).items.Perm q.items := by
  unfold EvQueue.swapSmall
  split_ifs
  · exact .refl _
  · exact List.perm_append_comm
  · exact .refl _

theorem EvQueue.nextAge_swapSmall (prio : α → Nat) (q : EvQueue α) : (q.swapSmall prio).nextAge = q.nextAge := by
  unfold EvQueue.swapSmall
  split_ifs <;> rfl

/-- The swap test of a large queue moves its items at most (R610). -/
theorem EvQueue.items_swapLarge (q : EvQueue α) : q.swapLarge.items = q.items := by
  unfold EvQueue.swapLarge
  split
  next h => simp [EvQueue.items, List.isEmpty_iff.mp h]
  next => rfl

theorem EvQueue.nextAge_swapLarge (q : EvQueue α) : q.swapLarge.nextAge = q.nextAge := by
  unfold EvQueue.swapLarge
  split <;> rfl

/-- A queue of the same items in any order, and of the same next age, keeps their ages apart. -/
theorem EvQueue.Aged.of_perm {q r : EvQueue α} (h : q.Aged) (hitems : r.items.Perm q.items) (hnext : r.nextAge = q.nextAge) : r.Aged :=
  ⟨(hitems.map _).nodup_iff.mpr h.1, fun x hx => hnext ▸ h.2 x (hitems.mem_iff.mp hx)⟩

/-- Fewer items keep their ages apart, also where the next age moves on. -/
theorem EvQueue.Aged.of_sublist {q r : EvQueue α} (h : q.Aged) (hitems : r.items.Sublist q.items) (hnext : q.nextAge ≤ r.nextAge) : r.Aged :=
  ⟨(hitems.map _).nodup h.1, fun x hx => (h.2 x (hitems.mem hx)).trans_le hnext⟩

/-- A new item of the next age keeps the ages apart. -/
theorem EvQueue.Aged.append {q r : EvQueue α} (h : q.Aged) (v : α) (hitems : r.items = q.items ++ [(q.nextAge, v)])
    (hnext : r.nextAge = q.nextAge + 1) : r.Aged := by
  refine ⟨?_, fun x hx => ?_⟩
  · rw [hitems, List.map_append, List.nodup_append]
    refine ⟨h.1, by simp, fun a ha b hb => ?_⟩
    obtain ⟨x, hx, rfl⟩ := List.mem_map.mp ha
    have := h.2 x hx
    simp only [List.map_cons, List.map_nil, List.mem_singleton] at hb
    omega
  · rw [hnext]
    rw [hitems] at hx
    rcases List.mem_append.mp hx with hx | hx
    · exact (h.2 x hx).trans (Nat.lt_succ_self _)
    · rw [List.mem_singleton.mp hx]
      exact Nat.lt_succ_self _

theorem EvQueue.Aged.swapSmall {q : EvQueue α} (h : q.Aged) (prio : α → Nat) : (q.swapSmall prio).Aged :=
  h.of_perm (q.perm_swapSmall prio) (q.nextAge_swapSmall prio)

theorem EvQueue.Aged.swapLarge {q : EvQueue α} (h : q.Aged) : q.swapLarge.Aged :=
  h.of_perm (q.items_swapLarge ▸ .refl _) q.nextAge_swapLarge

/-- A queue with one item more, at its end (R609). -/
def EvQueue.arrived (q : EvQueue α) (v : α) : EvQueue α := { q with fill := q.fill ++ [(q.nextAge, v)], nextAge := q.nextAge + 1 }

theorem EvQueue.items_arrived (q : EvQueue α) (v : α) : (q.arrived v).items = q.items ++ [(q.nextAge, v)] := by
  simp [EvQueue.arrived, EvQueue.items]

theorem EvQueue.Aged.arrived {q : EvQueue α} (h : q.Aged) (v : α) : (q.arrived v).Aged := h.append v (q.items_arrived v) rfl

/-- A queue without the item of an age, with a new one at its end (R609). -/
def EvQueue.replaced (q : EvQueue α) (a : Nat) (v : α) : EvQueue α :=
  { drain := dropAge a q.drain, fill := dropAge a q.fill ++ [(q.nextAge, v)], nextAge := q.nextAge + 1 }

theorem EvQueue.items_replaced (q : EvQueue α) (a : Nat) (v : α) : (q.replaced a v).items = dropAge a q.items ++ [(q.nextAge, v)] := by
  simp [EvQueue.replaced, EvQueue.items, dropAge]

theorem EvQueue.Aged.replaced {q : EvQueue α} (h : q.Aged) (a : Nat) (v : α) : (q.replaced a v).Aged := by
  have hkept : ({ drain := dropAge a q.drain, fill := dropAge a q.fill, nextAge := q.nextAge } : EvQueue α).Aged :=
    h.of_sublist (List.Sublist.append List.filter_sublist List.filter_sublist) le_rfl
  exact hkept.append v (by simp [EvQueue.replaced, EvQueue.items]) rfl

/-- Arrival where a small queue has room (R609). -/
theorem EvQueue.putSmall_of_room (prio : α → Nat) {cap : Nat} {q : EvQueue α} (h : q.size < cap) (v : α) :
    q.putSmall prio cap v = ((q.arrived v).swapSmall prio, false) := if_pos h

/-- Arrival at a full small queue: what is lost is the new item, or one of the stored ones that the new one replaces (R609). -/
theorem EvQueue.putSmall_of_full (prio : α → Nat) {cap : Nat} {q : EvQueue α} (h : cap ≤ q.size) (v : α) :
    ∃ w, IsWorst prio (q.items ++ [(q.nextAge, v)]) w ∧ q.putSmall prio cap v =
      ((if w.1 = q.nextAge then { q with nextAge := q.nextAge + 1 } else q.replaced w.1 v).swapSmall prio, true) := by
  obtain ⟨w, hw, hworst⟩ := worstOf_isWorst prio (l := q.items ++ [(q.nextAge, v)]) (by simp)
  refine ⟨w, hworst, ?_⟩
  simp only [EvQueue.putSmall, if_neg (Nat.not_lt.mpr h), hw]
  split_ifs <;> rfl

theorem EvQueue.Aged.putSmall {q : EvQueue α} (h : q.Aged) (prio : α → Nat) (cap : Nat) (v : α) : (q.putSmall prio cap v).1.Aged := by
  by_cases hroom : q.size < cap
  · rw [EvQueue.putSmall_of_room prio hroom]
    exact (h.arrived v).swapSmall prio
  · obtain ⟨w, -, hput⟩ := EvQueue.putSmall_of_full prio (Nat.not_lt.mp hroom) v
    rw [hput]
    refine EvQueue.Aged.swapSmall ?_ prio
    split_ifs
    · exact h.of_sublist (.refl _) (Nat.le_succ _)
    · exact h.replaced w.1 v

theorem EvQueue.Aged.takeSmall {q : EvQueue α} (h : q.Aged) (prio : α → Nat) : (q.takeSmall prio).2.Aged := by
  unfold EvQueue.takeSmall
  split
  · exact h
  next w hw =>
    have hkept : ({ q with drain := dropAge w.1 q.drain } : EvQueue α).Aged :=
      h.of_sublist (List.Sublist.append List.filter_sublist (.refl _)) le_rfl
    exact hkept.swapSmall prio

theorem EvQueue.Aged.putLarge {q : EvQueue α} (h : q.Aged) (cap : Nat) (v : α) : (q.putLarge cap v).1.Aged := by
  unfold EvQueue.putLarge
  dsimp only
  split
  · exact (h.arrived v).swapLarge
  · refine EvQueue.Aged.swapLarge ?_
    split
    next x d hdrain =>
      have hkept : ({ q with drain := d } : EvQueue α).Aged :=
        h.of_sublist (by simp [EvQueue.items, hdrain]) le_rfl
      exact hkept.arrived v
    next x f hdrain hfill =>
      have hkept : ({ q with fill := f } : EvQueue α).Aged := h.of_sublist (by simp [EvQueue.items, hfill]) le_rfl
      exact hkept.arrived v
    next => exact h.of_sublist (.refl _) (Nat.le_succ _)

theorem EvQueue.Aged.takeLarge {q : EvQueue α} (h : q.Aged) : q.takeLarge.2.Aged := by
  unfold EvQueue.takeLarge
  split
  · exact h
  next x d hdrain => exact EvQueue.Aged.swapLarge (h.of_sublist (by simp [EvQueue.items, hdrain]) le_rfl)

end Queue

/-- Settles O52: each arrival and each read keeps the ages apart. -/
theorem queueAgesStayApart : Obligations.QueueAgesStayApart := by
  unfold Obligations.QueueAgesStayApart
  intro α prio cap q v
  refine ⟨rfl, fun hnodup hbelow r hr => ?_⟩
  have haged : q.Aged := ⟨hnodup, hbelow⟩
  simp only [List.mem_cons, List.not_mem_nil, or_false] at hr
  obtain rfl | rfl | rfl | rfl := hr
  · exact haged.putSmall prio cap v
  · exact haged.takeSmall prio
  · exact haged.putLarge cap v
  · exact haged.takeLarge

/-- An age names one item of a list whose ages differ. -/
theorem eq_of_age_eq {α : Type} {l : List (Nat × α)} (h : (l.map (·.1)).Nodup) {x y : Nat × α} (hx : x ∈ l) (hy : y ∈ l) (hage : x.1 = y.1) :
    x = y := List.inj_on_of_nodup_map h hx hy hage

/-- Settles O51: what a full queue loses is the worst of the stored items and the new one (`EvQueue.putSmall_of_full`). -/
theorem fullSmallQueuesLoseTheWorstItem : Obligations.FullSmallQueuesLoseTheWorstItem := by
  unfold Obligations.FullSmallQueuesLoseTheWorstItem
  intro α prio cap q v hnodup hbelow
  have haged : q.Aged := ⟨hnodup, hbelow⟩
  have harrived : ((q.items ++ [(q.nextAge, v)]).map (·.1)).Nodup := q.items_arrived v ▸ (haged.arrived v).1
  refine ⟨fun hroom => ?room, fun hfull => ?full⟩
  case room =>
    rw [EvQueue.putSmall_of_room prio hroom]
    refine ⟨rfl, fun x => ?_⟩
    rw [(EvQueue.perm_swapSmall prio _).mem_iff, EvQueue.items_arrived, List.mem_append, List.mem_singleton]
  case full =>
    obtain ⟨w, ⟨hmem, hworst⟩, hput⟩ := EvQueue.putSmall_of_full prio hfull v
    have hkept : ∀ x ∈ q.items, x ≠ (q.nextAge, v) := fun x hx he => absurd (hbelow x hx) (by rw [he]; exact Nat.lt_irrefl _)
    refine ⟨by rw [hput], w, by simpa using hmem, fun x hx => hworst x (by simpa using hx), fun x => ?_⟩
    rw [hput]
    dsimp only
    rw [(EvQueue.perm_swapSmall prio _).mem_iff]
    split_ifs with hnew
    · have hw : w = (q.nextAge, v) := eq_of_age_eq harrived hmem (by simp) hnew
      rw [hw]
      exact ⟨fun hx => ⟨.inl hx, hkept x hx⟩, fun hx => hx.1.resolve_right hx.2⟩
    · have hother : (x ∈ q.items ∨ x = (q.nextAge, v)) → (x ≠ w ↔ x.1 ≠ w.1) := fun hx =>
        not_congr ⟨fun he => by rw [he], eq_of_age_eq harrived (by simpa using hx) hmem⟩
      rw [EvQueue.items_replaced, List.mem_append, List.mem_singleton, dropAge, List.mem_filter, decide_eq_true_eq]
      have hlast : x = (q.nextAge, v) → x.1 ≠ w.1 := fun he => by rw [he]; exact Ne.symm hnew
      tauto

end Sys2Proof.Machine

/-! The layout of a record (R614). -/
namespace Sys2Proof.Machine

/-- Fields packed from bit `pos` downward, field by field (R614). -/
def packFrom (pos : Nat) : List (Nat × Nat) → Nat
  | [] => 0
  | f :: l => f.1 % 2 ^ f.2 * 2 ^ (pos - f.2) + packFrom (pos - f.2) l

theorem foldl_pack (l : List (Nat × Nat)) (acc pos : Nat) :
    (l.foldl (fun (acc : Nat × Nat) f => (acc.1 + (f.1 % 2 ^ f.2) * 2 ^ (acc.2 - f.2), acc.2 - f.2)) (acc, pos)).1 = acc + packFrom pos l := by
  induction l generalizing acc pos with
  | nil => rfl
  | cons f l ih => rw [List.foldl_cons, ih, packFrom, Nat.add_assoc]

theorem packFields_eq (l : List (Nat × Nat)) : packFields l = packFrom 160 l := (foldl_pack l 0 160).trans (Nat.zero_add _)

/-- Fields packed from a higher bit are the same number, moved up. -/
theorem packFrom_add {l : List (Nat × Nat)} {pos : Nat} (h : (l.map (·.2)).sum ≤ pos) (k : Nat) :
    packFrom (pos + k) l = packFrom pos l * 2 ^ k := by
  induction l generalizing pos with
  | nil => simp [packFrom]
  | cons f l ih =>
    rw [List.map_cons, List.sum_cons] at h
    rw [packFrom, packFrom, show pos + k - f.2 = pos - f.2 + k by omega, ih (by omega), Nat.pow_add, Nat.add_mul, Nat.mul_assoc]

theorem packFrom_lt {l : List (Nat × Nat)} {pos : Nat} (h : (l.map (·.2)).sum ≤ pos) : packFrom pos l < 2 ^ pos := by
  induction l generalizing pos with
  | nil => exact Nat.two_pow_pos pos
  | cons f l ih =>
    rw [List.map_cons, List.sum_cons] at h
    have hfield : f.1 % 2 ^ f.2 < 2 ^ f.2 := Nat.mod_lt _ (Nat.two_pow_pos _)
    calc packFrom pos (f :: l)
      _ < f.1 % 2 ^ f.2 * 2 ^ (pos - f.2) + 2 ^ (pos - f.2) := Nat.add_lt_add_left (ih (by omega)) _
      _ = (f.1 % 2 ^ f.2 + 1) * 2 ^ (pos - f.2) := by ring
      _ ≤ 2 ^ f.2 * 2 ^ (pos - f.2) := Nat.mul_le_mul_right _ hfield
      _ = 2 ^ pos := by rw [← Nat.pow_add, Nat.add_sub_cancel' (by omega)]

/-- The first field stands at the top of the payload, the others behind it. -/
theorem packFields_cons {f : Nat × Nat} {l : List (Nat × Nat)} (h : ((f :: l).map (·.2)).sum ≤ 160) :
    packFields (f :: l) = f.1 % 2 ^ f.2 * 2 ^ (160 - f.2) + packFields l / 2 ^ f.2 ∧ packFields l % 2 ^ f.2 = 0 := by
  rw [List.map_cons, List.sum_cons] at h
  have hmoved : packFields l = packFrom (160 - f.2) l * 2 ^ f.2 := by
    rw [packFields_eq, ← packFrom_add (by omega), Nat.sub_add_cancel (by omega)]
  rw [hmoved, Nat.mul_div_cancel _ (Nat.two_pow_pos _), Nat.mul_mod_left, packFields_eq, packFrom]
  exact ⟨rfl, rfl⟩

/-- The fields of a record's number, and its range (R614). -/
theorem Rec.bits_number {r : Rec} (h : (r.fields.map (·.2)).sum ≤ 160) : r.number < 2 ^ 256 ∧
    bits 255 192 r.number = r.time % 2 ^ 64 ∧ bits 191 176 r.number = r.code % 2 ^ 16 ∧ bits 175 174 r.number = r.prio % 4 ∧
    bits 173 170 r.number = r.station % 16 ∧ bits 169 161 r.number = r.tenant % 512 ∧ bits 160 160 r.number = 0 ∧
    bits 159 0 r.number = packFields r.fields := by
  have hpayload : packFields r.fields < 2 ^ 160 := packFields_eq r.fields ▸ packFrom_lt h
  simp only [bits, Rec.number]
  omega

/-- Settles O57: the bits of the record's number, and the fields of its payload one by one (`packFields_cons`). -/
theorem recordsAreLaidOutAsTabled : Obligations.RecordsAreLaidOutAsTabled := by
  unfold Obligations.RecordsAreLaidOutAsTabled
  intro r hfields
  obtain ⟨hnumber, htime, hcode, hprio, hstation, htenant, hzero, hpayload⟩ := Rec.bits_number hfields
  refine ⟨htime, hcode, hprio, hstation, htenant, hzero, hpayload, rfl, fun f l hl => packFields_cons (hl ▸ hfields), ?_, ?_⟩
  · exact toLE_length 32 r.number
  · exact (ofLE_toLE 32 r.number).trans (Nat.mod_eq_of_lt hnumber)

end Sys2Proof.Machine

/-! The fields of frames, and what reads them back (R502 to R504). -/
namespace Sys2Proof.Machine

/-- The number at the front of a frame is the one written there. -/
theorem fieldBE_toBE_append (k v : Nat) (rest : Bytes) : fieldBE (toBE k v ++ rest) 0 k = v % 256 ^ k := by
  rw [fieldBE, slice_zero_append _ _ (toBE_length k v), ofBE_toBE]

/-- A field further behind is a field of what follows the first number. -/
theorem fieldBE_append_of_le (k v : Nat) (rest : Bytes) {o m : Nat} (h : k ≤ o) :
    fieldBE (toBE k v ++ rest) o m = fieldBE rest (o - k) m := by
  rw [fieldBE, slice_append_right _ _ (by rwa [toBE_length]), toBE_length, fieldBE]

theorem byteAt_toBE_append (v : Nat) (rest : Bytes) : byteAt (toBE 1 v ++ rest) 0 = v % 256 := by
  simp [byteAt, toBE, toLE]

theorem byteAt_append_of_le (k v : Nat) (rest : Bytes) {o : Nat} (h : k ≤ o) :
    byteAt (toBE k v ++ rest) o = byteAt rest (o - k) := by
  rw [byteAt, List.getD_append_right _ _ _ _ (by rwa [toBE_length]), toBE_length, byteAt]

/-- A flag that a field shows at its bit. -/
def flagAt (k : Nat) (b : Bool) : Nat := if b then 2 ^ k else 0

/-- The flags of a frame's header, as one number (R503). -/
def Header.flags (h : Header) : Nat := flagAt 7 h.response + flagAt 6 h.qual + flagAt 5 h.relayed + flagAt 4 h.tagged

theorem Header.bits_flags (h : Header) : h.flags < 256 ∧ bit 7 h.flags = h.response ∧ bit 6 h.flags = h.qual ∧
    bit 5 h.flags = h.relayed ∧ bit 4 h.flags = h.tagged := by
  unfold Header.flags
  rcases h.response <;> rcases h.qual <;> rcases h.relayed <;> rcases h.tagged <;> decide

theorem Header.encode_eq (h : Header) (rest : Bytes) : h.encode ++ rest = toBE 1 (h.version * 16 + h.typ) ++ (toBE 1 h.flags ++ (toBE 2 h.seq ++
    (toBE 4 h.dest ++ (toBE 4 h.src ++ (toBE 2 h.tenant ++ (toBE 2 h.length ++ (toBE 4 h.session ++ (toBE 1 h.hops ++
      (toBE 1 h.status ++ ([0, 0] ++ rest)))))))))) := by
  simp only [Header.encode, Header.flags, flagAt, List.append_assoc]

theorem Header.length_encode (h : Header) : h.encode.length = 24 := by simp [Header.encode]

/-- A header's fields fit their places in the frame (R503). -/
structure Header.Fits (h : Header) : Prop where
  version : h.version < 16
  typ : h.typ < 16
  seq : h.seq < 2 ^ 16
  dest : h.dest < 2 ^ 32
  src : h.src < 2 ^ 32
  tenant : h.tenant < 512
  length : h.length < 2 ^ 16
  session : h.session < 2 ^ 32
  hops : h.hops < 256
  status : h.status < 256

/-- A header read from the front of a frame is the header that was written (R503). -/
theorem parseHeader_encode {h : Header} (hfits : h.Fits) (rest : Bytes) : parseHeader (h.encode ++ rest) = h := by
  obtain ⟨hversion, htyp, hseq, hdest, hsrc, htenant, hlength, hsession, hhops, hstatus⟩ := hfits
  obtain ⟨hflags, hresponse, hqual, hrelayed, htagged⟩ := h.bits_flags
  have hfirst : (h.version * 16 + h.typ) % 256 = h.version * 16 + h.typ := Nat.mod_eq_of_lt (by omega)
  rw [Header.encode_eq, parseHeader]
  simp (disch := omega) only [byteAt_toBE_append, byteAt_append_of_le, fieldBE_toBE_append, fieldBE_append_of_le, Nat.reduceSub,
    Nat.sub_self, hfirst, Nat.mod_eq_of_lt, hresponse, hqual, hrelayed, htagged]
  congr 1 <;> omega

theorem frameBody_encode {h : Header} (hfits : h.Fits) {rest : Bytes} (hlength : rest.length = h.length) :
    frameBody (h.encode ++ rest) = rest := by
  rw [frameBody, parseHeader_encode hfits, slice_append_right _ _ (by rw [h.length_encode]), h.length_encode, slice, List.drop_zero,
    ← hlength, List.take_length]

theorem frameOk_encode {h : Header} (hfits : h.Fits) {rest : Bytes} (hversion : h.version = 1) (htagged : h.tagged = false)
    (hlength : rest.length = h.length) (hshort : h.length ≤ 1416) : frameOk (h.encode ++ rest) = true := by
  simp [frameOk, parseHeader_encode hfits, h.length_encode, hversion, htagged, hlength]
  omega


/-- The flags and the tenant of a short-form frame, as one number (R502). -/
def ShortFrame.qualifier (f : ShortFrame) : Nat := flagAt 15 f.response + flagAt 14 f.qual + f.tenant

theorem ShortFrame.bits_qualifier {f : ShortFrame} (htenant : f.tenant < 512) : f.qualifier < 2 ^ 16 ∧
    bit 15 f.qualifier = f.response ∧ bit 14 f.qualifier = f.qual ∧ bits 8 0 f.qualifier = f.tenant := by
  have hbit (k v : Nat) : bit k v = decide (v / 2 ^ k % 2 = 1) := Nat.testBit_eq_decide_div_mod_eq
  simp only [ShortFrame.qualifier, flagAt, hbit, bits]
  refine ⟨?_, ?_, ?_, ?_⟩ <;> cases f.response <;> cases f.qual <;> simp <;> omega

/-- A short-form frame's fields fit their places (R502). -/
structure ShortFrame.Fits (f : ShortFrame) : Prop where
  priority : f.priority < 8
  typ : f.typ < 8
  dest : f.dest < 64
  src : f.src < 64
  seq : f.seq < 2 ^ 16
  tenant : f.tenant < 512
  addr : f.addr < 2 ^ 28
  payload : f.payload.length = 56

theorem ShortFrame.bytes_eq {f : ShortFrame} (hfits : f.Fits) :
    f.bytes = toBE 2 f.seq ++ (toBE 2 f.qualifier ++ (toBE 4 f.addr ++ f.payload)) := by
  rw [ShortFrame.bytes, padTo_of_length hfits.payload, Nat.mod_eq_of_lt hfits.tenant, Nat.mod_eq_of_lt hfits.addr, List.append_assoc,
    List.append_assoc]
  rfl

/-- The fields of an identifier of the short form (R502). -/
theorem ShortFrame.bits_id {f : ShortFrame} (hfits : f.Fits) : bits 28 26 f.id = f.priority ∧ bits 25 23 f.id = f.typ ∧
    bits 22 17 f.id = f.dest ∧ bits 16 11 f.id = f.src := by
  obtain ⟨hpriority, htyp, hdest, hsrc, -⟩ := hfits
  simp only [bits, ShortFrame.id]
  omega

/-- A short-form frame read from its identifier and its data field is the frame that was written (R502). -/
theorem parseShort_bytes {f : ShortFrame} (hfits : f.Fits) : parseShort f.id f.bytes = f := by
  obtain ⟨hpriority, htyp, hdest, hsrc⟩ := f.bits_id hfits
  obtain ⟨hwidth, hresponse, hqual, htenant⟩ := f.bits_qualifier hfits.tenant
  have hseq := hfits.seq
  have haddr := hfits.addr
  have hpayload : slice f.bytes 8 56 = f.payload := by
    rw [f.bytes_eq hfits]
    simp only [slice, toBE, toLE, List.reverse_cons, List.reverse_nil, List.nil_append, List.cons_append, List.drop_succ_cons, List.drop_zero,
      ← hfits.payload, List.take_length]
  rw [parseShort, hpayload, f.bytes_eq hfits]
  simp (disch := omega) only [fieldBE_toBE_append, fieldBE_append_of_le, Nat.reduceSub, Nat.sub_self, Nat.mod_eq_of_lt, hpriority, htyp,
    hdest, hsrc, hresponse, hqual, htenant]

/-- The fields of an entry fit their places (R504). -/
structure Entry.Fits (e : Entry) : Prop where
  area : e.area < 16
  idx : e.idx < 2 ^ 16
  sub : e.sub < 256
  view : e.view < 4
  revision : e.revision < 2 ^ 16
  offset : e.offset < 2 ^ 32
  len : e.len < 2 ^ 16
  data : e.data.length = e.len

/-- The view and the flags of an entry, as one number (R504). -/
def Entry.control (e : Entry) : Nat := e.view * 16384 + flagAt 13 e.segmented + flagAt 12 e.last + flagAt 11 e.revCheck

theorem Entry.bits_control {e : Entry} (hview : e.view < 4) : e.control < 2 ^ 16 ∧ bits 15 14 e.control = e.view ∧
    bit 13 e.control = e.segmented ∧ bit 12 e.control = e.last ∧ bit 11 e.control = e.revCheck := by
  unfold Entry.control
  generalize e.view = v at *
  interval_cases v <;> rcases e.segmented <;> rcases e.last <;> rcases e.revCheck <;> decide

theorem Entry.bits_address {e : Entry} (hfits : e.Fits) : addressOf e.area e.idx e.sub < 2 ^ 32 ∧
    bits 27 24 (addressOf e.area e.idx e.sub) = e.area ∧ bits 23 8 (addressOf e.area e.idx e.sub) = e.idx ∧
    bits 7 0 (addressOf e.area e.idx e.sub) = e.sub := by
  obtain ⟨harea, hidx, hsub, -⟩ := hfits
  simp only [bits, addressOf]
  omega

theorem Entry.encode_eq (e : Entry) : e.encode = toBE 4 (addressOf e.area e.idx e.sub) ++ (toBE 2 e.control ++ (toBE 2 e.revision ++
    (toBE 4 e.offset ++ (toBE 2 e.len ++ e.data)))) := by
  simp only [Entry.encode, Entry.control, flagAt, List.append_assoc]

theorem Entry.length_encode (e : Entry) : e.encode.length = 14 + e.data.length := by simp [Entry.encode]; omega

theorem Entry.drop_encode (e : Entry) : e.encode.drop 14 = e.data := by
  simp only [Entry.encode_eq, toBE, toLE, List.reverse_cons, List.reverse_nil, List.nil_append, List.cons_append, List.drop_succ_cons,
    List.drop_zero]

/-- The entry that the front of a body gives, with its data (R504). -/
def Entry.atFront (b data : Bytes) : Entry where
  area := bits 27 24 (fieldBE b 0 4)
  idx := bits 23 8 (fieldBE b 0 4)
  sub := bits 7 0 (fieldBE b 0 4)
  view := bits 15 14 (fieldBE b 4 2)
  segmented := bit 13 (fieldBE b 4 2)
  last := bit 12 (fieldBE b 4 2)
  revCheck := bit 11 (fieldBE b 4 2)
  revision := fieldBE b 6 2
  offset := fieldBE b 8 4
  len := fieldBE b 12 2
  data := data

/-- A body that ends with its first WRITE entry is that entry (R504). -/
theorem parseEntries_single {b data : Bytes} (hdata : slice b 14 (fieldBE b 12 2) = data) (hlen : data.length = fieldBE b 12 2)
    (hwhole : b.length = 14 + data.length) : parseEntries false 1 b = some [Entry.atFront b data] := by
  cases b with
  | nil => simp at hwhole; omega
  | cons x b =>
    have hend : (x :: b).drop (14 + data.length) = [] := by rw [← hwhole, List.drop_length]
    simp only [parseEntries, Bool.false_eq_true, if_false, hdata, hend]
    rw [if_neg (by simp [hwhole, hlen])]
    rfl

/-- A WRITE entry read from its bytes is the entry that was written (R504). -/
theorem parseEntries_encode {e : Entry} (hfits : e.Fits) : parseEntries false 1 e.encode = some [e] := by
  obtain ⟨haddress, harea, hidx, hsub⟩ := e.bits_address hfits
  obtain ⟨hcontrol, hview, hsegmented, hlast, hrevCheck⟩ := e.bits_control hfits.view
  have hrevision := hfits.revision
  have hoffset := hfits.offset
  have hlen := hfits.len
  have hfield : fieldBE e.encode 0 4 = addressOf e.area e.idx e.sub ∧ fieldBE e.encode 4 2 = e.control ∧ fieldBE e.encode 6 2 = e.revision ∧
      fieldBE e.encode 8 4 = e.offset ∧ fieldBE e.encode 12 2 = e.len := by
    rw [e.encode_eq]
    simp (disch := omega) only [fieldBE_toBE_append, fieldBE_append_of_le, Nat.reduceSub, Nat.sub_self, Nat.mod_eq_of_lt, and_self]
  obtain ⟨hfirst, hsecond, hthird, hfourth, hlength⟩ := hfield
  have hdata : slice e.encode 14 (fieldBE e.encode 12 2) = e.data := by rw [hlength, slice, e.drop_encode, ← hfits.data, List.take_length]
  rw [parseEntries_single hdata (by rw [hlength, hfits.data]) e.length_encode, Entry.atFront, hfirst, hsecond, hthird, hfourth, hlength, harea,
    hidx, hsub, hview, hsegmented, hlast, hrevCheck]

/-- Settles O58: each form is read back field by field (`parseShort_bytes`, `parseHeader_encode`, `parseEntries_encode`). -/
theorem framesSurviveTheirWire : Obligations.FramesSurviveTheirWire := by
  unfold Obligations.FramesSurviveTheirWire
  refine ⟨?short, ?long, ?entry⟩
  case short =>
    intro f hpriority htyp hdest hsrc hseq htenant haddr hpayload
    have hfits : f.Fits := ⟨hpriority, htyp, hdest, hsrc, hseq, htenant, haddr, hpayload⟩
    exact ⟨parseShort_bytes hfits, by simp [f.bytes_eq hfits, hpayload]⟩
  case long =>
    intro h rest hversion htyp hseq hdest hsrc htenant hlength hsession hhops hstatus
    have hfits : h.Fits := ⟨hversion, htyp, hseq, hdest, hsrc, htenant, hlength, hsession, hhops, hstatus⟩
    refine ⟨parseHeader_encode hfits rest, h.length_encode, fun hone htagged hrest hshort => ?_⟩
    exact ⟨frameOk_encode hfits hone htagged hrest hshort, frameBody_encode hfits hrest⟩
  case entry =>
    intro e harea hidx hsub hview hrevision hoffset hlen hdata
    exact parseEntries_encode ⟨harea, hidx, hsub, hview, hrevision, hoffset, hlen, hdata⟩

end Sys2Proof.Machine

/-! The switch, its ports and its links (R498 to R500, R584). -/
namespace Sys2Proof.Machine

/-- A count of an object that is not saved leaves an object of another key. -/
theorem State.rd_count_apart (s : State) {r q : ObjRow} {n i t j k n' i' t' j' : Nat} (hr : r.saved = false)
    (hk : q.key n' i' t' j' ≠ r.key n i t j) : (s.count r n i t j k).rd q n' i' t' j' = s.rd q n' i' t' j' := State.rd_wr_apart _ _ hr hk

/-- A counter just raised reads what it was raised to. -/
theorem State.rd_count_self (s : State) {r : ObjRow} (n i t j k : Nat) (hr : r.saved = false) :
    (s.count r n i t j k).rd r n i t j = (satInc r.width (s.rdN r n i t j) k : Nat) := State.rd_wr_self _ _ _ _ _ _ _ (.inl hr)

/-- Objects that read alike read alike as numbers. -/
theorem State.rdN_of_rd {s t : State} {r : ObjRow} {n i q j : Nat} (h : t.rd r n i q j = s.rd r n i q j) : t.rdN r n i q j = s.rdN r n i q j :=
  congrArg Int.toNat h

@[simp] theorem State.rd_setNet (s : State) (v : Net) (r : ObjRow) (n i t j : Nat) : (s.setNet v).rd r n i t j = s.rd r n i t j := rfl

theorem State.regs_learn (s : State) (mac port : Nat) : (s.learn mac port).regs = s.regs := by
  unfold State.learn
  dsimp only
  split_ifs <;> rfl

theorem State.gates_learn (s : State) (mac port : Nat) : (s.learn mac port).net.gates = s.net.gates := by
  unfold State.learn
  dsimp only
  split_ifs <;> rfl

/-- A sound frame counted at its port, and its source learnt (R498, R500). -/
def State.frameReceived (s : State) (port : Nat) (frame : Bytes) : State := (s.count Obj.RX_FRAMES 0 port).learn (parseEth frame).src port

/-- Every other object of the device reads as before the frame was counted. -/
theorem State.rdN_frameReceived (s : State) (port : Nat) (frame : Bytes) {r : ObjRow} (hr : r.sub = 2 ∨ r.idx = 0x2000 ∧ r.cnt = 1) (i : Nat)
    (hport : port < 2) (hi : i < 2) : (s.frameReceived port frame).rdN r 0 i = s.rdN r 0 i := by
  refine State.rdN_of_rd ((State.rd_of_regs (State.regs_learn ..) ..).trans (State.rd_count_apart s rfl fun hkey => ?_))
  simp only [ObjRow.key, Obj.RX_FRAMES, OKey.mk.injEq] at hkey
  omega

theorem State.gatesOf_frameReceived (s : State) (port : Nat) (frame : Bytes) (p : Nat) :
    (s.frameReceived port frame).gatesOf p = s.gatesOf p := by
  have hcounted : (s.count Obj.RX_FRAMES 0 port).net.gates = s.net.gates := by rw [State.count, State.net_wr]
  rw [State.gatesOf, State.gatesOf, State.frameReceived, State.gates_learn, hcounted]

/-- What the internal port receives does not turn on the count (R499). -/
theorem State.admitted_frameReceived (s : State) {port : Nat} (hport : port < 2) (frame : Bytes) (leased : Nat) (f : EthFrame) :
    (s.frameReceived port frame).admitted leased f = s.admitted leased f := by
  have hread {r : ObjRow} (hr : r.idx = 0x2000 ∧ r.cnt = 1) : (s.frameReceived port frame).rdN r = s.rdN r :=
    s.rdN_frameReceived port frame (.inr hr) 0 hport Nat.two_pos
  have hip : (s.frameReceived port frame).deviceIp leased = s.deviceIp leased := by rw [State.deviceIp, State.deviceIp, hread (by decide)]
  simp only [State.admitted, hip, hread (show Obj.BDA_ETHERTYPE.idx = 0x2000 ∧ _ by decide),
    hread (show Obj.BDA_UDP_PORT.idx = 0x2000 ∧ _ by decide)]

/-- The switch takes a frame at a port: it serves, its clock runs and the link is up (R498, R587). -/
def State.switchOpen (s : State) (port : Nat) : Prop := s.isHwReady 8 = true ∧ s.hwGated 2 = false ∧ s.rdN Obj.ETH_LINK 0 port ≠ 0

/-- A frame that the internal port admits goes there too (R499). -/
def State.toInternal (s : State) (port leased : Nat) (frame : Bytes) : State :=
  if s.admitted leased (parseEth frame) then s.toEgress port internalPort (parseEth frame).pcp frame else s

/-- Where the switch holds an entry for a frame's destination (R498). -/
def State.destination (s : State) (frame : Bytes) : Option MacEntry :=
  if isGroup (parseEth frame).dst then none else s.net.macs.find? fun m => m.mac = (parseEth frame).dst

theorem exec_switchFrame_damaged {s : State} {port : Fin 2} {frame : Bytes} {bad : Bool} (leased : Nat) (hopen : s.switchOpen port)
    (hdamaged : bad = true ∨ 1522 < frame.length ∨ frame.length < 18) :
    exec (.switchFrame port frame bad leased) s = .next (s.count Obj.RX_ERRORS 0 port) := by
  obtain ⟨hready, hclock, hlink⟩ := hopen
  refine congrArg Host.Outcome.next ((if_neg (by simp [hready, hclock, hlink])).trans (if_pos ?_))
  simpa [or_assoc] using hdamaged

/-- A sound frame is received, and goes where its type and its destination say (R498, R499). -/
theorem exec_switchFrame_sound {s : State} {port : Fin 2} {frame : Bytes} (leased : Nat) (hopen : s.switchOpen port)
    (hlow : 18 ≤ frame.length) (hhigh : frame.length ≤ 1522) : exec (.switchFrame port frame false leased) s = .next (
      let u := s.frameReceived port frame
      let internal (v : State) : State := if u.admitted leased (parseEth frame) then v.toEgress port internalPort (parseEth frame).pcp frame else v
      if (parseEth frame).etype = 0x88F7 then internal u
      else match u.destination frame with
        | some m => if m.port = port.val then u else if m.port = internalPort then internal u else u.toEgress port m.port (parseEth frame).pcp frame
        | none => internal (u.toEgress port (1 - port.val) (parseEth frame).pcp frame)) := by
  obtain ⟨hready, hclock, hlink⟩ := hopen
  exact congrArg Host.Outcome.next ((if_neg (by simp [hready, hclock, hlink])).trans (if_neg (by simp; omega)))

/-- A frame leaves at an external port whose link is up and whose gate is open (R498, R500). -/
theorem State.toEgress_of_open {s : State} {port cls : Nat} (hport : port < 2) (hlink : s.rdN Obj.ETH_LINK 0 port ≠ 0)
    (hgate : bit cls (s.gatesOf port) = true) (from_ : Nat) (data : Bytes) :
    s.toEgress from_ port cls data = (s.emit (.ethFrame port data)).count Obj.TX_FRAMES 0 port := by
  have hexternal : port ≠ internalPort := by rw [internalPort]; omega
  rw [State.toEgress, if_neg (by simp [hlink]), if_pos hgate, State.egress, if_neg hexternal]

/-- A port's link that goes down takes its addresses and its frames along (R498). -/
theorem State.linkDown_takes (s : State) (port : Nat) : (s.linkDown port).rd Obj.ETH_LINK 0 port = 0 ∧
    (∀ m ∈ (s.linkDown port).net.macs, m.port ≠ port) ∧ ∀ e ∈ (s.linkDown port).net.egress, e.port ≠ port := by
  refine ⟨State.rd_wr_self _ _ _ _ _ _ _ (.inl rfl), ?_, ?_⟩
  all_goals
    rw [State.linkDown, State.net_wr]
    exact fun x hx => of_decide_eq_true (List.mem_filter.mp hx).2

theorem State.rd_linkDown_apart (s : State) (port : Nat) {r : ObjRow} {i : Nat} (hk : r.key 0 i 512 0 ≠ Obj.ETH_LINK.key 0 port 512 0) :
    (s.linkDown port).rd r 0 i = s.rd r 0 i := State.rd_wr_apart _ _ rfl hk

theorem exec_ethernetPllLockLost {s : State} (hlocked : bit 3 (s.rdN Obj.HW_PLL_LOCKED) = true) :
    exec .ethernetPllLockLost s = .next (((s.count Obj.HW_PLL_LOCK_LOSSES).linkDown 0).linkDown 1) := congrArg Host.Outcome.next (if_pos hlocked)

/-- Settles O28: what is received, then where it goes by its destination (`exec_switchFrame_sound`), and what a link takes along. -/
theorem switchAndLinksAct : Obligations.SwitchAndLinksAct := by
  unfold Obligations.SwitchAndLinksAct
  refine ⟨?damaged, ?onward, ?back, ?flooded, ?gptp, fun s mac => ⟨_, rfl, rfl⟩, ?gates, ?down, ?up, ?pll⟩
  case damaged =>
    intro s port frame bad leased hready hclock hlink hdamaged
    refine ⟨_, exec_switchFrame_damaged leased ⟨hready, hclock, hlink⟩ hdamaged, State.rd_count_self _ _ _ _ _ _ rfl, ?_, ?_⟩
    · rw [State.count, State.out_wr]
    · rw [State.count, State.net_wr]
  case onward =>
    rintro s port frame _ leased m hready hclock hlink rfl hlow hhigh htype hgroup hfound hport hup hgate
    refine ⟨_, exec_switchFrame_sound leased ⟨hready, hclock, hlink⟩ hlow hhigh, ?_⟩
    have hdest : (s.frameReceived port frame).destination frame = some m := (if_neg (by simp [hgroup])).trans hfound
    have hother : m.port < 2 ∧ m.port ≠ port.val := by omega
    have hlinkUp : (s.frameReceived port frame).rdN Obj.ETH_LINK 0 m.port ≠ 0 := by
      rwa [s.rdN_frameReceived port frame (.inl rfl) _ port.isLt hother.1]
    simp only [htype, if_false, hdest, hother.2, show m.port ≠ internalPort by rw [internalPort]; omega]
    exact State.toEgress_of_open hother.1 hlinkUp (by rwa [State.gatesOf_frameReceived]) _ _
  case back =>
    rintro s port frame _ leased m hready hclock hlink rfl hlow hhigh htype hgroup hfound hport
    refine ⟨_, exec_switchFrame_sound leased ⟨hready, hclock, hlink⟩ hlow hhigh, ?_⟩
    have hdest : (s.frameReceived port frame).destination frame = some m := (if_neg (by simp [hgroup])).trans hfound
    simp only [htype, if_false, hdest, hport, if_true]
    rfl
  case flooded =>
    rintro s port frame _ leased hready hclock hlink rfl hlow hhigh htype hunknown
    refine ⟨_, exec_switchFrame_sound leased ⟨hready, hclock, hlink⟩ hlow hhigh, ?_⟩
    have hdest : (s.frameReceived port frame).destination frame = none := by
      unfold State.destination
      split
      · rfl
      · exact hunknown.resolve_left ‹_›
    simp only [htype, if_false, hdest, s.admitted_frameReceived port.isLt]
    rfl
  case gptp =>
    rintro s port frame _ leased hready hclock hlink rfl hlow hhigh htype
    refine ⟨_, exec_switchFrame_sound leased ⟨hready, hclock, hlink⟩ hlow hhigh, ?_⟩
    have hadmitted : (s.frameReceived port frame).admitted leased (parseEth frame) = true := by simp [State.admitted, htype]
    simp only [htype, if_true, hadmitted]
    rfl
  case gates =>
    intro s port gates hready hlist
    exact ⟨_, congrArg Host.Outcome.next (if_neg (by simp [hready, hlist])), rfl⟩
  case down =>
    intro s port speed hspeed
    exact ⟨_, congrArg Host.Outcome.next (if_pos hspeed), s.linkDown_takes port⟩
  case up =>
    intro s port speed hready hspeed hmode
    refine ⟨_, congrArg Host.Outcome.next ((if_neg (by omega)).trans (if_pos ?_)), rfl⟩
    simpa [hready] using hmode
  case pll =>
    intro s hlocked
    refine ⟨_, exec_ethernetPllLockLost hlocked, ?_, (State.linkDown_takes _ 1).1, ?_⟩
    · rw [State.rd_linkDown_apart _ _ (by decide)]
      exact (State.linkDown_takes _ 0).1
    · rw [State.rd_linkDown_apart _ _ (by decide), State.rd_linkDown_apart _ _ (by decide)]
      exact State.rd_count_self _ _ _ _ _ _ rfl

end Sys2Proof.Machine

/-! 802.1AS time, ARP and echo (R499, R514, R515). -/
namespace Sys2Proof.Machine

/-- Settles O29: each message, taken or answered where its guard holds. -/
theorem networkTimeAndEchoAct : Obligations.NetworkTimeAndEchoAct := by
  unfold Obligations.NetworkTimeAndEchoAct
  refine ⟨?sync, ?master, ?timeout, ?arp, ?echo⟩
  case sync =>
    intro s offset ppb hready
    refine ⟨_, congrArg Host.Outcome.next (if_neg (by simp [hready])), ?_⟩
    simp only [State.net_wr, State.time_wr]
    rfl
  case master =>
    intro s hready hpriority
    exact ⟨_, congrArg Host.Outcome.next ((if_neg (by simp [hready])).trans (if_neg hpriority)), rfl⟩
  case timeout =>
    intro s hslave
    exact ⟨_, congrArg Host.Outcome.next (if_pos hslave), rfl⟩
  case arp =>
    intro s port sender target leased hready hset htarget
    exact ⟨_, congrArg Host.Outcome.next (if_pos (by simp [State.internalUp, hready, hset, ← htarget])), rfl, rfl⟩
  case echo =>
    intro s port sender target leased data hready hset htarget
    exact ⟨_, congrArg Host.Outcome.next (if_pos (by simp [State.internalUp, hready, hset, ← htarget])), rfl, rfl⟩

end Sys2Proof.Machine

/-! Grants: the challenge, the request, the end of a session and of a record (R505 to R509). -/
namespace Sys2Proof.Machine

/-- Firmware acts while its clock runs (R587). -/
theorem State.firmware_of_clocked {s : State} (h : s.hwGated 0 = false) (f : State → State) : s.firmware f = f s := if_neg (by simp [h])

/-- A guarded effect of a unit that is ready (R496). -/
theorem State.guarded_of_hwReady {s : State} {b : Nat} (h : s.isHwReady b = true) (f : State → State) : s.guarded (s.needHwReady b) f = f s := by
  simp [State.guarded, State.needHwReady, h]

/-- An access that is served and passes the checks of R461. -/
theorem State.onRead_of_allowed {s : State} {who : Requester} {r : ObjRow} {n i tq j : Nat} (hserved : s.served who = true)
    (hallowed : s.checkAccess who r false n i tq j = none) (f : State → State) : s.onRead who r n i tq j f = f s := by
  simp only [State.onRead, State.onRequest_of_served hserved, hallowed, State.guarded]

theorem State.net_dropGranted (s : State) (id : PeerId) : (s.dropGranted id).net = s.net := State.net_wr ..

theorem State.peerLevel_dropGranted (s : State) (id : PeerId) : (s.dropGranted id).peerLevel = s.peerLevel := State.peerLevel_wr ..

theorem State.peerRec_setPeer (s : State) (k : Nat) (p : Peer) : (s.setPeer k p).peerRec k = some p := FMap.find_put_self ..

/-- The end of a session leaves the peer's record without one and the peer without a level (R509). -/
theorem State.endSession_ends {s : State} {k : Nat} {x : Session} (h : (s.peerRec k).bind Peer.session = some x) :
    ((s.endSession k).peerRec k).bind Peer.session = none ∧ (s.endSession k).peerLevel.find k = none := by
  obtain ⟨p, hp, -⟩ := Option.bind_eq_some_iff.mp h
  simp only [State.endSession, hp]
  refine ⟨?_, ?_⟩
  · have hrec := s.peerRec_setPeer k { p with session := none }
    rw [State.peerRec] at hrec ⊢
    rw [State.net_dropGranted, hrec]
    rfl
  · rw [State.peerLevel_dropGranted]
    exact (FMap.find_del ..).trans (if_pos rfl)

theorem exec_grantChallenge {s : State} {k : Nat} {p : Peer} (hserved : s.served (.peer k) = true)
    (hallowed : s.checkAccess (.peer k) Obj.GRANT_CHALLENGE false = none) (hp : s.peerRec k = some p) :
    exec (.grantChallenge (.peer k)) s =
      .next (((s.drawBytes 32).2.setPeer k { p with challenge := some ((s.drawBytes 32).1, s.time) }).answer .ok (s.drawBytes 32).1) := by
  have hdrawn : (s.drawBytes 32).2.peerRec k = some p := hp
  refine congrArg Host.Outcome.next ((State.onRead_of_allowed hserved hallowed _).trans ?_)
  simp only [hdrawn]
  rfl

theorem exec_grantRequest {s : State} {k : Nat} {data pub : Bytes} {p : Peer} (hserved : s.served (.peer k) = true)
    (hallowed : s.checkAccess (.peer k) Obj.GRANT_REQUEST true = none) (hlen : data.length = 194 ∨ data.length = 435)
    (hready : s.isHwReady 9 = true) (hp : (s.startResult Obj.GRANT_RESULT (.peer k)).peerRec k = some p) :
    exec (.grantRequest (.peer k) data pub) s = .next (
      let u := s.startResult Obj.GRANT_RESULT (.peer k)
      let o := u.grantOutcome p pub (parseGrant data)
      (if o = 0 then u.openSession k p (parseGrant data) else u.completeResult Obj.GRANT_RESULT o).answer .ok) := by
  refine congrArg Host.Outcome.next ((State.onRequest_of_served hserved _).trans ?_)
  simp only [hallowed]
  refine (if_neg (by simpa [or_iff_not_imp_left] using hlen)).trans ((State.guarded_of_hwReady hready _).trans ?_)
  simp only [hp]

theorem exec_grantEnd {s : State} {k v : Nat} {x : Session} (haccept : s.accepts (.peer k) Obj.GRANT_END v)
    (hx : (s.peerRec k).bind Peer.session = some x) (hnumber : x.number = v) :
    exec (.grantEnd (.peer k) v) s = .next ((s.endSession k).answer .ok) := by
  refine congrArg Host.Outcome.next ((State.onWrite_of_accepts haccept _).trans ?_)
  simp only [hx, hnumber, decide_true, if_true]

theorem exec_sessionIdle {s : State} {k : Fin 32} {x : Session} (hclock : s.hwGated 0 = false)
    (hx : (s.peerRec k).bind Peer.session = some x) (hidle : x.lastAt + s.rdN Obj.GRANT_IDLE_S * 1000000000 ≤ s.time) :
    exec (.sessionIdle k) s = .next (s.endSession k) := by
  refine congrArg Host.Outcome.next ((State.firmware_of_clocked hclock _).trans ?_)
  simp only [hx, hidle, if_true]

theorem exec_peerRecordIdle {s : State} {k : Fin 32} {p : Peer} (hclock : s.hwGated 0 = false) (hp : s.peerRec k = some p)
    (hnone : p.session = none) (hidle : p.lastAt + 60000000000 ≤ s.time) : exec (.peerRecordIdle k) s = .next (s.freePeer k) := by
  refine congrArg Host.Outcome.next ((State.firmware_of_clocked hclock _).trans ?_)
  simp only [hp, hnone, hidle, Option.isNone_none, decide_true, Bool.and_self, if_true]

/-- Settles O30: what each command runs to, and what the end of a session leaves (`State.endSession_ends`). -/
theorem sessionsOpenAndEnd : Obligations.SessionsOpenAndEnd := by
  unfold Obligations.SessionsOpenAndEnd
  refine ⟨?challenge, ?request, ?ended, ?idle, ?freed⟩
  case challenge =>
    rintro s _ k p rfl hserved hallowed hp
    exact ⟨_, exec_grantChallenge hserved hallowed hp, rfl⟩
  case request =>
    rintro s _ data pub k p rfl hserved hallowed hlen hready hp
    exact ⟨_, exec_grantRequest hserved hallowed hlen hready hp, rfl⟩
  case ended =>
    rintro s _ v k x rfl haccept hx hnumber
    exact ⟨_, exec_grantEnd haccept hx hnumber, rfl⟩
  case idle =>
    intro s k x hclock hx hidle
    exact ⟨_, exec_sessionIdle hclock hx hidle, State.endSession_ends hx⟩
  case freed =>
    intro s k p hclock hp hnone hidle
    refine ⟨_, exec_peerRecordIdle hclock hp hnone hidle, ?_, ?_⟩ <;> exact (FMap.find_del ..).trans (if_pos rfl)

end Sys2Proof.Machine

/-! The manager hierarchy: adoption, heartbeats, loss, and the piece cache (R510, R511, R516 to R521, R533). -/
namespace Sys2Proof.Machine

/-- What a list of emissions adds to what has left the block, and that it changes nothing else. -/
theorem State.each_emit {α : Type} (s : State) (f : α → Emission) (l : List α) :
    (s.each l fun u x => u.emit (f x)) = { s with out := (l.map f).reverse ++ s.out } := by
  induction l generalizing s with
  | nil => rfl
  | cons x l ih => exact (ih (s.emit (f x))).trans (by simp [State.emit])

/-- The device is a manager whose management complex runs. -/
theorem State.manages_of {s : State} (hrole : s.rdN Obj.ROLE = 1) (hready : s.isHwReady 9 = true) : s.manages = true := by
  simp [State.manages, hrole, hready]

/-! ### Adoption -/

/-- The path the device takes, written (R510, R511). -/
theorem State.rdN_devicePath (s : State) (v : Nat) : (s.wr Obj.DEVICE_PATH v).rdN Obj.DEVICE_PATH = v :=
  congrArg Int.toNat (State.rd_wr_self _ _ _ _ _ _ _ (.inr (by decide)))

theorem State.isMember_devicePath (s : State) (v : Nat) : (s.wr Obj.DEVICE_PATH v).isMember = (decide (v ≠ unadopted) && decide (v ≠ 0)) := by
  rw [State.isMember, State.rdN_devicePath]

theorem State.rdN_role_devicePath (s : State) (v : Nat) : (s.wr Obj.DEVICE_PATH v).rdN Obj.ROLE = s.rdN Obj.ROLE :=
  State.rdN_of_rd (State.rd_wr_of_ne _ _ _ _ _ _ _ _ _ _ _ _ (.inr (by decide)) (by decide))

/-- Adoption by a manager: the path and the manager's serial number, and the time of its first sign of life (R510, R511, R519). -/
def State.adopted (s : State) (v serial : Nat) : State :=
  ((s.wr Obj.DEVICE_PATH v).wr Obj.MANAGER_SERIAL serial).setNet { s.net with beatAt := some s.time }

/-- The device leaves its manager (R511). -/
def State.freed (s : State) (v : Nat) : State :=
  ((s.wr Obj.DEVICE_PATH v).setNet { s.net with beatAt := none }).clearAlarm 21 noStation 0

theorem State.rdN_role_adopted (s : State) (v serial : Nat) : (s.adopted v serial).rdN Obj.ROLE = s.rdN Obj.ROLE :=
  (State.rdN_of_rd (State.rd_wr_of_ne _ _ _ _ _ _ _ _ _ _ _ _ (.inr (by decide)) (by decide))).trans (s.rdN_role_devicePath v)

theorem State.clearAlarm_alarmKeys (s : State) (code station detail : Nat) : SameObjectsBut s (s.clearAlarm code station detail) alarmKeys :=
  .ite (s.alarm_alarmKeys code 2 station detail) (.refl s _)

theorem State.rdN_role_freed (s : State) (v : Nat) : (s.freed v).rdN Obj.ROLE = s.rdN Obj.ROLE :=
  ((State.clearAlarm_alarmKeys _ 21 noStation 0).rdN (by decide)).trans (s.rdN_role_devicePath v)

/-- The path of a manager that may adopt the device (R510, R511). -/
theorem exec_devicePath_adopted {s : State} {who : Requester} {v serial : Nat} (haccept : s.accepts who Obj.DEVICE_PATH v)
    (hpath : v ≠ unadopted ∧ v ≠ 0 ∧ pathOk v = true ∧ depthOf v ≠ 3)
    (hknown : s.rdN Obj.MANAGER_SERIAL = serial ∨ ((s.rdN Obj.ADOPT_POLICY ≠ 0 ∨ s.rdN Obj.MANAGER_SERIAL = 0) ∧
      ¬ (s.isMember = true ∧ s.net.beatAt = some s.time)))
    (hrole : s.rdN Obj.ROLE ≠ 1) : exec (.devicePath who v serial) s = .next ((s.adopted v serial).answer .ok) := by
  obtain ⟨hadopted, hnonzero, hok, hdepth⟩ := hpath
  have hadopts : (if (s.wr Obj.DEVICE_PATH v).isMember then ((s.wr Obj.DEVICE_PATH v).wr Obj.MANAGER_SERIAL serial).setNet
      { (s.wr Obj.DEVICE_PATH v).net with beatAt := some (s.wr Obj.DEVICE_PATH v).time } else
      ((s.wr Obj.DEVICE_PATH v).setNet { (s.wr Obj.DEVICE_PATH v).net with beatAt := none }).clearAlarm 21 noStation 0) = s.adopted v serial := by
    rw [if_pos (by simp [State.isMember_devicePath, hadopted, hnonzero]), State.net_wr, State.time_wr, State.adopted]
  refine congrArg Host.Outcome.next ((State.onWrite_of_accepts haccept _).trans ?_)
  refine (if_neg (by simp [hok])).trans ((if_neg ?_).trans ?_)
  · simp only [Bool.and_eq_true, Bool.or_eq_true, decide_eq_true_eq]
    tauto
  · dsimp only
    rw [hadopts]
    simp only [hdepth, decide_false, Bool.and_false, Bool.false_eq_true, if_false, s.rdN_role_adopted, hrole]

theorem exec_devicePath_freed {s : State} {who : Requester} {serial : Nat} (haccept : s.accepts who Obj.DEVICE_PATH unadopted)
    (hrole : s.rdN Obj.ROLE ≠ 1) : exec (.devicePath who unadopted serial) s = .next ((s.freed unadopted).answer .ok) := by
  have hfrees : (if (s.wr Obj.DEVICE_PATH unadopted).isMember then ((s.wr Obj.DEVICE_PATH unadopted).wr Obj.MANAGER_SERIAL serial).setNet
      { (s.wr Obj.DEVICE_PATH unadopted).net with beatAt := some (s.wr Obj.DEVICE_PATH unadopted).time } else
      ((s.wr Obj.DEVICE_PATH unadopted).setNet { (s.wr Obj.DEVICE_PATH unadopted).net with beatAt := none }).clearAlarm 21 noStation 0) =
      s.freed unadopted := by
    rw [if_neg (by simp [State.isMember_devicePath]), State.net_wr, State.freed]
  refine congrArg Host.Outcome.next ((State.onWrite_of_accepts haccept _).trans ?_)
  refine (if_neg (by simp)).trans ((if_neg (by simp)).trans ?_)
  dsimp only
  rw [hfrees]
  simp only [ne_eq, not_true_eq_false, decide_false, Bool.false_and, Bool.and_false, Bool.false_eq_true, if_false, s.rdN_role_freed, hrole]

theorem exec_devicePath_refused {s : State} {who : Requester} {v serial : Nat} (haccept : s.accepts who Obj.DEVICE_PATH v)
    (hadopted : v ≠ unadopted) (hnonzero : v ≠ 0) (hok : pathOk v = true) (hpolicy : s.rdN Obj.ADOPT_POLICY = 0)
    (hknown : s.rdN Obj.MANAGER_SERIAL ≠ 0) (hother : s.rdN Obj.MANAGER_SERIAL ≠ serial) :
    exec (.devicePath who v serial) s = .next (s.answer (.refused 8)) := by
  refine congrArg Host.Outcome.next ((State.onWrite_of_accepts haccept _).trans ?_)
  exact (if_neg (by simp [hok])).trans (if_pos (by simp [hadopted, hnonzero, hother, hpolicy, hknown]))

theorem exec_memberSerial_bound {s : State} {who : Requester} {a : Fin 64} {v : Nat} (haccept : s.accepts who Obj.MEMBER_SERIAL v 0 a)
    (hv : v ≠ 0) : exec (.memberSerial who a v) s = .next (
      let u := (((s.clearMember 24 mbConflict a).clearMember 20 mbLost a).wr Obj.MEMBER_SERIAL v 0 a).wr Obj.MEMBER_STATE 1 0 a
      ((u.setNet { u.net with unanswered := u.net.unanswered.del a.val }).emit
        (.hierarchy "ADOPT" a (toBE 8 v ++ toBE 4 (childPath u.ownPath a)))).answer .ok) := by
  refine congrArg Host.Outcome.next ((State.onWrite_of_accepts haccept _).trans ?_)
  simp only [hv, if_false]
  rfl

theorem exec_memberSerial_freed {s : State} {who : Requester} {a : Fin 64} (haccept : s.accepts who Obj.MEMBER_SERIAL (0 : Nat) 0 a) :
    exec (.memberSerial who a 0) s = .next (
      let u := (((s.clearMember 24 mbConflict a).clearMember 20 mbLost a).wr Obj.MEMBER_SERIAL (0 : Nat) 0 a).wr Obj.MEMBER_STATE 0 0 a
      ((u.setNet { u.net with unanswered := u.net.unanswered.del a.val }).wr Obj.MEMBER_LINK 0 0 a).answer .ok) :=
  congrArg Host.Outcome.next (State.onWrite_of_accepts haccept _)

/-! ### Announcement and heartbeats -/

theorem exec_announce {s : State} (hclock : s.hwGated 0 = false) (hdue : s.passed .announce 1000000000 = true) (hrole : s.rdN Obj.ROLE = 2)
    (hpath : s.rdN Obj.DEVICE_PATH = unadopted) (hready : s.isHwReady 9 = true) :
    exec .announce s = .next ((s.startTimer .announce).each (List.range 4) fun u p =>
      u.emit (.hierarchy "ANNOUNCE" p (toBE 8 (s.rdN Obj.SERIAL_NUMBER) ++ s.blob Obj.DEVICE_IDENTITY))) := by
  refine congrArg Host.Outcome.next ((State.firmware_of_clocked hclock _).trans ?_)
  exact if_pos (by simp [hrole, hpath, hready, hdue])

/-- The members a heartbeat goes to (R519). -/
def State.heartbeatMembers (s : State) : List Nat := memberAddrs.filter fun m => s.memberState m ≠ mbFree && s.memberState m ≠ mbConflict

/-- A heartbeat to one member, counted until it answers (R519). -/
def State.sendBeat (s : State) (m : Nat) : State :=
  let u := s.emit (.hierarchy "HEARTBEAT" m (toBE 8 (s.rdN Obj.SERIAL_NUMBER)))
  u.setNet { u.net with unanswered := u.net.unanswered.put m (min 3 (u.net.unanswered.getD m 0 + 1)) }

theorem exec_heartbeatTimer {s : State} (hmanages : s.manages = true) (hclock : s.hwGated 0 = false)
    (hdue : s.passed .heartbeat (s.rdN Obj.HEARTBEAT_MS * 1000000) = true) :
    exec .heartbeatTimer s = .next ((s.startTimer .heartbeat).each s.heartbeatMembers State.sendBeat) := by
  refine congrArg Host.Outcome.next ((State.firmware_of_clocked hclock _).trans ?_)
  exact if_neg (by simp [hmanages, hdue])

theorem State.regs_each_sendBeat (s : State) (l : List Nat) : (s.each l State.sendBeat).regs = s.regs :=
  State.each_keeps State.regs (g := State.sendBeat) (fun _ _ => rfl) s l

theorem State.timers_each_sendBeat (s : State) (l : List Nat) : (s.each l State.sendBeat).timers = s.timers :=
  State.each_keeps State.timers (g := State.sendBeat) (fun _ _ => rfl) s l

theorem State.out_each_sendBeat (s : State) (l : List Nat) : (s.each l State.sendBeat).out =
    (l.map fun m => Emission.hierarchy "HEARTBEAT" m (toBE 8 (s.rdN Obj.SERIAL_NUMBER))).reverse ++ s.out := by
  induction l generalizing s with
  | nil => rfl
  | cons m l ih =>
    refine (ih (s.sendBeat m)).trans ?_
    rw [List.map_cons, List.reverse_cons, List.append_assoc]
    rfl

/-- Each member that a heartbeat goes to has one more unanswered, the others as many as before. -/
theorem State.unanswered_each_sendBeat (s : State) {l : List Nat} (hl : l.Nodup) (m : Nat) : (s.each l State.sendBeat).net.unanswered.getD m 0 =
    if m ∈ l then min 3 (s.net.unanswered.getD m 0 + 1) else s.net.unanswered.getD m 0 := by
  induction l generalizing s with
  | nil => rfl
  | cons k l ih =>
    obtain ⟨hk, hl⟩ := List.nodup_cons.mp hl
    have hsent : (s.sendBeat k).net.unanswered.getD m 0 = if m = k then min 3 (s.net.unanswered.getD k 0 + 1) else s.net.unanswered.getD m 0 :=
      FMap.getD_put ..
    refine (ih (s.sendBeat k) hl).trans ?_
    rw [hsent]
    by_cases hm : m = k
    · subst hm
      simp [hk]
    · simp [hm]

theorem memberAddrs_nodup : memberAddrs.Nodup := by decide

theorem exec_heartbeat {s : State} {serial : Nat} (hclock : s.hwGated 0 = false) (hmember : s.isMember = true) (hready : s.isHwReady 9 = true)
    (hserial : serial = s.rdN Obj.MANAGER_SERIAL) : exec (.heartbeat serial) s = .next (
      let u := (s.setNet { s.net with beatAt := some s.time }).emit (.hierarchy "HEARTBEAT_ANSWER" 0 (toBE 8 (s.rdN Obj.SERIAL_NUMBER)))
      if s.alarmRaised 21 noStation then (u.each s.alarmQ.items fun u e => u.emit (.alarm e.2 [])).clearAlarm 21 noStation 0 else u) := by
  refine congrArg Host.Outcome.next ((State.firmware_of_clocked hclock _).trans ?_)
  exact if_pos (by simp [hmember, hready, hserial])

theorem exec_heartbeatAnswer {s : State} {a : Fin 64} {serial : Nat} (link : Nat) (hmanages : s.manages = true) (hclock : s.hwGated 0 = false)
    (hbound : s.memberState a ≠ mbFree) (hpeace : s.memberState a ≠ mbConflict) : exec (.heartbeatAnswer a serial link) s = .next (
      if serial ≠ s.rdN Obj.MEMBER_SERIAL 0 a then (s.wr Obj.MEMBER_STATE (mbConflict : Nat) 0 a).alarm 24 1 noStation a
      else
        let u := s.clearMember 20 mbLost a
        let w := ((u.setNet { u.net with unanswered := u.net.unanswered.put a.val 0 }).wr Obj.MEMBER_LINK (link % 2 ^ 64 : Nat) 0 a).wr
          Obj.MEMBER_STATE (mbActive : Nat) 0 a
        if s.memberState a = mbActive then w else w.serveTargets) := by
  refine congrArg Host.Outcome.next ((State.firmware_of_clocked hclock _).trans ?_)
  exact if_neg (by simp [hmanages, hbound, hpeace])

/-- A manager that holds no package serves none. -/
theorem State.serveTargets_of_none {s : State} (h : s.net.cache.getLast? = none) : s.serveTargets = s := by
  unfold State.serveTargets State.cached
  rw [h]

theorem exec_memberLost {s : State} {a : Fin 64} (hmanages : s.manages = true) (hclock : s.hwGated 0 = false)
    (hstate : s.memberState a = mbActive ∨ s.memberState a = mbAdopting) (hsilent : 3 ≤ s.net.unanswered.getD a.val 0) :
    exec (.memberLost a) s = .next (
      let u := (s.wr Obj.MEMBER_STATE (mbLost : Nat) 0 a).alarm 20 1 noStation a
      if u.rdN Obj.CACHE_MEMBER_STATE 0 a = 1 then (u.wr Obj.CACHE_MEMBER_STATE 0 0 a).serveTargets else u) := by
  refine congrArg Host.Outcome.next ((State.firmware_of_clocked hclock _).trans ?_)
  exact if_pos (by simp [hmanages, hstate, hsilent])

theorem exec_managerLost {s : State} {k : Nat} (hclock : s.hwGated 0 = false) (hbeat : s.net.beatAt = some k) (hmember : s.isMember = true)
    (hready : s.isHwReady 9 = true) (hsilent : k + 3 * s.rdN Obj.HEARTBEAT_MS * 1000000 ≤ s.time)
    (hnew : s.alarmRaised 21 noStation = false) : exec .managerLost s = .next (s.alarm 21 1 noStation 0) := by
  refine congrArg Host.Outcome.next ((State.firmware_of_clocked hclock _).trans ?_)
  simp only [hbeat]
  exact if_pos (by simp [hmember, hready, hsilent, hnew])

/-- Settles O31: what each command runs to, and of a heartbeat what it sends and counts (`State.unanswered_each_sendBeat`). -/
theorem hierarchyAdoptsAndWatches : Obligations.HierarchyAdoptsAndWatches := by
  unfold Obligations.HierarchyAdoptsAndWatches
  refine ⟨?adopted, ?freed, ?refused, ?bound, ?unbound, ?announce, ?beats, ?answered, ?returned, ?conflict, ?active, ?lost, ?alone⟩
  case adopted =>
    intro s who v serial haccept hadopted hnonzero hok hdepth hknown hrole _
    exact ⟨_, exec_devicePath_adopted haccept ⟨hadopted, hnonzero, hok, hdepth⟩ hknown hrole, rfl⟩
  case freed =>
    rintro s who _ serial haccept rfl hrole
    exact ⟨_, exec_devicePath_freed haccept hrole, rfl⟩
  case refused =>
    intro s who v serial haccept hadopted hnonzero hok hpolicy hknown hother
    exact ⟨_, exec_devicePath_refused haccept hadopted hnonzero hok hpolicy hknown hother, rfl⟩
  case bound =>
    intro s who a v haccept hv
    exact ⟨_, exec_memberSerial_bound haccept hv, rfl⟩
  case unbound =>
    rintro s who a _ haccept rfl
    exact ⟨_, exec_memberSerial_freed haccept, rfl⟩
  case announce =>
    intro s hclock hdue hrole hpath hready
    refine ⟨_, exec_announce hclock hdue hrole hpath hready, ?_, ?_⟩ <;> rw [State.each_emit] <;> rfl
  case beats =>
    intro s hrole hready hclock hdue
    refine ⟨_, exec_heartbeatTimer (State.manages_of hrole hready) hclock hdue, ?_, State.regs_each_sendBeat _ _, fun m hm => ?_,
      State.out_each_sendBeat _ _⟩
    · rw [State.timers_each_sendBeat]
      exact FMap.find_put_self ..
    · rw [State.unanswered_each_sendBeat _ (l := s.heartbeatMembers) (memberAddrs_nodup.filter _)]
      have hsent : m ∈ s.heartbeatMembers ↔ ¬(s.memberState m = mbFree ∨ s.memberState m = mbConflict) := by
        simp [State.heartbeatMembers, hm]
      by_cases h : s.memberState m = mbFree ∨ s.memberState m = mbConflict
      · rw [if_neg (by rw [hsent]; exact not_not_intro h), if_pos h]
        rfl
      · rw [if_pos (hsent.mpr h), if_neg h]
        rfl
  case answered =>
    intro s serial hclock hmember hready hserial hnew
    exact ⟨_, exec_heartbeat hclock hmember hready hserial, by simp only [hnew, Bool.false_eq_true, if_false]⟩
  case returned =>
    intro s serial hclock hmember hready hserial hraised
    exact ⟨_, exec_heartbeat hclock hmember hready hserial, by simp only [hraised, if_true]⟩
  case conflict =>
    intro s a serial link hrole hready hclock hbound hpeace hserial
    exact ⟨_, exec_heartbeatAnswer link (State.manages_of hrole hready) hclock hbound hpeace, if_pos hserial⟩
  case active =>
    intro s a serial link hrole hready hclock hbound hpeace hserial hstill
    refine ⟨_, exec_heartbeatAnswer link (State.manages_of hrole hready) hclock hbound hpeace, (if_neg (by simpa using hserial)).trans ?_⟩
    dsimp only
    split
    · rfl
    next hother =>
      have hnet : (s.clearMember 20 mbLost a).net = s.net := (State.clearMember_frame s 20 mbLost a (.refl _) (.refl _ s) .network (by decide)).1
      refine State.serveTargets_of_none ?_
      rw [State.net_wr, State.net_wr]
      exact (congrArg (fun n : Net => n.cache.getLast?) hnet).trans (hstill.resolve_left hother)
  case lost =>
    intro s a hrole hready hclock hstate hsilent hidle
    exact ⟨_, exec_memberLost (State.manages_of hrole hready) hclock hstate hsilent, if_neg hidle⟩
  case alone =>
    intro s k hclock hbeat hmember hready hsilent hnew
    exact ⟨_, exec_managerLost hclock hbeat hmember hready hsilent hnew, rfl⟩

/-! ### The piece cache -/

theorem exec_cacheTargets {s : State} {who : Requester} {v : Nat} (haccept : s.accepts who Obj.CACHE_TARGETS v) :
    exec (.cacheTargets who v) s = .next ((((s.wr Obj.CACHE_TARGETS v).each memberAddrs fun u k =>
      (u.wr Obj.CACHE_MEMBER_STATE ((if !bit k v then 0 else if 2 ≤ u.memberPort k && u.memberState k ≠ mbFree then 2 else 0 : Nat)) 0 k).wr
        Obj.CACHE_PROGRESS 0 0 k).serveTargets).answer .ok) :=
  congrArg Host.Outcome.next (State.onWrite_of_accepts haccept _)

/-- The pieces that a member's bitmap lacks (R533). -/
def CachePkg.missing (p : CachePkg) (bitmap : Bytes) : List Nat :=
  (List.range p.total).filter fun k => !bit (k % 8) (byteAt bitmap (k / 8))

theorem exec_cachePush {s : State} {a : Fin 64} {p : CachePkg} (bitmap : Bytes) (hcached : s.cached = some p)
    (hserving : s.rdN Obj.CACHE_MEMBER_STATE 0 a = 1) (hactive : s.memberState a = mbActive) (hmanages : s.manages = true) :
    exec (.cachePush a bitmap) s = .next (
      let u := s.wr Obj.CACHE_PROGRESS ((p.total - (p.missing bitmap).length : Nat)) 0 a
      if (p.missing bitmap).isEmpty then (u.wr Obj.CACHE_MEMBER_STATE 3 0 a).serveTargets
      else u.each (((p.missing bitmap).filterMap fun k => p.pieces.find k).take 8) fun u b => u.emit (.hierarchy "PIECE" a b)) := by
  refine congrArg Host.Outcome.next ?_
  simp only [hcached]
  exact if_neg (by simp [hserving, hactive, hmanages])

/-- Settles O34: the targets taken, and a bitmap that lacks pieces and one that lacks none. -/
theorem cacheServesMembers : Obligations.CacheServesMembers := by
  unfold Obligations.CacheServesMembers
  refine ⟨fun s who v haccept => ⟨_, exec_cacheTargets haccept, rfl⟩, ?pushed, ?done⟩
  case pushed =>
    intro s a bitmap p hcached hserving hactive hrole hready hmissing
    refine ⟨_, exec_cachePush bitmap hcached hserving hactive (State.manages_of hrole hready), ?_⟩
    rw [← CachePkg.missing] at hmissing ⊢
    simp only [List.isEmpty_iff, hmissing, if_false, State.each_emit]
    refine ⟨?_, State.rd_wr_self _ _ _ _ _ _ _ (.inl rfl)⟩
    rw [State.out_wr, List.map_reverse]
  case done =>
    intro s a bitmap p hcached hserving hactive hrole hready hmissing
    refine ⟨_, exec_cachePush bitmap hcached hserving hactive (State.manages_of hrole hready), ?_⟩
    rw [← CachePkg.missing] at hmissing
    simp only [hmissing, List.isEmpty_nil, if_true, List.length_nil, Nat.sub_zero]

end Sys2Proof.Machine

/-! Receiving a package: the manifest, the pieces, verification and copying (R528 to R536, R550). -/
namespace Sys2Proof.Machine

/-- A manifest of proper size (R528). -/
theorem exec_manifest {s : State} {who : Requester} {data : Bytes} (hserved : s.served who = true)
    (haccess : s.checkAccess who Obj.MANIFEST true = none) (hmin : 232 ≤ data.length) (hmax : data.length ≤ 648)
    (hentries : (data.length - 128) % 104 = 0) (hready : s.isHwReady 11 = true) :
    exec (.manifest who data) s = .next (((if s.manifestOutcome (parseManifest data) = 0
      then (s.startResult Obj.MANIFEST_RESULT who).takeManifest data else s.startResult Obj.MANIFEST_RESULT who).finish
      Obj.MANIFEST_RESULT (s.manifestOutcome (parseManifest data))).answer .ok) := by
  refine congrArg Host.Outcome.next ((State.onRequest_of_served hserved _).trans ?_)
  rw [haccess]
  refine (if_neg ?_).trans (State.guarded_of_hwReady hready _)
  simp [hentries]
  omega

theorem exec_pieceStream {s : State} {data : Bytes} (hready : s.isHwReady 11 = true) (hlength : data.length = 4112) :
    exec (.pieceStream data) s = .next (s.pieceArrives data) :=
  congrArg Host.Outcome.next (if_pos (by simp [hready, hlength]))

/-- A piece record written to PIECE_IN (R531). -/
theorem exec_pieceIn {s : State} {who : Requester} {data : Bytes} (hserved : s.served who = true)
    (haccess : s.checkAccess who Obj.PIECE_IN true = none) (hlength : data.length = 4112) :
    exec (.pieceIn who data) s =
      .next (if (s.pieceReject data).isSome then (s.pieceArrives data).answer .badRange else (s.pieceArrives data).answer .ok) := by
  refine congrArg Host.Outcome.next ((State.onRequest_of_served hserved _).trans ?_)
  rw [haccess]
  exact if_neg (by simp [hlength])

/-- A record that is discarded is counted by its cause, and does nothing else (R531). -/
theorem State.pieceArrives_rejected {s : State} {data : Bytes} :
    (s.pieceReject data = some 1 → s.pieceArrives data = s.count Obj.REJECT_PACKAGE) ∧
    (s.pieceReject data = some 2 → s.pieceArrives data = s.count Obj.REJECT_RANGE) ∧
    (s.pieceReject data = some 3 → s.pieceArrives data = s.count Obj.REJECT_CRC) := by
  refine ⟨fun h => ?_, fun h => ?_, fun h => ?_⟩ <;> simp [State.pieceArrives, h]

theorem exec_pieceProgrammed {s : State} {p : PieceWrite} {l : List PieceWrite} (hwriting : s.upd.writing = p :: l) (herase : p.erase = false) :
    exec .pieceProgrammed s = .next ((((s.setUpd { s.upd with writing := l, staged := s.upd.staged.put p.seq p.data }).emit
      (.flash "program" (stagingBase + 4096 * p.seq))).putPieces [p.seq] true).nextErase.checkPieces) := by
  refine congrArg Host.Outcome.next ?_
  rw [hwriting]
  exact if_neg (by simp [herase])

/-- The entries whose images in staging have another digest (R536). -/
def State.badImages (s : State) : List ManifestEntry := s.manifest.entries.filter fun e => Config.sha384 (s.stagedImage e) ≠ e.digest

theorem exec_imageVerifyDone {s : State} (hclock : s.hwGated 0 = false) (hstate : s.updState = upVerifying) (hcopying : s.upd.copying = false) :
    exec .imageVerifyDone s = .next (if s.badImages = [] then s.setUpd { s.upd with copying := true }
      else (s.each s.badImages fun u e => (u.count Obj.DIGEST_FAILS).putPieces
        ((List.range (cdiv e.size 4096)).map fun k => e.offset / 4096 + k) false).wr Obj.UPDATE_STATE (upReceiving : Nat)) := by
  refine congrArg Host.Outcome.next ((State.firmware_of_clocked hclock _).trans ((if_neg (by simp [hstate, hcopying])).trans ?_))
  exact if_congr List.isEmpty_iff rfl rfl

/-- An STN image is measured for every station that is not OFF (R385, R536). -/
def State.measureStnImage (s : State) (e : ManifestEntry) : State :=
  s.each ((List.range 8).filter fun n => s.stationState n ≠ stOff) fun u _ => u.extend 3 e.digest

/-- Measurements leave the update engine's own state as it is. -/
theorem State.upd_measureStnImage (s : State) (e : ManifestEntry) : (s.measureStnImage e).upd = s.upd :=
  State.each_keeps State.upd (g := fun u _ => u.extend 3 e.digest) (fun _ _ => rfl) s _

/-- What the slots hold when the changed images have been copied to their spare slots (R524, R536). -/
def State.copiedSlots (s : State) : FMap (Nat × Nat) Nat :=
  (s.changed s.manifest).foldl (fun m e => m.put (e.component, s.spare e.component) e.version) s.upd.slots

/-- The new images are in their spare slots (R385, R536). -/
theorem exec_imageCopyDone {s : State} (hclock : s.hwGated 0 = false) (hstate : s.updState = upVerifying) (hcopying : s.upd.copying = true) :
    exec .imageCopyDone s = .next (((s.setUpd { s.upd with copying := false, slots := s.copiedSlots }).each
      ((s.changed s.manifest).filter fun e => e.component = 2) State.measureStnImage).wr Obj.UPDATE_STATE (upReady : Nat)) :=
  congrArg Host.Outcome.next ((State.firmware_of_clocked hclock _).trans (if_neg (by simp [hstate, hcopying])))

/-! ### Erases of flash -/

theorem exec_flashEraseDone_settings {s : State} {x : Nat} (herase : s.rst.erase = some x) (hbank : settingsBase ≤ x) :
    exec .flashEraseDone s =
      .next ({ s with rst := { s.rst with erase := none }, settings := { s.settings with eraseDue := none } } : State).nextErase := by
  refine congrArg Host.Outcome.next ?_
  rw [herase]
  exact congrArg State.nextErase (if_pos hbank)

theorem exec_flashEraseDone_staging {s : State} {x : Nat} (herase : s.rst.erase = some x) (hbank : x < settingsBase)
    (herasing : s.upd.erasing = true) : exec .flashEraseDone s =
      .next ({ s with rst := { s.rst with erase := none }, upd := { s.upd with erasing := false, staged := [] } } : State).nextErase := by
  refine congrArg Host.Outcome.next ?_
  rw [herase]
  exact congrArg State.nextErase ((if_neg (by omega)).trans (if_pos herasing))

theorem exec_flashEraseDone_piece {s : State} {x : Nat} {p : PieceWrite} {l : List PieceWrite} (herase : s.rst.erase = some x)
    (hbank : x < settingsBase) (herasing : s.upd.erasing = false) (hwriting : s.upd.writing = p :: l) (hplace : x = stagingBase + 4096 * p.seq) :
    exec .flashEraseDone s = .next ({ s with rst := { s.rst with erase := none }
                                             upd := { s.upd with writing := { p with erase := false } :: l
                                                                 staged := s.upd.staged.del p.seq } } : State).nextErase := by
  refine congrArg Host.Outcome.next ?_
  rw [herase]
  refine congrArg State.nextErase ((if_neg (by omega)).trans ((if_neg (by simp [herasing])).trans ?_))
  dsimp only
  rw [hwriting]
  exact if_pos hplace

/-- Settles O35: each command's equation gives its clause; the copy touches the measurements, the slots and the state alone. -/
theorem packagesAreReceived : Obligations.PackagesAreReceived := by
  unfold Obligations.PackagesAreReceived
  refine ⟨?manifest, ?package, ?range, ?crc, ?stream, ?pieceIn, ?pieceInRejected, ?programmed, ?verified, ?copied, ?settings, ?staging, ?piece⟩
  case manifest =>
    intro s who data hserved haccess hmin hmax hentries hready
    exact ⟨_, exec_manifest hserved haccess hmin hmax hentries hready, rfl⟩
  case package =>
    intro s data hready hlength hreject
    exact ⟨_, exec_pieceStream hready hlength, State.pieceArrives_rejected.1 hreject⟩
  case range =>
    intro s data hready hlength hreject
    exact ⟨_, exec_pieceStream hready hlength, State.pieceArrives_rejected.2.1 hreject⟩
  case crc =>
    intro s data hready hlength hreject
    exact ⟨_, exec_pieceStream hready hlength, State.pieceArrives_rejected.2.2 hreject⟩
  case stream =>
    intro s data hready hlength _
    exact ⟨_, exec_pieceStream hready hlength, rfl⟩
  case pieceIn =>
    intro s who data hserved haccess hlength hreject
    exact ⟨_, exec_pieceIn hserved haccess hlength, if_neg (by simp [hreject])⟩
  case pieceInRejected =>
    intro s who data hserved haccess hlength hreject
    exact ⟨_, exec_pieceIn hserved haccess hlength, if_pos (Option.isSome_iff_ne_none.mpr hreject)⟩
  case programmed =>
    intro s p l hwriting herase
    exact ⟨_, exec_pieceProgrammed hwriting herase, rfl⟩
  case verified =>
    intro s hclock hstate hcopying
    exact ⟨_, exec_imageVerifyDone hclock hstate hcopying, rfl⟩
  case copied =>
    intro s hclock hstate hcopying
    refine ⟨_, exec_imageCopyDone hclock hstate hcopying, State.rd_wr_self _ _ _ _ _ _ _ (.inr (by decide)), ?_, ?_⟩
    all_goals
      rw [State.upd_wr, State.each_keeps State.upd State.upd_measureStnImage]
      rfl
  case settings =>
    intro s x herase hbank
    exact ⟨_, exec_flashEraseDone_settings herase hbank, rfl⟩
  case staging =>
    intro s x herase hbank herasing
    exact ⟨_, exec_flashEraseDone_staging herase hbank herasing, rfl⟩
  case piece =>
    intro s x p l herase hbank herasing hwriting hplace
    exact ⟨_, exec_flashEraseDone_piece herase hbank herasing hwriting hplace, rfl⟩

end Sys2Proof.Machine

/-! One source of MGMT, SEC or STATION reach applied, and the commands of O2 and O3 that assert one (R28, R350, R554, R557, R559, R567 to R569, R591). -/
namespace Sys2Proof.Machine

/-! ### A source applied -/

/-- A source that is applied puts the domains of its reach in reset (R551, R560). -/
theorem State.mem_inReset_applyAll (s : State) {r : ResetReq} {d : Domain} (hlow : 1 ≤ r.reach) (hhigh : r.reach < 8) (hd : d ∈ r.domains)
    (held : Bool) : d ∈ (s.applyAll [r] held).rst.inReset := by
  rw [s.applyAll_single hlow hhigh (List.ne_nil_of_mem hd), State.rst_recordCause]
  split <;> exact State.mem_inReset_applyReset _ hd

/-- The source that a request names is applied at once where nothing holds it. -/
theorem State.mem_inReset_assertReset {s : State} (hold : s.noHold) {r : ResetReq} {d : Domain} (hlow : 1 ≤ r.reach) (hhigh : r.reach < 8)
    (hsource : r.source ≠ 1) (hd : d ∈ r.domains) : d ∈ (s.assertReset r).rst.inReset := by
  rw [State.assertReset_of_noHold hold (by omega) hsource]
  exact State.mem_inReset_applyAll s hlow hhigh hd false

theorem ResetReq.domains_mgmt {r : ResetReq} (h : r.reach = rMgmt) : r.domains = [.mgmt, .net] := by
  simp [ResetReq.domains, h, rMgmt, rCold, rWarm]

theorem ResetReq.domains_sec {r : ResetReq} (h : r.reach = rSec) : r.domains = [.sec] := by
  simp [ResetReq.domains, h, rSec, rMgmt, rCold, rWarm]

/-- What a source of MGMT reach leaves of reset control, and what it puts in reset (R551, R560). -/
structure MgmtApplied (s t : State) : Prop where
  mgmt : Domain.mgmt ∈ t.rst.inReset
  net : Domain.net ∈ t.rst.inReset
  ended : t.rst.mgmtEnded = false
  recovery : t.rst.recovery = s.rst.recovery
  held : t.rst.held = s.rst.held
  suspended : t.rst.suspended = s.rst.suspended
  requested : t.rst.requested = s.rst.requested
  erase : t.rst.erase = s.rst.erase
  upd : t.upd = s.upd.dropWrites

theorem State.upd_mgmtDown (s : State) : s.mgmtDown.upd = s.upd.dropWrites := by
  have hcv : ∀ u : State, ((u.each (List.range 16) fun s u => s.cvReset u).each (List.range 16) fun s u => s.toDefault Obj.CV_RUNS 0 u).upd =
      u.upd := fun u =>
    (State.each_keeps State.upd (g := fun s u => s.toDefault Obj.CV_RUNS 0 u) (fun _ _ => rfl) _ _).trans
      (State.each_keeps State.upd (fun s u => (State.cvReset_frame s u (.refl _) (.refl _ s)) .update (by decide)) u _)
  have hclear : ∀ u : State, (u.hwClear mgmtBits).upd = u.upd := fun u => (State.hwClear_frame u mgmtBits (.refl _) (.refl _ u)) .update (by decide)
  have hzero : ∀ u : State, (u.zeroMeasurement 2).upd = u.upd := fun _ => rfl
  have hreset : ∀ u : State, u.translatorReset.updateMgmtReset.upd = u.upd.dropWrites := fun _ => rfl
  unfold State.mgmtDown
  dsimp only
  rw [State.upd_wr, hclear, hzero, hreset, hcv]
  rfl

/-- The domains of a source's reach enter reset, their pins in their pin-map states (R551, R574). -/
def State.enterReset (s : State) (r : ResetReq) : State :=
  let s := s.each r.domains fun s d => s.pinsReset d
  { s with rst := { s.rst with inReset := s.rst.inReset ++ r.domains.filter (fun d => !s.rst.inReset.contains d),
                               wide := if r.reach ≤ rWarm then
                                   s.rst.wide ++ r.domains.filter (fun d => !s.rst.wide.contains d) else s.rst.wide,
                               loading := s.rst.loading.filter fun n => !r.domains.contains (.func n) } }

/-- Of reset control, domains that enter reset change the lists of domains and of stations whose images load (R560). -/
theorem State.enterReset_rst (s : State) (r : ResetReq) :
    (s.enterReset r).rst = { s.rst with inReset := (s.enterReset r).rst.inReset, wide := (s.enterReset r).rst.wide,
                                        loading := (s.enterReset r).rst.loading } := by
  have hrst := (State.pinsReset_each_frame s r.domains).rst (by decide)
  simp only [State.enterReset, hrst]

theorem State.upd_enterReset (s : State) (r : ResetReq) : (s.enterReset r).upd = s.upd :=
  (State.pinsReset_each_frame s r.domains) .update (by decide)

theorem State.applyReset_mgmt (s : State) {r : ResetReq} (h : r.reach = rMgmt) : s.applyReset r =
    ({ (s.count Obj.RESETS_MGMT).mgmtDown with
      rst := { (s.count Obj.RESETS_MGMT).mgmtDown.rst with mgmtEnded := false } } : State).enterReset r := by
  have hcold : r.reach ≠ rCold := by rw [h]; decide
  have hwarm : r.reach ≠ rWarm := by rw [h]; decide
  exact congrArg (State.enterReset · r) ((if_neg hcold).trans ((if_neg hwarm).trans (if_pos h)))

theorem State.mgmtApplied_applyReset (s : State) {r : ResetReq} (h : r.reach = rMgmt) : MgmtApplied s (s.applyReset r) := by
  have hdomains := ResetReq.domains_mgmt h
  have hmgmt : Domain.mgmt ∈ (s.applyReset r).rst.inReset := State.mem_inReset_applyReset s (by simp [hdomains])
  have hnet : Domain.net ∈ (s.applyReset r).rst.inReset := State.mem_inReset_applyReset s (by simp [hdomains])
  have hrst : (s.count Obj.RESETS_MGMT).mgmtDown.rst = s.rst := (State.rst_mgmtDown _).trans (State.rst_count ..)
  have hupd : (s.count Obj.RESETS_MGMT).mgmtDown.upd = s.upd.dropWrites :=
    (State.upd_mgmtDown _).trans (congrArg Update.dropWrites (State.upd_wr ..))
  rw [State.applyReset_mgmt s h] at hmgmt hnet ⊢
  generalize (s.count Obj.RESETS_MGMT).mgmtDown = u at *
  exact { mgmt := hmgmt, net := hnet, upd := (State.upd_enterReset _ r).trans hupd
          ended := by rw [State.enterReset_rst]
          recovery := by rw [State.enterReset_rst, hrst]
          held := by rw [State.enterReset_rst, hrst]
          suspended := by rw [State.enterReset_rst, hrst]
          requested := by rw [State.enterReset_rst, hrst]
          erase := by rw [State.enterReset_rst, hrst] }

/-- Stopping a release and noting a pulse and a cause leave what `MgmtApplied` speaks of. -/
theorem State.mgmtApplied_applyAll (s : State) {r : ResetReq} (h : r.reach = rMgmt) (held : Bool) : MgmtApplied s (s.applyAll [r] held) := by
  have hdomains := ResetReq.domains_mgmt h
  have hrecord : ∀ u : State, (u.recordCause [r] held).upd = u.upd :=
    fun u => (State.recordCause_frame u [r] held (.refl _) (.refl _ u)) .update (by decide)
  rw [s.applyAll_single (by rw [h]; decide) (by rw [h]; decide) (by simp [hdomains])]
  obtain ⟨hmgmt, hnet, hended, hrecovery, hheld, hsuspended, hrequested, herase, hupd⟩ := s.breakRelease.mgmtApplied_applyReset h
  split <;> constructor <;> simp only [State.rst_recordCause, hrecord] <;> assumption

theorem State.mgmtApplied_assertReset {s : State} (hold : s.noHold) {r : ResetReq} (h : r.reach = rMgmt) (hsource : r.source ≠ 1) :
    MgmtApplied s (s.assertReset r) := by
  rw [State.assertReset_of_noHold hold (by rw [h]; decide) hsource]
  exact s.mgmtApplied_applyAll h false

/-! ### Requests -/

theorem State.request_device {s : State} {k : Nat} (hservice : s.deviceState = 2) (hreach : serviceReach k ≠ rPort) (target : Option Nat) :
    s.request k target none = { source := k, reach := serviceReach k, target := target } := by
  simp [State.request, State.reachOf, hservice, hreach]

/-- The request of an accepted write of RESET_REQUEST waits as source 12 (R559). -/
theorem State.askReset_of_accepts {s : State} {who : Requester} {reach target : Nat}
    (haccept : s.accepts who Obj.RESET_REQUEST (target * 256 + reach : Nat)) : s.askReset who reach target =
      ({ s with rst := { s.rst with requested := s.rst.requested ++ [(s.time,
        { source := 12, reach := reach, target := if reach = rPort || reach = rStation then some target else none })] } } : State).answer .ok :=
  State.onWrite_of_accepts haccept _

theorem exec_stationReset {s : State} {who : Requester} {n : Fin 8} (haccept : s.accepts who Obj.STATION_RESET 1 n) :
    exec (.stationReset who n true) s =
      .next ((s.answer .ok).assertReset { source := 12, reach := rStation, target := some n.val }) :=
  congrArg Host.Outcome.next (State.onWrite_of_accepts haccept _)

theorem exec_memReinit {s : State} {who : Requester} {n : Fin 8} (haccept : s.accepts who Obj.MEM_REINIT 1 n)
    (hon : s.stationState n ≠ stOff) : exec (.memReinit who n true) s =
      .next ((s.answer .ok).assertReset { source := 15, reach := rStation, target := some n.val, reinit := true }) :=
  congrArg Host.Outcome.next ((State.onWrite_of_accepts haccept _).trans (if_neg (by simp [hon])))

theorem exec_deviceRequestRecovery {s : State} {who : Requester} (haccept : s.accepts who Obj.DEVICE_REQUEST 4) (hservice : s.deviceState = 2) :
    exec (.deviceRequestRecovery who) s =
      .next ((({ s with rst := { s.rst with recovery := true } } : State).answer .ok).assertReset { source := 14, reach := rMgmt }) := by
  refine congrArg Host.Outcome.next ((State.onWrite_of_accepts haccept _).trans ?_)
  have hservice' : (({ s with rst := { s.rst with recovery := true } } : State).answer .ok).deviceState = 2 := hservice
  exact congrArg (State.assertReset _) (State.request_device (k := 14) hservice' (by decide) none)

theorem exec_deviceRequestLeaveRecovery {s : State} {who : Requester} (haccept : s.accepts who Obj.DEVICE_REQUEST 5)
    (hrecovery : s.deviceState = 4) : exec (.deviceRequestLeaveRecovery who) s =
      .next ((({ s with rst := { s.rst with recovery := false } } : State).answer .ok).assertReset { source := 12, reach := rMgmt }) :=
  congrArg Host.Outcome.next ((State.onWrite_of_accepts haccept _).trans (if_pos hrecovery))

/-- Settles O3: an accepted request waits as source 12, or asserts its source, whose domains are then in reset. -/
theorem resetAndDeviceRequestsAct : Obligations.ResetAndDeviceRequestsAct := by
  unfold Obligations.ResetAndDeviceRequestsAct
  refine ⟨?cold, ?warm, ?mgmt, ?sec, ?port, ?station, ?stationReset, ?memReinit, ?none, ?recovery, ?leave⟩
  case cold =>
    intro s who haccept
    refine ⟨_, rfl, ?_⟩
    rw [State.askReset_of_accepts haccept]
    exact ⟨rfl, rfl⟩
  case warm =>
    intro s who haccept
    refine ⟨_, rfl, ?_⟩
    rw [State.askReset_of_accepts haccept]
    exact ⟨rfl, rfl⟩
  case mgmt =>
    intro s who haccept
    refine ⟨_, rfl, ?_⟩
    rw [State.askReset_of_accepts haccept]
    exact ⟨rfl, rfl⟩
  case sec =>
    intro s who haccept
    refine ⟨_, rfl, ?_⟩
    rw [State.askReset_of_accepts haccept]
    exact ⟨rfl, rfl⟩
  case port =>
    intro s who p haccept
    refine ⟨_, rfl, ?_⟩
    rw [State.askReset_of_accepts haccept]
    exact ⟨rfl, rfl⟩
  case station =>
    intro s who n haccept
    refine ⟨_, rfl, ?_⟩
    rw [State.askReset_of_accepts haccept]
    exact ⟨rfl, rfl⟩
  case stationReset =>
    intro s who n hold haccept
    refine ⟨_, exec_stationReset haccept, ?_, ?_⟩ <;>
      exact State.mem_inReset_assertReset (s := s.answer .ok) hold (by simp [rStation]) (by simp [rStation]) (by simp)
        (by simp [ResetReq.domains, rStation, rCold, rWarm, rMgmt, rSec, rPort])
  case memReinit =>
    intro s who n hold haccept hon
    refine ⟨_, exec_memReinit haccept hon, ?_, ?_⟩ <;>
      exact State.mem_inReset_assertReset (s := s.answer .ok) hold (by simp [rStation]) (by simp [rStation]) (by simp)
        (by simp [ResetReq.domains, rStation, rCold, rWarm, rMgmt, rSec, rPort])
  case none =>
    intro s who haccept
    exact ⟨_, rfl, State.onWrite_of_accepts haccept _⟩
  case recovery =>
    intro s who hold haccept hservice
    have happlied := State.mgmtApplied_assertReset (s := ({ s with rst := { s.rst with recovery := true } } : State).answer .ok)
      (r := { source := 14, reach := rMgmt }) hold rfl (by simp)
    exact ⟨_, exec_deviceRequestRecovery haccept hservice, happlied.recovery, happlied.mgmt⟩
  case leave =>
    intro s who hold haccept hrecovery
    have happlied := State.mgmtApplied_assertReset (s := ({ s with rst := { s.rst with recovery := false } } : State).answer .ok)
      (r := { source := 12, reach := rMgmt }) hold rfl (by simp)
    exact ⟨_, exec_deviceRequestLeaveRecovery haccept hrecovery, happlied.recovery, happlied.mgmt⟩

end Sys2Proof.Machine

/-! Watchdogs, held and suspended resets, and the erase that goes on (R411, R557, R559, R566, R567, R569, R591). -/
namespace Sys2Proof.Machine

/-! ### What holds or delays a reset, through writes -/

/-- Writes of objects neither start nor end a save. -/
theorem State.saving_wr (s : State) (r : ObjRow) (v : Int) (n i t j : Nat) : (s.wr r v n i t j).settings.saving = s.settings.saving := by
  unfold State.wr State.noteSubs State.noteChange
  split <;> split <;> rfl

/-- What holds a reset lies in reset control, the time, the saves and the pieces (R567 to R569). -/
theorem State.noHold_of {s t : State} (h : s.noHold) (hrst : t.rst = s.rst) (htime : t.time = s.time)
    (hsaving : t.settings.saving = s.settings.saving) (hwriting : t.upd.writing = s.upd.writing) : t.noHold := by
  obtain ⟨hvaon, hheld, hpulse, hprogram, herase⟩ := h
  refine ⟨hrst ▸ hvaon, hrst ▸ hheld, ?_, ?_, hrst ▸ herase⟩
  · rwa [State.pulsing, hrst, htime]
  · rwa [State.programming, hsaving, hwriting]

theorem State.noHold_wr {s : State} (h : s.noHold) (r : ObjRow) (v : Int) (n i t j : Nat) : (s.wr r v n i t j).noHold :=
  State.noHold_of h (State.rst_wr ..) (State.time_wr ..) (State.saving_wr ..) (congrArg Update.writing (State.upd_wr ..))

/-! ### Events on a crossing -/

/-- An item is in flight on a crossing (R591). -/
def State.sent (s : State) (k : CrossKey) (v : Nat) : State := { s with crossings := s.crossings.put k { sentAt := s.time, value := v } }

/-- An event meets nothing on its crossing: it asserts its source (R591, R593). -/
theorem State.assertEvent_of_idle {s : State} {k : CrossKey} (h : s.crossings.find k = none) (r : ResetReq) :
    s.assertEvent k r = (s.sent k 0).assertReset r := by
  simp only [State.assertEvent, State.cross, h]
  rfl

/-- A watchdog's event that meets one held merges with it (R591). -/
theorem State.assertEvent_of_held {s : State} {k : Nat} {x : Crossing} {v : Nat} (hfind : s.crossings.find (.watchdog k) = some x)
    (hheld : x.held = some v) (htime : s.time < x.sentAt + 82) (r : ResetReq) : s.assertEvent (.watchdog k) r =
      ({ s with crossings := s.crossings.put (.watchdog k) { x with held := some 0 } } : State).count Obj.HW_EVENT_MERGES := by
  have hack : s.acknowledged (.watchdog k) x = (false, s) := by simp [State.acknowledged, CrossKey.window, htime]
  simp only [State.assertEvent, State.cross, hfind, hack, hheld, Option.isSome_some]

/-! ### Objects that a reset of MGMT reach leaves -/

/-- A store without the entries of some keys finds the others as before. -/
theorem FMap.find_filter_of_kept {κ α : Type} [DecidableEq κ] (m : FMap κ α) {p : κ → Bool} {k : κ} (h : p k = true) :
    FMap.find (m.filter fun e => p e.1) k = m.find k := by
  induction m with
  | nil => rfl
  | cons e m ih =>
    obtain ⟨a, v⟩ := e
    by_cases ha : a = k
    · subst ha
      simp [h, FMap.find]
    · by_cases hp : p a = true <;> simp [hp, FMap.find, ha, ih]

/-- Two states have the same objects of an area of the headworks. -/
def SameArea (a : Nat) (s t : State) : Prop := ∀ k : OKey, k.area = a → t.regs.find k = s.regs.find k

/-- The objects of a row lie in another area: a station's lie in areas 8 to 15 (R456). -/
def ObjRow.apart (r : ObjRow) (a : Nat) : Bool := if r.station then decide (a < 8) else decide (r.area ≠ a)

theorem ObjRow.key_area_ne {r : ObjRow} {a : Nat} (h : r.apart a = true) (n i t j : Nat) : (r.key n i t j).area ≠ a := by
  unfold ObjRow.apart at h
  simp only [ObjRow.key]
  split at h <;> simp_all
  omega

theorem ObjRow.apart_of_area {r : ObjRow} {a b : Nat} (hr : r.station = false ∧ r.area = b) (h : a < b) : r.apart a = true := by
  obtain ⟨hstation, harea⟩ := hr
  simp only [ObjRow.apart, hstation, harea, Bool.false_eq_true, if_false, decide_eq_true_eq]
  omega

section Area
variable {a : Nat} {s t u : State}

theorem SameArea.of_regs (h : t.regs = s.regs) : SameArea a s t := fun _ _ => by rw [h]

theorem SameArea.refl (s : State) : SameArea a s s := fun _ _ => rfl

theorem SameArea.trans (h : SameArea a s t) (g : SameArea a t u) : SameArea a s u := fun k hk => (g k hk).trans (h k hk)

theorem SameArea.rd (h : SameArea a s t) {r : ObjRow} (hr : r.station = false ∧ r.area = a) (n i q j : Nat) : t.rd r n i q j = s.rd r n i q j := by
  obtain ⟨hstation, harea⟩ := hr
  rw [State.rd, State.rd, h _ (by simp [ObjRow.key, hstation, harea])]

theorem SameArea.rdN (h : SameArea a s t) {r : ObjRow} (hr : r.station = false ∧ r.area = a) (n i q j : Nat) :
    t.rdN r n i q j = s.rdN r n i q j := congrArg Int.toNat (h.rd hr n i q j)

theorem SameArea.ite {p : Prop} [Decidable p] (h : SameArea a s t) (g : SameArea a s u) : SameArea a s (if p then t else u) := by
  split <;> assumption

theorem SameArea.each {α : Type} {g : State → α → State} {l : List α} (hg : ∀ u, ∀ x ∈ l, SameArea a u (g u x)) (h : SameArea a s t) :
    SameArea a s (t.each l g) := by
  induction l generalizing t with
  | nil => exact h
  | cons x l ih => exact ih (fun u y hy => hg u y (by simp [hy])) (h.trans (hg t x (by simp)))

theorem SameArea.wr {r : ObjRow} {v : Int} {n i q j : Nat} (hr : r.saved = false ∧ r.apart a = true) (h : SameArea a s t) :
    SameArea a s (t.wr r v n i q j) := by
  obtain ⟨hsaved, hrow⟩ := hr
  refine h.trans fun k hk => ?_
  rw [State.wr_find t r v n i q j k (.inl hsaved), if_neg]
  exact fun e => ObjRow.key_area_ne hrow n i q j (e ▸ hk)

theorem SameArea.count {r : ObjRow} {n i q j k : Nat} (hr : r.saved = false ∧ r.apart a = true) (h : SameArea a s t) :
    SameArea a s (t.count r n i q j k) := .wr hr h

theorem SameArea.toDefault {r : ObjRow} {n i q j : Nat} (hr : r.apart a = true) (h : SameArea a s t) : SameArea a s (t.toDefault r n i q j) :=
  h.trans fun _ hk => FMap.find_put_of_ne _ _ fun e => ObjRow.key_area_ne hr n i q j (e ▸ hk)

theorem SameArea.cvReset (u : Nat) (ha : a < 7) (h : SameArea a s t) : SameArea a s (t.cvReset u) := by
  have harea : ∀ r ∈ cvRows, r.station = false ∧ r.area = 7 := by decide
  have hrows : ∀ r ∈ cvRows, r.apart a = true := fun r hr => ObjRow.apart_of_area (harea r hr) ha
  have hfold : SameArea a s (t.each cvRows fun s r => if r.saved then s else s.toDefault r 0 u) :=
    .each (fun v r hr => .ite (.refl v) (.toDefault (hrows r hr) (.refl v))) h
  rw [State.each] at hfold
  unfold State.cvReset
  generalize cvRows.foldl (fun (s : State) r => if r.saved then s else s.toDefault r 0 u) t = v at hfold
  exact hfold

end Area

/-- A reset of MGMT reach leaves the objects of reset control (R551, R566). -/
theorem SameArea.mgmtDown (s : State) : SameArea 2 s s.mgmtDown := by
  have hclear : SameArea 2 s (s.clearObjects fun k => mgmtOwned k && !k.isSaved) := fun k hk =>
    FMap.find_filter_of_kept s.regs (p := fun k => !(mgmtOwned k && !k.isSaved)) (by simp [mgmtOwned, inBlock, hk])
  have hcv : ∀ u : State, SameArea 2 u
      ((u.each (List.range 16) fun s u => s.cvReset u).each (List.range 16) fun s u => s.toDefault Obj.CV_RUNS 0 u) := fun u =>
    .each (fun v i _ => .toDefault (by decide) (.refl v)) (.each (fun v i _ => .cvReset i (by decide) (.refl v)) (.refl u))
  have hready : ∀ u : State, SameArea 2 u (u.hwClear mgmtBits) := fun u =>
    .each (g := fun s b => s.hwReady b false) (fun v b _ => .wr (by decide) (.refl v)) (.refl u)
  have hparts : ∀ u : State, SameArea 2 u (u.translatorReset.updateMgmtReset.zeroMeasurement 2) := fun u => .of_regs rfl
  unfold State.mgmtDown
  dsimp only
  refine .wr (by decide) (SameArea.trans ?_ (hready _))
  refine SameArea.trans ?_ (hparts _)
  refine SameArea.trans ?_ (hcv _)
  generalize (s.clearObjects fun k => mgmtOwned k && !k.isSaved) = v at hclear
  exact hclear

/-- Of the objects of reset control, a source of MGMT reach applied writes its count and its cause alone (R551, R566, R581). -/
theorem State.find_applyAll_mgmt (s : State) {r : ResetReq} (h : r.reach = rMgmt) (held : Bool) {k : OKey} (harea : k.area = 2)
    (hcount : k ≠ Obj.RESETS_MGMT.key 0 0 512 0) (hcause : k ≠ Obj.RESET_CAUSE.key 0 0 512 0) (htime : k ≠ Obj.RESET_CAUSE_TIME.key 0 0 512 0) :
    (s.applyAll [r] held).regs.find k = s.regs.find k := by
  have happlied : ∀ u : State, (u.applyReset r).regs.find k = u.regs.find k := by
    intro u
    have hpins : ∀ v : State, (v.enterReset r).regs = v.regs := fun v => (State.pinsReset_each_frame v r.domains).regs (by decide)
    have hmgmt : (u.count Obj.RESETS_MGMT).mgmtDown.regs.find k = u.regs.find k :=
      (SameArea.mgmtDown _ k harea).trans ((State.wr_find u _ _ _ _ _ _ k (.inl rfl)).trans (if_neg hcount))
    rw [State.applyReset_mgmt u h, hpins]
    generalize (u.count Obj.RESETS_MGMT).mgmtDown = v at hmgmt
    exact hmgmt
  have hrecord : ∀ u : State, (u.recordCause [r] held).regs.find k = u.regs.find k := by
    intro u
    have hnarrow : r.reach ≠ rCold := by rw [h]; decide
    simp only [State.recordCause, List.foldl_nil, hnarrow, if_false]
    rw [State.wr_find _ _ _ _ _ _ _ k (.inl rfl), if_neg htime, State.wr_find _ _ _ _ _ _ _ k (.inl rfl), if_neg hcause]
  rw [s.applyAll_single (by rw [h]; decide) (by rw [h]; decide) (by simp [ResetReq.domains_mgmt h]), hrecord]
  split <;> exact happlied s.breakRelease

/-- The cause of a source applied alone, but for COLD (R566). -/
theorem State.rd_resetCause_applyAll (s : State) {r : ResetReq} (hlow : 2 ≤ r.reach) (hhigh : r.reach < 8) (hdom : r.domains ≠ [])
    (held : Bool) : (s.applyAll [r] held).rd Obj.RESET_CAUSE = (r.cause held : Nat) := by
  have hnarrow : r.reach ≠ rCold := by rw [rCold]; omega
  have hrecord : ∀ u : State, (u.recordCause [r] held).rd Obj.RESET_CAUSE = (r.cause held : Nat) := by
    intro u
    simp only [State.recordCause, List.foldl_nil, hnarrow, if_false]
    rw [State.rd_wr_of_ne _ _ _ _ _ _ _ _ _ _ _ _ (.inl rfl) (by decide), State.rd_wr_self _ _ _ _ _ _ _ (.inl rfl)]
  rw [s.applyAll_single (by omega) hhigh hdom, hrecord]

/-- A source of SEC reach applied (R410, R551). -/
theorem State.secEnded_applyAll (s : State) {r : ResetReq} (h : r.reach = rSec) (held : Bool) : (s.applyAll [r] held).rst.secEnded = false := by
  have happlied : ∀ u : State, (u.applyReset r).rst.secEnded = false := by
    intro u
    have hcold : r.reach ≠ rCold := by rw [h]; decide
    have hwarm : r.reach ≠ rWarm := by rw [h]; decide
    have hmgmt : r.reach ≠ rMgmt := by rw [h]; decide
    have happly : u.applyReset r = ({ (u.count Obj.RESETS_SEC).secRestart with
        rst := { (u.count Obj.RESETS_SEC).secRestart.rst with secEnded := false } } : State).enterReset r :=
      congrArg (State.enterReset · r) ((if_neg hcold).trans ((if_neg hwarm).trans ((if_neg hmgmt).trans (if_pos h))))
    rw [happly, State.enterReset_rst]
  rw [s.applyAll_single (by rw [h]; decide) (by rw [h]; decide) (by simp [ResetReq.domains_sec h]), State.rst_recordCause]
  split <;> exact happlied s.breakRelease

/-- A pulse of WARM reach takes the device to BOOTING (R551, R579). -/
theorem State.deviceState_applyAll_warm (s : State) {r : ResetReq} (h : r.reach = rWarm) (held : Bool) :
    (s.applyAll [r] held).rd Obj.DEVICE_STATE = 1 := by
  rw [s.applyAll_single (by rw [h]; decide) (by rw [h]; decide) (List.ne_nil_of_mem (ResetReq.mem_domains_warm h).1),
    State.deviceState_recordCause]
  split <;> exact (s.breakRelease.applyReset_warm h).2

/-! ### The commands -/

theorem exec_mgmtWatchdogExpiry {s : State} (hreset : s.rst.inReset.contains .mgmt = false) (hpowered : s.powered = true)
    (hstep : s.upd.mgmtStep = false) : exec .mgmtWatchdogExpiry s = .next (s.assertEvent (.watchdog 4) (s.request 4 none none)) := by
  refine congrArg Host.Outcome.next ((if_neg ?_).trans ?_)
  · rw [hreset, hpowered]; decide
  · simp only [hstep, Bool.false_eq_true, if_false]

theorem exec_stationWatchdogExpiry {s : State} {n : Fin 8} (hreset : s.rst.inReset.contains (.core n) = false)
    (hcore : (s.ctl n).coreOn = true) (htrial : s.updState ≠ upTrial) :
    exec (.stationWatchdogExpiry n) s = .next (s.assertReset (s.request 6 (some n) none)) := by
  have hwatched : s.stationWatched n = true := by rwa [State.stationWatched, hreset]
  refine congrArg Host.Outcome.next ((if_neg (by simp [hwatched])).trans ?_)
  simp only [htrial, decide_false, Bool.false_and, Bool.false_eq_true, if_false]

/-- The expiries of the secure watchdog within the last 600 s, the present one included (R411). -/
def State.secureExpiries (s : State) : List Nat := (s.sec.expiries ++ [s.time]).filter fun t => s.time < t + 600000000000

theorem State.length_secureExpiries (s : State) :
    s.secureExpiries.length = (s.sec.expiries.filter fun x => decide (s.time < x + 600000000000)).length + 1 := by
  simp [State.secureExpiries]

/-- The secure watchdog's expiries are recorded, with their count (R411). -/
def State.secureBarked (s : State) (l : List Nat) (v : Nat) : State :=
  ({ s with sec := { s.sec with expiries := l } } : State).wr Obj.SEC_WATCHDOG_EXPIRIES (v : Nat)

theorem State.noHold_secureBarked {s : State} (h : s.noHold) (l : List Nat) (v : Nat) : (s.secureBarked l v).noHold :=
  State.noHold_wr (s := { s with sec := { s.sec with expiries := l } }) h ..

theorem State.crossings_secureBarked (s : State) (l : List Nat) (v : Nat) : (s.secureBarked l v).crossings = s.crossings := State.crossings_wr ..

theorem State.deviceState_secureBarked (s : State) (l : List Nat) (v : Nat) : (s.secureBarked l v).deviceState = s.deviceState := by
  have hstate : (s.secureBarked l v).rd Obj.DEVICE_STATE = s.rd Obj.DEVICE_STATE :=
    State.rd_wr_of_ne _ _ _ _ _ _ _ _ _ _ _ _ (.inl rfl) (by decide)
  rw [State.deviceState, State.secureBarked, State.powered_wr, ← State.secureBarked, State.rdN, hstate]
  rfl

theorem exec_secureWatchdogExpiry {s : State} (hreset : s.rst.inReset.contains .sec = false) (hup : s.secUp = true) (hservice : s.deviceState = 2) :
    exec .secureWatchdogExpiry s = .next (if 3 ≤ s.secureExpiries.length
      then (s.secureBarked [] 0).assertEvent (.watchdog 5) { source := 5, reach := rWarm }
      else (s.secureBarked s.secureExpiries (min s.secureExpiries.length 2)).assertEvent (.watchdog 5)
        ((s.secureBarked s.secureExpiries (min s.secureExpiries.length 2)).request 5 none none)) := by
  refine congrArg Host.Outcome.next ((if_neg (by rw [hreset, hup]; decide)).trans ?_)
  exact if_congr (by simp [hservice, State.secureExpiries]) rfl rfl

theorem exec_heldResetApply {s : State} {r : ResetReq} (hheld : s.rst.held = [r]) :
    exec .heldResetApply s = .next (({ s with rst := { s.rst with held := [], pulseAt := none } } : State).applyAll [r] true) := by
  refine congrArg Host.Outcome.next ?_
  rw [hheld]
  rfl

theorem exec_eraseSuspendDone {s : State} {r : ResetReq} {a : Nat} (hsuspended : s.rst.suspended = [r]) (herase : s.rst.erase = some a) :
    exec .eraseSuspendDone s =
      .next ((({ s with rst := { s.rst with suspended := [], erase := none } } : State).wr Obj.ERASE_SUSPENDED (a : Nat)).applyAll [r] false) := by
  refine congrArg Host.Outcome.next ?_
  rw [hsuspended, herase]

theorem exec_eraseResume {s : State} (haddr : s.rdN Obj.ERASE_SUSPENDED ≠ 0xFFFFFFFF) (hready : s.isHwReady 4 = true)
    (hclock : s.hwGated 0 = false) (herase : s.rst.erase = none) : exec .eraseResume s =
      .next ((({ s with rst := { s.rst with erase := some (s.rdN Obj.ERASE_SUSPENDED) } } : State).wr Obj.ERASE_SUSPENDED 0xFFFFFFFF).emit
        (.flash "erase resume" (s.rdN Obj.ERASE_SUSPENDED))) :=
  congrArg Host.Outcome.next ((State.firmware_of_clocked hclock _).trans (if_neg (by simp [haddr, hready, herase])))

theorem exec_resetRequestApply {s : State} {r : ResetReq} {a : Nat} {l : List (Nat × ResetReq)} (hrequested : s.rst.requested = (a, r) :: l)
    (hdue : a + 1000000 ≤ s.time) :
    exec .resetRequestApply s = .next (({ s with rst := { s.rst with requested := l } } : State).assertReset r) := by
  refine congrArg Host.Outcome.next ?_
  rw [hrequested]
  exact if_pos hdue

/-- A request of MGMT reach with no hold is applied, brown-out's too, which finds no pulse to cut (R559, R568). -/
theorem State.mgmtApplied_assertReset_requested {s : State} (hold : s.noHold) {r : ResetReq} (h : r.reach = rMgmt) :
    (s.assertReset r).rst.requested = s.rst.requested ∧ Domain.mgmt ∈ (s.assertReset r).rst.inReset := by
  by_cases hsource : r.source = 1
  · obtain ⟨hvaon, -, hpulse, -, -⟩ := hold
    have hreach : r.reach ≠ 0 := by rw [h]; decide
    have hassert : s.assertReset r = ({ s with rst := { s.rst with held := [], suspended := [], erase := none } } : State).applyAll [r] false := by
      simp [State.assertReset, State.cutPulse, hsource, hreach, hvaon, hpulse]
    rw [hassert]
    have happlied := State.mgmtApplied_applyAll { s with rst := { s.rst with held := [], suspended := [], erase := none } } h false
    exact ⟨happlied.requested, happlied.mgmt⟩
  · have happlied := State.mgmtApplied_assertReset hold h hsource
    exact ⟨happlied.requested, happlied.mgmt⟩

/-- Settles O2: each command asserts or applies its source, and what the source's reach does gives the clause. -/
theorem watchdogsAndHeldResetsAct : Obligations.WatchdogsAndHeldResetsAct := by
  unfold Obligations.WatchdogsAndHeldResetsAct
  refine ⟨?mgmt, ?station, ?secure, ?third, ?held, ?suspended, ?resume, ?requested, ?merged⟩
  case mgmt =>
    intro s hold hservice hreset hpowered hstep hidle
    refine ⟨_, exec_mgmtWatchdogExpiry hreset hpowered hstep, ?_⟩
    rw [State.assertEvent_of_idle hidle, State.request_device hservice (by decide)]
    have happlied := State.mgmtApplied_assertReset (s := s.sent (.watchdog 4) 0) (r := { source := 4, reach := rMgmt }) hold rfl (by simp)
    exact ⟨happlied.mgmt, happlied.net, happlied.ended⟩
  case station =>
    intro s n hold hservice hreset hcore htrial
    refine ⟨_, exec_stationWatchdogExpiry hreset hcore htrial, ?_⟩
    rw [State.request_device hservice (by decide)]
    constructor <;>
      exact State.mem_inReset_assertReset hold (by simp [serviceReach, rStation]) (by simp [serviceReach, rStation]) (by simp)
        (by simp [ResetReq.domains, serviceReach, rStation, rCold, rWarm, rMgmt, rSec, rPort])
  case secure =>
    intro s hold hservice hreset hup hidle hfew
    refine ⟨_, exec_secureWatchdogExpiry hreset hup hservice, ?_⟩
    rw [if_neg (by rw [State.length_secureExpiries]; omega)]
    generalize min s.secureExpiries.length 2 = v
    generalize s.secureExpiries = l
    have hidle' : (s.secureBarked l v).crossings.find (.watchdog 5) = none := by rwa [State.crossings_secureBarked]
    have hservice' : (s.secureBarked l v).deviceState = 2 := by rwa [State.deviceState_secureBarked]
    have hold' : ((s.secureBarked l v).sent (.watchdog 5) 0).noHold := State.noHold_secureBarked hold l v
    rw [State.assertEvent_of_idle hidle', State.request_device hservice' (by decide), State.assertReset_of_noHold hold' (by decide) (by decide)]
    exact ⟨State.mem_inReset_applyAll _ (by decide) (by decide) (by decide) false, State.secEnded_applyAll _ rfl false⟩
  case third =>
    intro s hold hservice hreset hup hidle hmany
    refine ⟨_, exec_secureWatchdogExpiry hreset hup hservice, ?_⟩
    have hidle' : (s.secureBarked [] 0).crossings.find (.watchdog 5) = none := by rwa [State.crossings_secureBarked]
    have hold' : ((s.secureBarked [] 0).sent (.watchdog 5) 0).noHold := State.noHold_secureBarked hold [] 0
    rw [if_pos (by rw [State.length_secureExpiries]; omega), State.assertEvent_of_idle hidle',
      State.assertReset_of_noHold hold' (by decide) (by decide)]
    exact ⟨State.mem_inReset_applyAll _ (by decide) (by decide) (by decide) false,
      State.mem_inReset_applyAll _ (by decide) (by decide) (by decide) false, State.deviceState_applyAll_warm _ rfl false⟩
  case held =>
    intro s r hheld hreach
    have happlied := State.mgmtApplied_applyAll { s with rst := { s.rst with held := [], pulseAt := none } } hreach true
    exact ⟨_, exec_heldResetApply hheld, happlied.held, happlied.mgmt,
      State.rd_resetCause_applyAll _ (by rw [hreach]; decide) (by rw [hreach]; decide) (by simp [ResetReq.domains_mgmt hreach]) true⟩
  case suspended =>
    intro s r a hsuspended herase hreach
    have happlied := State.mgmtApplied_applyAll
      (({ s with rst := { s.rst with suspended := [], erase := none } } : State).wr Obj.ERASE_SUSPENDED (a : Nat)) hreach false
    refine ⟨_, exec_eraseSuspendDone hsuspended herase, ?_, ?_, happlied.mgmt, ?_⟩
    · rw [happlied.suspended, State.rst_wr]
    · rw [happlied.erase, State.rst_wr]
    · have haddr := State.find_applyAll_mgmt
        (({ s with rst := { s.rst with suspended := [], erase := none } } : State).wr Obj.ERASE_SUSPENDED (a : Nat)) hreach false
        (k := Obj.ERASE_SUSPENDED.key 0 0 512 0) rfl (by decide) (by decide) (by decide)
      rw [State.rd, haddr]
      exact State.rd_wr_self _ _ _ _ _ _ _ (.inl rfl)
  case resume =>
    intro s haddr hready hclock herase
    refine ⟨_, exec_eraseResume haddr hready hclock herase, ?_, ?_, ?_⟩
    · rw [State.rst_emit, State.rst_wr]
    · exact State.rd_wr_self _ _ _ _ _ _ _ (.inl rfl)
    · simp only [State.emit, State.out_wr]
  case requested =>
    intro s r a l hold hrequested hdue hreach
    exact ⟨_, exec_resetRequestApply hrequested hdue,
      State.mgmtApplied_assertReset_requested (s := { s with rst := { s.rst with requested := l } }) hold hreach⟩
  case merged =>
    intro s x h hpowered hreset hstep hfind hheld htime
    refine ⟨_, exec_mgmtWatchdogExpiry hreset hpowered hstep, ?_⟩
    rw [State.assertEvent_of_held hfind hheld htime]
    exact ⟨congrArg ResetCtl.inReset (State.rst_count ..), State.rd_wr_self _ _ _ _ _ _ _ (.inl rfl)⟩

end Sys2Proof.Machine

/-! The steps of an update: what starts one, what ends one, and what fails it (R536 to R545, R558). -/
namespace Sys2Proof.Machine

/-! ### The engine's objects -/

@[simp] theorem State.upd_setUpd (s : State) (v : Update) : (s.setUpd v).upd = v := rfl

theorem State.upd_syncStep (s : State) : s.syncStep.upd = s.upd := State.upd_wr ..

theorem State.rst_syncStep (s : State) : s.syncStep.rst = s.rst := State.rst_wr ..

theorem State.time_syncStep (s : State) : s.syncStep.time = s.time := State.time_wr ..

/-- Showing the step in progress leaves the engine's state (R550). -/
theorem State.rd_updateState_syncStep (s : State) : s.syncStep.rd Obj.UPDATE_STATE = s.rd Obj.UPDATE_STATE :=
  State.rd_wr_of_ne _ _ _ _ _ _ _ _ _ _ _ _ (.inl rfl) (by decide)

theorem State.updState_syncStep (s : State) : s.syncStep.updState = s.updState := congrArg Int.toNat s.rd_updateState_syncStep

theorem State.rd_updateStep_syncStep (s : State) : s.syncStep.rd Obj.UPDATE_STEP = ((match s.upd.wait, s.stepRank with
    | .sec, _ => 0x0F
    | .run, some r => (if s.updState = upReverting then s.upd.index - 1 else s.upd.index) * 16 + r
    | _, _ => 0xFF : Nat) : Int) := State.rd_wr_self _ _ _ _ _ _ _ (.inl rfl)

theorem State.rd_updateState_wr (s : State) (v : Nat) : (s.wr Obj.UPDATE_STATE v).rd Obj.UPDATE_STATE = v := State.rd_wr_self _ _ _ _ _ _ _ (.inl rfl)

/-- A step begins to wait for what it needs, and a step in progress runs. -/
theorem State.noHold_syncStep {s : State} (h : s.noHold) : s.syncStep.noHold := State.noHold_wr h ..

/-- Naming TRIAL slots changes the engine's own state alone, and of it the slots (R524). -/
theorem State.upd_nameTrial (s : State) (rank : Nat) : (s.nameTrial rank).upd = { s.upd with trial := (s.nameTrial rank).upd.trial } := rfl

/-! ### The ends of steps -/

theorem State.completeStep_next {s : State} (hstate : s.updState = upApplying) (hmore : s.upd.index + 1 < s.upd.plan.length) :
    s.completeStep = (s.setUpd { s.upd with mgmtStep := false, schemaDigest := none, index := s.upd.index + 1, swapped := 0 }).waitGap := by
  simp only [State.completeStep, hstate, if_true, hmore]

theorem State.completeStep_last {s : State} (hstate : s.updState = upApplying) (hlast : s.upd.plan.length ≤ s.upd.index + 1) :
    s.completeStep = ((s.setUpd { s.upd with mgmtStep := false, schemaDigest := none, index := s.upd.index + 1, swapped := 0,
                                             wait := .none, trialAt := s.time }).wr Obj.UPDATE_STATE (upTrial : Nat)).syncStep := by
  simp only [State.completeStep, hstate, if_true, Nat.not_lt.mpr hlast, if_false]
  rfl

theorem State.completeStep_back {s : State} (hstate : s.updState = upReverting) (hmore : 2 ≤ s.upd.index) :
    s.completeStep = (s.setUpd { s.upd with mgmtStep := false, schemaDigest := none, index := s.upd.index - 1, swapped := 8,
                                            reversed := 0 }).waitGap := by
  have happlying : upReverting ≠ upApplying := by decide
  have hfirst : ¬ s.upd.index ≤ 1 := by omega
  simp only [State.completeStep, hstate, happlying, if_true, if_false, hfirst]

/-- The gap begins now, and the engine's state stays (R536). -/
theorem State.waitGap_effect (s : State) : s.waitGap.upd = { s.upd with wait := .gap, since := s.time } ∧
    s.waitGap.rd Obj.UPDATE_STATE = s.rd Obj.UPDATE_STATE :=
  ⟨State.upd_syncStep _, State.rd_updateState_syncStep _⟩

/-- A failed update reverts, and keeps the code of its first failure (R544, R545). -/
theorem State.failUpdate_effect {s : State} (hstate : s.updState = upApplying) (code : Nat) :
    (s.failUpdate code).rd Obj.UPDATE_STATE = 6 ∧ (s.failUpdate code).upd.failure = some (s.upd.failure.getD code) ∧
      (s.failUpdate code).upd.wait = .gap ∧ (s.failUpdate code).upd.since = s.time := by
  have hrun : (decide (s.updState ≠ upApplying) && decide (s.updState ≠ upTrial)) = false := by simp [hstate]
  simp only [State.failUpdate, hrun, Bool.false_eq_true, if_false, State.upd_syncStep, State.upd_wr, State.rd_updateState_syncStep,
    State.rd_updateState_wr]
  exact ⟨rfl, rfl, rfl, rfl⟩

/-- Objects of the update engine and a record to a tenant or an enclave lie in different areas (R607, R612). -/
theorem SameArea.toTenant {a : Nat} {s t : State} (n : Nat) (r : Rec) (ha : a < 7) (h : SameArea a s t) : SameArea a s (t.toTenant n r) := by
  have hrow : ∀ r : ObjRow, r.station = false ∧ r.area = 7 → r.apart a = true := fun r hr => ObjRow.apart_of_area hr ha
  have hstored : SameArea a s ({ t with noteQ := t.noteQ.put n ((t.noteQ.getD n {}).putSmall Rec.prio 32 r).1 } : State) := h
  unfold State.toTenant State.countTenantItems
  dsimp only
  refine .wr ⟨rfl, hrow _ (by decide)⟩ (.wr ⟨rfl, hrow _ (by decide)⟩ (.ite (.count ⟨rfl, hrow _ (by decide)⟩ ?_) ?_)) <;> exact hstored

theorem SameArea.toEnclave {a : Nat} {s t : State} (e : Nat) (r : Rec) (ha : a < 7) (h : SameArea a s t) : SameArea a s (t.toEnclave e r) := by
  have hrow : Obj.ENCLAVE_NOTIFY_LOST.apart a = true := ObjRow.apart_of_area (by decide) ha
  have hstored : SameArea a s ({ t with encNoteQ := t.encNoteQ.put e ((t.encNoteQ.getD e {}).putSmall Rec.prio 32 r).1 } : State) := h
  unfold State.toEnclave
  exact .ite (.ite (.count ⟨rfl, hrow⟩ hstored) hstored) h

theorem SameArea.resultReady {a : Nat} {s t : State} (k : OKey) (v : ResultSt) (ha : a < 7) (h : SameArea a s t) :
    SameArea a s (t.resultReady k v) := by
  unfold State.resultReady
  dsimp only
  split
  exacts [.toTenant _ _ ha h, .toEnclave _ _ ha h, h, h, h, h]

theorem SameArea.completeResult {a : Nat} {s t : State} (r : ObjRow) (outcome n i q : Nat) (ha : a < 7) (h : SameArea a s t) :
    SameArea a s (t.completeResult r outcome n i q) := .resultReady _ _ ha (h.trans (.of_regs rfl))

/-- The end of an operation leaves the other objects of its area (R477). -/
theorem State.rd_finish_apart (s : State) {r q : ObjRow} {a : Nat} (hsaved : r.saved = false) (hq : q.station = false ∧ q.area = a) (ha : a < 7)
    (outcome : Nat) {n i t m i' t' j' : Nat} (hkey : q.key m i' t' j' ≠ r.key n i t 0) :
    (s.finish r outcome n i t).rd q m i' t' j' = s.rd q m i' t' j' :=
  ((SameArea.completeResult r outcome n i t ha (.refl _)).rd hq m i' t' j').trans
    (State.rd_wr_of_ne _ _ _ _ _ _ _ _ _ _ _ _ (.inl hsaved) hkey)

theorem State.upd_finish (s : State) (r : ObjRow) (outcome n i t : Nat) : (s.finish r outcome n i t).upd = s.upd :=
  (State.finish_frame s r outcome n i t (.refl _) (.refl _ s)) .update (by decide)

/-- The engine is IDLE at the end of an update, with no plan and no step (R536). -/
theorem State.endUpdate_effect (s : State) (outcome : Nat) : (s.endUpdate outcome).rd Obj.UPDATE_STATE = 0 ∧
    (s.endUpdate outcome).upd.plan = [] ∧ (s.endUpdate outcome).upd.wait = .none ∧ (s.endUpdate outcome).rd Obj.UPDATE_STEP = 255 := by
  unfold State.endUpdate
  dsimp only
  generalize hv : s.setUpd _ = v
  have hplan : v.upd.plan = [] := by subst hv; rfl
  have hwait : v.upd.wait = .none := by subst hv; rfl
  have hupd : (((v.wr Obj.UPDATE_STATE (upIdle : Nat)).finish Obj.UPDATE_RESULT outcome)).upd = v.upd :=
    (State.upd_finish ..).trans (State.upd_wr ..)
  refine ⟨?_, ?_, ?_, ?_⟩
  · rw [State.rd_updateState_syncStep, State.rd_finish_apart _ rfl ⟨rfl, rfl⟩ (by decide) outcome (by decide)]
    exact State.rd_updateState_wr v upIdle
  · rw [State.upd_syncStep, hupd, hplan]
  · rw [State.upd_syncStep, hupd, hwait]
  · rw [State.rd_updateStep_syncStep, hupd, hwait]
    rfl

/-! ### A control core reset alone -/

theorem State.mem_inReset_enterReset (s : State) (r : ResetReq) (d : Domain) :
    d ∈ (s.enterReset r).rst.inReset ↔ d ∈ s.rst.inReset ∨ d ∈ r.domains := by
  have hrst := (State.pinsReset_each_frame s r.domains).rst (by decide)
  simp only [State.enterReset, hrst, List.mem_append, List.mem_filter, Bool.not_eq_true', List.contains_eq_mem, decide_eq_false_iff_not]
  tauto

/-- The source of an STN swap: the control core of a station alone (R542, R558). -/
def swapSource (n : Nat) : ResetReq := { source := 11, reach := rStation, target := some n, coreOnly := true }

theorem swapSource_domains (n : Nat) : (swapSource n).domains = [.core n] := by
  simp [swapSource, ResetReq.domains, rStation, rCold, rWarm, rMgmt, rSec, rPort]

/-- It is no brown-out, and its reach is one of the eight (R554, R555). -/
theorem swapSource_reach (n : Nat) : 1 ≤ (swapSource n).reach ∧ (swapSource n).reach < 8 ∧ (swapSource n).source ≠ 1 :=
  (by decide : 1 ≤ rStation ∧ rStation < 8 ∧ 11 ≠ 1)

theorem State.applyReset_swapSource (s : State) (n : Nat) :
    s.applyReset (swapSource n) = ((s.count Obj.RESETS_STATION).coreDown n).enterReset (swapSource n) :=
  congrArg (State.enterReset · (swapSource n)) rfl

/-- The source of an STN swap resets the core, and leaves the station's functions and the update as they are (R558). -/
theorem State.applyAll_swapSource (s : State) (n : Nat) : (s.applyAll [swapSource n] false).upd = s.upd ∧
    Domain.core n ∈ (s.applyAll [swapSource n] false).rst.inReset ∧
    ∀ m, Domain.func m ∈ (s.applyAll [swapSource n] false).rst.inReset ↔ Domain.func m ∈ s.rst.inReset := by
  have hframe : ∀ u : State, Frame [.objects, .stations, .crossings] u ((u.count Obj.RESETS_STATION).coreDown n) := fun u =>
    State.coreDown_frame _ n (.refl _) (State.count_frame u Obj.RESETS_STATION 0 0 512 0 1 (by decide) (.refl _ u))
  have hrst : ∀ u : State, ((u.count Obj.RESETS_STATION).coreDown n).rst = u.rst := fun u => (hframe u).rst (by decide)
  have hupd : ∀ u : State, (u.applyReset (swapSource n)).upd = u.upd := fun u => by
    rw [State.applyReset_swapSource, State.upd_enterReset]
    exact (hframe u) .update (by decide)
  have hrecord : ∀ u : State, (u.recordCause [swapSource n] false).upd = u.upd :=
    fun u => (State.recordCause_frame u _ false (.refl _) (.refl _ u)) .update (by decide)
  have hfunc : ∀ m, Domain.func m ∈ (s.breakRelease.applyReset (swapSource n)).rst.inReset ↔ Domain.func m ∈ s.rst.inReset := by
    intro m
    rw [State.applyReset_swapSource, State.mem_inReset_enterReset, hrst, swapSource_domains, State.breakRelease]
    cases s.rst.release with
    | idle => simp
    | gap x => simp
    | step d => cases d <;> simp [Domain.waits]
  obtain ⟨hlow, hhigh, -⟩ := swapSource_reach n
  refine ⟨?_, State.mem_inReset_applyAll s hlow hhigh (by simp [swapSource_domains]) false, fun m => ?_⟩
  · rw [s.applyAll_single hlow hhigh (by simp [swapSource_domains]), hrecord]
    split <;> exact hupd s.breakRelease
  · rw [s.applyAll_single hlow hhigh (by simp [swapSource_domains]), State.rst_recordCause]
    split <;> exact hfunc m

/-! ### The commands -/

theorem exec_updateGapElapsed {s : State} (hclock : s.hwGated 0 = false) (hwait : s.upd.wait = .gap) (hready : s.isHwReady 11 = true)
    (hdue : s.upd.since + s.rdN Obj.STATION_GAP_MS * 1000000 ≤ s.time) : exec .updateGapElapsed s = .next s.startNext :=
  congrArg Host.Outcome.next ((State.firmware_of_clocked hclock _).trans (if_pos (by simp [hwait, hready, hdue])))

/-- The state in which a SEC step waits has the sponsors' records, the present time, and the step shown as 15 (R540, R550). -/
theorem State.waitSec_effect (s : State) : s.waitSec.upd.wait = .sec ∧ s.waitSec.upd.since = s.time ∧ s.waitSec.rd Obj.UPDATE_STEP = 15 := by
  unfold State.waitSec
  refine ⟨?_, ?_, ?_⟩
  · rw [State.upd_syncStep]; rfl
  · rw [State.upd_syncStep]
    exact State.each_keeps State.time (fun u t => (State.toTenant_frame u t _ (.refl _) (.refl _ u)) .clock (by decide)) _ _
  · rw [State.rd_updateStep_syncStep]; rfl

/-- The state in which a MGMT step asserts its reset (R537, R538). -/
def State.mgmtStepStarted (s : State) : State :=
  let digest := ((s.changed s.manifest).find? fun e => e.component = 4).map ManifestEntry.digest
  let (d, s) := s.drawBytes 48
  let digest := if s.updState = upReverting then digest.map fun _ => d else digest
  let s := s.nameTrial rkMgmt
  (s.setUpd { s.upd with wait := .run, since := s.time, mgmtStep := true, trialBoots := 0, handover := some s.writeHandover,
                         schemaDigest := digest }).syncStep

theorem State.mgmtStepStarted_effect (s : State) : s.mgmtStepStarted.upd.wait = .run ∧ s.mgmtStepStarted.upd.mgmtStep = true ∧
    s.mgmtStepStarted.upd.handover = some s.writeHandover := by
  unfold State.mgmtStepStarted
  dsimp only
  simp only [State.upd_syncStep]
  exact ⟨rfl, rfl, rfl⟩

theorem State.noHold_mgmtStepStarted {s : State} (h : s.noHold) : s.mgmtStepStarted.noHold :=
  State.noHold_syncStep (State.noHold_of h rfl rfl rfl rfl)

theorem State.startMgmt_eq (s : State) : s.startMgmt = s.mgmtStepStarted.assertReset { source := 11, reach := rMgmt } := rfl

/-- A reset of the management complex drops pieces not yet programmed, and of an update nothing else (R532, R549). -/
theorem Update.dropWrites_keeps (u : Update) : u.dropWrites.wait = u.wait ∧ u.dropWrites.mgmtStep = u.mgmtStep ∧
    u.dropWrites.handover = u.handover := by
  unfold Update.dropWrites
  dsimp only
  split
  · split <;> exact ⟨rfl, rfl, rfl⟩
  · exact ⟨rfl, rfl, rfl⟩

theorem State.setDone_effect (s : State) (k : Nat) : (s.setDone k).upd.index = s.upd.index ∧ (s.setDone k).updState = s.updState ∧
    (s.setDone k).time = s.time ∧ (s.setDone k).swapsDone = k := by
  have hstate : (s.setDone k).updState = s.updState := rfl
  refine ⟨?_, hstate, rfl, ?_⟩
  · simp only [State.setDone, State.upd_setUpd]
    split <;> rfl
  · rw [State.swapsDone, hstate]
    simp only [State.setDone, State.upd_setUpd]
    split <;> rfl

/-- A station's swap starts: the engine shows it, and the stations before it are done (R541 to R543). -/
theorem State.startNext_swap {s : State} {k : Nat} (hrank : s.stepRank = some rkStn) (hnext : s.nextSwap rkStn = some k) :
    s.startNext.upd.wait = .run ∧ s.startNext.upd.since = s.time ∧ s.startNext.swapsDone = k ∧ s.startNext.upd.index = s.upd.index := by
  obtain ⟨hindex, -, htime, hdone⟩ := s.setDone_effect k
  have hsec : rkStn ≠ rkSec := by decide
  have hmgmt : rkStn ≠ rkMgmt := by decide
  simp only [State.startNext, hrank, hsec, hmgmt, if_false, hnext]
  generalize hu : (if (s.setDone k).swapsDone = 0 then (s.setDone k).nameTrial rkStn else s.setDone k) = u
  have hkept : u.upd.index = (s.setDone k).upd.index ∧ u.time = (s.setDone k).time ∧ u.swapsDone = (s.setDone k).swapsDone := by
    subst hu
    split <;> exact ⟨rfl, rfl, rfl⟩
  obtain ⟨hindex', htime', hdone'⟩ := hkept
  refine ⟨?_, ?_, ?_, ?_⟩
  · rw [State.upd_syncStep]; rfl
  · rw [State.upd_syncStep]; exact htime'.trans htime
  · rw [State.swapsDone, State.updState_syncStep, State.upd_syncStep]
    exact hdone'.trans hdone
  · rw [State.upd_syncStep]; exact hindex'.trans hindex

theorem exec_secWaitEnd {s : State} (hclock : s.hwGated 0 = false) (hwait : s.upd.wait = .sec) (hempty : s.liveEnclaves = []) :
    exec .secWaitEnd s = .next s.startSec :=
  congrArg Host.Outcome.next ((State.firmware_of_clocked hclock _).trans (if_pos (by simp [hwait, hempty])))

theorem exec_secStepDone {s : State} (trial : Bool) (hwait : s.upd.wait = .run) (hrank : s.stepRank = some rkSec) (hup : s.secUp = true)
    (hrestart : s.sec.restarting = false) (hstate : s.updState = upApplying) :
    exec (.secStepDone trial) s = .next (if trial = true then s.completeStep else s.failUpdate 3) := by
  refine congrArg Host.Outcome.next ((if_neg (by simp [hwait, hrank, hup, hrestart])).trans ?_)
  exact if_congr (by simp [hstate, upApplying, upReverting]) rfl rfl

/-- A completed MGMT step forward, without a new schema and without withdrawal (R537, R547). -/
theorem exec_mgmtStepDone {s : State} {schema : Bytes} {converted : List (Nat × GroupRec)} {translator : Nat} (hclock : s.hwGated 0 = false)
    (hstep : s.upd.mgmtStep = true) (hready : s.isHwReady 4 = true) (hrank : s.stepRank = some rkMgmt) (hforward : s.updState ≠ upReverting)
    (hwithdraw : s.manifest.withdraw = false) (hschema : ((s.changed s.manifest).any fun e => e.component = 4) = false) :
    exec (.mgmtStepDone schema converted translator) s = .next
      (((s.each (List.range 8) fun u n => u.wr Obj.TRANSLATOR_VERSION (translator : Nat) n).each (List.range 8) fun u n =>
        u.retranslateOld n translator).completeStep) := by
  refine congrArg Host.Outcome.next ((State.firmware_of_clocked hclock _).trans ((if_neg (by simp [hstep, hready, hrank])).trans ?_))
  have hblobs : ((s.each (List.range 8) fun u n => u.wr Obj.TRANSLATOR_VERSION (translator : Nat) n).each (List.range 8) fun u n =>
      u.retranslateOld n translator).blobs = s.blobs :=
    (State.each_keeps State.blobs (g := fun u n => u.retranslateOld n translator) (fun _ _ => rfl) _ _).trans
      (State.each_keeps State.blobs (fun u n => State.blobs_wr u _ _ n 0 512 0) s _)
  simp only [hforward, decide_false, Bool.false_eq_true, if_false, hschema]
  generalize (s.each (List.range 8) fun u n => u.wr Obj.TRANSLATOR_VERSION (translator : Nat) n).each (List.range 8) (fun u n =>
      u.retranslateOld n translator) = v at hblobs
  have hwithdraw' : v.manifest.withdraw = false := by
    rw [State.manifest, State.blob, hblobs]
    exact hwithdraw
  simp only [hwithdraw', Bool.not_false, Bool.true_and, Bool.false_eq_true, if_false]

theorem State.swapping_of {s : State} {n : Nat} (hwait : s.upd.wait = .run) (hrank : s.stepRank = some rkStn) (hnext : s.nextSwap rkStn = some n) :
    s.swapping rkStn = some n := (if_pos (by simp [hwait, hrank])).trans hnext

theorem exec_stnSwapStart {s : State} {n : Nat} (hswap : s.swapping rkStn = some n) (hcore : (s.ctl n).coreOn = true)
    (hinstant : s.swapInstant n = true) :
    exec .stnSwapStart s = .next ((s.setUpd { s.upd with since := s.time }).assertReset (swapSource n)) := by
  refine congrArg Host.Outcome.next ?_
  rw [hswap]
  exact if_pos (by simp [hcore, hinstant])

theorem exec_stnSwapDone {s : State} {n : Nat} (hswap : s.swapping rkStn = some n) (hcore : (s.ctl n).coreOn = true) :
    exec .stnSwapDone s = .next ((s.stReady n 1 true).swapDone rkStn n) := by
  refine congrArg Host.Outcome.next ?_
  rw [hswap]
  exact if_pos hcore

/-- A station's core is out of reset again, and goes on on the old image (R544). -/
def State.coreBack (s : State) (n : Nat) : State :=
  let s := s.setCtl n { s.ctl n with coreOn := true }
  ({ s with rst := { s.rst with inReset := s.rst.inReset.filter (· ≠ .core n) } } : State).stReady n 1 true

theorem exec_stnSwapTimeout {s : State} {n : Nat} (hswap : s.swapping rkStn = some n) (hdue : s.upd.since + 10000000 ≤ s.time)
    (hready : s.isStReady n 1 = false) : exec .stnSwapTimeout s = .next ((s.coreBack n).failUpdate 4) := by
  refine congrArg Host.Outcome.next ?_
  rw [hswap]
  exact if_neg (by simp [hdue, hready])

theorem State.updState_coreBack (s : State) (n : Nat) : (s.coreBack n).updState = s.updState :=
  congrArg Int.toNat (State.rd_wr_of_ne _ _ _ _ _ _ _ _ _ _ _ _ (.inl rfl) (by simp [ObjRow.key, Obj.UPDATE_STATE, Obj.READY_STATION]))

/-- A failing update touches neither the cores nor reset control (R544). -/
theorem State.failUpdate_frame_of (s : State) (code : Nat) : (s.failUpdate code).stn = s.stn ∧ (s.failUpdate code).rst = s.rst := by
  have hframe := State.failUpdate_frame s code (.refl _) (.refl _ s)
  exact ⟨hframe .stations (by decide), hframe.rst (by decide)⟩

theorem exec_revertStepDone_sec {s : State} (hstate : s.updState = upReverting) (hwait : s.upd.wait = .run) (hrank : s.stepRank = some rkSec)
    (hup : s.secUp = true) (hrestart : s.sec.restarting = false) : exec .revertStepDone s = .next s.completeStep := by
  refine congrArg Host.Outcome.next ((if_neg (by simp [hstate])).trans ?_)
  rw [hrank]
  exact (if_neg (by simp [hwait])).trans ((if_pos rfl).trans (if_pos (by simp [hup, hrestart])))

theorem exec_revertStepDone_end {s : State} (hstate : s.updState = upReverting) (hrank : s.stepRank = none) :
    exec .revertStepDone s = .next (s.endUpdate (s.upd.failure.getD 7)) := by
  refine congrArg Host.Outcome.next ((if_neg (by simp [hstate])).trans ?_)
  rw [hrank]

/-- Settles O37: each command's equation names how its step starts, ends or fails, and the lemma about that end gives the clause. -/
theorem updateStepsRun : Obligations.UpdateStepsRun := by
  unfold Obligations.UpdateStepsRun
  refine ⟨?secWaits, ?mgmt, ?stn, ?secStarts, ?next, ?last, ?refused, ?mgmtDone, ?swapStart, ?swapDone, ?timeout, ?back, ?ended⟩
  case secWaits =>
    intro s hclock hwait hready hdue hrank
    refine ⟨_, exec_updateGapElapsed hclock hwait hready hdue, ?_⟩
    rw [show s.startNext = s.waitSec by simp only [State.startNext, hrank, if_true]]
    exact s.waitSec_effect
  case mgmt =>
    intro s hclock hwait hready hdue hrank hold
    refine ⟨_, exec_updateGapElapsed hclock hwait hready hdue, ?_⟩
    have happlied := State.mgmtApplied_assertReset (State.noHold_mgmtStepStarted hold) (r := { source := 11, reach := rMgmt }) rfl (by decide)
    have hkeeps := Update.dropWrites_keeps s.mgmtStepStarted.upd
    obtain ⟨hrun, hstep, hhandover⟩ := s.mgmtStepStarted_effect
    have hsec : rkMgmt ≠ rkSec := by decide
    rw [show s.startNext = s.startMgmt by simp only [State.startNext, hrank, hsec, if_true, if_false], State.startMgmt_eq]
    rw [← happlied.upd] at hkeeps
    obtain ⟨hwait', hstep', hhandover'⟩ := hkeeps
    exact ⟨hwait'.trans hrun, hstep'.trans hstep, hhandover'.trans hhandover, happlied.mgmt⟩
  case stn =>
    intro s k hclock hwait hready hdue hrank hnext
    exact ⟨_, exec_updateGapElapsed hclock hwait hready hdue, State.startNext_swap hrank hnext⟩
  case secStarts =>
    intro s hclock hwait hempty
    exact ⟨_, exec_secWaitEnd hclock hwait hempty, rfl⟩
  case next =>
    rintro s trial hwait hrank hup hrestart rfl hstate hmore
    refine ⟨_, exec_secStepDone true hwait hrank hup hrestart hstate, ?_⟩
    rw [if_pos rfl, State.completeStep_next hstate hmore]
    obtain ⟨hupd, hrd⟩ := (s.setUpd { s.upd with mgmtStep := false, schemaDigest := none, index := s.upd.index + 1, swapped := 0 }).waitGap_effect
    exact ⟨by rw [hupd]; rfl, by rw [hupd], by rw [hupd]; rfl, hrd⟩
  case last =>
    rintro s trial hwait hrank hup hrestart rfl hstate hlast
    refine ⟨_, exec_secStepDone true hwait hrank hup hrestart hstate, ?_⟩
    rw [if_pos rfl, State.completeStep_last hstate hlast]
    refine ⟨?_, ?_, (State.rd_updateState_syncStep _).trans (State.rd_updateState_wr _ _)⟩ <;> rw [State.upd_syncStep, State.upd_wr] <;> rfl
  case refused =>
    rintro s trial hwait hrank hup hrestart rfl hstate
    refine ⟨_, exec_secStepDone false hwait hrank hup hrestart hstate, ?_⟩
    rw [if_neg (by simp)]
    exact State.failUpdate_effect hstate 3
  case mgmtDone =>
    intro s schema converted translator hclock hstep hready hrank hforward hwithdraw hschema
    exact ⟨_, exec_mgmtStepDone hclock hstep hready hrank hforward hwithdraw hschema, rfl⟩
  case swapStart =>
    intro s n hwait hrank hnext hcore hinstant hold _
    refine ⟨_, exec_stnSwapStart (State.swapping_of hwait hrank hnext) hcore hinstant, ?_⟩
    have hold' : (s.setUpd { s.upd with since := s.time }).noHold := hold
    obtain ⟨hupd, hreset, hfunc⟩ := (s.setUpd { s.upd with since := s.time }).applyAll_swapSource n
    obtain ⟨hlow, -, hsource⟩ := swapSource_reach n
    rw [State.assertReset_of_noHold hold' (by omega) hsource]
    exact ⟨by rw [hupd]; rfl, hreset, hfunc n⟩
  case swapDone =>
    intro s n hwait hrank hnext hcore
    exact ⟨_, exec_stnSwapDone (State.swapping_of hwait hrank hnext) hcore, rfl⟩
  case timeout =>
    intro s n hwait hrank hnext hdue hready hstate
    refine ⟨_, exec_stnSwapTimeout (State.swapping_of hwait hrank hnext) hdue hready, ?_⟩
    obtain ⟨hstate', hfailure, -, -⟩ := State.failUpdate_effect ((s.updState_coreBack n).trans hstate) 4
    obtain ⟨hstn, hrst⟩ := (s.coreBack n).failUpdate_frame_of 4
    have hupd : (s.coreBack n).upd = s.upd := State.upd_wr ..
    refine ⟨?_, ?_, hstate', ?_⟩
    · rw [State.ctl, hstn, State.coreBack, State.stReady, State.stn_wr]
      simp [State.setCtl, FMap.getD_put]
    · rw [hrst, State.coreBack, State.stReady, State.rst_wr]
      simp
    · rw [hfailure, hupd]
  case back =>
    intro s hstate hwait hrank hup hrestart hmore
    refine ⟨_, exec_revertStepDone_sec hstate hwait hrank hup hrestart, ?_⟩
    rw [State.completeStep_back hstate hmore]
    obtain ⟨hupd, hrd⟩ := (s.setUpd { s.upd with mgmtStep := false, schemaDigest := none, index := s.upd.index - 1, swapped := 8,
                                                 reversed := 0 }).waitGap_effect
    exact ⟨by rw [hupd]; rfl, by rw [hupd], by rw [hupd]; rfl, hrd⟩
  case ended =>
    intro s hstate hrank
    exact ⟨_, exec_revertStepDone_end hstate hrank, s.endUpdate_effect _⟩

end Sys2Proof.Machine

/-! Attestation, debug unlock and the JTAG port (R387, R412 to R414). -/
namespace Sys2Proof.Machine

/-- The effect of a request that is served and that the checks of R461 allow, of an object that takes bytes. -/
theorem exec_attestChallenge {s : State} {who : Requester} {nonce : Bytes} (hserved : s.served who = true)
    (haccess : s.checkAccess who Obj.ATTEST_CHALLENGE true = none) (hlength : nonce.length = 32) (hready : s.isHwReady 2 = true)
    (hidle : s.isPending Obj.ATTEST_REPORT = false) : exec (.attestChallenge who nonce) s =
      .next ((({ s with sec := { s.sec with attest := some nonce } } : State).startResult Obj.ATTEST_REPORT who).answer .ok) := by
  refine congrArg Host.Outcome.next ((State.onRequest_of_served hserved _).trans ?_)
  rw [haccess]
  exact (if_neg (by simp [hlength])).trans ((State.guarded_of_hwReady hready _).trans (if_neg (by simp [hidle])))

theorem exec_attestReportDone {s : State} {nonce : Bytes} (hattest : s.sec.attest = some nonce) : exec .attestReportDone s =
    .next ((({ s with sec := { s.sec with attest := none } } : State).wrBlob Obj.ATTEST_REPORT
      (s.reportBody nonce ++ Config.ecdsaSign Config.attestKey (Config.sha384 (s.reportBody nonce)))).completeResult Obj.ATTEST_REPORT 0) := by
  refine congrArg Host.Outcome.next ?_
  rw [hattest]

theorem exec_debugChallenge {s : State} {who : Requester} (hserved : s.served who = true) (haccess : s.checkAccess who Obj.DEBUG_CHALLENGE false = none) :
    exec (.debugChallenge who) s = .next
      (({ (s.drawBytes 32).2 with sec := { (s.drawBytes 32).2.sec with nonce := some (s.drawBytes 32).1 } } : State).answer .ok (s.drawBytes 32).1) :=
  congrArg Host.Outcome.next (State.onRead_of_allowed hserved haccess _)

/-- Failures in a row after a response with its outcome: OK ends the row, a response while debug is locked does not count (R413). -/
def State.failsAfter (s : State) (o : Nat) : Nat := if o = 0 then 0 else if o = 4 then s.sec.fails else s.sec.fails + 1

/-- A response is judged: the row of failures and the lockout follow, and its result stands (R413). -/
def State.debugJudged (s : State) (who : Requester) (o : Nat) : State :=
  ((({ s with sec := { s.sec with
      fails := if 3 ≤ s.failsAfter o then 0 else s.failsAfter o
      lockedAt := if o = 4 then s.sec.lockedAt else if 3 ≤ s.failsAfter o then some s.time else none } } : State).startResult
    Obj.DEBUG_RESULT who).finish Obj.DEBUG_RESULT o 0 0 512).answer .ok

theorem exec_debugResponse {s : State} {who : Requester} {data : Bytes} (hserved : s.served who = true)
    (haccess : s.checkAccess who Obj.DEBUG_RESPONSE true = none) (hlength : data.length = 97) (hready : s.isHwReady 2 = true) :
    exec (.debugResponse who data) s = .next (if s.debugOutcome data = 0 then (s.debugJudged who (s.debugOutcome data)).openLevel (byteAt data 0)
      else s.debugJudged who (s.debugOutcome data)) := by
  refine congrArg Host.Outcome.next ((State.onRequest_of_served hserved _).trans ?_)
  rw [haccess]
  exact (if_neg (by simp [hlength])).trans (State.guarded_of_hwReady hready _)

theorem exec_debugLockoutEnd {s : State} {a : Nat} (hlocked : s.sec.lockedAt = some a) (hdue : a + 60000000000 ≤ s.time) :
    exec .debugLockoutEnd s = .next { s with sec := { s.sec with lockedAt := none } } :=
  congrArg Host.Outcome.next (if_pos (by simp [State.debugLocked, hlocked, hdue]))

/-- What an instruction selects with some levels open (R412, R414). -/
def jtagSelected (opened : List Nat) : JtagInstr → String
  | .idcode => "IDCODE"
  | .boundary => if opened.contains 1 || opened.contains 3 then "BOUNDARY" else "BYPASS"
  | .systemDebug => if opened.contains 2 || opened.contains 3 then "SYSTEM DEBUG" else "BYPASS"
  | .secureDebug => if opened.contains 3 then "SECURE DEBUG" else "BYPASS"
  | .bypass | .other => "BYPASS"

theorem exec_jtagInstruction {s : State} (ins : JtagInstr) (hvaon : s.rst.vaon = true) :
    exec (.jtagInstruction ins) s = .next (s.emit (.jtag (jtagSelected s.sec.opened ins))) := by
  refine congrArg Host.Outcome.next ((if_pos hvaon).trans ?_)
  cases ins <;> rfl

/-- Settles O26: each command's equation is its clause; an instruction selects by the levels open. -/
theorem attestationAndDebugAct : Obligations.AttestationAndDebugAct := by
  unfold Obligations.AttestationAndDebugAct
  refine ⟨?attest, ?report, ?challenge, ?response, ?lockout, ?idcode, ?bypass, ?other, ?boundary, ?system, ?secure⟩
  case attest =>
    intro s who nonce hserved haccess hlength hready hidle
    exact ⟨_, exec_attestChallenge hserved haccess hlength hready hidle, rfl⟩
  case report =>
    intro s nonce hattest
    exact ⟨_, exec_attestReportDone hattest, rfl⟩
  case challenge =>
    intro s who hserved haccess
    exact ⟨_, exec_debugChallenge hserved haccess, rfl⟩
  case response =>
    intro s who data hserved haccess hlength hready
    exact ⟨_, exec_debugResponse hserved haccess hlength hready, rfl⟩
  case lockout =>
    intro s a hlocked hdue
    exact ⟨_, exec_debugLockoutEnd hlocked hdue, rfl⟩
  all_goals
    rintro s ins hvaon rfl
    exact ⟨_, exec_jtagInstruction _ hvaon, rfl⟩

end Sys2Proof.Machine

/-! The life of an enclave, and the scrub after a restart (R389 to R399, R402, R410, R414). -/
namespace Sys2Proof.Machine

/-! ### Commands -/

theorem State.onEnclave_of_ready {s : State} {who : Requester} {e v : Nat} (haccept : s.accepts who Obj.ENCLAVE_COMMAND v 0 e)
    (hready : s.isHwReady 2 = true) (f : State → State) : s.onEnclave who e v f = f s :=
  (State.onWrite_of_accepts haccept _).trans (State.guarded_of_hwReady hready f)

theorem exec_enclaveCreate {s : State} {who : Requester} {e : Fin 64} (haccept : s.accepts who Obj.ENCLAVE_COMMAND 1 0 e)
    (hready : s.isHwReady 2 = true) (hidle : s.isPending Obj.ENCLAVE_RESULT 0 e = false) : exec (.enclaveCreate who e) s =
      .next (if s.createOutcome e = 0 then ((s.startResult Obj.ENCLAVE_RESULT who 0 e).setEnclave e enLoading).answer .ok
        else ((s.startResult Obj.ENCLAVE_RESULT who 0 e).finish Obj.ENCLAVE_RESULT (s.createOutcome e) 0 e).answer .ok) :=
  congrArg Host.Outcome.next ((State.onEnclave_of_ready haccept hready _).trans (if_neg (by simp [hidle])))

theorem exec_enclaveStart {s : State} {who : Requester} {e : Fin 64} (haccept : s.accepts who Obj.ENCLAVE_COMMAND 2 0 e)
    (hready : s.isHwReady 2 = true) (hstate : s.enclaveState e = enStopped) : exec (.enclaveStart who e) s =
      .next ((((s.setEcl e { s.ecl e with entered := true }).setEnclave e enRunning).schedule e).answer .ok) :=
  congrArg Host.Outcome.next ((State.onEnclave_of_ready haccept hready _).trans (if_pos hstate))

theorem exec_enclaveStop {s : State} {who : Requester} {e : Fin 64} (haccept : s.accepts who Obj.ENCLAVE_COMMAND 3 0 e)
    (hready : s.isHwReady 2 = true) (hstate : s.enclaveState e = enRunning) :
    exec (.enclaveStop who e) s = .next (((s.unschedule e).setEnclave e enStopped).answer .ok) :=
  congrArg Host.Outcome.next ((State.onEnclave_of_ready haccept hready _).trans (if_pos hstate))

theorem State.askDestroy_of_live {s : State} {e : Nat} (hstate : s.enclaveState e = enStopped ∨ s.enclaveState e = enRunning) :
    s.askDestroy e = (s.destroyEnclave e).answer .ok := if_pos (by simpa using hstate)

theorem exec_enclaveCommandDestroy {s : State} {who : Requester} {e : Fin 64} (haccept : s.accepts who Obj.ENCLAVE_COMMAND 4 0 e)
    (hready : s.isHwReady 2 = true) (hstate : s.enclaveState e = enStopped ∨ s.enclaveState e = enRunning) :
    exec (.enclaveCommandDestroy who e) s = .next ((s.destroyEnclave e).answer .ok) :=
  congrArg Host.Outcome.next ((State.onEnclave_of_ready haccept hready _).trans (State.askDestroy_of_live hstate))

theorem exec_enclaveDestroy {s : State} {who : Requester} {e : Fin 64} (haccept : s.accepts who Obj.ENCLAVE_DESTROY 1 0 e)
    (hready : s.isHwReady 2 = true) (hstate : s.enclaveState e = enStopped ∨ s.enclaveState e = enRunning) :
    exec (.enclaveDestroy who e true) s = .next ((s.destroyEnclave e).answer .ok) :=
  congrArg Host.Outcome.next ((State.onWrite_of_accepts haccept _).trans
    ((if_pos rfl).trans ((State.guarded_of_hwReady hready _).trans (State.askDestroy_of_live hstate))))

/-! ### The end of loading -/

/-- The bytes of an enclave's image as far as its code size goes, and the part that its signature covers (R389). -/
def State.imageRead (s : State) (e : Nat) : Bytes := s.imageAt e (0x40 + imageCodeSize (s.imageAt e 64) + 96)
def State.imageSigned (s : State) (e : Nat) : Bytes := (s.imageRead e).take (0x40 + imageCodeSize (s.imageAt e 64))

/-- The image is laid out as R389 gives, and range 0 holds its code. -/
def State.imageFits (s : State) (e : Nat) : Bool := imageFormatOk (s.imageRead e) && s.range0Ok e (imageCodeSize (s.imageAt e 64))

/-- The image is signed under the key, whose hash is the authority's (R390). -/
def State.imageVerifies (s : State) (e : Nat) (key : Bytes) : Bool :=
  Config.sha384 key = s.blob Obj.ENCLAVE_AUTHORITY_HASH && Config.ecdsaVerify key (Config.sha384 (s.imageSigned e))
    ((s.imageRead e).drop (0x40 + imageCodeSize (s.imageAt e 64)))

/-- A loaded image: the code in range 0, a fresh key, the enclave STOPPED with its identity (R391, R393). -/
def State.imageLoaded (s : State) (e : Nat) : State :=
  let base := bits 39 12 (s.rdN Obj.RANGE 0 e 512 0) * 4096
  let (k, s') := (s.store sramLoc base ((s.imageSigned e).drop 0x40)).drawBytes 64
  let s' : State := { s' with encKey := s'.encKey.put e k }
  ((s'.setEcl e {}).setEnclave e enStopped).wrBlob Obj.ENCLAVE_IDENTITY (Config.sha384 (s.imageSigned e)) 0 e

/-- The sponsor, where there is one, is sealed (R393). -/
def State.sponsorSealed (s : State) (e : Nat) : State :=
  if s.rdN Obj.SPONSOR 0 e < 512 then s.wr Obj.SEALED 1 0 0 (s.rdN Obj.SPONSOR 0 e) else s

/-- Loading has failed: range 0 is zero, the enclave EMPTY (R391). -/
def State.loadFailed (s : State) (e : Nat) : State :=
  (((s.zeroMem sramLoc (bits 39 12 (s.rdN Obj.RANGE 0 e 512 0) * 4096) (bits 63 40 (s.rdN Obj.RANGE 0 e 512 0) * 4096)).setEnclave e
    enEmpty).finish Obj.ENCLAVE_RESULT 7 0 e).openSystem

/-- The end of an operation leaves the secure complex's own state. -/
theorem State.sec_finish (s : State) (r : ObjRow) (outcome n i t : Nat) : (s.finish r outcome n i t).sec = s.sec :=
  (State.finish_frame s r outcome n i t (.refl _) (.refl _ s)) .secure (by decide)

theorem State.sec_sponsorSealed (s : State) (e : Nat) : (s.sponsorSealed e).sec = s.sec := by
  unfold State.sponsorSealed
  split
  · exact State.sec_wr ..
  · rfl

theorem State.unlocking_imageLoaded (s : State) (e : Nat) : (s.imageLoaded e).sec.unlocking = s.sec.unlocking := by
  have hblob : ∀ (u : State) (b : Bytes), (u.wrBlob Obj.ENCLAVE_IDENTITY b 0 e).sec = u.sec := fun _ _ => rfl
  unfold State.imageLoaded
  dsimp only
  rw [hblob, State.setEnclave, State.sec_wr]
  rfl

theorem exec_enclaveLoadDone {s : State} {e : Fin 64} {key : Bytes} (hstate : s.enclaveState e = enLoading) (hruns : s.secRuns = true)
    (hunlock : s.imageFits e = true → s.sec.unlocking = false) : exec (.enclaveLoadDone e key) s =
      .next (if (s.imageFits e && s.imageVerifies e key) = true then ((s.imageLoaded e).sponsorSealed e).finish Obj.ENCLAVE_RESULT 0 0 e
        else s.loadFailed e) := by
  have hgood : (imageFormatOk (s.imageRead e) && s.range0Ok e (imageCodeSize (s.imageAt e 64)) &&
      decide (Config.sha384 key = s.blob Obj.ENCLAVE_AUTHORITY_HASH) && Config.ecdsaVerify key (Config.sha384 (s.imageSigned e))
        ((s.imageRead e).drop (0x40 + imageCodeSize (s.imageAt e 64)))) = (s.imageFits e && s.imageVerifies e key) := by
    simp only [State.imageFits, State.imageVerifies, Bool.and_assoc]
  refine congrArg Host.Outcome.next ((if_neg (by simp [hstate, hruns])).trans ?_)
  by_cases hverified : (s.imageFits e && s.imageVerifies e key) = true
  · have hsec : (((s.imageLoaded e).sponsorSealed e).finish Obj.ENCLAVE_RESULT 0 0 e).sec.unlocking = false := by
      rw [State.sec_finish, State.sec_sponsorSealed, State.unlocking_imageLoaded, hunlock (by simp_all)]
    rw [if_pos hverified]
    exact (if_pos (hgood.trans hverified)).trans (if_neg (by rw [Bool.not_eq_true]; exact hsec))
  · rw [if_neg hverified]
    exact if_neg (by rw [← hgood] at hverified; exact hverified)

/-! ### Destruction, the cores, and the sponsor's messages -/

theorem exec_enclaveDestroyDone {s : State} {e : Fin 64} (hstate : s.enclaveState e = enDestroying) (hruns : s.secRuns = true)
    (hheld : s.heldBlocks e = []) : exec (.enclaveDestroyDone e) s =
      .next ((((s.scrubRanges (s.enclaveRanges e)).forgetEnclave e).tellEnclaveLost e (s.rdN Obj.SPONSOR 0 e))).openSystem :=
  congrArg Host.Outcome.next (if_pos (by simp [hstate, hruns, hheld]))

theorem exec_enclaveSliceExpired_next {s : State} {core : Fin 2} {e : Fin 64} (hruns : s.secRuns = true) (hstate : s.enclaveState e = enRunning)
    (hother : s.sec.cores[1 - core.val]? ≠ some (some e.val)) : exec (.enclaveSliceExpired core (some e)) s =
      .next { s with sec := { s.sec with cores := s.sec.cores.set core (some e.val) } } :=
  congrArg Host.Outcome.next ((if_neg (by simp [hruns])).trans (if_pos (by simp [hstate, hother])))

theorem exec_enclaveSliceExpired_none {s : State} {core : Fin 2} (hruns : s.secRuns = true) : exec (.enclaveSliceExpired core none) s =
    .next { s with sec := { s.sec with cores := s.sec.cores.set core none } } :=
  congrArg Host.Outcome.next (if_neg (by simp [hruns]))

theorem exec_inbox {s : State} {who : Requester} {e : Fin 64} {data : Bytes} (hserved : s.served who = true)
    (haccess : s.checkAccess who Obj.INBOX true 0 e = none) (hmin : 1 ≤ data.length) (hmax : data.length ≤ 1024) (hready : s.isHwReady 2 = true)
    (hstate : s.enclaveState e = enStopped ∨ s.enclaveState e = enRunning) (hempty : (s.ecl e).inbox = none) : exec (.inbox who e data) s =
      .next ((((s.setEcl e { s.ecl e with inbox := some data }).toEnclave e
        (s.mkRec 0x001B 1 noStation noTenant [(data.length, 11)])).startResult Obj.OUTBOX who 0 e).answer .ok) := by
  refine congrArg Host.Outcome.next ((State.onRequest_of_served hserved _).trans ?_)
  rw [haccess]
  refine (if_neg (by simp only [Bool.or_eq_true, decide_eq_true_eq]; omega)).trans ((State.guarded_of_hwReady hready _).trans ?_)
  exact (if_neg (by simp only [Bool.and_eq_true, decide_eq_true_eq]; tauto)).trans (if_neg (by simp [hempty]))

/-! ### The scrub after a restart -/

theorem Frame.locks {ps : List Part} {s t : State} (h : Frame ps s t) (hq : .locks ∉ ps) : t.locks = s.locks := h .locks hq

theorem State.locks_setLock (s : State) (b : Block) (l : Lock) :
    (s.setLock b l).locks = if l.st = .normal then s.locks.del b else s.locks.put b l := by
  have hsecure : ∀ u : State, (u.syncSecure b.station).locks = u.locks :=
    fun u => (State.syncSecure_frame u b.station (.refl _) (.refl _ u)) .locks (by decide)
  have hzone : ∀ u : State, (u.syncZone b.station b.n).locks = u.locks :=
    fun u => (State.syncZone_frame u b.station b.n (.refl _) (.refl _ u)) .locks (by decide)
  have hshown : ∀ u : State, (if b.kind = .zone then (u.syncSecure b.station).syncZone b.station b.n else u.syncSecure b.station).locks = u.locks := by
    intro u
    split
    · rw [hzone, hsecure]
    · rw [hsecure]
  exact hshown _

/-- A lock cycle under way is shown on the block that it is about, and on no other. -/
theorem State.lock_setLock {s : State} {b c : Block} {l : Lock} (h : l.st ≠ .normal) :
    (s.setLock b l).lock c = if c = b then l else s.lock c := by
  rw [State.lock, State.locks_setLock, if_neg h, FMap.getD_put]
  rfl

/-- A block on its way back is no longer SECURE (R402). -/
theorem State.lock_returnBlock_self (s : State) (b : Block) : ((s.returnBlock b).lock b).st ≠ .secure := by
  unfold State.returnBlock
  dsimp only
  split
  next h => rw [h]; decide
  next h => rw [h]; decide
  next h => rw [State.lock_setLock (by simp)]; simp
  next h => rw [State.lock_setLock (by simp [h]), if_pos rfl]; simp [h]
  next h => rw [State.lock_setLock (by simp [h]), if_pos rfl]; simp [h]

theorem State.lock_returnBlock_of_ne (s : State) {b c : Block} (hne : c ≠ b) : (s.returnBlock b).lock c = s.lock c := by
  unfold State.returnBlock
  dsimp only
  split
  next => rfl
  next => rfl
  next h => rw [State.lock_setLock (by simp), if_neg hne]
  next h => rw [State.lock_setLock (by simp [h]), if_neg hne]
  next h => rw [State.lock_setLock (by simp [h]), if_neg hne]

/-- A block that is not SECURE does not become so while others go back. -/
theorem State.lock_returnBlock_not_secure (s : State) (b : Block) {c : Block} (h : (s.lock c).st ≠ .secure) :
    ((s.returnBlock b).lock c).st ≠ .secure := by
  by_cases hc : c = b
  · exact hc ▸ s.lock_returnBlock_self b
  · rwa [s.lock_returnBlock_of_ne hc]

theorem State.lock_each_returnBlock (l : List Block) (s : State) {b : Block} (h : b ∈ l ∨ (s.lock b).st ≠ .secure) :
    ((s.each l fun s b => s.returnBlock b).lock b).st ≠ .secure := by
  induction l generalizing s with
  | nil => exact h.resolve_left (by simp)
  | cons c l ih =>
    refine ih (s.returnBlock c) ?_
    rcases h with h | h
    · rcases List.mem_cons.mp h with rfl | h
      · exact .inr (s.lock_returnBlock_self _)
      · exact .inl h
    · exact .inr (s.lock_returnBlock_not_secure c h)

/-- What shows a block's lock is an object of its station (R402, R416). -/
theorem SameArea.returnBlock {a : Nat} {s t : State} (b : Block) (ha : a < 8) (h : SameArea a s t) : SameArea a s (t.returnBlock b) := by
  have hstation : ∀ r : ObjRow, r.station = true → r.apart a = true := by
    intro r hr
    simpa [ObjRow.apart, hr] using ha
  have hsecure : ∀ (u : State) (n : Nat), SameArea a u (u.syncSecure n) := fun u n =>
    .each (fun v k _ => by cases k <;> exact .wr ⟨rfl, hstation _ rfl⟩ (.refl v)) (.refl u)
  have hset : ∀ l : Lock, SameArea a t (t.setLock b l) := by
    intro l
    have hput : SameArea a t ({ t with locks := if l.st = .normal then t.locks.del b else t.locks.put b l } : State) := .of_regs rfl
    unfold State.setLock
    exact .ite (.wr ⟨rfl, hstation _ rfl⟩ (hput.trans (hsecure _ _))) (hput.trans (hsecure _ _))
  unfold State.returnBlock
  dsimp only
  split
  exacts [h, h, h.trans (hset _), h.trans (hset _), h.trans (hset _)]

theorem SameArea.tellEnclaveLost {a : Nat} {s t : State} (e q : Nat) (ha : a < 7) (hslice : a ≠ 3) (h : SameArea a s t) :
    SameArea a s (t.tellEnclaveLost e q) := by
  have hrow : Obj.SEALED.apart a = true := decide_eq_true hslice.symm
  unfold State.tellEnclaveLost
  exact .ite (.toTenant _ _ ha (.wr ⟨rfl, hrow⟩ h)) h

/-- The scrub is done: what was lost is zero, and the secure complex READY (R410, R416). -/
def State.scrubbed (s : State) : State :=
  let s' := (s.each s.sec.lost fun s l => s.scrubRanges l.ranges).zeroMem sramLoc 0 sramBytes
  let s' := ({ s' with sec := { s'.sec with lost := [], restarting := false } } : State).setSecState secReady
  { s' with rst := { s'.rst with secEnded := true } }

theorem State.locks_scrubbed (s : State) : s.scrubbed.locks = s.locks := by
  have hmemory : ∀ u : State, (u.zeroMem sramLoc 0 sramBytes).locks = u.locks := fun _ => rfl
  have hready : ∀ u : State, (u.setSecState secReady).locks = u.locks := fun u => (State.locks_wr ..).trans (State.locks_wr ..)
  unfold State.scrubbed
  dsimp only
  rw [hready]
  dsimp only
  rw [hmemory]
  exact Frame.locks (ps := [.memory]) (Frame.each (fun u l h => State.scrubRanges_frame u l.ranges (.refl _) h) (.refl _ s)) (by decide)

theorem State.sec_setSecState (s : State) (v : Nat) : (s.setSecState v).sec = s.sec := (State.sec_wr ..).trans (State.sec_wr ..)

theorem State.sec_scrubbed (s : State) : s.scrubbed.sec.lost = [] ∧ s.scrubbed.sec.restarting = false := by
  unfold State.scrubbed
  dsimp only
  rw [State.sec_setSecState]
  exact ⟨rfl, rfl⟩

theorem State.rd_secState_scrubbed (s : State) : s.scrubbed.rd Obj.SEC_STATE = (secReady : Nat) := by
  have hready : ∀ u : State, (u.setSecState secReady).rd Obj.SEC_STATE = (secReady : Nat) := fun u =>
    (State.rd_wr_of_ne _ _ _ _ _ _ _ _ _ _ _ _ (.inl rfl) (by decide)).trans (State.rd_wr_self _ _ _ _ _ _ _ (.inl rfl))
  exact hready _

/-- The blocks go back, and the sponsors are told (R410). -/
def State.afterScrub (s : State) (blocks : List Block) (lost : List LostEnclave) : State :=
  (s.each blocks fun s b => s.returnBlock b).each lost fun s l => s.tellEnclaveLost l.e l.sponsor

theorem State.afterScrub_keeps (s : State) (blocks : List Block) (lost : List LostEnclave) : (s.afterScrub blocks lost).sec = s.sec ∧
    (s.afterScrub blocks lost).rst = s.rst ∧ SameArea 6 s (s.afterScrub blocks lost) := by
  have hframe : Frame [.objects, .locks, .records] s (s.afterScrub blocks lost) :=
    Frame.each (fun u l h => State.tellEnclaveLost_frame u l.e l.sponsor (by decide) h)
      (Frame.each (fun u b h => State.returnBlock_frame u b (by decide) h) (.refl _ s))
  exact ⟨hframe .secure (by decide), hframe.rst (by decide),
    .each (fun u l _ => .tellEnclaveLost l.e l.sponsor (by decide) (by decide) (.refl u))
      (.each (fun u b _ => .returnBlock b (by decide) (.refl u)) (.refl s))⟩

theorem State.lock_afterScrub (s : State) {blocks : List Block} (lost : List LostEnclave) {b : Block} (hb : b ∈ blocks) :
    ((s.afterScrub blocks lost).lock b).st ≠ .secure := by
  have hlocks : (s.afterScrub blocks lost).locks = (s.each blocks fun s b => s.returnBlock b).locks :=
    Frame.locks (ps := [.objects, .records])
      (Frame.each (fun u l h => State.tellEnclaveLost_frame u l.e l.sponsor (.refl _) h) (.refl _ _)) (by decide)
  rw [State.lock, hlocks]
  exact State.lock_each_returnBlock blocks s (.inl hb)

theorem exec_secScrubDone {s : State} (hstate : s.rdN Obj.SEC_STATE = secScrubbing) :
    exec .secScrubDone s = .next (s.scrubbed.afterScrub (s.scrubbed.locks.map (·.1)) s.sec.lost) :=
  congrArg Host.Outcome.next (if_neg (by simp [hstate]))

/-- Settles O24: each command's equation is its clause; loading turns on whether the image fits and verifies, and the scrub leaves no block
SECURE, as a block that goes back leaves the others as they were. -/
theorem enclavesAreCreatedAndDestroyed : Obligations.EnclavesAreCreatedAndDestroyed := by
  unfold Obligations.EnclavesAreCreatedAndDestroyed
  refine ⟨?create, ?createFails, ?misfit, ?loaded, ?start, ?stop, ?commandDestroy, ?destroy, ?destroyDone, ?next, ?firmware, ?inbox, ?scrub⟩
  case create =>
    intro s who e haccept hready hidle houtcome
    exact ⟨_, exec_enclaveCreate haccept hready hidle, if_pos houtcome⟩
  case createFails =>
    rintro s who e k haccept hready hidle rfl hk
    exact ⟨_, exec_enclaveCreate haccept hready hidle, if_neg hk⟩
  case misfit =>
    rintro s e key b code hstate hruns rfl rfl hmisfit
    have hmisfit' : s.imageFits e = false := hmisfit
    refine ⟨_, exec_enclaveLoadDone hstate hruns (by simp [hmisfit']), ?_⟩
    rw [hmisfit']
    rfl
  case loaded =>
    rintro s e key b code hstate hruns rfl rfl hfits hunlock
    have hfits' : s.imageFits e = true := hfits
    refine ⟨_, exec_enclaveLoadDone hstate hruns fun _ => hunlock, ?_⟩
    rw [hfits', Bool.true_and]
    rfl
  case start =>
    intro s who e haccept hready hstate
    exact ⟨_, exec_enclaveStart haccept hready hstate, rfl⟩
  case stop =>
    intro s who e haccept hready hstate
    exact ⟨_, exec_enclaveStop haccept hready hstate, rfl⟩
  case commandDestroy =>
    intro s who e haccept hready hstate
    exact ⟨_, exec_enclaveCommandDestroy haccept hready hstate, rfl⟩
  case destroy =>
    rintro s who e v haccept rfl hready hstate
    exact ⟨_, exec_enclaveDestroy haccept hready hstate, rfl⟩
  case destroyDone =>
    intro s e hstate hruns hheld
    exact ⟨_, exec_enclaveDestroyDone hstate hruns hheld, rfl⟩
  case next =>
    rintro s core next e hruns rfl hstate hother
    exact ⟨_, exec_enclaveSliceExpired_next hruns hstate hother, rfl⟩
  case firmware =>
    rintro s core next hruns rfl
    exact ⟨_, exec_enclaveSliceExpired_none hruns, rfl⟩
  case inbox =>
    intro s who e data hserved haccess hmin hmax hready hstate hempty
    exact ⟨_, exec_inbox hserved haccess hmin hmax hready hstate hempty, rfl⟩
  case scrub =>
    intro s hstate
    obtain ⟨hsec, hrst, hobjects⟩ := s.scrubbed.afterScrub_keeps (s.scrubbed.locks.map (·.1)) s.sec.lost
    obtain ⟨hlost, hrestart⟩ := s.sec_scrubbed
    refine ⟨_, exec_secScrubDone hstate, ?_, ?_, ?_, ?_, fun l hl => ?_⟩
    · exact (hobjects.rd ⟨rfl, rfl⟩ 0 0 512 0).trans s.rd_secState_scrubbed
    · rw [hsec, hlost]
    · rw [hsec, hrestart]
    · rw [hrst]; rfl
    · exact State.lock_afterScrub _ _ (List.mem_map_of_mem (by rwa [s.locks_scrubbed]))

end Sys2Proof.Machine

/-! A state in which a write of FUNCTION_GATE that equals the gate in force leaves the object at another value (R577). -/
namespace Sys2Proof.Machine

/-- The gate of station 0 holds a value below 0, which reads as 0 wherever the device uses it. -/
def gateBelowZero : State :=
  { State.reset with
    rst := { vaon := true },
    regs := [(Obj.READY_HEADWORKS.key 0 0 512 0, 0x10), (Obj.HOST_LEVEL.key 0 0 512 0, 2), (Obj.FUNCTION_GATE.key 0 0 512 0, -1)] }

/-- A write of the gate in force changes nothing but a gate that waited (R577). -/
theorem State.writeGate_same (s : State) {n v : Nat} (h : v = s.rdN Obj.FUNCTION_GATE n) :
    s.writeGate n v = (s.wr Obj.GATE_PENDING 0xFF n).answer .ok := if_pos h

/-- Refutes O4: the write of 0 to the haptic gate is the gate in force, so it leaves the value below 0, where the clause has 0. -/
theorem not_domainsAreReleasedInOrder : ¬ Obligations.DomainsAreReleasedInOrder := by
  unfold Obligations.DomainsAreReleasedInOrder
  intro h
  obtain ⟨-, -, -, -, -, -, -, -, -, -, -, -, -, -, -, -, hgate, -⟩ := h
  have hsame : putBit 1 false (gateBelowZero.rdN Obj.FUNCTION_GATE 0) = gateBelowZero.rdN Obj.FUNCTION_GATE 0 := by decide +kernel
  have haccept : gateBelowZero.accepts (.host 0) Obj.FUNCTION_GATE (putBit 1 false (gateBelowZero.rdN Obj.FUNCTION_GATE 0) : Nat) 0 := by
    decide +kernel
  obtain ⟨t, hexec, hvalue, -⟩ := hgate gateBelowZero (.host 0) 0 false haccept
  have hnext : t = (gateBelowZero.wr Obj.GATE_PENDING 0xFF 0).answer .ok :=
    (Host.Outcome.next.inj hexec).symm.trans ((State.onWrite_of_accepts haccept _).trans (State.writeGate_same _ hsame))
  rw [hnext] at hvalue
  exact absurd hvalue (by decide +kernel)

end Sys2Proof.Machine

/-! Transfers of peers in the long and the short form, and the NOTIFY of a subscription (R464, R467, R485, R502 to R508). -/
namespace Sys2Proof.Machine

/-! ### A request that is acted on -/

theorem State.regs_drawNat (s : State) (m : Nat) : (s.drawNat m).2.regs = s.regs := rfl

/-- A place for a new peer costs no object its value. -/
theorem State.regs_placePeer (s : State) : s.placePeer.2.regs = s.regs := by
  rw [State.placePeer]
  split
  · rfl
  · split <;> rfl

/-- A request whose SEQ is acted on leaves the objects as they are. -/
theorem State.regs_takeSeq_of_act {s : State} {id : PeerId} {seq k : Nat} (h : (s.takeSeq id seq).1 = (.act, k)) :
    (s.takeSeq id seq).2.regs = s.regs := by
  revert h
  rw [State.takeSeq]
  split
  · split
    · simp
    · exact fun _ => rfl
  · have hplace := s.regs_placePeer
    split
    · next heq => rw [heq] at hplace; exact fun _ => hplace
    · simp

/-- The level of a node does not depend on the record of its SEQ. -/
theorem State.canLevel_of_regs {s t : State} (h : t.regs = s.regs) (bus node : Nat) : t.canLevel bus node = s.canLevel bus node := by
  rw [State.canLevel, State.canLevel, State.rdN, State.rdN, State.rd, State.rd, h]

/-! ### Frames -/

/-- A long frame that is taken, of a valid level, whose SEQ is acted on (R503 to R508). -/
theorem State.onFrame_of_act {s : State} {typ : Nat} {src : PeerSource} {b : Bytes} {level : Level} {key : Option Bytes} {k : Nat}
    (htaken : s.frameTaken typ b = true) (hlevel : s.frameLevel (framePeer src b) (parseHeader b) b = some (level, key))
    (hact : (s.takeSeq (framePeer src b) (parseHeader b).seq).1 = (.act, k)) (f : Serve) :
    s.onFrame typ src b f = (s.framed src b k level).responded src b k key
      (f k (if (parseHeader b).qual then (parseHeader b).tenant else 512) (frameBody b) (s.framed src b k level)) := by
  have hpass : (!frameOk b || (parseHeader b).response || (parseHeader b).typ ≠ typ || !s.forUs (parseHeader b) || !s.isHwReady 9
      || !s.isHwReady 4 || s.hwGated 0) = false := by
    simp [State.frameTaken] at htaken
    simp [htaken]
  obtain ⟨r, hseq⟩ : ∃ r, s.takeSeq (framePeer src b) (parseHeader b).seq = ((.act, k), r) := ⟨_, Prod.ext hact rfl⟩
  have hframed : s.framed src b k level = { r.touchSession k (parseHeader b) with peerLevel := (r.touchSession k (parseHeader b)).peerLevel.put k level } := by
    rw [State.framed, hseq]
  rw [framePeer] at hlevel hseq
  rw [hframed, State.onFrame]
  simp only [hpass, Bool.false_eq_true, if_false, hlevel, hseq]
  split <;> simp_all [State.responded, framePeer]

/-- A short frame that is taken, whose SEQ is acted on (R502, R505). -/
theorem State.onShort_of_act {s : State} {typ bus id k : Nat} {data : Bytes} (htaken : s.shortTaken typ bus id data = true)
    (hact : (s.takeSeq ⟨.can bus (parseShort id data).src, 0⟩ (parseShort id data).seq).1 = (.act, k)) (env : WriteEnv) :
    s.onShort typ bus id data env = shortResponded bus id data k
      ((s.shortFramed bus id data k).shortRequest (.peer k) ⟨.can bus (parseShort id data).src, 0⟩ (parseShort id data) env) := by
  have hpass : (data.length ≠ 64 || (parseShort id data).response || (parseShort id data).typ ≠ typ
      || (parseShort id data).dest ≠ s.rdN Obj.CAN_NODE 0 bus || !s.isHwReady 10 || !s.isHwReady 4 || s.hwGated 0 || s.hwGated 2) = false := by
    simp [State.shortTaken] at htaken
    simp [htaken]
  have hregs := State.regs_takeSeq_of_act hact
  obtain ⟨r, hseq⟩ : ∃ r, s.takeSeq ⟨.can bus (parseShort id data).src, 0⟩ (parseShort id data).seq = ((.act, k), r) := ⟨_, Prod.ext hact rfl⟩
  rw [hseq] at hregs
  have hframed : s.shortFramed bus id data k =
      { r with peerLevel := r.peerLevel.put k (r.canLevel bus (parseShort id data).src) } := by
    rw [State.shortFramed, hseq, State.canLevel_of_regs hregs]
  rw [hframed, State.onShort]
  simp only [hpass, Bool.false_eq_true, if_false, hseq]
  split <;> simp_all [shortResponded]

/-- A long frame comes from a source of the long form. -/
theorem State.onBda_wide {src : PeerSource} (hsrc : wideSource src = true) (s : State) (typ : Nat) (b : Bytes) (env : WriteEnv) (f : Serve) :
    s.onBda typ src (.wide b) env f = s.onFrame typ src b f := by
  cases src with
  | can bus node => simp [wideSource] at hsrc
  | mac m => rfl
  | udp a p => rfl
  | relayed => rfl

/-- A short frame comes from a CAN node; it is never a BLOCK. -/
theorem State.onBda_short {typ : Nat} (htyp : typ ≠ tyBlock) (s : State) (bus node id : Nat) (data : Bytes) (env : WriteEnv) (f : Serve) :
    s.onBda typ (.can bus node) (.short id data) env f = s.onShort typ bus id data env := if_neg htyp

/-! ### Subscriptions -/

/-- A subscription whose interval has passed, and whose value has changed where its condition asks for that (R485, R486). -/
theorem exec_subscriptionNotify {s : State} {i : Fin 512} {x : Subscription} {p : Place} (hclock : s.hwGated 0 = false)
    (hsub : s.subscriptions[i.val]? = some x) (hplace : placeOf x.key = some p) (hready : s.isHwReady 9 = true)
    (hdue : x.lastSent + x.intervalMs * 1000000 ≤ s.time) (hchanged : x.condition = 3 ∨ s.changesOf p x ≠ 0) :
    exec (.subscriptionNotify i) s = .next (({ s with
        subscriptions :=
          s.subscriptions.set i.val { x with seen := s.watched p x.condition, changes := 0, lastSent := s.time } } : State).sendNotify
      x.peer x.key (min (if x.condition = 3 then 0 else s.changesOf p x) 65535) (s.notifyValue p).2 (s.notifyValue p).1) := by
  have hsend : (!s.isHwReady 9 || decide (s.time < x.lastSent + x.intervalMs * 1000000)
      || (decide (x.condition ≠ 3) && decide ((if x.condition = 3 then 0 else s.changesOf p x) = 0))) = false := by
    have hnot : ¬s.time < x.lastSent + x.intervalMs * 1000000 := by omega
    by_cases h3 : x.condition = 3
    · simp [hready, hnot, h3]
    · simp [hready, hnot, h3, hchanged.resolve_left h3]
  show execSubscriptionNotify i s = _
  rw [execSubscriptionNotify, State.firmware_of_clocked hclock]
  simp only [hsub, hplace, hsend, Bool.false_eq_true, if_false]

/-! ### The obligation -/

/-- Settles O19: a taken frame whose SEQ is acted on runs its request between `framed` and `responded`, whatever its type. -/
theorem transfersOfPeersAreAnswered : Obligations.TransfersOfPeersAreAnswered := by
  unfold Obligations.TransfersOfPeersAreAnswered
  refine ⟨?read, ?write, ?commit, ?notify, ?block, ?shortRead, ?shortWrite, ?shortCommit, ?shortNotify, ?subscription⟩
  case read =>
    intro s src b level key k hsrc htaken hlevel hact
    exact ⟨_, rfl, (State.onBda_wide hsrc ..).trans (State.onFrame_of_act htaken hlevel hact _)⟩
  case write =>
    intro s src b level key k env hsrc htaken hlevel hact
    exact ⟨_, rfl, (State.onBda_wide hsrc ..).trans (State.onFrame_of_act htaken hlevel hact _)⟩
  case commit =>
    intro s src b level key k hsrc htaken hlevel hact
    exact ⟨_, rfl, (State.onBda_wide hsrc ..).trans (State.onFrame_of_act htaken hlevel hact _)⟩
  case notify =>
    intro s src b level key k p hsrc htaken hlevel hact hpeer hbody
    refine ⟨_, rfl, ((State.onBda_wide hsrc ..).trans (State.onFrame_of_act htaken hlevel hact _)).trans ?_⟩
    simp only [hpeer, List.isEmpty_eq_false_iff.2 hbody, Bool.false_eq_true, if_false]
  case block =>
    intro s src b level key k hsrc htaken hlevel hact hbody
    refine ⟨_, rfl, ((State.onBda_wide hsrc ..).trans (State.onFrame_of_act htaken hlevel hact _)).trans ?_⟩
    simp only [List.isEmpty_eq_false_iff.2 hbody, Bool.false_eq_true, if_false]
  case shortRead =>
    intro s src bus fid data k htaken hact
    exact ⟨_, rfl, (State.onBda_short (by decide) ..).trans (State.onShort_of_act htaken hact _)⟩
  case shortWrite =>
    intro s src bus fid data k env htaken hact
    exact ⟨_, rfl, (State.onBda_short (by decide) ..).trans (State.onShort_of_act htaken hact _)⟩
  case shortCommit =>
    intro s src bus fid data k htaken hact
    exact ⟨_, rfl, (State.onBda_short (by decide) ..).trans (State.onShort_of_act htaken hact _)⟩
  case shortNotify =>
    intro s src bus fid data k htaken hact
    exact ⟨_, rfl, (State.onBda_short (by decide) ..).trans (State.onShort_of_act htaken hact _)⟩
  case subscription =>
    intro s i x p hclock hsub hplace hready hdue hchanged
    exact ⟨_, exec_subscriptionNotify hclock hsub hplace hready hdue hchanged, rfl⟩

end Sys2Proof.Machine

/-! Requests of the dictionary: writes, acknowledgements, reads from snapshots, clearing reads, and the saves of settings (R461, R465,
R466, R473, R479, R482, R489, R490, R493, R623). -/
namespace Sys2Proof.Machine

/-! ### Writes -/

/-- Where the rules of an object's chapter let a write pass, it is applied and answered OK (R461, R465). -/
theorem State.plainWrite_of_accepts {s : State} {who : Requester} {p : Place} {v : Int} (haccept : s.accepts who p.r v p.n p.i p.t p.j)
    (hvalue : s.valueOk p v = true) (hrule : s.writeRule p v = none) : s.plainWrite who p v = (s.applyWrite p v).answer .ok := by
  rw [State.plainWrite, State.onWrite_of_accepts haccept]
  simp only [hvalue, hrule, State.guarded, Bool.not_true, Bool.false_eq_true, if_false]

/-- The whole value of an object of a number type, past the checks in front of its own (R461, R472). -/
theorem State.dictWrite_of_value {s : State} {who : Requester} {area idx sub tq : Nat} {p : Place} {data : Bytes} (env : WriteEnv)
    (hserved : s.served who = true) (hfree : s.isQuarantined who = false) (hread : sub ≠ 0xFE) (hack : sub ≠ 0xFF)
    (hplace : s.place who area idx sub tq = .ok p) (haccess : s.placeAccess who p true = none) (hsize : p.r.ty.size = some data.length) :
    s.dictWrite who area idx sub tq {} data env = s.writeValue who p (p.r.ty.decode data) env := by
  rw [State.dictWrite, State.onRequest_of_served hserved]
  simp only [hfree, hread, hack, hplace, haccess, Bool.false_eq_true, if_false]
  cases hty : p.r.ty <;> simp_all [OType.size]

theorem exec_dictionaryWrite {s : State} {who : Requester} {area : Fin 16} {idx sub : Nat} {tq : Option (Fin 512)} {data : Bytes}
    (env : WriteEnv) {p : Place} (haccept : s.accepts who p.r (p.r.ty.decode data) p.n p.i p.t p.j) (hfree : s.isQuarantined who = false)
    (hread : sub ≠ 0xFE) (hack : sub ≠ 0xFF)
    (hplace : s.place who area idx sub (match tq with | some u => u.val | none => 512) = .ok p) (haccess : s.placeAccess who p true = none)
    (hsize : p.r.ty.size = some data.length)
    (hplain : (handlersA ++ handlersB ++ handlersC ++ handlersD ++ handlersE).find? (fun h => h.1 = p.r) = none)
    (hvalue : s.valueOk p (p.r.ty.decode data) = true) (hrule : s.writeRule p (p.r.ty.decode data) = none) :
    exec (.dictionaryWrite who area idx sub tq data env) s = .next ((s.applyWrite p (p.r.ty.decode data)).answer .ok) := by
  refine congrArg Host.Outcome.next ((State.dictWrite_of_value env haccept.1 hfree hread hack hplace haccess hsize).trans ?_)
  rw [State.writeValue, hplain]
  exact State.plainWrite_of_accepts haccept hvalue hrule

theorem exec_stationCommit {s : State} {who : Requester} {n : Fin 8} (haccept : s.accepts who Obj.STATION_COMMIT 1 n)
    (hready : s.isStReady n 1 = true) :
    exec (.stationCommit who n 1) s = .next ((stationCommitRows.foldl (fun u r => u.commitRow r n) s).answer .ok) :=
  congrArg Host.Outcome.next ((State.onWrite_of_accepts haccept _).trans ((if_pos rfl).trans (State.guarded_of_stReady hready _)))

/-! ### Reads -/

/-- A value that is read from a snapshot is not one of the challenges, which a read makes (R482, R506). -/
theorem not_challenge_of_snapshot {p : Place} (h : p.r.result = true ∨ (ringOf p).isSome = true) :
    p.r ≠ Obj.GRANT_CHALLENGE ∧ p.r ≠ Obj.DEBUG_CHALLENGE := by
  have hrow : ∀ r : ObjRow, r.result = false → r ≠ Obj.HW_LOG_RING → r ≠ Obj.STATION_LOG_RING → p.r ≠ r := by
    rintro r hresult hhw hst rfl
    simp [ringOf, hhw, hst, hresult] at h
  exact ⟨hrow _ rfl (by decide) (by decide), hrow _ rfl (by decide) (by decide)⟩

/-- A segment of a BLOB result, or of a log ring, comes from its snapshot (R482, R623). -/
theorem State.dictRead_of_snapshot {s : State} {who : Requester} {area idx sub tq : Nat} {p : Place} {q : ReadReq}
    (hserved : s.served who = true) (hnumber : sub ≠ 0xFE) (hack : sub ≠ 0xFF) (hplace : s.place who area idx sub tq = .ok p)
    (haccess : s.placeAccess who p false = none) (hview : q.view = 0) (hty : p.r.ty = .blob)
    (hsnap : p.r.result = true ∨ (ringOf p).isSome = true) : s.dictRead who area idx sub tq q = s.readSnapshot who p q := by
  obtain ⟨hgrant, hdebug⟩ := not_challenge_of_snapshot hsnap
  rw [State.dictRead, State.onRequest_of_served hserved]
  simp [hnumber, hack, hplace, haccess, hasView, hview, hty, hgrant, hdebug, hsnap]

/-- A number that is cleared by being read (R619). -/
theorem State.dictRead_of_cleared {s : State} {who : Requester} {area idx tq : Nat} {p : Place} (hserved : s.served who = true)
    (hplace : s.place who area idx 0 tq = .ok p) (haccess : s.placeAccess who p false = none) (hty : p.r.ty = .u32)
    (hacc : p.r.acc = .ro) (hresult : p.r.result = false) {x : Int} (hclear : clearedByReading p.r = some x) :
    s.dictRead who area idx 0 tq {} =
      (s.wr p.r x p.n p.i p.t p.j).answer .ok (p.r.ty.encode (s.rdAs p.r p.n p.i p.t p.j)) := by
  rw [State.dictRead, State.onRequest_of_served hserved]
  simp [hplace, haccess, hasView, hty, State.readValue, State.viewValue, hacc, hresult, hclear]

/-- An object without a default of its own reads as it stands. -/
theorem State.rdAs_eq_rd (s : State) {r : ObjRow} (hsoft : r ≠ Obj.TJ_SOFT_C) (hprio : r ≠ Obj.PTP_PRIORITY1) (n i t j : Nat) :
    s.rdAs r n i t j = s.rd r n i t j := by
  show s.rdAs r n i t j = (s.regs.find (r.key n i t j)).getD (r.dflt i j)
  rw [State.rdAs]
  cases s.regs.find (r.key n i t j)
  · exact (if_neg hsoft).trans (if_neg hprio)
  · rfl

/-- The object of a station that `CLEARING_READ` reads. -/
def clearingRow (stall : Bool) : ObjRow := if stall then Obj.RETRAIN_STALL_MAX else Obj.SAVE_TIME_MAX

theorem exec_clearingRead {s : State} {who : Requester} {n : Fin 8} {stall : Bool} (hserved : s.served who = true)
    (hplace : s.place who (8 + n.val) (clearingRow stall).idx 0 512 = .ok ⟨clearingRow stall, n, 0, 0, 512⟩)
    (haccess : s.placeAccess who ⟨clearingRow stall, n, 0, 0, 512⟩ false = none) :
    exec (.clearingRead who n stall) s =
      .next ((s.wr (clearingRow stall) 0 n).answer .ok ((clearingRow stall).ty.encode (s.rd (clearingRow stall) n))) := by
  have hclear : ∀ stall, clearedByReading (clearingRow stall) = some 0 ∧ clearingRow stall ≠ Obj.TJ_SOFT_C ∧
      clearingRow stall ≠ Obj.PTP_PRIORITY1 := by decide
  obtain ⟨htakes, hsoft, hprio⟩ := hclear stall
  have hread := State.dictRead_of_cleared hserved hplace haccess (by cases stall <;> rfl) (by cases stall <;> rfl)
    (by cases stall <;> rfl) htakes
  rw [State.rdAs_eq_rd s hsoft hprio] at hread
  cases stall <;> exact congrArg Host.Outcome.next hread

/-! ### Settings -/

theorem exec_settingsSaveTimer {s : State} {f : Nat} (hclock : s.hwGated 0 = false) (hchange : s.settings.firstChange = some f)
    (hready : s.isHwReady 16 = true) (hdue : s.settings.lastChange + 2000000000 ≤ s.time ∨ f + 10000000000 ≤ s.time) :
    exec .settingsSaveTimer s = .next s.startSave := by
  refine congrArg Host.Outcome.next ((State.firmware_of_clocked hclock _).trans ?_)
  simp [hchange, hready, hdue]

theorem exec_settingsSave {s : State} {who : Requester} (haccept : s.accepts who Obj.SETTINGS_SAVE 1) (hready : s.isHwReady 16 = true) :
    exec (.settingsSave who true) s = .next (s.startSave.answer .ok) :=
  congrArg Host.Outcome.next ((State.onWrite_of_accepts haccept _).trans ((if_pos rfl).trans (State.guarded_of_hwReady hready _)))

theorem exec_settingsDefaults {s : State} {who : Requester} (haccept : s.accepts who Obj.SETTINGS_DEFAULTS 1)
    (hready : s.isHwReady 16 = true) : exec (.settingsDefaults who true) s = .next (s.settingsDefaults.startSave.answer .ok) :=
  congrArg Host.Outcome.next ((State.onWrite_of_accepts haccept
    fun u => if true then u.guarded (u.needHwReady 16) fun u => u.settingsDefaults.startSave.answer .ok else u.answer .ok).trans
    ((if_pos rfl).trans (State.guarded_of_hwReady hready fun u => u.settingsDefaults.startSave.answer .ok)))

/-- The settings after a save whose records stand in the flash (R489). -/
def Settings.stored (c : Settings) (job : SaveJob) : Settings :=
  { c with saving := none, failed := 0, flash := job.groups.foldl (fun m e => m.put e.1 e.2) c.flash, seq := c.seq + 1,
           bank := (if job.bankChange then 1 - c.bank else c.bank), eraseDue := (if job.bankChange then some c.bank else c.eraseDue) }

/-- The end of a save, or of an attempt that fails (R489, R490, R497). -/
theorem exec_settingsSaveDone {s : State} {job : SaveJob} (hsaving : s.settings.saving = some job) (ok : Bool) :
    exec (.settingsSaveDone ok) s = .next (
      if ok then
        ((((({ s with settings := s.settings.stored job } : State).count Obj.SAVES).wr Obj.SETTINGS_STATE
          (if s.settings.firstChange.isSome then 2 else 1)).clearAlarm 17 noStation 0).nextErase)
      else if s.settings.failed + 1 < 3 then { s with settings := { s.settings with failed := s.settings.failed + 1 } }
      else (({ s with settings := { s.settings with saving := none, failed := 0 } } : State).wr Obj.SETTINGS_STATE 4).alarm 17 1 noStation 0) := by
  show execSettingsSaveDone ok s = _
  rw [execSettingsSaveDone]
  simp only [hsaving]
  rfl

/-! ### The obligation -/

/-- Settles O20, clause by clause from the equation of each request. -/
theorem dictionaryRequestsAct : Obligations.DictionaryRequestsAct := by
  unfold Obligations.DictionaryRequestsAct
  refine ⟨?write, ?stationCommit, ?ack, ?result, ?log, ?stallMax, ?saveMax, ?snapshots, ?stages, ?timer, ?save, ?stored, ?failing, ?failed,
    ?defaults⟩
  case write =>
    intro s who area idx sub tq data env p haccept hfree hread hack hplace haccess hsize hplain hvalue hrule
    exact ⟨_, exec_dictionaryWrite env haccept hfree hread hack hplace haccess hsize hplain hvalue hrule, rfl⟩
  case stationCommit =>
    rintro s who n v haccept rfl hready
    exact ⟨_, exec_stationCommit haccept hready, rfl⟩
  case ack =>
    intro s who area idx tq gen p hserved hfree hplace hpresent
    exact ⟨_, rfl, (State.ackResult_of_place hserved hfree hplace gen).trans (if_neg (by simp [hpresent]))⟩
  case result =>
    intro s who area idx offset len n i r p hserved hrow hnumber hack hplace haccess hty hresult
    refine ⟨_, congrArg Host.Outcome.next ?_, rfl⟩
    simp only [hrow]
    exact State.dictRead_of_snapshot hserved hnumber hack hplace haccess rfl hty (.inl hresult)
  case log =>
    intro s who station offset len p hserved hplace haccess hring
    have hty : p.r.ty = .blob := by rcases hring with h | h <;> rw [h] <;> rfl
    have hsnap : (ringOf p).isSome = true := by
      rw [ringOf]
      rcases hring with h | h <;> rw [h] <;> rfl
    refine ⟨_, rfl, ?_⟩
    cases station <;> exact State.dictRead_of_snapshot hserved (by decide) (by decide) hplace haccess rfl hty (.inr hsnap)
  case stallMax =>
    rintro s who n stall ⟨r, n', i, j, t⟩ hserved rfl hplace rfl rfl rfl rfl rfl haccess
    exact ⟨_, exec_clearingRead (stall := true) hserved hplace haccess, State.rd_wr_self _ _ _ _ _ _ _ (.inl rfl), rfl⟩
  case saveMax =>
    rintro s who n stall ⟨r, n', i, j, t⟩ hserved rfl hplace rfl rfl rfl rfl rfl haccess
    exact ⟨_, exec_clearingRead (stall := false) hserved hplace haccess, State.rd_wr_self _ _ _ _ _ _ _ (.inl rfl), rfl⟩
  case snapshots =>
    intro s
    exact ⟨_, rfl, rfl⟩
  case stages =>
    intro s
    exact ⟨_, rfl, rfl⟩
  case timer =>
    intro s f hclock hchange hready hdue
    exact ⟨_, exec_settingsSaveTimer hclock hchange hready hdue, rfl⟩
  case save =>
    rintro s who v haccept rfl hready
    exact ⟨_, exec_settingsSave haccept hready, rfl⟩
  case stored =>
    rintro s ok job rfl hsaving
    exact ⟨_, exec_settingsSaveDone hsaving true, if_pos rfl⟩
  case failing =>
    rintro s ok job rfl hsaving hretry
    exact ⟨_, exec_settingsSaveDone hsaving false, (if_neg Bool.false_ne_true).trans (if_pos hretry)⟩
  case failed =>
    rintro s ok job rfl hsaving hlast
    exact ⟨_, exec_settingsSaveDone hsaving false, (if_neg Bool.false_ne_true).trans (if_neg (Nat.not_lt.2 hlast))⟩
  case defaults =>
    rintro s who v haccept rfl hready
    exact ⟨_, exec_settingsDefaults haccept hready, rfl⟩

end Sys2Proof.Machine

/-! The objects of the split and of the weir, which the jobs of a station leave as they are (R431 to R443, R450). -/
namespace Sys2Proof.Machine

/-! ### Objects whose keys meet a condition -/

/-- Two states have the same objects under the keys that meet a condition. -/
def SameIn (P : OKey → Prop) (s t : State) : Prop := ∀ k, P k → t.regs.find k = s.regs.find k

section Keys
variable {P : OKey → Prop} {s t u : State}

theorem SameIn.of_regs (h : t.regs = s.regs) : SameIn P s t := fun _ _ => by rw [h]

theorem SameIn.refl (s : State) : SameIn P s s := fun _ _ => rfl

theorem SameIn.trans (h : SameIn P s t) (g : SameIn P t u) : SameIn P s u := fun k hk => (g k hk).trans (h k hk)

theorem SameIn.rd (h : SameIn P s t) {r : ObjRow} {n i q j : Nat} (hkey : P (r.key n i q j)) : t.rd r n i q j = s.rd r n i q j := by
  rw [State.rd, State.rd, h _ hkey]

theorem SameIn.rdN (h : SameIn P s t) {r : ObjRow} {n i q j : Nat} (hkey : P (r.key n i q j)) : t.rdN r n i q j = s.rdN r n i q j :=
  congrArg Int.toNat (h.rd hkey)

theorem SameIn.ite {p : Prop} [Decidable p] (h : SameIn P s t) (g : SameIn P s u) : SameIn P s (if p then t else u) := by
  split <;> assumption

theorem SameIn.each {α : Type} {f : State → α → State} {l : List α} (hf : ∀ v, ∀ x ∈ l, SameIn P s v → SameIn P s (f v x))
    (h : SameIn P s t) : SameIn P s (t.each l f) := by
  induction l generalizing t with
  | nil => exact h
  | cons x l ih => exact ih (fun v y hy => hf v y (by simp [hy])) (hf t x (by simp) h)

theorem SameIn.wr {r : ObjRow} {v : Int} {n i q j : Nat} (hsaved : r.saved = false) (hkey : ¬P (r.key n i q j)) (h : SameIn P s t) :
    SameIn P s (t.wr r v n i q j) := by
  refine h.trans fun k hk => ?_
  rw [State.wr_find t r v n i q j k (.inl hsaved), if_neg]
  exact fun e => hkey (e ▸ hk)

theorem SameIn.of_frame {ps : List Part} (hf : Frame ps t u) (hp : .objects ∉ ps) (h : SameIn P s t) : SameIn P s u :=
  h.trans (.of_regs (hf.regs hp))

/-- What keeps an area keeps the keys in it. -/
theorem SameIn.of_area {a : Nat} (hP : ∀ k, P k → k.area = a) (h : SameArea a s t) : SameIn P s t := fun k hk => h k (hP k hk)

end Keys

/-! ### The keys of the split -/

/-- An object of the energy area that sets the division of the power, its points and divisors: not a counter, and not a tenant's (R450). -/
def splitKey (k : OKey) : Prop := k.area = 1 ∧ k.idx < 0x2000 ∧ k.sub < 0x10

/-- A row without an object of the split. -/
def ObjRow.offSplit (r : ObjRow) : Bool := r.station || r.area ≠ 1 || decide (0x2000 ≤ r.idx) || decide (0x10 ≤ r.sub)

theorem ObjRow.not_splitKey {r : ObjRow} (h : r.offSplit = true) (n i t j : Nat) : ¬splitKey (r.key n i t j) := by
  simp only [ObjRow.offSplit, Bool.or_eq_true, decide_eq_true_eq] at h
  simp only [splitKey, ObjRow.key]
  split <;> simp_all <;> omega

section Split
variable {a s : State}

/-- A write of a row without an object of the split. -/
theorem SameIn.wrOff {r : ObjRow} (v : Int) (n i t j : Nat) (hr : r.saved = false ∧ r.offSplit = true) (h : SameIn splitKey a s) :
    SameIn splitKey a (s.wr r v n i t j) := .wr hr.1 (ObjRow.not_splitKey hr.2 n i t j) h

theorem SameIn.countOff {r : ObjRow} (n i t j k : Nat) (hr : r.saved = false ∧ r.offSplit = true) (h : SameIn splitKey a s) :
    SameIn splitKey a (s.count r n i t j k) := .wrOff _ _ _ _ _ hr h

/-- A run of a check-value unit keeps the objects of the split. -/
theorem SameIn.of_energyArea {t : State} (hst : SameArea 1 s t) (h : SameIn splitKey a s) : SameIn splitKey a t :=
  h.trans (.of_area (fun _ hk => hk.1) hst)

end Split

/-! ### Memory writes of a job, which its station's check-value units see (R597, R604) -/

section Memory
variable {s t : State}

theorem SameArea.setCvu (u : Nat) (c : CvUnit) (h : SameArea 1 s t) : SameArea 1 s (t.setCvu u c) := h.trans (.of_regs rfl)

theorem SameArea.startResult (r : ObjRow) (who : Requester) (n i q : Nat) (h : SameArea 1 s t) :
    SameArea 1 s (t.startResult r who n i q) := h.trans (.of_regs rfl)

theorem SameArea.cvComplete (u : Nat) (h : SameArea 1 s t) : SameArea 1 s (t.cvComplete u) := by
  unfold State.cvComplete
  dsimp only
  split
  · exact h
  · have hvalue (v b g : Int) : SameArea 1 s (((t.wr Obj.CV_VALUE v 0 u).wr Obj.CV_RUN_BYTES b 0 u).wr Obj.CV_RUN_TAG g 0 u) :=
      .wr (by decide) (.wr (by decide) (.wr (by decide) h))
    have hcount (outcome : Nat) {x : State} (hx : SameArea 1 s x) :
        SameArea 1 s ((x.completeResult Obj.CV_VALUE outcome 0 u).count Obj.CV_RUNS 0 u) :=
      .count (by decide) (.completeResult _ _ _ _ _ (by decide) hx)
    refine .ite ?_ (.setCvu _ _ (hcount _ (.ite (hvalue _ _ _) h)))
    split
    · exact .startResult _ _ _ _ _ (.setCvu _ _ (hcount _ (.ite (hvalue _ _ _) h)))
    · exact .setCvu _ _ (hcount _ (.ite (hvalue _ _ _) h))

theorem SameArea.cvStart (u tag : Nat) (h : SameArea 1 s t) : SameArea 1 s (t.cvStart u tag) :=
  .ite (.setCvu _ _ (.cvComplete _ h)) (.cvComplete _ h)

theorem SameArea.cvFeed (u : Nat) (bs : Bytes) (h : SameArea 1 s t) : SameArea 1 s (t.cvFeed u bs) := .ite (.setCvu _ _ h) h

theorem SameArea.cvEnd (u outcome : Nat) (h : SameArea 1 s t) : SameArea 1 s (t.cvEnd u outcome) := .ite (.setCvu _ _ h) h

theorem SameArea.cvBusUnit (u addr : Nat) (bs : Bytes) (h : SameArea 1 s t) : SameArea 1 s (t.cvBusUnit u addr bs) := by
  unfold State.cvBusUnit
  dsimp only
  have hstart : SameArea 1 s (if (addr = t.rdN Obj.CV_WINDOW_BASE 0 u && !(t.cvu u).running) = true
      then t.cvStart u (t.rdN Obj.CV_WINDOW_BASE 0 u / 64) else t) := .ite (.cvStart _ _ h) h
  exact .ite h (.ite hstart (.ite (.cvEnd _ _ hstart) (.ite (.cvEnd _ _ (.cvFeed _ _ hstart)) (.cvFeed _ _ hstart))))

theorem SameArea.cvBusWrite (n addr : Nat) (bs : Bytes) (ingress : Bool) (h : SameArea 1 s t) :
    SameArea 1 s (t.cvBusWrite n addr bs ingress) := by
  unfold State.cvBusWrite
  dsimp only
  have hports : SameArea 1 s (if ingress = true then t.each (List.range 16) fun s u =>
      if (s.rdN Obj.CV_SOURCE 0 u = cvBus && s.rdN Obj.CV_STATION 0 u = n && (s.cvu u).armed) = true then s.cvBusUnit u addr bs else s
      else t) := .ite (.each (fun v _ _ => .ite (.cvBusUnit _ _ _ (.refl v)) (.refl v)) h) h
  exact .ite (.cvBusUnit _ _ _ hports) hports

theorem SameArea.writeTagged (n x : Nat) (b : Bytes) (tag : Nat) (ingress : Bool) (h : SameArea 1 s t) :
    SameArea 1 s (t.writeTagged n x b tag ingress) := by
  unfold State.writeTagged
  split
  · exact .count (by decide) h
  · refine .ite (.cvBusWrite _ _ _ _ ?_) (.each (fun u k _ => .cvBusWrite _ _ _ _ ?_) ?_)
    exacts [h, .refl u, h]

theorem SameArea.invalidateTables (n : Nat) (j : Job) (h : SameArea 1 s t) : SameArea 1 s (t.invalidateTables n j) :=
  .each (fun v _ _ => .ite (.writeTagged _ _ _ _ _ (.refl v)) (.refl v)) h

end Memory

/-! ### The table of a station's jobs (R42, R74, R87, R93, R97) -/

section Jobs
variable {a s : State}

theorem SameIn.setRas {P : OKey → Prop} (n : Nat) (v : Raster) (h : SameIn P a s) : SameIn P a (s.setRas n v) := h.trans (.of_regs rfl)

theorem SameIn.setJob {P : OKey → Prop} (n : Nat) (k : Job) (h : SameIn P a s) : SameIn P a (s.setJob n k) := h.trans (.of_regs rfl)

theorem SameIn.setCore {P : OKey → Prop} (n i : Nat) (c : ShaderCore) (h : SameIn P a s) : SameIn P a (s.setCore n i c) :=
  h.trans (.of_regs rfl)

theorem SameIn.updJob {P : OKey → Prop} (n key : Nat) (f : Job → Job) (h : SameIn P a s) : SameIn P a (s.updJob n key f) :=
  .of_frame (State.updJob_frame s n key f (List.Subset.refl _) (.refl _ _)) (by decide) h

theorem SameIn.syncSlots (n : Nat) (h : SameIn splitKey a s) : SameIn splitKey a (s.syncSlots n) := .wrOff _ _ _ _ _ (by decide) h

theorem SameIn.syncReserved (n t : Nat) (h : SameIn splitKey a s) : SameIn splitKey a (s.syncReserved n t) := .wrOff _ _ _ _ _ (by decide) h

theorem SameIn.syncRaster (n : Nat) (h : SameIn splitKey a s) : SameIn splitKey a (s.syncRaster n) :=
  .ite (.wrOff _ _ _ _ _ (by decide) (.wrOff _ _ _ _ _ (by decide) h)) (.wrOff _ _ _ _ _ (by decide) h)

theorem SameIn.sweepCache (n : Nat) (h : SameIn splitKey a s) : SameIn splitKey a (s.sweepCache n) :=
  .each (fun _ _ _ hs => .wrOff _ _ _ _ _ (by decide) hs) (.setRas _ _ h)

theorem SameIn.freeCores (n key : Nat) (h : SameIn splitKey a s) : SameIn splitKey a (s.freeCores n key) := .syncSlots _ (.setRas _ _ h)

theorem SameIn.endJob (n key status detail : Nat) (h : SameIn splitKey a s) : SameIn splitKey a (s.endJob n key status detail) := by
  unfold State.endJob
  split
  · exact h
  · have hfree := h.freeCores n key
    have hfault (x : State) (hx : SameIn splitKey a x) : SameIn splitKey a (if status = csAccessFault then x.count Obj.ACCESS_FAULTS n else x) :=
      .ite (.countOff _ _ _ _ _ (by decide) hx) hx
    exact .ite h (.sweepCache _ (.syncReserved _ _ (.updJob _ _ _ (hfault _
      (.ite (.of_energyArea (.invalidateTables _ _ (.refl _)) hfree) hfree)))))

theorem SameIn.runControl (n key : Nat) (h : SameIn splitKey a s) : SameIn splitKey a (s.runControl n key) := by
  unfold State.runControl
  split
  · exact h
  · refine .ite h (.ite (.endJob _ _ _ _ h) (.ite ?_ ?_))
    · split
      · exact .endJob _ _ _ _ h
      · exact .endJob _ _ _ _ (.setRas _ _ h)
    · split
      · exact h
      · refine .ite (.endJob _ _ _ _ h) (.ite h ?_)
        split
        · exact .endJob _ _ _ _ h
        · exact (SameIn.wrOff _ _ _ _ _ (by decide) (.setJob _ _ h)).trans (.of_regs rfl)

theorem SameIn.markReady {P : OKey → Prop} (n key : Nat) (h : SameIn P a s) : SameIn P a (s.markReady n key) :=
  .of_frame (State.markReady_frame s n key (List.Subset.refl _) (.refl _ _)) (by decide) h

theorem SameIn.checkPipe (n key : Nat) (h : SameIn splitKey a s) : SameIn splitKey a (s.checkPipe n key) := by
  unfold State.checkPipe
  split
  · exact h
  · exact .ite (.endJob _ _ _ _ h) (.ite (.endJob _ _ _ _ h) h)

theorem SameIn.tryFrag {P : OKey → Prop} (n key : Nat) (h : SameIn P a s) : SameIn P a (s.tryFrag n key) :=
  .of_frame (State.tryFrag_frame s n key (List.Subset.refl _) (.refl _ _)) (by decide) h

theorem SameIn.preemptFor (n : Nat) (u : Job) (h : SameIn splitKey a s) : SameIn splitKey a (s.preemptFor n u) := by
  refine SameIn.each (l := List.range 4) (fun x i _ hx => ?_) h
  dsimp only
  split
  · exact hx
  · refine .ite ?_ hx
    split
    · exact .setCore _ _ _ (.updJob _ _ _ hx)
    · split
      · exact .syncSlots _ (.countOff _ _ _ _ _ (by decide) (.setCore _ _ _ (.setRas _ _ hx)))
      · exact hx

theorem SameIn.preemptAll (n : Nat) (h : SameIn splitKey a s) : SameIn splitKey a (s.preemptAll n) :=
  .each (fun _ _ _ hs => .updJob _ _ _ (.preemptFor _ _ hs)) h

theorem SameIn.startRender (n key : Nat) (h : SameIn splitKey a s) : SameIn splitKey a (s.startRender n key) := by
  unfold State.startRender
  split
  · exact h
  · exact .ite h (.ite (.endJob _ _ _ _ h) (.setJob _ _ h))

theorem SameIn.fillCore (n i : Nat) (h : SameIn splitKey a s) : SameIn splitKey a (s.fillCore n i) := by
  have hgroups (key fuel : Nat) {x : State} (hx : SameIn splitKey a x) : SameIn splitKey a (x.fillGroups n i key fuel) :=
    .of_frame (State.fillGroups_frame x n i key fuel (List.Subset.refl _) (.refl _ _)) (by decide) hx
  have htiles (key fuel : Nat) {x : State} (hx : SameIn splitKey a x) : SameIn splitKey a (x.fillTiles n i key fuel) :=
    .of_frame (State.fillTiles_frame x n i key fuel (List.Subset.refl _) (.refl _ _)) (by decide) hx
  unfold State.fillCore
  dsimp only
  refine .ite h (.ite ?_ ?_)
  · split
    · exact .setCore _ _ _ h
    · split
      · exact .setCore _ _ _ (.updJob _ _ _ h)
      · exact .ite (hgroups _ _ (.setCore _ _ _ h)) (htiles _ _ (.startRender _ _ (.setCore _ _ _ h)))
  · split
    · exact .ite h (.ite (hgroups _ _ h) (htiles _ _ h))
    · exact h

theorem SameIn.settle (n : Nat) (h : SameIn splitKey a s) : SameIn splitKey a (s.settle n) := by
  unfold State.settle State.dispatch
  dsimp only
  refine .syncRaster _ (.each (fun _ _ _ hs => .fillCore _ _ hs) (.preemptAll _ (.each (fun x k _ hx => ?_) ?_)))
  · exact .tryFrag _ _ (.checkPipe _ _ (.markReady _ _ hx))
  · exact .each (fun _ _ _ hs => .runControl _ _ hs) h

theorem SameIn.admitJob (n key : Nat) (forced : Bool) (h : SameIn splitKey a s) : SameIn splitKey a (s.admitJob n key forced) := by
  unfold State.admitJob
  split
  · exact h
  · dsimp only
    have hadmit {x : State} (j : Job) (hx : SameIn splitKey a x) : SameIn splitKey a ((x.count Obj.ADMITS 0 n).touchHandles n j) :=
      (SameIn.countOff 0 n _ _ _ (by decide) hx).setRas _ _
    refine .markReady _ _ (.syncReserved _ _ (.ite (.countOff _ _ _ _ _ (by decide) ?_) ?_))
    all_goals exact hadmit _ (.setJob _ _ (.setRas _ _ h))

theorem SameIn.presentJob (n key : Nat) (h : SameIn splitKey a s) : SameIn splitKey a (s.presentJob n key) := by
  unfold State.presentJob
  split
  · exact h
  · dsimp only
    have hpresent (r : Raster) (k : Job) : SameIn splitKey a ((s.setRas n r).setJob n k) := (h.setRas n r).setJob n k
    refine .ite (.endJob _ _ _ _ (.countOff _ _ _ _ _ (by decide) (hpresent _ _))) (.ite (.admitJob _ _ _ (hpresent _ _))
      (.ite (.admitJob _ _ _ (hpresent _ _)) (.ite (.admitJob _ _ _ (hpresent _ _)) (.updJob _ _ _ (.ite ?_ (hpresent _ _))))))
    exact .countOff _ _ _ _ _ (by decide) (hpresent _ _)

theorem SameIn.presentDeferred (n : Nat) (h : SameIn splitKey a s) : SameIn splitKey a (s.presentDeferred n) :=
  .each (fun _ _ _ hs => .presentJob _ _ hs) h

/-- A change of the shader clock leaves the objects of the split. -/
theorem SameIn.setClock (n : Nat) (h : SameIn splitKey a s) : SameIn splitKey a (s.setClock n) := by
  have hclock (v : Int) : SameIn splitKey a ((s.wr Obj.SHADER_CLOCK_MHZ v n).redeadline n) :=
    .of_frame (State.redeadline_frame _ n (List.Subset.refl _) (.refl _ _)) (by decide) (.wrOff _ _ _ _ _ (by decide) h)
  rw [State.setClock]
  exact SameIn.settle n (hclock _)

end Jobs

end Sys2Proof.Machine

/-! The station loop: draws against allotments, operating points and shedding (R420, R439, R440, R447). -/
namespace Sys2Proof.Machine

/-! ### A station's figures -/

theorem State.sten_setSten (s : State) (n : Nat) (v : StationEnergy) : (s.setSten n v).sten n = v := by
  rw [State.sten, State.setSten, FMap.getD, FMap.find_put_self, Option.getD_some]

theorem Frame.energy {ps : List Part} {s t : State} (h : Frame ps s t) (hq : .energy ∉ ps) : t.energy = s.energy := h .energy hq

theorem State.energy_setClock (s : State) (n : Nat) : (s.setClock n).energy = s.energy :=
  (State.setClock_frame s n (List.Subset.refl _) (.refl _ _)).energy (by decide)

theorem State.energy_count (s : State) (r : ObjRow) (n i t j : Nat) : (s.count r n i t j).energy = s.energy := State.energy_wr ..

/-- A move of a station's point leaves its figures but for the raise under way (R420). -/
theorem State.sten_movePoint (s : State) (n p : Nat) : ((s.movePoint n p).sten n).overLimit = (s.sten n).overLimit ∧
    ((s.movePoint n p).sten n).under = (s.sten n).under := by
  have hsten {t u : State} (h : t.energy = u.energy) : t.sten n = u.sten n := by rw [State.sten, State.sten, h]
  rw [State.movePoint]
  split
  · simp only [State.sten_setSten, and_self]
  · simp only [hsten (State.energy_setClock _ n), hsten (State.energy_wr ..), State.sten_setSten, and_self]

/-! ### A tick of a running station -/

/-- The draw of a station's shader at divisor 1, from its samples of the last 1 ms (R439). -/
def State.tickDraw (s : State) (n : Nat) : Rat :=
  (((s.sten n).recent.sum : Nat) : Rat) / (1000 * max 1 (s.sten n).recent.length : Nat) * s.rdN Obj.WEIR_DIVISOR 0 n

/-- The allotment of a station's shader (R439). -/
def State.shaderAllotment (s : State) (n : Nat) : Rat := ((s.rdN Obj.STATION_ALLOTMENT_MW 0 n - s.rdN Obj.STATION_BASE_MW 0 n : Nat) : Rat)

/-- The point that a station above its allotment slows to: the first of the next two that fits, else the second, not below its floor
(R439). -/
def State.slowPoint (s : State) (n : Nat) : Nat :=
  match [s.rdN Obj.SHADER_POINT 0 n + 1, s.rdN Obj.SHADER_POINT 0 n + 2].find? (fun q => decide (q ≤ s.rdN Obj.SLOW_FLOOR 0 n) &&
    decide (s.tickDraw n * ((pointDraw q : Rat) / pointDraw (s.rdN Obj.SHADER_POINT 0 n)) ≤ s.shaderAllotment n)) with
  | some q => q
  | none => min (s.rdN Obj.SHADER_POINT 0 n + 2) (s.rdN Obj.SLOW_FLOOR 0 n)

/-- The figures of a station that slows (R439). -/
def StationEnergy.slowed (c : StationEnergy) : StationEnergy := { c with sinceSlow := 0, fits := 0, overLimit := 0, under := 0 }

/-- The figures of a station that does not slow at a tick, and whose point is at its ceiling or above it (R439, R440). -/
def State.heldFigures (s : State) (n : Nat) (above : Nat) : StationEnergy :=
  { s.sten n with sinceSlow := (s.sten n).sinceSlow + 1, fits := 0, overLimit := above,
                  under := if s.tickDraw n ≤ 8 * s.shaderAllotment n / 10 then (s.sten n).under + 1 else 0 }

/-- A tick of a station that draws no more than its allotment, at its ceiling (R439). -/
theorem exec_stationTick_of_fit {s : State} {n : Fin 8} (hrun : s.stationState n = stRunning)
    (hdraw : s.tickDraw n ≤ s.shaderAllotment n) (hceiling : s.rdN Obj.SHADER_POINT 0 n ≤ s.rdN Obj.POINT_CEILING 0 n)
    (hshed : s.rdB Obj.SHEDDING 0 n = false) :
    exec (.stationTick n) s = .next (((s.setSten n (s.heldFigures n 0)).presentDeferred n).settle n) := by
  have hover : decide (s.shaderAllotment n < s.tickDraw n) = false := by simpa using hdraw
  have hfast : decide (s.rdN Obj.POINT_CEILING 0 n < s.rdN Obj.SHADER_POINT 0 n) = false := by simpa using hceiling
  have hshed' (v : StationEnergy) : (s.setSten n v).rdB Obj.SHEDDING 0 n = false := hshed
  rw [State.shaderAllotment, State.tickDraw] at hover
  show execStationTick n s = _
  rw [execStationTick, if_neg (not_not_intro hrun)]
  simp only [hover, hfast, Bool.false_and, Bool.false_eq_true, if_false, State.sten_setSten, hshed', Bool.and_false]
  simp [State.heldFigures, State.tickDraw, State.shaderAllotment]

/-- The end of a tick of a station that need neither shed nor take up its BACKGROUND jobs again (R440). -/
theorem State.tickEnd_of_calm (s : State) {n : Nat} (hover : (s.sten n).overLimit = 0) (hunder : (s.sten n).under = 0) :
    (if 2 ≤ (s.sten n).overLimit && !s.rdB Obj.SHEDDING 0 n then s.shed n
      else if 5 ≤ (s.sten n).under && s.rdB Obj.SHEDDING 0 n then s.wr Obj.SHEDDING 0 0 n else s) = s := by
  rw [hover, hunder, if_neg (by simp), if_neg (by simp)]

/-- A tick of a station above its allotment and above its floor: it slows (R439). -/
theorem exec_stationTick_of_slow {s : State} {n : Fin 8} (hrun : s.stationState n = stRunning)
    (hdraw : s.shaderAllotment n < s.tickDraw n) (hfloor : s.rdN Obj.SHADER_POINT 0 n < s.rdN Obj.SLOW_FLOOR 0 n) :
    exec (.stationTick n) s = .next (((((s.setSten n (s.sten n).slowed).count Obj.SLOWS 0 n).movePoint n (s.slowPoint n)).presentDeferred
      n).settle n) := by
  have hslow : (decide (s.shaderAllotment n < s.tickDraw n) && decide (s.rdN Obj.SHADER_POINT 0 n < s.rdN Obj.SLOW_FLOOR 0 n)) = true := by
    simp [hdraw, hfloor]
  have hcounted : ((s.setSten n (s.sten n).slowed).count Obj.SLOWS 0 n).sten n = (s.sten n).slowed := by
    rw [State.sten, State.energy_count, ← State.sten, State.sten_setSten]
  obtain ⟨hover, hunder⟩ := State.sten_movePoint ((s.setSten n (s.sten n).slowed).count Obj.SLOWS 0 n) n (s.slowPoint n)
  rw [hcounted] at hover hunder
  have hend := State.tickEnd_of_calm _ hover hunder
  rw [State.shaderAllotment, State.tickDraw] at hslow
  show execStationTick n s = _
  rw [execStationTick, if_neg (not_not_intro hrun)]
  simp only [hslow, if_true]
  exact congrArg (fun u : State => Host.Outcome.next ((u.presentDeferred n).settle n)) hend

/-- A tick of a station that is a second time above its allotment at its floor: it sheds (R440). -/
theorem exec_stationTick_of_shed {s : State} {n : Fin 8} (hrun : s.stationState n = stRunning)
    (hdraw : s.shaderAllotment n < s.tickDraw n) (hfloor : s.rdN Obj.SHADER_POINT 0 n = s.rdN Obj.SLOW_FLOOR 0 n)
    (hceiling : s.rdN Obj.SHADER_POINT 0 n ≤ s.rdN Obj.POINT_CEILING 0 n) (hsecond : 1 ≤ (s.sten n).overLimit)
    (hshed : s.rdB Obj.SHEDDING 0 n = false) :
    exec (.stationTick n) s =
      .next ((((s.setSten n (s.heldFigures n ((s.sten n).overLimit + 1))).shed n).presentDeferred n).settle n) := by
  have hover : decide (s.shaderAllotment n < s.tickDraw n) = true := by simpa using hdraw
  have hslow : decide (s.rdN Obj.SHADER_POINT 0 n < s.rdN Obj.SLOW_FLOOR 0 n) = false := by simp [hfloor]
  have hfast : decide (s.rdN Obj.POINT_CEILING 0 n < s.rdN Obj.SHADER_POINT 0 n) = false := by simpa using hceiling
  have hshed' (v : StationEnergy) : (s.setSten n v).rdB Obj.SHEDDING 0 n = false := hshed
  have hat : decide (s.rdN Obj.SHADER_POINT 0 n = s.rdN Obj.SLOW_FLOOR 0 n) = true := by simpa using hfloor
  have htwice : 2 ≤ (s.sten n).overLimit + 1 := by omega
  rw [State.shaderAllotment, State.tickDraw] at hover
  show execStationTick n s = _
  rw [execStationTick, if_neg (not_not_intro hrun)]
  simp only [hover, hslow, hfast, hat, Bool.and_false, Bool.false_and, Bool.false_eq_true, if_false, State.sten_setSten, hshed']
  simp [State.heldFigures, State.tickDraw, State.shaderAllotment, htwice]

theorem exec_shaderPointSettled {s : State} {n : Fin 8} {p since : Nat} (hraise : (s.sten n).raising = some (p, since))
    (hsettled : since + 100 * (pointVoltage p - pointVoltage (s.rdN Obj.SHADER_POINT 0 n)) ≤ s.time) :
    exec (.shaderPointSettled n) s =
      .next (((s.setSten n { s.sten n with raising := none }).wr Obj.SHADER_POINT (p : Nat) 0 n).setClock n) := by
  show execShaderPointSettled n s = _
  rw [execShaderPointSettled]
  simp only [hraise, Nat.not_lt.2 hsettled, if_false]

end Sys2Proof.Machine

/-! The weir: divisors, the first comparison above the limit, ranking, release and saturation (R441, R442, R443). -/
namespace Sys2Proof.Machine

/-! ### Divisors -/

theorem splitKey_divisor {n : Nat} (h : n < 8) : splitKey (Obj.WEIR_DIVISOR.key 0 n 512 0) := by
  simp only [splitKey, ObjRow.key, Obj.WEIR_DIVISOR]
  simp; omega

theorem splitKey_weirState : splitKey (Obj.WEIR_STATE.key 0 0 512 0) := by unfold splitKey; decide

/-- A change of a divisor leaves the other objects of the split. -/
theorem SameIn.setDivisor (s : State) (n d : Nat) :
    SameIn (fun k => splitKey k ∧ k ≠ Obj.WEIR_DIVISOR.key 0 n 512 0) s (s.setDivisor n d) := by
  rw [State.setDivisor]
  have hwr (u : State) : SameIn (fun k => splitKey k ∧ k ≠ Obj.WEIR_DIVISOR.key 0 n 512 0) u (u.wr Obj.WEIR_DIVISOR d 0 n) :=
    .wr rfl (fun h => h.2 rfl) (.refl u)
  have hclock (u : State) : SameIn (fun k => splitKey k ∧ k ≠ Obj.WEIR_DIVISOR.key 0 n 512 0) u (u.setClock n) :=
    fun k hk => SameIn.setClock n (.refl u) k hk.1
  have hchange (u : State) (hu : u.regs = s.regs) :
      SameIn (fun k => splitKey k ∧ k ≠ Obj.WEIR_DIVISOR.key 0 n 512 0) s ((u.wr Obj.WEIR_DIVISOR d 0 n).setClock n) :=
    ((SameIn.of_regs hu).trans (hwr u)).trans (hclock _)
  split
  · exact .refl s
  · exact hchange _ rfl

/-- A divisor takes its value (R441). -/
theorem State.divisor_setDivisor_self (s : State) {n : Nat} (hn : n < 8) (d : Nat) : (s.setDivisor n d).divisor n = d := by
  rw [State.setDivisor]
  split
  · next h => exact h.symm
  · rw [State.divisor, (SameIn.setClock n (.refl _)).rdN (splitKey_divisor hn), State.rdN, State.rd_wr_self _ _ _ _ _ _ _ (.inl rfl)]
    rfl

theorem State.divisor_setDivisor_of_ne (s : State) {n m : Nat} (hm : m < 8) (h : m ≠ n) (d : Nat) :
    (s.setDivisor n d).divisor m = s.divisor m :=
  (SameIn.setDivisor s n d).rdN ⟨splitKey_divisor hm, by simp [ObjRow.key, Obj.WEIR_DIVISOR, h]⟩

theorem State.overLimit_setDivisor (s : State) (n d : Nat) : (s.setDivisor n d).energy.overLimit = s.energy.overLimit := by
  rw [State.setDivisor]
  split
  · rfl
  · rw [State.energy_setClock, State.energy_wr]

/-- Objects in front of the stations' are not divisors (R450). -/
theorem State.divisor_wr (s : State) {r : ObjRow} (hr : r.saved = false ∧ r.idx < 0x1000) (v : Int) (n : Nat) :
    (s.wr r v).divisor n = s.divisor n := by
  obtain ⟨hsaved, hidx⟩ := hr
  refine congrArg Int.toNat (State.rd_wr_of_ne _ _ _ _ _ _ _ _ _ _ _ _ (.inl hsaved) fun h => ?_)
  have hidxs : 0x1000 + n = r.idx + 0 := congrArg OKey.idx h
  omega

/-- Every divisor of a list of stations is doubled, up to 8 (R441). -/
def State.doubleDivisors (s : State) (l : List Nat) : State := s.each l fun s n => s.setDivisor n (min 8 (2 * s.divisor n))

theorem State.doubleDivisors_cons (s : State) (n : Nat) (l : List Nat) :
    s.doubleDivisors (n :: l) = (s.setDivisor n (min 8 (2 * s.divisor n))).doubleDivisors l := rfl

theorem State.divisor_doubleDivisors (s : State) {l : List Nat} (hl : l.Nodup) (h8 : ∀ n ∈ l, n < 8) {m : Nat} (hm : m < 8) :
    (s.doubleDivisors l).divisor m = if m ∈ l then min 8 (2 * s.divisor m) else s.divisor m := by
  induction l generalizing s with
  | nil => rfl
  | cons n l ih =>
    obtain ⟨hn, hl⟩ := List.nodup_cons.1 hl
    rw [State.doubleDivisors_cons, ih _ hl fun k hk => h8 k (by simp [hk])]
    by_cases hmn : m = n
    · subst hmn
      rw [if_neg hn, if_pos (by simp), State.divisor_setDivisor_self s hm]
    · rw [State.divisor_setDivisor_of_ne s hm hmn]
      simp [hmn]

theorem State.overLimit_doubleDivisors (s : State) (l : List Nat) : (s.doubleDivisors l).energy.overLimit = s.energy.overLimit := by
  induction l generalizing s with
  | nil => rfl
  | cons n l ih => rw [State.doubleDivisors_cons, ih, State.overLimit_setDivisor]

/-- The divisors leave the state of the weir. -/
theorem State.weirState_doubleDivisors (s : State) (l : List Nat) : (s.doubleDivisors l).rd Obj.WEIR_STATE = s.rd Obj.WEIR_STATE := by
  induction l generalizing s with
  | nil => rfl
  | cons n l ih =>
    rw [State.doubleDivisors_cons, ih]
    exact (SameIn.setDivisor s n _).rd ⟨splitKey_weirState, by simp [ObjRow.key, Obj.WEIR_DIVISOR, Obj.WEIR_STATE]⟩

/-! ### Comparisons -/

/-- The weir at its first comparison above the limit, before the note of the time at which every divisor is 8 (R441). -/
def State.weirExceeded (s : State) : State :=
  let u := (({ s with energy := { s.energy with overLimit := true, underSince := none } } : State).count Obj.WEIR_EVENTS).doubleDivisors
    s.runningStations
  if u.rdN Obj.WEIR_STATE = 3 then u else u.wr Obj.WEIR_STATE 1

/-- The first comparison above the limit (R441, R443). -/
theorem exec_weirCompare_of_first {s : State} {input : Nat} (hready : s.isHwReady 13 = true) (hover : s.weirLimit < input)
    (hfirst : s.energy.overLimit = false) : ∃ eight, exec (.weirCompare input) s =
      .next { s.weirExceeded with energy := { s.weirExceeded.energy with allEight := eight } } := by
  apply Exists.intro
  show execWeirCompare input s = _
  rw [execWeirCompare]
  simp only [hready, hover, hfirst, decide_true, Bool.not_true, Bool.not_false, Bool.and_true, Bool.false_eq_true, if_false, if_true]
  rfl

theorem exec_weirCompare_of_within {s : State} {input : Nat} (hready : s.isHwReady 13 = true) (hunder : input ≤ s.weirLimit) :
    exec (.weirCompare input) s = .next { s with
      energy := { s.energy with overLimit := false, underSince := some (s.energy.underSince.getD s.time), allEight := none } } := by
  have hover : decide (s.weirLimit < input) = false := by simpa using hunder
  show execWeirCompare input s = _
  rw [execWeirCompare]
  simp only [hready, hover, Bool.not_true, Bool.false_and, Bool.false_eq_true, if_false]

theorem State.runningStations_nodup (s : State) : s.runningStations.Nodup := List.nodup_range.filter _

theorem State.lt_of_mem_runningStations {s : State} {n : Nat} (h : n ∈ s.runningStations) : n < 8 :=
  List.mem_range.1 (List.mem_filter.1 h).1

/-- What the first comparison above the limit does: every running station's divisor is doubled (R441, R443). -/
theorem State.weirExceeded_effect (s : State) : s.weirExceeded.energy.overLimit = true ∧
    (∀ n ∈ s.runningStations, s.weirExceeded.divisor n = min 8 (2 * s.divisor n)) ∧
    s.weirExceeded.rd Obj.WEIR_STATE = (if s.rdN Obj.WEIR_STATE = 3 then s.rd Obj.WEIR_STATE else 1) := by
  rw [State.weirExceeded]
  obtain ⟨c, hc⟩ : ∃ c, c = ({ s with energy := { s.energy with overLimit := true, underSince := none } } : State).count Obj.WEIR_EVENTS :=
    ⟨_, rfl⟩
  have hcOver : c.energy.overLimit = true := by rw [hc, State.energy_count]
  have hcDivisor : ∀ n, c.divisor n = s.divisor n := fun n => by
    rw [hc]
    exact State.divisor_wr _ (by decide) _ n
  have hcState : c.rd Obj.WEIR_STATE = s.rd Obj.WEIR_STATE := by
    rw [hc]
    exact State.rd_wr_of_ne _ _ _ _ _ _ _ _ _ _ _ _ (.inl rfl) (by decide)
  rw [← hc]
  have huOver : (c.doubleDivisors s.runningStations).energy.overLimit = true := (c.overLimit_doubleDivisors _).trans hcOver
  have huDivisor : ∀ n ∈ s.runningStations, (c.doubleDivisors s.runningStations).divisor n = min 8 (2 * s.divisor n) := fun n hn => by
    rw [c.divisor_doubleDivisors s.runningStations_nodup (fun _ => State.lt_of_mem_runningStations) (State.lt_of_mem_runningStations hn),
      if_pos hn, hcDivisor]
  have huState : (c.doubleDivisors s.runningStations).rd Obj.WEIR_STATE = s.rd Obj.WEIR_STATE :=
    (c.weirState_doubleDivisors _).trans hcState
  have huStateN : (c.doubleDivisors s.runningStations).rdN Obj.WEIR_STATE = s.rdN Obj.WEIR_STATE := congrArg Int.toNat huState
  rw [huStateN]
  split
  · exact ⟨huOver, huDivisor, huState⟩
  · refine ⟨(congrArg Energy.overLimit (State.energy_wr ..)).trans huOver, fun n hn => ?_, State.rd_wr_self _ _ _ _ _ _ _ (.inl rfl)⟩
    rw [← huDivisor n hn]
    exact State.divisor_wr _ (by decide) _ n

/-- The end of a ranking says whether a divisor is left (R441). -/
theorem exec_weirClampRank {s : State} (x : WeirReading) (hclamp : s.rdN Obj.WEIR_STATE = 1) :
    ∃ u : State, exec (.weirClampRank x) s = .next (u.wr Obj.WEIR_STATE (if u.energy.clamps.isEmpty then 0 else 2)) := by
  apply Exists.intro
  show execWeirClampRank x s = _
  rw [execWeirClampRank, if_neg (not_not_intro hclamp)]

/-! ### Release and saturation -/

/-- A check of the release that is due, of an input within the limit (R442). -/
theorem exec_weirReleaseCheck {s : State} {x : WeirReading} {since n : Nat} {l : List Nat} (hunder : s.energy.underSince = some since)
    (hclamps : s.energy.clamps = n :: l) (hquiet : since + 1000000 ≤ s.time) (hchecked : s.energy.checkedAt + 1000000 ≤ s.time)
    (hinput : x.input ≤ s.weirLimit) (u : State) (hu : u = { s with energy := { s.energy with checkedAt := s.time } }) :
    exec (.weirReleaseCheck x) s = .next (
      if x.predict (x.draws.getD n 0) ≤ s.weirLimit then
        if (u.setDivisor n (s.divisor n / 2)).energy.clamps.isEmpty then (u.setDivisor n (s.divisor n / 2)).weirIdle
        else (u.setDivisor n (s.divisor n / 2)).wr Obj.WEIR_STATE 2
      else u) := by
  have hdue : (decide (s.time < since + 1000000) || decide (s.time < s.energy.checkedAt + 1000000) || decide (s.weirLimit < x.input)) = false := by
    simp; omega
  subst hu
  show execWeirReleaseCheck x s = _
  rw [execWeirReleaseCheck]
  simp only [hunder, hclamps, hdue, Bool.false_eq_true, if_false]
  rfl

theorem exec_weirSaturated {s : State} {since : Nat} (height : s.energy.allEight = some since) (hdue : since + 100000 ≤ s.time)
    (hstate : s.rdN Obj.WEIR_STATE ≠ 3) :
    exec .weirSaturated s = .next (((s.wr Obj.WEIR_STATE 3).count Obj.WEIR_SATURATIONS).alarm 4 1 noStation 0) := by
  show execWeirSaturated s = _
  rw [execWeirSaturated]
  simp [height, Nat.not_lt.2 hdue, hstate]

theorem exec_deviceBudgetMw {s : State} {who : Requester} {v : Nat} (haccept : s.accepts who Obj.DEVICE_BUDGET_MW v) :
    exec (.deviceBudgetMw who v) s = .next ((s.wr Obj.DEVICE_BUDGET_MW v).answer .ok) :=
  congrArg Host.Outcome.next (State.onWrite_of_accepts haccept _)

end Sys2Proof.Machine

/-! The split of the effective budget among the stations (R431 to R435). -/
namespace Sys2Proof.Machine

/-! ### What follows the split -/

section After
variable {a s : State}

theorem SameIn.splitTenants (n : Nat) (h : SameIn splitKey a s) : SameIn splitKey a (s.splitTenants n) := by
  unfold State.splitTenants State.growCredit
  dsimp only
  refine .each (fun _ _ _ hs => .wrOff _ _ _ _ _ (by decide) (.wrOff _ _ _ _ _ (by decide) hs)) (.each (fun _ _ _ hs => ?_) h)
  exact .wrOff _ _ _ _ _ (by decide) hs

theorem SameArea.of_alarms {s t : State} (h : SameObjectsBut s t alarmKeys) : SameArea 1 s t := fun k hk =>
  h k fun hmem => (show ∀ k ∈ alarmKeys, k.area ≠ 1 by decide) k hmem hk

theorem SameArea.alarm (s : State) (code st station detail : Nat) : SameArea 1 s (s.alarm code st station detail) :=
  .of_alarms (s.alarm_alarmKeys code st station detail)

theorem SameArea.clearAlarm (s : State) (code station detail : Nat) : SameArea 1 s (s.clearAlarm code station detail) :=
  .of_alarms (s.clearAlarm_alarmKeys code station detail)

end After

/-! ### The figures of the stations -/

/-- A fold that gives each number's object its value (R450). -/
theorem State.rd_each_own {f : State → Nat → State} {r : ObjRow} {n : Nat} {v : Int} (hown : ∀ s, (f s n).rd r 0 n = v)
    (hother : ∀ s m, n ≠ m → (f s m).rd r 0 n = s.rd r 0 n) (s : State) {l : List Nat} (hl : l.Nodup) (hn : n ∈ l) :
    (s.each l f).rd r 0 n = v := by
  have hrest : ∀ (l : List Nat) (s : State), n ∉ l → (s.each l f).rd r 0 n = s.rd r 0 n := by
    intro l
    induction l with
    | nil => exact fun _ _ => rfl
    | cons m l ih =>
      intro s hnot
      rw [List.mem_cons, not_or] at hnot
      exact (ih _ hnot.2).trans (hother s m hnot.1)
  induction l generalizing s with
  | nil => cases hn
  | cons m l ih =>
    obtain ⟨hm, hl⟩ := List.nodup_cons.1 hl
    rcases List.mem_cons.1 hn with rfl | hmem
    · exact (hrest l _ hm).trans (hown s)
    · exact ih _ hl hmem

/-- Bases, allotments and demands of the stations are written (R450). -/
def State.allot (s : State) (base allotment : Nat → Nat) (demand : Nat → Int) : State :=
  s.each (List.range 8) fun s n => ((s.wr Obj.STATION_BASE_MW (base n) 0 n).wr Obj.STATION_ALLOTMENT_MW (allotment n) 0 n).wr
    Obj.STATION_DEMAND_MW (demand n) 0 n

section Allot
variable (s : State) (base allotment : Nat → Nat) (demand : Nat → Int) {n : Nat}

theorem State.base_allot (hn : n < 8) : (s.allot base allotment demand).rd Obj.STATION_BASE_MW 0 n = base n := by
  refine State.rd_each_own (fun u => ?_) (fun u m hk => ?_) s List.nodup_range (List.mem_range.2 hn)
  · rw [State.rd_wr_of_ne _ _ _ _ _ _ _ _ _ _ _ _ (.inl rfl) (by simp [ObjRow.key, Obj.STATION_BASE_MW, Obj.STATION_DEMAND_MW]),
      State.rd_wr_of_ne _ _ _ _ _ _ _ _ _ _ _ _ (.inl rfl) (by simp [ObjRow.key, Obj.STATION_BASE_MW, Obj.STATION_ALLOTMENT_MW]),
      State.rd_wr_self _ _ _ _ _ _ _ (.inl rfl)]
  · rw [State.rd_wr_of_ne _ _ _ _ _ _ _ _ _ _ _ _ (.inl rfl) (by simp [ObjRow.key, Obj.STATION_BASE_MW, Obj.STATION_DEMAND_MW]),
      State.rd_wr_of_ne _ _ _ _ _ _ _ _ _ _ _ _ (.inl rfl) (by simp [ObjRow.key, Obj.STATION_BASE_MW, Obj.STATION_ALLOTMENT_MW]),
      State.rd_wr_of_ne _ _ _ _ _ _ _ _ _ _ _ _ (.inl rfl) (by simp [ObjRow.key, hk])]

theorem State.allotment_allot (hn : n < 8) : (s.allot base allotment demand).rd Obj.STATION_ALLOTMENT_MW 0 n = allotment n := by
  refine State.rd_each_own (fun u => ?_) (fun u m hk => ?_) s List.nodup_range (List.mem_range.2 hn)
  · rw [State.rd_wr_of_ne _ _ _ _ _ _ _ _ _ _ _ _ (.inl rfl) (by simp [ObjRow.key, Obj.STATION_ALLOTMENT_MW, Obj.STATION_DEMAND_MW]),
      State.rd_wr_self _ _ _ _ _ _ _ (.inl rfl)]
  · rw [State.rd_wr_of_ne _ _ _ _ _ _ _ _ _ _ _ _ (.inl rfl) (by simp [ObjRow.key, Obj.STATION_ALLOTMENT_MW, Obj.STATION_DEMAND_MW]),
      State.rd_wr_of_ne _ _ _ _ _ _ _ _ _ _ _ _ (.inl rfl) (by simp [ObjRow.key, hk]),
      State.rd_wr_of_ne _ _ _ _ _ _ _ _ _ _ _ _ (.inl rfl) (by simp [ObjRow.key, Obj.STATION_ALLOTMENT_MW, Obj.STATION_BASE_MW])]

end Allot

/-! ### The split -/

/-- The spare of a split: the effective budget without losses, the reserve of the headworks and the stations' bases (R432). -/
def State.powerSpare (s : State) : Int :=
  (s.rdN Obj.EFFECTIVE_BUDGET_MW : Int) - s.rdN Obj.LOSS_MW - (s.withMargin s.energy.headMeans) -
    (((List.range 8).map fun n => s.stationBase n).sum : Nat)

/-- The base of a station as the split takes it from its list. -/
def State.listedBase (s : State) (n : Nat) : Nat := ((List.range 8).map fun n => s.stationBase n).getD n 0

theorem State.listedBase_of_lt (s : State) {n : Nat} (h : n < 8) : s.listedBase n = s.stationBase n := by
  simp [State.listedBase, h]

/-- The state in which the split has been written, and the tenants' part is still to come (R431, R432, R436). -/
def State.splitWritten (s : State) (allotment : Nat → Nat) (demand : Nat → Int) : State :=
  let u := ((s.allot s.listedBase allotment demand).wr Obj.HEADWORKS_RESERVE_MW (s.withMargin s.energy.headMeans : Nat)).wrB Obj.BUDGET_SHORT
    (decide (s.powerSpare < 0))
  let u := if decide (s.powerSpare < 0) then (if u.alarmRaised 5 noStation then u else u.alarm 5 1 noStation 0) else u.clearAlarm 5 noStation 0
  { u with energy := { u.energy with splitBudget := s.rdN Obj.EFFECTIVE_BUDGET_MW } }

/-- A split writes the stations' figures, and goes on with their tenants; with a negative spare each allotment is the station's base. -/
theorem exec_energySplit {s : State} (hready : s.isHwReady 3 = true) (hclock : s.hwGated 0 = false) : ∃ (allotment : Nat → Nat) (demand : Nat → Int),
    exec .energySplit s = .next ((s.splitWritten allotment demand).each s.runningStations fun s n =>
      ((s.splitTenants n).presentDeferred n).settle n) ∧ (s.powerSpare < 0 → ∀ n < 8, allotment n = s.stationBase n) := by
  apply Exists.intro
  apply Exists.intro
  constructor
  · show execEnergySplit s = _
    rw [execEnergySplit, if_neg (by simp [hready, hclock])]
    rfl
  · intro hshort n hn
    have hdecide : decide (s.powerSpare < 0) = true := decide_eq_true hshort
    rw [State.powerSpare] at hdecide
    simp only [hdecide, Bool.true_or, if_true, List.getD_eq_getElem?_getD, List.getElem?_map, List.getElem?_range hn, Option.map_some,
      Option.getD_some]
    split <;> omega

/-! ### Figures that a split leaves -/

theorem splitKey_station {r : ObjRow} (hr : r.station = false ∧ r.area = 1 ∧ r.idx = 0x1000 ∧ r.sub < 0x10) {n : Nat} (hn : n < 8) :
    splitKey (r.key 0 n 512 0) := by
  obtain ⟨hstation, harea, hidx, hsub⟩ := hr
  simp only [splitKey, ObjRow.key, hstation, harea, hidx]
  simp; omega

/-- Tenants, alarms and the jobs that are presented again leave what the split has written (R432). -/
theorem State.afterSplit (s : State) (allotment : Nat → Nat) (demand : Nat → Int) :
    SameIn splitKey (((s.allot s.listedBase allotment demand).wr Obj.HEADWORKS_RESERVE_MW (s.withMargin s.energy.headMeans : Nat)).wrB
      Obj.BUDGET_SHORT (decide (s.powerSpare < 0)))
      ((s.splitWritten allotment demand).each s.runningStations fun s n => ((s.splitTenants n).presentDeferred n).settle n) := by
  refine .each (fun _ n _ h => .settle n (.presentDeferred n (.splitTenants n h))) ?_
  rw [State.splitWritten]
  generalize State.wrB _ _ _ = u
  have halarms : SameArea 1 u (if decide (s.powerSpare < 0) then (if u.alarmRaised 5 noStation then u else u.alarm 5 1 noStation 0)
      else u.clearAlarm 5 noStation 0) :=
    .ite (.ite (.refl u) (.alarm u 5 1 noStation 0)) (.clearAlarm u 5 noStation 0)
  exact .of_energyArea (halarms.trans (.of_regs rfl)) (.refl u)

section Written
variable (s : State) (base allotment : Nat → Nat) (demand : Nat → Int) (reserve : Nat) (short : Bool)

theorem State.short_written : (((s.allot base allotment demand).wr Obj.HEADWORKS_RESERVE_MW reserve).wrB Obj.BUDGET_SHORT short).rdB
    Obj.BUDGET_SHORT = short := by
  rw [State.rdB, State.wrB, State.rd_wr_self _ _ _ _ _ _ _ (.inl rfl)]
  cases short <;> rfl

theorem State.reserve_written : (((s.allot base allotment demand).wr Obj.HEADWORKS_RESERVE_MW reserve).wrB Obj.BUDGET_SHORT short).rd
    Obj.HEADWORKS_RESERVE_MW = reserve := by
  rw [State.wrB, State.rd_wr_of_ne _ _ _ _ _ _ _ _ _ _ _ _ (.inl rfl) (by decide), State.rd_wr_self _ _ _ _ _ _ _ (.inl rfl)]

/-- The reserve and the short flag stand apart from the stations' figures (R450). -/
theorem State.station_written {r : ObjRow} (hr : r.idx = 0x1000) (n : Nat) :
    (((s.allot base allotment demand).wr Obj.HEADWORKS_RESERVE_MW reserve).wrB Obj.BUDGET_SHORT short).rd r 0 n =
      (s.allot base allotment demand).rd r 0 n := by
  have hkey : ∀ q : ObjRow, q.idx < 0x1000 → r.key 0 n 512 0 ≠ q.key 0 0 512 0 := fun q hq h => by
    have hidxs : r.idx + n = q.idx + 0 := congrArg OKey.idx h
    omega
  rw [State.wrB, State.rd_wr_of_ne _ _ _ _ _ _ _ _ _ _ _ _ (.inl rfl) (hkey _ (by decide)),
    State.rd_wr_of_ne _ _ _ _ _ _ _ _ _ _ _ _ (.inl rfl) (hkey _ (by decide))]

end Written

end Sys2Proof.Machine

/-! The 10 ms period: means, the thermal cap and the effective budget (R430, R431). -/
namespace Sys2Proof.Machine

/-! ### The means of a period -/

/-- Samples that the means of a period divide by. -/
def State.periodSamples (s : State) : Nat := max 1 s.energy.samples

/-- The mean of a domain over the period, in mW (R430). -/
def State.periodMean (s : State) (d : Nat) : Nat := s.energy.sums.getD d 0 / (1000 * s.periodSamples)

/-- The input power of a period (R430, R446). -/
def State.periodInput (s : State) : Nat := s.periodMean domInput + ((List.range 8).map fun n => s.periodMean (domEdge n)).sum

/-- The losses of a period (R431). -/
def State.periodLoss (s : State) : Nat := s.periodMean domInput - ((List.range 26).map s.periodMean).sum

/-- The figures of the device and of the stations are written (R430, R431, R450). -/
def State.periodWritten (s : State) (tj : Int) : State :=
  ((((s.each (List.range 35) fun u d => u.wr Obj.POWER_MW (s.periodMean d : Nat) 0 d).wr Obj.INPUT_POWER_MW (s.periodInput : Nat)).wr
    Obj.LOSS_MW (s.periodLoss : Nat)).wr Obj.TJ_C tj).each (List.range 8) fun u n =>
      (u.setSten n { u.sten n with
        baseMeans := pushWindow 100 (s.periodMean (domStn n) + s.periodMean (domMc n) + s.periodMean (domEdge n)) (u.sten n).baseMeans,
        busyPct := (u.sten n).busy * 100 / (4 * s.periodSamples), busy := 0 }).wr Obj.SHADER_DRAW_MW (s.periodMean (domShd n) : Nat) 0 n

/-- The thermal cap that follows the junction temperature (R430). -/
def State.nextCap (u : State) (tj : Int) (input : Nat) : Nat :=
  if u.rdAs Obj.TJ_SOFT_C ≤ tj then 95 * min u.energy.cap input / 100
  else if tj ≤ u.rdAs Obj.TJ_SOFT_C - 3 then min 110000 (u.energy.cap + u.rdN Obj.DEVICE_BUDGET_MW / 100)
  else u.energy.cap

/-- The energy loops as a period leaves them (R430). -/
def State.periodEnergy (u : State) (cap head : Nat) : State := { u with
  energy := { u.energy with cap := cap, sums := [], samples := 0, tenantLast := u.energy.tenantNow, tenantNow := []
                            headMeans := pushWindow 100 head u.energy.headMeans } }

/-- The budget of the next period is written (R430, R450). -/
def State.periodBudget (u : State) (cap head : Nat) : State :=
  ((u.periodEnergy cap head).wr Obj.EFFECTIVE_BUDGET_MW (min (u.rdN Obj.DEVICE_BUDGET_MW) cap : Nat)).wrB Obj.THERMAL_DERATING (decide (cap < 110000))

/-- The junction's alarm follows its temperature (R430, R516). -/
def State.junctionAlarm (v : State) (tj : Int) : State :=
  if (v.junctionLimit : Int) ≤ tj && !v.alarmRaised 3 noStation then v.alarm 3 1 noStation tj.toNat
  else if tj < (v.junctionLimit : Int) - 5 then v.clearAlarm 3 noStation tj.toNat
  else v

theorem State.budgetPeriod_cons (s : State) (t0 : Int) (l : List Int) :
    s.budgetPeriod (t0 :: l) = ((s.periodWritten (l.foldl max t0)).periodBudget
      ((s.periodWritten (l.foldl max t0)).nextCap (l.foldl max t0) s.periodInput) (s.periodMean domHw + s.periodMean domSec)).junctionAlarm
      (l.foldl max t0) := by
  unfold State.budgetPeriod
  extract_lets k mean tj edges input loss u1 u2 u3 soft budget cap e u4 u5 limit u6
  have hwritten : s.periodWritten (l.foldl max t0) = u3 := rfl
  have hcap : u3.nextCap (l.foldl max t0) s.periodInput = cap := rfl
  rw [hwritten, hcap]
  clear_value cap
  clear_value u3
  rfl

theorem exec_budgetPeriod {s : State} (t0 : Int) (l : List Int) (hready : s.isHwReady 12 = true) :
    exec (.budgetPeriod (t0 :: l)) s = .next (s.budgetPeriod (t0 :: l)) := congrArg Host.Outcome.next (if_pos hready)

/-! ### What a period leaves -/

section Written
variable (s : State) (tj : Int)

/-- The means leave the thermal cap. -/
theorem State.cap_periodWritten : (s.periodWritten tj).energy.cap = s.energy.cap := by
  have hpower := State.each_keeps State.energy (g := fun u d => u.wr Obj.POWER_MW (s.periodMean d : Nat) 0 d) (fun u d => State.energy_wr ..) s
    (List.range 35)
  rw [State.periodWritten, State.each_keeps fun u => u.energy.cap, State.energy_wr, State.energy_wr, State.energy_wr, hpower]
  intro u n
  rw [State.energy_wr]
  rfl

/-- The means of stations leave the objects in front of theirs (R450). -/
theorem State.front_periodWritten : 
    SameIn (fun k => k.idx < 0x1000) (((s.wr Obj.INPUT_POWER_MW (s.periodInput : Nat)).wr Obj.LOSS_MW (s.periodLoss : Nat)).wr Obj.TJ_C tj)
      (s.periodWritten tj) := by
  have hrow {r : ObjRow} (hr : 0x1000 ≤ r.idx) (i : Nat) : ¬(r.key 0 i 512 0).idx < 0x1000 := Nat.not_lt.2 (Nat.le_trans hr (Nat.le_add_right ..))
  have hdomains (m : Nat → Int) (a : State) : SameIn (fun k => k.idx < 0x1000) a (a.each (List.range 35) fun u d => u.wr Obj.POWER_MW (m d) 0 d) :=
    .each (fun u d _ h => .wr rfl (hrow (by decide) d) h) (.refl a)
  have hwr (r : ObjRow) (hr : r.saved = false) (v : Int) {a b : State} (h : SameIn (fun k => k.idx < 0x1000) a b) :
      SameIn (fun k => k.idx < 0x1000) (a.wr r v) (b.wr r v) := fun k hk => by
    rw [State.wr_find b r v 0 0 512 0 k (.inl hr), State.wr_find a r v 0 0 512 0 k (.inl hr), h k hk]
  rw [State.periodWritten]
  exact .each (fun u n _ h => .wr rfl (hrow (by decide) n) (h.trans (.of_regs rfl)))
    (hwr _ rfl _ (hwr _ rfl _ (hwr _ rfl _ (hdomains _ s))))

/-- What the figures of a period write (R450). -/
def State.periodFront : State := ((s.wr Obj.INPUT_POWER_MW (s.periodInput : Nat)).wr Obj.LOSS_MW (s.periodLoss : Nat)).wr Obj.TJ_C tj

theorem State.rd_periodWritten {r : ObjRow} (hr : r.idx < 0x1000) : (s.periodWritten tj).rd r = (s.periodFront tj).rd r :=
  (s.front_periodWritten tj).rd hr

/-- An object that the figures of a period do not hold stands as before. -/
theorem State.find_periodWritten {r : ObjRow} (hr : r.idx < 0x1000)
    (hkey : ∀ q ∈ [Obj.INPUT_POWER_MW, Obj.LOSS_MW, Obj.TJ_C], r.key 0 0 512 0 ≠ q.key 0 0 512 0) :
    (s.periodWritten tj).regs.find (r.key 0 0 512 0) = s.regs.find (r.key 0 0 512 0) := by
  rw [s.front_periodWritten tj _ hr, State.wr_find _ _ _ _ _ _ _ _ (.inl rfl), if_neg (hkey _ (by simp)),
    State.wr_find _ _ _ _ _ _ _ _ (.inl rfl), if_neg (hkey _ (by simp)), State.wr_find _ _ _ _ _ _ _ _ (.inl rfl), if_neg (hkey _ (by simp))]

theorem State.input_periodWritten : (s.periodWritten tj).rd Obj.INPUT_POWER_MW = s.periodInput := by
  rw [s.rd_periodWritten tj (by decide), State.periodFront, State.rd_wr_of_ne _ _ _ _ _ _ _ _ _ _ _ _ (.inl rfl) (by decide),
    State.rd_wr_of_ne _ _ _ _ _ _ _ _ _ _ _ _ (.inl rfl) (by decide), State.rd_wr_self _ _ _ _ _ _ _ (.inl rfl)]

theorem State.tj_periodWritten : (s.periodWritten tj).rd Obj.TJ_C = tj := by
  rw [s.rd_periodWritten tj (by decide), State.periodFront, State.rd_wr_self _ _ _ _ _ _ _ (.inl rfl)]

theorem State.budget_periodWritten : (s.periodWritten tj).rdN Obj.DEVICE_BUDGET_MW = s.rdN Obj.DEVICE_BUDGET_MW := by
  rw [State.rdN, State.rd, s.find_periodWritten tj (by decide) (by decide)]
  rfl

theorem State.blobs_periodWritten : (s.periodWritten tj).blobs = s.blobs := by
  have hpower := State.each_keeps State.blobs (g := fun u d => u.wr Obj.POWER_MW (s.periodMean d : Nat) 0 d) (fun u d => State.blobs_wr ..) s
    (List.range 35)
  rw [State.periodWritten, State.each_keeps State.blobs, State.blobs_wr, State.blobs_wr, State.blobs_wr, hpower]
  exact fun u n => State.blobs_wr ..

theorem State.rdAs_soft (s : State) : s.rdAs Obj.TJ_SOFT_C = (s.regs.find (Obj.TJ_SOFT_C.key 0 0 512 0)).getD (if s.isExtended then 100 else 95) := by
  rw [State.rdAs]
  cases s.regs.find (Obj.TJ_SOFT_C.key 0 0 512 0)
  · exact if_pos rfl
  · rfl

/-- The soft limit of the junction stands (R430). -/
theorem State.soft_periodWritten : (s.periodWritten tj).rdAs Obj.TJ_SOFT_C = s.rdAs Obj.TJ_SOFT_C := by
  have hextended : (s.periodWritten tj).isExtended = s.isExtended := by
    rw [State.isExtended, State.isExtended, State.blob, State.blob, s.blobs_periodWritten]
  rw [State.rdAs_soft, State.rdAs_soft, s.find_periodWritten tj (by decide) (by decide), hextended]

end Written

/-! ### The end of a period -/

/-- The junction's alarm leaves the objects of the energy area and the energy loops (R516). -/
theorem State.junctionAlarm_effect (v : State) (tj : Int) : SameArea 1 v (v.junctionAlarm tj) ∧ (v.junctionAlarm tj).energy = v.energy := by
  rw [State.junctionAlarm]
  split
  · exact ⟨.alarm v 3 1 noStation tj.toNat, (State.alarm_frame v 3 1 noStation tj.toNat (List.Subset.refl _) (.refl _ _)).energy (by decide)⟩
  · split
    · exact ⟨.clearAlarm v 3 noStation tj.toNat, (State.clearAlarm_frame v 3 noStation tj.toNat (List.Subset.refl _) (.refl _ _)).energy (by decide)⟩
    · exact ⟨.refl v, rfl⟩

/-- What the end of a period leaves: its cap, and the budget below it (R430). -/
theorem State.periodBudget_effect (u : State) (tj : Int) (cap head : Nat) :
    ((u.periodBudget cap head).junctionAlarm tj).energy = (u.periodEnergy cap head).energy ∧
    ((u.periodBudget cap head).junctionAlarm tj).rd Obj.EFFECTIVE_BUDGET_MW = (min (u.rdN Obj.DEVICE_BUDGET_MW) cap : Nat) ∧
    ((u.periodBudget cap head).junctionAlarm tj).rd Obj.TJ_C = u.rd Obj.TJ_C ∧
    ((u.periodBudget cap head).junctionAlarm tj).rdN Obj.INPUT_POWER_MW = u.rdN Obj.INPUT_POWER_MW := by
  obtain ⟨harea, henergy⟩ := (u.periodBudget cap head).junctionAlarm_effect tj
  have hother {r : ObjRow} (heff : r.key 0 0 512 0 ≠ Obj.EFFECTIVE_BUDGET_MW.key 0 0 512 0)
      (hderate : r.key 0 0 512 0 ≠ Obj.THERMAL_DERATING.key 0 0 512 0) : (u.periodBudget cap head).rd r = u.rd r :=
    (State.rd_wr_of_ne _ _ _ _ _ _ _ _ _ _ _ _ (.inl rfl) hderate).trans (State.rd_wr_of_ne _ _ _ _ _ _ _ _ _ _ _ _ (.inl rfl) heff)
  refine ⟨?_, ?_, ?_, ?_⟩
  · rw [henergy, State.periodBudget, State.wrB, State.energy_wr, State.energy_wr]
  · rw [harea.rd (by decide), State.periodBudget, State.wrB, State.rd_wr_of_ne _ _ _ _ _ _ _ _ _ _ _ _ (.inl rfl) (by decide),
      State.rd_wr_self _ _ _ _ _ _ _ (.inl rfl)]
  · exact (harea.rd (by decide) ..).trans (hother (by decide) (by decide))
  · exact (harea.rdN (by decide) ..).trans (congrArg Int.toNat (hother (by decide) (by decide)))

/-- What a period leaves, by the highest of the sensors (R430). -/
theorem State.budgetPeriod_effect (s : State) (t0 : Int) (l : List Int) (tj : Int) (htj : l.foldl max t0 = tj) :
    (s.budgetPeriod (t0 :: l)).energy.cap = (if s.rdAs Obj.TJ_SOFT_C ≤ tj then
        95 * min s.energy.cap ((s.budgetPeriod (t0 :: l)).rdN Obj.INPUT_POWER_MW) / 100
      else if tj ≤ s.rdAs Obj.TJ_SOFT_C - 3 then min 110000 (s.energy.cap + s.rdN Obj.DEVICE_BUDGET_MW / 100) else s.energy.cap) ∧
    (s.budgetPeriod (t0 :: l)).rd Obj.EFFECTIVE_BUDGET_MW =
      (min (s.rdN Obj.DEVICE_BUDGET_MW) (s.budgetPeriod (t0 :: l)).energy.cap : Nat) ∧
    (s.budgetPeriod (t0 :: l)).rd Obj.TJ_C = tj ∧ (s.budgetPeriod (t0 :: l)).energy.sums = [] ∧
    (s.budgetPeriod (t0 :: l)).energy.samples = 0 := by
  have hperiod := s.budgetPeriod_cons t0 l
  rw [htj] at hperiod
  rw [hperiod]
  obtain ⟨henergy, hbudget, htjNow, hinput⟩ := (s.periodWritten tj).periodBudget_effect tj ((s.periodWritten tj).nextCap tj s.periodInput)
    (s.periodMean domHw + s.periodMean domSec)
  rw [henergy, hbudget, htjNow, hinput, s.tj_periodWritten, s.budget_periodWritten]
  have hinputN : (s.periodWritten tj).rdN Obj.INPUT_POWER_MW = s.periodInput := congrArg Int.toNat (s.input_periodWritten tj)
  refine ⟨?_, rfl, rfl, rfl, rfl⟩
  rw [hinputN, ← s.cap_periodWritten tj, ← s.soft_periodWritten tj, ← s.budget_periodWritten tj]
  rfl

end Sys2Proof.Machine

/-! The samples of the domains and their charges (R421, R422, R423, R425, R427). -/
namespace Sys2Proof.Machine

/-! ### What the charges of a sample leave -/

/-- The voltage or the current of a domain (R450). -/
def meterKey (k : OKey) : Prop := k.area = 1 ∧ 0x3000 ≤ k.idx ∧ k.idx < 0x4000 ∧ k.sub ≤ 2

theorem ObjRow.not_meterKey {r : ObjRow} {n i t : Nat} (h : r.idx + i < 0x3000 ∨ 0x4000 ≤ r.idx ∨ 2 < r.sub) : ¬meterKey (r.key n i t 0) := by
  simp only [meterKey, ObjRow.key]
  omega

/-- Two states have the same voltages and currents of the domains, and count the same samples of the period. -/
def SameMeters (s t : State) : Prop := SameIn meterKey s t ∧ t.energy.samples = s.energy.samples

section Charges
variable {a s : State}

theorem SameMeters.refl (s : State) : SameMeters s s := ⟨.refl s, rfl⟩

theorem SameMeters.of_same {t : State} (h : SameMeters a s) (hregs : t.regs = s.regs) (hsamples : t.energy.samples = s.energy.samples) :
    SameMeters a t := ⟨h.1.trans (.of_regs hregs), hsamples.trans h.2⟩

theorem SameMeters.wr {r : ObjRow} (v : Int) (n i t : Nat) (hr : r.saved = false) (hkey : r.idx + i < 0x3000 ∨ 0x4000 ≤ r.idx ∨ 2 < r.sub)
    (h : SameMeters a s) : SameMeters a (s.wr r v n i t) :=
  ⟨.wr hr (ObjRow.not_meterKey hkey) h.1, (congrArg Energy.samples (State.energy_wr ..)).trans h.2⟩

theorem SameMeters.total {r : ObjRow} (amount n i t : Nat) (hr : r.saved = false) (hkey : r.idx + i < 0x3000 ∨ 0x4000 ≤ r.idx ∨ 2 < r.sub)
    (h : SameMeters a s) : SameMeters a (s.total r amount n i t) := .wr _ _ _ _ hr hkey h

theorem SameMeters.setSten (n : Nat) (c : StationEnergy) (h : SameMeters a s) : SameMeters a (s.setSten n c) := h.of_same rfl rfl

theorem SameMeters.setRas (n : Nat) (r : Raster) (h : SameMeters a s) : SameMeters a (s.setRas n r) := h.of_same rfl rfl

theorem SameMeters.ite {p : Prop} [Decidable p] {b c : State} (hb : SameMeters a b) (hc : SameMeters a c) : SameMeters a (if p then b else c) := by
  split <;> assumption

theorem SameMeters.each {α : Type} {f : State → α → State} {l : List α} (hf : ∀ u, ∀ x ∈ l, SameMeters a u → SameMeters a (f u x))
    (h : SameMeters a s) : SameMeters a (s.each l f) := by
  induction l generalizing s with
  | nil => exact h
  | cons x l ih => exact ih (fun u y hy => hf u y (by simp [hy])) (hf s x (by simp) h)

theorem SameMeters.addFine (k : Nat × Nat × Nat) (fine : Nat) {f : Nat → State → State} (hf : ∀ uj u, SameMeters a u → SameMeters a (f uj u))
    (h : SameMeters a s) : SameMeters a (s.addFine k fine f) := by
  have hkept : SameMeters a ({ s with energy := { s.energy with frac := s.energy.frac.put k ((s.energy.frac.getD k 0 + fine) % 100000) } } : State) :=
    h.of_same rfl rfl
  exact .ite (hf _ _ hkept) hkept

theorem SameMeters.chargeTenant {n : Nat} (t fine : Nat) (hn : n < 8) (h : SameMeters a s) : SameMeters a (s.chargeTenant n t fine) := by
  unfold State.chargeTenant
  refine .addFine _ _ (fun uj u hu => ?_) (h.of_same rfl rfl)
  have hcredit : Obj.CREDIT_UJ.idx + n < 0x3000 := Nat.add_lt_add_left (Nat.lt_trans hn (by decide : 8 < 0x1000)) 0x2000
  exact .wr _ _ _ _ rfl (.inl hcredit) (.total _ _ _ _ rfl (by decide) (.total _ _ _ _ rfl (.inr (by decide)) hu))

theorem SameMeters.chargeEnclave (e : Nat) (station : Option Nat) (fine : Nat) (h : SameMeters a s) :
    SameMeters a (s.chargeEnclave e station fine) := by
  have hown : SameMeters a (s.addFine (1, e, 0) fine fun uj s => s.total Obj.ENCLAVE_ENERGY_UJ uj 0 e) :=
    .addFine _ _ (fun uj u hu => .total _ _ _ _ rfl (.inr (by decide)) hu) h
  have htotal (t : Nat) {u : State} (hu : SameMeters a u) :
      SameMeters a (u.addFine (3, t, 0) fine fun uj s => s.total Obj.TOTAL_ENERGY_UJ uj 0 0 t) :=
    .addFine _ _ (fun uj u hu => .total _ _ _ _ rfl (by decide) hu) hu
  unfold State.chargeEnclave
  refine .ite (htotal _ ?_) hown
  cases station with
  | none => exact hown
  | some n => exact .addFine _ _ (fun uj u hu => .total _ _ _ _ rfl (.inr (by decide)) hu) hown

theorem SameMeters.chargeAccount (kind n fine : Nat) (h : SameMeters a s) : SameMeters a (s.chargeAccount kind n fine) :=
  .addFine _ _ (fun uj u hu => .ite (.total _ _ _ _ rfl (.inr (by decide)) hu) (.ite (.total _ _ _ _ rfl (.inr (by decide)) hu)
    (.total _ _ _ _ rfl (by decide) hu))) h

theorem SameMeters.chargePayer {n : Nat} (kind : Nat) (p : Payer) (fine : Nat) (hn : n < 8) (h : SameMeters a s) :
    SameMeters a (s.chargePayer n kind p fine) := by
  unfold State.chargePayer
  cases p with
  | job key =>
    dsimp only
    split
    · exact .wr _ _ _ _ rfl (.inr (by decide)) (.chargeTenant _ _ hn (h.of_same rfl rfl))
    · exact .chargeAccount _ _ _ h
  | tenant t => exact .chargeTenant _ _ hn h
  | enclave e => exact .chargeEnclave _ _ _ h
  | base => exact .chargeAccount _ _ _ h

theorem SameMeters.splitCharge {n : Nat} (kind fine : Nat) (shares : List (Payer × Nat)) (hn : n < 8) (h : SameMeters a s) :
    SameMeters a (s.splitCharge n kind fine shares) := by
  unfold State.splitCharge
  exact .ite (.chargeAccount _ _ _ h) (.chargeAccount _ _ _ (.each (fun u p _ hu => .chargePayer _ _ _ hn hu) h))

theorem SameMeters.chargeStation {n : Nat} (e : Nat → Nat) (x : EnergySample) (hn : n < 8) (h : SameMeters a s) :
    SameMeters a (s.chargeStation n e x) := by
  unfold State.chargeStation
  exact .ite (.splitCharge _ _ _ hn h) (.chargeAccount _ _ _ (.splitCharge _ _ _ hn (.splitCharge _ _ _ hn h)))

end Charges

/-! ### A sample -/

/-- The energy of a domain in a sample, in units of 10⁻⁵ µJ (R421). -/
def EnergySample.fine (x : EnergySample) (d : Nat) : Nat :=
  match x.domains[d]? with
  | some v => v.1 * v.2
  | none => 0

/-- The counter of a domain after a sample (R421, R422). -/
def State.addDomain (s : State) (x : EnergySample) (d : Nat) : State :=
  ({ s with energy := { s.energy with sums := s.energy.sums.put d (s.energy.sums.getD d 0 + x.fine d) } } : State).addFine (7, d, 0) (x.fine d)
    fun uj s => s.total Obj.ENERGY_UJ uj 0 d

/-- A domain's part of a sample (R421, R422). -/
def State.meterDomain (x : EnergySample) (s : State) (d : Nat) : State :=
  ((s.wr Obj.VOLTAGE_MV ((x.domains.getD d (0, 0)).1 : Nat) 0 d).wr Obj.CURRENT_MA ((x.domains.getD d (0, 0)).2 : Nat) 0 d).addDomain x d

theorem SameMeters.addDomain (s : State) (x : EnergySample) (d : Nat) : SameMeters s (s.addDomain x d) :=
  .addFine _ _ (fun _ _ hu => .total _ _ _ _ rfl (.inr (by decide)) hu) ((SameMeters.refl s).of_same rfl rfl)

/-- Past the domains a sample charges, and counts itself (R421, R423). -/
theorem State.energySample_eq (s : State) (x : EnergySample) : ∃ u, SameMeters (s.each (List.range 35) (State.meterDomain x)) u ∧
    s.energySample x = { u with energy := { u.energy with samples := u.energy.samples + 1, secTime := [] } } := by
  unfold State.energySample
  extract_lets fine u1 edges u2 u3 u4 u5
  have h1 : s.each (List.range 35) (State.meterDomain x) = u1 := rfl
  rw [h1]
  clear_value u1
  have h2 : SameMeters u1 u2 := .addFine _ _ (fun _ _ hu => .total _ _ _ _ rfl (by decide) hu) (.refl u1)
  clear_value u2
  have h3 : SameMeters u1 u3 := .each (fun u n hn hu => .setRas _ _ (.chargeStation _ _ (List.mem_range.1 hn) (.setSten _ _ hu))) h2
  clear_value u3
  have h4 : SameMeters u1 u4 := .chargeAccount _ _ _ h3
  clear_value u4
  exact ⟨u5, .splitCharge _ _ _ (by decide) h4, rfl⟩

section Meters
variable (s : State) (x : EnergySample) {d : Nat}

theorem meterKey_of_lt {r : ObjRow} (hr : r.station = false ∧ r.area = 1 ∧ r.idx = 0x3000 ∧ r.sub ≤ 2) (hd : d < 35) : meterKey (r.key 0 d 512 0) := by
  obtain ⟨hstation, harea, hidx, hsub⟩ := hr
  simp only [meterKey, ObjRow.key, hstation, harea, hidx]
  simp; omega

theorem State.voltage_meterDomains (hd : d < 35) :
    (s.each (List.range 35) (State.meterDomain x)).rd Obj.VOLTAGE_MV 0 d = ((x.domains.getD d (0, 0)).1 : Nat) := by
  have hadd (u : State) (m : Nat) : (u.addDomain x m).rd Obj.VOLTAGE_MV 0 d = u.rd Obj.VOLTAGE_MV 0 d :=
    (SameMeters.addDomain u x m).1.rd (meterKey_of_lt (by decide) hd)
  refine State.rd_each_own (fun u => ?_) (fun u m hm => ?_) s List.nodup_range (List.mem_range.2 hd)
  · rw [State.meterDomain, hadd,
      State.rd_wr_of_ne _ _ _ _ _ _ _ _ _ _ _ _ (.inl rfl) (by simp [ObjRow.key, Obj.VOLTAGE_MV, Obj.CURRENT_MA]),
      State.rd_wr_self _ _ _ _ _ _ _ (.inl rfl)]
  · rw [State.meterDomain, hadd,
      State.rd_wr_of_ne _ _ _ _ _ _ _ _ _ _ _ _ (.inl rfl) (by simp [ObjRow.key, Obj.VOLTAGE_MV, Obj.CURRENT_MA]),
      State.rd_wr_of_ne _ _ _ _ _ _ _ _ _ _ _ _ (.inl rfl) (by simp [ObjRow.key, hm])]

theorem State.current_meterDomains (hd : d < 35) :
    (s.each (List.range 35) (State.meterDomain x)).rd Obj.CURRENT_MA 0 d = ((x.domains.getD d (0, 0)).2 : Nat) := by
  have hadd (u : State) (m : Nat) : (u.addDomain x m).rd Obj.CURRENT_MA 0 d = u.rd Obj.CURRENT_MA 0 d :=
    (SameMeters.addDomain u x m).1.rd (meterKey_of_lt (by decide) hd)
  refine State.rd_each_own (fun u => ?_) (fun u m hm => ?_) s List.nodup_range (List.mem_range.2 hd)
  · rw [State.meterDomain, hadd, State.rd_wr_self _ _ _ _ _ _ _ (.inl rfl)]
  · rw [State.meterDomain, hadd, State.rd_wr_of_ne _ _ _ _ _ _ _ _ _ _ _ _ (.inl rfl) (by simp [ObjRow.key, hm]),
      State.rd_wr_of_ne _ _ _ _ _ _ _ _ _ _ _ _ (.inl rfl) (by simp [ObjRow.key, Obj.VOLTAGE_MV, Obj.CURRENT_MA])]

theorem State.samples_meterDomains : (s.each (List.range 35) (State.meterDomain x)).energy.samples = s.energy.samples := by
  refine State.each_keeps (fun u => u.energy.samples) (fun u d => ?_) s _
  rw [State.meterDomain, (SameMeters.addDomain _ x d).2, State.energy_wr, State.energy_wr]

end Meters

theorem exec_energySample {s : State} (x : EnergySample) (hready : s.isHwReady 12 = true) :
    exec (.energySample x) s = .next (s.energySample x) := congrArg Host.Outcome.next (if_pos hready)

/-- What a sample records (R421). -/
theorem State.energySample_effect (s : State) (x : EnergySample) : (s.energySample x).energy.samples = s.energy.samples + 1 ∧
    ∀ d : Fin 35, (s.energySample x).rd Obj.VOLTAGE_MV 0 d = ((x.domains.getD d (0, 0)).1 : Nat) ∧
      (s.energySample x).rd Obj.CURRENT_MA 0 d = ((x.domains.getD d (0, 0)).2 : Nat) := by
  obtain ⟨u, ⟨hmeters, hsamples⟩, heq⟩ := s.energySample_eq x
  rw [heq]
  refine ⟨?_, fun d => ⟨?_, ?_⟩⟩
  · rw [← s.samples_meterDomains x, ← hsamples]
  · exact (hmeters.rd (meterKey_of_lt (by decide) d.isLt)).trans (s.voltage_meterDomains x d.isLt)
  · exact (hmeters.rd (meterKey_of_lt (by decide) d.isLt)).trans (s.current_meterDomains x d.isLt)

end Sys2Proof.Machine

/-! The energy system's obligation (R420 to R446). -/
namespace Sys2Proof.Machine

/-- What a split leaves: the stations' bases, the reserve, and with a negative spare each station at its base (R431, R432, R433). -/
theorem energySplit_effect {s : State} (hready : s.isHwReady 3 = true) (hclock : s.hwGated 0 = false) : Completes .energySplit s fun t =>
    (∀ n : Fin 8, t.rd Obj.STATION_BASE_MW 0 n = (s.stationBase n : Nat)) ∧
    t.rd Obj.HEADWORKS_RESERVE_MW = (s.withMargin s.energy.headMeans : Nat) ∧ t.rdB Obj.BUDGET_SHORT = decide (s.powerSpare < 0) ∧
    (s.powerSpare < 0 → ∀ n : Fin 8, t.rd Obj.STATION_ALLOTMENT_MW 0 n = (s.stationBase n : Nat)) := by
  obtain ⟨allotment, demand, hexec, hshort⟩ := exec_energySplit hready hclock
  have hafter := s.afterSplit allotment demand
  refine ⟨_, hexec, fun n => ?_, ?_, ?_, fun hneg n => ?_⟩
  · rw [hafter.rd (splitKey_station (by decide) n.isLt), State.station_written _ _ _ _ _ _ rfl, State.base_allot _ _ _ _ n.isLt,
      s.listedBase_of_lt n.isLt]
  · rw [hafter.rd (by unfold splitKey; decide), State.reserve_written]
  · rw [State.rdB, hafter.rd (by unfold splitKey; decide), ← State.rdB, State.short_written]
  · rw [hafter.rd (splitKey_station (by decide) n.isLt), State.station_written _ _ _ _ _ _ rfl, State.allotment_allot _ _ _ _ n.isLt,
      hshort hneg n n.isLt]

/-- Settles O27, clause by clause from what each loop of the energy system leaves. -/
theorem energyIsSampledAndSplit : Obligations.EnergyIsSampledAndSplit := by
  unfold Obligations.EnergyIsSampledAndSplit
  refine ⟨?sample, ?hot, ?cool, ?warm, ?split, ?short, ?fit, ?slow, ?shed, ?settled, ?exceeded, ?within, ?ranked, ?released, ?kept, ?saturated,
    ?budget⟩
  case sample =>
    intro s x hready
    exact ⟨_, exec_energySample x hready, s.energySample_effect x⟩
  case hot =>
    rintro s _ t0 l hready rfl hhot
    obtain ⟨hcap, hrest⟩ := s.budgetPeriod_effect t0 l _ rfl
    exact ⟨_, exec_budgetPeriod t0 l hready, hcap.trans (if_pos hhot), hrest⟩
  case cool =>
    rintro s _ t0 l hready rfl hcool
    obtain ⟨hcap, hrest⟩ := s.budgetPeriod_effect t0 l _ rfl
    exact ⟨_, exec_budgetPeriod t0 l hready, hcap.trans ((if_neg (by omega)).trans (if_pos hcool)), hrest⟩
  case warm =>
    rintro s _ t0 l hready rfl ⟨hsoft, hcool⟩
    obtain ⟨hcap, hrest⟩ := s.budgetPeriod_effect t0 l _ rfl
    exact ⟨_, exec_budgetPeriod t0 l hready, hcap.trans ((if_neg (Int.not_le.2 hsoft)).trans (if_neg (Int.not_le.2 hcool))), hrest⟩
  case split =>
    intro s hready hclock
    obtain ⟨t, hexec, hbase, hreserve, hflag, -⟩ := energySplit_effect hready hclock
    exact ⟨t, hexec, hbase, hreserve, hflag⟩
  case short =>
    intro s hready hclock hneg
    obtain ⟨t, hexec, -, -, -, hallotment⟩ := energySplit_effect hready hclock
    exact ⟨t, hexec, hallotment hneg⟩
  case fit =>
    rintro s n _ _ _ hrun rfl rfl rfl hdraw hceiling hshed
    exact ⟨_, exec_stationTick_of_fit hrun hdraw hceiling hshed, rfl⟩
  case slow =>
    rintro s n _ _ _ hrun rfl rfl rfl hdraw hfloor
    exact ⟨_, exec_stationTick_of_slow hrun hdraw hfloor, rfl⟩
  case shed =>
    rintro s n _ _ _ hrun rfl rfl rfl hdraw hfloor hceiling hsecond hshed
    exact ⟨_, exec_stationTick_of_shed hrun hdraw hfloor hceiling hsecond hshed, rfl⟩
  case settled =>
    intro s n p since hraise hsettled
    exact ⟨_, exec_shaderPointSettled hraise hsettled, rfl⟩
  case exceeded =>
    intro s input hready hover hfirst
    obtain ⟨eight, hexec⟩ := exec_weirCompare_of_first hready hover hfirst
    exact ⟨_, hexec, s.weirExceeded_effect⟩
  case within =>
    intro s input hready hunder
    exact ⟨_, exec_weirCompare_of_within hready hunder, rfl⟩
  case ranked =>
    intro s x hclamp
    obtain ⟨u, hexec⟩ := exec_weirClampRank x hclamp
    refine ⟨_, hexec, ?_⟩
    dsimp only
    rw [State.rd_wr_self _ _ _ _ _ _ _ (.inl rfl), State.energy_wr]
  case released =>
    intro s x since n l hunder hclamps hquiet hchecked hinput hfits
    exact ⟨_, exec_weirReleaseCheck hunder hclamps hquiet hchecked hinput _ rfl, if_pos hfits⟩
  case kept =>
    intro s x since n l hunder hclamps hquiet hchecked hinput hexceeds
    exact ⟨_, exec_weirReleaseCheck hunder hclamps hquiet hchecked hinput _ rfl, if_neg (not_le.2 hexceeds)⟩
  case saturated =>
    intro s since height hdue hstate
    exact ⟨_, exec_weirSaturated height hdue hstate, rfl⟩
  case budget =>
    intro s who v haccept
    exact ⟨_, exec_deviceBudgetMw haccept, rfl⟩

end Sys2Proof.Machine
